-- ==== Sys2Proof/Word.lean ====
section
/-! DEFINITION. The word types. A register is 32 bits (R4); memory is addressed in bytes. -/
namespace Sys2Proof

/-- A register's contents (R4). -/
abbrev Word := BitVec 32

/-- One byte of memory or of a message. -/
abbrev Byte := BitVec 8

end Sys2Proof
end

