-- ==== Sys2Proof/Machine/Tbl.lean ====
section
/-! DEFINITION. Sparse tables by number: lists of (key, value) pairs with strictly rising keys.
A key that is not listed reads as the default its reader gives. -/
namespace Sys2Proof.Machine

abbrev Tbl (α : Type) := List (Nat × α)

def tfind {α : Type} : Tbl α → Nat → Option α
  | [], _ => none
  | (k, v) :: r, a => if k = a then some v else tfind r a

def tget {α : Type} (d : α) (t : Tbl α) (a : Nat) : α := (tfind t a).getD d

def tset {α : Type} : Tbl α → Nat → α → Tbl α
  | [], a, v => [(a, v)]
  | (k, w) :: r, a, v =>
    if k = a then (a, v) :: r
    else if a < k then (a, v) :: (k, w) :: r
    else (k, w) :: tset r a v

def tdel {α : Type} (t : Tbl α) (a : Nat) : Tbl α := t.filter (fun e => e.1 != a)

def thas {α : Type} (t : Tbl α) (a : Nat) : Bool := (tfind t a).isSome

def tkeys {α : Type} (t : Tbl α) : List Nat := t.map (·.1)

/-- Change the entry at a key, or its default where none is listed. -/
def tmod {α : Type} (d : α) (t : Tbl α) (a : Nat) (f : α → α) : Tbl α := tset t a (f (tget d t a))

/-- Keys strictly rising. -/
def tsorted {α : Type} : Tbl α → Bool
  | [] => true
  | [_] => true
  | (k, _) :: (l, w) :: r => decide (k < l) && tsorted ((l, w) :: r)

end Sys2Proof.Machine
end

