-- ==== Sys2Proof/Machine/StLmp.lean ====
section
/-! DEFINITION. The state of LMP that no register shows (spec/12). -/
namespace Sys2Proof.Machine

/-- One driver position (R287, R290, R292). -/
structure PosSt where
  /-- The last valid temperature, in 0.25 °C; `none` before the first. -/
  temp : Option Int
  /-- Consecutive updates without a valid readback. -/
  noRb : Nat
  /-- Off by a reported fault until the PF clears it, and the last FAULT field. -/
  faultOff : Bool
  fault : Nat
  /-- At or above T_CUT at the last update. -/
  cut : Bool
  /-- d_e in 2^-16, and the latched I_SET in 0.25 mA. -/
  derate : Nat
  iSet : Nat
  deriving DecidableEq, Repr

def PosSt.init : PosSt :=
  { temp := none, noRb := 0, faultOff := false, fault := 0, cut := false, derate := 0, iSet := 0 }

/-- An update of a chain from its start to its latch (R282, R285): the drive words by position, and what the latch
puts in force: f and q by group × 8 + primary, γ by group, and the trims by primary. -/
structure UpdSt where
  start : Nat
  seq : Nat
  words : List Nat
  light : Tbl Nat
  duty : Tbl Nat
  gamma : Tbl Nat
  trims : Tbl Nat
  /-- The update has ended with its marker seen; it waits for its latch. -/
  ok : Bool
  ended : Bool
  deriving DecidableEq, Repr

structure ChainSt where
  /-- Consecutive updates whose marker check passed. -/
  good : Nat
  upd : Option UpdSt
  deriving DecidableEq, Repr

def ChainSt.init : ChainSt := { good := 0, upd := none }

/-- A gate line that is high: its start, its slot's N, and the output and slot. -/
structure GateSt where
  start : Nat
  n : Nat
  output : Nat
  slot : Nat
  deriving DecidableEq, Repr

/-- A patch that the emitters show in a colour session (R405): its group, its primaries and LEVEL. -/
structure PatchSt where
  group : Nat
  prims : List Nat
  level : Nat
  deriving DecidableEq, Repr

/-- Sums over a patch of one position: latched currents, temperatures and how many (R407). -/
structure PatchSum where
  current : Nat
  temp : Int
  count : Nat
  deriving DecidableEq, Repr

structure LmpSt where
  /-- Lamp records in force and shadow, by position; an unlisted record is absent (R289). -/
  lamp : Tbl (List Byte)
  lampShadow : Tbl (List Byte)
  /-- Used positions whose invalid record an event has named. -/
  lampBad : List Nat
  pos : Tbl PosSt
  chains : Tbl ChainSt
  /-- The current step of each output (R285). -/
  steps : Tbl Nat
  /-- q by group × 8 + primary and γ by group, as latched (R291, R303). -/
  duty : Tbl Nat
  gamma : Tbl Nat
  /-- Gate lines that are high. -/
  gates : Tbl GateSt
  /-- The LFN whose token has arrived, whether the watchdog is fed, and valid boundaries in a row (R297). -/
  token : Option Nat
  fed : Bool
  validRun : Nat
  /-- When each of the two timers lets the enable expire. -/
  expiry0 : Nat
  expiry1 : Nat
  /-- The interlock's stop, and since when INTERLOCK_N is high (R298). -/
  ilStop : Bool
  ilHigh : Nat
  /-- The DPLL or the gate timing clock has stopped (R23). -/
  clockStopped : Bool
  /-- When the heartbeats restarted after a stop (R299). -/
  restartAt : Option Nat
  /-- Measured package power of the last ticks, newest first, in 0.1 W (R301). -/
  power : List Nat
  /-- Classes, and rails as 0x100 + r, that are granted less than their demand. -/
  short : List Nat
  /-- Consecutive ticks that meet R393's clearing condition. -/
  powerOk : Nat
  patch : Option PatchSt
  patchSums : Tbl PatchSum
  deriving DecidableEq, Repr

def LmpSt.reset : LmpSt :=
  { lamp := [], lampShadow := [], lampBad := [], pos := [], chains := [], steps := [], duty := [], gamma := [],
    gates := [], token := none, fed := true, validRun := 0, expiry0 := 0, expiry1 := 0, ilStop := false, ilHigh := 0,
    clockStopped := false, restartAt := none, power := [], short := [], powerOk := 0, patch := none, patchSums := [] }

end Sys2Proof.Machine
end

