-- ==== Sys2Proof/Machine/StCal.lean ====
section
/-! DEFINITION. The state of CAL that no register shows (spec/17). -/
namespace Sys2Proof.Machine

/-- An entry of the field repair map (R413): kind 1 array or spare lane, 2 Laxus lane, 3 fabric tile, 4 plane store
row, 5 HBM3E data lane; `life` counts its signs of life (R418). -/
structure FenceEntry where
  kind : Nat
  unit_ : Nat
  detail : Nat
  life : Nat
  deriving DecidableEq, Repr

/-- A unit that a test names: KIND, UNIT and DETAIL as in the field map (R413). -/
structure UnitId where
  kind : Nat
  unit_ : Nat
  detail : Nat
  deriving DecidableEq, Repr

/-- A running calibration session (R399): its start and arguments. `step`, `due`, `lane`, `old`, `widths` and `lfn` are
the lane eye's (R402), `slot` and `readings` the colour session's (R405, R406), `windows` the HBM3E margin's (R409). -/
structure SessSt where
  start : Nat
  args : List Nat
  /-- 0 waits for the borrow, 1 works, 2 waits for the return, 3 waits for the eye figure, 4 has it. -/
  step : Nat
  due : Nat
  lane : Nat
  /-- The lane's offsets before the session: pre-cursor, post-cursor, CTLE. -/
  old : List Int
  /-- The widths of the candidates measured so far. -/
  widths : List Nat
  /-- The LFN at whose boundary a spare calibrated in place returns. -/
  lfn : Nat
  /-- The patch index of the next slot, and the host's readings X, Y, Z by patch index. -/
  slot : Nat
  readings : Tbl (Nat × Nat × Nat)
  windows : Nat
  deriving DecidableEq, Repr

/-- The reference samples that set TARGET after a colour session (R407): the primaries, the LFN of the first of the 8
LFs once the restore has applied, and sum and count by primary. -/
structure TargetSt where
  prims : List Nat
  first : Option Nat
  sums : Tbl (Nat × Nat)
  deriving DecidableEq, Repr

/-- A store write that runs: the copy (0 A, 1 B), its bytes, and whether the retry is under way (R412). -/
structure StoreWrite where
  copy : Nat
  bytes : List Byte
  retry : Bool
  deriving DecidableEq, Repr

/-- A shadow check (R415, R416): the logical tile, the physical shadow and third tile, the LFs left, whether a
confirmation runs, and whether the working tile has been declared dead. -/
structure ShadowSt where
  logical : Nat
  shadow : Nat
  third : Nat
  left : Nat
  confirming : Bool
  dead : Bool
  deriving DecidableEq, Repr

structure CalSt where
  /-- The calibration store has been read since the boot instant (R411). -/
  read : Bool
  field : List FenceEntry
  /-- A store write has been asked for and has not started (R412). -/
  saveDue : Bool
  /-- CTLE base offsets of lanes, in dB (Table CAL-4, LANE_EQ). -/
  ctleOff : Tbl Int
  /-- The primaries of the pattern that every pass forms while a colour session runs (R405). -/
  pattern : Option Nat
  /-- The patch whose passes have been asked for and have not all applied, and a restore that has not (R405). -/
  patchNext : Option PatchSt
  restoring : Bool
  sess : Tbl SessSt
  /-- Measured chromaticity x, y by group × 8 + primary, in 2^-16 (Table CAL-4). -/
  xy : Tbl (Nat × Nat)
  /-- Results held per item: ppm by channel, ΔE by patch index, margins by pseudo-channel. -/
  ppm : Tbl Int
  deltaE : Tbl Nat
  margins : Tbl (List Nat)
  target : Option TargetSt
  /-- The two copies of the store as the flash holds them. -/
  copyA : List Byte
  copyB : List Byte
  write : Option StoreWrite
  /-- Trims of lane reference clock 0 and of the always-on oscillator, in ppb (R408). -/
  trimRef : Int
  trimOsc : Int
  shadows : List ShadowSt
  /-- The event of R415 has been raised for the present want of spares. -/
  starved : Bool
  /-- A rotation of the shadows has begun: coming to the first tile again completes it (Table CAL-13). -/
  rotating : Bool
  /-- Units that the repair pass readmits at the next boundary (R419). -/
  readmit : List FenceEntry
  deriving DecidableEq, Repr

def CalSt.reset : CalSt :=
  { read := false, field := [], saveDue := false, ctleOff := [], pattern := none, patchNext := none, restoring := false,
    sess := [], xy := [], ppm := [], deltaE := [], margins := [], target := none, copyA := [], copyB := [], write := none,
    trimRef := 0, trimOsc := 0, shadows := [], starved := false, rotating := false, readmit := [] }

end Sys2Proof.Machine
end

