-- ==== Sys2Proof/Machine/StCore.lean ====
section
/-! DEFINITION. The state of GLB, TIM, CFG and INT that no register shows, the event entry (Table INT-2), and
the messages that leave the device. -/
namespace Sys2Proof.Machine

/-- An event entry (Table INT-2, R426). `cls` is 0 information, 1 warning, 2 error. -/
structure Event where
  code : Nat
  cls : Nat
  lfn : Nat
  phase : Nat
  systime : Nat
  ctx : Nat
  arg0 : Nat
  arg1 : Nat
  arg2 : Nat
  overflow : Bool
  forwarded : Bool
  deriving DecidableEq, Repr

/-- An event that INT holds for a queue: a context number, or `devQ` for the PF device queue (R429). -/
structure HeldEvent where
  queue : Nat
  time : Nat
  ev : Event
  deriving DecidableEq, Repr

/-- The device queue's number among the queues. -/
abbrev devQ : Nat := 0xFFFF

/-- What leaves the device at its balls, buses and links, in the order it leaves. -/
inductive OutMsg where
  /-- A posted write to host memory by a function: bus address and bytes; a write through a HOST mapping carries the PASID
  where the function has one (R86, R88, R100). -/
  | hostWrite (fn : Nat) (pasid : Option Nat) (addr : Nat) (bytes : List Byte)
  /-- A read of host memory by a function: bus address and length (R86, R88). -/
  | hostRead (fn : Nat) (pasid : Option Nat) (addr len : Nat)
  /-- An MSI-X vector of a function is signalled (Table HIF-7). -/
  | msix (fn vector : Nat)
  /-- The completion of a host read: true for success with its bytes, false for Unsupported Request (R87). -/
  | readReply (fn : Nat) (ok : Bool) (bytes : List Byte)
  /-- A command on an array link: port, lane of the port, opcode of Table APT-3, and its words (Table APT-4). -/
  | arrayCmd (port lane opcode : Nat) (words : List Nat)
  /-- Plane data words on an array link: port, lane of the port and 64-bit words. -/
  | arrayData (port lane : Nat) (words : List Nat)
  /-- A frame on CHAIN_LATCH of a chain: frame code of Table LMP-3 and its argument. -/
  | chainFrame (chain code arg : Nat)
  /-- Drive words shifted on a chain. -/
  | chainWords (chain : Nat) (words : List Nat)
  /-- A gate line changes level. -/
  | gate (line : Nat) (high : Bool)
  /-- A lane slot is sent: lane, kind (0 data, 1 whitened, 2 training, 3 status, 4 resend, 5 PRBS), words. -/
  | laneSlot (lane kind : Nat) (words : List Nat)
  /-- A Laxus message: port, type of Table LXS-2 and its words. -/
  | laxus (port type : Nat) (words : List Nat)
  /-- A reply of the metering die on its service port: the operation it echoes, STATUS and the bytes after it (Table
  MTR-4). -/
  | service (op status : Nat) (bytes : List Byte)
  /-- A scan engine's output in a pixel or burst: for each DAC its code and its gate pulse, by start from now and
  length in gate steps (R263, R264). An empty list is dark. -/
  | scanOut (engine : Nat) (drive : List (Nat × Nat × Nat))
  /-- A scan engine's reference burst, with the instant at which its gate pulses start (R270). -/
  | scanBurst (engine from_ : Nat) (drive : List (Nat × Nat × Nat))
  deriving DecidableEq, Repr

/-- GLB: the boot and reset inputs (R435 to R438), the pair latches (R9, R59) and the snapshot (R57). -/
structure GlbSt where
  /-- PWR_OK as the device last saw it. -/
  pwrOk : Bool
  /-- PWR_OK or RESET_N is low: from the edge that counts to the boot instant (R437). -/
  inReset : Bool
  /-- Every main-die block but THM protection is held in reset (R437). -/
  held : Bool
  /-- The hardware class of a reset runs (R437). -/
  hwClass : Bool
  /-- Which reset runs or was last: 1 power-on, 2 RESET_N (Table GLB-14), and the edge that began it. -/
  resetKind : Nat
  resetTime : Nat
  bootTime : Nat
  bootSel : Bool
  /-- Boot has started and start-up is not complete. -/
  booting : Bool
  /-- Start-up complete was reported (R441). -/
  started : Bool
  /-- The values of a valid boot timing block until the first boundary, in the order of Table GLB-8, and the instant at
  which they applied (R439, R440). -/
  bootTiming : List Nat
  /-- R440 or safe idle has put TIM on FREE, and PRIMARY has not come back since (log 91). -/
  fellBack : Bool
  timingAt : Option Nat
  /-- The latched upper half of each 64-bit pair, by the key of the lower register (R9). -/
  latchHi : Tbl Word
  /-- GLB_SYSTIME_LO has been read since the boot instant (R59). -/
  sysRead : Bool
  sysHi : Nat
  sysLfn : Nat
  sysPhase : Nat
  snapTarget : Nat
  snapNext : Bool
  snapTime : Nat
  snapWords : List Nat
  deriving DecidableEq, Repr

def GlbSt.reset : GlbSt :=
  { pwrOk := false, inReset := true, held := true, hwClass := false, resetKind := 1, resetTime := 0, bootTime := 0,
    bootSel := false, booting := false, started := false, bootTiming := [], fellBack := false, timingAt := none, latchHi := [],
    sysRead := false, sysHi := 0, sysLfn := 0, sysPhase := 0, snapTarget := 0, snapNext := false,
    snapTime := 0, snapWords := [] }

/-- A reference input of Table TIM-2 (R38). -/
structure RefSt where
  valid : Bool
  /-- The last edge counted, if any. -/
  last : Option Nat
  /-- The last edge that came, counted or ignored as an outlier. -/
  seen : Option Nat
  /-- The rate last accepted, as a period in 250 ps steps. -/
  period : Nat
  /-- The period that TIM tracks: the last one counted, in 250 ps steps; for LAXUS the root's LF with 16 fraction bits. -/
  meas : Nat
  /-- The periods counted in the last 1 s: when each ended, its length, and how many periods it held (R39). -/
  recent : List (Nat × Nat × Nat)
  /-- The last edge that starts a group of MUL LFs, and how many edges have been counted since (R37). -/
  align : Nat
  since : Nat
  outOfRange : Nat
  outliers : Nat
  validSince : Nat
  deriving DecidableEq, Repr

def RefSt.init : RefSt :=
  { valid := false, last := none, seen := none, period := 0, meas := 0, recent := [], align := 0, since := 0,
    outOfRange := 0, outliers := 0, validSince := 0 }

/-- One camera frame of captured edges: where it opened, modulo the camera frame, its length, and whether its open edge and
its close edge were flagged (R48). -/
structure CamFrame where
  open_ : Nat
  len : Nat
  openBad : Bool
  closeBad : Bool
  deriving DecidableEq, Repr

/-- A camera's captured window (R48 to R51). -/
structure CamSt where
  /-- The last 8 camera frames, newest first. -/
  hist : List CamFrame
  /-- The open edge of the running camera frame, as a phase and its LFN, and whether it was flagged. -/
  openEdge : Option (Nat × Nat)
  openFlagged : Bool
  /-- The instants of the last open edge and of the last close edge. -/
  lastOpen : Nat
  lastClose : Nat
  /-- The mean open and length behind the published window, in 1/840 FPU (R49); nothing is published while `pub` is
  false. -/
  pub : Bool
  pubOpen : Nat
  pubLen : Nat
  /-- A change of the published window waits for the next boundary. -/
  changePending : Bool
  unflagged : Nat
  /-- A light cut of R51 is in force: 0 none, 1 early open, 2 late close; and when it ends. -/
  cut : Nat
  cutEnd : Nat
  deriving DecidableEq, Repr

def CamSt.init : CamSt :=
  { hist := [], openEdge := none, openFlagged := false, lastOpen := 0, lastClose := 0, pub := false, pubOpen := 0,
    pubLen := 0, changePending := false, unflagged := 0, cut := 0, cutEnd := 0 }

/-- TIM: the phase counter, the DPLL, the references, system time and the cameras. -/
structure TimSt where
  lfn : Nat
  /-- Before the first boundary after the boot instant (R34). -/
  bootLf : Bool
  /-- The instant of the last boundary in steps with 16 fraction bits (R35). -/
  lfStart16 : Nat
  /-- P of the current LF in steps with 16 fraction bits (R35). -/
  p16 : Nat
  /-- The current LF is a dark realignment LF or a dark LF of ACQUIRE (R36, R40). -/
  darkLf : Bool
  /-- A realignment of the phase waits for the next boundary (R40). -/
  realign : Bool
  /-- The reference to switch to at the next boundary (R39, R42). -/
  switchTo : Option Nat
  /-- LOCKED or FREE has been reached since the boot instant (R43). -/
  everLocked : Bool
  /-- ACQUIRE was entered and neither LOCKED nor FREE has followed: every LF is dark (R42, R43). -/
  acquiring : Bool
  /-- Edges of the active reference in a row, up to 8, at which the phase error was below 4 ns (Table TIM-3). -/
  lockEdges : Nat
  refs : Tbl RefSt
  holdStart : Nat
  holdP16 : Nat
  /-- The word of TIM_REF_CTRL in force; a write takes effect at the next boundary (R42). -/
  refCtrl : Nat
  /-- Which free value enters P of the next LF. -/
  pKey : Nat
  /-- P that the estimate gives the next LF, which the BEAT sent before it states (R252), and the reference and nominal period
  for which it stands. -/
  planP16 : Nat
  planFor : Nat × Nat
  /-- System time at `sysT0` (R52). -/
  sysBase : Nat
  sysT0 : Nat
  cams : Tbl CamSt
  /-- LFs since the CF of each output started (R44). -/
  cfLen : Tbl Nat
  deriving DecidableEq, Repr

def TimSt.reset : TimSt :=
  { lfn := 0xFFFFFFFF, bootLf := true, lfStart16 := 0, p16 := 27777778 * 65536, darkLf := true, realign := false,
    switchTo := none, everLocked := false, acquiring := true, lockEdges := 0, refs := [], holdStart := 0,
    holdP16 := 27777778 * 65536, refCtrl := 0x00010000, pKey := 0, planP16 := 27777778 * 65536, planFor := (0, 0), sysBase := 0, sysT0 := 0, cams := [], cfLen := [] }

/-- A region of the flash directory (Table CFG-16). -/
structure FlashRegion where
  off : Nat
  len : Nat
  deriving DecidableEq, Repr

/-- CFG: the fuses, the running image's sections and the pending reload. -/
structure CfgSt where
  /-- The sections of the running image, by type × 2^16 + instance (Table CFG-1). -/
  secs : Tbl (List Byte)
  /-- The order of the running image's non-sequence hash, TOPO_HASH (R63). -/
  topo : List Byte
  secver : Nat
  imageRunning : Bool
  safeIdle : Bool
  /-- The section data of an image has been read since the boot instant (R411). -/
  dataRead : Bool
  /-- An authenticated image whose resource checks wait for self-test (R71). -/
  waiting : List Byte
  /-- The flash directory was valid at the boot instant (R67). -/
  dirValid : Bool
  /-- Region lengths by entry TYPE 1 to 5. -/
  regions : Tbl FlashRegion
  /-- The load in progress: 0 none, 1 boot slot A, 2 boot slot B, 3 host full, 4 flash reload, 5 host reload. -/
  load : Nat
  /-- Sections of the authenticated reload that waits (R76). -/
  reload : Tbl (List Byte)
  reloadReady : Bool
  /-- Outputs whose recompile for the reload is still to be accepted. -/
  reloadCompiles : List Nat
  /-- The one-time-programmable fuses (R66). -/
  keyHash : Tbl Nat
  keyValid : Nat
  keyRevoked : Nat
  secFloor : Nat
  otpLocked : Bool
  deriving DecidableEq, Repr

/-- One compared rectangle (R420 to R425). -/
structure RectSt where
  /-- CTRL, XY and WH as the running pass latched them (R423). -/
  ctrl : Nat
  xy : Nat
  wh : Nat
  /-- The CRC of the pass in progress or waiting to apply. -/
  next : Option Nat
  hasResult : Bool
  armed : Bool
  armTime : Nat
  expect : Nat
  expCfn : Nat
  deriving DecidableEq, Repr

def RectSt.init : RectSt :=
  { ctrl := 0, xy := 0, wh := 0, next := none, hasResult := false, armed := false, armTime := 0,
    expect := 0, expCfn := 0 }

/-- INT: the events held, the error log, the counts by code and the rectangles. -/
structure IntSt where
  held : List HeldEvent
  /-- MSI-X vectors whose message waits, as function × 8 + vector: their pending bits (R102, Table HIF-2). -/
  pendVec : List Nat
  /-- The error log by ring index (R432). -/
  log : Tbl Event
  logTotal : Nat
  codeCount : Tbl Nat
  codeCtrl : Tbl Nat
  /-- Events passed in this LF, by queue × 2^16 + code (R430). -/
  rateUsed : Tbl Nat
  /-- Events suppressed in this LF, by queue × 2^16 + code. -/
  suppressed : Tbl Nat
  /-- Rectangles by output × 32 + r, writeback rectangles by output × 32 + 16 + r. -/
  rects : Tbl RectSt
  deriving DecidableEq, Repr

def IntSt.reset : IntSt :=
  { held := [], pendVec := [], log := [], logTotal := 0, codeCount := [], codeCtrl := [], rateUsed := [], suppressed := [],
    rects := [] }

end Sys2Proof.Machine
end

