-- ==== Sys2Proof/Machine/StForm.lean ====
section
/-! DEFINITION. The state of CMP, COL and PLN that no register shows (spec/06, spec/07, spec/08). -/
namespace Sys2Proof.Machine

/-- Why a forming pass runs (R94, R105, R136, R164, R185, R200, R210, R390, R405, R228). -/
inductive PassKind where
  | commit | live | update | repair | drift | reset | exit | rewrite | restart | patch
  deriving DecidableEq, Repr

/-- A forming pass of one output, queued or running (R94). -/
structure Pass where
  kind : PassKind
  /-- The commits it includes: contexts, or 1024 for the PF's. -/
  commits : List Nat
  running : Bool
  complete : Bool
  /-- Formed with the throttle book (R200). -/
  throttle : Bool
  /-- Layers that were off in some line while it formed (R164). -/
  missing : List Nat
  /-- Layers that are transparent in it: their contexts were being reset when it started (R105). -/
  skip : List Nat
  /-- Layers that went off while it formed, with the lines of a band from which they are missing (R163). -/
  gone : Tbl Nat
  /-- The lead planes that it has written, by output (R207). -/
  leads : Tbl (List Nat)
  /-- It runs on although the commit that it was formed for has failed: nothing of it applies (R94). -/
  voided : Bool
  started : Nat
  deriving DecidableEq, Repr

/-- A layer that is off on an output (R163): the line of its band from which it contributes nothing. -/
structure OffSt where
  line : Nat
  cause : Nat
  remote : Bool
  deriving DecidableEq, Repr

/-- A drop notice that waits for the first CF start from an instant on (R165). -/
structure DropSt where
  tag : Nat
  group : Nat
  cause : Nat
  remote : Bool
  due : Nat
  /-- Outputs whose matching layers have gone off by it. -/
  done : List Nat
  /-- Layers off as it arrived, as layer × 32 + output: it has no further effect on them (Table CMP-7). -/
  offAt : List Nat
  /-- It has matched a layer, and was counted. -/
  counted : Bool
  deriving DecidableEq, Repr

/-- Content that a table fetch engine loads (R154, R174, R179, R181, R196, R198). -/
inductive TableKind where
  | mesh | lut | dec | grid | book | mask
  deriving DecidableEq, Repr

/-- A load that a PF commit asks for; `failed` once its first failure was reported, `waits` until the boundary at
which it is tried again. -/
structure LoadSt where
  kind : TableKind
  index : Nat
  loaded : Bool
  failed : Bool
  waits : Bool
  /-- Its read was lost once, and has been retried at once (R115). -/
  retried : Bool
  /-- A build, and not a load, of a book slot (R195). -/
  build : Bool
  deriving DecidableEq, Repr

/-- A writeback frame whose pass has formed it (R159). -/
structure WbSt where
  output : Nat
  incomplete : Bool
  /-- The writeback engines that write it: that of each slice's band (R159). -/
  engines : List Nat
  /-- Its pass has applied. -/
  applied : Bool
  /-- The frame's CFN and LFN tag is known once its pass applies. -/
  cfn : Nat
  lfn : Nat
  deriving DecidableEq, Repr

structure CmpSt where
  /-- Passes by output, oldest first; the first may run. -/
  passes : Tbl (List Pass)
  /-- Layers off, by layer × 32 + output. -/
  offs : Tbl OffSt
  drops : List DropSt
  /-- LIVE as it stands since the last boundary (R136). -/
  live : List Nat
  /-- Meshes in force by output, and the back copies (R154). -/
  mesh : Tbl (List Byte)
  meshBack : Tbl (List Byte)
  /-- Filter taps by direction × 4096 + bank × 512 + phase × 8 + tap where they differ from R149's defaults:
  the shadow and the values in force. -/
  coefShadow : Tbl Nat
  coefAct : Tbl Nat
  /-- Banks written since the last PF commit, as direction × 8 + bank. -/
  coefDirty : List Nat
  /-- Loads that wait with the PF's commit. -/
  loads : List LoadSt
  /-- Writeback frames that run. -/
  wb : List WbSt
  /-- Layers that the picture in force was formed without, in whole or in part, by output (R164). -/
  lost : Tbl (List Nat)
  deriving DecidableEq, Repr

def CmpSt.reset : CmpSt :=
  { passes := [], offs := [], drops := [], live := [], mesh := [], meshBack := [], coefShadow := [],
    coefAct := [], coefDirty := [], loads := [], wb := [], lost := [] }

structure ColSt where
  /-- LUT slots and decomposition slots, front and back (R174, R179). -/
  lut : Tbl (List Byte)
  lutBack : Tbl (List Byte)
  dec : Tbl (List Byte)
  decBack : Tbl (List Byte)
  /-- Uniformity grids by output (R181). -/
  grid : Tbl (List Byte)
  gridBack : Tbl (List Byte)
  /-- S by output × 8 + view: nine entries, 20 fraction bits, row by primary (R177, R178). -/
  solve : Tbl (List Int)
  /-- The estimates behind the S in force, by (output × 8 + view) × 8 + primary (R185). -/
  solveXy : Tbl (Rat × Rat)
  /-- Chromaticity estimates x and y by group × 8 + primary (R184). -/
  est : Tbl (Rat × Rat)
  /-- Calibrated luminance shares by group × 8 + primary, 0.01 cd/m² (R177, R407), and those groups' light
  factors f[g,p] in units of 2^-16 as the latches apply them (R291). -/
  lum : Tbl Nat
  light : Tbl Nat
  /-- The light factors as they stood at the latest boundary, with which S is computed (R183). -/
  lightLf : Tbl Nat
  /-- Table-mode outputs whose loaded table's drift event was raised (R185). -/
  driftRaised : List Nat
  /-- The loop is FROZEN until this instant (R189). -/
  frozenUntil : Nat
  /-- The trim that travels in the chain words of each primary; it takes effect at the next latch (R188). -/
  trimLatched : Tbl Nat
  /-- Primaries whose trim returns to 0 at the next latch (R189). -/
  trimZero : List Nat
  deriving DecidableEq, Repr

def ColSt.reset : ColSt :=
  { lut := [], lutBack := [], dec := [], decBack := [], grid := [], gridBack := [], solve := [], solveXy := [],
    est := [], lum := [], light := [], lightLf := [], driftRaised := [], frozenUntil := 0, trimLatched := [], trimZero := [] }

/-- A row of a plane store bank (R211). -/
structure RowSt where
  /-- The instants of the latest corrected errors, newest first. -/
  ceTimes : List Nat
  /-- Double-bit errors seen. -/
  ue : Nat
  dead : Bool
  /-- Its content has been copied to a spare row, which replaces it at the next boundary. -/
  copied : Bool
  /-- A spare has replaced it; the errors above are the spare's. -/
  fenced : Bool
  deriving DecidableEq, Repr

def RowSt.init : RowSt := { ceTimes := [], ue := 0, dead := false, copied := false, fenced := false }

/-- An error that a read of the store finds (R210, R211): double-bit or not, its bank, row of the bank and line of the
bank, and the 64-bit word's place in the plane: row, and column in words. -/
structure StoreErr where
  double : Bool
  bank : Nat
  bankRow : Nat
  line : Nat
  row : Nat
  col : Nat
  deriving DecidableEq, Repr

structure PlnSt where
  /-- Main and throttle books by slot, front and back (R194). -/
  book : Tbl (List Nat)
  bookBack : Tbl (List Nat)
  throttle : Tbl (List Nat)
  throttleBack : Tbl (List Nat)
  /-- The book in a slot was built, not loaded. -/
  built : List Nat
  mask : List Nat
  maskBack : List Nat
  /-- Plane words that are not 0, by output: the copy in force and the copy the writer owns, each by
  ((set × 32 + plane) × 8192 + row) × 32 + word (R201, R202). -/
  front : Tbl (Tbl Nat)
  back : Tbl (Tbl Nat)
  /-- The region table: by output, where each plane's regions begin in its allocation, in bytes, by set × 32 + plane; of the
  content in force, and of the copy or the lead planes that the writer owns (R202, R206, R207). -/
  place : Tbl (Tbl Nat)
  placeBack : Tbl (Tbl Nat)
  /-- Lead planes of the content in force, by output (R207). -/
  leadNow : Tbl (List Nat)
  /-- Blocks that a running tail has completed, by output × 1024 + set × 32 + plane, as the latest load deadline found them
  (R209). -/
  tailBlocks : Tbl Nat
  /-- Regions of the writer's copy that are not complete, by output (R206, R207). -/
  tailRunning : List Nat
  /-- The pass whose tail runs or waits, by output. -/
  tailPass : Tbl Pass
  /-- Rows with errors, by bank × 2^20 + line (R211). -/
  rows : Tbl RowSt
  /-- Every allocated line has been written with zeros (R204). -/
  zeroed : Bool
  deriving DecidableEq, Repr

def PlnSt.reset : PlnSt :=
  { book := [], bookBack := [], throttle := [], throttleBack := [], built := [], mask := [], maskBack := [],
    front := [], back := [], place := [], placeBack := [], leadNow := [], tailBlocks := [], tailRunning := [], tailPass := [], rows := [], zeroed := false }

end Sys2Proof.Machine
end

