-- ==== Sys2Proof/Machine/StHif.lean ====
section
/-! DEFINITION. The state of HIF and MEM that no register shows (spec/04, spec/05). -/
namespace Sys2Proof.Machine

/-- The four kinds of mapping (R85). -/
inductive MapKind where
  | loc | grant | host | remote
  deriving DecidableEq, Repr

/-- The mapping of one 64 KiB virtual page: its kind, its target (a DPA page, a host page or a global surface
page), its permissions and, for GRANT, the grant's handle (R85). -/
structure Mapping where
  kind : MapKind
  target : Nat
  read : Bool
  write : Bool
  handle : Nat
  deriving DecidableEq, Repr

/-- A grant: its owner, its grantee, and the DPA pages in order (R83, Table HIF-5). -/
structure Grant where
  owner : Nat
  grantee : Nat
  va : Nat
  pages : List Nat
  deriving DecidableEq, Repr

/-- A command ring entry (Table HIF-4); `reserved` says whether every reserved bit is 0. Addresses are in bytes. -/
structure RingEntry where
  flags : Nat
  count : Nat
  va : Nat
  target : Nat
  grantee : Nat
  cookie : Nat
  reserved : Bool
  deriving DecidableEq, Repr

/-- An entry whose effect waits for a boundary, or a FENCE that waits for the entries before it (R88, R89).
`due` is the earliest instant of that boundary. -/
structure Deferred where
  ctx : Nat
  opcode : Nat
  index : Nat
  entry : RingEntry
  due : Nat
  deriving DecidableEq, Repr

/-- A commit request: of a context, or of the PF as number `pfCommit` (R93 to R98). -/
structure CommitSt where
  admitted : Bool
  /-- The commit is decided for the next boundary (R30). -/
  decided : Bool
  /-- The LFN in which the request was made (R97). -/
  since : Nat
  target : Option Nat
  /-- The outputs it changes, fixed at admission. -/
  outputs : List Nat
  deriving DecidableEq, Repr

/-- An event queue's modulation of its vector (R102). -/
structure QueueSt where
  unsignalled : Nat
  firstTime : Nat
  /-- An event was dropped: the next entry carries the overflow flag (R100). -/
  overflow : Bool
  head : Nat
  deriving DecidableEq, Repr

def QueueSt.init : QueueSt := { unsignalled := 0, firstTime := 0, overflow := false, head := 0 }

/-- Who waits for the data of a host request: a fetch engine's transaction, or a command ring (R103). -/
inductive TagUser where
  | fetch (engine index : Nat)
  | ring (ctx : Nat)
  deriving DecidableEq, Repr

/-- A tag of a non-posted host request that is outstanding: its function, whether its generation has passed, and when it was
issued (R80, R103). -/
structure HostTag where
  fn : Nat
  old : Bool
  time : Nat
  user : TagUser
  deriving DecidableEq, Repr

structure HifSt where
  /-- Mappings by context × 2^28 + virtual page. -/
  maps : Tbl Mapping
  /-- Owner of each page of local memory: 0 scrubbed and free, c + 1 owned by context c; a page that is not
  listed waits to be scrubbed (R83, R84). -/
  pages : Tbl Nat
  grants : Tbl Grant
  nextHandle : Nat
  deferred : List Deferred
  /-- Physical layer in a window slot, by context × 64 + slot (R90). -/
  slots : Tbl Nat
  /-- The tail of each context's command ring, as its doorbell last gave it. -/
  cmdTail : Tbl Nat
  commits : Tbl CommitSt
  queues : Tbl QueueSt
  /-- Tags of host requests, oldest first (R80, R103). -/
  tags : List HostTag
  /-- The context whose ring was served last (R88). -/
  ringTurn : Nat
  /-- Words of the MSI-X tables that software has written, by function × 32 + word; the fourth of each vector's four words is
  its vector control, and 1 where it is not listed: masked (R80, Table HIF-2; log 121). -/
  msix : Tbl Nat
  /-- Contexts whose reset is under way (R105). -/
  resetting : List Nat
  /-- HOST mappings go at the next boundary: 1 those of the VFs' contexts, 2 all (R105, R106). -/
  hostMapsGo : Nat
  /-- PERST_N is low. -/
  perst : Bool
  /-- AON in force by group (R96). -/
  aonAct : Tbl Bool
  /-- GROUP in force by context (R96). -/
  groupAct : Tbl Nat
  /-- Layer-pixels demanded in the open 10 us window and in the LF, by context (R92). -/
  winStart : Nat
  winDemand : Tbl Nat
  lfDemand : Tbl Nat
  /-- Contexts whose demand passed their reservation in the window that closed last (R92, R162). -/
  overPrev : List Nat
  deriving DecidableEq, Repr

def HifSt.reset : HifSt :=
  { maps := [], pages := [], grants := [], nextHandle := 1, deferred := [], slots := [], cmdTail := [],
    commits := [], queues := [], tags := [], ringTurn := 1023, msix := [], resetting := [], hostMapsGo := 0, perst := false,
    aonAct := [], groupAct := [], winStart := 0, winDemand := [], lfDemand := [], overPrev := [] }

/-- A memory transaction that holds a tag (R109 to R112). `hostFn` is the function of a host request. -/
structure MemReq where
  engine : Nat
  index : Nat
  gen : Bool
  /-- The context and the virtual address it serves. -/
  ctx : Nat
  va : Nat
  addr : Nat
  len : Nat
  write : Bool
  realTime : Bool
  /-- A best-effort request has none (R112). -/
  deadline : Option Nat
  /-- Its passed deadline has been counted (R115). -/
  missed : Bool
  /-- Writes that it waits for, by 64-byte block: how many of the block's queued writes come before it (R118). -/
  waits : Tbl Nat
  time : Nat
  pc : Nat
  issued : Bool
  /-- Times the transaction was reissued after a parity error (R123). -/
  reissues : Nat
  hostFn : Option Nat
  deriving DecidableEq, Repr

/-- A 64-byte write in a controller's queue, or stalled before it: its block, the transaction it belongs to, its class and its
deadline (R113, R118, R119). -/
structure WriteBlk where
  block : Nat
  engine : Nat
  index : Nat
  realTime : Bool
  deadline : Option Nat
  time : Nat
  deriving DecidableEq, Repr

/-- An engine's buffer: the bytes it held at an instant, and the rate at which its consumer drains it, in bytes per
microsecond (R112). -/
structure EngBuf where
  fill : Nat
  rate : Nat
  since : Nat
  deriving DecidableEq, Repr

def EngBuf.init : EngBuf := { fill := 0, rate := 0, since := 0 }

/-- One pseudo-channel (R113, R120 to R123). -/
structure PcSt where
  owed : Nat
  lastRetrain : Nat
  lastWindow : Nat
  overdueRaised : Bool
  /-- Best-effort transfers among the last 64, newest first (Table MEM-2). -/
  recent : List Bool
  /-- Data lanes marked for remapping in the next window (R123). -/
  remap : List Nat
  /-- The instants of the latest parity errors by data lane, newest first (R123). -/
  laneErrs : Tbl (List Nat)
  degraded : Bool
  sparesUsed : Nat
  /-- When a refresh fell due last (R120, Table MEM-5). -/
  lastDue : Nat
  /-- Banks that the open round of per-bank refreshes has covered, and rounds that stand in for all-bank refreshes to come
  (R120). -/
  bankRound : Nat
  rounds : Nat
  /-- Row activations in a window of 1 us, by the window's number (R131). -/
  actWindow : Nat
  actCount : Nat
  deriving DecidableEq, Repr

def PcSt.init : PcSt :=
  { owed := 0, lastRetrain := 0, lastWindow := 0, overdueRaised := false, recent := [], remap := [],
    laneErrs := [], degraded := false, sparesUsed := 0, lastDue := 0, bankRound := 0, rounds := 0, actWindow := 0,
    actCount := 0 }

structure MemSt where
  /-- HBM3E contents by device physical address; a byte not listed reads 0 (log 10). -/
  dram : List Host.Cell
  reqs : List MemReq
  /-- Writes in the write queues, oldest first, and writes that stall before a full one (R118, R119). -/
  writeQ : List WriteBlk
  stalled : List WriteBlk
  drain : List Nat
  pcs : Tbl PcSt
  /-- Since when the self-refresh conditions hold. -/
  idleSince : Nat
  /-- Consecutive failed temperature reads by stack. -/
  tempFails : Tbl Nat
  /-- Stacks whose temperature is to be read before the first refresh after a sleep (R121), and when each was read last. -/
  tempNeed : List Nat
  tempAt : Tbl Nat
  /-- When the stacks began to enter self-refresh (R125). -/
  sleepAt : Nat
  /-- Engines' buffers (R112). -/
  bufs : Tbl EngBuf
  /-- Blocks, by DPA / 64, that a read-modify-write has left marked uncorrectable, with the mask of their bytes written since
  (R127). -/
  marked : Tbl Nat
  /-- Check lines that a controller caches, newest first, as pseudo-channel × 2^24 + line (R126). -/
  lines : Tbl (List Nat)
  /-- Stacks whose real-time demand alone has exceeded their grant since the arbiter's last tick (R131). -/
  excess : List Nat
  /-- MEM refuses new requests: the orderly shutdown class (R130). -/
  refusing : Bool
  patrolAt : Nat
  /-- The export table by window page: owning context, grant handle and DPA page (R128). -/
  exports : Tbl (Nat × Nat × Nat)
  /-- The power grant of each stack in mW (R131). -/
  budget : Tbl Nat
  deriving DecidableEq, Repr

def MemSt.reset : MemSt :=
  { dram := [], reqs := [], writeQ := [], stalled := [], drain := [], pcs := [], idleSince := 0, tempFails := [],
    tempNeed := [], tempAt := [], sleepAt := 0, bufs := [], marked := [], lines := [], excess := [], refusing := false, patrolAt := 0, exports := [], budget := [] }

end Sys2Proof.Machine
end

