-- ==== Sys2Proof/Machine/StSeq.lean ====
section
/-! DEFINITION. The state of SEQ, APT and SCN that no register shows (spec/09, spec/10, spec/11). -/
namespace Sys2Proof.Machine

/-- One slot of a schedule (Table SEQ-1), phases in FPU from the boundary of its LF. -/
structure Slot where
  set : Nat
  plane : Nat
  prim : Nat
  load : Nat
  period : Nat
  n : Nat
  cstep : Nat
  /-- Start and length of the light interval. -/
  light : Nat
  len : Nat
  late : Bool
  dark : Bool
  view : Nat
  wclass : Nat
  /-- Temporal planes that the slot can load; 0 for a code plane. -/
  tb : Nat
  /-- The weight in units of 2^-16 light step. -/
  w : Nat
  /-- A STEP frame acts at the slot's reset (R285). -/
  stepFrame : Bool
  deriving DecidableEq, Repr

/-- A compiled schedule (R214, R224, R225). Times are FPU; `eff` and `gain` are in 0.01 %. -/
structure Sched where
  cycle : Nat
  align : Nat
  lists : List (List Slot)
  load : Nat
  span : Nat
  /-- Chain latches per LF of the cycle: (chain, phase). -/
  latches : List (List (Nat × Nat))
  /-- Reference samples per LF of the cycle: (primary, phase). -/
  refs : List (List (Nat × Nat))
  /-- Enable windows per LF of the cycle: (opens, closes), for a scan output (R223). -/
  windows : List (List (Nat × Nat))
  eff : Nat
  light : Nat
  gain : Nat
  edgeDark : Nat
  deriving DecidableEq, Repr

/-- The schedules that one compile gives (R28, R229, R230, R234). -/
structure SchedSet where
  committed : Sched
  uniform : Sched
  throttle : Sched
  throttleUniform : Sched
  static_ : Option Sched
  deriving DecidableEq, Repr

/-- One plane set as a compile takes it (R219). -/
structure CompSet where
  set : Nat
  prim : Nat
  views : Nat
  weights : List Nat
  drop : Nat
  tb : Nat
  step : Nat
  deriving DecidableEq, Repr

/-- A published camera window (R47, R48), in camera-frame phase. -/
structure CompWin where
  cam : Nat
  frame : Nat
  align : Nat
  open_ : Nat
  len : Nat
  deriving DecidableEq, Repr

/-- What a scan output's compile takes of its engine (R265, R270); `burst` is the primary's reference burst. -/
structure CompScan where
  slowStart : Nat
  height : Nat
  fMin : Nat
  fMax : Nat
  flybackUs : Nat
  use : Nat
  burst : List Nat
  deriving DecidableEq, Repr

/-- What a compile takes of a chain that carries the output (R224, R285); `here` says that the chain's latch
belongs to this output's schedule, `within` the engines whose flybacks it must lie in. -/
structure CompChain where
  chain : Nat
  windowNs : Nat
  settleNs : Nat
  clkDiv : Nat
  here : Bool
  within : List CompScan
  deriving DecidableEq, Repr

/-- The inputs of one compile (R219). -/
structure CompIn where
  sets : List CompSet
  views : Nat
  wins : List CompWin
  /-- The cameras whose views the output carries, with FRAME_LFS and ALIGN_ACT (R214). -/
  cams : List (Nat × Nat × Nat)
  p16 : Nat
  knee : Nat
  throttleLight : Nat
  samples : Nat
  cf : Nat
  /-- STATIC_EN, STATIC_Q and STATIC_D. -/
  static_ : Option (Nat × Nat)
  /-- SEQ_OUT_o_CTRL whole. -/
  ctrl : Nat
  /-- The ARRAY_MECH instance; empty where absent. -/
  mech : List Byte
  /-- The port's plane load time in gate steps (R216). -/
  loadSteps : Nat
  chains : List CompChain
  /-- Primaries with a photo-sense channel. -/
  sensed : List Nat
  ir : Option Nat
  transitNs : Nat
  scan : Option CompScan
  deriving DecidableEq, Repr

/-- A compile that runs; kinds of Table SEQ-11: 0 commit, 1 rebuild, 2 reload, 3 control change. -/
structure CompJob where
  out : Nat
  kind : Nat
  start : Nat
  inp : CompIn
  deriving DecidableEq, Repr

/-- An accepted compile that is not yet in force. -/
structure CompDone where
  inp : CompIn
  res : SchedSet
  time : Nat
  deriving DecidableEq, Repr

/-- The kinds of fabric event (R16, Table SEQ-3). -/
inductive FabKind where
  | planeLoad | reset | gateRise | gateFall | step | latch | scanOpen | scanClose | sample | commit | hbm
  deriving DecidableEq, Repr

/-- A fabric event in its event engine: its LFN, and the output, chain, engine or primary with the slot (and for a
gate edge the line) that place it in the schedule released for that LF. -/
structure FabEvent where
  kind : FabKind
  lfn : Nat
  unit_ : Nat
  slot : Nat
  line : Nat
  deriving DecidableEq, Repr

/-- A physical tile of the fabric (R237, R414 to R418): its logical tile or its place among the spares. -/
structure TileSt where
  fenced : Bool
  logical : Option Nat
  spare : Bool
  deriving DecidableEq, Repr

def TileSt.init : TileSt := { fenced := false, logical := none, spare := false }

structure SeqSt where
  force : Tbl (CompIn × SchedSet)
  /-- Accepted and rejected compiles by output × 4 + kind. -/
  done : Tbl CompDone
  rejected : Tbl CompIn
  queue : List (Nat × Nat)
  running : List CompJob
  /-- Outputs with a rebuild pending (R228). -/
  rebuild : List Nat
  /-- Consecutive LFs for which the replay conditions have held, and LFs since a forming pass, by output. -/
  replayLfs : Tbl Nat
  stillLfs : Tbl Nat
  /-- Outputs whose replay list the array holds, with the boundary it begins at still to come. -/
  replayStart : List Nat
  /-- Outputs whose replay ended at the last boundary: the array replays until streaming resumes (R233). -/
  replayEnding : List Nat
  /-- The schedule whose list a replaying array holds, and whether throttle variants ran in the LF before (R233). -/
  replayed : Tbl Sched
  wasThrottled : Bool
  /-- Outputs that enter their static schedule when the cycle index is next 0. -/
  staticStart : List Nat
  /-- Waveform in use by output × 8 + class, and outputs whose missing band was reported (R231). -/
  wave : Tbl Nat
  waveMissing : List Nat
  /-- Events that the event engines hold (R16, R18). -/
  fab : List FabEvent
  /-- Throttle variants are in force, and a change waits for the boundary (R230). -/
  throttled : Bool
  /-- The 272 physical tiles. -/
  tiles : Tbl TileSt
  deriving DecidableEq, Repr

def SeqSt.reset : SeqSt :=
  { force := [], done := [], rejected := [], queue := [], running := [], rebuild := [], replayLfs := [],
    stillLfs := [], replayStart := [], replayEnding := [], replayed := [], wasThrottled := false, staticStart := [], wave := [], waveMissing := [],
    fab := [], throttled := false, tiles := [] }

/-- One array port (R254 to R257). -/
structure PortSt where
  /-- When the present state was entered. -/
  since : Nat
  attempts : Nat
  /-- Lane training reported a geometry; ROWS and COLS of the STATUS report. -/
  geom : Option (Nat × Nat)
  /-- The channel delay has been measured in ALIGN. -/
  echoed : Bool
  beatTime : Nat
  /-- The band reported, used from the next boundary (R249). -/
  band : Nat
  tempTime : Nat
  reportTime : Nat
  /-- A retrain decided for the first boundary at or after this instant (R255). -/
  retrainDue : Option Nat
  /-- The LFN in which the controller decided, and whether the array asked. -/
  decidedLfn : Nat
  asked : Bool
  merged : Bool
  /-- Half width asked for; the change waits for its compile (R256). -/
  narrow : Bool
  /-- The change asked for is the return to the image's width (R419). -/
  widen : Bool
  /-- PARK has been sent since ALIGN (R254). -/
  parked : Bool
  /-- DARK has been sent since rank 1 of Table GEN-19 was selected. -/
  darkSent : Bool
  deriving DecidableEq, Repr

def PortSt.init : PortSt :=
  { since := 0, attempts := 0, geom := none, echoed := false, beatTime := 0, band := 0, tempTime := 0,
    reportTime := 0, retrainDue := none, decidedLfn := 0, asked := false, merged := false, narrow := false, widen := false,
    parked := false, darkSent := false }

structure AptSt where
  ports : Tbl PortSt
  /-- Blocks ready by slot of an LF (`readyKey`), as a mask (R244). -/
  ready : Tbl Nat
  /-- Slots of an LF (`readyKey`) whose gates are suppressed (R245), and slots whose light is cut (R247). -/
  suppressed : List Nat
  cuts : List Nat
  /-- The load on the wire, by output: its slot of the running LF and the instant at which its last word leaves (R247). -/
  loading : Tbl (Nat × Nat)
  deriving DecidableEq, Repr

def AptSt.reset : AptSt := { ports := [], ready := [], suppressed := [], cuts := [], loading := [] }

/-- One scan engine (R258 to R277). -/
structure EngineSt where
  since : Nat
  /-- The instant of the last turning point, and whether the half period after it runs in reverse. -/
  lastTurn : Nat
  reverse : Bool
  /-- The row of the running half period; `none` outside the sweep. -/
  row : Option Nat
  /-- The sweep of the running LF has begun; its start, and its end once it is over. -/
  swept : Bool
  sweepStart : Nat
  sweepEnd : Nat
  /-- The running half period is dark, and the next one will be (R267). -/
  missed : Bool
  missNext : Bool
  missRaised : Bool
  windowOpen : Bool
  /-- A light cut of R269 acts until the next cane that starts in a window. -/
  cut : Bool
  /-- A light cut of R51 has darkened the output until a window opens without one. -/
  shut : Bool
  /-- The line buffer: by row, the levels of each pixel's primaries, of at most 16 canes (R14, R267). -/
  lines : Tbl (List (List Nat))
  /-- The reference burst of the running LF has been emitted (R270). -/
  burstDone : Bool
  /-- Instants of the last stalls (R273). -/
  stalls : List Nat
  /-- G_d of the running cane and the error terms by DAC (R263, R264). -/
  gain : List Nat
  err : List Nat
  /-- What each DAC does in the present pixel: code, and start and length of its gate pulse in steps. -/
  drive : List (Nat × Nat × Nat)
  /-- The slow axis moves linearly to `slow` from `slowFrom`, over `slowUs` us from `slowAt` on (R265, R275). -/
  slow : Nat
  slowFrom : Nat
  slowAt : Nat
  slowUs : Nat
  /-- The amplitude commanded, slewed, in 2^-16 codes (R271). -/
  ampRef16 : Nat
  /-- Since when the drive has stood at its ceiling with A_est low, and whether its event was raised (R271). -/
  limitSince : Option Nat
  limitRaised : Bool
  /-- The largest residual of the running LF. -/
  resid : Nat
  /-- Consecutive half periods within LOCK_TOL (Table SCN-5). -/
  lockRun : Nat
  /-- Locked; RUN begins at the first boundary after the slow axis has moved (Table SCN-5). -/
  ready : Bool
  deriving DecidableEq, Repr

def EngineSt.init : EngineSt :=
  { since := 0, lastTurn := 0, reverse := false, row := none, swept := false, sweepStart := 0, sweepEnd := 0,
    missed := false, missNext := false, missRaised := false, windowOpen := false, cut := false, shut := false, lines := [], burstDone := false,
    stalls := [], gain := [0, 0, 0, 0], err := [0, 0, 0, 0], drive := [], slow := 0, slowFrom := 0, slowAt := 0, slowUs := 0, ampRef16 := 0,
    limitSince := none, limitRaised := false, resid := 0, lockRun := 0, ready := false }

structure ScnSt where
  engines : Tbl EngineSt
  /-- Layers whose contexts were being reset as the LF began: transparent in what scan outputs form in it (R105). -/
  skip : List Nat
  deriving DecidableEq, Repr

def ScnSt.reset : ScnSt := { engines := [], skip := [] }

end Sys2Proof.Machine
end

