-- ==== Sys2Proof/Syntax.lean ====
section
/-! DEFINITION. The commands: one constructor per row of spec/opcode_table.json, in its order. `dt` is how many 250 ps gate
steps have passed since the command before (DESIGN CHOICE, log 1). -/
namespace Sys2Proof
open Machine

/-- A read of a function's BAR0: the function, the byte offset and the width in bytes (R8). -/
structure BarRead where
  fn : Nat
  addr : Nat
  width : Nat
  deriving DecidableEq, Repr

inductive Instr where
  /-- REGISTER_WRITE (R10): A write to a register that has no row of its own takes effect by its access code, with
  reserved-field, width, alignment, RWL, busy and ceiling checks. -/
  | registerWrite (dt f addr width value : Nat)
  /-- LATCHED_PAIR_READ (R9): A read of the lower register of a 64-bit pair latches the upper half for the next read
  of the upper register. -/
  | latchedPairRead (dt : Nat) (r : BarRead)
  /-- SYSTIME_LO_READ (R59): A read of GLB_SYSTIME_LO latches system time high, LFN and phase at the same instant. -/
  | systimeLoRead (dt : Nat)
  /-- LF_BOUNDARY (R26): The phase counter wraps: LFN advances, P is fixed for the new LF and pending changes apply
  in the order of Table GEN-18. -/
  | lfBoundary
  /-- GROUP_TIMEOUT (R97): An all-or-nothing group's pending requests fail with GROUP_TIMEOUT after WAIT_MAX LFs. -/
  | groupTimeout (dt g : Nat)
  /-- EVENT_DELIVERY (R18): The fabric delivers an event to its event engine; a late light-adding event is discarded
  and logged, a late light-removing one fires at once. -/
  | eventDelivery (dt : Nat) (e : FabEvent)
  /-- PLANE_LOAD_START (R241): At LOAD_PHASE the ports start the PLANE_LOAD of the slot's plane. -/
  | planeLoadStart (dt o slot : Nat) (errs : List StoreErr)
  /-- MIRROR_RESET (R241): A timed RESET acts at the array at the slot's reset instant. -/
  | mirrorReset (dt o slot : Nat)
  /-- GATE_EDGE (R294): A gate line rises or falls for a pulse of N_act steps; pulses below 8 steps are omitted. -/
  | gateEdge (dt o slot line : Nat) (rise : Bool)
  /-- CURRENT_STEP (R285): A STEP frame acts at the slot's reset instant on every chain carrying the output. -/
  | currentStep (dt o slot : Nat)
  /-- CHAIN_LATCH (R283): A LATCH frame makes drivers accept their shifted words and load readback. -/
  | chainLatch (dt c : Nat)
  /-- SCAN_ENABLE_EDGE (R268): A scan enable window opens or closes for a scan engine's emission. -/
  | scanEnableEdge (dt n slot : Nat) (open_ : Bool)
  /-- REFERENCE_SAMPLE (R187): A photo-sense reference sample is taken and fed to the constancy loop. -/
  | referenceSample (dt p raw : Nat)
  /-- COMMIT_DECISION_POINT (R30): 20 us before the boundary a stand-alone device decides which commits apply. -/
  | commitDecisionPoint
  /-- HBM_RETRAIN_WINDOW (R122): Each controller retrains overdue pseudo-channels and applies pending lane remaps in
  the window. -/
  | hbmRetrainWindow (dt : Nat)
  /-- ARMED_EVENT_TRIGGER (R55): An unpredicted SHUTTER_IN, FRAME_IN or TE_IN edge fires an armed event within 180
  ns. -/
  | armedEventTrigger (dt input n : Nat) (active : Bool)
  /-- REFERENCE_EDGE (R38): An edge on a reference input is checked for validity, period and outliers. -/
  | referenceEdge (dt r aux : Nat)
  /-- REFERENCE_MISSING (R38): An expected reference edge is missing for more than 1.5 periods and the reference
  becomes invalid. -/
  | referenceMissing (dt r : Nat)
  /-- HOLDOVER_EXPIRED (R39): After HOLDOVER_S seconds the DPLL enters EXPIRED and runs on FREE. -/
  | holdoverExpired (dt : Nat)
  /-- REFERENCE_REVERT (R42): With REVERT set, TIM returns to PRIMARY once it has been valid for 1 s without a
  break. -/
  | referenceRevert (dt : Nat)
  /-- DPLL_LOCKED (R43): The phase error stays below 4 ns over 8 edges and the DPLL enters LOCKED. -/
  | dpllLocked (dt : Nat)
  /-- PULLIN_DONE (R40): Slew pull-in ends once the phase error is below 4 ns. -/
  | pullinDone (dt : Nat)
  /-- REF_CTRL_WRITE (R42): A PF write of TIM_REF_CTRL is refused for undefined codes or takes effect at the next
  boundary. -/
  | refCtrlWrite (dt : Nat) (w : Word)
  /-- SHUTTER_EDGE (R48): A SHUTTER_IN edge is stamped, flagged or averaged, and may publish or change the window. -/
  | shutterEdge (dt n : Nat) (high : Bool)
  /-- SHUTTER_LOST (R50): No open edge in 2 expected camera frames makes the captured window LOST. -/
  | shutterLost (dt n : Nat)
  /-- SHUTTER_LATE_CLOSE_CUT (R51): With PROTECT, reaching the published close without a close edge cuts light until
  the edge or the LF end. -/
  | shutterLateCloseCut (dt n : Nat)
  /-- SYSTIME_STEP_ARM (R53): STEP_ARM arms a system-time step for the next boundary, refused on a non-root member. -/
  | systimeStepArm (dt : Nat) (w : Word)
  /-- SNAPSHOT_ARM (R58): ARM arms a snapshot for a target boundary, ending in MISSED if the target is not in the
  future. -/
  | snapshotArm (dt : Nat) (atLfn : Bool)
  /-- SNAPSHOT_RELEASE (R58): RELEASE frees the snapshot data or cancels an armed snapshot. -/
  | snapshotRelease (dt : Nat)
  /-- BOOT (R435): PWR_OK rises, or RESET_N rises while PWR_OK is high: the boot ROM, THM, self-test and image load
  start. -/
  | boot (dt : Nat) (bootSel : Bool) (flash : Nat) (dir : List Byte)
  /-- FLASH_NO_RESPONSE (R73): The flash gives no valid identification or read within 10 ms and the source fails
  with code 0x01. -/
  | flashNoResponse (dt : Nat)
  /-- IMAGE_LOAD_DONE (R70): An image read completes; format, authentication and resource checks run and the image
  applies all or nothing. -/
  | imageLoadDone (dt : Nat) (bytes : List Byte)
  /-- HOST_FULL_LOAD (R69): START with KIND full and FROM_HOST reads a full image over PCIe, accepted only in safe
  idle. -/
  | hostFullLoad (dt : Nat)
  /-- FLASH_FULL_LOAD_REFUSED (R69): START with KIND full from the flash reload slot is refused with code 0x0D. -/
  | flashFullLoadRefused (dt : Nat)
  /-- RELOAD_FROM_FLASH (R75): START with KIND reload reads a reload image from the flash reload slot. -/
  | reloadFromFlash (dt : Nat)
  /-- RELOAD_FROM_HOST (R75): START with KIND reload and FROM_HOST reads a reload image over PCIe. -/
  | reloadFromHost (dt : Nat)
  /-- HOST_READ_ERROR (R73): A PCIe error, timeout, PERST_N or master-enable clear during a host image read fails it
  with 0x0E. -/
  | hostReadError (dt : Nat)
  /-- RELOAD_READY (R76): Every recompile for a reload is accepted and the reload becomes ready. -/
  | reloadReady (dt : Nat)
  /-- OTP_PROGRAM_HASH_BYTE (R66): CFG_OTP_PROG OP 0b001 programs a hash byte of a key slot while unlocked. -/
  | otpProgramHashByte (dt slot index data : Nat)
  /-- OTP_SET_VALID (R66): CFG_OTP_PROG OP 0b010 sets VALID of a key slot while unlocked. -/
  | otpSetValid (dt slot : Nat)
  /-- OTP_SET_REVOKED (R66): CFG_OTP_PROG OP 0b011 sets REVOKED of a key slot while unlocked. -/
  | otpSetRevoked (dt slot : Nat)
  /-- OTP_RAISE_FLOOR (R66): CFG_OTP_PROG OP 0b100 raises the security-version floor while unlocked. -/
  | otpRaiseFloor (dt data : Nat)
  /-- OTP_LOCK (R66): CFG_OTP_PROG OP 0b111 sets LOCKED permanently. -/
  | otpLock (dt : Nat)
  /-- SELF_TEST_DONE (R414): Power-up self-test finishes, fences failing units and the Cullet assigns spares. -/
  | selfTestDone (dt ms : Nat) (failed : List UnitId)
  /-- APERTURE_WRITE (R87): An inbound BAR2 write reaches an owned LOCAL mapping or is dropped as a translation
  fault. -/
  | apertureWrite (dt fn off : Nat) (bs : List Byte)
  /-- APERTURE_READ (R87): An inbound BAR2 read is served from a LOCAL mapping or completes with Unsupported
  Request. -/
  | apertureRead (dt fn off len : Nat)
  /-- CMDQ_DOORBELL (R88): A write of CMDQ_TAIL makes new command ring entries available to the device. -/
  | cmdqDoorbell (dt c tail : Nat)
  /-- CMD_ALLOC (R84): ALLOC assigns scrubbed free pages to the context and maps them LOCAL. -/
  | cmdAlloc (dt c : Nat) (e : RingEntry)
  /-- CMD_FREE (R89): FREE unmaps owned pages, revokes grants on them and queues them for scrubbing at the boundary.
  -/
  | cmdFree (dt c : Nat) (e : RingEntry)
  /-- CMD_MAP_HOST (R86): MAP_HOST maps host pages at a virtual address. -/
  | cmdMapHost (dt c : Nat) (e : RingEntry)
  /-- CMD_MAP_REMOTE (R353): MAP_REMOTE maps global surface space, refused before start-up complete. -/
  | cmdMapRemote (dt c : Nat) (e : RingEntry)
  /-- CMD_MAP_GRANT (R85): MAP_GRANT maps pages of a grant read-only for the grantee. -/
  | cmdMapGrant (dt c : Nat) (e : RingEntry)
  /-- CMD_UNMAP (R89): UNMAP removes HOST, REMOTE or GRANT mappings at the boundary. -/
  | cmdUnmap (dt c : Nat) (e : RingEntry)
  /-- CMD_GRANT (R83): GRANT allows another context to read owned pages and returns a handle. -/
  | cmdGrant (dt c : Nat) (e : RingEntry)
  /-- CMD_REVOKE (R89): REVOKE ends a grant; the grantee's mappings are removed at the boundary. -/
  | cmdRevoke (dt c : Nat) (e : RingEntry)
  /-- CMD_FENCE (R88): FENCE completes when every earlier entry of the ring has taken effect. -/
  | cmdFence (dt c : Nat) (e : RingEntry)
  /-- CMD_BAD_OPCODE (R88): An entry with an unknown opcode completes with BAD_OPCODE and no effect. -/
  | cmdBadOpcode (dt c : Nat) (e : RingEntry)
  /-- PAGE_SCRUB_DONE (R84): A freed page is overwritten with zeros and HIF_POOL_FREE rises. -/
  | pageScrubDone (dt page : Nat)
  /-- EVQ_DOORBELL (R100): A write of EVQ_HEAD returns event queue entries to the device. -/
  | evqDoorbell (dt q head : Nat)
  /-- LAYER_ALLOCATE (R90): OP allocate binds a physical layer to a window slot within quota, answered within 2 us. -/
  | layerAllocate (dt c slot : Nat) (video : Bool)
  /-- LAYER_RELEASE (R91): OP release unbinds the slot's layer, refused with IN_USE while it is enabled. -/
  | layerRelease (dt c slot : Nat)
  /-- CTX_LIMITS_WRITE (R472): A PF write of HIF_CTX_c_LIMITS is bounded by the function's CTX_LIMITS entry. -/
  | ctxLimitsWrite (dt c i : Nat) (w : Word)
  /-- COMMIT_REQUEST (R93): REQ of a context or the PF requests a commit, starting compiles and builds, and fails
  TARGET_PAST when its target is past. -/
  | commitRequest (dt c : Nat) (atLfn : Bool) (tag : Nat)
  /-- COMMIT_CANCEL (R93): CANCEL ends a pending commit before admission. -/
  | commitCancel (dt c : Nat)
  /-- COMMIT_ADMIT (R94): A commit meeting conditions 1, 3, 4 and 6 of R29 is admitted and a forming pass starts on
  its outputs. -/
  | commitAdmit (dt c : Nat)
  /-- FORMING_PASS_DONE (R94): A forming pass completes its plane images or lead part on an output. -/
  | formingPassDone (dt o : Nat)
  /-- FETCH_WINDOW_END (R92): A 10 us reservation window ends and each context's demand is compared with its
  reservation. -/
  | fetchWindowEnd (dt : Nat)
  /-- EVENT_QUEUE_WRITE (R100): A held event is written to its queue and the tail advances, or it is dropped on a
  full queue. -/
  | eventQueueWrite (dt q : Nat)
  /-- MSIX_MOD_TIMEOUT (R102): MOD_TIME after the first unsignalled entry the queue's vector is signalled. -/
  | msixModTimeout (dt q : Nat)
  /-- MASTER_ENABLE_CLEAR (R104): The function stops host requests within 1 us and its HOST layers go off. -/
  | masterEnableClear (dt f : Nat) (lines : List Nat)
  /-- MASTER_ENABLE_SET (R104): Held events are written and HOST layers return at the next CF. -/
  | masterEnableSet (dt f : Nat)
  /-- FUNCTION_LEVEL_RESET (R105): FLR stops the function's requests and reforms its outputs without its contexts'
  layers. -/
  | functionLevelReset (dt f : Nat)
  /-- CONTEXT_RESET (R105): HIF_CTX_CTRL.RESET resets one context by the steps of R105. -/
  | contextReset (dt c : Nat)
  /-- PERST_ASSERT (R106): PERST_N resets the endpoint only; the picture continues and rings and queues are
  disabled. -/
  | perstAssert (dt : Nat)
  /-- PERST_RELEASE (R106): Release of PERST_N lets the endpoint train and enumerate. -/
  | perstRelease (dt : Nat)
  /-- LINK_DOWN (R106): The PCIe link goes down with the same effect as PERST_N. -/
  | linkDown (dt : Nat)
  /-- VF_ENABLE (R81): The host enables VFs, up to the CTX_LIMITS count, and their contexts appear. -/
  | vfEnable (dt n : Nat)
  /-- STALE_COMPLETION (R103): A completion of an older tag generation is accepted, discarded and counted. -/
  | staleCompletion (dt f : Nat)
  /-- HOST_COMPLETION_TIMEOUT (R103): A host request's completion times out and its tag is freed. -/
  | hostCompletionTimeout (dt f : Nat) (old : Bool)
  /-- MEM_REQUEST (R111): An engine issues a tagged memory transaction with its deadline through translation. -/
  | memRequest (dt e c va len pixels : Nat) (wr : Bool) (deadline : Nat)
  /-- PC_COMMAND_ISSUE (R113): A controller chooses the next command for a pseudo-channel by the ranks of Table
  MEM-2. -/
  | pcCommandIssue (dt p : Nat)
  /-- MEM_COMPLETION (R114): A memory transaction completes; data of an old generation is discarded. -/
  | memCompletion (dt e k ecc : Nat)
  /-- DEADLINE_MISS (R115): A real-time request's deadline passes and the miss is counted. -/
  | deadlineMiss (dt e k : Nat)
  /-- REFRESH_DUE (R120): An all-bank refresh falls due and is issued, postponed or forced. -/
  | refreshDue (dt p : Nat)
  /-- STACK_TEMP_READ (R121): Each 1 ms the stack temperature is read and selects its band, refresh interval and
  requests. -/
  | stackTempRead (dt st : Nat) (reading : Option Int)
  /-- RETRAIN_OVERDUE (R122): A pseudo-channel without a window for 4 periods raises a retrain-overdue event. -/
  | retrainOverdue (dt p : Nat)
  /-- PARITY_ERROR (R123): A link parity error reissues the transaction once and may mark the lane for remapping. -/
  | parityError (dt p lane e k : Nat)
  /-- SELF_REFRESH_ENTRY (R125): After MIN_DWELL of idle conditions both stacks enter self-refresh and controller
  domains switch off. -/
  | selfRefreshEntry (dt : Nat)
  /-- SELF_REFRESH_EXIT (R125): A real-time tolerance, best-effort request or window wakes both stacks within 3.2
  us. -/
  | selfRefreshExit (dt : Nat)
  /-- PATROL_SCRUB (R127): The patrol scrub reads each protected block once in 24 h. -/
  | patrolScrub (dt dpa found : Nat)
  /-- HBM_TRAINING_DONE (R129): HBM3E training completes, or fails and stops start-up. -/
  | hbmTrainingDone (dt : Nat) (ok : Bool) (failPc : Nat)
  /-- LAYER_LIVE_WRITE (R136): LIVE marks a layer's source as changing from the next boundary. -/
  | layerLiveWrite (dt n : Nat) (live : Bool)
  /-- LAYER_UPDATE (R136): UPDATE requests one forming pass on the outputs the layer spans. -/
  | layerUpdate (dt n : Nat)
  /-- TABLE_LOAD_DONE (R174): A mesh, LUT, decomposition, grid, book or mask load completes into its back copy or
  fails. -/
  | tableLoadDone (dt kind i : Nat) (lost : Bool)
  /-- LAYER_UNDERRUN (R162): A slice waits 2.5 us for a layer's data and the layer underruns. -/
  | layerUnderrun (dt n o line fault : Nat)
  /-- WRITEBACK_DONE (R159): A writeback frame completes, or is flagged incomplete. -/
  | writebackDone (dt o : Nat) (lost : Bool)
  /-- BOOK_BUILD_DONE (R195): PLN finishes building a slot's main and throttle books within 2 ms. -/
  | bookBuildDone (dt slot : Nat)
  /-- TAIL_DONE (R207): The tail part of a phased-refill pass completes. -/
  | tailDone (dt o : Nat)
  /-- STORE_ZERO_DONE (R204): Every allocated plane store line is written with zeros and valid check bits. -/
  | storeZeroDone (dt : Nat)
  /-- STORE_SCRUB (R210): The store scrub reads allocated lines and handles errors found. -/
  | storeScrub (dt : Nat) (errs : List StoreErr)
  /-- SPARE_ROW_COPY_DONE (R211): The dead row's content is copied into a spare row. -/
  | spareRowCopyDone (dt bank row : Nat)
  /-- COMPILE_START (R227): A queued compile starts when the running compile for the output completes. -/
  | compileStart (dt o : Nat)
  /-- COMPILE_DONE (R219): A compile ends, accepted or rejected with a code and event. -/
  | compileDone (dt o : Nat)
  /-- REPLAY_ENTER (R233): After 8 LFs of replay conditions the port stores planes and the slot list in the array. -/
  | replayEnter (dt o : Nat)
  /-- STATIC_ENTER (R234): After STATIC_DELAY LFs without forming the output enters its static schedule. -/
  | staticEnter (dt o : Nat)
  /-- LOAD_DEADLINE (R244): At LOAD_PHASE minus 1 us the lead port decides which blocks of the slot are ready. -/
  | loadDeadline (dt o slot lfn te done : Nat)
  /-- TE_IN_CLOSE (R247): An unpredicted TE_IN closing edge during a load arms a light cut. -/
  | teInClose (dt line : Nat)
  /-- BC_TEMP (R249): A TEMP report updates the port's temperature and band for the next boundary. -/
  | bcTemp (dt p band temp : Nat)
  /-- BC_TE (R249): A TE report updates the load window state. -/
  | bcTe (dt p : Nat) (open_ : Bool)
  /-- BC_ERROR (R249): An ERROR report is counted and raises an event. -/
  | bcError (dt p code block : Nat)
  /-- BC_HEALTH (R249): A HEALTH report updates STUCK and raises an event when it rises. -/
  | bcHealth (dt p stuck : Nat)
  /-- BC_STATUS (R249): A STATUS report fills the port's identity and geometry. -/
  | bcStatus (dt p vendor model firmware rows cols : Nat)
  /-- BC_RETRAIN_REQ (R255): RETRAIN_REQ asks for a retrain or narrower width; the controller leads, merging if
  coincident. -/
  | bcRetrainReq (dt p : Nat) (widthReq : Bool)
  /-- BC_ECHO (R250): An ECHO report gives the round trip from which the channel delay is measured. -/
  | bcEcho (dt p roundPs : Nat)
  /-- BC_EPOCH (R253): An EPOCH report updates HIGHEST and sets STALE if it exceeds the port's own epoch. -/
  | bcEpoch (dt p highest : Nat)
  /-- BC_LOST (R251): No back-channel report for 10 ms sets BC_LOST. -/
  | bcLost (dt p : Nat)
  /-- PORT_TRAINED (R254): A port's lanes train and the port enters ALIGN. -/
  | portTrained (dt p : Nat)
  /-- PORT_ALIGNED (R254): The channel delay is measured and geometry matches, and the port enters RUN. -/
  | portAligned (dt p : Nat)
  /-- PORT_TRAIN_TIMEOUT (R254): A port not trained within 40 ms, or not aligned in 3 attempts, enters FAULT. -/
  | portTrainTimeout (dt p : Nat)
  /-- PORT_FAULT_RETRY (R254): After 100 ms in FAULT with AUTO_RETRY the port returns to TRAIN. -/
  | portFaultRetry (dt p : Nat)
  /-- APT_RETRAIN_REQUEST (R255): The PF sets RETRAIN and the port sends RETRAIN for a boundary at least 100 us
  away. -/
  | aptRetrainRequest (dt p : Nat)
  /-- APT_STATUS_REQUEST (R249): The PF sets STATUS_REQ and the port sends STATUS_REQ with REPORTS. -/
  | aptStatusRequest (dt p : Nat)
  /-- PORT_RETRAIN_DONE (R254): A retrain ends within 2 ms and the port resumes at the next BEAT, or falls back to
  TRAIN. -/
  | portRetrainDone (dt p : Nat)
  /-- SCAN_START (R274): START powers an engine and runs the start sequence of Table SCN-5. -/
  | scanStart (dt n : Nat)
  /-- SCAN_STOP (R275): STOP removes the engine's light at once and parks and brakes the mirror. -/
  | scanStop (dt n : Nat)
  /-- SCAN_OFFSET_DONE (R274): The pickup offset is averaged and the engine enters SEARCH. -/
  | scanOffsetDone (dt n : Nat)
  /-- SCAN_SEARCH_DONE (R274): The resonance sweep ends with a peak, or in FAULT NO_RESONANCE. -/
  | scanSearchDone (dt n : Nat) (peak : Option Nat)
  /-- SCAN_RAMP_DONE (R274): The amplitude reaches AMP_REF, or the engine faults with AMP_LIMIT. -/
  | scanRampDone (dt n amp mv : Nat) (reached : Bool)
  /-- SCAN_LOCK_DONE (R274): The residual stays within LOCK_TOL for 1,024 half periods and the slow axis moves to
  SLOW_TOP. -/
  | scanLockDone (dt n : Nat)
  /-- SCAN_BRAKE_DONE (R275): Braking ends, the drive turns off and the domain switches off. -/
  | scanBrakeDone (dt n : Nat)
  /-- TURNING_POINT (R265): The mirror turns; a half period and its cane begin, the sweep may start and a reference
  burst may be emitted. -/
  | turningPoint (dt n : Nat) (reverse : Bool) (freq amp mv resid : Nat)
  /-- PIXEL_EDGE (R260): The mirror crosses a predicted pixel boundary and DAC codes and gates change. -/
  | pixelEdge (dt n x : Nat)
  /-- LINE_MISS (R267): A cane not complete 1 us before its half period leaves that half period dark. -/
  | lineMiss (dt n : Nat)
  /-- SCAN_STALL (R272): A stall condition holds for 64 samples and hardware stops the engine's light. -/
  | scanStall (dt n cause : Nat)
  /-- SCAN_STALL_RESTART (R273): 1 ms after a stall the engine restarts or enters FAULT STALL_REPEAT. -/
  | scanStallRestart (dt n amp : Nat)
  /-- AMP_LIMIT_EVENT (R271): The drive at its ceiling with low amplitude for 100 ms raises an amplitude-limit
  event. -/
  | ampLimitEvent (dt n : Nat)
  /-- CHAIN_UPDATE_START (R285): An update of a chain starts 20 us plus its length before the latch, with words
  computed from current factors. -/
  | chainUpdateStart (dt c : Nat)
  /-- CHAIN_UPDATE_END (R282): An update ends; the marker check passes or the chain becomes BROKEN, and readbacks
  are checked. -/
  | chainUpdateEnd (dt c delay marker : Nat) (words : List Nat)
  /-- POSITION_CLEAR_FAULT (R287): CLEAR_FAULT re-enables the selected position after a fault. -/
  | positionClearFault (dt : Nat)
  /-- WATCHDOG_TOKEN (R297): The FEEDER_SYS tile writes the token for the next LF to renew the enable. -/
  | watchdogToken (dt hi lo : Nat)
  /-- WATCHDOG_EXPIRY (R297): Either enable timer expires 1.5 LFs after renewal and heartbeats stop. -/
  | watchdogExpiry (dt timer : Nat)
  /-- INTERLOCK_OPEN (R298): INTERLOCK_N low for 20 ns forces gates low and stops heartbeats in hardware. -/
  | interlockOpen (dt ns : Nat)
  /-- INTERLOCK_CLOSE (R298): INTERLOCK_N returns high, starting the hold time unless the interlock latches. -/
  | interlockClose (dt : Nat)
  /-- INTERLOCK_HOLD_EXPIRY (R298): INTERLOCK_N high for INTERLOCK_HOLD_MS clears a non-latching stop. -/
  | interlockHoldExpiry (dt : Nat)
  /-- INTERLOCK_REARM (R298): REARM clears a latching interlock stop while INTERLOCK_N is high. -/
  | interlockRearm (dt : Nat)
  /-- FORCE_OFF_WRITE (R296): FORCE_OFF stops or permits every heartbeat. -/
  | forceOffWrite (dt : Nat) (on : Bool)
  /-- BUDGET_TICK (R301): Each 100 us the arbiter estimates power and grants package and rail budgets by rank. -/
  | budgetTick (dt : Nat) (demands : List Nat) (base pkg main stack0 stack1 : Nat)
  /-- DATA_FRAME_RX (R314): A lane slot is received, destuffed, descrambled and CRC-checked and its link words
  passed up. -/
  | dataFrameRx (dt l wire : Nat)
  /-- TRAINING_FRAME_RX (R315): A training frame adapts the equaliser, carries requests and substitution, and
  advances training. -/
  | trainingFrameRx (dt l : Nat) (words : List Nat) (good adapted : Bool)
  /-- STATUS_FRAME_RX (R318): A status frame reports the far end's sync, errors and eye. -/
  | statusFrameRx (dt l : Nat) (words : List Nat)
  /-- STATUS_FRAME_TIMEOUT (R320): No status frame for 1 ms fails a lane whose far end must send them. -/
  | statusFrameTimeout (dt l : Nat)
  /-- LANE_TRAIN_TIMEOUT (R316): A link not trained within 40 ms fails training. -/
  | laneTrainTimeout (dt l : Nat)
  /-- LANE_WAKE (R327): 4 us before the BEAT window an idle lane sends 8 training frames to relock. -/
  | laneWake (dt l : Nat)
  /-- LANE_WAKE_TIMEOUT (R320): A WAKE that does not reach DATA within 4 us fails the lane. -/
  | laneWakeTimeout (dt l : Nat)
  /-- REFCLK_LOST (R321): A reference clock lost for 1 us puts its lanes in OFF without fencing. -/
  | refclkLost (dt k : Nat)
  /-- REFCLK_RESTORED (R321): A reference clock present for 1 ms lets its lanes train again. -/
  | refclkRestored (dt k : Nat)
  /-- LANE_LOOP_WRITE (R328): LOOP sets a loopback mode on an out-of-service lane, or is refused and logged. -/
  | laneLoopWrite (dt l loop : Nat)
  /-- EYE_MEASUREMENT_DONE (R330): An eye figure completes and may mark the lane marginal. -/
  | eyeMeasurementDone (dt l width height : Nat)
  /-- LXS_PORT_TRAINED (R333): A Laxus port's lanes reach DATA and the port enters HELLO. -/
  | lxsPortTrained (dt j neigh : Nat)
  /-- LXS_PORT_FAULT_RETRY (R333): 100 ms after FAULT a Laxus port returns to DOWN and retrains. -/
  | lxsPortFaultRetry (dt j : Nat)
  /-- LINK_ACK_TIMEOUT (R335): 64 slots without acknowledgement resend the frames from ACK + 1. -/
  | linkAckTimeout (dt l : Nat)
  /-- HELLO (R337): A HELLO message updates the best root known and decides UP or BLOCKED for the port. -/
  | hello (dt j id prio portN : Nat) (started : Bool) (root rootPrio hops sysid gen : Nat) (near : Bool)
  /-- HELLO_TIMER (R337): HELLO is sent every 20 us while advertised values change, otherwise every LF. -/
  | helloTimer (dt : Nat)
  /-- ELECTION_COMPLETE (R337): 1,280 us without change completes the election. -/
  | electionComplete (dt : Nat)
  /-- ATTACH (R338): ATTACH or detach from a child joins or leaves the tree. -/
  | attach (dt j : Nat) (detach : Bool)
  /-- REPORT (R345): A REPORT is forwarded up to the root and builds routing and station state. -/
  | report (dt j id : Nat) (conv spare : Bool) (n0 n1 n2 n3 highest : Nat)
  /-- REPORT_QUIET_TIMEOUT (R355): 10 ms without a new REPORT lets the root assign stations. -/
  | reportQuietTimeout (dt : Nat)
  /-- ASSIGN (R346): ASSIGN gives a device a station and epoch, or spare status, from a boundary. -/
  | assign (dt j id station : Nat) (valid : Bool) (epoch lfn : Nat)
  /-- READY_ALL (R355): READY_ALL announces the system's device and spare counts before first commit. -/
  | readyAll (dt j devices spares : Nat)
  /-- TIME (R343): A TIME message gives the root time, phase and LFN at its frame's stamp instant. -/
  | time (dt j time sub ph lfn late : Nat) (off : Int)
  /-- DELAY_REQ (R343): A child's DELAY_REQ is stamped on arrival and answered with DELAY_RESP. -/
  | delayReq (dt j t2 : Nat)
  /-- DELAY_RESP (R343): A DELAY_RESP gives T2 and T3 from which the link delay is computed. -/
  | delayResp (dt j t1 t2 t3 t4 : Nat)
  /-- PARENT_TIMEOUT (R339): 3 LFs without TIME from the parent lose it; the device reattaches or advertises itself
  as root. -/
  | parentTimeout (dt : Nat)
  /-- PREPARE_SEND (R348): The root sends PREPARE for boundary T at T minus 500 us. -/
  | prepareSend (dt : Nat)
  /-- PREPARE (R348): A PREPARE is flooded down the tree. -/
  | prepare (dt j target : Nat)
  /-- VOTE_POINT (R349): At T minus 100 us the device tests R29 and forms its vote bits. -/
  | votePoint (dt : Nat)
  /-- VOTE (R349): A child's VOTE is combined into the device's vote. -/
  | vote (dt j target rbPend rbReady : Nat) (part : Bool) (ready pend admits : Nat)
  /-- VOTE_DEADLINE (R348): At T minus 60 us minus depth times h the device sends its vote, marking PARTIAL if
  children are missing. -/
  | voteDeadline (dt : Nat)
  /-- ROOT_DECIDE (R350): The root decides APPLY, ADMIT and RB_APPLY when all votes arrive or at T minus 60 us. -/
  | rootDecide (dt : Nat)
  /-- DECISION (R350): A DECISION admits requests and fixes what applies at T. -/
  | decision (dt j target rbApply apply admits prev : Nat)
  /-- COMMIT_ROUND_LOST (R350): No DECISION by T minus 20 us: nothing applies at T and the round is counted lost. -/
  | commitRoundLost (dt : Nat)
  /-- DROP (R351): A DROP message is forwarded once to every other port and acted on by R165. -/
  | drop (dt j tag group cause origin seq : Nat)
  /-- READ_REQ (R353): A remote read request is routed or served by the export table check. -/
  | readReq (dt j dest src ctx tag size seq off slack : Nat)
  /-- READ_RESP (R353): A read response is routed back or completes the requester's read. -/
  | readResp (dt j dest tag seq status : Nat) (words : List Nat)
  /-- REMOTE_READ_TIMEOUT (R353): A remote read without response in 100 us completes as a remote-refused fault. -/
  | remoteReadTimeout (dt tag : Nat)
  /-- ROLE (R342): A ROLE REQ, ACK or NAK negotiates reversal of a tree link. -/
  | role (dt j op id prio : Nat)
  /-- HANDOVER (R342): A HANDOVER is forwarded to the root, which starts swapping the path to the new root. -/
  | handover (dt j id : Nat)
  /-- CREDIT (R354): A CREDIT message grants request and response credits. -/
  | credit (dt j req resp : Nat)
  /-- LXS_RETRAIN (R334): A RETRAIN message names the slot at which data stops for a retrain or width change. -/
  | lxsRetrain (dt j f id : Nat) (change two : Bool)
  /-- LXS_RETRAIN_DONE (R334): A Laxus link retrain completes within 2 ms, or the port goes DOWN. -/
  | lxsRetrainDone (dt j : Nat)
  /-- LXS_TAKE_ROOT (R342): TAKE_ROOT sends HANDOVER up the tree to make this device root. -/
  | lxsTakeRoot (dt : Nat)
  /-- LXS_PROMOTE (R347): GO on the root promotes a spare to a station at a boundary at least 1 ms away. -/
  | lxsPromote (dt : Nat)
  /-- AUTO_PROMOTE (R347): A station's device absent for 100 ms is replaced by the lowest-identity spare. -/
  | autoPromote (dt station : Nat)
  /-- LXS_EXPORT_BIND (R352): OP bind creates an export binding over a live grant. -/
  | lxsExportBind (dt binding : Nat)
  /-- LXS_EXPORT_UNBIND (R352): OP unbind removes an export binding. -/
  | lxsExportUnbind (dt binding : Nat)
  /-- LAXUS_ALONE_TIMEOUT (R356): No port UP within 100 ms: with ALONE the device becomes a system of one. -/
  | laxusAloneTimeout (dt : Nat)
  /-- MTR_LATCH_OBSERVED (R361): The meter matches a LATCH frame to its marker and accumulates the update's readback
  words. -/
  | mtrLatchObserved (dt c : Nat) (matched : Bool) (clk : Nat) (words : List Nat)
  /-- MTR_GAP (R365): 1 s of heartbeat without a LATCH frame sets GAP for the chain. -/
  | mtrGap (dt c : Nat)
  /-- CLOCK_FAULT (R364): The meter crystal stops for 100 ms; every chain is blocked and an audit entry written. -/
  | clockFault (dt : Nat)
  /-- SEAL_OPENED (R360): SEAL_N falls; the seal latch and event counter move and an audit entry is written. -/
  | sealOpened (dt : Nat)
  /-- SEAL_CLOSED (R369): SEAL_N rises; a staged block is discarded and SEAL_CLOSED recorded. -/
  | sealClosed (dt : Nat)
  /-- MTR_RECORD_DUE (R370): Each 60 s of METER_TIME the meter writes a record. -/
  | mtrRecordDue (dt : Nat)
  /-- MTR_STORE_WRITE_DONE (R372): A meter store write is read back; failures retry and may set NV_FAULT. -/
  | mtrStoreWriteDone (dt : Nat) (ok : Bool)
  /-- MTR_SUPPLY_LOSS (R374): VDD_MTR falls below 1.62 V: a LAST record is written, chain returns stop and the
  battery domain takes over. -/
  | mtrSupplyLoss (dt : Nat) (ok : Bool)
  /-- MTR_POWER_UP (R372): VDD_MTR returns; totals are restored and a POWER_LOSS record written. -/
  | mtrPowerUp (dt : Nat) (vbat : Bool)
  /-- MSVC_READ (R369): Service port READ returns what the mailbox would give. -/
  | msvcRead (dt op : Nat) (args : List Nat) (crc : Bool)
  /-- MSVC_STAGE (R369): Service port STAGE checks and holds a parameter block while the seal is open. -/
  | msvcStage (dt : Nat) (block : List Byte) (crc : Bool)
  /-- MSVC_COMMIT (R369): Service port COMMIT writes a closing record, applies the block and writes an opening
  record. -/
  | msvcCommit (dt : Nat) (crc : Bool)
  /-- MSVC_DISCARD (R369): Service port DISCARD drops the staged block. -/
  | msvcDiscard (dt : Nat) (crc : Bool)
  /-- READ_ID (R375): Mailbox READ_ID returns serial, firmware identity and the endorsed public key. -/
  | readId (dt : Nat)
  /-- READ_STATUS (R375): Mailbox READ_STATUS returns the meter's state, seal and counters. -/
  | readStatus (dt : Nat)
  /-- READ_RECORD (R376): Mailbox READ_RECORD returns a record by SEQ, or NOT_FOUND. -/
  | readRecord (dt seq : Nat)
  /-- EXPORT_RECORD (R377): Mailbox EXPORT_RECORD returns a record signed with the caller's nonce. -/
  | exportRecord (dt seq : Nat) (nonce : List Nat)
  /-- READ_AUDIT (R375): Mailbox READ_AUDIT returns the audit entry with a given COUNT. -/
  | readAudit (dt count : Nat)
  /-- READ_PARAMS (R375): Mailbox READ_PARAMS returns the parameter block in force. -/
  | readParams (dt : Nat)
  /-- SET_HOST_TIME (R376): Mailbox SET_HOST_TIME sets the HOST_TIME of later records. -/
  | setHostTime (dt lo hi : Nat)
  /-- READ_CURRENT (R375): Mailbox READ_CURRENT returns the running totals in record layout. -/
  | readCurrent (dt : Nat)
  /-- MTR_MB_ANSWER (R375): The meter's answer arrives, REQ clears and RESULT and LEN are set. -/
  | mtrMbAnswer (dt : Nat)
  /-- MTR_MB_TIMEOUT (R375): A request without answer within its bound, or with the meter absent, ends with an error
  result. -/
  | mtrMbTimeout (dt : Nat)
  /-- THM_CONVERSION (R378): Each 1 ms the sensor is converted and checked and the reading compared with bands and
  levels. -/
  | thmConversion (dt raw : Nat) (reading : Option Int) (check : Nat)
  /-- GRACE_END (R385): The grace ends at 5 ms or when steps 3 to 6 are done; switched domains go off and the device
  is HALTED. -/
  | graceEnd (dt : Nat)
  /-- THM_RESTART_REQUEST (R389): RESTART requests a restart once the other conditions hold. -/
  | thmRestartRequest (dt : Nat)
  /-- THM_FORCE_SHUTDOWN (R383): FORCE_SHUTDOWN enters shutdown with cause PF. -/
  | thmForceShutdown (dt : Nat)
  /-- THM_FORCE_THROTTLE (R382): FORCE_THROTTLE sets or clears throttle source PF. -/
  | thmForceThrottle (dt : Nat) (on : Bool)
  /-- THM_CLEAR_FAULT (R379): CLEAR_FAULT clears a sensor fault once every check has passed for 1 s. -/
  | thmClearFault (dt : Nat)
  /-- DOMAIN_WAKE (R396): A domain is switched on for a scheduled use, at most 4 at once. -/
  | domainWake (dt d use : Nat)
  /-- DOMAIN_OFF (R396): A domain whose off condition has held for 10 us switches off. -/
  | domainOff (dt d : Nat)
  /-- LANE_EYE_SESSION (R402): START with KIND 1 borrows the spare and retrains a lane to the widest eye. -/
  | laneEyeSession (dt : Nat)
  /-- PSENSE_GAIN_SESSION (R403): START with KIND 2 measures photo-sense gain and offset against REF_PHOTO. -/
  | psenseGainSession (dt : Nat)
  /-- COLOUR_SESSION (R404): START with KIND 3 shows test patches per group for meter readings. -/
  | colourSession (dt : Nat)
  /-- TIMEBASE_SESSION (R408): START with KIND 4 trims the clocks against REF10M_IN. -/
  | timebaseSession (dt : Nat)
  /-- HBM_MARGIN_SESSION (R409): START with KIND 5 sweeps HBM3E margins in retraining windows. -/
  | hbmMarginSession (dt : Nat)
  /-- SESSION_ABORT (R401): ABORT ends the running session of KIND with nothing applied. -/
  | sessionAbort (dt kind : Nat)
  /-- SESSION_END (R401): A session ends DONE or FAILED; results apply in DONE and a store write may follow. -/
  | sessionEnd (dt kind : Nat) (meas : List Int)
  /-- COLOUR_SLOT (R405): A colour session slot starts, forming its patch on every output. -/
  | colourSlot (dt : Nat)
  /-- COLOUR_PUT (R406): GO delivers the host's meter reading for a patch. -/
  | colourPut (dt : Nat)
  /-- COLOUR_MEASUREMENT_TIMEOUT (R406): A patch without its reading in time fails the session with NO_MEASUREMENT. -/
  | colourMeasurementTimeout (dt : Nat)
  /-- CAL_SAVE (R412): SAVE requests a store write of the values in force. -/
  | calSave (dt : Nat)
  /-- CAL_STORE_WRITE_DONE (R412): A calibration store write is verified, retried once or marked failed. -/
  | calStoreWriteDone (dt : Nat) (ok : Bool)
  /-- CAL_STORE_READ (R411): After the first image's section data, both copies are read and the copy in force
  chosen. -/
  | calStoreRead (dt : Nat) (copyA copyB : List Byte)
  /-- SHADOW_MISMATCH (R416): A shadow's output differs from the working tile's; delivery stops and a third tile
  confirms. -/
  | shadowMismatch (dt logical : Nat)
  /-- CONFIRMATION_DONE (R416): The third tile's rerun declares the working tile or the shadow dead, or neither. -/
  | confirmationDone (dt logical agrees : Nat)
  /-- FENCED_SIGN_OF_LIFE (R418): A fenced unit passes a test or check and its LIFE count rises. -/
  | fencedSignOfLife (dt kind unit_ detail : Nat)
  /-- REPAIR_PASS (R419): PASS starts a maintenance repair pass testing every fenced field unit. -/
  | repairPass (dt : Nat)
  /-- REPAIR_PASS_DONE (R419): The repair pass ends and passing units are readmitted at a boundary. -/
  | repairPassDone (dt : Nat) (passed : List Nat)
  /-- CRC_ARM (R424): A write of EXP_CFN latches EXPECT and EXP_CFN and arms the rectangle. -/
  | crcArm (dt o r cfn : Nat)
  /-- EVENT_RAISED (R428): A block delivers an event to INT, which rates, routes, masks and logs it. -/
  | eventRaised (dt code ctx a0 a1 a2 : Nat)
  /-- RESET_ASSERT (R437): RESET_N or PWR_OK low for 1 us runs the hardware class for 4 us. -/
  | resetAssert (dt : Nat) (power : Bool)
  /-- RESET_HOLD (R437): 4 us after the reset edge every main-die block except THM protection is held in reset. -/
  | resetHold (dt : Nat) (short : Bool)
  /-- BOOT_FREE_FALLBACK (R440): 1 s without LOCKED or FREE puts TIM on FREE and start-up continues. -/
  | bootFreeFallback (dt : Nat)
  /-- SNAPSHOT_READY (R57): Within 100 us of the target boundary the latched snapshot data becomes readable and
  GLB_SNAP_STATUS moves from latching to ready. -/
  | snapshotReady (dt : Nat)
  /-- GATE_CLOCK_STOP (R23): The TIM DPLL or the gate timing clock stops, and every heartbeat stops with it under
  condition CLOCK of Table LMP-7. -/
  | gateClockStop (dt : Nat)
  /-- LINK_UP (R101): The PCIe link comes back up after a link-down, and HIF_STATUS.LINK_UP is set so that held
  events can be written once the queues are set up again. -/
  | linkUp (dt : Nat)
  /-- LANE_SLOT_TRANSMIT (R308): At every 4,333-UI slot a lane advances F and sends a data, whitened, training or
  status frame, or resends frames, as its state requires. -/
  | laneSlotTransmit (dt l : Nat) (fault : Bool)
  /-- LANE_IDLE_ENTRY (R327): When the port's 16 us BEAT window ends during replay, each lane enters IDLE while F
  keeps counting. -/
  | laneIdleEntry (dt l : Nat)
  /-- PRBS_CHECKER_LOCK (R329): The PRBS checker locks after 64 consecutive error-free bits and starts counting
  checked bits and errors. -/
  | prbsCheckerLock (dt l : Nat)
  /-- PRBS_CHECKER_LOCK_LOSS (R329): The PRBS checker loses lock on 8 errors within 64 bits. -/
  | prbsCheckerLockLoss (dt l : Nat)
  /-- METER_LINK_UP (R375): The mailbox link to the metering die retrains within 10 ms of a main-die reset or of the
  meter's power-up, and LINK reads 1. -/
  | meterLinkUp (dt : Nat)
  deriving DecidableEq, Repr

end Sys2Proof
end

