-- ==== Sys2Proof/Machine/Bits.lean ====
section
/-! DEFINITION. Bit ranges, signed readings, rounding and byte order over natural numbers and words. -/
namespace Sys2Proof.Machine

/-- Bits `[hi:lo]` of a number. -/
def bitsOf (n hi lo : Nat) : Nat := n / 2 ^ lo % 2 ^ (hi + 1 - lo)

/-- A number with bits `[hi:lo]` replaced by the low bits of `v`. -/
def setBits (n hi lo v : Nat) : Nat :=
  n % 2 ^ lo + (v % 2 ^ (hi + 1 - lo)) * 2 ^ lo + n / 2 ^ (hi + 1) * 2 ^ (hi + 1)

/-- Bit `k` of a number. -/
def bitAt (n k : Nat) : Bool := n / 2 ^ k % 2 == 1

/-- A number with bit `k` set or cleared. -/
def setBit (n k : Nat) (b : Bool) : Nat := setBits n k k (if b then 1 else 0)

def boolNat (b : Bool) : Nat := if b then 1 else 0

/-- Two's complement reading of the low `w` bits. -/
def sgn (w n : Nat) : Int :=
  let m := n % 2 ^ w
  if m < 2 ^ (w - 1) then (m : Int) else (m : Int) - (2 ^ w : Nat)

/-- The low `w` bits of an integer in two's complement. -/
def uns (w : Nat) (i : Int) : Nat := (i % ((2 ^ w : Nat) : Int)).toNat

def clampN (lo hi x : Nat) : Nat := max lo (min hi x)

def clampI (lo hi x : Int) : Int := max lo (min hi x)

/-- Add, stopping at a largest value. -/
def satAdd (top a b : Nat) : Nat := min top (a + b)

/-- Add, wrapping at `w` bits. -/
def wrapAdd (w a b : Nat) : Nat := (a + b) % 2 ^ w

/-- Division rounded up. -/
def divUp (a b : Nat) : Nat := (a + b - 1) / b

/-- Division of naturals, rounded half up. -/
def divRound (a b : Nat) : Nat := (2 * a + b) / (2 * b)

/-- floor(a / b) for a positive divisor. -/
def fdiv (a b : Int) : Int := Int.fdiv a b

/-- floor(a / b + 1/2). -/
def fdivRound (a b : Int) : Int := Int.fdiv (2 * a + b) (2 * b)

/-- Division toward zero. -/
def tdiv (a b : Int) : Int := Int.tdiv a b

/-- Difference modulo 2^32, as R58 counts LFNs. -/
def mod32Sub (a b : Nat) : Nat := (a + 2 ^ 32 - b % 2 ^ 32) % 2 ^ 32

/-- Whether LFN `a` is `b` or later, counted as R58 counts the future. -/
def lfnAtOrAfter (a b : Nat) : Bool := decide (mod32Sub a b ≤ 2 ^ 31)

/-- Whether LFN `a` is later than LFN `b` (R58). -/
def lfnAfter (a b : Nat) : Bool := decide (1 ≤ mod32Sub a b) && decide (mod32Sub a b ≤ 2 ^ 31)

/-- The `n` little-endian bytes of a number. -/
def leBytes : Nat → Nat → List Byte
  | 0, _ => []
  | n + 1, v => BitVec.ofNat 8 v :: leBytes n (v / 256)

/-- The number that little-endian bytes spell. -/
def ofLE : List Byte → Nat
  | [] => 0
  | b :: r => b.toNat + 256 * ofLE r

/-- `n` bytes of a byte string from an offset, read as a little-endian number; bytes past the end read 0. -/
def leAt (bs : List Byte) (off n : Nat) : Nat := ofLE ((bs.drop off).take n)

def lcmList : List Nat → Nat
  | [] => 1
  | x :: r => Nat.lcm x (lcmList r)

/-- The indices `k < n` that satisfy a test. -/
def idxWhere (n : Nat) (p : Nat → Bool) : List Nat := (List.range n).filter p

/-- The number whose set bits are the indices `k < n` that satisfy a test. -/
def maskOf (n : Nat) (p : Nat → Bool) : Nat := (idxWhere n p).foldl (fun a k => a + 2 ^ k) 0

/-- How many bits below `n` are set. -/
def popCount (n v : Nat) : Nat := (idxWhere n (bitAt v)).length

def listSum (l : List Nat) : Nat := l.foldl (· + ·) 0

def listMax (l : List Nat) : Nat := l.foldl max 0

def listMin (d : Nat) (l : List Nat) : Nat := l.foldl min d

def nthD {α : Type} (l : List α) (k : Nat) (d : α) : α := (l[k]?).getD d

/-- Apply a state change for each element, first to last. -/
def foldOver {σ α : Type} (l : List α) (f : α → σ → σ) (s : σ) : σ := l.foldl (fun a x => f x a) s

/-- The largest `r` below `2 ^ bits` with `r ^ k ≤ n`, found bit by bit from the top. -/
def irootGo (k n : Nat) : Nat → Nat → Nat
  | 0, acc => acc
  | b + 1, acc => irootGo k n b (if (acc + 2 ^ b) ^ k ≤ n then acc + 2 ^ b else acc)

/-- Integer square root of a number below `2 ^ 256`. -/
def isqrt (n : Nat) : Nat := irootGo 2 n 128 0

end Sys2Proof.Machine
end

