-- ==== Sys2Proof/Machine/Crc.lean ====
section
/-! DEFINITION. The cyclic redundancy checks: CRC-32 (R367, R421), CRC-32C (R310) and CRC-8 (Table LMP-4). -/
namespace Sys2Proof.Machine

/-- One bit of a reflected CRC with a reflected polynomial. -/
def crcStep (poly r : BitVec 32) : BitVec 32 :=
  if r.getLsbD 0 then (r >>> 1) ^^^ poly else r >>> 1

def crcByte (poly r : BitVec 32) (b : Byte) : BitVec 32 :=
  let x := r ^^^ (b.zeroExtend 32)
  crcStep poly (crcStep poly (crcStep poly (crcStep poly (crcStep poly (crcStep poly (crcStep poly (crcStep poly x)))))))

def crcBytes (poly : BitVec 32) : BitVec 32 → List Byte → BitVec 32
  | r, [] => r
  | r, b :: bs => crcBytes poly (crcByte poly r b) bs

/-- CRC-32: polynomial 0x04C1_1DB7 reflected, initial value and final exclusive-or 0xFFFF_FFFF (R421). -/
def crc32 (bs : List Byte) : Nat := ((crcBytes 0xEDB88320 0xFFFFFFFF bs) ^^^ 0xFFFFFFFF).toNat

/-- CRC-32C: polynomial 0x1EDC_6F41 reflected, initial value and final exclusive-or 0xFFFF_FFFF (R310). -/
def crc32c (bs : List Byte) : Nat := ((crcBytes 0x82F63B78 0xFFFFFFFF bs) ^^^ 0xFFFFFFFF).toNat

/-- One bit of CRC-8 with polynomial x^8 + x^2 + x + 1, the most significant bit first (R281). -/
def crc8Bit (r : Nat) (b : Bool) : Nat :=
  if (r / 128 % 2 == 1) != b then (r * 2 % 256) ^^^ 0x07 else r * 2 % 256

/-- The CRC-8 of bits 63 down to 8 of a word (R281). -/
def crc8 (w : Nat) : Nat := (List.range 56).foldl (fun r k => crc8Bit r (bitAt w (63 - k))) 0

end Sys2Proof.Machine
end

