-- ==== Sys2Proof/Config.lean ====
section
/-! DEFINITION. What one device fixes and the spec leaves open: the free values, the fuses of the part,
the outcome of cryptography, and the external standards the spec names without their numbers.
Every constant is opaque: no proof can see its value. -/
namespace Sys2Proof

/-- DESIGN CHOICE (log 3). The free value of the `k`-th use. A reader takes it modulo the width it needs. -/
opaque Config.freeValue : Nat → BitVec 64

/-- The fused fields of Tables GEN-2 to GEN-4 (DESIGN CHOICE, log 4). -/
opaque Config.fuseGrade : BitVec 4
opaque Config.fuseHbmPop : BitVec 4
opaque Config.fuseStepping : BitVec 24
/-- The identity less 1: it is never 0 or 0xFFFF_FFFF_FFFF (R3). -/
opaque Config.fuseUid : Fin (281474976710653 + 1)
/-- The fused port-to-ball skew of output n in 250 ps steps, plus 24 (Table TIM-25: −24 to 24). -/
opaque Config.fuseSkew : Nat → Fin (48 + 1)
/-- The fused core set point (Table GLB-17). -/
opaque Config.fuseVset : BitVec 5
/-- The fuses of the image loader as they stand at the model's first instant (Table CFG-14). -/
opaque Config.fuseKeyHash : Nat → Nat → BitVec 8
opaque Config.fuseKeyValid : BitVec 4
opaque Config.fuseKeyRevoked : BitVec 4
opaque Config.fuseSecFloor : BitVec 6
opaque Config.fuseOtpLocked : Bool
/-- HBM3E spare data lanes of one pseudo-channel (R123), which the spec does not count (log 16). -/
opaque Config.hbmLaneSpares : BitVec 8
/-- Spare rows of the plane store that the fused repair map leaves (R211), which differ from part to part (log 16). -/
opaque Config.storeSpareRows : BitVec 8
/-- Banks of one pseudo-channel less 1 (R120), which the spec does not count (log 16). -/
opaque Config.hbmBanks : BitVec 8
/-- Row activations per pseudo-channel that a stack's grant in mW allows in 1 us (R131), which the spec does not say
(log 16). -/
opaque Config.actLimit : Nat → BitVec 16
/-- A domain's power in 0.1 W for scheduled work of a class: an amount, with what is reserved (R391, R392). The coefficients are
fused at test and the spec does not give them (log 16). -/
opaque Config.workPower : Nat → Nat → Nat → BitVec 16
/-- The waveform class of a slot that shows a weight of a primary (Table SEQ-1), which the spec does not assign (log 33). -/
opaque Config.waveClass : Nat → Nat → BitVec 3
/-- The serial number of the metering die (R359). -/
opaque Config.meterSerial : BitVec 64

/-- The metering die's signature over a message (R377). -/
opaque Config.meterSign : List Byte → List Byte

/-- The CIE 1931 2 degree spectral locus at a wavelength in nm from 360 to 830, x and y in units of 2^-16: an
external standard whose numbers the spec does not carry (R184, log 21). -/
opaque Config.locusX : Nat → BitVec 16
opaque Config.locusY : Nat → BitVec 16
/-- The estimate of a group's primary whose emitters' estimates differ, x and y, of the emitters' estimates
(log 22): the spec does not say how emitters of one group combine. -/
opaque Config.groupMix : List (Rat × Rat) → Rat × Rat
/-- Spare rows and columns of the plane store left after power-up repair (R211, log 4). -/
opaque Config.fuseSpareRows : BitVec 8
opaque Config.fuseSpareCols : BitVec 8
/-- Where an FBC writeback frame's chroma headers (0) and bodies (1) lie, of the two addresses the spec gives
(R160, log 27). -/
opaque Config.wbChroma : Nat → Nat → Nat → BitVec 44
/-- A byte that lies outside the device, in host memory or in another device, as read at an instant by a context
at a virtual address (log 3). -/
opaque Config.outerByte : Nat → Nat → Nat → BitVec 8

/-- The identity that READ_ID returns after the serial number: FW_ID, FW_CHECK, the public key and its endorsement,
byte by byte (R375, log 3). -/
opaque Config.meterIdent : Nat → BitVec 8
/-- Byte `k` of an open byte string, the one of free value number `n` (log 3). -/
opaque Config.freeByte : Nat → Nat → BitVec 8

end Sys2Proof
end

