-- ==== Sys2Proof/Machine/RegNames.lean ====
section
/-! DEFINITION. The addresses of the registers and the bit places of their fields, as the register
tables of spec/00 to spec/20 give them (block bases: Table GEN-9; R4, R5).
A register's key is its offset in the PF BAR0; an index beyond an array names no register, and has a key of its own beyond all
of them.
The context page of context c (Table HIF-3) has the key `ctxBase + 0x1_0000 * c`, whichever function's
BAR0 it is reached through. -/
namespace Sys2Proof.Machine

/-- A bit field `[hi:lo]` of the register with key `reg`. -/
structure Fld where
  reg : Nat
  hi : Nat
  lo : Nat
  deriving DecidableEq, Repr

/-- Where the model keys the context pages (Table HIF-3). -/
abbrev ctxBase : Nat := 0x10000000

/-- The doorbells of context c (R6, R80): its command ring's tail and, 4 bytes on, its event queue's head. -/
abbrev doorBase : Nat := 0x20000000
abbrev cmdDoor (c : Nat) : Nat := doorBase + 0x10 * c
abbrev evqDoor (c : Nat) : Nat := doorBase + 0x10 * c + 4

/-- The snapshot's words, the meter's answer and the copies of a context's limits (Tables GLB-2, HIF-3; MTR_MB_DATA). -/
abbrev GLB_SNAP_DATA (k : Nat) : Nat := if k < 1024 then 0x1000 + 4 * k else 0x40001000
abbrev MTR_MB_DATA (k : Nat) : Nat := if k < 512 then 0x2201000 + 4 * k else 0x40002000
abbrev HIF_CTX_LIMITS_VIEW (c i : Nat) : Nat := if c < 1024 ∧ i < 4 then ctxBase + 0x60 + 0x10000 * c + 4 * i else 0x40003000

abbrev GLB_DEVICE_ID : Nat := 0x0
abbrev GLB_DEVICE_ID.PART : Fld := ⟨GLB_DEVICE_ID, 31, 16⟩
abbrev GLB_DEVICE_ID.GRADE : Fld := ⟨GLB_DEVICE_ID, 15, 12⟩
abbrev GLB_DEVICE_ID.HBM_POP : Fld := ⟨GLB_DEVICE_ID, 11, 8⟩
abbrev GLB_DEVICE_ID.MTR_PRESENT : Fld := ⟨GLB_DEVICE_ID, 7, 7⟩
abbrev GLB_DEVICE_ID.HBM1_PRESENT : Fld := ⟨GLB_DEVICE_ID, 6, 6⟩
abbrev GLB_DEVICE_ID.HBM0_PRESENT : Fld := ⟨GLB_DEVICE_ID, 5, 5⟩
abbrev GLB_DEVICE_ID.STORE_PRESENT : Fld := ⟨GLB_DEVICE_ID, 4, 4⟩
abbrev GLB_STEPPING : Nat := 0x4
abbrev GLB_STEPPING.MAIN_MAJOR : Fld := ⟨GLB_STEPPING, 31, 24⟩
abbrev GLB_STEPPING.MAIN_MINOR : Fld := ⟨GLB_STEPPING, 23, 16⟩
abbrev GLB_STEPPING.STORE_STEP : Fld := ⟨GLB_STEPPING, 15, 8⟩
abbrev GLB_UID_LO : Nat := 0x8
abbrev GLB_UID_LO.UID_LOW : Fld := ⟨GLB_UID_LO, 31, 0⟩
abbrev GLB_UID_HI : Nat := 0xC
abbrev GLB_UID_HI.UID_HIGH : Fld := ⟨GLB_UID_HI, 15, 0⟩
abbrev TIM_REF_CTRL : Nat := 0x100000
abbrev TIM_REF_CTRL.PRIMARY : Fld := ⟨TIM_REF_CTRL, 2, 0⟩
abbrev TIM_REF_CTRL.FALLBACK1 : Fld := ⟨TIM_REF_CTRL, 6, 4⟩
abbrev TIM_REF_CTRL.FALLBACK2 : Fld := ⟨TIM_REF_CTRL, 10, 8⟩
abbrev TIM_REF_CTRL.AUTO_SWITCH : Fld := ⟨TIM_REF_CTRL, 16, 16⟩
abbrev TIM_REF_CTRL.REVERT : Fld := ⟨TIM_REF_CTRL, 17, 17⟩
abbrev TIM_REF_CTRL.PULLIN : Fld := ⟨TIM_REF_CTRL, 18, 18⟩
abbrev TIM_REF_STATUS : Nat := 0x100004
abbrev TIM_REF_STATUS.ACTIVE : Fld := ⟨TIM_REF_STATUS, 2, 0⟩
abbrev TIM_REF_STATUS.FREE_SRC : Fld := ⟨TIM_REF_STATUS, 3, 3⟩
abbrev TIM_REF_STATUS.GENLOCK_VALID : Fld := ⟨TIM_REF_STATUS, 8, 8⟩
abbrev TIM_REF_STATUS.FRAME_VALID : Fld := ⟨TIM_REF_STATUS, 9, 9⟩
abbrev TIM_REF_STATUS.LAXUS_VALID : Fld := ⟨TIM_REF_STATUS, 10, 10⟩
abbrev TIM_REF_STATUS.REF10M_VALID : Fld := ⟨TIM_REF_STATUS, 11, 11⟩
abbrev TIM_REF_STATUS.SWITCHES : Fld := ⟨TIM_REF_STATUS, 23, 16⟩
abbrev TIM_REF_STATUS.OUTLIERS : Fld := ⟨TIM_REF_STATUS, 31, 24⟩
abbrev TIM_GENLOCK_CFG : Nat := 0x100008
abbrev TIM_GENLOCK_CFG.TRILEVEL : Fld := ⟨TIM_GENLOCK_CFG, 0, 0⟩
abbrev TIM_GENLOCK_CFG.INTERLACED : Fld := ⟨TIM_GENLOCK_CFG, 1, 1⟩
abbrev TIM_GENLOCK_CFG.FRAME_FALL : Fld := ⟨TIM_GENLOCK_CFG, 2, 2⟩
abbrev TIM_GENLOCK_CFG.LINES : Fld := ⟨TIM_GENLOCK_CFG, 27, 16⟩
abbrev TIM_LF_CFG : Nat := 0x10000C
abbrev TIM_LF_CFG.MUL : Fld := ⟨TIM_LF_CFG, 5, 0⟩
abbrev TIM_LF_CFG.DIV : Fld := ⟨TIM_LF_CFG, 11, 8⟩
abbrev TIM_FREERUN_PERIOD : Nat := 0x100010
abbrev TIM_FREERUN_PERIOD.PERIOD : Fld := ⟨TIM_FREERUN_PERIOD, 31, 0⟩
abbrev TIM_PHASE_OFFSET : Nat := 0x100014
abbrev TIM_PHASE_OFFSET.OFFSET : Fld := ⟨TIM_PHASE_OFFSET, 23, 0⟩
abbrev TIM_DPLL_CFG : Nat := 0x100018
abbrev TIM_DPLL_CFG.BW : Fld := ⟨TIM_DPLL_CFG, 1, 0⟩
abbrev TIM_DPLL_CFG.HOLDOVER_S : Fld := ⟨TIM_DPLL_CFG, 11, 8⟩
abbrev TIM_DPLL_STATUS : Nat := 0x10001C
abbrev TIM_DPLL_STATUS.STATE : Fld := ⟨TIM_DPLL_STATUS, 2, 0⟩
abbrev TIM_DPLL_STATUS.HOLDOVER_LEFT : Fld := ⟨TIM_DPLL_STATUS, 15, 8⟩
abbrev TIM_DPLL_STATUS.FREQ_OFFSET : Fld := ⟨TIM_DPLL_STATUS, 31, 16⟩
abbrev TIM_LF_PERIOD : Nat := 0x100020
abbrev TIM_LF_PERIOD.STEPS : Fld := ⟨TIM_LF_PERIOD, 31, 0⟩
abbrev TIM_SYSTIME_CTRL : Nat := 0x100024
abbrev TIM_SYSTIME_CTRL.STEP_ARM : Fld := ⟨TIM_SYSTIME_CTRL, 0, 0⟩
abbrev TIM_SYSTIME_CTRL.SLEW_EN : Fld := ⟨TIM_SYSTIME_CTRL, 1, 1⟩
abbrev TIM_SYSTIME_CTRL.SLEW : Fld := ⟨TIM_SYSTIME_CTRL, 31, 16⟩
abbrev TIM_SYSTIME_SET_LO : Nat := 0x100028
abbrev TIM_SYSTIME_SET_LO.FRACTION : Fld := ⟨TIM_SYSTIME_SET_LO, 31, 0⟩
abbrev TIM_SYSTIME_SET_HI : Nat := 0x10002C
abbrev TIM_SYSTIME_SET_HI.SECONDS : Fld := ⟨TIM_SYSTIME_SET_HI, 31, 0⟩
abbrev TIM_SHUT_CTRL (i : Nat) : Nat := if i < 4 then 0x100040 + 0x20 * i else 0x40004000
abbrev TIM_SHUT_CTRL.MODE (i : Nat) : Fld := ⟨TIM_SHUT_CTRL i, 1, 0⟩
abbrev TIM_SHUT_CTRL.POL (i : Nat) : Fld := ⟨TIM_SHUT_CTRL i, 2, 2⟩
abbrev TIM_SHUT_CTRL.PROTECT (i : Nat) : Fld := ⟨TIM_SHUT_CTRL i, 3, 3⟩
abbrev TIM_SHUT_CTRL.FRAME_LFS_M1 (i : Nat) : Fld := ⟨TIM_SHUT_CTRL i, 6, 4⟩
abbrev TIM_SHUT_CTRL.ALIGN (i : Nat) : Fld := ⟨TIM_SHUT_CTRL i, 10, 8⟩
abbrev TIM_SHUT_CTRL.JITTER_BOUND (i : Nat) : Fld := ⟨TIM_SHUT_CTRL i, 19, 12⟩
abbrev TIM_SHUT_ANGLE (i : Nat) : Nat := if i < 4 then 0x100044 + 0x20 * i else 0x40005000
abbrev TIM_SHUT_ANGLE.ANGLE (i : Nat) : Fld := ⟨TIM_SHUT_ANGLE i, 15, 0⟩
abbrev TIM_SHUT_OPEN (i : Nat) : Nat := if i < 4 then 0x100048 + 0x20 * i else 0x40006000
abbrev TIM_SHUT_OPEN.OPEN (i : Nat) : Fld := ⟨TIM_SHUT_OPEN i, 26, 0⟩
abbrev TIM_SHUT_STATUS (i : Nat) : Nat := if i < 4 then 0x10004C + 0x20 * i else 0x40007000
abbrev TIM_SHUT_STATUS.STATE (i : Nat) : Fld := ⟨TIM_SHUT_STATUS i, 2, 0⟩
abbrev TIM_SHUT_STATUS.RATE_MISMATCH (i : Nat) : Fld := ⟨TIM_SHUT_STATUS i, 3, 3⟩
abbrev TIM_SHUT_STATUS.ALIGN_ACT (i : Nat) : Fld := ⟨TIM_SHUT_STATUS i, 6, 4⟩
abbrev TIM_SHUT_STATUS.FLAGGED (i : Nat) : Fld := ⟨TIM_SHUT_STATUS i, 15, 8⟩
abbrev TIM_SHUT_STATUS.CHANGES (i : Nat) : Fld := ⟨TIM_SHUT_STATUS i, 31, 16⟩
abbrev TIM_SHUT_WIN_OPEN (i : Nat) : Nat := if i < 4 then 0x100050 + 0x20 * i else 0x40008000
abbrev TIM_SHUT_WIN_OPEN.OPEN (i : Nat) : Fld := ⟨TIM_SHUT_WIN_OPEN i, 26, 0⟩
abbrev TIM_SHUT_WIN_LEN (i : Nat) : Nat := if i < 4 then 0x100054 + 0x20 * i else 0x40009000
abbrev TIM_SHUT_WIN_LEN.LEN (i : Nat) : Fld := ⟨TIM_SHUT_WIN_LEN i, 27, 0⟩
abbrev TIM_SHUT_JITTER (i : Nat) : Nat := if i < 4 then 0x100058 + 0x20 * i else 0x4000A000
abbrev TIM_SHUT_JITTER.PP (i : Nat) : Fld := ⟨TIM_SHUT_JITTER i, 15, 0⟩
abbrev TIM_OUT_CF (i : Nat) : Nat := if i < 20 then 0x100100 + 0x4 * i else 0x4000B000
abbrev TIM_OUT_CF.CF_MIN (i : Nat) : Fld := ⟨TIM_OUT_CF i, 7, 0⟩
abbrev TIM_OUT_CF.CF_MAX (i : Nat) : Fld := ⟨TIM_OUT_CF i, 15, 8⟩
abbrev TIM_OUT_CFN (i : Nat) : Nat := if i < 20 then 0x100180 + 0x4 * i else 0x4000C000
abbrev TIM_OUT_CFN.CFN (i : Nat) : Fld := ⟨TIM_OUT_CFN i, 31, 0⟩
abbrev TIM_OUT_REPEATS (i : Nat) : Nat := if i < 20 then 0x100200 + 0x4 * i else 0x4000D000
abbrev TIM_OUT_REPEATS.COUNT (i : Nat) : Fld := ⟨TIM_OUT_REPEATS i, 31, 0⟩
abbrev TIM_OUT_LATE (i : Nat) : Nat := if i < 20 then 0x100280 + 0x4 * i else 0x4000E000
abbrev TIM_OUT_LATE.COUNT (i : Nat) : Fld := ⟨TIM_OUT_LATE i, 31, 0⟩
abbrev TIM_OUT_SKEW (i : Nat) : Nat := if i < 20 then 0x100300 + 0x4 * i else 0x4000F000
abbrev TIM_OUT_SKEW.SKEW (i : Nat) : Fld := ⟨TIM_OUT_SKEW i, 7, 0⟩
abbrev TIM_OUT_SKEW.COMP (i : Nat) : Fld := ⟨TIM_OUT_SKEW i, 31, 31⟩
abbrev GLB_SYSTIME_LO : Nat := 0x10
abbrev GLB_SYSTIME_LO.FRACTION : Fld := ⟨GLB_SYSTIME_LO, 31, 0⟩
abbrev GLB_SYSTIME_HI : Nat := 0x14
abbrev GLB_SYSTIME_HI.SECONDS : Fld := ⟨GLB_SYSTIME_HI, 31, 0⟩
abbrev GLB_LFN_LATCHED : Nat := 0x18
abbrev GLB_LFN_LATCHED.LFN : Fld := ⟨GLB_LFN_LATCHED, 31, 0⟩
abbrev GLB_PHASE_LATCHED : Nat := 0x1C
abbrev GLB_PHASE_LATCHED.PHASE : Fld := ⟨GLB_PHASE_LATCHED, 23, 0⟩
abbrev GLB_SNAP_CTRL : Nat := 0x100
abbrev GLB_SNAP_CTRL.ARM : Fld := ⟨GLB_SNAP_CTRL, 0, 0⟩
abbrev GLB_SNAP_CTRL.RELEASE : Fld := ⟨GLB_SNAP_CTRL, 1, 1⟩
abbrev GLB_SNAP_CTRL.AT_LFN : Fld := ⟨GLB_SNAP_CTRL, 2, 2⟩
abbrev GLB_SNAP_SEL : Nat := 0x104
abbrev GLB_SNAP_SEL.GROUPS : Fld := ⟨GLB_SNAP_SEL, 15, 1⟩
abbrev GLB_SNAP_TARGET : Nat := 0x108
abbrev GLB_SNAP_TARGET.LFN : Fld := ⟨GLB_SNAP_TARGET, 31, 0⟩
abbrev GLB_SNAP_STATUS : Nat := 0x10C
abbrev GLB_SNAP_STATUS.STATE : Fld := ⟨GLB_SNAP_STATUS, 2, 0⟩
abbrev GLB_SNAP_STATUS.TRUNC : Fld := ⟨GLB_SNAP_STATUS, 3, 3⟩
abbrev GLB_SNAP_LFN : Nat := 0x110
abbrev GLB_SNAP_LFN.LFN : Fld := ⟨GLB_SNAP_LFN, 31, 0⟩
abbrev CFG_STATUS : Nat := 0x200000
abbrev CFG_STATUS.STATE : Fld := ⟨CFG_STATUS, 2, 0⟩
abbrev CFG_STATUS.SRC_ACT : Fld := ⟨CFG_STATUS, 5, 4⟩
abbrev CFG_STATUS.BOOT_SEL : Fld := ⟨CFG_STATUS, 6, 6⟩
abbrev CFG_STATUS.FAIL : Fld := ⟨CFG_STATUS, 15, 8⟩
abbrev CFG_STATUS.RELOAD : Fld := ⟨CFG_STATUS, 18, 16⟩
abbrev CFG_FAIL_INFO : Nat := 0x200004
abbrev CFG_FAIL_INFO.ENTRY : Fld := ⟨CFG_FAIL_INFO, 5, 0⟩
abbrev CFG_FAIL_INFO.NO_ENTRY : Fld := ⟨CFG_FAIL_INFO, 6, 6⟩
abbrev CFG_FAIL_INFO.CHECK : Fld := ⟨CFG_FAIL_INFO, 11, 8⟩
abbrev CFG_FAIL_INFO.DETAIL : Fld := ⟨CFG_FAIL_INFO, 31, 16⟩
abbrev CFG_IMAGE_BUILD : Nat := 0x200008
abbrev CFG_IMAGE_BUILD.BUILD : Fld := ⟨CFG_IMAGE_BUILD, 31, 0⟩
abbrev CFG_IMAGE_INFO : Nat := 0x20000C
abbrev CFG_IMAGE_INFO.SECVER : Fld := ⟨CFG_IMAGE_INFO, 5, 0⟩
abbrev CFG_IMAGE_INFO.KEY_SLOT : Fld := ⟨CFG_IMAGE_INFO, 9, 8⟩
abbrev CFG_IMAGE_INFO.RELOADS : Fld := ⟨CFG_IMAGE_INFO, 31, 16⟩
abbrev CFG_TOPO_HASH (i : Nat) : Nat := if i < 12 then 0x200040 + 0x4 * i else 0x40010000
abbrev CFG_TOPO_HASH.HASH (i : Nat) : Fld := ⟨CFG_TOPO_HASH i, 31, 0⟩
abbrev CFG_LOAD_CTRL : Nat := 0x200010
abbrev CFG_LOAD_CTRL.START : Fld := ⟨CFG_LOAD_CTRL, 0, 0⟩
abbrev CFG_LOAD_CTRL.KIND : Fld := ⟨CFG_LOAD_CTRL, 1, 1⟩
abbrev CFG_LOAD_CTRL.FROM_HOST : Fld := ⟨CFG_LOAD_CTRL, 2, 2⟩
abbrev CFG_HOST_ADDR_LO : Nat := 0x200014
abbrev CFG_HOST_ADDR_LO.ADDR_LOW : Fld := ⟨CFG_HOST_ADDR_LO, 31, 6⟩
abbrev CFG_HOST_ADDR_HI : Nat := 0x200018
abbrev CFG_HOST_ADDR_HI.ADDR_HIGH : Fld := ⟨CFG_HOST_ADDR_HI, 31, 0⟩
abbrev CFG_HOST_LEN : Nat := 0x20001C
abbrev CFG_HOST_LEN.LEN : Fld := ⟨CFG_HOST_LEN, 26, 0⟩
abbrev CFG_RELOAD_TARGET : Nat := 0x200020
abbrev CFG_RELOAD_TARGET.LFN : Fld := ⟨CFG_RELOAD_TARGET, 31, 0⟩
abbrev CFG_RELOAD_APPLIED : Nat := 0x200024
abbrev CFG_RELOAD_APPLIED.LFN : Fld := ⟨CFG_RELOAD_APPLIED, 31, 0⟩
abbrev CFG_RELOAD_TARGET_CTRL : Nat := 0x200028
abbrev CFG_RELOAD_TARGET_CTRL.AT_LFN : Fld := ⟨CFG_RELOAD_TARGET_CTRL, 0, 0⟩
abbrev CFG_OTP_STATUS : Nat := 0x200030
abbrev CFG_OTP_STATUS.KEY_VALID : Fld := ⟨CFG_OTP_STATUS, 3, 0⟩
abbrev CFG_OTP_STATUS.KEY_REVOKED : Fld := ⟨CFG_OTP_STATUS, 7, 4⟩
abbrev CFG_OTP_STATUS.SECVER_FLOOR : Fld := ⟨CFG_OTP_STATUS, 13, 8⟩
abbrev CFG_OTP_STATUS.LOCKED : Fld := ⟨CFG_OTP_STATUS, 31, 31⟩
abbrev CFG_OTP_PROG : Nat := 0x200034
abbrev CFG_OTP_PROG.DATA : Fld := ⟨CFG_OTP_PROG, 7, 0⟩
abbrev CFG_OTP_PROG.INDEX : Fld := ⟨CFG_OTP_PROG, 15, 8⟩
abbrev CFG_OTP_PROG.OP : Fld := ⟨CFG_OTP_PROG, 18, 16⟩
abbrev CFG_OTP_PROG.SLOT : Fld := ⟨CFG_OTP_PROG, 21, 20⟩
abbrev HIF_CTRL : Nat := 0x300000
abbrev HIF_CTRL.PERST_CLEARS : Fld := ⟨HIF_CTRL, 0, 0⟩
abbrev HIF_CTRL.PF_GROUP : Fld := ⟨HIF_CTRL, 13, 8⟩
abbrev HIF_STATUS : Nat := 0x300004
abbrev HIF_STATUS.STARTUP_DONE : Fld := ⟨HIF_STATUS, 0, 0⟩
abbrev HIF_STATUS.LINK_UP : Fld := ⟨HIF_STATUS, 1, 1⟩
abbrev HIF_STATUS.NUM_VFS : Fld := ⟨HIF_STATUS, 15, 8⟩
abbrev HIF_STATUS.PERSTS : Fld := ⟨HIF_STATUS, 23, 16⟩
abbrev HIF_STATUS.SCRUB_BUSY : Fld := ⟨HIF_STATUS, 24, 24⟩
abbrev HIF_POOL_FREE : Nat := 0x300008
abbrev HIF_POOL_FREE.PAGES : Fld := ⟨HIF_POOL_FREE, 20, 0⟩
abbrev HIF_DEVQ_BASE_LO : Nat := 0x300020
abbrev HIF_DEVQ_BASE_LO.ADDR_LOW : Fld := ⟨HIF_DEVQ_BASE_LO, 31, 12⟩
abbrev HIF_DEVQ_BASE_HI : Nat := 0x300024
abbrev HIF_DEVQ_BASE_HI.ADDR_HIGH : Fld := ⟨HIF_DEVQ_BASE_HI, 31, 0⟩
abbrev HIF_DEVQ_CFG : Nat := 0x300028
abbrev HIF_DEVQ_TAIL : Nat := 0x30002C
abbrev HIF_DEVQ_TAIL.TAIL : Fld := ⟨HIF_DEVQ_TAIL, 16, 0⟩
abbrev HIF_DEVQ_HEAD : Nat := 0x300030
abbrev HIF_DEVQ_HEAD.HEAD : Fld := ⟨HIF_DEVQ_HEAD, 16, 0⟩
abbrev HIF_DEVQ_DROPS : Nat := 0x300034
abbrev HIF_DEVQ_DROPS.COUNT : Fld := ⟨HIF_DEVQ_DROPS, 31, 0⟩
abbrev HIF_GROUP_CTRL (i : Nat) : Nat := if i < 64 then 0x301000 + 0x4 * i else 0x40011000
abbrev HIF_GROUP_CTRL.AON (i : Nat) : Fld := ⟨HIF_GROUP_CTRL i, 0, 0⟩
abbrev HIF_GROUP_CTRL.WAIT_MAX (i : Nat) : Fld := ⟨HIF_GROUP_CTRL i, 15, 8⟩
abbrev HIF_GROUP_CTRL.PENDING (i : Nat) : Fld := ⟨HIF_GROUP_CTRL i, 16, 16⟩
abbrev HIF_GROUP_CTRL.TIMEOUTS (i : Nat) : Fld := ⟨HIF_GROUP_CTRL i, 31, 24⟩
abbrev HIF_FN_PASID (i : Nat) : Nat := if i < 256 then 0x302000 + 0x10 * i else 0x40012000
abbrev HIF_FN_PASID.BASE (i : Nat) : Fld := ⟨HIF_FN_PASID i, 17, 0⟩
abbrev HIF_FN_PASID.EN (i : Nat) : Fld := ⟨HIF_FN_PASID i, 31, 31⟩
abbrev HIF_FN_STATUS (i : Nat) : Nat := if i < 256 then 0x302004 + 0x10 * i else 0x40013000
abbrev HIF_FN_STATUS.FLR (i : Nat) : Fld := ⟨HIF_FN_STATUS i, 0, 0⟩
abbrev HIF_FN_STATUS.ME (i : Nat) : Fld := ⟨HIF_FN_STATUS i, 1, 1⟩
abbrev HIF_FN_STATUS.GEN (i : Nat) : Fld := ⟨HIF_FN_STATUS i, 2, 2⟩
abbrev HIF_FN_STATUS.HELD (i : Nat) : Fld := ⟨HIF_FN_STATUS i, 10, 4⟩
abbrev HIF_FN_STATUS.STALE (i : Nat) : Fld := ⟨HIF_FN_STATUS i, 31, 16⟩
abbrev HIF_FN_DROPS (i : Nat) : Nat := if i < 256 then 0x302008 + 0x10 * i else 0x40014000
abbrev HIF_FN_DROPS.COUNT (i : Nat) : Fld := ⟨HIF_FN_DROPS i, 31, 0⟩
abbrev HIF_CTX_LIMITS_0 (i : Nat) : Nat := if i < 1024 then 0x310000 + 0x10 * i else 0x40015000
abbrev HIF_CTX_LIMITS_0.LAYERS (i : Nat) : Fld := ⟨HIF_CTX_LIMITS_0 i, 7, 0⟩
abbrev HIF_CTX_LIMITS_0.LAYER_MAX (i : Nat) : Fld := ⟨HIF_CTX_LIMITS_0 i, 15, 8⟩
abbrev HIF_CTX_LIMITS_0.GROUP (i : Nat) : Fld := ⟨HIF_CTX_LIMITS_0 i, 21, 16⟩
abbrev HIF_CTX_LIMITS_0.ENABLE (i : Nat) : Fld := ⟨HIF_CTX_LIMITS_0 i, 31, 31⟩
abbrev HIF_CTX_LIMITS_1 (i : Nat) : Nat := if i < 1024 then 0x310004 + 0x10 * i else 0x40016000
abbrev HIF_CTX_LIMITS_1.PAGES (i : Nat) : Fld := ⟨HIF_CTX_LIMITS_1 i, 20, 0⟩
abbrev HIF_CTX_LIMITS_2 (i : Nat) : Nat := if i < 1024 then 0x310008 + 0x10 * i else 0x40017000
abbrev HIF_CTX_LIMITS_2.FETCH_RSV (i : Nat) : Fld := ⟨HIF_CTX_LIMITS_2 i, 12, 0⟩
abbrev HIF_CTX_LIMITS_3 (i : Nat) : Nat := if i < 1024 then 0x31000C + 0x10 * i else 0x40018000
abbrev HIF_CTX_LIMITS_3.OUTPUTS (i : Nat) : Fld := ⟨HIF_CTX_LIMITS_3 i, 19, 0⟩
abbrev HIF_CTX_COMMIT (i : Nat) : Nat := if i < 1024 then 0x10000008 + 0x10000 * i else 0x40019000
abbrev HIF_CTX_COMMIT.REQ (i : Nat) : Fld := ⟨HIF_CTX_COMMIT i, 0, 0⟩
abbrev HIF_CTX_COMMIT.CANCEL (i : Nat) : Fld := ⟨HIF_CTX_COMMIT i, 1, 1⟩
abbrev HIF_CTX_COMMIT.AT_LFN (i : Nat) : Fld := ⟨HIF_CTX_COMMIT i, 2, 2⟩
abbrev HIF_CTX_COMMIT.TAG (i : Nat) : Fld := ⟨HIF_CTX_COMMIT i, 31, 16⟩
abbrev HIF_CTX_COMMIT_TARGET (i : Nat) : Nat := if i < 1024 then 0x1000000C + 0x10000 * i else 0x4001A000
abbrev HIF_CTX_COMMIT_TARGET.LFN (i : Nat) : Fld := ⟨HIF_CTX_COMMIT_TARGET i, 31, 0⟩
abbrev HIF_CTX_COMMIT_STATUS (i : Nat) : Nat := if i < 1024 then 0x10000010 + 0x10000 * i else 0x4001B000
abbrev HIF_CTX_COMMIT_STATUS.STATE (i : Nat) : Fld := ⟨HIF_CTX_COMMIT_STATUS i, 2, 0⟩
abbrev HIF_CTX_COMMIT_STATUS.NR_CAUSE (i : Nat) : Fld := ⟨HIF_CTX_COMMIT_STATUS i, 7, 4⟩
abbrev HIF_CTX_COMMIT_STATUS.REASON (i : Nat) : Fld := ⟨HIF_CTX_COMMIT_STATUS i, 11, 8⟩
abbrev HIF_CTX_COMMIT_STATUS.TAG (i : Nat) : Fld := ⟨HIF_CTX_COMMIT_STATUS i, 31, 16⟩
abbrev HIF_CTX_COMMIT_APPLIED (i : Nat) : Nat := if i < 1024 then 0x10000014 + 0x10000 * i else 0x4001C000
abbrev HIF_CTX_COMMIT_APPLIED.LFN (i : Nat) : Fld := ⟨HIF_CTX_COMMIT_APPLIED i, 31, 0⟩
abbrev HIF_CTX_CTRL (i : Nat) : Nat := if i < 1024 then 0x10000000 + 0x10000 * i else 0x4001D000
abbrev HIF_CTX_CTRL.RESET (i : Nat) : Fld := ⟨HIF_CTX_CTRL i, 0, 0⟩
abbrev HIF_CTX_STATUS (i : Nat) : Nat := if i < 1024 then 0x10000004 + 0x10000 * i else 0x4001E000
abbrev HIF_CTX_STATUS.EXISTS (i : Nat) : Fld := ⟨HIF_CTX_STATUS i, 0, 0⟩
abbrev HIF_CTX_STATUS.LAYERS (i : Nat) : Fld := ⟨HIF_CTX_STATUS i, 15, 8⟩
abbrev HIF_CTX_STATUS.BUSY_WRITES (i : Nat) : Fld := ⟨HIF_CTX_STATUS i, 23, 16⟩
abbrev HIF_CTX_STATUS.FAULTS (i : Nat) : Fld := ⟨HIF_CTX_STATUS i, 31, 24⟩
abbrev HIF_CTX_LAYER_REQ (i : Nat) : Nat := if i < 1024 then 0x10000018 + 0x10000 * i else 0x4001F000
abbrev HIF_CTX_LAYER_REQ.SLOT (i : Nat) : Fld := ⟨HIF_CTX_LAYER_REQ i, 5, 0⟩
abbrev HIF_CTX_LAYER_REQ.VIDEO (i : Nat) : Fld := ⟨HIF_CTX_LAYER_REQ i, 8, 8⟩
abbrev HIF_CTX_LAYER_REQ.OP (i : Nat) : Fld := ⟨HIF_CTX_LAYER_REQ i, 13, 12⟩
abbrev HIF_CTX_LAYER_RESULT (i : Nat) : Nat := if i < 1024 then 0x1000001C + 0x10000 * i else 0x40020000
abbrev HIF_CTX_LAYER_RESULT.SLOT (i : Nat) : Fld := ⟨HIF_CTX_LAYER_RESULT i, 5, 0⟩
abbrev HIF_CTX_LAYER_RESULT.LAYER (i : Nat) : Fld := ⟨HIF_CTX_LAYER_RESULT i, 15, 8⟩
abbrev HIF_CTX_LAYER_RESULT.CODE (i : Nat) : Fld := ⟨HIF_CTX_LAYER_RESULT i, 19, 16⟩
abbrev HIF_CTX_APERTURE (i : Nat) : Nat := if i < 1024 then 0x10000044 + 0x10000 * i else 0x40021000
abbrev HIF_CTX_APERTURE.BASE (i : Nat) : Fld := ⟨HIF_CTX_APERTURE i, 11, 0⟩
abbrev HIF_CTX_FETCH_DEMAND (i : Nat) : Nat := if i < 1024 then 0x10000048 + 0x10000 * i else 0x40022000
abbrev HIF_CTX_FETCH_DEMAND.DEMAND (i : Nat) : Fld := ⟨HIF_CTX_FETCH_DEMAND i, 12, 0⟩
abbrev HIF_CTX_FETCH_DEMAND.OVER (i : Nat) : Fld := ⟨HIF_CTX_FETCH_DEMAND i, 31, 31⟩
abbrev HIF_CTX_PAGES (i : Nat) : Nat := if i < 1024 then 0x1000004C + 0x10000 * i else 0x40023000
abbrev HIF_CTX_PAGES.OWNED (i : Nat) : Fld := ⟨HIF_CTX_PAGES i, 20, 0⟩
abbrev HIF_CTX_FAULT_LO (i : Nat) : Nat := if i < 1024 then 0x10000050 + 0x10000 * i else 0x40024000
abbrev HIF_CTX_FAULT_LO.KIND (i : Nat) : Fld := ⟨HIF_CTX_FAULT_LO i, 3, 0⟩
abbrev HIF_CTX_FAULT_LO.VA_LOW (i : Nat) : Fld := ⟨HIF_CTX_FAULT_LO i, 31, 16⟩
abbrev HIF_CTX_FAULT_HI (i : Nat) : Nat := if i < 1024 then 0x10000054 + 0x10000 * i else 0x40025000
abbrev HIF_CTX_FAULT_HI.VA_HIGH (i : Nat) : Fld := ⟨HIF_CTX_FAULT_HI i, 11, 0⟩
abbrev HIF_CTX_CMDQ_BASE_LO (i : Nat) : Nat := if i < 1024 then 0x10000020 + 0x10000 * i else 0x40026000
abbrev HIF_CTX_CMDQ_BASE_LO.ADDR_LOW (i : Nat) : Fld := ⟨HIF_CTX_CMDQ_BASE_LO i, 31, 6⟩
abbrev HIF_CTX_CMDQ_BASE_HI (i : Nat) : Nat := if i < 1024 then 0x10000024 + 0x10000 * i else 0x40027000
abbrev HIF_CTX_CMDQ_BASE_HI.ADDR_HIGH (i : Nat) : Fld := ⟨HIF_CTX_CMDQ_BASE_HI i, 31, 0⟩
abbrev HIF_CTX_CMDQ_CFG (i : Nat) : Nat := if i < 1024 then 0x10000028 + 0x10000 * i else 0x40028000
abbrev HIF_CTX_CMDQ_CFG.SIZE (i : Nat) : Fld := ⟨HIF_CTX_CMDQ_CFG i, 3, 0⟩
abbrev HIF_CTX_CMDQ_CFG.EN (i : Nat) : Fld := ⟨HIF_CTX_CMDQ_CFG i, 8, 8⟩
abbrev HIF_CTX_CMDQ_HEAD (i : Nat) : Nat := if i < 1024 then 0x1000002C + 0x10000 * i else 0x40029000
abbrev HIF_CTX_CMDQ_HEAD.HEAD (i : Nat) : Fld := ⟨HIF_CTX_CMDQ_HEAD i, 11, 0⟩
abbrev HIF_CTX_EVQ_BASE_LO (i : Nat) : Nat := if i < 1024 then 0x10000030 + 0x10000 * i else 0x4002A000
abbrev HIF_CTX_EVQ_BASE_LO.ADDR_LOW (i : Nat) : Fld := ⟨HIF_CTX_EVQ_BASE_LO i, 31, 12⟩
abbrev HIF_CTX_EVQ_BASE_HI (i : Nat) : Nat := if i < 1024 then 0x10000034 + 0x10000 * i else 0x4002B000
abbrev HIF_CTX_EVQ_BASE_HI.ADDR_HIGH (i : Nat) : Fld := ⟨HIF_CTX_EVQ_BASE_HI i, 31, 0⟩
abbrev HIF_CTX_EVQ_CFG (i : Nat) : Nat := if i < 1024 then 0x10000038 + 0x10000 * i else 0x4002C000
abbrev HIF_CTX_EVQ_CFG.SIZE (i : Nat) : Fld := ⟨HIF_CTX_EVQ_CFG i, 4, 0⟩
abbrev HIF_CTX_EVQ_CFG.EN (i : Nat) : Fld := ⟨HIF_CTX_EVQ_CFG i, 8, 8⟩
abbrev HIF_CTX_EVQ_CFG.MOD_COUNT (i : Nat) : Fld := ⟨HIF_CTX_EVQ_CFG i, 23, 16⟩
abbrev HIF_CTX_EVQ_CFG.MOD_TIME (i : Nat) : Fld := ⟨HIF_CTX_EVQ_CFG i, 31, 24⟩
abbrev HIF_CTX_EVQ_TAIL (i : Nat) : Nat := if i < 1024 then 0x1000003C + 0x10000 * i else 0x4002D000
abbrev HIF_CTX_EVQ_TAIL.TAIL (i : Nat) : Fld := ⟨HIF_CTX_EVQ_TAIL i, 16, 0⟩
abbrev HIF_CTX_EVQ_DROPS (i : Nat) : Nat := if i < 1024 then 0x10000040 + 0x10000 * i else 0x4002E000
abbrev HIF_CTX_EVQ_DROPS.COUNT (i : Nat) : Fld := ⟨HIF_CTX_EVQ_DROPS i, 31, 0⟩
abbrev MEM_CTRL : Nat := 0x400000
abbrev MEM_CTRL.SR_EN : Fld := ⟨MEM_CTRL, 0, 0⟩
abbrev MEM_CTRL.PATROL : Fld := ⟨MEM_CTRL, 1, 1⟩
abbrev MEM_CTRL.BE_MIN : Fld := ⟨MEM_CTRL, 13, 8⟩
abbrev MEM_STATUS : Nat := 0x400004
abbrev MEM_STATUS.TRAINED : Fld := ⟨MEM_STATUS, 0, 0⟩
abbrev MEM_STATUS.TRAIN_FAIL : Fld := ⟨MEM_STATUS, 1, 1⟩
abbrev MEM_STATUS.SR_STATE : Fld := ⟨MEM_STATUS, 3, 2⟩
abbrev MEM_STATUS.DEGRADED : Fld := ⟨MEM_STATUS, 4, 4⟩
abbrev MEM_STATUS.FAIL_PC : Fld := ⟨MEM_STATUS, 13, 8⟩
abbrev MEM_INFLIGHT : Nat := 0x400008
abbrev MEM_INFLIGHT.NOW : Fld := ⟨MEM_INFLIGHT, 15, 0⟩
abbrev MEM_INFLIGHT.PEAK : Fld := ⟨MEM_INFLIGHT, 31, 16⟩
abbrev MEM_MAP_CFG : Nat := 0x40000C
abbrev MEM_MAP_CFG.GRAIN_LOG2 : Fld := ⟨MEM_MAP_CFG, 3, 0⟩
abbrev MEM_MAP_CFG.GROUPS : Fld := ⟨MEM_MAP_CFG, 14, 8⟩
abbrev MEM_GROUP (i : Nat) : Nat := if i < 64 then 0x400100 + 0x4 * i else 0x4002F000
abbrev MEM_GROUP.FIRST_PC (i : Nat) : Fld := ⟨MEM_GROUP i, 5, 0⟩
abbrev MEM_GROUP.LOG2_N (i : Nat) : Fld := ⟨MEM_GROUP i, 10, 8⟩
abbrev MEM_GROUP.ECC (i : Nat) : Fld := ⟨MEM_GROUP i, 11, 11⟩
abbrev MEM_GROUP.VALID (i : Nat) : Fld := ⟨MEM_GROUP i, 12, 12⟩
abbrev MEM_SR_CFG : Nat := 0x400010
abbrev MEM_SR_CFG.MARGIN : Fld := ⟨MEM_SR_CFG, 7, 0⟩
abbrev MEM_SR_CFG.MIN_DWELL : Fld := ⟨MEM_SR_CFG, 23, 8⟩
abbrev MEM_SR_STATUS : Nat := 0x400014
abbrev MEM_SR_STATUS.ENTRIES : Fld := ⟨MEM_SR_STATUS, 23, 0⟩
abbrev MEM_SR_STATUS.LAST_WAKE : Fld := ⟨MEM_SR_STATUS, 26, 24⟩
abbrev MEM_REFRESH_CFG : Nat := 0x400018
abbrev MEM_REFRESH_CFG.POSTPONE_MAX : Fld := ⟨MEM_REFRESH_CFG, 3, 0⟩
abbrev MEM_RETRAIN_CFG : Nat := 0x40001C
abbrev MEM_RETRAIN_CFG.PERIOD_MS : Fld := ⟨MEM_RETRAIN_CFG, 15, 0⟩
abbrev MEM_STACK_TEMP (i : Nat) : Nat := if i < 2 then 0x400020 + 0x4 * i else 0x40030000
abbrev MEM_STACK_TEMP.TEMP (i : Nat) : Fld := ⟨MEM_STACK_TEMP i, 7, 0⟩
abbrev MEM_STACK_TEMP.BAND (i : Nat) : Fld := ⟨MEM_STACK_TEMP i, 10, 8⟩
abbrev MEM_STACK_TEMP.READ_FAIL (i : Nat) : Fld := ⟨MEM_STACK_TEMP i, 11, 11⟩
abbrev MEM_ECC_ADDR_LO : Nat := 0x400028
abbrev MEM_ECC_ADDR_LO.DPA_LOW : Fld := ⟨MEM_ECC_ADDR_LO, 31, 6⟩
abbrev MEM_ECC_ADDR_HI : Nat := 0x40002C
abbrev MEM_ECC_ADDR_HI.DPA_HIGH : Fld := ⟨MEM_ECC_ADDR_HI, 4, 0⟩
abbrev MEM_CTL_RAW (i : Nat) : Nat := if i < 8 then 0x400200 + 0x20 * i else 0x40031000
abbrev MEM_CTL_RAW.WAITS (i : Nat) : Fld := ⟨MEM_CTL_RAW i, 31, 0⟩
abbrev MEM_CTL_REFRESH (i : Nat) : Nat := if i < 8 then 0x400204 + 0x20 * i else 0x40032000
abbrev MEM_CTL_REFRESH.FORCED (i : Nat) : Fld := ⟨MEM_CTL_REFRESH i, 15, 0⟩
abbrev MEM_CTL_REFRESH.MAX_OWED (i : Nat) : Fld := ⟨MEM_CTL_REFRESH i, 19, 16⟩
abbrev MEM_CTL_PARITY (i : Nat) : Nat := if i < 8 then 0x400208 + 0x20 * i else 0x40033000
abbrev MEM_CTL_PARITY.ERRORS (i : Nat) : Fld := ⟨MEM_CTL_PARITY i, 15, 0⟩
abbrev MEM_CTL_PARITY.REMAPS (i : Nat) : Fld := ⟨MEM_CTL_PARITY i, 23, 16⟩
abbrev MEM_CTL_ECC (i : Nat) : Nat := if i < 8 then 0x40020C + 0x20 * i else 0x40034000
abbrev MEM_CTL_ECC.CE (i : Nat) : Fld := ⟨MEM_CTL_ECC i, 15, 0⟩
abbrev MEM_CTL_ECC.UE (i : Nat) : Fld := ⟨MEM_CTL_ECC i, 31, 16⟩
abbrev MEM_ENG_STATUS (i : Nat) : Nat := if i < 48 then 0x400400 + 0x4 * i else 0x40035000
abbrev MEM_ENG_STATUS.TOL (i : Nat) : Fld := ⟨MEM_ENG_STATUS i, 15, 0⟩
abbrev MEM_ENG_STATUS.OUTSTANDING (i : Nat) : Fld := ⟨MEM_ENG_STATUS i, 26, 16⟩
abbrev MEM_ENG_STATUS.STALE (i : Nat) : Fld := ⟨MEM_ENG_STATUS i, 30, 27⟩
abbrev MEM_ENG_STATUS.GEN (i : Nat) : Fld := ⟨MEM_ENG_STATUS i, 31, 31⟩
abbrev MEM_ENG_MISSES (i : Nat) : Nat := if i < 48 then 0x400500 + 0x4 * i else 0x40036000
abbrev MEM_ENG_MISSES.COUNT (i : Nat) : Fld := ⟨MEM_ENG_MISSES i, 31, 0⟩
abbrev CMP_STATUS : Nat := 0x800000
abbrev CMP_STATUS.SLICES_ON : Fld := ⟨CMP_STATUS, 15, 0⟩
abbrev CMP_FORMING : Nat := 0x800004
abbrev CMP_FORMING.OUTPUTS : Fld := ⟨CMP_FORMING, 19, 0⟩
abbrev CMP_COEF_SEL : Nat := 0x800008
abbrev CMP_COEF_SEL.DIR : Fld := ⟨CMP_COEF_SEL, 0, 0⟩
abbrev CMP_COEF_SEL.BANK : Fld := ⟨CMP_COEF_SEL, 6, 4⟩
abbrev CMP_COEF_SEL.PHASE : Fld := ⟨CMP_COEF_SEL, 13, 8⟩
abbrev CMP_COEF_DATA (i : Nat) : Nat := if i < 3 then 0x80000C + 0x4 * i else 0x40037000
abbrev CMP_COEF_DATA.TAP_EVEN (i : Nat) : Fld := ⟨CMP_COEF_DATA i, 11, 0⟩
abbrev CMP_COEF_DATA.TAP_ODD (i : Nat) : Fld := ⟨CMP_COEF_DATA i, 27, 16⟩
abbrev CMP_DROP_STATUS : Nat := 0x800018
abbrev CMP_DROP_STATUS.SENT : Fld := ⟨CMP_DROP_STATUS, 15, 0⟩
abbrev CMP_DROP_STATUS.RECEIVED : Fld := ⟨CMP_DROP_STATUS, 31, 16⟩
abbrev CMP_FBC_ERRORS : Nat := 0x80001C
abbrev CMP_FBC_ERRORS.COUNT : Fld := ⟨CMP_FBC_ERRORS, 31, 0⟩
abbrev CMP_OUT_CTRL (i : Nat) : Nat := if i < 20 then 0x801000 + 0x80 * i else 0x40038000
abbrev CMP_OUT_CTRL.ORDER_LIST (i : Nat) : Fld := ⟨CMP_OUT_CTRL i, 0, 0⟩
abbrev CMP_OUT_CTRL.ORDER_LEN (i : Nat) : Fld := ⟨CMP_OUT_CTRL i, 6, 1⟩
abbrev CMP_OUT_CTRL.WARP_EN (i : Nat) : Fld := ⟨CMP_OUT_CTRL i, 8, 8⟩
abbrev CMP_OUT_CTRL.BLEND_EN (i : Nat) : Fld := ⟨CMP_OUT_CTRL i, 9, 9⟩
abbrev CMP_OUT_CTRL.WB_EN (i : Nat) : Fld := ⟨CMP_OUT_CTRL i, 10, 10⟩
abbrev CMP_OUT_CTRL.WB_TAP (i : Nat) : Fld := ⟨CMP_OUT_CTRL i, 11, 11⟩
abbrev CMP_OUT_CTRL.WB_FMT (i : Nat) : Fld := ⟨CMP_OUT_CTRL i, 12, 12⟩
abbrev CMP_OUT_CTRL.WB_FBC (i : Nat) : Fld := ⟨CMP_OUT_CTRL i, 13, 13⟩
abbrev CMP_OUT_CTRL.WB_YC2020 (i : Nat) : Fld := ⟨CMP_OUT_CTRL i, 14, 14⟩
abbrev CMP_OUT_CTRL.WB_TF (i : Nat) : Fld := ⟨CMP_OUT_CTRL i, 18, 16⟩
abbrev CMP_OUT_CTRL.TBL_CTX (i : Nat) : Fld := ⟨CMP_OUT_CTRL i, 21, 20⟩
abbrev CMP_OUT_CTRL.MESH_SEQ (i : Nat) : Fld := ⟨CMP_OUT_CTRL i, 31, 28⟩
abbrev CMP_OUT_CANVAS (i : Nat) : Nat := if i < 20 then 0x801004 + 0x80 * i else 0x40039000
abbrev CMP_OUT_CANVAS.X (i : Nat) : Fld := ⟨CMP_OUT_CANVAS i, 15, 0⟩
abbrev CMP_OUT_CANVAS.Y (i : Nat) : Fld := ⟨CMP_OUT_CANVAS i, 31, 16⟩
abbrev CMP_OUT_INFO (i : Nat) : Nat := if i < 20 then 0x801008 + 0x80 * i else 0x4003A000
abbrev CMP_OUT_INFO.W_M1 (i : Nat) : Fld := ⟨CMP_OUT_INFO i, 12, 0⟩
abbrev CMP_OUT_INFO.H_M1 (i : Nat) : Fld := ⟨CMP_OUT_INFO i, 28, 16⟩
abbrev CMP_OUT_CUT (i : Nat) : Nat := if i < 20 then 0x80100C + 0x80 * i else 0x4003B000
abbrev CMP_OUT_CUT.FIRST_SLICE (i : Nat) : Fld := ⟨CMP_OUT_CUT i, 3, 0⟩
abbrev CMP_OUT_CUT.SLICES (i : Nat) : Fld := ⟨CMP_OUT_CUT i, 8, 4⟩
abbrev CMP_OUT_CUT.EXISTS (i : Nat) : Fld := ⟨CMP_OUT_CUT i, 12, 12⟩
abbrev CMP_OUT_CUT.WB_CAP (i : Nat) : Fld := ⟨CMP_OUT_CUT i, 13, 13⟩
abbrev CMP_OUT_CUT.FOLLOWER (i : Nat) : Fld := ⟨CMP_OUT_CUT i, 14, 14⟩
abbrev CMP_OUT_CUT.LEADER (i : Nat) : Fld := ⟨CMP_OUT_CUT i, 19, 16⟩
abbrev CMP_OUT_MASK_STRIDE (i : Nat) : Nat := if i < 20 then 0x801020 + 0x80 * i else 0x4003C000
abbrev CMP_OUT_MASK_STRIDE.STRIDE (i : Nat) : Fld := ⟨CMP_OUT_MASK_STRIDE i, 15, 0⟩
abbrev CMP_OUT_WB_STRIDE (i : Nat) : Nat := if i < 20 then 0x801034 + 0x80 * i else 0x4003D000
abbrev CMP_OUT_WB_STRIDE.STRIDE0 (i : Nat) : Fld := ⟨CMP_OUT_WB_STRIDE i, 15, 0⟩
abbrev CMP_OUT_WB_STRIDE.STRIDE1 (i : Nat) : Fld := ⟨CMP_OUT_WB_STRIDE i, 31, 16⟩
abbrev CMP_OUT_STATUS (i : Nat) : Nat := if i < 20 then 0x801038 + 0x80 * i else 0x4003E000
abbrev CMP_OUT_STATUS.LAYERS (i : Nat) : Fld := ⟨CMP_OUT_STATUS i, 5, 0⟩
abbrev CMP_OUT_STATUS.APRON (i : Nat) : Fld := ⟨CMP_OUT_STATUS i, 14, 8⟩
abbrev CMP_OUT_STATUS.FORMING (i : Nat) : Fld := ⟨CMP_OUT_STATUS i, 15, 15⟩
abbrev CMP_OUT_STATUS.REPAIR (i : Nat) : Fld := ⟨CMP_OUT_STATUS i, 16, 16⟩
abbrev CMP_OUT_STATUS.MESH_FAIL (i : Nat) : Fld := ⟨CMP_OUT_STATUS i, 17, 17⟩
abbrev CMP_OUT_WB_CFN (i : Nat) : Nat := if i < 20 then 0x80103C + 0x80 * i else 0x4003F000
abbrev CMP_OUT_WB_CFN.CFN (i : Nat) : Fld := ⟨CMP_OUT_WB_CFN i, 31, 0⟩
abbrev CMP_OUT_WB_STATUS (i : Nat) : Nat := if i < 20 then 0x801040 + 0x80 * i else 0x40040000
abbrev CMP_OUT_WB_STATUS.DONE (i : Nat) : Fld := ⟨CMP_OUT_WB_STATUS i, 0, 0⟩
abbrev CMP_OUT_WB_STATUS.INCOMPLETE (i : Nat) : Fld := ⟨CMP_OUT_WB_STATUS i, 1, 1⟩
abbrev CMP_OUT_WB_STATUS.FRAMES (i : Nat) : Fld := ⟨CMP_OUT_WB_STATUS i, 31, 16⟩
abbrev CMP_OUT_UNDERRUNS (i : Nat) : Nat := if i < 20 then 0x801044 + 0x80 * i else 0x40041000
abbrev CMP_OUT_UNDERRUNS.COUNT (i : Nat) : Fld := ⟨CMP_OUT_UNDERRUNS i, 31, 0⟩
abbrev CMP_OUT_WARP_ADDR_LO (i : Nat) : Nat := if i < 20 then 0x801010 + 0x80 * i else 0x40042000
abbrev CMP_OUT_WARP_ADDR_LO.VA_LOW (i : Nat) : Fld := ⟨CMP_OUT_WARP_ADDR_LO i, 31, 6⟩
abbrev CMP_OUT_WARP_ADDR_HI (i : Nat) : Nat := if i < 20 then 0x801014 + 0x80 * i else 0x40043000
abbrev CMP_OUT_WARP_ADDR_HI.VA_HIGH (i : Nat) : Fld := ⟨CMP_OUT_WARP_ADDR_HI i, 11, 0⟩
abbrev CMP_OUT_MASK_ADDR_LO (i : Nat) : Nat := if i < 20 then 0x801018 + 0x80 * i else 0x40044000
abbrev CMP_OUT_MASK_ADDR_LO.VA_LOW (i : Nat) : Fld := ⟨CMP_OUT_MASK_ADDR_LO i, 31, 6⟩
abbrev CMP_OUT_MASK_ADDR_HI (i : Nat) : Nat := if i < 20 then 0x80101C + 0x80 * i else 0x40045000
abbrev CMP_OUT_MASK_ADDR_HI.VA_HIGH (i : Nat) : Fld := ⟨CMP_OUT_MASK_ADDR_HI i, 11, 0⟩
abbrev CMP_OUT_WB_ADDR_LO (i : Nat) (j : Nat) : Nat := if i < 20 ∧ j < 2 then 0x801024 + 0x80 * i + 0x8 * j else 0x40046000
abbrev CMP_OUT_WB_ADDR_LO.VA_LOW (i : Nat) (j : Nat) : Fld := ⟨CMP_OUT_WB_ADDR_LO i j, 31, 6⟩
abbrev CMP_OUT_WB_ADDR_HI (i : Nat) (j : Nat) : Nat := if i < 20 ∧ j < 2 then 0x801028 + 0x80 * i + 0x8 * j else 0x40047000
abbrev CMP_OUT_WB_ADDR_HI.VA_HIGH (i : Nat) (j : Nat) : Fld := ⟨CMP_OUT_WB_ADDR_HI i j, 11, 0⟩
abbrev CMP_OUT_ORDER (i : Nat) (j : Nat) : Nat := if i < 20 ∧ j < 8 then 0x801048 + 0x80 * i + 0x4 * j else 0x40048000
abbrev CMP_OUT_ORDER.ENTRY_0 (i : Nat) (j : Nat) : Fld := ⟨CMP_OUT_ORDER i j, 7, 0⟩
abbrev CMP_OUT_ORDER.ENTRY_1 (i : Nat) (j : Nat) : Fld := ⟨CMP_OUT_ORDER i j, 15, 8⟩
abbrev CMP_OUT_ORDER.ENTRY_2 (i : Nat) (j : Nat) : Fld := ⟨CMP_OUT_ORDER i j, 23, 16⟩
abbrev CMP_OUT_ORDER.ENTRY_3 (i : Nat) (j : Nat) : Fld := ⟨CMP_OUT_ORDER i j, 31, 24⟩
abbrev CMP_LYR_CTRL (i : Nat) : Nat := if i < 256 then 0x810000 + 0x100 * i else 0x40049000
abbrev CMP_LYR_CTRL.EN (i : Nat) : Fld := ⟨CMP_LYR_CTRL i, 0, 0⟩
abbrev CMP_LYR_CTRL.MODE (i : Nat) : Fld := ⟨CMP_LYR_CTRL i, 2, 1⟩
abbrev CMP_LYR_CTRL.COHERENT (i : Nat) : Fld := ⟨CMP_LYR_CTRL i, 3, 3⟩
abbrev CMP_LYR_CTRL.AUTO_SCALE (i : Nat) : Fld := ⟨CMP_LYR_CTRL i, 4, 4⟩
abbrev CMP_LYR_CTRL.H_BANK (i : Nat) : Fld := ⟨CMP_LYR_CTRL i, 10, 8⟩
abbrev CMP_LYR_CTRL.V_BANK (i : Nat) : Fld := ⟨CMP_LYR_CTRL i, 14, 12⟩
abbrev CMP_LYR_CTRL.DROP_TAG (i : Nat) : Fld := ⟨CMP_LYR_CTRL i, 31, 16⟩
abbrev CMP_LYR_FORMAT (i : Nat) : Nat := if i < 256 then 0x810004 + 0x100 * i else 0x4004A000
abbrev CMP_LYR_FORMAT.FMT (i : Nat) : Fld := ⟨CMP_LYR_FORMAT i, 3, 0⟩
abbrev CMP_LYR_FORMAT.FBC (i : Nat) : Fld := ⟨CMP_LYR_FORMAT i, 4, 4⟩
abbrev CMP_LYR_FORMAT.FBC_MAX_SHIFT (i : Nat) : Fld := ⟨CMP_LYR_FORMAT i, 11, 8⟩
abbrev CMP_LYR_OUTPUTS (i : Nat) : Nat := if i < 256 then 0x810008 + 0x100 * i else 0x4004B000
abbrev CMP_LYR_OUTPUTS.MASK (i : Nat) : Fld := ⟨CMP_LYR_OUTPUTS i, 19, 0⟩
abbrev CMP_LYR_ALPHA (i : Nat) : Nat := if i < 256 then 0x81000C + 0x100 * i else 0x4004C000
abbrev CMP_LYR_ALPHA.PLANE_ALPHA (i : Nat) : Fld := ⟨CMP_LYR_ALPHA i, 16, 0⟩
abbrev CMP_LYR_STRIDE (i : Nat) : Nat := if i < 256 then 0x810030 + 0x100 * i else 0x4004D000
abbrev CMP_LYR_STRIDE.STRIDE0 (i : Nat) : Fld := ⟨CMP_LYR_STRIDE i, 15, 0⟩
abbrev CMP_LYR_STRIDE.STRIDE1 (i : Nat) : Fld := ⟨CMP_LYR_STRIDE i, 31, 16⟩
abbrev CMP_LYR_SURF (i : Nat) : Nat := if i < 256 then 0x810034 + 0x100 * i else 0x4004E000
abbrev CMP_LYR_SURF.W_M1 (i : Nat) : Fld := ⟨CMP_LYR_SURF i, 12, 0⟩
abbrev CMP_LYR_SURF.H_M1 (i : Nat) : Fld := ⟨CMP_LYR_SURF i, 28, 16⟩
abbrev CMP_LYR_CROP_XY (i : Nat) : Nat := if i < 256 then 0x810038 + 0x100 * i else 0x4004F000
abbrev CMP_LYR_CROP_XY.X (i : Nat) : Fld := ⟨CMP_LYR_CROP_XY i, 12, 0⟩
abbrev CMP_LYR_CROP_XY.Y (i : Nat) : Fld := ⟨CMP_LYR_CROP_XY i, 28, 16⟩
abbrev CMP_LYR_CROP_WH (i : Nat) : Nat := if i < 256 then 0x81003C + 0x100 * i else 0x40050000
abbrev CMP_LYR_CROP_WH.W_M1 (i : Nat) : Fld := ⟨CMP_LYR_CROP_WH i, 12, 0⟩
abbrev CMP_LYR_CROP_WH.H_M1 (i : Nat) : Fld := ⟨CMP_LYR_CROP_WH i, 28, 16⟩
abbrev CMP_LYR_DST_XY (i : Nat) : Nat := if i < 256 then 0x810040 + 0x100 * i else 0x40051000
abbrev CMP_LYR_DST_XY.X (i : Nat) : Fld := ⟨CMP_LYR_DST_XY i, 15, 0⟩
abbrev CMP_LYR_DST_XY.Y (i : Nat) : Fld := ⟨CMP_LYR_DST_XY i, 31, 16⟩
abbrev CMP_LYR_DST_WH (i : Nat) : Nat := if i < 256 then 0x810044 + 0x100 * i else 0x40052000
abbrev CMP_LYR_DST_WH.W_M1 (i : Nat) : Fld := ⟨CMP_LYR_DST_WH i, 14, 0⟩
abbrev CMP_LYR_DST_WH.H_M1 (i : Nat) : Fld := ⟨CMP_LYR_DST_WH i, 30, 16⟩
abbrev CMP_LYR_LIVE (i : Nat) : Nat := if i < 256 then 0x810060 + 0x100 * i else 0x40053000
abbrev CMP_LYR_LIVE.LIVE (i : Nat) : Fld := ⟨CMP_LYR_LIVE i, 0, 0⟩
abbrev CMP_LYR_LIVE.UPDATE (i : Nat) : Fld := ⟨CMP_LYR_LIVE i, 1, 1⟩
abbrev CMP_LYR_STATUS (i : Nat) : Nat := if i < 256 then 0x810080 + 0x100 * i else 0x40054000
abbrev CMP_LYR_STATUS.OFF (i : Nat) : Fld := ⟨CMP_LYR_STATUS i, 0, 0⟩
abbrev CMP_LYR_STATUS.CAUSE (i : Nat) : Fld := ⟨CMP_LYR_STATUS i, 3, 1⟩
abbrev CMP_LYR_STATUS.REMOTE (i : Nat) : Fld := ⟨CMP_LYR_STATUS i, 4, 4⟩
abbrev CMP_LYR_STATUS.OFFS (i : Nat) : Fld := ⟨CMP_LYR_STATUS i, 31, 16⟩
abbrev CMP_LYR_OWNER (i : Nat) : Nat := if i < 256 then 0x810084 + 0x100 * i else 0x40055000
abbrev CMP_LYR_OWNER.CTX (i : Nat) : Fld := ⟨CMP_LYR_OWNER i, 9, 0⟩
abbrev CMP_LYR_OWNER.HELD (i : Nat) : Fld := ⟨CMP_LYR_OWNER i, 15, 15⟩
abbrev CMP_LYR_OWNER.VIDEO (i : Nat) : Fld := ⟨CMP_LYR_OWNER i, 16, 16⟩
abbrev CMP_LYR_OWNER.MARKER (i : Nat) : Fld := ⟨CMP_LYR_OWNER i, 17, 17⟩
abbrev CMP_LYR_FBC_ERR (i : Nat) : Nat := if i < 256 then 0x810088 + 0x100 * i else 0x40056000
abbrev CMP_LYR_FBC_ERR.COUNT (i : Nat) : Fld := ⟨CMP_LYR_FBC_ERR i, 31, 0⟩
abbrev CMP_LYR_OFF_LINE (i : Nat) : Nat := if i < 256 then 0x81008C + 0x100 * i else 0x40057000
abbrev CMP_LYR_OFF_LINE.OUTPUT (i : Nat) : Fld := ⟨CMP_LYR_OFF_LINE i, 4, 0⟩
abbrev CMP_LYR_OFF_LINE.LINE (i : Nat) : Fld := ⟨CMP_LYR_OFF_LINE i, 28, 16⟩
abbrev CMP_LYR_OFF_LFN (i : Nat) : Nat := if i < 256 then 0x810090 + 0x100 * i else 0x40058000
abbrev CMP_LYR_OFF_LFN.LFN (i : Nat) : Fld := ⟨CMP_LYR_OFF_LFN i, 31, 0⟩
abbrev CMP_LYR_ADDR_LO (i : Nat) (j : Nat) : Nat := if i < 256 ∧ j < 4 then 0x810010 + 0x100 * i + 0x8 * j else 0x40059000
abbrev CMP_LYR_ADDR_LO.VA_LOW (i : Nat) (j : Nat) : Fld := ⟨CMP_LYR_ADDR_LO i j, 31, 6⟩
abbrev CMP_LYR_ADDR_HI (i : Nat) (j : Nat) : Nat := if i < 256 ∧ j < 4 then 0x810014 + 0x100 * i + 0x8 * j else 0x4005A000
abbrev CMP_LYR_ADDR_HI.VA_HIGH (i : Nat) (j : Nat) : Fld := ⟨CMP_LYR_ADDR_HI i j, 11, 0⟩
abbrev CMP_LYR_STEP_H (i : Nat) : Nat := if i < 256 then 0x810048 + 0x100 * i else 0x4005B000
abbrev CMP_LYR_STEP_H.STEP (i : Nat) : Fld := ⟨CMP_LYR_STEP_H i, 23, 0⟩
abbrev CMP_LYR_STEP_V (i : Nat) : Nat := if i < 256 then 0x81004C + 0x100 * i else 0x4005C000
abbrev CMP_LYR_STEP_V.STEP (i : Nat) : Fld := ⟨CMP_LYR_STEP_V i, 23, 0⟩
abbrev CMP_LYR_INIT_H (i : Nat) : Nat := if i < 256 then 0x810050 + 0x100 * i else 0x4005D000
abbrev CMP_LYR_INIT_H.INIT (i : Nat) : Fld := ⟨CMP_LYR_INIT_H i, 23, 0⟩
abbrev CMP_LYR_INIT_V (i : Nat) : Nat := if i < 256 then 0x810054 + 0x100 * i else 0x4005E000
abbrev CMP_LYR_INIT_V.INIT (i : Nat) : Fld := ⟨CMP_LYR_INIT_V i, 23, 0⟩
abbrev COL_CTRL : Nat := 0xC00000
abbrev COL_CTRL.KEEP_LEVEL : Fld := ⟨COL_CTRL, 0, 0⟩
abbrev COL_PQ_REF : Nat := 0xC00004
abbrev COL_PQ_REF.CDM2 : Fld := ⟨COL_PQ_REF, 13, 0⟩
abbrev COL_LOOP_CFG : Nat := 0xC00008
abbrev COL_LOOP_CFG.EN : Fld := ⟨COL_LOOP_CFG, 0, 0⟩
abbrev COL_LOOP_CFG.BW : Fld := ⟨COL_LOOP_CFG, 13, 8⟩
abbrev COL_DRIFT_CFG : Nat := 0xC0000C
abbrev COL_DRIFT_CFG.DUV : Fld := ⟨COL_DRIFT_CFG, 7, 0⟩
abbrev COL_STATUS : Nat := 0xC00010
abbrev COL_STATUS.HOLD : Fld := ⟨COL_STATUS, 5, 0⟩
abbrev COL_STATUS.DRIFT : Fld := ⟨COL_STATUS, 31, 12⟩
abbrev COL_WORK (i : Nat) : Nat := if i < 4 then 0xC00020 + 0x4 * i else 0x4005F000
abbrev COL_WORK.X (i : Nat) : Fld := ⟨COL_WORK i, 15, 0⟩
abbrev COL_WORK.Y (i : Nat) : Fld := ⟨COL_WORK i, 31, 16⟩
abbrev COL_CAM_RESP (i : Nat) (j : Nat) : Nat := if i < 4 ∧ j < 18 then 0xC00100 + 0x80 * i + 0x4 * j else 0x40060000
abbrev COL_CAM_RESP.COEF (i : Nat) (j : Nat) : Fld := ⟨COL_CAM_RESP i j, 23, 0⟩
abbrev COL_CAM_CTRL (i : Nat) : Nat := if i < 4 then 0xC00148 + 0x80 * i else 0x40061000
abbrev COL_CAM_CTRL.EN (i : Nat) : Fld := ⟨COL_CAM_CTRL i, 0, 0⟩
abbrev COL_PRIM_XY (i : Nat) : Nat := if i < 6 then 0xC00400 + 0x10 * i else 0x40062000
abbrev COL_PRIM_XY.X (i : Nat) : Fld := ⟨COL_PRIM_XY i, 15, 0⟩
abbrev COL_PRIM_XY.Y (i : Nat) : Fld := ⟨COL_PRIM_XY i, 31, 16⟩
abbrev COL_PRIM_TARGET (i : Nat) : Nat := if i < 6 then 0xC00404 + 0x10 * i else 0x40063000
abbrev COL_PRIM_TARGET.COUNTS (i : Nat) : Fld := ⟨COL_PRIM_TARGET i, 15, 0⟩
abbrev COL_PRIM_LOOP (i : Nat) : Nat := if i < 6 then 0xC00408 + 0x10 * i else 0x40064000
abbrev COL_PRIM_LOOP.STATE (i : Nat) : Fld := ⟨COL_PRIM_LOOP i, 1, 0⟩
abbrev COL_PRIM_LOOP.INVALID (i : Nat) : Fld := ⟨COL_PRIM_LOOP i, 15, 8⟩
abbrev COL_PRIM_LOOP.TRIM (i : Nat) : Fld := ⟨COL_PRIM_LOOP i, 31, 16⟩
abbrev COL_PRIM_LIGHT (i : Nat) : Nat := if i < 6 then 0xC0040C + 0x10 * i else 0x40065000
abbrev COL_PRIM_LIGHT.F (i : Nat) : Fld := ⟨COL_PRIM_LIGHT i, 16, 0⟩
abbrev COL_LUT_CTRL (i : Nat) : Nat := if i < 16 then 0xC00800 + 0x10 * i else 0x40066000
abbrev COL_LUT_CTRL.SIZE (i : Nat) : Fld := ⟨COL_LUT_CTRL i, 0, 0⟩
abbrev COL_LUT_CTRL.CTX (i : Nat) : Fld := ⟨COL_LUT_CTRL i, 5, 4⟩
abbrev COL_LUT_CTRL.SEQ (i : Nat) : Fld := ⟨COL_LUT_CTRL i, 11, 8⟩
abbrev COL_LUT_CTRL.ROWS (i : Nat) : Fld := ⟨COL_LUT_CTRL i, 14, 12⟩
abbrev COL_LUT_ADDR_LO (i : Nat) : Nat := if i < 16 then 0xC00804 + 0x10 * i else 0x40067000
abbrev COL_LUT_ADDR_LO.VA_LOW (i : Nat) : Fld := ⟨COL_LUT_ADDR_LO i, 31, 6⟩
abbrev COL_LUT_ADDR_HI (i : Nat) : Nat := if i < 16 then 0xC00808 + 0x10 * i else 0x40068000
abbrev COL_LUT_ADDR_HI.VA_HIGH (i : Nat) : Fld := ⟨COL_LUT_ADDR_HI i, 11, 0⟩
abbrev COL_LUT_STATUS (i : Nat) : Nat := if i < 16 then 0xC0080C + 0x10 * i else 0x40069000
abbrev COL_LUT_STATUS.LOADED (i : Nat) : Fld := ⟨COL_LUT_STATUS i, 0, 0⟩
abbrev COL_LUT_STATUS.LOAD_FAIL (i : Nat) : Fld := ⟨COL_LUT_STATUS i, 1, 1⟩
abbrev COL_DEC_CTRL (i : Nat) : Nat := if i < 8 then 0xC00900 + 0x10 * i else 0x4006A000
abbrev COL_DEC_CTRL.SIZE (i : Nat) : Fld := ⟨COL_DEC_CTRL i, 0, 0⟩
abbrev COL_DEC_CTRL.CTX (i : Nat) : Fld := ⟨COL_DEC_CTRL i, 5, 4⟩
abbrev COL_DEC_CTRL.SEQ (i : Nat) : Fld := ⟨COL_DEC_CTRL i, 11, 8⟩
abbrev COL_DEC_CTRL.ROWS (i : Nat) : Fld := ⟨COL_DEC_CTRL i, 14, 12⟩
abbrev COL_DEC_ADDR_LO (i : Nat) : Nat := if i < 8 then 0xC00904 + 0x10 * i else 0x4006B000
abbrev COL_DEC_ADDR_LO.VA_LOW (i : Nat) : Fld := ⟨COL_DEC_ADDR_LO i, 31, 6⟩
abbrev COL_DEC_ADDR_HI (i : Nat) : Nat := if i < 8 then 0xC00908 + 0x10 * i else 0x4006C000
abbrev COL_DEC_ADDR_HI.VA_HIGH (i : Nat) : Fld := ⟨COL_DEC_ADDR_HI i, 11, 0⟩
abbrev COL_DEC_STATUS (i : Nat) : Nat := if i < 8 then 0xC0090C + 0x10 * i else 0x4006D000
abbrev COL_DEC_STATUS.LOADED (i : Nat) : Fld := ⟨COL_DEC_STATUS i, 0, 0⟩
abbrev COL_DEC_STATUS.LOAD_FAIL (i : Nat) : Fld := ⟨COL_DEC_STATUS i, 1, 1⟩
abbrev COL_OUT_CTRL (i : Nat) : Nat := if i < 20 then 0xC01000 + 0x80 * i else 0x4006E000
abbrev COL_OUT_CTRL.VIEWS (i : Nat) : Fld := ⟨COL_OUT_CTRL i, 4, 0⟩
abbrev COL_OUT_CTRL.UNI_EN (i : Nat) : Fld := ⟨COL_OUT_CTRL i, 8, 8⟩
abbrev COL_OUT_CTRL.UNI_CTX (i : Nat) : Fld := ⟨COL_OUT_CTRL i, 13, 12⟩
abbrev COL_OUT_CTRL.UNI_SEQ (i : Nat) : Fld := ⟨COL_OUT_CTRL i, 19, 16⟩
abbrev COL_OUT_GAIN (i : Nat) : Nat := if i < 20 then 0xC01004 + 0x80 * i else 0x4006F000
abbrev COL_OUT_GAIN.GAIN (i : Nat) : Fld := ⟨COL_OUT_GAIN i, 23, 0⟩
abbrev COL_OUT_UNI_ADDR_LO (i : Nat) : Nat := if i < 20 then 0xC01008 + 0x80 * i else 0x40070000
abbrev COL_OUT_UNI_ADDR_LO.VA_LOW (i : Nat) : Fld := ⟨COL_OUT_UNI_ADDR_LO i, 31, 6⟩
abbrev COL_OUT_UNI_ADDR_HI (i : Nat) : Nat := if i < 20 then 0xC0100C + 0x80 * i else 0x40071000
abbrev COL_OUT_UNI_ADDR_HI.VA_HIGH (i : Nat) : Fld := ⟨COL_OUT_UNI_ADDR_HI i, 11, 0⟩
abbrev COL_OUT_VIEW (i : Nat) (j : Nat) : Nat := if i < 20 ∧ j < 5 then 0xC01010 + 0x80 * i + 0x4 * j else 0x40072000
abbrev COL_OUT_VIEW.LUT_EN (i : Nat) (j : Nat) : Fld := ⟨COL_OUT_VIEW i j, 0, 0⟩
abbrev COL_OUT_VIEW.LUT_SLOT (i : Nat) (j : Nat) : Fld := ⟨COL_OUT_VIEW i j, 7, 4⟩
abbrev COL_OUT_VIEW.DEC_SLOT (i : Nat) (j : Nat) : Fld := ⟨COL_OUT_VIEW i j, 18, 16⟩
abbrev COL_OUT_PRIMS (i : Nat) : Nat := if i < 20 then 0xC01024 + 0x80 * i else 0x40073000
abbrev COL_OUT_PRIMS.MASK (i : Nat) : Fld := ⟨COL_OUT_PRIMS i, 5, 0⟩
abbrev COL_OUT_STATUS (i : Nat) : Nat := if i < 20 then 0xC01028 + 0x80 * i else 0x40074000
abbrev COL_OUT_STATUS.SOLVE_RANGE (i : Nat) : Fld := ⟨COL_OUT_STATUS i, 0, 0⟩
abbrev COL_OUT_STATUS.TABLE_FAIL (i : Nat) : Fld := ⟨COL_OUT_STATUS i, 1, 1⟩
abbrev COL_OUT_STATUS.DRIFT_PASSES (i : Nat) : Fld := ⟨COL_OUT_STATUS i, 31, 16⟩
abbrev COL_LYR_CTRL (i : Nat) : Nat := if i < 256 then 0xC10000 + 0x100 * i else 0x40075000
abbrev COL_LYR_CTRL.TF (i : Nat) : Fld := ⟨COL_LYR_CTRL i, 2, 0⟩
abbrev COL_LYR_CTRL.YC2020 (i : Nat) : Fld := ⟨COL_LYR_CTRL i, 4, 4⟩
abbrev COL_LYR_CTRL.FULL_RANGE (i : Nat) : Fld := ⟨COL_LYR_CTRL i, 5, 5⟩
abbrev COL_LYR_M (i : Nat) (j : Nat) : Nat := if i < 256 ∧ j < 9 then 0xC10004 + 0x100 * i + 0x4 * j else 0x40076000
abbrev COL_LYR_M.COEF (i : Nat) (j : Nat) : Fld := ⟨COL_LYR_M i j, 23, 0⟩
abbrev COL_LYR_OFF (i : Nat) (j : Nat) : Nat := if i < 256 ∧ j < 3 then 0xC10028 + 0x100 * i + 0x4 * j else 0x40077000
abbrev COL_LYR_OFF.OFFSET (i : Nat) (j : Nat) : Fld := ⟨COL_LYR_OFF i j, 28, 0⟩
abbrev PLN_CTRL : Nat := 0x1000000
abbrev PLN_CTRL.SCRUB_EN : Fld := ⟨PLN_CTRL, 0, 0⟩
abbrev PLN_CTRL.REPAIR_EN : Fld := ⟨PLN_CTRL, 1, 1⟩
abbrev PLN_STATUS : Nat := 0x1000004
abbrev PLN_STATUS.BANKS_ON : Fld := ⟨PLN_STATUS, 7, 0⟩
abbrev PLN_STATUS.SPARE_ROWS : Fld := ⟨PLN_STATUS, 15, 8⟩
abbrev PLN_STATUS.SPARE_COLS : Fld := ⟨PLN_STATUS, 23, 16⟩
abbrev PLN_STATUS.DEGRADED : Fld := ⟨PLN_STATUS, 24, 24⟩
abbrev PLN_STATUS.BUILD_BUSY : Fld := ⟨PLN_STATUS, 25, 25⟩
abbrev PLN_ECC : Nat := 0x1000008
abbrev PLN_ECC.CE : Fld := ⟨PLN_ECC, 15, 0⟩
abbrev PLN_ECC.UE : Fld := ⟨PLN_ECC, 31, 16⟩
abbrev PLN_ECC_ADDR : Nat := 0x100000C
abbrev PLN_ECC_ADDR.BANK : Fld := ⟨PLN_ECC_ADDR, 2, 0⟩
abbrev PLN_ECC_ADDR.LINE : Fld := ⟨PLN_ECC_ADDR, 26, 8⟩
abbrev PLN_MASK_CTRL : Nat := 0x1000010
abbrev PLN_MASK_CTRL.SRC : Fld := ⟨PLN_MASK_CTRL, 0, 0⟩
abbrev PLN_MASK_CTRL.CTX : Fld := ⟨PLN_MASK_CTRL, 5, 4⟩
abbrev PLN_MASK_CTRL.SEQ : Fld := ⟨PLN_MASK_CTRL, 11, 8⟩
abbrev PLN_MASK_ADDR_LO : Nat := 0x1000014
abbrev PLN_MASK_ADDR_LO.VA_LOW : Fld := ⟨PLN_MASK_ADDR_LO, 31, 6⟩
abbrev PLN_MASK_ADDR_HI : Nat := 0x1000018
abbrev PLN_MASK_ADDR_HI.VA_HIGH : Fld := ⟨PLN_MASK_ADDR_HI, 11, 0⟩
abbrev PLN_MASK_STATUS : Nat := 0x100001C
abbrev PLN_MASK_STATUS.LOADED : Fld := ⟨PLN_MASK_STATUS, 0, 0⟩
abbrev PLN_MASK_STATUS.LOAD_FAIL : Fld := ⟨PLN_MASK_STATUS, 1, 1⟩
abbrev PLN_BOOK_CTRL (i : Nat) : Nat := if i < 16 then 0x1000800 + 0x20 * i else 0x40078000
abbrev PLN_BOOK_CTRL.CTX (i : Nat) : Fld := ⟨PLN_BOOK_CTRL i, 1, 0⟩
abbrev PLN_BOOK_CTRL.SEQ (i : Nat) : Fld := ⟨PLN_BOOK_CTRL i, 7, 4⟩
abbrev PLN_BOOK_ADDR_LO (i : Nat) : Nat := if i < 16 then 0x1000804 + 0x20 * i else 0x40079000
abbrev PLN_BOOK_ADDR_LO.VA_LOW (i : Nat) : Fld := ⟨PLN_BOOK_ADDR_LO i, 31, 6⟩
abbrev PLN_BOOK_ADDR_HI (i : Nat) : Nat := if i < 16 then 0x1000808 + 0x20 * i else 0x4007A000
abbrev PLN_BOOK_ADDR_HI.VA_HIGH (i : Nat) : Fld := ⟨PLN_BOOK_ADDR_HI i, 11, 0⟩
abbrev PLN_BOOK_STATUS (i : Nat) : Nat := if i < 16 then 0x100080C + 0x20 * i else 0x4007B000
abbrev PLN_BOOK_STATUS.READY (i : Nat) : Fld := ⟨PLN_BOOK_STATUS i, 0, 0⟩
abbrev PLN_BOOK_STATUS.LOAD_FAIL (i : Nat) : Fld := ⟨PLN_BOOK_STATUS i, 1, 1⟩
abbrev PLN_BOOK_STATUS.FIXES (i : Nat) : Fld := ⟨PLN_BOOK_STATUS i, 15, 8⟩
abbrev PLN_BOOK_STATUS.MAX_ERR (i : Nat) : Fld := ⟨PLN_BOOK_STATUS i, 31, 16⟩
abbrev PLN_OUT_CFG (i : Nat) : Nat := if i < 16 then 0x1000100 + 0x20 * i else 0x4007C000
abbrev PLN_OUT_CFG.MODE (i : Nat) : Fld := ⟨PLN_OUT_CFG i, 1, 0⟩
abbrev PLN_OUT_CFG.BANK_MASK (i : Nat) : Fld := ⟨PLN_OUT_CFG i, 15, 8⟩
abbrev PLN_OUT_SEGS (i : Nat) : Nat := if i < 16 then 0x1000104 + 0x20 * i else 0x4007D000
abbrev PLN_OUT_SEGS.SEG_BASE (i : Nat) : Fld := ⟨PLN_OUT_SEGS i, 9, 0⟩
abbrev PLN_OUT_SEGS.SEGS_PER_BANK (i : Nat) : Fld := ⟨PLN_OUT_SEGS i, 25, 16⟩
abbrev PLN_OUT_SIZE (i : Nat) : Nat := if i < 16 then 0x1000108 + 0x20 * i else 0x4007E000
abbrev PLN_OUT_SIZE.IMAGE_SEGS (i : Nat) : Fld := ⟨PLN_OUT_SIZE i, 12, 0⟩
abbrev PLN_OUT_SIZE.MARGIN_SEGS (i : Nat) : Fld := ⟨PLN_OUT_SIZE i, 28, 16⟩
abbrev PLN_OUT_REFILL (i : Nat) : Nat := if i < 16 then 0x100010C + 0x20 * i else 0x4007F000
abbrev PLN_OUT_REFILL.TAIL_BUDGET (i : Nat) : Fld := ⟨PLN_OUT_REFILL i, 15, 0⟩
abbrev PLN_OUT_STATUS (i : Nat) : Nat := if i < 16 then 0x1000110 + 0x20 * i else 0x40080000
abbrev PLN_OUT_STATUS.READ_BUF (i : Nat) : Fld := ⟨PLN_OUT_STATUS i, 0, 0⟩
abbrev PLN_OUT_STATUS.BACK_COMPLETE (i : Nat) : Fld := ⟨PLN_OUT_STATUS i, 1, 1⟩
abbrev PLN_OUT_STATUS.LEAD_VALID (i : Nat) : Fld := ⟨PLN_OUT_STATUS i, 2, 2⟩
abbrev PLN_OUT_STATUS.TAIL (i : Nat) : Fld := ⟨PLN_OUT_STATUS i, 3, 3⟩
abbrev PLN_OUT_STATUS.THROTTLE_BOOK (i : Nat) : Fld := ⟨PLN_OUT_STATUS i, 4, 4⟩
abbrev PLN_OUT_STATUS.LEAD_PLANES (i : Nat) : Fld := ⟨PLN_OUT_STATUS i, 13, 8⟩
abbrev PLN_OUT_STATUS.REFILL_MISSES (i : Nat) : Fld := ⟨PLN_OUT_STATUS i, 31, 16⟩
abbrev PLN_OUT_TIMING (i : Nat) : Nat := if i < 16 then 0x1000114 + 0x20 * i else 0x40081000
abbrev PLN_OUT_TIMING.LEAD_US (i : Nat) : Fld := ⟨PLN_OUT_TIMING i, 15, 0⟩
abbrev PLN_OUT_TIMING.TAIL_EST_US (i : Nat) : Fld := ⟨PLN_OUT_TIMING i, 31, 16⟩
abbrev PLN_OUT_USED (i : Nat) : Nat := if i < 16 then 0x1000118 + 0x20 * i else 0x40082000
abbrev PLN_OUT_USED.IMAGE_NEED (i : Nat) : Fld := ⟨PLN_OUT_USED i, 12, 0⟩
abbrev PLN_OUT_USED.MARGIN_NEED (i : Nat) : Fld := ⟨PLN_OUT_USED i, 28, 16⟩
abbrev PLN_SET_CTRL (i : Nat) : Nat := if i < 32 then 0x1001000 + 0x100 * i else 0x40083000
abbrev PLN_SET_CTRL.EN (i : Nat) : Fld := ⟨PLN_SET_CTRL i, 0, 0⟩
abbrev PLN_SET_CTRL.OUTPUT (i : Nat) : Fld := ⟨PLN_SET_CTRL i, 4, 1⟩
abbrev PLN_SET_CTRL.PRIMARY (i : Nat) : Fld := ⟨PLN_SET_CTRL i, 7, 5⟩
abbrev PLN_SET_CTRL.VIEWS (i : Nat) : Fld := ⟨PLN_SET_CTRL i, 12, 8⟩
abbrev PLN_SET_CTRL.PLANES (i : Nat) : Fld := ⟨PLN_SET_CTRL i, 18, 13⟩
abbrev PLN_SET_CTRL.TB (i : Nat) : Fld := ⟨PLN_SET_CTRL i, 21, 19⟩
abbrev PLN_SET_CTRL.QB (i : Nat) : Fld := ⟨PLN_SET_CTRL i, 26, 22⟩
abbrev PLN_SET_CTRL.BOOK (i : Nat) : Fld := ⟨PLN_SET_CTRL i, 30, 27⟩
abbrev PLN_SET_CTRL.BOOK_SRC (i : Nat) : Fld := ⟨PLN_SET_CTRL i, 31, 31⟩
abbrev PLN_SET_DROP (i : Nat) : Nat := if i < 32 then 0x1001004 + 0x100 * i else 0x40084000
abbrev PLN_SET_DROP.DROP (i : Nat) : Fld := ⟨PLN_SET_DROP i, 2, 0⟩
abbrev PLN_SET_W (i : Nat) (j : Nat) : Nat := if i < 32 ∧ j < 32 then 0x1001010 + 0x100 * i + 0x4 * j else 0x40085000
abbrev PLN_SET_W.WEIGHT (i : Nat) (j : Nat) : Fld := ⟨PLN_SET_W i j, 27, 0⟩
abbrev SEQ_CTRL : Nat := 0x1400000
abbrev SEQ_CTRL.SHADOW_EN : Fld := ⟨SEQ_CTRL, 0, 0⟩
abbrev SEQ_SCHED_STATUS : Nat := 0x1400004
abbrev SEQ_SCHED_STATUS.BUSY : Fld := ⟨SEQ_SCHED_STATUS, 0, 0⟩
abbrev SEQ_SCHED_STATUS.OUT : Fld := ⟨SEQ_SCHED_STATUS, 5, 1⟩
abbrev SEQ_SCHED_STATUS.KIND : Fld := ⟨SEQ_SCHED_STATUS, 7, 6⟩
abbrev SEQ_SCHED_STATUS.QUEUED : Fld := ⟨SEQ_SCHED_STATUS, 15, 8⟩
abbrev SEQ_SCHED_STATUS.LAST_US : Fld := ⟨SEQ_SCHED_STATUS, 31, 16⟩
abbrev SEQ_THROTTLE : Nat := 0x1400008
abbrev SEQ_THROTTLE.ACTIVE : Fld := ⟨SEQ_THROTTLE, 0, 0⟩
abbrev SEQ_THROTTLE.ENTRIES : Fld := ⟨SEQ_THROTTLE, 31, 16⟩
abbrev SEQ_THROTTLE_CFG : Nat := 0x140000C
abbrev SEQ_THROTTLE_CFG.LIGHT : Fld := ⟨SEQ_THROTTLE_CFG, 4, 0⟩
abbrev SEQ_HBM_WIN : Nat := 0x1400010
abbrev SEQ_HBM_WIN.PHASE : Fld := ⟨SEQ_HBM_WIN, 23, 0⟩
abbrev SEQ_TILES : Nat := 0x1400014
abbrev SEQ_TILES.WORKING : Fld := ⟨SEQ_TILES, 8, 0⟩
abbrev SEQ_TILES.SPARES : Fld := ⟨SEQ_TILES, 20, 16⟩
abbrev SEQ_TILES.FENCED : Fld := ⟨SEQ_TILES, 28, 24⟩
abbrev SEQ_LATE : Nat := 0x1400018
abbrev SEQ_LATE.COUNT : Fld := ⟨SEQ_LATE, 31, 0⟩
abbrev SEQ_SLOT_SEL : Nat := 0x1400020
abbrev SEQ_SLOT_SEL.OUT : Fld := ⟨SEQ_SLOT_SEL, 4, 0⟩
abbrev SEQ_SLOT_SEL.LF : Fld := ⟨SEQ_SLOT_SEL, 7, 5⟩
abbrev SEQ_SLOT_SEL.SLOT : Fld := ⟨SEQ_SLOT_SEL, 17, 8⟩
abbrev SEQ_SLOT_SEL.PENDING : Fld := ⟨SEQ_SLOT_SEL, 18, 18⟩
abbrev SEQ_SLOT_SEL.VARIANT : Fld := ⟨SEQ_SLOT_SEL, 21, 20⟩
abbrev SEQ_SLOT_DATA_0 : Nat := 0x1400024
abbrev SEQ_SLOT_DATA_0.LOAD_PHASE : Fld := ⟨SEQ_SLOT_DATA_0, 23, 0⟩
abbrev SEQ_SLOT_DATA_0.EDGE_DARK : Fld := ⟨SEQ_SLOT_DATA_0, 24, 24⟩
abbrev SEQ_SLOT_DATA_0.PLACE : Fld := ⟨SEQ_SLOT_DATA_0, 25, 25⟩
abbrev SEQ_SLOT_DATA_0.TEMPORAL : Fld := ⟨SEQ_SLOT_DATA_0, 26, 26⟩
abbrev SEQ_SLOT_DATA_0.VIEW : Fld := ⟨SEQ_SLOT_DATA_0, 29, 27⟩
abbrev SEQ_SLOT_DATA_1 : Nat := 0x1400028
abbrev SEQ_SLOT_DATA_1.PERIOD : Fld := ⟨SEQ_SLOT_DATA_1, 23, 0⟩
abbrev SEQ_SLOT_DATA_1.WCLASS : Fld := ⟨SEQ_SLOT_DATA_1, 26, 24⟩
abbrev SEQ_SLOT_DATA_2 : Nat := 0x140002C
abbrev SEQ_SLOT_DATA_2.SET : Fld := ⟨SEQ_SLOT_DATA_2, 4, 0⟩
abbrev SEQ_SLOT_DATA_2.PLANE : Fld := ⟨SEQ_SLOT_DATA_2, 12, 8⟩
abbrev SEQ_SLOT_DATA_2.CSTEP : Fld := ⟨SEQ_SLOT_DATA_2, 19, 16⟩
abbrev SEQ_SLOT_DATA_3 : Nat := 0x1400030
abbrev SEQ_SLOT_DATA_3.N : Fld := ⟨SEQ_SLOT_DATA_3, 27, 0⟩
abbrev SEQ_OUT_CTRL (i : Nat) : Nat := if i < 20 then 0x1400100 + 0x20 * i else 0x40086000
abbrev SEQ_OUT_CTRL.REPLAY_EN (i : Nat) : Fld := ⟨SEQ_OUT_CTRL i, 0, 0⟩
abbrev SEQ_OUT_CTRL.STATIC_EN (i : Nat) : Fld := ⟨SEQ_OUT_CTRL i, 1, 1⟩
abbrev SEQ_OUT_CTRL.STATIC_Q (i : Nat) : Fld := ⟨SEQ_OUT_CTRL i, 6, 4⟩
abbrev SEQ_OUT_CTRL.STATIC_D (i : Nat) : Fld := ⟨SEQ_OUT_CTRL i, 11, 8⟩
abbrev SEQ_OUT_CTRL.STATIC_DELAY (i : Nat) : Fld := ⟨SEQ_OUT_CTRL i, 23, 16⟩
abbrev SEQ_OUT_SCHED (i : Nat) : Nat := if i < 20 then 0x1400104 + 0x20 * i else 0x40087000
abbrev SEQ_OUT_SCHED.RUNNING (i : Nat) : Fld := ⟨SEQ_OUT_SCHED i, 2, 0⟩
abbrev SEQ_OUT_SCHED.REBUILD_PENDING (i : Nat) : Fld := ⟨SEQ_OUT_SCHED i, 3, 3⟩
abbrev SEQ_OUT_SCHED.VARIANTS_READY (i : Nat) : Fld := ⟨SEQ_OUT_SCHED i, 4, 4⟩
abbrev SEQ_OUT_SCHED.CYCLE_M1 (i : Nat) : Fld := ⟨SEQ_OUT_SCHED i, 7, 5⟩
abbrev SEQ_OUT_SCHED.SLOTS (i : Nat) : Fld := ⟨SEQ_OUT_SCHED i, 18, 8⟩
abbrev SEQ_OUT_SCHED.REPLAYING (i : Nat) : Fld := ⟨SEQ_OUT_SCHED i, 20, 20⟩
abbrev SEQ_OUT_SCHED.STATIC (i : Nat) : Fld := ⟨SEQ_OUT_SCHED i, 21, 21⟩
abbrev SEQ_OUT_EFF (i : Nat) : Nat := if i < 20 then 0x1400108 + 0x20 * i else 0x40088000
abbrev SEQ_OUT_EFF.EFF (i : Nat) : Fld := ⟨SEQ_OUT_EFF i, 13, 0⟩
abbrev SEQ_OUT_EFF.UNIFORM_GAIN (i : Nat) : Fld := ⟨SEQ_OUT_EFF i, 29, 16⟩
abbrev SEQ_OUT_SPAN (i : Nat) : Nat := if i < 20 then 0x140010C + 0x20 * i else 0x40089000
abbrev SEQ_OUT_SPAN.SPAN (i : Nat) : Fld := ⟨SEQ_OUT_SPAN i, 23, 0⟩
abbrev SEQ_OUT_LIGHT (i : Nat) : Nat := if i < 20 then 0x1400110 + 0x20 * i else 0x4008A000
abbrev SEQ_OUT_LIGHT.LIGHT (i : Nat) : Fld := ⟨SEQ_OUT_LIGHT i, 23, 0⟩
abbrev SEQ_OUT_ERR (i : Nat) : Nat := if i < 20 then 0x1400114 + 0x20 * i else 0x4008B000
abbrev SEQ_OUT_ERR.CODE (i : Nat) : Fld := ⟨SEQ_OUT_ERR i, 7, 0⟩
abbrev SEQ_OUT_ERR.WHERE (i : Nat) : Fld := ⟨SEQ_OUT_ERR i, 19, 8⟩
abbrev SEQ_OUT_MECH (i : Nat) : Nat := if i < 20 then 0x1400118 + 0x20 * i else 0x4008C000
abbrev SEQ_OUT_MECH.TRANSIT_NS (i : Nat) : Fld := ⟨SEQ_OUT_MECH i, 15, 0⟩
abbrev SEQ_OUT_MECH.LOAD_NS (i : Nat) : Fld := ⟨SEQ_OUT_MECH i, 31, 16⟩
abbrev SEQ_OUT_COUNTS (i : Nat) : Nat := if i < 20 then 0x140011C + 0x20 * i else 0x4008D000
abbrev SEQ_OUT_COUNTS.EDGE_DARK (i : Nat) : Fld := ⟨SEQ_OUT_COUNTS i, 15, 0⟩
abbrev SEQ_OUT_COUNTS.REBUILDS (i : Nat) : Fld := ⟨SEQ_OUT_COUNTS i, 31, 16⟩
abbrev APT_STATUS : Nat := 0x1800000
abbrev APT_STATUS.RUN : Fld := ⟨APT_STATUS, 15, 0⟩
abbrev APT_STATUS.STALE : Fld := ⟨APT_STATUS, 31, 16⟩
abbrev APT_PORT_CFG (i : Nat) : Nat := if i < 16 then 0x1800100 + 0x40 * i else 0x4008E000
abbrev APT_PORT_CFG.WIDTH (i : Nat) : Fld := ⟨APT_PORT_CFG i, 5, 0⟩
abbrev APT_PORT_CFG.ARRAY (i : Nat) : Fld := ⟨APT_PORT_CFG i, 11, 8⟩
abbrev APT_PORT_CFG.PART (i : Nat) : Fld := ⟨APT_PORT_CFG i, 13, 12⟩
abbrev APT_PORT_CFG.PARTS (i : Nat) : Fld := ⟨APT_PORT_CFG i, 15, 14⟩
abbrev APT_PORT_CFG.POLICY (i : Nat) : Fld := ⟨APT_PORT_CFG i, 16, 16⟩
abbrev APT_PORT_CFG.TE_PIN (i : Nat) : Fld := ⟨APT_PORT_CFG i, 17, 17⟩
abbrev APT_PORT_CFG.TE_INDEX (i : Nat) : Fld := ⟨APT_PORT_CFG i, 23, 20⟩
abbrev APT_PORT_CFG.EXISTS (i : Nat) : Fld := ⟨APT_PORT_CFG i, 31, 31⟩
abbrev APT_PORT_CTRL (i : Nat) : Nat := if i < 16 then 0x1800104 + 0x40 * i else 0x4008F000
abbrev APT_PORT_CTRL.RETRAIN (i : Nat) : Fld := ⟨APT_PORT_CTRL i, 0, 0⟩
abbrev APT_PORT_CTRL.STATUS_REQ (i : Nat) : Fld := ⟨APT_PORT_CTRL i, 1, 1⟩
abbrev APT_PORT_CTRL.AUTO_RETRY (i : Nat) : Fld := ⟨APT_PORT_CTRL i, 2, 2⟩
abbrev APT_PORT_CTRL.REPORTS (i : Nat) : Fld := ⟨APT_PORT_CTRL i, 15, 8⟩
abbrev APT_PORT_STATE (i : Nat) : Nat := if i < 16 then 0x1800108 + 0x40 * i else 0x40090000
abbrev APT_PORT_STATE.STATE (i : Nat) : Fld := ⟨APT_PORT_STATE i, 2, 0⟩
abbrev APT_PORT_STATE.FAULT (i : Nat) : Fld := ⟨APT_PORT_STATE i, 15, 8⟩
abbrev APT_PORT_STATE.ACTIVE_WIDTH (i : Nat) : Fld := ⟨APT_PORT_STATE i, 21, 16⟩
abbrev APT_PORT_STATE.BC_LOST (i : Nat) : Fld := ⟨APT_PORT_STATE i, 24, 24⟩
abbrev APT_PORT_STATE.STALE (i : Nat) : Fld := ⟨APT_PORT_STATE i, 25, 25⟩
abbrev APT_PORT_STATE.REPLAY (i : Nat) : Fld := ⟨APT_PORT_STATE i, 26, 26⟩
abbrev APT_PORT_STATE.TE_OPEN (i : Nat) : Fld := ⟨APT_PORT_STATE i, 27, 27⟩
abbrev APT_PORT_TEMP (i : Nat) : Nat := if i < 16 then 0x180010C + 0x40 * i else 0x40091000
abbrev APT_PORT_TEMP.TEMP (i : Nat) : Fld := ⟨APT_PORT_TEMP i, 15, 0⟩
abbrev APT_PORT_TEMP.BAND (i : Nat) : Fld := ⟨APT_PORT_TEMP i, 18, 16⟩
abbrev APT_PORT_TEMP.AGE_MS (i : Nat) : Fld := ⟨APT_PORT_TEMP i, 31, 24⟩
abbrev APT_PORT_DELAY (i : Nat) : Nat := if i < 16 then 0x1800110 + 0x40 * i else 0x40092000
abbrev APT_PORT_DELAY.CHANNEL_PS (i : Nat) : Fld := ⟨APT_PORT_DELAY i, 15, 0⟩
abbrev APT_PORT_HOLDS (i : Nat) : Nat := if i < 16 then 0x1800114 + 0x40 * i else 0x40093000
abbrev APT_PORT_HOLDS.COUNT (i : Nat) : Fld := ⟨APT_PORT_HOLDS i, 31, 0⟩
abbrev APT_PORT_DARKS (i : Nat) : Nat := if i < 16 then 0x1800118 + 0x40 * i else 0x40094000
abbrev APT_PORT_DARKS.COUNT (i : Nat) : Fld := ⟨APT_PORT_DARKS i, 31, 0⟩
abbrev APT_PORT_ARRAY_ERR (i : Nat) : Nat := if i < 16 then 0x180011C + 0x40 * i else 0x40095000
abbrev APT_PORT_ARRAY_ERR.CODE (i : Nat) : Fld := ⟨APT_PORT_ARRAY_ERR i, 7, 0⟩
abbrev APT_PORT_ARRAY_ERR.BLOCK (i : Nat) : Fld := ⟨APT_PORT_ARRAY_ERR i, 13, 8⟩
abbrev APT_PORT_ARRAY_ERR.COUNT (i : Nat) : Fld := ⟨APT_PORT_ARRAY_ERR i, 31, 16⟩
abbrev APT_PORT_EPOCH (i : Nat) : Nat := if i < 16 then 0x1800120 + 0x40 * i else 0x40096000
abbrev APT_PORT_EPOCH.HIGHEST (i : Nat) : Fld := ⟨APT_PORT_EPOCH i, 31, 0⟩
abbrev APT_PORT_HEALTH (i : Nat) : Nat := if i < 16 then 0x1800124 + 0x40 * i else 0x40097000
abbrev APT_PORT_HEALTH.STUCK (i : Nat) : Fld := ⟨APT_PORT_HEALTH i, 23, 0⟩
abbrev APT_PORT_IDENT_LO (i : Nat) : Nat := if i < 16 then 0x1800128 + 0x40 * i else 0x40098000
abbrev APT_PORT_IDENT_LO.VENDOR (i : Nat) : Fld := ⟨APT_PORT_IDENT_LO i, 15, 0⟩
abbrev APT_PORT_IDENT_LO.MODEL (i : Nat) : Fld := ⟨APT_PORT_IDENT_LO i, 31, 16⟩
abbrev APT_PORT_IDENT_HI (i : Nat) : Nat := if i < 16 then 0x180012C + 0x40 * i else 0x40099000
abbrev APT_PORT_IDENT_HI.FIRMWARE (i : Nat) : Fld := ⟨APT_PORT_IDENT_HI i, 31, 0⟩
abbrev APT_PORT_RETRAINS (i : Nat) : Nat := if i < 16 then 0x1800130 + 0x40 * i else 0x4009A000
abbrev APT_PORT_RETRAINS.RETRAINS (i : Nat) : Fld := ⟨APT_PORT_RETRAINS i, 15, 0⟩
abbrev APT_PORT_RETRAINS.MERGED (i : Nat) : Fld := ⟨APT_PORT_RETRAINS i, 31, 16⟩
abbrev SCN_STATUS : Nat := 0x1A00000
abbrev SCN_STATUS.RUN : Fld := ⟨SCN_STATUS, 3, 0⟩
abbrev SCN_STATUS.EMITTING : Fld := ⟨SCN_STATUS, 7, 4⟩
abbrev SCN_STATUS.STALLED : Fld := ⟨SCN_STATUS, 11, 8⟩
abbrev SCN_ENG_CTRL (i : Nat) : Nat := if i < 4 then 0x1A00100 + 0x80 * i else 0x4009B000
abbrev SCN_ENG_CTRL.START (i : Nat) : Fld := ⟨SCN_ENG_CTRL i, 0, 0⟩
abbrev SCN_ENG_CTRL.STOP (i : Nat) : Fld := ⟨SCN_ENG_CTRL i, 1, 1⟩
abbrev SCN_ENG_CTRL.AUTO_RESTART (i : Nat) : Fld := ⟨SCN_ENG_CTRL i, 2, 2⟩
abbrev SCN_ENG_CTRL.REF_BURST (i : Nat) : Fld := ⟨SCN_ENG_CTRL i, 3, 3⟩
abbrev SCN_ENG_RANGE (i : Nat) : Nat := if i < 4 then 0x1A00104 + 0x80 * i else 0x4009C000
abbrev SCN_ENG_RANGE.F_MIN_HZ (i : Nat) : Fld := ⟨SCN_ENG_RANGE i, 15, 0⟩
abbrev SCN_ENG_RANGE.F_MAX_HZ (i : Nat) : Fld := ⟨SCN_ENG_RANGE i, 31, 16⟩
abbrev SCN_ENG_AMP (i : Nat) : Nat := if i < 4 then 0x1A00108 + 0x80 * i else 0x4009D000
abbrev SCN_ENG_AMP.AMP_REF (i : Nat) : Fld := ⟨SCN_ENG_AMP i, 12, 0⟩
abbrev SCN_ENG_GEOM (i : Nat) : Nat := if i < 4 then 0x1A0010C + 0x80 * i else 0x4009E000
abbrev SCN_ENG_GEOM.USE (i : Nat) : Fld := ⟨SCN_ENG_GEOM i, 15, 0⟩
abbrev SCN_ENG_GEOM.KNEE (i : Nat) : Fld := ⟨SCN_ENG_GEOM i, 27, 16⟩
abbrev SCN_ENG_SLOW_A (i : Nat) : Nat := if i < 4 then 0x1A00110 + 0x80 * i else 0x4009F000
abbrev SCN_ENG_SLOW_A.SLOW_TOP (i : Nat) : Fld := ⟨SCN_ENG_SLOW_A i, 17, 0⟩
abbrev SCN_ENG_SLOW_B (i : Nat) : Nat := if i < 4 then 0x1A00114 + 0x80 * i else 0x400A0000
abbrev SCN_ENG_SLOW_B.SLOW_BOT (i : Nat) : Fld := ⟨SCN_ENG_SLOW_B i, 17, 0⟩
abbrev SCN_ENG_SWEEP (i : Nat) : Nat := if i < 4 then 0x1A00118 + 0x80 * i else 0x400A1000
abbrev SCN_ENG_SWEEP.SLOW_START (i : Nat) : Fld := ⟨SCN_ENG_SWEEP i, 23, 0⟩
abbrev SCN_ENG_LOCK (i : Nat) : Nat := if i < 4 then 0x1A0011C + 0x80 * i else 0x400A2000
abbrev SCN_ENG_LOCK.LOCK_TOL (i : Nat) : Fld := ⟨SCN_ENG_LOCK i, 11, 0⟩
abbrev SCN_ENG_LOCK.STALL_PCT (i : Nat) : Fld := ⟨SCN_ENG_LOCK i, 22, 16⟩
abbrev SCN_ENG_LOOP (i : Nat) : Nat := if i < 4 then 0x1A00120 + 0x80 * i else 0x400A3000
abbrev SCN_ENG_LOOP.FLYBACK_US (i : Nat) : Fld := ⟨SCN_ENG_LOOP i, 15, 0⟩
abbrev SCN_ENG_LOOP.LEAD (i : Nat) : Fld := ⟨SCN_ENG_LOOP i, 23, 16⟩
abbrev SCN_ENG_LOOP.AMP_BW (i : Nat) : Fld := ⟨SCN_ENG_LOOP i, 27, 24⟩
abbrev SCN_ENG_STATE (i : Nat) : Nat := if i < 4 then 0x1A00134 + 0x80 * i else 0x400A4000
abbrev SCN_ENG_STATE.STATE (i : Nat) : Fld := ⟨SCN_ENG_STATE i, 3, 0⟩
abbrev SCN_ENG_STATE.CAUSE (i : Nat) : Fld := ⟨SCN_ENG_STATE i, 7, 4⟩
abbrev SCN_ENG_STATE.AMP_LIMITED (i : Nat) : Fld := ⟨SCN_ENG_STATE i, 8, 8⟩
abbrev SCN_ENG_EST_FREQ (i : Nat) : Nat := if i < 4 then 0x1A00138 + 0x80 * i else 0x400A5000
abbrev SCN_ENG_EST_FREQ.FREQ (i : Nat) : Fld := ⟨SCN_ENG_EST_FREQ i, 23, 0⟩
abbrev SCN_ENG_EST_AMP (i : Nat) : Nat := if i < 4 then 0x1A0013C + 0x80 * i else 0x400A6000
abbrev SCN_ENG_EST_AMP.AMP (i : Nat) : Fld := ⟨SCN_ENG_EST_AMP i, 12, 0⟩
abbrev SCN_ENG_EST_AMP.DRIVE_MV (i : Nat) : Fld := ⟨SCN_ENG_EST_AMP i, 31, 16⟩
abbrev SCN_ENG_EST_ERR (i : Nat) : Nat := if i < 4 then 0x1A00140 + 0x80 * i else 0x400A7000
abbrev SCN_ENG_EST_ERR.RESIDUAL (i : Nat) : Fld := ⟨SCN_ENG_EST_ERR i, 15, 0⟩
abbrev SCN_ENG_CANES (i : Nat) : Nat := if i < 4 then 0x1A00144 + 0x80 * i else 0x400A8000
abbrev SCN_ENG_CANES.COUNT (i : Nat) : Fld := ⟨SCN_ENG_CANES i, 31, 0⟩
abbrev SCN_ENG_LINE_MISSES (i : Nat) : Nat := if i < 4 then 0x1A00148 + 0x80 * i else 0x400A9000
abbrev SCN_ENG_LINE_MISSES.COUNT (i : Nat) : Fld := ⟨SCN_ENG_LINE_MISSES i, 31, 0⟩
abbrev SCN_ENG_CLIPPED (i : Nat) : Nat := if i < 4 then 0x1A0014C + 0x80 * i else 0x400AA000
abbrev SCN_ENG_CLIPPED.COUNT (i : Nat) : Fld := ⟨SCN_ENG_CLIPPED i, 31, 0⟩
abbrev SCN_ENG_STALLS (i : Nat) : Nat := if i < 4 then 0x1A00150 + 0x80 * i else 0x400AB000
abbrev SCN_ENG_STALLS.COUNT (i : Nat) : Fld := ⟨SCN_ENG_STALLS i, 15, 0⟩
abbrev SCN_ENG_STALL_LFN (i : Nat) : Nat := if i < 4 then 0x1A00154 + 0x80 * i else 0x400AC000
abbrev SCN_ENG_STALL_LFN.LFN (i : Nat) : Fld := ⟨SCN_ENG_STALL_LFN i, 31, 0⟩
abbrev SCN_ENG_SWEEP_STATUS (i : Nat) : Nat := if i < 4 then 0x1A00158 + 0x80 * i else 0x400AD000
abbrev SCN_ENG_SWEEP_STATUS.HALF_PERIODS (i : Nat) : Fld := ⟨SCN_ENG_SWEEP_STATUS i, 8, 0⟩
abbrev SCN_ENG_SWEEP_STATUS.ROW0_REVERSE (i : Nat) : Fld := ⟨SCN_ENG_SWEEP_STATUS i, 9, 9⟩
abbrev SCN_ENG_SWEEP_STATUS.END_US (i : Nat) : Fld := ⟨SCN_ENG_SWEEP_STATUS i, 31, 16⟩
abbrev SCN_ENG_DAC_GAIN (i : Nat) (j : Nat) : Nat := if i < 4 ∧ j < 4 then 0x1A00124 + 0x80 * i + 0x4 * j else 0x400AE000
abbrev SCN_ENG_DAC_GAIN.GAIN (i : Nat) (j : Nat) : Fld := ⟨SCN_ENG_DAC_GAIN i j, 16, 0⟩
abbrev LMP_CTRL : Nat := 0x1C00000
abbrev LMP_CTRL.KNEE : Fld := ⟨LMP_CTRL, 3, 0⟩
abbrev LMP_CTRL.AUTO_REJOIN : Fld := ⟨LMP_CTRL, 8, 8⟩
abbrev LMP_SAFETY : Nat := 0x1C00004
abbrev LMP_SAFETY.STOPPED : Fld := ⟨LMP_SAFETY, 0, 0⟩
abbrev LMP_SAFETY.CAUSE : Fld := ⟨LMP_SAFETY, 3, 1⟩
abbrev LMP_SAFETY.REARM : Fld := ⟨LMP_SAFETY, 8, 8⟩
abbrev LMP_SAFETY.FORCE_OFF : Fld := ⟨LMP_SAFETY, 9, 9⟩
abbrev LMP_SAFETY.INTERLOCK : Fld := ⟨LMP_SAFETY, 16, 16⟩
abbrev LMP_SAFETY.STOPS : Fld := ⟨LMP_SAFETY, 31, 24⟩
abbrev LMP_HB : Nat := 0x1C00008
abbrev LMP_HB.RUNNING : Fld := ⟨LMP_HB, 3, 0⟩
abbrev LMP_HB.OFF : Fld := ⟨LMP_HB, 11, 8⟩
abbrev LMP_HB.WDOG_MISSES : Fld := ⟨LMP_HB, 31, 16⟩
abbrev LMP_STATUS : Nat := 0x1C0000C
abbrev LMP_STATUS.OMITTED : Fld := ⟨LMP_STATUS, 31, 0⟩
abbrev LMP_PS_CFG : Nat := 0x1C00010
abbrev LMP_PS_CFG.SAMPLES : Fld := ⟨LMP_PS_CFG, 3, 0⟩
abbrev LMP_CHAIN_CFG (i : Nat) : Nat := if i < 4 then 0x1C00100 + 0x20 * i else 0x400AF000
abbrev LMP_CHAIN_CFG.POSITIONS (i : Nat) : Fld := ⟨LMP_CHAIN_CFG i, 8, 0⟩
abbrev LMP_CHAIN_CFG.CLK_DIV (i : Nat) : Fld := ⟨LMP_CHAIN_CFG i, 15, 10⟩
abbrev LMP_CHAIN_CFG.LATCH_WINDOW_NS (i : Nat) : Fld := ⟨LMP_CHAIN_CFG i, 31, 16⟩
abbrev LMP_CHAIN_CFG2 (i : Nat) : Nat := if i < 4 then 0x1C00104 + 0x20 * i else 0x400B0000
abbrev LMP_CHAIN_CFG2.STEP_SETTLE_NS (i : Nat) : Fld := ⟨LMP_CHAIN_CFG2 i, 15, 0⟩
abbrev LMP_CHAIN_STATUS (i : Nat) : Nat := if i < 4 then 0x1C00108 + 0x20 * i else 0x400B1000
abbrev LMP_CHAIN_STATUS.STATE (i : Nat) : Fld := ⟨LMP_CHAIN_STATUS i, 1, 0⟩
abbrev LMP_CHAIN_STATUS.RET_DELAY (i : Nat) : Fld := ⟨LMP_CHAIN_STATUS i, 11, 8⟩
abbrev LMP_CHAIN_STATUS.UPDATE_SEQ (i : Nat) : Fld := ⟨LMP_CHAIN_STATUS i, 23, 16⟩
abbrev LMP_CHAIN_FAILS (i : Nat) : Nat := if i < 4 then 0x1C0010C + 0x20 * i else 0x400B2000
abbrev LMP_CHAIN_FAILS.MARKER (i : Nat) : Fld := ⟨LMP_CHAIN_FAILS i, 7, 0⟩
abbrev LMP_CHAIN_FAILS.RB_CRC (i : Nat) : Fld := ⟨LMP_CHAIN_FAILS i, 19, 8⟩
abbrev LMP_CHAIN_FAILS.WORD (i : Nat) : Fld := ⟨LMP_CHAIN_FAILS i, 31, 20⟩
abbrev LMP_CHAIN_LAST_LATCH (i : Nat) : Nat := if i < 4 then 0x1C00110 + 0x20 * i else 0x400B3000
abbrev LMP_CHAIN_LAST_LATCH.LFN (i : Nat) : Fld := ⟨LMP_CHAIN_LAST_LATCH i, 31, 0⟩
abbrev LMP_PS_CH_CFG (i : Nat) : Nat := if i < 16 then 0x1C00200 + 0x10 * i else 0x400B4000
abbrev LMP_PS_CH_CFG.PRIMARY (i : Nat) : Fld := ⟨LMP_PS_CH_CFG i, 7, 0⟩
abbrev LMP_PS_CH_CFG.RANGE (i : Nat) : Fld := ⟨LMP_PS_CH_CFG i, 9, 8⟩
abbrev LMP_PS_CH_GAIN (i : Nat) : Nat := if i < 16 then 0x1C00204 + 0x10 * i else 0x400B5000
abbrev LMP_PS_CH_GAIN.GAIN (i : Nat) : Fld := ⟨LMP_PS_CH_GAIN i, 19, 0⟩
abbrev LMP_PS_CH_OFFSET (i : Nat) : Nat := if i < 16 then 0x1C00208 + 0x10 * i else 0x400B6000
abbrev LMP_PS_CH_OFFSET.OFFSET (i : Nat) : Fld := ⟨LMP_PS_CH_OFFSET i, 16, 0⟩
abbrev LMP_PS_CH_LAST (i : Nat) : Nat := if i < 16 then 0x1C0020C + 0x10 * i else 0x400B7000
abbrev LMP_PS_CH_LAST.Y (i : Nat) : Fld := ⟨LMP_PS_CH_LAST i, 15, 0⟩
abbrev LMP_PS_CH_LAST.INVALID (i : Nat) : Fld := ⟨LMP_PS_CH_LAST i, 31, 16⟩
abbrev LMP_RAIL_LIMIT (i : Nat) : Nat := if i < 8 then 0x1C00300 + 0x10 * i else 0x400B8000
abbrev LMP_RAIL_LIMIT.LIMIT (i : Nat) : Fld := ⟨LMP_RAIL_LIMIT i, 15, 0⟩
abbrev LMP_RAIL_CEILING (i : Nat) : Nat := if i < 8 then 0x1C00304 + 0x10 * i else 0x400B9000
abbrev LMP_RAIL_CEILING.CEILING (i : Nat) : Fld := ⟨LMP_RAIL_CEILING i, 15, 0⟩
abbrev LMP_RAIL_STATUS (i : Nat) : Nat := if i < 8 then 0x1C00308 + 0x10 * i else 0x400BA000
abbrev LMP_RAIL_STATUS.DEMAND (i : Nat) : Fld := ⟨LMP_RAIL_STATUS i, 15, 0⟩
abbrev LMP_RAIL_STATUS.GRANTED (i : Nat) : Fld := ⟨LMP_RAIL_STATUS i, 31, 16⟩
abbrev LMP_GROUP_CFG (i : Nat) : Nat := if i < 64 then 0x1C00400 + 0x10 * i else 0x400BB000
abbrev LMP_GROUP_CFG.RAIL (i : Nat) : Fld := ⟨LMP_GROUP_CFG i, 2, 0⟩
abbrev LMP_GROUP_CFG.PRESENT (i : Nat) : Fld := ⟨LMP_GROUP_CFG i, 8, 8⟩
abbrev LMP_GROUP_GRANT (i : Nat) : Nat := if i < 64 then 0x1C00404 + 0x10 * i else 0x400BC000
abbrev LMP_GROUP_GRANT.GAMMA (i : Nat) : Fld := ⟨LMP_GROUP_GRANT i, 16, 0⟩
abbrev LMP_GROUP_GRANT.LIMITED (i : Nat) : Fld := ⟨LMP_GROUP_GRANT i, 31, 24⟩
abbrev LMP_GROUP_LIGHT (i : Nat) : Nat := if i < 64 then 0x1C00408 + 0x10 * i else 0x400BD000
abbrev LMP_GROUP_LIGHT.F (i : Nat) : Fld := ⟨LMP_GROUP_LIGHT i, 16, 0⟩
abbrev LMP_PKG_LIMIT : Nat := 0x1C00800
abbrev LMP_PKG_LIMIT.AVG : Fld := ⟨LMP_PKG_LIMIT, 15, 0⟩
abbrev LMP_PKG_LIMIT.PEAK : Fld := ⟨LMP_PKG_LIMIT, 31, 16⟩
abbrev LMP_PKG_STATUS : Nat := 0x1C00804
abbrev LMP_PKG_STATUS.MEASURED : Fld := ⟨LMP_PKG_STATUS, 15, 0⟩
abbrev LMP_PKG_STATUS.ALLOW : Fld := ⟨LMP_PKG_STATUS, 31, 16⟩
abbrev LMP_PKG_CLASS (i : Nat) : Nat := if i < 8 then 0x1C00810 + 0x4 * i else 0x400BE000
abbrev LMP_PKG_CLASS.DEMAND (i : Nat) : Fld := ⟨LMP_PKG_CLASS i, 15, 0⟩
abbrev LMP_PKG_CLASS.GRANT (i : Nat) : Fld := ⟨LMP_PKG_CLASS i, 31, 16⟩
abbrev LMP_POS_SEL : Nat := 0x1C00900
abbrev LMP_POS_SEL.POSITION : Fld := ⟨LMP_POS_SEL, 9, 0⟩
abbrev LMP_POS_CTRL : Nat := 0x1C00904
abbrev LMP_POS_CTRL.CLEAR_FAULT : Fld := ⟨LMP_POS_CTRL, 0, 0⟩
abbrev LMP_POS_STATE : Nat := 0x1C00908
abbrev LMP_POS_STATE.STATE : Fld := ⟨LMP_POS_STATE, 1, 0⟩
abbrev LMP_POS_STATE.FAULT : Fld := ⟨LMP_POS_STATE, 7, 4⟩
abbrev LMP_POS_STATE.TEMP : Fld := ⟨LMP_POS_STATE, 17, 8⟩
abbrev LMP_POS_CURRENT : Nat := 0x1C0090C
abbrev LMP_POS_CURRENT.I_SET : Fld := ⟨LMP_POS_CURRENT, 17, 0⟩
abbrev LMP_POS_FACTOR : Nat := 0x1C00910
abbrev LMP_POS_FACTOR.DERATE : Fld := ⟨LMP_POS_FACTOR, 16, 0⟩
abbrev LMP_LAMP_SEL : Nat := 0x1C00A00
abbrev LMP_LAMP_SEL.POSITION : Fld := ⟨LMP_LAMP_SEL, 9, 0⟩
abbrev LMP_LAMP_DATA (i : Nat) : Nat := if i < 8 then 0x1C00A04 + 0x4 * i else 0x400BF000
abbrev LMP_LAMP_DATA.BYTES (i : Nat) : Fld := ⟨LMP_LAMP_DATA i, 31, 0⟩
abbrev LAN_CTRL : Nat := 0x1E00000
abbrev LAN_CTRL.SPARE_AUTO : Fld := ⟨LAN_CTRL, 0, 0⟩
abbrev LAN_CTRL.ERR_LIMIT : Fld := ⟨LAN_CTRL, 15, 8⟩
abbrev LAN_CTRL.SYNC_LIMIT : Fld := ⟨LAN_CTRL, 23, 16⟩
abbrev LAN_STATUS : Nat := 0x1E00004
abbrev LAN_STATUS.REFCLK_OK : Fld := ⟨LAN_STATUS, 3, 0⟩
abbrev LAN_STATUS.SPARES_USED : Fld := ⟨LAN_STATUS, 11, 8⟩
abbrev LAN_STATUS.FENCED : Fld := ⟨LAN_STATUS, 23, 16⟩
abbrev LAN_STATUS.BAND : Fld := ⟨LAN_STATUS, 26, 24⟩
abbrev LAN_EYE_CFG : Nat := 0x1E00008
abbrev LAN_EYE_CFG.EYE_MIN_MUI : Fld := ⟨LAN_EYE_CFG, 9, 0⟩
abbrev LAN_EYE_CFG.EYE_MIN_MV : Fld := ⟨LAN_EYE_CFG, 25, 16⟩
abbrev LAN_PRESET (i : Nat) (j : Nat) : Nat := if i < 6 ∧ j < 3 then 0x1E00100 + 0x10 * i + 0x4 * j else 0x400C0000
abbrev LAN_PRESET.TX_PRE (i : Nat) (j : Nat) : Fld := ⟨LAN_PRESET i j, 4, 0⟩
abbrev LAN_PRESET.TX_POST (i : Nat) (j : Nat) : Fld := ⟨LAN_PRESET i j, 12, 8⟩
abbrev LAN_PRESET.CTLE (i : Nat) (j : Nat) : Fld := ⟨LAN_PRESET i j, 19, 16⟩
abbrev LAN_LANE_CFG (i : Nat) : Nat := if i < 144 then 0x1E01000 + 0x40 * i else 0x400C1000
abbrev LAN_LANE_CFG.PORT (i : Nat) : Fld := ⟨LAN_LANE_CFG i, 7, 0⟩
abbrev LAN_LANE_CFG.ROLE (i : Nat) : Fld := ⟨LAN_LANE_CFG i, 9, 8⟩
abbrev LAN_LANE_CFG.RATE (i : Nat) : Fld := ⟨LAN_LANE_CFG i, 14, 12⟩
abbrev LAN_LANE_CFG.CLASS (i : Nat) : Fld := ⟨LAN_LANE_CFG i, 17, 16⟩
abbrev LAN_LANE_CFG.TX_INVERT (i : Nat) : Fld := ⟨LAN_LANE_CFG i, 18, 18⟩
abbrev LAN_LANE_CFG.RX_INVERT (i : Nat) : Fld := ⟨LAN_LANE_CFG i, 19, 19⟩
abbrev LAN_LANE_CTRL (i : Nat) : Nat := if i < 144 then 0x1E01004 + 0x40 * i else 0x400C2000
abbrev LAN_LANE_CTRL.LOOP (i : Nat) : Fld := ⟨LAN_LANE_CTRL i, 1, 0⟩
abbrev LAN_LANE_STATE (i : Nat) : Nat := if i < 144 then 0x1E01008 + 0x40 * i else 0x400C3000
abbrev LAN_LANE_STATE.STATE (i : Nat) : Fld := ⟨LAN_LANE_STATE i, 3, 0⟩
abbrev LAN_LANE_STATE.LOGICAL (i : Nat) : Fld := ⟨LAN_LANE_STATE i, 9, 4⟩
abbrev LAN_LANE_STATE.STANDS_FOR (i : Nat) : Fld := ⟨LAN_LANE_STATE i, 23, 16⟩
abbrev LAN_LANE_STATE.SYNC (i : Nat) : Fld := ⟨LAN_LANE_STATE i, 24, 24⟩
abbrev LAN_LANE_STATE.FAR_OK (i : Nat) : Fld := ⟨LAN_LANE_STATE i, 25, 25⟩
abbrev LAN_LANE_STATE.LB_CAP (i : Nat) : Fld := ⟨LAN_LANE_STATE i, 26, 26⟩
abbrev LAN_LANE_STATE.CAUSE (i : Nat) : Fld := ⟨LAN_LANE_STATE i, 31, 28⟩
abbrev LAN_LANE_EQ (i : Nat) : Nat := if i < 144 then 0x1E0100C + 0x40 * i else 0x400C4000
abbrev LAN_LANE_EQ.TX_PRE (i : Nat) : Fld := ⟨LAN_LANE_EQ i, 4, 0⟩
abbrev LAN_LANE_EQ.TX_POST (i : Nat) : Fld := ⟨LAN_LANE_EQ i, 12, 8⟩
abbrev LAN_LANE_EQ.CTLE (i : Nat) : Fld := ⟨LAN_LANE_EQ i, 19, 16⟩
abbrev LAN_LANE_EQ.PRE_OFF (i : Nat) : Fld := ⟨LAN_LANE_EQ i, 23, 20⟩
abbrev LAN_LANE_EQ.POST_OFF (i : Nat) : Fld := ⟨LAN_LANE_EQ i, 27, 24⟩
abbrev LAN_LANE_EYE (i : Nat) : Nat := if i < 144 then 0x1E01010 + 0x40 * i else 0x400C5000
abbrev LAN_LANE_EYE.WIDTH_MUI (i : Nat) : Fld := ⟨LAN_LANE_EYE i, 9, 0⟩
abbrev LAN_LANE_EYE.HEIGHT_MV (i : Nat) : Fld := ⟨LAN_LANE_EYE i, 25, 16⟩
abbrev LAN_LANE_EYE.MARGINAL (i : Nat) : Fld := ⟨LAN_LANE_EYE i, 31, 31⟩
abbrev LAN_LANE_FRAMES (i : Nat) : Nat := if i < 144 then 0x1E01014 + 0x40 * i else 0x400C6000
abbrev LAN_LANE_FRAMES.COUNT (i : Nat) : Fld := ⟨LAN_LANE_FRAMES i, 31, 0⟩
abbrev LAN_LANE_CRC_ERR (i : Nat) : Nat := if i < 144 then 0x1E01018 + 0x40 * i else 0x400C7000
abbrev LAN_LANE_CRC_ERR.COUNT (i : Nat) : Fld := ⟨LAN_LANE_CRC_ERR i, 31, 0⟩
abbrev LAN_LANE_SYNC (i : Nat) : Nat := if i < 144 then 0x1E0101C + 0x40 * i else 0x400C8000
abbrev LAN_LANE_SYNC.SLIPS (i : Nat) : Fld := ⟨LAN_LANE_SYNC i, 15, 0⟩
abbrev LAN_LANE_SYNC.HUNTS (i : Nat) : Fld := ⟨LAN_LANE_SYNC i, 31, 16⟩
abbrev LAN_LANE_FAR (i : Nat) : Nat := if i < 144 then 0x1E01020 + 0x40 * i else 0x400C9000
abbrev LAN_LANE_FAR.CRC_FAILS (i : Nat) : Fld := ⟨LAN_LANE_FAR i, 15, 0⟩
abbrev LAN_LANE_FAR.EYE_MUI (i : Nat) : Fld := ⟨LAN_LANE_FAR i, 25, 16⟩
abbrev LAN_LANE_PRBS_CTRL (i : Nat) : Nat := if i < 144 then 0x1E01024 + 0x40 * i else 0x400CA000
abbrev LAN_LANE_PRBS_CTRL.GEN_POLY (i : Nat) : Fld := ⟨LAN_LANE_PRBS_CTRL i, 1, 0⟩
abbrev LAN_LANE_PRBS_CTRL.GEN_EN (i : Nat) : Fld := ⟨LAN_LANE_PRBS_CTRL i, 2, 2⟩
abbrev LAN_LANE_PRBS_CTRL.CHK_POLY (i : Nat) : Fld := ⟨LAN_LANE_PRBS_CTRL i, 5, 4⟩
abbrev LAN_LANE_PRBS_CTRL.CHK_EN (i : Nat) : Fld := ⟨LAN_LANE_PRBS_CTRL i, 6, 6⟩
abbrev LAN_LANE_PRBS_CTRL.CHK_LOCK (i : Nat) : Fld := ⟨LAN_LANE_PRBS_CTRL i, 7, 7⟩
abbrev LAN_LANE_LIFE (i : Nat) : Nat := if i < 144 then 0x1E01038 + 0x40 * i else 0x400CB000
abbrev LAN_LANE_LIFE.COUNT (i : Nat) : Fld := ⟨LAN_LANE_LIFE i, 15, 0⟩
abbrev LAN_LANE_WHITENED (i : Nat) : Nat := if i < 144 then 0x1E0103C + 0x40 * i else 0x400CC000
abbrev LAN_LANE_WHITENED.COUNT (i : Nat) : Fld := ⟨LAN_LANE_WHITENED i, 31, 0⟩
abbrev LAN_LANE_PRBS_ERR_LO (i : Nat) : Nat := if i < 144 then 0x1E01028 + 0x40 * i else 0x400CD000
abbrev LAN_LANE_PRBS_ERR_LO.ERRORS (i : Nat) : Fld := ⟨LAN_LANE_PRBS_ERR_LO i, 31, 0⟩
abbrev LAN_LANE_PRBS_ERR_HI (i : Nat) : Nat := if i < 144 then 0x1E0102C + 0x40 * i else 0x400CE000
abbrev LAN_LANE_PRBS_ERR_HI.ERRORS (i : Nat) : Fld := ⟨LAN_LANE_PRBS_ERR_HI i, 15, 0⟩
abbrev LAN_LANE_PRBS_BITS_LO (i : Nat) : Nat := if i < 144 then 0x1E01030 + 0x40 * i else 0x400CF000
abbrev LAN_LANE_PRBS_BITS_LO.BITS (i : Nat) : Fld := ⟨LAN_LANE_PRBS_BITS_LO i, 31, 0⟩
abbrev LAN_LANE_PRBS_BITS_HI (i : Nat) : Nat := if i < 144 then 0x1E01034 + 0x40 * i else 0x400D0000
abbrev LAN_LANE_PRBS_BITS_HI.BITS (i : Nat) : Fld := ⟨LAN_LANE_PRBS_BITS_HI i, 15, 0⟩
abbrev LXS_CTRL : Nat := 0x2000000
abbrev LXS_CTRL.MERGE_EN : Fld := ⟨LXS_CTRL, 0, 0⟩
abbrev LXS_CTRL.TAKE_ROOT : Fld := ⟨LXS_CTRL, 1, 1⟩
abbrev LXS_CTRL.PRIORITY : Fld := ⟨LXS_CTRL, 15, 8⟩
abbrev LXS_CTRL.EXPORT_CTX : Fld := ⟨LXS_CTRL, 21, 20⟩
abbrev LXS_STATUS : Nat := 0x2000004
abbrev LXS_STATUS.PHASE : Fld := ⟨LXS_STATUS, 2, 0⟩
abbrev LXS_STATUS.ROOT : Fld := ⟨LXS_STATUS, 3, 3⟩
abbrev LXS_STATUS.CONVERGED : Fld := ⟨LXS_STATUS, 4, 4⟩
abbrev LXS_STATUS.SPARE : Fld := ⟨LXS_STATUS, 5, 5⟩
abbrev LXS_STATUS.DEPTH_WARN : Fld := ⟨LXS_STATUS, 6, 6⟩
abbrev LXS_STATUS.DEPTH : Fld := ⟨LXS_STATUS, 14, 8⟩
abbrev LXS_STATUS.PARENT_PORT : Fld := ⟨LXS_STATUS, 18, 16⟩
abbrev LXS_STATION : Nat := 0x2000008
abbrev LXS_STATION.STATION : Fld := ⟨LXS_STATION, 11, 0⟩
abbrev LXS_STATION.VALID : Fld := ⟨LXS_STATION, 31, 31⟩
abbrev LXS_EPOCH : Nat := 0x200000C
abbrev LXS_EPOCH.EPOCH : Fld := ⟨LXS_EPOCH, 31, 0⟩
abbrev LXS_ROOT_LO : Nat := 0x2000010
abbrev LXS_ROOT_LO.ID_LOW : Fld := ⟨LXS_ROOT_LO, 31, 0⟩
abbrev LXS_ROOT_HI : Nat := 0x2000014
abbrev LXS_ROOT_HI.ID_HIGH : Fld := ⟨LXS_ROOT_HI, 15, 0⟩
abbrev LXS_ROOT_HI.PRIORITY : Fld := ⟨LXS_ROOT_HI, 23, 16⟩
abbrev LXS_SYSID_LO : Nat := 0x2000018
abbrev LXS_SYSID_LO.ID_LOW : Fld := ⟨LXS_SYSID_LO, 31, 0⟩
abbrev LXS_SYSID_HI : Nat := 0x200001C
abbrev LXS_SYSID_HI.ID_HIGH : Fld := ⟨LXS_SYSID_HI, 15, 0⟩
abbrev LXS_SYSID_HI.GEN : Fld := ⟨LXS_SYSID_HI, 31, 16⟩
abbrev LXS_TIME_ERR : Nat := 0x2000020
abbrev LXS_TIME_ERR.OFFSET : Fld := ⟨LXS_TIME_ERR, 15, 0⟩
abbrev LXS_TIME_ERR.PEAK : Fld := ⟨LXS_TIME_ERR, 31, 16⟩
abbrev LXS_COUNT : Nat := 0x2000024
abbrev LXS_COUNT.DEVICES : Fld := ⟨LXS_COUNT, 12, 0⟩
abbrev LXS_COUNT.SPARES : Fld := ⟨LXS_COUNT, 28, 16⟩
abbrev LXS_COMMIT : Nat := 0x2000028
abbrev LXS_COMMIT.LOST : Fld := ⟨LXS_COMMIT, 15, 0⟩
abbrev LXS_COMMIT.PARTIAL : Fld := ⟨LXS_COMMIT, 31, 16⟩
abbrev LXS_STARTUP : Nat := 0x200002C
abbrev LXS_STARTUP.MS : Fld := ⟨LXS_STARTUP, 15, 0⟩
abbrev LXS_STARTUP.ELECTIONS : Fld := ⟨LXS_STARTUP, 31, 16⟩
abbrev LXS_PROMOTE : Nat := 0x2000030
abbrev LXS_PROMOTE.STATION : Fld := ⟨LXS_PROMOTE, 11, 0⟩
abbrev LXS_PROMOTE.GO : Fld := ⟨LXS_PROMOTE, 31, 31⟩
abbrev LXS_PROMOTE_ID_LO : Nat := 0x2000034
abbrev LXS_PROMOTE_ID_LO.ID_LOW : Fld := ⟨LXS_PROMOTE_ID_LO, 31, 0⟩
abbrev LXS_PROMOTE_ID_HI : Nat := 0x2000038
abbrev LXS_PROMOTE_ID_HI.ID_HIGH : Fld := ⟨LXS_PROMOTE_ID_HI, 15, 0⟩
abbrev LXS_PROMOTE_STATUS : Nat := 0x200003C
abbrev LXS_PROMOTE_STATUS.RESULT : Fld := ⟨LXS_PROMOTE_STATUS, 3, 0⟩
abbrev LXS_PROMOTE_STATUS.LFN : Fld := ⟨LXS_PROMOTE_STATUS, 31, 16⟩
abbrev LXS_EXPORT_PAGE : Nat := 0x2000040
abbrev LXS_EXPORT_PAGE.PAGE : Fld := ⟨LXS_EXPORT_PAGE, 19, 0⟩
abbrev LXS_EXPORT_SRC : Nat := 0x2000044
abbrev LXS_EXPORT_SRC.CTX : Fld := ⟨LXS_EXPORT_SRC, 9, 0⟩
abbrev LXS_EXPORT_HANDLE : Nat := 0x2000048
abbrev LXS_EXPORT_HANDLE.HANDLE : Fld := ⟨LXS_EXPORT_HANDLE, 31, 0⟩
abbrev LXS_EXPORT_OFFSET : Nat := 0x200004C
abbrev LXS_EXPORT_OFFSET.OFFSET : Fld := ⟨LXS_EXPORT_OFFSET, 15, 0⟩
abbrev LXS_EXPORT_PAGES : Nat := 0x2000050
abbrev LXS_EXPORT_PAGES.PAGES : Fld := ⟨LXS_EXPORT_PAGES, 16, 0⟩
abbrev LXS_EXPORT_READER : Nat := 0x2000054
abbrev LXS_EXPORT_READER.DEVICE : Fld := ⟨LXS_EXPORT_READER, 11, 0⟩
abbrev LXS_EXPORT_READER.CTX : Fld := ⟨LXS_EXPORT_READER, 25, 16⟩
abbrev LXS_EXPORT_READER.ANY : Fld := ⟨LXS_EXPORT_READER, 31, 31⟩
abbrev LXS_EXPORT_OP : Nat := 0x2000058
abbrev LXS_EXPORT_OP.OP : Fld := ⟨LXS_EXPORT_OP, 1, 0⟩
abbrev LXS_EXPORT_OP.BINDING : Fld := ⟨LXS_EXPORT_OP, 25, 16⟩
abbrev LXS_EXPORT_STATUS : Nat := 0x200005C
abbrev LXS_EXPORT_STATUS.BUSY : Fld := ⟨LXS_EXPORT_STATUS, 0, 0⟩
abbrev LXS_EXPORT_STATUS.RESULT : Fld := ⟨LXS_EXPORT_STATUS, 7, 4⟩
abbrev LXS_EXPORT_STATUS.USED : Fld := ⟨LXS_EXPORT_STATUS, 25, 16⟩
abbrev LXS_PORT_CFG (i : Nat) : Nat := if i < 4 then 0x2000100 + 0x40 * i else 0x400D1000
abbrev LXS_PORT_CFG.USED (i : Nat) : Fld := ⟨LXS_PORT_CFG i, 0, 0⟩
abbrev LXS_PORT_CFG.RATE (i : Nat) : Fld := ⟨LXS_PORT_CFG i, 3, 1⟩
abbrev LXS_PORT_STATE (i : Nat) : Nat := if i < 4 then 0x2000104 + 0x40 * i else 0x400D2000
abbrev LXS_PORT_STATE.STATE (i : Nat) : Fld := ⟨LXS_PORT_STATE i, 2, 0⟩
abbrev LXS_PORT_STATE.WIDTH (i : Nat) : Fld := ⟨LXS_PORT_STATE i, 3, 3⟩
abbrev LXS_PORT_STATE.PARENT (i : Nat) : Fld := ⟨LXS_PORT_STATE i, 4, 4⟩
abbrev LXS_PORT_STATE.CHILD (i : Nat) : Fld := ⟨LXS_PORT_STATE i, 5, 5⟩
abbrev LXS_PORT_STATE.FAULT (i : Nat) : Fld := ⟨LXS_PORT_STATE i, 15, 8⟩
abbrev LXS_PORT_STATE.RETRAINS (i : Nat) : Fld := ⟨LXS_PORT_STATE i, 31, 16⟩
abbrev LXS_PORT_NEIGH_LO (i : Nat) : Nat := if i < 4 then 0x2000108 + 0x40 * i else 0x400D3000
abbrev LXS_PORT_NEIGH_LO.ID_LOW (i : Nat) : Fld := ⟨LXS_PORT_NEIGH_LO i, 31, 0⟩
abbrev LXS_PORT_NEIGH_HI (i : Nat) : Nat := if i < 4 then 0x200010C + 0x40 * i else 0x400D4000
abbrev LXS_PORT_NEIGH_HI.ID_HIGH (i : Nat) : Fld := ⟨LXS_PORT_NEIGH_HI i, 15, 0⟩
abbrev LXS_PORT_NEIGH_HI.PRIORITY (i : Nat) : Fld := ⟨LXS_PORT_NEIGH_HI i, 23, 16⟩
abbrev LXS_PORT_NEIGH_HI.HOPS (i : Nat) : Fld := ⟨LXS_PORT_NEIGH_HI i, 30, 24⟩
abbrev LXS_PORT_DELAY (i : Nat) : Nat := if i < 4 then 0x2000110 + 0x40 * i else 0x400D5000
abbrev LXS_PORT_DELAY.LINK_PS (i : Nat) : Fld := ⟨LXS_PORT_DELAY i, 23, 0⟩
abbrev LXS_PORT_TX (i : Nat) : Nat := if i < 4 then 0x2000114 + 0x40 * i else 0x400D6000
abbrev LXS_PORT_TX.MESSAGES (i : Nat) : Fld := ⟨LXS_PORT_TX i, 31, 0⟩
abbrev LXS_PORT_RX (i : Nat) : Nat := if i < 4 then 0x2000118 + 0x40 * i else 0x400D7000
abbrev LXS_PORT_RX.MESSAGES (i : Nat) : Fld := ⟨LXS_PORT_RX i, 31, 0⟩
abbrev LXS_PORT_REPLAYS (i : Nat) : Nat := if i < 4 then 0x200011C + 0x40 * i else 0x400D8000
abbrev LXS_PORT_REPLAYS.FRAMES (i : Nat) : Fld := ⟨LXS_PORT_REPLAYS i, 15, 0⟩
abbrev LXS_PORT_REPLAYS.NAKS (i : Nat) : Fld := ⟨LXS_PORT_REPLAYS i, 31, 16⟩
abbrev LXS_PORT_READ (i : Nat) : Nat := if i < 4 then 0x2000120 + 0x40 * i else 0x400D9000
abbrev LXS_PORT_READ.SERVED (i : Nat) : Fld := ⟨LXS_PORT_READ i, 15, 0⟩
abbrev LXS_PORT_READ.FETCHED (i : Nat) : Fld := ⟨LXS_PORT_READ i, 31, 16⟩
abbrev MTR_MB_CTRL : Nat := 0x2200000
abbrev MTR_MB_CTRL.REQ : Fld := ⟨MTR_MB_CTRL, 0, 0⟩
abbrev MTR_MB_CTRL.OP : Fld := ⟨MTR_MB_CTRL, 15, 8⟩
abbrev MTR_MB_ARG (i : Nat) : Nat := if i < 6 then 0x2200004 + 0x4 * i else 0x400DA000
abbrev MTR_MB_ARG.ARG (i : Nat) : Fld := ⟨MTR_MB_ARG i, 31, 0⟩
abbrev MTR_MB_STATUS : Nat := 0x2200020
abbrev MTR_MB_STATUS.BUSY : Fld := ⟨MTR_MB_STATUS, 0, 0⟩
abbrev MTR_MB_STATUS.LINK : Fld := ⟨MTR_MB_STATUS, 1, 1⟩
abbrev MTR_MB_STATUS.RESULT : Fld := ⟨MTR_MB_STATUS, 11, 8⟩
abbrev MTR_MB_STATUS.LEN : Fld := ⟨MTR_MB_STATUS, 27, 16⟩
abbrev THM_CTRL : Nat := 0x2300000
abbrev THM_CTRL.AUTO_RESTART : Fld := ⟨THM_CTRL, 0, 0⟩
abbrev THM_CTRL.RESTART : Fld := ⟨THM_CTRL, 1, 1⟩
abbrev THM_CTRL.FORCE_THROTTLE : Fld := ⟨THM_CTRL, 2, 2⟩
abbrev THM_CTRL.FORCE_SHUTDOWN : Fld := ⟨THM_CTRL, 3, 3⟩
abbrev THM_CTRL.CLEAR_FAULT : Fld := ⟨THM_CTRL, 4, 4⟩
abbrev THM_STATUS : Nat := 0x2300004
abbrev THM_STATUS.STATE : Fld := ⟨THM_STATUS, 1, 0⟩
abbrev THM_STATUS.BAND : Fld := ⟨THM_STATUS, 4, 2⟩
abbrev THM_STATUS.WARN : Fld := ⟨THM_STATUS, 5, 5⟩
abbrev THM_STATUS.THROTTLE : Fld := ⟨THM_STATUS, 6, 6⟩
abbrev THM_STATUS.SENSOR_FAULT : Fld := ⟨THM_STATUS, 7, 7⟩
abbrev THM_STATUS.SD_CAUSE : Fld := ⟨THM_STATUS, 11, 8⟩
abbrev THM_STATUS.GRACE_CUT : Fld := ⟨THM_STATUS, 12, 12⟩
abbrev THM_STATUS.RESTART_BLOCKED : Fld := ⟨THM_STATUS, 13, 13⟩
abbrev THM_TEMP : Nat := 0x2300008
abbrev THM_TEMP.TEMP : Fld := ⟨THM_TEMP, 15, 0⟩
abbrev THM_TEMP.PEAK : Fld := ⟨THM_TEMP, 31, 16⟩
abbrev THM_SENSOR : Nat := 0x230000C
abbrev THM_SENSOR.FAULT : Fld := ⟨THM_SENSOR, 2, 0⟩
abbrev THM_SENSOR.FAULTS : Fld := ⟨THM_SENSOR, 15, 8⟩
abbrev THM_SENSOR.RAW : Fld := ⟨THM_SENSOR, 31, 16⟩
abbrev THM_SD : Nat := 0x2300010
abbrev THM_SD.GRACE_US : Fld := ⟨THM_SD, 15, 0⟩
abbrev THM_SD.COUNT : Fld := ⟨THM_SD, 31, 16⟩
abbrev THM_SD_LFN : Nat := 0x2300014
abbrev THM_SD_LFN.LFN : Fld := ⟨THM_SD_LFN, 31, 0⟩
abbrev THM_THROTTLE : Nat := 0x2300018
abbrev THM_THROTTLE.SOURCES : Fld := ⟨THM_THROTTLE, 4, 0⟩
abbrev THM_THROTTLE.REQUESTS : Fld := ⟨THM_THROTTLE, 31, 16⟩
abbrev THM_RESTART : Nat := 0x230001C
abbrev THM_RESTART.RECENT : Fld := ⟨THM_RESTART, 3, 0⟩
abbrev THM_RESTART.TOTAL : Fld := ⟨THM_RESTART, 31, 16⟩
abbrev THM_PWR : Nat := 0x2300020
abbrev THM_PWR.PACKAGE : Fld := ⟨THM_PWR, 10, 0⟩
abbrev THM_PWR.MAIN : Fld := ⟨THM_PWR, 25, 16⟩
abbrev THM_PWR_HBM : Nat := 0x2300024
abbrev THM_PWR_HBM.STACK0 : Fld := ⟨THM_PWR_HBM, 9, 0⟩
abbrev THM_PWR_HBM.STACK1 : Fld := ⟨THM_PWR_HBM, 25, 16⟩
abbrev THM_CAP : Nat := 0x2300028
abbrev THM_CAP.MAIN_CAP : Fld := ⟨THM_CAP, 9, 0⟩
abbrev THM_CAP.STACK_CAP : Fld := ⟨THM_CAP, 25, 16⟩
abbrev THM_DOM_ON (i : Nat) : Nat := if i < 7 then 0x2300100 + 0x4 * i else 0x400DB000
abbrev THM_DOM_ON.ON (i : Nat) : Fld := ⟨THM_DOM_ON i, 31, 0⟩
abbrev THM_DOM_HOLD (i : Nat) : Nat := if i < 7 then 0x2300120 + 0x4 * i else 0x400DC000
abbrev THM_DOM_HOLD.HOLD (i : Nat) : Fld := ⟨THM_DOM_HOLD i, 31, 0⟩
abbrev THM_DOM_KEEP (i : Nat) : Nat := if i < 7 then 0x2300140 + 0x4 * i else 0x400DD000
abbrev THM_DOM_KEEP.KEEP (i : Nat) : Fld := ⟨THM_DOM_KEEP i, 31, 0⟩
abbrev CAL_CTRL : Nat := 0x2400000
abbrev CAL_CTRL.AUTO_SAVE : Fld := ⟨CAL_CTRL, 0, 0⟩
abbrev CAL_CTRL.SAVE : Fld := ⟨CAL_CTRL, 1, 1⟩
abbrev CAL_SESSION : Nat := 0x2400004
abbrev CAL_SESSION.KIND : Fld := ⟨CAL_SESSION, 2, 0⟩
abbrev CAL_SESSION.START : Fld := ⟨CAL_SESSION, 8, 8⟩
abbrev CAL_SESSION.ABORT : Fld := ⟨CAL_SESSION, 9, 9⟩
abbrev CAL_SESSION_ARG (i : Nat) : Nat := if i < 4 then 0x2400008 + 0x4 * i else 0x400DE000
abbrev CAL_SESSION_ARG.ARG (i : Nat) : Fld := ⟨CAL_SESSION_ARG i, 31, 0⟩
abbrev CAL_SESS_STATUS (i : Nat) : Nat := if i < 6 then 0x240001C + 0x4 * i else 0x400DF000
abbrev CAL_SESS_STATUS.STATE (i : Nat) : Fld := ⟨CAL_SESS_STATUS i, 2, 0⟩
abbrev CAL_SESS_STATUS.REASON (i : Nat) : Fld := ⟨CAL_SESS_STATUS i, 7, 4⟩
abbrev CAL_SESS_STATUS.TIME_MS (i : Nat) : Fld := ⟨CAL_SESS_STATUS i, 31, 16⟩
abbrev CAL_SESS_1_RESULT : Nat := 0x2400040
abbrev CAL_SESS_1_RESULT.WIDTH_MUI : Fld := ⟨CAL_SESS_1_RESULT, 9, 0⟩
abbrev CAL_SESS_1_RESULT.HEIGHT_MV : Fld := ⟨CAL_SESS_1_RESULT, 25, 16⟩
abbrev CAL_SESS_2_RESULT : Nat := 0x2400044
abbrev CAL_SESS_2_RESULT.PPM : Fld := ⟨CAL_SESS_2_RESULT, 23, 0⟩
abbrev CAL_SESS_3_RESULT : Nat := 0x2400048
abbrev CAL_SESS_3_RESULT.DE : Fld := ⟨CAL_SESS_3_RESULT, 15, 0⟩
abbrev CAL_SESS_3_RESULT.PATCHES : Fld := ⟨CAL_SESS_3_RESULT, 31, 16⟩
abbrev CAL_SESS_4_RESULT : Nat := 0x240004C
abbrev CAL_SESS_4_RESULT.PPB : Fld := ⟨CAL_SESS_4_RESULT, 31, 0⟩
abbrev CAL_SESS_5_RESULT : Nat := 0x2400050
abbrev CAL_SESS_5_RESULT.MARGIN : Fld := ⟨CAL_SESS_5_RESULT, 5, 0⟩
abbrev CAL_SESS_5_RESULT.PC : Fld := ⟨CAL_SESS_5_RESULT, 13, 8⟩
abbrev CAL_RES_SEL : Nat := 0x2400060
abbrev CAL_RES_SEL.KIND : Fld := ⟨CAL_RES_SEL, 2, 0⟩
abbrev CAL_RES_SEL.INDEX : Fld := ⟨CAL_RES_SEL, 16, 8⟩
abbrev CAL_RES_DATA : Nat := 0x2400064
abbrev CAL_RES_DATA.DATA : Fld := ⟨CAL_RES_DATA, 31, 0⟩
abbrev CAL_COLOUR_X : Nat := 0x2400070
abbrev CAL_COLOUR_X.VALUE : Fld := ⟨CAL_COLOUR_X, 31, 0⟩
abbrev CAL_COLOUR_Y : Nat := 0x2400074
abbrev CAL_COLOUR_Y.VALUE : Fld := ⟨CAL_COLOUR_Y, 31, 0⟩
abbrev CAL_COLOUR_Z : Nat := 0x2400078
abbrev CAL_COLOUR_Z.VALUE : Fld := ⟨CAL_COLOUR_Z, 31, 0⟩
abbrev CAL_COLOUR_PUT : Nat := 0x240007C
abbrev CAL_COLOUR_PUT.PATCH : Fld := ⟨CAL_COLOUR_PUT, 8, 0⟩
abbrev CAL_COLOUR_PUT.GO : Fld := ⟨CAL_COLOUR_PUT, 31, 31⟩
abbrev CAL_STORE_STATUS : Nat := 0x2400080
abbrev CAL_STORE_STATUS.IN_FORCE : Fld := ⟨CAL_STORE_STATUS, 1, 0⟩
abbrev CAL_STORE_STATUS.VALID : Fld := ⟨CAL_STORE_STATUS, 3, 2⟩
abbrev CAL_STORE_STATUS.WRITING : Fld := ⟨CAL_STORE_STATUS, 4, 4⟩
abbrev CAL_STORE_STATUS.PENDING : Fld := ⟨CAL_STORE_STATUS, 5, 5⟩
abbrev CAL_STORE_STATUS.LAST : Fld := ⟨CAL_STORE_STATUS, 7, 6⟩
abbrev CAL_STORE_STATUS.WRITES : Fld := ⟨CAL_STORE_STATUS, 31, 16⟩
abbrev CAL_STORE_SEQ : Nat := 0x2400084
abbrev CAL_STORE_SEQ.SEQ : Fld := ⟨CAL_STORE_SEQ, 31, 0⟩
abbrev CAL_REPAIR_CTRL : Nat := 0x2400090
abbrev CAL_REPAIR_CTRL.PASS : Fld := ⟨CAL_REPAIR_CTRL, 0, 0⟩
abbrev CAL_REPAIR_STATUS : Nat := 0x2400094
abbrev CAL_REPAIR_STATUS.READMITTED : Fld := ⟨CAL_REPAIR_STATUS, 15, 8⟩
abbrev CAL_REPAIR_STATUS.STILL_FENCED : Fld := ⟨CAL_REPAIR_STATUS, 23, 16⟩
abbrev CAL_CULLET : Nat := 0x2400098
abbrev CAL_CULLET.LANES : Fld := ⟨CAL_CULLET, 3, 0⟩
abbrev CAL_CULLET.TILES : Fld := ⟨CAL_CULLET, 12, 8⟩
abbrev CAL_CULLET.HBM_LANES : Fld := ⟨CAL_CULLET, 31, 16⟩
abbrev CAL_FENCED : Nat := 0x240009C
abbrev CAL_FENCED.LANES : Fld := ⟨CAL_FENCED, 7, 0⟩
abbrev CAL_FENCED.TILES : Fld := ⟨CAL_FENCED, 15, 8⟩
abbrev CAL_FENCED.ROWS : Fld := ⟨CAL_FENCED, 23, 16⟩
abbrev CAL_FENCED.HBM_LANES : Fld := ⟨CAL_FENCED, 31, 24⟩
abbrev CAL_FENCE_SEL : Nat := 0x24000A0
abbrev CAL_FENCE_SEL.ENTRY : Fld := ⟨CAL_FENCE_SEL, 8, 0⟩
abbrev CAL_FENCE_DATA_0 : Nat := 0x24000A4
abbrev CAL_FENCE_DATA_0.KIND : Fld := ⟨CAL_FENCE_DATA_0, 3, 0⟩
abbrev CAL_FENCE_DATA_0.UNIT : Fld := ⟨CAL_FENCE_DATA_0, 24, 16⟩
abbrev CAL_FENCE_DATA_1 : Nat := 0x24000A8
abbrev CAL_FENCE_DATA_1.DETAIL : Fld := ⟨CAL_FENCE_DATA_1, 31, 0⟩
abbrev CAL_FENCE_DATA_2 : Nat := 0x24000AC
abbrev CAL_FENCE_DATA_2.LIFE : Fld := ⟨CAL_FENCE_DATA_2, 15, 0⟩
abbrev CAL_BIST : Nat := 0x24000B0
abbrev CAL_BIST.DONE : Fld := ⟨CAL_BIST, 0, 0⟩
abbrev CAL_BIST.TIME_MS : Fld := ⟨CAL_BIST, 15, 8⟩
abbrev CAL_BIST.NEW_FAULTS : Fld := ⟨CAL_BIST, 23, 16⟩
abbrev CAL_SHADOW_CFG : Nat := 0x24000C0
abbrev CAL_SHADOW_CFG.SHADOWS : Fld := ⟨CAL_SHADOW_CFG, 2, 0⟩
abbrev CAL_SHADOW_CFG.LFS : Fld := ⟨CAL_SHADOW_CFG, 7, 4⟩
abbrev CAL_SHADOW_STATUS : Nat := 0x24000C4
abbrev CAL_SHADOW_STATUS.NEXT : Fld := ⟨CAL_SHADOW_STATUS, 8, 0⟩
abbrev CAL_SHADOW_STATUS.MISMATCHES : Fld := ⟨CAL_SHADOW_STATUS, 23, 16⟩
abbrev CAL_SHADOW_COUNT : Nat := 0x24000C8
abbrev CAL_SHADOW_COUNT.ROTATIONS : Fld := ⟨CAL_SHADOW_COUNT, 15, 0⟩
abbrev CAL_SHADOW_COUNT.UNRESOLVED : Fld := ⟨CAL_SHADOW_COUNT, 31, 16⟩
abbrev INT_CTRL : Nat := 0x2500000
abbrev INT_CTRL.RATE : Fld := ⟨INT_CTRL, 7, 0⟩
abbrev INT_CTRL.INFO_DEVQ : Fld := ⟨INT_CTRL, 8, 8⟩
abbrev INT_CTRL.MIRROR : Fld := ⟨INT_CTRL, 9, 9⟩
abbrev INT_STATUS : Nat := 0x2500004
abbrev INT_STATUS.PENDING : Fld := ⟨INT_STATUS, 12, 0⟩
abbrev INT_DROPS : Nat := 0x2500008
abbrev INT_DROPS.COUNT : Fld := ⟨INT_DROPS, 31, 0⟩
abbrev INT_SUPPRESSED : Nat := 0x250000C
abbrev INT_SUPPRESSED.COUNT : Fld := ⟨INT_SUPPRESSED, 31, 0⟩
abbrev INT_LOG_STATUS : Nat := 0x2500010
abbrev INT_LOG_STATUS.NEWEST : Fld := ⟨INT_LOG_STATUS, 9, 0⟩
abbrev INT_LOG_STATUS.TOTAL : Fld := ⟨INT_LOG_STATUS, 31, 16⟩
abbrev INT_LOG_SEL : Nat := 0x2500014
abbrev INT_LOG_SEL.INDEX : Fld := ⟨INT_LOG_SEL, 9, 0⟩
abbrev INT_LOG_DATA (i : Nat) : Nat := if i < 8 then 0x2500020 + 0x4 * i else 0x400E0000
abbrev INT_LOG_DATA.BYTES (i : Nat) : Fld := ⟨INT_LOG_DATA i, 31, 0⟩
abbrev INT_CODE_SEL : Nat := 0x2500040
abbrev INT_CODE_SEL.CODE : Fld := ⟨INT_CODE_SEL, 15, 0⟩
abbrev INT_CODE_CTRL : Nat := 0x2500044
abbrev INT_CODE_CTRL.MASK : Fld := ⟨INT_CODE_CTRL, 0, 0⟩
abbrev INT_CODE_CTRL.RATE : Fld := ⟨INT_CODE_CTRL, 15, 8⟩
abbrev INT_CODE_COUNT : Nat := 0x2500048
abbrev INT_CODE_COUNT.COUNT : Fld := ⟨INT_CODE_COUNT, 31, 0⟩
abbrev INT_CRC_SUM (i : Nat) : Nat := if i < 20 then 0x2500100 + 0x4 * i else 0x400E1000
abbrev INT_CRC_SUM.OUT (i : Nat) : Fld := ⟨INT_CRC_SUM i, 15, 0⟩
abbrev INT_CRC_SUM.WB (i : Nat) : Fld := ⟨INT_CRC_SUM i, 19, 16⟩
abbrev INT_CRC_CTRL (i : Nat) (j : Nat) : Nat := if i < 20 ∧ j < 16 then 0x2510000 + 0x400 * i + 0x40 * j else 0x400E2000
abbrev INT_CRC_CTRL.EN (i : Nat) (j : Nat) : Fld := ⟨INT_CRC_CTRL i j, 0, 0⟩
abbrev INT_CRC_CTRL.TAP (i : Nat) (j : Nat) : Fld := ⟨INT_CRC_CTRL i j, 1, 1⟩
abbrev INT_CRC_CTRL.MARKER (i : Nat) (j : Nat) : Fld := ⟨INT_CRC_CTRL i j, 2, 2⟩
abbrev INT_CRC_XY (i : Nat) (j : Nat) : Nat := if i < 20 ∧ j < 16 then 0x2510004 + 0x400 * i + 0x40 * j else 0x400E3000
abbrev INT_CRC_XY.X (i : Nat) (j : Nat) : Fld := ⟨INT_CRC_XY i j, 12, 0⟩
abbrev INT_CRC_XY.Y (i : Nat) (j : Nat) : Fld := ⟨INT_CRC_XY i j, 28, 16⟩
abbrev INT_CRC_WH (i : Nat) (j : Nat) : Nat := if i < 20 ∧ j < 16 then 0x2510008 + 0x400 * i + 0x40 * j else 0x400E4000
abbrev INT_CRC_WH.W_M1 (i : Nat) (j : Nat) : Fld := ⟨INT_CRC_WH i j, 12, 0⟩
abbrev INT_CRC_WH.H_M1 (i : Nat) (j : Nat) : Fld := ⟨INT_CRC_WH i j, 28, 16⟩
abbrev INT_CRC_EXPECT (i : Nat) (j : Nat) : Nat := if i < 20 ∧ j < 16 then 0x251000C + 0x400 * i + 0x40 * j else 0x400E5000
abbrev INT_CRC_EXPECT.CRC (i : Nat) (j : Nat) : Fld := ⟨INT_CRC_EXPECT i j, 31, 0⟩
abbrev INT_CRC_EXP_CFN (i : Nat) (j : Nat) : Nat := if i < 20 ∧ j < 16 then 0x2510010 + 0x400 * i + 0x40 * j else 0x400E6000
abbrev INT_CRC_EXP_CFN.CFN (i : Nat) (j : Nat) : Fld := ⟨INT_CRC_EXP_CFN i j, 31, 0⟩
abbrev INT_CRC_RESULT (i : Nat) (j : Nat) : Nat := if i < 20 ∧ j < 16 then 0x2510014 + 0x400 * i + 0x40 * j else 0x400E7000
abbrev INT_CRC_RESULT.CRC (i : Nat) (j : Nat) : Fld := ⟨INT_CRC_RESULT i j, 31, 0⟩
abbrev INT_CRC_RES_CFN (i : Nat) (j : Nat) : Nat := if i < 20 ∧ j < 16 then 0x2510018 + 0x400 * i + 0x40 * j else 0x400E8000
abbrev INT_CRC_RES_CFN.CFN (i : Nat) (j : Nat) : Fld := ⟨INT_CRC_RES_CFN i j, 31, 0⟩
abbrev INT_CRC_STATUS (i : Nat) (j : Nat) : Nat := if i < 20 ∧ j < 16 then 0x251001C + 0x400 * i + 0x40 * j else 0x400E9000
abbrev INT_CRC_STATUS.STATE (i : Nat) (j : Nat) : Fld := ⟨INT_CRC_STATUS i j, 2, 0⟩
abbrev INT_CRC_STATUS.LAST (i : Nat) (j : Nat) : Fld := ⟨INT_CRC_STATUS i j, 6, 4⟩
abbrev INT_CRC_STATUS.ARMED (i : Nat) (j : Nat) : Fld := ⟨INT_CRC_STATUS i j, 7, 7⟩
abbrev INT_CRC_STATUS.MISMATCHES (i : Nat) (j : Nat) : Fld := ⟨INT_CRC_STATUS i j, 31, 16⟩
abbrev INT_WCRC_CTRL (i : Nat) (j : Nat) : Nat := if i < 20 ∧ j < 4 then 0x2520000 + 0x100 * i + 0x40 * j else 0x400EA000
abbrev INT_WCRC_CTRL.EN (i : Nat) (j : Nat) : Fld := ⟨INT_WCRC_CTRL i j, 0, 0⟩
abbrev INT_WCRC_CTRL.TAP (i : Nat) (j : Nat) : Fld := ⟨INT_WCRC_CTRL i j, 1, 1⟩
abbrev INT_WCRC_CTRL.MARKER (i : Nat) (j : Nat) : Fld := ⟨INT_WCRC_CTRL i j, 2, 2⟩
abbrev INT_WCRC_XY (i : Nat) (j : Nat) : Nat := if i < 20 ∧ j < 4 then 0x2520004 + 0x100 * i + 0x40 * j else 0x400EB000
abbrev INT_WCRC_XY.X (i : Nat) (j : Nat) : Fld := ⟨INT_WCRC_XY i j, 12, 0⟩
abbrev INT_WCRC_XY.Y (i : Nat) (j : Nat) : Fld := ⟨INT_WCRC_XY i j, 28, 16⟩
abbrev INT_WCRC_WH (i : Nat) (j : Nat) : Nat := if i < 20 ∧ j < 4 then 0x2520008 + 0x100 * i + 0x40 * j else 0x400EC000
abbrev INT_WCRC_WH.W_M1 (i : Nat) (j : Nat) : Fld := ⟨INT_WCRC_WH i j, 12, 0⟩
abbrev INT_WCRC_WH.H_M1 (i : Nat) (j : Nat) : Fld := ⟨INT_WCRC_WH i j, 28, 16⟩
abbrev INT_WCRC_EXPECT (i : Nat) (j : Nat) : Nat := if i < 20 ∧ j < 4 then 0x252000C + 0x100 * i + 0x40 * j else 0x400ED000
abbrev INT_WCRC_EXPECT.CRC (i : Nat) (j : Nat) : Fld := ⟨INT_WCRC_EXPECT i j, 31, 0⟩
abbrev INT_WCRC_EXP_CFN (i : Nat) (j : Nat) : Nat := if i < 20 ∧ j < 4 then 0x2520010 + 0x100 * i + 0x40 * j else 0x400EE000
abbrev INT_WCRC_EXP_CFN.CFN (i : Nat) (j : Nat) : Fld := ⟨INT_WCRC_EXP_CFN i j, 31, 0⟩
abbrev INT_WCRC_RESULT (i : Nat) (j : Nat) : Nat := if i < 20 ∧ j < 4 then 0x2520014 + 0x100 * i + 0x40 * j else 0x400EF000
abbrev INT_WCRC_RESULT.CRC (i : Nat) (j : Nat) : Fld := ⟨INT_WCRC_RESULT i j, 31, 0⟩
abbrev INT_WCRC_RES_CFN (i : Nat) (j : Nat) : Nat := if i < 20 ∧ j < 4 then 0x2520018 + 0x100 * i + 0x40 * j else 0x400F0000
abbrev INT_WCRC_RES_CFN.CFN (i : Nat) (j : Nat) : Fld := ⟨INT_WCRC_RES_CFN i j, 31, 0⟩
abbrev INT_WCRC_STATUS (i : Nat) (j : Nat) : Nat := if i < 20 ∧ j < 4 then 0x252001C + 0x100 * i + 0x40 * j else 0x400F1000
abbrev INT_WCRC_STATUS.STATE (i : Nat) (j : Nat) : Fld := ⟨INT_WCRC_STATUS i j, 2, 0⟩
abbrev INT_WCRC_STATUS.LAST (i : Nat) (j : Nat) : Fld := ⟨INT_WCRC_STATUS i j, 6, 4⟩
abbrev INT_WCRC_STATUS.ARMED (i : Nat) (j : Nat) : Fld := ⟨INT_WCRC_STATUS i j, 7, 7⟩
abbrev INT_WCRC_STATUS.MISMATCHES (i : Nat) (j : Nat) : Fld := ⟨INT_WCRC_STATUS i j, 31, 16⟩
abbrev GLB_RESET_CAUSE : Nat := 0x200
abbrev GLB_RESET_CAUSE.LAST : Fld := ⟨GLB_RESET_CAUSE, 1, 0⟩
abbrev GLB_RESET_CAUSE.RESETS : Fld := ⟨GLB_RESET_CAUSE, 15, 8⟩
abbrev GLB_RESET_CAUSE.SHORT_HOLD : Fld := ⟨GLB_RESET_CAUSE, 16, 16⟩
abbrev GLB_BOOT_STATUS : Nat := 0x204
abbrev GLB_BOOT_STATUS.IMAGE : Fld := ⟨GLB_BOOT_STATUS, 0, 0⟩
abbrev GLB_BOOT_STATUS.SELFTEST : Fld := ⟨GLB_BOOT_STATUS, 1, 1⟩
abbrev GLB_BOOT_STATUS.HBM : Fld := ⟨GLB_BOOT_STATUS, 2, 2⟩
abbrev GLB_BOOT_STATUS.STORE : Fld := ⟨GLB_BOOT_STATUS, 3, 3⟩
abbrev GLB_BOOT_STATUS.TIMEBASE : Fld := ⟨GLB_BOOT_STATUS, 4, 4⟩
abbrev GLB_BOOT_STATUS.PORTS : Fld := ⟨GLB_BOOT_STATUS, 5, 5⟩
abbrev GLB_BOOT_STATUS.CHAINS : Fld := ⟨GLB_BOOT_STATUS, 6, 6⟩
abbrev GLB_BOOT_STATUS.CALSTORE : Fld := ⟨GLB_BOOT_STATUS, 7, 7⟩
abbrev GLB_BOOT_STATUS.LAXUS : Fld := ⟨GLB_BOOT_STATUS, 8, 8⟩
abbrev GLB_BOOT_STATUS.DONE : Fld := ⟨GLB_BOOT_STATUS, 9, 9⟩
abbrev GLB_BOOT_STATUS.WAITING : Fld := ⟨GLB_BOOT_STATUS, 15, 12⟩
abbrev GLB_BOOT_STATUS.TIMING_VALID : Fld := ⟨GLB_BOOT_STATUS, 16, 16⟩
abbrev GLB_BOOT_STATUS.TIMING_REJECTED : Fld := ⟨GLB_BOOT_STATUS, 17, 17⟩
abbrev GLB_BOOT_STATUS.FREE_FALLBACK : Fld := ⟨GLB_BOOT_STATUS, 18, 18⟩
abbrev GLB_BOOT_TIME (i : Nat) : Nat := if i < 8 then 0x208 + 0x4 * i else 0x400F2000
abbrev GLB_BOOT_TIME.US (i : Nat) : Fld := ⟨GLB_BOOT_TIME i, 23, 0⟩
abbrev GLB_BOOT_TIME.VALID (i : Nat) : Fld := ⟨GLB_BOOT_TIME i, 31, 31⟩
abbrev GLB_VCORE_SET : Nat := 0x300
abbrev GLB_VCORE_SET.VSET_CODE : Fld := ⟨GLB_VCORE_SET, 4, 0⟩
abbrev GLB_VCORE_SET.APPLIED : Fld := ⟨GLB_VCORE_SET, 12, 8⟩
abbrev HIF_PF_COMMIT : Nat := 0x300010
abbrev HIF_PF_COMMIT.REQ : Fld := ⟨HIF_PF_COMMIT, 0, 0⟩
abbrev HIF_PF_COMMIT.CANCEL : Fld := ⟨HIF_PF_COMMIT, 1, 1⟩
abbrev HIF_PF_COMMIT.AT_LFN : Fld := ⟨HIF_PF_COMMIT, 2, 2⟩
abbrev HIF_PF_COMMIT.TAG : Fld := ⟨HIF_PF_COMMIT, 31, 16⟩
abbrev HIF_PF_COMMIT_TARGET : Nat := 0x300014
abbrev HIF_PF_COMMIT_TARGET.LFN : Fld := ⟨HIF_PF_COMMIT_TARGET, 31, 0⟩
abbrev HIF_PF_COMMIT_STATUS : Nat := 0x300018
abbrev HIF_PF_COMMIT_STATUS.STATE : Fld := ⟨HIF_PF_COMMIT_STATUS, 2, 0⟩
abbrev HIF_PF_COMMIT_STATUS.NR_CAUSE : Fld := ⟨HIF_PF_COMMIT_STATUS, 7, 4⟩
abbrev HIF_PF_COMMIT_STATUS.REASON : Fld := ⟨HIF_PF_COMMIT_STATUS, 11, 8⟩
abbrev HIF_PF_COMMIT_STATUS.TAG : Fld := ⟨HIF_PF_COMMIT_STATUS, 31, 16⟩
abbrev HIF_PF_COMMIT_APPLIED : Nat := 0x30001C
abbrev HIF_PF_COMMIT_APPLIED.LFN : Fld := ⟨HIF_PF_COMMIT_APPLIED, 31, 0⟩

end Sys2Proof.Machine
end

