-- ==== Sys2Proof/Machine/RegMap.lean ====
section
/-! DEFINITION. The register map: for each register its key, its index strides and counts, which bits carry
which access code of Table GEN-10 (R10), and its reset value, from the register tables of the spec.
A bit in none of the masks is read-only or reserved (R7). -/
namespace Sys2Proof.Machine

/-- One register or array of registers. `dims` lists (stride, count), the outer index first. -/
structure RegEntry where
  name : String
  base : Nat
  dims : List (Nat × Nat)
  rw : Nat
  rws : Nat
  rwl : Nat
  w1s : Nat
  w1c : Nat
  wo : Nat
  reset : Nat
  /-- The lower register of a 64-bit pair (R9). -/
  pairLow : Bool
  deriving DecidableEq, Repr

/-- Whether an offset from the base falls on an element of the array. -/
def dimsMatch : List (Nat × Nat) → Nat → Bool
  | [], off => off == 0
  | (st, n) :: r, off => decide (off / st < n) && dimsMatch r (off % st)

def RegEntry.has (e : RegEntry) (a : Nat) : Bool :=
  decide (e.base ≤ a) && dimsMatch e.dims (a - e.base)

/-- The registers of block GLB. -/
def regsGLB : List RegEntry := [
  ⟨"GLB_DEVICE_ID", 0x0, [], 0x0, 0x0, 0x0, 0x0, 0x0, 0x0, 0x412800F0, false⟩,
  ⟨"GLB_STEPPING", 0x4, [], 0x0, 0x0, 0x0, 0x0, 0x0, 0x0, 0x0, false⟩,
  ⟨"GLB_UID_LO", 0x8, [], 0x0, 0x0, 0x0, 0x0, 0x0, 0x0, 0x0, true⟩,
  ⟨"GLB_UID_HI", 0xC, [], 0x0, 0x0, 0x0, 0x0, 0x0, 0x0, 0x0, false⟩,
  ⟨"GLB_SYSTIME_LO", 0x10, [], 0x0, 0x0, 0x0, 0x0, 0x0, 0x0, 0x0, true⟩,
  ⟨"GLB_SYSTIME_HI", 0x14, [], 0x0, 0x0, 0x0, 0x0, 0x0, 0x0, 0x0, false⟩,
  ⟨"GLB_LFN_LATCHED", 0x18, [], 0x0, 0x0, 0x0, 0x0, 0x0, 0x0, 0x0, false⟩,
  ⟨"GLB_PHASE_LATCHED", 0x1C, [], 0x0, 0x0, 0x0, 0x0, 0x0, 0x0, 0x0, false⟩,
  ⟨"GLB_SNAP_CTRL", 0x100, [], 0x4, 0x0, 0x0, 0x3, 0x0, 0x0, 0x0, false⟩,
  ⟨"GLB_SNAP_SEL", 0x104, [], 0xFFFE, 0x0, 0x0, 0x0, 0x0, 0x0, 0x0, false⟩,
  ⟨"GLB_SNAP_TARGET", 0x108, [], 0xFFFFFFFF, 0x0, 0x0, 0x0, 0x0, 0x0, 0x0, false⟩,
  ⟨"GLB_SNAP_STATUS", 0x10C, [], 0x0, 0x0, 0x0, 0x0, 0x0, 0x0, 0x0, false⟩,
  ⟨"GLB_SNAP_LFN", 0x110, [], 0x0, 0x0, 0x0, 0x0, 0x0, 0x0, 0x0, false⟩,
  ⟨"GLB_RESET_CAUSE", 0x200, [], 0x0, 0x0, 0x0, 0x0, 0x0, 0x0, 0x1, false⟩,
  ⟨"GLB_BOOT_STATUS", 0x204, [], 0x0, 0x0, 0x0, 0x0, 0x0, 0x0, 0x0, false⟩,
  ⟨"GLB_BOOT_TIME", 0x208, [(0x4, 8)], 0x0, 0x0, 0x0, 0x0, 0x0, 0x0, 0x0, false⟩,
  ⟨"GLB_VCORE_SET", 0x300, [], 0x1F00, 0x0, 0x0, 0x0, 0x0, 0x0, 0x1400, false⟩,
  ⟨"GLB_SNAP_DATA", 0x1000, [(0x4, 1024)], 0x0, 0x0, 0x0, 0x0, 0x0, 0x0, 0x0, false⟩]

/-- The registers of block TIM. -/
def regsTIM : List RegEntry := [
  ⟨"TIM_REF_CTRL", 0x100000, [], 0x70777, 0x0, 0x0, 0x0, 0x0, 0x0, 0x10000, false⟩,
  ⟨"TIM_REF_STATUS", 0x100004, [], 0x0, 0x0, 0x0, 0x0, 0x0, 0x0, 0x0, false⟩,
  ⟨"TIM_GENLOCK_CFG", 0x100008, [], 0xFFF0007, 0x0, 0x0, 0x0, 0x0, 0x0, 0x4650001, false⟩,
  ⟨"TIM_LF_CFG", 0x10000C, [], 0x0, 0xF3F, 0x0, 0x0, 0x0, 0x0, 0x101, false⟩,
  ⟨"TIM_FREERUN_PERIOD", 0x100010, [], 0x0, 0xFFFFFFFF, 0x0, 0x0, 0x0, 0x0, 0x21E88E39, false⟩,
  ⟨"TIM_PHASE_OFFSET", 0x100014, [], 0x0, 0xFFFFFF, 0x0, 0x0, 0x0, 0x0, 0x0, false⟩,
  ⟨"TIM_DPLL_CFG", 0x100018, [], 0xF03, 0x0, 0x0, 0x0, 0x0, 0x0, 0xA01, false⟩,
  ⟨"TIM_DPLL_STATUS", 0x10001C, [], 0x0, 0x0, 0x0, 0x0, 0x0, 0x0, 0x1, false⟩,
  ⟨"TIM_LF_PERIOD", 0x100020, [], 0x0, 0x0, 0x0, 0x0, 0x0, 0x0, 0x1A7DAF2, false⟩,
  ⟨"TIM_SYSTIME_CTRL", 0x100024, [], 0xFFFF0002, 0x0, 0x0, 0x1, 0x0, 0x0, 0x0, false⟩,
  ⟨"TIM_SYSTIME_SET_LO", 0x100028, [], 0xFFFFFFFF, 0x0, 0x0, 0x0, 0x0, 0x0, 0x0, true⟩,
  ⟨"TIM_SYSTIME_SET_HI", 0x10002C, [], 0xFFFFFFFF, 0x0, 0x0, 0x0, 0x0, 0x0, 0x0, false⟩,
  ⟨"TIM_SHUT_CTRL", 0x100040, [(0x20, 4)], 0x0, 0xFF77F, 0x0, 0x0, 0x0, 0x0, 0x14000, false⟩,
  ⟨"TIM_SHUT_ANGLE", 0x100044, [(0x20, 4)], 0x0, 0xFFFF, 0x0, 0x0, 0x0, 0x0, 0x4650, false⟩,
  ⟨"TIM_SHUT_OPEN", 0x100048, [(0x20, 4)], 0x0, 0x7FFFFFF, 0x0, 0x0, 0x0, 0x0, 0x0, false⟩,
  ⟨"TIM_SHUT_STATUS", 0x10004C, [(0x20, 4)], 0x0, 0x0, 0x0, 0x0, 0x0, 0x0, 0x0, false⟩,
  ⟨"TIM_SHUT_WIN_OPEN", 0x100050, [(0x20, 4)], 0x0, 0x0, 0x0, 0x0, 0x0, 0x0, 0x0, false⟩,
  ⟨"TIM_SHUT_WIN_LEN", 0x100054, [(0x20, 4)], 0x0, 0x0, 0x0, 0x0, 0x0, 0x0, 0x0, false⟩,
  ⟨"TIM_SHUT_JITTER", 0x100058, [(0x20, 4)], 0x0, 0x0, 0x0, 0x0, 0x0, 0x0, 0x0, false⟩,
  ⟨"TIM_OUT_CF", 0x100100, [(0x4, 20)], 0x0, 0xFFFF, 0x0, 0x0, 0x0, 0x0, 0x101, false⟩,
  ⟨"TIM_OUT_CFN", 0x100180, [(0x4, 20)], 0x0, 0x0, 0x0, 0x0, 0x0, 0x0, 0x0, false⟩,
  ⟨"TIM_OUT_REPEATS", 0x100200, [(0x4, 20)], 0x0, 0x0, 0x0, 0x0, 0x0, 0x0, 0x0, false⟩,
  ⟨"TIM_OUT_LATE", 0x100280, [(0x4, 20)], 0x0, 0x0, 0x0, 0x0, 0x0, 0x0, 0x0, false⟩,
  ⟨"TIM_OUT_SKEW", 0x100300, [(0x4, 20)], 0x80000000, 0x0, 0x0, 0x0, 0x0, 0x0, 0x0, false⟩]

/-- The registers of block CFG. -/
def regsCFG : List RegEntry := [
  ⟨"CFG_STATUS", 0x200000, [], 0x0, 0x0, 0x0, 0x0, 0x0, 0x0, 0x0, false⟩,
  ⟨"CFG_FAIL_INFO", 0x200004, [], 0x0, 0x0, 0x0, 0x0, 0x0, 0x0, 0x0, false⟩,
  ⟨"CFG_IMAGE_BUILD", 0x200008, [], 0x0, 0x0, 0x0, 0x0, 0x0, 0x0, 0x0, false⟩,
  ⟨"CFG_IMAGE_INFO", 0x20000C, [], 0x0, 0x0, 0x0, 0x0, 0x0, 0x0, 0x0, false⟩,
  ⟨"CFG_TOPO_HASH", 0x200040, [(0x4, 12)], 0x0, 0x0, 0x0, 0x0, 0x0, 0x0, 0x0, false⟩,
  ⟨"CFG_LOAD_CTRL", 0x200010, [], 0x6, 0x0, 0x0, 0x1, 0x0, 0x0, 0x0, false⟩,
  ⟨"CFG_HOST_ADDR_LO", 0x200014, [], 0xFFFFFFC0, 0x0, 0x0, 0x0, 0x0, 0x0, 0x0, true⟩,
  ⟨"CFG_HOST_ADDR_HI", 0x200018, [], 0xFFFFFFFF, 0x0, 0x0, 0x0, 0x0, 0x0, 0x0, false⟩,
  ⟨"CFG_HOST_LEN", 0x20001C, [], 0x7FFFFFF, 0x0, 0x0, 0x0, 0x0, 0x0, 0x0, false⟩,
  ⟨"CFG_RELOAD_TARGET", 0x200020, [], 0xFFFFFFFF, 0x0, 0x0, 0x0, 0x0, 0x0, 0x0, false⟩,
  ⟨"CFG_RELOAD_APPLIED", 0x200024, [], 0x0, 0x0, 0x0, 0x0, 0x0, 0x0, 0x0, false⟩,
  ⟨"CFG_RELOAD_TARGET_CTRL", 0x200028, [], 0x1, 0x0, 0x0, 0x0, 0x0, 0x0, 0x0, false⟩,
  ⟨"CFG_OTP_STATUS", 0x200030, [], 0x0, 0x0, 0x0, 0x0, 0x0, 0x0, 0x0, false⟩,
  ⟨"CFG_OTP_PROG", 0x200034, [], 0x0, 0x0, 0x0, 0x0, 0x0, 0x37FFFF, 0x0, false⟩]

/-- The registers of block HIF. -/
def regsHIF : List RegEntry := [
  ⟨"HIF_CTRL", 0x300000, [], 0x3F01, 0x0, 0x0, 0x0, 0x0, 0x0, 0x0, false⟩,
  ⟨"HIF_STATUS", 0x300004, [], 0x0, 0x0, 0x0, 0x0, 0x0, 0x0, 0x0, false⟩,
  ⟨"HIF_POOL_FREE", 0x300008, [], 0x0, 0x0, 0x0, 0x0, 0x0, 0x0, 0x0, false⟩,
  ⟨"HIF_DEVQ_BASE_LO", 0x300020, [], 0xFFFFF000, 0x0, 0x0, 0x0, 0x0, 0x0, 0x0, true⟩,
  ⟨"HIF_DEVQ_BASE_HI", 0x300024, [], 0xFFFFFFFF, 0x0, 0x0, 0x0, 0x0, 0x0, 0x0, false⟩,
  ⟨"HIF_DEVQ_CFG", 0x300028, [], 0xFFFF011F, 0x0, 0x0, 0x0, 0x0, 0x0, 0x0, false⟩,
  ⟨"HIF_DEVQ_TAIL", 0x30002C, [], 0x0, 0x0, 0x0, 0x0, 0x0, 0x0, 0x0, false⟩,
  ⟨"HIF_DEVQ_HEAD", 0x300030, [], 0x1FFFF, 0x0, 0x0, 0x0, 0x0, 0x0, 0x0, false⟩,
  ⟨"HIF_DEVQ_DROPS", 0x300034, [], 0x0, 0x0, 0x0, 0x0, 0x0, 0x0, 0x0, false⟩,
  ⟨"HIF_GROUP_CTRL", 0x301000, [(0x4, 64)], 0xFF01, 0x0, 0x0, 0x0, 0x0, 0x0, 0x0, false⟩,
  ⟨"HIF_FN_PASID", 0x302000, [(0x10, 256)], 0x8003FFFF, 0x0, 0x0, 0x0, 0x0, 0x0, 0x0, false⟩,
  ⟨"HIF_FN_STATUS", 0x302004, [(0x10, 256)], 0x0, 0x0, 0x0, 0x0, 0x0, 0x0, 0x0, false⟩,
  ⟨"HIF_FN_DROPS", 0x302008, [(0x10, 256)], 0x0, 0x0, 0x0, 0x0, 0x0, 0x0, 0x0, false⟩,
  ⟨"HIF_CTX_LIMITS_0", 0x310000, [(0x10, 1024)], 0x803FFFFF, 0x0, 0x0, 0x0, 0x0, 0x0, 0x0, false⟩,
  ⟨"HIF_CTX_LIMITS_1", 0x310004, [(0x10, 1024)], 0x1FFFFF, 0x0, 0x0, 0x0, 0x0, 0x0, 0x0, false⟩,
  ⟨"HIF_CTX_LIMITS_2", 0x310008, [(0x10, 1024)], 0x1FFF, 0x0, 0x0, 0x0, 0x0, 0x0, 0x0, false⟩,
  ⟨"HIF_CTX_LIMITS_3", 0x31000C, [(0x10, 1024)], 0xFFFFF, 0x0, 0x0, 0x0, 0x0, 0x0, 0x0, false⟩,
  ⟨"HIF_PF_COMMIT", 0x300010, [], 0xFFFF0004, 0x0, 0x0, 0x3, 0x0, 0x0, 0x0, false⟩,
  ⟨"HIF_PF_COMMIT_TARGET", 0x300014, [], 0xFFFFFFFF, 0x0, 0x0, 0x0, 0x0, 0x0, 0x0, false⟩,
  ⟨"HIF_PF_COMMIT_STATUS", 0x300018, [], 0x0, 0x0, 0x0, 0x0, 0x0, 0x0, 0x0, false⟩,
  ⟨"HIF_PF_COMMIT_APPLIED", 0x30001C, [], 0x0, 0x0, 0x0, 0x0, 0x0, 0x0, 0x0, false⟩]

/-- The registers of block CTX. -/
def regsCTX : List RegEntry := [
  ⟨"HIF_CTX_COMMIT", 0x10000008, [(0x10000, 1024)], 0xFFFF0004, 0x0, 0x0, 0x3, 0x0, 0x0, 0x0, false⟩,
  ⟨"HIF_CTX_COMMIT_TARGET", 0x1000000C, [(0x10000, 1024)], 0xFFFFFFFF, 0x0, 0x0, 0x0, 0x0, 0x0, 0x0, false⟩,
  ⟨"HIF_CTX_COMMIT_STATUS", 0x10000010, [(0x10000, 1024)], 0x0, 0x0, 0x0, 0x0, 0x0, 0x0, 0x0, false⟩,
  ⟨"HIF_CTX_COMMIT_APPLIED", 0x10000014, [(0x10000, 1024)], 0x0, 0x0, 0x0, 0x0, 0x0, 0x0, 0x0, false⟩,
  ⟨"HIF_CTX_CTRL", 0x10000000, [(0x10000, 1024)], 0x0, 0x0, 0x0, 0x1, 0x0, 0x0, 0x0, false⟩,
  ⟨"HIF_CTX_STATUS", 0x10000004, [(0x10000, 1024)], 0x0, 0x0, 0x0, 0x0, 0x0, 0x0, 0x0, false⟩,
  ⟨"HIF_CTX_LAYER_REQ", 0x10000018, [(0x10000, 1024)], 0x0, 0x0, 0x0, 0x0, 0x0, 0x313F, 0x0, false⟩,
  ⟨"HIF_CTX_LAYER_RESULT", 0x1000001C, [(0x10000, 1024)], 0x0, 0x0, 0x0, 0x0, 0x0, 0x0, 0x0, false⟩,
  ⟨"HIF_CTX_APERTURE", 0x10000044, [(0x10000, 1024)], 0xFFF, 0x0, 0x0, 0x0, 0x0, 0x0, 0x0, false⟩,
  ⟨"HIF_CTX_FETCH_DEMAND", 0x10000048, [(0x10000, 1024)], 0x0, 0x0, 0x0, 0x0, 0x0, 0x0, 0x0, false⟩,
  ⟨"HIF_CTX_PAGES", 0x1000004C, [(0x10000, 1024)], 0x0, 0x0, 0x0, 0x0, 0x0, 0x0, 0x0, false⟩,
  ⟨"HIF_CTX_FAULT_LO", 0x10000050, [(0x10000, 1024)], 0x0, 0x0, 0x0, 0x0, 0x0, 0x0, 0x0, true⟩,
  ⟨"HIF_CTX_FAULT_HI", 0x10000054, [(0x10000, 1024)], 0x0, 0x0, 0x0, 0x0, 0x0, 0x0, 0x0, false⟩,
  ⟨"HIF_CTX_CMDQ_BASE_LO", 0x10000020, [(0x10000, 1024)], 0xFFFFFFC0, 0x0, 0x0, 0x0, 0x0, 0x0, 0x0, true⟩,
  ⟨"HIF_CTX_CMDQ_BASE_HI", 0x10000024, [(0x10000, 1024)], 0xFFFFFFFF, 0x0, 0x0, 0x0, 0x0, 0x0, 0x0, false⟩,
  ⟨"HIF_CTX_CMDQ_CFG", 0x10000028, [(0x10000, 1024)], 0x10F, 0x0, 0x0, 0x0, 0x0, 0x0, 0x4, false⟩,
  ⟨"HIF_CTX_CMDQ_HEAD", 0x1000002C, [(0x10000, 1024)], 0x0, 0x0, 0x0, 0x0, 0x0, 0x0, 0x0, false⟩,
  ⟨"HIF_CTX_EVQ_BASE_LO", 0x10000030, [(0x10000, 1024)], 0xFFFFF000, 0x0, 0x0, 0x0, 0x0, 0x0, 0x0, true⟩,
  ⟨"HIF_CTX_EVQ_BASE_HI", 0x10000034, [(0x10000, 1024)], 0xFFFFFFFF, 0x0, 0x0, 0x0, 0x0, 0x0, 0x0, false⟩,
  ⟨"HIF_CTX_EVQ_CFG", 0x10000038, [(0x10000, 1024)], 0xFFFF011F, 0x0, 0x0, 0x0, 0x0, 0x0, 0x6, false⟩,
  ⟨"HIF_CTX_EVQ_TAIL", 0x1000003C, [(0x10000, 1024)], 0x0, 0x0, 0x0, 0x0, 0x0, 0x0, 0x0, false⟩,
  ⟨"HIF_CTX_EVQ_DROPS", 0x10000040, [(0x10000, 1024)], 0x0, 0x0, 0x0, 0x0, 0x0, 0x0, 0x0, false⟩,
  ⟨"HIF_CTX_LIMITS_VIEW", 0x10000060, [(0x10000, 1024), (0x4, 4)], 0x0, 0x0, 0x0, 0x0, 0x0, 0x0, 0x0, false⟩]

/-- The registers of block MEM. -/
def regsMEM : List RegEntry := [
  ⟨"MEM_CTRL", 0x400000, [], 0x3F03, 0x0, 0x0, 0x0, 0x0, 0x0, 0x401, false⟩,
  ⟨"MEM_STATUS", 0x400004, [], 0x0, 0x0, 0x0, 0x0, 0x0, 0x0, 0x0, false⟩,
  ⟨"MEM_INFLIGHT", 0x400008, [], 0x0, 0x0, 0x0, 0x0, 0x0, 0x0, 0x0, false⟩,
  ⟨"MEM_MAP_CFG", 0x40000C, [], 0x0, 0x0, 0x7F0F, 0x0, 0x0, 0x0, 0x0, false⟩,
  ⟨"MEM_GROUP", 0x400100, [(0x4, 64)], 0x0, 0x0, 0x1F3F, 0x0, 0x0, 0x0, 0x0, false⟩,
  ⟨"MEM_SR_CFG", 0x400010, [], 0xFFFFFF, 0x0, 0x0, 0x0, 0x0, 0x0, 0x1414, false⟩,
  ⟨"MEM_SR_STATUS", 0x400014, [], 0x0, 0x0, 0x0, 0x0, 0x0, 0x0, 0x0, false⟩,
  ⟨"MEM_REFRESH_CFG", 0x400018, [], 0xF, 0x0, 0x0, 0x0, 0x0, 0x0, 0x8, false⟩,
  ⟨"MEM_RETRAIN_CFG", 0x40001C, [], 0xFFFF, 0x0, 0x0, 0x0, 0x0, 0x0, 0x64, false⟩,
  ⟨"MEM_STACK_TEMP", 0x400020, [(0x4, 2)], 0x0, 0x0, 0x0, 0x0, 0x0, 0x0, 0x0, false⟩,
  ⟨"MEM_ECC_ADDR_LO", 0x400028, [], 0x0, 0x0, 0x0, 0x0, 0x0, 0x0, 0x0, true⟩,
  ⟨"MEM_ECC_ADDR_HI", 0x40002C, [], 0x0, 0x0, 0x0, 0x0, 0x0, 0x0, 0x0, false⟩,
  ⟨"MEM_CTL_RAW", 0x400200, [(0x20, 8)], 0x0, 0x0, 0x0, 0x0, 0x0, 0x0, 0x0, false⟩,
  ⟨"MEM_CTL_REFRESH", 0x400204, [(0x20, 8)], 0x0, 0x0, 0x0, 0x0, 0x0, 0x0, 0x0, false⟩,
  ⟨"MEM_CTL_PARITY", 0x400208, [(0x20, 8)], 0x0, 0x0, 0x0, 0x0, 0x0, 0x0, 0x0, false⟩,
  ⟨"MEM_CTL_ECC", 0x40020C, [(0x20, 8)], 0x0, 0x0, 0x0, 0x0, 0x0, 0x0, 0x0, false⟩,
  ⟨"MEM_ENG_STATUS", 0x400400, [(0x4, 48)], 0x0, 0x0, 0x0, 0x0, 0x0, 0x0, 0xFFFF, false⟩,
  ⟨"MEM_ENG_MISSES", 0x400500, [(0x4, 48)], 0x0, 0x0, 0x0, 0x0, 0x0, 0x0, 0x0, false⟩]

/-- The registers of block CMP. -/
def regsCMP : List RegEntry := [
  ⟨"CMP_STATUS", 0x800000, [], 0x0, 0x0, 0x0, 0x0, 0x0, 0x0, 0x0, false⟩,
  ⟨"CMP_FORMING", 0x800004, [], 0x0, 0x0, 0x0, 0x0, 0x0, 0x0, 0x0, false⟩,
  ⟨"CMP_COEF_SEL", 0x800008, [], 0x3F71, 0x0, 0x0, 0x0, 0x0, 0x0, 0x0, false⟩,
  ⟨"CMP_COEF_DATA", 0x80000C, [(0x4, 3)], 0x0, 0xFFF0FFF, 0x0, 0x0, 0x0, 0x0, 0x0, false⟩,
  ⟨"CMP_DROP_STATUS", 0x800018, [], 0x0, 0x0, 0x0, 0x0, 0x0, 0x0, 0x0, false⟩,
  ⟨"CMP_FBC_ERRORS", 0x80001C, [], 0x0, 0x0, 0x0, 0x0, 0x0, 0x0, 0x0, false⟩,
  ⟨"CMP_OUT_CTRL", 0x801000, [(0x80, 20)], 0x0, 0xF0377F7F, 0x0, 0x0, 0x0, 0x0, 0x0, false⟩,
  ⟨"CMP_OUT_CANVAS", 0x801004, [(0x80, 20)], 0x0, 0xFFFFFFFF, 0x0, 0x0, 0x0, 0x0, 0x0, false⟩,
  ⟨"CMP_OUT_INFO", 0x801008, [(0x80, 20)], 0x0, 0x0, 0x1FFF1FFF, 0x0, 0x0, 0x0, 0x0, false⟩,
  ⟨"CMP_OUT_CUT", 0x80100C, [(0x80, 20)], 0x0, 0x0, 0xF71FF, 0x0, 0x0, 0x0, 0x0, false⟩,
  ⟨"CMP_OUT_MASK_STRIDE", 0x801020, [(0x80, 20)], 0x0, 0xFFFF, 0x0, 0x0, 0x0, 0x0, 0x0, false⟩,
  ⟨"CMP_OUT_WB_STRIDE", 0x801034, [(0x80, 20)], 0x0, 0xFFFFFFFF, 0x0, 0x0, 0x0, 0x0, 0x0, false⟩,
  ⟨"CMP_OUT_STATUS", 0x801038, [(0x80, 20)], 0x0, 0x0, 0x0, 0x0, 0x0, 0x0, 0x0, false⟩,
  ⟨"CMP_OUT_WB_CFN", 0x80103C, [(0x80, 20)], 0x0, 0x0, 0x0, 0x0, 0x0, 0x0, 0x0, false⟩,
  ⟨"CMP_OUT_WB_STATUS", 0x801040, [(0x80, 20)], 0x0, 0x0, 0x0, 0x0, 0x0, 0x0, 0x0, false⟩,
  ⟨"CMP_OUT_UNDERRUNS", 0x801044, [(0x80, 20)], 0x0, 0x0, 0x0, 0x0, 0x0, 0x0, 0x0, false⟩,
  ⟨"CMP_OUT_WARP_ADDR_LO", 0x801010, [(0x80, 20)], 0x0, 0xFFFFFFC0, 0x0, 0x0, 0x0, 0x0, 0x0, true⟩,
  ⟨"CMP_OUT_WARP_ADDR_HI", 0x801014, [(0x80, 20)], 0x0, 0xFFF, 0x0, 0x0, 0x0, 0x0, 0x0, false⟩,
  ⟨"CMP_OUT_MASK_ADDR_LO", 0x801018, [(0x80, 20)], 0x0, 0xFFFFFFC0, 0x0, 0x0, 0x0, 0x0, 0x0, true⟩,
  ⟨"CMP_OUT_MASK_ADDR_HI", 0x80101C, [(0x80, 20)], 0x0, 0xFFF, 0x0, 0x0, 0x0, 0x0, 0x0, false⟩,
  ⟨"CMP_OUT_WB_ADDR_LO", 0x801024, [(0x80, 20), (0x8, 2)], 0x0, 0xFFFFFFC0, 0x0, 0x0, 0x0, 0x0, 0x0, true⟩,
  ⟨"CMP_OUT_WB_ADDR_HI", 0x801028, [(0x80, 20), (0x8, 2)], 0x0, 0xFFF, 0x0, 0x0, 0x0, 0x0, 0x0, false⟩,
  ⟨"CMP_OUT_ORDER", 0x801048, [(0x80, 20), (0x4, 8)], 0x0, 0xFFFFFFFF, 0x0, 0x0, 0x0, 0x0, 0x0, false⟩,
  ⟨"CMP_LYR_CTRL", 0x810000, [(0x100, 256)], 0x0, 0xFFFF771F, 0x0, 0x0, 0x0, 0x0, 0x0, false⟩,
  ⟨"CMP_LYR_FORMAT", 0x810004, [(0x100, 256)], 0x0, 0xF1F, 0x0, 0x0, 0x0, 0x0, 0x0, false⟩,
  ⟨"CMP_LYR_OUTPUTS", 0x810008, [(0x100, 256)], 0x0, 0xFFFFF, 0x0, 0x0, 0x0, 0x0, 0x0, false⟩,
  ⟨"CMP_LYR_ALPHA", 0x81000C, [(0x100, 256)], 0x0, 0x1FFFF, 0x0, 0x0, 0x0, 0x0, 0x10000, false⟩,
  ⟨"CMP_LYR_STRIDE", 0x810030, [(0x100, 256)], 0x0, 0xFFFFFFFF, 0x0, 0x0, 0x0, 0x0, 0x0, false⟩,
  ⟨"CMP_LYR_SURF", 0x810034, [(0x100, 256)], 0x0, 0x1FFF1FFF, 0x0, 0x0, 0x0, 0x0, 0x0, false⟩,
  ⟨"CMP_LYR_CROP_XY", 0x810038, [(0x100, 256)], 0x0, 0x1FFF1FFF, 0x0, 0x0, 0x0, 0x0, 0x0, false⟩,
  ⟨"CMP_LYR_CROP_WH", 0x81003C, [(0x100, 256)], 0x0, 0x1FFF1FFF, 0x0, 0x0, 0x0, 0x0, 0x0, false⟩,
  ⟨"CMP_LYR_DST_XY", 0x810040, [(0x100, 256)], 0x0, 0xFFFFFFFF, 0x0, 0x0, 0x0, 0x0, 0x0, false⟩,
  ⟨"CMP_LYR_DST_WH", 0x810044, [(0x100, 256)], 0x0, 0x7FFF7FFF, 0x0, 0x0, 0x0, 0x0, 0x0, false⟩,
  ⟨"CMP_LYR_LIVE", 0x810060, [(0x100, 256)], 0x1, 0x0, 0x0, 0x2, 0x0, 0x0, 0x0, false⟩,
  ⟨"CMP_LYR_STATUS", 0x810080, [(0x100, 256)], 0x0, 0x0, 0x0, 0x0, 0x0, 0x0, 0x0, false⟩,
  ⟨"CMP_LYR_OWNER", 0x810084, [(0x100, 256)], 0x0, 0x0, 0x0, 0x0, 0x0, 0x0, 0x0, false⟩,
  ⟨"CMP_LYR_FBC_ERR", 0x810088, [(0x100, 256)], 0x0, 0x0, 0x0, 0x0, 0x0, 0x0, 0x0, false⟩,
  ⟨"CMP_LYR_OFF_LINE", 0x81008C, [(0x100, 256)], 0x0, 0x0, 0x0, 0x0, 0x0, 0x0, 0x0, false⟩,
  ⟨"CMP_LYR_OFF_LFN", 0x810090, [(0x100, 256)], 0x0, 0x0, 0x0, 0x0, 0x0, 0x0, 0x0, false⟩,
  ⟨"CMP_LYR_ADDR_LO", 0x810010, [(0x100, 256), (0x8, 4)], 0x0, 0xFFFFFFC0, 0x0, 0x0, 0x0, 0x0, 0x0, true⟩,
  ⟨"CMP_LYR_ADDR_HI", 0x810014, [(0x100, 256), (0x8, 4)], 0x0, 0xFFF, 0x0, 0x0, 0x0, 0x0, 0x0, false⟩,
  ⟨"CMP_LYR_STEP_H", 0x810048, [(0x100, 256)], 0x0, 0xFFFFFF, 0x0, 0x0, 0x0, 0x0, 0x10000, false⟩,
  ⟨"CMP_LYR_STEP_V", 0x81004C, [(0x100, 256)], 0x0, 0xFFFFFF, 0x0, 0x0, 0x0, 0x0, 0x10000, false⟩,
  ⟨"CMP_LYR_INIT_H", 0x810050, [(0x100, 256)], 0x0, 0xFFFFFF, 0x0, 0x0, 0x0, 0x0, 0x0, false⟩,
  ⟨"CMP_LYR_INIT_V", 0x810054, [(0x100, 256)], 0x0, 0xFFFFFF, 0x0, 0x0, 0x0, 0x0, 0x0, false⟩]

/-- The registers of block COL. -/
def regsCOL : List RegEntry := [
  ⟨"COL_CTRL", 0xC00000, [], 0x0, 0x1, 0x0, 0x0, 0x0, 0x0, 0x0, false⟩,
  ⟨"COL_PQ_REF", 0xC00004, [], 0x0, 0x3FFF, 0x0, 0x0, 0x0, 0x0, 0x64, false⟩,
  ⟨"COL_LOOP_CFG", 0xC00008, [], 0x3F01, 0x0, 0x0, 0x0, 0x0, 0x0, 0x800, false⟩,
  ⟨"COL_DRIFT_CFG", 0xC0000C, [], 0xFF, 0x0, 0x0, 0x0, 0x0, 0x0, 0xA, false⟩,
  ⟨"COL_STATUS", 0xC00010, [], 0x0, 0x0, 0x0, 0x0, 0x0, 0x0, 0x0, false⟩,
  ⟨"COL_WORK", 0xC00020, [(0x4, 4)], 0x0, 0x0, 0xFFFFFFFF, 0x0, 0x0, 0x0, 0x0, false⟩,
  ⟨"COL_CAM_RESP", 0xC00100, [(0x80, 4), (0x4, 18)], 0x0, 0xFFFFFF, 0x0, 0x0, 0x0, 0x0, 0x0, false⟩,
  ⟨"COL_CAM_CTRL", 0xC00148, [(0x80, 4)], 0x0, 0x1, 0x0, 0x0, 0x0, 0x0, 0x0, false⟩,
  ⟨"COL_PRIM_XY", 0xC00400, [(0x10, 6)], 0x0, 0x0, 0x0, 0x0, 0x0, 0x0, 0x0, false⟩,
  ⟨"COL_PRIM_TARGET", 0xC00404, [(0x10, 6)], 0xFFFF, 0x0, 0x0, 0x0, 0x0, 0x0, 0x0, false⟩,
  ⟨"COL_PRIM_LOOP", 0xC00408, [(0x10, 6)], 0x0, 0x0, 0x0, 0x0, 0x0, 0x0, 0x0, false⟩,
  ⟨"COL_PRIM_LIGHT", 0xC0040C, [(0x10, 6)], 0x0, 0x0, 0x0, 0x0, 0x0, 0x0, 0x10000, false⟩,
  ⟨"COL_LUT_CTRL", 0xC00800, [(0x10, 16)], 0x0, 0x7F31, 0x0, 0x0, 0x0, 0x0, 0x0, false⟩,
  ⟨"COL_LUT_ADDR_LO", 0xC00804, [(0x10, 16)], 0x0, 0xFFFFFFC0, 0x0, 0x0, 0x0, 0x0, 0x0, true⟩,
  ⟨"COL_LUT_ADDR_HI", 0xC00808, [(0x10, 16)], 0x0, 0xFFF, 0x0, 0x0, 0x0, 0x0, 0x0, false⟩,
  ⟨"COL_LUT_STATUS", 0xC0080C, [(0x10, 16)], 0x0, 0x0, 0x0, 0x0, 0x0, 0x0, 0x0, false⟩,
  ⟨"COL_DEC_CTRL", 0xC00900, [(0x10, 8)], 0x0, 0x7F31, 0x0, 0x0, 0x0, 0x0, 0x0, false⟩,
  ⟨"COL_DEC_ADDR_LO", 0xC00904, [(0x10, 8)], 0x0, 0xFFFFFFC0, 0x0, 0x0, 0x0, 0x0, 0x0, true⟩,
  ⟨"COL_DEC_ADDR_HI", 0xC00908, [(0x10, 8)], 0x0, 0xFFF, 0x0, 0x0, 0x0, 0x0, 0x0, false⟩,
  ⟨"COL_DEC_STATUS", 0xC0090C, [(0x10, 8)], 0x0, 0x0, 0x0, 0x0, 0x0, 0x0, 0x0, false⟩,
  ⟨"COL_OUT_CTRL", 0xC01000, [(0x80, 20)], 0x0, 0xF311F, 0x0, 0x0, 0x0, 0x0, 0x10, false⟩,
  ⟨"COL_OUT_GAIN", 0xC01004, [(0x80, 20)], 0x0, 0xFFFFFF, 0x0, 0x0, 0x0, 0x0, 0x100000, false⟩,
  ⟨"COL_OUT_UNI_ADDR_LO", 0xC01008, [(0x80, 20)], 0x0, 0xFFFFFFC0, 0x0, 0x0, 0x0, 0x0, 0x0, true⟩,
  ⟨"COL_OUT_UNI_ADDR_HI", 0xC0100C, [(0x80, 20)], 0x0, 0xFFF, 0x0, 0x0, 0x0, 0x0, 0x0, false⟩,
  ⟨"COL_OUT_VIEW", 0xC01010, [(0x80, 20), (0x4, 5)], 0x0, 0x700F1, 0x0, 0x0, 0x0, 0x0, 0x0, false⟩,
  ⟨"COL_OUT_PRIMS", 0xC01024, [(0x80, 20)], 0x0, 0x0, 0x3F, 0x0, 0x0, 0x0, 0x0, false⟩,
  ⟨"COL_OUT_STATUS", 0xC01028, [(0x80, 20)], 0x0, 0x0, 0x0, 0x0, 0x0, 0x0, 0x0, false⟩,
  ⟨"COL_LYR_CTRL", 0xC10000, [(0x100, 256)], 0x0, 0x37, 0x0, 0x0, 0x0, 0x0, 0x0, false⟩,
  ⟨"COL_LYR_M", 0xC10004, [(0x100, 256), (0x4, 9)], 0x0, 0xFFFFFF, 0x0, 0x0, 0x0, 0x0, 0x0, false⟩,
  ⟨"COL_LYR_OFF", 0xC10028, [(0x100, 256), (0x4, 3)], 0x0, 0x1FFFFFFF, 0x0, 0x0, 0x0, 0x0, 0x0, false⟩]

/-- The registers of block PLN. -/
def regsPLN : List RegEntry := [
  ⟨"PLN_CTRL", 0x1000000, [], 0x3, 0x0, 0x0, 0x0, 0x0, 0x0, 0x3, false⟩,
  ⟨"PLN_STATUS", 0x1000004, [], 0x0, 0x0, 0x0, 0x0, 0x0, 0x0, 0x0, false⟩,
  ⟨"PLN_ECC", 0x1000008, [], 0x0, 0x0, 0x0, 0x0, 0x0, 0x0, 0x0, false⟩,
  ⟨"PLN_ECC_ADDR", 0x100000C, [], 0x0, 0x0, 0x0, 0x0, 0x0, 0x0, 0x0, false⟩,
  ⟨"PLN_MASK_CTRL", 0x1000010, [], 0x0, 0xF31, 0x0, 0x0, 0x0, 0x0, 0x0, false⟩,
  ⟨"PLN_MASK_ADDR_LO", 0x1000014, [], 0x0, 0xFFFFFFC0, 0x0, 0x0, 0x0, 0x0, 0x0, true⟩,
  ⟨"PLN_MASK_ADDR_HI", 0x1000018, [], 0x0, 0xFFF, 0x0, 0x0, 0x0, 0x0, 0x0, false⟩,
  ⟨"PLN_MASK_STATUS", 0x100001C, [], 0x0, 0x0, 0x0, 0x0, 0x0, 0x0, 0x0, false⟩,
  ⟨"PLN_BOOK_CTRL", 0x1000800, [(0x20, 16)], 0x0, 0xF3, 0x0, 0x0, 0x0, 0x0, 0x0, false⟩,
  ⟨"PLN_BOOK_ADDR_LO", 0x1000804, [(0x20, 16)], 0x0, 0xFFFFFFC0, 0x0, 0x0, 0x0, 0x0, 0x0, true⟩,
  ⟨"PLN_BOOK_ADDR_HI", 0x1000808, [(0x20, 16)], 0x0, 0xFFF, 0x0, 0x0, 0x0, 0x0, 0x0, false⟩,
  ⟨"PLN_BOOK_STATUS", 0x100080C, [(0x20, 16)], 0x0, 0x0, 0x0, 0x0, 0x0, 0x0, 0x0, false⟩,
  ⟨"PLN_OUT_CFG", 0x1000100, [(0x20, 16)], 0x0, 0x0, 0xFF03, 0x0, 0x0, 0x0, 0x0, false⟩,
  ⟨"PLN_OUT_SEGS", 0x1000104, [(0x20, 16)], 0x0, 0x0, 0x3FF03FF, 0x0, 0x0, 0x0, 0x0, false⟩,
  ⟨"PLN_OUT_SIZE", 0x1000108, [(0x20, 16)], 0x0, 0x0, 0x1FFF1FFF, 0x0, 0x0, 0x0, 0x0, false⟩,
  ⟨"PLN_OUT_REFILL", 0x100010C, [(0x20, 16)], 0x0, 0xFFFF, 0x0, 0x0, 0x0, 0x0, 0x0, false⟩,
  ⟨"PLN_OUT_STATUS", 0x1000110, [(0x20, 16)], 0x0, 0x0, 0x0, 0x0, 0x0, 0x0, 0x0, false⟩,
  ⟨"PLN_OUT_TIMING", 0x1000114, [(0x20, 16)], 0x0, 0x0, 0x0, 0x0, 0x0, 0x0, 0x0, false⟩,
  ⟨"PLN_OUT_USED", 0x1000118, [(0x20, 16)], 0x0, 0x0, 0x0, 0x0, 0x0, 0x0, 0x0, false⟩,
  ⟨"PLN_SET_CTRL", 0x1001000, [(0x100, 32)], 0x0, 0xFFFFFFFF, 0x0, 0x0, 0x0, 0x0, 0x0, false⟩,
  ⟨"PLN_SET_DROP", 0x1001004, [(0x100, 32)], 0x0, 0x7, 0x0, 0x0, 0x0, 0x0, 0x0, false⟩,
  ⟨"PLN_SET_W", 0x1001010, [(0x100, 32), (0x4, 32)], 0x0, 0xFFFFFFF, 0x0, 0x0, 0x0, 0x0, 0x0, false⟩]

/-- The registers of block SEQ. -/
def regsSEQ : List RegEntry := [
  ⟨"SEQ_CTRL", 0x1400000, [], 0x1, 0x0, 0x0, 0x0, 0x0, 0x0, 0x1, false⟩,
  ⟨"SEQ_SCHED_STATUS", 0x1400004, [], 0x0, 0x0, 0x0, 0x0, 0x0, 0x0, 0x0, false⟩,
  ⟨"SEQ_THROTTLE", 0x1400008, [], 0x0, 0x0, 0x0, 0x0, 0x0, 0x0, 0x0, false⟩,
  ⟨"SEQ_THROTTLE_CFG", 0x140000C, [], 0x0, 0x1F, 0x0, 0x0, 0x0, 0x0, 0xC, false⟩,
  ⟨"SEQ_HBM_WIN", 0x1400010, [], 0x0, 0xFFFFFF, 0x0, 0x0, 0x0, 0x0, 0x800000, false⟩,
  ⟨"SEQ_TILES", 0x1400014, [], 0x0, 0x0, 0x0, 0x0, 0x0, 0x0, 0x0, false⟩,
  ⟨"SEQ_LATE", 0x1400018, [], 0x0, 0x0, 0x0, 0x0, 0x0, 0x0, 0x0, false⟩,
  ⟨"SEQ_SLOT_SEL", 0x1400020, [], 0x37FFFF, 0x0, 0x0, 0x0, 0x0, 0x0, 0x0, false⟩,
  ⟨"SEQ_SLOT_DATA_0", 0x1400024, [], 0x0, 0x0, 0x0, 0x0, 0x0, 0x0, 0x0, false⟩,
  ⟨"SEQ_SLOT_DATA_1", 0x1400028, [], 0x0, 0x0, 0x0, 0x0, 0x0, 0x0, 0x0, false⟩,
  ⟨"SEQ_SLOT_DATA_2", 0x140002C, [], 0x0, 0x0, 0x0, 0x0, 0x0, 0x0, 0x0, false⟩,
  ⟨"SEQ_SLOT_DATA_3", 0x1400030, [], 0x0, 0x0, 0x0, 0x0, 0x0, 0x0, 0x0, false⟩,
  ⟨"SEQ_OUT_CTRL", 0x1400100, [(0x20, 20)], 0x0, 0xFF0F73, 0x0, 0x0, 0x0, 0x0, 0x0, false⟩,
  ⟨"SEQ_OUT_SCHED", 0x1400104, [(0x20, 20)], 0x0, 0x0, 0x0, 0x0, 0x0, 0x0, 0x0, false⟩,
  ⟨"SEQ_OUT_EFF", 0x1400108, [(0x20, 20)], 0x0, 0x0, 0x0, 0x0, 0x0, 0x0, 0x0, false⟩,
  ⟨"SEQ_OUT_SPAN", 0x140010C, [(0x20, 20)], 0x0, 0x0, 0x0, 0x0, 0x0, 0x0, 0x0, false⟩,
  ⟨"SEQ_OUT_LIGHT", 0x1400110, [(0x20, 20)], 0x0, 0x0, 0x0, 0x0, 0x0, 0x0, 0x0, false⟩,
  ⟨"SEQ_OUT_ERR", 0x1400114, [(0x20, 20)], 0x0, 0x0, 0x0, 0x0, 0x0, 0x0, 0x0, false⟩,
  ⟨"SEQ_OUT_MECH", 0x1400118, [(0x20, 20)], 0x0, 0x0, 0xFFFF, 0x0, 0x0, 0x0, 0x0, false⟩,
  ⟨"SEQ_OUT_COUNTS", 0x140011C, [(0x20, 20)], 0x0, 0x0, 0x0, 0x0, 0x0, 0x0, 0x0, false⟩]

/-- The registers of block APT. -/
def regsAPT : List RegEntry := [
  ⟨"APT_STATUS", 0x1800000, [], 0x0, 0x0, 0x0, 0x0, 0x0, 0x0, 0x0, false⟩,
  ⟨"APT_PORT_CFG", 0x1800100, [(0x40, 16)], 0x0, 0x0, 0x80F3FF3F, 0x0, 0x0, 0x0, 0x0, false⟩,
  ⟨"APT_PORT_CTRL", 0x1800104, [(0x40, 16)], 0xFF04, 0x0, 0x0, 0x3, 0x0, 0x0, 0x4, false⟩,
  ⟨"APT_PORT_STATE", 0x1800108, [(0x40, 16)], 0x0, 0x0, 0x0, 0x0, 0x0, 0x0, 0x0, false⟩,
  ⟨"APT_PORT_TEMP", 0x180010C, [(0x40, 16)], 0x0, 0x0, 0x0, 0x0, 0x0, 0x0, 0x0, false⟩,
  ⟨"APT_PORT_DELAY", 0x1800110, [(0x40, 16)], 0x0, 0x0, 0x0, 0x0, 0x0, 0x0, 0x0, false⟩,
  ⟨"APT_PORT_HOLDS", 0x1800114, [(0x40, 16)], 0x0, 0x0, 0x0, 0x0, 0x0, 0x0, 0x0, false⟩,
  ⟨"APT_PORT_DARKS", 0x1800118, [(0x40, 16)], 0x0, 0x0, 0x0, 0x0, 0x0, 0x0, 0x0, false⟩,
  ⟨"APT_PORT_ARRAY_ERR", 0x180011C, [(0x40, 16)], 0x0, 0x0, 0x0, 0x0, 0x0, 0x0, 0x0, false⟩,
  ⟨"APT_PORT_EPOCH", 0x1800120, [(0x40, 16)], 0x0, 0x0, 0x0, 0x0, 0x0, 0x0, 0x0, false⟩,
  ⟨"APT_PORT_HEALTH", 0x1800124, [(0x40, 16)], 0x0, 0x0, 0x0, 0x0, 0x0, 0x0, 0x0, false⟩,
  ⟨"APT_PORT_IDENT_LO", 0x1800128, [(0x40, 16)], 0x0, 0x0, 0x0, 0x0, 0x0, 0x0, 0x0, true⟩,
  ⟨"APT_PORT_IDENT_HI", 0x180012C, [(0x40, 16)], 0x0, 0x0, 0x0, 0x0, 0x0, 0x0, 0x0, false⟩,
  ⟨"APT_PORT_RETRAINS", 0x1800130, [(0x40, 16)], 0x0, 0x0, 0x0, 0x0, 0x0, 0x0, 0x0, false⟩]

/-- The registers of block SCN. -/
def regsSCN : List RegEntry := [
  ⟨"SCN_STATUS", 0x1A00000, [], 0x0, 0x0, 0x0, 0x0, 0x0, 0x0, 0x0, false⟩,
  ⟨"SCN_ENG_CTRL", 0x1A00100, [(0x80, 4)], 0xC, 0x0, 0x0, 0x3, 0x0, 0x0, 0xC, false⟩,
  ⟨"SCN_ENG_RANGE", 0x1A00104, [(0x80, 4)], 0x0, 0x0, 0xFFFFFFFF, 0x0, 0x0, 0x0, 0x0, false⟩,
  ⟨"SCN_ENG_AMP", 0x1A00108, [(0x80, 4)], 0x0, 0x1FFF, 0x0, 0x0, 0x0, 0x0, 0x1000, false⟩,
  ⟨"SCN_ENG_GEOM", 0x1A0010C, [(0x80, 4)], 0x0, 0xFFFFFFF, 0x0, 0x0, 0x0, 0x0, 0x200E666, false⟩,
  ⟨"SCN_ENG_SLOW_A", 0x1A00110, [(0x80, 4)], 0x0, 0x3FFFF, 0x0, 0x0, 0x0, 0x0, 0x0, false⟩,
  ⟨"SCN_ENG_SLOW_B", 0x1A00114, [(0x80, 4)], 0x0, 0x3FFFF, 0x0, 0x0, 0x0, 0x0, 0x0, false⟩,
  ⟨"SCN_ENG_SWEEP", 0x1A00118, [(0x80, 4)], 0x0, 0xFFFFFF, 0x0, 0x0, 0x0, 0x0, 0x10000, false⟩,
  ⟨"SCN_ENG_LOCK", 0x1A0011C, [(0x80, 4)], 0x7F0FFF, 0x0, 0x0, 0x0, 0x0, 0x0, 0x4B0040, false⟩,
  ⟨"SCN_ENG_LOOP", 0x1A00120, [(0x80, 4)], 0xFFF0000, 0xFFFF, 0x0, 0x0, 0x0, 0x0, 0x44001F4, false⟩,
  ⟨"SCN_ENG_STATE", 0x1A00134, [(0x80, 4)], 0x0, 0x0, 0x0, 0x0, 0x0, 0x0, 0x0, false⟩,
  ⟨"SCN_ENG_EST_FREQ", 0x1A00138, [(0x80, 4)], 0x0, 0x0, 0x0, 0x0, 0x0, 0x0, 0x0, false⟩,
  ⟨"SCN_ENG_EST_AMP", 0x1A0013C, [(0x80, 4)], 0x0, 0x0, 0x0, 0x0, 0x0, 0x0, 0x0, false⟩,
  ⟨"SCN_ENG_EST_ERR", 0x1A00140, [(0x80, 4)], 0x0, 0x0, 0x0, 0x0, 0x0, 0x0, 0x0, false⟩,
  ⟨"SCN_ENG_CANES", 0x1A00144, [(0x80, 4)], 0x0, 0x0, 0x0, 0x0, 0x0, 0x0, 0x0, false⟩,
  ⟨"SCN_ENG_LINE_MISSES", 0x1A00148, [(0x80, 4)], 0x0, 0x0, 0x0, 0x0, 0x0, 0x0, 0x0, false⟩,
  ⟨"SCN_ENG_CLIPPED", 0x1A0014C, [(0x80, 4)], 0x0, 0x0, 0x0, 0x0, 0x0, 0x0, 0x0, false⟩,
  ⟨"SCN_ENG_STALLS", 0x1A00150, [(0x80, 4)], 0x0, 0x0, 0x0, 0x0, 0x0, 0x0, 0x0, false⟩,
  ⟨"SCN_ENG_STALL_LFN", 0x1A00154, [(0x80, 4)], 0x0, 0x0, 0x0, 0x0, 0x0, 0x0, 0x0, false⟩,
  ⟨"SCN_ENG_SWEEP_STATUS", 0x1A00158, [(0x80, 4)], 0x0, 0x0, 0x0, 0x0, 0x0, 0x0, 0x0, false⟩,
  ⟨"SCN_ENG_DAC_GAIN", 0x1A00124, [(0x80, 4), (0x4, 4)], 0x1FFFF, 0x0, 0x0, 0x0, 0x0, 0x0, 0x10000, false⟩]

/-- The registers of block LMP. -/
def regsLMP : List RegEntry := [
  ⟨"LMP_CTRL", 0x1C00000, [], 0x100, 0xF, 0x0, 0x0, 0x0, 0x0, 0x102, false⟩,
  ⟨"LMP_SAFETY", 0x1C00004, [], 0x200, 0x0, 0x0, 0x100, 0x0, 0x0, 0xB, false⟩,
  ⟨"LMP_HB", 0x1C00008, [], 0xF00, 0x0, 0x0, 0x0, 0x0, 0x0, 0x0, false⟩,
  ⟨"LMP_STATUS", 0x1C0000C, [], 0x0, 0x0, 0x0, 0x0, 0x0, 0x0, 0x0, false⟩,
  ⟨"LMP_PS_CFG", 0x1C00010, [], 0xF, 0x0, 0x0, 0x0, 0x0, 0x0, 0x4, false⟩,
  ⟨"LMP_CHAIN_CFG", 0x1C00100, [(0x20, 4)], 0x0, 0x0, 0xFFFFFDFF, 0x0, 0x0, 0x0, 0x0, false⟩,
  ⟨"LMP_CHAIN_CFG2", 0x1C00104, [(0x20, 4)], 0x0, 0x0, 0xFFFF, 0x0, 0x0, 0x0, 0x0, false⟩,
  ⟨"LMP_CHAIN_STATUS", 0x1C00108, [(0x20, 4)], 0x0, 0x0, 0x0, 0x0, 0x0, 0x0, 0x0, false⟩,
  ⟨"LMP_CHAIN_FAILS", 0x1C0010C, [(0x20, 4)], 0x0, 0x0, 0x0, 0x0, 0x0, 0x0, 0x0, false⟩,
  ⟨"LMP_CHAIN_LAST_LATCH", 0x1C00110, [(0x20, 4)], 0x0, 0x0, 0x0, 0x0, 0x0, 0x0, 0x0, false⟩,
  ⟨"LMP_PS_CH_CFG", 0x1C00200, [(0x10, 16)], 0x0, 0x0, 0x3FF, 0x0, 0x0, 0x0, 0xFF, false⟩,
  ⟨"LMP_PS_CH_GAIN", 0x1C00204, [(0x10, 16)], 0xFFFFF, 0x0, 0x0, 0x0, 0x0, 0x0, 0x8000, false⟩,
  ⟨"LMP_PS_CH_OFFSET", 0x1C00208, [(0x10, 16)], 0x1FFFF, 0x0, 0x0, 0x0, 0x0, 0x0, 0x0, false⟩,
  ⟨"LMP_PS_CH_LAST", 0x1C0020C, [(0x10, 16)], 0x0, 0x0, 0x0, 0x0, 0x0, 0x0, 0x0, false⟩,
  ⟨"LMP_RAIL_LIMIT", 0x1C00300, [(0x10, 8)], 0xFFFF, 0x0, 0x0, 0x0, 0x0, 0x0, 0xFFFF, false⟩,
  ⟨"LMP_RAIL_CEILING", 0x1C00304, [(0x10, 8)], 0x0, 0x0, 0xFFFF, 0x0, 0x0, 0x0, 0x0, false⟩,
  ⟨"LMP_RAIL_STATUS", 0x1C00308, [(0x10, 8)], 0x0, 0x0, 0x0, 0x0, 0x0, 0x0, 0x0, false⟩,
  ⟨"LMP_GROUP_CFG", 0x1C00400, [(0x10, 64)], 0x0, 0x0, 0x107, 0x0, 0x0, 0x0, 0x0, false⟩,
  ⟨"LMP_GROUP_GRANT", 0x1C00404, [(0x10, 64)], 0x0, 0x0, 0x0, 0x0, 0x0, 0x0, 0x10000, false⟩,
  ⟨"LMP_GROUP_LIGHT", 0x1C00408, [(0x10, 64)], 0x0, 0x0, 0x0, 0x0, 0x0, 0x0, 0x10000, false⟩,
  ⟨"LMP_PKG_LIMIT", 0x1C00800, [], 0xFFFFFFFF, 0x0, 0x0, 0x0, 0x0, 0x0, 0x5140514, false⟩,
  ⟨"LMP_PKG_STATUS", 0x1C00804, [], 0x0, 0x0, 0x0, 0x0, 0x0, 0x0, 0x0, false⟩,
  ⟨"LMP_PKG_CLASS", 0x1C00810, [(0x4, 8)], 0x0, 0x0, 0x0, 0x0, 0x0, 0x0, 0x0, false⟩,
  ⟨"LMP_POS_SEL", 0x1C00900, [], 0x3FF, 0x0, 0x0, 0x0, 0x0, 0x0, 0x0, false⟩,
  ⟨"LMP_POS_CTRL", 0x1C00904, [], 0x0, 0x0, 0x0, 0x1, 0x0, 0x0, 0x0, false⟩,
  ⟨"LMP_POS_STATE", 0x1C00908, [], 0x0, 0x0, 0x0, 0x0, 0x0, 0x0, 0x0, false⟩,
  ⟨"LMP_POS_CURRENT", 0x1C0090C, [], 0x0, 0x0, 0x0, 0x0, 0x0, 0x0, 0x0, false⟩,
  ⟨"LMP_POS_FACTOR", 0x1C00910, [], 0x0, 0x0, 0x0, 0x0, 0x0, 0x0, 0x0, false⟩,
  ⟨"LMP_LAMP_SEL", 0x1C00A00, [], 0x3FF, 0x0, 0x0, 0x0, 0x0, 0x0, 0x0, false⟩,
  ⟨"LMP_LAMP_DATA", 0x1C00A04, [(0x4, 8)], 0x0, 0xFFFFFFFF, 0x0, 0x0, 0x0, 0x0, 0x0, false⟩]

/-- The registers of block LAN. -/
def regsLAN : List RegEntry := [
  ⟨"LAN_CTRL", 0x1E00000, [], 0xFFFF01, 0x0, 0x0, 0x0, 0x0, 0x0, 0x81001, false⟩,
  ⟨"LAN_STATUS", 0x1E00004, [], 0x0, 0x0, 0x0, 0x0, 0x0, 0x0, 0x0, false⟩,
  ⟨"LAN_EYE_CFG", 0x1E00008, [], 0x3FF03FF, 0x0, 0x0, 0x0, 0x0, 0x0, 0x1400FA, false⟩,
  ⟨"LAN_PRESET", 0x1E00100, [(0x10, 6), (0x4, 3)], 0xF1F1F, 0x0, 0x0, 0x0, 0x0, 0x0, 0x0, false⟩,
  ⟨"LAN_LANE_CFG", 0x1E01000, [(0x40, 144)], 0x0, 0x0, 0xF73FF, 0x0, 0x0, 0x0, 0x0, false⟩,
  ⟨"LAN_LANE_CTRL", 0x1E01004, [(0x40, 144)], 0x3, 0x0, 0x0, 0x0, 0x0, 0x0, 0x0, false⟩,
  ⟨"LAN_LANE_STATE", 0x1E01008, [(0x40, 144)], 0x0, 0x0, 0x0, 0x0, 0x0, 0x0, 0xFF0000, false⟩,
  ⟨"LAN_LANE_EQ", 0x1E0100C, [(0x40, 144)], 0x0, 0x0, 0x0, 0x0, 0x0, 0x0, 0x0, false⟩,
  ⟨"LAN_LANE_EYE", 0x1E01010, [(0x40, 144)], 0x0, 0x0, 0x0, 0x0, 0x0, 0x0, 0x0, false⟩,
  ⟨"LAN_LANE_FRAMES", 0x1E01014, [(0x40, 144)], 0x0, 0x0, 0x0, 0x0, 0x0, 0x0, 0x0, false⟩,
  ⟨"LAN_LANE_CRC_ERR", 0x1E01018, [(0x40, 144)], 0x0, 0x0, 0x0, 0x0, 0x0, 0x0, 0x0, false⟩,
  ⟨"LAN_LANE_SYNC", 0x1E0101C, [(0x40, 144)], 0x0, 0x0, 0x0, 0x0, 0x0, 0x0, 0x0, false⟩,
  ⟨"LAN_LANE_FAR", 0x1E01020, [(0x40, 144)], 0x0, 0x0, 0x0, 0x0, 0x0, 0x0, 0x0, false⟩,
  ⟨"LAN_LANE_PRBS_CTRL", 0x1E01024, [(0x40, 144)], 0x77, 0x0, 0x0, 0x0, 0x0, 0x0, 0x0, false⟩,
  ⟨"LAN_LANE_LIFE", 0x1E01038, [(0x40, 144)], 0x0, 0x0, 0x0, 0x0, 0x0, 0x0, 0x0, false⟩,
  ⟨"LAN_LANE_WHITENED", 0x1E0103C, [(0x40, 144)], 0x0, 0x0, 0x0, 0x0, 0x0, 0x0, 0x0, false⟩,
  ⟨"LAN_LANE_PRBS_ERR_LO", 0x1E01028, [(0x40, 144)], 0x0, 0x0, 0x0, 0x0, 0x0, 0x0, 0x0, true⟩,
  ⟨"LAN_LANE_PRBS_ERR_HI", 0x1E0102C, [(0x40, 144)], 0x0, 0x0, 0x0, 0x0, 0x0, 0x0, 0x0, false⟩,
  ⟨"LAN_LANE_PRBS_BITS_LO", 0x1E01030, [(0x40, 144)], 0x0, 0x0, 0x0, 0x0, 0x0, 0x0, 0x0, true⟩,
  ⟨"LAN_LANE_PRBS_BITS_HI", 0x1E01034, [(0x40, 144)], 0x0, 0x0, 0x0, 0x0, 0x0, 0x0, 0x0, false⟩]

/-- The registers of block LXS. -/
def regsLXS : List RegEntry := [
  ⟨"LXS_CTRL", 0x2000000, [], 0x30FF01, 0x0, 0x0, 0x2, 0x0, 0x0, 0x0, false⟩,
  ⟨"LXS_STATUS", 0x2000004, [], 0x0, 0x0, 0x0, 0x0, 0x0, 0x0, 0x70000, false⟩,
  ⟨"LXS_STATION", 0x2000008, [], 0x0, 0x0, 0x0, 0x0, 0x0, 0x0, 0x0, false⟩,
  ⟨"LXS_EPOCH", 0x200000C, [], 0x0, 0x0, 0x0, 0x0, 0x0, 0x0, 0x0, false⟩,
  ⟨"LXS_ROOT_LO", 0x2000010, [], 0x0, 0x0, 0x0, 0x0, 0x0, 0x0, 0x0, true⟩,
  ⟨"LXS_ROOT_HI", 0x2000014, [], 0x0, 0x0, 0x0, 0x0, 0x0, 0x0, 0x0, false⟩,
  ⟨"LXS_SYSID_LO", 0x2000018, [], 0x0, 0x0, 0x0, 0x0, 0x0, 0x0, 0x0, true⟩,
  ⟨"LXS_SYSID_HI", 0x200001C, [], 0x0, 0x0, 0x0, 0x0, 0x0, 0x0, 0x0, false⟩,
  ⟨"LXS_TIME_ERR", 0x2000020, [], 0x0, 0x0, 0x0, 0x0, 0x0, 0x0, 0x0, false⟩,
  ⟨"LXS_COUNT", 0x2000024, [], 0x0, 0x0, 0x0, 0x0, 0x0, 0x0, 0x0, false⟩,
  ⟨"LXS_COMMIT", 0x2000028, [], 0x0, 0x0, 0x0, 0x0, 0x0, 0x0, 0x0, false⟩,
  ⟨"LXS_STARTUP", 0x200002C, [], 0x0, 0x0, 0x0, 0x0, 0x0, 0x0, 0x0, false⟩,
  ⟨"LXS_PROMOTE", 0x2000030, [], 0xFFF, 0x0, 0x0, 0x80000000, 0x0, 0x0, 0x0, false⟩,
  ⟨"LXS_PROMOTE_ID_LO", 0x2000034, [], 0xFFFFFFFF, 0x0, 0x0, 0x0, 0x0, 0x0, 0x0, true⟩,
  ⟨"LXS_PROMOTE_ID_HI", 0x2000038, [], 0xFFFF, 0x0, 0x0, 0x0, 0x0, 0x0, 0x0, false⟩,
  ⟨"LXS_PROMOTE_STATUS", 0x200003C, [], 0x0, 0x0, 0x0, 0x0, 0x0, 0x0, 0x0, false⟩,
  ⟨"LXS_EXPORT_PAGE", 0x2000040, [], 0xFFFFF, 0x0, 0x0, 0x0, 0x0, 0x0, 0x0, false⟩,
  ⟨"LXS_EXPORT_SRC", 0x2000044, [], 0x3FF, 0x0, 0x0, 0x0, 0x0, 0x0, 0x0, false⟩,
  ⟨"LXS_EXPORT_HANDLE", 0x2000048, [], 0xFFFFFFFF, 0x0, 0x0, 0x0, 0x0, 0x0, 0x0, false⟩,
  ⟨"LXS_EXPORT_OFFSET", 0x200004C, [], 0xFFFF, 0x0, 0x0, 0x0, 0x0, 0x0, 0x0, false⟩,
  ⟨"LXS_EXPORT_PAGES", 0x2000050, [], 0x1FFFF, 0x0, 0x0, 0x0, 0x0, 0x0, 0x0, false⟩,
  ⟨"LXS_EXPORT_READER", 0x2000054, [], 0x83FF0FFF, 0x0, 0x0, 0x0, 0x0, 0x0, 0x0, false⟩,
  ⟨"LXS_EXPORT_OP", 0x2000058, [], 0x0, 0x0, 0x0, 0x0, 0x0, 0x3FF0003, 0x0, false⟩,
  ⟨"LXS_EXPORT_STATUS", 0x200005C, [], 0x0, 0x0, 0x0, 0x0, 0x0, 0x0, 0x0, false⟩,
  ⟨"LXS_PORT_CFG", 0x2000100, [(0x40, 4)], 0x0, 0x0, 0xF, 0x0, 0x0, 0x0, 0x0, false⟩,
  ⟨"LXS_PORT_STATE", 0x2000104, [(0x40, 4)], 0x0, 0x0, 0x0, 0x0, 0x0, 0x0, 0x0, false⟩,
  ⟨"LXS_PORT_NEIGH_LO", 0x2000108, [(0x40, 4)], 0x0, 0x0, 0x0, 0x0, 0x0, 0x0, 0x0, true⟩,
  ⟨"LXS_PORT_NEIGH_HI", 0x200010C, [(0x40, 4)], 0x0, 0x0, 0x0, 0x0, 0x0, 0x0, 0x0, false⟩,
  ⟨"LXS_PORT_DELAY", 0x2000110, [(0x40, 4)], 0x0, 0x0, 0x0, 0x0, 0x0, 0x0, 0x0, false⟩,
  ⟨"LXS_PORT_TX", 0x2000114, [(0x40, 4)], 0x0, 0x0, 0x0, 0x0, 0x0, 0x0, 0x0, false⟩,
  ⟨"LXS_PORT_RX", 0x2000118, [(0x40, 4)], 0x0, 0x0, 0x0, 0x0, 0x0, 0x0, 0x0, false⟩,
  ⟨"LXS_PORT_REPLAYS", 0x200011C, [(0x40, 4)], 0x0, 0x0, 0x0, 0x0, 0x0, 0x0, 0x0, false⟩,
  ⟨"LXS_PORT_READ", 0x2000120, [(0x40, 4)], 0x0, 0x0, 0x0, 0x0, 0x0, 0x0, 0x0, false⟩]

/-- The registers of block MTR. -/
def regsMTR : List RegEntry := [
  ⟨"MTR_MB_CTRL", 0x2200000, [], 0xFF00, 0x0, 0x0, 0x1, 0x0, 0x0, 0x0, false⟩,
  ⟨"MTR_MB_ARG", 0x2200004, [(0x4, 6)], 0xFFFFFFFF, 0x0, 0x0, 0x0, 0x0, 0x0, 0x0, false⟩,
  ⟨"MTR_MB_STATUS", 0x2200020, [], 0x0, 0x0, 0x0, 0x0, 0x0, 0x0, 0x0, false⟩,
  ⟨"MTR_MB_DATA", 0x2201000, [(0x4, 512)], 0x0, 0x0, 0x0, 0x0, 0x0, 0x0, 0x0, false⟩]

/-- The registers of block THM. -/
def regsTHM : List RegEntry := [
  ⟨"THM_CTRL", 0x2300000, [], 0x5, 0x0, 0x0, 0x1A, 0x0, 0x0, 0x0, false⟩,
  ⟨"THM_STATUS", 0x2300004, [], 0x0, 0x0, 0x0, 0x0, 0x0, 0x0, 0x0, false⟩,
  ⟨"THM_TEMP", 0x2300008, [], 0x0, 0x0, 0x0, 0x0, 0x0, 0x0, 0x0, false⟩,
  ⟨"THM_SENSOR", 0x230000C, [], 0x0, 0x0, 0x0, 0x0, 0x0, 0x0, 0x0, false⟩,
  ⟨"THM_SD", 0x2300010, [], 0x0, 0x0, 0x0, 0x0, 0x0, 0x0, 0x0, false⟩,
  ⟨"THM_SD_LFN", 0x2300014, [], 0x0, 0x0, 0x0, 0x0, 0x0, 0x0, 0x0, false⟩,
  ⟨"THM_THROTTLE", 0x2300018, [], 0x0, 0x0, 0x0, 0x0, 0x0, 0x0, 0x0, false⟩,
  ⟨"THM_RESTART", 0x230001C, [], 0x0, 0x0, 0x0, 0x0, 0x0, 0x0, 0x0, false⟩,
  ⟨"THM_PWR", 0x2300020, [], 0x0, 0x0, 0x0, 0x0, 0x0, 0x0, 0x0, false⟩,
  ⟨"THM_PWR_HBM", 0x2300024, [], 0x0, 0x0, 0x0, 0x0, 0x0, 0x0, 0x0, false⟩,
  ⟨"THM_CAP", 0x2300028, [], 0x3FF03FF, 0x0, 0x0, 0x0, 0x0, 0x0, 0xDC02EE, false⟩,
  ⟨"THM_DOM_ON", 0x2300100, [(0x4, 7)], 0x0, 0x0, 0x0, 0x0, 0x0, 0x0, 0x0, false⟩,
  ⟨"THM_DOM_HOLD", 0x2300120, [(0x4, 7)], 0x0, 0x0, 0xFFFFFFFF, 0x0, 0x0, 0x0, 0x0, false⟩,
  ⟨"THM_DOM_KEEP", 0x2300140, [(0x4, 7)], 0xFFFFFFFF, 0x0, 0x0, 0x0, 0x0, 0x0, 0x0, false⟩]

/-- The registers of block CAL. -/
def regsCAL : List RegEntry := [
  ⟨"CAL_CTRL", 0x2400000, [], 0x1, 0x0, 0x0, 0x2, 0x0, 0x0, 0x1, false⟩,
  ⟨"CAL_SESSION", 0x2400004, [], 0x7, 0x0, 0x0, 0x300, 0x0, 0x0, 0x0, false⟩,
  ⟨"CAL_SESSION_ARG", 0x2400008, [(0x4, 4)], 0xFFFFFFFF, 0x0, 0x0, 0x0, 0x0, 0x0, 0x0, false⟩,
  ⟨"CAL_SESS_STATUS", 0x240001C, [(0x4, 6)], 0x0, 0x0, 0x0, 0x0, 0x0, 0x0, 0x0, false⟩,
  ⟨"CAL_SESS_1_RESULT", 0x2400040, [], 0x0, 0x0, 0x0, 0x0, 0x0, 0x0, 0x0, false⟩,
  ⟨"CAL_SESS_2_RESULT", 0x2400044, [], 0x0, 0x0, 0x0, 0x0, 0x0, 0x0, 0x0, false⟩,
  ⟨"CAL_SESS_3_RESULT", 0x2400048, [], 0x0, 0x0, 0x0, 0x0, 0x0, 0x0, 0x0, false⟩,
  ⟨"CAL_SESS_4_RESULT", 0x240004C, [], 0x0, 0x0, 0x0, 0x0, 0x0, 0x0, 0x0, false⟩,
  ⟨"CAL_SESS_5_RESULT", 0x2400050, [], 0x0, 0x0, 0x0, 0x0, 0x0, 0x0, 0x0, false⟩,
  ⟨"CAL_RES_SEL", 0x2400060, [], 0x1FF07, 0x0, 0x0, 0x0, 0x0, 0x0, 0x0, false⟩,
  ⟨"CAL_RES_DATA", 0x2400064, [], 0x0, 0x0, 0x0, 0x0, 0x0, 0x0, 0x0, false⟩,
  ⟨"CAL_COLOUR_X", 0x2400070, [], 0xFFFFFFFF, 0x0, 0x0, 0x0, 0x0, 0x0, 0x0, false⟩,
  ⟨"CAL_COLOUR_Y", 0x2400074, [], 0xFFFFFFFF, 0x0, 0x0, 0x0, 0x0, 0x0, 0x0, false⟩,
  ⟨"CAL_COLOUR_Z", 0x2400078, [], 0xFFFFFFFF, 0x0, 0x0, 0x0, 0x0, 0x0, 0x0, false⟩,
  ⟨"CAL_COLOUR_PUT", 0x240007C, [], 0x1FF, 0x0, 0x0, 0x80000000, 0x0, 0x0, 0x0, false⟩,
  ⟨"CAL_STORE_STATUS", 0x2400080, [], 0x0, 0x0, 0x0, 0x0, 0x0, 0x0, 0x0, false⟩,
  ⟨"CAL_STORE_SEQ", 0x2400084, [], 0x0, 0x0, 0x0, 0x0, 0x0, 0x0, 0x0, false⟩,
  ⟨"CAL_REPAIR_CTRL", 0x2400090, [], 0x0, 0x0, 0x0, 0x1, 0x0, 0x0, 0x0, false⟩,
  ⟨"CAL_REPAIR_STATUS", 0x2400094, [], 0x0, 0x0, 0x0, 0x0, 0x0, 0x0, 0x0, false⟩,
  ⟨"CAL_CULLET", 0x2400098, [], 0x0, 0x0, 0x0, 0x0, 0x0, 0x0, 0x0, false⟩,
  ⟨"CAL_FENCED", 0x240009C, [], 0x0, 0x0, 0x0, 0x0, 0x0, 0x0, 0x0, false⟩,
  ⟨"CAL_FENCE_SEL", 0x24000A0, [], 0x1FF, 0x0, 0x0, 0x0, 0x0, 0x0, 0x0, false⟩,
  ⟨"CAL_FENCE_DATA_0", 0x24000A4, [], 0x0, 0x0, 0x0, 0x0, 0x0, 0x0, 0x0, false⟩,
  ⟨"CAL_FENCE_DATA_1", 0x24000A8, [], 0x0, 0x0, 0x0, 0x0, 0x0, 0x0, 0x0, false⟩,
  ⟨"CAL_FENCE_DATA_2", 0x24000AC, [], 0x0, 0x0, 0x0, 0x0, 0x0, 0x0, 0x0, false⟩,
  ⟨"CAL_BIST", 0x24000B0, [], 0x0, 0x0, 0x0, 0x0, 0x0, 0x0, 0x0, false⟩,
  ⟨"CAL_SHADOW_CFG", 0x24000C0, [], 0xF7, 0x0, 0x0, 0x0, 0x0, 0x0, 0x42, false⟩,
  ⟨"CAL_SHADOW_STATUS", 0x24000C4, [], 0x0, 0x0, 0x0, 0x0, 0x0, 0x0, 0x0, false⟩,
  ⟨"CAL_SHADOW_COUNT", 0x24000C8, [], 0x0, 0x0, 0x0, 0x0, 0x0, 0x0, 0x0, false⟩]

/-- The registers of block INT. -/
def regsINT : List RegEntry := [
  ⟨"INT_CTRL", 0x2500000, [], 0x3FF, 0x0, 0x0, 0x0, 0x0, 0x0, 0x140, false⟩,
  ⟨"INT_STATUS", 0x2500004, [], 0x0, 0x0, 0x0, 0x0, 0x0, 0x0, 0x0, false⟩,
  ⟨"INT_DROPS", 0x2500008, [], 0x0, 0x0, 0x0, 0x0, 0x0, 0x0, 0x0, false⟩,
  ⟨"INT_SUPPRESSED", 0x250000C, [], 0x0, 0x0, 0x0, 0x0, 0x0, 0x0, 0x0, false⟩,
  ⟨"INT_LOG_STATUS", 0x2500010, [], 0x0, 0x0, 0x0, 0x0, 0x0, 0x0, 0x0, false⟩,
  ⟨"INT_LOG_SEL", 0x2500014, [], 0x3FF, 0x0, 0x0, 0x0, 0x0, 0x0, 0x0, false⟩,
  ⟨"INT_LOG_DATA", 0x2500020, [(0x4, 8)], 0x0, 0x0, 0x0, 0x0, 0x0, 0x0, 0x0, false⟩,
  ⟨"INT_CODE_SEL", 0x2500040, [], 0xFFFF, 0x0, 0x0, 0x0, 0x0, 0x0, 0x0, false⟩,
  ⟨"INT_CODE_CTRL", 0x2500044, [], 0xFF01, 0x0, 0x0, 0x0, 0x0, 0x0, 0x0, false⟩,
  ⟨"INT_CODE_COUNT", 0x2500048, [], 0x0, 0x0, 0x0, 0x0, 0x0, 0x0, 0x0, false⟩,
  ⟨"INT_CRC_SUM", 0x2500100, [(0x4, 20)], 0x0, 0x0, 0x0, 0x0, 0x0, 0x0, 0x0, false⟩,
  ⟨"INT_CRC_CTRL", 0x2510000, [(0x400, 20), (0x40, 16)], 0x7, 0x0, 0x0, 0x0, 0x0, 0x0, 0x0, false⟩,
  ⟨"INT_CRC_XY", 0x2510004, [(0x400, 20), (0x40, 16)], 0x1FFF1FFF, 0x0, 0x0, 0x0, 0x0, 0x0, 0x0, false⟩,
  ⟨"INT_CRC_WH", 0x2510008, [(0x400, 20), (0x40, 16)], 0x1FFF1FFF, 0x0, 0x0, 0x0, 0x0, 0x0, 0x0, false⟩,
  ⟨"INT_CRC_EXPECT", 0x251000C, [(0x400, 20), (0x40, 16)], 0xFFFFFFFF, 0x0, 0x0, 0x0, 0x0, 0x0, 0x0, false⟩,
  ⟨"INT_CRC_EXP_CFN", 0x2510010, [(0x400, 20), (0x40, 16)], 0xFFFFFFFF, 0x0, 0x0, 0x0, 0x0, 0x0, 0x0, false⟩,
  ⟨"INT_CRC_RESULT", 0x2510014, [(0x400, 20), (0x40, 16)], 0x0, 0x0, 0x0, 0x0, 0x0, 0x0, 0x0, false⟩,
  ⟨"INT_CRC_RES_CFN", 0x2510018, [(0x400, 20), (0x40, 16)], 0x0, 0x0, 0x0, 0x0, 0x0, 0x0, 0x0, false⟩,
  ⟨"INT_CRC_STATUS", 0x251001C, [(0x400, 20), (0x40, 16)], 0x0, 0x0, 0x0, 0x0, 0x0, 0x0, 0x0, false⟩,
  ⟨"INT_WCRC_CTRL", 0x2520000, [(0x100, 20), (0x40, 4)], 0x7, 0x0, 0x0, 0x0, 0x0, 0x0, 0x0, false⟩,
  ⟨"INT_WCRC_XY", 0x2520004, [(0x100, 20), (0x40, 4)], 0x1FFF1FFF, 0x0, 0x0, 0x0, 0x0, 0x0, 0x0, false⟩,
  ⟨"INT_WCRC_WH", 0x2520008, [(0x100, 20), (0x40, 4)], 0x1FFF1FFF, 0x0, 0x0, 0x0, 0x0, 0x0, 0x0, false⟩,
  ⟨"INT_WCRC_EXPECT", 0x252000C, [(0x100, 20), (0x40, 4)], 0xFFFFFFFF, 0x0, 0x0, 0x0, 0x0, 0x0, 0x0, false⟩,
  ⟨"INT_WCRC_EXP_CFN", 0x2520010, [(0x100, 20), (0x40, 4)], 0xFFFFFFFF, 0x0, 0x0, 0x0, 0x0, 0x0, 0x0, false⟩,
  ⟨"INT_WCRC_RESULT", 0x2520014, [(0x100, 20), (0x40, 4)], 0x0, 0x0, 0x0, 0x0, 0x0, 0x0, 0x0, false⟩,
  ⟨"INT_WCRC_RES_CFN", 0x2520018, [(0x100, 20), (0x40, 4)], 0x0, 0x0, 0x0, 0x0, 0x0, 0x0, 0x0, false⟩,
  ⟨"INT_WCRC_STATUS", 0x252001C, [(0x100, 20), (0x40, 4)], 0x0, 0x0, 0x0, 0x0, 0x0, 0x0, 0x0, false⟩]

/-- The block table that holds a key (Table GEN-9). -/
def blockRegs (a : Nat) : List RegEntry :=
  if a < 0x100000 then regsGLB
  else if a < 0x200000 then regsTIM
  else if a < 0x300000 then regsCFG
  else if a < 0x400000 then regsHIF
  else if a < 0x800000 then regsMEM
  else if a < 0xC00000 then regsCMP
  else if a < 0x1000000 then regsCOL
  else if a < 0x1400000 then regsPLN
  else if a < 0x1800000 then regsSEQ
  else if a < 0x1A00000 then regsAPT
  else if a < 0x1C00000 then regsSCN
  else if a < 0x1E00000 then regsLMP
  else if a < 0x2000000 then regsLAN
  else if a < 0x2200000 then regsLXS
  else if a < 0x2300000 then regsMTR
  else if a < 0x2400000 then regsTHM
  else if a < 0x2500000 then regsCAL
  else if a < 0x2600000 then regsINT
  else if a < ctxBase then []
  else regsCTX

def lookupReg (a : Nat) : Option RegEntry := (blockRegs a).find? (fun e => e.has a)

/-- The block index of a key, for the fields that name blocks. -/
def isReg (a : Nat) : Bool := (lookupReg a).isSome

end Sys2Proof.Machine
end

