-- ==== Sys2Proof/Machine/RegReset.lean ====
section
/-! DEFINITION. The reset value of every register (R4, R10), as the register tables give it: the map's constant,
or the fuses where a table says Fused, or the rule a table names. -/
namespace Sys2Proof.Machine

/-- The default filter bank's taps of CMP_COEF_DATA_k at CMP_COEF_SEL's reset selection: horizontal bank 0,
phase 0 (R149). Every bank's phase 0 interpolates, so tap 2 (k = 0) is 1.0 = 1,024 and the others 0. -/
def coefReset (k : Nat) : Nat := if k = 1 then 1024 else 0

/-- The reset value of a register by its key; 0 for a reserved offset (R7). -/
def regReset (a : Nat) : Word :=
  match lookupReg a with
  | none => 0
  | some e =>
    if a = GLB_DEVICE_ID then
      BitVec.ofNat 32 (e.reset + Config.fuseGrade.toNat * 4096 + Config.fuseHbmPop.toNat * 256)
    else if a = GLB_STEPPING then BitVec.ofNat 32 (Config.fuseStepping.toNat * 256)
    else if a = GLB_UID_LO then BitVec.ofNat 32 (Config.fuseUid.val + 1)
    else if a = GLB_UID_HI then BitVec.ofNat 32 ((Config.fuseUid.val + 1) / 2 ^ 32)
    else if a = GLB_VCORE_SET then BitVec.ofNat 32 (e.reset + Config.fuseVset.toNat)
    else if a = CFG_OTP_STATUS then
      BitVec.ofNat 32 (Config.fuseKeyValid.toNat + Config.fuseKeyRevoked.toNat * 16 + Config.fuseSecFloor.toNat * 256 +
        (if Config.fuseOtpLocked then 2 ^ 31 else 0))
    else if TIM_OUT_SKEW 0 ≤ a ∧ a ≤ TIM_OUT_SKEW 19 then
      BitVec.ofNat 32 (((Config.fuseSkew ((a - TIM_OUT_SKEW 0) / 4)).val + 232) % 256)
    else if CMP_COEF_DATA 0 ≤ a ∧ a ≤ CMP_COEF_DATA 2 then
      BitVec.ofNat 32 (coefReset ((a - CMP_COEF_DATA 0) / 4))
    else if e.base = CMP_LYR_OWNER 0 ∧ a ≤ CMP_LYR_OWNER 7 then BitVec.ofNat 32 (e.reset + 0x10000)
    else if e.base = COL_LYR_M 0 0 then
      (let j := (a - COL_LYR_M 0 0) % 0x100 / 4
       BitVec.ofNat 32 (if j = 0 ∨ j = 4 ∨ j = 8 then 0x100000 else 0))
    else if LAN_PRESET 0 0 ≤ a ∧ a ≤ LAN_PRESET 5 2 then
      (let c := (a - LAN_PRESET 0 0) % 0x10 / 4
       BitVec.ofNat 32 (if c = 0 then 0x00040402 else if c = 1 then 0x00080804 else 0x000C0E06))
    else BitVec.ofNat 32 e.reset

end Sys2Proof.Machine
end

