-- ==== Sys2Proof/Machine/StLan.lean ====
section
/-! DEFINITION. The state of LAN that no register shows (spec/13), and the repair map's field entries (R413). -/
namespace Sys2Proof.Machine

/-- What a spare's training frames announce (R323, R325): the lane, the LFN, and whether the spare takes the lane over
(0), borrows it (1), gives it back (2), or keeps the place of a borrowed lane that has failed (3). -/
structure Subst where
  lane : Nat
  lfn : Nat
  kind : Nat
  time : Nat
  deriving DecidableEq, Repr

/-- One duplex lane (R306 to R330). -/
structure LaneSt where
  /-- The 48-bit frame counter F and the instant at which its slot started. -/
  f : Nat
  slotTime : Nat
  /-- The transmitter's last bit and its run (R312). -/
  txBit : Bool
  txRun : Nat
  /-- The receiver's own count of F, last bit and run. -/
  rxF : Nat
  rxBit : Bool
  rxRun : Nat
  hunting : Bool
  /-- In hunt, one sync word has been found at a slot's distance (R314). -/
  huntOne : Bool
  noSync : Nat
  /-- The last slot was received without error (LOCK, Table LAN-3). -/
  clean : Bool
  /-- Consecutive good training frames with LOCK and EQ_DONE, and READY frames sent and received (Table LAN-4). -/
  good : Nat
  sentReady : Nat
  gotReady : Nat
  /-- This receiver has finished adapting (EQ_DONE). -/
  adapted : Bool
  /-- Trained; data starts at the next slot with F mod 64 = 0. -/
  waitStart : Bool
  /-- Instants of CRC-failed frames in the last 1 ms, and CRC_FAILS of status frames in the last 1 ms (R320). -/
  fails : List Nat
  farHist : List (Nat × Nat)
  statusTime : Nat
  stuffViol : Nat
  /-- Slots since a status frame was sent, and one is due (R318). -/
  sinceStatus : Nat
  statusDue : Bool
  since : Nat
  /-- Training frames still to send in WAKE (R327). -/
  wakeLeft : Nat
  /-- Link words that wait to be sent, and the words of the last frame passed up with its CRC flag. -/
  queue : List Nat
  rx : List Nat
  rxOk : Bool
  /-- The pattern generator, and the checker's last 31 bits, error-free run and errors among the last 64 bits (R329). -/
  prbs : Nat
  chkHist : Nat
  chkSeen : Nat
  chkRun : Nat
  chkWin : Nat
  ctleTime : Nat
  subst : Option Subst
  /-- Freed by a borrow (R325). -/
  freed : Bool
  lbAck : Bool
  deriving DecidableEq, Repr

def LaneSt.init : LaneSt :=
  { f := 0, slotTime := 0, txBit := false, txRun := 0, rxF := 0, rxBit := false, rxRun := 0, hunting := true,
    huntOne := false, noSync := 0, clean := false, good := 0, sentReady := 0, gotReady := 0, adapted := false, waitStart := false,
    fails := [], farHist := [], statusTime := 0, stuffViol := 0, sinceStatus := 0, statusDue := false, since := 0,
    wakeLeft := 0, queue := [], rx := [], rxOk := false, prbs := 2 ^ 31 - 1, chkHist := 0, chkSeen := 0, chkRun := 0,
    chkWin := 0, ctleTime := 0, subst := none, freed := false, lbAck := false }

structure LanSt where
  lanes : Tbl LaneSt
  /-- The loss of reference clock 0 has stopped the domains that Table GEN-16 derives from it (R321). -/
  coreStopped : Bool
  deriving DecidableEq, Repr

def LanSt.reset : LanSt := { lanes := [], coreStopped := false }

end Sys2Proof.Machine
end

