-- ==== Sys2Proof/Machine/StLxs.lean ====
section
/-! DEFINITION. The state of LXS that no register shows (spec/14). -/
namespace Sys2Proof.Machine

/-- What a neighbour's last HELLO said (Table LXS-3). `near` says whether the two ends agree on LFN with system times
within ±1 µs (R341). -/
structure Hello where
  id : Nat
  prio : Nat
  port : Nat
  started : Bool
  root : Nat
  rootPrio : Nat
  hops : Nat
  sysid : Nat
  gen : Nat
  near : Bool
  deriving DecidableEq, Repr

/-- A RETRAIN request of one end (R334): slot F, width change, two lanes. -/
structure RetrainReq where
  f : Nat
  change : Bool
  two : Bool
  deriving DecidableEq, Repr

structure LxsPort where
  since : Nat
  hello : Option Hello
  /-- The lane that plays lane 0: 1 once lane 0 has failed (R334). -/
  first : Nat
  credReq : Nat
  credResp : Nat
  own : Option RetrainReq
  peer : Option RetrainReq
  /-- Data has stopped at the agreed slot, and the lanes retrain (R334). -/
  stopped : Bool
  /-- Read data sent and received, with its instants, over the last 1 ms. -/
  sent : List (Nat × Nat)
  got : List (Nat × Nat)
  /-- A ROLE answer waits for the next timing round: 2 ACK, 3 NAK (R342). -/
  answer : Nat
  /-- Our ROLE REQ is out. -/
  asked : Bool
  deriving DecidableEq, Repr

def LxsPort.init : LxsPort :=
  { since := 0, hello := none, first := 0, credReq := 0, credResp := 0, own := none, peer := none, stopped := false, sent := [],
    got := [], answer := 0, asked := false }

/-- A message that waits for its lane: class (R336), type (Table LXS-2) and words. -/
structure LxsMsg where
  cls : Nat
  ty : Nat
  words : List Nat
  deriving DecidableEq, Repr

/-- The link layer of a Laxus lane (R335). A frame is kept as its 63 words after the link header, and which of them
belong to TIME, DELAY_REQ and DELAY_RESP messages. -/
structure LxsFrame where
  fseq : Nat
  words : List Nat
  stamped : List Nat
  deriving DecidableEq, Repr

structure LxsLane where
  fseq : Nat
  /-- The last FSEQ received in order, and whether a NAK stands. -/
  ack : Nat
  nak : Bool
  /-- The last of our frames that the far end acknowledged, and the instant of the last progress. -/
  acked : Nat
  since : Nat
  /-- The last 64 frames sent, oldest first, and those to send again. -/
  hist : List LxsFrame
  again : List LxsFrame
  waiting : List LxsMsg
  /-- Words left of the message being sent, and whether it is a stamped one. -/
  cur : List Nat
  curStamped : Bool
  deriving DecidableEq, Repr

def LxsLane.init : LxsLane :=
  { fseq := 0, ack := 0, nak := false, acked := 0, since := 0, hist := [], again := [], waiting := [], cur := [],
    curStamped := false }

/-- A REPORT as the device last received it, with the port it came in on (R345). -/
structure Report where
  port : Nat
  converged : Bool
  spare : Bool
  neigh : List Nat
  highest : Nat
  deriving DecidableEq, Repr

/-- An ASSIGN that waits for its boundary (R346). -/
structure Assign where
  id : Nat
  station : Nat
  valid : Bool
  epoch : Nat
  lfn : Nat
  /-- Part of a promotion (R347). -/
  promo : Bool
  deriving DecidableEq, Repr

/-- A binding (R352): `any` lets any context of any device read. -/
structure Binding where
  page : Nat
  count : Nat
  handle : Nat
  any : Bool
  device : Nat
  ctx : Nat
  deriving DecidableEq, Repr

/-- A remote read that waits for its response, by its tag (R353). -/
structure RemoteRead where
  engine : Nat
  index : Nat
  seq : Nat
  ctx : Nat
  va : Nat
  time : Nat
  deriving DecidableEq, Repr

/-- A read that this device serves on engine 44 or 45 (R353): the indices of its local transactions that are still
outstanding (R111), and whether one of them returned no data. -/
structure Serve where
  src : Nat
  tag : Nat
  seq : Nat
  addr : Nat
  len : Nat
  engine : Nat
  left : List Nat
  bad : Bool
  deriving DecidableEq, Repr

/-- A vote (R349), combined as it goes up the tree. -/
structure Vote where
  rbPend : Nat
  rbReady : Nat
  ready : Nat
  pend : Nat
  admits : Nat
  part : Bool
  deriving DecidableEq, Repr

structure Decision where
  target : Nat
  rbApply : Nat
  apply : Nat
  admits : Nat
  prev : Nat
  deriving DecidableEq, Repr

/-- The commit round (R348 to R350). -/
structure RoundSt where
  target : Option Nat
  /-- Votes of children by port. -/
  votes : Tbl Vote
  own : Option Vote
  /-- Commits that met R29 at the vote point. -/
  ready : List Nat
  /-- The vote took a reload at the boundary into account (R79). -/
  reload : Bool
  sent : Bool
  decision : Option Decision
  /-- No DECISION came by T - 20 us. -/
  lost : Bool
  /-- The APPLY that the root decided last. -/
  lastApply : Nat
  /-- Rounds in a row without a DECISION, and the commits that were ready in the last of them. -/
  missed : Nat
  prevReady : List Nat
  deriving DecidableEq, Repr

def RoundSt.init : RoundSt :=
  { target := none, votes := [], own := none, ready := [], reload := false, sent := false, decision := none, lost := false, lastApply := 0,
    missed := 0, prevReady := [] }

structure LxsSt where
  ports : Tbl LxsPort
  lanes : Tbl LxsLane
  /-- The best root known: priority, identity and hops, and when anything advertised or received last changed (R337). -/
  rootPrio : Nat
  root : Nat
  hops : Nat
  lastChange : Nat
  electing : Bool
  lastHello : Nat
  reports : Tbl Report
  lastReport : Nat
  reported : Bool
  /-- Stations by identity, and the epoch that each station last had (R345, R346). -/
  stations : Tbl Nat
  epochs : Tbl Nat
  assigns : List Assign
  /-- On the root: devices answered since their last REPORT, and stations whose device is not in the tree, since when (R347). -/
  told : List Nat
  gone : Tbl Nat
  /-- READY_ALL has been sent or received (R355). -/
  readyAll : Bool
  round : RoundSt
  /-- DROP messages of the last millisecond, as ORIGIN × 2^16 + SEQ and the instant, and our own SEQ (R351). -/
  drops : List (Nat × Nat)
  dropSeq : Nat
  bindings : Tbl Binding
  reads : Tbl RemoteRead
  readSeq : Nat
  serves : Tbl Serve
  /-- A handover under way: the new root's identity and the port it came in on, 7 for our own (R342). -/
  handover : Option (Nat × Nat)
  /-- The port whose roles reverse at the next boundary (R342). -/
  swap : Option Nat
  /-- Root only in passing (R342). -/
  passing : Bool
  /-- The root time last received: 2^-48 s, its instant, phase and LFN (R343). -/
  time48 : Nat
  timeAt : Nat
  timePhase : Nat
  timeLfn : Nat
  /-- That time is this device's own, held since it took its parent; the next TIME gives no rate. -/
  timeHeld : Bool
  /-- LFN and phase have been set from a TIME message (R344). -/
  setOnce : Bool
  /-- LFs in a row with the offset within ±0.5 ns. -/
  calm : Nat
  /-- Offset magnitudes of the last second with their instants. -/
  offs : List (Nat × Nat)
  /-- When the image applied (R356). -/
  imageAt : Nat
  promoting : Bool
  deriving DecidableEq, Repr

def LxsSt.reset : LxsSt :=
  { ports := [], lanes := [], rootPrio := 0, root := 0, hops := 0, lastChange := 0, electing := false, lastHello := 0,
    reports := [], lastReport := 0, reported := false, stations := [], epochs := [], assigns := [], told := [], gone := [], readyAll := false,
    round := RoundSt.init, drops := [], dropSeq := 0, bindings := [], reads := [], readSeq := 0, serves := [],
    handover := none, swap := none, passing := false, time48 := 0, timeAt := 0, timePhase := 0, timeLfn := 0, timeHeld := false,
    setOnce := false, calm := 0, offs := [], imageAt := 0, promoting := false }

end Sys2Proof.Machine
end

