-- ==== Sys2Proof/Machine/StMtr.lean ====
section
/-! DEFINITION. The state of the metering die (spec/15); no reset of the main die touches it (R359). -/
namespace Sys2Proof.Machine

/-- Running totals of a meter group: charge in 4 µC units, time in gate steps (R362). -/
structure MeterTot where
  charge : Nat
  time : Nat
  deriving DecidableEq, Repr

/-- A write of the store in progress or waiting (R371, R372): 0 a record, 1 an audit entry, 2 a parameter copy; its SEQ,
COUNT or PARAM_SET, and the slots that have failed. -/
structure MeterWrite where
  kind : Nat
  key : Nat
  bytes : List Byte
  fails : Nat
  deriving DecidableEq, Repr

structure MtrSt where
  powered : Bool
  /-- SEAL_N is low, debounced. -/
  sealOpen : Bool
  /-- The event counter, and its value in the store (R360). -/
  count : Nat
  storeCount : Nat
  /-- Counter values of seal openings latched on VBAT_M alone. -/
  batSeals : List Nat
  /-- Tamper flags: VBAT_LOST, CLOCK_FAULT, NV_FAULT. -/
  vbatLost : Bool
  clockFault : Bool
  nvFault : Bool
  /-- The parameter block in force, empty when unprovisioned, PARAM_SET, and the block staged (R367, R369). -/
  params : List Byte
  paramSet : Nat
  staged : Option (List Byte)
  /-- METER_TIME at an instant since which the crystal runs (R370). -/
  timeBase : Nat
  timeSince : Nat
  hostTime : Nat
  /-- Totals by meter group, and 64 for UNMAPPED. -/
  totals : Tbl MeterTot
  /-- Estimated words, and STATUS bits accumulated, since the previous record (Table MTR-7). -/
  estWords : Nat
  bits : Nat
  /-- SEQ of the newest record written. -/
  seq : Nat
  records : Tbl (List Byte)
  audits : Tbl (List Byte)
  copies : Tbl (List Byte)
  writes : List MeterWrite
  /-- Unmatched LATCH frames in a row, and chains blocked for them (R364). -/
  misses : Tbl Nat
  blocked : List Nat
  /-- Last valid word of each position, and the last LATCH of each chain (R362, R365). -/
  lastWord : Tbl Nat
  lastLatch : Tbl Nat
  /-- The mailbox request under way, and the last answer (R375). -/
  mbTime : Nat
  mbArgs : List Nat
  mbData : List Byte
  deriving DecidableEq, Repr

def MtrSt.reset : MtrSt :=
  { powered := false, sealOpen := false, count := 0, storeCount := 0, batSeals := [], vbatLost := false,
    clockFault := false, nvFault := false, params := [], paramSet := 0, staged := none, timeBase := 0, timeSince := 0,
    hostTime := 0, totals := [], estWords := 0, bits := 0, seq := 0, records := [], audits := [], copies := [],
    writes := [], misses := [], blocked := [], lastWord := [], lastLatch := [], mbTime := 0, mbArgs := [], mbData := [] }

end Sys2Proof.Machine
end

