-- ==== Sys2Proof/Machine/StThm.lean ====
section
/-! DEFINITION. The state of THM that no register shows (spec/16). -/
namespace Sys2Proof.Machine

structure ThmSt where
  /-- The last readings used with their instants, newest first, in 1/8 °C (R386), and readings below 100.0 °C in a row
  (R389). -/
  temps : List (Nat × Int)
  cool : Nat
  /-- The last reading measured (Table THM-1, check 4). -/
  meas : Option Int
  /-- The package estimates at the conversions in a row that gave one raw code, newest first, at most 2,000 (Table THM-1). -/
  same : List Nat
  /-- The last conversion (R378). -/
  convAt : Option Nat
  /-- The last conversion at which a check failed (R379). -/
  lastFail : Nat
  /-- When the shutdown in force entered (R385, R389). -/
  sdTime : Nat
  /-- Instants of the automatic restarts of the last 3,600 s. -/
  restarts : List Nat
  /-- Changes of the throttled state that wait for their boundary, oldest first (R382). -/
  throttle : List (Nat × Bool)
  /-- The gate trim set in force (R380). -/
  trimSet : Nat
  /-- Domains that wait for power, with their use, and those that ramp, with the end of the ramp (R396). -/
  wait : Tbl Nat
  ramp : Tbl Nat
  deriving DecidableEq, Repr

def ThmSt.reset : ThmSt :=
  { temps := [], cool := 0, meas := none, same := [], convAt := none, lastFail := 0, sdTime := 0,
    restarts := [], throttle := [], trimSet := 0, wait := [], ramp := [] }

end Sys2Proof.Machine
end

