-- ==== Sys2Proof/Machine/State.lean ====
section
/-! DEFINITION. The state of the block, as plain data. -/
namespace Sys2Proof.Machine

/-- No command of this block ends in a fault: the spec gives every command an effect, and where a condition of the spec
does not hold only the clock moves (log 2). `unused` stands for the closed list. -/
inductive Fault where
  /-- Raised by nothing (safe). -/
  | unused
  deriving DecidableEq, Repr

/-- No command is refused. -/
inductive Refusal where
  /-- The arm of a command that has no meaning yet; exec raises it for none (safe). -/
  | notModelled (mnemonic : String)
  deriving DecidableEq, Repr

structure State where
  /-- 250 ps gate steps since the model's first instant. -/
  now : Nat
  /-- The model's own counter of free values used (log 3). -/
  fresh : Nat
  /-- What has left the device, oldest first. -/
  out : List OutMsg
  /-- Registers by key, where they differ from their reset value or were written; an RWS register's shadow. -/
  regs : Tbl Word
  /-- The value in force of RWS registers (R11). -/
  act : Tbl Word
  glb : GlbSt
  tim : TimSt
  cfg : CfgSt
  hif : HifSt
  mem : MemSt
  int : IntSt
  cmp : CmpSt
  col : ColSt
  pln : PlnSt
  seq : SeqSt
  apt : AptSt
  scn : ScnSt
  lmp : LmpSt
  lan : LanSt
  lxs : LxsSt
  mtr : MtrSt
  thm : ThmSt
  cal : CalSt
  /-- The commands that wait, first in, first out. -/
  pending : List Instr
  deriving DecidableEq, Repr

/-- CFG in reset: the fuses hold what was programmed into them (R66); nothing else is kept. -/
def CfgSt.reset : CfgSt :=
  { secs := [], topo := [], secver := 0, imageRunning := false, safeIdle := false, dataRead := false, waiting := [], dirValid := false,
    regions := [], load := 0, reload := [], reloadReady := false, reloadCompiles := [],
    keyHash := (List.range 192).map (fun k => (k, (Config.fuseKeyHash (k / 48) (k % 48)).toNat)),
    keyValid := Config.fuseKeyValid.toNat, keyRevoked := Config.fuseKeyRevoked.toNat, secFloor := Config.fuseSecFloor.toNat,
    otpLocked := Config.fuseOtpLocked }

/-- The device before its first boot instant: every main-die block is held in reset (R437), every register has its reset
value, and the metering die is as it leaves the factory (log 5). -/
def State.reset : State :=
  { now := 0, fresh := 0, out := [], regs := [], act := [], glb := GlbSt.reset, tim := TimSt.reset, cfg := CfgSt.reset,
    hif := HifSt.reset, mem := MemSt.reset, int := IntSt.reset, cmp := CmpSt.reset, col := ColSt.reset, pln := PlnSt.reset,
    seq := SeqSt.reset, apt := AptSt.reset, scn := ScnSt.reset, lmp := LmpSt.reset, lan := LanSt.reset, lxs := LxsSt.reset,
    mtr := MtrSt.reset, thm := ThmSt.reset, cal := CalSt.reset, pending := [] }

end Sys2Proof.Machine
end

