-- ==== Sys2Proof/Machine/Ops.lean ====
section
/-! DEFINITION. The named operations every command's meaning is written from: time, registers and fields, free
values, image sections, stamps and events (R54, R426 to R432), and the messages that leave the device. -/
namespace Sys2Proof.Machine

/-! ### Time -/

/-- 250 ps gate steps in a microsecond, a millisecond and a second. -/
abbrev usSteps : Nat := 4000
abbrev msSteps : Nat := 4000000
abbrev secSteps : Nat := 4000000000

/-- Let `dt` gate steps pass. -/
def State.tick (s : State) (dt : Nat) : State := { s with now := s.now + dt }

/-- Send a message out of the device. -/
def State.send (s : State) (m : OutMsg) : State := { s with out := s.out ++ [m] }

/-! ### Free values (DESIGN CHOICE, log 3) -/

/-- The next free value, below `2 ^ w` (w at most 64). -/
def State.freeVal (s : State) (w : Nat) : Nat := (Config.freeValue s.fresh).toNat % 2 ^ w

/-- Consume the free value. -/
def State.useFree (s : State) : State := { s with fresh := s.fresh + 1 }

/-! ### Registers -/

def State.rd (s : State) (a : Nat) : Word := tget (regReset a) s.regs a

def State.wr (s : State) (a : Nat) (w : Word) : State := { s with regs := tset s.regs a w }

/-- A register's value as a number. -/
def State.rdN (s : State) (a : Nat) : Nat := (s.rd a).toNat

def State.wrN (s : State) (a n : Nat) : State := s.wr a (BitVec.ofNat 32 n)

/-- A field of a register: for an RWS field, the shadow (R10). -/
def State.get (s : State) (f : Fld) : Nat := bitsOf (s.rd f.reg).toNat f.hi f.lo

def State.put (s : State) (f : Fld) (v : Nat) : State :=
  s.wrN f.reg (setBits (s.rd f.reg).toNat f.hi f.lo v)

def State.flag (s : State) (f : Fld) : Bool := s.get f != 0

def State.putB (s : State) (f : Fld) (b : Bool) : State := s.put f (if b then 1 else 0)

/-- The value in force of an RWS register (R11). -/
def State.actRd (s : State) (a : Nat) : Word := tget (regReset a) s.act a

def State.actWr (s : State) (a : Nat) (w : Word) : State := { s with act := tset s.act a w }

def State.actGet (s : State) (f : Fld) : Nat := bitsOf (s.actRd f.reg).toNat f.hi f.lo

def State.actFlag (s : State) (f : Fld) : Bool := s.actGet f != 0

/-- A field of the value in force, read as signed. -/
def State.actSgn (s : State) (f : Fld) : Int := sgn (f.hi + 1 - f.lo) (s.actGet f)

def State.getSgn (s : State) (f : Fld) : Int := sgn (f.hi + 1 - f.lo) (s.get f)

/-- Count one more, wrapping. -/
def State.inc (s : State) (f : Fld) : State := s.put f (s.get f + 1)

/-- Count `n` more, stopping at the field's largest value. -/
def State.incSat (s : State) (f : Fld) (n : Nat) : State :=
  s.put f (satAdd (2 ^ (f.hi + 1 - f.lo) - 1) (s.get f) n)

/-- Put a value that saturates at the field's largest value. -/
def State.putSat (s : State) (f : Fld) (v : Nat) : State := s.put f (min v (2 ^ (f.hi + 1 - f.lo) - 1))

/-- Copy the shadow of a register to its value in force (R11). -/
def State.applyShadow (s : State) (a : Nat) : State := s.actWr a (s.rd a)

/-- Return a register to its reset value, shadow and value in force. -/
def State.resetReg (s : State) (a : Nat) : State := { s with regs := tdel s.regs a, act := tdel s.act a }

/-- Change the entry of a table of the state only where a test holds. -/
def State.when_ (s : State) (b : Bool) (f : State → State) : State := if b then f s else s

/-! ### Image sections (Table CFG-1) -/

abbrev secLaneMap : Nat := 0x0001
abbrev secPortCfg : Nat := 0x0002
abbrev secArrayMech : Nat := 0x0003
abbrev secWaveform : Nat := 0x0004
abbrev secTileProg : Nat := 0x0005
abbrev secCmpCut : Nat := 0x0006
abbrev secMemMap : Nat := 0x0007
abbrev secCtxLimits : Nat := 0x0008
abbrev secCeilings : Nat := 0x0009
abbrev secColourBase : Nat := 0x000A
abbrev secLmpMap : Nat := 0x000B
abbrev secPlaneMap : Nat := 0x000C
abbrev secScanCfg : Nat := 0x000D
abbrev secLxsCfg : Nat := 0x000E
abbrev secStationMap : Nat := 0x000F
abbrev secPowerMap : Nat := 0x0010

def State.sec (s : State) (ty inst : Nat) : List Byte := tget [] s.cfg.secs (ty * 65536 + inst)

/-- A little-endian field of a section of the running image. -/
def State.secLE (s : State) (ty inst off n : Nat) : Nat := leAt (s.sec ty inst) off n

/-- A field of the CTX_LIMITS entry of function f (Table HIF-18). -/
def State.ctxLim (s : State) (f off n : Nat) : Nat := s.secLE secCtxLimits 0 (0x10 + 32 * f + off) n

/-- Whether function f is enabled on the bus: the PF, or one of the VFs the host enabled (R81). -/
def State.fnEnabled (s : State) (f : Nat) : Bool := f == 0 || decide (f ≤ s.get HIF_STATUS.NUM_VFS)

/-- Whether context c = 4 f + s exists (R81). -/
def State.ctxExists (s : State) (c : Nat) : Bool :=
  decide (c < 1024) && decide (c % 4 < s.ctxLim (c / 4) 0 1) && s.fnEnabled (c / 4) &&
    s.flag (HIF_CTX_LIMITS_0.ENABLE c)

/-- The element of an array of registers at `base` with a stride that holds a key. -/
def idxIn (a base stride n : Nat) : Option Nat :=
  if base ≤ a ∧ a < base + stride * n then some ((a - base) / stride) else none

/-! ### Phase and stamps -/

/-- The phase of an instant in steps (R34, R35), stopping at the counter's largest value. -/
def State.phaseAt (s : State) (t : Nat) : Nat :=
  min (2 ^ 24 - 1) ((t * 65536 - s.tim.lfStart16) * 2 ^ 24 / max 1 s.tim.p16)

def State.phase (s : State) : Nat := s.phaseAt s.now

/-- The instant, in steps, at which phase `ph` of the running LF falls: floor(ph × P / 2^24 + 1/2) steps after
the boundary (R35). -/
def State.phaseInstant (s : State) (ph : Nat) : Nat :=
  (s.tim.lfStart16 + 32768) / 65536 + (2 * ph * s.tim.p16 + 2 ^ 24 * 65536) / (2 * 2 ^ 24 * 65536)

/-- Whether the device is a member of a Laxus system (its image carries LXS_CFG) and not the timing root: its system time is
the root's, and no step or slew of its own acts (R52, R53). -/
def State.timeFollows (s : State) : Bool := !(s.sec secLxsCfg 0).isEmpty && !s.flag LXS_STATUS.ROOT

/-- System time of an instant, in 2^-32 s modulo 2^64: the count runs at the gate steps' rate, offset by SLEW
while SLEW_EN is 1 on a device that steers it (R52, R53). -/
def State.sysAt (s : State) (t : Nat) : Nat :=
  let d : Int := (t : Int) - s.tim.sysT0
  let ppb : Int := if s.flag TIM_SYSTIME_CTRL.SLEW_EN && !s.timeFollows then s.getSgn TIM_SYSTIME_CTRL.SLEW else 0
  uns 64 ((s.tim.sysBase : Int) + fdiv (d * (2 ^ 32 : Nat) * (1000000000 + ppb)) (4000000000 * 1000000000))

def State.sysNow (s : State) : Nat := s.sysAt s.now

/-- The instant of the next boundary, in steps. -/
def State.nextBoundary (s : State) : Nat := (s.tim.lfStart16 + s.tim.p16) / 65536

/-- Microseconds, rounded down, to the next boundary. -/
def State.toBoundary (s : State) : Nat := s.nextBoundary - s.now

/-! ### Events (R426 to R432) -/

/-- The class of an event code: 0 information, 1 warning, 2 error (Table INT-4). -/
def codeClass (c : Nat) : Nat :=
  if c ∈ [0x0101, 0x0106, 0x0302, 0x0304, 0x0305, 0x0703, 0x0801, 0x0802, 0x0805, 0x0A02, 0x0B04, 0x0D02,
    0x0E01, 0x0F01, 0x0F02, 0x0F04, 0x1002] then 0
  else if c ∈ [0x0104, 0x0105, 0x0201, 0x0202, 0x0205, 0x0303, 0x0401, 0x0402, 0x0502, 0x0505, 0x0601, 0x0604,
    0x0701, 0x0901, 0x0903, 0x0904, 0x0A01, 0x0A04, 0x0B03, 0x0C01, 0x0C02, 0x0C04, 0x0D01, 0x0E02, 0x0E03,
    0x1001] then 2
  else 1

/-- Where Table INT-4 sends a code: 0 the device queue (D), 1 the context's queue (C), 2 the writer's. -/
def codeRoute (c : Nat) : Nat :=
  if c ∈ [0x0B01, 0x0B02, 0x0F01, 0x0F02, 0x0F03, 0x0F04] then 1
  else if c ∈ [0x0F05, 0x0F06] then 2
  else 0

/-- The source code of Table INT-3 for the block that holds a register key; GLB events carry INT (R427). -/
def blockSource (a : Nat) : Nat :=
  if a < 0x100000 then 0x10 else if a < 0x200000 then 0x03 else if a < 0x300000 then 0x0D
  else if a < 0x400000 then 0x0F else if a < 0x800000 then 0x0C else if a < 0xC00000 then 0x0B
  else if a < 0x1000000 then 0x0A else if a < 0x1400000 then 0x09 else if a < 0x1800000 then 0x04
  else if a < 0x1A00000 then 0x05 else if a < 0x1C00000 then 0x06 else if a < 0x1E00000 then 0x02
  else if a < 0x2000000 then 0x07 else if a < 0x2200000 then 0x08 else if a < 0x2300000 then 0x11
  else if a < 0x2400000 then 0x01 else if a < 0x2500000 then 0x0E else if a < 0x2600000 then 0x10
  else 0x0F

/-- Block bases in the order of Table GEN-9, to give a register's offset in its block. -/
def blockBase (a : Nat) : Nat :=
  ([0x100000, 0x200000, 0x300000, 0x400000, 0x800000, 0xC00000, 0x1000000, 0x1400000, 0x1800000, 0x1A00000,
    0x1C00000, 0x1E00000, 0x2000000, 0x2200000, 0x2300000, 0x2400000, 0x2500000, 0x2600000].filter
      (fun b => b ≤ a)).foldl max 0

/-- The rate of a code: its own value, or INT_CTRL's where that is 0 (R430). -/
def State.codeRate (s : State) (code : Nat) : Nat :=
  let own := bitsOf (tget 0 s.int.codeCtrl code) 15 8
  if own = 0 then s.get INT_CTRL.RATE else own

/-- Whether one more event of a code passes the rate of a queue (R430). -/
def State.ratePasses (s : State) (q code : Nat) : Bool :=
  let r := s.codeRate code
  r == 0 || decide (tget 0 s.int.rateUsed (q * 65536 + code) < r)

/-- Count an event against the rate of a queue: passed or suppressed (R430). -/
def State.countRate (s : State) (q code : Nat) : State :=
  if s.ratePasses q code then
    { s with int := { s.int with rateUsed := tmod 0 s.int.rateUsed (q * 65536 + code) (· + 1) } }
  else
    { s with int := { s.int with suppressed := tmod 0 s.int.suppressed (q * 65536 + code) (· + 1) } }
      |>.inc INT_SUPPRESSED.COUNT

/-- Stamp order of R25 and R428: LFN and phase, then system time, then SOURCE. -/
def eventBefore (a b : Event) : Bool :=
  if a.lfn ≠ b.lfn then lfnAfter b.lfn a.lfn
  else if a.phase ≠ b.phase then decide (a.phase < b.phase)
  else if a.systime ≠ b.systime then decide (a.systime < b.systime)
  else decide (a.code / 256 < b.code / 256)

/-- Put a held event in its place; an event with an equal stamp and source stands after the earlier one. -/
def insertHeld (h : HeldEvent) : List HeldEvent → List HeldEvent
  | [] => [h]
  | g :: r => if eventBefore h.ev g.ev then h :: g :: r else g :: insertHeld h r

/-- The most events INT holds: what INT_STATUS.PENDING can count (DESIGN CHOICE, log 12). -/
abbrev heldMax : Nat := 8191

/-- The function whose queue a queue is. -/
def queueFn (q : Nat) : Nat := if q = devQ then 0 else q / 4

/-- Whether a function can make host requests: master enable is set and the link is up (R101, R104). -/
def State.fnCanHost (s : State) (f : Nat) : Bool := s.flag (HIF_FN_STATUS.ME f) && s.flag HIF_STATUS.LINK_UP

/-- The CFG word of a queue; the device queue's fields are those of HIF_CTX_EVQ_CFG (Table HIF-11). -/
def State.queueCfg (s : State) (q : Nat) : Nat :=
  if q = devQ then s.rdN HIF_DEVQ_CFG else s.rdN (HIF_CTX_EVQ_CFG q)

/-- Whether a queue can be written now (R101). -/
def State.queueWritable (s : State) (q : Nat) : Bool :=
  s.fnCanHost (queueFn q) && bitAt (s.queueCfg q) 8 && !s.hif.resetting.contains q

/-- Events held for queues of function f that cannot be written (R101). -/
def State.heldBlocked (s : State) (f : Nat) : Nat :=
  (s.int.held.filter (fun h => queueFn h.queue == f && !s.queueWritable h.queue)).length

/-- The message of a function's alert vector waits (Table HIF-7): an event queue overflowed, or held events were dropped. -/
def State.alert (s : State) (f : Nat) : State :=
  if s.int.pendVec.contains (f * 8 + 4) then s
  else { s with int := { s.int with pendVec := s.int.pendVec ++ [f * 8 + 4] } }

/-- The first `n` events that a test picks, and all others. -/
def keepHeld (p : HeldEvent → Bool) : Nat → List HeldEvent → List HeldEvent
  | _, [] => []
  | 0, h :: r => if p h then keepHeld p 0 r else h :: keepHeld p 0 r
  | n + 1, h :: r => h :: keepHeld p (if p h then n else n + 1) r

/-- Drop what stands beyond the first 64 events held for function f's unwritable queues, counted in its DROPS (R101). -/
def State.dropHeld (s : State) (f : Nat) : State :=
  let l := keepHeld (fun h => queueFn h.queue == f && !s.queueWritable h.queue) 64 s.int.held
  ((({ s with int := { s.int with held := l } }).put INT_STATUS.PENDING l.length).wrN (HIF_FN_DROPS f)
    ((s.rdN (HIF_FN_DROPS f) + (s.heldBlocked f - 64)) % 2 ^ 32)).alert f

/-- Of the events of a function that cannot be written, the oldest 64 are held and the others are dropped and counted
(R101). -/
def State.trimHeld (s : State) (f : Nat) : State :=
  if s.heldBlocked f ≤ 64 then s else s.dropHeld f

/-- HIF_FN_f_STATUS.HELD shows the events held by R101. -/
def State.showHeld (s : State) (f : Nat) : State :=
  (s.trimHeld f).put (HIF_FN_STATUS.HELD f) (min 64 ((s.trimHeld f).heldBlocked f))

/-- Hold an event for a queue; beyond 64 for a function that cannot write, or beyond INT's space, it is dropped
and counted (R101, INT_DROPS). -/
def State.hold (s : State) (q : Nat) (e : Event) : State :=
  let f := queueFn q
  if !s.queueWritable q && decide (64 ≤ s.heldBlocked f) then (s.inc (HIF_FN_DROPS.COUNT f)).alert f
  else if s.int.held.length < heldMax then
    (({ s with int := { s.int with held := insertHeld ⟨q, s.now, e⟩ s.int.held } }).put INT_STATUS.PENDING
      (s.int.held.length + 1)).showHeld f
  else s.inc INT_DROPS.COUNT

/-- Put an event in its place in the error log: entries that come after it by stamp and source move up by one (R25). `k` is
the number of entries before its place. -/
def placeLog (log : Tbl Event) (e : Event) : Nat → Nat → Tbl Event
  | 0, k => tset log (k % 1024) e
  | _, 0 => tset log 0 e
  | n + 1, k + 1 =>
    match tfind log (k % 1024) with
    | some g => if eventBefore e g then placeLog (tset log ((k + 1) % 1024) g) e n k else tset log ((k + 1) % 1024) e
    | none => tset log ((k + 1) % 1024) e

/-- Enter an event in the error log, which stands in stamp and source order (R25, R432). -/
def State.logEvent (s : State) (e : Event) : State :=
  let k := s.int.logTotal % 1024
  ({ s with int := { s.int with log := placeLog s.int.log e 1023 s.int.logTotal, logTotal := s.int.logTotal + 1 } }).put
    INT_LOG_STATUS.NEWEST k |>.inc INT_LOG_STATUS.TOTAL

/-- Pass one event to its primary queue `q`: rate, mask, log, information filter and mirror
(R429, R430, R431, R432). -/
def State.passEvent (s : State) (q : Nat) (e : Event) : State :=
  let pass := s.ratePasses q e.code
  let masked := bitAt (tget 0 s.int.codeCtrl e.code) 0
  let infoOff := e.cls == 0 && codeRoute e.code == 0 && !s.flag INT_CTRL.INFO_DEVQ
  let s1 := s.countRate q e.code
  let s2 := if pass && e.cls != 0 then s1.logEvent e else s1
  let s3 := if pass && !masked && !infoOff then s2.hold q e else s2
  if s3.flag INT_CTRL.MIRROR && e.cls != 0 && q != devQ && !masked then
    (let mpass := s3.ratePasses devQ e.code
     let s4 := s3.countRate devQ e.code
     if mpass then s4.hold devQ { e with forwarded := true } else s4)
  else s3

/-- Whether a context can take events in its own queue: it exists and is not being reset (R429). -/
def State.ctxTakesEvents (s : State) (c : Nat) : Bool := s.ctxExists c && !s.hif.resetting.contains c

/-- An event delivered to INT with its own stamp: counted, then passed to its primary queue (R428 to R433). -/
def State.deliver (s : State) (e : Event) (writer : Nat) : State :=
  let s1 := { s with int := { s.int with codeCount := tmod 0 s.int.codeCount e.code (fun n => (n + 1) % 2 ^ 32) } }
  if e.code = 0x0F04 then
    (let cs := (List.range 4).map (fun k => 4 * e.arg0 + k)
     foldOver (cs.filter s1.ctxTakesEvents) (fun c t => t.passEvent c { e with ctx := c }) s1).passEvent devQ e
  else
    match codeRoute e.code with
    | 1 => if s1.ctxTakesEvents e.ctx then s1.passEvent e.ctx e else s1.passEvent devQ { e with forwarded := true }
    | 2 =>
      if writer = devQ then s1.passEvent devQ e
      else if s1.ctxTakesEvents writer then s1.passEvent writer e
      else s1.passEvent devQ { e with forwarded := true }
    | _ => s1.passEvent devQ e

/-- The registers that delivering an event can change: INT's counts and the held and dropped counts of the functions
(R101, R428 to R432). -/
def evReg (a : Nat) : Bool :=
  a == INT_STATUS || a == INT_DROPS || a == INT_SUPPRESSED || a == INT_LOG_STATUS ||
    (decide (0x302000 ≤ a) && decide (a < 0x303000))

/-- The stamp of the present instant on an event (R54). -/
def State.mkEvent (s : State) (code ctx a0 a1 a2 : Nat) : Event :=
  { code := code, cls := codeClass code, lfn := s.tim.lfn, phase := s.phase, systime := s.sysNow, ctx := ctx,
    arg0 := a0 % 65536, arg1 := a1 % 2 ^ 32, arg2 := a2 % 2 ^ 32, overflow := false, forwarded := false }

/-- Raise an event that concerns no context. -/
def State.raise (s : State) (code a0 a1 a2 : Nat) : State := s.deliver (s.mkEvent code devQ a0 a1 a2) devQ

/-- Raise an event stamped with the boundary just reached, phase 0. -/
def State.raiseB (s : State) (code a0 a1 a2 : Nat) : State :=
  s.deliver { s.mkEvent code devQ a0 a1 a2 with phase := 0, systime := s.sysAt (s.tim.lfStart16 / 65536) } devQ

/-- Raise an event that concerns no context, stamped with an LFN, a phase and an instant of its own. -/
def State.raiseAt (s : State) (lfn phase instant code a0 a1 a2 : Nat) : State :=
  s.deliver { s.mkEvent code devQ a0 a1 a2 with lfn := lfn, phase := phase, systime := s.sysAt instant } devQ

/-- Raise an event of a context. -/
def State.raiseC (s : State) (code ctx a0 a1 a2 : Nat) : State := s.deliver (s.mkEvent code ctx a0 a1 a2) ctx

/-- Raise an event of a context, stamped with the boundary just reached, phase 0. -/
def State.raiseCB (s : State) (code ctx a0 a1 a2 : Nat) : State :=
  s.deliver { s.mkEvent code ctx a0 a1 a2 with phase := 0, systime := s.sysAt (s.tim.lfStart16 / 65536) } ctx

/-- A register's offset as an event gives it: in its block, in its context page, or for a doorbell from the base of
HIF or of the VF BAR0. -/
def regOffset (a : Nat) : Nat :=
  if doorBase ≤ a then 0xF0000 + (a - doorBase) % 0x40
  else if ctxBase ≤ a then (a - ctxBase) % 0x10000
  else a - blockBase a

/-- Raise a limit event for the writing queue: the register's block and offset (R19, code 0x0F05). -/
def State.limitEvent (s : State) (writer key : Nat) : State :=
  s.deliver (s.mkEvent 0x0F05 writer (blockSource key) (regOffset key) 0) writer

/-- Raise an access event of a kind for the writing queue (code 0x0F06). -/
def State.accessEvent (s : State) (writer key kind : Nat) : State :=
  s.deliver (s.mkEvent 0x0F06 writer (blockSource key) (regOffset key) kind) writer

/-! ### The device's condition -/

/-- The main die is out of reset (R438). -/
def State.live (s : State) : Bool := !s.glb.held

/-- Run a change only on a live device. -/
def State.onLive (s : State) (f : State → State) : State := if s.live then f s else s

/-- Run a change only on a live device under a condition of the spec; otherwise only the clock has moved
(DESIGN CHOICE, log 2). -/
def State.onLiveIf (s : State) (b : Bool) (f : State → State) : State := if s.live && b then f s else s

/-- Run a change of a domain that is derived from lane reference clock 0: the core, the SEQ tiles, the plane store and the memory
controllers (Table GEN-16), which a loss of that clock stops (R321). -/
def State.onCoreIf (s : State) (b : Bool) (f : State → State) : State := s.onLiveIf (!s.lan.coreStopped && b) f

def State.onCore (s : State) (f : State → State) : State := s.onCoreIf true f

/-- Run the effect of a host access to a block that safe idle leaves out of the PF's reach (R74). -/
def State.onReachIf (s : State) (b : Bool) (f : State → State) : State := s.onLiveIf (!s.cfg.safeIdle && b) f

def State.onReach (s : State) (f : State → State) : State := s.onReachIf true f

end Sys2Proof.Machine
end

