-- ==== Sys2Proof/Machine/Fence.lean ====
section
/-! DEFINITION. Fencing a unit: the field repair map and its counts (R413, R418). -/
namespace Sys2Proof.Machine

abbrev fenceLane : Nat := 1
abbrev fenceLaxus : Nat := 2
abbrev fenceTile : Nat := 3
abbrev fenceRow : Nat := 4
abbrev fenceHbm : Nat := 5

def State.isFenced (s : State) (kind unit_ detail : Nat) : Bool :=
  s.cal.field.any (fun e => e.kind == kind && e.unit_ == unit_ && e.detail == detail)

def State.fencedCount (s : State) (kinds : List Nat) : Nat := (s.cal.field.filter (fun e => kinds.contains e.kind)).length

/-- CAL_FENCED and the selected entry as the field map stands. -/
def State.showFenced (s : State) : State :=
  let s1 := (((s.putSat CAL_FENCED.LANES (s.fencedCount [fenceLane, fenceLaxus])).putSat CAL_FENCED.TILES
    (s.fencedCount [fenceTile])).putSat CAL_FENCED.ROWS (s.fencedCount [fenceRow])).putSat CAL_FENCED.HBM_LANES
    (s.fencedCount [fenceHbm])
  match s1.cal.field[s1.get CAL_FENCE_SEL.ENTRY]? with
  | none => ((s1.wrN CAL_FENCE_DATA_0 0).wrN CAL_FENCE_DATA_1 0).wrN CAL_FENCE_DATA_2 0
  | some e =>
    (((s1.put CAL_FENCE_DATA_0.KIND e.kind).put CAL_FENCE_DATA_0.UNIT e.unit_).put CAL_FENCE_DATA_1.DETAIL e.detail).putSat
      CAL_FENCE_DATA_2.LIFE e.life

/-- A unit is fenced: it enters the field map, a store write becomes due and the event is raised (R412, R413, R416). -/
def State.fenceUnit (s : State) (kind unit_ detail : Nat) : State :=
  if s.isFenced kind unit_ detail then s
  else
    let s1 := { s with cal := { s.cal with
      field := s.cal.field ++ [{ kind := kind, unit_ := unit_, detail := detail, life := 0 : FenceEntry }]
      saveDue := true } }
    s1.showFenced.raise 0x0E03 kind unit_ detail

/-- A sign of life of a fenced unit is counted (R418). -/
def State.countLife (s : State) (kind unit_ detail : Nat) : State :=
  { s with cal := { s.cal with field := s.cal.field.map (fun (e : FenceEntry) =>
      if e.kind = kind ∧ e.unit_ = unit_ ∧ e.detail = detail then { e with life := satAdd 65535 e.life 1 } else e) } }.showFenced

end Sys2Proof.Machine
end

