-- ==== Sys2Proof/Machine/Filters.lean ====
section
/-! DEFINITION. The filter taps that every bank holds at reset (R149): the Lanczos kernel with 3 lobes
horizontally, the Keys cubic with parameter -0.5 vertically, computed by the procedure of R149. -/
namespace Sys2Proof.Machine

def lanczosTaps0 : List (List Int) := [
  [0, 0, 1024, 0, 0, 0],
  [3, -13, 1023, 14, -3, 0],
  [6, -25, 1022, 28, -7, 0],
  [9, -37, 1021, 42, -11, 0],
  [12, -48, 1018, 57, -15, 0],
  [14, -59, 1014, 73, -19, 1],
  [17, -69, 1009, 89, -23, 1],
  [19, -78, 1003, 106, -27, 1],
  [21, -87, 995, 124, -31, 2],
  [23, -95, 989, 141, -36, 2],
  [24, -103, 980, 160, -40, 3],
  [26, -110, 971, 178, -45, 4],
  [27, -116, 962, 197, -50, 4],
  [28, -122, 951, 217, -55, 5],
  [29, -128, 940, 237, -60, 6],
  [30, -132, 927, 257, -65, 7]]

def lanczosTaps1 : List (List Int) := [
  [31, -136, 913, 278, -70, 8],
  [31, -140, 902, 298, -75, 8],
  [32, -143, 886, 320, -80, 9],
  [32, -146, 871, 341, -85, 11],
  [32, -148, 855, 363, -90, 12],
  [32, -150, 839, 384, -94, 13],
  [32, -151, 822, 406, -99, 14],
  [32, -151, 804, 428, -104, 15],
  [31, -152, 788, 450, -109, 16],
  [31, -151, 767, 473, -113, 17],
  [30, -151, 749, 495, -117, 18],
  [29, -150, 729, 517, -121, 20],
  [29, -148, 708, 539, -125, 21],
  [28, -146, 688, 561, -129, 22],
  [27, -144, 668, 583, -133, 23],
  [26, -142, 647, 605, -136, 24]]

def lanczosTaps2 : List (List Int) := [
  [25, -139, 626, 626, -139, 25],
  [24, -136, 605, 647, -142, 26],
  [23, -133, 583, 668, -144, 27],
  [22, -129, 561, 688, -146, 28],
  [21, -125, 539, 708, -148, 29],
  [20, -121, 517, 729, -150, 29],
  [18, -117, 495, 749, -151, 30],
  [17, -113, 473, 767, -151, 31],
  [16, -109, 450, 788, -152, 31],
  [15, -104, 428, 804, -151, 32],
  [14, -99, 406, 822, -151, 32],
  [13, -94, 384, 839, -150, 32],
  [12, -90, 363, 855, -148, 32],
  [11, -85, 341, 871, -146, 32],
  [9, -80, 320, 886, -143, 32],
  [8, -75, 298, 902, -140, 31]]

def lanczosTaps3 : List (List Int) := [
  [8, -70, 278, 913, -136, 31],
  [7, -65, 257, 927, -132, 30],
  [6, -60, 237, 940, -128, 29],
  [5, -55, 217, 951, -122, 28],
  [4, -50, 197, 962, -116, 27],
  [4, -45, 178, 971, -110, 26],
  [3, -40, 160, 980, -103, 24],
  [2, -36, 141, 989, -95, 23],
  [2, -31, 124, 995, -87, 21],
  [1, -27, 106, 1003, -78, 19],
  [1, -23, 89, 1009, -69, 17],
  [1, -19, 73, 1014, -59, 14],
  [0, -15, 57, 1018, -48, 12],
  [0, -11, 42, 1021, -37, 9],
  [0, -7, 28, 1022, -25, 6],
  [0, -3, 14, 1023, -13, 3]]

/-- Horizontal taps by phase, from k = -2 (R149). -/
def lanczosTaps : List (List Int) := lanczosTaps0 ++ lanczosTaps1 ++ lanczosTaps2 ++ lanczosTaps3

def keysTaps0 : List (List Int) := [
  [0, 1024, 0, 0],
  [-8, 1024, 8, 0],
  [-15, 1021, 18, 0],
  [-22, 1019, 28, -1],
  [-28, 1014, 40, -2],
  [-34, 1009, 52, -3],
  [-39, 1002, 65, -4],
  [-44, 995, 78, -5],
  [-49, 987, 93, -7],
  [-53, 978, 108, -9],
  [-57, 968, 124, -11],
  [-60, 956, 141, -13],
  [-63, 944, 158, -15],
  [-66, 931, 176, -17],
  [-68, 917, 194, -19],
  [-70, 903, 213, -22]]

def keysTaps1 : List (List Int) := [
  [-72, 888, 232, -24],
  [-73, 872, 252, -27],
  [-74, 855, 272, -29],
  [-75, 839, 292, -32],
  [-76, 821, 313, -34],
  [-76, 803, 334, -37],
  [-76, 784, 356, -40],
  [-76, 765, 377, -42],
  [-75, 745, 399, -45],
  [-74, 725, 421, -48],
  [-73, 704, 443, -50],
  [-72, 684, 465, -53],
  [-71, 663, 487, -55],
  [-69, 640, 510, -57],
  [-68, 620, 532, -60],
  [-66, 598, 554, -62]]

def keysTaps2 : List (List Int) := [
  [-64, 576, 576, -64],
  [-62, 554, 598, -66],
  [-60, 532, 620, -68],
  [-57, 510, 640, -69],
  [-55, 487, 663, -71],
  [-53, 465, 684, -72],
  [-50, 443, 704, -73],
  [-48, 421, 725, -74],
  [-45, 399, 745, -75],
  [-42, 377, 765, -76],
  [-40, 356, 784, -76],
  [-37, 334, 803, -76],
  [-34, 313, 821, -76],
  [-32, 292, 839, -75],
  [-29, 272, 855, -74],
  [-27, 252, 872, -73]]

def keysTaps3 : List (List Int) := [
  [-24, 232, 888, -72],
  [-22, 213, 903, -70],
  [-19, 194, 917, -68],
  [-17, 176, 931, -66],
  [-15, 158, 944, -63],
  [-13, 141, 956, -60],
  [-11, 124, 968, -57],
  [-9, 108, 978, -53],
  [-7, 93, 987, -49],
  [-5, 78, 995, -44],
  [-4, 65, 1002, -39],
  [-3, 52, 1009, -34],
  [-2, 40, 1014, -28],
  [-1, 28, 1019, -22],
  [0, 18, 1021, -15],
  [0, 8, 1024, -8]]

/-- Vertical taps by phase, from k = -1 (R149). -/
def keysTaps : List (List Int) := keysTaps0 ++ keysTaps1 ++ keysTaps2 ++ keysTaps3

end Sys2Proof.Machine
end

