-- ==== Sys2Proof/Machine/LxsLink.lean ====
section
/-! DEFINITION. Laxus messages: ports and lanes, message words, queues, routes, export bindings, and what other blocks
send over Laxus (R332, R336, R351 to R354, Tables LXS-2, LXS-3). -/
namespace Sys2Proof.Machine

abbrev lxDown : Nat := 0
abbrev lxTrain : Nat := 1
abbrev lxHello : Nat := 2
abbrev lxUp : Nat := 3
abbrev lxBlocked : Nat := 4
abbrev lxRetrain : Nat := 5
abbrev lxFault : Nat := 6

/-- The device identity. -/
def State.uid (s : State) : Nat := s.rdN GLB_UID_LO + s.get GLB_UID_HI.UID_HIGH * 2 ^ 32

def State.lxsCfg (s : State) : List Byte := s.sec secLxsCfg 0

/-- A device whose image carries LXS_CFG is a member. -/
def State.isMember (s : State) : Bool := !s.lxsCfg.isEmpty

def State.lxPort (s : State) (j : Nat) : LxsPort := tget LxsPort.init s.lxs.ports j
def State.setLxPort (s : State) (j : Nat) (p : LxsPort) : State := { s with lxs := { s.lxs with ports := tset s.lxs.ports j p } }
def State.lxLane (s : State) (l : Nat) : LxsLane := tget LxsLane.init s.lxs.lanes l
def State.setLxLane (s : State) (l : Nat) (x : LxsLane) : State := { s with lxs := { s.lxs with lanes := tset s.lxs.lanes l x } }
def State.lxState (s : State) (j : Nat) : Nat := s.get (LXS_PORT_STATE.STATE j)

def State.isUp (s : State) (j : Nat) : Bool := s.lxState j == lxUp
def State.upPorts (s : State) : List Nat := idxWhere 4 s.isUp
def State.childPorts (s : State) : List Nat := idxWhere 4 (fun j => s.isUp j && s.flag (LXS_PORT_STATE.CHILD j))
def State.lxParent (s : State) : Option Nat :=
  if s.get LXS_STATUS.PARENT_PORT < 4 then some (s.get LXS_STATUS.PARENT_PORT) else none
/-- The device holds the root role. -/
def State.isRoot (s : State) : Bool := s.flag LXS_STATUS.ROOT

/-- The lane that carries a message: lane 0 of the port, but read messages use the other lane of a link of width 2
(R336 lets them use either; DESIGN CHOICE, log 50). -/
def State.msgLane (s : State) (j cls : Nat) : Nat :=
  let first := (s.lxPort j).first
  136 + 2 * j + (if 4 ≤ cls ∧ s.flag (LXS_PORT_STATE.WIDTH j) then 1 - first else first)

/-- A message waits for its lane (R336): the header's own fields, and the extra words. -/
def State.queueMsg (s : State) (j cls ty fields : Nat) (extra : List Nat) : State :=
  let l := s.msgLane j cls
  let x := s.lxLane l
  s.setLxLane l { x with
    waiting := x.waiting ++ [⟨cls, ty, (ty + extra.length * 2 ^ 8 + fields * 2 ^ 16) :: extra⟩] }

/-- The same message on several ports. -/
def State.floodMsg (s : State) (js : List Nat) (cls ty fields : Nat) (extra : List Nat) : State :=
  foldOver js (fun j t => t.queueMsg j cls ty fields extra) s

/-! ### Routes (R353) -/

/-- The identity that holds a station. -/
def State.stationHolder (s : State) (d : Nat) : Option Nat := (s.lxs.stations.find? (fun e => e.2 == d)).map (·.1)

/-- This device's own device number; a spare has none (R345). -/
def State.ownDevice (s : State) : Option Nat :=
  if s.flag LXS_STATION.VALID then some (s.get LXS_STATION.STATION) else none

/-- The next hop to a device number: the child whose subtree holds it, or else the parent (R353). -/
def State.nextHop (s : State) (d : Nat) : Option Nat :=
  match (s.stationHolder d).bind (fun id => tfind s.lxs.reports id) with
  | some r => if s.childPorts.contains r.port then some r.port else s.lxParent
  | none => s.lxParent

/-! ### Drop notices (R351) -/

/-- DROP word 1 (Table LXS-3). -/
def dropWord (tag group cause origin seq : Nat) : Nat :=
  tag % 2 ^ 16 + group % 64 * 2 ^ 16 + cause % 8 * 2 ^ 22 + origin % 4096 * 2 ^ 25 + seq % 2 ^ 16 * 2 ^ 37

/-- A DROP that has been seen, within the millisecond that outlasts its flood (R351). -/
def State.dropSeen (s : State) (key : Nat) : Bool := s.lxs.drops.any (fun e => e.1 == key && decide (s.now < e.2 + msSteps))

def State.noteDrop (s : State) (key : Nat) : State :=
  { s with lxs := { s.lxs with drops := s.lxs.drops.filter (fun e => decide (s.now < e.2 + msSteps)) ++ [(key, s.now)] } }

/-- This device sends a drop notice up to the root and to every other UP neighbour. -/
def State.sendDrop (s : State) (tag group cause : Nat) : State :=
  if !s.isMember then s
  else
    let origin := s.get LXS_STATION.STATION
    let seq := s.lxs.dropSeq
    let s1 := { s with lxs := { s.lxs with dropSeq := (seq + 1) % 2 ^ 16 } }.noteDrop (origin * 2 ^ 16 + seq)
    s1.floodMsg s1.upPorts 2 0x0C 0 [dropWord tag group cause origin seq]

/-! ### Bindings and the export table (R128, R352) -/

/-- The binding that owns a window page. -/
def State.bindingAt (s : State) (page : Nat) : Option (Nat × Binding) :=
  s.lxs.bindings.find? (fun e => decide (e.2.page ≤ page) && decide (page < e.2.page + e.2.count))

def State.showBindings (s : State) : State := s.put LXS_EXPORT_STATUS.USED s.lxs.bindings.length

/-- A binding goes, and the entries it filled. -/
def State.removeBinding (s : State) (k : Nat) : State :=
  match tfind s.lxs.bindings k with
  | none => s
  | some b =>
    ({ s with
      lxs := { s.lxs with bindings := tdel s.lxs.bindings k }
      mem := { s.mem with exports := s.mem.exports.filter (fun e => !(decide (b.page ≤ e.1) && decide (e.1 < b.page + b.count))) } }).showBindings

/-- Bindings of a grant that ends are removed, each with its event (R352). -/
def State.dropBindings (s : State) (handle : Nat) : State :=
  foldOver ((s.lxs.bindings.filter (fun e => e.2.handle == handle)).map (·.1))
    (fun k t => (t.removeBinding k).raise 0x0806 k 0 0) s

/-- The DPA that a read of the window reaches for a reader, where R128 and R352 allow it. -/
def State.exportDpa (s : State) (off src ctx : Nat) : Option Nat :=
  match tfind s.mem.exports (off / 65536), s.bindingAt (off / 65536) with
  | some e, some b =>
    if (tfind s.hif.grants e.2.1).isSome && tfind s.hif.pages e.2.2 == some (e.1 + 1) &&
        (b.2.any || (b.2.device == src && b.2.ctx == ctx)) then
      some (e.2.2 * 65536 + off % 65536)
    else none
  | _, _ => none

/-! ### Remote reads (R353) -/

/-- The size code of a read; requests of other lengths are not made. -/
def readSizeCode (len : Nat) : Nat := if len = 256 then 2 else if len = 128 then 1 else 0

/-- A tag (R110): the engine in [16:11], the index in [10:1] and the generation bit in [0]. -/
def tagOf (e k : Nat) (gen : Bool) : Nat := e * 2048 + k * 2 + boolNat gen

/-- READ_REQ toward a device (R353); SLACK is the time left to the deadline in 100 ns units, all of it without one. -/
def State.sendRead (s : State) (dev e k : Nat) (gen : Bool) (ctx off len va : Nat) (deadline : Option Nat) : State :=
  match s.ownDevice, s.nextHop dev with
  | some own, some j =>
    let seq := s.lxs.readSeq
    let tag := tagOf e k gen
    let s1 := { s with lxs := { s.lxs with
      readSeq := (seq + 1) % 256
      reads := tset s.lxs.reads tag ⟨e, k, seq, ctx, va, s.now⟩ } }
    s1.queueMsg j 5 0x0D 0
      [dev % 4096 + own * 2 ^ 12 + ctx % 1024 * 2 ^ 24 + tag * 2 ^ 34 + readSizeCode len * 2 ^ 51 + seq * 2 ^ 53,
       off % 2 ^ 36 + ((deadline.map (fun d => min 65535 ((d - s.now) / 400))).getD 65535) * 2 ^ 36]
  | _, _ => s

/-- READ_RESP toward a device: STATUS 0 data, 1 refused, 2 uncorrectable. -/
def State.sendResp (s : State) (dest tag seq status : Nat) (words : List Nat) : State :=
  match s.nextHop dest with
  | none => s
  | some j =>
    let p := s.lxPort j
    let recent := p.sent.filter (fun e => decide (s.now < e.1 + msSteps))
    let sent := if words.isEmpty then recent else recent ++ [(s.now, 8 * words.length)]
    ((s.setLxPort j { p with sent := sent }).putSat (LXS_PORT_READ.SERVED j) (listSum (sent.map (·.2)) / 10000)).queueMsg
      j 4 0x0E 0 ((dest % 4096 + tag % 2 ^ 17 * 2 ^ 12 + seq % 256 * 2 ^ 29 + status * 2 ^ 37) :: words)

end Sys2Proof.Machine
end

