-- ==== Sys2Proof/Machine/MemMap.lean ====
section
/-! DEFINITION. The memory map: interleave, carve-outs, DRAM bytes and the MEM_MAP section
(R116, R117, Tables MEM-3 and MEM-4; check 8 of Table CFG-5). -/
namespace Sys2Proof.Machine

/-- 64 KiB pages of one pseudo-channel: 18,432 in H72 (HBM_POP 1) and 12,288 in H48 (R116). -/
def pcPages (pop : Nat) : Nat := if pop = 1 then 18432 else 12288

def State.hbmPop (s : State) : Nat := s.get GLB_DEVICE_ID.HBM_POP

/-- One channel group of a MEM_MAP section: first pseudo-channel, log2 of its count, inline ECC. -/
structure ChanGroup where
  firstPc : Nat
  n : Nat
  ecc : Bool
  deriving DecidableEq, Repr

def mmGroups (b : List Byte) : List ChanGroup :=
  (List.range (leAt b 1 1)).map fun g =>
    { firstPc := leAt b (8 + 4 * g) 1, n := leAt b (9 + 4 * g) 1, ecc := bitAt (leAt b (10 + 4 * g) 1) 0 }

/-- Data pages of one pseudo-channel of a group: D of R116. -/
def ChanGroup.dataPages (c : ChanGroup) (pop : Nat) : Nat :=
  if c.ecc then 31 * pcPages pop / 32 else pcPages pop

/-- Pages of a group's range. -/
def ChanGroup.pages (c : ChanGroup) (pop : Nat) : Nat := 2 ^ c.n * c.dataPages pop

/-- The first DPA page of each group, in ascending group order. -/
def groupBases (pop : Nat) : Nat → List ChanGroup → List Nat
  | _, [] => []
  | base, c :: r => base :: groupBases pop (base + c.pages pop) r

/-- Pages of the whole DPA space. -/
def mmPages (pop : Nat) (b : List Byte) : Nat := ((mmGroups b).map (fun c => c.pages pop)).foldl (· + ·) 0

/-- A carve-out of a MEM_MAP section: group, kind, first page in the group, pages. -/
structure Carve where
  group : Nat
  kind : Nat
  base : Nat
  pages : Nat
  deriving DecidableEq, Repr

def mmCarves (b : List Byte) : List Carve :=
  let o := 8 + 4 * leAt b 1 1
  (List.range (leAt b 2 1)).map fun k =>
    { group := leAt b (o + 12 * k) 1, kind := leAt b (o + 12 * k + 1) 1,
      base := leAt b (o + 12 * k + 4) 4, pages := leAt b (o + 12 * k + 8) 4 }

/-- The DPA page at which a carve-out starts. -/
def carveStart (pop : Nat) (b : List Byte) (c : Carve) : Nat :=
  nthD (groupBases pop 0 (mmGroups b)) c.group 0 + c.base

def State.memMap (s : State) : List Byte := s.sec secMemMap 0

/-- Whether a DPA page exists and lies outside every carve-out: only such a page is ever given to a context
(R83, R117). -/
def State.pageUsable (s : State) (p : Nat) : Bool :=
  let b := s.memMap
  decide (p < mmPages s.hbmPop b) &&
    (mmCarves b).all (fun c =>
      let st := carveStart s.hbmPop b c
      !(decide (st ≤ p) && decide (p < st + c.pages)))

/-- The group that a DPA falls in, with the byte offset in the group's range. -/
def locateGroup (pop : Nat) (page off : Nat) : Nat → List ChanGroup → Option (ChanGroup × Nat)
  | _, [] => none
  | base, c :: r =>
    if base ≤ page ∧ page < base + c.pages pop then some (c, (page - base) * 65536 + off)
    else locateGroup pop page off (base + c.pages pop) r

/-- The interleave procedure of R116: pseudo-channel and byte offset in its data region of an address `a` within
a group of 2^n pseudo-channels with grain 2^m. -/
def interleave (firstPc n m a : Nat) : Nat × Nat :=
  let nn := 2 ^ n
  let g := a / 2 ^ m
  let j := g % nn
  let l := g / nn
  let pcIn := (j ^^^ (l % nn)) ^^^ (l / nn % nn)
  (firstPc + pcIn, l * 2 ^ m + a % 2 ^ m)

/-- Pseudo-channel and offset of a device physical address (R116). -/
def State.dpaToPc (s : State) (dpa : Nat) : Option (Nat × Nat) :=
  match locateGroup s.hbmPop (dpa / 65536) (dpa % 65536) 0 (mmGroups s.memMap) with
  | none => none
  | some (c, a) => some (interleave c.firstPc c.n (leAt s.memMap 0 1) a)

/-- Stack, channel and controller of a pseudo-channel (R116). -/
def pcStack (p : Nat) : Nat := p / 32
def pcChannel (p : Nat) : Nat := p % 32 / 2
def pcController (p : Nat) : Nat := p / 8

/-- Whether a DPA lies in a group with inline ECC (R126). -/
def State.dpaEcc (s : State) (dpa : Nat) : Bool :=
  match locateGroup s.hbmPop (dpa / 65536) (dpa % 65536) 0 (mmGroups s.memMap) with
  | none => false
  | some (c, _) => c.ecc

/-! ### DRAM bytes -/

/-- What a byte that is not listed reads as (log 10). -/
abbrev unlistedByte : Byte := 0

def dramGet (m : List Host.Cell) (a : Nat) : Byte := tget unlistedByte m a

/-- Write one byte; the value an unlisted byte reads as leaves no entry. -/
def dramSet (m : List Host.Cell) (a : Nat) (v : Byte) : List Host.Cell :=
  if v = unlistedByte then tdel m a else tset m a v

def dramRead (m : List Host.Cell) (a : Nat) : Nat → List Byte
  | 0 => []
  | n + 1 => dramGet m a :: dramRead m (a + 1) n

def dramWrite (m : List Host.Cell) (a : Nat) : List Byte → List Host.Cell
  | [] => m
  | b :: r => dramWrite (dramSet m a b) (a + 1) r

/-- Every byte of a range reads 0 afterwards: the scrub of a page (R84). -/
def dramZero (m : List Host.Cell) (a n : Nat) : List Host.Cell :=
  m.filter (fun e => !(decide (a ≤ e.1) && decide (e.1 < a + n)))

/-- The canonical form: keys strictly rising, and no entry that equals what an unlisted byte reads as. -/
def dramWf (m : List Host.Cell) : Bool := tsorted m && m.all (fun e => e.2 != unlistedByte)

/-- Blocks marked uncorrectable after a write of `n` bytes at `a`: a mark goes once every byte of the block is written
(R127). -/
def unmark (t : Tbl Nat) (a n : Nat) : Tbl Nat :=
  (t.map (fun e => (e.1, (List.range 64).foldl (fun m i =>
    if a ≤ 64 * e.1 + i ∧ 64 * e.1 + i < a + n then setBit m i true else m) e.2))).filter (fun e => e.2 != 2 ^ 64 - 1)

def State.memWrite (s : State) (a : Nat) (bs : List Byte) : State :=
  { s with mem := { s.mem with
    dram := dramWrite s.mem.dram a bs
    marked := unmark s.mem.marked a bs.length } }

/-! ### The MEM_MAP section's checks -/

def bytesZero (b : List Byte) (off n : Nat) : Bool := ((b.drop off).take n).all (fun x => x == 0)

/-- Whether the groups' pseudo-channels partition the 64 (check 8 of Table CFG-5, R116). -/
def groupsPartition (l : List ChanGroup) : Bool :=
  l.all (fun c => decide (c.n ≤ 6) && decide (c.firstPc % 2 ^ c.n = 0) && decide (c.firstPc + 2 ^ c.n ≤ 64)) &&
    (List.range 64).all (fun p =>
      (l.filter (fun c => decide (c.firstPc ≤ p) && decide (p < c.firstPc + 2 ^ c.n))).length == 1)

/-- Check 8 of Table CFG-5 for a fitted population: grain, partition, and carve-outs within the population. -/
def memMapCheck8 (pop hbmMin : Nat) (b : List Byte) : Bool :=
  decide (8 ≤ leAt b 0 1) && decide (leAt b 0 1 ≤ 16) && groupsPartition (mmGroups b) &&
    (mmCarves b).all (fun c =>
      match (mmGroups b)[c.group]? with
      | none => false
      | some g => decide (1 ≤ c.pages) && decide (c.base + c.pages ≤ g.pages pop)) &&
    (hbmMin == 0 || pop == 1)

/-- Whether two carve-outs overlap. -/
def carvesOverlap (a b : Carve) : Bool :=
  a.group == b.group && decide (a.base < b.base + b.pages) && decide (b.base < a.base + a.pages)

def anyPair {α : Type} (p : α → α → Bool) : List α → Bool
  | [] => false
  | x :: r => r.any (p x) || anyPair p r

/-- The section's length matches GROUPS and CARVES. -/
def memMapLength (b : List Byte) : Bool := decide (3 ≤ b.length) && b.length == 8 + 4 * leAt b 1 1 + 12 * leAt b 2 1

/-- The DETAIL code of Table MEM-4 for a MEM_MAP section, in the table's order. -/
def memMapDetail (hasLxs : Bool) (b : List Byte) : Option Nat :=
  let g := leAt b 1 1
  let k := leAt b 2 1
  let cs := mmCarves b
  let exp := cs.filter (fun c => c.kind == 2)
  if !memMapLength b || decide (64 < g) || decide (8 < k) then some 0x0701
  else if !bytesZero b 3 5 || (List.range g).any (fun i => decide (leAt b (10 + 4 * i) 1 > 1) || leAt b (11 + 4 * i) 1 != 0)
      || (List.range k).any (fun i => leAt b (8 + 4 * g + 12 * i + 2) 2 != 0) then some 0x0702
  else if cs.any (fun c => !(c.kind == 1 || c.kind == 2 || c.kind == 3)) then some 0x0703
  else if (cs.filter (fun c => c.kind == 1)).length ≠ 1 then some 0x0704
  else if (hasLxs && exp.length != 1) || (!hasLxs && exp.length != 0) then some 0x0705
  else if anyPair carvesOverlap cs then some 0x0706
  else if exp.any (fun c => decide (c.pages < 128)) then some 0x0707
  else none

/-- The MEM_MAP section takes effect: the RWL fields of Table MEM-9. -/
def State.applyMemMap (s : State) : State :=
  let b := s.memMap
  let s1 := (s.put MEM_MAP_CFG.GRAIN_LOG2 (leAt b 0 1 - 8)).put MEM_MAP_CFG.GROUPS (leAt b 1 1)
  foldOver (List.range (leAt b 1 1)) (fun g t =>
    (((t.put (MEM_GROUP.FIRST_PC g) (leAt b (8 + 4 * g) 1)).put (MEM_GROUP.LOG2_N g) (leAt b (9 + 4 * g) 1)).put
      (MEM_GROUP.ECC g) (leAt b (10 + 4 * g) 1)).put (MEM_GROUP.VALID g) 1) s1

end Sys2Proof.Machine
end

