-- ==== Sys2Proof/Machine/Hif.lean ====
section
/-! DEFINITION. Host functions and contexts: mappings, the command ring, pages and grants, layers, limits, event
queues and vectors (spec/04, R80 to R92, R100 to R103, R471, R472). -/
namespace Sys2Proof.Machine

/-! ### Mappings and faults (R83 to R87) -/

abbrev mapKey (c vpage : Nat) : Nat := c * 2 ^ 28 + vpage

def State.mapping (s : State) (c va : Nat) : Option Mapping := tfind s.hif.maps (mapKey c (va / 65536))

def State.setMap (s : State) (c vpage : Nat) (m : Mapping) : State :=
  { s with hif := { s.hif with maps := tset s.hif.maps (mapKey c vpage) m } }

def State.delMap (s : State) (c vpage : Nat) : State :=
  { s with hif := { s.hif with maps := tdel s.hif.maps (mapKey c vpage) } }

/-- A translation fault of a context: the page and the kind are recorded and counted, and an event is raised
(R85, Table HIF-16). Kinds: 1 unmapped, 2 permission, 3 host unreachable, 4 remote refused. -/
def State.transFault (s : State) (c kind va : Nat) : State :=
  ((((s.put (HIF_CTX_FAULT_LO.KIND c) kind).put (HIF_CTX_FAULT_LO.VA_LOW c) (va / 65536)).put
    (HIF_CTX_FAULT_HI.VA_HIGH c) (va / 2 ^ 32)).incSat (HIF_CTX_STATUS.FAULTS c) 1).raiseC 0x0F03 c kind
      (va / 65536 % 2 ^ 28) 0

/-- The mapping an access may use, or the kind of fault (R85). -/
def State.translate (s : State) (c va : Nat) (wr : Bool) : Except Nat Mapping :=
  match s.mapping c va with
  | none => .error 1
  | some m => if (if wr then m.write else m.read) then .ok m else .error 2

/-- The device physical address of a LOCAL or GRANT page's byte. -/
def Mapping.dpa (m : Mapping) (va : Nat) : Nat := m.target * 65536 + va % 65536

/-! ### Pages (R83, R84) -/

def State.pageOwner (s : State) (p : Nat) : Option Nat := tfind s.hif.pages p

/-- Scrubbed pages free for ALLOC, lowest first. -/
def State.freePages (s : State) : List Nat := (s.hif.pages.filter (fun e => e.2 == 0)).map (·.1)

def State.setPage (s : State) (p v : Nat) : State := { s with hif := { s.hif with pages := tset s.hif.pages p v } }

/-- A page leaves its owner and waits to be scrubbed (R84). -/
def State.queueScrub (s : State) (p : Nat) : State :=
  ({ s with hif := { s.hif with pages := tdel s.hif.pages p } }).put HIF_STATUS.SCRUB_BUSY 1

/-- Pages that a context owns. -/
def State.ownedPages (s : State) (c : Nat) : List Nat := (s.hif.pages.filter (fun e => e.2 == c + 1)).map (·.1)

def State.showPages (s : State) (c : Nat) : State :=
  (s.put (HIF_CTX_PAGES.OWNED c) (s.ownedPages c).length).put HIF_POOL_FREE.PAGES s.freePages.length

/-- Pages that still wait to be scrubbed: usable, and neither free nor owned. -/
def State.unscrubbed (s : State) (p : Nat) : Bool := s.pageUsable p && (s.pageOwner p).isNone

/-- PAGE_SCRUB_DONE (R84): a page has been overwritten with zeros and becomes free. -/
def doPageScrubDone (dt page : Nat) (s : State) : State :=
  let t := s.tick dt
  t.onLiveIf (t.unscrubbed page && t.flag MEM_STATUS.TRAINED) fun u =>
    let v := { u with mem := { u.mem with
      dram := dramZero u.mem.dram (page * 65536) 65536
      marked := unmark u.mem.marked (page * 65536) 65536 } }
    let w := v.setPage page 0
    let w := w.put HIF_POOL_FREE.PAGES w.freePages.length
    w.putB HIF_STATUS.SCRUB_BUSY (decide (w.hif.pages.length <
      (mmPages w.hbmPop w.memMap - ((mmCarves w.memMap).map (·.pages)).foldl (· + ·) 0)))

/-! ### Grants (R83, R89, R128) -/

def State.grantOf (s : State) (h : Nat) : Option Grant := tfind s.hif.grants h

/-- A grant ends: its grantee's mappings, the export entries that name it and its bindings go (R89, R128, R352). -/
def State.endGrant (s : State) (h : Nat) : State :=
  ({ s with
    hif := { s.hif with
      grants := tdel s.hif.grants h
      maps := s.hif.maps.filter (fun e => !(e.2.kind == MapKind.grant && e.2.handle == h)) }
    mem := { s.mem with exports := s.mem.exports.filter (fun e => e.2.2.1 != h) } }).dropBindings h

/-- Grants that name a page. -/
def State.grantsOn (s : State) (p : Nat) : List Nat := (s.hif.grants.filter (fun e => e.2.pages.contains p)).map (·.1)

/-- An owned page is freed: the owner's mapping, every grant on it and its exports go, and it passes to scrubbing
(R84, R89). -/
def State.freePage (s : State) (c vpage : Nat) : State :=
  match tfind s.hif.maps (mapKey c vpage) with
  | none => s
  | some m =>
    let s1 := foldOver (s.grantsOn m.target) (fun h t => t.endGrant h) s
    let s2 := { s1 with mem := { s1.mem with exports := s1.mem.exports.filter (fun e => e.2.2.2 != m.target) } }
    (s2.delMap c vpage).queueScrub m.target

/-! ### The endpoint's identity (R80, Table HIF-1) -/

abbrev pcieVendor : Nat := 0x1F3D
def pcieDevice (f : Nat) : Nat := if f = 0 then 0x4128 else 0x4129
abbrev pcieClass : Nat := 0x038000
/-- Most non-posted requests outstanding across the device. -/
abbrev tagLimit : Nat := 768
/-- The completion timeout at its default, 50 ms (log 121). -/
abbrev completionSteps : Nat := 50 * msSteps

/-- TotalVFs: the most VFs that the host may enable (Table HIF-18). -/
def State.totalVfs (s : State) : Nat := s.secLE secCtxLimits 0 0 1

/-! ### Tags of host requests (R80, R86, R103) -/

/-- Tags of a function outstanding in its present generation, or in the older one. -/
def State.tagCount (s : State) (f : Nat) (old : Bool) : Nat := (s.hif.tags.filter (fun g => g.fn == f && g.old == old)).length

/-- The generation of a function toggles: tags now outstanding become the older generation (R103). -/
def State.toggleGen (s : State) (f : Nat) : State :=
  ({ s with hif := { s.hif with
    tags := s.hif.tags.map (fun (g : HostTag) => if g.fn = f then { g with old := true } else g) } }).put (HIF_FN_STATUS.GEN f)
      (1 - s.get (HIF_FN_STATUS.GEN f))

/-- Whether a function may issue a new host request: master enable is set, the link is up, and no tag of the older
generation is outstanding (R103, R104). -/
def State.mayIssueHost (s : State) (f : Nat) : Bool := s.fnCanHost f && s.tagCount f true == 0

/-- Whether a non-posted request of a function may take a tag (R80). -/
def State.mayTag (s : State) (f : Nat) : Bool := s.mayIssueHost f && decide (s.hif.tags.length < tagLimit)

def State.addTag (s : State) (f : Nat) (user : TagUser) : State :=
  { s with hif := { s.hif with tags := s.hif.tags ++ [{ fn := f, old := false, time := s.now, user := user }] } }

/-- The first tag that a test picks is free again. -/
def State.freeTag (s : State) (p : HostTag → Bool) : State :=
  { s with hif := { s.hif with tags := s.hif.tags.eraseP p } }

/-- The PASID that a HOST access of a context carries (R86). -/
def State.pasid (s : State) (c : Nat) : Option Nat :=
  if s.flag (HIF_FN_PASID.EN (c / 4)) then some (s.get (HIF_FN_PASID.BASE (c / 4)) * 4 + c % 4) else none

/-- Accesses of engines to HOST pages wait until their function may issue them; a reset stops its contexts' (R103, R105). A
read takes a tag and goes out; the bytes of a write travel with the write itself. -/
def State.issueFetches (s : State) : State :=
  foldOver (s.mem.reqs.filter (fun r => r.hostFn.isSome && !r.issued)) (fun r (t : State) =>
    let f := r.ctx / 4
    if t.hif.resetting.contains r.ctx || !(if r.write then t.mayIssueHost f else t.mayTag f) then t
    else
      let u := { t with mem := { t.mem with reqs := t.mem.reqs.map (fun (q : MemReq) =>
        if q.engine = r.engine ∧ q.index = r.index then { q with issued := true } else q) } }
      if r.write then u else (u.addTag f (.fetch r.engine r.index)).send (.hostRead f (u.pasid r.ctx) r.addr r.len)) s

/-! ### The MSI-X table (R80, R102, Tables HIF-2, HIF-7) -/

/-- A word of a function's MSI-X table: 0, but vector control 1, masked, where nothing was written (log 121). -/
def State.msixWord (s : State) (f k : Nat) : Nat := tget (if k % 4 = 3 then 1 else 0) s.hif.msix (f * 32 + k)

def State.vecMasked (s : State) (f v : Nat) : Bool := bitAt (s.msixWord f (4 * v + 3)) 0

/-- Pending messages of a function that may go out now go out. -/
def State.flushVecs (s : State) (f : Nat) : State :=
  foldOver (s.int.pendVec.filter (fun k => k / 8 == f)) (fun k (t : State) =>
    if t.vecMasked f (k % 8) || !t.mayIssueHost f then t
    else ({ t with int := { t.int with pendVec := t.int.pendVec.erase k } }).send (.msix f (k % 8))) s

/-- Every function's pending messages. -/
def State.flushAll (s : State) : State := foldOver (s.int.pendVec.map (fun k => k / 8)).eraseDups (fun f t => t.flushVecs f) s

/-- A vector of a function is signalled: its message goes out, or it stays pending while the vector is masked or the function
may issue nothing. -/
def State.sendVec (s : State) (f v : Nat) : State :=
  if s.vecMasked f v || !s.mayIssueHost f then
    (if s.int.pendVec.contains (f * 8 + v) then s
     else { s with int := { s.int with pendVec := s.int.pendVec ++ [f * 8 + v] } })
  else s.send (.msix f v)

/-- A 32-bit write of BAR4: the table's words; the pending bits are read-only. -/
def State.writeMsix (s : State) (f off v : Nat) : State :=
  if off < 128 then
    ({ s with hif := { s.hif with msix := tset s.hif.msix (f * 32 + off / 4) v } }).flushVecs f
  else s

/-- A 32-bit read of BAR4: the table at 0x0000, the pending bits at 0x8000. -/
def State.readMsix (s : State) (f off : Nat) : Nat :=
  if off < 128 then s.msixWord f (off / 4)
  else if off = 0x8000 then maskOf 8 (fun v => s.int.pendVec.contains (f * 8 + v))
  else 0

/-! ### The command ring (R88, R89, Tables HIF-4 to HIF-6) -/

abbrev stOk : Nat := 1
abbrev stBadOpcode : Nat := 2
abbrev stBadArgs : Nat := 3
abbrev stNoMemory : Nat := 4
abbrev stOverlap : Nat := 5
abbrev stNotMapped : Nat := 6
abbrev stBadGrant : Nat := 7
abbrev stNotReady : Nat := 8
abbrev stHostDisabled : Nat := 9

/-- log2 of a ring's entry count (Table HIF-17). -/
def State.ringSize (s : State) (c : Nat) : Nat := clampN 4 12 (s.get (HIF_CTX_CMDQ_CFG.SIZE c))

/-- Whether a ring has an entry to act on: the context exists and is not in reset, the ring is enabled, and software has rung
beyond the head. -/
def State.ringOpen (s : State) (c : Nat) : Bool :=
  s.ctxExists c && !s.hif.resetting.contains c && s.flag (HIF_CTX_CMDQ_CFG.EN c) &&
    (s.get (HIF_CTX_CMDQ_HEAD.HEAD c) != tget 0 s.hif.cmdTail c % 2 ^ s.ringSize c)

/-- Whether the device may read the next entry of a ring now (R103). -/
def State.ringReady (s : State) (c : Nat) : Bool := s.ringOpen c && s.mayTag (c / 4)

/-- The read of an entry of a ring is outstanding. -/
def State.ringReading (s : State) (c : Nat) : Bool := s.hif.tags.any (fun g => g.user == TagUser.ring c && !g.old)

/-- The bus address of a ring entry. -/
def State.ringAddr (s : State) (c idx : Nat) : Nat :=
  s.rdN (HIF_CTX_CMDQ_BASE_LO c) / 64 * 64 + s.rdN (HIF_CTX_CMDQ_BASE_HI c) * 2 ^ 32 + 64 * idx

/-- The ring that is served next: round-robin by context number from the one served last (R88). -/
def State.nextRing (s : State) : Option Nat :=
  let ks := (tkeys s.hif.cmdTail).filter s.ringReady
  ((ks.filter (fun c => decide (s.hif.ringTurn < c))) ++ ks).head?

/-- The read of the next entry goes out, one entry per turn (R88), once the entry read before has been acted on. -/
def State.issueRing (s : State) : State :=
  if s.hif.tags.any (fun g => !g.old && (match g.user with
    | .ring _ => true
    | .fetch _ _ => false)) then s
  else match s.nextRing with
    | none => s
    | some c =>
      (({ s with hif := { s.hif with ringTurn := c } }).addTag (c / 4) (.ring c)).send
        (.hostRead (c / 4) none (s.ringAddr c (s.get (HIF_CTX_CMDQ_HEAD.HEAD c))) 64)

/-- Host requests that wait go out as far as they may: engines' accesses, ring reads and messages. -/
def State.pumpHost (s : State) : State := s.issueFetches.issueRing.flushAll

/-- An entry takes effect or fails: STATUS and RESULT are written back, and a completion event is posted where
FLAGS asks for one (Table HIF-4). -/
def State.ringDone (s : State) (c idx : Nat) (e : RingEntry) (status result : Nat) : State :=
  let s1 := s.send (.hostWrite (c / 4) none (s.ringAddr c idx + 0x38) (leBytes 4 status ++ leBytes 4 result))
  if bitAt e.flags 7 then s1.raiseC 0x0F02 c status e.cookie (e.cookie / 2 ^ 32) else s1

/-- Every reserved bit is 0, those of FLAGS among them (Table HIF-4). -/
def RingEntry.bitsOk (e : RingEntry) : Bool := e.reserved && decide (e.flags % 128 < 4)

/-- The fields every opcode but FENCE and REVOKE bounds: count, alignment, range and reserved bits (Table HIF-4). -/
def RingEntry.rangeOk (e : RingEntry) : Bool :=
  e.bitsOk && decide (1 ≤ e.count) && decide (e.count ≤ 65536) && e.va % 65536 == 0 &&
    decide (e.va + e.count * 65536 ≤ 2 ^ 44)

/-- The virtual pages an entry names. -/
def RingEntry.vpages (e : RingEntry) : List Nat := (List.range e.count).map (fun k => e.va / 65536 + k)

def State.anyMapped (s : State) (c : Nat) (e : RingEntry) : Bool :=
  e.vpages.any (fun v => thas s.hif.maps (mapKey c v))

/-- Every page of the range is a LOCAL mapping of a page the context owns. -/
def State.allOwned (s : State) (c : Nat) (e : RingEntry) : Bool :=
  e.vpages.all fun v => match tfind s.hif.maps (mapKey c v) with
    | some m => m.kind == MapKind.loc && s.pageOwner m.target == some (c + 1)
    | none => false

/-- Every page of the range is mapped, and none LOCAL. -/
def State.allUnmappable (s : State) (c : Nat) (e : RingEntry) : Bool :=
  e.vpages.all fun v => match tfind s.hif.maps (mapKey c v) with
    | some m => m.kind != MapKind.loc
    | none => false

/-- Map the pages of an entry one after another. -/
def State.mapRange (s : State) (c : Nat) (vs : List Nat) (ms : List Mapping) : State :=
  foldOver (vs.zip ms) (fun vm t => t.setMap c vm.1 vm.2) s

/-- What an opcode that acts at once answers: the state, the status and the result (Table HIF-5). -/
abbrev RingResult := State × Nat × Nat

def RingEntry.rd (e : RingEntry) : Bool := bitAt e.flags 0
def RingEntry.wrt (e : RingEntry) : Bool := bitAt e.flags 1

/-- ALLOC: COUNT scrubbed pages, the lowest-numbered first (log 14), become owned and are mapped LOCAL (R84). Where several
conditions of Table HIF-6 hold at once the spec gives no order of their codes: here, and in the other opcodes, BAD_ARGS
comes first, then HOST_DISABLED, NOT_READY or the grant's, then OVERLAP or NOT_MAPPED, then NO_MEMORY (DESIGN CHOICE,
log 121). -/
def ringAlloc (s : State) (c : Nat) (e : RingEntry) : RingResult :=
  if !e.rangeOk then (s, stBadArgs, 0)
  else if s.anyMapped c e then (s, stOverlap, 0)
  else if s.get (HIF_CTX_LIMITS_1.PAGES c) < (s.ownedPages c).length + e.count ∨ s.freePages.length < e.count then
    (s, stNoMemory, 0)
  else
    let ps := s.freePages.take e.count
    let s1 := foldOver ps (fun p t => t.setPage p (c + 1)) s
    let s2 := s1.mapRange c e.vpages (ps.map (fun p => ⟨MapKind.loc, p, e.rd, e.wrt, 0⟩))
    (s2.showPages c, stOk, 0)

/-- MAP_HOST (R86); HOST_DISABLED while master enable is clear. -/
def ringMapHost (s : State) (c : Nat) (e : RingEntry) : RingResult :=
  if !e.rangeOk || e.target % 65536 != 0 then (s, stBadArgs, 0)
  else if !s.flag (HIF_FN_STATUS.ME (c / 4)) then (s, stHostDisabled, 0)
  else if s.anyMapped c e then (s, stOverlap, 0)
  else
    (s.mapRange c e.vpages ((List.range e.count).map
      (fun k => ⟨MapKind.host, e.target / 65536 + k, e.rd, e.wrt, 0⟩)), stOk, 0)

/-- MAP_REMOTE (R353): NOT_READY before start-up complete; global surface space has 48 bits. -/
def ringMapRemote (s : State) (c : Nat) (e : RingEntry) : RingResult :=
  if !e.rangeOk || e.target % 65536 != 0 || decide (2 ^ 48 < e.target + e.count * 65536) then (s, stBadArgs, 0)
  else if !s.flag HIF_STATUS.STARTUP_DONE then (s, stNotReady, 0)
  else if s.anyMapped c e then (s, stOverlap, 0)
  else
    (s.mapRange c e.vpages ((List.range e.count).map
      (fun k => ⟨MapKind.remote, e.target / 65536 + k, e.rd, e.wrt, 0⟩)), stOk, 0)

/-- MAP_GRANT: the first COUNT pages of the grant, read-only (R85). -/
def ringMapGrant (s : State) (c : Nat) (e : RingEntry) : RingResult :=
  if !e.rangeOk || e.wrt then (s, stBadArgs, 0)
  else match s.grantOf (e.target % 2 ^ 32) with
    | none => (s, stBadGrant, 0)
    | some g =>
      if g.grantee ≠ c then (s, stBadGrant, 0)
      else if g.pages.length < e.count then (s, stBadArgs, 0)
      else if s.anyMapped c e then (s, stOverlap, 0)
      else (s.mapRange c e.vpages ((g.pages.take e.count).map
        (fun p => ⟨MapKind.grant, p, true, false, e.target % 2 ^ 32⟩)), stOk, 0)

/-- The next nonzero 32-bit handle that names no grant (log 15). -/
def freeHandle (grants : Tbl Grant) : Nat → Nat → Nat
  | 0, h => h
  | n + 1, h => if thas grants h then freeHandle grants n (h % (2 ^ 32 - 1) + 1) else h

/-- GRANT: RESULT is a nonzero handle of no other grant (log 15). Any context number is a valid GRANTEE, whether the context
exists or not (DESIGN CHOICE, log 121). -/
def ringGrant (s : State) (c : Nat) (e : RingEntry) : RingResult :=
  if !e.rangeOk || decide (1024 ≤ e.grantee) then (s, stBadArgs, 0)
  else if !s.allOwned c e then (s, stNotMapped, 0)
  else
    let ps := e.vpages.filterMap (fun v => (tfind s.hif.maps (mapKey c v)).map (·.target))
    let h := freeHandle s.hif.grants s.hif.grants.length s.hif.nextHandle
    ({ s with hif := { s.hif with
        grants := tset s.hif.grants h ⟨c, e.grantee, e.va / 65536, ps⟩
        nextHandle := h % (2 ^ 32 - 1) + 1 } }, stOk, h)

/-- What the device checks when it reads a FREE, UNMAP or REVOKE (R88). -/
def deferredCheck (s : State) (c op : Nat) (e : RingEntry) : Nat :=
  if op = 0x02 then (if !e.rangeOk then stBadArgs else if s.allOwned c e then stOk else stNotMapped)
  else if op = 0x06 then (if !e.rangeOk then stBadArgs else if s.allUnmappable c e then stOk else stNotMapped)
  else match s.grantOf (e.target % 2 ^ 32) with
    | some g => if !e.bitsOk then stBadArgs else if g.owner = c then stOk else stBadGrant
    | none => if !e.bitsOk then stBadArgs else stBadGrant

/-- The effect of a deferred entry at its boundary (R89). -/
def deferredEffect (s : State) (c op : Nat) (e : RingEntry) : State :=
  if op = 0x02 then (foldOver e.vpages (fun v t => t.freePage c v) s).showPages c
  else if op = 0x06 then foldOver e.vpages (fun v t => t.delMap c v) s
  else s.endGrant (e.target % 2 ^ 32)

/-- The head moves past the entry just read. -/
def State.ringAdvance (s : State) (c : Nat) : State :=
  s.put (HIF_CTX_CMDQ_HEAD.HEAD c) ((s.get (HIF_CTX_CMDQ_HEAD.HEAD c) + 1) % 2 ^ s.ringSize c)

/-- The read of a ring's next entry completes (R88, R103): its tag is free, the head moves, and the entry is acted on unless
the ring has been disabled or reset meanwhile. `act` gets the entry's index. -/
def ringTake (dt c : Nat) (act : Nat → State → State) (s : State) : State :=
  let t := s.tick dt
  t.onLiveIf (t.ringReading c) fun u =>
    let v := u.freeTag (fun g => g.user == TagUser.ring c && !g.old)
    (if v.ringOpen c then act (v.get (HIF_CTX_CMDQ_HEAD.HEAD c)) (v.ringAdvance c) else v).pumpHost

/-- An opcode that acts at once (R88). -/
def ringNow (dt c : Nat) (e : RingEntry) (op : State → Nat → RingEntry → RingResult) (s : State) : State :=
  ringTake dt c (fun idx u =>
    let r := op u c e
    r.1.ringDone c idx e r.2.1 r.2.2) s

/-- An opcode whose effect waits for the first boundary at least 20 us later (R89). -/
def ringLater (dt c op : Nat) (e : RingEntry) (s : State) : State :=
  ringTake dt c (fun idx u =>
    let st := deferredCheck u c op e
    if st = stOk then
      { u with hif := { u.hif with deferred := u.hif.deferred ++ [⟨c, op, idx, e, u.now + 20 * usSteps⟩] } }
    else u.ringDone c idx e st 0) s

/-- FENCE takes effect when every earlier entry of the ring has (R88). -/
def ringFence (dt c : Nat) (e : RingEntry) (s : State) : State :=
  ringTake dt c (fun idx u =>
    if !e.bitsOk then u.ringDone c idx e stBadArgs 0
    else if u.hif.deferred.any (fun d => d.ctx == c) then
      { u with hif := { u.hif with deferred := u.hif.deferred ++ [⟨c, 0x09, idx, e, 0⟩] } }
    else u.ringDone c idx e stOk 0) s

def doCmdAlloc (dt c : Nat) (e : RingEntry) (s : State) : State := ringNow dt c e ringAlloc s
def doCmdFree (dt c : Nat) (e : RingEntry) (s : State) : State := ringLater dt c 0x02 e s
def doCmdMapHost (dt c : Nat) (e : RingEntry) (s : State) : State := ringNow dt c e ringMapHost s
def doCmdMapRemote (dt c : Nat) (e : RingEntry) (s : State) : State := ringNow dt c e ringMapRemote s
def doCmdMapGrant (dt c : Nat) (e : RingEntry) (s : State) : State := ringNow dt c e ringMapGrant s
def doCmdUnmap (dt c : Nat) (e : RingEntry) (s : State) : State := ringLater dt c 0x06 e s
def doCmdGrant (dt c : Nat) (e : RingEntry) (s : State) : State := ringNow dt c e ringGrant s
def doCmdRevoke (dt c : Nat) (e : RingEntry) (s : State) : State := ringLater dt c 0x08 e s
def doCmdFence (dt c : Nat) (e : RingEntry) (s : State) : State := ringFence dt c e s
/-- CMD_BAD_OPCODE: an unknown opcode has no effect but its status (Table HIF-6). -/
def doCmdBadOpcode (dt c : Nat) (e : RingEntry) (s : State) : State :=
  ringNow dt c e (fun t _ _ => (t, stBadOpcode, 0)) s

/-- The deferred entries that are due take effect at a boundary, in order; a FENCE with no earlier entry of its
ring left takes effect with them (R88, R89). `kept` are the entries that wait on. -/
def deferredGo (s : State) : List Deferred → List Deferred → State × List Deferred
  | [], kept => (s, kept)
  | d :: r, kept =>
    if d.opcode = 0x09 then
      if kept.any (fun k => k.ctx == d.ctx) then deferredGo s r (kept ++ [d])
      else deferredGo (s.ringDone d.ctx d.index d.entry stOk 0) r kept
    else if d.due ≤ s.now then
      (let st := deferredCheck s d.ctx d.opcode d.entry
       let s1 := if st = stOk then deferredEffect s d.ctx d.opcode d.entry else s
       deferredGo (s1.ringDone d.ctx d.index d.entry st 0) r kept)
    else deferredGo s r (kept ++ [d])

def State.deferredBoundary (s : State) : State :=
  let r := deferredGo s s.hif.deferred []
  { r.1 with hif := { r.1.hif with deferred := r.2 } }

/-! ### Layers (R90, R91) -/

/-- The context that holds a physical layer. -/
def State.holder (s : State) (n : Nat) : Option Nat :=
  if s.flag (CMP_LYR_OWNER.HELD n) then some (s.get (CMP_LYR_OWNER.CTX n)) else none

def State.layersOf (s : State) (c : Nat) : List Nat := idxWhere 256 (fun n => s.holder n == some c)

/-- Contexts to which the PF has given limits. -/
def State.limited (s : State) : List Nat :=
  (tkeys s.regs).filterMap (fun a => if a = HIF_CTX_LIMITS_0 0 + (a - HIF_CTX_LIMITS_0 0) / 16 * 16 then
    (if HIF_CTX_LIMITS_0 0 ≤ a ∧ a < HIF_CTX_LIMITS_0 0 + 0x10 * 1024 then some ((a - HIF_CTX_LIMITS_0 0) / 16) else none) else none)

/-- Layers of the guaranteed quotas that contexts have yet to take, whether they exist now or not (R90, R471). -/
def State.heldBack (s : State) : Nat :=
  listSum (s.limited.map (fun c => s.get (HIF_CTX_LIMITS_0.LAYERS c) - (s.layersOf c).length))

def State.freeLayers (s : State) : List Nat := idxWhere 256 (fun n => !s.flag (CMP_LYR_OWNER.HELD n))

/-- The layer a request would be granted (R90). -/
def State.pickLayer (s : State) (video : Bool) : Option Nat :=
  let free := s.freeLayers
  if video then (free.filter (fun n => decide (n < 8))).head?
  else match (free.filter (fun n => decide (8 ≤ n))).head? with
    | some n => some n
    | none => free.head?

abbrev slotKey (c w : Nat) : Nat := c * 64 + w

def State.layerAt (s : State) (c w : Nat) : Option Nat := tfind s.hif.slots (slotKey c w)

/-- HIF_CTX_LAYER_RESULT. -/
def State.layerResult (s : State) (c slot layer code : Nat) : State :=
  s.wrN (HIF_CTX_LAYER_RESULT c) (slot + layer * 2 ^ 8 + code * 2 ^ 16)

/-- LAYER_ALLOCATE (R90): the answer code of Table HIF-16. -/
def doLayerAllocate (dt c slot : Nat) (video : Bool) (s : State) : State :=
  let t := s.tick dt
  t.onReachIf (t.ctxExists c && decide (slot < 64)) fun u =>
    let have_ := (u.layersOf c).length
    if (u.layerAt c slot).isSome then u.layerResult c slot 0 5
    else if u.get (HIF_CTX_LIMITS_0.LAYER_MAX c) ≤ have_ then u.layerResult c slot 0 4
    else
      let guaranteed := decide (have_ < u.get (HIF_CTX_LIMITS_0.LAYERS c)) && !video
      let shared := decide (u.heldBack < u.freeLayers.length) ||
        (video && decide (have_ < u.get (HIF_CTX_LIMITS_0.LAYERS c)) && decide (u.heldBack ≤ u.freeLayers.length))
      match (if guaranteed || shared then u.pickLayer video else none) with
      | none => u.layerResult c slot 0 3
      | some n =>
        let v := { u with hif := { u.hif with slots := tset u.hif.slots (slotKey c slot) n } }
        (((v.put (CMP_LYR_OWNER.CTX n) c).put (CMP_LYR_OWNER.HELD n) 1).put (HIF_CTX_STATUS.LAYERS c)
          (have_ + 1)).layerResult c slot n 1

/-- A layer returns to its pool: its registers return to their reset values (R91). -/
def State.dropLayer (s : State) (n : Nat) : State :=
  let lo := CMP_LYR_CTRL n
  let lc := COL_LYR_CTRL n
  let keep := fun (e : Nat × Word) => !((decide (lo ≤ e.1) && decide (e.1 < lo + 0x100)) ||
    (decide (lc ≤ e.1) && decide (e.1 < lc + 0x100)))
  { s with
    regs := s.regs.filter keep
    act := s.act.filter keep
    hif := { s.hif with slots := s.hif.slots.filter (fun e => e.2 != n) }
    cmp := { s.cmp with
      offs := s.cmp.offs.filter (fun e => e.1 / 32 != n)
      live := s.cmp.live.filter (fun k => k != n) } }

/-- LAYER_RELEASE (R91): IN_USE while the layer is enabled in the active state. -/
def doLayerRelease (dt c slot : Nat) (s : State) : State :=
  let t := s.tick dt
  t.onReachIf (t.ctxExists c && decide (slot < 64)) fun u =>
    match u.layerAt c slot with
    | none => u.layerResult c slot 0 7
    | some n =>
      if u.actFlag (CMP_LYR_CTRL.EN n) then u.layerResult c slot n 6
      else
        let have_ := (u.layersOf c).length
        ((u.dropLayer n).put (HIF_CTX_STATUS.LAYERS c) (have_ - 1)).layerResult c slot n 2

/-! ### Limits (R472) -/

/-- A field clamped to a ceiling, with a limit event where the ceiling changes it (R19). -/
def State.clampTo (s : State) (key want top : Nat) : State × Nat :=
  if top < want then (s.limitEvent devQ key, top) else (s, want)

/-- A context's group in force is kept until the first boundary at which it has no pending commit (R96); 1024 is the PF's. -/
def State.holdGroup (s : State) (c old : Nat) : State :=
  if thas s.hif.groupAct c then s else { s with hif := { s.hif with groupAct := tset s.hif.groupAct c old } }

/-- CTX_LIMITS_WRITE (R472): a PF write of HIF_CTX_c_LIMITS_i. -/
def doCtxLimitsWrite (dt c i : Nat) (w : Word) (s : State) : State :=
  let t := s.tick dt
  t.onReachIf (decide (c < 1024) && decide (i < 4)) fun u =>
    let f := c / 4
    let v := w.toNat
    match i with
    | 0 =>
      let key := HIF_CTX_LIMITS_0 c
      let r1 := u.clampTo key (bitsOf v 7 0) (u.ctxLim f 0x01 1)
      let r2 := r1.1.clampTo key (bitsOf v 15 8) (u.ctxLim f 0x02 1)
      let r3 := if r2.2 < r1.2 then (r2.1.limitEvent devQ key, r1.2) else r2
      let g := bitsOf v 21 16
      let r4 := if bitAt (u.ctxLim f 0x10 8) g then (r3.1, g)
        else if g = u.get (HIF_CTX_LIMITS_0.GROUP c) then (r3.1, g)
        else (r3.1.limitEvent devQ key, u.get (HIF_CTX_LIMITS_0.GROUP c))
      let en := bitAt v 31
      let enOk := decide (c % 4 < u.ctxLim f 0 1)
      let r5 := if en && !enOk then (r4.1.limitEvent devQ key, false) else (r4.1, en)
      (r5.1.holdGroup c (u.get (HIF_CTX_LIMITS_0.GROUP c))).wrN key (r1.2 + r3.2 * 2 ^ 8 + r4.2 * 2 ^ 16 + boolNat r5.2 * 2 ^ 31)
    | 1 =>
      let r := u.clampTo (HIF_CTX_LIMITS_1 c) (bitsOf v 20 0) (u.ctxLim f 0x04 4)
      r.1.wrN (HIF_CTX_LIMITS_1 c) r.2
    | 2 =>
      let r := u.clampTo (HIF_CTX_LIMITS_2 c) (bitsOf v 12 0) (u.ctxLim f 0x08 2)
      r.1.wrN (HIF_CTX_LIMITS_2 c) r.2
    | _ =>
      let want := bitsOf v 19 0
      let got := want &&& u.ctxLim f 0x0C 4
      let u1 := if got = want then u else u.limitEvent devQ (HIF_CTX_LIMITS_3 c)
      u1.wrN (HIF_CTX_LIMITS_3 c) got

/-- VF_ENABLE (R81): the host enables n VFs, at most what CTX_LIMITS allows; none in safe idle (R74). -/
def doVfEnable (dt n : Nat) (s : State) : State :=
  let t := s.tick dt
  t.onLiveIf (decide (n ≤ t.totalVfs) && !t.cfg.safeIdle) (fun u => (u.put HIF_STATUS.NUM_VFS n).pumpHost)

/-- CTX_LIMITS detail codes, in the order of Table HIF-19; `outs` is the mask of outputs that CMP_CUT gives. -/
def ctxLimitsDetail (outs : Nat) (b : List Byte) : Option Nat :=
  let ent := fun (f off n : Nat) => leAt b (0x10 + 32 * f + off) n
  let fs := List.range 256
  if b.length ≠ 8208 then some 0x0801
  else if !bytesZero b 1 15 || fs.any (fun f => ent f 3 1 != 0 || ent f 0x0A 2 != 0 || ent f 0x18 8 != 0 ||
      decide (2 ^ 20 ≤ ent f 0x0C 4)) then some 0x0802
  else if fs.any (fun f => decide (64 < ent f 1 1) || decide (ent f 2 1 < ent f 1 1) || decide (64 < ent f 2 1) ||
      decide (2 ^ 21 - 1 < ent f 4 4) || decide (6400 < ent f 8 2)) then some 0x0803
  else if fs.any (fun f => decide (leAt b 0 1 < f) && !bytesZero b (0x10 + 32 * f) 32) then some 0x0804
  else if fs.any (fun f => (ent f 0x0C 4 &&& outs) != ent f 0x0C 4 || (decide (0 < ent f 0 1) && ent f 0x10 8 == 0)) then
    some 0x0805
  else none

/-- Check 9 of Table CFG-5 over a CTX_LIMITS section (R471). -/
def ctxLimitsCheck9 (b : List Byte) : Bool :=
  let ent := fun (f off n : Nat) => leAt b (0x10 + 32 * f + off) n
  let fs := List.range 256
  fs.all (fun f => decide (ent f 0 1 ≤ 4)) &&
    decide (listSum (fs.map (fun f => ent f 0 1)) ≤ 1024) &&
    decide (listSum (fs.map (fun f => ent f 0 1 * ent f 1 1)) ≤ 256) &&
    decide (listSum (fs.map (fun f => ent f 0 1 * ent f 8 2)) ≤ 6400)

/-! ### Doorbells, event queues and vectors (R100 to R102) -/

/-- CMDQ_DOORBELL: a write of CMDQ_TAIL; ignored and logged where the context does not exist (R81). -/
def doCmdqDoorbell (dt c tail : Nat) (s : State) : State :=
  (s.tick dt).onReach fun t =>
    if t.ctxExists c then ({ t with hif := { t.hif with cmdTail := tset t.hif.cmdTail c (tail % 2 ^ 12) } }).pumpHost
    else t.accessEvent c (cmdDoor c) 5

def State.queue (s : State) (q : Nat) : QueueSt := tget QueueSt.init s.hif.queues q

def State.setQueue (s : State) (q : Nat) (x : QueueSt) : State :=
  { s with hif := { s.hif with queues := tset s.hif.queues q x } }

/-- EVQ_DOORBELL: a write of EVQ_HEAD returns entries; the device queue's head is HIF_DEVQ_HEAD. -/
def doEvqDoorbell (dt q head : Nat) (s : State) : State :=
  (s.tick dt).onReach fun t =>
    if q = devQ then (t.setQueue q { t.queue q with head := head % 2 ^ 17 }).put HIF_DEVQ_HEAD.HEAD head
    else if t.ctxExists q then t.setQueue q { t.queue q with head := head % 2 ^ 17 }
    else t.accessEvent q (evqDoor q) 5

/-- log2 of a queue's entry count, 6 to 16 (R100). -/
def State.queueSize (s : State) (q : Nat) : Nat := clampN 6 16 (bitsOf (s.queueCfg q) 4 0)

def State.queueTail (s : State) (q : Nat) : Nat :=
  if q = devQ then s.get HIF_DEVQ_TAIL.TAIL else s.get (HIF_CTX_EVQ_TAIL.TAIL q)

def State.setQueueTail (s : State) (q v : Nat) : State :=
  if q = devQ then s.put HIF_DEVQ_TAIL.TAIL v else s.put (HIF_CTX_EVQ_TAIL.TAIL q) v

def State.queueBase (s : State) (q : Nat) : Nat :=
  if q = devQ then s.rdN HIF_DEVQ_BASE_LO / 4096 * 4096 + s.rdN HIF_DEVQ_BASE_HI * 2 ^ 32
  else s.rdN (HIF_CTX_EVQ_BASE_LO q) / 4096 * 4096 + s.rdN (HIF_CTX_EVQ_BASE_HI q) * 2 ^ 32

/-- Full: equal indices and different wrap bits (Table HIF-17). -/
def State.queueFull (s : State) (q : Nat) : Bool :=
  let h := (s.queue q).head
  let t := s.queueTail q
  (h % 2 ^ 16 == t % 2 ^ 16) && (h / 2 ^ 16 != t / 2 ^ 16)

/-- The next index, with bit 16 toggled on each wrap. -/
def nextIndex (size t : Nat) : Nat :=
  if t % 2 ^ 16 + 1 = 2 ^ size then (1 - t / 2 ^ 16 % 2) * 2 ^ 16 else t + 1

/-- The 32 bytes of an event entry (Table INT-2). -/
def Event.bytes (e : Event) : List Byte :=
  leBytes 2 e.code ++ leBytes 1 (e.code / 256) ++
    leBytes 1 (boolNat e.overflow + 2 * boolNat e.forwarded + 4 * e.cls) ++
    leBytes 4 e.lfn ++ leBytes 4 e.phase ++ leBytes 8 e.systime ++ leBytes 2 e.ctx ++ leBytes 2 e.arg0 ++
    leBytes 4 e.arg1 ++ leBytes 4 e.arg2

/-- A queue's vector (Table HIF-7). -/
def queueVector (q : Nat) : Nat := if q = devQ then 5 else q % 4

/-- The first event held for a queue. -/
def State.firstHeld (s : State) (q : Nat) : Option HeldEvent := s.int.held.find? (fun h => h.queue == q)

/-- Remove the first event held for a queue. -/
def dropFirst (q : Nat) : List HeldEvent → List HeldEvent
  | [] => []
  | h :: r => if h.queue = q then r else h :: dropFirst q r

def State.unhold (s : State) (q : Nat) : State :=
  let l := dropFirst q s.int.held
  (({ s with int := { s.int with held := l } }).put INT_STATUS.PENDING l.length).showHeld (queueFn q)

/-- Signal a queue's vector and count its entries as signalled (R102). -/
def State.signal (s : State) (q : Nat) : State :=
  (s.sendVec (queueFn q) (queueVector q)).setQueue q { s.queue q with unsignalled := 0 }

/-- EVENT_QUEUE_WRITE (R100, R102): 20 us after its stamp the oldest event held for a queue that can be written
is written, or dropped where the queue is full. -/
def doEventQueueWrite (dt q : Nat) (s : State) : State :=
  let t := s.tick dt
  match t.firstHeld q with
  | none => t
  | some h =>
    t.onLiveIf (t.queueWritable q && t.mayIssueHost (queueFn q) && decide (h.time + 20 * usSteps ≤ t.now)) fun u =>
      let v := u.unhold q
      if v.queueFull q then
        (let w := if q = devQ then v.inc HIF_DEVQ_DROPS.COUNT else v.inc (HIF_CTX_EVQ_DROPS.COUNT q)
         (w.setQueue q { w.queue q with overflow := true }).sendVec (queueFn q) 4)
      else
        let x := v.queue q
        let tail := v.queueTail q
        let e := { h.ev with overflow := x.overflow }
        let v1 := v.send (.hostWrite (queueFn q) none (v.queueBase q + 32 * (tail % 2 ^ 16)) e.bytes)
        let v2 := v1.setQueueTail q (nextIndex (v1.queueSize q) tail)
        let x2 := { x with
          overflow := false
          unsignalled := x.unsignalled + 1
          firstTime := if x.unsignalled = 0 then v2.now else x.firstTime }
        let v3 := v2.setQueue q x2
        let modCount := bitsOf (v3.queueCfg q) 23 16
        if modCount = 0 ∨ modCount ≤ x2.unsignalled then v3.signal q else v3

/-- MSIX_MOD_TIMEOUT (R102): MOD_TIME us after the first unsignalled entry. -/
def doMsixModTimeout (dt q : Nat) (s : State) : State :=
  let t := s.tick dt
  let x := t.queue q
  t.onLiveIf (t.mayIssueHost (queueFn q) && decide (0 < x.unsignalled) &&
    decide (x.firstTime + bitsOf (t.queueCfg q) 31 24 * usSteps ≤ t.now)) (fun u => u.signal q)

/-! ### Fetch windows (R92) -/

/-- Layer-pixels that FETCH_RSV allows in a window of `steps`. -/
def rsvPixels (rsv steps : Nat) : Nat := rsv * 10000000 * steps / secSteps

/-- The length of the open window: 10 us, or less where the LF ends before (R92). -/
def State.windowLen (s : State) : Nat := min (10 * usSteps) (s.nextBoundary - s.hif.winStart)

/-- A context's reservation in the open window. -/
def State.reservation (s : State) (c : Nat) : Nat := rsvPixels (s.get (HIF_CTX_LIMITS_2.FETCH_RSV c)) s.windowLen

/-- FETCH_WINDOW_END: each context's demand in the window is compared with its reservation (R92, R162). -/
def State.closeWindow (s : State) : State :=
  let len := s.now - s.hif.winStart
  let heavy := (s.hif.winDemand.filter (fun e =>
    decide (rsvPixels (s.get (HIF_CTX_LIMITS_2.FETCH_RSV e.1)) len < e.2))).map (·.1)
  { s with hif := { s.hif with
      overPrev := heavy
      lfDemand := s.hif.winDemand.foldl (fun a e => tmod 0 a e.1 (· + e.2)) s.hif.lfDemand
      winDemand := []
      winStart := s.now } }

/-- FETCH_WINDOW_END: 10 us after the window began; the last window of an LF ends with the boundary (R92). -/
def doFetchWindowEnd (dt : Nat) (s : State) : State :=
  let t := s.tick dt
  t.onLiveIf (decide (t.hif.winStart + 10 * usSteps ≤ t.now)) (fun u => u.closeWindow)

/-- At a boundary the window ends, and HIF_CTX_FETCH_DEMAND reports the LF (R92). DEMAND is rounded down to its unit (DESIGN
CHOICE, log 121); OVER compares the demand itself. -/
def State.fetchBoundary (s : State) (lfSteps : Nat) : State :=
  let s1 := s.closeWindow
  let s2 := foldOver s1.hif.lfDemand (fun e t =>
    let n := max 1 lfSteps
    (t.putSat (HIF_CTX_FETCH_DEMAND.DEMAND e.1) (e.2 * secSteps / (n * 10000000))).putB (HIF_CTX_FETCH_DEMAND.OVER e.1)
      (decide (t.get (HIF_CTX_LIMITS_2.FETCH_RSV e.1) * (n * 10000000) < e.2 * secSteps))) s1
  { s2 with hif := { s2.hif with lfDemand := s2.hif.lfDemand.map (fun e => (e.1, 0)) } }

end Sys2Proof.Machine
end

