-- ==== Sys2Proof/Machine/Cmp.lean ====
section
/-! DEFINITION. The compositor's configuration: which register values a pass sees, which layers take part in an
output, the range checks that hold a commit back, blend order, meshes, layer-off and the CMP_CUT section
(spec/06, R132 to R136, R143, R150, R152, R154, R157, R162 to R166, R473). -/
namespace Sys2Proof.Machine

/-! ### Register values as they would stand after commits (R11, R93) -/

/-- The number of the PF's commit among the commits. -/
abbrev pfCommit : Nat := 1024

/-- The commit that carries a register's shadow: the holder of the layer, else the PF. -/
def State.keyOwner (s : State) (a : Nat) : Nat :=
  if CMP_LYR_CTRL 0 ≤ a ∧ a < CMP_LYR_CTRL 0 + 0x10000 then (s.holder ((a - CMP_LYR_CTRL 0) / 0x100)).getD pfCommit
  else if COL_LYR_CTRL 0 ≤ a ∧ a < COL_LYR_CTRL 0 + 0x10000 then (s.holder ((a - COL_LYR_CTRL 0) / 0x100)).getD pfCommit
  else pfCommit

/-- A field as it would stand once the commits `cs` had applied. -/
def State.sg (s : State) (cs : List Nat) (f : Fld) : Nat :=
  if cs.contains (s.keyOwner f.reg) then s.get f else s.actGet f

def State.sflag (s : State) (cs : List Nat) (f : Fld) : Bool := s.sg cs f != 0

def State.ssg (s : State) (cs : List Nat) (f : Fld) : Int := sgn (f.hi + 1 - f.lo) (s.sg cs f)

/-- Virtual address of a pair of address registers: bits [31:6] and [43:32]. -/
def State.sva (s : State) (cs : List Nat) (lo hi : Fld) : Nat := s.sg cs lo * 64 + s.sg cs hi * 2 ^ 32

/-! ### Outputs and layers (R132 to R135) -/

abbrev outputs : Nat := 20
abbrev arrayOutputs : Nat := 16

def State.outExists (s : State) (o : Nat) : Bool := s.flag (CMP_OUT_CUT.EXISTS o)
def State.isFollower (s : State) (o : Nat) : Bool := s.flag (CMP_OUT_CUT.FOLLOWER o)
def State.outW (s : State) (o : Nat) : Nat := s.get (CMP_OUT_INFO.W_M1 o) + 1
def State.outH (s : State) (o : Nat) : Nat := s.get (CMP_OUT_INFO.H_M1 o) + 1

/-- The output that composes an output's picture: its leader, or itself (R135). -/
def State.leaderOf (s : State) (o : Nat) : Nat := if s.isFollower o then s.get (CMP_OUT_CUT.LEADER o) else o

/-- An output and its followers. -/
def State.withFollowers (s : State) (o : Nat) : List Nat :=
  idxWhere outputs (fun f => s.outExists f && (f == o || (s.isFollower f && s.get (CMP_OUT_CUT.LEADER f) == o)))

def State.lyrW (s : State) (cs : List Nat) (n : Nat) : Nat := s.sg cs (CMP_LYR_DST_WH.W_M1 n) + 1
def State.lyrH (s : State) (cs : List Nat) (n : Nat) : Nat := s.sg cs (CMP_LYR_DST_WH.H_M1 n) + 1
def State.lyrX (s : State) (cs : List Nat) (n : Nat) : Int := s.ssg cs (CMP_LYR_DST_XY.X n)
def State.lyrY (s : State) (cs : List Nat) (n : Nat) : Int := s.ssg cs (CMP_LYR_DST_XY.Y n)
def State.cropW (s : State) (cs : List Nat) (n : Nat) : Nat := s.sg cs (CMP_LYR_CROP_WH.W_M1 n) + 1
def State.cropH (s : State) (cs : List Nat) (n : Nat) : Nat := s.sg cs (CMP_LYR_CROP_WH.H_M1 n) + 1
def State.winX (s : State) (cs : List Nat) (o : Nat) : Int := s.ssg cs (CMP_OUT_CANVAS.X o)
def State.winY (s : State) (cs : List Nat) (o : Nat) : Int := s.ssg cs (CMP_OUT_CANVAS.Y o)

/-- Whether a layer's destination rectangle meets an output's window. -/
def State.lyrMeets (s : State) (cs : List Nat) (n o : Nat) : Bool :=
  decide (s.lyrX cs n < s.winX cs o + s.outW o) && decide (s.winX cs o < s.lyrX cs n + s.lyrW cs n) &&
    decide (s.lyrY cs n < s.winY cs o + s.outH o) && decide (s.winY cs o < s.lyrY cs n + s.lyrH cs n)

/-- Whether layer n takes part in output o (R133); before start-up is complete no layer is enabled (R136). -/
def State.takesPart (s : State) (cs : List Nat) (n o : Nat) : Bool :=
  s.flag HIF_STATUS.STARTUP_DONE && (s.holder n).isSome && s.sflag cs (CMP_LYR_CTRL.EN n) &&
    bitAt (s.sg cs (CMP_LYR_OUTPUTS.MASK n)) o && s.outExists o && !s.isFollower o && s.lyrMeets cs n o

def State.outLayers (s : State) (cs : List Nat) (o : Nat) : List Nat := idxWhere 256 (fun n => s.takesPart cs n o)

/-- The composing outputs that a layer spans. -/
def State.spans (s : State) (cs : List Nat) (n : Nat) : List Nat := idxWhere outputs (fun o => s.takesPart cs n o)

/-- The layers of an output in blend order, lowest first (R152). -/
def State.blendOrder (s : State) (cs : List Nat) (o : Nat) : List Nat :=
  let parts := s.outLayers cs o
  if s.sflag cs (CMP_OUT_CTRL.ORDER_LIST o) then
    let entry := fun k => bitsOf (if cs.contains pfCommit then s.rdN (CMP_OUT_ORDER o (k / 4))
      else (s.actRd (CMP_OUT_ORDER o (k / 4))).toNat) (8 * (k % 4) + 7) (8 * (k % 4))
    let listed := ((List.range (min 32 (s.sg cs (CMP_OUT_CTRL.ORDER_LEN o)))).map entry).filter parts.contains
    let first := listed.foldl (fun acc n => if acc.contains n then acc else acc ++ [n]) []
    first ++ parts.filter (fun n => !first.contains n)
  else parts

/-! ### Formats and scaling (R138, R143, R148, R150) -/

def fmtPlanar (fmt : Nat) : Bool := decide (4 ≤ fmt) && decide (fmt ≤ 9)
/-- Bits of a luma or chroma sample. -/
def fmtDepth (fmt : Nat) : Nat := 8 + 2 * ((fmt - 4) % 3)
/-- Chroma halved in the vertical axis as well: YC420. -/
def fmt420 (fmt : Nat) : Bool := decide (4 ≤ fmt) && decide (fmt ≤ 6)
/-- Bytes of a packed pixel, or of a luma sample. -/
def fmtBytes (fmt : Nat) : Nat :=
  if fmt = 0 then 2 else if fmt = 1 then 3 else if fmt ≤ 3 then 4 else if fmtDepth fmt = 8 then 1 else 2

/-- Step and initial position of one axis: by the registers, or by AUTO_SCALE (R148). -/
def autoStep (crop dst : Nat) : Nat := (crop * 65536 + dst / 2) / dst
def autoInit (step : Nat) : Int := fdiv ((step : Int) - 65536) 2

def State.stepH (s : State) (cs : List Nat) (n : Nat) : Nat :=
  if s.sflag cs (CMP_LYR_CTRL.AUTO_SCALE n) then autoStep (s.cropW cs n) (s.lyrW cs n) else s.sg cs (CMP_LYR_STEP_H.STEP n)
def State.stepV (s : State) (cs : List Nat) (n : Nat) : Nat :=
  if s.sflag cs (CMP_LYR_CTRL.AUTO_SCALE n) then autoStep (s.cropH cs n) (s.lyrH cs n) else s.sg cs (CMP_LYR_STEP_V.STEP n)
def State.initH (s : State) (cs : List Nat) (n : Nat) : Int :=
  if s.sflag cs (CMP_LYR_CTRL.AUTO_SCALE n) then autoInit (s.stepH cs n) else s.ssg cs (CMP_LYR_INIT_H.INIT n)
def State.initV (s : State) (cs : List Nat) (n : Nat) : Int :=
  if s.sflag cs (CMP_LYR_CTRL.AUTO_SCALE n) then autoInit (s.stepV cs n) else s.ssg cs (CMP_LYR_INIT_V.INIT n)

/-- A layer's own fields break a range (R138, R143, R150, R151, Table CMP-14, R169); only of an enabled layer (R473). -/
def State.layerRange (s : State) (cs : List Nat) (n : Nat) : Bool :=
  s.sflag cs (CMP_LYR_CTRL.EN n) &&
    (let fmt := s.sg cs (CMP_LYR_FORMAT.FMT n)
     let fbc := s.sflag cs (CMP_LYR_FORMAT.FBC n)
     let w := s.sg cs (CMP_LYR_SURF.W_M1 n) + 1
     let h := s.sg cs (CMP_LYR_SURF.H_M1 n) + 1
     decide (9 < fmt) || (fmtPlanar fmt && decide (8 ≤ n)) || (fbc && decide (fmt ≤ 1)) ||
     (!fbc && decide (s.sg cs (CMP_LYR_STRIDE.STRIDE0 n) * 64 < w * fmtBytes fmt)) ||
     (!fbc && fmtPlanar fmt && decide (s.sg cs (CMP_LYR_STRIDE.STRIDE1 n) * 64 < divUp w 2 * 2 * fmtBytes fmt)) ||
     decide (w < s.sg cs (CMP_LYR_CROP_XY.X n) + s.cropW cs n) || decide (h < s.sg cs (CMP_LYR_CROP_XY.Y n) + s.cropH cs n) ||
     decide (s.stepH cs n < 4096) || decide (524288 < s.stepH cs n) ||
     decide (s.stepV cs n < 4096) || decide ((if 4096 < s.cropW cs n then 262144 else 524288) < s.stepV cs n) ||
     s.sg cs (CMP_LYR_CTRL.MODE n) == 3 || decide (65536 < s.sg cs (CMP_LYR_ALPHA.PLANE_ALPHA n)) ||
     decide (5 < s.sg cs (COL_LYR_CTRL.TF n)))

/-! ### Filter banks (R149) -/

/-- The place of a tap: direction 0 horizontal, 1 vertical. -/
abbrev coefKey (dir bank phase tap : Nat) : Nat := dir * 4096 + bank * 512 + phase * 8 + tap

def tapDefault (dir phase tap : Nat) : Int :=
  nthD (nthD (if dir = 0 then lanczosTaps else keysTaps) phase []) tap 0

def coefIn (t : Tbl Nat) (dir bank phase tap : Nat) : Int :=
  match tfind t (coefKey dir bank phase tap) with
  | some v => sgn 12 v
  | none => tapDefault dir phase tap

/-- The bank table a pass sees: the shadow where the PF's commit is included. -/
def State.coefs (s : State) (cs : List Nat) : Tbl Nat := if cs.contains pfCommit then s.cmp.coefShadow else s.cmp.coefAct

def tapCount (dir : Nat) : Nat := if dir = 0 then 6 else 4

/-- A written bank has a phase whose taps do not sum to 1,024 (R149). -/
def State.coefRange (s : State) : Bool :=
  s.cmp.coefDirty.any (fun db => (List.range 64).any (fun ph =>
    ((List.range (tapCount (db / 8))).map (fun k => coefIn s.cmp.coefShadow (db / 8) (db % 8) ph k)).foldl (· + ·) 0 != 1024))

/-- A write of CMP_COEF_DATA_k: two taps of the selected phase, in the shadow (Table CMP-11). -/
def State.coefWrite (s : State) (k w : Nat) : State :=
  let dir := s.get CMP_COEF_SEL.DIR
  let bank := s.get CMP_COEF_SEL.BANK
  let ph := s.get CMP_COEF_SEL.PHASE
  if dir = 1 ∧ k = 2 then s
  else
    let t := tset (tset s.cmp.coefShadow (coefKey dir bank ph (2 * k)) (bitsOf w 11 0)) (coefKey dir bank ph (2 * k + 1))
      (bitsOf w 27 16)
    { s with cmp := { s.cmp with
      coefShadow := t
      coefDirty := if s.cmp.coefDirty.contains (dir * 8 + bank) then s.cmp.coefDirty else s.cmp.coefDirty ++ [dir * 8 + bank] } }

/-- CMP_COEF_DATA_k shows the selected taps. -/
def State.coefShow (s : State) : State :=
  let dir := s.get CMP_COEF_SEL.DIR
  let tap := fun k => coefIn s.cmp.coefShadow dir (s.get CMP_COEF_SEL.BANK) (s.get CMP_COEF_SEL.PHASE) k
  foldOver (List.range 3) (fun k t =>
    if dir = 1 ∧ k = 2 then t.wrN (CMP_COEF_DATA k) 0
    else t.wrN (CMP_COEF_DATA k) (uns 12 (tap (2 * k)) + uns 12 (tap (2 * k + 1)) * 65536)) s

/-! ### Range of the outputs' controls -/

/-- An output's controls break a range: writeback on one without the capability, or a composing output's other fields (Table
CMP-13, R161, R169). -/
def State.cmpOutRange (s : State) (cs : List Nat) (o : Nat) : Bool :=
  (s.sflag cs (CMP_OUT_CTRL.WB_EN o) && !(s.outExists o && s.flag (CMP_OUT_CUT.WB_CAP o))) ||
    (s.outExists o && !s.isFollower o &&
      (decide (32 < s.sg cs (CMP_OUT_CTRL.ORDER_LEN o)) || decide (5 < s.sg cs (CMP_OUT_CTRL.WB_TF o))))

/-- An output would stack more than 32 layers (R134). -/
def State.stackRange (s : State) (cs : List Nat) : Bool :=
  (List.range outputs).any (fun o => decide (32 < (s.outLayers cs o).length))

/-! ### Mesh (R154, R157) -/

abbrev meshBytes : Nat := 37668

/-- DX and DY of a node, in 1/64 pixel. -/
def meshNode (m : List Byte) (i j : Nat) : Int × Int :=
  let off := 4 * (129 * j + i)
  (sgn 16 (leAt m off 2), sgn 16 (leAt m (off + 2) 2))

/-- Every |DY| is at most 6,144. -/
def meshOk (m : List Byte) : Bool := (List.range 9417).all (fun k => (sgn 16 (leAt m (4 * k + 2) 2)).natAbs ≤ 6144)

/-- A = ceil(max |DY| / 64) + 1, at most 97 (R157). -/
def meshApron (m : List Byte) : Nat :=
  min 97 (divUp (listMax ((List.range 9417).map (fun k => (sgn 16 (leAt m (4 * k + 2) 2)).natAbs))) 64 + 1)

/-- The mesh a pass sees: the back copy where a load of the PF's commit waits. -/
def State.meshOf (s : State) (cs : List Nat) (o : Nat) : List Byte :=
  if cs.contains pfCommit && thas s.cmp.meshBack o then tget [] s.cmp.meshBack o else tget [] s.cmp.mesh o

/-! ### Bands (R157) -/

/-- First line and lines of band k of an output. -/
def State.band (s : State) (o k : Nat) : Nat × Nat :=
  let n := max 1 (s.get (CMP_OUT_CUT.SLICES o))
  let each := s.outH o / n
  (k * each, if k + 1 = n then s.outH o - (n - 1) * each else each)

/-- The band that composes an output line. -/
def State.bandOf (s : State) (o y : Nat) : Nat :=
  let n := max 1 (s.get (CMP_OUT_CUT.SLICES o))
  min (n - 1) (y / max 1 (s.outH o / n))

/-! ### Layers off (R162 to R165) -/

def offKey (n o : Nat) : Nat := n * 32 + o

def State.isOff (s : State) (n o : Nat) : Bool := thas s.cmp.offs (offKey n o)

/-- Whether a layer contributes nothing to line `y` of an output: it went off when the slices had composed fewer
lines of their bands (log 20). -/
def State.offAtLine (s : State) (n o y : Nat) : Bool :=
  match tfind s.cmp.offs (offKey n o) with
  | none => false
  | some x => decide (x.line ≤ y - (s.band o (s.bandOf o y)).1)

/-- The state in which layers contribute nothing to an output from given lines of its bands on, beside what is off already. -/
def State.without (s : State) (o : Nat) (lines : Tbl Nat) : State :=
  { s with cmp := { s.cmp with
    offs := lines.foldl (fun t e =>
      let k := offKey e.1 o
      let line := match tfind t k with
        | some x => min x.line e.2
        | none => e.2
      tset t k { line := line, cause := 5, remote := false }) s.cmp.offs } }

/-- Contexts whose reset is under way hold the layer (R105). -/
def State.inReset (s : State) (n : Nat) : Bool := (s.holder n).any s.hif.resetting.contains

/-- CMP_LYR_n_STATUS.OFF. -/
def State.showOff (s : State) (n : Nat) : State :=
  s.putB (CMP_LYR_STATUS.OFF n) ((List.range outputs).any (fun o => s.isOff n o))

abbrev offLate : Nat := 1
abbrev offTranslation : Nat := 2
abbrev offBandwidth : Nat := 3
abbrev offHostLost : Nat := 4
abbrev offReset : Nat := 5

/-- A layer is missing from a line of its bands on in what a pass forms. -/
def Pass.lose (p : Pass) (n depth : Nat) : Pass :=
  { p with
    missing := if p.missing.contains n then p.missing else p.missing ++ [n]
    gone := tset p.gone n (min depth (tget depth p.gone n)) }

/-- CMP_LYR_n_OFF_LINE and OFF_LFN: the output and the line at which an off was first detected (R163). -/
def State.showOffLine (s : State) (n o line : Nat) : State :=
  ((s.put (CMP_LYR_OFF_LINE.OUTPUT n) o).put (CMP_LYR_OFF_LINE.LINE n) line).put (CMP_LYR_OFF_LFN.LFN n) s.tim.lfn

/-- Tail passes of an output and its followers form layer `n` no further than `depth` lines into the band (R163). -/
def State.loseInTail (s : State) (n o depth : Nat) : State :=
  { s with pln := { s.pln with
    tailPass := s.pln.tailPass.map (fun (e : Nat × Pass) =>
      if (s.withFollowers o).contains e.1 then (e.1, e.2.lose n depth) else e) } }

/-- Layer n goes off on output o from line `line` (R163): the counters, and the layer in the pass or tail that runs, which lacks
it from that line on to its end (Table CMP-7). -/
def State.markOff (s : State) (n o line cause : Nat) (remote : Bool) : State :=
  let depth := if line < s.outH o then line - (s.band o (s.bandOf o line)).1 else 0
  let tail := (s.withFollowers o).any s.pln.tailRunning.contains
  let add := fun (l : List Nat) => if l.contains n then l else l ++ [n]
  let s1 := { s with cmp := { s.cmp with
    offs := tset s.cmp.offs (offKey n o) { line := depth, cause := cause, remote := remote }
    lost := if tail then tmod [] s.cmp.lost o add else s.cmp.lost
    passes := tmod [] s.cmp.passes o (fun l => l.map (fun (p : Pass) => if p.running && !p.complete then p.lose n depth else p)) } }
  let s2 := (((s1.loseInTail n o depth).put (CMP_LYR_STATUS.CAUSE n) cause).putB (CMP_LYR_STATUS.REMOTE n) remote).showOff n
  foldOver (s.withFollowers o) (fun f t => t.inc (CMP_OUT_UNDERRUNS.COUNT f)) s2

/-- A drop notice arrives at the present instant (R165). -/
def State.takeDrop (s : State) (tag group cause : Nat) (remote : Bool) : State :=
  let d : DropSt :=
    { tag := tag, group := group, cause := cause, remote := remote, due := s.now + 20 * usSteps, done := [],
      offAt := tkeys s.cmp.offs, counted := false }
  { s with cmp := { s.cmp with drops := s.cmp.drops ++ [d] } }

/-- A context's commit group in force (R96). -/
def State.groupOf (s : State) (c : Nat) : Nat := tget (s.get (HIF_CTX_LIMITS_0.GROUP c)) s.hif.groupAct c

def State.engineReqs (s : State) (e : Nat) : List MemReq := s.mem.reqs.filter (fun r => r.engine == e)

/-- Outputs that compositor slice `k` composes. -/
def State.sliceOutputs (s : State) (k : Nat) : List Nat :=
  idxWhere outputs (fun o => s.outExists o && !s.isFollower o && decide (s.get (CMP_OUT_CUT.FIRST_SLICE o) ≤ k) &&
    decide (k < s.get (CMP_OUT_CUT.FIRST_SLICE o) + s.get (CMP_OUT_CUT.SLICES o)))

/-- An engine's generation toggles when its layer goes off or its context is reset (R110). -/
def State.toggleEngine (s : State) (e : Nat) : State :=
  s.put (MEM_ENG_STATUS.GEN e) (1 - s.get (MEM_ENG_STATUS.GEN e))

/-- The layer engines that have work of a context outstanding, of the slices of the outputs that a test picks, toggle (R110). -/
def State.toggleCtx (s : State) (c : Nat) (p : Nat → Bool) : State :=
  foldOver ((List.range 32).filter (fun e => (s.engineReqs e).any (fun r => r.ctx == c) && (s.sliceOutputs (e / 2)).any p))
    (fun e t => t.toggleEngine e) s

/-- A layer goes off at detection on every output it spans (R163), with one event, its engines toggle their generation (R110),
and it sends a drop notice when it is coherent (R165). An output on which it is off already is not affected. -/
def State.layerOff (s : State) (n o line cause : Nat) (remote : Bool) : State :=
  let running := (tget [] s.cmp.passes o).filter (·.running)
  let cs := (running.map (·.commits)).flatten
  let on := (s.spans cs n).filter (fun p => !s.isOff n p)
  if on.isEmpty then s
  else
    let c := (s.holder n).getD devQ
    let s1 := foldOver on (fun p t => t.markOff n p (if p = o then line else min line (t.outH p - 1)) cause remote)
      (s.toggleCtx c on.contains)
    let s2 := ((s1.showOffLine n o line).inc (CMP_LYR_STATUS.OFFS n)).raiseC 0x0B01 c n (o * 65536 + line) (cause + 256 * boolNat remote)
    if !remote && s2.sflag cs (CMP_LYR_CTRL.COHERENT n) && s2.sg cs (CMP_LYR_CTRL.DROP_TAG n) != 0 then
      ((s2.takeDrop (s2.sg cs (CMP_LYR_CTRL.DROP_TAG n)) (s2.groupOf c) cause false).inc CMP_DROP_STATUS.SENT).sendDrop
        (s2.sg cs (CMP_LYR_CTRL.DROP_TAG n)) (s2.groupOf c) cause
    else s2

/-! ### The CMP_CUT section (R166, Tables CMP-8, CMP-9) -/

structure CutEntry where
  flags : Nat
  leader : Nat
  first : Nat
  slices : Nat
  width : Nat
  height : Nat
  deriving DecidableEq, Repr

def cutEntry (b : List Byte) (o : Nat) : CutEntry :=
  { flags := leAt b (16 * o) 1, leader := leAt b (16 * o + 1) 1, first := leAt b (16 * o + 2) 1,
    slices := leAt b (16 * o + 3) 1, width := leAt b (16 * o + 4) 2, height := leAt b (16 * o + 6) 2 }

def CutEntry.exists_ (e : CutEntry) : Bool := bitAt e.flags 0
def CutEntry.follower (e : CutEntry) : Bool := e.exists_ && bitAt e.flags 2

/-- Outputs that a CMP_CUT section gives the device, as a mask. -/
def cutOutputs (b : List Byte) : Nat := maskOf outputs (fun o => (cutEntry b o).exists_)

def cutDetail (b : List Byte) : Option Nat :=
  let es := (List.range outputs).map (fun o => (o, cutEntry b o))
  let live := es.filter (fun e => e.2.exists_)
  if b.length ≠ 320 then some 0x0601
  else if es.any (fun e => decide (8 ≤ e.2.flags) || !bytesZero b (16 * e.1 + 8) 8 || (!bitAt e.2.flags 2 && e.2.leader != 0)) then
    some 0x0602
  else if live.any (fun e => e.2.follower &&
      (decide (16 ≤ e.1) || decide (16 ≤ e.2.leader) ||
       (let l := cutEntry b e.2.leader
        !l.exists_ || l.follower || l.width != e.2.width || l.height != e.2.height || l.first != e.2.first ||
          l.slices != e.2.slices))) then some 0x0603
  else if live.any (fun e => decide (16 < e.2.first + e.2.slices)) then some 0x0604
  else if live.any (fun e => e.2.width == 0 || e.2.height == 0 || decide (8192 < e.2.height) ||
      decide ((if 16 ≤ e.1 then 4096 else 8192) < e.2.width)) then some 0x0605
  else if live.any (fun e => e.2.follower && bitAt e.2.flags 1) then some 0x0606
  else none

/-- The slices that composing outputs use; a follower shares its leader's. -/
def cutSlices (b : List Byte) : List (Nat × Nat) :=
  ((List.range outputs).map (cutEntry b)).filter (fun e => e.exists_ && !e.follower) |>.map (fun e => (e.first, e.slices))

/-- Whether every follower repeats its leader's slice range: only then is check 6 applied (R166). -/
def cutFollowersAgree (b : List Byte) : Bool :=
  (List.range outputs).all (fun o =>
    let e := cutEntry b o
    let l := cutEntry b e.leader
    !e.follower || (l.first == e.first && l.slices == e.slices))

/-- Check 6 of Table CFG-5: the slices number at most 16 and at least one each, ranges of composing outputs do not
overlap, and a scan output has its engine (`engine k`, of SCAN_CFG). -/
def cutCheck6 (b : List Byte) (engine : Nat → Bool) : Bool :=
  let l := cutSlices b
  decide (listSum (l.map (·.2)) ≤ 16) && l.all (fun e => e.2 != 0) &&
    !anyPair (fun a c => decide (a.1 < c.1 + c.2) && decide (c.1 < a.1 + a.2)) l &&
    (List.range 4).all (fun k => !(cutEntry b (16 + k)).exists_ || engine k)

/-- The section takes effect: the RWL fields of Table CMP-13. -/
def State.applyCut (s : State) : State :=
  let b := s.sec secCmpCut 0
  foldOver (List.range outputs) (fun o t =>
    let e := cutEntry b o
    if e.exists_ then
      let t1 := (((t.put (CMP_OUT_INFO.W_M1 o) (e.width - 1)).put (CMP_OUT_INFO.H_M1 o) (e.height - 1)).put
        (CMP_OUT_CUT.FIRST_SLICE o) e.first).put (CMP_OUT_CUT.SLICES o) e.slices
      let t2 := ((t1.put (CMP_OUT_CUT.EXISTS o) 1).putB (CMP_OUT_CUT.WB_CAP o) (bitAt e.flags 1)).putB
        (CMP_OUT_CUT.FOLLOWER o) e.follower
      (t2.put (CMP_OUT_CUT.LEADER o) e.leader).put (CMP_OUT_STATUS.APRON o) 1
    else t) s

end Sys2Proof.Machine
end

