-- ==== Sys2Proof/Machine/Mem.lean ====
section
/-! DEFINITION. The memory system: engines, tags, buffers, write queues, controllers, refresh, retraining, parity, self-refresh,
ECC, training and the aperture (spec/05, R109 to R131; R87). -/
namespace Sys2Proof.Machine

/-! ### Engines and tags (R109 to R112) -/

/-- The engines of Table MEM-1 whose work is real-time: all but host inbound, scrub, test and schedule staging. -/
def engineRealTime (e : Nat) : Bool := !(e == 42 || e == 43 || e == 46 || e == 47)

/-- The class of a request of `pixels` more layer-pixels: a layer engine's is real-time within its context's reservation in the
open window, and best-effort beyond it (R92, R109). -/
def State.requestClass (s : State) (e c pixels : Nat) : Bool :=
  engineRealTime e && (decide (32 ≤ e) || decide (tget 0 s.hif.winDemand c + pixels ≤ s.reservation c))

/-- The lowest index an engine does not use. -/
def State.freeIndex (s : State) (e : Nat) : Option Nat :=
  (idxWhere 1024 (fun k => !(s.engineReqs e).any (fun r => r.index == k))).head?

/-- MEM_INFLIGHT and the engine's OUTSTANDING show the tags in use; PEAK keeps the highest. -/
def State.showTags (s : State) (e : Nat) : State :=
  let n := s.mem.reqs.length
  ((s.put (MEM_ENG_STATUS.OUTSTANDING e) (s.engineReqs e).length).putSat MEM_INFLIGHT.NOW n).putSat MEM_INFLIGHT.PEAK
    (max n (s.get MEM_INFLIGHT.PEAK))

/-- Whether a local transaction has a legal size and alignment and stays in one grain (R111). -/
def State.localShapeOk (s : State) (dpa len : Nat) : Bool :=
  (len == 64 || len == 128 || len == 256) && dpa % len == 0 &&
    dpa / 2 ^ leAt s.memMap 0 1 == (dpa + len - 1) / 2 ^ leAt s.memMap 0 1

/-- The pseudo-channel of a device physical address. -/
def State.pcAt (s : State) (dpa : Nat) : Nat := ((s.dpaToPc dpa).map (·.1)).getD 0

/-! ### Engines' buffers and deadlines (R112, R114) -/

def State.buf (s : State) (e : Nat) : EngBuf := tget EngBuf.init s.mem.bufs e

def State.setBuf (s : State) (e : Nat) (b : EngBuf) : State := { s with mem := { s.mem with bufs := tset s.mem.bufs e b } }

/-- Bytes that an engine's buffer holds now. -/
def State.bufFill (s : State) (e : Nat) : Nat :=
  let b := s.buf e
  b.fill - b.rate * (s.now - b.since) / usSteps

/-- The rate at which an engine's consumer drains its buffer changes. -/
def State.setDrainRate (s : State) (e rate : Nat) : State :=
  s.setBuf e { fill := s.bufFill e, rate := rate, since := s.now }

/-- Data arrives in an engine's buffer; a layer engine's holds 48 KiB (R109). -/
def State.fillBuf (s : State) (e n : Nat) : State :=
  s.setBuf e { s.buf e with
    fill := (if e < 32 then min 49152 (s.bufFill e + n) else s.bufFill e + n)
    since := s.now }

/-- The instant at which an engine's buffer empties if nothing arrives (R112); none while nothing drains it. -/
def State.emptyAt (s : State) (e : Nat) : Option Nat :=
  let b := s.buf e
  if b.rate = 0 then none else some (s.now + s.bufFill e * usSteps / b.rate)

/-! ### Write queues (R118, R119) -/

/-- The controller of a 64-byte block. -/
def State.blockCtl (s : State) (b : Nat) : Nat := pcController (s.pcAt (64 * b))

/-- Entries of a controller's write queue. -/
def State.queueLen (s : State) (k : Nat) : Nat := (s.mem.writeQ.filter (fun w => s.blockCtl w.block == k)).length

/-- Stalled writes enter the queues in order, each while its controller's queue has fewer than 512 entries (R118, R119). -/
def State.acceptWrites (s : State) : State :=
  let r := s.mem.stalled.foldl (fun (a : List WriteBlk × List WriteBlk) w =>
    let k := s.blockCtl w.block
    if a.2.any (fun x => s.blockCtl x.block == k) ||
        decide (512 ≤ (a.1.filter (fun x => s.blockCtl x.block == k)).length) then (a.1, a.2 ++ [w])
    else (a.1 ++ [w], a.2)) (s.mem.writeQ, [])
  { s with mem := { s.mem with
    writeQ := r.1
    stalled := r.2 } }

/-- The blocks of a write of `n` bytes at `dpa` go to their controllers. -/
def State.offerWrite (s : State) (dpa n : Nat) (w : WriteBlk) : State :=
  let bs := (List.range ((dpa + n + 63) / 64 - dpa / 64)).map (fun i => { w with block := dpa / 64 + i })
  ({ s with mem := { s.mem with stalled := s.mem.stalled ++ bs } }).acceptWrites

/-- The accepted writes that a read of `n` bytes at `dpa` waits for: for each block, how many (R118). -/
def State.waitsFor (s : State) (dpa n : Nat) : Tbl Nat :=
  ((List.range ((dpa + n + 63) / 64 - dpa / 64)).map (fun i =>
    (dpa / 64 + i, (s.mem.writeQ.filter (fun w => w.block == dpa / 64 + i)).length))).filter (fun e => e.2 != 0)

/-! ### Tolerances and wakes (R124, R125) -/

/-- Steps as a latency tolerance in 100 ns units; 0xFFFF means unlimited. -/
def tolUnits (steps : Nat) : Nat := min 0xFFFE (steps / 400)

/-- What an output's forming leaves its layer engines: nothing to wait while a scan engine runs, the buffer while a pass or a tail
forms, and the time to the boundary where the next pass starts there (R15, R124). -/
def State.outputTol (s : State) (e o : Nat) : Nat :=
  if arrayOutputs ≤ o then (if s.get (SCN_ENG_STATE.STATE (o - 16)) = 5 then 0 else 0xFFFF)
  else
    let l := tget [] s.cmp.passes o
    if l.any (fun p => p.running && !p.complete) || (s.withFollowers o).any s.pln.tailRunning.contains then
      (match s.emptyAt e with
        | some t => tolUnits (t - s.now)
        | none => 0)
    else if l.any (fun p => !p.running) || !s.cmp.live.isEmpty then tolUnits s.toBoundary
    else 0xFFFF

/-- The latency tolerance of an engine (R124): what its outputs leave it, and no more than the earliest deadline of its pending
requests. -/
def State.tolNow (s : State) (e : Nat) : Nat :=
  if !engineRealTime e then 0xFFFF
  else
    let due := (s.engineReqs e).filterMap (fun r => r.deadline.map (fun d => tolUnits (d - s.now)))
    let outs := if e < 32 then (s.sliceOutputs (e / 2)).map (s.outputTol e) else []
    (due ++ outs).foldl min 0xFFFF

/-- Every real-time engine's tolerance lets the stacks sleep (R125). -/
def State.tolerancesHigh (s : State) : Bool :=
  (List.range 48).all (fun e => decide (32 + s.get MEM_SR_CFG.MARGIN ≤ s.tolNow e))

def State.bePending (s : State) : Bool := s.mem.reqs.any (fun r => !r.realTime)

/-- The retraining windows of the LF before, of this one and of the next (SEQ_HBM_WIN, R122). -/
def State.windowAt (s : State) : List Nat :=
  let w := s.phaseInstant (s.actGet SEQ_HBM_WIN.PHASE)
  let len := s.tim.p16 / 65536
  [w - len, w, w + len]

/-- A window falls from an instant on within the next 50 us. -/
def State.windowNear (s : State) (since : Nat) : Bool :=
  s.windowAt.any (fun w => decide (since ≤ w) && decide (w < s.now + 50 * usSteps))

/-- MIN_DWELL in steps. -/
def State.dwell (s : State) : Nat := s.get MEM_SR_CFG.MIN_DWELL * usSteps

/-- The conditions of R125, with no window in or after the time since `since`. -/
def State.sleepOk (s : State) (since : Nat) : Bool :=
  s.flag MEM_CTRL.SR_EN && s.flag HIF_STATUS.STARTUP_DONE && s.tolerancesHigh && !s.bePending && s.mem.writeQ.isEmpty &&
    s.mem.stalled.isEmpty && !s.windowNear since &&
    !(List.range 8).any (fun k => bitAt (s.rdN (THM_DOM_KEEP 4)) (16 + k) && !bitAt (s.rdN (THM_DOM_HOLD 4)) (16 + k))

/-- The idle time of R125 begins anew. -/
def State.memBusy (s : State) : State := { s with mem := { s.mem with idleSince := s.now } }

/-- The idle time begins anew where the conditions of R125 did not hold before a change. -/
def State.busyUnless (s before : State) : State := if before.sleepOk before.now then s else s.memBusy

/-- Power-domain bit k of the THM words (Table THM-8, Table THM-17). -/
def State.domOn (s : State) (k : Nat) : Bool := bitAt (s.rdN (THM_DOM_ON (k / 32))) (k % 32)

def State.setDomOn (s : State) (k : Nat) (b : Bool) : State :=
  s.wrN (THM_DOM_ON (k / 32)) (setBit (s.rdN (THM_DOM_ON (k / 32))) (k % 32) b)

/-- First domain numbers of the 8 HBM3E controllers and of the scan engines (Table THM-8). -/
abbrev domHbmCtl : Nat := 144
abbrev domScan : Nat := 210

def State.pcState (s : State) (p : Nat) : PcSt := tget PcSt.init s.mem.pcs p

def State.setPc (s : State) (p : Nat) (x : PcSt) : State := { s with mem := { s.mem with pcs := tset s.mem.pcs p x } }

/-- The stacks enter self-refresh, and the controllers' domains switch off (R125). -/
def State.sleepStacks (s : State) : State :=
  let v := (s.put MEM_STATUS.SR_STATE 2).inc MEM_SR_STATUS.ENTRIES
  foldOver (List.range 8) (fun k w => w.setDomOn (domHbmCtl + k) false) { v with mem := { v.mem with sleepAt := v.now } }

/-- The stacks are awake: every pseudo-channel has had a fast retrain and owes nothing, the stacks' temperatures are to be read
first, and an engine that asked meanwhile counts its deadline from now (R120 to R122, R125). -/
def State.wakeStacks (s : State) (cause : Nat) : State :=
  let v := (s.put MEM_STATUS.SR_STATE 0).put MEM_SR_STATUS.LAST_WAKE cause
  let v := foldOver (List.range 8) (fun k w => w.setDomOn (domHbmCtl + k) true) v
  let v := foldOver (List.range 64) (fun p w => w.setPc p { w.pcState p with
    owed := 0
    rounds := 0
    lastRetrain := w.now
    lastWindow := w.now
    lastDue := w.now
    overdueRaised := false }) v
  let v := { v with mem := { v.mem with
    tempNeed := [0, 1]
    reqs := v.mem.reqs.map (fun (r : MemReq) =>
      if r.issued then r else { r with deadline := r.deadline.map (fun d => v.now + (d - r.time)) }) } }
  v.memBusy

/-- MEM_STATUS as it reads: SR_STATE is 1 for the 0.8 us of an entry, and 3 from a cause to wake on (Table MEM-8, R125). -/
def State.wakeCause (s : State) : Nat :=
  if (List.range 48).any (fun e => decide (s.tolNow e ≤ 32 + s.get MEM_SR_CFG.MARGIN)) then 1
  else if s.bePending || !s.mem.writeQ.isEmpty || !s.mem.stalled.isEmpty then 2
  else if s.windowNear s.now then 3 else if !s.flag MEM_CTRL.SR_EN then 4 else 0

def State.memStatusNow (s : State) : Nat :=
  let v := s.rdN MEM_STATUS
  if s.get MEM_STATUS.SR_STATE ≠ 2 then v
  else if s.now < s.mem.sleepAt + 3200 then setBits v 3 2 1
  else if s.wakeCause ≠ 0 ∧ !s.mem.refusing then setBits v 3 2 3
  else v

/-! ### Requests (R83, R86, R92, R111, R130) -/

/-- A local transaction of an engine: a write goes to its controllers' queues, a read waits for the queued writes it matches
(R118). -/
def State.addLocal (s : State) (r : MemReq) : State :=
  let ws := if r.write then [] else s.waitsFor r.addr r.len
  let v := { s with mem := { s.mem with reqs := s.mem.reqs ++ [{ r with
    pc := s.pcAt r.addr
    waits := ws }] } }
  let v := if r.write then
      v.offerWrite r.addr r.len ⟨0, r.engine, r.index, r.realTime, r.deadline, r.time⟩
    else if ws.isEmpty then v else v.inc (MEM_CTL_RAW.WAITS (pcController (s.pcAt r.addr)))
  (if r.realTime then v else v.memBusy).showTags r.engine

/-- A read of a REMOTE page (R128, R353): this device's own number is served by the export check, another one becomes
a READ_REQ; a request of a spare, or for a device number that no device holds, is refused at once. -/
def State.remoteRead (s : State) (base : MemReq) (gaddr : Nat) : State :=
  let dev := gaddr / 2 ^ 36
  let off := gaddr % 2 ^ 36
  if base.write then s.transFault base.ctx 4 base.va
  else match s.ownDevice with
    | none => s.transFault base.ctx 4 base.va
    | some own =>
      if dev = own then
        match s.exportDpa off own base.ctx with
        | none => s.transFault base.ctx 4 base.va
        | some dpa => if s.localShapeOk dpa base.len then s.addLocal { base with addr := dpa } else s
      else if (s.stationHolder dev).isNone then s.transFault base.ctx 4 base.va
      else
        let v := { s with mem := { s.mem with reqs := s.mem.reqs ++ [{ base with
          addr := gaddr
          issued := true }] } }
        (v.showTags base.engine).sendRead dev base.engine base.index base.gen base.ctx off base.len base.va base.deadline

/-- The engine whose buffer gives a request its class and deadline: for a translation walker (engines 40 and 41) the one whose
request missed, which `arg` names; for any other engine itself (R109, R112). -/
def requester (e arg : Nat) : Nat := if e = 40 ∨ e = 41 then arg % 48 else e

/-- MEM_REQUEST (R111): an engine asks for `len` bytes at virtual address `va` of context `c`, with `pixels` layer-pixels of
demand (R92). `arg` is the rate at which the engine's consumer drains its buffer now, in bytes per microsecond, from which the
deadline follows (R112); for a translation walker it is the engine whose request missed. The context's mapping must allow the
access (R83); a LOCAL or GRANT page makes a local transaction, a HOST page a host request (R86, R103), and a REMOTE page a
read over Laxus (R353). An access without a mapping or a permission is a translation fault. While MEM refuses requests a
real-time one counts as a missed deadline (R130). -/
def doMemRequest (dt e c va len pixels : Nat) (wr : Bool) (arg : Nat) (s : State) : State :=
  let t := s.tick dt
  t.onCoreIf (decide (e < 48)) fun u0 =>
    let q := requester e arg
    let rt := u0.requestClass q c pixels
    if u0.mem.refusing then (if rt then u0.inc (MEM_ENG_MISSES.COUNT e) else u0)
    else
      let u1 := { u0 with hif := { u0.hif with winDemand := tmod 0 u0.hif.winDemand c (· + pixels) } }
      let u := if q = e then u1.setDrainRate e arg else u1
      match u.translate c va wr with
      | .error k => u.transFault c k va
      | .ok m =>
        match u.freeIndex e with
        | none => u
        | some k =>
          let base : MemReq :=
            { engine := e, index := k, gen := u.flag (MEM_ENG_STATUS.GEN e), ctx := c, va := va, addr := m.dpa va, len := len,
              write := wr, realTime := rt, deadline := if rt then u.emptyAt q else none, missed := false, waits := [],
              time := u.now, pc := 0, issued := false, reissues := 0, hostFn := none }
          match m.kind with
          | .host =>
            if u.fnCanHost (c / 4) then
              (({ u with mem := { u.mem with reqs := u.mem.reqs ++ [{ base with hostFn := some (c / 4) }] } }).showTags e).pumpHost
            else u.transFault c 3 va
          | .remote => u.remoteRead base base.addr
          | _ => if u.localShapeOk base.addr len then u.addLocal base else u

/-! ### The aperture (R87, R118, R119) -/

/-- The context slot and virtual address that a BAR2 offset of a function reaches. -/
def State.apertureVa (s : State) (fn off : Nat) : Nat × Nat :=
  let c := 4 * fn + off / 2 ^ 32 % 4
  (c, s.get (HIF_CTX_APERTURE.BASE c) * 2 ^ 32 + off % 2 ^ 32)

/-- The parts of an access by 64 KiB page: the offset at which each starts, the bytes before it, and its length. -/
def pageParts (off len : Nat) : List (Nat × Nat × Nat) :=
  (List.range ((off % 65536 + len + 65535) / 65536)).map (fun i =>
    let a := max off ((off / 65536 + i) * 65536)
    (a, a - off, min (off + len) ((off / 65536 + i + 1) * 65536) - a))

/-- The device physical address that a part of an aperture access reaches, or what its failure leaves: an access event of a
context that does not exist, or a translation fault. A mapping that is not LOCAL counts as a missing permission, kind 2
(DESIGN CHOICE, log 121: R87 does not name the kind). -/
def State.aperturePart (s : State) (fn off : Nat) (wr : Bool) : Except State Nat :=
  let cv := s.apertureVa fn off
  if !s.ctxExists cv.1 then .error (s.accessEvent devQ (ctxBase + 0x10000 * cv.1) 5)
  else match s.translate cv.1 cv.2 wr with
    | .error k => .error (s.transFault cv.1 k cv.2)
    | .ok m => if m.kind = MapKind.loc then .ok (m.dpa cv.2) else .error (s.transFault cv.1 2 cv.2)

/-- An access that finds the stacks asleep wakes them (R125). -/
def State.wakeForHost (s : State) : State :=
  if s.get MEM_STATUS.SR_STATE = 2 ∧ !s.mem.refusing then s.wakeStacks 2 else s.memBusy

/-- The part of an inbound write that lies in one page: its bytes reach memory and the write queue, or it is dropped. -/
def State.apertureStore (s : State) (fn off : Nat) (bs : List Byte) : State :=
  match s.aperturePart fn off true with
  | .error t => t
  | .ok dpa => ((s.memWrite dpa bs).offerWrite dpa bs.length ⟨0, 42, 1024, false, none, s.now⟩).wakeForHost

/-- APERTURE_WRITE (R87, R119): each page's bytes reach an owned LOCAL mapping, or are dropped. MEM serves none while it refuses
requests (R130, R388). -/
def doApertureWrite (dt fn off : Nat) (bs : List Byte) (s : State) : State :=
  let t := s.tick dt
  t.onLiveIf (!t.mem.refusing) fun u =>
    foldOver (pageParts off bs.length) (fun p v => v.apertureStore fn p.1 ((bs.drop p.2.1).take p.2.2)) u

/-- The bytes of an inbound read, part by part: none once a part finds no LOCAL mapping. Each part that fails counts. A read that
matches a queued write waits for it and returns what it wrote (R118). -/
def State.apertureLoad (s : State) (fn : Nat) : List (Nat × Nat × Nat) → State × Option (List Byte)
  | [] => (s, some [])
  | p :: r =>
    match s.aperturePart fn p.1 false with
    | .error t => ((t.apertureLoad fn r).1, none)
    | .ok dpa =>
      let w := if (s.waitsFor dpa p.2.2).isEmpty then s else s.inc (MEM_CTL_RAW.WAITS (pcController (s.pcAt dpa)))
      let rest := (w.wakeForHost).apertureLoad fn r
      (rest.1, rest.2.map (fun l => dramRead s.mem.dram dpa p.2.2 ++ l))

/-- APERTURE_READ (R87): the bytes of LOCAL mappings with READ, or Unsupported Request. -/
def doApertureRead (dt fn off len : Nat) (s : State) : State :=
  let t := s.tick dt
  t.onLiveIf (!t.mem.refusing) fun u =>
    let r := u.apertureLoad fn (pageParts off len)
    match r.2 with
    | some bs => r.1.send (.readReply fn true bs)
    | none => r.1.send (.readReply fn false [])

/-! ### A pseudo-channel's next command (R113, Table MEM-2) -/

/-- The owed limit (Table MEM-10). -/
def State.postponeMax (s : State) : Nat := min 8 (s.get MEM_REFRESH_CFG.POSTPONE_MAX)

/-- Local requests waiting at a pseudo-channel. -/
def State.waiting (s : State) (p : Nat) : List MemReq :=
  s.mem.reqs.filter (fun r => r.pc == p && !r.issued && !r.write && r.hostFn.isNone)

/-- What is chosen: a forced refresh, a read, a queued write, or work of rank 7. -/
inductive PcWork where
  | refresh | txn (r : MemReq) | queued (w : WriteBlk) | postponable
  deriving DecidableEq, Repr

/-- The work with the least key; of equal keys the first. -/
def pickLeast : List (Nat × PcWork) → Option PcWork
  | [] => none
  | x :: l => match l.foldl (fun (a : Nat × PcWork) y => if y.1 < a.1 then y else a) x with
    | w => some w.2

/-- The queued writes of a pseudo-channel, oldest first. -/
def State.queuedAt (s : State) (p : Nat) : List WriteBlk :=
  s.mem.writeQ.filter (fun w => ((s.dpaToPc (w.block * 64)).map (·.1)) == some p)

/-- The grant of a stack in mW; 22 W before the arbiter's first tick (R131, log 121). -/
def State.stackGrant (s : State) (p : Nat) : Nat := tget 22000 s.mem.budget (pcStack p)

/-- Row activations of a pseudo-channel in the present 1 us window. Every transfer counts as one: the arrangement of rows is not
observable (R116, R131; log 121). -/
def State.actNow (s : State) (p : Nat) : Nat :=
  let x := s.pcState p
  if x.actWindow = s.now / usSteps then x.actCount else 0

/-- The grant allows one more activation in this window (R131). -/
def State.actLeft (s : State) (p : Nat) : Bool := decide (s.actNow p < (Config.actLimit (s.stackGrant p)).toNat)

/-- Rank by rank, the command a controller chooses for a pseudo-channel (Table MEM-2). A retrain of rank 1 happens within
HBM_RETRAIN_WINDOW. Best-effort work is withheld where the grant is used up, but for a write that a read waits for; a class 6
grant below its demand suspends rank 3 (R131, Table THM-7). -/
def State.choosePc (s : State) (p : Nat) : PcWork :=
  let x := s.pcState p
  let reads := (s.waiting p).filter (fun r => r.waits.isEmpty)
  let q := s.queuedAt p
  let left := s.actLeft p
  let rtReads := (reads.filter (·.realTime)).map (fun r => (r.deadline.getD (2 ^ 64), PcWork.txn r))
  let urgent := (reads.filter (fun r => r.realTime && r.deadline.any (fun d => decide (d < s.now + 4800)))).map (fun r =>
    (r.deadline.getD (2 ^ 64), PcWork.txn r))
  let matched := q.filter (fun w => (s.waiting p).any (fun r => thas r.waits w.block))
  let asRt := fun (l : List WriteBlk) => (l.filter (·.realTime)).map (fun w => (w.deadline.getD (2 ^ 64), PcWork.queued w))
  let asBe := fun (l : List WriteBlk) => (l.filter (fun w => !w.realTime)).map (fun w => (w.time, PcWork.queued w))
  let be := ((reads.filter (fun r => !r.realTime)).map (fun r => (r.time, PcWork.txn r)) ++ asBe q).filter (fun _ => left)
  let few := decide ((x.recent.filter (fun f => f)).length < s.get MEM_CTRL.BE_MIN) &&
    decide (s.get (LMP_PKG_CLASS.DEMAND 6) ≤ s.get (LMP_PKG_CLASS.GRANT 6))
  let drained := if s.mem.drain.contains (pcController p) then q.filter (fun w => w.realTime || left) else []
  if s.postponeMax ≤ x.owed ∧ 0 < x.owed then .refresh
  else
    (((((((pickLeast (urgent ++ asRt matched)).or (pickLeast (asBe matched))).or
      (if few then pickLeast be else none)).or (drained.head?.map PcWork.queued)).or
      (pickLeast (rtReads ++ asRt q))).or (pickLeast be)).getD .postponable)

def sameTag (a b : MemReq) : Bool := a.engine == b.engine && a.index == b.index

/-- Drain mode begins above 384 entries of a controller's queue and ends below 128 (Table MEM-2, R119). -/
def State.setDrain (s : State) (k : Nat) : State :=
  let n := s.queueLen k
  let d := s.mem.drain.filter (fun c => c != k)
  { s with mem := { s.mem with
      drain := if 384 < n ∨ (128 ≤ n ∧ s.mem.drain.contains k) then d ++ [k] else d } }

/-- The controller reads the check line of a protected block into its cache of 256 lines, or finds it there (R126). -/
def State.touchLine (s : State) (dpa : Nat) : State :=
  match s.dpaToPc dpa with
  | none => s
  | some (p, off) =>
    if !s.dpaEcc dpa then s
    else
      let k := pcController p
      let l := p * 2 ^ 24 + off / 2048
      { s with mem := { s.mem with lines := tset s.mem.lines k ((l :: (tget [] s.mem.lines k).erase l).take 256) } }

/-- A transfer of a pseudo-channel takes place: its class is among the last 64, it counts as an activation, and real-time work
beyond the grant is reported (R113, R131). -/
def State.transfer (s : State) (p : Nat) (realTime : Bool) : State :=
  let x := s.pcState p
  let n := s.actNow p
  let beyond := realTime && !s.actLeft p
  let t := s.setPc p { x with
    recent := ((!realTime) :: x.recent).take 64
    actWindow := s.now / usSteps
    actCount := n + 1 }
  { t with mem := { t.mem with excess :=
      if beyond && !t.mem.excess.contains (pcStack p) then t.mem.excess ++ [pcStack p] else t.mem.excess } }

/-- One of the writes that a read of the block waits for has reached DRAM. -/
def lessWait (b : Nat) (r : MemReq) : MemReq :=
  { r with waits := (r.waits.map (fun e => if e.1 = b then (e.1, e.2 - 1) else e)).filter (fun e => e.2 != 0) }

/-- A queued write reaches DRAM. -/
def State.drainWrite (s : State) (w : WriteBlk) : State :=
  (({ s with mem := { s.mem with
    writeQ := s.mem.writeQ.erase w
    reqs := s.mem.reqs.map (lessWait w.block) } }).acceptWrites).touchLine (64 * w.block)

/-- Banks of a pseudo-channel (R120; log 16). -/
def hbmBanks : Nat := Config.hbmBanks.toNat + 1

/-- Rank 7 (R120): an owed refresh catches up; otherwise a per-bank refresh of an idle bank, a full round of which counts as one
all-bank refresh. -/
def PcSt.catchUp (x : PcSt) : PcSt :=
  if 0 < x.owed then { x with owed := x.owed - 1 }
  else if hbmBanks ≤ x.bankRound + 1 then { x with
    bankRound := 0
    rounds := x.rounds + 1 }
  else { x with bankRound := x.bankRound + 1 }

/-- The requests that MEM has accepted and that still need DRAM. -/
def State.localPending (s : State) : Bool :=
  s.mem.reqs.any (fun r => r.hostFn.isNone && !thas s.lxs.reads (tagOf r.engine r.index r.gen)) || !s.mem.writeQ.isEmpty ||
    !s.mem.stalled.isEmpty

/-- In a shutdown the stacks sleep once every accepted request is complete and the queues are drained (R130). -/
def State.restStacks (s : State) : State :=
  if s.mem.refusing && s.flag MEM_STATUS.TRAINED && s.get MEM_STATUS.SR_STATE != 2 && !s.localPending then s.sleepStacks else s

/-- PC_COMMAND_ISSUE (R113, R118, R120). -/
def doPcCommandIssue (dt p : Nat) (s : State) : State :=
  let t := s.tick dt
  t.onCoreIf (decide (p < 64) && t.get MEM_STATUS.SR_STATE == 0 && t.flag MEM_STATUS.TRAINED) fun u0 =>
    let u := u0.setDrain (pcController p)
    let x := u.pcState p
    match u.choosePc p with
    | .refresh =>
      (u.setPc p { x with owed := x.owed - 1 }).put (MEM_CTL_REFRESH.FORCED (pcController p))
        (u.get (MEM_CTL_REFRESH.FORCED (pcController p)) + 1)
    | .postponable => u.setPc p x.catchUp
    | .queued w => (((u.drainWrite w).transfer p w.realTime).busyUnless u).restStacks
    | .txn r =>
      (({ u with mem := { u.mem with
          reqs := u.mem.reqs.map (fun q => if sameTag q r then { q with issued := true } else q) } }).touchLine r.addr).transfer p
        r.realTime

/-- DEADLINE_MISS (R115): the passed deadline of a real-time request is counted once; the request still completes. A writeback
engine's leaves the frames that it writes incomplete (R159, R161). -/
def doDeadlineMiss (dt e k : Nat) (s : State) : State :=
  let t := s.tick dt
  let hit := fun (r : MemReq) => r.engine == e && r.index == k && r.realTime && !r.missed && r.deadline.any (fun d => decide (d < t.now))
  t.onLiveIf (t.mem.reqs.any hit) fun u0 =>
    let u := { u0 with cmp := { u0.cmp with wb := u0.cmp.wb.map (fun (w : WbSt) =>
      if w.engines.contains e then { w with incomplete := true } else w) } }
    ({ u with mem := { u.mem with reqs := u.mem.reqs.map (fun r => if hit r then { r with missed := true } else r) } }).inc
      (MEM_ENG_MISSES.COUNT e)

/-! ### Refresh and temperature (R120, R121) -/

/-- The refresh interval of a band in steps: 3.9, 1.95 or 0.975 us (Table MEM-5). -/
def refreshInterval (band : Nat) : Nat := if band = 0 then 15600 else if band = 1 then 7800 else 3900

/-- REFRESH_DUE (R120, R121): the interval of the stack's band has passed, and the stack has been read since it last slept. A
full round of per-bank refreshes stands in for it. It is postponed while a real-time request is pending; at the limit one
refresh is forced, and owed then stays at the limit minus one until traffic allows catch-up. -/
def doRefreshDue (dt p : Nat) (s : State) : State :=
  let t := s.tick dt
  t.onLiveIf (decide (p < 64) && t.get MEM_STATUS.SR_STATE == 0 && t.flag MEM_STATUS.TRAINED &&
      !t.mem.tempNeed.contains (pcStack p) &&
      decide ((t.pcState p).lastDue + refreshInterval (t.get (MEM_STACK_TEMP.BAND (pcStack p))) ≤ t.now)) fun u0 =>
    let u := u0.setPc p { u0.pcState p with lastDue := u0.now }
    let x := u.pcState p
    let k := pcController p
    let busy := (u.waiting p).any (·.realTime) || (u.queuedAt p).any (·.realTime)
    if 0 < x.rounds then u.setPc p { x with rounds := x.rounds - 1 }
    else if !busy then u
    else
      let owed := x.owed + 1
      let u1 := u.put (MEM_CTL_REFRESH.MAX_OWED k) (max (min 15 owed) (u.get (MEM_CTL_REFRESH.MAX_OWED k)))
      if u.postponeMax ≤ owed then
        (u1.setPc p { x with owed := owed - 1 }).inc (MEM_CTL_REFRESH.FORCED k)
      else u1.setPc p { x with owed := owed }

/-- The entry temperatures of bands S1 to S4 in °C (Table MEM-5). -/
def bandEntry : List Int := [85, 95, 105, 110]

/-- The band after a reading: up at an entry temperature, down 3 K below it (R121). -/
def stackBand (old : Nat) (temp : Int) : Nat :=
  let up := (bandEntry.filter (fun b => b ≤ temp)).length
  let hold := (bandEntry.filter (fun b => b - 3 ≤ temp)).length
  if old ≤ up then up else min old hold

/-! ### Retraining and parity (R122, R123) -/

/-- The retrain period in ms, clamped to 10 to 1,000 (Table MEM-10). -/
def State.retrainMs (s : State) : Nat := clampN 10 1000 (s.get MEM_RETRAIN_CFG.PERIOD_MS)

/-- Spare lanes of a pseudo-channel for remapping (R123); the spec gives no count (log 16). -/
def laneSpares : Nat := Config.hbmLaneSpares.toNat

/-- HBM3E spare lanes left, as the Cullet shows them (R123). -/
def State.showHbmSpares (s : State) : State :=
  s.putSat CAL_CULLET.HBM_LANES (listSum ((List.range 64).map (fun p => laneSpares - (s.pcState p).sparesUsed)))

/-- One pseudo-channel in a window: pending remaps are applied while spares last, each fencing its lane; and an overdue channel
retrains, which also performs its refresh (R122, R123, R413). -/
def State.windowPc (s : State) (p : Nat) : State :=
  let x := s.pcState p
  let use := min x.remap.length (laneSpares - x.sparesUsed)
  let s0 := foldOver (x.remap.take use) (fun l (t : State) => t.fenceUnit fenceHbm p l) s
  let s1 := s0.incSat (MEM_CTL_PARITY.REMAPS (pcController p)) use
  let s2 := if use < x.remap.length ∧ !x.degraded then
      ((s1.put MEM_STATUS.DEGRADED 1).put MEM_STATUS.FAIL_PC p).raise 0x0C02 p 0 0
    else s1
  let due := decide (x.lastRetrain + s.retrainMs * msSteps ≤ s.now)
  s2.setPc p { x with
    remap := []
    sparesUsed := x.sparesUsed + use
    degraded := x.degraded || decide (use < x.remap.length)
    lastRetrain := if due then s.now else x.lastRetrain
    owed := if due then x.owed - 1 else x.owed
    lastWindow := s.now
    overdueRaised := false }

/-- A margin session's work in a window (R409): every controller performs 8 sweep steps, which stand in for the retrain
of the pseudo-channel that they sweep. -/
def State.sweepWindow (s : State) : State :=
  match tfind s.cal.sess 5 with
  | none => s
  | some x =>
    if 64 ≤ x.windows then s
    else
      let s1 := foldOver (List.range 8) (fun c (t : State) =>
        let p := 8 * c + x.windows / 8
        t.setPc p { t.pcState p with lastRetrain := t.now }) s
      { s1 with cal := { s1.cal with sess := tset s1.cal.sess 5 { x with windows := x.windows + 1 } } }

/-- The retraining window of the running LF as a fabric event (R16, R122). -/
def State.hbmWindow (s : State) : FabEvent := { kind := .hbm, lfn := s.tim.lfn, unit_ := 0, slot := 0, line := 0 }

/-- HBM_RETRAIN_WINDOW (R16, R122): the window that the fabric placed in this LF, at SEQ_HBM_WIN.PHASE; no retrain while the
stacks sleep (Table MEM-6). -/
def doHbmRetrainWindow (dt : Nat) (s : State) : State :=
  let t := s.tick dt
  t.onLiveIf (t.flag MEM_STATUS.TRAINED && t.seq.fab.contains t.hbmWindow &&
      decide (t.phaseInstant (t.actGet SEQ_HBM_WIN.PHASE) ≤ t.now)) fun u =>
    let v := { u with seq := { u.seq with fab := u.seq.fab.erase u.hbmWindow } }
    if v.get MEM_STATUS.SR_STATE ≠ 0 then v
    else ((foldOver (List.range 64) (fun p v => v.windowPc p) v).sweepWindow).showHbmSpares

/-- RETRAIN_OVERDUE (R122): 4 periods without a window; a sleep is none, since its exit retrains (Table MEM-6). -/
def doRetrainOverdue (dt p : Nat) (s : State) : State :=
  let t := s.tick dt
  let x := t.pcState p
  t.onLiveIf (decide (p < 64) && t.flag MEM_STATUS.TRAINED && t.get MEM_STATUS.SR_STATE == 0 && !x.overdueRaised &&
      decide (x.lastWindow + 4 * t.retrainMs * msSteps ≤ t.now))
    (fun u => (u.setPc p { x with overdueRaised := true }).raise 0x0C03 p 0 0)

/-- PARITY_ERROR (R123): on lane `lane` of a transaction of pseudo-channel p; the first error reissues it. A second one on it, or 16
on the lane within 1 s, marks the lane. -/
def doParityError (dt p lane e k : Nat) (s : State) : State :=
  let t := s.tick dt
  t.onLiveIf (decide (p < 64)) fun u =>
    let x := u.pcState p
    let second := u.mem.reqs.any (fun r => r.engine == e && r.index == k && decide (1 ≤ r.reissues))
    let times := (u.now :: (tget [] x.laneErrs lane).filter (fun a => decide (u.now < a + secSteps))).take 16
    let mark := second || decide (16 ≤ times.length)
    let u1 := u.incSat (MEM_CTL_PARITY.ERRORS (pcController p)) 1
    let again := fun (r : MemReq) =>
      if r.engine == e && r.index == k then { r with reissues := r.reissues + 1, issued := false } else r
    let u2 := { u1 with mem := { u1.mem with reqs := u1.mem.reqs.map again } }
    u2.setPc p { x with
      laneErrs := tset x.laneErrs lane times
      remap := if mark && !x.remap.contains lane then x.remap ++ [lane] else x.remap }

/-! ### Self-refresh (R124, R125) -/

/-- SELF_REFRESH_ENTRY: the conditions have held for MIN_DWELL. -/
def doSelfRefreshEntry (dt : Nat) (s : State) : State :=
  let t := s.tick dt
  t.onLiveIf (t.get MEM_STATUS.SR_STATE == 0 && t.flag MEM_STATUS.TRAINED && t.sleepOk (t.now - t.dwell) && !t.mem.refusing &&
      decide (t.mem.idleSince + t.dwell ≤ t.now)) (fun u => u.sleepStacks)

/-- SELF_REFRESH_EXIT: the exit that a cause of LAST_WAKE began is complete. -/
def doSelfRefreshExit (dt : Nat) (s : State) : State :=
  let t := s.tick dt
  t.onLiveIf (t.get MEM_STATUS.SR_STATE == 2 && t.wakeCause != 0 && !t.mem.refusing) (fun u => u.wakeStacks u.wakeCause)

/-! ### ECC, training and shutdown (R127, R129, R130) -/

/-- A corrected error is counted; an uncorrectable one is counted, recorded and logged (R127). -/
def State.eccCorrected (s : State) (pc : Nat) : State := s.incSat (MEM_CTL_ECC.CE (pcController pc)) 1

def State.eccUncorrectable (s : State) (pc dpa : Nat) : State :=
  (((s.incSat (MEM_CTL_ECC.UE (pcController pc)) 1).put MEM_ECC_ADDR_LO.DPA_LOW (dpa / 64)).put MEM_ECC_ADDR_HI.DPA_HIGH
    (dpa / 2 ^ 32)).raise 0x0C01 (pcController pc) (dpa / 64) 0

/-- A local transaction of a read that this device serves for another one completes on engine 44 or 45: after the last one its
response goes out (R111, R353). -/
def State.serveDone (s : State) (e k ecc : Nat) : State :=
  match s.lxs.serves.find? (fun v => v.2.engine == e && v.2.left.contains k) with
  | none => s
  | some (id, v) =>
    let left := v.left.erase k
    let bad := v.bad || ecc == 2
    if !left.isEmpty then
      { s with lxs := { s.lxs with serves := tset s.lxs.serves id { v with
        left := left
        bad := bad } } }
    else
      let s1 := { s with lxs := { s.lxs with serves := tdel s.lxs.serves id } }
      if bad then s1.sendResp v.src v.tag v.seq 2 []
      else s1.sendResp v.src v.tag v.seq 0 ((List.range (v.len / 8)).map (fun i => ofLE (dramRead s.mem.dram (v.addr + 8 * i) 8)))

/-- Whether a transaction may complete: a local write once its blocks are accepted (R118), any other once it is issued; a remote
read completes by READ_RESP. -/
def State.mayComplete (s : State) (r : MemReq) : Bool :=
  !thas s.lxs.reads (tagOf r.engine r.index r.gen) &&
    (if r.write && r.hostFn.isNone then !s.mem.stalled.any (fun w => w.engine == r.engine && w.index == r.index) else r.issued)

/-- What the inline ECC finds in a transaction: a block marked uncorrectable always fails (R127). -/
def State.eccOf (s : State) (r : MemReq) (ecc : Nat) : Nat :=
  if r.hostFn.isSome || !s.dpaEcc r.addr then 0
  else if s.mem.marked.any (fun e => decide (r.addr / 64 ≤ e.1) && decide (64 * e.1 < r.addr + r.len)) then 2 else ecc

/-- What ECC found in a completed request: it is counted, faults the page of a walk, and leaves the block of a writeback's
read-modify-write marked (R127; the fault's kind 1 is a DESIGN CHOICE, log 121). -/
def State.noteEcc (s : State) (r : MemReq) (e found : Nat) : State :=
  let v := if found = 1 then s.eccCorrected r.pc else if found = 2 then s.eccUncorrectable r.pc r.addr else s
  let v := if found = 2 ∧ r.write then { v with mem := { v.mem with marked := tset v.mem.marked (r.addr / 64) 0 } } else v
  if found = 2 ∧ (e = 40 ∨ e = 41) then v.transFault r.ctx 1 r.va else v

/-- A completion of an older generation of a function's host requests is counted (R103). -/
def State.countStale (s : State) (r : MemReq) (stale : Bool) : State :=
  match r.hostFn with
  | some f => if stale then s.inc (HIF_FN_STATUS.STALE f) else s
  | none => s

/-- A completion of the engine's present generation gives its data, unless it has none (`none_`); one of an older generation is
discarded and counted (R110). -/
def State.takeData (s : State) (r : MemReq) (e : Nat) (none_ current : Bool) : State :=
  if !current then s.incSat (MEM_ENG_STATUS.STALE e) 1 else if none_ then s else s.fillBuf e r.len

/-- MEM_COMPLETION (R110, R114): the tag is freed; data of an old generation is discarded and counted. `ecc` says what
the inline ECC of a protected block found: 0 nothing, 1 a corrected error, 2 an uncorrectable one, which returns no
data; in a walk it is a translation fault for the page (kind 1; DESIGN CHOICE, log 121), and in a writeback's
read-modify-write it leaves the block marked (R127). -/
def doMemCompletion (dt e k ecc : Nat) (s : State) : State :=
  let t := s.tick dt
  match t.mem.reqs.find? (fun r => r.engine == e && r.index == k && t.mayComplete r) with
  | none => t
  | some r => t.onCore fun u =>
    let user := fun (g : HostTag) => g.user == TagUser.fetch e k
    let stale := u.hif.tags.any (fun g => user g && g.old)
    let found := u.eccOf r ecc
    let current := r.gen == u.flag (MEM_ENG_STATUS.GEN e)
    let v := ({ u with mem := { u.mem with reqs := u.mem.reqs.filter (fun q => !sameTag q r) } }).freeTag user
    let v := ((v.noteEcc r e found).countStale r stale).takeData r e (r.write || found = 2 || stale) current
    (((v.serveDone e k found).showTags e).busyUnless u).pumpHost.restStacks

/-! ### Stale and lost host completions (R103) -/

/-- A host request ends without its data: its transaction is over. -/
def State.endFetch (s : State) (e k : Nat) : State :=
  ({ s with mem := { s.mem with reqs := s.mem.reqs.filter (fun (r : MemReq) => !(r.engine == e && r.index == k)) } }).showTags e

/-- The tag of a host request is freed and its transaction ends. -/
def State.endTag (s : State) (g : HostTag) : State :=
  let t := { s with hif := { s.hif with tags := s.hif.tags.erase g } }
  match g.user with
  | .fetch e k => t.endFetch e k
  | .ring _ => t

/-- STALE_COMPLETION (R103): the completion of an older generation is accepted, discarded and counted. -/
def doStaleCompletion (dt f : Nat) (s : State) : State :=
  let t := s.tick dt
  t.onLive fun u =>
    match u.hif.tags.find? (fun g => g.fn == f && g.old) with
    | none => u
    | some g => ((u.endTag g).inc (HIF_FN_STATUS.STALE f)).pumpHost

/-- HOST_COMPLETION_TIMEOUT (R80, R103): a tag of a generation has been outstanding for the completion timeout and is freed. An
access that still counts finds its HOST mapping unreachable; a ring's entry is read again. -/
def doHostCompletionTimeout (dt f : Nat) (old : Bool) (s : State) : State :=
  let t := s.tick dt
  t.onLive fun u =>
    match u.hif.tags.find? (fun g => g.fn == f && g.old == old && decide (g.time + completionSteps ≤ u.now)) with
    | none => u
    | some g =>
      let v := u.endTag g
      (match g.user with
        | .fetch e k =>
          (match u.mem.reqs.find? (fun (r : MemReq) => r.engine == e && r.index == k) with
            | some r => if old then v else v.transFault r.ctx 3 r.va
            | none => v)
        | .ring _ => v).pumpHost

/-- PATROL_SCRUB (R127): the block at a DPA of a protected group is read; `found` is 0 clean, 1 corrected,
2 uncorrectable. -/
def doPatrolScrub (dt dpa found : Nat) (s : State) : State :=
  let t := s.tick dt
  t.onLiveIf (t.flag MEM_CTRL.PATROL && t.flag MEM_STATUS.TRAINED && t.dpaEcc dpa) fun u =>
    let pc := ((u.dpaToPc dpa).map (·.1)).getD 0
    let v := { u with mem := { u.mem with patrolAt := dpa } }
    if found = 1 then v.eccCorrected pc else if found = 2 then v.eccUncorrectable pc dpa else v

/-- HBM_TRAINING_DONE (R129): the lane remaps of the repair map stand; after a success every page outside the carve-outs waits to
be scrubbed (R84); a failure names its pseudo-channel and start-up goes no further. -/
def doHbmTrainingDone (dt : Nat) (ok : Bool) (failPc : Nat) (s : State) : State :=
  let t := s.tick dt
  t.onLiveIf (t.cfg.imageRunning && !t.flag MEM_STATUS.TRAINED && !t.flag MEM_STATUS.TRAIN_FAIL) fun u =>
    if ok then
      (let v := ((u.put MEM_STATUS.TRAINED 1).put HIF_STATUS.SCRUB_BUSY 1).put HIF_POOL_FREE.PAGES 0
       let v := { v with hif := { v.hif with pages := [] } }
       let v := foldOver (List.range 64) (fun p w => w.setPc p { PcSt.init with
         sparesUsed := min laneSpares (w.cal.field.filter (fun e => e.kind == fenceHbm && e.unit_ == p)).length
         lastRetrain := w.now
         lastWindow := w.now
         lastDue := w.now }) v
       v.showHbmSpares.memBusy)
    else ((u.put MEM_STATUS.TRAIN_FAIL 1).put MEM_STATUS.FAIL_PC failPc).raise 0x0C04 failPc 0 0

/-- The orderly shutdown class: new requests are refused, those accepted complete, the write queues are drained, and then both
stacks sleep (R130). -/
def State.memShutdown (s : State) : State :=
  let v := { s with mem := { s.mem with refusing := true } }
  let w := if v.get MEM_STATUS.SR_STATE = 2 ∧ v.localPending then v.wakeStacks 2 else v
  w.restStacks

/-- At the end of the grace MEM's part, which takes at most 100 us, is over (R130, R385). -/
def State.memRest (s : State) : State :=
  ({ s with mem := { s.mem with
    reqs := s.mem.reqs.filter (fun (r : MemReq) => r.hostFn.isSome || thas s.lxs.reads (tagOf r.engine r.index r.gen))
    writeQ := []
    stalled := []
    drain := [] } }).restStacks

end Sys2Proof.Machine
end

