-- ==== Sys2Proof/Machine/Binary64.lean ====
section
/-! DEFINITION. IEEE 754 binary64 arithmetic on finite values: every operation rounds its exact result once, to the nearest value
with 53 significant bits, ties to even (R177, R178). -/
namespace Sys2Proof.Machine

/-- n / d rounded to the nearest integer, ties to even. -/
def divEven (n d : Nat) : Nat :=
  let q := n / d
  let r := n % d
  if d < 2 * r ∨ (2 * r = d ∧ q % 2 = 1) then q + 1 else q

/-- The exponent k for which n × 2^k / d has 53 bits before the point, and at most 1,074 (subnormal values). -/
def b64Shift (n d : Nat) : Int :=
  let k : Int := 53 + (Nat.log2 d : Int) - (Nat.log2 n : Int)
  let fits := fun (j : Int) => decide ((n : Int) * 2 ^ j.toNat < (d : Int) * 2 ^ (53 + (-j).toNat))
  min 1074 (if fits k then k else k - 1)

/-- The binary64 value nearest to a rational number. -/
def b64 (x : Rat) : Rat :=
  if x = 0 then 0
  else
    let n := x.num.natAbs
    let k := b64Shift n x.den
    let m : Rat := ((divEven (n * 2 ^ k.toNat) (x.den * 2 ^ (-k).toNat) : Nat) : Rat)
    let y := m * ((2 ^ (-k).toNat : Nat) : Rat) / ((2 ^ k.toNat : Nat) : Rat)
    if x < 0 then -y else y

def bAdd (a b : Rat) : Rat := b64 (a + b)
def bSub (a b : Rat) : Rat := b64 (a - b)
def bMul (a b : Rat) : Rat := b64 (a * b)
def bDiv (a b : Rat) : Rat := b64 (a / b)

/-- A sum from left to right. -/
def bSum (l : List Rat) : Rat := l.foldl bAdd 0

end Sys2Proof.Machine
end

