-- ==== Sys2Proof/Machine/Curve.lean ====
section
/-! DEFINITION. Curves by exact arithmetic: powers with rational exponents rounded to integers, the transfer
functions of Table COL-3 and the shaper of R173. The spec computes the tables in binary64; the model rounds the
exact value (log 23). The PQ and HLG constants are those of the named standards (log 24). -/
namespace Sys2Proof.Machine

/-- round((cn / cd) × (a / b)^(p / q)), half up, for results below 2^40. -/
def powRound (cn cd a b p q : Nat) : Nat :=
  (irootGo q ((2 * cn) ^ q * a ^ p / (cd ^ q * b ^ p)) 41 0 + 1) / 2

/-- e^x for x in units of 2^-160, by its series. -/
def expFix (x : Int) : Nat → Int → Int → Int → Int
  | 0, _, _, acc => acc
  | n + 1, k, term, acc =>
    let t := fdiv (term * x) (k * (2 : Int) ^ 160)
    expFix x n (k + 1) t (acc + t)

def expOf (x : Int) : Int := expFix x 80 1 ((2 : Int) ^ 160) ((2 : Int) ^ 160)

/-- 2^20 × L(V) / ref for the SMPTE ST 2084 EOTF at V = i / 4096. -/
def pqEntry (ref i : Nat) : Nat :=
  let a := irootGo 2523 (2 ^ (64 * 2523) * i ^ 32 / 4096 ^ 32) 65 0
  let num := a * 4096 - 3424 * 2 ^ 64
  let den := 2413 * 2 ^ 64 - 2392 * a
  powRound (2 ^ 20 * 10000) ref (num * 128) (den * 4096) 8192 1305

/-- 2^20 × the inverse of the BT.2100 HLG OETF at V = i / 4096. -/
def hlgEntry (i : Nat) : Nat :=
  if i ≤ 2048 then divRound (2 ^ 20 * i * i) (3 * 4096 * 4096)
  else
    let x := fdiv (((i : Int) * 100000000 - 55991073 * 4096) * (2 : Int) ^ 160) (17883277 * 4096)
    (fdivRound ((expOf x * 100000000 + 28466892 * (2 : Int) ^ 160) * (2 : Int) ^ 20) (12 * 100000000 * (2 : Int) ^ 160)).toNat

/-- Entry i of the decode table of a transfer-function code (R169, Table COL-3). -/
def decodeEntry (tf ref i : Nat) : Nat :=
  min (2 ^ 28 - 1)
    (match tf with
     | 0 => i * 256
     | 1 => if i * 1000 < 81 * 4096 then divRound (512 * i) 9
            else powRound (2 ^ 20) 1 (1000 * i + 99 * 4096) (1099 * 4096) 20 9
     | 2 => powRound (2 ^ 20) 1 i 4096 12 5
     | 3 => if i * 100000 ≤ 4045 * 4096 then divRound (25600 * i) 1292
            else powRound (2 ^ 20) 1 (1000 * i + 55 * 4096) (1055 * 4096) 12 5
     | 4 => pqEntry ref i
     | 5 => hlgEntry i
     | _ => 0)

/-- A 16-bit code value decoded to 8.20 linear light (R169). -/
def decodeCode (tf ref c : Nat) : Nat :=
  let x := c + c / 2 ^ 15
  let i := x / 16
  let f : Nat := x % 16
  let t0 : Int := decodeEntry tf ref i
  if f = 0 then t0.toNat
  else (t0 + fdiv (((decodeEntry tf ref (i + 1) : Int) - t0) * (f : Int) + 8) 16).toNat

/-- The inverse of F is found in units of 2^-96 of full scale, far finer than any code (log 25). -/
abbrev encBits : Nat := 96

/-- floor(2^96 × (a / b)^(p / q)) for a result at most 2^97. -/
def powFix (a b p q : Nat) : Nat := irootGo q (2 ^ (encBits * q) * a ^ p / b ^ p) (encBits + 2) 0

/-- The V in units of 2^-96 whose HLG light is the largest at most v / 2^20, by bisection on e^x. -/
def hlgInverse (v : Nat) : Nat → Nat → Nat
  | 0, c => c
  | k + 1, c =>
    let d := c + 2 ^ k
    let x := fdiv (((d : Int) * 100000000 - 55991073 * 2 ^ 96) * (2 : Int) ^ 160) (17883277 * 2 ^ 96)
    let light := expOf x * 100000000 + 28466892 * (2 : Int) ^ 160
    hlgInverse v k (if light * 2 ^ 20 ≤ (v : Int) * 12 * 100000000 * 2 ^ 160 then d else c)

/-- The inverse of F at a linear value in 8.20, in units of 2^-96 of full scale and at most 1 (R160, R169, log 25). -/
def encodeFix (tf ref v : Nat) : Nat :=
  min (2 ^ encBits)
    (match tf with
     | 0 => v * 2 ^ 76
     | 1 => if v * 1000 < 18 * 2 ^ 20 then v * 2 ^ 76 * 9 / 2 else (1099 * powFix v (2 ^ 20) 9 20 - 99 * 2 ^ 96) / 1000
     | 2 => powFix v (2 ^ 20) 5 12
     | 3 => if v * 1292000 ≤ 4045 * 2 ^ 20 then v * 2 ^ 76 * 1292 / 100
            else (1055 * powFix v (2 ^ 20) 5 12 - 55 * 2 ^ 96) / 1000
     | 4 => let y := powFix (v * ref) (2 ^ 20 * 10000) 1305 8192
            powFix (3424 * 2 ^ 96 + 2413 * 32 * y) (4096 * 2 ^ 96 + 2392 * 32 * y) 2523 32
     | _ => if v * 12 ≤ 2 ^ 20 then powFix (3 * v) (2 ^ 20) 1 2 else hlgInverse v 96 0)

/-- Entry i of the shaper (R173). -/
def shaperEntry (i : Nat) : Nat := powRound 65535 1 i 4096 5 12

/-- The shaped value of a channel (R173, step 1). -/
def shape (x : Nat) : Nat :=
  if 2 ^ 20 ≤ x then 65535
  else
    let i := x / 256
    let f := x % 256
    shaperEntry i + ((shaperEntry (i + 1) - shaperEntry i) * f + 128) / 256

/-- The largest i at most 4,095 whose shaper entry is at most a value. -/
def shaperIndex (v : Nat) : Nat → Nat → Nat
  | 0, i => i
  | b + 1, i => shaperIndex v b (if i + 2 ^ b ≤ 4095 ∧ shaperEntry (i + 2 ^ b) ≤ v then i + 2 ^ b else i)

/-- The inverse shaper (R173, step 3). -/
def unshape (v : Nat) : Nat :=
  let i := shaperIndex v 12 0
  let d := shaperEntry (i + 1) - shaperEntry i
  256 * i + ((v - shaperEntry i) * 256 + d / 2) / max 1 d

end Sys2Proof.Machine
end

