-- ==== Sys2Proof/Machine/Tim.lean ====
section
/-! DEFINITION. The timebase: references, DPLL, period of the LF, system time and the snapshot request
(spec/02, R34 to R43, R52 to R59). The shutter windows are in Shutter.lean. -/
namespace Sys2Proof.Machine

/-! ### References (Table TIM-2) -/

/-- Reference codes of Table TIM-2; 4 names the REF10M_IN detector. -/
abbrev refFree : Nat := 0
abbrev refGenlock : Nat := 1
abbrev refFrame : Nat := 2
abbrev refLaxus : Nat := 3
abbrev refTenMeg : Nat := 4

/-- Whether a reference is valid (Table TIM-2): FREE always is. -/
def State.refValid (s : State) (r : Nat) : Bool :=
  match r with
  | 0 => true
  | 1 => s.flag TIM_REF_STATUS.GENLOCK_VALID
  | 2 => s.flag TIM_REF_STATUS.FRAME_VALID
  | 3 => s.flag TIM_REF_STATUS.LAXUS_VALID
  | 4 => s.flag TIM_REF_STATUS.REF10M_VALID
  | _ => false

def State.setRefValid (s : State) (r : Nat) (b : Bool) : State :=
  match r with
  | 1 => s.putB TIM_REF_STATUS.GENLOCK_VALID b
  | 2 => s.putB TIM_REF_STATUS.FRAME_VALID b
  | 3 => s.putB TIM_REF_STATUS.LAXUS_VALID b
  | 4 => (s.putB TIM_REF_STATUS.REF10M_VALID b).putB TIM_REF_STATUS.FREE_SRC b
  | _ => s

def State.ref (s : State) (r : Nat) : RefSt := tget RefSt.init s.tim.refs r

def State.setRef (s : State) (r : Nat) (x : RefSt) : State :=
  { s with tim := { s.tim with refs := tset s.tim.refs r x } }

/-- Whether the device has joined a Laxus system and is not its timing root: it locks to LAXUS (R41). -/
def State.nonRootMember (s : State) : Bool :=
  decide (3 ≤ s.get LXS_STATUS.PHASE) && decide (s.get LXS_STATUS.PHASE ≤ 6) && !s.flag LXS_STATUS.ROOT

/-- PRIMARY of the TIM_REF_CTRL word in force (R42); LAXUS on every member but the timing root (R41). -/
def State.refPrimary (s : State) : Nat := if s.nonRootMember then refLaxus else bitsOf s.tim.refCtrl 2 0
def State.refFallback1 (s : State) : Nat := bitsOf s.tim.refCtrl 6 4
def State.refFallback2 (s : State) : Nat := bitsOf s.tim.refCtrl 10 8
def State.refAutoSwitch (s : State) : Bool := bitAt s.tim.refCtrl 16
def State.refRevert (s : State) : Bool := bitAt s.tim.refCtrl 17
/-- PULLIN = 1 is JUMP (R40). -/
def State.refJump (s : State) : Bool := bitAt s.tim.refCtrl 18

/-- Whether a TIM_REF_CTRL word names a reference in any of its fields. -/
def refCtrlNames (w r : Nat) : Bool := bitsOf w 2 0 == r || bitsOf w 6 4 == r || bitsOf w 10 8 == r

/-- Whether a TIM_REF_CTRL word names only defined references (R42). -/
def refCtrlOk (w : Nat) : Bool :=
  decide (bitsOf w 2 0 ≤ 3) && decide (bitsOf w 6 4 ≤ 3) && decide (bitsOf w 10 8 ≤ 3)

/-! ### The nominal LF period (R37) -/

/-- An LF period in steps with 16 fraction bits lies from 480 Hz to 23.976 Hz. -/
def lfPeriodOk16 (p16 : Nat) : Bool :=
  decide (4000000000 * 65536 ≤ 480 * p16) && decide (23976 * p16 ≤ 4000000000 * 1000 * 65536)

/-- The LF period that TIM_FREERUN_PERIOD sets: ticks of 100 ns with 13 fraction bits (Table TIM-12). -/
def freerunP16 (period : Nat) : Nat := period * 400 * 8

/-- The LF period that a reference period gives: the LF rate is the reference rate × MUL / DIV (R37). -/
def refP16 (period mul div_ : Nat) : Nat := period * 65536 * div_ / max 1 mul

/-- The nominal period in force for a reference (R37). -/
def State.nominalP16 (s : State) (r : Nat) : Nat :=
  match r with
  | 0 => freerunP16 (s.actGet TIM_FREERUN_PERIOD.PERIOD)
  | 1 => refP16 (s.ref 1).period (s.actGet TIM_LF_CFG.MUL) (s.actGet TIM_LF_CFG.DIV)
  | 2 => refP16 (s.ref 2).period (s.actGet TIM_LF_CFG.MUL) (s.actGet TIM_LF_CFG.DIV)
  | _ => if (s.ref refLaxus).meas = 0 then freerunP16 (s.actGet TIM_FREERUN_PERIOD.PERIOD) else (s.ref refLaxus).meas

/-- The LF period that TIM measures on a reference over the last 1 s (R39): the mean of the periods counted, scaled by R37; the
nominal one where none has been counted. -/
def State.measP16 (s : State) (r : Nat) : Nat :=
  let x := s.ref r
  let k := listSum (x.recent.map (·.2.2))
  if (r = refGenlock ∨ r = refFrame) ∧ k ≠ 0 then
    listSum (x.recent.map (·.2.1)) * 65536 * s.actGet TIM_LF_CFG.DIV / max 1 (k * s.actGet TIM_LF_CFG.MUL)
  else s.nominalP16 r

/-! ### The phase error (R37, R40) -/

/-- The signed distance from b to a on a circle of m. -/
def circ (m a b : Int) : Int :=
  let d := (a - b) % m
  if m ≤ 2 * d then d - m else d

/-- An instant, in steps with 16 fraction bits, at which the reference aligns an LF boundary: the edge that starts a group of
MUL LFs (R37), or a boundary of the timing root as the latest TIME gives it (R343). -/
def State.alignedEdge16 (s : State) (r : Nat) : Option Int :=
  if r = refGenlock ∨ r = refFrame then (s.ref r).last.map (fun _ => ((s.ref r).align * 65536 : Nat))
  else if r = refLaxus ∧ s.lxs.time48 ≠ 0 then
    some ((s.lxs.timeAt * 65536 : Nat) - (s.lxs.timePhase * s.measP16 refLaxus / 2 ^ 24 : Nat))
  else none

/-- How far a boundary at `t16` lies before the place that the active reference gives it, OFFSET FPU after the aligned edge, to
the nearest LF (R37, R40). -/
def State.phaseErr16 (s : State) (t16 : Nat) : Int :=
  let r := s.get TIM_REF_STATUS.ACTIVE
  let p := s.measP16 r
  match s.alignedEdge16 r with
  | none => 0
  | some a => if p = 0 then 0 else circ p (a + fdiv (s.actSgn TIM_PHASE_OFFSET.OFFSET * p) (2 ^ 24)) t16

/-- 4 ns, the phase error of a locked reference, in steps with 16 fraction bits. -/
abbrev lockErr16 : Nat := 16 * 65536

/-- The phase error of the running LF is below 4 ns. -/
def State.inPhase (s : State) : Bool := decide ((s.phaseErr16 s.tim.lfStart16).natAbs < lockErr16)

/-- Count an edge of the active reference at which the phase error is below 4 ns; one at which it is not starts the count afresh
(Table TIM-3). -/
def State.countLock (s : State) : State :=
  { s with tim := { s.tim with lockEdges := if s.inPhase then min 8 (s.tim.lockEdges + 1) else 0 } }

/-! ### DPLL states (Table TIM-3) -/

abbrev dpllFree : Nat := 0
abbrev dpllAcquire : Nat := 1
abbrev dpllLocked : Nat := 2
abbrev dpllPullin : Nat := 3
abbrev dpllHoldover : Nat := 4
abbrev dpllExpired : Nat := 5

def State.dpll (s : State) : Nat := s.get TIM_DPLL_STATUS.STATE

/-- Enter a DPLL state, with the event of Table TIM-3. -/
def State.enterDpll (s : State) (st : Nat) : State :=
  let s1 := s.put TIM_DPLL_STATUS.STATE st
  let s2 := if st = dpllLocked ∨ st = dpllFree then { s1 with tim := { s1.tim with everLocked := true, acquiring := false } }
    else if st = dpllAcquire then { s1 with tim := { s1.tim with acquiring := true, lockEdges := 0 } }
    else s1
  if st = dpllExpired then s2.raise 0x0303 0 0 0
  else if st = dpllFree then s2
  else s2.raise 0x0302 st 0 0

/-- Holdover time in 100 ms units: values above 10 s act as 10 s (Table TIM-14). -/
def State.holdoverUnits (s : State) : Nat := 10 * min 10 (s.get TIM_DPLL_CFG.HOLDOVER_S)

/-- A period within 300 ppm of the nominal one (R36). -/
def clampLf16 (nominal : Nat) (p : Int) : Nat :=
  let w := nominal * 300 / 1000000
  (clampI (nominal - w : Nat) (nominal + w : Nat) p).toNat

/-- Enter HOLDOVER at the frequency measured over the last 1 s, or EXPIRED at once where no holdover is allowed (R39). -/
def State.enterHoldover (s : State) : State :=
  let r := s.get TIM_REF_STATUS.ACTIVE
  let s1 := { s with tim := { s.tim with holdStart := s.now, holdP16 := clampLf16 (s.nominalP16 r) (s.measP16 r) } }
  if s1.holdoverUnits = 0 then s1.enterDpll dpllExpired
  else (s1.put TIM_DPLL_STATUS.HOLDOVER_LEFT s1.holdoverUnits).enterDpll dpllHoldover

/-- The DPLL state that follows a switch to a reference: FREE, or realignment by slew or jump (R40). -/
def State.stateAfterSwitch (s : State) (r : Nat) : Nat :=
  if r = refFree then dpllFree else if s.refJump then dpllLocked else dpllPullin

/-- The fallback that R39 switches to, if any; a member that loses LAXUS holds over (R339, R41). -/
def State.fallback (s : State) : Option Nat :=
  if s.nonRootMember || !s.refAutoSwitch then none
  else if s.refValid s.refFallback1 then some s.refFallback1
  else if s.refValid s.refFallback2 then some s.refFallback2
  else none

/-- The active reference became invalid (R39). -/
def State.refLost (s : State) : State :=
  let lost := s.get TIM_REF_STATUS.ACTIVE
  match s.fallback with
  | some r =>
    let s1 := s.raise 0x0301 lost (s.stateAfterSwitch r) 0
    { s1 with tim := { s1.tim with switchTo := some r } }
  | none =>
    let nxt := if s.holdoverUnits = 0 then dpllExpired else dpllHoldover
    (s.raise 0x0301 lost nxt 0).enterHoldover

/-- A timebase session runs: TIM treats every reference as invalid (R408). -/
def State.timMasked (s : State) : Bool := thas s.cal.sess 4

/-- A reference becomes invalid (R38, R39). -/
def State.refInvalid (s : State) (r : Nat) : State :=
  if s.refValid r then
    (let s1 := (s.setRef r { s.ref r with valid := false, last := none, seen := none, outOfRange := 0, outliers := 0 }).setRefValid r false
     if !s1.timMasked ∧ s1.get TIM_REF_STATUS.ACTIVE = r ∧ s1.dpll ≠ dpllFree ∧ s1.dpll ≠ dpllHoldover ∧ s1.dpll ≠ dpllExpired then
       s1.refLost
     else s1)
  else s

/-- A reference becomes valid with the rate now accepted; the return of the active reference in holdover
realigns the phase (R38, R40), and so does PRIMARY after the fallback of R440 or after safe idle
(log 91), and LAXUS on a member that runs on another reference (R41). The second edge is the first that starts a group of MUL LFs
(DESIGN CHOICE, log 120). -/
def State.refBecomesValid (s : State) (r period : Nat) : State :=
  let x : RefSt :=
    { s.ref r with
      valid := true, last := some s.now, seen := some s.now, period := period, recent := [(s.now, period, 1)], align := s.now, since := 0,
      meas := if r = refLaxus then (s.ref r).meas else period, outOfRange := 0, outliers := 0, validSince := s.now }
  let s1 := (s.setRef r x).setRefValid r true
  let active := s1.get TIM_REF_STATUS.ACTIVE
  if !s1.timMasked ∧ active = r ∧ (s1.dpll = dpllHoldover ∨ s1.dpll = dpllExpired) then
    { s1 with tim := { s1.tim with switchTo := some r } }
  else if r = refLaxus ∧ active ≠ r ∧ s1.nonRootMember ∧ !s1.timMasked ∧ !s1.cfg.safeIdle then
    { s1 with tim := { s1.tim with switchTo := some r } }
  else if s1.glb.fellBack ∧ !s1.cfg.safeIdle ∧ r = s1.refPrimary then
    { s1 with
      glb := { s1.glb with fellBack := false }
      tim := { s1.tim with switchTo := some r } }
  else s1

/-- A timebase session starts: a device locked to a reference holds over, by R39 without switching (R408). -/
def State.maskRefs (s : State) : State :=
  if s.dpll = dpllLocked ∨ s.dpll = dpllPullin then
    (s.raise 0x0301 (s.get TIM_REF_STATUS.ACTIVE) (if s.holdoverUnits = 0 then dpllExpired else dpllHoldover) 0).enterHoldover
  else s

/-- A timebase session has ended: TIM reacquires the active reference, or acts on its loss by R39 (R408, Table CAL-7). -/
def State.unmaskRefs (s : State) : State :=
  if s.dpll = dpllHoldover ∨ s.dpll = dpllExpired then
    let r := s.get TIM_REF_STATUS.ACTIVE
    match if s.refValid r then some r else s.fallback with
    | some k => { s with tim := { s.tim with switchTo := some k } }
    | none => s
  else s

/-- Whole periods between the last counted edge and an instant, to the nearest (at least 1). -/
def periodsBetween (dtSteps period : Nat) : Nat := max 1 (divRound dtSteps (max 1 period))

/-- An edge is counted: the tracked period, the periods of the last 1 s, and the edge that starts a group of MUL LFs, every
DIV-th one (R37 to R39). `k` periods of the reference have passed since the last counted edge. -/
def State.countEdge (s : State) (x : RefSt) (d k : Nat) : RefSt :=
  let n := max 1 (s.actGet TIM_LF_CFG.DIV)
  let out := Int.natAbs ((d : Int) - (k * x.period : Nat)) * 1000000 > 100 * (k * x.period)
  { x with
    last := some s.now
    seen := some s.now
    meas := divRound d k
    recent := (s.now, d, k) :: x.recent.filter (fun e => decide (s.now < e.1 + secSteps))
    align := if x.since + k < n then x.align else s.now - (x.since + k) % n * divRound d k
    since := (x.since + k) % n
    outliers := 0
    outOfRange := if out then x.outOfRange + 1 else 0 }

/-- An edge on GENLOCK (1) or FRAME_IN (2), with the frame's line count for GENLOCK (R38). Its prediction is the last counted
edge and the period that TIM tracks (DEDUCED, log 120). -/
def State.refEdge (s : State) (r lines : Nat) : State :=
  let x := s.ref r
  let linesOk := r != refGenlock || lines == s.get TIM_GENLOCK_CFG.LINES
  match x.last with
  | none => s.setRef r { x with last := some s.now, seen := some s.now }
  | some t =>
    let d := s.now - t
    if x.valid then
      (let k := periodsBetween d x.meas
       if !linesOk then s.refInvalid r
       else if Int.natAbs ((d : Int) - (k * x.meas : Nat)) > usSteps then
         (let s1 := (s.incSat TIM_REF_STATUS.OUTLIERS 1).setRef r { x with seen := some s.now, outliers := x.outliers + 1 }
          if x.outliers + 1 ≥ 3 then s1.refInvalid r else s1)
       else
         (let s1 := s.setRef r (s.countEdge x d k)
          if (s1.ref r).outOfRange ≥ 4 then s1.refInvalid r
          else if s1.get TIM_REF_STATUS.ACTIVE = r then s1.countLock
          else s1))
    else if linesOk && lfPeriodOk16 (refP16 d (s.actGet TIM_LF_CFG.MUL) (s.actGet TIM_LF_CFG.DIV)) then
      s.refBecomesValid r d
    else s.setRef r { x with last := some s.now, seen := some s.now }

/-- The REF10M_IN detector's reading in Hz: valid within 100 ppm of 10 MHz (Table TIM-2). -/
def State.tenMegReading (s : State) (hz : Nat) : State :=
  s.setRefValid refTenMeg (decide (Int.natAbs ((hz : Int) - 10000000) ≤ 1000))

/-- REFERENCE_EDGE (R38): reference 1 GENLOCK, 2 FRAME_IN, 4 the REF10M_IN detector; `aux` is the line count or
the detector's reading. An edge on any other input is none of TIM's. -/
def doReferenceEdge (dt r aux : Nat) (s : State) : State :=
  (s.tick dt).onLive fun t =>
    if r = refTenMeg then t.tenMegReading aux
    else if r = refGenlock ∨ r = refFrame then t.refEdge r aux
    else t

/-- REFERENCE_MISSING (R38): more than 1.5 periods have passed since the last edge that came on a valid reference. -/
def doReferenceMissing (dt r : Nat) (s : State) : State :=
  let t := s.tick dt
  let x := t.ref r
  let due := match x.seen with
    | some l => decide (2 * (t.now - l) > 3 * x.meas)
    | none => false
  t.onLiveIf ((r == refGenlock || r == refFrame) && x.valid && due) (fun u => u.refInvalid r)

/-- HOLDOVER_EXPIRED (R39): HOLDOVER_S seconds have passed in HOLDOVER. -/
def doHoldoverExpired (dt : Nat) (s : State) : State :=
  let t := s.tick dt
  t.onLiveIf (t.dpll == dpllHoldover && decide (t.holdoverUnits * 100 * msSteps ≤ t.now - t.tim.holdStart))
    (fun u => (u.put TIM_DPLL_STATUS.HOLDOVER_LEFT 0).enterDpll dpllExpired)

/-- REFERENCE_REVERT (R42): PRIMARY has been valid for 1 s without a break while another reference is active; in safe idle TIM
stays on FREE (R74). -/
def doReferenceRevert (dt : Nat) (s : State) : State :=
  let t := s.tick dt
  let p := t.refPrimary
  t.onLiveIf (!t.timMasked && !t.cfg.safeIdle && t.refRevert && t.get TIM_REF_STATUS.ACTIVE != p && t.refValid p &&
      (p == refFree || decide (secSteps ≤ t.now - (t.ref p).validSince)))
    (fun u => { u with tim := { u.tim with switchTo := some p } })

/-- DPLL_LOCKED (R43, Table TIM-3): the phase error has stayed below 4 ns over 8 edges of the valid active reference. -/
def doDpllLocked (dt : Nat) (s : State) : State :=
  let t := s.tick dt
  t.onLiveIf (t.dpll == dpllAcquire && t.get TIM_REF_STATUS.ACTIVE != refFree && t.tim.lockEdges == 8 &&
      (t.refValid (t.get TIM_REF_STATUS.ACTIVE) || (t.get TIM_REF_STATUS.ACTIVE == refLaxus && t.lxs.setOnce)))
    (fun u => u.enterDpll dpllLocked)

/-- PULLIN_DONE (R40): slewing ends with the phase error below 4 ns. -/
def doPullinDone (dt : Nat) (s : State) : State :=
  let t := s.tick dt
  t.onLiveIf (t.dpll == dpllPullin && t.inPhase) (fun u => u.enterDpll dpllLocked)

/-- REF_CTRL_WRITE (R42): a PF write of TIM_REF_CTRL; a code Table TIM-2 does not define refuses the whole write, and so does
LAXUS on the timing root, where it may not be named (R41; DESIGN CHOICE, log 120). The value reads back at once and takes effect at
the next boundary. -/
def doRefCtrlWrite (dt : Nat) (w : Word) (s : State) : State :=
  (s.tick dt).onReach fun t =>
    if refCtrlOk w.toNat && !(t.flag LXS_STATUS.ROOT && refCtrlNames w.toNat refLaxus) then
      t.wrN TIM_REF_CTRL (w.toNat &&& 0x00070777)
    else t.accessEvent devQ TIM_REF_CTRL 1

/-- BOOT or a boundary puts a reference in use (R39 to R42): SWITCHES counts it. -/
def State.selectRef (s : State) (r : Nat) : State :=
  ((s.put TIM_REF_STATUS.ACTIVE r).incSat TIM_REF_STATUS.SWITCHES 1)

/-- Switch to a reference at a boundary; while light may not run yet the DPLL goes on acquiring on the new one (R39, R40, R42). -/
def State.switchRef (s : State) (r : Nat) : State :=
  let s0 := { s with tim := { s.tim with switchTo := none } }
  let s1 := if s0.get TIM_REF_STATUS.ACTIVE = r then s0 else s0.selectRef r
  if r = refFree then s1.enterDpll dpllFree
  else if s1.tim.acquiring then (if s1.dpll = dpllAcquire then s1 else s1.enterDpll dpllAcquire)
  else if s1.refJump then
    ({ s1 with tim := { s1.tim with realign := true } }).enterDpll dpllLocked
  else s1.enterDpll dpllPullin

/-- A TIM_REF_CTRL word comes into force at a boundary (R42): a new PRIMARY that is valid is selected. One that is not valid is
selected at once only in ACQUIRE; elsewhere the device stays on its reference, with no event (DESIGN CHOICE, log 120). -/
def State.applyRefCtrl (s : State) : State :=
  let w := s.rdN TIM_REF_CTRL
  if w = s.tim.refCtrl then s
  else
    let oldP := s.refPrimary
    let s1 := { s with tim := { s.tim with refCtrl := w } }
    let p := s1.refPrimary
    if p = oldP then s1
    else if s1.refValid p && !s1.timMasked then { s1 with tim := { s1.tim with switchTo := some p } }
    else if s1.dpll = dpllAcquire then s1.selectRef p
    else s1

/-- A switch that waited takes place at a boundary; where its reference has become invalid meanwhile and the active one is not
valid either, a fallback is taken or the device holds over (R39). -/
def State.takeSwitch (s : State) (r : Nat) : State :=
  if s.refValid r then s.switchRef r
  else
    let s1 := { s with tim := { s.tim with switchTo := none } }
    if s1.refValid (s1.get TIM_REF_STATUS.ACTIVE) then s1
    else match s1.fallback with
      | some k => s1.switchRef k
      | none => if s1.dpll = dpllHoldover ∨ s1.dpll = dpllExpired then s1 else s1.enterHoldover

/-- Keep the value of system time while its rate changes (R53). -/
def State.rebaseSys (s : State) : State :=
  { s with tim := { s.tim with sysBase := s.sysNow, sysT0 := s.now } }

/-- The timing root has no LAXUS to follow, and applies its own TIM_REF_CTRL selection at the next boundary (R41, R339). -/
def State.selectOwn (s : State) : State :=
  let s1 := (s.setRef refLaxus { s.ref refLaxus with valid := false }).setRefValid refLaxus false
  { s1 with tim := { s1.tim with switchTo := some (bitsOf s1.tim.refCtrl 2 0) } }

/-- Begin acquisition, dark, as after the boot instant or an LF-rate commit (Table TIM-3, R42). -/
def State.beginAcquire (s : State) : State := s.enterDpll dpllAcquire

/-! ### The period of an LF (R35, R36, R40) -/

/-- What the DPLL's estimate may differ by from the reference: a phase error below 4 ns (Table TIM-3), a free value (log 36). -/
def dpllNoise (free : Nat) : Int := ((free % (2 * lockErr16 - 1) : Nat) : Int) - (lockErr16 - 1 : Nat)

/-- P of an LF that starts at `t16` by the DPLL's estimate (R35): exact on FREE, held in HOLDOVER and EXPIRED. Otherwise it follows
the reference, with the phase error removed by up to 200 ppm in an LF that stays within 300 ppm of the nominal period (R36, R40);
in a dark LF (`jump`: realignment, or ACQUIRE) it is lengthened or shortened at once to end on the phase (R40). -/
def State.periodAt (s : State) (t16 : Nat) (jump : Bool) : Nat :=
  let r := s.get TIM_REF_STATUS.ACTIVE
  let nom := s.nominalP16 r
  let est : Int := (s.measP16 r : Nat)
  let err := s.phaseErr16 t16
  let noise := dpllNoise (Config.freeValue s.tim.pKey).toNat
  let w : Int := (nom * 200 / 1000000 : Nat)
  if s.dpll = dpllHoldover ∨ s.dpll = dpllExpired then s.tim.holdP16
  else if r = refFree then freerunP16 (s.actGet TIM_FREERUN_PERIOD.PERIOD)
  else if nom = 0 then s.tim.p16
  else if jump then (est + err + noise).toNat
  else clampLf16 nom (est + clampI (-w) w err + noise)

/-- P of the LF that starts now: the one that was announced before it (R252), unless the LF is dark or its reference or rate has
changed. -/
def State.nextP16 (s : State) : Nat :=
  let r := s.get TIM_REF_STATUS.ACTIVE
  if s.tim.realign ∨ s.dpll = dpllAcquire then s.periodAt s.tim.lfStart16 true
  else if (s.dpll = dpllLocked ∨ s.dpll = dpllPullin) ∧ s.tim.planFor = (r, s.nominalP16 r) then s.tim.planP16
  else s.periodAt s.tim.lfStart16 false

/-- The estimate of the LF after this one (R252). -/
def State.planNext (s : State) : State :=
  let r := s.get TIM_REF_STATUS.ACTIVE
  { s with tim := { s.tim with
    planP16 := s.periodAt (s.tim.lfStart16 + s.tim.p16) false
    planFor := (r, s.nominalP16 r) } }

/-- LF frequency offset from nominal in 0.01 ppm, signed (Table TIM-15). -/
def freqOffset (nom p : Nat) : Int :=
  if p = 0 then 0 else fdivRound (((nom : Int) - p) * 100000000) p

/-- TIM at a boundary: LFN advances, and references and realignment take effect, their events stamped with the new LF (R34, R39
to R42, R54). FREE needs no lock: an acquisition on it ends with its first LF (R42, R43). In safe idle TIM stays on FREE (R74). P is
fixed once the boundary's commits have applied (`timFix`). -/
def State.timAdvance (s : State) : State :=
  let s1 := { s with tim := { s.tim with
    lfn := if s.tim.bootLf then 0 else (s.tim.lfn + 1) % 2 ^ 32
    bootLf := false
    lfStart16 := if s.tim.bootLf then s.now * 65536 else s.tim.lfStart16 + s.tim.p16 } }
  if s1.cfg.safeIdle then { s1 with tim := { s1.tim with refCtrl := s1.rdN TIM_REF_CTRL, switchTo := none } }
  else
    let s2 := s1.applyRefCtrl
    let s3 := match s2.tim.switchTo with
      | some r => s2.takeSwitch r
      | none => s2
    if s3.dpll = dpllAcquire ∧ s3.get TIM_REF_STATUS.ACTIVE = refFree ∧ s3.glb.bootTiming.isEmpty then s3.enterDpll dpllFree else s3

/-- TIM fixes P of the LF that starts (R35); a dark realignment LF is reported (R40). Every LF is dark from ACQUIRE until LOCKED or
FREE (R42, R43). -/
def State.timFix (s : State) : State :=
  let p := s.nextP16
  let dark := s.tim.realign || s.tim.acquiring
  let s0 := if s.get TIM_REF_STATUS.ACTIVE = refLaxus then s.countLock else s
  let s3 := { s0 with tim := { s0.tim with
    p16 := p
    darkLf := dark
    realign := false
    pKey := s0.fresh } }
  let s4 := s3.planNext.useFree.putSat TIM_LF_PERIOD.STEPS ((p + 32768) / 65536)
  let s5 := s4.put TIM_DPLL_STATUS.FREQ_OFFSET
    (uns 16 (clampI (-32768) 32767 (freqOffset (s4.nominalP16 (s4.get TIM_REF_STATUS.ACTIVE)) p)))
  let s6 := if s5.dpll = dpllHoldover then
      s5.put TIM_DPLL_STATUS.HOLDOVER_LEFT (s5.holdoverUnits - (s5.now - s5.tim.holdStart) / (100 * msSteps))
    else s5.put TIM_DPLL_STATUS.HOLDOVER_LEFT 0
  if s.tim.realign then s6.raiseB 0x0304 0 0 0 else s6

/-- A commit applies a new TIM_PHASE_OFFSET while a reference is followed: the phase realigns (R40). -/
def State.moveOffset (s : State) : State :=
  if s.get TIM_REF_STATUS.ACTIVE = refFree ∨ !(s.dpll = dpllLocked ∨ s.dpll = dpllPullin) then s
  else if s.refJump then { s with tim := { s.tim with realign := true } }
  else if s.dpll = dpllPullin then s else s.enterDpll dpllPullin

/-! ### System time (R52, R53) -/

/-- SYSTIME_STEP_ARM (R53): a write of TIM_SYSTIME_CTRL. On a member that is not the timing root it has no effect
and is logged as kind 9. -/
def doSystimeStepArm (dt : Nat) (w : Word) (s : State) : State :=
  (s.tick dt).onReach fun t =>
    if t.timeFollows then t.accessEvent devQ TIM_SYSTIME_CTRL 9
    else
      let u := t.rebaseSys
      let v := u.wrN TIM_SYSTIME_CTRL ((w.toNat &&& 0xFFFF0002) ||| (u.rdN TIM_SYSTIME_CTRL &&& 1) ||| (w.toNat &&& 1))
      v

/-- The armed step loads TIM_SYSTIME_SET at a boundary; on a device that has become a non-root member it lapses (R53). -/
def State.systimeStep (s : State) : State :=
  if s.flag TIM_SYSTIME_CTRL.STEP_ARM && s.timeFollows then s.put TIM_SYSTIME_CTRL.STEP_ARM 0
  else if s.flag TIM_SYSTIME_CTRL.STEP_ARM then
    ({ s with tim := { s.tim with
        sysBase := s.rdN TIM_SYSTIME_SET_HI * 2 ^ 32 + s.rdN TIM_SYSTIME_SET_LO
        sysT0 := s.tim.lfStart16 / 65536 } }).put TIM_SYSTIME_CTRL.STEP_ARM 0
  else s

/-! ### Latched reads (R59) -/

/-- A read of GLB_SYSTIME_LO latches the other three time registers at its instant (R59). -/
def State.latchSystime (s : State) : State :=
  { s with glb := { s.glb with sysRead := true, sysHi := s.sysNow / 2 ^ 32, sysLfn := s.tim.lfn, sysPhase := s.phase } }

/-- SYSTIME_LO_READ (R59). -/
def doSystimeLoRead (dt : Nat) (s : State) : State := (s.tick dt).onLive (·.latchSystime)

/-! ### The snapshot request (R57, R58) -/

abbrev snapIdle : Nat := 0
abbrev snapArmed : Nat := 1
abbrev snapLatching : Nat := 2
abbrev snapReady : Nat := 3
abbrev snapMissed : Nat := 4

/-- SNAPSHOT_ARM (R58): a write of GLB_SNAP_CTRL with ARM. -/
def doSnapshotArm (dt : Nat) (atLfn : Bool) (s : State) : State :=
  (s.tick dt).onLive fun t =>
    let u := t.putB GLB_SNAP_CTRL.AT_LFN atLfn
    let st := u.get GLB_SNAP_STATUS.STATE
    if st = snapArmed ∨ st = snapLatching ∨ st = snapReady then u.accessEvent devQ GLB_SNAP_CTRL 4
    else
      let target := if atLfn then u.get GLB_SNAP_TARGET.LFN else (u.tim.lfn + 1) % 2 ^ 32
      let next := target == (u.tim.lfn + 1) % 2 ^ 32
      if !lfnAfter target u.tim.lfn || (next && decide (u.toBoundary < 50 * usSteps)) then
        (u.put GLB_SNAP_STATUS.STATE snapMissed).raise 0x1003 0 target 0
      else
        ({ u with glb := { u.glb with snapTarget := target, snapNext := next } }.put GLB_SNAP_STATUS.STATE snapArmed).put
          GLB_SNAP_CTRL.ARM 1

/-- SNAPSHOT_RELEASE (R58): the data is freed, or an armed snapshot is cancelled. -/
def doSnapshotRelease (dt : Nat) (s : State) : State :=
  (s.tick dt).onLive fun t =>
    ({ t with glb := { t.glb with snapWords := [] } }.put GLB_SNAP_STATUS.STATE snapIdle).put GLB_SNAP_CTRL.ARM 0

/-- SNAPSHOT_READY (R57): the latched data becomes readable. -/
def doSnapshotReady (dt : Nat) (s : State) : State :=
  let t := s.tick dt
  t.onLiveIf (t.get GLB_SNAP_STATUS.STATE == snapLatching) (fun u => u.put GLB_SNAP_STATUS.STATE snapReady)

end Sys2Proof.Machine
end

