-- ==== Sys2Proof/Machine/Col.lean ====
section
/-! DEFINITION. The colour engine: the layer stage, the output stage, the primary solve, drift, the constancy loop
and the COLOUR_BASE section (spec/07, R167 to R190). -/
namespace Sys2Proof.Machine

/-- Saturation of an 8.20 value (R137). -/
def sat820 (x : Int) : Nat := (clampI 0 (2 ^ 28 - 1) x).toNat

/-! ### COLOUR_BASE (R190, Tables COL-6, COL-7) -/

def cbPrims (b : List Byte) : Nat := leAt b 0x10 1
def cbKind (b : List Byte) (p : Nat) : Nat := leAt b (0x14 + 8 * p) 1
def cbMarker (b : List Byte) (n : Nat) : Bool := bitAt (leAt b (0x58 + n / 8) 1) (n % 8)
def cbPrimMask (b : List Byte) (o : Nat) : Nat := leAt b (0x44 + o) 1
/-- A chromaticity pair at an offset. -/
def cbXy (b : List Byte) (off : Nat) : Nat × Nat := (leAt b off 2, leAt b (off + 2) 2)

def State.colBase (s : State) : List Byte := s.sec secColourBase 0
def State.primCount (s : State) : Nat := cbPrims s.colBase
/-- Visible primaries in index order (R176). -/
def cbVisible (b : List Byte) : List Nat := idxWhere (cbPrims b) (fun p => cbKind b p != 2)
def State.visPrims (s : State) : List Nat := cbVisible s.colBase
def State.irPrim (s : State) : Option Nat := (idxWhere s.primCount (fun p => cbKind s.colBase p == 2)).head?
def State.isMarker (s : State) (n : Nat) : Bool := cbMarker s.colBase n

/-- Check 11's part of COLOUR_BASE: at most 6 primaries, at most one IR, and IR and marker layers go together. -/
def colBaseCheck11 (b : List Byte) : Bool :=
  let ir := (idxWhere (min 6 (cbPrims b)) (fun p => cbKind b p == 2)).length
  let markers := (List.range 256).any (cbMarker b)
  decide (cbPrims b ≤ 6) && decide (ir ≤ 1) && (decide (ir = 1) == markers)

/-- Twice the signed area of a triangle of chromaticities. -/
def triArea (a b c : Nat × Nat) : Int :=
  ((b.1 : Int) - a.1) * ((c.2 : Int) - a.2) - ((c.1 : Int) - a.1) * ((b.2 : Int) - a.2)

def xyBad (p : Nat × Nat) : Bool := p.2 == 0 || decide (65536 < p.1 + p.2)

/-- The white lies outside the working primaries' triangle. -/
def whiteOutside (w r g b : Nat × Nat) : Bool :=
  let t := triArea r g b
  let f := fun (a : Int) => decide (a * t < 0)
  f (triArea w g b) || f (triArea r w b) || f (triArea r g w)

def colBaseDetail (outs : Nat) (b : List Byte) : Option Nat :=
  let p := cbPrims b
  let vis := (cbVisible b).length
  let ir := (idxWhere p (fun k => cbKind b k == 2)).head?
  let r := cbXy b 4
  let g := cbXy b 8
  let bl := cbXy b 12
  let w := cbXy b 0
  if b.length ≠ 120 then some 0x0A01
  else if !bytesZero b 0x12 2 || (List.range 6).any (fun k => !bytesZero b (0x15 + 8 * k) 3 ||
      (decide (p ≤ k) && !bytesZero b (0x14 + 8 * k) 8) || (cbKind b k != 1 && !bytesZero b (0x18 + 8 * k) 4)) then some 0x0A02
  else if p < 3 ∨ vis < 3 ∨ 5 < vis then some 0x0A03
  else if (List.range p).any (fun k => decide (2 < cbKind b k)) || leAt b 0x11 1 != ir.getD 0xFF then some 0x0A04
  else if xyBad w || xyBad r || xyBad g || xyBad bl || (List.range p).any (fun k => cbKind b k == 1 && xyBad (cbXy b (0x18 + 8 * k))) ||
      triArea r g bl == 0 || whiteOutside w r g bl then some 0x0A05
  else if (List.range 20).any (fun o => decide (2 ^ p ≤ cbPrimMask b o) || (bitAt outs o && cbPrimMask b o == 0)) then some 0x0A06
  else none

/-- The section takes effect: COL_WORK_k, PRIMS and the marker layers. -/
def State.applyColBase (s : State) : State :=
  let b := s.colBase
  let s1 := foldOver (List.range 4) (fun k t => t.wrN (COL_WORK k) (leAt b (4 * k) 4)) s
  let s2 := foldOver (List.range outputs) (fun o t => t.put (COL_OUT_PRIMS.MASK o) (cbPrimMask b o)) s1
  foldOver (List.range 256) (fun n t => t.putB (CMP_LYR_OWNER.MARKER n) (cbMarker b n)) s2

/-! ### Rational helpers -/

/-- Rounded to `k` fraction bits, half away from zero. -/
def ratFix (k : Nat) (q : Rat) : Int :=
  let n := q * ((2 ^ k : Nat) : Rat)
  if n < 0 then -((-n + 1 / 2).floor) else (n + 1 / 2).floor

abbrev Mat := List Rat

def mAt (m : Mat) (r c : Nat) : Rat := nthD m (3 * r + c) 0
def mkMat (f : Nat → Nat → Rat) : Mat := (List.range 9).map (fun k => f (k / 3) (k % 3))

/-! ### The layer stage (R168 to R171) -/

/-- 16-bit replication of an n-bit sample, n at least 4 (R140). -/
def rep16 (n v : Nat) : Nat := v * (2 ^ (3 * n) + 2 ^ (2 * n) + 2 ^ n + 1) / 2 ^ (4 * n - 16)

/-- The affine map of R168: nine coefficients and three offsets with 16 fraction bits, row by R', G', B' over
Y, Cb, Cr. -/
def ycAffine (depth : Nat) (full bt2020 : Bool) : List Int :=
  let yb : Rat := if full then 0 else (rep16 depth (16 * 2 ^ (depth - 8)) : Nat)
  let yw : Rat := if full then 65535 else (rep16 depth (235 * 2 ^ (depth - 8)) : Nat)
  let cz : Rat := (rep16 depth (2 ^ (depth - 1)) : Nat)
  let cm : Rat := if full then 65535 else (rep16 depth (240 * 2 ^ (depth - 8)) : Nat)
  let kr : Rat := if bt2020 then 2627 / 10000 else 2126 / 10000
  let kb : Rat := if bt2020 then 593 / 10000 else 722 / 10000
  let kg : Rat := 1 - kr - kb
  let y1 : Rat := 65535 / (yw - yb)
  let p1 : Rat := 65535 / (2 * (cm - cz))
  let rr := 2 * (1 - kr) * p1
  let bb := 2 * (1 - kb) * p1
  let gr := -(kr * rr) / kg
  let gb := -(kb * bb) / kg
  let oy := -(yb * y1)
  [ratFix 16 y1, 0, ratFix 16 rr, ratFix 16 (oy - rr * cz),
   ratFix 16 y1, ratFix 16 gb, ratFix 16 gr, ratFix 16 (oy - gb * cz - gr * cz),
   ratFix 16 y1, ratFix 16 bb, 0, ratFix 16 (oy - bb * cz)]

/-- Y, Cb, Cr code values to R', G', B' code values (R168). -/
def ycToRgb (a : List Int) (y cb cr : Nat) : List Nat :=
  (List.range 3).map (fun r =>
    (clampI 0 65535 (fdiv (nthD a (4 * r) 0 * y + nthD a (4 * r + 1) 0 * cb + nthD a (4 * r + 2) 0 * cr +
      nthD a (4 * r + 3) 0 + 32768) 65536)).toNat)

/-- Stage 3 for one pixel of layer n: working channels and the marker level (R168 to R171), from three code values. -/
def State.layerStage (s : State) (cs : List Nat) (n : Nat) (code : List Nat) : List Nat × Nat :=
  let fmt := s.sg cs (CMP_LYR_FORMAT.FMT n)
  let rgb := if fmtPlanar fmt then
      ycToRgb (ycAffine (fmtDepth fmt) (s.sflag cs (COL_LYR_CTRL.FULL_RANGE n)) (s.sflag cs (COL_LYR_CTRL.YC2020 n)))
        (nthD code 0 0) (nthD code 1 0) (nthD code 2 0)
    else code
  let lin := rgb.map (decodeCode (s.sg cs (COL_LYR_CTRL.TF n)) (s.sg cs COL_PQ_REF.CDM2))
  let row := fun (r : Nat) =>
    sat820 (fdiv (s.ssg cs (COL_LYR_M.COEF n (3 * r)) * (nthD lin 0 0 : Nat) + s.ssg cs (COL_LYR_M.COEF n (3 * r + 1)) * (nthD lin 1 0 : Nat) +
      s.ssg cs (COL_LYR_M.COEF n (3 * r + 2)) * (nthD lin 2 0 : Nat) + 2 ^ 19) (2 ^ 20) + s.ssg cs (COL_LYR_OFF.OFFSET n r))
  if s.isMarker n then ([0, 0, 0], row 0) else ([row 0, row 1, row 2], 0)

/-! ### The 3D LUT (R173 to R175) -/

def lutNode (b : List Byte) (n r g bl c : Nat) : Nat := leAt b (8 * ((bl * n + g) * n + r) + 2 * c) 2

/-- Index and fraction of one shaped value. -/
def lutSplit (n k v : Nat) : Nat × Nat :=
  let t := v + v / 2 ^ 15
  let i := t / 2 ^ k
  if i = n - 1 then (n - 2, 2 ^ k) else (i, t - i * 2 ^ k)

/-- Channels in order of falling fraction; ties keep red, green, blue order. -/
def fracOrder (fr fg fb : Nat) : List Nat :=
  let f := fun (c : Nat) => if c = 0 then fr else if c = 1 then fg else fb
  let insert := fun (l : List Nat) (c : Nat) => (l.filter (fun d => f c ≤ f d)) ++ c :: (l.filter (fun d => f d < f c))
  insert (insert [0] 1) 2

def lutLook (b : List Byte) (n : Nat) (v : List Nat) : List Nat :=
  let k := if n = 33 then 11 else 10
  let r := lutSplit n k (nthD v 0 0)
  let g := lutSplit n k (nthD v 1 0)
  let bl := lutSplit n k (nthD v 2 0)
  let f := fun (c : Nat) => if c = 0 then r.2 else if c = 1 then g.2 else bl.2
  let o := fracOrder r.2 g.2 bl.2
  let a := nthD o 0 0
  let bb := nthD o 1 0
  let c := nthD o 2 0
  let at_ := fun (up : List Nat) (ch : Nat) =>
    lutNode b n (r.1 + boolNat (up.contains 0)) (g.1 + boolNat (up.contains 1)) (bl.1 + boolNat (up.contains 2)) ch
  (List.range 3).map (fun ch =>
    (at_ [] ch * (2 ^ k - f a) + at_ [a] ch * (f a - f bb) + at_ [a, bb] ch * (f bb - f c) + at_ [a, bb, c] ch * f c +
      2 ^ (k - 1)) / 2 ^ k)

/-! ### Solve modes (R176 to R180, Table COL-4) -/

/-- Table mode: 4 or 5 visible primaries. -/
def State.tableMode (s : State) : Bool := decide (4 ≤ s.visPrims.length)

def State.xyEst (s : State) (g p : Nat) : Rat × Rat := tget (0, 0) s.col.est (g * 8 + p)

def State.lumOf (s : State) (g p : Nat) : Nat := tget 0 s.col.lum (g * 8 + p)
def State.lightOf (s : State) (g p : Nat) : Nat := tget 65536 s.col.light (g * 8 + p)
/-- The light factor at the latest boundary (R183). -/
def State.lightAt (s : State) (g p : Nat) : Nat := tget 65536 s.col.lightLf (g * 8 + p)

/-- Groups that carry a primary, by LMP_MAP's positions. -/
def State.groupsWith (s : State) (p : Nat) : List Nat :=
  let b := s.sec secLmpMap 0
  let here := (List.range 4).flatMap (fun c => (List.range (leAt b (4 + 2 * c) 2)).filterMap (fun i =>
    let k := 0x1C0 + 4 * (256 * c + i)
    if leAt b k 1 ≠ 0xFF ∧ leAt b (k + 2) 1 = p then some (leAt b (k + 1) 1) else none))
  idxWhere 64 here.contains

def ratSum (l : List Rat) : Rat := l.foldl (· + ·) 0

/-- X, Y and Z of a chromaticity with Y = 1. -/
def xyz (x y : Rat) (r : Nat) : Rat := if r = 0 then bDiv x y else if r = 1 then 1 else bDiv (bSub (bSub 1 x) y) y

/-- m of a primary: the mixture over its groups, weighted by luminance and light factor (R177). -/
def State.mixture (s : State) (p r : Nat) : Rat :=
  bSum ((s.groupsWith p).map (fun g =>
    let e := s.xyEst g p
    bMul (bMul (s.lumOf g p : Nat) ((s.lightAt g p : Nat) / 65536 : Rat)) (xyz (b64 e.1) (b64 e.2) r)))

/-- Column of e for a visible primary: m scaled to its whole luminance. -/
def State.emitCol (s : State) (p r : Nat) : Rat :=
  let m1 := s.mixture p 1
  if m1 = 0 then 0 else bDiv (bMul (bSum ((s.groupsWith p).map (fun g => ((s.lumOf g p : Nat) : Rat)))) (s.mixture p r)) m1

def workXy (b : List Byte) (k : Nat) : Rat × Rat :=
  (((leAt b (4 * k) 2 : Nat) : Rat) / 65536, ((leAt b (4 * k + 2) 2 : Nat) : Rat) / 65536)

/-! ### Matrices in binary64, products and sums in the order written (R177; log 23) -/

def bDet (m : Mat) : Rat :=
  let k := fun (a b c d : Rat) => bSub (bMul a b) (bMul c d)
  bAdd (bSub (bMul (mAt m 0 0) (k (mAt m 1 1) (mAt m 2 2) (mAt m 1 2) (mAt m 2 1)))
    (bMul (mAt m 0 1) (k (mAt m 1 0) (mAt m 2 2) (mAt m 1 2) (mAt m 2 0))))
    (bMul (mAt m 0 2) (k (mAt m 1 0) (mAt m 2 1) (mAt m 1 1) (mAt m 2 0)))

/-- The adjugate divided by the determinant. -/
def bInv (m : Mat) : Mat :=
  let det := bDet m
  mkMat (fun r c =>
    let a := (c + 1) % 3
    let b := (c + 2) % 3
    let d := (r + 1) % 3
    let e := (r + 2) % 3
    bDiv (bSub (bMul (mAt m a d) (mAt m b e)) (bMul (mAt m a e) (mAt m b d))) det)

def bRow (x y z u v w : Rat) : Rat := bAdd (bAdd (bMul x u) (bMul y v)) (bMul z w)

def bMulMat (a b : Mat) : Mat :=
  mkMat (fun r c => bRow (mAt a r 0) (mAt a r 1) (mAt a r 2) (mAt b 0 c) (mAt b 1 c) (mAt b 2 c))

/-- Working RGB to XYZ. -/
def State.workMat (s : State) : Mat :=
  let c := fun (k : Nat) => workXy s.colBase k
  let p := mkMat (fun r k => xyz (c (k + 1)).1 (c (k + 1)).2 r)
  let i := bInv p
  let w := fun (r : Nat) => xyz (c 0).1 (c 0).2 r
  let kw := fun (k : Nat) => bRow (mAt i k 0) (mAt i k 1) (mAt i k 2) (w 0) (w 1) (w 2)
  mkMat (fun r k => bMul (mAt p r k) (kw k))

def maxRat (a b : Rat) : Rat := if a < b then b else a

/-- s := k × a with k := 1 / max(a × (1, 1, 1)), its entries rounded to 20 fraction bits; none where the determinant is 0 or below
or an entry leaves −32 to just below 32. -/
def finishSolve (det : Rat) (a : Mat) : Option (List Int) :=
  let wl := fun r => bRow (mAt a r 0) (mAt a r 1) (mAt a r 2) 1 1 1
  let top := maxRat (maxRat (wl 0) (wl 1)) (wl 2)
  if det ≤ 0 ∨ top = 0 then none
  else
    let k := bDiv 1 top
    let e := a.map (fun x => ratFix 20 (bMul k x))
    if e.all (fun v => decide (-(2 ^ 25) ≤ v) && decide (v < 2 ^ 25)) then some e else none

/-- S of a view in matrix or constant mode (R177, R178). -/
def State.solveView (s : State) (cs : List Nat) (v : Nat) : Option (List Int) :=
  let q := fun (k : Nat) => nthD s.visPrims k 0
  if v < 4 ∧ s.sflag cs (COL_CAM_CTRL.EN v) then
    let r3 := mkMat (fun r k => ((s.ssg cs (COL_CAM_RESP.COEF v (6 * r + q k)) : Int) : Rat) / 1048576)
    finishSolve (bDet r3) (bInv r3)
  else
    let e := mkMat (fun r k => s.emitCol (q k) r)
    finishSolve (bDet e) (bMulMat (bInv e) s.workMat)

/-- Views an output carries: the audience view alone until start-up is complete (R99, R176). -/
def State.viewMask (s : State) (cs : List Nat) (o : Nat) : Nat :=
  if s.flag HIF_STATUS.STARTUP_DONE then s.sg cs (COL_OUT_CTRL.VIEWS o) else 0x10

def State.viewsOf (s : State) (cs : List Nat) (o : Nat) : List Nat := idxWhere 5 (bitAt (s.viewMask cs o))

/-- The mixture chromaticity of a primary, formed as m of R177 (R184). -/
def State.mixEst (s : State) (p : Nat) : Rat × Rat :=
  let x := s.mixture p 0
  let y := s.mixture p 1
  let t := x + y + s.mixture p 2
  if t = 0 then (0, 0) else (x / t, y / t)

/-- The mixture in units of 2^-16, as COL_PRIM_p_XY reports it. -/
def State.mixXy (s : State) (p : Nat) : Nat × Nat :=
  ((ratFix 16 (s.mixEst p).1).toNat % 65536, (ratFix 16 (s.mixEst p).2).toNat % 65536)

/-- The estimates that the S of a view of an output uses from now on (R185). -/
def State.keepEst (s : State) (o v : Nat) : State :=
  foldOver s.visPrims (fun p t =>
    { t with col := { t.col with solveXy := tset t.col.solveXy ((o * 8 + v) * 8 + p) (s.mixEst p) } }) s

/-- S is computed for every view of an output at the start of a pass, and in every LF for a scan output (R183); a refused one keeps
the previous S with its estimates, sets SOLVE_RANGE and raises an event (R177). -/
def State.solveOutput (s : State) (cs : List Nat) (o : Nat) : State :=
  if s.tableMode then s
  else
    let s0 := s.put (COL_OUT_STATUS.SOLVE_RANGE o) 0
    foldOver (s.viewsOf cs o) (fun v t =>
      match t.solveView cs v with
      | some e => ({ t with col := { t.col with solve := tset t.col.solve (o * 8 + v) e } }).keepEst o v
      | none => (t.put (COL_OUT_STATUS.SOLVE_RANGE o) 1).raise 0x0A01 o v 0) s0

/-! ### The output stage (R172 to R182, Table COL-1) -/

/-- A decomposition table's coefficient (q, c) at node (iu, iv) (R179). -/
def decCoef (b : List Byte) (iu iv q c : Nat) : Int := sgn 32 (leAt b (64 * (33 * iv + iu) + 4 * (3 * q + c)) 4)

/-- Bilinear coefficients and the value of visible primary q (R179). -/
def decValue (b : List Byte) (x : List Nat) (q : Nat) : Nat :=
  let sum := listSum x
  if sum = 0 then 0
  else
    let u := nthD x 0 0 * 65536 / sum
    let v := nthD x 1 0 * 65536 / sum
    let iu := min (u / 2048) 31
    let fu : Int := (u - iu * 2048 : Nat)
    let iv := min (v / 2048) 31
    let fv : Int := (v - iv * 2048 : Nat)
    let coef := fun c => fdiv (decCoef b iu iv q c * (2048 - fu) * (2048 - fv) + decCoef b (iu + 1) iv q c * fu * (2048 - fv) +
      decCoef b iu (iv + 1) q c * (2048 - fu) * fv + decCoef b (iu + 1) (iv + 1) q c * fu * fv + 2 ^ 21) (2 ^ 22)
    (clampI 0 (2 ^ 20) (fdiv (coef 0 * (nthD x 0 0 : Nat) + coef 1 * (nthD x 1 0 : Nat) + coef 2 * (nthD x 2 0 : Nat) + 2 ^ 19) (2 ^ 20))).toNat

/-- A visible value in matrix and constant modes. -/
def solveValue (e : List Int) (x : List Nat) (q : Nat) : Nat :=
  (clampI 0 (2 ^ 20) (fdiv (nthD e (3 * q) 0 * (nthD x 0 0 : Nat) + nthD e (3 * q + 1) 0 * (nthD x 1 0 : Nat) +
    nthD e (3 * q + 2) 0 * (nthD x 2 0 : Nat) + 2 ^ 19) (2 ^ 20))).toNat

/-- The uniformity gain of a primary at a pixel (R181). -/
def uniGain (b : List Byte) (w h x y p : Nat) : Nat :=
  let hx := if w = 1 then 0 else x * 63 * 256 / (w - 1)
  let gx := min (hx / 256) 62
  let ax := hx - 256 * gx
  let hy := if h = 1 then 0 else y * 35 * 256 / (h - 1)
  let gy := min (hy / 256) 34
  let ay := hy - 256 * gy
  let g := fun (i j : Nat) => let v := leAt b (12 * (64 * j + i) + 2 * p) 2; v + v / 2 ^ 15
  ((256 - ax) * (256 - ay) * g gx gy + ax * (256 - ay) * g (gx + 1) gy + (256 - ax) * ay * g gx (gy + 1) +
    ax * ay * g (gx + 1) (gy + 1) + 2 ^ 15) / 2 ^ 16

/-- The table a pass sees in a slot: the back copy where the PF's commit is included. -/
def frontOrBack (cs : List Nat) (front back : Tbl (List Byte)) (k : Nat) : List Byte :=
  if cs.contains pfCommit && thas back k then tget [] back k else tget [] front k

/-- The output stage: 20-bit levels by primary index for one view of one pixel (Table COL-1). -/
def State.outputStage (s : State) (cs : List Nat) (o v x y : Nat) (rgb : List Nat) (m : Nat) : List Nat :=
  let gain := s.sg cs (COL_OUT_GAIN.GAIN o)
  let x1 := rgb.map (fun w => min ((w * gain + 2 ^ 19) / 2 ^ 20) (2 ^ 20))
  let slot := s.sg cs (COL_OUT_VIEW.LUT_SLOT o v)
  let x2 := if s.sflag cs (COL_OUT_VIEW.LUT_EN o v) then
      (lutLook (frontOrBack cs s.col.lut s.col.lutBack slot) (if s.sflag cs (COL_LUT_CTRL.SIZE slot) then 65 else 33)
        (x1.map shape)).map unshape
    else x1
  let dec := frontOrBack cs s.col.dec s.col.decBack (s.sg cs (COL_OUT_VIEW.DEC_SLOT o v))
  let e := tget [] s.col.solve (o * 8 + v)
  let grid := frontOrBack cs s.col.grid s.col.gridBack o
  (List.range s.primCount).map (fun p =>
    let val := if s.irPrim = some p then (if v = 4 then min m (2 ^ 20) else 0)
      else
        let q := (s.visPrims.filter (fun k => k < p)).length
        if s.tableMode then decValue dec x2 q else solveValue e x2 q
    let val := if s.sflag cs (COL_OUT_CTRL.UNI_EN o) then (val * uniGain grid (s.outW o) (s.outH o) x y p + 2 ^ 15) / 2 ^ 16 else val
    if bitAt (s.get (COL_OUT_PRIMS.MASK o)) p then min val (2 ^ 20 - 1) else 0)

/-! ### Range checks of COL (R169, R174, R176, R179, Table COL-8) -/

/-- A PF commit's COL values break a range. -/
def State.colRange (s : State) (cs : List Nat) : Bool :=
  let ref := s.sg cs COL_PQ_REF.CDM2
  decide (ref < 40) || decide (10000 < ref) ||
    (List.range 16).any (fun k => k % 2 == 1 && s.sflag cs (COL_LUT_CTRL.SIZE k)) ||
    (List.range outputs).any (fun o => s.outExists o &&
      ((List.range 5).any (fun v =>
        let k := s.sg cs (COL_OUT_VIEW.LUT_SLOT o v)
        (s.sflag cs (COL_OUT_VIEW.LUT_EN o v) && k % 2 == 1 && s.sflag cs (COL_LUT_CTRL.SIZE (k - 1))) ||
        (s.tableMode && bitAt (s.sg cs (COL_OUT_CTRL.VIEWS o)) v &&
          decide (s.sg cs (COL_DEC_CTRL.ROWS (s.sg cs (COL_OUT_VIEW.DEC_SLOT o v))) < s.visPrims.length))) ||
       (decide (16 ≤ o) && popCount 5 (s.sg cs (COL_OUT_CTRL.VIEWS o)) != 1)))

/-! ### Drift (R185) -/

/-- u' and v' of a chromaticity (CIE 1976). -/
def uvOf (v : Rat × Rat) : Rat × Rat :=
  let d := -2 * v.1 + 12 * v.2 + 3
  (4 * v.1 / d, 9 * v.2 / d)

/-- Whether two chromaticities differ by more than `duv` × 10^-4 in u'v'. -/
def driftExceeds (duv : Nat) (a b : Rat × Rat) : Bool :=
  let p := uvOf a
  let q := uvOf b
  let d : Rat := (p.1 - q.1) * (p.1 - q.1) + (p.2 - q.2) * (p.2 - q.2)
  decide (((duv : Nat) : Rat) / 10000 * (((duv : Nat) : Rat) / 10000) < d)

/-- The estimate of some visible primary has moved from the one behind the S of some view of an output (R185). -/
def State.drifted (s : State) (o : Nat) : Bool :=
  let duv := s.get COL_DRIFT_CFG.DUV
  duv != 0 && (s.viewsOf [] o).any (fun v => s.visPrims.any (fun p =>
    (tfind s.col.solveXy ((o * 8 + v) * 8 + p)).any (fun old => driftExceeds duv (s.mixEst p) old)))

/-- COL_PRIM_p_XY and F_p as they stand at a boundary or a latch (R184, the light factor formula). -/
def State.showPrims (s : State) : State :=
  foldOver (List.range s.primCount) (fun p t =>
    let y := listSum ((t.groupsWith p).map (fun g => t.lumOf g p))
    let f := if y = 0 then 65536 else
      (listSum ((t.groupsWith p).map (fun g => t.lumOf g p * t.lightOf g p)) + y / 2) / y
    let m := t.mixXy p
    let t1 := (t.put (COL_PRIM_LIGHT.F p) f)
    if cbKind t.colBase p = 2 then t1 else (t1.put (COL_PRIM_XY.X p) m.1).put (COL_PRIM_XY.Y p) m.2) s

/-! ### The constancy loop (R187 to R189) -/

abbrev loopOff : Nat := 0
abbrev loopRun : Nat := 1
abbrev loopHold : Nat := 2
abbrev loopFrozen : Nat := 3
abbrev trimLimit : Int := 5242

/-- Whether LMP_MAP assigns a photo-sense channel to a primary. -/
def State.senseOf (s : State) (p : Nat) : Option Nat :=
  (idxWhere 16 (fun k => s.secLE secLmpMap 0 (0xA0 + 2 * k) 1 == p)).head?

def State.loopStateShow (s : State) (p st : Nat) : State :=
  (s.put (COL_PRIM_LOOP.STATE p) st).put COL_STATUS.HOLD (setBit (s.get COL_STATUS.HOLD) p (st == loopHold))

/-- The loop runs, is frozen, or is off, as its conditions stand (R187, R189). -/
def State.loopRefresh (s : State) : State :=
  foldOver (List.range s.primCount) (fun p t =>
    let st := t.get (COL_PRIM_LOOP.STATE p)
    let on := t.flag COL_LOOP_CFG.EN && (t.senseOf p).isSome && t.flag HIF_STATUS.STARTUP_DONE
    if !on then
      (if st = loopOff then t
       else { t.loopStateShow p loopOff with col := { t.col with
         trimZero := if t.col.trimZero.contains p then t.col.trimZero else t.col.trimZero ++ [p] } })
    else if t.now < t.col.frozenUntil then t.loopStateShow p loopFrozen
    else if st = loopOff ∨ st = loopFrozen then
      ({ t.loopStateShow p loopRun with col := { t.col with trimZero := t.col.trimZero.filter (fun k => k != p) } })
    else t) s

/-- kl := min(round(65,536 × 2 π bw / f_lf), 16,384) for the nominal LF rate (R188). -/
def State.loopGain (s : State) : Nat :=
  let bw := clampN 4 32 (s.get COL_LOOP_CFG.BW)
  let p16 := s.nominalP16 (s.get TIM_REF_STATUS.ACTIVE)
  min 16384 (divRound (65536 * 2 * 314159265358979324 * bw * p16) (8 * 100000000000000000 * secSteps * 65536))

/-- A sample `y` of primary p: invalid ones are counted; a valid one updates the trim (R187 to R189). -/
def State.loopSample (s : State) (p y : Nat) (slotBad : Bool) : State :=
  let st := s.get (COL_PRIM_LOOP.STATE p)
  let t : Nat := (s.get (COL_PRIM_TARGET.COUNTS p) * s.get (COL_PRIM_LIGHT.F p) + 2 ^ 15) / 2 ^ 16
  let diff := ((y : Int) - (t : Int)).natAbs
  if st = loopOff ∨ st = loopFrozen then s
  else if slotBad || y == 0 || decide (65535 ≤ y) || t == 0 || decide (t < 4 * diff) then
    s.incSat (COL_PRIM_LOOP.INVALID p) 1
  else
    let e := tdiv (((y : Int) - (t : Int)) * 65536) (t : Int)
    let tau := s.getSgn (COL_PRIM_LOOP.TRIM p)
    let step := fdiv ((s.loopGain : Int) * e + 2 ^ 15) (2 ^ 16)
    let want := tau - step
    let new := clampI (-trimLimit) trimLimit want
    let s1 := s.put (COL_PRIM_LOOP.TRIM p) (uns 16 new)
    let pushes := (tau == trimLimit && decide (trimLimit < want)) || (tau == -trimLimit && decide (want < -trimLimit))
    if pushes then
      (if st = loopHold then s1 else (s1.loopStateShow p loopHold).raise 0x0A03 p 1 0)
    else if st = loopHold ∧ ((tau = trimLimit ∧ 0 < step) ∨ (tau = -trimLimit ∧ step < 0)) then (s1.loopStateShow p loopRun).raise 0x0A03 p 0 0
    else s1

/-- The trim that an update carries for a primary: 0 for a loop that is OFF (R188, R189). -/
def State.trimNow (s : State) (p : Nat) : Nat := if s.col.trimZero.contains p then 0 else s.get (COL_PRIM_LOOP.TRIM p)

/-- A chain latch puts the trims of its update in force; a loop that is OFF returns to trim 0 there (R188, R189). -/
def State.latchTrims (s : State) (trims : Tbl Nat) : State :=
  foldOver trims (fun e t =>
    let t1 := { t with col := { t.col with trimLatched := tset t.col.trimLatched e.1 e.2 } }
    if e.2 = 0 ∧ t1.col.trimZero.contains e.1 then
      ({ t1 with col := { t1.col with trimZero := t1.col.trimZero.filter (fun k => k != e.1) } }).put (COL_PRIM_LOOP.TRIM e.1) 0
    else t1) s

end Sys2Proof.Machine
end

