-- ==== Sys2Proof/Machine/Pln.lean ====
section
/-! DEFINITION. Plane sets, code books, dither, the plane former's words, the plane store's capacity and errors, and
the PLANE_MAP section (spec/08, R191 to R206, R210, R211, R213). -/
namespace Sys2Proof.Machine

/-! ### Plane sets (R191 to R193, Table PLN-12) -/

abbrev planeSets : Nat := 32

def State.setEn (s : State) (cs : List Nat) (k : Nat) : Bool := s.sflag cs (PLN_SET_CTRL.EN k)
def State.setOut (s : State) (cs : List Nat) (k : Nat) : Nat := s.sg cs (PLN_SET_CTRL.OUTPUT k)
def State.setPrim (s : State) (cs : List Nat) (k : Nat) : Nat := s.sg cs (PLN_SET_CTRL.PRIMARY k)
def State.setViews (s : State) (cs : List Nat) (k : Nat) : Nat := s.sg cs (PLN_SET_CTRL.VIEWS k)
def State.setPlanes (s : State) (cs : List Nat) (k : Nat) : Nat := s.sg cs (PLN_SET_CTRL.PLANES k)
def State.setTb (s : State) (cs : List Nat) (k : Nat) : Nat := s.sg cs (PLN_SET_CTRL.TB k)
def State.setQb (s : State) (cs : List Nat) (k : Nat) : Nat := s.sg cs (PLN_SET_CTRL.QB k)
def State.setBook (s : State) (cs : List Nat) (k : Nat) : Nat := s.sg cs (PLN_SET_CTRL.BOOK k)
def State.setLoaded (s : State) (cs : List Nat) (k : Nat) : Bool := s.sflag cs (PLN_SET_CTRL.BOOK_SRC k)
def State.setDrop (s : State) (cs : List Nat) (k : Nat) : Nat := s.sg cs (PLN_SET_DROP.DROP k)
def State.setWeights (s : State) (cs : List Nat) (k : Nat) : List Nat :=
  (List.range (min 32 (s.setPlanes cs k))).map (fun j => s.sg cs (PLN_SET_W.WEIGHT k j))
/-- The lowest-numbered view of a set's mask (R191). -/
def State.sourceView (s : State) (cs : List Nat) (k : Nat) : Nat := ((idxWhere 5 (bitAt (s.setViews cs k))).head?).getD 4

/-- Enabled sets of an array output. -/
def State.setsOf (s : State) (cs : List Nat) (o : Nat) : List Nat :=
  idxWhere planeSets (fun k => s.setEn cs k && s.setOut cs k == o)

/-- Planes of an output's enabled sets, code and temporal. -/
def State.planeCount (s : State) (cs : List Nat) (o : Nat) : Nat :=
  listSum ((s.setsOf cs o).map (fun k => s.setPlanes cs k + s.setTb cs k))

/-- 256-bit words in a row (R201). -/
def State.wpr (s : State) (o : Nat) : Nat := divUp (s.outW o) 256

/-- Bytes of one plane, and segments that a number of planes needs (R205). -/
def State.planeBytes (s : State) (o : Nat) : Nat := s.outH o * s.wpr o * 32
def State.segsFor (s : State) (o planes : Nat) : Nat := divUp (planes * s.planeBytes o) 65536

/-- The code step of a set (R194): the weight of its temporal planes. -/
def codeStep (w : List Nat) (qb : Nat) : Nat := (listSum w + (2 ^ qb - 1) / 2) / (2 ^ qb - 1)

/-- An enabled set's own values break a range (R192, R193, R197, Table PLN-12); `knee` in sixteenths. -/
def State.setRange (s : State) (cs : List Nat) (knee k : Nat) : Bool :=
  let planes := s.setPlanes cs k
  let tb := s.setTb cs k
  let qb := s.setQb cs k
  let o := s.setOut cs k
  let views := s.setViews cs k
  s.setEn cs k &&
    (planes == 0 || decide (4 < tb) || decide (32 < planes + tb) || decide (qb < 2) || decide (16 < qb) ||
     decide (4 < s.setDrop cs k) || (views % 16 != 0 && tb != 0) || decide (qb + tb < 8) || views == 0 ||
     !s.outExists o || (views &&& (31 - s.sg cs (COL_OUT_CTRL.VIEWS o))) != 0 ||
     !bitAt (s.get (COL_OUT_PRIMS.MASK o)) (s.setPrim cs k) ||
     (s.setWeights cs k).any (fun w => decide (2 * w < knee)) ||
     (tb != 0 && decide (2 * codeStep (s.setWeights cs k) qb < knee)))

/-- Sets of one book slot disagree (R194). -/
def State.bookClash (s : State) (cs : List Nat) : Bool :=
  anyPair (fun a b => s.setBook cs a == s.setBook cs b &&
    !(s.setPlanes cs a == s.setPlanes cs b && s.setQb cs a == s.setQb cs b && s.setDrop cs a == s.setDrop cs b &&
      s.setLoaded cs a == s.setLoaded cs b && s.setWeights cs a == s.setWeights cs b))
    (idxWhere planeSets (s.setEn cs))

/-- Sets that serve a view and a primary of an output. -/
def State.covers (s : State) (cs : List Nat) (o v p : Nat) : Nat :=
  ((s.setsOf cs o).filter (fun k => bitAt (s.setViews cs k) v && s.setPrim cs k == p)).length

/-- A PF commit's plane sets break a range (R191, R192, R194, R205). -/
def State.plnRange (s : State) (cs : List Nat) (knee : Nat) : Bool :=
  (List.range planeSets).any (s.setRange cs knee) || s.bookClash cs ||
    (List.range arrayOutputs).any (fun o =>
      s.outExists o && !(s.setsOf cs o).isEmpty &&
        ((List.range 5).any (fun v => bitAt (s.sg cs (COL_OUT_CTRL.VIEWS o)) v &&
          (List.range s.primCount).any (fun p => bitAt (s.get (COL_OUT_PRIMS.MASK o)) p && s.covers cs o v p != 1)) ||
         decide (s.get (PLN_OUT_SIZE.IMAGE_SEGS o) < s.segsFor o (s.planeCount cs o))))

/-! ### Code books (R194 to R196) -/

/-- Code planes by falling weight, equal weights by rising number. -/
def planeOrder (w : List Nat) : List Nat :=
  (List.range w.length).foldl (fun l p =>
    l.filter (fun q => nthD w p 0 ≤ nthD w q 0) ++ p :: l.filter (fun q => nthD w q 0 < nthD w p 0)) []

/-- The greedy pattern for a target and what remains of it. -/
def greedy (w : List Nat) : List Nat → Nat → Nat → Nat × Nat
  | [], pat, rem => (pat, rem)
  | p :: r, pat, rem => if nthD w p 0 ≤ rem then greedy w r (pat + 2 ^ p) (rem - nthD w p 0) else greedy w r pat rem

structure BookRun where
  entries : List Nat
  prevPat : Nat
  prevLight : Nat
  maxErr : Nat
  fixes : Nat
  deriving DecidableEq, Repr

/-- One code index of R195. -/
def bookStep (w order : List Nat) (n : Nat) (b : BookRun) (k : Nat) : BookRun :=
  let wt := listSum w
  let t := (k * wt + n / 2) / n
  let g := greedy w order 0 t
  let light := t - g.2
  let fall := decide (light < b.prevLight)
  let pat := if fall then b.prevPat else g.1
  let lt := if fall then b.prevLight else light
  { entries := b.entries ++ [pat], prevPat := pat, prevLight := lt,
    maxErr := max b.maxErr (((t : Int) - (lt : Int)).natAbs), fixes := b.fixes + boolNat fall }

def buildBook (w order : List Nat) (qb : Nat) : BookRun :=
  (List.range (2 ^ qb)).foldl (bookStep w order (2 ^ qb - 1))
    { entries := [], prevPat := 0, prevLight := 0, maxErr := 0, fixes := 0 }

/-- The main book and the throttle book of a set's values (R195). -/
def mainBook (w : List Nat) (qb : Nat) : BookRun := buildBook w (planeOrder w) qb
def throttleBook (w : List Nat) (qb drop : Nat) : BookRun :=
  buildBook w ((planeOrder w).take ((planeOrder w).length - drop)) qb

/-- Planes that a set drops under throttle (R200). -/
def droppedPlanes (w : List Nat) (drop : Nat) : List Nat := (planeOrder w).drop ((planeOrder w).length - drop)

def frontOrBackN (cs : List Nat) (front back : Tbl (List Nat)) (k : Nat) : List Nat :=
  if cs.contains pfCommit && thas back k then tget [] back k else tget [] front k

/-! ### Dither (R197, R198) -/

/-- The ordered mask (R198). -/
def orderedMask (x y : Nat) : Nat :=
  listSum ((List.range 6).map (fun i =>
    boolNat (bitAt y i) * 2 ^ (11 - 2 * i) + boolNat (bitAt (x ^^^ y) i) * 2 ^ (10 - 2 * i)))

/-- The mask value at a place, by the mask a pass sees. -/
def State.maskAt (s : State) (cs : List Nat) (x y : Nat) : Nat :=
  if s.sflag cs PLN_MASK_CTRL.SRC then
    nthD (if cs.contains pfCommit && !s.pln.maskBack.isEmpty then s.pln.maskBack else s.pln.mask) (64 * y + x) 0
  else orderedMask x y

/-- The pattern of one pixel of a set at level `l` (R197). -/
def State.pattern (s : State) (cs : List Nat) (throttle : Bool) (k x y l : Nat) : Nat :=
  let qb := s.setQb cs k
  let tb := s.setTb cs k
  let sp := 20 - qb - tb
  let pr := s.setPrim cs k
  let vw := s.sourceView cs k
  let m := s.maskAt cs ((x + 17 * pr + 37 * vw) % 64) ((y + 29 * pr + 11 * vw) % 64)
  let d := m / 2 ^ (12 - sp)
  let v := min (l + d) (2 ^ 20 - 1) / 2 ^ sp
  let ci := v / 2 ^ tb
  let t := if ci = 2 ^ qb - 1 then 0 else v % 2 ^ tb
  let slot := s.setBook cs k
  let book := if throttle then frontOrBackN cs s.pln.throttle s.pln.throttleBack slot
    else frontOrBackN cs s.pln.book s.pln.bookBack slot
  nthD book ci 0 ||| t * 2 ^ s.setPlanes cs k

/-! ### Plane words (R201, R202) -/

/-- The place of a plane word: set, plane, row and word of the row. -/
abbrev wordKey (k p row g : Nat) : Nat := ((k * 32 + p) * 8192 + row) * 32 + g

/-- The 256-bit word of plane p over columns 256 g to 256 g + 255; columns beyond the width carry 0. -/
def planeWord (pat : Nat → Nat) (w p g : Nat) : Nat :=
  maskOf 256 (fun i => decide (256 * g + i < w) && bitAt (pat (256 * g + i)) p)

/-- The plane words of one set that are not 0, from the pattern of each pixel. -/
def setWords (pat : Nat → Nat → Nat) (w h wpr k planes : Nat) : Tbl Nat :=
  (List.range planes).flatMap (fun p => (List.range h).flatMap (fun y => (List.range wpr).filterMap (fun g =>
    let v := planeWord (fun x => pat x y) w p g
    if v = 0 then none else some (wordKey k p y g, v))))

/-! ### PLANE_MAP (R213, Tables PLN-5, PLN-6) -/

def pmMode (b : List Byte) (o : Nat) : Nat := leAt b (16 * o) 1
def pmBanks (b : List Byte) (o : Nat) : Nat := leAt b (16 * o + 1) 1
def pmBase (b : List Byte) (o : Nat) : Nat := leAt b (16 * o + 2) 2
def pmSegs (b : List Byte) (o : Nat) : Nat := leAt b (16 * o + 4) 2
def pmImage (b : List Byte) (o : Nat) : Nat := leAt b (16 * o + 6) 2
def pmMargin (b : List Byte) (o : Nat) : Nat := leAt b (16 * o + 8) 2

/-- Check 7 of Table CFG-5: at most 320 MiB in all, and phased refill only with block load and reset. -/
def planeMapCheck7 (b : List Byte) (blockLoad : Nat → Bool) : Bool :=
  decide (listSum ((List.range 16).map (fun o => if pmMode b o = 0 then 0 else popCount 8 (pmBanks b o) * pmSegs b o)) ≤ 5120) &&
    (List.range 16).all (fun o => pmMode b o != 2 || blockLoad o)

def planeMapDetail (outs : Nat) (b : List Byte) : Option Nat :=
  let on := idxWhere 16 (fun o => pmMode b o != 0)
  if b.length ≠ 256 then some 0x0C01
  else if (List.range 16).any (fun o => !bytesZero b (16 * o + 10) 6) then some 0x0C02
  else if on.any (fun o => decide (2 < pmMode b o) || !bitAt outs o) then some 0x0C03
  else if (List.range 16).any (fun o => decide (640 < pmBase b o + pmSegs b o)) || on.any (fun o => pmBanks b o == 0) then
    some 0x0C04
  else if anyPair (fun a c => (pmBanks b a &&& pmBanks b c) != 0 && decide (pmBase b a < pmBase b c + pmSegs b c) &&
      decide (pmBase b c < pmBase b a + pmSegs b a)) on then some 0x0C05
  else if on.any (fun o =>
      let have_ := popCount 8 (pmBanks b o) * pmSegs b o
      if pmMode b o = 1 then decide (have_ < 2 * pmImage b o) || pmMargin b o != 0
      else decide (have_ < pmImage b o + pmMargin b o)) then some 0x0C06
  else none

/-- The section takes effect: RWL fields, and the allocated banks are powered (Table PLN-8). -/
def State.applyPlaneMap (s : State) : State :=
  let b := s.sec secPlaneMap 0
  let s1 := foldOver (List.range 16) (fun o t =>
    let t1 := ((t.put (PLN_OUT_CFG.MODE o) (pmMode b o)).put (PLN_OUT_CFG.BANK_MASK o) (pmBanks b o)).put
      (PLN_OUT_SEGS.SEG_BASE o) (pmBase b o)
    ((t1.put (PLN_OUT_SEGS.SEGS_PER_BANK o) (pmSegs b o)).put (PLN_OUT_SIZE.IMAGE_SEGS o) (pmImage b o)).put
      (PLN_OUT_SIZE.MARGIN_SEGS o) (pmMargin b o)) s
  s1.put PLN_STATUS.BANKS_ON (maskOf 8 (fun j => (List.range 16).any (fun o => pmMode b o != 0 && bitAt (pmBanks b o) j)))

/-- Whether an output's plane store works by phased refill. -/
def State.phased (s : State) (o : Nat) : Bool := s.get (PLN_OUT_CFG.MODE o) == 2

/-- PLN_OUT_o_USED for the values in force, with the lead planes of the schedule in force (R205). -/
def State.showUsed (s : State) (o lead : Nat) : State :=
  (s.put (PLN_OUT_USED.IMAGE_NEED o) (s.segsFor o (s.planeCount [] o))).put (PLN_OUT_USED.MARGIN_NEED o)
    (if s.phased o then s.segsFor o lead else 0)

/-! ### Store errors and rows (R210, R211) -/

abbrev rowKey (bank row : Nat) : Nat := bank * 2 ^ 20 + row

def State.rowSt (s : State) (bank row : Nat) : RowSt := tget RowSt.init s.pln.rows (rowKey bank row)

def State.setRow (s : State) (bank row : Nat) (r : RowSt) : State :=
  { s with pln := { s.pln with rows := tset s.pln.rows (rowKey bank row) r } }

/-- Dead rows that a spare is to replace at a boundary. -/
def State.rowsDue (s : State) : Nat := (s.pln.rows.filter (fun e => e.2.dead)).length

/-- A row, or the spare that stands for it, is declared dead (R211): with repair off or no spare left it stays in service; without
a spare the store is degraded. A dead row holds one of the spares that SPARE_ROWS counts until the boundary. -/
def State.rowDead (s : State) (bank row : Nat) (uncorrectable : Bool) : State :=
  let r := s.rowSt bank row
  if r.dead || !s.flag PLN_CTRL.REPAIR_EN then s
  else if s.get PLN_STATUS.SPARE_ROWS ≤ s.rowsDue then
    (if s.flag PLN_STATUS.DEGRADED then s else (s.put PLN_STATUS.DEGRADED 1).raise 0x0903 bank 0 0)
  else s.setRow bank row { r with dead := true, copied := uncorrectable }

/-- A corrected single-bit error of a row (R210): counted; the eighth within 1 s makes the row dead. -/
def State.storeCorrected (s : State) (bank row : Nat) : State :=
  let s1 := s.incSat PLN_ECC.CE 1
  let r := s1.rowSt bank row
  let times := (s.now :: r.ceTimes.filter (fun a => decide (s.now < a + secSteps))).take 8
  let s2 := s1.setRow bank row { r with ceTimes := times }
  if 8 ≤ times.length then s2.rowDead bank row false else s2

/-- A double-bit error (R210): counted, located and logged; the second one of a row makes it dead. -/
def State.storeDouble (s : State) (bank row line : Nat) : State :=
  let s1 := (((s.incSat PLN_ECC.UE 1).put PLN_ECC_ADDR.BANK bank).put PLN_ECC_ADDR.LINE line).raise 0x0901 bank line 0
  let r := s1.rowSt bank row
  let s2 := s1.setRow bank row { r with ue := r.ue + 1 }
  if 1 ≤ r.ue then s2.rowDead bank row true else s2

/-! ### Where the store keeps what (R202, R203, R206, R207) -/

/-- Banks of an output's allocation, in ascending order. -/
def State.banksOf (s : State) (o : Nat) : List Nat := idxWhere 8 (bitAt (s.get (PLN_OUT_CFG.BANK_MASK o)))

/-- Bank and line of a line of an output's allocation (R203). -/
def State.bankLine (s : State) (o l : Nat) : Nat × Nat :=
  let bs := s.banksOf o
  (nthD bs (l % max 1 bs.length) 0, s.get (PLN_OUT_SEGS.SEG_BASE o) * 512 + l / max 1 bs.length)

/-- The output whose allocation a line of a bank lies in, with the line of the allocation. -/
def State.lineOutput (s : State) (bank line : Nat) : Option (Nat × Nat) :=
  (idxWhere arrayOutputs (fun o => s.get (PLN_OUT_CFG.MODE o) != 0 && (s.banksOf o).contains bank &&
    decide (s.get (PLN_OUT_SEGS.SEG_BASE o) * 512 ≤ line) &&
    decide (line < (s.get (PLN_OUT_SEGS.SEG_BASE o) + s.get (PLN_OUT_SEGS.SEGS_PER_BANK o)) * 512))).head?.map (fun o =>
      (o, (line - s.get (PLN_OUT_SEGS.SEG_BASE o) * 512) * (s.banksOf o).length + (s.banksOf o).findIdx (· == bank)))

/-- The planes of an output as set × 32 + plane, sets in order. -/
def State.planesOf (s : State) (cs : List Nat) (o : Nat) : List Nat :=
  (s.setsOf cs o).flatMap (fun k => (List.range (s.setPlanes cs k + s.setTb cs k)).map (fun p => 32 * k + p))

/-- The plane whose regions of the content in force hold a byte of a line of an output's allocation. -/
def State.planeAt (s : State) (o l : Nat) : Option Nat :=
  ((tget [] s.pln.place o).find? (fun e => decide (e.2 < 128 * (l + 1)) && decide (128 * l < e.2 + s.planeBytes o))).map (·.1)

/-- Bank and line of the 64-bit word `col` of row `row` of a plane: the rows of its regions follow each other, `WPR` words of
32 bytes each (R202, R203). -/
def State.wordPlace (s : State) (o key row col : Nat) : Nat × Nat :=
  s.bankLine o ((tget 0 (tget [] s.pln.place o) key + 32 * s.wpr o * row + 8 * col) / 128)

/-- Planes take places in order. -/
def placeIn (planes places : List Nat) : Tbl Nat := (planes.zip places).foldl (fun t e => tset t e.1 e.2) []

/-- The places of a whole copy (R206): plane after plane from the start of the copy that the ports do not read. The spec gives no
order of planes in a copy (DESIGN CHOICE, log 122). -/
def State.copyPlaces (s : State) (cs : List Nat) (o : Nat) : Tbl Nat :=
  let base := if s.get (PLN_OUT_STATUS.READ_BUF o) = 0 then s.get (PLN_OUT_SIZE.IMAGE_SEGS o) * 65536 else 0
  placeIn (s.planesOf cs o) ((List.range (s.planeCount cs o)).map (fun i => base + i * s.planeBytes o))

/-- Plane-sized places of a phased-refill output: those of one copy and of the margin. -/
def State.placesOf (s : State) (o : Nat) : List Nat :=
  (List.range ((s.get (PLN_OUT_SIZE.IMAGE_SEGS o) + s.get (PLN_OUT_SIZE.MARGIN_SEGS o)) * 65536 / max 1 (s.planeBytes o))).map
    (· * s.planeBytes o)

/-- The places of a lead part: the lead planes go into margin regions, which no plane in force holds (R207). -/
def State.leadPlaces (s : State) (o : Nat) (leads : List Nat) : Tbl Nat :=
  let used := (tget [] s.pln.place o).map (fun (e : Nat × Nat) => e.2)
  placeIn leads ((s.placesOf o).filter (fun a => !used.contains a))

/-- The places once a phased pass applies (R207): the margin regions of its lead planes are live, the regions of the lead planes
before become the margin, and the tail planes take the other regions. -/
def State.tailPlaces (s : State) (o : Nat) (leads : List Nat) : Tbl Nat :=
  let new := tget [] s.pln.placeBack o
  let old := (tget [] s.pln.place o).filter (fun (e : Nat × Nat) => (tget [] s.pln.leadNow o).contains e.1)
  let free := (s.placesOf o).filter (fun a => !new.any (fun (e : Nat × Nat) => e.2 == a))
  let margin := fun (a : Nat) => old.any (fun (e : Nat × Nat) => e.2 == a)
  let tails := (s.planesOf [] o).filter (fun p => !leads.contains p)
  (placeIn tails (free.filter (fun a => !margin a) ++ free.filter margin)).foldl (fun t e => tset t e.1 e.2) new

/-- SPARE_ROW_COPY_DONE (R211): the dead row's content is in its spare, which replaces it at the next boundary. -/
def doSpareRowCopyDone (dt bank row : Nat) (s : State) : State :=
  let t := s.tick dt
  t.onLiveIf ((t.rowSt bank row).dead && !(t.rowSt bank row).copied) fun u =>
    u.setRow bank row { u.rowSt bank row with copied := true }

/-- Order 1 of a boundary: spares replace dead rows that are copied, and the old rows are fenced (R211, R26). -/
def State.rowsBoundary (s : State) : State :=
  foldOver (s.pln.rows.filter (fun e => e.2.dead && e.2.copied)) (fun e t =>
    let bank := e.1 / 2 ^ 20
    let row := e.1 % 2 ^ 20
    let t1 := t.setRow bank row { RowSt.init with fenced := true }
    (t1.put PLN_STATUS.SPARE_ROWS (t1.get PLN_STATUS.SPARE_ROWS - 1)).fenceUnit fenceRow bank row) s

/-- STORE_ZERO_DONE (R204): every allocated line holds zeros with valid check bits. -/
def doStoreZeroDone (dt : Nat) (s : State) : State :=
  let t := s.tick dt
  t.onLiveIf (t.cfg.imageRunning && !t.pln.zeroed) fun u =>
    { u with pln := { u.pln with zeroed := true, front := [], back := [], place := [], placeBack := [], leadNow := [] } }

end Sys2Proof.Machine
end

