-- ==== Sys2Proof/Machine/Trig.lean ====
section
/-! DEFINITION. The arccosine of angle time (R260, R270), in fixed point: the series of the cosine to 2^-40 and a
bisection over whole angle units. -/
namespace Sys2Proof.Machine

/-- π in units of 2^-40. -/
abbrev piFix : Int := 3454217652358

/-- Terms of the cosine's series: `t` is the present term, `k` counts up, `x2` is the squared angle, all in 2^-40. -/
def cosSeries (x2 : Int) : Nat → Nat → Int → Int
  | 0, _, _ => 0
  | n + 1, k, t => t + cosSeries x2 n (k + 1) (-(t * x2) / (2 ^ 40 * ((2 * k + 1) * (2 * k + 2) : Nat)))

/-- cos(π a / 2^16) in units of 2^-40, for a from 0 to 2^16. -/
def cosTurn (a : Nat) : Int :=
  let b := if a ≤ 32768 then a else 65536 - a
  let x := piFix * (b : Int) / 65536
  let c := cosSeries (x * x / 2 ^ 40) 14 0 (2 ^ 40)
  if a ≤ 32768 then c else -c

/-- The largest a with cos(π a / 2^16) at least n / d, for |n| ≤ d, bit by bit from the top. -/
def acosGo (n d : Int) : Nat → Nat → Nat
  | 0, acc => acc
  | b + 1, acc => acosGo n d b (if acc + 2 ^ b ≤ 65536 ∧ n * 2 ^ 40 ≤ cosTurn (acc + 2 ^ b) * d then acc + 2 ^ b else acc)

/-- (2^16 / π) arccos(n / d) rounded down to a whole angle unit. -/
def acosTurn (n d : Int) : Nat := acosGo n d 17 0

end Sys2Proof.Machine
end

