-- ==== Sys2Proof/Machine/Sched.lean ====
section
/-! DEFINITION. The schedule compiler of the Gaffer (spec/09, R214 to R230, R234): from the inputs of a compile to
its schedules, or the rejection code of Table SEQ-6 with the place that failed. -/
namespace Sys2Proof.Machine

abbrev lfFpu : Nat := 2 ^ 24

/-- A rejection: code of Table SEQ-6 and the WHERE of SEQ_OUT_o_ERR. -/
abbrev Rej (α : Type) := Except (Nat × Nat) α

abbrev rejCycle : Nat := 0x01
abbrev rejLfShort : Nat := 0x02
abbrev rejWeightLong : Nat := 0x03
abbrev rejWeightShort : Nat := 0x04
abbrev rejNoWhole : Nat := 0x05
abbrev rejOverlap : Nat := 0x06
abbrev rejGap : Nat := 0x07
abbrev rejView : Nat := 0x08
abbrev rejIr : Nat := 0x09
abbrev rejLatch : Nat := 0x0A
abbrev rejSample : Nat := 0x0B
abbrev rejEff : Nat := 0x0C
abbrev rejSlots : Nat := 0x0D
abbrev rejUniform : Nat := 0x0E
abbrev rejStatic : Nat := 0x0F
abbrev rejMech : Nat := 0x10

abbrev whereView (v : Nat) : Nat := 0x800 + v
abbrev whereLf (j : Nat) : Nat := 0xC00 + j

def check (b : Bool) (code wh : Nat) : Rej Unit := if b then .ok () else .error (code, wh)

/-! ### Durations (R216, R217) -/

/-- A duration in gate steps as FPU of an LF 300 ppm shorter than nominal, rounded up (R217). -/
def fpuOf (p16 steps : Nat) : Nat := divUp (steps * 65536 * lfFpu * 10000) (max 1 p16 * 9997)

/-- ARRAY_MECH fields (Table SEQ-8), times in ns. -/
def mechTransit (b : List Byte) : Nat := leAt b 0 2
def mechDwell (b : List Byte) : Nat := leAt b 2 2
def mechLoadMin (b : List Byte) : Nat := leAt b 4 2
def mechGuardPre (b : List Byte) : Nat := leAt b 6 2
def mechGuardPost (b : List Byte) : Nat := leAt b 8 2
def mechFlags (b : List Byte) : Nat := leAt b 0x0A 1
def mechClasses (b : List Byte) : Nat := leAt b 0x0B 1
def mechBlocks (b : List Byte) : Nat := leAt b 0x0C 2
def mechStore (b : List Byte) : Nat := leAt b 0x10 4
def mechRows (b : List Byte) : Nat := leAt b 0x14 2
def mechCols (b : List Byte) : Nat := leAt b 0x16 2
def mechFirstRow (b : List Byte) (k : Nat) : Nat := leAt b (0x20 + 2 * k) 2
def mechBlockLoad (b : List Byte) : Bool := bitAt (mechFlags b) 0
def mechLocalStore (b : List Byte) : Bool := bitAt (mechFlags b) 1
def mechDual (b : List Byte) : Bool := bitAt (mechFlags b) 2
def mechBack (b : List Byte) : Bool := bitAt (mechFlags b) 3

/-- LOAD of R216 in gate steps. -/
def slotLoadSteps (b : List Byte) (portSteps : Nat) : Nat := max portSteps (mechLoadMin b * 4)

/-- The fixed durations of one compile in FPU. -/
structure Dur where
  transit : Nat
  dwell : Nat
  pre : Nat
  post : Nat
  load : Nat
  least : Nat
  deriving DecidableEq, Repr

def CompIn.dur (i : CompIn) : Dur :=
  let f := fpuOf i.p16
  { transit := f (mechTransit i.mech * 4), dwell := f (mechDwell i.mech * 4), pre := f (mechGuardPre i.mech * 4),
    post := f (mechGuardPost i.mech * 4), load := f (slotLoadSteps i.mech i.loadSteps), least := f 32000 }

/-! ### Weights (R193, R288) -/

/-- Nearest current step to a weight below 8, at or above the knee; a tie takes the larger current (DEDUCED,
log 30). The weight is in units of 2^-16. -/
def nearestStep (w knee : Nat) : Nat :=
  (List.range (17 - knee)).foldl (fun b k =>
    if ((2 * w : Nat) - (65536 * (16 - k) : Nat) : Int).natAbs < ((2 * w : Nat) - (65536 * (16 - b) : Nat) : Int).natAbs then k
    else b) 0

/-- Gate steps and current step that realise a weight; none below 8 × knee (R193). -/
def realise (w knee : Nat) : Option (Nat × Nat) :=
  if 2 * w < knee * 65536 then none
  else if 8 * 65536 ≤ w then some (max 8 (divRound w 65536), 0)
  else
    let k := nearestStep w knee
    some (max 8 (divRound (w * 16) (65536 * (16 - k))), k)

/-! ### The pass (R220) -/

/-- One entry of a pass before it is placed. -/
structure Entry where
  set : Nat
  prim : Nat
  src : Nat
  plane : Nat
  w : Nat
  tb : Nat
  n : Nat
  cstep : Nat
  len : Nat
  period : Nat
  load : Nat
  deriving DecidableEq, Repr

def CompSet.src (c : CompSet) : Nat := ((idxWhere 5 (bitAt c.views)).head?).getD 4

/-- Code planes that stay when the DROP lowest-weighted are left out (R195, R200). -/
def keepPlanes (w : List Nat) (drop : Nat) : List Nat :=
  let order := (List.range w.length).foldl (fun l p =>
    l.filter (fun q => nthD w p 0 ≤ nthD w q 0) ++ p :: l.filter (fun q => nthD w q 0 < nthD w p 0)) []
  order.take (order.length - drop)

/-- The entries of one set, weights scaled by `scale` / 2^16 (R229, R230). -/
def setEntries (c : CompSet) (drop temporal : Bool) (scale : Nat) : List Entry :=
  let planes := (List.range c.weights.length).filter
    (fun p => !drop || (keepPlanes c.weights c.drop).contains p)
  let e := fun (p w tb : Nat) =>
    { set := c.set, prim := c.prim, src := c.src, plane := p, w := w * scale, tb := tb, n := 8, cstep := 0, len := 0,
      period := 0, load := 0 : Entry }
  planes.map (fun p => e p (nthD c.weights p 0) 0) ++
    (if temporal && c.tb != 0 then [e c.weights.length c.step c.tb] else [])

/-- Gate steps, current step and period of an entry (R193, R216, R220). -/
def sizeEntry (i : CompIn) (d : Dur) (e : Entry) : Option Entry :=
  match realise e.w i.knee with
  | none => none
  | some (n, k) =>
    let len := fpuOf i.p16 n
    some { e with
      n := n, cstep := k, len := len
      period := max (max (d.transit + d.post + len + d.pre) (d.transit + d.dwell)) (max d.load d.least) }

/-- The order of a pass between two entries outside the set heads: weight falling, then primary, then source view
rising, then plane number falling. -/
def entryBefore (a b : Entry) : Bool :=
  if a.w ≠ b.w then decide (b.w < a.w)
  else if a.prim ≠ b.prim then decide (a.prim < b.prim)
  else if a.src ≠ b.src then decide (a.src < b.src)
  else decide (b.plane ≤ a.plane)

def insertBy {α : Type} (lt : α → α → Bool) (x : α) : List α → List α
  | [] => [x]
  | y :: r => if lt x y then x :: y :: r else y :: insertBy lt x r

def sortBy {α : Type} (lt : α → α → Bool) (l : List α) : List α := l.foldr (insertBy lt) []

/-- The heaviest code plane of a set; of equal ones the highest-numbered (DEDUCED, log 31). -/
def heaviest (l : List Entry) : Option Entry :=
  l.foldl (fun b e =>
    if e.tb ≠ 0 then b
    else match b with
      | none => some e
      | some h => if h.w ≤ e.w then some e else some h) none

/-- The pass in order: the set heads by primary and source view, then the rest (R220). -/
def orderPass (groups : List (List Entry)) : List Entry :=
  let heads := sortBy (fun a b => decide (a.prim < b.prim) || (a.prim == b.prim && decide (a.src ≤ b.src)))
    (groups.filterMap heaviest)
  let isHead := fun (e : Entry) => heads.any (fun h => h.set == e.set && h.plane == e.plane)
  heads ++ sortBy entryBefore ((groups.flatten).filter (fun e => !isHead e))

/-- Load phases with the long-slot grid (R220): the entries so far newest first, and the phase reached. -/
def layStep (p16 : Nat) (grid : Bool) (acc : List Entry × Nat) (e : Entry) : List Entry × Nat :=
  match acc.1 with
  | [] => ([{ e with load := acc.2 }], acc.2 + e.period)
  | last :: r =>
    if grid && decide (p16 ≤ e.n * 16 * 65536) then
      (let g := divUp acc.2 (2 ^ 21) * 2 ^ 21
       ({ e with load := g } :: { last with period := last.period + (g - acc.2) } :: r, g + e.period))
    else ({ e with load := acc.2 } :: last :: r, acc.2 + e.period)

/-- The laid pass and S_min. -/
def layPass (p16 : Nat) (grid : Bool) (l : List Entry) : List Entry × Nat :=
  let r := l.foldl (layStep p16 grid) ([], 0)
  (r.1.reverse, r.2)

/-- The index of the largest period, the earliest on a tie. -/
def largestPeriod (l : List Entry) : Nat :=
  let m := listMax (l.map (·.period))
  ((idxWhere l.length (fun k => (l[k]?).any (fun e => e.period == m))).head?).getD 0

/-- The pass with `extra` added to the period of entry k. -/
def stretch (l : List Entry) (k extra : Nat) : List Entry :=
  (List.range l.length).filterMap (fun i => (l[i]?).map (fun e =>
    if i = k then { e with period := e.period + extra } else if k < i then { e with load := e.load + extra } else e))

/-! ### Camera windows (R214, R222, R223) -/

/-- One camera window of the cycle, in absolute FPU from `base` LFs before the cycle starts. -/
structure WinInst where
  cam : Nat
  opens : Nat
  closes : Nat
  carried : Bool
  deriving DecidableEq, Repr

structure Wins where
  cycle : Nat
  align : Nat
  /-- Least common period of every window considered, and the LFs before it in `inst`. -/
  period : Nat
  base : Nat
  inst : List WinInst
  deriving DecidableEq, Repr

def instsOf (base period views : Nat) (w : CompWin) : List WinInst :=
  ((List.range (base + period + 16)).filter (fun l => (l + 8 * w.frame - w.align) % max 1 w.frame == 0)).map
    (fun l => ⟨w.cam, l * lfFpu + w.open_, l * lfFpu + w.open_ + w.len, bitAt views w.cam⟩)

/-- C of R214: the least common multiple of FRAME_LFS over the carried camera views. -/
def CompIn.camCycle (i : CompIn) : Nat := lcmList (i.cams.map (·.2.1))

/-- The ALIGN_ACT that the carried cameras share (R214). -/
def CompIn.camAlign (i : CompIn) : Nat := ((i.cams.head?).map (·.2.2)).getD 0

/-- The windows that a compile considers: those of carried views, and of every camera where infrared light is
shown (R223). The cycle is that of the carried camera views (R214). -/
def CompIn.wins_ (i : CompIn) (ir : Bool) (transit : Nat) : Rej Wins := do
  let car := i.wins.filter (fun w => bitAt i.views w.cam)
  let use := if ir then i.wins else car
  let cyc := i.camCycle
  let al := i.camAlign
  match i.cams.find? (fun c => c.2.2 != al) with
  | some c => .error (rejCycle, whereView c.1)
  | none =>
    check (decide (cyc ≤ 8)) rejCycle 0
    let per := lcmList (cyc :: use.map (·.frame))
    let base := per * divUp 16 per
    let inst := (use.map (instsOf base per i.views)).flatten
    let cs := inst.filter (·.carried)
    let bad := fun (p : WinInst → WinInst → Bool) =>
      cs.findSome? (fun a => (cs.find? (fun b => a.cam != b.cam && p a b)).map (fun b => b.cam))
    match bad (fun a b => decide (a.opens < b.closes) && decide (b.opens < a.closes)) with
    | some v => .error (rejOverlap, whereView v)
    | none =>
      match bad (fun a b => decide (a.closes ≤ b.opens) && decide (b.opens < a.closes + transit)) with
      | some v => .error (rejGap, whereView v)
      | none => .ok { cycle := cyc, align := al, period := per, base := base, inst := inst }

/-- LFs of the common period at which list j runs. -/
def Wins.lfsOf (w : Wins) (j : Nat) : List Nat :=
  (List.range w.period).filter (fun l => (l + 8 * w.cycle - w.align) % w.cycle == j)

/-- Whether an interval of an LF, given in absolute FPU, would contain a window edge. -/
def hasEdge (inst : List WinInst) (a b : Nat) : Bool :=
  inst.any (fun w => w.carried && ((decide (a < w.opens) && decide (w.opens < b)) ||
    (decide (a < w.closes) && decide (w.closes < b))))

/-- Whether an interval comes within TRANSIT of any window (R223). -/
def meetsZone (inst : List WinInst) (transit a b : Nat) : Bool :=
  inst.any (fun w => decide (a < w.closes + transit) && decide (w.opens < b + transit))

/-- The waveform class of a slot (Table SEQ-1): the spec does not say how the schedule builder assigns classes to slots, so it is
any class that the array has (log 33). -/
def CompIn.waveClass (i : CompIn) (e : Entry) : Nat := (Config.waveClass e.prim e.w).toNat % max 1 (mechClasses i.mech)

/-- An entry placed in list j of the cycle (R218, R220, R221, R223). -/
def placeEntry (i : CompIn) (d : Dur) (w : Wins) (j : Nat) (e : Entry) : Slot :=
  let reset := e.load + d.load
  let early := reset + d.transit + d.post
  let late := reset + e.period - d.pre - e.len
  let ls := w.lfsOf j
  let isIr := i.ir == some e.prim
  let bad := fun st => ls.any (fun l =>
    let a := (w.base + l) * lfFpu + st
    if isIr then meetsZone w.inst d.transit a (a + e.len) else hasEdge w.inst a (a + e.len))
  let useLate := bad early && !bad late
  let st := if useLate then late else early
  let a0 := (w.base + (ls.head?).getD 0) * lfFpu + st
  let view := if isIr then 4 else ((w.inst.find? (fun x => x.carried && decide (x.opens ≤ a0) &&
    decide (a0 + e.len ≤ x.closes))).map (·.cam)).getD 4
  let dark := bad early && bad late
  { set := e.set, plane := e.plane, prim := e.prim, load := e.load, period := e.period, n := e.n, cstep := e.cstep,
    light := st, len := e.len, late := useLate, dark := dark, view := if dark then 4 else view, wclass := i.waveClass e, tb := e.tb,
    w := e.w, stepFrame := false }

/-- How often slot k of the pass lies wholly inside a window, over the LFs it touches (R221). -/
def insideCount (w : Wins) (lists : List (List Slot)) (x : WinInst) (k : Nat) : Nat :=
  ((List.range (x.closes / lfFpu + 1)).filter (fun l =>
    decide (x.opens / lfFpu ≤ l + 1) &&
    (((nthD lists ((l + 8 * w.cycle - w.align) % w.cycle) [])[k]?).any (fun s =>
      !s.dark && decide (x.opens ≤ l * lfFpu + s.light) && decide (l * lfFpu + s.light + s.len ≤ x.closes))))).length

/-- The set-completeness rule over every carried window of the cycle (R221); infrared slots stand outside every
window by R223 and are not counted (DEDUCED, log 32). The window that fails first. -/
def wholeFails (i : CompIn) (w : Wins) (lists : List (List Slot)) (pass : List Entry) : Option Nat :=
  let ks := idxWhere pass.length (fun k => (pass[k]?).any (fun e => i.ir != some e.prim))
  (w.inst.find? (fun x => x.carried && decide (w.base * lfFpu ≤ x.opens) && decide (x.opens < (w.base + w.cycle) * lfFpu) &&
    (let c := ks.map (insideCount w lists x)
     c.any (fun n => n == 0) || c.any (fun n => n != (c.head?).getD 0)))).map (·.cam)

/-- Candidate spans of R220, largest first: LF, and each window edge less the LF's first reset. -/
def spanCands (w : Wins) (load sMin : Nat) : List Nat :=
  let edges := ((w.inst.filter (·.carried)).map (fun x => [x.opens, x.closes])).flatten
  let c := edges.flatMap (fun e => (List.range w.cycle).filterMap (fun j =>
    let at_ := (w.base + j) * lfFpu + load
    if at_ + sMin ≤ e ∧ e ≤ at_ + lfFpu then some (e - at_) else none))
  sortBy (fun a b => decide (b < a)) ((lfFpu :: c).eraseDups)

/-- The largest span for which whole(S) holds, with the cycle's lists; or the view whose window failed last. -/
def trySpans (i : CompIn) (d : Dur) (w : Wins) (pass : List Entry) (sMin : Nat) :
    List Nat → Nat → Rej (Nat × List (List Slot))
  | [], v => .error (rejNoWhole, v)
  | s :: r, _ =>
    let p := stretch pass (largestPeriod pass) (s - sMin)
    let lists := (List.range w.cycle).map (fun j => p.map (placeEntry i d w j))
    match wholeFails i w lists pass with
    | none => .ok (s, lists)
    | some v => trySpans i d w pass sMin r (whereView v)

/-! ### Latches, samples and efficiency (R224, R225, R285, R295) -/

/-- STEP frames: a slot whose current step differs from that of the output's previous slot (R285). -/
def markSteps (prev : Option Nat) : List Slot → List Slot
  | [] => []
  | s :: r => { s with stepFrame := prev.any (fun k => k != s.cstep) } :: markSteps (some s.cstep) r

def markLists (lists : List (List Slot)) : List (List Slot) :=
  (List.range lists.length).map (fun j =>
    markSteps (((nthD lists ((j + lists.length - 1) % lists.length) []).getLast?).map (·.cstep)) (nthD lists j []))

/-- Whether 328 us lie between two latches of a chain. -/
def latchGap (p16 a b : Nat) : Bool := decide (fpuOf p16 (328 * 4000) ≤ b - a)

/-- End of a scan output's canes at the slowest resonance, in FPU: the start of its flyback (R266, log 35). -/
def CompScan.flybackAt (c : CompScan) (p16 : Nat) : Nat :=
  c.slowStart + fpuOf p16 (divUp ((c.height + 1) * 4000000000) (2 * max 1 c.fMin))

/-- Whether an instant lies in every flyback that a chain's latch must lie in (R285). -/
def CompChain.inFlyback (c : CompChain) (p16 ph : Nat) : Bool :=
  c.within.all (fun f => decide (f.flybackAt p16 ≤ ph) && decide (ph ≤ f.flybackAt p16 + fpuOf p16 (f.flybackUs * 4000)))

/-- The latch phase of a chain in one list: the first transit that holds it, after a STEP frame 17 clocks later;
`prev` is the previous latch's phase less one LF (R224, R285). -/
def latchPhase (i : CompIn) (d : Dur) (c : CompChain) (prev : Option Nat) (l : List Slot) : Option Nat :=
  (l.find? (fun s =>
    let k17 := if s.stepFrame then 17 * 2 * c.clkDiv else 0
    let ph := s.load + d.load + fpuOf i.p16 (4 * k17)
    decide (c.windowNs + k17 ≤ i.transitNs) && c.inFlyback i.p16 ph &&
      prev.all (fun p => latchGap i.p16 p (ph + lfFpu)))).map
    (fun s => s.load + d.load + fpuOf i.p16 (4 * (if s.stepFrame then 17 * 2 * c.clkDiv else 0)))

/-- The latches of one chain over the cycle. -/
def chainLatches (i : CompIn) (d : Dur) (c : CompChain) : Nat → Option Nat → List (List Slot) → Rej (List Nat)
  | _, _, [] => .ok []
  | j, prev, l :: r =>
    match latchPhase i d c prev l with
    | none => .error (rejLatch, whereLf j)
    | some ph => (chainLatches i d c (j + 1) (some ph) r).map (fun t => ph :: t)

def allLatches (i : CompIn) (d : Dur) (lists : List (List Slot)) : List CompChain → Rej (List (List (Nat × Nat)))
  | [] => .ok (lists.map (fun _ => []))
  | c :: r => do
    check (decide (c.settleNs ≤ i.transitNs) && decide (c.windowNs ≤ i.transitNs)) rejLatch 0
    let rest ← allLatches i d lists r
    if c.here then do
      let ps ← chainLatches i d c 0 none lists
      check (latchGap i.p16 ((ps.getLast?).getD 0) ((ps.head?).getD 0 + lfFpu)) rejLatch (whereLf 0)
      .ok ((rest.zip ps).map (fun x => (c.chain, x.2) :: x.1))
    else .ok rest

/-- The sample of one primary in one list: the middle of its heaviest full-current slot that is lit, the earliest of
equal ones, long enough for the conversions (R224, R295). -/
def samplePhase (i : CompIn) (p : Nat) (l : List Slot) : Option Nat :=
  let c := l.filter (fun s => s.prim == p && s.cstep == 0 && !s.dark && s.tb == 0)
  let m := listMax (c.map (·.w))
  match c.find? (fun s => s.w == m) with
  | none => none
  | some s => if i.samples * 2000 ≤ s.n then some (s.light + s.len / 2) else none

def listSamples (i : CompIn) (j : Nat) (l : List Slot) : List Nat → Rej (List (Nat × Nat))
  | [] => .ok []
  | p :: r =>
    match samplePhase i p l with
    | none => .error (rejSample, whereLf j)
    | some ph => (listSamples i j l r).map (fun t => (p, ph) :: t)

def allSamples (i : CompIn) (prims : List Nat) : Nat → List (List Slot) → Rej (List (List (Nat × Nat)))
  | _, [] => .ok []
  | j, l :: r => do
    let a ← listSamples i j l prims
    let b ← allSamples i prims (j + 1) r
    .ok (a :: b)

/-- Light time of a list (R218): the usable dwell of its slots, whether a pulse fills it or not. Every latch window
lies within its transit (Table SEQ-3), so none is deducted. -/
def lightTime (d : Dur) (l : List Slot) : Nat := listSum (l.map (fun s => s.period - d.transit - d.pre - d.post))

/-- Efficiency of one LF in 0.01 % against the mechanical bound: R_w is what no period of the LF's slots covers
(R225; DEDUCED for a static schedule, log 33). -/
def effOf (d : Dur) (l : List Slot) : Nat :=
  lightTime d l * 10000 / max 1 (listSum (l.map (·.period)) - l.length * d.transit)

/-- Latches, samples and figures of placed lists, those of the LF with the least efficiency; `held` asks for 92.5 %
(R225). -/
def finish (i : CompIn) (d : Dur) (cyc al span gain : Nat) (held : Bool) (lists0 : List (List Slot)) : Rej Sched := do
  let lists := markLists lists0
  match (idxWhere lists.length (fun j => decide (1024 < (nthD lists j []).length))).head? with
  | some j => .error (rejSlots, whereLf j)
  | none =>
    let la ← allLatches i d lists i.chains
    let prims := i.sensed.filter (fun p => lists.any (fun l => l.any (fun s => s.prim == p)))
    let sa ← allSamples i prims 0 lists
    let used := lists.filter (fun l => !l.isEmpty)
    let effs := used.map (effOf d)
    let low := listMin 10000 effs
    check (!held || decide (9250 ≤ low)) rejEff (whereLf (((idxWhere lists.length
      (fun j => !(nthD lists j []).isEmpty && effOf d (nthD lists j []) == low)).head?).getD 0))
    .ok { cycle := cyc, align := al, lists := lists, load := d.load, span := span, latches := la, refs := sa,
          windows := [], eff := low,
          light := ((used.find? (fun l => effOf d l == low)).map (lightTime d)).getD 0, gain := gain,
          edgeDark := listSum (lists.map (fun l => (l.filter (·.dark)).length)) }

/-! ### Committed schedules and their throttle variants (R220, R230) -/

/-- The sized entries of every set; a weight below the knee or beyond the longest dwell is refused with its place
in the list (Table SEQ-6). -/
def sizedSets (i : CompIn) (d : Dur) (drop temporal : Bool) (scale : Nat) : Rej (List (List Entry)) :=
  let raw := i.sets.map (fun c => setEntries c drop temporal scale)
  let sized := raw.map (fun l => l.map (sizeEntry i d))
  let flat := sized.flatten
  match (idxWhere flat.length (fun k => (flat[k]?).any (·.isNone))).head? with
  | some k => .error (rejWeightShort, k)
  | none =>
    match (idxWhere flat.length (fun k => ((flat[k]?).bind (·)).any
        (fun e => decide (lfFpu < d.transit + d.post + e.len + d.pre)))).head? with
    | some k => .error (rejWeightLong, k)
    | none => .ok (sized.map (fun l => l.filterMap (·)))

/-- Whether some infrared set of the compile is left unshown by a list: every slot of it is edge-dark (R223). -/
def CompIn.irUnshown (i : CompIn) (l : List Slot) : Bool :=
  (i.sets.filter (fun c => i.ir == some c.prim)).any (fun c => !l.any (fun s => s.set == c.set && !s.dark))

def compileFull (i : CompIn) (drop temporal : Bool) (scale : Nat) : Rej Sched := do
  let d := i.dur
  let showsIr := i.sets.any (fun c => i.ir == some c.prim)
  let w ← i.wins_ showsIr d.transit
  let sets ← sizedSets i d drop temporal scale
  let laid := layPass i.p16 true (orderPass sets)
  check (decide (laid.2 ≤ lfFpu)) rejLfShort 0
  let (span, lists) ← trySpans i d w laid.1 laid.2 (spanCands w d.load laid.2) 0
  match (idxWhere lists.length (fun j => i.irUnshown (nthD lists j []))).head? with
  | some j => .error (rejIr, whereLf j)
  | none => do
    check (bitAt i.views 4 || lists.all (fun l => l.all (fun s => s.dark || s.view != 4))) rejView (whereView 4)
    finish i d w.cycle w.align span 0 true lists

/-! ### The uniform schedule (R229) -/

/-- The entries of one mini-pass at gain g / 256. -/
def miniPass (i : CompIn) (d : Dur) (light g : Nat) : Option (List Entry) :=
  let sized := i.sets.map (fun c => (setEntries c true false (g * light)).map (sizeEntry i d))
  if sized.flatten.all (·.isSome) then some (orderPass (sized.map (fun l => l.filterMap (·)))) else none

/-- The largest gain, tried from `g` down to 64, whose mini-pass fits in 2^20 FPU less LOAD. The order of the pass
does not change its length. -/
def uniformGain (i : CompIn) (d : Dur) (light : Nat) : Nat → Nat → Rej (Nat × List Entry)
  | 0, _ => .error (rejUniform, 0)
  | fuel + 1, g =>
    if g < 64 then .error (rejUniform, 0)
    else match miniPass i d light g with
      | none => .error (rejWeightShort, 0)
      | some l =>
        if listSum (l.map (·.period)) + d.load ≤ 2 ^ 20 then .ok (g, l) else uniformGain i d light fuel (g - 1)

/-- The uniform schedule; `light` is in sixteenths, 16 without throttle (R230; log 34). -/
def compileUniform (i : CompIn) (light : Nat) : Rej Sched := do
  let d := i.dur
  let (g, l) ← uniformGain i d light 193 256
  let laid := layPass i.p16 false l
  let slot := fun (m : Nat) (e : Entry) =>
    { set := e.set, plane := e.plane, prim := e.prim, load := m * 2 ^ 20 + e.load, period := e.period, n := e.n,
      cstep := e.cstep, light := m * 2 ^ 20 + e.load + d.load + d.transit + d.post, len := e.len, late := false,
      dark := false, view := 4, wclass := i.waveClass e, tb := 0, w := e.w, stepFrame := false : Slot }
  let one := fun m => laid.1.map (slot m)
  finish i d 1 0 (16 * laid.2) (g * 10000 / 256) false [(List.range 16).flatMap one]

/-! ### The static schedule (R234) -/

/-- Whether the static fields keep R234 at an LF period: Q below D, D from 2 to 8, cadence at least 96 Hz. -/
def staticOk (p16 q d : Nat) : Bool :=
  decide (1 ≤ q) && decide (q < d) && decide (2 ≤ d) && decide (d ≤ 8) &&
    decide (96 * d * p16 ≤ q * 4000000000 * 65536)

/-- The static schedule: D LFs, repeated until the cycle of the carried views is full (R214, R234). -/
def compileStatic (i : CompIn) (q dd : Nat) : Rej Sched := do
  let d := i.dur
  check (staticOk i.p16 q dd) rejStatic 0
  check (decide (i.camCycle * dd ≤ 8)) rejCycle 0
  let sets ← sizedSets i d false true 65536
  let laid := layPass i.p16 true (orderPass sets)
  check (decide (laid.2 ≤ dd * lfFpu / max 1 q) && !(i.sets.any (fun c => i.ir == some c.prim) && !i.wins.isEmpty))
    rejStatic 0
  let slots := (List.range q).flatMap (fun k => laid.1.map (fun e => (k * dd * lfFpu / max 1 q + e.load, e)))
  let list := fun j => (slots.filter (fun x => x.1 / lfFpu % dd == j)).map (fun x =>
    let ph := x.1 % lfFpu
    { set := x.2.set, plane := x.2.plane, prim := x.2.prim, load := ph, period := x.2.period, n := x.2.n,
      cstep := x.2.cstep, light := ph + d.load + d.transit + d.post, len := x.2.len, late := false, dark := false,
      view := 4, wclass := i.waveClass x.2, tb := x.2.tb, w := x.2.w, stepFrame := false : Slot })
  finish i d (i.camCycle * dd) i.camAlign laid.2 0 true ((List.range i.camCycle).flatMap (fun _ => (List.range dd).map list))

/-! ### A scan output's enable windows (R223, R268, R270) -/

/-- Gaps between windows of one LF, at most 8, as (opens, closes). -/
def gapsOf (from_ : Nat) : List (Nat × Nat) → List (Nat × Nat)
  | [] => if from_ < lfFpu then [(from_, lfFpu)] else []
  | (a, b) :: r => if from_ < a then (from_, a) :: gapsOf (max from_ b) r else gapsOf (max from_ b) r

/-- The enable windows of list j: the whole LF, less the camera windows of every LF that runs the list, with TRANSIT at
each edge, where the output shows infrared. -/
def enableWindows (w : Wins) (transit : Nat) (ir : Bool) (j : Nat) : List (Nat × Nat) :=
  if !ir then [(0, lfFpu)]
  else
    let blocked := (w.lfsOf j).flatMap (fun k => w.inst.filterMap (fun x =>
      let l := (w.base + k) * lfFpu
      let a := x.opens - transit
      let b := x.closes + transit
      if a < l + lfFpu ∧ l < b then some (a - l, min lfFpu (b - l)) else none))
    gapsOf 0 (sortBy (fun a b => decide (a.1 ≤ b.1)) blocked)

/-- Time beyond the used travel about a turning point, in steps, at F_MAX (R270). -/
def CompScan.turnSteps (c : CompScan) : Nat :=
  2 * acosTurn c.use 65536 * 4000000000 / (2 * max 1 c.fMax * 65536)

/-- Whether some turning point of the sweep lies in a window with a half period on either side, at any frequency of
the range: a window of two half periods within the sweep holds one. -/
def burstFits (p16 : Nat) (c : CompScan) (wins : List (Nat × Nat)) : Bool :=
  let half := fpuOf p16 (divUp 4000000000 (2 * max 1 c.fMin))
  let stop := c.flybackAt p16
  wins.any (fun x => decide (max x.1 c.slowStart + 3 * half ≤ min x.2 stop))

def compileScan (i : CompIn) (c : CompScan) : Rej Sched := do
  let tr := fpuOf i.p16 (i.transitNs * 4)
  let ir := i.sets.any (fun x => i.ir == some x.prim)
  let w ← i.wins_ ir tr
  let wins := (List.range w.cycle).map (enableWindows w tr ir)
  match (idxWhere wins.length (fun j => decide (8 < (nthD wins j []).length))).head? with
  | some j => .error (rejIr, whereLf j)
  | none => do
    let ph := c.flybackAt i.p16
    let la := i.chains.filter (·.here) |>.map (fun x => (x.chain, ph))
    match (idxWhere wins.length (fun j => !c.burst.isEmpty && !burstFits i.p16 c (nthD wins j []))).head? with
    | some j => .error (rejSample, whereLf j)
    | none => do
      check (c.burst.isEmpty || decide (i.samples * 2000 + 4000 ≤ c.turnSteps)) rejSample 0
      .ok { cycle := w.cycle, align := w.align, lists := wins.map (fun _ => []), load := 0, span := lfFpu,
            latches := wins.map (fun _ => la), refs := wins.map (fun _ => []), windows := wins, eff := 0, light := 0,
            gain := 0, edgeDark := 0 }

/-! ### A whole compile (R219) -/

/-- Every schedule of a compile, or the first rejection: committed, uniform, throttle, throttle uniform, static. -/
def compile (i : CompIn) : Rej SchedSet := do
  match i.scan with
  | some c => do
    let s ← compileScan i c
    .ok { committed := s, uniform := s, throttle := s, throttleUniform := s, static_ := none }
  | none => do
    check (!i.mech.isEmpty) rejMech 0
    match i.sets.find? (fun c => c.views &&& i.views != c.views) with
    | some c => .error (rejView, whereView (((idxWhere 5 (fun v => bitAt c.views v && !bitAt i.views v)).head?).getD 0))
    | none => do
      let a ← compileFull i false true 65536
      let u ← compileUniform i 16
      let t ← compileFull i true false (i.throttleLight * 4096)
      let tu ← compileUniform i i.throttleLight
      match i.static_ with
      | none => .ok { committed := a, uniform := u, throttle := t, throttleUniform := tu, static_ := none }
      | some (q, dd) => do
        let st ← compileStatic i q dd
        .ok { committed := a, uniform := u, throttle := t, throttleUniform := tu, static_ := some st }

end Sys2Proof.Machine
end

