-- ==== Sys2Proof/Machine/Seq.lean ====
section
/-! DEFINITION. The Gaffer at run time: compile inputs and jobs, rebuilds, selection of schedules, static cadence,
waveforms, event delivery, slot readback, and the ARRAY_MECH and TILE_PROG sections (spec/09, R214, R219, R226 to
R237; R18, R27). -/
namespace Sys2Proof.Machine

/-! ### What a compile takes (R219) -/

def State.mechOf (s : State) (o : Nat) : List Byte := s.sec secArrayMech o

/-- A section as the pending reload would leave it (R76). -/
def State.reloadSec (s : State) (ty inst : Nat) : List Byte :=
  (tfind s.cfg.reload (ty * 65536 + inst)).getD (s.sec ty inst)

/-- A camera's published window; none while its length is 0 (Table TIM-21). -/
def State.window (s : State) (n : Nat) : Option CompWin :=
  if s.get (TIM_SHUT_WIN_LEN.LEN n) = 0 then none
  else some { cam := n, frame := s.actGet (TIM_SHUT_CTRL.FRAME_LFS_M1 n) + 1, align := s.get (TIM_SHUT_STATUS.ALIGN_ACT n),
              open_ := s.get (TIM_SHUT_WIN_OPEN.OPEN n), len := s.get (TIM_SHUT_WIN_LEN.LEN n) }

def State.windows (s : State) : List CompWin := (List.range 4).filterMap s.window

/-- Windows of the camera views that an output carries. -/
def State.carriedWindows (s : State) (cs : List Nat) (o : Nat) : List CompWin :=
  s.windows.filter (fun w => bitAt (s.viewMask cs o) w.cam)

/-- The cameras whose views an output carries, with FRAME_LFS and ALIGN_ACT (R214). -/
def State.carriedCams (s : State) (cs : List Nat) (o : Nat) : List (Nat × Nat × Nat) :=
  (idxWhere 4 (bitAt (s.viewMask cs o))).map (fun n =>
    (n, s.actGet (TIM_SHUT_CTRL.FRAME_LFS_M1 n) + 1, s.get (TIM_SHUT_STATUS.ALIGN_ACT n)))

/-- Ports of an array, in part order (R238). -/
def State.portsOf (s : State) (o : Nat) : List Nat :=
  let l := idxWhere 16 (fun p => s.flag (APT_PORT_CFG.EXISTS p) && s.get (APT_PORT_CFG.ARRAY p) == o)
  (List.range 4).flatMap (fun k => l.filter (fun p => s.get (APT_PORT_CFG.PART p) == k))

/-- Parts of an array: the code of PARTS is its log2. -/
def State.partsOf (s : State) (p : Nat) : Nat := 2 ^ s.get (APT_PORT_CFG.PARTS p)

/-- Lanes that LANE_MAP assigns to a port. -/
def State.portLanes (s : State) (p : Nat) : List Nat := idxWhere 128 (fun l => s.secLE secLaneMap 0 (0x20 + l) 1 == p)

/-- Rate code of a lane: of its group, of the spare's group, or of its Laxus port (R306). -/
def State.laneRate (s : State) (l : Nat) : Nat :=
  if l < 128 then s.secLE secLaneMap 0 (l / 16) 1
  else if l < 136 then s.secLE secLaneMap 0 (l - 128) 1
  else s.secLE secLaneMap 0 (0x08 + (l - 136) / 2) 1

/-- Guaranteed payload of a rate code in 0.1 Gb/s (Table LAN-1). -/
def payloadRate (code : Nat) : Nat := nthD [0, 75, 151, 241, 264, 302] code 0

/-- The port's plane load time in gate steps, rounded up, at `width` lanes (R216). -/
def State.portLoadSteps (s : State) (o width : Nat) : Nat :=
  match s.portsOf o with
  | [] => 0
  | p :: _ =>
    let rate := payloadRate (s.laneRate (((s.portLanes p).head?).getD 0))
    divUp (s.outH o * s.outW o / s.partsOf p * 40) (max 1 (width * rate))

/-! ### Chains of an output (LMP_MAP, Table LMP-13) -/

def lmChains (b : List Byte) : Nat := leAt b 0 1
def lmRails (b : List Byte) : Nat := leAt b 1 1
def lmGroups (b : List Byte) : Nat := leAt b 2 1
def lmPositions (b : List Byte) (c : Nat) : Nat := leAt b (4 + 2 * c) 2
def lmClkDiv (b : List Byte) (c : Nat) : Nat := leAt b (0x0C + c) 1
def lmWindow (b : List Byte) (c : Nat) : Nat := leAt b (0x10 + 2 * c) 2
def lmSettle (b : List Byte) (c : Nat) : Nat := leAt b (0x18 + 2 * c) 2
def lmGateOut (b : List Byte) (l : Nat) : Nat := leAt b (0x20 + 2 * l) 1
def lmGateDac (b : List Byte) (l : Nat) : Nat := leAt b (0x21 + 2 * l) 1
def lmSense (b : List Byte) (k : Nat) : Nat := leAt b (0xA0 + 2 * k) 1
def lmRange (b : List Byte) (k : Nat) : Nat := leAt b (0xA1 + 2 * k) 1
def lmRail (b : List Byte) (g : Nat) : Nat := leAt b (0xC0 + 4 * g) 1
def lmPosLine (b : List Byte) (k : Nat) : Nat := leAt b (0x1C0 + 4 * k) 1
def lmPosGroup (b : List Byte) (k : Nat) : Nat := leAt b (0x1C1 + 4 * k) 1
def lmPosPrim (b : List Byte) (k : Nat) : Nat := leAt b (0x1C2 + 4 * k) 1
def lmPosDac (b : List Byte) (k : Nat) : Bool := bitAt (leAt b (0x1C3 + 4 * k) 1) 0

def State.lampMap (s : State) : List Byte := s.sec secLmpMap 0

/-- Positions of a chain that carry an emitter, as numbers 256 c + i. -/
def lmUsed (b : List Byte) (c : Nat) : List Nat :=
  if bitAt (lmChains b) c then
    ((List.range (lmPositions b c)).map (fun i => 256 * c + i)).filter (fun k => lmPosLine b k != 0xFF)
  else []

/-- Outputs that a chain's positions serve. -/
def lmChainOuts (b : List Byte) (c : Nat) : List Nat :=
  idxWhere 20 (fun o => (lmUsed b c).any (fun k => lmGateOut b (lmPosLine b k) == o))

/-- Chains that carry positions of an output. -/
def State.chainsOf (s : State) (o : Nat) : List Nat := idxWhere 4 (fun c => (lmChainOuts s.lampMap c).contains o)

/-- Gate lines of an output and primary. -/
def State.linesOf (s : State) (o p : Nat) : List Nat :=
  let b := s.lampMap
  idxWhere 64 (fun l => lmGateOut b l == o && (List.range 4).any (fun c => (lmUsed b c).any
    (fun k => lmPosLine b k == l && lmPosPrim b k == p)))

/-- The output whose schedule latches a chain: its lowest-numbered array output with an enabled plane set, or its
first scan output where it serves only those (R285; DEDUCED, log 38). -/
def State.latchOutput (s : State) (cs : List Nat) (c : Nat) : Option Nat :=
  let l := (lmChainOuts s.lampMap c).filter s.outExists
  match l.find? (fun o => decide (o < 16) && !(s.setsOf cs o).isEmpty) with
  | some o => some o
  | none => l.find? (fun o => decide (16 ≤ o))

/-! ### Scan outputs (Table SCN-7) -/

def scExists (b : List Byte) (n : Nat) : Bool := bitAt (leAt b (32 * n) 1) 0
def scAuto (b : List Byte) (n : Nat) : Bool := bitAt (leAt b (32 * n) 1) 1
def scInvert (b : List Byte) (n : Nat) : Bool := bitAt (leAt b (32 * n) 1) 2
def scFMin (b : List Byte) (n : Nat) : Nat := leAt b (32 * n + 2) 2
def scFMax (b : List Byte) (n : Nat) : Nat := leAt b (32 * n + 4) 2
def scAmpMax (b : List Byte) (n : Nat) : Nat := leAt b (32 * n + 6) 2
def scDac (b : List Byte) (n d : Nat) : Nat := leAt b (32 * n + 8 + d) 1
def scSust (b : List Byte) (n : Nat) : Nat := leAt b (32 * n + 0x0C) 2
def scSlowLo (b : List Byte) (n : Nat) : Nat := leAt b (32 * n + 0x10) 4
def scSlowHi (b : List Byte) (n : Nat) : Nat := leAt b (32 * n + 0x14) 4
def scSlowPark (b : List Byte) (n : Nat) : Nat := leAt b (32 * n + 0x18) 4

def State.scanCfg (s : State) : List Byte := s.sec secScanCfg 0

/-- Primaries of an output's PRIMS mask. -/
def State.outPrims (s : State) (o : Nat) : List Nat := idxWhere 6 (bitAt (s.get (COL_OUT_PRIMS.MASK o)))

/-- Primaries with a photo-sense channel. -/
def State.sensed (s : State) : List Nat :=
  idxWhere 6 (fun p => (List.range 16).any (fun k => lmSense s.lampMap k == p))

/-- Whether some array output with plane sets shows a primary. -/
def State.arrayShows (s : State) (cs : List Nat) (p : Nat) : Bool :=
  (List.range 16).any (fun o => s.outExists o && (s.setsOf cs o).any (fun k => s.setPrim cs k == p))

/-- The engine that gives a primary's reference burst: the lowest-numbered whose output shows it and whose REF_BURST
is 1 (R270). -/
def State.burstEngine (s : State) (p : Nat) : Option Nat :=
  (idxWhere 4 (fun n => s.outExists (16 + n) && (s.outPrims (16 + n)).contains p && s.flag (SCN_ENG_CTRL.REF_BURST n))).head?

/-- What a compile takes of a scan output. -/
def State.scanInput (s : State) (cs : List Nat) (n : Nat) : CompScan :=
  let b := s.scanCfg
  { slowStart := s.sg cs (SCN_ENG_SWEEP.SLOW_START n), height := s.outH (16 + n), fMin := scFMin b n, fMax := scFMax b n,
    flybackUs := s.sg cs (SCN_ENG_LOOP.FLYBACK_US n), use := s.sg cs (SCN_ENG_GEOM.USE n),
    burst := s.sensed.filter (fun p => !s.arrayShows cs p && s.burstEngine p == some n) }

/-! ### The inputs -/

/-- The nominal LF period, as the commits `cs` would leave it (R37). -/
def State.nominalUnder (s : State) (cs : List Nat) : Nat :=
  let r := s.get TIM_REF_STATUS.ACTIVE
  match r with
  | 0 => freerunP16 (s.sg cs TIM_FREERUN_PERIOD.PERIOD)
  | 1 => refP16 (s.ref 1).period (s.sg cs TIM_LF_CFG.MUL) (s.sg cs TIM_LF_CFG.DIV)
  | 2 => refP16 (s.ref 2).period (s.sg cs TIM_LF_CFG.MUL) (s.sg cs TIM_LF_CFG.DIV)
  | _ => s.nominalP16 refLaxus

/-- The largest TRANSIT of the arrays, by the ARRAY_MECH sections given: what a scan output keeps clear of a camera
window (DEDUCED, log 37). -/
def maxTransit (mech : Nat → List Byte) : Nat := listMax ((List.range 16).map (fun o => mechTransit (mech o)))

/-- What a compile takes of a chain. -/
def State.chainInput (s : State) (cs : List Nat) (o c : Nat) : CompChain :=
  let b := s.lampMap
  let scans := (lmChainOuts b c).filter (fun x => decide (16 ≤ x) &&
    (lmUsed b c).any (fun k => lmPosDac b k && lmGateOut b (lmPosLine b k) == x))
  { chain := c, windowNs := lmWindow b c, settleNs := lmSettle b c, clkDiv := lmClkDiv b c,
    here := s.latchOutput cs c == some o,
    within := if o < 16 then scans.map (fun x => s.scanInput cs (x - 16)) else [] }

/-- One plane set as a compile takes it. -/
def State.setInput (s : State) (cs : List Nat) (k : Nat) : CompSet :=
  { set := k, prim := s.setPrim cs k, views := s.setViews cs k, weights := s.setWeights cs k, drop := s.setDrop cs k,
    tb := s.setTb cs k, step := codeStep (s.setWeights cs k) (s.setQb cs k) }

/-- Lanes in use on a port: those of the width in force (R256). -/
def State.activeWidth (s : State) (o : Nat) : Nat := (((s.portsOf o).head?).map (fun p => s.get (APT_PORT_STATE.ACTIVE_WIDTH p))).getD 1

/-- The inputs of a compile of output o after the commits `cs`, at a port width, under the ARRAY_MECH sections given. A
scan output's primaries stand as sets without planes. -/
def State.compInput (s : State) (cs : List Nat) (o width : Nat) (mech : Nat → List Byte) : CompIn :=
  let views := s.viewMask cs o
  let sets := if o < 16 then (s.setsOf cs o).map (s.setInput cs)
    else (s.outPrims o).map (fun p =>
      { set := 0, prim := p, views := views, weights := [], drop := 0, tb := 0, step := 0 : CompSet })
  { sets := sets, views := views, wins := s.windows, cams := s.carriedCams cs o, p16 := s.nominalUnder cs, knee := s.sg cs LMP_CTRL.KNEE,
    throttleLight := s.sg cs SEQ_THROTTLE_CFG.LIGHT, samples := max 1 (s.get LMP_PS_CFG.SAMPLES),
    cf := if cs.contains pfCommit then s.rdN (TIM_OUT_CF o) else (s.actRd (TIM_OUT_CF o)).toNat,
    static_ := if s.sflag cs (SEQ_OUT_CTRL.STATIC_EN o) then
      some (s.sg cs (SEQ_OUT_CTRL.STATIC_Q o), s.sg cs (SEQ_OUT_CTRL.STATIC_D o)) else none,
    ctrl := if cs.contains pfCommit then s.rdN (SEQ_OUT_CTRL o) else (s.actRd (SEQ_OUT_CTRL o)).toNat,
    mech := mech o, loadSteps := if o < 16 then s.portLoadSteps o width else 0,
    chains := (s.chainsOf o).map (s.chainInput cs o), sensed := s.sensed, ir := s.irPrim,
    transitNs := if o < 16 then mechTransit (mech o) else maxTransit mech,
    scan := if o < 16 then none else some (s.scanInput cs (o - 16)) }

def State.commitInput (s : State) (cs : List Nat) (o : Nat) : CompIn :=
  s.compInput cs o (s.activeWidth o) s.mechOf

/-- Two inputs of a compile are the same: every field, and LF rates within the 100 ppm that R38 grants a reference
(DEDUCED, log 33). -/
def CompIn.same (a b : CompIn) : Bool :=
  { a with p16 := b.p16 } == b && decide (Int.natAbs ((a.p16 : Int) - b.p16) * 10000 ≤ b.p16)

/-- A commit alters the nominal LF rate in force (R42). -/
def State.rateMoves (s : State) (cs : List Nat) : Bool := s.nominalUnder cs != s.nominalUnder []

/-- Whether a commit asks for a compile of an output (R219, R42): its plane sets, views, CF bounds, throttle light or
SEQ_OUT_o_CTRL differ from those in force, or the LF rate changes. -/
def State.asksCompile (s : State) (cs : List Nat) (o : Nat) : Bool :=
  cs.contains pfCommit && s.outExists o &&
    (let i := s.commitInput cs o
     match tfind s.seq.force o with
     | none => !i.sets.isEmpty
     | some (f, _) => !i.sets.isEmpty && (i.sets != f.sets || i.views != f.views || i.cf != f.cf ||
         i.throttleLight != f.throttleLight || i.ctrl != f.ctrl || i.scan != f.scan || s.rateMoves cs))

/-- Kind of a commit's compile (Table SEQ-11): 0, or 3 where only the throttle light or SEQ_OUT_o_CTRL changes. -/
def State.commitKind (s : State) (cs : List Nat) (o : Nat) : Nat :=
  let i := s.commitInput cs o
  match tfind s.seq.force o with
  | none => 0
  | some (f, _) => if i.sets == f.sets && i.views == f.views && i.cf == f.cf && i.scan == f.scan && !s.rateMoves cs then 3 else 0

/-! ### Compile jobs (R226, R227) -/

/-- Results are kept by output × 4 + owner: 0 the PF's commit, 1 a rebuild, 2 a reload, 3 a width change. -/
abbrev jobKey (o owner : Nat) : Nat := o * 4 + owner

/-- SEQ_SCHED_STATUS as the jobs stand; the first of several running compiles is shown. -/
def State.showJobs (s : State) : State :=
  let s1 := (s.putB SEQ_SCHED_STATUS.BUSY (!s.seq.running.isEmpty)).putSat SEQ_SCHED_STATUS.QUEUED s.seq.queue.length
  match s.seq.running with
  | [] => (s1.put SEQ_SCHED_STATUS.OUT 0).put SEQ_SCHED_STATUS.KIND 0
  | j :: _ => (s1.put SEQ_SCHED_STATUS.OUT j.out).put SEQ_SCHED_STATUS.KIND
      (if j.kind = 0 then s1.commitKind [pfCommit] j.out else j.kind)

/-- The width that a width change gives an output's ports: half of the present one, or the image's once a lane has been
readmitted (R256, R419). -/
def State.changedWidth (s : State) (o : Nat) : Nat :=
  let p := ((s.portsOf o).head?).getD 0
  if (s.portsOf o).any (fun k => (tget PortSt.init s.apt.ports k).widen) then (s.portLanes p).length else s.activeWidth o / 2

/-- The inputs of a job of an owner, taken at its start (R219, R227). -/
def State.jobInput (s : State) (o owner : Nat) : CompIn :=
  match owner with
  | 0 => s.commitInput [pfCommit] o
  | 1 => s.commitInput [] o
  | 2 => s.compInput [] o (s.activeWidth o) (s.reloadSec secArrayMech)
  | _ => s.compInput [] o (s.changedWidth o) s.mechOf

def State.startJob (s : State) (o owner : Nat) : State :=
  { s with seq := { s.seq with running := s.seq.running ++ [⟨o, owner, s.now, s.jobInput o owner⟩] } }

/-- Ask for a compile: it starts at once, or queues behind the running compile of its output (R227). -/
def State.askJob (s : State) (o owner : Nat) : State :=
  let s1 := { s with seq := { s.seq with
    done := tdel s.seq.done (jobKey o owner)
    rejected := tdel s.seq.rejected (jobKey o owner) } }
  if s1.seq.queue.contains (o, owner) then s1
  else if s1.seq.running.any (fun j => j.out == o) then
    { s1 with seq := { s1.seq with queue := s1.seq.queue ++ [(o, owner)] } }.showJobs
  else (s1.startJob o owner).showJobs

/-- The compiles that the PF's pending commit needs are asked for: those with neither a result nor a rejection for
their present inputs, nor a job under way with them (R219, R226). -/
def State.commitCompiles (s : State) : State :=
  foldOver ((List.range outputs).filter (s.asksCompile [pfCommit])) (fun o t =>
    let i := t.commitInput [pfCommit] o
    let k := jobKey o 0
    let have_ := (tfind t.seq.done k).any (fun d => d.inp.same i) || (tfind t.seq.rejected k).any (·.same i) ||
      t.seq.running.any (fun j => j.out == o && j.kind == 0 && j.inp.same i) || t.seq.queue.contains (o, 0)
    if have_ then t else t.askJob o 0) s

/-- Condition 3 of R29 for a commit: every compile it asks for is accepted for its present inputs. -/
def State.compilesReady (s : State) (cs : List Nat) : Bool :=
  (List.range outputs).all (fun o => !s.asksCompile cs o ||
    (tfind s.seq.done (jobKey o 0)).any (fun d => d.inp.same (s.commitInput cs o)))

/-- COMPILE_START (R227): the first waiting compile of an output starts once none runs for it. -/
def doCompileStart (dt o : Nat) (s : State) : State :=
  let t := s.tick dt
  match t.seq.queue.find? (fun q => q.1 == o) with
  | none => t
  | some q =>
    t.onCoreIf (!t.seq.running.any (fun j => j.out == o)) fun u =>
      ({ u with seq := { u.seq with queue := u.seq.queue.erase q } }.startJob q.1 q.2).showJobs

/-- Fields a rejection sets and raises (R226). -/
def State.rejectJob (s : State) (o code wh : Nat) : State :=
  ((s.put (SEQ_OUT_ERR.CODE o) code).put (SEQ_OUT_ERR.WHERE o) wh).raise 0x0401 o code wh

/-- The job of an output leaves the builders. -/
def State.dropJob (s : State) (o : Nat) : State :=
  { s with seq := { s.seq with running := s.seq.running.filter (fun j => j.out != o) } }

/-- Whether a job's inputs still hold: a reload's all of them; another's windows and sections (R76, R78, R228). -/
def State.jobHolds (s : State) (j : CompJob) : Bool :=
  let i := s.jobInput j.out j.kind
  if j.kind = 2 then j.inp.same i
  else j.inp.wins == i.wins && j.inp.cams == i.cams && j.inp.mech == i.mech && j.inp.transitNs == i.transitNs

/-- A compile ends (R76, R78, R219, R226, R228): a result whose inputs have changed since its start is discarded and
compiled again; another is kept until it applies. The state, and the owner and outcome of the compile. -/
def State.endJob (s : State) (o : Nat) : State × Option (Nat × Bool) :=
  match s.seq.running.find? (fun j => j.out == o) with
  | none => (s, none)
  | some j =>
    let s1 := s.dropJob o
    if !s1.jobHolds j then ((s1.askJob o j.kind).showJobs, none)
    else match compile j.inp with
      | .error e =>
        (({ s1 with seq := { s1.seq with rejected := tset s1.seq.rejected (jobKey o j.kind) j.inp } }.rejectJob o e.1 e.2).showJobs,
          some (j.kind, false))
      | .ok r =>
        (({ s1 with seq := { s1.seq with done := tset s1.seq.done (jobKey o j.kind) ⟨j.inp, r, s1.now⟩ } }.putSat
            SEQ_SCHED_STATUS.LAST_US ((s1.now - j.start) / (100 * usSteps))).showJobs, some (j.kind, true))

/-! ### Schedules in force -/

def State.forced (s : State) (o : Nat) : Option SchedSet := (tfind s.seq.force o).map (·.2)

/-- The schedule that a RUNNING rank names (Table GEN-19). -/
def SchedSet.ofRank (x : SchedSet) (rank : Nat) (static_ : Bool) : Option Sched :=
  match rank with
  | 2 => some x.throttleUniform
  | 3 => some x.throttle
  | 4 => some x.uniform
  | 5 => if static_ then (match x.static_ with | some y => some y | none => some x.committed) else some x.committed
  | _ => none

/-- The schedule that an output runs. -/
def State.runSched (s : State) (o : Nat) : Option Sched :=
  match s.forced o with
  | none => none
  | some x => x.ofRank (s.get (SEQ_OUT_SCHED.RUNNING o)) (s.flag (SEQ_OUT_SCHED.STATIC o))

/-- The cycle index of an LF (R214). -/
def Sched.index (x : Sched) (lfn : Nat) : Nat := (lfn + 2 ^ 32 * x.cycle - x.align) % x.cycle

def Sched.slotsAt (x : Sched) (lfn : Nat) : List Slot := nthD x.lists (x.index lfn) []

/-- Slot i of the running LF of an output. -/
def State.slotNow (s : State) (o i : Nat) : Option Slot :=
  match s.runSched o with
  | none => none
  | some x => (x.slotsAt s.tim.lfn)[i]?

/-- The plane that a slot loads in an LF; none for a temporal slot's dark LF (R199). -/
def slotPlane (x : Slot) (lfn : Nat) : Option Nat :=
  if x.tb = 0 then some x.plane
  else
    let c := lfn % 2 ^ x.tb
    let ones := ((List.range x.tb).find? (fun k => !bitAt c k)).getD x.tb
    if ones = x.tb then none else some (x.plane + (x.tb - 1 - ones))

/-- Lead planes of an output as set × 32 + plane: what the committed schedule loads earlier than TAIL_BUDGET us after
the boundary at the nominal period (R207). -/
def leadPlanes (x : Sched) (p16 tailUs : Nat) : List Nat :=
  let early := (x.lists.flatten).filter (fun e => decide (e.load * p16 < tailUs * usSteps * 65536 * lfFpu))
  (early.flatMap (fun e => (List.range (max 1 e.tb)).map (fun j => e.set * 32 + e.plane + j))).eraseDups

/-- The lead planes of an output by the schedule that the commits would leave in force, and the TAIL_BUDGET they
leave (log 39). -/
def State.leadsOf (s : State) (cs : List Nat) (o : Nat) : List Nat :=
  let sch := match (if s.asksCompile cs o then (tfind s.seq.done (jobKey o 0)).map (·.res) else s.forced o) with
    | some x => some x.committed
    | none => none
  match sch with
  | none => []
  | some x => leadPlanes x (s.nominalUnder cs) (s.sg cs (PLN_OUT_REFILL.TAIL_BUDGET o))

/-- SEQ_SLOT_DATA shows the selected slot; a selection beyond the schedule reads 0 (Table SEQ-12). -/
def State.showSlot (s : State) : State :=
  let o := s.get SEQ_SLOT_SEL.OUT
  let set_ := if s.flag SEQ_SLOT_SEL.PENDING then
      (match (List.range 4).findSome? (fun k => tfind s.seq.done (jobKey o k)) with
       | some d => some d.res
       | none => none) else s.forced o
  let sch := match set_ with
    | none => none
    | some x => match s.get SEQ_SLOT_SEL.VARIANT with
      | 0 => some x.committed
      | 1 => some x.uniform
      | 2 => some x.throttle
      | _ => some x.throttleUniform
  match (match sch with | none => none | some x => (nthD x.lists (s.get SEQ_SLOT_SEL.LF) [])[s.get SEQ_SLOT_SEL.SLOT]?) with
  | none => foldOver (List.range 4) (fun k t => t.wrN (SEQ_SLOT_DATA_0 + 4 * k) 0) s
  | some e =>
    (((s.wrN SEQ_SLOT_DATA_0 (e.load % lfFpu + boolNat e.dark * 2 ^ 24 + boolNat e.late * 2 ^ 25 +
        boolNat (e.tb != 0) * 2 ^ 26 + e.view * 2 ^ 27)).wrN SEQ_SLOT_DATA_1 (e.period % lfFpu + e.wclass * 2 ^ 24)).wrN
      SEQ_SLOT_DATA_2 (e.set + e.plane * 2 ^ 8 + e.cstep * 2 ^ 16)).wrN SEQ_SLOT_DATA_3 e.n

/-- The per-output registers of Table SEQ-13 for the schedules in force. -/
def State.showSched (s : State) (o : Nat) : State :=
  let s0 := match s.forced o with
    | none =>
      (((((s.put (SEQ_OUT_SCHED.VARIANTS_READY o) 0).put (SEQ_OUT_SCHED.CYCLE_M1 o) 0).put (SEQ_OUT_SCHED.SLOTS o) 0).wrN
        (SEQ_OUT_EFF o) 0).wrN (SEQ_OUT_SPAN o) 0).wrN (SEQ_OUT_LIGHT o) 0
    | some x =>
      let c := x.committed
      let cyc := match (if s.flag (SEQ_OUT_SCHED.STATIC o) then x.static_ else none) with
        | some y => y.cycle
        | none => c.cycle
      ((((((s.put (SEQ_OUT_SCHED.VARIANTS_READY o) 1).put (SEQ_OUT_SCHED.CYCLE_M1 o) (cyc - 1)).put
        (SEQ_OUT_SCHED.SLOTS o) (listMax (c.lists.map (fun (l : List Slot) => l.length)))).put (SEQ_OUT_EFF.EFF o) c.eff).put
        (SEQ_OUT_EFF.UNIFORM_GAIN o) x.uniform.gain).putSat (SEQ_OUT_SPAN.SPAN o) c.span).putSat (SEQ_OUT_LIGHT.LIGHT o) c.light
  let s1 := s0.putB (SEQ_OUT_SCHED.REBUILD_PENDING o) (s0.seq.rebuild.contains o)
  let s2 := s1.putSat (SEQ_OUT_COUNTS.EDGE_DARK o) (match s1.runSched o with | none => 0 | some x => x.edgeDark)
  if o < 16 then s2.putSat (SEQ_OUT_MECH.LOAD_NS o)
      (if (s2.mechOf o).isEmpty then 0 else divUp (slotLoadSteps (s2.mechOf o) (s2.portLoadSteps o (s2.activeWidth o))) 4) else s2

/-- An accepted result comes into force for an output, and PLN_OUT_o_USED reports its lead planes (R205). -/
def State.install (s : State) (o : Nat) (d : CompDone) : State :=
  let t := { s with seq := { s.seq with force := tset s.seq.force o (d.inp, d.res) } }
  if o < arrayOutputs then t.showUsed o (t.leadsOf [] o).length else t

/-! ### Commits and rebuilds (R227, R228) -/

/-- A shutter change makes a rebuild pending on every output with a schedule that the window concerns: an output that
carries the view, or a scan output that shows infrared (R223, R228). -/
def State.windowChanged (s : State) (n : Nat) : State :=
  foldOver ((List.range outputs).filter (fun o => thas s.seq.force o &&
      (bitAt (s.viewMask [] o) n || (decide (16 ≤ o) && (s.outPrims o).any (fun p => s.irPrim == some p)))))
    (fun o t =>
      let u := { t with seq := { t.seq with rebuild := if t.seq.rebuild.contains o then t.seq.rebuild else t.seq.rebuild ++ [o] } }
      u.askJob o 1) s

/-- The schedules of an applied commit take effect (order 4): its own, compiled against the windows now published, end
a rebuild (R228); an output left without plane sets has no schedule (R442). -/
def State.commitSchedules (s : State) (asked : List Nat) : State :=
  let s1 := foldOver asked (fun o t =>
    match tfind t.seq.done (jobKey o 0) with
    | none => t
    | some d =>
      let u := { (t.install o d) with seq := { (t.install o d).seq with done := tdel t.seq.done (jobKey o 0) } }
      if t.seq.rebuild.contains o then
        (if d.inp.wins = t.windows ∧ d.inp.cams = t.carriedCams [] o then
          { u with seq := { u.seq with
            rebuild := u.seq.rebuild.erase o
            done := tdel u.seq.done (jobKey o 1)
            queue := u.seq.queue.filter (fun q => q != (o, 1)) } }
         else u.askJob o 1)
      else u) s
  { s1 with seq := { s1.seq with
    force := s1.seq.force.filter (fun e => decide (16 ≤ e.1) || !(s1.setsOf [] e.1).isEmpty)
    rebuild := s1.seq.rebuild.filter (fun o => decide (16 ≤ o) || !(s1.setsOf [] o).isEmpty) } }

/-- Whether LFN `lfn` starts a camera frame of every camera that an output carries (R45, R228). -/
def State.frameStart (s : State) (o lfn : Nat) : Bool :=
  (s.carriedCams [] o).all (fun c => (lfn + 2 ^ 32 * c.2.1 - c.2.2) % c.2.1 == 0)

/-- Rebuild commits at a boundary: accepted at least 20 us ago, at a camera-frame start, and decided in a Laxus system
(`allowed`, R228). -/
def State.rebuildCommits (s : State) (allowed : Nat → Bool) : State :=
  foldOver (s.seq.rebuild.filter (fun o => allowed o && s.frameStart o s.tim.lfn &&
      (tfind s.seq.done (jobKey o 1)).any (fun d => decide (d.time + 20 * usSteps ≤ s.now))))
    (fun o t =>
      match tfind t.seq.done (jobKey o 1) with
      | none => t
      | some d =>
        let u := t.install o d
        ({ u with seq := { u.seq with
          rebuild := u.seq.rebuild.erase o
          done := tdel u.seq.done (jobKey o 1) } }).inc (SEQ_OUT_COUNTS.REBUILDS o)) s

/-! ### Throttle and selection (R27, R230) -/

/-- Order 3: throttle is entered or left on every output together. -/
def State.setThrottle (s : State) (on : Bool) : State :=
  if s.seq.throttled == on then s
  else
    let s1 := ({ s with seq := { s.seq with throttled := on } }).putB SEQ_THROTTLE.ACTIVE on
    if on then s1.inc SEQ_THROTTLE.ENTRIES else s1

/-- Order 5 for one output: its rank of Table GEN-19; `stop` is rank 1's condition. -/
def State.selectRank (s : State) (stop : Bool) (o : Nat) : State :=
  let pend := s.seq.rebuild.contains o
  let rank := if !thas s.seq.force o then 0 else if stop then 1
    else if s.seq.throttled && pend then 2 else if s.seq.throttled then 3 else if pend then 4 else 5
  (s.put (SEQ_OUT_SCHED.RUNNING o) rank).showSched o

def State.selectRanks (s : State) (stop : Bool) : State :=
  (foldOver ((List.range outputs).filter s.outExists) (fun o t => t.selectRank stop o) s).showSlot

/-! ### Static cadence (R234) -/

/-- No output carries a camera view with a window, and static cadence is allowed and compiled. -/
def State.staticAllowed (s : State) (o : Nat) : Bool :=
  s.actFlag (SEQ_OUT_CTRL.STATIC_EN o) && (s.forced o).any (fun x => x.static_.isSome) &&
    (List.range outputs).all (fun p => !s.outExists p || (s.carriedWindows [] p).isEmpty)

def State.passQueued (s : State) (o : Nat) : Bool :=
  !(tget [] s.cmp.passes (s.leaderOf o)).isEmpty || s.pln.tailRunning.contains o

/-- STATIC_ENTER: no pass has run for STATIC_DELAY LFs; the output waits for cycle index 0. -/
def doStaticEnter (dt o : Nat) (s : State) : State :=
  let t := s.tick dt
  t.onLiveIf (decide (o < 16) && t.staticAllowed o && !t.passQueued o && !t.flag (SEQ_OUT_SCHED.STATIC o) &&
      decide (t.actGet (SEQ_OUT_CTRL.STATIC_DELAY o) ≤ tget 0 t.seq.stillLfs o)) fun u =>
    { u with seq := { u.seq with staticStart := if u.seq.staticStart.contains o then u.seq.staticStart
      else u.seq.staticStart ++ [o] } }

/-- The static schedule is left (R234). -/
def State.leaveStatic (s : State) (o : Nat) : State :=
  ({ s with seq := { s.seq with staticStart := s.seq.staticStart.erase o, stillLfs := tset s.seq.stillLfs o 0 } }).put
    (SEQ_OUT_SCHED.STATIC o) 0

/-- Static cadence at a boundary: LFs without forming are counted, an entry takes place at cycle index 0, and a
schedule whose conditions fail is left. -/
def State.staticBoundary (s : State) : State :=
  foldOver ((List.range 16).filter s.outExists) (fun o t =>
    let busy := t.passQueued o
    let t1 := { t with seq := { t.seq with
      stillLfs := tset t.seq.stillLfs o (if busy then 0 else tget 0 t.seq.stillLfs o + 1) } }
    if !t1.staticAllowed o || busy then
      (if t1.flag (SEQ_OUT_SCHED.STATIC o) && t1.staticAllowed o then t1 else t1.leaveStatic o)
    else if t1.seq.staticStart.contains o &&
        ((t1.forced o).bind (·.static_)).any (fun x => x.index t1.tim.lfn == 0) then
      ({ t1 with seq := { t1.seq with staticStart := t1.seq.staticStart.erase o } }).put (SEQ_OUT_SCHED.STATIC o) 1
    else t1) s

/-! ### Waveforms (R231, R248) -/

def State.waveSec (s : State) (o : Nat) : List Byte := s.sec secWaveform o

/-- Waveform identity for a class in a band; none where the section lacks it. -/
def waveId (b : List Byte) (band cls : Nat) : Option Nat :=
  let v := leAt b (4 + 8 * band + cls) 1
  if leAt b 0 1 ≤ band ∨ v = 0xFF ∨ b.isEmpty then none else some v

/-- The waveform in use for a class of an array. -/
def State.waveOf (s : State) (o cls : Nat) : Nat := tget (leAt (s.waveSec o) (4 + cls) 1) s.seq.wave (o * 8 + cls)

/-- WAVEFORM_SELECT at a boundary for one array whose band in use is `band`. -/
def State.selectWaves (s : State) (o band : Nat) : State :=
  let n := mechClasses (s.mechOf o)
  let missing := (List.range n).any (fun c => (waveId (s.waveSec o) band c).isNone)
  let s1 := foldOver (List.range n) (fun c t =>
    match waveId (t.waveSec o) band c with
    | none => t
    | some v => { t with seq := { t.seq with wave := tset t.seq.wave (o * 8 + c) v } }) s
  let key := o * 8 + band
  if missing then
    (if s1.seq.waveMissing.contains key then s1
     else ({ s1 with seq := { s1.seq with waveMissing := s1.seq.waveMissing ++ [key] } }).raiseB 0x0403 o band 0)
  else { s1 with seq := { s1.seq with waveMissing := s1.seq.waveMissing.filter (fun k => k / 8 != o) } }

/-! ### Fabric events (R16, R18, R232) -/

/-- Whether an event adds light or changes what light shows; the others only remove light (R16, R17). -/
def FabKind.adds : FabKind → Bool
  | .gateFall => false
  | .scanClose => false
  | _ => true

/-- The output whose schedule places an event: a chain's latch and a primary's sample stand in the schedule that lists
them. No output's schedule places the commit point. -/
def State.eventOutput (s : State) (e : FabEvent) : Option Nat :=
  match e.kind with
  | .latch => s.latchOutput [] e.unit_
  | .sample => (List.range outputs).find? (fun o => (s.runSched o).any (fun x => x.refs.any (fun l => l.any (fun r => r.1 == e.unit_))))
  | .scanOpen => some (16 + e.unit_)
  | .scanClose => some (16 + e.unit_)
  | .commit => none
  | .hbm => none
  | _ => some e.unit_

/-- The phase of an event in its LF by a schedule. -/
def eventPhase (x : Sched) (e : FabEvent) : Option Nat :=
  let j := x.index e.lfn
  let sl := (x.slotsAt e.lfn)[e.slot]?
  match e.kind with
  | .planeLoad => sl.map (·.load)
  | .reset => sl.map (fun y => y.load + x.load)
  | .step => sl.bind (fun y => if y.stepFrame then some (y.load + x.load) else none)
  | .gateRise => sl.bind (fun y => if y.dark then none else some y.light)
  | .gateFall => sl.bind (fun y => if y.dark then none else some (y.light + y.len))
  | .latch => ((nthD x.latches j []).find? (fun c => c.1 == e.unit_)).map (·.2)
  | .sample => ((nthD x.refs j []).find? (fun c => c.1 == e.unit_)).map (·.2)
  | .scanOpen => ((nthD x.windows j [])[e.slot]?).map (·.1)
  | .scanClose => ((nthD x.windows j [])[e.slot]?).map (·.2)
  | .commit => none
  | .hbm => none

/-- The phase of an event by the schedule in force. -/
def State.placedPhase (s : State) (e : FabEvent) : Option Nat :=
  if e.kind = .hbm then some (s.actGet SEQ_HBM_WIN.PHASE)
  else match s.eventOutput e with
  | none => none
  | some o => (s.runSched o).bind (fun x => eventPhase x e)

/-- The boundary that starts an LF, in steps with 16 fraction bits, and its P: as fixed for the running LF, by the plan for
one to come, and by the running LF's P for one that is over (DEDUCED, log 120). -/
def State.lfPlace16 (s : State) (lfn : Nat) : Int × Nat :=
  let k := mod32Sub lfn s.tim.lfn
  if k = 0 then (s.tim.lfStart16, s.tim.p16)
  else if k < 2 ^ 31 then ((s.tim.lfStart16 + s.tim.p16 + (k - 1) * s.tim.planP16 : Nat), s.tim.planP16)
  else ((s.tim.lfStart16 : Int) - ((2 ^ 32 - k) * s.tim.p16 : Nat), s.tim.p16)

/-- How much earlier an event fires: TIM_OUT_n_SKEW of a port or scan engine with COMP set. Gate edges, chain frames and
samples reach their balls with GATE[0] (R56). -/
def State.eventSkew (s : State) (e : FabEvent) : Int :=
  match e.kind, s.eventOutput e with
  | .planeLoad, some o => if s.flag (TIM_OUT_SKEW.COMP o) then s.getSgn (TIM_OUT_SKEW.SKEW o) else 0
  | .reset, some o => if s.flag (TIM_OUT_SKEW.COMP o) then s.getSgn (TIM_OUT_SKEW.SKEW o) else 0
  | .scanOpen, some o => if s.flag (TIM_OUT_SKEW.COMP o) then s.getSgn (TIM_OUT_SKEW.SKEW o) else 0
  | .scanClose, some o => if s.flag (TIM_OUT_SKEW.COMP o) then s.getSgn (TIM_OUT_SKEW.SKEW o) else 0
  | _, _ => 0

/-- The instant of an event in gate steps: floor(phase × P / 2^24 + 1/2) after its LF's boundary (R35), or 20 us before the
next boundary for the commit point (R30). -/
def State.eventInstant (s : State) (e : FabEvent) : Option Nat :=
  let b := s.lfPlace16 e.lfn
  if e.kind = .commit then some ((b.1 + b.2) / 65536 - 20 * usSteps).toNat
  else (s.placedPhase e).map (fun ph =>
    ((b.1 + 32768) / 65536 + ((2 * ph * b.2 + 2 ^ 24 * 65536) / (2 * 2 ^ 24 * 65536) : Nat) - s.eventSkew e).toNat)

/-- Whether no schedule places a chain's latch: start-up is not complete, or none runs (log 38). -/
def State.freeLatch (s : State) (c : Nat) : Bool :=
  !s.flag HIF_STATUS.STARTUP_DONE || (match s.latchOutput [] c with
    | none => true
    | some o => (s.runSched o).isNone)

/-- Whether an event engine holds an event whose instant in the running LF has come; a latch that no schedule places is due as
the fabric delivers it (log 38). -/
def State.eventDue (s : State) (e : FabEvent) : Bool :=
  s.seq.fab.contains e && e.lfn == s.tim.lfn &&
    ((e.kind == .latch && s.freeLatch e.unit_) || (s.eventInstant e).any (fun t => decide (t ≤ s.now)))

/-- An event leaves its engine as it fires. -/
def State.takeEvent (s : State) (e : FabEvent) : State := { s with seq := { s.seq with fab := s.seq.fab.erase e } }

/-- Events of LFs that are over leave their engines. -/
def State.dropOldEvents (s : State) : State :=
  { s with seq := { s.seq with fab := s.seq.fab.filter (fun e => lfnAtOrAfter e.lfn s.tim.lfn) } }

/-- The tile with a role and parameter is being checked after a mismatch, and delivers nothing that adds light (R417). -/
def State.withheld (s : State) (role param : Nat) : Bool :=
  s.cal.shadows.any (fun x => (x.confirming || x.dead) && s.secLE secTileProg 0 (16 + 16 * x.logical) 1 == role &&
    s.secLE secTileProg 0 (16 + 16 * x.logical + 1) 1 == param)

/-- The group of the tile with a role and parameter is off: it delivers nothing, and the use is late (R32). -/
def State.feederOff (s : State) (role param : Nat) : Bool :=
  s.seq.tiles.any (fun x => x.2.logical.any (fun l => s.secLE secTileProg 0 (16 + 16 * l) 1 == role &&
    s.secLE secTileProg 0 (16 + 16 * l + 1) 1 == param) && !s.domOn (152 + x.1 / 8))

/-- The compositor slices of an output, or of its leader, are on (R32, Table GEN-21). -/
def State.slicesOn (s : State) (o : Nat) : Bool :=
  let e0 := cutEntry (s.sec secCmpCut 0) o
  let e := if e0.follower then cutEntry (s.sec secCmpCut 0) e0.leader else e0
  (List.range e.slices).all (fun k => s.domOn (186 + e.first + k))

/-- The plane store banks of an output are on (R32, Table GEN-21). -/
def State.banksOn (s : State) (o : Nat) : Bool :=
  (idxWhere 8 (bitAt (s.get (PLN_OUT_CFG.BANK_MASK o)))).all (fun b => s.domOn (202 + b))

/-- The role and parameter of the tile that delivers an event (R237). -/
def State.feederOf (s : State) (e : FabEvent) : Nat × Nat :=
  match e.kind with
  | .scanOpen => (3, e.unit_)
  | .scanClose => (3, e.unit_)
  | .latch => (4, 0)
  | .sample => (4, 0)
  | .commit => (5, 0)
  | .hbm => (5, 0)
  | _ => (2, (s.eventOutput e).getD 0)

/-- Less than 2 us remain to an event's instant as it arrives (R18). -/
def State.eventLate (s : State) (e : FabEvent) : Bool :=
  lfnAfter s.tim.lfn e.lfn || (s.eventInstant e).any (fun t => decide (t < s.now + 2 * usSteps))

/-- A slot of an LF, as a key of the ports' tables: LFNs alternate. -/
abbrev readyKey (o slot lfn : Nat) : Nat := (o * 1024 + slot) * 2 + lfn % 2

/-- A late light-adding event is discarded: counted, logged with the event's stamp, and its slot stays dark (R18, R54). -/
def State.discardEvent (s : State) (e : FabEvent) : State :=
  let at_ := (s.eventInstant e).getD s.now
  let ph := if e.kind = .commit then 2 ^ 24 - 20 * usSteps * 2 ^ 40 / max 1 (s.lfPlace16 e.lfn).2 else (s.placedPhase e).getD s.phase
  let s1 := (s.inc SEQ_LATE.COUNT).raiseAt e.lfn ph at_ 0x0402 ((s.eventOutput e).getD 0) 0 0
  let slot := e.kind == .planeLoad || e.kind == .reset || e.kind == .gateRise || e.kind == .step
  if slot then { s1 with apt := { s1.apt with suppressed := s1.apt.suppressed ++ [readyKey e.unit_ e.slot e.lfn] } } else s1

/-- An event enters its engine, which holds at most 4,096 of one LF (R232). -/
def State.holdEvent (s : State) (e : FabEvent) : State :=
  if s.seq.fab.contains e ||
      decide (4096 ≤ (s.seq.fab.filter (fun x => x.kind == e.kind && x.unit_ == e.unit_ && x.line == e.line && x.lfn == e.lfn)).length) then s
  else { s with seq := { s.seq with fab := s.seq.fab ++ [e] } }

/-! ### Ranges of a PF commit -/

/-- LIGHT outside 8 to 16, or static fields that break R234 (Tables SEQ-11 and SEQ-13). -/
def State.seqRange (s : State) (cs : List Nat) : Bool :=
  decide (s.sg cs SEQ_THROTTLE_CFG.LIGHT < 8) || decide (16 < s.sg cs SEQ_THROTTLE_CFG.LIGHT) ||
    (List.range 16).any (fun o => s.outExists o && s.sflag cs (SEQ_OUT_CTRL.STATIC_EN o) &&
      !staticOk (s.nominalUnder cs) (s.sg cs (SEQ_OUT_CTRL.STATIC_Q o)) (s.sg cs (SEQ_OUT_CTRL.STATIC_D o)))

/-! ### ARRAY_MECH (R236, Table SEQ-9) -/

/-- DETAIL of an ARRAY_MECH instance; `rows` and `cols` are the output's size in CMP_CUT. -/
def mechDetail (rows cols : Nat) (b : List Byte) : Option Nat :=
  let n := mechBlocks b
  let inR := fun v lo hi => decide (lo ≤ v) && decide (v ≤ hi)
  if 0x0E ≤ b.length ∧ (n = 0 ∨ 64 < n) then some 0x0305
  else if b.length ≠ 32 + 2 * n then some 0x0301
  else if !bytesZero b 0x0E 2 || !bytesZero b 0x18 8 || decide (16 ≤ mechFlags b) then some 0x0302
  else if !(inR (mechTransit b) 1 65535 && inR (mechDwell b) 1 65535 && inR (mechGuardPre b) 0 1000 && inR (mechGuardPost b) 0 1000) then
    some 0x0303
  else if mechFirstRow b 0 ≠ 0 ∨ (List.range (n - 1)).any (fun k => decide (mechFirstRow b (k + 1) ≤ mechFirstRow b k)) ∨
      (List.range n).any (fun k => decide (mechRows b ≤ mechFirstRow b k)) then some 0x0304
  else if mechClasses b = 0 ∨ 8 < mechClasses b then some 0x0305
  else if mechRows b ≠ rows ∨ mechCols b ≠ cols then some 0x0306
  else if mechLocalStore b != (mechStore b != 0) then some 0x0307
  else none

/-- RWL fields from ARRAY_MECH. -/
def State.applyMech (s : State) : State :=
  foldOver (List.range 16) (fun o t => (t.put (SEQ_OUT_MECH.TRANSIT_NS o) (mechTransit (t.mechOf o))).showSched o) s

/-! ### TILE_PROG (R237) -/

def tpRole (b : List Byte) (t : Nat) : Nat := leAt b (16 + 16 * t) 1
def tpParam (b : List Byte) (t : Nat) : Nat := leAt b (16 + 16 * t + 1) 1
def tpOffset (b : List Byte) (t : Nat) : Nat := leAt b (16 + 16 * t + 4) 4
def tpLength (b : List Byte) (t : Nat) : Nat := leAt b (16 + 16 * t + 8) 4

def roleBuilder : Nat := 1
def roleOut : Nat := 2
def roleScan : Nat := 3
def roleLight : Nat := 4
def roleSys : Nat := 5

def tpCount (b : List Byte) (role : Nat) : Nat := (idxWhere 256 (fun t => tpRole b t == role)).length

/-- Check 5 of Table CFG-5: `outs` is the mask of array outputs, `engine n` of SCAN_CFG, `working` the working tiles. -/
def tileProgCheck5 (b : List Byte) (outs working : Nat) (engine : Nat → Bool) : Bool :=
  let used := idxWhere 256 (fun t => tpRole b t != 0)
  leAt b 0 2 == 256 && decide (4 ≤ tpCount b roleBuilder) &&
    (List.range 16).all (fun o => !bitAt outs o ||
      (idxWhere 256 (fun t => tpRole b t == roleOut && tpParam b t == o)).length == 1) &&
    (List.range 4).all (fun n => !engine n ||
      (idxWhere 256 (fun t => tpRole b t == roleScan && tpParam b t == n)).length == 1) &&
    tpCount b roleLight == 1 && tpCount b roleSys == 1 &&
    used.all (fun t => decide (1 ≤ tpLength b t) && decide (tpLength b t ≤ 65536)) && decide (used.length ≤ working)

def tileProgDetail (b : List Byte) : Option Nat :=
  let used := idxWhere 256 (fun t => tpRole b t != 0)
  if b.length < 16 + 4096 ∨ used.any (fun t => tpOffset b t % 64 != 0 || decide (tpOffset b t < 16 + 4096) ||
      decide (b.length < tpOffset b t + tpLength b t)) ∨ (List.range 256).any (fun t => tpRole b t == 0 && tpOffset b t != 0) then some 0x0501
  else if !bytesZero b 2 14 || (List.range 256).any (fun t => !bytesZero b (16 + 16 * t + 2) 2 || !bytesZero b (16 + 16 * t + 12) 4) then some 0x0502
  else if (List.range 256).any (fun t => decide (5 < tpRole b t)) then some 0x0503
  else if (List.range 256).any (fun t =>
      if tpRole b t = roleOut then decide (16 ≤ tpParam b t)
      else if tpRole b t = roleScan then decide (4 ≤ tpParam b t) else tpParam b t != 0) then some 0x0504
  else none

/-- Physical tiles in 34 groups of 8. -/
abbrev tileCount : Nat := 272

def State.tile (s : State) (k : Nat) : TileSt := tget TileSt.init s.seq.tiles k

def State.setTile (s : State) (k : Nat) (x : TileSt) : State := { s with seq := { s.seq with tiles := tset s.seq.tiles k x } }

/-- First domain number of the tile groups (Table THM-8). -/
abbrev domTiles : Nat := 152

/-- Working tiles: neither fenced nor in a group that POWER_MAP holds off. -/
def State.workingTiles (s : State) : List Nat :=
  idxWhere tileCount (fun k => !(s.tile k).fenced && !bitAt (s.rdN (THM_DOM_HOLD ((domTiles + k / 8) / 32))) ((domTiles + k / 8) % 32))

/-- SEQ_TILES as the tiles stand. -/
def State.showTiles (s : State) : State :=
  ((s.putSat SEQ_TILES.WORKING s.workingTiles.length).putSat SEQ_TILES.SPARES
    (s.seq.tiles.filter (fun e => e.2.spare && !e.2.fenced)).length).putSat SEQ_TILES.FENCED
    (s.seq.tiles.filter (fun e => e.2.fenced)).length

/-- A tile group is powered while a tile of it is placed or held as a spare (Table GEN-21). -/
def State.powerTiles (s : State) : State :=
  foldOver (List.range 34) (fun g t =>
    t.setDomOn (domTiles + g) ((List.range 8).any (fun j =>
      let x := t.tile (8 * g + j)
      !x.fenced && (x.logical.isSome || x.spare)))) s

/-- Place the logical tiles in ascending order on the working tiles; of those left the lowest, up to 16, are spares, and
a group with neither is switched off (R237). -/
def State.placeTiles (s : State) : State :=
  let b := s.sec secTileProg 0
  let logical := idxWhere 256 (fun t => tpRole b t != 0)
  let working := s.workingTiles
  let s1 := foldOver (List.range tileCount) (fun k t => t.setTile k { t.tile k with logical := none, spare := false }) s
  let s2 := foldOver (working.zip logical) (fun x t => t.setTile x.1 { t.tile x.1 with logical := some x.2 }) s1
  let s3 := foldOver ((working.drop logical.length).take 16) (fun k t => t.setTile k { t.tile k with spare := true }) s2
  s3.powerTiles.showTiles

/-- Word k of snapshot group 0x02 (Table SEQ-14). -/
def State.seqSnap (s : State) : List Nat :=
  [s.rdN SEQ_SCHED_STATUS, s.rdN SEQ_THROTTLE, s.rdN SEQ_TILES, s.rdN SEQ_LATE] ++
    (List.range 20).map (fun o => s.rdN (SEQ_OUT_SCHED o)) ++ (List.range 20).map (fun o => s.rdN (SEQ_OUT_EFF o)) ++
    (List.range 20).map (fun o => s.rdN (SEQ_OUT_COUNTS o))

end Sys2Proof.Machine
end

