-- ==== Sys2Proof/Machine/Lan.lean ====
section
/-! DEFINITION. The serial lanes: the slot on the wire (R308 to R314), training (R315), states and failure (R316, R320),
spares (R322 to R326), equalisation (R319), patterns (R329), and the LANE_MAP section (R331). -/
namespace Sys2Proof.Machine

/-! ### LANE_MAP (Table LAN-8) -/

def lanGroupRate (b : List Byte) (g : Nat) : Nat := leAt b g 1
def lanLxsRate (b : List Byte) (j : Nat) : Nat := leAt b (8 + j) 1
def lanClass (b : List Byte) (k : Nat) : Nat := leAt b (0x0C + k) 1
def lanSparePort (b : List Byte) (g : Nat) : Nat := leAt b (0x18 + g) 1
def lanPort (b : List Byte) (l : Nat) : Nat := leAt b (0x20 + l) 1
def lanTxInv (b : List Byte) (l : Nat) : Bool := bitAt (leAt b (0xA0 + l / 8) 1) (l % 8)
def lanRxInv (b : List Byte) (l : Nat) : Bool := bitAt (leAt b (0xB2 + l / 8) 1) (l % 8)

/-- The Laxus ports whose bit is set in LXS_CFG are `lxsUsed`; DETAIL of Table LAN-9. -/
def lanMapDetail (lxsUsed : Nat → Bool) (b : List Byte) : Option Nat :=
  if b.length ≠ 200 then some 0x0101
  else if !bytesZero b 0xC4 4 then some 0x0102
  else if (List.range 12).any (fun k => decide (5 < leAt b k 1)) || (List.range 12).any (fun k => decide (2 < lanClass b k)) then
    some 0x0103
  else if (List.range 8).any (fun g => lanSparePort b g != 0xFF &&
      (lanGroupRate b g == 0 || !(List.range 16).any (fun i => lanPort b (16 * g + i) == lanSparePort b g))) then some 0x0104
  else if (List.range 4).any (fun j => (lanLxsRate b j != 0) != lxsUsed j) then some 0x0105
  else none

def State.laneMap (s : State) : List Byte := s.sec secLaneMap 0

abbrev laneCount : Nat := 144

def laneIsSpare (l : Nat) : Bool := decide (128 ≤ l) && decide (l < 136)
def laneIsLaxus (l : Nat) : Bool := decide (136 ≤ l) && decide (l < 144)
/-- The group of an array lane or spare. -/
def laneGroup (l : Nat) : Nat := if l < 128 then l / 16 else l - 128
/-- The reference clock that serves a lane (R306). -/
def laneRef (l : Nat) : Nat := if l < 136 then laneGroup l / 2 else (l - 136) / 2
def laneFence (l : Nat) : Nat := if laneIsLaxus l then fenceLaxus else fenceLane

/-- The fields of LAN_LANE_l_CFG: port, role and class by LANE_MAP. -/
def lanRole (b : List Byte) (l : Nat) : Nat × Nat × Nat :=
  if l < 128 then
    (if lanPort b l = 0xFF then (0xFF, 0, lanClass b (l / 16)) else (lanPort b l, 1, lanClass b (l / 16)))
  else if l < 136 then
    (if lanSparePort b (l - 128) = 0xFF then (0xFF, 0, lanClass b (l - 128)) else (lanSparePort b (l - 128), 2, lanClass b (l - 128)))
  else
    (if lanLxsRate b ((l - 136) / 2) = 0 then (0xFF, 0, lanClass b (8 + (l - 136) / 2))
     else ((l - 136) / 2, 3, lanClass b (8 + (l - 136) / 2)))

/-- RWL fields from LANE_MAP (Table LAN-12). -/
def State.applyLaneMap (s : State) : State :=
  let b := s.laneMap
  foldOver (List.range laneCount) (fun l t =>
    let r := lanRole b l
    (((((t.put (LAN_LANE_CFG.PORT l) r.1).put (LAN_LANE_CFG.ROLE l) r.2.1).put (LAN_LANE_CFG.RATE l)
      (if r.2.1 = 0 then 0 else t.laneRate l)).put (LAN_LANE_CFG.CLASS l) r.2.2).putB (LAN_LANE_CFG.TX_INVERT l) (lanTxInv b l)).putB
      (LAN_LANE_CFG.RX_INVERT l) (lanRxInv b l)) s

/-! ### Lanes and their states (Table LAN-4) -/

abbrev lnOff : Nat := 0
abbrev lnTrain : Nat := 1
abbrev lnData : Nat := 2
abbrev lnStandby : Nat := 3
abbrev lnIdle : Nat := 4
abbrev lnWake : Nat := 5
abbrev lnLoop : Nat := 6
abbrev lnFailed : Nat := 7
abbrev lnFenced : Nat := 8

def State.lane (s : State) (l : Nat) : LaneSt := tget LaneSt.init s.lan.lanes l

def State.setLane (s : State) (l : Nat) (x : LaneSt) : State := { s with lan := { s.lan with lanes := tset s.lan.lanes l x } }

def State.laneState (s : State) (l : Nat) : Nat := s.get (LAN_LANE_STATE.STATE l)
def State.laneRole (s : State) (l : Nat) : Nat := s.get (LAN_LANE_CFG.ROLE l)
def State.lanePort (s : State) (l : Nat) : Nat := s.get (LAN_LANE_CFG.PORT l)
def State.laneLogical (s : State) (l : Nat) : Nat := s.get (LAN_LANE_STATE.LOGICAL l)
def State.standsFor (s : State) (l : Nat) : Nat := s.get (LAN_LANE_STATE.STANDS_FOR l)

/-- LAN_STATUS and CAL_CULLET.LANES as the lanes stand. -/
def State.showLan (s : State) : State :=
  ((s.put LAN_STATUS.SPARES_USED (idxWhere 8 (fun g => s.laneState (128 + g) == lnData && s.standsFor (128 + g) != 0xFF)).length).put
    LAN_STATUS.FENCED (idxWhere laneCount (fun l => s.laneState l == lnFenced)).length).put CAL_CULLET.LANES
    (idxWhere 8 (fun g => s.laneState (128 + g) == lnStandby)).length

def State.setLaneState (s : State) (l st : Nat) : State :=
  let x := s.lane l
  ((s.setLane l { x with since := s.now, statusTime := s.now }).put (LAN_LANE_STATE.STATE l) st).showLan

/-- A transmitter's codes: the band's preset plus the trained offsets, clamped (R319). -/
def State.eqTarget (s : State) (l : Nat) : Nat × Nat × Nat :=
  let b := s.get LAN_STATUS.BAND
  let c := s.get (LAN_LANE_CFG.CLASS l)
  let clampTo := fun (top : Int) (x : Int) => (clampI 0 top x).toNat
  (clampTo 16 ((s.get (LAN_PRESET.TX_PRE b c) : Int) + s.getSgn (LAN_LANE_EQ.PRE_OFF l)),
   clampTo 24 ((s.get (LAN_PRESET.TX_POST b c) : Int) + s.getSgn (LAN_LANE_EQ.POST_OFF l)),
   clampTo 15 ((s.get (LAN_PRESET.CTLE b c) : Int) + tget 0 s.cal.ctleOff l))

def State.setEq (s : State) (l : Nat) (e : Nat × Nat × Nat) : State :=
  ((s.put (LAN_LANE_EQ.TX_PRE l) e.1).put (LAN_LANE_EQ.TX_POST l) e.2.1).put (LAN_LANE_EQ.CTLE l) e.2.2

/-- One code toward a target. -/
def stepTo (x target : Nat) : Nat := if x < target then x + 1 else if target < x then x - 1 else x

/-- After a change of the die band each transmitter steps one code per slot, and the CTLE base one code per 1 µs (R319). -/
def State.stepEq (s : State) (l : Nat) : State :=
  let e := s.eqTarget l
  let x := s.lane l
  let ctle := s.get (LAN_LANE_EQ.CTLE l)
  let due := decide (usSteps ≤ s.now - x.ctleTime)
  let s1 := s.setEq l (stepTo (s.get (LAN_LANE_EQ.TX_PRE l)) e.1, stepTo (s.get (LAN_LANE_EQ.TX_POST l)) e.2.1,
    if due then stepTo ctle e.2.2 else ctle)
  if due then s1.setLane l { x with ctleTime := s.now } else s1

/-- A lane starts training: from the band preset, or from its current settings for a retrain (R316, R319). -/
def State.trainLane (s : State) (l : Nat) (fromPreset : Bool) : State :=
  let x := s.lane l
  let s1 := s.setLane l { x with
    clean := false
    good := 0
    sentReady := 0
    gotReady := 0
    adapted := false
    waitStart := false
    fails := []
    farHist := []
    noSync := 0
    queue := [] }
  let s2 := if fromPreset then s1.setEq l (s1.eqTarget l) else s1
  s2.setLaneState l lnTrain

/-- The lane may enter TRAIN: its reference clock is present and it is not fenced (Table LAN-4, R321). -/
def State.laneUsable (s : State) (l : Nat) : Bool :=
  bitAt (s.get LAN_STATUS.REFCLK_OK) (laneRef l) && s.laneState l != lnFenced && s.laneRole l != 0

/-- The physical lanes of an array port, in order: logical lane i is carried on the i-th (R326). -/
def State.physLanes (s : State) (p : Nat) : List Nat :=
  idxWhere 128 (fun l => s.laneRole l == 1 && s.lanePort l == p)

/-- Lanes that carry logical lanes of a port now: its own in service, and spares that stand for one of them. -/
def State.servingLanes (s : State) (p : Nat) : List Nat :=
  (s.physLanes p).filter (fun l => !(s.lane l).freed) ++
    (List.range 8).map (128 + ·) |>.filter (fun l => if l < 128 then true else
      s.standsFor l != 0xFF && s.laneState l == lnData && s.lanePort l == p)

/-- The lane that carries logical lane i of a port. -/
def State.laneOf (s : State) (p i : Nat) : Option Nat :=
  (s.servingLanes p).find? (fun l => s.laneLogical l == i && s.laneState l != lnFenced && s.laneState l != lnFailed &&
    s.laneState l != lnOff && s.laneState l != lnLoop)

/-- The lane's failure is covered from an LF on by an announced spare (R321). -/
def State.coveredFrom (s : State) (l lfn : Nat) : Bool :=
  (List.range 8).any (fun g => ((s.lane (128 + g)).subst).any (fun x => x.lane == l && x.kind != 2 && lfnAtOrAfter lfn x.lfn) &&
    s.laneState (128 + g) != lnFailed && s.laneState (128 + g) != lnFenced)

/-- Whether every logical lane of a port works for a slot that loads in LF `lfn` (R321, R326). -/
def State.lanesReady (s : State) (p lfn : Nat) : Bool :=
  (List.range (s.get (APT_PORT_STATE.ACTIVE_WIDTH p))).all (fun i =>
    (s.servingLanes p).any (fun l => s.laneLogical l == i &&
      (s.laneState l == lnData || (s.laneState l == lnFailed && s.coveredFrom l lfn))))

/-! ### The slot on the wire (R308 to R313) -/

abbrev slotUi : Nat := 4333
abbrev syncPattern : Nat := 0xB8E42D

/-- The frame's keystream of `n` bits for a state of the generator (R311). -/
def keyGo : Nat → Nat → List Bool
  | 0, _ => []
  | n + 1, r =>
    let k := Bool.xor (bitAt r 30) (bitAt r 27)
    k :: keyGo n ((2 * r + boolNat k) % 2 ^ 31)

def keySeed (f : Nat) : Nat :=
  let v := (f % 2 ^ 31) ^^^ 0x6A3D19C5
  if v = 0 then 0x7FFFFFFF else v

def keystream (f n : Nat) : List Bool := keyGo n (keySeed f)

def bitsOfNat (v : Nat) : Nat → List Bool
  | 0 => []
  | n + 1 => bitAt v 0 :: bitsOfNat (v / 2) n

def natOfBits : List Bool → Nat
  | [] => 0
  | b :: r => boolNat b + 2 * natOfBits r

def wordsOfNat (v : Nat) : Nat → List Nat
  | 0 => []
  | n + 1 => v % 2 ^ 64 :: wordsOfNat (v / 2 ^ 64) n

def natOfWords : List Nat → Nat
  | [] => 0
  | w :: r => w % 2 ^ 64 + 2 ^ 64 * natOfWords r

/-- The 4,128 frame bits of 64 link words: payload, then the CRC-32C, bit 0 first (R308, R310). -/
def frameBits (words : List Nat) : List Bool :=
  let v := natOfWords (words.take 64)
  bitsOfNat v 4096 ++ bitsOfNat (crc32c (leBytes 512 v)) 32

def invertOdd : Bool → List Bool → List Bool
  | _, [] => []
  | odd, b :: r => (if odd then !b else b) :: invertOdd (!odd) r

/-- Bits with stuff bits, from a last bit and its run: the bits, the run state after, and the stuff bits used (R312). -/
def stuff : Bool → Nat → List Bool → List Bool × Bool × Nat × Nat
  | last, run, [] => ([], last, run, 0)
  | last, run, b :: r =>
    let run1 := if b == last then run + 1 else 1
    if run1 = 24 then
      let x := stuff (!b) 1 r
      (b :: (!b) :: x.1, x.2.1, x.2.2.1, x.2.2.2 + 1)
    else
      let x := stuff b run1 r
      (b :: x.1, x.2.1, x.2.2.1, x.2.2.2)

def fillBits : Bool → Nat → List Bool
  | _, 0 => []
  | last, n + 1 => (!last) :: fillBits (!last) n

/-- Bit 31 first. -/
def syncBits (kind f : Nat) : List Bool :=
  (bitsOfNat (syncPattern * 256 + kind * 64 + f % 64) 32).reverse

/-- A slot: sync word, frame bits and fill, with stuff bits, 4,333 UI in all; whether it is whitened (R313), and the run
state after it. `scr` scrambles; `kind` is that of a frame that is not whitened. -/
def slotBits (x : LaneSt) (kind : Nat) (scr : Bool) (words : List Nat) : List Bool × Bool × Bool × Nat :=
  let fb := frameBits words
  let sc := if scr then (fb.zip (keystream x.f 4128)).map (fun p => Bool.xor p.1 p.2) else fb
  let plain := stuff x.txBit x.txRun (syncBits kind x.f ++ sc)
  let white := kind == 0 && decide (173 < plain.2.2.2)
  let y := if white then stuff x.txBit x.txRun (syncBits 1 x.f ++ invertOdd false sc) else plain
  let fill := fillBits y.2.1 (slotUi - y.1.length)
  let last := ((fill.getLast?).getD y.2.1)
  let run := if fill.isEmpty then y.2.2.1 else 1
  (y.1 ++ fill, white, last, run)

/-- Delete the bit after every run of 24: the bits left, whether one was not of the opposite value, and the run state. -/
def destuff : Bool → Nat → List Bool → List Bool × Bool × Bool × Nat
  | last, run, [] => ([], false, last, run)
  | last, run, b :: r =>
    if run = 24 then
      let x := destuff b 1 r
      (x.1, x.2.1 || b == last, x.2.2.1, x.2.2.2)
    else
      let x := destuff b (if b == last then run + 1 else 1) r
      (b :: x.1, x.2.1, x.2.2.1, x.2.2.2)

/-! ### Frames sent -/

/-- Link words 0 to 3 of a training frame, then the keystream of payload bits 256 on (R315, Table LAN-3). -/
def State.trainingWords (s : State) (l : Nat) : List Nat :=
  let x := s.lane l
  let ready := decide (64 ≤ x.good)
  let spare := laneIsSpare l && s.laneState l == lnStandby
  let announced := x.subst
  let logical := match announced with
    | some a => if a.kind = 2 then s.laneLogical l else s.laneLogical a.lane
    | none => s.laneLogical l
  let far := s.get (LAN_LANE_CTRL.LOOP l) == 3 && s.laneState l == lnLoop
  let w0 := 0xB5 + (if ready then 2 else 1) * 2 ^ 8 + boolNat x.clean * 2 ^ 12 + boolNat far * 2 ^ 14 +
    boolNat x.lbAck * 2 ^ 15 + s.get (LAN_LANE_CFG.RATE l) * 2 ^ 16 + l * 2 ^ 20 + boolNat spare * 2 ^ 28 +
    logical % 32 * 2 ^ 29 + boolNat announced.isSome * 2 ^ 36
  let req := s.freeVal 4
  let w2 := ((announced.map (·.lfn)).getD 0) + (if x.adapted then 0 else req % 16 * 2 ^ 32) + boolNat x.adapted * 2 ^ 36
  let w3 := if laneIsLaxus l then s.rdN GLB_UID_LO + s.get GLB_UID_HI.UID_HIGH * 2 ^ 32 else 0
  [w0, x.f, w2, w3] ++ (wordsOfNat (natOfBits (keystream x.f 4096)) 64).drop 4

/-- The payload of a status frame (Table LAN-5). -/
def State.statusWords (s : State) (l : Nat) : List Nat :=
  let x := s.lane l
  [0xC3 + s.get (LAN_LANE_STATE.SYNC l) * 2 ^ 8 + s.rdN (LAN_LANE_CRC_ERR l) * 2 ^ 32,
   s.rdN (LAN_LANE_FRAMES l) + s.get (LAN_LANE_EYE.WIDTH_MUI l) * 2 ^ 32 + s.get (LAN_LANE_EYE.HEIGHT_MV l) * 2 ^ 48,
   x.stuffViol % 2 ^ 32] ++ List.replicate 61 0

/-- Bits at a lane's balls: inverted where the board swaps the pair (Table LAN-8; DEDUCED, log 119). -/
def State.atBalls (s : State) (swapped : Fld) (bs : List Bool) : List Bool := if s.flag swapped then bs.map (!·) else bs

/-- Send one slot of a kind of sync word with its words, and keep the transmitter's run. -/
def State.sendFrame (s : State) (l kind : Nat) (scr : Bool) (words : List Nat) : State :=
  let x := s.lane l
  let y := slotBits x kind scr words
  let s1 := s.setLane l { x with
    txBit := y.2.2.1
    txRun := y.2.2.2 }
  let s2 := if y.2.1 then s1.inc (LAN_LANE_WHITENED.COUNT l) else s1
  s2.send (.laneSlot l (if y.2.1 then 1 else kind) [natOfBits (s2.atBalls (LAN_LANE_CFG.TX_INVERT l) y.1)])

/-- Words of the next data frame: 64 from the lane's queue, IDLE where none is due (R239). -/
def State.takeWords (s : State) (l : Nat) : List Nat × State :=
  let x := s.lane l
  let w := x.queue.take 64
  (w ++ List.replicate (64 - w.length) 0, s.setLane l { x with queue := x.queue.drop 64 })

/-! ### Patterns (R329) -/

/-- Taps of a pattern's polynomial. -/
def prbsTaps (poly : Nat) : Nat × Nat :=
  match poly with
  | 0 => (7, 6)
  | 1 => (15, 14)
  | 2 => (23, 18)
  | _ => (31, 28)

/-- The next bit of a pattern after the bits of which bit 0 of `h` is the newest. -/
def prbsNext (poly h : Nat) : Bool := Bool.xor (bitAt h ((prbsTaps poly).1 - 1)) (bitAt h ((prbsTaps poly).2 - 1))

def prbsGen (poly : Nat) : Nat → Nat → List Bool × Nat
  | 0, h => ([], h)
  | n + 1, h =>
    let b := prbsNext poly h
    let x := prbsGen poly n ((2 * h + boolNat b) % 2 ^ 31)
    (b :: x.1, x.2)

/-- One bit at the checker: an error where it differs from what the bits before it give; it is counted while locked. -/
def State.checkBit (s : State) (l : Nat) (b : Bool) : State :=
  let x := s.lane l
  let poly := s.get (LAN_LANE_PRBS_CTRL.CHK_POLY l)
  let known := decide ((prbsTaps poly).1 ≤ x.chkSeen)
  let err := known && b != prbsNext poly x.chkHist
  let s1 := s.setLane l { x with
    chkHist := (2 * x.chkHist + boolNat b) % 2 ^ 31
    chkSeen := satAdd 64 x.chkSeen 1
    chkRun := if err || !known then 0 else x.chkRun + 1
    chkWin := (2 * x.chkWin + boolNat err) % 2 ^ 64 }
  if s.flag (LAN_LANE_PRBS_CTRL.CHK_LOCK l) then
    let bump := fun (lo : Fld) (hi : Fld) (n : Nat) (t : State) =>
      let v := (t.get lo + 2 ^ 32 * t.get hi + n) % 2 ^ 48
      (t.put lo (v % 2 ^ 32)).put hi (v / 2 ^ 32)
    bump (LAN_LANE_PRBS_ERR_LO.ERRORS l) (LAN_LANE_PRBS_ERR_HI.ERRORS l) (boolNat err)
      (bump (LAN_LANE_PRBS_BITS_LO.BITS l) (LAN_LANE_PRBS_BITS_HI.BITS l) 1 s1)
  else s1

/-- Received bits pass the checker while it is enabled in LOOPBACK. -/
def State.checkBits (s : State) (l : Nat) (bs : List Bool) : State :=
  if s.laneState l == lnLoop && s.flag (LAN_LANE_PRBS_CTRL.CHK_EN l) then bs.foldl (fun t b => t.checkBit l b) s else s

/-! ### Failure and substitution (R320, R323) -/

/-- The LFN that starts at the first boundary at least 20 µs away. -/
def State.lfnIn20us (s : State) : Nat := (s.tim.lfn + (if 20 * usSteps ≤ s.toBoundary then 1 else 2)) % 2 ^ 32

/-- The spare of a lane's group, where it can serve the lane (R322). -/
def State.spareFor (s : State) (l : Nat) : Option Nat :=
  let sp := 128 + laneGroup l
  if l < 128 ∧ s.laneRole l = 1 ∧ s.laneRole sp = 2 ∧ s.lanePort sp = s.lanePort l then some sp else none

/-- A spare announces that it takes a lane (R323, R325). -/
def State.announce (s : State) (sp l kind : Nat) : State :=
  let x := s.lane sp
  (s.setLane sp { x with subst := some ⟨l, s.lfnIn20us, kind, s.now⟩ }).put (LAN_LANE_STATE.STANDS_FOR sp) l

/-- A failed lane asks for its group's spare: a STANDBY spare that serves no lane takes it; of two failures with one
stamp the lower lane has the spare (R323). -/
def State.trySpare (s : State) (l : Nat) : State :=
  match s.spareFor l with
  | none => s
  | some sp =>
    if !s.flag LAN_CTRL.SPARE_AUTO || s.laneState sp != lnStandby then s
    else match (s.lane sp).subst with
      | none => if s.standsFor sp = 0xFF then s.announce sp l 0 else s
      | some a => if a.kind = 0 ∧ a.time = s.now ∧ l < a.lane then s.announce sp l 0 else s

/-- A lane in DATA, STANDBY or WAKE is failed with a cause of R320. -/
def State.failLane (s : State) (l cause : Nat) : State :=
  let st := s.laneState l
  if st == lnData || st == lnStandby || st == lnWake then
    (((s.setLaneState l lnFailed).put (LAN_LANE_STATE.CAUSE l) cause).raise 0x0701 l cause 0).trySpare l
  else s

/-- A received frame failed its CRC: counted, and ERR_LIMIT of them within 1 ms are a failure (cause 2). -/
def State.crcFailed (s : State) (l : Nat) : State :=
  let x := s.lane l
  let fs := (x.fails.filter (fun t => decide (s.now < t + msSteps))) ++ [s.now]
  let s1 := (s.setLane l { x with
    fails := fs
    statusDue := true }).inc (LAN_LANE_CRC_ERR.COUNT l)
  if max 1 (s1.get LAN_CTRL.ERR_LIMIT) ≤ fs.length then s1.failLane l 2 else s1

/-- No sync word at a slot's start: hunt, and a failure after SYNC_LIMIT slots (R314, cause 1). -/
def State.syncMissed (s : State) (l : Nat) : State :=
  let x := s.lane l
  let s1 := if x.hunting then s else (s.inc (LAN_LANE_SYNC.HUNTS l)).putB (LAN_LANE_STATE.SYNC l) false
  let s2 := s1.setLane l { s1.lane l with
    hunting := true
    huntOne := false
    noSync := x.noSync + 1
    statusDue := x.statusDue || !x.hunting
    clean := false
    good := 0 }
  if max 2 (s2.get LAN_CTRL.SYNC_LIMIT) ≤ x.noSync + 1 then s2.failLane l 1 else s2

/-- What a received slot holds: its kind, its words, and whether its frame passed (R314). -/
structure RxFrame where
  kind : Nat
  words : List Nat
  ok : Bool
  deriving DecidableEq, Repr

/-- The receiver takes a slot: destuffing, sync, hunt, F and slips, whitening, scrambling and CRC (R314). In hunt the
slot is the one at which the search stands (log 42); a frame is given only in sync. -/
def State.receiveSlot (s : State) (l : Nat) (bs : List Bool) : State × Option RxFrame :=
  let x := s.lane l
  let d := destuff x.rxBit x.rxRun bs
  let viol := d.2.1
  let s0 := s.setLane l { x with
    rxBit := d.2.2.1
    rxRun := d.2.2.2
    rxF := (x.rxF + 1) % 2 ^ 48
    stuffViol := x.stuffViol + boolNat viol }
  let sync := natOfBits ((d.1.take 32).reverse)
  let fb := (d.1.drop 32).take 4128
  if sync / 256 ≠ syncPattern ∨ fb.length ≠ 4128 then (s0.syncMissed l, none)
  else
    let x0 := s0.lane l
    if x.hunting && !x.huntOne then (s0.setLane l { x0 with huntOne := true }, none)
    else
      let low := sync % 64
      let diff : Int := sgn 6 (low + 64 - x.rxF % 64)
      let f := uns 48 ((x.rxF : Int) + diff)
      let s1 := s0.setLane l { x0 with
        hunting := false
        huntOne := false
        noSync := 0
        statusDue := x0.statusDue || x.hunting
        rxF := (f + 1) % 2 ^ 48 }
      let s2 := (if diff = 0 then s1 else s1.inc (LAN_LANE_SYNC.SLIPS l)).putB (LAN_LANE_STATE.SYNC l) true
      let kind := bitsOf sync 7 6
      let un := if kind = 1 then invertOdd false fb else fb
      let fr := if kind = 2 then un else (un.zip (keystream f 4128)).map (fun p => Bool.xor p.1 p.2)
      let v := natOfBits (fr.take 4096)
      let ok := natOfBits (fr.drop 4096) == crc32c (leBytes 512 v) && !viol
      (s2.inc (LAN_LANE_FRAMES.COUNT l), some ⟨kind, wordsOfNat v 64, ok⟩)

/-! ### Training (R315, R316) -/

/-- A trained lane: 64 good training frames and 16 READY frames each way. It enters DATA, or STANDBY for a spare; its
data starts at the next slot with F mod 64 = 0. -/
def State.trainCheck (s : State) (l : Nat) : State :=
  let x := s.lane l
  if s.laneState l = lnTrain ∧ 64 ≤ x.good ∧ 16 ≤ x.sentReady ∧ 16 ≤ x.gotReady ∧ !x.freed then
    if laneIsSpare l ∧ s.standsFor l = 0xFF then s.setLaneState l lnStandby
    else (s.setLane l { x with waitStart := true }).setLaneState l lnData
  else s

/-- A far request to a transmitter: one code up or down, within the offsets' 4 bits (Table LAN-3, R319). -/
def offStep (o : Int) (req : Nat) : Nat :=
  uns 4 (clampI (-8) 7 (o + (if req = 1 then 1 else if req = 2 then -1 else 0)))

/-- A training frame's effect: adaptation, far requests, F, READY frames and the far loopback (R315, R316, R328). -/
def State.takeTraining (s : State) (l : Nat) (words : List Nat) (crcOk adapted : Bool) : State :=
  let x := s.lane l
  let w := fun k => nthD words k 0
  let f := bitsOf (w 1) 47 0
  let good := crcOk && w 0 % 256 == 0xB5 &&
    (words.drop 4) == ((wordsOfNat (natOfBits (keystream f 4096)) 64).drop 4)
  if !good then s.setLane l { x with clean := false, good := 0 }
  else
    let lock := bitAt (w 0) 12 && bitAt (w 2) 36
    let s1 := s.setLane l { x with
      rxF := (f + 1) % 2 ^ 48
      adapted := x.adapted || adapted
      clean := true
      good := if lock then x.good + 1 else 0
      gotReady := if bitsOf (w 0) 11 8 = 2 then x.gotReady + 1 else x.gotReady
      hunting := false }
    let s2 := ((s1.putB (LAN_LANE_STATE.LB_CAP l) (bitAt (w 0) 13)).put (LAN_LANE_EQ.PRE_OFF l)
      (offStep (s1.getSgn (LAN_LANE_EQ.PRE_OFF l)) (bitsOf (w 2) 33 32))).put (LAN_LANE_EQ.POST_OFF l)
      (offStep (s1.getSgn (LAN_LANE_EQ.POST_OFF l)) (bitsOf (w 2) 35 34))
    let s3 := if s2.laneState l == lnTrain then s2.setEq l (s2.eqTarget l) else s2
    let s4 := s3.trainCheck l
    if s4.laneState l = lnWake ∧ bitAt (w 0) 12 then
      (s4.setLane l { s4.lane l with waitStart := false }).setLaneState l lnData else s4

/-! ### Status frames (R318, R320) -/

/-- A status frame's effect; a far end out of sync, or whose CRC_FAILS rose by ERR_LIMIT within 1 ms, fails the lane
(cause 3). -/
def State.takeStatus (s : State) (l : Nat) (words : List Nat) : State :=
  let x := s.lane l
  let w := fun k => nthD words k 0
  let fails := bitsOf (w 0) 63 32
  let recent := x.farHist.filter (fun e => decide (s.now < e.1 + msSteps))
  let s1 := s.setLane l { x with
    statusTime := s.now
    farHist := recent ++ [(s.now, fails)] }
  let s2 := (((s1.putB (LAN_LANE_STATE.FAR_OK l) (bitAt (w 0) 8)).put (LAN_LANE_FAR.CRC_FAILS l) (fails % 65536)).put
    (LAN_LANE_FAR.EYE_MUI l) (bitsOf (w 1) 41 32))
  let rose := recent.any (fun e => decide (max 1 (s2.get LAN_CTRL.ERR_LIMIT) ≤ mod32Sub fails e.2))
  if !bitAt (w 0) 8 || rose then s2.failLane l 3 else s2

/-! ### The boundary (order 1: R323, R324, R325) -/

/-- A spare's announced place is taken at its boundary. -/
def State.takePlace (s : State) (sp : Nat) : State :=
  let x := s.lane sp
  match x.subst with
  | none => s
  | some a =>
    if !lfnAtOrAfter s.tim.lfn a.lfn then s
    else
      let s1 := s.setLane sp { x with subst := none, waitStart := false }
      match a.kind with
      | 0 =>
        if s1.laneState sp != lnStandby then s1.put (LAN_LANE_STATE.STANDS_FOR sp) 0xFF
        else
          (((((s1.put (LAN_LANE_STATE.LOGICAL sp) (s1.laneLogical a.lane)).setLaneState sp lnData).setLaneState a.lane
            lnFenced).fenceUnit fenceLane a.lane 0).raise 0x0703 sp a.lane 0)
      | 1 =>
        if s1.laneState sp != lnStandby then s1.put (LAN_LANE_STATE.STANDS_FOR sp) 0xFF
        else
          let s2 := (s1.put (LAN_LANE_STATE.LOGICAL sp) (s1.laneLogical a.lane)).setLaneState sp lnData
          (s2.setLane a.lane { s2.lane a.lane with freed := true }).trainLane a.lane false
      | 3 => ((s1.setLaneState a.lane lnFenced).fenceUnit fenceLane a.lane 0).raise 0x0703 sp a.lane 0
      | _ =>
        let s2 := ((s1.put (LAN_LANE_STATE.STANDS_FOR sp) 0xFF).setLaneState sp lnStandby).setLane a.lane
          { s1.lane a.lane with freed := false, waitStart := false }
        s2.setLaneState a.lane lnData

/-- Order 1 for the lanes: announced places are taken, and failed lanes that wait for no spare are fenced. -/
def State.lanBoundary (s : State) : State :=
  let s1 := foldOver ((List.range 8).map (128 + ·)) (fun sp t => t.takePlace sp) s
  foldOver ((List.range laneCount).filter (fun l => s1.laneState l == lnFailed &&
      !(List.range 8).any (fun g => ((s1.lane (128 + g)).subst).any (fun x => x.lane == l))))
    (fun l t => (t.setLaneState l lnFenced).fenceUnit (laneFence l) l 0) s1

/-- Lanes that an image uses start training from OFF (Table LAN-4); a lane's logical number is its place in its port
(R326). Lanes that the field map names are fenced. -/
def State.startLanes (s : State) : State :=
  foldOver (List.range laneCount) (fun l t =>
    let t1 := t.put (LAN_LANE_STATE.LOGICAL l) (if l < 128 then
        ((t.physLanes (t.lanePort l)).filter (fun k => decide (k < l))).length % 32
      else if l < 136 then 0 else (l - 136) % 2)
    if t1.isFenced (laneFence l) l 0 then t1.setLaneState l lnFenced
    else if t1.laneUsable l && t1.laneState l == lnOff then t1.trainLane l true else t1) s

/-- Words of snapshot group 0x0A (Table LAN-13). -/
def State.lanSnap (s : State) : List Nat :=
  s.rdN LAN_STATUS :: ((List.range laneCount).map (fun l => s.rdN (LAN_LANE_STATE l)) ++
    (List.range laneCount).map (fun l => s.rdN (LAN_LANE_CRC_ERR l)))

end Sys2Proof.Machine
end

