-- ==== Sys2Proof/Machine/Apt.lean ====
section
/-! DEFINITION. The array ports: the link stream and its commands (R238 to R243), the never-start rule (R244 to R246),
the back channel (R249 to R251, R253), port states, retrains and widths (R252, R254 to R256), replay (R257), and the
PORT_CFG and WAVEFORM sections (R238, R248). -/
namespace Sys2Proof.Machine

/-! ### PORT_CFG (Tables APT-1 and APT-2) -/

def pcFlags (b : List Byte) (p : Nat) : Nat := leAt b (16 * p) 1
def pcExists (b : List Byte) (p : Nat) : Bool := bitAt (pcFlags b p) 0
def pcPolicy (b : List Byte) (p : Nat) : Bool := bitAt (pcFlags b p) 1
def pcTePin (b : List Byte) (p : Nat) : Bool := bitAt (pcFlags b p) 2
def pcArray (b : List Byte) (p : Nat) : Nat := leAt b (16 * p + 1) 1
def pcPart (b : List Byte) (p : Nat) : Nat := leAt b (16 * p + 2) 1
def pcParts (b : List Byte) (p : Nat) : Nat := leAt b (16 * p + 3) 1
def pcWidth (b : List Byte) (p : Nat) : Nat := leAt b (16 * p + 4) 1
def pcTeIndex (b : List Byte) (p : Nat) : Nat := leAt b (16 * p + 5) 1
def pcDelayNs (b : List Byte) (p : Nat) : Nat := leAt b (16 * p + 6) 2
def pcTurnNs (b : List Byte) (p : Nat) : Nat := leAt b (16 * p + 8) 2
def pcChannelNs (b : List Byte) (p : Nat) : Nat := leAt b (16 * p + 10) 2

def pcPorts (b : List Byte) : List Nat := idxWhere 16 (pcExists b)
def pcPortsOf (b : List Byte) (a : Nat) : List Nat := (pcPorts b).filter (fun p => pcArray b p == a)

/-- Check 1 of Table CFG-5. -/
def portCheck1 (b : List Byte) : Bool := (pcPorts b).all (fun p => [1, 2, 4, 8, 16, 32].contains (pcWidth b p))

/-- Check 2 of Table CFG-5: a port's lanes start at a multiple of its WIDTH, and up to 16 lie within one group; `lanes p` are
the lanes that LANE_MAP gives port p, in no other port and none of them a spare or Laxus lane. -/
def portCheck2 (b : List Byte) (lanes : Nat → List Nat) : Bool :=
  (pcPorts b).all (fun p =>
    match lanes p with
    | [] => true
    | a :: r => a % max 1 (pcWidth b p) == 0 && (decide (16 < pcWidth b p) || r.all (fun l => l / 16 == a / 16)))

/-- Check 4 of Table CFG-5; `rate p` is the rate of a port's lanes. -/
def portCheck4 (b : List Byte) (rate : Nat → Nat) : Bool :=
  (List.range 16).all (fun a =>
    let l := pcPortsOf b a
    decide (l.length ≤ 4) && (decide (l.length < 2) ||
      ([2, 4].contains l.length && (l.map (pcWidth b)).eraseDups.length == 1 && (l.map rate).eraseDups.length == 1)))

/-- DETAIL of Table APT-2; `cols a` and `back a` are the array's columns and BACK_CHANNEL in ARRAY_MECH. -/
def portDetail (b : List Byte) (lanes : Nat → List Nat) (cols : Nat → Nat) (back : Nat → Bool) : Option Nat :=
  let ps := pcPorts b
  if b.length ≠ 256 then some 0x0201
  else if (List.range 16).any (fun p => decide (8 ≤ pcFlags b p) || !bytesZero b (16 * p + 12) 4) ||
      ps.any (fun p => !pcTePin b p && pcTeIndex b p != 0) then some 0x0202
  else if ps.any (fun p =>
      let l := pcPortsOf b (pcArray b p)
      decide (16 ≤ pcArray b p) || !([1, 2, 4].contains (pcParts b p)) || l.length != pcParts b p ||
        (List.range (pcParts b p)).any (fun k => (l.filter (fun q => pcPart b q == k)).length != 1) ||
        l.any (fun q => pcParts b q != pcParts b p || pcPolicy b q != pcPolicy b p || pcWidth b q != pcWidth b p)) then some 0x0203
  else if ps.any (fun p => cols (pcArray b p) / pcParts b p % 256 != 0 || cols (pcArray b p) % pcParts b p != 0) then some 0x0204
  else if ps.any (fun p => (lanes p).length != pcWidth b p) then some 0x0205
  else if ps.any (fun p => (pcTePin b p && (decide (16 ≤ pcTeIndex b p) ||
      ps.any (fun q => pcTePin b q && pcTeIndex b q == pcTeIndex b p && pcArray b q != pcArray b p))) ||
      (!pcTePin b p && !back (pcArray b p))) then some 0x0206
  else if ps.any (fun p => decide (2000 < pcDelayNs b p) || decide (2000 < pcTurnNs b p) ||
      (back (pcArray b p) != (pcChannelNs b p == 0))) then some 0x0207
  else none

def State.portCfg (s : State) : List Byte := s.sec secPortCfg 0

/-- RWL fields from PORT_CFG. -/
def State.applyPortCfg (s : State) : State :=
  let b := s.portCfg
  foldOver (List.range 16) (fun p t =>
    if !pcExists b p then t.wrN (APT_PORT_CFG p) 0
    else
      ((((((((t.put (APT_PORT_CFG.WIDTH p) (pcWidth b p)).put (APT_PORT_CFG.ARRAY p) (pcArray b p)).put (APT_PORT_CFG.PART p)
        (pcPart b p)).put (APT_PORT_CFG.PARTS p) (pcParts b p / 2)).putB (APT_PORT_CFG.POLICY p) (pcPolicy b p)).putB
        (APT_PORT_CFG.TE_PIN p) (pcTePin b p)).put (APT_PORT_CFG.TE_INDEX p) (pcTeIndex b p)).put (APT_PORT_CFG.EXISTS p) 1).put
        (APT_PORT_STATE.ACTIVE_WIDTH p) (pcWidth b p)) s

/-- DETAIL of a WAVEFORM instance (R248); `classes` is WCLASSES of its ARRAY_MECH instance, none where absent. -/
def waveDetail (classes : Option Nat) (b : List Byte) : Option Nat :=
  let bands := leAt b 0 1
  if bands = 0 ∨ 8 < bands ∨ b.length ≠ 4 + 8 * bands then some 0x0401
  else if !bytesZero b 2 2 then some 0x0402
  else match classes with
    | none => some 0x0406
    | some n =>
      if leAt b 1 1 ≠ n then some 0x0403
      else if (List.range bands).any (fun k => (List.range 8).any (fun c => decide (n ≤ c) && leAt b (4 + 8 * k + c) 1 != 0xFF)) then some 0x0404
      else if (List.range n).any (fun c => leAt b (4 + c) 1 == 0xFF) then some 0x0405
      else none

/-! ### Ports -/

def State.port (s : State) (p : Nat) : PortSt := tget PortSt.init s.apt.ports p

def State.setPort (s : State) (p : Nat) (x : PortSt) : State := { s with apt := { s.apt with ports := tset s.apt.ports p x } }

abbrev ptOff : Nat := 0
abbrev ptTrain : Nat := 1
abbrev ptAlign : Nat := 2
abbrev ptRun : Nat := 3
abbrev ptRetrain : Nat := 4
abbrev ptFault : Nat := 5

def State.portState (s : State) (p : Nat) : Nat := s.get (APT_PORT_STATE.STATE p)
def State.portExists (s : State) (p : Nat) : Bool := decide (p < 16) && s.flag (APT_PORT_CFG.EXISTS p)
def State.portArray (s : State) (p : Nat) : Nat := s.get (APT_PORT_CFG.ARRAY p)
def State.activePorts (s : State) : List Nat := idxWhere 16 s.portExists

/-- APT_STATUS as the ports stand. -/
def State.showApt (s : State) : State :=
  (s.put APT_STATUS.RUN (maskOf 16 (fun p => s.portState p == ptRun))).put APT_STATUS.STALE
    (maskOf 16 (fun p => s.flag (APT_PORT_STATE.STALE p)))

def State.enterPort (s : State) (p st : Nat) : State :=
  ((s.setPort p { s.port p with since := s.now }).put (APT_PORT_STATE.STATE p) st).showApt

/-- The lanes of a port go to a state of electrical idle. -/
def State.idlePort (s : State) (p : Nat) : State :=
  foldOver ((s.physLanes p).filter (fun l => s.laneState l != lnFenced)) (fun l t => t.setLaneState l lnOff) s

/-- A port's lanes train: from the preset, or from their settings for a retrain (R254, R316). -/
def State.trainPort (s : State) (p : Nat) (fromPreset : Bool) : State :=
  let w := s.get (APT_PORT_STATE.ACTIVE_WIDTH p)
  let own := (s.physLanes p).filter (fun l => s.laneUsable l && s.laneState l != lnFailed && decide (s.laneLogical l < w))
  let spares := (s.servingLanes p).filter (fun l => laneIsSpare l && s.laneUsable l)
  foldOver (own ++ spares) (fun l t => t.trainLane l fromPreset) s

/-- FAULT with its code (Table APT-8). -/
def State.portFault (s : State) (p code : Nat) : State :=
  (((s.enterPort p ptFault).put (APT_PORT_STATE.FAULT p) code).idlePort p).raise 0x0505 p code 0

/-- A link failure takes a port from RUN to TRAIN (R321, Table APT-8). -/
def State.linkFailure (s : State) (p : Nat) : State :=
  if s.portState p = ptRun ∨ s.portState p = ptAlign ∨ s.portState p = ptRetrain then (s.enterPort p ptTrain).trainPort p true else s

/-! ### Commands on the link (R239 to R243) -/

/-- Lane rates of Table LAN-1 in 0.1 Gb/s. -/
def rateTenths (code : Nat) : Nat := nthD [0, 80, 160, 256, 280, 320] code 0

/-- The TIME word for an instant in ps, on a lane (Table APT-4). -/
def State.timeWord (s : State) (l : Nat) (ps : Int) : Nat :=
  let x := s.lane l
  let ui := ((ps - (x.slotTime * 250 : Nat)) * (rateTenths (s.get (LAN_LANE_CFG.RATE l)) : Nat) / 10000).toNat
  (x.f + ui / slotUi) % 2 ^ 32 + ui % slotUi * 2 ^ 32

/-- The instant at which a command for an action at `steps` leaves: the action less the channel delay and the array's
delay (R241), in ps. -/
def State.commandPs (s : State) (p steps : Nat) : Int :=
  (steps * 250 : Nat) - (s.get (APT_PORT_DELAY.CHANNEL_PS p) : Int) - (pcDelayNs s.portCfg p * 1000 : Nat)

/-- Link words leave on a lane of a port in their turn. -/
def State.queueWords (s : State) (l : Nat) (words : List Nat) : State :=
  let x := s.lane l
  s.setLane l { x with queue := x.queue ++ words }

/-- A command on the lead lane of a port: its header with OP and EXTRA, and its extra words. -/
def State.command (s : State) (p op fields : Nat) (extra : List Nat) : State :=
  match s.laneOf p 0 with
  | none => s
  | some l =>
    let words := (op + extra.length * 2 ^ 8 + fields) :: extra
    (s.queueWords l words).send (.arrayCmd p l op words)

/-- A timed command whose action falls at `steps`. -/
def State.timedCommand (s : State) (p op fields steps : Nat) (extra : List Nat) : State :=
  match s.laneOf p 0 with
  | none => s
  | some l => s.command p op fields (s.timeWord l (s.commandPs p steps) :: extra)

def opPlaneLoad : Nat := 0x01
def opReset : Nat := 0x02
def opHold : Nat := 0x03
def opDark : Nat := 0x04
def opPark : Nat := 0x05
def opBeat : Nat := 0x06
def opStatusReq : Nat := 0x07
def opStreamHdr : Nat := 0x08
def opReplay : Nat := 0x09
def opRetrain : Nat := 0x0A

/-- PARK takes the place of the next word on every lead lane of a port in RUN, and ends its loads; no DARK follows it (R239,
Table APT-8). -/
def State.parkPort (s : State) (p : Nat) : State :=
  if s.portState p != ptRun then s
  else
    let s1 := foldOver (s.servingLanes p) (fun l (t : State) => t.setLane l { t.lane l with queue := [] }) s
    let s2 := s1.command p opPark 0 []
    let s3 := { s2 with apt := { s2.apt with loading := tdel s2.apt.loading (s.portArray p) } }
    s3.setPort p { s3.port p with darkSent := true }

def State.parkAll (s : State) : State := foldOver s.activePorts (fun p t => t.parkPort p) s

/-- The device's own station, whether it is joined, and its epoch (R252, R253). -/
def State.ownEpoch (s : State) : Nat := if s.flag LXS_STATION.VALID then s.rdN LXS_EPOCH else 1

/-- STREAM_HDR at the start of a frame: the queue is filled up with IDLE words (R250, R252). -/
def State.streamHdr (s : State) (p lfn : Nat) : State :=
  match s.laneOf p 0 with
  | none => s
  | some l =>
    let n := (s.lane l).queue.length
    let s1 := s.queueWords l (List.replicate ((64 - n % 64) % 64) 0)
    s1.command p opStreamHdr ((if s.flag LXS_STATION.VALID then s.get LXS_STATION.STATION else 0) * 2 ^ 16 +
      s.get LXS_STATION.VALID * 2 ^ 28) [lfn + s.ownEpoch * 2 ^ 32]

/-- STREAM_HDR of the LF to come, and its BEAT with P (R252; P as TIM has fixed it, log 43). -/
def State.beat (s : State) (p : Nat) : State :=
  let s1 := s.streamHdr p ((s.tim.lfn + 1) % 2 ^ 32)
  let s2 := s1.timedCommand p opBeat 0 s.nextBoundary [s.tim.planP16]
  s2.setPort p { s2.port p with beatTime := s.nextBoundary }

/-- STATUS_REQ for the reports in a mask (Table APT-4). -/
def State.statusReq (s : State) (p reports : Nat) : State := s.command p opStatusReq (reports * 2 ^ 16) []

/-! ### Plane data (R240, R246) -/

/-- Plane words of a part for rows `r0` to `r1` - 1, in row order and then column order. -/
def State.partWords (s : State) (content : Tbl Nat) (o p set plane r0 r1 : Nat) : List Nat :=
  let per := s.wpr o / s.partsOf p
  let first := s.get (APT_PORT_CFG.PART p) * per
  (List.range (r1 - r0)).flatMap (fun r => (List.range per).map (fun g => tget 0 content (wordKey set plane (r0 + r) (first + g))))

/-- The plane words of one lane: every WIDTH-th from its logical number on (R240). -/
def laneShare (width i : Nat) : List Nat → Nat → List Nat
  | [], _ => []
  | w :: r, k => if k % width = i then w :: laneShare width i r (k + 1) else laneShare width i r (k + 1)

/-- One PLANE_LOAD of a range of blocks on every lane of a part, with its data (R240). -/
def State.loadRange (s : State) (content : Tbl Nat) (o p set plane b0 b1 : Nat) (store : Option Nat) : State :=
  let m := s.mechOf o
  let rowEnd := if b1 + 1 < mechBlocks m then mechFirstRow m (b1 + 1) else s.outH o
  let words := s.partWords content o p set plane (if mechBlocks m = 0 then 0 else mechFirstRow m b0) rowEnd
  let width := s.get (APT_PORT_STATE.ACTIVE_WIDTH p)
  foldOver (List.range width) (fun i t =>
    match t.laneOf p i with
    | none => t
    | some l =>
      let data := (laneShare width i words 0).flatMap (fun w => wordsOfNat w 4)
      let hdr := [opPlaneLoad + 2 ^ 8 + b0 * 2 ^ 16 + b1 * 2 ^ 22 + t.get (APT_PORT_CFG.PART p) * 2 ^ 28 +
        boolNat store.isSome * 2 ^ 30 + set * 2 ^ 32 + plane * 2 ^ 37 + store.getD 0 * 2 ^ 42, data.length]
      ((t.queueWords l (hdr ++ data)).send (.arrayCmd p l opPlaneLoad hdr)).send (.arrayData p l data)) s

/-- The contiguous runs of set bits below `n`, as first and last (R246). -/
def runsOf (mask : Nat) : Nat → Option Nat → Nat → List (Nat × Nat)
  | 0, none, _ => []
  | 0, some a, k => [(a, k - 1)]
  | n + 1, st, k =>
    if bitAt mask k then runsOf mask n (some (st.getD k)) (k + 1)
    else match st with
      | none => runsOf mask n none (k + 1)
      | some a => (a, k - 1) :: runsOf mask n none (k + 1)

/-- PLANE_LOADs of the ready blocks of a plane on every part. -/
def State.loadBlocks (s : State) (content : Tbl Nat) (o set plane mask : Nat) : State :=
  foldOver (s.portsOf o) (fun p t =>
    foldOver (runsOf mask (mechBlocks (t.mechOf o)) none 0) (fun r u => u.loadRange content o p set plane r.1 r.2 none) t) s

/-! ### The never-start rule (R244, R245) -/

/-- A timed command for an action at `steps` can still be sent 1 µs before its instant (R241). -/
def State.commandInTime (s : State) (p steps : Nat) : Bool := decide (((s.now + usSteps) * 250 : Nat) ≤ s.commandPs p steps)

/-- The blocks of a slot that are ready: `te` holds the TE_IN levels, `done` the complete regions of a plane that a
running tail writes (R207, R244). A slot one of whose events came late, or whose RESET cannot be sent in time, has none (R18, R241). -/
def State.readyBlocks (s : State) (o slot lfn set plane te done : Nat) : Nat :=
  let m := s.mechOf o
  let all := 2 ^ mechBlocks m - 1
  let ports := s.portsOf o
  let up := !s.lan.coreStopped && s.banksOn o && !ports.isEmpty && ports.all (fun p => s.portState p == ptRun && s.lanesReady p lfn &&
    (!s.flag (APT_PORT_CFG.TE_PIN p) || bitAt te (s.get (APT_PORT_CFG.TE_INDEX p))))
  let events := s.seq.fab.contains ⟨.planeLoad, lfn, o, slot, 0⟩ && s.seq.fab.contains ⟨.reset, lfn, o, slot, 0⟩
  let tail := s.pln.tailRunning.contains o && !(tget [] s.pln.leadNow o).contains (set * 32 + plane)
  let inTime := !s.apt.suppressed.contains (readyKey o slot lfn) && (ports.head?).any (fun p =>
    (s.eventInstant ⟨.reset, lfn, o, slot, 0⟩).any (s.commandInTime p))
  if up && events && inTime then (if tail then done &&& all else all) else 0

/-- Blocks of a mask that a tail has not completed, each a refill miss (R209). -/
def State.refillMisses (s : State) (o set plane mask done : Nat) : State :=
  if s.pln.tailRunning.contains o && !(tget [] s.pln.leadNow o).contains (set * 32 + plane) then
    foldOver (idxWhere 64 (fun b => bitAt mask b && !bitAt done b)) (fun b t =>
      (t.inc (PLN_OUT_STATUS.REFILL_MISSES o)).raise 0x0902 o b 0) s
  else s

/-- The substitution of the blocks that are not ready (R245). -/
def State.substitute (s : State) (o slot lfn plane mask at_ wave : Nat) : State :=
  match s.portsOf o with
  | [] => s
  | lead :: rest =>
    let dark := s.flag (APT_PORT_CFG.POLICY lead)
    let first := ((List.range 64).find? (bitAt mask)).getD 0
    let s1 := if dark then s.timedCommand lead opDark (wave * 2 ^ 16) at_ [mask] else s.timedCommand lead opHold 0 at_ [mask]
    let s2 := foldOver (lead :: rest) (fun p (t : State) => t.inc (if dark then APT_PORT_DARKS.COUNT p else APT_PORT_HOLDS.COUNT p)) s1
    ({ s2 with apt := { s2.apt with suppressed := s2.apt.suppressed ++ [readyKey o slot lfn] } }).raise 0x0501 o slot (plane * 64 + first)

/-- LOAD_DEADLINE (R244 to R246): 1 µs before LOAD_PHASE of slot `slot` of LF `lfn`, the lead port decides; `te` gives
the TE_IN levels and `done` the regions that a running tail has completed. RESET for the ready blocks and HOLD or DARK
for the others are sent for the reset instant; in a dark LF neither is (R36, R40). While the array replays the port sends
nothing, and only the dark LF of a temporal slot is kept dark (R199, R257). -/
def doLoadDeadline (dt o slot lfn te done : Nat) (s : State) : State :=
  let t := s.tick dt
  let inst := t.eventInstant ⟨.planeLoad, lfn, o, slot, 0⟩
  let key := readyKey o slot lfn
  match t.runSched o, inst with
  | some x, some i =>
    t.onLiveIf (decide (o < 16) && decide (lfn = t.tim.lfn ∨ lfn = (t.tim.lfn + 1) % 2 ^ 32) && decide (i ≤ t.now + usSteps) &&
        !thas t.apt.ready key) fun u =>
      let u1 := foldOver ((u.portsOf o).filter (fun p => u.flag (APT_PORT_CFG.TE_PIN p))) (fun p (v : State) =>
        v.putB (APT_PORT_STATE.TE_OPEN p) (bitAt te (v.get (APT_PORT_CFG.TE_INDEX p)))) u
      match (x.slotsAt lfn)[slot]? with
      | none => u1
      | some e =>
        match (if u1.tim.darkLf && lfn == u1.tim.lfn then none else slotPlane e lfn) with
        | none => { u1 with apt := { u1.apt with
            ready := tset u1.apt.ready key 0
            suppressed := u1.apt.suppressed ++ [key] } }
        | some plane =>
          if u1.flag (SEQ_OUT_SCHED.REPLAYING o) then u1
          else
          let ready := u1.readyBlocks o slot lfn e.set plane te done
          let rest := (2 ^ mechBlocks (u1.mechOf o) - 1) - ready
          let wave := u1.waveOf o e.wclass
          let at_ := (u1.eventInstant ⟨.reset, lfn, o, slot, 0⟩).getD 0
          let u2 := { u1 with
            apt := { u1.apt with ready := tset u1.apt.ready key ready }
            pln := { u1.pln with tailBlocks := (if u1.pln.tailRunning.contains o
              then tset u1.pln.tailBlocks (o * 1024 + e.set * 32 + plane) done
              else u1.pln.tailBlocks) } }
          let u3 := match (u2.portsOf o).head? with
            | some lead => if ready = 0 then u2 else u2.timedCommand lead opReset (wave * 2 ^ 16) at_ [ready]
            | none => u2
          if rest = 0 then u3 else (u3.substitute o slot lfn plane rest at_ wave).refillMisses o e.set plane rest done
  | _, _ => t

/-- MIRROR_RESET (R241): the reset instant of a slot has come; its load is over. -/
def doMirrorReset (dt o slot : Nat) (s : State) : State :=
  let t := s.tick dt
  let e : FabEvent := ⟨.reset, t.tim.lfn, o, slot, 0⟩
  t.onLiveIf (t.eventDue e) fun u =>
    let v := u.takeEvent e
    { v with apt := { v.apt with loading := tdel v.apt.loading o } }

/-! ### The back channel (R249 to R251, R253) -/

/-- A report has arrived on a port's back channel: BC_LOST clears (R251). -/
def State.reported (s : State) (p : Nat) : State :=
  (s.setPort p { s.port p with reportTime := s.now }).put (APT_PORT_STATE.BC_LOST p) 0

/-- A port whose array sends reports: an array with BACK_CHANNEL, and a link that is up. -/
def State.bcUp (s : State) (p : Nat) : Bool :=
  s.portExists p && mechBack (s.mechOf (s.portArray p)) &&
    (s.portState p == ptAlign || s.portState p == ptRun || s.portState p == ptRetrain)

/-- Planes of an output as the array's local store numbers them: set × 32 + plane, sets in order (R257). -/
def State.storePlanes (s : State) (o : Nat) : List Nat := s.planesOf [] o

/-- The local store's entry of a plane. -/
def State.storeIndex (s : State) (o key : Nat) : Nat := ((s.storePlanes o).findIdx (· == key))

/-- Entries of a replay list for a band, for the LFs of the cycle that follows (Table APT-4, R257). A temporal slot's entry names the
plane of its LF, and its dark LF has none (R199). -/
def State.replayEntries (s : State) (o band : Nat) : List Nat :=
  match s.runSched o with
  | none => []
  | some x =>
    (List.range x.cycle).flatMap (fun d =>
      let lfn := (s.tim.lfn + 1 + d) % 2 ^ 32
      (x.slotsAt lfn).filterMap (fun e => (slotPlane e lfn).map (fun plane =>
        let wave := (waveId (s.waveSec o) band e.wclass).getD (s.waveOf o e.wclass)
        (e.load + x.load) % 2 ^ 24 + x.index lfn * 2 ^ 24 + s.storeIndex o (e.set * 32 + plane) * 2 ^ 27 + wave * 2 ^ 34)))

/-- The list of a replaying array changes from cycle to cycle: a temporal slot's LFs do not repeat with it (R199). -/
def State.replayMoves (s : State) (o : Nat) : Bool :=
  (s.runSched o).any (fun x => x.lists.any (fun l => l.any (fun e => x.cycle % 2 ^ e.tb != 0)))

def chunks255 : Nat → List Nat → List (List Nat)
  | 0, _ => []
  | n + 1, l => if l.length ≤ 255 then [l] else l.take 255 :: chunks255 n (l.drop 255)

/-- The replay list in chunks of up to 255 entries; the FINAL chunk carries CYCLE_M1 and ALIGN (R257). -/
def State.sendReplay (s : State) (o band : Nat) : State :=
  match (s.portsOf o).head?, s.runSched o with
  | some lead, some x =>
    let cs := chunks255 64 (s.replayEntries o band)
    foldOver (cs.zip (List.range cs.length)) (fun c t =>
      t.command lead opReplay (boolNat (c.2 + 1 == cs.length) * 2 ^ 16 + 255 * c.2 * 2 ^ 18 +
        (if c.2 + 1 = cs.length then (x.cycle - 1) * 2 ^ 30 + x.align % 8 * 2 ^ 33 else 0)) c.1) s
  | _, _ => s

/-- BC_TEMP (R249): temperature and band; while the array replays, a new band sends a new list (R257). -/
def doBcTemp (dt p band : Nat) (temp : Nat) (s : State) : State :=
  let t := s.tick dt
  t.onLiveIf (t.bcUp p && decide (band < 8)) fun u =>
    let u1 := u.reported p
    let u2 := ((u1.setPort p { u1.port p with
      band := band
      tempTime := u1.now }).put (APT_PORT_TEMP.TEMP p) temp).put (APT_PORT_TEMP.AGE_MS p) 0
    if u2.flag (APT_PORT_STATE.REPLAY p) && (u.port p).band != band then u2.sendReplay (u2.portArray p) band else u2

/-- BC_TE (R249): the load window state of an array without a TE pin. -/
def doBcTe (dt p : Nat) (open_ : Bool) (s : State) : State :=
  let t := s.tick dt
  t.onLiveIf (t.bcUp p) fun u =>
    let u1 := u.reported p
    if u1.flag (APT_PORT_CFG.TE_PIN p) then u1 else u1.putB (APT_PORT_STATE.TE_OPEN p) open_

/-- BC_ERROR (R249). -/
def doBcError (dt p code block : Nat) (s : State) : State :=
  let t := s.tick dt
  t.onLiveIf (t.bcUp p) fun u =>
    ((((u.reported p).put (APT_PORT_ARRAY_ERR.CODE p) code).put (APT_PORT_ARRAY_ERR.BLOCK p) block).inc
      (APT_PORT_ARRAY_ERR.COUNT p)).raise 0x0502 p code block

/-- BC_HEALTH (R249): an event when STUCK rises. -/
def doBcHealth (dt p stuck : Nat) (s : State) : State :=
  let t := s.tick dt
  t.onLiveIf (t.bcUp p) fun u =>
    let old := u.get (APT_PORT_HEALTH.STUCK p)
    let u1 := (u.reported p).put (APT_PORT_HEALTH.STUCK p) stuck
    if old < stuck % 2 ^ 24 then u1.raise 0x0506 p stuck 0 else u1

/-- BC_STATUS (R249): identity and geometry; in ALIGN another geometry than ARRAY_MECH's is FAULT 0x03. -/
def doBcStatus (dt p vendor model firmware rows cols : Nat) (s : State) : State :=
  let t := s.tick dt
  t.onLiveIf (t.bcUp p) fun u =>
    let u1 := ((((u.reported p).put (APT_PORT_IDENT_LO.VENDOR p) vendor).put (APT_PORT_IDENT_LO.MODEL p) model).put
      (APT_PORT_IDENT_HI.FIRMWARE p) firmware)
    let u2 := u1.setPort p { u1.port p with geom := some (rows, cols) }
    let m := u2.mechOf (u2.portArray p)
    if u2.portState p = ptAlign ∧ (rows ≠ mechRows m ∨ cols ≠ mechCols m) then u2.portFault p 0x03 else u2

/-- BC_ECHO (R250): in ALIGN the channel delay is half of the round trip less the turnaround, in ps. -/
def doBcEcho (dt p roundPs : Nat) (s : State) : State :=
  let t := s.tick dt
  t.onLiveIf (t.bcUp p && t.portState p == ptAlign) fun u =>
    let u1 := u.reported p
    (u1.setPort p { u1.port p with echoed := true }).putSat (APT_PORT_DELAY.CHANNEL_PS p) ((roundPs - pcTurnNs u1.portCfg p * 1000) / 2)

/-- BC_EPOCH (R253): a port whose own epoch is below the highest is stale. -/
def doBcEpoch (dt p highest : Nat) (s : State) : State :=
  let t := s.tick dt
  t.onLiveIf (t.bcUp p) fun u =>
    let u1 := (u.reported p).put (APT_PORT_EPOCH.HIGHEST p) highest
    let stale := decide (u1.ownEpoch < highest % 2 ^ 32)
    let u2 := (u1.putB (APT_PORT_STATE.STALE p) stale).showApt
    if stale && !u.flag (APT_PORT_STATE.STALE p) then u2.raise 0x0504 p highest 0 else u2

/-- BC_LOST (R251): no report for 10 ms. -/
def doBcLost (dt p : Nat) (s : State) : State :=
  let t := s.tick dt
  t.onLiveIf (t.bcUp p && !t.flag (APT_PORT_STATE.BC_LOST p) && decide ((t.port p).reportTime + 10 * msSteps ≤ t.now)) fun u =>
    (u.put (APT_PORT_STATE.BC_LOST p) 1).raise 0x0503 p 0 0

/-! ### Port states (R254) -/

/-- Every logical lane of a port is in DATA. -/
def State.lanesTrained (s : State) (p : Nat) : Bool :=
  (List.range (s.get (APT_PORT_STATE.ACTIVE_WIDTH p))).all (fun i =>
    (s.servingLanes p).any (fun l => s.laneLogical l == i && s.laneState l == lnData))

/-- An attempt of ALIGN starts: STREAM_HDR, BEAT with ECHO, and STATUS_REQ (Table APT-8). -/
def State.tryAlign (s : State) (p : Nat) : State :=
  let s1 := (s.setPort p { s.port p with
    since := s.now
    echoed := false
    geom := none }).beat p
  if mechBack (s1.mechOf (s1.portArray p)) then s1.statusReq p (2 ^ 5 + 2 ^ 7) else s1

/-- PORT_TRAINED (R254): every lane is in DATA, and the port enters ALIGN. -/
def doPortTrained (dt p : Nat) (s : State) : State :=
  let t := s.tick dt
  t.onLiveIf (t.portExists p && t.portState p == ptTrain && t.lanesTrained p) fun u =>
    let u1 := u.enterPort p ptAlign
    (u1.setPort p { u1.port p with
      attempts := 0
      reportTime := u1.now
      parked := false }).tryAlign p

/-- PORT_ALIGNED (R254): the delay is known and the geometry matches; the port enters RUN, and sends PARK once where
its output has no schedule in force. -/
def doPortAligned (dt p : Nat) (s : State) : State :=
  let t := s.tick dt
  let m := t.mechOf (t.portArray p)
  t.onLiveIf (t.portExists p && t.portState p == ptAlign &&
      (!mechBack m || ((t.port p).echoed && (t.port p).geom == some (mechRows m, mechCols m)))) fun u =>
    let u1 := (if mechBack m then u else u.putSat (APT_PORT_DELAY.CHANNEL_PS p) (pcChannelNs u.portCfg p * 1000)).enterPort p ptRun
    if thas u1.seq.force (u1.portArray p) then u1
    else (u1.command p opPark 0 []).setPort p { (u1.command p opPark 0 []).port p with parked := true }

/-- PORT_TRAIN_TIMEOUT (R254): not trained within 40 ms, or the third attempt of ALIGN has failed within 2 ms. -/
def doPortTrainTimeout (dt p : Nat) (s : State) : State :=
  let t := s.tick dt
  let x := t.port p
  t.onLiveIf (t.portExists p) fun u =>
    if u.portState p = ptTrain ∧ x.since + 40 * msSteps ≤ u.now then u.portFault p 0x01
    else if u.portState p = ptAlign ∧ x.since + 2 * msSteps ≤ u.now then
      (if 2 ≤ x.attempts then u.portFault p 0x02 else (u.setPort p { x with attempts := x.attempts + 1 }).tryAlign p)
    else u

/-- PORT_FAULT_RETRY (R254): after 100 ms in FAULT, while AUTO_RETRY is 1. -/
def doPortFaultRetry (dt p : Nat) (s : State) : State :=
  let t := s.tick dt
  t.onLiveIf (t.portExists p && t.portState p == ptFault && t.flag (APT_PORT_CTRL.AUTO_RETRY p) &&
      decide ((t.port p).since + 100 * msSteps ≤ t.now)) fun u => (u.enterPort p ptTrain).trainPort p true

/-- The image applies the ports: each enters TRAIN (Table APT-8). -/
def State.startPorts (s : State) : State :=
  foldOver s.activePorts (fun p t => (t.setPort p PortSt.init).enterPort p ptTrain) s

/-! ### Retrains and widths (R255, R256) -/

/-- The first boundary at least 100 µs away, in steps: whether it is the next one. -/
def State.nextIsFar (s : State) : Bool := decide (100 * usSteps ≤ s.toBoundary)

/-- RETRAIN for the next boundary, with DARK of all blocks before it (Tables APT-4 and APT-8). -/
def State.sendRetrain (s : State) (p : Nat) (merged widthChange : Bool) : State :=
  let x := s.port p
  let all := 2 ^ mechBlocks (s.mechOf (s.portArray p)) - 1
  let w := s.get (APT_PORT_STATE.ACTIVE_WIDTH p)
  let s1 := if s.get (APT_PORT_CFG.PART p) = 0 then
    s.timedCommand p opDark (s.waveOf (s.portArray p) 0 * 2 ^ 16) (s.nextBoundary - usSteps) [all] else s
  let s2 := s1.timedCommand p opRetrain (boolNat merged * 2 ^ 16 + boolNat widthChange * 2 ^ 17 +
    (if widthChange then s.changedWidth (s.portArray p) else w) * 2 ^ 18) s.nextBoundary []
  let s3 := if merged then s2.inc (APT_PORT_RETRAINS.MERGED p) else s2
  s3.setPort p { x with
    retrainDue := some s.nextBoundary
    merged := merged }

/-- A retrain is decided by the controller or for the array (R255): it starts at the first boundary at least 100 µs away. -/
def State.decideRetrain (s : State) (p : Nat) (array : Bool) : State :=
  let x := s.port p
  match x.retrainDue with
  | some _ =>
    if array && !x.asked && !x.merged then (s.setPort p { x with asked := true }).sendRetrain p true x.narrow
    else if !array && x.asked && x.decidedLfn == s.tim.lfn && !x.merged then s.sendRetrain p true x.narrow
    else s
  | none =>
    let s1 := s.setPort p { x with
      retrainDue := some 0
      decidedLfn := s.tim.lfn
      asked := array
      merged := false }
    if s.nextIsFar then s1.sendRetrain p false x.narrow else s1

/-- APT_RETRAIN_REQUEST (R255): the PF sets RETRAIN of a port in RUN; the bit clears itself. -/
def doAptRetrainRequest (dt p : Nat) (s : State) : State :=
  let t := s.tick dt
  t.onReachIf (t.portExists p && t.portState p == ptRun) fun u => u.decideRetrain p false

/-- APT_STATUS_REQUEST (R249): STATUS_REQ with REPORTS; the bit clears itself. -/
def doAptStatusRequest (dt p : Nat) (s : State) : State :=
  let t := s.tick dt
  t.onReachIf (t.portExists p && (t.portState p == ptRun || t.portState p == ptAlign)) fun u =>
    u.statusReq p (u.get (APT_PORT_CTRL.REPORTS p))

/-- A width change of an array's ports is asked for: a compile at half width, of kind control change (R256). -/
def State.askNarrow (s : State) (o : Nat) : State :=
  if s.activeWidth o ≤ 1 || !thas s.seq.force o || (s.portsOf o).any (fun p => (s.port p).narrow) then s
  else (foldOver (s.portsOf o) (fun p (t : State) => t.setPort p { t.port p with narrow := true }) s).askJob o 3

/-- BC_RETRAIN_REQ (R255, R256): the array asks for a retrain, or for a narrower width. -/
def doBcRetrainReq (dt p : Nat) (widthReq : Bool) (s : State) : State :=
  let t := s.tick dt
  t.onLiveIf (t.bcUp p && t.portState p == ptRun) fun u =>
    let u1 := u.reported p
    if widthReq then u1.askNarrow (u1.portArray p) else u1.decideRetrain p true

/-- The width change's compile has ended (R256): accepted, it applies with a RETRAIN with WIDTH_CHANGE; rejected, the
ports stay at full width. -/
def State.narrowDone (s : State) (o : Nat) (ok : Bool) : State :=
  foldOver (s.portsOf o) (fun p t => if ok then t.decideRetrain p false else t.setPort p { t.port p with narrow := false, widen := false }) s

/-- An output whose width had been halved returns to its image's width once every lane of its ports works again (R419). -/
def State.askWiden (s : State) (o : Nat) : State :=
  let ps := s.portsOf o
  if s.activeWidth o = (s.portLanes ((ps.head?).getD 0)).length || !thas s.seq.force o || ps.any (fun p => (s.port p).narrow) then s
  else (foldOver ps (fun p (t : State) => t.setPort p { t.port p with narrow := true, widen := true }) s).askJob o 3

/-- What the loss of a lane leaves without service: a port's lane with itself; a spare that carries a lane with itself; a spare that
was to take a failed lane with that lane (R321, R323). -/
def State.lostLane (s : State) (l : Nat) : Nat :=
  match (s.lane l).subst with
  | some a => if laneIsSpare l && a.kind == 0 then a.lane else l
  | none => l

/-- A lane of a port has failed (R321, R256): half of the lanes failed, or logical lane 0 of a lead port failed with no
spare, is a link failure; another failed lane with no spare asks for a width change. -/
def State.laneLoss (s : State) (k : Nat) : State :=
  let l := s.lostLane k
  let p := s.lanePort l
  if (s.laneRole l != 1 && !(s.laneRole l == 2 && s.standsFor l != 0xFF)) || s.laneState l != lnFailed || !s.portExists p then s
  else
    let failed := (s.physLanes p).filter (fun k => s.laneState k == lnFailed)
    let spared := s.coveredFrom l ((s.tim.lfn + 2) % 2 ^ 32)
    if s.get (APT_PORT_STATE.ACTIVE_WIDTH p) ≤ 2 * failed.length then s.linkFailure p
    else if s.laneLogical l = 0 ∧ s.get (APT_PORT_CFG.PART p) = 0 ∧ !spared then s.linkFailure p
    else if spared then s else s.askNarrow (s.portArray p)

/-- Logical lanes after a width change: the lower half stays; one whose lane has failed moves to a working lane of the
upper half (R326). -/
def State.remapLanes (s : State) (p w : Nat) : State :=
  let own := s.physLanes p
  let bad := fun (t : State) l => t.laneState l == lnFailed || t.laneState l == lnFenced
  let s1 := foldOver (List.range w) (fun i t =>
    match own.find? (fun l => t.laneLogical l == i && bad t l), own.find? (fun l => decide (w ≤ t.laneLogical l) && !bad t l) with
    | some l, some k => ((t.put (LAN_LANE_STATE.LOGICAL l) (t.laneLogical k)).put (LAN_LANE_STATE.LOGICAL k) i)
    | _, _ => t) s
  foldOver (own.filter (fun l => decide (w ≤ s1.laneLogical l) && !bad s1 l)) (fun l t => t.setLaneState l lnOff) s1

/-- Every lane of a port carries the logical lane of its place again (R326, R419). -/
def State.wholeLanes (s : State) (p : Nat) : State :=
  let own := s.physLanes p
  foldOver own (fun l t => t.put (LAN_LANE_STATE.LOGICAL l) ((own.filter (fun k => decide (k < l))).length % 32)) s

/-- A decided retrain starts at its boundary; with a width change the accepted schedule comes into force with it. -/
def State.startRetrain (s : State) (p : Nat) : State :=
  let x := s.port p
  let o := s.portArray p
  let s1 := (s.setPort p { x with
    retrainDue := none
    asked := false
    merged := false
    narrow := false
    widen := false }).inc (APT_PORT_RETRAINS.RETRAINS p)
  let s2 := if x.narrow then
      let w := s.changedWidth o
      let t0 := s1.put (APT_PORT_STATE.ACTIVE_WIDTH p) w
      let t := if x.widen then t0.wholeLanes p else t0.remapLanes p w
      match tfind t.seq.done (jobKey o 3) with
      | some d => { t.install o d with seq := { (t.install o d).seq with done := tdel t.seq.done (jobKey o 3) } }
      | none => t
    else s1
  (s2.enterPort p ptRetrain).trainPort p false

/-- PORT_RETRAIN_DONE (R254): every lane is back in DATA, or 2 ms have passed and full training follows. -/
def doPortRetrainDone (dt p : Nat) (s : State) : State :=
  let t := s.tick dt
  t.onLiveIf (t.portExists p && t.portState p == ptRetrain) fun u =>
    if u.lanesTrained p then u.enterPort p ptRun
    else if (u.port p).since + 2 * msSteps ≤ u.now then
      (((u.put (APT_PORT_STATE.FAULT p) 0x04).enterPort p ptTrain).trainPort p true)
    else u

/-! ### Replay (R233, R257) -/

/-- The replay conditions of an output, but for their 8 LFs; an output that no rank below 3 holds dark (R233; DESIGN CHOICE,
log 122). -/
def State.replayOk (s : State) (o : Nat) : Bool :=
  let m := s.mechOf o
  s.actFlag (SEQ_OUT_CTRL.REPLAY_EN o) && decide (s.activePorts.length ≤ 2) && !(s.portsOf o).isEmpty &&
    mechLocalStore m && decide ((s.storePlanes o).length ≤ mechStore m) && !s.passQueued o && !s.seq.rebuild.contains o &&
    thas s.seq.force o && s.seq.wasThrottled == s.seq.throttled && decide (3 ≤ s.get (SEQ_OUT_SCHED.RUNNING o))

/-- REPLAY_ENTER (R233, R257): the conditions have held for 8 LFs; planes and list go to the array, and replay begins at
the next boundary. -/
def doReplayEnter (dt o : Nat) (s : State) : State :=
  let t := s.tick dt
  t.onLiveIf (decide (o < 16) && t.replayOk o && (t.portsOf o).all (fun p => t.portState p == ptRun) && decide (8 ≤ tget 0 t.seq.replayLfs o) && !t.flag (SEQ_OUT_SCHED.REPLAYING o) &&
      !t.seq.replayStart.contains o) fun u =>
    let content := tget [] u.pln.front o
    let last := mechBlocks (u.mechOf o) - 1
    let u1 := foldOver (u.storePlanes o) (fun k v =>
      foldOver (v.portsOf o) (fun p w => w.loadRange content o p (k / 32) (k % 32) 0 last (some (v.storeIndex o k))) v) u
    let lead := ((u1.portsOf o).head?).getD 0
    let u2 := u1.sendReplay o (u1.port lead).band
    { u2 with seq := { u2.seq with
      replayStart := u2.seq.replayStart ++ [o]
      replayed := match u2.runSched o with
        | some x => tset u2.seq.replayed o x
        | none => u2.seq.replayed } }

/-- REPLAYING and REPLAY of an output and its ports. -/
def State.showReplay (s : State) (o : Nat) (on : Bool) : State :=
  foldOver (s.portsOf o) (fun p (t : State) => t.putB (APT_PORT_STATE.REPLAY p) on) (s.putB (SEQ_OUT_SCHED.REPLAYING o) on)

/-- The schedule whose list an array holds still runs: replay ends as a commit, throttle or the static schedule changes it (R233,
Table SEQ-7; the last a DESIGN CHOICE, log 122). -/
def State.replaySame (s : State) (o : Nat) : Bool := s.runSched o == tfind s.seq.replayed o

/-- Replay of one output at a boundary (`replayBoundary`). -/
def State.replayOutput (s : State) (o : Nat) : State :=
  let ok := s.replayOk o
  let t1 := { s with seq := { s.seq with replayLfs := tset s.seq.replayLfs o (if ok then tget 0 s.seq.replayLfs o + 1 else 0) } }
  let stays := ok && t1.replaySame o
  if t1.seq.replayEnding.contains o then
    { (t1.showReplay o false) with seq := { (t1.showReplay o false).seq with replayEnding := t1.seq.replayEnding.erase o } }
  else if t1.flag (SEQ_OUT_SCHED.REPLAYING o) && !stays then
    let lead := ((t1.portsOf o).head?).getD 0
    let t2 := foldOver ((t1.portsOf o).flatMap t1.servingLanes) (fun l (u : State) =>
      if u.laneState l = lnIdle then u.setLaneState l lnData else u) t1
    let t3 := t2.command lead opReplay (2 ^ 17) []
    { t3 with seq := { t3.seq with replayEnding := t3.seq.replayEnding ++ [o] } }
  else if t1.flag (SEQ_OUT_SCHED.REPLAYING o) then
    (if t1.replayMoves o then t1.sendReplay o (t1.port (((t1.portsOf o).head?).getD 0)).band else t1)
  else if t1.seq.replayStart.contains o then
    let t2 := { t1 with seq := { t1.seq with replayStart := t1.seq.replayStart.erase o } }
    if stays then t2.showReplay o true else t2
  else t1

/-- Replay at a boundary: an array takes up its list, and gets a new one in each LF where a temporal slot's planes do not repeat with
the cycle (R199; DESIGN CHOICE, log 122: the spec gives no other way to keep them); where a condition fails REPLAY STOP is sent, the
lanes return, and streaming resumes at the following boundary (R233, R257). -/
def State.replayBoundary (s : State) : State :=
  let t := foldOver ((List.range 16).filter s.outExists) (fun o u => u.replayOutput o) s
  { t with seq := { t.seq with wasThrottled := t.seq.throttled } }

/-! ### The boundary (R231, R249, R252, R254) -/

/-- Milliseconds since the last TEMP report of a port, saturating (Table APT-11). -/
def State.tempAge (s : State) (p : Nat) : Nat :=
  if (s.port p).tempTime = 0 then 0 else min 255 ((s.now - (s.port p).tempTime) / msSteps)

/-- A port at a boundary: the band reported comes into use, a decided retrain is sent or starts, DARK under rank 1 and
as dark LFs begin (R36, R40, R42), and the STREAM_HDR and BEAT of the LF to come. -/
def State.portBoundary (s : State) (p : Nat) : State :=
  let st := s.portState p
  if st != ptRun && st != ptAlign && st != ptRetrain then s
  else
    let x := s.port p
    let o := s.portArray p
    let lead := s.get (APT_PORT_CFG.PART p) == 0
    let s1 := (s.put (APT_PORT_TEMP.BAND p) x.band).putSat (APT_PORT_TEMP.AGE_MS p)
      (s.tempAge p)
    let s2 := if lead then s1.selectWaves o x.band else s1
    let s3 := match x.retrainDue with
      | none => s2
      | some d => if st != ptRun then s2
        else if d = 0 then s2.sendRetrain p x.merged x.narrow
        else if d ≤ s2.now then s2.startRetrain p else s2
    let stop := s3.get (SEQ_OUT_SCHED.RUNNING o) == 1 || s3.tim.darkLf
    let s4 := if stop && lead && !x.darkSent && s3.portState p == ptRun then
        s3.timedCommand p opDark (s3.waveOf o 0 * 2 ^ 16) (s3.now + 2 * usSteps) [2 ^ mechBlocks (s3.mechOf o) - 1] else s3
    let s5 := s4.setPort p { s4.port p with darkSent := stop }
    if s5.portState p = ptRetrain then s5 else s5.beat p

/-- APT's part of a boundary, after the schedules are chosen. -/
def State.aptBoundary (s : State) : State :=
  let s1 := foldOver s.activePorts (fun p t => t.portBoundary p) s
  let live := fun k => k % 2 == s.tim.lfn % 2
  { s1 with apt := { s1.apt with
    ready := s1.apt.ready.filter (fun e => live e.1)
    suppressed := s1.apt.suppressed.filter live
    cuts := []
    loading := [] } }

/-- Words of snapshot group 0x03 (Table APT-12). -/
def State.aptSnap (s : State) : List Nat :=
  s.rdN APT_STATUS :: ([APT_PORT_STATE, APT_PORT_HOLDS, APT_PORT_DARKS, APT_PORT_TEMP].flatMap (fun r =>
    (List.range 16).map (fun p => s.rdN (r p))))

end Sys2Proof.Machine
end

