-- ==== Sys2Proof/Machine/Pixel.lean ====
section
/-! DEFINITION. The pixel pipeline of the compositor: surface bytes, FBC, chroma, scaling, blending, warp, edge blend
and writeback words (spec/06, R137 to R156, R159, R160). All are functions of the state at the instant a pass
completes (DESIGN CHOICE, log 26). -/
namespace Sys2Proof.Machine

/-! ### Surface bytes -/

/-- The byte a context reads at a virtual address: local memory, or a byte from outside; none without a mapping. -/
def State.vbyte? (s : State) (c va : Nat) : Option Byte :=
  match s.translate c va false with
  | .error _ => none
  | .ok m =>
    match m.kind with
    | .host => some (Config.outerByte s.now c va)
    | .remote => some (Config.outerByte s.now c va)
    | _ => some (dramGet s.mem.dram (m.dpa va))

def State.vbyte (s : State) (c va : Nat) : Nat := ((s.vbyte? c va).getD 0).toNat

/-- `n` little-endian bytes as a number. -/
def State.vle (s : State) (c va : Nat) : Nat → Nat
  | 0 => 0
  | n + 1 => s.vbyte c va + 256 * s.vle c (va + 1) n

/-- `n` bytes, or none where one has no readable mapping (R174). -/
def State.vread (s : State) (c va n : Nat) : Option (List Byte) :=
  (List.range n).foldr (fun k acc => match s.vbyte? c (va + k), acc with
    | some b, some l => some (b :: l)
    | _, _ => none) (some [])

/-! ### Plain elements (R139, R141) -/

/-- The planes of a surface. -/
inductive Plane where
  | packed | luma | chroma
  deriving DecidableEq, Repr

/-- Bits of each channel of a plane (Tables CMP-2 and CMP-3). -/
def chanBits (fmt : Nat) : Plane → List Nat
  | .packed => if fmt = 0 then [5, 6, 5] else if fmt = 1 then [8, 8, 8] else if fmt = 2 then [8, 8, 8, 8] else [10, 10, 10, 2]
  | .luma => [fmtDepth fmt]
  | .chroma => [fmtDepth fmt, fmtDepth fmt]

/-- Bytes of a plain element. -/
def elemBytes (fmt : Nat) : Plane → Nat
  | .packed => fmtBytes fmt
  | .luma => fmtBytes fmt
  | .chroma => 2 * fmtBytes fmt

/-- The channels of an element from its plain bytes as a little-endian number. -/
def unpackElem (fmt w : Nat) : Plane → List Nat
  | .packed =>
    if fmt = 0 then [bitsOf w 15 11, bitsOf w 10 5, bitsOf w 4 0]
    else if fmt = 3 then [bitsOf w 9 0, bitsOf w 19 10, bitsOf w 29 20, bitsOf w 31 30]
    else if fmt = 1 then [bitsOf w 7 0, bitsOf w 15 8, bitsOf w 23 16]
    else [bitsOf w 7 0, bitsOf w 15 8, bitsOf w 23 16, bitsOf w 31 24]
  | .luma => [if fmtDepth fmt = 8 then w % 256 else w % 65536 / 2 ^ (16 - fmtDepth fmt)]
  | .chroma =>
    if fmtDepth fmt = 8 then [w % 256, w / 256 % 256]
    else [w % 65536 / 2 ^ (16 - fmtDepth fmt), w / 65536 % 65536 / 2 ^ (16 - fmtDepth fmt)]

/-! ### FBC (R144 to R147, Tables CMP-3, CMP-4) -/

def fbcField (hdr c hi lo : Nat) : Nat := bitsOf hdr (8 + 24 * c + hi) (8 + 24 * c + lo)

/-- Whether a tile header is valid for channels of the given widths, a slot of `slot` bytes and a largest shift (R147). -/
def fbcValid (bits : List Nat) (slot maxShift hdr : Nat) : Bool :=
  let mode := bitsOf hdr 1 0
  let size := bitsOf hdr 3 2
  let k := bits.length
  let sumW := listSum ((List.range k).map (fun c => fbcField hdr c 15 12))
  mode != 3 && bitsOf hdr 7 4 == 0 && bitsOf hdr 127 104 == 0 &&
    (List.range 4).all (fun c => decide (c < k) || fbcField hdr c 23 0 == 0) &&
    (List.range k).all (fun c =>
      let n := nthD bits c 0
      fbcField hdr c 23 20 == 0 && decide (fbcField hdr c 11 0 < 2 ^ n) && decide (fbcField hdr c 15 12 ≤ n) &&
        decide (fbcField hdr c 19 16 < n) && decide (fbcField hdr c 19 16 ≤ maxShift) &&
        (mode != 0 || (fbcField hdr c 15 12 == 0 && fbcField hdr c 19 16 == 0))) &&
    (mode != 1 || decide (64 * sumW ≤ 512 * (size + 1))) &&
    decide (size + 1 ≤ slot / 64) && (mode != 2 || size + 1 == slot / 64)

/-- Element e of a valid tile (R146): constant, coded from the bit stream, or raw. -/
def fbcElem (fmt : Nat) (pl : Plane) (hdr e : Nat) (body : Nat → Nat) : List Nat :=
  let bits := chanBits fmt pl
  let mode := bitsOf hdr 1 0
  if mode = 2 then
    let n := elemBytes fmt pl
    unpackElem fmt (listSum ((List.range n).map (fun i => body (e * n + i) * 256 ^ i))) pl
  else
    (List.range bits.length).map (fun c =>
      let w := fbcField hdr c 15 12
      let sh := fbcField hdr c 19 16
      let start := 64 * listSum ((List.range c).map (fun d => fbcField hdr d 15 12)) + e * w
      let r := if mode = 0 then 0 else
        listSum ((List.range w).map (fun i => boolNat (bitAt (body ((start + i) / 8)) ((start + i) % 8)) * 2 ^ i))
      let v := fbcField hdr c 11 0 + r * 2 ^ sh + (if 0 < sh then 2 ^ (sh - 1) else 0)
      min v (2 ^ nthD bits c 0 - 1))

/-- Slot size of a plane's tiles (Table CMP-3). -/
def fbcSlot (fmt : Nat) (pl : Plane) : Nat := 64 * elemBytes fmt pl

/-- A layer's surface as a pass reads it: context, format, compression, addresses, strides and size. -/
structure Surface where
  ctx : Nat
  fmt : Nat
  fbc : Bool
  maxShift : Nat
  addr : List Nat
  stride : List Nat
  w : Nat
  h : Nat
  deriving DecidableEq, Repr

def State.surface (s : State) (cs : List Nat) (n : Nat) : Surface :=
  { ctx := (s.holder n).getD devQ, fmt := s.sg cs (CMP_LYR_FORMAT.FMT n), fbc := s.sflag cs (CMP_LYR_FORMAT.FBC n),
    maxShift := s.sg cs (CMP_LYR_FORMAT.FBC_MAX_SHIFT n),
    addr := (List.range 4).map (fun k => s.sva cs (CMP_LYR_ADDR_LO.VA_LOW n k) (CMP_LYR_ADDR_HI.VA_HIGH n k)),
    stride := [64 * s.sg cs (CMP_LYR_STRIDE.STRIDE0 n), 64 * s.sg cs (CMP_LYR_STRIDE.STRIDE1 n)],
    w := s.sg cs (CMP_LYR_SURF.W_M1 n) + 1, h := s.sg cs (CMP_LYR_SURF.H_M1 n) + 1 }

/-- Elements of a row and rows of a plane (R141, R144). -/
def Surface.planeW (f : Surface) : Plane → Nat
  | .chroma => divUp f.w 2
  | _ => f.w
def Surface.planeH (f : Surface) : Plane → Nat
  | .chroma => if fmt420 f.fmt then divUp f.h 2 else f.h
  | _ => f.h

/-- HDR and BODY of an FBC plane (Table CMP-3). -/
def Surface.fbcBase (f : Surface) : Plane → Nat × Nat
  | .chroma => (nthD f.addr 2 0, nthD f.addr 3 0)
  | _ => (nthD f.addr 0 0, nthD f.addr 1 0)

/-- The tile header of element (x, y)'s tile. -/
def State.fbcHeader (s : State) (f : Surface) (pl : Plane) (tile : Nat) : Nat := s.vle f.ctx ((f.fbcBase pl).1 + 16 * tile) 16

/-- The channels of element (x, y) of a plane; none in an invalid FBC tile. -/
def State.element (s : State) (f : Surface) (pl : Plane) (x y : Nat) : Option (List Nat) :=
  if f.fbc then
    let tile := y / 4 * divUp (f.planeW pl) 16 + x / 16
    let hdr := s.fbcHeader f pl tile
    let slot := fbcSlot f.fmt pl
    if fbcValid (chanBits f.fmt pl) slot f.maxShift hdr then
      some (fbcElem f.fmt pl hdr (y % 4 * 16 + x % 16) (fun i => s.vbyte f.ctx ((f.fbcBase pl).2 + slot * tile + i)))
    else none
  else
    let n := elemBytes f.fmt pl
    let base := match pl with
      | .chroma => nthD f.addr 1 0 + y * nthD f.stride 1 0
      | _ => nthD f.addr 0 0 + y * nthD f.stride 0 0
    some (unpackElem f.fmt (s.vle f.ctx (base + x * n) n) pl)

/-! ### Stage 2: code values and alpha (R140, R142) -/

def alphaOf (fmt : Nat) (ch : List Nat) : Nat :=
  if fmt = 2 then (nthD ch 3 0 * 65536 + 127) / 255
  else if fmt = 3 then nthD [0, 21845, 43691, 65536] (nthD ch 3 0) 0
  else 65536

/-- The chroma rows that luma rows `a` to `b` need (R142): a pair row of YC420 lies between two luma rows, so an even row needs
the pair row above it too. -/
def Surface.chromaRows (f : Surface) (a b : Nat) : Nat × Nat :=
  if fmt420 f.fmt then ((a - 1) / 2, min ((b + 1) / 2) (f.planeH .chroma - 1)) else (a, b)

/-- Chroma samples with weights in eighths around a luma pixel: horizontally even columns take pair x / 2 whole, odd
columns half of two; vertically a YC420 row takes three quarters of its own pair row and a quarter of the other
neighbour. Edge samples repeat (R142). -/
def Surface.chromaTaps (f : Surface) (x y : Nat) : List (Nat × Nat × Nat) :=
  let cw := f.planeW .chroma
  let ch := f.planeH .chroma
  let k := x / 2
  let hs := if x % 2 = 0 then [(k, 2)] else [(k, 1), (min (k + 1) (cw - 1), 1)]
  let vs := if fmt420 f.fmt then
      let j := y / 2
      if y % 2 = 0 then [(j - 1, 1), (j, 3)] else [(j, 3), (min (j + 1) (ch - 1), 1)]
    else [(y, 4)]
  vs.flatMap (fun v => hs.map (fun h => (h.1, v.1, h.2 * v.2)))

/-- Three code values and the alpha of a surface pixel; none where an invalid tile carries it. -/
def State.codeAt (s : State) (f : Surface) (x y : Nat) : Option (List Nat × Nat) :=
  if fmtPlanar f.fmt then
    let n := fmtDepth f.fmt
    match s.element f .luma x y with
    | none => none
    | some l =>
      let taps := (f.chromaTaps x y).map (fun t => (s.element f .chroma t.1 t.2.1, t.2.2))
      if taps.any (fun t => t.1.isNone) then none
      else
        let ch := fun (c : Nat) => (listSum (taps.map (fun t => rep16 n (nthD (t.1.getD []) c 0) * t.2)) + 4) / 8
        some ([rep16 n (nthD l 0 0), ch 0, ch 1], 65536)
  else
    match s.element f .packed x y with
    | none => none
    | some e =>
      let b := chanBits f.fmt .packed
      some ((List.range 3).map (fun c => rep16 (nthD b c 8) (nthD e c 0)), alphaOf f.fmt e)

/-- Stages 2 to 4: premultiplied working channels, marker level and alpha of a crop pixel (R137, R151). -/
def State.sample (s : State) (cs : List Nat) (n : Nat) (f : Surface) (x y : Nat) : List Nat × Nat :=
  match s.codeAt f x y with
  | none => ([0, 0, 0, 0], 0)
  | some (code, a) =>
    let st := s.layerStage cs n code
    ((st.1 ++ [st.2]).map (fun c => (c * a + 32768) / 65536), a)

/-! ### Stage 5: scaling (R148, R149) -/

/-- Tap sum rounded and saturated (R149). -/
def tapSum (top : Nat) (l : List (Int × Nat)) : Nat :=
  (clampI 0 top (fdiv (l.foldl (fun a t => a + t.1 * (t.2 : Int)) 0 + 512) 1024)).toNat

/-- Position in the source: integer part and phase (R148). -/
def scalePos (init : Int) (step k : Nat) : Int × Nat :=
  let p := init + (k * step : Nat)
  (fdiv p 65536, (fdiv p 1024 % 64).toNat)

def clampIdx (top : Nat) (i : Int) : Nat := (clampI 0 ((top - 1 : Nat) : Int) i).toNat

/-- Filter a list of samples per component: four colour and marker channels, then alpha. -/
def filterSamples (taps : List Int) (smp : List (List Nat × Nat)) : List Nat × Nat :=
  ((List.range 4).map (fun c => tapSum (2 ^ 28 - 1) (taps.zip (smp.map (fun t => nthD t.1 c 0)))),
   tapSum 65536 (taps.zip (smp.map (·.2))))

/-- A layer's pixel at destination (dx, dy), after scaling. -/
def State.scaled (s : State) (cs : List Nat) (n dx dy : Nat) : List Nat × Nat :=
  let f := s.surface cs n
  let cx := s.sg cs (CMP_LYR_CROP_XY.X n)
  let cy := s.sg cs (CMP_LYR_CROP_XY.Y n)
  let cw := s.cropW cs n
  let ch := s.cropH cs n
  let ph := scalePos (s.initH cs n) (s.stepH cs n) dx
  let pv := scalePos (s.initV cs n) (s.stepV cs n) dy
  let hb := s.sg cs (CMP_LYR_CTRL.H_BANK n)
  let vb := s.sg cs (CMP_LYR_CTRL.V_BANK n)
  let hTaps := (List.range 6).map (fun k => coefIn (s.coefs cs) 0 hb ph.2 k)
  let vTaps := (List.range 4).map (fun k => coefIn (s.coefs cs) 1 vb pv.2 k)
  let row := fun (y : Nat) => filterSamples hTaps ((List.range 6).map (fun (k : Nat) =>
    s.sample cs n f (cx + clampIdx cw (ph.1 - 2 + (k : Int))) y))
  filterSamples vTaps ((List.range 4).map (fun (k : Nat) => row (cy + clampIdx ch (pv.1 - 1 + (k : Int)))))

/-! ### Stage 6: blending (R151 to R153) -/

def blendOne (mode d cb a : Nat) : Nat :=
  if mode = 0 then sat820 ((cb : Int) + ((d * (65536 - a) + 32768) / 65536 : Nat))
  else if mode = 1 then sat820 ((d + cb : Nat) : Int)
  else sat820 (fdiv ((d : Int) * ((2 : Int) ^ 20 - (a * 16 : Nat) + (cb : Int)) + 2 ^ 19) (2 ^ 20))

/-- One layer over the destination: three colours and M. -/
def State.blendLayer (s : State) (cs : List Nat) (o x y : Nat) (d : List Nat) (n : Nat) : List Nat :=
  let px : Int := s.winX cs o + (x : Int) - s.lyrX cs n
  let py : Int := s.winY cs o + (y : Int) - s.lyrY cs n
  if px < 0 ∨ py < 0 ∨ (s.lyrW cs n : Int) ≤ px ∨ (s.lyrH cs n : Int) ≤ py ∨ s.offAtLine n o y then d
  else
    let t := s.scaled cs n px.toNat py.toNat
    let pa := s.sg cs (CMP_LYR_ALPHA.PLANE_ALPHA n)
    let a := (t.2 * pa + 32768) / 65536
    let cb := fun (c : Nat) => (nthD t.1 c 0 * pa + 32768) / 65536
    let mode := s.sg cs (CMP_LYR_CTRL.MODE n)
    if s.isMarker n then d.take 3 ++ [blendOne mode (nthD d 3 0) (cb 3) a]
    else (List.range 3).map (fun c => blendOne mode (nthD d c 0) (cb c) a) ++ [nthD d 3 0]

/-- The picture after blending: red, green, blue and M of a composing output's pixel. -/
def State.blended (s : State) (cs : List Nat) (o x y : Nat) : List Nat :=
  (s.blendOrder cs o).foldl (s.blendLayer cs o x y) [0, 0, 0, 0]

/-! ### Stages 7 and 8: warp and edge blend (R155, R156) -/

/-- A fraction n / d rounded to 1/64. -/
def frac64 (n d : Nat) : Nat := divRound (n * 64) d

/-- DX and DY at a pixel, times 64 × 64 (R155, steps 1 and 2). -/
def meshAt (m : List Byte) (w h x y : Nat) : Int × Int :=
  let un := (2 * x + 1) * 128
  let vn := (2 * y + 1) * 72
  let i := min (un / (2 * w)) 127
  let j := min (vn / (2 * h)) 71
  let fu : Int := frac64 (un - i * (2 * w)) (2 * w)
  let fv : Int := frac64 (vn - j * (2 * h)) (2 * h)
  let mix := fun (f : Int × Int → Int) =>
    (64 - fu) * (64 - fv) * f (meshNode m i j) + fu * (64 - fv) * f (meshNode m (i + 1) j) +
      (64 - fu) * fv * f (meshNode m i (j + 1)) + fu * fv * f (meshNode m (i + 1) (j + 1))
  (mix (·.1), mix (·.2))

/-- The warped picture (R155, steps 3 and 4); positions in 2^-18 pixel, weights rounded to 1/64. -/
def State.warped (s : State) (cs : List Nat) (o x y : Nat) : List Nat :=
  if s.sflag cs (CMP_OUT_CTRL.WARP_EN o) then
    let w := s.outW o
    let h := s.outH o
    let d := meshAt (s.meshOf cs o) w h x y
    let sx := fdivRound ((x : Int) * 2 ^ 18 + d.1) (2 ^ 12)
    let sy := fdivRound ((y : Int) * 2 ^ 18 + d.2) (2 ^ 12)
    let ix := fdiv sx 64
    let iy := fdiv sy 64
    let fx := (sx - ix * 64).toNat
    let fy := (sy - iy * 64).toNat
    let at_ := fun (a b : Int) =>
      if a < 0 ∨ b < 0 ∨ (w : Int) ≤ a ∨ (h : Int) ≤ b then [0, 0, 0, 0] else s.blended cs o a.toNat b.toNat
    let p00 := at_ ix iy
    let p10 := at_ (ix + 1) iy
    let p01 := at_ ix (iy + 1)
    let p11 := at_ (ix + 1) (iy + 1)
    (List.range 4).map (fun c =>
      (nthD p00 c 0 * (64 - fx) * (64 - fy) + nthD p10 c 0 * fx * (64 - fy) + nthD p01 c 0 * (64 - fx) * fy +
        nthD p11 c 0 * fx * fy + 2048) / 4096)
  else s.blended cs o x y

/-- The context whose space holds an output's mesh, mask and writeback. -/
def State.tblCtx (s : State) (cs : List Nat) (o : Nat) : Nat := s.sg cs (CMP_OUT_CTRL.TBL_CTX o)

/-- The picture after edge blend: what stage 9 takes. -/
def State.picture (s : State) (cs : List Nat) (o x y : Nat) : List Nat :=
  let p := s.warped cs o x y
  if s.sflag cs (CMP_OUT_CTRL.BLEND_EN o) then
    let va := s.sva cs (CMP_OUT_MASK_ADDR_LO.VA_LOW o) (CMP_OUT_MASK_ADDR_HI.VA_HIGH o)
    let m := s.vbyte (s.tblCtx cs o) (va + y * 64 * s.sg cs (CMP_OUT_MASK_STRIDE.STRIDE o) + x)
    let g := (m * 65536 + 127) / 255
    (p.take 3).map (fun c => (c * g + 32768) / 65536) ++ [nthD p 3 0]
  else p

/-- Levels of one view of an output, a follower's through its own output stage (R135, R182). -/
def State.levels (s : State) (cs : List Nat) (o v x y : Nat) : List Nat :=
  let p := s.picture cs (s.leaderOf o) x y
  s.outputStage cs o v x y (p.take 3) (nthD p 3 0)

/-- The plane words of an array output that a pass forms (R197, R201). `patch` replaces the levels of step 5: full
drive for the primaries of its mask and 0 for the others (R405). -/
def State.formImage (s : State) (cs : List Nat) (throttle : Bool) (patch : Option Nat) (o : Nat) : Tbl Nat :=
  (s.setsOf cs o).flatMap (fun k =>
    let p := s.setPrim cs k
    let level := fun (x y : Nat) => match patch with
      | some m => if bitAt m p then 2 ^ 20 - 1 else 0
      | none => nthD (s.levels cs o (s.sourceView cs k) x y) p 0
    setWords (fun x y => s.pattern cs throttle k x y (level x y)) (s.outW o) (s.outH o) (s.wpr o) k
      (min 32 (s.setPlanes cs k + s.setTb cs k)))

/-! ### Invalid tiles that a pass reads (R147) -/

/-- Crop indices that a destination range reads, clipped to the crop. -/
def readRange (init : Int) (step crop lo hi before after : Nat) : Nat × Nat :=
  (clampIdx crop ((scalePos init step lo).1 - before), clampIdx crop ((scalePos init step hi).1 + after))

/-- Invalid tiles of a layer among those that an output's pass reads, with their indices; chroma tiles follow the luma
tiles' (R147). -/
def State.badTiles (s : State) (cs : List Nat) (n o : Nat) : List Nat :=
  let f := s.surface cs n
  if !f.fbc then []
  else
    let x0 := (max 0 (s.winX cs o - s.lyrX cs n)).toNat
    let y0 := (max 0 (s.winY cs o - s.lyrY cs n)).toNat
    let x1 := (min ((s.lyrW cs n : Int) - 1) (s.winX cs o + (s.outW o : Int) - 1 - s.lyrX cs n)).toNat
    let y1 := (min ((s.lyrH cs n : Int) - 1) (s.winY cs o + (s.outH o : Int) - 1 - s.lyrY cs n)).toNat
    let rx := readRange (s.initH cs n) (s.stepH cs n) (s.cropW cs n) x0 x1 2 3
    let ry := readRange (s.initV cs n) (s.stepV cs n) (s.cropH cs n) y0 y1 1 2
    let cx := s.sg cs (CMP_LYR_CROP_XY.X n)
    let cy := s.sg cs (CMP_LYR_CROP_XY.Y n)
    let tilesOf := fun (pl : Plane) (ax ay bx by_ : Nat) =>
      let tx := divUp (f.planeW pl) 16
      ((List.range (by_ / 4 + 1 - ay / 4)).flatMap (fun j => (List.range (bx / 16 + 1 - ax / 16)).map (fun i =>
        (ay / 4 + j) * tx + ax / 16 + i))).filter (fun t =>
          !fbcValid (chanBits f.fmt pl) (fbcSlot f.fmt pl) f.maxShift (s.fbcHeader f pl t))
    if fmtPlanar f.fmt then
      tilesOf .luma (cx + rx.1) (cy + ry.1) (cx + rx.2) (cy + ry.2) ++
        tilesOf .chroma ((cx + rx.1) / 2) (f.chromaRows (cy + ry.1) (cy + ry.2)).1
          (min ((cx + rx.2 + 1) / 2) (f.planeW .chroma - 1)) (f.chromaRows (cy + ry.1) (cy + ry.2)).2
    else tilesOf .packed (cx + rx.1) (cy + ry.1) (cx + rx.2) (cy + ry.2)

/-! ### Writeback (R159 to R161) -/

/-- A component in units of 2^-96 of full scale by WB_TF. -/
def State.wbEncode (s : State) (cs : List Nat) (o v : Nat) : Nat :=
  encodeFix (s.sg cs (CMP_OUT_CTRL.WB_TF o)) (s.sg cs COL_PQ_REF.CDM2) v

/-- A 10-bit code of offset + scale × value, the value in units of 2^-96 (signed) times 10^-4 of its weights. -/
def code10 (off scale : Int) (num den : Int) : Nat := (clampI 0 1023 (off + fdivRound (scale * num) den)).toNat

/-- The tapped picture of a writeback frame. -/
def State.wbTap (s : State) (cs : List Nat) (o x y : Nat) : List Nat :=
  ((if s.sflag cs (CMP_OUT_CTRL.WB_TAP o) then s.picture cs o x y else s.blended cs o x y).take 3).map (s.wbEncode cs o)

/-- Luma and the two colour differences of a pixel, narrow range, from R', G', B' (R160). -/
def ycCodes (bt2020 : Bool) (e : List Nat) : Nat × Int × Int :=
  let kr : Int := if bt2020 then 2627 else 2126
  let kb : Int := if bt2020 then 593 else 722
  let r : Int := (nthD e 0 0 : Nat)
  let g : Int := (nthD e 1 0 : Nat)
  let b : Int := (nthD e 2 0 : Nat)
  let y := kr * r + (10000 - kr - kb) * g + kb * b
  (code10 64 876 y (10000 * 2 ^ 96), 512 + fdivRound (896 * (10000 * b - y)) (2 * (10000 - kb) * 2 ^ 96),
    512 + fdivRound (896 * (10000 * r - y)) (2 * (10000 - kr) * 2 ^ 96))

/-- The element (x, y) of a writeback plane, as channels. -/
def State.wbElem (s : State) (cs : List Nat) (o : Nat) (pl : Plane) (x y : Nat) : List Nat :=
  let bt := s.sflag cs (CMP_OUT_CTRL.WB_YC2020 o)
  match pl with
  | .packed => (s.wbTap cs o x y).map (fun v => (v * 1023 + 2 ^ 95) / 2 ^ 96) ++ [3]
  | .luma => [(ycCodes bt (s.wbTap cs o x y)).1]
  | .chroma =>
    let p := ycCodes bt (s.wbTap cs o (2 * x) y)
    let q := ycCodes bt (s.wbTap cs o (min (2 * x + 1) (s.outW o - 1)) y)
    [(clampI 0 1023 (fdivRound (p.2.1 + q.2.1) 2)).toNat, (clampI 0 1023 (fdivRound (p.2.2 + q.2.2) 2)).toNat]

/-- The plain bytes of a writeback element: PK32W, or YC422-10. -/
def packElem (pl : Plane) (ch : List Nat) : List Byte :=
  match pl with
  | .packed => leBytes 4 (nthD ch 0 0 + nthD ch 1 0 * 2 ^ 10 + nthD ch 2 0 * 2 ^ 20 + nthD ch 3 0 * 2 ^ 30)
  | _ => ch.flatMap (fun v => leBytes 2 (v * 64))

/-- Bits needed for a value. -/
def bitWidth (v : Nat) : Nat := ((List.range 17).find? (fun k => v < 2 ^ k)).getD 16

/-- An FBC tile encoded with SHIFT = 0 (R160): its header and its body. -/
def fbcEncode (fmt : Nat) (pl : Plane) (els : List (List Nat)) : Nat × List Byte :=
  let bits := chanBits fmt pl
  let slot := fbcSlot fmt pl
  let col := fun (c : Nat) => els.map (fun e => nthD e c 0)
  let base := fun (c : Nat) => listMin (2 ^ 16) (col c)
  let width := fun (c : Nat) => bitWidth (listMax ((col c).map (fun v => v - base c)))
  let ks := List.range bits.length
  let sumW := listSum (ks.map width)
  let hdr := fun (mode size : Nat) (w : Nat → Nat) =>
    mode + size * 4 + listSum (ks.map (fun c => ((if mode = 2 then 0 else base c) + w c * 4096) * 2 ^ (8 + 24 * c)))
  if sumW = 0 then (hdr 0 0 (fun _ => 0), [])
  else
    let blocks := divUp (64 * sumW) 512
    if 8 * sumW < slot then
      let stream := ks.flatMap (fun c => els.flatMap (fun e => (List.range (width c)).map (fun i => bitAt (nthD e c 0 - base c) i)))
      (hdr 1 (blocks - 1) width, (List.range (blocks * 64)).map (fun b =>
        BitVec.ofNat 8 (maskOf 8 (fun i => nthD stream (8 * b + i) false))))
    else (hdr 2 (slot / 64 - 1) (fun _ => 0), els.flatMap (packElem pl))

/-- The writes of one plane of a writeback frame: addresses and bytes. -/
def State.wbPlane (s : State) (cs : List Nat) (o : Nat) (pl : Plane) (w h a0 a1 stride : Nat) : List (Nat × List Byte) :=
  let fmt := if s.sflag cs (CMP_OUT_CTRL.WB_FMT o) then 8 else 3
  if s.sflag cs (CMP_OUT_CTRL.WB_FBC o) then
    let tx := divUp w 16
    (List.range (divUp h 4 * tx)).flatMap (fun t =>
      let els := (List.range 64).map (fun e =>
        s.wbElem cs o pl (min (t % tx * 16 + e % 16) (w - 1)) (min (t / tx * 4 + e / 16) (h - 1)))
      let r := fbcEncode fmt pl els
      [(a0 + 16 * t, leBytes 16 r.1), (a1 + fbcSlot fmt pl * t, r.2)])
  else
    (List.range h).map (fun y => (a0 + y * stride, (List.range w).flatMap (fun x => packElem pl (s.wbElem cs o pl x y))))

/-- Every write of a writeback frame (R159, R160). The spec gives two writeback addresses and not where the headers and
bodies of an FBC frame's chroma plane lie: those two addresses are free values (log 27). -/
def State.wbWrites (s : State) (cs : List Nat) (o : Nat) : List (Nat × List Byte) :=
  let a := fun k => s.sva cs (CMP_OUT_WB_ADDR_LO.VA_LOW o k) (CMP_OUT_WB_ADDR_HI.VA_HIGH o k)
  let st0 := 64 * s.sg cs (CMP_OUT_WB_STRIDE.STRIDE0 o)
  let st1 := 64 * s.sg cs (CMP_OUT_WB_STRIDE.STRIDE1 o)
  let w := s.outW o
  let h := s.outH o
  if s.sflag cs (CMP_OUT_CTRL.WB_FMT o) then
    s.wbPlane cs o .luma w h (a 0) (a 1) st0 ++
      (if s.sflag cs (CMP_OUT_CTRL.WB_FBC o) then 
        s.wbPlane cs o .chroma (divUp w 2) h (Config.wbChroma 0 (a 0) (a 1)).toNat (Config.wbChroma 1 (a 0) (a 1)).toNat 0
       else s.wbPlane cs o .chroma (divUp w 2) h (a 1) 0 st1)
  else s.wbPlane cs o .packed w h (a 0) (a 1) st0

/-- Bytes written through a context's mappings: none where a page is missing or read-only (R161). -/
def State.vwrite (s : State) (c va : Nat) : List Byte → Option State
  | [] => some s
  | b :: r =>
    match s.translate c va true with
    | .error _ => none
    | .ok m => if m.kind = .loc then (s.memWrite (m.dpa va) [b]).vwrite c (va + 1) r
        else if m.kind = .host then (s.send (.hostWrite (c / 4) (s.pasid c) (m.dpa va) [b])).vwrite c (va + 1) r
        else none

/-- A frame's writes in order, stopping at the first that fails: the state and whether all went. -/
def State.vwriteAll (s : State) (c : Nat) : List (Nat × List Byte) → State × Bool
  | [] => (s, true)
  | w :: r =>
    match s.vwrite c w.1 w.2 with
    | none => (s, false)
    | some t => t.vwriteAll c r

end Sys2Proof.Machine
end

