-- ==== Sys2Proof/Machine/Form.lean ====
section
/-! DEFINITION. Forming passes and what they fill: queues, live and updated layers, layers that underrun, picture
results, table loads and book builds, writeback frames, tails, plane loads and the store scrub (spec/06, spec/07, spec/08:
R94, R136, R154, R159 to R164, R174, R179, R181, R183, R195, R196, R198, R200 to R210; R240 to R246, R420 to R423). -/
namespace Sys2Proof.Machine

/-! ### The pass queues (R94) -/

def State.passesOf (s : State) (o : Nat) : List Pass := tget [] s.cmp.passes o

def State.setPasses (s : State) (o : Nat) (l : List Pass) : State :=
  { s with cmp := { s.cmp with passes := if l.isEmpty then tdel s.cmp.passes o else tset s.cmp.passes o l } }

/-- Whether a tail runs for an output or one of its followers (R207). -/
def State.tailOn (s : State) (o : Nat) : Bool := (s.withFollowers o).any s.pln.tailRunning.contains

/-- FORMING, REPAIR and CMP_FORMING of a composing output as its queue stands; a tail forms too. -/
def State.showForming (s : State) (o : Nat) : State :=
  let l := s.passesOf o
  let on := l.any (fun p => p.running && !p.complete) || s.tailOn o
  let s1 := (s.putB (CMP_OUT_STATUS.FORMING o) on).putB (CMP_OUT_STATUS.REPAIR o) (l.any (fun p => p.kind == .repair))
  s1.put CMP_FORMING.OUTPUTS (setBit (s1.get CMP_FORMING.OUTPUTS) o on)

/-- COL_STATUS.DRIFT of an output: a drift pass waits or runs, or a table-mode drift event stands (R185). -/
def State.showDrift (s : State) (o : Nat) : State :=
  let on := (s.passesOf o).any (fun p => p.kind == .drift) || s.col.driftRaised.contains o
  s.put COL_STATUS.DRIFT (setBit (s.get COL_STATUS.DRIFT) o on)

/-! ### Rectangles (R420 to R423) -/

/-- Keys of the rectangles of an output: 16 output rectangles, then 4 writeback rectangles. -/
abbrev rectKey (o r : Nat) : Nat := o * 32 + r

def rectCtrl (o r : Nat) : Nat := if r < 16 then INT_CRC_CTRL o r else INT_WCRC_CTRL o (r - 16)
def rectReg (o r off : Nat) : Nat := rectCtrl o r + off

def State.rect (s : State) (o r : Nat) : RectSt := tget RectSt.init s.int.rects (rectKey o r)

def State.setRect (s : State) (o r : Nat) (x : RectSt) : State :=
  { s with int := { s.int with rects := tset s.int.rects (rectKey o r) x } }

/-- Rectangles that an output has: writeback ones only with writeback capability. -/
def State.rectsOf (s : State) (o : Nat) : List Nat :=
  if !s.outExists o then [] else List.range (if s.flag (CMP_OUT_CUT.WB_CAP o) then 20 else 16)

/-- A rectangle extends beyond its output, or is a YC422-10 writeback rectangle with an odd X or W (R423). -/
def State.rectBad (s : State) (o r xy wh : Nat) : Bool :=
  let x := bitsOf xy 12 0
  let w := bitsOf wh 12 0 + 1
  decide (s.outW o < x + w) || decide (s.outH o < bitsOf xy 28 16 + bitsOf wh 28 16 + 1) ||
    (decide (16 ≤ r) && s.actFlag (CMP_OUT_CTRL.WB_FMT o) && (x % 2 == 1 || w % 2 == 1))

/-- STATE of a rectangle (Table INT-9). -/
def State.showRect (s : State) (o r : Nat) : State :=
  let st := if s.rdN (rectCtrl o r) % 2 = 0 then 0
    else if s.isFollower o then 3
    else if s.rectBad o r (s.rdN (rectReg o r 4)) (s.rdN (rectReg o r 8)) then 2 else 1
  s.put ⟨rectReg o r 0x1C, 2, 0⟩ st

/-- A pass starts: the rectangles take the values that it keeps to its end (R423). -/
def State.latchRects (s : State) (o : Nat) : State :=
  foldOver (s.rectsOf o) (fun r t =>
    if t.rdN (rectCtrl o r) % 2 = 0 then t
    else t.setRect o r { t.rect o r with
      ctrl := t.rdN (rectCtrl o r)
      xy := t.rdN (rectReg o r 4)
      wh := t.rdN (rectReg o r 8)
      next := none }) s

/-- The pixels of a rectangle in raster order. -/
def rectPixels (xy wh : Nat) : List (Nat × Nat) :=
  (List.range (bitsOf wh 28 16 + 1)).flatMap (fun j => (List.range (bitsOf wh 12 0 + 1)).map (fun i =>
    (bitsOf xy 12 0 + i, bitsOf xy 28 16 + j)))

/-- The bytes that a pixel of an output rectangle feeds (R421). -/
def State.rectBytes (s : State) (cs : List Nat) (o ctrl x y : Nat) : List Byte :=
  let p := if bitAt ctrl 1 then s.picture cs o x y else s.blended cs o x y
  (p.take (if bitAt ctrl 2 then 4 else 3)).flatMap (leBytes 4)

/-- The bytes that a pixel of a writeback rectangle feeds; in YC422-10 an even pixel feeds its pair (R422). -/
def State.wrectBytes (s : State) (cs : List Nat) (o x y : Nat) : List Byte :=
  if s.sflag cs (CMP_OUT_CTRL.WB_FMT o) then
    (if x % 2 = 1 then []
     else packElem .luma (s.wbElem cs o .luma x y) ++ packElem .luma (s.wbElem cs o .luma (x + 1) y) ++
       packElem .chroma (s.wbElem cs o .chroma (x / 2) y))
  else packElem .packed (s.wbElem cs o .packed x y)

/-- The CRC of a rectangle over the picture that a pass forms; none for a rectangle that is off, bad or a follower's. -/
def State.rectCrc (s : State) (cs : List Nat) (o r : Nat) : Option Nat :=
  let x := s.rect o r
  if x.ctrl % 2 = 0 || s.isFollower o || s.rectBad o r x.xy x.wh then none
  else some (crc32 ((rectPixels x.xy x.wh).flatMap (fun p =>
    if r < 16 then s.rectBytes cs o x.ctrl p.1 p.2 else s.wrectBytes cs o p.1 p.2)))

/-- A completed pass leaves the CRCs of the output rectangles to apply with it, and with `wb` those of a writeback
frame that is complete; a colour session's patterns leave none (R420, R422). -/
def State.rectResults (s : State) (cs : List Nat) (o : Nat) (wb : Bool) : State :=
  if s.cal.pattern.isSome then s
  else foldOver ((s.rectsOf o).filter (fun r => decide (r < 16) || wb)) (fun r t =>
    t.setRect o r { t.rect o r with next := t.rectCrc cs o r }) s

/-- An incomplete writeback frame gives no result (R422, R425). -/
def State.rectNoWb (s : State) (o : Nat) : State :=
  foldOver (((s.rectsOf o).filter (fun r => decide (16 ≤ r)))) (fun r t =>
    t.setRect o r { t.rect o r with
      next := none
      hasResult := false }) s

/-- The picture of a pass applies: its CRCs become the results in force, with the CFN in force. A result of values that
the rectangle no longer has is not kept. -/
def State.rectApply (s : State) (o cfn : Nat) : State :=
  foldOver (s.rectsOf o) (fun r t =>
    let x := t.rect o r
    match x.next with
    | none => t
    | some c =>
      let same := t.rdN (rectCtrl o r) == x.ctrl && t.rdN (rectReg o r 4) == x.xy && t.rdN (rectReg o r 8) == x.wh
      if same then
        ((t.setRect o r { x with
          next := none
          hasResult := true }).wrN (rectReg o r 0x14) c).wrN (rectReg o r 0x18) cfn
      else t.setRect o r { x with next := none }) s

/-! ### Starting a pass (R94, R105, R183, R200) -/

def State.cm (s : State) (c : Nat) : Option CommitSt := tfind s.hif.commits c

/-- The target has been reached at the boundary that starts LF `lfn` (R95). -/
def CommitSt.reached (x : CommitSt) (lfn : Nat) : Bool := x.target.all (fun t => lfnAtOrAfter lfn t)

def State.nextLfn (s : State) : Nat := (s.tim.lfn + 1) % 2 ^ 32

/-- The target that a pass waits for beyond the next boundary: that of a commit in it (R95). -/
def State.passTarget (s : State) (p : Pass) : Option Nat :=
  p.commits.findSome? (fun c => (s.cm c).bind (fun x => if x.reached s.nextLfn then none else x.target))

/-- A pass as it stands before it starts. -/
def Pass.unstarted (kind : PassKind) (commits : List Nat) (now : Nat) : Pass :=
  { kind := kind, commits := commits, running := false, complete := false, throttle := false, missing := [], skip := [], gone := [],
    leads := [], voided := false, started := now }

/-- The order in which passes may start: admission order, but one that waits for a later target never goes before one that does
not (Table HIF-9). -/
def State.passOrder (s : State) (l : List Pass) : List Pass :=
  match l.find? (fun p => (s.passTarget p).isNone) with
  | some p => p :: l.erase p
  | none => l

/-- The next pass of an output starts (R94): it takes every commit admitted on the output, S is computed, layers that are
off stay off from its first line, and UPDATE clears where no other pass for it waits. A reset's pass applies without waiting
for a commit's conditions and includes none (R105). Commits that wait for different targets do not share a pass: none delays
another (Table HIF-9; DESIGN CHOICE, log 122). -/
def State.startPass (s : State) (o : Nat) : State :=
  match s.passOrder (s.passesOf o) with
  | [] => s
  | h :: rest =>
    let alone := h.kind == .reset
    let joins := fun (p : Pass) => !alone && s.passTarget p == s.passTarget h
    let cs := (rest.filter joins).foldl (fun (l : List Nat) (p : Pass) => l ++ p.commits.filter (fun c => !l.contains c)) h.commits
    let rest1 := (rest.filter (fun (p : Pass) => !joins p || (p.kind != .commit && p.kind != .drift))).map (fun (p : Pass) =>
      { p with commits := p.commits.filter (fun c => !cs.contains c) })
    let parts := s.outLayers cs o
    let skip := parts.filter s.inReset
    let off := parts.filter (fun n => s.isOff n o)
    let p : Pass :=
      { Pass.unstarted h.kind cs s.now with
        running := true
        throttle := s.seq.throttled
        missing := off
        gone := off.map (fun n => (n, 0))
        skip := skip }
    let s1 := s.setPasses o (p :: rest1)
    let s2 := { s1 with cmp := { s1.cmp with
      offs := s1.cmp.offs.map (fun (e : Nat × OffSt) => if e.1 % 32 = o then (e.1, { e.2 with line := 0 }) else e) } }
    let s3 := foldOver (s2.withFollowers o) (fun f t =>
      let u := t.solveOutput cs f
      if f < 16 then (u.put (PLN_OUT_STATUS.BACK_COMPLETE f) 0).put (PLN_OUT_STATUS.LEAD_VALID f) 0 else u) s2
    let s4 := foldOver ((s3.outLayers cs o).filter (fun n => s3.flag (CMP_LYR_LIVE.UPDATE n))) (fun n t =>
      let waits := (t.spans cs n).any (fun q => (t.passesOf q).any (fun (x : Pass) => x.kind == .update && !x.running))
      if waits then t else t.put (CMP_LYR_LIVE.UPDATE n) 0) s3
    let s5 := if h.kind == .drift then foldOver (s4.withFollowers o) (fun f (t : State) => t.inc (COL_OUT_STATUS.DRIFT_PASSES f)) s4
      else s4
    ((s5.latchRects o).showForming o).showDrift o

/-- A complete pass that waits for a later target gives way to one that does not: it is formed again later (Table HIF-9; DESIGN
CHOICE, log 122). -/
def State.givesWay (s : State) (h : Pass) (rest : List Pass) : Bool :=
  h.complete && (s.passTarget h).isSome && rest.any (fun p => (s.passTarget p).isNone)

/-- Start the next pass of an output if none stands before it; none starts in a shutdown (R385, R390). -/
def State.pump (s : State) (o : Nat) : State :=
  match s.passesOf o with
  | [] => s
  | h :: rest =>
    if s.tailOn o || s.get THM_STATUS.STATE != 0 then s
    else if !h.running then s.startPass o
    else if s.givesWay h rest then (s.setPasses o (Pass.unstarted h.kind h.commits s.now :: rest)).startPass o
    else s

/-- The composing array outputs. -/
def State.hosts (s : State) : List Nat := idxWhere arrayOutputs (fun o => s.outExists o && !s.isFollower o)

/-- A pass is asked for on an output, with the commits it carries, and starts at once where none stands before it. A
second request of one kind joins a pass of that kind which has not started. -/
def State.askPass (s : State) (kind : PassKind) (cs : List Nat) (o : Nat) : State :=
  let l := s.passesOf o
  if kind != .commit && l.any (fun p => p.kind == kind && !p.running) then s
  else
    (((s.setPasses o (l ++ [Pass.unstarted kind cs s.now])).pump o).showForming o).showDrift o

/-- What is left of a pass once a commit of it has failed (R94, R97, R105): one that has not started, or has formed, is formed for
the others alone, and goes where there are none. One that runs is never restarted: it runs to its end for nothing, before
the pass of the others (DESIGN CHOICE, log 122). -/
def Pass.without (p : Pass) (c now : Nat) : List Pass :=
  let rest := p.commits.filter (fun k => k != c)
  let again := if p.kind == .commit && rest.isEmpty then [] else [Pass.unstarted p.kind rest now]
  if !p.commits.contains c then [p]
  else if p.running && !p.complete then { p with commits := [], voided := true } :: again
  else again

/-- A commit that fails after its admission leaves the passes (R97, R105). -/
def State.withdraw (s : State) (c : Nat) : State :=
  foldOver s.hosts (fun o t =>
    let l1 := (t.passesOf o).flatMap (fun (p : Pass) => p.without c t.now)
    if l1 = t.passesOf o then t else (((t.setPasses o l1).pump o).showForming o)) s

/-! ### Live and updated layers (R136) -/

/-- LAYER_LIVE_WRITE: the mark takes effect at the next boundary. -/
def doLayerLiveWrite (dt n : Nat) (live : Bool) (s : State) : State :=
  (s.tick dt).onReachIf (decide (n < 256)) fun t => t.putB (CMP_LYR_LIVE.LIVE n) live

/-- LAYER_UPDATE: one forming pass on each array output that the layer spans; with none the request ends at once. -/
def doLayerUpdate (dt n : Nat) (s : State) : State :=
  (s.tick dt).onReachIf (decide (n < 256)) fun t =>
    let os := (t.spans [] n).filter (fun o => decide (o < arrayOutputs))
    if os.isEmpty then t else foldOver os (fun o u => u.askPass .update [] o) (t.put (CMP_LYR_LIVE.UPDATE n) 1)

/-- The marks take effect at a boundary, and each output that a live layer spans forms in this LF (R15, R136). -/
def State.liveBoundary (s : State) : State :=
  let live := idxWhere 256 (fun n => s.flag (CMP_LYR_LIVE.LIVE n))
  let s1 := { s with cmp := { s.cmp with live := live } }
  foldOver (s1.hosts.filter (fun o => live.any (fun n => s1.takesPart [] n o))) (fun o t => t.askPass .live [] o) s1

/-! ### Underruns (R162) -/

/-- Whether an output fetches: a pass or a tail forms, or it is a scan output. -/
def State.fetches (s : State) (o : Nat) : Bool :=
  decide (16 ≤ o) || (s.passesOf o).any (fun p => p.running && !p.complete) || s.tailOn o

/-- A context's demand exceeded its reservation in the present window or in the one before (R162). -/
def State.overDemand (s : State) (c : Nat) : Bool :=
  s.hif.overPrev.contains c ||
    decide (s.reservation c < tget 0 s.hif.winDemand c)

/-- LAYER_UNDERRUN: a slice needs layer n's data for line `line` of output o and does not have it. `fault` says why: 0 the
wait of 2.5 µs ended, 1 a translation fault, 2 an unreachable HOST mapping, 3 an uncorrectable memory error. -/
def doLayerUnderrun (dt n o line fault : Nat) (s : State) : State :=
  let t := s.tick dt
  let cs := ((t.passesOf o).filter (·.running)).flatMap (·.commits)
  t.onLiveIf (decide (o < outputs) && t.fetches o && t.takesPart cs n o && !t.isOff n o && decide (line < t.outH o)) fun u =>
    let cause := match fault with
      | 1 => offTranslation
      | 2 => offHostLost
      | 3 => offLate
      | _ => if (u.holder n).any u.overDemand then offBandwidth else offLate
    u.layerOff n o line cause false

/-- A pass without anything: what a table of passes reads where none is listed. -/
def noPass : Pass := Pass.unstarted .commit [] 0

/-! ### Completing a pass (R94, R147, R159, R201, R206 to R208) -/

/-- The state as a pass sees it: the layers it skips contribute nothing, and those that went off while it formed nothing from
their line on, whether their off has ended since or not (R105, R163). -/
def State.passView (s : State) (p : Pass) (o : Nat) : State := s.without o (p.skip.map (fun n => (n, 0)) ++ p.gone)

/-- Invalid FBC tiles that the pass reads are counted, each with an event (R147). -/
def State.countTiles (s : State) (cs : List Nat) (o : Nat) : State :=
  foldOver ((s.outLayers cs o).filter (fun n => !s.isOff n o)) (fun n t =>
    foldOver (t.badTiles cs n o) (fun k u =>
      ((u.inc (CMP_LYR_FBC_ERR.COUNT n)).inc CMP_FBC_ERRORS.COUNT).raiseC 0x0B02 ((u.holder n).getD devQ) n k 0) t) s

/-- The engines that write an output's frame: the band of slice j is written by engine 36 + (j div 4) (R159). -/
def State.wbEngines (s : State) (o : Nat) : List Nat :=
  ((List.range (s.get (CMP_OUT_CUT.SLICES o))).map (fun k => 36 + (s.get (CMP_OUT_CUT.FIRST_SLICE o) + k) / 4)).eraseDups

/-- The writeback frame of a pass (R159, R161): its bytes, and whether it is incomplete. -/
def State.writeFrame (s : State) (cs : List Nat) (o : Nat) (applied : Bool) (cfn lfn : Nat) : State :=
  if s.sflag cs (CMP_OUT_CTRL.WB_EN o) && s.flag (CMP_OUT_CUT.WB_CAP o) then
    let r := s.vwriteAll (s.tblCtx cs o) (s.wbWrites cs o)
    let w : WbSt := { output := o, incomplete := !r.2, engines := s.wbEngines o, applied := applied, cfn := cfn, lfn := lfn }
    { r.1 with cmp := { r.1.cmp with wb := (r.1.cmp.wb.filter (fun x => x.output != o)) ++ [w] } }
  else s

/-- Whether the frame that an output's pass has written is complete. -/
def State.frameOk (s : State) (o : Nat) : Bool := s.cmp.wb.any (fun w => w.output == o && !w.incomplete)

/-- Words of the planes in a list of lead planes (set × 32 + plane), or of all but them. -/
def leadWords (leads : List Nat) (lead : Bool) (t : Tbl Nat) : Tbl Nat :=
  t.filter (fun e => leads.contains (e.1 / (8192 * 32)) == lead)

/-- T_est of a lead part (R208), in µs rounded up, for tail bits and a duration in steps. -/
def tailEst (leadSteps tailBits : Nat) : Nat :=
  divUp (max (leadSteps * 300) tailBits + 54000000) 1200000

/-- The planes that a pass leaves in the writer's copy of one output: all of them, or the lead planes on a phased-refill
output with T_est. -/
def State.storePass (s : State) (p : Pass) (cs : List Nat) (host f : Nat) : State :=
  let v := s.passView p host
  let img := v.formImage cs p.throttle s.cal.pattern f
  let us := divUp (s.now - p.started) usSteps
  let s1 := s.putSat (PLN_OUT_TIMING.LEAD_US f) us
  if s.phased f then
    let leads := tget [] p.leads f
    let bits := (s.planeCount cs f - leads.length) * s.planeBytes f * 8
    (({ s1 with pln := { s1.pln with
      back := tset s1.pln.back f (leadWords leads true img)
      placeBack := tset s1.pln.placeBack f (s1.leadPlaces f leads) } }).put
        (PLN_OUT_STATUS.LEAD_VALID f) 1).putSat (PLN_OUT_TIMING.TAIL_EST_US f) (tailEst (s.now - p.started) bits)
  else ({ s1 with pln := { s1.pln with
    back := tset s1.pln.back f img
    placeBack := tset s1.pln.placeBack f (s1.copyPlaces cs f) } }).put (PLN_OUT_STATUS.BACK_COMPLETE f) 1

/-- The first pass `p0` of an output ends its part of the picture: the invalid tiles it read are counted, its writeback frame is
written, its rectangles are judged, and the planes it formed stand in the writer's copies (R29, R147, R159, R206). -/
def State.endForming (u : State) (p0 : Pass) (rest : List Pass) (o : Nat) : State :=
  let p := { p0 with leads := ((u.withFollowers o).filter u.phased).map (fun f => (f, u.leadsOf p0.commits f)) }
  let v := u.passView p o
  let u1 := if u.cal.pattern.isSome then u else u.countTiles p0.commits o
  let w := v.writeFrame p0.commits o false 0 0
  let u2 := if u.cal.pattern.isSome then u1 else
    { u1 with
      mem := w.mem
      out := u1.out ++ w.out.drop u.out.length
      cmp := { u1.cmp with wb := w.cmp.wb } }
  let u3 := { u2 with int := { u2.int with rects := (v.rectResults p0.commits o (w.frameOk o)).int.rects } }
  let u4 := if u3.cmp.wb.any (fun x => x.output == o && x.incomplete) then u3.rectNoWb o else u3
  let u5 := foldOver ((u4.withFollowers o).filter (fun f => decide (f < 16) && u4.get (PLN_OUT_CFG.MODE f) != 0)) (fun f x =>
    x.storePass p p0.commits o f) u4
  u5.setPasses o ({ p with complete := true } :: rest)

/-- FORMING_PASS_DONE: the pass of a composing array output completes on slices that are on (R32), with its writeback frame
and its CRCs. It waits for the boundary at which it applies. A pass whose commit has failed leaves nothing (R94). -/
def doFormingPassDone (dt o : Nat) (s : State) : State :=
  let t := s.tick dt
  match t.passesOf o with
  | [] => t
  | p0 :: rest =>
    t.onCoreIf (decide (o < arrayOutputs) && p0.running && !p0.complete && t.slicesOn o) fun u0 =>
      let u := u0.memBusy
      ((if p0.voided then u.setPasses o rest else u.endForming p0 rest o).pump o).showForming o

/-- Condition 2 of R29 for one output's copy: complete, or a lead part that fits the margin and the tail budget (R206,
R208). An output without an enabled set holds back no commit (R191). -/
def State.copyReady (s : State) (cs : List Nat) (f : Nat) : Bool :=
  if s.get (PLN_OUT_CFG.MODE f) = 0 || (s.setsOf cs f).isEmpty then true
  else if s.phased f then
    s.flag (PLN_OUT_STATUS.LEAD_VALID f) &&
      decide (s.segsFor f (s.leadsOf cs f).length ≤ s.get (PLN_OUT_SIZE.MARGIN_SEGS f)) &&
      decide (s.get (PLN_OUT_TIMING.TAIL_EST_US f) + 2 ≤ s.sg cs (PLN_OUT_REFILL.TAIL_BUDGET f))
  else s.flag (PLN_OUT_STATUS.BACK_COMPLETE f)

/-- The pass at the head of an output's queue is complete and may apply. -/
def State.passReady (s : State) (o : Nat) : Bool :=
  match s.passesOf o with
  | [] => false
  | p :: _ => p.complete && (s.withFollowers o).all (fun f => decide (16 ≤ f) || s.copyReady p.commits f)

/-- The picture of a completed pass applies at a boundary (R24, R206, R207): the copies swap, or the margin becomes live and
the tail starts; the CRCs and the writeback frame take the CFN and LFN, and a static schedule is left (R234). The next pass waits
for `pump`. -/
def State.applyPass (s : State) (o : Nat) : State :=
  match s.passesOf o with
  | [] => s
  | p :: rest =>
    let cfn := s.rdN (TIM_OUT_CFN o)
    let s1 := s.setPasses o rest
    let s2 := foldOver ((s1.withFollowers o).filter (fun f => decide (f < 16) && s1.get (PLN_OUT_CFG.MODE f) != 0)) (fun f t =>
      let old := tget [] t.pln.front f
      let new := tget [] t.pln.back f
      let t1 := t.putB (PLN_OUT_STATUS.THROTTLE_BOOK f) p.throttle
      if t.phased f then
        let leads := tget [] p.leads f
        let live := (leadWords leads false old).foldl (fun a e => tset a e.1 e.2) new
        (({ t1 with pln := { t1.pln with
          front := tset t1.pln.front f live
          back := tdel t1.pln.back f
          place := tset t1.pln.place f (t1.tailPlaces f leads)
          placeBack := tdel t1.pln.placeBack f
          leadNow := tset t1.pln.leadNow f leads
          tailBlocks := t1.pln.tailBlocks.filter (fun e => e.1 / 1024 != f)
          tailRunning := if t1.pln.tailRunning.contains f then t1.pln.tailRunning else t1.pln.tailRunning ++ [f]
          tailPass := tset t1.pln.tailPass f { p with gone := [] } } }).put (PLN_OUT_STATUS.TAIL f) 1).put (PLN_OUT_STATUS.LEAD_VALID f) 0
      else
        (({ t1 with pln := { t1.pln with
          front := tset t1.pln.front f new
          back := tset t1.pln.back f old
          place := tset t1.pln.place f (tget [] t1.pln.placeBack f)
          placeBack := tset t1.pln.placeBack f (tget [] t1.pln.place f) } }).put (PLN_OUT_STATUS.BACK_COMPLETE f) 0).put (PLN_OUT_STATUS.READ_BUF f)
            (1 - t1.get (PLN_OUT_STATUS.READ_BUF f))) s1
    let s3 := { s2 with cmp := { s2.cmp with
      lost := tset s2.cmp.lost o p.missing
      wb := s2.cmp.wb.map (fun (w : WbSt) => if w.output == o && !w.applied then
        { output := w.output, incomplete := w.incomplete, engines := w.engines, applied := true, cfn := cfn, lfn := s2.tim.lfn } else w) } }
    let s4 := foldOver ((s3.withFollowers o).filter (fun f => s3.flag (SEQ_OUT_SCHED.STATIC f))) (fun f t => t.leaveStatic f) s3
    ((s4.rectApply o cfn).showForming o).showDrift o

/-- TAIL_DONE (R207): every tail plane is in its region, and the next pass on the output may start. -/
def doTailDone (dt o : Nat) (s : State) : State :=
  let t := s.tick dt
  t.onCoreIf (t.pln.tailRunning.contains o) fun u =>
    let host := u.leaderOf o
    let p := tget noPass u.pln.tailPass o
    let leads := tget [] p.leads o
    let img := (u.passView p host).formImage [] p.throttle u.cal.pattern o
    let kept := leadWords leads true (tget [] u.pln.front o)
    let all := (leadWords leads false img).foldl (fun a e => tset a e.1 e.2) kept
    let v := { u with pln := { u.pln with
      front := tset u.pln.front o all
      tailRunning := u.pln.tailRunning.erase o
      tailPass := tdel u.pln.tailPass o } }
    (((v.put (PLN_OUT_STATUS.TAIL o) 0).pump host).showForming host).memBusy

/-! ### Writeback (R159, R161) -/

/-- WRITEBACK_DONE: the writeback engines end the frame of an output whose pass has applied; `lost` says that an engine
underran or met an uncorrectable error. -/
def doWritebackDone (dt o : Nat) (lost : Bool) (s : State) : State :=
  let t := s.tick dt
  match t.cmp.wb.find? (fun w => w.output == o && w.applied) with
  | none => t
  | some w =>
    t.onCore fun u =>
      let bad := w.incomplete || lost
      let v := { u with cmp := { u.cmp with wb := u.cmp.wb.filter (fun x => !(x.output == o && x.applied)) } }
      let v1 := ((v.wrN (CMP_OUT_WB_CFN o) w.cfn).putB (CMP_OUT_WB_STATUS.DONE o) (!bad)).putB (CMP_OUT_WB_STATUS.INCOMPLETE o) bad
      let v2 := v1.inc (CMP_OUT_WB_STATUS.FRAMES o)
      if bad then (v2.rectNoWb o).raise 0x0B05 o w.cfn 0 else v2.raise 0x0B04 o w.cfn w.lfn

/-! ### Table loads (R154, R174, R179, R181, R196, R198) -/

def tableKindOf (k : Nat) : Option TableKind :=
  match k with
  | 0 => some .mesh
  | 1 => some .lut
  | 2 => some .dec
  | 3 => some .grid
  | 4 => some .book
  | 5 => some .mask
  | _ => none

/-- Context, address and length of a load, by the PF commit's values. -/
def State.loadSource (s : State) (k : TableKind) (i : Nat) : Nat × Nat × Nat :=
  let cs := [pfCommit]
  match k with
  | .mesh => (s.tblCtx cs i, s.sva cs (CMP_OUT_WARP_ADDR_LO.VA_LOW i) (CMP_OUT_WARP_ADDR_HI.VA_HIGH i), meshBytes)
  | .lut => (s.sg cs (COL_LUT_CTRL.CTX i), s.sva cs (COL_LUT_ADDR_LO.VA_LOW i) (COL_LUT_ADDR_HI.VA_HIGH i),
      if s.sflag cs (COL_LUT_CTRL.SIZE i) then 2197000 else 287496)
  | .dec => (s.sg cs (COL_DEC_CTRL.CTX i), s.sva cs (COL_DEC_ADDR_LO.VA_LOW i) (COL_DEC_ADDR_HI.VA_HIGH i), 69696)
  | .grid => (s.sg cs (COL_OUT_CTRL.UNI_CTX i), s.sva cs (COL_OUT_UNI_ADDR_LO.VA_LOW i) (COL_OUT_UNI_ADDR_HI.VA_HIGH i), 27648)
  | .book => (s.sg cs (PLN_BOOK_CTRL.CTX i), s.sva cs (PLN_BOOK_ADDR_LO.VA_LOW i) (PLN_BOOK_ADDR_HI.VA_HIGH i),
      4 * 2 ^ (((idxWhere planeSets (fun k => s.setEn cs k && s.setBook cs k == i)).head?.map (s.setQb cs)).getD 2))
  | .mask => (s.sg cs PLN_MASK_CTRL.CTX, s.sva cs PLN_MASK_ADDR_LO.VA_LOW PLN_MASK_ADDR_HI.VA_HIGH, 8192)

/-- Every coefficient of a decomposition table lies in its range (R179). -/
def decOk (b : List Byte) : Bool :=
  (List.range 1089).all (fun n => (List.range 15).all (fun k =>
    let v := sgn 32 (leAt b (64 * n + 4 * k) 4)
    decide (-(2 ^ 25) ≤ v) && decide (v < 2 ^ 25)))

def maskOk (b : List Byte) : Bool := (List.range 4096).all (fun k => decide (leAt b (2 * k) 2 < 4096))

/-- Whether a table's content is in the range stated for its kind (R174). -/
def tableOk (k : TableKind) (b : List Byte) : Bool :=
  match k with
  | .mesh => meshOk b
  | .dec => decOk b
  | .mask => maskOk b
  | _ => true

/-- The status bit that a load's outcome sets. -/
def loadFailFld (k : TableKind) (i : Nat) : Fld :=
  match k with
  | .mesh => CMP_OUT_STATUS.MESH_FAIL i
  | .lut => COL_LUT_STATUS.LOAD_FAIL i
  | .dec => COL_DEC_STATUS.LOAD_FAIL i
  | .grid => COL_OUT_STATUS.TABLE_FAIL i
  | .book => PLN_BOOK_STATUS.LOAD_FAIL i
  | .mask => PLN_MASK_STATUS.LOAD_FAIL

/-- The event of a failed load (codes 0x0904, 0x0A04, 0x0B03). -/
def State.raiseLoad (s : State) (k : TableKind) (i : Nat) : State :=
  match k with
  | .mesh => s.raise 0x0B03 i 0 0
  | .lut => s.raise 0x0A04 i 1 0
  | .dec => s.raise 0x0A04 i 2 0
  | .grid => s.raise 0x0A04 i 3 0
  | .book => s.raise 0x0904 i 0 0
  | .mask => s.raise 0x0904 0xFF 0 0

/-- The sets of a slot by the PF commit's values. -/
def State.slotSet (s : State) (cs : List Nat) (slot : Nat) : Option Nat :=
  (idxWhere planeSets (fun k => s.setEn cs k && s.setBook cs k == slot)).head?

/-- A loaded table goes into its back copy; bits of a book entry at and above PLANES are cleared (R196). -/
def State.storeBack (s : State) (k : TableKind) (i : Nat) (b : List Byte) : State :=
  match k with
  | .mesh => { s with cmp := { s.cmp with meshBack := tset s.cmp.meshBack i b } }
  | .lut => { s with col := { s.col with lutBack := tset s.col.lutBack i b } }
  | .dec => { s with col := { s.col with decBack := tset s.col.decBack i b } }
  | .grid => { s with col := { s.col with gridBack := tset s.col.gridBack i b } }
  | .book =>
    let planes := ((s.slotSet [pfCommit] i).map (s.setPlanes [pfCommit])).getD 32
    { s with pln := { s.pln with bookBack := tset s.pln.bookBack i ((List.range (b.length / 4)).map (fun n =>
      leAt b (4 * n) 4 % 2 ^ planes)) } }
  | .mask => { s with pln := { s.pln with maskBack := (List.range 4096).map (fun n => leAt b (2 * n) 2) } }

def State.mapLoad (s : State) (k : TableKind) (i : Nat) (build : Bool) (f : LoadSt → LoadSt) : State :=
  { s with cmp := { s.cmp with loads := s.cmp.loads.map (fun (l : LoadSt) =>
    if l.kind = k && l.index = i && l.build == build then f l else l) } }

/-- TABLE_LOAD_DONE: the load of kind `kind` (0 mesh, 1 LUT, 2 decomposition, 3 grid, 4 book, 5 mask) for slot or output
`i` ends; `lost` says that a read of the engine missed or met an uncorrectable error. The first such loss retries at once, a
second one fails (R115, R127). It fills the back copy or fails; a failed load is tried again at the next boundary. -/
def doTableLoadDone (dt kind i : Nat) (lost : Bool) (s : State) : State :=
  let t := s.tick dt
  match tableKindOf kind with
  | none => t
  | some k =>
    match t.cmp.loads.find? (fun l => decide (l.kind = k) && l.index == i && !l.build && !l.loaded && !l.waits) with
    | none => t
    | some l =>
      t.onCore fun u =>
        if lost && !l.retried then u.mapLoad k i false (fun x => { x with retried := true })
        else
        let src := u.loadSource k i
        let got := if lost then none else u.vread src.1 src.2.1 src.2.2
        match got.filter (tableOk k) with
        | some b => ((u.storeBack k i b).put (loadFailFld k i) 0).mapLoad k i false (fun x => { x with loaded := true })
        | none =>
          let v := (u.put (loadFailFld k i) 1).mapLoad k i false (fun x => { x with
            failed := true
            waits := true })
          if l.failed then v else v.raiseLoad k i

/-- Failed loads are tried again at a boundary while their commit stays pending (R154, R174). -/
def State.retryLoads (s : State) : State :=
  { s with cmp := { s.cmp with loads := s.cmp.loads.map (fun (l : LoadSt) => if l.waits then { l with
      waits := false
      retried := false } else l) } }

/-- PLN_STATUS.BUILD_BUSY as the builds stand. -/
def State.showBuilds (s : State) : State := s.putB PLN_STATUS.BUILD_BUSY (s.cmp.loads.any (fun l => l.build && !l.loaded))

/-- BOOK_BUILD_DONE (R195, R196): both books of a built slot, or the throttle book of a loaded one, are in the back copy. -/
def doBookBuildDone (dt slot : Nat) (s : State) : State :=
  let t := s.tick dt
  let cs := [pfCommit]
  match t.slotSet cs slot with
  | none => t
  | some k =>
    t.onLiveIf (t.cmp.loads.any (fun l => l.kind == .book && l.index == slot && l.build && !l.loaded)) fun u =>
      let w := u.setWeights cs k
      let qb := u.setQb cs k
      let u1 := { u with pln := { u.pln with
        throttleBack := tset u.pln.throttleBack slot (throttleBook w qb (u.setDrop cs k)).entries
        bookBack := if u.setLoaded cs k then u.pln.bookBack else tset u.pln.bookBack slot (mainBook w qb).entries } }
      (u1.mapLoad .book slot true (fun x => { x with loaded := true })).showBuilds

/-! ### Store errors (R210) -/

/-- An output starts a rewrite pass, unless a running tail will overwrite the region (Table PLN-4). -/
def State.rewrite (s : State) (o : Nat) (tail : Bool) : State :=
  if tail then s else s.askPass .rewrite [] (s.leaderOf o)

/-- An error that a read of output o's allocation finds. -/
def State.storeError (s : State) (o : Nat) (tail : Bool) (e : StoreErr) : State :=
  if e.double then (s.storeDouble e.bank e.bankRow e.line).rewrite o tail else s.storeCorrected e.bank e.bankRow

/-- The block of an output's array that holds a row. -/
def State.blockOfRow (s : State) (o row : Nat) : Nat :=
  let m := s.mechOf o
  ((idxWhere (mechBlocks m) (fun b => decide (mechFirstRow m b ≤ row))).getLast?).getD 0

/-- A running tail has yet to write the line of an output's allocation (R207, Table PLN-4): the line lies in a region of a tail
plane that no load deadline has found complete. -/
def State.tailAhead (s : State) (o l : Nat) : Bool :=
  s.pln.tailRunning.contains o && (match s.planeAt o l with
    | none => false
    | some key =>
      let row := (128 * l - tget 0 (tget [] s.pln.place o) key) / max 1 (32 * s.wpr o)
      !(tget [] s.pln.leadNow o).contains key && !bitAt (tget 0 s.pln.tailBlocks (o * 1024 + key)) (s.blockOfRow o row))

/-- The content of a plane with the 64 pixels of each uncorrectable word as 0. -/
def blankWords (set plane : Nat) (errs : List StoreErr) (t : Tbl Nat) : Tbl Nat :=
  errs.foldl (fun a e =>
    if e.double then
      (let k := wordKey set plane e.row (e.col / 4)
       let lo := 64 * (e.col % 4)
       match tfind a k with
       | none => a
       | some v => tset a k (setBits v (lo + 63) lo 0))
    else a) t

/-- PLANE_LOAD_START (R240, R241, R246): the ports of an output start the loads of the ready blocks of slot `slot`; `errs`
are the store errors that the reads find, each at the place that the region table gives its word (R202). Only regions that a
running tail has rewritten are loaded, so a double-bit error starts a rewrite pass there too (R210). -/
def doPlaneLoadStart (dt o slot : Nat) (errs : List StoreErr) (s : State) : State :=
  let t := s.tick dt
  let e : FabEvent := { kind := .planeLoad, lfn := t.tim.lfn, unit_ := o, slot := slot, line := 0 }
  t.onCoreIf (decide (o < 16) && t.eventDue e) fun u =>
    let v := u.takeEvent e
    let ready := tget 0 v.apt.ready (readyKey o slot v.tim.lfn)
    match (v.slotNow o slot).bind (fun x => (slotPlane x v.tim.lfn).map (fun p => (x.set, p))) with
    | none => v
    | some (k, p) =>
      if v.flag (SEQ_OUT_SCHED.REPLAYING o) || ready == 0 then v
      else
        let errs := errs.filter (fun e => v.wordPlace o (k * 32 + p) e.row e.col == (e.bank, e.line))
        let tail := v.pln.tailRunning.contains o && !(tget [] v.pln.leadNow o).contains (k * 32 + p)
        let pass := tget noPass v.pln.tailPass o
        let content := if tail then (v.passView pass (v.leaderOf o)).formImage [] pass.throttle v.cal.pattern o
          else tget [] v.pln.front o
        let w := v.loadBlocks (blankWords k p errs content) o k p ready
        let fin := w.now + w.portLoadSteps o (w.activeWidth o)
        let x := { w with apt := { w.apt with loading := tset w.apt.loading o (slot, fin) } }
        foldOver errs (fun er (y : State) => y.storeError o false er) x

/-- STORE_SCRUB (R210): the scrub has read allocated lines and found `errs`. -/
def doStoreScrub (dt : Nat) (errs : List StoreErr) (s : State) : State :=
  (s.tick dt).onLiveIf (s.flag PLN_CTRL.SCRUB_EN && s.pln.zeroed) fun t =>
    foldOver errs (fun e (u : State) =>
      match u.lineOutput e.bank e.line with
      | none => u
      | some (o, l) => u.storeError o (u.tailAhead o l) e) t

/-! ### Books and passes at a boundary (R185, R200) -/

/-- When throttle has ended, outputs whose images came from a throttle book start an exit pass, but where a pass that uses the main
book runs already (R200). -/
def State.exitPasses (s : State) : State :=
  if s.seq.throttled then s
  else foldOver (s.hosts.filter (fun o =>
      (s.withFollowers o).any (fun f => decide (f < 16) && s.flag (PLN_OUT_STATUS.THROTTLE_BOOK f)) &&
        !(s.passesOf o).any (fun p => p.running && !p.throttle && !p.voided)))
    (fun o t => t.askPass .exit [] o) s

/-- DRIFT_PASS_REQUEST (R185): a drift pass, or in table mode one event per loaded table. A scan output forms in every LF and needs no
pass. -/
def State.driftBoundary (s : State) : State :=
  foldOver (s.hosts ++ (List.range 4).map (· + 16) |>.filter s.outExists) (fun o t =>
    if (t.withFollowers o).any t.drifted then
      (if t.tableMode then
        (if t.col.driftRaised.contains o then t
         else (foldOver (t.viewsOf [] o) (fun v (u : State) => u.raiseB 0x0A02 o v 0)
           { t with col := { t.col with driftRaised := t.col.driftRaised ++ [o] } }).showDrift o)
       else if arrayOutputs ≤ o then t
       else t.askPass .drift [] o)
    else t) s

end Sys2Proof.Machine
end

