-- ==== Sys2Proof/Machine/Meter.lean ====
section
/-! DEFINITION. The sealed metering die: what it passes and counts, its records, audit trail, store, service port and
mailbox (spec/15, R359 to R377). -/
namespace Sys2Proof.Machine

/-! ### Parameters (Table MTR-2) -/

def paramBytes : Nat := 1060

/-- P_c of a parameter block. -/
def mtrPositions (b : List Byte) (c : Nat) : Nat := leAt b (4 + 2 * c) 2
def mtrPolicy (b : List Byte) : Nat := leAt b 0x0C 1
def mtrGroup (b : List Byte) (e : Nat) : Nat := leAt b (0x20 + e) 1

/-- Whether a staged block is accepted (R369). -/
def paramsOk (b : List Byte) : Bool :=
  b.length == paramBytes && leAt b 0 2 == 1 && leAt b 2 2 == paramBytes && leAt b 0x420 4 == crc32 (b.take 0x420) &&
    (List.range 4).all (fun c => decide (mtrPositions b c ≤ 256) && (List.range 256).all (fun i =>
      let g := mtrGroup b (256 * c + i)
      if mtrPositions b c ≤ i then g == 0xFF else decide (g < 64) || g == 0xFF))

def State.provisioned (s : State) : Bool := !s.mtr.params.isEmpty

/-! ### Blocking (R364, R366) -/

/-- The meter drives the return of chain c at 0. An unprovisioned meter passes every chain. -/
def State.mtrBlocks (s : State) (c : Nat) : Bool :=
  s.mtr.powered && s.provisioned &&
    (mtrPositions s.mtr.params c == 0 || s.mtr.blocked.contains c || s.mtr.clockFault ||
      (s.mtr.nvFault && mtrPolicy s.mtr.params == 0))

/-- The bits of chain c reach the main die (R21). -/
def State.mtrPasses (s : State) (c : Nat) : Bool := s.mtr.powered && !s.mtrBlocks c

def State.blockedMask (s : State) : Nat := maskOf 4 s.mtrBlocks

/-! ### Time (R370) -/

/-- METER_TIME: crystal periods of 32.768 kHz, at its nominal rate between the instants that fix it (log 60). -/
def State.meterTime (s : State) : Nat :=
  if s.mtr.powered && !s.mtr.clockFault then s.mtr.timeBase + (s.now - s.mtr.timeSince) * 32768 / secSteps else s.mtr.timeBase

def State.setMeterTime (s : State) (v : Nat) : State := { s with mtr := { s.mtr with timeBase := v, timeSince := s.now } }

/-! ### Records (Tables MTR-6, MTR-7) -/

abbrev mtrGap (c : Nat) : Nat := 4 + c
abbrev mtrPowerLoss : Nat := 9
abbrev mtrSealOpen : Nat := 10

def State.mtrBit (s : State) (k : Nat) : State := { s with mtr := { s.mtr with bits := setBit s.mtr.bits k true } }

/-- Chains that are blocked now are so in this interval. -/
def State.mtrNoteBlocks (s : State) : State := foldOver (idxWhere 4 s.mtrBlocks) (fun c t => t.mtrBit c) s

/-- STATUS of a record written now. -/
def State.recordStatus (s : State) (last : Bool) : Nat :=
  let b := s.mtrNoteBlocks.mtr.bits
  let set := fun (k : Nat) (on : Bool) (v : Nat) => if on then setBit v k true else v
  set 14 last (set 13 s.mtr.clockFault (set 12 s.mtr.nvFault (set 11 (!s.provisioned) (set mtrSealOpen s.mtr.sealOpen
    (set 8 (s.mtr.estWords != 0) b)))))

def totBytes (t : MeterTot) : List Byte := leBytes 8 t.charge ++ leBytes 8 (t.time / usSteps)

def State.meterTot (s : State) (g : Nat) : MeterTot := tget { charge := 0, time := 0 } s.mtr.totals g

/-- A record's bytes before its check word. -/
def State.recordBody (s : State) (seq : Nat) (last : Bool) : List Byte :=
  leBytes 2 1 ++ leBytes 2 1088 ++ leBytes 4 seq ++ leBytes 8 s.meterTime ++ leBytes 8 s.mtr.hostTime ++ leBytes 4 s.mtr.count ++
    leBytes 4 s.mtr.paramSet ++ leBytes 4 (s.recordStatus last) ++ leBytes 4 s.mtr.estWords ++
    (List.range 65).flatMap (fun g => totBytes (s.meterTot g)) ++ leBytes 4 0

def State.queueWrite (s : State) (kind key : Nat) (bytes : List Byte) : State :=
  { s with mtr := { s.mtr with writes := s.mtr.writes ++ [{ kind := kind, key := key, bytes := bytes, fails := 0 : MeterWrite }] } }

/-- The meter writes a record with the next SEQ, and a new interval begins (R370). -/
def State.writeRecord (s : State) (last : Bool) : State :=
  let seq := (s.mtr.seq + 1) % 2 ^ 32
  let body := s.recordBody seq last
  let s1 := s.queueWrite 0 seq (body ++ leBytes 4 (crc32 body))
  { s1 with mtr := { s1.mtr with seq := seq, estWords := 0, bits := 0 } }

/-! ### Audit trail (Table MTR-3) -/

abbrev auOpened : Nat := 1
abbrev auClosed : Nat := 2
abbrev auParams : Nat := 3
abbrev auVbat : Nat := 4
abbrev auClock : Nat := 5
abbrev auNv : Nat := 6
abbrev auMismatch : Nat := 7

def auditBytes (count time kind detail paramSet : Nat) : List Byte :=
  let b := leBytes 4 count ++ leBytes 8 time ++ leBytes 1 kind ++ leBytes 1 detail ++ leBytes 4 paramSet ++ leBytes 10 0
  b ++ leBytes 4 (crc32 b)

/-- An event of Table MTR-3: the counter moves by 1, in the store too, and one entry is appended (R368). -/
def State.audit (s : State) (kind detail : Nat) : State :=
  let n := s.mtr.count + 1
  let s1 := { s with mtr := { s.mtr with count := n, storeCount := n } }
  s1.queueWrite 1 n (auditBytes n s1.meterTime kind detail s1.mtr.paramSet)

/-! ### The store (R371, R372) -/

/-- A verified write joins its ring: the last 168 records, the last 512 entries, and the last two copies. -/
def MtrSt.store (m : MtrSt) (w : MeterWrite) : MtrSt :=
  let keep := fun (n : Nat) (t : Tbl (List Byte)) => t.filter (fun e => decide (w.key < e.1 + n))
  if w.kind = 0 then { m with records := keep 168 (tset m.records w.key w.bytes) }
  else if w.kind = 1 then { m with audits := keep 512 (tset m.audits w.key w.bytes) }
  else { m with copies := keep 2 (tset m.copies w.key w.bytes) }

/-- MTR_STORE_WRITE_DONE: the write in progress has been read back; a failure is retried in the next slot, and a second
one sets NV_FAULT, with an audit entry, and gives the item up. -/
def doMtrStoreWriteDone (dt : Nat) (ok : Bool) (s : State) : State :=
  let t := s.tick dt
  match t.mtr.writes with
  | [] => t
  | w :: r =>
    if !t.mtr.powered then t
    else if ok then { t with mtr := { (t.mtr.store w) with writes := r } }
    else if w.fails = 0 then { t with mtr := { t.mtr with writes := { w with fails := 1 } :: r } }
    else
      let u := { t with mtr := { t.mtr with writes := r, nvFault := true } }
      if t.mtr.nvFault then u else (u.audit auNv 0).mtrNoteBlocks

/-! ### The light (R361, R362, R364, R365) -/

/-- Words of one update added to the totals: `words` by position (R362). -/
def State.meterWord (s : State) (e w clk : Nat) : State :=
  let valid := bitsOf w 63 61 == 5 && crc8 (w / 256 * 256) == w % 256
  let use := if valid then w else tget 0 s.mtr.lastWord e
  let gm := mtrGroup s.mtr.params e
  let g := if gm = 0xFF then 64 else gm
  let a := s.meterTot g
  let b : MeterTot := { charge := a.charge + bitsOf use 46 29, time := a.time + bitsOf use 28 8 * clk }
  { s with mtr := { s.mtr with
    totals := tset s.mtr.totals g b
    lastWord := if valid then tset s.mtr.lastWord e w else s.mtr.lastWord
    estWords := if valid then s.mtr.estWords else s.mtr.estWords + 1 } }

/-- MTR_LATCH_OBSERVED: a LATCH frame on chain c. `matched` says that the return carried its marker at the sealed offset,
`clk` is the chain clock's period in gate steps as the meter measured it, and `words` are the readback words of
positions P_c − 1 down to 0. -/
def doMtrLatchObserved (dt c : Nat) (matched : Bool) (clk : Nat) (words : List Nat) (s : State) : State :=
  let t := s.tick dt
  if !t.mtr.powered || decide (4 ≤ c) then t
  else
    let u := { t with mtr := { t.mtr with lastLatch := tset t.mtr.lastLatch c t.now } }
    let n := mtrPositions u.mtr.params c
    if !u.provisioned || n == 0 then u
    else if matched then
      let v := { u with mtr := { u.mtr with misses := tset u.mtr.misses c 0 } }
      foldOver (List.range n) (fun i x => x.meterWord (256 * c + i) (nthD words (n - 1 - i) 0) clk) v
    else
      let m := tget 0 u.mtr.misses c + 1
      let v := { u with mtr := { u.mtr with misses := tset u.mtr.misses c m } }
      if m = 2 ∧ !v.mtr.blocked.contains c then
        ({ v with mtr := { v.mtr with blocked := v.mtr.blocked ++ [c] } }.audit auMismatch c).mtrNoteBlocks
      else v

/-- MTR_GAP (R365). -/
def doMtrGap (dt c : Nat) (s : State) : State :=
  let t := s.tick dt
  if t.mtr.powered && decide (c < 4) && decide (tget 0 t.mtr.lastLatch c + secSteps ≤ t.now) then t.mtrBit (mtrGap c) else t

/-- CLOCK_FAULT: the crystal has stopped for 100 ms; METER_TIME stands and every chain is blocked (R364). -/
def doClockFault (dt : Nat) (s : State) : State :=
  let t := s.tick dt
  if t.mtr.powered && !t.mtr.clockFault then
    let u := t.setMeterTime t.meterTime
    ({ u with mtr := { u.mtr with clockFault := true } }.audit auClock 0).mtrNoteBlocks
  else t

/-! ### The seal (R360, R369) -/

/-- SEAL_OPENED: the seal latch and the counter move; without VDD_MTR the opening is latched on VBAT_M and its entry waits
for power-up. -/
def doSealOpened (dt : Nat) (s : State) : State :=
  let t := s.tick dt
  if t.mtr.sealOpen then t
  else if t.mtr.powered then ({ t with mtr := { t.mtr with sealOpen := true } }.audit auOpened 0).mtrBit mtrSealOpen
  else { t with mtr := { t.mtr with
    sealOpen := true
    count := t.mtr.count + 1
    batSeals := t.mtr.batSeals ++ [t.mtr.count + 1] } }

/-- SEAL_CLOSED: a staged block goes. -/
def doSealClosed (dt : Nat) (s : State) : State :=
  let t := s.tick dt
  if !t.mtr.sealOpen then t
  else
    let u := { t with mtr := { t.mtr with sealOpen := false, staged := none } }
    if u.mtr.powered then u.audit auClosed 0 else u

/-! ### Supply (R370, R372 to R374) -/

/-- MTR_RECORD_DUE: METER_TIME reaches a multiple of 60 s; the crystal's error is at most 20 ppm of the interval. -/
def doMtrRecordDue (dt : Nat) (s : State) : State :=
  let t := s.tick dt
  let v := t.meterTime
  let m := (v + 983040) / 1966080 * 1966080
  if t.mtr.powered && !t.mtr.clockFault && decide (0 < m) && decide (t.mtr.timeBase < m) && decide (v ≤ m + 40) && decide (m ≤ v + 40) then
    (t.setMeterTime m).writeRecord false
  else t

/-- MTR_SUPPLY_LOSS: a write in progress completes, or a LAST record is written, from the hold-up energy; `ok` says that
it verifies. The returns are no longer passed, and the battery domain is left. -/
def doMtrSupplyLoss (dt : Nat) (ok : Bool) (s : State) : State :=
  let t := s.tick dt
  if !t.mtr.powered then t
  else
    let u := t.setMeterTime t.meterTime
    let v := if u.mtr.writes.isEmpty then u.writeRecord true else u
    let m := match v.mtr.writes with
      | w :: _ => if ok then v.mtr.store w else v.mtr
      | [] => v.mtr
    ({ v with mtr := { m with
      powered := false
      writes := []
      staged := none
      bits := 0
      estWords := 0
      lastLatch := [] } }).put MTR_MB_STATUS.LINK 0

/-- Totals and counters as a record states them (R372). -/
def totalsOf (b : List Byte) : Tbl MeterTot :=
  (List.range 65).filterMap (fun g =>
    let x : MeterTot := { charge := leAt b (0x28 + 16 * g) 8, time := leAt b (0x30 + 16 * g) 8 * usSteps }
    if x.charge = 0 && x.time = 0 then none else some (g, x))

def newestOf (t : Tbl (List Byte)) : Option (Nat × List Byte) := t.getLast?

/-- MTR_POWER_UP: VDD_MTR returns. Totals, METER_TIME, SEQ and parameters come from the store, openings latched on VBAT_M
become entries, and a record with POWER_LOSS is written. `vbat` says that VBAT_M kept the battery domain. -/
def doMtrPowerUp (dt : Nat) (vbat : Bool) (s : State) : State :=
  let t := s.tick dt
  if t.mtr.powered then t
  else
    let rec_ := newestOf t.mtr.records
    let par := newestOf t.mtr.copies
    let m := t.mtr
    let seals := if vbat then m.batSeals else []
    let u : State := { t with mtr := { m with
      powered := true
      count := if vbat then max m.count m.storeCount else m.storeCount
      batSeals := []
      clockFault := m.clockFault && vbat
      nvFault := m.nvFault && vbat
      vbatLost := m.vbatLost && vbat
      totals := (rec_.map (fun r => totalsOf r.2)).getD []
      seq := (rec_.map (·.1)).getD 0
      hostTime := (rec_.map (fun r => leAt r.2 0x10 8)).getD 0
      timeBase := (rec_.map (fun r => leAt r.2 8 8)).getD 0
      timeSince := t.now
      params := (par.map (·.2)).getD []
      paramSet := (par.map (·.1)).getD 0
      misses := []
      blocked := []
      lastWord := [] } }
    let u1 := foldOver seals (fun n (x : State) => x.queueWrite 1 n (auditBytes n 0 auOpened 1 x.mtr.paramSet))
      { u with mtr := { u.mtr with storeCount := u.mtr.count } }
    let u2 := if vbat then u1 else { u1 with mtr := { u1.mtr with vbatLost := true } }.audit auVbat 0
    ((u2.mtrBit mtrPowerLoss).mtrNoteBlocks).writeRecord false

/-! ### Answers (Table MTR-8, R376, R377) -/

/-- An answer that the spec leaves open, as free values: RESULT, and bytes. -/
def State.openAnswer (s : State) : Nat × List Byte :=
  (s.freeVal 4, (List.range (bitsOf (s.freeVal 64) 15 4)).map (Config.freeByte s.fresh))

/-- RESULT and bytes of a request. -/
def State.meterAnswer (s : State) (op : Nat) (args : List Nat) : Nat × List Byte :=
  let a := fun (k : Nat) => nthD args k 0
  let m := s.mtr
  match op with
  | 1 => (1, leBytes 8 Config.meterSerial.toNat ++ (List.range 140).map Config.meterIdent)
  | 2 => (1, leBytes 1 (boolNat s.provisioned) ++ leBytes 1 (boolNat m.sealOpen) ++
      leBytes 2 (boolNat m.vbatLost + 2 * boolNat m.clockFault + 4 * boolNat m.nvFault) ++ leBytes 4 m.count ++ leBytes 4 m.paramSet ++
      leBytes 4 m.seq ++ leBytes 4 ((m.records.head?.map (·.1)).getD 0) ++ leBytes 1 s.blockedMask ++ leBytes 11 0)
  | 3 => match tfind m.records (a 0) with
    | some b => (1, b)
    | none => (3, [])
  | 4 => match tfind m.records (a 0) with
    | some b =>
      let msg := b ++ leBytes 8 Config.meterSerial.toNat ++ (List.range 4).flatMap (fun k => leBytes 4 (a (k + 1)))
      (1, msg ++ (Config.meterSign msg).take 64)
    | none => (3, [])
  | 5 => match tfind m.audits (a 0) with
    | some b => (1, b)
    | none => s.openAnswer
  | 6 => if s.provisioned then (1, m.params) else s.openAnswer
  | 7 => (1, [])
  | 8 => (1, s.recordBody 0 false ++ leBytes 4 0)
  | _ => (2, [])

/-! ### The service port (Table MTR-4, R369) -/

/-- The meter replies on its service port. -/
def State.serve (s : State) (op status : Nat) (bytes : List Byte) : State := s.send (.service op status bytes)

/-- MSVC_READ: an operation of the mailbox with its arguments; `crc` says that the frame's CRC is correct. -/
def doMsvcRead (dt op : Nat) (args : List Nat) (crc : Bool) (s : State) : State :=
  let t := s.tick dt
  if !t.mtr.powered then t
  else if !crc then t.serve 1 1 []
  else (t.serve 1 0 (t.meterAnswer op args).2).useFree

/-- An operation of the service port other than READ: refused while SEAL_N is high. -/
def State.service (s : State) (op : Nat) (crc : Bool) (f : State → State) : State :=
  if !s.mtr.powered then s
  else if !crc then s.serve op 1 []
  else if !s.mtr.sealOpen then s.serve op 2 []
  else f s

/-- MSVC_STAGE. -/
def doMsvcStage (dt : Nat) (block : List Byte) (crc : Bool) (s : State) : State :=
  (s.tick dt).service 0x10 crc fun t =>
    if paramsOk block then { t with mtr := { t.mtr with staged := some block } }.serve 0x10 0 [] else t.serve 0x10 3 []

/-- MSVC_COMMIT (R369): a closing record, the block, PARAMS_COMMITTED, and an opening record. METER_TIME starts at the first
provisioning (log 61). -/
def doMsvcCommit (dt : Nat) (crc : Bool) (s : State) : State :=
  (s.tick dt).service 0x11 crc fun t =>
    match t.mtr.staged with
    | none => t.serve 0x11 4 []
    | some b =>
      let t1 := t.writeRecord false
      let t2 := if t1.provisioned then t1 else t1.setMeterTime 0
      let t3 := { t2 with mtr := { t2.mtr with
        params := b
        staged := none
        blocked := []
        misses := []
        paramSet := (t2.mtr.paramSet + 1) % 2 ^ 32 } }
      let t4 := (t3.queueWrite 2 t3.mtr.paramSet b).audit auParams 0
      (t4.writeRecord false).serve 0x11 0 []

/-- MSVC_DISCARD. -/
def doMsvcDiscard (dt : Nat) (crc : Bool) (s : State) : State :=
  (s.tick dt).service 0x12 crc fun t =>
    if t.mtr.staged.isNone then t.serve 0x12 4 []
    else { t with mtr := { t.mtr with staged := none } }.serve 0x12 0 []

/-! ### The mailbox (R375) -/

/-- REQ with an operation and arguments: busy while one is outstanding. -/
def State.mbRequest (s : State) (op : Nat) (args : List Nat) : State :=
  if s.flag MTR_MB_STATUS.BUSY then s.accessEvent devQ MTR_MB_CTRL 4
  else
    let s1 := foldOver (List.range 6) (fun k (t : State) => if k < args.length then t.wrN (MTR_MB_ARG k) (nthD args k 0) else t) s
    let s2 := ((s1.put MTR_MB_CTRL.OP op).put MTR_MB_CTRL.REQ 1).put MTR_MB_STATUS.BUSY 1
    { s2 with mtr := { s2.mtr with
      mbTime := s2.now
      mbArgs := (List.range 6).map (fun k => s2.rdN (MTR_MB_ARG k)) } }

def doReadId (dt : Nat) (s : State) : State := (s.tick dt).onLive (fun t => t.mbRequest 1 [])
def doReadStatus (dt : Nat) (s : State) : State := (s.tick dt).onLive (fun t => t.mbRequest 2 [])
def doReadRecord (dt seq : Nat) (s : State) : State := (s.tick dt).onLive (fun t => t.mbRequest 3 [seq])
def doExportRecord (dt seq : Nat) (nonce : List Nat) (s : State) : State := (s.tick dt).onLive (fun t => t.mbRequest 4 (seq :: nonce))
def doReadAudit (dt count : Nat) (s : State) : State := (s.tick dt).onLive (fun t => t.mbRequest 5 [count])
def doReadParams (dt : Nat) (s : State) : State := (s.tick dt).onLive (fun t => t.mbRequest 6 [])
def doSetHostTime (dt lo hi : Nat) (s : State) : State := (s.tick dt).onLive (fun t => t.mbRequest 7 [lo, hi])
def doReadCurrent (dt : Nat) (s : State) : State := (s.tick dt).onLive (fun t => t.mbRequest 8 [])

/-- The request ends. -/
def State.mbEnd (s : State) (result : Nat) (bytes : List Byte) : State :=
  ((({ s with mtr := { s.mtr with mbData := bytes } }.put MTR_MB_CTRL.REQ 0).put MTR_MB_STATUS.BUSY 0).put MTR_MB_STATUS.RESULT
    result).put MTR_MB_STATUS.LEN bytes.length

/-- MTR_MB_ANSWER: the meter's answer arrives, after any store write in progress; SET_HOST_TIME takes effect. -/
def doMtrMbAnswer (dt : Nat) (s : State) : State :=
  let t := s.tick dt
  t.onLiveIf (t.flag MTR_MB_STATUS.BUSY && t.flag MTR_MB_STATUS.LINK && t.mtr.powered && t.mtr.writes.isEmpty) fun u =>
    let op := u.get MTR_MB_CTRL.OP
    let r := u.meterAnswer op u.mtr.mbArgs
    let v := if op = 7 then { u with mtr := { u.mtr with hostTime := nthD u.mtr.mbArgs 0 0 + nthD u.mtr.mbArgs 1 0 * 2 ^ 32 } } else u
    (v.mbEnd r.1 r.2).useFree

/-- MTR_MB_TIMEOUT: with the meter absent or the link down the request ends ABSENT; otherwise no answer has come within
the bound. -/
def doMtrMbTimeout (dt : Nat) (s : State) : State :=
  let t := s.tick dt
  t.onLiveIf (t.flag MTR_MB_STATUS.BUSY) fun u =>
    let bound := if u.get MTR_MB_CTRL.OP = 4 then 100 * msSteps else 50 * msSteps
    if !u.flag MTR_MB_STATUS.LINK then u.mbEnd 4 []
    else if u.mtr.mbTime + bound ≤ u.now then u.mbEnd 5 [] else u

/-- METER_LINK_UP: the mailbox link has trained. -/
def doMeterLinkUp (dt : Nat) (s : State) : State :=
  let t := s.tick dt
  t.onLiveIf t.mtr.powered fun u => u.put MTR_MB_STATUS.LINK 1

end Sys2Proof.Machine
end

