-- ==== Sys2Proof/Machine/Throttle.lean ====
section
/-! DEFINITION. The throttle sources (R382). -/
namespace Sys2Proof.Machine

/-- Sources of THM_THROTTLE.SOURCES. -/
abbrev thrDie : Nat := 0
abbrev thrStack0 : Nat := 1
abbrev thrPower : Nat := 3
abbrev thrPf : Nat := 4

/-- Set or clear a throttle source; a change of the throttled state is counted and its instant kept (R382). -/
def State.setSource (s : State) (src : Nat) (on : Bool) : State :=
  let old := s.get THM_THROTTLE.SOURCES
  let new := setBit old src on
  let s1 := s.put THM_THROTTLE.SOURCES new
  if (old == 0) == (new == 0) then s1
  else
    ({ s1 with thm := { s1.thm with
      throttle := s1.thm.throttle ++ [(s1.now, new != 0)] } }).inc THM_THROTTLE.REQUESTS |>.raise 0x0103 new (boolNat (new != 0)) 0

end Sys2Proof.Machine
end

