-- ==== Sys2Proof/Machine/Lmp.lean ====
section
/-! DEFINITION. Light sources: the LMP_MAP and CEILINGS sections, lamp records, light factors, chain updates and
latches, gate pulses, photo-sense, the heartbeat and the budget arbiter (spec/12, R279 to R305; R301 to R303, R393,
R394). -/
namespace Sys2Proof.Machine

/-! ### LMP_MAP and CEILINGS (R304, R305) -/

/-- The gate lines of a scan engine's DAC. -/
def lmDacLines (b : List Byte) (n d : Nat) : List Nat :=
  idxWhere 64 (fun l => lmGateOut b l == 16 + n && lmGateDac b l == d)

/-- Check 11 of Table CFG-5, LMP_MAP's part: at most 4 chains of at most 256 positions, and no DAC with two gate
lines. -/
def lmpMapCheck11 (b : List Byte) : Bool :=
  decide (lmChains b < 16) && (List.range 4).all (fun c => decide (lmPositions b c ≤ 256)) &&
    (List.range 4).all (fun n => (List.range 4).all (fun d => decide ((lmDacLines b n d).length ≤ 1)))

/-- Positions that an entry stands for although its chain does not reach them. -/
def lmBeyond (b : List Byte) : Bool :=
  (List.range 1024).any (fun k =>
    lmPosLine b k != 0xFF &&
      (!bitAt (lmChains b) (k / 256) || decide (lmPositions b (k / 256) ≤ k % 256)))

/-- All used positions, over the chains. -/
def lmAll (b : List Byte) : List Nat := (List.range 4).flatMap (lmUsed b)

def lmpMapDetail (prims : Nat) (b : List Byte) : Option Nat :=
  let inR := fun v lo hi => decide (lo ≤ v) && decide (v ≤ hi)
  let used := lmAll b
  let senses := (List.range 16).map (lmSense b)
  if b.length ≠ 4544 then some 0x0B01
  else if !bytesZero b 3 1 || decide (16 ≤ lmChains b) || (List.range 64).any (fun l => decide (4 ≤ lmGateDac b l)) ||
      (List.range 64).any (fun g => !bytesZero b (0xC1 + 4 * g) 3) ||
      (List.range 1024).any (fun k => decide (2 ≤ leAt b (0x1C3 + 4 * k) 1)) then some 0x0B02
  else if !inR (lmGroups b) 1 64 || decide (8 < lmRails b) || (List.range 4).any (fun c =>
      if bitAt (lmChains b) c then !(inR (lmPositions b c) 1 256 && inR (lmClkDiv b c) 10 50 && inR (lmWindow b c) 1 10000 &&
        inR (lmSettle b c) 1 10000) else lmPositions b c != 0) || (List.range 16).any (fun k => decide (2 < lmRange b k)) ||
      lmBeyond b then some 0x0B03
  else if used.any (fun k => decide (64 ≤ lmPosLine b k) || decide (20 ≤ lmGateOut b (lmPosLine b k)) ||
      lmPosDac b k != decide (16 ≤ lmGateOut b (lmPosLine b k)) ||
      used.any (fun j => lmPosLine b j == lmPosLine b k && (lmPosGroup b j != lmPosGroup b k || lmPosPrim b j != lmPosPrim b k)))
    then some 0x0B04
  else if used.any (fun k => decide (lmGroups b ≤ lmPosGroup b k)) || (List.range 64).any (fun g =>
      (decide (lmGroups b ≤ g) && leAt b (0xC0 + 4 * g) 4 != 0) ||
      (if lmRails b = 0 then lmRail b g != 0 else decide (lmRails b ≤ lmRail b g))) then some 0x0B05
  else if senses.any (fun p => p != 0xFF && (decide (prims ≤ p) || decide (2 ≤ (senses.filter (· == p)).length))) then some 0x0B06
  else none

def State.ceil_ (s : State) : List Byte := s.sec secCeilings 0
def ceAvg (b : List Byte) : Nat := leAt b 0 2
def cePeak (b : List Byte) : Nat := leAt b 2 2
def ceRail (b : List Byte) (r : Nat) : Nat := leAt b (4 + 2 * r) 2
def ceEmitter (b : List Byte) : Nat := leAt b 0x14 2
def ceLight (b : List Byte) (p : Nat) : Nat := leAt b (0x16 + 2 * p) 2
def ceLatching (b : List Byte) : Bool := bitAt (leAt b 0x22 1) 0
def ceHold (b : List Byte) : Nat := leAt b 0x24 2

/-- Check 10's part of CEILINGS: the package peak limit. -/
def ceilingsCheck10 (b : List Byte) : Bool := decide (cePeak b ≤ 1300)

def ceilingsDetail (rails : Nat) (b : List Byte) : Option Nat :=
  if b.length ≠ 48 then some 0x0901
  else if !bytesZero b 0x23 1 || !bytesZero b 0x26 10 || decide (2 ≤ leAt b 0x22 1) then some 0x0902
  else if cePeak b < ceAvg b ∨ (List.range 6).any (fun p => decide (10000 < ceLight b p)) || ceHold b == 0 ||
      decide (1000 < ceHold b) then some 0x0903
  else if (List.range 8).any (fun r => if r < rails then ceRail b r == 0 else ceRail b r != 0) then some 0x0904
  else none

/-- RWL fields from LMP_MAP and CEILINGS; the limits come down to the ceilings. -/
def State.applyLmpMap (s : State) : State :=
  let b := s.lampMap
  let ce := s.ceil_
  let s1 := foldOver (List.range 4) (fun c t =>
    (((t.put (LMP_CHAIN_CFG.POSITIONS c) (lmPositions b c)).put (LMP_CHAIN_CFG.CLK_DIV c) (lmClkDiv b c)).put
      (LMP_CHAIN_CFG.LATCH_WINDOW_NS c) (lmWindow b c)).put (LMP_CHAIN_CFG2.STEP_SETTLE_NS c) (lmSettle b c)) s
  let s2 := foldOver (List.range 16) (fun k t =>
    (t.put (LMP_PS_CH_CFG.PRIMARY k) (lmSense b k)).put (LMP_PS_CH_CFG.RANGE k) (lmRange b k)) s1
  let s3 := foldOver (List.range 8) (fun r t =>
    (t.put (LMP_RAIL_CEILING.CEILING r) (ceRail ce r)).put (LMP_RAIL_LIMIT.LIMIT r)
      (min (t.get (LMP_RAIL_LIMIT.LIMIT r)) (ceRail ce r))) s2
  let s4 := foldOver (List.range 64) (fun g t =>
    (t.put (LMP_GROUP_CFG.RAIL g) (lmRail b g)).putB (LMP_GROUP_CFG.PRESENT g) (decide (g < lmGroups b))) s3
  (s4.put LMP_PKG_LIMIT.AVG (min (s4.get LMP_PKG_LIMIT.AVG) (ceAvg ce))).put LMP_PKG_LIMIT.PEAK
    (min (s4.get LMP_PKG_LIMIT.PEAK) (cePeak ce))

/-! ### Lamp records (R289, Table LMP-6) -/

/-- An absent record: PRIMARY is 0xFF. -/
def noLamp : List Byte := 0xFF :: List.replicate 31 0

def State.lampOf (s : State) (e : Nat) : List Byte := tget noLamp s.lmp.lamp e

def lpPrim (b : List Byte) : Nat := leAt b 0 1
def lpWl (b : List Byte) : Nat := leAt b 0x02 2
def lpEff (b : List Byte) : Nat := leAt b 0x04 2
def lpTh (b : List Byte) : Nat := leAt b 0x06 2
def lpKwl (b : List Byte) : Int := sgn 16 (leAt b 0x08 2)
def lpKeff (b : List Byte) : Int := sgn 16 (leAt b 0x0A 2)
def lpMax (b : List Byte) : Nat := leAt b 0x0C 2
def lpKnee (b : List Byte) : Int := sgn 8 (leAt b 0x0E 1)
def lpSlope (b : List Byte) : Nat := leAt b 0x0F 1
def lpCut (b : List Byte) : Int := sgn 8 (leAt b 0x10 1)
def lpTcal (b : List Byte) : Int := sgn 8 (leAt b 0x11 1)
def lpCal (b : List Byte) : Nat := leAt b 0x12 2

/-- I_CAL under EMITTER_MAX_MA (R289). -/
def State.iCal (s : State) (e : Nat) : Nat := min (lpCal (s.lampOf e)) (ceEmitter s.ceil_)

/-- Whether the map gives a position an emitter. -/
def State.posUsed (s : State) (e : Nat) : Bool := (lmUsed s.lampMap (e / 256)).contains e

def State.lampValid (s : State) (e : Nat) : Bool :=
  let b := s.lampOf e
  s.posUsed e && lpPrim b == lmPosPrim s.lampMap e && decide (lpKnee b < lpCut b) && decide (lpTh b < s.iCal e)

/-- Used positions whose records are invalid are named once by an event (R289). -/
def State.checkLamps (s : State) : State :=
  let bad := (lmAll s.lampMap).filter (fun e => !s.lampValid e)
  let s1 := foldOver (bad.filter (fun e => !s.lmp.lampBad.contains e)) (fun e (t : State) => t.raise 0x0203 e 0 0) s
  { s1 with lmp := { s1.lmp with lampBad := bad } }

/-- Lamp records written by the PF apply with its commit (R289). -/
def State.commitLamps (s : State) : State :=
  if s.lmp.lampShadow.isEmpty then s
  else ({ s with lmp := { s.lmp with
    lamp := s.lmp.lampShadow.foldl (fun t (e : Nat × List Byte) => tset t e.1 e.2) s.lmp.lamp
    lampShadow := [] } }).checkLamps

/-- LMP_LAMP_DATA shows the selected record: the shadow where one waits. -/
def State.showLamp (s : State) : State :=
  let e := s.get LMP_LAMP_SEL.POSITION
  let b := (tfind s.lmp.lampShadow e).getD (s.lampOf e)
  foldOver (List.range 8) (fun k t => t.wrN (LMP_LAMP_DATA k) (leAt b (4 * k) 4)) s

/-- A write of word k of the selected record: currents stop at EMITTER_MAX_MA (R19, R289). The state, and whether a value
was clamped. -/
def State.writeLamp (s : State) (k v : Nat) : State × Bool :=
  let e := s.get LMP_LAMP_SEL.POSITION
  let b := (tfind s.lmp.lampShadow e).getD (s.lampOf e)
  let top := if s.cfg.imageRunning then ceEmitter s.ceil_ else 65535
  let lo := v % 65536
  let hi := v / 65536 % 65536
  let v1 := if k = 3 then hi * 65536 + min lo top else if k = 4 then min hi top * 65536 + lo else v
  let b1 := b.take (4 * k) ++ leBytes 4 v1 ++ b.drop (4 * k + 4)
  (({ s with lmp := { s.lmp with lampShadow := tset s.lmp.lampShadow e b1 } }).showLamp, v1 != v)

/-! ### Positions -/

def State.pos (s : State) (e : Nat) : PosSt := tget PosSt.init s.lmp.pos e

def State.setPos (s : State) (e : Nat) (x : PosSt) : State := { s with lmp := { s.lmp with pos := tset s.lmp.pos e x } }

/-- No valid readback came in 8 consecutive updates (Table LMP-5). -/
def PosSt.lost (x : PosSt) : Bool := decide (8 ≤ x.noRb)

/-- The temperature of a position in 0.25 °C: T_CUT where the readback is lost, and T_CAL before the first report
(DESIGN CHOICE, log 47). -/
def State.posTemp (s : State) (e : Nat) : Int :=
  let x := s.pos e
  if x.lost then 4 * lpCut (s.lampOf e) else x.temp.getD (4 * lpTcal (s.lampOf e))

def State.posCut (s : State) (e : Nat) : Bool := decide (4 * lpCut (s.lampOf e) ≤ s.posTemp e)

/-- LMP_POS_STATE, LMP_POS_CURRENT and LMP_POS_FACTOR show the selected position. -/
def State.showPos (s : State) : State :=
  let e := s.get LMP_POS_SEL.POSITION
  let x := s.pos e
  let st := if !s.lampValid e then 0 else if x.faultOff then 2 else if s.posCut e then 3 else 1
  ((((s.put LMP_POS_STATE.STATE st).put LMP_POS_STATE.FAULT x.fault).put LMP_POS_STATE.TEMP (uns 10 (x.temp.getD 0))).put
    LMP_POS_CURRENT.I_SET x.iSet).put LMP_POS_FACTOR.DERATE x.derate

/-! ### Light factors (R290, R291) -/

def ratClamp (lo hi x : Rat) : Rat := if x < lo then lo else if hi < x then hi else x

/-- Truncated to units of 2^-16; below 0 gives 0. -/
def trunc16 (x : Rat) : Nat := (x * 65536).floor.toNat

/-- I_lim of a position in mA, in binary64 (R290). -/
def State.iLim (s : State) (e : Nat) : Rat :=
  let b := s.lampOf e
  let t : Rat := (s.posTemp e : Rat) / 4
  let top : Rat := ((lpMax b : Nat) : Rat)
  let m : Rat := if t ≤ (lpKnee b : Rat) then top
    else if s.posCut e then 0
    else bMul top (bSub 1 (bMul (bMul ((lpSlope b : Nat) : Rat) (b64 (1 / 1000))) (bSub t (lpKnee b : Rat))))
  let ce : Rat := ((ceEmitter s.ceil_ : Nat) : Rat)
  let l := if ce < m then ce else m
  if l < 0 then 0 else l

/-- ρ, in binary64 (R290). -/
def State.rho (s : State) (e : Nat) : Rat :=
  let b := s.lampOf e
  let d : Rat := bAdd 1 (bMul (bMul (lpKeff b : Rat) (b64 (1 / 100000))) (bSub ((s.posTemp e : Rat) / 4) (lpTcal b : Rat)))
  if d = 0 then 5 / 4 else ratClamp (3 / 4) (5 / 4) (bDiv 1 d)

/-- Chain states of Table LMP-17. -/
abbrev chOff : Nat := 0
abbrev chRunning : Nat := 1
abbrev chBroken : Nat := 2
abbrev chStarting : Nat := 3

def State.chainState (s : State) (c : Nat) : Nat := s.get (LMP_CHAIN_STATUS.STATE c)

/-- d_e in 2^-16: 0 for a position that is off for a fault, in a broken chain, or invalid (R290). -/
def State.derateOf (s : State) (e : Nat) : Nat :=
  if !s.lampValid e || (s.pos e).faultOff || s.chainState (e / 256) == chBroken || s.posCut e then 0
  else
    let th : Rat := ((lpTh (s.lampOf e) : Nat) : Rat)
    trunc16 (ratClamp 0 1 (bDiv (bSub (s.iLim e) th) (bMul (bSub ((s.iCal e : Nat) : Rat) th) (s.rho e))))

/-- Positions of a primary in a group, over every chain. -/
def State.emitters (s : State) (g p : Nat) : List Nat :=
  (lmAll s.lampMap).filter (fun e => lmPosGroup s.lampMap e == g && lmPosPrim s.lampMap e == p)

/-- Primaries that a group carries. -/
def State.groupPrims (s : State) (g : Nat) : List Nat :=
  idxWhere 8 (fun p => (lmAll s.lampMap).any (fun e => lmPosGroup s.lampMap e == g && lmPosPrim s.lampMap e == p))

/-- Groups with positions on a chain. -/
def State.chainGroups (s : State) (c : Nat) : List Nat :=
  idxWhere 64 (fun g => (lmUsed s.lampMap c).any (fun e => lmPosGroup s.lampMap e == g))

/-- D of a group and primary (R291); 0 where no position is valid (DEDUCED, log 48). -/
def State.groupDerate (s : State) (g p : Nat) : Nat :=
  let l := (s.emitters g p).filter s.lampValid
  let w := fun e => lpEff (s.lampOf e) * (s.iCal e - lpTh (s.lampOf e))
  let tot := listSum (l.map w)
  if tot = 0 then 0 else listSum (l.map (fun e => w e * s.derateOf e)) / tot

/-- min(D, LIGHT_MAX) of a group and primary in 2^-16. -/
def State.groupCap (s : State) (g p : Nat) : Nat := min (s.groupDerate g p) (ceLight s.ceil_ p * 65536 / 10000)

/-- P of a group and primary by the policy of R186 (R291). -/
def State.groupPolicy (s : State) (g p : Nat) : Nat :=
  if s.actFlag COL_CTRL.KEEP_LEVEL then s.groupCap g p
  else listMin 65536 ((s.groupPrims g).map (s.groupCap g))

/-- γ as last granted (R302). -/
def State.grant (s : State) (g : Nat) : Nat := s.get (LMP_GROUP_GRANT.GAMMA g)

/-- K in 2^-16: KNEE sixteenths (R288). -/
def State.kneeK (s : State) : Nat := s.actGet LMP_CTRL.KNEE * 4096

/-- q for a light factor (R291). -/
def dutyFor (k f : Nat) : Nat := if k ≤ f then 65536 else f * 65536 / k

/-- y of a position for its group's f, D and q (R291). -/
def driveFactor (f d dg q : Nat) : Nat := if dg = 0 ∨ q = 0 then 0 else f * d / dg * 65536 / q

/-- The trim as a signed number. -/
def State.trimOf (s : State) (e : Nat) : Int := sgn 16 (s.trimNow (lmPosPrim s.lampMap e))

/-- I_SET in 0.25 mA for a drive factor (R292). -/
def State.iSetFor (s : State) (e y : Nat) : Nat :=
  let th : Rat := ((lpTh (s.lampOf e) : Nat) : Rat)
  let i : Rat := (th + (((s.iCal e : Nat) : Rat) - th) * s.rho e * (((y : Nat) : Rat) / 65536)) *
    (65536 + (s.trimOf e : Rat)) / 65536
  let l := s.iLim e
  (4 * (if l < i then l else i)).floor.toNat

/-- The current of a lit position in a colour session (R405). -/
def State.iPatch (s : State) (e level : Nat) : Nat :=
  let i : Rat := ((lpMax (s.lampOf e) * level : Nat) : Rat) / 10000 * (65536 + (s.trimOf e : Rat)) / 65536
  let l := s.iLim e
  (4 * (if l < i then l else i)).floor.toNat

/-! ### Drive words (R280, R293) -/

/-- A drive word with its CRC (Table LMP-2). -/
def driveWord (output : Nat) (en dac : Bool) (iSet iTh seq : Nat) : Nat :=
  let w := 2 ^ 61 + output % 16 * 2 ^ 57 + boolNat en * 2 ^ 56 + boolNat dac * 2 ^ 55 + min iSet (2 ^ 18 - 1) * 2 ^ 34 +
    min iTh (2 ^ 14 - 1) * 2 ^ 20 + seq % 256 * 2 ^ 8
  w + crc8 w

/-- A NOP word (R280). -/
def nopWord : Nat := crc8 0

/-- The drive word of a position in an update; `light` holds f and D by group × 8 + primary as f × 2^17 + D. -/
def State.posWord (s : State) (e seq : Nat) (light : Tbl Nat) (nops : Bool) : Nat :=
  let b := s.lampMap
  if nops || lmPosLine b e == 0xFF then nopWord
  else
    let g := lmPosGroup b e
    let p := lmPosPrim b e
    let dac := lmPosDac b e
    let o := lmGateOut b (lmPosLine b e)
    let out := if o < 16 then o else o - 16
    let fd := tget 0 light (g * 8 + p)
    let d := s.derateOf e
    let alive := s.lampValid e && !(s.pos e).faultOff && !s.posCut e && s.chainState (e / 256) != chBroken
    let th := if s.lampValid e then 4 * lpTh (s.lampOf e) else 0
    match s.lmp.patch with
    | some x =>
      let lit := !dac && x.group == g && x.prims.contains p && alive
      driveWord out lit dac (if lit then s.iPatch e x.level else 0) th seq
    | none =>
      let y := if dac then 65536 else driveFactor (fd / 2 ^ 17) d (fd % 2 ^ 17) (dutyFor s.kneeK (fd / 2 ^ 17))
      driveWord out (alive && y != 0) dac (if s.lampValid e then s.iSetFor e y else 0) th seq

/-! ### Chain updates (R282, R285 to R287) -/

def State.chain (s : State) (c : Nat) : ChainSt := tget ChainSt.init s.lmp.chains c

def State.setChain (s : State) (c : Nat) (x : ChainSt) : State :=
  { s with lmp := { s.lmp with chains := tset s.lmp.chains c x } }

/-- The length of an update in gate steps (R282): a bit takes CLK_DIV periods of 500 MHz. -/
def State.updateSteps (s : State) (c : Nat) : Nat := (64 * lmPositions s.lampMap c + 16) * lmClkDiv s.lampMap c * 8

/-- An update of a chain may start: its latch, where a schedule places one, is no more than 20 us and the update's length away
(R285). -/
def State.updateDue (s : State) (c : Nat) : Bool :=
  let at_ := [s.tim.lfn, (s.tim.lfn + 1) % 2 ^ 32].filterMap (fun n => s.eventInstant ⟨.latch, n, c, 0, 0⟩)
  s.freeLatch c || at_.isEmpty || at_.any (fun i => decide (s.now ≤ i) && decide (i ≤ s.now + 20 * usSteps + s.updateSteps c))

/-- The light factors of a chain's groups and what a latch puts in force. In a colour session the patch's group runs
with q = 1 (R405). -/
def State.chainLight (s : State) (c : Nat) : Tbl Nat :=
  (s.chainGroups c).flatMap (fun g => (s.groupPrims g).map (fun p =>
    (g * 8 + p, s.groupPolicy g p * s.grant g / 65536)))

/-- GROUP_LIGHT shows the lowest f in force of a group. -/
def State.showLight (s : State) (g : Nat) : State :=
  s.put (LMP_GROUP_LIGHT.F g) (listMin 65536 ((s.groupPrims g).map (fun p => s.lightOf g p)))

/-- Light factors, duties and grants come into force (R291, R303). -/
def State.latchLight (s : State) (light duty gamma : Tbl Nat) : State :=
  let s1 := { s with
    lmp := { s.lmp with
      duty := duty.foldl (fun t e => tset t e.1 e.2) s.lmp.duty
      gamma := gamma.foldl (fun t e => tset t e.1 e.2) s.lmp.gamma }
    col := { s.col with light := light.foldl (fun t e => tset t e.1 e.2) s.col.light } }
  (foldOver gamma (fun e (t : State) => t.showLight e.1) s1).showPrims

/-- A cutoff event as an emitter reaches T_CUT, and d_e as the update forms it (R290). -/
def State.formDerates (s : State) (c : Nat) : State :=
  (foldOver (lmUsed s.lampMap c) (fun e (t : State) =>
    if !t.lampValid e then t
    else
      let x := t.pos e
      let cut := t.posCut e
      let t1 := t.setPos e { x with cut := cut, derate := t.derateOf e }
      if cut && !x.cut then t1.raise 0x0204 e (uns 32 (t.posTemp e)) 0 else t1) s).showPos

/-- CHAIN_UPDATE_START (R282, R285): the words are computed from the factors in force now and shifted behind the
marker. A broken chain's positions count as derated to 0 from here (R287). -/
def doChainUpdateStart (dt c : Nat) (s : State) : State :=
  let t := s.tick dt
  t.onLiveIf (decide (c < 4) && t.chainState c != chOff && !((t.chain c).upd.any (fun u => !u.ended)) && t.updateDue c) fun v =>
    let u := v.formDerates c
    let seq := (u.get (LMP_CHAIN_STATUS.UPDATE_SEQ c) + 1) % 256
    let light := u.chainLight c
    let fd := light.map (fun e => (e.1, e.2 * 2 ^ 17 + u.groupDerate (e.1 / 8) (e.1 % 8)))
    let n := lmPositions u.lampMap c
    let words := (List.range n).map (fun i => u.posWord (256 * c + i) seq fd (u.chainState c == chStarting))
    let duty := light.map (fun e => (e.1, if u.lmp.patch.isSome then 65536 else dutyFor u.kneeK e.2))
    let gamma := (u.chainGroups c).map (fun g => (g, u.grant g))
    let prims := ((lmUsed u.lampMap c).map (lmPosPrim u.lampMap)).eraseDups
    let upd : UpdSt :=
      { start := u.now, seq := seq, words := words, light := light, duty := duty, gamma := gamma,
        trims := prims.map (fun p => (p, u.trimNow p)), ok := false, ended := false }
    let w := ((u.put (LMP_CHAIN_STATUS.UPDATE_SEQ c) seq).setChain c { u.chain c with upd := some upd }).send
      (.chainWords c ((0xA500 + seq) :: words.reverse))
    if w.chainState c = chBroken then w.latchLight light duty gamma else w

/-! ### Scan engines' light -/

def State.engine (s : State) (n : Nat) : EngineSt := tget EngineSt.init s.scn.engines n

def State.setEngine (s : State) (n : Nat) (x : EngineSt) : State :=
  { s with scn := { s.scn with engines := tset s.scn.engines n x } }

/-- An engine's DAC codes go to 0 and its gate lines low. -/
def State.scanDark (s : State) (n : Nat) : State :=
  let x := s.engine n
  if x.drive.isEmpty then s else (s.setEngine n { x with drive := [] }).send (.scanOut n [])

/-! ### Heartbeats (R296 to R299) -/

/-- The first failing condition of Table LMP-7; 0 when all hold. -/
def State.stopCause (s : State) : Nat :=
  if s.lmp.clockStopped then 4 else if !s.lmp.fed then 1 else if s.lmp.ilStop then 2 else if s.glb.hwClass then 3
  else if !s.flag HIF_STATUS.STARTUP_DONE || s.cfg.safeIdle then 5 else if s.flag LMP_SAFETY.FORCE_OFF then 6 else 0

/-- Heartbeats and the device-wide stop as the conditions stand (R296, R299); scan engines go dark with them (R276). -/
def State.hbUpdate (s : State) : State :=
  let cause := s.stopCause
  let s1 := s.put LMP_HB.RUNNING (maskOf 4 (fun c => cause == 0 && s.chainState c == chRunning && !bitAt (s.get LMP_HB.OFF) c))
  if cause ≠ 0 then
    let s2 := foldOver (List.range 4) (fun n t => t.scanDark n)
      (({ s1 with lmp := { s1.lmp with restartAt := none } }).put LMP_SAFETY.CAUSE cause)
    if s2.flag LMP_SAFETY.STOPPED then s2
    else ((s2.putB LMP_SAFETY.STOPPED true).incSat LMP_SAFETY.STOPS 1).raise 0x0205 cause 1 0
  else if s1.flag LMP_SAFETY.STOPPED && s1.lmp.restartAt.isNone then
    { s1 with lmp := { s1.lmp with restartAt := some s1.now } }
  else s1

/-- The stop clears at the first boundary at least 20 us after the restart (R299). -/
def State.stopBoundary (s : State) : State :=
  if s.flag LMP_SAFETY.STOPPED && s.stopCause == 0 && s.lmp.restartAt.any (fun t => decide (t + 20 * usSteps ≤ s.now)) then
    let cause := s.get LMP_SAFETY.CAUSE
    (({ s with lmp := { s.lmp with restartAt := none } }).put LMP_SAFETY.STOPPED 0 |>.put LMP_SAFETY.CAUSE 0).raiseB 0x0205 cause 0 0
  else s

/-- 1.5 LFs in gate steps (R297). -/
def State.enableSteps (s : State) : Nat := 3 * s.tim.p16 / 131072

/-- WATCHDOG_TOKEN (R297): a valid token for the next LF renews the enable on both timers. -/
def doWatchdogToken (dt hi lo : Nat) (s : State) : State :=
  let t := s.tick dt
  let next := if t.tim.bootLf then 0 else (t.tim.lfn + 1) % 2 ^ 32
  t.onLiveIf (t.cfg.imageRunning && lo == next && hi + lo == 2 ^ 32 - 1 && !t.withheld roleSys 0) fun u =>
    { u with lmp := { u.lmp with
      token := some next
      expiry0 := u.now + u.enableSteps
      expiry1 := u.now + u.enableSteps } }

/-- WATCHDOG_EXPIRY (R297): timer 0 runs on the always-on clock and timer 1 on the gate timing clock; the enable
lapses when either expires. -/
def doWatchdogExpiry (dt timer : Nat) (s : State) : State :=
  let t := s.tick dt
  t.onLiveIf (t.lmp.fed && decide ((if timer = 0 then t.lmp.expiry0 else t.lmp.expiry1) ≤ t.now)) fun u =>
    ({ u with lmp := { u.lmp with
      fed := false
      validRun := 0 } }).hbUpdate

/-- The token check at the boundary of LF `lfn` (R297). -/
def State.watchdogBoundary (s : State) : State :=
  if s.lmp.token = some s.tim.lfn then
    let run := s.lmp.validRun + 1
    { s with lmp := { s.lmp with
      token := none
      validRun := run
      fed := s.lmp.fed || decide (2 ≤ run) } }
  else
    ({ s with lmp := { s.lmp with
      token := none
      validRun := 0
      fed := false } }).inc LMP_HB.WDOG_MISSES

/-! ### Gate lines (R294, R298, R303) -/

/-- The group and primary of a gate line. -/
def State.lineGroup (s : State) (l : Nat) : Nat × Nat :=
  let b := s.lampMap
  match (lmAll b).find? (fun e => lmPosLine b e == l) with
  | some e => (lmPosGroup b e, lmPosPrim b e)
  | none => (0, 0)

/-- s_g as a fraction: the γ granted over the γ latched while it is lower (R303). -/
def State.interim (s : State) (g : Nat) : Nat × Nat :=
  let a := tget 65536 s.lmp.gamma g
  if s.grant g < a then (s.grant g, a) else (1, 1)

/-- N_act := round(N × q × s) for a line (R294). -/
def State.pulseSteps (s : State) (l n : Nat) : Nat :=
  let g := s.lineGroup l
  let q := tget 65536 s.lmp.duty (g.1 * 8 + g.2)
  let r := s.interim g.1
  divRound (n * q * r.1) (65536 * r.2)

/-- A line goes high. -/
def State.raiseLine (s : State) (l : Nat) (g : GateSt) : State :=
  ({ s with lmp := { s.lmp with gates := tset s.lmp.gates l g } }).send (.gate l true)

/-- Lines in a list go low at once. -/
def State.dropLines (s : State) (lines : List Nat) : State :=
  foldOver lines (fun l (t : State) =>
    if thas t.lmp.gates l then
      ({ t with lmp := { t.lmp with gates := tdel t.lmp.gates l } }).send (.gate l false)
    else t) s

/-- High lines of an output. -/
def State.highLines (s : State) (o : Nat) : List Nat :=
  (s.lmp.gates.filter (fun e => e.2.output == o)).map (·.1)

/-- Every gate line low (R298, R384). -/
def State.allGatesLow (s : State) : State := s.dropLines (tkeys s.lmp.gates)

/-- A light cut of R51 is in force for an output: it carries slots of a cut camera's view. -/
def State.shutterCut (s : State) (o : Nat) : Bool :=
  (List.range 4).any (fun n =>
    let x := tget CamSt.init s.tim.cams n
    x.cut != 0 && decide (s.now < x.cutEnd) && bitAt (s.viewMask [] o) n)

/-- Whether a slot of the running LF may light: no dark LF, no suppression, no cut, no forced-low gates (R36, R40, R245,
R247, R51, R298, R384). -/
def State.mayLight (s : State) (o slot : Nat) : Bool :=
  let k := readyKey o slot s.tim.lfn
  !s.tim.darkLf && !s.apt.suppressed.contains k && !s.apt.cuts.contains k && !s.shutterCut o && !s.lmp.ilStop && !s.glb.hwClass

/-- GATE_EDGE (R294, R303): a rise fires the slot's pulse on one line, a late-placed pulse only as its end allows; a fall
ends a pulse that has run its steps, or that a late removal ends at once (R18). -/
def doGateEdge (dt o slot line : Nat) (rise : Bool) (s : State) : State :=
  let t := s.tick dt
  t.onLive fun u =>
    let e : FabEvent := { kind := if rise then .gateRise else .gateFall, lfn := u.tim.lfn, unit_ := o, slot := slot, line := line }
    if rise then
      (match u.slotNow o slot with
       | none => u
       | some x =>
         let ok := u.eventDue e && (u.linesOf o x.prim).contains line && decide (o < 16) && !x.dark
         let n := u.pulseSteps line x.n
         let stop := u.phaseInstant (x.light + x.len)
         if !ok then u
         else if x.late && decide (u.now + n < stop) then u
         else
           let v := u.takeEvent e
           if !v.mayLight o slot || thas v.lmp.gates line then v
           else if n < 8 ∨ stop < v.now + n then v.inc LMP_STATUS.OMITTED
           else v.raiseLine line { start := v.now, n := x.n, output := o, slot := slot })
    else
      match tfind u.lmp.gates line with
      | none => u.takeEvent e
      | some g =>
        if g.output = o ∧ g.slot = slot ∧ (g.start + u.pulseSteps line g.n ≤ u.now ∨ u.eventDue e) then
          (u.takeEvent e).dropLines [line]
        else u

/-! ### Steps and latches (R283, R285) -/

/-- CURRENT_STEP: the STEP frame of a slot acts at its reset on every chain that carries the output; none does in a dark LF
(R36, R40). -/
def doCurrentStep (dt o slot : Nat) (s : State) : State :=
  let t := s.tick dt
  let e : FabEvent := { kind := .step, lfn := t.tim.lfn, unit_ := o, slot := slot, line := 0 }
  t.onLiveIf (t.eventDue e) fun u =>
    match u.slotNow o slot with
    | none => u.takeEvent e
    | some x =>
      if u.tim.darkLf then u.takeEvent e else
      let v := { u.takeEvent e with lmp := { u.lmp with steps := tset u.lmp.steps o x.cstep } }
      foldOver ((v.chainsOf o).filter (fun c => v.chainState c != chOff))
        (fun c (w : State) => w.send (.chainFrame c 2 (o * 16 + x.cstep))) v

/-- What a LATCH puts in force (R283, R291, R303). -/
def State.latchChain (s : State) (c : Nat) (u : UpdSt) : State :=
  let s1 := (s.send (.chainFrame c 1 u.seq)).put (LMP_CHAIN_LAST_LATCH.LFN c) s.tim.lfn
  let s2 := foldOver (List.range u.words.length) (fun i (t : State) =>
    let e := 256 * c + i
    let i0 := bitsOf (nthD u.words i 0) 51 34
    let t1 := if t.posUsed e then t.setPos e { t.pos e with iSet := i0 } else t
    match t1.lmp.patch with
    | some x =>
      if t1.posUsed e && bitAt (nthD u.words i 0) 56 && x.prims.length == 1 then
        let a := tget { current := 0, temp := 0, count := 0 } t1.lmp.patchSums e
        let b : PatchSum := { current := a.current + i0, temp := a.temp + t1.posTemp e, count := a.count + 1 }
        { t1 with lmp := { t1.lmp with patchSums := tset t1.lmp.patchSums e b } }
      else t1
    | none => t1) s1
  ((s2.setChain c { s2.chain c with upd := none }).latchTrims u.trims).latchLight u.light u.duty u.gamma |>.showPos

/-- CHAIN_LATCH (R283, R285): an update whose marker check passed is latched, at its scheduled instant or, where no schedule
places it, as its event is delivered (R16); a failed one gets no LATCH (Table LMP-5). -/
def doChainLatch (dt c : Nat) (s : State) : State :=
  let t := s.tick dt
  let e : FabEvent := { kind := .latch, lfn := t.tim.lfn, unit_ := c, slot := 0, line := 0 }
  t.onLiveIf (decide (c < 4) && t.eventDue e) fun u =>
    let v := u.takeEvent e
    match (v.chain c).upd with
    | some x => if x.ended && x.ok then v.latchChain c x else v
    | none => v

/-! ### Readback (R286, R287) -/

/-- One position's readback word (Table LMP-4, Table LMP-5). -/
def State.takeReadback (s : State) (e w : Nat) : State :=
  let c := e / 256
  let x := s.pos e
  if crc8 (w / 256 * 256) ≠ w % 256 then
    (s.incSat (LMP_CHAIN_FAILS.RB_CRC c) 1).setPos e { x with noRb := satAdd 8 x.noRb 1 }
  else if bitsOf w 63 61 ≠ 5 then s.setPos e { x with noRb := satAdd 8 x.noRb 1 }
  else
    let fault := bitsOf w 60 57
    let off := bitAt fault 1 || bitAt fault 2
    let s1 := s.setPos e
      { x with
        temp := some (sgn 10 (bitsOf w 56 47))
        noRb := 0, fault := fault
        faultOff := x.faultOff || off }
    let s2 := if bitAt fault 3 then s1.incSat (LMP_CHAIN_FAILS.WORD c) 1 else s1
    if off && !x.faultOff then s2.raise 0x0202 e fault 0 else s2

/-- The chain becomes BROKEN (Table LMP-5). -/
def State.breakChain (s : State) (c : Nat) : State :=
  if s.chainState c = chBroken then s
  else ((s.put (LMP_CHAIN_STATUS.STATE c) chBroken).raise 0x0201 c 1 0).hbUpdate

/-- CHAIN_UPDATE_END (R282, R286, R287): `delay` is the return delay measured at chain start, `marker` the 16 bits at the
marker's place and `words` the readback of positions POSITIONS − 1 down to 0, as the drivers returned them; where the meter
does not pass the return, none arrives (R21, R364). -/
def doChainUpdateEnd (dt c delay marker : Nat) (words : List Nat) (s : State) : State :=
  let t := s.tick dt
  t.onLiveIf (decide (c < 4) && (t.chain c).upd.any (fun u => !u.ended && decide (u.start + t.updateSteps c ≤ t.now))) fun v =>
    match (v.chain c).upd with
    | none => v
    | some u =>
      let x := v.chain c
      let ok := marker == 0xA500 + u.seq && decide (delay ≤ 8) && v.mtrPasses c
      let v1 := if v.chainState c = chStarting then v.put (LMP_CHAIN_STATUS.RET_DELAY c) (min delay 8) else v
      let n := lmPositions v1.lampMap c
      let v2 := foldOver (List.range n) (fun i (r : State) =>
        let e := 256 * c + i
        if !r.posUsed e then r
        else if ok then r.takeReadback e (nthD words (n - 1 - i) 0)
        else r.setPos e { r.pos e with noRb := satAdd 8 (r.pos e).noRb 1 }) v1
      let v3 := v2.setChain c { x with
        good := if ok then satAdd 4 x.good 1 else 0
        upd := some { u with
          ok := ok
          ended := true } }
      if !ok then ((v3.incSat (LMP_CHAIN_FAILS.MARKER c) 1).breakChain c).showPos
      else
        let st := v3.chainState c
        let joins := decide (4 ≤ (v3.chain c).good) && (st == chStarting || (st == chBroken && v3.flag LMP_CTRL.AUTO_REJOIN))
        let v4 := if joins then v3.put (LMP_CHAIN_STATUS.STATE c) chRunning else v3
        let v5 := if joins && st == chBroken then v4.raise 0x0201 c 0 0 else v4
        (if joins then v5.hbUpdate else v5).showPos

/-- Chains in use start (R287, R390). -/
def State.startChains (s : State) : State :=
  (foldOver (idxWhere 4 (bitAt (lmChains s.lampMap))) (fun c (t : State) =>
    (t.put (LMP_CHAIN_STATUS.STATE c) chStarting).setChain c ChainSt.init) s).hbUpdate

/-- POSITION_CLEAR_FAULT (R287). -/
def doPositionClearFault (dt : Nat) (s : State) : State :=
  (s.tick dt).onReach fun t =>
    let e := t.get LMP_POS_SEL.POSITION
    let x := t.pos e
    (t.setPos e
      { x with
        faultOff := false }).showPos

/-! ### Interlock and forcing (R296, R298, R23) -/

/-- INTERLOCK_OPEN: a low of at least 20 ns forces every gate line low and stops every heartbeat. -/
def doInterlockOpen (dt ns : Nat) (s : State) : State :=
  (s.tick dt).onLiveIf (decide (20 ≤ ns)) fun t =>
    ((({ t with lmp := { t.lmp with ilStop := true } }).putB LMP_SAFETY.INTERLOCK false).allGatesLow).hbUpdate

/-- INTERLOCK_CLOSE: the pin is high again; the hold time starts. -/
def doInterlockClose (dt : Nat) (s : State) : State :=
  (s.tick dt).onLiveIf (!(s.tick dt).flag LMP_SAFETY.INTERLOCK) fun t =>
    ({ t with lmp := { t.lmp with ilHigh := t.now } }).putB LMP_SAFETY.INTERLOCK true

def State.endInterlock (s : State) : State := ({ s with lmp := { s.lmp with ilStop := false } }).hbUpdate

/-- INTERLOCK_HOLD_EXPIRY. -/
def doInterlockHoldExpiry (dt : Nat) (s : State) : State :=
  let t := s.tick dt
  t.onLiveIf (t.lmp.ilStop && t.flag LMP_SAFETY.INTERLOCK && !ceLatching t.ceil_ &&
      decide (t.lmp.ilHigh + max 1 (ceHold t.ceil_) * msSteps ≤ t.now)) fun u => u.endInterlock

/-- INTERLOCK_REARM: the PF writes LMP_SAFETY.REARM; it clears itself. -/
def doInterlockRearm (dt : Nat) (s : State) : State :=
  let t := s.tick dt
  t.onReachIf (t.lmp.ilStop && t.flag LMP_SAFETY.INTERLOCK && ceLatching t.ceil_) fun u => u.endInterlock

/-- FORCE_OFF_WRITE. -/
def doForceOffWrite (dt : Nat) (on : Bool) (s : State) : State :=
  (s.tick dt).onReach fun t => (t.putB LMP_SAFETY.FORCE_OFF on).hbUpdate

/-- GATE_CLOCK_STOP (R23). -/
def doGateClockStop (dt : Nat) (s : State) : State :=
  (s.tick dt).onLive fun t => ({ t with lmp := { t.lmp with clockStopped := true } }).hbUpdate

/-! ### Photo-sense (R295, R187) -/

/-- The slot of the running LF in whose light interval a phase lies. -/
def State.slotAtPhase (s : State) (o ph : Nat) : Option Nat :=
  match s.runSched o with
  | none => none
  | some x =>
    let l := x.slotsAt s.tim.lfn
    (List.range l.length).find? (fun i => (l[i]?).any (fun e => decide (e.light ≤ ph) && decide (ph ≤ e.light + e.len)))

/-- A sample's reading (R295). -/
def State.senseReading (s : State) (k raw : Nat) : Nat :=
  (clampI 0 65535 (fdiv (((raw : Int) - s.getSgn (LMP_PS_CH_OFFSET.OFFSET k)) * s.get (LMP_PS_CH_GAIN.GAIN k) + 2 ^ 14) (2 ^ 15))).toNat

/-- What makes a primary's sample invalid: its slot unlit, or for a primary that only a burst serves, no burst
(R187, R270). -/
def State.sampleDark (s : State) (e : FabEvent) : Bool :=
  match s.eventOutput e with
  | some o =>
    (match (s.runSched o).bind (fun x => eventPhase x e) with
     | some ph => (match s.slotAtPhase o ph with
       | some i => !s.mayLight o i
       | none => true)
     | none => true)
  | none =>
    match s.burstEngine e.unit_ with
    | some n => !(s.engine n).burstDone || (s.engine n).cut
    | none => true

/-- A valid sample counts for the TARGET of a primary after a colour session (R407). -/
def State.targetSample (s : State) (p y : Nat) (bad : Bool) : State :=
  match s.cal.target with
  | none => s
  | some x =>
    if bad || y == 0 || decide (65535 ≤ y) || x.first.isNone || !x.prims.contains p then s
    else
      let v := tget (0, 0) x.sums p
      { s with cal := { s.cal with target := some { x with sums := tset x.sums p (v.1 + y, v.2 + 1) } } }

/-- The heartbeat of a chain that drives a primary is stopped (R187, R296). -/
def State.hbStopped (s : State) (p : Nat) : Bool :=
  (List.range 4).any (fun c => (bitAt (s.get LMP_HB.OFF) c || s.chainState c == chBroken) &&
    (lmUsed s.lampMap c).any (fun e => lmPosPrim s.lampMap e == p))

/-- REFERENCE_SAMPLE (R187, R295): `raw` is the mean of the sample's conversions. A primary that an array output shows
is sampled at its scheduled instant, another at its burst. -/
def doReferenceSample (dt p raw : Nat) (s : State) : State :=
  let t := s.tick dt
  let e : FabEvent := { kind := .sample, lfn := t.tim.lfn, unit_ := p, slot := 0, line := 0 }
  t.onLiveIf (t.eventDue e || !t.arrayShows [] p) fun u =>
    match u.senseOf p with
    | none => u.takeEvent e
    | some k =>
      let y := u.senseReading k raw
      let dark := u.stopCause != 0 || u.glb.hwClass || u.tim.darkLf || u.sampleDark e || u.hbStopped p
      let scaled := (u.groupsWith p).any (fun g => (u.interim g).2 != 1)
      let v := (u.takeEvent e).put (LMP_PS_CH_LAST.Y k) y
      let w := if scaled then v.inc (LMP_PS_CH_LAST.INVALID k) else v
      (w.targetSample p y (dark || scaled)).loopSample p y (dark || scaled)

/-! ### The budget arbiter (R301 to R303, R391 to R394) -/

/-- Overlap of two intervals. -/
def overlap (a b c d : Nat) : Nat := min b d - max a c

/-- The instant of a phase of the running LF, or of the next one. -/
def State.phaseOf (s : State) (next : Bool) (ph : Nat) : Nat :=
  if next then (s.tim.lfStart16 + s.tim.p16 + 32768) / 65536 + ph * s.tim.p16 / (2 ^ 24 * 65536) else s.phaseInstant ph

/-- Steps of the coming tick for which the gate lines of an output and primary are high by the schedule in force, pulses
at duty q; for a scan output, for which its enable windows are open (R302). -/
def State.gateHigh (s : State) (o p q : Nat) : Nat :=
  let t0 := s.now
  let t1 := s.now + 100 * usSteps
  match s.runSched o with
  | none => 0
  | some x =>
    listSum ([false, true].map (fun next =>
      let lfn := if next then (s.tim.lfn + 1) % 2 ^ 32 else s.tim.lfn
      if o < 16 then
        listSum ((x.slotsAt lfn).map (fun e =>
          if e.prim ≠ p ∨ e.dark then 0
          else
            let n := divRound (e.n * q) 65536
            let a := s.phaseOf next e.light
            let b := s.phaseOf next (e.light + e.len)
            if e.late then overlap (b - n) b t0 t1 else overlap a (a + n) t0 t1))
      else listSum ((nthD x.windows (x.index lfn) []).map (fun w => overlap (s.phaseOf next w.1) (s.phaseOf next w.2) t0 t1))))

/-- What one emitter gives to its rail, in mA, at γ: affine above the knee and linear below it (R302; DEDUCED, log 49).
`pol` is P, `u` the fraction of the tick at γ = 1. -/
def State.emitterDemand (s : State) (e pol : Nat) (u : Rat) (gamma : Nat) : Rat :=
  if !s.lampValid e then 0
  else
    let b := s.lampMap
    let dac := lmPosDac b e
    let k := s.kneeK
    let dg := s.groupDerate (lmPosGroup b e) (lmPosPrim b e)
    let y : Rat := if dac then (((pol : Nat) : Rat) / 65536) else
      (((driveFactor pol (s.derateOf e) dg (dutyFor k pol) : Nat) : Rat) / 65536)
    let th : Rat := ((lpTh (s.lampOf e) : Nat) : Rat)
    let d : Rat := (((s.iCal e : Nat) : Rat) - th) * s.rho e
    let g : Rat := ((gamma : Nat) : Rat) / 65536
    let gk : Rat := if dac then 0 else if pol ≤ k then 1 else ((k : Nat) : Rat) / ((pol : Nat) : Rat)
    if y = 0 then 0 else if gk ≤ g then u * (th + d * y * g) else u * (th + d * y * gk) * (g / gk)

/-- A group's demand in mA at γ. -/
def State.groupDemand (s : State) (g gamma : Nat) : Rat :=
  ratSum ((s.groupPrims g).map (fun p =>
    let pol := s.groupPolicy g p
    let q := dutyFor s.kneeK pol
    ratSum ((s.emitters g p).map (fun e =>
      let o := lmGateOut s.lampMap (lmPosLine s.lampMap e)
      s.emitterDemand e pol (((s.gateHigh o p q : Nat) : Rat) / 400000) gamma))))

/-- Groups of a class on a rail: light-sequence groups, or scan groups, which hold DAC_MODE positions. -/
def State.railGroups (s : State) (r : Nat) (scan : Bool) : List Nat :=
  let b := s.lampMap
  idxWhere (min 64 (lmGroups b)) (fun g => lmRail b g == r &&
    (lmAll b).any (fun e => lmPosGroup b e == g && lmPosDac b e) == scan)

/-- The largest γ whose current fits, bit by bit from the top. -/
def gammaGo (fits : Nat → Bool) : Nat → Nat → Nat
  | 0, acc => acc
  | b + 1, acc => gammaGo fits b (if acc + 2 ^ b ≤ 65536 ∧ fits (acc + 2 ^ b) then acc + 2 ^ b else acc)

/-- γ of a class of groups on what remains of a rail, and the current it takes (R302). -/
def State.classGamma (s : State) (gs : List Nat) (left : Rat) : Nat × Rat :=
  let cur := fun gamma => ratSum (gs.map (fun g => s.groupDemand g gamma))
  let gm := gammaGo (fun g => decide (cur g ≤ left)) 17 0
  (gm, cur gm)

/-- A shortfall of a class or rail begins or ends; its beginning raises one event (R301). -/
def State.shortfall (s : State) (id grant_ : Nat) (short : Bool) : State :=
  if short then
    (if s.lmp.short.contains id then s
     else ({ s with lmp := { s.lmp with short := s.lmp.short ++ [id] } }).raise 0x0206 id grant_ 0)
  else { s with lmp := { s.lmp with short := s.lmp.short.filter (fun k => k != id) } }

/-- A group's grant; a tick below 1 is counted. -/
def State.grantGroup (s : State) (g gamma : Nat) : State :=
  let s1 := s.put (LMP_GROUP_GRANT.GAMMA g) gamma
  if gamma < 65536 then s1.incSat (LMP_GROUP_GRANT.LIMITED g) 1 else s1

/-- One rail's tick. -/
def State.railTick (s : State) (r : Nat) : State :=
  let limit : Rat := (((10 * min (s.get (LMP_RAIL_LIMIT.LIMIT r)) (s.get (LMP_RAIL_CEILING.CEILING r))) : Nat) : Rat)
  let lights := s.railGroups r false
  let scans := s.railGroups r true
  let demand := ratSum ((lights ++ scans).map (fun g => s.groupDemand g 65536))
  let a := s.classGamma lights limit
  let b := s.classGamma scans (limit - a.2)
  let s1 := foldOver lights (fun g t => t.grantGroup g a.1) s
  let s2 := foldOver scans (fun g t => t.grantGroup g b.1) s1
  let granted := ((a.2 + b.2) / 10).floor.toNat
  ((s2.putSat (LMP_RAIL_STATUS.DEMAND r) (demand / 10).floor.toNat).putSat (LMP_RAIL_STATUS.GRANTED r) granted).shortfall
    (0x100 + r) granted (decide (limit < demand))

/-- Grants by rank from an allowance: class 0 always its demand (R301). -/
def grantClasses : Nat → Nat → List Nat → List Nat
  | _, _, [] => []
  | k, left, d :: r =>
    let g := if k = 0 then d else min d left
    g :: grantClasses (k + 1) (left - g) r

/-- The power of some domains' work: one that is off counts 0 (R392). -/
def workSum (cls : Nat) (items : List (Bool × Nat × Nat)) : Nat :=
  listSum ((items.filter (·.1)).map (fun e => (Config.workPower cls e.2.1 e.2.2).toNat))

/-- Class 1: the events of the schedules in force, by output; a scan output's need its engine, an array's its plane banks (R392). -/
def State.lightWork (s : State) : List (Bool × Nat × Nat) :=
  ((List.range outputs).filter s.outExists).filterMap (fun o => (s.runSched o).map (fun x =>
    (if o < arrayOutputs then s.banksOn o else s.domOn (domScan + (o - 16)), (x.slotsAt ((s.tim.lfn + 1) % 2 ^ 32)).length, 0)))

/-- Class 2: the scan engines, and the compositor slices that serve scan outputs (R392). -/
def State.scanWork (s : State) : List (Bool × Nat × Nat) :=
  ((List.range 4).filter (fun n => s.outExists (16 + n))).flatMap (fun n =>
    [(s.domOn (domScan + n) && s.get (SCN_ENG_STATE.STATE n) != 0, 1, 0),
     (s.slicesOn (16 + n), s.get (CMP_OUT_CUT.SLICES (16 + n)), 0)])

/-- Classes 4 and 6: MEM's queued traffic of a class by controller, real-time with the bandwidth that contexts have reserved (R392). -/
def State.memWork (s : State) (realTime : Bool) : List (Bool × Nat × Nat) :=
  let held := if realTime then listSum (s.limited.map (fun c => s.get (HIF_CTX_LIMITS_2.FETCH_RSV c))) else 0
  (List.range 8).map (fun k =>
    (s.domOn (domHbmCtl + k),
     (s.mem.reqs.filter (fun r => r.realTime == realTime && r.hostFn.isNone && !r.issued && pcController r.pc == k)).length +
       ((s.mem.writeQ ++ s.mem.stalled).filter (fun w => w.realTime == realTime && s.blockCtl w.block == k)).length,
     held))

/-- Class 5: the forming passes queued and running (R392). -/
def State.formWork (s : State) : List (Bool × Nat × Nat) :=
  ((List.range arrayOutputs).filter (fun o => !(tget [] s.cmp.passes o).isEmpty)).map (fun o =>
    (s.slicesOn o, (tget [] s.cmp.passes o).length, 0))

/-- A class's demand for the coming tick: its estimate for the work already scheduled (R392). The rule says nothing of classes 0, 3
and 7: theirs come with the tick (DESIGN CHOICE, log 122). -/
def State.classDemand (s : State) (given : List Nat) (k : Nat) : Nat :=
  match k with
  | 1 => workSum 1 s.lightWork
  | 2 => workSum 2 s.scanWork
  | 4 => workSum 4 (s.memWork true)
  | 5 => workSum 5 s.formWork
  | 6 => workSum 6 (s.memWork false)
  | _ => nthD given k 0

/-- BUDGET_TICK (R301 to R303, R391 to R394): `demands` gives the demands of the classes that R392 does not derive from the
machine's work, `base` the demand of classes 0 to 3 without throttle, and the rest the power estimate of the tick that ends,
all in 0.1 W. MEM's report of real-time demand beyond a stack's grant is taken (R131). -/
def doBudgetTick (dt : Nat) (demands : List Nat) (base pkg main stack0 stack1 : Nat) (s : State) : State :=
  (s.tick dt).onLive fun t =>
    let u := ((((t.putSat THM_PWR.PACKAGE pkg).putSat THM_PWR.MAIN main).putSat THM_PWR_HBM.STACK0 stack0).putSat
      THM_PWR_HBM.STACK1 stack1)
    let hist := (pkg :: u.lmp.power).take 10000
    let allow := min (u.get LMP_PKG_LIMIT.PEAK) (10000 * u.get LMP_PKG_LIMIT.AVG - listSum (hist.take 9999))
    let ds := (List.range 8).map (t.classDemand demands)
    let d := fun k => nthD ds k 0
    let excess := main - u.get THM_CAP.MAIN_CAP
    let cut7 := min excess (d 7)
    let cut6 := min (excess - cut7) (d 6)
    let cut5 := min (excess - cut7 - cut6) (d 5)
    let want := (List.range 8).map (fun k => d k - (if k = 7 then cut7 else if k = 6 then cut6 else if k = 5 then cut5 else 0))
    let grants := grantClasses 0 allow want
    let u1 := (({ u with lmp := { u.lmp with power := hist } }).putSat LMP_PKG_STATUS.MEASURED
      (listSum hist / 10000)).putSat LMP_PKG_STATUS.ALLOW allow
    let u2 := foldOver (List.range 8) (fun k (v : State) =>
      ((v.putSat (LMP_PKG_CLASS.DEMAND k) (d k)).putSat (LMP_PKG_CLASS.GRANT k) (nthD grants k 0)).shortfall k
        (nthD grants k 0) (decide (nthD grants k 0 < d k))) u1
    let thin := [1, 2, 3].any (fun k => decide (nthD grants k 0 < d k))
    let okNow := decide (105 * base ≤ 100 * allow)
    let run := if thin || !okNow then 0 else u2.lmp.powerOk + 1
    let u3 := { u2 with
      lmp := { u2.lmp with powerOk := run }
      mem := { u2.mem with
        excess := []
        budget := [(0, 100 * u2.get THM_CAP.STACK_CAP), (1, 100 * u2.get THM_CAP.STACK_CAP)] } }
    let u4 := if thin then u3.setSource thrPower true else if 10000 ≤ run then u3.setSource thrPower false else u3
    if lmRails u4.lampMap = 0 then
      foldOver (List.range (min 64 (lmGroups u4.lampMap))) (fun g v => v.put (LMP_GROUP_GRANT.GAMMA g) 65536) u4
    else foldOver (List.range (min 8 (lmRails u4.lampMap))) (fun r v => v.railTick r) u4

/-! ### Boundaries -/

/-- A locus coordinate at a wavelength in units of 2^-3 nm × 10^-3, linear between whole nm (R184). -/
def locusAt (f : Nat → BitVec 16) (lam : Rat) : Rat :=
  let l := ratClamp 360 830 lam
  let i := l.floor.toNat
  let fr : Rat := l - ((i : Nat) : Rat)
  let a : Rat := (((f i).toNat : Nat) : Rat)
  let b : Rat := (((f (min 830 (i + 1))).toNat : Nat) : Rat)
  a + (b - a) * fr

/-- A visible emitter's estimate, x and y (R184). -/
def State.emitterXy (s : State) (e : Nat) : Rat × Rat :=
  let b := s.lampOf e
  let lam : Rat := ((lpWl b : Nat) : Rat) / 2 + (lpKwl b : Rat) / 1000 * ((s.posTemp e : Rat) / 4 - 25)
  (locusAt Config.locusX lam / 65536, locusAt Config.locusY lam / 65536)

/-- The estimate of a group's primary: FIXED from the section, else of its emitters (R184, log 22). -/
def State.groupXy (s : State) (g p : Nat) : Option (Rat × Rat) :=
  let b := s.colBase
  let es := (s.emitters g p).filter s.lampValid
  if cbKind b p = 2 ∨ (s.emitters g p).isEmpty then none
  else if cbKind b p = 1 then (let v := cbXy b (0x18 + 8 * p); some (((v.1 : Nat) : Rat) / 65536, ((v.2 : Nat) : Rat) / 65536))
  else
    match es.map s.emitterXy with
    | [] => none
    | x :: r => some (if r.all (fun y => y == x) then x else Config.groupMix (x :: r))

/-- Estimates at a boundary, and the light factors that S uses until the next (R183, R184). -/
def State.estimates (b : State) : State :=
  let s := { b with col := { b.col with lightLf := b.col.light } }
  (foldOver (List.range (min 64 (lmGroups s.lampMap))) (fun g t => foldOver (t.groupPrims g) (fun p (u : State) =>
    match u.groupXy g p with
    | none => u
    | some v => { u with col := { u.col with est := tset u.col.est (g * 8 + p) v } }) t) s).showPrims

/-- Ranges of a PF commit: KNEE from 2 to 8 (Table LMP-16). -/
def State.lmpRange (s : State) (cs : List Nat) : Bool :=
  decide (s.sg cs LMP_CTRL.KNEE < 2) || decide (8 < s.sg cs LMP_CTRL.KNEE)

/-- Words of snapshot group 0x05 (Table LMP-22). -/
def State.lmpSnap (s : State) : List Nat :=
  [s.rdN LMP_SAFETY, s.rdN LMP_HB] ++ (List.range 4).map (fun c => s.rdN (LMP_CHAIN_STATUS c)) ++
    (List.range 4).map (fun c => s.rdN (LMP_CHAIN_FAILS c)) ++ (List.range 8).map (fun r => s.rdN (LMP_RAIL_STATUS r)) ++
    (List.range 64).map (fun g => s.rdN (LMP_GROUP_GRANT g)) ++ [s.rdN LMP_PKG_STATUS, s.rdN LMP_STATUS]

end Sys2Proof.Machine
end

