-- ==== Sys2Proof/Machine/Scn.lean ====
section
/-! DEFINITION. Scan engines: the start sequence, canes and pixels, the sweep, enable windows, stalls and the SCAN_CFG
section (spec/11, R258 to R278). -/
namespace Sys2Proof.Machine

abbrev enOff : Nat := 0
abbrev enWake : Nat := 1
abbrev enSearch : Nat := 2
abbrev enRamp : Nat := 3
abbrev enLocking : Nat := 4
abbrev enRun : Nat := 5
abbrev enStalled : Nat := 6
abbrev enStopping : Nat := 7
abbrev enFault : Nat := 8

/-! ### SCAN_CFG (R278, Tables SCN-7 and SCN-8) -/

def scanDacPrims (b : List Byte) (n : Nat) : List Nat :=
  ((List.range 4).map (scDac b n)).filter (fun p => p != 0xFF)

/-- DETAIL of SCAN_CFG; `prims o` is the PRIMS mask of COLOUR_BASE and `line n d` says that LMP_MAP gives DAC d of engine n
a gate line. -/
def scanDetail (prims : Nat → Nat) (line : Nat → Nat → Bool) (b : List Byte) : Option Nat :=
  let es := idxWhere 4 (scExists b)
  let inR := fun v lo hi => decide (lo ≤ v) && decide (v ≤ hi)
  if b.length ≠ 128 then some 0x0D01
  else if (List.range 4).any (fun n => if scExists b n then decide (8 ≤ leAt b (32 * n) 1) || !bytesZero b (32 * n + 1) 1 ||
      !bytesZero b (32 * n + 0x0E) 2 || !bytesZero b (32 * n + 0x1C) 4 else !bytesZero b (32 * n) 32) then some 0x0D02
  else if es.any (fun n => !(inR (scFMin b n) 8000 64000 && decide (scFMin b n < scFMax b n) && decide (scFMax b n ≤ 64000) &&
      inR (scAmpMax b n) 1 8191 && inR (scSust b n) 1 2000)) then some 0x0D03
  else if es.any (fun n =>
      let l := scanDacPrims b n
      l.eraseDups.length != l.length || maskOf 256 (fun p => l.contains p) != prims (16 + n)) then some 0x0D04
  else if es.any (fun n => decide (scSlowHi b n < scSlowLo b n) || decide (2 ^ 18 ≤ scSlowHi b n) ||
      !inR (scSlowPark b n) (scSlowLo b n) (scSlowHi b n)) then some 0x0D05
  else if es.any (fun n => (List.range 4).any (fun d => scDac b n d != 0xFF && !line n d)) then some 0x0D06
  else none

def State.engineExists (s : State) (n : Nat) : Bool := decide (n < 4) && scExists s.scanCfg n

def State.applyScanCfg (s : State) : State :=
  foldOver (List.range 4) (fun n t =>
    ((t.put (SCN_ENG_RANGE.F_MIN_HZ n) (scFMin t.scanCfg n)).put (SCN_ENG_RANGE.F_MAX_HZ n) (scFMax t.scanCfg n)).setEngine n
      { t.engine n with slow := scSlowPark t.scanCfg n }) s

/-! ### States -/

def State.engineState (s : State) (n : Nat) : Nat := s.get (SCN_ENG_STATE.STATE n)

/-- SCN_STATUS as the engines stand. -/
def State.showScan (s : State) : State :=
  let s1 := s.put SCN_STATUS.RUN (maskOf 4 (fun n => s.engineState n == enRun))
  let s2 := s1.put SCN_STATUS.EMITTING (maskOf 4 (fun n => s1.engineState n == enRun && (s1.engine n).windowOpen))
  s2.put SCN_STATUS.STALLED (maskOf 4 (fun n => s2.engineState n == enStalled || s2.engineState n == enFault))

/-- An engine enters a state, with the cause it shows. Its real-time work ends as it leaves RUN, and the idle time of R125 begins. -/
def State.enterEngine (s : State) (n st cause : Nat) : State :=
  let t := if s.get (SCN_ENG_STATE.STATE n) = 5 then s.memBusy else s
  (((t.put (SCN_ENG_STATE.STATE n) st).put (SCN_ENG_STATE.CAUSE n) cause).setEngine n
    { t.engine n with since := t.now }).showScan

/-- The slow-axis DAC's code now: it moves linearly, updated every 1 us (R265). -/
def State.slowCode (s : State) (n : Nat) : Nat :=
  let x := s.engine n
  let us := (s.now - x.slowAt) / usSteps
  if x.slowUs ≤ us then x.slow else (x.slowFrom + tdiv (((x.slow : Int) - x.slowFrom) * us) x.slowUs).toNat

/-- The slow axis starts to move to a code, over `us` microseconds. -/
def State.moveSlow (s : State) (n code us : Nat) : State :=
  s.setEngine n { s.engine n with slow := code, slowFrom := s.slowCode n, slowAt := s.now, slowUs := us }

/-- Microseconds of a move to or from SLOW_PARK (Table SCN-5, R275; for R273, which gives none, DEDUCED, log 122). -/
abbrev parkUs : Nat := 10000

/-- An engine faults: its drive goes to 0 and its slow axis ramps to SLOW_PARK (R273, R274). -/
def State.engineFault (s : State) (n cause : Nat) : State :=
  let s1 := ((s.scanDark n).put (SCN_ENG_EST_AMP.DRIVE_MV n) 0).moveSlow n (scSlowPark s.scanCfg n) parkUs
  let x := s1.engine n
  ((s1.setEngine n
    { x with
      row := none, ready := false }).enterEngine n enFault cause).raise 0x0604 n cause 0

/-- START or AUTO_START (R274): the domain powers on. -/
def State.startEngine (s : State) (n : Nat) : State :=
  let st := s.engineState n
  if !s.engineExists n || (s.glb.hwClass && s.get THM_STATUS.STATE != 3) || !(st == enOff || st == enFault) then s
  else
    let s1 := s.setDomOn (domScan + n) true
    (s1.setEngine n { EngineSt.init with
      slow := scSlowPark s1.scanCfg n
      ampRef16 := s1.actGet (SCN_ENG_AMP.AMP_REF n) * 65536
      windowOpen := (s1.engine n).windowOpen
      stalls := (s1.engine n).stalls }).enterEngine n enWake 0

def doScanStart (dt n : Nat) (s : State) : State := (s.tick dt).onReach (fun t => t.startEngine n)

/-- STOP (R275): light goes at once; the slow axis parks and the drive brakes. -/
def doScanStop (dt n : Nat) (s : State) : State :=
  let t := s.tick dt
  t.onReachIf (t.engineExists n && t.engineState n != enOff && t.engineState n != enStopping) fun u =>
    let v := (u.scanDark n).moveSlow n (scSlowPark u.scanCfg n) parkUs
    let x := v.engine n
    (v.setEngine n
      { x with
        row := none, ready := false }).enterEngine n enStopping 0

/-- SCAN_OFFSET_DONE (Table SCN-5, step 2). -/
def doScanOffsetDone (dt n : Nat) (s : State) : State :=
  let t := s.tick dt
  t.onLiveIf (t.engineState n == enWake) fun u =>
    (u.put (SCN_ENG_EST_AMP.DRIVE_MV n) (scSust u.scanCfg n / 10)).enterEngine n enSearch 0

/-- SCAN_SEARCH_DONE (step 3): the resonance in 2^-8 Hz, or no peak. -/
def doScanSearchDone (dt n : Nat) (peak : Option Nat) (s : State) : State :=
  let t := s.tick dt
  t.onLiveIf (t.engineState n == enSearch) fun u =>
    match peak with
    | some f => (u.putSat (SCN_ENG_EST_FREQ.FREQ n) f).enterEngine n enRamp 0
    | none => u.engineFault n 5

/-- SCAN_RAMP_DONE (step 4): A_est and the drive as they stand, and whether AMP_REF was reached. -/
def doScanRampDone (dt n amp mv : Nat) (reached : Bool) (s : State) : State :=
  let t := s.tick dt
  t.onLiveIf (t.engineState n == enRamp) fun u =>
    let v := (u.putSat (SCN_ENG_EST_AMP.AMP n) amp).put (SCN_ENG_EST_AMP.DRIVE_MV n) (min mv (scSust u.scanCfg n))
    if reached then (v.setEngine n { v.engine n with lockRun := 0 }).enterEngine n enLocking 0 else v.engineFault n 6

/-- SCAN_LOCK_DONE (steps 5 and 6): the residual has stayed within LOCK_TOL for 1,024 half periods, and the slow axis moves to
SLOW_TOP over 10 ms. -/
def doScanLockDone (dt n : Nat) (s : State) : State :=
  let t := s.tick dt
  t.onLiveIf (t.engineState n == enLocking && !(t.engine n).ready && decide (1024 ≤ (t.engine n).lockRun)) fun u =>
    let v := u.moveSlow n (u.actGet (SCN_ENG_SLOW_A.SLOW_TOP n)) parkUs
    v.setEngine n
      { v.engine n with
        ready := true
        since := v.now }

/-- SCAN_BRAKE_DONE (R275). -/
def doScanBrakeDone (dt n : Nat) (s : State) : State :=
  let t := s.tick dt
  t.onLiveIf (t.engineState n == enStopping) fun u =>
    ((u.put (SCN_ENG_EST_AMP.DRIVE_MV n) 0).setDomOn (domScan + n) false).enterEngine n enOff 0

/-- Hardware shutdown: every engine that is on goes dark and faults with cause SHUTDOWN (R276). -/
def State.scanShutdown (s : State) : State :=
  foldOver (List.range 4) (fun n t =>
    if t.engineState n = enOff then t
    else
      let u := (t.scanDark n).put (SCN_ENG_EST_AMP.DRIVE_MV n) 0
      let x := u.engine n
      (u.setEngine n
        { x with
          slow := scSlowPark u.scanCfg n
          slowUs := 0
          row := none, ready := false }).enterEngine n enFault 8) s

/-! ### Canes and pixels (R260 to R264) -/

/-- Half a period of the measured frequency in gate steps (R259); the frequency is in 2^-8 Hz. -/
def State.halfPeriod (s : State) (n : Nat) : Nat := 128 * secSteps / max 1 (s.get (SCN_ENG_EST_FREQ.FREQ n))

/-- AMP_REF as slewed (R271). -/
def State.ampRef (s : State) (n : Nat) : Nat := (s.engine n).ampRef16 / 65536

/-- Boundary x of a cane: the deflection's numerator and denominator over A_est, or none where it is out of reach
(R260, R261). -/
def State.pixelCos (s : State) (n w x : Nat) : Option (Int × Int) :=
  let b : Int := (s.actGet (SCN_ENG_GEOM.USE n) : Int) * (2 * (x : Int) - (w : Int)) * (s.ampRef n : Int)
  let a : Int := (65536 * w * s.get (SCN_ENG_EST_AMP.AMP n) : Nat)
  if a ≤ b ∨ a ≤ -b then none else some (-b, a)

/-- Angle time of boundary x in the running half period (R260). -/
def State.pixelAngle (s : State) (n w x : Nat) : Option Nat :=
  (s.pixelCos n w x).map (fun c => if (s.engine n).reverse then 65536 - acosTurn c.1 c.2 else acosTurn c.1 c.2)

/-- Gate steps from the turning point to an angle time (R262). -/
def State.angleSteps (s : State) (n u : Nat) : Nat := divRound (u * s.halfPeriod n) 65536

/-- Pixels of a cane that cannot be reached (R261). -/
def State.clippedPixels (s : State) (n w : Nat) : Nat :=
  (idxWhere w (fun x => (s.pixelCos n w x).isNone || (s.pixelCos n w (x + 1)).isNone)).length

/-- The light factor of a DAC's emitter group, with the grant as it stands (R263, R303). -/
def State.dacLight (s : State) (n d : Nat) : Nat :=
  match (lmDacLines s.lampMap n d).head? with
  | none => 0
  | some l =>
    let g := s.lineGroup l
    let f := s.lightOf g.1 g.2
    let old := tget 65536 s.lmp.gamma g.1
    if old = 0 then s.groupPolicy g.1 g.2 * s.grant g.1 / 65536 else min 65536 (f * s.grant g.1 / old)

/-- G of every DAC at a cane's start (R263). -/
def State.caneGains (s : State) (n : Nat) : List Nat :=
  (List.range 4).map (fun d => (s.dacLight n d * s.get (SCN_ENG_DAC_GAIN.GAIN n d) + 2 ^ 15) / 2 ^ 16)

/-- Whether an engine may emit (R268). -/
def State.scanMayEmit (s : State) (n : Nat) : Bool :=
  s.engineState n == enRun && s.flag HIF_STATUS.STARTUP_DONE && !s.flag LMP_SAFETY.STOPPED && s.stopCause == 0 &&
    s.domOn (domScan + n) && !s.tim.darkLf && (s.engine n).windowOpen && s.lmp.patch.isNone

/-- Whether the running cane may be lit: it was in the line buffer (R268). -/
def State.scanLit (s : State) (n : Nat) : Bool := s.scanMayEmit n && !(s.engine n).missed

/-- One DAC in a pixel of n steps: code, gate start and length, and the new error term (R263, R264). -/
def dacPixel (knee level steps err : Nat) : (Nat × Nat × Nat) × Nat :=
  let lk := knee * 256
  if level = 0 then ((0, 0, 0), err)
  else if lk ≤ level then ((min ((level + 128) / 256) 4095, 0, steps), 0)
  else
    let a := err + steps * level * 16 / lk
    if 128 ≤ a then
      let k := min (a / 16) steps
      ((knee, (steps - k) / 2, k), min (a - 16 * k) 255)
    else ((0, 0, 0), a)

/-- Whether a light cut acts on a DAC: R51 cuts an output that carries the view until its next scheduled window opens, R269
the infrared primary. -/
def State.dacCut (s : State) (n d : Nat) : Bool :=
  s.shutterCut (16 + n) || (s.engine n).shut || ((s.engine n).cut && s.irPrim == some (scDac s.scanCfg n d))

/-! ### The line buffer (R14, R267) -/

/-- Canes that the line buffer holds. -/
abbrev lineDepth : Nat := 16

/-- The state as a scan output forms it in this LF: without the layers whose contexts were being reset as it began (R105). -/
def State.scanView (s : State) (o : Nat) : State := s.without o (s.scn.skip.map (fun n => (n, 0)))

/-- A cane as composition, warp and colour form it from memory. -/
def State.formCane (s : State) (n y : Nat) : List (List Nat) :=
  let v := ((s.viewsOf [] (16 + n)).head?).getD 4
  (List.range (s.outW (16 + n))).map (fun x => (s.scanView (16 + n)).levels [] (16 + n) v x y)

/-- A cane is formed into the buffer, where the output has the row and its slices are on (R32, log 120). -/
def State.bufferCane (s : State) (n y : Nat) : State :=
  if y < s.outH (16 + n) ∧ s.slicesOn (16 + n) then
    s.setEngine n { s.engine n with lines := tset (s.engine n).lines y (s.formCane n y) }
  else s

/-- Forming begins at the LF boundary with the first canes of an engine that runs. -/
def State.beginLines (s : State) (n : Nat) : State :=
  let t := s.setEngine n { s.engine n with lines := [] }
  if t.outExists (16 + n) && t.engineState n == enRun then foldOver (List.range lineDepth) (fun y u => u.bufferCane n y) t else t

/-- A cane has been drawn: its place takes the next one. -/
def State.nextLine (s : State) (n y : Nat) : State :=
  (s.setEngine n { s.engine n with lines := tdel (s.engine n).lines y }).bufferCane n (y + lineDepth)

/-- The drive of pixel x of the running cane (R263, R264); the state carries the error terms on. -/
def State.drawPixel (s : State) (n x : Nat) : State :=
  let e := s.engine n
  let o := 16 + n
  let w := s.outW o
  match e.row.bind (tfind e.lines), s.pixelAngle n w x, s.pixelAngle n w (x + 1) with
  | some cane, some a, some b =>
    let steps := s.angleSteps n (max a b) - s.angleSteps n (min a b)
    let lv := nthD cane x []
    let out := (List.range 4).map (fun d =>
      let p := scDac s.scanCfg n d
      let l := if p = 0xFF ∨ s.dacCut n d then 0 else (nthD lv p 0 * nthD e.gain d 0 + 2 ^ 15) / 2 ^ 16
      dacPixel (s.actGet (SCN_ENG_GEOM.KNEE n)) l steps (nthD e.err d 0))
    let drive := out.map (·.1)
    (s.setEngine n
      { e with
        drive := drive
        err := out.map (·.2) }).send (.scanOut n drive)
  | _, _, _ => s.scanDark n

/-- PIXEL_EDGE (R260, R262): the mirror crosses boundary x of the cane. -/
def doPixelEdge (dt n x : Nat) (s : State) : State :=
  let t := s.tick dt
  let w := t.outW (16 + n)
  t.onLiveIf (t.engineExists n && (t.engine n).row.isSome && decide (x ≤ w) && (t.pixelCos n w x).isSome) fun u =>
    let rev := (u.engine n).reverse
    if !u.scanLit n then u.scanDark n
    else if rev then (if x = 0 then u.scanDark n else u.drawPixel n (x - 1))
    else if x = w then u.scanDark n else u.drawPixel n x

/-! ### The sweep (R265, R270, R271) -/

/-- The sweep ends, and the slow axis returns to SLOW_TOP over FLYBACK_US (R265; Table SCN-10, SWEEP_STATUS). -/
def State.endSweep (s : State) (n : Nat) : State :=
  let t := s.moveSlow n (s.actGet (SCN_ENG_SLOW_A.SLOW_TOP n)) (s.actGet (SCN_ENG_LOOP.FLYBACK_US n))
  ((t.setEngine n
    { t.engine n with
      row := none
      sweepEnd := s.now }).putSat (SCN_ENG_SWEEP_STATUS.HALF_PERIODS n) (s.outH (16 + n))).putSat
    (SCN_ENG_SWEEP_STATUS.END_US n) ((s.now - s.tim.lfStart16 / 65536) / usSteps)

/-- The window that holds an instant span, if one of the running LF does. -/
def State.inWindow (s : State) (n a b : Nat) : Bool :=
  match s.runSched (16 + n) with
  | none => false
  | some x => (nthD x.windows (x.index s.tim.lfn) []).any (fun w =>
      decide (s.phaseInstant w.1 ≤ a) && decide (b ≤ s.phaseInstant w.2))

/-- Primaries whose burst this engine gives: it is the lowest-numbered one in RUN that shows them (R270). -/
def State.burstPrims (s : State) (n : Nat) : List Nat :=
  s.sensed.filter (fun p => !s.arrayShows [] p &&
    (idxWhere 4 (fun m => s.engineState m == enRun && s.outExists (16 + m) && (s.outPrims (16 + m)).contains p &&
      s.flag (SCN_ENG_CTRL.REF_BURST m))).head? == some n)

/-- The reference burst about the present turning point (R270): the code of a full level for SAMPLES × 500 ns + 1,000 ns, half of
it before the turning point, as the engine has predicted it. -/
def State.burst (s : State) (n prev : Nat) : State :=
  let x := s.engine n
  let half := s.halfPeriod n
  let ps := s.burstPrims n
  if x.burstDone || ps.isEmpty || !s.scanMayEmit n || !s.inWindow n prev (s.now + half) then s
  else
    let steps := max 1 (s.get LMP_PS_CFG.SAMPLES) * 2000 + 4000
    let drive := (List.range 4).map (fun d =>
      let p := scDac s.scanCfg n d
      let l := ((2 ^ 20 - 1) * nthD x.gain d 0 + 2 ^ 15) / 2 ^ 16
      if ps.contains p && !s.dacCut n d then (min ((l + 128) / 256) 4095, 0, steps) else (0, 0, 0))
    (s.setEngine n { x with burstDone := true }).send (.scanBurst n (s.now - steps / 2) drive)

/-- The amplitude limit's dwell (R271). -/
def State.watchLimit (s : State) (n amp mv : Nat) : State :=
  let x := s.engine n
  let atTop := decide (scSust s.scanCfg n ≤ mv)
  let low := decide (100 * amp < 98 * s.ampRef n)
  let s1 := s.putB (SCN_ENG_STATE.AMP_LIMITED n) atTop
  if atTop && low then s1.setEngine n { x with limitSince := some (x.limitSince.getD s.now) }
  else s1.setEngine n
    { x with
      limitSince := none
      limitRaised := false }

/-- The amplitude commanded moves towards AMP_REF by at most 1 % of it per ms (R271). -/
def State.slewAmp (s : State) (n : Nat) : State :=
  let x := s.engine n
  let goal := s.actGet (SCN_ENG_AMP.AMP_REF n) * 65536
  let step := goal * (s.now - x.lastTurn) / (100 * msSteps)
  let v := if x.ampRef16 ≤ goal then min goal (x.ampRef16 + step) else max goal (x.ampRef16 - step)
  s.setEngine n { x with ampRef16 := v }

/-- The estimator's outputs at a turning point: frequency, amplitude, drive and largest residual (R259). -/
def State.turnEstimate (s : State) (n : Nat) (reverse : Bool) (freq amp mv resid : Nat) : State :=
  let s1 := (((s.putSat (SCN_ENG_EST_FREQ.FREQ n) freq).putSat (SCN_ENG_EST_AMP.AMP n) amp).put
    (SCN_ENG_EST_AMP.DRIVE_MV n) (min mv (scSust s.scanCfg n))).slewAmp n
  let s2 := s1.watchLimit n amp mv
  let x := s2.engine n
  s2.setEngine n
    { x with
      lastTurn := s2.now
      reverse := reverse
      lockRun := if s2.engineState n = enLocking ∧ resid ≤ s2.get (SCN_ENG_LOCK.LOCK_TOL n) then x.lockRun + 1 else 0
      resid := max x.resid resid }

/-- The row of the cane that the turning point begins: the next row, the first row at the sweep's start, or none (R265). -/
def State.nextCane (s : State) (n : Nat) (starts : Bool) : Option Nat :=
  match (s.engine n).row with
  | some r => if r + 1 < s.outH (16 + n) then some (r + 1) else none
  | none => if starts then some 0 else none

/-- The cane that begins: its unreachable pixels are counted (R261), and with the sweep's first the slow axis begins to ramp from
SLOW_TOP to SLOW_BOT, until the sweep's last turning point at the measured frequency (R265). -/
def State.caneSlow (s : State) (n : Nat) (starts : Bool) (row : Option Nat) : State :=
  let o := 16 + n
  let t := if starts then
      s.setEngine n { s.engine n with
        slow := s.actGet (SCN_ENG_SLOW_B.SLOW_BOT n)
        slowFrom := s.actGet (SCN_ENG_SLOW_A.SLOW_TOP n)
        slowAt := s.now
        slowUs := s.outH o * s.halfPeriod n / usSteps }
    else s
  if row.isSome then t.put (SCN_ENG_CLIPPED.COUNT n) (t.get (SCN_ENG_CLIPPED.COUNT n) + t.clippedPixels n (t.outW o)) else t

/-- A half period is dark for want of its cane; the first of an LF raises the event (R267). -/
def State.missLine (s : State) (n : Nat) : State :=
  let x := s.engine n
  let v := (s.inc (SCN_ENG_LINE_MISSES.COUNT n)).setEngine n { x with missRaised := true }
  if x.missRaised then v else v.raise 0x0602 n 0 0

/-- The engine's row count and the cane's own state at a turning point of a running engine (R265, R267). -/
def State.takeCane (s : State) (n : Nat) (starts : Bool) (row : Option Nat) : State :=
  let y := s.engine n
  let s1 := match y.row with
    | some r => s.nextLine n r
    | none => s
  let s2 := if y.row.isSome && !y.missed then s1.inc (SCN_ENG_CANES.COUNT n) else s1
  let lost := row.any (fun r => !thas (s2.engine n).lines r)
  let v := if lost && !y.missNext then s2.missLine n else s2
  (v.scanDark n).setEngine n
    { v.engine n with
      drive := []
      row := row
      swept := y.swept || starts
      sweepStart := if starts then v.now else y.sweepStart
      missed := y.missNext || lost
      missNext := false
      cut := y.cut && !y.windowOpen
      gain := v.caneGains n
      err := [0, 0, 0, 0] }

/-- A turning point of a running engine: the cane that ends is counted and the next begins (R265). -/
def State.turnSweep (s : State) (n prev : Nat) (reverse : Bool) : State :=
  let y := s.engine n
  let starts := !y.swept && s.outExists (16 + n) && decide (s.phaseInstant (s.actGet (SCN_ENG_SWEEP.SLOW_START n)) ≤ s.now)
  let row := s.nextCane n starts
  let v1 := s.takeCane n starts row
  let v2 := if starts then v1.putB (SCN_ENG_SWEEP_STATUS.ROW0_REVERSE n) reverse else v1
  let v3 := if y.row.isSome && row.isNone then v2.endSweep n else v2
  let v4 := v3.caneSlow n starts row
  if starts || ((v4.engine n).swept && y.row.isSome) then v4.burst n prev else v4

/-- TURNING_POINT (R259, R265): a half period begins, forward or in reverse, with the estimator's frequency, amplitude,
drive and largest residual since the last one. -/
def doTurningPoint (dt n : Nat) (reverse : Bool) (freq amp mv resid : Nat) (s : State) : State :=
  let t := s.tick dt
  t.onLiveIf (t.engineExists n && [enRamp, enLocking, enRun, enStalled].contains (t.engineState n)) fun u =>
    let u1 := u.turnEstimate n reverse freq amp mv resid
    if u.engineState n == enStalled || u1.engineState n != enRun then u1
    else u1.turnSweep n (u.engine n).lastTurn reverse

/-- LINE_MISS (R267): the cane of the next half period is not complete. -/
def doLineMiss (dt n : Nat) (s : State) : State :=
  let t := s.tick dt
  t.onLiveIf (t.engineExists n && t.engineState n == enRun && t.outExists (16 + n)) fun u =>
    (u.setEngine n { u.engine n with missNext := true }).missLine n

/-! ### Enable windows (R268) -/

/-- An enable window of an engine closes. -/
def State.closeScanWindow (s : State) (n : Nat) : State :=
  let t := s.scanDark n
  (t.setEngine n { t.engine n with windowOpen := false }).showScan

/-- SCAN_ENABLE_EDGE: an enable window of the schedule opens, but in a dark LF (R36, R40), or closes. -/
def doScanEnableEdge (dt n slot : Nat) (open_ : Bool) (s : State) : State :=
  let t := s.tick dt
  let e : FabEvent := { kind := if open_ then .scanOpen else .scanClose, lfn := t.tim.lfn, unit_ := n, slot := slot, line := 0 }
  t.onLiveIf (decide (n < 4) && t.eventDue e) fun u =>
    let v := u.takeEvent e
    if open_ then (if v.tim.darkLf then v else (v.setEngine n
      { v.engine n with
        windowOpen := true
        shut := v.shutterCut (16 + n) }).showScan)
    else v.closeScanWindow n

/-! ### Delivery (R18, R232) -/

/-- A late light-removing event fires at once (R18). -/
def State.fireRemoval (s : State) (e : FabEvent) : State :=
  match e.kind with
  | .gateFall =>
    (match tfind s.lmp.gates e.line with
     | some g => if g.output = e.unit_ ∧ g.slot = e.slot then s.dropLines [e.line] else s
     | none => s)
  | .scanClose => s.closeScanWindow e.unit_
  | _ => s

/-- EVENT_DELIVERY (R18): less than 2 us before its instant a light-adding event is discarded and logged, and a
light-removing one fires at once; any other waits in its engine. -/
def doEventDelivery (dt : Nat) (e : FabEvent) (s : State) : State :=
  let t := s.tick dt
  t.onCoreIf (!(e.kind.adds && (t.withheld (t.feederOf e).1 (t.feederOf e).2 || t.feederOff (t.feederOf e).1 (t.feederOf e).2))) fun u =>
    if !u.eventLate e then u.holdEvent e else if e.kind.adds then u.discardEvent e else u.fireRemoval e

/-! ### Stalls (R271 to R273) -/

/-- SCAN_STALL: a condition of Table SCN-4 has held for 64 samples in RUN. -/
def doScanStall (dt n cause : Nat) (s : State) : State :=
  let t := s.tick dt
  t.onLiveIf (t.engineExists n && t.engineState n == enRun && decide (1 ≤ cause) && decide (cause ≤ 4)) fun u =>
    let v := (u.scanDark n).moveSlow n (u.slowCode n) 0
    let x := v.engine n
    let w := v.setEngine n
      { x with
        row := none
        stalls := (v.now :: x.stalls).filter (fun a => decide (v.now < a + secSteps)) }
    let w1 := if cause = 4 then w.put (SCN_ENG_EST_AMP.DRIVE_MV n) 0 else w
    (((w1.inc (SCN_ENG_STALLS.COUNT n)).put (SCN_ENG_STALL_LFN.LFN n) w1.tim.lfn).enterEngine n enStalled cause).raise 0x0601 n cause 0

/-- SCAN_STALL_RESTART (R273), with A_est as it stands. -/
def doScanStallRestart (dt n amp : Nat) (s : State) : State :=
  let t := s.tick dt
  t.onLiveIf (t.engineState n == enStalled && decide ((t.engine n).since + msSteps ≤ t.now)) fun u =>
    let recent := ((u.engine n).stalls.filter (fun a => decide (u.now < a + secSteps))).length
    let v := u.putSat (SCN_ENG_EST_AMP.AMP n) amp
    if v.flag (SCN_ENG_CTRL.AUTO_RESTART n) && decide (recent < 3) then
      v.enterEngine n (if v.ampRef n ≤ 10 * amp then enRamp else enSearch) 0
    else v.engineFault n 7

/-- AMP_LIMIT_EVENT (R271): the drive has stood at its ceiling with A_est low for 100 ms. -/
def doAmpLimitEvent (dt n : Nat) (s : State) : State :=
  let t := s.tick dt
  let x := t.engine n
  t.onLiveIf (x.limitSince.any (fun a => decide (a + 100 * msSteps ≤ t.now)) && !x.limitRaised) fun u =>
    (u.setEngine n { x with limitRaised := true }).raise 0x0603 n 0 0

/-! ### Boundaries and ranges -/

/-- SCN at a boundary: a locked engine whose slow axis has moved runs, and the LF's records begin again (R265, R274). -/
def State.scnBoundary (b : State) : State :=
  let s := { b with scn := { b.scn with skip := idxWhere 256 b.inReset } }
  (foldOver ((List.range 4).filter s.engineExists) (fun n t =>
    let x := t.engine n
    let t1 := (t.putSat (SCN_ENG_EST_ERR.RESIDUAL n) x.resid).setEngine n
      { x with
        swept := false
        row := none, missRaised := false
        burstDone := false, resid := 0
        ready := x.ready && !decide (x.since + 10 * msSteps ≤ t.now) }
    let t2 := if t1.engineState n == enLocking && x.ready && decide (x.since + 10 * msSteps ≤ t1.now) then t1.enterEngine n enRun 0
      else t1
    t2.beginLines n) s).showScan

/-- Whether a commit changes a scan output's geometry (R266). -/
def State.scanChanged (s : State) (cs : List Nat) (n : Nat) : Bool :=
  cs.contains pfCommit && [SCN_ENG_AMP n, SCN_ENG_GEOM n, SCN_ENG_SLOW_A n, SCN_ENG_SLOW_B n, SCN_ENG_SWEEP n, SCN_ENG_LOOP n].any
    (fun a => s.rd a != s.actRd a)

/-- Ranges of a PF commit (R266, Table SCN-10). -/
def State.scanRange (s : State) (cs : List Nat) : Bool :=
  (List.range 4).any (fun n => s.engineExists n && s.scanChanged cs n &&
    (let b := s.scanCfg
     let p16 := s.nominalUnder cs
     let short := p16 - p16 * 3 / 10000
     let start16 := s.sg cs (SCN_ENG_SWEEP.SLOW_START n) * short / 2 ^ 24
     let sweep16 := divUp ((s.outH (16 + n) + 1) * secSteps * 65536) (2 * max 1 (scFMin b n))
     let fly16 := s.sg cs (SCN_ENG_LOOP.FLYBACK_US n) * usSteps * 65536
     let slow := fun v => decide (scSlowLo b n ≤ v) && decide (v ≤ scSlowHi b n)
     let use := s.sg cs (SCN_ENG_GEOM.USE n)
     decide (start16 < 100 * usSteps * 65536) || decide (short < start16 + sweep16 + fly16) ||
       !slow (s.sg cs (SCN_ENG_SLOW_A.SLOW_TOP n)) || !slow (s.sg cs (SCN_ENG_SLOW_B.SLOW_BOT n)) || decide (use < 16384) ||
       decide (64225 < use) || s.sg cs (SCN_ENG_GEOM.KNEE n) == 0 || s.sg cs (SCN_ENG_AMP.AMP_REF n) == 0 ||
       decide (scAmpMax b n < s.sg cs (SCN_ENG_AMP.AMP_REF n))))

/-- Words of snapshot group 0x06 (Table SCN-11). -/
def State.scanSnap (s : State) : List Nat :=
  s.rdN SCN_STATUS :: ((List.range 4).map (fun n => s.rdN (SCN_ENG_STATE n)) ++
    (List.range 4).map (fun n => s.rdN (SCN_ENG_EST_FREQ n)) ++ (List.range 4).map (fun n => s.rdN (SCN_ENG_EST_AMP n)) ++
    (List.range 4).map (fun n => s.rdN (SCN_ENG_LINE_MISSES n)) ++ (List.range 4).map (fun n => s.rdN (SCN_ENG_STALLS n)))

end Sys2Proof.Machine
end

