-- ==== Sys2Proof/Machine/Startup.lean ====
section
/-! DEFINITION. The conditions and milestones of start-up (R441, R442, Tables GLB-15, GLB-16). -/
namespace Sys2Proof.Machine

abbrev cfgRunning : Nat := 4

/-- The conditions of R441 in the order of Table GLB-15: image, self-test, HBM3E, store, timebase, ports, chains,
calibration store. -/
def State.startConds (s : State) : List Bool :=
  [s.get CFG_STATUS.STATE == cfgRunning, s.flag GLB_BOOT_STATUS.SELFTEST, s.flag MEM_STATUS.TRAINED, s.pln.zeroed,
   s.dpll == dpllLocked || s.dpll == dpllFree,
   s.activePorts.all (fun p => s.portState p == ptRun || s.portState p == ptFault),
   (idxWhere 4 (bitAt (lmChains s.lampMap))).all (fun c => s.chainState c == chRunning || s.chainState c == chBroken),
   s.cal.read]

/-- Every local condition of R441 holds; a restart completes from STATE 3 (R390). -/
def State.localReady (s : State) : Bool :=
  s.startConds.all id && (s.get THM_STATUS.STATE == 0 || s.get THM_STATUS.STATE == 3) && !s.flag THM_STATUS.SENSOR_FAULT

/-- A milestone completes: its time since the boot instant, in µs, is kept once (Table GLB-16). -/
def State.milestone (s : State) (k : Nat) : State :=
  if s.flag (GLB_BOOT_TIME.VALID k) then s
  else (s.putSat (GLB_BOOT_TIME.US k) ((s.now - s.glb.bootTime) / usSteps)).putB (GLB_BOOT_TIME.VALID k) true

/-- GLB_BOOT_STATUS and the milestones as the conditions stand. -/
def State.showBoot (s : State) : State :=
  if s.glb.held || !s.glb.booting then s
  else
    let cs := s.startConds
    let lax := s.flag GLB_BOOT_STATUS.LAXUS
    let all := cs ++ (if s.isMember then [lax] else [])
    let c := fun k => nthD cs k false
    let s1 := (((((((s.putB GLB_BOOT_STATUS.IMAGE (c 0)).putB GLB_BOOT_STATUS.HBM (c 2)).putB GLB_BOOT_STATUS.STORE (c 3)).putB
      GLB_BOOT_STATUS.TIMEBASE (c 4)).putB GLB_BOOT_STATUS.PORTS (c 0 && c 5)).putB GLB_BOOT_STATUS.CHAINS (c 0 && c 6)).putB
      GLB_BOOT_STATUS.CALSTORE (c 7)).put GLB_BOOT_STATUS.WAITING
        (match all.findIdx? (fun b => !b) with
         | some k => k + 1
         | none => 0)
    let done := [c 1, c 0, c 2, c 4, c 0 && c 5, c 0 && c 6, lax]
    foldOver ((List.range 7).filter (fun k => nthD done k false)) (fun k t => t.milestone k) s1

/-- Start-up is complete (R441, R442): heartbeats may run. -/
def State.startupDone (s : State) : State :=
  if s.flag HIF_STATUS.STARTUP_DONE then s
  else
    let s1 := ((s.putB HIF_STATUS.STARTUP_DONE true).putB GLB_BOOT_STATUS.DONE true).milestone 7
    let s2 := if s1.isMember then s1.putSat LXS_STARTUP.MS ((s1.now - s1.glb.bootTime) / msSteps) else s1
    { s2 with glb := { s2.glb with started := true, booting := false } }.hbUpdate.memBusy

/-- A device that loses its part in the picture is dark again: STARTUP_DONE returns to 0 (R346, R347, R341). -/
def State.startupUndone (s : State) : State :=
  ((s.putB HIF_STATUS.STARTUP_DONE false).putB GLB_BOOT_STATUS.DONE false).hbUpdate

end Sys2Proof.Machine
end

