-- ==== Sys2Proof/Machine/Lxs.lean ====
section
/-! DEFINITION. LXS: ports, election, tree, time, stations, messages and rows (R332 to R347, R351 to R358). The commit
round is in Round.lean. -/
namespace Sys2Proof.Machine

/-! ### LXS_CFG and STATION_MAP (R357, R358) -/

def lxsPorts (b : List Byte) : Nat := leAt b 0 1 % 16
def lxsFlags (b : List Byte) : Nat := leAt b 2 1

def lxsCfgDetail (b : List Byte) : Option Nat :=
  if b.length ≠ 8 then some 0x0E01
  else if decide (16 ≤ leAt b 0 1) || decide (8 ≤ lxsFlags b) || !bytesZero b 3 5 then some 0x0E02
  else if lxsPorts b = 0 then some 0x0E03
  else none

/-- An entry of STATION_MAP (Table LXS-11). -/
structure StationKey where
  station : Nat
  kind : Nat
  len : Nat
  id : Nat
  path : Nat
  deriving DecidableEq, Repr

def stationKey (b : List Byte) (i : Nat) : StationKey :=
  let o := 8 + 16 * i
  { station := leAt b o 2, kind := leAt b (o + 2) 1, len := leAt b (o + 3) 1, id := leAt b (o + 4) 6, path := leAt b (o + 10) 4 }

def stationKeys (b : List Byte) : List StationKey := (List.range (leAt b 0 2)).map (stationKey b)

/-- Two keys are identical when kind, identity and path agree (check 12). -/
def StationKey.key (k : StationKey) : Nat := ((k.path * 16 + k.len) * 2 ^ 48 + k.id) * 2 + k.kind

def stationMapCheck12 (b : List Byte) : Bool :=
  decide (leAt b 0 2 ≤ 4096) && ((stationKeys b).map StationKey.key).Nodup

def stationMapDetail (member : Bool) (b : List Byte) : Option Nat :=
  let n := leAt b 0 2
  let ks := stationKeys b
  if b.length ≠ 8 + 16 * n ∨ n = 0 then some 0x0F01
  else if !bytesZero b 2 6 || (List.range n).any (fun i => !bytesZero b (8 + 16 * i + 14) 2) ||
      ks.any (fun k => decide (2 ^ (2 * k.len) ≤ k.path)) then some 0x0F02
  else if ks.any (fun k => decide (4096 ≤ k.station)) || !decide ((ks.map (·.station)).Nodup) then some 0x0F03
  else if ks.any (fun k => !(k.kind == 0 && k.len == 0) && !(k.kind == 1 && decide (k.len ≤ 14))) then some 0x0F04
  else if !member then some 0x0F05
  else none

/-- RWL fields and reset values from LXS_CFG. -/
def State.applyLxsCfg (s : State) : State :=
  let b := s.lxsCfg
  let s1 := ((s.putB LXS_CTRL.MERGE_EN (bitAt (lxsFlags b) 1)).put LXS_CTRL.PRIORITY (leAt b 1 1))
  foldOver (List.range 4) (fun j t => (t.putB (LXS_PORT_CFG.USED j) (bitAt (lxsPorts b) j)).put (LXS_PORT_CFG.RATE j)
    (lanLxsRate t.laneMap j)) s1

/-! ### Ports (Table LXS-1) -/

def State.lxUsed (s : State) (j : Nat) : Bool := decide (j < 4) && s.flag (LXS_PORT_CFG.USED j)

def State.lxEnter (s : State) (j st : Nat) : State :=
  (s.setLxPort j { s.lxPort j with since := s.now }).put (LXS_PORT_STATE.STATE j) st

/-- Lanes of a port in DATA. -/
def State.lxDataLanes (s : State) (j : Nat) : List Nat := [136 + 2 * j, 137 + 2 * j].filter (fun l => s.laneState l == lnData)

/-- A port enters TRAIN with its lanes from their presets. -/
def State.lxStartTrain (s : State) (j : Nat) : State :=
  let s1 := foldOver [136 + 2 * j, 137 + 2 * j] (fun l t =>
    if t.laneUsable l && t.laneState l != lnFailed then (t.setLxLane l LxsLane.init).trainLane l true else t) s
  s1.lxEnter j lxTrain

/-- Both lanes in electrical idle. -/
def State.lxIdle (s : State) (j : Nat) : State :=
  foldOver [136 + 2 * j, 137 + 2 * j] (fun l t =>
    if t.laneState l == lnFenced || t.laneState l == lnFailed then t else t.setLaneState l lnOff) s

/-- The image applies the ports that it uses (R332, Table LXS-7). -/
def State.startLxs (s : State) : State :=
  if !s.isMember then s
  else
    let s1 := { s with lxs := { s.lxs with imageAt := s.now } }
    foldOver (idxWhere 4 s1.lxUsed) (fun j t => t.lxStartTrain j) (s1.put LXS_STATUS.PHASE 1)

/-! ### Election (R337, R339) -/

/-- Candidate keys compare by priority, then identity. -/
def keyLess (pa ia pb ib : Nat) : Bool := decide (pa < pb) || (pa == pb && decide (ia < ib))

/-- The hellos of neighbours that the device may join. -/
def State.hellos (s : State) : List (Nat × Hello) :=
  (List.range 4).filterMap (fun j =>
    if s.lxState j == lxUp || s.lxState j == lxHello then ((s.lxPort j).hello).map (fun h => (j, h)) else none)

/-- The system has completed start-up on this device. -/
def State.lxStarted (s : State) : Bool := s.get LXS_STATUS.PHASE == 6 || s.get LXS_STATUS.PHASE == 7

def State.gen (s : State) : Nat := s.get LXS_SYSID_HI.GEN
def State.sysid (s : State) : Nat := s.rdN LXS_SYSID_LO + s.get LXS_SYSID_HI.ID_HIGH * 2 ^ 32

/-- The best root of the own key and the neighbours' keys, with its hops (R337). A device that has not started adopts
the root of a started neighbour (R338, R356), and after the loss of a root only roots of the new generation count
(R339). -/
def State.bestRoot (s : State) : Nat × Nat × Nat :=
  let hs := s.hellos.filter (fun e => decide (e.2.hops < 64) && (!s.lxStarted || (e.2.sysid == s.sysid && decide (s.gen ≤ e.2.gen))))
  let st := hs.filter (fun e => e.2.started)
  let joins := !s.lxStarted && !st.isEmpty
  let cand := (if joins then st else hs).map (fun e => (e.2.rootPrio, e.2.root, e.2.hops + 1))
  let own : Nat × Nat × Nat := (s.get LXS_CTRL.PRIORITY, s.uid, 0)
  let first := if joins then (cand.head?).getD own else own
  cand.foldl (fun a c =>
    if keyLess c.1 c.2.1 a.1 a.2.1 || (c.1 == a.1 && c.2.1 == a.2.1 && decide (c.2.2 < a.2.2)) then c else a) first

/-- LXS_ROOT and the hops show the best root known. -/
def State.showRoot (s : State) : State :=
  ((s.wrN LXS_ROOT_LO s.lxs.root).put LXS_ROOT_HI.ID_HIGH (s.lxs.root / 2 ^ 32)).put LXS_ROOT_HI.PRIORITY s.lxs.rootPrio

/-- The best root is formed again; a change restarts the 1,280 µs (R337). -/
def State.reelect (s : State) (heard : Bool) : State :=
  let b := s.bestRoot
  let moved := b != (s.lxs.rootPrio, s.lxs.root, s.lxs.hops)
  if moved || heard then
    ({ s with lxs := { s.lxs with
      rootPrio := b.1
      root := b.2.1
      hops := b.2.2
      lastChange := s.now
      electing := true } }).showRoot
  else s

/-- Words of the HELLO that this device sends on a port (Table LXS-3). -/
def State.helloWords (s : State) (j : Nat) : List Nat :=
  [s.uid + s.get LXS_CTRL.PRIORITY * 2 ^ 48 + j * 2 ^ 56 + boolNat s.lxStarted * 2 ^ 58,
   s.lxs.root + s.lxs.rootPrio * 2 ^ 48 + min 127 s.lxs.hops * 2 ^ 56,
   s.sysid + s.gen * 2 ^ 48]

/-- HELLO goes out on every port that carries one. -/
def State.sendHellos (s : State) : State :=
  foldOver (idxWhere 4 (fun j => s.lxState j == lxHello || s.lxState j == lxUp || s.lxState j == lxBlocked))
    (fun j t => t.queueMsg j 3 0x01 0 (t.helloWords j)) { s with lxs := { s.lxs with lastHello := s.now } }

/-- A port faults (Table LXS-1), with its event. -/
def State.lxFaultPort (s : State) (j code : Nat) : State :=
  (((s.lxIdle j).put (LXS_PORT_STATE.FAULT j) code).lxEnter j lxFault).raise 0x0803 j code 0

/-! ### The root time (R343) -/

/-- System time in units of 2^-48 s. -/
def State.sys48 (s : State) : Nat := s.sysNow * 65536

/-- 2^-48 s in a count of ps, rounded down. -/
def ps48 (ps : Nat) : Nat := ps * 2 ^ 48 / 1000000000000

/-- The root time at this instant: its own on the root, otherwise the value received, advanced by the delay of the
parent's link and the residence time (R343). -/
def State.rootTime48 (s : State) : Nat :=
  if s.isRoot || s.lxParent.isNone then s.sys48
  else s.lxs.time48 + ps48 ((s.now - s.lxs.timeAt) * 250)

/-- The root's phase and LFN at this instant, as this device passes them on. -/
def State.rootPhase (s : State) : Nat × Nat :=
  if s.isRoot || s.lxParent.isNone then (s.phase, s.tim.lfn)
  else
    let p := s.lxs.timePhase + (s.now - s.lxs.timeAt) * 65536 * 2 ^ 24 / max 1 s.tim.p16
    (p % 2 ^ 24, (s.lxs.timeLfn + p / 2 ^ 24) % 2 ^ 32)

/-- The device goes on from the root time that it knows now (R343); a device that has none keeps none. -/
def State.holdTime (s : State) : State :=
  { s with lxs := { s.lxs with
    time48 := if s.lxs.setOnce then s.rootTime48 else 0
    timePhase := s.rootPhase.1
    timeLfn := s.rootPhase.2
    timeAt := s.now
    timeHeld := true } }

/-! ### The tree (R338, R339) -/

/-- The parent that R338 picks among UP neighbours, by port and HELLO, that satisfy a test. -/
def State.pickParent (s : State) (ok : Nat → Hello → Bool) : Option (Nat × Hello) :=
  ((s.upPorts.filterMap (fun j => ((s.lxPort j).hello).map (fun h => (j, h)))).filter (fun e => ok e.1 e.2)).foldl
    (fun a e => match a with
      | none => some e
      | some b => if e.2.hops < b.2.hops ∨ (e.2.hops = b.2.hops ∧ e.2.id < b.2.id) then some e else some b) none

/-- The device attaches to a parent: ATTACH, the registers, and its event (R338, R340). -/
def State.attachTo (s : State) (j : Nat) (h : Hello) : State :=
  let s0 := s.holdTime
  let s1 := { s0 with lxs := { s0.lxs with
    hops := h.hops + 1
    reported := false } }
  (((((s1.putB (LXS_PORT_STATE.PARENT j) true).putB (LXS_PORT_STATE.CHILD j) false).put LXS_STATUS.PARENT_PORT j).put LXS_STATUS.DEPTH
    (h.hops + 1)).queueMsg j 3 0x02 0 []).raise 0x0802 j 1 0

/-- A device that takes another parent, or none, detaches from its own where that link is UP (Table LXS-2). -/
def State.detach (s : State) (dest : Option Nat) : State :=
  match s.lxParent with
  | some j => if s.isUp j && dest != some j then s.queueMsg j 3 0x02 1 [] else s
  | none => s

/-- The parent link is no longer a tree link. -/
def State.clearParent (s : State) : State :=
  match s.lxParent with
  | none => s
  | some j => ((s.putB (LXS_PORT_STATE.PARENT j) false).put LXS_STATUS.PARENT_PORT 7).raise 0x0802 j 0 0

/-- LAXUS is no longer valid here (R39, R344). -/
def State.loseTime (s : State) : State :=
  (({ s with lxs := { s.lxs with calm := 0 } }).putB LXS_STATUS.CONVERGED false).refInvalid refLaxus

/-- The device has lost its parent (R339): it attaches to another UP neighbour of its system nearer to the root, or
advertises itself as root with GEN + 1. -/
def State.parentLost (s : State) : State :=
  let depth := s.lxs.hops
  let s1 := (s.detach none).clearParent.loseTime
  match s1.pickParent (fun j h => s.lxParent != some j && h.sysid == s1.sysid && decide (h.hops < depth) && h.root == s1.lxs.root) with
  | some (j, h) => s1.attachTo j h
  | none =>
    let s2 := s1.put LXS_SYSID_HI.GEN (s1.gen + 1)
    (({ s2 with lxs := { s2.lxs with
      rootPrio := s2.get LXS_CTRL.PRIORITY
      root := s2.uid
      hops := 0
      lastChange := s2.now
      electing := true } }).showRoot).sendHellos

/-- A child leaves the tree. -/
def State.dropChild (s : State) (j : Nat) : State :=
  if s.flag (LXS_PORT_STATE.CHILD j) then
    (({ s with lxs := { s.lxs with
      reports := s.lxs.reports.filter (fun e => e.2.port != j)
      round := { s.lxs.round with votes := tdel s.lxs.round.votes j } } }).putB (LXS_PORT_STATE.CHILD j) false).raise 0x0802 j 0 0
  else s

/-- A link leaves UP for a state: a handover over it aborts (R342), a child is gone, and a parent is lost (R339). -/
def State.leaveUp (s : State) (j st : Nat) : State :=
  let wasParent := s.lxParent == some j
  let onPath := s.lxs.handover.any (fun h => h.2 == j || wasParent)
  let s1 := if onPath then ({ s with lxs := { s.lxs with handover := none } }).raise 0x0808 j 0 0 else s
  let s2 := ((if s1.lxs.swap = some j then { s1 with lxs := { s1.lxs with swap := none } } else s1).dropChild j).lxEnter j st
  let s3 := { s2.setLxPort j { s2.lxPort j with answer := 0, asked := false } with lxs := { s2.lxs with
    ports := tset s2.lxs.ports j { s2.lxPort j with answer := 0, asked := false }
    reported := false } }
  if wasParent then s3.parentLost else s3

/-- The port goes down; its lanes stop and train again (Table LXS-1). -/
def State.lxGoDown (s : State) (j : Nat) : State :=
  let s1 := if s.isUp j then s.leaveUp j lxDown else s.lxEnter j lxDown
  let s2 := (s1.setLxPort j { LxsPort.init with since := s1.now }).lxIdle j
  if s2.lxUsed j && s2.get LXS_STATUS.PHASE != 0 then s2.lxStartTrain j else s2

/-- The lane that plays lane 0 of a port. -/
def State.lxFirst (s : State) (j : Nat) : Nat := 136 + 2 * j + (s.lxPort j).first

/-- A lane of a Laxus port has failed (R334): an UP link of width 2 goes on with its other lane, after RETRAIN; at
width 1 it goes down with the lane that it uses. In RETRAIN to width 1 the other lane takes its place. -/
def State.lxLaneLoss (s : State) (l : Nat) : State :=
  let j := (l - 136) / 2
  let other := if l % 2 = 0 then l + 1 else l - 1
  if !laneIsLaxus l then s
  else if s.isUp j && s.flag (LXS_PORT_STATE.WIDTH j) && s.laneState other == lnData then
    let f := ((s.lane other).f + 64) % 2 ^ 48
    let s1 := s.setLxPort j { s.lxPort j with
      first := (other - 136) % 2
      own := some ⟨f, true, false⟩
      stopped := false }
    let s2 := ((s1.putB (LXS_PORT_STATE.WIDTH j) false).inc (LXS_PORT_STATE.RETRAINS j)).queueMsg j 3 0x12 0 [f, s.uid + 2 ^ 48]
    s2.leaveUp j lxRetrain
  else if s.flag (LXS_PORT_STATE.WIDTH j) = false ∧ l ≠ s.lxFirst j then s
  else if s.lxState j == lxRetrain && (s.laneState other == lnData || s.laneState other == lnTrain) then
    (s.setLxPort j { s.lxPort j with first := (other - 136) % 2 }).putB (LXS_PORT_STATE.WIDTH j) false
  else if s.isUp j || s.lxState j == lxRetrain || s.lxState j == lxHello || s.lxState j == lxBlocked then s.lxGoDown j
  else s

/-- A retrain has reached the slot F at which both ends stop data (R334): the leading end's own slot, or the slot that arrives. -/
def State.lxStops (s : State) (l : Nat) : Bool :=
  let j := (l - 136) / 2
  let p := s.lxPort j
  let k := if s.laneState (s.lxFirst j) == lnData then s.lxFirst j else l
  let reached := fun (at_ f : Nat) => decide ((at_ + 2 ^ 48 - f % 2 ^ 48) % 2 ^ 48 < 2 ^ 47)
  laneIsLaxus l && s.laneState l == lnData && s.lxState j == lxRetrain && !p.stopped &&
    match p.own, p.peer with
    | some r, _ => reached (s.lane k).f r.f
    | none, some r => reached (s.lane k).rxF r.f
    | none, none => false

/-- Data stops on a port, and its lanes retrain from their settings. -/
def State.lxStop (s : State) (j : Nat) : State :=
  foldOver (s.lxDataLanes j) (fun l u => u.trainLane l false) (s.setLxPort j { s.lxPort j with stopped := true })

/-! ### Rows of ports and links -/

/-- A message arrives on a port in one of the states that carry it; it is counted. -/
def onMsg (dt j : Nat) (sts : List Nat) (s : State) (f : State → State) : State :=
  let t := s.tick dt
  t.onLiveIf (decide (j < 4) && sts.contains (t.lxState j)) (fun u => f (u.inc (LXS_PORT_RX.MESSAGES j)))

/-- LXS_PORT_TRAINED (R333): both lanes, or the one that R334 leaves, are in DATA; the training frames named the
neighbour. A port that sees its own identity is wired to its own device. -/
def doLxsPortTrained (dt j neigh : Nat) (s : State) : State :=
  let t := s.tick dt
  let ls := t.lxDataLanes j
  let want := ([136 + 2 * j, 137 + 2 * j].filter (fun l => t.laneState l != lnFenced)).length
  t.onLiveIf (decide (j < 4) && t.lxState j == lxTrain && !ls.isEmpty && ls.length == want) fun u =>
    if neigh % 2 ^ 48 = u.uid then u.lxFaultPort j 0x02
    else
      let u1 := (((u.wrN (LXS_PORT_NEIGH_LO j) neigh).put (LXS_PORT_NEIGH_HI.ID_HIGH j) (neigh / 2 ^ 32)).putB
        (LXS_PORT_STATE.WIDTH j) (ls.length == 2)).put (LXS_PORT_STATE.FAULT j) 0
      let u2 := (u1.setLxPort j { LxsPort.init with first := (ls.headD (136 + 2 * j) - 136) % 2 }).lxEnter j lxHello
      let u3 := if u2.get LXS_STATUS.PHASE = 1 then (u2.put LXS_STATUS.PHASE 2).reelect true else u2
      u3.queueMsg j 3 0x01 0 (u3.helloWords j)

/-- LXS_PORT_FAULT_RETRY (R333): after 100 ms in FAULT; a port that saw its own identity is never used. -/
def doLxsPortFaultRetry (dt j : Nat) (s : State) : State :=
  let t := s.tick dt
  t.onLiveIf (t.lxUsed j && t.lxState j == lxFault && t.get (LXS_PORT_STATE.FAULT j) != 0x02 &&
    decide ((t.lxPort j).since + 100 * msSteps ≤ t.now)) (fun u => (u.lxEnter j lxDown).lxStartTrain j)

/-- Frames after one that was received in order are sent again, with IDLE in place of their time messages (R335). -/
def State.resendFrom (s : State) (l ack : Nat) : State :=
  let x := s.lxLane l
  let k := (ack + 1) % 65536
  let again := ((x.hist.filter (fun f => decide ((f.fseq + 65536 - k) % 65536 < 32768))).map (fun f =>
    { f with words := f.words.zipIdx.map (fun w => if f.stamped.contains w.2 then 0 else w.1) }))
  (s.setLxLane l { x with
    again := again
    since := s.now }).put (LXS_PORT_REPLAYS.FRAMES ((l - 136) / 2)) (s.get (LXS_PORT_REPLAYS.FRAMES ((l - 136) / 2)) + again.length)

/-- The rate of a Laxus port, in 0.1 Gb/s. -/
def State.lxRate10 (s : State) (j : Nat) : Nat := rateTenths (s.get (LXS_PORT_CFG.RATE j))

/-- `n` slots of a lane in gate steps, rounded up. -/
def State.slotSteps (s : State) (l n : Nat) : Nat := divUp (n * slotUi * 40) (max 1 (rateTenths (s.get (LAN_LANE_CFG.RATE l))))

/-- LINK_ACK_TIMEOUT (R335): 64 slots without acknowledgement. -/
def doLinkAckTimeout (dt l : Nat) (s : State) : State :=
  let t := s.tick dt
  let x := t.lxLane l
  t.onLiveIf (laneIsLaxus l && t.laneState l == lnData && x.hist.any (fun f => f.fseq != x.acked) &&
    decide (x.since + t.slotSteps l 64 ≤ t.now)) (fun u => u.resendFrom l x.acked)

/-! ### HELLO and the election -/

/-- A started device meets another part of its own system and adopts the better root (R341); it slews, whatever
PULLIN holds. -/
def State.adoptRoot (s : State) (j : Nat) (h : Hello) : State :=
  let s1 := (((s.detach (some j)).clearParent).rebaseSys.put LXS_SYSID_HI.GEN h.gen).putB LXS_STATUS.ROOT false
  let s2 := ({ s1 with lxs := { s1.lxs with
    rootPrio := h.rootPrio
    root := h.root
    hops := h.hops + 1
    electing := false } }).showRoot
  let s3 := ((s2.put LXS_STARTUP.ELECTIONS (s2.get LXS_STARTUP.ELECTIONS + 1)).raise 0x0801 h.gen h.root (h.root / 2 ^ 32)).attachTo j h
  ({ s3 with tim := { s3.tim with realign := false } }).selectRef refLaxus |>.enterDpll dpllPullin

/-- A device returns to start-up as a joiner (R341): its light goes dark and its LFN is to be set once more. -/
def State.becomeJoiner (s : State) : State :=
  let s1 := ((((s.detach none).clearParent.startupUndone).putB LXS_STATUS.ROOT false).putB LXS_STATUS.CONVERGED false).put LXS_STATUS.PHASE 2
  let s2 := (s1.putB LXS_STATION.VALID false).putB GLB_BOOT_STATUS.LAXUS false
  ({ s2 with lxs := { s2.lxs with
    setOnce := false
    readyAll := false
    reported := false
    electing := true
    stations := []
    told := []
    gone := []
    assigns := [] } }).reelect true

/-- HELLO decides UP or BLOCKED for a port in HELLO or BLOCKED (R341). -/
def State.decideJoin (s : State) (j : Nat) (h : Hello) : State :=
  let up := fun (t : State) =>
    let t0 := (t.put (LXS_PORT_STATE.FAULT j) 0).lxEnter j lxUp
    let t1 := { t0 with lxs := { t0.lxs with reported := false } }
    let c0 := t1.freeVal 16
    let t2 := t1.useFree
    let c1 := t2.freeVal 16
    t2.useFree.queueMsg j 3 0x11 0 [c0 + c1 * 2 ^ 16]
  let worse := keyLess h.rootPrio h.root s.lxs.rootPrio s.lxs.root
  if !s.lxStarted || !h.started then up s
  else if h.sysid = s.sysid ∧ h.root = s.lxs.root then up s
  else if h.sysid = s.sysid ∧ h.near then (if worse then (up s).adoptRoot j h else up s)
  else if s.flag LXS_CTRL.MERGE_EN && worse then (up s).becomeJoiner
  else if s.lxState j = lxBlocked then s
  else ((s.put (LXS_PORT_STATE.FAULT j) 0x03).lxEnter j lxBlocked).raise 0x0803 j 0x03 0

/-- A started device follows what its parent advertises: the root, its own hops and the generation (R338, R339, R342). -/
def State.followParent (s : State) (h : Hello) : State :=
  if s.isRoot || h.sysid != s.sysid || h.root == s.uid ||
      (h.rootPrio, h.root, h.hops + 1, h.gen) == (s.lxs.rootPrio, s.lxs.root, s.lxs.hops, s.gen) then s
  else
    let s1 := (({ s with lxs := { s.lxs with
      rootPrio := h.rootPrio
      root := h.root
      hops := h.hops + 1
      reported := s.lxs.reported && h.gen == s.gen } }).showRoot).put LXS_STATUS.DEPTH (h.hops + 1)
    let s2 := if h.gen = s.gen then s1
      else ((s1.put LXS_SYSID_HI.GEN h.gen).put LXS_STARTUP.ELECTIONS (s1.get LXS_STARTUP.ELECTIONS + 1)).raise 0x0801 h.gen h.root
        (h.root / 2 ^ 32)
    s2.sendHellos

/-- A started device hears a started neighbour over an UP link: its parent's advertisement is followed, and of two parts of one
system that have lost their root the worse root's part adopts the better root (R339, R341). -/
def State.hearStarted (s : State) (j : Nat) (h : Hello) : State :=
  if s.lxParent = some j then s.followParent h
  else if h.started && h.sysid == s.sysid && h.gen == s.gen && h.root != s.lxs.root && h.near &&
      keyLess h.rootPrio h.root s.lxs.rootPrio s.lxs.root then s.adoptRoot j h
  else s

/-- HELLO (R337, R341): the neighbour's advertisement. `near` says whether both ends agree on LFN with system times
within ±1 µs. A neighbour of the same system that has gone back to start-up over a merge takes this device with it. -/
def doHello (dt j id prio portN : Nat) (started : Bool) (root rootPrio hops sysid gen : Nat) (near : Bool) (s : State) : State :=
  onMsg dt j [lxHello, lxUp, lxBlocked] s fun t =>
    let h : Hello := { id := id, prio := prio, port := portN, started := started, root := root, rootPrio := rootPrio, hops := hops, sysid := sysid, gen := gen, near := near }
    let heard := match (t.lxPort j).hello with
      | none => true
      | some o => { o with near := near } != h
    let t1 := (((t.setLxPort j { t.lxPort j with hello := some h }).wrN (LXS_PORT_NEIGH_LO j) id).put
      (LXS_PORT_NEIGH_HI.ID_HIGH j) (id / 2 ^ 32)).put (LXS_PORT_NEIGH_HI.PRIORITY j) prio |>.put (LXS_PORT_NEIGH_HI.HOPS j) hops
    let merged := t1.lxState j == lxUp && t1.lxStarted && !started && ((t.lxPort j).hello).any (fun o => o.started && o.sysid == t.sysid)
    let t2 := if merged then t1.becomeJoiner
      else if t1.lxState j = lxUp then (if t1.lxStarted && !t1.lxs.electing then t1.hearStarted j h else t1)
      else t1.decideJoin j h
    if t2.lxStarted && !t2.lxs.electing then t2
    else
      let t3 := t2.reelect heard
      if heard && decide (3 ≤ t3.get LXS_STATUS.PHASE) && decide (t3.get LXS_STATUS.PHASE ≤ 5) then t3.put LXS_STATUS.PHASE 2 else t3

/-- HELLO_TIMER (R337): every 20 µs while electing, otherwise every LF. -/
def doHelloTimer (dt : Nat) (s : State) : State :=
  let t := s.tick dt
  let gap := if t.lxs.electing then 20 * usSteps else t.tim.p16 / 65536
  t.onLiveIf (t.isMember && t.get LXS_STATUS.PHASE != 0 && decide (t.lxs.lastHello + gap ≤ t.now)) (fun u => u.sendHellos)

/-- The root's own beginning: its system time, its own reference selection, and convergence (R339, R343). -/
def State.takeRootRole (s : State) : State :=
  let s1 := ((((s.detach none).clearParent.rebaseSys.putB LXS_STATUS.ROOT true).putB LXS_STATUS.CONVERGED true).put LXS_STATUS.DEPTH 0)
  ({ s1 with lxs := { s1.lxs with
    hops := 0
    passing := false
    reported := true } }).selectOwn

/-- ELECTION_COMPLETE (R337, R338): 1,280 µs without a change. The root's identity becomes SYSID with GEN 0, unless the
system has started already; the tree forms. -/
def doElectionComplete (dt : Nat) (s : State) : State :=
  let t := s.tick dt
  t.onLiveIf (t.isMember && t.lxs.electing && decide (2 ≤ t.get LXS_STATUS.PHASE) &&
      decide (t.lxs.lastChange + 1280 * usSteps ≤ t.now)) fun u =>
    let joined := (u.hellos.map (·.2)).find? (fun h => h.started && h.root == u.lxs.root)
    let sg : Nat × Nat := match joined with
      | some h => (h.sysid, h.gen)
      | none => if u.lxStarted then (u.sysid, u.gen) else (u.lxs.root, 0)
    let u1 := ({ u with lxs := { u.lxs with electing := false } }).wrN LXS_SYSID_LO sg.1
    let u2 := (u1.put LXS_SYSID_HI.ID_HIGH (sg.1 / 2 ^ 32)).put LXS_SYSID_HI.GEN sg.2
    let u3 : State := (u2.put LXS_STARTUP.ELECTIONS (u2.get LXS_STARTUP.ELECTIONS + 1)).raise 0x0801 sg.2 u2.lxs.root (u2.lxs.root / 2 ^ 32)
    let u4 : State := if u3.lxStarted then u3 else u3.put LXS_STATUS.PHASE 3
    let next := fun (v : State) => if v.get LXS_STATUS.PHASE = 3 then v.put LXS_STATUS.PHASE 4 else v
    if u4.lxs.root = u4.uid then next u4.takeRootRole
    else
      match (u4.clearParent.putB LXS_STATUS.ROOT false).pickParent (fun _ h => h.root == u4.lxs.root) with
      | some (j, h) => next ((((u4.detach (some j)).clearParent).putB LXS_STATUS.ROOT false).attachTo j h)
      | none => u4

/-- ATTACH (R338): a child joins the tree, or leaves it. -/
def doAttach (dt j : Nat) (detach : Bool) (s : State) : State :=
  onMsg dt j [lxUp] s fun t =>
    if detach then t.dropChild j
    else if t.flag (LXS_PORT_STATE.CHILD j) then t
    else (t.putB (LXS_PORT_STATE.CHILD j) true).raise 0x0802 j 1 0

/-- PARENT_TIMEOUT (R339): 3 LFs without TIME from the parent. -/
def doParentTimeout (dt : Nat) (s : State) : State :=
  let t := s.tick dt
  t.onLiveIf (t.lxParent.isSome && decide (t.lxs.timeAt + 3 * t.tim.p16 / 65536 ≤ t.now)) (fun u => u.parentLost)

/-! ### Reports and stations (R345, R346, R355) -/

/-- The first LFN whose boundary is at least `d` steps away. -/
def State.lfnAfterSteps (s : State) (d : Nat) : Nat :=
  let far := d - s.toBoundary
  (s.tim.lfn + 1 + divUp (far * 65536) (max 1 s.tim.p16)) % 2 ^ 32

/-- REPORT words (Table LXS-3). -/
def reportWords (id : Nat) (r : Report) : List Nat :=
  [id + boolNat r.converged * 2 ^ 48 + boolNat r.spare * 2 ^ 49, nthD r.neigh 0 0, nthD r.neigh 1 0, nthD r.neigh 2 0,
   nthD r.neigh 3 0, r.highest]

/-- This device's own REPORT; a device without a station is a spare in it. -/
def State.ownReport (s : State) : Report :=
  { port := 7, converged := s.flag LXS_STATUS.CONVERGED, spare := !s.flag LXS_STATION.VALID,
    neigh := (List.range 4).map (fun j => if s.isUp j then (((s.lxPort j).hello).map (·.id)).getD 0 else 0),
    highest := listMax ((List.range 16).map (fun p => s.rdN (APT_PORT_EPOCH p))) }

/-- Every report the root knows, its own first. -/
def State.allReports (s : State) : Tbl Report := tset s.lxs.reports s.uid s.ownReport

/-- Devices reached from those of `edge` over the neighbours reported. -/
def treeGo (reps : Tbl Report) : Nat → List Nat → List Nat → List Nat
  | 0, seen, _ => seen
  | n + 1, seen, edge =>
    let next := ((edge.map (fun id => ((tfind reps id).map (·.neigh)).getD [])).flatten.filter
      (fun id => id != 0 && thas reps id && !seen.contains id)).eraseDups
    if next.isEmpty then seen else treeGo reps n (seen ++ next) next

/-- The reports of the devices that are in the tree: a device that its neighbours no longer report is absent (R347). -/
def State.treeReports (s : State) : Tbl Report :=
  let r := s.allReports
  let ids := treeGo r 64 [s.uid] [s.uid]
  r.filter (fun e => ids.contains e.1)

/-- Follow a path of ports from an identity (R345). -/
def walkPath (reps : Tbl Report) : Nat → Nat → Nat → Option Nat
  | 0, _, id => if thas reps id then some id else none
  | n + 1, path, id =>
    match tfind reps id with
    | none => none
    | some r =>
      let next := nthD r.neigh (path % 4) 0
      if next = 0 then none else walkPath reps n (path / 4) next

/-- Stations by the map over the devices that have reported, beside those already held: identity keys first, then
position keys by station number (R345). -/
def evalMap (b : List Byte) (reps : Tbl Report) (held : Tbl Nat) : Tbl Nat :=
  if b.isEmpty then
    (tkeys reps).foldl (fun t id =>
      if thas t id then t
      else match (List.range 4096).find? (fun d => !t.any (fun e => e.2 == d)) with
        | some d => tset t id d
        | none => t) held
  else
    let ks := stationKeys b
    let fill := fun (t : Tbl Nat) (id : Option Nat) (d : Nat) =>
      match id with
      | some i => if thas t i || t.any (fun e => e.2 == d) || !thas reps i then t else tset t i d
      | none => t
    let t1 := (ks.filter (fun k => k.kind == 0)).foldl (fun t k => fill t (some k.id) k.station) held
    let ps := (ks.filter (fun k => k.kind == 1)).foldl (fun (l : Tbl StationKey) k => tset l k.station k) []
    ps.foldl (fun t e => fill t (walkPath reps e.2.len e.2.path e.2.id) e.1) t1

/-- Hops of the reported devices from the root: the tree height is the largest (R338, R340). -/
def heightGo (reps : Tbl Report) : Nat → List Nat → List Nat → Nat → Nat
  | 0, _, _, d => d
  | n + 1, seen, edge, d =>
    let next := ((edge.map (fun id => ((tfind reps id).map (·.neigh)).getD [])).flatten.filter
      (fun id => id != 0 && thas reps id && !seen.contains id)).eraseDups
    if next.isEmpty then d else heightGo reps n (seen ++ next) next (d + 1)

/-- The hop time h in ps: two slots and 120 ns at the slowest port in use (R332). -/
def State.hopPs (s : State) : Nat :=
  listMax ((idxWhere 4 s.lxUsed).map (fun j => divUp (2 * slotUi * 10000) (max 1 (s.lxRate10 j)))) + 120000

/-- The root shows the height, and warns where a commit round does not fit (R340). -/
def State.showHeight (s : State) : State :=
  let h := heightGo s.treeReports 64 [s.uid] [s.uid] 0
  let s1 := s.put LXS_STATUS.DEPTH h
  let warn := decide (36000000 < h * s1.hopPs)
  if warn && !s1.flag LXS_STATUS.DEPTH_WARN then (s1.putB LXS_STATUS.DEPTH_WARN true).raise 0x0804 h 0 0
  else s1.putB LXS_STATUS.DEPTH_WARN warn

/-- ASSIGN to one device, flooded down the tree and kept for its boundary (R346). -/
def State.sendAssign (s : State) (a : Assign) : State :=
  ({ s with lxs := { s.lxs with assigns := s.lxs.assigns ++ [a] } }).floodMsg s.childPorts 3 0x04 0
    [a.id, a.station + boolNat a.valid * 2 ^ 12 + a.epoch * 2 ^ 32, a.lfn]

/-- REPORT (R345): the root keeps it; another device keeps the route and forwards it. -/
def doReport (dt j id : Nat) (conv spare : Bool) (n0 n1 n2 n3 highest : Nat) (s : State) : State :=
  onMsg dt j [lxUp] s fun t =>
    if !t.flag (LXS_PORT_STATE.CHILD j) then t
    else
      let r : Report := { port := j, converged := conv, spare := spare, neigh := [n0, n1, n2, n3], highest := highest }
      let t1 := { t with lxs := { t.lxs with
        reports := tset t.lxs.reports id r
        told := t.lxs.told.erase id
        lastReport := t.now } }
      match t1.lxParent with
      | some p => if t1.isRoot then t1 else t1.queueMsg p 3 0x03 0 (reportWords id r)
      | none => t1

/-- The root answers every device that has reported since its last answer (R345, R346, R356): a device that still holds its station
keeps it; another one gets a station, or becomes a spare, from a boundary at least 1 ms away (DESIGN CHOICE, log 51). -/
def State.assignStations (s : State) : State :=
  let reps := s.treeReports
  let held := s.lxs.assigns.foldl (fun (m : Tbl Nat) a => if a.valid then tset m a.id a.station else tdel m a.id) s.lxs.stations
  let m := evalMap (s.sec secStationMap 0) reps held
  let lfn := s.lfnAfterSteps msSteps
  let todo := (tkeys reps).filter (fun id => !s.lxs.told.contains id && !s.lxs.assigns.any (fun a => a.id == id))
  let s1 := { s with lxs := { s.lxs with told := s.lxs.told ++ todo } }
  foldOver (todo.filter (fun id => !thas s.lxs.stations id || ((tfind reps id).any (·.spare)))) (fun id u =>
    let hi := ((tfind reps id).map (·.highest)).getD 0
    match tfind m id with
    | some d => u.sendAssign { id := id, station := d, valid := true, epoch := (hi + 1) % 2 ^ 32, lfn := lfn, promo := false }
    | none => u.sendAssign { id := id, station := 0, valid := false, epoch := 0, lfn := lfn, promo := false }) s1

/-- REPORT_QUIET_TIMEOUT (R355): 10 ms without a new REPORT, every one CONVERGED. -/
def doReportQuietTimeout (dt : Nat) (s : State) : State :=
  let t := s.tick dt
  t.onLiveIf (t.isRoot && decide (4 ≤ t.get LXS_STATUS.PHASE) && decide (t.lxs.lastReport + 10 * msSteps ≤ t.now) &&
      t.treeReports.all (fun e => e.2.converged) && (t.get LXS_STATUS.PHASE == 6 || t.localReady)) fun u =>
    let u1 := u.showHeight.assignStations
    if u1.get LXS_STATUS.PHASE = 4 then u1.put LXS_STATUS.PHASE 5 else u1

/-- ASSIGN (R346): kept for its boundary and flooded on. -/
def doAssign (dt j id station : Nat) (valid : Bool) (epoch lfn : Nat) (s : State) : State :=
  onMsg dt j [lxUp] s fun t =>
    if t.lxParent = some j then
      t.sendAssign { id := id, station := station, valid := valid, epoch := epoch, lfn := lfn, promo := t.lxStarted }
    else t

/-- READY_ALL (R355): the counts, flooded on. -/
def doReadyAll (dt j devices spares : Nat) (s : State) : State :=
  onMsg dt j [lxUp] s fun t =>
    if t.lxParent = some j then
      ({ ((t.put LXS_COUNT.DEVICES devices).put LXS_COUNT.SPARES spares) with lxs := { t.lxs with readyAll := true } }).floodMsg
        t.childPorts 3 0x05 0 [devices % 8192 + spares % 8192 * 2 ^ 16]
    else t

/-- An assignment comes into force at its boundary (R346, R347). A promoted device completes start-up at once, and a
former holder returns to spare, dark. -/
def State.applyAssign (s : State) (a : Assign) : State :=
  let st := if a.valid then tset s.lxs.stations a.id a.station else tdel s.lxs.stations a.id
  let s1 := { s with lxs := { s.lxs with
    stations := st
    epochs := if a.valid then tset s.lxs.epochs a.station a.epoch else s.lxs.epochs } }
  if a.id ≠ s1.uid then s1
  else
    let s2 := ((s1.put LXS_STATION.STATION a.station).putB LXS_STATION.VALID a.valid).wrN LXS_EPOCH (if a.valid then a.epoch else 0)
    let s3 := (s2.putB LXS_STATUS.SPARE (!a.valid)).raiseB 0x0805 a.station a.epoch (boolNat a.valid)
    let s4 := if s3.get LXS_STATUS.PHASE = 4 then s3.put LXS_STATUS.PHASE 5 else s3
    if a.valid then (if a.promo || s4.get LXS_STATUS.PHASE == 6 then (s4.put LXS_STATUS.PHASE 6).startupDone else s4)
    else if s4.flag HIF_STATUS.STARTUP_DONE then s4.startupUndone else s4

/-! ### Time (R343, R344) -/

/-- Words of TIME, DELAY_REQ and DELAY_RESP as their frame's stamp instant gives them. DELAY_RESP waits with T2 and
T2_SUB in its words. -/
def State.stampWords (s : State) (m : LxsMsg) : List Nat :=
  let h := nthD m.words 0 0
  if m.ty = 0x06 then
    [h, s.rootTime48 / 65536 % 2 ^ 64, s.rootTime48 % 65536 + s.rootPhase.1 * 2 ^ 16, s.rootPhase.2]
  else if m.ty = 0x08 then
    [h, nthD m.words 1 0, s.sysNow, nthD m.words 3 0 + s.sys48 % 65536 * 2 ^ 16]
  else m.words

/-- TIME (R343, R344): `late` gate steps have passed since the arrival stamp, and `off` is the measured offset of the
device's clock to the reconstructed time, in ps. -/
def doTime (dt j time sub ph lfn late : Nat) (off : Int) (s : State) : State :=
  onMsg dt j [lxUp] s fun t =>
    if t.lxParent ≠ some j ∨ t.isRoot then t
    else
      let delay := t.get (LXS_PORT_DELAY.LINK_PS j)
      let t48 := time * 65536 + sub + ps48 (delay + late * 250)
      let lf := 65536 * 2 ^ 24
      let phNow := ph + (late * 250 + delay) * lf / (max 1 (t.tim.p16 * 250))
      let ph1 := phNow % 2 ^ 24
      let lfn1 := (lfn + phNow / 2 ^ 24) % 2 ^ 32
      let dPh : Int := (((mod32Sub lfn1 t.lxs.timeLfn) * 2 ^ 24 + ph1 : Nat) : Int) - (t.lxs.timePhase : Int)
      let dT : Int := (t48 : Int) - t.lxs.time48
      let meas := if t.lxs.time48 ≠ 0 ∧ t.lxs.timeHeld = false ∧ 0 < dPh ∧ 0 < dT then (dT * 4000000000 * 65536 * 2 ^ 24 / (dPh * 2 ^ 48)).toNat
        else (t.ref refLaxus).meas
      let t1 : State := { t with lxs := { t.lxs with
        time48 := t48
        timeAt := t.now
        timePhase := ph1
        timeLfn := lfn1
        timeHeld := false } }
      let t1 := t1.setRef refLaxus { t1.ref refLaxus with meas := meas }
      if !t1.lxs.setOnce && !t1.flag HIF_STATUS.STARTUP_DONE then
        let start := t1.now * 65536 - ph1 * t1.tim.p16 / 2 ^ 24
        let t2 := { t1 with
          lxs := { t1.lxs with setOnce := true, calm := 0 }
          tim := { t1.tim with lfn := lfn1, lfStart16 := start, bootLf := false, switchTo := none, sysBase := t48 / 65536 % 2 ^ 64, sysT0 := t1.now } }
        (t2.selectRef refLaxus).enterDpll dpllAcquire
      else
        let calm : Nat := if off.natAbs ≤ 500 then t1.lxs.calm + 1 else 0
        let offs := (t1.lxs.offs.filter (fun e => decide (t1.now < e.1 + secSteps))) ++ [(t1.now, off.natAbs)]
        let t2 : State := { t1 with
          lxs := { t1.lxs with calm := calm, offs := offs }
          tim := { t1.tim with sysBase := t48 / 65536 % 2 ^ 64, sysT0 := t1.now } }
        let t3 : State := (t2.put LXS_TIME_ERR.OFFSET (uns 16 (clampI (-32768) 32767 off))).putSat LXS_TIME_ERR.PEAK (listMax (offs.map (·.2)))
        if decide (16 ≤ calm) && !t3.flag LXS_STATUS.CONVERGED then
          (t3.putB LXS_STATUS.CONVERGED true).refBecomesValid refLaxus (meas / 65536)
        else t3

/-- DELAY_REQ (R343): answered with T2, the arrival stamp of its frame in 2^-48 s; T3 is stamped when the answer
leaves. -/
def doDelayReq (dt j t2 : Nat) (s : State) : State :=
  onMsg dt j [lxUp] s fun t => t.queueMsg j 1 0x08 0 [t2 / 65536 % 2 ^ 64, 0, t2 % 65536]

/-- DELAY_RESP (R343): the link delay is ((T4 − T1) − (T3 − T2)) / 2, from stamps in 2^-48 s. -/
def doDelayResp (dt j t1 t2 t3 t4 : Nat) (s : State) : State :=
  onMsg dt j [lxUp] s fun t =>
    let d48 : Int := (((t4 : Int) - t1) - ((t3 : Int) - t2)) / 2
    let ps := fdiv (d48 * 1000000000000) (2 ^ 48)
    t.putSat (LXS_PORT_DELAY.LINK_PS j) ps.toNat

/-! ### Role swaps and handover (R342) -/

/-- This device asks to become the parent of a link. -/
def State.askRole (s : State) (j : Nat) : State :=
  (s.setLxPort j { s.lxPort j with asked := true }).queueMsg j 3 0x0F 1 [s.uid + s.get LXS_CTRL.PRIORITY * 2 ^ 48]

/-- ROLE (R342): OP 1 REQ, 2 ACK, 3 NAK. The answer to a REQ goes out in the next timing round; of two requests in one
round the lower key's stands. -/
def doRole (dt j op id prio : Nat) (s : State) : State :=
  onMsg dt j [lxUp] s fun t =>
    let p := t.lxPort j
    if op = 1 then
      if p.asked && keyLess (t.get LXS_CTRL.PRIORITY) t.uid prio id then t.setLxPort j { p with answer := 3 }
      else t.setLxPort j { p with answer := 2, asked := false }
    else if op = 2 ∧ p.asked then
      ({ t with lxs := { t.lxs with swap := some j } }).setLxPort j { p with asked := false }
    else if op = 3 then t.setLxPort j { p with asked := false }
    else t

/-- HANDOVER (R342): forwarded to the root; every device on the path keeps it. -/
def doHandover (dt j id : Nat) (s : State) : State :=
  onMsg dt j [lxUp] s fun t =>
    let t1 := { t with lxs := { t.lxs with handover := some (id, j) } }
    match t1.lxParent with
    | some p => if t1.isRoot then t1 else t1.queueMsg p 3 0x10 0 [id]
    | none => t1

/-- LXS_TAKE_ROOT (R342): TAKE_ROOT on a started member sends HANDOVER up the tree. -/
def doLxsTakeRoot (dt : Nat) (s : State) : State :=
  let t := s.tick dt
  t.onReachIf (t.get LXS_STATUS.PHASE == 6 && !t.isRoot) fun u =>
    match u.lxParent with
    | some p => ({ u with lxs := { u.lxs with handover := some (u.uid, 7) } }).queueMsg p 3 0x10 0 [u.uid]
    | none => u

/-- The roles of a link reverse at a boundary (R342). -/
def State.swapRoles (s : State) (j : Nat) : State :=
  let s0 := ({ s with lxs := { s.lxs with
    swap := none
    setOnce := true } }).rebaseSys
  if s0.lxParent = some j then
    let wasRootAbove := s0.lxs.hops == 1
    let s1 := ((s0.putB (LXS_PORT_STATE.PARENT j) false).putB (LXS_PORT_STATE.CHILD j) true).put LXS_STATUS.PARENT_PORT 7
    if !wasRootAbove then s1
    else
      let final := s1.lxs.handover.any (fun h => h.1 == s1.uid)
      let s2 := (s1.putB LXS_STATUS.ROOT true).put LXS_STATUS.DEPTH 0
      let s3 := ({ s2 with lxs := { s2.lxs with
        hops := 0
        root := s2.uid
        rootPrio := s2.get LXS_CTRL.PRIORITY
        passing := !final
        handover := if final then none else s2.lxs.handover } }).showRoot
      if final then
        ((s3.put LXS_SYSID_HI.GEN (s3.gen + 1)).selectOwn
          |>.put LXS_STARTUP.ELECTIONS (s3.get LXS_STARTUP.ELECTIONS + 1)).raiseB 0x0801 (s3.gen + 1) s3.uid (s3.uid / 2 ^ 32)
      else s3.enterHoldover
  else
    let h : Option Hello := (s0.lxPort j).hello
    let s1 := (((s0.putB (LXS_PORT_STATE.CHILD j) false).putB (LXS_PORT_STATE.PARENT j) true).put LXS_STATUS.PARENT_PORT j).putB
      LXS_STATUS.ROOT false
    let v := s1.holdTime
    let s2 := ({ v with lxs := { v.lxs with
      hops := s1.lxs.hops + 1
      passing := false
      handover := none
      root := (h.map Hello.id).getD s1.lxs.root
      rootPrio := (h.map Hello.prio).getD s1.lxs.rootPrio } }).showRoot
    ({ s2 with tim := { s2.tim with switchTo := some refLaxus } }).put LXS_STATUS.DEPTH (s2.lxs.hops)

/-! ### Promotion (R347) -/

/-- A spare is promoted to a station from a boundary at least 1 ms away; a former holder that is still known returns
to spare at the same boundary. -/
def State.promote (s : State) (station id : Nat) : State :=
  let lfn := s.lfnAfterSteps msSteps
  let hi := ((tfind s.allReports id).map (·.highest)).getD 0
  let ep := (max (tget 0 s.lxs.epochs station) hi + 1) % 2 ^ 32
  let s1 := match s.stationHolder station with
    | some old => s.sendAssign { id := old, station := station, valid := false, epoch := 0, lfn := lfn, promo := true }
    | none => s
  ({ s1 with lxs := { s1.lxs with promoting := true } }).sendAssign
    { id := id, station := station, valid := true, epoch := ep, lfn := lfn, promo := true }

/-- Devices in the tree without a station. -/
def State.spareIds (s : State) : List Nat := (tkeys s.treeReports).filter (fun id => !thas s.lxs.stations id)

def State.stationKnown (s : State) (d : Nat) : Bool :=
  let b := s.sec secStationMap 0
  if b.isEmpty then thas s.lxs.epochs d else (stationKeys b).any (fun k => k.station == d)

/-- LXS_PROMOTE (R347): GO; the RESULT codes of Table LXS-15. -/
def doLxsPromote (dt : Nat) (s : State) : State :=
  let t := s.tick dt
  t.onReachIf t.isMember fun u =>
    let d := u.get LXS_PROMOTE.STATION
    let id := u.rdN LXS_PROMOTE_ID_LO + u.get LXS_PROMOTE_ID_HI.ID_HIGH * 2 ^ 32
    if !u.isRoot then u.put LXS_PROMOTE_STATUS.RESULT 2
    else if !u.spareIds.contains id then u.put LXS_PROMOTE_STATUS.RESULT 3
    else if !u.stationKnown d then u.put LXS_PROMOTE_STATUS.RESULT 4
    else if u.lxs.promoting then u.put LXS_PROMOTE_STATUS.RESULT 5
    else u.promote d id

/-- The device of a station is in the tree. -/
def State.stationPresent (s : State) (d : Nat) : Bool := (s.stationHolder d).any (fun id => thas s.treeReports id)

/-- The stations of the map, or those that have been held. -/
def State.knownStations (s : State) : List Nat :=
  let b := s.sec secStationMap 0
  if b.isEmpty then tkeys s.lxs.epochs else (stationKeys b).map (·.station)

/-- The root of a started system keeps since when the device of a station has been absent from the tree (R347). -/
def State.absentBoundary (s : State) : State :=
  if s.isRoot && s.get LXS_STATUS.PHASE == 6 then
    let absent := s.knownStations.filter (fun d => !s.stationPresent d)
    { s with lxs := { s.lxs with gone := absent.foldl (fun (m : Tbl Nat) d => tset m d (tget s.now s.lxs.gone d)) [] } }
  else { s with lxs := { s.lxs with gone := [] } }

/-- AUTO_PROMOTE (R347): the device of a station has been absent from the tree for 100 ms; the spare with the lowest
identity takes it. -/
def doAutoPromote (dt station : Nat) (s : State) : State :=
  let t := s.tick dt
  t.onLiveIf (t.isRoot && bitAt (lxsFlags t.lxsCfg) 2 && !t.lxs.promoting && t.stationKnown station && !t.stationPresent station &&
      (tfind t.lxs.gone station).any (fun a => decide (a + 100 * msSteps ≤ t.now))) fun u =>
    match u.spareIds.head? with
    | some id => u.promote station id
    | none => u

/-! ### Drops, reads and credits (R351 to R354) -/

/-- DROP (R351): forwarded once to every other UP port, and acted on by R165. -/
def doDrop (dt j tag group cause origin seq : Nat) (s : State) : State :=
  onMsg dt j [lxUp] s fun t =>
    let key := origin * 2 ^ 16 + seq
    if t.dropSeen key then t
    else
      let t1 := t.noteDrop key
      (t1.floodMsg (t1.upPorts.filter (fun k => k != j)) 2 0x0C 0 [dropWord tag group cause origin seq]).takeDrop tag group cause
        true

/-- Credits go back for a read message that has been taken (R336, R354). -/
def State.returnCredit (s : State) (j req resp : Nat) : State := s.queueMsg j 3 0x11 0 [req + resp * 2 ^ 16]

/-- READ_REQ (R353): routed toward its device, or served by the export check (R128) on engine 44 or 45 in the
real-time class, at the deadline of SLACK, as local transactions of 64 bytes: its OFFSET is aligned to no more (R111). -/
def doReadReq (dt j dest src ctx tag size seq off slack : Nat) (s : State) : State :=
  onMsg dt j [lxUp] s fun t =>
    let t1 := t.returnCredit j 1 0
    if t1.ownDevice ≠ some dest then
      match t1.nextHop dest with
      | some k => if k = j then t1 else t1.queueMsg k 5 0x0D 0
          [dest % 4096 + src % 4096 * 2 ^ 12 + ctx % 1024 * 2 ^ 24 + tag % 2 ^ 17 * 2 ^ 34 + size % 4 * 2 ^ 51 + seq % 256 * 2 ^ 53,
           off % 2 ^ 36 + slack % 65536 * 2 ^ 36]
      | none => t1
    else
      let len := 64 * 2 ^ min 2 size
      match t1.exportDpa off src ctx with
      | none => t1.sendResp src tag seq 1 []
      | some dpa =>
        let e := 44 + seq % 2
        let ks := (idxWhere 1024 (fun k => !(t1.engineReqs e).any (fun r => r.index == k))).take (len / 64)
        if ks.length < len / 64 then t1.sendResp src tag seq 1 []
        else
          let t2 := { t1 with lxs := { t1.lxs with
            serves := tset t1.lxs.serves (e * 1024 + nthD ks 0 0) ⟨src, tag, seq, dpa, len, e, ks, false⟩ } }
          foldOver ((List.range (len / 64)).zip ks) (fun p (u : State) => u.addLocal
            { engine := e, index := p.2, gen := u.flag (MEM_ENG_STATUS.GEN e), ctx := ctx, va := 0, addr := dpa + 64 * p.1,
              len := 64, write := false, realTime := true, deadline := some (u.now + 400 * slack), missed := false, waits := [],
              time := u.now, pc := 0, issued := false, reissues := 0, hostFn := none }) t2

/-- A remote read of this device ends: its tag is free. -/
def State.endRead (s : State) (tag : Nat) (r : RemoteRead) : State :=
  (({ s with lxs := { s.lxs with reads := tdel s.lxs.reads tag } }).endFetch r.engine r.index).busyUnless s

/-- READ_RESP (R353): routed back, or completes the read; a late one is discarded. STATUS 1 is a translation fault of
kind 4; STATUS 2 returns no data (R127). Data of an old generation of the engine is discarded and counted (R110). -/
def doReadResp (dt j dest tag seq status : Nat) (words : List Nat) (s : State) : State :=
  onMsg dt j [lxUp] s fun t =>
    let p := t.lxPort j
    let recent := p.got.filter (fun e => decide (t.now < e.1 + msSteps))
    let got := if words.isEmpty then recent else recent ++ [(t.now, 8 * words.length)]
    let t0 := ((t.setLxPort j { p with got := got }).putSat (LXS_PORT_READ.FETCHED j) (listSum (got.map (·.2)) / 10000)).returnCredit
      j 0 (words.length / 8)
    if t0.ownDevice ≠ some dest then (if t0.nextHop dest = some j then t0 else t0.sendResp dest tag seq status words)
    else match tfind t0.lxs.reads tag with
      | none => t0
      | some r =>
        if r.seq ≠ seq then t0
        else if status = 1 then (t0.endRead tag r).transFault r.ctx 4 r.va
        else
          let t1 := t0.endRead tag r
          if bitAt tag 0 != t0.flag (MEM_ENG_STATUS.GEN r.engine) then t1.incSat (MEM_ENG_STATUS.STALE r.engine) 1
          else if status = 0 then t1.fillBuf r.engine (8 * words.length) else t1

/-- REMOTE_READ_TIMEOUT (R353): no response 100 µs after the request was sent. -/
def doRemoteReadTimeout (dt tag : Nat) (s : State) : State :=
  let t := s.tick dt
  match tfind t.lxs.reads tag with
  | none => t
  | some r => t.onLiveIf (decide (r.time + 100 * usSteps ≤ t.now)) (fun u => (u.endRead tag r).transFault r.ctx 4 r.va)

/-- CREDIT (R354): request credits in messages, response credits in 64-byte units. -/
def doCredit (dt j req resp : Nat) (s : State) : State :=
  onMsg dt j [lxUp] s fun t =>
    t.setLxPort j { t.lxPort j with
      credReq := (t.lxPort j).credReq + req
      credResp := (t.lxPort j).credResp + resp }

/-! ### Retrains (R334) -/

/-- LXS_RETRAIN (R334): the neighbour's RETRAIN names the slot at which data stops. Of two overlapping requests the
lower identity's leads, and the narrower width is taken. -/
def doLxsRetrain (dt j f id : Nat) (change two : Bool) (s : State) : State :=
  onMsg dt j [lxUp, lxRetrain] s fun t =>
    let p := t.lxPort j
    let wide := t.flag (LXS_PORT_STATE.WIDTH j) && (!change || two)
    let t1 := (t.setLxPort j { p with
      own := if t.uid < id then p.own else none
      peer := some ⟨f, change, two⟩
      stopped := p.stopped && t.lxState j == lxRetrain }).putB (LXS_PORT_STATE.WIDTH j) wide
    if t1.lxState j = lxRetrain then t1 else (t1.inc (LXS_PORT_STATE.RETRAINS j)).leaveUp j lxRetrain

/-- LXS_RETRAIN_DONE (R334): the lanes have retrained and are back in DATA within 2 ms, or the port goes DOWN. -/
def doLxsRetrainDone (dt j : Nat) (s : State) : State :=
  let t := s.tick dt
  t.onLiveIf (decide (j < 4) && t.lxState j == lxRetrain) fun u =>
    let want := if u.flag (LXS_PORT_STATE.WIDTH j) then 2 else 1
    if u.now ≤ (u.lxPort j).since + 2 * msSteps then
      (if (u.lxPort j).stopped && decide (want ≤ (u.lxDataLanes j).length) then
        (u.setLxPort j { u.lxPort j with own := none, peer := none, stopped := false }).lxEnter j lxUp
      else u)
    else u.lxGoDown j

/-! ### Export bindings (R352) -/

/-- The result of an export operation. -/
def State.exportResult (s : State) (r : Nat) : State := (s.put LXS_EXPORT_STATUS.BUSY 0).put LXS_EXPORT_STATUS.RESULT r

/-- LXS_EXPORT_BIND (R352): a binding over a live grant to the PF slot that EXPORT_CTX names. -/
def doLxsExportBind (dt binding : Nat) (s : State) : State :=
  let t := s.tick dt
  t.onReachIf (decide (binding < 1024)) fun u =>
    let page := u.get LXS_EXPORT_PAGE.PAGE
    let n := u.get LXS_EXPORT_PAGES.PAGES
    let off := u.get LXS_EXPORT_OFFSET.OFFSET
    let h := u.rdN LXS_EXPORT_HANDLE
    let c := u.get LXS_EXPORT_SRC.CTX
    match tfind u.hif.grants h with
    | none => u.exportResult 2
    | some g =>
      if g.owner ≠ c ∨ g.grantee ≠ u.get LXS_CTRL.EXPORT_CTX then u.exportResult 2
      else if n = 0 ∨ 65536 < n ∨ g.pages.length < off + n ∨ 2 ^ 20 < page + n then u.exportResult 3
      else if thas u.lxs.bindings binding || u.mem.exports.any (fun e => decide (page ≤ e.1) && decide (e.1 < page + n)) ||
          u.lxs.bindings.any (fun e => decide (e.2.page < page + n) && decide (page < e.2.page + e.2.count)) then
        u.exportResult 4
      else
        let b : Binding :=
          { page := page, count := n, handle := h, any := u.flag LXS_EXPORT_READER.ANY,
            device := u.get LXS_EXPORT_READER.DEVICE, ctx := u.get LXS_EXPORT_READER.CTX }
        let ents := ((g.pages.drop off).take n).zipIdx
        ({ u with
          lxs := { u.lxs with bindings := tset u.lxs.bindings binding b }
          mem := { u.mem with exports := ents.foldl (fun (t : Tbl (Nat × Nat × Nat)) (e : Nat × Nat) => tset t (page + e.2) (c, h, e.1)) u.mem.exports } }).showBindings.exportResult 1

/-- LXS_EXPORT_UNBIND (R352). -/
def doLxsExportUnbind (dt binding : Nat) (s : State) : State :=
  let t := s.tick dt
  t.onReachIf (decide (binding < 1024)) fun u =>
    if thas u.lxs.bindings binding then (u.removeBinding binding).exportResult 1 else u.exportResult 5

/-! ### A system of one, detaching, the boundary and the snapshot -/

/-- LAXUS_ALONE_TIMEOUT (R356): no port UP within 100 ms after the image applied, with ALONE set. -/
def doLaxusAloneTimeout (dt : Nat) (s : State) : State :=
  let t := s.tick dt
  t.onLiveIf (t.isMember && t.upPorts.isEmpty && decide (t.get LXS_STATUS.PHASE ≤ 2) && t.get LXS_STATUS.PHASE != 0 &&
      decide (t.lxs.imageAt + 100 * msSteps ≤ t.now) && bitAt (lxsFlags t.lxsCfg) 0) fun u =>
    let u1 := ({ u with lxs := { u.lxs with
      root := u.uid
      rootPrio := u.get LXS_CTRL.PRIORITY
      electing := false } }).showRoot.takeRootRole
    let u2 := ((u1.wrN LXS_SYSID_LO u1.uid).put LXS_SYSID_HI.ID_HIGH (u1.uid / 2 ^ 32)).put LXS_SYSID_HI.GEN 0
    ((u2.put LXS_STATUS.PHASE 7).assignStations).put LXS_COUNT.DEVICES 1

/-- A shutdown takes the device out of its system (Table THM-4, step 4). -/
def State.lxsDetach (s : State) : State :=
  if !s.isMember then s
  else
    let s1 := match s.lxParent with
      | some j => s.queueMsg j 3 0x02 1 []
      | none => s
    let s2 := foldOver (idxWhere 4 s1.lxUsed) (fun j t =>
      ((t.setLxPort j LxsPort.init).lxEnter j lxDown).lxIdle j) s1
    let s3 := foldOver (List.range 4) (fun j t => (t.putB (LXS_PORT_STATE.PARENT j) false).putB (LXS_PORT_STATE.CHILD j) false) s2
    (((({ s3 with lxs := { LxsSt.reset with bindings := s3.lxs.bindings, imageAt := s3.lxs.imageAt } }).put LXS_STATUS.PHASE 0).put
      LXS_STATUS.PARENT_PORT 7).putB LXS_STATUS.ROOT false).loseTime

/-- The ASSIGNs due at this boundary take effect; a promotion among them ends the promotion (R346, R347). -/
def State.assignsBoundary (s : State) : State :=
  let due := s.lxs.assigns.filter (fun a => lfnAtOrAfter s.tim.lfn a.lfn)
  let s1 := foldOver due (fun a t => t.applyAssign a)
    { s with lxs := { s.lxs with assigns := s.lxs.assigns.filter (fun a => !lfnAtOrAfter s.tim.lfn a.lfn) } }
  if s1.lxs.promoting && due.any (fun a => a.promo && a.valid) then
    (({ s1 with lxs := { s1.lxs with promoting := false } }).put LXS_PROMOTE_STATUS.RESULT 1).put LXS_PROMOTE_STATUS.LFN
      (s1.tim.lfn % 65536)
  else s1

/-- A swap of roles that was agreed takes place (R342). -/
def State.swapBoundary (s : State) : State :=
  match s.lxs.swap with
  | some j => s.swapRoles j
  | none => s

/-- The answers to ROLE go out. -/
def State.answersBoundary (s : State) : State :=
  foldOver s.upPorts (fun j t =>
    let p := t.lxPort j
    if p.answer = 0 then t
    else
      let t1 := (t.setLxPort j { p with answer := 0 }).queueMsg j 3 0x0F p.answer [t.uid + t.get LXS_CTRL.PRIORITY * 2 ^ 48]
      if p.answer = 2 then { t1 with lxs := { t1.lxs with swap := some j } } else t1) s

/-- TIME to the children, where the device knows the root time, and DELAY_REQ to the parent (R343). -/
def State.timesBoundary (s : State) : State :=
  let s1 := if s.isRoot || (s.lxParent.isSome && s.lxs.setOnce) then s.floodMsg s.childPorts 1 0x06 0 [0, 0, 0] else s
  match s1.lxParent with
  | some j => if s1.isUp j then s1.queueMsg j 1 0x07 0 [] else s1
  | none => s1

/-- The device's own REPORT, once it has converged and its start-up conditions hold (R355). -/
def State.ownReportBoundary (s : State) : State :=
  match s.lxParent with
  | some j =>
    if !s.lxs.reported && s.flag LXS_STATUS.CONVERGED && s.localReady then
      ({ s with lxs := { s.lxs with reported := true } }).queueMsg j 3 0x03 0 (reportWords s.uid s.ownReport)
    else s
  | none => s

/-- READY_ALL of the root, once every ASSIGN has taken effect. -/
def State.readyAllBoundary (s : State) : State :=
  if s.isRoot && s.get LXS_STATUS.PHASE == 5 && s.lxs.assigns.isEmpty && !s.lxs.readyAll then
    let n := s.treeReports.length
    let sp := s.spareIds.length
    (({ s with lxs := { s.lxs with readyAll := true } }).put LXS_COUNT.DEVICES n |>.put LXS_COUNT.SPARES sp).floodMsg s.childPorts 3
      0x05 0 [n % 8192 + sp % 8192 * 2 ^ 16]
  else s

/-- A handover asks the root beside the device for its role. -/
def State.askRoleBoundary (s : State) : State :=
  match s.lxs.handover, s.lxParent with
  | some _, some j => if s.lxs.hops = 1 ∧ !(s.lxPort j).asked ∧ s.lxs.swap.isNone then s.askRole j else s
  | _, _ => s

/-- LXS at a boundary: assignments apply (R346, R347), roles reverse (R342), the parent sends TIME and the child
DELAY_REQ (R343), a converged device reports (R355), the root floods READY_ALL, and a handover goes on. -/
def State.lxsBoundary (s : State) : State :=
  if !s.isMember || s.get LXS_STATUS.PHASE == 0 then s
  else s.assignsBoundary.absentBoundary.swapBoundary.answersBoundary.timesBoundary.ownReportBoundary.readyAllBoundary.askRoleBoundary

/-- Words of snapshot group 0x09 (Table LXS-18). -/
def State.lxsSnap (s : State) : List Nat :=
  [s.rdN LXS_STATUS, s.rdN LXS_STATION, s.rdN LXS_EPOCH, s.rdN LXS_TIME_ERR, s.rdN LXS_COMMIT] ++
    (List.range 4).map (fun j => s.rdN (LXS_PORT_STATE j)) ++ (List.range 4).map (fun j => s.rdN (LXS_PORT_DELAY j))

end Sys2Proof.Machine
end

