-- ==== Sys2Proof/Machine/Lanes.lean ====
section
/-! DEFINITION. The rows of the serial lanes: slots sent and received, training, status, wake and idle, reference
clocks, loopbacks, eyes and pattern checkers (R308 to R330), and the Laxus link layer's frames (R335, R336). -/
namespace Sys2Proof.Machine

/-- A failed lane's consequence for its port (R321, R334). -/
def State.laneGone (s : State) (l : Nat) : State := if laneIsLaxus l then s.lxLaneLoss l else s.laneLoss l

/-- A failure of R320 with its consequences, where the lane can fail. -/
def State.failAndLose (s : State) (l cause : Nat) : State :=
  let t := s.failLane l cause
  if t.laneState l == lnFailed && s.laneState l != lnFailed then t.laneGone l else t

/-! ### Laxus frames (R335, R336) -/

/-- The next message that may be sent: the highest class with one waiting, read messages only with credit. -/
def pickMsg (p : LxsPort) (ws : List LxsMsg) : Option LxsMsg :=
  let ok := fun (m : LxsMsg) => if m.cls = 5 then decide (0 < p.credReq)
    else if m.cls = 4 then decide ((m.words.length - 1) / 8 ≤ p.credResp) else true
  [1, 2, 3, 4, 5].findSome? (fun c => (ws.filter ok).find? (fun m => m.cls == c))

/-- Credit that a message uses. -/
def payCredit (p : LxsPort) (m : LxsMsg) : LxsPort :=
  if m.cls = 5 then { p with credReq := p.credReq - 1 }
  else if m.cls = 4 then { p with credResp := p.credResp - (m.words.length - 1) / 8 } else p

/-- Fill `n` words from the message being sent and the messages that wait; IDLE where there is none. `k` counts the
words placed, `st` the places of stamped words. -/
def State.fillLx (s : State) (l : Nat) : Nat → Nat → List Nat → List Nat → State × List Nat × List Nat
  | 0, _, acc, st => (s, acc, st)
  | n + 1, k, acc, st =>
    let x := s.lxLane l
    match x.cur with
    | w :: r => fillLx (s.setLxLane l { x with cur := r }) l n (k + 1) (acc ++ [w]) (if x.curStamped then st ++ [k] else st)
    | [] =>
      let j := (l - 136) / 2
      match pickMsg (s.lxPort j) x.waiting with
      | none => fillLx s l n (k + 1) (acc ++ [0]) st
      | some m =>
        let ws := s.stampWords m
        let stamped := m.cls == 1
        let s1 := ((s.setLxLane l { x with
          waiting := x.waiting.erase m
          cur := ws.drop 1
          curStamped := stamped }).setLxPort j (payCredit (s.lxPort j) m)).inc (LXS_PORT_TX.MESSAGES j)
        fillLx s1 l n (k + 1) (acc ++ [nthD ws 0 0]) (if stamped then st ++ [k] else st)

/-- Whether the port's state lets messages out on its lanes. -/
def State.lxTalks (s : State) (l : Nat) : Bool :=
  let st := s.lxState ((l - 136) / 2)
  st == lxHello || st == lxUp || st == lxBlocked || (st == lxRetrain && !(s.lxPort ((l - 136) / 2)).stopped)

/-- Words of a Laxus lane's next data frame: the link header, then messages, or a frame sent again (R335). -/
def State.lxFrame (s : State) (l : Nat) : List Nat × State :=
  let x := s.lxLane l
  let hdr := fun (fseq : Nat) (y : LxsLane) => fseq + y.ack * 2 ^ 16 + boolNat y.nak * 2 ^ 32
  match x.again with
  | f :: r => (hdr f.fseq x :: f.words, s.setLxLane l { x with again := r })
  | [] =>
    let g := if s.lxTalks l then s.fillLx l 63 0 [] [] else (s, List.replicate 63 0, [])
    let y := g.1.lxLane l
    let fs := (y.fseq + 1) % 65536
    let fr : LxsFrame := { fseq := fs, words := g.2.1, stamped := g.2.2 }
    (hdr fs y :: g.2.1, g.1.setLxLane l { y with
      fseq := fs
      hist := (y.hist ++ [fr]).drop (y.hist.length + 1 - 64)
      since := if y.hist.all (fun h => h.fseq == y.acked) then s.now else y.since })

/-- The receiver's side of the link header (R335): acknowledgement, NAK and the sequence of frames. Whether the
frame's messages are taken. -/
def State.lxReceive (s : State) (l : Nat) (words : List Nat) (ok : Bool) : State × Bool :=
  let x := s.lxLane l
  let j := (l - 136) / 2
  let setNak := fun (t : State) => if x.nak then t else (t.setLxLane l { t.lxLane l with nak := true }).inc (LXS_PORT_REPLAYS.NAKS j)
  if !ok then (setNak s, false)
  else
    let h := nthD words 0 0
    let ack := bitsOf h 31 16
    let s1 := s.setLxLane l { x with
      acked := ack
      since := if ack = x.acked then x.since else s.now }
    let s2 := if bitAt h 32 then s1.resendFrom l ack else s1
    if h % 65536 = (x.ack + 1) % 65536 then
      (s2.setLxLane l { s2.lxLane l with ack := h % 65536, nak := false }, true)
    else if h % 65536 = x.ack then (s2, false)
    else (setNak s2, false)

/-! ### Sending a slot (R308, Table LAN-4) -/

/-- A lane that must send status frames sends one at least once in 256 slots, and soon after a change of sync or a CRC
failure (R318). -/
def State.statusDueNow (s : State) (l : Nat) : Bool :=
  laneIsLaxus l && ((s.lane l).statusDue || decide (255 ≤ (s.lane l).sinceStatus))

/-- A data slot of a lane. -/
def State.sendData (s : State) (l : Nat) : State :=
  if s.statusDueNow l then
    (s.setLane l { s.lane l with
      statusDue := false
      sinceStatus := 0 }).sendFrame l 3 true (s.statusWords l)
  else
    let s1 := s.setLane l { s.lane l with sinceStatus := (s.lane l).sinceStatus + 1 }
    let w := if laneIsLaxus l then s1.lxFrame l else s1.takeWords l
    w.2.sendFrame l 0 true w.1

/-- A training slot of a lane; READY frames are counted (R315). -/
def State.sendTraining (s : State) (l : Nat) : State :=
  let x := s.lane l
  let ws := s.trainingWords l
  let s1 := s.useFree.setLane l { x with sentReady := if 64 ≤ x.good then x.sentReady + 1 else x.sentReady }
  (s1.sendFrame l 2 false ws).trainCheck l

/-- A slot in LOOPBACK: the pattern, or framed traffic; in the near-end modes the balls stay idle and the bits return
to the lane's own receiver (R328, R329). -/
def State.sendLoop (s : State) (l : Nat) : State :=
  let x := s.lane l
  let mode := s.get (LAN_LANE_CTRL.LOOP l)
  if mode = 3 then s.sendTraining l
  else if s.flag (LAN_LANE_PRBS_CTRL.GEN_EN l) then
    let g := prbsGen (s.get (LAN_LANE_PRBS_CTRL.GEN_POLY l)) slotUi x.prbs
    (s.setLane l { x with prbs := g.2 }).checkBits l g.1
  else
    let y := slotBits x 0 true (List.replicate 64 0)
    let s1 := s.setLane l { x with
      txBit := y.2.2.1
      txRun := y.2.2.2 }
    (s1.receiveSlot l y.1).1

/-- LANE_SLOT_TRANSMIT (R308): the slot's start; F advances and the lane sends what its state asks for. `fault` says
that the transmitter reports a driver fault (R320). -/
def doLaneSlotTransmit (dt l : Nat) (fault : Bool) (s : State) : State :=
  let t := s.tick dt
  let st := t.laneState l
  t.onLiveIf (decide (l < laneCount) && st != lnOff && st != lnFenced) fun u0 =>
    let x := u0.lane l
    let u1 := u0.setLane l { x with
      f := (x.f + 1) % 2 ^ 48
      slotTime := u0.now }
    let u := if u1.lxStops l then u1.lxStop ((l - 136) / 2) else u1
    let f1 := (u.lane l).f
    let st := u.laneState l
    let v :=
      if st = lnTrain ∨ st = lnStandby ∨ st = lnFailed then u.sendTraining l
      else if st = lnWake then
        (if 0 < x.wakeLeft then (u.setLane l { u.lane l with wakeLeft := x.wakeLeft - 1 }).sendTraining l else u.sendTraining l)
      else if st = lnData then
        (if x.waitStart && f1 % 64 != 0 then u.sendTraining l
        else ((u.setLane l { u.lane l with waitStart := false }).stepEq l).sendData l)
      else if st = lnLoop then u.sendLoop l
      else u
    if fault then v.failAndLose l 5 else v

/-! ### Receiving (R314, R315, R318, R324) -/

/-- What a received frame does, by its kind. -/
def State.takeFrame (s : State) (l : Nat) (fr : RxFrame) (adapted : Bool) : State :=
  if fr.kind = 2 then s.takeTraining l fr.words fr.ok adapted
  else
    let s1 := if fr.ok then s else s.crcFailed l
    if fr.kind = 3 then (if fr.ok then s1.takeStatus l fr.words else s1)
    else
      let r := if laneIsLaxus l then s1.lxReceive l fr.words fr.ok else (s1, true)
      if r.2 then r.1.setLane l { r.1.lane l with
        rx := fr.words
        rxOk := fr.ok } else r.1

/-- DATA_FRAME_RX (R314): 4,333 UI of a slot arrive, UI 0 in bit 0. A fenced lane only counts a sync word as a sign of
life (R324); a checker in LOOPBACK takes the bits (R329). -/
def doDataFrameRx (dt l wire : Nat) (s : State) : State :=
  let t := s.tick dt
  let st := t.laneState l
  t.onLiveIf (decide (l < laneCount) && st != lnOff) fun u =>
    let bs := u.atBalls (LAN_LANE_CFG.RX_INVERT l) (bitsOfNat wire slotUi)
    if st = lnFenced then
      (if natOfBits ((bs.take 32).reverse) / 256 = syncPattern then
        (u.incSat (LAN_LANE_LIFE.COUNT l) 1).countLife (laneFence l) l 0
      else u)
    else if st = lnLoop ∧ u.flag (LAN_LANE_PRBS_CTRL.CHK_EN l) then u.checkBits l bs
    else
      let r := u.receiveSlot l bs
      let v := match r.2 with
        | none => r.1
        | some fr => r.1.takeFrame l fr false
      if v.laneState l == lnFailed && st != lnFailed then v.laneGone l else v

/-- TRAINING_FRAME_RX (R315): a training frame's link words, whether its CRC passed, and whether this receiver has
finished adapting on it. -/
def doTrainingFrameRx (dt l : Nat) (words : List Nat) (good adapted : Bool) (s : State) : State :=
  let t := s.tick dt
  t.onLiveIf (decide (l < laneCount) && t.laneState l != lnOff && t.laneState l != lnFenced)
    (fun u => u.takeTraining l words good adapted)

/-- STATUS_FRAME_RX (R318, R320). -/
def doStatusFrameRx (dt l : Nat) (words : List Nat) (s : State) : State :=
  let t := s.tick dt
  let st := t.laneState l
  t.onLiveIf (decide (l < laneCount) && (st == lnData || st == lnStandby || st == lnWake)) fun u =>
    let v := u.takeStatus l words
    if v.laneState l == lnFailed then v.laneGone l else v

/-- STATUS_FRAME_TIMEOUT (R320): no status frame for 1 ms on a lane whose far end must send them. -/
def doStatusFrameTimeout (dt l : Nat) (s : State) : State :=
  let t := s.tick dt
  t.onLiveIf (decide (l < laneCount) && t.laneState l == lnData && decide ((t.lane l).statusTime + msSteps ≤ t.now))
    (fun u => u.failAndLose l 4)

/-- LANE_TRAIN_TIMEOUT (R316): not trained within 40 ms; its port faults with code 0x01. -/
def doLaneTrainTimeout (dt l : Nat) (s : State) : State :=
  let t := s.tick dt
  t.onLiveIf (decide (l < laneCount) && t.laneState l == lnTrain && decide ((t.lane l).since + 40 * msSteps ≤ t.now)) fun u =>
    if laneIsLaxus l then (if u.lxState ((l - 136) / 2) = lxTrain then u.lxFaultPort ((l - 136) / 2) 0x01 else u)
    else if u.laneRole l = 1 ∧ u.portState (u.lanePort l) = ptTrain then u.portFault (u.lanePort l) 0x01
    else u

/-! ### Idle and wake (R327) -/

/-- LANE_IDLE_ENTRY (R327): the 16 µs window at phase 0 of a replaying port has ended. -/
def doLaneIdleEntry (dt l : Nat) (s : State) : State :=
  let t := s.tick dt
  t.onLiveIf (decide (l < 136) && t.laneState l == lnData && t.flag (APT_PORT_STATE.REPLAY (t.lanePort l)) &&
      decide (t.tim.lfStart16 / 65536 + 16 * usSteps ≤ t.now)) (fun u => u.setLaneState l lnIdle)

/-- LANE_WAKE (R327): from 4 µs before the window, an idle lane sends 8 training frames. -/
def doLaneWake (dt l : Nat) (s : State) : State :=
  let t := s.tick dt
  t.onLiveIf (decide (l < laneCount) && t.laneState l == lnIdle && decide (t.toBoundary ≤ 4 * usSteps)) fun u =>
    (u.setLane l { u.lane l with wakeLeft := 8 }).setLaneState l lnWake

/-- LANE_WAKE_TIMEOUT (R320): not in DATA within 4 µs. -/
def doLaneWakeTimeout (dt l : Nat) (s : State) : State :=
  let t := s.tick dt
  t.onLiveIf (decide (l < laneCount) && t.laneState l == lnWake && decide ((t.lane l).since + 4 * usSteps ≤ t.now))
    (fun u => u.failAndLose l 6)

/-! ### Reference clocks (R306, R321) -/

/-- REFCLK_LOST (R321, Table LAN-7): reference clock k has been lost for 1 µs; its lanes go to OFF and are not fenced, and their
ports see a link failure; clock 0 also stops the domains derived from it. -/
def doRefclkLost (dt k : Nat) (s : State) : State :=
  let t := s.tick dt
  t.onLiveIf (decide (k < 4) && bitAt (t.get LAN_STATUS.REFCLK_OK) k) fun u =>
    let u0 := { u with lan := { u.lan with coreStopped := u.lan.coreStopped || k == 0 } }
    let u1 := u0.put LAN_STATUS.REFCLK_OK (setBit (u.get LAN_STATUS.REFCLK_OK) k false)
    let u2 := foldOver ((List.range laneCount).filter (fun l => laneRef l == k && u1.laneState l != lnFenced))
      (fun l v => v.setLaneState l lnOff) u1
    let u3 := foldOver (u2.activePorts.filter (fun p => (u2.physLanes p).any (fun l => laneRef l == k))) (fun p v => v.linkFailure p) u2
    if u3.lxUsed k && u3.lxState k != lxFault then
      (if u3.isUp k then u3.leaveUp k lxDown else u3.lxEnter k lxDown)
    else u3

/-- REFCLK_RESTORED (R321): the clock has been present for 1 ms; its lanes train again. -/
def doRefclkRestored (dt k : Nat) (s : State) : State :=
  let t := s.tick dt
  t.onLiveIf (decide (k < 4) && !bitAt (t.get LAN_STATUS.REFCLK_OK) k) fun u =>
    let u0 := { u with lan := { u.lan with coreStopped := u.lan.coreStopped && k != 0 } }
    let u1 := u0.put LAN_STATUS.REFCLK_OK (setBit (u.get LAN_STATUS.REFCLK_OK) k true)
    let u2 := foldOver ((List.range 136).filter (fun l => laneRef l == k && u1.laneState l == lnOff && u1.laneUsable l &&
        (laneIsSpare l || (u1.portState (u1.lanePort l) != ptFault && u1.portState (u1.lanePort l) != 0))))
      (fun l v => v.trainLane l true) u1
    if u2.lxUsed k && u2.lxState k == lxDown then u2.lxStartTrain k else u2

/-! ### Loopbacks, eyes and checkers (R328 to R330) -/

/-- A lane is out of service (R328). -/
def State.outOfService (s : State) (l : Nat) : Bool :=
  let st := s.laneState l
  s.laneRole l == 0 || st == lnFenced || (laneIsSpare l && st == lnStandby) || (s.lane l).freed || st == lnLoop ||
    (s.laneRole l == 1 && (s.portState (s.lanePort l) == 0 || s.portState (s.lanePort l) == ptFault)) ||
    (laneIsLaxus l && !s.lxUsed ((l - 136) / 2))

/-- LANE_LOOP_WRITE (R328): a write of LOOP; a lane in service refuses it with an access event of kind 8. Clearing it
returns the lane to TRAIN, or to the state of a lane that the image does not use or that is fenced. -/
def doLaneLoopWrite (dt l loop : Nat) (s : State) : State :=
  (s.tick dt).onReachIf (decide (l < laneCount)) fun t =>
    if !t.outOfService l then t.accessEvent devQ (LAN_LANE_CTRL l) 8
    else
      let t1 := t.put (LAN_LANE_CTRL.LOOP l) loop
      if loop % 4 ≠ 0 then
        (t1.setLane l { t1.lane l with
          prbs := 2 ^ 31 - 1
          chkHist := 0
          chkSeen := 0
          chkRun := 0
          chkWin := 0 }).setLaneState l lnLoop
      else if t1.laneState l != lnLoop then t1
      else if t1.isFenced (laneFence l) l 0 then t1.setLaneState l lnFenced
      else if t1.laneUsable l then t1.trainLane l true
      else t1.setLaneState l lnOff

/-- PRBS_CHECKER_LOCK (R329): 64 bits in a row without an error. -/
def doPrbsCheckerLock (dt l : Nat) (s : State) : State :=
  let t := s.tick dt
  t.onLiveIf (decide (l < laneCount) && t.laneState l == lnLoop && t.flag (LAN_LANE_PRBS_CTRL.CHK_EN l) &&
      decide (64 ≤ (t.lane l).chkRun)) (fun u => u.putB (LAN_LANE_PRBS_CTRL.CHK_LOCK l) true)

/-- PRBS_CHECKER_LOCK_LOSS (R329): 8 errors within 64 bits. -/
def doPrbsCheckerLockLoss (dt l : Nat) (s : State) : State :=
  let t := s.tick dt
  t.onLiveIf (decide (l < laneCount) && t.flag (LAN_LANE_PRBS_CTRL.CHK_LOCK l) && decide (8 ≤ popCount 64 (t.lane l).chkWin))
    (fun u => (u.setLane l { u.lane l with chkRun := 0 }).putB (LAN_LANE_PRBS_CTRL.CHK_LOCK l) false)

end Sys2Proof.Machine
end

