-- ==== Sys2Proof/Machine/Cal.lean ====
section
/-! DEFINITION. CAL: calibration sessions (R399 to R409), the calibration store (R410 to R412), self-test and the repair
map (R413, R414), rotating shadow checks (R415 to R418) and the maintenance repair pass (R419). -/
namespace Sys2Proof.Machine

/-! ### Sessions (R399 to R401) -/

abbrev kEye : Nat := 1
abbrev kSense : Nat := 2
abbrev kColour : Nat := 3
abbrev kTime : Nat := 4
abbrev kMargin : Nat := 5

/-- States of CAL_SESS_k_STATUS (Table CAL-9). -/
abbrev sessRunning : Nat := 1
abbrev sessDone : Nat := 2
abbrev sessFailed : Nat := 3
abbrev sessAborted : Nat := 4
abbrev sessRefused : Nat := 5

/-- A session without anything. -/
def noSess : SessSt :=
  { start := 0, args := [], step := 0, due := 0, lane := 0, old := [], widths := [], lfn := 0, slot := 0, readings := [],
    windows := 0 }

def State.sess (s : State) (k : Nat) : Option SessSt := tfind s.cal.sess k

def State.setSess (s : State) (k : Nat) (x : SessSt) : State := { s with cal := { s.cal with sess := tset s.cal.sess k x } }

def SessSt.arg (x : SessSt) (k : Nat) : Nat := nthD x.args k 0

/-- CAL_RES_DATA shows the selected item (Table CAL-10). -/
def State.showRes (s : State) : State :=
  let i := s.get CAL_RES_SEL.INDEX
  s.wrN CAL_RES_DATA (match s.get CAL_RES_SEL.KIND with
    | 2 => uns 32 (tget 0 s.cal.ppm i)
    | 3 => tget 0 s.cal.deltaE i % 65536
    | 5 => ofLE ((tget [] s.cal.margins i).map (BitVec.ofNat 8))
    | _ => 0)

/-- The reasons of Table CAL-2 that every kind shares, in the order of the table: busy, start-up, shutdown, power. -/
def State.commonRefusal (s : State) (k : Nat) : Option Nat :=
  if (s.sess k).isSome then some 1
  else if !s.flag HIF_STATUS.STARTUP_DONE then some 2
  else if s.get THM_STATUS.STATE ≠ 0 then some 3
  else if s.lmp.short.contains 7 then some 4
  else none

/-- A request for a session is refused or the session starts (R399). A session of the kind that runs goes on and keeps
its STATE. -/
def State.askSession (s : State) (k : Nat) (own : State → List Nat → Option Nat) (start : SessSt → State → State) : State :=
  let s0 := s.put CAL_SESSION.KIND k
  let args := (List.range 4).map (fun i => s0.get (CAL_SESSION_ARG.ARG i))
  match (s0.commonRefusal k).or (own s0 args) with
  | some 1 => s0.put (CAL_SESS_STATUS.REASON k) 1
  | some r => (s0.put (CAL_SESS_STATUS.STATE k) sessRefused).put (CAL_SESS_STATUS.REASON k) r
  | none =>
    let x : SessSt := { noSess with start := s0.now, args := args }
    start x (((s0.setSess k x).put (CAL_SESS_STATUS.STATE k) sessRunning).put (CAL_SESS_STATUS.REASON k) 0)

/-! ### The store (R410 to R412) -/

/-- A copy's byte layout: header, block table, blocks and check word (Tables CAL-3 and CAL-4). -/
def storeImage (seq uid : Nat) (blocks : List (Nat × List Byte)) : List Byte :=
  let n := blocks.length
  let first := 0x40 + 12 * n
  let size := fun (l : List (Nat × List Byte)) => listSum (l.map (fun b => b.2.length))
  let table := (List.range n).flatMap (fun k =>
    let b := nthD blocks k (0, [])
    leBytes 2 b.1 ++ leBytes 2 0 ++ leBytes 4 (first + size (blocks.take k)) ++ leBytes 4 b.2.length)
  let len := first + size blocks + 4
  let body := leBytes 4 0x4C414346 ++ leBytes 2 1 ++ leBytes 2 n ++ leBytes 4 len ++ leBytes 4 seq ++ leBytes 6 uid ++
    List.replicate 42 0 ++ table ++ blocks.flatMap (·.2)
  body ++ leBytes 4 (crc32 body)

/-- A signed byte of an offset pair of LANE_EQ (Table CAL-4). -/
def laneEqBytes (pre post ctle : Int) : List Byte :=
  [BitVec.ofNat 8 (uns 4 pre + 16 * uns 4 post), BitVec.ofNat 8 (uns 8 ctle)]

/-- The blocks that capture the values in force (R412). HBM_TRAIN is the device's own (log 64). -/
def State.storeBlocks (s : State) : List (Nat × List Byte) :=
  [(0x0001, (List.range 1024).flatMap (fun e => (s.lampOf e ++ List.replicate 32 0).take 32)),
   (0x0002, (List.range 16).flatMap (fun k => leBytes 4 (s.get (LMP_PS_CH_GAIN.GAIN k)) ++
      leBytes 4 (uns 32 (s.getSgn (LMP_PS_CH_OFFSET.OFFSET k))))),
   (0x0003, (List.range 6).flatMap (fun p => leBytes 2 (s.get (COL_PRIM_TARGET.COUNTS p))) ++ List.replicate 4 0 ++
      (List.range 64).flatMap (fun g => (List.range 6).flatMap (fun p =>
        let v := tget (0, 0) s.cal.xy (g * 8 + p)
        leBytes 4 (s.lumOf g p) ++ leBytes 2 v.1 ++ leBytes 2 v.2))),
   (0x0005, (List.range laneCount).flatMap (fun l => laneEqBytes (s.getSgn (LAN_LANE_EQ.PRE_OFF l))
      (s.getSgn (LAN_LANE_EQ.POST_OFF l)) (tget 0 s.cal.ctleOff l))),
   (0x0006, (List.range 4096).map (Config.freeByte s.fresh)),
   (0x0007, leBytes 4 (uns 32 s.cal.trimRef) ++ leBytes 4 (uns 32 s.cal.trimOsc)),
   (0x0008, leBytes 4 s.cal.field.length ++ s.cal.field.flatMap (fun e =>
      leBytes 1 e.kind ++ leBytes 1 0 ++ leBytes 2 e.unit_ ++ leBytes 4 e.detail))]

/-- WRITING and PENDING as the store's writes stand (Table CAL-11). -/
def State.showStore (s : State) : State :=
  (s.putB CAL_STORE_STATUS.WRITING s.cal.write.isSome).putB CAL_STORE_STATUS.PENDING s.cal.saveDue

/-- A write that is due starts once start-up is complete and THM is normal and none runs (R412): it goes to the copy that
is not in force, which is erased. -/
def State.tryStore (s : State) : State :=
  if !s.cal.saveDue || s.cal.write.isSome || !s.flag HIF_STATUS.STARTUP_DONE || s.get THM_STATUS.STATE != 0 then s.showStore
  else
    let force := s.get CAL_STORE_STATUS.IN_FORCE
    let copy := if force = 1 then 1 else 0
    let old := s.rdN CAL_STORE_SEQ
    let seq := if force = 0 ∨ old = 0xFFFFFFFE then 1 else old + 1
    let bytes := storeImage seq s.uid s.storeBlocks
    let s1 := s.useFree.put CAL_STORE_STATUS.VALID (setBit (s.get CAL_STORE_STATUS.VALID) copy false)
    ({ s1 with cal := { s1.cal with
      saveDue := false
      write := some { copy := copy, bytes := bytes, retry := false }
      copyA := if copy = 0 then [] else s1.cal.copyA
      copyB := if copy = 1 then [] else s1.cal.copyB } }).showStore

/-- A store write is asked for; one asked for during a write is merged into one further write (R412). -/
def State.askStore (s : State) : State := ({ s with cal := { s.cal with saveDue := true } }).tryStore

/-- CAL_SAVE (R412): a PF write of SAVE. -/
def doCalSave (dt : Nat) (s : State) : State := (s.tick dt).onReach (fun t => t.askStore)

/-- CAL_STORE_WRITE_DONE (R412): the copy has been programmed and read back; `ok` says that it verified. A failure is
retried once, and then LAST is FAILED. -/
def doCalStoreWriteDone (dt : Nat) (ok : Bool) (s : State) : State :=
  let t := s.tick dt
  match t.cal.write with
  | none => t
  | some w =>
    t.onLive fun u =>
      if ok then
        let u1 := { u with cal := { u.cal with
          write := none
          copyA := if w.copy = 0 then w.bytes else u.cal.copyA
          copyB := if w.copy = 1 then w.bytes else u.cal.copyB } }
        let u2 := ((u1.put CAL_STORE_STATUS.VALID (setBit (u1.get CAL_STORE_STATUS.VALID) w.copy true)).put
          CAL_STORE_STATUS.IN_FORCE (w.copy + 1)).wrN CAL_STORE_SEQ (leAt w.bytes 0x0C 4)
        ((u2.put CAL_STORE_STATUS.LAST 1).inc CAL_STORE_STATUS.WRITES).tryStore
      else if !w.retry then { u with cal := { u.cal with write := some { w with retry := true } } }
      else
        ((({ u with cal := { u.cal with write := none } }.put CAL_STORE_STATUS.LAST 2).inc CAL_STORE_STATUS.WRITES).raise
          0x0E02 0 0 0).tryStore

/-- A running write is stopped at the end of the grace (R385, R412): the copy fails its check word. -/
def State.stopStore (s : State) : State :=
  match s.cal.write with
  | none => s
  | some _ => (({ s with cal := { s.cal with write := none } }).put CAL_STORE_STATUS.LAST 3).showStore

/-- The header fields, the check word and the blocks of a copy are in order (R411), but for its identity. -/
def storeForm (b : List Byte) : Bool :=
  let len := leAt b 0x08 4
  let n := leAt b 0x06 2
  leAt b 0 4 == 0x4C414346 && leAt b 4 2 == 1 && decide (1 ≤ n) && decide (n ≤ 16) && len % 4 == 0 &&
    decide (0x44 + 12 * n ≤ len) && decide (len ≤ 1048576) && decide (len ≤ b.length) &&
    leAt b (len - 4) 4 == crc32 (b.take (len - 4)) &&
    (List.range n).all (fun k => decide (leAt b (0x40 + 12 * k + 4) 4 + leAt b (0x40 + 12 * k + 8) 4 ≤ len))

def storeUid (b : List Byte) : Nat := leAt b 0x10 6
def storeSeq (b : List Byte) : Nat := leAt b 0x0C 4

/-- A block of a copy; empty where the copy has none. -/
def storeBlock (b : List Byte) (ty : Nat) : List Byte :=
  match (List.range (leAt b 0x06 2)).find? (fun k => leAt b (0x40 + 12 * k) 2 == ty) with
  | none => []
  | some k => (b.drop (leAt b (0x40 + 12 * k + 4) 4)).take (leAt b (0x40 + 12 * k + 8) 4)

/-- The units of a REPAIR_FIELD block (R413). -/
def storeField (b : List Byte) : List FenceEntry :=
  (List.range (min 512 (leAt b 0 4))).map (fun k =>
    { kind := leAt b (4 + 8 * k) 1, unit_ := leAt b (4 + 8 * k + 2) 2, detail := leAt b (4 + 8 * k + 4) 4, life := 0 })

/-- A fenced unit takes no part in the device (R418): a tile leaves the fabric; a lane is fenced when its image starts. -/
def State.leaveService (s : State) (e : FenceEntry) : State :=
  if e.kind = fenceTile then s.setTile e.unit_ { s.tile e.unit_ with fenced := true, logical := none, spare := false }
  else if (e.kind = fenceLane ∨ e.kind = fenceLaxus) ∧ e.unit_ < laneCount then s.setLaneState e.unit_ lnFenced
  else if e.kind = fenceRow then s.setRow e.unit_ e.detail { s.rowSt e.unit_ e.detail with fenced := true }
  else s

/-- Spare rows left by the fused map and the field map once self-test has assigned them (R211, R414). -/
def State.showSpareRows (s : State) : State :=
  if s.flag CAL_BIST.DONE then s.put PLN_STATUS.SPARE_ROWS (Config.storeSpareRows.toNat - s.fencedCount [fenceRow]) else s

/-- The values that the copy in force sets; a block that it lacks leaves its values at reset (R411). -/
def State.takeStore (s : State) (b : List Byte) : State :=
  let lamp := storeBlock b 1
  let ps := storeBlock b 2
  let colr := storeBlock b 3
  let eq := storeBlock b 5
  let tb := storeBlock b 7
  let s1 := if lamp.isEmpty then s else { s with lmp := { s.lmp with
    lamp := (List.range 1024).map (fun e => (e, (lamp.drop (32 * e)).take 32)) } }
  let s2 := if ps.isEmpty then s1 else foldOver (List.range 16) (fun k (t : State) =>
    (t.put (LMP_PS_CH_GAIN.GAIN k) (leAt ps (8 * k) 4)).put (LMP_PS_CH_OFFSET.OFFSET k) (leAt ps (8 * k + 4) 4)) s1
  let s3 := if colr.isEmpty then s2 else
    let t := foldOver (List.range 6) (fun p (u : State) => u.put (COL_PRIM_TARGET.COUNTS p) (leAt colr (2 * p) 2)) s2
    let at_ := fun g p => 0x10 + 48 * g + 8 * p
    let keys := (List.range 64).flatMap (fun g => (List.range 6).map (fun p => (g, p)))
    { t with
      col := { t.col with lum := keys.map (fun (k : Nat × Nat) => (k.1 * 8 + k.2, leAt colr (at_ k.1 k.2) 4)) }
      cal := { t.cal with xy := keys.map (fun (k : Nat × Nat) =>
        (k.1 * 8 + k.2, (leAt colr (at_ k.1 k.2 + 4) 2, leAt colr (at_ k.1 k.2 + 6) 2))) } }
  let s4 := if eq.isEmpty then s3 else foldOver (List.range laneCount) (fun l (t : State) =>
    let v := leAt eq (2 * l) 1
    let t1 := (t.put (LAN_LANE_EQ.PRE_OFF l) (v % 16)).put (LAN_LANE_EQ.POST_OFF l) (v / 16)
    { t1 with cal := { t1.cal with ctleOff := tset t1.cal.ctleOff l (sgn 8 (leAt eq (2 * l + 1) 1)) } }) s3
  let s5 := if tb.isEmpty then s4 else { s4 with cal := { s4.cal with
    trimRef := sgn 32 (leAt tb 0 4)
    trimOsc := sgn 32 (leAt tb 4 4) } }
  let known := storeField (storeBlock b 8)
  let extra := s5.cal.field.filter (fun e => !known.any (fun k => k.kind == e.kind && k.unit_ == e.unit_ && k.detail == e.detail))
  let s6 := { s5 with cal := { s5.cal with field := known ++ extra } }
  (foldOver known (fun e t => t.leaveService e) s6).showTiles.showFenced.showSpareRows

/-- CAL_STORE_READ (R411): once after each boot instant, when the section data of the first image has been read; the
bytes of both copies. -/
def doCalStoreRead (dt : Nat) (copyA copyB : List Byte) (s : State) : State :=
  let t := s.tick dt
  t.onLiveIf (!t.cal.read && t.cfg.dataRead) fun u =>
    let form := fun (ty : Nat) (b : List Byte) => u.cfg.dirValid && storeForm b &&
      (tfind u.cfg.regions ty).any (fun r => decide (leAt b 0x08 4 ≤ r.len))
    let okA := form 4 copyA && storeUid copyA == u.uid
    let okB := form 5 copyB && storeUid copyB == u.uid
    let u1 := if form 4 copyA && !okA then u.raise 0x0E06 0 0 0 else u
    let u2 := if form 5 copyB && !okB then u1.raise 0x0E06 1 0 0 else u1
    let d := mod32Sub (storeSeq copyB) (storeSeq copyA)
    let force : Nat := if okA && okB then (if 1 ≤ d ∧ d ≤ 2 ^ 31 then 2 else 1) else if okA then 1 else if okB then 2 else 0
    let u3 := { u2 with cal := { u2.cal with
      read := true
      copyA := copyA
      copyB := copyB } }
    let u4 := ((u3.put CAL_STORE_STATUS.IN_FORCE force).put CAL_STORE_STATUS.VALID (boolNat okA + 2 * boolNat okB)).wrN
      CAL_STORE_SEQ (if force = 2 then storeSeq copyB else if force = 1 then storeSeq copyA else 0)
    let u5 := if force = 2 then u4.takeStore copyB else if force = 1 then u4.takeStore copyA else u4
    u5.checkLamps.showLamp.showStore

/-! ### The end of a session (R401) -/

/-- A session's status, time and event; a store write follows every DONE while AUTO_SAVE is 1. -/
def State.endSession (s : State) (k st reason : Nat) : State :=
  match s.sess k with
  | none => s
  | some x =>
    let s1 := { s with cal := { s.cal with sess := tdel s.cal.sess k } }
    let s2 := (((s1.put (CAL_SESS_STATUS.STATE k) st).put (CAL_SESS_STATUS.REASON k) reason).putSat (CAL_SESS_STATUS.TIME_MS k)
      ((s.now - x.start) / msSteps)).raise 0x0E01 k st reason
    if st = sessDone ∧ s2.flag CAL_CTRL.AUTO_SAVE then s2.askStore else s2

/-! ### Lane eye (R402) -/

/-- The offsets in force of a lane. -/
def State.laneOffs (s : State) (l : Nat) : List Int :=
  [s.getSgn (LAN_LANE_EQ.PRE_OFF l), s.getSgn (LAN_LANE_EQ.POST_OFF l), tget 0 s.cal.ctleOff l]

def State.setLaneOffs (s : State) (l : Nat) (o : List Int) : State :=
  let s1 := (s.put (LAN_LANE_EQ.PRE_OFF l) (uns 4 (nthD o 0 0))).put (LAN_LANE_EQ.POST_OFF l) (uns 4 (nthD o 1 0))
  { s1 with cal := { s1.cal with ctleOff := tset s1.cal.ctleOff l (nthD o 2 0) } }

/-- The index of the widest of the first candidates (R402). -/
def widest (l : List Nat) : Nat := l.idxOf (listMax l)

/-- Offsets of candidate k: the 9 combinations with the CTLE offset as it stood, then CTLE -1, 0 and +1 at the best of
those 9. -/
def eyeCandidate (old : List Int) (widths : List Nat) (k : Nat) : List Int :=
  let nine := fun (j : Nat) => [(j / 3 : Int) - 1, (j % 3 : Int) - 1]
  if k < 9 then nine k ++ [nthD old 2 0]
  else nine (widest (widths.take 9)) ++ [((k - 9 : Nat) : Int) - 1]

/-- A lane's far-end work begins: it trains from its current settings, with its first candidate (R402). -/
def State.startEyeWork (s : State) (x : SessSt) : State :=
  (s.setSess kEye { x with step := 1, due := s.now }).setLaneOffs x.lane (eyeCandidate x.old [] 0)

/-- The session's lane gives way: an announced borrow is taken back, a borrowed lane returns at a boundary at least 20 µs
away, a spare in place returns to STANDBY at once; its offsets are the old ones (R325, R401). -/
def State.dropEye (s : State) (x : SessSt) : State :=
  let s1 := s.setLaneOffs x.lane x.old
  if laneIsSpare x.lane then (if x.step = 1 ∨ x.step = 2 then s1.setLaneState x.lane lnStandby else s1)
  else
    let sp := 128 + laneGroup x.lane
    if x.step = 0 then (s1.setLane sp { s1.lane sp with subst := none }).put (LAN_LANE_STATE.STANDS_FOR sp) 0xFF
    else if (s1.lane x.lane).freed then s1.announce sp x.lane 2
    else s1

/-- LANE_EYE_SESSION (R402): ARG_0[7:0] names the lane. -/
def doLaneEyeSession (dt : Nat) (s : State) : State :=
  (s.tick dt).onReach fun t =>
    t.askSession kEye
      (fun u args =>
        let l := nthD args 0 0 % 256
        if laneCount ≤ l then some 6
        else if laneIsLaxus l then some 5
        else if laneIsSpare l then (if u.laneState l = lnStandby ∧ (u.lane l).subst.isNone then none else some 5)
        else if u.laneState l ≠ lnData then some 6
        else match u.spareFor l with
          | none => some 5
          | some sp => if u.laneState sp = lnStandby ∧ (u.lane sp).subst.isNone ∧ u.standsFor sp = 0xFF then none else some 5)
      (fun x u =>
        let l := x.arg 0 % 256
        let y := { x with lane := l, old := u.laneOffs l }
        if laneIsSpare l then ((u.setSess kEye y).startEyeWork y).trainLane l false
        else (u.setSess kEye y).announce (128 + laneGroup l) l 1)

/-- A lane's eye has been measured: a candidate of the work, or the figure after its return (R402). -/
def State.eyeMeasured (s : State) (l w h : Nat) : State :=
  match s.sess kEye with
  | none => s
  | some x =>
    if x.lane ≠ l then s
    else if x.step = 1 ∧ s.laneState l = lnTrain ∧ s.now ≤ x.due + 8 * msSteps then
      let ws := x.widths ++ [w]
      if ws.length < 12 then (s.setSess kEye { x with widths := ws }).setLaneOffs l (eyeCandidate x.old ws ws.length)
      else
        let best := widest ws
        let s1 := s.setSess kEye { x with widths := ws, step := 2, lfn := s.lfnIn20us }
        let s2 := s1.setLaneOffs l (eyeCandidate x.old ws best)
        if laneIsSpare l then s2 else s2.announce (128 + laneGroup l) l 2
    else if x.step = 3 then
      ((s.setSess kEye { x with step := 4 }).put CAL_SESS_1_RESULT.WIDTH_MUI w).putSat CAL_SESS_1_RESULT.HEIGHT_MV h
    else s

/-- EYE_MEASUREMENT_DONE (R330): the width in mUI and the height in mV; a figure that falls below LAN_EYE_CFG marks the
lane marginal and raises an event (R320). -/
def doEyeMeasurementDone (dt l width height : Nat) (s : State) : State :=
  let t := s.tick dt
  let st := t.laneState l
  t.onLiveIf (decide (l < laneCount) && (st == lnData || st == lnStandby || st == lnTrain)) fun u =>
    let w := min 1000 width
    let was := u.flag (LAN_LANE_EYE.MARGINAL l)
    let bad := decide (w < u.get LAN_EYE_CFG.EYE_MIN_MUI) || decide (height < u.get LAN_EYE_CFG.EYE_MIN_MV)
    let u1 := ((u.put (LAN_LANE_EYE.WIDTH_MUI l) w).putSat (LAN_LANE_EYE.HEIGHT_MV l) height).putB (LAN_LANE_EYE.MARGINAL l) bad
    (if bad && !was then u1.raise 0x0702 l w 0 else u1).eyeMeasured l w height

/-- The lane did not train within the 8 ms (R402): it is failed, and a borrow stands as its substitution. -/
def State.eyeUntrained (s : State) (x : SessSt) : State :=
  let s1 := ((s.setLaneOffs x.lane x.old).setLaneState x.lane lnFailed).raise 0x0701 x.lane 0 0
  let s2 := if laneIsSpare x.lane then s1 else
    (s1.setLane x.lane { s1.lane x.lane with freed := false }).announce (128 + laneGroup x.lane) x.lane 3
  s2.endSession kEye sessFailed 14

/-- The lane eye session at a boundary, before the lanes': a failed lane of the group takes the borrowed spare (Table
CAL-7). -/
def State.eyeLaneFailed (s : State) : State :=
  match s.sess kEye with
  | none => s
  | some x =>
    let sp := 128 + laneGroup x.lane
    if laneIsSpare x.lane || !(s.lane x.lane).freed then s
    else match (List.range 128).find? (fun k => k != x.lane && s.laneState k == lnFailed && s.spareFor k == some sp) with
      | none => s
      | some k =>
        let s1 := (s.setLaneOffs x.lane x.old).setLane x.lane { s.lane x.lane with freed := false, waitStart := false }
        let s2 := (s1.setLaneState x.lane lnData).setLane sp { s1.lane sp with subst := none }
        let s3 := (s2.put (LAN_LANE_STATE.STANDS_FOR sp) k).put (LAN_LANE_STATE.LOGICAL sp) (s2.laneLogical k)
        (((s3.setLaneState k lnFenced).fenceUnit fenceLane k 0).raise 0x0703 sp k 0).endSession kEye sessFailed 12

/-- The lane eye session at a boundary, after the lanes' places are taken: the work begins with the borrow, and the new
offsets take effect on the return (R402). -/
def State.eyeBoundary (s : State) : State :=
  match s.sess kEye with
  | none => s
  | some x =>
    if x.step = 0 ∧ (s.lane x.lane).freed then s.startEyeWork x
    else if x.step ≠ 2 then s
    else if laneIsSpare x.lane then
      (if lfnAtOrAfter s.tim.lfn x.lfn then
        let s1 := s.setLaneState x.lane lnStandby
        (s1.setEq x.lane (s1.eqTarget x.lane)).setSess kEye { x with step := 3 }
      else s)
    else if (s.lane x.lane).freed then s
    else (s.setEq x.lane (s.eqTarget x.lane)).setSess kEye { x with step := 3 }

/-! ### Photo-sense gain (R403) -/

/-- Full scale of a channel's range, in nA (R295). -/
def senseFs (range : Nat) : Nat := if range = 0 then 20000 else if range = 1 then 200000 else 2000000

/-- PSENSE_GAIN_SESSION (R403): the loop of every primary is FROZEN for the 400 ms. -/
def doPsenseGainSession (dt : Nat) (s : State) : State :=
  (s.tick dt).onReach fun t =>
    t.askSession kSense
      (fun u args =>
        let i := nthD args 0 0 % 2 ^ 24
        let bad := (idxWhere 16 (bitAt (nthD args 1 0))).any (fun k =>
          let fs := senseFs (u.get (LMP_PS_CH_CFG.RANGE k))
          decide (4 * i < fs) || decide (9 * fs < 10 * i))
        if bad || nthD args 1 0 % 65536 == 0 then some 6 else if (u.sess kColour).isSome then some 7 else none)
      (fun _ u => ({ u with col := { u.col with frozenUntil := u.now + 400 * msSteps } }).loopRefresh)

/-- The result of one channel: GAIN and the residual in ppm; `none` with reason 8 or 6 (R403). -/
def senseGain (i fs : Nat) (raw0 raw1 yver : Int) : Except Nat (Nat × Int) :=
  let yexp := divRound (65535 * i) fs
  if raw1 ≤ raw0 then .error 8
  else
    let g := divRound (32768 * yexp) (raw1 - raw0).toNat
    if g < 1 ∨ 2 ^ 20 - 1 < g then .error 6
    else .ok (g, tdiv ((yver - (yexp : Int)) * 1000000) (yexp : Int))

/-- The end of a photo-sense gain session with its readings: raw0, raw1 and yver of each masked channel, ascending. -/
def State.endSense (s : State) (x : SessSt) (meas : List Int) : State :=
  let ks := idxWhere 16 (bitAt (x.arg 1))
  let i := x.arg 0 % 2 ^ 24
  let m := fun k => nthD meas k 0
  let rs := (List.range ks.length).map (fun j =>
    let k := nthD ks j 0
    (k, m (3 * j), senseGain i (senseFs (s.get (LMP_PS_CH_CFG.RANGE k))) (m (3 * j)) (m (3 * j + 1)) (m (3 * j + 2))))
  let thaw := fun (t : State) => ({ t with col := { t.col with frozenUntil := t.now } }).loopRefresh
  match rs.findSome? (fun r => match r.2.2 with
      | .error e => some e
      | .ok _ => none) with
  | some e => (thaw s).endSession kSense sessFailed e
  | none =>
    let s1 := foldOver rs (fun r (t : State) => match r.2.2 with
      | .error _ => t
      | .ok g =>
        let t1 := (t.put (LMP_PS_CH_GAIN.GAIN r.1) g.1).put (LMP_PS_CH_OFFSET.OFFSET r.1) (uns 17 r.2.1)
        { t1 with cal := { t1.cal with ppm := tset t1.cal.ppm r.1 g.2 } }) s
    let top := listMax (rs.map (fun r => match r.2.2 with
      | .error _ => 0
      | .ok g => g.2.natAbs))
    ((thaw (s1.putSat CAL_SESS_2_RESULT.PPM top)).showRes).endSession kSense sessDone 0

/-! ### Colour (R404 to R407) -/

def colourGroups (x : SessSt) : List Nat := idxWhere 64 (bitAt (x.arg 0 + x.arg 1 * 2 ^ 32))

/-- Visible primaries of a group in index order. -/
def State.groupVisible (s : State) (g : Nat) : List Nat := (s.groupPrims g).filter s.visPrims.contains

/-- Group and primaries of a patch index; no primaries for a dark slot (R404). -/
def State.patchOf (s : State) (x : SessSt) (n : Nat) : Nat × List Nat :=
  let g := nthD (colourGroups x) (n / 6) 0
  let ps := s.groupVisible g
  (g, if n % 6 = 5 then ps else (ps.drop (n % 6)).take 1)

def patchCount (x : SessSt) : Nat := 6 * (colourGroups x).length

/-- COLOUR_SESSION (R404): ARG_0 and ARG_1 are the mask of groups, ARG_2[13:0] is LEVEL. -/
def doColourSession (dt : Nat) (s : State) : State :=
  (s.tick dt).onReach fun t =>
    t.askSession kColour
      (fun u args =>
        let gs := idxWhere 64 (bitAt (nthD args 0 0 + nthD args 1 0 * 2 ^ 32))
        let level := nthD args 2 0 % 2 ^ 14
        let b := u.lampMap
        if level < 1000 ∨ 10000 < level ∨ gs.isEmpty ∨ gs.any (fun g => decide (lmGroups b ≤ g)) then some 6
        else if (u.sess kSense).isSome then some 7
        else if (lmAll b).any (fun e => lmPosDac b e && gs.contains (lmPosGroup b e)) then some 10
        else none)
      (fun _ u => { u with
        cal := { u.cal with pattern := some 0, deltaE := [] }
        lmp := { u.lmp with patchSums := [] } })

/-- COLOUR_SLOT (R405): the next slot's patch is formed on every array output. -/
def doColourSlot (dt : Nat) (s : State) : State :=
  let t := s.tick dt
  match t.sess kColour with
  | none => t
  | some x =>
    t.onLiveIf (decide (x.slot < patchCount x) && decide (x.start + 200 * x.slot * msSteps ≤ t.now)) fun u =>
      let g := u.patchOf x x.slot
      let u1 := u.setSess kColour { x with slot := x.slot + 1 }
      let u2 := { u1 with cal := { u1.cal with
        pattern := some (maskOf 8 (fun p => g.2.contains p))
        patchNext := some { group := g.1, prims := g.2, level := x.arg 2 % 2 ^ 14 } } }
      foldOver u2.hosts (fun o v => v.askPass .patch [] o) u2

/-- COLOUR_PUT (R406): GO delivers X, Y and Z of a patch, before the nominal end of the slot that follows its own. A
reading for a dark slot is ignored. -/
def doColourPut (dt : Nat) (s : State) : State :=
  let t := s.tick dt
  match t.sess kColour with
  | none => t
  | some x =>
    let n := t.get CAL_COLOUR_PUT.PATCH
    t.onReachIf (decide (n < x.slot) && !(t.patchOf x n).2.isEmpty && decide (t.now ≤ x.start + 200 * (n + 2) * msSteps)) fun u =>
      let r := (u.get CAL_COLOUR_X.VALUE, u.get CAL_COLOUR_Y.VALUE, u.get CAL_COLOUR_Z.VALUE)
      u.setSess kColour { x with readings := tset x.readings n r }

/-- The end of a colour session, of whatever kind: every output starts a restore pass from its active state (R405). -/
def State.restorePicture (s : State) : State :=
  let s1 := { s with cal := { s.cal with
    pattern := none
    patchNext := none
    restoring := true } }
  foldOver s1.hosts (fun o t => t.askPass .patch [] o) s1

/-- COLOUR_MEASUREMENT_TIMEOUT (R406): a lit patch's reading has not come in time. -/
def doColourMeasurementTimeout (dt : Nat) (s : State) : State :=
  let t := s.tick dt
  match t.sess kColour with
  | none => t
  | some x =>
    t.onLiveIf ((List.range x.slot).any (fun n => !(t.patchOf x n).2.isEmpty && !thas x.readings n &&
        decide (x.start + 200 * (n + 2) * msSteps ≤ t.now))) (fun u => u.restorePicture.endSession kColour sessFailed 11)

/-- u' and v' of a meter reading; `none` where its denominator is 0. -/
def uvXyz (r : Nat × Nat × Nat) : Option (Rat × Rat) :=
  let d := r.1 + 15 * r.2.1 + 3 * r.2.2
  if d = 0 then none else some (mkRat (4 * r.1) d, mkRat (9 * r.2.1) d)

/-- u' and v' of a chromaticity. -/
def uvXy (x y : Rat) : Rat × Rat :=
  let d := -2 * x + 12 * y + 3
  (4 * x / d, 9 * y / d)

/-- A square root of a number below 2^60, in units of 2^-30 (log 65). -/
def ratSqrt (q : Rat) : Rat := mkRat (isqrt (q * 2 ^ 60).floor.toNat) (2 ^ 30)

/-- CIE 1976 lightness of a luminance relative to the white's, the cube root in units of 2^-20 (log 65). -/
def lightness (y yn : Nat) : Rat :=
  let t : Rat := mkRat y yn
  if t ≤ 216 / 24389 then 24389 * t / 27
  else 116 * mkRat (irootGo 3 (t * 2 ^ 60).floor.toNat 64 0) (2 ^ 20) - 16

def sqDist (a b : Rat × Rat) : Rat := (a.1 - b.1) * (a.1 - b.1) + (a.2 - b.2) * (a.2 - b.2)

def hundredths (q : Rat) : Nat := (100 * q + 1 / 2).floor.toNat

/-- ΔE of a primary patch, in 0.01 units (R407); `none` where the spec's quotients have no value. -/
def primDeltaE (r : Nat × Nat × Nat) (yn : Nat) (est : Rat × Rat) : Option Nat :=
  if yn = 0 then none
  else (uvXyz r).map (fun m => hundredths (13 * lightness r.2.1 yn * ratSqrt (sqDist m (uvXy est.1 est.2))))

/-- ΔE*uv of the white patch against the sum of the primaries' patches, the white being the measured one (R407, log 65). -/
def whiteDeltaE (w sum : Nat × Nat × Nat) : Option Nat :=
  if w.2.1 = 0 then none
  else
    match uvXyz w, uvXyz sum with
    | some a, some b =>
      let l := lightness sum.2.1 w.2.1
      some (hundredths (ratSqrt ((100 - l) * (100 - l) + 169 * l * l * sqDist a b)))
    | _, _ => none

/-- ΔE of one patch, a free value where the spec states none. -/
def State.holdDeltaE (s : State) (n : Nat) (d : Option Nat) : State :=
  match d with
  | some v => { s with cal := { s.cal with deltaE := tset s.cal.deltaE n (min v 65535) } }
  | none => { s.useFree with cal := { s.cal with deltaE := tset s.cal.deltaE n (s.freeVal 16) } }

/-- A lamp record with I_CAL_MA and T_CAL (Table LMP-6). -/
def withCal (b : List Byte) (cal : Nat) (t : Int) : List Byte := b.take 0x11 ++ leBytes 1 (uns 8 t) ++ leBytes 2 cal ++ b.drop 0x14

/-- Luminance, chromaticity, currents, temperatures and ΔE of the patches of one group (R407). -/
def State.takeGroup (s : State) (x : SessSt) (i : Nat) : State :=
  let g := nthD (colourGroups x) i 0
  let ps := s.groupVisible g
  let rd := fun k => tget (0, 0, 0) x.readings (6 * i + k)
  let white := rd 5
  let lit := ps.take 5
  let sum : Nat × Nat × Nat := ((List.range lit.length).map rd).foldl (fun a b => (a.1 + b.1, a.2.1 + b.2.1, a.2.2 + b.2.2)) (0, 0, 0)
  let s1 := foldOver (List.range lit.length) (fun k (t : State) =>
    let p := nthD lit k 0
    let r := rd k
    let tot := r.1 + r.2.1 + r.2.2
    let t1 := t.holdDeltaE (6 * i + k) (primDeltaE r white.2.1 (t.xyEst g p))
    let xy := if tot = 0 then (0, 0) else (min 65535 (divRound (r.1 * 65536) tot), min 65535 (divRound (r.2.1 * 65536) tot))
    { t1 with
      col := { t1.col with lum := tset t1.col.lum (g * 8 + p) r.2.1 }
      cal := { t1.cal with xy := tset t1.cal.xy (g * 8 + p) xy } }) s
  let s2 := if ps.isEmpty then s1 else s1.holdDeltaE (6 * i + 5) (whiteDeltaE white sum)
  let b := s2.lampMap
  foldOver ((lmAll b).filter (fun e => lmPosGroup b e == g && s2.lampValid e)) (fun e (t : State) =>
    match tfind t.lmp.patchSums e with
    | none => t
    | some a => { t with lmp := { t.lmp with lamp := tset t.lmp.lamp e (withCal (t.lampOf e)
        (divRound a.current (4 * a.count)) (fdivRound a.temp (4 * (a.count : Int)))) } }) s2

/-- A colour session ends DONE (R407). -/
def State.endColour (s : State) (x : SessSt) : State :=
  let gs := colourGroups x
  let s1 := foldOver (List.range gs.length) (fun i t => t.takeGroup x i) s
  let b := s1.lampMap
  let prims := s1.visPrims.filter (fun p =>
    (lmAll b).any (fun e => lmPosPrim b e == p) && (lmAll b).all (fun e => lmPosPrim b e != p || gs.contains (lmPosGroup b e)))
  let s2 := { s1 with cal := { s1.cal with target := some { prims := prims, first := none, sums := [] } } }
  let s3 := (s2.putSat CAL_SESS_3_RESULT.DE (listMax (s2.cal.deltaE.map (·.2)))).putSat CAL_SESS_3_RESULT.PATCHES x.readings.length
  s3.checkLamps.showLamp.showRes.restorePicture.endSession kColour sessDone 0

/-- Patches and the restore at a boundary, once the passes have applied (R405): the emitters follow at the latches of
updates that start from here. The patch-shown event has no code in Table INT-4 (log 66). -/
def State.patchBoundary (s : State) : State :=
  if s.hosts.any (fun o => (s.passesOf o).any (fun p => p.kind == .patch)) then s
  else match s.cal.patchNext with
    | some p =>
      let s1 := { s with
        lmp := { s.lmp with patch := some p }
        cal := { s.cal with patchNext := none } }
      (s1.useFree).raiseB (0x0E00 + s1.freeVal 8) (((s1.sess kColour).map (fun x => x.slot - 1)).getD 0) 0 0
    | none =>
      if s.cal.restoring then
        { s with
          lmp := { s.lmp with patch := none }
          cal := { s.cal with
            restoring := false
            target := s.cal.target.map (fun x => { x with first := some s.tim.lfn }) } }
      else s

/-- TARGET of the measured primaries after 8 LFs of samples (R407). -/
def State.targetBoundary (s : State) : State :=
  match s.cal.target with
  | none => s
  | some x =>
    match x.first with
    | none => s
    | some f =>
      if mod32Sub s.tim.lfn f < 8 then s
      else
        let s1 := { s with cal := { s.cal with target := none } }
        foldOver x.sums (fun e (t : State) =>
          let fp := t.get (COL_PRIM_LIGHT.F e.1)
          if fp = 0 ∨ e.2.2 = 0 then t
          else t.putSat (COL_PRIM_TARGET.COUNTS e.1) (divRound (e.2.1 * 65536) (e.2.2 * fp))) s1

/-! ### Timebase and HBM3E margin (R408, R409) -/

/-- TIMEBASE_SESSION (R408). -/
def doTimebaseSession (dt : Nat) (s : State) : State :=
  (s.tick dt).onReach fun t =>
    t.askSession kTime
      (fun u _ =>
        if !u.flag TIM_REF_STATUS.REF10M_VALID then some 8
        else if u.isRoot && decide (1 < u.get LXS_COUNT.DEVICES) then some 9 else none)
      (fun _ u => u.maskRefs)

/-- Its end with the errors measured, in ppb: lane reference clock 0, the always-on oscillator, and the verified error of
the reference clock. -/
def State.endTime (s : State) (meas : List Int) : State :=
  let m := fun k => nthD meas k 0
  if 100000 < (m 0).natAbs ∨ 100000 < (m 1).natAbs then (s.endSession kTime sessFailed 6).unmaskRefs
  else
    let s1 := (s.wrN CAL_SESS_4_RESULT (uns 32 (m 2)))
    let s2 := { s1 with cal := { s1.cal with
      trimRef := s1.cal.trimRef - m 0
      trimOsc := s1.cal.trimOsc - m 1 } }
    (s2.endSession kTime sessDone 0).unmaskRefs

/-- HBM_MARGIN_SESSION (R409). -/
def doHbmMarginSession (dt : Nat) (s : State) : State :=
  (s.tick dt).onReach (fun t => t.askSession kMargin (fun _ _ => none) (fun _ u => u))

/-- Its end with the four margins of each pseudo-channel: read left and right, write left and right, in 1/64 UI. -/
def State.endMargin (s : State) (meas : List Int) : State :=
  let m := fun k => (nthD meas k 0).toNat
  let per := (List.range 64).map (fun p => (p, (List.range 4).map (fun j => m (4 * p + j))))
  let lows := per.map (fun e => listMin (nthD e.2 0 0) e.2)
  let low := listMin (nthD lows 0 0) lows
  let s1 := { s with cal := { s.cal with margins := per } }
  (((s1.putSat CAL_SESS_5_RESULT.MARGIN low).put CAL_SESS_5_RESULT.PC (lows.idxOf low)).showRes).endSession kMargin sessDone 0

/-- SESSION_END (R401): the session of a kind has done its work, with what it measured; `meas` is that of the kind. -/
def doSessionEnd (dt kind : Nat) (meas : List Int) (s : State) : State :=
  let t := s.tick dt
  match t.sess kind with
  | none => t
  | some x =>
    t.onLive fun u =>
      if kind = kEye then
        (if x.step = 4 then u.endSession kEye sessDone 0
        else if x.step = 1 ∧ x.due + 8 * msSteps ≤ u.now then u.eyeUntrained x else u)
      else if kind = kSense then (if x.start + 400 * msSteps ≤ u.now then u.endSense x meas else u)
      else if kind = kColour then
        (if x.slot = patchCount x ∧ x.start + 200 * x.slot * msSteps ≤ u.now ∧
            (List.range x.slot).all (fun n => (u.patchOf x n).2.isEmpty || thas x.readings n) then u.endColour x else u)
      else if kind = kTime then (if x.start + 2 * secSteps ≤ u.now then u.endTime meas else u)
      else if kind = kMargin then (if 64 ≤ x.windows then u.endMargin meas else u)
      else u

/-- A running session ends with nothing applied (R401). -/
def State.abortSession (s : State) (k reason : Nat) : State :=
  match s.sess k with
  | none => s
  | some x =>
    if k = kEye then (s.dropEye x).endSession k sessAborted reason
    else if k = kSense then
      (({ s with col := { s.col with frozenUntil := s.now } }).loopRefresh).endSession k sessAborted reason
    else if k = kColour then s.restorePicture.endSession k sessAborted reason
    else if k = kTime then (s.endSession k sessAborted reason).unmaskRefs
    else s.endSession k sessAborted reason

/-- SESSION_ABORT (R401): the PF writes ABORT with KIND. -/
def doSessionAbort (dt kind : Nat) (s : State) : State :=
  (s.tick dt).onReach (fun t => (t.put CAL_SESSION.KIND kind).abortSession kind 13)

/-- A hardware shutdown aborts every running session (R401, Table THM-4). -/
def State.abortSessions (s : State) : State := foldOver [kEye, kSense, kColour, kTime, kMargin] (fun k t => t.abortSession k 3) s

/-! ### Spare tiles, shadows and confirmations (R414 to R418) -/

/-- Spare tiles that neither shadow nor wait as a third. -/
def State.idleSpares (s : State) : List Nat :=
  idxWhere tileCount (fun k => (s.tile k).spare && !(s.tile k).fenced && !s.cal.shadows.any (fun x => x.shadow == k || x.third == k))

/-- SEQ_TILES and CAL_CULLET.TILES. -/
def State.showCullet (s : State) : State := s.showTiles.putSat CAL_CULLET.TILES s.idleSpares.length

/-- A tile is fenced (R413, R418). -/
def State.fenceTileNow (s : State) (k : Nat) : State :=
  ((s.setTile k { fenced := true, logical := none, spare := false }).fenceUnit fenceTile k 0).showCullet

/-- Self-test ends (R414): its time and the units that failed; the Cullet assigns spares, and PLN_STATUS shows the rows and
columns left; the columns that it takes are not stated (log 16). -/
def State.endSelfTest (s : State) (ms : Nat) (failed : List UnitId) : State :=
  let u1 := foldOver failed (fun e (v : State) =>
    (v.leaveService { kind := e.kind, unit_ := e.unit_, detail := e.detail, life := 0 }).fenceUnit e.kind e.unit_ e.detail) s
  let u2 := (((u1.putB CAL_BIST.DONE true).putSat CAL_BIST.TIME_MS ms).putSat CAL_BIST.NEW_FAULTS failed.length).putB
    GLB_BOOT_STATUS.SELFTEST true
  ((u2.put PLN_STATUS.SPARE_COLS (u2.freeVal 8)).useFree).showSpareRows.placeTiles.showCullet

/-- Physical tile of a logical one. -/
def State.physTile (s : State) (l : Nat) : Option Nat := (List.range tileCount).find? (fun k => (s.tile k).logical == some l)

def State.usedTiles (s : State) : List Nat := idxWhere 256 (fun t => tpRole (s.sec secTileProg 0) t != 0)

/-- SHADOWS and LFS as they act (Table CAL-13). -/
def State.shadowMax (s : State) : Nat := clampN 1 4 (s.get CAL_SHADOW_CFG.SHADOWS)
def State.shadowLfs (s : State) : Nat := max 1 (s.get CAL_SHADOW_CFG.LFS)

/-- The next logical tile to be shadowed, at or after NEXT and not shadowed now, wrapping; and whether it is the first of
a new rotation (R415). -/
def State.nextShadow (s : State) : Option (Nat × Bool) :=
  let n := s.get CAL_SHADOW_STATUS.NEXT
  let free := s.usedTiles.filter (fun l => !s.cal.shadows.any (fun x => x.logical == l))
  match free.find? (fun l => decide (n ≤ l)) with
  | some l => some (l, l == (s.usedTiles.head?).getD 0)
  | none => (free.head?).map (fun l => (l, l == (s.usedTiles.head?).getD 0))

/-- One shadow starts where spares allow (R415). -/
def State.startShadow (s : State) : State :=
  if s.shadowMax ≤ s.cal.shadows.length then s
  else match s.idleSpares, s.nextShadow with
    | a :: b :: _, some (l, wrapped) =>
      let s1 := { s with cal := { s.cal with
        shadows := s.cal.shadows ++ [({ logical := l, shadow := a, third := b, left := s.shadowLfs, confirming := false, dead := false } : ShadowSt)]
        starved := false
        rotating := true } }
      let after := (s.usedTiles.find? (fun k => decide (l < k))).getD ((s.usedTiles.head?).getD 0)
      (if wrapped && s.cal.rotating then s1.inc CAL_SHADOW_COUNT.ROTATIONS else s1).put CAL_SHADOW_STATUS.NEXT after
    | _, _ =>
      if s.cal.starved || !s.cal.shadows.isEmpty || s.usedTiles.isEmpty then s
      else ({ s with cal := { s.cal with starved := true } }).raiseB 0x0E05 0 0 0

/-- Shadows at a boundary: those whose LFs are over end, and others start while SEQ_CTRL.SHADOW_EN is 1 (R415). -/
def State.shadowBoundary (s : State) : State :=
  let step := fun (x : ShadowSt) => if x.confirming || x.dead then x else { x with left := x.left - 1 }
  let s1 := { s with cal := { s.cal with
    shadows := (s.cal.shadows.map step).filter (fun (x : ShadowSt) => x.confirming || x.dead || x.left != 0) } }
  if !s1.flag SEQ_CTRL.SHADOW_EN then
    ({ s1 with cal := { s1.cal with shadows := s1.cal.shadows.filter (fun (x : ShadowSt) => x.confirming || x.dead) } }).showCullet
  else (foldOver (List.range 4) (fun _ t => t.startShadow) s1).showCullet

/-- SHADOW_MISMATCH (R416, R417): a working tile and its shadow differ; the third tile reruns. -/
def doShadowMismatch (dt logical : Nat) (s : State) : State :=
  let t := s.tick dt
  t.onLiveIf (t.cal.shadows.any (fun x => x.logical == logical && !x.confirming && !x.dead)) fun u =>
    (({ u with cal := { u.cal with shadows := u.cal.shadows.map (fun (x : ShadowSt) =>
        if x.logical == logical then { x with confirming := true } else x) } }).incSat CAL_SHADOW_STATUS.MISMATCHES 1).raise
      0x0E04 logical 0 0

/-- CONFIRMATION_DONE (R416): the third tile agrees with the shadow (0), with the working tile (1) or with neither (2). -/
def doConfirmationDone (dt logical agrees : Nat) (s : State) : State :=
  let t := s.tick dt
  match t.cal.shadows.find? (fun x => x.logical == logical && x.confirming) with
  | none => t
  | some x =>
    t.onLive fun u =>
      let others := u.cal.shadows.filter (fun (y : ShadowSt) => y.logical != logical)
      let keep := fun (y : ShadowSt) => { u with cal := { u.cal with shadows := others ++ [y] } }
      if agrees = 0 then keep { x with confirming := false, dead := true }
      else if agrees = 1 then
        (({ u with cal := { u.cal with shadows := others } }).fenceTileNow x.shadow).tryStore
      else (keep { x with confirming := false, left := u.shadowLfs }).inc CAL_SHADOW_COUNT.UNRESOLVED

/-- Order 1: working tiles declared dead are replaced by their shadows and fenced (R416). -/
def State.replaceTiles (s : State) : State :=
  let dead := s.cal.shadows.filter (fun (x : ShadowSt) => x.dead)
  if dead.isEmpty then s
  else
    let s1 := { s with cal := { s.cal with shadows := s.cal.shadows.filter (fun (x : ShadowSt) => !x.dead) } }
    (foldOver dead (fun x t =>
      let old := t.physTile x.logical
      let t1 := t.setTile x.shadow { fenced := false, logical := some x.logical, spare := false }
      match old with
      | none => t1
      | some k => t1.fenceTileNow k) s1).showCullet

/-- FENCED_SIGN_OF_LIFE (R418): a fenced unit has passed its self-test or a check; the count rises and nothing else. -/
def doFencedSignOfLife (dt kind unit_ detail : Nat) (s : State) : State :=
  let t := s.tick dt
  t.onLiveIf (t.isFenced kind unit_ detail) (fun u => u.countLife kind unit_ detail)

/-! ### Maintenance repair pass (R419) -/

/-- REPAIR_PASS (R419): every unit of the field map is tested three times. -/
def doRepairPass (dt : Nat) (s : State) : State := (s.tick dt).onReach (fun t => t.putB CAL_REPAIR_CTRL.PASS true)

/-- REPAIR_PASS_DONE (R419): the pass ends with the entries of the field map that passed all three tests; they are
readmitted at a boundary. -/
def doRepairPassDone (dt : Nat) (passed : List Nat) (s : State) : State :=
  let t := s.tick dt
  t.onLiveIf (t.flag CAL_REPAIR_CTRL.PASS) fun u =>
    let es := (List.range u.cal.field.length).filter passed.contains |>.filterMap (fun k => u.cal.field[k]?)
    let u1 := { u with cal := { u.cal with readmit := u.cal.readmit ++ es } }
    (((u1.putB CAL_REPAIR_CTRL.PASS false).putSat CAL_REPAIR_STATUS.READMITTED es.length).putSat CAL_REPAIR_STATUS.STILL_FENCED
      (u.cal.field.length - es.length))

/-- A unit leaves the field map (R419). -/
def State.unfence (s : State) (e : FenceEntry) : State :=
  ({ s with cal := { s.cal with
    field := s.cal.field.filter (fun (x : FenceEntry) => !(x.kind == e.kind && x.unit_ == e.unit_ && x.detail == e.detail))
    saveDue := true } }).showFenced

/-- An array lane is readmitted: it takes its logical lane back from the spare that serves it at an announced boundary,
or trains for its port, which returns to its image's width. -/
def State.readmitLane (s : State) (l : Nat) : State :=
  if laneIsSpare l then (if s.laneUsable l then s.trainLane l true else s)
  else
    let sp := 128 + laneGroup l
    let s1 := s.setLaneState l lnOff
    if s1.standsFor sp = l ∧ s1.laneState sp = lnData then s1.announce sp l 2
    else if s1.laneUsable l then (s1.trainLane l true).askWiden (s1.portArray (s1.lanePort l))
    else s1

/-- A Laxus lane is readmitted: its link retrains to width 2 (R334, R419). -/
def State.readmitLaxus (s : State) (l : Nat) : State :=
  let j := (l - 136) / 2
  let s1 := s.setLaneState l lnOff
  if s1.isUp j then
    let s2 := ((s1.putB (LXS_PORT_STATE.WIDTH j) true).inc (LXS_PORT_STATE.RETRAINS j)).leaveUp j lxRetrain
    foldOver [136 + 2 * j, 137 + 2 * j] (fun k t => if t.laneUsable k then t.trainLane k (k == l) else t) s2
  else s1

/-- Order 1: units that passed the repair pass are readmitted (R419). -/
def State.readmitUnits (s : State) : State :=
  if s.cal.readmit.isEmpty then s
  else
    let es := s.cal.readmit
    let s1 := { s with cal := { s.cal with readmit := [] } }
    (foldOver es (fun e t =>
      let t1 := t.unfence e
      if e.kind = fenceTile then
        (t1.setTile e.unit_ ({ fenced := false, logical := none, spare := true } : TileSt)).setDomOn (domTiles + e.unit_ / 8) true
      else if e.kind = fenceRow then t1.incSat PLN_STATUS.SPARE_ROWS 1
      else if e.kind = fenceHbm then
        let q : PcSt := t1.pcState e.unit_
        (t1.setPc e.unit_ { q with sparesUsed := q.sparesUsed - 1 }).showHbmSpares
      else if e.kind = fenceLaxus then t1.readmitLaxus e.unit_
      else t1.readmitLane e.unit_) s1).showCullet

/-! ### The boundary -/

/-- CAL at order 1 of a boundary, around the lanes' own substitutions (Table GEN-18). -/
def State.calOrder1 (s : State) : State :=
  let s1 := s.replaceTiles.readmitUnits.eyeLaneFailed
  s1.lanBoundary.eyeBoundary

/-- CAL after the passes of a boundary have applied. -/
def State.calBoundary (s : State) : State := s.patchBoundary.targetBoundary.shadowBoundary.loopRefresh.tryStore

/-- Words of snapshot group 0x0E (Table CAL-14). -/
def State.calSnap (s : State) : List Nat :=
  [s.rdN CAL_STORE_STATUS, s.rdN CAL_REPAIR_STATUS, s.rdN CAL_CULLET, s.rdN CAL_FENCED, s.rdN CAL_SHADOW_STATUS] ++
    [1, 2, 3, 4, 5].map (fun k => s.rdN (CAL_SESS_STATUS k))

end Sys2Proof.Machine
end

