-- ==== Sys2Proof/Machine/Sha384.lean ====
section
/-! DEFINITION. SHA-384 (R62, R63, R65): the standard that the spec names. Its constants are the fractional parts of the
square roots of the 9th to 16th primes and of the cube roots of the first 80 primes (PRESUMED from that standard, log 70). -/
namespace Sys2Proof.Machine

/-- The first 80 primes. -/
def shaPrimes : List Nat :=
  [2, 3, 5, 7, 11, 13, 17, 19, 23, 29, 31, 37, 41, 43, 47, 53, 59, 61, 67, 71, 73, 79, 83, 89, 97, 101, 103, 107, 109, 113,
    127, 131, 137, 139, 149, 151, 157, 163, 167, 173, 179, 181, 191, 193, 197, 199, 211, 223, 227, 229] ++
  [233, 239, 241, 251, 257, 263, 269, 271, 277, 281, 283, 293, 307, 311, 313, 317, 331, 337, 347, 349, 353, 359, 367, 373,
    379, 383, 389, 397, 401, 409]

abbrev w64 : Nat := 2 ^ 64

/-- The first 64 fractional bits of a square root and of a cube root. -/
def sqrtFrac (p : Nat) : Nat := irootGo 2 (p * 2 ^ 128) 72 0 % w64
def cbrtFrac (p : Nat) : Nat := irootGo 3 (p * 2 ^ 192) 72 0 % w64

def shaK : List Nat := shaPrimes.map cbrtFrac
def shaInit : List Nat := ((shaPrimes.drop 8).take 8).map sqrtFrac

/-- Rotation right of a 64-bit word. -/
def rotr64 (n x : Nat) : Nat := x / 2 ^ n + x % 2 ^ n * 2 ^ (64 - n)

def shaS0 (x : Nat) : Nat := rotr64 28 x ^^^ rotr64 34 x ^^^ rotr64 39 x
def shaS1 (x : Nat) : Nat := rotr64 14 x ^^^ rotr64 18 x ^^^ rotr64 41 x
def shaG0 (x : Nat) : Nat := rotr64 1 x ^^^ rotr64 8 x ^^^ (x / 2 ^ 7)
def shaG1 (x : Nat) : Nat := rotr64 19 x ^^^ rotr64 61 x ^^^ (x / 2 ^ 6)

/-- One round on the eight working words, held as a list. -/
def shaRound (v : List Nat) (k w : Nat) : List Nat :=
  match v with
  | [a, b, c, d, e, f, g, h] =>
    let t1 := h + shaS1 e + ((e &&& f) ^^^ ((w64 - 1 - e) &&& g)) + k + w
    let t2 := shaS0 a + ((a &&& b) ^^^ (a &&& c) ^^^ (b &&& c))
    [(t1 + t2) % w64, a, b, c, (d + t1) % w64, e, f, g]
  | _ => v

/-- Rounds with the message schedule: `win` holds the 16 words that come next. -/
def shaRounds : List Nat → List Nat → List Nat → List Nat
  | [], v, _ => v
  | k :: ks, v, win =>
    match win with
    | w :: r =>
      let next := (shaG1 (nthD win 14 0) + nthD win 9 0 + shaG0 (nthD win 1 0) + w) % w64
      shaRounds ks (shaRound v k w) (r ++ [next])
    | [] => v

/-- One block of 16 words. -/
def shaBlock (h win : List Nat) : List Nat := (h.zip (shaRounds shaK h win)).map (fun x => (x.1 + x.2) % w64)

/-- A big-endian number of bytes. -/
def ofBE (l : List Byte) : Nat := l.foldl (fun a b => 256 * a + b.toNat) 0

/-- The `n` big-endian bytes of a number. -/
def beBytes (n v : Nat) : List Byte := (leBytes n v).reverse

def shaWords : Nat → List Byte → List Nat
  | 0, _ => []
  | n + 1, l => ofBE (l.take 8) :: shaWords n (l.drop 8)

def shaBlocks : Nat → List Byte → List Nat → List Nat
  | 0, _, h => h
  | n + 1, l, h => shaBlocks n (l.drop 128) (shaBlock h (shaWords 16 l))

/-- The 48 bytes of a byte string's digest. -/
def sha384 (m : List Byte) : List Byte :=
  let pad := m ++ (0x80 :: List.replicate ((128 + 111 - m.length % 128) % 128) 0) ++ beBytes 16 (8 * m.length)
  ((shaBlocks (pad.length / 128) pad shaInit).take 6).flatMap (beBytes 8)

end Sys2Proof.Machine
end

