-- ==== Sys2Proof/Machine/P384.lean ====
section
/-! DEFINITION. ECDSA over the curve P-384 (R64, R65): the standard that the spec names, with its constants (PRESUMED from
that standard, log 70). -/
namespace Sys2Proof.Machine

/-- The field's prime and the group's order. -/
abbrev ecP : Nat := 2 ^ 384 - 2 ^ 128 - 2 ^ 96 + 2 ^ 32 - 1
abbrev ecN : Nat := 0xffffffffffffffffffffffffffffffffffffffffffffffffc7634d81f4372ddf581a0db248b0a77aecec196accc52973
/-- The curve is y² = x³ - 3 x + b. -/
abbrev ecB : Nat := 0xb3312fa7e23ee7e4988e056be3f82d19181d9c6efe8141120314088f5013875ac656398d8a2ed19d2a85c8edd3ec2aef
abbrev ecGx : Nat := 0xaa87ca22be8b05378eb1c71ef320ad746e1d3b628ba79b9859f741e082542a385502f25dbf55296c3a545e3872760ab7
abbrev ecGy : Nat := 0x3617de4a96262c6f5d9e98bf9292dc29f8f41dbd289a147ce9da3113b5f0b8c00a60b1ce1d7e819d7a431d7c90ea0e5f

/-- A point in projective coordinates (X : Y : Z) with x = X / Z² and y = Y / Z³; Z = 0 is the point at infinity. -/
structure EcPt where
  x : Nat
  y : Nat
  z : Nat
  deriving DecidableEq, Repr

def ecInf : EcPt := ⟨1, 1, 0⟩

def fSub (a b : Nat) : Nat := (a + ecP - b % ecP) % ecP

def ecDouble (p : EcPt) : EcPt :=
  if p.z = 0 ∨ p.y = 0 then ecInf
  else
    let z2 := p.z * p.z % ecP
    let m := 3 * fSub p.x z2 * ((p.x + z2) % ecP) % ecP
    let y2 := p.y * p.y % ecP
    let s := 4 * p.x * y2 % ecP
    let x3 := fSub (m * m % ecP) (2 * s)
    ⟨x3, fSub (m * fSub s x3 % ecP) (8 * y2 * y2), 2 * p.y * p.z % ecP⟩

def ecAdd (p q : EcPt) : EcPt :=
  if p.z = 0 then q
  else if q.z = 0 then p
  else
    let z1 := p.z * p.z % ecP
    let z2 := q.z * q.z % ecP
    let u1 := p.x * z2 % ecP
    let u2 := q.x * z1 % ecP
    let s1 := p.y * q.z * z2 % ecP
    let s2 := q.y * p.z * z1 % ecP
    if u1 = u2 then (if s1 = s2 then ecDouble p else ecInf)
    else
      let h := fSub u2 u1
      let r := fSub s2 s1
      let h2 := h * h % ecP
      let h3 := h * h2 % ecP
      let v := u1 * h2 % ecP
      let x3 := fSub (fSub (r * r % ecP) h3) (2 * v)
      ⟨x3, fSub (r * fSub v x3 % ecP) (s1 * h3), p.z * q.z * h % ecP⟩

/-- k1 P + k2 Q, bit by bit from the top. -/
def ecMul2 (p q pq : EcPt) (k1 k2 : Nat) : Nat → EcPt → EcPt
  | 0, acc => acc
  | n + 1, acc =>
    let d := ecDouble acc
    ecMul2 p q pq k1 k2 n
      (if bitAt k1 n then (if bitAt k2 n then ecAdd d pq else ecAdd d p) else if bitAt k2 n then ecAdd d q else d)

/-- b ^ e modulo m, for an exponent below 2 ^ n. -/
def powMod (m b e : Nat) : Nat → Nat → Nat
  | 0, acc => acc
  | n + 1, acc =>
    let sq := acc * acc % m
    powMod m b e n (if bitAt e n then sq * b % m else sq)

def onCurve (x y : Nat) : Bool :=
  decide (x < ecP) && decide (y < ecP) && y * y % ecP == (x * x * x + ecB + 3 * (ecP - x)) % ecP

/-- Whether (r, s) is a signature of a digest by the key (qx, qy). -/
def ecdsaOk (e r s qx qy : Nat) : Bool :=
  if r = 0 ∨ ecN ≤ r ∨ s = 0 ∨ ecN ≤ s ∨ !onCurve qx qy then false
  else
    let w := powMod ecN s (ecN - 2) 384 1
    let g : EcPt := ⟨ecGx, ecGy, 1⟩
    let q : EcPt := ⟨qx, qy, 1⟩
    let pt := ecMul2 g q (ecAdd g q) (e * w % ecN) (r * w % ecN) 384 ecInf
    pt.z != 0 && (pt.x * powMod ecP (pt.z * pt.z % ecP) (ecP - 2) 384 1 % ecP) % ecN == r

/-- Whether a 192-byte signature block (r, s, Qx, Qy) signs a message (R64). -/
def signatureOk (msg block : List Byte) : Bool :=
  let at_ := fun (k : Nat) => ofBE ((block.drop (48 * k)).take 48)
  ecdsaOk (ofBE (sha384 msg)) (at_ 0) (at_ 1) (at_ 2) (at_ 3)

end Sys2Proof.Machine
end

