-- ==== Sys2Proof/Machine/Cfg.lean ====
section
/-! DEFINITION. CFG: the structure image's container (R60 to R64), authenticity (R65), the resource checks (R72),
loading (R68 to R74), fuses (R66) and reloads (R75 to R79). -/
namespace Sys2Proof.Machine

/-! ### The container (Tables CFG-2 and CFG-3) -/

abbrev magicImage : Nat := 0x4D495346

def imLen (b : List Byte) : Nat := leAt b 0x08 4
def imKind (b : List Byte) : Nat := leAt b 0x0C 1
def imSlot (b : List Byte) : Nat := leAt b 0x0D 1
def imCount (b : List Byte) : Nat := leAt b 0x0E 2
def imSecver (b : List Byte) : Nat := leAt b 0x18 4
def imBuild (b : List Byte) : Nat := leAt b 0x1C 4
def imTopo (b : List Byte) : List Byte := (b.drop 0x20).take 48

/-- An entry of the section table. -/
structure SecEntry where
  ty : Nat
  inst : Nat
  flags : Nat
  off : Nat
  len : Nat
  hash : List Byte
  deriving DecidableEq, Repr

def imEntry (b : List Byte) (k : Nat) : SecEntry :=
  let o := 0x100 + 64 * k
  { ty := leAt b o 2, inst := leAt b (o + 2) 2, flags := leAt b (o + 4) 4, off := leAt b (o + 8) 4, len := leAt b (o + 12) 4,
    hash := (b.drop (o + 16)).take 48 }

def imEntries (b : List Byte) : List SecEntry := (List.range (imCount b)).map (imEntry b)

/-- The sequence-region types of Table CFG-1. -/
def seqType (ty : Nat) : Bool := ty == secArrayMech || ty == secWaveform || ty == secTileProg

/-- The required types of Table CFG-1. -/
def requiredTypes : List Nat :=
  [secLaneMap, secPortCfg, secTileProg, secCmpCut, secMemMap, secCtxLimits, secCeilings, secColourBase, secLmpMap, secPlaneMap,
    secPowerMap]

/-- A failure of Table CFG-6 with the fields of CFG_FAIL_INFO; no entry is NO_ENTRY. -/
structure LoadFail where
  code : Nat
  entry : Option Nat
  check : Nat
  detail : Nat
  deriving DecidableEq, Repr

def plainFail (code : Nat) : LoadFail := { code := code, entry := none, check := 0, detail := 0 }
def entryFail (code k : Nat) : LoadFail := { code := code, entry := some k, check := 0, detail := 0 }

/-- R61: the header's fields lie in their ranges and reserved bytes are 0. -/
def headerOk (b : List Byte) : Bool :=
  leAt b 4 2 == 1 && imLen b % 64 == 0 && decide (0x100 + 64 * imCount b + 192 ≤ imLen b) && decide (1 ≤ imCount b) &&
    decide (imCount b ≤ 64) && decide (leAt b 0x13 1 < 4) && decide (leAt b 0x14 1 ≤ 1) && bytesZero b 0x15 3 &&
    decide (imSecver b ≤ 63) && bytesZero b 0x60 160

/-- R62 for entry k: its type, instance, flags and place. Of two sections that overlap, the later entry is at fault: the spec
names neither (DESIGN CHOICE, log 120). -/
def entryOk (b : List Byte) (k : Nat) : Bool :=
  let e := imEntry b k
  decide (1 ≤ e.ty) && decide (e.ty ≤ 16) &&
    (if e.ty = secArrayMech ∨ e.ty = secWaveform then decide (e.inst < 16) else e.inst == 0) &&
    e.flags == boolNat (seqType e.ty) && decide (4 ≤ e.len) && e.off % 64 == 0 && decide (0x100 + 64 * imCount b ≤ e.off) &&
    decide (e.off + e.len + 192 ≤ imLen b) &&
    (List.range k).all (fun j =>
      let f := imEntry b j
      decide (f.off + f.len ≤ e.off) || decide (e.off + e.len ≤ f.off))

def entryTwice (b : List Byte) (k : Nat) : Bool :=
  (List.range k).any (fun j => (imEntry b j).ty == (imEntry b k).ty && (imEntry b j).inst == (imEntry b k).inst)

/-- The first breach of the section table: a shared type and instance, a broken entry, or in a reload a section that is no
sequence region (R62, R75). -/
def tableFail (b : List Byte) (reload : Bool) : Option LoadFail :=
  (List.range (imCount b)).findSome? (fun k =>
    if entryTwice b k then some (entryFail 0x0C k)
    else if !entryOk b k then some (entryFail 0x03 k)
    else if reload && !seqType (imEntry b k).ty then some (entryFail 0x0C k)
    else none)

/-- The table entries of the sections that are no sequence regions, in table order (R63). -/
def topoBytes (b : List Byte) : List Byte :=
  (List.range (imCount b)).flatMap (fun k =>
    if bitAt (imEntry b k).flags 0 then [] else (b.drop (0x100 + 64 * k)).take 64)

/-- A section's data. -/
def secBytes (b : List Byte) (e : SecEntry) : List Byte := (b.drop e.off).take e.len

/-- The sections of an image by type × 2^16 + instance. -/
def imSections (b : List Byte) : Tbl (List Byte) :=
  (imEntries b).foldl (fun t e => tset t (e.ty * 65536 + e.inst) (secBytes b e)) []

def sigBlock (b : List Byte) : List Byte := (b.drop (imLen b - 192)).take 192

/-! ### Format and authenticity (R61 to R65) -/

/-- The hash of a key slot (R65). -/
def State.slotHash (s : State) (k : Nat) : List Byte := (List.range 48).map (fun i => BitVec.ofNat 8 (tget 0 s.cfg.keyHash (48 * k + i)))

/-- What the header, the section table, the key and the signature show, in the order of Table CFG-4; `top` is the length
of the source and `exact` the length that a host load names (R61 to R65, R68, R69). A KIND byte that fits no request is
reported as 0x0D and a KEY_SLOT above 3 as 0x06, where R61 alone would also allow 0x03 (DESIGN CHOICE, log 120). -/
def State.frontFail (s : State) (b : List Byte) (reload : Bool) (top : Nat) (exact : Option Nat) : Option LoadFail :=
  let n := imCount b
  let key := (sigBlock b).drop 96
  if leAt b 0 4 ≠ magicImage then some (plainFail 0x02)
  else if 67108864 < imLen b ∨ top < imLen b then some (plainFail 0x04)
  else if !headerOk b || exact.any (fun e => decide (imLen b < e)) then some (plainFail 0x03)
  else if imKind b ≠ (if reload then 2 else 1) then some (plainFail 0x0D)
  else match tableFail b reload with
    | some f => some f
    | none =>
      if !reload && !requiredTypes.all (fun ty => (imEntries b).any (fun e => e.ty == ty)) then some (plainFail 0x0C)
      else if imTopo b ≠ (if reload then s.cfg.topo else sha384 (topoBytes b)) then some (plainFail 0x0A)
      else if 4 ≤ imSlot b ∨ !bitAt s.cfg.keyValid (imSlot b) ∨ bitAt s.cfg.keyRevoked (imSlot b) ∨
          sha384 key ≠ s.slotHash (imSlot b) then some (plainFail 0x06)
      else if !signatureOk (b.take (0x100 + 64 * n)) (sigBlock b) then some (plainFail 0x07)
      else if imSecver b < s.cfg.secFloor ∨ (reload ∧ imSecver b < s.cfg.secver) then some (plainFail 0x09)
      else none

/-- The first section whose data differs from its HASH (R65). -/
def hashFail (b : List Byte) : Option LoadFail :=
  (List.range (imCount b)).findSome? (fun k =>
    if sha384 (secBytes b (imEntry b k)) = (imEntry b k).hash then none else some (entryFail 0x08 k))

/-! ### Resource checks (R72, Table CFG-5) -/

abbrev domLane : Nat := 0
abbrev domSlice : Nat := 186
abbrev domBank : Nat := 202
abbrev domLxs : Nat := 214
abbrev domHost : Nat := 218

/-- HOLD_OFF of a POWER_MAP section (Table THM-11). -/
def pmHold (b : List Byte) (d : Nat) : Bool := bitAt (leAt b (4 + d / 8) 1) (d % 8)

/-- An image's sections, with those that it does not carry from the running image (for a reload). -/
abbrev SecFn := Nat → Nat → List Byte

def blocksOf (q : SecFn) (o : Nat) : List Byte := q secArrayMech o
def lanesIn (q : SecFn) (p : Nat) : List Nat := idxWhere 128 (fun l => lanPort (q secLaneMap 0) l == p)
def rateIn (q : SecFn) (p : Nat) : Nat := ((lanesIn q p).head?).elim 0 (fun l => lanGroupRate (q secLaneMap 0) (l / 16))
def engineIn (q : SecFn) (k : Nat) : Bool := scExists (q secScanCfg 0) k
def outsIn (q : SecFn) : Nat := cutOutputs (q secCmpCut 0)

/-- POWER_MAP holds off a domain that another section uses (Table THM-12). -/
def heldInUse (q : SecFn) (b : List Byte) : Bool :=
  (List.range 128).any (fun l => pmHold b (domLane + l) && lanPort (q secLaneMap 0) l != 0xFF) ||
    (List.range 16).any (fun k => pmHold b (domSlice + k) &&
      (cutSlices (q secCmpCut 0)).any (fun e => decide (e.1 ≤ k) && decide (k < e.1 + e.2))) ||
    (List.range 8).any (fun j => pmHold b (domBank + j) &&
      (List.range 16).any (fun o => pmMode (q secPlaneMap 0) o != 0 && bitAt (pmBanks (q secPlaneMap 0) o) j)) ||
    (List.range 4).any (fun n => pmHold b (domScan + n) && engineIn q n) ||
    (List.range 4).any (fun j => bitAt (lxsPorts (q secLxsCfg 0)) j &&
      (pmHold b (domLxs + j) || pmHold b (136 + 2 * j) || pmHold b (137 + 2 * j)))

def powerMapDetail (q : SecFn) (b : List Byte) : Option Nat :=
  if b.length ≠ 32 then some 0x1001
  else if decide (2 ≤ leAt b 0 1) || !bytesZero b 1 3 || (List.range 5).any (fun k => pmHold b (219 + k)) then some 0x1002
  else if heldInUse q b then some 0x1003
  else if pmHold b domHost && (q secLxsCfg 0).isEmpty then some 0x1004
  else none

/-- The working tiles that an image would find: not fenced, and in no group that its POWER_MAP holds off (check 5). -/
def State.tilesFor (s : State) (power : List Byte) : Nat :=
  (idxWhere tileCount (fun k => !(s.tile k).fenced && !pmHold power (domTiles + k / 8))).length

/-- Checks 1 to 12 of Table CFG-5: whether check k holds. A section whose length is wrong is left to check 14, and check 6 is
applied only once every follower's range agrees with its leader's (R166). -/
def State.checkHolds (s : State) (q : SecFn) (hbmMin k : Nat) : Bool :=
  let lm := q secLaneMap 0
  let pc := q secPortCfg 0
  let lenOk := fun (ty n : Nat) => (q ty 0).length == n
  match k with
  | 1 => !lenOk secPortCfg 256 || portCheck1 pc
  | 2 => !(lenOk secPortCfg 256 && lenOk secLaneMap 200) || portCheck2 pc (lanesIn q)
  | 3 => !lenOk secLaneMap 200 || (List.range 8).all (fun g =>
      !(List.range 16).any (fun i => lanPort lm (16 * g + i) != 0xFF) || (decide (1 ≤ lanGroupRate lm g) && decide (lanGroupRate lm g ≤ 5)))
  | 4 => !(lenOk secPortCfg 256 && lenOk secLaneMap 200) || portCheck4 pc (rateIn q)
  | 5 => decide ((q secTileProg 0).length < 16 + 4096) ||
      tileProgCheck5 (q secTileProg 0) (outsIn q) (s.tilesFor (q secPowerMap 0)) (engineIn q)
  | 6 => !lenOk secCmpCut 320 || !cutFollowersAgree (q secCmpCut 0) || cutCheck6 (q secCmpCut 0) (engineIn q)
  | 7 => !lenOk secPlaneMap 256 || planeMapCheck7 (q secPlaneMap 0) (fun o => mechBlockLoad (blocksOf q o))
  | 8 => !memMapLength (q secMemMap 0) || memMapCheck8 (s.get GLB_DEVICE_ID.HBM_POP) hbmMin (q secMemMap 0)
  | 9 => !lenOk secCtxLimits 8208 || ctxLimitsCheck9 (q secCtxLimits 0)
  | 10 => (!lenOk secCeilings 48 || ceilingsCheck10 (q secCeilings 0)) &&
      (!lenOk secLmpMap 4544 || decide (lmRails (q secLmpMap 0) ≤ 8))
  | 11 => (!lenOk secLmpMap 4544 || lmpMapCheck11 (q secLmpMap 0)) &&
      (!lenOk secColourBase 120 || colBaseCheck11 (q secColourBase 0))
  | 12 => (q secStationMap 0).isEmpty || stationMapCheck12 (q secStationMap 0)
  | _ => true

/-- Check 13: PART, MIN_STEP and GRADE_MASK, whose bit 0 accepts C1 (GRADE 1) and bit 1 X1 (GRADE 2; Tables CFG-2, GEN-2). -/
def State.partFits (s : State) (b : List Byte) : Bool :=
  leAt b 0x10 2 == s.get GLB_DEVICE_ID.PART &&
    (leAt b 0x12 1 == 0 || decide (leAt b 0x12 1 ≤ s.get GLB_STEPPING.MAIN_MAJOR)) &&
    s.get GLB_DEVICE_ID.GRADE != 0 && bitAt (leAt b 0x13 1) (s.get GLB_DEVICE_ID.GRADE - 1)

/-- DETAIL of a section's content failure by its owning block (check 14). -/
def sectionDetail (q : SecFn) (ty inst : Nat) : Option Nat :=
  let b := q ty inst
  let mech := blocksOf q
  let cut := cutEntry (q secCmpCut 0)
  let has := fun (t : Nat) => !(q t 0).isEmpty
  match ty with
  | 0x0001 => lanMapDetail (bitAt (lxsPorts (q secLxsCfg 0))) b
  | 0x0002 => portDetail b (lanesIn q) (fun a => mechCols (mech a)) (fun a => mechBack (mech a))
  | 0x0003 => mechDetail (cut inst).height (cut inst).width b
  | 0x0004 => waveDetail (if (mech inst).isEmpty then none else some (mechClasses (mech inst))) b
  | 0x0005 => tileProgDetail b
  | 0x0006 => cutDetail b
  | 0x0007 => memMapDetail (has secLxsCfg) b
  | 0x0008 => ctxLimitsDetail (outsIn q) b
  | 0x0009 => ceilingsDetail (lmRails (q secLmpMap 0)) b
  | 0x000A => colBaseDetail (outsIn q) b
  | 0x000B => lmpMapDetail (cbPrims (q secColourBase 0)) b
  | 0x000C => planeMapDetail (outsIn q) b
  | 0x000D => scanDetail (cbPrimMask (q secColourBase 0)) (fun n d => !(lmDacLines (q secLmpMap 0) n d).isEmpty) b
  | 0x000E => lxsCfgDetail b
  | 0x000F => stationMapDetail (has secLxsCfg) b
  | _ => powerMapDetail q b

/-- The first failing check of Table CFG-5; a reload is checked against 5 and 14 for the sections it carries (R72). -/
def State.resourceFail (s : State) (b : List Byte) (reload : Bool) : Option LoadFail :=
  let own := imSections b
  let q : SecFn := fun ty inst => (tfind own (ty * 65536 + inst)).getD (if reload then s.sec ty inst else [])
  let checks := if reload then (if thas own (secTileProg * 65536) then [5] else []) else (List.range 12).map (· + 1)
  match checks.find? (fun k => !s.checkHolds q (leAt b 0x14 1) k) with
  | some k => some { code := 0x0B, entry := none, check := k, detail := 0 }
  | none =>
    if !reload && !s.partFits b then some (plainFail 0x05)
    else (List.range (imCount b)).findSome? (fun k =>
      let e := imEntry b k
      (sectionDetail q e.ty e.inst).map (fun d => { code := 0x0B, entry := some k, check := 14, detail := d }))

/-! ### Failures (R73, R74) -/

abbrev cfgLoading : Nat := 1
abbrev cfgSafe : Nat := 5

/-- FAIL, CFG_FAIL_INFO in full, and the event (R72, R73). -/
def State.reportFail (s : State) (f : LoadFail) : State :=
  let e := f.entry.getD 0x3F
  (((((s.put CFG_STATUS.FAIL f.code).put CFG_FAIL_INFO.ENTRY e).putB CFG_FAIL_INFO.NO_ENTRY f.entry.isNone).put
    CFG_FAIL_INFO.CHECK f.check).put CFG_FAIL_INFO.DETAIL f.detail).raise 0x0D01 f.code (f.check * 65536 + e) f.detail

/-- Safe idle (R74): dark, TIM on FREE, no VFs. -/
def State.enterSafeIdle (s : State) : State :=
  let s1 := ((({ s with cfg := { s.cfg with safeIdle := true, load := 0, waiting := [] } }.put CFG_STATUS.STATE cfgSafe).put CFG_LOAD_CTRL.START 0).put
    HIF_STATUS.NUM_VFS 0)
  let s2 := if s1.dpll = dpllFree then s1
    else (if s1.get TIM_REF_STATUS.ACTIVE = refFree then s1 else s1.selectRef refFree).enterDpll dpllFree
  { s2 with glb := { s2.glb with fellBack := s2.refPrimary != refFree } }.hbUpdate

/-- A reload is dropped: the running image, its schedules and its RWL fields stay (R73). -/
def State.dropReload (s : State) (f : LoadFail) : State :=
  let s1 := { s with
    cfg := { s.cfg with
      load := 0
      waiting := []
      reload := []
      reloadReady := false
      reloadCompiles := [] }
    seq := { s.seq with
      queue := s.seq.queue.filter (fun q => q.2 != 2)
      done := s.seq.done.filter (fun e => e.1 % 4 != 2) } }
  ((s1.reportFail f).put CFG_STATUS.RELOAD 6).put CFG_LOAD_CTRL.START 0

/-- The flash directory is invalid: both slots fail (R67). -/
def dirFail : LoadFail := plainFail 0x03

/-- The source in turn fails: slot B follows slot A, and safe idle follows slot B and a host load (R68, R73). -/
def State.loadFailed (s : State) (f : LoadFail) : State :=
  match s.cfg.load with
  | 1 =>
    let s1 := { (s.reportFail f) with cfg := { (s.reportFail f).cfg with load := 2 } }.put CFG_STATUS.SRC_ACT 1
    if s1.cfg.dirValid || f.code == 0x01 then s1 else (s1.reportFail dirFail).enterSafeIdle
  | 2 => (s.reportFail f).enterSafeIdle
  | 3 => (s.reportFail f).enterSafeIdle
  | 4 => s.dropReload f
  | 5 => s.dropReload f
  | _ => s

/-- FLASH_NO_RESPONSE (R73): no valid identification or read within 10 ms. -/
def doFlashNoResponse (dt : Nat) (s : State) : State :=
  let t := s.tick dt
  t.onLiveIf ((t.cfg.load == 1 || t.cfg.load == 2 || t.cfg.load == 4) && t.cfg.waiting.isEmpty) (fun u => u.loadFailed (plainFail 0x01))

/-- A host read ends: error, timeout, PERST_N, the link down, or master enable cleared (R73). -/
def State.hostReadFails (s : State) : State :=
  if (s.cfg.load = 3 ∨ s.cfg.load = 5) ∧ s.cfg.waiting.isEmpty then s.loadFailed (plainFail 0x0E) else s

/-- HOST_READ_ERROR. -/
def doHostReadError (dt : Nat) (s : State) : State := (s.tick dt).onLive (fun t => t.hostReadFails)

/-! ### Applying a full image (R70) -/

/-- RWL fields and reset values from POWER_MAP, with the domains that the image uses switched on (R396, R398). -/
def State.applyPower (s : State) : State :=
  let b := s.sec secPowerMap 0
  let s1 := s.putB THM_CTRL.AUTO_RESTART (bitAt (leAt b 0 1) 0)
  foldOver (List.range 7) (fun k t => t.wrN (THM_DOM_HOLD k) (leAt b (4 + 4 * k) 4)) s1

/-- A domain that is not held off. -/
def State.heldOff (s : State) (d : Nat) : Bool := bitAt (s.rdN (THM_DOM_HOLD (d / 32))) (d % 32)

/-- The registers that mirror a domain's power: CMP_STATUS for a slice from the start of its wake. -/
def State.mirrorDom (s : State) (d : Nat) (on : Bool) : State :=
  if 186 ≤ d ∧ d < 202 then s.put CMP_STATUS.SLICES_ON (setBit (s.get CMP_STATUS.SLICES_ON) (d - 186) on) else s

/-- Switch on the domains that the image uses (R70, R390); engines' domains follow their start. -/
def State.powerImage (s : State) : State :=
  let q := s.sec
  let use := fun (d : Nat) => !s.heldOff d &&
    (if d < 144 then s.laneRole d != 0
    else if d < 152 then true
    else if d < domSlice then bitAt (s.rdN (THM_DOM_ON (d / 32))) (d % 32)
    else if d < domBank then (cutSlices (q secCmpCut 0)).any (fun (e : Nat × Nat) => decide (e.1 + domSlice ≤ d) && decide (d < e.1 + e.2 + domSlice))
    else if d < domScan then bitAt (s.get PLN_STATUS.BANKS_ON) (d - domBank)
    else if d < domLxs then bitAt (s.rdN (THM_DOM_ON (d / 32))) (d % 32)
    else if d < domHost then bitAt (lxsPorts s.lxsCfg) (d - domLxs)
    else true)
  foldOver (List.range 219) (fun d t => (t.setDomOn d (use d)).mirrorDom d (use d)) s

/-- A spare lane that POWER_MAP holds off serves no group (R398). -/
def State.dropHeldSpares (s : State) : State :=
  foldOver ((List.range 8).map (128 + ·)) (fun l t =>
    if t.heldOff l then (t.put (LAN_LANE_CFG.ROLE l) 0).put (LAN_LANE_CFG.PORT l) 0xFF else t) s

/-- The parts that start once an image runs: ports, lanes, chains, engines with AUTO_START, Laxus ports (Table GLB-7). -/
def State.startParts (s : State) : State :=
  let s1 := s.startPorts.startLanes.startChains
  (foldOver ((List.range 4).filter (fun n => s1.engineExists n && scAuto s1.scanCfg n)) (fun n t => t.startEngine n) s1).startLxs

/-- An authenticated full image that fits the device applies as a whole (R70). In a shutdown its parts start at the restart
(R390). -/
def State.applyImage (s : State) (b : List Byte) : State :=
  let s1 := { s with cfg := { s.cfg with
    secs := imSections b
    topo := imTopo b
    secver := imSecver b
    imageRunning := true
    safeIdle := false
    load := 0 } }
  let s2 := (((s1.put CFG_STATUS.STATE cfgRunning).put CFG_LOAD_CTRL.START 0).wrN CFG_IMAGE_BUILD (imBuild b)).put CFG_IMAGE_INFO.SECVER (imSecver b)
  let s3 := foldOver (List.range 12) (fun k t => t.wrN (CFG_TOPO_HASH k) (leAt (imTopo b) (4 * k) 4)) (s2.put CFG_IMAGE_INFO.KEY_SLOT (imSlot b))
  let s4 := s3.applyPower.applyLaneMap.dropHeldSpares.applyPortCfg.applyCut.applyMech.applyMemMap.applyColBase.applyLmpMap
  let s5 := s4.applyPlaneMap.applyScanCfg.applyLxsCfg.placeTiles.showCullet
  let off := s5.get THM_STATUS.STATE == 1 || s5.get THM_STATUS.STATE == 2
  let s6 := if off then s5 else s5.powerImage.startParts
  let s7 := if s6.glb.fellBack && s6.refValid s6.refPrimary then { s6 with
      glb := { s6.glb with fellBack := false }
      tim := { s6.tim with switchTo := some s6.refPrimary } } else s6
  s7.checkLamps.showLan

/-! ### Reloads (R75 to R79) -/

/-- A reload affects the ports of an output (R76). -/
def reloadTouches (own : Tbl (List Byte)) (o : Nat) : Bool :=
  thas own (secTileProg * 65536) || thas own (secArrayMech * 65536 + o) || thas own (secWaveform * 65536 + o)

/-- Outputs with a schedule in force that a reload affects: all where it carries TILE_PROG, otherwise those of its instances (R76). -/
def State.reloadOutputs (s : State) (own : Tbl (List Byte)) : List Nat :=
  (List.range outputs).filter (fun o => thas s.seq.force o && reloadTouches own o)

/-- An authenticated reload: every affected schedule is compiled under the new regions (R76). -/
def State.takeReload (s : State) (b : List Byte) : State :=
  let own := imSections b
  let outs := s.reloadOutputs own
  let s1 := { s with cfg := { s.cfg with
    load := 0
    reload := own
    reloadReady := false
    reloadCompiles := outs } }
  foldOver outs (fun o t => t.askJob o 2) (s1.put CFG_STATUS.RELOAD 3)

/-- Compiles whose inputs a boundary has changed are asked for again: the PF's pending commit's (R78, R226), and a
reload's, which is then no longer ready (R76, Table CFG-7). -/
def State.compileAgain (s : State) : State :=
  let s1 := if thas s.hif.commits pfCommit then s.commitCompiles else s
  let outs := (s1.reloadOutputs s1.cfg.reload).filter (fun o =>
    let i := s1.jobInput o 2
    !((tfind s1.seq.done (jobKey o 2)).any (fun d => d.inp.same i) ||
      s1.seq.running.any (fun j => j.out == o && j.kind == 2 && j.inp.same i) || s1.seq.queue.contains (o, 2)))
  if outs.isEmpty then s1
  else
    let s2 := { s1 with cfg := { s1.cfg with
      reloadReady := false
      reloadCompiles := s1.cfg.reloadCompiles ++ outs.filter (fun o => !s1.cfg.reloadCompiles.contains o) } }
    foldOver outs (fun o t => t.askJob o 2) (s2.put CFG_STATUS.RELOAD 3)

/-- RELOAD_READY (R76): every compile has been accepted. -/
def doReloadReady (dt : Nat) (s : State) : State :=
  let t := s.tick dt
  t.onLiveIf (!t.cfg.reload.isEmpty && t.cfg.reloadCompiles.isEmpty && !t.cfg.reloadReady) fun u =>
    ({ u with cfg := { u.cfg with reloadReady := true } }).put CFG_STATUS.RELOAD 4

/-- Whether a ready reload applies at the boundary that starts LF `lfn` (R77). -/
def State.reloadDue (s : State) (lfn : Nat) : Bool :=
  s.cfg.reloadReady && (!s.flag CFG_RELOAD_TARGET_CTRL.AT_LFN || lfnAtOrAfter lfn (s.rdN CFG_RELOAD_TARGET))

/-- Order 2 (R77, R78): sections, RWL fields and schedules of the reload take effect. Every other result held for an
affected output is discarded; a pending rebuild or width change is compiled again, and a commit's compiles follow
(compileAgain). -/
def State.applyReload (s : State) : State :=
  let own := s.cfg.reload
  let outs := s.reloadOutputs own
  let s1 := { s with cfg := { s.cfg with
    secs := own.foldl (fun (t : Tbl (List Byte)) (e : Nat × List Byte) => tset t e.1 e.2) s.cfg.secs
    reload := []
    reloadReady := false } }
  let s2 := foldOver ((List.range outputs).filter (reloadTouches own)) (fun o t =>
    let u := match (if outs.contains o then tfind t.seq.done (jobKey o 2) else none) with
      | none => t
      | some d => t.install o d
    let v := { u with seq := { u.seq with
      done := tdel (tdel u.seq.done (jobKey o 0)) (jobKey o 2)
      rejected := tdel u.seq.rejected (jobKey o 0) } }
    let w := if v.seq.rebuild.contains o then v.askJob o 1 else v
    if thas w.seq.done (jobKey o 3) then w.askJob o 3 else w) s1
  let s3 := if thas own (secTileProg * 65536) then s2.applyMech.placeTiles.showCullet else s2.applyMech
  (((s3.inc CFG_IMAGE_INFO.RELOADS).wrN CFG_RELOAD_APPLIED s3.tim.lfn).put CFG_STATUS.RELOAD 5).put CFG_LOAD_CTRL.START 0 |>.raiseB
    0x0D02 0 s3.tim.lfn 0

/-! ### Load requests (R69, R75) -/

/-- A refused request changes nothing else (R69): START of a load or reload under way stays 1. -/
def State.refuseLoad (s : State) (code : Nat) : State :=
  let t := s.reportFail (plainFail code)
  if t.cfg.load = 0 ∧ t.cfg.reload.isEmpty then t.put CFG_LOAD_CTRL.START 0 else t

/-- KIND and FROM_HOST of the request, with START reading 1 until it ends. -/
def State.startLoad (s : State) (kind host : Bool) (load : Nat) : State :=
  { (((s.putB CFG_LOAD_CTRL.KIND kind).putB CFG_LOAD_CTRL.FROM_HOST host).put CFG_LOAD_CTRL.START 1) with
    cfg := { s.cfg with load := load } }

/-- HOST_FULL_LOAD (R69): accepted only in safe idle, on a device whose fuses are locked (R66, log 71). -/
def doHostFullLoad (dt : Nat) (s : State) : State :=
  (s.tick dt).onLive fun t =>
    let u := (t.putB CFG_LOAD_CTRL.KIND false).putB CFG_LOAD_CTRL.FROM_HOST true
    if !u.cfg.safeIdle || u.cfg.load != 0 || !u.cfg.otpLocked then u.refuseLoad 0x0D
    else
      let v := ((u.startLoad false true 3).put CFG_STATUS.STATE cfgLoading).put CFG_STATUS.SRC_ACT 2
      if v.fnCanHost 0 then v else v.hostReadFails

/-- FLASH_FULL_LOAD_REFUSED (R69). -/
def doFlashFullLoadRefused (dt : Nat) (s : State) : State :=
  (s.tick dt).onLive (fun t => ((t.putB CFG_LOAD_CTRL.KIND false).putB CFG_LOAD_CTRL.FROM_HOST false).refuseLoad 0x0D)

/-- A reload is pending: being read, compiled or ready. -/
def State.reloadPending (s : State) : Bool := s.cfg.load == 4 || s.cfg.load == 5 || !s.cfg.reload.isEmpty

/-- RELOAD_FROM_FLASH (R75). -/
def doReloadFromFlash (dt : Nat) (s : State) : State :=
  (s.tick dt).onLive fun t =>
    let u := (t.putB CFG_LOAD_CTRL.KIND true).putB CFG_LOAD_CTRL.FROM_HOST false
    if !u.flag HIF_STATUS.STARTUP_DONE || u.reloadPending then u.reportFail (plainFail 0x0F)
    else
      let v := (u.startLoad true false 4).put CFG_STATUS.RELOAD 1
      if v.cfg.dirValid then v else v.loadFailed dirFail

/-- RELOAD_FROM_HOST (R75). -/
def doReloadFromHost (dt : Nat) (s : State) : State :=
  (s.tick dt).onLive fun t =>
    let u := (t.putB CFG_LOAD_CTRL.KIND true).putB CFG_LOAD_CTRL.FROM_HOST true
    if !u.flag HIF_STATUS.STARTUP_DONE || u.reloadPending then u.reportFail (plainFail 0x0F)
    else
      let v := (u.startLoad true true 5).put CFG_STATUS.RELOAD 1
      if v.fnCanHost 0 then v else v.hostReadFails

/-- The length of the source of the load in progress, and the length that a host load names (R67, R69). -/
def State.sourceLen (s : State) : Nat × Option Nat :=
  match s.cfg.load with
  | 1 => (((tfind s.cfg.regions 1).map (·.len)).getD 0, none)
  | 2 => (((tfind s.cfg.regions 2).map (·.len)).getD 0, none)
  | 4 => (((tfind s.cfg.regions 3).map (·.len)).getD 0, none)
  | _ => (s.get CFG_HOST_LEN.LEN, some (s.get CFG_HOST_LEN.LEN))

/-- The resource checks, and what follows them (R70 to R72). -/
def State.checkImage (s : State) (bytes : List Byte) : State :=
  let reload := s.cfg.load == 4 || s.cfg.load == 5
  let t := { s with cfg := { s.cfg with waiting := [] } }
  match t.resourceFail bytes reload with
  | some f => t.loadFailed f
  | none => if reload then t.takeReload bytes else t.applyImage bytes

/-- IMAGE_LOAD_DONE (R70): the bytes of the source have been read. The resource checks wait for self-test (R71). -/
def doImageLoadDone (dt : Nat) (bytes : List Byte) (s : State) : State :=
  let t := s.tick dt
  t.onLiveIf (t.cfg.load != 0 && t.cfg.waiting.isEmpty) fun u =>
    let src := u.sourceLen
    match u.frontFail bytes (u.cfg.load == 4 || u.cfg.load == 5) src.1 src.2 with
    | some f => u.loadFailed f
    | none =>
      let v := { u with cfg := { u.cfg with dataRead := true } }
      match hashFail bytes with
      | some f => v.loadFailed f
      | none => if v.flag CAL_BIST.DONE then v.checkImage bytes else { v with cfg := { v.cfg with waiting := bytes } }

/-- SELF_TEST_DONE (R414): its time and the units that failed; the Cullet assigns spares, and an image that waits is checked
against what is left (R71). -/
def doSelfTestDone (dt ms : Nat) (failed : List UnitId) (s : State) : State :=
  let t := s.tick dt
  t.onLiveIf (!t.flag CAL_BIST.DONE) fun u =>
    let v := u.endSelfTest ms failed
    if v.cfg.load = 0 ∨ v.cfg.waiting.isEmpty then v else v.checkImage v.cfg.waiting

/-! ### Compiles end (R219, R226) -/

/-- COMPILE_DONE: a commit's, a rebuild's, a reload's or a control change's compile of an output ends. -/
def doCompileDone (dt o : Nat) (s : State) : State :=
  (s.tick dt).onCore fun t =>
    let r := t.endJob o
    match r.2 with
    | some (2, ok) =>
      if ok then { r.1 with cfg := { r.1.cfg with reloadCompiles := r.1.cfg.reloadCompiles.filter (fun k => k != o) } }
      else if r.1.cfg.reload.isEmpty then r.1 else r.1.dropReload (plainFail 0x10)
    | some (3, ok) => r.1.narrowDone o ok
    | _ => r.1

/-! ### Fuses (R66, Tables CFG-14 and CFG-15) -/

/-- CFG_OTP_STATUS shows the fuses. -/
def State.showOtp (s : State) : State :=
  (((s.put CFG_OTP_STATUS.KEY_VALID s.cfg.keyValid).put CFG_OTP_STATUS.KEY_REVOKED s.cfg.keyRevoked).put CFG_OTP_STATUS.SECVER_FLOOR
    s.cfg.secFloor).putB CFG_OTP_STATUS.LOCKED s.cfg.otpLocked

/-- Program a fuse while LOCKED is 0; otherwise an access event of kind 6. -/
def State.onOpenFuses (s : State) (f : CfgSt → CfgSt) : State :=
  s.onLive fun t =>
    if t.cfg.otpLocked then t.accessEvent devQ CFG_OTP_PROG 6 else ({ t with cfg := f t.cfg }).showOtp

/-- OTP_PROGRAM_HASH_BYTE: fuses only go from 0 to 1. -/
def doOtpProgramHashByte (dt slot index data : Nat) (s : State) : State :=
  (s.tick dt).onOpenFuses (fun c => if 4 ≤ slot ∨ 48 ≤ index then c
    else { c with keyHash := tset c.keyHash (48 * slot + index) (tget 0 c.keyHash (48 * slot + index) ||| data % 256) })

def doOtpSetValid (dt slot : Nat) (s : State) : State :=
  (s.tick dt).onOpenFuses (fun c => { c with keyValid := setBit c.keyValid (slot % 4) true })

def doOtpSetRevoked (dt slot : Nat) (s : State) : State :=
  (s.tick dt).onOpenFuses (fun c => { c with keyRevoked := setBit c.keyRevoked (slot % 4) true })

/-- OTP_RAISE_FLOOR: a lower floor has no effect. The fuse holds 6 bits, and DATA above 63 is taken modulo 64: the spec does
not say what it programs (DESIGN CHOICE, log 120). -/
def doOtpRaiseFloor (dt data : Nat) (s : State) : State :=
  (s.tick dt).onOpenFuses (fun c => if c.secFloor < data % 64 then { c with secFloor := data % 64 } else c)

def doOtpLock (dt : Nat) (s : State) : State := (s.tick dt).onOpenFuses (fun c => { c with otpLocked := true })

end Sys2Proof.Machine
end

