-- ==== Sys2Proof/Machine/Shutter.lean ====
section
/-! DEFINITION. Camera windows: programmed and captured (R47 to R50), the light cuts that unpredicted edges arm (R51, R55,
R247, R269), and the publication of a changed window (R49). -/
namespace Sys2Proof.Machine

def State.cam (s : State) (n : Nat) : CamSt := tget CamSt.init s.tim.cams n

def State.setCam (s : State) (n : Nat) (x : CamSt) : State := { s with tim := { s.tim with cams := tset s.tim.cams n x } }

/-! ### Geometry (R47, R48) -/

/-- FRAME_LFS in force. -/
def State.frameLfs (s : State) (n : Nat) : Nat := s.actGet (TIM_SHUT_CTRL.FRAME_LFS_M1 n) + 1

/-- FPU in a camera frame. -/
def State.frameFpu (s : State) (n : Nat) : Nat := s.frameLfs n * 2 ^ 24

def State.captured (s : State) (n : Nat) : Bool := decide (n < 4) && s.actGet (TIM_SHUT_CTRL.MODE n) == 2

/-- The present instant modulo the camera frame, counted from LFNs that FRAME_LFS divides. -/
def State.camPos (s : State) (n : Nat) : Nat := s.tim.lfn % s.frameLfs n * 2 ^ 24 + s.phase

/-- JITTER_BOUND in 1/840 FPU, as a numerator over the period in force (100 ns are 400 gate steps). -/
def State.jitterNum (s : State) (n : Nat) : Nat := 840 * s.actGet (TIM_SHUT_CTRL.JITTER_BOUND n) * 400 * 2 ^ 40

/-- A distance in 1/840 FPU is more than `k` times JITTER_BOUND. -/
def State.beyond (s : State) (n k : Nat) (d : Int) : Bool := decide (k * s.jitterNum n < d.natAbs * s.tim.p16)

def intSum (l : List Int) : Int := l.foldl (· + ·) 0

/-- The mean of at most 8 positions on a circle of m, in 1/840 FPU, counted from the first. -/
def circMean (m : Nat) : List Nat → Option Int
  | [] => none
  | a :: r =>
    let k : Int := (840 / (r.length + 1) : Nat)
    some (840 * (a : Int) + k * intSum (r.map (fun (b : Nat) => circ m b a)))

/-- The mean open and length over the last 8 camera frames, in 1/840 FPU: each flagged edge is left out of the mean, and the length
runs from the mean open to the mean close (R48). -/
def camMean (m : Nat) (x : CamSt) : Option (Int × Int) :=
  let opens := (x.hist.filter (fun f => !f.openBad)).map (·.open_)
  let shut := x.hist.filter (fun f => !f.closeBad)
  match circMean m opens, circMean m (shut.map (fun f => f.open_ + f.len)), shut with
  | some o, some c, f :: _ => some (o % (840 * (m : Int)), 840 * (f.len : Int) + circ (840 * (m : Int)) (c - o) (840 * (f.len : Int)))
  | _, _, _ => none

/-- How many edges of a camera frame were flagged. -/
def CamFrame.flags (f : CamFrame) : Nat := boolNat f.openBad + boolNat f.closeBad

/-- Peak to peak of a list of positions on a circle. -/
def spread (m : Nat) (l : List Int) : Nat :=
  match l with
  | [] => 0
  | a :: _ =>
    let d := l.map (fun b => circ m b a)
    (d.foldl max 0 - d.foldl min 0).toNat

/-! ### Publication (R47 to R49) -/

/-- A window is published at a boundary (R49): the event, CHANGES, and rebuilds on the outputs that it concerns. -/
def State.published (s : State) (n align open_ len : Nat) : State :=
  let s1 := ((s.put (TIM_SHUT_STATUS.ALIGN_ACT n) align).put (TIM_SHUT_WIN_OPEN.OPEN n) open_).put (TIM_SHUT_WIN_LEN.LEN n) len
  ((s1.raiseB 0x0305 n 0 0).inc (TIM_SHUT_STATUS.CHANGES n)).windowChanged n

/-- The published window of a captured camera (R48): widened by JITTER_BOUND on each side and rounded outward. -/
def State.publishMean (s : State) (n : Nat) : State :=
  let x := s.cam n
  match camMean (s.frameFpu n) x with
  | none => s.published n (s.get (TIM_SHUT_STATUS.ALIGN_ACT n)) (s.get (TIM_SHUT_WIN_OPEN.OPEN n)) (s.get (TIM_SHUT_WIN_LEN.LEN n))
  | some (o, l) =>
    let p : Int := (840 * s.tim.p16 : Nat)
    let j : Int := (s.jitterNum n : Nat)
    let at_ := (Int.fdiv (o * s.tim.p16 - j) p % (s.frameFpu n : Int)).toNat
    let len := min (s.frameFpu n) (-(Int.fdiv (-(l * s.tim.p16 + 2 * j)) p)).toNat
    (s.setCam n { x with
      pub := true
      pubOpen := o.toNat
      pubLen := l.toNat
      changePending := false }).published n (at_ / 2 ^ 24) (at_ % 2 ^ 24) len

/-- Order 4 of a boundary: changed captured windows are published. -/
def State.shutterBoundary (s : State) : State :=
  foldOver (List.range 4) (fun n t => if t.captured n && (t.cam n).changePending then t.publishMean n else t) s

/-- LEN of a programmed window (R47). -/
def programmedLen (frame angle : Nat) : Nat := (2 * angle * frame * 2 ^ 24 + 36000) / 72000

/-- A captured camera starts afresh at the present instant. -/
def State.startCam (s : State) (n : Nat) : State := s.setCam n { CamSt.init with lastOpen := s.now }

/-- A commit applies new shutter values of camera n (R49): `old` is the CTRL word that was in force. A captured camera
starts afresh where its mode, polarity or frame changes; otherwise the window is published again by the new values, and where there
is none yet, the change is reported without one. -/
def State.shutterCommit (s : State) (n old : Nat) : State :=
  let w := (s.actRd (TIM_SHUT_CTRL n)).toNat
  let st := TIM_SHUT_STATUS.STATE n
  if s.captured n then
    if bitsOf old 2 0 = bitsOf w 2 0 ∧ bitsOf old 6 4 = bitsOf w 6 4 then
      (if (s.cam n).pub then s.publishMean n
       else s.published n (s.get (TIM_SHUT_STATUS.ALIGN_ACT n)) (s.get (TIM_SHUT_WIN_OPEN.OPEN n)) (s.get (TIM_SHUT_WIN_LEN.LEN n)))
    else (((s.startCam n).put st 1).putB (TIM_SHUT_STATUS.RATE_MISMATCH n) false |>.put (TIM_SHUT_STATUS.FLAGGED n) 0).published
      n 0 0 0
  else
    let s1 := ((s.startCam n).putB (TIM_SHUT_STATUS.RATE_MISMATCH n) false).put (TIM_SHUT_STATUS.FLAGGED n) 0
    if s.actGet (TIM_SHUT_CTRL.MODE n) = 1 then
      (s1.put st 2).published n (s.actGet (TIM_SHUT_CTRL.ALIGN n)) (s.actGet (TIM_SHUT_OPEN.OPEN n))
        (programmedLen (s.frameLfs n) (s.actGet (TIM_SHUT_ANGLE.ANGLE n)))
    else (s1.put st 0).published n 0 0 0

/-- The ranges of Tables TIM-19 to TIM-21 for the values in view. -/
def State.shutterRange (s : State) (cs : List Nat) (n : Nat) : Bool :=
  let f := s.sg cs (TIM_SHUT_CTRL.FRAME_LFS_M1 n) + 1
  decide (s.sg cs (TIM_SHUT_CTRL.ALIGN n) < f) && decide (1 ≤ s.sg cs (TIM_SHUT_ANGLE.ANGLE n)) &&
    decide (s.sg cs (TIM_SHUT_ANGLE.ANGLE n) ≤ 36000) && decide (s.sg cs (TIM_SHUT_OPEN.OPEN n) < f * 2 ^ 24)

/-! ### Light cuts (R51, R269) -/

/-- DACs under a cut go dark at once. -/
def State.cutDacs (s : State) (n : Nat) : State :=
  let x := s.engine n
  let d := (List.range x.drive.length).map (fun k => if s.dacCut n k then (0, 0, 0) else nthD x.drive k (0, 0, 0))
  if d = x.drive then s else (s.setEngine n { x with drive := d }).send (.scanOut n d)

/-- A cut of camera n's views begins (R51): gate lines of every output that carries the view go low, and infrared on
every scan engine (R269). -/
def State.cutLight (s : State) (n kind until_ : Nat) : State :=
  let x := s.cam n
  if x.cut = kind ∧ s.now < x.cutEnd then s
  else
    let s1 := (s.setCam n { x with
      cut := kind
      cutEnd := until_ }).raise 0x0307 n kind 0
    let outs := (List.range arrayOutputs).filter (fun o => s1.outExists o && bitAt (s1.viewMask [] o) n)
    let s2 := foldOver outs (fun o t => t.dropLines (t.highLines o)) s1
    foldOver ((List.range 4).filter s2.engineExists) (fun e t => (t.setEngine e
      { t.engine e with
        cut := true
        shut := (t.engine e).shut || bitAt (t.viewMask [] (16 + e)) n }).cutDacs e) s2

/-- PROTECT applies: a captured camera with a published window. -/
def State.protects (s : State) (n : Nat) : Bool :=
  s.captured n && s.actFlag (TIM_SHUT_CTRL.PROTECT n) && s.get (TIM_SHUT_WIN_LEN.LEN n) != 0

/-- The published open modulo the camera frame. -/
def State.pubAt (s : State) (n : Nat) : Nat := s.get (TIM_SHUT_STATUS.ALIGN_ACT n) * 2 ^ 24 + s.get (TIM_SHUT_WIN_OPEN.OPEN n)

/-- Gate steps of a number of FPU of the running LF. -/
def State.fpuSteps (s : State) (fpu : Nat) : Nat := divRound (fpu * s.tim.p16) (2 ^ 40)

/-- An open edge before the published open cuts light until the published open (R51). -/
def State.earlyOpenCut (s : State) (n : Nat) : State :=
  let d := circ (s.frameFpu n) (s.camPos n) (s.pubAt n)
  if s.protects n ∧ d < 0 then s.cutLight n 1 (s.now + s.fpuSteps d.natAbs) else s

/-- The published close has passed, within half a camera frame, and the window's close edge has not arrived. -/
def State.closeLate (s : State) (n : Nat) : Bool :=
  let len := s.get (TIM_SHUT_WIN_LEN.LEN n)
  let d := circ (s.frameFpu n) (s.camPos n) ((s.pubAt n + len) % s.frameFpu n : Nat)
  s.protects n && decide (0 ≤ d) && decide ((s.cam n).lastClose + s.fpuSteps (len + d.natAbs) < s.now)

/-- SHUTTER_LATE_CLOSE_CUT (R51): the cut lasts until the close edge, or until the end of the LF. -/
def doShutterLateCloseCut (dt n : Nat) (s : State) : State :=
  let t := s.tick dt
  t.onLiveIf (t.closeLate n) (fun u => u.cutLight n 2 u.nextBoundary)

/-! ### Captured edges (R48 to R50) -/

/-- The open edge drifts against the LF grid by more than JITTER_BOUND per camera frame, over the last 8 (R50). -/
def State.camDrifts (s : State) (n : Nat) : Bool :=
  let l := (s.cam n).hist.map (fun f => (f.open_ : Int))
  s.beyond n 7 (840 * intSum ((l.zip (l.drop 1)).map (fun (e : Int × Int) => circ (s.frameFpu n) e.1 e.2)))

/-- Enter a state of a captured window; a change of state is reported, and so is a rate mismatch that appears while the window is
UNSTABLE already (R50). -/
def State.enterCam (s : State) (n st : Nat) (mismatch : Bool) : State :=
  let s1 := s.putB (TIM_SHUT_STATUS.RATE_MISMATCH n) mismatch
  if s1.get (TIM_SHUT_STATUS.STATE n) = st ∧ !(mismatch && !s.flag (TIM_SHUT_STATUS.RATE_MISMATCH n)) then s1 else (s1.put (TIM_SHUT_STATUS.STATE n) st).raise 0x0306 n st 0

/-- A camera frame is complete: its statistics, state, and a change of the window (R48 to R50). -/
def State.camFrame (s : State) (n : Nat) (f : CamFrame) : State :=
  let x := s.cam n
  let y := { x with
    hist := (f :: x.hist).take 8
    openEdge := none
    unflagged := if f.flags = 0 then x.unflagged + 1 else 0 }
  let m := s.frameFpu n
  let pp := max (spread m (y.hist.map (fun g => (g.open_ : Int)))) (spread m (y.hist.map (fun g => ((g.open_ + g.len : Nat) : Int))))
  let s1 := ((s.setCam n y).put (TIM_SHUT_STATUS.FLAGGED n) (listSum (y.hist.map CamFrame.flags))).putSat (TIM_SHUT_JITTER.PP n)
    (divRound (pp * s.tim.p16) (4 * 2 ^ 40))
  if y.hist.length < 8 then s1
  else
    let drift := s1.camDrifts n
    let cur := s1.get (TIM_SHUT_STATUS.STATE n)
    if drift ∨ 2 ≤ (y.hist.filter (fun g => g.flags != 0)).length then s1.enterCam n 3 drift
    else if (cur = 3 ∨ cur = 4) ∧ y.unflagged < 8 then s1
    else
      let s2 := s1.enterCam n 2 false
      match camMean m y with
      | none => s2
      | some (o, l) =>
        let moved := !y.pub || s2.beyond n 1 (circ (840 * (m : Int)) o y.pubOpen) ||
          s2.beyond n 1 (circ (840 * (m : Int)) (o + l) ((y.pubOpen + y.pubLen : Nat) : Int))
        s2.setCam n { y with changePending := y.changePending || moved }

/-- Whether an edge is more than JITTER_BOUND from a running mean, in 1/840 FPU. -/
def State.edgeFlagged (s : State) (n : Nat) (at_ : Int) (mean : Option Int) : Bool :=
  match mean with
  | none => false
  | some a => s.beyond n 1 (circ (840 * (s.frameFpu n : Int)) (840 * at_) a)

/-- SHUTTER_EDGE (R48): the level of SHUTTER_IN[n] after the edge; POL chooses which level means open. -/
def doShutterEdge (dt n : Nat) (high : Bool) (s : State) : State :=
  let t := s.tick dt
  t.onLiveIf (t.captured n) fun u =>
    let x := u.cam n
    let p := u.camPos n
    let mean := camMean (u.frameFpu n) x
    if high != u.actFlag (TIM_SHUT_CTRL.POL n) then
      ((u.setCam n { x with
        openEdge := some (u.phase, u.tim.lfn)
        openFlagged := u.edgeFlagged n p (mean.map (·.1))
        lastOpen := u.now }).earlyOpenCut n)
    else
      let y := { x with
        lastClose := u.now
        cut := if x.cut = 2 then 0 else x.cut }
      match x.openEdge with
      | none => u.setCam n y
      | some (ph, lfn) =>
        let o := lfn % u.frameLfs n * 2 ^ 24 + ph
        let bad := u.edgeFlagged n p (mean.map (fun (e : Int × Int) => e.1 + e.2))
        (u.setCam n y).camFrame n
          { open_ := o, len := mod32Sub u.tim.lfn lfn * 2 ^ 24 + u.phase - ph, openBad := x.openFlagged, closeBad := bad }

/-- SHUTTER_LOST (R50): no open edge has come in 2 expected camera frames in a row. -/
def doShutterLost (dt n : Nat) (s : State) : State :=
  let t := s.tick dt
  t.onLiveIf (t.captured n && decide (t.get (TIM_SHUT_STATUS.STATE n) ≠ 4) &&
      decide ((t.cam n).lastOpen + t.fpuSteps (2 * t.frameFpu n) + 400 * t.actGet (TIM_SHUT_CTRL.JITTER_BOUND n) ≤ t.now)) fun u =>
    (u.setCam n { u.cam n with
      openEdge := none
      unflagged := 0 }).enterCam n 4 false

/-! ### TE_IN and armed events (R55, R247) -/

/-- The array whose load window is a TE_IN line. -/
def State.teOutput (s : State) (line : Nat) : Option Nat :=
  ((List.range 16).find? (fun p => s.flag (APT_PORT_CFG.EXISTS p) && s.flag (APT_PORT_CFG.TE_PIN p) &&
    s.get (APT_PORT_CFG.TE_INDEX p) == line)).map s.portArray

/-- A closing edge during a load cuts the output's gate lines until the end of the loading slot's light interval (R247). -/
def State.teCut (s : State) (line : Nat) : State :=
  match s.teOutput line with
  | none => s
  | some o =>
    match tfind s.apt.loading o with
    | none => s
    | some (slot, stop) =>
      if stop ≤ s.now then s
      else
        let keys := (List.range (slot + 1)).map (fun k => readyKey o k s.tim.lfn)
        { s with apt := { s.apt with cuts := s.apt.cuts ++ keys.filter (fun k => !s.apt.cuts.contains k) } }.dropLines (s.highLines o)

/-- TE_IN_CLOSE (R247). -/
def doTeInClose (dt line : Nat) (s : State) : State :=
  (s.tick dt).onLive fun t =>
    let u := t.teCut line
    foldOver ((List.range 16).filter (fun p => u.flag (APT_PORT_CFG.TE_PIN p) && u.get (APT_PORT_CFG.TE_INDEX p) == line))
      (fun p v => v.putB (APT_PORT_STATE.TE_OPEN p) false) u

/-- ARMED_EVENT_TRIGGER (R55): an edge that the schedule did not predict fires the event armed on its input within 180 ns:
input 0 is SHUTTER_IN[n], 1 FRAME_IN, on which no rule arms an event, and 2 TE_IN[n]; `active` says that the edge opens a
shutter or closes a load window. -/
def doArmedEventTrigger (dt input n : Nat) (active : Bool) (s : State) : State :=
  (s.tick dt).onLive fun t =>
    if !active then t
    else if input = 0 then t.earlyOpenCut n
    else if input = 2 then t.teCut n
    else t

end Sys2Proof.Machine
end

