-- ==== Sys2Proof/Machine/Commit.lean ====
section
/-! DEFINITION. Commits: requests, groups, readiness, admission, decision and what applying does (R11, R29, R30, R42 to R46,
R93 to R99, R154, R174, R195, R196, R205). -/
namespace Sys2Proof.Machine

/-! ### Commit registers (Table HIF-15) -/

/-- The first of a commit's four registers. -/
def cmReg (c : Nat) : Nat := if c = pfCommit then HIF_PF_COMMIT else HIF_CTX_COMMIT c

abbrev cmReq (c : Nat) : Fld := ⟨cmReg c, 0, 0⟩
abbrev cmAtLfn (c : Nat) : Fld := ⟨cmReg c, 2, 2⟩
abbrev cmTag (c : Nat) : Fld := ⟨cmReg c, 31, 16⟩
abbrev cmState (c : Nat) : Fld := ⟨cmReg c + 8, 2, 0⟩
abbrev cmCause (c : Nat) : Fld := ⟨cmReg c + 8, 7, 4⟩
abbrev cmReason (c : Nat) : Fld := ⟨cmReg c + 8, 11, 8⟩
abbrev cmStTag (c : Nat) : Fld := ⟨cmReg c + 8, 31, 16⟩

abbrev cmPending : Nat := 1
abbrev cmAdmitted : Nat := 2
abbrev cmApplied : Nat := 3
abbrev cmFailed : Nat := 4
abbrev cmCancelled : Nat := 5

abbrev nrNone : Nat := 0
abbrev nrForming : Nat := 2
abbrev nrCompile : Nat := 3
abbrev nrTables : Nat := 4
abbrev nrCfMin : Nat := 5
abbrev nrGroup : Nat := 6
abbrev nrRange : Nat := 7
abbrev nrStartup : Nat := 8
abbrev nrReload : Nat := 9

def State.setCm (s : State) (c : Nat) (x : CommitSt) : State := { s with hif := { s.hif with commits := tset s.hif.commits c x } }

def State.isAdmitted (s : State) (c : Nat) : Bool := (s.cm c).any (·.admitted)

/-! ### Groups (R96) -/

/-- The commit group in force of a context or of the PF. -/
def State.cmGroup (s : State) (c : Nat) : Nat :=
  if c = pfCommit then tget (s.get HIF_CTRL.PF_GROUP) s.hif.groupAct c else s.groupOf c

/-- AON of a group, as in force. -/
def State.aonOf (s : State) (g : Nat) : Bool := tget (s.flag (HIF_GROUP_CTRL.AON g)) s.hif.aonAct g

/-- Existing members of a group: contexts, and the PF where PF_GROUP names it. -/
def State.members (s : State) (g : Nat) : List Nat :=
  (idxWhere 1024 (fun c => s.ctxExists c && s.cmGroup c == g)) ++ (if s.cmGroup pfCommit = g then [pfCommit] else [])

/-- Requests of a group that are pending or admitted. -/
def State.groupPending (s : State) (g : Nat) : List Nat := (tkeys s.hif.commits).filter (fun c => s.cmGroup c == g)

def State.showGroup (s : State) (g : Nat) : State := s.putB (HIF_GROUP_CTRL.PENDING g) (!(s.groupPending g).isEmpty)

/-- Group and AON changes take effect at a boundary without a pending commit (R96). -/
def State.groupBoundary (s : State) : State :=
  let s1 := { s with hif := { s.hif with
    groupAct := s.hif.groupAct.filter (fun (e : Nat × Nat) => thas s.hif.commits e.1) } }
  let s2 := { s1 with hif := { s1.hif with
    aonAct := s1.hif.aonAct.filter (fun (e : Nat × Bool) => !(s1.groupPending e.1).isEmpty) } }
  foldOver ((List.range 64).filter (fun g => s2.flag (HIF_GROUP_CTRL.PENDING g) || !(s2.groupPending g).isEmpty))
    (fun g t => t.showGroup g) s2

/-! ### What a commit changes -/

/-- Shadows that lie behind a data window, and not in its register. -/
def windowKey (a : Nat) : Bool :=
  (decide (CMP_COEF_DATA 0 ≤ a) && decide (a ≤ CMP_COEF_DATA 2)) || (decide (LMP_LAMP_DATA 0 ≤ a) && decide (a ≤ LMP_LAMP_DATA 7))

def rwsMask (a : Nat) : Nat := if windowKey a then 0 else ((lookupReg a).map (·.rws)).getD 0

/-- The RWS registers of a commit whose shadow differs from the value in force. -/
def State.changedKeys (s : State) (c : Nat) : List Nat :=
  ((tkeys s.regs) ++ (tkeys s.act).filter (fun a => !thas s.regs a)).filter (fun a =>
    s.rd a != s.actRd a && s.keyOwner a == c && ((s.rdN a ^^^ (s.actRd a).toNat) &&& rwsMask a) != 0)

/-- Outputs that a test on the values before or after the commit picks. -/
def State.outsWhere (s : State) (p : Nat → Bool) : List Nat := idxWhere outputs (fun o => s.outExists o && p o)

/-- Whether a view of an output uses a LUT slot (k < 16) or a decomposition slot. -/
def State.usesLut (s : State) (cs : List Nat) (k o : Nat) : Bool :=
  (s.viewsOf cs o).any (fun v => s.sflag cs (COL_OUT_VIEW.LUT_EN o v) && (s.sg cs (COL_OUT_VIEW.LUT_SLOT o v)) / 2 == k / 2)

def State.usesDec (s : State) (cs : List Nat) (k o : Nat) : Bool :=
  s.tableMode && (s.viewsOf cs o).any (fun v => s.sg cs (COL_OUT_VIEW.DEC_SLOT o v) == k)

/-- The outputs whose picture or timing a register of a commit changes. -/
def State.keyOutputs (s : State) (cs : List Nat) (a : Nat) : List Nat :=
  let either := fun (p : List Nat → Nat → Bool) => s.outsWhere (fun o => p [] o || p cs o)
  let one := fun (o : Nat) => if s.outExists o then [o] else []
  match idxIn a (CMP_LYR_CTRL 0) 0x100 256 with
  | some n => either (fun x o => s.takesPart x n o)
  | none => match idxIn a (COL_LYR_CTRL 0) 0x100 256 with
  | some n => either (fun x o => s.takesPart x n o)
  | none => match idxIn a (CMP_OUT_CTRL 0) 0x80 20 with
  | some o => one o
  | none => match idxIn a (COL_OUT_CTRL 0) 0x80 20 with
  | some o => one o
  | none => match idxIn a (SEQ_OUT_CTRL 0) 0x20 20 with
  | some o => one o
  | none => match idxIn a (TIM_OUT_CF 0) 4 20 with
  | some o => one o
  | none => match idxIn a (PLN_OUT_REFILL 0) 0x20 16 with
  | some o => one o
  | none => match idxIn a (PLN_SET_CTRL 0) 0x100 32 with
  | some k => either (fun x o => s.setEn x k && s.setOut x k == o)
  | none => match idxIn a (SCN_ENG_AMP 0) 0x80 4 with
  | some n => one (16 + n)
  | none => match idxIn a (COL_LUT_CTRL 0) 0x10 16 with
  | some k => either (fun x o => s.usesLut x k o)
  | none => match idxIn a (COL_DEC_CTRL 0) 0x10 8 with
  | some k => either (fun x o => s.usesDec x k o)
  | none => match idxIn a (PLN_BOOK_CTRL 0) 0x20 16 with
  | some k => either (fun x o => (s.setsOf x o).any (fun j => s.setBook x j == k))
  | none => match idxIn a (COL_CAM_RESP 0 0) 0x80 4 with
  | some v => either (fun x o => bitAt (s.viewMask x o) v)
  | none =>
    if a = COL_CTRL ∨ a = COL_PQ_REF ∨ a = SEQ_THROTTLE_CFG then s.outsWhere (fun _ => true)
    else if PLN_MASK_CTRL ≤ a ∧ a ≤ PLN_MASK_ADDR_HI then s.outsWhere (fun o => !(s.setsOf cs o).isEmpty)
    else []

/-- With an output its leader and the leader's other followers change too: one pass forms them all (R135). -/
def State.widen (s : State) (os : List Nat) : List Nat :=
  idxWhere outputs (fun o => s.outExists o && os.any (fun p => s.leaderOf p == s.leaderOf o))

/-- Outputs that a commit changes. -/
def State.commitOutputs (s : State) (c : Nat) : List Nat :=
  let keys := (s.changedKeys c).flatMap (s.keyOutputs [c])
  let extra := if c = pfCommit then
      (s.cmp.loads.flatMap (fun (l : LoadSt) => match l.kind with
        | .mesh => [l.index]
        | .grid => [l.index]
        | .lut => s.outsWhere (s.usesLut [c] l.index)
        | .dec => s.outsWhere (s.usesDec [c] l.index)
        | .book => s.outsWhere (fun o => (s.setsOf [c] o).any (fun k => s.setBook [c] k == l.index))
        | .mask => s.outsWhere (fun o => !(s.setsOf [c] o).isEmpty))) ++
      (if s.cmp.coefDirty.isEmpty then [] else s.outsWhere (fun _ => true)) ++
      s.outsWhere (s.asksCompile [c])
    else []
  s.widen (keys ++ extra)

/-! ### Readiness (R29) -/

/-- TIM values of a PF commit that break a range, as register keys (R37, R46, Tables TIM-11, TIM-19 to TIM-21). -/
def State.timBad (s : State) (cs : List Nat) : List Nat :=
  let mul := s.sg cs TIM_LF_CFG.MUL
  let div_ := s.sg cs TIM_LF_CFG.DIV
  let rate :=
    if mul = 0 ∨ 32 < mul ∨ div_ = 0 ∨ 8 < div_ then [TIM_LF_CFG]
    else if s.sg cs TIM_FREERUN_PERIOD.PERIOD = 0 ∨ (s.get TIM_REF_STATUS.ACTIVE = refFree ∧ !lfPeriodOk16 (s.nominalUnder cs)) then
      [TIM_FREERUN_PERIOD]
    else if s.get TIM_REF_STATUS.ACTIVE = refFree ∨ s.nominalUnder cs = 0 ∨ lfPeriodOk16 (s.nominalUnder cs) then []
    else [TIM_LF_CFG]
  let shut := ((List.range 4).filter (fun n => !s.shutterRange cs n)).map TIM_SHUT_CTRL
  let cf := ((List.range outputs).filter (fun o =>
    decide (s.sg cs (TIM_OUT_CF.CF_MIN o) = 0) || decide (s.sg cs (TIM_OUT_CF.CF_MAX o) < s.sg cs (TIM_OUT_CF.CF_MIN o)))).map TIM_OUT_CF
  rate ++ shut ++ cf

/-- Lead planes that need more than MARGIN_SEGS (R205), once their schedule is known. -/
def State.marginShort (s : State) (cs : List Nat) : Bool :=
  (List.range arrayOutputs).any (fun o => s.outExists o && s.phased o &&
    decide (s.get (PLN_OUT_SIZE.MARGIN_SEGS o) < s.segsFor o (s.leadsOf cs o).length))

/-- A commit's shadows break a register's range (R98). Layers over the limit of R134 are counted with the commits already
admitted. -/
def State.commitRange (s : State) (c : Nat) : Bool :=
  let cs := [c]
  let all := c :: (tkeys s.hif.commits).filter s.isAdmitted
  s.stackRange all ||
    (if c = pfCommit then
      !(s.timBad cs).isEmpty || s.lmpRange cs || s.scanRange cs || s.seqRange cs || s.colRange cs || s.coefRange ||
        s.plnRange cs (s.sg cs LMP_CTRL.KNEE) || (List.range outputs).any (s.cmpOutRange cs) || s.marginShort cs ||
        (List.range 256).any (fun n => (s.holder n).isNone && s.layerRange cs n)
     else (s.layersOf c).any (s.layerRange cs))

/-- Conditions 1, 3 and 4 of R29 and R99: the first that does not hold, 0 where all do. R19 clamps each value as it is
written, so limits never hold a commit back (NR_CAUSE 1; DEDUCED, log 80). -/
def State.localCause (s : State) (c : Nat) : Nat :=
  if !s.flag HIF_STATUS.STARTUP_DONE || s.get THM_STATUS.STATE != 0 then nrStartup
  else if s.commitRange c then nrRange
  else if !s.compilesReady [c] then nrCompile
  else if c = pfCommit ∧ s.cmp.loads.any (fun l => !l.loaded) then nrTables
  else nrNone

/-- Every member of an all-or-nothing group has a pending request that meets conditions 1, 3 and 4 (R96). -/
def State.groupAdmits (s : State) (g : Nat) : Bool :=
  let ms := s.members g
  ms.all (fun c => thas s.hif.commits c && s.localCause c == nrNone) && !s.stackRange ms

/-- A device joined to a Laxus system: its commits are decided by rounds (R30). -/
def State.joined (s : State) : Bool := s.isMember && s.get LXS_STATUS.PHASE == 6

/-- CF bounds in force, rounded to the cameras' frames (R45, R46). -/
def State.cfBound (s : State) (o v : Nat) : Nat :=
  let l := lcmList ((s.carriedCams [] o).map (·.2.1))
  if !s.flag HIF_STATUS.STARTUP_DONE then 1
  else if v ≤ 255 / l * l then divUp v l * l else 255 / l * l

def State.cfMin (s : State) (o : Nat) : Nat := s.cfBound o (s.actGet (TIM_OUT_CF.CF_MIN o))
def State.cfMax (s : State) (o : Nat) : Nat := s.cfBound o (s.actGet (TIM_OUT_CF.CF_MAX o))

/-- A CF of an output may start at the boundary that starts LF `lfn` (R44, R45): condition 5. -/
def State.cfMayStart (s : State) (o lfn : Nat) : Bool :=
  decide (s.cfMin o ≤ tget 0 s.tim.cfLen o + 1) && s.frameStart o lfn

/-- The array outputs among a commit's that hold its pass. -/
def State.passHosts (s : State) (os : List Nat) : List Nat := os.filter (fun o => decide (o < arrayOutputs) && !s.isFollower o)

/-- The outputs among a commit's whose passes it waits for: those that light some array with an enabled set (R191). -/
def State.waitHosts (s : State) (cs os : List Nat) : List Nat :=
  (s.passHosts os).filter (fun o => (s.withFollowers o).any (fun f => !(s.setsOf cs f).isEmpty))

/-- The pass at the head of an output's queue includes a commit and may apply (condition 2). -/
def State.formed (s : State) (c o : Nat) : Bool :=
  match s.passesOf o with
  | [] => false
  | p :: _ => p.commits.contains c && s.passReady o

/-- The first condition that keeps an admitted commit from the boundary that starts LF `lfn`, but for its group's. -/
def State.ownCause (s : State) (c lfn : Nat) : Nat :=
  match s.cm c with
  | none => nrNone
  | some x =>
    let l := s.localCause c
    if l ≠ nrNone then l
    else if !(s.waitHosts [c] x.outputs).all (s.formed c) then nrForming
    else if !x.outputs.all (fun o => s.cfMayStart o lfn) then nrCfMin
    else nrNone

/-- NR_CAUSE of a pending commit for the boundary that starts LF `lfn` (R98). -/
def State.cause (s : State) (c lfn : Nat) : Nat :=
  match s.cm c with
  | none => nrNone
  | some x =>
    let g := s.cmGroup c
    if x.admitted then
      (let own := s.ownCause c lfn
       if own ≠ nrNone then own
       else if s.aonOf g && !(s.members g).all (fun m => s.isAdmitted m && s.ownCause m lfn == nrNone) then nrGroup else nrNone)
    else
      (let own := s.localCause c
       if own ≠ nrNone then own
       else if s.aonOf g && !s.groupAdmits g then nrGroup else nrNone)

/-- NR_CAUSE of every pending commit as conditions stand. -/
def State.showCommits (s : State) : State :=
  if !s.live then s
  else foldOver (tkeys s.hif.commits) (fun c t => t.put (cmCause c) (s.cause c s.nextLfn)) s

/-! ### Tables of a PF commit (R154, R174, R179, R181, R195, R196, R198) -/

def State.differs (s : State) (fs : List Fld) : Bool := fs.any (fun f => s.get f != s.actGet f)

/-- What the builder of a slot's books takes: weights, QB, DROP and BOOK_SRC. -/
def State.bookIn (s : State) (cs : List Nat) (slot : Nat) : Option (List Nat × Nat × Nat × Bool) :=
  (s.slotSet cs slot).map (fun k => (s.setWeights cs k, s.setQb cs k, s.setDrop cs k, s.setLoaded cs k))

def State.newLoad (k : TableKind) (i : Nat) (build : Bool) : LoadSt :=
  { kind := k, index := i, loaded := false, failed := false, waits := false, retried := false, build := build }

/-- Loads and builds that the PF's request starts. -/
def State.loadsAsked (s : State) : List LoadSt :=
  let load := fun (k : TableKind) (i : Nat) (b : Bool) => if b then [State.newLoad k i false] else []
  let meshes := (List.range outputs).flatMap (fun o => load .mesh o (s.outExists o && !s.isFollower o &&
    s.differs [CMP_OUT_WARP_ADDR_LO.VA_LOW o, CMP_OUT_WARP_ADDR_HI.VA_HIGH o, CMP_OUT_CTRL.MESH_SEQ o]))
  let luts := (List.range 16).flatMap (fun k => load .lut k
    (s.differs [COL_LUT_ADDR_LO.VA_LOW k, COL_LUT_ADDR_HI.VA_HIGH k, COL_LUT_CTRL.SIZE k, COL_LUT_CTRL.SEQ k]))
  let decs := (List.range 8).flatMap (fun k => load .dec k
    (s.differs [COL_DEC_ADDR_LO.VA_LOW k, COL_DEC_ADDR_HI.VA_HIGH k, COL_DEC_CTRL.SEQ k]))
  let grids := (List.range outputs).flatMap (fun o => load .grid o (s.outExists o &&
    s.differs [COL_OUT_UNI_ADDR_LO.VA_LOW o, COL_OUT_UNI_ADDR_HI.VA_HIGH o, COL_OUT_CTRL.UNI_SEQ o]))
  let books := (List.range 16).flatMap (fun k =>
    match s.bookIn [pfCommit] k with
    | none => []
    | some b =>
      let same := s.bookIn [] k == some b
      let read := b.2.2.2 && (s.pln.built.contains k || !thas s.pln.book k ||
        s.differs [PLN_BOOK_ADDR_LO.VA_LOW k, PLN_BOOK_ADDR_HI.VA_HIGH k, PLN_BOOK_CTRL.SEQ k] ||
        (s.bookIn [] k).all (fun a => a.2.1 != b.2.1))
      load .book k read ++ (if same && thas s.pln.throttle k then [] else [State.newLoad .book k true]))
  let mask := load .mask 0 (s.differs [PLN_MASK_ADDR_LO.VA_LOW, PLN_MASK_ADDR_HI.VA_HIGH, PLN_MASK_CTRL.SEQ])
  meshes ++ luts ++ decs ++ grids ++ books ++ mask

/-- The PF's commit ends otherwise than by applying: its loads and back copies go. -/
def State.dropLoads (s : State) : State :=
  { s with
    cmp := { s.cmp with
      loads := []
      meshBack := [] }
    col := { s.col with
      lutBack := []
      decBack := []
      gridBack := [] }
    pln := { s.pln with
      bookBack := []
      throttleBack := []
      maskBack := [] } }.showBuilds

def putAll {α : Type} (front back : Tbl α) : Tbl α := back.foldl (fun t (e : Nat × α) => tset t e.1 e.2) front

/-- PLN_BOOK_k_STATUS for the books in force (R195, R196). -/
def State.showBook (s : State) (k : Nat) : State :=
  match s.bookIn [] k with
  | none => s
  | some b =>
    let r := mainBook b.1 b.2.1
    let s1 := s.put (PLN_BOOK_STATUS.READY k) 1
    if b.2.2.2 then (s1.put (PLN_BOOK_STATUS.FIXES k) 0).put (PLN_BOOK_STATUS.MAX_ERR k) 0
    else (s1.putSat (PLN_BOOK_STATUS.FIXES k) r.fixes).putSat (PLN_BOOK_STATUS.MAX_ERR k) r.maxErr

/-- Meshes, tables, books and masks that a PF commit loaded or built switch with it. -/
def State.switchTables (s : State) : State :=
  let books := tkeys s.pln.throttleBack ++ (tkeys s.pln.bookBack).filter (fun k => !thas s.pln.throttleBack k)
  let loaded := fun (k : Nat) => (s.bookIn [] k).any (fun b => b.2.2.2)
  let decs := tkeys s.col.decBack
  let s1 := { s with
    cmp := { s.cmp with
      mesh := putAll s.cmp.mesh s.cmp.meshBack
      coefAct := s.cmp.coefShadow
      coefDirty := [] }
    col := { s.col with
      lut := putAll s.col.lut s.col.lutBack
      dec := putAll s.col.dec s.col.decBack
      grid := putAll s.col.grid s.col.gridBack
      driftRaised := s.col.driftRaised.filter (fun o => !decs.any (fun k => s.usesDec [] k o)) }
    pln := { s.pln with
      book := putAll s.pln.book s.pln.bookBack
      throttle := putAll s.pln.throttle s.pln.throttleBack
      mask := if s.pln.maskBack.isEmpty then s.pln.mask else s.pln.maskBack
      built := s.pln.built.filter (fun k => !books.contains k) ++ books.filter (fun k => !loaded k) } }
  let s2 := foldOver (tkeys s.cmp.meshBack) (fun o (t : State) => t.put (CMP_OUT_STATUS.APRON o) (meshApron (tget [] t.cmp.mesh o))) s1
  let s3 := foldOver (tkeys s.col.lutBack) (fun k (t : State) => t.put (COL_LUT_STATUS.LOADED k) 1) s2
  let s4 := foldOver decs (fun k (t : State) => t.put (COL_DEC_STATUS.LOADED k) 1) s3
  let s5 := foldOver books (fun k (t : State) => t.showBook k) s4
  let s6 := if s.pln.maskBack.isEmpty then s5 else s5.put PLN_MASK_STATUS.LOADED 1
  let shown := foldOver ((List.range outputs).filter (fun o => decs.any (fun k => s6.usesDec [] k o))) (fun o (t : State) =>
    foldOver (t.viewsOf [] o) (fun v (u : State) => u.keepEst o v) t) s6
  shown.dropLoads

/-! ### Requests, cancels and ends (R93, R95, R97, R98) -/

/-- A commit ends (R98): its registers, its event, and what it held. -/
def State.endCommit (s : State) (c st reason lfn : Nat) (atBoundary : Bool) : State :=
  let tag := s.get (cmStTag c)
  let g := s.cmGroup c
  let s1 := { s with hif := { s.hif with commits := tdel s.hif.commits c } }
  let s2 := (((s1.put (cmReq c) 0).put (cmState c) st).put (cmReason c) reason).put (cmCause c) 0
  let s3 := if st = cmApplied then s2.wrN (cmReg c + 12) lfn else s2
  let s4 := s3.showGroup g
  let ctx := if c = pfCommit then devQ else c
  if atBoundary then s4.raiseCB 0x0F01 ctx tag st lfn else s4.raiseC 0x0F01 ctx tag st lfn

/-- A commit fails or is cancelled; its shadows stay (R93, R97). -/
def State.failCommit (s : State) (c st reason : Nat) (atBoundary : Bool) : State :=
  let s1 := if c = pfCommit then s.dropLoads else s
  ((if (s1.cm c).any (·.admitted) then s1.withdraw c else s1).endCommit c st reason s1.tim.lfn atBoundary)

/-- The PF's request starts its compiles, loads and builds, and reports broken TIM ranges once (R37, R46, R195, R219). -/
def State.startTables (s : State) : State :=
  let s1 := { s with cmp := { s.cmp with loads := s.loadsAsked } }
  (foldOver (s1.timBad [pfCommit]) (fun a (t : State) => t.limitEvent devQ a) s1).showBuilds.commitCompiles

/-- Whether a number names a commit: an existing context, or the PF. -/
def State.commits? (s : State) (c : Nat) : Bool := c == pfCommit || s.ctxExists c

/-- COMMIT_REQUEST (R93, R95): REQ of a context or of the PF, with AT_LFN and TAG. -/
def doCommitRequest (dt c : Nat) (atLfn : Bool) (tag : Nat) (s : State) : State :=
  (s.tick dt).onReach fun t =>
    let writer := if c = pfCommit then devQ else c
    if !t.commits? c then t.accessEvent c (cmReg c) 5
    else if thas t.hif.commits c then t.accessEvent writer (cmReg c) 4
    else
      let u := (((((t.putB (cmAtLfn c) atLfn).put (cmTag c) tag).put (cmStTag c) tag).put (cmState c) cmPending).put (cmReason c) 0).put (cmCause c) 0
      let target := if atLfn then some (u.rdN (cmReg c + 4)) else none
      let v := u.setCm c { admitted := false, decided := false, since := u.tim.lfn, target := target, outputs := [] }
      if target.any (fun a => !lfnAfter a v.tim.lfn) then v.endCommit c cmFailed 3 v.tim.lfn false
      else ((if c = pfCommit then (v.put (cmReq c) 1).startTables else v.put (cmReq c) 1).showGroup (v.cmGroup c)).showCommits

/-- COMMIT_CANCEL (R93): only before admission. -/
def doCommitCancel (dt c : Nat) (s : State) : State :=
  let t := s.tick dt
  t.onReachIf (thas t.hif.commits c && !t.isAdmitted c) (fun u => (u.failCommit c cmCancelled 0 false).showCommits)

/-! ### Admission (R94, R96) -/

/-- Admit commits together: their outputs are fixed, and each array output gets one pass with those that change it. -/
def State.admitAll (s : State) (cs : List Nat) : State :=
  let s1 := foldOver cs (fun c (t : State) =>
    match t.cm c with
    | none => t
    | some x => (t.setCm c { x with
        admitted := true
        outputs := s.commitOutputs c }).put (cmState c) cmAdmitted) s
  let mine := fun (o : Nat) => cs.filter (fun c => (s1.cm c).any (fun x => x.outputs.contains o))
  foldOver (s1.passHosts ((List.range outputs).filter (fun o => !(mine o).isEmpty))) (fun o t => t.askPass .commit (mine o) o) s1

/-- COMMIT_ADMIT (R94): the request of `c`, with its whole group where that is all-or-nothing. On a joined device an
all-or-nothing group is admitted by a DECISION (R350). -/
def doCommitAdmit (dt c : Nat) (s : State) : State :=
  let t := s.tick dt
  let g := t.cmGroup c
  t.onLiveIf (thas t.hif.commits c && !t.isAdmitted c) fun u =>
    if u.aonOf g then
      (if !u.joined && u.groupAdmits g && (u.members g).all (fun m => !u.isAdmitted m) then (u.admitAll (u.members g)).showCommits
       else u.showCommits)
    else if u.localCause c = nrNone then (u.admitAll [c]).showCommits
    else u.showCommits

/-! ### Decision (R30) -/

/-- Commits that share a pass, or a group that is all-or-nothing, are decided together. -/
def State.mates (s : State) (c : Nat) : List Nat :=
  let os := ((s.cm c).map (·.outputs)).getD []
  (s.waitHosts [c] os).flatMap (fun o => match s.passesOf o with
    | [] => []
    | p :: _ => p.commits) ++ (if s.aonOf (s.cmGroup c) then s.members (s.cmGroup c) else [])

/-- Leave out commits whose mates are left out, until none is. -/
def State.together (s : State) : Nat → List Nat → List Nat
  | 0, l => l
  | n + 1, l => s.together n (l.filter (fun c => (s.mates c).all (fun m => l.contains m)))

/-- The commits that may apply at the boundary that starts LF `lfn`, of those that a test allows. -/
def State.readyCommits (s : State) (lfn : Nat) (allow : Nat → Bool) : List Nat :=
  let l := (tkeys s.hif.commits).filter (fun c => allow c && s.isAdmitted c && s.cause c lfn == nrNone &&
    (s.cm c).any (fun x => x.reached lfn))
  s.together l.length l

/-- Commits are decided for the next boundary. -/
def State.decideFor (s : State) (cs : List Nat) : State :=
  { s with hif := { s.hif with commits := s.hif.commits.map (fun (e : Nat × CommitSt) =>
    (e.1, { e.2 with decided := cs.contains e.1 })) } }

/-- The decision point of a stand-alone device, 20 us before the boundary (R30). -/
def State.decisionInstant (s : State) : Nat := s.nextBoundary - 20 * usSteps

/-- The commit point of the running LF as a fabric event (R16, Table SEQ-3). -/
def State.commitPoint (s : State) : FabEvent := { kind := .commit, lfn := s.tim.lfn, unit_ := 0, slot := 0, line := 0 }

/-- COMMIT_DECISION_POINT (R16, R30): the clock runs on to the decision point, and the commit point that the fabric delivered
fires; without one, or once it has passed, nothing is decided. -/
def doCommitDecisionPoint (s : State) : State :=
  if s.now ≤ s.decisionInstant then
    ({ s with now := s.decisionInstant }).onLiveIf (!s.joined && s.seq.fab.contains s.commitPoint) fun t =>
      ((t.takeEvent t.commitPoint).decideFor (t.readyCommits t.nextLfn (fun _ => true))).showCommits
  else s

/-! ### Group timeouts (R97) -/

/-- LFs since the first pending request of a group. -/
def State.groupWait (s : State) (g : Nat) : Nat :=
  listMax ((s.groupPending g).map (fun c => mod32Sub s.tim.lfn (((s.cm c).map (·.since)).getD s.tim.lfn)))

/-- GROUP_TIMEOUT (R97): WAIT_MAX LFs have passed; a decision already reached stands (R30). -/
def doGroupTimeout (dt g : Nat) (s : State) : State :=
  let t := s.tick dt
  let w := t.get (HIF_GROUP_CTRL.WAIT_MAX g)
  t.onLiveIf (decide (g < 64) && t.aonOf g && w != 0 && decide (w ≤ t.groupWait g) && !(t.groupPending g).isEmpty &&
      (t.groupPending g).all (fun c => !(t.cm c).any (·.decided))) fun u =>
    (foldOver (u.groupPending g) (fun c v => v.failCommit c cmFailed 1 false) u).incSat (HIF_GROUP_CTRL.TIMEOUTS g) 1

/-! ### Applying (order 4 of Table GEN-18) -/

def State.decidedNow (s : State) : List Nat := (tkeys s.hif.commits).filter (fun c => (s.cm c).any (·.decided))

/-- The CF of an output starts: CFN advances and its length restarts (R44). -/
def State.startCf (s : State) (o : Nat) : State :=
  let s1 := { s with tim := { s.tim with cfLen := tset s.tim.cfLen o 0 } }
  s1.wrN (TIM_OUT_CFN o) ((s1.rdN (TIM_OUT_CFN o) + 1) % 2 ^ 32)

/-- The parts of a PF commit beyond its shadows: tables, lamp records, schedules, the timebase and windows (R28, R40, R42,
R49, R289). `before` is the state before the shadows applied. -/
def State.applyPf (s before : State) : State :=
  let asked := (List.range outputs).filter (before.asksCompile [pfCommit])
  let s1 := (s.switchTables.commitLamps.showPos).commitSchedules asked
  let s2 := if before.rateMoves [pfCommit] then s1.beginAcquire
    else if before.differs [TIM_PHASE_OFFSET.OFFSET] then s1.moveOffset else s1
  let cams := (List.range 4).filter (fun n => [TIM_SHUT_CTRL n, TIM_SHUT_ANGLE n, TIM_SHUT_OPEN n].any (fun a => before.rd a != before.actRd a))
  foldOver cams (fun n t => t.shutterCommit n (before.actRd (TIM_SHUT_CTRL n)).toNat) s2

/-- Commits that applied without waiting for an output's pass (R191): it goes on without them, and applies by itself. -/
def State.passGoesOn (s : State) (cs : List Nat) (o : Nat) : State :=
  s.setPasses o ((s.passesOf o).map (fun (p : Pass) => { p with commits := p.commits.filter (fun c => !cs.contains c) }))

/-- Order 4: the decided commits apply together (R11, R29, R98). -/
def State.applyCommits (s : State) : State :=
  let cs := s.decidedNow
  if cs.isEmpty then s
  else
    let outs := (List.range outputs).filter (fun o => cs.any (fun c => (s.cm c).any (fun x => x.outputs.contains o)))
    let s1 := foldOver (cs.flatMap s.changedKeys) (fun a t => t.applyShadow a) s
    let s2 := if cs.contains pfCommit then s1.applyPf s else s1
    let s3 := foldOver outs (fun o t => t.startCf o) s2
    let s4 := foldOver (s3.passHosts outs) (fun o t => if cs.any (fun c => t.formed c o) then t.applyPass o else t.passGoesOn cs o) s3
    let s5 := foldOver (outs.filter (fun o => decide (o < 16))) (fun o t => t.showUsed o (t.leadsOf [] o).length) s4
    foldOver cs (fun c t => t.endCommit c cmApplied 0 t.tim.lfn true) s5

/-- A reload takes this boundary: commits decided for it move (R26, R78). -/
def State.moveCommits (s : State) : State :=
  foldOver s.decidedNow (fun c t => t.put (cmCause c) nrReload) (s.decideFor [])

/-- Order 6: outputs that reached CF_MAX without a commit repeat, at a boundary at which a CF may start (R44, R45). -/
def State.repeatOutputs (s : State) (started : List Nat) : State :=
  foldOver ((List.range outputs).filter (fun o => s.outExists o && !started.contains o)) (fun o t =>
    let n := tget 0 t.tim.cfLen o + 1
    if n < t.cfMax o ∨ !t.frameStart o t.tim.lfn then { t with tim := { t.tim with cfLen := tset t.tim.cfLen o n } }
    else
      let late := (tkeys t.hif.commits).any (fun c => (t.cm c).any (fun x =>
        if x.admitted then x.outputs.contains o else (t.commitOutputs c).contains o))
      let t1 := ({ t with tim := { t.tim with cfLen := tset t.tim.cfLen o 0 } }).inc (TIM_OUT_REPEATS.COUNT o)
      if late then t1.inc (TIM_OUT_LATE.COUNT o) else t1) s

end Sys2Proof.Machine
end

