-- ==== Sys2Proof/Machine/Thm.lean ====
section
/-! DEFINITION. THM: the sensor and its checks (R378, R379), bands and levels (R380 to R382), shutdown with its two
classes and its grace (R383 to R387), restart (R388 to R390), and the power domains (R395, R396). -/
namespace Sys2Proof.Machine

/-! ### Power domains (R396, Tables THM-8, GEN-21) -/

abbrev domains : Nat := 219

/-- A domain's wake time in gate steps (Table GEN-21); training is the lane's own. -/
def wakeSteps (d : Nat) : Nat :=
  if d < 144 then 4 * usSteps else if d < 152 then 12800 else if d < 186 then 50 * usSteps else if d < 202 then 10 * usSteps
  else if d < 210 then 100 * usSteps else if d < 214 then msSteps else if d < 218 then 4 * usSteps else 0

/-- The waiting domain of the earliest use. -/
def earliestUse : Tbl Nat → Option (Nat × Nat)
  | [] => none
  | e :: r => match earliestUse r with
    | none => some e
    | some f => if f.2 < e.2 then some f else some e

/-- Ramps that have ended switch their domains on, and at most 4 run at once (R396). -/
def State.rampDomains (s : State) : State :=
  let ended := s.thm.ramp.filter (fun e => decide (e.2 ≤ s.now))
  let s1 := foldOver ended (fun e t => t.setDomOn e.1 true)
    { s with thm := { s.thm with ramp := s.thm.ramp.filter (fun e => !decide (e.2 ≤ s.now)) } }
  foldOver (List.range 4) (fun _ t =>
    if 4 ≤ t.thm.ramp.length then t
    else match earliestUse t.thm.wait with
      | none => t
      | some e =>
        { t with thm := { t.thm with
          wait := tdel t.thm.wait e.1
          ramp := tset t.thm.ramp e.1 (t.now + wakeSteps e.1) } }.mirrorDom e.1 true) s1

/-- DOMAIN_WAKE (R396): an owner requests domain d for a use at an instant; a domain held off never switches on. -/
def doDomainWake (dt d use : Nat) (s : State) : State :=
  let t := s.tick dt
  t.onLiveIf (decide (d < domains) && t.get THM_STATUS.STATE != 2) fun u =>
    let v := u.rampDomains
    if v.heldOff d || v.domOn d || thas v.thm.ramp d then v
    else { v with thm := { v.thm with wait := tset v.thm.wait d use } }.rampDomains

/-- The slice serves a forming pass that runs, or a scan output (Table GEN-21). -/
def State.sliceUsed (s : State) (k : Nat) : Bool :=
  (List.range outputs).any (fun o =>
    let e := cutEntry (s.sec secCmpCut 0) o
    e.exists_ && !e.follower && decide (e.first ≤ k) && decide (k < e.first + e.slices) &&
      (decide (arrayOutputs ≤ o) || (s.passesOf o).any (fun (p : Pass) => p.running && !p.complete)))

/-- The off condition of Table GEN-21. -/
def State.offCondition (s : State) (d : Nat) : Bool :=
  if d < 144 then s.laneRole d == 0
  else if d < 152 then s.get MEM_STATUS.SR_STATE == 2
  else if d < 186 then (List.range 8).all (fun j =>
    let x := s.tile (8 * (d - domTiles) + j)
    x.fenced || (x.logical.isNone && !x.spare))
  else if d < 202 then !s.sliceUsed (d - 186)
  else if d < 210 then !bitAt (s.get PLN_STATUS.BANKS_ON) (d - 202)
  else if d < 214 then !s.engineExists (d - 210) || s.engineState (d - 210) == enOff
  else if d < 218 then !bitAt (lxsPorts s.lxsCfg) (d - 214)
  else s.heldOff d

def State.domKept (s : State) (d : Nat) : Bool := bitAt (s.rdN (THM_DOM_KEEP (d / 32))) (d % 32) && !s.heldOff d

/-- DOMAIN_OFF (R396): the off condition of domain d has held for 10 us. -/
def doDomainOff (dt d : Nat) (s : State) : State :=
  let t := s.tick dt
  t.onLiveIf (decide (d < domains)) fun u =>
    let v := u.rampDomains
    if v.offCondition d && !v.domKept d && v.domOn d then (v.setDomOn d false).mirrorDom d false else v

/-! ### Shutdown (R383 to R387) -/

abbrev sdDie : Nat := 1
abbrev sdSensor : Nat := 2
abbrev sdHbm0 : Nat := 3
abbrev sdPf : Nat := 5

/-- 126.0 °C, which stands for every reading under a sensor fault (R379). -/
abbrev faultReading : Int := 1008

def State.lastReading (s : State) : Int := (s.thm.temps.head?.map (·.2)).getD 0

/-- Forming passes and tails stop where they are; writeback frames are incomplete (Table THM-4 step 1, Table THM-5). -/
def State.stopForming (s : State) : State :=
  let hs := s.hosts
  let s1 := { s with
    cmp := { s.cmp with
      passes := []
      wb := s.cmp.wb.filterMap (fun (w : WbSt) => if w.applied then some { w with incomplete := true } else none) }
    pln := { s.pln with
      tailRunning := []
      tailPass := [] }
    hif := { s.hif with commits := s.hif.commits.map (fun (e : Nat × CommitSt) =>
      (e.1, { e.2 with admitted := false, decided := false, outputs := [] })) } }
  foldOver hs (fun o t => ((t.put (PLN_OUT_STATUS.TAIL o) 0).showForming o).showDrift o) s1

/-- The hardware class (R384): gates low, heartbeats stopped, scan engines dark, PARK on every port in RUN. -/
def State.hardwareClass (s : State) : State :=
  let s1 := { s with glb := { s.glb with hwClass := true } }
  s1.allGatesLow.hbUpdate.scanShutdown.parkAll

/-- The first steps of the orderly class (Table THM-4, steps 1 to 4). -/
def State.orderlyClass (s : State) : State :=
  let s1 := s.stopForming
  let s2 := if s1.reloadPending then s1.dropReload (plainFail 0x11) else s1
  s2.abortSessions.memShutdown.lxsDetach

/-- A cause of shutdown arises (R383): in shutdown it is only counted and reported. -/
def State.enterShutdown (s : State) (cause : Nat) : State :=
  let s0 := s.inc THM_SD.COUNT
  let r := uns 32 s0.lastReading
  if s0.get THM_STATUS.STATE = 1 ∨ s0.get THM_STATUS.STATE = 2 then s0.raise 0x0105 cause r (s0.get THM_SD.GRACE_US)
  else
    let s1 := ((((s0.put THM_STATUS.SD_CAUSE cause).wrN THM_SD_LFN s0.tim.lfn).put THM_SD.GRACE_US 0).putB THM_STATUS.GRACE_CUT false).put
      THM_STATUS.STATE 1
    let s2 := { (s1.put THM_CTRL.RESTART 0) with thm := { s1.thm with sdTime := s1.now } }
    (s2.raise 0x0105 cause r 0).hardwareClass.orderlyClass

/-- Every HBM3E byte that was written becomes a free value, and pages that were scrubbed wait again (R386, R84). -/
def State.loseMemory (s : State) : State :=
  let lost := foldOver (s.mem.dram.map (·.1)) (fun a (t : State) => (t.memWrite a [BitVec.ofNat 8 (t.freeVal 8)]).useFree) s
  (({ lost with hif := { lost.hif with pages := lost.hif.pages.filter (fun (e : Nat × Nat) => e.2 != 0) } }).put
    HIF_POOL_FREE.PAGES 0).put HIF_STATUS.SCRUB_BUSY 1

/-- Step 7 of Table THM-4: every switched domain but the host interface goes off. `cut` says that the fast-rise check
ended the grace; before step 3 is complete (100 us) the stacks lose their contents (R386). -/
def State.endGrace (s : State) (cut : Bool) : State :=
  let used := s.now - s.thm.sdTime
  let s1 := (((s.putSat THM_SD.GRACE_US ((used + usSteps - 1) / usSteps)).putB THM_STATUS.GRACE_CUT cut).stopStore).startupUndone
  let s2 := (if cut ∧ used < 100 * usSteps then s1.loseMemory else s1).memRest
  let s3 := foldOver (List.range 218) (fun d t => (t.setDomOn d false).mirrorDom d false)
    { s2 with
      thm := { s2.thm with
        wait := []
        ramp := [] }
      pln := { s2.pln with
        zeroed := false
        front := []
        back := [] }
      seq := { s2.seq with fab := [] }
      apt := { s2.apt with
        ready := []
        suppressed := []
        cuts := []
        loading := [] } }
  let s4 := s3.put PLN_STATUS.BANKS_ON 0
  let s5 := foldOver s4.activePorts (fun p t => t.enterPort p ptOff) s4
  let s6 := foldOver (List.range laneCount) (fun l t =>
    if t.laneState l == lnFenced || t.laneState l == lnOff then t else (t.setLane l LaneSt.init).setLaneState l lnOff) s5
  (foldOver ((List.range arrayOutputs).filter s6.outExists) (fun o t =>
    (t.put (PLN_OUT_STATUS.BACK_COMPLETE o) 0).put (PLN_OUT_STATUS.LEAD_VALID o) 0) s6).put THM_STATUS.STATE 2 |>.showLan

/-- Steps 3 to 6 of Table THM-4 are complete: memory and links are at rest, no store write runs and no event waits to be
written. -/
def State.graceDone (s : State) : Bool :=
  (!s.flag MEM_STATUS.TRAINED || s.get MEM_STATUS.SR_STATE == 2) && s.cal.write.isNone && s.int.held.isEmpty

/-- GRACE_END (R385): at 5 ms, or earlier when steps 3 to 6 are complete. -/
def doGraceEnd (dt : Nat) (s : State) : State :=
  let t := s.tick dt
  t.onLiveIf (t.get THM_STATUS.STATE == 1 && (decide (t.thm.sdTime + 5 * msSteps ≤ t.now) || t.graceDone)) (fun u => u.endGrace false)

/-- The fast-rise projection reaches 130.0 °C (R386): the latest reading plus the slope of the last 4 readings times the
grace that remains. Four readings are needed for a slope over 4 readings. -/
def State.fastRise (s : State) : Bool :=
  match s.thm.temps with
  | [a, _, _, d] =>
    let span : Int := (a.1 : Int) - d.1
    let left : Int := ((s.thm.sdTime + 5 * msSteps - s.now : Nat) : Int)
    decide (0 < span) && decide (1040 * span ≤ a.2 * span + (a.2 - d.2) * left)
  | _ => false

/-- The check of R386, not made under a sensor fault. -/
def State.fastRiseCheck (s : State) : State :=
  if s.get THM_STATUS.STATE = 1 ∧ !s.flag THM_STATUS.SENSOR_FAULT ∧ s.fastRise then s.endGrace true else s

/-! ### Restart (R389, R390) -/

/-- The restart begins (R390): the image's domains, the stacks, and start-up's steps after the image load. The hardware
class stays until start-up completes. -/
def State.beginRestart (s : State) (automatic : Bool) : State :=
  let s1 := if automatic then { s with thm := { s.thm with restarts := s.now :: s.thm.restarts } } else s
  let s2 := (((s1.put THM_CTRL.RESTART 0).putB THM_STATUS.RESTART_BLOCKED false).putSat THM_RESTART.RECENT s1.thm.restarts.length).inc
    THM_RESTART.TOTAL
  let s3 := (s2.put THM_STATUS.STATE 3).raise 0x0106 (s2.get THM_RESTART.RECENT) 0 0
  let s4 := { s3 with
    glb := { s3.glb with booting := true }
    mem := { s3.mem with refusing := false } }
  if !s4.cfg.imageRunning then s4
  else
    let b := s4.sec secPlaneMap 0
    let s5 := s4.put PLN_STATUS.BANKS_ON (maskOf 8 (fun j => (List.range 16).any (fun o => pmMode b o != 0 && bitAt (pmBanks b o) j)))
    let s6 := s5.powerTiles.powerImage
    let s7 := if s6.get MEM_STATUS.SR_STATE = 2 then s6.wakeStacks (s6.get MEM_SR_STATUS.LAST_WAKE) else s6
    s7.startParts.showLan

/-- The limit of automatic restarts holds: fewer than 3 in the last 3,600 s, and not blocked (R389). -/
def State.autoRestartOk (s : State) : Bool :=
  s.flag THM_CTRL.AUTO_RESTART && !s.flag THM_STATUS.RESTART_BLOCKED && decide (s.thm.restarts.length < 3)

/-- The check of R389 at a reading. -/
def State.restartCheck (s : State) : State :=
  let s1 := { s with thm := { s.thm with
    restarts := s.thm.restarts.filter (fun r => decide (s.now < r + 3600 * secSteps)) } }
  let s2 := s1.putSat THM_RESTART.RECENT s1.thm.restarts.length
  if s2.get THM_STATUS.STATE ≠ 2 ∨ s2.now < s2.thm.sdTime + 10 * secSteps ∨ s2.thm.cool < 1000 ∨ s2.flag THM_STATUS.SENSOR_FAULT then s2
  else if s2.flag THM_CTRL.RESTART then s2.beginRestart false
  else if s2.autoRestartOk then s2.beginRestart true
  else if s2.flag THM_CTRL.AUTO_RESTART then s2.putB THM_STATUS.RESTART_BLOCKED true
  else s2

/-- At the boundary at which start-up completes in a restart (R390): the hardware class is released and every existing
output starts a pass from its active state. -/
def State.restartDone (s : State) : State :=
  let s1 := ({ s with glb := { s.glb with hwClass := false } }.put THM_STATUS.STATE 0).startupDone
  foldOver s1.hosts (fun o t => t.askPass .restart [] o) s1

/-! ### Conversions (R378 to R382) -/

/-- Lower edges of bands B1 to B5 in 1/8 °C (Table THM-2). -/
def bandEdge (b : Nat) : Int := nthD [-100000, 0, 360, 680, 800, 880] b 0

/-- The band that a reading places the die in (R380). -/
def dieBand (band : Nat) (r : Int) : Nat :=
  let up := (idxWhere 6 (fun k => decide (bandEdge k ≤ r))).foldl max 0
  let hold := (idxWhere 6 (fun k => decide (k ≤ band) && decide (bandEdge k - 24 ≤ r))).foldl max 0
  if band ≤ up then up else max up hold

/-- Which check of Table THM-1 fails at a conversion: `check` is what the analogue checks 1 to 3 found, `raw` the raw code,
and a reading is compared with the one before it. -/
def State.sensorCheck (s : State) (check : Nat) (reading : Option Int) : Nat :=
  if 1 ≤ check ∧ check ≤ 3 then check
  else if (match reading, s.thm.meas with
    | some a, some b => decide (160 < (a - b).natAbs)
    | _, _ => false) then 4
  else if s.thm.same.length = 2000 ∧ s.thm.same.foldl min (s.get THM_PWR.PACKAGE) + 100 ≤ s.thm.same.foldl max 0 then 5
  else 0

/-- The last 2,000 conversions without a new raw code, with the package estimate at each (check 5). -/
def State.trackRaw (s : State) (raw : Nat) : State :=
  let p := s.get THM_PWR.PACKAGE
  if s.thm.same ≠ [] ∧ s.get THM_SENSOR.RAW = raw % 65536 then
    { s with thm := { s.thm with same := p :: s.thm.same.take 1999 } }
  else { s with thm := { s.thm with same := [p] } }.put THM_SENSOR.RAW raw

/-- A sensor fault latches (R379). -/
def State.sensorFault (s : State) (k : Nat) : State :=
  let s1 := { s with thm := { s.thm with lastFail := s.now } }
  if s1.flag THM_STATUS.SENSOR_FAULT then s1
  else (((s1.put THM_SENSOR.FAULT k).incSat THM_SENSOR.FAULTS 1).putB THM_STATUS.SENSOR_FAULT true).raise 0x0104 k 0 0

/-- CLEAR_FAULT takes effect once every check has passed for 1 s (R379). -/
def State.clearFault (s : State) : State :=
  if !s.flag THM_CTRL.CLEAR_FAULT then s
  else if !s.flag THM_STATUS.SENSOR_FAULT then s.put THM_CTRL.CLEAR_FAULT 0
  else if s.thm.lastFail + secSteps ≤ s.now then
    ((s.put THM_CTRL.CLEAR_FAULT 0).put THM_SENSOR.FAULT 0).putB THM_STATUS.SENSOR_FAULT false
  else s

/-- A reading is used: temperature, peak, band, warning and the DIE throttle source (R380 to R382). -/
def State.useReading (s : State) (r : Int) : State :=
  let first := s.thm.temps.isEmpty
  let s1 := { s with thm := { s.thm with
    temps := (s.now, r) :: s.thm.temps.take 3
    cool := if r < 800 then s.thm.cool + 1 else 0 } }
  let peak := if first then r else max r (s1.getSgn THM_TEMP.PEAK)
  let s2 := (s1.put THM_TEMP.TEMP (uns 16 r)).put THM_TEMP.PEAK (uns 16 peak)
  let b := dieBand (s2.get THM_STATUS.BAND) r
  let s3 := if b = s2.get THM_STATUS.BAND then s2
    else ((s2.put THM_STATUS.BAND b).put LAN_STATUS.BAND b).raise 0x0101 b (uns 32 r) 0
  let warn := s3.flag THM_STATUS.WARN
  let s4 := if !warn ∧ 800 ≤ r then (s3.putB THM_STATUS.WARN true).raise 0x0102 1 (uns 32 r) 0
    else if warn ∧ r < 760 then (s3.putB THM_STATUS.WARN false).raise 0x0102 0 (uns 32 r) 0
    else s3
  if 880 ≤ r then s4.setSource thrDie true else if r < 840 then s4.setSource thrDie false else s4

/-- The causes DIE and SENSOR (R383): in shutdown a cause counts where it newly arises. -/
def State.dieCauses (s : State) (before : Int) (faultBefore : Bool) : State :=
  let fault := s.flag THM_STATUS.SENSOR_FAULT
  let sd := s.get THM_STATUS.STATE == 1 || s.get THM_STATUS.STATE == 2
  if fault then (if sd ∧ faultBefore then s else s.enterShutdown sdSensor)
  else if 1000 ≤ s.lastReading then (if sd ∧ 1000 ≤ before then s else s.enterShutdown sdDie)
  else s

/-- What one conversion does: `reading` is none where the on-die reference is converted in place of the diode (check 3). -/
def State.convert (s : State) (raw : Nat) (reading : Option Int) (check : Nat) : State :=
  let before := s.lastReading
  let faultBefore := s.flag THM_STATUS.SENSOR_FAULT
  let s1 := if reading.isSome then s.trackRaw raw else s
  let k := s1.sensorCheck check reading
  let s2 := if k = 0 then s1 else s1.sensorFault k
  let s3 := if reading.isSome then { s2 with thm := { s2.thm with meas := reading } } else s2
  let s4 := s3.clearFault
  let used := if s4.flag THM_STATUS.SENSOR_FAULT then some faultReading else reading
  match used with
  | none => s4.rampDomains
  | some r => ((((s4.useReading r).dieCauses before faultBefore).fastRiseCheck).restartCheck).rampDomains

/-- A conversion is due: 1 ms after the last one (R378). -/
def State.convDue (s : State) : Bool := s.thm.convAt.all (fun c => decide (c + msSteps ≤ s.now))

/-- The instant of a conversion. -/
def State.noteConv (s : State) : State := { s with thm := { s.thm with convAt := some s.now } }

/-- THM_CONVERSION (R378): once every 1 ms. The converter runs while RESET_N holds the device in reset, and a reading at or
above 125.0 °C keeps the hardware class; power-on reset stops it. Readings are in 1/8 °C from −40 °C to 150 °C. -/
def doThmConversion (dt raw : Nat) (reading : Option Int) (check : Nat) (s : State) : State :=
  let t := s.tick dt
  let r := reading.map (clampI (-320) 1200)
  if !t.convDue ∨ (t.glb.held ∧ !t.glb.pwrOk) then t
  else
    let u := t.noteConv
    if !u.glb.held then u.convert raw r check
    else if r.any (fun x => decide (1000 ≤ x)) then { u with glb := { u.glb with hwClass := true } }
    else u

/-! ### Commands (R379, R382, R383, R389) -/

/-- THM_RESTART_REQUEST (R389): RESTART holds until the restart begins. -/
def doThmRestartRequest (dt : Nat) (s : State) : State := (s.tick dt).onLive (fun t => t.put THM_CTRL.RESTART 1)

/-- THM_FORCE_SHUTDOWN (R383): the bit clears itself. -/
def doThmForceShutdown (dt : Nat) (s : State) : State := (s.tick dt).onLive (fun t => (t.put THM_CTRL.FORCE_SHUTDOWN 0).enterShutdown sdPf)

/-- THM_FORCE_THROTTLE (R382). -/
def doThmForceThrottle (dt : Nat) (on : Bool) (s : State) : State :=
  (s.tick dt).onLive (fun t => (t.putB THM_CTRL.FORCE_THROTTLE on).setSource thrPf on)

/-- THM_CLEAR_FAULT (R379). -/
def doThmClearFault (dt : Nat) (s : State) : State := (s.tick dt).onLive (fun t => (t.put THM_CTRL.CLEAR_FAULT 1).clearFault)

/-! ### Stack temperatures (R121, R382, R383) -/

/-- The throttle source and the shutdown cause of a stack's band. -/
def State.stackCauses (s : State) (st before : Nat) : State :=
  let b := s.get (MEM_STACK_TEMP.BAND st)
  let sd := s.get THM_STATUS.STATE == 1 || s.get THM_STATUS.STATE == 2
  let s1 := s.setSource (thrStack0 + st) (decide (3 ≤ b))
  if 4 ≤ b ∧ !(sd ∧ 4 ≤ before) then s1.enterShutdown (sdHbm0 + st) else s1

/-- STACK_TEMP_READ (R121): 1 ms after the stack's last reading, and once after the stacks have slept; a reading in °C, or none
where the readout failed; 3 failures in a row act as S4. -/
def doStackTempRead (dt st : Nat) (reading : Option Int) (s : State) : State :=
  let t := s.tick dt
  t.onLiveIf (decide (st < 2) && t.flag MEM_STATUS.TRAINED && t.get MEM_STATUS.SR_STATE == 0 &&
      (t.mem.tempNeed.contains st || decide (tget 0 t.mem.tempAt st + msSteps ≤ t.now))) fun u0 =>
    let u := { u0 with mem := { u0.mem with
      tempNeed := u0.mem.tempNeed.filter (fun k => k != st)
      tempAt := tset u0.mem.tempAt st u0.now } }
    let before := u.get (MEM_STACK_TEMP.BAND st)
    match reading with
    | some v =>
      let b := stackBand before v
      let u1 := ((u.put (MEM_STACK_TEMP.TEMP st) (uns 8 v)).put (MEM_STACK_TEMP.BAND st) b).put
        (MEM_STACK_TEMP.READ_FAIL st) 0
      { u1 with mem := { u1.mem with tempFails := tset u1.mem.tempFails st 0 } }.stackCauses st before
    | none =>
      let n := tget 0 u.mem.tempFails st + 1
      let u1 := (u.put (MEM_STACK_TEMP.READ_FAIL st) 1)
      let u2 := { u1 with mem := { u1.mem with tempFails := tset u1.mem.tempFails st n } }
      if 3 ≤ n then (u2.put (MEM_STACK_TEMP.BAND st) 4).stackCauses st before else u2

/-! ### THM at a boundary -/

/-- Order 3 (R382): changes raised at least 20 us before the boundary. -/
def State.throttleBoundary (s : State) : State :=
  let due := s.thm.throttle.filter (fun e => decide (e.1 + 20 * usSteps ≤ s.now))
  let s1 := { s with thm := { s.thm with
    throttle := s.thm.throttle.filter (fun e => !decide (e.1 + 20 * usSteps ≤ s.now)) } }
  match due.getLast? with
  | none => s1
  | some e => (s1.setThrottle e.2).putB THM_STATUS.THROTTLE e.2

/-- A new gate trim set takes effect at the first boundary after the band change (R380). -/
def State.trimBoundary (s : State) : State := { s with thm := { s.thm with trimSet := s.get THM_STATUS.BAND } }

/-- Words of snapshot group 0x08 (Table THM-18). -/
def State.thmSnap (s : State) : List Nat :=
  [s.rdN THM_STATUS, s.rdN THM_TEMP, s.rdN THM_THROTTLE, s.rdN THM_SD, s.rdN THM_PWR, s.rdN THM_PWR_HBM] ++
    (List.range 7).map (fun k => s.rdN (THM_DOM_ON k))

end Sys2Proof.Machine
end

