-- ==== Sys2Proof/Machine/Int.lean ====
section
/-! DEFINITION. INT and the shared reads: expectations and comparisons of rectangles (R423 to R425), events delivered by a
block (R428), the summaries of suppressed events (R430), what a register reads (R9, R59), and the snapshot (R57, R58). -/
namespace Sys2Proof.Machine

/-! ### Rectangles (R423 to R425) -/

/-- CRC_ARM (R424): a write of EXP_CFN latches EXPECT and EXP_CFN and arms the pair. -/
def doCrcArm (dt o r cfn : Nat) (s : State) : State :=
  let t := s.tick dt
  t.onLiveIf (decide (o < outputs) && decide (r < 20)) fun u =>
    let v := u.wrN (rectReg o r 0x10) cfn
    (v.setRect o r { v.rect o r with
      armed := true
      armTime := v.now
      expect := v.rdN (rectReg o r 0x0C)
      expCfn := cfn % 2 ^ 32 }).put ⟨rectReg o r 0x1C, 7, 7⟩ 1

/-- A write changed CTRL, XY or WH (R423, R424, R425): there is no result until the next pass that starts afterwards has
applied, and a cleared EN disarms. -/
def State.rectChanged (s : State) (o r : Nat) : State :=
  let x := s.rect o r
  let off := s.rdN (rectCtrl o r) % 2 == 0
  let s1 := s.setRect o r { x with
    hasResult := false
    armed := x.armed && !off }
  (if off then s1.put ⟨rectReg o r 0x1C, 7, 7⟩ 0 else s1).showRect o r

/-- The comparison of one rectangle at a boundary at which a CF starts (R425): `cfn` is the CFN in force before it. -/
def State.crcCompareOne (s : State) (o r cfn : Nat) : State :=
  let x := s.rect o r
  if s.rdN (rectCtrl o r) % 2 = 0 then s
  else
    let res := s.rdN (rectReg o r 0x14)
    let due := x.armed && decide (x.armTime + 20 * usSteps ≤ s.now) && x.expCfn == cfn
    let last := if !x.hasResult then 4 else if !due then 3 else if x.expect = res then 1 else 2
    let s1 := (s.put ⟨rectReg o r 0x1C, 6, 4⟩ last).put ⟨INT_CRC_SUM o, r, r⟩ (boolNat (last == 2))
    if last ≠ 2 then s1
    else
      let a0 := if r < 16 then o else 0x100 + o
      (s1.inc ⟨rectReg o r 0x1C, 31, 16⟩).raiseB 0x1001 a0 (r % 16 + 65536 * (cfn % 65536)) res

def State.crcCompare (s : State) (o : Nat) : State :=
  let cfn := s.rdN (TIM_OUT_CFN o)
  foldOver (s.rectsOf o) (fun r t => t.crcCompareOne o r cfn) s

/-! ### Events (R428, R430) -/

/-- The codes of Table INT-4: source × 2^8 + number, by source the last number. -/
def codeKnown (c : Nat) : Bool :=
  decide (1 ≤ c % 256) && decide (c % 256 ≤ nthD [0, 6, 6, 7, 3, 6, 4, 3, 8, 4, 4, 5, 4, 2, 6, 6, 3, 1] (c / 256) 0)

/-- EVENT_RAISED (R428): a block delivers an event with the stamp of its detection; `ctx` is the context concerned or
0xFFFF, and for an event marked writer the context that made the access. -/
def doEventRaised (dt code ctx a0 a1 a2 : Nat) (s : State) : State :=
  let t := s.tick dt
  t.onLiveIf (codeKnown code) (fun u => u.deliver (u.mkEvent code (ctx % 65536) a0 a1 a2) (ctx % 65536))

/-- At a boundary one summary for each code and queue of the LF that ended, and the rates begin afresh (R430). -/
def State.rateBoundary (s : State) : State :=
  let sup := s.int.suppressed.filter (fun e => !bitAt (tget 0 s.int.codeCtrl (e.1 % 65536)) 0)
  let s1 := { s with int := { s.int with
    rateUsed := []
    suppressed := [] } }
  foldOver sup (fun e t =>
    let q := e.1 / 65536
    let ev := { t.mkEvent 0x1002 q (e.1 % 65536) e.2 0 with
      phase := 0
      systime := t.sysAt (t.tim.lfStart16 / 65536) }
    let u := { t with int := { t.int with codeCount := tmod 0 t.int.codeCount 0x1002 (fun n => (n + 1) % 2 ^ 32) } }
    u.passEvent (if q = devQ ∨ u.ctxTakesEvents q then q else devQ) ev) s1

/-! ### What a register reads (R9, R57, R59) -/

/-- Word k of the log entry that INT_LOG_SEL shows (Table INT-7). -/
def State.logWord (s : State) (k : Nat) : Nat :=
  match tfind s.int.log (s.get INT_LOG_SEL.INDEX) with
  | none => 0
  | some e => leAt e.bytes (4 * k) 4

/-- The value that a read of a register returns: windows and live registers show what they stand for, HIF_CTX_STATUS.EXISTS
whether the context exists (R81), and the next read of the upper half of a pair what the last read of its lower half
latched. -/
def State.readReg (s : State) (a : Nat) : Word :=
  if a = GLB_SYSTIME_LO then BitVec.ofNat 32 s.sysNow
  else if a = GLB_SYSTIME_HI then (if s.glb.sysRead then BitVec.ofNat 32 s.glb.sysHi else 0)
  else if a = GLB_LFN_LATCHED then (if s.glb.sysRead then BitVec.ofNat 32 s.glb.sysLfn else 0)
  else if a = GLB_PHASE_LATCHED then (if s.glb.sysRead then BitVec.ofNat 32 s.glb.sysPhase else 0)
  else if 0x1000 ≤ a ∧ a < 0x2000 then
    (if s.get GLB_SNAP_STATUS.STATE = snapReady then BitVec.ofNat 32 (nthD s.glb.snapWords ((a - 0x1000) / 4) 0) else 0)
  else if MTR_MB_DATA 0 ≤ a ∧ a ≤ MTR_MB_DATA 511 then BitVec.ofNat 32 (leAt s.mtr.mbData (a - MTR_MB_DATA 0) 4)
  else if ctxBase ≤ a ∧ 0x60 ≤ (a - ctxBase) % 0x10000 ∧ (a - ctxBase) % 0x10000 ≤ 0x6C then
    s.rd (HIF_CTX_LIMITS_0 ((a - ctxBase) / 0x10000) + (a - ctxBase) % 0x10000 - 0x60)
  else if INT_LOG_DATA 0 ≤ a ∧ a ≤ INT_LOG_DATA 7 then BitVec.ofNat 32 (s.logWord ((a - INT_LOG_DATA 0) / 4))
  else if a = INT_CODE_CTRL then BitVec.ofNat 32 (tget 0 s.int.codeCtrl (s.get INT_CODE_SEL.CODE))
  else if a = INT_CODE_COUNT then BitVec.ofNat 32 (tget 0 s.int.codeCount (s.get INT_CODE_SEL.CODE))
  else if a = MEM_STATUS then BitVec.ofNat 32 s.memStatusNow
  else if MEM_ENG_STATUS 0 ≤ a ∧ a ≤ MEM_ENG_STATUS 47 then
    BitVec.ofNat 32 (setBits (s.rdN a) 15 0 (s.tolNow ((a - MEM_ENG_STATUS 0) / 4)))
  else if (idxIn a (APT_PORT_CFG 0) 0x40 16).any (fun p => a == APT_PORT_TEMP p) then
    BitVec.ofNat 32 (setBits (s.rdN a) 31 24 (s.tempAge ((a - APT_PORT_CFG 0) / 0x40)))
  else if ctxBase ≤ a ∧ (a - ctxBase) % 0x10000 = 4 then
    s.rd a ||| BitVec.ofNat 32 (boolNat (s.ctxExists ((a - ctxBase) / 0x10000)))
  else match tfind s.glb.latchHi (a - 4) with
    | some w => if 4 ≤ a then w else s.rd a
    | none => s.rd a

/-- A read of MEM_CTL_k_REFRESH: MAX_OWED begins afresh with what is owed now. -/
def State.owedRead (s : State) (k : Nat) : State :=
  s.put (MEM_CTL_REFRESH.MAX_OWED k)
    (min 15 (((List.range 64).filter (fun p => pcController p == k)).foldl (fun m p => max m (s.pcState p).owed) 0))

/-- What a 32-bit read of a register sets off: the lower register of a pair latches the upper half, whose next read returns it
and ends the latch (R9); GLB_SYSTIME_LO latches time (R59); THM_TEMP and the fields of MEM that hold what was since the last
read begin afresh (Tables THM-14, MEM-8, MEM-12, MEM-13). -/
def State.readEffect (s : State) (a : Nat) : State :=
  if a = GLB_SYSTIME_LO then s.latchSystime
  else if (lookupReg a).any (·.pairLow) then { s with glb := { s.glb with latchHi := tset s.glb.latchHi a (s.rd (a + 4)) } }
  else if a = THM_TEMP then s.put THM_TEMP.PEAK (s.get THM_TEMP.TEMP)
  else if a = MEM_INFLIGHT then s.put MEM_INFLIGHT.PEAK (s.get MEM_INFLIGHT.NOW)
  else if MEM_ENG_STATUS 0 ≤ a ∧ a ≤ MEM_ENG_STATUS 47 then s.put (MEM_ENG_STATUS.STALE ((a - MEM_ENG_STATUS 0) / 4)) 0
  else if (idxIn a (MEM_CTL_REFRESH 0) 0x20 8).any (fun k => a == MEM_CTL_REFRESH k) then
    s.owedRead ((a - MEM_CTL_REFRESH 0) / 0x20)
  else if 4 ≤ a ∧ thas s.glb.latchHi (a - 4) then { s with glb := { s.glb with latchHi := tdel s.glb.latchHi (a - 4) } }
  else s

/-! ### The snapshot (R57, R58) -/

def State.timSnap (s : State) : List Nat :=
  [s.tim.lfn, s.rdN TIM_DPLL_STATUS, s.rdN TIM_REF_STATUS] ++ (List.range 20).map (fun o => s.rdN (TIM_OUT_CFN o)) ++
    (List.range 20).map (fun o => s.rdN (TIM_OUT_REPEATS o)) ++ (List.range 4).map (fun n => s.rdN (TIM_SHUT_STATUS n)) ++
    [s.rdN TIM_LF_PERIOD]

def State.plnSnap (s : State) : List Nat :=
  [s.rdN PLN_STATUS, s.rdN PLN_ECC] ++ (List.range 16).map (fun o => s.rdN (PLN_OUT_STATUS o)) ++
    (List.range 16).map (fun o => s.rdN (PLN_OUT_TIMING o))

def State.memSnap (s : State) : List Nat :=
  [s.memStatusNow, s.rdN MEM_INFLIGHT, s.rdN (MEM_STACK_TEMP 0), s.rdN (MEM_STACK_TEMP 1)] ++
    (List.range 8).map (fun k => s.rdN (MEM_CTL_REFRESH k)) ++ (List.range 8).map (fun k => s.rdN (MEM_CTL_ECC k)) ++
    (List.range 48).map (fun e => s.rdN (MEM_ENG_MISSES e))

def State.cmpSnap (s : State) : List Nat :=
  s.rdN CMP_FORMING :: ((List.range 20).map (fun o => s.rdN (CMP_OUT_STATUS o)) ++ (List.range 20).map (fun o => s.rdN (CMP_OUT_UNDERRUNS o)) ++
    (List.range 20).map (fun o => s.rdN (CMP_OUT_WB_CFN o)) ++ [s.rdN CMP_FBC_ERRORS, s.rdN CMP_DROP_STATUS])

def State.colSnap (s : State) : List Nat :=
  s.rdN COL_STATUS :: ((List.range 6).map (fun p => s.rdN (COL_PRIM_LOOP p)) ++ (List.range 6).map (fun p => s.rdN (COL_PRIM_LIGHT p)) ++
    (List.range 6).map (fun p => s.rdN (COL_PRIM_XY p)) ++ (List.range 20).map (fun o => s.rdN (COL_OUT_STATUS o)))

def State.intSnap (s : State) : List Nat :=
  [s.rdN INT_STATUS, s.rdN INT_DROPS, s.rdN INT_SUPPRESSED, s.rdN INT_LOG_STATUS] ++
    (List.range 20).map (fun o => s.rdN (INT_CRC_SUM o))

/-- The words of a snapshot group (Table GLB-1); a group with no identity in the table has none. -/
def State.snapGroup (s : State) (g : Nat) : Option (List Nat) :=
  match g with
  | 1 => some s.timSnap
  | 2 => some s.seqSnap
  | 3 => some s.aptSnap
  | 4 => some s.plnSnap
  | 5 => some s.lmpSnap
  | 6 => some s.scanSnap
  | 7 => some s.memSnap
  | 8 => some s.thmSnap
  | 9 => some s.lxsSnap
  | 10 => some s.lanSnap
  | 11 => some s.intSnap
  | 12 => some s.cmpSnap
  | 13 => some s.colSnap
  | 14 => some s.calSnap
  | _ => none

/-- Groups in ascending identity until 1,024 words with the header are full; whether one was left out (R58). -/
def snapFit : List (Nat × List Nat) → Nat → List (Nat × List Nat) × Bool
  | [], _ => ([], false)
  | g :: r, used =>
    if 1024 < used + 1 + g.2.length then ([], true)
    else
      let q := snapFit r (used + 1 + g.2.length)
      (g :: q.1, q.2)

/-- The buffer of Table GLB-2. -/
def snapBuffer (lfn systime : Nat) (gs : List (Nat × List Nat)) : List Nat :=
  let n := gs.length
  let offs := (List.range n).map (fun k => 4 + n + listSum ((gs.take k).map (fun (g : Nat × List Nat) => g.2.length)))
  [lfn, systime % 2 ^ 32, systime / 2 ^ 32, n] ++
    (gs.zip offs).map (fun (e : (Nat × List Nat) × Nat) => e.1.1 * 2 ^ 24 + e.2 * 2 ^ 12 + e.1.2.length) ++
    gs.flatMap (fun (g : Nat × List Nat) => g.2)

/-- The last act of a boundary: an armed snapshot latches at its target, and misses a target that is passed (R57, R58). The
groups are those that GLB_SNAP_SEL names at that boundary, so a write of it after ARM changes them (DESIGN CHOICE, log 120). -/
def State.snapshotBoundary (s : State) : State :=
  if s.get GLB_SNAP_STATUS.STATE ≠ snapArmed then s
  else if s.glb.snapNext ∨ s.glb.snapTarget = s.tim.lfn then
    let sel := s.rdN GLB_SNAP_SEL
    let gs := (idxWhere 16 (fun g => decide (1 ≤ g) && bitAt sel g)).filterMap (fun g => (s.snapGroup g).map (fun w => (g, w)))
    let fit := snapFit gs 4
    ((({ s with glb := { s.glb with
      snapWords := snapBuffer s.tim.lfn (s.sysAt (s.tim.lfStart16 / 65536)) fit.1
      snapTime := s.now } }.put GLB_SNAP_STATUS.STATE snapLatching).putB GLB_SNAP_STATUS.TRUNC fit.2).put GLB_SNAP_CTRL.ARM 0).wrN
        GLB_SNAP_LFN s.tim.lfn
  else if lfnAfter s.glb.snapTarget s.tim.lfn then s
  else ((s.put GLB_SNAP_STATUS.STATE snapMissed).put GLB_SNAP_CTRL.ARM 0).raiseB 0x1003 0 s.glb.snapTarget 0

end Sys2Proof.Machine
end

