-- ==== Sys2Proof/Machine/Reset.lean ====
section
/-! DEFINITION. Loss and return of the host (R101 to R107), and reset and boot of the main die (R66 to R68, R434 to R440, R445). -/
namespace Sys2Proof.Machine

/-! ### Layers that read HOST mappings (R104) -/

/-- Byte ranges, as address and length, of a plane's elements from (ax, ay) to (bx, by). -/
def Surface.rows (f : Surface) (pl : Plane) (ax ay bx by_ : Nat) : List (Nat × Nat) :=
  if f.fbc then
    let tx := divUp (f.planeW pl) 16
    let slot := fbcSlot f.fmt pl
    (List.range (by_ / 4 + 1 - ay / 4)).flatMap (fun j =>
      let t := (ay / 4 + j) * tx + ax / 16
      let n := bx / 16 + 1 - ax / 16
      [((f.fbcBase pl).1 + 16 * t, 16 * n), ((f.fbcBase pl).2 + slot * t, slot * n)])
  else
    let n := elemBytes f.fmt pl
    let k := if pl = .chroma then 1 else 0
    (List.range (by_ + 1 - ay)).map (fun j => (nthD f.addr k 0 + (ay + j) * nthD f.stride k 0 + ax * n, (bx + 1 - ax) * n))

/-- The byte ranges that a layer's crop reads. -/
def State.layerReads (s : State) (n : Nat) : List (Nat × Nat) :=
  let f := s.surface [] n
  let x := s.actGet (CMP_LYR_CROP_XY.X n)
  let y := s.actGet (CMP_LYR_CROP_XY.Y n)
  let bx := x + s.cropW [] n - 1
  let by_ := y + s.cropH [] n - 1
  if fmtPlanar f.fmt then
    f.rows .luma x y bx by_ ++ f.rows .chroma (x / 2) (f.chromaRows y by_).1 (min ((bx + 1) / 2) (f.planeW .chroma - 1))
      (f.chromaRows y by_).2
  else f.rows .packed x y bx by_

/-- Whether a layer reads a HOST mapping of its context. -/
def State.readsHost (s : State) (n : Nat) : Bool :=
  match s.holder n with
  | none => false
  | some c =>
    let pages := (s.hif.maps.filter (fun (e : Nat × Mapping) => e.2.kind == .host && e.1 / 2 ^ 28 == c)).map (fun e => e.1 % 2 ^ 28)
    !pages.isEmpty && (s.layerReads n).any (fun r => pages.any (fun p =>
      decide (r.1 < (p + 1) * 65536) && decide (p * 65536 < r.1 + r.2)))

/-- HOST layers of a function go off on the outputs that fetch (R104, R162); `lines` gives, by output, the line that its
slices have reached. -/
def State.dropHostLayers (s : State) (f : Nat) (lines : List Nat) : State :=
  let ns := idxWhere 256 (fun n => (s.holder n).any (fun c => c / 4 == f) && s.readsHost n)
  foldOver ns (fun n t =>
    match (t.spans [] n).find? t.fetches with
    | none => t
    | some o => t.layerOff n o (min (nthD lines o 0) (t.outH o - 1)) offHostLost false) s

/-! ### Master enable (R104) -/

/-- MASTER_ENABLE_CLEAR: no new request of function f, its HOST layers go off, and a host read by CFG ends (R73). -/
def doMasterEnableClear (dt f : Nat) (lines : List Nat) (s : State) : State :=
  let t := s.tick dt
  t.onLiveIf (t.fnEnabled f && t.flag (HIF_FN_STATUS.ME f)) fun u =>
    let u1 := ((u.put (HIF_FN_STATUS.ME f) 0).toggleGen f).raise 0x0F04 f 3 0
    let u2 := (u1.dropHostLayers f lines).showHeld f
    if f = 0 then u2.hostReadFails else u2

/-- MASTER_ENABLE_SET: held events may be written again, and requests that wait go out. -/
def doMasterEnableSet (dt f : Nat) (s : State) : State :=
  let t := s.tick dt
  t.onLiveIf (t.fnEnabled f && t.flag HIF_STATUS.LINK_UP) (fun u => ((u.put (HIF_FN_STATUS.ME f) 1).showHeld f).pumpHost)

/-! ### Context reset and function-level reset (R105) -/

/-- A context's reset begins: the engines that work for it toggle their generation (R110), and every output that its layers span
asks for a pass without them. In a shutdown no pass runs. -/
def State.resetContext (s : State) (c : Nat) : State :=
  if s.hif.resetting.contains c then s
  else
    let s0 := s.toggleCtx c (fun _ => true)
    let s1 := { s0 with hif := { s0.hif with resetting := s0.hif.resetting ++ [c] } }
    let os := (idxWhere arrayOutputs (fun o => s1.outExists o && (s1.layersOf c).any (fun n => s1.takesPart [] n o)))
    if s1.get THM_STATUS.STATE ≠ 0 then s1 else foldOver os (fun o t => t.askPass .reset [] o) s1

/-- CONTEXT_RESET: RESET reads 1 until complete. -/
def doContextReset (dt c : Nat) (s : State) : State :=
  (s.tick dt).onReach fun t =>
    if !t.ctxExists c then t.accessEvent c (HIF_CTX_CTRL c) 5
    else (t.put (HIF_CTX_CTRL.RESET c) 1).resetContext c

/-- Keys of the context page of c. -/
def inCtxPage (c a : Nat) : Bool := decide (ctxBase + 0x10000 * c ≤ a) && decide (a < ctxBase + 0x10000 * (c + 1))

/-- A layer of a context that is reset goes off with cause RESET as its picture goes (R105, R162). -/
def State.resetOff (s : State) (c n : Nat) : State :=
  match (s.spans [] n).filter (fun o => !s.isOff n o) with
  | [] => s
  | o :: os =>
    let s1 := foldOver (o :: os) (fun p t => foldOver (t.withFollowers p) (fun q u => u.inc (CMP_OUT_UNDERRUNS.COUNT q)) t) s
    let s2 := s1.raiseCB 0x0B01 c n (o * 65536) offReset
    let tag := s2.actGet (CMP_LYR_CTRL.DROP_TAG n)
    if s2.actFlag (CMP_LYR_CTRL.COHERENT n) && tag != 0 then
      ((s2.takeDrop tag (s2.groupOf c) offReset false).inc CMP_DROP_STATUS.SENT).sendDrop tag (s2.groupOf c) offReset
    else s2

/-- Host accesses of a context that have not gone out never do (R105, step 1). -/
def State.dropWaiting (s : State) (c : Nat) : State :=
  let gone := fun (r : MemReq) => r.ctx == c && r.hostFn.isSome && !r.issued
  foldOver ((s.mem.reqs.filter gone).map (·.engine)).eraseDups (fun e t => t.showTags e)
    { s with mem := { s.mem with reqs := s.mem.reqs.filter (fun r => !gone r) } }

/-- What a reset takes from a context: its maps, deferred entries, ring, queue, windows, the exports of the pages it owned, and
the values of its page (R105, step 4). -/
def State.clearCtx (s : State) (c : Nat) (owned : List Nat) : State :=
  { s with
    hif := { s.hif with
      maps := s.hif.maps.filter (fun (e : Nat × Mapping) => e.1 / 2 ^ 28 != c)
      deferred := s.hif.deferred.filter (fun (d : Deferred) => d.ctx != c)
      cmdTail := tdel s.hif.cmdTail c
      queues := tdel s.hif.queues c
      resetting := s.hif.resetting.filter (fun k => k != c)
      winDemand := tdel s.hif.winDemand c
      lfDemand := tdel s.hif.lfDemand c
      overPrev := s.hif.overPrev.filter (fun k => k != c) }
    mem := { s.mem with exports := s.mem.exports.filter (fun (e : Nat × (Nat × Nat × Nat)) => !owned.contains e.2.2.2) }
    regs := s.regs.filter (fun (e : Nat × Word) => !inCtxPage c e.1)
    act := s.act.filter (fun (e : Nat × Word) => !inCtxPage c e.1) }

/-- A context's reset completes at a boundary (R105, step 4). -/
def State.finishReset (s : State) (c : Nat) : State :=
  let s1 := foldOver (s.layersOf c) (fun n t => (t.resetOff c n).dropLayer n) s
  let s2 := if thas s1.hif.commits c then s1.failCommit c cmFailed 2 true else s1
  let owned := s2.ownedPages c
  let s2 := s2.dropWaiting c
  let s3 := foldOver ((s2.hif.grants.filter (fun (e : Nat × Grant) => e.2.owner == c)).map (·.1)) (fun h t => t.endGrant h) s2
  (foldOver owned (fun p t => t.queueScrub p) (s3.clearCtx c owned)).showHeld (c / 4)

/-- Functions whose FLR bit stands. -/
def State.flrFns (s : State) : List Nat :=
  ((tkeys s.regs).filterMap (fun a => idxIn a (HIF_FN_STATUS 0) 0x10 256)).filter (fun f =>
    (HIF_FN_STATUS 0 + 0x10 * f == HIF_FN_STATUS f) && thas s.regs (HIF_FN_STATUS f) && s.flag (HIF_FN_STATUS.FLR f))

/-- Resets whose passes have applied complete at a boundary, and with its contexts a function-level reset (R105). -/
def State.resetBoundary (s : State) : State :=
  let waits := fun (c : Nat) => s.hosts.any (fun o =>
    (s.passesOf o).any (fun (p : Pass) => p.kind == .reset) && (s.layersOf c).any (fun n => s.takesPart [] n o))
  let s1 := foldOver (s.hif.resetting.filter (fun c => !waits c)) (fun c t => t.finishReset c) s
  foldOver s1.flrFns (fun f t =>
    if t.hif.resetting.any (fun c => c / 4 == f) then t else t.put (HIF_FN_STATUS.FLR f) 0) s1

/-- Rings and queues of the contexts from `lo` on are disabled and their bases go (R106); with `dev` the device queue's too. -/
def State.disableQueues (s : State) (lo : Nat) (dev : Bool) : State :=
  let off := fun (a : Nat) => a % 0x10000
  let ring := fun (a : Nat) => decide (ctxBase + 0x10000 * lo ≤ a) && decide (a < ctxBase + 0x10000 * 1024)
  let base := fun (a : Nat) => ring a && [off (HIF_CTX_CMDQ_BASE_LO 0), off (HIF_CTX_CMDQ_BASE_HI 0), off (HIF_CTX_EVQ_BASE_LO 0),
    off (HIF_CTX_EVQ_BASE_HI 0)].contains (off a)
  let cfg := fun (a : Nat) => ring a && [off (HIF_CTX_CMDQ_CFG 0), off (HIF_CTX_EVQ_CFG 0)].contains (off a)
  let s1 := { s with regs := (s.regs.filter (fun (e : Nat × Word) => !base e.1)).map (fun (e : Nat × Word) =>
    if cfg e.1 then (e.1, BitVec.ofNat 32 (setBits e.2.toNat 8 8 0)) else e) }
  if dev then ((s1.resetReg HIF_DEVQ_BASE_LO).resetReg HIF_DEVQ_BASE_HI).wrN HIF_DEVQ_CFG (setBits (s1.rdN HIF_DEVQ_CFG) 8 8 0) else s1

/-- A function's MSI-X table and pending messages return to reset. -/
def State.clearMsix (s : State) (f : Nat) : State :=
  { s with
    hif := { s.hif with msix := s.hif.msix.filter (fun e => e.1 / 32 != f) }
    int := { s.int with pendVec := s.int.pendVec.filter (fun k => k / 8 != f) } }

/-- VF contexts that are kept: given to a VF by the limits, whether it is enabled now or not, or holding anything (R106). -/
def State.keptCtxs (s : State) : List Nat :=
  (s.limited.filter (fun c => s.flag (HIF_CTX_LIMITS_0.ENABLE c)) ++ (idxWhere 256 (fun _ => true)).filterMap s.holder ++
    (tkeys s.hif.maps).map (fun k => k / 2 ^ 28) ++
    s.hif.pages.filterMap (fun (e : Nat × Nat) => if e.2 = 0 then none else some (e.2 - 1)) ++ tkeys s.hif.commits).eraseDups.filter (fun c => decide (4 ≤ c) && decide (c < 1024))

/-- What PERST_N does to the functions from `lo` on (R103, R106): events, generations, master enable, queues, HOST mappings
and VF Enable; and with PERST_CLEARS the resets of every VF context, whether its VF is enabled or not. -/
def State.perstFns (s : State) (lo : Nat) : State :=
  let fns := (List.range (s.get HIF_STATUS.NUM_VFS + 1)).filter (fun f => decide (lo ≤ f))
  let live := s.keptCtxs
  let s1 := foldOver fns (fun f t => t.clearMsix f) (s.disableQueues (4 * lo) (lo == 0))
  let s2 := foldOver fns (fun f t => ((t.put (HIF_FN_STATUS.ME f) 0).toggleGen f).raise 0x0F04 f 1 0) s1
  let s3 := if s.flag HIF_CTRL.PERST_CLEARS then foldOver live (fun c t => t.resetContext c) s2 else s2
  let s4 := { s3 with hif := { s3.hif with hostMapsGo := max s3.hif.hostMapsGo (if lo = 0 then 2 else 1) } }
  foldOver fns (fun f t => t.showHeld f) (s4.put HIF_STATUS.NUM_VFS 0)

/-- HOST mappings go at the boundary after PERST_N or a link-down (R106). -/
def State.hostMapsBoundary (s : State) : State :=
  let go := s.hif.hostMapsGo
  if go = 0 then s
  else { s with hif := { s.hif with
    hostMapsGo := 0
    maps := s.hif.maps.filter (fun (e : Nat × Mapping) => !(e.2.kind == .host && (go == 2 || decide (4 ≤ e.1 / 2 ^ 28)))) } }

/-- FUNCTION_LEVEL_RESET: the function's contexts are reset; the PF's device queue, PASID and status return to reset, and
its VFs see PERST_N (R105). GEN toggles (R103; DEDUCED, log 90). -/
def doFunctionLevelReset (dt f : Nat) (s : State) : State :=
  let t := s.tick dt
  t.onLiveIf (decide (f < 256) && t.fnEnabled f && t.flag HIF_STATUS.LINK_UP) fun u =>
    let own := ((List.range 4).map (· + 4 * f)).filter u.ctxExists
    let u1 := ((u.toggleGen f).clearMsix f).raise 0x0F04 f 2 0
    let u2 := foldOver own (fun c v => v.resetContext c) (u1.put (HIF_FN_STATUS.FLR f) 1)
    if f = 0 then
      let u3 := foldOver [HIF_DEVQ_BASE_LO, HIF_DEVQ_BASE_HI, HIF_DEVQ_CFG, HIF_DEVQ_TAIL, HIF_DEVQ_HEAD, HIF_FN_PASID 0]
        (fun a v => v.resetReg a) (u2.perstFns 1)
      let u4 := ((u3.put (HIF_FN_STATUS.ME 0) 0).put (HIF_FN_STATUS.STALE 0) 0)
      ({ u4 with hif := { u4.hif with queues := tdel u4.hif.queues devQ } }.showHeld 0).hostReadFails
    else u2.showHeld f

/-! ### PERST_N and the link (R101, R106) -/

/-- The endpoint is reset or its link is lost. -/
def State.endpointDown (s : State) : State :=
  (((s.put HIF_STATUS.LINK_UP 0).incSat HIF_STATUS.PERSTS 1).perstFns 0).hostReadFails

/-- PERST_ASSERT. -/
def doPerstAssert (dt : Nat) (s : State) : State :=
  let t := s.tick dt
  let u := { t with hif := { t.hif with perst := true } }
  if t.hif.perst then t else u.onLive (fun v => v.endpointDown)

/-- PERST_RELEASE: the endpoint may train; LINK_UP follows. -/
def doPerstRelease (dt : Nat) (s : State) : State :=
  let t := s.tick dt
  { t with hif := { t.hif with perst := false } }

/-- LINK_DOWN. -/
def doLinkDown (dt : Nat) (s : State) : State :=
  let t := s.tick dt
  t.onLiveIf (t.flag HIF_STATUS.LINK_UP) (fun u => u.endpointDown)

/-- LINK_UP: the endpoint is ready for configuration. -/
def doLinkUp (dt : Nat) (s : State) : State :=
  let t := s.tick dt
  t.onLiveIf (!t.hif.perst) (fun u => u.put HIF_STATUS.LINK_UP 1)

/-! ### Reset of the main die (R437, R445) -/

/-- RESET_ASSERT: the edge of RESET_N or PWR_OK (`power`) that counts; the hardware class runs for 4 µs. Both low together are
one power-on reset (Table GLB-13). -/
def doResetAssert (dt : Nat) (power : Bool) (s : State) : State :=
  let t := s.tick dt
  let kind := if power then 1 else 2
  if !t.glb.inReset then
    ({ t with glb := { t.glb with
      inReset := true
      pwrOk := !power
      resetKind := kind
      resetTime := t.now } }).hardwareClass
  else if power then
    let u := { t with glb := { t.glb with
      pwrOk := false
      resetKind := 1 } }
    if u.glb.held then u.wrN GLB_RESET_CAUSE 1 else u
  else t

/-- The contents of HBM3E that a reset leaves are not stated: bytes that were written become free values. -/
def State.freeMemory (s : State) : State :=
  foldOver (s.mem.dram.map (·.1)) (fun a (t : State) => (t.memWrite a [BitVec.ofNat 8 (t.freeVal 8)]).useFree) s

/-- The main die in reset (R437, R445): everything of it has its reset value but the fuses, the cause of the reset, the
calibration store and the fenced units; the metering die runs on. -/
def State.heldReset (s : State) (cause : Nat) : State :=
  let m := s.freeMemory
  let r := State.reset
  { r with
    now := s.now
    fresh := m.fresh
    out := s.out
    pending := s.pending
    regs := s.regs.filter (fun (e : Nat × Word) => e.1 == CFG_OTP_STATUS)
    glb := { r.glb with
      pwrOk := s.glb.pwrOk
      resetKind := s.glb.resetKind
      resetTime := s.glb.resetTime }
    cfg := { r.cfg with
      keyHash := s.cfg.keyHash
      keyValid := s.cfg.keyValid
      keyRevoked := s.cfg.keyRevoked
      secFloor := s.cfg.secFloor
      otpLocked := s.cfg.otpLocked }
    hif := { r.hif with perst := s.hif.perst }
    mem := { r.mem with
      dram := m.mem.dram
      pcs := s.mem.pcs.map (fun (e : Nat × PcSt) => (e.1, { PcSt.init with sparesUsed := e.2.sparesUsed })) }
    pln := { r.pln with rows := s.pln.rows.filter (fun (e : Nat × RowSt) => e.2.fenced) }
    mtr := { s.mtr with
      mbTime := 0
      mbArgs := []
      mbData := [] }
    cal := { r.cal with
      field := s.cal.field
      copyA := s.cal.copyA
      copyB := s.cal.copyB } }.wrN GLB_RESET_CAUSE cause

/-- RESET_HOLD: 4 µs after the edge the main die is held in reset; `short` says that the supplies fell before (R437). -/
def doResetHold (dt : Nat) (short : Bool) (s : State) : State :=
  let t := s.tick dt
  if t.glb.inReset && !t.glb.held && (short || decide (t.glb.resetTime + 4 * usSteps ≤ t.now)) then
    let resets := if t.glb.resetKind = 1 then 0 else satAdd 255 (t.get GLB_RESET_CAUSE.RESETS) 1
    t.heldReset (t.glb.resetKind + resets * 2 ^ 8 + boolNat short * 2 ^ 16)
  else t

/-! ### Boot (R66 to R68, R435 to R440) -/

/-- The regions of a valid flash directory by TYPE (R67, Table CFG-16); `flash` is the flash's size in bytes. Validity is what
R67 lists: a LENGTH that is no multiple of 4 KiB, or a reserved byte that is not 0, does not end it (DESIGN CHOICE,
log 120). -/
def flashDirectory (flash : Nat) (b : List Byte) : Option (Tbl FlashRegion) :=
  let ent := fun (k : Nat) => (leAt b (8 + 16 * k) 2, ({ off := leAt b (8 + 16 * k + 4) 4, len := leAt b (8 + 16 * k + 8) 4 } : FlashRegion))
  let es := (List.range 5).map ent
  let apart := fun (x y : FlashRegion) => decide (x.off + x.len ≤ y.off) || decide (y.off + y.len ≤ x.off)
  let ok := leAt b 0 4 == 0x52494446 && leAt b 4 2 == 1 && leAt b 6 2 == 5 && leAt b 0xFC 4 == crc32 (b.take 0xFC) &&
    (List.range 5).all (fun t => ((es.filter (fun e => e.1 == t + 1)).length == 1)) &&
    es.all (fun e => e.2.off % 4096 == 0 && decide (0x1000 ≤ e.2.off) && decide (e.2.off + e.2.len ≤ flash)) &&
    es.all (fun x => es.all (fun y => x.1 == y.1 || apart x.2 y.2))
  if ok then some (es.foldl (fun t e => tset t e.1 e.2) []) else none

/-- The boot timing block of a directory (R439, Table GLB-8): none where it is absent, an empty list where it is invalid. -/
def bootTimingBlock (b : List Byte) : Option (List Nat) :=
  let w := fun (k : Nat) => leAt b (0x104 + 4 * k) 4
  if leAt b 0x100 4 ≠ 0x42544246 then none
  else
    let mul := bitsOf (w 2) 5 0
    let div_ := bitsOf (w 2) 11 8
    let ok := leAt b 0x118 4 == crc32 ((b.drop 0x100).take 24) && refCtrlOk (w 0) && bitsOf (w 1) 27 16 != 0 &&
      decide (1 ≤ mul) && decide (mul ≤ 32) && decide (1 ≤ div_) && decide (div_ ≤ 8) && w 3 != 0 &&
      (bitsOf (w 0) 2 0 != refFree || lfPeriodOk16 (freerunP16 (w 3)))
    some (if ok then [w 0 &&& 0x00070777, w 1 &&& 0x0FFF0007, w 2 &&& 0xF3F, w 3, w 4 &&& 0xFFFFFF] else [])

/-- The boot source begins to load, or safe idle follows (R66 to R68). `dir` is empty where the flash does not answer. -/
def State.bootSource (s : State) (flash : Nat) (dir : List Byte) : State :=
  let regions := flashDirectory flash dir
  let s1 := { s with cfg := { s.cfg with
    dirValid := regions.isSome
    regions := regions.getD [] } }
  if s1.glb.bootSel || !s1.cfg.otpLocked then (s1.put CFG_STATUS.SRC_ACT 3).enterSafeIdle
  else
    let s2 := { s1 with cfg := { s1.cfg with load := 1 } }.put CFG_STATUS.STATE cfgLoading
    if dir.isEmpty || s2.cfg.dirValid then s2 else s2.loadFailed dirFail

/-- BOOT: the boot instant. TIM runs on FREE, the ROM reads the flash directory with the boot timing block, and the image's
load begins; units of the field map stay fenced (R445). -/
def doBoot (dt : Nat) (bootSel : Bool) (flash : Nat) (dir : List Byte) (s : State) : State :=
  let t := s.tick dt
  if !(t.glb.inReset && t.glb.held) then t
  else
    let block := bootTimingBlock dir
    let u := { t with
      glb := { t.glb with
        pwrOk := true
        inReset := false
        held := false
        hwClass := false
        bootTime := t.now
        bootSel := bootSel
        booting := true
        bootTiming := block.getD [] }
      tim := { t.tim with
        lfStart16 := t.now * 65536
        sysT0 := t.now
        pKey := t.fresh } }.useFree
    let u1 := ((u.putB GLB_BOOT_STATUS.TIMING_VALID (block.any (fun w => !w.isEmpty))).putB GLB_BOOT_STATUS.TIMING_REJECTED
      (block.any (·.isEmpty))).putB CFG_STATUS.BOOT_SEL bootSel
    let u2 := if u1.cal.field.isEmpty then u1 else (foldOver u1.cal.field (fun e v => v.leaveService e) u1).showTiles.showFenced
    u2.bootSource flash dir

/-- A valid boot timing block sets the TIM registers, shadow and value in force, at the first boundary (R439). -/
def State.bootTimingBoundary (s : State) : State :=
  match s.glb.bootTiming with
  | [ref, gen, lf, per, off] =>
    let s1 := (s.wrN TIM_REF_CTRL ref).wrN TIM_GENLOCK_CFG gen
    let s2 := foldOver [(TIM_LF_CFG, lf), (TIM_FREERUN_PERIOD, per), (TIM_PHASE_OFFSET, off)]
      (fun e t => (t.wrN e.1 e.2).actWr e.1 (BitVec.ofNat 32 e.2)) s1
    let s3 := { s2 with
      glb := { s2.glb with
        bootTiming := []
        timingAt := some s2.now }
      tim := { s2.tim with refCtrl := ref } }
    if s3.cfg.safeIdle then { s3 with glb := { s3.glb with fellBack := s3.refPrimary != refFree } }
    else
      let s4 := s3.put TIM_REF_STATUS.ACTIVE s3.refPrimary
      if s3.refPrimary = refFree then s4.enterDpll dpllFree else s4.beginAcquire
  | _ => s

/-- BOOT_FREE_FALLBACK (R440): neither LOCKED nor FREE 1 s after the boot timing block applied. -/
def doBootFreeFallback (dt : Nat) (s : State) : State :=
  let t := s.tick dt
  t.onLiveIf (t.glb.timingAt.any (fun a => decide (a + secSteps ≤ t.now)) && !t.tim.everLocked) fun u =>
    let lost := u.get TIM_REF_STATUS.ACTIVE
    let u1 := ((u.selectRef refFree).enterDpll dpllFree).raise 0x0301 lost dpllFree 0
    { u1 with glb := { u1.glb with
      timingAt := none
      fellBack := true } }.putB GLB_BOOT_STATUS.FREE_FALLBACK true

end Sys2Proof.Machine
end

