-- ==== Sys2Proof/Machine/Round.lean ====
section
/-! DEFINITION. The distributed commit round: prepare, vote, decision and their losses (R79, R348 to R350, R355). -/
namespace Sys2Proof.Machine

def State.round (s : State) : RoundSt := s.lxs.round

def State.setRound (s : State) (r : RoundSt) : State := { s with lxs := { s.lxs with round := r } }

/-- The running round votes on the next boundary. -/
def State.roundRuns (s : State) : Bool := s.round.target == some s.nextLfn

/-- At most `us` microseconds are left to the boundary that is voted on. -/
def State.within (s : State) (us : Nat) : Bool := decide (s.nextBoundary ≤ s.now + us * usSteps)

/-- A round begins for the next boundary. -/
def State.beginRound (s : State) (target : Nat) : State :=
  s.setRound { s.round with
    target := some target
    votes := []
    own := none
    ready := []
    reload := false
    sent := false
    decision := none }

/-- PREPARE_SEND (R348): the root floods PREPARE at T - 500 us. -/
def doPrepareSend (dt : Nat) (s : State) : State :=
  let t := s.tick dt
  t.onLiveIf (t.isRoot && (t.get LXS_STATUS.PHASE == 5 || t.get LXS_STATUS.PHASE == 6) && t.within 500 && !t.roundRuns) fun u =>
    (u.beginRound u.nextLfn).floodMsg u.childPorts 2 0x09 0 [u.nextLfn]

/-- PREPARE (R348): from the parent, flooded on. -/
def doPrepare (dt j target : Nat) (s : State) : State :=
  onMsg dt j [lxUp] s fun t =>
    if t.lxParent = some j then (t.beginRound target).floodMsg t.childPorts 2 0x09 0 [target % 2 ^ 32] else t

/-! ### Votes (R349) -/

/-- Local members of a group count unless none is a context and the PF asks for nothing (R349). -/
def State.hasMembers (s : State) (g : Nat) : Bool :=
  (s.members g).any (fun c => c != pfCommit || thas s.hif.commits c)

/-- The reload takes boundary T on a group with a local member (R79). -/
def State.reloadBlocks (s : State) (g : Nat) : Bool := s.reloadDue s.nextLfn && !(s.members g).isEmpty

def State.groupPend (s : State) (g : Nat) : Bool := !(s.groupPending g).isEmpty

/-- ADMIT of a group: a member that is admitted already has met the conditions (DEDUCED, log 81). -/
def State.groupAdmit (s : State) (g : Nat) : Bool :=
  !s.aonOf g || !s.hasMembers g ||
    ((s.members g).all (fun c => thas s.hif.commits c && (s.isAdmitted c || s.localCause c == nrNone)) && !s.stackRange (s.members g))

/-- READY of a group, of commits that met R29 at the vote point. -/
def State.groupReady (s : State) (ready : List Nat) (g : Nat) : Bool :=
  !s.reloadBlocks g && (!s.aonOf g || !s.hasMembers g || (s.members g).all ready.contains)

/-- A rebuild pends for an output that carries a camera's view. -/
def State.rbOutputs (s : State) (n : Nat) : List Nat := s.seq.rebuild.filter (fun o => bitAt (s.viewMask [] o) n)

/-- RB_READY of a camera: its rebuilds are accepted, and T starts one of its frames. -/
def State.rbReady (s : State) (n : Nat) : Bool :=
  (s.rbOutputs n).all (fun o => thas s.seq.done (jobKey o 1)) &&
    ((s.rbOutputs n).isEmpty || (s.window n).all (fun w => (s.nextLfn + 2 ^ 32 * w.frame - w.align) % w.frame == 0))

def State.ownVote (s : State) (ready : List Nat) : Vote :=
  { rbPend := maskOf 4 (fun n => !(s.rbOutputs n).isEmpty), rbReady := maskOf 4 s.rbReady,
    ready := maskOf 64 (s.groupReady ready), pend := maskOf 64 s.groupPend, admits := maskOf 64 s.groupAdmit, part := false }

/-- PEND and RB_PEND combine by OR, the others by AND. -/
def Vote.combine (a b : Vote) : Vote :=
  { rbPend := a.rbPend ||| b.rbPend, rbReady := a.rbReady &&& b.rbReady, ready := a.ready &&& b.ready, pend := a.pend ||| b.pend,
    admits := a.admits &&& b.admits, part := a.part || b.part }

/-- A vote that did not come: not ready in every group and camera, and partial (R348). -/
def Vote.missing : Vote := { rbPend := 0, rbReady := 0, ready := 0, pend := 0, admits := 0, part := true }

/-- The device's vote with its children's; `none` before the vote point. -/
def State.joint (s : State) : Option Vote :=
  s.round.own.map (fun own => s.childPorts.foldl (fun v j => v.combine (tget Vote.missing s.round.votes j)) own)

def State.holdsVotes (s : State) : Bool := s.round.own.isSome && s.childPorts.all (fun j => thas s.round.votes j)

/-- VOTE goes up; a partial one is counted. -/
def State.sendVote (s : State) : State :=
  match s.joint, s.lxParent with
  | some v, some j =>
    let s1 := if v.part then s.put LXS_COMMIT.PARTIAL (s.get LXS_COMMIT.PARTIAL + 1) else s
    (s1.setRound { s1.round with sent := true }).queueMsg j 2 0x0A 0
      [(s.round.target.getD 0) + v.rbPend * 2 ^ 32 + v.rbReady * 2 ^ 36 + boolNat v.part * 2 ^ 40, v.ready, v.pend, v.admits]
  | _, _ => s

/-- A device that holds every vote sends its own up; the root waits for ROOT_DECIDE. -/
def State.voteIfFull (s : State) : State := if s.holdsVotes && !s.round.sent && !s.isRoot then s.sendVote else s

/-- VOTE_POINT (R348, R349): conditions 1 to 6 of R29 are tested, 100 us before T. -/
def doVotePoint (dt : Nat) (s : State) : State :=
  let t := s.tick dt
  t.onLiveIf (t.roundRuns && t.within 100 && t.round.own.isNone) fun u =>
    let ready := u.readyCommits u.nextLfn (fun _ => true)
    ((u.setRound { u.round with
      own := some (u.ownVote ready)
      ready := ready
      reload := u.reloadDue u.nextLfn }).showCommits).voteIfFull

/-- VOTE (R349): a child's vote. -/
def doVote (dt j target rbPend rbReady : Nat) (part : Bool) (ready pend admits : Nat) (s : State) : State :=
  onMsg dt j [lxUp] s fun t =>
    if t.round.target = some target ∧ t.flag (LXS_PORT_STATE.CHILD j) ∧ !t.round.sent then
      (let v : Vote := { rbPend := rbPend, rbReady := rbReady, ready := ready, pend := pend, admits := admits, part := part }
       (t.setRound { t.round with votes := tset t.round.votes j v }).voteIfFull)
    else t

/-- VOTE_DEADLINE (R348): T - 60 us - d × h. -/
def doVoteDeadline (dt : Nat) (s : State) : State :=
  let t := s.tick dt
  let due := t.nextBoundary - 60 * usSteps - t.get LXS_STATUS.DEPTH * t.hopPs / 250
  t.onLiveIf (t.roundRuns && !t.isRoot && !t.round.sent && t.round.own.isSome && decide (due ≤ t.now)) (fun u => u.sendVote)

/-! ### Decisions (R350) -/

/-- The root's decision over the votes it holds. -/
def State.decideRound (s : State) (v : Vote) : Decision :=
  let apply := maskOf 64 (fun g => if s.aonOf g then bitAt v.pend g && bitAt v.ready g else bitAt v.ready g)
  { target := s.round.target.getD 0, rbApply := v.rbPend &&& v.rbReady, apply := apply,
    admits := maskOf 64 (fun g => s.aonOf g && bitAt v.pend g && bitAt v.admits g), prev := s.round.lastApply }

/-- Pending requests that a DECISION admits. -/
def State.admitted (s : State) (d : Decision) : List Nat :=
  (tkeys s.hif.commits).filter (fun c => bitAt d.admits (s.cmGroup c) && s.aonOf (s.cmGroup c) && !s.isAdmitted c && s.localCause c == nrNone)

/-- A device acts on a DECISION in time (R350): what applies at T is what was ready at the vote point in groups with APPLY, and
after a lost round what was ready then in groups of PREV_APPLY. -/
def State.takeDecision (s : State) (d : Decision) : State :=
  let r := s.round
  let now := r.ready.filter (fun c => bitAt d.apply (s.cmGroup c))
  let late := if r.missed = 0 then [] else r.prevReady.filter (fun c => bitAt d.prev (s.cmGroup c) && s.aonOf (s.cmGroup c) && s.isAdmitted c)
  let all := now ++ late.filter (fun c => !now.contains c)
  let s1 := (s.setRound { r with
    decision := some d
    lastApply := d.apply
    missed := 0
    prevReady := [] }).decideFor (s.together all.length all)
  let s2 := if s1.get LXS_STATUS.PHASE = 5 ∧ s1.lxs.readyAll then s1.putB GLB_BOOT_STATUS.LAXUS true else s1
  (s2.admitAll (s2.admitted d)).showCommits

def decisionWords (d : Decision) : List Nat := [d.target + d.rbApply * 2 ^ 32, d.apply, d.admits, d.prev]

/-- ROOT_DECIDE (R348, R350): every vote is here, or T - 60 us has come. -/
def doRootDecide (dt : Nat) (s : State) : State :=
  let t := s.tick dt
  t.onLiveIf (t.isRoot && t.roundRuns && t.round.decision.isNone && (t.holdsVotes || t.within 60)) fun u =>
    match u.joint with
    | none => u
    | some v =>
      let d := u.decideRound v
      (u.floodMsg u.childPorts 2 0x0B 0 (decisionWords d)).takeDecision d

/-- DECISION (R350): accepted until T - 20 us, and flooded on. -/
def doDecision (dt j target rbApply apply admits prev : Nat) (s : State) : State :=
  onMsg dt j [lxUp] s fun t =>
    if t.lxParent ≠ some j then t
    else
      let d : Decision := { target := target, rbApply := rbApply, apply := apply, admits := admits, prev := prev }
      let u := t.floodMsg t.childPorts 2 0x0B 0 (decisionWords d)
      if target = u.nextLfn ∧ u.now ≤ u.decisionInstant ∧ u.round.decision.isNone ∧ !u.round.lost then u.takeDecision d else u

/-- COMMIT_ROUND_LOST (R350): no DECISION by T - 20 us. After a second such round the admitted commits of all-or-nothing groups
fail. -/
def doCommitRoundLost (dt : Nat) (s : State) : State :=
  let t := s.tick dt
  t.onLiveIf (t.joined && t.within 20 && t.round.decision.isNone && !t.round.lost) fun u =>
    let n := u.round.missed + 1
    let u1 := (((u.setRound { u.round with
      lost := true
      lastApply := 0
      missed := n
      prevReady := u.round.ready }).put LXS_COMMIT.LOST (u.get LXS_COMMIT.LOST + 1)).decideFor []).raise 0x0807 0 u.nextLfn 0
    if n < 2 then u1
    else
      let bad := (tkeys u1.hif.commits).filter (fun c => u1.isAdmitted c && u1.aonOf (u1.cmGroup c))
      let u2 := foldOver bad (fun c v => v.failCommit c cmFailed 1 false) u1
      foldOver (bad.map u1.cmGroup).eraseDups (fun g (v : State) => v.incSat (HIF_GROUP_CTRL.TIMEOUTS g) 1) u2

/-! ### At the boundary -/

/-- Whether the rebuild commit of an output is decided: always on a device that is not joined; otherwise for every camera whose
view it carries (R228, R350). -/
def State.rebuildAllowed (s : State) (o : Nat) : Bool :=
  !s.joined || (List.range 4).all (fun n => !bitAt (s.viewMask [] o) n ||
    s.round.decision.any (fun d => d.target == s.tim.lfn && bitAt d.rbApply n))

/-- A ready reload takes this boundary: on a joined device that has voted on it, only where its vote said so (R77, R79). -/
def State.reloadNow (s : State) : Bool :=
  s.reloadDue s.tim.lfn && (!s.joined || s.round.own.isNone || s.round.reload)

/-- The first DECISION after READY_ALL completes the system's start-up at its boundary (R355). -/
def State.systemStarts (s : State) : State :=
  if s.get LXS_STATUS.PHASE = 5 ∧ s.flag GLB_BOOT_STATUS.LAXUS ∧ s.round.decision.any (fun d => d.target == s.tim.lfn) then
    s.put LXS_STATUS.PHASE 6
  else s

/-- The round is over with its boundary. -/
def State.endRound (s : State) : State :=
  s.setRound { s.round with
    target := none
    votes := []
    own := none
    ready := []
    reload := false
    sent := false
    decision := none
    lost := false }

end Sys2Proof.Machine
end

