-- ==== Sys2Proof/Machine/LfBoundary.lean ====
section
/-! DEFINITION. The LF boundary: what takes effect at it, in the order of Table GEN-18 (R26), and what ends or begins with the
LF. -/
namespace Sys2Proof.Machine

/-! ### Scan outputs compose in every LF (R159, R420) -/

/-- Existing scan outputs that compose. -/
def State.scanOutputs (s : State) : List Nat :=
  if s.get THM_STATUS.STATE = 0 then (List.range 4).map (· + 16) |>.filter s.outExists else []

/-- The frame and the rectangles of a scan output for the LF that ends. -/
def State.scanFrame (s : State) (o : Nat) : State :=
  let cfn := s.rdN (TIM_OUT_CFN o)
  let v := (s.countTiles [] o).scanView o
  let w := v.writeFrame [] o true cfn s.tim.lfn
  let x := w.rectResults [] o (w.frameOk o)
  let s2 := { x with cmp := { x.cmp with offs := s.cmp.offs } }
  let s3 := if s2.cmp.wb.any (fun w => w.output == o && w.incomplete) then s2.rectNoWb o else s2
  s3.rectApply o cfn

/-! ### Layers that are off (R163 to R165) -/

/-- Existing outputs whose CF starts at this boundary. -/
def State.cfStarted (s : State) : List Nat :=
  (List.range outputs).filter (fun o => s.outExists o && tget 0 s.tim.cfLen o == 0)

/-- A layer's off ends where a CF starts (R163). A scan output composes anew in each LF, so there an off that goes on holds from the
first line. -/
def State.endOffs (b : State) (started : List Nat) : State :=
  let s := { b with cmp := { b.cmp with offs := b.cmp.offs.map (fun (e : Nat × OffSt) =>
    if 16 ≤ e.1 % 32 then (e.1, { e.2 with line := 0 }) else e) } }
  let ended := s.cmp.offs.filter (fun (e : Nat × OffSt) => started.contains (e.1 % 32))
  if ended.isEmpty then s
  else
    let s1 := { s with cmp := { s.cmp with
      offs := s.cmp.offs.filter (fun (e : Nat × OffSt) => !started.contains (e.1 % 32)) } }
    foldOver (ended.map (fun e => e.1 / 32)).eraseDups (fun n t => t.showOff n) s1

/-- Whether a layer matches a drop notice (R165). -/
def State.matchesDrop (s : State) (d : DropSt) (n : Nat) : Bool :=
  s.actFlag (CMP_LYR_CTRL.COHERENT n) && s.actGet (CMP_LYR_CTRL.DROP_TAG n) == d.tag &&
    (s.holder n).any (fun c => s.groupOf c == d.group)

/-- One notice at a boundary: its layers go off on the outputs whose CF starts, each with one event. A notice counts as received
once it matches a layer by the three conditions, on or off (Table CMP-12). -/
def State.applyDrop (s : State) (started : List Nat) (d : DropSt) : State × DropSt :=
  let outs := started.filter (fun o => !d.done.contains o)
  let hits := (idxWhere 256 (fun n => (s.holder n).isSome && s.matchesDrop d n)).map (fun n =>
    (n, outs.filter (fun o => s.takesPart [] n o && !s.isOff n o && !d.offAt.contains (offKey n o))))
  let hit := hits.filter (fun (e : Nat × List Nat) => !e.2.isEmpty)
  let s1 := foldOver hit (fun e t =>
    let t1 := foldOver e.2 (fun o u => u.markOff e.1 o 0 d.cause true) t
    ((t1.showOffLine e.1 ((e.2.head?).getD 0) 0).inc (CMP_LYR_STATUS.OFFS e.1)).raiseCB 0x0B01 ((t1.holder e.1).getD devQ) e.1 (((e.2.head?).getD 0) * 65536) (d.cause + 256)) s
  let s2 := if !hits.isEmpty && !d.counted then s1.inc CMP_DROP_STATUS.RECEIVED else s1
  (s2, { d with
    done := d.done ++ outs
    counted := d.counted || !hits.isEmpty })

/-- Drop notices that arrived at least 20 µs ago (R165). -/
def State.applyDrops (s : State) (started : List Nat) : State :=
  let outs := (List.range outputs).filter s.outExists
  let r := s.cmp.drops.foldl (fun (a : State × List DropSt) (d : DropSt) =>
    if d.due ≤ a.1.now then
      (let b := a.1.applyDrop started d
       (b.1, if outs.all b.2.done.contains then a.2 else a.2 ++ [b.2]))
    else (a.1, a.2 ++ [d])) (s, [])
  { r.1 with cmp := { r.1.cmp with drops := r.2 } }

/-- Repair passes of the outputs whose picture in force was formed without a layer that is on again (R164). -/
def State.repairPasses (s : State) : State :=
  foldOver (s.cmp.lost.filter (fun (e : Nat × List Nat) => !e.2.isEmpty)) (fun e t =>
    let back := e.2.filter (fun n => !t.isOff n e.1)
    let t1 := { t with cmp := { t.cmp with lost := tset t.cmp.lost e.1 (e.2.filter (fun n => t.isOff n e.1)) } }
    if back.any (fun n => t1.takesPart [] n e.1 && !t1.inReset n) then t1.askPass .repair [] e.1 else t1) s

/-- S of every scan output for the LF that begins (R183). -/
def State.solveScans (s : State) : State := foldOver s.scanOutputs (fun o t => t.solveOutput [] o) s

/-! ### Passes without a commit (R105, R136, R164, R185, R200, R210, R390) -/

/-- Complete passes that carry no commit apply at the first boundary. -/
def State.internalPasses (s : State) : State :=
  foldOver (s.hosts.filter (fun o => match s.passesOf o with
    | p :: _ => p.commits.isEmpty && s.passReady o
    | [] => false)) (fun o t => t.applyPass o) s

/-! ### Start-up (R355, R390, R441) -/

/-- Start-up, or a restart from a shutdown, completes at this boundary. -/
def State.startBoundary (s : State) : State :=
  let waits := !s.flag HIF_STATUS.STARTUP_DONE
  let restart := s.get THM_STATUS.STATE == 3
  let t := s.systemStarts
  let begins := s.get LXS_STATUS.PHASE == 5 && t.get LXS_STATUS.PHASE == 6 && t.flag LXS_STATION.VALID
  let alone := !t.isMember || t.get LXS_STATUS.PHASE == 7
  let u := if waits && begins then t.startupDone
    else if waits && alone && t.localReady then (if restart then t.restartDone else t.startupDone)
    else t
  if u.get THM_STATUS.STATE == 3 && u.flag HIF_STATUS.STARTUP_DONE && u.localReady then u.restartDone else u

/-! ### The boundary (R26) -/

/-- Orders 1 to 4 of Table GEN-18. -/
def State.boundaryOrders (s : State) : State :=
  let s1 := s.calOrder1.rowsBoundary
  let s2 := if s1.reloadNow then s1.moveCommits.applyReload else s1
  let s3 := s2.throttleBoundary.applyCommits
  (s3.rebuildCommits s3.rebuildAllowed).shutterBoundary

/-- Whether a rectangle of any output has been enabled. -/
def State.rectsUsed (s : State) : Bool := !s.int.rects.isEmpty || (tkeys s.regs).any (fun a =>
  decide (INT_CRC_CTRL 0 0 ≤ a) && decide (a ≤ rectReg 19 19 0x1C) && s.rdN a != 0)

/-- The outputs whose CF starts at this boundary, by a commit or by a repeat, compare first (R425). -/
def State.compareRects (s : State) : State :=
  if !s.rectsUsed then s
  else
    let t := s.boundaryOrders
    let t1 := t.repeatOutputs ((List.range outputs).filter (fun o => t.rdN (TIM_OUT_CFN o) != s.rdN (TIM_OUT_CFN o)))
    foldOver t1.cfStarted (fun o u => u.crcCompare o) s

/-- Orders 1 to 6: TIM, the changes that are ready, the schedules and the repeats. -/
def State.boundaryChanges (s : State) : State :=
  let s1 := s.timAdvance.bootTimingBoundary.rateBoundary.dropOldEvents.staticBoundary.compareRects
  let before := fun (o : Nat) => s1.rdN (TIM_OUT_CFN o)
  let s2 := s1.boundaryOrders
  let started := (List.range outputs).filter (fun o => s2.rdN (TIM_OUT_CFN o) != before o)
  let s3 := s2.compileAgain.timFix.systimeStep.showBoot.startBoundary
  let s4 := s3.watchdogBoundary.hbUpdate.stopBoundary
  ((s4.selectRanks (s4.flag LMP_SAFETY.STOPPED)).repeatOutputs started).trimBoundary

/-- Pictures, layers and contexts once the changes stand. -/
def State.boundaryPictures (s : State) : State :=
  let s1 := s.internalPasses.resetBoundary.hostMapsBoundary.deferredBoundary.groupBoundary
  let started := s1.cfStarted
  let s2 := ((s1.endOffs started).applyDrops started).repairPasses.estimates.solveScans.retryLoads.liveBoundary.exitPasses.driftBoundary
  foldOver s2.hosts (fun o t => t.pump o) s2

/-- What the blocks do as the LF begins. -/
def State.boundaryBlocks (s : State) : State :=
  let s1 := s.replayBoundary.aptBoundary.scnBoundary.lxsBoundary.calBoundary.rampDomains
  let s2 := foldOver s1.scanOutputs (fun o t => t.latchRects o) s1
  let s3 := if s2.round.target.any (fun t => lfnAtOrAfter s2.tim.lfn t) then s2.endRound else s2
  (s3.decideFor []).showCommits.pumpHost.snapshotBoundary

/-- LF_BOUNDARY: the clock runs on to the boundary. -/
def doLfBoundary (s : State) : State :=
  s.onLive fun u =>
    let t := { u with now := max u.now u.nextBoundary }
    let ended := foldOver t.scanOutputs (fun o v => v.scanFrame o) (t.fetchBoundary (t.tim.p16 / 65536))
    ended.boundaryChanges.boundaryPictures.boundaryBlocks

end Sys2Proof.Machine
end

