-- ==== Sys2Proof/Machine/RegisterWrite.lean ====
section
/-! DEFINITION. REGISTER_WRITE: a write of the host to a BAR0, by the register map, the width and alignment rules, the
access codes, the busy rule and the ceilings (R5 to R12, R19, R74, R80 to R82, R91, R93, R132). A write that touches the
bits of a command of its own has that command's effect. -/
namespace Sys2Proof.Machine

/-! ### Where an access lands (R5, R6, R80, Table HIF-3) -/

/-- What a BAR0 address of a function names. -/
inductive BarPlace where
  /-- A register key of a block, reached through the PF BAR0. -/
  | block (a : Nat)
  /-- An offset of a context page. -/
  | page (c off : Nat)
  /-- A doorbell of a context: of the command ring or of the event queue. -/
  | door (c : Nat) (evq : Bool)
  /-- An offset of BAR4: the function's MSI-X table and pending bits. -/
  | msix (off : Nat)
  /-- A reserved address. -/
  | reserved
  /-- Outside the BAR: no access of the function carries it. -/
  | outside
  deriving DecidableEq, Repr

def doorPlace (f off : Nat) : BarPlace :=
  if off < 0x40 ∧ off % 16 = 0 then .door (4 * f + off / 16) false
  else if off < 0x40 ∧ off % 16 = 4 then .door (4 * f + off / 16) true
  else .reserved

/-- The place of an address: BAR0 addresses stand as they are, and those of BAR4 from 4 × 2^40 on (Table HIF-2; log 121). -/
def barPlace (f addr : Nat) : BarPlace :=
  if 4 * 2 ^ 40 ≤ addr then
    (if addr < 4 * 2 ^ 40 + 0x10000 ∧ f < 256 then .msix (addr - 4 * 2 ^ 40) else .outside)
  else if f = 0 then
    if 0x4000000 ≤ addr then .outside
    else if 0x2600000 ≤ addr then .reserved
    else if 0x380000 ≤ addr ∧ addr < 0x3C0000 then .page ((addr - 0x380000) / 0x10000) (addr % 0x10000)
    else if 0x3F0000 ≤ addr ∧ addr < 0x400000 then doorPlace 0 (addr - 0x3F0000)
    else .block addr
  else if 0x100000 ≤ addr ∨ 255 < f then .outside
  else if addr < 0x40000 then .page (4 * f + addr / 0x10000) (addr % 0x10000)
  else if 0xF0000 ≤ addr then doorPlace f (addr - 0xF0000)
  else .reserved

/-- Blocks that the PF reaches in safe idle: GLB, CFG, THM, INT and the MTR mailbox (R74). -/
def safeBlock (a : Nat) : Bool := [0x10, 0x0D, 0x01, 0x11].contains (blockSource a)

def State.reaches (s : State) (f : Nat) (p : BarPlace) : Bool :=
  match p with
  | .block a => !s.cfg.safeIdle || safeBlock a
  | .msix _ => s.fnEnabled f
  | .outside => false
  | .reserved => true
  | _ => !s.cfg.safeIdle

/-- The queue an access event of a place goes to: the context whose page or doorbell it is, else the device queue (R429). -/
def BarPlace.writer : BarPlace → Nat
  | .page c _ => c
  | .door c _ => c
  | _ => devQ

/-- An access event for an address of a function (R7, R8, R81). R429 names only contexts, the PF's BAR0 and BAR2: the event of a
reserved address of a VF's BAR0, which is of no context, goes to the device queue too (DESIGN CHOICE, log 101). -/
def State.barEvent (s : State) (f addr kind : Nat) : State :=
  match barPlace f addr with
  | .block a => s.accessEvent devQ a kind
  | .page c off => s.accessEvent c (ctxBase + 0x10000 * c + off) kind
  | .door c evq => s.accessEvent c (if evq then evqDoor c else cmdDoor c) kind
  | .reserved => s.deliver (s.mkEvent 0x0F06 devQ 0x0F addr kind) devQ
  | .msix _ => s
  | .outside => s

/-- The register key of an offset of the layer window: slot, then CMP or COL registers of the bound layer (Table HIF-3). -/
def State.windowKey (s : State) (c off : Nat) : Option Nat :=
  (s.layerAt c ((off - 0x8000) / 0x200)).map (fun n =>
    let i := off % 0x200
    if i < 0x100 then 0x810000 + 0x100 * n + i else 0xC10000 + 0x100 * n + (i - 0x100))

/-- The layer of a key in the PF's view of the layer registers. -/
def layerOfKey (a : Nat) : Option Nat :=
  if 0x810000 ≤ a ∧ a < 0x820000 then some ((a - 0x810000) / 0x100)
  else if 0xC10000 ≤ a ∧ a < 0xC20000 then some ((a - 0xC10000) / 0x100)
  else none

/-! ### Ceilings and ranges (R19) -/

/-- A field of a written word bounded to a range, without an event. -/
def fieldIn (v hi lo least most : Nat) : Nat := setBits v hi lo (clampN least most (bitsOf v hi lo))

/-- A field of a written word under a ceiling: an event where the ceiling changes it (R19). -/
def State.underCeiling (s : State) (writer a v hi lo top : Nat) : State × Nat :=
  if top < bitsOf v hi lo then (s.limitEvent writer a, setBits v hi lo top) else (s, v)

/-- The word that a write leaves, by the bounds that tables give for values, and the events of ceilings (R19, R91, R100,
R394, R457). -/
def State.boundWrite (s : State) (writer a v : Nat) : State × Nat :=
  if a = GLB_VCORE_SET then
    let least := s.get GLB_VCORE_SET.VSET_CODE
    if bitsOf v 12 8 < least then (s.limitEvent writer a, setBits v 12 8 least) else (s, v)
  else if a = TIM_DPLL_CFG then (s, if v % 4 = 3 then setBits v 1 0 1 else v)
  else if a = HIF_DEVQ_CFG then (s, fieldIn v 4 0 6 16)
  else if ctxBase ≤ a then
    let off := (a - ctxBase) % 0x10000
    (s, if off = 0x28 then fieldIn v 3 0 4 12 else if off = 0x38 then fieldIn v 4 0 6 16 else v)
  else if a = MEM_RETRAIN_CFG then (s, fieldIn v 15 0 10 1000)
  else if a = COL_LOOP_CFG then (s, fieldIn v 13 8 4 32)
  else if a = CAL_SHADOW_CFG then (s, fieldIn v 2 0 1 4)
  else if a = THM_CAP then
    let r := s.underCeiling writer a v 9 0 750
    r.1.underCeiling writer a r.2 25 16 220
  else if a = LMP_PKG_LIMIT then
    if s.cfg.imageRunning then
      let r := s.underCeiling writer a v 15 0 (ceAvg s.ceil_)
      r.1.underCeiling writer a r.2 31 16 (cePeak s.ceil_)
    else (s, v)
  else if a = THM_DOM_KEEP 6 then (s, v % 2 ^ 27)
  else match idxIn a (LMP_RAIL_LIMIT 0) 0x10 8 with
    | some r => if s.cfg.imageRunning ∧ a = LMP_RAIL_LIMIT r then s.underCeiling writer a v 15 0 (ceRail s.ceil_ r) else (s, v)
    | none =>
      match idxIn a (SCN_ENG_LOCK 0) 0x80 4 with
      | some n =>
        (s, if a = SCN_ENG_LOCK n then fieldIn v 22 16 10 100
          else if SCN_ENG_DAC_GAIN n 0 ≤ a ∧ a ≤ SCN_ENG_DAC_GAIN n 3 then fieldIn v 16 0 0 65536 else v)
      | none =>
        if LAN_PRESET 0 0 ≤ a ∧ a ≤ LAN_PRESET 5 2 then (s, fieldIn (fieldIn v 4 0 0 16) 12 8 0 24)
        else match layerOfKey a with
          | some n =>
            if a = CMP_LYR_OUTPUTS n then
              match s.holder n with
              | some c =>
                let want := v % 2 ^ 20
                let got := want &&& s.get (HIF_CTX_LIMITS_3.OUTPUTS c)
                if got = want then (s, v) else (s.limitEvent writer a, setBits v 19 0 got)
              | none => (s, v)
            else (s, v)
          | none => (s, v)

/-! ### The store by access codes (R10 to R12, R93) -/

/-- Whether the writer's commit is pending: the PF's own for a write through the PF BAR0 (R93). -/
def State.writerBusy (s : State) (writer : Nat) : Bool := thas s.hif.commits (if writer = devQ then pfCommit else writer)

/-- An RWS write while the writer's commit is pending: logged and counted (R93). -/
def State.busyWrite (s : State) (writer a : Nat) : State :=
  let s1 := s.accessEvent writer a 4
  if writer = devQ then s1 else s1.incSat (HIF_CTX_STATUS.BUSY_WRITES writer) 1

/-- The word a write leaves in a register: RW, W1C and, where they may be written, RWS fields. WO and W1S fields act
through the commands they start, and RWL and RO fields stay (Table GEN-10). -/
def RegEntry.merge (e : RegEntry) (old v : Nat) (shadow : Bool) : Nat :=
  let m := if shadow then e.rw ||| e.rws else e.rw
  let kept := (2 ^ 32 - 1) ^^^ (m ||| e.w1c &&& v)
  (old &&& kept) ||| (v &&& m)

/-- A write of a register by its access codes. -/
def State.storeReg (s : State) (writer a v : Nat) (e : RegEntry) : State :=
  let busy := e.rws != 0 && s.writerBusy writer
  let s1 := if busy then s.busyWrite writer a else s
  let s2 := if s.cfg.imageRunning && ((v ^^^ s.rdN a) &&& e.rwl) != 0 then s1.accessEvent writer a 3 else s1
  let r := s2.boundWrite writer a v
  r.1.wrN a (e.merge (r.1.rdN a) r.2 (!busy))

/-! ### What a write sets off -/

/-- Commands started by bits of a written word, in ascending bit order (DESIGN CHOICE, log 100). -/
def startIf (v bit : Nat) (f : State → State) (s : State) : State := if bitAt v bit then f s else s

/-- A write of a commit register: REQ and CANCEL act, and without REQ the register takes AT_LFN and TAG (R93). -/
def State.writeCommit (s : State) (c v : Nat) : State :=
  if bitAt v 0 then startIf v 1 (doCommitCancel 0 c) (doCommitRequest 0 c (bitAt v 2) (v / 65536) s)
  else startIf v 1 (doCommitCancel 0 c) ((s.putB (cmAtLfn c) (bitAt v 2)).put (cmTag c) (v / 65536))

/-- A register of a context page whose write is a command. -/
def State.writePageCommand (s : State) (c off v : Nat) : Option State :=
  if off = 0x00 then some (startIf v 0 (doContextReset 0 c) s)
  else if off = 0x08 then some (s.writeCommit c v)
  else if off = 0x18 then
    some (match bitsOf v 13 12 with
      | 1 => doLayerAllocate 0 c (v % 64) (bitAt v 8) s
      | 2 => doLayerRelease 0 c (v % 64) s
      | _ => s)
  else none

/-- A register of a block whose whole write is a command. -/
def State.writeCommand (s : State) (a v : Nat) : Option State :=
  let w : Word := BitVec.ofNat 32 v
  if a = TIM_REF_CTRL then some (doRefCtrlWrite 0 w s)
  else if a = TIM_SYSTIME_CTRL then some (doSystimeStepArm 0 w s)
  else if a = CFG_LOAD_CTRL then
    some (if bitAt v 0 then
        (match bitAt v 1, bitAt v 2 with
          | false, false => doFlashFullLoadRefused 0 s
          | false, true => doHostFullLoad 0 s
          | true, false => doReloadFromFlash 0 s
          | true, true => doReloadFromHost 0 s)
      else (s.putB CFG_LOAD_CTRL.KIND (bitAt v 1)).putB CFG_LOAD_CTRL.FROM_HOST (bitAt v 2))
  else if a = CFG_OTP_PROG then
    some (match bitsOf v 18 16 with
      | 1 => doOtpProgramHashByte 0 (bitsOf v 21 20) (bitsOf v 15 8) (v % 256) s
      | 2 => doOtpSetValid 0 (bitsOf v 21 20) s
      | 3 => doOtpSetRevoked 0 (bitsOf v 21 20) s
      | 4 => doOtpRaiseFloor 0 (v % 256) s
      | 7 => doOtpLock 0 s
      | _ => s.onOpenFuses (fun c => c))
  else if a = HIF_PF_COMMIT then some (s.writeCommit pfCommit v)
  else if a = HIF_DEVQ_HEAD then some (doEvqDoorbell 0 devQ (v % 2 ^ 17) s)
  else if a = LXS_EXPORT_OP then
    some (match v % 4 with
      | 1 => doLxsExportBind 0 (bitsOf v 25 16) s
      | 2 => doLxsExportUnbind 0 (bitsOf v 25 16) s
      | _ => s)
  else if a = INT_CODE_CTRL then
    some { s with int := { s.int with codeCtrl := tset s.int.codeCtrl (s.get INT_CODE_SEL.CODE) (v &&& 0xFF01) } }
  else match idxIn a (HIF_CTX_LIMITS_0 0) 0x10 1024 with
    | some c => some (doCtxLimitsWrite 0 c (a % 16 / 4) w s)
    | none => none

/-- The five sessions by KIND (Table CAL-1); START of another KIND starts none. -/
def State.startSession (s : State) (kind : Nat) : State :=
  match kind with
  | 1 => doLaneEyeSession 0 s
  | 2 => doPsenseGainSession 0 s
  | 3 => doColourSession 0 s
  | 4 => doTimebaseSession 0 s
  | 5 => doHbmMarginSession 0 s
  | _ => s

/-- What a stored write sets off: the commands of its W1S and command bits, and the windows that show what was
selected. -/
def State.afterWrite (s : State) (a v : Nat) : State :=
  if a = GLB_SNAP_CTRL then startIf v 1 (doSnapshotRelease 0) (startIf v 0 (doSnapshotArm 0 (bitAt v 2)) s)
  else if a = SEQ_SLOT_SEL then s.showSlot
  else if a = LMP_SAFETY then doForceOffWrite 0 (bitAt v 9) (startIf v 8 (doInterlockRearm 0) s)
  else if a = LMP_HB then s.hbUpdate
  else if a = LMP_POS_SEL then s.showPos
  else if a = LMP_POS_CTRL then startIf v 0 (doPositionClearFault 0) s
  else if a = LMP_LAMP_SEL then s.showLamp
  else if a = CMP_COEF_SEL then s.coefShow
  else if a = LXS_CTRL then startIf v 1 (doLxsTakeRoot 0) s
  else if a = LXS_PROMOTE then startIf v 31 (doLxsPromote 0) s
  else if a = THM_CTRL then
    startIf v 4 (doThmClearFault 0) (startIf v 3 (doThmForceShutdown 0) (doThmForceThrottle 0 (bitAt v 2)
      (startIf v 1 (doThmRestartRequest 0) s)))
  else if a = CAL_CTRL then startIf v 1 (doCalSave 0) s
  else if a = CAL_SESSION then startIf v 9 (doSessionAbort 0 (v % 8)) (startIf v 8 (·.startSession (v % 8)) s)
  else if a = CAL_RES_SEL then s.showRes
  else if a = CAL_COLOUR_PUT then startIf v 31 (doColourPut 0) s
  else if a = CAL_REPAIR_CTRL then startIf v 0 (doRepairPass 0) s
  else if a = CAL_FENCE_SEL then s.showFenced
  else if a = COL_LOOP_CFG then s.loopRefresh
  else if a = HIF_DEVQ_CFG then s.showHeld 0
  else if ctxBase ≤ a ∧ (a - ctxBase) % 0x10000 = 0x38 then s.showHeld ((a - ctxBase) / 0x40000)
  else match idxIn a (SCN_ENG_CTRL 0) 0x80 4 with
    | some n => if a = SCN_ENG_CTRL n then startIf v 1 (doScanStop 0 n) (startIf v 0 (doScanStart 0 n) s) else s
    | none =>
      match idxIn a (APT_PORT_CFG 0) 0x40 16 with
      | some p =>
        if a = APT_PORT_CTRL p then startIf v 1 (doAptStatusRequest 0 p) (startIf v 0 (doAptRetrainRequest 0 p) s) else s
      | none => s

/-- A write of LMP_LAMP_DATA_k or CMP_COEF_DATA_k: the shadow behind the window, by the busy rule (R93, R149, R289). -/
def State.writeWindow (s : State) (writer a v : Nat) : Option State :=
  match idxIn a (LMP_LAMP_DATA 0) 4 8 with
  | some k =>
    some (if s.writerBusy writer then s.busyWrite writer a
      else
        let r := s.writeLamp k v
        if r.2 then r.1.limitEvent writer a else r.1)
  | none =>
    match idxIn a (CMP_COEF_DATA 0) 4 3 with
    | some k => some (if s.writerBusy writer then s.busyWrite writer a else (s.coefWrite k v).coefShow)
    | none => none

/-- A write of MTR_MB_CTRL: REQ sends OP, and without REQ the register takes OP (R375). -/
def State.writeMailbox (s : State) (v : Nat) : State :=
  if bitAt v 0 then s.mbRequest (bitsOf v 15 8) [] else s.put MTR_MB_CTRL.OP (bitsOf v 15 8)

/-- The rectangle of a key, with the offset in its registers. -/
def rectOfKey (a : Nat) : Option (Nat × Nat × Nat) :=
  if 0x2510000 ≤ a ∧ a < 0x2510000 + 0x400 * 20 then some ((a - 0x2510000) / 0x400, a % 0x400 / 0x40, a % 0x40)
  else if 0x2520000 ≤ a ∧ a < 0x2520000 + 0x100 * 20 then some ((a - 0x2520000) / 0x100, 16 + a % 0x100 / 0x40, a % 0x40)
  else none

/-- An aligned 32-bit write of a register by its key (R10 to R12, R19, R93, R132). HIF_CTRL.PF_GROUP takes any group: the image's
GROUPS bounds contexts only (R472, Table HIF-18), so no limit event follows (DESIGN CHOICE, log 120). -/
def State.writeReg (s : State) (writer a v : Nat) : State :=
  match lookupReg a with
  | none => s.accessEvent writer a 1
  | some e =>
    let denied := writer == devQ && (layerOfKey a).any (fun n => !(s.holder n).any (fun c => decide (c < 4)))
    if denied then s.accessEvent writer a 7
    else if a = MTR_MB_CTRL then s.writeMailbox v
    else if a = HIF_CTRL then
      (s.holdGroup pfCommit (s.get HIF_CTRL.PF_GROUP)).storeReg writer a v e
    else match (s.writeCommand a v).or (s.writeWindow writer a v) with
      | some t => t
      | none =>
        match idxIn a (HIF_GROUP_CTRL 0) 4 64 with
        | some g =>
          let held := if thas s.hif.aonAct g then s else
            { s with hif := { s.hif with aonAct := tset s.hif.aonAct g (s.flag (HIF_GROUP_CTRL.AON g)) } }
          held.storeReg writer a v e
        | none =>
          match idxIn a (LAN_LANE_CFG 0) 0x40 144 with
          | some l => if a = LAN_LANE_CTRL l then doLaneLoopWrite 0 l (v % 4) s else s.storeReg writer a v e
          | none =>
            match rectOfKey a with
            | some (o, r, off) =>
              if off = 0x10 then doCrcArm 0 o r v s
              else if off ≤ 8 then
                (let t := s.storeReg writer a v e
                 if t.rd a = s.rd a then t else t.rectChanged o r)
              else s.storeReg writer a v e
            | none =>
              match layerOfKey a with
              | some n =>
                if a = CMP_LYR_LIVE n then startIf v 1 (doLayerUpdate 0 n) (doLayerLiveWrite 0 n (bitAt v 0) s)
                else s.storeReg writer a v e
              | none => (s.storeReg writer a v e).afterWrite a v

/-- An aligned 32-bit write of a context page (R81, R82, Table HIF-3). -/
def State.writePage (s : State) (c off v : Nat) : State :=
  let key := ctxBase + 0x10000 * c + off
  if !s.ctxExists c then s.accessEvent c key 5
  else if 0x8000 ≤ off then
    match s.windowKey c off with
    | some a => s.writeReg c a v
    | none => s
  else match s.writePageCommand c off v with
    | some t => t
    | none => s.writeReg c key v

/-- An aligned 32-bit write. -/
def State.write32 (s : State) (f addr v : Nat) : State :=
  let p := barPlace f addr
  if !s.reaches f p then s
  else match p with
    | .block a => s.writeReg devQ a v
    | .msix off => s.writeMsix f off v
    | .page c off => s.writePage c off v
    | .door c false => doCmdqDoorbell 0 c v s
    | .door c true => doEvqDoorbell 0 c v s
    | .reserved => s.barEvent f addr 1
    | .outside => s

/-- A write of `width` bytes: 32-bit aligned, 64-bit split with the lower address first; any other form has no effect and is
logged (R8). -/
def State.barWrite (s : State) (f addr width v : Nat) : State :=
  if width = 4 ∧ addr % 4 = 0 then s.write32 f addr (v % 2 ^ 32)
  else if width = 8 ∧ addr % 4 = 0 then (s.write32 f addr (v % 2 ^ 32)).write32 f (addr + 4) (v / 2 ^ 32 % 2 ^ 32)
  else if s.reaches f (barPlace f addr) then s.barEvent f (addr / 4 * 4) 2
  else s

/-- REGISTER_WRITE (R10): function `f` writes `width` bytes of `value` at an address of its BAR0, or of its BAR4 (R80). What
waits for the host goes out as far as the write lets it. -/
def doRegisterWrite (dt f addr width value : Nat) (s : State) : State :=
  (s.tick dt).onLive (fun t => ((t.barWrite f addr width value).busyUnless t).pumpHost)

/-! ### What a read returns -/

/-- The register that a 32-bit aligned read of a place reaches, if any (R7, R74, R81). -/
def State.readAt (s : State) (f addr : Nat) : Option Nat :=
  let p := barPlace f addr
  let a := if !s.reaches f p then none
    else match p with
      | .block a => some a
      | .page c off => if !s.ctxExists c then none else if 0x8000 ≤ off then s.windowKey c off else some (ctxBase + 0x10000 * c + off)
      | _ => none
  a.filter isReg

/-- An aligned 32-bit read: what it returns, and the state it leaves. -/
def State.read32 (s : State) (f addr : Nat) : Nat × State :=
  match barPlace f addr with
  | .msix off => (if s.fnEnabled f then s.readMsix f off else 0, s)
  | _ =>
    match s.readAt f addr with
    | some a => ((s.readReg a).toNat, s.readEffect a)
    | none => (0, s)

/-- A read of `width` bytes at an address of BAR0 (R8): 32-bit aligned, 64-bit split with the lower address first, 8 or 16 bits
within a register without any effect; any other form returns 0 and is logged. -/
def State.barRead (s : State) (f addr width : Nat) : Nat × State :=
  if width = 4 ∧ addr % 4 = 0 then s.read32 f addr
  else if width = 8 ∧ addr % 4 = 0 then
    let lo := s.read32 f addr
    let hi := lo.2.read32 f (addr + 4)
    (lo.1 + hi.1 * 2 ^ 32, hi.2)
  else if (width = 1 ∨ width = 2) ∧ addr % 4 + width ≤ 4 then
    ((s.read32 f (addr / 4 * 4)).1 / 2 ^ (8 * (addr % 4)) % 2 ^ (8 * width), s)
  else if s.reaches f (barPlace f addr) then (0, s.barEvent f (addr / 4 * 4) 2)
  else (0, s)

/-- LATCHED_PAIR_READ (R8, R9): function `f` reads `width` bytes at an address of its BAR0, and its completion carries them. -/
def doLatchedPairRead (dt f addr width : Nat) (s : State) : State :=
  (s.tick dt).onLive fun t =>
    let r := t.barRead f addr width
    r.2.send (.readReply f true (leBytes width r.1))

end Sys2Proof.Machine
end

