-- ==== Sys2Proof/Machine/Exec.lean ====
section
/-! DEFINITION. The meaning of each command as exec answers it. Every command of this block completes: a condition of the
spec that does not hold leaves its effect out (log 2). The rows that change a start-up condition bring GLB_BOOT_STATUS up to
date, and those that end the preparation of a commit the cause shown for it (R98, R441). -/
namespace Sys2Proof.Machine

/-- REGISTER_WRITE (R10). -/
def execRegisterWrite (dt f addr width value : Nat) (s : State) : Host.Outcome State Fault Refusal :=
  .next (doRegisterWrite dt f addr width value s)

/-- LATCHED_PAIR_READ (R9). -/
def execLatchedPairRead (dt : Nat) (r : BarRead) (s : State) : Host.Outcome State Fault Refusal :=
  .next (doLatchedPairRead dt r.fn r.addr r.width s)

/-- SYSTIME_LO_READ (R59). -/
def execSystimeLoRead (dt : Nat) (s : State) : Host.Outcome State Fault Refusal := .next (doSystimeLoRead dt s)

/-- LF_BOUNDARY (R26). -/
def execLfBoundary (s : State) : Host.Outcome State Fault Refusal := .next (doLfBoundary s)

/-- GROUP_TIMEOUT (R97). -/
def execGroupTimeout (dt g : Nat) (s : State) : Host.Outcome State Fault Refusal := .next (doGroupTimeout dt g s)

/-- EVENT_DELIVERY (R18). -/
def execEventDelivery (dt : Nat) (e : FabEvent) (s : State) : Host.Outcome State Fault Refusal :=
  .next (doEventDelivery dt e s)

/-- PLANE_LOAD_START (R241). -/
def execPlaneLoadStart (dt o slot : Nat) (errs : List StoreErr) (s : State) : Host.Outcome State Fault Refusal :=
  .next (doPlaneLoadStart dt o slot errs s)

/-- MIRROR_RESET (R241). -/
def execMirrorReset (dt o slot : Nat) (s : State) : Host.Outcome State Fault Refusal :=
  .next (doMirrorReset dt o slot s)

/-- GATE_EDGE (R294). -/
def execGateEdge (dt o slot line : Nat) (rise : Bool) (s : State) : Host.Outcome State Fault Refusal :=
  .next (doGateEdge dt o slot line rise s)

/-- CURRENT_STEP (R285). -/
def execCurrentStep (dt o slot : Nat) (s : State) : Host.Outcome State Fault Refusal :=
  .next (doCurrentStep dt o slot s)

/-- CHAIN_LATCH (R283). -/
def execChainLatch (dt c : Nat) (s : State) : Host.Outcome State Fault Refusal := .next (doChainLatch dt c s)

/-- SCAN_ENABLE_EDGE (R268). -/
def execScanEnableEdge (dt n slot : Nat) (open_ : Bool) (s : State) : Host.Outcome State Fault Refusal :=
  .next (doScanEnableEdge dt n slot open_ s)

/-- REFERENCE_SAMPLE (R187). -/
def execReferenceSample (dt p raw : Nat) (s : State) : Host.Outcome State Fault Refusal :=
  .next (doReferenceSample dt p raw s)

/-- COMMIT_DECISION_POINT (R30). -/
def execCommitDecisionPoint (s : State) : Host.Outcome State Fault Refusal := .next (doCommitDecisionPoint s)

/-- HBM_RETRAIN_WINDOW (R122). -/
def execHbmRetrainWindow (dt : Nat) (s : State) : Host.Outcome State Fault Refusal := .next (doHbmRetrainWindow dt s)

/-- ARMED_EVENT_TRIGGER (R55). -/
def execArmedEventTrigger (dt input n : Nat) (active : Bool) (s : State) : Host.Outcome State Fault Refusal :=
  .next (doArmedEventTrigger dt input n active s)

/-- REFERENCE_EDGE (R38). -/
def execReferenceEdge (dt r aux : Nat) (s : State) : Host.Outcome State Fault Refusal :=
  .next (doReferenceEdge dt r aux s)

/-- REFERENCE_MISSING (R38). -/
def execReferenceMissing (dt r : Nat) (s : State) : Host.Outcome State Fault Refusal :=
  .next (doReferenceMissing dt r s)

/-- HOLDOVER_EXPIRED (R39). -/
def execHoldoverExpired (dt : Nat) (s : State) : Host.Outcome State Fault Refusal := .next (doHoldoverExpired dt s)

/-- REFERENCE_REVERT (R42). -/
def execReferenceRevert (dt : Nat) (s : State) : Host.Outcome State Fault Refusal := .next (doReferenceRevert dt s)

/-- DPLL_LOCKED (R43). -/
def execDpllLocked (dt : Nat) (s : State) : Host.Outcome State Fault Refusal := .next (doDpllLocked dt s).showBoot

/-- PULLIN_DONE (R40). -/
def execPullinDone (dt : Nat) (s : State) : Host.Outcome State Fault Refusal := .next (doPullinDone dt s)

/-- REF_CTRL_WRITE (R42). -/
def execRefCtrlWrite (dt : Nat) (w : Word) (s : State) : Host.Outcome State Fault Refusal :=
  .next (doRefCtrlWrite dt w s)

/-- SHUTTER_EDGE (R48). -/
def execShutterEdge (dt n : Nat) (high : Bool) (s : State) : Host.Outcome State Fault Refusal :=
  .next (doShutterEdge dt n high s)

/-- SHUTTER_LOST (R50). -/
def execShutterLost (dt n : Nat) (s : State) : Host.Outcome State Fault Refusal := .next (doShutterLost dt n s)

/-- SHUTTER_LATE_CLOSE_CUT (R51). -/
def execShutterLateCloseCut (dt n : Nat) (s : State) : Host.Outcome State Fault Refusal :=
  .next (doShutterLateCloseCut dt n s)

/-- SYSTIME_STEP_ARM (R53). -/
def execSystimeStepArm (dt : Nat) (w : Word) (s : State) : Host.Outcome State Fault Refusal :=
  .next (doSystimeStepArm dt w s)

/-- SNAPSHOT_ARM (R58). -/
def execSnapshotArm (dt : Nat) (atLfn : Bool) (s : State) : Host.Outcome State Fault Refusal :=
  .next (doSnapshotArm dt atLfn s)

/-- SNAPSHOT_RELEASE (R58). -/
def execSnapshotRelease (dt : Nat) (s : State) : Host.Outcome State Fault Refusal := .next (doSnapshotRelease dt s)

/-- BOOT (R435). -/
def execBoot (dt : Nat) (bootSel : Bool) (flash : Nat) (dir : List Byte) (s : State) : Host.Outcome State Fault Refusal :=
  .next (doBoot dt bootSel flash dir s)

/-- FLASH_NO_RESPONSE (R73). -/
def execFlashNoResponse (dt : Nat) (s : State) : Host.Outcome State Fault Refusal := .next (doFlashNoResponse dt s)

/-- IMAGE_LOAD_DONE (R70). -/
def execImageLoadDone (dt : Nat) (bytes : List Byte) (s : State) : Host.Outcome State Fault Refusal :=
  .next (doImageLoadDone dt bytes s).showBoot

/-- HOST_FULL_LOAD (R69). -/
def execHostFullLoad (dt : Nat) (s : State) : Host.Outcome State Fault Refusal := .next (doHostFullLoad dt s)

/-- FLASH_FULL_LOAD_REFUSED (R69). -/
def execFlashFullLoadRefused (dt : Nat) (s : State) : Host.Outcome State Fault Refusal :=
  .next (doFlashFullLoadRefused dt s)

/-- RELOAD_FROM_FLASH (R75). -/
def execReloadFromFlash (dt : Nat) (s : State) : Host.Outcome State Fault Refusal := .next (doReloadFromFlash dt s)

/-- RELOAD_FROM_HOST (R75). -/
def execReloadFromHost (dt : Nat) (s : State) : Host.Outcome State Fault Refusal := .next (doReloadFromHost dt s)

/-- HOST_READ_ERROR (R73). -/
def execHostReadError (dt : Nat) (s : State) : Host.Outcome State Fault Refusal := .next (doHostReadError dt s)

/-- RELOAD_READY (R76). -/
def execReloadReady (dt : Nat) (s : State) : Host.Outcome State Fault Refusal := .next (doReloadReady dt s)

/-- OTP_PROGRAM_HASH_BYTE (R66). -/
def execOtpProgramHashByte (dt slot index data : Nat) (s : State) : Host.Outcome State Fault Refusal :=
  .next (doOtpProgramHashByte dt slot index data s)

/-- OTP_SET_VALID (R66). -/
def execOtpSetValid (dt slot : Nat) (s : State) : Host.Outcome State Fault Refusal := .next (doOtpSetValid dt slot s)

/-- OTP_SET_REVOKED (R66). -/
def execOtpSetRevoked (dt slot : Nat) (s : State) : Host.Outcome State Fault Refusal :=
  .next (doOtpSetRevoked dt slot s)

/-- OTP_RAISE_FLOOR (R66). -/
def execOtpRaiseFloor (dt data : Nat) (s : State) : Host.Outcome State Fault Refusal :=
  .next (doOtpRaiseFloor dt data s)

/-- OTP_LOCK (R66). -/
def execOtpLock (dt : Nat) (s : State) : Host.Outcome State Fault Refusal := .next (doOtpLock dt s)

/-- SELF_TEST_DONE (R414). -/
def execSelfTestDone (dt ms : Nat) (failed : List UnitId) (s : State) : Host.Outcome State Fault Refusal :=
  .next (doSelfTestDone dt ms failed s).showBoot

/-- APERTURE_WRITE (R87). -/
def execApertureWrite (dt fn off : Nat) (bs : List Byte) (s : State) : Host.Outcome State Fault Refusal :=
  .next (doApertureWrite dt fn off bs s)

/-- APERTURE_READ (R87). -/
def execApertureRead (dt fn off len : Nat) (s : State) : Host.Outcome State Fault Refusal :=
  .next (doApertureRead dt fn off len s)

/-- CMDQ_DOORBELL (R88). -/
def execCmdqDoorbell (dt c tail : Nat) (s : State) : Host.Outcome State Fault Refusal :=
  .next (doCmdqDoorbell dt c tail s)

/-- CMD_ALLOC (R84). -/
def execCmdAlloc (dt c : Nat) (e : RingEntry) (s : State) : Host.Outcome State Fault Refusal :=
  .next (doCmdAlloc dt c e s)

/-- CMD_FREE (R89). -/
def execCmdFree (dt c : Nat) (e : RingEntry) (s : State) : Host.Outcome State Fault Refusal :=
  .next (doCmdFree dt c e s)

/-- CMD_MAP_HOST (R86). -/
def execCmdMapHost (dt c : Nat) (e : RingEntry) (s : State) : Host.Outcome State Fault Refusal :=
  .next (doCmdMapHost dt c e s)

/-- CMD_MAP_REMOTE (R353). -/
def execCmdMapRemote (dt c : Nat) (e : RingEntry) (s : State) : Host.Outcome State Fault Refusal :=
  .next (doCmdMapRemote dt c e s)

/-- CMD_MAP_GRANT (R85). -/
def execCmdMapGrant (dt c : Nat) (e : RingEntry) (s : State) : Host.Outcome State Fault Refusal :=
  .next (doCmdMapGrant dt c e s)

/-- CMD_UNMAP (R89). -/
def execCmdUnmap (dt c : Nat) (e : RingEntry) (s : State) : Host.Outcome State Fault Refusal :=
  .next (doCmdUnmap dt c e s)

/-- CMD_GRANT (R83). -/
def execCmdGrant (dt c : Nat) (e : RingEntry) (s : State) : Host.Outcome State Fault Refusal :=
  .next (doCmdGrant dt c e s)

/-- CMD_REVOKE (R89). -/
def execCmdRevoke (dt c : Nat) (e : RingEntry) (s : State) : Host.Outcome State Fault Refusal :=
  .next (doCmdRevoke dt c e s)

/-- CMD_FENCE (R88). -/
def execCmdFence (dt c : Nat) (e : RingEntry) (s : State) : Host.Outcome State Fault Refusal :=
  .next (doCmdFence dt c e s)

/-- CMD_BAD_OPCODE (R88). -/
def execCmdBadOpcode (dt c : Nat) (e : RingEntry) (s : State) : Host.Outcome State Fault Refusal :=
  .next (doCmdBadOpcode dt c e s)

/-- PAGE_SCRUB_DONE (R84). -/
def execPageScrubDone (dt page : Nat) (s : State) : Host.Outcome State Fault Refusal :=
  .next (doPageScrubDone dt page s)

/-- EVQ_DOORBELL (R100). -/
def execEvqDoorbell (dt q head : Nat) (s : State) : Host.Outcome State Fault Refusal :=
  .next (doEvqDoorbell dt q head s)

/-- LAYER_ALLOCATE (R90). -/
def execLayerAllocate (dt c slot : Nat) (video : Bool) (s : State) : Host.Outcome State Fault Refusal :=
  .next (doLayerAllocate dt c slot video s)

/-- LAYER_RELEASE (R91). -/
def execLayerRelease (dt c slot : Nat) (s : State) : Host.Outcome State Fault Refusal :=
  .next (doLayerRelease dt c slot s)

/-- CTX_LIMITS_WRITE (R472). -/
def execCtxLimitsWrite (dt c i : Nat) (w : Word) (s : State) : Host.Outcome State Fault Refusal :=
  .next (doCtxLimitsWrite dt c i w s)

/-- COMMIT_REQUEST (R93). -/
def execCommitRequest (dt c : Nat) (atLfn : Bool) (tag : Nat) (s : State) : Host.Outcome State Fault Refusal :=
  .next (doCommitRequest dt c atLfn tag s)

/-- COMMIT_CANCEL (R93). -/
def execCommitCancel (dt c : Nat) (s : State) : Host.Outcome State Fault Refusal := .next (doCommitCancel dt c s)

/-- COMMIT_ADMIT (R94). -/
def execCommitAdmit (dt c : Nat) (s : State) : Host.Outcome State Fault Refusal := .next (doCommitAdmit dt c s)

/-- FORMING_PASS_DONE (R94). -/
def execFormingPassDone (dt o : Nat) (s : State) : Host.Outcome State Fault Refusal :=
  .next (doFormingPassDone dt o s).showCommits

/-- FETCH_WINDOW_END (R92). -/
def execFetchWindowEnd (dt : Nat) (s : State) : Host.Outcome State Fault Refusal := .next (doFetchWindowEnd dt s)

/-- EVENT_QUEUE_WRITE (R100). -/
def execEventQueueWrite (dt q : Nat) (s : State) : Host.Outcome State Fault Refusal := .next (doEventQueueWrite dt q s)

/-- MSIX_MOD_TIMEOUT (R102). -/
def execMsixModTimeout (dt q : Nat) (s : State) : Host.Outcome State Fault Refusal := .next (doMsixModTimeout dt q s)

/-- MASTER_ENABLE_CLEAR (R104). -/
def execMasterEnableClear (dt f : Nat) (lines : List Nat) (s : State) : Host.Outcome State Fault Refusal :=
  .next (doMasterEnableClear dt f lines s)

/-- MASTER_ENABLE_SET (R104). -/
def execMasterEnableSet (dt f : Nat) (s : State) : Host.Outcome State Fault Refusal := .next (doMasterEnableSet dt f s)

/-- FUNCTION_LEVEL_RESET (R105). -/
def execFunctionLevelReset (dt f : Nat) (s : State) : Host.Outcome State Fault Refusal :=
  .next (doFunctionLevelReset dt f s)

/-- CONTEXT_RESET (R105). -/
def execContextReset (dt c : Nat) (s : State) : Host.Outcome State Fault Refusal := .next (doContextReset dt c s)

/-- PERST_ASSERT (R106). -/
def execPerstAssert (dt : Nat) (s : State) : Host.Outcome State Fault Refusal := .next (doPerstAssert dt s)

/-- PERST_RELEASE (R106). -/
def execPerstRelease (dt : Nat) (s : State) : Host.Outcome State Fault Refusal := .next (doPerstRelease dt s)

/-- LINK_DOWN (R106). -/
def execLinkDown (dt : Nat) (s : State) : Host.Outcome State Fault Refusal := .next (doLinkDown dt s)

/-- VF_ENABLE (R81). -/
def execVfEnable (dt n : Nat) (s : State) : Host.Outcome State Fault Refusal := .next (doVfEnable dt n s)

/-- STALE_COMPLETION (R103). -/
def execStaleCompletion (dt f : Nat) (s : State) : Host.Outcome State Fault Refusal := .next (doStaleCompletion dt f s)

/-- HOST_COMPLETION_TIMEOUT (R103). -/
def execHostCompletionTimeout (dt f : Nat) (old : Bool) (s : State) : Host.Outcome State Fault Refusal :=
  .next (doHostCompletionTimeout dt f old s)

/-- MEM_REQUEST (R111). -/
def execMemRequest (dt e c va len pixels : Nat) (wr : Bool) (deadline : Nat) (s : State) : Host.Outcome State Fault Refusal :=
  .next (doMemRequest dt e c va len pixels wr deadline s)

/-- PC_COMMAND_ISSUE (R113). -/
def execPcCommandIssue (dt p : Nat) (s : State) : Host.Outcome State Fault Refusal := .next (doPcCommandIssue dt p s)

/-- MEM_COMPLETION (R114). -/
def execMemCompletion (dt e k ecc : Nat) (s : State) : Host.Outcome State Fault Refusal :=
  .next (doMemCompletion dt e k ecc s)

/-- DEADLINE_MISS (R115). -/
def execDeadlineMiss (dt e k : Nat) (s : State) : Host.Outcome State Fault Refusal := .next (doDeadlineMiss dt e k s)

/-- REFRESH_DUE (R120). -/
def execRefreshDue (dt p : Nat) (s : State) : Host.Outcome State Fault Refusal := .next (doRefreshDue dt p s)

/-- STACK_TEMP_READ (R121). -/
def execStackTempRead (dt st : Nat) (reading : Option Int) (s : State) : Host.Outcome State Fault Refusal :=
  .next (doStackTempRead dt st reading s)

/-- RETRAIN_OVERDUE (R122). -/
def execRetrainOverdue (dt p : Nat) (s : State) : Host.Outcome State Fault Refusal := .next (doRetrainOverdue dt p s)

/-- PARITY_ERROR (R123). -/
def execParityError (dt p lane e k : Nat) (s : State) : Host.Outcome State Fault Refusal :=
  .next (doParityError dt p lane e k s)

/-- SELF_REFRESH_ENTRY (R125). -/
def execSelfRefreshEntry (dt : Nat) (s : State) : Host.Outcome State Fault Refusal := .next (doSelfRefreshEntry dt s)

/-- SELF_REFRESH_EXIT (R125). -/
def execSelfRefreshExit (dt : Nat) (s : State) : Host.Outcome State Fault Refusal := .next (doSelfRefreshExit dt s)

/-- PATROL_SCRUB (R127). -/
def execPatrolScrub (dt dpa found : Nat) (s : State) : Host.Outcome State Fault Refusal :=
  .next (doPatrolScrub dt dpa found s)

/-- HBM_TRAINING_DONE (R129). -/
def execHbmTrainingDone (dt : Nat) (ok : Bool) (failPc : Nat) (s : State) : Host.Outcome State Fault Refusal :=
  .next (doHbmTrainingDone dt ok failPc s).showBoot

/-- LAYER_LIVE_WRITE (R136). -/
def execLayerLiveWrite (dt n : Nat) (live : Bool) (s : State) : Host.Outcome State Fault Refusal :=
  .next (doLayerLiveWrite dt n live s)

/-- LAYER_UPDATE (R136). -/
def execLayerUpdate (dt n : Nat) (s : State) : Host.Outcome State Fault Refusal := .next (doLayerUpdate dt n s)

/-- TABLE_LOAD_DONE (R174). -/
def execTableLoadDone (dt kind i : Nat) (lost : Bool) (s : State) : Host.Outcome State Fault Refusal :=
  .next (doTableLoadDone dt kind i lost s).showCommits

/-- LAYER_UNDERRUN (R162). -/
def execLayerUnderrun (dt n o line fault : Nat) (s : State) : Host.Outcome State Fault Refusal :=
  .next (doLayerUnderrun dt n o line fault s)

/-- WRITEBACK_DONE (R159). -/
def execWritebackDone (dt o : Nat) (lost : Bool) (s : State) : Host.Outcome State Fault Refusal :=
  .next (doWritebackDone dt o lost s)

/-- BOOK_BUILD_DONE (R195). -/
def execBookBuildDone (dt slot : Nat) (s : State) : Host.Outcome State Fault Refusal :=
  .next (doBookBuildDone dt slot s).showCommits

/-- TAIL_DONE (R207). -/
def execTailDone (dt o : Nat) (s : State) : Host.Outcome State Fault Refusal := .next (doTailDone dt o s).showCommits

/-- STORE_ZERO_DONE (R204). -/
def execStoreZeroDone (dt : Nat) (s : State) : Host.Outcome State Fault Refusal := .next (doStoreZeroDone dt s).showBoot

/-- STORE_SCRUB (R210). -/
def execStoreScrub (dt : Nat) (errs : List StoreErr) (s : State) : Host.Outcome State Fault Refusal :=
  .next (doStoreScrub dt errs s)

/-- SPARE_ROW_COPY_DONE (R211). -/
def execSpareRowCopyDone (dt bank row : Nat) (s : State) : Host.Outcome State Fault Refusal :=
  .next (doSpareRowCopyDone dt bank row s)

/-- COMPILE_START (R227). -/
def execCompileStart (dt o : Nat) (s : State) : Host.Outcome State Fault Refusal := .next (doCompileStart dt o s)

/-- COMPILE_DONE (R219). -/
def execCompileDone (dt o : Nat) (s : State) : Host.Outcome State Fault Refusal :=
  .next (doCompileDone dt o s).showCommits

/-- REPLAY_ENTER (R233). -/
def execReplayEnter (dt o : Nat) (s : State) : Host.Outcome State Fault Refusal := .next (doReplayEnter dt o s)

/-- STATIC_ENTER (R234). -/
def execStaticEnter (dt o : Nat) (s : State) : Host.Outcome State Fault Refusal := .next (doStaticEnter dt o s)

/-- LOAD_DEADLINE (R244). -/
def execLoadDeadline (dt o slot lfn te done : Nat) (s : State) : Host.Outcome State Fault Refusal :=
  .next (doLoadDeadline dt o slot lfn te done s)

/-- TE_IN_CLOSE (R247). -/
def execTeInClose (dt line : Nat) (s : State) : Host.Outcome State Fault Refusal := .next (doTeInClose dt line s)

/-- BC_TEMP (R249). -/
def execBcTemp (dt p band temp : Nat) (s : State) : Host.Outcome State Fault Refusal :=
  .next (doBcTemp dt p band temp s)

/-- BC_TE (R249). -/
def execBcTe (dt p : Nat) (open_ : Bool) (s : State) : Host.Outcome State Fault Refusal := .next (doBcTe dt p open_ s)

/-- BC_ERROR (R249). -/
def execBcError (dt p code block : Nat) (s : State) : Host.Outcome State Fault Refusal :=
  .next (doBcError dt p code block s)

/-- BC_HEALTH (R249). -/
def execBcHealth (dt p stuck : Nat) (s : State) : Host.Outcome State Fault Refusal := .next (doBcHealth dt p stuck s)

/-- BC_STATUS (R249). -/
def execBcStatus (dt p vendor model firmware rows cols : Nat) (s : State) : Host.Outcome State Fault Refusal :=
  .next (doBcStatus dt p vendor model firmware rows cols s)

/-- BC_RETRAIN_REQ (R255). -/
def execBcRetrainReq (dt p : Nat) (widthReq : Bool) (s : State) : Host.Outcome State Fault Refusal :=
  .next (doBcRetrainReq dt p widthReq s)

/-- BC_ECHO (R250). -/
def execBcEcho (dt p roundPs : Nat) (s : State) : Host.Outcome State Fault Refusal := .next (doBcEcho dt p roundPs s)

/-- BC_EPOCH (R253). -/
def execBcEpoch (dt p highest : Nat) (s : State) : Host.Outcome State Fault Refusal := .next (doBcEpoch dt p highest s)

/-- BC_LOST (R251). -/
def execBcLost (dt p : Nat) (s : State) : Host.Outcome State Fault Refusal := .next (doBcLost dt p s)

/-- PORT_TRAINED (R254). -/
def execPortTrained (dt p : Nat) (s : State) : Host.Outcome State Fault Refusal := .next (doPortTrained dt p s).showBoot

/-- PORT_ALIGNED (R254). -/
def execPortAligned (dt p : Nat) (s : State) : Host.Outcome State Fault Refusal := .next (doPortAligned dt p s).showBoot

/-- PORT_TRAIN_TIMEOUT (R254). -/
def execPortTrainTimeout (dt p : Nat) (s : State) : Host.Outcome State Fault Refusal :=
  .next (doPortTrainTimeout dt p s).showBoot

/-- PORT_FAULT_RETRY (R254). -/
def execPortFaultRetry (dt p : Nat) (s : State) : Host.Outcome State Fault Refusal := .next (doPortFaultRetry dt p s)

/-- APT_RETRAIN_REQUEST (R255). -/
def execAptRetrainRequest (dt p : Nat) (s : State) : Host.Outcome State Fault Refusal :=
  .next (doAptRetrainRequest dt p s)

/-- APT_STATUS_REQUEST (R249). -/
def execAptStatusRequest (dt p : Nat) (s : State) : Host.Outcome State Fault Refusal :=
  .next (doAptStatusRequest dt p s)

/-- PORT_RETRAIN_DONE (R254). -/
def execPortRetrainDone (dt p : Nat) (s : State) : Host.Outcome State Fault Refusal := .next (doPortRetrainDone dt p s)

/-- SCAN_START (R274). -/
def execScanStart (dt n : Nat) (s : State) : Host.Outcome State Fault Refusal := .next (doScanStart dt n s)

/-- SCAN_STOP (R275). -/
def execScanStop (dt n : Nat) (s : State) : Host.Outcome State Fault Refusal := .next (doScanStop dt n s)

/-- SCAN_OFFSET_DONE (R274). -/
def execScanOffsetDone (dt n : Nat) (s : State) : Host.Outcome State Fault Refusal := .next (doScanOffsetDone dt n s)

/-- SCAN_SEARCH_DONE (R274). -/
def execScanSearchDone (dt n : Nat) (peak : Option Nat) (s : State) : Host.Outcome State Fault Refusal :=
  .next (doScanSearchDone dt n peak s)

/-- SCAN_RAMP_DONE (R274). -/
def execScanRampDone (dt n amp mv : Nat) (reached : Bool) (s : State) : Host.Outcome State Fault Refusal :=
  .next (doScanRampDone dt n amp mv reached s)

/-- SCAN_LOCK_DONE (R274). -/
def execScanLockDone (dt n : Nat) (s : State) : Host.Outcome State Fault Refusal := .next (doScanLockDone dt n s)

/-- SCAN_BRAKE_DONE (R275). -/
def execScanBrakeDone (dt n : Nat) (s : State) : Host.Outcome State Fault Refusal := .next (doScanBrakeDone dt n s)

/-- TURNING_POINT (R265). -/
def execTurningPoint (dt n : Nat) (reverse : Bool) (freq amp mv resid : Nat) (s : State) : Host.Outcome State Fault Refusal :=
  .next (doTurningPoint dt n reverse freq amp mv resid s)

/-- PIXEL_EDGE (R260). -/
def execPixelEdge (dt n x : Nat) (s : State) : Host.Outcome State Fault Refusal := .next (doPixelEdge dt n x s)

/-- LINE_MISS (R267). -/
def execLineMiss (dt n : Nat) (s : State) : Host.Outcome State Fault Refusal := .next (doLineMiss dt n s)

/-- SCAN_STALL (R272). -/
def execScanStall (dt n cause : Nat) (s : State) : Host.Outcome State Fault Refusal := .next (doScanStall dt n cause s)

/-- SCAN_STALL_RESTART (R273). -/
def execScanStallRestart (dt n amp : Nat) (s : State) : Host.Outcome State Fault Refusal :=
  .next (doScanStallRestart dt n amp s)

/-- AMP_LIMIT_EVENT (R271). -/
def execAmpLimitEvent (dt n : Nat) (s : State) : Host.Outcome State Fault Refusal := .next (doAmpLimitEvent dt n s)

/-- CHAIN_UPDATE_START (R285). -/
def execChainUpdateStart (dt c : Nat) (s : State) : Host.Outcome State Fault Refusal :=
  .next (doChainUpdateStart dt c s)

/-- CHAIN_UPDATE_END (R282). -/
def execChainUpdateEnd (dt c delay marker : Nat) (words : List Nat) (s : State) : Host.Outcome State Fault Refusal :=
  .next (doChainUpdateEnd dt c delay marker words s).showBoot

/-- POSITION_CLEAR_FAULT (R287). -/
def execPositionClearFault (dt : Nat) (s : State) : Host.Outcome State Fault Refusal :=
  .next (doPositionClearFault dt s)

/-- WATCHDOG_TOKEN (R297). -/
def execWatchdogToken (dt hi lo : Nat) (s : State) : Host.Outcome State Fault Refusal :=
  .next (doWatchdogToken dt hi lo s)

/-- WATCHDOG_EXPIRY (R297). -/
def execWatchdogExpiry (dt timer : Nat) (s : State) : Host.Outcome State Fault Refusal :=
  .next (doWatchdogExpiry dt timer s)

/-- INTERLOCK_OPEN (R298). -/
def execInterlockOpen (dt ns : Nat) (s : State) : Host.Outcome State Fault Refusal := .next (doInterlockOpen dt ns s)

/-- INTERLOCK_CLOSE (R298). -/
def execInterlockClose (dt : Nat) (s : State) : Host.Outcome State Fault Refusal := .next (doInterlockClose dt s)

/-- INTERLOCK_HOLD_EXPIRY (R298). -/
def execInterlockHoldExpiry (dt : Nat) (s : State) : Host.Outcome State Fault Refusal :=
  .next (doInterlockHoldExpiry dt s)

/-- INTERLOCK_REARM (R298). -/
def execInterlockRearm (dt : Nat) (s : State) : Host.Outcome State Fault Refusal := .next (doInterlockRearm dt s)

/-- FORCE_OFF_WRITE (R296). -/
def execForceOffWrite (dt : Nat) (on : Bool) (s : State) : Host.Outcome State Fault Refusal :=
  .next (doForceOffWrite dt on s)

/-- BUDGET_TICK (R301). -/
def execBudgetTick (dt : Nat) (demands : List Nat) (base pkg main stack0 stack1 : Nat) (s : State) : Host.Outcome State Fault Refusal :=
  .next (doBudgetTick dt demands base pkg main stack0 stack1 s)

/-- DATA_FRAME_RX (R314). -/
def execDataFrameRx (dt l wire : Nat) (s : State) : Host.Outcome State Fault Refusal :=
  .next (doDataFrameRx dt l wire s)

/-- TRAINING_FRAME_RX (R315). -/
def execTrainingFrameRx (dt l : Nat) (words : List Nat) (good adapted : Bool) (s : State) : Host.Outcome State Fault Refusal :=
  .next (doTrainingFrameRx dt l words good adapted s)

/-- STATUS_FRAME_RX (R318). -/
def execStatusFrameRx (dt l : Nat) (words : List Nat) (s : State) : Host.Outcome State Fault Refusal :=
  .next (doStatusFrameRx dt l words s)

/-- STATUS_FRAME_TIMEOUT (R320). -/
def execStatusFrameTimeout (dt l : Nat) (s : State) : Host.Outcome State Fault Refusal :=
  .next (doStatusFrameTimeout dt l s)

/-- LANE_TRAIN_TIMEOUT (R316). -/
def execLaneTrainTimeout (dt l : Nat) (s : State) : Host.Outcome State Fault Refusal :=
  .next (doLaneTrainTimeout dt l s)

/-- LANE_WAKE (R327). -/
def execLaneWake (dt l : Nat) (s : State) : Host.Outcome State Fault Refusal := .next (doLaneWake dt l s)

/-- LANE_WAKE_TIMEOUT (R320). -/
def execLaneWakeTimeout (dt l : Nat) (s : State) : Host.Outcome State Fault Refusal := .next (doLaneWakeTimeout dt l s)

/-- REFCLK_LOST (R321). -/
def execRefclkLost (dt k : Nat) (s : State) : Host.Outcome State Fault Refusal := .next (doRefclkLost dt k s)

/-- REFCLK_RESTORED (R321). -/
def execRefclkRestored (dt k : Nat) (s : State) : Host.Outcome State Fault Refusal := .next (doRefclkRestored dt k s)

/-- LANE_LOOP_WRITE (R328). -/
def execLaneLoopWrite (dt l loop : Nat) (s : State) : Host.Outcome State Fault Refusal :=
  .next (doLaneLoopWrite dt l loop s)

/-- EYE_MEASUREMENT_DONE (R330). -/
def execEyeMeasurementDone (dt l width height : Nat) (s : State) : Host.Outcome State Fault Refusal :=
  .next (doEyeMeasurementDone dt l width height s)

/-- LXS_PORT_TRAINED (R333). -/
def execLxsPortTrained (dt j neigh : Nat) (s : State) : Host.Outcome State Fault Refusal :=
  .next (doLxsPortTrained dt j neigh s)

/-- LXS_PORT_FAULT_RETRY (R333). -/
def execLxsPortFaultRetry (dt j : Nat) (s : State) : Host.Outcome State Fault Refusal :=
  .next (doLxsPortFaultRetry dt j s)

/-- LINK_ACK_TIMEOUT (R335). -/
def execLinkAckTimeout (dt l : Nat) (s : State) : Host.Outcome State Fault Refusal := .next (doLinkAckTimeout dt l s)

/-- HELLO (R337). -/
def execHello (dt j id prio portN : Nat) (started : Bool) (root rootPrio hops sysid gen : Nat) (near : Bool) (s : State) : Host.Outcome State Fault Refusal :=
  .next (doHello dt j id prio portN started root rootPrio hops sysid gen near s)

/-- HELLO_TIMER (R337). -/
def execHelloTimer (dt : Nat) (s : State) : Host.Outcome State Fault Refusal := .next (doHelloTimer dt s)

/-- ELECTION_COMPLETE (R337). -/
def execElectionComplete (dt : Nat) (s : State) : Host.Outcome State Fault Refusal := .next (doElectionComplete dt s)

/-- ATTACH (R338). -/
def execAttach (dt j : Nat) (detach : Bool) (s : State) : Host.Outcome State Fault Refusal :=
  .next (doAttach dt j detach s)

/-- REPORT (R345). -/
def execReport (dt j id : Nat) (conv spare : Bool) (n0 n1 n2 n3 highest : Nat) (s : State) : Host.Outcome State Fault Refusal :=
  .next (doReport dt j id conv spare n0 n1 n2 n3 highest s)

/-- REPORT_QUIET_TIMEOUT (R355). -/
def execReportQuietTimeout (dt : Nat) (s : State) : Host.Outcome State Fault Refusal :=
  .next (doReportQuietTimeout dt s)

/-- ASSIGN (R346). -/
def execAssign (dt j id station : Nat) (valid : Bool) (epoch lfn : Nat) (s : State) : Host.Outcome State Fault Refusal :=
  .next (doAssign dt j id station valid epoch lfn s)

/-- READY_ALL (R355). -/
def execReadyAll (dt j devices spares : Nat) (s : State) : Host.Outcome State Fault Refusal :=
  .next (doReadyAll dt j devices spares s)

/-- TIME (R343). -/
def execTime (dt j time sub ph lfn late : Nat) (off : Int) (s : State) : Host.Outcome State Fault Refusal :=
  .next (doTime dt j time sub ph lfn late off s)

/-- DELAY_REQ (R343). -/
def execDelayReq (dt j t2 : Nat) (s : State) : Host.Outcome State Fault Refusal := .next (doDelayReq dt j t2 s)

/-- DELAY_RESP (R343). -/
def execDelayResp (dt j t1 t2 t3 t4 : Nat) (s : State) : Host.Outcome State Fault Refusal :=
  .next (doDelayResp dt j t1 t2 t3 t4 s)

/-- PARENT_TIMEOUT (R339). -/
def execParentTimeout (dt : Nat) (s : State) : Host.Outcome State Fault Refusal := .next (doParentTimeout dt s)

/-- PREPARE_SEND (R348). -/
def execPrepareSend (dt : Nat) (s : State) : Host.Outcome State Fault Refusal := .next (doPrepareSend dt s)

/-- PREPARE (R348). -/
def execPrepare (dt j target : Nat) (s : State) : Host.Outcome State Fault Refusal := .next (doPrepare dt j target s)

/-- VOTE_POINT (R349). -/
def execVotePoint (dt : Nat) (s : State) : Host.Outcome State Fault Refusal := .next (doVotePoint dt s)

/-- VOTE (R349). -/
def execVote (dt j target rbPend rbReady : Nat) (part : Bool) (ready pend admits : Nat) (s : State) : Host.Outcome State Fault Refusal :=
  .next (doVote dt j target rbPend rbReady part ready pend admits s)

/-- VOTE_DEADLINE (R348). -/
def execVoteDeadline (dt : Nat) (s : State) : Host.Outcome State Fault Refusal := .next (doVoteDeadline dt s)

/-- ROOT_DECIDE (R350). -/
def execRootDecide (dt : Nat) (s : State) : Host.Outcome State Fault Refusal := .next (doRootDecide dt s)

/-- DECISION (R350). -/
def execDecision (dt j target rbApply apply admits prev : Nat) (s : State) : Host.Outcome State Fault Refusal :=
  .next (doDecision dt j target rbApply apply admits prev s).showBoot

/-- COMMIT_ROUND_LOST (R350). -/
def execCommitRoundLost (dt : Nat) (s : State) : Host.Outcome State Fault Refusal := .next (doCommitRoundLost dt s)

/-- DROP (R351). -/
def execDrop (dt j tag group cause origin seq : Nat) (s : State) : Host.Outcome State Fault Refusal :=
  .next (doDrop dt j tag group cause origin seq s)

/-- READ_REQ (R353). -/
def execReadReq (dt j dest src ctx tag size seq off slack : Nat) (s : State) : Host.Outcome State Fault Refusal :=
  .next (doReadReq dt j dest src ctx tag size seq off slack s)

/-- READ_RESP (R353). -/
def execReadResp (dt j dest tag seq status : Nat) (words : List Nat) (s : State) : Host.Outcome State Fault Refusal :=
  .next (doReadResp dt j dest tag seq status words s)

/-- REMOTE_READ_TIMEOUT (R353). -/
def execRemoteReadTimeout (dt tag : Nat) (s : State) : Host.Outcome State Fault Refusal :=
  .next (doRemoteReadTimeout dt tag s)

/-- ROLE (R342). -/
def execRole (dt j op id prio : Nat) (s : State) : Host.Outcome State Fault Refusal := .next (doRole dt j op id prio s)

/-- HANDOVER (R342). -/
def execHandover (dt j id : Nat) (s : State) : Host.Outcome State Fault Refusal := .next (doHandover dt j id s)

/-- CREDIT (R354). -/
def execCredit (dt j req resp : Nat) (s : State) : Host.Outcome State Fault Refusal := .next (doCredit dt j req resp s)

/-- LXS_RETRAIN (R334). -/
def execLxsRetrain (dt j f id : Nat) (change two : Bool) (s : State) : Host.Outcome State Fault Refusal :=
  .next (doLxsRetrain dt j f id change two s)

/-- LXS_RETRAIN_DONE (R334). -/
def execLxsRetrainDone (dt j : Nat) (s : State) : Host.Outcome State Fault Refusal := .next (doLxsRetrainDone dt j s)

/-- LXS_TAKE_ROOT (R342). -/
def execLxsTakeRoot (dt : Nat) (s : State) : Host.Outcome State Fault Refusal := .next (doLxsTakeRoot dt s)

/-- LXS_PROMOTE (R347). -/
def execLxsPromote (dt : Nat) (s : State) : Host.Outcome State Fault Refusal := .next (doLxsPromote dt s)

/-- AUTO_PROMOTE (R347). -/
def execAutoPromote (dt station : Nat) (s : State) : Host.Outcome State Fault Refusal :=
  .next (doAutoPromote dt station s)

/-- LXS_EXPORT_BIND (R352). -/
def execLxsExportBind (dt binding : Nat) (s : State) : Host.Outcome State Fault Refusal :=
  .next (doLxsExportBind dt binding s)

/-- LXS_EXPORT_UNBIND (R352). -/
def execLxsExportUnbind (dt binding : Nat) (s : State) : Host.Outcome State Fault Refusal :=
  .next (doLxsExportUnbind dt binding s)

/-- LAXUS_ALONE_TIMEOUT (R356). -/
def execLaxusAloneTimeout (dt : Nat) (s : State) : Host.Outcome State Fault Refusal := .next (doLaxusAloneTimeout dt s)

/-- MTR_LATCH_OBSERVED (R361). -/
def execMtrLatchObserved (dt c : Nat) (matched : Bool) (clk : Nat) (words : List Nat) (s : State) : Host.Outcome State Fault Refusal :=
  .next (doMtrLatchObserved dt c matched clk words s)

/-- MTR_GAP (R365). -/
def execMtrGap (dt c : Nat) (s : State) : Host.Outcome State Fault Refusal := .next (doMtrGap dt c s)

/-- CLOCK_FAULT (R364). -/
def execClockFault (dt : Nat) (s : State) : Host.Outcome State Fault Refusal := .next (doClockFault dt s)

/-- SEAL_OPENED (R360). -/
def execSealOpened (dt : Nat) (s : State) : Host.Outcome State Fault Refusal := .next (doSealOpened dt s)

/-- SEAL_CLOSED (R369). -/
def execSealClosed (dt : Nat) (s : State) : Host.Outcome State Fault Refusal := .next (doSealClosed dt s)

/-- MTR_RECORD_DUE (R370). -/
def execMtrRecordDue (dt : Nat) (s : State) : Host.Outcome State Fault Refusal := .next (doMtrRecordDue dt s)

/-- MTR_STORE_WRITE_DONE (R372). -/
def execMtrStoreWriteDone (dt : Nat) (ok : Bool) (s : State) : Host.Outcome State Fault Refusal :=
  .next (doMtrStoreWriteDone dt ok s)

/-- MTR_SUPPLY_LOSS (R374). -/
def execMtrSupplyLoss (dt : Nat) (ok : Bool) (s : State) : Host.Outcome State Fault Refusal :=
  .next (doMtrSupplyLoss dt ok s)

/-- MTR_POWER_UP (R372). -/
def execMtrPowerUp (dt : Nat) (vbat : Bool) (s : State) : Host.Outcome State Fault Refusal :=
  .next (doMtrPowerUp dt vbat s)

/-- MSVC_READ (R369). -/
def execMsvcRead (dt op : Nat) (args : List Nat) (crc : Bool) (s : State) : Host.Outcome State Fault Refusal :=
  .next (doMsvcRead dt op args crc s)

/-- MSVC_STAGE (R369). -/
def execMsvcStage (dt : Nat) (block : List Byte) (crc : Bool) (s : State) : Host.Outcome State Fault Refusal :=
  .next (doMsvcStage dt block crc s)

/-- MSVC_COMMIT (R369). -/
def execMsvcCommit (dt : Nat) (crc : Bool) (s : State) : Host.Outcome State Fault Refusal :=
  .next (doMsvcCommit dt crc s)

/-- MSVC_DISCARD (R369). -/
def execMsvcDiscard (dt : Nat) (crc : Bool) (s : State) : Host.Outcome State Fault Refusal :=
  .next (doMsvcDiscard dt crc s)

/-- READ_ID (R375). -/
def execReadId (dt : Nat) (s : State) : Host.Outcome State Fault Refusal := .next (doReadId dt s)

/-- READ_STATUS (R375). -/
def execReadStatus (dt : Nat) (s : State) : Host.Outcome State Fault Refusal := .next (doReadStatus dt s)

/-- READ_RECORD (R376). -/
def execReadRecord (dt seq : Nat) (s : State) : Host.Outcome State Fault Refusal := .next (doReadRecord dt seq s)

/-- EXPORT_RECORD (R377). -/
def execExportRecord (dt seq : Nat) (nonce : List Nat) (s : State) : Host.Outcome State Fault Refusal :=
  .next (doExportRecord dt seq nonce s)

/-- READ_AUDIT (R375). -/
def execReadAudit (dt count : Nat) (s : State) : Host.Outcome State Fault Refusal := .next (doReadAudit dt count s)

/-- READ_PARAMS (R375). -/
def execReadParams (dt : Nat) (s : State) : Host.Outcome State Fault Refusal := .next (doReadParams dt s)

/-- SET_HOST_TIME (R376). -/
def execSetHostTime (dt lo hi : Nat) (s : State) : Host.Outcome State Fault Refusal := .next (doSetHostTime dt lo hi s)

/-- READ_CURRENT (R375). -/
def execReadCurrent (dt : Nat) (s : State) : Host.Outcome State Fault Refusal := .next (doReadCurrent dt s)

/-- MTR_MB_ANSWER (R375). -/
def execMtrMbAnswer (dt : Nat) (s : State) : Host.Outcome State Fault Refusal := .next (doMtrMbAnswer dt s)

/-- MTR_MB_TIMEOUT (R375). -/
def execMtrMbTimeout (dt : Nat) (s : State) : Host.Outcome State Fault Refusal := .next (doMtrMbTimeout dt s)

/-- THM_CONVERSION (R378). -/
def execThmConversion (dt raw : Nat) (reading : Option Int) (check : Nat) (s : State) : Host.Outcome State Fault Refusal :=
  .next (doThmConversion dt raw reading check s)

/-- GRACE_END (R385). -/
def execGraceEnd (dt : Nat) (s : State) : Host.Outcome State Fault Refusal := .next (doGraceEnd dt s)

/-- THM_RESTART_REQUEST (R389). -/
def execThmRestartRequest (dt : Nat) (s : State) : Host.Outcome State Fault Refusal := .next (doThmRestartRequest dt s)

/-- THM_FORCE_SHUTDOWN (R383). -/
def execThmForceShutdown (dt : Nat) (s : State) : Host.Outcome State Fault Refusal := .next (doThmForceShutdown dt s)

/-- THM_FORCE_THROTTLE (R382). -/
def execThmForceThrottle (dt : Nat) (on : Bool) (s : State) : Host.Outcome State Fault Refusal :=
  .next (doThmForceThrottle dt on s)

/-- THM_CLEAR_FAULT (R379). -/
def execThmClearFault (dt : Nat) (s : State) : Host.Outcome State Fault Refusal := .next (doThmClearFault dt s)

/-- DOMAIN_WAKE (R396). -/
def execDomainWake (dt d use : Nat) (s : State) : Host.Outcome State Fault Refusal := .next (doDomainWake dt d use s)

/-- DOMAIN_OFF (R396). -/
def execDomainOff (dt d : Nat) (s : State) : Host.Outcome State Fault Refusal := .next (doDomainOff dt d s)

/-- LANE_EYE_SESSION (R402). -/
def execLaneEyeSession (dt : Nat) (s : State) : Host.Outcome State Fault Refusal := .next (doLaneEyeSession dt s)

/-- PSENSE_GAIN_SESSION (R403). -/
def execPsenseGainSession (dt : Nat) (s : State) : Host.Outcome State Fault Refusal := .next (doPsenseGainSession dt s)

/-- COLOUR_SESSION (R404). -/
def execColourSession (dt : Nat) (s : State) : Host.Outcome State Fault Refusal := .next (doColourSession dt s)

/-- TIMEBASE_SESSION (R408). -/
def execTimebaseSession (dt : Nat) (s : State) : Host.Outcome State Fault Refusal := .next (doTimebaseSession dt s)

/-- HBM_MARGIN_SESSION (R409). -/
def execHbmMarginSession (dt : Nat) (s : State) : Host.Outcome State Fault Refusal := .next (doHbmMarginSession dt s)

/-- SESSION_ABORT (R401). -/
def execSessionAbort (dt kind : Nat) (s : State) : Host.Outcome State Fault Refusal := .next (doSessionAbort dt kind s)

/-- SESSION_END (R401). -/
def execSessionEnd (dt kind : Nat) (meas : List Int) (s : State) : Host.Outcome State Fault Refusal :=
  .next (doSessionEnd dt kind meas s)

/-- COLOUR_SLOT (R405). -/
def execColourSlot (dt : Nat) (s : State) : Host.Outcome State Fault Refusal := .next (doColourSlot dt s)

/-- COLOUR_PUT (R406). -/
def execColourPut (dt : Nat) (s : State) : Host.Outcome State Fault Refusal := .next (doColourPut dt s)

/-- COLOUR_MEASUREMENT_TIMEOUT (R406). -/
def execColourMeasurementTimeout (dt : Nat) (s : State) : Host.Outcome State Fault Refusal :=
  .next (doColourMeasurementTimeout dt s)

/-- CAL_SAVE (R412). -/
def execCalSave (dt : Nat) (s : State) : Host.Outcome State Fault Refusal := .next (doCalSave dt s)

/-- CAL_STORE_WRITE_DONE (R412). -/
def execCalStoreWriteDone (dt : Nat) (ok : Bool) (s : State) : Host.Outcome State Fault Refusal :=
  .next (doCalStoreWriteDone dt ok s)

/-- CAL_STORE_READ (R411). -/
def execCalStoreRead (dt : Nat) (copyA copyB : List Byte) (s : State) : Host.Outcome State Fault Refusal :=
  .next (doCalStoreRead dt copyA copyB s).showBoot

/-- SHADOW_MISMATCH (R416). -/
def execShadowMismatch (dt logical : Nat) (s : State) : Host.Outcome State Fault Refusal :=
  .next (doShadowMismatch dt logical s)

/-- CONFIRMATION_DONE (R416). -/
def execConfirmationDone (dt logical agrees : Nat) (s : State) : Host.Outcome State Fault Refusal :=
  .next (doConfirmationDone dt logical agrees s)

/-- FENCED_SIGN_OF_LIFE (R418). -/
def execFencedSignOfLife (dt kind unit_ detail : Nat) (s : State) : Host.Outcome State Fault Refusal :=
  .next (doFencedSignOfLife dt kind unit_ detail s)

/-- REPAIR_PASS (R419). -/
def execRepairPass (dt : Nat) (s : State) : Host.Outcome State Fault Refusal := .next (doRepairPass dt s)

/-- REPAIR_PASS_DONE (R419). -/
def execRepairPassDone (dt : Nat) (passed : List Nat) (s : State) : Host.Outcome State Fault Refusal :=
  .next (doRepairPassDone dt passed s)

/-- CRC_ARM (R424). -/
def execCrcArm (dt o r cfn : Nat) (s : State) : Host.Outcome State Fault Refusal := .next (doCrcArm dt o r cfn s)

/-- EVENT_RAISED (R428). -/
def execEventRaised (dt code ctx a0 a1 a2 : Nat) (s : State) : Host.Outcome State Fault Refusal :=
  .next (doEventRaised dt code ctx a0 a1 a2 s)

/-- RESET_ASSERT (R437). -/
def execResetAssert (dt : Nat) (power : Bool) (s : State) : Host.Outcome State Fault Refusal :=
  .next (doResetAssert dt power s)

/-- RESET_HOLD (R437). -/
def execResetHold (dt : Nat) (short : Bool) (s : State) : Host.Outcome State Fault Refusal :=
  .next (doResetHold dt short s)

/-- BOOT_FREE_FALLBACK (R440). -/
def execBootFreeFallback (dt : Nat) (s : State) : Host.Outcome State Fault Refusal :=
  .next (doBootFreeFallback dt s).showBoot

/-- SNAPSHOT_READY (R57). -/
def execSnapshotReady (dt : Nat) (s : State) : Host.Outcome State Fault Refusal := .next (doSnapshotReady dt s)

/-- GATE_CLOCK_STOP (R23). -/
def execGateClockStop (dt : Nat) (s : State) : Host.Outcome State Fault Refusal := .next (doGateClockStop dt s)

/-- LINK_UP (R101). -/
def execLinkUp (dt : Nat) (s : State) : Host.Outcome State Fault Refusal := .next (doLinkUp dt s)

/-- LANE_SLOT_TRANSMIT (R308). -/
def execLaneSlotTransmit (dt l : Nat) (fault : Bool) (s : State) : Host.Outcome State Fault Refusal :=
  .next (doLaneSlotTransmit dt l fault s)

/-- LANE_IDLE_ENTRY (R327). -/
def execLaneIdleEntry (dt l : Nat) (s : State) : Host.Outcome State Fault Refusal := .next (doLaneIdleEntry dt l s)

/-- PRBS_CHECKER_LOCK (R329). -/
def execPrbsCheckerLock (dt l : Nat) (s : State) : Host.Outcome State Fault Refusal := .next (doPrbsCheckerLock dt l s)

/-- PRBS_CHECKER_LOCK_LOSS (R329). -/
def execPrbsCheckerLockLoss (dt l : Nat) (s : State) : Host.Outcome State Fault Refusal :=
  .next (doPrbsCheckerLockLoss dt l s)

/-- METER_LINK_UP (R375). -/
def execMeterLinkUp (dt : Nat) (s : State) : Host.Outcome State Fault Refusal := .next (doMeterLinkUp dt s)

end Sys2Proof.Machine
end

