-- ==== Sys2Proof/Machine/Dispatch.lean ====
section
/-! DEFINITION. One arm per command. -/
namespace Sys2Proof.Machine

def exec (i : Instr) (s : State) : Host.Outcome State Fault Refusal :=
  match i with
  | .registerWrite dt f addr width value => Sys2Proof.Machine.execRegisterWrite dt f addr width value s
  | .latchedPairRead dt r => Sys2Proof.Machine.execLatchedPairRead dt r s
  | .systimeLoRead dt => Sys2Proof.Machine.execSystimeLoRead dt s
  | .lfBoundary => Sys2Proof.Machine.execLfBoundary s
  | .groupTimeout dt g => Sys2Proof.Machine.execGroupTimeout dt g s
  | .eventDelivery dt e => Sys2Proof.Machine.execEventDelivery dt e s
  | .planeLoadStart dt o slot errs => Sys2Proof.Machine.execPlaneLoadStart dt o slot errs s
  | .mirrorReset dt o slot => Sys2Proof.Machine.execMirrorReset dt o slot s
  | .gateEdge dt o slot line rise => Sys2Proof.Machine.execGateEdge dt o slot line rise s
  | .currentStep dt o slot => Sys2Proof.Machine.execCurrentStep dt o slot s
  | .chainLatch dt c => Sys2Proof.Machine.execChainLatch dt c s
  | .scanEnableEdge dt n slot open_ => Sys2Proof.Machine.execScanEnableEdge dt n slot open_ s
  | .referenceSample dt p raw => Sys2Proof.Machine.execReferenceSample dt p raw s
  | .commitDecisionPoint => Sys2Proof.Machine.execCommitDecisionPoint s
  | .hbmRetrainWindow dt => Sys2Proof.Machine.execHbmRetrainWindow dt s
  | .armedEventTrigger dt input n active => Sys2Proof.Machine.execArmedEventTrigger dt input n active s
  | .referenceEdge dt r aux => Sys2Proof.Machine.execReferenceEdge dt r aux s
  | .referenceMissing dt r => Sys2Proof.Machine.execReferenceMissing dt r s
  | .holdoverExpired dt => Sys2Proof.Machine.execHoldoverExpired dt s
  | .referenceRevert dt => Sys2Proof.Machine.execReferenceRevert dt s
  | .dpllLocked dt => Sys2Proof.Machine.execDpllLocked dt s
  | .pullinDone dt => Sys2Proof.Machine.execPullinDone dt s
  | .refCtrlWrite dt w => Sys2Proof.Machine.execRefCtrlWrite dt w s
  | .shutterEdge dt n high => Sys2Proof.Machine.execShutterEdge dt n high s
  | .shutterLost dt n => Sys2Proof.Machine.execShutterLost dt n s
  | .shutterLateCloseCut dt n => Sys2Proof.Machine.execShutterLateCloseCut dt n s
  | .systimeStepArm dt w => Sys2Proof.Machine.execSystimeStepArm dt w s
  | .snapshotArm dt atLfn => Sys2Proof.Machine.execSnapshotArm dt atLfn s
  | .snapshotRelease dt => Sys2Proof.Machine.execSnapshotRelease dt s
  | .boot dt bootSel flash dir => Sys2Proof.Machine.execBoot dt bootSel flash dir s
  | .flashNoResponse dt => Sys2Proof.Machine.execFlashNoResponse dt s
  | .imageLoadDone dt bytes => Sys2Proof.Machine.execImageLoadDone dt bytes s
  | .hostFullLoad dt => Sys2Proof.Machine.execHostFullLoad dt s
  | .flashFullLoadRefused dt => Sys2Proof.Machine.execFlashFullLoadRefused dt s
  | .reloadFromFlash dt => Sys2Proof.Machine.execReloadFromFlash dt s
  | .reloadFromHost dt => Sys2Proof.Machine.execReloadFromHost dt s
  | .hostReadError dt => Sys2Proof.Machine.execHostReadError dt s
  | .reloadReady dt => Sys2Proof.Machine.execReloadReady dt s
  | .otpProgramHashByte dt slot index data => Sys2Proof.Machine.execOtpProgramHashByte dt slot index data s
  | .otpSetValid dt slot => Sys2Proof.Machine.execOtpSetValid dt slot s
  | .otpSetRevoked dt slot => Sys2Proof.Machine.execOtpSetRevoked dt slot s
  | .otpRaiseFloor dt data => Sys2Proof.Machine.execOtpRaiseFloor dt data s
  | .otpLock dt => Sys2Proof.Machine.execOtpLock dt s
  | .selfTestDone dt ms failed => Sys2Proof.Machine.execSelfTestDone dt ms failed s
  | .apertureWrite dt fn off bs => Sys2Proof.Machine.execApertureWrite dt fn off bs s
  | .apertureRead dt fn off len => Sys2Proof.Machine.execApertureRead dt fn off len s
  | .cmdqDoorbell dt c tail => Sys2Proof.Machine.execCmdqDoorbell dt c tail s
  | .cmdAlloc dt c e => Sys2Proof.Machine.execCmdAlloc dt c e s
  | .cmdFree dt c e => Sys2Proof.Machine.execCmdFree dt c e s
  | .cmdMapHost dt c e => Sys2Proof.Machine.execCmdMapHost dt c e s
  | .cmdMapRemote dt c e => Sys2Proof.Machine.execCmdMapRemote dt c e s
  | .cmdMapGrant dt c e => Sys2Proof.Machine.execCmdMapGrant dt c e s
  | .cmdUnmap dt c e => Sys2Proof.Machine.execCmdUnmap dt c e s
  | .cmdGrant dt c e => Sys2Proof.Machine.execCmdGrant dt c e s
  | .cmdRevoke dt c e => Sys2Proof.Machine.execCmdRevoke dt c e s
  | .cmdFence dt c e => Sys2Proof.Machine.execCmdFence dt c e s
  | .cmdBadOpcode dt c e => Sys2Proof.Machine.execCmdBadOpcode dt c e s
  | .pageScrubDone dt page => Sys2Proof.Machine.execPageScrubDone dt page s
  | .evqDoorbell dt q head => Sys2Proof.Machine.execEvqDoorbell dt q head s
  | .layerAllocate dt c slot video => Sys2Proof.Machine.execLayerAllocate dt c slot video s
  | .layerRelease dt c slot => Sys2Proof.Machine.execLayerRelease dt c slot s
  | .ctxLimitsWrite dt c n w => Sys2Proof.Machine.execCtxLimitsWrite dt c n w s
  | .commitRequest dt c atLfn tag => Sys2Proof.Machine.execCommitRequest dt c atLfn tag s
  | .commitCancel dt c => Sys2Proof.Machine.execCommitCancel dt c s
  | .commitAdmit dt c => Sys2Proof.Machine.execCommitAdmit dt c s
  | .formingPassDone dt o => Sys2Proof.Machine.execFormingPassDone dt o s
  | .fetchWindowEnd dt => Sys2Proof.Machine.execFetchWindowEnd dt s
  | .eventQueueWrite dt q => Sys2Proof.Machine.execEventQueueWrite dt q s
  | .msixModTimeout dt q => Sys2Proof.Machine.execMsixModTimeout dt q s
  | .masterEnableClear dt f lines => Sys2Proof.Machine.execMasterEnableClear dt f lines s
  | .masterEnableSet dt f => Sys2Proof.Machine.execMasterEnableSet dt f s
  | .functionLevelReset dt f => Sys2Proof.Machine.execFunctionLevelReset dt f s
  | .contextReset dt c => Sys2Proof.Machine.execContextReset dt c s
  | .perstAssert dt => Sys2Proof.Machine.execPerstAssert dt s
  | .perstRelease dt => Sys2Proof.Machine.execPerstRelease dt s
  | .linkDown dt => Sys2Proof.Machine.execLinkDown dt s
  | .vfEnable dt n => Sys2Proof.Machine.execVfEnable dt n s
  | .staleCompletion dt f => Sys2Proof.Machine.execStaleCompletion dt f s
  | .hostCompletionTimeout dt f old => Sys2Proof.Machine.execHostCompletionTimeout dt f old s
  | .memRequest dt e c va len pixels wr deadline => Sys2Proof.Machine.execMemRequest dt e c va len pixels wr deadline s
  | .pcCommandIssue dt p => Sys2Proof.Machine.execPcCommandIssue dt p s
  | .memCompletion dt e k ecc => Sys2Proof.Machine.execMemCompletion dt e k ecc s
  | .deadlineMiss dt e k => Sys2Proof.Machine.execDeadlineMiss dt e k s
  | .refreshDue dt p => Sys2Proof.Machine.execRefreshDue dt p s
  | .stackTempRead dt st reading => Sys2Proof.Machine.execStackTempRead dt st reading s
  | .retrainOverdue dt p => Sys2Proof.Machine.execRetrainOverdue dt p s
  | .parityError dt p lane e k => Sys2Proof.Machine.execParityError dt p lane e k s
  | .selfRefreshEntry dt => Sys2Proof.Machine.execSelfRefreshEntry dt s
  | .selfRefreshExit dt => Sys2Proof.Machine.execSelfRefreshExit dt s
  | .patrolScrub dt dpa found => Sys2Proof.Machine.execPatrolScrub dt dpa found s
  | .hbmTrainingDone dt ok failPc => Sys2Proof.Machine.execHbmTrainingDone dt ok failPc s
  | .layerLiveWrite dt n live => Sys2Proof.Machine.execLayerLiveWrite dt n live s
  | .layerUpdate dt n => Sys2Proof.Machine.execLayerUpdate dt n s
  | .tableLoadDone dt kind index lost => Sys2Proof.Machine.execTableLoadDone dt kind index lost s
  | .layerUnderrun dt n o line fault => Sys2Proof.Machine.execLayerUnderrun dt n o line fault s
  | .writebackDone dt o lost => Sys2Proof.Machine.execWritebackDone dt o lost s
  | .bookBuildDone dt slot => Sys2Proof.Machine.execBookBuildDone dt slot s
  | .tailDone dt o => Sys2Proof.Machine.execTailDone dt o s
  | .storeZeroDone dt => Sys2Proof.Machine.execStoreZeroDone dt s
  | .storeScrub dt errs => Sys2Proof.Machine.execStoreScrub dt errs s
  | .spareRowCopyDone dt bank row => Sys2Proof.Machine.execSpareRowCopyDone dt bank row s
  | .compileStart dt o => Sys2Proof.Machine.execCompileStart dt o s
  | .compileDone dt o => Sys2Proof.Machine.execCompileDone dt o s
  | .replayEnter dt o => Sys2Proof.Machine.execReplayEnter dt o s
  | .staticEnter dt o => Sys2Proof.Machine.execStaticEnter dt o s
  | .loadDeadline dt o slot lfn te done => Sys2Proof.Machine.execLoadDeadline dt o slot lfn te done s
  | .teInClose dt line => Sys2Proof.Machine.execTeInClose dt line s
  | .bcTemp dt p band temp => Sys2Proof.Machine.execBcTemp dt p band temp s
  | .bcTe dt p open_ => Sys2Proof.Machine.execBcTe dt p open_ s
  | .bcError dt p code block => Sys2Proof.Machine.execBcError dt p code block s
  | .bcHealth dt p stuck => Sys2Proof.Machine.execBcHealth dt p stuck s
  | .bcStatus dt p vendor model firmware rows cols => Sys2Proof.Machine.execBcStatus dt p vendor model firmware rows cols s
  | .bcRetrainReq dt p widthReq => Sys2Proof.Machine.execBcRetrainReq dt p widthReq s
  | .bcEcho dt p roundPs => Sys2Proof.Machine.execBcEcho dt p roundPs s
  | .bcEpoch dt p highest => Sys2Proof.Machine.execBcEpoch dt p highest s
  | .bcLost dt p => Sys2Proof.Machine.execBcLost dt p s
  | .portTrained dt p => Sys2Proof.Machine.execPortTrained dt p s
  | .portAligned dt p => Sys2Proof.Machine.execPortAligned dt p s
  | .portTrainTimeout dt p => Sys2Proof.Machine.execPortTrainTimeout dt p s
  | .portFaultRetry dt p => Sys2Proof.Machine.execPortFaultRetry dt p s
  | .aptRetrainRequest dt p => Sys2Proof.Machine.execAptRetrainRequest dt p s
  | .aptStatusRequest dt p => Sys2Proof.Machine.execAptStatusRequest dt p s
  | .portRetrainDone dt p => Sys2Proof.Machine.execPortRetrainDone dt p s
  | .scanStart dt n => Sys2Proof.Machine.execScanStart dt n s
  | .scanStop dt n => Sys2Proof.Machine.execScanStop dt n s
  | .scanOffsetDone dt n => Sys2Proof.Machine.execScanOffsetDone dt n s
  | .scanSearchDone dt n peak => Sys2Proof.Machine.execScanSearchDone dt n peak s
  | .scanRampDone dt n amp mv reached => Sys2Proof.Machine.execScanRampDone dt n amp mv reached s
  | .scanLockDone dt n => Sys2Proof.Machine.execScanLockDone dt n s
  | .scanBrakeDone dt n => Sys2Proof.Machine.execScanBrakeDone dt n s
  | .turningPoint dt n reverse freq amp mv resid => Sys2Proof.Machine.execTurningPoint dt n reverse freq amp mv resid s
  | .pixelEdge dt n x => Sys2Proof.Machine.execPixelEdge dt n x s
  | .lineMiss dt n => Sys2Proof.Machine.execLineMiss dt n s
  | .scanStall dt n cause => Sys2Proof.Machine.execScanStall dt n cause s
  | .scanStallRestart dt n amp => Sys2Proof.Machine.execScanStallRestart dt n amp s
  | .ampLimitEvent dt n => Sys2Proof.Machine.execAmpLimitEvent dt n s
  | .chainUpdateStart dt c => Sys2Proof.Machine.execChainUpdateStart dt c s
  | .chainUpdateEnd dt c delay marker words => Sys2Proof.Machine.execChainUpdateEnd dt c delay marker words s
  | .positionClearFault dt => Sys2Proof.Machine.execPositionClearFault dt s
  | .watchdogToken dt hi lo => Sys2Proof.Machine.execWatchdogToken dt hi lo s
  | .watchdogExpiry dt timer => Sys2Proof.Machine.execWatchdogExpiry dt timer s
  | .interlockOpen dt ns => Sys2Proof.Machine.execInterlockOpen dt ns s
  | .interlockClose dt => Sys2Proof.Machine.execInterlockClose dt s
  | .interlockHoldExpiry dt => Sys2Proof.Machine.execInterlockHoldExpiry dt s
  | .interlockRearm dt => Sys2Proof.Machine.execInterlockRearm dt s
  | .forceOffWrite dt on => Sys2Proof.Machine.execForceOffWrite dt on s
  | .budgetTick dt demands base pkg main stack0 stack1 => Sys2Proof.Machine.execBudgetTick dt demands base pkg main stack0 stack1 s
  | .dataFrameRx dt l wire => Sys2Proof.Machine.execDataFrameRx dt l wire s
  | .trainingFrameRx dt l words good adapted => Sys2Proof.Machine.execTrainingFrameRx dt l words good adapted s
  | .statusFrameRx dt l words => Sys2Proof.Machine.execStatusFrameRx dt l words s
  | .statusFrameTimeout dt l => Sys2Proof.Machine.execStatusFrameTimeout dt l s
  | .laneTrainTimeout dt l => Sys2Proof.Machine.execLaneTrainTimeout dt l s
  | .laneWake dt l => Sys2Proof.Machine.execLaneWake dt l s
  | .laneWakeTimeout dt l => Sys2Proof.Machine.execLaneWakeTimeout dt l s
  | .refclkLost dt k => Sys2Proof.Machine.execRefclkLost dt k s
  | .refclkRestored dt k => Sys2Proof.Machine.execRefclkRestored dt k s
  | .laneLoopWrite dt l loop => Sys2Proof.Machine.execLaneLoopWrite dt l loop s
  | .eyeMeasurementDone dt l width height => Sys2Proof.Machine.execEyeMeasurementDone dt l width height s
  | .lxsPortTrained dt j neigh => Sys2Proof.Machine.execLxsPortTrained dt j neigh s
  | .lxsPortFaultRetry dt j => Sys2Proof.Machine.execLxsPortFaultRetry dt j s
  | .linkAckTimeout dt l => Sys2Proof.Machine.execLinkAckTimeout dt l s
  | .hello dt j id prio portN started root rootPrio hops sysid gen near => Sys2Proof.Machine.execHello dt j id prio portN started root rootPrio hops sysid gen near s
  | .helloTimer dt => Sys2Proof.Machine.execHelloTimer dt s
  | .electionComplete dt => Sys2Proof.Machine.execElectionComplete dt s
  | .attach dt j detach => Sys2Proof.Machine.execAttach dt j detach s
  | .report dt j id conv spare n0 n1 n2 n3 highest => Sys2Proof.Machine.execReport dt j id conv spare n0 n1 n2 n3 highest s
  | .reportQuietTimeout dt => Sys2Proof.Machine.execReportQuietTimeout dt s
  | .assign dt j id station valid epoch lfn => Sys2Proof.Machine.execAssign dt j id station valid epoch lfn s
  | .readyAll dt j devices spares => Sys2Proof.Machine.execReadyAll dt j devices spares s
  | .time dt j time sub ph lfn late off => Sys2Proof.Machine.execTime dt j time sub ph lfn late off s
  | .delayReq dt j t2 => Sys2Proof.Machine.execDelayReq dt j t2 s
  | .delayResp dt j t1 t2 t3 t4 => Sys2Proof.Machine.execDelayResp dt j t1 t2 t3 t4 s
  | .parentTimeout dt => Sys2Proof.Machine.execParentTimeout dt s
  | .prepareSend dt => Sys2Proof.Machine.execPrepareSend dt s
  | .prepare dt j target => Sys2Proof.Machine.execPrepare dt j target s
  | .votePoint dt => Sys2Proof.Machine.execVotePoint dt s
  | .vote dt j target rbPend rbReady part ready pend admits => Sys2Proof.Machine.execVote dt j target rbPend rbReady part ready pend admits s
  | .voteDeadline dt => Sys2Proof.Machine.execVoteDeadline dt s
  | .rootDecide dt => Sys2Proof.Machine.execRootDecide dt s
  | .decision dt j target rbApply apply admits prev => Sys2Proof.Machine.execDecision dt j target rbApply apply admits prev s
  | .commitRoundLost dt => Sys2Proof.Machine.execCommitRoundLost dt s
  | .drop dt j tag group cause origin seq => Sys2Proof.Machine.execDrop dt j tag group cause origin seq s
  | .readReq dt j dest src ctx tag size seq off slack => Sys2Proof.Machine.execReadReq dt j dest src ctx tag size seq off slack s
  | .readResp dt j dest tag seq status words => Sys2Proof.Machine.execReadResp dt j dest tag seq status words s
  | .remoteReadTimeout dt tag => Sys2Proof.Machine.execRemoteReadTimeout dt tag s
  | .role dt j op id prio => Sys2Proof.Machine.execRole dt j op id prio s
  | .handover dt j id => Sys2Proof.Machine.execHandover dt j id s
  | .credit dt j req resp => Sys2Proof.Machine.execCredit dt j req resp s
  | .lxsRetrain dt j f id change two => Sys2Proof.Machine.execLxsRetrain dt j f id change two s
  | .lxsRetrainDone dt j => Sys2Proof.Machine.execLxsRetrainDone dt j s
  | .lxsTakeRoot dt => Sys2Proof.Machine.execLxsTakeRoot dt s
  | .lxsPromote dt => Sys2Proof.Machine.execLxsPromote dt s
  | .autoPromote dt station => Sys2Proof.Machine.execAutoPromote dt station s
  | .lxsExportBind dt binding => Sys2Proof.Machine.execLxsExportBind dt binding s
  | .lxsExportUnbind dt binding => Sys2Proof.Machine.execLxsExportUnbind dt binding s
  | .laxusAloneTimeout dt => Sys2Proof.Machine.execLaxusAloneTimeout dt s
  | .mtrLatchObserved dt c matched clk words => Sys2Proof.Machine.execMtrLatchObserved dt c matched clk words s
  | .mtrGap dt c => Sys2Proof.Machine.execMtrGap dt c s
  | .clockFault dt => Sys2Proof.Machine.execClockFault dt s
  | .sealOpened dt => Sys2Proof.Machine.execSealOpened dt s
  | .sealClosed dt => Sys2Proof.Machine.execSealClosed dt s
  | .mtrRecordDue dt => Sys2Proof.Machine.execMtrRecordDue dt s
  | .mtrStoreWriteDone dt ok => Sys2Proof.Machine.execMtrStoreWriteDone dt ok s
  | .mtrSupplyLoss dt ok => Sys2Proof.Machine.execMtrSupplyLoss dt ok s
  | .mtrPowerUp dt vbat => Sys2Proof.Machine.execMtrPowerUp dt vbat s
  | .msvcRead dt op args crc => Sys2Proof.Machine.execMsvcRead dt op args crc s
  | .msvcStage dt block crc => Sys2Proof.Machine.execMsvcStage dt block crc s
  | .msvcCommit dt crc => Sys2Proof.Machine.execMsvcCommit dt crc s
  | .msvcDiscard dt crc => Sys2Proof.Machine.execMsvcDiscard dt crc s
  | .readId dt => Sys2Proof.Machine.execReadId dt s
  | .readStatus dt => Sys2Proof.Machine.execReadStatus dt s
  | .readRecord dt seq => Sys2Proof.Machine.execReadRecord dt seq s
  | .exportRecord dt seq nonce => Sys2Proof.Machine.execExportRecord dt seq nonce s
  | .readAudit dt count => Sys2Proof.Machine.execReadAudit dt count s
  | .readParams dt => Sys2Proof.Machine.execReadParams dt s
  | .setHostTime dt lo hi => Sys2Proof.Machine.execSetHostTime dt lo hi s
  | .readCurrent dt => Sys2Proof.Machine.execReadCurrent dt s
  | .mtrMbAnswer dt => Sys2Proof.Machine.execMtrMbAnswer dt s
  | .mtrMbTimeout dt => Sys2Proof.Machine.execMtrMbTimeout dt s
  | .thmConversion dt raw reading check => Sys2Proof.Machine.execThmConversion dt raw reading check s
  | .graceEnd dt => Sys2Proof.Machine.execGraceEnd dt s
  | .thmRestartRequest dt => Sys2Proof.Machine.execThmRestartRequest dt s
  | .thmForceShutdown dt => Sys2Proof.Machine.execThmForceShutdown dt s
  | .thmForceThrottle dt on => Sys2Proof.Machine.execThmForceThrottle dt on s
  | .thmClearFault dt => Sys2Proof.Machine.execThmClearFault dt s
  | .domainWake dt d use => Sys2Proof.Machine.execDomainWake dt d use s
  | .domainOff dt d => Sys2Proof.Machine.execDomainOff dt d s
  | .laneEyeSession dt => Sys2Proof.Machine.execLaneEyeSession dt s
  | .psenseGainSession dt => Sys2Proof.Machine.execPsenseGainSession dt s
  | .colourSession dt => Sys2Proof.Machine.execColourSession dt s
  | .timebaseSession dt => Sys2Proof.Machine.execTimebaseSession dt s
  | .hbmMarginSession dt => Sys2Proof.Machine.execHbmMarginSession dt s
  | .sessionAbort dt kind => Sys2Proof.Machine.execSessionAbort dt kind s
  | .sessionEnd dt kind meas => Sys2Proof.Machine.execSessionEnd dt kind meas s
  | .colourSlot dt => Sys2Proof.Machine.execColourSlot dt s
  | .colourPut dt => Sys2Proof.Machine.execColourPut dt s
  | .colourMeasurementTimeout dt => Sys2Proof.Machine.execColourMeasurementTimeout dt s
  | .calSave dt => Sys2Proof.Machine.execCalSave dt s
  | .calStoreWriteDone dt ok => Sys2Proof.Machine.execCalStoreWriteDone dt ok s
  | .calStoreRead dt copyA copyB => Sys2Proof.Machine.execCalStoreRead dt copyA copyB s
  | .shadowMismatch dt logical => Sys2Proof.Machine.execShadowMismatch dt logical s
  | .confirmationDone dt logical agrees => Sys2Proof.Machine.execConfirmationDone dt logical agrees s
  | .fencedSignOfLife dt kind unit_ detail => Sys2Proof.Machine.execFencedSignOfLife dt kind unit_ detail s
  | .repairPass dt => Sys2Proof.Machine.execRepairPass dt s
  | .repairPassDone dt passed => Sys2Proof.Machine.execRepairPassDone dt passed s
  | .crcArm dt o r cfn => Sys2Proof.Machine.execCrcArm dt o r cfn s
  | .eventRaised dt code ctx a0 a1 a2 => Sys2Proof.Machine.execEventRaised dt code ctx a0 a1 a2 s
  | .resetAssert dt power => Sys2Proof.Machine.execResetAssert dt power s
  | .resetHold dt short => Sys2Proof.Machine.execResetHold dt short s
  | .bootFreeFallback dt => Sys2Proof.Machine.execBootFreeFallback dt s
  | .snapshotReady dt => Sys2Proof.Machine.execSnapshotReady dt s
  | .gateClockStop dt => Sys2Proof.Machine.execGateClockStop dt s
  | .linkUp dt => Sys2Proof.Machine.execLinkUp dt s
  | .laneSlotTransmit dt l fault => Sys2Proof.Machine.execLaneSlotTransmit dt l fault s
  | .laneIdleEntry dt l => Sys2Proof.Machine.execLaneIdleEntry dt l s
  | .prbsCheckerLock dt l => Sys2Proof.Machine.execPrbsCheckerLock dt l s
  | .prbsCheckerLockLoss dt l => Sys2Proof.Machine.execPrbsCheckerLockLoss dt l s
  | .meterLinkUp dt => Sys2Proof.Machine.execMeterLinkUp dt s

end Sys2Proof.Machine
end

