-- ==== Sys2Proof/Safety.lean ====
section
/-! DEFINITION. What the statements about this block are made of: what a command leaves unchanged, and what holds in every
state of a safe run. -/
namespace Sys2Proof.Machine

/-- What a command answers. -/
abbrev Answer := Host.Outcome State Fault Refusal

/-- A command answers a next state, of which `P` holds. -/
def Completes (o : Answer) (P : State → Prop) : Prop := ∃ t, o = .next t ∧ P t

/-- How many events of a code INT has counted (R431). -/
def State.eventCount (s : State) (code : Nat) : Nat := tget 0 s.int.codeCount code

/-- One event of a code has been raised. -/
def Raised (code : Nat) (s t : State) : Prop := t.eventCount code = (s.eventCount code + 1) % 2 ^ 32

/-! ### Safe states -/

/-- The memory has its canonical form: addresses strictly rising, and no byte listed that reads as an unlisted one. -/
def State.memoryOk (s : State) : Prop := dramWf s.mem.dram = true

/-- One byte of HBM3E, by device physical address. -/
def State.byteAt (s : State) (a : Nat) : Byte := dramGet s.mem.dram a

/-- Every byte of HBM3E reads as before. -/
def SameBytes (s t : State) : Prop := ∀ a, t.byteAt a = s.byteAt a

/-! ### Frames -/

/-- The parts of the state beside time, the registers and the queue. -/
inductive Part where
  | fresh | out | act | glb | tim | cfg | hif | mem | int | cmp | col | pln | seq | apt | scn | lmp | lan | lxs | mtr | thm | cal
  deriving DecidableEq, Repr

/-- A part is as it was. -/
def Part.same : Part → State → State → Prop
  | .fresh, s, t => t.fresh = s.fresh
  | .out, s, t => t.out = s.out
  | .act, s, t => t.act = s.act
  | .glb, s, t => t.glb = s.glb
  | .tim, s, t => t.tim = s.tim
  | .cfg, s, t => t.cfg = s.cfg
  | .hif, s, t => t.hif = s.hif
  | .mem, s, t => t.mem = s.mem
  | .int, s, t => t.int = s.int
  | .cmp, s, t => t.cmp = s.cmp
  | .col, s, t => t.col = s.col
  | .pln, s, t => t.pln = s.pln
  | .seq, s, t => t.seq = s.seq
  | .apt, s, t => t.apt = s.apt
  | .scn, s, t => t.scn = s.scn
  | .lmp, s, t => t.lmp = s.lmp
  | .lan, s, t => t.lan = s.lan
  | .lxs, s, t => t.lxs = s.lxs
  | .mtr, s, t => t.mtr = s.mtr
  | .thm, s, t => t.thm = s.thm
  | .cal, s, t => t.cal = s.cal

/-- Only registers in `W` and parts in `K` change. -/
def Frame (W : Nat → Prop) (K : Part → Prop) (s t : State) : Prop :=
  (∀ a, ¬ W a → t.rd a = s.rd a) ∧ ∀ p, ¬ K p → p.same s t

/-- One register, a family of registers by one or two indices, and the registers of a list of such sets. -/
def one (r : Nat) : Nat → Prop := fun a => a = r
def fam (f : Nat → Nat) : Nat → Prop := fun a => ∃ i, a = f i
def fam2 (f : Nat → Nat → Nat) : Nat → Prop := fun a => ∃ i j, a = f i j
def regsOf (l : List (Nat → Prop)) : Nat → Prop := fun a => ∃ p ∈ l, p a

/-- The registers that delivering an event can change. -/
def events : Nat → Prop := fun a => evReg a = true

/-- The registers of a physical layer in CMP and in COL. -/
def layerBlock (n a : Nat) : Prop :=
  (CMP_LYR_CTRL n ≤ a ∧ a < CMP_LYR_CTRL n + 0x100) ∨ (COL_LYR_CTRL n ≤ a ∧ a < COL_LYR_CTRL n + 0x100)

/-- The context pages, and nothing else. -/
def ctxPages (a : Nat) : Prop := ctxBase ≤ a

/-- The frame of a command: where it answers a next state, only the registers in `l` and the parts in `k` have changed. -/
def Leaves (l : List (Nat → Prop)) (k : List Part) (s : State) (o : Answer) : Prop :=
  ∀ t, o = .next t → Frame (regsOf l) (· ∈ k) s t

/-- The registers of all physical layers. -/
def layers (a : Nat) : Prop := ∃ n, layerBlock n a

/-- Every part. -/
def allParts : List Part :=
  [.fresh, .out, .act, .glb, .tim, .cfg, .hif, .mem, .int, .cmp, .col, .pln, .seq, .apt, .scn, .lmp, .lan, .lxs, .mtr, .thm, .cal]

/-- The registers and the parts of the state that a command can change. REGISTER_WRITE can reach any register, and
RESET_HOLD returns the main die to reset. -/
def footprint : Instr → List (Nat → Prop) × List Part
  | .registerWrite _ _ _ _ _ => ([fun _ => True], allParts)
  | .latchedPairRead _ _ =>
    ([one THM_TEMP, fam MEM_CTL_REFRESH, fam MEM_ENG_STATUS, one MEM_INFLIGHT, events], [.out, .glb, .int])
  | .systimeLoRead _ => ([], [.glb])
  | .lfBoundary =>
    ([fam APT_PORT_RETRAINS, fam APT_PORT_STATE, fam APT_PORT_TEMP, one APT_STATUS, one CAL_CULLET, one CAL_FENCED,
     one CAL_FENCE_DATA_0, one CAL_FENCE_DATA_1, one CAL_FENCE_DATA_2, fam CAL_SESS_STATUS, one CAL_SHADOW_COUNT,
     one CAL_SHADOW_STATUS, one CAL_STORE_STATUS, one CFG_IMAGE_INFO, one CFG_LOAD_CTRL, one CFG_RELOAD_APPLIED,
     one CFG_STATUS, fam (fun k => cmReg k), fam (fun k => cmReg k + 12), fam (fun k => cmReg k + 8), one CMP_DROP_STATUS,
     one CMP_FORMING, fam CMP_LYR_LIVE, fam CMP_LYR_OFF_LFN, fam CMP_LYR_OFF_LINE, fam CMP_LYR_STATUS, fam CMP_OUT_STATUS,
     fam CMP_OUT_UNDERRUNS, one CMP_STATUS, fam COL_DEC_STATUS, fam COL_LUT_STATUS, fam COL_OUT_STATUS,
     fam COL_PRIM_LIGHT, fam COL_PRIM_LOOP, fam COL_PRIM_TARGET, fam COL_PRIM_XY, one COL_STATUS, one GLB_BOOT_STATUS,
     fam GLB_BOOT_TIME, one GLB_SNAP_CTRL, one GLB_SNAP_LFN, one GLB_SNAP_STATUS, fam HIF_CTX_FETCH_DEMAND,
     fam HIF_CTX_PAGES, fam HIF_FN_DROPS, fam HIF_FN_STATUS, fam HIF_GROUP_CTRL, one HIF_POOL_FREE, one HIF_STATUS,
     fam INT_CRC_SUM, one INT_DROPS, one INT_LOG_STATUS, one INT_STATUS, one INT_SUPPRESSED, fam LAN_LANE_EQ,
     fam LAN_LANE_STATE, one LAN_STATUS, one LMP_HB, one LMP_SAFETY, one LXS_COUNT, one LXS_EPOCH, one LXS_EXPORT_STATUS,
     fam LXS_PORT_STATE, one LXS_PROMOTE_STATUS, one LXS_ROOT_HI, one LXS_ROOT_LO, one LXS_STARTUP, one LXS_STATION,
     one LXS_STATUS, one LXS_SYSID_HI, fam PLN_BOOK_STATUS, one PLN_MASK_STATUS, fam PLN_OUT_STATUS, fam PLN_OUT_USED,
     one PLN_STATUS, fam2 (fun i j => rectReg i j 0x14), fam2 (fun i j => rectReg i j 0x18),
     fam2 (fun i j => rectReg i j 0x1C), fam SCN_ENG_EST_ERR, fam SCN_ENG_STATE, one SCN_STATUS, fam SEQ_OUT_COUNTS,
     fam SEQ_OUT_EFF, fam SEQ_OUT_LIGHT, fam SEQ_OUT_MECH, fam SEQ_OUT_SCHED, fam SEQ_OUT_SPAN, one SEQ_SCHED_STATUS,
     one SEQ_SLOT_DATA_0, one SEQ_SLOT_DATA_1, one SEQ_SLOT_DATA_2, one SEQ_SLOT_DATA_3, one SEQ_THROTTLE, one SEQ_TILES,
     fam THM_DOM_ON, one THM_STATUS, one TIM_DPLL_STATUS, one TIM_FREERUN_PERIOD, one TIM_GENLOCK_CFG, one TIM_LF_CFG,
     one TIM_LF_PERIOD, fam TIM_OUT_CFN, fam TIM_OUT_LATE, fam TIM_OUT_REPEATS, one TIM_PHASE_OFFSET, one TIM_REF_CTRL,
     one TIM_REF_STATUS, fam TIM_SHUT_ANGLE, fam TIM_SHUT_CTRL, fam TIM_SHUT_OPEN, fam TIM_SHUT_STATUS,
     fam TIM_SHUT_WIN_LEN, fam TIM_SHUT_WIN_OPEN, one TIM_SYSTIME_CTRL, layers, ctxPages, one CMP_FBC_ERRORS,
     fam CMP_LYR_FBC_ERR, fam MEM_ENG_STATUS, one MEM_INFLIGHT, one LMP_POS_CURRENT, one LMP_POS_FACTOR,
     one LMP_POS_STATE, events], [.fresh, .out, .act, .glb, .tim, .cfg, .hif, .mem, .int, .cmp, .col, .pln, .seq, .apt,
     .scn, .lmp, .lan, .lxs, .thm, .cal])
  | .groupTimeout _ _ =>
    ([fam (fun k => cmReg k), fam (fun k => cmReg k + 12), fam (fun k => cmReg k + 8), one CMP_FORMING, fam CMP_LYR_LIVE,
     fam CMP_OUT_STATUS, fam COL_OUT_STATUS, one COL_STATUS, fam HIF_GROUP_CTRL, fam PLN_OUT_STATUS, one PLN_STATUS, events],
     [.hif, .int, .cmp, .col, .pln])
  | .eventDelivery _ _ => ([one SEQ_LATE, one SCN_STATUS, events], [.out, .int, .seq, .apt, .scn, .lmp])
  | .planeLoadStart _ _ _ _ =>
    ([one CMP_FORMING, fam CMP_LYR_LIVE, fam CMP_OUT_STATUS, fam COL_OUT_STATUS, one COL_STATUS, one PLN_ECC,
     one PLN_ECC_ADDR, fam PLN_OUT_STATUS, one PLN_STATUS, events], [.out, .int, .cmp, .col, .pln, .seq, .apt, .lan])
  | .mirrorReset _ _ _ => ([], [.seq, .apt])
  | .gateEdge _ _ _ _ _ => ([one LMP_STATUS], [.out, .seq, .lmp])
  | .currentStep _ _ _ => ([], [.out, .seq, .lmp])
  | .chainLatch _ _ =>
    ([fam COL_PRIM_LIGHT, fam COL_PRIM_LOOP, fam COL_PRIM_XY, fam LMP_CHAIN_LAST_LATCH, fam LMP_GROUP_LIGHT,
     one LMP_POS_CURRENT, one LMP_POS_FACTOR, one LMP_POS_STATE], [.out, .col, .seq, .lmp])
  | .scanEnableEdge _ _ _ _ => ([one SCN_STATUS], [.out, .seq, .scn])
  | .referenceSample _ _ _ => ([fam COL_PRIM_LOOP, one COL_STATUS, fam LMP_PS_CH_LAST, events], [.int, .seq, .cal])
  | .commitDecisionPoint => ([fam (fun k => cmReg k + 8)], [.hif, .seq])
  | .hbmRetrainWindow _ =>
    ([fam MEM_CTL_PARITY, one MEM_STATUS, one CAL_CULLET, one CAL_FENCED, one CAL_FENCE_DATA_0, one CAL_FENCE_DATA_1,
     one CAL_FENCE_DATA_2, events], [.mem, .int, .seq, .cal])
  | .armedEventTrigger _ _ _ _ => ([events], [.out, .tim, .int, .apt, .scn, .lmp])
  | .referenceEdge _ _ _ => ([one TIM_DPLL_STATUS, one TIM_REF_STATUS, events], [.glb, .tim, .int])
  | .referenceMissing _ _ => ([one TIM_DPLL_STATUS, one TIM_REF_STATUS, events], [.tim, .int])
  | .holdoverExpired _ => ([one TIM_DPLL_STATUS, events], [.tim, .int])
  | .referenceRevert _ => ([], [.tim])
  | .dpllLocked _ => ([one GLB_BOOT_STATUS, fam GLB_BOOT_TIME, one TIM_DPLL_STATUS, events], [.tim, .int])
  | .pullinDone _ => ([one TIM_DPLL_STATUS, events], [.tim, .int])
  | .refCtrlWrite _ _ => ([one TIM_REF_CTRL, events], [.int])
  | .shutterEdge _ n _ => ([one (TIM_SHUT_JITTER n), one (TIM_SHUT_STATUS n), events], [.out, .tim, .int, .scn, .lmp])
  | .shutterLost _ n => ([one (TIM_SHUT_STATUS n), events], [.tim, .int])
  | .shutterLateCloseCut _ _ => ([events], [.out, .tim, .int, .scn, .lmp])
  | .systimeStepArm _ _ => ([one TIM_SYSTIME_CTRL, events], [.tim, .int])
  | .snapshotArm _ _ => ([one GLB_SNAP_CTRL, one GLB_SNAP_STATUS, events], [.glb, .int])
  | .snapshotRelease _ => ([one GLB_SNAP_CTRL, one GLB_SNAP_STATUS], [.glb])
  | .boot _ _ _ _ =>
    ([one CAL_CULLET, one CAL_FENCED, one CAL_FENCE_DATA_0, one CAL_FENCE_DATA_1, one CAL_FENCE_DATA_2, one CFG_FAIL_INFO,
     one CFG_LOAD_CTRL, one CFG_STATUS, one GLB_BOOT_STATUS, one HIF_STATUS, fam LAN_LANE_STATE, one LAN_STATUS,
     one LMP_HB, one LMP_SAFETY, one SEQ_TILES, one TIM_DPLL_STATUS, one TIM_REF_STATUS, events], [.fresh, .out, .glb,
     .tim, .cfg, .int, .pln, .seq, .scn, .lmp, .lan])
  | .flashNoResponse _ =>
    ([one CFG_FAIL_INFO, one CFG_LOAD_CTRL, one CFG_STATUS, one HIF_STATUS, one LMP_HB, one LMP_SAFETY, one TIM_DPLL_STATUS,
     one TIM_REF_STATUS, events], [.out, .glb, .tim, .cfg, .int, .seq, .scn, .lmp])
  | .imageLoadDone _ _ =>
    ([fam APT_PORT_CFG, fam APT_PORT_STATE, one APT_STATUS, one CAL_CULLET, one CFG_FAIL_INFO, one CFG_IMAGE_BUILD,
     one CFG_IMAGE_INFO, one CFG_LOAD_CTRL, one CFG_STATUS, fam CFG_TOPO_HASH, fam CMP_LYR_OWNER, fam CMP_OUT_CUT,
     fam CMP_OUT_INFO, fam CMP_OUT_STATUS, one CMP_STATUS, fam COL_OUT_PRIMS, fam COL_WORK, one GLB_BOOT_STATUS,
     fam GLB_BOOT_TIME, one HIF_STATUS, fam LAN_LANE_CFG, fam LAN_LANE_EQ, fam LAN_LANE_STATE, one LAN_STATUS,
     fam LMP_CHAIN_CFG, fam LMP_CHAIN_CFG2, fam LMP_CHAIN_STATUS, fam LMP_GROUP_CFG, one LMP_HB, one LMP_PKG_LIMIT,
     fam LMP_PS_CH_CFG, fam LMP_RAIL_CEILING, fam LMP_RAIL_LIMIT, one LMP_SAFETY, one LXS_CTRL, fam LXS_PORT_CFG,
     fam LXS_PORT_STATE, one LXS_STATUS, fam MEM_GROUP, one MEM_MAP_CFG, fam PLN_OUT_CFG, fam PLN_OUT_SEGS,
     fam PLN_OUT_SIZE, one PLN_STATUS, fam SCN_ENG_RANGE, fam SCN_ENG_STATE, one SCN_STATUS, fam SEQ_OUT_COUNTS,
     fam SEQ_OUT_EFF, fam SEQ_OUT_LIGHT, fam SEQ_OUT_MECH, fam SEQ_OUT_SCHED, fam SEQ_OUT_SPAN, one SEQ_SCHED_STATUS,
     one SEQ_TILES, one THM_CTRL, fam THM_DOM_HOLD, fam THM_DOM_ON, one TIM_DPLL_STATUS, one TIM_REF_STATUS, events],
     [.out, .glb, .tim, .cfg, .mem, .int, .seq, .apt, .scn, .lmp, .lan, .lxs])
  | .hostFullLoad _ =>
    ([one CFG_FAIL_INFO, one CFG_LOAD_CTRL, one CFG_STATUS, one HIF_STATUS, one LMP_HB, one LMP_SAFETY, one TIM_DPLL_STATUS,
     one TIM_REF_STATUS, events], [.out, .glb, .tim, .cfg, .int, .seq, .scn, .lmp])
  | .flashFullLoadRefused _ => ([one CFG_FAIL_INFO, one CFG_LOAD_CTRL, one CFG_STATUS, events], [.int])
  | .reloadFromFlash _ =>
    ([one CFG_FAIL_INFO, one CFG_LOAD_CTRL, one CFG_STATUS, one HIF_STATUS, one LMP_HB, one LMP_SAFETY, one TIM_DPLL_STATUS,
     one TIM_REF_STATUS, events], [.out, .glb, .tim, .cfg, .int, .seq, .scn, .lmp])
  | .reloadFromHost _ =>
    ([one CFG_FAIL_INFO, one CFG_LOAD_CTRL, one CFG_STATUS, one HIF_STATUS, one LMP_HB, one LMP_SAFETY, one TIM_DPLL_STATUS,
     one TIM_REF_STATUS, events], [.out, .glb, .tim, .cfg, .int, .seq, .scn, .lmp])
  | .hostReadError _ =>
    ([one CFG_FAIL_INFO, one CFG_LOAD_CTRL, one CFG_STATUS, one HIF_STATUS, one LMP_HB, one LMP_SAFETY, one TIM_DPLL_STATUS,
     one TIM_REF_STATUS, events], [.out, .glb, .tim, .cfg, .int, .seq, .scn, .lmp])
  | .reloadReady _ => ([one CFG_STATUS], [.cfg])
  | .otpProgramHashByte _ _ _ _ => ([one CFG_OTP_STATUS, events], [.cfg, .int])
  | .otpSetValid _ _ => ([one CFG_OTP_STATUS, events], [.cfg, .int])
  | .otpSetRevoked _ _ => ([one CFG_OTP_STATUS, events], [.cfg, .int])
  | .otpRaiseFloor _ _ => ([one CFG_OTP_STATUS, events], [.cfg, .int])
  | .otpLock _ => ([one CFG_OTP_STATUS, events], [.cfg, .int])
  | .selfTestDone _ _ _ =>
    ([one CAL_BIST, one CAL_CULLET, one CAL_FENCED, one CAL_FENCE_DATA_0, one CAL_FENCE_DATA_1, one CAL_FENCE_DATA_2,
     one GLB_BOOT_STATUS, fam GLB_BOOT_TIME, fam LAN_LANE_STATE, one LAN_STATUS, one SEQ_TILES, fam THM_DOM_ON,
     fam APT_PORT_CFG, fam APT_PORT_STATE, one APT_STATUS, one CFG_FAIL_INFO, one CFG_IMAGE_BUILD, one CFG_IMAGE_INFO,
     one CFG_LOAD_CTRL, one CFG_STATUS, fam CFG_TOPO_HASH, fam CMP_LYR_OWNER, fam CMP_OUT_CUT, fam CMP_OUT_INFO,
     fam CMP_OUT_STATUS, one CMP_STATUS, fam COL_OUT_PRIMS, fam COL_WORK, one HIF_STATUS, fam LAN_LANE_CFG,
     fam LAN_LANE_EQ, fam LMP_CHAIN_CFG, fam LMP_CHAIN_CFG2, fam LMP_CHAIN_STATUS, fam LMP_GROUP_CFG, one LMP_HB,
     one LMP_PKG_LIMIT, fam LMP_PS_CH_CFG, fam LMP_RAIL_CEILING, fam LMP_RAIL_LIMIT, one LMP_SAFETY, one LXS_CTRL,
     fam LXS_PORT_CFG, fam LXS_PORT_STATE, one LXS_STATUS, fam MEM_GROUP, one MEM_MAP_CFG, fam PLN_OUT_CFG,
     fam PLN_OUT_SEGS, fam PLN_OUT_SIZE, one PLN_STATUS, fam SCN_ENG_RANGE, fam SCN_ENG_STATE, one SCN_STATUS,
     fam SEQ_OUT_COUNTS, fam SEQ_OUT_EFF, fam SEQ_OUT_LIGHT, fam SEQ_OUT_MECH, fam SEQ_OUT_SCHED, fam SEQ_OUT_SPAN,
     one SEQ_SCHED_STATUS, one THM_CTRL, fam THM_DOM_HOLD, one TIM_DPLL_STATUS, one TIM_REF_STATUS, events], [.fresh,
     .out, .glb, .tim, .cfg, .mem, .int, .pln, .seq, .apt, .scn, .lmp, .lan, .lxs, .cal])
  | .apertureWrite _ _ _ _ =>
    ([fam HIF_CTX_FAULT_HI, fam HIF_CTX_FAULT_LO, fam HIF_CTX_STATUS, one MEM_SR_STATUS, one MEM_STATUS, fam THM_DOM_ON,
     events], [.mem, .int])
  | .apertureRead _ _ _ _ =>
    ([fam HIF_CTX_FAULT_HI, fam HIF_CTX_FAULT_LO, fam HIF_CTX_STATUS, one MEM_SR_STATUS, one MEM_STATUS, fam THM_DOM_ON,
     fam MEM_CTL_RAW, events], [.out, .mem, .int])
  | .cmdqDoorbell _ _ _ => ([events], [.out, .hif, .mem, .int])
  | .cmdAlloc _ c _ =>
    ([one (HIF_CTX_CMDQ_HEAD c), fam HIF_CTX_PAGES, one HIF_POOL_FREE, events], [.out, .hif, .mem, .int])
  | .cmdFree _ c _ => ([one (HIF_CTX_CMDQ_HEAD c), events], [.out, .hif, .mem, .int])
  | .cmdMapHost _ c _ => ([one (HIF_CTX_CMDQ_HEAD c), events], [.out, .hif, .mem, .int])
  | .cmdMapRemote _ c _ => ([one (HIF_CTX_CMDQ_HEAD c), events], [.out, .hif, .mem, .int])
  | .cmdMapGrant _ c _ => ([one (HIF_CTX_CMDQ_HEAD c), events], [.out, .hif, .mem, .int])
  | .cmdUnmap _ c _ => ([one (HIF_CTX_CMDQ_HEAD c), events], [.out, .hif, .mem, .int])
  | .cmdGrant _ c _ => ([one (HIF_CTX_CMDQ_HEAD c), events], [.out, .hif, .mem, .int])
  | .cmdRevoke _ c _ => ([one (HIF_CTX_CMDQ_HEAD c), events], [.out, .hif, .mem, .int])
  | .cmdFence _ c _ => ([one (HIF_CTX_CMDQ_HEAD c), events], [.out, .hif, .mem, .int])
  | .cmdBadOpcode _ c _ => ([one (HIF_CTX_CMDQ_HEAD c), events], [.out, .hif, .mem, .int])
  | .pageScrubDone _ _ => ([one HIF_POOL_FREE, one HIF_STATUS], [.hif, .mem])
  | .evqDoorbell _ _ _ => ([one HIF_DEVQ_HEAD, events], [.hif, .int])
  | .layerAllocate _ c _ _ => ([fam CMP_LYR_OWNER, one (HIF_CTX_LAYER_RESULT c), one (HIF_CTX_STATUS c)], [.hif])
  | .layerRelease _ c _ => ([one (HIF_CTX_LAYER_RESULT c), one (HIF_CTX_STATUS c), layers], [.act, .hif, .cmp])
  | .ctxLimitsWrite _ _ _ _ =>
    ([fam HIF_CTX_LIMITS_0, fam HIF_CTX_LIMITS_1, fam HIF_CTX_LIMITS_2, fam HIF_CTX_LIMITS_3, events], [.hif, .int])
  | .commitRequest _ c _ _ =>
    ([one (cmReg c), one (cmReg c + 12), fam (fun k => cmReg k + 8), fam HIF_GROUP_CTRL, one PLN_STATUS, one SEQ_SCHED_STATUS,
     events], [.hif, .int, .cmp, .seq])
  | .commitCancel _ c =>
    ([one (cmReg c), one (cmReg c + 12), fam (fun k => cmReg k + 8), one CMP_FORMING, fam CMP_LYR_LIVE, fam CMP_OUT_STATUS,
     fam COL_OUT_STATUS, one COL_STATUS, fam HIF_GROUP_CTRL, fam PLN_OUT_STATUS, one PLN_STATUS, events], [.hif, .int, .cmp,
     .col, .pln])
  | .commitAdmit _ _ =>
    ([fam (fun k => cmReg k + 8), one CMP_FORMING, fam CMP_LYR_LIVE, fam CMP_OUT_STATUS, fam COL_OUT_STATUS, one COL_STATUS,
     fam PLN_OUT_STATUS, events], [.hif, .int, .cmp, .col])
  | .formingPassDone _ o =>
    ([fam (fun k => cmReg k + 8), one CMP_FBC_ERRORS, one CMP_FORMING, fam CMP_LYR_FBC_ERR, one (CMP_OUT_STATUS o),
     fam PLN_OUT_STATUS, fam PLN_OUT_TIMING, fam CMP_LYR_LIVE, fam COL_OUT_STATUS, one COL_STATUS, events], [.out, .mem,
     .int, .cmp, .col, .pln])
  | .fetchWindowEnd _ => ([], [.hif])
  | .eventQueueWrite _ q =>
    ([one (HIF_CTX_EVQ_DROPS q), one (HIF_CTX_EVQ_TAIL q), one HIF_DEVQ_DROPS, one HIF_DEVQ_TAIL,
     one (HIF_FN_STATUS (queueFn q)), one INT_STATUS, fam HIF_FN_DROPS, fam HIF_FN_STATUS], [.out, .hif, .int])
  | .msixModTimeout _ _ => ([], [.out, .hif, .int])
  | .masterEnableClear _ f _ =>
    ([one CFG_FAIL_INFO, one CFG_LOAD_CTRL, one CFG_STATUS, one CMP_DROP_STATUS, fam CMP_LYR_OFF_LFN,
     fam CMP_LYR_OFF_LINE, fam CMP_LYR_STATUS, fam CMP_OUT_UNDERRUNS, one (HIF_FN_STATUS f), one HIF_STATUS, one LMP_HB,
     one LMP_SAFETY, one TIM_DPLL_STATUS, one TIM_REF_STATUS, one (HIF_FN_DROPS f), one INT_STATUS, fam MEM_ENG_STATUS,
     events], [.out, .glb, .tim, .cfg, .hif, .int, .cmp, .pln, .seq, .scn, .lmp, .lxs])
  | .masterEnableSet _ f => ([one (HIF_FN_STATUS f), one (HIF_FN_DROPS f), one INT_STATUS], [.out, .hif, .mem, .int])
  | .functionLevelReset _ _ =>
    ([one CFG_FAIL_INFO, one CFG_LOAD_CTRL, one CFG_STATUS, one CMP_FORMING, fam CMP_LYR_LIVE, fam CMP_OUT_STATUS,
     fam COL_OUT_STATUS, one COL_STATUS, one HIF_DEVQ_BASE_HI, one HIF_DEVQ_BASE_LO, one HIF_DEVQ_CFG, one HIF_DEVQ_HEAD,
     one HIF_DEVQ_TAIL, fam HIF_FN_PASID, fam HIF_FN_STATUS, one HIF_STATUS, one LMP_HB, one LMP_SAFETY,
     fam PLN_OUT_STATUS, one TIM_DPLL_STATUS, one TIM_REF_STATUS, ctxPages, fam HIF_FN_DROPS, one INT_STATUS,
     fam MEM_ENG_STATUS, events], [.out, .act, .glb, .tim, .cfg, .hif, .int, .cmp, .col, .seq, .scn, .lmp])
  | .contextReset _ c =>
    ([one CMP_FORMING, fam CMP_LYR_LIVE, fam CMP_OUT_STATUS, fam COL_OUT_STATUS, one COL_STATUS, one (HIF_CTX_CTRL c),
     fam PLN_OUT_STATUS, fam MEM_ENG_STATUS, events], [.hif, .int, .cmp, .col])
  | .perstAssert _ =>
    ([one CFG_FAIL_INFO, one CFG_LOAD_CTRL, one CFG_STATUS, one CMP_FORMING, fam CMP_LYR_LIVE, fam CMP_OUT_STATUS,
     fam COL_OUT_STATUS, one COL_STATUS, one HIF_DEVQ_BASE_HI, one HIF_DEVQ_BASE_LO, one HIF_DEVQ_CFG, fam HIF_FN_STATUS,
     one HIF_STATUS, one LMP_HB, one LMP_SAFETY, fam PLN_OUT_STATUS, one TIM_DPLL_STATUS, one TIM_REF_STATUS, ctxPages,
     fam HIF_FN_DROPS, one INT_STATUS, fam MEM_ENG_STATUS, events], [.out, .act, .glb, .tim, .cfg, .hif, .int, .cmp, .col,
     .seq, .scn, .lmp])
  | .perstRelease _ => ([], [.hif])
  | .linkDown _ =>
    ([one CFG_FAIL_INFO, one CFG_LOAD_CTRL, one CFG_STATUS, one CMP_FORMING, fam CMP_LYR_LIVE, fam CMP_OUT_STATUS,
     fam COL_OUT_STATUS, one COL_STATUS, one HIF_DEVQ_BASE_HI, one HIF_DEVQ_BASE_LO, one HIF_DEVQ_CFG, fam HIF_FN_STATUS,
     one HIF_STATUS, one LMP_HB, one LMP_SAFETY, fam PLN_OUT_STATUS, one TIM_DPLL_STATUS, one TIM_REF_STATUS, ctxPages,
     fam HIF_FN_DROPS, one INT_STATUS, fam MEM_ENG_STATUS, events], [.out, .act, .glb, .tim, .cfg, .hif, .int, .cmp, .col,
     .seq, .scn, .lmp])
  | .vfEnable _ _ => ([one HIF_STATUS], [.out, .hif, .mem, .int])
  | .staleCompletion _ f => ([one (HIF_FN_STATUS f), fam MEM_ENG_STATUS, one MEM_INFLIGHT], [.out, .hif, .mem, .int])
  | .hostCompletionTimeout _ _ _ =>
    ([fam HIF_CTX_FAULT_HI, fam HIF_CTX_FAULT_LO, fam HIF_CTX_STATUS, fam MEM_ENG_STATUS, one MEM_INFLIGHT, events],
     [.out, .hif, .mem, .int])
  | .memRequest _ e c _ _ _ _ _ =>
    ([one (HIF_CTX_FAULT_HI c), one (HIF_CTX_FAULT_LO c), one (HIF_CTX_STATUS c), fam MEM_CTL_RAW, fam MEM_ENG_STATUS,
     one MEM_INFLIGHT, fam HIF_CTX_FAULT_HI, fam HIF_CTX_FAULT_LO, fam HIF_CTX_STATUS, one (MEM_ENG_MISSES e), events],
     [.out, .hif, .mem, .int, .lxs])
  | .pcCommandIssue _ p =>
    ([one (MEM_CTL_REFRESH (pcController p)), fam MEM_CTL_REFRESH, one MEM_SR_STATUS, one MEM_STATUS, fam THM_DOM_ON],
     [.mem])
  | .memCompletion _ e _ _ =>
    ([fam HIF_FN_STATUS, fam LXS_PORT_READ, fam MEM_CTL_ECC, one MEM_ECC_ADDR_HI, one MEM_ECC_ADDR_LO,
     one (MEM_ENG_STATUS e), one MEM_INFLIGHT, fam HIF_CTX_FAULT_HI, fam HIF_CTX_FAULT_LO, fam HIF_CTX_STATUS,
     one MEM_SR_STATUS, one MEM_STATUS, fam THM_DOM_ON, events], [.out, .hif, .mem, .int, .lxs])
  | .deadlineMiss _ e _ => ([one (MEM_ENG_MISSES e)], [.mem, .cmp])
  | .refreshDue _ p => ([one (MEM_CTL_REFRESH (pcController p)), fam MEM_CTL_REFRESH], [.mem])
  | .stackTempRead _ st _ =>
    ([one CAL_CULLET, fam CAL_SESS_STATUS, one CAL_STORE_STATUS, one CFG_FAIL_INFO, one CFG_LOAD_CTRL, one CFG_STATUS,
     one CMP_FORMING, fam CMP_LYR_LIVE, fam CMP_OUT_STATUS, fam COL_OUT_STATUS, fam COL_PRIM_LOOP, one COL_STATUS,
     fam LAN_LANE_EQ, fam LAN_LANE_STATE, one LAN_STATUS, one LMP_HB, one LMP_SAFETY, fam LXS_PORT_STATE, one LXS_STATUS,
     one (MEM_STACK_TEMP st), one MEM_STATUS, fam PLN_OUT_STATUS, fam SCN_ENG_EST_AMP, fam SCN_ENG_STATE, one SCN_STATUS,
     one THM_CTRL, one THM_SD, one THM_SD_LFN, one THM_STATUS, one THM_THROTTLE, one TIM_DPLL_STATUS, one TIM_REF_STATUS,
     one MEM_SR_STATUS, fam THM_DOM_ON, events], [.fresh, .out, .glb, .tim, .cfg, .hif, .mem, .int, .cmp, .col, .pln,
     .seq, .apt, .scn, .lmp, .lan, .lxs, .thm, .cal])
  | .retrainOverdue _ _ => ([events], [.mem, .int])
  | .parityError _ p _ _ _ => ([one (MEM_CTL_PARITY (pcController p)), fam MEM_CTL_PARITY], [.mem])
  | .selfRefreshEntry _ => ([one MEM_SR_STATUS, one MEM_STATUS, fam THM_DOM_ON], [.mem])
  | .selfRefreshExit _ => ([one MEM_SR_STATUS, one MEM_STATUS, fam THM_DOM_ON], [.mem])
  | .patrolScrub _ _ _ => ([fam MEM_CTL_ECC, one MEM_ECC_ADDR_HI, one MEM_ECC_ADDR_LO, events], [.mem, .int])
  | .hbmTrainingDone _ _ _ =>
    ([one GLB_BOOT_STATUS, fam GLB_BOOT_TIME, one HIF_POOL_FREE, one HIF_STATUS, one MEM_STATUS, one CAL_CULLET, events],
     [.hif, .mem, .int])
  | .layerLiveWrite _ n _ => ([one (CMP_LYR_LIVE n)], [])
  | .layerUpdate _ _ =>
    ([one CMP_FORMING, fam CMP_LYR_LIVE, fam CMP_OUT_STATUS, fam COL_OUT_STATUS, one COL_STATUS, fam PLN_OUT_STATUS, events],
     [.int, .cmp, .col])
  | .tableLoadDone _ _ _ _ =>
    ([fam (fun k => cmReg k + 8), fam CMP_OUT_STATUS, fam COL_DEC_STATUS, fam COL_LUT_STATUS, fam COL_OUT_STATUS,
     fam PLN_BOOK_STATUS, one PLN_MASK_STATUS, events], [.int, .cmp, .col, .pln])
  | .layerUnderrun _ n _ _ _ =>
    ([one CMP_DROP_STATUS, one (CMP_LYR_OFF_LFN n), one (CMP_LYR_OFF_LINE n), one (CMP_LYR_STATUS n),
     fam CMP_OUT_UNDERRUNS, fam MEM_ENG_STATUS, events], [.int, .cmp, .pln, .lxs])
  | .writebackDone _ o _ => ([one (CMP_OUT_WB_CFN o), one (CMP_OUT_WB_STATUS o), events], [.int, .cmp])
  | .bookBuildDone _ _ => ([fam (fun k => cmReg k + 8), one PLN_STATUS], [.cmp, .pln])
  | .tailDone _ _ =>
    ([fam (fun k => cmReg k + 8), one CMP_FORMING, fam CMP_LYR_LIVE, fam CMP_OUT_STATUS, fam COL_OUT_STATUS,
     one COL_STATUS, fam PLN_OUT_STATUS, events], [.mem, .int, .cmp, .col, .pln])
  | .storeZeroDone _ => ([one GLB_BOOT_STATUS, fam GLB_BOOT_TIME], [.pln])
  | .storeScrub _ _ =>
    ([one CMP_FORMING, fam CMP_LYR_LIVE, fam CMP_OUT_STATUS, fam COL_OUT_STATUS, one COL_STATUS, one PLN_ECC,
     one PLN_ECC_ADDR, fam PLN_OUT_STATUS, one PLN_STATUS, events], [.int, .cmp, .col, .pln])
  | .spareRowCopyDone _ _ _ => ([], [.pln])
  | .compileStart _ _ => ([one SEQ_SCHED_STATUS], [.seq])
  | .compileDone _ o =>
    ([fam APT_PORT_RETRAINS, one CFG_FAIL_INFO, one CFG_LOAD_CTRL, one CFG_STATUS, fam (fun k => cmReg k + 8),
     one (SEQ_OUT_ERR o), one SEQ_SCHED_STATUS, events], [.out, .cfg, .int, .seq, .apt, .lan])
  | .replayEnter _ _ => ([], [.out, .seq, .lan])
  | .staticEnter _ _ => ([], [.seq])
  | .loadDeadline _ o _ _ _ _ =>
    ([fam APT_PORT_DARKS, fam APT_PORT_HOLDS, fam APT_PORT_STATE, one (PLN_OUT_STATUS o), events], [.out, .int, .pln,
     .apt, .lan])
  | .teInClose _ _ => ([fam APT_PORT_STATE], [.out, .apt, .lmp])
  | .bcTemp _ p _ _ => ([one (APT_PORT_STATE p), one (APT_PORT_TEMP p)], [.out, .apt, .lan])
  | .bcTe _ p _ => ([one (APT_PORT_STATE p)], [.apt])
  | .bcError _ p _ _ => ([one (APT_PORT_ARRAY_ERR p), one (APT_PORT_STATE p), events], [.int, .apt])
  | .bcHealth _ p _ => ([one (APT_PORT_HEALTH p), one (APT_PORT_STATE p), events], [.int, .apt])
  | .bcStatus _ p _ _ _ _ _ =>
    ([one (APT_PORT_IDENT_HI p), one (APT_PORT_IDENT_LO p), one (APT_PORT_STATE p), one APT_STATUS, one CAL_CULLET,
     fam LAN_LANE_STATE, one LAN_STATUS, events], [.int, .apt, .lan])
  | .bcRetrainReq _ p _ =>
    ([one (APT_PORT_RETRAINS p), one (APT_PORT_STATE p), one SEQ_SCHED_STATUS], [.out, .seq, .apt, .lan])
  | .bcEcho _ p _ => ([one (APT_PORT_DELAY p), one (APT_PORT_STATE p)], [.apt])
  | .bcEpoch _ p _ => ([one (APT_PORT_EPOCH p), one (APT_PORT_STATE p), one APT_STATUS, events], [.int, .apt])
  | .bcLost _ p => ([one (APT_PORT_STATE p), events], [.int])
  | .portTrained _ p => ([one (APT_PORT_STATE p), one APT_STATUS, one GLB_BOOT_STATUS, fam GLB_BOOT_TIME], [.out, .apt, .lan])
  | .portAligned _ _ =>
    ([fam APT_PORT_DELAY, fam APT_PORT_STATE, one APT_STATUS, one GLB_BOOT_STATUS, fam GLB_BOOT_TIME], [.out, .apt, .lan])
  | .portTrainTimeout _ p =>
    ([one (APT_PORT_STATE p), one APT_STATUS, one CAL_CULLET, one GLB_BOOT_STATUS, fam GLB_BOOT_TIME, fam LAN_LANE_STATE,
     one LAN_STATUS, events], [.out, .int, .apt, .lan])
  | .portFaultRetry _ p =>
    ([one (APT_PORT_STATE p), one APT_STATUS, one CAL_CULLET, fam LAN_LANE_EQ, fam LAN_LANE_STATE, one LAN_STATUS], [.apt,
     .lan])
  | .aptRetrainRequest _ p => ([one (APT_PORT_RETRAINS p)], [.out, .apt, .lan])
  | .aptStatusRequest _ _ => ([], [.out, .lan])
  | .portRetrainDone _ p =>
    ([one (APT_PORT_STATE p), one APT_STATUS, one CAL_CULLET, fam LAN_LANE_EQ, fam LAN_LANE_STATE, one LAN_STATUS], [.apt,
     .lan])
  | .scanStart _ n => ([one (SCN_ENG_STATE n), one SCN_STATUS, fam THM_DOM_ON], [.mem, .scn])
  | .scanStop _ n => ([one (SCN_ENG_STATE n), one SCN_STATUS], [.out, .mem, .scn])
  | .scanOffsetDone _ n => ([one (SCN_ENG_EST_AMP n), one (SCN_ENG_STATE n), one SCN_STATUS], [.mem, .scn])
  | .scanSearchDone _ n _ =>
    ([one (SCN_ENG_EST_AMP n), one (SCN_ENG_EST_FREQ n), one (SCN_ENG_STATE n), one SCN_STATUS, events], [.out, .mem,
     .int, .scn])
  | .scanRampDone _ n _ _ _ =>
    ([one (SCN_ENG_EST_AMP n), one (SCN_ENG_STATE n), one SCN_STATUS, events], [.out, .mem, .int, .scn])
  | .scanLockDone _ _ => ([], [.scn])
  | .scanBrakeDone _ n => ([one (SCN_ENG_EST_AMP n), one (SCN_ENG_STATE n), one SCN_STATUS, fam THM_DOM_ON], [.mem, .scn])
  | .turningPoint _ n _ _ _ _ _ =>
    ([one (SCN_ENG_CANES n), one (SCN_ENG_CLIPPED n), one (SCN_ENG_EST_AMP n), one (SCN_ENG_EST_FREQ n),
     one (SCN_ENG_STATE n), one (SCN_ENG_SWEEP_STATUS n), one (SCN_ENG_LINE_MISSES n), events], [.int, .out, .scn])
  | .pixelEdge _ _ _ => ([], [.out, .scn])
  | .lineMiss _ n => ([one (SCN_ENG_LINE_MISSES n), events], [.int, .scn])
  | .scanStall _ n _ =>
    ([one (SCN_ENG_EST_AMP n), one (SCN_ENG_STALLS n), one (SCN_ENG_STALL_LFN n), one (SCN_ENG_STATE n), one SCN_STATUS,
     events], [.out, .mem, .int, .scn])
  | .scanStallRestart _ n _ =>
    ([one (SCN_ENG_EST_AMP n), one (SCN_ENG_STATE n), one SCN_STATUS, events], [.out, .mem, .int, .scn])
  | .ampLimitEvent _ _ => ([events], [.int, .scn])
  | .chainUpdateStart _ c =>
    ([fam COL_PRIM_LIGHT, fam COL_PRIM_XY, one (LMP_CHAIN_STATUS c), fam LMP_GROUP_LIGHT, one LMP_POS_CURRENT,
     one LMP_POS_FACTOR, one LMP_POS_STATE, events], [.out, .int, .col, .lmp])
  | .chainUpdateEnd _ c _ _ _ =>
    ([one GLB_BOOT_STATUS, fam GLB_BOOT_TIME, fam LMP_CHAIN_FAILS, one (LMP_CHAIN_STATUS c), one LMP_HB, one LMP_POS_CURRENT,
     one LMP_POS_FACTOR, one LMP_POS_STATE, one LMP_SAFETY, events], [.out, .int, .scn, .lmp])
  | .positionClearFault _ => ([one LMP_POS_CURRENT, one LMP_POS_FACTOR, one LMP_POS_STATE], [.lmp])
  | .watchdogToken _ _ _ => ([], [.lmp])
  | .watchdogExpiry _ _ => ([one LMP_HB, one LMP_SAFETY, events], [.out, .int, .scn, .lmp])
  | .interlockOpen _ _ => ([one LMP_HB, one LMP_SAFETY, events], [.out, .int, .scn, .lmp])
  | .interlockClose _ => ([one LMP_SAFETY], [.lmp])
  | .interlockHoldExpiry _ => ([one LMP_HB, one LMP_SAFETY, events], [.out, .int, .scn, .lmp])
  | .interlockRearm _ => ([one LMP_HB, one LMP_SAFETY, events], [.out, .int, .scn, .lmp])
  | .forceOffWrite _ _ => ([one LMP_HB, one LMP_SAFETY, events], [.out, .int, .scn, .lmp])
  | .budgetTick _ _ _ _ _ _ _ =>
    ([fam LMP_GROUP_GRANT, fam LMP_PKG_CLASS, one LMP_PKG_STATUS, fam LMP_RAIL_STATUS, one THM_PWR, one THM_PWR_HBM,
     one THM_THROTTLE, events], [.mem, .int, .lmp, .thm])
  | .dataFrameRx _ l _ =>
    ([fam APT_PORT_STATE, one APT_STATUS, one CAL_CULLET, one CAL_FENCED, one CAL_FENCE_DATA_0, one CAL_FENCE_DATA_1,
     one CAL_FENCE_DATA_2, one (LAN_LANE_CRC_ERR l), fam LAN_LANE_EQ, one (LAN_LANE_FAR l), one (LAN_LANE_FRAMES l),
     one (LAN_LANE_LIFE l), fam LAN_LANE_PRBS_BITS_HI, fam LAN_LANE_PRBS_BITS_LO, fam LAN_LANE_PRBS_CTRL,
     fam LAN_LANE_PRBS_ERR_HI, fam LAN_LANE_PRBS_ERR_LO, fam LAN_LANE_STATE, one (LAN_LANE_SYNC l), one LAN_STATUS,
     one (LXS_PORT_REPLAYS ((l - 136) / 2)), fam LXS_PORT_STATE, one LXS_ROOT_HI, one LXS_ROOT_LO, one LXS_STATUS,
     one LXS_SYSID_HI, one SEQ_SCHED_STATUS, one TIM_DPLL_STATUS, one TIM_REF_STATUS, events], [.tim, .int, .seq, .apt, .lan,
     .lxs, .cal])
  | .trainingFrameRx _ l _ _ _ => ([one CAL_CULLET, one (LAN_LANE_EQ l), one (LAN_LANE_STATE l), one LAN_STATUS], [.lan])
  | .statusFrameRx _ l _ =>
    ([fam APT_PORT_STATE, one APT_STATUS, one CAL_CULLET, fam LAN_LANE_EQ, one (LAN_LANE_FAR l), fam LAN_LANE_STATE,
     one LAN_STATUS, fam LXS_PORT_STATE, one LXS_ROOT_HI, one LXS_ROOT_LO, one LXS_STATUS, one LXS_SYSID_HI,
     one SEQ_SCHED_STATUS, one TIM_DPLL_STATUS, one TIM_REF_STATUS, events], [.tim, .int, .seq, .apt, .lan, .lxs])
  | .statusFrameTimeout _ _ =>
    ([fam APT_PORT_STATE, one APT_STATUS, one CAL_CULLET, fam LAN_LANE_EQ, fam LAN_LANE_STATE, one LAN_STATUS,
     fam LXS_PORT_STATE, one LXS_ROOT_HI, one LXS_ROOT_LO, one LXS_STATUS, one LXS_SYSID_HI, one SEQ_SCHED_STATUS,
     one TIM_DPLL_STATUS, one TIM_REF_STATUS, events], [.tim, .int, .seq, .apt, .lan, .lxs])
  | .laneTrainTimeout _ l =>
    ([fam APT_PORT_STATE, one APT_STATUS, one CAL_CULLET, fam LAN_LANE_STATE, one LAN_STATUS,
     one (LXS_PORT_STATE ((l - 136) / 2)), events], [.int, .apt, .lan, .lxs])
  | .laneWake _ l => ([one CAL_CULLET, one (LAN_LANE_STATE l), one LAN_STATUS], [.lan])
  | .laneWakeTimeout _ _ =>
    ([fam APT_PORT_STATE, one APT_STATUS, one CAL_CULLET, fam LAN_LANE_EQ, fam LAN_LANE_STATE, one LAN_STATUS,
     fam LXS_PORT_STATE, one LXS_ROOT_HI, one LXS_ROOT_LO, one LXS_STATUS, one LXS_SYSID_HI, one SEQ_SCHED_STATUS,
     one TIM_DPLL_STATUS, one TIM_REF_STATUS, events], [.tim, .int, .seq, .apt, .lan, .lxs])
  | .refclkLost _ _ =>
    ([fam APT_PORT_STATE, one CAL_CULLET, fam LAN_LANE_STATE, one LAN_STATUS, fam LXS_PORT_STATE, one LXS_ROOT_HI,
     one LXS_ROOT_LO, one LXS_STATUS, one LXS_SYSID_HI, one TIM_DPLL_STATUS, one TIM_REF_STATUS, one APT_STATUS,
     fam LAN_LANE_EQ, events], [.tim, .int, .apt, .lan, .lxs])
  | .refclkRestored _ k =>
    ([one CAL_CULLET, fam LAN_LANE_EQ, fam LAN_LANE_STATE, one LAN_STATUS, one (LXS_PORT_STATE k)], [.lan, .lxs])
  | .laneLoopWrite _ l _ =>
    ([one CAL_CULLET, one (LAN_LANE_CTRL l), one (LAN_LANE_EQ l), one (LAN_LANE_STATE l), one LAN_STATUS, events], [.int,
     .lan])
  | .eyeMeasurementDone _ l _ _ =>
    ([one CAL_SESS_1_RESULT, one (LAN_LANE_EQ l), one (LAN_LANE_EYE l), one (LAN_LANE_STATE (128 + laneGroup l)), events],
     [.int, .lan, .cal])
  | .lxsPortTrained _ j _ =>
    ([one CAL_CULLET, fam LAN_LANE_STATE, one LAN_STATUS, one (LXS_PORT_NEIGH_HI j), one (LXS_PORT_NEIGH_LO j),
     one (LXS_PORT_STATE j), one LXS_ROOT_HI, one LXS_ROOT_LO, one LXS_STATUS, events], [.int, .lan, .lxs])
  | .lxsPortFaultRetry _ j =>
    ([one CAL_CULLET, fam LAN_LANE_EQ, fam LAN_LANE_STATE, one LAN_STATUS, one (LXS_PORT_STATE j)], [.lan, .lxs])
  | .linkAckTimeout _ l => ([one (LXS_PORT_REPLAYS ((l - 136) / 2))], [.lxs])
  | .hello _ j _ _ _ _ _ _ _ _ _ _ =>
    ([fam APT_PORT_STATE, one GLB_BOOT_STATUS, one HIF_STATUS, one LMP_HB, one LMP_SAFETY, one (LXS_PORT_NEIGH_HI j),
     one (LXS_PORT_NEIGH_LO j), one (LXS_PORT_RX j), fam LXS_PORT_STATE, one LXS_ROOT_HI, one LXS_ROOT_LO,
     one LXS_STARTUP, one LXS_STATION, one LXS_STATUS, one LXS_SYSID_HI, one TIM_DPLL_STATUS, one TIM_REF_STATUS,
     fam LXS_PORT_RX, events], [.fresh, .out, .tim, .int, .apt, .scn, .lmp, .lxs])
  | .helloTimer _ => ([], [.lxs])
  | .electionComplete _ =>
    ([fam APT_PORT_STATE, fam LXS_PORT_STATE, one LXS_STARTUP, one LXS_STATUS, one LXS_SYSID_HI, one LXS_SYSID_LO,
     one TIM_REF_STATUS, events], [.tim, .int, .apt, .lxs])
  | .attach _ j _ => ([one (LXS_PORT_RX j), one (LXS_PORT_STATE j), events], [.int, .lxs])
  | .report _ j _ _ _ _ _ _ _ _ => ([one (LXS_PORT_RX j), fam LXS_PORT_RX], [.lxs])
  | .reportQuietTimeout _ => ([one LXS_STATUS, events], [.int, .lxs])
  | .assign _ j _ _ _ _ _ => ([one (LXS_PORT_RX j)], [.lxs])
  | .readyAll _ j _ _ => ([one LXS_COUNT, one (LXS_PORT_RX j)], [.lxs])
  | .time _ j _ _ _ _ _ _ =>
    ([one (LXS_PORT_RX j), one LXS_STATUS, one LXS_TIME_ERR, one TIM_DPLL_STATUS, one TIM_REF_STATUS, fam LXS_PORT_RX,
     events], [.glb, .tim, .int, .lxs])
  | .delayReq _ j _ => ([one (LXS_PORT_RX j)], [.lxs])
  | .delayResp _ j _ _ _ _ => ([one (LXS_PORT_DELAY j), one (LXS_PORT_RX j)], [])
  | .parentTimeout _ =>
    ([fam APT_PORT_STATE, fam LXS_PORT_STATE, one LXS_ROOT_HI, one LXS_ROOT_LO, one LXS_STATUS, one LXS_SYSID_HI,
     one TIM_DPLL_STATUS, one TIM_REF_STATUS, events], [.tim, .int, .apt, .lxs])
  | .prepareSend _ => ([], [.lxs])
  | .prepare _ j _ => ([one (LXS_PORT_RX j), fam LXS_PORT_RX], [.lxs])
  | .votePoint _ =>
    ([fam (fun k => cmReg k + 8), one CMP_FORMING, fam CMP_LYR_LIVE, fam CMP_OUT_STATUS, fam COL_OUT_STATUS, one COL_STATUS,
     one LXS_COMMIT, fam PLN_OUT_STATUS, events], [.hif, .int, .cmp, .col, .lxs])
  | .vote _ j _ _ _ _ _ _ _ =>
    ([fam (fun k => cmReg k + 8), one CMP_FORMING, fam CMP_LYR_LIVE, fam CMP_OUT_STATUS, fam COL_OUT_STATUS, one COL_STATUS,
     one LXS_COMMIT, one (LXS_PORT_RX j), fam PLN_OUT_STATUS, events], [.hif, .int, .cmp, .col, .lxs])
  | .voteDeadline _ =>
    ([fam (fun k => cmReg k + 8), one CMP_FORMING, fam CMP_LYR_LIVE, fam CMP_OUT_STATUS, fam COL_OUT_STATUS, one COL_STATUS,
     one LXS_COMMIT, fam PLN_OUT_STATUS, events], [.hif, .int, .cmp, .col, .lxs])
  | .rootDecide _ =>
    ([fam (fun k => cmReg k + 8), one CMP_FORMING, fam CMP_LYR_LIVE, fam CMP_OUT_STATUS, fam COL_OUT_STATUS, one COL_STATUS,
     one GLB_BOOT_STATUS, fam PLN_OUT_STATUS, events], [.hif, .int, .cmp, .col, .lxs])
  | .decision _ j _ _ _ _ _ =>
    ([fam (fun k => cmReg k + 8), one CMP_FORMING, fam CMP_LYR_LIVE, fam CMP_OUT_STATUS, fam COL_OUT_STATUS,
     one COL_STATUS, one GLB_BOOT_STATUS, fam GLB_BOOT_TIME, one (LXS_PORT_RX j), fam PLN_OUT_STATUS, fam LXS_PORT_RX,
     events], [.hif, .int, .cmp, .col, .lxs])
  | .commitRoundLost _ =>
    ([fam (fun k => cmReg k), fam (fun k => cmReg k + 12), fam (fun k => cmReg k + 8), one CMP_FORMING, fam CMP_LYR_LIVE,
     fam CMP_OUT_STATUS, fam COL_OUT_STATUS, one COL_STATUS, fam HIF_GROUP_CTRL, one LXS_COMMIT, fam PLN_OUT_STATUS,
     one PLN_STATUS, events], [.hif, .int, .cmp, .col, .pln, .lxs])
  | .drop _ j _ _ _ _ _ => ([one (LXS_PORT_RX j), fam LXS_PORT_RX], [.cmp, .lxs])
  | .readReq _ j _ _ _ _ _ seq _ _ =>
    ([fam LXS_PORT_READ, one (LXS_PORT_RX j), one (MEM_ENG_STATUS (44 + seq % 2)), one MEM_INFLIGHT, fam LXS_PORT_RX,
     fam MEM_CTL_RAW, fam MEM_ENG_STATUS], [.mem, .lxs])
  | .readResp _ j _ _ _ _ _ =>
    ([fam HIF_CTX_FAULT_HI, fam HIF_CTX_FAULT_LO, fam HIF_CTX_STATUS, fam LXS_PORT_READ, one (LXS_PORT_RX j),
     fam MEM_ENG_STATUS, one MEM_INFLIGHT, fam LXS_PORT_RX, events], [.mem, .int, .lxs])
  | .remoteReadTimeout _ _ =>
    ([fam HIF_CTX_FAULT_HI, fam HIF_CTX_FAULT_LO, fam HIF_CTX_STATUS, fam MEM_ENG_STATUS, one MEM_INFLIGHT, events], [.mem,
     .int, .lxs])
  | .role _ j _ _ _ => ([one (LXS_PORT_RX j)], [.lxs])
  | .handover _ j _ => ([one (LXS_PORT_RX j)], [.lxs])
  | .credit _ j _ _ => ([one (LXS_PORT_RX j)], [.lxs])
  | .lxsRetrain _ j _ _ _ _ =>
    ([fam APT_PORT_STATE, one CAL_CULLET, fam LAN_LANE_EQ, fam LAN_LANE_STATE, one LAN_STATUS, one (LXS_PORT_RX j),
     fam LXS_PORT_STATE, one LXS_ROOT_HI, one LXS_ROOT_LO, one LXS_STATUS, one LXS_SYSID_HI, one TIM_DPLL_STATUS,
     one TIM_REF_STATUS, fam LXS_PORT_RX, events], [.tim, .int, .apt, .lan, .lxs])
  | .lxsRetrainDone _ _ =>
    ([fam APT_PORT_STATE, one CAL_CULLET, fam LAN_LANE_EQ, fam LAN_LANE_STATE, one LAN_STATUS, fam LXS_PORT_STATE,
     one LXS_ROOT_HI, one LXS_ROOT_LO, one LXS_STATUS, one LXS_SYSID_HI, one TIM_DPLL_STATUS, one TIM_REF_STATUS, events],
     [.tim, .int, .apt, .lan, .lxs])
  | .lxsTakeRoot _ => ([], [.lxs])
  | .lxsPromote _ => ([one LXS_PROMOTE_STATUS], [.lxs])
  | .autoPromote _ _ => ([], [.lxs])
  | .lxsExportBind _ _ => ([one LXS_EXPORT_STATUS], [.mem, .lxs])
  | .lxsExportUnbind _ _ => ([one LXS_EXPORT_STATUS], [.mem, .lxs])
  | .laxusAloneTimeout _ =>
    ([fam APT_PORT_STATE, one LXS_COUNT, fam LXS_PORT_STATE, one LXS_ROOT_HI, one LXS_ROOT_LO, one LXS_STATUS,
     one LXS_SYSID_HI, one LXS_SYSID_LO, one TIM_REF_STATUS, events], [.tim, .int, .apt, .lxs])
  | .mtrLatchObserved _ _ _ _ _ => ([], [.mtr])
  | .mtrGap _ _ => ([], [.mtr])
  | .clockFault _ => ([], [.mtr])
  | .sealOpened _ => ([], [.mtr])
  | .sealClosed _ => ([], [.mtr])
  | .mtrRecordDue _ => ([], [.mtr])
  | .mtrStoreWriteDone _ _ => ([], [.mtr])
  | .mtrSupplyLoss _ _ => ([one MTR_MB_STATUS], [.mtr])
  | .mtrPowerUp _ _ => ([], [.mtr])
  | .msvcRead _ _ _ _ => ([], [.fresh, .out])
  | .msvcStage _ _ _ => ([], [.out, .mtr])
  | .msvcCommit _ _ => ([], [.out, .mtr])
  | .msvcDiscard _ _ => ([], [.out, .mtr])
  | .readId _ => ([fam MTR_MB_ARG, one MTR_MB_CTRL, one MTR_MB_STATUS, events], [.int, .mtr])
  | .readStatus _ => ([fam MTR_MB_ARG, one MTR_MB_CTRL, one MTR_MB_STATUS, events], [.int, .mtr])
  | .readRecord _ _ => ([fam MTR_MB_ARG, one MTR_MB_CTRL, one MTR_MB_STATUS, events], [.int, .mtr])
  | .exportRecord _ _ _ => ([fam MTR_MB_ARG, one MTR_MB_CTRL, one MTR_MB_STATUS, events], [.int, .mtr])
  | .readAudit _ _ => ([fam MTR_MB_ARG, one MTR_MB_CTRL, one MTR_MB_STATUS, events], [.int, .mtr])
  | .readParams _ => ([fam MTR_MB_ARG, one MTR_MB_CTRL, one MTR_MB_STATUS, events], [.int, .mtr])
  | .setHostTime _ _ _ => ([fam MTR_MB_ARG, one MTR_MB_CTRL, one MTR_MB_STATUS, events], [.int, .mtr])
  | .readCurrent _ => ([fam MTR_MB_ARG, one MTR_MB_CTRL, one MTR_MB_STATUS, events], [.int, .mtr])
  | .mtrMbAnswer _ => ([one MTR_MB_CTRL, one MTR_MB_STATUS], [.fresh, .mtr])
  | .mtrMbTimeout _ => ([one MTR_MB_CTRL, one MTR_MB_STATUS], [.mtr])
  | .thmConversion _ _ _ _ =>
    ([fam APT_PORT_STATE, one APT_STATUS, one CAL_CULLET, fam CAL_SESS_STATUS, one CAL_STORE_STATUS, one CFG_FAIL_INFO,
     one CFG_LOAD_CTRL, one CFG_STATUS, one CMP_FORMING, fam CMP_LYR_LIVE, fam CMP_OUT_STATUS, one CMP_STATUS,
     fam COL_OUT_STATUS, fam COL_PRIM_LOOP, one COL_STATUS, one GLB_BOOT_STATUS, one HIF_POOL_FREE, one HIF_STATUS,
     fam LAN_LANE_EQ, fam LAN_LANE_STATE, one LAN_STATUS, fam LMP_CHAIN_STATUS, one LMP_HB, one LMP_SAFETY,
     fam LXS_PORT_STATE, one LXS_STATUS, one MEM_SR_STATUS, one MEM_STATUS, fam PLN_OUT_STATUS, one PLN_STATUS,
     fam SCN_ENG_EST_AMP, fam SCN_ENG_STATE, one SCN_STATUS, one THM_CTRL, fam THM_DOM_ON, one THM_RESTART, one THM_SD,
     one THM_SD_LFN, one THM_SENSOR, one THM_STATUS, one THM_TEMP, one THM_THROTTLE, one TIM_DPLL_STATUS, one TIM_REF_STATUS,
     events], [.fresh, .out, .glb, .tim, .cfg, .hif, .mem, .int, .cmp, .col, .pln, .seq, .apt, .scn, .lmp, .lan, .lxs, .thm,
     .cal])
  | .graceEnd _ =>
    ([fam APT_PORT_STATE, one APT_STATUS, one CAL_CULLET, one CAL_STORE_STATUS, one CMP_STATUS, one GLB_BOOT_STATUS,
     one HIF_POOL_FREE, one HIF_STATUS, fam LAN_LANE_STATE, one LAN_STATUS, one LMP_HB, one LMP_SAFETY,
     fam PLN_OUT_STATUS, one PLN_STATUS, fam THM_DOM_ON, one THM_SD, one THM_STATUS, one MEM_SR_STATUS, one MEM_STATUS,
     events], [.fresh, .out, .hif, .mem, .int, .pln, .seq, .apt, .scn, .lmp, .lan, .thm, .cal])
  | .thmRestartRequest _ => ([one THM_CTRL], [])
  | .thmForceShutdown _ =>
    ([one CAL_CULLET, fam CAL_SESS_STATUS, one CAL_STORE_STATUS, one CFG_FAIL_INFO, one CFG_LOAD_CTRL, one CFG_STATUS,
     one CMP_FORMING, fam CMP_LYR_LIVE, fam CMP_OUT_STATUS, fam COL_OUT_STATUS, fam COL_PRIM_LOOP, one COL_STATUS,
     fam LAN_LANE_EQ, fam LAN_LANE_STATE, one LAN_STATUS, one LMP_HB, one LMP_SAFETY, fam LXS_PORT_STATE, one LXS_STATUS,
     one MEM_STATUS, fam PLN_OUT_STATUS, fam SCN_ENG_EST_AMP, fam SCN_ENG_STATE, one SCN_STATUS, one THM_CTRL, one THM_SD,
     one THM_SD_LFN, one THM_STATUS, one TIM_DPLL_STATUS, one TIM_REF_STATUS, one MEM_SR_STATUS, fam THM_DOM_ON, events],
     [.fresh, .out, .glb, .tim, .cfg, .hif, .mem, .int, .cmp, .col, .pln, .seq, .apt, .scn, .lmp, .lan, .lxs, .thm, .cal])
  | .thmForceThrottle _ _ => ([one THM_CTRL, one THM_THROTTLE, events], [.int, .thm])
  | .thmClearFault _ => ([one THM_CTRL, one THM_SENSOR, one THM_STATUS], [])
  | .domainWake _ _ _ => ([one CMP_STATUS, fam THM_DOM_ON], [.thm])
  | .domainOff _ _ => ([one CMP_STATUS, fam THM_DOM_ON], [.thm])
  | .laneEyeSession _ =>
    ([one CAL_CULLET, one CAL_SESSION, fam CAL_SESS_STATUS, fam LAN_LANE_EQ, fam LAN_LANE_STATE, one LAN_STATUS], [.lan,
     .cal])
  | .psenseGainSession _ => ([one CAL_SESSION, fam CAL_SESS_STATUS, fam COL_PRIM_LOOP, one COL_STATUS], [.col, .cal])
  | .colourSession _ => ([one CAL_SESSION, fam CAL_SESS_STATUS], [.lmp, .cal])
  | .timebaseSession _ => ([one CAL_SESSION, fam CAL_SESS_STATUS, one TIM_DPLL_STATUS, events], [.tim, .int, .cal])
  | .hbmMarginSession _ => ([one CAL_SESSION, fam CAL_SESS_STATUS], [.cal])
  | .sessionAbort _ kind =>
    ([one CAL_CULLET, one CAL_SESSION, one (CAL_SESS_STATUS kind), one CAL_STORE_STATUS, one CMP_FORMING, fam CMP_LYR_LIVE,
     fam CMP_OUT_STATUS, fam COL_OUT_STATUS, fam COL_PRIM_LOOP, one COL_STATUS, fam LAN_LANE_EQ, fam LAN_LANE_STATE,
     one LAN_STATUS, fam PLN_OUT_STATUS, events], [.fresh, .tim, .int, .cmp, .col, .lan, .cal])
  | .sessionEnd _ _ _ =>
    ([one CAL_CULLET, one CAL_RES_DATA, one CAL_SESS_2_RESULT, one CAL_SESS_3_RESULT, one CAL_SESS_4_RESULT,
     one CAL_SESS_5_RESULT, fam CAL_SESS_STATUS, one CAL_STORE_STATUS, one CMP_FORMING, fam CMP_LYR_LIVE, fam CMP_OUT_STATUS,
     fam COL_OUT_STATUS, fam COL_PRIM_LOOP, one COL_STATUS, fam LAN_LANE_EQ, fam LAN_LANE_STATE, one LAN_STATUS,
     fam LMP_LAMP_DATA, fam LMP_PS_CH_GAIN, fam LMP_PS_CH_OFFSET, fam PLN_OUT_STATUS, events], [.fresh, .tim, .int, .cmp,
     .col, .lmp, .lan, .cal])
  | .colourSlot _ =>
    ([one CMP_FORMING, fam CMP_LYR_LIVE, fam CMP_OUT_STATUS, fam COL_OUT_STATUS, one COL_STATUS, fam PLN_OUT_STATUS, events],
     [.int, .cmp, .col, .cal])
  | .colourPut _ => ([], [.cal])
  | .colourMeasurementTimeout _ =>
    ([fam CAL_SESS_STATUS, one CAL_STORE_STATUS, one CMP_FORMING, fam CMP_LYR_LIVE, fam CMP_OUT_STATUS, fam COL_OUT_STATUS,
     one COL_STATUS, fam PLN_OUT_STATUS, events], [.fresh, .int, .cmp, .col, .cal])
  | .calSave _ => ([one CAL_STORE_STATUS], [.fresh, .cal])
  | .calStoreWriteDone _ _ => ([one CAL_STORE_SEQ, one CAL_STORE_STATUS, events], [.fresh, .int, .cal])
  | .calStoreRead _ _ _ =>
    ([one CAL_CULLET, one CAL_FENCED, one CAL_FENCE_DATA_0, one CAL_FENCE_DATA_1, one CAL_FENCE_DATA_2, one CAL_STORE_SEQ,
     one CAL_STORE_STATUS, fam COL_PRIM_TARGET, one GLB_BOOT_STATUS, fam GLB_BOOT_TIME, fam LAN_LANE_EQ,
     fam LAN_LANE_STATE, one LAN_STATUS, fam LMP_LAMP_DATA, fam LMP_PS_CH_GAIN, fam LMP_PS_CH_OFFSET, one SEQ_TILES,
     one PLN_STATUS, events], [.int, .col, .pln, .seq, .lmp, .lan, .cal])
  | .shadowMismatch _ _ => ([one CAL_SHADOW_STATUS, events], [.int, .cal])
  | .confirmationDone _ _ _ =>
    ([one CAL_CULLET, one CAL_FENCED, one CAL_FENCE_DATA_0, one CAL_FENCE_DATA_1, one CAL_FENCE_DATA_2, one CAL_SHADOW_COUNT,
     one CAL_STORE_STATUS, one SEQ_TILES, events], [.fresh, .int, .seq, .cal])
  | .fencedSignOfLife _ _ _ _ => ([one CAL_FENCED, one CAL_FENCE_DATA_0, one CAL_FENCE_DATA_1, one CAL_FENCE_DATA_2], [.cal])
  | .repairPass _ => ([one CAL_REPAIR_CTRL], [])
  | .repairPassDone _ _ => ([one CAL_REPAIR_CTRL, one CAL_REPAIR_STATUS], [.cal])
  | .crcArm _ o r _ => ([one (rectReg o r 0x10), one (rectReg o r 0x1C)], [.int])
  | .eventRaised _ _ _ _ _ _ => ([events], [.int])
  | .resetAssert _ _ =>
    ([one GLB_RESET_CAUSE, one LMP_HB, one LMP_SAFETY, fam SCN_ENG_EST_AMP, fam SCN_ENG_STATE, one SCN_STATUS, events],
     [.out, .glb, .mem, .int, .apt, .scn, .lmp, .lan])
  | .resetHold _ _ => ([fun _ => True], allParts)
  | .bootFreeFallback _ =>
    ([one GLB_BOOT_STATUS, fam GLB_BOOT_TIME, one TIM_DPLL_STATUS, one TIM_REF_STATUS, events], [.glb, .tim, .int])
  | .snapshotReady _ => ([one GLB_SNAP_STATUS], [])
  | .gateClockStop _ => ([one LMP_HB, one LMP_SAFETY, events], [.out, .int, .scn, .lmp])
  | .linkUp _ => ([one HIF_STATUS], [])
  | .laneSlotTransmit _ l _ =>
    ([fam APT_PORT_STATE, one APT_STATUS, one CAL_CULLET, fam LAN_LANE_EQ, one (LAN_LANE_FRAMES l), fam LAN_LANE_PRBS_BITS_HI,
     fam LAN_LANE_PRBS_BITS_LO, fam LAN_LANE_PRBS_CTRL, fam LAN_LANE_PRBS_ERR_HI, fam LAN_LANE_PRBS_ERR_LO,
     fam LAN_LANE_STATE, one (LAN_LANE_SYNC l), one (LAN_LANE_WHITENED l), one LAN_STATUS, fam LXS_PORT_STATE,
     one (LXS_PORT_TX ((l - 136) / 2)), one LXS_ROOT_HI, one LXS_ROOT_LO, one LXS_STATUS, one LXS_SYSID_HI,
     one SEQ_SCHED_STATUS, one TIM_DPLL_STATUS, one TIM_REF_STATUS, events], [.fresh, .out, .tim, .int, .seq, .apt, .lan,
     .lxs])
  | .laneIdleEntry _ l => ([one CAL_CULLET, one (LAN_LANE_STATE l), one LAN_STATUS], [.lan])
  | .prbsCheckerLock _ l => ([one (LAN_LANE_PRBS_CTRL l)], [])
  | .prbsCheckerLockLoss _ l => ([one (LAN_LANE_PRBS_CTRL l)], [.lan])
  | .meterLinkUp _ => ([one MTR_MB_STATUS], [])

/-! ### Sets of commands -/

/-- The commands that can store to HBM3E: a write through an aperture, the scrub of a page, the writeback of a picture, and
those at which memory can lose its contents (a boundary, a conversion, the end of grace and the main die's reset). -/
def storesBytes : Instr → Bool
  | .apertureWrite .. | .pageScrubDone .. | .formingPassDone .. | .lfBoundary | .thmConversion .. | .graceEnd ..
  | .resetHold .. => true
  | _ => false

/-- The commands by which anything reaches the metering die. -/
def reachesMeter : Instr → Bool
  | .registerWrite .. | .mtrLatchObserved .. | .mtrGap .. | .clockFault .. | .sealOpened .. | .sealClosed ..
  | .mtrRecordDue .. | .mtrStoreWriteDone .. | .mtrSupplyLoss .. | .mtrPowerUp .. | .msvcStage .. | .msvcCommit ..
  | .msvcDiscard .. | .readId .. | .readStatus .. | .readRecord .. | .exportRecord .. | .readAudit .. | .readParams ..
  | .setHostTime .. | .readCurrent .. | .mtrMbAnswer .. | .mtrMbTimeout .. | .resetHold .. => true
  | _ => false

/-- The commands that can change a value in force. -/
def changesValuesInForce : Instr → Bool
  | .registerWrite .. | .lfBoundary | .layerRelease .. | .functionLevelReset .. | .perstAssert .. | .linkDown ..
  | .resetHold .. => true
  | _ => false

end Sys2Proof.Machine
end

