-- ==== Sys2Proof/Certificates/Slice0/Obligations.lean ====
section
/-! DEFINITION. The statements about this block, by group of commands. Each says for its commands, under conditions on the state
and the operands alone, that exec answers a next state, and what that state holds by the rules cited in OBLIGATIONS.json. -/

section
open Sys2Proof Sys2Proof.Machine

/-! ### The block as a whole -/

/-- A step runs the command that has waited longest, with the rest of the queue (the queue is the model's own form of
"commands arrive one at a time"; log 1). -/
def Obligations.StepRunsTheFrontCommand : Prop :=
  ∀ (c : Instr) (rest : List Instr) (s : State), s.pending = c :: rest → step s = exec c { s with pending := rest }

/-- No command faults and none is refused: each answers a next state, and leaves the queue as it waits. -/
def Obligations.EveryCommandAnswersAndKeepsTheQueue : Prop :=
  ∀ (i : Instr) (s : State), Completes (exec i s) (fun t => t.pending = s.pending)

/-- The frame of every command: the registers and the parts of the state outside its footprint are as they were. -/
def Obligations.EveryCommandStaysInItsFootprint : Prop :=
  ∀ (i : Instr) (s : State), Leaves (footprint i).1 (footprint i).2 s (exec i s)

/-- Every byte of HBM3E reads as before, but after the seven commands that can store to it. -/
def Obligations.OnlyStoringCommandsChangeMemory : Prop :=
  ∀ (i : Instr) (s : State), storesBytes i = false → Completes (exec i s) (SameBytes s)

/-- The memory keeps its canonical form over every step (the form is the model's own, log 10). -/
def Obligations.StepKeepsTheMemoryCanonical : Prop :=
  ∀ s t : State, s.memoryOk → step s = .next t → t.memoryOk

/-- The memory of the reset state has its canonical form. -/
def Obligations.ResetMemoryIsCanonical : Prop := State.reset.memoryOk

/-- The metering die, with its counter, seal, totals and records, is changed by no command but its own, a register write (the
mailbox) and the fall of the main die's reset, which none of its contents follows (see the reset statements). -/
def Obligations.OnlyMeterCommandsReachTheMeteringDie : Prop :=
  ∀ (i : Instr) (s : State), reachesMeter i = false → Completes (exec i s) (fun t => t.mtr = s.mtr)

/-- An RWS register's value in force is changed by no command but a boundary, the release of a layer, the resets of
functions, contexts and links, a register write and the main die's reset. -/
def Obligations.ValuesInForceChangeOnlyAtBoundariesAndResets : Prop :=
  ∀ (i : Instr) (s : State), changesValuesInForce i = false → Completes (exec i s) (fun t => ∀ a, t.actRd a = s.actRd a)

/-- Start-up of the model: what State.reset holds of the values the spec gives (before the boot instant the main die is held
in reset, R437; the tables' reset values). -/
def Obligations.ResetHoldsTheTablesValues : Prop :=
  State.reset.live = false ∧ State.reset.tim.lfn = 0xFFFFFFFF ∧ State.reset.tim.bootLf = true ∧
    State.reset.get TIM_DPLL_STATUS.STATE = 1 ∧ State.reset.get TIM_LF_PERIOD.STEPS = 27777778 ∧
    State.reset.get LMP_SAFETY.STOPPED = 1 ∧ State.reset.get LMP_SAFETY.CAUSE = 5 ∧
    State.reset.get TIM_DPLL_CFG.HOLDOVER_S = 10 ∧ State.reset.get (SCN_ENG_LOCK.STALL_PCT 0) = 75 ∧
    State.reset.get LMP_PKG_LIMIT.AVG = 1300 ∧ State.reset.pending = []

/-- Registers of RW fields alone whose write sets nothing else off, each with the mask of its fields (Tables of GLB, TIM, HIF, MEM,
COL, PLN, SEQ, LMP, LAN, LXS, MTR, CAL and INT). -/
def plainRw : List (Nat × Nat) :=
  [(GLB_SNAP_SEL, 0xFFFE), (GLB_SNAP_TARGET, 0xFFFFFFFF), (TIM_GENLOCK_CFG, 0x0FFF0007), (TIM_SYSTIME_SET_LO, 0xFFFFFFFF),
   (TIM_SYSTIME_SET_HI, 0xFFFFFFFF), (CFG_HOST_LEN, 0x07FFFFFF), (HIF_PF_COMMIT_TARGET, 0xFFFFFFFF), (MEM_REFRESH_CFG, 0xF),
   (COL_DRIFT_CFG, 0xFF), (LMP_PS_CFG, 0xF), (LAN_EYE_CFG, 0x03FF03FF), (LXS_PROMOTE_ID_HI, 0xFFFF), (MTR_MB_ARG 0, 0xFFFFFFFF),
   (CAL_COLOUR_X, 0xFFFFFFFF), (INT_CTRL, 0x3FF)]

/-- Registers of RWS fields alone, each with the mask of its fields. -/
def plainRws : List (Nat × Nat) :=
  [(TIM_LF_CFG, 0xF3F), (TIM_FREERUN_PERIOD, 0xFFFFFFFF), (TIM_PHASE_OFFSET, 0xFFFFFF), (COL_CTRL, 0x1), (COL_PQ_REF, 0x3FFF),
   (PLN_MASK_ADDR_LO, 0xFFFFFFC0), (SEQ_HBM_WIN, 0xFFFFFF), (SEQ_THROTTLE_CFG, 0x1F)]

/-- What a word leaves of a register's old value where its fields are those of a mask: bits outside the fields stay. -/
def written (mask old v : Nat) : Nat := (old &&& (0xFFFFFFFF ^^^ mask)) ||| (v &&& mask)

/-- REGISTER_WRITE completes by the access code of what it reaches (Tables GEN-10 and HIF-3; R7 to R12, R74, R80, R81, R93): RW fields
take the word; RWS fields take it and keep their value in force, but not while the PF's commit is pending; RO and RWL registers keep
their value; a 64-bit write is its two halves; an 8- or 16-bit write, a reserved address and a page of a context that does not
exist have no effect but one access event; a VF reaches its own pages alone. -/
def Obligations.RegisterWriteByAccessCode : Prop :=
  (∀ (dt v : Nat) (e : Nat × Nat) (s : State), s.live = true → s.cfg.safeIdle = false → v < 2 ^ 32 → e ∈ plainRw →
      Completes (exec (.registerWrite dt 0 e.1 4 v) s) (fun t => t.rdN e.1 = written e.2 (s.rdN e.1) v ∧ ∀ b, b ≠ e.1 → t.rd b = s.rd b)) ∧
  (∀ (dt v : Nat) (e : Nat × Nat) (s : State), s.live = true → s.cfg.safeIdle = false → v < 2 ^ 32 → e ∈ plainRws →
      Completes (exec (.registerWrite dt 0 e.1 4 v) s) (fun t => t.act = s.act ∧
        if thas s.hif.commits pfCommit = true then Raised 0x0F06 s t ∧ ∀ b, evReg b = false → t.rd b = s.rd b
        else t.rdN e.1 = written e.2 (s.rdN e.1) v ∧ ∀ b, b ≠ e.1 → t.rd b = s.rd b)) ∧
  (∀ (dt v a : Nat) (s : State), s.live = true → s.cfg.safeIdle = false →
      a ∈ [GLB_DEVICE_ID, TIM_REF_STATUS, TIM_DPLL_STATUS, TIM_LF_PERIOD, SEQ_SCHED_STATUS, LXS_STATUS] →
      Completes (exec (.registerWrite dt 0 a 4 v) s) (fun t => ∀ b, t.rd b = s.rd b)) ∧
  (∀ (dt v : Nat) (s : State), s.live = true → s.cfg.safeIdle = false → s.cfg.imageRunning = true → v < 2 ^ 32 →
      (v ^^^ s.rdN MEM_MAP_CFG) &&& 0x7F0F ≠ 0 →
      Completes (exec (.registerWrite dt 0 MEM_MAP_CFG 4 v) s) (fun t => Raised 0x0F06 s t ∧ ∀ b, evReg b = false → t.rd b = s.rd b)) ∧
  (∀ (dt v a : Nat) (s : State), s.live = true → s.cfg.safeIdle = false → 0x2600000 ≤ a → a < 0x4000000 → a % 4 = 0 →
      Completes (exec (.registerWrite dt 0 a 4 v) s) (fun t => Raised 0x0F06 s t ∧ ∀ b, evReg b = false → t.rd b = s.rd b)) ∧
  (∀ (dt a width v : Nat) (s : State), s.live = true → s.cfg.safeIdle = false → width = 1 ∨ width = 2 → a < 0x300000 →
      Completes (exec (.registerWrite dt 0 a width v) s) (fun t => Raised 0x0F06 s t ∧ ∀ b, evReg b = false → t.rd b = s.rd b)) ∧
  (∀ (dt v : Nat) (s : State), s.live = true → s.cfg.safeIdle = false → v < 2 ^ 64 →
      Completes (exec (.registerWrite dt 0 TIM_SYSTIME_SET_LO 8 v) s) (fun t => t.rdN TIM_SYSTIME_SET_LO = v % 2 ^ 32 ∧
        t.rdN TIM_SYSTIME_SET_HI = v / 2 ^ 32 ∧ ∀ b, b ≠ TIM_SYSTIME_SET_LO → b ≠ TIM_SYSTIME_SET_HI → t.rd b = s.rd b)) ∧
  (∀ (dt f k v : Nat) (s : State), s.live = true → s.cfg.safeIdle = false → 0 < f → f < 256 → k < 4 → v < 2 ^ 32 →
      Completes (exec (.registerWrite dt f (0x10000 * k + 0x44) 4 v) s) (fun t =>
        if s.ctxExists (4 * f + k) = true then
          t.rdN (HIF_CTX_APERTURE (4 * f + k)) = written 0xFFF (s.rdN (HIF_CTX_APERTURE (4 * f + k))) v ∧
            ∀ b, b ≠ HIF_CTX_APERTURE (4 * f + k) → t.rd b = s.rd b
        else Raised 0x0F06 s t ∧ ∀ b, evReg b = false → t.rd b = s.rd b)) ∧
  (∀ (dt f a width v : Nat) (s : State), s.live = true → 0 < f → 0x100000 ≤ a → a < 4 * 2 ^ 40 - 4 →
      Completes (exec (.registerWrite dt f a width v) s) (fun t => ∀ b, t.rd b = s.rd b)) ∧
  (∀ (dt v a : Nat) (s : State), s.live = true → s.cfg.safeIdle = true → a ∈ [TIM_GENLOCK_CFG, MEM_REFRESH_CFG, COL_DRIFT_CFG, LMP_PS_CFG] →
      Completes (exec (.registerWrite dt 0 a 4 v) s) (fun t => ∀ b, t.rd b = s.rd b))

/-! ### Time, references and shutters (spec/02) -/

/-- The DPLL's states: PULLIN and ACQUIRE end in LOCKED, HOLDOVER ends in EXPIRED (R39, R40, R43, Table TIM-3). -/
def Obligations.DpllStatesEndAsTableTIM3Says : Prop :=
  (∀ (dt : Nat) (s : State), s.live = true → s.get TIM_DPLL_STATUS.STATE = 3 → (s.tick dt).inPhase = true →
    Completes (exec (.pullinDone dt) s) (fun t => t.get TIM_DPLL_STATUS.STATE = 2 ∧ Raised 0x0302 s t ∧ t.tim.everLocked = true)) ∧
  (∀ (dt : Nat) (s : State), s.live = true → s.get TIM_DPLL_STATUS.STATE = 1 → s.get TIM_REF_STATUS.ACTIVE ≠ 0 →
      s.refValid (s.get TIM_REF_STATUS.ACTIVE) = true → s.tim.lockEdges = 8 →
    Completes (exec (.dpllLocked dt) s) (fun t => t.get TIM_DPLL_STATUS.STATE = 2 ∧ Raised 0x0302 s t ∧ t.tim.everLocked = true)) ∧
  (∀ (dt : Nat) (s : State), s.live = true → s.get TIM_DPLL_STATUS.STATE = 4 →
      min 10 (s.get TIM_DPLL_CFG.HOLDOVER_S) * secSteps ≤ s.now + dt - s.tim.holdStart →
    Completes (exec (.holdoverExpired dt) s)
      (fun t => t.get TIM_DPLL_STATUS.STATE = 5 ∧ t.get TIM_DPLL_STATUS.HOLDOVER_LEFT = 0 ∧ Raised 0x0303 s t))

/-- The reference inputs (R38, R42): a first edge is kept; an edge more than 1 us from its prediction is counted and leaves the
reference as it is, and the third in a row makes it invalid; a missing edge makes it invalid; the 10 MHz detector is valid
within 100 ppm; REVERT returns to PRIMARY; TIM_REF_CTRL takes a defined word and refuses another. -/
def Obligations.ReferenceInputsAndTheirSelection : Prop :=
  (∀ (dt r aux : Nat) (s : State), s.live = true → r = 1 ∨ r = 2 → (s.ref r).last = none →
    Completes (exec (.referenceEdge dt r aux) s)
      (fun t => (t.ref r).last = some (s.now + dt) ∧ (t.ref r).valid = (s.ref r).valid ∧ ∀ a, t.rd a = s.rd a)) ∧
  (∀ (dt l : Nat) (s : State), s.live = true → (s.ref 2).last = some l → (s.ref 2).valid = true →
      usSteps < Int.natAbs (((s.now + dt - l : Nat) : Int) -
        (periodsBetween (s.now + dt - l) (s.ref 2).meas * (s.ref 2).meas : Nat)) →
    Completes (exec (.referenceEdge dt 2 0) s) (fun t =>
      (if (s.ref 2).outliers < 2 then (t.ref 2).valid = true ∧ (t.ref 2).outliers = (s.ref 2).outliers + 1 ∧ (t.ref 2).last = some l
        else s.get TIM_REF_STATUS.FRAME_VALID ≠ 0 → (t.ref 2).valid = false ∧ t.get TIM_REF_STATUS.FRAME_VALID = 0) ∧
      t.get TIM_REF_STATUS.OUTLIERS = min 255 (s.get TIM_REF_STATUS.OUTLIERS + 1))) ∧
  (∀ (dt hz : Nat) (s : State), s.live = true →
    Completes (exec (.referenceEdge dt 4 hz) s)
      (fun t => t.get TIM_REF_STATUS.REF10M_VALID = if 9999000 ≤ hz ∧ hz ≤ 10001000 then 1 else 0)) ∧
  (∀ (dt r l : Nat) (s : State), s.live = true → r = 1 ∨ r = 2 → (s.ref r).valid = true → s.refValid r = true →
      (s.ref r).seen = some l → 3 * (s.ref r).meas < 2 * (s.now + dt - l) →
    Completes (exec (.referenceMissing dt r) s) (fun t => t.refValid r = false ∧ (t.ref r).valid = false)) ∧
  (∀ (dt : Nat) (s : State), s.live = true → s.cal.sess = [] → s.cfg.safeIdle = false → bitAt s.tim.refCtrl 17 = true →
      s.get TIM_REF_STATUS.ACTIVE ≠ s.refPrimary → s.refValid s.refPrimary = true →
      (s.refPrimary = 0 ∨ secSteps ≤ s.now + dt - (s.ref s.refPrimary).validSince) →
    Completes (exec (.referenceRevert dt) s) (fun t => t.tim.switchTo = some s.refPrimary)) ∧
  (∀ (dt : Nat) (w : Word) (s : State), s.live = true → s.cfg.safeIdle = false →
    Completes (exec (.refCtrlWrite dt w) s) (fun t =>
      (∀ a, a ≠ TIM_REF_CTRL → evReg a = false → t.rd a = s.rd a) ∧
      if bitsOf w.toNat 2 0 ≤ 3 ∧ bitsOf w.toNat 6 4 ≤ 3 ∧ bitsOf w.toNat 10 8 ≤ 3 ∧
          ¬ (s.flag LXS_STATUS.ROOT = true ∧ (bitsOf w.toNat 2 0 = 3 ∨ bitsOf w.toNat 6 4 = 3 ∨ bitsOf w.toNat 10 8 = 3)) then
        t.rdN TIM_REF_CTRL = w.toNat &&& 0x00070777
      else t.rd TIM_REF_CTRL = s.rd TIM_REF_CTRL ∧ Raised 0x0F06 s t))

/-- Reads that latch, and the steering of system time (R9, R53, R59). -/
def Obligations.TimeReadsLatchAndStepsArm : Prop :=
  (∀ (dt : Nat) (s : State), s.live = true →
    Completes (exec (.systimeLoRead dt) s) (fun t => t.readReg GLB_SYSTIME_HI = BitVec.ofNat 32 ((s.tick dt).sysNow / 2 ^ 32) ∧
      t.readReg GLB_LFN_LATCHED = BitVec.ofNat 32 s.tim.lfn ∧ t.readReg GLB_PHASE_LATCHED = BitVec.ofNat 32 (s.tick dt).phase ∧
      ∀ a, t.rd a = s.rd a)) ∧
  (∀ (dt a : Nat) (s : State), s.live = true → s.cfg.safeIdle = false → (lookupReg a).any (·.pairLow) = true → a ≠ GLB_SYSTIME_LO →
      a % 4 = 0 → a < 0x380000 ∨ 0x400000 ≤ a → a < 0x2600000 →
    Completes (exec (.latchedPairRead dt ⟨0, a, 4⟩) s) (fun t => tfind t.glb.latchHi a = some (s.rd (a + 4)) ∧ (∀ b, t.rd b = s.rd b) ∧
      t.out = s.out ++ [.readReply 0 true (leBytes 4 ((s.tick dt).readReg a).toNat)])) ∧
  (∀ (dt : Nat) (s : State), s.live = true →
    Completes (exec (.latchedPairRead dt ⟨0, THM_TEMP, 4⟩) s) (fun t => t.get THM_TEMP.PEAK = s.get THM_TEMP.TEMP ∧
      t.out = s.out ++ [.readReply 0 true (leBytes 4 ((s.tick dt).readReg THM_TEMP).toNat)])) ∧
  (∀ (dt : Nat) (w : Word) (s : State), s.live = true → s.cfg.safeIdle = false → s.timeFollows = true →
    Completes (exec (.systimeStepArm dt w) s) (fun t => Raised 0x0F06 s t ∧ t.rd TIM_SYSTIME_CTRL = s.rd TIM_SYSTIME_CTRL ∧ t.tim = s.tim)) ∧
  (∀ (dt : Nat) (w : Word) (s : State), s.live = true → s.cfg.safeIdle = false → s.timeFollows = false → w.toNat % 2 = 1 →
    Completes (exec (.systimeStepArm dt w) s) (fun t => t.get TIM_SYSTIME_CTRL.STEP_ARM = 1 ∧
      t.get TIM_SYSTIME_CTRL.SLEW_EN = bitsOf w.toNat 1 1 ∧ t.get TIM_SYSTIME_CTRL.SLEW = bitsOf w.toNat 31 16))

/-- The snapshot: armed for a target in the future, MISSED where it is not, busy where one is under way; its data becomes
readable; RELEASE frees it (R57, R58). -/
def Obligations.SnapshotStates : Prop :=
  (∀ (dt : Nat) (s : State), s.live = true → s.get GLB_SNAP_STATUS.STATE = 0 ∨ s.get GLB_SNAP_STATUS.STATE = 4 →
    Completes (exec (.snapshotArm dt true) s) (fun t =>
      if 1 ≤ mod32Sub (s.get GLB_SNAP_TARGET.LFN) s.tim.lfn ∧ mod32Sub (s.get GLB_SNAP_TARGET.LFN) s.tim.lfn ≤ 2 ^ 31 ∧
          ¬ (s.get GLB_SNAP_TARGET.LFN = (s.tim.lfn + 1) % 2 ^ 32 ∧ (s.tick dt).toBoundary < 50 * usSteps) then
        t.get GLB_SNAP_STATUS.STATE = 1 ∧ t.glb.snapTarget = s.get GLB_SNAP_TARGET.LFN ∧ t.get GLB_SNAP_CTRL.ARM = 1
      else t.get GLB_SNAP_STATUS.STATE = 4 ∧ Raised 0x1003 s t)) ∧
  (∀ (dt : Nat) (atLfn : Bool) (s : State), s.live = true →
      s.get GLB_SNAP_STATUS.STATE = 1 ∨ s.get GLB_SNAP_STATUS.STATE = 2 ∨ s.get GLB_SNAP_STATUS.STATE = 3 →
    Completes (exec (.snapshotArm dt atLfn) s)
      (fun t => t.get GLB_SNAP_STATUS.STATE = s.get GLB_SNAP_STATUS.STATE ∧ t.glb = s.glb ∧ Raised 0x0F06 s t)) ∧
  (∀ (dt : Nat) (s : State), s.live = true → s.get GLB_SNAP_STATUS.STATE = 2 →
    Completes (exec (.snapshotReady dt) s) (fun t => t.get GLB_SNAP_STATUS.STATE = 3 ∧ t.glb = s.glb)) ∧
  (∀ (dt : Nat) (s : State), s.live = true →
    Completes (exec (.snapshotRelease dt) s) (fun t => t.get GLB_SNAP_STATUS.STATE = 0 ∧ t.get GLB_SNAP_CTRL.ARM = 0 ∧ t.glb.snapWords = []))

/-- Captured shutter windows: an open edge is kept with its phase and LFN, a lost shutter enters LOST with its event, a late
close and an early open cut light (R48, R50, R51, R55). -/
def Obligations.ShutterEdgesLossAndCuts : Prop :=
  (∀ (dt n : Nat) (high : Bool) (s : State), s.live = true → s.captured n = true → s.actFlag (TIM_SHUT_CTRL.PROTECT n) = false →
      high ≠ s.actFlag (TIM_SHUT_CTRL.POL n) →
    Completes (exec (.shutterEdge dt n high) s)
      (fun t => (t.cam n).openEdge = some ((s.tick dt).phase, s.tim.lfn) ∧ (t.cam n).lastOpen = s.now + dt)) ∧
  (∀ (dt n : Nat) (high : Bool) (s : State), s.live = true → s.captured n = true → (s.cam n).openEdge = none →
      high = s.actFlag (TIM_SHUT_CTRL.POL n) →
    Completes (exec (.shutterEdge dt n high) s) (fun t => (t.cam n).lastClose = s.now + dt ∧ ∀ a, t.rd a = s.rd a)) ∧
  (∀ (dt n : Nat) (s : State), s.live = true → n < 4 → s.captured n = true → s.get (TIM_SHUT_STATUS.STATE n) ≠ 4 →
      (s.cam n).lastOpen + s.fpuSteps (2 * s.frameFpu n) + 400 * s.actGet (TIM_SHUT_CTRL.JITTER_BOUND n) ≤ s.now + dt →
    Completes (exec (.shutterLost dt n) s)
      (fun t => t.get (TIM_SHUT_STATUS.STATE n) = 4 ∧ t.get (TIM_SHUT_STATUS.RATE_MISMATCH n) = 0 ∧ Raised 0x0306 s t)) ∧
  (∀ (dt n : Nat) (s : State), s.live = true → (s.tick dt).closeLate n = true →
      ¬ ((s.cam n).cut = 2 ∧ s.now + dt < (s.cam n).cutEnd) →
    Completes (exec (.shutterLateCloseCut dt n) s)
      (fun t => (t.cam n).cut = 2 ∧ (t.cam n).cutEnd = s.nextBoundary ∧ Raised 0x0307 s t)) ∧
  (∀ (dt n : Nat) (s : State), s.live = true → s.protects n = true →
      circ (s.frameFpu n) ((s.tick dt).camPos n) (s.pubAt n) < 0 → ¬ ((s.cam n).cut = 1 ∧ s.now + dt < (s.cam n).cutEnd) →
    Completes (exec (.armedEventTrigger dt 0 n true) s) (fun t => (t.cam n).cut = 1 ∧ Raised 0x0307 s t)) ∧
  (∀ (dt input n : Nat) (s : State), s.live = true →
    Completes (exec (.armedEventTrigger dt input n false) s) (fun t => Frame (fun _ => False) (fun _ => False) s t))


/-! ### The metering die (spec/15) -/

/-- Latches on a powered, provisioned meter: one without its marker is missed, and the second in a row blocks the chain with an
audit entry; a matched one ends the run of misses; a second without a latch marks a gap; a stopped crystal blocks every chain
(R361, R364, R365). -/
def Obligations.MeterBlocksUnmatchedChains : Prop :=
  (∀ (dt c clk : Nat) (words : List Nat) (s : State), s.mtr.powered = true → s.provisioned = true → c < 4 →
      mtrPositions s.mtr.params c ≠ 0 →
    Completes (exec (.mtrLatchObserved dt c false clk words) s) (fun t =>
      tget 0 t.mtr.lastLatch c = s.now + dt ∧ tget 0 t.mtr.misses c = tget 0 s.mtr.misses c + 1 ∧
      (tget 0 s.mtr.misses c = 1 → t.mtrPasses c = false) ∧
      (tget 0 s.mtr.misses c = 1 ∧ s.mtr.blocked.contains c = false → t.mtr.count = s.mtr.count + 1) ∧
      (tget 0 s.mtr.misses c ≠ 1 → t.mtr.count = s.mtr.count ∧ t.mtr.blocked = s.mtr.blocked) ∧ t.mtr.totals = s.mtr.totals)) ∧
  (∀ (dt c clk : Nat) (words : List Nat) (s : State), s.mtr.powered = true → s.provisioned = true → c < 4 →
      mtrPositions s.mtr.params c = 1 →
    Completes (exec (.mtrLatchObserved dt c true clk words) s) (fun t => tget 0 t.mtr.misses c = 0 ∧
      tget 0 t.mtr.lastLatch c = s.now + dt ∧ t.mtr.count = s.mtr.count ∧ t.mtr.blocked = s.mtr.blocked)) ∧
  (∀ (dt c : Nat) (s : State), s.mtr.powered = true → c < 4 → tget 0 s.mtr.lastLatch c + secSteps ≤ s.now + dt →
    Completes (exec (.mtrGap dt c) s) (fun t => bitAt t.mtr.bits (4 + c) = true ∧ t.mtr.totals = s.mtr.totals)) ∧
  (∀ (dt : Nat) (s : State), s.mtr.powered = true → s.mtr.clockFault = false →
    Completes (exec (.clockFault dt) s) (fun t => t.mtr.clockFault = true ∧ t.mtr.count = s.mtr.count + 1 ∧
      t.meterTime = (s.tick dt).meterTime ∧ (s.provisioned = true → ∀ c, t.mtrPasses c = false)))

/-- The seal, the supply and the store: every opening moves the counter, closing drops a staged block, records carry the next
SEQ, and a store write that fails twice sets NV_FAULT (R360, R368 to R374). -/
def Obligations.MeterSealSupplyAndStore : Prop :=
  (∀ (dt : Nat) (s : State), s.mtr.sealOpen = false →
    Completes (exec (.sealOpened dt) s) (fun t => t.mtr.sealOpen = true ∧ t.mtr.count = s.mtr.count + 1 ∧
      (if s.mtr.powered then t.mtr.batSeals = s.mtr.batSeals ∧ bitAt t.mtr.bits 10 = true
        else t.mtr.batSeals = s.mtr.batSeals ++ [s.mtr.count + 1] ∧ t.mtr.writes = s.mtr.writes))) ∧
  (∀ (dt : Nat) (s : State), s.mtr.sealOpen = true →
    Completes (exec (.sealClosed dt) s) (fun t => t.mtr.sealOpen = false ∧ t.mtr.staged = none ∧
      t.mtr.count = if s.mtr.powered then s.mtr.count + 1 else s.mtr.count)) ∧
  (∀ (dt m : Nat) (s : State), s.mtr.powered = true → s.mtr.clockFault = false → 0 < m → s.mtr.timeBase < 1966080 * m →
      (s.tick dt).meterTime = 1966080 * m →
    Completes (exec (.mtrRecordDue dt) s) (fun t => t.mtr.seq = (s.mtr.seq + 1) % 2 ^ 32 ∧
      t.mtr.writes.length = s.mtr.writes.length + 1 ∧ t.mtr.timeBase = 1966080 * m ∧ t.mtr.estWords = 0 ∧ t.mtr.totals = s.mtr.totals)) ∧
  (∀ (dt : Nat) (w : MeterWrite) (r : List MeterWrite) (s : State), s.mtr.powered = true → s.mtr.writes = w :: r → w.kind = 0 →
    Completes (exec (.mtrStoreWriteDone dt true) s) (fun t => t.mtr.writes = r ∧ tfind t.mtr.records w.key = some w.bytes)) ∧
  (∀ (dt : Nat) (w : MeterWrite) (r : List MeterWrite) (s : State), s.mtr.powered = true → s.mtr.writes = w :: r →
    Completes (exec (.mtrStoreWriteDone dt false) s) (fun t =>
      (w.fails = 0 → t.mtr.writes = { w with fails := 1 } :: r ∧ t.mtr.nvFault = s.mtr.nvFault) ∧
      (w.fails ≠ 0 → t.mtr.nvFault = true ∧ (s.mtr.nvFault = false → t.mtr.count = s.mtr.count + 1)))) ∧
  (∀ (dt : Nat) (ok : Bool) (s : State), s.mtr.powered = true →
    Completes (exec (.mtrSupplyLoss dt ok) s) (fun t => t.mtr.powered = false ∧ t.mtr.writes = [] ∧ t.mtr.staged = none ∧
      t.get MTR_MB_STATUS.LINK = 0 ∧ (∀ c, t.mtrPasses c = false) ∧ t.mtr.count = s.mtr.count ∧
      t.mtr.seq = if s.mtr.writes = [] then (s.mtr.seq + 1) % 2 ^ 32 else s.mtr.seq)) ∧
  (∀ (dt : Nat) (s : State), s.mtr.powered = false → s.mtr.batSeals = [] →
    Completes (exec (.mtrPowerUp dt true) s) (fun t => t.mtr.powered = true ∧ t.mtr.count = max s.mtr.count s.mtr.storeCount ∧
      t.mtr.seq = (((newestOf s.mtr.records).map (·.1)).getD 0 + 1) % 2 ^ 32 ∧ t.mtr.blocked = [] ∧
      t.mtr.writes.length = s.mtr.writes.length + 1)) ∧
  (∀ (dt : Nat) (s : State), s.mtr.powered = false →
    Completes (exec (.mtrPowerUp dt false) s) (fun t => t.mtr.powered = true ∧ t.mtr.vbatLost = true ∧
      t.mtr.count = s.mtr.storeCount + 1))

/-- The service port of a powered meter: a wrong CRC and a closed seal are answered and change nothing; with the seal open a
valid block is staged, a staged one committed with the next PARAM_SET, or discarded (R369, Table MTR-4). -/
def Obligations.MeterServicePort : Prop :=
  (∀ (dt op : Nat) (args : List Nat) (s : State), s.mtr.powered = true →
    Completes (exec (.msvcRead dt op args true) s) (fun t => (∃ b, t.out = s.out ++ [.service 1 0 b]) ∧ t.mtr = s.mtr)) ∧
  (∀ (dt op : Nat) (args : List Nat) (s : State), s.mtr.powered = true →
    Completes (exec (.msvcRead dt op args false) s) (fun t => t.out = s.out ++ [.service 1 1 []] ∧ t.mtr = s.mtr)) ∧
  (∀ (dt : Nat) (block : List Byte) (crc : Bool) (s : State), s.mtr.powered = true →
    Completes (exec (.msvcStage dt block crc) s) (fun t =>
      if crc = false then t.out = s.out ++ [.service 0x10 1 []] ∧ t.mtr = s.mtr
      else if s.mtr.sealOpen = false then t.out = s.out ++ [.service 0x10 2 []] ∧ t.mtr = s.mtr
      else if paramsOk block = false then t.out = s.out ++ [.service 0x10 3 []] ∧ t.mtr = s.mtr
      else t.out = s.out ++ [.service 0x10 0 []] ∧ t.mtr = { s.mtr with staged := some block })) ∧
  (∀ (dt : Nat) (b : List Byte) (s : State), s.mtr.powered = true → s.mtr.sealOpen = true → s.mtr.staged = some b →
    Completes (exec (.msvcCommit dt true) s) (fun t => t.out = s.out ++ [.service 0x11 0 []] ∧ t.mtr.params = b ∧
      t.mtr.staged = none ∧ t.mtr.paramSet = (s.mtr.paramSet + 1) % 2 ^ 32 ∧ t.mtr.count = s.mtr.count + 1 ∧ t.mtr.blocked = [] ∧
      t.mtr.seq = ((s.mtr.seq + 1) % 2 ^ 32 + 1) % 2 ^ 32)) ∧
  (∀ (dt : Nat) (crc : Bool) (s : State), s.mtr.powered = true →
    Completes (exec (.msvcDiscard dt crc) s) (fun t =>
      if crc = false then t.out = s.out ++ [.service 0x12 1 []] ∧ t.mtr = s.mtr
      else if s.mtr.sealOpen = false then t.out = s.out ++ [.service 0x12 2 []] ∧ t.mtr = s.mtr
      else if s.mtr.staged = none then t.out = s.out ++ [.service 0x12 4 []] ∧ t.mtr = s.mtr
      else t.out = s.out ++ [.service 0x12 0 []] ∧ t.mtr.staged = none ∧ t.mtr.params = s.mtr.params))

/-- The mailbox takes a request: OP, REQ, BUSY, its instant, and its arguments in MTR_MB_ARG (Tables MTR-8, MTR-9). -/
def MailTaken (dt op : Nat) (args : List Nat) (s t : State) : Prop :=
  t.get MTR_MB_CTRL.OP = op ∧ t.get MTR_MB_CTRL.REQ = 1 ∧ t.get MTR_MB_STATUS.BUSY = 1 ∧ t.mtr.mbTime = s.now + dt ∧
    ∀ k, k < min 6 args.length → t.rdN (MTR_MB_ARG k) = nthD args k 0 % 2 ^ 32

/-- The mailbox: a request sets REQ, OP and BUSY and takes its arguments, and is busy while one is outstanding; the answer and
the timeout end it (R375, R376). -/
def Obligations.MeterMailbox : Prop :=
  (∀ (dt : Nat) (s : State), s.live = true → s.get MTR_MB_STATUS.BUSY = 0 →
    Completes (exec (.readId dt) s) (MailTaken dt 1 [] s)) ∧
  (∀ (dt : Nat) (s : State), s.live = true → s.get MTR_MB_STATUS.BUSY = 0 →
    Completes (exec (.readStatus dt) s) (MailTaken dt 2 [] s)) ∧
  (∀ (dt seq : Nat) (s : State), s.live = true → s.get MTR_MB_STATUS.BUSY = 0 →
    Completes (exec (.readRecord dt seq) s) (MailTaken dt 3 [seq] s)) ∧
  (∀ (dt seq : Nat) (nonce : List Nat) (s : State), s.live = true → s.get MTR_MB_STATUS.BUSY = 0 →
    Completes (exec (.exportRecord dt seq nonce) s) (MailTaken dt 4 (seq :: nonce) s)) ∧
  (∀ (dt count : Nat) (s : State), s.live = true → s.get MTR_MB_STATUS.BUSY = 0 →
    Completes (exec (.readAudit dt count) s) (MailTaken dt 5 [count] s)) ∧
  (∀ (dt : Nat) (s : State), s.live = true → s.get MTR_MB_STATUS.BUSY = 0 →
    Completes (exec (.readParams dt) s) (MailTaken dt 6 [] s)) ∧
  (∀ (dt lo hi : Nat) (s : State), s.live = true → s.get MTR_MB_STATUS.BUSY = 0 →
    Completes (exec (.setHostTime dt lo hi) s) (MailTaken dt 7 [lo, hi] s)) ∧
  (∀ (dt : Nat) (s : State), s.live = true → s.get MTR_MB_STATUS.BUSY = 0 →
    Completes (exec (.readCurrent dt) s) (MailTaken dt 8 [] s)) ∧
  (∀ (dt seq count lo hi : Nat) (nonce : List Nat) (s : State), s.live = true → s.get MTR_MB_STATUS.BUSY = 1 →
    ∀ i ∈ [(.readId dt : Instr), .readStatus dt, .readRecord dt seq, .exportRecord dt seq nonce, .readAudit dt count, .readParams dt,
        .setHostTime dt lo hi, .readCurrent dt],
      Completes (exec i s) (fun t => Raised 0x0F06 s t ∧ t.mtr = s.mtr ∧ t.rd MTR_MB_CTRL = s.rd MTR_MB_CTRL)) ∧
  (∀ (dt : Nat) (s : State), s.live = true → s.get MTR_MB_STATUS.BUSY = 1 → s.get MTR_MB_STATUS.LINK = 1 →
      s.mtr.powered = true → s.mtr.writes = [] → s.get MTR_MB_CTRL.OP = 7 →
    Completes (exec (.mtrMbAnswer dt) s) (fun t => t.get MTR_MB_STATUS.BUSY = 0 ∧ t.get MTR_MB_CTRL.REQ = 0 ∧
      t.get MTR_MB_STATUS.RESULT = 1 ∧ t.get MTR_MB_STATUS.LEN = 0 ∧
      t.mtr.hostTime = nthD s.mtr.mbArgs 0 0 + nthD s.mtr.mbArgs 1 0 * 2 ^ 32)) ∧
  (∀ (dt : Nat) (b : List Byte) (s : State), s.live = true → s.get MTR_MB_STATUS.BUSY = 1 → s.get MTR_MB_STATUS.LINK = 1 →
      s.mtr.powered = true → s.mtr.writes = [] → s.get MTR_MB_CTRL.OP = 3 → tfind s.mtr.records (nthD s.mtr.mbArgs 0 0) = some b →
    Completes (exec (.mtrMbAnswer dt) s) (fun t => t.get MTR_MB_STATUS.BUSY = 0 ∧ t.get MTR_MB_STATUS.RESULT = 1 ∧ t.mtr.mbData = b)) ∧
  (∀ (dt : Nat) (s : State), s.live = true → s.get MTR_MB_STATUS.BUSY = 1 → s.get MTR_MB_STATUS.LINK = 0 →
    Completes (exec (.mtrMbTimeout dt) s) (fun t => t.get MTR_MB_STATUS.BUSY = 0 ∧ t.get MTR_MB_STATUS.RESULT = 4)) ∧
  (∀ (dt : Nat) (s : State), s.live = true → s.get MTR_MB_STATUS.BUSY = 1 → s.get MTR_MB_STATUS.LINK = 1 →
      s.mtr.mbTime + (if s.get MTR_MB_CTRL.OP = 4 then 100 else 50) * msSteps ≤ s.now + dt →
    Completes (exec (.mtrMbTimeout dt) s) (fun t => t.get MTR_MB_STATUS.BUSY = 0 ∧ t.get MTR_MB_STATUS.RESULT = 5)) ∧
  (∀ (dt : Nat) (s : State), s.live = true → s.mtr.powered = true →
    Completes (exec (.meterLinkUp dt) s) (fun t => t.get MTR_MB_STATUS.LINK = 1 ∧ t.mtr = s.mtr))

/-! ### Images, fuses, reset and the host link (spec/03, spec/04, spec/19) -/

/-- Loads that fail: a source in flash goes to the next one and the last leaves safe idle; a reload is dropped and the running
image stays; refused requests leave everything but the failure report (R68, R69, R73, R75). -/
def Obligations.FailedLoadsLeaveTheirStateOfTableCFG6 : Prop :=
  (∀ (dt : Nat) (s : State), s.live = true → s.cfg.load = 1 → s.cfg.waiting = [] →
    Completes (exec (.flashNoResponse dt) s) (fun t => t.cfg.load = 2 ∧ t.get CFG_STATUS.FAIL = 1 ∧ t.get CFG_STATUS.SRC_ACT = 1 ∧
      t.get CFG_FAIL_INFO.NO_ENTRY = 1 ∧ t.get CFG_FAIL_INFO.ENTRY = 0x3F ∧ Raised 0x0D01 s t ∧ t.cfg.secs = s.cfg.secs)) ∧
  (∀ (dt : Nat) (s : State), s.live = true → s.cfg.load = 2 → s.cfg.waiting = [] →
    Completes (exec (.flashNoResponse dt) s) (fun t => t.cfg.load = 0 ∧ t.cfg.safeIdle = true ∧ t.get CFG_STATUS.FAIL = 1 ∧
      t.get CFG_STATUS.STATE = 5 ∧ t.get HIF_STATUS.NUM_VFS = 0 ∧ t.get TIM_DPLL_STATUS.STATE = 0 ∧ t.cfg.secs = s.cfg.secs)) ∧
  (∀ (dt : Nat) (s : State), s.live = true → s.cfg.load = 4 → s.cfg.waiting = [] →
    Completes (exec (.flashNoResponse dt) s) (fun t => t.cfg.load = 0 ∧ t.get CFG_STATUS.FAIL = 1 ∧ t.get CFG_STATUS.RELOAD = 6 ∧
      t.get CFG_LOAD_CTRL.START = 0 ∧ Raised 0x0D01 s t ∧ t.cfg.secs = s.cfg.secs ∧ t.cfg.reload = [])) ∧
  (∀ (dt : Nat) (s : State), s.live = true → s.cfg.load = 3 → s.cfg.waiting = [] →
    Completes (exec (.hostReadError dt) s) (fun t => t.cfg.load = 0 ∧ t.cfg.safeIdle = true ∧ t.get CFG_STATUS.FAIL = 0x0E ∧
      t.get CFG_STATUS.STATE = 5 ∧ t.cfg.secs = s.cfg.secs)) ∧
  (∀ (dt : Nat) (s : State), s.live = true → s.cfg.load = 5 → s.cfg.waiting = [] →
    Completes (exec (.hostReadError dt) s) (fun t => t.cfg.load = 0 ∧ t.get CFG_STATUS.FAIL = 0x0E ∧ t.get CFG_STATUS.RELOAD = 6 ∧
      Raised 0x0D01 s t ∧ t.cfg.secs = s.cfg.secs ∧ t.cfg.safeIdle = s.cfg.safeIdle)) ∧
  (∀ (dt : Nat) (s : State), s.live = true →
    Completes (exec (.flashFullLoadRefused dt) s) (fun t => t.get CFG_STATUS.FAIL = 0x0D ∧ t.get CFG_LOAD_CTRL.START =
        (if s.cfg.load = 0 ∧ s.cfg.reload = [] then 0 else s.get CFG_LOAD_CTRL.START) ∧
      t.get CFG_STATUS.STATE = s.get CFG_STATUS.STATE ∧ Raised 0x0D01 s t ∧ t.cfg = s.cfg)) ∧
  (∀ (dt : Nat) (s : State), s.live = true → s.cfg.safeIdle = false →
    Completes (exec (.hostFullLoad dt) s) (fun t => t.get CFG_STATUS.FAIL = 0x0D ∧ t.get CFG_LOAD_CTRL.START =
        (if s.cfg.load = 0 ∧ s.cfg.reload = [] then 0 else s.get CFG_LOAD_CTRL.START) ∧
      t.get CFG_STATUS.STATE = s.get CFG_STATUS.STATE ∧ Raised 0x0D01 s t ∧ t.cfg = s.cfg)) ∧
  (∀ (dt : Nat) (s : State), s.live = true → s.cfg.load = 4 ∨ s.cfg.load = 5 ∨ s.cfg.reload ≠ [] →
    ∀ i ∈ [(.reloadFromFlash dt : Instr), .reloadFromHost dt],
    Completes (exec i s) (fun t => t.get CFG_STATUS.FAIL = 0x0F ∧ t.get CFG_STATUS.RELOAD = s.get CFG_STATUS.RELOAD ∧
      Raised 0x0D01 s t ∧ t.cfg = s.cfg))

/-- Loads that go on: a host load from safe idle, a reload from flash and from the host, an image whose bytes have been read,
and a reload whose compiles have all been accepted (R69, R70, R75, R76). -/
def Obligations.LoadsBeginAndEnd : Prop :=
  (∀ (dt : Nat) (s : State), s.live = true → s.cfg.safeIdle = true → s.cfg.load = 0 → s.cfg.otpLocked = true →
      s.fnCanHost 0 = true →
    Completes (exec (.hostFullLoad dt) s) (fun t => t.cfg = { s.cfg with load := 3 } ∧ t.get CFG_LOAD_CTRL.START = 1 ∧
      t.get CFG_LOAD_CTRL.KIND = 0 ∧ t.get CFG_LOAD_CTRL.FROM_HOST = 1 ∧ t.get CFG_STATUS.STATE = 1 ∧ t.get CFG_STATUS.SRC_ACT = 2)) ∧
  (∀ (dt : Nat) (s : State), s.live = true → s.get HIF_STATUS.STARTUP_DONE = 1 → s.reloadPending = false → s.cfg.dirValid = true →
    Completes (exec (.reloadFromFlash dt) s) (fun t => t.cfg = { s.cfg with load := 4 } ∧ t.get CFG_LOAD_CTRL.START = 1 ∧
      t.get CFG_LOAD_CTRL.KIND = 1 ∧ t.get CFG_LOAD_CTRL.FROM_HOST = 0 ∧ t.get CFG_STATUS.RELOAD = 1)) ∧
  (∀ (dt : Nat) (s : State), s.live = true → s.get HIF_STATUS.STARTUP_DONE = 1 → s.reloadPending = false → s.fnCanHost 0 = true →
    Completes (exec (.reloadFromHost dt) s) (fun t => t.cfg = { s.cfg with load := 5 } ∧ t.get CFG_LOAD_CTRL.START = 1 ∧
      t.get CFG_LOAD_CTRL.KIND = 1 ∧ t.get CFG_LOAD_CTRL.FROM_HOST = 1 ∧ t.get CFG_STATUS.RELOAD = 1)) ∧
  (∀ (dt : Nat) (bytes : List Byte) (s : State), s.live = true → s.cfg.load = 1 → s.cfg.waiting = [] → s.cfg.dirValid = true → leAt bytes 0 4 ≠ magicImage →
    Completes (exec (.imageLoadDone dt bytes) s) (fun t => t.cfg.load = 2 ∧ t.cfg.secs = s.cfg.secs ∧ t.cfg.dataRead = s.cfg.dataRead ∧
      t.get CFG_STATUS.FAIL = 2 ∧ t.get CFG_STATUS.SRC_ACT = 1)) ∧
  (∀ (dt : Nat) (bytes : List Byte) (s : State), s.live = true → s.cfg.load = 4 ∨ s.cfg.load = 5 → s.cfg.waiting = [] →
      s.get CAL_BIST.DONE = 1 →
      s.frontFail bytes true s.sourceLen.1 s.sourceLen.2 = none → hashFail bytes = none → s.resourceFail bytes true = none →
    Completes (exec (.imageLoadDone dt bytes) s) (fun t => t.cfg.load = 0 ∧ t.cfg.reload = imSections bytes ∧
      t.cfg.reloadReady = false ∧ t.cfg.reloadCompiles = s.reloadOutputs (imSections bytes) ∧ t.cfg.secs = s.cfg.secs ∧
      t.cfg.dataRead = true ∧ t.get CFG_STATUS.RELOAD = 3)) ∧
  (∀ (dt : Nat) (bytes : List Byte) (s : State), s.live = true → s.cfg.waiting = [] →
      s.cfg.load = 2 ∨ s.cfg.load = 3 ∨ (s.cfg.load = 1 ∧ s.cfg.dirValid = true) →
      s.frontFail bytes false s.sourceLen.1 s.sourceLen.2 = none → hashFail bytes = none →
    Completes (exec (.imageLoadDone dt bytes) s) (fun t =>
      if s.get CAL_BIST.DONE = 0 then t.cfg = { s.cfg with dataRead := true, waiting := bytes }
      else match s.resourceFail bytes false with
        | none => t.cfg.load = 0 ∧ t.cfg.secs = imSections bytes ∧ t.cfg.topo = imTopo bytes ∧ t.cfg.imageRunning = true ∧
          t.cfg.safeIdle = false ∧ t.get CFG_STATUS.STATE = 4 ∧ t.get CFG_LOAD_CTRL.START = 0
        | some f => t.cfg.secs = s.cfg.secs ∧ t.cfg.imageRunning = s.cfg.imageRunning ∧ t.get CFG_STATUS.FAIL = f.code % 256 ∧
          Raised 0x0D01 s t)) ∧
  (∀ (dt : Nat) (s : State), s.live = true → s.cfg.reload ≠ [] → s.cfg.reloadCompiles = [] → s.cfg.reloadReady = false →
    Completes (exec (.reloadReady dt) s) (fun t => t.cfg = { s.cfg with reloadReady := true } ∧ t.get CFG_STATUS.RELOAD = 4))

/-- The fuses: each operation programs its own while LOCKED is 0, fuses only go from 0 to 1, and LOCK closes them; while LOCKED
is 1 nothing changes and an access event of kind 6 is raised (R66, Tables CFG-14 and CFG-15). -/
def Obligations.FusesAreProgrammedOnlyUntilLocked : Prop :=
  (∀ (dt slot index data : Nat) (s : State), s.live = true → s.cfg.otpLocked = false → slot < 4 → index < 48 →
    Completes (exec (.otpProgramHashByte dt slot index data) s) (fun t =>
      (∀ k, tget 0 t.cfg.keyHash k =
        if k = 48 * slot + index then tget 0 s.cfg.keyHash k ||| data % 256 else tget 0 s.cfg.keyHash k) ∧
      t.cfg.keyValid = s.cfg.keyValid ∧ t.cfg.otpLocked = false)) ∧
  (∀ (dt slot : Nat) (s : State), s.live = true → s.cfg.otpLocked = false → slot < 4 →
    Completes (exec (.otpSetValid dt slot) s) (fun t => t.cfg = { s.cfg with keyValid := setBit s.cfg.keyValid slot true } ∧
      t.get CFG_OTP_STATUS.KEY_VALID = setBit s.cfg.keyValid slot true % 16)) ∧
  (∀ (dt slot : Nat) (s : State), s.live = true → s.cfg.otpLocked = false → slot < 4 →
    Completes (exec (.otpSetRevoked dt slot) s) (fun t => t.cfg = { s.cfg with keyRevoked := setBit s.cfg.keyRevoked slot true } ∧
      t.get CFG_OTP_STATUS.KEY_REVOKED = setBit s.cfg.keyRevoked slot true % 16)) ∧
  (∀ (dt data : Nat) (s : State), s.live = true → s.cfg.otpLocked = false → data < 64 →
    Completes (exec (.otpRaiseFloor dt data) s) (fun t => t.cfg = { s.cfg with secFloor := max s.cfg.secFloor data } ∧
      (s.cfg.secFloor < 64 → t.get CFG_OTP_STATUS.SECVER_FLOOR = max s.cfg.secFloor data))) ∧
  (∀ (dt : Nat) (s : State), s.live = true → s.cfg.otpLocked = false →
    Completes (exec (.otpLock dt) s) (fun t => t.cfg = { s.cfg with otpLocked := true } ∧ t.get CFG_OTP_STATUS.LOCKED = 1)) ∧
  (∀ (dt a b c : Nat) (s : State), s.live = true → s.cfg.otpLocked = true →
    ∀ i ∈ [(.otpProgramHashByte dt a b c : Instr), .otpSetValid dt a, .otpSetRevoked dt a, .otpRaiseFloor dt c, .otpLock dt],
      Completes (exec i s) (fun t => t.cfg = s.cfg ∧ t.rd CFG_OTP_STATUS = s.rd CFG_OTP_STATUS ∧ Raised 0x0F06 s t))

/-- Reset and boot: the edge runs the hardware class, 4 us later the main die is held in reset with the fuses and the meter as
they were, and the boot instant begins the load or safe idle (R66 to R68, R435, R437, R440, R445, Tables GLB-13 and GLB-14). -/
def Obligations.ResetAndBoot : Prop :=
  (∀ (dt : Nat) (power : Bool) (s : State), s.glb.inReset = false →
    Completes (exec (.resetAssert dt power) s) (fun t => t.glb.inReset = true ∧ t.glb.held = s.glb.held ∧ t.glb.hwClass = true ∧
      t.glb.resetKind = (if power then 1 else 2) ∧ t.glb.resetTime = s.now + dt ∧ t.mtr = s.mtr ∧ t.cfg = s.cfg)) ∧
  (∀ (dt : Nat) (short : Bool) (s : State), s.glb.inReset = true → s.glb.held = false →
      short = true ∨ s.glb.resetTime + 4 * usSteps ≤ s.now + dt → s.glb.resetKind = 1 ∨ s.glb.resetKind = 2 →
    Completes (exec (.resetHold dt short) s) (fun t => t.glb.held = true ∧
      (∀ a, a ≠ GLB_RESET_CAUSE → a ≠ CFG_OTP_STATUS → t.rd a = State.reset.rd a) ∧
      t.rd CFG_OTP_STATUS = s.rd CFG_OTP_STATUS ∧ t.get GLB_RESET_CAUSE.LAST = s.glb.resetKind ∧ t.get GLB_RESET_CAUSE.SHORT_HOLD = (if short then 1 else 0) ∧
      (t.get GLB_RESET_CAUSE.RESETS = if s.glb.resetKind = 1 then 0 else min 255 (s.get GLB_RESET_CAUSE.RESETS + 1)) ∧
      t.cfg.keyHash = s.cfg.keyHash ∧ t.cfg.keyValid = s.cfg.keyValid ∧ t.cfg.keyRevoked = s.cfg.keyRevoked ∧
      t.cfg.secFloor = s.cfg.secFloor ∧ t.cfg.otpLocked = s.cfg.otpLocked ∧ t.cfg.imageRunning = false ∧ t.cfg.secs = [] ∧
      t.hif.maps = [] ∧ t.seq = State.reset.seq ∧ t.lmp = State.reset.lmp ∧
      t.cal.field = s.cal.field ∧ t.cal.copyA = s.cal.copyA ∧ t.cal.copyB = s.cal.copyB ∧
      t.mtr.totals = s.mtr.totals ∧ t.mtr.records = s.mtr.records ∧ t.mtr.count = s.mtr.count ∧ t.mtr.blocked = s.mtr.blocked)) ∧
  (∀ (dt flash : Nat) (sel : Bool) (dir : List Byte) (s : State), s.glb.inReset = true → s.glb.held = true →
    Completes (exec (.boot dt sel flash dir) s) (fun t => t.live = true ∧ t.glb.inReset = false ∧ t.glb.pwrOk = true ∧
      t.glb.bootTime = s.now + dt ∧ t.cfg.dirValid = (flashDirectory flash dir).isSome ∧
      (sel = true ∨ s.cfg.otpLocked = false → t.cfg.safeIdle = true ∧ t.cfg.load = 0 ∧ t.get CFG_STATUS.STATE = 5 ∧
        t.get CFG_STATUS.SRC_ACT = 3) ∧
      (sel = false ∧ s.cfg.otpLocked = true ∧ (flashDirectory flash dir).isSome = true →
        t.cfg.load = 1 ∧ t.get CFG_STATUS.STATE = 1 ∧ t.cfg.safeIdle = s.cfg.safeIdle) ∧
      (sel = false ∧ s.cfg.otpLocked = true ∧ dir ≠ [] ∧ (flashDirectory flash dir).isSome = false →
        t.cfg.safeIdle = true ∧ t.get CFG_STATUS.FAIL = 3 ∧ t.get CFG_FAIL_INFO.ENTRY = 0x3F) ∧
      t.get CFG_STATUS.BOOT_SEL = (if sel then 1 else 0))) ∧
  (∀ (dt a : Nat) (s : State), s.live = true → s.glb.timingAt = some a → a + secSteps ≤ s.now + dt → s.tim.everLocked = false →
    Completes (exec (.bootFreeFallback dt) s) (fun t => t.get TIM_REF_STATUS.ACTIVE = 0 ∧ t.get TIM_DPLL_STATUS.STATE = 0 ∧
      Raised 0x0301 s t ∧ t.glb.fellBack = true ∧ t.glb.timingAt = none ∧ t.get GLB_BOOT_STATUS.FREE_FALLBACK = 1))

/-- The host link, master enable and the resets of functions and contexts (R81, R101, R104 to R106). -/
def Obligations.HostLinkAndFunctionResets : Prop :=
  (∀ (dt : Nat) (s : State), s.live = true → s.hif.perst = false →
    Completes (exec (.perstAssert dt) s) (fun t => t.hif.perst = true ∧ t.get HIF_STATUS.LINK_UP = 0 ∧
      t.get HIF_STATUS.PERSTS = min 255 (s.get HIF_STATUS.PERSTS + 1) ∧ t.get HIF_STATUS.NUM_VFS = 0 ∧
      (∀ f, f ≤ s.get HIF_STATUS.NUM_VFS → t.get (HIF_FN_STATUS.ME f) = 0) ∧
      t.hif.maps = s.hif.maps ∧ t.hif.hostMapsGo = max s.hif.hostMapsGo 2 ∧ t.hif.grants = s.hif.grants ∧
      t.rd HIF_DEVQ_BASE_LO = 0 ∧ bitAt (t.rdN HIF_DEVQ_CFG) 8 = false ∧
      (s.get HIF_STATUS.NUM_VFS = 0 → Raised 0x0F04 s t) ∧
      (s.get HIF_CTRL.PERST_CLEARS = 0 ∧ s.cfg.load = 0 → t.seq = s.seq ∧ t.pln = s.pln ∧ t.hif.commits = s.hif.commits ∧
        t.hif.resetting = s.hif.resetting))) ∧
  (∀ (dt : Nat) (s : State),
    Completes (exec (.perstRelease dt) s) (fun t => t.hif = { s.hif with perst := false } ∧ ∀ a, t.rd a = s.rd a)) ∧
  (∀ (dt : Nat) (s : State), s.live = true → s.get HIF_STATUS.LINK_UP = 1 →
    Completes (exec (.linkDown dt) s) (fun t => t.get HIF_STATUS.LINK_UP = 0 ∧ t.get HIF_STATUS.NUM_VFS = 0 ∧
      (∀ f, f ≤ s.get HIF_STATUS.NUM_VFS → t.get (HIF_FN_STATUS.ME f) = 0) ∧ t.hif.hostMapsGo = max s.hif.hostMapsGo 2 ∧ t.hif.maps = s.hif.maps ∧
      t.hif.perst = s.hif.perst ∧ (s.get HIF_STATUS.NUM_VFS = 0 → Raised 0x0F04 s t))) ∧
  (∀ (dt : Nat) (s : State), s.live = true → s.hif.perst = false →
    Completes (exec (.linkUp dt) s) (fun t => t.get HIF_STATUS.LINK_UP = 1 ∧ t.hif = s.hif)) ∧
  (∀ (dt f : Nat) (lines : List Nat) (s : State), s.live = true → f < 256 → s.fnEnabled f = true →
      s.get (HIF_FN_STATUS.ME f) = 1 →
    Completes (exec (.masterEnableClear dt f lines) s) (fun t => t.get (HIF_FN_STATUS.ME f) = 0 ∧
      t.get (HIF_FN_STATUS.GEN f) = 1 - s.get (HIF_FN_STATUS.GEN f) ∧ t.tagCount f false = 0 ∧ Raised 0x0F04 s t)) ∧
  (∀ (dt f : Nat) (s : State), s.live = true → f < 256 → s.fnEnabled f = true → s.get HIF_STATUS.LINK_UP = 1 →
    Completes (exec (.masterEnableSet dt f) s) (fun t => t.get (HIF_FN_STATUS.ME f) = 1 ∧ t.fnCanHost f = true ∧
      t.cfg = s.cfg ∧ t.cmp = s.cmp ∧ t.hif.maps = s.hif.maps ∧ t.hif.commits = s.hif.commits ∧
      ∀ a, a ≠ HIF_FN_STATUS f → a ≠ HIF_FN_DROPS f → a ≠ INT_STATUS → t.rd a = s.rd a)) ∧
  (∀ (dt f : Nat) (s : State), s.live = true → 0 < f → f < 256 → s.fnEnabled f = true → s.get HIF_STATUS.LINK_UP = 1 →
    Completes (exec (.functionLevelReset dt f) s) (fun t => t.get (HIF_FN_STATUS.FLR f) = 1 ∧ Raised 0x0F04 s t ∧
      t.get (HIF_FN_STATUS.GEN f) = 1 - s.get (HIF_FN_STATUS.GEN f) ∧
      ∀ k, k < 4 → s.ctxExists (4 * f + k) = true → t.hif.resetting.contains (4 * f + k) = true)) ∧
  (∀ (dt : Nat) (s : State), s.live = true → s.get HIF_STATUS.LINK_UP = 1 →
    Completes (exec (.functionLevelReset dt 0) s) (fun t => t.get (HIF_FN_STATUS.FLR 0) = 1 ∧ t.get (HIF_FN_STATUS.ME 0) = 0 ∧
      t.rd HIF_DEVQ_BASE_LO = 0 ∧ t.rd HIF_DEVQ_CFG = 0 ∧ t.get HIF_STATUS.NUM_VFS = 0 ∧ t.get HIF_STATUS.LINK_UP = 1 ∧
      ∀ k, k < 4 → s.ctxExists k = true → t.hif.resetting.contains k = true)) ∧
  (∀ (dt c : Nat) (s : State), s.live = true → s.cfg.safeIdle = false → s.ctxExists c = true → s.hif.resetting.contains c = false →
    Completes (exec (.contextReset dt c) s) (fun t => t.get (HIF_CTX_CTRL.RESET c) = 1 ∧ t.hif.resetting = s.hif.resetting ++ [c])) ∧
  (∀ (dt c : Nat) (s : State), s.live = true → s.cfg.safeIdle = false → s.ctxExists c = false →
    Completes (exec (.contextReset dt c) s) (fun t => Raised 0x0F06 s t ∧ t.hif = s.hif))

/-! ### Host functions and contexts (spec/04) -/

/-- Ring entries that take effect when they are read: each in full, with its STATUS and RESULT written back and the head moved
past it; an entry whose fields are out of range changes no mapping, page or grant (R84 to R86, R88, Tables HIF-4 to HIF-6). -/
def Obligations.RingEntriesTakeEffectOrFail : Prop :=
  (∀ (dt c : Nat) (e : RingEntry) (s : State), s.live = true → s.ringReading c = true → s.ringOpen c = true →
    let back := fun (st res : Nat) (t : State) => t.get (HIF_CTX_CMDQ_HEAD.HEAD c) =
        (s.get (HIF_CTX_CMDQ_HEAD.HEAD c) + 1) % 2 ^ s.ringSize c ∧
      ∃ r, t.out = s.out ++ .hostWrite (c / 4) none (s.ringAddr c (s.get (HIF_CTX_CMDQ_HEAD.HEAD c)) + 0x38)
        (leBytes 4 st ++ leBytes 4 res) :: r
    let kept := fun (t : State) => t.hif = { s.hif with tags := t.hif.tags, ringTurn := t.hif.ringTurn }
    (e.rangeOk = true → s.anyMapped c e = false →
        (s.ownedPages c).length + e.count ≤ s.get (HIF_CTX_LIMITS_1.PAGES c) → e.count ≤ s.freePages.length →
      Completes (exec (.cmdAlloc dt c e) s) (fun t => back 1 0 t ∧ t.hif.grants = s.hif.grants ∧
        ∀ k, k < e.count → ∃ p, s.freePages[k]? = some p ∧ tfind t.hif.pages p = some (c + 1) ∧
          tfind t.hif.maps (mapKey c (e.va / 65536 + k)) = some ⟨MapKind.loc, p, e.rd, e.wrt, 0⟩)) ∧
    (e.rangeOk = true → e.target % 65536 = 0 → s.get (HIF_FN_STATUS.ME (c / 4)) = 1 → s.anyMapped c e = false →
      Completes (exec (.cmdMapHost dt c e) s) (fun t => back 1 0 t ∧ t.hif.pages = s.hif.pages ∧
        ∀ k, k < e.count → tfind t.hif.maps (mapKey c (e.va / 65536 + k)) =
          some ⟨MapKind.host, e.target / 65536 + k, e.rd, e.wrt, 0⟩)) ∧
    (e.rangeOk = true → e.target % 65536 = 0 → s.get (HIF_FN_STATUS.ME (c / 4)) = 0 →
      Completes (exec (.cmdMapHost dt c e) s) (fun t => back 9 0 t ∧ kept t)) ∧
    (e.rangeOk = true → e.target % 65536 = 0 → e.target + e.count * 65536 ≤ 2 ^ 48 → s.get HIF_STATUS.STARTUP_DONE = 1 →
        s.anyMapped c e = false →
      Completes (exec (.cmdMapRemote dt c e) s) (fun t => back 1 0 t ∧ t.hif.pages = s.hif.pages ∧
        ∀ k, k < e.count → tfind t.hif.maps (mapKey c (e.va / 65536 + k)) =
          some ⟨MapKind.remote, e.target / 65536 + k, e.rd, e.wrt, 0⟩)) ∧
    (∀ g, e.rangeOk = true → e.wrt = false → s.grantOf (e.target % 2 ^ 32) = some g → g.grantee = c → e.count ≤ g.pages.length →
        s.anyMapped c e = false →
      Completes (exec (.cmdMapGrant dt c e) s) (fun t => back 1 0 t ∧ t.hif.pages = s.hif.pages ∧
        ∀ k, k < e.count → tfind t.hif.maps (mapKey c (e.va / 65536 + k)) =
          some ⟨MapKind.grant, nthD g.pages k 0, true, false, e.target % 2 ^ 32⟩)) ∧
    (e.rangeOk = true → e.grantee < 1024 → s.allOwned c e = true →
      Completes (exec (.cmdGrant dt c e) s) (fun t => t.hif.maps = s.hif.maps ∧ ∃ h g,
        back 1 h t ∧ tfind t.hif.grants h = some g ∧ g.owner = c ∧ g.grantee = e.grantee ∧ g.pages.length = e.count)) ∧
    Completes (exec (.cmdBadOpcode dt c e) s) (fun t => back 2 0 t ∧ kept t) ∧
    (e.rangeOk = false → ∀ i ∈ [(.cmdAlloc dt c e : Instr), .cmdMapHost dt c e, .cmdMapRemote dt c e, .cmdMapGrant dt c e,
        .cmdGrant dt c e, .cmdFree dt c e, .cmdUnmap dt c e],
      Completes (exec i s) (fun t => back 3 0 t ∧ kept t)) ∧
    (e.bitsOk = false → ∀ i ∈ [(.cmdRevoke dt c e : Instr), .cmdFence dt c e],
      Completes (exec i s) (fun t => back 3 0 t ∧ kept t))) ∧
  (∀ (dt c : Nat) (e : RingEntry) (s : State), s.live = true → s.ringReading c = true → s.ringOpen c = true → e.flags = 0x80 →
    Completes (exec (.cmdBadOpcode dt c e) s) (fun t => Raised 0x0F02 s t))

/-- Ring entries whose effect waits: FREE, UNMAP and REVOKE that are valid wait for a boundary at least 20 us later and change
nothing until then, and FENCE waits for the entries before it (R88, R89). -/
def Obligations.RingEntriesThatWait : Prop :=
  ∀ (dt c : Nat) (e : RingEntry) (s : State), s.live = true → s.ringReading c = true → s.ringOpen c = true →
    let idx := s.get (HIF_CTX_CMDQ_HEAD.HEAD c)
    let waits := fun (op due : Nat) (t : State) => t.get (HIF_CTX_CMDQ_HEAD.HEAD c) = (idx + 1) % 2 ^ s.ringSize c ∧
      t.hif = { s.hif with
        deferred := s.hif.deferred ++ [⟨c, op, idx, e, due⟩]
        tags := t.hif.tags
        ringTurn := t.hif.ringTurn } ∧
      ∃ r, t.out = s.out ++ r ∧ ∀ (f : Nat) (p : Option Nat) (a : Nat) (bs : List Byte), OutMsg.hostWrite f p a bs ∉ r
    (e.rangeOk = true → s.allOwned c e = true →
      Completes (exec (.cmdFree dt c e) s) (waits 2 (s.now + dt + 20 * usSteps))) ∧
    (e.rangeOk = true → s.allUnmappable c e = true →
      Completes (exec (.cmdUnmap dt c e) s) (waits 6 (s.now + dt + 20 * usSteps))) ∧
    (∀ g, e.bitsOk = true → s.grantOf (e.target % 2 ^ 32) = some g → g.owner = c →
      Completes (exec (.cmdRevoke dt c e) s) (waits 8 (s.now + dt + 20 * usSteps))) ∧
    (e.bitsOk = true → (∃ d ∈ s.hif.deferred, d.ctx = c) → Completes (exec (.cmdFence dt c e) s) (waits 9 0)) ∧
    (e.bitsOk = true → (∀ d ∈ s.hif.deferred, d.ctx ≠ c) → Completes (exec (.cmdFence dt c e) s) (fun t =>
      t.hif = { s.hif with tags := t.hif.tags, ringTurn := t.hif.ringTurn } ∧
      t.get (HIF_CTX_CMDQ_HEAD.HEAD c) = (idx + 1) % 2 ^ s.ringSize c ∧
      ∃ r, t.out = s.out ++ .hostWrite (c / 4) none (s.ringAddr c idx + 0x38) (leBytes 4 1 ++ leBytes 4 0) :: r))

/-- The aperture and the scrubber: bytes reach only a LOCAL page with WRITE, page by page where the mapping of the context's slot
says; a read answers them; what finds no mapping is a translation fault, and no context an access event; a scrubbed page reads 0
and becomes free (R84, R85, R87). -/
def Obligations.ApertureAndScrubReachOnlyTheirPages : Prop :=
  (∀ (dt fn off : Nat) (bs : List Byte) (m : Mapping) (s : State), s.live = true → s.mem.refusing = false →
      bs ≠ [] → off % 65536 + bs.length ≤ 65536 → s.ctxExists (s.apertureVa fn off).1 = true →
      s.translate (s.apertureVa fn off).1 (s.apertureVa fn off).2 true = .ok m → m.kind = MapKind.loc →
    Completes (exec (.apertureWrite dt fn off bs) s) (fun t => t.hif = s.hif ∧ t.out = s.out ∧
      (∀ a, t.byteAt a = if m.dpa (s.apertureVa fn off).2 ≤ a ∧ a < m.dpa (s.apertureVa fn off).2 + bs.length
        then nthD bs (a - m.dpa (s.apertureVa fn off).2) 0 else s.byteAt a) ∧
      ∀ b, m.dpa (s.apertureVa fn off).2 < 64 * (b + 1) → 64 * b < m.dpa (s.apertureVa fn off).2 + bs.length →
        ∃ w ∈ t.mem.writeQ ++ t.mem.stalled, w.block = b ∧ w.engine = 42)) ∧
  (∀ (dt fn off : Nat) (bs : List Byte) (s : State),
    Completes (exec (.apertureWrite dt fn off bs) s) (fun t => ∀ a,
      (∀ p ∈ pageParts off bs.length, ∀ m, s.ctxExists (s.apertureVa fn p.1).1 = true →
        s.translate (s.apertureVa fn p.1).1 (s.apertureVa fn p.1).2 true = .ok m → m.kind = MapKind.loc →
        ¬ (m.dpa (s.apertureVa fn p.1).2 ≤ a ∧ a < m.dpa (s.apertureVa fn p.1).2 + p.2.2)) →
      t.byteAt a = s.byteAt a)) ∧
  (∀ (dt fn off len : Nat) (m : Mapping) (s : State), s.live = true → s.mem.refusing = false →
      0 < len → off % 65536 + len ≤ 65536 → s.ctxExists (s.apertureVa fn off).1 = true →
      s.translate (s.apertureVa fn off).1 (s.apertureVa fn off).2 false = .ok m → m.kind = MapKind.loc →
    Completes (exec (.apertureRead dt fn off len) s) (fun t =>
      t.out = s.out ++ [.readReply fn true ((List.range len).map (fun k => s.byteAt (m.dpa (s.apertureVa fn off).2 + k)))] ∧
      SameBytes s t ∧ t.hif = s.hif)) ∧
  (∀ (dt fn off : Nat) (bs : List Byte) (s : State), s.live = true → s.mem.refusing = false →
      bs ≠ [] → off % 65536 + bs.length ≤ 65536 → s.ctxExists (s.apertureVa fn off).1 = true →
      s.mapping (s.apertureVa fn off).1 (s.apertureVa fn off).2 = none →
    Completes (exec (.apertureWrite dt fn off bs) s) (fun t => SameBytes s t ∧ Raised 0x0F03 s t ∧
      t.get (HIF_CTX_FAULT_LO.KIND (s.apertureVa fn off).1) = 1) ∧
    Completes (exec (.apertureRead dt fn off bs.length) s) (fun t => Raised 0x0F03 s t ∧ t.out = s.out ++ [.readReply fn false []])) ∧
  (∀ (dt fn off : Nat) (bs : List Byte) (s : State), s.live = true → s.mem.refusing = false →
      bs ≠ [] → off % 65536 + bs.length ≤ 65536 → s.ctxExists (s.apertureVa fn off).1 = false →
    Completes (exec (.apertureWrite dt fn off bs) s) (fun t => SameBytes s t ∧ Raised 0x0F06 s t ∧ t.hif = s.hif) ∧
    Completes (exec (.apertureRead dt fn off bs.length) s) (fun t => Raised 0x0F06 s t ∧ t.out = s.out ++ [.readReply fn false []])) ∧
  (∀ (dt page : Nat) (s : State), s.live = true → s.unscrubbed page = true → s.get MEM_STATUS.TRAINED = 1 →
    Completes (exec (.pageScrubDone dt page) s) (fun t => tfind t.hif.pages page = some 0 ∧
      ∀ a, t.byteAt a = if page * 65536 ≤ a ∧ a < page * 65536 + 65536 then 0 else s.byteAt a))

/-- Physical layers and a context's limits: a request is granted from the guaranteed quota, or answered with its code; a
release returns the layer unless it is enabled; limits are clamped to their ceilings with a limit event (R19, R90, R91, R472). -/
def Obligations.LayersAndLimits : Prop :=
  (∀ (dt c slot n : Nat) (s : State), s.live = true → s.cfg.safeIdle = false → s.ctxExists c = true → slot < 64 →
      s.layerAt c slot = none → (s.layersOf c).length < s.get (HIF_CTX_LIMITS_0.LAYER_MAX c) →
      (s.layersOf c).length < s.get (HIF_CTX_LIMITS_0.LAYERS c) → s.pickLayer false = some n →
    Completes (exec (.layerAllocate dt c slot false) s) (fun t => t.layerAt c slot = some n ∧ t.holder n = some c ∧
      t.rdN (HIF_CTX_LAYER_RESULT c) = slot + n * 2 ^ 8 + 1 * 2 ^ 16)) ∧
  (∀ (dt c slot n : Nat) (s : State), s.live = true → s.cfg.safeIdle = false → s.ctxExists c = true → slot < 64 →
      s.layerAt c slot = none → (s.layersOf c).length < s.get (HIF_CTX_LIMITS_0.LAYER_MAX c) →
      s.heldBack < s.freeLayers.length → s.pickLayer true = some n →
    Completes (exec (.layerAllocate dt c slot true) s) (fun t => t.layerAt c slot = some n ∧ t.holder n = some c ∧ n < 8 ∧
      t.rdN (HIF_CTX_LAYER_RESULT c) = slot + n * 2 ^ 8 + 1 * 2 ^ 16)) ∧
  (∀ (dt c slot n : Nat) (video : Bool) (s : State), s.live = true → s.cfg.safeIdle = false → s.ctxExists c = true → slot < 64 →
      s.layerAt c slot = some n →
    Completes (exec (.layerAllocate dt c slot video) s) (fun t => t.hif = s.hif ∧
      t.rdN (HIF_CTX_LAYER_RESULT c) = slot + 5 * 2 ^ 16)) ∧
  (∀ (dt c slot n : Nat) (s : State), s.live = true → s.cfg.safeIdle = false → s.ctxExists c = true → slot < 64 →
      s.layerAt c slot = some n → n < 256 →
    Completes (exec (.layerRelease dt c slot) s) (fun t =>
      if s.actFlag (CMP_LYR_CTRL.EN n) then t.hif = s.hif ∧ t.holder n = s.holder n ∧
        t.rdN (HIF_CTX_LAYER_RESULT c) = slot + n * 2 ^ 8 + 6 * 2 ^ 16
      else t.hif.slots = s.hif.slots.filter (fun e => e.2 != n) ∧ t.holder n = none ∧
        t.rd (CMP_LYR_CTRL n) = regReset (CMP_LYR_CTRL n) ∧ t.rdN (HIF_CTX_LAYER_RESULT c) = slot + n * 2 ^ 8 + 2 * 2 ^ 16)) ∧
  (∀ (dt c : Nat) (w : Word) (s : State), s.live = true → s.cfg.safeIdle = false → c < 1024 →
    Completes (exec (.ctxLimitsWrite dt c 1 w) s) (fun t =>
      t.get (HIF_CTX_LIMITS_1.PAGES c) = min (bitsOf w.toNat 20 0) (s.ctxLim (c / 4) 4 4) ∧
      (s.ctxLim (c / 4) 4 4 < bitsOf w.toNat 20 0 → Raised 0x0F05 s t)) ∧
    Completes (exec (.ctxLimitsWrite dt c 2 w) s) (fun t =>
      t.get (HIF_CTX_LIMITS_2.FETCH_RSV c) = min (bitsOf w.toNat 12 0) (s.ctxLim (c / 4) 8 2) ∧
      (s.ctxLim (c / 4) 8 2 < bitsOf w.toNat 12 0 → Raised 0x0F05 s t)) ∧
    Completes (exec (.ctxLimitsWrite dt c 3 w) s) (fun t =>
      t.rdN (HIF_CTX_LIMITS_3 c) = bitsOf w.toNat 19 0 &&& s.ctxLim (c / 4) 0x0C 4) ∧
    Completes (exec (.ctxLimitsWrite dt c 0 w) s) (fun t =>
      t.get (HIF_CTX_LIMITS_0.LAYERS c) = min (bitsOf w.toNat 7 0) (s.ctxLim (c / 4) 1 1) ∧
      (s.ctxLim (c / 4) 0 1 ≤ c % 4 → t.get (HIF_CTX_LIMITS_0.ENABLE c) = 0) ∧
      (c % 4 < s.ctxLim (c / 4) 0 1 → t.get (HIF_CTX_LIMITS_0.ENABLE c) = bitsOf w.toNat 31 31))) ∧
  (∀ (dt n : Nat) (s : State), s.live = true → s.cfg.safeIdle = false → n ≤ s.secLE secCtxLimits 0 0 1 →
    Completes (exec (.vfEnable dt n) s) (fun t => t.get HIF_STATUS.NUM_VFS = n ∧
      t.hif = { s.hif with tags := t.hif.tags, ringTurn := t.hif.ringTurn }))

/-- Doorbells, event queues, vectors, host tags and fetch windows (R92, R100 to R103). -/
def Obligations.QueuesVectorsAndTags : Prop :=
  (∀ (dt c tail : Nat) (s : State), s.live = true → s.cfg.safeIdle = false →
    Completes (exec (.cmdqDoorbell dt c tail) s) (fun t =>
      if s.ctxExists c then tfind t.hif.cmdTail c = some (tail % 2 ^ 12) ∧ t.hif.queues = s.hif.queues
      else t.hif = s.hif ∧ Raised 0x0F06 s t)) ∧
  (∀ (dt q head : Nat) (s : State), s.live = true → s.cfg.safeIdle = false →
    Completes (exec (.evqDoorbell dt q head) s) (fun t =>
      if q = devQ ∨ s.ctxExists q = true then (t.queue q).head = head % 2 ^ 17 ∧ (q = devQ → t.get HIF_DEVQ_HEAD.HEAD = head % 2 ^ 17)
      else t.hif = s.hif ∧ Raised 0x0F06 s t)) ∧
  (∀ (dt q : Nat) (h : HeldEvent) (s : State), s.live = true → q < 1024 ∨ q = devQ → s.firstHeld q = some h →
      s.queueWritable q = true → s.mayIssueHost (queueFn q) = true → s.heldBlocked (queueFn q) ≤ 64 →
      h.time + 20 * usSteps ≤ s.now + dt →
    Completes (exec (.eventQueueWrite dt q) s) (fun t => t.int.held = dropFirst q s.int.held ∧
      if s.queueFull q then (t.queue q).overflow = true ∧ t.queueTail q = s.queueTail q ∧
        (if s.vecMasked (queueFn q) 4 then t.out = s.out ∧ queueFn q * 8 + 4 ∈ t.int.pendVec
         else t.out = s.out ++ [.msix (queueFn q) 4])
      else (∃ r, t.out = s.out ++ .hostWrite (queueFn q) none (s.queueBase q + 32 * (s.queueTail q % 2 ^ 16))
          ({ h.ev with overflow := (s.queue q).overflow } : Event).bytes :: r) ∧
        t.queueTail q = nextIndex (s.queueSize q) (s.queueTail q) % 2 ^ 17 ∧ (t.queue q).overflow = false)) ∧
  (∀ (dt q : Nat) (s : State), s.live = true → s.mayIssueHost (queueFn q) = true → 0 < (s.queue q).unsignalled →
      (s.queue q).firstTime + bitsOf (s.queueCfg q) 31 24 * usSteps ≤ s.now + dt →
    Completes (exec (.msixModTimeout dt q) s) (fun t => (t.queue q).unsignalled = 0 ∧
      if s.vecMasked (queueFn q) (queueVector q) then t.out = s.out ∧ queueFn q * 8 + queueVector q ∈ t.int.pendVec
      else t.out = s.out ++ [.msix (queueFn q) (queueVector q)])) ∧
  (∀ (dt f : Nat) (s : State), s.live = true → f < 256 → 0 < s.tagCount f true →
    Completes (exec (.staleCompletion dt f) s) (fun t => t.tagCount f true = s.tagCount f true - 1 ∧
      t.get (HIF_FN_STATUS.STALE f) = (s.get (HIF_FN_STATUS.STALE f) + 1) % 2 ^ 16 ∧ SameBytes s t)) ∧
  (∀ (dt f : Nat) (old : Bool) (g : HostTag) (s : State), s.live = true →
      s.hif.tags.find? (fun x => x.fn == f && x.old == old && decide (x.time + completionSteps ≤ s.now + dt)) = some g →
    Completes (exec (.hostCompletionTimeout dt f old) s) (fun t =>
      (∃ r, t.hif.tags = s.hif.tags.erase g ++ r ∧ ∀ x ∈ r, x.old = false) ∧
      ∀ e k m, g.user = .fetch e k → s.mem.reqs.find? (fun x => x.engine == e && x.index == k) = some m → old = false →
        Raised 0x0F03 s t)) ∧
  (∀ (dt : Nat) (s : State), s.live = true → s.hif.winStart + 10 * usSteps ≤ s.now + dt →
    Completes (exec (.fetchWindowEnd dt) s) (fun t => t.hif.winDemand = [] ∧ t.hif.winStart = s.now + dt ∧
      ∀ e ∈ s.hif.winDemand, rsvPixels (s.get (HIF_CTX_LIMITS_2.FETCH_RSV e.1)) (s.now + dt - s.hif.winStart) < e.2 →
        e.1 ∈ t.hif.overPrev))

/-! ### The memory system (spec/05) -/

/-- Requests and completions: a request becomes a transaction of the mapping's kind with its tag, class and deadline and counts into
the fetch demand, or a translation fault; a completion frees its tag, and data of an old generation is discarded and counted
(R83, R86, R92, R103, R110 to R112, R114, R115, R127, R130). -/
def Obligations.MemoryRequestsAndCompletions : Prop :=
  (∀ (dt e c va len pixels arg k : Nat) (wr : Bool) (m : Mapping) (s : State), s.live = true → s.lan.coreStopped = false → e < 48 →
      s.mem.refusing = false → s.translate c va wr = .ok m → m.kind = MapKind.loc ∨ m.kind = MapKind.grant →
      s.freeIndex e = some k → s.localShapeOk (m.dpa va) len = true →
    Completes (exec (.memRequest dt e c va len pixels wr arg) s) (fun t => ∃ r, t.mem.reqs = s.mem.reqs ++ [r] ∧
      r.engine = e ∧ r.index = k ∧ r.gen = s.flag (MEM_ENG_STATUS.GEN e) ∧ r.addr = m.dpa va ∧ r.len = len ∧ r.write = wr ∧
      r.issued = false ∧ r.hostFn = none ∧ r.realTime = (s.tick dt).requestClass (requester e arg) c pixels ∧
      r.deadline = (if r.realTime = false then none
        else if requester e arg = e then (if arg = 0 then none else some (s.now + dt + (s.tick dt).bufFill e * usSteps / arg))
        else (s.tick dt).emptyAt (requester e arg)) ∧
      tget 0 t.hif.winDemand c = tget 0 s.hif.winDemand c + pixels ∧ t.mem.dram = s.mem.dram ∧
      (wr = false → r.waits = s.waitsFor (m.dpa va) len ∧ t.mem.writeQ = s.mem.writeQ ∧ t.mem.stalled = s.mem.stalled) ∧
      (wr = true → r.waits = [] ∧ ∀ b, m.dpa va < 64 * (b + 1) → 64 * b < m.dpa va + len →
        ∃ w ∈ t.mem.writeQ ++ t.mem.stalled, w.block = b ∧ w.engine = e ∧ w.index = k))) ∧
  (∀ (dt e c va len pixels arg k : Nat) (wr : Bool) (m : Mapping) (s : State), s.live = true → s.lan.coreStopped = false → e < 48 →
      s.mem.refusing = false → s.translate c va wr = .ok m → m.kind = MapKind.host → s.freeIndex e = some k →
      s.fnCanHost (c / 4) = true →
    Completes (exec (.memRequest dt e c va len pixels wr arg) s) (fun t => ∃ r ∈ t.mem.reqs, r.engine = e ∧ r.index = k ∧
      r.addr = m.dpa va ∧ r.hostFn = some (c / 4) ∧ r.write = wr ∧
      (0 < s.tagCount (c / 4) true ∨ s.hif.resetting.contains c = true → r.issued = false) ∧
      (s.mayTag (c / 4) = true → s.hif.resetting.contains c = false → (∀ q ∈ s.mem.reqs, q.hostFn = none ∨ q.issued = true) →
        r.issued = true ∧ (wr = false →
          (∃ l, t.out = s.out ++ .hostRead (c / 4) (s.pasid c) (m.dpa va) len :: l) ∧
          ∃ l, t.hif.tags = s.hif.tags ++ ⟨c / 4, false, s.now + dt, .fetch e k⟩ :: l)))) ∧
  (∀ (dt e c va len pixels arg : Nat) (wr : Bool) (s : State), s.live = true → s.lan.coreStopped = false → e < 48 → c < 1024 →
      s.mem.refusing = false → s.mapping c va = none →
    Completes (exec (.memRequest dt e c va len pixels wr arg) s) (fun t => t.mem.reqs = s.mem.reqs ∧ SameBytes s t ∧
      Raised 0x0F03 s t ∧ t.get (HIF_CTX_FAULT_LO.KIND c) = 1)) ∧
  (∀ (dt e c va len pixels arg : Nat) (wr : Bool) (s : State), s.live = true → s.lan.coreStopped = false → e < 48 → s.mem.refusing = true →
    Completes (exec (.memRequest dt e c va len pixels wr arg) s) (fun t => t.mem = s.mem ∧ t.hif = s.hif ∧
      t.get (MEM_ENG_MISSES.COUNT e) = if (s.tick dt).requestClass (requester e arg) c pixels
        then (s.get (MEM_ENG_MISSES.COUNT e) + 1) % 2 ^ 32 else s.get (MEM_ENG_MISSES.COUNT e))) ∧
  (∀ (dt e k ecc : Nat) (r : MemReq) (s : State), s.live = true → s.lan.coreStopped = false → e < 48 →
      s.mem.reqs.find? (fun q => q.engine == e && q.index == k && s.mayComplete q) = some r →
      let freed := fun (t : State) => t.mem.reqs.map (fun q => { q with issued := true }) =
        (s.mem.reqs.filter (fun q => !sameTag q r)).map (fun q => { q with issued := true })
      let current := r.gen == s.flag (MEM_ENG_STATUS.GEN e)
      let filled := fun (t : State) => (t.buf e).fill =
        if e < 32 then min 49152 ((s.tick dt).bufFill e + r.len) else (s.tick dt).bufFill e + r.len
      let counts := fun (t : State) => t.get (MEM_ENG_STATUS.STALE e) =
        if current then s.get (MEM_ENG_STATUS.STALE e) else min 15 (s.get (MEM_ENG_STATUS.STALE e) + 1)
      (r.hostFn = none → r.write = false → s.eccOf r ecc < 2 → (∀ g ∈ s.hif.tags, g.user ≠ .fetch e k) →
        Completes (exec (.memCompletion dt e k ecc) s) (fun t => freed t ∧ counts t ∧
          if current then filled t else t.mem.bufs = s.mem.bufs)) ∧
      (r.hostFn = none → r.write = true → (∀ g ∈ s.hif.tags, g.user ≠ .fetch e k) →
        Completes (exec (.memCompletion dt e k ecc) s) (fun t => freed t ∧ counts t ∧ t.mem.bufs = s.mem.bufs)) ∧
      (∀ f, r.hostFn = some f → f < 256 → r.write = false →
        Completes (exec (.memCompletion dt e k ecc) s) (fun t => freed t ∧ counts t ∧
          (∃ l, t.hif.tags = s.hif.tags.eraseP (fun g => g.user == .fetch e k) ++ l ∧ ∀ x ∈ l, x.old = false) ∧
          if s.hif.tags.any (fun g => g.user == .fetch e k && g.old) then t.mem.bufs = s.mem.bufs ∧
            t.get (HIF_FN_STATUS.STALE f) = (s.get (HIF_FN_STATUS.STALE f) + 1) % 2 ^ 16
          else t.get (HIF_FN_STATUS.STALE f) = s.get (HIF_FN_STATUS.STALE f) ∧ (current → filled t))) ∧
      (r.hostFn = none → r.write = false → s.dpaEcc r.addr = true → r.pc < 64 →
        Completes (exec (.memCompletion dt e k 2) s) (fun t => freed t ∧ Raised 0x0C01 s t ∧
          t.get (MEM_CTL_ECC.UE (pcController r.pc)) = min 65535 (s.get (MEM_CTL_ECC.UE (pcController r.pc)) + 1) ∧
          (e = 40 ∨ e = 41 → r.ctx < 1024 → Raised 0x0F03 s t)))) ∧
  (∀ (dt e k d : Nat) (r : MemReq) (s : State), s.live = true → e < 48 → r ∈ s.mem.reqs → r.engine = e → r.index = k →
      r.realTime = true → r.missed = false → r.deadline = some d → d < s.now + dt →
    Completes (exec (.deadlineMiss dt e k) s) (fun t => t.mem = { s.mem with reqs := t.mem.reqs } ∧
      t.mem.reqs.map (fun q => { q with missed := true }) = s.mem.reqs.map (fun q => { q with missed := true }) ∧
      (∀ q ∈ t.mem.reqs, q.engine = e → q.index = k → q.realTime = true → (∃ b, q.deadline = some b ∧ b < s.now + dt) →
        q.missed = true) ∧
      t.get (MEM_ENG_MISSES.COUNT e) = (s.get (MEM_ENG_MISSES.COUNT e) + 1) % 2 ^ 32))

/-- A controller's next command by the ranks of Table MEM-2, refresh and retraining (R113, R118, R120 to R123). -/
def Obligations.PseudoChannelCommands : Prop :=
  (∀ (dt p : Nat) (s : State), s.live = true → s.lan.coreStopped = false → p < 64 → s.get MEM_STATUS.SR_STATE = 0 → s.get MEM_STATUS.TRAINED = 1 →
      0 < (s.pcState p).owed → s.postponeMax ≤ (s.pcState p).owed →
    Completes (exec (.pcCommandIssue dt p) s) (fun t => (t.pcState p).owed = (s.pcState p).owed - 1 ∧ t.mem.reqs = s.mem.reqs ∧
      t.get (MEM_CTL_REFRESH.FORCED (pcController p)) = (s.get (MEM_CTL_REFRESH.FORCED (pcController p)) + 1) % 2 ^ 16)) ∧
  (∀ (dt p d : Nat) (r : MemReq) (s : State), s.live = true → s.lan.coreStopped = false → p < 64 → s.get MEM_STATUS.SR_STATE = 0 → s.get MEM_STATUS.TRAINED = 1 →
      (s.pcState p).owed < s.postponeMax → s.mem.writeQ = [] → r ∈ s.waiting p → r.realTime = true → r.waits = [] →
      r.deadline = some d → d < s.now + dt + 4800 →
      (∀ q ∈ s.waiting p, q.realTime = true → q.waits = [] → ∀ b, q.deadline = some b → q = r ∨ d < b) →
    Completes (exec (.pcCommandIssue dt p) s) (fun t => t.mem.writeQ = [] ∧ (t.pcState p).owed = (s.pcState p).owed ∧
      t.mem.reqs = s.mem.reqs.map (fun q => if sameTag q r then { q with issued := true } else q))) ∧
  (∀ (dt p : Nat) (s : State), s.live = true → s.lan.coreStopped = false → p < 64 → s.get MEM_STATUS.SR_STATE = 0 → s.get MEM_STATUS.TRAINED = 1 →
      (s.pcState p).owed < s.postponeMax → s.mem.writeQ = [] → s.waiting p = [] →
    Completes (exec (.pcCommandIssue dt p) s) (fun t => (t.pcState p).owed = (s.pcState p).owed - 1 ∧ t.mem.reqs = s.mem.reqs ∧
      ((s.pcState p).owed = 0 → (t.pcState p).bankRound =
        if hbmBanks ≤ (s.pcState p).bankRound + 1 then 0 else (s.pcState p).bankRound + 1))) ∧
  (∀ (dt p : Nat) (s : State), s.live = true → p < 64 → s.get MEM_STATUS.SR_STATE = 0 → s.get MEM_STATUS.TRAINED = 1 →
      s.mem.tempNeed.contains (pcStack p) = false →
      (s.pcState p).lastDue + refreshInterval (s.get (MEM_STACK_TEMP.BAND (pcStack p))) ≤ s.now + dt →
    Completes (exec (.refreshDue dt p) s) (fun t => (t.pcState p).lastDue = s.now + dt ∧
      let same := t.get (MEM_CTL_REFRESH.FORCED (pcController p)) = s.get (MEM_CTL_REFRESH.FORCED (pcController p))
      if 0 < (s.pcState p).rounds then (t.pcState p).rounds = (s.pcState p).rounds - 1 ∧ (t.pcState p).owed = (s.pcState p).owed ∧ same
      else if ((s.waiting p).any (·.realTime) || (s.queuedAt p).any (·.realTime)) = false then
        (t.pcState p).owed = (s.pcState p).owed ∧ ∀ a, t.rd a = s.rd a
      else if (s.pcState p).owed + 1 < s.postponeMax then (t.pcState p).owed = (s.pcState p).owed + 1 ∧ same
      else (t.pcState p).owed = (s.pcState p).owed ∧
        t.get (MEM_CTL_REFRESH.FORCED (pcController p)) = (s.get (MEM_CTL_REFRESH.FORCED (pcController p)) + 1) % 2 ^ 16)) ∧
  (∀ (dt : Nat) (s : State), s.live = true → s.get MEM_STATUS.TRAINED = 1 → s.cal.sess = [] →
      s.seq.fab.contains s.hbmWindow = true → s.phaseInstant (s.actGet SEQ_HBM_WIN.PHASE) ≤ s.now + dt →
    Completes (exec (.hbmRetrainWindow dt) s) (fun t =>
      if s.get MEM_STATUS.SR_STATE ≠ 0 then t.mem = s.mem ∧ t.seq.fab = s.seq.fab.erase s.hbmWindow
      else ∀ p, p < 64 → (t.pcState p).lastWindow = s.now + dt ∧
        (t.pcState p).remap = [] ∧ (t.pcState p).overdueRaised = false ∧
        if (s.pcState p).lastRetrain + s.retrainMs * msSteps ≤ s.now + dt then
          (t.pcState p).lastRetrain = s.now + dt ∧ (t.pcState p).owed = (s.pcState p).owed - 1
        else (t.pcState p).lastRetrain = (s.pcState p).lastRetrain ∧ (t.pcState p).owed = (s.pcState p).owed)) ∧
  (∀ (dt p : Nat) (s : State), s.live = true → p < 64 → s.get MEM_STATUS.TRAINED = 1 → s.get MEM_STATUS.SR_STATE = 0 →
      (s.pcState p).overdueRaised = false → (s.pcState p).lastWindow + 4 * s.retrainMs * msSteps ≤ s.now + dt →
    Completes (exec (.retrainOverdue dt p) s) (fun t => Raised 0x0C03 s t ∧ (t.pcState p).overdueRaised = true)) ∧
  (∀ (dt p lane e k : Nat) (s : State), s.live = true → p < 64 →
    Completes (exec (.parityError dt p lane e k) s) (fun t =>
      t.get (MEM_CTL_PARITY.ERRORS (pcController p)) = min 65535 (s.get (MEM_CTL_PARITY.ERRORS (pcController p)) + 1) ∧
      t.mem.reqs = s.mem.reqs.map (fun r => if r.engine == e && r.index == k then
        { r with reissues := r.reissues + 1, issued := false } else r) ∧
      ((∃ r ∈ s.mem.reqs, r.engine = e ∧ r.index = k ∧ 1 ≤ r.reissues) ∨
        15 ≤ ((tget [] (s.pcState p).laneErrs lane).filter (fun a => decide (s.now + dt < a + secSteps))).length →
        (t.pcState p).remap.contains lane = true)))

/-- Training, self-refresh, patrol and stack temperature (R121, R125, R127, R129). -/
def Obligations.StacksTrainSleepAndReport : Prop :=
  (∀ (dt failPc : Nat) (ok : Bool) (s : State), s.live = true → s.cfg.imageRunning = true → s.get MEM_STATUS.TRAINED = 0 →
      s.get MEM_STATUS.TRAIN_FAIL = 0 → failPc < 64 →
    Completes (exec (.hbmTrainingDone dt ok failPc) s) (fun t =>
      if ok then t.get MEM_STATUS.TRAINED = 1 ∧ t.hif.pages = [] ∧ t.get HIF_POOL_FREE.PAGES = 0 ∧ t.get HIF_STATUS.SCRUB_BUSY = 1 ∧
        ∀ p, p < 64 → (t.pcState p).lastRetrain = s.now + dt ∧ (t.pcState p).owed = 0 ∧
          (t.pcState p).sparesUsed = (s.pcState p).sparesUsed
      else t.get MEM_STATUS.TRAIN_FAIL = 1 ∧ t.get MEM_STATUS.TRAINED = 0 ∧ t.get MEM_STATUS.FAIL_PC = failPc ∧ Raised 0x0C04 s t)) ∧
  (∀ (dt : Nat) (s : State), s.live = true → s.get MEM_STATUS.SR_STATE = 0 → s.get MEM_STATUS.TRAINED = 1 →
      (s.tick dt).sleepOk (s.now + dt - s.dwell) = true → s.mem.refusing = false → s.mem.idleSince + s.dwell ≤ s.now + dt →
    Completes (exec (.selfRefreshEntry dt) s) (fun t => t.get MEM_STATUS.SR_STATE = 2 ∧ t.mem = { s.mem with sleepAt := s.now + dt } ∧
      t.get MEM_SR_STATUS.ENTRIES = (s.get MEM_SR_STATUS.ENTRIES + 1) % 2 ^ 24 ∧ ∀ k, k < 8 → t.domOn (domHbmCtl + k) = false)) ∧
  (∀ (dt : Nat) (s : State), s.live = true → s.get MEM_STATUS.SR_STATE = 2 → (s.tick dt).wakeCause ≠ 0 → s.mem.refusing = false →
    Completes (exec (.selfRefreshExit dt) s) (fun t => t.get MEM_STATUS.SR_STATE = 0 ∧ t.mem.dram = s.mem.dram ∧
      t.get MEM_SR_STATUS.LAST_WAKE = (s.tick dt).wakeCause ∧
      (∀ k, k < 8 → t.domOn (domHbmCtl + k) = true) ∧ t.mem.tempNeed = [0, 1] ∧
      ∀ p, p < 64 → (t.pcState p).owed = 0 ∧ (t.pcState p).lastRetrain = s.now + dt)) ∧
  (∀ (dt dpa found : Nat) (s : State), s.live = true → s.get MEM_CTRL.PATROL = 1 → s.get MEM_STATUS.TRAINED = 1 →
      s.dpaEcc dpa = true →
    Completes (exec (.patrolScrub dt dpa found) s) (fun t => t.mem.patrolAt = dpa ∧ t.mem.dram = s.mem.dram ∧
      (found = 2 → Raised 0x0C01 s t ∧ t.get MEM_ECC_ADDR_LO.DPA_LOW = dpa / 64 % 2 ^ 26))) ∧
  (∀ (dt st : Nat) (v : Int) (s : State), s.live = true → st < 2 → s.get MEM_STATUS.TRAINED = 1 → s.get MEM_STATUS.SR_STATE = 0 →
      s.mem.tempNeed.contains st = true ∨ tget 0 s.mem.tempAt st + msSteps ≤ s.now + dt →
    Completes (exec (.stackTempRead dt st (some v)) s) (fun t => t.get (MEM_STACK_TEMP.TEMP st) = uns 8 v ∧
      t.get (MEM_STACK_TEMP.BAND st) = stackBand (s.get (MEM_STACK_TEMP.BAND st)) v ∧ t.get (MEM_STACK_TEMP.READ_FAIL st) = 0 ∧
      tget 0 t.mem.tempFails st = 0)) ∧
  (∀ (dt st : Nat) (s : State), s.live = true → st < 2 → s.get MEM_STATUS.TRAINED = 1 → s.get MEM_STATUS.SR_STATE = 0 →
      s.mem.tempNeed.contains st = true ∨ tget 0 s.mem.tempAt st + msSteps ≤ s.now + dt →
    Completes (exec (.stackTempRead dt st none) s) (fun t => t.get (MEM_STACK_TEMP.READ_FAIL st) = 1 ∧
      tget 0 t.mem.tempFails st = tget 0 s.mem.tempFails st + 1 ∧
      t.get (MEM_STACK_TEMP.BAND st) = if 2 ≤ tget 0 s.mem.tempFails st then 4 else s.get (MEM_STACK_TEMP.BAND st)))

/-! ### Latched reads, commits and the LF boundary (spec/00, spec/01, spec/02, spec/04) -/

/-- R59: a read of GLB_SYSTIME_LO latches the three registers at one instant; no other command changes what they read until the
main die is reset, and until the first such read they read 0. -/
def Obligations.SystemTimeReadLatchesThree : Prop :=
  (∀ (dt : Nat) (s : State), s.live = true →
    Completes (exec (.systimeLoRead dt) s) (fun t =>
      t.readReg GLB_SYSTIME_HI = BitVec.ofNat 32 ((s.tick dt).sysNow / 2 ^ 32) ∧
      t.readReg GLB_LFN_LATCHED = BitVec.ofNat 32 (s.tick dt).tim.lfn ∧
      t.readReg GLB_PHASE_LATCHED = BitVec.ofNat 32 (s.tick dt).phase)) ∧
  (∀ (i : Instr) (s t : State), exec i s = .next t → (∀ dt, i ≠ .systimeLoRead dt) →
      (∀ dt f a w, i = .latchedPairRead dt ⟨f, a, w⟩ → ¬ (a ≤ GLB_SYSTIME_LO ∧ GLB_SYSTIME_LO < a + w)) →
      (∀ dt short, i ≠ .resetHold dt short) →
    ∀ a ∈ [GLB_SYSTIME_HI, GLB_LFN_LATCHED, GLB_PHASE_LATCHED], t.readReg a = s.readReg a) ∧
  (∀ a ∈ [GLB_SYSTIME_HI, GLB_LFN_LATCHED, GLB_PHASE_LATCHED], State.reset.readReg a = 0) ∧
  (∀ (dt : Nat) (short : Bool) (s : State), s.glb.inReset = true → s.glb.held = false →
      short = true ∨ s.glb.resetTime + 4 * usSteps ≤ s.now + dt →
    Completes (exec (.resetHold dt short) s) (fun t =>
      ∀ a ∈ [GLB_SYSTIME_HI, GLB_LFN_LATCHED, GLB_PHASE_LATCHED], t.readReg a = 0))

/-- R9: a read of the lower register of a pair latches the upper half, no other access changes what is latched until one of the two
registers is read (or the main die is reset), and the next read of the upper register returns it. -/
def Obligations.PairReadsLatchTheUpperHalf : Prop :=
  (∀ (dt f addr a : Nat) (s : State), s.live = true → addr % 4 = 0 → s.readAt f addr = some a →
      (lookupReg a).any (·.pairLow) = true → a ≠ GLB_SYSTIME_LO →
    Completes (exec (.latchedPairRead dt ⟨f, addr, 4⟩) s) (fun t => tfind t.glb.latchHi a = some (s.rd (a + 4)) ∧
      t.readReg (a + 4) = s.rd (a + 4))) ∧
  (∀ (dt : Nat) (s : State), s.live = true → s.readAt 0 GLB_SYSTIME_LO = some GLB_SYSTIME_LO →
    Completes (exec (.latchedPairRead dt ⟨0, GLB_SYSTIME_LO, 4⟩) s) (fun t =>
      t.readReg GLB_SYSTIME_HI = BitVec.ofNat 32 ((s.tick dt).sysNow / 2 ^ 32))) ∧
  (∀ (i : Instr) (s t : State) (a : Nat) (w : Word), exec i s = .next t → tfind s.glb.latchHi a = some w →
      (∀ dt f x n, i = .latchedPairRead dt ⟨f, x, n⟩ → ∀ y, x ≤ y → y < x + n →
        s.readAt f (y / 4 * 4) ≠ some a ∧ s.readAt f (y / 4 * 4) ≠ some (a + 4)) →
      (∀ dt short, i ≠ .resetHold dt short) → tfind t.glb.latchHi a = some w) ∧
  (∀ (s : State) (a : Nat) (w : Word), (lookupReg a).any (·.pairLow) = true → a ≠ GLB_SYSTIME_LO →
      tfind s.glb.latchHi a = some w → s.readReg (a + 4) = w) ∧
  (∀ (dt f addr a : Nat) (w : Word) (s : State), s.live = true → addr % 4 = 0 → s.readAt f addr = some (a + 4) →
      (lookupReg a).any (·.pairLow) = true → a ≠ GLB_SYSTIME_LO → tfind s.glb.latchHi a = some w →
    Completes (exec (.latchedPairRead dt ⟨f, addr, 4⟩) s) (fun t => t.out = s.out ++ [.readReply f true (leBytes 4 w.toNat)] ∧
      tfind t.glb.latchHi a = none))

/-- Commits from request to decision: a request is pending with its tag and target, or turned away; a cancel ends it before
admission; an admitted commit has its outputs fixed, in an all-or-nothing group with every member; a decision is reached 20 us
before the boundary; a group's timeout fails its requests (R30, R93 to R97). -/
def Obligations.CommitsAreRequestedAdmittedAndDecided : Prop :=
  (∀ (dt c tag : Nat) (atLfn : Bool) (s : State), s.live = true → s.cfg.safeIdle = false → s.commits? c = true →
      s.cm c = none → (atLfn = true → lfnAfter (s.rdN (cmReg c + 4)) s.tim.lfn = true) →
    Completes (exec (.commitRequest dt c atLfn tag) s) (fun t =>
      t.cm c = some ⟨false, false, s.tim.lfn, if atLfn then some (s.rdN (cmReg c + 4)) else none, []⟩ ∧
      t.get (cmReq c) = 1 ∧ t.get (cmState c) = 1 ∧ t.get (cmStTag c) = tag % 2 ^ 16)) ∧
  (∀ (dt c tag : Nat) (s : State), s.live = true → s.cfg.safeIdle = false → s.commits? c = true → s.cm c = none →
      lfnAfter (s.rdN (cmReg c + 4)) s.tim.lfn = false →
    Completes (exec (.commitRequest dt c true tag) s) (fun t => t.cm c = none ∧ t.get (cmState c) = 4 ∧ t.get (cmReason c) = 3 ∧
      Raised 0x0F01 s t)) ∧
  (∀ (dt c tag : Nat) (atLfn : Bool) (s : State), s.live = true → s.cfg.safeIdle = false →
      s.commits? c = false ∨ (s.cm c).isSome = true →
    Completes (exec (.commitRequest dt c atLfn tag) s) (fun t => t.hif = s.hif ∧ Raised 0x0F06 s t)) ∧
  (∀ (dt c : Nat) (x : CommitSt) (s : State), s.live = true → s.cfg.safeIdle = false → c ≤ pfCommit → s.cm c = some x →
      x.admitted = false →
    Completes (exec (.commitCancel dt c) s) (fun t => t.cm c = none ∧ t.get (cmReq c) = 0 ∧ t.get (cmState c) = 5 ∧
      Raised 0x0F01 s t ∧ t.act = s.act)) ∧
  (∀ (dt c : Nat) (x : CommitSt) (s : State), s.live = true → c ≤ pfCommit → s.cm c = some x → x.admitted = false →
      s.aonOf (s.cmGroup c) = false → (s.tick dt).localCause c = nrNone →
    Completes (exec (.commitAdmit dt c) s) (fun t => t.cm c = some { x with admitted := true, outputs := s.commitOutputs c } ∧
      t.get (cmState c) = 2)) ∧
  (∀ (dt c : Nat) (x : CommitSt) (s : State), s.live = true → s.cm c = some x → x.admitted = false →
      s.aonOf (s.cmGroup c) = true → s.joined = false → (s.tick dt).groupAdmits (s.cmGroup c) = true →
      (∀ m ∈ s.members (s.cmGroup c), s.isAdmitted m = false) →
    Completes (exec (.commitAdmit dt c) s) (fun t => ∀ m ∈ s.members (s.cmGroup c), t.isAdmitted m = true ∧ t.get (cmState m) = 2)) ∧
  (∀ (dt g : Nat) (s : State), s.live = true → g < 64 → s.aonOf g = true → s.get (HIF_GROUP_CTRL.WAIT_MAX g) ≠ 0 →
      s.get (HIF_GROUP_CTRL.WAIT_MAX g) ≤ s.groupWait g → s.groupPending g ≠ [] →
      (∀ c ∈ s.groupPending g, (s.cm c).any (·.decided) = false) →
    Completes (exec (.groupTimeout dt g) s) (fun t => t.act = s.act ∧ ∀ c ∈ s.groupPending g, t.cm c = none ∧
      (c ≤ pfCommit → t.get (cmState c) = 4 ∧ t.get (cmReason c) = 1))) ∧
  (∀ (s : State), s.live = true → s.now ≤ s.decisionInstant → s.joined = false →
      s.seq.fab.contains s.commitPoint = true →
    Completes (exec .commitDecisionPoint s) (fun t => t.now = s.decisionInstant ∧ t.seq.fab = s.seq.fab.erase s.commitPoint ∧
      ∀ c x, s.cm c = some x → t.cm c = some { x with decided :=
        (({ s with now := s.decisionInstant }).readyCommits s.nextLfn (fun _ => true)).contains c })) ∧
  (∀ (s : State), s.seq.fab.contains s.commitPoint = false →
    Completes (exec .commitDecisionPoint s) (fun t => t.hif = s.hif ∧ t.seq = s.seq))

/-- The boundary: the clock runs on to it, LFN advances by one, its position carries the fraction of P, the fetch window ends,
and a context's decided commit applies with its shadows in force (R11, R26, R34, R35, R92, R98). -/
def Obligations.LfBoundaryAdvancesAndApplies : Prop :=
  (∀ (s : State), s.live = true →
    Completes (exec .lfBoundary s) (fun t => t.now = max s.now s.nextBoundary ∧
      t.tim.lfn = (if s.tim.bootLf then 0 else (s.tim.lfn + 1) % 2 ^ 32) ∧ t.tim.bootLf = false ∧
      t.tim.lfStart16 = (if s.tim.bootLf then max s.now s.nextBoundary * 65536 else s.tim.lfStart16 + s.tim.p16) ∧
      t.hif.winStart = t.now)) ∧
  (∀ (c : Nat) (x : CommitSt) (s : State), s.live = true → c < 1024 → s.cm c = some x → x.decided = true →
      s.cfg.reloadReady = false → s.hif.resetting = [] →
    Completes (exec .lfBoundary s) (fun t => t.cm c = none ∧ t.get (cmState c) = 3 ∧ t.get (cmReason c) = 0 ∧
      t.rdN (cmReg c + 12) = t.tim.lfn ∧ ∀ a ∈ s.changedKeys c, t.actRd a = s.rd a)) ∧
  (∀ (s : State), s.live = false → Completes (exec .lfBoundary s) (fun t => t = s))

/-! ### Forming, planes and the plane store (spec/06, spec/07, spec/08) -/

/-- The update pass that waits for its turn. -/
def updatePass (s : State) : Pass := Pass.unstarted .update [] s.now

/-- LIVE takes effect at the next boundary. UPDATE asks for one pass on an array output that the layer spans: it waits with the bit
set behind a pass that has not applied, and where none stands before it starts at once and the bit clears (R94, R136). -/
def Obligations.LiveAndUpdatedLayers : Prop :=
  (∀ (dt n : Nat) (live : Bool) (s : State), s.live = true → s.cfg.safeIdle = false → n < 256 →
    Completes (exec (.layerLiveWrite dt n live) s) (fun t => t.get (CMP_LYR_LIVE.LIVE n) = boolNat live ∧ t.cmp = s.cmp)) ∧
  (∀ (dt n o : Nat) (p : Pass) (rest : List Pass) (s : State), s.live = true → s.cfg.safeIdle = false → n < 256 →
      (s.spans [] n).filter (fun o => decide (o < arrayOutputs)) = [o] → s.passesOf o = p :: rest → p.running = true →
      p.complete = false → (∀ q ∈ p :: rest, q.kind = .update → q.running = true) →
    Completes (exec (.layerUpdate dt n) s) (fun t => t.passesOf o = (p :: rest) ++ [updatePass (s.tick dt)] ∧
      t.get (CMP_LYR_LIVE.UPDATE n) = 1)) ∧
  (∀ (dt n o : Nat) (s : State), s.live = true → s.cfg.safeIdle = false → n < 256 →
      (s.spans [] n).filter (fun o => decide (o < arrayOutputs)) = [o] → s.spans [] n = [o] → s.passesOf o = [] →
      s.tailOn o = false → s.get THM_STATUS.STATE = 0 →
    Completes (exec (.layerUpdate dt n) s) (fun t => t.get (CMP_LYR_LIVE.UPDATE n) = 0 ∧
      ∃ p, t.passesOf o = [p] ∧ p.kind = .update ∧ p.running = true ∧ p.started = s.now + dt)) ∧
  (∀ (dt n : Nat) (s : State), s.live = true → n < 256 → (s.spans [] n).filter (fun o => decide (o < arrayOutputs)) = [] →
    Completes (exec (.layerUpdate dt n) s) (fun t => t = s.tick dt))

/-- A layer whose data is missing goes off on its output at that line, by the cause of its fault: it is counted, and one event names
it (R162, R163). -/
def Obligations.AnUnderrunTakesItsLayerOff : Prop :=
  ∀ (dt n o line fault : Nat) (p : Pass) (rest : List Pass) (s : State), s.live = true → n < 256 → o < outputs → s.passesOf o = p :: rest →
      p.running = true → p.complete = false → (∀ q ∈ rest, q.running = false) →
      s.fetches o = true → s.takesPart p.commits n o = true → s.isOff n o = false → line < s.outH o → fault ≤ 3 →
      s.sflag p.commits (CMP_LYR_CTRL.COHERENT n) = false →
    Completes (exec (.layerUnderrun dt n o line fault) s) (fun t => Raised 0x0B01 s t ∧
      t.get (CMP_LYR_STATUS.OFFS n) = (s.get (CMP_LYR_STATUS.OFFS n) + 1) % 2 ^ 16 ∧
      (tfind t.cmp.offs (offKey n o)).map (fun x => (x.cause, x.remote)) =
        some (if fault = 1 then offTranslation else if fault = 2 then offHostLost else if fault = 3 then offLate
          else if (s.holder n).any s.overDemand then offBandwidth else offLate, false) ∧
      ∀ q ∈ t.passesOf o, q.running = true → q.complete = false → n ∈ q.missing)

/-- The event of a failed table load, by its kind. -/
def loadEvent (kind : Nat) : Nat := nthD [0x0B03, 0x0A04, 0x0A04, 0x0A04, 0x0904, 0x0904] kind 0

/-- How many slots or outputs a table load can name, by its kind. -/
def loadSlots (kind : Nat) : Nat := nthD [20, 16, 8, 20, 16, 1] kind 0

/-- A table load ends with its content in the back copy, or it fails: bit and, the first time, event; and it waits for the next
boundary (R154, R174, R179, R181, R196, R198). -/
def Obligations.TableLoadsFillTheBackCopyOrFail : Prop :=
  (∀ (dt kind i : Nat) (k : TableKind) (l : LoadSt) (b : List Byte) (s : State), s.live = true → s.lan.coreStopped = false → tableKindOf kind = some k → i < loadSlots kind →
      s.cmp.loads.find? (fun l => decide (l.kind = k) && l.index == i && !l.build && !l.loaded && !l.waits) = some l →
      ((s.tick dt).vread (s.loadSource k i).1 (s.loadSource k i).2.1 (s.loadSource k i).2.2) = some b → tableOk k b = true →
    Completes (exec (.tableLoadDone dt kind i false) s) (fun t => t.get (loadFailFld k i) = 0 ∧
      (∀ l ∈ t.cmp.loads, l.kind = k → l.index = i → l.build = false → l.loaded = true) ∧
      (k = .mesh → tfind t.cmp.meshBack i = some b) ∧ (k = .lut → tfind t.col.lutBack i = some b) ∧
      (k = .dec → tfind t.col.decBack i = some b) ∧ (k = .grid → tfind t.col.gridBack i = some b) ∧
      (k = .book → tfind t.pln.bookBack i = some ((List.range (b.length / 4)).map (fun n =>
        leAt b (4 * n) 4 % 2 ^ (((s.slotSet [pfCommit] i).map (s.setPlanes [pfCommit])).getD 32)))) ∧
      (k = .mask → t.pln.maskBack = (List.range 4096).map (fun n => leAt b (2 * n) 2)))) ∧
  (∀ (dt kind i : Nat) (k : TableKind) (l : LoadSt) (s : State), s.live = true → s.lan.coreStopped = false → tableKindOf kind = some k →
      s.cmp.loads.find? (fun l => decide (l.kind = k) && l.index == i && !l.build && !l.loaded && !l.waits) = some l →
      l.retried = false →
    Completes (exec (.tableLoadDone dt kind i true) s) (fun t => (∀ a, t.rd a = s.rd a) ∧ t.col = s.col ∧ t.pln = s.pln ∧
      t.int = s.int ∧ t.cmp = { s.cmp with loads := t.cmp.loads } ∧
      t.cmp.loads.map (fun l => { l with retried := true }) = s.cmp.loads.map (fun l => { l with retried := true }) ∧
      ∀ l ∈ t.cmp.loads, l.kind = k → l.index = i → l.build = false → l.retried = true)) ∧
  (∀ (dt kind i : Nat) (k : TableKind) (l : LoadSt) (lost : Bool) (s : State), s.live = true → s.lan.coreStopped = false → tableKindOf kind = some k → i < loadSlots kind →
      s.cmp.loads.find? (fun l => decide (l.kind = k) && l.index == i && !l.build && !l.loaded && !l.waits) = some l →
      (lost = true → l.retried = true) →
      lost = true ∨ ((s.tick dt).vread (s.loadSource k i).1 (s.loadSource k i).2.1 (s.loadSource k i).2.2).filter (tableOk k) = none →
    Completes (exec (.tableLoadDone dt kind i lost) s) (fun t => t.get (loadFailFld k i) = 1 ∧
      (∀ l ∈ t.cmp.loads, l.kind = k → l.index = i → l.build = false → l.failed = true ∧ l.waits = true) ∧ t.col = s.col ∧ t.pln = s.pln ∧
      t.cmp.meshBack = s.cmp.meshBack ∧
      (if l.failed then t.eventCount (loadEvent kind) = s.eventCount (loadEvent kind) else Raised (loadEvent kind) s t)))

/-- Books that are built are in their back copies, with BUILD_BUSY as the other builds stand (R195, R196). -/
def Obligations.BooksAreBuiltIntoTheirBackCopies : Prop :=
  ∀ (dt slot k : Nat) (s : State), s.live = true → s.slotSet [pfCommit] slot = some k →
      s.cmp.loads.any (fun l => l.kind == .book && l.index == slot && l.build && !l.loaded) = true →
    Completes (exec (.bookBuildDone dt slot) s) (fun t =>
      tfind t.pln.throttleBack slot = some
        (throttleBook (s.setWeights [pfCommit] k) (s.setQb [pfCommit] k) (s.setDrop [pfCommit] k)).entries ∧
      (s.setLoaded [pfCommit] k = true → t.pln.bookBack = s.pln.bookBack) ∧
      (s.setLoaded [pfCommit] k = false → tfind t.pln.bookBack slot = some (mainBook (s.setWeights [pfCommit] k) (s.setQb [pfCommit] k)).entries) ∧
      (∀ l ∈ t.cmp.loads, l.kind = .book → l.index = slot → l.build = true → l.loaded = true) ∧
      (t.flag PLN_STATUS.BUILD_BUSY = t.cmp.loads.any (fun l => l.build && !l.loaded)))

/-- A forming pass completes with its planes in the writer's copy; a tail ends with the tail planes in the live copy; a writeback
frame is reported with the CFN and LFN at which its pass applied (R94, R159, R206, R207). -/
def Obligations.PassesTailsAndWritebackComplete : Prop :=
  (∀ (dt o : Nat) (p : Pass) (rest : List Pass) (s : State), s.live = true → s.lan.coreStopped = false → o < arrayOutputs → s.passesOf o = p :: rest →
      p.running = true → p.complete = false → p.voided = false → s.slicesOn o = true →
      s.givesWay { p with complete := true } rest = false →
    Completes (exec (.formingPassDone dt o) s) (fun t =>
      t.passesOf o = { p with
        complete := true
        leads := ((s.withFollowers o).filter s.phased).map (fun f => (f, s.leadsOf p.commits f)) } :: rest ∧
      ∀ f ∈ s.withFollowers o, f < 16 →
        (s.get (PLN_OUT_CFG.MODE f) = 1 → t.get (PLN_OUT_STATUS.BACK_COMPLETE f) = 1) ∧
        (s.get (PLN_OUT_CFG.MODE f) = 2 → t.get (PLN_OUT_STATUS.LEAD_VALID f) = 1))) ∧
  (∀ (dt o : Nat) (p : Pass) (s : State), s.live = true → s.lan.coreStopped = false → o < arrayOutputs → s.passesOf o = [p] → p.running = true →
      p.complete = false → p.voided = true → s.slicesOn o = true →
    Completes (exec (.formingPassDone dt o) s) (fun t => t.passesOf o = [] ∧ t.pln = s.pln ∧ SameBytes s t ∧ t.cmp.wb = s.cmp.wb)) ∧
  (∀ (dt o : Nat) (s : State), s.live = true → s.lan.coreStopped = false → o < arrayOutputs → o ∈ s.pln.tailRunning →
    Completes (exec (.tailDone dt o) s) (fun t => t.pln.tailRunning = s.pln.tailRunning.erase o ∧ thas t.pln.tailPass o = false ∧
      t.get (PLN_OUT_STATUS.TAIL o) = 0 ∧
      let p := tget noPass s.pln.tailPass o
      tget [] t.pln.front o = (leadWords (tget [] p.leads o) false (((s.tick dt).passView p (s.leaderOf o)).formImage []
        p.throttle s.cal.pattern o)).foldl (fun a e => tset a e.1 e.2) (leadWords (tget [] p.leads o) true (tget [] s.pln.front o)))) ∧
  (∀ (dt o : Nat) (lost : Bool) (w : WbSt) (s : State), s.live = true → s.lan.coreStopped = false → o < outputs →
      s.cmp.wb.find? (fun w => w.output == o && w.applied) = some w →
    Completes (exec (.writebackDone dt o lost) s) (fun t => t.rdN (CMP_OUT_WB_CFN o) = w.cfn % 2 ^ 32 ∧
      t.flag (CMP_OUT_WB_STATUS.DONE o) = !(w.incomplete || lost) ∧ t.flag (CMP_OUT_WB_STATUS.INCOMPLETE o) = (w.incomplete || lost) ∧
      t.get (CMP_OUT_WB_STATUS.FRAMES o) = (s.get (CMP_OUT_WB_STATUS.FRAMES o) + 1) % 2 ^ 16 ∧
      (∀ x ∈ t.cmp.wb, ¬ (x.output = o ∧ x.applied = true)) ∧
      (if w.incomplete || lost then Raised 0x0B05 s t else Raised 0x0B04 s t)))

/-- The store is zeroed before first light; errors that the scrub finds are counted and located, the eighth corrected error within 1 s
and the second double-bit error make a row dead; its content goes to a spare (R204, R210, R211). -/
def Obligations.TheStoreIsZeroedScrubbedAndRepaired : Prop :=
  (∀ (dt : Nat) (s : State), s.live = true → s.cfg.imageRunning = true → s.pln.zeroed = false →
    Completes (exec (.storeZeroDone dt) s) (fun t => t.pln = { s.pln with
      zeroed := true
      front := []
      back := []
      place := []
      placeBack := []
      leadNow := [] })) ∧
  (∀ (dt o l : Nat) (e : StoreErr) (s : State), s.live = true → s.flag PLN_CTRL.SCRUB_EN = true → s.pln.zeroed = true →
      s.lineOutput e.bank e.line = some (o, l) → e.double = false →
    Completes (exec (.storeScrub dt [e]) s) (fun t => t.get PLN_ECC.CE = min (s.get PLN_ECC.CE + 1) 65535 ∧
      (t.rowSt e.bank e.bankRow).ue = (s.rowSt e.bank e.bankRow).ue ∧
      (t.rowSt e.bank e.bankRow).ceTimes.head? = some (s.now + dt) ∧ t.cmp = s.cmp ∧
      (7 ≤ ((s.rowSt e.bank e.bankRow).ceTimes.filter (fun a => decide (s.now + dt < a + secSteps))).length →
        s.flag PLN_CTRL.REPAIR_EN = true → s.rowsDue < s.get PLN_STATUS.SPARE_ROWS → (t.rowSt e.bank e.bankRow).dead = true))) ∧
  (∀ (dt o l : Nat) (e : StoreErr) (s : State), s.live = true → s.flag PLN_CTRL.SCRUB_EN = true → s.pln.zeroed = true →
      s.lineOutput e.bank e.line = some (o, l) → e.double = true →
    Completes (exec (.storeScrub dt [e]) s) (fun t => t.get PLN_ECC.UE = min (s.get PLN_ECC.UE + 1) 65535 ∧
      t.get PLN_ECC_ADDR.BANK = e.bank % 8 ∧ Raised 0x0901 s t ∧ (t.rowSt e.bank e.bankRow).ue = (s.rowSt e.bank e.bankRow).ue + 1 ∧
      (s.tailAhead o l = false → ∃ q ∈ t.passesOf (s.leaderOf o), q.kind = .rewrite) ∧ (s.tailAhead o l = true → t.cmp = s.cmp) ∧
      (1 ≤ (s.rowSt e.bank e.bankRow).ue → s.flag PLN_CTRL.REPAIR_EN = true → s.rowsDue < s.get PLN_STATUS.SPARE_ROWS →
        (t.rowSt e.bank e.bankRow).dead = true))) ∧
  (∀ (dt bank row : Nat) (s : State), s.live = true → (s.rowSt bank row).dead = true → (s.rowSt bank row).copied = false →
    Completes (exec (.spareRowCopyDone dt bank row) s) (fun t => t.rowSt bank row = { s.rowSt bank row with copied := true } ∧
      t.act = s.act ∧ t.cmp = s.cmp))

/-! ### Laxus systems (spec/14) -/

/-- A message of a class and a type, with words after its header, has joined those that wait for a lane of port j. -/
def Sends (j cls ty : Nat) (extra : List Nat) (s t : State) : Prop :=
  ∃ l, (t.lxLane (s.msgLane j cls)).waiting = (s.lxLane (s.msgLane j cls)).waiting ++ l ∧ ∃ m ∈ l, m.ty = ty ∧ m.words.tail = extra

/-- Ports: trained lanes give HELLO, their own identity a fault for good; another fault is left after 100 ms; RETRAIN stops the link,
which is UP again within 2 ms or trains anew; unacknowledged frames are sent again; credits add up (R333 to R335, R354). -/
def Obligations.LaxusPortsTrainRetrainAndResend : Prop :=
  (∀ (dt j neigh : Nat) (s : State), s.live = true → j < 4 → s.lxState j = lxTrain → s.lxDataLanes j ≠ [] →
      (s.lxDataLanes j).length = ([136 + 2 * j, 137 + 2 * j].filter (fun l => s.laneState l != lnFenced)).length →
    Completes (exec (.lxsPortTrained dt j neigh) s) (fun t =>
      if neigh % 2 ^ 48 = s.uid then t.lxState j = lxFault ∧ t.get (LXS_PORT_STATE.FAULT j) = 2 ∧ Raised 0x0803 s t
      else t.lxState j = lxHello ∧ t.flag (LXS_PORT_STATE.WIDTH j) = ((s.lxDataLanes j).length == 2) ∧
        t.rdN (LXS_PORT_NEIGH_LO j) = neigh % 2 ^ 32 ∧ (s.get LXS_STATUS.PHASE = 1 → t.get LXS_STATUS.PHASE = 2) ∧
        (∃ l ∈ s.lxDataLanes j, ∃ m, (t.lxLane l).waiting = (s.lxLane l).waiting ++ [m] ∧ m.ty = 1))) ∧
  (∀ (dt j : Nat) (s : State), s.live = true → s.lxUsed j = true → s.lxState j = lxFault →
      (s.lxPort j).since + 100 * msSteps ≤ s.now + dt →
    Completes (exec (.lxsPortFaultRetry dt j) s) (fun t =>
      if s.get (LXS_PORT_STATE.FAULT j) = 2 then t = s.tick dt else t.lxState j = lxTrain)) ∧
  (∀ (dt l : Nat) (s : State), s.live = true → laneIsLaxus l = true → s.laneState l = lnData →
      (s.lxLane l).hist.any (fun f => f.fseq != (s.lxLane l).acked) = true → (s.lxLane l).since + s.slotSteps l 64 ≤ s.now + dt →
    Completes (exec (.linkAckTimeout dt l) s) (fun t => (t.lxLane l).since = s.now + dt ∧
      (t.lxLane l).again.map (·.fseq) = ((s.lxLane l).hist.map (·.fseq)).filter (fun f =>
        decide ((f + 65536 - ((s.lxLane l).acked + 1) % 65536) % 65536 < 32768)) ∧
      t.get (LXS_PORT_REPLAYS.FRAMES ((l - 136) / 2)) = (s.get (LXS_PORT_REPLAYS.FRAMES ((l - 136) / 2)) + (t.lxLane l).again.length) % 2 ^ 16)) ∧
  (∀ (dt j f id : Nat) (change two : Bool) (s : State), s.live = true → j < 4 → s.lxState j = lxUp →
    Completes (exec (.lxsRetrain dt j f id change two) s) (fun t => t.lxState j = lxRetrain ∧
      t.get (LXS_PORT_STATE.RETRAINS j) = (s.get (LXS_PORT_STATE.RETRAINS j) + 1) % 2 ^ 16 ∧
      t.flag (LXS_PORT_STATE.WIDTH j) = (s.flag (LXS_PORT_STATE.WIDTH j) && (!change || two)) ∧ t.flag (LXS_PORT_STATE.CHILD j) = false)) ∧
  (∀ (dt j : Nat) (s : State), s.live = true → j < 4 → s.lxState j = lxRetrain → s.now + dt ≤ (s.lxPort j).since + 2 * msSteps →
      (s.lxPort j).stopped = true → (if s.flag (LXS_PORT_STATE.WIDTH j) then 2 else 1) ≤ (s.lxDataLanes j).length →
    Completes (exec (.lxsRetrainDone dt j) s) (fun t => t.lxState j = lxUp ∧ (t.lxPort j).stopped = false ∧ (t.lxPort j).own = none ∧ (t.lxPort j).peer = none)) ∧
  (∀ (dt j : Nat) (s : State), s.live = true → s.lxUsed j = true → s.lxState j = lxRetrain → (s.lxPort j).since + 2 * msSteps < s.now + dt →
      s.get LXS_STATUS.PHASE ≠ 0 →
    Completes (exec (.lxsRetrainDone dt j) s) (fun t => t.lxState j = lxTrain)) ∧
  (∀ (dt j req resp : Nat) (s : State), s.live = true → j < 4 → s.lxState j = lxUp →
    Completes (exec (.credit dt j req resp) s) (fun t => (t.lxPort j).credReq = (s.lxPort j).credReq + req ∧
      (t.lxPort j).credResp = (s.lxPort j).credResp + resp))

/-- HELLO decides a port and restarts an election that runs; the timer sends HELLO on every port that carries it; an election ends
with a root, or a parent; a parent that is lost is replaced, or the device becomes a root of a new generation; a device alone is a
system of one (R337 to R341, R356). -/
def Obligations.HelloElectionAndTheTree : Prop :=
  (∀ (dt j id prio portN root rootPrio hops sysid gen : Nat) (started near : Bool) (s : State), s.live = true → j < 4 →
      s.lxState j = lxHello →
    Completes (exec (.hello dt j id prio portN started root rootPrio hops sysid gen near) s) (fun t =>
      (t.lxPort j).hello = some ⟨id, prio, portN, started, root, rootPrio, hops, sysid, gen, near⟩ ∧
      t.get (LXS_PORT_RX.MESSAGES j) = (s.get (LXS_PORT_RX.MESSAGES j) + 1) % 2 ^ 32 ∧
      t.rdN (LXS_PORT_NEIGH_LO j) = id % 2 ^ 32 ∧ t.get (LXS_PORT_NEIGH_HI.HOPS j) = hops % 2 ^ 7 ∧
      (s.lxStarted = false ∨ started = false ∨ (sysid = s.sysid ∧ root = s.lxs.root) →
        t.lxState j = lxUp ∧ ∃ w, Sends j 3 0x11 [w] s t) ∧
      (s.lxStarted = true → started = true → sysid ≠ s.sysid → s.flag LXS_CTRL.MERGE_EN = false →
        t.lxState j = lxBlocked ∧ t.get (LXS_PORT_STATE.FAULT j) = 3 ∧ Raised 0x0803 s t) ∧
      (s.lxStarted = false → (s.lxPort j).hello = none → t.lxs.electing = true ∧ t.lxs.lastChange = s.now + dt))) ∧
  (∀ (dt : Nat) (s : State), s.live = true → s.isMember = true → s.get LXS_STATUS.PHASE ≠ 0 →
      s.lxs.lastHello + (if s.lxs.electing then 20 * usSteps else s.tim.p16 / 65536) ≤ s.now + dt →
    Completes (exec (.helloTimer dt) s) (fun t => t.lxs.lastHello = s.now + dt ∧ t.regs = s.regs ∧
      ∀ j < 4, s.lxState j ∈ [lxHello, lxUp, lxBlocked] → Sends j 3 1 (s.helloWords j) s t)) ∧
  (∀ (dt : Nat) (s : State), s.live = true → s.isMember = true → s.lxs.electing = true → 2 ≤ s.get LXS_STATUS.PHASE → s.lxStarted = false →
      s.lxs.lastChange + 1280 * usSteps ≤ s.now + dt → (s.hellos.map (·.2)).find? (fun h => h.started && h.root == s.lxs.root) = none →
    Completes (exec (.electionComplete dt) s) (fun t => t.lxs.electing = false ∧ t.rdN LXS_SYSID_LO = s.lxs.root % 2 ^ 32 ∧
      t.get LXS_SYSID_HI.GEN = 0 ∧ t.get LXS_STARTUP.ELECTIONS = (s.get LXS_STARTUP.ELECTIONS + 1) % 2 ^ 16 ∧ Raised 0x0801 s t ∧
      (s.lxs.root = s.uid → t.isRoot = true ∧ t.flag LXS_STATUS.CONVERGED = true ∧ t.get LXS_STATUS.DEPTH = 0 ∧ t.get LXS_STATUS.PHASE = 4) ∧
      (∀ j h, s.lxs.root ≠ s.uid → s.pickParent (fun _ h => h.root == s.lxs.root) = some (j, h) →
        t.isRoot = false ∧ t.lxParent = some j ∧ t.flag (LXS_PORT_STATE.PARENT j) = true ∧ t.get LXS_STATUS.PHASE = 4 ∧
        t.lxs.hops = h.hops + 1 ∧ Sends j 3 2 [] s t))) ∧
  (∀ (dt j : Nat) (detach : Bool) (s : State), s.live = true → j < 4 → s.lxState j = lxUp → s.flag (LXS_PORT_STATE.CHILD j) = detach →
    Completes (exec (.attach dt j detach) s) (fun t => t.flag (LXS_PORT_STATE.CHILD j) = !detach ∧ Raised 0x0802 s t ∧
      (detach = true → ∀ e ∈ t.lxs.reports, e.2.port ≠ j))) ∧
  (∀ (dt p : Nat) (s : State), s.live = true → s.lxParent = some p → s.lxs.timeAt + 3 * s.tim.p16 / 65536 ≤ s.now + dt →
    Completes (exec (.parentTimeout dt) s) (fun t => t.flag LXS_STATUS.CONVERGED = false ∧
      match s.pickParent (fun k h => k != p && h.sysid == s.sysid && decide (h.hops < s.lxs.hops) && h.root == s.lxs.root) with
      | some (j, h) => t.lxParent = some j ∧ t.lxs.hops = h.hops + 1 ∧ Sends j 3 2 [] s t
      | none => t.lxParent = none ∧ t.lxs.root = s.uid ∧ t.lxs.electing = true ∧ t.gen = (s.gen + 1) % 2 ^ 16)) ∧
  (∀ (dt : Nat) (s : State), s.live = true → s.isMember = true → s.upPorts = [] → s.get LXS_STATUS.PHASE = 1 ∨ s.get LXS_STATUS.PHASE = 2 →
      s.lxs.imageAt + 100 * msSteps ≤ s.now + dt → bitAt (lxsFlags s.lxsCfg) 0 = true →
    Completes (exec (.laxusAloneTimeout dt) s) (fun t => t.get LXS_STATUS.PHASE = 7 ∧ t.isRoot = true ∧ t.get LXS_COUNT.DEVICES = 1 ∧
      t.lxs.root = s.uid ∧ t.gen = 0))

/-- Reports, stations and promotion (R345 to R347, R355). -/
def Obligations.ReportsStationsAndPromotion : Prop :=
  (∀ (dt j id n0 n1 n2 n3 highest : Nat) (conv spare : Bool) (s : State), s.live = true → j < 4 → s.lxState j = lxUp →
      s.flag (LXS_PORT_STATE.CHILD j) = true →
    Completes (exec (.report dt j id conv spare n0 n1 n2 n3 highest) s) (fun t =>
      tfind t.lxs.reports id = some ⟨j, conv, spare, [n0, n1, n2, n3], highest⟩ ∧ t.lxs.lastReport = s.now + dt ∧ t.lxs.told = s.lxs.told.erase id ∧
      ∀ p, s.lxParent = some p → s.isRoot = false →
        Sends p 3 3 (reportWords id ⟨j, conv, spare, [n0, n1, n2, n3], highest⟩) s t)) ∧
  (∀ (dt : Nat) (s : State), s.live = true → s.isRoot = true → s.get LXS_STATUS.PHASE = 4 → s.lxs.lastReport + 10 * msSteps ≤ s.now + dt →
      s.treeReports.all (fun e => e.2.converged) = true → (s.tick dt).localReady = true →
    Completes (exec (.reportQuietTimeout dt) s) (fun t => t.get LXS_STATUS.PHASE = 5 ∧ ∀ id ∈ tkeys s.treeReports,
      s.lxs.told.contains id = false → thas s.lxs.stations id = false → t.lxs.assigns.any (fun a => a.id == id) = true)) ∧
  (∀ (dt j id station epoch lfn : Nat) (valid : Bool) (s : State), s.live = true → j < 4 → s.lxState j = lxUp → s.lxParent = some j →
    Completes (exec (.assign dt j id station valid epoch lfn) s) (fun t =>
      t.lxs.assigns = s.lxs.assigns ++ [⟨id, station, valid, epoch, lfn, s.lxStarted⟩] ∧
      ∀ k ∈ s.childPorts, Sends k 3 4 [id, station + boolNat valid * 2 ^ 12 + epoch * 2 ^ 32, lfn] s t)) ∧
  (∀ (dt j devices spares : Nat) (s : State), s.live = true → j < 4 → s.lxState j = lxUp → s.lxParent = some j →
    Completes (exec (.readyAll dt j devices spares) s) (fun t => t.lxs.readyAll = true ∧ t.get LXS_COUNT.DEVICES = devices % 2 ^ 13 ∧
      t.get LXS_COUNT.SPARES = spares % 2 ^ 13 ∧
      ∀ k ∈ s.childPorts, Sends k 3 5 [devices % 8192 + spares % 8192 * 2 ^ 16] s t)) ∧
  (∀ (dt : Nat) (s : State), s.live = true → s.cfg.safeIdle = false → s.isMember = true →
    Completes (exec (.lxsPromote dt) s) (fun t =>
      if s.isRoot = false then t.get LXS_PROMOTE_STATUS.RESULT = 2 ∧ t.lxs = s.lxs
      else if s.spareIds.contains (s.rdN LXS_PROMOTE_ID_LO + s.get LXS_PROMOTE_ID_HI.ID_HIGH * 2 ^ 32) = false then
        t.get LXS_PROMOTE_STATUS.RESULT = 3 ∧ t.lxs = s.lxs
      else if s.stationKnown (s.get LXS_PROMOTE.STATION) = false then t.get LXS_PROMOTE_STATUS.RESULT = 4 ∧ t.lxs = s.lxs
      else if s.lxs.promoting then t.get LXS_PROMOTE_STATUS.RESULT = 5 ∧ t.lxs = s.lxs
      else t.lxs.promoting = true ∧ ∃ a ∈ t.lxs.assigns, a.id = s.rdN LXS_PROMOTE_ID_LO + s.get LXS_PROMOTE_ID_HI.ID_HIGH * 2 ^ 32 ∧
        a.station = s.get LXS_PROMOTE.STATION ∧ a.valid = true ∧ a.promo = true)) ∧
  (∀ (dt station id : Nat) (s : State), s.live = true → s.isRoot = true → bitAt (lxsFlags s.lxsCfg) 2 = true → s.lxs.promoting = false →
      s.stationKnown station = true → s.stationPresent station = false →
      (tfind s.lxs.gone station).any (fun a => decide (a + 100 * msSteps ≤ s.now + dt)) = true → s.spareIds.head? = some id →
    Completes (exec (.autoPromote dt station) s) (fun t => t.lxs.promoting = true ∧
      ∃ a ∈ t.lxs.assigns, a.id = id ∧ a.station = station ∧ a.valid = true ∧ a.promo = true))

/-- Laxus time and the roles of a link (R342 to R344). -/
def Obligations.LaxusTimeAndRoles : Prop :=
  (∀ (dt j time sub ph lfn late : Nat) (off : Int) (s : State), s.live = true → j < 4 → s.lxState j = lxUp → s.lxParent = some j →
      s.isRoot = false →
    Completes (exec (.time dt j time sub ph lfn late off) s) (fun t =>
      t.lxs.time48 = time * 65536 + sub + ps48 (s.get (LXS_PORT_DELAY.LINK_PS j) + late * 250) ∧ t.lxs.timeAt = s.now + dt ∧
      t.tim.sysBase = t.lxs.time48 / 65536 % 2 ^ 64 ∧ t.tim.sysT0 = s.now + dt ∧
      (s.lxs.setOnce = false → s.flag HIF_STATUS.STARTUP_DONE = false → t.lxs.setOnce = true ∧ t.tim.lfn = t.lxs.timeLfn ∧
        t.get TIM_DPLL_STATUS.STATE = dpllAcquire) ∧
      (s.lxs.setOnce = true → t.tim.lfn = s.tim.lfn ∧ t.get LXS_TIME_ERR.OFFSET = uns 16 (clampI (-32768) 32767 off) ∧
        t.lxs.calm = (if off.natAbs ≤ 500 then s.lxs.calm + 1 else 0) ∧
        (off.natAbs ≤ 500 → 15 ≤ s.lxs.calm → t.flag LXS_STATUS.CONVERGED = true)))) ∧
  (∀ (dt j t2 : Nat) (s : State), s.live = true → j < 4 → s.lxState j = lxUp →
    Completes (exec (.delayReq dt j t2) s) (fun t => Sends j 1 8 [t2 / 65536 % 2 ^ 64, 0, t2 % 65536] s t)) ∧
  (∀ (dt j t1 t2 t3 t4 : Nat) (s : State), s.live = true → j < 4 → s.lxState j = lxUp →
    Completes (exec (.delayResp dt j t1 t2 t3 t4) s) (fun t => t.get (LXS_PORT_DELAY.LINK_PS j) =
      min (fdiv (((((t4 : Int) - t1) - ((t3 : Int) - t2)) / 2) * 1000000000000) (2 ^ 48)).toNat (2 ^ 24 - 1) ∧ t.lxs = s.lxs)) ∧
  (∀ (dt j op id prio : Nat) (s : State), s.live = true → j < 4 → s.lxState j = lxUp →
    Completes (exec (.role dt j op id prio) s) (fun t =>
      (op = 1 → (t.lxPort j).answer = (if (s.lxPort j).asked && keyLess (s.get LXS_CTRL.PRIORITY) s.uid prio id then 3 else 2) ∧
        t.lxs.swap = s.lxs.swap) ∧
      (op = 2 → (s.lxPort j).asked = true → t.lxs.swap = some j ∧ (t.lxPort j).asked = false) ∧
      (op = 3 → t.lxs.swap = s.lxs.swap ∧ (t.lxPort j).asked = false))) ∧
  (∀ (dt j id : Nat) (s : State), s.live = true → j < 4 → s.lxState j = lxUp →
    Completes (exec (.handover dt j id) s) (fun t => t.lxs.handover = some (id, j) ∧
      ∀ p, s.lxParent = some p → s.isRoot = false → Sends p 3 0x10 [id] s t)) ∧
  (∀ (dt p : Nat) (s : State), s.live = true → s.cfg.safeIdle = false → s.get LXS_STATUS.PHASE = 6 → s.isRoot = false → s.lxParent = some p →
    Completes (exec (.lxsTakeRoot dt) s) (fun t => t.lxs.handover = some (s.uid, 7) ∧ Sends p 3 0x10 [s.uid] s t))

/-- Drop notices go on once; remote reads are routed, served or refused, answered and timed out; bindings are checked, made and removed
(R128, R351 to R353). -/
def Obligations.DropsRemoteReadsAndBindings : Prop :=
  (∀ (dt j tag group cause origin seq : Nat) (s : State), s.live = true → j < 4 → s.lxState j = lxUp →
    Completes (exec (.drop dt j tag group cause origin seq) s) (fun t =>
      if s.lxs.drops.any (fun e => e.1 == origin * 2 ^ 16 + seq && decide (s.now + dt < e.2 + msSteps)) then t.lxs = s.lxs ∧ t.cmp = s.cmp
      else t.lxs.drops = s.lxs.drops.filter (fun e => decide (s.now + dt < e.2 + msSteps)) ++ [(origin * 2 ^ 16 + seq, s.now + dt)] ∧ (∃ d, t.cmp.drops = s.cmp.drops ++ [d] ∧ d.tag = tag ∧ d.group = group) ∧
        ∀ k ∈ s.upPorts, k ≠ j → Sends k 2 0x0C [dropWord tag group cause origin seq] s t)) ∧
  (∀ (dt j dest src ctx tag size seq off slack : Nat) (s : State), s.live = true → j < 4 → s.lxState j = lxUp →
    Completes (exec (.readReq dt j dest src ctx tag size seq off slack) s) (fun t => Sends j 3 0x11 [1 + 0 * 2 ^ 16] s t ∧
      (∀ k, s.ownDevice ≠ some dest → s.nextHop dest = some k → k ≠ j → t.mem = s.mem ∧ Sends k 5 0x0D
        [dest % 4096 + src % 4096 * 2 ^ 12 + ctx % 1024 * 2 ^ 24 + tag % 2 ^ 17 * 2 ^ 34 + size % 4 * 2 ^ 51 + seq % 256 * 2 ^ 53,
         off % 2 ^ 36 + slack % 65536 * 2 ^ 36] s t) ∧
      (∀ h, s.ownDevice = some dest → s.exportDpa off src ctx = none → s.nextHop src = some h → t.mem = s.mem ∧
        Sends h 4 0x0E [src % 4096 + tag % 2 ^ 17 * 2 ^ 12 + seq % 256 * 2 ^ 29 + 1 * 2 ^ 37] s t) ∧
      (∀ dpa ks, s.ownDevice = some dest → s.exportDpa off src ctx = some dpa →
        ks = (idxWhere 1024 (fun k => !(s.engineReqs (44 + seq % 2)).any (fun r => r.index == k))).take (2 ^ min 2 size) →
        ks.length = 2 ^ min 2 size →
        tfind t.lxs.serves ((44 + seq % 2) * 1024 + nthD ks 0 0) =
          some ⟨src, tag, seq, dpa, 64 * 2 ^ min 2 size, 44 + seq % 2, ks, false⟩ ∧
        ∃ l, t.mem.reqs = s.mem.reqs ++ l ∧ l.map (·.index) = ks ∧
          l.map (·.addr) = (List.range (2 ^ min 2 size)).map (fun i => dpa + 64 * i) ∧
          ∀ r ∈ l, r.engine = 44 + seq % 2 ∧ r.len = 64 ∧ r.write = false ∧ r.realTime = true ∧
            r.deadline = some (s.now + dt + 400 * slack)))) ∧
  (∀ (dt j dest tag seq status : Nat) (words : List Nat) (r : RemoteRead) (s : State), s.live = true → j < 4 → s.lxState j = lxUp →
      s.ownDevice = some dest → tfind s.lxs.reads tag = some r →
    Completes (exec (.readResp dt j dest tag seq status words) s) (fun t =>
      if r.seq = seq then thas t.lxs.reads tag = false ∧ (∀ q ∈ t.mem.reqs, ¬ (q.engine = r.engine ∧ q.index = r.index)) ∧
        (status = 1 → Raised 0x0F03 s t)
      else t.lxs.reads = s.lxs.reads ∧ t.mem = s.mem)) ∧
  (∀ (dt tag : Nat) (r : RemoteRead) (s : State), s.live = true → tfind s.lxs.reads tag = some r → r.time + 100 * usSteps ≤ s.now + dt →
    Completes (exec (.remoteReadTimeout dt tag) s) (fun t => thas t.lxs.reads tag = false ∧
      (∀ q ∈ t.mem.reqs, ¬ (q.engine = r.engine ∧ q.index = r.index)) ∧ Raised 0x0F03 s t)) ∧
  (∀ (dt b : Nat) (s : State), s.live = true → s.cfg.safeIdle = false → b < 1024 →
    Completes (exec (.lxsExportBind dt b) s) (fun t => t.get LXS_EXPORT_STATUS.BUSY = 0 ∧
      match tfind s.hif.grants (s.rdN LXS_EXPORT_HANDLE) with
      | none => t.get LXS_EXPORT_STATUS.RESULT = 2 ∧ t.lxs = s.lxs ∧ t.mem = s.mem
      | some g =>
        if g.owner ≠ s.get LXS_EXPORT_SRC.CTX ∨ g.grantee ≠ s.get LXS_CTRL.EXPORT_CTX then
          t.get LXS_EXPORT_STATUS.RESULT = 2 ∧ t.lxs = s.lxs ∧ t.mem = s.mem
        else if s.get LXS_EXPORT_PAGES.PAGES = 0 ∨ 65536 < s.get LXS_EXPORT_PAGES.PAGES ∨
            g.pages.length < s.get LXS_EXPORT_OFFSET.OFFSET + s.get LXS_EXPORT_PAGES.PAGES ∨
            2 ^ 20 < s.get LXS_EXPORT_PAGE.PAGE + s.get LXS_EXPORT_PAGES.PAGES then
          t.get LXS_EXPORT_STATUS.RESULT = 3 ∧ t.lxs = s.lxs ∧ t.mem = s.mem
        else if thas s.lxs.bindings b then t.get LXS_EXPORT_STATUS.RESULT = 4 ∧ t.lxs = s.lxs ∧ t.mem = s.mem
        else s.mem.exports = [] → s.lxs.bindings = [] → t.get LXS_EXPORT_STATUS.RESULT = 1 ∧
          (tfind t.lxs.bindings b).map (fun x => (x.page, x.count, x.handle)) =
            some (s.get LXS_EXPORT_PAGE.PAGE, s.get LXS_EXPORT_PAGES.PAGES, s.rdN LXS_EXPORT_HANDLE))) ∧
  (∀ (dt b : Nat) (s : State), s.live = true → s.cfg.safeIdle = false → b < 1024 →
    Completes (exec (.lxsExportUnbind dt b) s) (fun t => t.get LXS_EXPORT_STATUS.BUSY = 0 ∧ thas t.lxs.bindings b = false ∧
      t.get LXS_EXPORT_STATUS.RESULT = (if thas s.lxs.bindings b then 1 else 5)))

/-- The commit round: the root prepares it, every device votes with its children's votes, the root decides, and a device without a
decision in time loses the round (R348 to R350). -/
def Obligations.TheCommitRound : Prop :=
  (∀ (dt : Nat) (s : State), s.live = true → s.isRoot = true → s.get LXS_STATUS.PHASE = 5 ∨ s.get LXS_STATUS.PHASE = 6 →
      (s.tick dt).within 500 = true → s.roundRuns = false →
    Completes (exec (.prepareSend dt) s) (fun t => t.round.target = some s.nextLfn ∧ t.round.votes = [] ∧ t.round.own = none ∧
      t.round.decision = none ∧ ∀ k ∈ s.childPorts, Sends k 2 9 [s.nextLfn] s t)) ∧
  (∀ (dt j target : Nat) (s : State), s.live = true → j < 4 → s.lxState j = lxUp → s.lxParent = some j →
    Completes (exec (.prepare dt j target) s) (fun t => t.round.target = some target ∧ t.round.votes = [] ∧ t.round.sent = false ∧
      ∀ k ∈ s.childPorts, Sends k 2 9 [target % 2 ^ 32] s t)) ∧
  (∀ (dt : Nat) (s : State), s.live = true → s.roundRuns = true → (s.tick dt).within 100 = true → s.round.own = none →
    Completes (exec (.votePoint dt) s) (fun t => t.round.ready = (s.tick dt).readyCommits s.nextLfn (fun _ => true) ∧
      t.round.own = some ((s.tick dt).ownVote t.round.ready) ∧
      (∀ p, s.isRoot = false → s.round.sent = false → s.lxParent = some p → s.childPorts = [] → t.round.sent = true ∧ ∃ l, Sends p 2 0x0A l s t))) ∧
  (∀ (dt j target rbPend rbReady ready pend admits : Nat) (part : Bool) (s : State), s.live = true → j < 4 → s.lxState j = lxUp →
      s.flag (LXS_PORT_STATE.CHILD j) = true →
    Completes (exec (.vote dt j target rbPend rbReady part ready pend admits) s) (fun t =>
      if s.round.target = some target ∧ s.round.sent = false then tfind t.round.votes j = some ⟨rbPend, rbReady, ready, pend, admits, part⟩
      else t.lxs = s.lxs)) ∧
  (∀ (dt p : Nat) (s : State), s.live = true → s.roundRuns = true → s.isRoot = false → s.lxParent = some p → s.round.sent = false →
      s.round.own.isSome = true → s.nextBoundary - 60 * usSteps - s.get LXS_STATUS.DEPTH * s.hopPs / 250 ≤ s.now + dt →
    Completes (exec (.voteDeadline dt) s) (fun t => t.round.sent = true ∧ (∃ l, Sends p 2 0x0A l s t) ∧
      ((∃ k ∈ s.childPorts, thas s.round.votes k = false) →
        t.get LXS_COMMIT.PARTIAL = (s.get LXS_COMMIT.PARTIAL + 1) % 2 ^ 16))) ∧
  (∀ (dt : Nat) (v : Vote) (s : State), s.live = true → s.isRoot = true → s.roundRuns = true → s.round.decision = none → s.joint = some v →
      s.holdsVotes = true ∨ (s.tick dt).within 60 = true →
    Completes (exec (.rootDecide dt) s) (fun t => t.round.decision = some (s.decideRound v) ∧ t.round.lastApply = (s.decideRound v).apply ∧
      t.round.missed = 0 ∧ ∀ k ∈ s.childPorts, Sends k 2 0x0B (decisionWords (s.decideRound v)) s t)) ∧
  (∀ (dt j target rbApply apply admits prev : Nat) (s : State), s.live = true → j < 4 → s.lxState j = lxUp → s.lxParent = some j →
      s.round.decision = none → s.round.lost = false →
    Completes (exec (.decision dt j target rbApply apply admits prev) s) (fun t =>
      (if target = s.nextLfn ∧ s.now + dt ≤ s.decisionInstant then
        t.round.decision = some ⟨target, rbApply, apply, admits, prev⟩ ∧ t.round.missed = 0
      else t.round = s.round) ∧
      ∀ k ∈ s.childPorts, Sends k 2 0x0B (decisionWords ⟨target, rbApply, apply, admits, prev⟩) s t)) ∧
  (∀ (dt : Nat) (s : State), s.live = true → s.joined = true → (s.tick dt).within 20 = true → s.round.decision = none → s.round.lost = false →
    Completes (exec (.commitRoundLost dt) s) (fun t => t.round.lost = true ∧ t.round.missed = s.round.missed + 1 ∧
      t.get LXS_COMMIT.LOST = (s.get LXS_COMMIT.LOST + 1) % 2 ^ 16 ∧ Raised 0x0807 s t ∧
      (1 ≤ s.round.missed → ∀ c x, s.cm c = some x → x.admitted = true → s.aonOf (s.cmGroup c) = true → t.cm c = none)))

/-! ### Schedules and array ports (spec/09, spec/10) -/

/-- Events reach their engines in time, or are discarded or fired; compiles start and end; static cadence and replay are entered
(R18, R219, R226 to R228, R232 to R234). -/
def Obligations.EventsCompilesAndCadence : Prop :=
  (∀ (dt i : Nat) (e : FabEvent) (s : State), s.live = true → s.lan.coreStopped = false → s.withheld (s.feederOf e).1 (s.feederOf e).2 = false →
      s.feederOff (s.feederOf e).1 (s.feederOf e).2 = false → lfnAfter s.tim.lfn e.lfn = false → s.eventInstant e = some i →
    Completes (exec (.eventDelivery dt e) s) (fun t =>
      (i < s.now + dt + 2 * usSteps → e.kind.adds = true → t.seq = s.seq ∧ Raised 0x0402 s t ∧
        t.get SEQ_LATE.COUNT = (s.get SEQ_LATE.COUNT + 1) % 2 ^ 32 ∧
        (e.kind = .planeLoad ∨ e.kind = .reset ∨ e.kind = .gateRise ∨ e.kind = .step → readyKey e.unit_ e.slot e.lfn ∈ t.apt.suppressed)) ∧
      (i < s.now + dt + 2 * usSteps → e.kind.adds = false → t.seq.fab = s.seq.fab ∧
        (∀ g, e.kind = .gateFall → tfind s.lmp.gates e.line = some g → g.output = e.unit_ → g.slot = e.slot →
          thas t.lmp.gates e.line = false ∧ OutMsg.gate e.line false ∈ t.out) ∧
        (e.kind = .scanClose → (t.engine e.unit_).windowOpen = false)) ∧
      (s.now + dt + 2 * usSteps ≤ i → s.seq.fab.contains e = false →
        (s.seq.fab.filter (fun x => x.kind == e.kind && x.unit_ == e.unit_)).length < 4096 → t.seq.fab = s.seq.fab ++ [e] ∧ t.regs = s.regs))) ∧
  (∀ (dt o : Nat) (q : Nat × Nat) (s : State), s.live = true → s.lan.coreStopped = false → s.seq.queue.find? (fun q => q.1 == o) = some q →
      s.seq.running.any (fun j => j.out == o) = false →
    Completes (exec (.compileStart dt o) s) (fun t => t.seq.queue = s.seq.queue.erase q ∧ t.flag SEQ_SCHED_STATUS.BUSY = true ∧
      ∃ j, t.seq.running = s.seq.running ++ [j] ∧ j.out = o ∧ j.kind = q.2 ∧ j.start = s.now + dt)) ∧
  (∀ (dt o : Nat) (j : CompJob) (s : State), s.live = true → s.lan.coreStopped = false → o < 20 → s.seq.running.find? (fun j => j.out == o) = some j →
    Completes (exec (.compileDone dt o) s) (fun t =>
      (s.jobHolds j = false → (o, j.kind) ∈ t.seq.queue ∨ ∃ x ∈ t.seq.running, x.out = o ∧ x.kind = j.kind) ∧
      (s.jobHolds j = true → ∀ r, compile j.inp = .ok r →
        tfind t.seq.done (jobKey o j.kind) = some ⟨j.inp, r, s.now + dt⟩ ∧ (∀ x ∈ t.seq.running, x.out ≠ o) ∧
        (j.kind = 2 → o ∉ t.cfg.reloadCompiles)) ∧
      (s.jobHolds j = true → ∀ e, compile j.inp = .error e →
        tfind t.seq.rejected (jobKey o j.kind) = some j.inp ∧ t.get (SEQ_OUT_ERR.CODE o) = e.1 % 2 ^ 8 ∧ Raised 0x0401 s t ∧
          (∀ x ∈ t.seq.running, x.out ≠ o) ∧ (j.kind = 2 → t.cfg.reload = [])))) ∧
  (∀ (dt o : Nat) (s : State), s.live = true → o < 16 → s.staticAllowed o = true → s.passQueued o = false → s.flag (SEQ_OUT_SCHED.STATIC o) = false →
      s.actGet (SEQ_OUT_CTRL.STATIC_DELAY o) ≤ tget 0 s.seq.stillLfs o →
    Completes (exec (.staticEnter dt o) s) (fun t => o ∈ t.seq.staticStart ∧ t.regs = s.regs)) ∧
  (∀ (dt o : Nat) (s : State), s.live = true → o < 16 → s.replayOk o = true → 8 ≤ tget 0 s.seq.replayLfs o →
      s.flag (SEQ_OUT_SCHED.REPLAYING o) = false → s.seq.replayStart.contains o = false →
    Completes (exec (.replayEnter dt o) s) (fun t => t.seq.replayStart = s.seq.replayStart ++ [o] ∧ t.regs = s.regs))

/-- One microsecond before a load the lead port decides which blocks are ready, and the others are substituted with one event; the
load, its reset instant and a TE_IN edge follow it (R240, R241, R244 to R247). -/
def Obligations.LoadsFollowTheNeverStartRule : Prop :=
  (∀ (dt o slot lfn te done i : Nat) (x : Sched) (e : Slot) (s : State), s.live = true → o < 16 → s.runSched o = some x →
      s.eventInstant ⟨.planeLoad, lfn, o, slot, 0⟩ = some i → lfn = s.tim.lfn ∨ lfn = (s.tim.lfn + 1) % 2 ^ 32 → i ≤ s.now + dt + usSteps →
      thas s.apt.ready (readyKey o slot lfn) = false → (x.slotsAt lfn)[slot]? = some e →
    Completes (exec (.loadDeadline dt o slot lfn te done) s) (fun t =>
      ((s.tim.darkLf = true ∧ lfn = s.tim.lfn) ∨ slotPlane e lfn = none → tfind t.apt.ready (readyKey o slot lfn) = some 0 ∧ readyKey o slot lfn ∈ t.apt.suppressed) ∧
      (∀ plane, s.tim.darkLf = false ∨ lfn ≠ s.tim.lfn → slotPlane e lfn = some plane → s.flag (SEQ_OUT_SCHED.REPLAYING o) = true →
        t.apt = s.apt ∧ t.out = s.out) ∧
      (∀ plane, s.tim.darkLf = false ∨ lfn ≠ s.tim.lfn → slotPlane e lfn = some plane → s.flag (SEQ_OUT_SCHED.REPLAYING o) = false →
        tfind t.apt.ready (readyKey o slot lfn) = some ((s.tick dt).readyBlocks o slot lfn e.set plane te done) ∧
        ((s.tick dt).readyBlocks o slot lfn e.set plane te done = 2 ^ mechBlocks (s.mechOf o) - 1 → t.apt.suppressed = s.apt.suppressed) ∧
        ((s.tick dt).readyBlocks o slot lfn e.set plane te done < 2 ^ mechBlocks (s.mechOf o) - 1 → s.portsOf o ≠ [] →
          readyKey o slot lfn ∈ t.apt.suppressed ∧ Raised 0x0501 s t)))) ∧
  (∀ (dt o slot : Nat) (s : State), s.live = true → s.lan.coreStopped = false → o < 16 → (s.tick dt).eventDue ⟨.planeLoad, s.tim.lfn, o, slot, 0⟩ = true →
    Completes (exec (.planeLoadStart dt o slot []) s) (fun t => t.seq.fab = s.seq.fab.erase ⟨.planeLoad, s.tim.lfn, o, slot, 0⟩ ∧
      (tget 0 s.apt.ready (readyKey o slot s.tim.lfn) = 0 → t.apt = s.apt ∧ t.out = s.out) ∧
      (∀ x p, s.slotNow o slot = some x → slotPlane x s.tim.lfn = some p → s.flag (SEQ_OUT_SCHED.REPLAYING o) = false →
        tget 0 s.apt.ready (readyKey o slot s.tim.lfn) ≠ 0 → (tfind t.apt.loading o).map (·.1) = some slot))) ∧
  (∀ (dt o slot : Nat) (s : State), s.live = true → (s.tick dt).eventDue ⟨.reset, s.tim.lfn, o, slot, 0⟩ = true →
    Completes (exec (.mirrorReset dt o slot) s) (fun t => t.seq.fab = s.seq.fab.erase ⟨.reset, s.tim.lfn, o, slot, 0⟩ ∧
      thas t.apt.loading o = false)) ∧
  (∀ (dt line : Nat) (s : State), s.live = true → line < 16 →
    Completes (exec (.teInClose dt line) s) (fun t =>
      (∀ p < 16, s.flag (APT_PORT_CFG.TE_PIN p) = true → s.get (APT_PORT_CFG.TE_INDEX p) = line → t.flag (APT_PORT_STATE.TE_OPEN p) = false) ∧
      (∀ o slot stop, s.teOutput line = some o → tfind s.apt.loading o = some (slot, stop) → s.now + dt < stop →
        ∀ k ≤ slot, readyKey o k s.tim.lfn ∈ t.apt.cuts)))

/-- A report clears BC_LOST and says what Table APT-6 gives it; none for 10 ms sets it (R249 to R251, R253). -/
def Obligations.TheBackChannelReports : Prop :=
  (∀ (dt p band temp : Nat) (s : State), s.live = true → s.bcUp p = true → band < 8 →
    Completes (exec (.bcTemp dt p band temp) s) (fun t => t.get (APT_PORT_TEMP.TEMP p) = temp % 2 ^ 16 ∧ t.get (APT_PORT_TEMP.AGE_MS p) = 0 ∧
      (t.port p).band = band ∧ t.flag (APT_PORT_STATE.BC_LOST p) = false ∧ (t.port p).reportTime = s.now + dt)) ∧
  (∀ (dt p : Nat) (open_ : Bool) (s : State), s.live = true → s.bcUp p = true →
    Completes (exec (.bcTe dt p open_) s) (fun t => t.flag (APT_PORT_STATE.BC_LOST p) = false ∧
      t.flag (APT_PORT_STATE.TE_OPEN p) = (if s.flag (APT_PORT_CFG.TE_PIN p) then s.flag (APT_PORT_STATE.TE_OPEN p) else open_))) ∧
  (∀ (dt p code block : Nat) (s : State), s.live = true → s.bcUp p = true →
    Completes (exec (.bcError dt p code block) s) (fun t => t.flag (APT_PORT_STATE.BC_LOST p) = false ∧
      t.get (APT_PORT_ARRAY_ERR.CODE p) = code % 2 ^ 8 ∧ t.get (APT_PORT_ARRAY_ERR.BLOCK p) = block % 2 ^ 6 ∧
      t.get (APT_PORT_ARRAY_ERR.COUNT p) = (s.get (APT_PORT_ARRAY_ERR.COUNT p) + 1) % 2 ^ 16 ∧ Raised 0x0502 s t)) ∧
  (∀ (dt p stuck : Nat) (s : State), s.live = true → s.bcUp p = true →
    Completes (exec (.bcHealth dt p stuck) s) (fun t => t.get (APT_PORT_HEALTH.STUCK p) = stuck % 2 ^ 24 ∧
      (if s.get (APT_PORT_HEALTH.STUCK p) < stuck % 2 ^ 24 then Raised 0x0506 s t else t.int = s.int))) ∧
  (∀ (dt p vendor model firmware rows cols : Nat) (s : State), s.live = true → s.bcUp p = true →
    Completes (exec (.bcStatus dt p vendor model firmware rows cols) s) (fun t => t.get (APT_PORT_IDENT_LO.VENDOR p) = vendor % 2 ^ 16 ∧
      t.get (APT_PORT_IDENT_LO.MODEL p) = model % 2 ^ 16 ∧ t.get (APT_PORT_IDENT_HI.FIRMWARE p) = firmware % 2 ^ 32 ∧
      (t.port p).geom = some (rows, cols) ∧
      (if s.portState p = ptAlign ∧ (rows ≠ mechRows (s.mechOf (s.portArray p)) ∨ cols ≠ mechCols (s.mechOf (s.portArray p))) then
        t.portState p = ptFault ∧ t.get (APT_PORT_STATE.FAULT p) = 3 ∧ Raised 0x0505 s t
      else t.portState p = s.portState p))) ∧
  (∀ (dt p roundPs : Nat) (s : State), s.live = true → s.bcUp p = true → s.portState p = ptAlign →
    Completes (exec (.bcEcho dt p roundPs) s) (fun t => (t.port p).echoed = true ∧
      t.get (APT_PORT_DELAY.CHANNEL_PS p) = min ((roundPs - pcTurnNs s.portCfg p * 1000) / 2) 65535)) ∧
  (∀ (dt p highest : Nat) (s : State), s.live = true → s.bcUp p = true →
    Completes (exec (.bcEpoch dt p highest) s) (fun t => t.get (APT_PORT_EPOCH.HIGHEST p) = highest % 2 ^ 32 ∧
      t.flag (APT_PORT_STATE.STALE p) = decide (s.ownEpoch < highest % 2 ^ 32) ∧
      (s.ownEpoch < highest % 2 ^ 32 → s.flag (APT_PORT_STATE.STALE p) = false → Raised 0x0504 s t))) ∧
  (∀ (dt p : Nat) (s : State), s.live = true → s.bcUp p = true → s.flag (APT_PORT_STATE.BC_LOST p) = false →
      (s.port p).reportTime + 10 * msSteps ≤ s.now + dt →
    Completes (exec (.bcLost dt p) s) (fun t => t.flag (APT_PORT_STATE.BC_LOST p) = true ∧ Raised 0x0503 s t)) ∧
  (∀ (dt p l : Nat) (s : State), s.live = true → s.cfg.safeIdle = false → s.portExists p = true →
      s.portState p = ptRun ∨ s.portState p = ptAlign → s.laneOf p 0 = some l →
    Completes (exec (.aptStatusRequest dt p) s) (fun t => t.regs = s.regs ∧
      t.out = s.out ++ [.arrayCmd p l opStatusReq [opStatusReq + s.get (APT_PORT_CTRL.REPORTS p) * 2 ^ 16]]))

/-- Ports train, align, run, fault and retrain as Table APT-8 says (R254 to R256). -/
def Obligations.ArrayPortStates : Prop :=
  (∀ (dt p : Nat) (s : State), s.live = true → s.portExists p = true → s.portState p = ptTrain → s.lanesTrained p = true →
    Completes (exec (.portTrained dt p) s) (fun t => t.portState p = ptAlign ∧ (t.port p).attempts = 0 ∧ (t.port p).echoed = false ∧
      (t.port p).geom = none ∧ (t.port p).since = s.now + dt)) ∧
  (∀ (dt p : Nat) (s : State), s.live = true → s.portExists p = true → s.portState p = ptAlign →
      mechBack (s.mechOf (s.portArray p)) = false ∨ ((s.port p).echoed = true ∧
        (s.port p).geom = some (mechRows (s.mechOf (s.portArray p)), mechCols (s.mechOf (s.portArray p)))) →
    Completes (exec (.portAligned dt p) s) (fun t => t.portState p = ptRun ∧
      (mechBack (s.mechOf (s.portArray p)) = false → t.get (APT_PORT_DELAY.CHANNEL_PS p) = min (pcChannelNs s.portCfg p * 1000) 65535) ∧
      (thas s.seq.force (s.portArray p) = false → (t.port p).parked = true))) ∧
  (∀ (dt p : Nat) (s : State), s.live = true → s.portExists p = true → s.portState p = ptTrain → (s.port p).since + 40 * msSteps ≤ s.now + dt →
    Completes (exec (.portTrainTimeout dt p) s) (fun t => t.portState p = ptFault ∧ t.get (APT_PORT_STATE.FAULT p) = 1 ∧ Raised 0x0505 s t)) ∧
  (∀ (dt p : Nat) (s : State), s.live = true → s.portExists p = true → s.portState p = ptAlign → (s.port p).since + 2 * msSteps ≤ s.now + dt →
    Completes (exec (.portTrainTimeout dt p) s) (fun t =>
      if 2 ≤ (s.port p).attempts then t.portState p = ptFault ∧ t.get (APT_PORT_STATE.FAULT p) = 2 ∧ Raised 0x0505 s t
      else t.portState p = ptAlign ∧ (t.port p).attempts = (s.port p).attempts + 1 ∧ (t.port p).since = s.now + dt)) ∧
  (∀ (dt p : Nat) (s : State), s.live = true → s.portExists p = true → s.portState p = ptFault →
      (s.port p).since + 100 * msSteps ≤ s.now + dt →
    Completes (exec (.portFaultRetry dt p) s) (fun t => t.portState p = (if s.flag (APT_PORT_CTRL.AUTO_RETRY p) then ptTrain else ptFault))) ∧
  (∀ (dt p : Nat) (s : State), s.live = true → s.cfg.safeIdle = false → s.portExists p = true → s.portState p = ptRun →
      (s.port p).retrainDue = none →
    Completes (exec (.aptRetrainRequest dt p) s) (fun t =>
      (t.port p).retrainDue = some (if (s.tick dt).nextIsFar then s.nextBoundary else 0) ∧ (t.port p).decidedLfn = s.tim.lfn ∧
      (t.port p).asked = false ∧ t.portState p = ptRun)) ∧
  (∀ (dt p : Nat) (s : State), s.live = true → s.bcUp p = true → s.portState p = ptRun → (s.port p).retrainDue = none →
    Completes (exec (.bcRetrainReq dt p false) s) (fun t => (t.port p).asked = true ∧ (t.port p).retrainDue.isSome = true ∧
      t.flag (APT_PORT_STATE.BC_LOST p) = false)) ∧
  (∀ (dt p : Nat) (s : State), s.live = true → s.bcUp p = true → s.portState p = ptRun → 1 < s.activeWidth (s.portArray p) →
      thas s.seq.force (s.portArray p) = true → (∀ q ∈ s.portsOf (s.portArray p), (s.port q).narrow = false) →
    Completes (exec (.bcRetrainReq dt p true) s) (fun t => (t.port p).narrow = true ∧
      ((s.portArray p, 3) ∈ t.seq.queue ∨ ∃ x ∈ t.seq.running, x.out = s.portArray p ∧ x.kind = 3))) ∧
  (∀ (dt p : Nat) (s : State), s.live = true → s.portExists p = true → s.portState p = ptRetrain →
    Completes (exec (.portRetrainDone dt p) s) (fun t =>
      if s.lanesTrained p then t.portState p = ptRun
      else if (s.port p).since + 2 * msSteps ≤ s.now + dt then t.portState p = ptTrain ∧ t.get (APT_PORT_STATE.FAULT p) = 4
      else t.portState p = ptRetrain))

/-! ### Scan engines (spec/11) -/

/-- Engines start by the steps of Table SCN-5, stop, sweep, miss lines, emit in their windows, stall and restart (R259 to R275). -/
def Obligations.ScanEnginesStartSweepAndStall : Prop :=
  (∀ (dt n : Nat) (s : State), s.live = true → s.cfg.safeIdle = false → s.engineExists n = true →
      s.glb.hwClass = false ∨ s.get THM_STATUS.STATE = 3 → s.engineState n = enOff ∨ s.engineState n = enFault →
    Completes (exec (.scanStart dt n) s) (fun t => t.engineState n = enWake ∧ (t.engine n).slow = scSlowPark s.scanCfg n ∧
      (t.engine n).since = s.now + dt ∧ bitAt (t.rdN (THM_DOM_ON ((domScan + n) / 32))) ((domScan + n) % 32) = true)) ∧
  (∀ (dt n : Nat) (s : State), s.live = true → s.cfg.safeIdle = false → s.engineExists n = true → s.engineState n ≠ enOff →
      s.engineState n ≠ enStopping →
    Completes (exec (.scanStop dt n) s) (fun t => t.engineState n = enStopping ∧ (t.engine n).drive = [] ∧ (t.engine n).row = none ∧
      (t.engine n).slow = scSlowPark s.scanCfg n)) ∧
  (∀ (dt n : Nat) (s : State), s.live = true → n < 4 → s.engineState n = enWake →
    Completes (exec (.scanOffsetDone dt n) s) (fun t => t.engineState n = enSearch ∧
      t.get (SCN_ENG_EST_AMP.DRIVE_MV n) = scSust s.scanCfg n / 10 % 2 ^ 16)) ∧
  (∀ (dt n : Nat) (peak : Option Nat) (s : State), s.live = true → n < 4 → s.engineState n = enSearch →
    Completes (exec (.scanSearchDone dt n peak) s) (fun t => match peak with
      | some f => t.engineState n = enRamp ∧ t.get (SCN_ENG_EST_FREQ.FREQ n) = min f (2 ^ 24 - 1)
      | none => t.engineState n = enFault ∧ t.get (SCN_ENG_STATE.CAUSE n) = 5 ∧ Raised 0x0604 s t)) ∧
  (∀ (dt n amp mv : Nat) (reached : Bool) (s : State), s.live = true → n < 4 → s.engineState n = enRamp →
    Completes (exec (.scanRampDone dt n amp mv reached) s) (fun t => t.get (SCN_ENG_EST_AMP.AMP n) = min amp (2 ^ 13 - 1) ∧
      if reached then t.engineState n = enLocking
      else t.engineState n = enFault ∧ t.get (SCN_ENG_STATE.CAUSE n) = 6 ∧ Raised 0x0604 s t)) ∧
  (∀ (dt n : Nat) (s : State), s.live = true → n < 4 → s.engineState n = enLocking → (s.engine n).ready = false →
      1024 ≤ (s.engine n).lockRun →
    Completes (exec (.scanLockDone dt n) s) (fun t => (t.engine n).ready = true ∧ (t.engine n).since = s.now + dt ∧
      (t.engine n).slow = s.actGet (SCN_ENG_SLOW_A.SLOW_TOP n) ∧ t.regs = s.regs)) ∧
  (∀ (dt n : Nat) (s : State), s.live = true → n < 4 → s.engineState n = enStopping →
    Completes (exec (.scanBrakeDone dt n) s) (fun t => t.engineState n = enOff ∧ t.get (SCN_ENG_EST_AMP.DRIVE_MV n) = 0 ∧
      bitAt (t.rdN (THM_DOM_ON ((domScan + n) / 32))) ((domScan + n) % 32) = false)) ∧
  (∀ (dt n freq amp mv resid : Nat) (reverse : Bool) (s : State), s.live = true → s.engineExists n = true →
      s.engineState n ∈ [enRamp, enLocking, enRun, enStalled] →
    Completes (exec (.turningPoint dt n reverse freq amp mv resid) s) (fun t => t.engineState n = s.engineState n ∧
      t.get (SCN_ENG_EST_FREQ.FREQ n) = min freq (2 ^ 24 - 1) ∧ t.get (SCN_ENG_EST_AMP.AMP n) = min amp (2 ^ 13 - 1) ∧
      (t.engine n).lastTurn = s.now + dt ∧ (t.engine n).reverse = reverse ∧ (t.engine n).resid = max (s.engine n).resid resid ∧
      (∀ r, s.engineState n = enRun → (s.engine n).row = some r →
        (t.engine n).row = (if r + 1 < s.outH (16 + n) then some (r + 1) else none) ∧
        t.get (SCN_ENG_CANES.COUNT n) = (s.get (SCN_ENG_CANES.COUNT n) + (if (s.engine n).missed then 0 else 1)) % 2 ^ 32))) ∧
  (∀ (dt n x y : Nat) (s : State), s.live = true → s.engineExists n = true → (s.engine n).row = some y → x ≤ s.outW (16 + n) →
      (s.pixelCos n (s.outW (16 + n)) x).isSome = true →
    Completes (exec (.pixelEdge dt n x) s) (fun t => t.regs = s.regs ∧
      ((s.tick dt).scanLit n = false → (t.engine n).drive = []) ∧
      ((s.engine n).reverse = false → x = s.outW (16 + n) → (t.engine n).drive = []) ∧
      ((s.engine n).reverse = true → x = 0 → (t.engine n).drive = []) ∧
      ((s.tick dt).scanLit n = true → tfind (s.engine n).lines y = none → (t.engine n).drive = []) ∧
      (∀ cane, (s.tick dt).scanLit n = true → tfind (s.engine n).lines y = some cane → (s.engine n).reverse = false → x < s.outW (16 + n) →
        (s.pixelCos n (s.outW (16 + n)) (x + 1)).isSome = true → (t.engine n).drive.length = 4 ∧ t.out = s.out ++ [.scanOut n (t.engine n).drive]))) ∧
  (∀ (dt n : Nat) (s : State), s.live = true → s.engineExists n = true → s.engineState n = enRun → s.outExists (16 + n) = true →
    Completes (exec (.lineMiss dt n) s) (fun t => (t.engine n).missNext = true ∧
      t.get (SCN_ENG_LINE_MISSES.COUNT n) = (s.get (SCN_ENG_LINE_MISSES.COUNT n) + 1) % 2 ^ 32 ∧
      (if (s.engine n).missRaised then t.int = s.int else Raised 0x0602 s t))) ∧
  (∀ (dt n slot : Nat) (open_ : Bool) (s : State), s.live = true → n < 4 →
      (s.tick dt).eventDue ⟨if open_ then .scanOpen else .scanClose, s.tim.lfn, n, slot, 0⟩ = true →
    Completes (exec (.scanEnableEdge dt n slot open_) s) (fun t =>
      (open_ = true → (t.engine n).windowOpen = (!s.tim.darkLf || (s.engine n).windowOpen)) ∧
      (open_ = false → (t.engine n).windowOpen = false ∧ (t.engine n).drive = []) ∧
      t.seq.fab = s.seq.fab.erase ⟨if open_ then .scanOpen else .scanClose, s.tim.lfn, n, slot, 0⟩)) ∧
  (∀ (dt n cause : Nat) (s : State), s.live = true → s.engineExists n = true → s.engineState n = enRun → 1 ≤ cause → cause ≤ 4 →
    Completes (exec (.scanStall dt n cause) s) (fun t => t.engineState n = enStalled ∧ t.get (SCN_ENG_STATE.CAUSE n) = cause ∧
      (t.engine n).drive = [] ∧ (t.engine n).row = none ∧ t.get (SCN_ENG_STALLS.COUNT n) = (s.get (SCN_ENG_STALLS.COUNT n) + 1) % 2 ^ 16 ∧
      t.rdN (SCN_ENG_STALL_LFN n) = s.tim.lfn % 2 ^ 32 ∧ Raised 0x0601 s t)) ∧
  (∀ (dt n amp : Nat) (s : State), s.live = true → n < 4 → s.engineState n = enStalled → (s.engine n).since + msSteps ≤ s.now + dt →
    Completes (exec (.scanStallRestart dt n amp) s) (fun t =>
      if s.flag (SCN_ENG_CTRL.AUTO_RESTART n) = true ∧ ((s.engine n).stalls.filter (fun a => decide (s.now + dt < a + secSteps))).length < 3 then
        t.engineState n = (if s.ampRef n ≤ 10 * amp then enRamp else enSearch)
      else t.engineState n = enFault ∧ t.get (SCN_ENG_STATE.CAUSE n) = 7 ∧ Raised 0x0604 s t)) ∧
  (∀ (dt n since : Nat) (s : State), s.live = true → (s.engine n).limitSince = some since → since + 100 * msSteps ≤ s.now + dt →
    Completes (exec (.ampLimitEvent dt n) s) (fun t => if (s.engine n).limitRaised then t = s.tick dt
      else (t.engine n).limitRaised = true ∧ Raised 0x0603 s t))

/-! ### Light sources (spec/12) -/

/-- Gate pulses, current steps, chain latches and updates, fault clears and reference samples (R282 to R287, R294, R295). -/
def Obligations.ChainsStepLatchAndGatesPulse : Prop :=
  (∀ (dt o slot line : Nat) (x : Slot) (s u : State), s.live = true → u = s.tick dt → o < 16 → u.slotNow o slot = some x → x.dark = false →
      (u.linesOf o x.prim).contains line = true → u.eventDue ⟨.gateRise, s.tim.lfn, o, slot, line⟩ = true →
      (x.late = true → u.phaseInstant (x.light + x.len) ≤ u.now + u.pulseSteps line x.n) →
    Completes (exec (.gateEdge dt o slot line true) s) (fun t =>
      t.seq.fab = s.seq.fab.erase ⟨.gateRise, s.tim.lfn, o, slot, line⟩ ∧
      if u.mayLight o slot = false ∨ thas s.lmp.gates line = true then t.lmp = s.lmp ∧ t.out = s.out ∧ t.regs = s.regs
      else if u.pulseSteps line x.n < 8 ∨ u.phaseInstant (x.light + x.len) < u.now + u.pulseSteps line x.n then
        t.lmp = s.lmp ∧ t.out = s.out ∧ t.get LMP_STATUS.OMITTED = (s.get LMP_STATUS.OMITTED + 1) % 2 ^ 32
      else tfind t.lmp.gates line = some ⟨s.now + dt, x.n, o, slot⟩ ∧ t.out = s.out ++ [.gate line true] ∧ t.regs = s.regs)) ∧
  (∀ (dt o slot line : Nat) (g : GateSt) (s : State), s.live = true → tfind s.lmp.gates line = some g → g.output = o → g.slot = slot →
      g.start + (s.tick dt).pulseSteps line g.n ≤ s.now + dt ∨ (s.tick dt).eventDue ⟨.gateFall, s.tim.lfn, o, slot, line⟩ = true →
    Completes (exec (.gateEdge dt o slot line false) s) (fun t => tfind t.lmp.gates line = none ∧ t.out = s.out ++ [.gate line false] ∧
      (∀ k, k ≠ line → tfind t.lmp.gates k = tfind s.lmp.gates k) ∧ t.regs = s.regs)) ∧
  (∀ (dt o slot : Nat) (x : Slot) (s : State), s.live = true → (s.tick dt).slotNow o slot = some x →
      (s.tick dt).eventDue ⟨.step, s.tim.lfn, o, slot, 0⟩ = true →
    Completes (exec (.currentStep dt o slot) s) (fun t =>
      (s.tim.darkLf = true → t.lmp = s.lmp ∧ t.out = s.out) ∧
      (s.tim.darkLf = false → tfind t.lmp.steps o = some x.cstep ∧
        t.out = s.out ++ ((s.chainsOf o).filter (fun c => s.chainState c != chOff)).map (fun c => .chainFrame c 2 (o * 16 + x.cstep))) ∧
      t.seq.fab = s.seq.fab.erase ⟨.step, s.tim.lfn, o, slot, 0⟩ ∧ t.regs = s.regs)) ∧
  (∀ (dt c : Nat) (x : UpdSt) (s : State), s.live = true → c < 4 →
      (s.tick dt).eventDue ⟨.latch, s.tim.lfn, c, 0, 0⟩ = true → (s.chain c).upd = some x →
    Completes (exec (.chainLatch dt c) s) (fun t => t.seq.fab = s.seq.fab.erase ⟨.latch, s.tim.lfn, c, 0, 0⟩ ∧
      if x.ended = true ∧ x.ok = true then (t.chain c).upd = none ∧ t.out = s.out ++ [.chainFrame c 1 x.seq] ∧
        t.get (LMP_CHAIN_LAST_LATCH.LFN c) = s.tim.lfn % 2 ^ 32 ∧
        t.lmp.duty = x.duty.foldl (fun d e => tset d e.1 e.2) s.lmp.duty ∧ t.lmp.gamma = x.gamma.foldl (fun d e => tset d e.1 e.2) s.lmp.gamma ∧
        t.col.light = x.light.foldl (fun d e => tset d e.1 e.2) s.col.light
      else t.lmp = s.lmp ∧ t.out = s.out ∧ t.regs = s.regs)) ∧
  (∀ (dt c : Nat) (s : State), s.live = true → c < 4 → s.chainState c ≠ chOff → (s.chain c).upd.any (fun u => !u.ended) = false →
      (s.tick dt).updateDue c = true →
    Completes (exec (.chainUpdateStart dt c) s) (fun t => ∃ ws light, ws.length = lmPositions s.lampMap c ∧
      t.out = s.out ++ [.chainWords c ((0xA500 + (s.get (LMP_CHAIN_STATUS.UPDATE_SEQ c) + 1) % 256) :: ws)] ∧
      t.get (LMP_CHAIN_STATUS.UPDATE_SEQ c) = (s.get (LMP_CHAIN_STATUS.UPDATE_SEQ c) + 1) % 256 ∧
      (t.chain c).upd.map (fun u => (u.start, u.seq, u.words, u.light, u.ended)) =
        some (s.now + dt, (s.get (LMP_CHAIN_STATUS.UPDATE_SEQ c) + 1) % 256, ws.reverse, light, false) ∧
      (s.chainState c ≠ chBroken → t.col.light = s.col.light))) ∧
  (∀ (dt c delay marker : Nat) (words : List Nat) (u : UpdSt) (s : State), s.live = true → c < 4 → (s.chain c).upd = some u → u.ended = false →
      u.start + s.updateSteps c ≤ s.now + dt →
    Completes (exec (.chainUpdateEnd dt c delay marker words) s) (fun t =>
      (s.chainState c = chStarting → t.get (LMP_CHAIN_STATUS.RET_DELAY c) = min delay 8) ∧
      if marker = 0xA500 + u.seq ∧ delay ≤ 8 ∧ s.mtrPasses c = true then
        (t.chain c).upd = some { u with
          ok := true
          ended := true } ∧
        (t.chain c).good = min 4 ((s.chain c).good + 1) ∧
        t.chainState c = (if 3 ≤ (s.chain c).good ∧ (s.chainState c = chStarting ∨ s.chainState c = chBroken ∧ s.flag LMP_CTRL.AUTO_REJOIN = true)
          then chRunning else s.chainState c)
      else (t.chain c).upd = some { u with
          ok := false
          ended := true } ∧
        (t.chain c).good = 0 ∧ t.chainState c = chBroken ∧ t.get (LMP_CHAIN_FAILS.MARKER c) = min 255 (s.get (LMP_CHAIN_FAILS.MARKER c) + 1) ∧
        (s.chainState c ≠ chBroken → Raised 0x0201 s t))) ∧
  (∀ (dt : Nat) (s : State), s.live = true → s.cfg.safeIdle = false →
    Completes (exec (.positionClearFault dt) s) (fun t => (t.pos (s.get LMP_POS_SEL.POSITION)).faultOff = false ∧
      (∀ e, e ≠ s.get LMP_POS_SEL.POSITION → t.pos e = s.pos e))) ∧
  (∀ (dt p raw : Nat) (s : State), s.live = true → (s.tick dt).eventDue ⟨.sample, s.tim.lfn, p, 0, 0⟩ = true ∨ s.arrayShows [] p = false →
    Completes (exec (.referenceSample dt p raw) s) (fun t => t.seq.fab = s.seq.fab.erase ⟨.sample, s.tim.lfn, p, 0, 0⟩ ∧ match s.senseOf p with
      | none => t.regs = s.regs ∧ t.col = s.col
      | some k => t.get (LMP_PS_CH_LAST.Y k) = s.senseReading k raw ∧
        t.get (LMP_PS_CH_LAST.INVALID k) = (s.get (LMP_PS_CH_LAST.INVALID k) +
          (if (s.groupsWith p).any (fun g => (s.interim g).2 != 1) then 1 else 0)) % 2 ^ 16))

/-- The heartbeats and the light stand for a cause of Table LMP-7; where they did not before, one stop is counted and one event raised. -/
def StandsFor (cause : Nat) (s t : State) : Prop :=
  t.get LMP_SAFETY.CAUSE = cause ∧ t.get LMP_HB.RUNNING = 0 ∧ t.flag LMP_SAFETY.STOPPED = true ∧
    if s.flag LMP_SAFETY.STOPPED then t.get LMP_SAFETY.STOPS = s.get LMP_SAFETY.STOPS
    else t.get LMP_SAFETY.STOPS = min 255 (s.get LMP_SAFETY.STOPS + 1) ∧ Raised 0x0205 s t

/-- Where no condition fails any more, the heartbeats of running chains toggle, and the stop waits for its boundary; else the first
failing condition stands (R296, R299). -/
def ResumesOrStands (s t : State) : Prop :=
  if t.stopCause = 0 then t.get LMP_HB.RUNNING = maskOf 4 (fun c => s.chainState c == chRunning && !bitAt (s.get LMP_HB.OFF) c) ∧
    t.flag LMP_SAFETY.STOPPED = s.flag LMP_SAFETY.STOPPED ∧ (s.flag LMP_SAFETY.STOPPED = true → s.lmp.restartAt = none → t.lmp.restartAt = some t.now)
  else StandsFor t.stopCause s t

/-- The watchdog, the interlock, the PF and the clock stop the heartbeats, which restart as their conditions hold again; the budget
arbiter grants by rank each tick (R23, R296 to R303, R391 to R394). -/
def Obligations.LightStopsForSafetyAndBudgets : Prop :=
  (∀ (dt hi lo : Nat) (s : State), s.live = true → s.cfg.imageRunning = true →
      lo = (if s.tim.bootLf then 0 else (s.tim.lfn + 1) % 2 ^ 32) → hi + lo = 2 ^ 32 - 1 → s.withheld roleSys 0 = false →
    Completes (exec (.watchdogToken dt hi lo) s) (fun t => t.lmp.token = some lo ∧ t.lmp.expiry0 = s.now + dt + 3 * s.tim.p16 / 131072 ∧
      t.lmp.expiry1 = t.lmp.expiry0 ∧ t.lmp.fed = s.lmp.fed ∧ t.regs = s.regs)) ∧
  (∀ (dt timer : Nat) (s : State), s.live = true → s.lmp.fed = true → (if timer = 0 then s.lmp.expiry0 else s.lmp.expiry1) ≤ s.now + dt →
    Completes (exec (.watchdogExpiry dt timer) s) (fun t => t.lmp.fed = false ∧ t.lmp.validRun = 0 ∧ StandsFor (if s.lmp.clockStopped then 4 else 1) s t)) ∧
  (∀ (dt ns : Nat) (s : State), s.live = true →
    Completes (exec (.interlockOpen dt ns) s) (fun t => if ns < 20 then t = s.tick dt
      else t.lmp.ilStop = true ∧ t.flag LMP_SAFETY.INTERLOCK = false ∧ t.lmp.gates = [] ∧
        (∀ line, thas s.lmp.gates line = true → .gate line false ∈ t.out) ∧
        StandsFor (if s.lmp.clockStopped then 4 else if s.lmp.fed then 2 else 1) s t)) ∧
  (∀ (dt : Nat) (s : State), s.live = true → s.flag LMP_SAFETY.INTERLOCK = false →
    Completes (exec (.interlockClose dt) s) (fun t => t.flag LMP_SAFETY.INTERLOCK = true ∧ t.lmp.ilHigh = s.now + dt ∧ t.lmp.ilStop = s.lmp.ilStop ∧
      t.get LMP_SAFETY.CAUSE = s.get LMP_SAFETY.CAUSE)) ∧
  (∀ (dt : Nat) (s : State), s.live = true → s.lmp.ilStop = true → s.flag LMP_SAFETY.INTERLOCK = true → ceLatching s.ceil_ = false →
      s.lmp.ilHigh + max 1 (ceHold s.ceil_) * msSteps ≤ s.now + dt →
    Completes (exec (.interlockHoldExpiry dt) s) (fun t => t.lmp.ilStop = false ∧ ResumesOrStands s t)) ∧
  (∀ (dt : Nat) (s : State), s.live = true → s.cfg.safeIdle = false → s.lmp.ilStop = true → s.flag LMP_SAFETY.INTERLOCK = true →
      ceLatching s.ceil_ = true →
    Completes (exec (.interlockRearm dt) s) (fun t => t.lmp.ilStop = false ∧ t.flag LMP_SAFETY.REARM = s.flag LMP_SAFETY.REARM ∧ ResumesOrStands s t)) ∧
  (∀ (dt : Nat) (on : Bool) (s : State), s.live = true → s.cfg.safeIdle = false →
    Completes (exec (.forceOffWrite dt on) s) (fun t => t.flag LMP_SAFETY.FORCE_OFF = on ∧ (on = true → t.stopCause ≠ 0) ∧ ResumesOrStands s t)) ∧
  (∀ (dt : Nat) (s : State), s.live = true →
    Completes (exec (.gateClockStop dt) s) (fun t => t.lmp.clockStopped = true ∧ StandsFor 4 s t)) ∧
  (∀ (dt base pkg main stack0 stack1 : Nat) (given ds : List Nat) (s : State), s.live = true → main ≤ s.get THM_CAP.MAIN_CAP →
      ds = (List.range 8).map ((s.tick dt).classDemand given) →
    Completes (exec (.budgetTick dt given base pkg main stack0 stack1) s) (fun t =>
      t.get THM_PWR.PACKAGE = min pkg (2 ^ 11 - 1) ∧ t.get THM_PWR.MAIN = min main (2 ^ 10 - 1) ∧
      t.lmp.power = (pkg :: s.lmp.power).take 10000 ∧ t.mem.excess = [] ∧
      (∀ k ∈ [0, 3, 7], nthD ds k 0 = nthD given k 0) ∧
      (∀ allow, allow = min (s.get LMP_PKG_LIMIT.PEAK) (10000 * s.get LMP_PKG_LIMIT.AVG - listSum (t.lmp.power.take 9999)) →
        t.get LMP_PKG_STATUS.ALLOW = allow ∧
        (List.range 8).map (fun k => t.get (LMP_PKG_CLASS.DEMAND k)) = ds.map (fun g => min g 65535) ∧
        (List.range 8).map (fun k => t.get (LMP_PKG_CLASS.GRANT k)) = (grantClasses 0 allow ds).map (fun g => min g 65535) ∧
        ([1, 2, 3].any (fun k => decide (nthD (grantClasses 0 allow ds) k 0 < nthD ds k 0)) = true →
          bitAt (t.get THM_THROTTLE.SOURCES) thrPower = true ∧ t.lmp.powerOk = 0)) ∧
      (lmRails s.lampMap = 0 → ∀ g, g < min 64 (lmGroups s.lampMap) → t.get (LMP_GROUP_GRANT.GAMMA g) = 65536)))

/-! ### Serial lanes (spec/13) -/

/-- A lane has failed with a cause of R320: it enters FAILED and one event 0x0701 names it with the cause. Its array port in RUN goes
to TRAIN where half of its width or the lead port's logical lane 0 with no spare is lost, and stays in RUN for another lane (R321);
its UP Laxus link goes on with the other lane, or down with the lane that it uses at width 1 (R334). -/
def LaneFails (l cause : Nat) (s t : State) : Prop :=
  t.get (LAN_LANE_STATE.CAUSE l) = cause ∧ Raised 0x0701 s t ∧
  (laneIsSpare l = false ∨ s.laneRole l = 2 → t.laneState l = lnFailed) ∧
  (∀ p failed, l < 128 → p = s.lanePort l → s.laneRole l = 1 → s.portExists p = true → s.portState p = ptRun →
    failed = (s.physLanes p).filter (fun k => k == l || s.laneState k == lnFailed) →
    (s.get (APT_PORT_STATE.ACTIVE_WIDTH p) ≤ 2 * failed.length → t.portState p = ptTrain) ∧
    (s.laneLogical l = 0 → s.get (APT_PORT_CFG.PART p) = 0 → s.spareFor l = none → s.coveredFrom l ((s.tim.lfn + 2) % 2 ^ 32) = false →
      t.portState p = ptTrain) ∧
    (2 * failed.length < s.get (APT_PORT_STATE.ACTIVE_WIDTH p) → s.laneLogical l ≠ 0 → t.portState p = ptRun)) ∧
  (∀ j, 136 ≤ l → j = (l - 136) / 2 → s.lxState j = lxUp →
    if s.flag (LXS_PORT_STATE.WIDTH j) = true ∧ s.laneState (if l % 2 = 0 then l + 1 else l - 1) = lnData then
      t.lxState j = lxRetrain ∧ t.flag (LXS_PORT_STATE.WIDTH j) = false
    else if s.flag (LXS_PORT_STATE.WIDTH j) = false ∧ l ≠ s.lxFirst j then t.lxState j = lxUp
    else t.lxState j = lxDown ∨ t.lxState j = lxTrain)

/-- Lanes send, train, wake, fail, lose their clock, loop back and are measured (R308, R314 to R321, R327 to R330). -/
def Obligations.LanesTrainCarryFailAndWake : Prop :=
  (∀ (dt l : Nat) (s : State), s.live = true → l < 144 → s.laneState l ≠ lnOff → s.laneState l ≠ lnFenced →
    Completes (exec (.laneSlotTransmit dt l false) s) (fun t => (t.lane l).f = ((s.lane l).f + 1) % 2 ^ 48 ∧ (t.lane l).slotTime = s.now + dt)) ∧
  (∀ (dt l : Nat) (x : LaneSt) (y : List Bool × Bool × Bool × Nat) (s : State), s.live = true → l < 128 → s.laneState l = lnData →
      (s.lane l).waitStart = false → x = { s.lane l with f := ((s.lane l).f + 1) % 2 ^ 48 } →
      y = slotBits x 0 true (x.queue.take 64 ++ List.replicate (64 - (x.queue.take 64).length) 0) →
    Completes (exec (.laneSlotTransmit dt l false) s) (fun t => (t.lane l).queue = x.queue.drop 64 ∧ t.laneState l = lnData ∧
      (t.lane l).txBit = y.2.2.1 ∧ (t.lane l).txRun = y.2.2.2 ∧ t.out = s.out ++ [.laneSlot l (if y.2.1 then 1 else 0) [natOfBits (s.atBalls (LAN_LANE_CFG.TX_INVERT l) y.1)]])) ∧
  (∀ (dt l : Nat) (x : LaneSt) (ws : List Nat) (s : State), s.live = true → l < 144 → s.laneState l ∈ [lnTrain, lnStandby, lnFailed] →
      x = { s.lane l with
        f := ((s.lane l).f + 1) % 2 ^ 48
        slotTime := s.now + dt } →
      ws = (s.setLane l x).trainingWords l →
    Completes (exec (.laneSlotTransmit dt l false) s) (fun t =>
      (t.lane l).sentReady = (s.lane l).sentReady + (if 64 ≤ (s.lane l).good then 1 else 0) ∧
      t.out = s.out ++ [.laneSlot l 2 [natOfBits (s.atBalls (LAN_LANE_CFG.TX_INVERT l) (slotBits x 2 false ws).1)]] ∧ (s.laneState l ≠ lnTrain → t.laneState l = s.laneState l))) ∧
  (∀ (dt l : Nat) (s : State), s.live = true → l < 144 → s.laneState l ∈ [lnStandby, lnWake] →
    Completes (exec (.laneSlotTransmit dt l true) s) (LaneFails l 5 s)) ∧
  (∀ (dt l wire : Nat) (s : State), s.live = true → l < 144 → s.laneState l = lnFenced →
    Completes (exec (.dataFrameRx dt l wire) s) (fun t => t.lan = s.lan ∧ t.get (LAN_LANE_LIFE.COUNT l) =
      min 65535 (s.get (LAN_LANE_LIFE.COUNT l) + (if natOfBits (((s.atBalls (LAN_LANE_CFG.RX_INVERT l) (bitsOfNat wire slotUi)).take 32).reverse) / 256 = syncPattern then 1 else 0)))) ∧
  (∀ (dt l wire : Nat) (s : State), s.live = true → l < 144 → s.laneState l = lnTrain →
      natOfBits (((destuff (s.lane l).rxBit (s.lane l).rxRun (s.atBalls (LAN_LANE_CFG.RX_INVERT l) (bitsOfNat wire slotUi))).1.take 32).reverse) / 256 ≠ syncPattern →
    Completes (exec (.dataFrameRx dt l wire) s) (fun t => (t.lane l).hunting = true ∧ (t.lane l).noSync = (s.lane l).noSync + 1 ∧
      t.get (LAN_LANE_SYNC.HUNTS l) = (s.get (LAN_LANE_SYNC.HUNTS l) + (if (s.lane l).hunting then 0 else 1)) % 2 ^ 16 ∧
      t.get (LAN_LANE_FRAMES.COUNT l) = s.get (LAN_LANE_FRAMES.COUNT l))) ∧
  (∀ (dt l : Nat) (words : List Nat) (good adapted : Bool) (s : State), s.live = true → l < 144 → s.laneState l ∉ [lnOff, lnFenced] →
    Completes (exec (.trainingFrameRx dt l words good adapted) s) (fun t =>
      if good = true ∧ nthD words 0 0 % 256 = 0xB5 ∧
          words.drop 4 = (wordsOfNat (natOfBits (keystream (bitsOf (nthD words 1 0) 47 0) 4096)) 64).drop 4 then
        (t.lane l).rxF = (bitsOf (nthD words 1 0) 47 0 + 1) % 2 ^ 48 ∧ (t.lane l).adapted = ((s.lane l).adapted || adapted) ∧
        (t.lane l).good = (if bitAt (nthD words 0 0) 12 && bitAt (nthD words 2 0) 36 then (s.lane l).good + 1 else 0) ∧
        (t.lane l).gotReady = (s.lane l).gotReady + (if bitsOf (nthD words 0 0) 11 8 = 2 then 1 else 0) ∧
        (s.laneState l = lnTrain → 64 ≤ (t.lane l).good → 16 ≤ (s.lane l).sentReady → 16 ≤ (t.lane l).gotReady → (s.lane l).freed = false →
          t.laneState l = (if laneIsSpare l = true ∧ s.standsFor l = 0xFF then lnStandby else lnData)) ∧
        (s.laneState l = lnWake → bitAt (nthD words 0 0) 12 = true → t.laneState l = lnData)
      else (t.lane l).good = 0 ∧ t.regs = s.regs)) ∧
  (∀ (dt l : Nat) (words : List Nat) (s : State), s.live = true → l < 144 → s.laneState l ∈ [lnData, lnStandby, lnWake] →
    Completes (exec (.statusFrameRx dt l words) s) (fun t => t.get (LAN_LANE_FAR.CRC_FAILS l) = bitsOf (nthD words 0 0) 63 32 % 2 ^ 16 ∧
      t.get (LAN_LANE_FAR.EYE_MUI l) = bitsOf (nthD words 1 0) 41 32 ∧ t.flag (LAN_LANE_STATE.FAR_OK l) = bitAt (nthD words 0 0) 8 ∧
      (bitAt (nthD words 0 0) 8 = false ∨ (∃ e ∈ (s.lane l).farHist, s.now + dt < e.1 + msSteps ∧
          max 1 (s.get LAN_CTRL.ERR_LIMIT) ≤ mod32Sub (bitsOf (nthD words 0 0) 63 32) e.2) → LaneFails l 3 s t) ∧
      (bitAt (nthD words 0 0) 8 = true → (∀ e ∈ (s.lane l).farHist, s.now + dt < e.1 + msSteps →
          mod32Sub (bitsOf (nthD words 0 0) 63 32) e.2 < max 1 (s.get LAN_CTRL.ERR_LIMIT)) →
        t.laneState l = s.laneState l ∧ (t.lane l).statusTime = s.now + dt))) ∧
  (∀ (dt l : Nat) (s : State), s.live = true → l < 144 → s.laneState l = lnData → (s.lane l).statusTime + msSteps ≤ s.now + dt →
    Completes (exec (.statusFrameTimeout dt l) s) (LaneFails l 4 s)) ∧
  (∀ (dt l : Nat) (s : State), s.live = true → l < 144 → s.laneState l = lnTrain → (s.lane l).since + 40 * msSteps ≤ s.now + dt →
    Completes (exec (.laneTrainTimeout dt l) s) (fun t =>
      (l < 128 → s.laneRole l = 1 → s.lanePort l < 16 → s.portState (s.lanePort l) = ptTrain → t.portState (s.lanePort l) = ptFault ∧
        t.get (APT_PORT_STATE.FAULT (s.lanePort l)) = 1 ∧ Raised 0x0505 s t) ∧
      (136 ≤ l → s.lxState ((l - 136) / 2) = lxTrain → t.lxState ((l - 136) / 2) = lxFault ∧
        t.get (LXS_PORT_STATE.FAULT ((l - 136) / 2)) = 1 ∧ Raised 0x0803 s t) ∧
      (laneIsSpare l = true → s.laneRole l = 2 → t = s.tick dt))) ∧
  (∀ (dt l : Nat) (s : State), s.live = true → l < 128 → s.laneState l = lnData → s.laneRole l = 1 → s.lanePort l < 16 →
      s.flag (APT_PORT_STATE.REPLAY (s.lanePort l)) = true → s.tim.lfStart16 / 65536 + 16 * usSteps ≤ s.now + dt →
    Completes (exec (.laneIdleEntry dt l) s) (fun t => t.laneState l = lnIdle)) ∧
  (∀ (dt l : Nat) (s : State), s.live = true → l < 144 → s.laneState l = lnIdle → (s.tick dt).toBoundary ≤ 4 * usSteps →
    Completes (exec (.laneWake dt l) s) (fun t => t.laneState l = lnWake ∧ (t.lane l).wakeLeft = 8 ∧ (t.lane l).since = s.now + dt)) ∧
  (∀ (dt l : Nat) (s : State), s.live = true → l < 144 → s.laneState l = lnWake → (s.lane l).since + 4 * usSteps ≤ s.now + dt →
    Completes (exec (.laneWakeTimeout dt l) s) (LaneFails l 6 s)) ∧
  (∀ (dt k : Nat) (s : State), s.live = true → k < 4 → bitAt (s.get LAN_STATUS.REFCLK_OK) k = true →
    Completes (exec (.refclkLost dt k) s) (fun t => bitAt (t.get LAN_STATUS.REFCLK_OK) k = false ∧ t.lan.coreStopped = (s.lan.coreStopped || k == 0) ∧
      (s.lxUsed k = true → s.lxState k ≠ lxFault → t.lxState k = lxDown) ∧
      (∀ p l, p ∈ s.activePorts → l ∈ s.physLanes p → laneRef l = k → s.portState p ∈ [ptRun, ptAlign, ptRetrain] → t.portState p = ptTrain) ∧
      ∀ l, l < 144 → if laneRef l = k then t.laneState l = (if s.laneState l = lnFenced then lnFenced else lnOff)
        else t.laneState l = s.laneState l ∨ (l < 136 ∧ t.laneState l = lnTrain))) ∧
  (∀ (dt k : Nat) (s : State), s.live = true → k < 4 → bitAt (s.get LAN_STATUS.REFCLK_OK) k = false →
    Completes (exec (.refclkRestored dt k) s) (fun t => bitAt (t.get LAN_STATUS.REFCLK_OK) k = true ∧ t.lan.coreStopped = (s.lan.coreStopped && k != 0) ∧
      (∀ l, l < 136 → laneRef l = k → s.laneState l = lnOff → s.laneRole l ≠ 0 → laneIsSpare l = true ∨
          (s.portState (s.lanePort l) ≠ ptFault ∧ s.portState (s.lanePort l) ≠ 0) → t.laneState l = lnTrain) ∧
      (s.lxUsed k = true → s.lxState k = lxDown → t.lxState k = lxTrain) ∧
      (∀ l, l < 144 → laneRef l ≠ k → t.laneState l = s.laneState l))) ∧
  (∀ (dt l loop : Nat) (s : State), s.live = true → s.cfg.safeIdle = false → l < 144 → loop < 4 →
    Completes (exec (.laneLoopWrite dt l loop) s) (fun t =>
      if s.outOfService l = false then t.lan = s.lan ∧ t.get (LAN_LANE_CTRL.LOOP l) = s.get (LAN_LANE_CTRL.LOOP l) ∧
        t.laneState l = s.laneState l ∧ Raised 0x0F06 s t
      else t.get (LAN_LANE_CTRL.LOOP l) = loop ∧ t.laneState l = (if loop ≠ 0 then lnLoop
        else if s.laneState l ≠ lnLoop then s.laneState l else if s.isFenced (laneFence l) l 0 = true then lnFenced
        else if s.laneUsable l = true then lnTrain else lnOff))) ∧
  (∀ (dt l w h : Nat) (s : State), s.live = true → l < 144 → s.laneState l ∈ [lnData, lnStandby, lnTrain] →
    Completes (exec (.eyeMeasurementDone dt l w h) s) (fun t => t.get (LAN_LANE_EYE.WIDTH_MUI l) = min 1000 w ∧
      t.get (LAN_LANE_EYE.HEIGHT_MV l) = min h 1023 ∧ t.flag (LAN_LANE_EYE.MARGINAL l) =
        (decide (min 1000 w < s.get LAN_EYE_CFG.EYE_MIN_MUI) || decide (h < s.get LAN_EYE_CFG.EYE_MIN_MV)) ∧
      (t.flag (LAN_LANE_EYE.MARGINAL l) = true → s.flag (LAN_LANE_EYE.MARGINAL l) = false → Raised 0x0702 s t))) ∧
  (∀ (dt l : Nat) (s : State), s.live = true → l < 144 → s.laneState l = lnLoop → s.flag (LAN_LANE_PRBS_CTRL.CHK_EN l) = true →
      64 ≤ (s.lane l).chkRun →
    Completes (exec (.prbsCheckerLock dt l) s) (fun t => t.flag (LAN_LANE_PRBS_CTRL.CHK_LOCK l) = true ∧ t.lan = s.lan)) ∧
  (∀ (dt l : Nat) (s : State), s.live = true → l < 144 → s.flag (LAN_LANE_PRBS_CTRL.CHK_LOCK l) = true →
      8 ≤ popCount 64 (s.lane l).chkWin →
    Completes (exec (.prbsCheckerLockLoss dt l) s) (fun t => t.flag (LAN_LANE_PRBS_CTRL.CHK_LOCK l) = false ∧ (t.lane l).chkRun = 0))

/-- A data frame that an array lane's far end sends, from a transmitter whose frame counter, last bit and run are those that the
lane's receiver expects, arrives whole: its 64 words, with its CRC passed, one frame counted and the lane in sync (R308 to R314). -/
def Obligations.AFrameSentIsTheFrameReceived : Prop :=
  ∀ (dt l : Nat) (y : LaneSt) (words : List Nat) (s : State), s.live = true → l < 128 → s.laneState l = lnData → (s.lane l).hunting = false →
    y.f = (s.lane l).rxF → y.f < 2 ^ 48 → y.txBit = (s.lane l).rxBit → y.txRun = (s.lane l).rxRun → y.txRun < 24 →
    words.length = 64 → (∀ w ∈ words, w < 2 ^ 64) → (slotBits y 0 true words).1.length = slotUi →
    Completes (exec (.dataFrameRx dt l (natOfBits (slotBits y 0 true words).1)) s) (fun t =>
      (t.lane l).rx = words ∧ (t.lane l).rxOk = true ∧ (t.lane l).hunting = false ∧ (t.lane l).rxF = (y.f + 1) % 2 ^ 48 ∧
      (t.lane l).rxBit = (slotBits y 0 true words).2.2.1 ∧ (t.lane l).rxRun = (slotBits y 0 true words).2.2.2 ∧
      t.flag (LAN_LANE_STATE.SYNC l) = true ∧ t.get (LAN_LANE_FRAMES.COUNT l) = (s.get (LAN_LANE_FRAMES.COUNT l) + 1) % 2 ^ 32 ∧
      t.get (LAN_LANE_CRC_ERR.COUNT l) = s.get (LAN_LANE_CRC_ERR.COUNT l))

/-! ### Temperature and power (spec/16) -/

/-- A shutdown has begun for a cause: its registers, its event, and the hardware class with every gate line low and every heartbeat
stopped (R383, R384). -/
def ShutsDown (cause : Nat) (s t : State) : Prop :=
  t.get THM_STATUS.SD_CAUSE = cause ∧ t.get THM_SD.COUNT = (s.get THM_SD.COUNT + 1) % 2 ^ 16 ∧ t.rdN THM_SD_LFN = s.tim.lfn % 2 ^ 32 ∧
  Raised 0x0105 s t ∧ t.glb.hwClass = true ∧ t.lmp.gates = [] ∧ t.get LMP_HB.RUNNING = 0 ∧ t.thm.sdTime = t.now

/-- A conversion finds no fault of Table THM-1. -/
def Sound (r : Int) (s : State) : Prop :=
  s.flag THM_STATUS.SENSOR_FAULT = false ∧ (∀ m, s.thm.meas = some m → (r - m).natAbs ≤ 160) ∧ s.thm.same.length < 1999

/-- Conversions, sensor faults, shutdown, its grace, restart requests, throttle and power domains (R378 to R390, R395, R396). -/
def Obligations.ThmMeasuresThrottlesAndShutsDown : Prop :=
  (∀ (dt raw check : Nat) (reading : Option Int) (s : State), s.glb.held = true → (s.tick dt).convDue = true →
    Completes (exec (.thmConversion dt raw reading check) s) (fun t => t.regs = s.regs ∧
      t.thm.convAt = (if s.glb.pwrOk then some (s.now + dt) else s.thm.convAt) ∧ t.thm.temps = s.thm.temps ∧
      t.glb.hwClass = (s.glb.hwClass || (s.glb.pwrOk && reading.any (fun r => decide (1000 ≤ r)))))) ∧
  (∀ (dt raw check : Nat) (reading : Option Int) (s : State), (s.tick dt).convDue = false →
    Completes (exec (.thmConversion dt raw reading check) s) (fun t => t = s.tick dt)) ∧
  (∀ (dt raw : Nat) (r : Int) (s : State), s.live = true → s.get THM_STATUS.STATE = 0 → -320 ≤ r → r < 1000 → Sound r s → (s.tick dt).convDue = true →
    Completes (exec (.thmConversion dt raw (some r) 0) s) (fun t => t.get THM_STATUS.STATE = 0 ∧ t.get THM_TEMP.TEMP = uns 16 r ∧
      t.get THM_TEMP.PEAK = uns 16 (if s.thm.temps.isEmpty then r else max r (s.getSgn THM_TEMP.PEAK)) ∧
      t.get THM_STATUS.BAND = dieBand (s.get THM_STATUS.BAND) r ∧ t.get THM_SENSOR.RAW = raw % 2 ^ 16 ∧
      t.flag THM_STATUS.WARN = (if 800 ≤ r then true else if r < 760 then false else s.flag THM_STATUS.WARN) ∧
      bitAt (t.get THM_THROTTLE.SOURCES) thrDie = (if 880 ≤ r then true else if r < 840 then false else bitAt (s.get THM_THROTTLE.SOURCES) thrDie) ∧
      t.thm.temps = (s.now + dt, r) :: s.thm.temps.take 3 ∧ t.thm.cool = (if r < 800 then s.thm.cool + 1 else 0))) ∧
  (∀ (dt raw : Nat) (r : Int) (s : State), s.live = true → s.get THM_STATUS.STATE = 0 → 1000 ≤ r → r ≤ 1200 → Sound r s → s.thm.temps.length < 3 → (s.tick dt).convDue = true →
    Completes (exec (.thmConversion dt raw (some r) 0) s) (fun t => t.get THM_STATUS.STATE = 1 ∧ ShutsDown sdDie s t)) ∧
  (∀ (dt raw check : Nat) (reading : Option Int) (s : State), s.live = true → s.get THM_STATUS.STATE = 0 →
      s.flag THM_STATUS.SENSOR_FAULT = false → 1 ≤ check → check ≤ 3 → (s.tick dt).convDue = true →
    Completes (exec (.thmConversion dt raw reading check) s) (fun t => t.flag THM_STATUS.SENSOR_FAULT = true ∧
      t.get THM_SENSOR.FAULT = check ∧ Raised 0x0104 s t ∧ t.get THM_TEMP.TEMP = 1008 ∧ t.get THM_STATUS.STATE = 1 ∧ ShutsDown sdSensor s t)) ∧
  (∀ (dt : Nat) (s : State), s.live = true → s.get THM_STATUS.STATE = 1 → s.thm.sdTime + 5 * msSteps ≤ s.now + dt →
    Completes (exec (.graceEnd dt) s) (fun t => t.get THM_STATUS.STATE = 2 ∧ t.flag THM_STATUS.GRACE_CUT = false ∧
      t.get THM_SD.GRACE_US = min 65535 ((s.now + dt - s.thm.sdTime + usSteps - 1) / usSteps) ∧ t.flag HIF_STATUS.STARTUP_DONE = false ∧
      (∀ d, d < 218 → t.domOn d = false) ∧ t.get PLN_STATUS.BANKS_ON = 0 ∧ t.cal.write = none ∧
      (∀ l, l < 144 → t.laneState l = (if s.laneState l = lnFenced then lnFenced else lnOff)) ∧ SameBytes s t)) ∧
  (∀ (dt : Nat) (s : State), s.live = true →
    Completes (exec (.thmRestartRequest dt) s) (fun t => t.flag THM_CTRL.RESTART = true ∧ t.get THM_STATUS.STATE = s.get THM_STATUS.STATE)) ∧
  (∀ (dt : Nat) (s : State), s.live = true →
    Completes (exec (.thmForceShutdown dt) s) (fun t => t.flag THM_CTRL.FORCE_SHUTDOWN = false ∧
      if s.get THM_STATUS.STATE = 1 ∨ s.get THM_STATUS.STATE = 2 then t.get THM_STATUS.STATE = s.get THM_STATUS.STATE ∧
        t.get THM_SD.COUNT = (s.get THM_SD.COUNT + 1) % 2 ^ 16 ∧ Raised 0x0105 s t ∧ t.get THM_STATUS.SD_CAUSE = s.get THM_STATUS.SD_CAUSE
      else t.get THM_STATUS.STATE = 1 ∧ t.get THM_CTRL.RESTART = 0 ∧ ShutsDown sdPf s t)) ∧
  (∀ (dt : Nat) (on : Bool) (s : State), s.live = true →
    Completes (exec (.thmForceThrottle dt on) s) (fun t => t.flag THM_CTRL.FORCE_THROTTLE = on ∧
      t.get THM_THROTTLE.SOURCES = setBit (s.get THM_THROTTLE.SOURCES) thrPf on ∧
      (if (s.get THM_THROTTLE.SOURCES = 0 ↔ t.get THM_THROTTLE.SOURCES = 0) then t.get THM_THROTTLE.REQUESTS = s.get THM_THROTTLE.REQUESTS
       else t.get THM_THROTTLE.REQUESTS = (s.get THM_THROTTLE.REQUESTS + 1) % 2 ^ 16 ∧ Raised 0x0103 s t ∧
        t.thm.throttle = s.thm.throttle ++ [(s.now + dt, on)]))) ∧
  (∀ (dt : Nat) (s : State), s.live = true →
    Completes (exec (.thmClearFault dt) s) (fun t => if s.flag THM_STATUS.SENSOR_FAULT = true ∧ s.now + dt < s.thm.lastFail + secSteps then
        t.flag THM_CTRL.CLEAR_FAULT = true ∧ t.flag THM_STATUS.SENSOR_FAULT = true
      else t.flag THM_CTRL.CLEAR_FAULT = false ∧ t.flag THM_STATUS.SENSOR_FAULT = false ∧
        (s.flag THM_STATUS.SENSOR_FAULT = true → t.get THM_SENSOR.FAULT = 0))) ∧
  (∀ (dt d use : Nat) (s : State), s.live = true → d < domains → s.get THM_STATUS.STATE ≠ 2 → s.thm.wait = [] →
      (∀ e ∈ s.thm.ramp, s.now + dt < e.2) → s.thm.ramp.length ≤ 4 →
    Completes (exec (.domainWake dt d use) s) (fun t => t.lmp = s.lmp ∧
      if s.heldOff d = true ∨ s.domOn d = true ∨ thas s.thm.ramp d = true then t.thm = s.thm
      else if s.thm.ramp.length < 4 then tfind t.thm.ramp d = some (s.now + dt + wakeSteps d) ∧ t.thm.wait = []
      else t.thm.ramp = s.thm.ramp ∧ t.thm.wait = [(d, use)])) ∧
  (∀ (dt d : Nat) (s : State), s.live = true → d < domains → s.thm.wait = [] → s.thm.ramp = [] → s.domOn d = true →
    Completes (exec (.domainOff dt d) s) (fun t => t.domOn d = !(s.offCondition d && !s.domKept d) ∧
      (∀ k, k < domains → k ≠ d → t.domOn k = s.domOn k)))

/-! ### Calibration and the store (spec/17) -/

/-- Nothing that every kind shares refuses a session (Table CAL-2), and none of its kind runs. -/
def MayStart (k : Nat) (s : State) : Prop :=
  s.live = true ∧ s.cfg.safeIdle = false ∧ s.sess k = none ∧ s.flag HIF_STATUS.STARTUP_DONE = true ∧ s.get THM_STATUS.STATE = 0 ∧
  s.lmp.short.contains 7 = false

/-- A session of a kind runs from now on, with the arguments of CAL_SESSION_ARG. -/
def Starts (k : Nat) (s t : State) : Prop :=
  (t.sess k).map (fun x => (x.start, x.args)) = some (t.now, (List.range 4).map (fun i => s.rdN (CAL_SESSION_ARG i))) ∧
  t.get CAL_SESSION.KIND = k ∧ t.get (CAL_SESS_STATUS.STATE k) = sessRunning ∧ t.get (CAL_SESS_STATUS.REASON k) = 0

/-- A session of a kind does not start, for a reason. -/
def RefusedFor (k r : Nat) (s t : State) : Prop :=
  t.cal = s.cal ∧ t.get (CAL_SESS_STATUS.STATE k) = sessRefused ∧ t.get (CAL_SESS_STATUS.REASON k) = r

/-- What every kind's request does where a shared reason holds, in the order of Table CAL-2. -/
def CommonReasons (k : Nat) (i : Instr) : Prop :=
  ∀ s : State, s.live = true → s.cfg.safeIdle = false →
    (s.sess k).isSome = true ∨ s.flag HIF_STATUS.STARTUP_DONE = false ∨ s.get THM_STATUS.STATE ≠ 0 ∨ s.lmp.short.contains 7 = true →
    Completes (exec i s) (fun t =>
      if (s.sess k).isSome then t.cal = s.cal ∧ t.get (CAL_SESS_STATUS.STATE k) = s.get (CAL_SESS_STATUS.STATE k) ∧ t.get (CAL_SESS_STATUS.REASON k) = 1
      else RefusedFor k (if s.flag HIF_STATUS.STARTUP_DONE = false then 2 else if s.get THM_STATUS.STATE ≠ 0 then 3 else 4) s t)

/-- A session of a kind has ended with a state and a reason, its time and its event. -/
def Ends (k st reason : Nat) (x : SessSt) (s t : State) : Prop :=
  t.sess k = none ∧ t.get (CAL_SESS_STATUS.STATE k) = st ∧ t.get (CAL_SESS_STATUS.REASON k) = reason ∧
  t.get (CAL_SESS_STATUS.TIME_MS k) = min 65535 ((t.now - x.start) / msSteps) ∧ Raised 0x0E01 s t

/-- Sessions start, are refused, work, are aborted and end; the store is written, verified and read (R399 to R412). -/
def Obligations.CalibrationSessionsAndTheStore : Prop :=
  (∀ dt : Nat, CommonReasons kEye (.laneEyeSession dt) ∧ CommonReasons kSense (.psenseGainSession dt) ∧ CommonReasons kColour (.colourSession dt) ∧
    CommonReasons kTime (.timebaseSession dt) ∧ CommonReasons kMargin (.hbmMarginSession dt)) ∧
  (∀ (dt l : Nat) (s : State), MayStart kEye s → l = s.rdN (CAL_SESSION_ARG 0) % 256 →
    Completes (exec (.laneEyeSession dt) s) (fun t =>
      if laneCount ≤ l then RefusedFor kEye 6 s t else if laneIsLaxus l = true then RefusedFor kEye 5 s t
      else if laneIsSpare l = true then
        if s.laneState l = lnStandby ∧ (s.lane l).subst = none then Starts kEye s t ∧ t.laneState l = lnTrain ∧
          t.get (LAN_LANE_EQ.PRE_OFF l) = 15 ∧ t.get (LAN_LANE_EQ.POST_OFF l) = 15
        else RefusedFor kEye 5 s t
      else if s.laneState l ≠ lnData then RefusedFor kEye 6 s t
      else match s.spareFor l with
        | none => RefusedFor kEye 5 s t
        | some sp => if s.laneState sp = lnStandby ∧ (s.lane sp).subst = none ∧ s.standsFor sp = 0xFF then Starts kEye s t ∧
            (t.lane sp).subst.map (fun a => (a.lane, a.kind)) = some (l, 1) ∧ t.standsFor sp = l ∧ t.laneState l = lnData
          else RefusedFor kEye 5 s t)) ∧
  (∀ (dt i mask : Nat) (s : State), MayStart kSense s → i = s.rdN (CAL_SESSION_ARG 0) % 2 ^ 24 → mask = s.rdN (CAL_SESSION_ARG 1) % 2 ^ 16 →
    Completes (exec (.psenseGainSession dt) s) (fun t =>
      if mask = 0 ∨ (∃ k ∈ List.range 16, bitAt mask k = true ∧ (4 * i < senseFs (s.get (LMP_PS_CH_CFG.RANGE k)) ∨ 9 * senseFs (s.get (LMP_PS_CH_CFG.RANGE k)) < 10 * i))
      then RefusedFor kSense 6 s t else if (s.sess kColour).isSome = true then RefusedFor kSense 7 s t
      else Starts kSense s t ∧ t.col.frozenUntil = s.now + dt + 400 * msSteps)) ∧
  (∀ (dt : Nat) (x : SessSt) (s : State), MayStart kColour s → x = { noSess with args := (List.range 4).map (fun i => s.rdN (CAL_SESSION_ARG i)) } →
    Completes (exec (.colourSession dt) s) (fun t =>
      if x.arg 2 % 2 ^ 14 < 1000 ∨ 10000 < x.arg 2 % 2 ^ 14 ∨ colourGroups x = [] ∨ (∃ g ∈ colourGroups x, lmGroups s.lampMap ≤ g) then RefusedFor kColour 6 s t
      else if (s.sess kSense).isSome = true then RefusedFor kColour 7 s t
      else if (lmAll s.lampMap).any (fun e => lmPosDac s.lampMap e && (colourGroups x).contains (lmPosGroup s.lampMap e)) then RefusedFor kColour 10 s t
      else Starts kColour s t ∧ t.cal.pattern = some 0 ∧ t.cal.deltaE = [] ∧ t.lmp.patchSums = [])) ∧
  (∀ (dt : Nat) (s : State), MayStart kTime s →
    Completes (exec (.timebaseSession dt) s) (fun t => if s.flag TIM_REF_STATUS.REF10M_VALID = false then RefusedFor kTime 8 s t
      else if s.flag LXS_STATUS.ROOT = true ∧ 1 < s.get LXS_COUNT.DEVICES then RefusedFor kTime 9 s t else Starts kTime s t)) ∧
  (∀ (dt : Nat) (s : State), MayStart kMargin s → Completes (exec (.hbmMarginSession dt) s) (Starts kMargin s)) ∧
  (∀ (dt : Nat) (x : SessSt) (s : State), s.live = true → s.sess kColour = some x → x.slot < patchCount x → x.start + 200 * x.slot * msSteps ≤ s.now + dt →
    Completes (exec (.colourSlot dt) s) (fun t => t.sess kColour = some { x with slot := x.slot + 1 } ∧
      t.cal.patchNext = some { group := (s.patchOf x x.slot).1, prims := (s.patchOf x x.slot).2, level := x.arg 2 % 2 ^ 14 } ∧
      t.cal.pattern = some (maskOf 8 (fun p => (s.patchOf x x.slot).2.contains p)))) ∧
  (∀ (dt n : Nat) (x : SessSt) (s : State), s.live = true → s.cfg.safeIdle = false → s.sess kColour = some x → n = s.get CAL_COLOUR_PUT.PATCH →
    Completes (exec (.colourPut dt) s) (fun t => if n < x.slot ∧ (s.patchOf x n).2 ≠ [] ∧ s.now + dt ≤ x.start + 200 * (n + 2) * msSteps then
        t.sess kColour = some { x with readings := tset x.readings n (s.rdN CAL_COLOUR_X, s.rdN CAL_COLOUR_Y, s.rdN CAL_COLOUR_Z) }
      else t.cal = s.cal)) ∧
  (∀ (dt n : Nat) (x : SessSt) (s : State), s.live = true → s.sess kColour = some x → n < x.slot → (s.patchOf x n).2 ≠ [] → thas x.readings n = false →
      x.start + 200 * (n + 2) * msSteps ≤ s.now + dt →
    Completes (exec (.colourMeasurementTimeout dt) s) (fun t => Ends kColour sessFailed 11 x s t ∧ t.cal.pattern = none ∧ t.cal.restoring = true)) ∧
  (∀ (dt k : Nat) (s : State), s.live = true → s.cfg.safeIdle = false → k ∈ [kEye, kSense, kColour, kTime, kMargin] →
    Completes (exec (.sessionAbort dt k) s) (fun t => t.get CAL_SESSION.KIND = k ∧ match s.sess k with
      | none => t.cal = s.cal
      | some x => Ends k sessAborted 13 x s t ∧ t.cal.saveDue = s.cal.saveDue ∧
        (k = kColour → t.cal.restoring = true ∧ t.cal.pattern = none) ∧ (k = kSense → t.col.frozenUntil = t.now))) ∧
  (∀ (dt : Nat) (x : SessSt) (s : State), s.live = true → s.sess kEye = some x →
    Completes (exec (.sessionEnd dt kEye []) s) (fun t => if x.step = 4 then Ends kEye sessDone 0 x s t
      else if x.step = 1 ∧ x.due + 8 * msSteps ≤ s.now + dt then Ends kEye sessFailed 14 x s t ∧ Raised 0x0701 s t else t = s.tick dt)) ∧
  (∀ (dt k : Nat) (r0 r1 r2 : Int) (x : SessSt) (s : State), s.live = true → s.sess kSense = some x → k < 16 → x.arg 1 % 2 ^ 16 = 2 ^ k →
      x.start + 400 * msSteps ≤ s.now + dt →
    Completes (exec (.sessionEnd dt kSense [r0, r1, r2]) s) (fun t =>
      match senseGain (x.arg 0 % 2 ^ 24) (senseFs (s.get (LMP_PS_CH_CFG.RANGE k))) r0 r1 r2 with
      | .error e => Ends kSense sessFailed e x s t ∧ t.get (LMP_PS_CH_GAIN.GAIN k) = s.get (LMP_PS_CH_GAIN.GAIN k)
      | .ok g => Ends kSense sessDone 0 x s t ∧ t.get (LMP_PS_CH_GAIN.GAIN k) = g.1 ∧ tfind t.cal.ppm k = some g.2)) ∧
  (∀ (dt : Nat) (x : SessSt) (s : State), s.live = true → s.sess kColour = some x → x.slot = patchCount x → x.start + 200 * x.slot * msSteps ≤ s.now + dt →
      (∀ n, n < x.slot → (s.patchOf x n).2 = [] ∨ thas x.readings n = true) →
    Completes (exec (.sessionEnd dt kColour []) s) (fun t => Ends kColour sessDone 0 x s t ∧ t.cal.restoring = true ∧ t.cal.pattern = none ∧
      t.get CAL_SESS_3_RESULT.PATCHES = min 65535 x.readings.length ∧ t.cal.target.any (fun y => y.first.isNone) = true)) ∧
  (∀ (dt : Nat) (a b c : Int) (x : SessSt) (s : State), s.live = true → s.sess kTime = some x → x.start + 2 * secSteps ≤ s.now + dt →
    Completes (exec (.sessionEnd dt kTime [a, b, c]) s) (fun t => if 100000 < a.natAbs ∨ 100000 < b.natAbs then
        Ends kTime sessFailed 6 x s t ∧ t.cal.trimRef = s.cal.trimRef
      else Ends kTime sessDone 0 x s t ∧ t.cal.trimRef = s.cal.trimRef - a ∧ t.cal.trimOsc = s.cal.trimOsc - b ∧
        t.rdN CAL_SESS_4_RESULT = uns 32 c)) ∧
  (∀ (dt : Nat) (meas : List Int) (x : SessSt) (s : State), s.live = true → s.sess kMargin = some x → 64 ≤ x.windows →
    Completes (exec (.sessionEnd dt kMargin meas) s) (fun t => Ends kMargin sessDone 0 x s t ∧
      (∀ p, p < 64 → tfind t.cal.margins p = some ((List.range 4).map (fun j => (nthD meas (4 * p + j) 0).toNat))))) ∧
  (∀ (dt : Nat) (s : State), s.live = true → s.cfg.safeIdle = false →
    Completes (exec (.calSave dt) s) (fun t =>
      if s.cal.write = none ∧ s.flag HIF_STATUS.STARTUP_DONE = true ∧ s.get THM_STATUS.STATE = 0 then
        t.flag CAL_STORE_STATUS.WRITING = true ∧ t.flag CAL_STORE_STATUS.PENDING = false ∧ t.get CAL_STORE_STATUS.IN_FORCE = s.get CAL_STORE_STATUS.IN_FORCE ∧
        (∃ w, t.cal.write = some w ∧ w.copy = (if s.get CAL_STORE_STATUS.IN_FORCE = 1 then 1 else 0) ∧ w.retry = false ∧
          bitAt (t.get CAL_STORE_STATUS.VALID) w.copy = false ∧
          storeSeq w.bytes = (if s.get CAL_STORE_STATUS.IN_FORCE = 0 ∨ s.rdN CAL_STORE_SEQ = 0xFFFFFFFE then 1 else s.rdN CAL_STORE_SEQ + 1) % 2 ^ 32)
      else t.cal.write = s.cal.write ∧ t.cal.saveDue = true ∧ t.flag CAL_STORE_STATUS.PENDING = true)) ∧
  (∀ (dt : Nat) (ok : Bool) (w : StoreWrite) (s : State), s.live = true → s.cal.write = some w → w.copy < 2 →
    Completes (exec (.calStoreWriteDone dt ok) s) (fun t =>
      if ok = true then bitAt (t.get CAL_STORE_STATUS.VALID) w.copy = true ∧ t.get CAL_STORE_STATUS.IN_FORCE = w.copy + 1 ∧
        t.rdN CAL_STORE_SEQ = storeSeq w.bytes ∧ t.get CAL_STORE_STATUS.LAST = 1 ∧ (if w.copy = 0 then t.cal.copyA else t.cal.copyB) = w.bytes ∧
        t.get CAL_STORE_STATUS.WRITES = (s.get CAL_STORE_STATUS.WRITES + 1) % 2 ^ 16
      else if w.retry = false then t.cal.write = some { w with retry := true } ∧ t.regs = s.regs
      else (s.cal.saveDue = false → t.cal.write = none) ∧ t.get CAL_STORE_STATUS.LAST = 2 ∧ t.get CAL_STORE_STATUS.WRITES = (s.get CAL_STORE_STATUS.WRITES + 1) % 2 ^ 16 ∧
        Raised 0x0E02 s t ∧ t.get CAL_STORE_STATUS.IN_FORCE = s.get CAL_STORE_STATUS.IN_FORCE)) ∧
  (∀ (dt : Nat) (a b : List Byte) (s : State), s.cal.read = true →
    Completes (exec (.calStoreRead dt a b) s) (fun t => t = s.tick dt)) ∧
  (∀ (dt : Nat) (a b : List Byte) (s : State), s.live = true → s.cal.read = false → s.cfg.dataRead = true →
    Completes (exec (.calStoreRead dt a b) s) (fun t => t.cal.read = true ∧ t.cal.copyA = a ∧ t.cal.copyB = b ∧
      (storeForm a = false → storeForm b = false → t.get CAL_STORE_STATUS.IN_FORCE = 0 ∧ t.get CAL_STORE_STATUS.VALID = 0 ∧ t.rdN CAL_STORE_SEQ = 0) ∧
      (storeForm b = false → storeForm a = true → s.cfg.dirValid = true → (tfind s.cfg.regions 4).any (fun r => decide (leAt a 8 4 ≤ r.len)) = true →
        if storeUid a = s.uid then t.get CAL_STORE_STATUS.IN_FORCE = 1 ∧ t.get CAL_STORE_STATUS.VALID = 1 ∧ t.rdN CAL_STORE_SEQ = storeSeq a
        else t.get CAL_STORE_STATUS.IN_FORCE = 0 ∧ Raised 0x0E06 s t) ∧
      (storeForm a = true → storeForm b = true → storeUid a = s.uid → storeUid b = s.uid → s.cfg.dirValid = true →
        (tfind s.cfg.regions 4).any (fun r => decide (leAt a 8 4 ≤ r.len)) = true → (tfind s.cfg.regions 5).any (fun r => decide (leAt b 8 4 ≤ r.len)) = true →
        t.get CAL_STORE_STATUS.VALID = 3 ∧ t.get CAL_STORE_STATUS.IN_FORCE =
          (if 1 ≤ mod32Sub (storeSeq b) (storeSeq a) ∧ mod32Sub (storeSeq b) (storeSeq a) ≤ 2 ^ 31 then 2 else 1))))

/-! ### Self-test, shadows, repair and integrity (spec/17, spec/18) -/

/-- Failed units are fenced, shadows are confirmed, signs of life counted, the repair pass run, expectations armed, events delivered
(R414, R416 to R419, R424, R428). -/
def Obligations.FaultsAreFencedAndEventsDelivered : Prop :=
  (∀ (dt ms : Nat) (failed : List UnitId) (s : State), s.live = true → s.flag CAL_BIST.DONE = false → s.cfg.load = 0 ∨ s.cfg.waiting = [] →
    Completes (exec (.selfTestDone dt ms failed) s) (fun t => t.flag CAL_BIST.DONE = true ∧ t.get CAL_BIST.TIME_MS = min ms 255 ∧
      t.get CAL_BIST.NEW_FAULTS = min failed.length 255 ∧
      t.get PLN_STATUS.SPARE_ROWS = Config.storeSpareRows.toNat - t.fencedCount [fenceRow] ∧
      (∀ kind u d, t.isFenced kind u d = (s.isFenced kind u d || failed.any (fun e => e.kind == kind && e.unit_ == u && e.detail == d))) ∧
      (∀ e ∈ failed, e.kind = fenceTile → e.unit_ < tileCount → (t.tile e.unit_).fenced = true ∧ (t.tile e.unit_).logical = none) ∧
      (∀ e ∈ failed, e.kind = fenceLane ∨ e.kind = fenceLaxus → e.unit_ < laneCount → t.laneState e.unit_ = lnFenced))) ∧
  (∀ (dt ms : Nat) (failed : List UnitId) (s v : State), s.live = true → s.flag CAL_BIST.DONE = false → s.cfg.load ≠ 0 → s.cfg.waiting ≠ [] →
      v = (s.tick dt).endSelfTest ms failed →
    Completes (exec (.selfTestDone dt ms failed) s) (fun t => v.flag CAL_BIST.DONE = true ∧ t = v.checkImage s.cfg.waiting)) ∧
  (∀ (dt l : Nat) (x : ShadowSt) (s : State), s.live = true → s.cal.shadows = [x] → x.logical = l → x.confirming = false → x.dead = false →
    Completes (exec (.shadowMismatch dt l) s) (fun t => t.cal.shadows = [{ x with confirming := true }] ∧
      t.get CAL_SHADOW_STATUS.MISMATCHES = min 255 (s.get CAL_SHADOW_STATUS.MISMATCHES + 1) ∧ Raised 0x0E04 s t)) ∧
  (∀ (dt l agrees : Nat) (x : ShadowSt) (s : State), s.live = true → s.cal.shadows = [x] → x.logical = l → x.confirming = true →
      x.shadow < tileCount → s.isFenced fenceTile x.shadow 0 = false →
    Completes (exec (.confirmationDone dt l agrees) s) (fun t =>
      if agrees = 0 then t.cal.shadows = [{ x with
          confirming := false
          dead := true }] ∧ t.regs = s.regs
      else if agrees = 1 then t.cal.shadows = [] ∧ t.isFenced fenceTile x.shadow 0 = true ∧ (t.tile x.shadow).fenced = true ∧ Raised 0x0E03 s t
      else t.cal.shadows = [{ x with
          confirming := false
          left := s.shadowLfs }] ∧
        t.get CAL_SHADOW_COUNT.UNRESOLVED = (s.get CAL_SHADOW_COUNT.UNRESOLVED + 1) % 2 ^ 16)) ∧
  (∀ (dt kind u d : Nat) (s : State), s.live = true → s.isFenced kind u d = true →
    Completes (exec (.fencedSignOfLife dt kind u d) s) (fun t => t.cal.field = s.cal.field.map (fun e =>
      if e.kind = kind ∧ e.unit_ = u ∧ e.detail = d then { e with life := min 65535 (e.life + 1) } else e))) ∧
  (∀ (dt : Nat) (s : State), s.live = true → s.cfg.safeIdle = false →
    Completes (exec (.repairPass dt) s) (fun t => t.flag CAL_REPAIR_CTRL.PASS = true ∧ t.cal = s.cal)) ∧
  (∀ (dt : Nat) (passed : List Nat) (s : State), s.live = true → s.flag CAL_REPAIR_CTRL.PASS = true →
    Completes (exec (.repairPassDone dt passed) s) (fun t => t.flag CAL_REPAIR_CTRL.PASS = false ∧ t.cal.field = s.cal.field ∧
      (∀ k e, s.cal.field[k]? = some e → k ∈ passed → e ∈ t.cal.readmit) ∧
      t.cal.readmit.length = s.cal.readmit.length + ((List.range s.cal.field.length).filter passed.contains).length ∧
      t.get CAL_REPAIR_STATUS.READMITTED = min 255 ((List.range s.cal.field.length).filter passed.contains).length)) ∧
  (∀ (dt o r cfn : Nat) (s : State), s.live = true → o < outputs → r < 20 →
    Completes (exec (.crcArm dt o r cfn) s) (fun t => (t.rect o r).armed = true ∧ (t.rect o r).armTime = s.now + dt ∧
      (t.rect o r).expect = s.rdN (rectReg o r 0x0C) ∧ (t.rect o r).expCfn = cfn % 2 ^ 32 ∧ t.rdN (rectReg o r 0x10) = cfn % 2 ^ 32 ∧
      t.get ⟨rectReg o r 0x1C, 7, 7⟩ = 1 ∧ (∀ p q, p < outputs → q < 20 → (p, q) ≠ (o, r) → t.rect p q = s.rect p q))) ∧
  (∀ (dt code ctx a0 a1 a2 : Nat) (s : State), s.live = true → codeKnown code = true →
    Completes (exec (.eventRaised dt code ctx a0 a1 a2) s) (fun t => Raised code s t ∧ (∀ c, c ≠ code → t.eventCount c = s.eventCount c) ∧
      ∀ e, codeRoute code = 0 → s.ratePasses devQ code = true → e = (s.tick dt).mkEvent code (ctx % 65536) a0 a1 a2 →
        (codeClass code ≠ 0 → t.int.logTotal = s.int.logTotal + 1 ∧ ∃ k < 1024, tfind t.int.log k = some e) ∧
        (bitAt (tget 0 s.int.codeCtrl code) 0 = false → codeClass code ≠ 0 ∨ s.flag INT_CTRL.INFO_DEVQ = true → s.queueWritable devQ = true →
          s.heldBlocked (queueFn devQ) ≤ 64 → s.int.held.length < heldMax → ⟨devQ, s.now + dt, e⟩ ∈ t.int.held)))

end
end

