-- ==== Sys2Proof/Laws/Tbl.lean ====
section
/-! SUPPORT. What the operations of a sparse table and of a bit field do. -/
namespace Sys2Proof.Machine

variable {α : Type}

theorem tfind_tset (t : Tbl α) (a b : Nat) (v : α) : tfind (tset t a v) b = if b = a then some v else tfind t b := by
  induction t with
  | nil => simp [tset, tfind, eq_comm]
  | cons e r ih =>
    obtain ⟨k, w⟩ := e
    by_cases hk : k = a
    · subst hk
      by_cases hb : b = k
      · simp [tset, tfind, hb]
      · simp [tset, tfind, hb, Ne.symm hb]
    · by_cases hl : a < k
      · by_cases hb : b = a
        · simp [tset, tfind, hk, hl, hb]
        · simp [tset, tfind, hk, hl, hb, Ne.symm hb]
      · by_cases hb : b = a
        · subst hb; simp [tset, tfind, hk, hl, ih]
        · simp [tset, tfind, hk, hl, hb, ih]

@[simp] theorem tfind_tset_same (t : Tbl α) (a : Nat) (v : α) : tfind (tset t a v) a = some v := by simp [tfind_tset]

theorem tfind_tset_other (t : Tbl α) {a b : Nat} (v : α) (h : b ≠ a) : tfind (tset t a v) b = tfind t b := by
  simp [tfind_tset, h]

@[simp] theorem tget_tset_same (d : α) (t : Tbl α) (a : Nat) (v : α) : tget d (tset t a v) a = v := by simp [tget]

theorem tget_tset_other (d : α) (t : Tbl α) {a b : Nat} (v : α) (h : b ≠ a) : tget d (tset t a v) b = tget d t b := by
  simp [tget, tfind_tset, h]

@[simp] theorem thas_tset_same (t : Tbl α) (a : Nat) (v : α) : thas (tset t a v) a = true := by simp [thas]

theorem tfind_filter (t : Tbl α) (p : Nat → Bool) (b : Nat) :
    tfind (t.filter (fun e => p e.1)) b = if p b then tfind t b else none := by
  induction t with
  | nil => simp [tfind]
  | cons e r ih =>
    obtain ⟨k, w⟩ := e
    by_cases hp : p k = true
    · by_cases hb : k = b
      · subst hb; simp [hp, tfind]
      · simp [hp, tfind, hb, ih]
    · by_cases hb : k = b
      · subst hb; simp [hp, ih]
      · simp [hp, tfind, hb, ih]

theorem tfind_tdel (t : Tbl α) (a b : Nat) : tfind (tdel t a) b = if b = a then none else tfind t b := by
  rw [tdel, tfind_filter t (fun k => k != a)]
  by_cases h : b = a <;> simp [h]

@[simp] theorem thas_tdel_same (t : Tbl α) (a : Nat) : thas (tdel t a) a = false := by simp [thas, tfind_tdel]

@[simp] theorem tget_tdel_same (d : α) (t : Tbl α) (a : Nat) : tget d (tdel t a) a = d := by simp [tget, tfind_tdel]

@[simp] theorem tget_nil (d : α) (a : Nat) : tget d ([] : Tbl α) a = d := rfl

/-! ### Bit fields -/

theorem bitsOf_lt (n hi lo : Nat) : bitsOf n hi lo < 2 ^ (hi + 1 - lo) := Nat.mod_lt _ (Nat.two_pow_pos _)

/-- A field reads back the low bits of what was put into it. -/
theorem bitsOf_setBits (n v : Nat) {hi lo : Nat} (h : lo ≤ hi) : bitsOf (setBits n hi lo v) hi lo = v % 2 ^ (hi + 1 - lo) := by
  have hsplit : 2 ^ (hi + 1) = 2 ^ (hi + 1 - lo) * 2 ^ lo := by rw [← Nat.pow_add]; congr 1; omega
  have hpos : 0 < 2 ^ lo := Nat.two_pow_pos lo
  have hmod : n % 2 ^ lo < 2 ^ lo := Nat.mod_lt _ hpos
  have e : setBits n hi lo v = n % 2 ^ lo + 2 ^ lo * (v % 2 ^ (hi + 1 - lo) + n / 2 ^ (hi + 1) * 2 ^ (hi + 1 - lo)) := by
    unfold setBits
    rw [hsplit]
    ring
  unfold bitsOf
  rw [e, Nat.add_mul_div_left _ _ hpos, Nat.div_eq_of_lt hmod, Nat.zero_add, Nat.add_mul_mod_self_right, Nat.mod_mod]

/-- Bits below the field stay. -/
theorem bitsOf_setBits_below (n v : Nat) {hi lo h l : Nat} (hl : lo ≤ hi) (hd : h < lo) :
    bitsOf (setBits n hi lo v) h l = bitsOf n h l := by
  by_cases hlh : h < l
  · have : h + 1 - l = 0 := by omega
    simp [bitsOf, this, Nat.mod_one]
  have hsplit : 2 ^ (hi + 1) = 2 ^ (hi + 1 - lo) * 2 ^ lo := by rw [← Nat.pow_add]; congr 1; omega
  have hs2 : 2 ^ lo = 2 ^ (lo - (h + 1)) * 2 ^ (h + 1) := by rw [← Nat.pow_add]; congr 1; omega
  have hmod : setBits n hi lo v % 2 ^ (h + 1) = n % 2 ^ (h + 1) := by
    have e : setBits n hi lo v = n % 2 ^ lo + 2 ^ (h + 1) * (2 ^ (lo - (h + 1)) * (v % 2 ^ (hi + 1 - lo) + n / 2 ^ (hi + 1) * 2 ^ (hi + 1 - lo))) := by
      unfold setBits
      rw [hsplit, hs2]
      ring
    rw [e, Nat.add_mul_mod_self_left, hs2, Nat.mod_mod_of_dvd _ (Dvd.intro_left _ rfl)]
  have key : ∀ m : Nat, bitsOf m h l = m % 2 ^ (h + 1) / 2 ^ l := by
    intro m
    have : 2 ^ (h + 1) = 2 ^ l * 2 ^ (h + 1 - l) := by rw [← Nat.pow_add]; congr 1; omega
    rw [bitsOf, this, Nat.mod_mul_right_div_self]
  rw [key, key, hmod]

/-- Bits above the field stay. -/
theorem bitsOf_setBits_above (n v : Nat) {hi lo h l : Nat} (hl : lo ≤ hi) (hd : hi < l) :
    bitsOf (setBits n hi lo v) h l = bitsOf n h l := by
  have hsplit : 2 ^ (hi + 1) = 2 ^ (hi + 1 - lo) * 2 ^ lo := by rw [← Nat.pow_add]; congr 1; omega
  have hpos : 0 < 2 ^ (hi + 1) := Nat.two_pow_pos _
  have hdiv : setBits n hi lo v / 2 ^ (hi + 1) = n / 2 ^ (hi + 1) := by
    have hlow : n % 2 ^ lo + v % 2 ^ (hi + 1 - lo) * 2 ^ lo < 2 ^ (hi + 1) := by
      have h1 : n % 2 ^ lo < 2 ^ lo := Nat.mod_lt _ (Nat.two_pow_pos _)
      have h2 : v % 2 ^ (hi + 1 - lo) + 1 ≤ 2 ^ (hi + 1 - lo) := Nat.mod_lt _ (Nat.two_pow_pos _)
      have h3 : (v % 2 ^ (hi + 1 - lo) + 1) * 2 ^ lo ≤ 2 ^ (hi + 1 - lo) * 2 ^ lo := Nat.mul_le_mul_right _ h2
      rw [hsplit]
      nlinarith
    unfold setBits
    rw [Nat.add_mul_div_right _ _ hpos, Nat.div_eq_of_lt hlow, Nat.zero_add]
  have key : ∀ m : Nat, m / 2 ^ l = m / 2 ^ (hi + 1) / 2 ^ (l - (hi + 1)) := by
    intro m
    rw [Nat.div_div_eq_div_mul, ← Nat.pow_add]
    congr 2
    omega
  rw [bitsOf, bitsOf, key, hdiv, ← key]

theorem setBits_lt (n v : Nat) {hi lo w : Nat} (hl : lo ≤ hi) (hw : hi < w) (hn : n < 2 ^ w) : setBits n hi lo v < 2 ^ w := by
  have hsplit : 2 ^ (hi + 1) = 2 ^ (hi + 1 - lo) * 2 ^ lo := by rw [← Nat.pow_add]; congr 1; omega
  have hs2 : 2 ^ w = 2 ^ (w - (hi + 1)) * 2 ^ (hi + 1) := by rw [← Nat.pow_add]; congr 1; omega
  have hpos : 0 < 2 ^ (hi + 1) := Nat.two_pow_pos _
  have hlow : n % 2 ^ lo + v % 2 ^ (hi + 1 - lo) * 2 ^ lo < 2 ^ (hi + 1) := by
    have h1 : n % 2 ^ lo < 2 ^ lo := Nat.mod_lt _ (Nat.two_pow_pos _)
    have h2 : v % 2 ^ (hi + 1 - lo) + 1 ≤ 2 ^ (hi + 1 - lo) := Nat.mod_lt _ (Nat.two_pow_pos _)
    have h3 : (v % 2 ^ (hi + 1 - lo) + 1) * 2 ^ lo ≤ 2 ^ (hi + 1 - lo) * 2 ^ lo := Nat.mul_le_mul_right _ h2
    rw [hsplit]
    nlinarith
  have htop : n / 2 ^ (hi + 1) + 1 ≤ 2 ^ (w - (hi + 1)) := by
    have : n / 2 ^ (hi + 1) < 2 ^ (w - (hi + 1)) := by
      rw [Nat.div_lt_iff_lt_mul hpos, ← hs2]
      exact hn
    exact this
  have h4 : (n / 2 ^ (hi + 1) + 1) * 2 ^ (hi + 1) ≤ 2 ^ (w - (hi + 1)) * 2 ^ (hi + 1) := Nat.mul_le_mul_right _ htop
  unfold setBits
  rw [hs2]
  nlinarith

end Sys2Proof.Machine
end

