-- ==== Sys2Proof/Laws/State.lean ====
section
/-! SUPPORT. What each named update of the state leaves: one law per field and update, and what a register or field reads
after a write. -/
namespace Sys2Proof.Machine

variable (s : State)

@[simp] theorem State.tick_fresh (dt : Nat) : (s.tick dt).fresh = s.fresh := rfl
@[simp] theorem State.tick_out (dt : Nat) : (s.tick dt).out = s.out := rfl
@[simp] theorem State.tick_regs (dt : Nat) : (s.tick dt).regs = s.regs := rfl
@[simp] theorem State.tick_act (dt : Nat) : (s.tick dt).act = s.act := rfl
@[simp] theorem State.tick_glb (dt : Nat) : (s.tick dt).glb = s.glb := rfl
@[simp] theorem State.tick_tim (dt : Nat) : (s.tick dt).tim = s.tim := rfl
@[simp] theorem State.tick_cfg (dt : Nat) : (s.tick dt).cfg = s.cfg := rfl
@[simp] theorem State.tick_hif (dt : Nat) : (s.tick dt).hif = s.hif := rfl
@[simp] theorem State.tick_mem (dt : Nat) : (s.tick dt).mem = s.mem := rfl
@[simp] theorem State.tick_int (dt : Nat) : (s.tick dt).int = s.int := rfl
@[simp] theorem State.tick_cmp (dt : Nat) : (s.tick dt).cmp = s.cmp := rfl
@[simp] theorem State.tick_col (dt : Nat) : (s.tick dt).col = s.col := rfl
@[simp] theorem State.tick_pln (dt : Nat) : (s.tick dt).pln = s.pln := rfl
@[simp] theorem State.tick_seq (dt : Nat) : (s.tick dt).seq = s.seq := rfl
@[simp] theorem State.tick_apt (dt : Nat) : (s.tick dt).apt = s.apt := rfl
@[simp] theorem State.tick_scn (dt : Nat) : (s.tick dt).scn = s.scn := rfl
@[simp] theorem State.tick_lmp (dt : Nat) : (s.tick dt).lmp = s.lmp := rfl
@[simp] theorem State.tick_lan (dt : Nat) : (s.tick dt).lan = s.lan := rfl
@[simp] theorem State.tick_lxs (dt : Nat) : (s.tick dt).lxs = s.lxs := rfl
@[simp] theorem State.tick_mtr (dt : Nat) : (s.tick dt).mtr = s.mtr := rfl
@[simp] theorem State.tick_thm (dt : Nat) : (s.tick dt).thm = s.thm := rfl
@[simp] theorem State.tick_cal (dt : Nat) : (s.tick dt).cal = s.cal := rfl
@[simp] theorem State.tick_pending (dt : Nat) : (s.tick dt).pending = s.pending := rfl

@[simp] theorem State.send_now (m : OutMsg) : (s.send m).now = s.now := rfl
@[simp] theorem State.send_fresh (m : OutMsg) : (s.send m).fresh = s.fresh := rfl
@[simp] theorem State.send_regs (m : OutMsg) : (s.send m).regs = s.regs := rfl
@[simp] theorem State.send_act (m : OutMsg) : (s.send m).act = s.act := rfl
@[simp] theorem State.send_glb (m : OutMsg) : (s.send m).glb = s.glb := rfl
@[simp] theorem State.send_tim (m : OutMsg) : (s.send m).tim = s.tim := rfl
@[simp] theorem State.send_cfg (m : OutMsg) : (s.send m).cfg = s.cfg := rfl
@[simp] theorem State.send_hif (m : OutMsg) : (s.send m).hif = s.hif := rfl
@[simp] theorem State.send_mem (m : OutMsg) : (s.send m).mem = s.mem := rfl
@[simp] theorem State.send_int (m : OutMsg) : (s.send m).int = s.int := rfl
@[simp] theorem State.send_cmp (m : OutMsg) : (s.send m).cmp = s.cmp := rfl
@[simp] theorem State.send_col (m : OutMsg) : (s.send m).col = s.col := rfl
@[simp] theorem State.send_pln (m : OutMsg) : (s.send m).pln = s.pln := rfl
@[simp] theorem State.send_seq (m : OutMsg) : (s.send m).seq = s.seq := rfl
@[simp] theorem State.send_apt (m : OutMsg) : (s.send m).apt = s.apt := rfl
@[simp] theorem State.send_scn (m : OutMsg) : (s.send m).scn = s.scn := rfl
@[simp] theorem State.send_lmp (m : OutMsg) : (s.send m).lmp = s.lmp := rfl
@[simp] theorem State.send_lan (m : OutMsg) : (s.send m).lan = s.lan := rfl
@[simp] theorem State.send_lxs (m : OutMsg) : (s.send m).lxs = s.lxs := rfl
@[simp] theorem State.send_mtr (m : OutMsg) : (s.send m).mtr = s.mtr := rfl
@[simp] theorem State.send_thm (m : OutMsg) : (s.send m).thm = s.thm := rfl
@[simp] theorem State.send_cal (m : OutMsg) : (s.send m).cal = s.cal := rfl
@[simp] theorem State.send_pending (m : OutMsg) : (s.send m).pending = s.pending := rfl

@[simp] theorem State.useFree_now : (s.useFree).now = s.now := rfl
@[simp] theorem State.useFree_out : (s.useFree).out = s.out := rfl
@[simp] theorem State.useFree_regs : (s.useFree).regs = s.regs := rfl
@[simp] theorem State.useFree_act : (s.useFree).act = s.act := rfl
@[simp] theorem State.useFree_glb : (s.useFree).glb = s.glb := rfl
@[simp] theorem State.useFree_tim : (s.useFree).tim = s.tim := rfl
@[simp] theorem State.useFree_cfg : (s.useFree).cfg = s.cfg := rfl
@[simp] theorem State.useFree_hif : (s.useFree).hif = s.hif := rfl
@[simp] theorem State.useFree_mem : (s.useFree).mem = s.mem := rfl
@[simp] theorem State.useFree_int : (s.useFree).int = s.int := rfl
@[simp] theorem State.useFree_cmp : (s.useFree).cmp = s.cmp := rfl
@[simp] theorem State.useFree_col : (s.useFree).col = s.col := rfl
@[simp] theorem State.useFree_pln : (s.useFree).pln = s.pln := rfl
@[simp] theorem State.useFree_seq : (s.useFree).seq = s.seq := rfl
@[simp] theorem State.useFree_apt : (s.useFree).apt = s.apt := rfl
@[simp] theorem State.useFree_scn : (s.useFree).scn = s.scn := rfl
@[simp] theorem State.useFree_lmp : (s.useFree).lmp = s.lmp := rfl
@[simp] theorem State.useFree_lan : (s.useFree).lan = s.lan := rfl
@[simp] theorem State.useFree_lxs : (s.useFree).lxs = s.lxs := rfl
@[simp] theorem State.useFree_mtr : (s.useFree).mtr = s.mtr := rfl
@[simp] theorem State.useFree_thm : (s.useFree).thm = s.thm := rfl
@[simp] theorem State.useFree_cal : (s.useFree).cal = s.cal := rfl
@[simp] theorem State.useFree_pending : (s.useFree).pending = s.pending := rfl

@[simp] theorem State.wr_now (a : Nat) (w : Word) : (s.wr a w).now = s.now := rfl
@[simp] theorem State.wr_fresh (a : Nat) (w : Word) : (s.wr a w).fresh = s.fresh := rfl
@[simp] theorem State.wr_out (a : Nat) (w : Word) : (s.wr a w).out = s.out := rfl
@[simp] theorem State.wr_act (a : Nat) (w : Word) : (s.wr a w).act = s.act := rfl
@[simp] theorem State.wr_glb (a : Nat) (w : Word) : (s.wr a w).glb = s.glb := rfl
@[simp] theorem State.wr_tim (a : Nat) (w : Word) : (s.wr a w).tim = s.tim := rfl
@[simp] theorem State.wr_cfg (a : Nat) (w : Word) : (s.wr a w).cfg = s.cfg := rfl
@[simp] theorem State.wr_hif (a : Nat) (w : Word) : (s.wr a w).hif = s.hif := rfl
@[simp] theorem State.wr_mem (a : Nat) (w : Word) : (s.wr a w).mem = s.mem := rfl
@[simp] theorem State.wr_int (a : Nat) (w : Word) : (s.wr a w).int = s.int := rfl
@[simp] theorem State.wr_cmp (a : Nat) (w : Word) : (s.wr a w).cmp = s.cmp := rfl
@[simp] theorem State.wr_col (a : Nat) (w : Word) : (s.wr a w).col = s.col := rfl
@[simp] theorem State.wr_pln (a : Nat) (w : Word) : (s.wr a w).pln = s.pln := rfl
@[simp] theorem State.wr_seq (a : Nat) (w : Word) : (s.wr a w).seq = s.seq := rfl
@[simp] theorem State.wr_apt (a : Nat) (w : Word) : (s.wr a w).apt = s.apt := rfl
@[simp] theorem State.wr_scn (a : Nat) (w : Word) : (s.wr a w).scn = s.scn := rfl
@[simp] theorem State.wr_lmp (a : Nat) (w : Word) : (s.wr a w).lmp = s.lmp := rfl
@[simp] theorem State.wr_lan (a : Nat) (w : Word) : (s.wr a w).lan = s.lan := rfl
@[simp] theorem State.wr_lxs (a : Nat) (w : Word) : (s.wr a w).lxs = s.lxs := rfl
@[simp] theorem State.wr_mtr (a : Nat) (w : Word) : (s.wr a w).mtr = s.mtr := rfl
@[simp] theorem State.wr_thm (a : Nat) (w : Word) : (s.wr a w).thm = s.thm := rfl
@[simp] theorem State.wr_cal (a : Nat) (w : Word) : (s.wr a w).cal = s.cal := rfl
@[simp] theorem State.wr_pending (a : Nat) (w : Word) : (s.wr a w).pending = s.pending := rfl

@[simp] theorem State.wrN_now (a n : Nat) : (s.wrN a n).now = s.now := rfl
@[simp] theorem State.wrN_fresh (a n : Nat) : (s.wrN a n).fresh = s.fresh := rfl
@[simp] theorem State.wrN_out (a n : Nat) : (s.wrN a n).out = s.out := rfl
@[simp] theorem State.wrN_act (a n : Nat) : (s.wrN a n).act = s.act := rfl
@[simp] theorem State.wrN_glb (a n : Nat) : (s.wrN a n).glb = s.glb := rfl
@[simp] theorem State.wrN_tim (a n : Nat) : (s.wrN a n).tim = s.tim := rfl
@[simp] theorem State.wrN_cfg (a n : Nat) : (s.wrN a n).cfg = s.cfg := rfl
@[simp] theorem State.wrN_hif (a n : Nat) : (s.wrN a n).hif = s.hif := rfl
@[simp] theorem State.wrN_mem (a n : Nat) : (s.wrN a n).mem = s.mem := rfl
@[simp] theorem State.wrN_int (a n : Nat) : (s.wrN a n).int = s.int := rfl
@[simp] theorem State.wrN_cmp (a n : Nat) : (s.wrN a n).cmp = s.cmp := rfl
@[simp] theorem State.wrN_col (a n : Nat) : (s.wrN a n).col = s.col := rfl
@[simp] theorem State.wrN_pln (a n : Nat) : (s.wrN a n).pln = s.pln := rfl
@[simp] theorem State.wrN_seq (a n : Nat) : (s.wrN a n).seq = s.seq := rfl
@[simp] theorem State.wrN_apt (a n : Nat) : (s.wrN a n).apt = s.apt := rfl
@[simp] theorem State.wrN_scn (a n : Nat) : (s.wrN a n).scn = s.scn := rfl
@[simp] theorem State.wrN_lmp (a n : Nat) : (s.wrN a n).lmp = s.lmp := rfl
@[simp] theorem State.wrN_lan (a n : Nat) : (s.wrN a n).lan = s.lan := rfl
@[simp] theorem State.wrN_lxs (a n : Nat) : (s.wrN a n).lxs = s.lxs := rfl
@[simp] theorem State.wrN_mtr (a n : Nat) : (s.wrN a n).mtr = s.mtr := rfl
@[simp] theorem State.wrN_thm (a n : Nat) : (s.wrN a n).thm = s.thm := rfl
@[simp] theorem State.wrN_cal (a n : Nat) : (s.wrN a n).cal = s.cal := rfl
@[simp] theorem State.wrN_pending (a n : Nat) : (s.wrN a n).pending = s.pending := rfl

@[simp] theorem State.put_now (f : Fld) (v : Nat) : (s.put f v).now = s.now := rfl
@[simp] theorem State.put_fresh (f : Fld) (v : Nat) : (s.put f v).fresh = s.fresh := rfl
@[simp] theorem State.put_out (f : Fld) (v : Nat) : (s.put f v).out = s.out := rfl
@[simp] theorem State.put_act (f : Fld) (v : Nat) : (s.put f v).act = s.act := rfl
@[simp] theorem State.put_glb (f : Fld) (v : Nat) : (s.put f v).glb = s.glb := rfl
@[simp] theorem State.put_tim (f : Fld) (v : Nat) : (s.put f v).tim = s.tim := rfl
@[simp] theorem State.put_cfg (f : Fld) (v : Nat) : (s.put f v).cfg = s.cfg := rfl
@[simp] theorem State.put_hif (f : Fld) (v : Nat) : (s.put f v).hif = s.hif := rfl
@[simp] theorem State.put_mem (f : Fld) (v : Nat) : (s.put f v).mem = s.mem := rfl
@[simp] theorem State.put_int (f : Fld) (v : Nat) : (s.put f v).int = s.int := rfl
@[simp] theorem State.put_cmp (f : Fld) (v : Nat) : (s.put f v).cmp = s.cmp := rfl
@[simp] theorem State.put_col (f : Fld) (v : Nat) : (s.put f v).col = s.col := rfl
@[simp] theorem State.put_pln (f : Fld) (v : Nat) : (s.put f v).pln = s.pln := rfl
@[simp] theorem State.put_seq (f : Fld) (v : Nat) : (s.put f v).seq = s.seq := rfl
@[simp] theorem State.put_apt (f : Fld) (v : Nat) : (s.put f v).apt = s.apt := rfl
@[simp] theorem State.put_scn (f : Fld) (v : Nat) : (s.put f v).scn = s.scn := rfl
@[simp] theorem State.put_lmp (f : Fld) (v : Nat) : (s.put f v).lmp = s.lmp := rfl
@[simp] theorem State.put_lan (f : Fld) (v : Nat) : (s.put f v).lan = s.lan := rfl
@[simp] theorem State.put_lxs (f : Fld) (v : Nat) : (s.put f v).lxs = s.lxs := rfl
@[simp] theorem State.put_mtr (f : Fld) (v : Nat) : (s.put f v).mtr = s.mtr := rfl
@[simp] theorem State.put_thm (f : Fld) (v : Nat) : (s.put f v).thm = s.thm := rfl
@[simp] theorem State.put_cal (f : Fld) (v : Nat) : (s.put f v).cal = s.cal := rfl
@[simp] theorem State.put_pending (f : Fld) (v : Nat) : (s.put f v).pending = s.pending := rfl

@[simp] theorem State.putB_now (f : Fld) (b : Bool) : (s.putB f b).now = s.now := rfl
@[simp] theorem State.putB_fresh (f : Fld) (b : Bool) : (s.putB f b).fresh = s.fresh := rfl
@[simp] theorem State.putB_out (f : Fld) (b : Bool) : (s.putB f b).out = s.out := rfl
@[simp] theorem State.putB_act (f : Fld) (b : Bool) : (s.putB f b).act = s.act := rfl
@[simp] theorem State.putB_glb (f : Fld) (b : Bool) : (s.putB f b).glb = s.glb := rfl
@[simp] theorem State.putB_tim (f : Fld) (b : Bool) : (s.putB f b).tim = s.tim := rfl
@[simp] theorem State.putB_cfg (f : Fld) (b : Bool) : (s.putB f b).cfg = s.cfg := rfl
@[simp] theorem State.putB_hif (f : Fld) (b : Bool) : (s.putB f b).hif = s.hif := rfl
@[simp] theorem State.putB_mem (f : Fld) (b : Bool) : (s.putB f b).mem = s.mem := rfl
@[simp] theorem State.putB_int (f : Fld) (b : Bool) : (s.putB f b).int = s.int := rfl
@[simp] theorem State.putB_cmp (f : Fld) (b : Bool) : (s.putB f b).cmp = s.cmp := rfl
@[simp] theorem State.putB_col (f : Fld) (b : Bool) : (s.putB f b).col = s.col := rfl
@[simp] theorem State.putB_pln (f : Fld) (b : Bool) : (s.putB f b).pln = s.pln := rfl
@[simp] theorem State.putB_seq (f : Fld) (b : Bool) : (s.putB f b).seq = s.seq := rfl
@[simp] theorem State.putB_apt (f : Fld) (b : Bool) : (s.putB f b).apt = s.apt := rfl
@[simp] theorem State.putB_scn (f : Fld) (b : Bool) : (s.putB f b).scn = s.scn := rfl
@[simp] theorem State.putB_lmp (f : Fld) (b : Bool) : (s.putB f b).lmp = s.lmp := rfl
@[simp] theorem State.putB_lan (f : Fld) (b : Bool) : (s.putB f b).lan = s.lan := rfl
@[simp] theorem State.putB_lxs (f : Fld) (b : Bool) : (s.putB f b).lxs = s.lxs := rfl
@[simp] theorem State.putB_mtr (f : Fld) (b : Bool) : (s.putB f b).mtr = s.mtr := rfl
@[simp] theorem State.putB_thm (f : Fld) (b : Bool) : (s.putB f b).thm = s.thm := rfl
@[simp] theorem State.putB_cal (f : Fld) (b : Bool) : (s.putB f b).cal = s.cal := rfl
@[simp] theorem State.putB_pending (f : Fld) (b : Bool) : (s.putB f b).pending = s.pending := rfl

@[simp] theorem State.inc_now (f : Fld) : (s.inc f).now = s.now := rfl
@[simp] theorem State.inc_fresh (f : Fld) : (s.inc f).fresh = s.fresh := rfl
@[simp] theorem State.inc_out (f : Fld) : (s.inc f).out = s.out := rfl
@[simp] theorem State.inc_act (f : Fld) : (s.inc f).act = s.act := rfl
@[simp] theorem State.inc_glb (f : Fld) : (s.inc f).glb = s.glb := rfl
@[simp] theorem State.inc_tim (f : Fld) : (s.inc f).tim = s.tim := rfl
@[simp] theorem State.inc_cfg (f : Fld) : (s.inc f).cfg = s.cfg := rfl
@[simp] theorem State.inc_hif (f : Fld) : (s.inc f).hif = s.hif := rfl
@[simp] theorem State.inc_mem (f : Fld) : (s.inc f).mem = s.mem := rfl
@[simp] theorem State.inc_int (f : Fld) : (s.inc f).int = s.int := rfl
@[simp] theorem State.inc_cmp (f : Fld) : (s.inc f).cmp = s.cmp := rfl
@[simp] theorem State.inc_col (f : Fld) : (s.inc f).col = s.col := rfl
@[simp] theorem State.inc_pln (f : Fld) : (s.inc f).pln = s.pln := rfl
@[simp] theorem State.inc_seq (f : Fld) : (s.inc f).seq = s.seq := rfl
@[simp] theorem State.inc_apt (f : Fld) : (s.inc f).apt = s.apt := rfl
@[simp] theorem State.inc_scn (f : Fld) : (s.inc f).scn = s.scn := rfl
@[simp] theorem State.inc_lmp (f : Fld) : (s.inc f).lmp = s.lmp := rfl
@[simp] theorem State.inc_lan (f : Fld) : (s.inc f).lan = s.lan := rfl
@[simp] theorem State.inc_lxs (f : Fld) : (s.inc f).lxs = s.lxs := rfl
@[simp] theorem State.inc_mtr (f : Fld) : (s.inc f).mtr = s.mtr := rfl
@[simp] theorem State.inc_thm (f : Fld) : (s.inc f).thm = s.thm := rfl
@[simp] theorem State.inc_cal (f : Fld) : (s.inc f).cal = s.cal := rfl
@[simp] theorem State.inc_pending (f : Fld) : (s.inc f).pending = s.pending := rfl

@[simp] theorem State.incSat_now (f : Fld) (n : Nat) : (s.incSat f n).now = s.now := rfl
@[simp] theorem State.incSat_fresh (f : Fld) (n : Nat) : (s.incSat f n).fresh = s.fresh := rfl
@[simp] theorem State.incSat_out (f : Fld) (n : Nat) : (s.incSat f n).out = s.out := rfl
@[simp] theorem State.incSat_act (f : Fld) (n : Nat) : (s.incSat f n).act = s.act := rfl
@[simp] theorem State.incSat_glb (f : Fld) (n : Nat) : (s.incSat f n).glb = s.glb := rfl
@[simp] theorem State.incSat_tim (f : Fld) (n : Nat) : (s.incSat f n).tim = s.tim := rfl
@[simp] theorem State.incSat_cfg (f : Fld) (n : Nat) : (s.incSat f n).cfg = s.cfg := rfl
@[simp] theorem State.incSat_hif (f : Fld) (n : Nat) : (s.incSat f n).hif = s.hif := rfl
@[simp] theorem State.incSat_mem (f : Fld) (n : Nat) : (s.incSat f n).mem = s.mem := rfl
@[simp] theorem State.incSat_int (f : Fld) (n : Nat) : (s.incSat f n).int = s.int := rfl
@[simp] theorem State.incSat_cmp (f : Fld) (n : Nat) : (s.incSat f n).cmp = s.cmp := rfl
@[simp] theorem State.incSat_col (f : Fld) (n : Nat) : (s.incSat f n).col = s.col := rfl
@[simp] theorem State.incSat_pln (f : Fld) (n : Nat) : (s.incSat f n).pln = s.pln := rfl
@[simp] theorem State.incSat_seq (f : Fld) (n : Nat) : (s.incSat f n).seq = s.seq := rfl
@[simp] theorem State.incSat_apt (f : Fld) (n : Nat) : (s.incSat f n).apt = s.apt := rfl
@[simp] theorem State.incSat_scn (f : Fld) (n : Nat) : (s.incSat f n).scn = s.scn := rfl
@[simp] theorem State.incSat_lmp (f : Fld) (n : Nat) : (s.incSat f n).lmp = s.lmp := rfl
@[simp] theorem State.incSat_lan (f : Fld) (n : Nat) : (s.incSat f n).lan = s.lan := rfl
@[simp] theorem State.incSat_lxs (f : Fld) (n : Nat) : (s.incSat f n).lxs = s.lxs := rfl
@[simp] theorem State.incSat_mtr (f : Fld) (n : Nat) : (s.incSat f n).mtr = s.mtr := rfl
@[simp] theorem State.incSat_thm (f : Fld) (n : Nat) : (s.incSat f n).thm = s.thm := rfl
@[simp] theorem State.incSat_cal (f : Fld) (n : Nat) : (s.incSat f n).cal = s.cal := rfl
@[simp] theorem State.incSat_pending (f : Fld) (n : Nat) : (s.incSat f n).pending = s.pending := rfl

@[simp] theorem State.putSat_now (f : Fld) (v : Nat) : (s.putSat f v).now = s.now := rfl
@[simp] theorem State.putSat_fresh (f : Fld) (v : Nat) : (s.putSat f v).fresh = s.fresh := rfl
@[simp] theorem State.putSat_out (f : Fld) (v : Nat) : (s.putSat f v).out = s.out := rfl
@[simp] theorem State.putSat_act (f : Fld) (v : Nat) : (s.putSat f v).act = s.act := rfl
@[simp] theorem State.putSat_glb (f : Fld) (v : Nat) : (s.putSat f v).glb = s.glb := rfl
@[simp] theorem State.putSat_tim (f : Fld) (v : Nat) : (s.putSat f v).tim = s.tim := rfl
@[simp] theorem State.putSat_cfg (f : Fld) (v : Nat) : (s.putSat f v).cfg = s.cfg := rfl
@[simp] theorem State.putSat_hif (f : Fld) (v : Nat) : (s.putSat f v).hif = s.hif := rfl
@[simp] theorem State.putSat_mem (f : Fld) (v : Nat) : (s.putSat f v).mem = s.mem := rfl
@[simp] theorem State.putSat_int (f : Fld) (v : Nat) : (s.putSat f v).int = s.int := rfl
@[simp] theorem State.putSat_cmp (f : Fld) (v : Nat) : (s.putSat f v).cmp = s.cmp := rfl
@[simp] theorem State.putSat_col (f : Fld) (v : Nat) : (s.putSat f v).col = s.col := rfl
@[simp] theorem State.putSat_pln (f : Fld) (v : Nat) : (s.putSat f v).pln = s.pln := rfl
@[simp] theorem State.putSat_seq (f : Fld) (v : Nat) : (s.putSat f v).seq = s.seq := rfl
@[simp] theorem State.putSat_apt (f : Fld) (v : Nat) : (s.putSat f v).apt = s.apt := rfl
@[simp] theorem State.putSat_scn (f : Fld) (v : Nat) : (s.putSat f v).scn = s.scn := rfl
@[simp] theorem State.putSat_lmp (f : Fld) (v : Nat) : (s.putSat f v).lmp = s.lmp := rfl
@[simp] theorem State.putSat_lan (f : Fld) (v : Nat) : (s.putSat f v).lan = s.lan := rfl
@[simp] theorem State.putSat_lxs (f : Fld) (v : Nat) : (s.putSat f v).lxs = s.lxs := rfl
@[simp] theorem State.putSat_mtr (f : Fld) (v : Nat) : (s.putSat f v).mtr = s.mtr := rfl
@[simp] theorem State.putSat_thm (f : Fld) (v : Nat) : (s.putSat f v).thm = s.thm := rfl
@[simp] theorem State.putSat_cal (f : Fld) (v : Nat) : (s.putSat f v).cal = s.cal := rfl
@[simp] theorem State.putSat_pending (f : Fld) (v : Nat) : (s.putSat f v).pending = s.pending := rfl

@[simp] theorem State.actWr_now (a : Nat) (w : Word) : (s.actWr a w).now = s.now := rfl
@[simp] theorem State.actWr_fresh (a : Nat) (w : Word) : (s.actWr a w).fresh = s.fresh := rfl
@[simp] theorem State.actWr_out (a : Nat) (w : Word) : (s.actWr a w).out = s.out := rfl
@[simp] theorem State.actWr_regs (a : Nat) (w : Word) : (s.actWr a w).regs = s.regs := rfl
@[simp] theorem State.actWr_glb (a : Nat) (w : Word) : (s.actWr a w).glb = s.glb := rfl
@[simp] theorem State.actWr_tim (a : Nat) (w : Word) : (s.actWr a w).tim = s.tim := rfl
@[simp] theorem State.actWr_cfg (a : Nat) (w : Word) : (s.actWr a w).cfg = s.cfg := rfl
@[simp] theorem State.actWr_hif (a : Nat) (w : Word) : (s.actWr a w).hif = s.hif := rfl
@[simp] theorem State.actWr_mem (a : Nat) (w : Word) : (s.actWr a w).mem = s.mem := rfl
@[simp] theorem State.actWr_int (a : Nat) (w : Word) : (s.actWr a w).int = s.int := rfl
@[simp] theorem State.actWr_cmp (a : Nat) (w : Word) : (s.actWr a w).cmp = s.cmp := rfl
@[simp] theorem State.actWr_col (a : Nat) (w : Word) : (s.actWr a w).col = s.col := rfl
@[simp] theorem State.actWr_pln (a : Nat) (w : Word) : (s.actWr a w).pln = s.pln := rfl
@[simp] theorem State.actWr_seq (a : Nat) (w : Word) : (s.actWr a w).seq = s.seq := rfl
@[simp] theorem State.actWr_apt (a : Nat) (w : Word) : (s.actWr a w).apt = s.apt := rfl
@[simp] theorem State.actWr_scn (a : Nat) (w : Word) : (s.actWr a w).scn = s.scn := rfl
@[simp] theorem State.actWr_lmp (a : Nat) (w : Word) : (s.actWr a w).lmp = s.lmp := rfl
@[simp] theorem State.actWr_lan (a : Nat) (w : Word) : (s.actWr a w).lan = s.lan := rfl
@[simp] theorem State.actWr_lxs (a : Nat) (w : Word) : (s.actWr a w).lxs = s.lxs := rfl
@[simp] theorem State.actWr_mtr (a : Nat) (w : Word) : (s.actWr a w).mtr = s.mtr := rfl
@[simp] theorem State.actWr_thm (a : Nat) (w : Word) : (s.actWr a w).thm = s.thm := rfl
@[simp] theorem State.actWr_cal (a : Nat) (w : Word) : (s.actWr a w).cal = s.cal := rfl
@[simp] theorem State.actWr_pending (a : Nat) (w : Word) : (s.actWr a w).pending = s.pending := rfl

@[simp] theorem State.applyShadow_now (a : Nat) : (s.applyShadow a).now = s.now := rfl
@[simp] theorem State.applyShadow_fresh (a : Nat) : (s.applyShadow a).fresh = s.fresh := rfl
@[simp] theorem State.applyShadow_out (a : Nat) : (s.applyShadow a).out = s.out := rfl
@[simp] theorem State.applyShadow_regs (a : Nat) : (s.applyShadow a).regs = s.regs := rfl
@[simp] theorem State.applyShadow_glb (a : Nat) : (s.applyShadow a).glb = s.glb := rfl
@[simp] theorem State.applyShadow_tim (a : Nat) : (s.applyShadow a).tim = s.tim := rfl
@[simp] theorem State.applyShadow_cfg (a : Nat) : (s.applyShadow a).cfg = s.cfg := rfl
@[simp] theorem State.applyShadow_hif (a : Nat) : (s.applyShadow a).hif = s.hif := rfl
@[simp] theorem State.applyShadow_mem (a : Nat) : (s.applyShadow a).mem = s.mem := rfl
@[simp] theorem State.applyShadow_int (a : Nat) : (s.applyShadow a).int = s.int := rfl
@[simp] theorem State.applyShadow_cmp (a : Nat) : (s.applyShadow a).cmp = s.cmp := rfl
@[simp] theorem State.applyShadow_col (a : Nat) : (s.applyShadow a).col = s.col := rfl
@[simp] theorem State.applyShadow_pln (a : Nat) : (s.applyShadow a).pln = s.pln := rfl
@[simp] theorem State.applyShadow_seq (a : Nat) : (s.applyShadow a).seq = s.seq := rfl
@[simp] theorem State.applyShadow_apt (a : Nat) : (s.applyShadow a).apt = s.apt := rfl
@[simp] theorem State.applyShadow_scn (a : Nat) : (s.applyShadow a).scn = s.scn := rfl
@[simp] theorem State.applyShadow_lmp (a : Nat) : (s.applyShadow a).lmp = s.lmp := rfl
@[simp] theorem State.applyShadow_lan (a : Nat) : (s.applyShadow a).lan = s.lan := rfl
@[simp] theorem State.applyShadow_lxs (a : Nat) : (s.applyShadow a).lxs = s.lxs := rfl
@[simp] theorem State.applyShadow_mtr (a : Nat) : (s.applyShadow a).mtr = s.mtr := rfl
@[simp] theorem State.applyShadow_thm (a : Nat) : (s.applyShadow a).thm = s.thm := rfl
@[simp] theorem State.applyShadow_cal (a : Nat) : (s.applyShadow a).cal = s.cal := rfl
@[simp] theorem State.applyShadow_pending (a : Nat) : (s.applyShadow a).pending = s.pending := rfl

@[simp] theorem State.resetReg_now (a : Nat) : (s.resetReg a).now = s.now := rfl
@[simp] theorem State.resetReg_fresh (a : Nat) : (s.resetReg a).fresh = s.fresh := rfl
@[simp] theorem State.resetReg_out (a : Nat) : (s.resetReg a).out = s.out := rfl
@[simp] theorem State.resetReg_glb (a : Nat) : (s.resetReg a).glb = s.glb := rfl
@[simp] theorem State.resetReg_tim (a : Nat) : (s.resetReg a).tim = s.tim := rfl
@[simp] theorem State.resetReg_cfg (a : Nat) : (s.resetReg a).cfg = s.cfg := rfl
@[simp] theorem State.resetReg_hif (a : Nat) : (s.resetReg a).hif = s.hif := rfl
@[simp] theorem State.resetReg_mem (a : Nat) : (s.resetReg a).mem = s.mem := rfl
@[simp] theorem State.resetReg_int (a : Nat) : (s.resetReg a).int = s.int := rfl
@[simp] theorem State.resetReg_cmp (a : Nat) : (s.resetReg a).cmp = s.cmp := rfl
@[simp] theorem State.resetReg_col (a : Nat) : (s.resetReg a).col = s.col := rfl
@[simp] theorem State.resetReg_pln (a : Nat) : (s.resetReg a).pln = s.pln := rfl
@[simp] theorem State.resetReg_seq (a : Nat) : (s.resetReg a).seq = s.seq := rfl
@[simp] theorem State.resetReg_apt (a : Nat) : (s.resetReg a).apt = s.apt := rfl
@[simp] theorem State.resetReg_scn (a : Nat) : (s.resetReg a).scn = s.scn := rfl
@[simp] theorem State.resetReg_lmp (a : Nat) : (s.resetReg a).lmp = s.lmp := rfl
@[simp] theorem State.resetReg_lan (a : Nat) : (s.resetReg a).lan = s.lan := rfl
@[simp] theorem State.resetReg_lxs (a : Nat) : (s.resetReg a).lxs = s.lxs := rfl
@[simp] theorem State.resetReg_mtr (a : Nat) : (s.resetReg a).mtr = s.mtr := rfl
@[simp] theorem State.resetReg_thm (a : Nat) : (s.resetReg a).thm = s.thm := rfl
@[simp] theorem State.resetReg_cal (a : Nat) : (s.resetReg a).cal = s.cal := rfl
@[simp] theorem State.resetReg_pending (a : Nat) : (s.resetReg a).pending = s.pending := rfl

@[simp] theorem State.tick_now (dt : Nat) : (s.tick dt).now = s.now + dt := rfl
@[simp] theorem State.send_out (m : OutMsg) : (s.send m).out = s.out ++ [m] := rfl
@[simp] theorem State.useFree_fresh : s.useFree.fresh = s.fresh + 1 := rfl

/-! ### Registers -/

theorem State.rd_wr (a b : Nat) (w : Word) : (s.wr a w).rd b = if b = a then w else s.rd b := by
  by_cases h : b = a
  · subst h; simp [State.rd, State.wr]
  · simp [State.rd, State.wr, h, tget_tset_other]

/-- The registers after an update that changes only other things. -/
theorem State.rd_congr {s t : State} (h : t.regs = s.regs) (a : Nat) : t.rd a = s.rd a := by simp [State.rd, h]

@[simp] theorem State.tick_rd (dt a : Nat) : (s.tick dt).rd a = s.rd a := rfl
@[simp] theorem State.send_rd (m : OutMsg) (a : Nat) : (s.send m).rd a = s.rd a := rfl
@[simp] theorem State.useFree_rd (a : Nat) : s.useFree.rd a = s.rd a := rfl
@[simp] theorem State.actWr_rd (b : Nat) (w : Word) (a : Nat) : (s.actWr b w).rd a = s.rd a := rfl
@[simp] theorem State.applyShadow_rd (b a : Nat) : (s.applyShadow b).rd a = s.rd a := rfl

/-- A field lies within one word. -/
def Fld.ok (f : Fld) : Bool := decide (f.lo ≤ f.hi) && decide (f.hi < 32)

/-- Two fields share no bit. -/
def Fld.apart (f g : Fld) : Bool := f.reg != g.reg || decide (f.hi < g.lo) || decide (g.hi < f.lo)

theorem State.rd_wrN (a b n : Nat) : (s.wrN a n).rd b = if b = a then BitVec.ofNat 32 n else s.rd b := s.rd_wr a b _

theorem State.rd_wrN_same (a n : Nat) : (s.wrN a n).rd a = BitVec.ofNat 32 n := by simp [State.rd_wrN]

theorem State.rdN_wrN_same (a n : Nat) : (s.wrN a n).rdN a = n % 2 ^ 32 := by simp [State.rdN, State.rd_wrN]

theorem State.rd_wrN_other {a b : Nat} (n : Nat) (h : b ≠ a) : (s.wrN a n).rd b = s.rd b := by simp [State.rd_wrN, h]

theorem State.rd_put_other {f : Fld} {b : Nat} (v : Nat) (h : b ≠ f.reg) : (s.put f v).rd b = s.rd b := s.rd_wrN_other _ h

theorem State.get_congr {s t : State} {f : Fld} (h : t.rd f.reg = s.rd f.reg) : t.get f = s.get f := by simp [State.get, h]

theorem State.flag_congr {s t : State} {f : Fld} (h : t.rd f.reg = s.rd f.reg) : t.flag f = s.flag f := by
  simp [State.flag, State.get_congr h]

theorem State.rdN_put_same (f : Fld) (v : Nat) (h : f.ok = true) :
    (s.put f v).rdN f.reg = setBits (s.rd f.reg).toNat f.hi f.lo v := by
  simp [Fld.ok] at h
  simp only [State.put, State.rdN_wrN_same]
  exact Nat.mod_eq_of_lt (setBits_lt _ _ h.1 h.2 (s.rd f.reg).isLt)

/-- A field reads what was put into it. -/
theorem State.get_put_same (f : Fld) (v : Nat) (h : f.ok = true) : (s.put f v).get f = v % 2 ^ (f.hi + 1 - f.lo) := by
  have e := s.rdN_put_same f v h
  simp only [State.rdN] at e
  simp only [State.get, e]
  simp [Fld.ok] at h
  exact bitsOf_setBits _ _ h.1

/-- A put leaves every field that shares no bit with it. -/
theorem State.get_put_apart {f g : Fld} (v : Nat) (hf : f.ok = true) (h : f.apart g = true) :
    (s.put f v).get g = s.get g := by
  by_cases e : g.reg = f.reg
  · have e1 := s.rdN_put_same f v hf
    simp only [State.rdN] at e1
    simp [Fld.ok] at hf
    have h2 : f.hi < g.lo ∨ g.hi < f.lo := by
      simpa [Fld.apart, e] using h
    simp only [State.get, e, e1]
    rcases h2 with h2 | h2
    · exact bitsOf_setBits_above _ _ hf.1 h2
    · exact bitsOf_setBits_below _ _ hf.1 h2
  · exact State.get_congr (s.rd_put_other v e)

theorem State.flag_put_apart {f g : Fld} (v : Nat) (hf : f.ok = true) (h : f.apart g = true) :
    (s.put f v).flag g = s.flag g := by simp [State.flag, s.get_put_apart v hf h]

@[simp] theorem State.tick_get (dt : Nat) (f : Fld) : (s.tick dt).get f = s.get f := rfl
@[simp] theorem State.tick_flag (dt : Nat) (f : Fld) : (s.tick dt).flag f = s.flag f := rfl
@[simp] theorem State.tick_rdN (dt a : Nat) : (s.tick dt).rdN a = s.rdN a := rfl
@[simp] theorem State.send_get (m : OutMsg) (f : Fld) : (s.send m).get f = s.get f := rfl
@[simp] theorem State.send_flag (m : OutMsg) (f : Fld) : (s.send m).flag f = s.flag f := rfl

/-! ### A live device -/

@[simp] theorem State.tick_live (dt : Nat) : (s.tick dt).live = s.live := rfl

theorem State.onLive_eq (f : State → State) (h : s.live = true) : s.onLive f = f s := by simp [State.onLive, h]

theorem State.onLiveIf_eq (b : Bool) (f : State → State) (h : s.live = true) (hb : b = true) : s.onLiveIf b f = f s := by
  simp [State.onLiveIf, h, hb]

theorem State.onCoreIf_eq (b : Bool) (f : State → State) (h : s.live = true) (hc : s.lan.coreStopped = false) (hb : b = true) :
    s.onCoreIf b f = f s := by simp [State.onCoreIf, State.onLiveIf, h, hc, hb]

theorem State.onCore_eq (f : State → State) (h : s.live = true) (hc : s.lan.coreStopped = false) : s.onCore f = f s :=
  State.onCoreIf_eq s true f h hc rfl

theorem State.onReach_eq (f : State → State) (h : s.live = true) (hs : s.cfg.safeIdle = false) : s.onReach f = f s := by
  simp [State.onReach, State.onReachIf, State.onLiveIf, h, hs]

theorem State.onReachIf_eq (b : Bool) (f : State → State) (h : s.live = true) (hs : s.cfg.safeIdle = false)
    (hb : b = true) : s.onReachIf b f = f s := by
  simp [State.onReachIf, State.onLiveIf, h, hs, hb]

end Sys2Proof.Machine
end

