-- ==== Sys2Proof/Laws/Event.lean ====
section
/-! SUPPORT. What delivering an event does to the rest of the state: only INT and its registers, and the held and dropped
counts of the functions, change (R428 to R433). -/
namespace Sys2Proof.Machine

/-- A change of INT and of event registers alone. -/
def EventOnly (s t : State) : Prop :=
  (∃ r i, t = { s with regs := r, int := i }) ∧ ∀ a, evReg a = false → t.rd a = s.rd a

theorem EventOnly.refl (s : State) : EventOnly s s := ⟨⟨s.regs, s.int, rfl⟩, fun _ _ => rfl⟩

theorem EventOnly.trans {s t u : State} (h1 : EventOnly s t) (h2 : EventOnly t u) : EventOnly s u := by
  obtain ⟨⟨r1, i1, e1⟩, g1⟩ := h1
  obtain ⟨⟨r2, i2, e2⟩, g2⟩ := h2
  refine ⟨⟨r2, i2, ?_⟩, fun a h => (g2 a h).trans (g1 a h)⟩
  rw [e2, e1]

theorem EventOnly.put (s : State) (f : Fld) (v : Nat) (h : evReg f.reg = true) : EventOnly s (s.put f v) := by
  refine ⟨⟨_, s.int, rfl⟩, fun a ha => s.rd_put_other v ?_⟩
  intro e
  rw [e, h] at ha
  cases ha

theorem EventOnly.wrN (s : State) (a v : Nat) (h : evReg a = true) : EventOnly s (s.wrN a v) := by
  refine ⟨⟨_, s.int, rfl⟩, fun b hb => s.rd_wrN_other v ?_⟩
  intro e
  rw [e, h] at hb
  cases hb

theorem EventOnly.int (s : State) (i : IntSt) : EventOnly s { s with int := i } := ⟨⟨s.regs, i, rfl⟩, fun _ _ => rfl⟩

theorem evReg_range {a : Nat} (h1 : 0x302000 ≤ a) (h2 : a < 0x303000) : evReg a = true := by
  simp only [evReg, h1, h2, decide_true, Bool.and_true, Bool.or_true]

theorem fnStatus_ev {f : Nat} (h : f < 256) : evReg (HIF_FN_STATUS f) = true :=
  evReg_range (by rw [HIF_FN_STATUS, if_pos h]; omega) (by rw [HIF_FN_STATUS, if_pos h]; omega)

theorem fnDrops_ev {f : Nat} (h : f < 256) : evReg (HIF_FN_DROPS f) = true :=
  evReg_range (by rw [HIF_FN_DROPS, if_pos h]; omega) (by rw [HIF_FN_DROPS, if_pos h]; omega)

theorem EventOnly.countRate (s : State) (q code : Nat) : EventOnly s (s.countRate q code) := by
  unfold State.countRate
  split
  · exact EventOnly.int s _
  · exact (EventOnly.int s _).trans (EventOnly.put _ _ _ (by decide))

theorem EventOnly.alert (s : State) (f : Nat) : EventOnly s (s.alert f) := by
  unfold State.alert
  split
  · exact EventOnly.refl s
  · exact EventOnly.int s _

theorem EventOnly.dropHeld (s : State) {f : Nat} (h : f < 256) : EventOnly s (s.dropHeld f) :=
  (((EventOnly.int s _).trans (EventOnly.put _ INT_STATUS.PENDING _ (by decide))).trans
    (EventOnly.wrN _ (HIF_FN_DROPS f) _ (fnDrops_ev h))).trans (EventOnly.alert _ f)

theorem EventOnly.trimHeld (s : State) {f : Nat} (h : f < 256) : EventOnly s (s.trimHeld f) := by
  by_cases hn : s.heldBlocked f ≤ 64
  · rw [show s.trimHeld f = s from if_pos hn]; exact EventOnly.refl s
  · rw [show s.trimHeld f = s.dropHeld f from if_neg hn]; exact EventOnly.dropHeld s h

theorem EventOnly.showHeld (s : State) {f : Nat} (h : f < 256) : EventOnly s (s.showHeld f) :=
  (EventOnly.trimHeld s h).trans (EventOnly.put _ _ _ (fnStatus_ev h))

theorem EventOnly.hold (s : State) {q : Nat} (h : queueFn q < 256) (e : Event) : EventOnly s (s.hold q e) := by
  unfold State.hold
  dsimp only
  split
  · exact (EventOnly.put _ _ _ (fnDrops_ev h)).trans (EventOnly.alert _ _)
  · split
    · exact ((EventOnly.int s _).trans (EventOnly.put _ _ _ (by decide))).trans (EventOnly.showHeld _ h)
    · exact EventOnly.put _ _ _ (by decide)

theorem EventOnly.logEvent (s : State) (e : Event) : EventOnly s (s.logEvent e) :=
  ((EventOnly.int s _).trans (EventOnly.put _ _ _ (by decide))).trans (EventOnly.put _ _ _ (by decide))

theorem EventOnly.passEvent (s : State) {q : Nat} (h : queueFn q < 256) (e : Event) : EventOnly s (s.passEvent q e) := by
  unfold State.passEvent
  dsimp only
  have h1 : EventOnly s (s.countRate q e.code) := EventOnly.countRate s q e.code
  have h2 : EventOnly s (if (s.ratePasses q e.code && e.cls != 0) = true then (s.countRate q e.code).logEvent e
      else s.countRate q e.code) := by
    split
    · exact h1.trans (EventOnly.logEvent _ _)
    · exact h1
  generalize (if (s.ratePasses q e.code && e.cls != 0) = true then (s.countRate q e.code).logEvent e
      else s.countRate q e.code) = s2 at h2 ⊢
  have h3 : EventOnly s (if (s.ratePasses q e.code && !bitAt (tget 0 s.int.codeCtrl e.code) 0 &&
      !(e.cls == 0 && codeRoute e.code == 0 && !s.flag INT_CTRL.INFO_DEVQ)) = true then s2.hold q e else s2) := by
    split
    · exact h2.trans (EventOnly.hold _ h _)
    · exact h2
  generalize (if (s.ratePasses q e.code && !bitAt (tget 0 s.int.codeCtrl e.code) 0 &&
      !(e.cls == 0 && codeRoute e.code == 0 && !s.flag INT_CTRL.INFO_DEVQ)) = true then s2.hold q e else s2) = s3 at h3 ⊢
  split
  · split
    · exact (h3.trans (EventOnly.countRate _ _ _)).trans (EventOnly.hold _ (by decide) _)
    · exact h3.trans (EventOnly.countRate _ _ _)
  · exact h3

/-- A fold of changes of one kind is a change of that kind. -/
theorem foldOver_rel {σ α : Type} {R : σ → σ → Prop} (hr : ∀ s, R s s) (ht : ∀ {a b c}, R a b → R b c → R a c)
    {l : List α} {f : α → σ → σ} (h : ∀ x ∈ l, ∀ s, R s (f x s)) (s : σ) : R s (foldOver l f s) := by
  induction l generalizing s with
  | nil => exact hr s
  | cons x r ih =>
    exact ht (h x (List.mem_cons_self ..) s) (ih (fun y hy => h y (List.mem_cons_of_mem _ hy)) _)

theorem State.queueFn_lt {s : State} {c : Nat} (h : s.ctxTakesEvents c = true) : queueFn c < 256 := by
  have hc : c < 1024 := by
    simp only [State.ctxTakesEvents, State.ctxExists, Bool.and_eq_true, decide_eq_true_eq] at h
    exact h.1.1.1.1
  unfold queueFn
  split
  · decide
  · omega

theorem EventOnly.deliver (s : State) (e : Event) (w : Nat) : EventOnly s (s.deliver e w) := by
  have hd : queueFn devQ < 256 := by decide
  unfold State.deliver
  dsimp only
  generalize hs1 : ({ s with int := { s.int with codeCount := tmod 0 s.int.codeCount e.code (fun n => (n + 1) % 2 ^ 32) } } :
    State) = s1
  have h1 : EventOnly s s1 := by rw [← hs1]; exact EventOnly.int s _
  split
  · refine h1.trans (EventOnly.trans (foldOver_rel EventOnly.refl EventOnly.trans ?_ s1) (EventOnly.passEvent _ hd _))
    intro c hc t
    exact EventOnly.passEvent _ (State.queueFn_lt (by simpa using (List.mem_filter.mp hc).2)) _
  · split
    · split
      · exact h1.trans (EventOnly.passEvent _ (State.queueFn_lt (by assumption)) _)
      · exact h1.trans (EventOnly.passEvent _ hd _)
    · split
      · exact h1.trans (EventOnly.passEvent _ hd _)
      · split
        · exact h1.trans (EventOnly.passEvent _ (State.queueFn_lt (by assumption)) _)
        · exact h1.trans (EventOnly.passEvent _ hd _)
    · exact h1.trans (EventOnly.passEvent _ hd _)

theorem State.rd_deliver (s : State) (e : Event) (w : Nat) {a : Nat} (h : evReg a = false) :
    (s.deliver e w).rd a = s.rd a := (EventOnly.deliver s e w).2 a h

theorem State.get_deliver (s : State) (e : Event) (w : Nat) {f : Fld} (h : evReg f.reg = false) :
    (s.deliver e w).get f = s.get f := State.get_congr (s.rd_deliver e w h)

theorem State.get_raise (s : State) (c a0 a1 a2 : Nat) {f : Fld} (h : evReg f.reg = false) :
    (s.raise c a0 a1 a2).get f = s.get f := s.get_deliver _ _ h

theorem State.get_raiseB (s : State) (c a0 a1 a2 : Nat) {f : Fld} (h : evReg f.reg = false) :
    (s.raiseB c a0 a1 a2).get f = s.get f := s.get_deliver _ _ h

theorem State.get_raiseC (s : State) (c x a0 a1 a2 : Nat) {f : Fld} (h : evReg f.reg = false) :
    (s.raiseC c x a0 a1 a2).get f = s.get f := s.get_deliver _ _ h

theorem State.get_raiseCB (s : State) (c x a0 a1 a2 : Nat) {f : Fld} (h : evReg f.reg = false) :
    (s.raiseCB c x a0 a1 a2).get f = s.get f := s.get_deliver _ _ h

theorem State.get_accessEvent (s : State) (w k n : Nat) {f : Fld} (h : evReg f.reg = false) :
    (s.accessEvent w k n).get f = s.get f := s.get_deliver _ _ h

theorem State.get_limitEvent (s : State) (w k : Nat) {f : Fld} (h : evReg f.reg = false) :
    (s.limitEvent w k).get f = s.get f := s.get_deliver _ _ h

theorem State.rd_raise (s : State) (c a0 a1 a2 : Nat) {a : Nat} (h : evReg a = false) :
    (s.raise c a0 a1 a2).rd a = s.rd a := s.rd_deliver _ _ h

theorem State.rd_raiseB (s : State) (c a0 a1 a2 : Nat) {a : Nat} (h : evReg a = false) :
    (s.raiseB c a0 a1 a2).rd a = s.rd a := s.rd_deliver _ _ h

theorem State.rd_raiseC (s : State) (c x a0 a1 a2 : Nat) {a : Nat} (h : evReg a = false) :
    (s.raiseC c x a0 a1 a2).rd a = s.rd a := s.rd_deliver _ _ h

theorem State.rd_accessEvent (s : State) (w k n : Nat) {a : Nat} (h : evReg a = false) :
    (s.accessEvent w k n).rd a = s.rd a := s.rd_deliver _ _ h

theorem State.rd_limitEvent (s : State) (w k : Nat) {a : Nat} (h : evReg a = false) :
    (s.limitEvent w k).rd a = s.rd a := s.rd_deliver _ _ h

/-! ### The other fields -/

variable (s : State)

@[simp] theorem State.deliver_now (e : Event) (w : Nat) : (s.deliver e w).now = s.now := by
  obtain ⟨⟨r, i, h⟩, _⟩ := EventOnly.deliver s e w
  rw [h]
@[simp] theorem State.raise_now (c a0 a1 a2 : Nat) : (s.raise c a0 a1 a2).now = s.now := s.deliver_now _ _
@[simp] theorem State.raiseB_now (c a0 a1 a2 : Nat) : (s.raiseB c a0 a1 a2).now = s.now := s.deliver_now _ _
@[simp] theorem State.raiseC_now (c x a0 a1 a2 : Nat) : (s.raiseC c x a0 a1 a2).now = s.now := s.deliver_now _ _
@[simp] theorem State.raiseCB_now (c x a0 a1 a2 : Nat) : (s.raiseCB c x a0 a1 a2).now = s.now := s.deliver_now _ _
@[simp] theorem State.accessEvent_now (w k n : Nat) : (s.accessEvent w k n).now = s.now := s.deliver_now _ _
@[simp] theorem State.limitEvent_now (w k : Nat) : (s.limitEvent w k).now = s.now := s.deliver_now _ _
@[simp] theorem State.deliver_fresh (e : Event) (w : Nat) : (s.deliver e w).fresh = s.fresh := by
  obtain ⟨⟨r, i, h⟩, _⟩ := EventOnly.deliver s e w
  rw [h]
@[simp] theorem State.raise_fresh (c a0 a1 a2 : Nat) : (s.raise c a0 a1 a2).fresh = s.fresh := s.deliver_fresh _ _
@[simp] theorem State.raiseB_fresh (c a0 a1 a2 : Nat) : (s.raiseB c a0 a1 a2).fresh = s.fresh := s.deliver_fresh _ _
@[simp] theorem State.raiseC_fresh (c x a0 a1 a2 : Nat) : (s.raiseC c x a0 a1 a2).fresh = s.fresh := s.deliver_fresh _ _
@[simp] theorem State.raiseCB_fresh (c x a0 a1 a2 : Nat) : (s.raiseCB c x a0 a1 a2).fresh = s.fresh := s.deliver_fresh _ _
@[simp] theorem State.accessEvent_fresh (w k n : Nat) : (s.accessEvent w k n).fresh = s.fresh := s.deliver_fresh _ _
@[simp] theorem State.limitEvent_fresh (w k : Nat) : (s.limitEvent w k).fresh = s.fresh := s.deliver_fresh _ _
@[simp] theorem State.deliver_out (e : Event) (w : Nat) : (s.deliver e w).out = s.out := by
  obtain ⟨⟨r, i, h⟩, _⟩ := EventOnly.deliver s e w
  rw [h]
@[simp] theorem State.raise_out (c a0 a1 a2 : Nat) : (s.raise c a0 a1 a2).out = s.out := s.deliver_out _ _
@[simp] theorem State.raiseB_out (c a0 a1 a2 : Nat) : (s.raiseB c a0 a1 a2).out = s.out := s.deliver_out _ _
@[simp] theorem State.raiseC_out (c x a0 a1 a2 : Nat) : (s.raiseC c x a0 a1 a2).out = s.out := s.deliver_out _ _
@[simp] theorem State.raiseCB_out (c x a0 a1 a2 : Nat) : (s.raiseCB c x a0 a1 a2).out = s.out := s.deliver_out _ _
@[simp] theorem State.accessEvent_out (w k n : Nat) : (s.accessEvent w k n).out = s.out := s.deliver_out _ _
@[simp] theorem State.limitEvent_out (w k : Nat) : (s.limitEvent w k).out = s.out := s.deliver_out _ _
@[simp] theorem State.deliver_act (e : Event) (w : Nat) : (s.deliver e w).act = s.act := by
  obtain ⟨⟨r, i, h⟩, _⟩ := EventOnly.deliver s e w
  rw [h]
@[simp] theorem State.raise_act (c a0 a1 a2 : Nat) : (s.raise c a0 a1 a2).act = s.act := s.deliver_act _ _
@[simp] theorem State.raiseB_act (c a0 a1 a2 : Nat) : (s.raiseB c a0 a1 a2).act = s.act := s.deliver_act _ _
@[simp] theorem State.raiseC_act (c x a0 a1 a2 : Nat) : (s.raiseC c x a0 a1 a2).act = s.act := s.deliver_act _ _
@[simp] theorem State.raiseCB_act (c x a0 a1 a2 : Nat) : (s.raiseCB c x a0 a1 a2).act = s.act := s.deliver_act _ _
@[simp] theorem State.accessEvent_act (w k n : Nat) : (s.accessEvent w k n).act = s.act := s.deliver_act _ _
@[simp] theorem State.limitEvent_act (w k : Nat) : (s.limitEvent w k).act = s.act := s.deliver_act _ _
@[simp] theorem State.deliver_glb (e : Event) (w : Nat) : (s.deliver e w).glb = s.glb := by
  obtain ⟨⟨r, i, h⟩, _⟩ := EventOnly.deliver s e w
  rw [h]
@[simp] theorem State.raise_glb (c a0 a1 a2 : Nat) : (s.raise c a0 a1 a2).glb = s.glb := s.deliver_glb _ _
@[simp] theorem State.raiseB_glb (c a0 a1 a2 : Nat) : (s.raiseB c a0 a1 a2).glb = s.glb := s.deliver_glb _ _
@[simp] theorem State.raiseC_glb (c x a0 a1 a2 : Nat) : (s.raiseC c x a0 a1 a2).glb = s.glb := s.deliver_glb _ _
@[simp] theorem State.raiseCB_glb (c x a0 a1 a2 : Nat) : (s.raiseCB c x a0 a1 a2).glb = s.glb := s.deliver_glb _ _
@[simp] theorem State.accessEvent_glb (w k n : Nat) : (s.accessEvent w k n).glb = s.glb := s.deliver_glb _ _
@[simp] theorem State.limitEvent_glb (w k : Nat) : (s.limitEvent w k).glb = s.glb := s.deliver_glb _ _
@[simp] theorem State.deliver_tim (e : Event) (w : Nat) : (s.deliver e w).tim = s.tim := by
  obtain ⟨⟨r, i, h⟩, _⟩ := EventOnly.deliver s e w
  rw [h]
@[simp] theorem State.raise_tim (c a0 a1 a2 : Nat) : (s.raise c a0 a1 a2).tim = s.tim := s.deliver_tim _ _
@[simp] theorem State.raiseB_tim (c a0 a1 a2 : Nat) : (s.raiseB c a0 a1 a2).tim = s.tim := s.deliver_tim _ _
@[simp] theorem State.raiseC_tim (c x a0 a1 a2 : Nat) : (s.raiseC c x a0 a1 a2).tim = s.tim := s.deliver_tim _ _
@[simp] theorem State.raiseCB_tim (c x a0 a1 a2 : Nat) : (s.raiseCB c x a0 a1 a2).tim = s.tim := s.deliver_tim _ _
@[simp] theorem State.accessEvent_tim (w k n : Nat) : (s.accessEvent w k n).tim = s.tim := s.deliver_tim _ _
@[simp] theorem State.limitEvent_tim (w k : Nat) : (s.limitEvent w k).tim = s.tim := s.deliver_tim _ _
@[simp] theorem State.deliver_cfg (e : Event) (w : Nat) : (s.deliver e w).cfg = s.cfg := by
  obtain ⟨⟨r, i, h⟩, _⟩ := EventOnly.deliver s e w
  rw [h]
@[simp] theorem State.raise_cfg (c a0 a1 a2 : Nat) : (s.raise c a0 a1 a2).cfg = s.cfg := s.deliver_cfg _ _
@[simp] theorem State.raiseB_cfg (c a0 a1 a2 : Nat) : (s.raiseB c a0 a1 a2).cfg = s.cfg := s.deliver_cfg _ _
@[simp] theorem State.raiseC_cfg (c x a0 a1 a2 : Nat) : (s.raiseC c x a0 a1 a2).cfg = s.cfg := s.deliver_cfg _ _
@[simp] theorem State.raiseCB_cfg (c x a0 a1 a2 : Nat) : (s.raiseCB c x a0 a1 a2).cfg = s.cfg := s.deliver_cfg _ _
@[simp] theorem State.accessEvent_cfg (w k n : Nat) : (s.accessEvent w k n).cfg = s.cfg := s.deliver_cfg _ _
@[simp] theorem State.limitEvent_cfg (w k : Nat) : (s.limitEvent w k).cfg = s.cfg := s.deliver_cfg _ _
@[simp] theorem State.deliver_hif (e : Event) (w : Nat) : (s.deliver e w).hif = s.hif := by
  obtain ⟨⟨r, i, h⟩, _⟩ := EventOnly.deliver s e w
  rw [h]
@[simp] theorem State.raise_hif (c a0 a1 a2 : Nat) : (s.raise c a0 a1 a2).hif = s.hif := s.deliver_hif _ _
@[simp] theorem State.raiseB_hif (c a0 a1 a2 : Nat) : (s.raiseB c a0 a1 a2).hif = s.hif := s.deliver_hif _ _
@[simp] theorem State.raiseC_hif (c x a0 a1 a2 : Nat) : (s.raiseC c x a0 a1 a2).hif = s.hif := s.deliver_hif _ _
@[simp] theorem State.raiseCB_hif (c x a0 a1 a2 : Nat) : (s.raiseCB c x a0 a1 a2).hif = s.hif := s.deliver_hif _ _
@[simp] theorem State.accessEvent_hif (w k n : Nat) : (s.accessEvent w k n).hif = s.hif := s.deliver_hif _ _
@[simp] theorem State.limitEvent_hif (w k : Nat) : (s.limitEvent w k).hif = s.hif := s.deliver_hif _ _
@[simp] theorem State.deliver_mem (e : Event) (w : Nat) : (s.deliver e w).mem = s.mem := by
  obtain ⟨⟨r, i, h⟩, _⟩ := EventOnly.deliver s e w
  rw [h]
@[simp] theorem State.raise_mem (c a0 a1 a2 : Nat) : (s.raise c a0 a1 a2).mem = s.mem := s.deliver_mem _ _
@[simp] theorem State.raiseB_mem (c a0 a1 a2 : Nat) : (s.raiseB c a0 a1 a2).mem = s.mem := s.deliver_mem _ _
@[simp] theorem State.raiseC_mem (c x a0 a1 a2 : Nat) : (s.raiseC c x a0 a1 a2).mem = s.mem := s.deliver_mem _ _
@[simp] theorem State.raiseCB_mem (c x a0 a1 a2 : Nat) : (s.raiseCB c x a0 a1 a2).mem = s.mem := s.deliver_mem _ _
@[simp] theorem State.accessEvent_mem (w k n : Nat) : (s.accessEvent w k n).mem = s.mem := s.deliver_mem _ _
@[simp] theorem State.limitEvent_mem (w k : Nat) : (s.limitEvent w k).mem = s.mem := s.deliver_mem _ _
@[simp] theorem State.deliver_cmp (e : Event) (w : Nat) : (s.deliver e w).cmp = s.cmp := by
  obtain ⟨⟨r, i, h⟩, _⟩ := EventOnly.deliver s e w
  rw [h]
@[simp] theorem State.raise_cmp (c a0 a1 a2 : Nat) : (s.raise c a0 a1 a2).cmp = s.cmp := s.deliver_cmp _ _
@[simp] theorem State.raiseB_cmp (c a0 a1 a2 : Nat) : (s.raiseB c a0 a1 a2).cmp = s.cmp := s.deliver_cmp _ _
@[simp] theorem State.raiseC_cmp (c x a0 a1 a2 : Nat) : (s.raiseC c x a0 a1 a2).cmp = s.cmp := s.deliver_cmp _ _
@[simp] theorem State.raiseCB_cmp (c x a0 a1 a2 : Nat) : (s.raiseCB c x a0 a1 a2).cmp = s.cmp := s.deliver_cmp _ _
@[simp] theorem State.accessEvent_cmp (w k n : Nat) : (s.accessEvent w k n).cmp = s.cmp := s.deliver_cmp _ _
@[simp] theorem State.limitEvent_cmp (w k : Nat) : (s.limitEvent w k).cmp = s.cmp := s.deliver_cmp _ _
@[simp] theorem State.deliver_col (e : Event) (w : Nat) : (s.deliver e w).col = s.col := by
  obtain ⟨⟨r, i, h⟩, _⟩ := EventOnly.deliver s e w
  rw [h]
@[simp] theorem State.raise_col (c a0 a1 a2 : Nat) : (s.raise c a0 a1 a2).col = s.col := s.deliver_col _ _
@[simp] theorem State.raiseB_col (c a0 a1 a2 : Nat) : (s.raiseB c a0 a1 a2).col = s.col := s.deliver_col _ _
@[simp] theorem State.raiseC_col (c x a0 a1 a2 : Nat) : (s.raiseC c x a0 a1 a2).col = s.col := s.deliver_col _ _
@[simp] theorem State.raiseCB_col (c x a0 a1 a2 : Nat) : (s.raiseCB c x a0 a1 a2).col = s.col := s.deliver_col _ _
@[simp] theorem State.accessEvent_col (w k n : Nat) : (s.accessEvent w k n).col = s.col := s.deliver_col _ _
@[simp] theorem State.limitEvent_col (w k : Nat) : (s.limitEvent w k).col = s.col := s.deliver_col _ _
@[simp] theorem State.deliver_pln (e : Event) (w : Nat) : (s.deliver e w).pln = s.pln := by
  obtain ⟨⟨r, i, h⟩, _⟩ := EventOnly.deliver s e w
  rw [h]
@[simp] theorem State.raise_pln (c a0 a1 a2 : Nat) : (s.raise c a0 a1 a2).pln = s.pln := s.deliver_pln _ _
@[simp] theorem State.raiseB_pln (c a0 a1 a2 : Nat) : (s.raiseB c a0 a1 a2).pln = s.pln := s.deliver_pln _ _
@[simp] theorem State.raiseC_pln (c x a0 a1 a2 : Nat) : (s.raiseC c x a0 a1 a2).pln = s.pln := s.deliver_pln _ _
@[simp] theorem State.raiseCB_pln (c x a0 a1 a2 : Nat) : (s.raiseCB c x a0 a1 a2).pln = s.pln := s.deliver_pln _ _
@[simp] theorem State.accessEvent_pln (w k n : Nat) : (s.accessEvent w k n).pln = s.pln := s.deliver_pln _ _
@[simp] theorem State.limitEvent_pln (w k : Nat) : (s.limitEvent w k).pln = s.pln := s.deliver_pln _ _
@[simp] theorem State.deliver_seq (e : Event) (w : Nat) : (s.deliver e w).seq = s.seq := by
  obtain ⟨⟨r, i, h⟩, _⟩ := EventOnly.deliver s e w
  rw [h]
@[simp] theorem State.raise_seq (c a0 a1 a2 : Nat) : (s.raise c a0 a1 a2).seq = s.seq := s.deliver_seq _ _
@[simp] theorem State.raiseB_seq (c a0 a1 a2 : Nat) : (s.raiseB c a0 a1 a2).seq = s.seq := s.deliver_seq _ _
@[simp] theorem State.raiseC_seq (c x a0 a1 a2 : Nat) : (s.raiseC c x a0 a1 a2).seq = s.seq := s.deliver_seq _ _
@[simp] theorem State.raiseCB_seq (c x a0 a1 a2 : Nat) : (s.raiseCB c x a0 a1 a2).seq = s.seq := s.deliver_seq _ _
@[simp] theorem State.accessEvent_seq (w k n : Nat) : (s.accessEvent w k n).seq = s.seq := s.deliver_seq _ _
@[simp] theorem State.limitEvent_seq (w k : Nat) : (s.limitEvent w k).seq = s.seq := s.deliver_seq _ _
@[simp] theorem State.deliver_apt (e : Event) (w : Nat) : (s.deliver e w).apt = s.apt := by
  obtain ⟨⟨r, i, h⟩, _⟩ := EventOnly.deliver s e w
  rw [h]
@[simp] theorem State.raise_apt (c a0 a1 a2 : Nat) : (s.raise c a0 a1 a2).apt = s.apt := s.deliver_apt _ _
@[simp] theorem State.raiseB_apt (c a0 a1 a2 : Nat) : (s.raiseB c a0 a1 a2).apt = s.apt := s.deliver_apt _ _
@[simp] theorem State.raiseC_apt (c x a0 a1 a2 : Nat) : (s.raiseC c x a0 a1 a2).apt = s.apt := s.deliver_apt _ _
@[simp] theorem State.raiseCB_apt (c x a0 a1 a2 : Nat) : (s.raiseCB c x a0 a1 a2).apt = s.apt := s.deliver_apt _ _
@[simp] theorem State.accessEvent_apt (w k n : Nat) : (s.accessEvent w k n).apt = s.apt := s.deliver_apt _ _
@[simp] theorem State.limitEvent_apt (w k : Nat) : (s.limitEvent w k).apt = s.apt := s.deliver_apt _ _
@[simp] theorem State.deliver_scn (e : Event) (w : Nat) : (s.deliver e w).scn = s.scn := by
  obtain ⟨⟨r, i, h⟩, _⟩ := EventOnly.deliver s e w
  rw [h]
@[simp] theorem State.raise_scn (c a0 a1 a2 : Nat) : (s.raise c a0 a1 a2).scn = s.scn := s.deliver_scn _ _
@[simp] theorem State.raiseB_scn (c a0 a1 a2 : Nat) : (s.raiseB c a0 a1 a2).scn = s.scn := s.deliver_scn _ _
@[simp] theorem State.raiseC_scn (c x a0 a1 a2 : Nat) : (s.raiseC c x a0 a1 a2).scn = s.scn := s.deliver_scn _ _
@[simp] theorem State.raiseCB_scn (c x a0 a1 a2 : Nat) : (s.raiseCB c x a0 a1 a2).scn = s.scn := s.deliver_scn _ _
@[simp] theorem State.accessEvent_scn (w k n : Nat) : (s.accessEvent w k n).scn = s.scn := s.deliver_scn _ _
@[simp] theorem State.limitEvent_scn (w k : Nat) : (s.limitEvent w k).scn = s.scn := s.deliver_scn _ _
@[simp] theorem State.deliver_lmp (e : Event) (w : Nat) : (s.deliver e w).lmp = s.lmp := by
  obtain ⟨⟨r, i, h⟩, _⟩ := EventOnly.deliver s e w
  rw [h]
@[simp] theorem State.raise_lmp (c a0 a1 a2 : Nat) : (s.raise c a0 a1 a2).lmp = s.lmp := s.deliver_lmp _ _
@[simp] theorem State.raiseB_lmp (c a0 a1 a2 : Nat) : (s.raiseB c a0 a1 a2).lmp = s.lmp := s.deliver_lmp _ _
@[simp] theorem State.raiseC_lmp (c x a0 a1 a2 : Nat) : (s.raiseC c x a0 a1 a2).lmp = s.lmp := s.deliver_lmp _ _
@[simp] theorem State.raiseCB_lmp (c x a0 a1 a2 : Nat) : (s.raiseCB c x a0 a1 a2).lmp = s.lmp := s.deliver_lmp _ _
@[simp] theorem State.accessEvent_lmp (w k n : Nat) : (s.accessEvent w k n).lmp = s.lmp := s.deliver_lmp _ _
@[simp] theorem State.limitEvent_lmp (w k : Nat) : (s.limitEvent w k).lmp = s.lmp := s.deliver_lmp _ _
@[simp] theorem State.deliver_lan (e : Event) (w : Nat) : (s.deliver e w).lan = s.lan := by
  obtain ⟨⟨r, i, h⟩, _⟩ := EventOnly.deliver s e w
  rw [h]
@[simp] theorem State.raise_lan (c a0 a1 a2 : Nat) : (s.raise c a0 a1 a2).lan = s.lan := s.deliver_lan _ _
@[simp] theorem State.raiseB_lan (c a0 a1 a2 : Nat) : (s.raiseB c a0 a1 a2).lan = s.lan := s.deliver_lan _ _
@[simp] theorem State.raiseC_lan (c x a0 a1 a2 : Nat) : (s.raiseC c x a0 a1 a2).lan = s.lan := s.deliver_lan _ _
@[simp] theorem State.raiseCB_lan (c x a0 a1 a2 : Nat) : (s.raiseCB c x a0 a1 a2).lan = s.lan := s.deliver_lan _ _
@[simp] theorem State.accessEvent_lan (w k n : Nat) : (s.accessEvent w k n).lan = s.lan := s.deliver_lan _ _
@[simp] theorem State.limitEvent_lan (w k : Nat) : (s.limitEvent w k).lan = s.lan := s.deliver_lan _ _
@[simp] theorem State.deliver_lxs (e : Event) (w : Nat) : (s.deliver e w).lxs = s.lxs := by
  obtain ⟨⟨r, i, h⟩, _⟩ := EventOnly.deliver s e w
  rw [h]
@[simp] theorem State.raise_lxs (c a0 a1 a2 : Nat) : (s.raise c a0 a1 a2).lxs = s.lxs := s.deliver_lxs _ _
@[simp] theorem State.raiseB_lxs (c a0 a1 a2 : Nat) : (s.raiseB c a0 a1 a2).lxs = s.lxs := s.deliver_lxs _ _
@[simp] theorem State.raiseC_lxs (c x a0 a1 a2 : Nat) : (s.raiseC c x a0 a1 a2).lxs = s.lxs := s.deliver_lxs _ _
@[simp] theorem State.raiseCB_lxs (c x a0 a1 a2 : Nat) : (s.raiseCB c x a0 a1 a2).lxs = s.lxs := s.deliver_lxs _ _
@[simp] theorem State.accessEvent_lxs (w k n : Nat) : (s.accessEvent w k n).lxs = s.lxs := s.deliver_lxs _ _
@[simp] theorem State.limitEvent_lxs (w k : Nat) : (s.limitEvent w k).lxs = s.lxs := s.deliver_lxs _ _
@[simp] theorem State.deliver_mtr (e : Event) (w : Nat) : (s.deliver e w).mtr = s.mtr := by
  obtain ⟨⟨r, i, h⟩, _⟩ := EventOnly.deliver s e w
  rw [h]
@[simp] theorem State.raise_mtr (c a0 a1 a2 : Nat) : (s.raise c a0 a1 a2).mtr = s.mtr := s.deliver_mtr _ _
@[simp] theorem State.raiseB_mtr (c a0 a1 a2 : Nat) : (s.raiseB c a0 a1 a2).mtr = s.mtr := s.deliver_mtr _ _
@[simp] theorem State.raiseC_mtr (c x a0 a1 a2 : Nat) : (s.raiseC c x a0 a1 a2).mtr = s.mtr := s.deliver_mtr _ _
@[simp] theorem State.raiseCB_mtr (c x a0 a1 a2 : Nat) : (s.raiseCB c x a0 a1 a2).mtr = s.mtr := s.deliver_mtr _ _
@[simp] theorem State.accessEvent_mtr (w k n : Nat) : (s.accessEvent w k n).mtr = s.mtr := s.deliver_mtr _ _
@[simp] theorem State.limitEvent_mtr (w k : Nat) : (s.limitEvent w k).mtr = s.mtr := s.deliver_mtr _ _
@[simp] theorem State.deliver_thm (e : Event) (w : Nat) : (s.deliver e w).thm = s.thm := by
  obtain ⟨⟨r, i, h⟩, _⟩ := EventOnly.deliver s e w
  rw [h]
@[simp] theorem State.raise_thm (c a0 a1 a2 : Nat) : (s.raise c a0 a1 a2).thm = s.thm := s.deliver_thm _ _
@[simp] theorem State.raiseB_thm (c a0 a1 a2 : Nat) : (s.raiseB c a0 a1 a2).thm = s.thm := s.deliver_thm _ _
@[simp] theorem State.raiseC_thm (c x a0 a1 a2 : Nat) : (s.raiseC c x a0 a1 a2).thm = s.thm := s.deliver_thm _ _
@[simp] theorem State.raiseCB_thm (c x a0 a1 a2 : Nat) : (s.raiseCB c x a0 a1 a2).thm = s.thm := s.deliver_thm _ _
@[simp] theorem State.accessEvent_thm (w k n : Nat) : (s.accessEvent w k n).thm = s.thm := s.deliver_thm _ _
@[simp] theorem State.limitEvent_thm (w k : Nat) : (s.limitEvent w k).thm = s.thm := s.deliver_thm _ _
@[simp] theorem State.deliver_cal (e : Event) (w : Nat) : (s.deliver e w).cal = s.cal := by
  obtain ⟨⟨r, i, h⟩, _⟩ := EventOnly.deliver s e w
  rw [h]
@[simp] theorem State.raise_cal (c a0 a1 a2 : Nat) : (s.raise c a0 a1 a2).cal = s.cal := s.deliver_cal _ _
@[simp] theorem State.raiseB_cal (c a0 a1 a2 : Nat) : (s.raiseB c a0 a1 a2).cal = s.cal := s.deliver_cal _ _
@[simp] theorem State.raiseC_cal (c x a0 a1 a2 : Nat) : (s.raiseC c x a0 a1 a2).cal = s.cal := s.deliver_cal _ _
@[simp] theorem State.raiseCB_cal (c x a0 a1 a2 : Nat) : (s.raiseCB c x a0 a1 a2).cal = s.cal := s.deliver_cal _ _
@[simp] theorem State.accessEvent_cal (w k n : Nat) : (s.accessEvent w k n).cal = s.cal := s.deliver_cal _ _
@[simp] theorem State.limitEvent_cal (w k : Nat) : (s.limitEvent w k).cal = s.cal := s.deliver_cal _ _
@[simp] theorem State.deliver_pending (e : Event) (w : Nat) : (s.deliver e w).pending = s.pending := by
  obtain ⟨⟨r, i, h⟩, _⟩ := EventOnly.deliver s e w
  rw [h]
@[simp] theorem State.raise_pending (c a0 a1 a2 : Nat) : (s.raise c a0 a1 a2).pending = s.pending := s.deliver_pending _ _
@[simp] theorem State.raiseB_pending (c a0 a1 a2 : Nat) : (s.raiseB c a0 a1 a2).pending = s.pending := s.deliver_pending _ _
@[simp] theorem State.raiseC_pending (c x a0 a1 a2 : Nat) : (s.raiseC c x a0 a1 a2).pending = s.pending := s.deliver_pending _ _
@[simp] theorem State.raiseCB_pending (c x a0 a1 a2 : Nat) : (s.raiseCB c x a0 a1 a2).pending = s.pending := s.deliver_pending _ _
@[simp] theorem State.accessEvent_pending (w k n : Nat) : (s.accessEvent w k n).pending = s.pending := s.deliver_pending _ _
@[simp] theorem State.limitEvent_pending (w k : Nat) : (s.limitEvent w k).pending = s.pending := s.deliver_pending _ _

end Sys2Proof.Machine
end

