-- ==== Sys2Proof/Laws/Count.lean ====
section
/-! SUPPORT. How delivering an event counts it (R431), and what leaves the counts alone. -/
namespace Sys2Proof.Machine

theorem tget_tset_self {α : Type} (d : α) (t : Tbl α) (a : Nat) (v : α) : tget d (tset t a v) a = v := by
  simp [tget]

theorem State.alert_codeCount (s : State) (f : Nat) : (s.alert f).int.codeCount = s.int.codeCount := by
  unfold State.alert; split <;> rfl

theorem State.showHeld_codeCount (s : State) (f : Nat) : (s.showHeld f).int.codeCount = s.int.codeCount := by
  show (s.trimHeld f).int.codeCount = _
  unfold State.trimHeld
  split
  · rfl
  · exact State.alert_codeCount _ f

theorem State.passEvent_codeCount (s : State) (q : Nat) (e : Event) : (s.passEvent q e).int.codeCount = s.int.codeCount := by
  have hr : ∀ (t : State) (q c : Nat), (t.countRate q c).int.codeCount = t.int.codeCount := fun t q c => by
    unfold State.countRate; split <;> rfl
  have hh : ∀ (t : State) (q : Nat) (e : Event), (t.hold q e).int.codeCount = t.int.codeCount := fun t q e => by
    unfold State.hold; dsimp only; split; · exact State.alert_codeCount _ _
    split; · exact State.showHeld_codeCount _ _
    rfl
  have hl : ∀ (t : State) (e : Event), (t.logEvent e).int.codeCount = t.int.codeCount := fun t e => rfl
  unfold State.passEvent
  dsimp only
  simp only [apply_ite State.int, apply_ite IntSt.codeCount, hr, hh, hl, ite_self]

theorem State.deliver_codeCount (s : State) (e : Event) (w : Nat) :
    (s.deliver e w).int.codeCount = tmod 0 s.int.codeCount e.code (fun n => (n + 1) % 2 ^ 32) := by
  unfold State.deliver
  dsimp only
  split
  · rw [State.passEvent_codeCount]
    generalize hs : ({ s with int := { s.int with codeCount := tmod 0 s.int.codeCount e.code (fun n => (n + 1) % 2 ^ 32) } } :
      State) = s1
    have h1 : s1.int.codeCount = tmod 0 s.int.codeCount e.code (fun n => (n + 1) % 2 ^ 32) := by rw [← hs]
    generalize List.filter s1.ctxTakesEvents _ = l
    rw [← h1]
    clear hs h1
    unfold foldOver
    induction l generalizing s1 with
    | nil => rfl
    | cons a r ih => exact (ih _).trans (State.passEvent_codeCount _ _ _)
  · split
    · split <;> exact State.passEvent_codeCount _ _ _
    · split
      · exact State.passEvent_codeCount _ _ _
      · split <;> exact State.passEvent_codeCount _ _ _
    · exact State.passEvent_codeCount _ _ _

/-- An event adds one to the count of its code, and to no other. -/
theorem State.deliver_eventCount (s : State) (e : Event) (w c : Nat) :
    (s.deliver e w).eventCount c = if c = e.code then (s.eventCount c + 1) % 2 ^ 32 else s.eventCount c := by
  unfold State.eventCount
  rw [State.deliver_codeCount]
  unfold tmod
  split
  · next h => subst h; exact tget_tset_self _ _ _ _
  · next h => exact tget_tset_other _ _ _ h

theorem State.raise_eventCount (s : State) (c a0 a1 a2 k : Nat) :
    (s.raise c a0 a1 a2).eventCount k = if k = c then (s.eventCount k + 1) % 2 ^ 32 else s.eventCount k :=
  s.deliver_eventCount _ _ _

theorem State.raiseB_eventCount (s : State) (c a0 a1 a2 k : Nat) :
    (s.raiseB c a0 a1 a2).eventCount k = if k = c then (s.eventCount k + 1) % 2 ^ 32 else s.eventCount k :=
  s.deliver_eventCount _ _ _

theorem State.raiseC_eventCount (s : State) (c x a0 a1 a2 k : Nat) :
    (s.raiseC c x a0 a1 a2).eventCount k = if k = c then (s.eventCount k + 1) % 2 ^ 32 else s.eventCount k :=
  s.deliver_eventCount _ _ _

theorem State.raiseCB_eventCount (s : State) (c x a0 a1 a2 k : Nat) :
    (s.raiseCB c x a0 a1 a2).eventCount k = if k = c then (s.eventCount k + 1) % 2 ^ 32 else s.eventCount k :=
  s.deliver_eventCount _ _ _

theorem State.accessEvent_eventCount (s : State) (w k n c : Nat) :
    (s.accessEvent w k n).eventCount c = if c = 0x0F06 then (s.eventCount c + 1) % 2 ^ 32 else s.eventCount c :=
  s.deliver_eventCount _ _ _

theorem State.limitEvent_eventCount (s : State) (w k c : Nat) :
    (s.limitEvent w k).eventCount c = if c = 0x0F05 then (s.eventCount c + 1) % 2 ^ 32 else s.eventCount c :=
  s.deliver_eventCount _ _ _

/-- Where INT stands as it did, so do the counts. -/
theorem State.eventCount_congr {s t : State} (h : t.int = s.int) (c : Nat) : t.eventCount c = s.eventCount c := by
  simp only [State.eventCount, h]

@[simp] theorem State.tick_eventCount (s : State) (dt c : Nat) : (s.tick dt).eventCount c = s.eventCount c := rfl
@[simp] theorem State.put_eventCount (s : State) (f : Fld) (v c : Nat) : (s.put f v).eventCount c = s.eventCount c := rfl
@[simp] theorem State.putB_eventCount (s : State) (f : Fld) (b : Bool) (c : Nat) : (s.putB f b).eventCount c = s.eventCount c := rfl
@[simp] theorem State.putSat_eventCount (s : State) (f : Fld) (v c : Nat) : (s.putSat f v).eventCount c = s.eventCount c := rfl
@[simp] theorem State.inc_eventCount (s : State) (f : Fld) (c : Nat) : (s.inc f).eventCount c = s.eventCount c := rfl
@[simp] theorem State.incSat_eventCount (s : State) (f : Fld) (n c : Nat) : (s.incSat f n).eventCount c = s.eventCount c := rfl
@[simp] theorem State.wrN_eventCount (s : State) (a n c : Nat) : (s.wrN a n).eventCount c = s.eventCount c := rfl
@[simp] theorem State.wr_eventCount (s : State) (a c : Nat) (w : Word) : (s.wr a w).eventCount c = s.eventCount c := rfl
@[simp] theorem State.send_eventCount (s : State) (m : OutMsg) (c : Nat) : (s.send m).eventCount c = s.eventCount c := rfl
@[simp] theorem State.useFree_eventCount (s : State) (c : Nat) : s.useFree.eventCount c = s.eventCount c := rfl

end Sys2Proof.Machine
end

