-- ==== Sys2Proof/Laws/Memory.lean ====
section
/-! SUPPORT. The memory's canonical form is kept by every memory operation, and what a byte reads after one. -/
namespace Sys2Proof.Machine

/-- Every key of a table lies above `a`. -/
def tabove {α : Type} (a : Nat) (t : Tbl α) : Prop := ∀ e ∈ t, a < e.1

variable {α : Type}

theorem tsorted_cons (a : Nat) (v : α) (t : Tbl α) : tsorted ((a, v) :: t) = true ↔ tabove a t ∧ tsorted t = true := by
  induction t generalizing a v with
  | nil => simp [tsorted, tabove]
  | cons e r ih =>
    obtain ⟨l, w⟩ := e
    simp only [tsorted, Bool.and_eq_true, decide_eq_true_eq]
    constructor
    · intro h
      refine ⟨fun e he => ?_, h.2⟩
      rcases List.mem_cons.1 he with h1 | h1
      · subst h1; exact h.1
      · exact Nat.lt_trans h.1 (((ih l w).1 h.2).1 e h1)
    · intro h
      exact ⟨h.1 (l, w) (List.mem_cons_self ..), h.2⟩

theorem tabove_tset {a b : Nat} {v : α} {t : Tbl α} (h : tabove a t) (hb : a < b) : tabove a (tset t b v) := by
  induction t with
  | nil => intro e he; simp [tset] at he; subst he; exact hb
  | cons x r ih =>
    obtain ⟨k, w⟩ := x
    have hr : tabove a r := fun e he => h e (List.mem_cons_of_mem _ he)
    have hk : a < k := h (k, w) (List.mem_cons_self ..)
    intro e he
    simp only [tset] at he
    split at he
    · rcases List.mem_cons.1 he with h1 | h1
      · subst h1; exact hb
      · exact hr e h1
    · split at he
      · rcases List.mem_cons.1 he with h1 | h1
        · subst h1; exact hb
        · exact h e h1
      · rcases List.mem_cons.1 he with h1 | h1
        · subst h1; exact hk
        · exact ih hr e h1

theorem tsorted_tset {t : Tbl α} (a : Nat) (v : α) (h : tsorted t = true) : tsorted (tset t a v) = true := by
  induction t with
  | nil => rfl
  | cons x r ih =>
    obtain ⟨k, w⟩ := x
    obtain ⟨h1, h2⟩ := (tsorted_cons k w r).1 h
    simp only [tset]
    split
    · next e => subst e; exact (tsorted_cons _ _ _).2 ⟨h1, h2⟩
    · split
      · next hn hl =>
        refine (tsorted_cons _ _ _).2 ⟨fun e he => ?_, h⟩
        rcases List.mem_cons.1 he with h3 | h3
        · subst h3; exact hl
        · exact Nat.lt_trans hl (h1 e h3)
      · next hn hl => exact (tsorted_cons _ _ _).2 ⟨tabove_tset h1 (by omega), ih h2⟩

theorem tsorted_filter {t : Tbl α} (p : Nat × α → Bool) (h : tsorted t = true) : tsorted (t.filter p) = true := by
  induction t with
  | nil => rfl
  | cons x r ih =>
    obtain ⟨k, w⟩ := x
    obtain ⟨h1, h2⟩ := (tsorted_cons k w r).1 h
    simp only [List.filter_cons]
    split
    · exact (tsorted_cons _ _ _).2 ⟨fun e he => h1 e (List.mem_filter.1 he).1, ih h2⟩
    · exact ih h2

theorem mem_tset {t : Tbl α} {a : Nat} {v : α} {e : Nat × α} (h : e ∈ tset t a v) : e = (a, v) ∨ e ∈ t := by
  induction t with
  | nil => simpa [tset] using h
  | cons x r ih =>
    obtain ⟨k, w⟩ := x
    simp only [tset] at h
    split at h
    · rcases List.mem_cons.1 h with h1 | h1
      · exact .inl h1
      · exact .inr (List.mem_cons_of_mem _ h1)
    · split at h
      · rcases List.mem_cons.1 h with h1 | h1
        · exact .inl h1
        · exact .inr h1
      · rcases List.mem_cons.1 h with h1 | h1
        · exact .inr (h1 ▸ List.mem_cons_self ..)
        · exact (ih h1).imp_right (List.mem_cons_of_mem _)

theorem dramWf_iff (m : List Host.Cell) :
    dramWf m = true ↔ tsorted m = true ∧ ∀ e ∈ m, e.2 ≠ unlistedByte := by
  simp [dramWf]

theorem dramSet_wf {m : List Host.Cell} (a : Nat) (v : Byte) (h : dramWf m = true) : dramWf (dramSet m a v) = true := by
  obtain ⟨h1, h2⟩ := (dramWf_iff m).1 h
  unfold dramSet
  split
  · exact (dramWf_iff _).2 ⟨tsorted_filter _ h1, fun e he => h2 e (List.mem_filter.1 he).1⟩
  · next hv =>
    refine (dramWf_iff _).2 ⟨tsorted_tset a v h1, fun e he => ?_⟩
    rcases mem_tset he with h3 | h3
    · subst h3; exact hv
    · exact h2 e h3

theorem dramWrite_wf {m : List Host.Cell} (a : Nat) (bs : List Byte) (h : dramWf m = true) :
    dramWf (dramWrite m a bs) = true := by
  induction bs generalizing m a with
  | nil => exact h
  | cons b r ih => exact ih (a + 1) (dramSet_wf a b h)

theorem dramZero_wf {m : List Host.Cell} (a n : Nat) (h : dramWf m = true) : dramWf (dramZero m a n) = true := by
  obtain ⟨h1, h2⟩ := (dramWf_iff m).1 h
  exact (dramWf_iff _).2 ⟨tsorted_filter _ h1, fun e he => h2 e (List.mem_filter.1 he).1⟩

theorem dramGet_set (m : List Host.Cell) (a b : Nat) (v : Byte) :
    dramGet (dramSet m a v) b = if b = a then v else dramGet m b := by
  unfold dramSet dramGet tget
  split
  · next e => rw [tfind_tdel]; split <;> simp [e]
  · rw [tfind_tset]; split <;> simp

theorem dramGet_write_below {m : List Host.Cell} {a b : Nat} (bs : List Byte) (h : b < a) :
    dramGet (dramWrite m a bs) b = dramGet m b := by
  induction bs generalizing m a with
  | nil => rfl
  | cons x r ih =>
    rw [dramWrite, ih (by omega), dramGet_set, if_neg (by omega)]

/-- What a byte reads after a write of several: the byte written there, or as before. -/
theorem dramGet_write (m : List Host.Cell) (a b : Nat) (bs : List Byte) :
    dramGet (dramWrite m a bs) b = if a ≤ b ∧ b < a + bs.length then bs.getD (b - a) 0 else dramGet m b := by
  induction bs generalizing m a with
  | nil => simp [dramWrite]
  | cons x r ih =>
    rw [dramWrite, ih]
    by_cases h1 : b = a
    · subst h1; simp [dramGet_set]
    · by_cases h2 : a + 1 ≤ b ∧ b < a + 1 + r.length
      · rw [if_pos h2, if_pos (by simp; omega)]
        obtain ⟨k, rfl⟩ : ∃ k, b = a + 1 + k := ⟨b - (a + 1), by omega⟩
        rw [show a + 1 + k - (a + 1) = k by omega, show a + 1 + k - a = k + 1 by omega]
        rfl
      · rw [if_neg h2, if_neg (by simp; omega), dramGet_set, if_neg h1]

theorem dramGet_zero (m : List Host.Cell) (a n b : Nat) :
    dramGet (dramZero m a n) b = if a ≤ b ∧ b < a + n then unlistedByte else dramGet m b := by
  unfold dramGet tget dramZero
  rw [tfind_filter m (fun k => !(decide (a ≤ k) && decide (k < a + n))) b]
  by_cases h : a ≤ b ∧ b < a + n
  · simp [h.1, h.2]
  · rw [if_neg h, if_pos]
    simp only [Bool.not_eq_true', Bool.and_eq_false_iff, decide_eq_false_iff_not]
    omega

/-- Bytes written read back. -/
theorem dramRead_write (m : List Host.Cell) (a : Nat) (bs : List Byte) :
    dramRead (dramWrite m a bs) a bs.length = bs := by
  have key : ∀ (n b : Nat) (m : List Host.Cell) (f : Nat → Byte), (∀ k < n, dramGet m (b + k) = f k) →
      dramRead m b n = (List.range n).map f := by
    intro n
    induction n with
    | zero => intro _ _ _ _; rfl
    | succ n ih =>
      intro b m f h
      rw [dramRead, ih (b + 1) m (fun k => f (k + 1)) (fun k hk => by
        have := h (k + 1) (by omega); rwa [show b + 1 + k = b + (k + 1) by omega]), List.range_succ_eq_map]
      simp [← h 0 (by omega)]
  rw [key bs.length a _ (fun k => bs.getD k 0)]
  · refine List.ext_getElem (by simp) fun k h1 h2 => ?_
    simp [List.getD_eq_getElem?_getD, List.getElem?_eq_getElem h2]
  · intro k hk
    rw [dramGet_write, if_pos ⟨by omega, by omega⟩, Nat.add_sub_cancel_left]

end Sys2Proof.Machine
end

