-- ==== Sys2Proof/Laws/Frame.lean ====
section
/-! SUPPORT. What every change leaves: the relation, its laws for the primitive updates, and its rules for the forms that the
meanings are built of. -/
namespace Sys2Proof.Machine

set_option linter.all false
set_option linter.unusedTactic false
set_option linter.unreachableTactic false

/-- A property of the memory that writing a byte and scrubbing a range keep. -/
def DramOk (D : List Host.Cell → Prop) : Prop :=
  (∀ m a v, D m → D (dramSet m a v)) ∧ ∀ m a n, D m → D (dramZero m a n)

theorem DramOk.write {D : List Host.Cell → Prop} (hD : DramOk D) {m : List Host.Cell} (a : Nat) (bs : List Byte) (h : D m) :
    D (dramWrite m a bs) := by
  induction bs generalizing m a with
  | nil => exact h
  | cons b r ih => exact ih (a + 1) (hD.1 m a b h)

theorem DramOk.wf : DramOk (fun m => dramWf m = true) := ⟨fun _ a v h => dramSet_wf a v h, fun _ a n h => dramZero_wf a n h⟩

/-- From `s0` to `s` only registers in `W` and parts in `K` have changed, the queue waits as it did, and the memory has
property `D`. -/
structure Fr (D : List Host.Cell → Prop) (W : Nat → Prop) (K : Part → Prop) (s0 s : State) : Prop where
  frame : Frame W K s0 s
  queue : s.pending = s0.pending
  dram : D s.mem.dram

section
variable {D : List Host.Cell → Prop} {W : Nat → Prop} {K : Part → Prop} {s0 : State}

/-- What delivering an event needs of a frame. -/
def Ev (W : Nat → Prop) (K : Part → Prop) : Prop := (∀ a, evReg a = true → W a) ∧ K .int

theorem Frame.refl (s : State) : Frame W K s s := ⟨fun _ _ => rfl, fun p _ => by cases p <;> rfl⟩

theorem Part.same_trans {p : Part} {s t u : State} (h1 : p.same s t) (h2 : p.same t u) : p.same s u := by
  cases p <;> exact Eq.trans h2 h1

theorem Frame.trans {s t u : State} (h1 : Frame W K s t) (h2 : Frame W K t u) : Frame W K s u :=
  ⟨fun a ha => (h2.1 a ha).trans (h1.1 a ha), fun p hp => Part.same_trans (h1.2 p hp) (h2.2 p hp)⟩

theorem Fr.via {s u : State} (h : Fr D W K s0 s) (hf : Frame W K s u) (hq : u.pending = s.pending)
    (hm : u.mem.dram = s.mem.dram) : Fr D W K s0 u := ⟨h.frame.trans hf, hq.trans h.queue, hm ▸ h.dram⟩

theorem Fr.ite {c : Prop} [Decidable c] {a b : State} (h1 : Fr D W K s0 a) (h2 : Fr D W K s0 b) :
    Fr D W K s0 (if c then a else b) := by split <;> assumption

theorem Fr.ite1 {α : Type} {c : Prop} [Decidable c] {a b : State × α} (h1 : Fr D W K s0 a.1) (h2 : Fr D W K s0 b.1) :
    Fr D W K s0 (if c then a else b).1 := by split <;> assumption

theorem Fr.cut {x : State} {P : Prop} (h : Fr D W K s0 x) (k : Fr D W K s0 x → P) : P := k h

/-- A change of parts in `K` alone. -/
theorem Fr.upd {s u : State} (h : Fr D W K s0 s) (hr : u.regs = s.regs) (hp : ∀ p, ¬ K p → p.same s u)
    (hq : u.pending = s.pending) (hm : u.mem.dram = s.mem.dram) : Fr D W K s0 u :=
  h.via ⟨fun a _ => by simp only [State.rd, hr], hp⟩ hq hm

theorem foldOver_frame_mem {α : Type} (l : List α) (f : α → State → State) {s : State}
    (hf : ∀ a ∈ l, ∀ t, Fr D W K s0 t → Fr D W K s0 (f a t)) (h : Fr D W K s0 s) : Fr D W K s0 (foldOver l f s) := by
  unfold foldOver
  induction l generalizing s with
  | nil => exact h
  | cons a r ih => exact ih (fun b hb => hf b (List.mem_cons_of_mem _ hb)) (hf a (List.mem_cons_self ..) s h)

theorem foldOver_frame {α : Type} (l : List α) (f : α → State → State) {s : State}
    (hf : ∀ a t, Fr D W K s0 t → Fr D W K s0 (f a t)) (h : Fr D W K s0 s) : Fr D W K s0 (foldOver l f s) := by
  unfold foldOver
  induction l generalizing s with
  | nil => exact h
  | cons a r ih => exact ih (hf a s h)

theorem foldl_frame {α : Type} (l : List α) (f : State → α → State) {s : State}
    (hf : ∀ t a, Fr D W K s0 t → Fr D W K s0 (f t a)) (h : Fr D W K s0 s) : Fr D W K s0 (l.foldl f s) := by
  induction l generalizing s with
  | nil => exact h
  | cons a r ih => exact ih (hf s a h)

theorem State.tick_frame (s : State) (dt : Nat) (h : Fr D W K s0 s) : Fr D W K s0 (s.tick dt) :=
  h.via ⟨fun _ _ => rfl, fun p _ => by cases p <;> rfl⟩ rfl rfl

theorem State.wr_frame (s : State) (a : Nat) (w : Word) (hW : W a) (h : Fr D W K s0 s) : Fr D W K s0 (s.wr a w) := by
  refine h.via ⟨fun b hb => ?_, fun p _ => by cases p <;> rfl⟩ rfl rfl
  exact tget_tset_other _ _ _ (fun e => hb (e ▸ hW))

theorem State.wrN_frame (s : State) (a n : Nat) (hW : W a) (h : Fr D W K s0 s) : Fr D W K s0 (s.wrN a n) :=
  State.wr_frame s a _ hW h

theorem State.put_frame (s : State) (f : Fld) (v : Nat) (hW : W f.reg) (h : Fr D W K s0 s) : Fr D W K s0 (s.put f v) :=
  State.wrN_frame s _ _ hW h

theorem State.putB_frame (s : State) (f : Fld) (b : Bool) (hW : W f.reg) (h : Fr D W K s0 s) : Fr D W K s0 (s.putB f b) :=
  State.put_frame s f _ hW h

theorem State.putSat_frame (s : State) (f : Fld) (v : Nat) (hW : W f.reg) (h : Fr D W K s0 s) : Fr D W K s0 (s.putSat f v) :=
  State.put_frame s f _ hW h

theorem State.inc_frame (s : State) (f : Fld) (hW : W f.reg) (h : Fr D W K s0 s) : Fr D W K s0 (s.inc f) :=
  State.put_frame s f _ hW h

theorem State.incSat_frame (s : State) (f : Fld) (n : Nat) (hW : W f.reg) (h : Fr D W K s0 s) : Fr D W K s0 (s.incSat f n) :=
  State.put_frame s f _ hW h

theorem State.resetReg_frame (s : State) (a : Nat) (hW : W a) (hk : K .act) (h : Fr D W K s0 s) : Fr D W K s0 (s.resetReg a) := by
  refine h.via ⟨fun b hb => ?_, fun p hp => by cases p <;> first | rfl | exact absurd hk hp⟩ rfl rfl
  have hne : b ≠ a := fun e => hb (e ▸ hW)
  simp only [State.resetReg, State.rd, tget, tfind_tdel, if_neg hne]

theorem State.actWr_frame (s : State) (a : Nat) (w : Word) (hk : K .act) (h : Fr D W K s0 s) : Fr D W K s0 (s.actWr a w) :=
  h.via ⟨fun _ _ => rfl, fun p hp => by cases p <;> first | rfl | exact absurd hk hp⟩ rfl rfl

theorem State.applyShadow_frame (s : State) (a : Nat) (hk : K .act) (h : Fr D W K s0 s) : Fr D W K s0 (s.applyShadow a) :=
  State.actWr_frame s a _ hk h

theorem State.send_frame (s : State) (m : OutMsg) (hk : K .out) (h : Fr D W K s0 s) : Fr D W K s0 (s.send m) :=
  h.via ⟨fun _ _ => rfl, fun p hp => by cases p <;> first | rfl | exact absurd hk hp⟩ rfl rfl

theorem State.useFree_frame (s : State) (hk : K .fresh) (h : Fr D W K s0 s) : Fr D W K s0 s.useFree :=
  h.via ⟨fun _ _ => rfl, fun p hp => by cases p <;> first | rfl | exact absurd hk hp⟩ rfl rfl

theorem EventOnly.frame {s t : State} (h : EventOnly s t) (hE : Ev W K) : Frame W K s t := by
  obtain ⟨⟨r, i, e⟩, h2⟩ := h
  refine ⟨fun a ha => h2 a ?_, fun p hp => ?_⟩
  · by_contra hc
    exact ha (hE.1 a (by simpa using hc))
  · rw [e]
    cases p <;> first | rfl | exact absurd hE.2 hp

theorem State.deliver_frame (s : State) (e : Event) (w : Nat) (hE : Ev W K) (h : Fr D W K s0 s) :
    Fr D W K s0 (s.deliver e w) :=
  h.via ((EventOnly.deliver s e w).frame hE) (by obtain ⟨⟨r, i, e⟩, _⟩ := EventOnly.deliver s e w; rw [e])
    (by rw [State.deliver_mem])

theorem State.raise_frame (s : State) (c a0 a1 a2 : Nat) (hE : Ev W K) (h : Fr D W K s0 s) :
    Fr D W K s0 (s.raise c a0 a1 a2) := State.deliver_frame s _ _ hE h

theorem State.raiseB_frame (s : State) (c a0 a1 a2 : Nat) (hE : Ev W K) (h : Fr D W K s0 s) :
    Fr D W K s0 (s.raiseB c a0 a1 a2) := State.deliver_frame s _ _ hE h

theorem State.raiseC_frame (s : State) (c x a0 a1 a2 : Nat) (hE : Ev W K) (h : Fr D W K s0 s) :
    Fr D W K s0 (s.raiseC c x a0 a1 a2) := State.deliver_frame s _ _ hE h

theorem State.raiseCB_frame (s : State) (c x a0 a1 a2 : Nat) (hE : Ev W K) (h : Fr D W K s0 s) :
    Fr D W K s0 (s.raiseCB c x a0 a1 a2) := State.deliver_frame s _ _ hE h

theorem State.limitEvent_frame (s : State) (w k : Nat) (hE : Ev W K) (h : Fr D W K s0 s) :
    Fr D W K s0 (s.limitEvent w k) := State.deliver_frame s _ _ hE h

theorem State.accessEvent_frame (s : State) (w k n : Nat) (hE : Ev W K) (h : Fr D W K s0 s) :
    Fr D W K s0 (s.accessEvent w k n) := State.deliver_frame s _ _ hE h

theorem State.whenFrame (s : State) (b : Bool) (f : State → State) (hf : ∀ t, Fr D W K s0 t → Fr D W K s0 (f t))
    (h : Fr D W K s0 s) : Fr D W K s0 (s.when_ b f) := by
  unfold State.when_; split <;> [exact hf s h; exact h]

theorem State.onLive_frame (s : State) (f : State → State) (hf : ∀ t, Fr D W K s0 t → Fr D W K s0 (f t))
    (h : Fr D W K s0 s) : Fr D W K s0 (s.onLive f) := by
  unfold State.onLive; split <;> [exact hf s h; exact h]

theorem State.onLiveIf_frame (s : State) (b : Bool) (f : State → State) (hf : ∀ t, Fr D W K s0 t → Fr D W K s0 (f t))
    (h : Fr D W K s0 s) : Fr D W K s0 (s.onLiveIf b f) := by
  unfold State.onLiveIf; split <;> [exact hf s h; exact h]

theorem State.onCoreIf_frame (s : State) (b : Bool) (f : State → State) (hf : ∀ t, Fr D W K s0 t → Fr D W K s0 (f t))
    (h : Fr D W K s0 s) : Fr D W K s0 (s.onCoreIf b f) := State.onLiveIf_frame s _ f hf h

theorem State.onCore_frame (s : State) (f : State → State) (hf : ∀ t, Fr D W K s0 t → Fr D W K s0 (f t))
    (h : Fr D W K s0 s) : Fr D W K s0 (s.onCore f) := State.onCoreIf_frame s _ f hf h

theorem State.onReachIf_frame (s : State) (b : Bool) (f : State → State) (hf : ∀ t, Fr D W K s0 t → Fr D W K s0 (f t))
    (h : Fr D W K s0 s) : Fr D W K s0 (s.onReachIf b f) := State.onLiveIf_frame s _ f hf h

theorem State.onReach_frame (s : State) (f : State → State) (hf : ∀ t, Fr D W K s0 t → Fr D W K s0 (f t))
    (h : Fr D W K s0 s) : Fr D W K s0 (s.onReach f) := State.onReachIf_frame s _ f hf h

theorem Fr.start {s : State} (h : D s.mem.dram) : Fr D W K s s := ⟨Frame.refl s, rfl, h⟩

theorem Fr.rd_eq {s t : State} (h : Fr D W K s t) {a : Nat} (ha : ¬ W a) : t.rd a = s.rd a := h.frame.1 a ha

theorem Fr.get_eq {s t : State} (h : Fr D W K s t) {f : Fld} (ha : ¬ W f.reg) : t.get f = s.get f := State.get_congr (h.rd_eq ha)

theorem Fr.flag_eq {s t : State} (h : Fr D W K s t) {f : Fld} (ha : ¬ W f.reg) : t.flag f = s.flag f := State.flag_congr (h.rd_eq ha)

theorem regsOf_head {p : Nat → Prop} {l : List (Nat → Prop)} {a : Nat} (h : p a) : regsOf (p :: l) a :=
  ⟨p, List.mem_cons_self .., h⟩

theorem regsOf_tail {p : Nat → Prop} {l : List (Nat → Prop)} {a : Nat} (h : regsOf l a) : regsOf (p :: l) a := by
  obtain ⟨q, hq, h⟩ := h
  exact ⟨q, List.mem_cons_of_mem _ hq, h⟩

theorem regsOf_nth {l : List (Nat → Prop)} {a : Nat} (k : Nat) {p : Nat → Prop} (e : l[k]? = Option.some p) (h : p a) : regsOf l a :=
  ⟨p, List.mem_of_getElem? e, h⟩

theorem regsOf_nil (a : Nat) : ¬ regsOf [] a := by
  rintro ⟨q, hq, _⟩
  cases hq

/-- To be outside a list of sets is to be outside each. -/
theorem not_regsOf_cons {p : Nat → Prop} {l : List (Nat → Prop)} {a : Nat} : ¬ regsOf (p :: l) a ↔ ¬ p a ∧ ¬ regsOf l a := by
  constructor
  · intro h
    exact ⟨fun hp => h (regsOf_head hp), fun hl => h (regsOf_tail hl)⟩
  · rintro ⟨h1, h2⟩ ⟨q, hq, hqa⟩
    rcases List.mem_cons.mp hq with rfl | hq
    · exact h1 hqa
    · exact h2 ⟨q, hq, hqa⟩

theorem Ev.of {l : List (Nat → Prop)} {k : List Part} (h : ∀ a, events a → regsOf l a) (hk : Part.int ∈ k) :
    Ev (regsOf l) (· ∈ k) := ⟨h, hk⟩

theorem allParts_mem (p : Part) : p ∈ allParts := by cases p <;> decide

/-- Where there is an answer, it is in the frame. -/
def FrO (D : List Host.Cell → Prop) (W : Nat → Prop) (K : Part → Prop) (s0 : State) (o : Option State) : Prop := ∀ t, o = some t → Fr D W K s0 t

theorem Fr.some {s : State} (h : Fr D W K s0 s) : FrO D W K s0 (some s) := by
  intro t e; cases e; exact h

theorem Fr.none : FrO D W K s0 none := by
  intro t e; cases e

theorem Fr.iteO {c : Prop} [Decidable c] {a b : Option State} (h1 : FrO D W K s0 a) (h2 : FrO D W K s0 b) :
    FrO D W K s0 (if c then a else b) := by split <;> assumption

theorem Fr.orO {a b : Option State} (h1 : FrO D W K s0 a) (h2 : FrO D W K s0 b) : FrO D W K s0 (a.or b) := by
  cases a with
  | none => exact h2
  | some x => exact h1

theorem tget_filter {α : Type} (d : α) (t : Tbl α) (f : Nat × α → Bool) (k : Nat) (h : ∀ w, f (k, w) = true) :
    tget d (t.filter f) k = tget d t k := by
  induction t with
  | nil => rfl
  | cons e r ih =>
    obtain ⟨k', v⟩ := e
    simp only [tget] at ih ⊢
    by_cases hk : k' = k
    · subst hk
      simp only [List.filter_cons, h v, if_true, tfind]
    · by_cases hf : f (k', v) = true
      · simp only [List.filter_cons, hf, if_true, tfind, if_neg hk, ih]
      · simp only [List.filter_cons, hf, Bool.false_eq_true, if_false, tfind, if_neg hk, ih]

theorem tget_map {α : Type} (d : α) (t : Tbl α) (f : Nat × α → Nat × α) (k : Nat) (h1 : ∀ e, (f e).1 = e.1)
    (h : ∀ w, f (k, w) = (k, w)) : tget d (t.map f) k = tget d t k := by
  induction t with
  | nil => rfl
  | cons e r ih =>
    obtain ⟨k', v⟩ := e
    simp only [tget] at ih ⊢
    have hf := h1 (k', v)
    rcases hg : f (k', v) with ⟨a, b⟩
    rw [hg] at hf
    simp only at hf
    subst hf
    simp only [List.map_cons, hg, tfind]
    by_cases hk : a = k
    · subst hk
      rw [h v] at hg
      cases hg
      simp only [if_true]
    · simp only [if_neg hk, ih]

theorem State.memWrite_frame (hD : DramOk D) (s : State) (a : Nat) (bs : List Byte) (k_mem : K .mem) (h : Fr D W K s0 s) :
    Fr D W K s0 (s.memWrite a bs) :=
  ⟨h.frame.trans ⟨fun _ _ => rfl, fun p hp => by cases p <;> first | rfl | exact absurd k_mem hp⟩, h.queue, hD.write a bs h.dram⟩

theorem Fr.ofO {o : Option State} {t : State} (h : FrO D W K s0 o) (e : o = Option.some t) : Fr D W K s0 t := h t e

theorem Fr.setApt {s : State} {x_apt} (k_apt : K .apt) :
    Fr D W K s0 (State.mk s.now s.fresh s.out s.regs s.act s.glb s.tim s.cfg s.hif s.mem s.int s.cmp s.col s.pln s.seq x_apt s.scn s.lmp s.lan s.lxs s.mtr s.thm s.cal s.pending) ↔ Fr D W K s0 s := by
  constructor <;> refine fun h => ⟨⟨fun a ha => h.frame.1 a ha, fun p hp => ?_⟩, h.queue, h.dram⟩
  all_goals first
    | (have h2 := h.frame.2 p hp; cases p <;> first | exact h2 | exact absurd k_apt hp)

theorem Fr.setCal {s : State} {x_cal} (k_cal : K .cal) :
    Fr D W K s0 (State.mk s.now s.fresh s.out s.regs s.act s.glb s.tim s.cfg s.hif s.mem s.int s.cmp s.col s.pln s.seq s.apt s.scn s.lmp s.lan s.lxs s.mtr s.thm x_cal s.pending) ↔ Fr D W K s0 s := by
  constructor <;> refine fun h => ⟨⟨fun a ha => h.frame.1 a ha, fun p hp => ?_⟩, h.queue, h.dram⟩
  all_goals first
    | (have h2 := h.frame.2 p hp; cases p <;> first | exact h2 | exact absurd k_cal hp)

theorem Fr.setCfg {s : State} {x_cfg} (k_cfg : K .cfg) :
    Fr D W K s0 (State.mk s.now s.fresh s.out s.regs s.act s.glb s.tim x_cfg s.hif s.mem s.int s.cmp s.col s.pln s.seq s.apt s.scn s.lmp s.lan s.lxs s.mtr s.thm s.cal s.pending) ↔ Fr D W K s0 s := by
  constructor <;> refine fun h => ⟨⟨fun a ha => h.frame.1 a ha, fun p hp => ?_⟩, h.queue, h.dram⟩
  all_goals first
    | (have h2 := h.frame.2 p hp; cases p <;> first | exact h2 | exact absurd k_cfg hp)

theorem Fr.setCfgSeq {s : State} {x_cfg x_seq} (k_cfg : K .cfg) (k_seq : K .seq) :
    Fr D W K s0 (State.mk s.now s.fresh s.out s.regs s.act s.glb s.tim x_cfg s.hif s.mem s.int s.cmp s.col s.pln x_seq s.apt s.scn s.lmp s.lan s.lxs s.mtr s.thm s.cal s.pending) ↔ Fr D W K s0 s := by
  constructor <;> refine fun h => ⟨⟨fun a ha => h.frame.1 a ha, fun p hp => ?_⟩, h.queue, h.dram⟩
  all_goals first
    | (have h2 := h.frame.2 p hp; cases p <;> first | exact h2 | exact absurd k_cfg hp | exact absurd k_seq hp)

theorem Fr.setCmp {s : State} {x_cmp} (k_cmp : K .cmp) :
    Fr D W K s0 (State.mk s.now s.fresh s.out s.regs s.act s.glb s.tim s.cfg s.hif s.mem s.int x_cmp s.col s.pln s.seq s.apt s.scn s.lmp s.lan s.lxs s.mtr s.thm s.cal s.pending) ↔ Fr D W K s0 s := by
  constructor <;> refine fun h => ⟨⟨fun a ha => h.frame.1 a ha, fun p hp => ?_⟩, h.queue, h.dram⟩
  all_goals first
    | (have h2 := h.frame.2 p hp; cases p <;> first | exact h2 | exact absurd k_cmp hp)

theorem Fr.setCmpColPln {s : State} {x_cmp x_col x_pln} (k_cmp : K .cmp) (k_col : K .col) (k_pln : K .pln) :
    Fr D W K s0 (State.mk s.now s.fresh s.out s.regs s.act s.glb s.tim s.cfg s.hif s.mem s.int x_cmp x_col x_pln s.seq s.apt s.scn s.lmp s.lan s.lxs s.mtr s.thm s.cal s.pending) ↔ Fr D W K s0 s := by
  constructor <;> refine fun h => ⟨⟨fun a ha => h.frame.1 a ha, fun p hp => ?_⟩, h.queue, h.dram⟩
  all_goals first
    | (have h2 := h.frame.2 p hp; cases p <;> first | exact h2 | exact absurd k_cmp hp | exact absurd k_col hp | exact absurd k_pln hp)

theorem Fr.setCol {s : State} {x_col} (k_col : K .col) :
    Fr D W K s0 (State.mk s.now s.fresh s.out s.regs s.act s.glb s.tim s.cfg s.hif s.mem s.int s.cmp x_col s.pln s.seq s.apt s.scn s.lmp s.lan s.lxs s.mtr s.thm s.cal s.pending) ↔ Fr D W K s0 s := by
  constructor <;> refine fun h => ⟨⟨fun a ha => h.frame.1 a ha, fun p hp => ?_⟩, h.queue, h.dram⟩
  all_goals first
    | (have h2 := h.frame.2 p hp; cases p <;> first | exact h2 | exact absurd k_col hp)

theorem Fr.setColCal {s : State} {x_col x_cal} (k_col : K .col) (k_cal : K .cal) :
    Fr D W K s0 (State.mk s.now s.fresh s.out s.regs s.act s.glb s.tim s.cfg s.hif s.mem s.int s.cmp x_col s.pln s.seq s.apt s.scn s.lmp s.lan s.lxs s.mtr s.thm x_cal s.pending) ↔ Fr D W K s0 s := by
  constructor <;> refine fun h => ⟨⟨fun a ha => h.frame.1 a ha, fun p hp => ?_⟩, h.queue, h.dram⟩
  all_goals first
    | (have h2 := h.frame.2 p hp; cases p <;> first | exact h2 | exact absurd k_col hp | exact absurd k_cal hp)

theorem Fr.setColLmp {s : State} {x_col x_lmp} (k_col : K .col) (k_lmp : K .lmp) :
    Fr D W K s0 (State.mk s.now s.fresh s.out s.regs s.act s.glb s.tim s.cfg s.hif s.mem s.int s.cmp x_col s.pln s.seq s.apt s.scn x_lmp s.lan s.lxs s.mtr s.thm s.cal s.pending) ↔ Fr D W K s0 s := by
  constructor <;> refine fun h => ⟨⟨fun a ha => h.frame.1 a ha, fun p hp => ?_⟩, h.queue, h.dram⟩
  all_goals first
    | (have h2 := h.frame.2 p hp; cases p <;> first | exact h2 | exact absurd k_col hp | exact absurd k_lmp hp)

theorem Fr.setGlb {s : State} {x_glb} (k_glb : K .glb) :
    Fr D W K s0 (State.mk s.now s.fresh s.out s.regs s.act x_glb s.tim s.cfg s.hif s.mem s.int s.cmp s.col s.pln s.seq s.apt s.scn s.lmp s.lan s.lxs s.mtr s.thm s.cal s.pending) ↔ Fr D W K s0 s := by
  constructor <;> refine fun h => ⟨⟨fun a ha => h.frame.1 a ha, fun p hp => ?_⟩, h.queue, h.dram⟩
  all_goals first
    | (have h2 := h.frame.2 p hp; cases p <;> first | exact h2 | exact absurd k_glb hp)

theorem Fr.setGlbMem {s : State} {x_glb x_mem} (k_glb : K .glb) (k_mem : K .mem) (hm : x_mem.dram = s.mem.dram) :
    Fr D W K s0 (State.mk s.now s.fresh s.out s.regs s.act x_glb s.tim s.cfg s.hif x_mem s.int s.cmp s.col s.pln s.seq s.apt s.scn s.lmp s.lan s.lxs s.mtr s.thm s.cal s.pending) ↔ Fr D W K s0 s := by
  constructor <;> refine fun h => ⟨⟨fun a ha => h.frame.1 a ha, fun p hp => ?_⟩, h.queue, ?_⟩
  all_goals first
    | (have h2 := h.frame.2 p hp; cases p <;> first | exact h2 | exact absurd k_glb hp | exact absurd k_mem hp)
    | exact hm ▸ h.dram
    | exact hm.symm ▸ h.dram

theorem Fr.setGlbTim {s : State} {x_glb x_tim} (k_glb : K .glb) (k_tim : K .tim) :
    Fr D W K s0 (State.mk s.now s.fresh s.out s.regs s.act x_glb x_tim s.cfg s.hif s.mem s.int s.cmp s.col s.pln s.seq s.apt s.scn s.lmp s.lan s.lxs s.mtr s.thm s.cal s.pending) ↔ Fr D W K s0 s := by
  constructor <;> refine fun h => ⟨⟨fun a ha => h.frame.1 a ha, fun p hp => ?_⟩, h.queue, h.dram⟩
  all_goals first
    | (have h2 := h.frame.2 p hp; cases p <;> first | exact h2 | exact absurd k_glb hp | exact absurd k_tim hp)

theorem Fr.setHif {s : State} {x_hif} (k_hif : K .hif) :
    Fr D W K s0 (State.mk s.now s.fresh s.out s.regs s.act s.glb s.tim s.cfg x_hif s.mem s.int s.cmp s.col s.pln s.seq s.apt s.scn s.lmp s.lan s.lxs s.mtr s.thm s.cal s.pending) ↔ Fr D W K s0 s := by
  constructor <;> refine fun h => ⟨⟨fun a ha => h.frame.1 a ha, fun p hp => ?_⟩, h.queue, h.dram⟩
  all_goals first
    | (have h2 := h.frame.2 p hp; cases p <;> first | exact h2 | exact absurd k_hif hp)

theorem Fr.setHifCmpPln {s : State} {x_hif x_cmp x_pln} (k_hif : K .hif) (k_cmp : K .cmp) (k_pln : K .pln) :
    Fr D W K s0 (State.mk s.now s.fresh s.out s.regs s.act s.glb s.tim s.cfg x_hif s.mem s.int x_cmp s.col x_pln s.seq s.apt s.scn s.lmp s.lan s.lxs s.mtr s.thm s.cal s.pending) ↔ Fr D W K s0 s := by
  constructor <;> refine fun h => ⟨⟨fun a ha => h.frame.1 a ha, fun p hp => ?_⟩, h.queue, h.dram⟩
  all_goals first
    | (have h2 := h.frame.2 p hp; cases p <;> first | exact h2 | exact absurd k_hif hp | exact absurd k_cmp hp | exact absurd k_pln hp)

theorem Fr.setHifMem {s : State} {x_hif x_mem} (k_hif : K .hif) (k_mem : K .mem) (hm : x_mem.dram = s.mem.dram) :
    Fr D W K s0 (State.mk s.now s.fresh s.out s.regs s.act s.glb s.tim s.cfg x_hif x_mem s.int s.cmp s.col s.pln s.seq s.apt s.scn s.lmp s.lan s.lxs s.mtr s.thm s.cal s.pending) ↔ Fr D W K s0 s := by
  constructor <;> refine fun h => ⟨⟨fun a ha => h.frame.1 a ha, fun p hp => ?_⟩, h.queue, ?_⟩
  all_goals first
    | (have h2 := h.frame.2 p hp; cases p <;> first | exact h2 | exact absurd k_hif hp | exact absurd k_mem hp)
    | exact hm ▸ h.dram
    | exact hm.symm ▸ h.dram

theorem Fr.setInt {s : State} {x_int} (k_int : K .int) :
    Fr D W K s0 (State.mk s.now s.fresh s.out s.regs s.act s.glb s.tim s.cfg s.hif s.mem x_int s.cmp s.col s.pln s.seq s.apt s.scn s.lmp s.lan s.lxs s.mtr s.thm s.cal s.pending) ↔ Fr D W K s0 s := by
  constructor <;> refine fun h => ⟨⟨fun a ha => h.frame.1 a ha, fun p hp => ?_⟩, h.queue, h.dram⟩
  all_goals first
    | (have h2 := h.frame.2 p hp; cases p <;> first | exact h2 | exact absurd k_int hp)

theorem Fr.setLan {s : State} {x_lan} (k_lan : K .lan) :
    Fr D W K s0 (State.mk s.now s.fresh s.out s.regs s.act s.glb s.tim s.cfg s.hif s.mem s.int s.cmp s.col s.pln s.seq s.apt s.scn s.lmp x_lan s.lxs s.mtr s.thm s.cal s.pending) ↔ Fr D W K s0 s := by
  constructor <;> refine fun h => ⟨⟨fun a ha => h.frame.1 a ha, fun p hp => ?_⟩, h.queue, h.dram⟩
  all_goals first
    | (have h2 := h.frame.2 p hp; cases p <;> first | exact h2 | exact absurd k_lan hp)

theorem Fr.setLmp {s : State} {x_lmp} (k_lmp : K .lmp) :
    Fr D W K s0 (State.mk s.now s.fresh s.out s.regs s.act s.glb s.tim s.cfg s.hif s.mem s.int s.cmp s.col s.pln s.seq s.apt s.scn x_lmp s.lan s.lxs s.mtr s.thm s.cal s.pending) ↔ Fr D W K s0 s := by
  constructor <;> refine fun h => ⟨⟨fun a ha => h.frame.1 a ha, fun p hp => ?_⟩, h.queue, h.dram⟩
  all_goals first
    | (have h2 := h.frame.2 p hp; cases p <;> first | exact h2 | exact absurd k_lmp hp)

theorem Fr.setLmpCal {s : State} {x_lmp x_cal} (k_lmp : K .lmp) (k_cal : K .cal) :
    Fr D W K s0 (State.mk s.now s.fresh s.out s.regs s.act s.glb s.tim s.cfg s.hif s.mem s.int s.cmp s.col s.pln s.seq s.apt s.scn x_lmp s.lan s.lxs s.mtr s.thm x_cal s.pending) ↔ Fr D W K s0 s := by
  constructor <;> refine fun h => ⟨⟨fun a ha => h.frame.1 a ha, fun p hp => ?_⟩, h.queue, h.dram⟩
  all_goals first
    | (have h2 := h.frame.2 p hp; cases p <;> first | exact h2 | exact absurd k_lmp hp | exact absurd k_cal hp)

theorem Fr.setLxs {s : State} {x_lxs} (k_lxs : K .lxs) :
    Fr D W K s0 (State.mk s.now s.fresh s.out s.regs s.act s.glb s.tim s.cfg s.hif s.mem s.int s.cmp s.col s.pln s.seq s.apt s.scn s.lmp s.lan x_lxs s.mtr s.thm s.cal s.pending) ↔ Fr D W K s0 s := by
  constructor <;> refine fun h => ⟨⟨fun a ha => h.frame.1 a ha, fun p hp => ?_⟩, h.queue, h.dram⟩
  all_goals first
    | (have h2 := h.frame.2 p hp; cases p <;> first | exact h2 | exact absurd k_lxs hp)

theorem Fr.setMem {s : State} {x_mem} (k_mem : K .mem) (hm : x_mem.dram = s.mem.dram) :
    Fr D W K s0 (State.mk s.now s.fresh s.out s.regs s.act s.glb s.tim s.cfg s.hif x_mem s.int s.cmp s.col s.pln s.seq s.apt s.scn s.lmp s.lan s.lxs s.mtr s.thm s.cal s.pending) ↔ Fr D W K s0 s := by
  constructor <;> refine fun h => ⟨⟨fun a ha => h.frame.1 a ha, fun p hp => ?_⟩, h.queue, ?_⟩
  all_goals first
    | (have h2 := h.frame.2 p hp; cases p <;> first | exact h2 | exact absurd k_mem hp)
    | exact hm ▸ h.dram
    | exact hm.symm ▸ h.dram

theorem Fr.setMemLmp {s : State} {x_mem x_lmp} (k_mem : K .mem) (k_lmp : K .lmp) (hm : x_mem.dram = s.mem.dram) :
    Fr D W K s0 (State.mk s.now s.fresh s.out s.regs s.act s.glb s.tim s.cfg s.hif x_mem s.int s.cmp s.col s.pln s.seq s.apt s.scn x_lmp s.lan s.lxs s.mtr s.thm s.cal s.pending) ↔ Fr D W K s0 s := by
  constructor <;> refine fun h => ⟨⟨fun a ha => h.frame.1 a ha, fun p hp => ?_⟩, h.queue, ?_⟩
  all_goals first
    | (have h2 := h.frame.2 p hp; cases p <;> first | exact h2 | exact absurd k_mem hp | exact absurd k_lmp hp)
    | exact hm ▸ h.dram
    | exact hm.symm ▸ h.dram

theorem Fr.setMemLxs {s : State} {x_mem x_lxs} (k_mem : K .mem) (k_lxs : K .lxs) (hm : x_mem.dram = s.mem.dram) :
    Fr D W K s0 (State.mk s.now s.fresh s.out s.regs s.act s.glb s.tim s.cfg s.hif x_mem s.int s.cmp s.col s.pln s.seq s.apt s.scn s.lmp s.lan x_lxs s.mtr s.thm s.cal s.pending) ↔ Fr D W K s0 s := by
  constructor <;> refine fun h => ⟨⟨fun a ha => h.frame.1 a ha, fun p hp => ?_⟩, h.queue, ?_⟩
  all_goals first
    | (have h2 := h.frame.2 p hp; cases p <;> first | exact h2 | exact absurd k_mem hp | exact absurd k_lxs hp)
    | exact hm ▸ h.dram
    | exact hm.symm ▸ h.dram

theorem Fr.setMtr {s : State} {x_mtr} (k_mtr : K .mtr) :
    Fr D W K s0 (State.mk s.now s.fresh s.out s.regs s.act s.glb s.tim s.cfg s.hif s.mem s.int s.cmp s.col s.pln s.seq s.apt s.scn s.lmp s.lan s.lxs x_mtr s.thm s.cal s.pending) ↔ Fr D W K s0 s := by
  constructor <;> refine fun h => ⟨⟨fun a ha => h.frame.1 a ha, fun p hp => ?_⟩, h.queue, h.dram⟩
  all_goals first
    | (have h2 := h.frame.2 p hp; cases p <;> first | exact h2 | exact absurd k_mtr hp)

theorem Fr.setNow {s : State} {x_now}  :
    Fr D W K s0 (State.mk x_now s.fresh s.out s.regs s.act s.glb s.tim s.cfg s.hif s.mem s.int s.cmp s.col s.pln s.seq s.apt s.scn s.lmp s.lan s.lxs s.mtr s.thm s.cal s.pending) ↔ Fr D W K s0 s := by
  constructor <;> refine fun h => ⟨⟨fun a ha => h.frame.1 a ha, fun p hp => ?_⟩, h.queue, h.dram⟩
  all_goals first
    | (have h2 := h.frame.2 p hp; cases p <;> first | exact h2 )

theorem Fr.setOutMemCmp {s : State} {x_out x_mem x_cmp} (k_out : K .out) (k_mem : K .mem) (k_cmp : K .cmp) (hm : x_mem.dram = s.mem.dram) :
    Fr D W K s0 (State.mk s.now s.fresh x_out s.regs s.act s.glb s.tim s.cfg s.hif x_mem s.int x_cmp s.col s.pln s.seq s.apt s.scn s.lmp s.lan s.lxs s.mtr s.thm s.cal s.pending) ↔ Fr D W K s0 s := by
  constructor <;> refine fun h => ⟨⟨fun a ha => h.frame.1 a ha, fun p hp => ?_⟩, h.queue, ?_⟩
  all_goals first
    | (have h2 := h.frame.2 p hp; cases p <;> first | exact h2 | exact absurd k_out hp | exact absurd k_mem hp | exact absurd k_cmp hp)
    | exact hm ▸ h.dram
    | exact hm.symm ▸ h.dram

theorem Fr.setPln {s : State} {x_pln} (k_pln : K .pln) :
    Fr D W K s0 (State.mk s.now s.fresh s.out s.regs s.act s.glb s.tim s.cfg s.hif s.mem s.int s.cmp s.col x_pln s.seq s.apt s.scn s.lmp s.lan s.lxs s.mtr s.thm s.cal s.pending) ↔ Fr D W K s0 s := by
  constructor <;> refine fun h => ⟨⟨fun a ha => h.frame.1 a ha, fun p hp => ?_⟩, h.queue, h.dram⟩
  all_goals first
    | (have h2 := h.frame.2 p hp; cases p <;> first | exact h2 | exact absurd k_pln hp)

theorem Fr.setPlnSeqAptThm {s : State} {x_pln x_seq x_apt x_thm} (k_pln : K .pln) (k_seq : K .seq) (k_apt : K .apt) (k_thm : K .thm) :
    Fr D W K s0 (State.mk s.now s.fresh s.out s.regs s.act s.glb s.tim s.cfg s.hif s.mem s.int s.cmp s.col x_pln x_seq x_apt s.scn s.lmp s.lan s.lxs s.mtr x_thm s.cal s.pending) ↔ Fr D W K s0 s := by
  constructor <;> refine fun h => ⟨⟨fun a ha => h.frame.1 a ha, fun p hp => ?_⟩, h.queue, h.dram⟩
  all_goals first
    | (have h2 := h.frame.2 p hp; cases p <;> first | exact h2 | exact absurd k_pln hp | exact absurd k_seq hp | exact absurd k_apt hp | exact absurd k_thm hp)

theorem Fr.setScn {s : State} {x_scn} (k_scn : K .scn) :
    Fr D W K s0 (State.mk s.now s.fresh s.out s.regs s.act s.glb s.tim s.cfg s.hif s.mem s.int s.cmp s.col s.pln s.seq s.apt x_scn s.lmp s.lan s.lxs s.mtr s.thm s.cal s.pending) ↔ Fr D W K s0 s := by
  constructor <;> refine fun h => ⟨⟨fun a ha => h.frame.1 a ha, fun p hp => ?_⟩, h.queue, h.dram⟩
  all_goals first
    | (have h2 := h.frame.2 p hp; cases p <;> first | exact h2 | exact absurd k_scn hp)

theorem Fr.setSeq {s : State} {x_seq} (k_seq : K .seq) :
    Fr D W K s0 (State.mk s.now s.fresh s.out s.regs s.act s.glb s.tim s.cfg s.hif s.mem s.int s.cmp s.col s.pln x_seq s.apt s.scn s.lmp s.lan s.lxs s.mtr s.thm s.cal s.pending) ↔ Fr D W K s0 s := by
  constructor <;> refine fun h => ⟨⟨fun a ha => h.frame.1 a ha, fun p hp => ?_⟩, h.queue, h.dram⟩
  all_goals first
    | (have h2 := h.frame.2 p hp; cases p <;> first | exact h2 | exact absurd k_seq hp)

theorem Fr.setThm {s : State} {x_thm} (k_thm : K .thm) :
    Fr D W K s0 (State.mk s.now s.fresh s.out s.regs s.act s.glb s.tim s.cfg s.hif s.mem s.int s.cmp s.col s.pln s.seq s.apt s.scn s.lmp s.lan s.lxs s.mtr x_thm s.cal s.pending) ↔ Fr D W K s0 s := by
  constructor <;> refine fun h => ⟨⟨fun a ha => h.frame.1 a ha, fun p hp => ?_⟩, h.queue, h.dram⟩
  all_goals first
    | (have h2 := h.frame.2 p hp; cases p <;> first | exact h2 | exact absurd k_thm hp)

theorem Fr.setTim {s : State} {x_tim} (k_tim : K .tim) :
    Fr D W K s0 (State.mk s.now s.fresh s.out s.regs s.act s.glb x_tim s.cfg s.hif s.mem s.int s.cmp s.col s.pln s.seq s.apt s.scn s.lmp s.lan s.lxs s.mtr s.thm s.cal s.pending) ↔ Fr D W K s0 s := by
  constructor <;> refine fun h => ⟨⟨fun a ha => h.frame.1 a ha, fun p hp => ?_⟩, h.queue, h.dram⟩
  all_goals first
    | (have h2 := h.frame.2 p hp; cases p <;> first | exact h2 | exact absurd k_tim hp)

theorem Fr.setActHifMem {s : State} {x_act x_hif x_mem} (k_act : K .act) (k_hif : K .hif) (k_mem : K .mem) (hm : x_mem.dram = s.mem.dram) :
    Fr D W K s0 (State.mk s.now s.fresh s.out s.regs x_act s.glb s.tim s.cfg x_hif x_mem s.int s.cmp s.col s.pln s.seq s.apt s.scn s.lmp s.lan s.lxs s.mtr s.thm s.cal s.pending) ↔ Fr D W K s0 s := by
  constructor <;> refine fun h => ⟨⟨fun a ha => h.frame.1 a ha, fun p hp => ?_⟩, h.queue, ?_⟩
  all_goals first
    | (have h2 := h.frame.2 p hp; cases p <;> first | exact h2 | exact absurd k_act hp | exact absurd k_hif hp | exact absurd k_mem hp)
    | exact hm ▸ h.dram
    | exact hm.symm ▸ h.dram

theorem Fr.setHifInt {s : State} {x_hif x_int} (k_hif : K .hif) (k_int : K .int) :
    Fr D W K s0 (State.mk s.now s.fresh s.out s.regs s.act s.glb s.tim s.cfg x_hif s.mem x_int s.cmp s.col s.pln s.seq s.apt s.scn s.lmp s.lan s.lxs s.mtr s.thm s.cal s.pending) ↔ Fr D W K s0 s := by
  constructor <;> refine fun h => ⟨⟨fun a ha => h.frame.1 a ha, fun p hp => ?_⟩, h.queue, h.dram⟩
  all_goals first
    | (have h2 := h.frame.2 p hp; cases p <;> first | exact h2 | exact absurd k_hif hp | exact absurd k_int hp)

theorem Fr.setPlnApt {s : State} {x_pln x_apt} (k_pln : K .pln) (k_apt : K .apt) :
    Fr D W K s0 (State.mk s.now s.fresh s.out s.regs s.act s.glb s.tim s.cfg s.hif s.mem s.int s.cmp s.col x_pln s.seq x_apt s.scn s.lmp s.lan s.lxs s.mtr s.thm s.cal s.pending) ↔ Fr D W K s0 s := by
  constructor <;> refine fun h => ⟨⟨fun a ha => h.frame.1 a ha, fun p hp => ?_⟩, h.queue, h.dram⟩
  all_goals first
    | (have h2 := h.frame.2 p hp; cases p <;> first | exact h2 | exact absurd k_pln hp | exact absurd k_apt hp)

theorem Fr.setTimLxs {s : State} {x_tim x_lxs} (k_tim : K .tim) (k_lxs : K .lxs) :
    Fr D W K s0 (State.mk s.now s.fresh s.out s.regs s.act s.glb x_tim s.cfg s.hif s.mem s.int s.cmp s.col s.pln s.seq s.apt s.scn s.lmp s.lan x_lxs s.mtr s.thm s.cal s.pending) ↔ Fr D W K s0 s := by
  constructor <;> refine fun h => ⟨⟨fun a ha => h.frame.1 a ha, fun p hp => ?_⟩, h.queue, h.dram⟩
  all_goals first
    | (have h2 := h.frame.2 p hp; cases p <;> first | exact h2 | exact absurd k_tim hp | exact absurd k_lxs hp)

end

end Sys2Proof.Machine
end

