-- ==== Sys2Proof/Laws/FrameCore.lean ====
section
/-! SUPPORT. What each function leaves: registers, parts of the state, the queue and the memory. One law per function of
events, fences, the host interface and the memory. -/
namespace Sys2Proof.Machine

set_option linter.all false
set_option linter.unusedTactic false
set_option linter.unreachableTactic false

variable {D : List Host.Cell → Prop} {W : Nat → Prop} {K : Part → Prop} {s0 : State}

theorem State.countRate_frame (s : State) (q code : Nat) (r_INT_SUPPRESSED : W INT_SUPPRESSED) (k_int : K .int)
    (h_s : Fr D W K s0 s) : Fr D W K s0 (State.countRate s q code) := by
  unfold State.countRate
  repeat' first
    | with_reducible assumption | (simp -zeta (disch := first | assumption | exact rfl) only [↓Fr.setInt])
    | with_reducible apply Fr.ite | with_reducible apply State.inc_frame
    | (extract_lets +onlyGivenNames x; refine Fr.cut (D := D) (W := W) (K := K) (s0 := s0) (x := x) ?_ ?_; (on_goal 1 => dsimp -zeta only [x]); (on_goal 2 => intro hx; clear_value x))
    | (extract_lets +onlyGivenNames y) | split | (intro v w hv) | (intro v hv)

theorem State.alert_frame (s : State) (f : Nat) (k_int : K .int) (h_s : Fr D W K s0 s)
    : Fr D W K s0 (State.alert s f) := by
  unfold State.alert
  repeat' first
    | with_reducible assumption | (simp -zeta (disch := first | assumption | exact rfl) only [↓Fr.setInt])
    | with_reducible apply Fr.ite
    | (extract_lets +onlyGivenNames x; refine Fr.cut (D := D) (W := W) (K := K) (s0 := s0) (x := x) ?_ ?_; (on_goal 1 => dsimp -zeta only [x]); (on_goal 2 => intro hx; clear_value x))
    | (extract_lets +onlyGivenNames y) | split | (clear_value y; split) | (intro v w hv) | (intro v hv)

theorem State.dropHeld_frame (s : State) (f : Nat) (r_HIF_FN_DROPS : W (HIF_FN_DROPS f)) (r_INT_STATUS : W INT_STATUS)
    (k_int : K .int) (h_s : Fr D W K s0 s) : Fr D W K s0 (State.dropHeld s f) := by
  unfold State.dropHeld
  repeat' first
    | with_reducible assumption | (simp -zeta (disch := first | assumption | exact rfl) only [↓Fr.setInt])
    | with_reducible apply State.put_frame | with_reducible apply State.wrN_frame | with_reducible apply State.alert_frame
    | (extract_lets +onlyGivenNames x; refine Fr.cut (D := D) (W := W) (K := K) (s0 := s0) (x := x) ?_ ?_; (on_goal 1 => dsimp -zeta only [x]); (on_goal 2 => intro hx; clear_value x))
    | (extract_lets +onlyGivenNames y) | split | (clear_value y; split) | (intro v w hv) | (intro v hv)

theorem State.trimHeld_frame (s : State) (f : Nat) (r_HIF_FN_DROPS : W (HIF_FN_DROPS f)) (r_INT_STATUS : W INT_STATUS)
    (k_int : K .int) (h_s : Fr D W K s0 s) : Fr D W K s0 (State.trimHeld s f) := by
  unfold State.trimHeld
  repeat' first
    | with_reducible assumption | with_reducible apply Fr.ite | with_reducible apply State.dropHeld_frame
    | (extract_lets +onlyGivenNames x; refine Fr.cut (D := D) (W := W) (K := K) (s0 := s0) (x := x) ?_ ?_; (on_goal 1 => dsimp -zeta only [x]); (on_goal 2 => intro hx; clear_value x))
    | (extract_lets +onlyGivenNames y) | split | (clear_value y; split) | (intro v w hv) | (intro v hv)

theorem State.showHeld_frame (s : State) (f : Nat) (r_HIF_FN_DROPS : W (HIF_FN_DROPS f))
    (r_HIF_FN_STATUS : W (HIF_FN_STATUS f)) (r_INT_STATUS : W INT_STATUS) (k_int : K .int) (h_s : Fr D W K s0 s)
    : Fr D W K s0 (State.showHeld s f) := by
  unfold State.showHeld
  repeat' first
    | with_reducible assumption | with_reducible apply State.trimHeld_frame | with_reducible apply State.put_frame
    | (extract_lets +onlyGivenNames x; refine Fr.cut (D := D) (W := W) (K := K) (s0 := s0) (x := x) ?_ ?_; (on_goal 1 => dsimp -zeta only [x]); (on_goal 2 => intro hx; clear_value x))
    | (extract_lets +onlyGivenNames y) | split | (clear_value y; split) | (intro v w hv) | (intro v hv)

theorem State.hold_frame (s : State) (q : Nat) (e : Event) (r_HIF_FN_DROPS : ∀ i, W (HIF_FN_DROPS i))
    (r_HIF_FN_STATUS : ∀ i, W (HIF_FN_STATUS i)) (r_INT_DROPS : W INT_DROPS) (r_INT_STATUS : W INT_STATUS)
    (k_int : K .int) (h_s : Fr D W K s0 s) : Fr D W K s0 (State.hold s q e) := by
  unfold State.hold
  repeat' first
    | with_reducible assumption | (simp -zeta (disch := first | assumption | exact rfl) only [↓Fr.setInt])
    | with_reducible apply Fr.ite | with_reducible apply State.inc_frame | with_reducible apply State.alert_frame
    | with_reducible apply State.put_frame | with_reducible apply State.showHeld_frame
    | with_reducible apply r_HIF_FN_DROPS | with_reducible apply r_HIF_FN_STATUS
    | (extract_lets +onlyGivenNames x; refine Fr.cut (D := D) (W := W) (K := K) (s0 := s0) (x := x) ?_ ?_; (on_goal 1 => dsimp -zeta only [x]); (on_goal 2 => intro hx; clear_value x))
    | (extract_lets +onlyGivenNames y) | split | (clear_value y; split) | (intro v w hv) | (intro v hv)

theorem State.logEvent_frame (s : State) (e : Event) (r_INT_LOG_STATUS : W INT_LOG_STATUS) (k_int : K .int)
    (h_s : Fr D W K s0 s) : Fr D W K s0 (State.logEvent s e) := by
  unfold State.logEvent
  repeat' first
    | with_reducible assumption | (simp -zeta (disch := first | assumption | exact rfl) only [↓Fr.setInt])
    | with_reducible apply State.put_frame | with_reducible apply State.inc_frame
    | (extract_lets +onlyGivenNames x; refine Fr.cut (D := D) (W := W) (K := K) (s0 := s0) (x := x) ?_ ?_; (on_goal 1 => dsimp -zeta only [x]); (on_goal 2 => intro hx; clear_value x))
    | (extract_lets +onlyGivenNames y) | split | (clear_value y; split) | (intro v w hv) | (intro v hv)

theorem State.passEvent_frame (s : State) (q : Nat) (e : Event) (r_HIF_FN_DROPS : ∀ i, W (HIF_FN_DROPS i))
    (r_HIF_FN_STATUS : ∀ i, W (HIF_FN_STATUS i)) (r_INT_DROPS : W INT_DROPS) (r_INT_LOG_STATUS : W INT_LOG_STATUS)
    (r_INT_STATUS : W INT_STATUS) (r_INT_SUPPRESSED : W INT_SUPPRESSED) (k_int : K .int) (h_s : Fr D W K s0 s)
    : Fr D W K s0 (State.passEvent s q e) := by
  unfold State.passEvent
  repeat' first
    | with_reducible assumption | with_reducible apply Fr.ite | with_reducible apply State.countRate_frame
    | with_reducible apply State.logEvent_frame | with_reducible apply State.hold_frame | with_reducible apply r_HIF_FN_DROPS
    | with_reducible apply r_HIF_FN_STATUS
    | (extract_lets +onlyGivenNames x; refine Fr.cut (D := D) (W := W) (K := K) (s0 := s0) (x := x) ?_ ?_; (on_goal 1 => dsimp -zeta only [x]); (on_goal 2 => intro hx; clear_value x))
    | (extract_lets +onlyGivenNames y) | split

theorem State.raiseAt_frame (s : State) (lfn phase instant code a0 a1 a2 : Nat) (hE : Ev W K) (h_s : Fr D W K s0 s)
    : Fr D W K s0 (State.raiseAt s lfn phase instant code a0 a1 a2) := by
  unfold State.raiseAt
  repeat' first
    | with_reducible assumption | with_reducible apply State.deliver_frame
    | (extract_lets +onlyGivenNames x; refine Fr.cut (D := D) (W := W) (K := K) (s0 := s0) (x := x) ?_ ?_; (on_goal 1 => dsimp -zeta only [x]); (on_goal 2 => intro hx; clear_value x))
    | (extract_lets +onlyGivenNames y) | split | (clear_value y; split) | (intro v w hv) | (intro v hv)

theorem State.showFenced_frame (s : State) (r_CAL_FENCED : W CAL_FENCED) (r_CAL_FENCE_DATA_0 : W CAL_FENCE_DATA_0)
    (r_CAL_FENCE_DATA_1 : W CAL_FENCE_DATA_1) (r_CAL_FENCE_DATA_2 : W CAL_FENCE_DATA_2) (h_s : Fr D W K s0 s)
    : Fr D W K s0 (State.showFenced s) := by
  unfold State.showFenced
  repeat' first
    | with_reducible assumption | with_reducible apply State.putSat_frame | with_reducible apply State.wrN_frame
    | with_reducible apply State.put_frame
    | (extract_lets +onlyGivenNames x; refine Fr.cut (D := D) (W := W) (K := K) (s0 := s0) (x := x) ?_ ?_; (on_goal 1 => dsimp -zeta only [x]); (on_goal 2 => intro hx; clear_value x))
    | (extract_lets +onlyGivenNames y) | split | (clear_value y; split)

theorem State.fenceUnit_frame (s : State) (kind unit_ detail : Nat) (hE : Ev W K) (r_CAL_FENCED : W CAL_FENCED)
    (r_CAL_FENCE_DATA_0 : W CAL_FENCE_DATA_0) (r_CAL_FENCE_DATA_1 : W CAL_FENCE_DATA_1)
    (r_CAL_FENCE_DATA_2 : W CAL_FENCE_DATA_2) (k_cal : K .cal) (h_s : Fr D W K s0 s)
    : Fr D W K s0 (State.fenceUnit s kind unit_ detail) := by
  unfold State.fenceUnit
  repeat' first
    | with_reducible assumption | (simp -zeta (disch := first | assumption | exact rfl) only [↓Fr.setCal])
    | with_reducible apply Fr.ite | with_reducible apply State.showFenced_frame | with_reducible apply State.raise_frame
    | (extract_lets +onlyGivenNames x; refine Fr.cut (D := D) (W := W) (K := K) (s0 := s0) (x := x) ?_ ?_; (on_goal 1 => dsimp -zeta only [x]); (on_goal 2 => intro hx; clear_value x))
    | (extract_lets +onlyGivenNames y) | split

theorem State.countLife_frame (s : State) (kind unit_ detail : Nat) (r_CAL_FENCED : W CAL_FENCED)
    (r_CAL_FENCE_DATA_0 : W CAL_FENCE_DATA_0) (r_CAL_FENCE_DATA_1 : W CAL_FENCE_DATA_1)
    (r_CAL_FENCE_DATA_2 : W CAL_FENCE_DATA_2) (k_cal : K .cal) (h_s : Fr D W K s0 s)
    : Fr D W K s0 (State.countLife s kind unit_ detail) := by
  unfold State.countLife
  repeat' first
    | with_reducible assumption | (simp -zeta (disch := first | assumption | exact rfl) only [↓Fr.setCal])
    | with_reducible apply Fr.ite | with_reducible apply State.showFenced_frame
    | (extract_lets +onlyGivenNames x; refine Fr.cut (D := D) (W := W) (K := K) (s0 := s0) (x := x) ?_ ?_; (on_goal 1 => dsimp -zeta only [x]); (on_goal 2 => intro hx; clear_value x))
    | (extract_lets +onlyGivenNames y) | split | (intro v w hv) | (intro v hv)

theorem State.setLxPort_frame (s : State) (j : Nat) (p : LxsPort) (k_lxs : K .lxs) (h_s : Fr D W K s0 s)
    : Fr D W K s0 (State.setLxPort s j p) := by
  unfold State.setLxPort
  repeat' first
    | with_reducible assumption | (simp -zeta (disch := first | assumption | exact rfl) only [↓Fr.setLxs])
    | (extract_lets +onlyGivenNames x; refine Fr.cut (D := D) (W := W) (K := K) (s0 := s0) (x := x) ?_ ?_; (on_goal 1 => dsimp -zeta only [x]); (on_goal 2 => intro hx; clear_value x))
    | (extract_lets +onlyGivenNames y)

theorem State.setLxLane_frame (s : State) (l : Nat) (x : LxsLane) (k_lxs : K .lxs) (h_s : Fr D W K s0 s)
    : Fr D W K s0 (State.setLxLane s l x) := by
  unfold State.setLxLane
  repeat' first
    | with_reducible assumption | (simp -zeta (disch := first | assumption | exact rfl) only [↓Fr.setLxs])
    | (extract_lets +onlyGivenNames x; refine Fr.cut (D := D) (W := W) (K := K) (s0 := s0) (x := x) ?_ ?_; (on_goal 1 => dsimp -zeta only [x]); (on_goal 2 => intro hx; clear_value x))
    | (extract_lets +onlyGivenNames y)

theorem State.queueMsg_frame (s : State) (j cls ty fields : Nat) (extra : List Nat) (k_lxs : K .lxs) (h_s : Fr D W K s0 s)
    : Fr D W K s0 (State.queueMsg s j cls ty fields extra) := by
  unfold State.queueMsg
  repeat' first
    | with_reducible assumption | with_reducible apply State.setLxLane_frame
    | (extract_lets +onlyGivenNames x; refine Fr.cut (D := D) (W := W) (K := K) (s0 := s0) (x := x) ?_ ?_; (on_goal 1 => dsimp -zeta only [x]); (on_goal 2 => intro hx; clear_value x))
    | (extract_lets +onlyGivenNames y)

theorem State.floodMsg_frame (s : State) (js : List Nat) (cls ty fields : Nat) (extra : List Nat) (k_lxs : K .lxs)
    (h_s : Fr D W K s0 s) : Fr D W K s0 (State.floodMsg s js cls ty fields extra) := by
  unfold State.floodMsg
  repeat' first
    | with_reducible assumption | with_reducible apply State.queueMsg_frame
    | (with_reducible apply foldOver_frame; intro a t ht) | (intro v w hv) | (intro v hv)

theorem State.noteDrop_frame (s : State) (key : Nat) (k_lxs : K .lxs) (h_s : Fr D W K s0 s)
    : Fr D W K s0 (State.noteDrop s key) := by
  unfold State.noteDrop
  repeat' first
    | with_reducible assumption | (simp -zeta (disch := first | assumption | exact rfl) only [↓Fr.setLxs])
    | (extract_lets +onlyGivenNames x; refine Fr.cut (D := D) (W := W) (K := K) (s0 := s0) (x := x) ?_ ?_; (on_goal 1 => dsimp -zeta only [x]); (on_goal 2 => intro hx; clear_value x))
    | (extract_lets +onlyGivenNames y) | split | (clear_value y; split) | (intro v w hv) | (intro v hv)

theorem State.sendDrop_frame (s : State) (tag group cause : Nat) (k_lxs : K .lxs) (h_s : Fr D W K s0 s)
    : Fr D W K s0 (State.sendDrop s tag group cause) := by
  unfold State.sendDrop
  repeat' first
    | with_reducible assumption | (simp -zeta (disch := first | assumption | exact rfl) only [↓Fr.setLxs])
    | with_reducible apply Fr.ite | with_reducible apply State.noteDrop_frame | with_reducible apply State.floodMsg_frame
    | (extract_lets +onlyGivenNames x; refine Fr.cut (D := D) (W := W) (K := K) (s0 := s0) (x := x) ?_ ?_; (on_goal 1 => dsimp -zeta only [x]); (on_goal 2 => intro hx; clear_value x))
    | (extract_lets +onlyGivenNames y) | split | (clear_value y; split) | (intro v w hv) | (intro v hv)

theorem State.showBindings_frame (s : State) (r_LXS_EXPORT_STATUS : W LXS_EXPORT_STATUS) (h_s : Fr D W K s0 s)
    : Fr D W K s0 (State.showBindings s) := by
  unfold State.showBindings
  repeat' first
    | with_reducible assumption | with_reducible apply State.put_frame

theorem State.removeBinding_frame (s : State) (k : Nat) (r_LXS_EXPORT_STATUS : W LXS_EXPORT_STATUS) (k_mem : K .mem)
    (k_lxs : K .lxs) (h_s : Fr D W K s0 s) : Fr D W K s0 (State.removeBinding s k) := by
  unfold State.removeBinding
  repeat' first
    | with_reducible assumption | (simp -zeta (disch := first | assumption | exact rfl) only [↓Fr.setMemLxs])
    | with_reducible apply State.showBindings_frame
    | (extract_lets +onlyGivenNames x; refine Fr.cut (D := D) (W := W) (K := K) (s0 := s0) (x := x) ?_ ?_; (on_goal 1 => dsimp -zeta only [x]); (on_goal 2 => intro hx; clear_value x))
    | (extract_lets +onlyGivenNames y) | split | (intro v w hv) | (intro v hv)

theorem State.dropBindings_frame (s : State) (handle : Nat) (hE : Ev W K) (r_LXS_EXPORT_STATUS : W LXS_EXPORT_STATUS)
    (k_mem : K .mem) (k_lxs : K .lxs) (h_s : Fr D W K s0 s) : Fr D W K s0 (State.dropBindings s handle) := by
  unfold State.dropBindings
  repeat' first
    | with_reducible assumption | with_reducible apply State.removeBinding_frame | with_reducible apply State.raise_frame
    | (with_reducible apply foldOver_frame; intro a t ht) | (intro v w hv) | (intro v hv)

theorem State.sendRead_frame (s : State) (dev e k : Nat) (gen : Bool) (ctx off len va : Nat) (deadline : Option Nat)
    (k_lxs : K .lxs) (h_s : Fr D W K s0 s) : Fr D W K s0 (State.sendRead s dev e k gen ctx off len va deadline) := by
  unfold State.sendRead
  repeat' first
    | with_reducible assumption | (simp -zeta (disch := first | assumption | exact rfl) only [↓Fr.setLxs])
    | with_reducible apply State.queueMsg_frame
    | (extract_lets +onlyGivenNames x; refine Fr.cut (D := D) (W := W) (K := K) (s0 := s0) (x := x) ?_ ?_; (on_goal 1 => dsimp -zeta only [x]); (on_goal 2 => intro hx; clear_value x))
    | (extract_lets +onlyGivenNames y) | split | (clear_value y; split) | (intro v w hv) | (intro v hv)

theorem State.sendResp_frame (s : State) (dest tag seq status : Nat) (words : List Nat)
    (r_LXS_PORT_READ : ∀ i, W (LXS_PORT_READ i)) (k_lxs : K .lxs) (h_s : Fr D W K s0 s)
    : Fr D W K s0 (State.sendResp s dest tag seq status words) := by
  unfold State.sendResp
  repeat' first
    | with_reducible assumption | with_reducible apply Fr.ite | with_reducible apply State.setLxPort_frame
    | with_reducible apply State.putSat_frame | with_reducible apply State.queueMsg_frame
    | with_reducible apply r_LXS_PORT_READ
    | (extract_lets +onlyGivenNames x; refine Fr.cut (D := D) (W := W) (K := K) (s0 := s0) (x := x) ?_ ?_; (on_goal 1 => dsimp -zeta only [x]); (on_goal 2 => intro hx; clear_value x))
    | (extract_lets +onlyGivenNames y) | split | (intro v w hv) | (intro v hv) | (clear_value y; split)

theorem State.applyMemMap_frame (s : State) (r_MEM_GROUP : ∀ i, W (MEM_GROUP i)) (r_MEM_MAP_CFG : W MEM_MAP_CFG)
    (h_s : Fr D W K s0 s) : Fr D W K s0 (State.applyMemMap s) := by
  unfold State.applyMemMap
  repeat' first
    | with_reducible assumption | with_reducible apply State.put_frame | (with_reducible apply foldOver_frame; intro a t ht)
    | with_reducible apply r_MEM_GROUP
    | (extract_lets +onlyGivenNames x; refine Fr.cut (D := D) (W := W) (K := K) (s0 := s0) (x := x) ?_ ?_; (on_goal 1 => dsimp -zeta only [x]); (on_goal 2 => intro hx; clear_value x))
    | (extract_lets +onlyGivenNames y) | (intro v w hv) | (intro v hv)

theorem State.setMap_frame (s : State) (c vpage : Nat) (m : Mapping) (k_hif : K .hif) (h_s : Fr D W K s0 s)
    : Fr D W K s0 (State.setMap s c vpage m) := by
  unfold State.setMap
  repeat' first
    | with_reducible assumption | (simp -zeta (disch := first | assumption | exact rfl) only [↓Fr.setHif])
    | (extract_lets +onlyGivenNames x; refine Fr.cut (D := D) (W := W) (K := K) (s0 := s0) (x := x) ?_ ?_; (on_goal 1 => dsimp -zeta only [x]); (on_goal 2 => intro hx; clear_value x))
    | (extract_lets +onlyGivenNames y)

theorem State.delMap_frame (s : State) (c vpage : Nat) (k_hif : K .hif) (h_s : Fr D W K s0 s)
    : Fr D W K s0 (State.delMap s c vpage) := by
  unfold State.delMap
  repeat' first
    | with_reducible assumption | (simp -zeta (disch := first | assumption | exact rfl) only [↓Fr.setHif])
    | (extract_lets +onlyGivenNames x; refine Fr.cut (D := D) (W := W) (K := K) (s0 := s0) (x := x) ?_ ?_; (on_goal 1 => dsimp -zeta only [x]); (on_goal 2 => intro hx; clear_value x))
    | (extract_lets +onlyGivenNames y)

theorem State.transFault_frame (s : State) (c kind va : Nat) (hE : Ev W K) (r_HIF_CTX_FAULT_HI : W (HIF_CTX_FAULT_HI c))
    (r_HIF_CTX_FAULT_LO : W (HIF_CTX_FAULT_LO c)) (r_HIF_CTX_STATUS : W (HIF_CTX_STATUS c)) (h_s : Fr D W K s0 s)
    : Fr D W K s0 (State.transFault s c kind va) := by
  unfold State.transFault
  repeat' first
    | with_reducible assumption | with_reducible apply State.put_frame | with_reducible apply State.incSat_frame
    | with_reducible apply State.raiseC_frame

theorem State.setPage_frame (s : State) (p v : Nat) (k_hif : K .hif) (h_s : Fr D W K s0 s)
    : Fr D W K s0 (State.setPage s p v) := by
  unfold State.setPage
  repeat' first
    | with_reducible assumption | (simp -zeta (disch := first | assumption | exact rfl) only [↓Fr.setHif])
    | (extract_lets +onlyGivenNames x; refine Fr.cut (D := D) (W := W) (K := K) (s0 := s0) (x := x) ?_ ?_; (on_goal 1 => dsimp -zeta only [x]); (on_goal 2 => intro hx; clear_value x))
    | (extract_lets +onlyGivenNames y)

theorem State.queueScrub_frame (s : State) (p : Nat) (r_HIF_STATUS : W HIF_STATUS) (k_hif : K .hif) (h_s : Fr D W K s0 s)
    : Fr D W K s0 (State.queueScrub s p) := by
  unfold State.queueScrub
  repeat' first
    | with_reducible assumption | (simp -zeta (disch := first | assumption | exact rfl) only [↓Fr.setHif])
    | with_reducible apply State.put_frame
    | (extract_lets +onlyGivenNames x; refine Fr.cut (D := D) (W := W) (K := K) (s0 := s0) (x := x) ?_ ?_; (on_goal 1 => dsimp -zeta only [x]); (on_goal 2 => intro hx; clear_value x))
    | (extract_lets +onlyGivenNames y)

theorem State.showPages_frame (s : State) (c : Nat) (r_HIF_CTX_PAGES : W (HIF_CTX_PAGES c))
    (r_HIF_POOL_FREE : W HIF_POOL_FREE) (h_s : Fr D W K s0 s) : Fr D W K s0 (State.showPages s c) := by
  unfold State.showPages
  repeat' first
    | with_reducible assumption | with_reducible apply State.put_frame

theorem doPageScrubDone_frame (hD : DramOk D) (dt page : Nat) (s : State) (r_HIF_POOL_FREE : W HIF_POOL_FREE)
    (r_HIF_STATUS : W HIF_STATUS) (k_hif : K .hif) (k_mem : K .mem) (h_s : Fr D W K s0 s)
    : Fr D W K s0 (doPageScrubDone dt page s) := by
  unfold doPageScrubDone
  extract_lets t
  refine State.onLiveIf_frame _ _ _ (fun u hu => ?_) (State.tick_frame _ _ h_s)
  have h1 : Fr D W K s0 { u with mem := { u.mem with
      dram := dramZero u.mem.dram (page * 65536) 65536
      marked := unmark u.mem.marked (page * 65536) 65536 } } :=
    ⟨hu.frame.trans ⟨fun _ _ => rfl, fun p hp => by cases p <;> first | rfl | exact absurd ‹_› hp⟩, hu.queue, hD.2 _ _ _ hu.dram⟩
  refine State.putB_frame _ _ _ r_HIF_STATUS (State.put_frame _ _ _ r_HIF_POOL_FREE ?_)
  apply State.setPage_frame <;> assumption

theorem State.endGrant_frame (s : State) (h : Nat) (hE : Ev W K) (r_LXS_EXPORT_STATUS : W LXS_EXPORT_STATUS) (k_hif : K .hif)
    (k_mem : K .mem) (k_lxs : K .lxs) (h_s : Fr D W K s0 s) : Fr D W K s0 (State.endGrant s h) := by
  unfold State.endGrant
  repeat' first
    | with_reducible assumption | (simp -zeta (disch := first | assumption | exact rfl) only [↓Fr.setHifMem])
    | with_reducible apply State.dropBindings_frame
    | (extract_lets +onlyGivenNames x; refine Fr.cut (D := D) (W := W) (K := K) (s0 := s0) (x := x) ?_ ?_; (on_goal 1 => dsimp -zeta only [x]); (on_goal 2 => intro hx; clear_value x))
    | (extract_lets +onlyGivenNames y) | (intro v w hv) | (intro v hv)

theorem State.freePage_frame (s : State) (c vpage : Nat) (hE : Ev W K) (r_HIF_STATUS : W HIF_STATUS)
    (r_LXS_EXPORT_STATUS : W LXS_EXPORT_STATUS) (k_hif : K .hif) (k_mem : K .mem) (k_lxs : K .lxs) (h_s : Fr D W K s0 s)
    : Fr D W K s0 (State.freePage s c vpage) := by
  unfold State.freePage
  repeat' first
    | with_reducible assumption | (simp -zeta (disch := first | assumption | exact rfl) only [↓Fr.setMem])
    | with_reducible apply State.endGrant_frame | with_reducible apply State.delMap_frame
    | with_reducible apply State.queueScrub_frame | (with_reducible apply foldOver_frame; intro a t ht)
    | (extract_lets +onlyGivenNames x; refine Fr.cut (D := D) (W := W) (K := K) (s0 := s0) (x := x) ?_ ?_; (on_goal 1 => dsimp -zeta only [x]); (on_goal 2 => intro hx; clear_value x))
    | (extract_lets +onlyGivenNames y) | split | (intro v w hv) | (intro v hv) | (clear_value y; split)

theorem State.ringDone_frame (s : State) (c idx : Nat) (e : RingEntry) (status result : Nat) (hE : Ev W K)
    (k_out : K .out) (h_s : Fr D W K s0 s) : Fr D W K s0 (State.ringDone s c idx e status result) := by
  unfold State.ringDone
  repeat' first
    | with_reducible assumption | with_reducible apply Fr.ite | with_reducible apply State.send_frame
    | with_reducible apply State.raiseC_frame
    | (extract_lets +onlyGivenNames x; refine Fr.cut (D := D) (W := W) (K := K) (s0 := s0) (x := x) ?_ ?_; (on_goal 1 => dsimp -zeta only [x]); (on_goal 2 => intro hx; clear_value x))
    | (extract_lets +onlyGivenNames y) | split | (clear_value y; split) | (intro v w hv) | (intro v hv)

theorem State.mapRange_frame (s : State) (c : Nat) (vs : List Nat) (ms : List Mapping) (k_hif : K .hif) (h_s : Fr D W K s0 s)
    : Fr D W K s0 (State.mapRange s c vs ms) := by
  unfold State.mapRange
  repeat' first
    | with_reducible assumption | with_reducible apply State.setMap_frame
    | (with_reducible apply foldOver_frame; intro a t ht) | (intro v w hv) | (intro v hv)

theorem ringAlloc_frame (s : State) (c : Nat) (e : RingEntry) (r_HIF_CTX_PAGES : W (HIF_CTX_PAGES c))
    (r_HIF_POOL_FREE : W HIF_POOL_FREE) (k_hif : K .hif) (h_s : Fr D W K s0 s) : Fr D W K s0 (ringAlloc s c e).1 := by
  unfold ringAlloc
  repeat' first
    | with_reducible assumption | with_reducible apply Fr.ite1 | with_reducible apply Fr.ite
    | with_reducible apply State.setPage_frame | with_reducible apply State.mapRange_frame
    | with_reducible apply State.showPages_frame | (with_reducible apply foldOver_frame; intro a t ht)
    | (extract_lets +onlyGivenNames x; refine Fr.cut (D := D) (W := W) (K := K) (s0 := s0) (x := x) ?_ ?_; (on_goal 1 => dsimp -zeta only [x]); (on_goal 2 => intro hx; clear_value x))
    | (extract_lets +onlyGivenNames y) | split | (intro v w hv) | (intro v hv)

theorem ringMapHost_frame (s : State) (c : Nat) (e : RingEntry) (k_hif : K .hif) (h_s : Fr D W K s0 s)
    : Fr D W K s0 (ringMapHost s c e).1 := by
  unfold ringMapHost
  repeat' first
    | with_reducible assumption | with_reducible apply Fr.ite1 | with_reducible apply Fr.ite
    | with_reducible apply State.mapRange_frame | split | (intro v w hv) | (intro v hv)

theorem ringMapRemote_frame (s : State) (c : Nat) (e : RingEntry) (k_hif : K .hif) (h_s : Fr D W K s0 s)
    : Fr D W K s0 (ringMapRemote s c e).1 := by
  unfold ringMapRemote
  repeat' first
    | with_reducible assumption | with_reducible apply Fr.ite1 | with_reducible apply Fr.ite
    | with_reducible apply State.mapRange_frame | split | (intro v w hv) | (intro v hv)

theorem ringMapGrant_frame (s : State) (c : Nat) (e : RingEntry) (k_hif : K .hif) (h_s : Fr D W K s0 s)
    : Fr D W K s0 (ringMapGrant s c e).1 := by
  unfold ringMapGrant
  repeat' first
    | with_reducible assumption | with_reducible apply Fr.ite1 | with_reducible apply Fr.ite
    | with_reducible apply State.mapRange_frame
    | (extract_lets +onlyGivenNames x; refine Fr.cut (D := D) (W := W) (K := K) (s0 := s0) (x := x) ?_ ?_; (on_goal 1 => dsimp -zeta only [x]); (on_goal 2 => intro hx; clear_value x))
    | (extract_lets +onlyGivenNames y) | split | (intro v w hv) | (intro v hv)

theorem ringGrant_frame (s : State) (c : Nat) (e : RingEntry) (k_hif : K .hif) (h_s : Fr D W K s0 s)
    : Fr D W K s0 (ringGrant s c e).1 := by
  unfold ringGrant
  repeat' first
    | with_reducible assumption | (simp -zeta (disch := first | assumption | exact rfl) only [↓Fr.setHif])
    | with_reducible apply Fr.ite1 | with_reducible apply Fr.ite
    | (extract_lets +onlyGivenNames x; refine Fr.cut (D := D) (W := W) (K := K) (s0 := s0) (x := x) ?_ ?_; (on_goal 1 => dsimp -zeta only [x]); (on_goal 2 => intro hx; clear_value x))
    | (extract_lets +onlyGivenNames y) | split | (intro v w hv) | (intro v hv)

theorem deferredEffect_frame (s : State) (c op : Nat) (e : RingEntry) (hE : Ev W K) (r_HIF_CTX_PAGES : W (HIF_CTX_PAGES c))
    (r_HIF_POOL_FREE : W HIF_POOL_FREE) (r_HIF_STATUS : W HIF_STATUS) (r_LXS_EXPORT_STATUS : W LXS_EXPORT_STATUS)
    (k_hif : K .hif) (k_mem : K .mem) (k_lxs : K .lxs) (h_s : Fr D W K s0 s) : Fr D W K s0 (deferredEffect s c op e) := by
  unfold deferredEffect
  repeat' first
    | with_reducible assumption | with_reducible apply Fr.ite | with_reducible apply State.freePage_frame
    | with_reducible apply State.showPages_frame | with_reducible apply State.delMap_frame
    | with_reducible apply State.endGrant_frame | (with_reducible apply foldOver_frame; intro a t ht) | split | (intro v w hv)
    | (intro v hv)

theorem State.ringAdvance_frame (s : State) (c : Nat) (r_HIF_CTX_CMDQ_HEAD : W (HIF_CTX_CMDQ_HEAD c)) (h_s : Fr D W K s0 s)
    : Fr D W K s0 (State.ringAdvance s c) := by
  unfold State.ringAdvance
  repeat' first
    | with_reducible assumption | with_reducible apply State.put_frame

theorem State.freeTag_frame (s : State) (p : HostTag → Bool) (k_hif : K .hif) (h_s : Fr D W K s0 s)
    : Fr D W K s0 (State.freeTag s p) := by
  unfold State.freeTag
  repeat' first
    | with_reducible assumption | (simp -zeta (disch := first | assumption | exact rfl) only [↓Fr.setHif])
    | with_reducible apply Fr.ite
    | (extract_lets +onlyGivenNames x; refine Fr.cut (D := D) (W := W) (K := K) (s0 := s0) (x := x) ?_ ?_; (on_goal 1 => dsimp -zeta only [x]); (on_goal 2 => intro hx; clear_value x))
    | (extract_lets +onlyGivenNames y) | split | (clear_value y; split) | (intro v w hv) | (intro v hv)

theorem State.addTag_frame (s : State) (f : Nat) (user : TagUser) (k_hif : K .hif) (h_s : Fr D W K s0 s)
    : Fr D W K s0 (State.addTag s f user) := by
  unfold State.addTag
  repeat' first
    | with_reducible assumption | (simp -zeta (disch := first | assumption | exact rfl) only [↓Fr.setHif])
    | with_reducible apply Fr.ite
    | (extract_lets +onlyGivenNames x; refine Fr.cut (D := D) (W := W) (K := K) (s0 := s0) (x := x) ?_ ?_; (on_goal 1 => dsimp -zeta only [x]); (on_goal 2 => intro hx; clear_value x))
    | (extract_lets +onlyGivenNames y) | split | (clear_value y; split) | (intro v w hv) | (intro v hv)

theorem State.issueFetches_frame (s : State) (k_out : K .out) (k_hif : K .hif) (k_mem : K .mem) (h_s : Fr D W K s0 s)
    : Fr D W K s0 (State.issueFetches s) := by
  unfold State.issueFetches
  repeat' first
    | with_reducible assumption | (simp -zeta (disch := first | assumption | exact rfl) only [↓Fr.setMem])
    | with_reducible apply Fr.ite | (with_reducible apply foldOver_frame; intro a t ht)
    | with_reducible apply State.addTag_frame | with_reducible apply State.send_frame
    | (extract_lets +onlyGivenNames x; refine Fr.cut (D := D) (W := W) (K := K) (s0 := s0) (x := x) ?_ ?_; (on_goal 1 => dsimp -zeta only [x]); (on_goal 2 => intro hx; clear_value x))
    | (extract_lets +onlyGivenNames y) | split | (clear_value y; split) | (intro v w hv) | (intro v hv)

theorem State.issueRing_frame (s : State) (k_out : K .out) (k_hif : K .hif) (h_s : Fr D W K s0 s)
    : Fr D W K s0 (State.issueRing s) := by
  unfold State.issueRing
  repeat' first
    | with_reducible assumption | (simp -zeta (disch := first | assumption | exact rfl) only [↓Fr.setHif])
    | with_reducible apply Fr.ite | with_reducible apply State.addTag_frame | with_reducible apply State.send_frame
    | (extract_lets +onlyGivenNames x; refine Fr.cut (D := D) (W := W) (K := K) (s0 := s0) (x := x) ?_ ?_; (on_goal 1 => dsimp -zeta only [x]); (on_goal 2 => intro hx; clear_value x))
    | (extract_lets +onlyGivenNames y) | split | (clear_value y; split) | (intro v w hv) | (intro v hv)

theorem State.flushVecs_frame (s : State) (f : Nat) (k_out : K .out) (k_int : K .int) (h_s : Fr D W K s0 s)
    : Fr D W K s0 (State.flushVecs s f) := by
  unfold State.flushVecs
  repeat' first
    | with_reducible assumption | (simp -zeta (disch := first | assumption | exact rfl) only [↓Fr.setInt])
    | with_reducible apply Fr.ite | (with_reducible apply foldOver_frame; intro a t ht)
    | with_reducible apply State.send_frame
    | (extract_lets +onlyGivenNames x; refine Fr.cut (D := D) (W := W) (K := K) (s0 := s0) (x := x) ?_ ?_; (on_goal 1 => dsimp -zeta only [x]); (on_goal 2 => intro hx; clear_value x))
    | (extract_lets +onlyGivenNames y) | split | (clear_value y; split) | (intro v w hv) | (intro v hv)

theorem State.flushAll_frame (s : State) (k_out : K .out) (k_int : K .int) (h_s : Fr D W K s0 s)
    : Fr D W K s0 (State.flushAll s) := by
  unfold State.flushAll
  repeat' first
    | with_reducible assumption | (with_reducible apply foldOver_frame; intro a t ht)
    | with_reducible apply State.flushVecs_frame
    | (extract_lets +onlyGivenNames x; refine Fr.cut (D := D) (W := W) (K := K) (s0 := s0) (x := x) ?_ ?_; (on_goal 1 => dsimp -zeta only [x]); (on_goal 2 => intro hx; clear_value x))
    | (extract_lets +onlyGivenNames y) | split | (clear_value y; split) | (intro v w hv) | (intro v hv)

theorem State.pumpHost_frame (s : State) (k_out : K .out) (k_hif : K .hif) (k_mem : K .mem) (k_int : K .int)
    (h_s : Fr D W K s0 s) : Fr D W K s0 (State.pumpHost s) := by
  unfold State.pumpHost
  repeat' first
    | with_reducible assumption | with_reducible apply State.issueFetches_frame
    | with_reducible apply State.issueRing_frame | with_reducible apply State.flushAll_frame
    | (extract_lets +onlyGivenNames x; refine Fr.cut (D := D) (W := W) (K := K) (s0 := s0) (x := x) ?_ ?_; (on_goal 1 => dsimp -zeta only [x]); (on_goal 2 => intro hx; clear_value x))
    | (extract_lets +onlyGivenNames y) | split | (clear_value y; split) | (intro v w hv) | (intro v hv)

theorem ringTake_frame (dt c : Nat) (act : Nat → State → State) (s : State)
    (r_HIF_CTX_CMDQ_HEAD : W (HIF_CTX_CMDQ_HEAD c)) (k_out : K .out) (k_hif : K .hif) (k_mem : K .mem) (k_int : K .int)
    (h_s : Fr D W K s0 s) (h_act : ∀ idx t, Fr D W K s0 t → Fr D W K s0 (act idx t)) : Fr D W K s0 (ringTake dt c act s) := by
  unfold ringTake
  repeat' first
    | with_reducible assumption | with_reducible apply h_act | with_reducible apply Fr.ite | with_reducible apply State.tick_frame
    | with_reducible apply State.onLiveIf_frame | with_reducible apply State.freeTag_frame
    | with_reducible apply State.ringAdvance_frame | with_reducible apply State.pumpHost_frame
    | (extract_lets +onlyGivenNames x; refine Fr.cut (D := D) (W := W) (K := K) (s0 := s0) (x := x) ?_ ?_; (on_goal 1 => dsimp -zeta only [x]); (on_goal 2 => intro hx; clear_value x))
    | (extract_lets +onlyGivenNames y) | split | (clear_value y; split) | (intro v w hv) | (intro v hv)

theorem ringNow_frame  (dt c : Nat) (e : RingEntry)
    (act : State → Nat → RingEntry → RingResult) (s : State) (hE : Ev W K) (r_HIF_CTX_CMDQ_HEAD : W (HIF_CTX_CMDQ_HEAD c)) (k_out : K .out)
    (k_hif : K .hif)
    (k_mem : K .mem)
    (k_int : K .int)
    (h_s : Fr D W K s0 s) (h_act : ∀ t, Fr D W K s0 t → Fr D W K s0 (act t c e).1) : Fr D W K s0 (ringNow dt c e act s) := by
  unfold ringNow
  apply ringTake_frame
  all_goals first
    | assumption
    | exact fun idx u hu => State.ringDone_frame _ _ _ _ _ _ hE k_out (h_act _ hu)

theorem ringLater_frame (dt c op : Nat) (e : RingEntry) (s : State) (hE : Ev W K)
    (r_HIF_CTX_CMDQ_HEAD : W (HIF_CTX_CMDQ_HEAD c)) (k_out : K .out) (k_hif : K .hif) (k_mem : K .mem) (k_int : K .int)
    (h_s : Fr D W K s0 s) : Fr D W K s0 (ringLater dt c op e s) := by
  unfold ringLater
  repeat' first
    | with_reducible assumption | (simp -zeta (disch := first | assumption | exact rfl) only [↓Fr.setHif])
    | with_reducible apply Fr.ite | with_reducible apply ringTake_frame | with_reducible apply State.ringDone_frame
    | (extract_lets +onlyGivenNames x; refine Fr.cut (D := D) (W := W) (K := K) (s0 := s0) (x := x) ?_ ?_; (on_goal 1 => dsimp -zeta only [x]); (on_goal 2 => intro hx; clear_value x))
    | (extract_lets +onlyGivenNames y) | split | (clear_value y; split) | (intro v w hv) | (intro v hv)

theorem ringFence_frame (dt c : Nat) (e : RingEntry) (s : State) (hE : Ev W K)
    (r_HIF_CTX_CMDQ_HEAD : W (HIF_CTX_CMDQ_HEAD c)) (k_out : K .out) (k_hif : K .hif) (k_mem : K .mem) (k_int : K .int)
    (h_s : Fr D W K s0 s) : Fr D W K s0 (ringFence dt c e s) := by
  unfold ringFence
  repeat' first
    | with_reducible assumption | (simp -zeta (disch := first | assumption | exact rfl) only [↓Fr.setHif])
    | with_reducible apply Fr.ite | with_reducible apply ringTake_frame | with_reducible apply State.ringDone_frame
    | (extract_lets +onlyGivenNames x; refine Fr.cut (D := D) (W := W) (K := K) (s0 := s0) (x := x) ?_ ?_; (on_goal 1 => dsimp -zeta only [x]); (on_goal 2 => intro hx; clear_value x))
    | (extract_lets +onlyGivenNames y) | split | (clear_value y; split) | (intro v w hv) | (intro v hv)

theorem doCmdAlloc_frame (dt c : Nat) (e : RingEntry) (s : State) (hE : Ev W K)
    (r_HIF_CTX_CMDQ_HEAD : W (HIF_CTX_CMDQ_HEAD c)) (r_HIF_CTX_PAGES : ∀ i, W (HIF_CTX_PAGES i))
    (r_HIF_POOL_FREE : W HIF_POOL_FREE) (k_out : K .out) (k_hif : K .hif) (k_mem : K .mem)
    (k_int : K .int)
    (h_s : Fr D W K s0 s)
    : Fr D W K s0 (doCmdAlloc dt c e s) := by
  unfold doCmdAlloc
  repeat' first
    | with_reducible assumption | with_reducible apply ringNow_frame | with_reducible apply ringAlloc_frame | (intro v hv)
    | with_reducible apply r_HIF_CTX_PAGES

theorem doCmdFree_frame (dt c : Nat) (e : RingEntry) (s : State) (hE : Ev W K) (r_HIF_CTX_CMDQ_HEAD : W (HIF_CTX_CMDQ_HEAD c))
    (k_out : K .out) (k_hif : K .hif) (k_mem : K .mem)
    (k_int : K .int)
    (h_s : Fr D W K s0 s) : Fr D W K s0 (doCmdFree dt c e s) := by
  unfold doCmdFree
  repeat' first
    | with_reducible assumption | with_reducible apply ringLater_frame

theorem doCmdMapHost_frame (dt c : Nat) (e : RingEntry) (s : State) (hE : Ev W K)
    (r_HIF_CTX_CMDQ_HEAD : W (HIF_CTX_CMDQ_HEAD c)) (k_out : K .out) (k_hif : K .hif) (k_mem : K .mem)
    (k_int : K .int)
    (h_s : Fr D W K s0 s)
    : Fr D W K s0 (doCmdMapHost dt c e s) := by
  unfold doCmdMapHost
  repeat' first
    | with_reducible assumption | with_reducible apply ringNow_frame | with_reducible apply ringMapHost_frame | (intro v hv)

theorem doCmdMapRemote_frame (dt c : Nat) (e : RingEntry) (s : State) (hE : Ev W K)
    (r_HIF_CTX_CMDQ_HEAD : W (HIF_CTX_CMDQ_HEAD c)) (k_out : K .out) (k_hif : K .hif) (k_mem : K .mem)
    (k_int : K .int)
    (h_s : Fr D W K s0 s)
    : Fr D W K s0 (doCmdMapRemote dt c e s) := by
  unfold doCmdMapRemote
  repeat' first
    | with_reducible assumption | with_reducible apply ringNow_frame | with_reducible apply ringMapRemote_frame | (intro v hv)

theorem doCmdMapGrant_frame (dt c : Nat) (e : RingEntry) (s : State) (hE : Ev W K)
    (r_HIF_CTX_CMDQ_HEAD : W (HIF_CTX_CMDQ_HEAD c)) (k_out : K .out) (k_hif : K .hif) (k_mem : K .mem)
    (k_int : K .int)
    (h_s : Fr D W K s0 s)
    : Fr D W K s0 (doCmdMapGrant dt c e s) := by
  unfold doCmdMapGrant
  repeat' first
    | with_reducible assumption | with_reducible apply ringNow_frame | with_reducible apply ringMapGrant_frame | (intro v hv)

theorem doCmdUnmap_frame (dt c : Nat) (e : RingEntry) (s : State) (hE : Ev W K)
    (r_HIF_CTX_CMDQ_HEAD : W (HIF_CTX_CMDQ_HEAD c)) (k_out : K .out) (k_hif : K .hif) (k_mem : K .mem)
    (k_int : K .int)
    (h_s : Fr D W K s0 s)
    : Fr D W K s0 (doCmdUnmap dt c e s) := by
  unfold doCmdUnmap
  repeat' first
    | with_reducible assumption | with_reducible apply ringLater_frame

theorem doCmdGrant_frame (dt c : Nat) (e : RingEntry) (s : State) (hE : Ev W K)
    (r_HIF_CTX_CMDQ_HEAD : W (HIF_CTX_CMDQ_HEAD c)) (k_out : K .out) (k_hif : K .hif) (k_mem : K .mem)
    (k_int : K .int)
    (h_s : Fr D W K s0 s)
    : Fr D W K s0 (doCmdGrant dt c e s) := by
  unfold doCmdGrant
  repeat' first
    | with_reducible assumption | with_reducible apply ringNow_frame | with_reducible apply ringGrant_frame | (intro v hv)

theorem doCmdRevoke_frame (dt c : Nat) (e : RingEntry) (s : State) (hE : Ev W K)
    (r_HIF_CTX_CMDQ_HEAD : W (HIF_CTX_CMDQ_HEAD c)) (k_out : K .out) (k_hif : K .hif) (k_mem : K .mem)
    (k_int : K .int)
    (h_s : Fr D W K s0 s)
    : Fr D W K s0 (doCmdRevoke dt c e s) := by
  unfold doCmdRevoke
  repeat' first
    | with_reducible assumption | with_reducible apply ringLater_frame

theorem doCmdFence_frame (dt c : Nat) (e : RingEntry) (s : State) (hE : Ev W K)
    (r_HIF_CTX_CMDQ_HEAD : W (HIF_CTX_CMDQ_HEAD c)) (k_out : K .out) (k_hif : K .hif) (k_mem : K .mem)
    (k_int : K .int)
    (h_s : Fr D W K s0 s)
    : Fr D W K s0 (doCmdFence dt c e s) := by
  unfold doCmdFence
  repeat' first
    | with_reducible assumption | with_reducible apply ringFence_frame

theorem doCmdBadOpcode_frame (dt c : Nat) (e : RingEntry) (s : State) (hE : Ev W K)
    (r_HIF_CTX_CMDQ_HEAD : W (HIF_CTX_CMDQ_HEAD c)) (k_out : K .out) (k_hif : K .hif)
    (k_mem : K .mem)
    (k_int : K .int)
    (h_s : Fr D W K s0 s)
    : Fr D W K s0 (doCmdBadOpcode dt c e s) := by
  unfold doCmdBadOpcode
  repeat' first
    | with_reducible assumption | with_reducible apply ringNow_frame | (intro v hv) | (intro v w hv) | (intro v hv)

theorem deferredGo_frame  (s : State) (ds ks : List Deferred)
    (hE : Ev W K) (r_HIF_CTX_PAGES : ∀ i, W (HIF_CTX_PAGES i)) (r_HIF_POOL_FREE : W HIF_POOL_FREE) (r_HIF_STATUS : W HIF_STATUS) (r_LXS_EXPORT_STATUS : W LXS_EXPORT_STATUS) (k_out : K .out) (k_hif : K .hif) (k_mem : K .mem) (k_lxs : K .lxs)
    (h_s : Fr D W K s0 s) : Fr D W K s0 (deferredGo s ds ks).1 := by
  induction ds generalizing s ks with
  | nil => exact h_s
  | cons d r ih =>
    simp only [deferredGo]
    repeat' first
      | with_reducible apply ih
      | with_reducible apply State.ringDone_frame
      | with_reducible apply deferredEffect_frame
      | with_reducible assumption
      | exact r_HIF_CTX_PAGES _
      | split

theorem State.deferredBoundary_frame (s : State) (hE : Ev W K) (r_HIF_CTX_PAGES : ∀ i, W (HIF_CTX_PAGES i))
    (r_HIF_POOL_FREE : W HIF_POOL_FREE) (r_HIF_STATUS : W HIF_STATUS) (r_LXS_EXPORT_STATUS : W LXS_EXPORT_STATUS)
    (k_out : K .out) (k_hif : K .hif) (k_mem : K .mem) (k_lxs : K .lxs) (h_s : Fr D W K s0 s)
    : Fr D W K s0 (State.deferredBoundary s) := by
  unfold State.deferredBoundary
  repeat' first
    | with_reducible assumption | (simp -zeta (disch := first | assumption | exact rfl) only [↓Fr.setHif])
    | with_reducible apply deferredGo_frame | with_reducible apply r_HIF_CTX_PAGES
    | (extract_lets +onlyGivenNames x; refine Fr.cut (D := D) (W := W) (K := K) (s0 := s0) (x := x) ?_ ?_; (on_goal 1 => dsimp -zeta only [x]); (on_goal 2 => intro hx; clear_value x))
    | (extract_lets +onlyGivenNames y)

theorem State.acceptWrites_frame (s : State) (k_mem : K .mem) (h_s : Fr D W K s0 s)
    : Fr D W K s0 (State.acceptWrites s) := by
  unfold State.acceptWrites
  repeat' first
    | with_reducible assumption | (simp -zeta (disch := first | assumption | exact rfl) only [↓Fr.setMem])
    | with_reducible apply Fr.ite
    | (extract_lets +onlyGivenNames x; refine Fr.cut (D := D) (W := W) (K := K) (s0 := s0) (x := x) ?_ ?_; (on_goal 1 => dsimp -zeta only [x]); (on_goal 2 => intro hx; clear_value x))
    | (extract_lets +onlyGivenNames y) | split | (clear_value y; split) | (intro v w hv) | (intro v hv)

theorem State.offerWrite_frame (s : State) (dpa n : Nat) (w : WriteBlk) (k_mem : K .mem) (h_s : Fr D W K s0 s)
    : Fr D W K s0 (State.offerWrite s dpa n w) := by
  unfold State.offerWrite
  repeat' first
    | with_reducible assumption | (simp -zeta (disch := first | assumption | exact rfl) only [↓Fr.setMem])
    | with_reducible apply State.acceptWrites_frame
    | (extract_lets +onlyGivenNames x; refine Fr.cut (D := D) (W := W) (K := K) (s0 := s0) (x := x) ?_ ?_; (on_goal 1 => dsimp -zeta only [x]); (on_goal 2 => intro hx; clear_value x))
    | (extract_lets +onlyGivenNames y) | split | (clear_value y; split) | (intro v w hv) | (intro v hv)

theorem State.setDomOn_frame (s : State) (k : Nat) (b : Bool) (r_THM_DOM_ON : W (THM_DOM_ON (k / 32))) (h_s : Fr D W K s0 s)
    : Fr D W K s0 (State.setDomOn s k b) := by
  unfold State.setDomOn
  repeat' first
    | with_reducible assumption | with_reducible apply State.wrN_frame

theorem State.setPc_frame (s : State) (p : Nat) (x : PcSt) (k_mem : K .mem) (h_s : Fr D W K s0 s)
    : Fr D W K s0 (State.setPc s p x) := by
  unfold State.setPc
  repeat' first
    | with_reducible assumption | (simp -zeta (disch := first | assumption | exact rfl) only [↓Fr.setMem])
    | (extract_lets +onlyGivenNames x; refine Fr.cut (D := D) (W := W) (K := K) (s0 := s0) (x := x) ?_ ?_; (on_goal 1 => dsimp -zeta only [x]); (on_goal 2 => intro hx; clear_value x))
    | (extract_lets +onlyGivenNames y)

theorem State.memBusy_frame (s : State) (k_mem : K .mem) (h_s : Fr D W K s0 s) : Fr D W K s0 (State.memBusy s) := by
  unfold State.memBusy
  repeat' first
    | with_reducible assumption | (simp -zeta (disch := first | assumption | exact rfl) only [↓Fr.setMem])
    | (extract_lets +onlyGivenNames x; refine Fr.cut (D := D) (W := W) (K := K) (s0 := s0) (x := x) ?_ ?_; (on_goal 1 => dsimp -zeta only [x]); (on_goal 2 => intro hx; clear_value x))
    | (extract_lets +onlyGivenNames y)

theorem State.wakeStacks_frame (s : State) (cause : Nat) (r_MEM_SR_STATUS : W MEM_SR_STATUS) (r_MEM_STATUS : W MEM_STATUS)
    (r_THM_DOM_ON : ∀ i, W (THM_DOM_ON i)) (k_mem : K .mem) (h_s : Fr D W K s0 s)
    : Fr D W K s0 (State.wakeStacks s cause) := by
  unfold State.wakeStacks
  repeat' first
    | with_reducible assumption | (simp -zeta (disch := first | assumption | exact rfl) only [↓Fr.setMem])
    | with_reducible apply Fr.ite | (with_reducible apply foldOver_frame; intro a t ht)
    | with_reducible apply State.put_frame | with_reducible apply State.setDomOn_frame
    | with_reducible apply State.setPc_frame | with_reducible apply State.memBusy_frame
    | with_reducible apply r_THM_DOM_ON
    | (extract_lets +onlyGivenNames x; refine Fr.cut (D := D) (W := W) (K := K) (s0 := s0) (x := x) ?_ ?_; (on_goal 1 => dsimp -zeta only [x]); (on_goal 2 => intro hx; clear_value x))
    | (extract_lets +onlyGivenNames y) | split | (clear_value y; split) | (intro v w hv) | (intro v hv)

theorem State.wakeForHost_frame (s : State) (r_MEM_SR_STATUS : W MEM_SR_STATUS) (r_MEM_STATUS : W MEM_STATUS)
    (r_THM_DOM_ON : ∀ i, W (THM_DOM_ON i)) (k_mem : K .mem) (h_s : Fr D W K s0 s)
    : Fr D W K s0 (State.wakeForHost s) := by
  unfold State.wakeForHost
  repeat' first
    | with_reducible assumption | with_reducible apply Fr.ite | with_reducible apply State.wakeStacks_frame
    | with_reducible apply State.memBusy_frame | with_reducible apply r_THM_DOM_ON
    | (extract_lets +onlyGivenNames x; refine Fr.cut (D := D) (W := W) (K := K) (s0 := s0) (x := x) ?_ ?_; (on_goal 1 => dsimp -zeta only [x]); (on_goal 2 => intro hx; clear_value x))
    | (extract_lets +onlyGivenNames y) | split | (clear_value y; split) | (intro v w hv) | (intro v hv)

theorem State.aperturePart_frame (s : State) (fn off : Nat) (wr : Bool) (hE : Ev W K)
    (r_HIF_CTX_FAULT_HI : ∀ i, W (HIF_CTX_FAULT_HI i)) (r_HIF_CTX_FAULT_LO : ∀ i, W (HIF_CTX_FAULT_LO i))
    (r_HIF_CTX_STATUS : ∀ i, W (HIF_CTX_STATUS i))
    (h_s : Fr D W K s0 s) {t : State} (h : s.aperturePart fn off wr = .error t) : Fr D W K s0 t := by
  unfold State.aperturePart at h
  dsimp only at h
  have hF : ∀ c k va, Fr D W K s0 (s.transFault c k va) := fun c k va => by
    apply State.transFault_frame <;> first | assumption | apply r_HIF_CTX_FAULT_HI | apply r_HIF_CTX_FAULT_LO | apply r_HIF_CTX_STATUS
  split at h
  · exact Except.error.inj h ▸ State.accessEvent_frame _ _ _ _ hE h_s
  · split at h
    · exact Except.error.inj h ▸ hF _ _ _
    · split at h
      · cases h
      · exact Except.error.inj h ▸ hF _ _ _

theorem State.apertureStore_frame (hD : DramOk D) (s : State) (fn off : Nat) (bs : List Byte) (hE : Ev W K)
    (r_HIF_CTX_FAULT_HI : ∀ i, W (HIF_CTX_FAULT_HI i)) (r_HIF_CTX_FAULT_LO : ∀ i, W (HIF_CTX_FAULT_LO i))
    (r_HIF_CTX_STATUS : ∀ i, W (HIF_CTX_STATUS i))
    (r_MEM_SR_STATUS : W MEM_SR_STATUS) (r_MEM_STATUS : W MEM_STATUS) (r_THM_DOM_ON : ∀ i, W (THM_DOM_ON i))
    (k_mem : K .mem) (h_s : Fr D W K s0 s) : Fr D W K s0 (State.apertureStore s fn off bs) := by
  unfold State.apertureStore
  split
  · next h => exact State.aperturePart_frame _ _ _ _ hE r_HIF_CTX_FAULT_HI r_HIF_CTX_FAULT_LO r_HIF_CTX_STATUS h_s h
  · apply State.wakeForHost_frame
    all_goals first
      | assumption
      | exact State.offerWrite_frame _ _ _ _ k_mem (State.memWrite_frame hD _ _ _ k_mem h_s)

theorem doApertureWrite_frame (hD : DramOk D) (dt fn off : Nat) (bs : List Byte) (s : State) (hE : Ev W K)
    (r_HIF_CTX_FAULT_HI : ∀ i, W (HIF_CTX_FAULT_HI i)) (r_HIF_CTX_FAULT_LO : ∀ i, W (HIF_CTX_FAULT_LO i))
    (r_HIF_CTX_STATUS : ∀ i, W (HIF_CTX_STATUS i))
    (r_MEM_SR_STATUS : W MEM_SR_STATUS) (r_MEM_STATUS : W MEM_STATUS) (r_THM_DOM_ON : ∀ i, W (THM_DOM_ON i))
    (k_mem : K .mem) (h_s : Fr D W K s0 s) : Fr D W K s0 (doApertureWrite dt fn off bs s) := by
  unfold doApertureWrite
  extract_lets t
  refine State.onLiveIf_frame _ _ _ (fun u hu => foldOver_frame _ _ (fun p v hv => ?_) hu) (State.tick_frame _ _ h_s)
  apply State.apertureStore_frame hD <;> assumption

theorem State.apertureLoad_frame (fn : Nat) (hE : Ev W K)
    (r_HIF_CTX_FAULT_HI : ∀ i, W (HIF_CTX_FAULT_HI i)) (r_HIF_CTX_FAULT_LO : ∀ i, W (HIF_CTX_FAULT_LO i))
    (r_HIF_CTX_STATUS : ∀ i, W (HIF_CTX_STATUS i))
    (r_MEM_SR_STATUS : W MEM_SR_STATUS) (r_MEM_STATUS : W MEM_STATUS) (r_THM_DOM_ON : ∀ i, W (THM_DOM_ON i))
    (r_MEM_CTL_RAW : ∀ i, W (MEM_CTL_RAW i)) (k_mem : K .mem) (l : List (Nat × Nat × Nat)) (s : State) (h_s : Fr D W K s0 s) :
    Fr D W K s0 (State.apertureLoad s fn l).1 := by
  induction l generalizing s with
  | nil => exact h_s
  | cons p r ih =>
    unfold State.apertureLoad
    split
    · next h =>
      exact ih _ (State.aperturePart_frame _ _ _ _ hE r_HIF_CTX_FAULT_HI r_HIF_CTX_FAULT_LO r_HIF_CTX_STATUS h_s h)
    · refine ih _ ?_
      apply State.wakeForHost_frame
      all_goals first
        | assumption
        | (split; · exact h_s
           exact State.inc_frame _ _ (r_MEM_CTL_RAW _) h_s)

theorem doApertureRead_frame (dt fn off len : Nat) (s : State) (hE : Ev W K)
    (r_HIF_CTX_FAULT_HI : ∀ i, W (HIF_CTX_FAULT_HI i)) (r_HIF_CTX_FAULT_LO : ∀ i, W (HIF_CTX_FAULT_LO i))
    (r_HIF_CTX_STATUS : ∀ i, W (HIF_CTX_STATUS i))
    (r_MEM_SR_STATUS : W MEM_SR_STATUS) (r_MEM_STATUS : W MEM_STATUS) (r_THM_DOM_ON : ∀ i, W (THM_DOM_ON i))
    (r_MEM_CTL_RAW : ∀ i, W (MEM_CTL_RAW i)) (k_out : K .out) (k_mem : K .mem) (h_s : Fr D W K s0 s)
    : Fr D W K s0 (doApertureRead dt fn off len s) := by
  unfold doApertureRead
  extract_lets t
  refine State.onLiveIf_frame _ _ _ (fun u hu => ?_) (State.tick_frame _ _ h_s)
  have h1 : Fr D W K s0 (u.apertureLoad fn (pageParts off len)).1 := by
    apply State.apertureLoad_frame <;> assumption
  dsimp only
  split
  · exact State.send_frame _ _ k_out h1
  · exact State.send_frame _ _ k_out h1

theorem State.layerResult_frame (s : State) (c slot layer code : Nat) (r_HIF_CTX_LAYER_RESULT : W (HIF_CTX_LAYER_RESULT c))
    (h_s : Fr D W K s0 s) : Fr D W K s0 (State.layerResult s c slot layer code) := by
  unfold State.layerResult
  repeat' first
    | with_reducible assumption | with_reducible apply State.wrN_frame

theorem doLayerAllocate_frame (dt c slot : Nat) (video : Bool) (s : State) (r_CMP_LYR_OWNER : ∀ i, W (CMP_LYR_OWNER i))
    (r_HIF_CTX_LAYER_RESULT : W (HIF_CTX_LAYER_RESULT c)) (r_HIF_CTX_STATUS : W (HIF_CTX_STATUS c)) (k_hif : K .hif)
    (h_s : Fr D W K s0 s) : Fr D W K s0 (doLayerAllocate dt c slot video s) := by
  unfold doLayerAllocate
  repeat' first
    | with_reducible assumption | (simp -zeta (disch := first | assumption | exact rfl) only [↓Fr.setHif])
    | with_reducible apply Fr.ite | with_reducible apply State.tick_frame | with_reducible apply State.onReachIf_frame
    | with_reducible apply State.layerResult_frame | with_reducible apply State.put_frame
    | with_reducible apply r_CMP_LYR_OWNER
    | (extract_lets +onlyGivenNames x; refine Fr.cut (D := D) (W := W) (K := K) (s0 := s0) (x := x) ?_ ?_; (on_goal 1 => dsimp -zeta only [x]); (on_goal 2 => intro hx; clear_value x))
    | (extract_lets +onlyGivenNames y) | split | (intro v w hv) | (intro v hv) | (clear_value y; split)

theorem State.dropLayer_frame (s : State) (n : Nat) (r_lay : ∀ n a, layerBlock n a → W a) (k_act : K .act) (k_hif : K .hif)
    (k_cmp : K .cmp) (h_s : Fr D W K s0 s) : Fr D W K s0 (State.dropLayer s n) := by
  unfold State.dropLayer
  extract_lets lo lc keep
  refine h_s.via ⟨fun a ha => ?_, fun p hp => by cases p <;> first | rfl | exact absurd ‹_› hp⟩ rfl rfl
  refine tget_filter _ _ _ _ fun w => ?_
  have h : ¬ layerBlock n a := fun h => ha (r_lay n a h)
  simp only [layerBlock, not_or, not_and, Nat.not_lt] at h
  simp only [keep, lo, lc, Bool.not_eq_true', Bool.or_eq_false_iff, Bool.and_eq_false_iff, decide_eq_false_iff_not]
  exact ⟨by by_cases h1 : CMP_LYR_CTRL n ≤ a <;> simp_all, by by_cases h1 : COL_LYR_CTRL n ≤ a <;> simp_all⟩

theorem doLayerRelease_frame (dt c slot : Nat) (s : State) (r_lay : ∀ n a, layerBlock n a → W a)
    (r_HIF_CTX_LAYER_RESULT : W (HIF_CTX_LAYER_RESULT c)) (r_HIF_CTX_STATUS : W (HIF_CTX_STATUS c)) (k_act : K .act)
    (k_hif : K .hif) (k_cmp : K .cmp) (h_s : Fr D W K s0 s) : Fr D W K s0 (doLayerRelease dt c slot s) := by
  unfold doLayerRelease
  repeat' first
    | with_reducible assumption | with_reducible apply Fr.ite | with_reducible apply State.tick_frame
    | with_reducible apply State.onReachIf_frame | with_reducible apply State.layerResult_frame
    | with_reducible apply State.dropLayer_frame | with_reducible apply State.put_frame | exact r_lay
    | (extract_lets +onlyGivenNames x; refine Fr.cut (D := D) (W := W) (K := K) (s0 := s0) (x := x) ?_ ?_; (on_goal 1 => dsimp -zeta only [x]); (on_goal 2 => intro hx; clear_value x))
    | (extract_lets +onlyGivenNames y) | split | (intro v w hv) | (intro v hv) | (clear_value y; split)

theorem State.clampTo_frame (s : State) (key want top : Nat) (hE : Ev W K) (h_s : Fr D W K s0 s)
    : Fr D W K s0 (State.clampTo s key want top).1 := by
  unfold State.clampTo
  repeat' first
    | with_reducible assumption | with_reducible apply Fr.ite1 | with_reducible apply Fr.ite
    | with_reducible apply State.limitEvent_frame | split

theorem State.holdGroup_frame (s : State) (c old : Nat) (k_hif : K .hif) (h_s : Fr D W K s0 s)
    : Fr D W K s0 (State.holdGroup s c old) := by
  unfold State.holdGroup
  repeat' first
    | with_reducible assumption | (simp -zeta (disch := first | assumption | exact rfl) only [↓Fr.setHif])
    | with_reducible apply Fr.ite
    | (extract_lets +onlyGivenNames x; refine Fr.cut (D := D) (W := W) (K := K) (s0 := s0) (x := x) ?_ ?_; (on_goal 1 => dsimp -zeta only [x]); (on_goal 2 => intro hx; clear_value x))
    | (extract_lets +onlyGivenNames y) | split

theorem doCtxLimitsWrite_frame (dt c i : Nat) (w : Word) (s : State) (hE : Ev W K)
    (r_HIF_CTX_LIMITS_0 : ∀ i, W (HIF_CTX_LIMITS_0 i)) (r_HIF_CTX_LIMITS_1 : ∀ i, W (HIF_CTX_LIMITS_1 i))
    (r_HIF_CTX_LIMITS_2 : ∀ i, W (HIF_CTX_LIMITS_2 i)) (r_HIF_CTX_LIMITS_3 : ∀ i, W (HIF_CTX_LIMITS_3 i)) (k_hif : K .hif)
    (h_s : Fr D W K s0 s) : Fr D W K s0 (doCtxLimitsWrite dt c i w s) := by
  unfold doCtxLimitsWrite
  repeat' first
    | with_reducible assumption | with_reducible apply Fr.ite | with_reducible apply State.tick_frame
    | with_reducible apply State.onReachIf_frame | with_reducible apply State.clampTo_frame
    | with_reducible apply State.limitEvent_frame | with_reducible apply State.holdGroup_frame
    | with_reducible apply State.wrN_frame | with_reducible apply r_HIF_CTX_LIMITS_0 | with_reducible apply r_HIF_CTX_LIMITS_1
    | with_reducible apply r_HIF_CTX_LIMITS_2 | with_reducible apply r_HIF_CTX_LIMITS_3
    | (extract_lets +onlyGivenNames x; refine Fr.cut (D := D) (W := W) (K := K) (s0 := s0) (x := x) ?_ ?_; (on_goal 1 => dsimp -zeta only [x]); (on_goal 2 => intro hx; clear_value x))
    | (extract_lets +onlyGivenNames y) | split | (intro v w hv) | (intro v hv) | (clear_value y; split)

theorem doVfEnable_frame (dt n : Nat) (s : State) (r_HIF_STATUS : W HIF_STATUS) (k_out : K .out) (k_hif : K .hif)
    (k_mem : K .mem) (k_int : K .int) (h_s : Fr D W K s0 s) : Fr D W K s0 (doVfEnable dt n s) := by
  unfold doVfEnable
  repeat' first
    | with_reducible assumption | with_reducible apply State.tick_frame | with_reducible apply State.onLiveIf_frame
    | with_reducible apply State.put_frame | with_reducible apply State.pumpHost_frame
    | (extract_lets +onlyGivenNames x; refine Fr.cut (D := D) (W := W) (K := K) (s0 := s0) (x := x) ?_ ?_; (on_goal 1 => dsimp -zeta only [x]); (on_goal 2 => intro hx; clear_value x))
    | (extract_lets +onlyGivenNames y) | split | (clear_value y; split) | (intro v w hv) | (intro v hv)

theorem doCmdqDoorbell_frame (dt c tail : Nat) (s : State) (hE : Ev W K) (k_out : K .out) (k_hif : K .hif)
    (k_mem : K .mem) (k_int : K .int) (h_s : Fr D W K s0 s) : Fr D W K s0 (doCmdqDoorbell dt c tail s) := by
  unfold doCmdqDoorbell
  repeat' first
    | with_reducible assumption | (simp -zeta (disch := first | assumption | exact rfl) only [↓Fr.setHif])
    | with_reducible apply Fr.ite | with_reducible apply State.tick_frame | with_reducible apply State.onReach_frame
    | with_reducible apply State.pumpHost_frame | with_reducible apply State.accessEvent_frame
    | (extract_lets +onlyGivenNames x; refine Fr.cut (D := D) (W := W) (K := K) (s0 := s0) (x := x) ?_ ?_; (on_goal 1 => dsimp -zeta only [x]); (on_goal 2 => intro hx; clear_value x))
    | (extract_lets +onlyGivenNames y) | split | (clear_value y; split) | (intro v w hv) | (intro v hv)

theorem State.setQueue_frame (s : State) (q : Nat) (x : QueueSt) (k_hif : K .hif) (h_s : Fr D W K s0 s)
    : Fr D W K s0 (State.setQueue s q x) := by
  unfold State.setQueue
  repeat' first
    | with_reducible assumption | (simp -zeta (disch := first | assumption | exact rfl) only [↓Fr.setHif])
    | (extract_lets +onlyGivenNames x; refine Fr.cut (D := D) (W := W) (K := K) (s0 := s0) (x := x) ?_ ?_; (on_goal 1 => dsimp -zeta only [x]); (on_goal 2 => intro hx; clear_value x))
    | (extract_lets +onlyGivenNames y)

theorem doEvqDoorbell_frame (dt q head : Nat) (s : State) (hE : Ev W K) (r_HIF_DEVQ_HEAD : W HIF_DEVQ_HEAD) (k_hif : K .hif)
    (h_s : Fr D W K s0 s) : Fr D W K s0 (doEvqDoorbell dt q head s) := by
  unfold doEvqDoorbell
  repeat' first
    | with_reducible assumption | with_reducible apply Fr.ite | with_reducible apply State.tick_frame
    | with_reducible apply State.onReach_frame | with_reducible apply State.setQueue_frame
    | with_reducible apply State.put_frame | with_reducible apply State.accessEvent_frame
    | (extract_lets +onlyGivenNames x; refine Fr.cut (D := D) (W := W) (K := K) (s0 := s0) (x := x) ?_ ?_; (on_goal 1 => dsimp -zeta only [x]); (on_goal 2 => intro hx; clear_value x))
    | (extract_lets +onlyGivenNames y) | split | (intro v w hv) | (intro v hv)

theorem State.setQueueTail_frame (s : State) (q v : Nat) (r_HIF_CTX_EVQ_TAIL : W (HIF_CTX_EVQ_TAIL q))
    (r_HIF_DEVQ_TAIL : W HIF_DEVQ_TAIL) (h_s : Fr D W K s0 s) : Fr D W K s0 (State.setQueueTail s q v) := by
  unfold State.setQueueTail
  repeat' first
    | with_reducible assumption | with_reducible apply Fr.ite | with_reducible apply State.put_frame | split

theorem State.unhold_frame (s : State) (q : Nat) (r_HIF_FN_STATUS : W (HIF_FN_STATUS (queueFn q)))
    (r_INT_STATUS : W INT_STATUS) (k_int : K .int) (r_HIF_FN_DROPS : ∀ i, W (HIF_FN_DROPS i))
    (r_HIF_FN_STATUS_all : ∀ i, W (HIF_FN_STATUS i))
    (h_s : Fr D W K s0 s) : Fr D W K s0 (State.unhold s q) := by
  unfold State.unhold
  repeat' first
    | with_reducible assumption
    | with_reducible apply r_HIF_FN_DROPS | with_reducible apply r_HIF_FN_STATUS_all | (simp -zeta (disch := first | assumption | exact rfl) only [↓Fr.setInt])
    | with_reducible apply State.put_frame | with_reducible apply State.showHeld_frame
    | (extract_lets +onlyGivenNames x; refine Fr.cut (D := D) (W := W) (K := K) (s0 := s0) (x := x) ?_ ?_; (on_goal 1 => dsimp -zeta only [x]); (on_goal 2 => intro hx; clear_value x))
    | (extract_lets +onlyGivenNames y)

theorem State.sendVec_frame (s : State) (f v : Nat) (k_out : K .out) (k_int : K .int) (h_s : Fr D W K s0 s)
    : Fr D W K s0 (State.sendVec s f v) := by
  unfold State.sendVec
  repeat' first
    | with_reducible assumption | (simp -zeta (disch := first | assumption | exact rfl) only [↓Fr.setInt])
    | with_reducible apply Fr.ite | with_reducible apply State.send_frame
    | (extract_lets +onlyGivenNames x; refine Fr.cut (D := D) (W := W) (K := K) (s0 := s0) (x := x) ?_ ?_; (on_goal 1 => dsimp -zeta only [x]); (on_goal 2 => intro hx; clear_value x))
    | (extract_lets +onlyGivenNames y) | split | (clear_value y; split) | (intro v w hv) | (intro v hv)

theorem State.signal_frame (s : State) (q : Nat) (k_out : K .out) (k_hif : K .hif) (k_int : K .int) (h_s : Fr D W K s0 s)
    : Fr D W K s0 (State.signal s q) := by
  unfold State.signal
  repeat' first
    | with_reducible assumption | with_reducible apply State.sendVec_frame | with_reducible apply State.setQueue_frame
    | (extract_lets +onlyGivenNames x; refine Fr.cut (D := D) (W := W) (K := K) (s0 := s0) (x := x) ?_ ?_; (on_goal 1 => dsimp -zeta only [x]); (on_goal 2 => intro hx; clear_value x))
    | (extract_lets +onlyGivenNames y) | split | (clear_value y; split) | (intro v w hv) | (intro v hv)

theorem doEventQueueWrite_frame (dt q : Nat) (s : State) (r_HIF_CTX_EVQ_DROPS : W (HIF_CTX_EVQ_DROPS q))
    (r_HIF_CTX_EVQ_TAIL : W (HIF_CTX_EVQ_TAIL q)) (r_HIF_DEVQ_DROPS : W HIF_DEVQ_DROPS)
    (r_HIF_DEVQ_TAIL : W HIF_DEVQ_TAIL) (r_HIF_FN_DROPS : ∀ i, W (HIF_FN_DROPS i))
    (r_HIF_FN_STATUS : ∀ i, W (HIF_FN_STATUS i)) (r_INT_STATUS : W INT_STATUS) (k_out : K .out) (k_hif : K .hif)
    (k_int : K .int) (h_s : Fr D W K s0 s) : Fr D W K s0 (doEventQueueWrite dt q s) := by
  unfold doEventQueueWrite
  repeat' first
    | with_reducible assumption | with_reducible apply Fr.ite | with_reducible apply State.tick_frame
    | with_reducible apply State.onLiveIf_frame | with_reducible apply State.unhold_frame
    | with_reducible apply State.inc_frame | with_reducible apply State.setQueue_frame
    | with_reducible apply State.sendVec_frame | with_reducible apply State.send_frame
    | with_reducible apply State.setQueueTail_frame | with_reducible apply State.signal_frame
    | with_reducible apply r_HIF_FN_DROPS | with_reducible apply r_HIF_FN_STATUS
    | (extract_lets +onlyGivenNames x; refine Fr.cut (D := D) (W := W) (K := K) (s0 := s0) (x := x) ?_ ?_; (on_goal 1 => dsimp -zeta only [x]); (on_goal 2 => intro hx; clear_value x))
    | (extract_lets +onlyGivenNames y) | split | (clear_value y; split) | (intro v w hv) | (intro v hv)

theorem doMsixModTimeout_frame (dt q : Nat) (s : State) (k_out : K .out) (k_hif : K .hif) (k_int : K .int)
    (h_s : Fr D W K s0 s) : Fr D W K s0 (doMsixModTimeout dt q s) := by
  unfold doMsixModTimeout
  repeat' first
    | with_reducible assumption | with_reducible apply State.tick_frame | with_reducible apply State.onLiveIf_frame
    | with_reducible apply State.signal_frame
    | (extract_lets +onlyGivenNames x; refine Fr.cut (D := D) (W := W) (K := K) (s0 := s0) (x := x) ?_ ?_; (on_goal 1 => dsimp -zeta only [x]); (on_goal 2 => intro hx; clear_value x))
    | (extract_lets +onlyGivenNames y) | split | (clear_value y; split) | (intro v w hv) | (intro v hv)

theorem State.toggleGen_frame (s : State) (f : Nat) (r_HIF_FN_STATUS : W (HIF_FN_STATUS f)) (k_hif : K .hif)
    (h_s : Fr D W K s0 s) : Fr D W K s0 (State.toggleGen s f) := by
  unfold State.toggleGen
  repeat' first
    | with_reducible assumption | (simp -zeta (disch := first | assumption | exact rfl) only [↓Fr.setHif])
    | with_reducible apply Fr.ite | with_reducible apply State.put_frame
    | (extract_lets +onlyGivenNames x; refine Fr.cut (D := D) (W := W) (K := K) (s0 := s0) (x := x) ?_ ?_; (on_goal 1 => dsimp -zeta only [x]); (on_goal 2 => intro hx; clear_value x))
    | (extract_lets +onlyGivenNames y) | split | (clear_value y; split) | (intro v w hv) | (intro v hv)

theorem State.writeMsix_frame (s : State) (f off v : Nat) (k_out : K .out) (k_hif : K .hif) (k_int : K .int)
    (h_s : Fr D W K s0 s) : Fr D W K s0 (State.writeMsix s f off v) := by
  unfold State.writeMsix
  repeat' first
    | with_reducible assumption | (simp -zeta (disch := first | assumption | exact rfl) only [↓Fr.setHif])
    | with_reducible apply Fr.ite | with_reducible apply State.flushVecs_frame
    | (extract_lets +onlyGivenNames x; refine Fr.cut (D := D) (W := W) (K := K) (s0 := s0) (x := x) ?_ ?_; (on_goal 1 => dsimp -zeta only [x]); (on_goal 2 => intro hx; clear_value x))
    | (extract_lets +onlyGivenNames y) | split | (clear_value y; split) | (intro v w hv) | (intro v hv)

theorem State.showTags_frame (s : State) (e : Nat) (r_MEM_ENG_STATUS : W (MEM_ENG_STATUS e)) (r_MEM_INFLIGHT : W MEM_INFLIGHT)
    (h_s : Fr D W K s0 s) : Fr D W K s0 (State.showTags s e) := by
  unfold State.showTags
  repeat' first
    | with_reducible assumption | with_reducible apply State.put_frame | with_reducible apply State.putSat_frame
    | (extract_lets +onlyGivenNames x; refine Fr.cut (D := D) (W := W) (K := K) (s0 := s0) (x := x) ?_ ?_; (on_goal 1 => dsimp -zeta only [x]); (on_goal 2 => intro hx; clear_value x))
    | (extract_lets +onlyGivenNames y)

theorem State.endFetch_frame (s : State) (e k : Nat) (r_MEM_ENG_STATUS : W (MEM_ENG_STATUS e))
    (r_MEM_INFLIGHT : W MEM_INFLIGHT) (k_mem : K .mem) (h_s : Fr D W K s0 s) : Fr D W K s0 (State.endFetch s e k) := by
  unfold State.endFetch
  repeat' first
    | with_reducible assumption | (simp -zeta (disch := first | assumption | exact rfl) only [↓Fr.setMem])
    | with_reducible apply State.showTags_frame
    | (extract_lets +onlyGivenNames x; refine Fr.cut (D := D) (W := W) (K := K) (s0 := s0) (x := x) ?_ ?_; (on_goal 1 => dsimp -zeta only [x]); (on_goal 2 => intro hx; clear_value x))
    | (extract_lets +onlyGivenNames y) | split | (clear_value y; split) | (intro v w hv) | (intro v hv)

theorem State.endTag_frame (s : State) (g : HostTag) (r_MEM_ENG_STATUS : ∀ i, W (MEM_ENG_STATUS i))
    (r_MEM_INFLIGHT : W MEM_INFLIGHT) (k_hif : K .hif) (k_mem : K .mem) (h_s : Fr D W K s0 s)
    : Fr D W K s0 (State.endTag s g) := by
  unfold State.endTag
  repeat' first
    | with_reducible assumption | (simp -zeta (disch := first | assumption | exact rfl) only [↓Fr.setHif])
    | with_reducible apply Fr.ite | with_reducible apply State.endFetch_frame | with_reducible apply r_MEM_ENG_STATUS
    | (extract_lets +onlyGivenNames x; refine Fr.cut (D := D) (W := W) (K := K) (s0 := s0) (x := x) ?_ ?_; (on_goal 1 => dsimp -zeta only [x]); (on_goal 2 => intro hx; clear_value x))
    | (extract_lets +onlyGivenNames y) | split | (clear_value y; split) | (intro v w hv) | (intro v hv)

theorem doStaleCompletion_frame (dt f : Nat) (s : State) (r_HIF_FN_STATUS : W (HIF_FN_STATUS f))
    (r_MEM_ENG_STATUS : ∀ i, W (MEM_ENG_STATUS i)) (r_MEM_INFLIGHT : W MEM_INFLIGHT) (k_out : K .out) (k_hif : K .hif)
    (k_mem : K .mem) (k_int : K .int) (h_s : Fr D W K s0 s) : Fr D W K s0 (doStaleCompletion dt f s) := by
  unfold doStaleCompletion
  repeat' first
    | with_reducible assumption | with_reducible apply State.tick_frame | with_reducible apply State.onLive_frame
    | with_reducible apply State.endTag_frame | with_reducible apply State.inc_frame
    | with_reducible apply State.pumpHost_frame | with_reducible apply r_MEM_ENG_STATUS
    | (extract_lets +onlyGivenNames x; refine Fr.cut (D := D) (W := W) (K := K) (s0 := s0) (x := x) ?_ ?_; (on_goal 1 => dsimp -zeta only [x]); (on_goal 2 => intro hx; clear_value x))
    | (extract_lets +onlyGivenNames y) | split | (clear_value y; split) | (intro v w hv) | (intro v hv)

theorem doHostCompletionTimeout_frame (dt f : Nat) (old : Bool) (s : State) (hE : Ev W K)
    (r_HIF_CTX_FAULT_HI : ∀ i, W (HIF_CTX_FAULT_HI i)) (r_HIF_CTX_FAULT_LO : ∀ i, W (HIF_CTX_FAULT_LO i))
    (r_HIF_CTX_STATUS : ∀ i, W (HIF_CTX_STATUS i)) (r_MEM_ENG_STATUS : ∀ i, W (MEM_ENG_STATUS i))
    (r_MEM_INFLIGHT : W MEM_INFLIGHT) (k_out : K .out) (k_hif : K .hif) (k_mem : K .mem) (k_int : K .int)
    (h_s : Fr D W K s0 s) : Fr D W K s0 (doHostCompletionTimeout dt f old s) := by
  unfold doHostCompletionTimeout
  repeat' first
    | with_reducible assumption | with_reducible apply Fr.ite | with_reducible apply State.tick_frame
    | with_reducible apply State.onLive_frame | with_reducible apply State.endTag_frame
    | with_reducible apply State.transFault_frame | with_reducible apply State.pumpHost_frame
    | with_reducible apply r_HIF_CTX_FAULT_HI | with_reducible apply r_HIF_CTX_FAULT_LO
    | with_reducible apply r_HIF_CTX_STATUS | with_reducible apply r_MEM_ENG_STATUS
    | (extract_lets +onlyGivenNames x; refine Fr.cut (D := D) (W := W) (K := K) (s0 := s0) (x := x) ?_ ?_; (on_goal 1 => dsimp -zeta only [x]); (on_goal 2 => intro hx; clear_value x))
    | (extract_lets +onlyGivenNames y) | split | (clear_value y; split) | (intro v w hv) | (intro v hv)

theorem State.closeWindow_frame (s : State) (k_hif : K .hif) (h_s : Fr D W K s0 s) : Fr D W K s0 (State.closeWindow s) := by
  unfold State.closeWindow
  repeat' first
    | with_reducible assumption | (simp -zeta (disch := first | assumption | exact rfl) only [↓Fr.setHif])
    | (extract_lets +onlyGivenNames x; refine Fr.cut (D := D) (W := W) (K := K) (s0 := s0) (x := x) ?_ ?_; (on_goal 1 => dsimp -zeta only [x]); (on_goal 2 => intro hx; clear_value x))
    | (extract_lets +onlyGivenNames y) | (intro v w hv) | (intro v hv)

theorem doFetchWindowEnd_frame (dt : Nat) (s : State) (k_hif : K .hif) (h_s : Fr D W K s0 s)
    : Fr D W K s0 (doFetchWindowEnd dt s) := by
  unfold doFetchWindowEnd
  repeat' first
    | with_reducible assumption | with_reducible apply State.tick_frame | with_reducible apply State.onLiveIf_frame
    | with_reducible apply State.closeWindow_frame
    | (extract_lets +onlyGivenNames x; refine Fr.cut (D := D) (W := W) (K := K) (s0 := s0) (x := x) ?_ ?_; (on_goal 1 => dsimp -zeta only [x]); (on_goal 2 => intro hx; clear_value x))
    | (extract_lets +onlyGivenNames y) | split | (clear_value y; split) | (intro v w hv) | (intro v hv)

theorem State.fetchBoundary_frame (s : State) (lfSteps : Nat) (r_HIF_CTX_FETCH_DEMAND : ∀ i, W (HIF_CTX_FETCH_DEMAND i))
    (k_hif : K .hif) (h_s : Fr D W K s0 s) : Fr D W K s0 (State.fetchBoundary s lfSteps) := by
  unfold State.fetchBoundary
  repeat' first
    | with_reducible assumption | (simp -zeta (disch := first | assumption | exact rfl) only [↓Fr.setHif])
    | with_reducible apply Fr.ite | (with_reducible apply foldOver_frame; intro a t ht)
    | with_reducible apply State.closeWindow_frame | with_reducible apply State.putSat_frame
    | with_reducible apply State.putB_frame | with_reducible apply r_HIF_CTX_FETCH_DEMAND
    | (extract_lets +onlyGivenNames x; refine Fr.cut (D := D) (W := W) (K := K) (s0 := s0) (x := x) ?_ ?_; (on_goal 1 => dsimp -zeta only [x]); (on_goal 2 => intro hx; clear_value x))
    | (extract_lets +onlyGivenNames y) | split | (clear_value y; split) | (intro v w hv) | (intro v hv)

theorem State.setBuf_frame (s : State) (e : Nat) (b : EngBuf) (k_mem : K .mem) (h_s : Fr D W K s0 s)
    : Fr D W K s0 (State.setBuf s e b) := by
  unfold State.setBuf
  repeat' first
    | with_reducible assumption | (simp -zeta (disch := first | assumption | exact rfl) only [↓Fr.setMem])
    | (extract_lets +onlyGivenNames x; refine Fr.cut (D := D) (W := W) (K := K) (s0 := s0) (x := x) ?_ ?_; (on_goal 1 => dsimp -zeta only [x]); (on_goal 2 => intro hx; clear_value x))
    | (extract_lets +onlyGivenNames y) | split | (clear_value y; split) | (intro v w hv) | (intro v hv)

theorem State.setDrainRate_frame (s : State) (e rate : Nat) (k_mem : K .mem) (h_s : Fr D W K s0 s)
    : Fr D W K s0 (State.setDrainRate s e rate) := by
  unfold State.setDrainRate
  repeat' first
    | with_reducible assumption | with_reducible apply State.setBuf_frame
    | (extract_lets +onlyGivenNames x; refine Fr.cut (D := D) (W := W) (K := K) (s0 := s0) (x := x) ?_ ?_; (on_goal 1 => dsimp -zeta only [x]); (on_goal 2 => intro hx; clear_value x))
    | (extract_lets +onlyGivenNames y) | split | (clear_value y; split) | (intro v w hv) | (intro v hv)

theorem State.fillBuf_frame (s : State) (e n : Nat) (k_mem : K .mem) (h_s : Fr D W K s0 s)
    : Fr D W K s0 (State.fillBuf s e n) := by
  unfold State.fillBuf
  repeat' first
    | with_reducible assumption | with_reducible apply Fr.ite | with_reducible apply State.setBuf_frame
    | (extract_lets +onlyGivenNames x; refine Fr.cut (D := D) (W := W) (K := K) (s0 := s0) (x := x) ?_ ?_; (on_goal 1 => dsimp -zeta only [x]); (on_goal 2 => intro hx; clear_value x))
    | (extract_lets +onlyGivenNames y) | split | (clear_value y; split) | (intro v w hv) | (intro v hv)

theorem State.busyUnless_frame (s before : State) (k_mem : K .mem) (h_s : Fr D W K s0 s)
    : Fr D W K s0 (State.busyUnless s before) := by
  unfold State.busyUnless
  repeat' first
    | with_reducible assumption | with_reducible apply Fr.ite | with_reducible apply State.memBusy_frame
    | (extract_lets +onlyGivenNames x; refine Fr.cut (D := D) (W := W) (K := K) (s0 := s0) (x := x) ?_ ?_; (on_goal 1 => dsimp -zeta only [x]); (on_goal 2 => intro hx; clear_value x))
    | (extract_lets +onlyGivenNames y) | split | (clear_value y; split) | (intro v w hv) | (intro v hv)

theorem State.addLocal_frame (s : State) (r : MemReq) (r_MEM_CTL_RAW : ∀ i, W (MEM_CTL_RAW i))
    (r_MEM_ENG_STATUS : ∀ i, W (MEM_ENG_STATUS i)) (r_MEM_INFLIGHT : W MEM_INFLIGHT) (k_mem : K .mem)
    (h_s : Fr D W K s0 s) : Fr D W K s0 (State.addLocal s r) := by
  unfold State.addLocal
  repeat' first
    | with_reducible assumption | (simp -zeta (disch := first | assumption | exact rfl) only [↓Fr.setMem])
    | with_reducible apply Fr.ite | with_reducible apply State.offerWrite_frame | with_reducible apply State.inc_frame
    | with_reducible apply State.memBusy_frame | with_reducible apply State.showTags_frame
    | with_reducible apply r_MEM_CTL_RAW | with_reducible apply r_MEM_ENG_STATUS
    | (extract_lets +onlyGivenNames x; refine Fr.cut (D := D) (W := W) (K := K) (s0 := s0) (x := x) ?_ ?_; (on_goal 1 => dsimp -zeta only [x]); (on_goal 2 => intro hx; clear_value x))
    | (extract_lets +onlyGivenNames y) | split | (clear_value y; split) | (intro v w hv) | (intro v hv)

theorem State.remoteRead_frame (s : State) (base : MemReq) (gaddr : Nat) (hE : Ev W K)
    (r_HIF_CTX_FAULT_HI : ∀ i, W (HIF_CTX_FAULT_HI i)) (r_HIF_CTX_FAULT_LO : ∀ i, W (HIF_CTX_FAULT_LO i))
    (r_HIF_CTX_STATUS : ∀ i, W (HIF_CTX_STATUS i)) (r_MEM_CTL_RAW : ∀ i, W (MEM_CTL_RAW i))
    (r_MEM_ENG_STATUS : ∀ i, W (MEM_ENG_STATUS i)) (r_MEM_INFLIGHT : W MEM_INFLIGHT) (k_mem : K .mem) (k_lxs : K .lxs)
    (h_s : Fr D W K s0 s) : Fr D W K s0 (State.remoteRead s base gaddr) := by
  unfold State.remoteRead
  repeat' first
    | with_reducible assumption | (simp -zeta (disch := first | assumption | exact rfl) only [↓Fr.setMem])
    | with_reducible apply Fr.ite | with_reducible apply State.transFault_frame
    | with_reducible apply State.addLocal_frame | with_reducible apply State.showTags_frame
    | with_reducible apply State.sendRead_frame | with_reducible apply r_HIF_CTX_FAULT_HI
    | with_reducible apply r_HIF_CTX_FAULT_LO | with_reducible apply r_HIF_CTX_STATUS | with_reducible apply r_MEM_CTL_RAW
    | with_reducible apply r_MEM_ENG_STATUS
    | (extract_lets +onlyGivenNames x; refine Fr.cut (D := D) (W := W) (K := K) (s0 := s0) (x := x) ?_ ?_; (on_goal 1 => dsimp -zeta only [x]); (on_goal 2 => intro hx; clear_value x))
    | (extract_lets +onlyGivenNames y) | split | (clear_value y; split) | (intro v w hv) | (intro v hv)

theorem doMemRequest_frame (dt e c va len pixels : Nat) (wr : Bool) (arg : Nat) (s : State) (hE : Ev W K)
    (r_HIF_CTX_FAULT_HI : ∀ i, W (HIF_CTX_FAULT_HI i)) (r_HIF_CTX_FAULT_LO : ∀ i, W (HIF_CTX_FAULT_LO i))
    (r_HIF_CTX_STATUS : ∀ i, W (HIF_CTX_STATUS i)) (r_MEM_CTL_RAW : ∀ i, W (MEM_CTL_RAW i))
    (r_MEM_ENG_MISSES : W (MEM_ENG_MISSES e)) (r_MEM_ENG_STATUS : ∀ i, W (MEM_ENG_STATUS i))
    (r_MEM_INFLIGHT : W MEM_INFLIGHT) (k_out : K .out) (k_hif : K .hif) (k_mem : K .mem) (k_int : K .int) (k_lxs : K .lxs)
    (h_s : Fr D W K s0 s) : Fr D W K s0 (doMemRequest dt e c va len pixels wr arg s) := by
  unfold doMemRequest
  repeat' first
    | with_reducible assumption | (simp -zeta (disch := first | assumption | exact rfl) only [↓Fr.setHif, ↓Fr.setMem])
    | with_reducible apply Fr.ite | with_reducible apply State.tick_frame | with_reducible apply State.onCoreIf_frame
    | with_reducible apply State.inc_frame | with_reducible apply State.setDrainRate_frame
    | with_reducible apply State.transFault_frame | with_reducible apply State.showTags_frame
    | with_reducible apply State.pumpHost_frame | with_reducible apply State.remoteRead_frame
    | with_reducible apply State.addLocal_frame | with_reducible apply r_HIF_CTX_FAULT_HI
    | with_reducible apply r_HIF_CTX_FAULT_LO | with_reducible apply r_HIF_CTX_STATUS | with_reducible apply r_MEM_CTL_RAW
    | with_reducible apply r_MEM_ENG_STATUS
    | (extract_lets +onlyGivenNames x; refine Fr.cut (D := D) (W := W) (K := K) (s0 := s0) (x := x) ?_ ?_; (on_goal 1 => dsimp -zeta only [x]); (on_goal 2 => intro hx; clear_value x))
    | (extract_lets +onlyGivenNames y) | split | (clear_value y; split) | (intro v w hv) | (intro v hv)

theorem State.sleepStacks_frame (s : State) (r_MEM_SR_STATUS : W MEM_SR_STATUS) (r_MEM_STATUS : W MEM_STATUS)
    (r_THM_DOM_ON : ∀ i, W (THM_DOM_ON i)) (k_mem : K .mem) (h_s : Fr D W K s0 s)
    : Fr D W K s0 (State.sleepStacks s) := by
  unfold State.sleepStacks
  repeat' first
    | with_reducible assumption | (simp -zeta (disch := first | assumption | exact rfl) only [↓Fr.setMem])
    | (with_reducible apply foldOver_frame; intro a t ht) | with_reducible apply State.put_frame
    | with_reducible apply State.inc_frame | with_reducible apply State.setDomOn_frame | with_reducible apply r_THM_DOM_ON
    | (extract_lets +onlyGivenNames x; refine Fr.cut (D := D) (W := W) (K := K) (s0 := s0) (x := x) ?_ ?_; (on_goal 1 => dsimp -zeta only [x]); (on_goal 2 => intro hx; clear_value x))
    | (extract_lets +onlyGivenNames y) | split | (clear_value y; split) | (intro v w hv) | (intro v hv)

theorem State.setDrain_frame (s : State) (k : Nat) (k_mem : K .mem) (h_s : Fr D W K s0 s)
    : Fr D W K s0 (State.setDrain s k) := by
  unfold State.setDrain
  repeat' first
    | with_reducible assumption | (simp -zeta (disch := first | assumption | exact rfl) only [↓Fr.setMem])
    | with_reducible apply Fr.ite
    | (extract_lets +onlyGivenNames x; refine Fr.cut (D := D) (W := W) (K := K) (s0 := s0) (x := x) ?_ ?_; (on_goal 1 => dsimp -zeta only [x]); (on_goal 2 => intro hx; clear_value x))
    | (extract_lets +onlyGivenNames y) | split | (clear_value y; split) | (intro v w hv) | (intro v hv)

theorem State.touchLine_frame (s : State) (dpa : Nat) (k_mem : K .mem) (h_s : Fr D W K s0 s)
    : Fr D W K s0 (State.touchLine s dpa) := by
  unfold State.touchLine
  repeat' first
    | with_reducible assumption | (simp -zeta (disch := first | assumption | exact rfl) only [↓Fr.setMem])
    | with_reducible apply Fr.ite
    | (extract_lets +onlyGivenNames x; refine Fr.cut (D := D) (W := W) (K := K) (s0 := s0) (x := x) ?_ ?_; (on_goal 1 => dsimp -zeta only [x]); (on_goal 2 => intro hx; clear_value x))
    | (extract_lets +onlyGivenNames y) | split | (clear_value y; split) | (intro v w hv) | (intro v hv)

theorem State.transfer_frame (s : State) (p : Nat) (realTime : Bool) (k_mem : K .mem) (h_s : Fr D W K s0 s)
    : Fr D W K s0 (State.transfer s p realTime) := by
  unfold State.transfer
  repeat' first
    | with_reducible assumption | (simp -zeta (disch := first | assumption | exact rfl) only [↓Fr.setMem])
    | with_reducible apply Fr.ite | with_reducible apply State.setPc_frame
    | (extract_lets +onlyGivenNames x; refine Fr.cut (D := D) (W := W) (K := K) (s0 := s0) (x := x) ?_ ?_; (on_goal 1 => dsimp -zeta only [x]); (on_goal 2 => intro hx; clear_value x))
    | (extract_lets +onlyGivenNames y) | split | (clear_value y; split) | (intro v w hv) | (intro v hv)

theorem State.drainWrite_frame (s : State) (w : WriteBlk) (k_mem : K .mem) (h_s : Fr D W K s0 s)
    : Fr D W K s0 (State.drainWrite s w) := by
  unfold State.drainWrite
  repeat' first
    | with_reducible assumption | (simp -zeta (disch := first | assumption | exact rfl) only [↓Fr.setMem])
    | with_reducible apply State.acceptWrites_frame | with_reducible apply State.touchLine_frame
    | (extract_lets +onlyGivenNames x; refine Fr.cut (D := D) (W := W) (K := K) (s0 := s0) (x := x) ?_ ?_; (on_goal 1 => dsimp -zeta only [x]); (on_goal 2 => intro hx; clear_value x))
    | (extract_lets +onlyGivenNames y) | split | (clear_value y; split) | (intro v w hv) | (intro v hv)

theorem State.restStacks_frame (s : State) (r_MEM_SR_STATUS : W MEM_SR_STATUS) (r_MEM_STATUS : W MEM_STATUS)
    (r_THM_DOM_ON : ∀ i, W (THM_DOM_ON i)) (k_mem : K .mem) (h_s : Fr D W K s0 s) : Fr D W K s0 (State.restStacks s) := by
  unfold State.restStacks
  repeat' first
    | with_reducible assumption | with_reducible apply Fr.ite | with_reducible apply State.sleepStacks_frame
    | with_reducible apply r_THM_DOM_ON
    | (extract_lets +onlyGivenNames x; refine Fr.cut (D := D) (W := W) (K := K) (s0 := s0) (x := x) ?_ ?_; (on_goal 1 => dsimp -zeta only [x]); (on_goal 2 => intro hx; clear_value x))
    | (extract_lets +onlyGivenNames y) | split | (clear_value y; split) | (intro v w hv) | (intro v hv)

theorem doPcCommandIssue_frame (dt p : Nat) (s : State) (r_MEM_CTL_REFRESH : ∀ i, W (MEM_CTL_REFRESH i))
    (r_MEM_SR_STATUS : W MEM_SR_STATUS) (r_MEM_STATUS : W MEM_STATUS) (r_THM_DOM_ON : ∀ i, W (THM_DOM_ON i))
    (k_mem : K .mem) (h_s : Fr D W K s0 s) : Fr D W K s0 (doPcCommandIssue dt p s) := by
  unfold doPcCommandIssue
  repeat' first
    | with_reducible assumption | (simp -zeta (disch := first | assumption | exact rfl) only [↓Fr.setMem])
    | with_reducible apply Fr.ite | with_reducible apply State.tick_frame | with_reducible apply State.onCoreIf_frame
    | with_reducible apply State.setDrain_frame | with_reducible apply State.setPc_frame
    | with_reducible apply State.put_frame | with_reducible apply State.drainWrite_frame
    | with_reducible apply State.transfer_frame | with_reducible apply State.busyUnless_frame
    | with_reducible apply State.restStacks_frame | with_reducible apply State.touchLine_frame
    | with_reducible apply r_MEM_CTL_REFRESH | with_reducible apply r_THM_DOM_ON
    | (extract_lets +onlyGivenNames x; refine Fr.cut (D := D) (W := W) (K := K) (s0 := s0) (x := x) ?_ ?_; (on_goal 1 => dsimp -zeta only [x]); (on_goal 2 => intro hx; clear_value x))
    | (extract_lets +onlyGivenNames y) | split | (clear_value y; split) | (intro v w hv) | (intro v hv)

theorem doDeadlineMiss_frame (dt e k : Nat) (s : State) (r_MEM_ENG_MISSES : W (MEM_ENG_MISSES e)) (k_mem : K .mem)
    (k_cmp : K .cmp) (h_s : Fr D W K s0 s) : Fr D W K s0 (doDeadlineMiss dt e k s) := by
  unfold doDeadlineMiss
  repeat' first
    | with_reducible assumption | (simp -zeta (disch := first | assumption | exact rfl) only [↓Fr.setCmp, ↓Fr.setMem])
    | with_reducible apply Fr.ite | with_reducible apply State.tick_frame | with_reducible apply State.onLiveIf_frame
    | with_reducible apply State.inc_frame
    | (extract_lets +onlyGivenNames x; refine Fr.cut (D := D) (W := W) (K := K) (s0 := s0) (x := x) ?_ ?_; (on_goal 1 => dsimp -zeta only [x]); (on_goal 2 => intro hx; clear_value x))
    | (extract_lets +onlyGivenNames y) | split | (clear_value y; split) | (intro v w hv) | (intro v hv)

theorem State.toggleEngine_frame (s : State) (e : Nat) (r_MEM_ENG_STATUS : W (MEM_ENG_STATUS e)) (h_s : Fr D W K s0 s)
    : Fr D W K s0 (State.toggleEngine s e) := by
  unfold State.toggleEngine
  repeat' first
    | with_reducible assumption | with_reducible apply State.put_frame

theorem State.toggleCtx_frame (s : State) (c : Nat) (p : Nat → Bool) (r_MEM_ENG_STATUS : ∀ i, W (MEM_ENG_STATUS i))
    (h_s : Fr D W K s0 s) : Fr D W K s0 (State.toggleCtx s c p) := by
  unfold State.toggleCtx
  repeat' first
    | with_reducible assumption | (with_reducible apply foldOver_frame; intro a t ht)
    | with_reducible apply State.toggleEngine_frame | with_reducible apply r_MEM_ENG_STATUS
    | (extract_lets +onlyGivenNames x; refine Fr.cut (D := D) (W := W) (K := K) (s0 := s0) (x := x) ?_ ?_; (on_goal 1 => dsimp -zeta only [x]); (on_goal 2 => intro hx; clear_value x))
    | (extract_lets +onlyGivenNames y) | split | (clear_value y; split) | (intro v w hv) | (intro v hv)

theorem doRefreshDue_frame (dt p : Nat) (s : State) (r_MEM_CTL_REFRESH : ∀ i, W (MEM_CTL_REFRESH i)) (k_mem : K .mem)
    (h_s : Fr D W K s0 s) : Fr D W K s0 (doRefreshDue dt p s) := by
  unfold doRefreshDue
  repeat' first
    | with_reducible assumption | with_reducible apply Fr.ite | with_reducible apply State.tick_frame
    | with_reducible apply State.onLiveIf_frame | with_reducible apply State.setPc_frame
    | with_reducible apply State.put_frame | with_reducible apply State.inc_frame | with_reducible apply r_MEM_CTL_REFRESH
    | (extract_lets +onlyGivenNames x; refine Fr.cut (D := D) (W := W) (K := K) (s0 := s0) (x := x) ?_ ?_; (on_goal 1 => dsimp -zeta only [x]); (on_goal 2 => intro hx; clear_value x))
    | (extract_lets +onlyGivenNames y) | split | (clear_value y; split) | (intro v w hv) | (intro v hv)

theorem State.showHbmSpares_frame (s : State) (r_CAL_CULLET : W CAL_CULLET) (h_s : Fr D W K s0 s)
    : Fr D W K s0 (State.showHbmSpares s) := by
  unfold State.showHbmSpares
  repeat' first
    | with_reducible assumption | with_reducible apply State.putSat_frame
    | (extract_lets +onlyGivenNames x; refine Fr.cut (D := D) (W := W) (K := K) (s0 := s0) (x := x) ?_ ?_; (on_goal 1 => dsimp -zeta only [x]); (on_goal 2 => intro hx; clear_value x))
    | (extract_lets +onlyGivenNames y) | split | (clear_value y; split) | (intro v w hv) | (intro v hv)

theorem State.windowPc_frame (s : State) (p : Nat) (hE : Ev W K) (r_CAL_FENCED : W CAL_FENCED)
    (r_CAL_FENCE_DATA_0 : W CAL_FENCE_DATA_0) (r_CAL_FENCE_DATA_1 : W CAL_FENCE_DATA_1)
    (r_CAL_FENCE_DATA_2 : W CAL_FENCE_DATA_2) (r_MEM_CTL_PARITY : ∀ i, W (MEM_CTL_PARITY i)) (r_MEM_STATUS : W MEM_STATUS)
    (k_mem : K .mem) (k_cal : K .cal) (h_s : Fr D W K s0 s) : Fr D W K s0 (State.windowPc s p) := by
  unfold State.windowPc
  repeat' first
    | with_reducible assumption | with_reducible apply Fr.ite | (with_reducible apply foldOver_frame; intro a t ht)
    | with_reducible apply State.fenceUnit_frame | with_reducible apply State.incSat_frame
    | with_reducible apply State.put_frame | with_reducible apply State.raise_frame
    | with_reducible apply State.setPc_frame | with_reducible apply r_MEM_CTL_PARITY
    | (extract_lets +onlyGivenNames x; refine Fr.cut (D := D) (W := W) (K := K) (s0 := s0) (x := x) ?_ ?_; (on_goal 1 => dsimp -zeta only [x]); (on_goal 2 => intro hx; clear_value x))
    | (extract_lets +onlyGivenNames y) | split | (clear_value y; split) | (intro v w hv) | (intro v hv)

theorem State.sweepWindow_frame (s : State) (k_mem : K .mem) (k_cal : K .cal) (h_s : Fr D W K s0 s)
    : Fr D W K s0 (State.sweepWindow s) := by
  unfold State.sweepWindow
  repeat' first
    | with_reducible assumption | (simp -zeta (disch := first | assumption | exact rfl) only [↓Fr.setCal])
    | with_reducible apply Fr.ite | with_reducible apply State.setPc_frame
    | (with_reducible apply foldOver_frame; intro a t ht)
    | (extract_lets +onlyGivenNames x; refine Fr.cut (D := D) (W := W) (K := K) (s0 := s0) (x := x) ?_ ?_; (on_goal 1 => dsimp -zeta only [x]); (on_goal 2 => intro hx; clear_value x))
    | (extract_lets +onlyGivenNames y) | split | (intro v w hv) | (intro v hv) | (clear_value y; split)

theorem doHbmRetrainWindow_frame (dt : Nat) (s : State) (hE : Ev W K) (r_CAL_CULLET : W CAL_CULLET)
    (r_CAL_FENCED : W CAL_FENCED) (r_CAL_FENCE_DATA_0 : W CAL_FENCE_DATA_0) (r_CAL_FENCE_DATA_1 : W CAL_FENCE_DATA_1)
    (r_CAL_FENCE_DATA_2 : W CAL_FENCE_DATA_2) (r_MEM_CTL_PARITY : ∀ i, W (MEM_CTL_PARITY i)) (r_MEM_STATUS : W MEM_STATUS)
    (k_mem : K .mem) (k_seq : K .seq) (k_cal : K .cal) (h_s : Fr D W K s0 s) : Fr D W K s0 (doHbmRetrainWindow dt s) := by
  unfold doHbmRetrainWindow
  repeat' first
    | with_reducible assumption | (simp -zeta (disch := first | assumption | exact rfl) only [↓Fr.setSeq])
    | with_reducible apply Fr.ite | (with_reducible apply foldOver_frame; intro a t ht)
    | with_reducible apply State.tick_frame | with_reducible apply State.onLiveIf_frame
    | with_reducible apply State.windowPc_frame | with_reducible apply State.sweepWindow_frame
    | with_reducible apply State.showHbmSpares_frame | with_reducible apply r_MEM_CTL_PARITY
    | (extract_lets +onlyGivenNames x; refine Fr.cut (D := D) (W := W) (K := K) (s0 := s0) (x := x) ?_ ?_; (on_goal 1 => dsimp -zeta only [x]); (on_goal 2 => intro hx; clear_value x))
    | (extract_lets +onlyGivenNames y) | split | (clear_value y; split) | (intro v w hv) | (intro v hv)

theorem doRetrainOverdue_frame (dt p : Nat) (s : State) (hE : Ev W K) (k_mem : K .mem) (h_s : Fr D W K s0 s)
    : Fr D W K s0 (doRetrainOverdue dt p s) := by
  unfold doRetrainOverdue
  repeat' first
    | with_reducible assumption | with_reducible apply State.tick_frame | with_reducible apply State.onLiveIf_frame
    | with_reducible apply State.setPc_frame | with_reducible apply State.raise_frame
    | (extract_lets +onlyGivenNames x; refine Fr.cut (D := D) (W := W) (K := K) (s0 := s0) (x := x) ?_ ?_; (on_goal 1 => dsimp -zeta only [x]); (on_goal 2 => intro hx; clear_value x))
    | (extract_lets +onlyGivenNames y) | split | (clear_value y; split) | (intro v w hv) | (intro v hv)

theorem doParityError_frame (dt p lane e k : Nat) (s : State) (r_MEM_CTL_PARITY : ∀ i, W (MEM_CTL_PARITY i))
    (k_mem : K .mem) (h_s : Fr D W K s0 s) : Fr D W K s0 (doParityError dt p lane e k s) := by
  unfold doParityError
  repeat' first
    | with_reducible assumption | (simp -zeta (disch := first | assumption | exact rfl) only [↓Fr.setMem])
    | with_reducible apply Fr.ite | with_reducible apply State.tick_frame | with_reducible apply State.onLiveIf_frame
    | with_reducible apply State.incSat_frame | with_reducible apply State.setPc_frame
    | with_reducible apply r_MEM_CTL_PARITY
    | (extract_lets +onlyGivenNames x; refine Fr.cut (D := D) (W := W) (K := K) (s0 := s0) (x := x) ?_ ?_; (on_goal 1 => dsimp -zeta only [x]); (on_goal 2 => intro hx; clear_value x))
    | (extract_lets +onlyGivenNames y) | split | (clear_value y; split) | (intro v w hv) | (intro v hv)

theorem doSelfRefreshEntry_frame (dt : Nat) (s : State) (r_MEM_SR_STATUS : W MEM_SR_STATUS) (r_MEM_STATUS : W MEM_STATUS)
    (r_THM_DOM_ON : ∀ i, W (THM_DOM_ON i)) (k_mem : K .mem) (h_s : Fr D W K s0 s)
    : Fr D W K s0 (doSelfRefreshEntry dt s) := by
  unfold doSelfRefreshEntry
  repeat' first
    | with_reducible assumption | with_reducible apply State.tick_frame | with_reducible apply State.onLiveIf_frame
    | with_reducible apply State.sleepStacks_frame | with_reducible apply r_THM_DOM_ON
    | (extract_lets +onlyGivenNames x; refine Fr.cut (D := D) (W := W) (K := K) (s0 := s0) (x := x) ?_ ?_; (on_goal 1 => dsimp -zeta only [x]); (on_goal 2 => intro hx; clear_value x))
    | (extract_lets +onlyGivenNames y) | split | (clear_value y; split) | (intro v w hv) | (intro v hv)

theorem doSelfRefreshExit_frame (dt : Nat) (s : State) (r_MEM_SR_STATUS : W MEM_SR_STATUS) (r_MEM_STATUS : W MEM_STATUS)
    (r_THM_DOM_ON : ∀ i, W (THM_DOM_ON i)) (k_mem : K .mem) (h_s : Fr D W K s0 s) : Fr D W K s0 (doSelfRefreshExit dt s) := by
  unfold doSelfRefreshExit
  repeat' first
    | with_reducible assumption | with_reducible apply State.tick_frame | with_reducible apply State.onLiveIf_frame
    | with_reducible apply State.wakeStacks_frame | with_reducible apply r_THM_DOM_ON
    | (extract_lets +onlyGivenNames x; refine Fr.cut (D := D) (W := W) (K := K) (s0 := s0) (x := x) ?_ ?_; (on_goal 1 => dsimp -zeta only [x]); (on_goal 2 => intro hx; clear_value x))
    | (extract_lets +onlyGivenNames y) | (intro v w hv) | (intro v hv)

theorem State.eccCorrected_frame (s : State) (pc : Nat) (r_MEM_CTL_ECC : W (MEM_CTL_ECC (pcController pc)))
    (h_s : Fr D W K s0 s) : Fr D W K s0 (State.eccCorrected s pc) := by
  unfold State.eccCorrected
  repeat' first
    | with_reducible assumption | with_reducible apply State.incSat_frame

theorem State.eccUncorrectable_frame (s : State) (pc dpa : Nat) (hE : Ev W K)
    (r_MEM_CTL_ECC : W (MEM_CTL_ECC (pcController pc))) (r_MEM_ECC_ADDR_HI : W MEM_ECC_ADDR_HI)
    (r_MEM_ECC_ADDR_LO : W MEM_ECC_ADDR_LO) (h_s : Fr D W K s0 s) : Fr D W K s0 (State.eccUncorrectable s pc dpa) := by
  unfold State.eccUncorrectable
  repeat' first
    | with_reducible assumption | with_reducible apply State.incSat_frame | with_reducible apply State.put_frame
    | with_reducible apply State.raise_frame

theorem State.serveDone_frame (s : State) (e k ecc : Nat) (r_LXS_PORT_READ : ∀ i, W (LXS_PORT_READ i)) (k_lxs : K .lxs)
    (h_s : Fr D W K s0 s) : Fr D W K s0 (State.serveDone s e k ecc) := by
  unfold State.serveDone
  repeat' first
    | with_reducible assumption | (simp -zeta (disch := first | assumption | exact rfl) only [↓Fr.setLxs])
    | with_reducible apply Fr.ite | with_reducible apply State.sendResp_frame | with_reducible apply r_LXS_PORT_READ
    | (extract_lets +onlyGivenNames x; refine Fr.cut (D := D) (W := W) (K := K) (s0 := s0) (x := x) ?_ ?_; (on_goal 1 => dsimp -zeta only [x]); (on_goal 2 => intro hx; clear_value x))
    | (extract_lets +onlyGivenNames y) | split | (clear_value y; split) | (intro v w hv) | (intro v hv)

theorem State.noteEcc_frame (s : State) (r : MemReq) (e found : Nat) (hE : Ev W K)
    (r_HIF_CTX_FAULT_HI : ∀ i, W (HIF_CTX_FAULT_HI i)) (r_HIF_CTX_FAULT_LO : ∀ i, W (HIF_CTX_FAULT_LO i))
    (r_HIF_CTX_STATUS : ∀ i, W (HIF_CTX_STATUS i)) (r_MEM_CTL_ECC : ∀ i, W (MEM_CTL_ECC i))
    (r_MEM_ECC_ADDR_HI : W MEM_ECC_ADDR_HI) (r_MEM_ECC_ADDR_LO : W MEM_ECC_ADDR_LO) (k_mem : K .mem) (h_s : Fr D W K s0 s)
    : Fr D W K s0 (State.noteEcc s r e found) := by
  unfold State.noteEcc
  repeat' first
    | with_reducible assumption | (simp -zeta (disch := first | assumption | exact rfl) only [↓Fr.setMem])
    | with_reducible apply Fr.ite | with_reducible apply State.eccCorrected_frame
    | with_reducible apply State.eccUncorrectable_frame | with_reducible apply State.transFault_frame
    | with_reducible apply r_HIF_CTX_FAULT_HI | with_reducible apply r_HIF_CTX_FAULT_LO
    | with_reducible apply r_HIF_CTX_STATUS | with_reducible apply r_MEM_CTL_ECC
    | (extract_lets +onlyGivenNames x; refine Fr.cut (D := D) (W := W) (K := K) (s0 := s0) (x := x) ?_ ?_; (on_goal 1 => dsimp -zeta only [x]); (on_goal 2 => intro hx; clear_value x))
    | (extract_lets +onlyGivenNames y) | split | (clear_value y; split) | (intro v w hv) | (intro v hv)

theorem State.countStale_frame (s : State) (r : MemReq) (stale : Bool) (r_HIF_FN_STATUS : ∀ i, W (HIF_FN_STATUS i))
    (h_s : Fr D W K s0 s) : Fr D W K s0 (State.countStale s r stale) := by
  unfold State.countStale
  repeat' first
    | with_reducible assumption | with_reducible apply Fr.ite | with_reducible apply State.inc_frame
    | with_reducible apply r_HIF_FN_STATUS
    | (extract_lets +onlyGivenNames x; refine Fr.cut (D := D) (W := W) (K := K) (s0 := s0) (x := x) ?_ ?_; (on_goal 1 => dsimp -zeta only [x]); (on_goal 2 => intro hx; clear_value x))
    | (extract_lets +onlyGivenNames y) | split | (clear_value y; split) | (intro v w hv) | (intro v hv)

theorem State.takeData_frame (s : State) (r : MemReq) (e : Nat) (none_ current : Bool)
    (r_MEM_ENG_STATUS : W (MEM_ENG_STATUS e)) (k_mem : K .mem) (h_s : Fr D W K s0 s)
    : Fr D W K s0 (State.takeData s r e none_ current) := by
  unfold State.takeData
  repeat' first
    | with_reducible assumption | with_reducible apply Fr.ite | with_reducible apply State.incSat_frame
    | with_reducible apply State.fillBuf_frame
    | (extract_lets +onlyGivenNames x; refine Fr.cut (D := D) (W := W) (K := K) (s0 := s0) (x := x) ?_ ?_; (on_goal 1 => dsimp -zeta only [x]); (on_goal 2 => intro hx; clear_value x))
    | (extract_lets +onlyGivenNames y) | split | (clear_value y; split) | (intro v w hv) | (intro v hv)

theorem doMemCompletion_frame (dt e k ecc : Nat) (s : State) (hE : Ev W K)
    (r_HIF_CTX_FAULT_HI : ∀ i, W (HIF_CTX_FAULT_HI i)) (r_HIF_CTX_FAULT_LO : ∀ i, W (HIF_CTX_FAULT_LO i))
    (r_HIF_CTX_STATUS : ∀ i, W (HIF_CTX_STATUS i)) (r_HIF_FN_STATUS : ∀ i, W (HIF_FN_STATUS i))
    (r_LXS_PORT_READ : ∀ i, W (LXS_PORT_READ i)) (r_MEM_CTL_ECC : ∀ i, W (MEM_CTL_ECC i))
    (r_MEM_ECC_ADDR_HI : W MEM_ECC_ADDR_HI) (r_MEM_ECC_ADDR_LO : W MEM_ECC_ADDR_LO)
    (r_MEM_ENG_STATUS : W (MEM_ENG_STATUS e)) (r_MEM_INFLIGHT : W MEM_INFLIGHT) (r_MEM_SR_STATUS : W MEM_SR_STATUS)
    (r_MEM_STATUS : W MEM_STATUS) (r_THM_DOM_ON : ∀ i, W (THM_DOM_ON i)) (k_out : K .out) (k_hif : K .hif)
    (k_mem : K .mem) (k_int : K .int) (k_lxs : K .lxs) (h_s : Fr D W K s0 s)
    : Fr D W K s0 (doMemCompletion dt e k ecc s) := by
  unfold doMemCompletion
  repeat' first
    | with_reducible assumption | (simp -zeta (disch := first | assumption | exact rfl) only [↓Fr.setMem])
    | with_reducible apply State.tick_frame | with_reducible apply State.onCore_frame
    | with_reducible apply State.freeTag_frame | with_reducible apply State.noteEcc_frame
    | with_reducible apply State.countStale_frame | with_reducible apply State.takeData_frame
    | with_reducible apply State.serveDone_frame | with_reducible apply State.showTags_frame
    | with_reducible apply State.busyUnless_frame | with_reducible apply State.pumpHost_frame
    | with_reducible apply State.restStacks_frame | with_reducible apply r_HIF_CTX_FAULT_HI
    | with_reducible apply r_HIF_CTX_FAULT_LO | with_reducible apply r_HIF_CTX_STATUS
    | with_reducible apply r_HIF_FN_STATUS | with_reducible apply r_LXS_PORT_READ | with_reducible apply r_MEM_CTL_ECC
    | with_reducible apply r_THM_DOM_ON
    | (extract_lets +onlyGivenNames x; refine Fr.cut (D := D) (W := W) (K := K) (s0 := s0) (x := x) ?_ ?_; (on_goal 1 => dsimp -zeta only [x]); (on_goal 2 => intro hx; clear_value x))
    | (extract_lets +onlyGivenNames y) | split | (clear_value y; split) | (intro v w hv) | (intro v hv)

theorem doPatrolScrub_frame (dt dpa found : Nat) (s : State) (hE : Ev W K) (r_MEM_CTL_ECC : ∀ i, W (MEM_CTL_ECC i))
    (r_MEM_ECC_ADDR_HI : W MEM_ECC_ADDR_HI) (r_MEM_ECC_ADDR_LO : W MEM_ECC_ADDR_LO) (k_mem : K .mem) (h_s : Fr D W K s0 s)
    : Fr D W K s0 (doPatrolScrub dt dpa found s) := by
  unfold doPatrolScrub
  repeat' first
    | with_reducible assumption | (simp -zeta (disch := first | assumption | exact rfl) only [↓Fr.setMem])
    | with_reducible apply Fr.ite | with_reducible apply State.tick_frame | with_reducible apply State.onLiveIf_frame
    | with_reducible apply State.eccCorrected_frame | with_reducible apply State.eccUncorrectable_frame
    | with_reducible apply r_MEM_CTL_ECC
    | (extract_lets +onlyGivenNames x; refine Fr.cut (D := D) (W := W) (K := K) (s0 := s0) (x := x) ?_ ?_; (on_goal 1 => dsimp -zeta only [x]); (on_goal 2 => intro hx; clear_value x))
    | (extract_lets +onlyGivenNames y) | split | (intro v w hv) | (intro v hv)

theorem doHbmTrainingDone_frame (dt : Nat) (ok : Bool) (failPc : Nat) (s : State) (hE : Ev W K)
    (r_CAL_CULLET : W CAL_CULLET) (r_HIF_POOL_FREE : W HIF_POOL_FREE) (r_HIF_STATUS : W HIF_STATUS)
    (r_MEM_STATUS : W MEM_STATUS) (k_hif : K .hif) (k_mem : K .mem) (h_s : Fr D W K s0 s)
    : Fr D W K s0 (doHbmTrainingDone dt ok failPc s) := by
  unfold doHbmTrainingDone
  repeat' first
    | with_reducible assumption | (simp -zeta (disch := first | assumption | exact rfl) only [↓Fr.setHif])
    | with_reducible apply Fr.ite | (with_reducible apply foldOver_frame; intro a t ht)
    | with_reducible apply State.tick_frame | with_reducible apply State.onLiveIf_frame
    | with_reducible apply State.put_frame | with_reducible apply State.setPc_frame
    | with_reducible apply State.showHbmSpares_frame | with_reducible apply State.memBusy_frame
    | with_reducible apply State.raise_frame
    | (extract_lets +onlyGivenNames x; refine Fr.cut (D := D) (W := W) (K := K) (s0 := s0) (x := x) ?_ ?_; (on_goal 1 => dsimp -zeta only [x]); (on_goal 2 => intro hx; clear_value x))
    | (extract_lets +onlyGivenNames y) | split | (clear_value y; split) | (intro v w hv) | (intro v hv)

theorem State.memShutdown_frame (s : State) (r_MEM_SR_STATUS : W MEM_SR_STATUS) (r_MEM_STATUS : W MEM_STATUS)
    (r_THM_DOM_ON : ∀ i, W (THM_DOM_ON i)) (k_mem : K .mem) (h_s : Fr D W K s0 s)
    : Fr D W K s0 (State.memShutdown s) := by
  unfold State.memShutdown
  repeat' first
    | with_reducible assumption | (simp -zeta (disch := first | assumption | exact rfl) only [↓Fr.setMem])
    | with_reducible apply Fr.ite | with_reducible apply State.wakeStacks_frame
    | with_reducible apply State.restStacks_frame | with_reducible apply r_THM_DOM_ON
    | (extract_lets +onlyGivenNames x; refine Fr.cut (D := D) (W := W) (K := K) (s0 := s0) (x := x) ?_ ?_; (on_goal 1 => dsimp -zeta only [x]); (on_goal 2 => intro hx; clear_value x))
    | (extract_lets +onlyGivenNames y) | split | (clear_value y; split) | (intro v w hv) | (intro v hv)

theorem State.memRest_frame (s : State) (r_MEM_SR_STATUS : W MEM_SR_STATUS) (r_MEM_STATUS : W MEM_STATUS)
    (r_THM_DOM_ON : ∀ i, W (THM_DOM_ON i)) (k_mem : K .mem) (h_s : Fr D W K s0 s) : Fr D W K s0 (State.memRest s) := by
  unfold State.memRest
  repeat' first
    | with_reducible assumption | (simp -zeta (disch := first | assumption | exact rfl) only [↓Fr.setMem])
    | with_reducible apply State.restStacks_frame | with_reducible apply r_THM_DOM_ON
    | (extract_lets +onlyGivenNames x; refine Fr.cut (D := D) (W := W) (K := K) (s0 := s0) (x := x) ?_ ?_; (on_goal 1 => dsimp -zeta only [x]); (on_goal 2 => intro hx; clear_value x))
    | (extract_lets +onlyGivenNames y) | split | (clear_value y; split) | (intro v w hv) | (intro v hv)

end Sys2Proof.Machine
end

