-- ==== Sys2Proof/Laws/FrameForm.lean ====
section
/-! SUPPORT. What each function leaves: registers, parts of the state, the queue and the memory. One law per function of
composition, timing, colour, planes and schedules. -/
namespace Sys2Proof.Machine

set_option linter.all false
set_option linter.unusedTactic false
set_option linter.unreachableTactic false

variable {D : List Host.Cell → Prop} {W : Nat → Prop} {K : Part → Prop} {s0 : State}

theorem State.coefWrite_frame (s : State) (k w : Nat) (k_cmp : K .cmp) (h_s : Fr D W K s0 s)
    : Fr D W K s0 (State.coefWrite s k w) := by
  unfold State.coefWrite
  repeat' first
    | with_reducible assumption | (simp -zeta (disch := first | assumption | exact rfl) only [↓Fr.setCmp])
    | with_reducible apply Fr.ite
    | (extract_lets +onlyGivenNames x; refine Fr.cut (D := D) (W := W) (K := K) (s0 := s0) (x := x) ?_ ?_; (on_goal 1 => dsimp -zeta only [x]); (on_goal 2 => intro hx; clear_value x))
    | (extract_lets +onlyGivenNames y) | split

theorem State.coefShow_frame (s : State) (r_CMP_COEF_DATA : ∀ i, W (CMP_COEF_DATA i)) (h_s : Fr D W K s0 s)
    : Fr D W K s0 (State.coefShow s) := by
  unfold State.coefShow
  repeat' first
    | with_reducible assumption | with_reducible apply Fr.ite | with_reducible apply State.wrN_frame
    | (with_reducible apply foldOver_frame; intro a t ht) | with_reducible apply r_CMP_COEF_DATA
    | (extract_lets +onlyGivenNames x; refine Fr.cut (D := D) (W := W) (K := K) (s0 := s0) (x := x) ?_ ?_; (on_goal 1 => dsimp -zeta only [x]); (on_goal 2 => intro hx; clear_value x))
    | (extract_lets +onlyGivenNames y) | split | (intro v w hv) | (intro v hv)

theorem State.without_frame (s : State) (o : Nat) (lines : Tbl Nat) (k_cmp : K .cmp) (h_s : Fr D W K s0 s)
    : Fr D W K s0 (State.without s o lines) := by
  unfold State.without
  repeat' first
    | with_reducible assumption | (simp -zeta (disch := first | assumption | exact rfl) only [↓Fr.setCmp])
    | (extract_lets +onlyGivenNames x; refine Fr.cut (D := D) (W := W) (K := K) (s0 := s0) (x := x) ?_ ?_; (on_goal 1 => dsimp -zeta only [x]); (on_goal 2 => intro hx; clear_value x))
    | (extract_lets +onlyGivenNames y) | split | (clear_value y; split) | (intro v w hv) | (intro v hv)

theorem State.showOff_frame (s : State) (n : Nat) (r_CMP_LYR_STATUS : W (CMP_LYR_STATUS n)) (h_s : Fr D W K s0 s)
    : Fr D W K s0 (State.showOff s n) := by
  unfold State.showOff
  repeat' first
    | with_reducible assumption | with_reducible apply State.putB_frame | (intro v w hv) | (intro v hv)

theorem State.showOffLine_frame (s : State) (n o line : Nat) (r_CMP_LYR_OFF_LFN : W (CMP_LYR_OFF_LFN n))
    (r_CMP_LYR_OFF_LINE : W (CMP_LYR_OFF_LINE n)) (h_s : Fr D W K s0 s) : Fr D W K s0 (State.showOffLine s n o line) := by
  unfold State.showOffLine
  repeat' first
    | with_reducible assumption | with_reducible apply State.put_frame
    | (extract_lets +onlyGivenNames x; refine Fr.cut (D := D) (W := W) (K := K) (s0 := s0) (x := x) ?_ ?_; (on_goal 1 => dsimp -zeta only [x]); (on_goal 2 => intro hx; clear_value x))
    | (extract_lets +onlyGivenNames y) | split | (clear_value y; split) | (intro v w hv) | (intro v hv)

theorem State.loseInTail_frame (s : State) (n o depth : Nat) (k_pln : K .pln) (h_s : Fr D W K s0 s)
    : Fr D W K s0 (State.loseInTail s n o depth) := by
  unfold State.loseInTail
  repeat' first
    | with_reducible assumption | (simp -zeta (disch := first | assumption | exact rfl) only [↓Fr.setPln])
    | with_reducible apply Fr.ite
    | (extract_lets +onlyGivenNames x; refine Fr.cut (D := D) (W := W) (K := K) (s0 := s0) (x := x) ?_ ?_; (on_goal 1 => dsimp -zeta only [x]); (on_goal 2 => intro hx; clear_value x))
    | (extract_lets +onlyGivenNames y) | split | (clear_value y; split) | (intro v w hv) | (intro v hv)

theorem State.markOff_frame (s : State) (n o line cause : Nat) (remote : Bool) (r_CMP_LYR_STATUS : W (CMP_LYR_STATUS n))
    (r_CMP_OUT_UNDERRUNS : ∀ i, W (CMP_OUT_UNDERRUNS i)) (k_cmp : K .cmp) (k_pln : K .pln) (h_s : Fr D W K s0 s)
    : Fr D W K s0 (State.markOff s n o line cause remote) := by
  unfold State.markOff
  repeat' first
    | with_reducible assumption | (simp -zeta (disch := first | assumption | exact rfl) only [↓Fr.setCmp])
    | with_reducible apply Fr.ite | (with_reducible apply foldOver_frame; intro a t ht)
    | with_reducible apply State.loseInTail_frame | with_reducible apply State.put_frame
    | with_reducible apply State.putB_frame | with_reducible apply State.showOff_frame
    | with_reducible apply State.inc_frame | with_reducible apply r_CMP_OUT_UNDERRUNS
    | (extract_lets +onlyGivenNames x; refine Fr.cut (D := D) (W := W) (K := K) (s0 := s0) (x := x) ?_ ?_; (on_goal 1 => dsimp -zeta only [x]); (on_goal 2 => intro hx; clear_value x))
    | (extract_lets +onlyGivenNames y) | split | (clear_value y; split) | (intro v w hv) | (intro v hv)

theorem State.takeDrop_frame (s : State) (tag group cause : Nat) (remote : Bool) (k_cmp : K .cmp) (h_s : Fr D W K s0 s)
    : Fr D W K s0 (State.takeDrop s tag group cause remote) := by
  unfold State.takeDrop
  repeat' first
    | with_reducible assumption | (simp -zeta (disch := first | assumption | exact rfl) only [↓Fr.setCmp])
    | (extract_lets +onlyGivenNames x; refine Fr.cut (D := D) (W := W) (K := K) (s0 := s0) (x := x) ?_ ?_; (on_goal 1 => dsimp -zeta only [x]); (on_goal 2 => intro hx; clear_value x))
    | (extract_lets +onlyGivenNames y)

theorem State.layerOff_frame (s : State) (n o line cause : Nat) (remote : Bool) (hE : Ev W K)
    (r_CMP_DROP_STATUS : W CMP_DROP_STATUS) (r_CMP_LYR_OFF_LFN : W (CMP_LYR_OFF_LFN n))
    (r_CMP_LYR_OFF_LINE : W (CMP_LYR_OFF_LINE n)) (r_CMP_LYR_STATUS : W (CMP_LYR_STATUS n))
    (r_CMP_OUT_UNDERRUNS : ∀ i, W (CMP_OUT_UNDERRUNS i)) (r_MEM_ENG_STATUS : ∀ i, W (MEM_ENG_STATUS i)) (k_cmp : K .cmp)
    (k_pln : K .pln) (k_lxs : K .lxs) (h_s : Fr D W K s0 s) : Fr D W K s0 (State.layerOff s n o line cause remote) := by
  unfold State.layerOff
  repeat' first
    | with_reducible assumption | with_reducible apply Fr.ite | (with_reducible apply foldOver_frame; intro a t ht)
    | with_reducible apply State.markOff_frame | with_reducible apply State.toggleCtx_frame
    | with_reducible apply State.showOffLine_frame | with_reducible apply State.inc_frame
    | with_reducible apply State.raiseC_frame | with_reducible apply State.takeDrop_frame
    | with_reducible apply State.sendDrop_frame | with_reducible apply r_CMP_OUT_UNDERRUNS
    | with_reducible apply r_MEM_ENG_STATUS
    | (extract_lets +onlyGivenNames x; refine Fr.cut (D := D) (W := W) (K := K) (s0 := s0) (x := x) ?_ ?_; (on_goal 1 => dsimp -zeta only [x]); (on_goal 2 => intro hx; clear_value x))
    | (extract_lets +onlyGivenNames y) | split | (clear_value y; split) | (intro v w hv) | (intro v hv)

theorem State.applyCut_frame (s : State) (r_CMP_OUT_CUT : ∀ i, W (CMP_OUT_CUT i)) (r_CMP_OUT_INFO : ∀ i, W (CMP_OUT_INFO i))
    (r_CMP_OUT_STATUS : ∀ i, W (CMP_OUT_STATUS i)) (h_s : Fr D W K s0 s) : Fr D W K s0 (State.applyCut s) := by
  unfold State.applyCut
  repeat' first
    | with_reducible assumption | with_reducible apply Fr.ite | with_reducible apply State.put_frame
    | with_reducible apply State.putB_frame | (with_reducible apply foldOver_frame; intro a t ht)
    | with_reducible apply r_CMP_OUT_CUT | with_reducible apply r_CMP_OUT_INFO | with_reducible apply r_CMP_OUT_STATUS
    | (extract_lets +onlyGivenNames x; refine Fr.cut (D := D) (W := W) (K := K) (s0 := s0) (x := x) ?_ ?_; (on_goal 1 => dsimp -zeta only [x]); (on_goal 2 => intro hx; clear_value x))
    | (extract_lets +onlyGivenNames y) | split | (intro v w hv) | (intro v hv)

theorem State.setRefValid_frame (s : State) (r : Nat) (b : Bool) (r_TIM_REF_STATUS : W TIM_REF_STATUS) (h_s : Fr D W K s0 s)
    : Fr D W K s0 (State.setRefValid s r b) := by
  unfold State.setRefValid
  repeat' first
    | with_reducible assumption | with_reducible apply State.putB_frame
    | (extract_lets +onlyGivenNames x; refine Fr.cut (D := D) (W := W) (K := K) (s0 := s0) (x := x) ?_ ?_; (on_goal 1 => dsimp -zeta only [x]); (on_goal 2 => intro hx; clear_value x))
    | (extract_lets +onlyGivenNames y) | split

theorem State.setRef_frame (s : State) (r : Nat) (x : RefSt) (k_tim : K .tim) (h_s : Fr D W K s0 s)
    : Fr D W K s0 (State.setRef s r x) := by
  unfold State.setRef
  repeat' first
    | with_reducible assumption | (simp -zeta (disch := first | assumption | exact rfl) only [↓Fr.setTim])
    | (extract_lets +onlyGivenNames x; refine Fr.cut (D := D) (W := W) (K := K) (s0 := s0) (x := x) ?_ ?_; (on_goal 1 => dsimp -zeta only [x]); (on_goal 2 => intro hx; clear_value x))
    | (extract_lets +onlyGivenNames y)

theorem State.countLock_frame (s : State) (k_tim : K .tim) (h_s : Fr D W K s0 s) : Fr D W K s0 (State.countLock s) := by
  unfold State.countLock
  repeat' first
    | with_reducible assumption | (simp -zeta (disch := first | assumption | exact rfl) only [↓Fr.setTim])
    | with_reducible apply Fr.ite
    | (extract_lets +onlyGivenNames x; refine Fr.cut (D := D) (W := W) (K := K) (s0 := s0) (x := x) ?_ ?_; (on_goal 1 => dsimp -zeta only [x]); (on_goal 2 => intro hx; clear_value x))
    | (extract_lets +onlyGivenNames y) | split | (clear_value y; split) | (intro v w hv) | (intro v hv)

theorem State.enterDpll_frame (s : State) (st : Nat) (hE : Ev W K) (r_TIM_DPLL_STATUS : W TIM_DPLL_STATUS)
    (k_tim : K .tim) (h_s : Fr D W K s0 s) : Fr D W K s0 (State.enterDpll s st) := by
  unfold State.enterDpll
  repeat' first
    | with_reducible assumption | (simp -zeta (disch := first | assumption | exact rfl) only [↓Fr.setTim])
    | with_reducible apply Fr.ite | with_reducible apply State.put_frame | with_reducible apply State.raise_frame
    | (extract_lets +onlyGivenNames x; refine Fr.cut (D := D) (W := W) (K := K) (s0 := s0) (x := x) ?_ ?_; (on_goal 1 => dsimp -zeta only [x]); (on_goal 2 => intro hx; clear_value x))
    | (extract_lets +onlyGivenNames y) | split | (clear_value y; split) | (intro v w hv) | (intro v hv)

theorem State.enterHoldover_frame (s : State) (hE : Ev W K) (r_TIM_DPLL_STATUS : W TIM_DPLL_STATUS) (k_tim : K .tim)
    (h_s : Fr D W K s0 s) : Fr D W K s0 (State.enterHoldover s) := by
  unfold State.enterHoldover
  repeat' first
    | with_reducible assumption | (simp -zeta (disch := first | assumption | exact rfl) only [↓Fr.setTim])
    | with_reducible apply Fr.ite | with_reducible apply State.enterDpll_frame | with_reducible apply State.put_frame
    | (extract_lets +onlyGivenNames x; refine Fr.cut (D := D) (W := W) (K := K) (s0 := s0) (x := x) ?_ ?_; (on_goal 1 => dsimp -zeta only [x]); (on_goal 2 => intro hx; clear_value x))
    | (extract_lets +onlyGivenNames y) | split | (clear_value y; split) | (intro v w hv) | (intro v hv)

theorem State.refLost_frame (s : State) (hE : Ev W K) (r_TIM_DPLL_STATUS : W TIM_DPLL_STATUS) (k_tim : K .tim)
    (h_s : Fr D W K s0 s) : Fr D W K s0 (State.refLost s) := by
  unfold State.refLost
  extract_lets lost
  split
  · exact (State.raise_frame s 0x0301 lost _ 0 hE h_s).upd rfl (fun p hp => by cases p <;> first | rfl | exact absurd ‹_› hp) rfl rfl
  · exact State.enterHoldover_frame _ hE r_TIM_DPLL_STATUS k_tim (State.raise_frame _ _ _ _ _ hE h_s)

theorem State.refInvalid_frame (s : State) (r : Nat) (hE : Ev W K) (r_TIM_DPLL_STATUS : W TIM_DPLL_STATUS)
    (r_TIM_REF_STATUS : W TIM_REF_STATUS) (k_tim : K .tim) (h_s : Fr D W K s0 s)
    : Fr D W K s0 (State.refInvalid s r) := by
  unfold State.refInvalid
  repeat' first
    | with_reducible assumption | with_reducible apply Fr.ite | with_reducible apply State.setRef_frame
    | with_reducible apply State.setRefValid_frame | with_reducible apply State.refLost_frame
    | (extract_lets +onlyGivenNames x; refine Fr.cut (D := D) (W := W) (K := K) (s0 := s0) (x := x) ?_ ?_; (on_goal 1 => dsimp -zeta only [x]); (on_goal 2 => intro hx; clear_value x))
    | (extract_lets +onlyGivenNames y) | split | (clear_value y; split) | (intro v w hv) | (intro v hv)

theorem State.refBecomesValid_frame (s : State) (r period : Nat) (r_TIM_REF_STATUS : W TIM_REF_STATUS) (k_glb : K .glb)
    (k_tim : K .tim) (h_s : Fr D W K s0 s) : Fr D W K s0 (State.refBecomesValid s r period) := by
  unfold State.refBecomesValid
  repeat' first
    | with_reducible assumption | (simp -zeta (disch := first | assumption | exact rfl) only [↓Fr.setGlbTim, ↓Fr.setTim])
    | with_reducible apply Fr.ite | with_reducible apply State.setRef_frame | with_reducible apply State.setRefValid_frame
    | (extract_lets +onlyGivenNames x; refine Fr.cut (D := D) (W := W) (K := K) (s0 := s0) (x := x) ?_ ?_; (on_goal 1 => dsimp -zeta only [x]); (on_goal 2 => intro hx; clear_value x))
    | (extract_lets +onlyGivenNames y) | split | (clear_value y; split) | (intro v w hv) | (intro v hv)

theorem State.maskRefs_frame (s : State) (hE : Ev W K) (r_TIM_DPLL_STATUS : W TIM_DPLL_STATUS) (k_tim : K .tim)
    (h_s : Fr D W K s0 s) : Fr D W K s0 (State.maskRefs s) := by
  unfold State.maskRefs
  repeat' first
    | with_reducible assumption | with_reducible apply Fr.ite | with_reducible apply State.raise_frame
    | with_reducible apply State.enterHoldover_frame | split

theorem State.unmaskRefs_frame (s : State) (k_tim : K .tim) (h_s : Fr D W K s0 s) : Fr D W K s0 (State.unmaskRefs s) := by
  unfold State.unmaskRefs
  repeat' first
    | with_reducible assumption | (simp -zeta (disch := first | assumption | exact rfl) only [↓Fr.setTim])
    | with_reducible apply Fr.ite
    | (extract_lets +onlyGivenNames x; refine Fr.cut (D := D) (W := W) (K := K) (s0 := s0) (x := x) ?_ ?_; (on_goal 1 => dsimp -zeta only [x]); (on_goal 2 => intro hx; clear_value x))
    | (extract_lets +onlyGivenNames y) | split | (clear_value y; split) | (intro v w hv) | (intro v hv)

theorem State.refEdge_frame (s : State) (r lines : Nat) (hE : Ev W K) (r_TIM_DPLL_STATUS : W TIM_DPLL_STATUS)
    (r_TIM_REF_STATUS : W TIM_REF_STATUS) (k_glb : K .glb) (k_tim : K .tim) (h_s : Fr D W K s0 s)
    : Fr D W K s0 (State.refEdge s r lines) := by
  unfold State.refEdge
  repeat' first
    | with_reducible assumption | with_reducible apply Fr.ite | with_reducible apply State.setRef_frame
    | with_reducible apply State.refInvalid_frame | with_reducible apply State.incSat_frame
    | with_reducible apply State.countLock_frame | with_reducible apply State.refBecomesValid_frame
    | (extract_lets +onlyGivenNames x; refine Fr.cut (D := D) (W := W) (K := K) (s0 := s0) (x := x) ?_ ?_; (on_goal 1 => dsimp -zeta only [x]); (on_goal 2 => intro hx; clear_value x))
    | (extract_lets +onlyGivenNames y) | split | (clear_value y; split) | (intro v w hv) | (intro v hv)

theorem State.tenMegReading_frame (s : State) (hz : Nat) (r_TIM_REF_STATUS : W TIM_REF_STATUS) (h_s : Fr D W K s0 s)
    : Fr D W K s0 (State.tenMegReading s hz) := by
  unfold State.tenMegReading
  repeat' first
    | with_reducible assumption | with_reducible apply State.setRefValid_frame

theorem doReferenceEdge_frame (dt r aux : Nat) (s : State) (hE : Ev W K) (r_TIM_DPLL_STATUS : W TIM_DPLL_STATUS)
    (r_TIM_REF_STATUS : W TIM_REF_STATUS) (k_glb : K .glb) (k_tim : K .tim) (h_s : Fr D W K s0 s)
    : Fr D W K s0 (doReferenceEdge dt r aux s) := by
  unfold doReferenceEdge
  repeat' first
    | with_reducible assumption | with_reducible apply Fr.ite | with_reducible apply State.tick_frame
    | with_reducible apply State.onLive_frame | with_reducible apply State.tenMegReading_frame
    | with_reducible apply State.refEdge_frame | split | (intro v w hv) | (intro v hv)

theorem doReferenceMissing_frame (dt r : Nat) (s : State) (hE : Ev W K) (r_TIM_DPLL_STATUS : W TIM_DPLL_STATUS)
    (r_TIM_REF_STATUS : W TIM_REF_STATUS) (k_tim : K .tim) (h_s : Fr D W K s0 s)
    : Fr D W K s0 (doReferenceMissing dt r s) := by
  unfold doReferenceMissing
  repeat' first
    | with_reducible assumption | with_reducible apply State.tick_frame | with_reducible apply State.onLiveIf_frame
    | with_reducible apply State.refInvalid_frame
    | (extract_lets +onlyGivenNames x; refine Fr.cut (D := D) (W := W) (K := K) (s0 := s0) (x := x) ?_ ?_; (on_goal 1 => dsimp -zeta only [x]); (on_goal 2 => intro hx; clear_value x))
    | (extract_lets +onlyGivenNames y) | split | (clear_value y; split) | (intro v w hv) | (intro v hv)

theorem doHoldoverExpired_frame (dt : Nat) (s : State) (hE : Ev W K) (r_TIM_DPLL_STATUS : W TIM_DPLL_STATUS) (k_tim : K .tim)
    (h_s : Fr D W K s0 s) : Fr D W K s0 (doHoldoverExpired dt s) := by
  unfold doHoldoverExpired
  repeat' first
    | with_reducible assumption | with_reducible apply State.tick_frame | with_reducible apply State.onLiveIf_frame
    | with_reducible apply State.put_frame | with_reducible apply State.enterDpll_frame
    | (extract_lets +onlyGivenNames x; refine Fr.cut (D := D) (W := W) (K := K) (s0 := s0) (x := x) ?_ ?_; (on_goal 1 => dsimp -zeta only [x]); (on_goal 2 => intro hx; clear_value x))
    | (extract_lets +onlyGivenNames y) | (intro v w hv) | (intro v hv)

theorem doReferenceRevert_frame (dt : Nat) (s : State) (k_tim : K .tim) (h_s : Fr D W K s0 s)
    : Fr D W K s0 (doReferenceRevert dt s) := by
  unfold doReferenceRevert
  repeat' first
    | with_reducible assumption | (simp -zeta (disch := first | assumption | exact rfl) only [↓Fr.setTim])
    | with_reducible apply State.tick_frame | with_reducible apply State.onLiveIf_frame
    | (extract_lets +onlyGivenNames x; refine Fr.cut (D := D) (W := W) (K := K) (s0 := s0) (x := x) ?_ ?_; (on_goal 1 => dsimp -zeta only [x]); (on_goal 2 => intro hx; clear_value x))
    | (extract_lets +onlyGivenNames y) | split | (clear_value y; split) | (intro v w hv) | (intro v hv)

theorem doDpllLocked_frame (dt : Nat) (s : State) (hE : Ev W K) (r_TIM_DPLL_STATUS : W TIM_DPLL_STATUS) (k_tim : K .tim)
    (h_s : Fr D W K s0 s) : Fr D W K s0 (doDpllLocked dt s) := by
  unfold doDpllLocked
  repeat' first
    | with_reducible assumption | with_reducible apply State.tick_frame | with_reducible apply State.onLiveIf_frame
    | with_reducible apply State.enterDpll_frame
    | (extract_lets +onlyGivenNames x; refine Fr.cut (D := D) (W := W) (K := K) (s0 := s0) (x := x) ?_ ?_; (on_goal 1 => dsimp -zeta only [x]); (on_goal 2 => intro hx; clear_value x))
    | (extract_lets +onlyGivenNames y) | split | (clear_value y; split) | (intro v w hv) | (intro v hv)

theorem doPullinDone_frame (dt : Nat) (s : State) (hE : Ev W K) (r_TIM_DPLL_STATUS : W TIM_DPLL_STATUS) (k_tim : K .tim)
    (h_s : Fr D W K s0 s) : Fr D W K s0 (doPullinDone dt s) := by
  unfold doPullinDone
  repeat' first
    | with_reducible assumption | with_reducible apply State.tick_frame | with_reducible apply State.onLiveIf_frame
    | with_reducible apply State.enterDpll_frame
    | (extract_lets +onlyGivenNames x; refine Fr.cut (D := D) (W := W) (K := K) (s0 := s0) (x := x) ?_ ?_; (on_goal 1 => dsimp -zeta only [x]); (on_goal 2 => intro hx; clear_value x))
    | (extract_lets +onlyGivenNames y) | split | (clear_value y; split) | (intro v w hv) | (intro v hv)

theorem doRefCtrlWrite_frame (dt : Nat) (w : Word) (s : State) (hE : Ev W K) (r_TIM_REF_CTRL : W TIM_REF_CTRL)
    (h_s : Fr D W K s0 s) : Fr D W K s0 (doRefCtrlWrite dt w s) := by
  unfold doRefCtrlWrite
  repeat' first
    | with_reducible assumption | with_reducible apply Fr.ite | with_reducible apply State.tick_frame
    | with_reducible apply State.onReach_frame | with_reducible apply State.wrN_frame
    | with_reducible apply State.accessEvent_frame
    | (extract_lets +onlyGivenNames x; refine Fr.cut (D := D) (W := W) (K := K) (s0 := s0) (x := x) ?_ ?_; (on_goal 1 => dsimp -zeta only [x]); (on_goal 2 => intro hx; clear_value x))
    | (extract_lets +onlyGivenNames y) | split | (clear_value y; split) | (intro v w hv) | (intro v hv)

theorem State.selectRef_frame (s : State) (r : Nat) (r_TIM_REF_STATUS : W TIM_REF_STATUS) (h_s : Fr D W K s0 s)
    : Fr D W K s0 (State.selectRef s r) := by
  unfold State.selectRef
  repeat' first
    | with_reducible assumption | with_reducible apply State.put_frame | with_reducible apply State.incSat_frame

theorem State.switchRef_frame (s : State) (r : Nat) (hE : Ev W K) (r_TIM_DPLL_STATUS : W TIM_DPLL_STATUS)
    (r_TIM_REF_STATUS : W TIM_REF_STATUS) (k_tim : K .tim) (h_s : Fr D W K s0 s) : Fr D W K s0 (State.switchRef s r) := by
  unfold State.switchRef
  repeat' first
    | with_reducible assumption | (simp -zeta (disch := first | assumption | exact rfl) only [↓Fr.setTim])
    | with_reducible apply Fr.ite | with_reducible apply State.selectRef_frame
    | with_reducible apply State.enterDpll_frame
    | (extract_lets +onlyGivenNames x; refine Fr.cut (D := D) (W := W) (K := K) (s0 := s0) (x := x) ?_ ?_; (on_goal 1 => dsimp -zeta only [x]); (on_goal 2 => intro hx; clear_value x))
    | (extract_lets +onlyGivenNames y) | split | (clear_value y; split) | (intro v w hv) | (intro v hv)

theorem State.applyRefCtrl_frame (s : State) (r_TIM_REF_STATUS : W TIM_REF_STATUS) (k_tim : K .tim) (h_s : Fr D W K s0 s)
    : Fr D W K s0 (State.applyRefCtrl s) := by
  unfold State.applyRefCtrl
  repeat' first
    | with_reducible assumption | (simp -zeta (disch := first | assumption | exact rfl) only [↓Fr.setTim])
    | with_reducible apply Fr.ite | with_reducible apply State.selectRef_frame
    | (extract_lets +onlyGivenNames x; refine Fr.cut (D := D) (W := W) (K := K) (s0 := s0) (x := x) ?_ ?_; (on_goal 1 => dsimp -zeta only [x]); (on_goal 2 => intro hx; clear_value x))
    | (extract_lets +onlyGivenNames y) | split

theorem State.takeSwitch_frame (s : State) (r : Nat) (hE : Ev W K) (r_TIM_DPLL_STATUS : W TIM_DPLL_STATUS)
    (r_TIM_REF_STATUS : W TIM_REF_STATUS) (k_tim : K .tim) (h_s : Fr D W K s0 s)
    : Fr D W K s0 (State.takeSwitch s r) := by
  unfold State.takeSwitch
  repeat' first
    | with_reducible assumption | (simp -zeta (disch := first | assumption | exact rfl) only [↓Fr.setTim])
    | with_reducible apply Fr.ite | with_reducible apply State.switchRef_frame
    | with_reducible apply State.enterHoldover_frame
    | (extract_lets +onlyGivenNames x; refine Fr.cut (D := D) (W := W) (K := K) (s0 := s0) (x := x) ?_ ?_; (on_goal 1 => dsimp -zeta only [x]); (on_goal 2 => intro hx; clear_value x))
    | (extract_lets +onlyGivenNames y) | split | (clear_value y; split) | (intro v w hv) | (intro v hv)

theorem State.beginAcquire_frame (s : State) (hE : Ev W K) (r_TIM_DPLL_STATUS : W TIM_DPLL_STATUS) (k_tim : K .tim)
    (h_s : Fr D W K s0 s) : Fr D W K s0 (State.beginAcquire s) := by
  unfold State.beginAcquire
  repeat' first
    | with_reducible assumption | with_reducible apply State.enterDpll_frame
    | (extract_lets +onlyGivenNames x; refine Fr.cut (D := D) (W := W) (K := K) (s0 := s0) (x := x) ?_ ?_; (on_goal 1 => dsimp -zeta only [x]); (on_goal 2 => intro hx; clear_value x))
    | (extract_lets +onlyGivenNames y) | split | (clear_value y; split) | (intro v w hv) | (intro v hv)

theorem State.planNext_frame (s : State) (k_tim : K .tim) (h_s : Fr D W K s0 s) : Fr D W K s0 (State.planNext s) := by
  unfold State.planNext
  repeat' first
    | with_reducible assumption | (simp -zeta (disch := first | assumption | exact rfl) only [↓Fr.setTim])
    | (extract_lets +onlyGivenNames x; refine Fr.cut (D := D) (W := W) (K := K) (s0 := s0) (x := x) ?_ ?_; (on_goal 1 => dsimp -zeta only [x]); (on_goal 2 => intro hx; clear_value x))
    | (extract_lets +onlyGivenNames y) | split | (clear_value y; split) | (intro v w hv) | (intro v hv)

theorem State.timAdvance_frame (s : State) (hE : Ev W K) (r_TIM_DPLL_STATUS : W TIM_DPLL_STATUS)
    (r_TIM_REF_STATUS : W TIM_REF_STATUS) (k_tim : K .tim) (h_s : Fr D W K s0 s) : Fr D W K s0 (State.timAdvance s) := by
  unfold State.timAdvance
  repeat' first
    | with_reducible assumption | (simp -zeta (disch := first | assumption | exact rfl) only [↓Fr.setTim])
    | with_reducible apply Fr.ite | with_reducible apply State.applyRefCtrl_frame
    | with_reducible apply State.takeSwitch_frame | with_reducible apply State.enterDpll_frame
    | (extract_lets +onlyGivenNames x; refine Fr.cut (D := D) (W := W) (K := K) (s0 := s0) (x := x) ?_ ?_; (on_goal 1 => dsimp -zeta only [x]); (on_goal 2 => intro hx; clear_value x))
    | (extract_lets +onlyGivenNames y) | split | (clear_value y; split) | (intro v w hv) | (intro v hv)

theorem State.timFix_frame (s : State) (hE : Ev W K) (r_TIM_DPLL_STATUS : W TIM_DPLL_STATUS)
    (r_TIM_LF_PERIOD : W TIM_LF_PERIOD) (k_fresh : K .fresh) (k_tim : K .tim) (h_s : Fr D W K s0 s)
    : Fr D W K s0 (State.timFix s) := by
  unfold State.timFix
  repeat' first
    | with_reducible assumption | (simp -zeta (disch := first | assumption | exact rfl) only [↓Fr.setTim])
    | with_reducible apply Fr.ite | with_reducible apply State.countLock_frame | with_reducible apply State.planNext_frame
    | with_reducible apply State.useFree_frame | with_reducible apply State.putSat_frame
    | with_reducible apply State.put_frame | with_reducible apply State.raiseB_frame
    | (extract_lets +onlyGivenNames x; refine Fr.cut (D := D) (W := W) (K := K) (s0 := s0) (x := x) ?_ ?_; (on_goal 1 => dsimp -zeta only [x]); (on_goal 2 => intro hx; clear_value x))
    | (extract_lets +onlyGivenNames y) | split | (clear_value y; split) | (intro v w hv) | (intro v hv)

theorem State.moveOffset_frame (s : State) (hE : Ev W K) (r_TIM_DPLL_STATUS : W TIM_DPLL_STATUS) (k_tim : K .tim)
    (h_s : Fr D W K s0 s) : Fr D W K s0 (State.moveOffset s) := by
  unfold State.moveOffset
  repeat' first
    | with_reducible assumption | (simp -zeta (disch := first | assumption | exact rfl) only [↓Fr.setTim])
    | with_reducible apply Fr.ite | with_reducible apply State.enterDpll_frame
    | (extract_lets +onlyGivenNames x; refine Fr.cut (D := D) (W := W) (K := K) (s0 := s0) (x := x) ?_ ?_; (on_goal 1 => dsimp -zeta only [x]); (on_goal 2 => intro hx; clear_value x))
    | (extract_lets +onlyGivenNames y) | split

theorem State.rebaseSys_frame (s : State) (k_tim : K .tim) (h_s : Fr D W K s0 s) : Fr D W K s0 (State.rebaseSys s) := by
  unfold State.rebaseSys
  repeat' first
    | with_reducible assumption | (simp -zeta (disch := first | assumption | exact rfl) only [↓Fr.setTim])
    | (extract_lets +onlyGivenNames x; refine Fr.cut (D := D) (W := W) (K := K) (s0 := s0) (x := x) ?_ ?_; (on_goal 1 => dsimp -zeta only [x]); (on_goal 2 => intro hx; clear_value x))
    | (extract_lets +onlyGivenNames y)

theorem State.selectOwn_frame (s : State) (r_TIM_REF_STATUS : W TIM_REF_STATUS) (k_tim : K .tim) (h_s : Fr D W K s0 s)
    : Fr D W K s0 (State.selectOwn s) := by
  unfold State.selectOwn
  repeat' first
    | with_reducible assumption | (simp -zeta (disch := first | assumption | exact rfl) only [↓Fr.setTim])
    | with_reducible apply State.setRef_frame | with_reducible apply State.setRefValid_frame
    | (extract_lets +onlyGivenNames x; refine Fr.cut (D := D) (W := W) (K := K) (s0 := s0) (x := x) ?_ ?_; (on_goal 1 => dsimp -zeta only [x]); (on_goal 2 => intro hx; clear_value x))
    | (extract_lets +onlyGivenNames y) | split | (clear_value y; split) | (intro v w hv) | (intro v hv)

theorem doSystimeStepArm_frame (dt : Nat) (w : Word) (s : State) (hE : Ev W K) (r_TIM_SYSTIME_CTRL : W TIM_SYSTIME_CTRL)
    (k_tim : K .tim) (h_s : Fr D W K s0 s) : Fr D W K s0 (doSystimeStepArm dt w s) := by
  unfold doSystimeStepArm
  repeat' first
    | with_reducible assumption | with_reducible apply Fr.ite | with_reducible apply State.tick_frame
    | with_reducible apply State.onReach_frame | with_reducible apply State.accessEvent_frame
    | with_reducible apply State.rebaseSys_frame | with_reducible apply State.wrN_frame
    | (extract_lets +onlyGivenNames x; refine Fr.cut (D := D) (W := W) (K := K) (s0 := s0) (x := x) ?_ ?_; (on_goal 1 => dsimp -zeta only [x]); (on_goal 2 => intro hx; clear_value x))
    | (extract_lets +onlyGivenNames y) | split | (clear_value y; split) | (intro v w hv) | (intro v hv)

theorem State.systimeStep_frame (s : State) (r_TIM_SYSTIME_CTRL : W TIM_SYSTIME_CTRL) (k_tim : K .tim)
    (h_s : Fr D W K s0 s) : Fr D W K s0 (State.systimeStep s) := by
  unfold State.systimeStep
  repeat' first
    | with_reducible assumption | (simp -zeta (disch := first | assumption | exact rfl) only [↓Fr.setTim])
    | with_reducible apply Fr.ite | with_reducible apply State.put_frame
    | (extract_lets +onlyGivenNames x; refine Fr.cut (D := D) (W := W) (K := K) (s0 := s0) (x := x) ?_ ?_; (on_goal 1 => dsimp -zeta only [x]); (on_goal 2 => intro hx; clear_value x))
    | (extract_lets +onlyGivenNames y) | split | (clear_value y; split) | (intro v w hv) | (intro v hv)

theorem State.latchSystime_frame (s : State) (k_glb : K .glb) (h_s : Fr D W K s0 s)
    : Fr D W K s0 (State.latchSystime s) := by
  unfold State.latchSystime
  repeat' first
    | with_reducible assumption | (simp -zeta (disch := first | assumption | exact rfl) only [↓Fr.setGlb])
    | (extract_lets +onlyGivenNames x; refine Fr.cut (D := D) (W := W) (K := K) (s0 := s0) (x := x) ?_ ?_; (on_goal 1 => dsimp -zeta only [x]); (on_goal 2 => intro hx; clear_value x))
    | (extract_lets +onlyGivenNames y) | split | (clear_value y; split) | (intro v w hv) | (intro v hv)

theorem doSystimeLoRead_frame (dt : Nat) (s : State) (k_glb : K .glb) (h_s : Fr D W K s0 s)
    : Fr D W K s0 (doSystimeLoRead dt s) := by
  unfold doSystimeLoRead
  repeat' first
    | with_reducible assumption | with_reducible apply State.tick_frame | with_reducible apply State.onLive_frame
    | with_reducible apply State.latchSystime_frame
    | (extract_lets +onlyGivenNames x; refine Fr.cut (D := D) (W := W) (K := K) (s0 := s0) (x := x) ?_ ?_; (on_goal 1 => dsimp -zeta only [x]); (on_goal 2 => intro hx; clear_value x))
    | (extract_lets +onlyGivenNames y) | split | (clear_value y; split) | (intro v w hv) | (intro v hv)

theorem doSnapshotArm_frame (dt : Nat) (atLfn : Bool) (s : State) (hE : Ev W K) (r_GLB_SNAP_CTRL : W GLB_SNAP_CTRL)
    (r_GLB_SNAP_STATUS : W GLB_SNAP_STATUS) (k_glb : K .glb) (h_s : Fr D W K s0 s)
    : Fr D W K s0 (doSnapshotArm dt atLfn s) := by
  unfold doSnapshotArm
  repeat' first
    | with_reducible assumption | (simp -zeta (disch := first | assumption | exact rfl) only [↓Fr.setGlb])
    | with_reducible apply Fr.ite | with_reducible apply State.tick_frame | with_reducible apply State.onLive_frame
    | with_reducible apply State.putB_frame | with_reducible apply State.accessEvent_frame
    | with_reducible apply State.put_frame | with_reducible apply State.raise_frame
    | (extract_lets +onlyGivenNames x; refine Fr.cut (D := D) (W := W) (K := K) (s0 := s0) (x := x) ?_ ?_; (on_goal 1 => dsimp -zeta only [x]); (on_goal 2 => intro hx; clear_value x))
    | (extract_lets +onlyGivenNames y) | split | (intro v w hv) | (intro v hv)

theorem doSnapshotRelease_frame (dt : Nat) (s : State) (r_GLB_SNAP_CTRL : W GLB_SNAP_CTRL)
    (r_GLB_SNAP_STATUS : W GLB_SNAP_STATUS) (k_glb : K .glb) (h_s : Fr D W K s0 s)
    : Fr D W K s0 (doSnapshotRelease dt s) := by
  unfold doSnapshotRelease
  repeat' first
    | with_reducible assumption | (simp -zeta (disch := first | assumption | exact rfl) only [↓Fr.setGlb])
    | with_reducible apply State.tick_frame | with_reducible apply State.onLive_frame | with_reducible apply State.put_frame
    | (extract_lets +onlyGivenNames x; refine Fr.cut (D := D) (W := W) (K := K) (s0 := s0) (x := x) ?_ ?_; (on_goal 1 => dsimp -zeta only [x]); (on_goal 2 => intro hx; clear_value x))
    | (extract_lets +onlyGivenNames y) | (intro v w hv) | (intro v hv)

theorem doSnapshotReady_frame (dt : Nat) (s : State) (r_GLB_SNAP_STATUS : W GLB_SNAP_STATUS) (h_s : Fr D W K s0 s)
    : Fr D W K s0 (doSnapshotReady dt s) := by
  unfold doSnapshotReady
  repeat' first
    | with_reducible assumption | with_reducible apply State.tick_frame | with_reducible apply State.onLiveIf_frame
    | with_reducible apply State.put_frame
    | (extract_lets +onlyGivenNames x; refine Fr.cut (D := D) (W := W) (K := K) (s0 := s0) (x := x) ?_ ?_; (on_goal 1 => dsimp -zeta only [x]); (on_goal 2 => intro hx; clear_value x))
    | (extract_lets +onlyGivenNames y) | (intro v w hv) | (intro v hv)

theorem State.applyColBase_frame (s : State) (r_CMP_LYR_OWNER : ∀ i, W (CMP_LYR_OWNER i))
    (r_COL_OUT_PRIMS : ∀ i, W (COL_OUT_PRIMS i)) (r_COL_WORK : ∀ i, W (COL_WORK i)) (h_s : Fr D W K s0 s)
    : Fr D W K s0 (State.applyColBase s) := by
  unfold State.applyColBase
  repeat' first
    | with_reducible assumption | with_reducible apply State.wrN_frame | with_reducible apply State.put_frame
    | with_reducible apply State.putB_frame | (with_reducible apply foldOver_frame; intro a t ht)
    | with_reducible apply r_CMP_LYR_OWNER | with_reducible apply r_COL_OUT_PRIMS | with_reducible apply r_COL_WORK
    | (extract_lets +onlyGivenNames x; refine Fr.cut (D := D) (W := W) (K := K) (s0 := s0) (x := x) ?_ ?_; (on_goal 1 => dsimp -zeta only [x]); (on_goal 2 => intro hx; clear_value x))
    | (extract_lets +onlyGivenNames y) | (intro v w hv) | (intro v hv)

theorem State.keepEst_frame (s : State) (o v : Nat) (k_col : K .col) (h_s : Fr D W K s0 s)
    : Fr D W K s0 (State.keepEst s o v) := by
  unfold State.keepEst
  repeat' first
    | with_reducible assumption | (simp -zeta (disch := first | assumption | exact rfl) only [↓Fr.setCol])
    | (with_reducible apply foldOver_frame; intro a t ht)
    | (extract_lets +onlyGivenNames x; refine Fr.cut (D := D) (W := W) (K := K) (s0 := s0) (x := x) ?_ ?_; (on_goal 1 => dsimp -zeta only [x]); (on_goal 2 => intro hx; clear_value x))
    | (extract_lets +onlyGivenNames y) | split | (clear_value y; split) | (intro v w hv) | (intro v hv)

theorem State.solveOutput_frame (s : State) (cs : List Nat) (o : Nat) (hE : Ev W K)
    (r_COL_OUT_STATUS : W (COL_OUT_STATUS o)) (k_col : K .col) (h_s : Fr D W K s0 s)
    : Fr D W K s0 (State.solveOutput s cs o) := by
  unfold State.solveOutput
  repeat' first
    | with_reducible assumption | (simp -zeta (disch := first | assumption | exact rfl) only [↓Fr.setCol])
    | with_reducible apply Fr.ite | (with_reducible apply foldOver_frame; intro a t ht)
    | with_reducible apply State.put_frame | with_reducible apply State.keepEst_frame
    | with_reducible apply State.raise_frame
    | (extract_lets +onlyGivenNames x; refine Fr.cut (D := D) (W := W) (K := K) (s0 := s0) (x := x) ?_ ?_; (on_goal 1 => dsimp -zeta only [x]); (on_goal 2 => intro hx; clear_value x))
    | (extract_lets +onlyGivenNames y) | split | (clear_value y; split) | (intro v w hv) | (intro v hv)

theorem State.showPrims_frame (s : State) (r_COL_PRIM_LIGHT : ∀ i, W (COL_PRIM_LIGHT i))
    (r_COL_PRIM_XY : ∀ i, W (COL_PRIM_XY i)) (h_s : Fr D W K s0 s) : Fr D W K s0 (State.showPrims s) := by
  unfold State.showPrims
  repeat' first
    | with_reducible assumption | with_reducible apply Fr.ite | with_reducible apply State.put_frame
    | (with_reducible apply foldOver_frame; intro a t ht) | with_reducible apply r_COL_PRIM_LIGHT
    | with_reducible apply r_COL_PRIM_XY
    | (extract_lets +onlyGivenNames x; refine Fr.cut (D := D) (W := W) (K := K) (s0 := s0) (x := x) ?_ ?_; (on_goal 1 => dsimp -zeta only [x]); (on_goal 2 => intro hx; clear_value x))
    | (extract_lets +onlyGivenNames y) | split | (intro v w hv) | (intro v hv)

theorem State.loopStateShow_frame (s : State) (p st : Nat) (r_COL_PRIM_LOOP : W (COL_PRIM_LOOP p))
    (r_COL_STATUS : W COL_STATUS) (h_s : Fr D W K s0 s) : Fr D W K s0 (State.loopStateShow s p st) := by
  unfold State.loopStateShow
  repeat' first
    | with_reducible assumption | with_reducible apply State.put_frame

theorem State.loopRefresh_frame (s : State) (r_COL_PRIM_LOOP : ∀ i, W (COL_PRIM_LOOP i)) (r_COL_STATUS : W COL_STATUS)
    (k_col : K .col) (h_s : Fr D W K s0 s) : Fr D W K s0 (State.loopRefresh s) := by
  unfold State.loopRefresh
  repeat' first
    | with_reducible assumption | (simp -zeta (disch := first | assumption | exact rfl) only [↓Fr.setCol])
    | with_reducible apply Fr.ite | with_reducible apply State.loopStateShow_frame
    | (with_reducible apply foldOver_frame; intro a t ht) | with_reducible apply r_COL_PRIM_LOOP
    | (extract_lets +onlyGivenNames x; refine Fr.cut (D := D) (W := W) (K := K) (s0 := s0) (x := x) ?_ ?_; (on_goal 1 => dsimp -zeta only [x]); (on_goal 2 => intro hx; clear_value x))
    | (extract_lets +onlyGivenNames y) | split | (intro v w hv) | (intro v hv)

theorem State.loopSample_frame (s : State) (p y : Nat) (slotBad : Bool) (hE : Ev W K) (r_COL_PRIM_LOOP : W (COL_PRIM_LOOP p))
    (r_COL_STATUS : W COL_STATUS) (h_s : Fr D W K s0 s) : Fr D W K s0 (State.loopSample s p y slotBad) := by
  unfold State.loopSample
  repeat' first
    | with_reducible assumption | with_reducible apply Fr.ite | with_reducible apply State.incSat_frame
    | with_reducible apply State.put_frame | with_reducible apply State.loopStateShow_frame
    | with_reducible apply State.raise_frame
    | (extract_lets +onlyGivenNames x; refine Fr.cut (D := D) (W := W) (K := K) (s0 := s0) (x := x) ?_ ?_; (on_goal 1 => dsimp -zeta only [x]); (on_goal 2 => intro hx; clear_value x))
    | (extract_lets +onlyGivenNames y) | split

theorem State.latchTrims_frame (s : State) (trims : Tbl Nat) (r_COL_PRIM_LOOP : ∀ i, W (COL_PRIM_LOOP i)) (k_col : K .col)
    (h_s : Fr D W K s0 s) : Fr D W K s0 (State.latchTrims s trims) := by
  unfold State.latchTrims
  repeat' first
    | with_reducible assumption | (simp -zeta (disch := first | assumption | exact rfl) only [↓Fr.setCol])
    | with_reducible apply Fr.ite | with_reducible apply State.put_frame | (with_reducible apply foldOver_frame; intro a t ht)
    | with_reducible apply r_COL_PRIM_LOOP
    | (extract_lets +onlyGivenNames x; refine Fr.cut (D := D) (W := W) (K := K) (s0 := s0) (x := x) ?_ ?_; (on_goal 1 => dsimp -zeta only [x]); (on_goal 2 => intro hx; clear_value x))
    | (extract_lets +onlyGivenNames y) | split | (intro v w hv) | (intro v hv)

theorem State.applyPlaneMap_frame (s : State) (r_PLN_OUT_CFG : ∀ i, W (PLN_OUT_CFG i))
    (r_PLN_OUT_SEGS : ∀ i, W (PLN_OUT_SEGS i)) (r_PLN_OUT_SIZE : ∀ i, W (PLN_OUT_SIZE i)) (r_PLN_STATUS : W PLN_STATUS)
    (h_s : Fr D W K s0 s) : Fr D W K s0 (State.applyPlaneMap s) := by
  unfold State.applyPlaneMap
  repeat' first
    | with_reducible assumption | with_reducible apply State.put_frame | (with_reducible apply foldOver_frame; intro a t ht)
    | with_reducible apply r_PLN_OUT_CFG | with_reducible apply r_PLN_OUT_SEGS | with_reducible apply r_PLN_OUT_SIZE
    | (extract_lets +onlyGivenNames x; refine Fr.cut (D := D) (W := W) (K := K) (s0 := s0) (x := x) ?_ ?_; (on_goal 1 => dsimp -zeta only [x]); (on_goal 2 => intro hx; clear_value x))
    | (extract_lets +onlyGivenNames y) | (intro v w hv) | (intro v hv)

theorem State.showUsed_frame (s : State) (o lead : Nat) (r_PLN_OUT_USED : W (PLN_OUT_USED o)) (h_s : Fr D W K s0 s)
    : Fr D W K s0 (State.showUsed s o lead) := by
  unfold State.showUsed
  repeat' first
    | with_reducible assumption | with_reducible apply Fr.ite | with_reducible apply State.put_frame | split

theorem State.setRow_frame (s : State) (bank row : Nat) (r : RowSt) (k_pln : K .pln) (h_s : Fr D W K s0 s)
    : Fr D W K s0 (State.setRow s bank row r) := by
  unfold State.setRow
  repeat' first
    | with_reducible assumption | (simp -zeta (disch := first | assumption | exact rfl) only [↓Fr.setPln])
    | (extract_lets +onlyGivenNames x; refine Fr.cut (D := D) (W := W) (K := K) (s0 := s0) (x := x) ?_ ?_; (on_goal 1 => dsimp -zeta only [x]); (on_goal 2 => intro hx; clear_value x))
    | (extract_lets +onlyGivenNames y)

theorem State.rowDead_frame (s : State) (bank row : Nat) (uncorrectable : Bool) (hE : Ev W K)
    (r_PLN_STATUS : W PLN_STATUS) (k_pln : K .pln) (h_s : Fr D W K s0 s)
    : Fr D W K s0 (State.rowDead s bank row uncorrectable) := by
  unfold State.rowDead
  repeat' first
    | with_reducible assumption | with_reducible apply Fr.ite | with_reducible apply State.put_frame
    | with_reducible apply State.raise_frame | with_reducible apply State.setRow_frame
    | (extract_lets +onlyGivenNames x; refine Fr.cut (D := D) (W := W) (K := K) (s0 := s0) (x := x) ?_ ?_; (on_goal 1 => dsimp -zeta only [x]); (on_goal 2 => intro hx; clear_value x))
    | (extract_lets +onlyGivenNames y) | split | (clear_value y; split) | (intro v w hv) | (intro v hv)

theorem State.storeCorrected_frame (s : State) (bank row : Nat) (hE : Ev W K) (r_PLN_ECC : W PLN_ECC)
    (r_PLN_STATUS : W PLN_STATUS) (k_pln : K .pln) (h_s : Fr D W K s0 s)
    : Fr D W K s0 (State.storeCorrected s bank row) := by
  unfold State.storeCorrected
  repeat' first
    | with_reducible assumption | with_reducible apply Fr.ite | with_reducible apply State.incSat_frame
    | with_reducible apply State.setRow_frame | with_reducible apply State.rowDead_frame
    | (extract_lets +onlyGivenNames x; refine Fr.cut (D := D) (W := W) (K := K) (s0 := s0) (x := x) ?_ ?_; (on_goal 1 => dsimp -zeta only [x]); (on_goal 2 => intro hx; clear_value x))
    | (extract_lets +onlyGivenNames y) | split | (clear_value y; split) | (intro v w hv) | (intro v hv)

theorem State.storeDouble_frame (s : State) (bank row line : Nat) (hE : Ev W K) (r_PLN_ECC : W PLN_ECC)
    (r_PLN_ECC_ADDR : W PLN_ECC_ADDR) (r_PLN_STATUS : W PLN_STATUS) (k_pln : K .pln) (h_s : Fr D W K s0 s)
    : Fr D W K s0 (State.storeDouble s bank row line) := by
  unfold State.storeDouble
  repeat' first
    | with_reducible assumption | with_reducible apply Fr.ite | with_reducible apply State.incSat_frame
    | with_reducible apply State.put_frame | with_reducible apply State.raise_frame | with_reducible apply State.setRow_frame
    | with_reducible apply State.rowDead_frame
    | (extract_lets +onlyGivenNames x; refine Fr.cut (D := D) (W := W) (K := K) (s0 := s0) (x := x) ?_ ?_; (on_goal 1 => dsimp -zeta only [x]); (on_goal 2 => intro hx; clear_value x))
    | (extract_lets +onlyGivenNames y) | split

theorem doSpareRowCopyDone_frame (dt bank row : Nat) (s : State) (k_pln : K .pln) (h_s : Fr D W K s0 s)
    : Fr D W K s0 (doSpareRowCopyDone dt bank row s) := by
  unfold doSpareRowCopyDone
  repeat' first
    | with_reducible assumption | with_reducible apply State.tick_frame | with_reducible apply State.onLiveIf_frame
    | with_reducible apply State.setRow_frame
    | (extract_lets +onlyGivenNames x; refine Fr.cut (D := D) (W := W) (K := K) (s0 := s0) (x := x) ?_ ?_; (on_goal 1 => dsimp -zeta only [x]); (on_goal 2 => intro hx; clear_value x))
    | (extract_lets +onlyGivenNames y) | (intro v w hv) | (intro v hv)

theorem State.rowsBoundary_frame (s : State) (hE : Ev W K) (r_CAL_FENCED : W CAL_FENCED)
    (r_CAL_FENCE_DATA_0 : W CAL_FENCE_DATA_0) (r_CAL_FENCE_DATA_1 : W CAL_FENCE_DATA_1)
    (r_CAL_FENCE_DATA_2 : W CAL_FENCE_DATA_2) (r_PLN_STATUS : W PLN_STATUS) (k_pln : K .pln) (k_cal : K .cal)
    (h_s : Fr D W K s0 s) : Fr D W K s0 (State.rowsBoundary s) := by
  unfold State.rowsBoundary
  repeat' first
    | with_reducible assumption | (with_reducible apply foldOver_frame; intro a t ht)
    | with_reducible apply State.setRow_frame | with_reducible apply State.put_frame
    | with_reducible apply State.fenceUnit_frame
    | (extract_lets +onlyGivenNames x; refine Fr.cut (D := D) (W := W) (K := K) (s0 := s0) (x := x) ?_ ?_; (on_goal 1 => dsimp -zeta only [x]); (on_goal 2 => intro hx; clear_value x))
    | (extract_lets +onlyGivenNames y) | split | (clear_value y; split) | (intro v w hv) | (intro v hv)

theorem doStoreZeroDone_frame (dt : Nat) (s : State) (k_pln : K .pln) (h_s : Fr D W K s0 s)
    : Fr D W K s0 (doStoreZeroDone dt s) := by
  unfold doStoreZeroDone
  repeat' first
    | with_reducible assumption | (simp -zeta (disch := first | assumption | exact rfl) only [↓Fr.setPln])
    | with_reducible apply State.tick_frame | with_reducible apply State.onLiveIf_frame
    | (extract_lets +onlyGivenNames x; refine Fr.cut (D := D) (W := W) (K := K) (s0 := s0) (x := x) ?_ ?_; (on_goal 1 => dsimp -zeta only [x]); (on_goal 2 => intro hx; clear_value x))
    | (extract_lets +onlyGivenNames y) | split | (clear_value y; split) | (intro v w hv) | (intro v hv)

theorem State.showJobs_frame (s : State) (r_SEQ_SCHED_STATUS : W SEQ_SCHED_STATUS) (h_s : Fr D W K s0 s)
    : Fr D W K s0 (State.showJobs s) := by
  unfold State.showJobs
  repeat' first
    | with_reducible assumption | with_reducible apply Fr.ite | with_reducible apply State.putB_frame
    | with_reducible apply State.putSat_frame | with_reducible apply State.put_frame
    | (extract_lets +onlyGivenNames x; refine Fr.cut (D := D) (W := W) (K := K) (s0 := s0) (x := x) ?_ ?_; (on_goal 1 => dsimp -zeta only [x]); (on_goal 2 => intro hx; clear_value x))
    | (extract_lets +onlyGivenNames y) | split | (clear_value y; split)

theorem State.startJob_frame (s : State) (o owner : Nat) (k_seq : K .seq) (h_s : Fr D W K s0 s)
    : Fr D W K s0 (State.startJob s o owner) := by
  unfold State.startJob
  repeat' first
    | with_reducible assumption | (simp -zeta (disch := first | assumption | exact rfl) only [↓Fr.setSeq])
    | (extract_lets +onlyGivenNames x; refine Fr.cut (D := D) (W := W) (K := K) (s0 := s0) (x := x) ?_ ?_; (on_goal 1 => dsimp -zeta only [x]); (on_goal 2 => intro hx; clear_value x))
    | (extract_lets +onlyGivenNames y)

theorem State.askJob_frame (s : State) (o owner : Nat) (r_SEQ_SCHED_STATUS : W SEQ_SCHED_STATUS) (k_seq : K .seq)
    (h_s : Fr D W K s0 s) : Fr D W K s0 (State.askJob s o owner) := by
  unfold State.askJob
  repeat' first
    | with_reducible assumption | (simp -zeta (disch := first | assumption | exact rfl) only [↓Fr.setSeq])
    | with_reducible apply Fr.ite | with_reducible apply State.showJobs_frame | with_reducible apply State.startJob_frame
    | (extract_lets +onlyGivenNames x; refine Fr.cut (D := D) (W := W) (K := K) (s0 := s0) (x := x) ?_ ?_; (on_goal 1 => dsimp -zeta only [x]); (on_goal 2 => intro hx; clear_value x))
    | (extract_lets +onlyGivenNames y) | split | (intro v w hv) | (intro v hv)

theorem State.commitCompiles_frame (s : State) (r_SEQ_SCHED_STATUS : W SEQ_SCHED_STATUS) (k_seq : K .seq)
    (h_s : Fr D W K s0 s) : Fr D W K s0 (State.commitCompiles s) := by
  unfold State.commitCompiles
  repeat' first
    | with_reducible assumption | with_reducible apply Fr.ite | (with_reducible apply foldOver_frame; intro a t ht)
    | with_reducible apply State.askJob_frame
    | (extract_lets +onlyGivenNames x; refine Fr.cut (D := D) (W := W) (K := K) (s0 := s0) (x := x) ?_ ?_; (on_goal 1 => dsimp -zeta only [x]); (on_goal 2 => intro hx; clear_value x))
    | (extract_lets +onlyGivenNames y) | split | (clear_value y; split) | (intro v w hv) | (intro v hv)

theorem doCompileStart_frame (dt o : Nat) (s : State) (r_SEQ_SCHED_STATUS : W SEQ_SCHED_STATUS) (k_seq : K .seq)
    (h_s : Fr D W K s0 s) : Fr D W K s0 (doCompileStart dt o s) := by
  unfold doCompileStart
  repeat' first
    | with_reducible assumption | (simp -zeta (disch := first | assumption | exact rfl) only [↓Fr.setSeq])
    | with_reducible apply State.tick_frame | with_reducible apply State.onCoreIf_frame
    | with_reducible apply State.startJob_frame | with_reducible apply State.showJobs_frame
    | (extract_lets +onlyGivenNames x; refine Fr.cut (D := D) (W := W) (K := K) (s0 := s0) (x := x) ?_ ?_; (on_goal 1 => dsimp -zeta only [x]); (on_goal 2 => intro hx; clear_value x))
    | (extract_lets +onlyGivenNames y) | split | (clear_value y; split) | (intro v w hv) | (intro v hv)

theorem State.rejectJob_frame (s : State) (o code wh : Nat) (hE : Ev W K) (r_SEQ_OUT_ERR : W (SEQ_OUT_ERR o))
    (h_s : Fr D W K s0 s) : Fr D W K s0 (State.rejectJob s o code wh) := by
  unfold State.rejectJob
  repeat' first
    | with_reducible assumption | with_reducible apply State.put_frame | with_reducible apply State.raise_frame

theorem State.dropJob_frame (s : State) (o : Nat) (k_seq : K .seq) (h_s : Fr D W K s0 s)
    : Fr D W K s0 (State.dropJob s o) := by
  unfold State.dropJob
  repeat' first
    | with_reducible assumption | (simp -zeta (disch := first | assumption | exact rfl) only [↓Fr.setSeq])
    | (extract_lets +onlyGivenNames x; refine Fr.cut (D := D) (W := W) (K := K) (s0 := s0) (x := x) ?_ ?_; (on_goal 1 => dsimp -zeta only [x]); (on_goal 2 => intro hx; clear_value x))
    | (extract_lets +onlyGivenNames y) | (intro v w hv) | (intro v hv)

theorem State.endJob_frame (s : State) (o : Nat) (hE : Ev W K) (r_SEQ_OUT_ERR : W (SEQ_OUT_ERR o))
    (r_SEQ_SCHED_STATUS : W SEQ_SCHED_STATUS) (k_seq : K .seq) (h_s : Fr D W K s0 s)
    : Fr D W K s0 (State.endJob s o).1 := by
  unfold State.endJob
  repeat' first
    | with_reducible assumption | (simp -zeta (disch := first | assumption | exact rfl) only [↓Fr.setSeq])
    | with_reducible apply Fr.ite | with_reducible apply Fr.ite1 | with_reducible apply State.dropJob_frame
    | with_reducible apply State.askJob_frame | with_reducible apply State.showJobs_frame
    | with_reducible apply State.rejectJob_frame | with_reducible apply State.putSat_frame
    | (extract_lets +onlyGivenNames x; refine Fr.cut (D := D) (W := W) (K := K) (s0 := s0) (x := x) ?_ ?_; (on_goal 1 => dsimp -zeta only [x]); (on_goal 2 => intro hx; clear_value x))
    | (extract_lets +onlyGivenNames y) | split | (clear_value y; split) | (intro v w hv) | (intro v hv)

theorem State.showSlot_frame (s : State) (r_SEQ_SLOT_DATA_0 : W SEQ_SLOT_DATA_0) (r_SEQ_SLOT_DATA_1 : W SEQ_SLOT_DATA_1)
    (r_SEQ_SLOT_DATA_2 : W SEQ_SLOT_DATA_2) (r_SEQ_SLOT_DATA_3 : W SEQ_SLOT_DATA_3) (h_s : Fr D W K s0 s)
    : Fr D W K s0 (State.showSlot s) := by
  unfold State.showSlot
  extract_lets o st sch
  split
  · refine foldOver_frame_mem _ _ (fun k hk t ht => State.wrN_frame _ _ _ ?_ ht) h_s
    have h4 : k < 4 := List.mem_range.mp hk
    rcases k with _ | _ | _ | _ | k
    · exact r_SEQ_SLOT_DATA_0
    · exact r_SEQ_SLOT_DATA_1
    · exact r_SEQ_SLOT_DATA_2
    · exact r_SEQ_SLOT_DATA_3
    · omega
  · exact State.wrN_frame _ _ _ r_SEQ_SLOT_DATA_3 (State.wrN_frame _ _ _ r_SEQ_SLOT_DATA_2 (State.wrN_frame _ _ _ r_SEQ_SLOT_DATA_1
      (State.wrN_frame _ _ _ r_SEQ_SLOT_DATA_0 h_s)))

theorem State.showSched_frame (s : State) (o : Nat) (r_SEQ_OUT_COUNTS : W (SEQ_OUT_COUNTS o))
    (r_SEQ_OUT_EFF : W (SEQ_OUT_EFF o)) (r_SEQ_OUT_LIGHT : W (SEQ_OUT_LIGHT o)) (r_SEQ_OUT_MECH : W (SEQ_OUT_MECH o))
    (r_SEQ_OUT_SCHED : W (SEQ_OUT_SCHED o)) (r_SEQ_OUT_SPAN : W (SEQ_OUT_SPAN o)) (h_s : Fr D W K s0 s)
    : Fr D W K s0 (State.showSched s o) := by
  unfold State.showSched
  repeat' first
    | with_reducible assumption | with_reducible apply Fr.ite | with_reducible apply State.put_frame
    | with_reducible apply State.wrN_frame | with_reducible apply State.putSat_frame
    | with_reducible apply State.putB_frame
    | (extract_lets +onlyGivenNames x; refine Fr.cut (D := D) (W := W) (K := K) (s0 := s0) (x := x) ?_ ?_; (on_goal 1 => dsimp -zeta only [x]); (on_goal 2 => intro hx; clear_value x))
    | (extract_lets +onlyGivenNames y) | split | (clear_value y; split) | (intro v w hv) | (intro v hv)

theorem State.install_frame (s : State) (o : Nat) (d : CompDone) (r_PLN_OUT_USED : W (PLN_OUT_USED o)) (k_seq : K .seq)
    (h_s : Fr D W K s0 s) : Fr D W K s0 (State.install s o d) := by
  unfold State.install
  repeat' first
    | with_reducible assumption | (simp -zeta (disch := first | assumption | exact rfl) only [↓Fr.setSeq])
    | with_reducible apply Fr.ite | with_reducible apply State.showUsed_frame
    | (extract_lets +onlyGivenNames x; refine Fr.cut (D := D) (W := W) (K := K) (s0 := s0) (x := x) ?_ ?_; (on_goal 1 => dsimp -zeta only [x]); (on_goal 2 => intro hx; clear_value x))
    | (extract_lets +onlyGivenNames y) | split | (clear_value y; split) | (intro v w hv) | (intro v hv)

theorem State.windowChanged_frame (s : State) (n : Nat) (r_SEQ_SCHED_STATUS : W SEQ_SCHED_STATUS) (k_seq : K .seq)
    (h_s : Fr D W K s0 s) : Fr D W K s0 (State.windowChanged s n) := by
  unfold State.windowChanged
  repeat' first
    | with_reducible assumption | (simp -zeta (disch := first | assumption | exact rfl) only [↓Fr.setSeq])
    | with_reducible apply Fr.ite | with_reducible apply State.askJob_frame
    | (with_reducible apply foldOver_frame; intro a t ht)
    | (extract_lets +onlyGivenNames x; refine Fr.cut (D := D) (W := W) (K := K) (s0 := s0) (x := x) ?_ ?_; (on_goal 1 => dsimp -zeta only [x]); (on_goal 2 => intro hx; clear_value x))
    | (extract_lets +onlyGivenNames y) | split | (intro v w hv) | (intro v hv)

theorem State.commitSchedules_frame (s : State) (asked : List Nat) (r_SEQ_SCHED_STATUS : W SEQ_SCHED_STATUS) (k_seq : K .seq)
    (r_PLN_OUT_USED : ∀ i, W (PLN_OUT_USED i))
    (h_s : Fr D W K s0 s) : Fr D W K s0 (State.commitSchedules s asked) := by
  unfold State.commitSchedules
  extract_lets s1
  have h1 : Fr D W K s0 s1 := by
    refine foldOver_frame _ _ (fun o t ht => ?_) h_s
    dsimp only
    split
    · exact ht
    · next d _ =>
      have hu : Fr D W K s0 { (t.install o d) with seq := { (t.install o d).seq with done := tdel t.seq.done (jobKey o 0) } } :=
        (State.install_frame t o d (r_PLN_OUT_USED o) k_seq ht).upd rfl (fun p hp => by cases p <;> first | rfl | exact absurd ‹_› hp) rfl rfl
      split
      · split
        · exact hu.upd rfl (fun p hp => by cases p <;> first | rfl | exact absurd ‹_› hp) rfl rfl
        · exact State.askJob_frame _ _ _ r_SEQ_SCHED_STATUS k_seq hu
      · exact hu
  exact h1.upd rfl (fun p hp => by cases p <;> first | rfl | exact absurd ‹_› hp) rfl rfl

theorem State.rebuildCommits_frame (s : State) (allowed : Nat → Bool) (r_SEQ_OUT_COUNTS : ∀ i, W (SEQ_OUT_COUNTS i))
    (k_seq : K .seq) (r_PLN_OUT_USED : ∀ i, W (PLN_OUT_USED i))
    (h_s : Fr D W K s0 s) : Fr D W K s0 (State.rebuildCommits s allowed) := by
  unfold State.rebuildCommits
  repeat' first
    | with_reducible assumption
    | with_reducible apply r_PLN_OUT_USED | (simp -zeta (disch := first | assumption | exact rfl) only [↓Fr.setSeq])
    | with_reducible apply State.install_frame | with_reducible apply State.inc_frame
    | (with_reducible apply foldOver_frame; intro a t ht) | with_reducible apply r_SEQ_OUT_COUNTS
    | (extract_lets +onlyGivenNames x; refine Fr.cut (D := D) (W := W) (K := K) (s0 := s0) (x := x) ?_ ?_; (on_goal 1 => dsimp -zeta only [x]); (on_goal 2 => intro hx; clear_value x))
    | (extract_lets +onlyGivenNames y) | split | (intro v w hv) | (intro v hv) | (clear_value y; split)

theorem State.setThrottle_frame (s : State) (on : Bool) (r_SEQ_THROTTLE : W SEQ_THROTTLE) (k_seq : K .seq)
    (h_s : Fr D W K s0 s) : Fr D W K s0 (State.setThrottle s on) := by
  unfold State.setThrottle
  repeat' first
    | with_reducible assumption | (simp -zeta (disch := first | assumption | exact rfl) only [↓Fr.setSeq])
    | with_reducible apply Fr.ite | with_reducible apply State.putB_frame | with_reducible apply State.inc_frame
    | (extract_lets +onlyGivenNames x; refine Fr.cut (D := D) (W := W) (K := K) (s0 := s0) (x := x) ?_ ?_; (on_goal 1 => dsimp -zeta only [x]); (on_goal 2 => intro hx; clear_value x))
    | (extract_lets +onlyGivenNames y) | split

theorem State.selectRank_frame (s : State) (stop : Bool) (o : Nat) (r_SEQ_OUT_COUNTS : W (SEQ_OUT_COUNTS o))
    (r_SEQ_OUT_EFF : W (SEQ_OUT_EFF o)) (r_SEQ_OUT_LIGHT : W (SEQ_OUT_LIGHT o)) (r_SEQ_OUT_MECH : W (SEQ_OUT_MECH o))
    (r_SEQ_OUT_SCHED : W (SEQ_OUT_SCHED o)) (r_SEQ_OUT_SPAN : W (SEQ_OUT_SPAN o)) (h_s : Fr D W K s0 s)
    : Fr D W K s0 (State.selectRank s stop o) := by
  unfold State.selectRank
  repeat' first
    | with_reducible assumption | with_reducible apply Fr.ite | with_reducible apply State.put_frame
    | with_reducible apply State.showSched_frame
    | (extract_lets +onlyGivenNames x; refine Fr.cut (D := D) (W := W) (K := K) (s0 := s0) (x := x) ?_ ?_; (on_goal 1 => dsimp -zeta only [x]); (on_goal 2 => intro hx; clear_value x))
    | (extract_lets +onlyGivenNames y) | split

theorem State.selectRanks_frame (s : State) (stop : Bool) (r_SEQ_OUT_COUNTS : ∀ i, W (SEQ_OUT_COUNTS i))
    (r_SEQ_OUT_EFF : ∀ i, W (SEQ_OUT_EFF i)) (r_SEQ_OUT_LIGHT : ∀ i, W (SEQ_OUT_LIGHT i))
    (r_SEQ_OUT_MECH : ∀ i, W (SEQ_OUT_MECH i)) (r_SEQ_OUT_SCHED : ∀ i, W (SEQ_OUT_SCHED i))
    (r_SEQ_OUT_SPAN : ∀ i, W (SEQ_OUT_SPAN i)) (r_SEQ_SLOT_DATA_0 : W SEQ_SLOT_DATA_0) (r_SEQ_SLOT_DATA_1 : W SEQ_SLOT_DATA_1)
    (r_SEQ_SLOT_DATA_2 : W SEQ_SLOT_DATA_2) (r_SEQ_SLOT_DATA_3 : W SEQ_SLOT_DATA_3) (h_s : Fr D W K s0 s)
    : Fr D W K s0 (State.selectRanks s stop) := by
  unfold State.selectRanks
  repeat' first
    | with_reducible assumption | with_reducible apply State.selectRank_frame | with_reducible apply State.showSlot_frame
    | (with_reducible apply foldOver_frame; intro a t ht) | with_reducible apply r_SEQ_OUT_COUNTS
    | with_reducible apply r_SEQ_OUT_EFF | with_reducible apply r_SEQ_OUT_LIGHT | with_reducible apply r_SEQ_OUT_MECH
    | with_reducible apply r_SEQ_OUT_SCHED | with_reducible apply r_SEQ_OUT_SPAN | (intro v w hv) | (intro v hv)

theorem doStaticEnter_frame (dt o : Nat) (s : State) (k_seq : K .seq) (h_s : Fr D W K s0 s)
    : Fr D W K s0 (doStaticEnter dt o s) := by
  unfold doStaticEnter
  repeat' first
    | with_reducible assumption | (simp -zeta (disch := first | assumption | exact rfl) only [↓Fr.setSeq])
    | with_reducible apply Fr.ite | with_reducible apply State.tick_frame | with_reducible apply State.onLiveIf_frame
    | (extract_lets +onlyGivenNames x; refine Fr.cut (D := D) (W := W) (K := K) (s0 := s0) (x := x) ?_ ?_; (on_goal 1 => dsimp -zeta only [x]); (on_goal 2 => intro hx; clear_value x))
    | (extract_lets +onlyGivenNames y) | split | (intro v w hv) | (intro v hv)

theorem State.leaveStatic_frame (s : State) (o : Nat) (r_SEQ_OUT_SCHED : W (SEQ_OUT_SCHED o)) (k_seq : K .seq)
    (h_s : Fr D W K s0 s) : Fr D W K s0 (State.leaveStatic s o) := by
  unfold State.leaveStatic
  repeat' first
    | with_reducible assumption | (simp -zeta (disch := first | assumption | exact rfl) only [↓Fr.setSeq])
    | with_reducible apply State.put_frame
    | (extract_lets +onlyGivenNames x; refine Fr.cut (D := D) (W := W) (K := K) (s0 := s0) (x := x) ?_ ?_; (on_goal 1 => dsimp -zeta only [x]); (on_goal 2 => intro hx; clear_value x))
    | (extract_lets +onlyGivenNames y)

theorem State.staticBoundary_frame (s : State) (r_SEQ_OUT_SCHED : ∀ i, W (SEQ_OUT_SCHED i)) (k_seq : K .seq)
    (h_s : Fr D W K s0 s) : Fr D W K s0 (State.staticBoundary s) := by
  unfold State.staticBoundary
  repeat' first
    | with_reducible assumption | (simp -zeta (disch := first | assumption | exact rfl) only [↓Fr.setSeq])
    | with_reducible apply Fr.ite | (with_reducible apply foldOver_frame; intro a t ht)
    | with_reducible apply State.leaveStatic_frame | with_reducible apply State.put_frame
    | with_reducible apply r_SEQ_OUT_SCHED
    | (extract_lets +onlyGivenNames x; refine Fr.cut (D := D) (W := W) (K := K) (s0 := s0) (x := x) ?_ ?_; (on_goal 1 => dsimp -zeta only [x]); (on_goal 2 => intro hx; clear_value x))
    | (extract_lets +onlyGivenNames y) | split | (clear_value y; split) | (intro v w hv) | (intro v hv)

theorem State.selectWaves_frame (s : State) (o band : Nat) (hE : Ev W K) (k_seq : K .seq) (h_s : Fr D W K s0 s)
    : Fr D W K s0 (State.selectWaves s o band) := by
  unfold State.selectWaves
  repeat' first
    | with_reducible assumption | (simp -zeta (disch := first | assumption | exact rfl) only [↓Fr.setSeq])
    | with_reducible apply Fr.ite | with_reducible apply State.raiseB_frame
    | (with_reducible apply foldOver_frame; intro a t ht)
    | (extract_lets +onlyGivenNames x; refine Fr.cut (D := D) (W := W) (K := K) (s0 := s0) (x := x) ?_ ?_; (on_goal 1 => dsimp -zeta only [x]); (on_goal 2 => intro hx; clear_value x))
    | (extract_lets +onlyGivenNames y) | split | (intro v w hv) | (intro v hv) | (clear_value y; split)

theorem State.takeEvent_frame (s : State) (e : FabEvent) (k_seq : K .seq) (h_s : Fr D W K s0 s)
    : Fr D W K s0 (State.takeEvent s e) := by
  unfold State.takeEvent
  repeat' first
    | with_reducible assumption | (simp -zeta (disch := first | assumption | exact rfl) only [↓Fr.setSeq])
    | (extract_lets +onlyGivenNames x; refine Fr.cut (D := D) (W := W) (K := K) (s0 := s0) (x := x) ?_ ?_; (on_goal 1 => dsimp -zeta only [x]); (on_goal 2 => intro hx; clear_value x))
    | (extract_lets +onlyGivenNames y)

theorem State.dropOldEvents_frame (s : State) (k_seq : K .seq) (h_s : Fr D W K s0 s)
    : Fr D W K s0 (State.dropOldEvents s) := by
  unfold State.dropOldEvents
  repeat' first
    | with_reducible assumption | (simp -zeta (disch := first | assumption | exact rfl) only [↓Fr.setSeq])
    | (extract_lets +onlyGivenNames x; refine Fr.cut (D := D) (W := W) (K := K) (s0 := s0) (x := x) ?_ ?_; (on_goal 1 => dsimp -zeta only [x]); (on_goal 2 => intro hx; clear_value x))
    | (extract_lets +onlyGivenNames y) | (intro v w hv) | (intro v hv)

theorem State.discardEvent_frame (s : State) (e : FabEvent) (hE : Ev W K) (r_SEQ_LATE : W SEQ_LATE) (k_apt : K .apt)
    (h_s : Fr D W K s0 s) : Fr D W K s0 (State.discardEvent s e) := by
  unfold State.discardEvent
  repeat' first
    | with_reducible assumption | (simp -zeta (disch := first | assumption | exact rfl) only [↓Fr.setApt])
    | with_reducible apply Fr.ite | with_reducible apply State.inc_frame | with_reducible apply State.raiseAt_frame
    | (extract_lets +onlyGivenNames x; refine Fr.cut (D := D) (W := W) (K := K) (s0 := s0) (x := x) ?_ ?_; (on_goal 1 => dsimp -zeta only [x]); (on_goal 2 => intro hx; clear_value x))
    | (extract_lets +onlyGivenNames y) | split | (clear_value y; split) | (intro v w hv) | (intro v hv)

theorem State.holdEvent_frame (s : State) (e : FabEvent) (k_seq : K .seq) (h_s : Fr D W K s0 s)
    : Fr D W K s0 (State.holdEvent s e) := by
  unfold State.holdEvent
  repeat' first
    | with_reducible assumption | (simp -zeta (disch := first | assumption | exact rfl) only [↓Fr.setSeq])
    | with_reducible apply Fr.ite
    | (extract_lets +onlyGivenNames x; refine Fr.cut (D := D) (W := W) (K := K) (s0 := s0) (x := x) ?_ ?_; (on_goal 1 => dsimp -zeta only [x]); (on_goal 2 => intro hx; clear_value x))
    | (extract_lets +onlyGivenNames y) | split | (clear_value y; split) | (intro v w hv) | (intro v hv)

theorem State.applyMech_frame (s : State) (r_SEQ_OUT_COUNTS : ∀ i, W (SEQ_OUT_COUNTS i))
    (r_SEQ_OUT_EFF : ∀ i, W (SEQ_OUT_EFF i)) (r_SEQ_OUT_LIGHT : ∀ i, W (SEQ_OUT_LIGHT i))
    (r_SEQ_OUT_MECH : ∀ i, W (SEQ_OUT_MECH i)) (r_SEQ_OUT_SCHED : ∀ i, W (SEQ_OUT_SCHED i))
    (r_SEQ_OUT_SPAN : ∀ i, W (SEQ_OUT_SPAN i)) (h_s : Fr D W K s0 s) : Fr D W K s0 (State.applyMech s) := by
  unfold State.applyMech
  repeat' first
    | with_reducible assumption | with_reducible apply State.put_frame | with_reducible apply State.showSched_frame
    | (with_reducible apply foldOver_frame; intro a t ht) | with_reducible apply r_SEQ_OUT_COUNTS
    | with_reducible apply r_SEQ_OUT_EFF | with_reducible apply r_SEQ_OUT_LIGHT | with_reducible apply r_SEQ_OUT_MECH
    | with_reducible apply r_SEQ_OUT_SCHED | with_reducible apply r_SEQ_OUT_SPAN | (intro v w hv) | (intro v hv)

theorem State.setTile_frame (s : State) (k : Nat) (x : TileSt) (k_seq : K .seq) (h_s : Fr D W K s0 s)
    : Fr D W K s0 (State.setTile s k x) := by
  unfold State.setTile
  repeat' first
    | with_reducible assumption | (simp -zeta (disch := first | assumption | exact rfl) only [↓Fr.setSeq])
    | (extract_lets +onlyGivenNames x; refine Fr.cut (D := D) (W := W) (K := K) (s0 := s0) (x := x) ?_ ?_; (on_goal 1 => dsimp -zeta only [x]); (on_goal 2 => intro hx; clear_value x))
    | (extract_lets +onlyGivenNames y)

theorem State.showTiles_frame (s : State) (r_SEQ_TILES : W SEQ_TILES) (h_s : Fr D W K s0 s)
    : Fr D W K s0 (State.showTiles s) := by
  unfold State.showTiles
  repeat' first
    | with_reducible assumption | with_reducible apply State.putSat_frame | (intro v w hv) | (intro v hv)

theorem State.powerTiles_frame (s : State) (r_THM_DOM_ON : ∀ i, W (THM_DOM_ON i)) (h_s : Fr D W K s0 s)
    : Fr D W K s0 (State.powerTiles s) := by
  unfold State.powerTiles
  repeat' first
    | with_reducible assumption | with_reducible apply State.setDomOn_frame
    | (with_reducible apply foldOver_frame; intro a t ht) | with_reducible apply r_THM_DOM_ON
    | (extract_lets +onlyGivenNames x; refine Fr.cut (D := D) (W := W) (K := K) (s0 := s0) (x := x) ?_ ?_; (on_goal 1 => dsimp -zeta only [x]); (on_goal 2 => intro hx; clear_value x))
    | (extract_lets +onlyGivenNames y) | (intro v w hv) | (intro v hv)

theorem State.placeTiles_frame (s : State) (r_SEQ_TILES : W SEQ_TILES) (r_THM_DOM_ON : ∀ i, W (THM_DOM_ON i)) (k_seq : K .seq)
    (h_s : Fr D W K s0 s) : Fr D W K s0 (State.placeTiles s) := by
  unfold State.placeTiles
  repeat' first
    | with_reducible assumption | with_reducible apply State.setTile_frame | with_reducible apply State.powerTiles_frame
    | with_reducible apply State.showTiles_frame | (with_reducible apply foldOver_frame; intro a t ht)
    | with_reducible apply r_THM_DOM_ON
    | (extract_lets +onlyGivenNames x; refine Fr.cut (D := D) (W := W) (K := K) (s0 := s0) (x := x) ?_ ?_; (on_goal 1 => dsimp -zeta only [x]); (on_goal 2 => intro hx; clear_value x))
    | (extract_lets +onlyGivenNames y) | (intro v w hv) | (intro v hv)

end Sys2Proof.Machine
end

