-- ==== Sys2Proof/Laws/FrameLink.lean ====
section
/-! SUPPORT. What each function leaves: registers, parts of the state, the queue and the memory. One law per function of
lanes, array ports, pixels and passes. -/
namespace Sys2Proof.Machine

set_option linter.all false
set_option linter.unusedTactic false
set_option linter.unreachableTactic false

variable {D : List Host.Cell → Prop} {W : Nat → Prop} {K : Part → Prop} {s0 : State}

theorem State.applyLaneMap_frame (s : State) (r_LAN_LANE_CFG : ∀ i, W (LAN_LANE_CFG i)) (h_s : Fr D W K s0 s)
    : Fr D W K s0 (State.applyLaneMap s) := by
  unfold State.applyLaneMap
  repeat' first
    | with_reducible assumption | with_reducible apply Fr.ite | with_reducible apply State.put_frame
    | with_reducible apply State.putB_frame | (with_reducible apply foldOver_frame; intro a t ht)
    | with_reducible apply r_LAN_LANE_CFG
    | (extract_lets +onlyGivenNames x; refine Fr.cut (D := D) (W := W) (K := K) (s0 := s0) (x := x) ?_ ?_; (on_goal 1 => dsimp -zeta only [x]); (on_goal 2 => intro hx; clear_value x))
    | (extract_lets +onlyGivenNames y) | split | (intro v w hv) | (intro v hv)

theorem State.setLane_frame (s : State) (l : Nat) (x : LaneSt) (k_lan : K .lan) (h_s : Fr D W K s0 s)
    : Fr D W K s0 (State.setLane s l x) := by
  unfold State.setLane
  repeat' first
    | with_reducible assumption | (simp -zeta (disch := first | assumption | exact rfl) only [↓Fr.setLan])
    | (extract_lets +onlyGivenNames x; refine Fr.cut (D := D) (W := W) (K := K) (s0 := s0) (x := x) ?_ ?_; (on_goal 1 => dsimp -zeta only [x]); (on_goal 2 => intro hx; clear_value x))
    | (extract_lets +onlyGivenNames y)

theorem State.showLan_frame (s : State) (r_CAL_CULLET : W CAL_CULLET) (r_LAN_STATUS : W LAN_STATUS) (h_s : Fr D W K s0 s)
    : Fr D W K s0 (State.showLan s) := by
  unfold State.showLan
  repeat' first
    | with_reducible assumption | with_reducible apply State.put_frame | (intro v w hv) | (intro v hv)

theorem State.setLaneState_frame (s : State) (l st : Nat) (r_CAL_CULLET : W CAL_CULLET)
    (r_LAN_LANE_STATE : W (LAN_LANE_STATE l)) (r_LAN_STATUS : W LAN_STATUS) (k_lan : K .lan) (h_s : Fr D W K s0 s)
    : Fr D W K s0 (State.setLaneState s l st) := by
  unfold State.setLaneState
  repeat' first
    | with_reducible assumption | with_reducible apply State.setLane_frame | with_reducible apply State.put_frame
    | with_reducible apply State.showLan_frame
    | (extract_lets +onlyGivenNames x; refine Fr.cut (D := D) (W := W) (K := K) (s0 := s0) (x := x) ?_ ?_; (on_goal 1 => dsimp -zeta only [x]); (on_goal 2 => intro hx; clear_value x))
    | (extract_lets +onlyGivenNames y)

theorem State.setEq_frame (s : State) (l : Nat) (e : Nat × Nat × Nat) (r_LAN_LANE_EQ : W (LAN_LANE_EQ l))
    (h_s : Fr D W K s0 s) : Fr D W K s0 (State.setEq s l e) := by
  unfold State.setEq
  repeat' first
    | with_reducible assumption | with_reducible apply State.put_frame

theorem State.stepEq_frame (s : State) (l : Nat) (r_LAN_LANE_EQ : W (LAN_LANE_EQ l)) (k_lan : K .lan) (h_s : Fr D W K s0 s)
    : Fr D W K s0 (State.stepEq s l) := by
  unfold State.stepEq
  repeat' first
    | with_reducible assumption | with_reducible apply Fr.ite | with_reducible apply State.setEq_frame
    | with_reducible apply State.setLane_frame
    | (extract_lets +onlyGivenNames x; refine Fr.cut (D := D) (W := W) (K := K) (s0 := s0) (x := x) ?_ ?_; (on_goal 1 => dsimp -zeta only [x]); (on_goal 2 => intro hx; clear_value x))
    | (extract_lets +onlyGivenNames y) | split

theorem State.trainLane_frame (s : State) (l : Nat) (fromPreset : Bool) (r_CAL_CULLET : W CAL_CULLET)
    (r_LAN_LANE_EQ : W (LAN_LANE_EQ l)) (r_LAN_LANE_STATE : W (LAN_LANE_STATE l)) (r_LAN_STATUS : W LAN_STATUS)
    (k_lan : K .lan) (h_s : Fr D W K s0 s) : Fr D W K s0 (State.trainLane s l fromPreset) := by
  unfold State.trainLane
  repeat' first
    | with_reducible assumption | with_reducible apply Fr.ite | with_reducible apply State.setLane_frame
    | with_reducible apply State.setEq_frame | with_reducible apply State.setLaneState_frame
    | (extract_lets +onlyGivenNames x; refine Fr.cut (D := D) (W := W) (K := K) (s0 := s0) (x := x) ?_ ?_; (on_goal 1 => dsimp -zeta only [x]); (on_goal 2 => intro hx; clear_value x))
    | (extract_lets +onlyGivenNames y) | split | (clear_value y; split) | (intro v w hv) | (intro v hv)

theorem State.sendFrame_frame (s : State) (l kind : Nat) (scr : Bool) (words : List Nat)
    (r_LAN_LANE_WHITENED : W (LAN_LANE_WHITENED l)) (k_out : K .out) (k_lan : K .lan) (h_s : Fr D W K s0 s)
    : Fr D W K s0 (State.sendFrame s l kind scr words) := by
  unfold State.sendFrame
  repeat' first
    | with_reducible assumption | with_reducible apply Fr.ite | with_reducible apply State.setLane_frame
    | with_reducible apply State.inc_frame | with_reducible apply State.send_frame
    | (extract_lets +onlyGivenNames x; refine Fr.cut (D := D) (W := W) (K := K) (s0 := s0) (x := x) ?_ ?_; (on_goal 1 => dsimp -zeta only [x]); (on_goal 2 => intro hx; clear_value x))
    | (extract_lets +onlyGivenNames y) | split | (clear_value y; split) | (intro v w hv) | (intro v hv)

theorem State.takeWords_frame (s : State) (l : Nat) (k_lan : K .lan) (h_s : Fr D W K s0 s)
    : Fr D W K s0 (State.takeWords s l).2 := by
  unfold State.takeWords
  repeat' first
    | with_reducible assumption | with_reducible apply State.setLane_frame
    | (extract_lets +onlyGivenNames x; refine Fr.cut (D := D) (W := W) (K := K) (s0 := s0) (x := x) ?_ ?_; (on_goal 1 => dsimp -zeta only [x]); (on_goal 2 => intro hx; clear_value x))
    | (extract_lets +onlyGivenNames y)

theorem State.checkBit_frame (s : State) (l : Nat) (b : Bool) (r_LAN_LANE_PRBS_BITS_HI : ∀ i, W (LAN_LANE_PRBS_BITS_HI i))
    (r_LAN_LANE_PRBS_BITS_LO : ∀ i, W (LAN_LANE_PRBS_BITS_LO i)) (r_LAN_LANE_PRBS_CTRL : ∀ i, W (LAN_LANE_PRBS_CTRL i))
    (r_LAN_LANE_PRBS_ERR_HI : ∀ i, W (LAN_LANE_PRBS_ERR_HI i)) (r_LAN_LANE_PRBS_ERR_LO : ∀ i, W (LAN_LANE_PRBS_ERR_LO i))
    (k_lan : K .lan) (h_s : Fr D W K s0 s) : Fr D W K s0 (State.checkBit s l b) := by
  unfold State.checkBit
  repeat' first
    | with_reducible assumption | with_reducible apply Fr.ite | with_reducible apply State.setLane_frame
    | with_reducible apply State.put_frame | with_reducible apply r_LAN_LANE_PRBS_BITS_HI
    | with_reducible apply r_LAN_LANE_PRBS_BITS_LO | with_reducible apply r_LAN_LANE_PRBS_CTRL
    | with_reducible apply r_LAN_LANE_PRBS_ERR_HI | with_reducible apply r_LAN_LANE_PRBS_ERR_LO
    | (extract_lets +onlyGivenNames x; refine Fr.cut (D := D) (W := W) (K := K) (s0 := s0) (x := x) ?_ ?_; (on_goal 1 => dsimp -zeta only [x]); (on_goal 2 => intro hx; clear_value x))
    | (extract_lets +onlyGivenNames y) | split | (intro v w hv) | (intro v hv)

theorem State.checkBits_frame (s : State) (l : Nat) (bs : List Bool)
    (r_LAN_LANE_PRBS_BITS_HI : ∀ i, W (LAN_LANE_PRBS_BITS_HI i)) (r_LAN_LANE_PRBS_BITS_LO : ∀ i, W (LAN_LANE_PRBS_BITS_LO i))
    (r_LAN_LANE_PRBS_CTRL : ∀ i, W (LAN_LANE_PRBS_CTRL i)) (r_LAN_LANE_PRBS_ERR_HI : ∀ i, W (LAN_LANE_PRBS_ERR_HI i))
    (r_LAN_LANE_PRBS_ERR_LO : ∀ i, W (LAN_LANE_PRBS_ERR_LO i)) (k_lan : K .lan) (h_s : Fr D W K s0 s)
    : Fr D W K s0 (State.checkBits s l bs) := by
  unfold State.checkBits
  split
  · refine foldl_frame _ _ (fun t a ht => ?_) h_s
    apply State.checkBit_frame <;> assumption
  · exact h_s

theorem State.announce_frame (s : State) (sp l kind : Nat) (r_LAN_LANE_STATE : W (LAN_LANE_STATE sp)) (k_lan : K .lan)
    (h_s : Fr D W K s0 s) : Fr D W K s0 (State.announce s sp l kind) := by
  unfold State.announce
  repeat' first
    | with_reducible assumption | with_reducible apply State.setLane_frame | with_reducible apply State.put_frame
    | (extract_lets +onlyGivenNames x; refine Fr.cut (D := D) (W := W) (K := K) (s0 := s0) (x := x) ?_ ?_; (on_goal 1 => dsimp -zeta only [x]); (on_goal 2 => intro hx; clear_value x))
    | (extract_lets +onlyGivenNames y)

theorem State.trySpare_frame (s : State) (l : Nat) (r_LAN_LANE_STATE : ∀ i, W (LAN_LANE_STATE i)) (k_lan : K .lan)
    (h_s : Fr D W K s0 s) : Fr D W K s0 (State.trySpare s l) := by
  unfold State.trySpare
  repeat' first
    | with_reducible assumption | with_reducible apply Fr.ite | with_reducible apply State.announce_frame
    | with_reducible apply r_LAN_LANE_STATE
    | (extract_lets +onlyGivenNames x; refine Fr.cut (D := D) (W := W) (K := K) (s0 := s0) (x := x) ?_ ?_; (on_goal 1 => dsimp -zeta only [x]); (on_goal 2 => intro hx; clear_value x))
    | (extract_lets +onlyGivenNames y) | split

theorem State.failLane_frame (s : State) (l cause : Nat) (hE : Ev W K) (r_CAL_CULLET : W CAL_CULLET)
    (r_LAN_LANE_STATE : ∀ i, W (LAN_LANE_STATE i)) (r_LAN_STATUS : W LAN_STATUS) (k_lan : K .lan) (h_s : Fr D W K s0 s)
    : Fr D W K s0 (State.failLane s l cause) := by
  unfold State.failLane
  repeat' first
    | with_reducible assumption | with_reducible apply Fr.ite | with_reducible apply State.setLaneState_frame
    | with_reducible apply State.put_frame | with_reducible apply State.raise_frame
    | with_reducible apply State.trySpare_frame | with_reducible apply r_LAN_LANE_STATE
    | (extract_lets +onlyGivenNames x; refine Fr.cut (D := D) (W := W) (K := K) (s0 := s0) (x := x) ?_ ?_; (on_goal 1 => dsimp -zeta only [x]); (on_goal 2 => intro hx; clear_value x))
    | (extract_lets +onlyGivenNames y) | split

theorem State.crcFailed_frame (s : State) (l : Nat) (hE : Ev W K) (r_CAL_CULLET : W CAL_CULLET)
    (r_LAN_LANE_CRC_ERR : W (LAN_LANE_CRC_ERR l)) (r_LAN_LANE_STATE : ∀ i, W (LAN_LANE_STATE i)) (r_LAN_STATUS : W LAN_STATUS)
    (k_lan : K .lan) (h_s : Fr D W K s0 s) : Fr D W K s0 (State.crcFailed s l) := by
  unfold State.crcFailed
  repeat' first
    | with_reducible assumption | with_reducible apply Fr.ite | with_reducible apply State.setLane_frame
    | with_reducible apply State.inc_frame | with_reducible apply State.failLane_frame | with_reducible apply r_LAN_LANE_STATE
    | (extract_lets +onlyGivenNames x; refine Fr.cut (D := D) (W := W) (K := K) (s0 := s0) (x := x) ?_ ?_; (on_goal 1 => dsimp -zeta only [x]); (on_goal 2 => intro hx; clear_value x))
    | (extract_lets +onlyGivenNames y) | split | (intro v w hv) | (intro v hv)

theorem State.syncMissed_frame (s : State) (l : Nat) (hE : Ev W K) (r_CAL_CULLET : W CAL_CULLET)
    (r_LAN_LANE_STATE : ∀ i, W (LAN_LANE_STATE i)) (r_LAN_LANE_SYNC : W (LAN_LANE_SYNC l)) (r_LAN_STATUS : W LAN_STATUS)
    (k_lan : K .lan) (h_s : Fr D W K s0 s) : Fr D W K s0 (State.syncMissed s l) := by
  unfold State.syncMissed
  repeat' first
    | with_reducible assumption | with_reducible apply Fr.ite | with_reducible apply State.inc_frame
    | with_reducible apply State.putB_frame | with_reducible apply State.setLane_frame
    | with_reducible apply State.failLane_frame | with_reducible apply r_LAN_LANE_STATE
    | (extract_lets +onlyGivenNames x; refine Fr.cut (D := D) (W := W) (K := K) (s0 := s0) (x := x) ?_ ?_; (on_goal 1 => dsimp -zeta only [x]); (on_goal 2 => intro hx; clear_value x))
    | (extract_lets +onlyGivenNames y) | split | (clear_value y; split) | (intro v w hv) | (intro v hv)

theorem State.receiveSlot_frame (s : State) (l : Nat) (bs : List Bool) (hE : Ev W K) (r_CAL_CULLET : W CAL_CULLET)
    (r_LAN_LANE_FRAMES : W (LAN_LANE_FRAMES l)) (r_LAN_LANE_STATE : ∀ i, W (LAN_LANE_STATE i))
    (r_LAN_LANE_SYNC : W (LAN_LANE_SYNC l)) (r_LAN_STATUS : W LAN_STATUS) (k_lan : K .lan) (h_s : Fr D W K s0 s)
    : Fr D W K s0 (State.receiveSlot s l bs).1 := by
  unfold State.receiveSlot
  repeat' first
    | with_reducible assumption | with_reducible apply Fr.ite1 | with_reducible apply Fr.ite
    | with_reducible apply State.setLane_frame | with_reducible apply State.syncMissed_frame
    | with_reducible apply State.inc_frame | with_reducible apply State.putB_frame | with_reducible apply r_LAN_LANE_STATE
    | (extract_lets +onlyGivenNames x; refine Fr.cut (D := D) (W := W) (K := K) (s0 := s0) (x := x) ?_ ?_; (on_goal 1 => dsimp -zeta only [x]); (on_goal 2 => intro hx; clear_value x))
    | (extract_lets +onlyGivenNames y) | split | (intro v w hv) | (intro v hv)

theorem State.trainCheck_frame (s : State) (l : Nat) (r_CAL_CULLET : W CAL_CULLET) (r_LAN_LANE_STATE : W (LAN_LANE_STATE l))
    (r_LAN_STATUS : W LAN_STATUS) (k_lan : K .lan) (h_s : Fr D W K s0 s) : Fr D W K s0 (State.trainCheck s l) := by
  unfold State.trainCheck
  repeat' first
    | with_reducible assumption | with_reducible apply Fr.ite | with_reducible apply State.setLaneState_frame
    | with_reducible apply State.setLane_frame
    | (extract_lets +onlyGivenNames x; refine Fr.cut (D := D) (W := W) (K := K) (s0 := s0) (x := x) ?_ ?_; (on_goal 1 => dsimp -zeta only [x]); (on_goal 2 => intro hx; clear_value x))
    | (extract_lets +onlyGivenNames y) | split

theorem State.takeTraining_frame (s : State) (l : Nat) (words : List Nat) (crcOk adapted : Bool)
    (r_CAL_CULLET : W CAL_CULLET) (r_LAN_LANE_EQ : W (LAN_LANE_EQ l)) (r_LAN_LANE_STATE : W (LAN_LANE_STATE l))
    (r_LAN_STATUS : W LAN_STATUS) (k_lan : K .lan) (h_s : Fr D W K s0 s)
    : Fr D W K s0 (State.takeTraining s l words crcOk adapted) := by
  unfold State.takeTraining
  repeat' first
    | with_reducible assumption | with_reducible apply Fr.ite | with_reducible apply State.setLane_frame
    | with_reducible apply State.putB_frame | with_reducible apply State.put_frame
    | with_reducible apply State.setEq_frame | with_reducible apply State.trainCheck_frame
    | with_reducible apply State.setLaneState_frame
    | (extract_lets +onlyGivenNames x; refine Fr.cut (D := D) (W := W) (K := K) (s0 := s0) (x := x) ?_ ?_; (on_goal 1 => dsimp -zeta only [x]); (on_goal 2 => intro hx; clear_value x))
    | (extract_lets +onlyGivenNames y) | split | (clear_value y; split) | (intro v w hv) | (intro v hv)

theorem State.takeStatus_frame (s : State) (l : Nat) (words : List Nat) (hE : Ev W K) (r_CAL_CULLET : W CAL_CULLET)
    (r_LAN_LANE_FAR : W (LAN_LANE_FAR l)) (r_LAN_LANE_STATE : ∀ i, W (LAN_LANE_STATE i)) (r_LAN_STATUS : W LAN_STATUS)
    (k_lan : K .lan) (h_s : Fr D W K s0 s) : Fr D W K s0 (State.takeStatus s l words) := by
  unfold State.takeStatus
  repeat' first
    | with_reducible assumption | with_reducible apply Fr.ite | with_reducible apply State.setLane_frame
    | with_reducible apply State.putB_frame | with_reducible apply State.put_frame | with_reducible apply State.failLane_frame
    | with_reducible apply r_LAN_LANE_STATE
    | (extract_lets +onlyGivenNames x; refine Fr.cut (D := D) (W := W) (K := K) (s0 := s0) (x := x) ?_ ?_; (on_goal 1 => dsimp -zeta only [x]); (on_goal 2 => intro hx; clear_value x))
    | (extract_lets +onlyGivenNames y) | split | (intro v w hv) | (intro v hv)

theorem State.takePlace_frame (s : State) (sp : Nat) (hE : Ev W K) (r_CAL_CULLET : W CAL_CULLET) (r_CAL_FENCED : W CAL_FENCED)
    (r_CAL_FENCE_DATA_0 : W CAL_FENCE_DATA_0) (r_CAL_FENCE_DATA_1 : W CAL_FENCE_DATA_1)
    (r_CAL_FENCE_DATA_2 : W CAL_FENCE_DATA_2) (r_LAN_LANE_EQ : ∀ i, W (LAN_LANE_EQ i))
    (r_LAN_LANE_STATE : ∀ i, W (LAN_LANE_STATE i)) (r_LAN_STATUS : W LAN_STATUS) (k_lan : K .lan) (k_cal : K .cal)
    (h_s : Fr D W K s0 s) : Fr D W K s0 (State.takePlace s sp) := by
  unfold State.takePlace
  repeat' first
    | with_reducible assumption | with_reducible apply Fr.ite | with_reducible apply State.setLane_frame
    | with_reducible apply State.put_frame | with_reducible apply State.setLaneState_frame
    | with_reducible apply State.fenceUnit_frame | with_reducible apply State.raise_frame
    | with_reducible apply State.trainLane_frame | with_reducible apply r_LAN_LANE_EQ | with_reducible apply r_LAN_LANE_STATE
    | (extract_lets +onlyGivenNames x; refine Fr.cut (D := D) (W := W) (K := K) (s0 := s0) (x := x) ?_ ?_; (on_goal 1 => dsimp -zeta only [x]); (on_goal 2 => intro hx; clear_value x))
    | (extract_lets +onlyGivenNames y) | split | (clear_value y; split)

theorem State.lanBoundary_frame (s : State) (hE : Ev W K) (r_CAL_CULLET : W CAL_CULLET) (r_CAL_FENCED : W CAL_FENCED)
    (r_CAL_FENCE_DATA_0 : W CAL_FENCE_DATA_0) (r_CAL_FENCE_DATA_1 : W CAL_FENCE_DATA_1)
    (r_CAL_FENCE_DATA_2 : W CAL_FENCE_DATA_2) (r_LAN_LANE_EQ : ∀ i, W (LAN_LANE_EQ i))
    (r_LAN_LANE_STATE : ∀ i, W (LAN_LANE_STATE i)) (r_LAN_STATUS : W LAN_STATUS) (k_lan : K .lan) (k_cal : K .cal)
    (h_s : Fr D W K s0 s) : Fr D W K s0 (State.lanBoundary s) := by
  unfold State.lanBoundary
  repeat' first
    | with_reducible assumption | with_reducible apply State.takePlace_frame | with_reducible apply State.setLaneState_frame
    | with_reducible apply State.fenceUnit_frame | (with_reducible apply foldOver_frame; intro a t ht)
    | with_reducible apply r_LAN_LANE_EQ | with_reducible apply r_LAN_LANE_STATE
    | (extract_lets +onlyGivenNames x; refine Fr.cut (D := D) (W := W) (K := K) (s0 := s0) (x := x) ?_ ?_; (on_goal 1 => dsimp -zeta only [x]); (on_goal 2 => intro hx; clear_value x))
    | (extract_lets +onlyGivenNames y) | (intro v w hv) | (intro v hv)

theorem State.startLanes_frame (s : State) (r_CAL_CULLET : W CAL_CULLET) (r_LAN_LANE_EQ : ∀ i, W (LAN_LANE_EQ i))
    (r_LAN_LANE_STATE : ∀ i, W (LAN_LANE_STATE i)) (r_LAN_STATUS : W LAN_STATUS) (k_lan : K .lan) (h_s : Fr D W K s0 s)
    : Fr D W K s0 (State.startLanes s) := by
  unfold State.startLanes
  repeat' first
    | with_reducible assumption | with_reducible apply Fr.ite | with_reducible apply State.put_frame
    | with_reducible apply State.setLaneState_frame | with_reducible apply State.trainLane_frame
    | (with_reducible apply foldOver_frame; intro a t ht) | with_reducible apply r_LAN_LANE_EQ
    | with_reducible apply r_LAN_LANE_STATE
    | (extract_lets +onlyGivenNames x; refine Fr.cut (D := D) (W := W) (K := K) (s0 := s0) (x := x) ?_ ?_; (on_goal 1 => dsimp -zeta only [x]); (on_goal 2 => intro hx; clear_value x))
    | (extract_lets +onlyGivenNames y) | split | (intro v w hv) | (intro v hv)

theorem State.applyPortCfg_frame (s : State) (r_APT_PORT_CFG : ∀ i, W (APT_PORT_CFG i))
    (r_APT_PORT_STATE : ∀ i, W (APT_PORT_STATE i)) (h_s : Fr D W K s0 s) : Fr D W K s0 (State.applyPortCfg s) := by
  unfold State.applyPortCfg
  repeat' first
    | with_reducible assumption | with_reducible apply Fr.ite | with_reducible apply State.wrN_frame
    | with_reducible apply State.put_frame | with_reducible apply State.putB_frame
    | (with_reducible apply foldOver_frame; intro a t ht) | with_reducible apply r_APT_PORT_CFG
    | with_reducible apply r_APT_PORT_STATE
    | (extract_lets +onlyGivenNames x; refine Fr.cut (D := D) (W := W) (K := K) (s0 := s0) (x := x) ?_ ?_; (on_goal 1 => dsimp -zeta only [x]); (on_goal 2 => intro hx; clear_value x))
    | (extract_lets +onlyGivenNames y) | split | (intro v w hv) | (intro v hv)

theorem State.setPort_frame (s : State) (p : Nat) (x : PortSt) (k_apt : K .apt) (h_s : Fr D W K s0 s)
    : Fr D W K s0 (State.setPort s p x) := by
  unfold State.setPort
  repeat' first
    | with_reducible assumption | (simp -zeta (disch := first | assumption | exact rfl) only [↓Fr.setApt])
    | (extract_lets +onlyGivenNames x; refine Fr.cut (D := D) (W := W) (K := K) (s0 := s0) (x := x) ?_ ?_; (on_goal 1 => dsimp -zeta only [x]); (on_goal 2 => intro hx; clear_value x))
    | (extract_lets +onlyGivenNames y)

theorem State.showApt_frame (s : State) (r_APT_STATUS : W APT_STATUS) (h_s : Fr D W K s0 s)
    : Fr D W K s0 (State.showApt s) := by
  unfold State.showApt
  repeat' first
    | with_reducible assumption | with_reducible apply State.put_frame | (intro v w hv) | (intro v hv)

theorem State.enterPort_frame (s : State) (p st : Nat) (r_APT_PORT_STATE : W (APT_PORT_STATE p)) (r_APT_STATUS : W APT_STATUS)
    (k_apt : K .apt) (h_s : Fr D W K s0 s) : Fr D W K s0 (State.enterPort s p st) := by
  unfold State.enterPort
  repeat' first
    | with_reducible assumption | with_reducible apply State.setPort_frame | with_reducible apply State.put_frame
    | with_reducible apply State.showApt_frame
    | (extract_lets +onlyGivenNames x; refine Fr.cut (D := D) (W := W) (K := K) (s0 := s0) (x := x) ?_ ?_; (on_goal 1 => dsimp -zeta only [x]); (on_goal 2 => intro hx; clear_value x))
    | (extract_lets +onlyGivenNames y)

theorem State.idlePort_frame (s : State) (p : Nat) (r_CAL_CULLET : W CAL_CULLET)
    (r_LAN_LANE_STATE : ∀ i, W (LAN_LANE_STATE i)) (r_LAN_STATUS : W LAN_STATUS) (k_lan : K .lan) (h_s : Fr D W K s0 s)
    : Fr D W K s0 (State.idlePort s p) := by
  unfold State.idlePort
  repeat' first
    | with_reducible assumption | with_reducible apply State.setLaneState_frame
    | (with_reducible apply foldOver_frame; intro a t ht) | with_reducible apply r_LAN_LANE_STATE | (intro v w hv)
    | (intro v hv)

theorem State.trainPort_frame (s : State) (p : Nat) (fromPreset : Bool) (r_CAL_CULLET : W CAL_CULLET)
    (r_LAN_LANE_EQ : ∀ i, W (LAN_LANE_EQ i)) (r_LAN_LANE_STATE : ∀ i, W (LAN_LANE_STATE i)) (r_LAN_STATUS : W LAN_STATUS)
    (k_lan : K .lan) (h_s : Fr D W K s0 s) : Fr D W K s0 (State.trainPort s p fromPreset) := by
  unfold State.trainPort
  repeat' first
    | with_reducible assumption | (with_reducible apply foldOver_frame; intro a t ht)
    | with_reducible apply State.trainLane_frame | with_reducible apply r_LAN_LANE_EQ
    | with_reducible apply r_LAN_LANE_STATE
    | (extract_lets +onlyGivenNames x; refine Fr.cut (D := D) (W := W) (K := K) (s0 := s0) (x := x) ?_ ?_; (on_goal 1 => dsimp -zeta only [x]); (on_goal 2 => intro hx; clear_value x))
    | (extract_lets +onlyGivenNames y) | split | (clear_value y; split) | (intro v w hv) | (intro v hv)

theorem State.portFault_frame (s : State) (p code : Nat) (hE : Ev W K) (r_APT_PORT_STATE : W (APT_PORT_STATE p))
    (r_APT_STATUS : W APT_STATUS) (r_CAL_CULLET : W CAL_CULLET) (r_LAN_LANE_STATE : ∀ i, W (LAN_LANE_STATE i))
    (r_LAN_STATUS : W LAN_STATUS) (k_apt : K .apt) (k_lan : K .lan) (h_s : Fr D W K s0 s)
    : Fr D W K s0 (State.portFault s p code) := by
  unfold State.portFault
  repeat' first
    | with_reducible assumption | with_reducible apply State.enterPort_frame | with_reducible apply State.put_frame
    | with_reducible apply State.idlePort_frame | with_reducible apply State.raise_frame
    | with_reducible apply r_LAN_LANE_STATE

theorem State.linkFailure_frame (s : State) (p : Nat) (r_APT_PORT_STATE : W (APT_PORT_STATE p)) (r_APT_STATUS : W APT_STATUS)
    (r_CAL_CULLET : W CAL_CULLET) (r_LAN_LANE_EQ : ∀ i, W (LAN_LANE_EQ i)) (r_LAN_LANE_STATE : ∀ i, W (LAN_LANE_STATE i))
    (r_LAN_STATUS : W LAN_STATUS) (k_apt : K .apt) (k_lan : K .lan) (h_s : Fr D W K s0 s)
    : Fr D W K s0 (State.linkFailure s p) := by
  unfold State.linkFailure
  repeat' first
    | with_reducible assumption | with_reducible apply Fr.ite | with_reducible apply State.enterPort_frame
    | with_reducible apply State.trainPort_frame | with_reducible apply r_LAN_LANE_EQ | with_reducible apply r_LAN_LANE_STATE
    | split

theorem State.queueWords_frame (s : State) (l : Nat) (words : List Nat) (k_lan : K .lan) (h_s : Fr D W K s0 s)
    : Fr D W K s0 (State.queueWords s l words) := by
  unfold State.queueWords
  repeat' first
    | with_reducible assumption | with_reducible apply State.setLane_frame
    | (extract_lets +onlyGivenNames x; refine Fr.cut (D := D) (W := W) (K := K) (s0 := s0) (x := x) ?_ ?_; (on_goal 1 => dsimp -zeta only [x]); (on_goal 2 => intro hx; clear_value x))
    | (extract_lets +onlyGivenNames y)

theorem State.command_frame (s : State) (p op fields : Nat) (extra : List Nat) (k_out : K .out) (k_lan : K .lan)
    (h_s : Fr D W K s0 s) : Fr D W K s0 (State.command s p op fields extra) := by
  unfold State.command
  repeat' first
    | with_reducible assumption | with_reducible apply State.queueWords_frame | with_reducible apply State.send_frame
    | (extract_lets +onlyGivenNames x; refine Fr.cut (D := D) (W := W) (K := K) (s0 := s0) (x := x) ?_ ?_; (on_goal 1 => dsimp -zeta only [x]); (on_goal 2 => intro hx; clear_value x))
    | (extract_lets +onlyGivenNames y) | split | (clear_value y; split)

theorem State.timedCommand_frame (s : State) (p op fields steps : Nat) (extra : List Nat) (k_out : K .out) (k_lan : K .lan)
    (h_s : Fr D W K s0 s) : Fr D W K s0 (State.timedCommand s p op fields steps extra) := by
  unfold State.timedCommand
  repeat' first
    | with_reducible assumption | with_reducible apply State.command_frame
    | (extract_lets +onlyGivenNames x; refine Fr.cut (D := D) (W := W) (K := K) (s0 := s0) (x := x) ?_ ?_; (on_goal 1 => dsimp -zeta only [x]); (on_goal 2 => intro hx; clear_value x))
    | (extract_lets +onlyGivenNames y) | split

theorem State.parkPort_frame (s : State) (p : Nat) (k_out : K .out) (k_apt : K .apt) (k_lan : K .lan)
    (h_s : Fr D W K s0 s) : Fr D W K s0 (State.parkPort s p) := by
  unfold State.parkPort
  repeat' first
    | with_reducible assumption | (simp -zeta (disch := first | assumption | exact rfl) only [↓Fr.setApt])
    | with_reducible apply Fr.ite | (with_reducible apply foldOver_frame; intro a t ht)
    | with_reducible apply State.setLane_frame | with_reducible apply State.command_frame
    | with_reducible apply State.setPort_frame
    | (extract_lets +onlyGivenNames x; refine Fr.cut (D := D) (W := W) (K := K) (s0 := s0) (x := x) ?_ ?_; (on_goal 1 => dsimp -zeta only [x]); (on_goal 2 => intro hx; clear_value x))
    | (extract_lets +onlyGivenNames y) | split | (clear_value y; split) | (intro v w hv) | (intro v hv)

theorem State.parkAll_frame (s : State) (k_out : K .out) (k_apt : K .apt) (k_lan : K .lan) (h_s : Fr D W K s0 s)
    : Fr D W K s0 (State.parkAll s) := by
  unfold State.parkAll
  repeat' first
    | with_reducible assumption | with_reducible apply State.parkPort_frame
    | (with_reducible apply foldOver_frame; intro a t ht) | (intro v w hv) | (intro v hv)

theorem State.streamHdr_frame (s : State) (p lfn : Nat) (k_out : K .out) (k_lan : K .lan) (h_s : Fr D W K s0 s)
    : Fr D W K s0 (State.streamHdr s p lfn) := by
  unfold State.streamHdr
  repeat' first
    | with_reducible assumption | with_reducible apply Fr.ite | with_reducible apply State.queueWords_frame
    | with_reducible apply State.command_frame
    | (extract_lets +onlyGivenNames x; refine Fr.cut (D := D) (W := W) (K := K) (s0 := s0) (x := x) ?_ ?_; (on_goal 1 => dsimp -zeta only [x]); (on_goal 2 => intro hx; clear_value x))
    | (extract_lets +onlyGivenNames y) | split | (clear_value y; split)

theorem State.beat_frame (s : State) (p : Nat) (k_out : K .out) (k_apt : K .apt) (k_lan : K .lan) (h_s : Fr D W K s0 s)
    : Fr D W K s0 (State.beat s p) := by
  unfold State.beat
  repeat' first
    | with_reducible assumption | with_reducible apply State.streamHdr_frame
    | with_reducible apply State.timedCommand_frame | with_reducible apply State.setPort_frame
    | (extract_lets +onlyGivenNames x; refine Fr.cut (D := D) (W := W) (K := K) (s0 := s0) (x := x) ?_ ?_; (on_goal 1 => dsimp -zeta only [x]); (on_goal 2 => intro hx; clear_value x))
    | (extract_lets +onlyGivenNames y) | split | (clear_value y; split) | (intro v w hv) | (intro v hv)

theorem State.statusReq_frame (s : State) (p reports : Nat) (k_out : K .out) (k_lan : K .lan) (h_s : Fr D W K s0 s)
    : Fr D W K s0 (State.statusReq s p reports) := by
  unfold State.statusReq
  repeat' first
    | with_reducible assumption | with_reducible apply State.command_frame

theorem State.loadRange_frame (s : State) (content : Tbl Nat) (o p set plane b0 b1 : Nat) (store : Option Nat)
    (k_out : K .out) (k_lan : K .lan) (h_s : Fr D W K s0 s)
    : Fr D W K s0 (State.loadRange s content o p set plane b0 b1 store) := by
  unfold State.loadRange
  repeat' first
    | with_reducible assumption | with_reducible apply Fr.ite | with_reducible apply State.queueWords_frame
    | with_reducible apply State.send_frame | (with_reducible apply foldOver_frame; intro a t ht)
    | (extract_lets +onlyGivenNames x; refine Fr.cut (D := D) (W := W) (K := K) (s0 := s0) (x := x) ?_ ?_; (on_goal 1 => dsimp -zeta only [x]); (on_goal 2 => intro hx; clear_value x))
    | (extract_lets +onlyGivenNames y) | split | (intro v w hv) | (intro v hv) | (clear_value y; split)

theorem State.loadBlocks_frame (s : State) (content : Tbl Nat) (o set plane mask : Nat) (k_out : K .out) (k_lan : K .lan)
    (h_s : Fr D W K s0 s) : Fr D W K s0 (State.loadBlocks s content o set plane mask) := by
  unfold State.loadBlocks
  repeat' first
    | with_reducible assumption | with_reducible apply State.loadRange_frame
    | (with_reducible apply foldOver_frame; intro a t ht) | (intro v w hv) | (intro v hv)

theorem State.refillMisses_frame (s : State) (o set plane mask done : Nat) (hE : Ev W K)
    (r_PLN_OUT_STATUS : W (PLN_OUT_STATUS o)) (h_s : Fr D W K s0 s)
    : Fr D W K s0 (State.refillMisses s o set plane mask done) := by
  unfold State.refillMisses
  repeat' first
    | with_reducible assumption | with_reducible apply Fr.ite | (with_reducible apply foldOver_frame; intro a t ht)
    | with_reducible apply State.inc_frame | with_reducible apply State.raise_frame
    | (extract_lets +onlyGivenNames x; refine Fr.cut (D := D) (W := W) (K := K) (s0 := s0) (x := x) ?_ ?_; (on_goal 1 => dsimp -zeta only [x]); (on_goal 2 => intro hx; clear_value x))
    | (extract_lets +onlyGivenNames y) | split | (clear_value y; split) | (intro v w hv) | (intro v hv)

theorem State.substitute_frame (s : State) (o slot lfn plane mask at_ wave : Nat) (hE : Ev W K)
    (r_APT_PORT_DARKS : ∀ i, W (APT_PORT_DARKS i)) (r_APT_PORT_HOLDS : ∀ i, W (APT_PORT_HOLDS i)) (k_out : K .out)
    (k_apt : K .apt) (k_lan : K .lan) (h_s : Fr D W K s0 s)
    : Fr D W K s0 (State.substitute s o slot lfn plane mask at_ wave) := by
  unfold State.substitute
  repeat' first
    | with_reducible assumption | (simp -zeta (disch := first | assumption | exact rfl) only [↓Fr.setApt])
    | with_reducible apply Fr.ite | with_reducible apply State.timedCommand_frame | with_reducible apply State.inc_frame
    | with_reducible apply State.raise_frame | (with_reducible apply foldOver_frame; intro a t ht)
    | with_reducible apply r_APT_PORT_DARKS | with_reducible apply r_APT_PORT_HOLDS
    | (extract_lets +onlyGivenNames x; refine Fr.cut (D := D) (W := W) (K := K) (s0 := s0) (x := x) ?_ ?_; (on_goal 1 => dsimp -zeta only [x]); (on_goal 2 => intro hx; clear_value x))
    | (extract_lets +onlyGivenNames y) | split | (intro v w hv) | (intro v hv) | (clear_value y; split)

theorem doLoadDeadline_frame (dt o slot lfn te done : Nat) (s : State) (hE : Ev W K)
    (r_APT_PORT_DARKS : ∀ i, W (APT_PORT_DARKS i)) (r_APT_PORT_HOLDS : ∀ i, W (APT_PORT_HOLDS i))
    (r_APT_PORT_STATE : ∀ i, W (APT_PORT_STATE i)) (r_PLN_OUT_STATUS : W (PLN_OUT_STATUS o)) (k_out : K .out)
    (k_pln : K .pln) (k_apt : K .apt) (k_lan : K .lan) (h_s : Fr D W K s0 s)
    : Fr D W K s0 (doLoadDeadline dt o slot lfn te done s) := by
  unfold doLoadDeadline
  repeat' first
    | with_reducible assumption | (simp -zeta (disch := first | assumption | exact rfl) only [↓Fr.setApt, ↓Fr.setPlnApt])
    | with_reducible apply Fr.ite | (with_reducible apply foldOver_frame; intro a t ht)
    | with_reducible apply State.tick_frame | with_reducible apply State.onLiveIf_frame
    | with_reducible apply State.putB_frame | with_reducible apply State.timedCommand_frame
    | with_reducible apply State.substitute_frame | with_reducible apply State.refillMisses_frame
    | with_reducible apply r_APT_PORT_DARKS | with_reducible apply r_APT_PORT_HOLDS
    | with_reducible apply r_APT_PORT_STATE
    | (extract_lets +onlyGivenNames x; refine Fr.cut (D := D) (W := W) (K := K) (s0 := s0) (x := x) ?_ ?_; (on_goal 1 => dsimp -zeta only [x]); (on_goal 2 => intro hx; clear_value x))
    | (extract_lets +onlyGivenNames y) | split | (clear_value y; split) | (intro v w hv) | (intro v hv)

theorem doMirrorReset_frame (dt o slot : Nat) (s : State) (k_seq : K .seq) (k_apt : K .apt) (h_s : Fr D W K s0 s)
    : Fr D W K s0 (doMirrorReset dt o slot s) := by
  unfold doMirrorReset
  repeat' first
    | with_reducible assumption | (simp -zeta (disch := first | assumption | exact rfl) only [↓Fr.setApt])
    | with_reducible apply State.tick_frame | with_reducible apply State.onLiveIf_frame
    | with_reducible apply State.takeEvent_frame
    | (extract_lets +onlyGivenNames x; refine Fr.cut (D := D) (W := W) (K := K) (s0 := s0) (x := x) ?_ ?_; (on_goal 1 => dsimp -zeta only [x]); (on_goal 2 => intro hx; clear_value x))
    | (extract_lets +onlyGivenNames y) | (intro v w hv) | (intro v hv)

theorem State.reported_frame (s : State) (p : Nat) (r_APT_PORT_STATE : W (APT_PORT_STATE p)) (k_apt : K .apt)
    (h_s : Fr D W K s0 s) : Fr D W K s0 (State.reported s p) := by
  unfold State.reported
  repeat' first
    | with_reducible assumption | with_reducible apply State.setPort_frame | with_reducible apply State.put_frame
    | (extract_lets +onlyGivenNames x; refine Fr.cut (D := D) (W := W) (K := K) (s0 := s0) (x := x) ?_ ?_; (on_goal 1 => dsimp -zeta only [x]); (on_goal 2 => intro hx; clear_value x))
    | (extract_lets +onlyGivenNames y)

theorem State.sendReplay_frame (s : State) (o band : Nat) (k_out : K .out) (k_lan : K .lan) (h_s : Fr D W K s0 s)
    : Fr D W K s0 (State.sendReplay s o band) := by
  unfold State.sendReplay
  repeat' first
    | with_reducible assumption | with_reducible apply Fr.ite | with_reducible apply State.command_frame
    | (with_reducible apply foldOver_frame; intro a t ht)
    | (extract_lets +onlyGivenNames x; refine Fr.cut (D := D) (W := W) (K := K) (s0 := s0) (x := x) ?_ ?_; (on_goal 1 => dsimp -zeta only [x]); (on_goal 2 => intro hx; clear_value x))
    | (extract_lets +onlyGivenNames y) | split | (intro v w hv) | (intro v hv) | (clear_value y; split)

theorem doBcTemp_frame (dt p band : Nat) (temp : Nat) (s : State) (r_APT_PORT_STATE : W (APT_PORT_STATE p))
    (r_APT_PORT_TEMP : W (APT_PORT_TEMP p)) (k_out : K .out) (k_apt : K .apt) (k_lan : K .lan) (h_s : Fr D W K s0 s)
    : Fr D W K s0 (doBcTemp dt p band temp s) := by
  unfold doBcTemp
  repeat' first
    | with_reducible assumption | with_reducible apply Fr.ite | with_reducible apply State.tick_frame
    | with_reducible apply State.onLiveIf_frame | with_reducible apply State.reported_frame
    | with_reducible apply State.setPort_frame | with_reducible apply State.put_frame
    | with_reducible apply State.sendReplay_frame
    | (extract_lets +onlyGivenNames x; refine Fr.cut (D := D) (W := W) (K := K) (s0 := s0) (x := x) ?_ ?_; (on_goal 1 => dsimp -zeta only [x]); (on_goal 2 => intro hx; clear_value x))
    | (extract_lets +onlyGivenNames y) | split | (intro v w hv) | (intro v hv)

theorem doBcTe_frame (dt p : Nat) (open_ : Bool) (s : State) (r_APT_PORT_STATE : W (APT_PORT_STATE p)) (k_apt : K .apt)
    (h_s : Fr D W K s0 s) : Fr D W K s0 (doBcTe dt p open_ s) := by
  unfold doBcTe
  repeat' first
    | with_reducible assumption | with_reducible apply Fr.ite | with_reducible apply State.tick_frame
    | with_reducible apply State.onLiveIf_frame | with_reducible apply State.reported_frame
    | with_reducible apply State.putB_frame
    | (extract_lets +onlyGivenNames x; refine Fr.cut (D := D) (W := W) (K := K) (s0 := s0) (x := x) ?_ ?_; (on_goal 1 => dsimp -zeta only [x]); (on_goal 2 => intro hx; clear_value x))
    | (extract_lets +onlyGivenNames y) | split | (intro v w hv) | (intro v hv)

theorem doBcError_frame (dt p code block : Nat) (s : State) (hE : Ev W K) (r_APT_PORT_ARRAY_ERR : W (APT_PORT_ARRAY_ERR p))
    (r_APT_PORT_STATE : W (APT_PORT_STATE p)) (k_apt : K .apt) (h_s : Fr D W K s0 s)
    : Fr D W K s0 (doBcError dt p code block s) := by
  unfold doBcError
  repeat' first
    | with_reducible assumption | with_reducible apply State.tick_frame | with_reducible apply State.onLiveIf_frame
    | with_reducible apply State.reported_frame | with_reducible apply State.put_frame | with_reducible apply State.inc_frame
    | with_reducible apply State.raise_frame
    | (extract_lets +onlyGivenNames x; refine Fr.cut (D := D) (W := W) (K := K) (s0 := s0) (x := x) ?_ ?_; (on_goal 1 => dsimp -zeta only [x]); (on_goal 2 => intro hx; clear_value x))
    | (extract_lets +onlyGivenNames y) | (intro v w hv) | (intro v hv)

theorem doBcHealth_frame (dt p stuck : Nat) (s : State) (hE : Ev W K) (r_APT_PORT_HEALTH : W (APT_PORT_HEALTH p))
    (r_APT_PORT_STATE : W (APT_PORT_STATE p)) (k_apt : K .apt) (h_s : Fr D W K s0 s)
    : Fr D W K s0 (doBcHealth dt p stuck s) := by
  unfold doBcHealth
  repeat' first
    | with_reducible assumption | with_reducible apply Fr.ite | with_reducible apply State.tick_frame
    | with_reducible apply State.onLiveIf_frame | with_reducible apply State.reported_frame
    | with_reducible apply State.put_frame | with_reducible apply State.raise_frame
    | (extract_lets +onlyGivenNames x; refine Fr.cut (D := D) (W := W) (K := K) (s0 := s0) (x := x) ?_ ?_; (on_goal 1 => dsimp -zeta only [x]); (on_goal 2 => intro hx; clear_value x))
    | (extract_lets +onlyGivenNames y) | split | (intro v w hv) | (intro v hv)

theorem doBcStatus_frame (dt p vendor model firmware rows cols : Nat) (s : State) (hE : Ev W K)
    (r_APT_PORT_IDENT_HI : W (APT_PORT_IDENT_HI p)) (r_APT_PORT_IDENT_LO : W (APT_PORT_IDENT_LO p))
    (r_APT_PORT_STATE : W (APT_PORT_STATE p)) (r_APT_STATUS : W APT_STATUS) (r_CAL_CULLET : W CAL_CULLET)
    (r_LAN_LANE_STATE : ∀ i, W (LAN_LANE_STATE i)) (r_LAN_STATUS : W LAN_STATUS) (k_apt : K .apt) (k_lan : K .lan)
    (h_s : Fr D W K s0 s) : Fr D W K s0 (doBcStatus dt p vendor model firmware rows cols s) := by
  unfold doBcStatus
  repeat' first
    | with_reducible assumption | with_reducible apply Fr.ite | with_reducible apply State.tick_frame
    | with_reducible apply State.onLiveIf_frame | with_reducible apply State.reported_frame
    | with_reducible apply State.put_frame | with_reducible apply State.setPort_frame
    | with_reducible apply State.portFault_frame | with_reducible apply r_LAN_LANE_STATE
    | (extract_lets +onlyGivenNames x; refine Fr.cut (D := D) (W := W) (K := K) (s0 := s0) (x := x) ?_ ?_; (on_goal 1 => dsimp -zeta only [x]); (on_goal 2 => intro hx; clear_value x))
    | (extract_lets +onlyGivenNames y) | split | (intro v w hv) | (intro v hv)

theorem doBcEcho_frame (dt p roundPs : Nat) (s : State) (r_APT_PORT_DELAY : W (APT_PORT_DELAY p))
    (r_APT_PORT_STATE : W (APT_PORT_STATE p)) (k_apt : K .apt) (h_s : Fr D W K s0 s)
    : Fr D W K s0 (doBcEcho dt p roundPs s) := by
  unfold doBcEcho
  repeat' first
    | with_reducible assumption | with_reducible apply State.tick_frame | with_reducible apply State.onLiveIf_frame
    | with_reducible apply State.reported_frame | with_reducible apply State.setPort_frame
    | with_reducible apply State.putSat_frame
    | (extract_lets +onlyGivenNames x; refine Fr.cut (D := D) (W := W) (K := K) (s0 := s0) (x := x) ?_ ?_; (on_goal 1 => dsimp -zeta only [x]); (on_goal 2 => intro hx; clear_value x))
    | (extract_lets +onlyGivenNames y) | (intro v w hv) | (intro v hv)

theorem doBcEpoch_frame (dt p highest : Nat) (s : State) (hE : Ev W K) (r_APT_PORT_EPOCH : W (APT_PORT_EPOCH p))
    (r_APT_PORT_STATE : W (APT_PORT_STATE p)) (r_APT_STATUS : W APT_STATUS) (k_apt : K .apt) (h_s : Fr D W K s0 s)
    : Fr D W K s0 (doBcEpoch dt p highest s) := by
  unfold doBcEpoch
  repeat' first
    | with_reducible assumption | with_reducible apply Fr.ite | with_reducible apply State.tick_frame
    | with_reducible apply State.onLiveIf_frame | with_reducible apply State.reported_frame
    | with_reducible apply State.put_frame | with_reducible apply State.putB_frame | with_reducible apply State.showApt_frame
    | with_reducible apply State.raise_frame
    | (extract_lets +onlyGivenNames x; refine Fr.cut (D := D) (W := W) (K := K) (s0 := s0) (x := x) ?_ ?_; (on_goal 1 => dsimp -zeta only [x]); (on_goal 2 => intro hx; clear_value x))
    | (extract_lets +onlyGivenNames y) | split | (intro v w hv) | (intro v hv)

theorem doBcLost_frame (dt p : Nat) (s : State) (hE : Ev W K) (r_APT_PORT_STATE : W (APT_PORT_STATE p)) (h_s : Fr D W K s0 s)
    : Fr D W K s0 (doBcLost dt p s) := by
  unfold doBcLost
  repeat' first
    | with_reducible assumption | with_reducible apply State.tick_frame | with_reducible apply State.onLiveIf_frame
    | with_reducible apply State.put_frame | with_reducible apply State.raise_frame
    | (extract_lets +onlyGivenNames x; refine Fr.cut (D := D) (W := W) (K := K) (s0 := s0) (x := x) ?_ ?_; (on_goal 1 => dsimp -zeta only [x]); (on_goal 2 => intro hx; clear_value x))
    | (extract_lets +onlyGivenNames y) | (intro v w hv) | (intro v hv)

theorem State.tryAlign_frame (s : State) (p : Nat) (k_out : K .out) (k_apt : K .apt) (k_lan : K .lan) (h_s : Fr D W K s0 s)
    : Fr D W K s0 (State.tryAlign s p) := by
  unfold State.tryAlign
  repeat' first
    | with_reducible assumption | with_reducible apply Fr.ite | with_reducible apply State.setPort_frame
    | with_reducible apply State.beat_frame | with_reducible apply State.statusReq_frame
    | (extract_lets +onlyGivenNames x; refine Fr.cut (D := D) (W := W) (K := K) (s0 := s0) (x := x) ?_ ?_; (on_goal 1 => dsimp -zeta only [x]); (on_goal 2 => intro hx; clear_value x))
    | (extract_lets +onlyGivenNames y) | split

theorem doPortTrained_frame (dt p : Nat) (s : State) (r_APT_PORT_STATE : W (APT_PORT_STATE p)) (r_APT_STATUS : W APT_STATUS)
    (k_out : K .out) (k_apt : K .apt) (k_lan : K .lan) (h_s : Fr D W K s0 s) : Fr D W K s0 (doPortTrained dt p s) := by
  unfold doPortTrained
  repeat' first
    | with_reducible assumption | with_reducible apply State.tick_frame | with_reducible apply State.onLiveIf_frame
    | with_reducible apply State.enterPort_frame | with_reducible apply State.setPort_frame
    | with_reducible apply State.tryAlign_frame
    | (extract_lets +onlyGivenNames x; refine Fr.cut (D := D) (W := W) (K := K) (s0 := s0) (x := x) ?_ ?_; (on_goal 1 => dsimp -zeta only [x]); (on_goal 2 => intro hx; clear_value x))
    | (extract_lets +onlyGivenNames y) | (intro v w hv) | (intro v hv)

theorem doPortAligned_frame (dt p : Nat) (s : State) (r_APT_PORT_DELAY : ∀ i, W (APT_PORT_DELAY i))
    (r_APT_PORT_STATE : ∀ i, W (APT_PORT_STATE i)) (r_APT_STATUS : W APT_STATUS) (k_out : K .out) (k_apt : K .apt)
    (k_lan : K .lan) (h_s : Fr D W K s0 s) : Fr D W K s0 (doPortAligned dt p s) := by
  unfold doPortAligned
  repeat' first
    | with_reducible assumption | with_reducible apply Fr.ite | with_reducible apply State.tick_frame
    | with_reducible apply State.onLiveIf_frame | with_reducible apply State.putSat_frame
    | with_reducible apply State.enterPort_frame | with_reducible apply State.command_frame
    | with_reducible apply State.setPort_frame | with_reducible apply r_APT_PORT_DELAY | with_reducible apply r_APT_PORT_STATE
    | (extract_lets +onlyGivenNames x; refine Fr.cut (D := D) (W := W) (K := K) (s0 := s0) (x := x) ?_ ?_; (on_goal 1 => dsimp -zeta only [x]); (on_goal 2 => intro hx; clear_value x))
    | (extract_lets +onlyGivenNames y) | split | (intro v w hv) | (intro v hv)

theorem doPortTrainTimeout_frame (dt p : Nat) (s : State) (hE : Ev W K) (r_APT_PORT_STATE : W (APT_PORT_STATE p))
    (r_APT_STATUS : W APT_STATUS) (r_CAL_CULLET : W CAL_CULLET) (r_LAN_LANE_STATE : ∀ i, W (LAN_LANE_STATE i))
    (r_LAN_STATUS : W LAN_STATUS) (k_out : K .out) (k_apt : K .apt) (k_lan : K .lan) (h_s : Fr D W K s0 s)
    : Fr D W K s0 (doPortTrainTimeout dt p s) := by
  unfold doPortTrainTimeout
  repeat' first
    | with_reducible assumption | with_reducible apply Fr.ite | with_reducible apply State.tick_frame
    | with_reducible apply State.onLiveIf_frame | with_reducible apply State.portFault_frame
    | with_reducible apply State.setPort_frame | with_reducible apply State.tryAlign_frame
    | with_reducible apply r_LAN_LANE_STATE
    | (extract_lets +onlyGivenNames x; refine Fr.cut (D := D) (W := W) (K := K) (s0 := s0) (x := x) ?_ ?_; (on_goal 1 => dsimp -zeta only [x]); (on_goal 2 => intro hx; clear_value x))
    | (extract_lets +onlyGivenNames y) | split | (intro v w hv) | (intro v hv)

theorem doPortFaultRetry_frame (dt p : Nat) (s : State) (r_APT_PORT_STATE : W (APT_PORT_STATE p))
    (r_APT_STATUS : W APT_STATUS) (r_CAL_CULLET : W CAL_CULLET) (r_LAN_LANE_EQ : ∀ i, W (LAN_LANE_EQ i))
    (r_LAN_LANE_STATE : ∀ i, W (LAN_LANE_STATE i)) (r_LAN_STATUS : W LAN_STATUS) (k_apt : K .apt) (k_lan : K .lan)
    (h_s : Fr D W K s0 s) : Fr D W K s0 (doPortFaultRetry dt p s) := by
  unfold doPortFaultRetry
  repeat' first
    | with_reducible assumption | with_reducible apply State.tick_frame | with_reducible apply State.onLiveIf_frame
    | with_reducible apply State.enterPort_frame | with_reducible apply State.trainPort_frame
    | with_reducible apply r_LAN_LANE_EQ | with_reducible apply r_LAN_LANE_STATE
    | (extract_lets +onlyGivenNames x; refine Fr.cut (D := D) (W := W) (K := K) (s0 := s0) (x := x) ?_ ?_; (on_goal 1 => dsimp -zeta only [x]); (on_goal 2 => intro hx; clear_value x))
    | (extract_lets +onlyGivenNames y) | (intro v w hv) | (intro v hv)

theorem State.startPorts_frame (s : State) (r_APT_PORT_STATE : ∀ i, W (APT_PORT_STATE i)) (r_APT_STATUS : W APT_STATUS)
    (k_apt : K .apt) (h_s : Fr D W K s0 s) : Fr D W K s0 (State.startPorts s) := by
  unfold State.startPorts
  repeat' first
    | with_reducible assumption | with_reducible apply State.setPort_frame | with_reducible apply State.enterPort_frame
    | (with_reducible apply foldOver_frame; intro a t ht) | with_reducible apply r_APT_PORT_STATE | (intro v w hv)
    | (intro v hv)

theorem State.sendRetrain_frame (s : State) (p : Nat) (merged widthChange : Bool)
    (r_APT_PORT_RETRAINS : W (APT_PORT_RETRAINS p)) (k_out : K .out) (k_apt : K .apt) (k_lan : K .lan) (h_s : Fr D W K s0 s)
    : Fr D W K s0 (State.sendRetrain s p merged widthChange) := by
  unfold State.sendRetrain
  repeat' first
    | with_reducible assumption | with_reducible apply Fr.ite | with_reducible apply State.timedCommand_frame
    | with_reducible apply State.inc_frame | with_reducible apply State.setPort_frame
    | (extract_lets +onlyGivenNames x; refine Fr.cut (D := D) (W := W) (K := K) (s0 := s0) (x := x) ?_ ?_; (on_goal 1 => dsimp -zeta only [x]); (on_goal 2 => intro hx; clear_value x))
    | (extract_lets +onlyGivenNames y) | split

theorem State.decideRetrain_frame (s : State) (p : Nat) (array : Bool) (r_APT_PORT_RETRAINS : W (APT_PORT_RETRAINS p))
    (k_out : K .out) (k_apt : K .apt) (k_lan : K .lan) (h_s : Fr D W K s0 s)
    : Fr D W K s0 (State.decideRetrain s p array) := by
  unfold State.decideRetrain
  repeat' first
    | with_reducible assumption | with_reducible apply Fr.ite | with_reducible apply State.setPort_frame
    | with_reducible apply State.sendRetrain_frame
    | (extract_lets +onlyGivenNames x; refine Fr.cut (D := D) (W := W) (K := K) (s0 := s0) (x := x) ?_ ?_; (on_goal 1 => dsimp -zeta only [x]); (on_goal 2 => intro hx; clear_value x))
    | (extract_lets +onlyGivenNames y) | split | (clear_value y; split)

theorem doAptRetrainRequest_frame (dt p : Nat) (s : State) (r_APT_PORT_RETRAINS : W (APT_PORT_RETRAINS p)) (k_out : K .out)
    (k_apt : K .apt) (k_lan : K .lan) (h_s : Fr D W K s0 s) : Fr D W K s0 (doAptRetrainRequest dt p s) := by
  unfold doAptRetrainRequest
  repeat' first
    | with_reducible assumption | with_reducible apply State.tick_frame | with_reducible apply State.onReachIf_frame
    | with_reducible apply State.decideRetrain_frame
    | (extract_lets +onlyGivenNames x; refine Fr.cut (D := D) (W := W) (K := K) (s0 := s0) (x := x) ?_ ?_; (on_goal 1 => dsimp -zeta only [x]); (on_goal 2 => intro hx; clear_value x))
    | (extract_lets +onlyGivenNames y) | (intro v w hv) | (intro v hv)

theorem doAptStatusRequest_frame (dt p : Nat) (s : State) (k_out : K .out) (k_lan : K .lan) (h_s : Fr D W K s0 s)
    : Fr D W K s0 (doAptStatusRequest dt p s) := by
  unfold doAptStatusRequest
  repeat' first
    | with_reducible assumption | with_reducible apply State.tick_frame | with_reducible apply State.onReachIf_frame
    | with_reducible apply State.statusReq_frame
    | (extract_lets +onlyGivenNames x; refine Fr.cut (D := D) (W := W) (K := K) (s0 := s0) (x := x) ?_ ?_; (on_goal 1 => dsimp -zeta only [x]); (on_goal 2 => intro hx; clear_value x))
    | (extract_lets +onlyGivenNames y) | (intro v w hv) | (intro v hv)

theorem State.askNarrow_frame (s : State) (o : Nat) (r_SEQ_SCHED_STATUS : W SEQ_SCHED_STATUS) (k_seq : K .seq)
    (k_apt : K .apt) (h_s : Fr D W K s0 s) : Fr D W K s0 (State.askNarrow s o) := by
  unfold State.askNarrow
  repeat' first
    | with_reducible assumption | with_reducible apply Fr.ite | with_reducible apply State.setPort_frame
    | with_reducible apply State.askJob_frame | (with_reducible apply foldOver_frame; intro a t ht)
    | (extract_lets +onlyGivenNames x; refine Fr.cut (D := D) (W := W) (K := K) (s0 := s0) (x := x) ?_ ?_; (on_goal 1 => dsimp -zeta only [x]); (on_goal 2 => intro hx; clear_value x))
    | (extract_lets +onlyGivenNames y) | split | (intro v w hv) | (intro v hv)

theorem doBcRetrainReq_frame (dt p : Nat) (widthReq : Bool) (s : State) (r_APT_PORT_RETRAINS : W (APT_PORT_RETRAINS p))
    (r_APT_PORT_STATE : W (APT_PORT_STATE p)) (r_SEQ_SCHED_STATUS : W SEQ_SCHED_STATUS) (k_out : K .out) (k_seq : K .seq)
    (k_apt : K .apt) (k_lan : K .lan) (h_s : Fr D W K s0 s) : Fr D W K s0 (doBcRetrainReq dt p widthReq s) := by
  unfold doBcRetrainReq
  repeat' first
    | with_reducible assumption | with_reducible apply Fr.ite | with_reducible apply State.tick_frame
    | with_reducible apply State.onLiveIf_frame | with_reducible apply State.reported_frame
    | with_reducible apply State.askNarrow_frame | with_reducible apply State.decideRetrain_frame
    | (extract_lets +onlyGivenNames x; refine Fr.cut (D := D) (W := W) (K := K) (s0 := s0) (x := x) ?_ ?_; (on_goal 1 => dsimp -zeta only [x]); (on_goal 2 => intro hx; clear_value x))
    | (extract_lets +onlyGivenNames y) | split | (intro v w hv) | (intro v hv)

theorem State.narrowDone_frame (s : State) (o : Nat) (ok : Bool) (r_APT_PORT_RETRAINS : ∀ i, W (APT_PORT_RETRAINS i))
    (k_out : K .out) (k_apt : K .apt) (k_lan : K .lan) (h_s : Fr D W K s0 s) : Fr D W K s0 (State.narrowDone s o ok) := by
  unfold State.narrowDone
  repeat' first
    | with_reducible assumption | with_reducible apply Fr.ite | with_reducible apply State.decideRetrain_frame
    | with_reducible apply State.setPort_frame | (with_reducible apply foldOver_frame; intro a t ht)
    | with_reducible apply r_APT_PORT_RETRAINS
    | (extract_lets +onlyGivenNames x; refine Fr.cut (D := D) (W := W) (K := K) (s0 := s0) (x := x) ?_ ?_; (on_goal 1 => dsimp -zeta only [x]); (on_goal 2 => intro hx; clear_value x))
    | (extract_lets +onlyGivenNames y) | split | (intro v w hv) | (intro v hv)

theorem State.askWiden_frame (s : State) (o : Nat) (r_SEQ_SCHED_STATUS : W SEQ_SCHED_STATUS) (k_seq : K .seq) (k_apt : K .apt)
    (h_s : Fr D W K s0 s) : Fr D W K s0 (State.askWiden s o) := by
  unfold State.askWiden
  repeat' first
    | with_reducible assumption | with_reducible apply Fr.ite | with_reducible apply State.setPort_frame
    | with_reducible apply State.askJob_frame | (with_reducible apply foldOver_frame; intro a t ht)
    | (extract_lets +onlyGivenNames x; refine Fr.cut (D := D) (W := W) (K := K) (s0 := s0) (x := x) ?_ ?_; (on_goal 1 => dsimp -zeta only [x]); (on_goal 2 => intro hx; clear_value x))
    | (extract_lets +onlyGivenNames y) | split | (intro v w hv) | (intro v hv)

theorem State.laneLoss_frame (s : State) (k : Nat) (r_APT_PORT_STATE : ∀ i, W (APT_PORT_STATE i))
    (r_APT_STATUS : W APT_STATUS) (r_CAL_CULLET : W CAL_CULLET) (r_LAN_LANE_EQ : ∀ i, W (LAN_LANE_EQ i))
    (r_LAN_LANE_STATE : ∀ i, W (LAN_LANE_STATE i)) (r_LAN_STATUS : W LAN_STATUS) (r_SEQ_SCHED_STATUS : W SEQ_SCHED_STATUS)
    (k_seq : K .seq) (k_apt : K .apt) (k_lan : K .lan) (h_s : Fr D W K s0 s) : Fr D W K s0 (State.laneLoss s k) := by
  unfold State.laneLoss
  repeat' first
    | with_reducible assumption | with_reducible apply Fr.ite | with_reducible apply State.linkFailure_frame
    | with_reducible apply State.askNarrow_frame | with_reducible apply r_APT_PORT_STATE
    | with_reducible apply r_LAN_LANE_EQ | with_reducible apply r_LAN_LANE_STATE
    | (extract_lets +onlyGivenNames x; refine Fr.cut (D := D) (W := W) (K := K) (s0 := s0) (x := x) ?_ ?_; (on_goal 1 => dsimp -zeta only [x]); (on_goal 2 => intro hx; clear_value x))
    | (extract_lets +onlyGivenNames y) | split | (clear_value y; split) | (intro v w hv) | (intro v hv)

theorem State.remapLanes_frame (s : State) (p w : Nat) (r_CAL_CULLET : W CAL_CULLET)
    (r_LAN_LANE_STATE : ∀ i, W (LAN_LANE_STATE i)) (r_LAN_STATUS : W LAN_STATUS) (k_lan : K .lan) (h_s : Fr D W K s0 s)
    : Fr D W K s0 (State.remapLanes s p w) := by
  unfold State.remapLanes
  repeat' first
    | with_reducible assumption | with_reducible apply State.put_frame | with_reducible apply State.setLaneState_frame
    | (with_reducible apply foldOver_frame; intro a t ht) | with_reducible apply r_LAN_LANE_STATE
    | (extract_lets +onlyGivenNames x; refine Fr.cut (D := D) (W := W) (K := K) (s0 := s0) (x := x) ?_ ?_; (on_goal 1 => dsimp -zeta only [x]); (on_goal 2 => intro hx; clear_value x))
    | (extract_lets +onlyGivenNames y) | split | (intro v w hv) | (intro v hv) | (clear_value y; split)

theorem State.wholeLanes_frame (s : State) (p : Nat) (r_LAN_LANE_STATE : ∀ i, W (LAN_LANE_STATE i)) (h_s : Fr D W K s0 s)
    : Fr D W K s0 (State.wholeLanes s p) := by
  unfold State.wholeLanes
  repeat' first
    | with_reducible assumption | with_reducible apply State.put_frame | (with_reducible apply foldOver_frame; intro a t ht)
    | with_reducible apply r_LAN_LANE_STATE
    | (extract_lets +onlyGivenNames x; refine Fr.cut (D := D) (W := W) (K := K) (s0 := s0) (x := x) ?_ ?_; (on_goal 1 => dsimp -zeta only [x]); (on_goal 2 => intro hx; clear_value x))
    | (extract_lets +onlyGivenNames y) | (intro v w hv) | (intro v hv)

theorem State.startRetrain_frame (s : State) (p : Nat) (r_APT_PORT_RETRAINS : W (APT_PORT_RETRAINS p))
    (r_APT_PORT_STATE : W (APT_PORT_STATE p)) (r_APT_STATUS : W APT_STATUS) (r_CAL_CULLET : W CAL_CULLET)
    (r_LAN_LANE_EQ : ∀ i, W (LAN_LANE_EQ i)) (r_LAN_LANE_STATE : ∀ i, W (LAN_LANE_STATE i)) (r_LAN_STATUS : W LAN_STATUS)
    (k_seq : K .seq) (k_apt : K .apt) (k_lan : K .lan) (r_PLN_OUT_USED : ∀ i, W (PLN_OUT_USED i))
    (h_s : Fr D W K s0 s) : Fr D W K s0 (State.startRetrain s p) := by
  unfold State.startRetrain
  repeat' first
    | with_reducible assumption
    | with_reducible apply r_PLN_OUT_USED | (simp -zeta (disch := first | assumption | exact rfl) only [↓Fr.setSeq])
    | with_reducible apply Fr.ite | with_reducible apply State.setPort_frame | with_reducible apply State.inc_frame
    | with_reducible apply State.put_frame | with_reducible apply State.wholeLanes_frame
    | with_reducible apply State.remapLanes_frame | with_reducible apply State.install_frame
    | with_reducible apply State.enterPort_frame | with_reducible apply State.trainPort_frame
    | with_reducible apply r_LAN_LANE_EQ | with_reducible apply r_LAN_LANE_STATE
    | (extract_lets +onlyGivenNames x; refine Fr.cut (D := D) (W := W) (K := K) (s0 := s0) (x := x) ?_ ?_; (on_goal 1 => dsimp -zeta only [x]); (on_goal 2 => intro hx; clear_value x))
    | (extract_lets +onlyGivenNames y) | split | (clear_value y; split)

theorem doPortRetrainDone_frame (dt p : Nat) (s : State) (r_APT_PORT_STATE : W (APT_PORT_STATE p))
    (r_APT_STATUS : W APT_STATUS) (r_CAL_CULLET : W CAL_CULLET) (r_LAN_LANE_EQ : ∀ i, W (LAN_LANE_EQ i))
    (r_LAN_LANE_STATE : ∀ i, W (LAN_LANE_STATE i)) (r_LAN_STATUS : W LAN_STATUS) (k_apt : K .apt) (k_lan : K .lan)
    (h_s : Fr D W K s0 s) : Fr D W K s0 (doPortRetrainDone dt p s) := by
  unfold doPortRetrainDone
  repeat' first
    | with_reducible assumption | with_reducible apply Fr.ite | with_reducible apply State.tick_frame
    | with_reducible apply State.onLiveIf_frame | with_reducible apply State.enterPort_frame
    | with_reducible apply State.put_frame | with_reducible apply State.trainPort_frame | with_reducible apply r_LAN_LANE_EQ
    | with_reducible apply r_LAN_LANE_STATE
    | (extract_lets +onlyGivenNames x; refine Fr.cut (D := D) (W := W) (K := K) (s0 := s0) (x := x) ?_ ?_; (on_goal 1 => dsimp -zeta only [x]); (on_goal 2 => intro hx; clear_value x))
    | (extract_lets +onlyGivenNames y) | split | (intro v w hv) | (intro v hv)

theorem doReplayEnter_frame (dt o : Nat) (s : State) (k_out : K .out) (k_seq : K .seq) (k_lan : K .lan)
    (h_s : Fr D W K s0 s) : Fr D W K s0 (doReplayEnter dt o s) := by
  unfold doReplayEnter
  repeat' first
    | with_reducible assumption | (simp -zeta (disch := first | assumption | exact rfl) only [↓Fr.setSeq])
    | (with_reducible apply foldOver_frame; intro a t ht) | with_reducible apply State.tick_frame
    | with_reducible apply State.onLiveIf_frame | with_reducible apply State.loadRange_frame
    | with_reducible apply State.sendReplay_frame
    | (extract_lets +onlyGivenNames x; refine Fr.cut (D := D) (W := W) (K := K) (s0 := s0) (x := x) ?_ ?_; (on_goal 1 => dsimp -zeta only [x]); (on_goal 2 => intro hx; clear_value x))
    | (extract_lets +onlyGivenNames y) | split | (clear_value y; split) | (intro v w hv) | (intro v hv)

theorem State.showReplay_frame (s : State) (o : Nat) (on : Bool) (r_APT_PORT_STATE : ∀ i, W (APT_PORT_STATE i))
    (r_SEQ_OUT_SCHED : W (SEQ_OUT_SCHED o)) (h_s : Fr D W K s0 s) : Fr D W K s0 (State.showReplay s o on) := by
  unfold State.showReplay
  repeat' first
    | with_reducible assumption | with_reducible apply State.putB_frame | (with_reducible apply foldOver_frame; intro a t ht)
    | with_reducible apply r_APT_PORT_STATE | (intro v w hv) | (intro v hv)

theorem State.replayOutput_frame (s : State) (o : Nat) (r_APT_PORT_STATE : ∀ i, W (APT_PORT_STATE i))
    (r_CAL_CULLET : W CAL_CULLET) (r_LAN_LANE_STATE : ∀ i, W (LAN_LANE_STATE i)) (r_LAN_STATUS : W LAN_STATUS)
    (r_SEQ_OUT_SCHED : W (SEQ_OUT_SCHED o)) (k_out : K .out) (k_seq : K .seq) (k_lan : K .lan) (h_s : Fr D W K s0 s)
    : Fr D W K s0 (State.replayOutput s o) := by
  unfold State.replayOutput
  repeat' first
    | with_reducible assumption | (simp -zeta (disch := first | assumption | exact rfl) only [↓Fr.setSeq])
    | with_reducible apply Fr.ite | (with_reducible apply foldOver_frame; intro a t ht)
    | with_reducible apply State.showReplay_frame | with_reducible apply State.setLaneState_frame
    | with_reducible apply State.command_frame | with_reducible apply State.sendReplay_frame
    | with_reducible apply r_APT_PORT_STATE | with_reducible apply r_LAN_LANE_STATE
    | (extract_lets +onlyGivenNames x; refine Fr.cut (D := D) (W := W) (K := K) (s0 := s0) (x := x) ?_ ?_; (on_goal 1 => dsimp -zeta only [x]); (on_goal 2 => intro hx; clear_value x))
    | (extract_lets +onlyGivenNames y) | split | (clear_value y; split) | (intro v w hv) | (intro v hv)

theorem State.replayBoundary_frame (s : State) (r_APT_PORT_STATE : ∀ i, W (APT_PORT_STATE i))
    (r_CAL_CULLET : W CAL_CULLET) (r_LAN_LANE_STATE : ∀ i, W (LAN_LANE_STATE i)) (r_LAN_STATUS : W LAN_STATUS)
    (r_SEQ_OUT_SCHED : ∀ i, W (SEQ_OUT_SCHED i)) (k_out : K .out) (k_seq : K .seq) (k_lan : K .lan) (h_s : Fr D W K s0 s)
    : Fr D W K s0 (State.replayBoundary s) := by
  unfold State.replayBoundary
  repeat' first
    | with_reducible assumption | (simp -zeta (disch := first | assumption | exact rfl) only [↓Fr.setSeq])
    | (with_reducible apply foldOver_frame; intro a t ht) | with_reducible apply State.replayOutput_frame
    | with_reducible apply r_APT_PORT_STATE | with_reducible apply r_LAN_LANE_STATE | with_reducible apply r_SEQ_OUT_SCHED
    | (extract_lets +onlyGivenNames x; refine Fr.cut (D := D) (W := W) (K := K) (s0 := s0) (x := x) ?_ ?_; (on_goal 1 => dsimp -zeta only [x]); (on_goal 2 => intro hx; clear_value x))
    | (extract_lets +onlyGivenNames y) | split | (clear_value y; split) | (intro v w hv) | (intro v hv)

theorem State.portBoundary_frame (s : State) (p : Nat) (hE : Ev W K) (r_APT_PORT_RETRAINS : W (APT_PORT_RETRAINS p))
    (r_APT_PORT_STATE : W (APT_PORT_STATE p)) (r_APT_PORT_TEMP : W (APT_PORT_TEMP p)) (r_APT_STATUS : W APT_STATUS)
    (r_CAL_CULLET : W CAL_CULLET) (r_LAN_LANE_EQ : ∀ i, W (LAN_LANE_EQ i)) (r_LAN_LANE_STATE : ∀ i, W (LAN_LANE_STATE i))
    (r_LAN_STATUS : W LAN_STATUS) (r_PLN_OUT_USED : ∀ i, W (PLN_OUT_USED i)) (k_out : K .out) (k_seq : K .seq)
    (k_apt : K .apt) (k_lan : K .lan) (h_s : Fr D W K s0 s) : Fr D W K s0 (State.portBoundary s p) := by
  unfold State.portBoundary
  repeat' first
    | with_reducible assumption | with_reducible apply Fr.ite | with_reducible apply State.put_frame
    | with_reducible apply State.putSat_frame | with_reducible apply State.selectWaves_frame
    | with_reducible apply State.sendRetrain_frame | with_reducible apply State.startRetrain_frame
    | with_reducible apply State.timedCommand_frame | with_reducible apply State.setPort_frame
    | with_reducible apply State.beat_frame | with_reducible apply r_LAN_LANE_EQ | with_reducible apply r_LAN_LANE_STATE
    | with_reducible apply r_PLN_OUT_USED
    | (extract_lets +onlyGivenNames x; refine Fr.cut (D := D) (W := W) (K := K) (s0 := s0) (x := x) ?_ ?_; (on_goal 1 => dsimp -zeta only [x]); (on_goal 2 => intro hx; clear_value x))
    | (extract_lets +onlyGivenNames y) | split | (clear_value y; split) | (intro v w hv) | (intro v hv)

theorem State.aptBoundary_frame (s : State) (hE : Ev W K) (r_APT_PORT_RETRAINS : ∀ i, W (APT_PORT_RETRAINS i))
    (r_APT_PORT_STATE : ∀ i, W (APT_PORT_STATE i)) (r_APT_PORT_TEMP : ∀ i, W (APT_PORT_TEMP i)) (r_APT_STATUS : W APT_STATUS)
    (r_CAL_CULLET : W CAL_CULLET) (r_LAN_LANE_EQ : ∀ i, W (LAN_LANE_EQ i)) (r_LAN_LANE_STATE : ∀ i, W (LAN_LANE_STATE i))
    (r_LAN_STATUS : W LAN_STATUS) (k_out : K .out) (k_seq : K .seq) (k_apt : K .apt) (k_lan : K .lan) (r_PLN_OUT_USED : ∀ i, W (PLN_OUT_USED i))
    (h_s : Fr D W K s0 s)
    : Fr D W K s0 (State.aptBoundary s) := by
  unfold State.aptBoundary
  repeat' first
    | with_reducible assumption
    | with_reducible apply r_PLN_OUT_USED | (simp -zeta (disch := first | assumption | exact rfl) only [↓Fr.setApt])
    | with_reducible apply State.portBoundary_frame | (with_reducible apply foldOver_frame; intro a t ht)
    | with_reducible apply r_APT_PORT_RETRAINS | with_reducible apply r_APT_PORT_STATE | with_reducible apply r_APT_PORT_TEMP
    | with_reducible apply r_LAN_LANE_EQ | with_reducible apply r_LAN_LANE_STATE
    | (extract_lets +onlyGivenNames x; refine Fr.cut (D := D) (W := W) (K := K) (s0 := s0) (x := x) ?_ ?_; (on_goal 1 => dsimp -zeta only [x]); (on_goal 2 => intro hx; clear_value x))
    | (extract_lets +onlyGivenNames y) | (intro v w hv) | (intro v hv)

theorem State.vwrite_frame (hD : DramOk D) (s : State) (c va : Nat) (bs : List Byte) (k_out : K .out) (k_mem : K .mem)
    (h_s : Fr D W K s0 s) : ∀ t, State.vwrite s c va bs = some t → Fr D W K s0 t := by
  induction bs generalizing s va with
  | nil => intro t h; cases h; exact h_s
  | cons b r ih =>
    intro t h
    simp only [State.vwrite] at h
    split at h
    · cases h
    · split at h
      · exact ih _ _ (State.memWrite_frame hD _ _ _ k_mem h_s) t h
      · split at h
        · exact ih _ _ (State.send_frame _ _ k_out h_s) t h
        · cases h

theorem State.vwriteAll_frame (hD : DramOk D) (s : State) (c : Nat) (ws : List (Nat × List Byte))
    (k_out : K .out) (k_mem : K .mem) (h_s : Fr D W K s0 s) : Fr D W K s0 (State.vwriteAll s c ws).1 := by
  induction ws generalizing s with
  | nil => exact h_s
  | cons w r ih =>
    simp only [State.vwriteAll]
    split
    · exact h_s
    · next t ht => exact ih _ (State.vwrite_frame hD s _ _ _ k_out k_mem h_s t ht)

theorem State.setPasses_frame (s : State) (o : Nat) (l : List Pass) (k_cmp : K .cmp) (h_s : Fr D W K s0 s)
    : Fr D W K s0 (State.setPasses s o l) := by
  unfold State.setPasses
  repeat' first
    | with_reducible assumption | (simp -zeta (disch := first | assumption | exact rfl) only [↓Fr.setCmp])
    | with_reducible apply Fr.ite
    | (extract_lets +onlyGivenNames x; refine Fr.cut (D := D) (W := W) (K := K) (s0 := s0) (x := x) ?_ ?_; (on_goal 1 => dsimp -zeta only [x]); (on_goal 2 => intro hx; clear_value x))
    | (extract_lets +onlyGivenNames y) | split

theorem State.showForming_frame (s : State) (o : Nat) (r_CMP_FORMING : W CMP_FORMING)
    (r_CMP_OUT_STATUS : W (CMP_OUT_STATUS o)) (h_s : Fr D W K s0 s) : Fr D W K s0 (State.showForming s o) := by
  unfold State.showForming
  repeat' first
    | with_reducible assumption | with_reducible apply State.putB_frame | with_reducible apply State.put_frame
    | (extract_lets +onlyGivenNames x; refine Fr.cut (D := D) (W := W) (K := K) (s0 := s0) (x := x) ?_ ?_; (on_goal 1 => dsimp -zeta only [x]); (on_goal 2 => intro hx; clear_value x))
    | (extract_lets +onlyGivenNames y) | (intro v w hv) | (intro v hv)

theorem State.showDrift_frame (s : State) (o : Nat) (r_COL_STATUS : W COL_STATUS) (h_s : Fr D W K s0 s)
    : Fr D W K s0 (State.showDrift s o) := by
  unfold State.showDrift
  repeat' first
    | with_reducible assumption | with_reducible apply State.put_frame
    | (extract_lets +onlyGivenNames x; refine Fr.cut (D := D) (W := W) (K := K) (s0 := s0) (x := x) ?_ ?_; (on_goal 1 => dsimp -zeta only [x]); (on_goal 2 => intro hx; clear_value x))
    | (extract_lets +onlyGivenNames y) | (intro v w hv) | (intro v hv)

theorem State.setRect_frame (s : State) (o r : Nat) (x : RectSt) (k_int : K .int) (h_s : Fr D W K s0 s)
    : Fr D W K s0 (State.setRect s o r x) := by
  unfold State.setRect
  repeat' first
    | with_reducible assumption | (simp -zeta (disch := first | assumption | exact rfl) only [↓Fr.setInt])
    | (extract_lets +onlyGivenNames x; refine Fr.cut (D := D) (W := W) (K := K) (s0 := s0) (x := x) ?_ ?_; (on_goal 1 => dsimp -zeta only [x]); (on_goal 2 => intro hx; clear_value x))
    | (extract_lets +onlyGivenNames y)

theorem State.showRect_frame (s : State) (o r : Nat) (r_RECT1C : W (rectReg o r 0x1C)) (h_s : Fr D W K s0 s)
    : Fr D W K s0 (State.showRect s o r) := by
  unfold State.showRect
  repeat' first
    | with_reducible assumption | with_reducible apply Fr.ite | with_reducible apply State.put_frame
    | (extract_lets +onlyGivenNames x; refine Fr.cut (D := D) (W := W) (K := K) (s0 := s0) (x := x) ?_ ?_; (on_goal 1 => dsimp -zeta only [x]); (on_goal 2 => intro hx; clear_value x))
    | (extract_lets +onlyGivenNames y) | split

theorem State.latchRects_frame (s : State) (o : Nat) (k_int : K .int) (h_s : Fr D W K s0 s)
    : Fr D W K s0 (State.latchRects s o) := by
  unfold State.latchRects
  repeat' first
    | with_reducible assumption | with_reducible apply Fr.ite | with_reducible apply State.setRect_frame
    | (with_reducible apply foldOver_frame; intro a t ht)
    | (extract_lets +onlyGivenNames x; refine Fr.cut (D := D) (W := W) (K := K) (s0 := s0) (x := x) ?_ ?_; (on_goal 1 => dsimp -zeta only [x]); (on_goal 2 => intro hx; clear_value x))
    | (extract_lets +onlyGivenNames y) | split | (intro v w hv) | (intro v hv)

theorem State.rectResults_frame (s : State) (cs : List Nat) (o : Nat) (wb : Bool) (k_int : K .int) (h_s : Fr D W K s0 s)
    : Fr D W K s0 (State.rectResults s cs o wb) := by
  unfold State.rectResults
  repeat' first
    | with_reducible assumption | with_reducible apply Fr.ite | with_reducible apply State.setRect_frame
    | (with_reducible apply foldOver_frame; intro a t ht)
    | (extract_lets +onlyGivenNames x; refine Fr.cut (D := D) (W := W) (K := K) (s0 := s0) (x := x) ?_ ?_; (on_goal 1 => dsimp -zeta only [x]); (on_goal 2 => intro hx; clear_value x))
    | (extract_lets +onlyGivenNames y) | split | (intro v w hv) | (intro v hv)

theorem State.rectNoWb_frame (s : State) (o : Nat) (k_int : K .int) (h_s : Fr D W K s0 s)
    : Fr D W K s0 (State.rectNoWb s o) := by
  unfold State.rectNoWb
  repeat' first
    | with_reducible assumption | with_reducible apply State.setRect_frame
    | (with_reducible apply foldOver_frame; intro a t ht)
    | (extract_lets +onlyGivenNames x; refine Fr.cut (D := D) (W := W) (K := K) (s0 := s0) (x := x) ?_ ?_; (on_goal 1 => dsimp -zeta only [x]); (on_goal 2 => intro hx; clear_value x))
    | (extract_lets +onlyGivenNames y) | (intro v w hv) | (intro v hv)

theorem State.rectApply_frame (s : State) (o cfn : Nat) (r_RECT14 : ∀ i j, W (rectReg i j 0x14))
    (r_RECT18 : ∀ i j, W (rectReg i j 0x18)) (k_int : K .int) (h_s : Fr D W K s0 s)
    : Fr D W K s0 (State.rectApply s o cfn) := by
  unfold State.rectApply
  repeat' first
    | with_reducible assumption | with_reducible apply Fr.ite | with_reducible apply State.setRect_frame
    | with_reducible apply State.wrN_frame | (with_reducible apply foldOver_frame; intro a t ht)
    | with_reducible apply r_RECT14 | with_reducible apply r_RECT18
    | (extract_lets +onlyGivenNames x; refine Fr.cut (D := D) (W := W) (K := K) (s0 := s0) (x := x) ?_ ?_; (on_goal 1 => dsimp -zeta only [x]); (on_goal 2 => intro hx; clear_value x))
    | (extract_lets +onlyGivenNames y) | split | (intro v w hv) | (intro v hv) | (clear_value y; split)

theorem State.startPass_frame (s : State) (o : Nat) (hE : Ev W K) (r_CMP_FORMING : W CMP_FORMING)
    (r_CMP_LYR_LIVE : ∀ i, W (CMP_LYR_LIVE i)) (r_CMP_OUT_STATUS : W (CMP_OUT_STATUS o))
    (r_COL_OUT_STATUS : ∀ i, W (COL_OUT_STATUS i)) (r_COL_STATUS : W COL_STATUS)
    (r_PLN_OUT_STATUS : ∀ i, W (PLN_OUT_STATUS i)) (k_int : K .int) (k_cmp : K .cmp) (k_col : K .col)
    (h_s : Fr D W K s0 s) : Fr D W K s0 (State.startPass s o) := by
  unfold State.startPass
  repeat' first
    | with_reducible assumption | (simp -zeta (disch := first | assumption | exact rfl) only [↓Fr.setCmp])
    | with_reducible apply Fr.ite | (with_reducible apply foldOver_frame; intro a t ht)
    | with_reducible apply State.setPasses_frame | with_reducible apply State.solveOutput_frame
    | with_reducible apply State.put_frame | with_reducible apply State.inc_frame
    | with_reducible apply State.latchRects_frame | with_reducible apply State.showForming_frame
    | with_reducible apply State.showDrift_frame | with_reducible apply r_CMP_LYR_LIVE
    | with_reducible apply r_COL_OUT_STATUS | with_reducible apply r_PLN_OUT_STATUS
    | (extract_lets +onlyGivenNames x; refine Fr.cut (D := D) (W := W) (K := K) (s0 := s0) (x := x) ?_ ?_; (on_goal 1 => dsimp -zeta only [x]); (on_goal 2 => intro hx; clear_value x))
    | (extract_lets +onlyGivenNames y) | split | (clear_value y; split) | (intro v w hv) | (intro v hv)

theorem State.pump_frame (s : State) (o : Nat) (hE : Ev W K) (r_CMP_FORMING : W CMP_FORMING)
    (r_CMP_LYR_LIVE : ∀ i, W (CMP_LYR_LIVE i)) (r_CMP_OUT_STATUS : W (CMP_OUT_STATUS o))
    (r_COL_OUT_STATUS : ∀ i, W (COL_OUT_STATUS i)) (r_COL_STATUS : W COL_STATUS)
    (r_PLN_OUT_STATUS : ∀ i, W (PLN_OUT_STATUS i)) (k_int : K .int) (k_cmp : K .cmp) (k_col : K .col)
    (h_s : Fr D W K s0 s) : Fr D W K s0 (State.pump s o) := by
  unfold State.pump
  repeat' first
    | with_reducible assumption | with_reducible apply Fr.ite | with_reducible apply State.startPass_frame
    | with_reducible apply State.setPasses_frame | with_reducible apply r_CMP_LYR_LIVE
    | with_reducible apply r_COL_OUT_STATUS | with_reducible apply r_PLN_OUT_STATUS
    | (extract_lets +onlyGivenNames x; refine Fr.cut (D := D) (W := W) (K := K) (s0 := s0) (x := x) ?_ ?_; (on_goal 1 => dsimp -zeta only [x]); (on_goal 2 => intro hx; clear_value x))
    | (extract_lets +onlyGivenNames y) | split | (clear_value y; split) | (intro v w hv) | (intro v hv)

theorem State.askPass_frame (s : State) (kind : PassKind) (cs : List Nat) (o : Nat) (hE : Ev W K)
    (r_CMP_FORMING : W CMP_FORMING) (r_CMP_LYR_LIVE : ∀ i, W (CMP_LYR_LIVE i)) (r_CMP_OUT_STATUS : W (CMP_OUT_STATUS o))
    (r_COL_OUT_STATUS : ∀ i, W (COL_OUT_STATUS i)) (r_COL_STATUS : W COL_STATUS)
    (r_PLN_OUT_STATUS : ∀ i, W (PLN_OUT_STATUS i)) (k_int : K .int) (k_cmp : K .cmp) (k_col : K .col)
    (h_s : Fr D W K s0 s) : Fr D W K s0 (State.askPass s kind cs o) := by
  unfold State.askPass
  repeat' first
    | with_reducible assumption | with_reducible apply Fr.ite | with_reducible apply State.setPasses_frame
    | with_reducible apply State.pump_frame | with_reducible apply State.showForming_frame
    | with_reducible apply State.showDrift_frame | with_reducible apply r_CMP_LYR_LIVE
    | with_reducible apply r_COL_OUT_STATUS | with_reducible apply r_PLN_OUT_STATUS
    | (extract_lets +onlyGivenNames x; refine Fr.cut (D := D) (W := W) (K := K) (s0 := s0) (x := x) ?_ ?_; (on_goal 1 => dsimp -zeta only [x]); (on_goal 2 => intro hx; clear_value x))
    | (extract_lets +onlyGivenNames y) | split | (clear_value y; split) | (intro v w hv) | (intro v hv)

theorem State.withdraw_frame (s : State) (c : Nat) (hE : Ev W K) (r_CMP_FORMING : W CMP_FORMING)
    (r_CMP_LYR_LIVE : ∀ i, W (CMP_LYR_LIVE i)) (r_CMP_OUT_STATUS : ∀ i, W (CMP_OUT_STATUS i))
    (r_COL_OUT_STATUS : ∀ i, W (COL_OUT_STATUS i)) (r_COL_STATUS : W COL_STATUS)
    (r_PLN_OUT_STATUS : ∀ i, W (PLN_OUT_STATUS i)) (k_int : K .int) (k_cmp : K .cmp) (k_col : K .col)
    (h_s : Fr D W K s0 s) : Fr D W K s0 (State.withdraw s c) := by
  unfold State.withdraw
  repeat' first
    | with_reducible assumption | with_reducible apply Fr.ite | (with_reducible apply foldOver_frame; intro a t ht)
    | with_reducible apply State.without_frame | with_reducible apply State.setPasses_frame
    | with_reducible apply State.pump_frame | with_reducible apply State.showForming_frame
    | with_reducible apply r_CMP_LYR_LIVE | with_reducible apply r_CMP_OUT_STATUS | with_reducible apply r_COL_OUT_STATUS
    | with_reducible apply r_PLN_OUT_STATUS
    | (extract_lets +onlyGivenNames x; refine Fr.cut (D := D) (W := W) (K := K) (s0 := s0) (x := x) ?_ ?_; (on_goal 1 => dsimp -zeta only [x]); (on_goal 2 => intro hx; clear_value x))
    | (extract_lets +onlyGivenNames y) | split | (clear_value y; split) | (intro v w hv) | (intro v hv)

theorem doLayerLiveWrite_frame (dt n : Nat) (live : Bool) (s : State) (r_CMP_LYR_LIVE : W (CMP_LYR_LIVE n))
    (h_s : Fr D W K s0 s) : Fr D W K s0 (doLayerLiveWrite dt n live s) := by
  unfold doLayerLiveWrite
  repeat' first
    | with_reducible assumption | with_reducible apply State.tick_frame | with_reducible apply State.onReachIf_frame
    | with_reducible apply State.putB_frame | (intro v w hv) | (intro v hv)

theorem doLayerUpdate_frame (dt n : Nat) (s : State) (hE : Ev W K) (r_CMP_FORMING : W CMP_FORMING)
    (r_CMP_LYR_LIVE : ∀ i, W (CMP_LYR_LIVE i)) (r_CMP_OUT_STATUS : ∀ i, W (CMP_OUT_STATUS i))
    (r_COL_OUT_STATUS : ∀ i, W (COL_OUT_STATUS i)) (r_COL_STATUS : W COL_STATUS)
    (r_PLN_OUT_STATUS : ∀ i, W (PLN_OUT_STATUS i)) (k_int : K .int) (k_cmp : K .cmp) (k_col : K .col) (h_s : Fr D W K s0 s)
    : Fr D W K s0 (doLayerUpdate dt n s) := by
  unfold doLayerUpdate
  repeat' first
    | with_reducible assumption | with_reducible apply Fr.ite | with_reducible apply State.tick_frame
    | with_reducible apply State.onReachIf_frame | with_reducible apply State.askPass_frame
    | with_reducible apply State.put_frame | (with_reducible apply foldOver_frame; intro a t ht)
    | with_reducible apply r_CMP_LYR_LIVE | with_reducible apply r_CMP_OUT_STATUS | with_reducible apply r_COL_OUT_STATUS
    | with_reducible apply r_PLN_OUT_STATUS
    | (extract_lets +onlyGivenNames x; refine Fr.cut (D := D) (W := W) (K := K) (s0 := s0) (x := x) ?_ ?_; (on_goal 1 => dsimp -zeta only [x]); (on_goal 2 => intro hx; clear_value x))
    | (extract_lets +onlyGivenNames y) | split | (intro v w hv) | (intro v hv)

theorem State.liveBoundary_frame (s : State) (hE : Ev W K) (r_CMP_FORMING : W CMP_FORMING)
    (r_CMP_LYR_LIVE : ∀ i, W (CMP_LYR_LIVE i)) (r_CMP_OUT_STATUS : ∀ i, W (CMP_OUT_STATUS i))
    (r_COL_OUT_STATUS : ∀ i, W (COL_OUT_STATUS i)) (r_COL_STATUS : W COL_STATUS)
    (r_PLN_OUT_STATUS : ∀ i, W (PLN_OUT_STATUS i)) (k_int : K .int) (k_cmp : K .cmp) (k_col : K .col) (h_s : Fr D W K s0 s)
    : Fr D W K s0 (State.liveBoundary s) := by
  unfold State.liveBoundary
  repeat' first
    | with_reducible assumption | (simp -zeta (disch := first | assumption | exact rfl) only [↓Fr.setCmp])
    | with_reducible apply State.askPass_frame | (with_reducible apply foldOver_frame; intro a t ht)
    | with_reducible apply r_CMP_LYR_LIVE | with_reducible apply r_CMP_OUT_STATUS | with_reducible apply r_COL_OUT_STATUS
    | with_reducible apply r_PLN_OUT_STATUS
    | (extract_lets +onlyGivenNames x; refine Fr.cut (D := D) (W := W) (K := K) (s0 := s0) (x := x) ?_ ?_; (on_goal 1 => dsimp -zeta only [x]); (on_goal 2 => intro hx; clear_value x))
    | (extract_lets +onlyGivenNames y) | (intro v w hv) | (intro v hv)

theorem doLayerUnderrun_frame (dt n o line fault : Nat) (s : State) (hE : Ev W K) (r_CMP_DROP_STATUS : W CMP_DROP_STATUS)
    (r_CMP_LYR_OFF_LFN : W (CMP_LYR_OFF_LFN n)) (r_CMP_LYR_OFF_LINE : W (CMP_LYR_OFF_LINE n))
    (r_CMP_LYR_STATUS : W (CMP_LYR_STATUS n)) (r_CMP_OUT_UNDERRUNS : ∀ i, W (CMP_OUT_UNDERRUNS i)) (k_cmp : K .cmp)
    (k_lxs : K .lxs) (r_MEM_ENG_STATUS : ∀ i, W (MEM_ENG_STATUS i))
    (k_pln : K .pln)
    (h_s : Fr D W K s0 s) : Fr D W K s0 (doLayerUnderrun dt n o line fault s) := by
  unfold doLayerUnderrun
  repeat' first
    | with_reducible assumption
    | with_reducible apply r_MEM_ENG_STATUS | with_reducible apply Fr.ite | with_reducible apply State.tick_frame
    | with_reducible apply State.onLiveIf_frame | with_reducible apply State.layerOff_frame
    | with_reducible apply r_CMP_OUT_UNDERRUNS
    | (extract_lets +onlyGivenNames x; refine Fr.cut (D := D) (W := W) (K := K) (s0 := s0) (x := x) ?_ ?_; (on_goal 1 => dsimp -zeta only [x]); (on_goal 2 => intro hx; clear_value x))
    | (extract_lets +onlyGivenNames y) | split | (intro v w hv) | (intro v hv) | (clear_value y; split)

theorem State.passView_frame (s : State) (p : Pass) (o : Nat) (k_cmp : K .cmp) (h_s : Fr D W K s0 s)
    : Fr D W K s0 (State.passView s p o) := by
  unfold State.passView
  repeat' first
    | with_reducible assumption | with_reducible apply State.without_frame
    | (extract_lets +onlyGivenNames x; refine Fr.cut (D := D) (W := W) (K := K) (s0 := s0) (x := x) ?_ ?_; (on_goal 1 => dsimp -zeta only [x]); (on_goal 2 => intro hx; clear_value x))
    | (extract_lets +onlyGivenNames y) | split | (clear_value y; split) | (intro v w hv) | (intro v hv)

theorem State.countTiles_frame (s : State) (cs : List Nat) (o : Nat) (hE : Ev W K) (r_CMP_FBC_ERRORS : W CMP_FBC_ERRORS)
    (r_CMP_LYR_FBC_ERR : ∀ i, W (CMP_LYR_FBC_ERR i)) (h_s : Fr D W K s0 s) : Fr D W K s0 (State.countTiles s cs o) := by
  unfold State.countTiles
  repeat' first
    | with_reducible assumption | with_reducible apply State.inc_frame | with_reducible apply State.raiseC_frame
    | (with_reducible apply foldOver_frame; intro a t ht) | with_reducible apply r_CMP_LYR_FBC_ERR | (intro v w hv)
    | (intro v hv)

theorem State.writeFrame_frame (hD : DramOk D) (s : State) (cs : List Nat) (o : Nat) (applied : Bool) (cfn lfn : Nat)
    (k_out : K .out) (k_mem : K .mem) (k_cmp : K .cmp) (h_s : Fr D W K s0 s)
    : Fr D W K s0 (State.writeFrame s cs o applied cfn lfn) := by
  unfold State.writeFrame
  split
  · refine Fr.upd (s := (s.vwriteAll _ _).1) ?_ rfl (fun p hp => by cases p <;> first | rfl | exact absurd ‹_› hp) rfl rfl
    apply State.vwriteAll_frame <;> assumption
  · exact h_s

theorem State.storePass_frame (s : State) (p : Pass) (cs : List Nat) (host f : Nat)
    (r_PLN_OUT_STATUS : W (PLN_OUT_STATUS f)) (r_PLN_OUT_TIMING : W (PLN_OUT_TIMING f)) (k_cmp : K .cmp) (k_pln : K .pln)
    (h_s : Fr D W K s0 s) : Fr D W K s0 (State.storePass s p cs host f) := by
  unfold State.storePass
  repeat' first
    | with_reducible assumption | (simp -zeta (disch := first | assumption | exact rfl) only [↓Fr.setPln])
    | with_reducible apply Fr.ite | with_reducible apply State.passView_frame | with_reducible apply State.putSat_frame
    | with_reducible apply State.put_frame
    | (extract_lets +onlyGivenNames x; refine Fr.cut (D := D) (W := W) (K := K) (s0 := s0) (x := x) ?_ ?_; (on_goal 1 => dsimp -zeta only [x]); (on_goal 2 => intro hx; clear_value x))
    | (extract_lets +onlyGivenNames y) | split | (clear_value y; split) | (intro v w hv) | (intro v hv)

theorem State.endForming_frame (hD : DramOk D) (u : State) (p0 : Pass) (rest : List Pass) (o : Nat)
    (r_CMP_FBC_ERRORS : W CMP_FBC_ERRORS) (r_CMP_LYR_FBC_ERR : ∀ i, W (CMP_LYR_FBC_ERR i))
    (r_PLN_OUT_STATUS : ∀ i, W (PLN_OUT_STATUS i)) (r_PLN_OUT_TIMING : ∀ i, W (PLN_OUT_TIMING i)) (hE : Ev W K) (k_out : K .out)
    (k_mem : K .mem) (k_int : K .int) (k_cmp : K .cmp) (k_pln : K .pln) (hu : Fr D W K s0 u)
    : Fr D W K s0 (State.endForming u p0 rest o) := by
  unfold State.endForming
  extract_lets p v u1 w c u2 i u3 u4 u5
  have hv : Fr D W K s0 v := by apply State.passView_frame <;> assumption
  have hw : Fr D W K s0 w := by apply State.writeFrame_frame <;> assumption
  have h1 : Fr D W K s0 u1 := Fr.ite hu (by apply State.countTiles_frame <;> assumption)
  have h2 : Fr D W K s0 u2 := Fr.ite h1 ⟨h1.frame.trans ⟨fun _ _ => rfl, fun p hp => by
    cases p <;> first | rfl | exact absurd ‹_› hp⟩, h1.queue, hw.dram⟩
  have h3 : Fr D W K s0 u3 := h2.upd rfl (fun p hp => by cases p <;> first | rfl | exact absurd ‹_› hp) rfl rfl
  have h4 : Fr D W K s0 u4 := Fr.ite (by apply State.rectNoWb_frame <;> assumption) h3
  have h5 : Fr D W K s0 u5 := foldOver_frame _ _ (fun _ _ h => by
    apply State.storePass_frame <;> first | assumption | exact r_PLN_OUT_TIMING _ | exact r_PLN_OUT_STATUS _) h4
  exact State.setPasses_frame _ _ _ k_cmp h5

theorem doFormingPassDone_frame (hD : DramOk D) (dt o : Nat) (s : State) (hE : Ev W K)
    (r_CMP_FBC_ERRORS : W CMP_FBC_ERRORS) (r_CMP_FORMING : W CMP_FORMING) (r_CMP_LYR_FBC_ERR : ∀ i, W (CMP_LYR_FBC_ERR i))
    (r_CMP_LYR_LIVE : ∀ i, W (CMP_LYR_LIVE i)) (r_CMP_OUT_STATUS : W (CMP_OUT_STATUS o))
    (r_COL_OUT_STATUS : ∀ i, W (COL_OUT_STATUS i)) (r_COL_STATUS : W COL_STATUS)
    (r_PLN_OUT_STATUS : ∀ i, W (PLN_OUT_STATUS i)) (r_PLN_OUT_TIMING : ∀ i, W (PLN_OUT_TIMING i)) (k_out : K .out)
    (k_mem : K .mem) (k_int : K .int) (k_cmp : K .cmp) (k_col : K .col) (k_pln : K .pln) (h_s : Fr D W K s0 s)
    : Fr D W K s0 (doFormingPassDone dt o s) := by
  unfold doFormingPassDone
  repeat' first
    | with_reducible assumption | with_reducible apply Fr.ite | with_reducible apply State.tick_frame
    | with_reducible apply State.onCoreIf_frame | with_reducible apply State.memBusy_frame
    | with_reducible apply State.setPasses_frame | with_reducible apply State.endForming_frame hD
    | with_reducible apply State.pump_frame | with_reducible apply State.showForming_frame
    | with_reducible apply r_CMP_LYR_FBC_ERR | with_reducible apply r_CMP_LYR_LIVE | with_reducible apply r_COL_OUT_STATUS
    | with_reducible apply r_PLN_OUT_STATUS | with_reducible apply r_PLN_OUT_TIMING
    | (extract_lets +onlyGivenNames x; refine Fr.cut (D := D) (W := W) (K := K) (s0 := s0) (x := x) ?_ ?_; (on_goal 1 => dsimp -zeta only [x]); (on_goal 2 => intro hx; clear_value x))
    | (extract_lets +onlyGivenNames y) | split | (clear_value y; split) | (intro v w hv) | (intro v hv)

theorem State.applyPass_frame (s : State) (o : Nat) (r_CMP_FORMING : W CMP_FORMING)
    (r_CMP_OUT_STATUS : W (CMP_OUT_STATUS o)) (r_COL_STATUS : W COL_STATUS) (r_PLN_OUT_STATUS : ∀ i, W (PLN_OUT_STATUS i))
    (r_SEQ_OUT_SCHED : ∀ i, W (SEQ_OUT_SCHED i)) (r_rectReg0x14 : ∀ i j, W (rectReg i j 0x14))
    (r_rectReg0x18 : ∀ i j, W (rectReg i j 0x18)) (k_int : K .int) (k_cmp : K .cmp) (k_pln : K .pln) (k_seq : K .seq)
    (h_s : Fr D W K s0 s) : Fr D W K s0 (State.applyPass s o) := by
  unfold State.applyPass
  repeat' first
    | with_reducible assumption | (simp -zeta (disch := first | assumption | exact rfl) only [↓Fr.setCmp, ↓Fr.setPln])
    | with_reducible apply Fr.ite | (with_reducible apply foldOver_frame; intro a t ht)
    | with_reducible apply State.setPasses_frame | with_reducible apply State.putB_frame
    | with_reducible apply State.put_frame | with_reducible apply State.leaveStatic_frame
    | with_reducible apply State.rectApply_frame | with_reducible apply State.showForming_frame
    | with_reducible apply State.showDrift_frame | with_reducible apply r_PLN_OUT_STATUS
    | with_reducible apply r_SEQ_OUT_SCHED | with_reducible apply r_rectReg0x14 | with_reducible apply r_rectReg0x18
    | (extract_lets +onlyGivenNames x; refine Fr.cut (D := D) (W := W) (K := K) (s0 := s0) (x := x) ?_ ?_; (on_goal 1 => dsimp -zeta only [x]); (on_goal 2 => intro hx; clear_value x))
    | (extract_lets +onlyGivenNames y) | split | (clear_value y; split) | (intro v w hv) | (intro v hv)

theorem doTailDone_frame (dt o : Nat) (s : State) (hE : Ev W K) (r_CMP_FORMING : W CMP_FORMING)
    (r_CMP_LYR_LIVE : ∀ i, W (CMP_LYR_LIVE i)) (r_CMP_OUT_STATUS : ∀ i, W (CMP_OUT_STATUS i))
    (r_COL_OUT_STATUS : ∀ i, W (COL_OUT_STATUS i)) (r_COL_STATUS : W COL_STATUS)
    (r_PLN_OUT_STATUS : ∀ i, W (PLN_OUT_STATUS i)) (k_mem : K .mem) (k_int : K .int) (k_cmp : K .cmp) (k_col : K .col)
    (k_pln : K .pln) (h_s : Fr D W K s0 s) : Fr D W K s0 (doTailDone dt o s) := by
  unfold doTailDone
  repeat' first
    | with_reducible assumption | (simp -zeta (disch := first | assumption | exact rfl) only [↓Fr.setPln])
    | with_reducible apply State.tick_frame | with_reducible apply State.onCoreIf_frame
    | with_reducible apply State.passView_frame | with_reducible apply State.put_frame
    | with_reducible apply State.pump_frame | with_reducible apply State.showForming_frame
    | with_reducible apply State.memBusy_frame | with_reducible apply r_CMP_LYR_LIVE
    | with_reducible apply r_CMP_OUT_STATUS | with_reducible apply r_COL_OUT_STATUS
    | with_reducible apply r_PLN_OUT_STATUS
    | (extract_lets +onlyGivenNames x; refine Fr.cut (D := D) (W := W) (K := K) (s0 := s0) (x := x) ?_ ?_; (on_goal 1 => dsimp -zeta only [x]); (on_goal 2 => intro hx; clear_value x))
    | (extract_lets +onlyGivenNames y) | split | (clear_value y; split) | (intro v w hv) | (intro v hv)

theorem doWritebackDone_frame (dt o : Nat) (lost : Bool) (s : State) (hE : Ev W K)
    (r_CMP_OUT_WB_CFN : W (CMP_OUT_WB_CFN o)) (r_CMP_OUT_WB_STATUS : W (CMP_OUT_WB_STATUS o)) (k_int : K .int)
    (k_cmp : K .cmp) (h_s : Fr D W K s0 s) : Fr D W K s0 (doWritebackDone dt o lost s) := by
  unfold doWritebackDone
  repeat' first
    | with_reducible assumption | (simp -zeta (disch := first | assumption | exact rfl) only [↓Fr.setCmp])
    | with_reducible apply Fr.ite | with_reducible apply State.tick_frame | with_reducible apply State.onCore_frame
    | with_reducible apply State.wrN_frame | with_reducible apply State.putB_frame | with_reducible apply State.inc_frame
    | with_reducible apply State.rectNoWb_frame | with_reducible apply State.raise_frame
    | (extract_lets +onlyGivenNames x; refine Fr.cut (D := D) (W := W) (K := K) (s0 := s0) (x := x) ?_ ?_; (on_goal 1 => dsimp -zeta only [x]); (on_goal 2 => intro hx; clear_value x))
    | (extract_lets +onlyGivenNames y) | split | (clear_value y; split) | (intro v w hv) | (intro v hv)

theorem State.raiseLoad_frame (s : State) (k : TableKind) (i : Nat) (hE : Ev W K) (h_s : Fr D W K s0 s)
    : Fr D W K s0 (State.raiseLoad s k i) := by
  unfold State.raiseLoad
  repeat' first
    | with_reducible assumption | with_reducible apply State.raise_frame
    | (extract_lets +onlyGivenNames x; refine Fr.cut (D := D) (W := W) (K := K) (s0 := s0) (x := x) ?_ ?_; (on_goal 1 => dsimp -zeta only [x]); (on_goal 2 => intro hx; clear_value x))
    | (extract_lets +onlyGivenNames y) | split

theorem State.storeBack_frame (s : State) (k : TableKind) (i : Nat) (b : List Byte) (k_cmp : K .cmp) (k_col : K .col)
    (k_pln : K .pln) (h_s : Fr D W K s0 s) : Fr D W K s0 (State.storeBack s k i b) := by
  unfold State.storeBack
  repeat' first
    | with_reducible assumption
    | (simp -zeta (disch := first | assumption | exact rfl) only [↓Fr.setCmp, ↓Fr.setCol, ↓Fr.setPln])
    | (extract_lets +onlyGivenNames x; refine Fr.cut (D := D) (W := W) (K := K) (s0 := s0) (x := x) ?_ ?_; (on_goal 1 => dsimp -zeta only [x]); (on_goal 2 => intro hx; clear_value x))
    | (extract_lets +onlyGivenNames y) | split | (intro v w hv) | (intro v hv) | (clear_value y; split)

theorem State.mapLoad_frame (s : State) (k : TableKind) (i : Nat) (build : Bool) (f : LoadSt → LoadSt) (k_cmp : K .cmp)
    (h_s : Fr D W K s0 s) : Fr D W K s0 (State.mapLoad s k i build f) := by
  unfold State.mapLoad
  repeat' first
    | with_reducible assumption | (simp -zeta (disch := first | assumption | exact rfl) only [↓Fr.setCmp])
    | with_reducible apply Fr.ite
    | (extract_lets +onlyGivenNames x; refine Fr.cut (D := D) (W := W) (K := K) (s0 := s0) (x := x) ?_ ?_; (on_goal 1 => dsimp -zeta only [x]); (on_goal 2 => intro hx; clear_value x))
    | (extract_lets +onlyGivenNames y) | split | (intro v w hv) | (intro v hv)

theorem doTableLoadDone_frame (dt kind i : Nat) (lost : Bool) (s : State) (hE : Ev W K)
    (r_CMP_OUT_STATUS : ∀ i, W (CMP_OUT_STATUS i)) (r_COL_DEC_STATUS : ∀ i, W (COL_DEC_STATUS i))
    (r_COL_LUT_STATUS : ∀ i, W (COL_LUT_STATUS i)) (r_COL_OUT_STATUS : ∀ i, W (COL_OUT_STATUS i))
    (r_PLN_BOOK_STATUS : ∀ i, W (PLN_BOOK_STATUS i)) (r_PLN_MASK_STATUS : W PLN_MASK_STATUS) (k_cmp : K .cmp) (k_col : K .col)
    (k_pln : K .pln) (h_s : Fr D W K s0 s) : Fr D W K s0 (doTableLoadDone dt kind i lost s) := by
  unfold doTableLoadDone
  extract_lets t
  have ht : Fr D W K s0 t := State.tick_frame _ _ h_s
  split
  · exact ht
  · next k _ =>
    split
    · exact ht
    · refine State.onCore_frame _ _ (fun u hu => ?_) ht
      have hf : W (loadFailFld k i).reg := by
        cases k
        all_goals first
          | exact r_CMP_OUT_STATUS _
          | exact r_COL_LUT_STATUS _
          | exact r_COL_DEC_STATUS _
          | exact r_COL_OUT_STATUS _
          | exact r_PLN_BOOK_STATUS _
          | exact r_PLN_MASK_STATUS
      refine Fr.ite (State.mapLoad_frame _ _ _ _ _ k_cmp hu) ?_
      extract_lets src got v
      have hv : Fr D W K s0 v := State.mapLoad_frame _ _ _ _ _ k_cmp (State.put_frame _ _ _ hf hu)
      split
      · refine State.mapLoad_frame _ _ _ _ _ k_cmp (State.put_frame _ _ _ hf ?_)
        apply State.storeBack_frame <;> assumption
      · split
        · exact hv
        · apply State.raiseLoad_frame <;> assumption

theorem State.retryLoads_frame (s : State) (k_cmp : K .cmp) (h_s : Fr D W K s0 s) : Fr D W K s0 (State.retryLoads s) := by
  unfold State.retryLoads
  repeat' first
    | with_reducible assumption | (simp -zeta (disch := first | assumption | exact rfl) only [↓Fr.setCmp])
    | with_reducible apply Fr.ite
    | (extract_lets +onlyGivenNames x; refine Fr.cut (D := D) (W := W) (K := K) (s0 := s0) (x := x) ?_ ?_; (on_goal 1 => dsimp -zeta only [x]); (on_goal 2 => intro hx; clear_value x))
    | (extract_lets +onlyGivenNames y) | split | (clear_value y; split) | (intro v w hv) | (intro v hv)

theorem State.showBuilds_frame (s : State) (r_PLN_STATUS : W PLN_STATUS) (h_s : Fr D W K s0 s)
    : Fr D W K s0 (State.showBuilds s) := by
  unfold State.showBuilds
  repeat' first
    | with_reducible assumption | with_reducible apply State.putB_frame | (intro v w hv) | (intro v hv)

theorem doBookBuildDone_frame (dt slot : Nat) (s : State) (r_PLN_STATUS : W PLN_STATUS) (k_cmp : K .cmp) (k_pln : K .pln)
    (h_s : Fr D W K s0 s) : Fr D W K s0 (doBookBuildDone dt slot s) := by
  unfold doBookBuildDone
  repeat' first
    | with_reducible assumption | (simp -zeta (disch := first | assumption | exact rfl) only [↓Fr.setPln])
    | with_reducible apply Fr.ite | with_reducible apply State.tick_frame | with_reducible apply State.onLiveIf_frame
    | with_reducible apply State.mapLoad_frame | with_reducible apply State.showBuilds_frame
    | (extract_lets +onlyGivenNames x; refine Fr.cut (D := D) (W := W) (K := K) (s0 := s0) (x := x) ?_ ?_; (on_goal 1 => dsimp -zeta only [x]); (on_goal 2 => intro hx; clear_value x))
    | (extract_lets +onlyGivenNames y) | split | (intro v w hv) | (intro v hv) | (clear_value y; split)

theorem State.rewrite_frame (s : State) (o : Nat) (tail : Bool) (hE : Ev W K) (r_CMP_FORMING : W CMP_FORMING)
    (r_CMP_LYR_LIVE : ∀ i, W (CMP_LYR_LIVE i)) (r_CMP_OUT_STATUS : ∀ i, W (CMP_OUT_STATUS i))
    (r_COL_OUT_STATUS : ∀ i, W (COL_OUT_STATUS i)) (r_COL_STATUS : W COL_STATUS)
    (r_PLN_OUT_STATUS : ∀ i, W (PLN_OUT_STATUS i)) (k_int : K .int) (k_cmp : K .cmp) (k_col : K .col) (h_s : Fr D W K s0 s)
    : Fr D W K s0 (State.rewrite s o tail) := by
  unfold State.rewrite
  repeat' first
    | with_reducible assumption | with_reducible apply Fr.ite | with_reducible apply State.askPass_frame
    | with_reducible apply r_CMP_LYR_LIVE | with_reducible apply r_CMP_OUT_STATUS | with_reducible apply r_COL_OUT_STATUS
    | with_reducible apply r_PLN_OUT_STATUS | split

theorem State.storeError_frame (s : State) (o : Nat) (tail : Bool) (e : StoreErr) (hE : Ev W K)
    (r_CMP_FORMING : W CMP_FORMING) (r_CMP_LYR_LIVE : ∀ i, W (CMP_LYR_LIVE i)) (r_CMP_OUT_STATUS : ∀ i, W (CMP_OUT_STATUS i))
    (r_COL_OUT_STATUS : ∀ i, W (COL_OUT_STATUS i)) (r_COL_STATUS : W COL_STATUS) (r_PLN_ECC : W PLN_ECC)
    (r_PLN_ECC_ADDR : W PLN_ECC_ADDR) (r_PLN_OUT_STATUS : ∀ i, W (PLN_OUT_STATUS i)) (r_PLN_STATUS : W PLN_STATUS)
    (k_int : K .int) (k_cmp : K .cmp) (k_col : K .col) (k_pln : K .pln) (h_s : Fr D W K s0 s)
    : Fr D W K s0 (State.storeError s o tail e) := by
  unfold State.storeError
  repeat' first
    | with_reducible assumption | with_reducible apply Fr.ite | with_reducible apply State.storeDouble_frame
    | with_reducible apply State.rewrite_frame | with_reducible apply State.storeCorrected_frame
    | with_reducible apply r_CMP_LYR_LIVE | with_reducible apply r_CMP_OUT_STATUS | with_reducible apply r_COL_OUT_STATUS
    | with_reducible apply r_PLN_OUT_STATUS | split

theorem doPlaneLoadStart_frame (dt o slot : Nat) (errs : List StoreErr) (s : State) (hE : Ev W K)
    (r_CMP_FORMING : W CMP_FORMING) (r_CMP_LYR_LIVE : ∀ i, W (CMP_LYR_LIVE i))
    (r_CMP_OUT_STATUS : ∀ i, W (CMP_OUT_STATUS i)) (r_COL_OUT_STATUS : ∀ i, W (COL_OUT_STATUS i))
    (r_COL_STATUS : W COL_STATUS) (r_PLN_ECC : W PLN_ECC) (r_PLN_ECC_ADDR : W PLN_ECC_ADDR)
    (r_PLN_OUT_STATUS : ∀ i, W (PLN_OUT_STATUS i)) (r_PLN_STATUS : W PLN_STATUS) (k_out : K .out) (k_int : K .int)
    (k_cmp : K .cmp) (k_col : K .col) (k_pln : K .pln) (k_seq : K .seq) (k_apt : K .apt) (k_lan : K .lan)
    (h_s : Fr D W K s0 s) : Fr D W K s0 (doPlaneLoadStart dt o slot errs s) := by
  unfold doPlaneLoadStart
  repeat' first
    | with_reducible assumption | (simp -zeta (disch := first | assumption | exact rfl) only [↓Fr.setApt])
    | with_reducible apply Fr.ite | (with_reducible apply foldOver_frame; intro a t ht)
    | with_reducible apply State.tick_frame | with_reducible apply State.onCoreIf_frame
    | with_reducible apply State.takeEvent_frame | with_reducible apply State.passView_frame
    | with_reducible apply State.loadBlocks_frame | with_reducible apply State.storeError_frame
    | with_reducible apply r_CMP_LYR_LIVE | with_reducible apply r_CMP_OUT_STATUS | with_reducible apply r_COL_OUT_STATUS
    | with_reducible apply r_PLN_OUT_STATUS
    | (extract_lets +onlyGivenNames x; refine Fr.cut (D := D) (W := W) (K := K) (s0 := s0) (x := x) ?_ ?_; (on_goal 1 => dsimp -zeta only [x]); (on_goal 2 => intro hx; clear_value x))
    | (extract_lets +onlyGivenNames y) | split | (clear_value y; split) | (intro v w hv) | (intro v hv)

theorem doStoreScrub_frame (dt : Nat) (errs : List StoreErr) (s : State) (hE : Ev W K) (r_CMP_FORMING : W CMP_FORMING)
    (r_CMP_LYR_LIVE : ∀ i, W (CMP_LYR_LIVE i)) (r_CMP_OUT_STATUS : ∀ i, W (CMP_OUT_STATUS i))
    (r_COL_OUT_STATUS : ∀ i, W (COL_OUT_STATUS i)) (r_COL_STATUS : W COL_STATUS) (r_PLN_ECC : W PLN_ECC)
    (r_PLN_ECC_ADDR : W PLN_ECC_ADDR) (r_PLN_OUT_STATUS : ∀ i, W (PLN_OUT_STATUS i)) (r_PLN_STATUS : W PLN_STATUS)
    (k_int : K .int) (k_cmp : K .cmp) (k_col : K .col) (k_pln : K .pln) (h_s : Fr D W K s0 s)
    : Fr D W K s0 (doStoreScrub dt errs s) := by
  unfold doStoreScrub
  repeat' first
    | with_reducible assumption | (with_reducible apply foldOver_frame; intro a t ht)
    | with_reducible apply State.tick_frame | with_reducible apply State.onLiveIf_frame
    | with_reducible apply State.storeError_frame | with_reducible apply r_CMP_LYR_LIVE
    | with_reducible apply r_CMP_OUT_STATUS | with_reducible apply r_COL_OUT_STATUS
    | with_reducible apply r_PLN_OUT_STATUS
    | (extract_lets +onlyGivenNames x; refine Fr.cut (D := D) (W := W) (K := K) (s0 := s0) (x := x) ?_ ?_; (on_goal 1 => dsimp -zeta only [x]); (on_goal 2 => intro hx; clear_value x))
    | (extract_lets +onlyGivenNames y) | split | (clear_value y; split) | (intro v w hv) | (intro v hv)

theorem State.exitPasses_frame (s : State) (hE : Ev W K) (r_CMP_FORMING : W CMP_FORMING)
    (r_CMP_LYR_LIVE : ∀ i, W (CMP_LYR_LIVE i)) (r_CMP_OUT_STATUS : ∀ i, W (CMP_OUT_STATUS i))
    (r_COL_OUT_STATUS : ∀ i, W (COL_OUT_STATUS i)) (r_COL_STATUS : W COL_STATUS)
    (r_PLN_OUT_STATUS : ∀ i, W (PLN_OUT_STATUS i)) (k_int : K .int) (k_cmp : K .cmp) (k_col : K .col)
    (h_s : Fr D W K s0 s) : Fr D W K s0 (State.exitPasses s) := by
  unfold State.exitPasses
  repeat' first
    | with_reducible assumption | with_reducible apply Fr.ite | (with_reducible apply foldOver_frame; intro a t ht)
    | with_reducible apply State.askPass_frame | with_reducible apply r_CMP_LYR_LIVE
    | with_reducible apply r_CMP_OUT_STATUS | with_reducible apply r_COL_OUT_STATUS
    | with_reducible apply r_PLN_OUT_STATUS
    | (extract_lets +onlyGivenNames x; refine Fr.cut (D := D) (W := W) (K := K) (s0 := s0) (x := x) ?_ ?_; (on_goal 1 => dsimp -zeta only [x]); (on_goal 2 => intro hx; clear_value x))
    | (extract_lets +onlyGivenNames y) | split | (clear_value y; split) | (intro v w hv) | (intro v hv)

theorem State.driftBoundary_frame (s : State) (hE : Ev W K) (r_CMP_FORMING : W CMP_FORMING)
    (r_CMP_LYR_LIVE : ∀ i, W (CMP_LYR_LIVE i)) (r_CMP_OUT_STATUS : ∀ i, W (CMP_OUT_STATUS i))
    (r_COL_OUT_STATUS : ∀ i, W (COL_OUT_STATUS i)) (r_COL_STATUS : W COL_STATUS)
    (r_PLN_OUT_STATUS : ∀ i, W (PLN_OUT_STATUS i)) (k_int : K .int) (k_cmp : K .cmp) (k_col : K .col)
    (h_s : Fr D W K s0 s) : Fr D W K s0 (State.driftBoundary s) := by
  unfold State.driftBoundary
  repeat' first
    | with_reducible assumption | (simp -zeta (disch := first | assumption | exact rfl) only [↓Fr.setCol])
    | with_reducible apply Fr.ite | (with_reducible apply foldOver_frame; intro a t ht)
    | with_reducible apply State.raiseB_frame | with_reducible apply State.showDrift_frame
    | with_reducible apply State.askPass_frame | with_reducible apply r_CMP_LYR_LIVE
    | with_reducible apply r_CMP_OUT_STATUS | with_reducible apply r_COL_OUT_STATUS
    | with_reducible apply r_PLN_OUT_STATUS
    | (extract_lets +onlyGivenNames x; refine Fr.cut (D := D) (W := W) (K := K) (s0 := s0) (x := x) ?_ ?_; (on_goal 1 => dsimp -zeta only [x]); (on_goal 2 => intro hx; clear_value x))
    | (extract_lets +onlyGivenNames y) | split | (clear_value y; split) | (intro v w hv) | (intro v hv)

end Sys2Proof.Machine
end

