-- ==== Sys2Proof/Laws/FrameLight.lean ====
section
/-! SUPPORT. What each function leaves: registers, parts of the state, the queue and the memory. One law per function of
metering, lamps, scan engines and start-up. -/
namespace Sys2Proof.Machine

set_option linter.all false
set_option linter.unusedTactic false
set_option linter.unreachableTactic false

variable {D : List Host.Cell → Prop} {W : Nat → Prop} {K : Part → Prop} {s0 : State}

theorem State.setMeterTime_frame (s : State) (v : Nat) (k_mtr : K .mtr) (h_s : Fr D W K s0 s)
    : Fr D W K s0 (State.setMeterTime s v) := by
  unfold State.setMeterTime
  repeat' first
    | with_reducible assumption | (simp -zeta (disch := first | assumption | exact rfl) only [↓Fr.setMtr])
    | (extract_lets +onlyGivenNames x; refine Fr.cut (D := D) (W := W) (K := K) (s0 := s0) (x := x) ?_ ?_; (on_goal 1 => dsimp -zeta only [x]); (on_goal 2 => intro hx; clear_value x))
    | (extract_lets +onlyGivenNames y)

theorem State.mtrBit_frame (s : State) (k : Nat) (k_mtr : K .mtr) (h_s : Fr D W K s0 s) : Fr D W K s0 (State.mtrBit s k) := by
  unfold State.mtrBit
  repeat' first
    | with_reducible assumption | (simp -zeta (disch := first | assumption | exact rfl) only [↓Fr.setMtr])
    | (extract_lets +onlyGivenNames x; refine Fr.cut (D := D) (W := W) (K := K) (s0 := s0) (x := x) ?_ ?_; (on_goal 1 => dsimp -zeta only [x]); (on_goal 2 => intro hx; clear_value x))
    | (extract_lets +onlyGivenNames y)

theorem State.mtrNoteBlocks_frame (s : State) (k_mtr : K .mtr) (h_s : Fr D W K s0 s)
    : Fr D W K s0 (State.mtrNoteBlocks s) := by
  unfold State.mtrNoteBlocks
  repeat' first
    | with_reducible assumption | with_reducible apply State.mtrBit_frame
    | (with_reducible apply foldOver_frame; intro a t ht) | (intro v w hv) | (intro v hv)

theorem State.queueWrite_frame (s : State) (kind key : Nat) (bytes : List Byte) (k_mtr : K .mtr) (h_s : Fr D W K s0 s)
    : Fr D W K s0 (State.queueWrite s kind key bytes) := by
  unfold State.queueWrite
  repeat' first
    | with_reducible assumption | (simp -zeta (disch := first | assumption | exact rfl) only [↓Fr.setMtr])
    | (extract_lets +onlyGivenNames x; refine Fr.cut (D := D) (W := W) (K := K) (s0 := s0) (x := x) ?_ ?_; (on_goal 1 => dsimp -zeta only [x]); (on_goal 2 => intro hx; clear_value x))
    | (extract_lets +onlyGivenNames y)

theorem State.writeRecord_frame (s : State) (last : Bool) (k_mtr : K .mtr) (h_s : Fr D W K s0 s)
    : Fr D W K s0 (State.writeRecord s last) := by
  unfold State.writeRecord
  repeat' first
    | with_reducible assumption | (simp -zeta (disch := first | assumption | exact rfl) only [↓Fr.setMtr])
    | with_reducible apply State.queueWrite_frame
    | (extract_lets +onlyGivenNames x; refine Fr.cut (D := D) (W := W) (K := K) (s0 := s0) (x := x) ?_ ?_; (on_goal 1 => dsimp -zeta only [x]); (on_goal 2 => intro hx; clear_value x))
    | (extract_lets +onlyGivenNames y)

theorem State.audit_frame (s : State) (kind detail : Nat) (k_mtr : K .mtr) (h_s : Fr D W K s0 s)
    : Fr D W K s0 (State.audit s kind detail) := by
  unfold State.audit
  repeat' first
    | with_reducible assumption | (simp -zeta (disch := first | assumption | exact rfl) only [↓Fr.setMtr])
    | with_reducible apply State.queueWrite_frame
    | (extract_lets +onlyGivenNames x; refine Fr.cut (D := D) (W := W) (K := K) (s0 := s0) (x := x) ?_ ?_; (on_goal 1 => dsimp -zeta only [x]); (on_goal 2 => intro hx; clear_value x))
    | (extract_lets +onlyGivenNames y)

theorem doMtrStoreWriteDone_frame (dt : Nat) (ok : Bool) (s : State) (k_mtr : K .mtr) (h_s : Fr D W K s0 s)
    : Fr D W K s0 (doMtrStoreWriteDone dt ok s) := by
  unfold doMtrStoreWriteDone
  repeat' first
    | with_reducible assumption | (simp -zeta (disch := first | assumption | exact rfl) only [↓Fr.setMtr])
    | with_reducible apply Fr.ite | with_reducible apply State.tick_frame | with_reducible apply State.audit_frame
    | with_reducible apply State.mtrNoteBlocks_frame
    | (extract_lets +onlyGivenNames x; refine Fr.cut (D := D) (W := W) (K := K) (s0 := s0) (x := x) ?_ ?_; (on_goal 1 => dsimp -zeta only [x]); (on_goal 2 => intro hx; clear_value x))
    | (extract_lets +onlyGivenNames y) | split | (clear_value y; split)

theorem State.meterWord_frame (s : State) (e w clk : Nat) (k_mtr : K .mtr) (h_s : Fr D W K s0 s)
    : Fr D W K s0 (State.meterWord s e w clk) := by
  unfold State.meterWord
  repeat' first
    | with_reducible assumption | (simp -zeta (disch := first | assumption | exact rfl) only [↓Fr.setMtr])
    | with_reducible apply Fr.ite
    | (extract_lets +onlyGivenNames x; refine Fr.cut (D := D) (W := W) (K := K) (s0 := s0) (x := x) ?_ ?_; (on_goal 1 => dsimp -zeta only [x]); (on_goal 2 => intro hx; clear_value x))
    | (extract_lets +onlyGivenNames y) | split

theorem doMtrLatchObserved_frame (dt c : Nat) (matched : Bool) (clk : Nat) (words : List Nat) (s : State) (k_mtr : K .mtr)
    (h_s : Fr D W K s0 s) : Fr D W K s0 (doMtrLatchObserved dt c matched clk words s) := by
  unfold doMtrLatchObserved
  repeat' first
    | with_reducible assumption | (simp -zeta (disch := first | assumption | exact rfl) only [↓Fr.setMtr])
    | with_reducible apply Fr.ite | with_reducible apply State.tick_frame | with_reducible apply State.meterWord_frame
    | with_reducible apply State.audit_frame | with_reducible apply State.mtrNoteBlocks_frame
    | (with_reducible apply foldOver_frame; intro a t ht)
    | (extract_lets +onlyGivenNames x; refine Fr.cut (D := D) (W := W) (K := K) (s0 := s0) (x := x) ?_ ?_; (on_goal 1 => dsimp -zeta only [x]); (on_goal 2 => intro hx; clear_value x))
    | (extract_lets +onlyGivenNames y) | split | (intro v w hv) | (intro v hv)

theorem doMtrGap_frame (dt c : Nat) (s : State) (k_mtr : K .mtr) (h_s : Fr D W K s0 s) : Fr D W K s0 (doMtrGap dt c s) := by
  unfold doMtrGap
  repeat' first
    | with_reducible assumption | with_reducible apply Fr.ite | with_reducible apply State.tick_frame
    | with_reducible apply State.mtrBit_frame
    | (extract_lets +onlyGivenNames x; refine Fr.cut (D := D) (W := W) (K := K) (s0 := s0) (x := x) ?_ ?_; (on_goal 1 => dsimp -zeta only [x]); (on_goal 2 => intro hx; clear_value x))
    | (extract_lets +onlyGivenNames y) | split

theorem doClockFault_frame (dt : Nat) (s : State) (k_mtr : K .mtr) (h_s : Fr D W K s0 s)
    : Fr D W K s0 (doClockFault dt s) := by
  unfold doClockFault
  repeat' first
    | with_reducible assumption | (simp -zeta (disch := first | assumption | exact rfl) only [↓Fr.setMtr])
    | with_reducible apply Fr.ite | with_reducible apply State.tick_frame | with_reducible apply State.setMeterTime_frame
    | with_reducible apply State.audit_frame | with_reducible apply State.mtrNoteBlocks_frame
    | (extract_lets +onlyGivenNames x; refine Fr.cut (D := D) (W := W) (K := K) (s0 := s0) (x := x) ?_ ?_; (on_goal 1 => dsimp -zeta only [x]); (on_goal 2 => intro hx; clear_value x))
    | (extract_lets +onlyGivenNames y) | split

theorem doSealOpened_frame (dt : Nat) (s : State) (k_mtr : K .mtr) (h_s : Fr D W K s0 s)
    : Fr D W K s0 (doSealOpened dt s) := by
  unfold doSealOpened
  repeat' first
    | with_reducible assumption | (simp -zeta (disch := first | assumption | exact rfl) only [↓Fr.setMtr])
    | with_reducible apply Fr.ite | with_reducible apply State.tick_frame | with_reducible apply State.audit_frame
    | with_reducible apply State.mtrBit_frame
    | (extract_lets +onlyGivenNames x; refine Fr.cut (D := D) (W := W) (K := K) (s0 := s0) (x := x) ?_ ?_; (on_goal 1 => dsimp -zeta only [x]); (on_goal 2 => intro hx; clear_value x))
    | (extract_lets +onlyGivenNames y) | split

theorem doSealClosed_frame (dt : Nat) (s : State) (k_mtr : K .mtr) (h_s : Fr D W K s0 s)
    : Fr D W K s0 (doSealClosed dt s) := by
  unfold doSealClosed
  repeat' first
    | with_reducible assumption | (simp -zeta (disch := first | assumption | exact rfl) only [↓Fr.setMtr])
    | with_reducible apply Fr.ite | with_reducible apply State.tick_frame | with_reducible apply State.audit_frame
    | (extract_lets +onlyGivenNames x; refine Fr.cut (D := D) (W := W) (K := K) (s0 := s0) (x := x) ?_ ?_; (on_goal 1 => dsimp -zeta only [x]); (on_goal 2 => intro hx; clear_value x))
    | (extract_lets +onlyGivenNames y) | split

theorem doMtrRecordDue_frame (dt : Nat) (s : State) (k_mtr : K .mtr) (h_s : Fr D W K s0 s)
    : Fr D W K s0 (doMtrRecordDue dt s) := by
  unfold doMtrRecordDue
  repeat' first
    | with_reducible assumption | with_reducible apply Fr.ite | with_reducible apply State.tick_frame
    | with_reducible apply State.setMeterTime_frame | with_reducible apply State.writeRecord_frame
    | (extract_lets +onlyGivenNames x; refine Fr.cut (D := D) (W := W) (K := K) (s0 := s0) (x := x) ?_ ?_; (on_goal 1 => dsimp -zeta only [x]); (on_goal 2 => intro hx; clear_value x))
    | (extract_lets +onlyGivenNames y) | split

theorem doMtrSupplyLoss_frame (dt : Nat) (ok : Bool) (s : State) (r_MTR_MB_STATUS : W MTR_MB_STATUS) (k_mtr : K .mtr)
    (h_s : Fr D W K s0 s) : Fr D W K s0 (doMtrSupplyLoss dt ok s) := by
  unfold doMtrSupplyLoss
  repeat' first
    | with_reducible assumption | (simp -zeta (disch := first | assumption | exact rfl) only [↓Fr.setMtr])
    | with_reducible apply Fr.ite | with_reducible apply State.tick_frame | with_reducible apply State.setMeterTime_frame
    | with_reducible apply State.writeRecord_frame | with_reducible apply State.put_frame
    | (extract_lets +onlyGivenNames x; refine Fr.cut (D := D) (W := W) (K := K) (s0 := s0) (x := x) ?_ ?_; (on_goal 1 => dsimp -zeta only [x]); (on_goal 2 => intro hx; clear_value x))
    | (extract_lets +onlyGivenNames y) | split | (clear_value y; split)

theorem doMtrPowerUp_frame (dt : Nat) (vbat : Bool) (s : State) (k_mtr : K .mtr) (h_s : Fr D W K s0 s)
    : Fr D W K s0 (doMtrPowerUp dt vbat s) := by
  unfold doMtrPowerUp
  repeat' first
    | with_reducible assumption | (simp -zeta (disch := first | assumption | exact rfl) only [↓Fr.setMtr])
    | with_reducible apply Fr.ite | with_reducible apply State.tick_frame | with_reducible apply State.queueWrite_frame
    | with_reducible apply State.audit_frame | with_reducible apply State.mtrBit_frame
    | with_reducible apply State.mtrNoteBlocks_frame | with_reducible apply State.writeRecord_frame
    | (with_reducible apply foldOver_frame; intro a t ht)
    | (extract_lets +onlyGivenNames x; refine Fr.cut (D := D) (W := W) (K := K) (s0 := s0) (x := x) ?_ ?_; (on_goal 1 => dsimp -zeta only [x]); (on_goal 2 => intro hx; clear_value x))
    | (extract_lets +onlyGivenNames y) | split | (intro v w hv) | (intro v hv)

theorem State.serve_frame (s : State) (op status : Nat) (bytes : List Byte) (k_out : K .out) (h_s : Fr D W K s0 s)
    : Fr D W K s0 (State.serve s op status bytes) := by
  unfold State.serve
  repeat' first
    | with_reducible assumption | with_reducible apply State.send_frame

theorem State.service_frame (s : State) (op : Nat) (crc : Bool) (f : State → State) (k_out : K .out) (h_s : Fr D W K s0 s)
    (h_f : ∀ (v0 : State), Fr D W K s0 v0 → Fr D W K s0 (f v0)) : Fr D W K s0 (State.service s op crc f) := by
  unfold State.service
  repeat' first
    | with_reducible assumption | with_reducible apply Fr.ite | with_reducible apply State.serve_frame
    | with_reducible apply h_f | split

theorem doMsvcRead_frame (dt op : Nat) (args : List Nat) (crc : Bool) (s : State) (k_fresh : K .fresh) (k_out : K .out)
    (h_s : Fr D W K s0 s) : Fr D W K s0 (doMsvcRead dt op args crc s) := by
  unfold doMsvcRead
  repeat' first
    | with_reducible assumption | with_reducible apply Fr.ite | with_reducible apply State.tick_frame
    | with_reducible apply State.serve_frame | with_reducible apply State.useFree_frame
    | (extract_lets +onlyGivenNames x; refine Fr.cut (D := D) (W := W) (K := K) (s0 := s0) (x := x) ?_ ?_; (on_goal 1 => dsimp -zeta only [x]); (on_goal 2 => intro hx; clear_value x))
    | (extract_lets +onlyGivenNames y) | split

theorem doMsvcStage_frame (dt : Nat) (block : List Byte) (crc : Bool) (s : State) (k_out : K .out) (k_mtr : K .mtr)
    (h_s : Fr D W K s0 s) : Fr D W K s0 (doMsvcStage dt block crc s) := by
  unfold doMsvcStage
  repeat' first
    | with_reducible assumption | (simp -zeta (disch := first | assumption | exact rfl) only [↓Fr.setMtr])
    | with_reducible apply Fr.ite | with_reducible apply State.tick_frame | with_reducible apply State.service_frame
    | with_reducible apply State.serve_frame
    | (extract_lets +onlyGivenNames x; refine Fr.cut (D := D) (W := W) (K := K) (s0 := s0) (x := x) ?_ ?_; (on_goal 1 => dsimp -zeta only [x]); (on_goal 2 => intro hx; clear_value x))
    | (extract_lets +onlyGivenNames y) | split | (intro v w hv) | (intro v hv)

theorem doMsvcCommit_frame (dt : Nat) (crc : Bool) (s : State) (k_out : K .out) (k_mtr : K .mtr) (h_s : Fr D W K s0 s)
    : Fr D W K s0 (doMsvcCommit dt crc s) := by
  unfold doMsvcCommit
  repeat' first
    | with_reducible assumption | (simp -zeta (disch := first | assumption | exact rfl) only [↓Fr.setMtr])
    | with_reducible apply Fr.ite | with_reducible apply State.tick_frame | with_reducible apply State.service_frame
    | with_reducible apply State.serve_frame | with_reducible apply State.writeRecord_frame
    | with_reducible apply State.setMeterTime_frame | with_reducible apply State.queueWrite_frame
    | with_reducible apply State.audit_frame
    | (extract_lets +onlyGivenNames x; refine Fr.cut (D := D) (W := W) (K := K) (s0 := s0) (x := x) ?_ ?_; (on_goal 1 => dsimp -zeta only [x]); (on_goal 2 => intro hx; clear_value x))
    | (extract_lets +onlyGivenNames y) | split | (intro v w hv) | (intro v hv) | (clear_value y; split)

theorem doMsvcDiscard_frame (dt : Nat) (crc : Bool) (s : State) (k_out : K .out) (k_mtr : K .mtr) (h_s : Fr D W K s0 s)
    : Fr D W K s0 (doMsvcDiscard dt crc s) := by
  unfold doMsvcDiscard
  repeat' first
    | with_reducible assumption | (simp -zeta (disch := first | assumption | exact rfl) only [↓Fr.setMtr])
    | with_reducible apply Fr.ite | with_reducible apply State.tick_frame | with_reducible apply State.service_frame
    | with_reducible apply State.serve_frame
    | (extract_lets +onlyGivenNames x; refine Fr.cut (D := D) (W := W) (K := K) (s0 := s0) (x := x) ?_ ?_; (on_goal 1 => dsimp -zeta only [x]); (on_goal 2 => intro hx; clear_value x))
    | (extract_lets +onlyGivenNames y) | split | (intro v w hv) | (intro v hv)

theorem State.mbRequest_frame (s : State) (op : Nat) (args : List Nat) (hE : Ev W K) (r_MTR_MB_ARG : ∀ i, W (MTR_MB_ARG i))
    (r_MTR_MB_CTRL : W MTR_MB_CTRL) (r_MTR_MB_STATUS : W MTR_MB_STATUS) (k_mtr : K .mtr) (h_s : Fr D W K s0 s)
    : Fr D W K s0 (State.mbRequest s op args) := by
  unfold State.mbRequest
  repeat' first
    | with_reducible assumption | (simp -zeta (disch := first | assumption | exact rfl) only [↓Fr.setMtr])
    | with_reducible apply Fr.ite | with_reducible apply State.accessEvent_frame | with_reducible apply State.wrN_frame
    | with_reducible apply State.put_frame | (with_reducible apply foldOver_frame; intro a t ht)
    | with_reducible apply r_MTR_MB_ARG
    | (extract_lets +onlyGivenNames x; refine Fr.cut (D := D) (W := W) (K := K) (s0 := s0) (x := x) ?_ ?_; (on_goal 1 => dsimp -zeta only [x]); (on_goal 2 => intro hx; clear_value x))
    | (extract_lets +onlyGivenNames y) | split | (intro v w hv) | (intro v hv)

theorem doReadId_frame (dt : Nat) (s : State) (hE : Ev W K) (r_MTR_MB_ARG : ∀ i, W (MTR_MB_ARG i))
    (r_MTR_MB_CTRL : W MTR_MB_CTRL) (r_MTR_MB_STATUS : W MTR_MB_STATUS) (k_mtr : K .mtr) (h_s : Fr D W K s0 s)
    : Fr D W K s0 (doReadId dt s) := by
  unfold doReadId
  repeat' first
    | with_reducible assumption | with_reducible apply State.tick_frame | with_reducible apply State.onLive_frame
    | with_reducible apply State.mbRequest_frame | with_reducible apply r_MTR_MB_ARG | (intro v w hv) | (intro v hv)

theorem doReadStatus_frame (dt : Nat) (s : State) (hE : Ev W K) (r_MTR_MB_ARG : ∀ i, W (MTR_MB_ARG i))
    (r_MTR_MB_CTRL : W MTR_MB_CTRL) (r_MTR_MB_STATUS : W MTR_MB_STATUS) (k_mtr : K .mtr) (h_s : Fr D W K s0 s)
    : Fr D W K s0 (doReadStatus dt s) := by
  unfold doReadStatus
  repeat' first
    | with_reducible assumption | with_reducible apply State.tick_frame | with_reducible apply State.onLive_frame
    | with_reducible apply State.mbRequest_frame | with_reducible apply r_MTR_MB_ARG | (intro v w hv) | (intro v hv)

theorem doReadRecord_frame (dt seq : Nat) (s : State) (hE : Ev W K) (r_MTR_MB_ARG : ∀ i, W (MTR_MB_ARG i))
    (r_MTR_MB_CTRL : W MTR_MB_CTRL) (r_MTR_MB_STATUS : W MTR_MB_STATUS) (k_mtr : K .mtr) (h_s : Fr D W K s0 s)
    : Fr D W K s0 (doReadRecord dt seq s) := by
  unfold doReadRecord
  repeat' first
    | with_reducible assumption | with_reducible apply State.tick_frame | with_reducible apply State.onLive_frame
    | with_reducible apply State.mbRequest_frame | with_reducible apply r_MTR_MB_ARG | (intro v w hv) | (intro v hv)

theorem doExportRecord_frame (dt seq : Nat) (nonce : List Nat) (s : State) (hE : Ev W K)
    (r_MTR_MB_ARG : ∀ i, W (MTR_MB_ARG i)) (r_MTR_MB_CTRL : W MTR_MB_CTRL) (r_MTR_MB_STATUS : W MTR_MB_STATUS)
    (k_mtr : K .mtr) (h_s : Fr D W K s0 s) : Fr D W K s0 (doExportRecord dt seq nonce s) := by
  unfold doExportRecord
  repeat' first
    | with_reducible assumption | with_reducible apply State.tick_frame | with_reducible apply State.onLive_frame
    | with_reducible apply State.mbRequest_frame | with_reducible apply r_MTR_MB_ARG | (intro v w hv) | (intro v hv)

theorem doReadAudit_frame (dt count : Nat) (s : State) (hE : Ev W K) (r_MTR_MB_ARG : ∀ i, W (MTR_MB_ARG i))
    (r_MTR_MB_CTRL : W MTR_MB_CTRL) (r_MTR_MB_STATUS : W MTR_MB_STATUS) (k_mtr : K .mtr) (h_s : Fr D W K s0 s)
    : Fr D W K s0 (doReadAudit dt count s) := by
  unfold doReadAudit
  repeat' first
    | with_reducible assumption | with_reducible apply State.tick_frame | with_reducible apply State.onLive_frame
    | with_reducible apply State.mbRequest_frame | with_reducible apply r_MTR_MB_ARG | (intro v w hv) | (intro v hv)

theorem doReadParams_frame (dt : Nat) (s : State) (hE : Ev W K) (r_MTR_MB_ARG : ∀ i, W (MTR_MB_ARG i))
    (r_MTR_MB_CTRL : W MTR_MB_CTRL) (r_MTR_MB_STATUS : W MTR_MB_STATUS) (k_mtr : K .mtr) (h_s : Fr D W K s0 s)
    : Fr D W K s0 (doReadParams dt s) := by
  unfold doReadParams
  repeat' first
    | with_reducible assumption | with_reducible apply State.tick_frame | with_reducible apply State.onLive_frame
    | with_reducible apply State.mbRequest_frame | with_reducible apply r_MTR_MB_ARG | (intro v w hv) | (intro v hv)

theorem doSetHostTime_frame (dt lo hi : Nat) (s : State) (hE : Ev W K) (r_MTR_MB_ARG : ∀ i, W (MTR_MB_ARG i))
    (r_MTR_MB_CTRL : W MTR_MB_CTRL) (r_MTR_MB_STATUS : W MTR_MB_STATUS) (k_mtr : K .mtr) (h_s : Fr D W K s0 s)
    : Fr D W K s0 (doSetHostTime dt lo hi s) := by
  unfold doSetHostTime
  repeat' first
    | with_reducible assumption | with_reducible apply State.tick_frame | with_reducible apply State.onLive_frame
    | with_reducible apply State.mbRequest_frame | with_reducible apply r_MTR_MB_ARG | (intro v w hv) | (intro v hv)

theorem doReadCurrent_frame (dt : Nat) (s : State) (hE : Ev W K) (r_MTR_MB_ARG : ∀ i, W (MTR_MB_ARG i))
    (r_MTR_MB_CTRL : W MTR_MB_CTRL) (r_MTR_MB_STATUS : W MTR_MB_STATUS) (k_mtr : K .mtr) (h_s : Fr D W K s0 s)
    : Fr D W K s0 (doReadCurrent dt s) := by
  unfold doReadCurrent
  repeat' first
    | with_reducible assumption | with_reducible apply State.tick_frame | with_reducible apply State.onLive_frame
    | with_reducible apply State.mbRequest_frame | with_reducible apply r_MTR_MB_ARG | (intro v w hv) | (intro v hv)

theorem State.mbEnd_frame (s : State) (result : Nat) (bytes : List Byte) (r_MTR_MB_CTRL : W MTR_MB_CTRL)
    (r_MTR_MB_STATUS : W MTR_MB_STATUS) (k_mtr : K .mtr) (h_s : Fr D W K s0 s)
    : Fr D W K s0 (State.mbEnd s result bytes) := by
  unfold State.mbEnd
  repeat' first
    | with_reducible assumption | (simp -zeta (disch := first | assumption | exact rfl) only [↓Fr.setMtr])
    | with_reducible apply State.put_frame
    | (extract_lets +onlyGivenNames x; refine Fr.cut (D := D) (W := W) (K := K) (s0 := s0) (x := x) ?_ ?_; (on_goal 1 => dsimp -zeta only [x]); (on_goal 2 => intro hx; clear_value x))
    | (extract_lets +onlyGivenNames y)

theorem doMtrMbAnswer_frame (dt : Nat) (s : State) (r_MTR_MB_CTRL : W MTR_MB_CTRL) (r_MTR_MB_STATUS : W MTR_MB_STATUS)
    (k_fresh : K .fresh) (k_mtr : K .mtr) (h_s : Fr D W K s0 s) : Fr D W K s0 (doMtrMbAnswer dt s) := by
  unfold doMtrMbAnswer
  repeat' first
    | with_reducible assumption | (simp -zeta (disch := first | assumption | exact rfl) only [↓Fr.setMtr])
    | with_reducible apply Fr.ite | with_reducible apply State.tick_frame | with_reducible apply State.onLiveIf_frame
    | with_reducible apply State.mbEnd_frame | with_reducible apply State.useFree_frame
    | (extract_lets +onlyGivenNames x; refine Fr.cut (D := D) (W := W) (K := K) (s0 := s0) (x := x) ?_ ?_; (on_goal 1 => dsimp -zeta only [x]); (on_goal 2 => intro hx; clear_value x))
    | (extract_lets +onlyGivenNames y) | split | (intro v w hv) | (intro v hv)

theorem doMtrMbTimeout_frame (dt : Nat) (s : State) (r_MTR_MB_CTRL : W MTR_MB_CTRL) (r_MTR_MB_STATUS : W MTR_MB_STATUS)
    (k_mtr : K .mtr) (h_s : Fr D W K s0 s) : Fr D W K s0 (doMtrMbTimeout dt s) := by
  unfold doMtrMbTimeout
  repeat' first
    | with_reducible assumption | with_reducible apply Fr.ite | with_reducible apply State.tick_frame
    | with_reducible apply State.onLiveIf_frame | with_reducible apply State.mbEnd_frame
    | (extract_lets +onlyGivenNames x; refine Fr.cut (D := D) (W := W) (K := K) (s0 := s0) (x := x) ?_ ?_; (on_goal 1 => dsimp -zeta only [x]); (on_goal 2 => intro hx; clear_value x))
    | (extract_lets +onlyGivenNames y) | split | (intro v w hv) | (intro v hv)

theorem doMeterLinkUp_frame (dt : Nat) (s : State) (r_MTR_MB_STATUS : W MTR_MB_STATUS) (h_s : Fr D W K s0 s)
    : Fr D W K s0 (doMeterLinkUp dt s) := by
  unfold doMeterLinkUp
  repeat' first
    | with_reducible assumption | with_reducible apply State.tick_frame | with_reducible apply State.onLiveIf_frame
    | with_reducible apply State.put_frame
    | (extract_lets +onlyGivenNames x; refine Fr.cut (D := D) (W := W) (K := K) (s0 := s0) (x := x) ?_ ?_; (on_goal 1 => dsimp -zeta only [x]); (on_goal 2 => intro hx; clear_value x))
    | (extract_lets +onlyGivenNames y) | (intro v w hv) | (intro v hv)

theorem State.setSource_frame (s : State) (src : Nat) (on : Bool) (hE : Ev W K) (r_THM_THROTTLE : W THM_THROTTLE)
    (k_thm : K .thm) (h_s : Fr D W K s0 s) : Fr D W K s0 (State.setSource s src on) := by
  unfold State.setSource
  repeat' first
    | with_reducible assumption | (simp -zeta (disch := first | assumption | exact rfl) only [↓Fr.setThm])
    | with_reducible apply Fr.ite | with_reducible apply State.put_frame | with_reducible apply State.inc_frame
    | with_reducible apply State.raise_frame
    | (extract_lets +onlyGivenNames x; refine Fr.cut (D := D) (W := W) (K := K) (s0 := s0) (x := x) ?_ ?_; (on_goal 1 => dsimp -zeta only [x]); (on_goal 2 => intro hx; clear_value x))
    | (extract_lets +onlyGivenNames y) | split

theorem State.applyLmpMap_frame (s : State) (r_LMP_CHAIN_CFG : ∀ i, W (LMP_CHAIN_CFG i))
    (r_LMP_CHAIN_CFG2 : ∀ i, W (LMP_CHAIN_CFG2 i)) (r_LMP_GROUP_CFG : ∀ i, W (LMP_GROUP_CFG i))
    (r_LMP_PKG_LIMIT : W LMP_PKG_LIMIT) (r_LMP_PS_CH_CFG : ∀ i, W (LMP_PS_CH_CFG i))
    (r_LMP_RAIL_CEILING : ∀ i, W (LMP_RAIL_CEILING i)) (r_LMP_RAIL_LIMIT : ∀ i, W (LMP_RAIL_LIMIT i)) (h_s : Fr D W K s0 s)
    : Fr D W K s0 (State.applyLmpMap s) := by
  unfold State.applyLmpMap
  repeat' first
    | with_reducible assumption | with_reducible apply State.put_frame | with_reducible apply State.putB_frame
    | (with_reducible apply foldOver_frame; intro a t ht) | with_reducible apply r_LMP_CHAIN_CFG
    | with_reducible apply r_LMP_CHAIN_CFG2 | with_reducible apply r_LMP_GROUP_CFG | with_reducible apply r_LMP_PS_CH_CFG
    | with_reducible apply r_LMP_RAIL_CEILING | with_reducible apply r_LMP_RAIL_LIMIT
    | (extract_lets +onlyGivenNames x; refine Fr.cut (D := D) (W := W) (K := K) (s0 := s0) (x := x) ?_ ?_; (on_goal 1 => dsimp -zeta only [x]); (on_goal 2 => intro hx; clear_value x))
    | (extract_lets +onlyGivenNames y) | (intro v w hv) | (intro v hv)

theorem State.checkLamps_frame (s : State) (hE : Ev W K) (k_lmp : K .lmp) (h_s : Fr D W K s0 s)
    : Fr D W K s0 (State.checkLamps s) := by
  unfold State.checkLamps
  repeat' first
    | with_reducible assumption | (simp -zeta (disch := first | assumption | exact rfl) only [↓Fr.setLmp])
    | with_reducible apply State.raise_frame | (with_reducible apply foldOver_frame; intro a t ht)
    | (extract_lets +onlyGivenNames x; refine Fr.cut (D := D) (W := W) (K := K) (s0 := s0) (x := x) ?_ ?_; (on_goal 1 => dsimp -zeta only [x]); (on_goal 2 => intro hx; clear_value x))
    | (extract_lets +onlyGivenNames y) | (intro v w hv) | (intro v hv)

theorem State.commitLamps_frame (s : State) (hE : Ev W K) (k_lmp : K .lmp) (h_s : Fr D W K s0 s)
    : Fr D W K s0 (State.commitLamps s) := by
  unfold State.commitLamps
  repeat' first
    | with_reducible assumption | (simp -zeta (disch := first | assumption | exact rfl) only [↓Fr.setLmp])
    | with_reducible apply Fr.ite | with_reducible apply State.checkLamps_frame
    | (extract_lets +onlyGivenNames x; refine Fr.cut (D := D) (W := W) (K := K) (s0 := s0) (x := x) ?_ ?_; (on_goal 1 => dsimp -zeta only [x]); (on_goal 2 => intro hx; clear_value x))
    | (extract_lets +onlyGivenNames y) | split | (intro v w hv) | (intro v hv)

theorem State.showLamp_frame (s : State) (r_LMP_LAMP_DATA : ∀ i, W (LMP_LAMP_DATA i)) (h_s : Fr D W K s0 s)
    : Fr D W K s0 (State.showLamp s) := by
  unfold State.showLamp
  repeat' first
    | with_reducible assumption | with_reducible apply State.wrN_frame | (with_reducible apply foldOver_frame; intro a t ht)
    | with_reducible apply r_LMP_LAMP_DATA
    | (extract_lets +onlyGivenNames x; refine Fr.cut (D := D) (W := W) (K := K) (s0 := s0) (x := x) ?_ ?_; (on_goal 1 => dsimp -zeta only [x]); (on_goal 2 => intro hx; clear_value x))
    | (extract_lets +onlyGivenNames y) | (intro v w hv) | (intro v hv)

theorem State.writeLamp_frame (s : State) (k v : Nat) (r_LMP_LAMP_DATA : ∀ i, W (LMP_LAMP_DATA i)) (k_lmp : K .lmp)
    (h_s : Fr D W K s0 s) : Fr D W K s0 (State.writeLamp s k v).1 := by
  unfold State.writeLamp
  repeat' first
    | with_reducible assumption | (simp -zeta (disch := first | assumption | exact rfl) only [↓Fr.setLmp])
    | with_reducible apply Fr.ite1 | with_reducible apply Fr.ite | with_reducible apply State.showLamp_frame
    | with_reducible apply r_LMP_LAMP_DATA
    | (extract_lets +onlyGivenNames x; refine Fr.cut (D := D) (W := W) (K := K) (s0 := s0) (x := x) ?_ ?_; (on_goal 1 => dsimp -zeta only [x]); (on_goal 2 => intro hx; clear_value x))
    | (extract_lets +onlyGivenNames y) | split

theorem State.setPos_frame (s : State) (e : Nat) (x : PosSt) (k_lmp : K .lmp) (h_s : Fr D W K s0 s)
    : Fr D W K s0 (State.setPos s e x) := by
  unfold State.setPos
  repeat' first
    | with_reducible assumption | (simp -zeta (disch := first | assumption | exact rfl) only [↓Fr.setLmp])
    | (extract_lets +onlyGivenNames x; refine Fr.cut (D := D) (W := W) (K := K) (s0 := s0) (x := x) ?_ ?_; (on_goal 1 => dsimp -zeta only [x]); (on_goal 2 => intro hx; clear_value x))
    | (extract_lets +onlyGivenNames y)

theorem State.showPos_frame (s : State) (r_LMP_POS_CURRENT : W LMP_POS_CURRENT) (r_LMP_POS_FACTOR : W LMP_POS_FACTOR)
    (r_LMP_POS_STATE : W LMP_POS_STATE) (h_s : Fr D W K s0 s) : Fr D W K s0 (State.showPos s) := by
  unfold State.showPos
  repeat' first
    | with_reducible assumption | with_reducible apply Fr.ite | with_reducible apply State.put_frame
    | (extract_lets +onlyGivenNames x; refine Fr.cut (D := D) (W := W) (K := K) (s0 := s0) (x := x) ?_ ?_; (on_goal 1 => dsimp -zeta only [x]); (on_goal 2 => intro hx; clear_value x))
    | (extract_lets +onlyGivenNames y) | split

theorem State.setChain_frame (s : State) (c : Nat) (x : ChainSt) (k_lmp : K .lmp) (h_s : Fr D W K s0 s)
    : Fr D W K s0 (State.setChain s c x) := by
  unfold State.setChain
  repeat' first
    | with_reducible assumption | (simp -zeta (disch := first | assumption | exact rfl) only [↓Fr.setLmp])
    | (extract_lets +onlyGivenNames x; refine Fr.cut (D := D) (W := W) (K := K) (s0 := s0) (x := x) ?_ ?_; (on_goal 1 => dsimp -zeta only [x]); (on_goal 2 => intro hx; clear_value x))
    | (extract_lets +onlyGivenNames y)

theorem State.showLight_frame (s : State) (g : Nat) (r_LMP_GROUP_LIGHT : W (LMP_GROUP_LIGHT g)) (h_s : Fr D W K s0 s)
    : Fr D W K s0 (State.showLight s g) := by
  unfold State.showLight
  repeat' first
    | with_reducible assumption | with_reducible apply State.put_frame | (intro v w hv) | (intro v hv)

theorem State.latchLight_frame (s : State) (light duty gamma : Tbl Nat) (r_COL_PRIM_LIGHT : ∀ i, W (COL_PRIM_LIGHT i))
    (r_COL_PRIM_XY : ∀ i, W (COL_PRIM_XY i)) (r_LMP_GROUP_LIGHT : ∀ i, W (LMP_GROUP_LIGHT i)) (k_col : K .col)
    (k_lmp : K .lmp) (h_s : Fr D W K s0 s) : Fr D W K s0 (State.latchLight s light duty gamma) := by
  unfold State.latchLight
  repeat' first
    | with_reducible assumption | (simp -zeta (disch := first | assumption | exact rfl) only [↓Fr.setColLmp])
    | with_reducible apply State.showLight_frame | with_reducible apply State.showPrims_frame
    | (with_reducible apply foldOver_frame; intro a t ht) | with_reducible apply r_COL_PRIM_LIGHT
    | with_reducible apply r_COL_PRIM_XY | with_reducible apply r_LMP_GROUP_LIGHT
    | (extract_lets +onlyGivenNames x; refine Fr.cut (D := D) (W := W) (K := K) (s0 := s0) (x := x) ?_ ?_; (on_goal 1 => dsimp -zeta only [x]); (on_goal 2 => intro hx; clear_value x))
    | (extract_lets +onlyGivenNames y) | (intro v w hv) | (intro v hv)

theorem State.formDerates_frame (s : State) (c : Nat) (hE : Ev W K) (r_LMP_POS_CURRENT : W LMP_POS_CURRENT)
    (r_LMP_POS_FACTOR : W LMP_POS_FACTOR) (r_LMP_POS_STATE : W LMP_POS_STATE) (k_lmp : K .lmp) (h_s : Fr D W K s0 s)
    : Fr D W K s0 (State.formDerates s c) := by
  unfold State.formDerates
  repeat' first
    | with_reducible assumption | with_reducible apply Fr.ite | with_reducible apply State.setPos_frame
    | with_reducible apply State.raise_frame | with_reducible apply State.showPos_frame
    | (with_reducible apply foldOver_frame; intro a t ht)
    | (extract_lets +onlyGivenNames x; refine Fr.cut (D := D) (W := W) (K := K) (s0 := s0) (x := x) ?_ ?_; (on_goal 1 => dsimp -zeta only [x]); (on_goal 2 => intro hx; clear_value x))
    | (extract_lets +onlyGivenNames y) | split | (intro v w hv) | (intro v hv)

theorem doChainUpdateStart_frame (dt c : Nat) (s : State) (hE : Ev W K) (r_COL_PRIM_LIGHT : ∀ i, W (COL_PRIM_LIGHT i))
    (r_COL_PRIM_XY : ∀ i, W (COL_PRIM_XY i)) (r_LMP_CHAIN_STATUS : W (LMP_CHAIN_STATUS c))
    (r_LMP_GROUP_LIGHT : ∀ i, W (LMP_GROUP_LIGHT i)) (r_LMP_POS_CURRENT : W LMP_POS_CURRENT)
    (r_LMP_POS_FACTOR : W LMP_POS_FACTOR) (r_LMP_POS_STATE : W LMP_POS_STATE) (k_out : K .out) (k_col : K .col)
    (k_lmp : K .lmp) (h_s : Fr D W K s0 s) : Fr D W K s0 (doChainUpdateStart dt c s) := by
  unfold doChainUpdateStart
  repeat' first
    | with_reducible assumption | with_reducible apply Fr.ite | with_reducible apply State.tick_frame
    | with_reducible apply State.onLiveIf_frame | with_reducible apply State.formDerates_frame
    | with_reducible apply State.put_frame | with_reducible apply State.setChain_frame
    | with_reducible apply State.send_frame | with_reducible apply State.latchLight_frame
    | with_reducible apply r_COL_PRIM_LIGHT | with_reducible apply r_COL_PRIM_XY | with_reducible apply r_LMP_GROUP_LIGHT
    | (extract_lets +onlyGivenNames x; refine Fr.cut (D := D) (W := W) (K := K) (s0 := s0) (x := x) ?_ ?_; (on_goal 1 => dsimp -zeta only [x]); (on_goal 2 => intro hx; clear_value x))
    | (extract_lets +onlyGivenNames y) | split | (clear_value y; split) | (intro v w hv) | (intro v hv)

theorem State.setEngine_frame (s : State) (n : Nat) (x : EngineSt) (k_scn : K .scn) (h_s : Fr D W K s0 s)
    : Fr D W K s0 (State.setEngine s n x) := by
  unfold State.setEngine
  repeat' first
    | with_reducible assumption | (simp -zeta (disch := first | assumption | exact rfl) only [↓Fr.setScn])
    | (extract_lets +onlyGivenNames x; refine Fr.cut (D := D) (W := W) (K := K) (s0 := s0) (x := x) ?_ ?_; (on_goal 1 => dsimp -zeta only [x]); (on_goal 2 => intro hx; clear_value x))
    | (extract_lets +onlyGivenNames y)

theorem State.scanDark_frame (s : State) (n : Nat) (k_out : K .out) (k_scn : K .scn) (h_s : Fr D W K s0 s)
    : Fr D W K s0 (State.scanDark s n) := by
  unfold State.scanDark
  repeat' first
    | with_reducible assumption | with_reducible apply Fr.ite | with_reducible apply State.setEngine_frame
    | with_reducible apply State.send_frame
    | (extract_lets +onlyGivenNames x; refine Fr.cut (D := D) (W := W) (K := K) (s0 := s0) (x := x) ?_ ?_; (on_goal 1 => dsimp -zeta only [x]); (on_goal 2 => intro hx; clear_value x))
    | (extract_lets +onlyGivenNames y) | split

theorem State.hbUpdate_frame (s : State) (hE : Ev W K) (r_LMP_HB : W LMP_HB) (r_LMP_SAFETY : W LMP_SAFETY) (k_out : K .out)
    (k_scn : K .scn) (k_lmp : K .lmp) (h_s : Fr D W K s0 s) : Fr D W K s0 (State.hbUpdate s) := by
  unfold State.hbUpdate
  repeat' first
    | with_reducible assumption | (simp -zeta (disch := first | assumption | exact rfl) only [↓Fr.setLmp])
    | with_reducible apply Fr.ite | with_reducible apply State.put_frame | with_reducible apply State.scanDark_frame
    | with_reducible apply State.putB_frame | with_reducible apply State.incSat_frame | with_reducible apply State.raise_frame
    | (with_reducible apply foldOver_frame; intro a t ht)
    | (extract_lets +onlyGivenNames x; refine Fr.cut (D := D) (W := W) (K := K) (s0 := s0) (x := x) ?_ ?_; (on_goal 1 => dsimp -zeta only [x]); (on_goal 2 => intro hx; clear_value x))
    | (extract_lets +onlyGivenNames y) | split | (intro v w hv) | (intro v hv)

theorem State.stopBoundary_frame (s : State) (hE : Ev W K) (r_LMP_SAFETY : W LMP_SAFETY) (k_lmp : K .lmp)
    (h_s : Fr D W K s0 s) : Fr D W K s0 (State.stopBoundary s) := by
  unfold State.stopBoundary
  repeat' first
    | with_reducible assumption | (simp -zeta (disch := first | assumption | exact rfl) only [↓Fr.setLmp])
    | with_reducible apply Fr.ite | with_reducible apply State.put_frame | with_reducible apply State.raiseB_frame
    | (extract_lets +onlyGivenNames x; refine Fr.cut (D := D) (W := W) (K := K) (s0 := s0) (x := x) ?_ ?_; (on_goal 1 => dsimp -zeta only [x]); (on_goal 2 => intro hx; clear_value x))
    | (extract_lets +onlyGivenNames y) | split | (intro v w hv) | (intro v hv)

theorem doWatchdogToken_frame (dt hi lo : Nat) (s : State) (k_lmp : K .lmp) (h_s : Fr D W K s0 s)
    : Fr D W K s0 (doWatchdogToken dt hi lo s) := by
  unfold doWatchdogToken
  repeat' first
    | with_reducible assumption | (simp -zeta (disch := first | assumption | exact rfl) only [↓Fr.setLmp])
    | with_reducible apply Fr.ite | with_reducible apply State.tick_frame | with_reducible apply State.onLiveIf_frame
    | (extract_lets +onlyGivenNames x; refine Fr.cut (D := D) (W := W) (K := K) (s0 := s0) (x := x) ?_ ?_; (on_goal 1 => dsimp -zeta only [x]); (on_goal 2 => intro hx; clear_value x))
    | (extract_lets +onlyGivenNames y) | split | (intro v w hv) | (intro v hv)

theorem doWatchdogExpiry_frame (dt timer : Nat) (s : State) (hE : Ev W K) (r_LMP_HB : W LMP_HB) (r_LMP_SAFETY : W LMP_SAFETY)
    (k_out : K .out) (k_scn : K .scn) (k_lmp : K .lmp) (h_s : Fr D W K s0 s) : Fr D W K s0 (doWatchdogExpiry dt timer s) := by
  unfold doWatchdogExpiry
  repeat' first
    | with_reducible assumption | (simp -zeta (disch := first | assumption | exact rfl) only [↓Fr.setLmp])
    | with_reducible apply Fr.ite | with_reducible apply State.tick_frame | with_reducible apply State.onLiveIf_frame
    | with_reducible apply State.hbUpdate_frame
    | (extract_lets +onlyGivenNames x; refine Fr.cut (D := D) (W := W) (K := K) (s0 := s0) (x := x) ?_ ?_; (on_goal 1 => dsimp -zeta only [x]); (on_goal 2 => intro hx; clear_value x))
    | (extract_lets +onlyGivenNames y) | split | (intro v w hv) | (intro v hv)

theorem State.watchdogBoundary_frame (s : State) (r_LMP_HB : W LMP_HB) (k_lmp : K .lmp) (h_s : Fr D W K s0 s)
    : Fr D W K s0 (State.watchdogBoundary s) := by
  unfold State.watchdogBoundary
  repeat' first
    | with_reducible assumption | (simp -zeta (disch := first | assumption | exact rfl) only [↓Fr.setLmp])
    | with_reducible apply Fr.ite | with_reducible apply State.inc_frame
    | (extract_lets +onlyGivenNames x; refine Fr.cut (D := D) (W := W) (K := K) (s0 := s0) (x := x) ?_ ?_; (on_goal 1 => dsimp -zeta only [x]); (on_goal 2 => intro hx; clear_value x))
    | (extract_lets +onlyGivenNames y) | split

theorem State.raiseLine_frame (s : State) (l : Nat) (g : GateSt) (k_out : K .out) (k_lmp : K .lmp) (h_s : Fr D W K s0 s)
    : Fr D W K s0 (State.raiseLine s l g) := by
  unfold State.raiseLine
  repeat' first
    | with_reducible assumption | (simp -zeta (disch := first | assumption | exact rfl) only [↓Fr.setLmp])
    | with_reducible apply State.send_frame
    | (extract_lets +onlyGivenNames x; refine Fr.cut (D := D) (W := W) (K := K) (s0 := s0) (x := x) ?_ ?_; (on_goal 1 => dsimp -zeta only [x]); (on_goal 2 => intro hx; clear_value x))
    | (extract_lets +onlyGivenNames y)

theorem State.dropLines_frame (s : State) (lines : List Nat) (k_out : K .out) (k_lmp : K .lmp) (h_s : Fr D W K s0 s)
    : Fr D W K s0 (State.dropLines s lines) := by
  unfold State.dropLines
  repeat' first
    | with_reducible assumption | (simp -zeta (disch := first | assumption | exact rfl) only [↓Fr.setLmp])
    | with_reducible apply Fr.ite | with_reducible apply State.send_frame
    | (with_reducible apply foldOver_frame; intro a t ht)
    | (extract_lets +onlyGivenNames x; refine Fr.cut (D := D) (W := W) (K := K) (s0 := s0) (x := x) ?_ ?_; (on_goal 1 => dsimp -zeta only [x]); (on_goal 2 => intro hx; clear_value x))
    | (extract_lets +onlyGivenNames y) | split | (intro v w hv) | (intro v hv)

theorem State.allGatesLow_frame (s : State) (k_out : K .out) (k_lmp : K .lmp) (h_s : Fr D W K s0 s)
    : Fr D W K s0 (State.allGatesLow s) := by
  unfold State.allGatesLow
  repeat' first
    | with_reducible assumption | with_reducible apply State.dropLines_frame

theorem doGateEdge_frame (dt o slot line : Nat) (rise : Bool) (s : State) (r_LMP_STATUS : W LMP_STATUS) (k_out : K .out)
    (k_seq : K .seq) (k_lmp : K .lmp) (h_s : Fr D W K s0 s) : Fr D W K s0 (doGateEdge dt o slot line rise s) := by
  unfold doGateEdge
  repeat' first
    | with_reducible assumption | with_reducible apply Fr.ite | with_reducible apply State.tick_frame
    | with_reducible apply State.onLive_frame | with_reducible apply State.takeEvent_frame
    | with_reducible apply State.inc_frame | with_reducible apply State.raiseLine_frame
    | with_reducible apply State.dropLines_frame
    | (extract_lets +onlyGivenNames x; refine Fr.cut (D := D) (W := W) (K := K) (s0 := s0) (x := x) ?_ ?_; (on_goal 1 => dsimp -zeta only [x]); (on_goal 2 => intro hx; clear_value x))
    | (extract_lets +onlyGivenNames y) | split | (clear_value y; split) | (intro v w hv) | (intro v hv)

theorem doCurrentStep_frame (dt o slot : Nat) (s : State) (k_out : K .out) (k_seq : K .seq) (k_lmp : K .lmp)
    (h_s : Fr D W K s0 s) : Fr D W K s0 (doCurrentStep dt o slot s) := by
  unfold doCurrentStep
  repeat' first
    | with_reducible assumption | (simp -zeta (disch := first | assumption | exact rfl) only [↓Fr.setLmp])
    | with_reducible apply Fr.ite | (with_reducible apply foldOver_frame; intro a t ht)
    | with_reducible apply State.tick_frame | with_reducible apply State.onLiveIf_frame
    | with_reducible apply State.takeEvent_frame | with_reducible apply State.send_frame
    | (extract_lets +onlyGivenNames x; refine Fr.cut (D := D) (W := W) (K := K) (s0 := s0) (x := x) ?_ ?_; (on_goal 1 => dsimp -zeta only [x]); (on_goal 2 => intro hx; clear_value x))
    | (extract_lets +onlyGivenNames y) | split | (clear_value y; split) | (intro v w hv) | (intro v hv)

theorem State.latchChain_frame (s : State) (c : Nat) (u : UpdSt) (r_COL_PRIM_LIGHT : ∀ i, W (COL_PRIM_LIGHT i))
    (r_COL_PRIM_LOOP : ∀ i, W (COL_PRIM_LOOP i)) (r_COL_PRIM_XY : ∀ i, W (COL_PRIM_XY i))
    (r_LMP_CHAIN_LAST_LATCH : W (LMP_CHAIN_LAST_LATCH c)) (r_LMP_GROUP_LIGHT : ∀ i, W (LMP_GROUP_LIGHT i))
    (r_LMP_POS_CURRENT : W LMP_POS_CURRENT) (r_LMP_POS_FACTOR : W LMP_POS_FACTOR) (r_LMP_POS_STATE : W LMP_POS_STATE)
    (k_out : K .out) (k_col : K .col) (k_lmp : K .lmp) (h_s : Fr D W K s0 s) : Fr D W K s0 (State.latchChain s c u) := by
  unfold State.latchChain
  repeat' first
    | with_reducible assumption | (simp -zeta (disch := first | assumption | exact rfl) only [↓Fr.setLmp])
    | with_reducible apply Fr.ite | with_reducible apply State.send_frame | with_reducible apply State.put_frame
    | with_reducible apply State.setPos_frame | with_reducible apply State.setChain_frame
    | with_reducible apply State.latchTrims_frame | with_reducible apply State.latchLight_frame
    | with_reducible apply State.showPos_frame | (with_reducible apply foldOver_frame; intro a t ht)
    | with_reducible apply r_COL_PRIM_LIGHT | with_reducible apply r_COL_PRIM_LOOP | with_reducible apply r_COL_PRIM_XY
    | with_reducible apply r_LMP_GROUP_LIGHT
    | (extract_lets +onlyGivenNames x; refine Fr.cut (D := D) (W := W) (K := K) (s0 := s0) (x := x) ?_ ?_; (on_goal 1 => dsimp -zeta only [x]); (on_goal 2 => intro hx; clear_value x))
    | (extract_lets +onlyGivenNames y) | split | (intro v w hv) | (intro v hv) | (clear_value y; split)

theorem doChainLatch_frame (dt c : Nat) (s : State) (r_COL_PRIM_LIGHT : ∀ i, W (COL_PRIM_LIGHT i))
    (r_COL_PRIM_LOOP : ∀ i, W (COL_PRIM_LOOP i)) (r_COL_PRIM_XY : ∀ i, W (COL_PRIM_XY i))
    (r_LMP_CHAIN_LAST_LATCH : W (LMP_CHAIN_LAST_LATCH c)) (r_LMP_GROUP_LIGHT : ∀ i, W (LMP_GROUP_LIGHT i))
    (r_LMP_POS_CURRENT : W LMP_POS_CURRENT) (r_LMP_POS_FACTOR : W LMP_POS_FACTOR) (r_LMP_POS_STATE : W LMP_POS_STATE)
    (k_out : K .out) (k_col : K .col) (k_seq : K .seq) (k_lmp : K .lmp) (h_s : Fr D W K s0 s)
    : Fr D W K s0 (doChainLatch dt c s) := by
  unfold doChainLatch
  repeat' first
    | with_reducible assumption | with_reducible apply Fr.ite | with_reducible apply State.tick_frame
    | with_reducible apply State.onLiveIf_frame | with_reducible apply State.takeEvent_frame
    | with_reducible apply State.latchChain_frame | with_reducible apply r_COL_PRIM_LIGHT
    | with_reducible apply r_COL_PRIM_LOOP | with_reducible apply r_COL_PRIM_XY | with_reducible apply r_LMP_GROUP_LIGHT
    | (extract_lets +onlyGivenNames x; refine Fr.cut (D := D) (W := W) (K := K) (s0 := s0) (x := x) ?_ ?_; (on_goal 1 => dsimp -zeta only [x]); (on_goal 2 => intro hx; clear_value x))
    | (extract_lets +onlyGivenNames y) | split | (clear_value y; split) | (intro v w hv) | (intro v hv)

theorem State.takeReadback_frame (s : State) (e w : Nat) (hE : Ev W K) (r_LMP_CHAIN_FAILS : W (LMP_CHAIN_FAILS (e / 256)))
    (k_lmp : K .lmp) (h_s : Fr D W K s0 s) : Fr D W K s0 (State.takeReadback s e w) := by
  unfold State.takeReadback
  repeat' first
    | with_reducible assumption | with_reducible apply Fr.ite | with_reducible apply State.incSat_frame
    | with_reducible apply State.setPos_frame | with_reducible apply State.raise_frame
    | (extract_lets +onlyGivenNames x; refine Fr.cut (D := D) (W := W) (K := K) (s0 := s0) (x := x) ?_ ?_; (on_goal 1 => dsimp -zeta only [x]); (on_goal 2 => intro hx; clear_value x))
    | (extract_lets +onlyGivenNames y) | split

theorem State.breakChain_frame (s : State) (c : Nat) (hE : Ev W K) (r_LMP_CHAIN_STATUS : W (LMP_CHAIN_STATUS c))
    (r_LMP_HB : W LMP_HB) (r_LMP_SAFETY : W LMP_SAFETY) (k_out : K .out) (k_scn : K .scn) (k_lmp : K .lmp)
    (h_s : Fr D W K s0 s) : Fr D W K s0 (State.breakChain s c) := by
  unfold State.breakChain
  repeat' first
    | with_reducible assumption | with_reducible apply Fr.ite | with_reducible apply State.put_frame
    | with_reducible apply State.raise_frame | with_reducible apply State.hbUpdate_frame | split

theorem doChainUpdateEnd_frame (dt c delay marker : Nat) (words : List Nat) (s : State) (hE : Ev W K)
    (r_LMP_CHAIN_FAILS : ∀ i, W (LMP_CHAIN_FAILS i)) (r_LMP_CHAIN_STATUS : W (LMP_CHAIN_STATUS c)) (r_LMP_HB : W LMP_HB)
    (r_LMP_POS_CURRENT : W LMP_POS_CURRENT) (r_LMP_POS_FACTOR : W LMP_POS_FACTOR) (r_LMP_POS_STATE : W LMP_POS_STATE)
    (r_LMP_SAFETY : W LMP_SAFETY) (k_out : K .out) (k_scn : K .scn) (k_lmp : K .lmp) (h_s : Fr D W K s0 s)
    : Fr D W K s0 (doChainUpdateEnd dt c delay marker words s) := by
  unfold doChainUpdateEnd
  repeat' first
    | with_reducible assumption | with_reducible apply Fr.ite | with_reducible apply State.tick_frame
    | with_reducible apply State.onLiveIf_frame | with_reducible apply State.put_frame
    | with_reducible apply State.takeReadback_frame | with_reducible apply State.setPos_frame
    | with_reducible apply State.setChain_frame | with_reducible apply State.incSat_frame
    | with_reducible apply State.breakChain_frame | with_reducible apply State.showPos_frame
    | with_reducible apply State.raise_frame | with_reducible apply State.hbUpdate_frame
    | (with_reducible apply foldOver_frame; intro a t ht) | with_reducible apply r_LMP_CHAIN_FAILS
    | (extract_lets +onlyGivenNames x; refine Fr.cut (D := D) (W := W) (K := K) (s0 := s0) (x := x) ?_ ?_; (on_goal 1 => dsimp -zeta only [x]); (on_goal 2 => intro hx; clear_value x))
    | (extract_lets +onlyGivenNames y) | split | (intro v w hv) | (intro v hv) | (clear_value y; split)

theorem State.startChains_frame (s : State) (hE : Ev W K) (r_LMP_CHAIN_STATUS : ∀ i, W (LMP_CHAIN_STATUS i))
    (r_LMP_HB : W LMP_HB) (r_LMP_SAFETY : W LMP_SAFETY) (k_out : K .out) (k_scn : K .scn) (k_lmp : K .lmp)
    (h_s : Fr D W K s0 s) : Fr D W K s0 (State.startChains s) := by
  unfold State.startChains
  repeat' first
    | with_reducible assumption | with_reducible apply State.put_frame | with_reducible apply State.setChain_frame
    | with_reducible apply State.hbUpdate_frame | (with_reducible apply foldOver_frame; intro a t ht)
    | with_reducible apply r_LMP_CHAIN_STATUS | (intro v w hv) | (intro v hv)

theorem doPositionClearFault_frame (dt : Nat) (s : State) (r_LMP_POS_CURRENT : W LMP_POS_CURRENT)
    (r_LMP_POS_FACTOR : W LMP_POS_FACTOR) (r_LMP_POS_STATE : W LMP_POS_STATE) (k_lmp : K .lmp) (h_s : Fr D W K s0 s)
    : Fr D W K s0 (doPositionClearFault dt s) := by
  unfold doPositionClearFault
  repeat' first
    | with_reducible assumption | with_reducible apply State.tick_frame | with_reducible apply State.onReach_frame
    | with_reducible apply State.setPos_frame | with_reducible apply State.showPos_frame
    | (extract_lets +onlyGivenNames x; refine Fr.cut (D := D) (W := W) (K := K) (s0 := s0) (x := x) ?_ ?_; (on_goal 1 => dsimp -zeta only [x]); (on_goal 2 => intro hx; clear_value x))
    | (extract_lets +onlyGivenNames y) | (intro v w hv) | (intro v hv)

theorem doInterlockOpen_frame (dt ns : Nat) (s : State) (hE : Ev W K) (r_LMP_HB : W LMP_HB) (r_LMP_SAFETY : W LMP_SAFETY)
    (k_out : K .out) (k_scn : K .scn) (k_lmp : K .lmp) (h_s : Fr D W K s0 s) : Fr D W K s0 (doInterlockOpen dt ns s) := by
  unfold doInterlockOpen
  repeat' first
    | with_reducible assumption | (simp -zeta (disch := first | assumption | exact rfl) only [↓Fr.setLmp])
    | with_reducible apply State.tick_frame | with_reducible apply State.onLiveIf_frame
    | with_reducible apply State.putB_frame | with_reducible apply State.allGatesLow_frame
    | with_reducible apply State.hbUpdate_frame
    | (extract_lets +onlyGivenNames x; refine Fr.cut (D := D) (W := W) (K := K) (s0 := s0) (x := x) ?_ ?_; (on_goal 1 => dsimp -zeta only [x]); (on_goal 2 => intro hx; clear_value x))
    | (extract_lets +onlyGivenNames y) | (intro v w hv) | (intro v hv)

theorem doInterlockClose_frame (dt : Nat) (s : State) (r_LMP_SAFETY : W LMP_SAFETY) (k_lmp : K .lmp) (h_s : Fr D W K s0 s)
    : Fr D W K s0 (doInterlockClose dt s) := by
  unfold doInterlockClose
  repeat' first
    | with_reducible assumption | (simp -zeta (disch := first | assumption | exact rfl) only [↓Fr.setLmp])
    | with_reducible apply State.tick_frame | with_reducible apply State.onLiveIf_frame
    | with_reducible apply State.putB_frame
    | (extract_lets +onlyGivenNames x; refine Fr.cut (D := D) (W := W) (K := K) (s0 := s0) (x := x) ?_ ?_; (on_goal 1 => dsimp -zeta only [x]); (on_goal 2 => intro hx; clear_value x))
    | (extract_lets +onlyGivenNames y) | (intro v w hv) | (intro v hv)

theorem State.endInterlock_frame (s : State) (hE : Ev W K) (r_LMP_HB : W LMP_HB) (r_LMP_SAFETY : W LMP_SAFETY)
    (k_out : K .out) (k_scn : K .scn) (k_lmp : K .lmp) (h_s : Fr D W K s0 s) : Fr D W K s0 (State.endInterlock s) := by
  unfold State.endInterlock
  repeat' first
    | with_reducible assumption | (simp -zeta (disch := first | assumption | exact rfl) only [↓Fr.setLmp])
    | with_reducible apply State.hbUpdate_frame
    | (extract_lets +onlyGivenNames x; refine Fr.cut (D := D) (W := W) (K := K) (s0 := s0) (x := x) ?_ ?_; (on_goal 1 => dsimp -zeta only [x]); (on_goal 2 => intro hx; clear_value x))
    | (extract_lets +onlyGivenNames y)

theorem doInterlockHoldExpiry_frame (dt : Nat) (s : State) (hE : Ev W K) (r_LMP_HB : W LMP_HB) (r_LMP_SAFETY : W LMP_SAFETY)
    (k_out : K .out) (k_scn : K .scn) (k_lmp : K .lmp) (h_s : Fr D W K s0 s) : Fr D W K s0 (doInterlockHoldExpiry dt s) := by
  unfold doInterlockHoldExpiry
  repeat' first
    | with_reducible assumption | with_reducible apply State.tick_frame | with_reducible apply State.onLiveIf_frame
    | with_reducible apply State.endInterlock_frame
    | (extract_lets +onlyGivenNames x; refine Fr.cut (D := D) (W := W) (K := K) (s0 := s0) (x := x) ?_ ?_; (on_goal 1 => dsimp -zeta only [x]); (on_goal 2 => intro hx; clear_value x))
    | (extract_lets +onlyGivenNames y) | (intro v w hv) | (intro v hv)

theorem doInterlockRearm_frame (dt : Nat) (s : State) (hE : Ev W K) (r_LMP_HB : W LMP_HB) (r_LMP_SAFETY : W LMP_SAFETY)
    (k_out : K .out) (k_scn : K .scn) (k_lmp : K .lmp) (h_s : Fr D W K s0 s) : Fr D W K s0 (doInterlockRearm dt s) := by
  unfold doInterlockRearm
  repeat' first
    | with_reducible assumption | with_reducible apply State.tick_frame | with_reducible apply State.onReachIf_frame
    | with_reducible apply State.endInterlock_frame
    | (extract_lets +onlyGivenNames x; refine Fr.cut (D := D) (W := W) (K := K) (s0 := s0) (x := x) ?_ ?_; (on_goal 1 => dsimp -zeta only [x]); (on_goal 2 => intro hx; clear_value x))
    | (extract_lets +onlyGivenNames y) | (intro v w hv) | (intro v hv)

theorem doForceOffWrite_frame (dt : Nat) (on : Bool) (s : State) (hE : Ev W K) (r_LMP_HB : W LMP_HB)
    (r_LMP_SAFETY : W LMP_SAFETY) (k_out : K .out) (k_scn : K .scn) (k_lmp : K .lmp) (h_s : Fr D W K s0 s)
    : Fr D W K s0 (doForceOffWrite dt on s) := by
  unfold doForceOffWrite
  repeat' first
    | with_reducible assumption | with_reducible apply State.tick_frame | with_reducible apply State.onReach_frame
    | with_reducible apply State.putB_frame | with_reducible apply State.hbUpdate_frame | (intro v w hv) | (intro v hv)

theorem doGateClockStop_frame (dt : Nat) (s : State) (hE : Ev W K) (r_LMP_HB : W LMP_HB) (r_LMP_SAFETY : W LMP_SAFETY)
    (k_out : K .out) (k_scn : K .scn) (k_lmp : K .lmp) (h_s : Fr D W K s0 s) : Fr D W K s0 (doGateClockStop dt s) := by
  unfold doGateClockStop
  repeat' first
    | with_reducible assumption | (simp -zeta (disch := first | assumption | exact rfl) only [↓Fr.setLmp])
    | with_reducible apply State.tick_frame | with_reducible apply State.onLive_frame
    | with_reducible apply State.hbUpdate_frame
    | (extract_lets +onlyGivenNames x; refine Fr.cut (D := D) (W := W) (K := K) (s0 := s0) (x := x) ?_ ?_; (on_goal 1 => dsimp -zeta only [x]); (on_goal 2 => intro hx; clear_value x))
    | (extract_lets +onlyGivenNames y) | (intro v w hv) | (intro v hv)

theorem State.targetSample_frame (s : State) (p y : Nat) (bad : Bool) (k_cal : K .cal) (h_s : Fr D W K s0 s)
    : Fr D W K s0 (State.targetSample s p y bad) := by
  unfold State.targetSample
  repeat' first
    | with_reducible assumption | (simp -zeta (disch := first | assumption | exact rfl) only [↓Fr.setCal])
    | with_reducible apply Fr.ite
    | (extract_lets +onlyGivenNames x; refine Fr.cut (D := D) (W := W) (K := K) (s0 := s0) (x := x) ?_ ?_; (on_goal 1 => dsimp -zeta only [x]); (on_goal 2 => intro hx; clear_value x))
    | (extract_lets +onlyGivenNames y) | split | (clear_value y; split)

theorem doReferenceSample_frame (dt p raw : Nat) (s : State) (hE : Ev W K) (r_COL_PRIM_LOOP : W (COL_PRIM_LOOP p))
    (r_COL_STATUS : W COL_STATUS) (r_LMP_PS_CH_LAST : ∀ i, W (LMP_PS_CH_LAST i)) (k_seq : K .seq) (k_cal : K .cal)
    (h_s : Fr D W K s0 s) : Fr D W K s0 (doReferenceSample dt p raw s) := by
  unfold doReferenceSample
  repeat' first
    | with_reducible assumption | with_reducible apply Fr.ite | with_reducible apply State.tick_frame
    | with_reducible apply State.onLiveIf_frame | with_reducible apply State.takeEvent_frame
    | with_reducible apply State.put_frame | with_reducible apply State.inc_frame
    | with_reducible apply State.targetSample_frame | with_reducible apply State.loopSample_frame
    | with_reducible apply r_LMP_PS_CH_LAST
    | (extract_lets +onlyGivenNames x; refine Fr.cut (D := D) (W := W) (K := K) (s0 := s0) (x := x) ?_ ?_; (on_goal 1 => dsimp -zeta only [x]); (on_goal 2 => intro hx; clear_value x))
    | (extract_lets +onlyGivenNames y) | split | (clear_value y; split) | (intro v w hv) | (intro v hv)

theorem State.shortfall_frame (s : State) (id grant_ : Nat) (short : Bool) (hE : Ev W K) (k_lmp : K .lmp)
    (h_s : Fr D W K s0 s) : Fr D W K s0 (State.shortfall s id grant_ short) := by
  unfold State.shortfall
  repeat' first
    | with_reducible assumption | (simp -zeta (disch := first | assumption | exact rfl) only [↓Fr.setLmp])
    | with_reducible apply Fr.ite | with_reducible apply State.raise_frame
    | (extract_lets +onlyGivenNames x; refine Fr.cut (D := D) (W := W) (K := K) (s0 := s0) (x := x) ?_ ?_; (on_goal 1 => dsimp -zeta only [x]); (on_goal 2 => intro hx; clear_value x))
    | (extract_lets +onlyGivenNames y) | split | (intro v w hv) | (intro v hv)

theorem State.grantGroup_frame (s : State) (g gamma : Nat) (r_LMP_GROUP_GRANT : W (LMP_GROUP_GRANT g)) (h_s : Fr D W K s0 s)
    : Fr D W K s0 (State.grantGroup s g gamma) := by
  unfold State.grantGroup
  repeat' first
    | with_reducible assumption | with_reducible apply Fr.ite | with_reducible apply State.put_frame
    | with_reducible apply State.incSat_frame
    | (extract_lets +onlyGivenNames x; refine Fr.cut (D := D) (W := W) (K := K) (s0 := s0) (x := x) ?_ ?_; (on_goal 1 => dsimp -zeta only [x]); (on_goal 2 => intro hx; clear_value x))
    | (extract_lets +onlyGivenNames y) | split

theorem State.railTick_frame (s : State) (r : Nat) (hE : Ev W K) (r_LMP_GROUP_GRANT : ∀ i, W (LMP_GROUP_GRANT i))
    (r_LMP_RAIL_STATUS : W (LMP_RAIL_STATUS r)) (k_lmp : K .lmp) (h_s : Fr D W K s0 s)
    : Fr D W K s0 (State.railTick s r) := by
  unfold State.railTick
  repeat' first
    | with_reducible assumption | with_reducible apply State.grantGroup_frame | with_reducible apply State.putSat_frame
    | with_reducible apply State.shortfall_frame | (with_reducible apply foldOver_frame; intro a t ht)
    | with_reducible apply r_LMP_GROUP_GRANT
    | (extract_lets +onlyGivenNames x; refine Fr.cut (D := D) (W := W) (K := K) (s0 := s0) (x := x) ?_ ?_; (on_goal 1 => dsimp -zeta only [x]); (on_goal 2 => intro hx; clear_value x))
    | (extract_lets +onlyGivenNames y) | (intro v w hv) | (intro v hv)

theorem doBudgetTick_frame (dt : Nat) (demands : List Nat) (base pkg main stack0 stack1 : Nat) (s : State) (hE : Ev W K)
    (r_LMP_GROUP_GRANT : ∀ i, W (LMP_GROUP_GRANT i)) (r_LMP_PKG_CLASS : ∀ i, W (LMP_PKG_CLASS i))
    (r_LMP_PKG_STATUS : W LMP_PKG_STATUS) (r_LMP_RAIL_STATUS : ∀ i, W (LMP_RAIL_STATUS i)) (r_THM_PWR : W THM_PWR)
    (r_THM_PWR_HBM : W THM_PWR_HBM) (r_THM_THROTTLE : W THM_THROTTLE) (k_mem : K .mem) (k_lmp : K .lmp) (k_thm : K .thm)
    (h_s : Fr D W K s0 s) : Fr D W K s0 (doBudgetTick dt demands base pkg main stack0 stack1 s) := by
  unfold doBudgetTick
  repeat' first
    | with_reducible assumption | (simp -zeta (disch := first | assumption | exact rfl) only [↓Fr.setLmp, ↓Fr.setMemLmp])
    | with_reducible apply Fr.ite | (with_reducible apply foldOver_frame; intro a t ht)
    | with_reducible apply State.tick_frame | with_reducible apply State.onLive_frame
    | with_reducible apply State.putSat_frame | with_reducible apply State.shortfall_frame
    | with_reducible apply State.setSource_frame | with_reducible apply State.put_frame
    | with_reducible apply State.railTick_frame | with_reducible apply r_LMP_GROUP_GRANT
    | with_reducible apply r_LMP_PKG_CLASS | with_reducible apply r_LMP_RAIL_STATUS
    | (extract_lets +onlyGivenNames x; refine Fr.cut (D := D) (W := W) (K := K) (s0 := s0) (x := x) ?_ ?_; (on_goal 1 => dsimp -zeta only [x]); (on_goal 2 => intro hx; clear_value x))
    | (extract_lets +onlyGivenNames y) | split | (clear_value y; split) | (intro v w hv) | (intro v hv)

theorem State.estimates_frame (b : State) (r_COL_PRIM_LIGHT : ∀ i, W (COL_PRIM_LIGHT i))
    (r_COL_PRIM_XY : ∀ i, W (COL_PRIM_XY i)) (k_col : K .col) (h_s : Fr D W K s0 b)
    : Fr D W K s0 (State.estimates b) := by
  unfold State.estimates
  repeat' first
    | with_reducible assumption | (simp -zeta (disch := first | assumption | exact rfl) only [↓Fr.setCol])
    | (with_reducible apply foldOver_frame; intro a t ht) | with_reducible apply State.showPrims_frame
    | with_reducible apply r_COL_PRIM_LIGHT | with_reducible apply r_COL_PRIM_XY
    | (extract_lets +onlyGivenNames x; refine Fr.cut (D := D) (W := W) (K := K) (s0 := s0) (x := x) ?_ ?_; (on_goal 1 => dsimp -zeta only [x]); (on_goal 2 => intro hx; clear_value x))
    | (extract_lets +onlyGivenNames y) | split | (clear_value y; split) | (intro v w hv) | (intro v hv)

theorem State.applyScanCfg_frame (s : State) (r_SCN_ENG_RANGE : ∀ i, W (SCN_ENG_RANGE i)) (k_scn : K .scn)
    (h_s : Fr D W K s0 s) : Fr D W K s0 (State.applyScanCfg s) := by
  unfold State.applyScanCfg
  repeat' first
    | with_reducible assumption | with_reducible apply State.put_frame | with_reducible apply State.setEngine_frame
    | (with_reducible apply foldOver_frame; intro a t ht) | with_reducible apply r_SCN_ENG_RANGE
    | (extract_lets +onlyGivenNames x; refine Fr.cut (D := D) (W := W) (K := K) (s0 := s0) (x := x) ?_ ?_; (on_goal 1 => dsimp -zeta only [x]); (on_goal 2 => intro hx; clear_value x))
    | (extract_lets +onlyGivenNames y) | (intro v w hv) | (intro v hv)

theorem State.showScan_frame (s : State) (r_SCN_STATUS : W SCN_STATUS) (h_s : Fr D W K s0 s)
    : Fr D W K s0 (State.showScan s) := by
  unfold State.showScan
  repeat' first
    | with_reducible assumption | with_reducible apply State.put_frame
    | (extract_lets +onlyGivenNames x; refine Fr.cut (D := D) (W := W) (K := K) (s0 := s0) (x := x) ?_ ?_; (on_goal 1 => dsimp -zeta only [x]); (on_goal 2 => intro hx; clear_value x))
    | (extract_lets +onlyGivenNames y) | (intro v w hv) | (intro v hv)

theorem State.enterEngine_frame (s : State) (n st cause : Nat) (r_SCN_ENG_STATE : W (SCN_ENG_STATE n))
    (r_SCN_STATUS : W SCN_STATUS) (k_mem : K .mem) (k_scn : K .scn) (h_s : Fr D W K s0 s)
    : Fr D W K s0 (State.enterEngine s n st cause) := by
  unfold State.enterEngine
  repeat' first
    | with_reducible assumption | with_reducible apply Fr.ite | with_reducible apply State.memBusy_frame
    | with_reducible apply State.put_frame | with_reducible apply State.setEngine_frame
    | with_reducible apply State.showScan_frame
    | (extract_lets +onlyGivenNames x; refine Fr.cut (D := D) (W := W) (K := K) (s0 := s0) (x := x) ?_ ?_; (on_goal 1 => dsimp -zeta only [x]); (on_goal 2 => intro hx; clear_value x))
    | (extract_lets +onlyGivenNames y) | split | (clear_value y; split) | (intro v w hv) | (intro v hv)

theorem State.moveSlow_frame (s : State) (n code us : Nat) (k_scn : K .scn) (h_s : Fr D W K s0 s)
    : Fr D W K s0 (State.moveSlow s n code us) := by
  unfold State.moveSlow
  repeat' first
    | with_reducible assumption | with_reducible apply State.setEngine_frame
    | (extract_lets +onlyGivenNames x; refine Fr.cut (D := D) (W := W) (K := K) (s0 := s0) (x := x) ?_ ?_; (on_goal 1 => dsimp -zeta only [x]); (on_goal 2 => intro hx; clear_value x))
    | (extract_lets +onlyGivenNames y) | split | (clear_value y; split) | (intro v w hv) | (intro v hv)

theorem State.engineFault_frame (s : State) (n cause : Nat) (hE : Ev W K) (r_SCN_ENG_EST_AMP : W (SCN_ENG_EST_AMP n))
    (r_SCN_ENG_STATE : W (SCN_ENG_STATE n)) (r_SCN_STATUS : W SCN_STATUS) (k_out : K .out) (k_mem : K .mem)
    (k_scn : K .scn) (h_s : Fr D W K s0 s) : Fr D W K s0 (State.engineFault s n cause) := by
  unfold State.engineFault
  repeat' first
    | with_reducible assumption | with_reducible apply State.scanDark_frame | with_reducible apply State.put_frame
    | with_reducible apply State.moveSlow_frame | with_reducible apply State.setEngine_frame
    | with_reducible apply State.enterEngine_frame | with_reducible apply State.raise_frame
    | (extract_lets +onlyGivenNames x; refine Fr.cut (D := D) (W := W) (K := K) (s0 := s0) (x := x) ?_ ?_; (on_goal 1 => dsimp -zeta only [x]); (on_goal 2 => intro hx; clear_value x))
    | (extract_lets +onlyGivenNames y) | split | (clear_value y; split) | (intro v w hv) | (intro v hv)

theorem State.startEngine_frame (s : State) (n : Nat) (r_SCN_ENG_STATE : W (SCN_ENG_STATE n)) (r_SCN_STATUS : W SCN_STATUS)
    (r_THM_DOM_ON : ∀ i, W (THM_DOM_ON i)) (k_scn : K .scn) (k_mem : K .mem)
    (h_s : Fr D W K s0 s) : Fr D W K s0 (State.startEngine s n) := by
  unfold State.startEngine
  repeat' first
    | with_reducible assumption | with_reducible apply Fr.ite | with_reducible apply State.setDomOn_frame
    | with_reducible apply State.setEngine_frame | with_reducible apply State.enterEngine_frame
    | with_reducible apply r_THM_DOM_ON
    | (extract_lets +onlyGivenNames x; refine Fr.cut (D := D) (W := W) (K := K) (s0 := s0) (x := x) ?_ ?_; (on_goal 1 => dsimp -zeta only [x]); (on_goal 2 => intro hx; clear_value x))
    | (extract_lets +onlyGivenNames y) | split

theorem doScanStart_frame (dt n : Nat) (s : State) (r_SCN_ENG_STATE : W (SCN_ENG_STATE n)) (r_SCN_STATUS : W SCN_STATUS)
    (r_THM_DOM_ON : ∀ i, W (THM_DOM_ON i)) (k_scn : K .scn) (k_mem : K .mem)
    (h_s : Fr D W K s0 s) : Fr D W K s0 (doScanStart dt n s) := by
  unfold doScanStart
  repeat' first
    | with_reducible assumption | with_reducible apply State.tick_frame | with_reducible apply State.onReach_frame
    | with_reducible apply State.startEngine_frame | with_reducible apply r_THM_DOM_ON | (intro v w hv) | (intro v hv)

theorem doScanStop_frame (dt n : Nat) (s : State) (r_SCN_ENG_STATE : W (SCN_ENG_STATE n)) (r_SCN_STATUS : W SCN_STATUS)
    (k_out : K .out) (k_mem : K .mem) (k_scn : K .scn) (h_s : Fr D W K s0 s) : Fr D W K s0 (doScanStop dt n s) := by
  unfold doScanStop
  repeat' first
    | with_reducible assumption | with_reducible apply State.tick_frame | with_reducible apply State.onReachIf_frame
    | with_reducible apply State.scanDark_frame | with_reducible apply State.moveSlow_frame
    | with_reducible apply State.setEngine_frame | with_reducible apply State.enterEngine_frame
    | (extract_lets +onlyGivenNames x; refine Fr.cut (D := D) (W := W) (K := K) (s0 := s0) (x := x) ?_ ?_; (on_goal 1 => dsimp -zeta only [x]); (on_goal 2 => intro hx; clear_value x))
    | (extract_lets +onlyGivenNames y) | split | (clear_value y; split) | (intro v w hv) | (intro v hv)

theorem doScanOffsetDone_frame (dt n : Nat) (s : State) (r_SCN_ENG_EST_AMP : W (SCN_ENG_EST_AMP n))
    (r_SCN_ENG_STATE : W (SCN_ENG_STATE n)) (r_SCN_STATUS : W SCN_STATUS) (k_scn : K .scn) (k_mem : K .mem)
    (h_s : Fr D W K s0 s)
    : Fr D W K s0 (doScanOffsetDone dt n s) := by
  unfold doScanOffsetDone
  repeat' first
    | with_reducible assumption | with_reducible apply State.tick_frame | with_reducible apply State.onLiveIf_frame
    | with_reducible apply State.put_frame | with_reducible apply State.enterEngine_frame
    | (extract_lets +onlyGivenNames x; refine Fr.cut (D := D) (W := W) (K := K) (s0 := s0) (x := x) ?_ ?_; (on_goal 1 => dsimp -zeta only [x]); (on_goal 2 => intro hx; clear_value x))
    | (extract_lets +onlyGivenNames y) | (intro v w hv) | (intro v hv)

theorem doScanSearchDone_frame (dt n : Nat) (peak : Option Nat) (s : State) (hE : Ev W K)
    (r_SCN_ENG_EST_AMP : W (SCN_ENG_EST_AMP n)) (r_SCN_ENG_EST_FREQ : W (SCN_ENG_EST_FREQ n))
    (r_SCN_ENG_STATE : W (SCN_ENG_STATE n)) (r_SCN_STATUS : W SCN_STATUS) (k_out : K .out) (k_scn : K .scn)
    (k_mem : K .mem)
    (h_s : Fr D W K s0 s) : Fr D W K s0 (doScanSearchDone dt n peak s) := by
  unfold doScanSearchDone
  repeat' first
    | with_reducible assumption | with_reducible apply State.tick_frame | with_reducible apply State.onLiveIf_frame
    | with_reducible apply State.putSat_frame | with_reducible apply State.enterEngine_frame
    | with_reducible apply State.engineFault_frame
    | (extract_lets +onlyGivenNames x; refine Fr.cut (D := D) (W := W) (K := K) (s0 := s0) (x := x) ?_ ?_; (on_goal 1 => dsimp -zeta only [x]); (on_goal 2 => intro hx; clear_value x))
    | (extract_lets +onlyGivenNames y) | split | (intro v w hv) | (intro v hv) | (clear_value y; split)

theorem doScanRampDone_frame (dt n amp mv : Nat) (reached : Bool) (s : State) (hE : Ev W K)
    (r_SCN_ENG_EST_AMP : W (SCN_ENG_EST_AMP n)) (r_SCN_ENG_STATE : W (SCN_ENG_STATE n)) (r_SCN_STATUS : W SCN_STATUS)
    (k_out : K .out) (k_mem : K .mem) (k_scn : K .scn) (h_s : Fr D W K s0 s)
    : Fr D W K s0 (doScanRampDone dt n amp mv reached s) := by
  unfold doScanRampDone
  repeat' first
    | with_reducible assumption | with_reducible apply Fr.ite | with_reducible apply State.tick_frame
    | with_reducible apply State.onLiveIf_frame | with_reducible apply State.putSat_frame
    | with_reducible apply State.put_frame | with_reducible apply State.setEngine_frame
    | with_reducible apply State.enterEngine_frame | with_reducible apply State.engineFault_frame
    | (extract_lets +onlyGivenNames x; refine Fr.cut (D := D) (W := W) (K := K) (s0 := s0) (x := x) ?_ ?_; (on_goal 1 => dsimp -zeta only [x]); (on_goal 2 => intro hx; clear_value x))
    | (extract_lets +onlyGivenNames y) | split | (clear_value y; split) | (intro v w hv) | (intro v hv)

theorem doScanLockDone_frame (dt n : Nat) (s : State) (k_scn : K .scn) (h_s : Fr D W K s0 s)
    : Fr D W K s0 (doScanLockDone dt n s) := by
  unfold doScanLockDone
  repeat' first
    | with_reducible assumption | with_reducible apply State.tick_frame | with_reducible apply State.onLiveIf_frame
    | with_reducible apply State.moveSlow_frame | with_reducible apply State.setEngine_frame
    | (extract_lets +onlyGivenNames x; refine Fr.cut (D := D) (W := W) (K := K) (s0 := s0) (x := x) ?_ ?_; (on_goal 1 => dsimp -zeta only [x]); (on_goal 2 => intro hx; clear_value x))
    | (extract_lets +onlyGivenNames y) | split | (clear_value y; split) | (intro v w hv) | (intro v hv)

theorem doScanBrakeDone_frame (dt n : Nat) (s : State) (r_SCN_ENG_EST_AMP : W (SCN_ENG_EST_AMP n))
    (r_SCN_ENG_STATE : W (SCN_ENG_STATE n)) (r_SCN_STATUS : W SCN_STATUS) (r_THM_DOM_ON : ∀ i, W (THM_DOM_ON i))
    (k_scn : K .scn) (k_mem : K .mem)
    (h_s : Fr D W K s0 s) : Fr D W K s0 (doScanBrakeDone dt n s) := by
  unfold doScanBrakeDone
  repeat' first
    | with_reducible assumption | with_reducible apply State.tick_frame | with_reducible apply State.onLiveIf_frame
    | with_reducible apply State.put_frame | with_reducible apply State.setDomOn_frame
    | with_reducible apply State.enterEngine_frame | with_reducible apply r_THM_DOM_ON
    | (extract_lets +onlyGivenNames x; refine Fr.cut (D := D) (W := W) (K := K) (s0 := s0) (x := x) ?_ ?_; (on_goal 1 => dsimp -zeta only [x]); (on_goal 2 => intro hx; clear_value x))
    | (extract_lets +onlyGivenNames y) | (intro v w hv) | (intro v hv)

theorem State.scanShutdown_frame (s : State) (r_SCN_ENG_EST_AMP : ∀ i, W (SCN_ENG_EST_AMP i))
    (r_SCN_ENG_STATE : ∀ i, W (SCN_ENG_STATE i)) (r_SCN_STATUS : W SCN_STATUS) (k_out : K .out) (k_mem : K .mem)
    (k_scn : K .scn) (h_s : Fr D W K s0 s) : Fr D W K s0 (State.scanShutdown s) := by
  unfold State.scanShutdown
  repeat' first
    | with_reducible assumption | with_reducible apply Fr.ite | (with_reducible apply foldOver_frame; intro a t ht)
    | with_reducible apply State.scanDark_frame | with_reducible apply State.put_frame
    | with_reducible apply State.setEngine_frame | with_reducible apply State.enterEngine_frame
    | with_reducible apply r_SCN_ENG_EST_AMP | with_reducible apply r_SCN_ENG_STATE
    | (extract_lets +onlyGivenNames x; refine Fr.cut (D := D) (W := W) (K := K) (s0 := s0) (x := x) ?_ ?_; (on_goal 1 => dsimp -zeta only [x]); (on_goal 2 => intro hx; clear_value x))
    | (extract_lets +onlyGivenNames y) | split | (clear_value y; split) | (intro v w hv) | (intro v hv)

theorem State.scanView_frame (s : State) (o : Nat) (k_cmp : K .cmp) (h_s : Fr D W K s0 s)
    : Fr D W K s0 (State.scanView s o) := by
  unfold State.scanView
  repeat' first
    | with_reducible assumption | with_reducible apply State.without_frame
    | (extract_lets +onlyGivenNames x; refine Fr.cut (D := D) (W := W) (K := K) (s0 := s0) (x := x) ?_ ?_; (on_goal 1 => dsimp -zeta only [x]); (on_goal 2 => intro hx; clear_value x))
    | (extract_lets +onlyGivenNames y) | split | (clear_value y; split) | (intro v w hv) | (intro v hv)

theorem State.bufferCane_frame (s : State) (n y : Nat) (k_scn : K .scn) (h_s : Fr D W K s0 s)
    : Fr D W K s0 (State.bufferCane s n y) := by
  unfold State.bufferCane
  repeat' first
    | with_reducible assumption | with_reducible apply Fr.ite | with_reducible apply State.setEngine_frame
    | (extract_lets +onlyGivenNames x; refine Fr.cut (D := D) (W := W) (K := K) (s0 := s0) (x := x) ?_ ?_; (on_goal 1 => dsimp -zeta only [x]); (on_goal 2 => intro hx; clear_value x))
    | (extract_lets +onlyGivenNames y) | split | (clear_value y; split) | (intro v w hv) | (intro v hv)

theorem State.beginLines_frame (s : State) (n : Nat) (k_scn : K .scn) (h_s : Fr D W K s0 s)
    : Fr D W K s0 (State.beginLines s n) := by
  unfold State.beginLines
  repeat' first
    | with_reducible assumption | with_reducible apply Fr.ite | (with_reducible apply foldOver_frame; intro a t ht)
    | with_reducible apply State.setEngine_frame | with_reducible apply State.bufferCane_frame
    | (extract_lets +onlyGivenNames x; refine Fr.cut (D := D) (W := W) (K := K) (s0 := s0) (x := x) ?_ ?_; (on_goal 1 => dsimp -zeta only [x]); (on_goal 2 => intro hx; clear_value x))
    | (extract_lets +onlyGivenNames y) | split | (clear_value y; split) | (intro v w hv) | (intro v hv)

theorem State.nextLine_frame (s : State) (n y : Nat) (k_scn : K .scn) (h_s : Fr D W K s0 s)
    : Fr D W K s0 (State.nextLine s n y) := by
  unfold State.nextLine
  repeat' first
    | with_reducible assumption | with_reducible apply State.setEngine_frame | with_reducible apply State.bufferCane_frame
    | (extract_lets +onlyGivenNames x; refine Fr.cut (D := D) (W := W) (K := K) (s0 := s0) (x := x) ?_ ?_; (on_goal 1 => dsimp -zeta only [x]); (on_goal 2 => intro hx; clear_value x))
    | (extract_lets +onlyGivenNames y) | split | (clear_value y; split) | (intro v w hv) | (intro v hv)

theorem State.drawPixel_frame (s : State) (n x : Nat) (k_out : K .out) (k_scn : K .scn) (h_s : Fr D W K s0 s)
    : Fr D W K s0 (State.drawPixel s n x) := by
  unfold State.drawPixel
  repeat' first
    | with_reducible assumption | with_reducible apply Fr.ite | with_reducible apply State.setEngine_frame
    | with_reducible apply State.send_frame | with_reducible apply State.scanDark_frame
    | (extract_lets +onlyGivenNames x; refine Fr.cut (D := D) (W := W) (K := K) (s0 := s0) (x := x) ?_ ?_; (on_goal 1 => dsimp -zeta only [x]); (on_goal 2 => intro hx; clear_value x))
    | (extract_lets +onlyGivenNames y) | split | (clear_value y; split) | (intro v w hv) | (intro v hv)

theorem doPixelEdge_frame (dt n x : Nat) (s : State) (k_out : K .out) (k_scn : K .scn) (h_s : Fr D W K s0 s)
    : Fr D W K s0 (doPixelEdge dt n x s) := by
  unfold doPixelEdge
  repeat' first
    | with_reducible assumption | with_reducible apply Fr.ite | with_reducible apply State.tick_frame
    | with_reducible apply State.onLiveIf_frame | with_reducible apply State.scanDark_frame
    | with_reducible apply State.drawPixel_frame
    | (extract_lets +onlyGivenNames x; refine Fr.cut (D := D) (W := W) (K := K) (s0 := s0) (x := x) ?_ ?_; (on_goal 1 => dsimp -zeta only [x]); (on_goal 2 => intro hx; clear_value x))
    | (extract_lets +onlyGivenNames y) | split | (intro v w hv) | (intro v hv)

theorem State.endSweep_frame (s : State) (n : Nat) (r_SCN_ENG_SWEEP_STATUS : W (SCN_ENG_SWEEP_STATUS n)) (k_scn : K .scn)
    (h_s : Fr D W K s0 s) : Fr D W K s0 (State.endSweep s n) := by
  unfold State.endSweep
  repeat' first
    | with_reducible assumption | with_reducible apply State.moveSlow_frame | with_reducible apply State.setEngine_frame
    | with_reducible apply State.putSat_frame
    | (extract_lets +onlyGivenNames x; refine Fr.cut (D := D) (W := W) (K := K) (s0 := s0) (x := x) ?_ ?_; (on_goal 1 => dsimp -zeta only [x]); (on_goal 2 => intro hx; clear_value x))
    | (extract_lets +onlyGivenNames y) | split | (clear_value y; split) | (intro v w hv) | (intro v hv)

theorem State.burst_frame (s : State) (n prev : Nat) (k_out : K .out) (k_scn : K .scn) (h_s : Fr D W K s0 s)
    : Fr D W K s0 (State.burst s n prev) := by
  unfold State.burst
  repeat' first
    | with_reducible assumption | with_reducible apply Fr.ite | with_reducible apply State.setEngine_frame
    | with_reducible apply State.send_frame
    | (extract_lets +onlyGivenNames x; refine Fr.cut (D := D) (W := W) (K := K) (s0 := s0) (x := x) ?_ ?_; (on_goal 1 => dsimp -zeta only [x]); (on_goal 2 => intro hx; clear_value x))
    | (extract_lets +onlyGivenNames y) | split | (clear_value y; split) | (intro v w hv) | (intro v hv)

theorem State.watchLimit_frame (s : State) (n amp mv : Nat) (r_SCN_ENG_STATE : W (SCN_ENG_STATE n)) (k_scn : K .scn)
    (h_s : Fr D W K s0 s) : Fr D W K s0 (State.watchLimit s n amp mv) := by
  unfold State.watchLimit
  repeat' first
    | with_reducible assumption | with_reducible apply Fr.ite | with_reducible apply State.putB_frame
    | with_reducible apply State.setEngine_frame
    | (extract_lets +onlyGivenNames x; refine Fr.cut (D := D) (W := W) (K := K) (s0 := s0) (x := x) ?_ ?_; (on_goal 1 => dsimp -zeta only [x]); (on_goal 2 => intro hx; clear_value x))
    | (extract_lets +onlyGivenNames y) | split

theorem State.slewAmp_frame (s : State) (n : Nat) (k_scn : K .scn) (h_s : Fr D W K s0 s)
    : Fr D W K s0 (State.slewAmp s n) := by
  unfold State.slewAmp
  repeat' first
    | with_reducible assumption | with_reducible apply Fr.ite | with_reducible apply State.setEngine_frame
    | (extract_lets +onlyGivenNames x; refine Fr.cut (D := D) (W := W) (K := K) (s0 := s0) (x := x) ?_ ?_; (on_goal 1 => dsimp -zeta only [x]); (on_goal 2 => intro hx; clear_value x))
    | (extract_lets +onlyGivenNames y) | split

theorem State.turnEstimate_frame (s : State) (n : Nat) (reverse : Bool) (freq amp mv resid : Nat)
    (r_SCN_ENG_EST_AMP : W (SCN_ENG_EST_AMP n)) (r_SCN_ENG_EST_FREQ : W (SCN_ENG_EST_FREQ n))
    (r_SCN_ENG_STATE : W (SCN_ENG_STATE n)) (k_scn : K .scn) (h_s : Fr D W K s0 s)
    : Fr D W K s0 (State.turnEstimate s n reverse freq amp mv resid) := by
  unfold State.turnEstimate
  repeat' first
    | with_reducible assumption | with_reducible apply Fr.ite | with_reducible apply State.putSat_frame
    | with_reducible apply State.put_frame | with_reducible apply State.slewAmp_frame
    | with_reducible apply State.watchLimit_frame | with_reducible apply State.setEngine_frame
    | (extract_lets +onlyGivenNames x; refine Fr.cut (D := D) (W := W) (K := K) (s0 := s0) (x := x) ?_ ?_; (on_goal 1 => dsimp -zeta only [x]); (on_goal 2 => intro hx; clear_value x))
    | (extract_lets +onlyGivenNames y) | split | (clear_value y; split) | (intro v w hv) | (intro v hv)

theorem State.caneSlow_frame (s : State) (n : Nat) (starts : Bool) (row : Option Nat)
    (r_SCN_ENG_CLIPPED : W (SCN_ENG_CLIPPED n)) (k_scn : K .scn) (h_s : Fr D W K s0 s)
    : Fr D W K s0 (State.caneSlow s n starts row) := by
  unfold State.caneSlow
  repeat' first
    | with_reducible assumption | with_reducible apply Fr.ite | with_reducible apply State.setEngine_frame
    | with_reducible apply State.put_frame
    | (extract_lets +onlyGivenNames x; refine Fr.cut (D := D) (W := W) (K := K) (s0 := s0) (x := x) ?_ ?_; (on_goal 1 => dsimp -zeta only [x]); (on_goal 2 => intro hx; clear_value x))
    | (extract_lets +onlyGivenNames y) | split | (clear_value y; split) | (intro v w hv) | (intro v hv)

theorem State.missLine_frame (s : State) (n : Nat) (hE : Ev W K) (r_SCN_ENG_LINE_MISSES : W (SCN_ENG_LINE_MISSES n))
    (k_scn : K .scn) (h_s : Fr D W K s0 s) : Fr D W K s0 (State.missLine s n) := by
  unfold State.missLine
  repeat' first
    | with_reducible assumption | with_reducible apply Fr.ite | with_reducible apply State.inc_frame
    | with_reducible apply State.setEngine_frame | with_reducible apply State.raise_frame
    | (extract_lets +onlyGivenNames x; refine Fr.cut (D := D) (W := W) (K := K) (s0 := s0) (x := x) ?_ ?_; (on_goal 1 => dsimp -zeta only [x]); (on_goal 2 => intro hx; clear_value x))
    | (extract_lets +onlyGivenNames y) | split | (clear_value y; split) | (intro v w hv) | (intro v hv)

theorem State.takeCane_frame (s : State) (n : Nat) (starts : Bool) (row : Option Nat) (hE : Ev W K)
    (r_SCN_ENG_CANES : W (SCN_ENG_CANES n)) (r_SCN_ENG_LINE_MISSES : W (SCN_ENG_LINE_MISSES n)) (k_out : K .out)
    (k_scn : K .scn) (h_s : Fr D W K s0 s) : Fr D W K s0 (State.takeCane s n starts row) := by
  unfold State.takeCane
  repeat' first
    | with_reducible assumption | with_reducible apply Fr.ite | with_reducible apply State.nextLine_frame
    | with_reducible apply State.inc_frame | with_reducible apply State.missLine_frame
    | with_reducible apply State.scanDark_frame | with_reducible apply State.setEngine_frame
    | (extract_lets +onlyGivenNames x; refine Fr.cut (D := D) (W := W) (K := K) (s0 := s0) (x := x) ?_ ?_; (on_goal 1 => dsimp -zeta only [x]); (on_goal 2 => intro hx; clear_value x))
    | (extract_lets +onlyGivenNames y) | split | (clear_value y; split) | (intro v w hv) | (intro v hv)

theorem State.turnSweep_frame (s : State) (n prev : Nat) (reverse : Bool) (hE : Ev W K)
    (r_SCN_ENG_CANES : W (SCN_ENG_CANES n)) (r_SCN_ENG_CLIPPED : W (SCN_ENG_CLIPPED n))
    (r_SCN_ENG_LINE_MISSES : W (SCN_ENG_LINE_MISSES n)) (r_SCN_ENG_SWEEP_STATUS : W (SCN_ENG_SWEEP_STATUS n))
    (k_out : K .out) (k_scn : K .scn) (h_s : Fr D W K s0 s) : Fr D W K s0 (State.turnSweep s n prev reverse) := by
  unfold State.turnSweep
  repeat' first
    | with_reducible assumption | with_reducible apply Fr.ite | with_reducible apply State.takeCane_frame
    | with_reducible apply State.putB_frame | with_reducible apply State.endSweep_frame
    | with_reducible apply State.caneSlow_frame | with_reducible apply State.burst_frame
    | (extract_lets +onlyGivenNames x; refine Fr.cut (D := D) (W := W) (K := K) (s0 := s0) (x := x) ?_ ?_; (on_goal 1 => dsimp -zeta only [x]); (on_goal 2 => intro hx; clear_value x))
    | (extract_lets +onlyGivenNames y) | split | (clear_value y; split) | (intro v w hv) | (intro v hv)

theorem doTurningPoint_frame (dt n : Nat) (reverse : Bool) (freq amp mv resid : Nat) (s : State)
    (r_SCN_ENG_CANES : W (SCN_ENG_CANES n)) (r_SCN_ENG_CLIPPED : W (SCN_ENG_CLIPPED n))
    (r_SCN_ENG_EST_AMP : W (SCN_ENG_EST_AMP n)) (r_SCN_ENG_EST_FREQ : W (SCN_ENG_EST_FREQ n))
    (r_SCN_ENG_STATE : W (SCN_ENG_STATE n)) (r_SCN_ENG_SWEEP_STATUS : W (SCN_ENG_SWEEP_STATUS n)) (k_out : K .out)
    (k_scn : K .scn) (hE : Ev W K)
    (r_SCN_ENG_LINE_MISSES : W (SCN_ENG_LINE_MISSES n))
    (h_s : Fr D W K s0 s) : Fr D W K s0 (doTurningPoint dt n reverse freq amp mv resid s) := by
  unfold doTurningPoint
  repeat' first
    | with_reducible assumption | with_reducible apply Fr.ite | with_reducible apply State.tick_frame
    | with_reducible apply State.onLiveIf_frame | with_reducible apply State.turnEstimate_frame
    | with_reducible apply State.turnSweep_frame
    | (extract_lets +onlyGivenNames x; refine Fr.cut (D := D) (W := W) (K := K) (s0 := s0) (x := x) ?_ ?_; (on_goal 1 => dsimp -zeta only [x]); (on_goal 2 => intro hx; clear_value x))
    | (extract_lets +onlyGivenNames y) | split | (intro v w hv) | (intro v hv)

theorem doLineMiss_frame (dt n : Nat) (s : State) (hE : Ev W K) (r_SCN_ENG_LINE_MISSES : W (SCN_ENG_LINE_MISSES n))
    (k_scn : K .scn) (h_s : Fr D W K s0 s) : Fr D W K s0 (doLineMiss dt n s) := by
  unfold doLineMiss
  repeat' first
    | with_reducible assumption | with_reducible apply State.tick_frame | with_reducible apply State.onLiveIf_frame
    | with_reducible apply State.setEngine_frame | with_reducible apply State.missLine_frame
    | (extract_lets +onlyGivenNames x; refine Fr.cut (D := D) (W := W) (K := K) (s0 := s0) (x := x) ?_ ?_; (on_goal 1 => dsimp -zeta only [x]); (on_goal 2 => intro hx; clear_value x))
    | (extract_lets +onlyGivenNames y) | split | (clear_value y; split) | (intro v w hv) | (intro v hv)

theorem State.closeScanWindow_frame (s : State) (n : Nat) (r_SCN_STATUS : W SCN_STATUS) (k_out : K .out) (k_scn : K .scn)
    (h_s : Fr D W K s0 s) : Fr D W K s0 (State.closeScanWindow s n) := by
  unfold State.closeScanWindow
  repeat' first
    | with_reducible assumption | with_reducible apply State.scanDark_frame | with_reducible apply State.setEngine_frame
    | with_reducible apply State.showScan_frame
    | (extract_lets +onlyGivenNames x; refine Fr.cut (D := D) (W := W) (K := K) (s0 := s0) (x := x) ?_ ?_; (on_goal 1 => dsimp -zeta only [x]); (on_goal 2 => intro hx; clear_value x))
    | (extract_lets +onlyGivenNames y) | split | (clear_value y; split) | (intro v w hv) | (intro v hv)

theorem doScanEnableEdge_frame (dt n slot : Nat) (open_ : Bool) (s : State) (r_SCN_STATUS : W SCN_STATUS) (k_out : K .out)
    (k_seq : K .seq) (k_scn : K .scn) (h_s : Fr D W K s0 s) : Fr D W K s0 (doScanEnableEdge dt n slot open_ s) := by
  unfold doScanEnableEdge
  repeat' first
    | with_reducible assumption | with_reducible apply Fr.ite | with_reducible apply State.tick_frame
    | with_reducible apply State.onLiveIf_frame | with_reducible apply State.takeEvent_frame
    | with_reducible apply State.setEngine_frame | with_reducible apply State.showScan_frame
    | with_reducible apply State.closeScanWindow_frame
    | (extract_lets +onlyGivenNames x; refine Fr.cut (D := D) (W := W) (K := K) (s0 := s0) (x := x) ?_ ?_; (on_goal 1 => dsimp -zeta only [x]); (on_goal 2 => intro hx; clear_value x))
    | (extract_lets +onlyGivenNames y) | split | (clear_value y; split) | (intro v w hv) | (intro v hv)

theorem State.fireRemoval_frame (s : State) (e : FabEvent) (r_SCN_STATUS : W SCN_STATUS) (k_out : K .out) (k_scn : K .scn)
    (k_lmp : K .lmp) (h_s : Fr D W K s0 s) : Fr D W K s0 (State.fireRemoval s e) := by
  unfold State.fireRemoval
  repeat' first
    | with_reducible assumption | with_reducible apply Fr.ite | with_reducible apply State.dropLines_frame
    | with_reducible apply State.closeScanWindow_frame
    | (extract_lets +onlyGivenNames x; refine Fr.cut (D := D) (W := W) (K := K) (s0 := s0) (x := x) ?_ ?_; (on_goal 1 => dsimp -zeta only [x]); (on_goal 2 => intro hx; clear_value x))
    | (extract_lets +onlyGivenNames y) | split | (clear_value y; split) | (intro v w hv) | (intro v hv)

theorem doScanStall_frame (dt n cause : Nat) (s : State) (hE : Ev W K) (r_SCN_ENG_EST_AMP : W (SCN_ENG_EST_AMP n))
    (r_SCN_ENG_STALLS : W (SCN_ENG_STALLS n)) (r_SCN_ENG_STALL_LFN : W (SCN_ENG_STALL_LFN n))
    (r_SCN_ENG_STATE : W (SCN_ENG_STATE n)) (r_SCN_STATUS : W SCN_STATUS) (k_out : K .out) (k_mem : K .mem)
    (k_scn : K .scn) (h_s : Fr D W K s0 s) : Fr D W K s0 (doScanStall dt n cause s) := by
  unfold doScanStall
  repeat' first
    | with_reducible assumption | with_reducible apply Fr.ite | with_reducible apply State.tick_frame
    | with_reducible apply State.onLiveIf_frame | with_reducible apply State.scanDark_frame
    | with_reducible apply State.moveSlow_frame | with_reducible apply State.setEngine_frame
    | with_reducible apply State.put_frame | with_reducible apply State.inc_frame
    | with_reducible apply State.enterEngine_frame | with_reducible apply State.raise_frame
    | (extract_lets +onlyGivenNames x; refine Fr.cut (D := D) (W := W) (K := K) (s0 := s0) (x := x) ?_ ?_; (on_goal 1 => dsimp -zeta only [x]); (on_goal 2 => intro hx; clear_value x))
    | (extract_lets +onlyGivenNames y) | split | (clear_value y; split) | (intro v w hv) | (intro v hv)

theorem doScanStallRestart_frame (dt n amp : Nat) (s : State) (hE : Ev W K) (r_SCN_ENG_EST_AMP : W (SCN_ENG_EST_AMP n))
    (r_SCN_ENG_STATE : W (SCN_ENG_STATE n)) (r_SCN_STATUS : W SCN_STATUS) (k_out : K .out) (k_scn : K .scn)
    (k_mem : K .mem)
    (h_s : Fr D W K s0 s) : Fr D W K s0 (doScanStallRestart dt n amp s) := by
  unfold doScanStallRestart
  repeat' first
    | with_reducible assumption | with_reducible apply Fr.ite | with_reducible apply State.tick_frame
    | with_reducible apply State.onLiveIf_frame | with_reducible apply State.putSat_frame
    | with_reducible apply State.enterEngine_frame | with_reducible apply State.engineFault_frame
    | (extract_lets +onlyGivenNames x; refine Fr.cut (D := D) (W := W) (K := K) (s0 := s0) (x := x) ?_ ?_; (on_goal 1 => dsimp -zeta only [x]); (on_goal 2 => intro hx; clear_value x))
    | (extract_lets +onlyGivenNames y) | split | (intro v w hv) | (intro v hv)

theorem doAmpLimitEvent_frame (dt n : Nat) (s : State) (hE : Ev W K) (k_scn : K .scn) (h_s : Fr D W K s0 s)
    : Fr D W K s0 (doAmpLimitEvent dt n s) := by
  unfold doAmpLimitEvent
  repeat' first
    | with_reducible assumption | with_reducible apply State.tick_frame | with_reducible apply State.onLiveIf_frame
    | with_reducible apply State.setEngine_frame | with_reducible apply State.raise_frame
    | (extract_lets +onlyGivenNames x; refine Fr.cut (D := D) (W := W) (K := K) (s0 := s0) (x := x) ?_ ?_; (on_goal 1 => dsimp -zeta only [x]); (on_goal 2 => intro hx; clear_value x))
    | (extract_lets +onlyGivenNames y) | (intro v w hv) | (intro v hv)

theorem State.scnBoundary_frame (b : State) (r_SCN_ENG_EST_ERR : ∀ i, W (SCN_ENG_EST_ERR i))
    (r_SCN_ENG_STATE : ∀ i, W (SCN_ENG_STATE i)) (r_SCN_STATUS : W SCN_STATUS) (k_mem : K .mem) (k_scn : K .scn)
    (h_s : Fr D W K s0 b) : Fr D W K s0 (State.scnBoundary b) := by
  unfold State.scnBoundary
  repeat' first
    | with_reducible assumption | (simp -zeta (disch := first | assumption | exact rfl) only [↓Fr.setScn])
    | with_reducible apply Fr.ite | (with_reducible apply foldOver_frame; intro a t ht)
    | with_reducible apply State.putSat_frame | with_reducible apply State.setEngine_frame
    | with_reducible apply State.enterEngine_frame | with_reducible apply State.beginLines_frame
    | with_reducible apply State.showScan_frame | with_reducible apply r_SCN_ENG_EST_ERR
    | with_reducible apply r_SCN_ENG_STATE
    | (extract_lets +onlyGivenNames x; refine Fr.cut (D := D) (W := W) (K := K) (s0 := s0) (x := x) ?_ ?_; (on_goal 1 => dsimp -zeta only [x]); (on_goal 2 => intro hx; clear_value x))
    | (extract_lets +onlyGivenNames y) | split | (clear_value y; split) | (intro v w hv) | (intro v hv)

theorem State.milestone_frame (s : State) (k : Nat) (r_GLB_BOOT_TIME : W (GLB_BOOT_TIME k)) (h_s : Fr D W K s0 s)
    : Fr D W K s0 (State.milestone s k) := by
  unfold State.milestone
  repeat' first
    | with_reducible assumption | with_reducible apply Fr.ite | with_reducible apply State.putSat_frame
    | with_reducible apply State.putB_frame | split

theorem State.showBoot_frame (s : State) (r_GLB_BOOT_STATUS : W GLB_BOOT_STATUS) (r_GLB_BOOT_TIME : ∀ i, W (GLB_BOOT_TIME i))
    (h_s : Fr D W K s0 s) : Fr D W K s0 (State.showBoot s) := by
  unfold State.showBoot
  repeat' first
    | with_reducible assumption | with_reducible apply Fr.ite | with_reducible apply State.putB_frame
    | with_reducible apply State.put_frame | with_reducible apply State.milestone_frame
    | (with_reducible apply foldOver_frame; intro a t ht) | with_reducible apply r_GLB_BOOT_TIME
    | (extract_lets +onlyGivenNames x; refine Fr.cut (D := D) (W := W) (K := K) (s0 := s0) (x := x) ?_ ?_; (on_goal 1 => dsimp -zeta only [x]); (on_goal 2 => intro hx; clear_value x))
    | (extract_lets +onlyGivenNames y) | split | (intro v w hv) | (intro v hv) | (clear_value y; split)

theorem State.startupDone_frame (s : State) (hE : Ev W K) (r_GLB_BOOT_STATUS : W GLB_BOOT_STATUS)
    (r_GLB_BOOT_TIME : W (GLB_BOOT_TIME 7)) (r_HIF_STATUS : W HIF_STATUS) (r_LMP_HB : W LMP_HB)
    (r_LMP_SAFETY : W LMP_SAFETY) (r_LXS_STARTUP : W LXS_STARTUP) (k_out : K .out) (k_glb : K .glb) (k_mem : K .mem)
    (k_scn : K .scn) (k_lmp : K .lmp) (h_s : Fr D W K s0 s) : Fr D W K s0 (State.startupDone s) := by
  unfold State.startupDone
  repeat' first
    | with_reducible assumption | (simp -zeta (disch := first | assumption | exact rfl) only [↓Fr.setGlb])
    | with_reducible apply Fr.ite | with_reducible apply State.putB_frame | with_reducible apply State.milestone_frame
    | with_reducible apply State.putSat_frame | with_reducible apply State.hbUpdate_frame
    | with_reducible apply State.memBusy_frame
    | (extract_lets +onlyGivenNames x; refine Fr.cut (D := D) (W := W) (K := K) (s0 := s0) (x := x) ?_ ?_; (on_goal 1 => dsimp -zeta only [x]); (on_goal 2 => intro hx; clear_value x))
    | (extract_lets +onlyGivenNames y) | split | (clear_value y; split) | (intro v w hv) | (intro v hv)

theorem State.startupUndone_frame (s : State) (hE : Ev W K) (r_GLB_BOOT_STATUS : W GLB_BOOT_STATUS)
    (r_HIF_STATUS : W HIF_STATUS) (r_LMP_HB : W LMP_HB) (r_LMP_SAFETY : W LMP_SAFETY) (k_out : K .out) (k_scn : K .scn)
    (k_lmp : K .lmp) (h_s : Fr D W K s0 s) : Fr D W K s0 (State.startupUndone s) := by
  unfold State.startupUndone
  repeat' first
    | with_reducible assumption | with_reducible apply State.putB_frame | with_reducible apply State.hbUpdate_frame

theorem doEventDelivery_frame (dt : Nat) (e : FabEvent) (s : State) (hE : Ev W K) (r_SCN_STATUS : W SCN_STATUS)
    (r_SEQ_LATE : W SEQ_LATE) (k_out : K .out) (k_seq : K .seq) (k_apt : K .apt) (k_scn : K .scn) (k_lmp : K .lmp)
    (h_s : Fr D W K s0 s) : Fr D W K s0 (doEventDelivery dt e s) := by
  unfold doEventDelivery
  repeat' first
    | with_reducible assumption | with_reducible apply Fr.ite | with_reducible apply State.tick_frame
    | with_reducible apply State.onCoreIf_frame | with_reducible apply State.holdEvent_frame
    | with_reducible apply State.discardEvent_frame | with_reducible apply State.fireRemoval_frame
    | (extract_lets +onlyGivenNames x; refine Fr.cut (D := D) (W := W) (K := K) (s0 := s0) (x := x) ?_ ?_; (on_goal 1 => dsimp -zeta only [x]); (on_goal 2 => intro hx; clear_value x))
    | (extract_lets +onlyGivenNames y) | split | (clear_value y; split) | (intro v w hv) | (intro v hv)

end Sys2Proof.Machine
end

