-- ==== Sys2Proof/Laws/FrameLxs.lean ====
section
/-! SUPPORT. What each function leaves: registers, parts of the state, the queue and the memory. One law per function of
Laxus and the lanes' receivers. -/
namespace Sys2Proof.Machine

set_option linter.all false
set_option linter.unusedTactic false
set_option linter.unreachableTactic false

variable {D : List Host.Cell → Prop} {W : Nat → Prop} {K : Part → Prop} {s0 : State}

theorem State.applyLxsCfg_frame (s : State) (r_LXS_CTRL : W LXS_CTRL) (r_LXS_PORT_CFG : ∀ i, W (LXS_PORT_CFG i))
    (h_s : Fr D W K s0 s) : Fr D W K s0 (State.applyLxsCfg s) := by
  unfold State.applyLxsCfg
  repeat' first
    | with_reducible assumption | with_reducible apply State.putB_frame | with_reducible apply State.put_frame
    | (with_reducible apply foldOver_frame; intro a t ht) | with_reducible apply r_LXS_PORT_CFG
    | (extract_lets +onlyGivenNames x; refine Fr.cut (D := D) (W := W) (K := K) (s0 := s0) (x := x) ?_ ?_; (on_goal 1 => dsimp -zeta only [x]); (on_goal 2 => intro hx; clear_value x))
    | (extract_lets +onlyGivenNames y) | (intro v w hv) | (intro v hv)

theorem State.lxEnter_frame (s : State) (j st : Nat) (r_LXS_PORT_STATE : W (LXS_PORT_STATE j)) (k_lxs : K .lxs)
    (h_s : Fr D W K s0 s) : Fr D W K s0 (State.lxEnter s j st) := by
  unfold State.lxEnter
  repeat' first
    | with_reducible assumption | with_reducible apply State.setLxPort_frame | with_reducible apply State.put_frame
    | (extract_lets +onlyGivenNames x; refine Fr.cut (D := D) (W := W) (K := K) (s0 := s0) (x := x) ?_ ?_; (on_goal 1 => dsimp -zeta only [x]); (on_goal 2 => intro hx; clear_value x))
    | (extract_lets +onlyGivenNames y)

theorem State.lxStartTrain_frame (s : State) (j : Nat) (r_CAL_CULLET : W CAL_CULLET)
    (r_LAN_LANE_EQ : ∀ i, W (LAN_LANE_EQ i)) (r_LAN_LANE_STATE : ∀ i, W (LAN_LANE_STATE i)) (r_LAN_STATUS : W LAN_STATUS)
    (r_LXS_PORT_STATE : W (LXS_PORT_STATE j)) (k_lan : K .lan) (k_lxs : K .lxs) (h_s : Fr D W K s0 s)
    : Fr D W K s0 (State.lxStartTrain s j) := by
  unfold State.lxStartTrain
  repeat' first
    | with_reducible assumption | with_reducible apply Fr.ite | (with_reducible apply foldOver_frame; intro a t ht)
    | with_reducible apply State.setLxLane_frame | with_reducible apply State.trainLane_frame
    | with_reducible apply State.lxEnter_frame | with_reducible apply r_LAN_LANE_EQ
    | with_reducible apply r_LAN_LANE_STATE
    | (extract_lets +onlyGivenNames x; refine Fr.cut (D := D) (W := W) (K := K) (s0 := s0) (x := x) ?_ ?_; (on_goal 1 => dsimp -zeta only [x]); (on_goal 2 => intro hx; clear_value x))
    | (extract_lets +onlyGivenNames y) | split | (clear_value y; split) | (intro v w hv) | (intro v hv)

theorem State.lxIdle_frame (s : State) (j : Nat) (r_CAL_CULLET : W CAL_CULLET) (r_LAN_LANE_STATE : ∀ i, W (LAN_LANE_STATE i))
    (r_LAN_STATUS : W LAN_STATUS) (k_lan : K .lan) (h_s : Fr D W K s0 s) : Fr D W K s0 (State.lxIdle s j) := by
  unfold State.lxIdle
  repeat' first
    | with_reducible assumption | with_reducible apply Fr.ite | with_reducible apply State.setLaneState_frame
    | (with_reducible apply foldOver_frame; intro a t ht) | with_reducible apply r_LAN_LANE_STATE | split | (intro v w hv)
    | (intro v hv)

theorem State.startLxs_frame (s : State) (r_CAL_CULLET : W CAL_CULLET) (r_LAN_LANE_EQ : ∀ i, W (LAN_LANE_EQ i))
    (r_LAN_LANE_STATE : ∀ i, W (LAN_LANE_STATE i)) (r_LAN_STATUS : W LAN_STATUS)
    (r_LXS_PORT_STATE : ∀ i, W (LXS_PORT_STATE i)) (r_LXS_STATUS : W LXS_STATUS) (k_lan : K .lan) (k_lxs : K .lxs)
    (h_s : Fr D W K s0 s) : Fr D W K s0 (State.startLxs s) := by
  unfold State.startLxs
  repeat' first
    | with_reducible assumption | (simp -zeta (disch := first | assumption | exact rfl) only [↓Fr.setLxs])
    | with_reducible apply Fr.ite | with_reducible apply State.lxStartTrain_frame | with_reducible apply State.put_frame
    | (with_reducible apply foldOver_frame; intro a t ht) | with_reducible apply r_LAN_LANE_EQ
    | with_reducible apply r_LAN_LANE_STATE | with_reducible apply r_LXS_PORT_STATE
    | (extract_lets +onlyGivenNames x; refine Fr.cut (D := D) (W := W) (K := K) (s0 := s0) (x := x) ?_ ?_; (on_goal 1 => dsimp -zeta only [x]); (on_goal 2 => intro hx; clear_value x))
    | (extract_lets +onlyGivenNames y) | split | (intro v w hv) | (intro v hv)

theorem State.showRoot_frame (s : State) (r_LXS_ROOT_HI : W LXS_ROOT_HI) (r_LXS_ROOT_LO : W LXS_ROOT_LO) (h_s : Fr D W K s0 s)
    : Fr D W K s0 (State.showRoot s) := by
  unfold State.showRoot
  repeat' first
    | with_reducible assumption | with_reducible apply State.wrN_frame | with_reducible apply State.put_frame

theorem State.reelect_frame (s : State) (heard : Bool) (r_LXS_ROOT_HI : W LXS_ROOT_HI) (r_LXS_ROOT_LO : W LXS_ROOT_LO)
    (k_lxs : K .lxs) (h_s : Fr D W K s0 s) : Fr D W K s0 (State.reelect s heard) := by
  unfold State.reelect
  repeat' first
    | with_reducible assumption | (simp -zeta (disch := first | assumption | exact rfl) only [↓Fr.setLxs])
    | with_reducible apply Fr.ite | with_reducible apply State.showRoot_frame
    | (extract_lets +onlyGivenNames x; refine Fr.cut (D := D) (W := W) (K := K) (s0 := s0) (x := x) ?_ ?_; (on_goal 1 => dsimp -zeta only [x]); (on_goal 2 => intro hx; clear_value x))
    | (extract_lets +onlyGivenNames y) | split

theorem State.sendHellos_frame (s : State) (k_lxs : K .lxs) (h_s : Fr D W K s0 s) : Fr D W K s0 (State.sendHellos s) := by
  unfold State.sendHellos
  repeat' first
    | with_reducible assumption | (simp -zeta (disch := first | assumption | exact rfl) only [↓Fr.setLxs])
    | with_reducible apply State.queueMsg_frame | (with_reducible apply foldOver_frame; intro a t ht)
    | (extract_lets +onlyGivenNames x; refine Fr.cut (D := D) (W := W) (K := K) (s0 := s0) (x := x) ?_ ?_; (on_goal 1 => dsimp -zeta only [x]); (on_goal 2 => intro hx; clear_value x))
    | (extract_lets +onlyGivenNames y) | (intro v w hv) | (intro v hv)

theorem State.lxFaultPort_frame (s : State) (j code : Nat) (hE : Ev W K) (r_CAL_CULLET : W CAL_CULLET)
    (r_LAN_LANE_STATE : ∀ i, W (LAN_LANE_STATE i)) (r_LAN_STATUS : W LAN_STATUS) (r_LXS_PORT_STATE : W (LXS_PORT_STATE j))
    (k_lan : K .lan) (k_lxs : K .lxs) (h_s : Fr D W K s0 s) : Fr D W K s0 (State.lxFaultPort s j code) := by
  unfold State.lxFaultPort
  repeat' first
    | with_reducible assumption | with_reducible apply State.lxIdle_frame | with_reducible apply State.put_frame
    | with_reducible apply State.lxEnter_frame | with_reducible apply State.raise_frame
    | with_reducible apply r_LAN_LANE_STATE

theorem State.holdTime_frame (s : State) (k_lxs : K .lxs) (h_s : Fr D W K s0 s) : Fr D W K s0 (State.holdTime s) := by
  unfold State.holdTime
  repeat' first
    | with_reducible assumption | (simp -zeta (disch := first | assumption | exact rfl) only [↓Fr.setLxs])
    | with_reducible apply Fr.ite
    | (extract_lets +onlyGivenNames x; refine Fr.cut (D := D) (W := W) (K := K) (s0 := s0) (x := x) ?_ ?_; (on_goal 1 => dsimp -zeta only [x]); (on_goal 2 => intro hx; clear_value x))
    | (extract_lets +onlyGivenNames y) | split | (clear_value y; split) | (intro v w hv) | (intro v hv)

theorem State.attachTo_frame (s : State) (j : Nat) (h : Hello) (hE : Ev W K) (r_LXS_PORT_STATE : W (LXS_PORT_STATE j))
    (r_LXS_STATUS : W LXS_STATUS) (k_lxs : K .lxs) (h_s : Fr D W K s0 s) : Fr D W K s0 (State.attachTo s j h) := by
  unfold State.attachTo
  repeat' first
    | with_reducible assumption | (simp -zeta (disch := first | assumption | exact rfl) only [↓Fr.setLxs])
    | with_reducible apply State.holdTime_frame | with_reducible apply State.putB_frame
    | with_reducible apply State.put_frame | with_reducible apply State.queueMsg_frame
    | with_reducible apply State.raise_frame
    | (extract_lets +onlyGivenNames x; refine Fr.cut (D := D) (W := W) (K := K) (s0 := s0) (x := x) ?_ ?_; (on_goal 1 => dsimp -zeta only [x]); (on_goal 2 => intro hx; clear_value x))
    | (extract_lets +onlyGivenNames y) | split | (clear_value y; split) | (intro v w hv) | (intro v hv)

theorem State.detach_frame (s : State) (dest : Option Nat) (k_lxs : K .lxs) (h_s : Fr D W K s0 s)
    : Fr D W K s0 (State.detach s dest) := by
  unfold State.detach
  repeat' first
    | with_reducible assumption | with_reducible apply Fr.ite | with_reducible apply State.queueMsg_frame
    | (extract_lets +onlyGivenNames x; refine Fr.cut (D := D) (W := W) (K := K) (s0 := s0) (x := x) ?_ ?_; (on_goal 1 => dsimp -zeta only [x]); (on_goal 2 => intro hx; clear_value x))
    | (extract_lets +onlyGivenNames y) | split | (clear_value y; split) | (intro v w hv) | (intro v hv)

theorem State.clearParent_frame (s : State) (hE : Ev W K) (r_LXS_PORT_STATE : ∀ i, W (LXS_PORT_STATE i))
    (r_LXS_STATUS : W LXS_STATUS) (h_s : Fr D W K s0 s) : Fr D W K s0 (State.clearParent s) := by
  unfold State.clearParent
  repeat' first
    | with_reducible assumption | with_reducible apply State.putB_frame | with_reducible apply State.put_frame
    | with_reducible apply State.raise_frame | with_reducible apply r_LXS_PORT_STATE
    | (extract_lets +onlyGivenNames x; refine Fr.cut (D := D) (W := W) (K := K) (s0 := s0) (x := x) ?_ ?_; (on_goal 1 => dsimp -zeta only [x]); (on_goal 2 => intro hx; clear_value x))
    | (extract_lets +onlyGivenNames y) | split

theorem State.loseTime_frame (s : State) (hE : Ev W K) (r_LXS_STATUS : W LXS_STATUS) (r_TIM_DPLL_STATUS : W TIM_DPLL_STATUS)
    (r_TIM_REF_STATUS : W TIM_REF_STATUS) (k_tim : K .tim) (k_lxs : K .lxs) (h_s : Fr D W K s0 s)
    : Fr D W K s0 (State.loseTime s) := by
  unfold State.loseTime
  repeat' first
    | with_reducible assumption | (simp -zeta (disch := first | assumption | exact rfl) only [↓Fr.setLxs])
    | with_reducible apply State.putB_frame | with_reducible apply State.refInvalid_frame
    | (extract_lets +onlyGivenNames x; refine Fr.cut (D := D) (W := W) (K := K) (s0 := s0) (x := x) ?_ ?_; (on_goal 1 => dsimp -zeta only [x]); (on_goal 2 => intro hx; clear_value x))
    | (extract_lets +onlyGivenNames y)

theorem State.parentLost_frame (s : State) (hE : Ev W K) (r_LXS_PORT_STATE : ∀ i, W (LXS_PORT_STATE i))
    (r_LXS_ROOT_HI : W LXS_ROOT_HI) (r_LXS_ROOT_LO : W LXS_ROOT_LO) (r_LXS_STATUS : W LXS_STATUS)
    (r_LXS_SYSID_HI : W LXS_SYSID_HI) (r_TIM_DPLL_STATUS : W TIM_DPLL_STATUS) (r_TIM_REF_STATUS : W TIM_REF_STATUS)
    (k_tim : K .tim) (k_lxs : K .lxs) (h_s : Fr D W K s0 s) : Fr D W K s0 (State.parentLost s) := by
  unfold State.parentLost
  repeat' first
    | with_reducible assumption | (simp -zeta (disch := first | assumption | exact rfl) only [↓Fr.setLxs])
    | with_reducible apply State.detach_frame | with_reducible apply State.clearParent_frame
    | with_reducible apply State.loseTime_frame | with_reducible apply State.attachTo_frame
    | with_reducible apply State.put_frame | with_reducible apply State.showRoot_frame
    | with_reducible apply State.sendHellos_frame | with_reducible apply r_LXS_PORT_STATE
    | (extract_lets +onlyGivenNames x; refine Fr.cut (D := D) (W := W) (K := K) (s0 := s0) (x := x) ?_ ?_; (on_goal 1 => dsimp -zeta only [x]); (on_goal 2 => intro hx; clear_value x))
    | (extract_lets +onlyGivenNames y) | split | (clear_value y; split) | (intro v w hv) | (intro v hv)

theorem State.dropChild_frame (s : State) (j : Nat) (hE : Ev W K) (r_LXS_PORT_STATE : W (LXS_PORT_STATE j)) (k_lxs : K .lxs)
    (h_s : Fr D W K s0 s) : Fr D W K s0 (State.dropChild s j) := by
  unfold State.dropChild
  repeat' first
    | with_reducible assumption | (simp -zeta (disch := first | assumption | exact rfl) only [↓Fr.setLxs])
    | with_reducible apply Fr.ite | with_reducible apply State.putB_frame | with_reducible apply State.raise_frame
    | (extract_lets +onlyGivenNames x; refine Fr.cut (D := D) (W := W) (K := K) (s0 := s0) (x := x) ?_ ?_; (on_goal 1 => dsimp -zeta only [x]); (on_goal 2 => intro hx; clear_value x))
    | (extract_lets +onlyGivenNames y) | split | (intro v w hv) | (intro v hv)

theorem State.leaveUp_frame (s : State) (j st : Nat) (hE : Ev W K) (r_LXS_PORT_STATE : ∀ i, W (LXS_PORT_STATE i))
    (r_LXS_ROOT_HI : W LXS_ROOT_HI) (r_LXS_ROOT_LO : W LXS_ROOT_LO) (r_LXS_STATUS : W LXS_STATUS)
    (r_LXS_SYSID_HI : W LXS_SYSID_HI) (r_TIM_DPLL_STATUS : W TIM_DPLL_STATUS) (r_TIM_REF_STATUS : W TIM_REF_STATUS)
    (k_tim : K .tim) (k_lxs : K .lxs) (h_s : Fr D W K s0 s) : Fr D W K s0 (State.leaveUp s j st) := by
  unfold State.leaveUp
  repeat' first
    | with_reducible assumption | (simp -zeta (disch := first | assumption | exact rfl) only [↓Fr.setLxs])
    | with_reducible apply Fr.ite | with_reducible apply State.raise_frame | with_reducible apply State.dropChild_frame
    | with_reducible apply State.lxEnter_frame | with_reducible apply State.setLxPort_frame
    | with_reducible apply State.parentLost_frame | with_reducible apply r_LXS_PORT_STATE
    | (extract_lets +onlyGivenNames x; refine Fr.cut (D := D) (W := W) (K := K) (s0 := s0) (x := x) ?_ ?_; (on_goal 1 => dsimp -zeta only [x]); (on_goal 2 => intro hx; clear_value x))
    | (extract_lets +onlyGivenNames y) | split | (clear_value y; split) | (intro v w hv) | (intro v hv)

theorem State.lxGoDown_frame (s : State) (j : Nat) (hE : Ev W K) (r_APT_PORT_STATE : ∀ i, W (APT_PORT_STATE i))
    (r_CAL_CULLET : W CAL_CULLET) (r_LAN_LANE_EQ : ∀ i, W (LAN_LANE_EQ i)) (r_LAN_LANE_STATE : ∀ i, W (LAN_LANE_STATE i))
    (r_LAN_STATUS : W LAN_STATUS) (r_LXS_PORT_STATE : ∀ i, W (LXS_PORT_STATE i)) (r_LXS_ROOT_HI : W LXS_ROOT_HI)
    (r_LXS_ROOT_LO : W LXS_ROOT_LO) (r_LXS_STATUS : W LXS_STATUS) (r_LXS_SYSID_HI : W LXS_SYSID_HI)
    (r_TIM_DPLL_STATUS : W TIM_DPLL_STATUS) (r_TIM_REF_STATUS : W TIM_REF_STATUS) (k_tim : K .tim) (k_apt : K .apt)
    (k_lan : K .lan) (k_lxs : K .lxs) (h_s : Fr D W K s0 s) : Fr D W K s0 (State.lxGoDown s j) := by
  unfold State.lxGoDown
  repeat' first
    | with_reducible assumption | with_reducible apply Fr.ite | with_reducible apply State.leaveUp_frame
    | with_reducible apply State.lxEnter_frame | with_reducible apply State.setLxPort_frame
    | with_reducible apply State.lxIdle_frame | with_reducible apply State.lxStartTrain_frame
    | with_reducible apply r_APT_PORT_STATE | with_reducible apply r_LAN_LANE_EQ | with_reducible apply r_LAN_LANE_STATE
    | with_reducible apply r_LXS_PORT_STATE
    | (extract_lets +onlyGivenNames x; refine Fr.cut (D := D) (W := W) (K := K) (s0 := s0) (x := x) ?_ ?_; (on_goal 1 => dsimp -zeta only [x]); (on_goal 2 => intro hx; clear_value x))
    | (extract_lets +onlyGivenNames y) | split

theorem State.lxLaneLoss_frame (s : State) (l : Nat) (hE : Ev W K) (r_APT_PORT_STATE : ∀ i, W (APT_PORT_STATE i))
    (r_CAL_CULLET : W CAL_CULLET) (r_LAN_LANE_EQ : ∀ i, W (LAN_LANE_EQ i)) (r_LAN_LANE_STATE : ∀ i, W (LAN_LANE_STATE i))
    (r_LAN_STATUS : W LAN_STATUS) (r_LXS_PORT_STATE : ∀ i, W (LXS_PORT_STATE i)) (r_LXS_ROOT_HI : W LXS_ROOT_HI)
    (r_LXS_ROOT_LO : W LXS_ROOT_LO) (r_LXS_STATUS : W LXS_STATUS) (r_LXS_SYSID_HI : W LXS_SYSID_HI)
    (r_TIM_DPLL_STATUS : W TIM_DPLL_STATUS) (r_TIM_REF_STATUS : W TIM_REF_STATUS) (k_tim : K .tim) (k_apt : K .apt)
    (k_lan : K .lan) (k_lxs : K .lxs) (h_s : Fr D W K s0 s) : Fr D W K s0 (State.lxLaneLoss s l) := by
  unfold State.lxLaneLoss
  repeat' first
    | with_reducible assumption | with_reducible apply Fr.ite | with_reducible apply State.setLxPort_frame
    | with_reducible apply State.putB_frame | with_reducible apply State.inc_frame
    | with_reducible apply State.queueMsg_frame | with_reducible apply State.leaveUp_frame
    | with_reducible apply State.lxGoDown_frame | with_reducible apply r_APT_PORT_STATE
    | with_reducible apply r_LAN_LANE_EQ | with_reducible apply r_LAN_LANE_STATE | with_reducible apply r_LXS_PORT_STATE
    | (extract_lets +onlyGivenNames x; refine Fr.cut (D := D) (W := W) (K := K) (s0 := s0) (x := x) ?_ ?_; (on_goal 1 => dsimp -zeta only [x]); (on_goal 2 => intro hx; clear_value x))
    | (extract_lets +onlyGivenNames y) | split | (clear_value y; split) | (intro v w hv) | (intro v hv)

theorem State.lxStop_frame (s : State) (j : Nat) (r_CAL_CULLET : W CAL_CULLET) (r_LAN_LANE_EQ : ∀ i, W (LAN_LANE_EQ i))
    (r_LAN_LANE_STATE : ∀ i, W (LAN_LANE_STATE i)) (r_LAN_STATUS : W LAN_STATUS) (k_lan : K .lan) (k_lxs : K .lxs)
    (h_s : Fr D W K s0 s) : Fr D W K s0 (State.lxStop s j) := by
  unfold State.lxStop
  repeat' first
    | with_reducible assumption | (with_reducible apply foldOver_frame; intro a t ht)
    | with_reducible apply State.trainLane_frame | with_reducible apply State.setLxPort_frame
    | with_reducible apply r_LAN_LANE_EQ | with_reducible apply r_LAN_LANE_STATE
    | (extract_lets +onlyGivenNames x; refine Fr.cut (D := D) (W := W) (K := K) (s0 := s0) (x := x) ?_ ?_; (on_goal 1 => dsimp -zeta only [x]); (on_goal 2 => intro hx; clear_value x))
    | (extract_lets +onlyGivenNames y) | split | (clear_value y; split) | (intro v w hv) | (intro v hv)

theorem onMsg_frame (dt j : Nat) (sts : List Nat) (s : State) (f : State → State) (r_LXS_PORT_RX : W (LXS_PORT_RX j))
    (h_s : Fr D W K s0 s) (h_f : ∀ (v0 : State), Fr D W K s0 v0 → Fr D W K s0 (f v0)) : Fr D W K s0 (onMsg dt j sts s f) := by
  unfold onMsg
  repeat' first
    | with_reducible assumption | with_reducible apply State.tick_frame | with_reducible apply State.onLiveIf_frame
    | with_reducible apply State.inc_frame | with_reducible apply h_f
    | (extract_lets +onlyGivenNames x; refine Fr.cut (D := D) (W := W) (K := K) (s0 := s0) (x := x) ?_ ?_; (on_goal 1 => dsimp -zeta only [x]); (on_goal 2 => intro hx; clear_value x))
    | (extract_lets +onlyGivenNames y) | (intro v w hv) | (intro v hv)

theorem doLxsPortTrained_frame (dt j neigh : Nat) (s : State) (hE : Ev W K) (r_CAL_CULLET : W CAL_CULLET)
    (r_LAN_LANE_STATE : ∀ i, W (LAN_LANE_STATE i)) (r_LAN_STATUS : W LAN_STATUS)
    (r_LXS_PORT_NEIGH_HI : W (LXS_PORT_NEIGH_HI j)) (r_LXS_PORT_NEIGH_LO : W (LXS_PORT_NEIGH_LO j))
    (r_LXS_PORT_STATE : W (LXS_PORT_STATE j)) (r_LXS_ROOT_HI : W LXS_ROOT_HI) (r_LXS_ROOT_LO : W LXS_ROOT_LO)
    (r_LXS_STATUS : W LXS_STATUS) (k_lan : K .lan) (k_lxs : K .lxs) (h_s : Fr D W K s0 s)
    : Fr D W K s0 (doLxsPortTrained dt j neigh s) := by
  unfold doLxsPortTrained
  repeat' first
    | with_reducible assumption | with_reducible apply Fr.ite | with_reducible apply State.tick_frame
    | with_reducible apply State.onLiveIf_frame | with_reducible apply State.lxFaultPort_frame
    | with_reducible apply State.wrN_frame | with_reducible apply State.put_frame | with_reducible apply State.putB_frame
    | with_reducible apply State.setLxPort_frame | with_reducible apply State.lxEnter_frame
    | with_reducible apply State.reelect_frame | with_reducible apply State.queueMsg_frame
    | with_reducible apply r_LAN_LANE_STATE
    | (extract_lets +onlyGivenNames x; refine Fr.cut (D := D) (W := W) (K := K) (s0 := s0) (x := x) ?_ ?_; (on_goal 1 => dsimp -zeta only [x]); (on_goal 2 => intro hx; clear_value x))
    | (extract_lets +onlyGivenNames y) | split | (intro v w hv) | (intro v hv)

theorem doLxsPortFaultRetry_frame (dt j : Nat) (s : State) (r_CAL_CULLET : W CAL_CULLET)
    (r_LAN_LANE_EQ : ∀ i, W (LAN_LANE_EQ i)) (r_LAN_LANE_STATE : ∀ i, W (LAN_LANE_STATE i)) (r_LAN_STATUS : W LAN_STATUS)
    (r_LXS_PORT_STATE : W (LXS_PORT_STATE j)) (k_lan : K .lan) (k_lxs : K .lxs) (h_s : Fr D W K s0 s)
    : Fr D W K s0 (doLxsPortFaultRetry dt j s) := by
  unfold doLxsPortFaultRetry
  repeat' first
    | with_reducible assumption | with_reducible apply State.tick_frame | with_reducible apply State.onLiveIf_frame
    | with_reducible apply State.lxEnter_frame | with_reducible apply State.lxStartTrain_frame
    | with_reducible apply r_LAN_LANE_EQ | with_reducible apply r_LAN_LANE_STATE
    | (extract_lets +onlyGivenNames x; refine Fr.cut (D := D) (W := W) (K := K) (s0 := s0) (x := x) ?_ ?_; (on_goal 1 => dsimp -zeta only [x]); (on_goal 2 => intro hx; clear_value x))
    | (extract_lets +onlyGivenNames y) | (intro v w hv) | (intro v hv)

theorem State.resendFrom_frame (s : State) (l ack : Nat) (r_LXS_PORT_REPLAYS : W (LXS_PORT_REPLAYS ((l - 136) / 2)))
    (k_lxs : K .lxs) (h_s : Fr D W K s0 s) : Fr D W K s0 (State.resendFrom s l ack) := by
  unfold State.resendFrom
  repeat' first
    | with_reducible assumption | with_reducible apply Fr.ite | with_reducible apply State.setLxLane_frame
    | with_reducible apply State.put_frame
    | (extract_lets +onlyGivenNames x; refine Fr.cut (D := D) (W := W) (K := K) (s0 := s0) (x := x) ?_ ?_; (on_goal 1 => dsimp -zeta only [x]); (on_goal 2 => intro hx; clear_value x))
    | (extract_lets +onlyGivenNames y) | split | (intro v w hv) | (intro v hv)

theorem doLinkAckTimeout_frame (dt l : Nat) (s : State) (r_LXS_PORT_REPLAYS : W (LXS_PORT_REPLAYS ((l - 136) / 2)))
    (k_lxs : K .lxs) (h_s : Fr D W K s0 s) : Fr D W K s0 (doLinkAckTimeout dt l s) := by
  unfold doLinkAckTimeout
  repeat' first
    | with_reducible assumption | with_reducible apply State.tick_frame | with_reducible apply State.onLiveIf_frame
    | with_reducible apply State.resendFrom_frame
    | (extract_lets +onlyGivenNames x; refine Fr.cut (D := D) (W := W) (K := K) (s0 := s0) (x := x) ?_ ?_; (on_goal 1 => dsimp -zeta only [x]); (on_goal 2 => intro hx; clear_value x))
    | (extract_lets +onlyGivenNames y) | (intro v w hv) | (intro v hv)

theorem State.adoptRoot_frame (s : State) (j : Nat) (h : Hello) (hE : Ev W K)
    (r_LXS_PORT_STATE : ∀ i, W (LXS_PORT_STATE i)) (r_LXS_ROOT_HI : W LXS_ROOT_HI) (r_LXS_ROOT_LO : W LXS_ROOT_LO)
    (r_LXS_STARTUP : W LXS_STARTUP) (r_LXS_STATUS : W LXS_STATUS) (r_LXS_SYSID_HI : W LXS_SYSID_HI)
    (r_TIM_DPLL_STATUS : W TIM_DPLL_STATUS) (r_TIM_REF_STATUS : W TIM_REF_STATUS) (k_tim : K .tim) (k_lxs : K .lxs)
    (h_s : Fr D W K s0 s) : Fr D W K s0 (State.adoptRoot s j h) := by
  unfold State.adoptRoot
  repeat' first
    | with_reducible assumption | (simp -zeta (disch := first | assumption | exact rfl) only [↓Fr.setLxs, ↓Fr.setTim])
    | with_reducible apply State.detach_frame | with_reducible apply State.clearParent_frame
    | with_reducible apply State.rebaseSys_frame | with_reducible apply State.put_frame
    | with_reducible apply State.putB_frame | with_reducible apply State.showRoot_frame
    | with_reducible apply State.raise_frame | with_reducible apply State.attachTo_frame
    | with_reducible apply State.selectRef_frame | with_reducible apply State.enterDpll_frame
    | with_reducible apply r_LXS_PORT_STATE
    | (extract_lets +onlyGivenNames x; refine Fr.cut (D := D) (W := W) (K := K) (s0 := s0) (x := x) ?_ ?_; (on_goal 1 => dsimp -zeta only [x]); (on_goal 2 => intro hx; clear_value x))
    | (extract_lets +onlyGivenNames y) | split | (clear_value y; split) | (intro v w hv) | (intro v hv)

theorem State.becomeJoiner_frame (s : State) (hE : Ev W K) (r_GLB_BOOT_STATUS : W GLB_BOOT_STATUS)
    (r_HIF_STATUS : W HIF_STATUS) (r_LMP_HB : W LMP_HB) (r_LMP_SAFETY : W LMP_SAFETY)
    (r_LXS_PORT_STATE : ∀ i, W (LXS_PORT_STATE i)) (r_LXS_ROOT_HI : W LXS_ROOT_HI) (r_LXS_ROOT_LO : W LXS_ROOT_LO)
    (r_LXS_STATION : W LXS_STATION) (r_LXS_STATUS : W LXS_STATUS) (k_out : K .out) (k_scn : K .scn) (k_lmp : K .lmp)
    (k_lxs : K .lxs) (h_s : Fr D W K s0 s) : Fr D W K s0 (State.becomeJoiner s) := by
  unfold State.becomeJoiner
  repeat' first
    | with_reducible assumption | (simp -zeta (disch := first | assumption | exact rfl) only [↓Fr.setLxs])
    | with_reducible apply State.detach_frame | with_reducible apply State.clearParent_frame
    | with_reducible apply State.startupUndone_frame | with_reducible apply State.putB_frame
    | with_reducible apply State.put_frame | with_reducible apply State.reelect_frame
    | with_reducible apply r_LXS_PORT_STATE
    | (extract_lets +onlyGivenNames x; refine Fr.cut (D := D) (W := W) (K := K) (s0 := s0) (x := x) ?_ ?_; (on_goal 1 => dsimp -zeta only [x]); (on_goal 2 => intro hx; clear_value x))
    | (extract_lets +onlyGivenNames y) | split | (clear_value y; split) | (intro v w hv) | (intro v hv)

theorem State.decideJoin_frame (s : State) (j : Nat) (h : Hello) (hE : Ev W K) (r_GLB_BOOT_STATUS : W GLB_BOOT_STATUS)
    (r_HIF_STATUS : W HIF_STATUS) (r_LMP_HB : W LMP_HB) (r_LMP_SAFETY : W LMP_SAFETY)
    (r_LXS_PORT_STATE : ∀ i, W (LXS_PORT_STATE i)) (r_LXS_ROOT_HI : W LXS_ROOT_HI) (r_LXS_ROOT_LO : W LXS_ROOT_LO)
    (r_LXS_STARTUP : W LXS_STARTUP) (r_LXS_STATION : W LXS_STATION) (r_LXS_STATUS : W LXS_STATUS)
    (r_LXS_SYSID_HI : W LXS_SYSID_HI) (r_TIM_DPLL_STATUS : W TIM_DPLL_STATUS) (r_TIM_REF_STATUS : W TIM_REF_STATUS)
    (k_fresh : K .fresh) (k_out : K .out) (k_tim : K .tim) (k_scn : K .scn) (k_lmp : K .lmp) (k_lxs : K .lxs)
    (h_s : Fr D W K s0 s) : Fr D W K s0 (State.decideJoin s j h) := by
  unfold State.decideJoin
  repeat' first
    | with_reducible assumption | (simp -zeta (disch := first | assumption | exact rfl) only [↓Fr.setLxs])
    | with_reducible apply Fr.ite | with_reducible apply State.put_frame | with_reducible apply State.lxEnter_frame
    | with_reducible apply State.useFree_frame | with_reducible apply State.queueMsg_frame
    | with_reducible apply State.adoptRoot_frame | with_reducible apply State.becomeJoiner_frame
    | with_reducible apply State.raise_frame | with_reducible apply r_LXS_PORT_STATE
    | (extract_lets +onlyGivenNames x; refine Fr.cut (D := D) (W := W) (K := K) (s0 := s0) (x := x) ?_ ?_; (on_goal 1 => dsimp -zeta only [x]); (on_goal 2 => intro hx; clear_value x))
    | (extract_lets +onlyGivenNames y) | split | (clear_value y; split) | (intro v w hv) | (intro v hv)

theorem State.followParent_frame (s : State) (h : Hello) (hE : Ev W K) (r_APT_PORT_STATE : ∀ i, W (APT_PORT_STATE i))
    (r_LXS_ROOT_HI : W LXS_ROOT_HI) (r_LXS_ROOT_LO : W LXS_ROOT_LO) (r_LXS_STARTUP : W LXS_STARTUP)
    (r_LXS_STATUS : W LXS_STATUS) (r_LXS_SYSID_HI : W LXS_SYSID_HI) (k_apt : K .apt) (k_lxs : K .lxs)
    (h_s : Fr D W K s0 s) : Fr D W K s0 (State.followParent s h) := by
  unfold State.followParent
  repeat' first
    | with_reducible assumption | (simp -zeta (disch := first | assumption | exact rfl) only [↓Fr.setLxs])
    | with_reducible apply Fr.ite | with_reducible apply State.reported_frame | with_reducible apply State.showRoot_frame
    | with_reducible apply State.put_frame | with_reducible apply State.raise_frame
    | with_reducible apply State.sendHellos_frame | with_reducible apply r_APT_PORT_STATE
    | (extract_lets +onlyGivenNames x; refine Fr.cut (D := D) (W := W) (K := K) (s0 := s0) (x := x) ?_ ?_; (on_goal 1 => dsimp -zeta only [x]); (on_goal 2 => intro hx; clear_value x))
    | (extract_lets +onlyGivenNames y) | split | (clear_value y; split) | (intro v w hv) | (intro v hv)

theorem State.hearStarted_frame (s : State) (j : Nat) (h : Hello) (hE : Ev W K)
    (r_APT_PORT_STATE : ∀ i, W (APT_PORT_STATE i)) (r_LXS_PORT_STATE : ∀ i, W (LXS_PORT_STATE i))
    (r_LXS_ROOT_HI : W LXS_ROOT_HI) (r_LXS_ROOT_LO : W LXS_ROOT_LO) (r_LXS_STARTUP : W LXS_STARTUP)
    (r_LXS_STATUS : W LXS_STATUS) (r_LXS_SYSID_HI : W LXS_SYSID_HI) (r_TIM_DPLL_STATUS : W TIM_DPLL_STATUS)
    (r_TIM_REF_STATUS : W TIM_REF_STATUS) (k_tim : K .tim) (k_apt : K .apt) (k_lxs : K .lxs) (h_s : Fr D W K s0 s)
    : Fr D W K s0 (State.hearStarted s j h) := by
  unfold State.hearStarted
  repeat' first
    | with_reducible assumption | with_reducible apply Fr.ite | with_reducible apply State.followParent_frame
    | with_reducible apply State.adoptRoot_frame | with_reducible apply r_APT_PORT_STATE
    | with_reducible apply r_LXS_PORT_STATE
    | (extract_lets +onlyGivenNames x; refine Fr.cut (D := D) (W := W) (K := K) (s0 := s0) (x := x) ?_ ?_; (on_goal 1 => dsimp -zeta only [x]); (on_goal 2 => intro hx; clear_value x))
    | (extract_lets +onlyGivenNames y) | split | (clear_value y; split) | (intro v w hv) | (intro v hv)

theorem doHello_frame (dt j id prio portN : Nat) (started : Bool) (root rootPrio hops sysid gen : Nat) (near : Bool)
    (s : State) (hE : Ev W K) (r_APT_PORT_STATE : ∀ i, W (APT_PORT_STATE i)) (r_GLB_BOOT_STATUS : W GLB_BOOT_STATUS)
    (r_HIF_STATUS : W HIF_STATUS) (r_LMP_HB : W LMP_HB) (r_LMP_SAFETY : W LMP_SAFETY)
    (r_LXS_PORT_NEIGH_HI : W (LXS_PORT_NEIGH_HI j)) (r_LXS_PORT_NEIGH_LO : W (LXS_PORT_NEIGH_LO j))
    (r_LXS_PORT_RX : ∀ i, W (LXS_PORT_RX i)) (r_LXS_PORT_STATE : ∀ i, W (LXS_PORT_STATE i))
    (r_LXS_ROOT_HI : W LXS_ROOT_HI) (r_LXS_ROOT_LO : W LXS_ROOT_LO) (r_LXS_STARTUP : W LXS_STARTUP)
    (r_LXS_STATION : W LXS_STATION) (r_LXS_STATUS : W LXS_STATUS) (r_LXS_SYSID_HI : W LXS_SYSID_HI)
    (r_TIM_DPLL_STATUS : W TIM_DPLL_STATUS) (r_TIM_REF_STATUS : W TIM_REF_STATUS) (k_fresh : K .fresh) (k_out : K .out)
    (k_tim : K .tim) (k_apt : K .apt) (k_scn : K .scn) (k_lmp : K .lmp) (k_lxs : K .lxs) (h_s : Fr D W K s0 s)
    : Fr D W K s0 (doHello dt j id prio portN started root rootPrio hops sysid gen near s) := by
  unfold doHello
  repeat' first
    | with_reducible assumption | with_reducible apply Fr.ite | with_reducible apply onMsg_frame
    | with_reducible apply State.setLxPort_frame | with_reducible apply State.wrN_frame
    | with_reducible apply State.put_frame | with_reducible apply State.becomeJoiner_frame
    | with_reducible apply State.hearStarted_frame | with_reducible apply State.decideJoin_frame
    | with_reducible apply State.reelect_frame | with_reducible apply r_APT_PORT_STATE
    | with_reducible apply r_LXS_PORT_RX | with_reducible apply r_LXS_PORT_STATE
    | (extract_lets +onlyGivenNames x; refine Fr.cut (D := D) (W := W) (K := K) (s0 := s0) (x := x) ?_ ?_; (on_goal 1 => dsimp -zeta only [x]); (on_goal 2 => intro hx; clear_value x))
    | (extract_lets +onlyGivenNames y) | split | (clear_value y; split) | (intro v w hv) | (intro v hv)

theorem doHelloTimer_frame (dt : Nat) (s : State) (k_lxs : K .lxs) (h_s : Fr D W K s0 s)
    : Fr D W K s0 (doHelloTimer dt s) := by
  unfold doHelloTimer
  repeat' first
    | with_reducible assumption | with_reducible apply Fr.ite | with_reducible apply State.tick_frame
    | with_reducible apply State.onLiveIf_frame | with_reducible apply State.sendHellos_frame
    | (extract_lets +onlyGivenNames x; refine Fr.cut (D := D) (W := W) (K := K) (s0 := s0) (x := x) ?_ ?_; (on_goal 1 => dsimp -zeta only [x]); (on_goal 2 => intro hx; clear_value x))
    | (extract_lets +onlyGivenNames y) | split | (intro v w hv) | (intro v hv)

theorem State.takeRootRole_frame (s : State) (hE : Ev W K) (r_LXS_PORT_STATE : ∀ i, W (LXS_PORT_STATE i))
    (r_LXS_STATUS : W LXS_STATUS) (r_TIM_REF_STATUS : W TIM_REF_STATUS) (k_tim : K .tim) (k_lxs : K .lxs)
    (h_s : Fr D W K s0 s) : Fr D W K s0 (State.takeRootRole s) := by
  unfold State.takeRootRole
  repeat' first
    | with_reducible assumption | (simp -zeta (disch := first | assumption | exact rfl) only [↓Fr.setLxs])
    | with_reducible apply State.detach_frame | with_reducible apply State.clearParent_frame
    | with_reducible apply State.rebaseSys_frame | with_reducible apply State.putB_frame
    | with_reducible apply State.put_frame | with_reducible apply State.selectOwn_frame
    | with_reducible apply r_LXS_PORT_STATE
    | (extract_lets +onlyGivenNames x; refine Fr.cut (D := D) (W := W) (K := K) (s0 := s0) (x := x) ?_ ?_; (on_goal 1 => dsimp -zeta only [x]); (on_goal 2 => intro hx; clear_value x))
    | (extract_lets +onlyGivenNames y) | split | (clear_value y; split) | (intro v w hv) | (intro v hv)

theorem doElectionComplete_frame (dt : Nat) (s : State) (hE : Ev W K) (r_LXS_PORT_STATE : ∀ i, W (LXS_PORT_STATE i))
    (r_LXS_STARTUP : W LXS_STARTUP) (r_LXS_STATUS : W LXS_STATUS) (r_LXS_SYSID_HI : W LXS_SYSID_HI)
    (r_LXS_SYSID_LO : W LXS_SYSID_LO) (r_TIM_REF_STATUS : W TIM_REF_STATUS) (k_tim : K .tim) (k_lxs : K .lxs)
    (h_s : Fr D W K s0 s) : Fr D W K s0 (doElectionComplete dt s) := by
  unfold doElectionComplete
  repeat' first
    | with_reducible assumption | (simp -zeta (disch := first | assumption | exact rfl) only [↓Fr.setLxs])
    | with_reducible apply Fr.ite | with_reducible apply State.tick_frame | with_reducible apply State.onLiveIf_frame
    | with_reducible apply State.wrN_frame | with_reducible apply State.put_frame | with_reducible apply State.raise_frame
    | with_reducible apply State.takeRootRole_frame | with_reducible apply State.clearParent_frame
    | with_reducible apply State.putB_frame | with_reducible apply State.detach_frame
    | with_reducible apply State.attachTo_frame | with_reducible apply r_LXS_PORT_STATE
    | (extract_lets +onlyGivenNames x; refine Fr.cut (D := D) (W := W) (K := K) (s0 := s0) (x := x) ?_ ?_; (on_goal 1 => dsimp -zeta only [x]); (on_goal 2 => intro hx; clear_value x))
    | (extract_lets +onlyGivenNames y) | split | (clear_value y; split) | (intro v w hv) | (intro v hv)

theorem doAttach_frame (dt j : Nat) (detach : Bool) (s : State) (hE : Ev W K) (r_LXS_PORT_RX : W (LXS_PORT_RX j))
    (r_LXS_PORT_STATE : W (LXS_PORT_STATE j)) (k_lxs : K .lxs) (h_s : Fr D W K s0 s)
    : Fr D W K s0 (doAttach dt j detach s) := by
  unfold doAttach
  repeat' first
    | with_reducible assumption | with_reducible apply Fr.ite | with_reducible apply onMsg_frame
    | with_reducible apply State.dropChild_frame | with_reducible apply State.putB_frame
    | with_reducible apply State.raise_frame | split | (intro v w hv) | (intro v hv)

theorem doParentTimeout_frame (dt : Nat) (s : State) (hE : Ev W K) (r_APT_PORT_STATE : ∀ i, W (APT_PORT_STATE i))
    (r_LXS_PORT_STATE : ∀ i, W (LXS_PORT_STATE i)) (r_LXS_ROOT_HI : W LXS_ROOT_HI) (r_LXS_ROOT_LO : W LXS_ROOT_LO)
    (r_LXS_STATUS : W LXS_STATUS) (r_LXS_SYSID_HI : W LXS_SYSID_HI) (r_TIM_DPLL_STATUS : W TIM_DPLL_STATUS)
    (r_TIM_REF_STATUS : W TIM_REF_STATUS) (k_tim : K .tim) (k_apt : K .apt) (k_lxs : K .lxs) (h_s : Fr D W K s0 s)
    : Fr D W K s0 (doParentTimeout dt s) := by
  unfold doParentTimeout
  repeat' first
    | with_reducible assumption | with_reducible apply State.tick_frame | with_reducible apply State.onLiveIf_frame
    | with_reducible apply State.parentLost_frame | with_reducible apply r_APT_PORT_STATE
    | with_reducible apply r_LXS_PORT_STATE
    | (extract_lets +onlyGivenNames x; refine Fr.cut (D := D) (W := W) (K := K) (s0 := s0) (x := x) ?_ ?_; (on_goal 1 => dsimp -zeta only [x]); (on_goal 2 => intro hx; clear_value x))
    | (extract_lets +onlyGivenNames y) | (intro v w hv) | (intro v hv)

theorem State.showHeight_frame (s : State) (hE : Ev W K) (r_LXS_STATUS : W LXS_STATUS) (h_s : Fr D W K s0 s)
    : Fr D W K s0 (State.showHeight s) := by
  unfold State.showHeight
  repeat' first
    | with_reducible assumption | with_reducible apply Fr.ite | with_reducible apply State.put_frame
    | with_reducible apply State.putB_frame | with_reducible apply State.raise_frame
    | (extract_lets +onlyGivenNames x; refine Fr.cut (D := D) (W := W) (K := K) (s0 := s0) (x := x) ?_ ?_; (on_goal 1 => dsimp -zeta only [x]); (on_goal 2 => intro hx; clear_value x))
    | (extract_lets +onlyGivenNames y) | split | (clear_value y; split) | (intro v w hv) | (intro v hv)

theorem State.sendAssign_frame (s : State) (a : Assign) (k_lxs : K .lxs) (h_s : Fr D W K s0 s)
    : Fr D W K s0 (State.sendAssign s a) := by
  unfold State.sendAssign
  repeat' first
    | with_reducible assumption | (simp -zeta (disch := first | assumption | exact rfl) only [↓Fr.setLxs])
    | with_reducible apply State.floodMsg_frame
    | (extract_lets +onlyGivenNames x; refine Fr.cut (D := D) (W := W) (K := K) (s0 := s0) (x := x) ?_ ?_; (on_goal 1 => dsimp -zeta only [x]); (on_goal 2 => intro hx; clear_value x))
    | (extract_lets +onlyGivenNames y)

theorem doReport_frame (dt j id : Nat) (conv spare : Bool) (n0 n1 n2 n3 highest : Nat) (s : State)
    (r_LXS_PORT_RX : ∀ i, W (LXS_PORT_RX i)) (k_lxs : K .lxs) (h_s : Fr D W K s0 s)
    : Fr D W K s0 (doReport dt j id conv spare n0 n1 n2 n3 highest s) := by
  unfold doReport
  repeat' first
    | with_reducible assumption | (simp -zeta (disch := first | assumption | exact rfl) only [↓Fr.setLxs])
    | with_reducible apply Fr.ite | with_reducible apply onMsg_frame | with_reducible apply State.queueMsg_frame
    | with_reducible apply r_LXS_PORT_RX
    | (extract_lets +onlyGivenNames x; refine Fr.cut (D := D) (W := W) (K := K) (s0 := s0) (x := x) ?_ ?_; (on_goal 1 => dsimp -zeta only [x]); (on_goal 2 => intro hx; clear_value x))
    | (extract_lets +onlyGivenNames y) | split | (clear_value y; split) | (intro v w hv) | (intro v hv)

theorem State.assignStations_frame (s : State) (k_lxs : K .lxs) (h_s : Fr D W K s0 s)
    : Fr D W K s0 (State.assignStations s) := by
  unfold State.assignStations
  repeat' first
    | with_reducible assumption | (simp -zeta (disch := first | assumption | exact rfl) only [↓Fr.setLxs])
    | with_reducible apply Fr.ite | (with_reducible apply foldOver_frame; intro a t ht)
    | with_reducible apply State.sendAssign_frame
    | (extract_lets +onlyGivenNames x; refine Fr.cut (D := D) (W := W) (K := K) (s0 := s0) (x := x) ?_ ?_; (on_goal 1 => dsimp -zeta only [x]); (on_goal 2 => intro hx; clear_value x))
    | (extract_lets +onlyGivenNames y) | split | (clear_value y; split) | (intro v w hv) | (intro v hv)

theorem doReportQuietTimeout_frame (dt : Nat) (s : State) (hE : Ev W K) (r_LXS_STATUS : W LXS_STATUS) (k_lxs : K .lxs)
    (h_s : Fr D W K s0 s) : Fr D W K s0 (doReportQuietTimeout dt s) := by
  unfold doReportQuietTimeout
  repeat' first
    | with_reducible assumption | with_reducible apply Fr.ite | with_reducible apply State.tick_frame
    | with_reducible apply State.onLiveIf_frame | with_reducible apply State.showHeight_frame
    | with_reducible apply State.assignStations_frame | with_reducible apply State.put_frame
    | (extract_lets +onlyGivenNames x; refine Fr.cut (D := D) (W := W) (K := K) (s0 := s0) (x := x) ?_ ?_; (on_goal 1 => dsimp -zeta only [x]); (on_goal 2 => intro hx; clear_value x))
    | (extract_lets +onlyGivenNames y) | split | (clear_value y; split) | (intro v w hv) | (intro v hv)

theorem doAssign_frame (dt j id station : Nat) (valid : Bool) (epoch lfn : Nat) (s : State)
    (r_LXS_PORT_RX : W (LXS_PORT_RX j)) (k_lxs : K .lxs) (h_s : Fr D W K s0 s)
    : Fr D W K s0 (doAssign dt j id station valid epoch lfn s) := by
  unfold doAssign
  repeat' first
    | with_reducible assumption | with_reducible apply Fr.ite | with_reducible apply onMsg_frame
    | with_reducible apply State.sendAssign_frame | split | (intro v w hv) | (intro v hv)

theorem doReadyAll_frame (dt j devices spares : Nat) (s : State) (r_LXS_COUNT : W LXS_COUNT)
    (r_LXS_PORT_RX : W (LXS_PORT_RX j)) (k_lxs : K .lxs) (h_s : Fr D W K s0 s)
    : Fr D W K s0 (doReadyAll dt j devices spares s) := by
  unfold doReadyAll
  repeat' first
    | with_reducible assumption | (simp -zeta (disch := first | assumption | exact rfl) only [↓Fr.setLxs])
    | with_reducible apply Fr.ite | with_reducible apply onMsg_frame | with_reducible apply State.put_frame
    | with_reducible apply State.floodMsg_frame
    | (extract_lets +onlyGivenNames x; refine Fr.cut (D := D) (W := W) (K := K) (s0 := s0) (x := x) ?_ ?_; (on_goal 1 => dsimp -zeta only [x]); (on_goal 2 => intro hx; clear_value x))
    | (extract_lets +onlyGivenNames y) | split | (intro v w hv) | (intro v hv)

theorem State.applyAssign_frame (s : State) (a : Assign) (hE : Ev W K) (r_GLB_BOOT_STATUS : W GLB_BOOT_STATUS)
    (r_GLB_BOOT_TIME : W (GLB_BOOT_TIME 7)) (r_HIF_STATUS : W HIF_STATUS) (r_LMP_HB : W LMP_HB) (r_LMP_SAFETY : W LMP_SAFETY)
    (r_LXS_EPOCH : W LXS_EPOCH) (r_LXS_STARTUP : W LXS_STARTUP) (r_LXS_STATION : W LXS_STATION) (r_LXS_STATUS : W LXS_STATUS)
    (k_out : K .out) (k_glb : K .glb) (k_scn : K .scn) (k_lmp : K .lmp) (k_lxs : K .lxs) (k_mem : K .mem)
    (h_s : Fr D W K s0 s)
    : Fr D W K s0 (State.applyAssign s a) := by
  unfold State.applyAssign
  repeat' first
    | with_reducible assumption | (simp -zeta (disch := first | assumption | exact rfl) only [↓Fr.setLxs])
    | with_reducible apply Fr.ite | with_reducible apply State.put_frame | with_reducible apply State.putB_frame
    | with_reducible apply State.wrN_frame | with_reducible apply State.raiseB_frame
    | with_reducible apply State.startupDone_frame | with_reducible apply State.startupUndone_frame
    | (extract_lets +onlyGivenNames x; refine Fr.cut (D := D) (W := W) (K := K) (s0 := s0) (x := x) ?_ ?_; (on_goal 1 => dsimp -zeta only [x]); (on_goal 2 => intro hx; clear_value x))
    | (extract_lets +onlyGivenNames y) | split

theorem doTime_frame (dt j time sub ph lfn late : Nat) (off : Int) (s : State) (hE : Ev W K)
    (r_LXS_PORT_RX : ∀ i, W (LXS_PORT_RX i)) (r_LXS_STATUS : W LXS_STATUS) (r_LXS_TIME_ERR : W LXS_TIME_ERR)
    (r_TIM_DPLL_STATUS : W TIM_DPLL_STATUS) (r_TIM_REF_STATUS : W TIM_REF_STATUS) (k_glb : K .glb) (k_tim : K .tim)
    (k_lxs : K .lxs) (h_s : Fr D W K s0 s) : Fr D W K s0 (doTime dt j time sub ph lfn late off s) := by
  unfold doTime
  repeat' first
    | with_reducible assumption | (simp -zeta (disch := first | assumption | exact rfl) only [↓Fr.setLxs, ↓Fr.setTimLxs])
    | with_reducible apply Fr.ite | with_reducible apply onMsg_frame | with_reducible apply State.setRef_frame
    | with_reducible apply State.selectRef_frame | with_reducible apply State.enterDpll_frame
    | with_reducible apply State.put_frame | with_reducible apply State.putSat_frame
    | with_reducible apply State.putB_frame | with_reducible apply State.refBecomesValid_frame
    | with_reducible apply r_LXS_PORT_RX
    | (extract_lets +onlyGivenNames x; refine Fr.cut (D := D) (W := W) (K := K) (s0 := s0) (x := x) ?_ ?_; (on_goal 1 => dsimp -zeta only [x]); (on_goal 2 => intro hx; clear_value x))
    | (extract_lets +onlyGivenNames y) | split | (clear_value y; split) | (intro v w hv) | (intro v hv)

theorem doDelayReq_frame (dt j t2 : Nat) (s : State) (r_LXS_PORT_RX : W (LXS_PORT_RX j)) (k_lxs : K .lxs)
    (h_s : Fr D W K s0 s) : Fr D W K s0 (doDelayReq dt j t2 s) := by
  unfold doDelayReq
  repeat' first
    | with_reducible assumption | with_reducible apply onMsg_frame | with_reducible apply State.queueMsg_frame
    | (intro v w hv) | (intro v hv)

theorem doDelayResp_frame (dt j t1 t2 t3 t4 : Nat) (s : State) (r_LXS_PORT_DELAY : W (LXS_PORT_DELAY j))
    (r_LXS_PORT_RX : W (LXS_PORT_RX j)) (h_s : Fr D W K s0 s) : Fr D W K s0 (doDelayResp dt j t1 t2 t3 t4 s) := by
  unfold doDelayResp
  repeat' first
    | with_reducible assumption | with_reducible apply onMsg_frame | with_reducible apply State.putSat_frame
    | (extract_lets +onlyGivenNames x; refine Fr.cut (D := D) (W := W) (K := K) (s0 := s0) (x := x) ?_ ?_; (on_goal 1 => dsimp -zeta only [x]); (on_goal 2 => intro hx; clear_value x))
    | (extract_lets +onlyGivenNames y) | (intro v w hv) | (intro v hv)

theorem State.askRole_frame (s : State) (j : Nat) (k_lxs : K .lxs) (h_s : Fr D W K s0 s)
    : Fr D W K s0 (State.askRole s j) := by
  unfold State.askRole
  repeat' first
    | with_reducible assumption | with_reducible apply State.setLxPort_frame | with_reducible apply State.queueMsg_frame
    | (extract_lets +onlyGivenNames x; refine Fr.cut (D := D) (W := W) (K := K) (s0 := s0) (x := x) ?_ ?_; (on_goal 1 => dsimp -zeta only [x]); (on_goal 2 => intro hx; clear_value x))
    | (extract_lets +onlyGivenNames y)

theorem doRole_frame (dt j op id prio : Nat) (s : State) (r_LXS_PORT_RX : W (LXS_PORT_RX j)) (k_lxs : K .lxs)
    (h_s : Fr D W K s0 s) : Fr D W K s0 (doRole dt j op id prio s) := by
  unfold doRole
  repeat' first
    | with_reducible assumption | (simp -zeta (disch := first | assumption | exact rfl) only [↓Fr.setLxs])
    | with_reducible apply Fr.ite | with_reducible apply onMsg_frame | with_reducible apply State.setLxPort_frame
    | (extract_lets +onlyGivenNames x; refine Fr.cut (D := D) (W := W) (K := K) (s0 := s0) (x := x) ?_ ?_; (on_goal 1 => dsimp -zeta only [x]); (on_goal 2 => intro hx; clear_value x))
    | (extract_lets +onlyGivenNames y) | split | (intro v w hv) | (intro v hv)

theorem doHandover_frame (dt j id : Nat) (s : State) (r_LXS_PORT_RX : W (LXS_PORT_RX j)) (k_lxs : K .lxs)
    (h_s : Fr D W K s0 s) : Fr D W K s0 (doHandover dt j id s) := by
  unfold doHandover
  repeat' first
    | with_reducible assumption | (simp -zeta (disch := first | assumption | exact rfl) only [↓Fr.setLxs])
    | with_reducible apply Fr.ite | with_reducible apply onMsg_frame | with_reducible apply State.queueMsg_frame
    | (extract_lets +onlyGivenNames x; refine Fr.cut (D := D) (W := W) (K := K) (s0 := s0) (x := x) ?_ ?_; (on_goal 1 => dsimp -zeta only [x]); (on_goal 2 => intro hx; clear_value x))
    | (extract_lets +onlyGivenNames y) | split | (intro v w hv) | (intro v hv) | (clear_value y; split)

theorem doLxsTakeRoot_frame (dt : Nat) (s : State) (k_lxs : K .lxs) (h_s : Fr D W K s0 s)
    : Fr D W K s0 (doLxsTakeRoot dt s) := by
  unfold doLxsTakeRoot
  repeat' first
    | with_reducible assumption | (simp -zeta (disch := first | assumption | exact rfl) only [↓Fr.setLxs])
    | with_reducible apply State.tick_frame | with_reducible apply State.onReachIf_frame
    | with_reducible apply State.queueMsg_frame
    | (extract_lets +onlyGivenNames x; refine Fr.cut (D := D) (W := W) (K := K) (s0 := s0) (x := x) ?_ ?_; (on_goal 1 => dsimp -zeta only [x]); (on_goal 2 => intro hx; clear_value x))
    | (extract_lets +onlyGivenNames y) | split | (intro v w hv) | (intro v hv) | (clear_value y; split)

theorem State.swapRoles_frame (s : State) (j : Nat) (hE : Ev W K) (r_LXS_PORT_STATE : W (LXS_PORT_STATE j))
    (r_LXS_ROOT_HI : W LXS_ROOT_HI) (r_LXS_ROOT_LO : W LXS_ROOT_LO) (r_LXS_STARTUP : W LXS_STARTUP)
    (r_LXS_STATUS : W LXS_STATUS) (r_LXS_SYSID_HI : W LXS_SYSID_HI) (r_TIM_DPLL_STATUS : W TIM_DPLL_STATUS)
    (r_TIM_REF_STATUS : W TIM_REF_STATUS) (k_tim : K .tim) (k_lxs : K .lxs) (h_s : Fr D W K s0 s)
    : Fr D W K s0 (State.swapRoles s j) := by
  unfold State.swapRoles
  repeat' first
    | with_reducible assumption | (simp -zeta (disch := first | assumption | exact rfl) only [↓Fr.setLxs, ↓Fr.setTim])
    | with_reducible apply Fr.ite | with_reducible apply State.rebaseSys_frame | with_reducible apply State.putB_frame
    | with_reducible apply State.put_frame | with_reducible apply State.showRoot_frame
    | with_reducible apply State.selectOwn_frame | with_reducible apply State.raiseB_frame
    | with_reducible apply State.enterHoldover_frame | with_reducible apply State.holdTime_frame
    | (extract_lets +onlyGivenNames x; refine Fr.cut (D := D) (W := W) (K := K) (s0 := s0) (x := x) ?_ ?_; (on_goal 1 => dsimp -zeta only [x]); (on_goal 2 => intro hx; clear_value x))
    | (extract_lets +onlyGivenNames y) | split | (clear_value y; split) | (intro v w hv) | (intro v hv)

theorem State.promote_frame (s : State) (station id : Nat) (k_lxs : K .lxs) (h_s : Fr D W K s0 s)
    : Fr D W K s0 (State.promote s station id) := by
  unfold State.promote
  repeat' first
    | with_reducible assumption | (simp -zeta (disch := first | assumption | exact rfl) only [↓Fr.setLxs])
    | with_reducible apply State.sendAssign_frame
    | (extract_lets +onlyGivenNames x; refine Fr.cut (D := D) (W := W) (K := K) (s0 := s0) (x := x) ?_ ?_; (on_goal 1 => dsimp -zeta only [x]); (on_goal 2 => intro hx; clear_value x))
    | (extract_lets +onlyGivenNames y) | split | (intro v w hv) | (intro v hv) | (clear_value y; split)

theorem doLxsPromote_frame (dt : Nat) (s : State) (r_LXS_PROMOTE_STATUS : W LXS_PROMOTE_STATUS) (k_lxs : K .lxs)
    (h_s : Fr D W K s0 s) : Fr D W K s0 (doLxsPromote dt s) := by
  unfold doLxsPromote
  repeat' first
    | with_reducible assumption | with_reducible apply Fr.ite | with_reducible apply State.tick_frame
    | with_reducible apply State.onReachIf_frame | with_reducible apply State.put_frame
    | with_reducible apply State.promote_frame
    | (extract_lets +onlyGivenNames x; refine Fr.cut (D := D) (W := W) (K := K) (s0 := s0) (x := x) ?_ ?_; (on_goal 1 => dsimp -zeta only [x]); (on_goal 2 => intro hx; clear_value x))
    | (extract_lets +onlyGivenNames y) | split | (intro v w hv) | (intro v hv)

theorem State.absentBoundary_frame (s : State) (k_lxs : K .lxs) (h_s : Fr D W K s0 s)
    : Fr D W K s0 (State.absentBoundary s) := by
  unfold State.absentBoundary
  repeat' first
    | with_reducible assumption | (simp -zeta (disch := first | assumption | exact rfl) only [↓Fr.setLxs])
    | with_reducible apply Fr.ite
    | (extract_lets +onlyGivenNames x; refine Fr.cut (D := D) (W := W) (K := K) (s0 := s0) (x := x) ?_ ?_; (on_goal 1 => dsimp -zeta only [x]); (on_goal 2 => intro hx; clear_value x))
    | (extract_lets +onlyGivenNames y) | split | (clear_value y; split) | (intro v w hv) | (intro v hv)

theorem doAutoPromote_frame (dt station : Nat) (s : State) (k_lxs : K .lxs) (h_s : Fr D W K s0 s)
    : Fr D W K s0 (doAutoPromote dt station s) := by
  unfold doAutoPromote
  repeat' first
    | with_reducible assumption | with_reducible apply State.tick_frame | with_reducible apply State.onLiveIf_frame
    | with_reducible apply State.promote_frame
    | (extract_lets +onlyGivenNames x; refine Fr.cut (D := D) (W := W) (K := K) (s0 := s0) (x := x) ?_ ?_; (on_goal 1 => dsimp -zeta only [x]); (on_goal 2 => intro hx; clear_value x))
    | (extract_lets +onlyGivenNames y) | split | (clear_value y; split) | (intro v w hv) | (intro v hv)

theorem doDrop_frame (dt j tag group cause origin seq : Nat) (s : State) (r_LXS_PORT_RX : ∀ i, W (LXS_PORT_RX i))
    (k_cmp : K .cmp) (k_lxs : K .lxs) (h_s : Fr D W K s0 s) : Fr D W K s0 (doDrop dt j tag group cause origin seq s) := by
  unfold doDrop
  repeat' first
    | with_reducible assumption | with_reducible apply Fr.ite | with_reducible apply onMsg_frame
    | with_reducible apply State.noteDrop_frame | with_reducible apply State.floodMsg_frame
    | with_reducible apply State.takeDrop_frame | with_reducible apply r_LXS_PORT_RX
    | (extract_lets +onlyGivenNames x; refine Fr.cut (D := D) (W := W) (K := K) (s0 := s0) (x := x) ?_ ?_; (on_goal 1 => dsimp -zeta only [x]); (on_goal 2 => intro hx; clear_value x))
    | (extract_lets +onlyGivenNames y) | split | (clear_value y; split) | (intro v w hv) | (intro v hv)

theorem State.returnCredit_frame (s : State) (j req resp : Nat) (k_lxs : K .lxs) (h_s : Fr D W K s0 s)
    : Fr D W K s0 (State.returnCredit s j req resp) := by
  unfold State.returnCredit
  repeat' first
    | with_reducible assumption | with_reducible apply State.queueMsg_frame

theorem doReadReq_frame (dt j dest src ctx tag size seq off slack : Nat) (s : State)
    (r_LXS_PORT_READ : ∀ i, W (LXS_PORT_READ i)) (r_LXS_PORT_RX : ∀ i, W (LXS_PORT_RX i))
    (r_MEM_CTL_RAW : ∀ i, W (MEM_CTL_RAW i)) (r_MEM_ENG_STATUS : ∀ i, W (MEM_ENG_STATUS i))
    (r_MEM_INFLIGHT : W MEM_INFLIGHT) (k_mem : K .mem) (k_lxs : K .lxs) (h_s : Fr D W K s0 s)
    : Fr D W K s0 (doReadReq dt j dest src ctx tag size seq off slack s) := by
  unfold doReadReq
  repeat' first
    | with_reducible assumption | (simp -zeta (disch := first | assumption | exact rfl) only [↓Fr.setLxs])
    | with_reducible apply Fr.ite | (with_reducible apply foldOver_frame; intro a t ht) | with_reducible apply onMsg_frame
    | with_reducible apply State.returnCredit_frame | with_reducible apply State.queueMsg_frame
    | with_reducible apply State.sendResp_frame | with_reducible apply State.addLocal_frame
    | with_reducible apply r_LXS_PORT_READ | with_reducible apply r_LXS_PORT_RX | with_reducible apply r_MEM_CTL_RAW
    | with_reducible apply r_MEM_ENG_STATUS
    | (extract_lets +onlyGivenNames x; refine Fr.cut (D := D) (W := W) (K := K) (s0 := s0) (x := x) ?_ ?_; (on_goal 1 => dsimp -zeta only [x]); (on_goal 2 => intro hx; clear_value x))
    | (extract_lets +onlyGivenNames y) | split | (clear_value y; split) | (intro v w hv) | (intro v hv)

theorem State.endRead_frame (s : State) (tag : Nat) (r : RemoteRead) (r_MEM_ENG_STATUS : ∀ i, W (MEM_ENG_STATUS i))
    (r_MEM_INFLIGHT : W MEM_INFLIGHT) (k_mem : K .mem) (k_lxs : K .lxs) (h_s : Fr D W K s0 s)
    : Fr D W K s0 (State.endRead s tag r) := by
  unfold State.endRead
  repeat' first
    | with_reducible assumption | (simp -zeta (disch := first | assumption | exact rfl) only [↓Fr.setLxs])
    | with_reducible apply State.endFetch_frame | with_reducible apply State.busyUnless_frame
    | with_reducible apply r_MEM_ENG_STATUS
    | (extract_lets +onlyGivenNames x; refine Fr.cut (D := D) (W := W) (K := K) (s0 := s0) (x := x) ?_ ?_; (on_goal 1 => dsimp -zeta only [x]); (on_goal 2 => intro hx; clear_value x))
    | (extract_lets +onlyGivenNames y) | split | (clear_value y; split) | (intro v w hv) | (intro v hv)

theorem doReadResp_frame (dt j dest tag seq status : Nat) (words : List Nat) (s : State) (hE : Ev W K)
    (r_HIF_CTX_FAULT_HI : ∀ i, W (HIF_CTX_FAULT_HI i)) (r_HIF_CTX_FAULT_LO : ∀ i, W (HIF_CTX_FAULT_LO i))
    (r_HIF_CTX_STATUS : ∀ i, W (HIF_CTX_STATUS i)) (r_LXS_PORT_READ : ∀ i, W (LXS_PORT_READ i))
    (r_LXS_PORT_RX : ∀ i, W (LXS_PORT_RX i)) (r_MEM_ENG_STATUS : ∀ i, W (MEM_ENG_STATUS i))
    (r_MEM_INFLIGHT : W MEM_INFLIGHT) (k_mem : K .mem) (k_lxs : K .lxs) (h_s : Fr D W K s0 s)
    : Fr D W K s0 (doReadResp dt j dest tag seq status words s) := by
  unfold doReadResp
  repeat' first
    | with_reducible assumption | with_reducible apply Fr.ite | with_reducible apply onMsg_frame
    | with_reducible apply State.setLxPort_frame | with_reducible apply State.putSat_frame
    | with_reducible apply State.returnCredit_frame | with_reducible apply State.sendResp_frame
    | with_reducible apply State.endRead_frame | with_reducible apply State.transFault_frame
    | with_reducible apply State.incSat_frame | with_reducible apply State.fillBuf_frame
    | with_reducible apply r_HIF_CTX_FAULT_HI | with_reducible apply r_HIF_CTX_FAULT_LO
    | with_reducible apply r_HIF_CTX_STATUS | with_reducible apply r_LXS_PORT_READ | with_reducible apply r_LXS_PORT_RX
    | with_reducible apply r_MEM_ENG_STATUS
    | (extract_lets +onlyGivenNames x; refine Fr.cut (D := D) (W := W) (K := K) (s0 := s0) (x := x) ?_ ?_; (on_goal 1 => dsimp -zeta only [x]); (on_goal 2 => intro hx; clear_value x))
    | (extract_lets +onlyGivenNames y) | split | (clear_value y; split) | (intro v w hv) | (intro v hv)

theorem doRemoteReadTimeout_frame (dt tag : Nat) (s : State) (hE : Ev W K) (r_HIF_CTX_FAULT_HI : ∀ i, W (HIF_CTX_FAULT_HI i))
    (r_HIF_CTX_FAULT_LO : ∀ i, W (HIF_CTX_FAULT_LO i)) (r_HIF_CTX_STATUS : ∀ i, W (HIF_CTX_STATUS i))
    (r_MEM_ENG_STATUS : ∀ i, W (MEM_ENG_STATUS i)) (r_MEM_INFLIGHT : W MEM_INFLIGHT) (k_mem : K .mem) (k_lxs : K .lxs)
    (h_s : Fr D W K s0 s) : Fr D W K s0 (doRemoteReadTimeout dt tag s) := by
  unfold doRemoteReadTimeout
  repeat' first
    | with_reducible assumption | with_reducible apply State.tick_frame | with_reducible apply State.onLiveIf_frame
    | with_reducible apply State.endRead_frame | with_reducible apply State.transFault_frame
    | with_reducible apply r_HIF_CTX_FAULT_HI | with_reducible apply r_HIF_CTX_FAULT_LO
    | with_reducible apply r_HIF_CTX_STATUS | with_reducible apply r_MEM_ENG_STATUS
    | (extract_lets +onlyGivenNames x; refine Fr.cut (D := D) (W := W) (K := K) (s0 := s0) (x := x) ?_ ?_; (on_goal 1 => dsimp -zeta only [x]); (on_goal 2 => intro hx; clear_value x))
    | (extract_lets +onlyGivenNames y) | split | (intro v w hv) | (intro v hv) | (clear_value y; split)

theorem doCredit_frame (dt j req resp : Nat) (s : State) (r_LXS_PORT_RX : W (LXS_PORT_RX j)) (k_lxs : K .lxs)
    (h_s : Fr D W K s0 s) : Fr D W K s0 (doCredit dt j req resp s) := by
  unfold doCredit
  repeat' first
    | with_reducible assumption | with_reducible apply onMsg_frame | with_reducible apply State.setLxPort_frame
    | (extract_lets +onlyGivenNames x; refine Fr.cut (D := D) (W := W) (K := K) (s0 := s0) (x := x) ?_ ?_; (on_goal 1 => dsimp -zeta only [x]); (on_goal 2 => intro hx; clear_value x))
    | (extract_lets +onlyGivenNames y) | (intro v w hv) | (intro v hv)

theorem doLxsRetrain_frame (dt j f id : Nat) (change two : Bool) (s : State) (hE : Ev W K)
    (r_LXS_PORT_RX : ∀ i, W (LXS_PORT_RX i)) (r_LXS_PORT_STATE : ∀ i, W (LXS_PORT_STATE i))
    (r_LXS_ROOT_HI : W LXS_ROOT_HI) (r_LXS_ROOT_LO : W LXS_ROOT_LO) (r_LXS_STATUS : W LXS_STATUS)
    (r_LXS_SYSID_HI : W LXS_SYSID_HI) (r_TIM_DPLL_STATUS : W TIM_DPLL_STATUS) (r_TIM_REF_STATUS : W TIM_REF_STATUS)
    (k_tim : K .tim) (k_lxs : K .lxs) (h_s : Fr D W K s0 s) : Fr D W K s0 (doLxsRetrain dt j f id change two s) := by
  unfold doLxsRetrain
  repeat' first
    | with_reducible assumption | with_reducible apply Fr.ite | with_reducible apply onMsg_frame
    | with_reducible apply State.setLxPort_frame | with_reducible apply State.putB_frame
    | with_reducible apply State.inc_frame | with_reducible apply State.leaveUp_frame | with_reducible apply r_LXS_PORT_RX
    | with_reducible apply r_LXS_PORT_STATE
    | (extract_lets +onlyGivenNames x; refine Fr.cut (D := D) (W := W) (K := K) (s0 := s0) (x := x) ?_ ?_; (on_goal 1 => dsimp -zeta only [x]); (on_goal 2 => intro hx; clear_value x))
    | (extract_lets +onlyGivenNames y) | split | (clear_value y; split) | (intro v w hv) | (intro v hv)

theorem doLxsRetrainDone_frame (dt j : Nat) (s : State) (hE : Ev W K) (r_APT_PORT_STATE : ∀ i, W (APT_PORT_STATE i))
    (r_CAL_CULLET : W CAL_CULLET) (r_LAN_LANE_EQ : ∀ i, W (LAN_LANE_EQ i)) (r_LAN_LANE_STATE : ∀ i, W (LAN_LANE_STATE i))
    (r_LAN_STATUS : W LAN_STATUS) (r_LXS_PORT_STATE : ∀ i, W (LXS_PORT_STATE i)) (r_LXS_ROOT_HI : W LXS_ROOT_HI)
    (r_LXS_ROOT_LO : W LXS_ROOT_LO) (r_LXS_STATUS : W LXS_STATUS) (r_LXS_SYSID_HI : W LXS_SYSID_HI)
    (r_TIM_DPLL_STATUS : W TIM_DPLL_STATUS) (r_TIM_REF_STATUS : W TIM_REF_STATUS) (k_tim : K .tim) (k_apt : K .apt)
    (k_lan : K .lan) (k_lxs : K .lxs) (h_s : Fr D W K s0 s) : Fr D W K s0 (doLxsRetrainDone dt j s) := by
  unfold doLxsRetrainDone
  repeat' first
    | with_reducible assumption | with_reducible apply Fr.ite | with_reducible apply State.tick_frame
    | with_reducible apply State.onLiveIf_frame | with_reducible apply State.setLxPort_frame
    | with_reducible apply State.lxEnter_frame | with_reducible apply State.lxGoDown_frame
    | with_reducible apply r_APT_PORT_STATE | with_reducible apply r_LAN_LANE_EQ | with_reducible apply r_LAN_LANE_STATE
    | with_reducible apply r_LXS_PORT_STATE
    | (extract_lets +onlyGivenNames x; refine Fr.cut (D := D) (W := W) (K := K) (s0 := s0) (x := x) ?_ ?_; (on_goal 1 => dsimp -zeta only [x]); (on_goal 2 => intro hx; clear_value x))
    | (extract_lets +onlyGivenNames y) | split | (clear_value y; split) | (intro v w hv) | (intro v hv)

theorem State.exportResult_frame (s : State) (r : Nat) (r_LXS_EXPORT_STATUS : W LXS_EXPORT_STATUS) (h_s : Fr D W K s0 s)
    : Fr D W K s0 (State.exportResult s r) := by
  unfold State.exportResult
  repeat' first
    | with_reducible assumption | with_reducible apply State.put_frame

theorem doLxsExportBind_frame (dt binding : Nat) (s : State) (r_LXS_EXPORT_STATUS : W LXS_EXPORT_STATUS) (k_mem : K .mem)
    (k_lxs : K .lxs) (h_s : Fr D W K s0 s) : Fr D W K s0 (doLxsExportBind dt binding s) := by
  unfold doLxsExportBind
  repeat' first
    | with_reducible assumption | (simp -zeta (disch := first | assumption | exact rfl) only [↓Fr.setMemLxs])
    | with_reducible apply Fr.ite | with_reducible apply State.tick_frame | with_reducible apply State.onReachIf_frame
    | with_reducible apply State.exportResult_frame | with_reducible apply State.showBindings_frame
    | (extract_lets +onlyGivenNames x; refine Fr.cut (D := D) (W := W) (K := K) (s0 := s0) (x := x) ?_ ?_; (on_goal 1 => dsimp -zeta only [x]); (on_goal 2 => intro hx; clear_value x))
    | (extract_lets +onlyGivenNames y) | split | (intro v w hv) | (intro v hv) | (clear_value y; split)

theorem doLxsExportUnbind_frame (dt binding : Nat) (s : State) (r_LXS_EXPORT_STATUS : W LXS_EXPORT_STATUS) (k_mem : K .mem)
    (k_lxs : K .lxs) (h_s : Fr D W K s0 s) : Fr D W K s0 (doLxsExportUnbind dt binding s) := by
  unfold doLxsExportUnbind
  repeat' first
    | with_reducible assumption | with_reducible apply Fr.ite | with_reducible apply State.tick_frame
    | with_reducible apply State.onReachIf_frame | with_reducible apply State.removeBinding_frame
    | with_reducible apply State.exportResult_frame
    | (extract_lets +onlyGivenNames x; refine Fr.cut (D := D) (W := W) (K := K) (s0 := s0) (x := x) ?_ ?_; (on_goal 1 => dsimp -zeta only [x]); (on_goal 2 => intro hx; clear_value x))
    | (extract_lets +onlyGivenNames y) | split | (intro v w hv) | (intro v hv)

theorem doLaxusAloneTimeout_frame (dt : Nat) (s : State) (hE : Ev W K) (r_APT_PORT_STATE : ∀ i, W (APT_PORT_STATE i))
    (r_LXS_COUNT : W LXS_COUNT) (r_LXS_PORT_STATE : ∀ i, W (LXS_PORT_STATE i)) (r_LXS_ROOT_HI : W LXS_ROOT_HI)
    (r_LXS_ROOT_LO : W LXS_ROOT_LO) (r_LXS_STATUS : W LXS_STATUS) (r_LXS_SYSID_HI : W LXS_SYSID_HI)
    (r_LXS_SYSID_LO : W LXS_SYSID_LO) (k_tim : K .tim) (k_apt : K .apt) (k_lxs : K .lxs) (r_TIM_REF_STATUS : W TIM_REF_STATUS)
    (h_s : Fr D W K s0 s)
    : Fr D W K s0 (doLaxusAloneTimeout dt s) := by
  unfold doLaxusAloneTimeout
  repeat' first
    | with_reducible assumption | (simp -zeta (disch := first | assumption | exact rfl) only [↓Fr.setLxs])
    | with_reducible apply State.tick_frame | with_reducible apply State.onLiveIf_frame
    | with_reducible apply State.showRoot_frame | with_reducible apply State.takeRootRole_frame
    | with_reducible apply State.wrN_frame | with_reducible apply State.put_frame
    | with_reducible apply State.assignStations_frame | with_reducible apply r_APT_PORT_STATE
    | with_reducible apply r_LXS_PORT_STATE
    | (extract_lets +onlyGivenNames x; refine Fr.cut (D := D) (W := W) (K := K) (s0 := s0) (x := x) ?_ ?_; (on_goal 1 => dsimp -zeta only [x]); (on_goal 2 => intro hx; clear_value x))
    | (extract_lets +onlyGivenNames y) | (intro v w hv) | (intro v hv)

theorem State.lxsDetach_frame (s : State) (hE : Ev W K) (r_CAL_CULLET : W CAL_CULLET)
    (r_LAN_LANE_STATE : ∀ i, W (LAN_LANE_STATE i)) (r_LAN_STATUS : W LAN_STATUS)
    (r_LXS_PORT_STATE : ∀ i, W (LXS_PORT_STATE i)) (r_LXS_STATUS : W LXS_STATUS) (r_TIM_DPLL_STATUS : W TIM_DPLL_STATUS)
    (r_TIM_REF_STATUS : W TIM_REF_STATUS) (k_tim : K .tim) (k_lan : K .lan) (k_lxs : K .lxs) (h_s : Fr D W K s0 s)
    : Fr D W K s0 (State.lxsDetach s) := by
  unfold State.lxsDetach
  repeat' first
    | with_reducible assumption | (simp -zeta (disch := first | assumption | exact rfl) only [↓Fr.setLxs])
    | with_reducible apply Fr.ite | with_reducible apply State.queueMsg_frame | with_reducible apply State.setLxPort_frame
    | with_reducible apply State.lxEnter_frame | with_reducible apply State.lxIdle_frame
    | with_reducible apply State.putB_frame | with_reducible apply State.put_frame | with_reducible apply State.loseTime_frame
    | (with_reducible apply foldOver_frame; intro a t ht) | with_reducible apply r_LAN_LANE_STATE
    | with_reducible apply r_LXS_PORT_STATE
    | (extract_lets +onlyGivenNames x; refine Fr.cut (D := D) (W := W) (K := K) (s0 := s0) (x := x) ?_ ?_; (on_goal 1 => dsimp -zeta only [x]); (on_goal 2 => intro hx; clear_value x))
    | (extract_lets +onlyGivenNames y) | split | (intro v w hv) | (intro v hv) | (clear_value y; split)

theorem State.assignsBoundary_frame (s : State) (hE : Ev W K) (r_GLB_BOOT_STATUS : W GLB_BOOT_STATUS)
    (r_GLB_BOOT_TIME : W (GLB_BOOT_TIME 7)) (r_HIF_STATUS : W HIF_STATUS) (r_LMP_HB : W LMP_HB) (r_LMP_SAFETY : W LMP_SAFETY)
    (r_LXS_EPOCH : W LXS_EPOCH) (r_LXS_PROMOTE_STATUS : W LXS_PROMOTE_STATUS) (r_LXS_STARTUP : W LXS_STARTUP)
    (r_LXS_STATION : W LXS_STATION) (r_LXS_STATUS : W LXS_STATUS) (k_out : K .out) (k_glb : K .glb) (k_scn : K .scn)
    (k_lmp : K .lmp) (k_lxs : K .lxs) (k_mem : K .mem)
    (h_s : Fr D W K s0 s) : Fr D W K s0 (State.assignsBoundary s) := by
  unfold State.assignsBoundary
  repeat' first
    | with_reducible assumption | (simp -zeta (disch := first | assumption | exact rfl) only [↓Fr.setLxs])
    | with_reducible apply Fr.ite | with_reducible apply State.applyAssign_frame | with_reducible apply State.put_frame
    | (with_reducible apply foldOver_frame; intro a t ht)
    | (extract_lets +onlyGivenNames x; refine Fr.cut (D := D) (W := W) (K := K) (s0 := s0) (x := x) ?_ ?_; (on_goal 1 => dsimp -zeta only [x]); (on_goal 2 => intro hx; clear_value x))
    | (extract_lets +onlyGivenNames y) | split | (intro v w hv) | (intro v hv)

theorem State.swapBoundary_frame (s : State) (hE : Ev W K) (r_LXS_PORT_STATE : ∀ i, W (LXS_PORT_STATE i))
    (r_LXS_ROOT_HI : W LXS_ROOT_HI) (r_LXS_ROOT_LO : W LXS_ROOT_LO) (r_LXS_STARTUP : W LXS_STARTUP)
    (r_LXS_STATUS : W LXS_STATUS) (r_LXS_SYSID_HI : W LXS_SYSID_HI) (r_TIM_DPLL_STATUS : W TIM_DPLL_STATUS) (k_tim : K .tim)
    (k_lxs : K .lxs) (r_TIM_REF_STATUS : W TIM_REF_STATUS)
    (h_s : Fr D W K s0 s) : Fr D W K s0 (State.swapBoundary s) := by
  unfold State.swapBoundary
  repeat' first
    | with_reducible assumption | with_reducible apply State.swapRoles_frame | with_reducible apply r_LXS_PORT_STATE
    | (extract_lets +onlyGivenNames x; refine Fr.cut (D := D) (W := W) (K := K) (s0 := s0) (x := x) ?_ ?_; (on_goal 1 => dsimp -zeta only [x]); (on_goal 2 => intro hx; clear_value x))
    | (extract_lets +onlyGivenNames y) | split

theorem State.answersBoundary_frame (s : State) (k_lxs : K .lxs) (h_s : Fr D W K s0 s)
    : Fr D W K s0 (State.answersBoundary s) := by
  unfold State.answersBoundary
  repeat' first
    | with_reducible assumption | (simp -zeta (disch := first | assumption | exact rfl) only [↓Fr.setLxs])
    | with_reducible apply Fr.ite | with_reducible apply State.setLxPort_frame | with_reducible apply State.queueMsg_frame
    | (with_reducible apply foldOver_frame; intro a t ht)
    | (extract_lets +onlyGivenNames x; refine Fr.cut (D := D) (W := W) (K := K) (s0 := s0) (x := x) ?_ ?_; (on_goal 1 => dsimp -zeta only [x]); (on_goal 2 => intro hx; clear_value x))
    | (extract_lets +onlyGivenNames y) | split | (intro v w hv) | (intro v hv)

theorem State.timesBoundary_frame (s : State) (k_lxs : K .lxs) (h_s : Fr D W K s0 s)
    : Fr D W K s0 (State.timesBoundary s) := by
  unfold State.timesBoundary
  repeat' first
    | with_reducible assumption | with_reducible apply Fr.ite | with_reducible apply State.floodMsg_frame
    | with_reducible apply State.queueMsg_frame
    | (extract_lets +onlyGivenNames x; refine Fr.cut (D := D) (W := W) (K := K) (s0 := s0) (x := x) ?_ ?_; (on_goal 1 => dsimp -zeta only [x]); (on_goal 2 => intro hx; clear_value x))
    | (extract_lets +onlyGivenNames y) | split | (clear_value y; split) | (intro v w hv) | (intro v hv)

theorem State.ownReportBoundary_frame (s : State) (r_APT_PORT_STATE : ∀ i, W (APT_PORT_STATE i)) (k_apt : K .apt)
    (k_lxs : K .lxs) (h_s : Fr D W K s0 s) : Fr D W K s0 (State.ownReportBoundary s) := by
  unfold State.ownReportBoundary
  repeat' first
    | with_reducible assumption | (simp -zeta (disch := first | assumption | exact rfl) only [↓Fr.setLxs])
    | with_reducible apply Fr.ite | with_reducible apply State.reported_frame | with_reducible apply State.queueMsg_frame
    | with_reducible apply r_APT_PORT_STATE
    | (extract_lets +onlyGivenNames x; refine Fr.cut (D := D) (W := W) (K := K) (s0 := s0) (x := x) ?_ ?_; (on_goal 1 => dsimp -zeta only [x]); (on_goal 2 => intro hx; clear_value x))
    | (extract_lets +onlyGivenNames y) | split

theorem State.readyAllBoundary_frame (s : State) (r_LXS_COUNT : W LXS_COUNT) (k_lxs : K .lxs) (h_s : Fr D W K s0 s)
    : Fr D W K s0 (State.readyAllBoundary s) := by
  unfold State.readyAllBoundary
  repeat' first
    | with_reducible assumption | (simp -zeta (disch := first | assumption | exact rfl) only [↓Fr.setLxs])
    | with_reducible apply Fr.ite | with_reducible apply State.put_frame | with_reducible apply State.floodMsg_frame
    | (extract_lets +onlyGivenNames x; refine Fr.cut (D := D) (W := W) (K := K) (s0 := s0) (x := x) ?_ ?_; (on_goal 1 => dsimp -zeta only [x]); (on_goal 2 => intro hx; clear_value x))
    | (extract_lets +onlyGivenNames y) | split | (clear_value y; split) | (intro v w hv) | (intro v hv)

theorem State.askRoleBoundary_frame (s : State) (k_lxs : K .lxs) (h_s : Fr D W K s0 s)
    : Fr D W K s0 (State.askRoleBoundary s) := by
  unfold State.askRoleBoundary
  repeat' first
    | with_reducible assumption | with_reducible apply Fr.ite | with_reducible apply State.askRole_frame
    | (extract_lets +onlyGivenNames x; refine Fr.cut (D := D) (W := W) (K := K) (s0 := s0) (x := x) ?_ ?_; (on_goal 1 => dsimp -zeta only [x]); (on_goal 2 => intro hx; clear_value x))
    | (extract_lets +onlyGivenNames y) | split

theorem State.lxsBoundary_frame (s : State) (hE : Ev W K) (r_APT_PORT_STATE : ∀ i, W (APT_PORT_STATE i))
    (r_GLB_BOOT_STATUS : W GLB_BOOT_STATUS) (r_GLB_BOOT_TIME : W (GLB_BOOT_TIME 7)) (r_HIF_STATUS : W HIF_STATUS)
    (r_LMP_HB : W LMP_HB) (r_LMP_SAFETY : W LMP_SAFETY) (r_LXS_COUNT : W LXS_COUNT) (r_LXS_EPOCH : W LXS_EPOCH)
    (r_LXS_PORT_STATE : ∀ i, W (LXS_PORT_STATE i)) (r_LXS_PROMOTE_STATUS : W LXS_PROMOTE_STATUS)
    (r_LXS_ROOT_HI : W LXS_ROOT_HI) (r_LXS_ROOT_LO : W LXS_ROOT_LO) (r_LXS_STARTUP : W LXS_STARTUP)
    (r_LXS_STATION : W LXS_STATION) (r_LXS_STATUS : W LXS_STATUS) (r_LXS_SYSID_HI : W LXS_SYSID_HI)
    (r_TIM_DPLL_STATUS : W TIM_DPLL_STATUS) (r_TIM_REF_STATUS : W TIM_REF_STATUS) (k_out : K .out) (k_glb : K .glb)
    (k_tim : K .tim) (k_mem : K .mem) (k_apt : K .apt) (k_scn : K .scn) (k_lmp : K .lmp) (k_lxs : K .lxs)
    (h_s : Fr D W K s0 s) : Fr D W K s0 (State.lxsBoundary s) := by
  unfold State.lxsBoundary
  repeat' first
    | with_reducible assumption | with_reducible apply Fr.ite | with_reducible apply State.assignsBoundary_frame
    | with_reducible apply State.absentBoundary_frame | with_reducible apply State.swapBoundary_frame
    | with_reducible apply State.answersBoundary_frame | with_reducible apply State.timesBoundary_frame
    | with_reducible apply State.ownReportBoundary_frame | with_reducible apply State.readyAllBoundary_frame
    | with_reducible apply State.askRoleBoundary_frame | with_reducible apply r_APT_PORT_STATE
    | with_reducible apply r_LXS_PORT_STATE
    | (extract_lets +onlyGivenNames x; refine Fr.cut (D := D) (W := W) (K := K) (s0 := s0) (x := x) ?_ ?_; (on_goal 1 => dsimp -zeta only [x]); (on_goal 2 => intro hx; clear_value x))
    | (extract_lets +onlyGivenNames y) | split | (clear_value y; split) | (intro v w hv) | (intro v hv)

theorem State.fillLx_frame  (s : State) (l n k : Nat) (acc st : List Nat) (r_LXS_PORT_TX : W (LXS_PORT_TX ((l - 136) / 2))) (k_lxs : K .lxs)
    (h_s : Fr D W K s0 s) : Fr D W K s0 (State.fillLx s l n k acc st).1 := by
  induction n generalizing s k acc st with
  | zero => exact h_s
  | succ n ih =>
    simp only [State.fillLx]
    repeat' first
      | with_reducible assumption
      | with_reducible apply ih
      | with_reducible apply State.setLxLane_frame
      | with_reducible apply State.setLxPort_frame
      | with_reducible apply State.inc_frame
      | exact r_LXS_PORT_TX
      | split

theorem State.laneGone_frame (s : State) (l : Nat) (hE : Ev W K) (r_APT_PORT_STATE : ∀ i, W (APT_PORT_STATE i))
    (r_APT_STATUS : W APT_STATUS) (r_CAL_CULLET : W CAL_CULLET) (r_LAN_LANE_EQ : ∀ i, W (LAN_LANE_EQ i))
    (r_LAN_LANE_STATE : ∀ i, W (LAN_LANE_STATE i)) (r_LAN_STATUS : W LAN_STATUS)
    (r_LXS_PORT_STATE : ∀ i, W (LXS_PORT_STATE i)) (r_LXS_ROOT_HI : W LXS_ROOT_HI) (r_LXS_ROOT_LO : W LXS_ROOT_LO)
    (r_LXS_STATUS : W LXS_STATUS) (r_LXS_SYSID_HI : W LXS_SYSID_HI) (r_SEQ_SCHED_STATUS : W SEQ_SCHED_STATUS)
    (r_TIM_DPLL_STATUS : W TIM_DPLL_STATUS) (r_TIM_REF_STATUS : W TIM_REF_STATUS) (k_tim : K .tim) (k_seq : K .seq)
    (k_apt : K .apt) (k_lan : K .lan) (k_lxs : K .lxs) (h_s : Fr D W K s0 s) : Fr D W K s0 (State.laneGone s l) := by
  unfold State.laneGone
  repeat' first
    | with_reducible assumption | with_reducible apply Fr.ite | with_reducible apply State.lxLaneLoss_frame
    | with_reducible apply State.laneLoss_frame | with_reducible apply r_APT_PORT_STATE | with_reducible apply r_LAN_LANE_EQ
    | with_reducible apply r_LAN_LANE_STATE | with_reducible apply r_LXS_PORT_STATE | split

theorem State.failAndLose_frame (s : State) (l cause : Nat) (hE : Ev W K) (r_APT_PORT_STATE : ∀ i, W (APT_PORT_STATE i))
    (r_APT_STATUS : W APT_STATUS) (r_CAL_CULLET : W CAL_CULLET) (r_LAN_LANE_EQ : ∀ i, W (LAN_LANE_EQ i))
    (r_LAN_LANE_STATE : ∀ i, W (LAN_LANE_STATE i)) (r_LAN_STATUS : W LAN_STATUS)
    (r_LXS_PORT_STATE : ∀ i, W (LXS_PORT_STATE i)) (r_LXS_ROOT_HI : W LXS_ROOT_HI) (r_LXS_ROOT_LO : W LXS_ROOT_LO)
    (r_LXS_STATUS : W LXS_STATUS) (r_LXS_SYSID_HI : W LXS_SYSID_HI) (r_SEQ_SCHED_STATUS : W SEQ_SCHED_STATUS)
    (r_TIM_DPLL_STATUS : W TIM_DPLL_STATUS) (r_TIM_REF_STATUS : W TIM_REF_STATUS) (k_tim : K .tim) (k_seq : K .seq)
    (k_apt : K .apt) (k_lan : K .lan) (k_lxs : K .lxs) (h_s : Fr D W K s0 s) : Fr D W K s0 (State.failAndLose s l cause) := by
  unfold State.failAndLose
  repeat' first
    | with_reducible assumption | with_reducible apply Fr.ite | with_reducible apply State.failLane_frame
    | with_reducible apply State.laneGone_frame | with_reducible apply r_APT_PORT_STATE | with_reducible apply r_LAN_LANE_EQ
    | with_reducible apply r_LAN_LANE_STATE | with_reducible apply r_LXS_PORT_STATE
    | (extract_lets +onlyGivenNames x; refine Fr.cut (D := D) (W := W) (K := K) (s0 := s0) (x := x) ?_ ?_; (on_goal 1 => dsimp -zeta only [x]); (on_goal 2 => intro hx; clear_value x))
    | (extract_lets +onlyGivenNames y) | split

theorem State.lxFrame_frame (s : State) (l : Nat) (r_LXS_PORT_TX : W (LXS_PORT_TX ((l - 136) / 2))) (k_lxs : K .lxs)
    (h_s : Fr D W K s0 s) : Fr D W K s0 (State.lxFrame s l).2 := by
  unfold State.lxFrame
  extract_lets x hdr g y fs fr
  have hg : Fr D W K s0 g.1 := by
    dsimp only [g]
    split
    · exact State.fillLx_frame _ _ _ _ _ _ r_LXS_PORT_TX k_lxs h_s
    · exact h_s
  split
  · exact State.setLxLane_frame _ _ _ k_lxs h_s
  · exact State.setLxLane_frame _ _ _ k_lxs hg

theorem State.lxReceive_frame (s : State) (l : Nat) (words : List Nat) (ok : Bool)
    (r_LXS_PORT_REPLAYS : W (LXS_PORT_REPLAYS ((l - 136) / 2))) (k_lxs : K .lxs) (h_s : Fr D W K s0 s)
    : Fr D W K s0 (State.lxReceive s l words ok).1 := by
  unfold State.lxReceive
  repeat' first
    | with_reducible assumption | with_reducible apply Fr.ite1 | with_reducible apply Fr.ite
    | with_reducible apply State.setLxLane_frame | with_reducible apply State.inc_frame
    | with_reducible apply State.resendFrom_frame
    | (extract_lets +onlyGivenNames x; refine Fr.cut (D := D) (W := W) (K := K) (s0 := s0) (x := x) ?_ ?_; (on_goal 1 => dsimp -zeta only [x]); (on_goal 2 => intro hx; clear_value x))
    | (extract_lets +onlyGivenNames y) | split | (intro v w hv) | (intro v hv)

theorem State.sendData_frame (s : State) (l : Nat) (r_LAN_LANE_WHITENED : W (LAN_LANE_WHITENED l))
    (r_LXS_PORT_TX : W (LXS_PORT_TX ((l - 136) / 2))) (k_out : K .out) (k_lan : K .lan) (k_lxs : K .lxs) (h_s : Fr D W K s0 s)
    : Fr D W K s0 (State.sendData s l) := by
  unfold State.sendData
  repeat' first
    | with_reducible assumption | with_reducible apply Fr.ite | with_reducible apply State.setLane_frame
    | with_reducible apply State.sendFrame_frame | with_reducible apply State.lxFrame_frame
    | with_reducible apply State.takeWords_frame
    | (extract_lets +onlyGivenNames x; refine Fr.cut (D := D) (W := W) (K := K) (s0 := s0) (x := x) ?_ ?_; (on_goal 1 => dsimp -zeta only [x]); (on_goal 2 => intro hx; clear_value x))
    | (extract_lets +onlyGivenNames y) | split

theorem State.sendTraining_frame (s : State) (l : Nat) (r_CAL_CULLET : W CAL_CULLET) (r_LAN_LANE_STATE : W (LAN_LANE_STATE l))
    (r_LAN_LANE_WHITENED : W (LAN_LANE_WHITENED l)) (r_LAN_STATUS : W LAN_STATUS) (k_fresh : K .fresh) (k_out : K .out)
    (k_lan : K .lan) (h_s : Fr D W K s0 s) : Fr D W K s0 (State.sendTraining s l) := by
  unfold State.sendTraining
  repeat' first
    | with_reducible assumption | with_reducible apply Fr.ite | with_reducible apply State.useFree_frame
    | with_reducible apply State.setLane_frame | with_reducible apply State.sendFrame_frame
    | with_reducible apply State.trainCheck_frame
    | (extract_lets +onlyGivenNames x; refine Fr.cut (D := D) (W := W) (K := K) (s0 := s0) (x := x) ?_ ?_; (on_goal 1 => dsimp -zeta only [x]); (on_goal 2 => intro hx; clear_value x))
    | (extract_lets +onlyGivenNames y) | split

theorem State.sendLoop_frame (s : State) (l : Nat) (hE : Ev W K) (r_CAL_CULLET : W CAL_CULLET)
    (r_LAN_LANE_FRAMES : W (LAN_LANE_FRAMES l)) (r_LAN_LANE_PRBS_BITS_HI : ∀ i, W (LAN_LANE_PRBS_BITS_HI i))
    (r_LAN_LANE_PRBS_BITS_LO : ∀ i, W (LAN_LANE_PRBS_BITS_LO i)) (r_LAN_LANE_PRBS_CTRL : ∀ i, W (LAN_LANE_PRBS_CTRL i))
    (r_LAN_LANE_PRBS_ERR_HI : ∀ i, W (LAN_LANE_PRBS_ERR_HI i)) (r_LAN_LANE_PRBS_ERR_LO : ∀ i, W (LAN_LANE_PRBS_ERR_LO i))
    (r_LAN_LANE_STATE : ∀ i, W (LAN_LANE_STATE i)) (r_LAN_LANE_SYNC : W (LAN_LANE_SYNC l))
    (r_LAN_LANE_WHITENED : W (LAN_LANE_WHITENED l)) (r_LAN_STATUS : W LAN_STATUS) (k_fresh : K .fresh) (k_out : K .out)
    (k_lan : K .lan) (h_s : Fr D W K s0 s) : Fr D W K s0 (State.sendLoop s l) := by
  unfold State.sendLoop
  repeat' first
    | with_reducible assumption | with_reducible apply Fr.ite | with_reducible apply State.sendTraining_frame
    | with_reducible apply State.setLane_frame | with_reducible apply State.checkBits_frame
    | with_reducible apply State.receiveSlot_frame | with_reducible apply r_LAN_LANE_PRBS_BITS_HI
    | with_reducible apply r_LAN_LANE_PRBS_BITS_LO | with_reducible apply r_LAN_LANE_PRBS_CTRL
    | with_reducible apply r_LAN_LANE_PRBS_ERR_HI | with_reducible apply r_LAN_LANE_PRBS_ERR_LO
    | with_reducible apply r_LAN_LANE_STATE
    | (extract_lets +onlyGivenNames x; refine Fr.cut (D := D) (W := W) (K := K) (s0 := s0) (x := x) ?_ ?_; (on_goal 1 => dsimp -zeta only [x]); (on_goal 2 => intro hx; clear_value x))
    | (extract_lets +onlyGivenNames y) | split

theorem doLaneSlotTransmit_frame (dt l : Nat) (fault : Bool) (s : State) (hE : Ev W K)
    (r_APT_PORT_STATE : ∀ i, W (APT_PORT_STATE i)) (r_APT_STATUS : W APT_STATUS) (r_CAL_CULLET : W CAL_CULLET)
    (r_LAN_LANE_EQ : ∀ i, W (LAN_LANE_EQ i)) (r_LAN_LANE_FRAMES : W (LAN_LANE_FRAMES l))
    (r_LAN_LANE_PRBS_BITS_HI : ∀ i, W (LAN_LANE_PRBS_BITS_HI i))
    (r_LAN_LANE_PRBS_BITS_LO : ∀ i, W (LAN_LANE_PRBS_BITS_LO i)) (r_LAN_LANE_PRBS_CTRL : ∀ i, W (LAN_LANE_PRBS_CTRL i))
    (r_LAN_LANE_PRBS_ERR_HI : ∀ i, W (LAN_LANE_PRBS_ERR_HI i)) (r_LAN_LANE_PRBS_ERR_LO : ∀ i, W (LAN_LANE_PRBS_ERR_LO i))
    (r_LAN_LANE_STATE : ∀ i, W (LAN_LANE_STATE i)) (r_LAN_LANE_SYNC : W (LAN_LANE_SYNC l))
    (r_LAN_LANE_WHITENED : W (LAN_LANE_WHITENED l)) (r_LAN_STATUS : W LAN_STATUS)
    (r_LXS_PORT_STATE : ∀ i, W (LXS_PORT_STATE i)) (r_LXS_PORT_TX : W (LXS_PORT_TX ((l - 136) / 2)))
    (r_LXS_ROOT_HI : W LXS_ROOT_HI) (r_LXS_ROOT_LO : W LXS_ROOT_LO) (r_LXS_STATUS : W LXS_STATUS)
    (r_LXS_SYSID_HI : W LXS_SYSID_HI) (r_SEQ_SCHED_STATUS : W SEQ_SCHED_STATUS) (r_TIM_DPLL_STATUS : W TIM_DPLL_STATUS)
    (r_TIM_REF_STATUS : W TIM_REF_STATUS) (k_fresh : K .fresh) (k_out : K .out) (k_tim : K .tim) (k_seq : K .seq)
    (k_apt : K .apt) (k_lan : K .lan) (k_lxs : K .lxs) (h_s : Fr D W K s0 s)
    : Fr D W K s0 (doLaneSlotTransmit dt l fault s) := by
  unfold doLaneSlotTransmit
  repeat' first
    | with_reducible assumption | with_reducible apply Fr.ite | with_reducible apply State.tick_frame
    | with_reducible apply State.onLiveIf_frame | with_reducible apply State.setLane_frame
    | with_reducible apply State.lxStop_frame | with_reducible apply State.sendTraining_frame
    | with_reducible apply State.stepEq_frame | with_reducible apply State.sendData_frame
    | with_reducible apply State.sendLoop_frame | with_reducible apply State.failAndLose_frame
    | with_reducible apply r_APT_PORT_STATE | with_reducible apply r_LAN_LANE_EQ
    | with_reducible apply r_LAN_LANE_PRBS_BITS_HI | with_reducible apply r_LAN_LANE_PRBS_BITS_LO
    | with_reducible apply r_LAN_LANE_PRBS_CTRL | with_reducible apply r_LAN_LANE_PRBS_ERR_HI
    | with_reducible apply r_LAN_LANE_PRBS_ERR_LO | with_reducible apply r_LAN_LANE_STATE
    | with_reducible apply r_LXS_PORT_STATE
    | (extract_lets +onlyGivenNames x; refine Fr.cut (D := D) (W := W) (K := K) (s0 := s0) (x := x) ?_ ?_; (on_goal 1 => dsimp -zeta only [x]); (on_goal 2 => intro hx; clear_value x))
    | (extract_lets +onlyGivenNames y) | split | (clear_value y; split) | (intro v w hv) | (intro v hv)

theorem State.takeFrame_frame (s : State) (l : Nat) (fr : RxFrame) (adapted : Bool) (hE : Ev W K)
    (r_CAL_CULLET : W CAL_CULLET) (r_LAN_LANE_CRC_ERR : W (LAN_LANE_CRC_ERR l)) (r_LAN_LANE_EQ : W (LAN_LANE_EQ l))
    (r_LAN_LANE_FAR : W (LAN_LANE_FAR l)) (r_LAN_LANE_STATE : ∀ i, W (LAN_LANE_STATE i)) (r_LAN_STATUS : W LAN_STATUS)
    (r_LXS_PORT_REPLAYS : W (LXS_PORT_REPLAYS ((l - 136) / 2))) (k_lan : K .lan) (k_lxs : K .lxs) (h_s : Fr D W K s0 s)
    : Fr D W K s0 (State.takeFrame s l fr adapted) := by
  unfold State.takeFrame
  repeat' first
    | with_reducible assumption | with_reducible apply Fr.ite | with_reducible apply State.takeTraining_frame
    | with_reducible apply State.crcFailed_frame | with_reducible apply State.takeStatus_frame
    | with_reducible apply State.lxReceive_frame | with_reducible apply State.setLane_frame
    | with_reducible apply r_LAN_LANE_STATE
    | (extract_lets +onlyGivenNames x; refine Fr.cut (D := D) (W := W) (K := K) (s0 := s0) (x := x) ?_ ?_; (on_goal 1 => dsimp -zeta only [x]); (on_goal 2 => intro hx; clear_value x))
    | (extract_lets +onlyGivenNames y) | split

theorem doDataFrameRx_frame (dt l wire : Nat) (s : State) (hE : Ev W K) (r_APT_PORT_STATE : ∀ i, W (APT_PORT_STATE i))
    (r_APT_STATUS : W APT_STATUS) (r_CAL_CULLET : W CAL_CULLET) (r_CAL_FENCED : W CAL_FENCED)
    (r_CAL_FENCE_DATA_0 : W CAL_FENCE_DATA_0) (r_CAL_FENCE_DATA_1 : W CAL_FENCE_DATA_1)
    (r_CAL_FENCE_DATA_2 : W CAL_FENCE_DATA_2) (r_LAN_LANE_CRC_ERR : W (LAN_LANE_CRC_ERR l))
    (r_LAN_LANE_EQ : ∀ i, W (LAN_LANE_EQ i)) (r_LAN_LANE_FAR : W (LAN_LANE_FAR l))
    (r_LAN_LANE_FRAMES : W (LAN_LANE_FRAMES l)) (r_LAN_LANE_LIFE : W (LAN_LANE_LIFE l))
    (r_LAN_LANE_PRBS_BITS_HI : ∀ i, W (LAN_LANE_PRBS_BITS_HI i))
    (r_LAN_LANE_PRBS_BITS_LO : ∀ i, W (LAN_LANE_PRBS_BITS_LO i)) (r_LAN_LANE_PRBS_CTRL : ∀ i, W (LAN_LANE_PRBS_CTRL i))
    (r_LAN_LANE_PRBS_ERR_HI : ∀ i, W (LAN_LANE_PRBS_ERR_HI i)) (r_LAN_LANE_PRBS_ERR_LO : ∀ i, W (LAN_LANE_PRBS_ERR_LO i))
    (r_LAN_LANE_STATE : ∀ i, W (LAN_LANE_STATE i)) (r_LAN_LANE_SYNC : W (LAN_LANE_SYNC l)) (r_LAN_STATUS : W LAN_STATUS)
    (r_LXS_PORT_REPLAYS : W (LXS_PORT_REPLAYS ((l - 136) / 2))) (r_LXS_PORT_STATE : ∀ i, W (LXS_PORT_STATE i))
    (r_LXS_ROOT_HI : W LXS_ROOT_HI) (r_LXS_ROOT_LO : W LXS_ROOT_LO) (r_LXS_STATUS : W LXS_STATUS)
    (r_LXS_SYSID_HI : W LXS_SYSID_HI) (r_SEQ_SCHED_STATUS : W SEQ_SCHED_STATUS) (r_TIM_DPLL_STATUS : W TIM_DPLL_STATUS)
    (r_TIM_REF_STATUS : W TIM_REF_STATUS) (k_tim : K .tim) (k_seq : K .seq) (k_apt : K .apt) (k_lan : K .lan)
    (k_lxs : K .lxs) (k_cal : K .cal) (h_s : Fr D W K s0 s) : Fr D W K s0 (doDataFrameRx dt l wire s) := by
  unfold doDataFrameRx
  repeat' first
    | with_reducible assumption | with_reducible apply Fr.ite | with_reducible apply State.tick_frame
    | with_reducible apply State.onLiveIf_frame | with_reducible apply State.incSat_frame
    | with_reducible apply State.countLife_frame | with_reducible apply State.checkBits_frame
    | with_reducible apply State.receiveSlot_frame | with_reducible apply State.takeFrame_frame
    | with_reducible apply State.laneGone_frame | with_reducible apply r_APT_PORT_STATE
    | with_reducible apply r_LAN_LANE_EQ | with_reducible apply r_LAN_LANE_PRBS_BITS_HI
    | with_reducible apply r_LAN_LANE_PRBS_BITS_LO | with_reducible apply r_LAN_LANE_PRBS_CTRL
    | with_reducible apply r_LAN_LANE_PRBS_ERR_HI | with_reducible apply r_LAN_LANE_PRBS_ERR_LO
    | with_reducible apply r_LAN_LANE_STATE | with_reducible apply r_LXS_PORT_STATE
    | (extract_lets +onlyGivenNames x; refine Fr.cut (D := D) (W := W) (K := K) (s0 := s0) (x := x) ?_ ?_; (on_goal 1 => dsimp -zeta only [x]); (on_goal 2 => intro hx; clear_value x))
    | (extract_lets +onlyGivenNames y) | split | (clear_value y; split) | (intro v w hv) | (intro v hv)

theorem doTrainingFrameRx_frame (dt l : Nat) (words : List Nat) (good adapted : Bool) (s : State)
    (r_CAL_CULLET : W CAL_CULLET) (r_LAN_LANE_EQ : W (LAN_LANE_EQ l)) (r_LAN_LANE_STATE : W (LAN_LANE_STATE l))
    (r_LAN_STATUS : W LAN_STATUS) (k_lan : K .lan) (h_s : Fr D W K s0 s)
    : Fr D W K s0 (doTrainingFrameRx dt l words good adapted s) := by
  unfold doTrainingFrameRx
  repeat' first
    | with_reducible assumption | with_reducible apply State.tick_frame | with_reducible apply State.onLiveIf_frame
    | with_reducible apply State.takeTraining_frame
    | (extract_lets +onlyGivenNames x; refine Fr.cut (D := D) (W := W) (K := K) (s0 := s0) (x := x) ?_ ?_; (on_goal 1 => dsimp -zeta only [x]); (on_goal 2 => intro hx; clear_value x))
    | (extract_lets +onlyGivenNames y) | (intro v w hv) | (intro v hv)

theorem doStatusFrameRx_frame (dt l : Nat) (words : List Nat) (s : State) (hE : Ev W K)
    (r_APT_PORT_STATE : ∀ i, W (APT_PORT_STATE i)) (r_APT_STATUS : W APT_STATUS) (r_CAL_CULLET : W CAL_CULLET)
    (r_LAN_LANE_EQ : ∀ i, W (LAN_LANE_EQ i)) (r_LAN_LANE_FAR : W (LAN_LANE_FAR l))
    (r_LAN_LANE_STATE : ∀ i, W (LAN_LANE_STATE i)) (r_LAN_STATUS : W LAN_STATUS)
    (r_LXS_PORT_STATE : ∀ i, W (LXS_PORT_STATE i)) (r_LXS_ROOT_HI : W LXS_ROOT_HI) (r_LXS_ROOT_LO : W LXS_ROOT_LO)
    (r_LXS_STATUS : W LXS_STATUS) (r_LXS_SYSID_HI : W LXS_SYSID_HI) (r_SEQ_SCHED_STATUS : W SEQ_SCHED_STATUS)
    (r_TIM_DPLL_STATUS : W TIM_DPLL_STATUS) (r_TIM_REF_STATUS : W TIM_REF_STATUS) (k_tim : K .tim) (k_seq : K .seq)
    (k_apt : K .apt) (k_lan : K .lan) (k_lxs : K .lxs) (h_s : Fr D W K s0 s)
    : Fr D W K s0 (doStatusFrameRx dt l words s) := by
  unfold doStatusFrameRx
  repeat' first
    | with_reducible assumption | with_reducible apply Fr.ite | with_reducible apply State.tick_frame
    | with_reducible apply State.onLiveIf_frame | with_reducible apply State.takeStatus_frame
    | with_reducible apply State.laneGone_frame | with_reducible apply r_APT_PORT_STATE | with_reducible apply r_LAN_LANE_EQ
    | with_reducible apply r_LAN_LANE_STATE | with_reducible apply r_LXS_PORT_STATE
    | (extract_lets +onlyGivenNames x; refine Fr.cut (D := D) (W := W) (K := K) (s0 := s0) (x := x) ?_ ?_; (on_goal 1 => dsimp -zeta only [x]); (on_goal 2 => intro hx; clear_value x))
    | (extract_lets +onlyGivenNames y) | split | (intro v w hv) | (intro v hv)

theorem doStatusFrameTimeout_frame (dt l : Nat) (s : State) (hE : Ev W K) (r_APT_PORT_STATE : ∀ i, W (APT_PORT_STATE i))
    (r_APT_STATUS : W APT_STATUS) (r_CAL_CULLET : W CAL_CULLET) (r_LAN_LANE_EQ : ∀ i, W (LAN_LANE_EQ i))
    (r_LAN_LANE_STATE : ∀ i, W (LAN_LANE_STATE i)) (r_LAN_STATUS : W LAN_STATUS)
    (r_LXS_PORT_STATE : ∀ i, W (LXS_PORT_STATE i)) (r_LXS_ROOT_HI : W LXS_ROOT_HI) (r_LXS_ROOT_LO : W LXS_ROOT_LO)
    (r_LXS_STATUS : W LXS_STATUS) (r_LXS_SYSID_HI : W LXS_SYSID_HI) (r_SEQ_SCHED_STATUS : W SEQ_SCHED_STATUS)
    (r_TIM_DPLL_STATUS : W TIM_DPLL_STATUS) (r_TIM_REF_STATUS : W TIM_REF_STATUS) (k_tim : K .tim) (k_seq : K .seq)
    (k_apt : K .apt) (k_lan : K .lan) (k_lxs : K .lxs) (h_s : Fr D W K s0 s) : Fr D W K s0 (doStatusFrameTimeout dt l s) := by
  unfold doStatusFrameTimeout
  repeat' first
    | with_reducible assumption | with_reducible apply State.tick_frame | with_reducible apply State.onLiveIf_frame
    | with_reducible apply State.failAndLose_frame | with_reducible apply r_APT_PORT_STATE
    | with_reducible apply r_LAN_LANE_EQ | with_reducible apply r_LAN_LANE_STATE | with_reducible apply r_LXS_PORT_STATE
    | (extract_lets +onlyGivenNames x; refine Fr.cut (D := D) (W := W) (K := K) (s0 := s0) (x := x) ?_ ?_; (on_goal 1 => dsimp -zeta only [x]); (on_goal 2 => intro hx; clear_value x))
    | (extract_lets +onlyGivenNames y) | (intro v w hv) | (intro v hv)

theorem doLaneTrainTimeout_frame (dt l : Nat) (s : State) (hE : Ev W K) (r_APT_PORT_STATE : ∀ i, W (APT_PORT_STATE i))
    (r_APT_STATUS : W APT_STATUS) (r_CAL_CULLET : W CAL_CULLET) (r_LAN_LANE_STATE : ∀ i, W (LAN_LANE_STATE i))
    (r_LAN_STATUS : W LAN_STATUS) (r_LXS_PORT_STATE : W (LXS_PORT_STATE ((l - 136) / 2))) (k_apt : K .apt) (k_lan : K .lan)
    (k_lxs : K .lxs) (h_s : Fr D W K s0 s) : Fr D W K s0 (doLaneTrainTimeout dt l s) := by
  unfold doLaneTrainTimeout
  repeat' first
    | with_reducible assumption | with_reducible apply Fr.ite | with_reducible apply State.tick_frame
    | with_reducible apply State.onLiveIf_frame | with_reducible apply State.lxFaultPort_frame
    | with_reducible apply State.portFault_frame | with_reducible apply r_APT_PORT_STATE
    | with_reducible apply r_LAN_LANE_STATE
    | (extract_lets +onlyGivenNames x; refine Fr.cut (D := D) (W := W) (K := K) (s0 := s0) (x := x) ?_ ?_; (on_goal 1 => dsimp -zeta only [x]); (on_goal 2 => intro hx; clear_value x))
    | (extract_lets +onlyGivenNames y) | split | (intro v w hv) | (intro v hv)

theorem doLaneIdleEntry_frame (dt l : Nat) (s : State) (r_CAL_CULLET : W CAL_CULLET)
    (r_LAN_LANE_STATE : W (LAN_LANE_STATE l)) (r_LAN_STATUS : W LAN_STATUS) (k_lan : K .lan) (h_s : Fr D W K s0 s)
    : Fr D W K s0 (doLaneIdleEntry dt l s) := by
  unfold doLaneIdleEntry
  repeat' first
    | with_reducible assumption | with_reducible apply State.tick_frame | with_reducible apply State.onLiveIf_frame
    | with_reducible apply State.setLaneState_frame
    | (extract_lets +onlyGivenNames x; refine Fr.cut (D := D) (W := W) (K := K) (s0 := s0) (x := x) ?_ ?_; (on_goal 1 => dsimp -zeta only [x]); (on_goal 2 => intro hx; clear_value x))
    | (extract_lets +onlyGivenNames y) | split | (clear_value y; split) | (intro v w hv) | (intro v hv)

theorem doLaneWake_frame (dt l : Nat) (s : State) (r_CAL_CULLET : W CAL_CULLET) (r_LAN_LANE_STATE : W (LAN_LANE_STATE l))
    (r_LAN_STATUS : W LAN_STATUS) (k_lan : K .lan) (h_s : Fr D W K s0 s) : Fr D W K s0 (doLaneWake dt l s) := by
  unfold doLaneWake
  repeat' first
    | with_reducible assumption | with_reducible apply State.tick_frame | with_reducible apply State.onLiveIf_frame
    | with_reducible apply State.setLane_frame | with_reducible apply State.setLaneState_frame
    | (extract_lets +onlyGivenNames x; refine Fr.cut (D := D) (W := W) (K := K) (s0 := s0) (x := x) ?_ ?_; (on_goal 1 => dsimp -zeta only [x]); (on_goal 2 => intro hx; clear_value x))
    | (extract_lets +onlyGivenNames y) | (intro v w hv) | (intro v hv)

theorem doLaneWakeTimeout_frame (dt l : Nat) (s : State) (hE : Ev W K) (r_APT_PORT_STATE : ∀ i, W (APT_PORT_STATE i))
    (r_APT_STATUS : W APT_STATUS) (r_CAL_CULLET : W CAL_CULLET) (r_LAN_LANE_EQ : ∀ i, W (LAN_LANE_EQ i))
    (r_LAN_LANE_STATE : ∀ i, W (LAN_LANE_STATE i)) (r_LAN_STATUS : W LAN_STATUS)
    (r_LXS_PORT_STATE : ∀ i, W (LXS_PORT_STATE i)) (r_LXS_ROOT_HI : W LXS_ROOT_HI) (r_LXS_ROOT_LO : W LXS_ROOT_LO)
    (r_LXS_STATUS : W LXS_STATUS) (r_LXS_SYSID_HI : W LXS_SYSID_HI) (r_SEQ_SCHED_STATUS : W SEQ_SCHED_STATUS)
    (r_TIM_DPLL_STATUS : W TIM_DPLL_STATUS) (r_TIM_REF_STATUS : W TIM_REF_STATUS) (k_tim : K .tim) (k_seq : K .seq)
    (k_apt : K .apt) (k_lan : K .lan) (k_lxs : K .lxs) (h_s : Fr D W K s0 s) : Fr D W K s0 (doLaneWakeTimeout dt l s) := by
  unfold doLaneWakeTimeout
  repeat' first
    | with_reducible assumption | with_reducible apply State.tick_frame | with_reducible apply State.onLiveIf_frame
    | with_reducible apply State.failAndLose_frame | with_reducible apply r_APT_PORT_STATE
    | with_reducible apply r_LAN_LANE_EQ | with_reducible apply r_LAN_LANE_STATE | with_reducible apply r_LXS_PORT_STATE
    | (extract_lets +onlyGivenNames x; refine Fr.cut (D := D) (W := W) (K := K) (s0 := s0) (x := x) ?_ ?_; (on_goal 1 => dsimp -zeta only [x]); (on_goal 2 => intro hx; clear_value x))
    | (extract_lets +onlyGivenNames y) | (intro v w hv) | (intro v hv)

theorem doRefclkLost_frame (dt k : Nat) (s : State) (hE : Ev W K) (r_APT_PORT_STATE : ∀ i, W (APT_PORT_STATE i))
    (r_APT_STATUS : W APT_STATUS) (r_CAL_CULLET : W CAL_CULLET) (r_LAN_LANE_EQ : ∀ i, W (LAN_LANE_EQ i))
    (r_LAN_LANE_STATE : ∀ i, W (LAN_LANE_STATE i)) (r_LAN_STATUS : W LAN_STATUS)
    (r_LXS_PORT_STATE : ∀ i, W (LXS_PORT_STATE i)) (r_LXS_ROOT_HI : W LXS_ROOT_HI) (r_LXS_ROOT_LO : W LXS_ROOT_LO)
    (r_LXS_STATUS : W LXS_STATUS) (r_LXS_SYSID_HI : W LXS_SYSID_HI) (r_TIM_DPLL_STATUS : W TIM_DPLL_STATUS)
    (r_TIM_REF_STATUS : W TIM_REF_STATUS) (k_tim : K .tim) (k_apt : K .apt) (k_lan : K .lan) (k_lxs : K .lxs)
    (h_s : Fr D W K s0 s) : Fr D W K s0 (doRefclkLost dt k s) := by
  unfold doRefclkLost
  repeat' first
    | with_reducible assumption | (simp -zeta (disch := first | assumption | exact rfl) only [↓Fr.setLan])
    | with_reducible apply Fr.ite | (with_reducible apply foldOver_frame; intro a t ht)
    | with_reducible apply State.tick_frame | with_reducible apply State.onLiveIf_frame
    | with_reducible apply State.put_frame | with_reducible apply State.setLaneState_frame
    | with_reducible apply State.linkFailure_frame | with_reducible apply State.leaveUp_frame
    | with_reducible apply State.lxEnter_frame | with_reducible apply r_APT_PORT_STATE
    | with_reducible apply r_LAN_LANE_EQ | with_reducible apply r_LAN_LANE_STATE | with_reducible apply r_LXS_PORT_STATE
    | (extract_lets +onlyGivenNames x; refine Fr.cut (D := D) (W := W) (K := K) (s0 := s0) (x := x) ?_ ?_; (on_goal 1 => dsimp -zeta only [x]); (on_goal 2 => intro hx; clear_value x))
    | (extract_lets +onlyGivenNames y) | split | (clear_value y; split) | (intro v w hv) | (intro v hv)

theorem doRefclkRestored_frame (dt k : Nat) (s : State) (r_CAL_CULLET : W CAL_CULLET)
    (r_LAN_LANE_EQ : ∀ i, W (LAN_LANE_EQ i)) (r_LAN_LANE_STATE : ∀ i, W (LAN_LANE_STATE i)) (r_LAN_STATUS : W LAN_STATUS)
    (r_LXS_PORT_STATE : W (LXS_PORT_STATE k)) (k_lan : K .lan) (k_lxs : K .lxs) (h_s : Fr D W K s0 s)
    : Fr D W K s0 (doRefclkRestored dt k s) := by
  unfold doRefclkRestored
  repeat' first
    | with_reducible assumption | (simp -zeta (disch := first | assumption | exact rfl) only [↓Fr.setLan])
    | with_reducible apply Fr.ite | (with_reducible apply foldOver_frame; intro a t ht)
    | with_reducible apply State.tick_frame | with_reducible apply State.onLiveIf_frame
    | with_reducible apply State.put_frame | with_reducible apply State.trainLane_frame
    | with_reducible apply State.lxStartTrain_frame | with_reducible apply r_LAN_LANE_EQ
    | with_reducible apply r_LAN_LANE_STATE
    | (extract_lets +onlyGivenNames x; refine Fr.cut (D := D) (W := W) (K := K) (s0 := s0) (x := x) ?_ ?_; (on_goal 1 => dsimp -zeta only [x]); (on_goal 2 => intro hx; clear_value x))
    | (extract_lets +onlyGivenNames y) | split | (clear_value y; split) | (intro v w hv) | (intro v hv)

theorem doLaneLoopWrite_frame (dt l loop : Nat) (s : State) (hE : Ev W K) (r_CAL_CULLET : W CAL_CULLET)
    (r_LAN_LANE_CTRL : W (LAN_LANE_CTRL l)) (r_LAN_LANE_EQ : W (LAN_LANE_EQ l)) (r_LAN_LANE_STATE : W (LAN_LANE_STATE l))
    (r_LAN_STATUS : W LAN_STATUS) (k_lan : K .lan) (h_s : Fr D W K s0 s) : Fr D W K s0 (doLaneLoopWrite dt l loop s) := by
  unfold doLaneLoopWrite
  repeat' first
    | with_reducible assumption | with_reducible apply Fr.ite | with_reducible apply State.tick_frame
    | with_reducible apply State.onReachIf_frame | with_reducible apply State.accessEvent_frame
    | with_reducible apply State.put_frame | with_reducible apply State.setLane_frame
    | with_reducible apply State.setLaneState_frame | with_reducible apply State.trainLane_frame
    | (extract_lets +onlyGivenNames x; refine Fr.cut (D := D) (W := W) (K := K) (s0 := s0) (x := x) ?_ ?_; (on_goal 1 => dsimp -zeta only [x]); (on_goal 2 => intro hx; clear_value x))
    | (extract_lets +onlyGivenNames y) | split | (intro v w hv) | (intro v hv)

theorem doPrbsCheckerLock_frame (dt l : Nat) (s : State) (r_LAN_LANE_PRBS_CTRL : W (LAN_LANE_PRBS_CTRL l))
    (h_s : Fr D W K s0 s) : Fr D W K s0 (doPrbsCheckerLock dt l s) := by
  unfold doPrbsCheckerLock
  repeat' first
    | with_reducible assumption | with_reducible apply State.tick_frame | with_reducible apply State.onLiveIf_frame
    | with_reducible apply State.putB_frame
    | (extract_lets +onlyGivenNames x; refine Fr.cut (D := D) (W := W) (K := K) (s0 := s0) (x := x) ?_ ?_; (on_goal 1 => dsimp -zeta only [x]); (on_goal 2 => intro hx; clear_value x))
    | (extract_lets +onlyGivenNames y) | (intro v w hv) | (intro v hv)

theorem doPrbsCheckerLockLoss_frame (dt l : Nat) (s : State) (r_LAN_LANE_PRBS_CTRL : W (LAN_LANE_PRBS_CTRL l))
    (k_lan : K .lan) (h_s : Fr D W K s0 s) : Fr D W K s0 (doPrbsCheckerLockLoss dt l s) := by
  unfold doPrbsCheckerLockLoss
  repeat' first
    | with_reducible assumption | with_reducible apply State.tick_frame | with_reducible apply State.onLiveIf_frame
    | with_reducible apply State.setLane_frame | with_reducible apply State.putB_frame
    | (extract_lets +onlyGivenNames x; refine Fr.cut (D := D) (W := W) (K := K) (s0 := s0) (x := x) ?_ ?_; (on_goal 1 => dsimp -zeta only [x]); (on_goal 2 => intro hx; clear_value x))
    | (extract_lets +onlyGivenNames y) | (intro v w hv) | (intro v hv)

end Sys2Proof.Machine
end

