-- ==== Sys2Proof/Laws/FrameCal.lean ====
section
/-! SUPPORT. What each function leaves: registers, parts of the state, the queue and the memory. One law per function of
calibration and configuration. -/
namespace Sys2Proof.Machine

set_option linter.all false
set_option linter.unusedTactic false
set_option linter.unreachableTactic false

variable {D : List Host.Cell → Prop} {W : Nat → Prop} {K : Part → Prop} {s0 : State}

theorem State.setSess_frame (s : State) (k : Nat) (x : SessSt) (k_cal : K .cal) (h_s : Fr D W K s0 s)
    : Fr D W K s0 (State.setSess s k x) := by
  unfold State.setSess
  repeat' first
    | with_reducible assumption | (simp -zeta (disch := first | assumption | exact rfl) only [↓Fr.setCal])
    | (extract_lets +onlyGivenNames x; refine Fr.cut (D := D) (W := W) (K := K) (s0 := s0) (x := x) ?_ ?_; (on_goal 1 => dsimp -zeta only [x]); (on_goal 2 => intro hx; clear_value x))
    | (extract_lets +onlyGivenNames y)

theorem State.showRes_frame (s : State) (r_CAL_RES_DATA : W CAL_RES_DATA) (h_s : Fr D W K s0 s)
    : Fr D W K s0 (State.showRes s) := by
  unfold State.showRes
  repeat' first
    | with_reducible assumption | with_reducible apply State.wrN_frame
    | (extract_lets +onlyGivenNames x; refine Fr.cut (D := D) (W := W) (K := K) (s0 := s0) (x := x) ?_ ?_; (on_goal 1 => dsimp -zeta only [x]); (on_goal 2 => intro hx; clear_value x))
    | (extract_lets +onlyGivenNames y) | split | (clear_value y; split)

theorem State.askSession_frame (s : State) (k : Nat) (own : State → List Nat → Option Nat) (start : SessSt → State → State)
    (r_CAL_SESSION : W CAL_SESSION) (r_CAL_SESS_STATUS : W (CAL_SESS_STATUS k)) (k_cal : K .cal) (h_s : Fr D W K s0 s)
    (h_start : ∀ (v0 : SessSt) (v1 : State), Fr D W K s0 v1 → Fr D W K s0 (start v0 v1))
    : Fr D W K s0 (State.askSession s k own start) := by
  unfold State.askSession
  repeat' first
    | with_reducible assumption | with_reducible apply State.put_frame | with_reducible apply State.setSess_frame
    | with_reducible apply h_start
    | (extract_lets +onlyGivenNames x; refine Fr.cut (D := D) (W := W) (K := K) (s0 := s0) (x := x) ?_ ?_; (on_goal 1 => dsimp -zeta only [x]); (on_goal 2 => intro hx; clear_value x))
    | (extract_lets +onlyGivenNames y) | split | (intro v w hv) | (intro v hv) | (clear_value y; split)

theorem State.showStore_frame (s : State) (r_CAL_STORE_STATUS : W CAL_STORE_STATUS) (h_s : Fr D W K s0 s)
    : Fr D W K s0 (State.showStore s) := by
  unfold State.showStore
  repeat' first
    | with_reducible assumption | with_reducible apply State.putB_frame

theorem State.tryStore_frame (s : State) (r_CAL_STORE_STATUS : W CAL_STORE_STATUS) (k_fresh : K .fresh) (k_cal : K .cal)
    (h_s : Fr D W K s0 s) : Fr D W K s0 (State.tryStore s) := by
  unfold State.tryStore
  repeat' first
    | with_reducible assumption | (simp -zeta (disch := first | assumption | exact rfl) only [↓Fr.setCal])
    | with_reducible apply Fr.ite | with_reducible apply State.showStore_frame | with_reducible apply State.useFree_frame
    | with_reducible apply State.put_frame
    | (extract_lets +onlyGivenNames x; refine Fr.cut (D := D) (W := W) (K := K) (s0 := s0) (x := x) ?_ ?_; (on_goal 1 => dsimp -zeta only [x]); (on_goal 2 => intro hx; clear_value x))
    | (extract_lets +onlyGivenNames y) | split

theorem State.askStore_frame (s : State) (r_CAL_STORE_STATUS : W CAL_STORE_STATUS) (k_fresh : K .fresh) (k_cal : K .cal)
    (h_s : Fr D W K s0 s) : Fr D W K s0 (State.askStore s) := by
  unfold State.askStore
  repeat' first
    | with_reducible assumption | (simp -zeta (disch := first | assumption | exact rfl) only [↓Fr.setCal])
    | with_reducible apply State.tryStore_frame
    | (extract_lets +onlyGivenNames x; refine Fr.cut (D := D) (W := W) (K := K) (s0 := s0) (x := x) ?_ ?_; (on_goal 1 => dsimp -zeta only [x]); (on_goal 2 => intro hx; clear_value x))
    | (extract_lets +onlyGivenNames y)

theorem doCalSave_frame (dt : Nat) (s : State) (r_CAL_STORE_STATUS : W CAL_STORE_STATUS) (k_fresh : K .fresh) (k_cal : K .cal)
    (h_s : Fr D W K s0 s) : Fr D W K s0 (doCalSave dt s) := by
  unfold doCalSave
  repeat' first
    | with_reducible assumption | with_reducible apply State.tick_frame | with_reducible apply State.onReach_frame
    | with_reducible apply State.askStore_frame | (intro v w hv) | (intro v hv)

theorem doCalStoreWriteDone_frame (dt : Nat) (ok : Bool) (s : State) (hE : Ev W K) (r_CAL_STORE_SEQ : W CAL_STORE_SEQ)
    (r_CAL_STORE_STATUS : W CAL_STORE_STATUS) (k_fresh : K .fresh) (k_cal : K .cal) (h_s : Fr D W K s0 s)
    : Fr D W K s0 (doCalStoreWriteDone dt ok s) := by
  unfold doCalStoreWriteDone
  repeat' first
    | with_reducible assumption | (simp -zeta (disch := first | assumption | exact rfl) only [↓Fr.setCal])
    | with_reducible apply Fr.ite | with_reducible apply State.tick_frame | with_reducible apply State.onLive_frame
    | with_reducible apply State.put_frame | with_reducible apply State.wrN_frame | with_reducible apply State.inc_frame
    | with_reducible apply State.tryStore_frame | with_reducible apply State.raise_frame
    | (extract_lets +onlyGivenNames x; refine Fr.cut (D := D) (W := W) (K := K) (s0 := s0) (x := x) ?_ ?_; (on_goal 1 => dsimp -zeta only [x]); (on_goal 2 => intro hx; clear_value x))
    | (extract_lets +onlyGivenNames y) | split | (intro v w hv) | (intro v hv) | (clear_value y; split)

theorem State.stopStore_frame (s : State) (r_CAL_STORE_STATUS : W CAL_STORE_STATUS) (k_cal : K .cal) (h_s : Fr D W K s0 s)
    : Fr D W K s0 (State.stopStore s) := by
  unfold State.stopStore
  repeat' first
    | with_reducible assumption | (simp -zeta (disch := first | assumption | exact rfl) only [↓Fr.setCal])
    | with_reducible apply State.put_frame | with_reducible apply State.showStore_frame
    | (extract_lets +onlyGivenNames x; refine Fr.cut (D := D) (W := W) (K := K) (s0 := s0) (x := x) ?_ ?_; (on_goal 1 => dsimp -zeta only [x]); (on_goal 2 => intro hx; clear_value x))
    | (extract_lets +onlyGivenNames y) | split

theorem State.leaveService_frame (s : State) (e : FenceEntry) (r_CAL_CULLET : W CAL_CULLET)
    (r_LAN_LANE_STATE : ∀ i, W (LAN_LANE_STATE i)) (r_LAN_STATUS : W LAN_STATUS) (k_pln : K .pln) (k_seq : K .seq)
    (k_lan : K .lan) (h_s : Fr D W K s0 s) : Fr D W K s0 (State.leaveService s e) := by
  unfold State.leaveService
  repeat' first
    | with_reducible assumption | with_reducible apply Fr.ite | with_reducible apply State.setTile_frame
    | with_reducible apply State.setLaneState_frame | with_reducible apply State.setRow_frame
    | with_reducible apply r_LAN_LANE_STATE
    | (extract_lets +onlyGivenNames x; refine Fr.cut (D := D) (W := W) (K := K) (s0 := s0) (x := x) ?_ ?_; (on_goal 1 => dsimp -zeta only [x]); (on_goal 2 => intro hx; clear_value x))
    | (extract_lets +onlyGivenNames y) | split | (clear_value y; split) | (intro v w hv) | (intro v hv)

theorem State.showSpareRows_frame (s : State) (r_PLN_STATUS : W PLN_STATUS) (h_s : Fr D W K s0 s)
    : Fr D W K s0 (State.showSpareRows s) := by
  unfold State.showSpareRows
  repeat' first
    | with_reducible assumption | with_reducible apply Fr.ite | with_reducible apply State.put_frame
    | (extract_lets +onlyGivenNames x; refine Fr.cut (D := D) (W := W) (K := K) (s0 := s0) (x := x) ?_ ?_; (on_goal 1 => dsimp -zeta only [x]); (on_goal 2 => intro hx; clear_value x))
    | (extract_lets +onlyGivenNames y) | split | (clear_value y; split) | (intro v w hv) | (intro v hv)

theorem State.takeStore_frame (s : State) (b : List Byte) (r_CAL_CULLET : W CAL_CULLET) (r_CAL_FENCED : W CAL_FENCED)
    (r_CAL_FENCE_DATA_0 : W CAL_FENCE_DATA_0) (r_CAL_FENCE_DATA_1 : W CAL_FENCE_DATA_1)
    (r_CAL_FENCE_DATA_2 : W CAL_FENCE_DATA_2) (r_COL_PRIM_TARGET : ∀ i, W (COL_PRIM_TARGET i))
    (r_LAN_LANE_EQ : ∀ i, W (LAN_LANE_EQ i)) (r_LAN_LANE_STATE : ∀ i, W (LAN_LANE_STATE i)) (r_LAN_STATUS : W LAN_STATUS)
    (r_LMP_PS_CH_GAIN : ∀ i, W (LMP_PS_CH_GAIN i)) (r_LMP_PS_CH_OFFSET : ∀ i, W (LMP_PS_CH_OFFSET i))
    (r_PLN_STATUS : W PLN_STATUS) (r_SEQ_TILES : W SEQ_TILES) (k_col : K .col) (k_pln : K .pln) (k_seq : K .seq)
    (k_lmp : K .lmp) (k_lan : K .lan) (k_cal : K .cal) (h_s : Fr D W K s0 s) : Fr D W K s0 (State.takeStore s b) := by
  unfold State.takeStore
  repeat' first
    | with_reducible assumption
    | (simp -zeta (disch := first | assumption | exact rfl) only [↓Fr.setCal, ↓Fr.setColCal, ↓Fr.setLmp])
    | with_reducible apply Fr.ite | (with_reducible apply foldOver_frame; intro a t ht)
    | with_reducible apply State.put_frame | with_reducible apply State.leaveService_frame
    | with_reducible apply State.showTiles_frame | with_reducible apply State.showFenced_frame
    | with_reducible apply State.showSpareRows_frame | with_reducible apply r_COL_PRIM_TARGET
    | with_reducible apply r_LAN_LANE_EQ | with_reducible apply r_LAN_LANE_STATE | with_reducible apply r_LMP_PS_CH_GAIN
    | with_reducible apply r_LMP_PS_CH_OFFSET
    | (extract_lets +onlyGivenNames x; refine Fr.cut (D := D) (W := W) (K := K) (s0 := s0) (x := x) ?_ ?_; (on_goal 1 => dsimp -zeta only [x]); (on_goal 2 => intro hx; clear_value x))
    | (extract_lets +onlyGivenNames y) | split | (clear_value y; split) | (intro v w hv) | (intro v hv)

theorem doCalStoreRead_frame (dt : Nat) (copyA copyB : List Byte) (s : State) (hE : Ev W K) (r_CAL_CULLET : W CAL_CULLET)
    (r_CAL_FENCED : W CAL_FENCED) (r_CAL_FENCE_DATA_0 : W CAL_FENCE_DATA_0) (r_CAL_FENCE_DATA_1 : W CAL_FENCE_DATA_1)
    (r_CAL_FENCE_DATA_2 : W CAL_FENCE_DATA_2) (r_CAL_STORE_SEQ : W CAL_STORE_SEQ) (r_CAL_STORE_STATUS : W CAL_STORE_STATUS)
    (r_COL_PRIM_TARGET : ∀ i, W (COL_PRIM_TARGET i)) (r_LAN_LANE_EQ : ∀ i, W (LAN_LANE_EQ i))
    (r_LAN_LANE_STATE : ∀ i, W (LAN_LANE_STATE i)) (r_LAN_STATUS : W LAN_STATUS) (r_LMP_LAMP_DATA : ∀ i, W (LMP_LAMP_DATA i))
    (r_LMP_PS_CH_GAIN : ∀ i, W (LMP_PS_CH_GAIN i)) (r_LMP_PS_CH_OFFSET : ∀ i, W (LMP_PS_CH_OFFSET i))
    (r_SEQ_TILES : W SEQ_TILES) (k_col : K .col) (k_seq : K .seq) (k_lmp : K .lmp) (k_lan : K .lan) (k_cal : K .cal)
    (r_PLN_STATUS : W PLN_STATUS)
    (k_pln : K .pln)
    (h_s : Fr D W K s0 s) : Fr D W K s0 (doCalStoreRead dt copyA copyB s) := by
  unfold doCalStoreRead
  repeat' first
    | with_reducible assumption | (simp -zeta (disch := first | assumption | exact rfl) only [↓Fr.setCal])
    | with_reducible apply Fr.ite | with_reducible apply State.tick_frame | with_reducible apply State.onLiveIf_frame
    | with_reducible apply State.raise_frame | with_reducible apply State.put_frame | with_reducible apply State.wrN_frame
    | with_reducible apply State.takeStore_frame | with_reducible apply State.checkLamps_frame
    | with_reducible apply State.showLamp_frame | with_reducible apply State.showStore_frame
    | with_reducible apply r_COL_PRIM_TARGET | with_reducible apply r_LAN_LANE_EQ | with_reducible apply r_LAN_LANE_STATE
    | with_reducible apply r_LMP_LAMP_DATA | with_reducible apply r_LMP_PS_CH_GAIN | with_reducible apply r_LMP_PS_CH_OFFSET
    | (extract_lets +onlyGivenNames x; refine Fr.cut (D := D) (W := W) (K := K) (s0 := s0) (x := x) ?_ ?_; (on_goal 1 => dsimp -zeta only [x]); (on_goal 2 => intro hx; clear_value x))
    | (extract_lets +onlyGivenNames y) | split | (intro v w hv) | (intro v hv)

theorem State.endSession_frame (s : State) (k st reason : Nat) (hE : Ev W K) (r_CAL_SESS_STATUS : W (CAL_SESS_STATUS k))
    (r_CAL_STORE_STATUS : W CAL_STORE_STATUS) (k_fresh : K .fresh) (k_cal : K .cal) (h_s : Fr D W K s0 s)
    : Fr D W K s0 (State.endSession s k st reason) := by
  unfold State.endSession
  split
  · exact h_s
  · next x _ =>
    have h1 : Fr D W K s0 { s with cal := { s.cal with sess := tdel s.cal.sess k } } := h_s.upd rfl (fun p hp => by cases p <;> first | rfl | exact absurd ‹_› hp) rfl rfl
    have h2 := State.raise_frame _ 0x0E01 k st reason hE (State.putSat_frame _ (CAL_SESS_STATUS.TIME_MS k)
      ((s.now - x.start) / msSteps) r_CAL_SESS_STATUS
      (State.put_frame _ (CAL_SESS_STATUS.REASON k) reason r_CAL_SESS_STATUS
        (State.put_frame _ (CAL_SESS_STATUS.STATE k) st r_CAL_SESS_STATUS h1)))
    refine Fr.ite ?_ h2
    apply State.askStore_frame <;> assumption

theorem State.setLaneOffs_frame (s : State) (l : Nat) (o : List Int) (r_LAN_LANE_EQ : W (LAN_LANE_EQ l)) (k_cal : K .cal)
    (h_s : Fr D W K s0 s) : Fr D W K s0 (State.setLaneOffs s l o) := by
  unfold State.setLaneOffs
  repeat' first
    | with_reducible assumption | (simp -zeta (disch := first | assumption | exact rfl) only [↓Fr.setCal])
    | with_reducible apply State.put_frame
    | (extract_lets +onlyGivenNames x; refine Fr.cut (D := D) (W := W) (K := K) (s0 := s0) (x := x) ?_ ?_; (on_goal 1 => dsimp -zeta only [x]); (on_goal 2 => intro hx; clear_value x))
    | (extract_lets +onlyGivenNames y)

theorem State.startEyeWork_frame (s : State) (x : SessSt) (r_LAN_LANE_EQ : W (LAN_LANE_EQ x.lane)) (k_cal : K .cal)
    (h_s : Fr D W K s0 s) : Fr D W K s0 (State.startEyeWork s x) := by
  unfold State.startEyeWork
  repeat' first
    | with_reducible assumption | with_reducible apply State.setSess_frame | with_reducible apply State.setLaneOffs_frame
    | (extract_lets +onlyGivenNames x; refine Fr.cut (D := D) (W := W) (K := K) (s0 := s0) (x := x) ?_ ?_; (on_goal 1 => dsimp -zeta only [x]); (on_goal 2 => intro hx; clear_value x))
    | (extract_lets +onlyGivenNames y)

theorem State.dropEye_frame (s : State) (x : SessSt) (r_CAL_CULLET : W CAL_CULLET) (r_LAN_LANE_EQ : W (LAN_LANE_EQ x.lane))
    (r_LAN_LANE_STATE_1 : W (LAN_LANE_STATE (128 + laneGroup x.lane))) (r_LAN_LANE_STATE_2 : W (LAN_LANE_STATE x.lane))
    (r_LAN_STATUS : W LAN_STATUS) (k_lan : K .lan) (k_cal : K .cal) (h_s : Fr D W K s0 s)
    : Fr D W K s0 (State.dropEye s x) := by
  unfold State.dropEye
  repeat' first
    | with_reducible assumption | with_reducible apply Fr.ite | with_reducible apply State.setLaneOffs_frame
    | with_reducible apply State.setLaneState_frame | with_reducible apply State.setLane_frame
    | with_reducible apply State.put_frame | with_reducible apply State.announce_frame
    | (extract_lets +onlyGivenNames x; refine Fr.cut (D := D) (W := W) (K := K) (s0 := s0) (x := x) ?_ ?_; (on_goal 1 => dsimp -zeta only [x]); (on_goal 2 => intro hx; clear_value x))
    | (extract_lets +onlyGivenNames y) | split

theorem doLaneEyeSession_frame (dt : Nat) (s : State) (r_CAL_CULLET : W CAL_CULLET) (r_CAL_SESSION : W CAL_SESSION)
    (r_CAL_SESS_STATUS : ∀ i, W (CAL_SESS_STATUS i)) (r_LAN_LANE_EQ : ∀ i, W (LAN_LANE_EQ i))
    (r_LAN_LANE_STATE : ∀ i, W (LAN_LANE_STATE i)) (r_LAN_STATUS : W LAN_STATUS) (k_lan : K .lan) (k_cal : K .cal)
    (h_s : Fr D W K s0 s) : Fr D W K s0 (doLaneEyeSession dt s) := by
  unfold doLaneEyeSession
  repeat' first
    | with_reducible assumption | with_reducible apply Fr.ite | with_reducible apply State.tick_frame
    | with_reducible apply State.onReach_frame | with_reducible apply State.askSession_frame
    | with_reducible apply State.setSess_frame | with_reducible apply State.startEyeWork_frame
    | with_reducible apply State.trainLane_frame | with_reducible apply State.announce_frame
    | with_reducible apply r_CAL_SESS_STATUS | with_reducible apply r_LAN_LANE_EQ | with_reducible apply r_LAN_LANE_STATE
    | (extract_lets +onlyGivenNames x; refine Fr.cut (D := D) (W := W) (K := K) (s0 := s0) (x := x) ?_ ?_; (on_goal 1 => dsimp -zeta only [x]); (on_goal 2 => intro hx; clear_value x))
    | (extract_lets +onlyGivenNames y) | split | (intro v w hv) | (intro v hv) | (clear_value y; split)

theorem State.eyeMeasured_frame (s : State) (l w h : Nat) (r_CAL_SESS_1_RESULT : W CAL_SESS_1_RESULT)
    (r_LAN_LANE_EQ : W (LAN_LANE_EQ l)) (r_LAN_LANE_STATE : W (LAN_LANE_STATE (128 + laneGroup l))) (k_lan : K .lan)
    (k_cal : K .cal) (h_s : Fr D W K s0 s) : Fr D W K s0 (State.eyeMeasured s l w h) := by
  unfold State.eyeMeasured
  repeat' first
    | with_reducible assumption | with_reducible apply Fr.ite | with_reducible apply State.setSess_frame
    | with_reducible apply State.setLaneOffs_frame | with_reducible apply State.announce_frame
    | with_reducible apply State.put_frame | with_reducible apply State.putSat_frame
    | (extract_lets +onlyGivenNames x; refine Fr.cut (D := D) (W := W) (K := K) (s0 := s0) (x := x) ?_ ?_; (on_goal 1 => dsimp -zeta only [x]); (on_goal 2 => intro hx; clear_value x))
    | (extract_lets +onlyGivenNames y) | split | (clear_value y; split)

theorem doEyeMeasurementDone_frame (dt l width height : Nat) (s : State) (hE : Ev W K)
    (r_CAL_SESS_1_RESULT : W CAL_SESS_1_RESULT) (r_LAN_LANE_EQ : W (LAN_LANE_EQ l)) (r_LAN_LANE_EYE : W (LAN_LANE_EYE l))
    (r_LAN_LANE_STATE : W (LAN_LANE_STATE (128 + laneGroup l))) (k_lan : K .lan) (k_cal : K .cal) (h_s : Fr D W K s0 s)
    : Fr D W K s0 (doEyeMeasurementDone dt l width height s) := by
  unfold doEyeMeasurementDone
  repeat' first
    | with_reducible assumption | with_reducible apply Fr.ite | with_reducible apply State.tick_frame
    | with_reducible apply State.onLiveIf_frame | with_reducible apply State.put_frame
    | with_reducible apply State.putSat_frame | with_reducible apply State.putB_frame | with_reducible apply State.raise_frame
    | with_reducible apply State.eyeMeasured_frame
    | (extract_lets +onlyGivenNames x; refine Fr.cut (D := D) (W := W) (K := K) (s0 := s0) (x := x) ?_ ?_; (on_goal 1 => dsimp -zeta only [x]); (on_goal 2 => intro hx; clear_value x))
    | (extract_lets +onlyGivenNames y) | split | (intro v w hv) | (intro v hv)

theorem State.eyeUntrained_frame (s : State) (x : SessSt) (hE : Ev W K) (r_CAL_CULLET : W CAL_CULLET)
    (r_CAL_SESS_STATUS : ∀ i, W (CAL_SESS_STATUS i)) (r_CAL_STORE_STATUS : W CAL_STORE_STATUS)
    (r_LAN_LANE_EQ : W (LAN_LANE_EQ x.lane)) (r_LAN_LANE_STATE_1 : W (LAN_LANE_STATE (128 + laneGroup x.lane)))
    (r_LAN_LANE_STATE_2 : W (LAN_LANE_STATE x.lane)) (r_LAN_STATUS : W LAN_STATUS) (k_fresh : K .fresh) (k_lan : K .lan)
    (k_cal : K .cal) (h_s : Fr D W K s0 s) : Fr D W K s0 (State.eyeUntrained s x) := by
  unfold State.eyeUntrained
  repeat' first
    | with_reducible assumption | with_reducible apply Fr.ite | with_reducible apply State.setLaneOffs_frame
    | with_reducible apply State.setLaneState_frame | with_reducible apply State.raise_frame
    | with_reducible apply State.setLane_frame | with_reducible apply State.announce_frame
    | with_reducible apply State.endSession_frame | with_reducible apply r_CAL_SESS_STATUS
    | (extract_lets +onlyGivenNames x; refine Fr.cut (D := D) (W := W) (K := K) (s0 := s0) (x := x) ?_ ?_; (on_goal 1 => dsimp -zeta only [x]); (on_goal 2 => intro hx; clear_value x))
    | (extract_lets +onlyGivenNames y) | split

theorem State.eyeLaneFailed_frame (s : State) (hE : Ev W K) (r_CAL_CULLET : W CAL_CULLET) (r_CAL_FENCED : W CAL_FENCED)
    (r_CAL_FENCE_DATA_0 : W CAL_FENCE_DATA_0) (r_CAL_FENCE_DATA_1 : W CAL_FENCE_DATA_1)
    (r_CAL_FENCE_DATA_2 : W CAL_FENCE_DATA_2) (r_CAL_SESS_STATUS : ∀ i, W (CAL_SESS_STATUS i))
    (r_CAL_STORE_STATUS : W CAL_STORE_STATUS) (r_LAN_LANE_EQ : ∀ i, W (LAN_LANE_EQ i))
    (r_LAN_LANE_STATE : ∀ i, W (LAN_LANE_STATE i)) (r_LAN_STATUS : W LAN_STATUS) (k_fresh : K .fresh) (k_lan : K .lan)
    (k_cal : K .cal) (h_s : Fr D W K s0 s) : Fr D W K s0 (State.eyeLaneFailed s) := by
  unfold State.eyeLaneFailed
  repeat' first
    | with_reducible assumption | with_reducible apply Fr.ite | with_reducible apply State.setLaneOffs_frame
    | with_reducible apply State.setLane_frame | with_reducible apply State.setLaneState_frame
    | with_reducible apply State.put_frame | with_reducible apply State.fenceUnit_frame
    | with_reducible apply State.raise_frame | with_reducible apply State.endSession_frame
    | with_reducible apply r_CAL_SESS_STATUS | with_reducible apply r_LAN_LANE_EQ | with_reducible apply r_LAN_LANE_STATE
    | (extract_lets +onlyGivenNames x; refine Fr.cut (D := D) (W := W) (K := K) (s0 := s0) (x := x) ?_ ?_; (on_goal 1 => dsimp -zeta only [x]); (on_goal 2 => intro hx; clear_value x))
    | (extract_lets +onlyGivenNames y) | split | (intro v w hv) | (intro v hv) | (clear_value y; split)

theorem State.eyeBoundary_frame (s : State) (r_CAL_CULLET : W CAL_CULLET) (r_LAN_LANE_EQ : ∀ i, W (LAN_LANE_EQ i))
    (r_LAN_LANE_STATE : ∀ i, W (LAN_LANE_STATE i)) (r_LAN_STATUS : W LAN_STATUS) (k_lan : K .lan) (k_cal : K .cal)
    (h_s : Fr D W K s0 s) : Fr D W K s0 (State.eyeBoundary s) := by
  unfold State.eyeBoundary
  repeat' first
    | with_reducible assumption | with_reducible apply Fr.ite | with_reducible apply State.startEyeWork_frame
    | with_reducible apply State.setLaneState_frame | with_reducible apply State.setEq_frame
    | with_reducible apply State.setSess_frame | with_reducible apply r_LAN_LANE_EQ | with_reducible apply r_LAN_LANE_STATE
    | (extract_lets +onlyGivenNames x; refine Fr.cut (D := D) (W := W) (K := K) (s0 := s0) (x := x) ?_ ?_; (on_goal 1 => dsimp -zeta only [x]); (on_goal 2 => intro hx; clear_value x))
    | (extract_lets +onlyGivenNames y) | split | (clear_value y; split)

theorem doPsenseGainSession_frame (dt : Nat) (s : State) (r_CAL_SESSION : W CAL_SESSION)
    (r_CAL_SESS_STATUS : ∀ i, W (CAL_SESS_STATUS i)) (r_COL_PRIM_LOOP : ∀ i, W (COL_PRIM_LOOP i))
    (r_COL_STATUS : W COL_STATUS) (k_col : K .col) (k_cal : K .cal) (h_s : Fr D W K s0 s)
    : Fr D W K s0 (doPsenseGainSession dt s) := by
  unfold doPsenseGainSession
  repeat' first
    | with_reducible assumption | (simp -zeta (disch := first | assumption | exact rfl) only [↓Fr.setCol])
    | with_reducible apply Fr.ite | with_reducible apply State.tick_frame | with_reducible apply State.onReach_frame
    | with_reducible apply State.askSession_frame | with_reducible apply State.loopRefresh_frame
    | with_reducible apply r_CAL_SESS_STATUS | with_reducible apply r_COL_PRIM_LOOP
    | (extract_lets +onlyGivenNames x; refine Fr.cut (D := D) (W := W) (K := K) (s0 := s0) (x := x) ?_ ?_; (on_goal 1 => dsimp -zeta only [x]); (on_goal 2 => intro hx; clear_value x))
    | (extract_lets +onlyGivenNames y) | split | (intro v w hv) | (intro v hv)

theorem State.endSense_frame (s : State) (x : SessSt) (meas : List Int) (hE : Ev W K) (r_CAL_RES_DATA : W CAL_RES_DATA)
    (r_CAL_SESS_2_RESULT : W CAL_SESS_2_RESULT) (r_CAL_SESS_STATUS : ∀ i, W (CAL_SESS_STATUS i))
    (r_CAL_STORE_STATUS : W CAL_STORE_STATUS) (r_COL_PRIM_LOOP : ∀ i, W (COL_PRIM_LOOP i)) (r_COL_STATUS : W COL_STATUS)
    (r_LMP_PS_CH_GAIN : ∀ i, W (LMP_PS_CH_GAIN i)) (r_LMP_PS_CH_OFFSET : ∀ i, W (LMP_PS_CH_OFFSET i)) (k_fresh : K .fresh)
    (k_col : K .col) (k_cal : K .cal) (h_s : Fr D W K s0 s) : Fr D W K s0 (State.endSense s x meas) := by
  unfold State.endSense
  extract_lets ks i m rs thaw s1 top
  have ht : ∀ t, Fr D W K s0 t → Fr D W K s0 (thaw t) := fun t h => by
    have h1 : Fr D W K s0 { t with col := { t.col with frozenUntil := t.now } } := h.upd rfl (fun p hp => by cases p <;> first | rfl | exact absurd ‹_› hp) rfl rfl
    dsimp only [thaw]
    apply State.loopRefresh_frame <;> assumption
  have h1 : Fr D W K s0 s1 := by
    refine foldOver_frame _ _ (fun r t h => ?_) h_s
    dsimp only
    split
    · exact h
    · next g _ =>
      exact (State.put_frame (t.put (LMP_PS_CH_GAIN.GAIN r.1) g.1) (LMP_PS_CH_OFFSET.OFFSET r.1) (uns 17 r.2.1) (r_LMP_PS_CH_OFFSET _)
        (State.put_frame t (LMP_PS_CH_GAIN.GAIN r.1) g.1 (r_LMP_PS_CH_GAIN _) h)).upd rfl (fun p hp => by cases p <;> first | rfl | exact absurd ‹_› hp) rfl rfl
  clear_value thaw
  split
  · have h2 := ht _ h_s
    apply State.endSession_frame <;> first | assumption | exact r_CAL_SESS_STATUS _
  · have h2 := ht _ (State.putSat_frame s1 CAL_SESS_2_RESULT.PPM top r_CAL_SESS_2_RESULT h1)
    have h3 := State.showRes_frame _ r_CAL_RES_DATA h2
    apply State.endSession_frame <;> first | assumption | exact r_CAL_SESS_STATUS _

theorem doColourSession_frame (dt : Nat) (s : State) (r_CAL_SESSION : W CAL_SESSION)
    (r_CAL_SESS_STATUS : ∀ i, W (CAL_SESS_STATUS i)) (k_lmp : K .lmp) (k_cal : K .cal) (h_s : Fr D W K s0 s)
    : Fr D W K s0 (doColourSession dt s) := by
  unfold doColourSession
  repeat' first
    | with_reducible assumption | (simp -zeta (disch := first | assumption | exact rfl) only [↓Fr.setLmpCal])
    | with_reducible apply Fr.ite | with_reducible apply State.tick_frame | with_reducible apply State.onReach_frame
    | with_reducible apply State.askSession_frame | with_reducible apply r_CAL_SESS_STATUS
    | (extract_lets +onlyGivenNames x; refine Fr.cut (D := D) (W := W) (K := K) (s0 := s0) (x := x) ?_ ?_; (on_goal 1 => dsimp -zeta only [x]); (on_goal 2 => intro hx; clear_value x))
    | (extract_lets +onlyGivenNames y) | split | (intro v w hv) | (intro v hv)

theorem doColourSlot_frame (dt : Nat) (s : State) (hE : Ev W K) (r_CMP_FORMING : W CMP_FORMING)
    (r_CMP_LYR_LIVE : ∀ i, W (CMP_LYR_LIVE i)) (r_CMP_OUT_STATUS : ∀ i, W (CMP_OUT_STATUS i))
    (r_COL_OUT_STATUS : ∀ i, W (COL_OUT_STATUS i)) (r_COL_STATUS : W COL_STATUS)
    (r_PLN_OUT_STATUS : ∀ i, W (PLN_OUT_STATUS i)) (k_int : K .int) (k_cmp : K .cmp) (k_col : K .col) (k_cal : K .cal)
    (h_s : Fr D W K s0 s) : Fr D W K s0 (doColourSlot dt s) := by
  unfold doColourSlot
  repeat' first
    | with_reducible assumption | (simp -zeta (disch := first | assumption | exact rfl) only [↓Fr.setCal])
    | with_reducible apply State.tick_frame | with_reducible apply State.onLiveIf_frame
    | with_reducible apply State.setSess_frame | with_reducible apply State.askPass_frame
    | (with_reducible apply foldOver_frame; intro a t ht) | with_reducible apply r_CMP_LYR_LIVE
    | with_reducible apply r_CMP_OUT_STATUS | with_reducible apply r_COL_OUT_STATUS | with_reducible apply r_PLN_OUT_STATUS
    | (extract_lets +onlyGivenNames x; refine Fr.cut (D := D) (W := W) (K := K) (s0 := s0) (x := x) ?_ ?_; (on_goal 1 => dsimp -zeta only [x]); (on_goal 2 => intro hx; clear_value x))
    | (extract_lets +onlyGivenNames y) | split | (intro v w hv) | (intro v hv) | (clear_value y; split)

theorem doColourPut_frame (dt : Nat) (s : State) (k_cal : K .cal) (h_s : Fr D W K s0 s) : Fr D W K s0 (doColourPut dt s) := by
  unfold doColourPut
  repeat' first
    | with_reducible assumption | with_reducible apply State.tick_frame | with_reducible apply State.onReachIf_frame
    | with_reducible apply State.setSess_frame
    | (extract_lets +onlyGivenNames x; refine Fr.cut (D := D) (W := W) (K := K) (s0 := s0) (x := x) ?_ ?_; (on_goal 1 => dsimp -zeta only [x]); (on_goal 2 => intro hx; clear_value x))
    | (extract_lets +onlyGivenNames y) | split | (intro v w hv) | (intro v hv) | (clear_value y; split)

theorem State.restorePicture_frame (s : State) (hE : Ev W K) (r_CMP_FORMING : W CMP_FORMING)
    (r_CMP_LYR_LIVE : ∀ i, W (CMP_LYR_LIVE i)) (r_CMP_OUT_STATUS : ∀ i, W (CMP_OUT_STATUS i))
    (r_COL_OUT_STATUS : ∀ i, W (COL_OUT_STATUS i)) (r_COL_STATUS : W COL_STATUS)
    (r_PLN_OUT_STATUS : ∀ i, W (PLN_OUT_STATUS i)) (k_int : K .int) (k_cmp : K .cmp) (k_col : K .col) (k_cal : K .cal)
    (h_s : Fr D W K s0 s) : Fr D W K s0 (State.restorePicture s) := by
  unfold State.restorePicture
  repeat' first
    | with_reducible assumption | (simp -zeta (disch := first | assumption | exact rfl) only [↓Fr.setCal])
    | with_reducible apply State.askPass_frame | (with_reducible apply foldOver_frame; intro a t ht)
    | with_reducible apply r_CMP_LYR_LIVE | with_reducible apply r_CMP_OUT_STATUS | with_reducible apply r_COL_OUT_STATUS
    | with_reducible apply r_PLN_OUT_STATUS
    | (extract_lets +onlyGivenNames x; refine Fr.cut (D := D) (W := W) (K := K) (s0 := s0) (x := x) ?_ ?_; (on_goal 1 => dsimp -zeta only [x]); (on_goal 2 => intro hx; clear_value x))
    | (extract_lets +onlyGivenNames y) | (intro v w hv) | (intro v hv)

theorem doColourMeasurementTimeout_frame (dt : Nat) (s : State) (hE : Ev W K) (r_CAL_SESS_STATUS : ∀ i, W (CAL_SESS_STATUS i))
    (r_CAL_STORE_STATUS : W CAL_STORE_STATUS) (r_CMP_FORMING : W CMP_FORMING) (r_CMP_LYR_LIVE : ∀ i, W (CMP_LYR_LIVE i))
    (r_CMP_OUT_STATUS : ∀ i, W (CMP_OUT_STATUS i)) (r_COL_OUT_STATUS : ∀ i, W (COL_OUT_STATUS i))
    (r_COL_STATUS : W COL_STATUS) (r_PLN_OUT_STATUS : ∀ i, W (PLN_OUT_STATUS i)) (k_fresh : K .fresh) (k_int : K .int)
    (k_cmp : K .cmp) (k_col : K .col) (k_cal : K .cal) (h_s : Fr D W K s0 s)
    : Fr D W K s0 (doColourMeasurementTimeout dt s) := by
  unfold doColourMeasurementTimeout
  repeat' first
    | with_reducible assumption | with_reducible apply State.tick_frame | with_reducible apply State.onLiveIf_frame
    | with_reducible apply State.restorePicture_frame | with_reducible apply State.endSession_frame
    | with_reducible apply r_CAL_SESS_STATUS | with_reducible apply r_CMP_LYR_LIVE | with_reducible apply r_CMP_OUT_STATUS
    | with_reducible apply r_COL_OUT_STATUS | with_reducible apply r_PLN_OUT_STATUS
    | (extract_lets +onlyGivenNames x; refine Fr.cut (D := D) (W := W) (K := K) (s0 := s0) (x := x) ?_ ?_; (on_goal 1 => dsimp -zeta only [x]); (on_goal 2 => intro hx; clear_value x))
    | (extract_lets +onlyGivenNames y) | split | (intro v w hv) | (intro v hv) | (clear_value y; split)

theorem State.holdDeltaE_frame (s : State) (n : Nat) (d : Option Nat) (k_fresh : K .fresh) (k_cal : K .cal)
    (h_s : Fr D W K s0 s) : Fr D W K s0 (State.holdDeltaE s n d) := by
  unfold State.holdDeltaE
  repeat' first
    | with_reducible assumption | (simp -zeta (disch := first | assumption | exact rfl) only [↓Fr.setCal])
    | with_reducible apply State.useFree_frame
    | (extract_lets +onlyGivenNames x; refine Fr.cut (D := D) (W := W) (K := K) (s0 := s0) (x := x) ?_ ?_; (on_goal 1 => dsimp -zeta only [x]); (on_goal 2 => intro hx; clear_value x))
    | (extract_lets +onlyGivenNames y) | split

theorem State.takeGroup_frame (s : State) (x : SessSt) (i : Nat) (k_fresh : K .fresh) (k_col : K .col) (k_lmp : K .lmp)
    (k_cal : K .cal) (h_s : Fr D W K s0 s) : Fr D W K s0 (State.takeGroup s x i) := by
  unfold State.takeGroup
  repeat' first
    | with_reducible assumption | (simp -zeta (disch := first | assumption | exact rfl) only [↓Fr.setColCal, ↓Fr.setLmp])
    | with_reducible apply Fr.ite | with_reducible apply State.holdDeltaE_frame
    | (with_reducible apply foldOver_frame; intro a t ht)
    | (extract_lets +onlyGivenNames x; refine Fr.cut (D := D) (W := W) (K := K) (s0 := s0) (x := x) ?_ ?_; (on_goal 1 => dsimp -zeta only [x]); (on_goal 2 => intro hx; clear_value x))
    | (extract_lets +onlyGivenNames y) | split | (intro v w hv) | (intro v hv) | (clear_value y; split)

theorem State.endColour_frame (s : State) (x : SessSt) (hE : Ev W K) (r_CAL_RES_DATA : W CAL_RES_DATA)
    (r_CAL_SESS_3_RESULT : W CAL_SESS_3_RESULT) (r_CAL_SESS_STATUS : ∀ i, W (CAL_SESS_STATUS i))
    (r_CAL_STORE_STATUS : W CAL_STORE_STATUS) (r_CMP_FORMING : W CMP_FORMING) (r_CMP_LYR_LIVE : ∀ i, W (CMP_LYR_LIVE i))
    (r_CMP_OUT_STATUS : ∀ i, W (CMP_OUT_STATUS i)) (r_COL_OUT_STATUS : ∀ i, W (COL_OUT_STATUS i))
    (r_COL_STATUS : W COL_STATUS) (r_LMP_LAMP_DATA : ∀ i, W (LMP_LAMP_DATA i)) (r_PLN_OUT_STATUS : ∀ i, W (PLN_OUT_STATUS i))
    (k_fresh : K .fresh) (k_int : K .int) (k_cmp : K .cmp) (k_col : K .col) (k_lmp : K .lmp) (k_cal : K .cal)
    (h_s : Fr D W K s0 s) : Fr D W K s0 (State.endColour s x) := by
  unfold State.endColour
  repeat' first
    | with_reducible assumption | (simp -zeta (disch := first | assumption | exact rfl) only [↓Fr.setCal])
    | with_reducible apply State.takeGroup_frame | with_reducible apply State.putSat_frame
    | with_reducible apply State.checkLamps_frame | with_reducible apply State.showLamp_frame
    | with_reducible apply State.showRes_frame | with_reducible apply State.restorePicture_frame
    | with_reducible apply State.endSession_frame | (with_reducible apply foldOver_frame; intro a t ht)
    | with_reducible apply r_CAL_SESS_STATUS | with_reducible apply r_CMP_LYR_LIVE | with_reducible apply r_CMP_OUT_STATUS
    | with_reducible apply r_COL_OUT_STATUS | with_reducible apply r_LMP_LAMP_DATA | with_reducible apply r_PLN_OUT_STATUS
    | (extract_lets +onlyGivenNames x; refine Fr.cut (D := D) (W := W) (K := K) (s0 := s0) (x := x) ?_ ?_; (on_goal 1 => dsimp -zeta only [x]); (on_goal 2 => intro hx; clear_value x))
    | (extract_lets +onlyGivenNames y) | (intro v w hv) | (intro v hv)

theorem State.patchBoundary_frame (s : State) (hE : Ev W K) (k_fresh : K .fresh) (k_lmp : K .lmp) (k_cal : K .cal)
    (h_s : Fr D W K s0 s) : Fr D W K s0 (State.patchBoundary s) := by
  unfold State.patchBoundary
  repeat' first
    | with_reducible assumption | (simp -zeta (disch := first | assumption | exact rfl) only [↓Fr.setLmpCal])
    | with_reducible apply Fr.ite | with_reducible apply State.useFree_frame | with_reducible apply State.raiseB_frame
    | (extract_lets +onlyGivenNames x; refine Fr.cut (D := D) (W := W) (K := K) (s0 := s0) (x := x) ?_ ?_; (on_goal 1 => dsimp -zeta only [x]); (on_goal 2 => intro hx; clear_value x))
    | (extract_lets +onlyGivenNames y) | split | (intro v w hv) | (intro v hv) | (clear_value y; split)

theorem State.targetBoundary_frame (s : State) (r_COL_PRIM_TARGET : ∀ i, W (COL_PRIM_TARGET i)) (k_cal : K .cal)
    (h_s : Fr D W K s0 s) : Fr D W K s0 (State.targetBoundary s) := by
  unfold State.targetBoundary
  repeat' first
    | with_reducible assumption | (simp -zeta (disch := first | assumption | exact rfl) only [↓Fr.setCal])
    | with_reducible apply Fr.ite | with_reducible apply State.putSat_frame
    | (with_reducible apply foldOver_frame; intro a t ht) | with_reducible apply r_COL_PRIM_TARGET
    | (extract_lets +onlyGivenNames x; refine Fr.cut (D := D) (W := W) (K := K) (s0 := s0) (x := x) ?_ ?_; (on_goal 1 => dsimp -zeta only [x]); (on_goal 2 => intro hx; clear_value x))
    | (extract_lets +onlyGivenNames y) | split | (intro v w hv) | (intro v hv) | (clear_value y; split)

theorem doTimebaseSession_frame (dt : Nat) (s : State) (hE : Ev W K) (r_CAL_SESSION : W CAL_SESSION)
    (r_CAL_SESS_STATUS : ∀ i, W (CAL_SESS_STATUS i)) (r_TIM_DPLL_STATUS : W TIM_DPLL_STATUS) (k_tim : K .tim) (k_cal : K .cal)
    (h_s : Fr D W K s0 s) : Fr D W K s0 (doTimebaseSession dt s) := by
  unfold doTimebaseSession
  repeat' first
    | with_reducible assumption | with_reducible apply Fr.ite | with_reducible apply State.tick_frame
    | with_reducible apply State.onReach_frame | with_reducible apply State.askSession_frame
    | with_reducible apply State.maskRefs_frame | with_reducible apply r_CAL_SESS_STATUS | split | (intro v w hv)
    | (intro v hv)

theorem State.endTime_frame (s : State) (meas : List Int) (hE : Ev W K) (r_CAL_SESS_4_RESULT : W CAL_SESS_4_RESULT)
    (r_CAL_SESS_STATUS : ∀ i, W (CAL_SESS_STATUS i)) (r_CAL_STORE_STATUS : W CAL_STORE_STATUS) (k_fresh : K .fresh)
    (k_tim : K .tim) (k_cal : K .cal) (h_s : Fr D W K s0 s) : Fr D W K s0 (State.endTime s meas) := by
  unfold State.endTime
  repeat' first
    | with_reducible assumption | (simp -zeta (disch := first | assumption | exact rfl) only [↓Fr.setCal])
    | with_reducible apply Fr.ite | with_reducible apply State.endSession_frame | with_reducible apply State.unmaskRefs_frame
    | with_reducible apply State.wrN_frame | with_reducible apply r_CAL_SESS_STATUS
    | (extract_lets +onlyGivenNames x; refine Fr.cut (D := D) (W := W) (K := K) (s0 := s0) (x := x) ?_ ?_; (on_goal 1 => dsimp -zeta only [x]); (on_goal 2 => intro hx; clear_value x))
    | (extract_lets +onlyGivenNames y) | split | (intro v w hv) | (intro v hv)

theorem doHbmMarginSession_frame (dt : Nat) (s : State) (r_CAL_SESSION : W CAL_SESSION)
    (r_CAL_SESS_STATUS : ∀ i, W (CAL_SESS_STATUS i)) (k_cal : K .cal) (h_s : Fr D W K s0 s)
    : Fr D W K s0 (doHbmMarginSession dt s) := by
  unfold doHbmMarginSession
  repeat' first
    | with_reducible assumption | with_reducible apply State.tick_frame | with_reducible apply State.onReach_frame
    | with_reducible apply State.askSession_frame | with_reducible apply r_CAL_SESS_STATUS | (intro v w hv) | (intro v hv)

theorem State.endMargin_frame (s : State) (meas : List Int) (hE : Ev W K) (r_CAL_RES_DATA : W CAL_RES_DATA)
    (r_CAL_SESS_5_RESULT : W CAL_SESS_5_RESULT) (r_CAL_SESS_STATUS : ∀ i, W (CAL_SESS_STATUS i))
    (r_CAL_STORE_STATUS : W CAL_STORE_STATUS) (k_fresh : K .fresh) (k_cal : K .cal) (h_s : Fr D W K s0 s)
    : Fr D W K s0 (State.endMargin s meas) := by
  unfold State.endMargin
  repeat' first
    | with_reducible assumption | (simp -zeta (disch := first | assumption | exact rfl) only [↓Fr.setCal])
    | with_reducible apply State.putSat_frame | with_reducible apply State.put_frame
    | with_reducible apply State.showRes_frame | with_reducible apply State.endSession_frame
    | with_reducible apply r_CAL_SESS_STATUS
    | (extract_lets +onlyGivenNames x; refine Fr.cut (D := D) (W := W) (K := K) (s0 := s0) (x := x) ?_ ?_; (on_goal 1 => dsimp -zeta only [x]); (on_goal 2 => intro hx; clear_value x))
    | (extract_lets +onlyGivenNames y) | (intro v w hv) | (intro v hv)

theorem doSessionEnd_frame (dt kind : Nat) (meas : List Int) (s : State) (hE : Ev W K) (r_CAL_CULLET : W CAL_CULLET)
    (r_CAL_RES_DATA : W CAL_RES_DATA) (r_CAL_SESS_2_RESULT : W CAL_SESS_2_RESULT) (r_CAL_SESS_3_RESULT : W CAL_SESS_3_RESULT)
    (r_CAL_SESS_4_RESULT : W CAL_SESS_4_RESULT) (r_CAL_SESS_5_RESULT : W CAL_SESS_5_RESULT)
    (r_CAL_SESS_STATUS : ∀ i, W (CAL_SESS_STATUS i)) (r_CAL_STORE_STATUS : W CAL_STORE_STATUS) (r_CMP_FORMING : W CMP_FORMING)
    (r_CMP_LYR_LIVE : ∀ i, W (CMP_LYR_LIVE i)) (r_CMP_OUT_STATUS : ∀ i, W (CMP_OUT_STATUS i))
    (r_COL_OUT_STATUS : ∀ i, W (COL_OUT_STATUS i)) (r_COL_PRIM_LOOP : ∀ i, W (COL_PRIM_LOOP i)) (r_COL_STATUS : W COL_STATUS)
    (r_LAN_LANE_EQ : ∀ i, W (LAN_LANE_EQ i)) (r_LAN_LANE_STATE : ∀ i, W (LAN_LANE_STATE i)) (r_LAN_STATUS : W LAN_STATUS)
    (r_LMP_LAMP_DATA : ∀ i, W (LMP_LAMP_DATA i)) (r_LMP_PS_CH_GAIN : ∀ i, W (LMP_PS_CH_GAIN i))
    (r_LMP_PS_CH_OFFSET : ∀ i, W (LMP_PS_CH_OFFSET i)) (r_PLN_OUT_STATUS : ∀ i, W (PLN_OUT_STATUS i)) (k_fresh : K .fresh)
    (k_tim : K .tim) (k_int : K .int) (k_cmp : K .cmp) (k_col : K .col) (k_lmp : K .lmp) (k_lan : K .lan) (k_cal : K .cal)
    (h_s : Fr D W K s0 s) : Fr D W K s0 (doSessionEnd dt kind meas s) := by
  unfold doSessionEnd
  repeat' first
    | with_reducible assumption | with_reducible apply Fr.ite | with_reducible apply State.tick_frame
    | with_reducible apply State.onLive_frame | with_reducible apply State.endSession_frame
    | with_reducible apply State.eyeUntrained_frame | with_reducible apply State.endSense_frame
    | with_reducible apply State.endColour_frame | with_reducible apply State.endTime_frame
    | with_reducible apply State.endMargin_frame | with_reducible apply r_CAL_SESS_STATUS
    | with_reducible apply r_CMP_LYR_LIVE | with_reducible apply r_CMP_OUT_STATUS | with_reducible apply r_COL_OUT_STATUS
    | with_reducible apply r_COL_PRIM_LOOP | with_reducible apply r_LAN_LANE_EQ | with_reducible apply r_LAN_LANE_STATE
    | with_reducible apply r_LMP_LAMP_DATA | with_reducible apply r_LMP_PS_CH_GAIN | with_reducible apply r_LMP_PS_CH_OFFSET
    | with_reducible apply r_PLN_OUT_STATUS
    | (extract_lets +onlyGivenNames x; refine Fr.cut (D := D) (W := W) (K := K) (s0 := s0) (x := x) ?_ ?_; (on_goal 1 => dsimp -zeta only [x]); (on_goal 2 => intro hx; clear_value x))
    | (extract_lets +onlyGivenNames y) | split | (intro v w hv) | (intro v hv) | (clear_value y; split)

theorem State.abortSession_frame (s : State) (k reason : Nat) (hE : Ev W K) (r_CAL_CULLET : W CAL_CULLET)
    (r_CAL_SESS_STATUS : W (CAL_SESS_STATUS k)) (r_CAL_STORE_STATUS : W CAL_STORE_STATUS) (r_CMP_FORMING : W CMP_FORMING)
    (r_CMP_LYR_LIVE : ∀ i, W (CMP_LYR_LIVE i)) (r_CMP_OUT_STATUS : ∀ i, W (CMP_OUT_STATUS i))
    (r_COL_OUT_STATUS : ∀ i, W (COL_OUT_STATUS i)) (r_COL_PRIM_LOOP : ∀ i, W (COL_PRIM_LOOP i)) (r_COL_STATUS : W COL_STATUS)
    (r_LAN_LANE_EQ : ∀ i, W (LAN_LANE_EQ i)) (r_LAN_LANE_STATE : ∀ i, W (LAN_LANE_STATE i)) (r_LAN_STATUS : W LAN_STATUS)
    (r_PLN_OUT_STATUS : ∀ i, W (PLN_OUT_STATUS i)) (k_fresh : K .fresh) (k_tim : K .tim) (k_int : K .int) (k_cmp : K .cmp)
    (k_col : K .col) (k_lan : K .lan) (k_cal : K .cal) (h_s : Fr D W K s0 s)
    : Fr D W K s0 (State.abortSession s k reason) := by
  unfold State.abortSession
  repeat' first
    | with_reducible assumption | (simp -zeta (disch := first | assumption | exact rfl) only [↓Fr.setCol])
    | with_reducible apply Fr.ite | with_reducible apply State.dropEye_frame | with_reducible apply State.endSession_frame
    | with_reducible apply State.loopRefresh_frame | with_reducible apply State.restorePicture_frame
    | with_reducible apply State.unmaskRefs_frame | with_reducible apply r_CMP_LYR_LIVE
    | with_reducible apply r_CMP_OUT_STATUS | with_reducible apply r_COL_OUT_STATUS | with_reducible apply r_COL_PRIM_LOOP
    | with_reducible apply r_LAN_LANE_EQ | with_reducible apply r_LAN_LANE_STATE | with_reducible apply r_PLN_OUT_STATUS
    | (extract_lets +onlyGivenNames x; refine Fr.cut (D := D) (W := W) (K := K) (s0 := s0) (x := x) ?_ ?_; (on_goal 1 => dsimp -zeta only [x]); (on_goal 2 => intro hx; clear_value x))
    | (extract_lets +onlyGivenNames y) | split

theorem doSessionAbort_frame (dt kind : Nat) (s : State) (hE : Ev W K) (r_CAL_CULLET : W CAL_CULLET)
    (r_CAL_SESSION : W CAL_SESSION) (r_CAL_SESS_STATUS : W (CAL_SESS_STATUS kind)) (r_CAL_STORE_STATUS : W CAL_STORE_STATUS)
    (r_CMP_FORMING : W CMP_FORMING) (r_CMP_LYR_LIVE : ∀ i, W (CMP_LYR_LIVE i)) (r_CMP_OUT_STATUS : ∀ i, W (CMP_OUT_STATUS i))
    (r_COL_OUT_STATUS : ∀ i, W (COL_OUT_STATUS i)) (r_COL_PRIM_LOOP : ∀ i, W (COL_PRIM_LOOP i)) (r_COL_STATUS : W COL_STATUS)
    (r_LAN_LANE_EQ : ∀ i, W (LAN_LANE_EQ i)) (r_LAN_LANE_STATE : ∀ i, W (LAN_LANE_STATE i)) (r_LAN_STATUS : W LAN_STATUS)
    (r_PLN_OUT_STATUS : ∀ i, W (PLN_OUT_STATUS i)) (k_fresh : K .fresh) (k_tim : K .tim) (k_int : K .int) (k_cmp : K .cmp)
    (k_col : K .col) (k_lan : K .lan) (k_cal : K .cal) (h_s : Fr D W K s0 s) : Fr D W K s0 (doSessionAbort dt kind s) := by
  unfold doSessionAbort
  repeat' first
    | with_reducible assumption | with_reducible apply State.tick_frame | with_reducible apply State.onReach_frame
    | with_reducible apply State.put_frame | with_reducible apply State.abortSession_frame
    | with_reducible apply r_CMP_LYR_LIVE | with_reducible apply r_CMP_OUT_STATUS | with_reducible apply r_COL_OUT_STATUS
    | with_reducible apply r_COL_PRIM_LOOP | with_reducible apply r_LAN_LANE_EQ | with_reducible apply r_LAN_LANE_STATE
    | with_reducible apply r_PLN_OUT_STATUS | (intro v w hv) | (intro v hv)

theorem State.abortSessions_frame (s : State) (hE : Ev W K) (r_CAL_CULLET : W CAL_CULLET)
    (r_CAL_SESS_STATUS : ∀ i, W (CAL_SESS_STATUS i)) (r_CAL_STORE_STATUS : W CAL_STORE_STATUS) (r_CMP_FORMING : W CMP_FORMING)
    (r_CMP_LYR_LIVE : ∀ i, W (CMP_LYR_LIVE i)) (r_CMP_OUT_STATUS : ∀ i, W (CMP_OUT_STATUS i))
    (r_COL_OUT_STATUS : ∀ i, W (COL_OUT_STATUS i)) (r_COL_PRIM_LOOP : ∀ i, W (COL_PRIM_LOOP i)) (r_COL_STATUS : W COL_STATUS)
    (r_LAN_LANE_EQ : ∀ i, W (LAN_LANE_EQ i)) (r_LAN_LANE_STATE : ∀ i, W (LAN_LANE_STATE i)) (r_LAN_STATUS : W LAN_STATUS)
    (r_PLN_OUT_STATUS : ∀ i, W (PLN_OUT_STATUS i)) (k_fresh : K .fresh) (k_tim : K .tim) (k_int : K .int) (k_cmp : K .cmp)
    (k_col : K .col) (k_lan : K .lan) (k_cal : K .cal) (h_s : Fr D W K s0 s) : Fr D W K s0 (State.abortSessions s) := by
  unfold State.abortSessions
  repeat' first
    | with_reducible assumption | with_reducible apply State.abortSession_frame
    | (with_reducible apply foldOver_frame; intro a t ht) | with_reducible apply r_CAL_SESS_STATUS
    | with_reducible apply r_CMP_LYR_LIVE | with_reducible apply r_CMP_OUT_STATUS | with_reducible apply r_COL_OUT_STATUS
    | with_reducible apply r_COL_PRIM_LOOP | with_reducible apply r_LAN_LANE_EQ | with_reducible apply r_LAN_LANE_STATE
    | with_reducible apply r_PLN_OUT_STATUS | (intro v w hv) | (intro v hv)

theorem State.showCullet_frame (s : State) (r_CAL_CULLET : W CAL_CULLET) (r_SEQ_TILES : W SEQ_TILES) (h_s : Fr D W K s0 s)
    : Fr D W K s0 (State.showCullet s) := by
  unfold State.showCullet
  repeat' first
    | with_reducible assumption | with_reducible apply State.showTiles_frame | with_reducible apply State.putSat_frame

theorem State.fenceTileNow_frame (s : State) (k : Nat) (hE : Ev W K) (r_CAL_CULLET : W CAL_CULLET)
    (r_CAL_FENCED : W CAL_FENCED) (r_CAL_FENCE_DATA_0 : W CAL_FENCE_DATA_0) (r_CAL_FENCE_DATA_1 : W CAL_FENCE_DATA_1)
    (r_CAL_FENCE_DATA_2 : W CAL_FENCE_DATA_2) (r_SEQ_TILES : W SEQ_TILES) (k_seq : K .seq) (k_cal : K .cal)
    (h_s : Fr D W K s0 s) : Fr D W K s0 (State.fenceTileNow s k) := by
  unfold State.fenceTileNow
  repeat' first
    | with_reducible assumption | with_reducible apply State.setTile_frame | with_reducible apply State.fenceUnit_frame
    | with_reducible apply State.showCullet_frame

theorem State.endSelfTest_frame (s : State) (ms : Nat) (failed : List UnitId) (hE : Ev W K) (r_CAL_BIST : W CAL_BIST)
    (r_CAL_CULLET : W CAL_CULLET) (r_CAL_FENCED : W CAL_FENCED) (r_CAL_FENCE_DATA_0 : W CAL_FENCE_DATA_0)
    (r_CAL_FENCE_DATA_1 : W CAL_FENCE_DATA_1) (r_CAL_FENCE_DATA_2 : W CAL_FENCE_DATA_2)
    (r_GLB_BOOT_STATUS : W GLB_BOOT_STATUS) (r_LAN_LANE_STATE : ∀ i, W (LAN_LANE_STATE i)) (r_LAN_STATUS : W LAN_STATUS)
    (r_PLN_STATUS : W PLN_STATUS) (r_SEQ_TILES : W SEQ_TILES) (r_THM_DOM_ON : ∀ i, W (THM_DOM_ON i)) (k_fresh : K .fresh)
    (k_pln : K .pln) (k_seq : K .seq) (k_lan : K .lan) (k_cal : K .cal) (h_s : Fr D W K s0 s)
    : Fr D W K s0 (State.endSelfTest s ms failed) := by
  unfold State.endSelfTest
  repeat' first
    | with_reducible assumption | (with_reducible apply foldOver_frame; intro a t ht)
    | with_reducible apply State.leaveService_frame | with_reducible apply State.fenceUnit_frame
    | with_reducible apply State.putB_frame | with_reducible apply State.putSat_frame
    | with_reducible apply State.put_frame | with_reducible apply State.useFree_frame
    | with_reducible apply State.showSpareRows_frame | with_reducible apply State.placeTiles_frame
    | with_reducible apply State.showCullet_frame | with_reducible apply r_LAN_LANE_STATE
    | with_reducible apply r_THM_DOM_ON
    | (extract_lets +onlyGivenNames x; refine Fr.cut (D := D) (W := W) (K := K) (s0 := s0) (x := x) ?_ ?_; (on_goal 1 => dsimp -zeta only [x]); (on_goal 2 => intro hx; clear_value x))
    | (extract_lets +onlyGivenNames y) | split | (clear_value y; split) | (intro v w hv) | (intro v hv)

theorem State.reportFail_frame (s : State) (f : LoadFail) (hE : Ev W K) (r_CFG_FAIL_INFO : W CFG_FAIL_INFO)
    (r_CFG_STATUS : W CFG_STATUS) (h_s : Fr D W K s0 s) : Fr D W K s0 (State.reportFail s f) := by
  unfold State.reportFail
  repeat' first
    | with_reducible assumption | with_reducible apply State.put_frame | with_reducible apply State.putB_frame
    | with_reducible apply State.raise_frame
    | (extract_lets +onlyGivenNames x; refine Fr.cut (D := D) (W := W) (K := K) (s0 := s0) (x := x) ?_ ?_; (on_goal 1 => dsimp -zeta only [x]); (on_goal 2 => intro hx; clear_value x))
    | (extract_lets +onlyGivenNames y)

theorem State.enterSafeIdle_frame (s : State) (hE : Ev W K) (r_CFG_LOAD_CTRL : W CFG_LOAD_CTRL)
    (r_CFG_STATUS : W CFG_STATUS) (r_HIF_STATUS : W HIF_STATUS) (r_LMP_HB : W LMP_HB) (r_LMP_SAFETY : W LMP_SAFETY)
    (r_TIM_DPLL_STATUS : W TIM_DPLL_STATUS) (r_TIM_REF_STATUS : W TIM_REF_STATUS) (k_out : K .out) (k_glb : K .glb)
    (k_tim : K .tim) (k_cfg : K .cfg) (k_scn : K .scn) (k_lmp : K .lmp) (h_s : Fr D W K s0 s)
    : Fr D W K s0 (State.enterSafeIdle s) := by
  unfold State.enterSafeIdle
  repeat' first
    | with_reducible assumption | (simp -zeta (disch := first | assumption | exact rfl) only [↓Fr.setCfg, ↓Fr.setGlb])
    | with_reducible apply Fr.ite | with_reducible apply State.put_frame | with_reducible apply State.selectRef_frame
    | with_reducible apply State.enterDpll_frame | with_reducible apply State.hbUpdate_frame
    | (extract_lets +onlyGivenNames x; refine Fr.cut (D := D) (W := W) (K := K) (s0 := s0) (x := x) ?_ ?_; (on_goal 1 => dsimp -zeta only [x]); (on_goal 2 => intro hx; clear_value x))
    | (extract_lets +onlyGivenNames y) | split | (clear_value y; split) | (intro v w hv) | (intro v hv)

theorem State.dropReload_frame (s : State) (f : LoadFail) (hE : Ev W K) (r_CFG_FAIL_INFO : W CFG_FAIL_INFO)
    (r_CFG_LOAD_CTRL : W CFG_LOAD_CTRL) (r_CFG_STATUS : W CFG_STATUS) (k_cfg : K .cfg) (k_seq : K .seq)
    (h_s : Fr D W K s0 s) : Fr D W K s0 (State.dropReload s f) := by
  unfold State.dropReload
  repeat' first
    | with_reducible assumption | (simp -zeta (disch := first | assumption | exact rfl) only [↓Fr.setCfgSeq])
    | with_reducible apply State.reportFail_frame | with_reducible apply State.put_frame
    | (extract_lets +onlyGivenNames x; refine Fr.cut (D := D) (W := W) (K := K) (s0 := s0) (x := x) ?_ ?_; (on_goal 1 => dsimp -zeta only [x]); (on_goal 2 => intro hx; clear_value x))
    | (extract_lets +onlyGivenNames y) | split | (clear_value y; split) | (intro v w hv) | (intro v hv)

theorem State.loadFailed_frame (s : State) (f : LoadFail) (hE : Ev W K) (r_CFG_FAIL_INFO : W CFG_FAIL_INFO)
    (r_CFG_LOAD_CTRL : W CFG_LOAD_CTRL) (r_CFG_STATUS : W CFG_STATUS) (r_HIF_STATUS : W HIF_STATUS) (r_LMP_HB : W LMP_HB)
    (r_LMP_SAFETY : W LMP_SAFETY) (r_TIM_DPLL_STATUS : W TIM_DPLL_STATUS) (r_TIM_REF_STATUS : W TIM_REF_STATUS)
    (k_out : K .out) (k_glb : K .glb) (k_tim : K .tim) (k_cfg : K .cfg) (k_seq : K .seq) (k_scn : K .scn) (k_lmp : K .lmp)
    (h_s : Fr D W K s0 s) : Fr D W K s0 (State.loadFailed s f) := by
  unfold State.loadFailed
  repeat' first
    | with_reducible assumption | (simp -zeta (disch := first | assumption | exact rfl) only [↓Fr.setCfg])
    | with_reducible apply Fr.ite | with_reducible apply State.reportFail_frame | with_reducible apply State.put_frame
    | with_reducible apply State.enterSafeIdle_frame | with_reducible apply State.dropReload_frame
    | (extract_lets +onlyGivenNames x; refine Fr.cut (D := D) (W := W) (K := K) (s0 := s0) (x := x) ?_ ?_; (on_goal 1 => dsimp -zeta only [x]); (on_goal 2 => intro hx; clear_value x))
    | (extract_lets +onlyGivenNames y) | split | (clear_value y; split)

theorem State.takeReload_frame (s : State) (b : List Byte) (r_CFG_STATUS : W CFG_STATUS)
    (r_SEQ_SCHED_STATUS : W SEQ_SCHED_STATUS) (k_cfg : K .cfg) (k_seq : K .seq) (h_s : Fr D W K s0 s)
    : Fr D W K s0 (State.takeReload s b) := by
  unfold State.takeReload
  repeat' first
    | with_reducible assumption | (simp -zeta (disch := first | assumption | exact rfl) only [↓Fr.setCfg])
    | with_reducible apply State.askJob_frame | with_reducible apply State.put_frame
    | (with_reducible apply foldOver_frame; intro a t ht)
    | (extract_lets +onlyGivenNames x; refine Fr.cut (D := D) (W := W) (K := K) (s0 := s0) (x := x) ?_ ?_; (on_goal 1 => dsimp -zeta only [x]); (on_goal 2 => intro hx; clear_value x))
    | (extract_lets +onlyGivenNames y) | (intro v w hv) | (intro v hv)

theorem State.applyPower_frame (s : State) (r_THM_CTRL : W THM_CTRL) (r_THM_DOM_HOLD : ∀ i, W (THM_DOM_HOLD i))
    (h_s : Fr D W K s0 s) : Fr D W K s0 (State.applyPower s) := by
  unfold State.applyPower
  repeat' first
    | with_reducible assumption | with_reducible apply State.putB_frame | with_reducible apply State.wrN_frame
    | (with_reducible apply foldOver_frame; intro a t ht) | with_reducible apply r_THM_DOM_HOLD
    | (extract_lets +onlyGivenNames x; refine Fr.cut (D := D) (W := W) (K := K) (s0 := s0) (x := x) ?_ ?_; (on_goal 1 => dsimp -zeta only [x]); (on_goal 2 => intro hx; clear_value x))
    | (extract_lets +onlyGivenNames y) | (intro v w hv) | (intro v hv)

theorem State.dropHeldSpares_frame (s : State) (r_LAN_LANE_CFG : ∀ i, W (LAN_LANE_CFG i)) (h_s : Fr D W K s0 s)
    : Fr D W K s0 (State.dropHeldSpares s) := by
  unfold State.dropHeldSpares
  repeat' first
    | with_reducible assumption | with_reducible apply Fr.ite | with_reducible apply State.put_frame
    | (with_reducible apply foldOver_frame; intro a t ht) | with_reducible apply r_LAN_LANE_CFG | split | (intro v w hv)
    | (intro v hv)

theorem State.mirrorDom_frame (s : State) (d : Nat) (on : Bool) (r_CMP_STATUS : W CMP_STATUS) (h_s : Fr D W K s0 s)
    : Fr D W K s0 (State.mirrorDom s d on) := by
  unfold State.mirrorDom
  repeat' first
    | with_reducible assumption | with_reducible apply Fr.ite | with_reducible apply State.put_frame | split

theorem State.powerImage_frame (s : State) (r_CMP_STATUS : W CMP_STATUS) (r_THM_DOM_ON : ∀ i, W (THM_DOM_ON i))
    (h_s : Fr D W K s0 s) : Fr D W K s0 (State.powerImage s) := by
  unfold State.powerImage
  repeat' first
    | with_reducible assumption | with_reducible apply Fr.ite | with_reducible apply State.setDomOn_frame
    | with_reducible apply State.mirrorDom_frame | (with_reducible apply foldOver_frame; intro a t ht)
    | with_reducible apply r_THM_DOM_ON
    | (extract_lets +onlyGivenNames x; refine Fr.cut (D := D) (W := W) (K := K) (s0 := s0) (x := x) ?_ ?_; (on_goal 1 => dsimp -zeta only [x]); (on_goal 2 => intro hx; clear_value x))
    | (extract_lets +onlyGivenNames y) | split | (intro v w hv) | (intro v hv)

theorem State.startParts_frame (s : State) (hE : Ev W K) (r_APT_PORT_STATE : ∀ i, W (APT_PORT_STATE i))
    (r_APT_STATUS : W APT_STATUS) (r_CAL_CULLET : W CAL_CULLET) (r_LAN_LANE_EQ : ∀ i, W (LAN_LANE_EQ i))
    (r_LAN_LANE_STATE : ∀ i, W (LAN_LANE_STATE i)) (r_LAN_STATUS : W LAN_STATUS)
    (r_LMP_CHAIN_STATUS : ∀ i, W (LMP_CHAIN_STATUS i)) (r_LMP_HB : W LMP_HB) (r_LMP_SAFETY : W LMP_SAFETY)
    (r_LXS_PORT_STATE : ∀ i, W (LXS_PORT_STATE i)) (r_LXS_STATUS : W LXS_STATUS) (r_SCN_ENG_STATE : ∀ i, W (SCN_ENG_STATE i))
    (r_SCN_STATUS : W SCN_STATUS) (r_THM_DOM_ON : ∀ i, W (THM_DOM_ON i)) (k_out : K .out) (k_apt : K .apt) (k_scn : K .scn)
    (k_lmp : K .lmp) (k_lan : K .lan) (k_lxs : K .lxs) (k_mem : K .mem)
    (h_s : Fr D W K s0 s) : Fr D W K s0 (State.startParts s) := by
  unfold State.startParts
  repeat' first
    | with_reducible assumption | with_reducible apply State.startPorts_frame | with_reducible apply State.startLanes_frame
    | with_reducible apply State.startChains_frame | with_reducible apply State.startEngine_frame
    | with_reducible apply State.startLxs_frame | (with_reducible apply foldOver_frame; intro a t ht)
    | with_reducible apply r_APT_PORT_STATE | with_reducible apply r_LAN_LANE_EQ | with_reducible apply r_LAN_LANE_STATE
    | with_reducible apply r_LMP_CHAIN_STATUS | with_reducible apply r_LXS_PORT_STATE | with_reducible apply r_SCN_ENG_STATE
    | with_reducible apply r_THM_DOM_ON
    | (extract_lets +onlyGivenNames x; refine Fr.cut (D := D) (W := W) (K := K) (s0 := s0) (x := x) ?_ ?_; (on_goal 1 => dsimp -zeta only [x]); (on_goal 2 => intro hx; clear_value x))
    | (extract_lets +onlyGivenNames y) | (intro v w hv) | (intro v hv)

theorem State.applyImage_frame (s : State) (b : List Byte) (hE : Ev W K) (r_APT_PORT_CFG : ∀ i, W (APT_PORT_CFG i))
    (r_APT_PORT_STATE : ∀ i, W (APT_PORT_STATE i)) (r_APT_STATUS : W APT_STATUS) (r_CAL_CULLET : W CAL_CULLET)
    (r_CFG_IMAGE_BUILD : W CFG_IMAGE_BUILD) (r_CFG_IMAGE_INFO : W CFG_IMAGE_INFO) (r_CFG_LOAD_CTRL : W CFG_LOAD_CTRL)
    (r_CFG_STATUS : W CFG_STATUS) (r_CFG_TOPO_HASH : ∀ i, W (CFG_TOPO_HASH i))
    (r_CMP_LYR_OWNER : ∀ i, W (CMP_LYR_OWNER i)) (r_CMP_OUT_CUT : ∀ i, W (CMP_OUT_CUT i))
    (r_CMP_OUT_INFO : ∀ i, W (CMP_OUT_INFO i)) (r_CMP_OUT_STATUS : ∀ i, W (CMP_OUT_STATUS i))
    (r_CMP_STATUS : W CMP_STATUS) (r_COL_OUT_PRIMS : ∀ i, W (COL_OUT_PRIMS i)) (r_COL_WORK : ∀ i, W (COL_WORK i))
    (r_LAN_LANE_CFG : ∀ i, W (LAN_LANE_CFG i)) (r_LAN_LANE_EQ : ∀ i, W (LAN_LANE_EQ i))
    (r_LAN_LANE_STATE : ∀ i, W (LAN_LANE_STATE i)) (r_LAN_STATUS : W LAN_STATUS)
    (r_LMP_CHAIN_CFG : ∀ i, W (LMP_CHAIN_CFG i)) (r_LMP_CHAIN_CFG2 : ∀ i, W (LMP_CHAIN_CFG2 i))
    (r_LMP_CHAIN_STATUS : ∀ i, W (LMP_CHAIN_STATUS i)) (r_LMP_GROUP_CFG : ∀ i, W (LMP_GROUP_CFG i)) (r_LMP_HB : W LMP_HB)
    (r_LMP_PKG_LIMIT : W LMP_PKG_LIMIT) (r_LMP_PS_CH_CFG : ∀ i, W (LMP_PS_CH_CFG i))
    (r_LMP_RAIL_CEILING : ∀ i, W (LMP_RAIL_CEILING i)) (r_LMP_RAIL_LIMIT : ∀ i, W (LMP_RAIL_LIMIT i))
    (r_LMP_SAFETY : W LMP_SAFETY) (r_LXS_CTRL : W LXS_CTRL) (r_LXS_PORT_CFG : ∀ i, W (LXS_PORT_CFG i))
    (r_LXS_PORT_STATE : ∀ i, W (LXS_PORT_STATE i)) (r_LXS_STATUS : W LXS_STATUS) (r_MEM_GROUP : ∀ i, W (MEM_GROUP i))
    (r_MEM_MAP_CFG : W MEM_MAP_CFG) (r_PLN_OUT_CFG : ∀ i, W (PLN_OUT_CFG i)) (r_PLN_OUT_SEGS : ∀ i, W (PLN_OUT_SEGS i))
    (r_PLN_OUT_SIZE : ∀ i, W (PLN_OUT_SIZE i)) (r_PLN_STATUS : W PLN_STATUS) (r_SCN_ENG_RANGE : ∀ i, W (SCN_ENG_RANGE i))
    (r_SCN_ENG_STATE : ∀ i, W (SCN_ENG_STATE i)) (r_SCN_STATUS : W SCN_STATUS)
    (r_SEQ_OUT_COUNTS : ∀ i, W (SEQ_OUT_COUNTS i)) (r_SEQ_OUT_EFF : ∀ i, W (SEQ_OUT_EFF i))
    (r_SEQ_OUT_LIGHT : ∀ i, W (SEQ_OUT_LIGHT i)) (r_SEQ_OUT_MECH : ∀ i, W (SEQ_OUT_MECH i))
    (r_SEQ_OUT_SCHED : ∀ i, W (SEQ_OUT_SCHED i)) (r_SEQ_OUT_SPAN : ∀ i, W (SEQ_OUT_SPAN i)) (r_SEQ_TILES : W SEQ_TILES)
    (r_THM_CTRL : W THM_CTRL) (r_THM_DOM_HOLD : ∀ i, W (THM_DOM_HOLD i)) (r_THM_DOM_ON : ∀ i, W (THM_DOM_ON i))
    (k_out : K .out) (k_glb : K .glb) (k_tim : K .tim) (k_cfg : K .cfg) (k_seq : K .seq) (k_apt : K .apt) (k_scn : K .scn)
    (k_lmp : K .lmp) (k_lan : K .lan) (k_lxs : K .lxs) (k_mem : K .mem)
    (h_s : Fr D W K s0 s) : Fr D W K s0 (State.applyImage s b) := by
  unfold State.applyImage
  repeat' first
    | with_reducible assumption | (simp -zeta (disch := first | assumption | exact rfl) only [↓Fr.setCfg, ↓Fr.setGlbTim])
    | with_reducible apply Fr.ite | (with_reducible apply foldOver_frame; intro a t ht)
    | with_reducible apply State.put_frame | with_reducible apply State.wrN_frame
    | with_reducible apply State.applyPower_frame | with_reducible apply State.applyLaneMap_frame
    | with_reducible apply State.dropHeldSpares_frame | with_reducible apply State.applyPortCfg_frame
    | with_reducible apply State.applyCut_frame | with_reducible apply State.applyMech_frame
    | with_reducible apply State.applyMemMap_frame | with_reducible apply State.applyColBase_frame
    | with_reducible apply State.applyLmpMap_frame | with_reducible apply State.applyPlaneMap_frame
    | with_reducible apply State.applyScanCfg_frame | with_reducible apply State.applyLxsCfg_frame
    | with_reducible apply State.placeTiles_frame | with_reducible apply State.showCullet_frame
    | with_reducible apply State.powerImage_frame | with_reducible apply State.startParts_frame
    | with_reducible apply State.checkLamps_frame | with_reducible apply State.showLan_frame
    | with_reducible apply r_APT_PORT_CFG | with_reducible apply r_APT_PORT_STATE | with_reducible apply r_CFG_TOPO_HASH
    | with_reducible apply r_CMP_LYR_OWNER | with_reducible apply r_CMP_OUT_CUT | with_reducible apply r_CMP_OUT_INFO
    | with_reducible apply r_CMP_OUT_STATUS | with_reducible apply r_COL_OUT_PRIMS | with_reducible apply r_COL_WORK
    | with_reducible apply r_LAN_LANE_CFG | with_reducible apply r_LAN_LANE_EQ | with_reducible apply r_LAN_LANE_STATE
    | with_reducible apply r_LMP_CHAIN_CFG | with_reducible apply r_LMP_CHAIN_CFG2
    | with_reducible apply r_LMP_CHAIN_STATUS | with_reducible apply r_LMP_GROUP_CFG
    | with_reducible apply r_LMP_PS_CH_CFG | with_reducible apply r_LMP_RAIL_CEILING
    | with_reducible apply r_LMP_RAIL_LIMIT | with_reducible apply r_LXS_PORT_CFG | with_reducible apply r_LXS_PORT_STATE
    | with_reducible apply r_MEM_GROUP | with_reducible apply r_PLN_OUT_CFG | with_reducible apply r_PLN_OUT_SEGS
    | with_reducible apply r_PLN_OUT_SIZE | with_reducible apply r_SCN_ENG_RANGE | with_reducible apply r_SCN_ENG_STATE
    | with_reducible apply r_SEQ_OUT_COUNTS | with_reducible apply r_SEQ_OUT_EFF | with_reducible apply r_SEQ_OUT_LIGHT
    | with_reducible apply r_SEQ_OUT_MECH | with_reducible apply r_SEQ_OUT_SCHED | with_reducible apply r_SEQ_OUT_SPAN
    | with_reducible apply r_THM_DOM_HOLD | with_reducible apply r_THM_DOM_ON
    | (extract_lets +onlyGivenNames x; refine Fr.cut (D := D) (W := W) (K := K) (s0 := s0) (x := x) ?_ ?_; (on_goal 1 => dsimp -zeta only [x]); (on_goal 2 => intro hx; clear_value x))
    | (extract_lets +onlyGivenNames y) | split | (clear_value y; split) | (intro v w hv) | (intro v hv)

theorem State.checkImage_frame (s : State) (bytes : List Byte) (hE : Ev W K) (r_APT_PORT_CFG : ∀ i, W (APT_PORT_CFG i))
    (r_APT_PORT_STATE : ∀ i, W (APT_PORT_STATE i)) (r_APT_STATUS : W APT_STATUS) (r_CAL_CULLET : W CAL_CULLET)
    (r_CFG_FAIL_INFO : W CFG_FAIL_INFO) (r_CFG_IMAGE_BUILD : W CFG_IMAGE_BUILD) (r_CFG_IMAGE_INFO : W CFG_IMAGE_INFO)
    (r_CFG_LOAD_CTRL : W CFG_LOAD_CTRL) (r_CFG_STATUS : W CFG_STATUS) (r_CFG_TOPO_HASH : ∀ i, W (CFG_TOPO_HASH i))
    (r_CMP_LYR_OWNER : ∀ i, W (CMP_LYR_OWNER i)) (r_CMP_OUT_CUT : ∀ i, W (CMP_OUT_CUT i))
    (r_CMP_OUT_INFO : ∀ i, W (CMP_OUT_INFO i)) (r_CMP_OUT_STATUS : ∀ i, W (CMP_OUT_STATUS i))
    (r_CMP_STATUS : W CMP_STATUS) (r_COL_OUT_PRIMS : ∀ i, W (COL_OUT_PRIMS i)) (r_COL_WORK : ∀ i, W (COL_WORK i))
    (r_HIF_STATUS : W HIF_STATUS) (r_LAN_LANE_CFG : ∀ i, W (LAN_LANE_CFG i)) (r_LAN_LANE_EQ : ∀ i, W (LAN_LANE_EQ i))
    (r_LAN_LANE_STATE : ∀ i, W (LAN_LANE_STATE i)) (r_LAN_STATUS : W LAN_STATUS)
    (r_LMP_CHAIN_CFG : ∀ i, W (LMP_CHAIN_CFG i)) (r_LMP_CHAIN_CFG2 : ∀ i, W (LMP_CHAIN_CFG2 i))
    (r_LMP_CHAIN_STATUS : ∀ i, W (LMP_CHAIN_STATUS i)) (r_LMP_GROUP_CFG : ∀ i, W (LMP_GROUP_CFG i)) (r_LMP_HB : W LMP_HB)
    (r_LMP_PKG_LIMIT : W LMP_PKG_LIMIT) (r_LMP_PS_CH_CFG : ∀ i, W (LMP_PS_CH_CFG i))
    (r_LMP_RAIL_CEILING : ∀ i, W (LMP_RAIL_CEILING i)) (r_LMP_RAIL_LIMIT : ∀ i, W (LMP_RAIL_LIMIT i))
    (r_LMP_SAFETY : W LMP_SAFETY) (r_LXS_CTRL : W LXS_CTRL) (r_LXS_PORT_CFG : ∀ i, W (LXS_PORT_CFG i))
    (r_LXS_PORT_STATE : ∀ i, W (LXS_PORT_STATE i)) (r_LXS_STATUS : W LXS_STATUS) (r_MEM_GROUP : ∀ i, W (MEM_GROUP i))
    (r_MEM_MAP_CFG : W MEM_MAP_CFG) (r_PLN_OUT_CFG : ∀ i, W (PLN_OUT_CFG i)) (r_PLN_OUT_SEGS : ∀ i, W (PLN_OUT_SEGS i))
    (r_PLN_OUT_SIZE : ∀ i, W (PLN_OUT_SIZE i)) (r_PLN_STATUS : W PLN_STATUS) (r_SCN_ENG_RANGE : ∀ i, W (SCN_ENG_RANGE i))
    (r_SCN_ENG_STATE : ∀ i, W (SCN_ENG_STATE i)) (r_SCN_STATUS : W SCN_STATUS)
    (r_SEQ_OUT_COUNTS : ∀ i, W (SEQ_OUT_COUNTS i)) (r_SEQ_OUT_EFF : ∀ i, W (SEQ_OUT_EFF i))
    (r_SEQ_OUT_LIGHT : ∀ i, W (SEQ_OUT_LIGHT i)) (r_SEQ_OUT_MECH : ∀ i, W (SEQ_OUT_MECH i))
    (r_SEQ_OUT_SCHED : ∀ i, W (SEQ_OUT_SCHED i)) (r_SEQ_OUT_SPAN : ∀ i, W (SEQ_OUT_SPAN i))
    (r_SEQ_SCHED_STATUS : W SEQ_SCHED_STATUS) (r_SEQ_TILES : W SEQ_TILES) (r_THM_CTRL : W THM_CTRL)
    (r_THM_DOM_HOLD : ∀ i, W (THM_DOM_HOLD i)) (r_THM_DOM_ON : ∀ i, W (THM_DOM_ON i))
    (r_TIM_DPLL_STATUS : W TIM_DPLL_STATUS) (r_TIM_REF_STATUS : W TIM_REF_STATUS) (k_out : K .out) (k_glb : K .glb)
    (k_tim : K .tim) (k_cfg : K .cfg) (k_mem : K .mem) (k_seq : K .seq) (k_apt : K .apt) (k_scn : K .scn) (k_lmp : K .lmp)
    (k_lan : K .lan) (k_lxs : K .lxs) (h_s : Fr D W K s0 s) : Fr D W K s0 (State.checkImage s bytes) := by
  unfold State.checkImage
  repeat' first
    | with_reducible assumption | (simp -zeta (disch := first | assumption | exact rfl) only [↓Fr.setCfg])
    | with_reducible apply Fr.ite | with_reducible apply State.loadFailed_frame
    | with_reducible apply State.takeReload_frame | with_reducible apply State.applyImage_frame
    | with_reducible apply r_APT_PORT_CFG | with_reducible apply r_APT_PORT_STATE | with_reducible apply r_CFG_TOPO_HASH
    | with_reducible apply r_CMP_LYR_OWNER | with_reducible apply r_CMP_OUT_CUT | with_reducible apply r_CMP_OUT_INFO
    | with_reducible apply r_CMP_OUT_STATUS | with_reducible apply r_COL_OUT_PRIMS | with_reducible apply r_COL_WORK
    | with_reducible apply r_LAN_LANE_CFG | with_reducible apply r_LAN_LANE_EQ | with_reducible apply r_LAN_LANE_STATE
    | with_reducible apply r_LMP_CHAIN_CFG | with_reducible apply r_LMP_CHAIN_CFG2
    | with_reducible apply r_LMP_CHAIN_STATUS | with_reducible apply r_LMP_GROUP_CFG
    | with_reducible apply r_LMP_PS_CH_CFG | with_reducible apply r_LMP_RAIL_CEILING
    | with_reducible apply r_LMP_RAIL_LIMIT | with_reducible apply r_LXS_PORT_CFG | with_reducible apply r_LXS_PORT_STATE
    | with_reducible apply r_MEM_GROUP | with_reducible apply r_PLN_OUT_CFG | with_reducible apply r_PLN_OUT_SEGS
    | with_reducible apply r_PLN_OUT_SIZE | with_reducible apply r_SCN_ENG_RANGE | with_reducible apply r_SCN_ENG_STATE
    | with_reducible apply r_SEQ_OUT_COUNTS | with_reducible apply r_SEQ_OUT_EFF | with_reducible apply r_SEQ_OUT_LIGHT
    | with_reducible apply r_SEQ_OUT_MECH | with_reducible apply r_SEQ_OUT_SCHED | with_reducible apply r_SEQ_OUT_SPAN
    | with_reducible apply r_THM_DOM_HOLD | with_reducible apply r_THM_DOM_ON
    | (extract_lets +onlyGivenNames x; refine Fr.cut (D := D) (W := W) (K := K) (s0 := s0) (x := x) ?_ ?_; (on_goal 1 => dsimp -zeta only [x]); (on_goal 2 => intro hx; clear_value x))
    | (extract_lets +onlyGivenNames y) | split | (clear_value y; split) | (intro v w hv) | (intro v hv)

theorem doSelfTestDone_frame (dt ms : Nat) (failed : List UnitId) (s : State) (hE : Ev W K)
    (r_APT_PORT_CFG : ∀ i, W (APT_PORT_CFG i)) (r_APT_PORT_STATE : ∀ i, W (APT_PORT_STATE i))
    (r_APT_STATUS : W APT_STATUS) (r_CAL_BIST : W CAL_BIST) (r_CAL_CULLET : W CAL_CULLET) (r_CAL_FENCED : W CAL_FENCED)
    (r_CAL_FENCE_DATA_0 : W CAL_FENCE_DATA_0) (r_CAL_FENCE_DATA_1 : W CAL_FENCE_DATA_1)
    (r_CAL_FENCE_DATA_2 : W CAL_FENCE_DATA_2) (r_CFG_FAIL_INFO : W CFG_FAIL_INFO) (r_CFG_IMAGE_BUILD : W CFG_IMAGE_BUILD)
    (r_CFG_IMAGE_INFO : W CFG_IMAGE_INFO) (r_CFG_LOAD_CTRL : W CFG_LOAD_CTRL) (r_CFG_STATUS : W CFG_STATUS)
    (r_CFG_TOPO_HASH : ∀ i, W (CFG_TOPO_HASH i)) (r_CMP_LYR_OWNER : ∀ i, W (CMP_LYR_OWNER i))
    (r_CMP_OUT_CUT : ∀ i, W (CMP_OUT_CUT i)) (r_CMP_OUT_INFO : ∀ i, W (CMP_OUT_INFO i))
    (r_CMP_OUT_STATUS : ∀ i, W (CMP_OUT_STATUS i)) (r_CMP_STATUS : W CMP_STATUS)
    (r_COL_OUT_PRIMS : ∀ i, W (COL_OUT_PRIMS i)) (r_COL_WORK : ∀ i, W (COL_WORK i))
    (r_GLB_BOOT_STATUS : W GLB_BOOT_STATUS) (r_HIF_STATUS : W HIF_STATUS) (r_LAN_LANE_CFG : ∀ i, W (LAN_LANE_CFG i))
    (r_LAN_LANE_EQ : ∀ i, W (LAN_LANE_EQ i)) (r_LAN_LANE_STATE : ∀ i, W (LAN_LANE_STATE i)) (r_LAN_STATUS : W LAN_STATUS)
    (r_LMP_CHAIN_CFG : ∀ i, W (LMP_CHAIN_CFG i)) (r_LMP_CHAIN_CFG2 : ∀ i, W (LMP_CHAIN_CFG2 i))
    (r_LMP_CHAIN_STATUS : ∀ i, W (LMP_CHAIN_STATUS i)) (r_LMP_GROUP_CFG : ∀ i, W (LMP_GROUP_CFG i)) (r_LMP_HB : W LMP_HB)
    (r_LMP_PKG_LIMIT : W LMP_PKG_LIMIT) (r_LMP_PS_CH_CFG : ∀ i, W (LMP_PS_CH_CFG i))
    (r_LMP_RAIL_CEILING : ∀ i, W (LMP_RAIL_CEILING i)) (r_LMP_RAIL_LIMIT : ∀ i, W (LMP_RAIL_LIMIT i))
    (r_LMP_SAFETY : W LMP_SAFETY) (r_LXS_CTRL : W LXS_CTRL) (r_LXS_PORT_CFG : ∀ i, W (LXS_PORT_CFG i))
    (r_LXS_PORT_STATE : ∀ i, W (LXS_PORT_STATE i)) (r_LXS_STATUS : W LXS_STATUS) (r_MEM_GROUP : ∀ i, W (MEM_GROUP i))
    (r_MEM_MAP_CFG : W MEM_MAP_CFG) (r_PLN_OUT_CFG : ∀ i, W (PLN_OUT_CFG i)) (r_PLN_OUT_SEGS : ∀ i, W (PLN_OUT_SEGS i))
    (r_PLN_OUT_SIZE : ∀ i, W (PLN_OUT_SIZE i)) (r_PLN_STATUS : W PLN_STATUS) (r_SCN_ENG_RANGE : ∀ i, W (SCN_ENG_RANGE i))
    (r_SCN_ENG_STATE : ∀ i, W (SCN_ENG_STATE i)) (r_SCN_STATUS : W SCN_STATUS)
    (r_SEQ_OUT_COUNTS : ∀ i, W (SEQ_OUT_COUNTS i)) (r_SEQ_OUT_EFF : ∀ i, W (SEQ_OUT_EFF i))
    (r_SEQ_OUT_LIGHT : ∀ i, W (SEQ_OUT_LIGHT i)) (r_SEQ_OUT_MECH : ∀ i, W (SEQ_OUT_MECH i))
    (r_SEQ_OUT_SCHED : ∀ i, W (SEQ_OUT_SCHED i)) (r_SEQ_OUT_SPAN : ∀ i, W (SEQ_OUT_SPAN i))
    (r_SEQ_SCHED_STATUS : W SEQ_SCHED_STATUS) (r_SEQ_TILES : W SEQ_TILES) (r_THM_CTRL : W THM_CTRL)
    (r_THM_DOM_HOLD : ∀ i, W (THM_DOM_HOLD i)) (r_THM_DOM_ON : ∀ i, W (THM_DOM_ON i))
    (r_TIM_DPLL_STATUS : W TIM_DPLL_STATUS) (r_TIM_REF_STATUS : W TIM_REF_STATUS) (k_out : K .out) (k_glb : K .glb)
    (k_tim : K .tim) (k_cfg : K .cfg) (k_mem : K .mem) (k_seq : K .seq) (k_apt : K .apt) (k_scn : K .scn) (k_lmp : K .lmp)
    (k_lan : K .lan) (k_lxs : K .lxs) (k_cal : K .cal) (k_fresh : K .fresh)
    (k_pln : K .pln)
    (h_s : Fr D W K s0 s)
    : Fr D W K s0 (doSelfTestDone dt ms failed s) := by
  unfold doSelfTestDone
  repeat' first
    | with_reducible assumption | with_reducible apply Fr.ite | with_reducible apply State.tick_frame
    | with_reducible apply State.onLiveIf_frame | with_reducible apply State.endSelfTest_frame
    | with_reducible apply State.checkImage_frame | with_reducible apply r_APT_PORT_CFG
    | with_reducible apply r_APT_PORT_STATE | with_reducible apply r_CFG_TOPO_HASH | with_reducible apply r_CMP_LYR_OWNER
    | with_reducible apply r_CMP_OUT_CUT | with_reducible apply r_CMP_OUT_INFO | with_reducible apply r_CMP_OUT_STATUS
    | with_reducible apply r_COL_OUT_PRIMS | with_reducible apply r_COL_WORK | with_reducible apply r_LAN_LANE_CFG
    | with_reducible apply r_LAN_LANE_EQ | with_reducible apply r_LAN_LANE_STATE | with_reducible apply r_LMP_CHAIN_CFG
    | with_reducible apply r_LMP_CHAIN_CFG2 | with_reducible apply r_LMP_CHAIN_STATUS
    | with_reducible apply r_LMP_GROUP_CFG | with_reducible apply r_LMP_PS_CH_CFG
    | with_reducible apply r_LMP_RAIL_CEILING | with_reducible apply r_LMP_RAIL_LIMIT
    | with_reducible apply r_LXS_PORT_CFG | with_reducible apply r_LXS_PORT_STATE | with_reducible apply r_MEM_GROUP
    | with_reducible apply r_PLN_OUT_CFG | with_reducible apply r_PLN_OUT_SEGS | with_reducible apply r_PLN_OUT_SIZE
    | with_reducible apply r_SCN_ENG_RANGE | with_reducible apply r_SCN_ENG_STATE | with_reducible apply r_SEQ_OUT_COUNTS
    | with_reducible apply r_SEQ_OUT_EFF | with_reducible apply r_SEQ_OUT_LIGHT | with_reducible apply r_SEQ_OUT_MECH
    | with_reducible apply r_SEQ_OUT_SCHED | with_reducible apply r_SEQ_OUT_SPAN | with_reducible apply r_THM_DOM_HOLD
    | with_reducible apply r_THM_DOM_ON
    | (extract_lets +onlyGivenNames x; refine Fr.cut (D := D) (W := W) (K := K) (s0 := s0) (x := x) ?_ ?_; (on_goal 1 => dsimp -zeta only [x]); (on_goal 2 => intro hx; clear_value x))
    | (extract_lets +onlyGivenNames y) | split | (clear_value y; split) | (intro v w hv) | (intro v hv)

theorem State.startShadow_frame (s : State) (hE : Ev W K) (r_CAL_SHADOW_COUNT : W CAL_SHADOW_COUNT)
    (r_CAL_SHADOW_STATUS : W CAL_SHADOW_STATUS) (k_cal : K .cal) (h_s : Fr D W K s0 s)
    : Fr D W K s0 (State.startShadow s) := by
  unfold State.startShadow
  repeat' first
    | with_reducible assumption | (simp -zeta (disch := first | assumption | exact rfl) only [↓Fr.setCal])
    | with_reducible apply Fr.ite | with_reducible apply State.inc_frame | with_reducible apply State.put_frame
    | with_reducible apply State.raiseB_frame
    | (extract_lets +onlyGivenNames x; refine Fr.cut (D := D) (W := W) (K := K) (s0 := s0) (x := x) ?_ ?_; (on_goal 1 => dsimp -zeta only [x]); (on_goal 2 => intro hx; clear_value x))
    | (extract_lets +onlyGivenNames y) | split | (intro v w hv) | (intro v hv) | (clear_value y; split)

theorem State.shadowBoundary_frame (s : State) (hE : Ev W K) (r_CAL_CULLET : W CAL_CULLET)
    (r_CAL_SHADOW_COUNT : W CAL_SHADOW_COUNT) (r_CAL_SHADOW_STATUS : W CAL_SHADOW_STATUS) (r_SEQ_TILES : W SEQ_TILES)
    (k_cal : K .cal) (h_s : Fr D W K s0 s) : Fr D W K s0 (State.shadowBoundary s) := by
  unfold State.shadowBoundary
  repeat' first
    | with_reducible assumption | (simp -zeta (disch := first | assumption | exact rfl) only [↓Fr.setCal])
    | with_reducible apply Fr.ite | with_reducible apply State.showCullet_frame | with_reducible apply State.startShadow_frame
    | (with_reducible apply foldOver_frame; intro a t ht)
    | (extract_lets +onlyGivenNames x; refine Fr.cut (D := D) (W := W) (K := K) (s0 := s0) (x := x) ?_ ?_; (on_goal 1 => dsimp -zeta only [x]); (on_goal 2 => intro hx; clear_value x))
    | (extract_lets +onlyGivenNames y) | split | (intro v w hv) | (intro v hv)

theorem doShadowMismatch_frame (dt logical : Nat) (s : State) (hE : Ev W K) (r_CAL_SHADOW_STATUS : W CAL_SHADOW_STATUS)
    (k_cal : K .cal) (h_s : Fr D W K s0 s) : Fr D W K s0 (doShadowMismatch dt logical s) := by
  unfold doShadowMismatch
  repeat' first
    | with_reducible assumption | (simp -zeta (disch := first | assumption | exact rfl) only [↓Fr.setCal])
    | with_reducible apply Fr.ite | with_reducible apply State.tick_frame | with_reducible apply State.onLiveIf_frame
    | with_reducible apply State.incSat_frame | with_reducible apply State.raise_frame
    | (extract_lets +onlyGivenNames x; refine Fr.cut (D := D) (W := W) (K := K) (s0 := s0) (x := x) ?_ ?_; (on_goal 1 => dsimp -zeta only [x]); (on_goal 2 => intro hx; clear_value x))
    | (extract_lets +onlyGivenNames y) | split | (intro v w hv) | (intro v hv)

theorem doConfirmationDone_frame (dt logical agrees : Nat) (s : State) (hE : Ev W K) (r_CAL_CULLET : W CAL_CULLET)
    (r_CAL_FENCED : W CAL_FENCED) (r_CAL_FENCE_DATA_0 : W CAL_FENCE_DATA_0) (r_CAL_FENCE_DATA_1 : W CAL_FENCE_DATA_1)
    (r_CAL_FENCE_DATA_2 : W CAL_FENCE_DATA_2) (r_CAL_SHADOW_COUNT : W CAL_SHADOW_COUNT)
    (r_CAL_STORE_STATUS : W CAL_STORE_STATUS) (r_SEQ_TILES : W SEQ_TILES) (k_fresh : K .fresh) (k_seq : K .seq)
    (k_cal : K .cal) (h_s : Fr D W K s0 s) : Fr D W K s0 (doConfirmationDone dt logical agrees s) := by
  unfold doConfirmationDone
  extract_lets t
  have ht : Fr D W K s0 t := State.tick_frame _ _ h_s
  split
  · exact ht
  · refine State.onLive_frame _ _ (fun u hu => ?_) ht
    refine Fr.ite (hu.upd rfl (fun p hp => by cases p <;> first | rfl | exact absurd ‹_› hp) rfl rfl) (Fr.ite ?_ ?_)
    · apply State.tryStore_frame
      case h_s =>
        apply State.fenceTileNow_frame
        case h_s => exact hu.upd rfl (fun p hp => by cases p <;> first | rfl | exact absurd ‹_› hp) rfl rfl
        all_goals assumption
      all_goals assumption
    · exact State.inc_frame _ _ r_CAL_SHADOW_COUNT (hu.upd rfl (fun p hp => by cases p <;> first | rfl | exact absurd ‹_› hp) rfl rfl)

theorem State.replaceTiles_frame (s : State) (hE : Ev W K) (r_CAL_CULLET : W CAL_CULLET) (r_CAL_FENCED : W CAL_FENCED)
    (r_CAL_FENCE_DATA_0 : W CAL_FENCE_DATA_0) (r_CAL_FENCE_DATA_1 : W CAL_FENCE_DATA_1)
    (r_CAL_FENCE_DATA_2 : W CAL_FENCE_DATA_2) (r_SEQ_TILES : W SEQ_TILES) (k_seq : K .seq) (k_cal : K .cal)
    (h_s : Fr D W K s0 s) : Fr D W K s0 (State.replaceTiles s) := by
  unfold State.replaceTiles
  repeat' first
    | with_reducible assumption | (simp -zeta (disch := first | assumption | exact rfl) only [↓Fr.setCal])
    | with_reducible apply Fr.ite | with_reducible apply State.setTile_frame | with_reducible apply State.fenceTileNow_frame
    | with_reducible apply State.showCullet_frame | (with_reducible apply foldOver_frame; intro a t ht)
    | (extract_lets +onlyGivenNames x; refine Fr.cut (D := D) (W := W) (K := K) (s0 := s0) (x := x) ?_ ?_; (on_goal 1 => dsimp -zeta only [x]); (on_goal 2 => intro hx; clear_value x))
    | (extract_lets +onlyGivenNames y) | split | (intro v w hv) | (intro v hv) | (clear_value y; split)

theorem doFencedSignOfLife_frame (dt kind unit_ detail : Nat) (s : State) (r_CAL_FENCED : W CAL_FENCED)
    (r_CAL_FENCE_DATA_0 : W CAL_FENCE_DATA_0) (r_CAL_FENCE_DATA_1 : W CAL_FENCE_DATA_1)
    (r_CAL_FENCE_DATA_2 : W CAL_FENCE_DATA_2) (k_cal : K .cal) (h_s : Fr D W K s0 s)
    : Fr D W K s0 (doFencedSignOfLife dt kind unit_ detail s) := by
  unfold doFencedSignOfLife
  repeat' first
    | with_reducible assumption | with_reducible apply State.tick_frame | with_reducible apply State.onLiveIf_frame
    | with_reducible apply State.countLife_frame
    | (extract_lets +onlyGivenNames x; refine Fr.cut (D := D) (W := W) (K := K) (s0 := s0) (x := x) ?_ ?_; (on_goal 1 => dsimp -zeta only [x]); (on_goal 2 => intro hx; clear_value x))
    | (extract_lets +onlyGivenNames y) | (intro v w hv) | (intro v hv)

theorem doRepairPass_frame (dt : Nat) (s : State) (r_CAL_REPAIR_CTRL : W CAL_REPAIR_CTRL) (h_s : Fr D W K s0 s)
    : Fr D W K s0 (doRepairPass dt s) := by
  unfold doRepairPass
  repeat' first
    | with_reducible assumption | with_reducible apply State.tick_frame | with_reducible apply State.onReach_frame
    | with_reducible apply State.putB_frame | (intro v w hv) | (intro v hv)

theorem doRepairPassDone_frame (dt : Nat) (passed : List Nat) (s : State) (r_CAL_REPAIR_CTRL : W CAL_REPAIR_CTRL)
    (r_CAL_REPAIR_STATUS : W CAL_REPAIR_STATUS) (k_cal : K .cal) (h_s : Fr D W K s0 s)
    : Fr D W K s0 (doRepairPassDone dt passed s) := by
  unfold doRepairPassDone
  repeat' first
    | with_reducible assumption | (simp -zeta (disch := first | assumption | exact rfl) only [↓Fr.setCal])
    | with_reducible apply State.tick_frame | with_reducible apply State.onLiveIf_frame
    | with_reducible apply State.putB_frame | with_reducible apply State.putSat_frame
    | (extract_lets +onlyGivenNames x; refine Fr.cut (D := D) (W := W) (K := K) (s0 := s0) (x := x) ?_ ?_; (on_goal 1 => dsimp -zeta only [x]); (on_goal 2 => intro hx; clear_value x))
    | (extract_lets +onlyGivenNames y) | (intro v w hv) | (intro v hv)

theorem State.unfence_frame (s : State) (e : FenceEntry) (r_CAL_FENCED : W CAL_FENCED)
    (r_CAL_FENCE_DATA_0 : W CAL_FENCE_DATA_0) (r_CAL_FENCE_DATA_1 : W CAL_FENCE_DATA_1)
    (r_CAL_FENCE_DATA_2 : W CAL_FENCE_DATA_2) (k_cal : K .cal) (h_s : Fr D W K s0 s) : Fr D W K s0 (State.unfence s e) := by
  unfold State.unfence
  repeat' first
    | with_reducible assumption | (simp -zeta (disch := first | assumption | exact rfl) only [↓Fr.setCal])
    | with_reducible apply State.showFenced_frame
    | (extract_lets +onlyGivenNames x; refine Fr.cut (D := D) (W := W) (K := K) (s0 := s0) (x := x) ?_ ?_; (on_goal 1 => dsimp -zeta only [x]); (on_goal 2 => intro hx; clear_value x))
    | (extract_lets +onlyGivenNames y) | (intro v w hv) | (intro v hv)

theorem State.readmitLane_frame (s : State) (l : Nat) (r_CAL_CULLET : W CAL_CULLET) (r_LAN_LANE_EQ : W (LAN_LANE_EQ l))
    (r_LAN_LANE_STATE_1 : W (LAN_LANE_STATE (128 + laneGroup l))) (r_LAN_LANE_STATE_2 : W (LAN_LANE_STATE l))
    (r_LAN_STATUS : W LAN_STATUS) (r_SEQ_SCHED_STATUS : W SEQ_SCHED_STATUS) (k_seq : K .seq) (k_apt : K .apt) (k_lan : K .lan)
    (r_LAN_LANE_STATE_all : ∀ i, W (LAN_LANE_STATE i))
    (h_s : Fr D W K s0 s) : Fr D W K s0 (State.readmitLane s l) := by
  unfold State.readmitLane
  repeat' first
    | with_reducible assumption
    | with_reducible apply r_LAN_LANE_STATE_all | with_reducible apply Fr.ite | with_reducible apply State.trainLane_frame
    | with_reducible apply State.setLaneState_frame | with_reducible apply State.announce_frame
    | with_reducible apply State.askWiden_frame
    | (extract_lets +onlyGivenNames x; refine Fr.cut (D := D) (W := W) (K := K) (s0 := s0) (x := x) ?_ ?_; (on_goal 1 => dsimp -zeta only [x]); (on_goal 2 => intro hx; clear_value x))
    | (extract_lets +onlyGivenNames y) | split

theorem State.readmitLaxus_frame (s : State) (l : Nat) (hE : Ev W K) (r_APT_PORT_STATE : ∀ i, W (APT_PORT_STATE i))
    (r_CAL_CULLET : W CAL_CULLET) (r_LAN_LANE_EQ : ∀ i, W (LAN_LANE_EQ i)) (r_LAN_LANE_STATE : ∀ i, W (LAN_LANE_STATE i))
    (r_LAN_STATUS : W LAN_STATUS) (r_LXS_PORT_STATE : ∀ i, W (LXS_PORT_STATE i)) (r_LXS_ROOT_HI : W LXS_ROOT_HI)
    (r_LXS_ROOT_LO : W LXS_ROOT_LO) (r_LXS_STATUS : W LXS_STATUS) (r_LXS_SYSID_HI : W LXS_SYSID_HI)
    (r_TIM_DPLL_STATUS : W TIM_DPLL_STATUS) (r_TIM_REF_STATUS : W TIM_REF_STATUS) (k_tim : K .tim) (k_apt : K .apt)
    (k_lan : K .lan) (k_lxs : K .lxs) (h_s : Fr D W K s0 s) : Fr D W K s0 (State.readmitLaxus s l) := by
  unfold State.readmitLaxus
  repeat' first
    | with_reducible assumption | with_reducible apply Fr.ite | with_reducible apply State.setLaneState_frame
    | with_reducible apply State.putB_frame | with_reducible apply State.inc_frame | with_reducible apply State.leaveUp_frame
    | with_reducible apply State.trainLane_frame | (with_reducible apply foldOver_frame; intro a t ht)
    | with_reducible apply r_APT_PORT_STATE | with_reducible apply r_LAN_LANE_EQ | with_reducible apply r_LAN_LANE_STATE
    | with_reducible apply r_LXS_PORT_STATE
    | (extract_lets +onlyGivenNames x; refine Fr.cut (D := D) (W := W) (K := K) (s0 := s0) (x := x) ?_ ?_; (on_goal 1 => dsimp -zeta only [x]); (on_goal 2 => intro hx; clear_value x))
    | (extract_lets +onlyGivenNames y) | split | (intro v w hv) | (intro v hv)

theorem State.readmitUnits_frame (s : State) (hE : Ev W K) (r_APT_PORT_STATE : ∀ i, W (APT_PORT_STATE i))
    (r_CAL_CULLET : W CAL_CULLET) (r_CAL_FENCED : W CAL_FENCED) (r_CAL_FENCE_DATA_0 : W CAL_FENCE_DATA_0)
    (r_CAL_FENCE_DATA_1 : W CAL_FENCE_DATA_1) (r_CAL_FENCE_DATA_2 : W CAL_FENCE_DATA_2)
    (r_LAN_LANE_EQ : ∀ i, W (LAN_LANE_EQ i)) (r_LAN_LANE_STATE : ∀ i, W (LAN_LANE_STATE i)) (r_LAN_STATUS : W LAN_STATUS)
    (r_LXS_PORT_STATE : ∀ i, W (LXS_PORT_STATE i)) (r_LXS_ROOT_HI : W LXS_ROOT_HI) (r_LXS_ROOT_LO : W LXS_ROOT_LO)
    (r_LXS_STATUS : W LXS_STATUS) (r_LXS_SYSID_HI : W LXS_SYSID_HI) (r_PLN_STATUS : W PLN_STATUS)
    (r_SEQ_SCHED_STATUS : W SEQ_SCHED_STATUS) (r_SEQ_TILES : W SEQ_TILES) (r_THM_DOM_ON : ∀ i, W (THM_DOM_ON i))
    (r_TIM_DPLL_STATUS : W TIM_DPLL_STATUS) (r_TIM_REF_STATUS : W TIM_REF_STATUS) (k_tim : K .tim) (k_mem : K .mem)
    (k_seq : K .seq) (k_apt : K .apt) (k_lan : K .lan) (k_lxs : K .lxs) (k_cal : K .cal) (h_s : Fr D W K s0 s)
    : Fr D W K s0 (State.readmitUnits s) := by
  unfold State.readmitUnits
  repeat' first
    | with_reducible assumption | (simp -zeta (disch := first | assumption | exact rfl) only [↓Fr.setCal])
    | with_reducible apply Fr.ite | (with_reducible apply foldOver_frame; intro a t ht)
    | with_reducible apply State.unfence_frame | with_reducible apply State.setTile_frame
    | with_reducible apply State.setDomOn_frame | with_reducible apply State.incSat_frame
    | with_reducible apply State.setPc_frame | with_reducible apply State.showHbmSpares_frame
    | with_reducible apply State.readmitLaxus_frame | with_reducible apply State.readmitLane_frame
    | with_reducible apply State.showCullet_frame | with_reducible apply r_APT_PORT_STATE
    | with_reducible apply r_LAN_LANE_EQ | with_reducible apply r_LAN_LANE_STATE | with_reducible apply r_LXS_PORT_STATE
    | with_reducible apply r_THM_DOM_ON
    | (extract_lets +onlyGivenNames x; refine Fr.cut (D := D) (W := W) (K := K) (s0 := s0) (x := x) ?_ ?_; (on_goal 1 => dsimp -zeta only [x]); (on_goal 2 => intro hx; clear_value x))
    | (extract_lets +onlyGivenNames y) | split | (clear_value y; split) | (intro v w hv) | (intro v hv)

theorem State.calOrder1_frame (s : State) (hE : Ev W K) (r_APT_PORT_STATE : ∀ i, W (APT_PORT_STATE i))
    (r_CAL_CULLET : W CAL_CULLET) (r_CAL_FENCED : W CAL_FENCED) (r_CAL_FENCE_DATA_0 : W CAL_FENCE_DATA_0)
    (r_CAL_FENCE_DATA_1 : W CAL_FENCE_DATA_1) (r_CAL_FENCE_DATA_2 : W CAL_FENCE_DATA_2)
    (r_CAL_SESS_STATUS : ∀ i, W (CAL_SESS_STATUS i)) (r_CAL_STORE_STATUS : W CAL_STORE_STATUS)
    (r_LAN_LANE_EQ : ∀ i, W (LAN_LANE_EQ i)) (r_LAN_LANE_STATE : ∀ i, W (LAN_LANE_STATE i)) (r_LAN_STATUS : W LAN_STATUS)
    (r_LXS_PORT_STATE : ∀ i, W (LXS_PORT_STATE i)) (r_LXS_ROOT_HI : W LXS_ROOT_HI) (r_LXS_ROOT_LO : W LXS_ROOT_LO)
    (r_LXS_STATUS : W LXS_STATUS) (r_LXS_SYSID_HI : W LXS_SYSID_HI) (r_PLN_STATUS : W PLN_STATUS)
    (r_SEQ_SCHED_STATUS : W SEQ_SCHED_STATUS) (r_SEQ_TILES : W SEQ_TILES) (r_THM_DOM_ON : ∀ i, W (THM_DOM_ON i))
    (r_TIM_DPLL_STATUS : W TIM_DPLL_STATUS) (r_TIM_REF_STATUS : W TIM_REF_STATUS) (k_fresh : K .fresh) (k_tim : K .tim)
    (k_mem : K .mem) (k_seq : K .seq) (k_apt : K .apt) (k_lan : K .lan) (k_lxs : K .lxs) (k_cal : K .cal)
    (h_s : Fr D W K s0 s) : Fr D W K s0 (State.calOrder1 s) := by
  unfold State.calOrder1
  repeat' first
    | with_reducible assumption | with_reducible apply State.replaceTiles_frame
    | with_reducible apply State.readmitUnits_frame | with_reducible apply State.eyeLaneFailed_frame
    | with_reducible apply State.lanBoundary_frame | with_reducible apply State.eyeBoundary_frame
    | with_reducible apply r_APT_PORT_STATE | with_reducible apply r_CAL_SESS_STATUS | with_reducible apply r_LAN_LANE_EQ
    | with_reducible apply r_LAN_LANE_STATE | with_reducible apply r_LXS_PORT_STATE | with_reducible apply r_THM_DOM_ON
    | (extract_lets +onlyGivenNames x; refine Fr.cut (D := D) (W := W) (K := K) (s0 := s0) (x := x) ?_ ?_; (on_goal 1 => dsimp -zeta only [x]); (on_goal 2 => intro hx; clear_value x))
    | (extract_lets +onlyGivenNames y)

theorem State.calBoundary_frame (s : State) (hE : Ev W K) (r_CAL_CULLET : W CAL_CULLET)
    (r_CAL_SHADOW_COUNT : W CAL_SHADOW_COUNT) (r_CAL_SHADOW_STATUS : W CAL_SHADOW_STATUS)
    (r_CAL_STORE_STATUS : W CAL_STORE_STATUS) (r_COL_PRIM_LOOP : ∀ i, W (COL_PRIM_LOOP i))
    (r_COL_PRIM_TARGET : ∀ i, W (COL_PRIM_TARGET i)) (r_COL_STATUS : W COL_STATUS) (r_SEQ_TILES : W SEQ_TILES)
    (k_fresh : K .fresh) (k_col : K .col) (k_lmp : K .lmp) (k_cal : K .cal) (h_s : Fr D W K s0 s)
    : Fr D W K s0 (State.calBoundary s) := by
  unfold State.calBoundary
  repeat' first
    | with_reducible assumption | with_reducible apply State.patchBoundary_frame
    | with_reducible apply State.targetBoundary_frame | with_reducible apply State.shadowBoundary_frame
    | with_reducible apply State.loopRefresh_frame | with_reducible apply State.tryStore_frame
    | with_reducible apply r_COL_PRIM_LOOP | with_reducible apply r_COL_PRIM_TARGET

theorem doFlashNoResponse_frame (dt : Nat) (s : State) (hE : Ev W K) (r_CFG_FAIL_INFO : W CFG_FAIL_INFO)
    (r_CFG_LOAD_CTRL : W CFG_LOAD_CTRL) (r_CFG_STATUS : W CFG_STATUS) (r_HIF_STATUS : W HIF_STATUS) (r_LMP_HB : W LMP_HB)
    (r_LMP_SAFETY : W LMP_SAFETY) (r_TIM_DPLL_STATUS : W TIM_DPLL_STATUS) (r_TIM_REF_STATUS : W TIM_REF_STATUS)
    (k_out : K .out) (k_glb : K .glb) (k_tim : K .tim) (k_cfg : K .cfg) (k_seq : K .seq) (k_scn : K .scn) (k_lmp : K .lmp)
    (h_s : Fr D W K s0 s) : Fr D W K s0 (doFlashNoResponse dt s) := by
  unfold doFlashNoResponse
  repeat' first
    | with_reducible assumption | with_reducible apply State.tick_frame | with_reducible apply State.onLiveIf_frame
    | with_reducible apply State.loadFailed_frame
    | (extract_lets +onlyGivenNames x; refine Fr.cut (D := D) (W := W) (K := K) (s0 := s0) (x := x) ?_ ?_; (on_goal 1 => dsimp -zeta only [x]); (on_goal 2 => intro hx; clear_value x))
    | (extract_lets +onlyGivenNames y) | split | (clear_value y; split) | (intro v w hv) | (intro v hv)

theorem State.hostReadFails_frame (s : State) (hE : Ev W K) (r_CFG_FAIL_INFO : W CFG_FAIL_INFO)
    (r_CFG_LOAD_CTRL : W CFG_LOAD_CTRL) (r_CFG_STATUS : W CFG_STATUS) (r_HIF_STATUS : W HIF_STATUS) (r_LMP_HB : W LMP_HB)
    (r_LMP_SAFETY : W LMP_SAFETY) (r_TIM_DPLL_STATUS : W TIM_DPLL_STATUS) (r_TIM_REF_STATUS : W TIM_REF_STATUS)
    (k_out : K .out) (k_glb : K .glb) (k_tim : K .tim) (k_cfg : K .cfg) (k_seq : K .seq) (k_scn : K .scn) (k_lmp : K .lmp)
    (h_s : Fr D W K s0 s) : Fr D W K s0 (State.hostReadFails s) := by
  unfold State.hostReadFails
  repeat' first
    | with_reducible assumption | with_reducible apply Fr.ite | with_reducible apply State.loadFailed_frame
    | (extract_lets +onlyGivenNames x; refine Fr.cut (D := D) (W := W) (K := K) (s0 := s0) (x := x) ?_ ?_; (on_goal 1 => dsimp -zeta only [x]); (on_goal 2 => intro hx; clear_value x))
    | (extract_lets +onlyGivenNames y) | split | (clear_value y; split) | (intro v w hv) | (intro v hv)

theorem doHostReadError_frame (dt : Nat) (s : State) (hE : Ev W K) (r_CFG_FAIL_INFO : W CFG_FAIL_INFO)
    (r_CFG_LOAD_CTRL : W CFG_LOAD_CTRL) (r_CFG_STATUS : W CFG_STATUS) (r_HIF_STATUS : W HIF_STATUS) (r_LMP_HB : W LMP_HB)
    (r_LMP_SAFETY : W LMP_SAFETY) (r_TIM_DPLL_STATUS : W TIM_DPLL_STATUS) (r_TIM_REF_STATUS : W TIM_REF_STATUS)
    (k_out : K .out) (k_glb : K .glb) (k_tim : K .tim) (k_cfg : K .cfg) (k_seq : K .seq) (k_scn : K .scn) (k_lmp : K .lmp)
    (h_s : Fr D W K s0 s) : Fr D W K s0 (doHostReadError dt s) := by
  unfold doHostReadError
  repeat' first
    | with_reducible assumption | with_reducible apply State.tick_frame | with_reducible apply State.onLive_frame
    | with_reducible apply State.hostReadFails_frame | (intro v w hv) | (intro v hv)

theorem State.compileAgain_frame (s : State) (r_CFG_STATUS : W CFG_STATUS) (r_SEQ_SCHED_STATUS : W SEQ_SCHED_STATUS)
    (k_cfg : K .cfg) (k_seq : K .seq) (h_s : Fr D W K s0 s) : Fr D W K s0 (State.compileAgain s) := by
  unfold State.compileAgain
  repeat' first
    | with_reducible assumption | (simp -zeta (disch := first | assumption | exact rfl) only [↓Fr.setCfg])
    | with_reducible apply Fr.ite | (with_reducible apply foldOver_frame; intro a t ht)
    | with_reducible apply State.commitCompiles_frame | with_reducible apply State.askJob_frame
    | with_reducible apply State.put_frame
    | (extract_lets +onlyGivenNames x; refine Fr.cut (D := D) (W := W) (K := K) (s0 := s0) (x := x) ?_ ?_; (on_goal 1 => dsimp -zeta only [x]); (on_goal 2 => intro hx; clear_value x))
    | (extract_lets +onlyGivenNames y) | split | (clear_value y; split) | (intro v w hv) | (intro v hv)

theorem doReloadReady_frame (dt : Nat) (s : State) (r_CFG_STATUS : W CFG_STATUS) (k_cfg : K .cfg) (h_s : Fr D W K s0 s)
    : Fr D W K s0 (doReloadReady dt s) := by
  unfold doReloadReady
  repeat' first
    | with_reducible assumption | (simp -zeta (disch := first | assumption | exact rfl) only [↓Fr.setCfg])
    | with_reducible apply State.tick_frame | with_reducible apply State.onLiveIf_frame | with_reducible apply State.put_frame
    | (extract_lets +onlyGivenNames x; refine Fr.cut (D := D) (W := W) (K := K) (s0 := s0) (x := x) ?_ ?_; (on_goal 1 => dsimp -zeta only [x]); (on_goal 2 => intro hx; clear_value x))
    | (extract_lets +onlyGivenNames y) | (intro v w hv) | (intro v hv)

theorem State.applyReload_frame (s : State) (hE : Ev W K) (r_CAL_CULLET : W CAL_CULLET)
    (r_CFG_IMAGE_INFO : W CFG_IMAGE_INFO) (r_CFG_LOAD_CTRL : W CFG_LOAD_CTRL)
    (r_CFG_RELOAD_APPLIED : W CFG_RELOAD_APPLIED) (r_CFG_STATUS : W CFG_STATUS) (r_PLN_OUT_USED : ∀ i, W (PLN_OUT_USED i))
    (r_SEQ_OUT_COUNTS : ∀ i, W (SEQ_OUT_COUNTS i)) (r_SEQ_OUT_EFF : ∀ i, W (SEQ_OUT_EFF i))
    (r_SEQ_OUT_LIGHT : ∀ i, W (SEQ_OUT_LIGHT i)) (r_SEQ_OUT_MECH : ∀ i, W (SEQ_OUT_MECH i))
    (r_SEQ_OUT_SCHED : ∀ i, W (SEQ_OUT_SCHED i)) (r_SEQ_OUT_SPAN : ∀ i, W (SEQ_OUT_SPAN i))
    (r_SEQ_SCHED_STATUS : W SEQ_SCHED_STATUS) (r_SEQ_TILES : W SEQ_TILES) (r_THM_DOM_ON : ∀ i, W (THM_DOM_ON i))
    (k_cfg : K .cfg) (k_seq : K .seq) (h_s : Fr D W K s0 s) : Fr D W K s0 (State.applyReload s) := by
  unfold State.applyReload
  repeat' first
    | with_reducible assumption | (simp -zeta (disch := first | assumption | exact rfl) only [↓Fr.setCfg, ↓Fr.setSeq])
    | with_reducible apply Fr.ite | (with_reducible apply foldOver_frame; intro a t ht)
    | with_reducible apply State.install_frame | with_reducible apply State.askJob_frame
    | with_reducible apply State.applyMech_frame | with_reducible apply State.placeTiles_frame
    | with_reducible apply State.showCullet_frame | with_reducible apply State.inc_frame
    | with_reducible apply State.wrN_frame | with_reducible apply State.put_frame
    | with_reducible apply State.raiseB_frame | with_reducible apply r_PLN_OUT_USED
    | with_reducible apply r_SEQ_OUT_COUNTS | with_reducible apply r_SEQ_OUT_EFF | with_reducible apply r_SEQ_OUT_LIGHT
    | with_reducible apply r_SEQ_OUT_MECH | with_reducible apply r_SEQ_OUT_SCHED | with_reducible apply r_SEQ_OUT_SPAN
    | with_reducible apply r_THM_DOM_ON
    | (extract_lets +onlyGivenNames x; refine Fr.cut (D := D) (W := W) (K := K) (s0 := s0) (x := x) ?_ ?_; (on_goal 1 => dsimp -zeta only [x]); (on_goal 2 => intro hx; clear_value x))
    | (extract_lets +onlyGivenNames y) | split | (clear_value y; split) | (intro v w hv) | (intro v hv)

theorem State.refuseLoad_frame (s : State) (code : Nat) (hE : Ev W K) (r_CFG_FAIL_INFO : W CFG_FAIL_INFO)
    (r_CFG_LOAD_CTRL : W CFG_LOAD_CTRL) (r_CFG_STATUS : W CFG_STATUS) (h_s : Fr D W K s0 s)
    : Fr D W K s0 (State.refuseLoad s code) := by
  unfold State.refuseLoad
  repeat' first
    | with_reducible assumption | with_reducible apply Fr.ite | with_reducible apply State.reportFail_frame
    | with_reducible apply State.put_frame
    | (extract_lets +onlyGivenNames x; refine Fr.cut (D := D) (W := W) (K := K) (s0 := s0) (x := x) ?_ ?_; (on_goal 1 => dsimp -zeta only [x]); (on_goal 2 => intro hx; clear_value x))
    | (extract_lets +onlyGivenNames y) | split | (clear_value y; split) | (intro v w hv) | (intro v hv)

theorem State.startLoad_frame (s : State) (kind host : Bool) (load : Nat) (r_CFG_LOAD_CTRL : W CFG_LOAD_CTRL) (k_cfg : K .cfg)
    (h_s : Fr D W K s0 s) : Fr D W K s0 (State.startLoad s kind host load) := by
  unfold State.startLoad
  repeat' first
    | with_reducible assumption | (simp -zeta (disch := first | assumption | exact rfl) only [↓Fr.setCfg])
    | with_reducible apply State.putB_frame | with_reducible apply State.put_frame
    | (extract_lets +onlyGivenNames x; refine Fr.cut (D := D) (W := W) (K := K) (s0 := s0) (x := x) ?_ ?_; (on_goal 1 => dsimp -zeta only [x]); (on_goal 2 => intro hx; clear_value x))
    | (extract_lets +onlyGivenNames y)

theorem doHostFullLoad_frame (dt : Nat) (s : State) (hE : Ev W K) (r_CFG_FAIL_INFO : W CFG_FAIL_INFO)
    (r_CFG_LOAD_CTRL : W CFG_LOAD_CTRL) (r_CFG_STATUS : W CFG_STATUS) (r_HIF_STATUS : W HIF_STATUS) (r_LMP_HB : W LMP_HB)
    (r_LMP_SAFETY : W LMP_SAFETY) (r_TIM_DPLL_STATUS : W TIM_DPLL_STATUS) (r_TIM_REF_STATUS : W TIM_REF_STATUS)
    (k_out : K .out) (k_glb : K .glb) (k_tim : K .tim) (k_cfg : K .cfg) (k_seq : K .seq) (k_scn : K .scn) (k_lmp : K .lmp)
    (h_s : Fr D W K s0 s) : Fr D W K s0 (doHostFullLoad dt s) := by
  unfold doHostFullLoad
  repeat' first
    | with_reducible assumption | with_reducible apply Fr.ite | with_reducible apply State.tick_frame
    | with_reducible apply State.onLive_frame | with_reducible apply State.putB_frame
    | with_reducible apply State.refuseLoad_frame | with_reducible apply State.startLoad_frame
    | with_reducible apply State.put_frame | with_reducible apply State.hostReadFails_frame
    | (extract_lets +onlyGivenNames x; refine Fr.cut (D := D) (W := W) (K := K) (s0 := s0) (x := x) ?_ ?_; (on_goal 1 => dsimp -zeta only [x]); (on_goal 2 => intro hx; clear_value x))
    | (extract_lets +onlyGivenNames y) | split | (intro v w hv) | (intro v hv)

theorem doFlashFullLoadRefused_frame (dt : Nat) (s : State) (hE : Ev W K) (r_CFG_FAIL_INFO : W CFG_FAIL_INFO)
    (r_CFG_LOAD_CTRL : W CFG_LOAD_CTRL) (r_CFG_STATUS : W CFG_STATUS) (h_s : Fr D W K s0 s)
    : Fr D W K s0 (doFlashFullLoadRefused dt s) := by
  unfold doFlashFullLoadRefused
  repeat' first
    | with_reducible assumption | with_reducible apply State.tick_frame | with_reducible apply State.onLive_frame
    | with_reducible apply State.putB_frame | with_reducible apply State.refuseLoad_frame | (intro v w hv) | (intro v hv)

theorem doReloadFromFlash_frame (dt : Nat) (s : State) (hE : Ev W K) (r_CFG_FAIL_INFO : W CFG_FAIL_INFO)
    (r_CFG_LOAD_CTRL : W CFG_LOAD_CTRL) (r_CFG_STATUS : W CFG_STATUS) (r_HIF_STATUS : W HIF_STATUS) (r_LMP_HB : W LMP_HB)
    (r_LMP_SAFETY : W LMP_SAFETY) (r_TIM_DPLL_STATUS : W TIM_DPLL_STATUS) (r_TIM_REF_STATUS : W TIM_REF_STATUS)
    (k_out : K .out) (k_glb : K .glb) (k_tim : K .tim) (k_cfg : K .cfg) (k_seq : K .seq) (k_scn : K .scn) (k_lmp : K .lmp)
    (h_s : Fr D W K s0 s) : Fr D W K s0 (doReloadFromFlash dt s) := by
  unfold doReloadFromFlash
  repeat' first
    | with_reducible assumption | with_reducible apply Fr.ite | with_reducible apply State.tick_frame
    | with_reducible apply State.onLive_frame | with_reducible apply State.putB_frame
    | with_reducible apply State.reportFail_frame | with_reducible apply State.startLoad_frame
    | with_reducible apply State.put_frame | with_reducible apply State.loadFailed_frame
    | (extract_lets +onlyGivenNames x; refine Fr.cut (D := D) (W := W) (K := K) (s0 := s0) (x := x) ?_ ?_; (on_goal 1 => dsimp -zeta only [x]); (on_goal 2 => intro hx; clear_value x))
    | (extract_lets +onlyGivenNames y) | split | (intro v w hv) | (intro v hv)

theorem doReloadFromHost_frame (dt : Nat) (s : State) (hE : Ev W K) (r_CFG_FAIL_INFO : W CFG_FAIL_INFO)
    (r_CFG_LOAD_CTRL : W CFG_LOAD_CTRL) (r_CFG_STATUS : W CFG_STATUS) (r_HIF_STATUS : W HIF_STATUS) (r_LMP_HB : W LMP_HB)
    (r_LMP_SAFETY : W LMP_SAFETY) (r_TIM_DPLL_STATUS : W TIM_DPLL_STATUS) (r_TIM_REF_STATUS : W TIM_REF_STATUS)
    (k_out : K .out) (k_glb : K .glb) (k_tim : K .tim) (k_cfg : K .cfg) (k_seq : K .seq) (k_scn : K .scn) (k_lmp : K .lmp)
    (h_s : Fr D W K s0 s) : Fr D W K s0 (doReloadFromHost dt s) := by
  unfold doReloadFromHost
  repeat' first
    | with_reducible assumption | with_reducible apply Fr.ite | with_reducible apply State.tick_frame
    | with_reducible apply State.onLive_frame | with_reducible apply State.putB_frame
    | with_reducible apply State.reportFail_frame | with_reducible apply State.startLoad_frame
    | with_reducible apply State.put_frame | with_reducible apply State.hostReadFails_frame
    | (extract_lets +onlyGivenNames x; refine Fr.cut (D := D) (W := W) (K := K) (s0 := s0) (x := x) ?_ ?_; (on_goal 1 => dsimp -zeta only [x]); (on_goal 2 => intro hx; clear_value x))
    | (extract_lets +onlyGivenNames y) | split | (intro v w hv) | (intro v hv)

theorem doImageLoadDone_frame (dt : Nat) (bytes : List Byte) (s : State) (hE : Ev W K)
    (r_APT_PORT_CFG : ∀ i, W (APT_PORT_CFG i)) (r_APT_PORT_STATE : ∀ i, W (APT_PORT_STATE i))
    (r_APT_STATUS : W APT_STATUS) (r_CAL_CULLET : W CAL_CULLET) (r_CFG_FAIL_INFO : W CFG_FAIL_INFO)
    (r_CFG_IMAGE_BUILD : W CFG_IMAGE_BUILD) (r_CFG_IMAGE_INFO : W CFG_IMAGE_INFO) (r_CFG_LOAD_CTRL : W CFG_LOAD_CTRL)
    (r_CFG_STATUS : W CFG_STATUS) (r_CFG_TOPO_HASH : ∀ i, W (CFG_TOPO_HASH i))
    (r_CMP_LYR_OWNER : ∀ i, W (CMP_LYR_OWNER i)) (r_CMP_OUT_CUT : ∀ i, W (CMP_OUT_CUT i))
    (r_CMP_OUT_INFO : ∀ i, W (CMP_OUT_INFO i)) (r_CMP_OUT_STATUS : ∀ i, W (CMP_OUT_STATUS i))
    (r_CMP_STATUS : W CMP_STATUS) (r_COL_OUT_PRIMS : ∀ i, W (COL_OUT_PRIMS i)) (r_COL_WORK : ∀ i, W (COL_WORK i))
    (r_HIF_STATUS : W HIF_STATUS) (r_LAN_LANE_CFG : ∀ i, W (LAN_LANE_CFG i)) (r_LAN_LANE_EQ : ∀ i, W (LAN_LANE_EQ i))
    (r_LAN_LANE_STATE : ∀ i, W (LAN_LANE_STATE i)) (r_LAN_STATUS : W LAN_STATUS)
    (r_LMP_CHAIN_CFG : ∀ i, W (LMP_CHAIN_CFG i)) (r_LMP_CHAIN_CFG2 : ∀ i, W (LMP_CHAIN_CFG2 i))
    (r_LMP_CHAIN_STATUS : ∀ i, W (LMP_CHAIN_STATUS i)) (r_LMP_GROUP_CFG : ∀ i, W (LMP_GROUP_CFG i)) (r_LMP_HB : W LMP_HB)
    (r_LMP_PKG_LIMIT : W LMP_PKG_LIMIT) (r_LMP_PS_CH_CFG : ∀ i, W (LMP_PS_CH_CFG i))
    (r_LMP_RAIL_CEILING : ∀ i, W (LMP_RAIL_CEILING i)) (r_LMP_RAIL_LIMIT : ∀ i, W (LMP_RAIL_LIMIT i))
    (r_LMP_SAFETY : W LMP_SAFETY) (r_LXS_CTRL : W LXS_CTRL) (r_LXS_PORT_CFG : ∀ i, W (LXS_PORT_CFG i))
    (r_LXS_PORT_STATE : ∀ i, W (LXS_PORT_STATE i)) (r_LXS_STATUS : W LXS_STATUS) (r_MEM_GROUP : ∀ i, W (MEM_GROUP i))
    (r_MEM_MAP_CFG : W MEM_MAP_CFG) (r_PLN_OUT_CFG : ∀ i, W (PLN_OUT_CFG i)) (r_PLN_OUT_SEGS : ∀ i, W (PLN_OUT_SEGS i))
    (r_PLN_OUT_SIZE : ∀ i, W (PLN_OUT_SIZE i)) (r_PLN_STATUS : W PLN_STATUS) (r_SCN_ENG_RANGE : ∀ i, W (SCN_ENG_RANGE i))
    (r_SCN_ENG_STATE : ∀ i, W (SCN_ENG_STATE i)) (r_SCN_STATUS : W SCN_STATUS)
    (r_SEQ_OUT_COUNTS : ∀ i, W (SEQ_OUT_COUNTS i)) (r_SEQ_OUT_EFF : ∀ i, W (SEQ_OUT_EFF i))
    (r_SEQ_OUT_LIGHT : ∀ i, W (SEQ_OUT_LIGHT i)) (r_SEQ_OUT_MECH : ∀ i, W (SEQ_OUT_MECH i))
    (r_SEQ_OUT_SCHED : ∀ i, W (SEQ_OUT_SCHED i)) (r_SEQ_OUT_SPAN : ∀ i, W (SEQ_OUT_SPAN i))
    (r_SEQ_SCHED_STATUS : W SEQ_SCHED_STATUS) (r_SEQ_TILES : W SEQ_TILES) (r_THM_CTRL : W THM_CTRL)
    (r_THM_DOM_HOLD : ∀ i, W (THM_DOM_HOLD i)) (r_THM_DOM_ON : ∀ i, W (THM_DOM_ON i))
    (r_TIM_DPLL_STATUS : W TIM_DPLL_STATUS) (r_TIM_REF_STATUS : W TIM_REF_STATUS) (k_out : K .out) (k_glb : K .glb)
    (k_tim : K .tim) (k_cfg : K .cfg) (k_mem : K .mem) (k_seq : K .seq) (k_apt : K .apt) (k_scn : K .scn) (k_lmp : K .lmp)
    (k_lan : K .lan) (k_lxs : K .lxs) (h_s : Fr D W K s0 s) : Fr D W K s0 (doImageLoadDone dt bytes s) := by
  unfold doImageLoadDone
  repeat' first
    | with_reducible assumption | (simp -zeta (disch := first | assumption | exact rfl) only [↓Fr.setCfg])
    | with_reducible apply Fr.ite | with_reducible apply State.tick_frame | with_reducible apply State.onLiveIf_frame
    | with_reducible apply State.loadFailed_frame | with_reducible apply State.checkImage_frame
    | with_reducible apply r_APT_PORT_CFG | with_reducible apply r_APT_PORT_STATE | with_reducible apply r_CFG_TOPO_HASH
    | with_reducible apply r_CMP_LYR_OWNER | with_reducible apply r_CMP_OUT_CUT | with_reducible apply r_CMP_OUT_INFO
    | with_reducible apply r_CMP_OUT_STATUS | with_reducible apply r_COL_OUT_PRIMS | with_reducible apply r_COL_WORK
    | with_reducible apply r_LAN_LANE_CFG | with_reducible apply r_LAN_LANE_EQ | with_reducible apply r_LAN_LANE_STATE
    | with_reducible apply r_LMP_CHAIN_CFG | with_reducible apply r_LMP_CHAIN_CFG2
    | with_reducible apply r_LMP_CHAIN_STATUS | with_reducible apply r_LMP_GROUP_CFG
    | with_reducible apply r_LMP_PS_CH_CFG | with_reducible apply r_LMP_RAIL_CEILING
    | with_reducible apply r_LMP_RAIL_LIMIT | with_reducible apply r_LXS_PORT_CFG | with_reducible apply r_LXS_PORT_STATE
    | with_reducible apply r_MEM_GROUP | with_reducible apply r_PLN_OUT_CFG | with_reducible apply r_PLN_OUT_SEGS
    | with_reducible apply r_PLN_OUT_SIZE | with_reducible apply r_SCN_ENG_RANGE | with_reducible apply r_SCN_ENG_STATE
    | with_reducible apply r_SEQ_OUT_COUNTS | with_reducible apply r_SEQ_OUT_EFF | with_reducible apply r_SEQ_OUT_LIGHT
    | with_reducible apply r_SEQ_OUT_MECH | with_reducible apply r_SEQ_OUT_SCHED | with_reducible apply r_SEQ_OUT_SPAN
    | with_reducible apply r_THM_DOM_HOLD | with_reducible apply r_THM_DOM_ON
    | (extract_lets +onlyGivenNames x; refine Fr.cut (D := D) (W := W) (K := K) (s0 := s0) (x := x) ?_ ?_; (on_goal 1 => dsimp -zeta only [x]); (on_goal 2 => intro hx; clear_value x))
    | (extract_lets +onlyGivenNames y) | split | (clear_value y; split) | (intro v w hv) | (intro v hv)

theorem doCompileDone_frame (dt o : Nat) (s : State) (hE : Ev W K) (r_APT_PORT_RETRAINS : ∀ i, W (APT_PORT_RETRAINS i))
    (r_CFG_FAIL_INFO : W CFG_FAIL_INFO) (r_CFG_LOAD_CTRL : W CFG_LOAD_CTRL) (r_CFG_STATUS : W CFG_STATUS)
    (r_SEQ_OUT_ERR : W (SEQ_OUT_ERR o)) (r_SEQ_SCHED_STATUS : W SEQ_SCHED_STATUS) (k_out : K .out) (k_cfg : K .cfg)
    (k_seq : K .seq) (k_apt : K .apt) (k_lan : K .lan) (h_s : Fr D W K s0 s) : Fr D W K s0 (doCompileDone dt o s) := by
  unfold doCompileDone
  repeat' first
    | with_reducible assumption | (simp -zeta (disch := first | assumption | exact rfl) only [↓Fr.setCfg])
    | with_reducible apply Fr.ite | with_reducible apply State.tick_frame | with_reducible apply State.onCore_frame
    | with_reducible apply State.endJob_frame | with_reducible apply State.dropReload_frame
    | with_reducible apply State.narrowDone_frame | with_reducible apply r_APT_PORT_RETRAINS
    | (extract_lets +onlyGivenNames x; refine Fr.cut (D := D) (W := W) (K := K) (s0 := s0) (x := x) ?_ ?_; (on_goal 1 => dsimp -zeta only [x]); (on_goal 2 => intro hx; clear_value x))
    | (extract_lets +onlyGivenNames y) | split | (clear_value y; split) | (intro v w hv) | (intro v hv)

theorem State.showOtp_frame (s : State) (r_CFG_OTP_STATUS : W CFG_OTP_STATUS) (h_s : Fr D W K s0 s)
    : Fr D W K s0 (State.showOtp s) := by
  unfold State.showOtp
  repeat' first
    | with_reducible assumption | with_reducible apply State.put_frame | with_reducible apply State.putB_frame

theorem State.onOpenFuses_frame (s : State) (f : CfgSt → CfgSt) (hE : Ev W K) (r_CFG_OTP_STATUS : W CFG_OTP_STATUS)
    (k_cfg : K .cfg) (h_s : Fr D W K s0 s) : Fr D W K s0 (State.onOpenFuses s f) := by
  unfold State.onOpenFuses
  repeat' first
    | with_reducible assumption | (simp -zeta (disch := first | assumption | exact rfl) only [↓Fr.setCfg])
    | with_reducible apply Fr.ite | with_reducible apply State.onLive_frame | with_reducible apply State.accessEvent_frame
    | with_reducible apply State.showOtp_frame
    | (extract_lets +onlyGivenNames x; refine Fr.cut (D := D) (W := W) (K := K) (s0 := s0) (x := x) ?_ ?_; (on_goal 1 => dsimp -zeta only [x]); (on_goal 2 => intro hx; clear_value x))
    | (extract_lets +onlyGivenNames y) | split | (intro v w hv) | (intro v hv)

theorem doOtpProgramHashByte_frame (dt slot index data : Nat) (s : State) (hE : Ev W K) (r_CFG_OTP_STATUS : W CFG_OTP_STATUS)
    (k_cfg : K .cfg) (h_s : Fr D W K s0 s) : Fr D W K s0 (doOtpProgramHashByte dt slot index data s) := by
  unfold doOtpProgramHashByte
  repeat' first
    | with_reducible assumption | with_reducible apply Fr.ite | with_reducible apply State.tick_frame
    | with_reducible apply State.onOpenFuses_frame
    | (extract_lets +onlyGivenNames x; refine Fr.cut (D := D) (W := W) (K := K) (s0 := s0) (x := x) ?_ ?_; (on_goal 1 => dsimp -zeta only [x]); (on_goal 2 => intro hx; clear_value x))
    | (extract_lets +onlyGivenNames y) | split | (intro v w hv) | (intro v hv)

theorem doOtpSetValid_frame (dt slot : Nat) (s : State) (hE : Ev W K) (r_CFG_OTP_STATUS : W CFG_OTP_STATUS) (k_cfg : K .cfg)
    (h_s : Fr D W K s0 s) : Fr D W K s0 (doOtpSetValid dt slot s) := by
  unfold doOtpSetValid
  repeat' first
    | with_reducible assumption | with_reducible apply State.tick_frame | with_reducible apply State.onOpenFuses_frame
    | (extract_lets +onlyGivenNames x; refine Fr.cut (D := D) (W := W) (K := K) (s0 := s0) (x := x) ?_ ?_; (on_goal 1 => dsimp -zeta only [x]); (on_goal 2 => intro hx; clear_value x))
    | (extract_lets +onlyGivenNames y) | (intro v w hv) | (intro v hv)

theorem doOtpSetRevoked_frame (dt slot : Nat) (s : State) (hE : Ev W K) (r_CFG_OTP_STATUS : W CFG_OTP_STATUS) (k_cfg : K .cfg)
    (h_s : Fr D W K s0 s) : Fr D W K s0 (doOtpSetRevoked dt slot s) := by
  unfold doOtpSetRevoked
  repeat' first
    | with_reducible assumption | with_reducible apply State.tick_frame | with_reducible apply State.onOpenFuses_frame
    | (extract_lets +onlyGivenNames x; refine Fr.cut (D := D) (W := W) (K := K) (s0 := s0) (x := x) ?_ ?_; (on_goal 1 => dsimp -zeta only [x]); (on_goal 2 => intro hx; clear_value x))
    | (extract_lets +onlyGivenNames y) | (intro v w hv) | (intro v hv)

theorem doOtpRaiseFloor_frame (dt data : Nat) (s : State) (hE : Ev W K) (r_CFG_OTP_STATUS : W CFG_OTP_STATUS) (k_cfg : K .cfg)
    (h_s : Fr D W K s0 s) : Fr D W K s0 (doOtpRaiseFloor dt data s) := by
  unfold doOtpRaiseFloor
  repeat' first
    | with_reducible assumption | with_reducible apply Fr.ite | with_reducible apply State.tick_frame
    | with_reducible apply State.onOpenFuses_frame
    | (extract_lets +onlyGivenNames x; refine Fr.cut (D := D) (W := W) (K := K) (s0 := s0) (x := x) ?_ ?_; (on_goal 1 => dsimp -zeta only [x]); (on_goal 2 => intro hx; clear_value x))
    | (extract_lets +onlyGivenNames y) | split | (intro v w hv) | (intro v hv)

theorem doOtpLock_frame (dt : Nat) (s : State) (hE : Ev W K) (r_CFG_OTP_STATUS : W CFG_OTP_STATUS) (k_cfg : K .cfg)
    (h_s : Fr D W K s0 s) : Fr D W K s0 (doOtpLock dt s) := by
  unfold doOtpLock
  repeat' first
    | with_reducible assumption | with_reducible apply State.tick_frame | with_reducible apply State.onOpenFuses_frame
    | (extract_lets +onlyGivenNames x; refine Fr.cut (D := D) (W := W) (K := K) (s0 := s0) (x := x) ?_ ?_; (on_goal 1 => dsimp -zeta only [x]); (on_goal 2 => intro hx; clear_value x))
    | (extract_lets +onlyGivenNames y) | (intro v w hv) | (intro v hv)

end Sys2Proof.Machine
end

