-- ==== Sys2Proof/Laws/FrameRest.lean ====
section
/-! SUPPORT. What each function leaves: registers, parts of the state, the queue and the memory. One law per function of
shutters, commits, temperature, interrupts, resets, rounds and the boundary. -/
namespace Sys2Proof.Machine

set_option linter.all false
set_option linter.unusedTactic false
set_option linter.unreachableTactic false

variable {D : List Host.Cell → Prop} {W : Nat → Prop} {K : Part → Prop} {s0 : State}

theorem State.setCam_frame (s : State) (n : Nat) (x : CamSt) (k_tim : K .tim) (h_s : Fr D W K s0 s)
    : Fr D W K s0 (State.setCam s n x) := by
  unfold State.setCam
  repeat' first
    | with_reducible assumption | (simp -zeta (disch := first | assumption | exact rfl) only [↓Fr.setTim])
    | (extract_lets +onlyGivenNames x; refine Fr.cut (D := D) (W := W) (K := K) (s0 := s0) (x := x) ?_ ?_; (on_goal 1 => dsimp -zeta only [x]); (on_goal 2 => intro hx; clear_value x))
    | (extract_lets +onlyGivenNames y)

theorem State.published_frame (s : State) (n align open_ len : Nat) (hE : Ev W K) (r_SEQ_SCHED_STATUS : W SEQ_SCHED_STATUS)
    (r_TIM_SHUT_STATUS : W (TIM_SHUT_STATUS n)) (r_TIM_SHUT_WIN_LEN : W (TIM_SHUT_WIN_LEN n))
    (r_TIM_SHUT_WIN_OPEN : W (TIM_SHUT_WIN_OPEN n)) (k_seq : K .seq) (h_s : Fr D W K s0 s)
    : Fr D W K s0 (State.published s n align open_ len) := by
  unfold State.published
  repeat' first
    | with_reducible assumption | with_reducible apply State.put_frame | with_reducible apply State.raiseB_frame
    | with_reducible apply State.inc_frame | with_reducible apply State.windowChanged_frame
    | (extract_lets +onlyGivenNames x; refine Fr.cut (D := D) (W := W) (K := K) (s0 := s0) (x := x) ?_ ?_; (on_goal 1 => dsimp -zeta only [x]); (on_goal 2 => intro hx; clear_value x))
    | (extract_lets +onlyGivenNames y)

theorem State.publishMean_frame (s : State) (n : Nat) (hE : Ev W K) (r_SEQ_SCHED_STATUS : W SEQ_SCHED_STATUS)
    (r_TIM_SHUT_STATUS : W (TIM_SHUT_STATUS n)) (r_TIM_SHUT_WIN_LEN : W (TIM_SHUT_WIN_LEN n))
    (r_TIM_SHUT_WIN_OPEN : W (TIM_SHUT_WIN_OPEN n)) (k_tim : K .tim) (k_seq : K .seq) (h_s : Fr D W K s0 s)
    : Fr D W K s0 (State.publishMean s n) := by
  unfold State.publishMean
  repeat' first
    | with_reducible assumption | with_reducible apply State.published_frame | with_reducible apply State.setCam_frame
    | (extract_lets +onlyGivenNames x; refine Fr.cut (D := D) (W := W) (K := K) (s0 := s0) (x := x) ?_ ?_; (on_goal 1 => dsimp -zeta only [x]); (on_goal 2 => intro hx; clear_value x))
    | (extract_lets +onlyGivenNames y) | split | (clear_value y; split) | (intro v w hv) | (intro v hv)

theorem State.shutterBoundary_frame (s : State) (hE : Ev W K) (r_SEQ_SCHED_STATUS : W SEQ_SCHED_STATUS)
    (r_TIM_SHUT_STATUS : ∀ i, W (TIM_SHUT_STATUS i)) (r_TIM_SHUT_WIN_LEN : ∀ i, W (TIM_SHUT_WIN_LEN i))
    (r_TIM_SHUT_WIN_OPEN : ∀ i, W (TIM_SHUT_WIN_OPEN i)) (k_tim : K .tim) (k_seq : K .seq) (h_s : Fr D W K s0 s)
    : Fr D W K s0 (State.shutterBoundary s) := by
  unfold State.shutterBoundary
  repeat' first
    | with_reducible assumption | with_reducible apply Fr.ite | with_reducible apply State.publishMean_frame
    | (with_reducible apply foldOver_frame; intro a t ht) | with_reducible apply r_TIM_SHUT_STATUS
    | with_reducible apply r_TIM_SHUT_WIN_LEN | with_reducible apply r_TIM_SHUT_WIN_OPEN | split | (intro v w hv)
    | (intro v hv)

theorem State.startCam_frame (s : State) (n : Nat) (k_tim : K .tim) (h_s : Fr D W K s0 s)
    : Fr D W K s0 (State.startCam s n) := by
  unfold State.startCam
  repeat' first
    | with_reducible assumption | with_reducible apply State.setCam_frame
    | (extract_lets +onlyGivenNames x; refine Fr.cut (D := D) (W := W) (K := K) (s0 := s0) (x := x) ?_ ?_; (on_goal 1 => dsimp -zeta only [x]); (on_goal 2 => intro hx; clear_value x))
    | (extract_lets +onlyGivenNames y) | split | (clear_value y; split) | (intro v w hv) | (intro v hv)

theorem State.shutterCommit_frame (s : State) (n old : Nat) (hE : Ev W K) (r_SEQ_SCHED_STATUS : W SEQ_SCHED_STATUS)
    (r_TIM_SHUT_STATUS : W (TIM_SHUT_STATUS n)) (r_TIM_SHUT_WIN_LEN : W (TIM_SHUT_WIN_LEN n))
    (r_TIM_SHUT_WIN_OPEN : W (TIM_SHUT_WIN_OPEN n)) (k_tim : K .tim) (k_seq : K .seq) (r_TIM_SHUT_ANGLE : ∀ i, W (TIM_SHUT_ANGLE i))
    (r_TIM_SHUT_CTRL : ∀ i, W (TIM_SHUT_CTRL i))
    (r_TIM_SHUT_OPEN : ∀ i, W (TIM_SHUT_OPEN i))
    (h_s : Fr D W K s0 s)
    : Fr D W K s0 (State.shutterCommit s n old) := by
  unfold State.shutterCommit
  repeat' first
    | with_reducible assumption | with_reducible apply r_TIM_SHUT_ANGLE | with_reducible apply r_TIM_SHUT_CTRL | with_reducible apply r_TIM_SHUT_OPEN | with_reducible apply Fr.ite | with_reducible apply State.publishMean_frame
    | with_reducible apply State.published_frame | with_reducible apply State.startCam_frame
    | with_reducible apply State.put_frame | with_reducible apply State.putB_frame
    | (extract_lets +onlyGivenNames x; refine Fr.cut (D := D) (W := W) (K := K) (s0 := s0) (x := x) ?_ ?_; (on_goal 1 => dsimp -zeta only [x]); (on_goal 2 => intro hx; clear_value x))
    | (extract_lets +onlyGivenNames y) | split | (clear_value y; split) | (intro v w hv) | (intro v hv)

theorem State.cutDacs_frame (s : State) (n : Nat) (k_out : K .out) (k_scn : K .scn) (h_s : Fr D W K s0 s)
    : Fr D W K s0 (State.cutDacs s n) := by
  unfold State.cutDacs
  repeat' first
    | with_reducible assumption | with_reducible apply Fr.ite | with_reducible apply State.setEngine_frame
    | with_reducible apply State.send_frame
    | (extract_lets +onlyGivenNames x; refine Fr.cut (D := D) (W := W) (K := K) (s0 := s0) (x := x) ?_ ?_; (on_goal 1 => dsimp -zeta only [x]); (on_goal 2 => intro hx; clear_value x))
    | (extract_lets +onlyGivenNames y) | split | (intro v w hv) | (intro v hv)

theorem State.cutLight_frame (s : State) (n kind until_ : Nat) (hE : Ev W K) (k_out : K .out) (k_tim : K .tim)
    (k_scn : K .scn) (k_lmp : K .lmp) (h_s : Fr D W K s0 s) : Fr D W K s0 (State.cutLight s n kind until_) := by
  unfold State.cutLight
  repeat' first
    | with_reducible assumption | with_reducible apply Fr.ite | (with_reducible apply foldOver_frame; intro a t ht)
    | with_reducible apply State.setCam_frame | with_reducible apply State.raise_frame
    | with_reducible apply State.dropLines_frame | with_reducible apply State.setEngine_frame
    | with_reducible apply State.cutDacs_frame
    | (extract_lets +onlyGivenNames x; refine Fr.cut (D := D) (W := W) (K := K) (s0 := s0) (x := x) ?_ ?_; (on_goal 1 => dsimp -zeta only [x]); (on_goal 2 => intro hx; clear_value x))
    | (extract_lets +onlyGivenNames y) | split | (clear_value y; split) | (intro v w hv) | (intro v hv)

theorem State.earlyOpenCut_frame (s : State) (n : Nat) (hE : Ev W K) (k_out : K .out) (k_tim : K .tim) (k_scn : K .scn)
    (k_lmp : K .lmp) (h_s : Fr D W K s0 s) : Fr D W K s0 (State.earlyOpenCut s n) := by
  unfold State.earlyOpenCut
  repeat' first
    | with_reducible assumption | with_reducible apply Fr.ite | with_reducible apply State.cutLight_frame
    | (extract_lets +onlyGivenNames x; refine Fr.cut (D := D) (W := W) (K := K) (s0 := s0) (x := x) ?_ ?_; (on_goal 1 => dsimp -zeta only [x]); (on_goal 2 => intro hx; clear_value x))
    | (extract_lets +onlyGivenNames y) | split

theorem doShutterLateCloseCut_frame (dt n : Nat) (s : State) (hE : Ev W K) (k_out : K .out) (k_tim : K .tim) (k_scn : K .scn)
    (k_lmp : K .lmp) (h_s : Fr D W K s0 s) : Fr D W K s0 (doShutterLateCloseCut dt n s) := by
  unfold doShutterLateCloseCut
  repeat' first
    | with_reducible assumption | with_reducible apply State.tick_frame | with_reducible apply State.onLiveIf_frame
    | with_reducible apply State.cutLight_frame
    | (extract_lets +onlyGivenNames x; refine Fr.cut (D := D) (W := W) (K := K) (s0 := s0) (x := x) ?_ ?_; (on_goal 1 => dsimp -zeta only [x]); (on_goal 2 => intro hx; clear_value x))
    | (extract_lets +onlyGivenNames y) | (intro v w hv) | (intro v hv)

theorem State.enterCam_frame (s : State) (n st : Nat) (mismatch : Bool) (hE : Ev W K)
    (r_TIM_SHUT_STATUS : W (TIM_SHUT_STATUS n)) (h_s : Fr D W K s0 s) : Fr D W K s0 (State.enterCam s n st mismatch) := by
  unfold State.enterCam
  repeat' first
    | with_reducible assumption | with_reducible apply Fr.ite | with_reducible apply State.putB_frame
    | with_reducible apply State.put_frame | with_reducible apply State.raise_frame
    | (extract_lets +onlyGivenNames x; refine Fr.cut (D := D) (W := W) (K := K) (s0 := s0) (x := x) ?_ ?_; (on_goal 1 => dsimp -zeta only [x]); (on_goal 2 => intro hx; clear_value x))
    | (extract_lets +onlyGivenNames y) | split | (clear_value y; split) | (intro v w hv) | (intro v hv)

theorem State.camFrame_frame (s : State) (n : Nat) (f : CamFrame) (hE : Ev W K)
    (r_TIM_SHUT_JITTER : W (TIM_SHUT_JITTER n)) (r_TIM_SHUT_STATUS : W (TIM_SHUT_STATUS n)) (k_tim : K .tim)
    (h_s : Fr D W K s0 s) : Fr D W K s0 (State.camFrame s n f) := by
  unfold State.camFrame
  repeat' first
    | with_reducible assumption | with_reducible apply Fr.ite | with_reducible apply State.setCam_frame
    | with_reducible apply State.put_frame | with_reducible apply State.putSat_frame
    | with_reducible apply State.enterCam_frame
    | (extract_lets +onlyGivenNames x; refine Fr.cut (D := D) (W := W) (K := K) (s0 := s0) (x := x) ?_ ?_; (on_goal 1 => dsimp -zeta only [x]); (on_goal 2 => intro hx; clear_value x))
    | (extract_lets +onlyGivenNames y) | split | (clear_value y; split) | (intro v w hv) | (intro v hv)

theorem doShutterEdge_frame (dt n : Nat) (high : Bool) (s : State) (hE : Ev W K)
    (r_TIM_SHUT_JITTER : W (TIM_SHUT_JITTER n)) (r_TIM_SHUT_STATUS : W (TIM_SHUT_STATUS n)) (k_out : K .out)
    (k_tim : K .tim) (k_scn : K .scn) (k_lmp : K .lmp) (h_s : Fr D W K s0 s)
    : Fr D W K s0 (doShutterEdge dt n high s) := by
  unfold doShutterEdge
  repeat' first
    | with_reducible assumption | with_reducible apply Fr.ite | with_reducible apply State.tick_frame
    | with_reducible apply State.onLiveIf_frame | with_reducible apply State.setCam_frame
    | with_reducible apply State.earlyOpenCut_frame | with_reducible apply State.camFrame_frame
    | (extract_lets +onlyGivenNames x; refine Fr.cut (D := D) (W := W) (K := K) (s0 := s0) (x := x) ?_ ?_; (on_goal 1 => dsimp -zeta only [x]); (on_goal 2 => intro hx; clear_value x))
    | (extract_lets +onlyGivenNames y) | split | (clear_value y; split) | (intro v w hv) | (intro v hv)

theorem doShutterLost_frame (dt n : Nat) (s : State) (hE : Ev W K) (r_TIM_SHUT_STATUS : W (TIM_SHUT_STATUS n))
    (k_tim : K .tim) (h_s : Fr D W K s0 s) : Fr D W K s0 (doShutterLost dt n s) := by
  unfold doShutterLost
  repeat' first
    | with_reducible assumption | with_reducible apply State.tick_frame | with_reducible apply State.onLiveIf_frame
    | with_reducible apply State.setCam_frame | with_reducible apply State.enterCam_frame
    | (extract_lets +onlyGivenNames x; refine Fr.cut (D := D) (W := W) (K := K) (s0 := s0) (x := x) ?_ ?_; (on_goal 1 => dsimp -zeta only [x]); (on_goal 2 => intro hx; clear_value x))
    | (extract_lets +onlyGivenNames y) | (intro v w hv) | (intro v hv)

theorem State.teCut_frame (s : State) (line : Nat) (k_out : K .out) (k_apt : K .apt) (k_lmp : K .lmp) (h_s : Fr D W K s0 s)
    : Fr D W K s0 (State.teCut s line) := by
  unfold State.teCut
  repeat' first
    | with_reducible assumption | (simp -zeta (disch := first | assumption | exact rfl) only [↓Fr.setApt])
    | with_reducible apply Fr.ite | with_reducible apply State.dropLines_frame
    | (extract_lets +onlyGivenNames x; refine Fr.cut (D := D) (W := W) (K := K) (s0 := s0) (x := x) ?_ ?_; (on_goal 1 => dsimp -zeta only [x]); (on_goal 2 => intro hx; clear_value x))
    | (extract_lets +onlyGivenNames y) | split | (intro v w hv) | (intro v hv) | (clear_value y; split)

theorem doTeInClose_frame (dt line : Nat) (s : State) (r_APT_PORT_STATE : ∀ i, W (APT_PORT_STATE i)) (k_out : K .out)
    (k_apt : K .apt) (k_lmp : K .lmp) (h_s : Fr D W K s0 s) : Fr D W K s0 (doTeInClose dt line s) := by
  unfold doTeInClose
  repeat' first
    | with_reducible assumption | with_reducible apply State.tick_frame | with_reducible apply State.onLive_frame
    | with_reducible apply State.teCut_frame | with_reducible apply State.putB_frame
    | (with_reducible apply foldOver_frame; intro a t ht) | with_reducible apply r_APT_PORT_STATE
    | (extract_lets +onlyGivenNames x; refine Fr.cut (D := D) (W := W) (K := K) (s0 := s0) (x := x) ?_ ?_; (on_goal 1 => dsimp -zeta only [x]); (on_goal 2 => intro hx; clear_value x))
    | (extract_lets +onlyGivenNames y) | (intro v w hv) | (intro v hv)

theorem doArmedEventTrigger_frame (dt input n : Nat) (active : Bool) (s : State) (hE : Ev W K) (k_out : K .out)
    (k_tim : K .tim) (k_apt : K .apt) (k_scn : K .scn) (k_lmp : K .lmp) (h_s : Fr D W K s0 s)
    : Fr D W K s0 (doArmedEventTrigger dt input n active s) := by
  unfold doArmedEventTrigger
  repeat' first
    | with_reducible assumption | with_reducible apply Fr.ite | with_reducible apply State.tick_frame
    | with_reducible apply State.onLive_frame | with_reducible apply State.earlyOpenCut_frame
    | with_reducible apply State.teCut_frame | split | (intro v w hv) | (intro v hv)

theorem State.setCm_frame (s : State) (c : Nat) (x : CommitSt) (k_hif : K .hif) (h_s : Fr D W K s0 s)
    : Fr D W K s0 (State.setCm s c x) := by
  unfold State.setCm
  repeat' first
    | with_reducible assumption | (simp -zeta (disch := first | assumption | exact rfl) only [↓Fr.setHif])
    | (extract_lets +onlyGivenNames x; refine Fr.cut (D := D) (W := W) (K := K) (s0 := s0) (x := x) ?_ ?_; (on_goal 1 => dsimp -zeta only [x]); (on_goal 2 => intro hx; clear_value x))
    | (extract_lets +onlyGivenNames y)

theorem State.showGroup_frame (s : State) (g : Nat) (r_HIF_GROUP_CTRL : W (HIF_GROUP_CTRL g)) (h_s : Fr D W K s0 s)
    : Fr D W K s0 (State.showGroup s g) := by
  unfold State.showGroup
  repeat' first
    | with_reducible assumption | with_reducible apply State.putB_frame

theorem State.groupBoundary_frame (s : State) (r_HIF_GROUP_CTRL : ∀ i, W (HIF_GROUP_CTRL i)) (k_hif : K .hif)
    (h_s : Fr D W K s0 s) : Fr D W K s0 (State.groupBoundary s) := by
  unfold State.groupBoundary
  repeat' first
    | with_reducible assumption | (simp -zeta (disch := first | assumption | exact rfl) only [↓Fr.setHif])
    | with_reducible apply State.showGroup_frame | (with_reducible apply foldOver_frame; intro a t ht)
    | with_reducible apply r_HIF_GROUP_CTRL
    | (extract_lets +onlyGivenNames x; refine Fr.cut (D := D) (W := W) (K := K) (s0 := s0) (x := x) ?_ ?_; (on_goal 1 => dsimp -zeta only [x]); (on_goal 2 => intro hx; clear_value x))
    | (extract_lets +onlyGivenNames y) | (intro v w hv) | (intro v hv)

theorem State.showCommits_frame (s : State) (r_CM8 : ∀ i, W (cmReg i + 8)) (h_s : Fr D W K s0 s)
    : Fr D W K s0 (State.showCommits s) := by
  unfold State.showCommits
  repeat' first
    | with_reducible assumption | with_reducible apply Fr.ite | with_reducible apply State.put_frame
    | (with_reducible apply foldOver_frame; intro a t ht) | with_reducible apply r_CM8 | split | (intro v w hv) | (intro v hv)

theorem State.dropLoads_frame (s : State) (r_PLN_STATUS : W PLN_STATUS) (k_cmp : K .cmp) (k_col : K .col) (k_pln : K .pln)
    (h_s : Fr D W K s0 s) : Fr D W K s0 (State.dropLoads s) := by
  unfold State.dropLoads
  repeat' first
    | with_reducible assumption | (simp -zeta (disch := first | assumption | exact rfl) only [↓Fr.setCmpColPln])
    | with_reducible apply State.showBuilds_frame
    | (extract_lets +onlyGivenNames x; refine Fr.cut (D := D) (W := W) (K := K) (s0 := s0) (x := x) ?_ ?_; (on_goal 1 => dsimp -zeta only [x]); (on_goal 2 => intro hx; clear_value x))
    | (extract_lets +onlyGivenNames y)

theorem State.showBook_frame (s : State) (k : Nat) (r_PLN_BOOK_STATUS : W (PLN_BOOK_STATUS k)) (h_s : Fr D W K s0 s)
    : Fr D W K s0 (State.showBook s k) := by
  unfold State.showBook
  repeat' first
    | with_reducible assumption | with_reducible apply Fr.ite | with_reducible apply State.put_frame
    | with_reducible apply State.putSat_frame
    | (extract_lets +onlyGivenNames x; refine Fr.cut (D := D) (W := W) (K := K) (s0 := s0) (x := x) ?_ ?_; (on_goal 1 => dsimp -zeta only [x]); (on_goal 2 => intro hx; clear_value x))
    | (extract_lets +onlyGivenNames y) | split | (clear_value y; split)

theorem State.switchTables_frame (s : State) (r_CMP_OUT_STATUS : ∀ i, W (CMP_OUT_STATUS i))
    (r_COL_DEC_STATUS : ∀ i, W (COL_DEC_STATUS i)) (r_COL_LUT_STATUS : ∀ i, W (COL_LUT_STATUS i))
    (r_PLN_BOOK_STATUS : ∀ i, W (PLN_BOOK_STATUS i)) (r_PLN_MASK_STATUS : W PLN_MASK_STATUS) (r_PLN_STATUS : W PLN_STATUS)
    (k_cmp : K .cmp) (k_col : K .col) (k_pln : K .pln) (h_s : Fr D W K s0 s) : Fr D W K s0 (State.switchTables s) := by
  unfold State.switchTables
  repeat' first
    | with_reducible assumption | (simp -zeta (disch := first | assumption | exact rfl) only [↓Fr.setCmpColPln])
    | with_reducible apply Fr.ite | (with_reducible apply foldOver_frame; intro a t ht)
    | with_reducible apply State.put_frame | with_reducible apply State.showBook_frame
    | with_reducible apply State.keepEst_frame | with_reducible apply State.dropLoads_frame
    | with_reducible apply r_CMP_OUT_STATUS | with_reducible apply r_COL_DEC_STATUS
    | with_reducible apply r_COL_LUT_STATUS | with_reducible apply r_PLN_BOOK_STATUS
    | (extract_lets +onlyGivenNames x; refine Fr.cut (D := D) (W := W) (K := K) (s0 := s0) (x := x) ?_ ?_; (on_goal 1 => dsimp -zeta only [x]); (on_goal 2 => intro hx; clear_value x))
    | (extract_lets +onlyGivenNames y) | split | (clear_value y; split) | (intro v w hv) | (intro v hv)

theorem State.endCommit_frame (s : State) (c st reason lfn : Nat) (atBoundary : Bool) (hE : Ev W K) (r_CM0 : W (cmReg c))
    (r_CM12 : W (cmReg c + 12)) (r_CM8 : W (cmReg c + 8)) (r_HIF_GROUP_CTRL : ∀ i, W (HIF_GROUP_CTRL i)) (k_hif : K .hif)
    (h_s : Fr D W K s0 s) : Fr D W K s0 (State.endCommit s c st reason lfn atBoundary) := by
  unfold State.endCommit
  repeat' first
    | with_reducible assumption | (simp -zeta (disch := first | assumption | exact rfl) only [↓Fr.setHif])
    | with_reducible apply Fr.ite | with_reducible apply State.put_frame | with_reducible apply State.wrN_frame
    | with_reducible apply State.showGroup_frame | with_reducible apply State.raiseCB_frame
    | with_reducible apply State.raiseC_frame | with_reducible apply r_HIF_GROUP_CTRL
    | (extract_lets +onlyGivenNames x; refine Fr.cut (D := D) (W := W) (K := K) (s0 := s0) (x := x) ?_ ?_; (on_goal 1 => dsimp -zeta only [x]); (on_goal 2 => intro hx; clear_value x))
    | (extract_lets +onlyGivenNames y) | split

theorem State.failCommit_frame (s : State) (c st reason : Nat) (atBoundary : Bool) (hE : Ev W K) (r_CM0 : W (cmReg c))
    (r_CM12 : W (cmReg c + 12)) (r_CM8 : W (cmReg c + 8)) (r_CMP_FORMING : W CMP_FORMING)
    (r_CMP_LYR_LIVE : ∀ i, W (CMP_LYR_LIVE i)) (r_CMP_OUT_STATUS : ∀ i, W (CMP_OUT_STATUS i))
    (r_COL_OUT_STATUS : ∀ i, W (COL_OUT_STATUS i)) (r_COL_STATUS : W COL_STATUS)
    (r_HIF_GROUP_CTRL : ∀ i, W (HIF_GROUP_CTRL i)) (r_PLN_OUT_STATUS : ∀ i, W (PLN_OUT_STATUS i))
    (r_PLN_STATUS : W PLN_STATUS) (k_hif : K .hif) (k_int : K .int) (k_cmp : K .cmp) (k_col : K .col) (k_pln : K .pln)
    (h_s : Fr D W K s0 s) : Fr D W K s0 (State.failCommit s c st reason atBoundary) := by
  unfold State.failCommit
  repeat' first
    | with_reducible assumption | with_reducible apply Fr.ite | with_reducible apply State.dropLoads_frame
    | with_reducible apply State.withdraw_frame | with_reducible apply State.endCommit_frame
    | with_reducible apply r_CMP_LYR_LIVE | with_reducible apply r_CMP_OUT_STATUS | with_reducible apply r_COL_OUT_STATUS
    | with_reducible apply r_HIF_GROUP_CTRL | with_reducible apply r_PLN_OUT_STATUS
    | (extract_lets +onlyGivenNames x; refine Fr.cut (D := D) (W := W) (K := K) (s0 := s0) (x := x) ?_ ?_; (on_goal 1 => dsimp -zeta only [x]); (on_goal 2 => intro hx; clear_value x))
    | (extract_lets +onlyGivenNames y) | split | (intro v w hv) | (intro v hv)

theorem State.startTables_frame (s : State) (hE : Ev W K) (r_PLN_STATUS : W PLN_STATUS)
    (r_SEQ_SCHED_STATUS : W SEQ_SCHED_STATUS) (k_cmp : K .cmp) (k_seq : K .seq) (h_s : Fr D W K s0 s)
    : Fr D W K s0 (State.startTables s) := by
  unfold State.startTables
  repeat' first
    | with_reducible assumption | (simp -zeta (disch := first | assumption | exact rfl) only [↓Fr.setCmp])
    | with_reducible apply State.limitEvent_frame | with_reducible apply State.showBuilds_frame
    | with_reducible apply State.commitCompiles_frame | (with_reducible apply foldOver_frame; intro a t ht)
    | (extract_lets +onlyGivenNames x; refine Fr.cut (D := D) (W := W) (K := K) (s0 := s0) (x := x) ?_ ?_; (on_goal 1 => dsimp -zeta only [x]); (on_goal 2 => intro hx; clear_value x))
    | (extract_lets +onlyGivenNames y) | (intro v w hv) | (intro v hv)

theorem doCommitRequest_frame (dt c : Nat) (atLfn : Bool) (tag : Nat) (s : State) (hE : Ev W K) (r_CM0 : W (cmReg c))
    (r_CM12 : W (cmReg c + 12)) (r_CM8 : ∀ i, W (cmReg i + 8)) (r_HIF_GROUP_CTRL : ∀ i, W (HIF_GROUP_CTRL i))
    (r_PLN_STATUS : W PLN_STATUS) (r_SEQ_SCHED_STATUS : W SEQ_SCHED_STATUS) (k_hif : K .hif) (k_cmp : K .cmp) (k_seq : K .seq)
    (h_s : Fr D W K s0 s) : Fr D W K s0 (doCommitRequest dt c atLfn tag s) := by
  unfold doCommitRequest
  repeat' first
    | with_reducible assumption | with_reducible apply Fr.ite | with_reducible apply State.tick_frame
    | with_reducible apply State.onReach_frame | with_reducible apply State.accessEvent_frame
    | with_reducible apply State.putB_frame | with_reducible apply State.put_frame | with_reducible apply State.setCm_frame
    | with_reducible apply State.endCommit_frame | with_reducible apply State.startTables_frame
    | with_reducible apply State.showGroup_frame | with_reducible apply State.showCommits_frame | with_reducible apply r_CM8
    | with_reducible apply r_HIF_GROUP_CTRL
    | (extract_lets +onlyGivenNames x; refine Fr.cut (D := D) (W := W) (K := K) (s0 := s0) (x := x) ?_ ?_; (on_goal 1 => dsimp -zeta only [x]); (on_goal 2 => intro hx; clear_value x))
    | (extract_lets +onlyGivenNames y) | split | (intro v w hv) | (intro v hv)

theorem doCommitCancel_frame (dt c : Nat) (s : State) (hE : Ev W K) (r_CM0 : W (cmReg c)) (r_CM12 : W (cmReg c + 12))
    (r_CM8 : ∀ i, W (cmReg i + 8)) (r_CMP_FORMING : W CMP_FORMING) (r_CMP_LYR_LIVE : ∀ i, W (CMP_LYR_LIVE i))
    (r_CMP_OUT_STATUS : ∀ i, W (CMP_OUT_STATUS i)) (r_COL_OUT_STATUS : ∀ i, W (COL_OUT_STATUS i))
    (r_COL_STATUS : W COL_STATUS) (r_HIF_GROUP_CTRL : ∀ i, W (HIF_GROUP_CTRL i))
    (r_PLN_OUT_STATUS : ∀ i, W (PLN_OUT_STATUS i)) (r_PLN_STATUS : W PLN_STATUS) (k_hif : K .hif) (k_int : K .int)
    (k_cmp : K .cmp) (k_col : K .col) (k_pln : K .pln) (h_s : Fr D W K s0 s) : Fr D W K s0 (doCommitCancel dt c s) := by
  unfold doCommitCancel
  repeat' first
    | with_reducible assumption | with_reducible apply State.tick_frame | with_reducible apply State.onReachIf_frame
    | with_reducible apply State.failCommit_frame | with_reducible apply State.showCommits_frame | with_reducible apply r_CM8
    | with_reducible apply r_CMP_LYR_LIVE | with_reducible apply r_CMP_OUT_STATUS | with_reducible apply r_COL_OUT_STATUS
    | with_reducible apply r_HIF_GROUP_CTRL | with_reducible apply r_PLN_OUT_STATUS
    | (extract_lets +onlyGivenNames x; refine Fr.cut (D := D) (W := W) (K := K) (s0 := s0) (x := x) ?_ ?_; (on_goal 1 => dsimp -zeta only [x]); (on_goal 2 => intro hx; clear_value x))
    | (extract_lets +onlyGivenNames y) | (intro v w hv) | (intro v hv)

theorem State.admitAll_frame (s : State) (cs : List Nat) (hE : Ev W K) (r_CM8 : ∀ i, W (cmReg i + 8))
    (r_CMP_FORMING : W CMP_FORMING) (r_CMP_LYR_LIVE : ∀ i, W (CMP_LYR_LIVE i)) (r_CMP_OUT_STATUS : ∀ i, W (CMP_OUT_STATUS i))
    (r_COL_OUT_STATUS : ∀ i, W (COL_OUT_STATUS i)) (r_COL_STATUS : W COL_STATUS)
    (r_PLN_OUT_STATUS : ∀ i, W (PLN_OUT_STATUS i)) (k_hif : K .hif) (k_int : K .int) (k_cmp : K .cmp) (k_col : K .col)
    (h_s : Fr D W K s0 s) : Fr D W K s0 (State.admitAll s cs) := by
  unfold State.admitAll
  repeat' first
    | with_reducible assumption | with_reducible apply State.setCm_frame | with_reducible apply State.put_frame
    | with_reducible apply State.askPass_frame | (with_reducible apply foldOver_frame; intro a t ht)
    | with_reducible apply r_CM8 | with_reducible apply r_CMP_LYR_LIVE | with_reducible apply r_CMP_OUT_STATUS
    | with_reducible apply r_COL_OUT_STATUS | with_reducible apply r_PLN_OUT_STATUS
    | (extract_lets +onlyGivenNames x; refine Fr.cut (D := D) (W := W) (K := K) (s0 := s0) (x := x) ?_ ?_; (on_goal 1 => dsimp -zeta only [x]); (on_goal 2 => intro hx; clear_value x))
    | (extract_lets +onlyGivenNames y) | split | (intro v w hv) | (intro v hv) | (clear_value y; split)

theorem doCommitAdmit_frame (dt c : Nat) (s : State) (hE : Ev W K) (r_CM8 : ∀ i, W (cmReg i + 8))
    (r_CMP_FORMING : W CMP_FORMING) (r_CMP_LYR_LIVE : ∀ i, W (CMP_LYR_LIVE i)) (r_CMP_OUT_STATUS : ∀ i, W (CMP_OUT_STATUS i))
    (r_COL_OUT_STATUS : ∀ i, W (COL_OUT_STATUS i)) (r_COL_STATUS : W COL_STATUS)
    (r_PLN_OUT_STATUS : ∀ i, W (PLN_OUT_STATUS i)) (k_hif : K .hif) (k_int : K .int) (k_cmp : K .cmp) (k_col : K .col)
    (h_s : Fr D W K s0 s) : Fr D W K s0 (doCommitAdmit dt c s) := by
  unfold doCommitAdmit
  repeat' first
    | with_reducible assumption | with_reducible apply Fr.ite | with_reducible apply State.tick_frame
    | with_reducible apply State.onLiveIf_frame | with_reducible apply State.admitAll_frame
    | with_reducible apply State.showCommits_frame | with_reducible apply r_CM8 | with_reducible apply r_CMP_LYR_LIVE
    | with_reducible apply r_CMP_OUT_STATUS | with_reducible apply r_COL_OUT_STATUS | with_reducible apply r_PLN_OUT_STATUS
    | (extract_lets +onlyGivenNames x; refine Fr.cut (D := D) (W := W) (K := K) (s0 := s0) (x := x) ?_ ?_; (on_goal 1 => dsimp -zeta only [x]); (on_goal 2 => intro hx; clear_value x))
    | (extract_lets +onlyGivenNames y) | split | (intro v w hv) | (intro v hv)

theorem State.decideFor_frame (s : State) (cs : List Nat) (k_hif : K .hif) (h_s : Fr D W K s0 s)
    : Fr D W K s0 (State.decideFor s cs) := by
  unfold State.decideFor
  repeat' first
    | with_reducible assumption | (simp -zeta (disch := first | assumption | exact rfl) only [↓Fr.setHif])
    | (extract_lets +onlyGivenNames x; refine Fr.cut (D := D) (W := W) (K := K) (s0 := s0) (x := x) ?_ ?_; (on_goal 1 => dsimp -zeta only [x]); (on_goal 2 => intro hx; clear_value x))
    | (extract_lets +onlyGivenNames y) | (intro v w hv) | (intro v hv)

theorem doCommitDecisionPoint_frame (s : State) (r_cmReg_8 : ∀ i, W (cmReg i + 8)) (k_hif : K .hif) (k_seq : K .seq)
    (h_s : Fr D W K s0 s) : Fr D W K s0 (doCommitDecisionPoint s) := by
  unfold doCommitDecisionPoint
  repeat' first
    | with_reducible assumption | (simp -zeta (disch := first | assumption | exact rfl) only [↓Fr.setNow])
    | with_reducible apply Fr.ite | with_reducible apply State.onLiveIf_frame | with_reducible apply State.takeEvent_frame
    | with_reducible apply State.decideFor_frame | with_reducible apply State.showCommits_frame
    | with_reducible apply r_cmReg_8
    | (extract_lets +onlyGivenNames x; refine Fr.cut (D := D) (W := W) (K := K) (s0 := s0) (x := x) ?_ ?_; (on_goal 1 => dsimp -zeta only [x]); (on_goal 2 => intro hx; clear_value x))
    | (extract_lets +onlyGivenNames y) | split | (clear_value y; split) | (intro v w hv) | (intro v hv)

theorem doGroupTimeout_frame (dt g : Nat) (s : State) (hE : Ev W K) (r_CM0 : ∀ i, W (cmReg i))
    (r_CM12 : ∀ i, W (cmReg i + 12)) (r_CM8 : ∀ i, W (cmReg i + 8)) (r_CMP_FORMING : W CMP_FORMING)
    (r_CMP_LYR_LIVE : ∀ i, W (CMP_LYR_LIVE i)) (r_CMP_OUT_STATUS : ∀ i, W (CMP_OUT_STATUS i))
    (r_COL_OUT_STATUS : ∀ i, W (COL_OUT_STATUS i)) (r_COL_STATUS : W COL_STATUS)
    (r_HIF_GROUP_CTRL : ∀ i, W (HIF_GROUP_CTRL i)) (r_PLN_OUT_STATUS : ∀ i, W (PLN_OUT_STATUS i))
    (r_PLN_STATUS : W PLN_STATUS) (k_hif : K .hif) (k_int : K .int) (k_cmp : K .cmp) (k_col : K .col) (k_pln : K .pln)
    (h_s : Fr D W K s0 s) : Fr D W K s0 (doGroupTimeout dt g s) := by
  unfold doGroupTimeout
  repeat' first
    | with_reducible assumption | with_reducible apply State.tick_frame | with_reducible apply State.onLiveIf_frame
    | with_reducible apply State.failCommit_frame | with_reducible apply State.incSat_frame
    | (with_reducible apply foldOver_frame; intro a t ht) | with_reducible apply r_CM0 | with_reducible apply r_CM12
    | with_reducible apply r_CM8 | with_reducible apply r_CMP_LYR_LIVE | with_reducible apply r_CMP_OUT_STATUS
    | with_reducible apply r_COL_OUT_STATUS | with_reducible apply r_HIF_GROUP_CTRL | with_reducible apply r_PLN_OUT_STATUS
    | (extract_lets +onlyGivenNames x; refine Fr.cut (D := D) (W := W) (K := K) (s0 := s0) (x := x) ?_ ?_; (on_goal 1 => dsimp -zeta only [x]); (on_goal 2 => intro hx; clear_value x))
    | (extract_lets +onlyGivenNames y) | (intro v w hv) | (intro v hv)

theorem State.startCf_frame (s : State) (o : Nat) (r_TIM_OUT_CFN : W (TIM_OUT_CFN o)) (k_tim : K .tim) (h_s : Fr D W K s0 s)
    : Fr D W K s0 (State.startCf s o) := by
  unfold State.startCf
  repeat' first
    | with_reducible assumption | (simp -zeta (disch := first | assumption | exact rfl) only [↓Fr.setTim])
    | with_reducible apply State.wrN_frame
    | (extract_lets +onlyGivenNames x; refine Fr.cut (D := D) (W := W) (K := K) (s0 := s0) (x := x) ?_ ?_; (on_goal 1 => dsimp -zeta only [x]); (on_goal 2 => intro hx; clear_value x))
    | (extract_lets +onlyGivenNames y)

theorem State.applyPf_frame (s before : State) (hE : Ev W K) (r_CMP_OUT_STATUS : ∀ i, W (CMP_OUT_STATUS i))
    (r_COL_DEC_STATUS : ∀ i, W (COL_DEC_STATUS i)) (r_COL_LUT_STATUS : ∀ i, W (COL_LUT_STATUS i))
    (r_LMP_POS_CURRENT : W LMP_POS_CURRENT) (r_LMP_POS_FACTOR : W LMP_POS_FACTOR) (r_LMP_POS_STATE : W LMP_POS_STATE)
    (r_PLN_BOOK_STATUS : ∀ i, W (PLN_BOOK_STATUS i)) (r_PLN_MASK_STATUS : W PLN_MASK_STATUS)
    (r_PLN_OUT_USED : ∀ i, W (PLN_OUT_USED i)) (r_PLN_STATUS : W PLN_STATUS) (r_SEQ_SCHED_STATUS : W SEQ_SCHED_STATUS)
    (r_TIM_DPLL_STATUS : W TIM_DPLL_STATUS) (r_TIM_SHUT_ANGLE : ∀ i, W (TIM_SHUT_ANGLE i))
    (r_TIM_SHUT_CTRL : ∀ i, W (TIM_SHUT_CTRL i)) (r_TIM_SHUT_OPEN : ∀ i, W (TIM_SHUT_OPEN i))
    (r_TIM_SHUT_STATUS : ∀ i, W (TIM_SHUT_STATUS i)) (r_TIM_SHUT_WIN_LEN : ∀ i, W (TIM_SHUT_WIN_LEN i))
    (r_TIM_SHUT_WIN_OPEN : ∀ i, W (TIM_SHUT_WIN_OPEN i)) (k_tim : K .tim) (k_cmp : K .cmp) (k_col : K .col)
    (k_pln : K .pln) (k_seq : K .seq) (k_lmp : K .lmp) (h_s : Fr D W K s0 s) : Fr D W K s0 (State.applyPf s before) := by
  unfold State.applyPf
  repeat' first
    | with_reducible assumption | with_reducible apply Fr.ite | (with_reducible apply foldOver_frame; intro a t ht)
    | with_reducible apply State.switchTables_frame | with_reducible apply State.commitLamps_frame
    | with_reducible apply State.showPos_frame | with_reducible apply State.commitSchedules_frame
    | with_reducible apply State.beginAcquire_frame | with_reducible apply State.moveOffset_frame
    | with_reducible apply State.shutterCommit_frame | with_reducible apply r_CMP_OUT_STATUS
    | with_reducible apply r_COL_DEC_STATUS | with_reducible apply r_COL_LUT_STATUS
    | with_reducible apply r_PLN_BOOK_STATUS | with_reducible apply r_PLN_OUT_USED | with_reducible apply r_TIM_SHUT_ANGLE
    | with_reducible apply r_TIM_SHUT_CTRL | with_reducible apply r_TIM_SHUT_OPEN | with_reducible apply r_TIM_SHUT_STATUS
    | with_reducible apply r_TIM_SHUT_WIN_LEN | with_reducible apply r_TIM_SHUT_WIN_OPEN
    | (extract_lets +onlyGivenNames x; refine Fr.cut (D := D) (W := W) (K := K) (s0 := s0) (x := x) ?_ ?_; (on_goal 1 => dsimp -zeta only [x]); (on_goal 2 => intro hx; clear_value x))
    | (extract_lets +onlyGivenNames y) | split | (clear_value y; split) | (intro v w hv) | (intro v hv)

theorem State.passGoesOn_frame (s : State) (cs : List Nat) (o : Nat) (k_cmp : K .cmp) (h_s : Fr D W K s0 s)
    : Fr D W K s0 (State.passGoesOn s cs o) := by
  unfold State.passGoesOn
  repeat' first
    | with_reducible assumption | with_reducible apply State.setPasses_frame
    | (extract_lets +onlyGivenNames x; refine Fr.cut (D := D) (W := W) (K := K) (s0 := s0) (x := x) ?_ ?_; (on_goal 1 => dsimp -zeta only [x]); (on_goal 2 => intro hx; clear_value x))
    | (extract_lets +onlyGivenNames y) | split | (clear_value y; split) | (intro v w hv) | (intro v hv)

theorem State.applyCommits_frame (s : State) (hE : Ev W K) (r_CMP_FORMING : W CMP_FORMING)
    (r_CMP_OUT_STATUS : ∀ i, W (CMP_OUT_STATUS i)) (r_COL_DEC_STATUS : ∀ i, W (COL_DEC_STATUS i))
    (r_COL_LUT_STATUS : ∀ i, W (COL_LUT_STATUS i)) (r_COL_STATUS : W COL_STATUS)
    (r_HIF_GROUP_CTRL : ∀ i, W (HIF_GROUP_CTRL i)) (r_PLN_BOOK_STATUS : ∀ i, W (PLN_BOOK_STATUS i))
    (r_PLN_MASK_STATUS : W PLN_MASK_STATUS) (r_PLN_OUT_STATUS : ∀ i, W (PLN_OUT_STATUS i))
    (r_PLN_OUT_USED : ∀ i, W (PLN_OUT_USED i)) (r_PLN_STATUS : W PLN_STATUS) (r_SEQ_OUT_SCHED : ∀ i, W (SEQ_OUT_SCHED i))
    (r_SEQ_SCHED_STATUS : W SEQ_SCHED_STATUS) (r_TIM_DPLL_STATUS : W TIM_DPLL_STATUS)
    (r_TIM_OUT_CFN : ∀ i, W (TIM_OUT_CFN i)) (r_TIM_SHUT_ANGLE : ∀ i, W (TIM_SHUT_ANGLE i))
    (r_TIM_SHUT_CTRL : ∀ i, W (TIM_SHUT_CTRL i)) (r_TIM_SHUT_OPEN : ∀ i, W (TIM_SHUT_OPEN i))
    (r_TIM_SHUT_STATUS : ∀ i, W (TIM_SHUT_STATUS i)) (r_TIM_SHUT_WIN_LEN : ∀ i, W (TIM_SHUT_WIN_LEN i))
    (r_TIM_SHUT_WIN_OPEN : ∀ i, W (TIM_SHUT_WIN_OPEN i)) (r_cmReg : ∀ i, W (cmReg i)) (r_cmReg_12 : ∀ i, W (cmReg i + 12))
    (r_cmReg_8 : ∀ i, W (cmReg i + 8)) (r_rectReg0x14 : ∀ i j, W (rectReg i j 0x14))
    (r_rectReg0x18 : ∀ i j, W (rectReg i j 0x18)) (k_act : K .act) (k_tim : K .tim) (k_hif : K .hif) (k_int : K .int)
    (k_cmp : K .cmp) (k_col : K .col) (k_pln : K .pln) (k_seq : K .seq) (k_lmp : K .lmp) (r_LMP_POS_CURRENT : W LMP_POS_CURRENT)
    (r_LMP_POS_FACTOR : W LMP_POS_FACTOR)
    (r_LMP_POS_STATE : W LMP_POS_STATE)
    (h_s : Fr D W K s0 s)
    : Fr D W K s0 (State.applyCommits s) := by
  unfold State.applyCommits
  repeat' first
    | with_reducible assumption | with_reducible apply Fr.ite | (with_reducible apply foldOver_frame; intro a t ht)
    | with_reducible apply State.applyShadow_frame | with_reducible apply State.applyPf_frame
    | with_reducible apply State.startCf_frame | with_reducible apply State.applyPass_frame
    | with_reducible apply State.passGoesOn_frame | with_reducible apply State.showUsed_frame
    | with_reducible apply State.endCommit_frame | with_reducible apply r_CMP_OUT_STATUS
    | with_reducible apply r_COL_DEC_STATUS | with_reducible apply r_COL_LUT_STATUS
    | with_reducible apply r_HIF_GROUP_CTRL | with_reducible apply r_PLN_BOOK_STATUS
    | with_reducible apply r_PLN_OUT_STATUS | with_reducible apply r_PLN_OUT_USED | with_reducible apply r_SEQ_OUT_SCHED
    | with_reducible apply r_TIM_OUT_CFN | with_reducible apply r_TIM_SHUT_ANGLE | with_reducible apply r_TIM_SHUT_CTRL
    | with_reducible apply r_TIM_SHUT_OPEN | with_reducible apply r_TIM_SHUT_STATUS
    | with_reducible apply r_TIM_SHUT_WIN_LEN | with_reducible apply r_TIM_SHUT_WIN_OPEN | with_reducible apply r_cmReg
    | with_reducible apply r_cmReg_12 | with_reducible apply r_cmReg_8 | with_reducible apply r_rectReg0x14
    | with_reducible apply r_rectReg0x18
    | (extract_lets +onlyGivenNames x; refine Fr.cut (D := D) (W := W) (K := K) (s0 := s0) (x := x) ?_ ?_; (on_goal 1 => dsimp -zeta only [x]); (on_goal 2 => intro hx; clear_value x))
    | (extract_lets +onlyGivenNames y) | split | (clear_value y; split) | (intro v w hv) | (intro v hv)

theorem State.moveCommits_frame (s : State) (r_CM8 : ∀ i, W (cmReg i + 8)) (k_hif : K .hif) (h_s : Fr D W K s0 s)
    : Fr D W K s0 (State.moveCommits s) := by
  unfold State.moveCommits
  repeat' first
    | with_reducible assumption | with_reducible apply State.put_frame | with_reducible apply State.decideFor_frame
    | (with_reducible apply foldOver_frame; intro a t ht) | with_reducible apply r_CM8 | (intro v w hv) | (intro v hv)

theorem State.repeatOutputs_frame (s : State) (started : List Nat) (r_TIM_OUT_LATE : ∀ i, W (TIM_OUT_LATE i))
    (r_TIM_OUT_REPEATS : ∀ i, W (TIM_OUT_REPEATS i)) (k_tim : K .tim) (h_s : Fr D W K s0 s)
    : Fr D W K s0 (State.repeatOutputs s started) := by
  unfold State.repeatOutputs
  repeat' first
    | with_reducible assumption | (simp -zeta (disch := first | assumption | exact rfl) only [↓Fr.setTim])
    | with_reducible apply Fr.ite | with_reducible apply State.inc_frame | (with_reducible apply foldOver_frame; intro a t ht)
    | with_reducible apply r_TIM_OUT_LATE | with_reducible apply r_TIM_OUT_REPEATS
    | (extract_lets +onlyGivenNames x; refine Fr.cut (D := D) (W := W) (K := K) (s0 := s0) (x := x) ?_ ?_; (on_goal 1 => dsimp -zeta only [x]); (on_goal 2 => intro hx; clear_value x))
    | (extract_lets +onlyGivenNames y) | split | (intro v w hv) | (intro v hv)

theorem State.rampDomains_frame (s : State) (r_CMP_STATUS : W CMP_STATUS) (r_THM_DOM_ON : ∀ i, W (THM_DOM_ON i))
    (k_thm : K .thm) (h_s : Fr D W K s0 s) : Fr D W K s0 (State.rampDomains s) := by
  unfold State.rampDomains
  repeat' first
    | with_reducible assumption | (simp -zeta (disch := first | assumption | exact rfl) only [↓Fr.setThm])
    | with_reducible apply Fr.ite | with_reducible apply State.setDomOn_frame | with_reducible apply State.mirrorDom_frame
    | (with_reducible apply foldOver_frame; intro a t ht) | with_reducible apply r_THM_DOM_ON
    | (extract_lets +onlyGivenNames x; refine Fr.cut (D := D) (W := W) (K := K) (s0 := s0) (x := x) ?_ ?_; (on_goal 1 => dsimp -zeta only [x]); (on_goal 2 => intro hx; clear_value x))
    | (extract_lets +onlyGivenNames y) | split | (intro v w hv) | (intro v hv) | (clear_value y; split)

theorem doDomainWake_frame (dt d use : Nat) (s : State) (r_CMP_STATUS : W CMP_STATUS) (r_THM_DOM_ON : ∀ i, W (THM_DOM_ON i))
    (k_thm : K .thm) (h_s : Fr D W K s0 s) : Fr D W K s0 (doDomainWake dt d use s) := by
  unfold doDomainWake
  repeat' first
    | with_reducible assumption | (simp -zeta (disch := first | assumption | exact rfl) only [↓Fr.setThm])
    | with_reducible apply Fr.ite | with_reducible apply State.tick_frame | with_reducible apply State.onLiveIf_frame
    | with_reducible apply State.rampDomains_frame | with_reducible apply r_THM_DOM_ON
    | (extract_lets +onlyGivenNames x; refine Fr.cut (D := D) (W := W) (K := K) (s0 := s0) (x := x) ?_ ?_; (on_goal 1 => dsimp -zeta only [x]); (on_goal 2 => intro hx; clear_value x))
    | (extract_lets +onlyGivenNames y) | split | (intro v w hv) | (intro v hv)

theorem doDomainOff_frame (dt d : Nat) (s : State) (r_CMP_STATUS : W CMP_STATUS) (r_THM_DOM_ON : ∀ i, W (THM_DOM_ON i))
    (k_thm : K .thm) (h_s : Fr D W K s0 s) : Fr D W K s0 (doDomainOff dt d s) := by
  unfold doDomainOff
  repeat' first
    | with_reducible assumption | with_reducible apply Fr.ite | with_reducible apply State.tick_frame
    | with_reducible apply State.onLiveIf_frame | with_reducible apply State.rampDomains_frame
    | with_reducible apply State.setDomOn_frame | with_reducible apply State.mirrorDom_frame
    | with_reducible apply r_THM_DOM_ON
    | (extract_lets +onlyGivenNames x; refine Fr.cut (D := D) (W := W) (K := K) (s0 := s0) (x := x) ?_ ?_; (on_goal 1 => dsimp -zeta only [x]); (on_goal 2 => intro hx; clear_value x))
    | (extract_lets +onlyGivenNames y) | split | (intro v w hv) | (intro v hv)

theorem State.stopForming_frame (s : State) (r_CMP_FORMING : W CMP_FORMING) (r_CMP_OUT_STATUS : ∀ i, W (CMP_OUT_STATUS i))
    (r_COL_STATUS : W COL_STATUS) (r_PLN_OUT_STATUS : ∀ i, W (PLN_OUT_STATUS i)) (k_hif : K .hif) (k_cmp : K .cmp)
    (k_pln : K .pln) (h_s : Fr D W K s0 s) : Fr D W K s0 (State.stopForming s) := by
  unfold State.stopForming
  repeat' first
    | with_reducible assumption | (simp -zeta (disch := first | assumption | exact rfl) only [↓Fr.setHifCmpPln])
    | with_reducible apply Fr.ite | with_reducible apply State.put_frame | with_reducible apply State.showForming_frame
    | with_reducible apply State.showDrift_frame | (with_reducible apply foldOver_frame; intro a t ht)
    | with_reducible apply r_CMP_OUT_STATUS | with_reducible apply r_PLN_OUT_STATUS
    | (extract_lets +onlyGivenNames x; refine Fr.cut (D := D) (W := W) (K := K) (s0 := s0) (x := x) ?_ ?_; (on_goal 1 => dsimp -zeta only [x]); (on_goal 2 => intro hx; clear_value x))
    | (extract_lets +onlyGivenNames y) | split | (intro v w hv) | (intro v hv)

theorem State.hardwareClass_frame (s : State) (hE : Ev W K) (r_LMP_HB : W LMP_HB) (r_LMP_SAFETY : W LMP_SAFETY)
    (r_SCN_ENG_EST_AMP : ∀ i, W (SCN_ENG_EST_AMP i)) (r_SCN_ENG_STATE : ∀ i, W (SCN_ENG_STATE i))
    (r_SCN_STATUS : W SCN_STATUS) (k_out : K .out) (k_glb : K .glb) (k_apt : K .apt) (k_scn : K .scn) (k_lmp : K .lmp)
    (k_lan : K .lan) (k_mem : K .mem)
    (h_s : Fr D W K s0 s) : Fr D W K s0 (State.hardwareClass s) := by
  unfold State.hardwareClass
  repeat' first
    | with_reducible assumption | (simp -zeta (disch := first | assumption | exact rfl) only [↓Fr.setGlb])
    | with_reducible apply State.allGatesLow_frame | with_reducible apply State.hbUpdate_frame
    | with_reducible apply State.scanShutdown_frame | with_reducible apply State.parkAll_frame
    | with_reducible apply r_SCN_ENG_EST_AMP | with_reducible apply r_SCN_ENG_STATE
    | (extract_lets +onlyGivenNames x; refine Fr.cut (D := D) (W := W) (K := K) (s0 := s0) (x := x) ?_ ?_; (on_goal 1 => dsimp -zeta only [x]); (on_goal 2 => intro hx; clear_value x))
    | (extract_lets +onlyGivenNames y)

theorem State.orderlyClass_frame (s : State) (hE : Ev W K) (r_CAL_CULLET : W CAL_CULLET)
    (r_CAL_SESS_STATUS : ∀ i, W (CAL_SESS_STATUS i)) (r_CAL_STORE_STATUS : W CAL_STORE_STATUS)
    (r_CFG_FAIL_INFO : W CFG_FAIL_INFO) (r_CFG_LOAD_CTRL : W CFG_LOAD_CTRL) (r_CFG_STATUS : W CFG_STATUS)
    (r_CMP_FORMING : W CMP_FORMING) (r_CMP_LYR_LIVE : ∀ i, W (CMP_LYR_LIVE i)) (r_CMP_OUT_STATUS : ∀ i, W (CMP_OUT_STATUS i))
    (r_COL_OUT_STATUS : ∀ i, W (COL_OUT_STATUS i)) (r_COL_PRIM_LOOP : ∀ i, W (COL_PRIM_LOOP i)) (r_COL_STATUS : W COL_STATUS)
    (r_LAN_LANE_EQ : ∀ i, W (LAN_LANE_EQ i)) (r_LAN_LANE_STATE : ∀ i, W (LAN_LANE_STATE i)) (r_LAN_STATUS : W LAN_STATUS)
    (r_LXS_PORT_STATE : ∀ i, W (LXS_PORT_STATE i)) (r_LXS_STATUS : W LXS_STATUS) (r_MEM_STATUS : W MEM_STATUS)
    (r_PLN_OUT_STATUS : ∀ i, W (PLN_OUT_STATUS i)) (r_TIM_DPLL_STATUS : W TIM_DPLL_STATUS)
    (r_TIM_REF_STATUS : W TIM_REF_STATUS) (k_fresh : K .fresh) (k_tim : K .tim) (k_cfg : K .cfg) (k_hif : K .hif)
    (k_mem : K .mem) (k_int : K .int) (k_cmp : K .cmp) (k_col : K .col) (k_pln : K .pln) (k_seq : K .seq) (k_lan : K .lan)
    (k_lxs : K .lxs) (k_cal : K .cal) (r_MEM_SR_STATUS : W MEM_SR_STATUS)
    (r_THM_DOM_ON : ∀ i, W (THM_DOM_ON i))
    (h_s : Fr D W K s0 s) : Fr D W K s0 (State.orderlyClass s) := by
  unfold State.orderlyClass
  repeat' first
    | with_reducible assumption
    | with_reducible apply r_THM_DOM_ON | with_reducible apply Fr.ite | with_reducible apply State.stopForming_frame
    | with_reducible apply State.dropReload_frame | with_reducible apply State.abortSessions_frame
    | with_reducible apply State.memShutdown_frame | with_reducible apply State.lxsDetach_frame
    | with_reducible apply r_CAL_SESS_STATUS | with_reducible apply r_CMP_LYR_LIVE | with_reducible apply r_CMP_OUT_STATUS
    | with_reducible apply r_COL_OUT_STATUS | with_reducible apply r_COL_PRIM_LOOP | with_reducible apply r_LAN_LANE_EQ
    | with_reducible apply r_LAN_LANE_STATE | with_reducible apply r_LXS_PORT_STATE | with_reducible apply r_PLN_OUT_STATUS
    | (extract_lets +onlyGivenNames x; refine Fr.cut (D := D) (W := W) (K := K) (s0 := s0) (x := x) ?_ ?_; (on_goal 1 => dsimp -zeta only [x]); (on_goal 2 => intro hx; clear_value x))
    | (extract_lets +onlyGivenNames y) | split

theorem State.enterShutdown_frame (s : State) (cause : Nat) (hE : Ev W K) (r_CAL_CULLET : W CAL_CULLET)
    (r_CAL_SESS_STATUS : ∀ i, W (CAL_SESS_STATUS i)) (r_CAL_STORE_STATUS : W CAL_STORE_STATUS)
    (r_CFG_FAIL_INFO : W CFG_FAIL_INFO) (r_CFG_LOAD_CTRL : W CFG_LOAD_CTRL) (r_CFG_STATUS : W CFG_STATUS)
    (r_CMP_FORMING : W CMP_FORMING) (r_CMP_LYR_LIVE : ∀ i, W (CMP_LYR_LIVE i)) (r_CMP_OUT_STATUS : ∀ i, W (CMP_OUT_STATUS i))
    (r_COL_OUT_STATUS : ∀ i, W (COL_OUT_STATUS i)) (r_COL_PRIM_LOOP : ∀ i, W (COL_PRIM_LOOP i)) (r_COL_STATUS : W COL_STATUS)
    (r_LAN_LANE_EQ : ∀ i, W (LAN_LANE_EQ i)) (r_LAN_LANE_STATE : ∀ i, W (LAN_LANE_STATE i)) (r_LAN_STATUS : W LAN_STATUS)
    (r_LMP_HB : W LMP_HB) (r_LMP_SAFETY : W LMP_SAFETY) (r_LXS_PORT_STATE : ∀ i, W (LXS_PORT_STATE i))
    (r_LXS_STATUS : W LXS_STATUS) (r_MEM_STATUS : W MEM_STATUS) (r_PLN_OUT_STATUS : ∀ i, W (PLN_OUT_STATUS i))
    (r_SCN_ENG_EST_AMP : ∀ i, W (SCN_ENG_EST_AMP i)) (r_SCN_ENG_STATE : ∀ i, W (SCN_ENG_STATE i))
    (r_SCN_STATUS : W SCN_STATUS) (r_THM_CTRL : W THM_CTRL) (r_THM_SD : W THM_SD) (r_THM_SD_LFN : W THM_SD_LFN)
    (r_THM_STATUS : W THM_STATUS) (r_TIM_DPLL_STATUS : W TIM_DPLL_STATUS) (r_TIM_REF_STATUS : W TIM_REF_STATUS)
    (k_fresh : K .fresh) (k_out : K .out) (k_glb : K .glb) (k_tim : K .tim) (k_cfg : K .cfg) (k_hif : K .hif) (k_mem : K .mem)
    (k_int : K .int) (k_cmp : K .cmp) (k_col : K .col) (k_pln : K .pln) (k_seq : K .seq) (k_apt : K .apt) (k_scn : K .scn)
    (k_lmp : K .lmp) (k_lan : K .lan) (k_lxs : K .lxs) (k_thm : K .thm) (k_cal : K .cal) (r_MEM_SR_STATUS : W MEM_SR_STATUS)
    (r_THM_DOM_ON : ∀ i, W (THM_DOM_ON i))
    (h_s : Fr D W K s0 s)
    : Fr D W K s0 (State.enterShutdown s cause) := by
  unfold State.enterShutdown
  repeat' first
    | with_reducible assumption
    | with_reducible apply r_THM_DOM_ON | (simp -zeta (disch := first | assumption | exact rfl) only [↓Fr.setThm])
    | with_reducible apply Fr.ite | with_reducible apply State.inc_frame | with_reducible apply State.raise_frame
    | with_reducible apply State.put_frame | with_reducible apply State.wrN_frame | with_reducible apply State.putB_frame
    | with_reducible apply State.hardwareClass_frame | with_reducible apply State.orderlyClass_frame
    | with_reducible apply r_CAL_SESS_STATUS | with_reducible apply r_CMP_LYR_LIVE | with_reducible apply r_CMP_OUT_STATUS
    | with_reducible apply r_COL_OUT_STATUS | with_reducible apply r_COL_PRIM_LOOP | with_reducible apply r_LAN_LANE_EQ
    | with_reducible apply r_LAN_LANE_STATE | with_reducible apply r_LXS_PORT_STATE | with_reducible apply r_PLN_OUT_STATUS
    | with_reducible apply r_SCN_ENG_EST_AMP | with_reducible apply r_SCN_ENG_STATE
    | (extract_lets +onlyGivenNames x; refine Fr.cut (D := D) (W := W) (K := K) (s0 := s0) (x := x) ?_ ?_; (on_goal 1 => dsimp -zeta only [x]); (on_goal 2 => intro hx; clear_value x))
    | (extract_lets +onlyGivenNames y) | split

theorem State.loseMemory_frame (hD : DramOk D) (s : State) (r_HIF_POOL_FREE : W HIF_POOL_FREE) (r_HIF_STATUS : W HIF_STATUS)
    (k_fresh : K .fresh) (k_hif : K .hif) (k_mem : K .mem) (h_s : Fr D W K s0 s) : Fr D W K s0 (State.loseMemory s) := by
  unfold State.loseMemory
  repeat' first
    | with_reducible assumption | (simp -zeta (disch := first | assumption | exact rfl) only [↓Fr.setHif])
    | with_reducible apply State.memWrite_frame hD | with_reducible apply State.useFree_frame
    | with_reducible apply State.put_frame | (with_reducible apply foldOver_frame; intro a t ht)
    | (extract_lets +onlyGivenNames x; refine Fr.cut (D := D) (W := W) (K := K) (s0 := s0) (x := x) ?_ ?_; (on_goal 1 => dsimp -zeta only [x]); (on_goal 2 => intro hx; clear_value x))
    | (extract_lets +onlyGivenNames y) | (intro v w hv) | (intro v hv)

theorem State.endGrace_frame (hD : DramOk D) (s : State) (cut : Bool) (hE : Ev W K)
    (r_APT_PORT_STATE : ∀ i, W (APT_PORT_STATE i)) (r_APT_STATUS : W APT_STATUS) (r_CAL_CULLET : W CAL_CULLET)
    (r_CAL_STORE_STATUS : W CAL_STORE_STATUS) (r_CMP_STATUS : W CMP_STATUS) (r_GLB_BOOT_STATUS : W GLB_BOOT_STATUS)
    (r_HIF_POOL_FREE : W HIF_POOL_FREE) (r_HIF_STATUS : W HIF_STATUS) (r_LAN_LANE_STATE : ∀ i, W (LAN_LANE_STATE i))
    (r_LAN_STATUS : W LAN_STATUS) (r_LMP_HB : W LMP_HB) (r_LMP_SAFETY : W LMP_SAFETY) (r_MEM_SR_STATUS : W MEM_SR_STATUS)
    (r_MEM_STATUS : W MEM_STATUS) (r_PLN_OUT_STATUS : ∀ i, W (PLN_OUT_STATUS i)) (r_PLN_STATUS : W PLN_STATUS)
    (r_THM_DOM_ON : ∀ i, W (THM_DOM_ON i)) (r_THM_SD : W THM_SD) (r_THM_STATUS : W THM_STATUS) (k_fresh : K .fresh)
    (k_out : K .out) (k_hif : K .hif) (k_mem : K .mem) (k_pln : K .pln) (k_seq : K .seq) (k_apt : K .apt) (k_scn : K .scn)
    (k_lmp : K .lmp) (k_lan : K .lan) (k_thm : K .thm) (k_cal : K .cal) (h_s : Fr D W K s0 s)
    : Fr D W K s0 (State.endGrace s cut) := by
  unfold State.endGrace
  repeat' first
    | with_reducible assumption | (simp -zeta (disch := first | assumption | exact rfl) only [↓Fr.setPlnSeqAptThm])
    | with_reducible apply Fr.ite | (with_reducible apply foldOver_frame; intro a t ht)
    | with_reducible apply State.putSat_frame | with_reducible apply State.putB_frame
    | with_reducible apply State.stopStore_frame | with_reducible apply State.startupUndone_frame
    | with_reducible apply State.loseMemory_frame hD | with_reducible apply State.memRest_frame
    | with_reducible apply State.setDomOn_frame | with_reducible apply State.mirrorDom_frame
    | with_reducible apply State.put_frame | with_reducible apply State.enterPort_frame
    | with_reducible apply State.setLane_frame | with_reducible apply State.setLaneState_frame
    | with_reducible apply State.showLan_frame | with_reducible apply r_APT_PORT_STATE
    | with_reducible apply r_LAN_LANE_STATE | with_reducible apply r_PLN_OUT_STATUS | with_reducible apply r_THM_DOM_ON
    | (extract_lets +onlyGivenNames x; refine Fr.cut (D := D) (W := W) (K := K) (s0 := s0) (x := x) ?_ ?_; (on_goal 1 => dsimp -zeta only [x]); (on_goal 2 => intro hx; clear_value x))
    | (extract_lets +onlyGivenNames y) | split | (clear_value y; split) | (intro v w hv) | (intro v hv)

theorem doGraceEnd_frame (hD : DramOk D) (dt : Nat) (s : State) (hE : Ev W K) (r_APT_PORT_STATE : ∀ i, W (APT_PORT_STATE i))
    (r_APT_STATUS : W APT_STATUS) (r_CAL_CULLET : W CAL_CULLET) (r_CAL_STORE_STATUS : W CAL_STORE_STATUS)
    (r_CMP_STATUS : W CMP_STATUS) (r_GLB_BOOT_STATUS : W GLB_BOOT_STATUS) (r_HIF_POOL_FREE : W HIF_POOL_FREE)
    (r_HIF_STATUS : W HIF_STATUS) (r_LAN_LANE_STATE : ∀ i, W (LAN_LANE_STATE i)) (r_LAN_STATUS : W LAN_STATUS)
    (r_LMP_HB : W LMP_HB) (r_LMP_SAFETY : W LMP_SAFETY) (r_PLN_OUT_STATUS : ∀ i, W (PLN_OUT_STATUS i))
    (r_PLN_STATUS : W PLN_STATUS) (r_THM_DOM_ON : ∀ i, W (THM_DOM_ON i)) (r_THM_SD : W THM_SD) (r_THM_STATUS : W THM_STATUS)
    (k_fresh : K .fresh) (k_out : K .out) (k_hif : K .hif) (k_mem : K .mem) (k_pln : K .pln) (k_seq : K .seq) (k_apt : K .apt)
    (k_scn : K .scn) (k_lmp : K .lmp) (k_lan : K .lan) (k_thm : K .thm) (k_cal : K .cal) (r_MEM_SR_STATUS : W MEM_SR_STATUS)
    (r_MEM_STATUS : W MEM_STATUS)
    (h_s : Fr D W K s0 s)
    : Fr D W K s0 (doGraceEnd dt s) := by
  unfold doGraceEnd
  repeat' first
    | with_reducible assumption | with_reducible apply State.tick_frame | with_reducible apply State.onLiveIf_frame
    | with_reducible apply State.endGrace_frame hD | with_reducible apply r_APT_PORT_STATE
    | with_reducible apply r_LAN_LANE_STATE | with_reducible apply r_PLN_OUT_STATUS | with_reducible apply r_THM_DOM_ON
    | (extract_lets +onlyGivenNames x; refine Fr.cut (D := D) (W := W) (K := K) (s0 := s0) (x := x) ?_ ?_; (on_goal 1 => dsimp -zeta only [x]); (on_goal 2 => intro hx; clear_value x))
    | (extract_lets +onlyGivenNames y) | (intro v w hv) | (intro v hv)

theorem State.fastRiseCheck_frame (hD : DramOk D) (s : State) (hE : Ev W K) (r_APT_PORT_STATE : ∀ i, W (APT_PORT_STATE i))
    (r_APT_STATUS : W APT_STATUS) (r_CAL_CULLET : W CAL_CULLET) (r_CAL_STORE_STATUS : W CAL_STORE_STATUS)
    (r_CMP_STATUS : W CMP_STATUS) (r_GLB_BOOT_STATUS : W GLB_BOOT_STATUS) (r_HIF_POOL_FREE : W HIF_POOL_FREE)
    (r_HIF_STATUS : W HIF_STATUS) (r_LAN_LANE_STATE : ∀ i, W (LAN_LANE_STATE i)) (r_LAN_STATUS : W LAN_STATUS)
    (r_LMP_HB : W LMP_HB) (r_LMP_SAFETY : W LMP_SAFETY) (r_PLN_OUT_STATUS : ∀ i, W (PLN_OUT_STATUS i))
    (r_PLN_STATUS : W PLN_STATUS) (r_THM_DOM_ON : ∀ i, W (THM_DOM_ON i)) (r_THM_SD : W THM_SD) (r_THM_STATUS : W THM_STATUS)
    (k_fresh : K .fresh) (k_out : K .out) (k_hif : K .hif) (k_mem : K .mem) (k_pln : K .pln) (k_seq : K .seq) (k_apt : K .apt)
    (k_scn : K .scn) (k_lmp : K .lmp) (k_lan : K .lan) (k_thm : K .thm) (k_cal : K .cal) (r_MEM_SR_STATUS : W MEM_SR_STATUS)
    (r_MEM_STATUS : W MEM_STATUS)
    (h_s : Fr D W K s0 s)
    : Fr D W K s0 (State.fastRiseCheck s) := by
  unfold State.fastRiseCheck
  repeat' first
    | with_reducible assumption | with_reducible apply Fr.ite | with_reducible apply State.endGrace_frame hD
    | with_reducible apply r_APT_PORT_STATE | with_reducible apply r_LAN_LANE_STATE | with_reducible apply r_PLN_OUT_STATUS
    | with_reducible apply r_THM_DOM_ON | split

theorem State.beginRestart_frame (s : State) (automatic : Bool) (hE : Ev W K) (r_APT_PORT_STATE : ∀ i, W (APT_PORT_STATE i))
    (r_APT_STATUS : W APT_STATUS) (r_CAL_CULLET : W CAL_CULLET) (r_CMP_STATUS : W CMP_STATUS)
    (r_LAN_LANE_EQ : ∀ i, W (LAN_LANE_EQ i)) (r_LAN_LANE_STATE : ∀ i, W (LAN_LANE_STATE i)) (r_LAN_STATUS : W LAN_STATUS)
    (r_LMP_CHAIN_STATUS : ∀ i, W (LMP_CHAIN_STATUS i)) (r_LMP_HB : W LMP_HB) (r_LMP_SAFETY : W LMP_SAFETY)
    (r_LXS_PORT_STATE : ∀ i, W (LXS_PORT_STATE i)) (r_LXS_STATUS : W LXS_STATUS) (r_MEM_SR_STATUS : W MEM_SR_STATUS)
    (r_MEM_STATUS : W MEM_STATUS) (r_PLN_STATUS : W PLN_STATUS) (r_SCN_ENG_STATE : ∀ i, W (SCN_ENG_STATE i))
    (r_SCN_STATUS : W SCN_STATUS) (r_THM_CTRL : W THM_CTRL) (r_THM_DOM_ON : ∀ i, W (THM_DOM_ON i))
    (r_THM_RESTART : W THM_RESTART) (r_THM_STATUS : W THM_STATUS) (k_out : K .out) (k_glb : K .glb) (k_mem : K .mem)
    (k_apt : K .apt) (k_scn : K .scn) (k_lmp : K .lmp) (k_lan : K .lan) (k_lxs : K .lxs) (k_thm : K .thm)
    (h_s : Fr D W K s0 s) : Fr D W K s0 (State.beginRestart s automatic) := by
  unfold State.beginRestart
  repeat' first
    | with_reducible assumption | (simp -zeta (disch := first | assumption | exact rfl) only [↓Fr.setGlbMem, ↓Fr.setThm])
    | with_reducible apply Fr.ite | with_reducible apply State.put_frame | with_reducible apply State.putB_frame
    | with_reducible apply State.putSat_frame | with_reducible apply State.inc_frame | with_reducible apply State.raise_frame
    | with_reducible apply State.powerTiles_frame | with_reducible apply State.powerImage_frame
    | with_reducible apply State.wakeStacks_frame | with_reducible apply State.startParts_frame
    | with_reducible apply State.showLan_frame | with_reducible apply r_APT_PORT_STATE | with_reducible apply r_LAN_LANE_EQ
    | with_reducible apply r_LAN_LANE_STATE | with_reducible apply r_LMP_CHAIN_STATUS | with_reducible apply r_LXS_PORT_STATE
    | with_reducible apply r_SCN_ENG_STATE | with_reducible apply r_THM_DOM_ON
    | (extract_lets +onlyGivenNames x; refine Fr.cut (D := D) (W := W) (K := K) (s0 := s0) (x := x) ?_ ?_; (on_goal 1 => dsimp -zeta only [x]); (on_goal 2 => intro hx; clear_value x))
    | (extract_lets +onlyGivenNames y) | split | (intro v w hv) | (intro v hv)

theorem State.restartCheck_frame (s : State) (hE : Ev W K) (r_APT_PORT_STATE : ∀ i, W (APT_PORT_STATE i))
    (r_APT_STATUS : W APT_STATUS) (r_CAL_CULLET : W CAL_CULLET) (r_CMP_STATUS : W CMP_STATUS)
    (r_LAN_LANE_EQ : ∀ i, W (LAN_LANE_EQ i)) (r_LAN_LANE_STATE : ∀ i, W (LAN_LANE_STATE i)) (r_LAN_STATUS : W LAN_STATUS)
    (r_LMP_CHAIN_STATUS : ∀ i, W (LMP_CHAIN_STATUS i)) (r_LMP_HB : W LMP_HB) (r_LMP_SAFETY : W LMP_SAFETY)
    (r_LXS_PORT_STATE : ∀ i, W (LXS_PORT_STATE i)) (r_LXS_STATUS : W LXS_STATUS) (r_MEM_SR_STATUS : W MEM_SR_STATUS)
    (r_MEM_STATUS : W MEM_STATUS) (r_PLN_STATUS : W PLN_STATUS) (r_SCN_ENG_STATE : ∀ i, W (SCN_ENG_STATE i))
    (r_SCN_STATUS : W SCN_STATUS) (r_THM_CTRL : W THM_CTRL) (r_THM_DOM_ON : ∀ i, W (THM_DOM_ON i))
    (r_THM_RESTART : W THM_RESTART) (r_THM_STATUS : W THM_STATUS) (k_out : K .out) (k_glb : K .glb) (k_mem : K .mem)
    (k_apt : K .apt) (k_scn : K .scn) (k_lmp : K .lmp) (k_lan : K .lan) (k_lxs : K .lxs) (k_thm : K .thm)
    (h_s : Fr D W K s0 s) : Fr D W K s0 (State.restartCheck s) := by
  unfold State.restartCheck
  repeat' first
    | with_reducible assumption | (simp -zeta (disch := first | assumption | exact rfl) only [↓Fr.setThm])
    | with_reducible apply Fr.ite | with_reducible apply State.putSat_frame | with_reducible apply State.beginRestart_frame
    | with_reducible apply State.putB_frame | with_reducible apply r_APT_PORT_STATE | with_reducible apply r_LAN_LANE_EQ
    | with_reducible apply r_LAN_LANE_STATE | with_reducible apply r_LMP_CHAIN_STATUS | with_reducible apply r_LXS_PORT_STATE
    | with_reducible apply r_SCN_ENG_STATE | with_reducible apply r_THM_DOM_ON
    | (extract_lets +onlyGivenNames x; refine Fr.cut (D := D) (W := W) (K := K) (s0 := s0) (x := x) ?_ ?_; (on_goal 1 => dsimp -zeta only [x]); (on_goal 2 => intro hx; clear_value x))
    | (extract_lets +onlyGivenNames y) | split | (intro v w hv) | (intro v hv)

theorem State.restartDone_frame (s : State) (hE : Ev W K) (r_CMP_FORMING : W CMP_FORMING)
    (r_CMP_LYR_LIVE : ∀ i, W (CMP_LYR_LIVE i)) (r_CMP_OUT_STATUS : ∀ i, W (CMP_OUT_STATUS i))
    (r_COL_OUT_STATUS : ∀ i, W (COL_OUT_STATUS i)) (r_COL_STATUS : W COL_STATUS) (r_GLB_BOOT_STATUS : W GLB_BOOT_STATUS)
    (r_GLB_BOOT_TIME : W (GLB_BOOT_TIME 7)) (r_HIF_STATUS : W HIF_STATUS) (r_LMP_HB : W LMP_HB) (r_LMP_SAFETY : W LMP_SAFETY)
    (r_LXS_STARTUP : W LXS_STARTUP) (r_PLN_OUT_STATUS : ∀ i, W (PLN_OUT_STATUS i)) (r_THM_STATUS : W THM_STATUS)
    (k_out : K .out) (k_glb : K .glb) (k_int : K .int) (k_cmp : K .cmp) (k_col : K .col) (k_scn : K .scn) (k_lmp : K .lmp)
    (k_mem : K .mem)
    (h_s : Fr D W K s0 s) : Fr D W K s0 (State.restartDone s) := by
  unfold State.restartDone
  repeat' first
    | with_reducible assumption | (simp -zeta (disch := first | assumption | exact rfl) only [↓Fr.setGlb])
    | with_reducible apply State.put_frame | with_reducible apply State.startupDone_frame
    | with_reducible apply State.askPass_frame | (with_reducible apply foldOver_frame; intro a t ht)
    | with_reducible apply r_CMP_LYR_LIVE | with_reducible apply r_CMP_OUT_STATUS | with_reducible apply r_COL_OUT_STATUS
    | with_reducible apply r_PLN_OUT_STATUS
    | (extract_lets +onlyGivenNames x; refine Fr.cut (D := D) (W := W) (K := K) (s0 := s0) (x := x) ?_ ?_; (on_goal 1 => dsimp -zeta only [x]); (on_goal 2 => intro hx; clear_value x))
    | (extract_lets +onlyGivenNames y) | (intro v w hv) | (intro v hv)

theorem State.trackRaw_frame (s : State) (raw : Nat) (r_THM_SENSOR : W THM_SENSOR) (k_thm : K .thm) (h_s : Fr D W K s0 s)
    : Fr D W K s0 (State.trackRaw s raw) := by
  unfold State.trackRaw
  repeat' first
    | with_reducible assumption | (simp -zeta (disch := first | assumption | exact rfl) only [↓Fr.setThm])
    | with_reducible apply Fr.ite | with_reducible apply State.put_frame
    | (extract_lets +onlyGivenNames x; refine Fr.cut (D := D) (W := W) (K := K) (s0 := s0) (x := x) ?_ ?_; (on_goal 1 => dsimp -zeta only [x]); (on_goal 2 => intro hx; clear_value x))
    | (extract_lets +onlyGivenNames y) | split | (clear_value y; split) | (intro v w hv) | (intro v hv)

theorem State.sensorFault_frame (s : State) (k : Nat) (hE : Ev W K) (r_THM_SENSOR : W THM_SENSOR)
    (r_THM_STATUS : W THM_STATUS) (k_thm : K .thm) (h_s : Fr D W K s0 s) : Fr D W K s0 (State.sensorFault s k) := by
  unfold State.sensorFault
  repeat' first
    | with_reducible assumption | (simp -zeta (disch := first | assumption | exact rfl) only [↓Fr.setThm])
    | with_reducible apply Fr.ite | with_reducible apply State.put_frame | with_reducible apply State.incSat_frame
    | with_reducible apply State.putB_frame | with_reducible apply State.raise_frame
    | (extract_lets +onlyGivenNames x; refine Fr.cut (D := D) (W := W) (K := K) (s0 := s0) (x := x) ?_ ?_; (on_goal 1 => dsimp -zeta only [x]); (on_goal 2 => intro hx; clear_value x))
    | (extract_lets +onlyGivenNames y) | split

theorem State.clearFault_frame (s : State) (r_THM_CTRL : W THM_CTRL) (r_THM_SENSOR : W THM_SENSOR)
    (r_THM_STATUS : W THM_STATUS) (h_s : Fr D W K s0 s) : Fr D W K s0 (State.clearFault s) := by
  unfold State.clearFault
  repeat' first
    | with_reducible assumption | with_reducible apply Fr.ite | with_reducible apply State.put_frame
    | with_reducible apply State.putB_frame | split

theorem State.useReading_frame (s : State) (r : Int) (hE : Ev W K) (r_LAN_STATUS : W LAN_STATUS) (r_THM_STATUS : W THM_STATUS)
    (r_THM_TEMP : W THM_TEMP) (r_THM_THROTTLE : W THM_THROTTLE) (k_thm : K .thm) (h_s : Fr D W K s0 s)
    : Fr D W K s0 (State.useReading s r) := by
  unfold State.useReading
  repeat' first
    | with_reducible assumption | (simp -zeta (disch := first | assumption | exact rfl) only [↓Fr.setThm])
    | with_reducible apply Fr.ite | with_reducible apply State.put_frame | with_reducible apply State.raise_frame
    | with_reducible apply State.putB_frame | with_reducible apply State.setSource_frame
    | (extract_lets +onlyGivenNames x; refine Fr.cut (D := D) (W := W) (K := K) (s0 := s0) (x := x) ?_ ?_; (on_goal 1 => dsimp -zeta only [x]); (on_goal 2 => intro hx; clear_value x))
    | (extract_lets +onlyGivenNames y) | split

theorem State.dieCauses_frame (s : State) (before : Int) (faultBefore : Bool) (hE : Ev W K) (r_CAL_CULLET : W CAL_CULLET)
    (r_CAL_SESS_STATUS : ∀ i, W (CAL_SESS_STATUS i)) (r_CAL_STORE_STATUS : W CAL_STORE_STATUS)
    (r_CFG_FAIL_INFO : W CFG_FAIL_INFO) (r_CFG_LOAD_CTRL : W CFG_LOAD_CTRL) (r_CFG_STATUS : W CFG_STATUS)
    (r_CMP_FORMING : W CMP_FORMING) (r_CMP_LYR_LIVE : ∀ i, W (CMP_LYR_LIVE i)) (r_CMP_OUT_STATUS : ∀ i, W (CMP_OUT_STATUS i))
    (r_COL_OUT_STATUS : ∀ i, W (COL_OUT_STATUS i)) (r_COL_PRIM_LOOP : ∀ i, W (COL_PRIM_LOOP i)) (r_COL_STATUS : W COL_STATUS)
    (r_LAN_LANE_EQ : ∀ i, W (LAN_LANE_EQ i)) (r_LAN_LANE_STATE : ∀ i, W (LAN_LANE_STATE i)) (r_LAN_STATUS : W LAN_STATUS)
    (r_LMP_HB : W LMP_HB) (r_LMP_SAFETY : W LMP_SAFETY) (r_LXS_PORT_STATE : ∀ i, W (LXS_PORT_STATE i))
    (r_LXS_STATUS : W LXS_STATUS) (r_MEM_STATUS : W MEM_STATUS) (r_PLN_OUT_STATUS : ∀ i, W (PLN_OUT_STATUS i))
    (r_SCN_ENG_EST_AMP : ∀ i, W (SCN_ENG_EST_AMP i)) (r_SCN_ENG_STATE : ∀ i, W (SCN_ENG_STATE i))
    (r_SCN_STATUS : W SCN_STATUS) (r_THM_CTRL : W THM_CTRL) (r_THM_SD : W THM_SD) (r_THM_SD_LFN : W THM_SD_LFN)
    (r_THM_STATUS : W THM_STATUS) (r_TIM_DPLL_STATUS : W TIM_DPLL_STATUS) (r_TIM_REF_STATUS : W TIM_REF_STATUS)
    (k_fresh : K .fresh) (k_out : K .out) (k_glb : K .glb) (k_tim : K .tim) (k_cfg : K .cfg) (k_hif : K .hif) (k_mem : K .mem)
    (k_int : K .int) (k_cmp : K .cmp) (k_col : K .col) (k_pln : K .pln) (k_seq : K .seq) (k_apt : K .apt) (k_scn : K .scn)
    (k_lmp : K .lmp) (k_lan : K .lan) (k_lxs : K .lxs) (k_thm : K .thm) (k_cal : K .cal) (r_MEM_SR_STATUS : W MEM_SR_STATUS)
    (r_THM_DOM_ON : ∀ i, W (THM_DOM_ON i))
    (h_s : Fr D W K s0 s)
    : Fr D W K s0 (State.dieCauses s before faultBefore) := by
  unfold State.dieCauses
  repeat' first
    | with_reducible assumption
    | with_reducible apply r_THM_DOM_ON | with_reducible apply Fr.ite | with_reducible apply State.enterShutdown_frame
    | with_reducible apply r_CAL_SESS_STATUS | with_reducible apply r_CMP_LYR_LIVE | with_reducible apply r_CMP_OUT_STATUS
    | with_reducible apply r_COL_OUT_STATUS | with_reducible apply r_COL_PRIM_LOOP | with_reducible apply r_LAN_LANE_EQ
    | with_reducible apply r_LAN_LANE_STATE | with_reducible apply r_LXS_PORT_STATE | with_reducible apply r_PLN_OUT_STATUS
    | with_reducible apply r_SCN_ENG_EST_AMP | with_reducible apply r_SCN_ENG_STATE
    | (extract_lets +onlyGivenNames x; refine Fr.cut (D := D) (W := W) (K := K) (s0 := s0) (x := x) ?_ ?_; (on_goal 1 => dsimp -zeta only [x]); (on_goal 2 => intro hx; clear_value x))
    | (extract_lets +onlyGivenNames y) | split

theorem State.convert_frame (hD : DramOk D) (s : State) (raw : Nat) (reading : Option Int) (check : Nat) (hE : Ev W K)
    (r_APT_PORT_STATE : ∀ i, W (APT_PORT_STATE i)) (r_APT_STATUS : W APT_STATUS) (r_CAL_CULLET : W CAL_CULLET)
    (r_CAL_SESS_STATUS : ∀ i, W (CAL_SESS_STATUS i)) (r_CAL_STORE_STATUS : W CAL_STORE_STATUS)
    (r_CFG_FAIL_INFO : W CFG_FAIL_INFO) (r_CFG_LOAD_CTRL : W CFG_LOAD_CTRL) (r_CFG_STATUS : W CFG_STATUS)
    (r_CMP_FORMING : W CMP_FORMING) (r_CMP_LYR_LIVE : ∀ i, W (CMP_LYR_LIVE i)) (r_CMP_OUT_STATUS : ∀ i, W (CMP_OUT_STATUS i))
    (r_CMP_STATUS : W CMP_STATUS) (r_COL_OUT_STATUS : ∀ i, W (COL_OUT_STATUS i)) (r_COL_PRIM_LOOP : ∀ i, W (COL_PRIM_LOOP i))
    (r_COL_STATUS : W COL_STATUS) (r_GLB_BOOT_STATUS : W GLB_BOOT_STATUS) (r_HIF_POOL_FREE : W HIF_POOL_FREE)
    (r_HIF_STATUS : W HIF_STATUS) (r_LAN_LANE_EQ : ∀ i, W (LAN_LANE_EQ i)) (r_LAN_LANE_STATE : ∀ i, W (LAN_LANE_STATE i))
    (r_LAN_STATUS : W LAN_STATUS) (r_LMP_CHAIN_STATUS : ∀ i, W (LMP_CHAIN_STATUS i)) (r_LMP_HB : W LMP_HB)
    (r_LMP_SAFETY : W LMP_SAFETY) (r_LXS_PORT_STATE : ∀ i, W (LXS_PORT_STATE i)) (r_LXS_STATUS : W LXS_STATUS)
    (r_MEM_SR_STATUS : W MEM_SR_STATUS) (r_MEM_STATUS : W MEM_STATUS) (r_PLN_OUT_STATUS : ∀ i, W (PLN_OUT_STATUS i))
    (r_PLN_STATUS : W PLN_STATUS) (r_SCN_ENG_EST_AMP : ∀ i, W (SCN_ENG_EST_AMP i))
    (r_SCN_ENG_STATE : ∀ i, W (SCN_ENG_STATE i)) (r_SCN_STATUS : W SCN_STATUS) (r_THM_CTRL : W THM_CTRL)
    (r_THM_DOM_ON : ∀ i, W (THM_DOM_ON i)) (r_THM_RESTART : W THM_RESTART) (r_THM_SD : W THM_SD) (r_THM_SD_LFN : W THM_SD_LFN)
    (r_THM_SENSOR : W THM_SENSOR) (r_THM_STATUS : W THM_STATUS) (r_THM_TEMP : W THM_TEMP) (r_THM_THROTTLE : W THM_THROTTLE)
    (r_TIM_DPLL_STATUS : W TIM_DPLL_STATUS) (r_TIM_REF_STATUS : W TIM_REF_STATUS) (k_fresh : K .fresh) (k_out : K .out)
    (k_glb : K .glb) (k_tim : K .tim) (k_cfg : K .cfg) (k_hif : K .hif) (k_mem : K .mem) (k_int : K .int) (k_cmp : K .cmp)
    (k_col : K .col) (k_pln : K .pln) (k_seq : K .seq) (k_apt : K .apt) (k_scn : K .scn) (k_lmp : K .lmp) (k_lan : K .lan)
    (k_lxs : K .lxs) (k_thm : K .thm) (k_cal : K .cal) (h_s : Fr D W K s0 s)
    : Fr D W K s0 (State.convert s raw reading check) := by
  unfold State.convert
  repeat' first
    | with_reducible assumption | (simp -zeta (disch := first | assumption | exact rfl) only [↓Fr.setThm])
    | with_reducible apply Fr.ite | with_reducible apply State.trackRaw_frame | with_reducible apply State.sensorFault_frame
    | with_reducible apply State.clearFault_frame | with_reducible apply State.rampDomains_frame
    | with_reducible apply State.useReading_frame | with_reducible apply State.dieCauses_frame
    | with_reducible apply State.fastRiseCheck_frame hD | with_reducible apply State.restartCheck_frame
    | with_reducible apply r_APT_PORT_STATE | with_reducible apply r_CAL_SESS_STATUS | with_reducible apply r_CMP_LYR_LIVE
    | with_reducible apply r_CMP_OUT_STATUS | with_reducible apply r_COL_OUT_STATUS | with_reducible apply r_COL_PRIM_LOOP
    | with_reducible apply r_LAN_LANE_EQ | with_reducible apply r_LAN_LANE_STATE | with_reducible apply r_LMP_CHAIN_STATUS
    | with_reducible apply r_LXS_PORT_STATE | with_reducible apply r_PLN_OUT_STATUS | with_reducible apply r_SCN_ENG_EST_AMP
    | with_reducible apply r_SCN_ENG_STATE | with_reducible apply r_THM_DOM_ON
    | (extract_lets +onlyGivenNames x; refine Fr.cut (D := D) (W := W) (K := K) (s0 := s0) (x := x) ?_ ?_; (on_goal 1 => dsimp -zeta only [x]); (on_goal 2 => intro hx; clear_value x))
    | (extract_lets +onlyGivenNames y) | split | (clear_value y; split)

theorem State.noteConv_frame (s : State) (k_thm : K .thm) (h_s : Fr D W K s0 s) : Fr D W K s0 (State.noteConv s) := by
  unfold State.noteConv
  repeat' first
    | with_reducible assumption | (simp -zeta (disch := first | assumption | exact rfl) only [↓Fr.setThm])
    | (extract_lets +onlyGivenNames x; refine Fr.cut (D := D) (W := W) (K := K) (s0 := s0) (x := x) ?_ ?_; (on_goal 1 => dsimp -zeta only [x]); (on_goal 2 => intro hx; clear_value x))
    | (extract_lets +onlyGivenNames y) | split | (clear_value y; split) | (intro v w hv) | (intro v hv)

theorem doThmConversion_frame (hD : DramOk D) (dt raw : Nat) (reading : Option Int) (check : Nat) (s : State)
    (hE : Ev W K) (r_APT_PORT_STATE : ∀ i, W (APT_PORT_STATE i)) (r_APT_STATUS : W APT_STATUS)
    (r_CAL_CULLET : W CAL_CULLET) (r_CAL_SESS_STATUS : ∀ i, W (CAL_SESS_STATUS i))
    (r_CAL_STORE_STATUS : W CAL_STORE_STATUS) (r_CFG_FAIL_INFO : W CFG_FAIL_INFO) (r_CFG_LOAD_CTRL : W CFG_LOAD_CTRL)
    (r_CFG_STATUS : W CFG_STATUS) (r_CMP_FORMING : W CMP_FORMING) (r_CMP_LYR_LIVE : ∀ i, W (CMP_LYR_LIVE i))
    (r_CMP_OUT_STATUS : ∀ i, W (CMP_OUT_STATUS i)) (r_CMP_STATUS : W CMP_STATUS)
    (r_COL_OUT_STATUS : ∀ i, W (COL_OUT_STATUS i)) (r_COL_PRIM_LOOP : ∀ i, W (COL_PRIM_LOOP i))
    (r_COL_STATUS : W COL_STATUS) (r_GLB_BOOT_STATUS : W GLB_BOOT_STATUS) (r_HIF_POOL_FREE : W HIF_POOL_FREE)
    (r_HIF_STATUS : W HIF_STATUS) (r_LAN_LANE_EQ : ∀ i, W (LAN_LANE_EQ i)) (r_LAN_LANE_STATE : ∀ i, W (LAN_LANE_STATE i))
    (r_LAN_STATUS : W LAN_STATUS) (r_LMP_CHAIN_STATUS : ∀ i, W (LMP_CHAIN_STATUS i)) (r_LMP_HB : W LMP_HB)
    (r_LMP_SAFETY : W LMP_SAFETY) (r_LXS_PORT_STATE : ∀ i, W (LXS_PORT_STATE i)) (r_LXS_STATUS : W LXS_STATUS)
    (r_MEM_SR_STATUS : W MEM_SR_STATUS) (r_MEM_STATUS : W MEM_STATUS) (r_PLN_OUT_STATUS : ∀ i, W (PLN_OUT_STATUS i))
    (r_PLN_STATUS : W PLN_STATUS) (r_SCN_ENG_EST_AMP : ∀ i, W (SCN_ENG_EST_AMP i))
    (r_SCN_ENG_STATE : ∀ i, W (SCN_ENG_STATE i)) (r_SCN_STATUS : W SCN_STATUS) (r_THM_CTRL : W THM_CTRL)
    (r_THM_DOM_ON : ∀ i, W (THM_DOM_ON i)) (r_THM_RESTART : W THM_RESTART) (r_THM_SD : W THM_SD)
    (r_THM_SD_LFN : W THM_SD_LFN) (r_THM_SENSOR : W THM_SENSOR) (r_THM_STATUS : W THM_STATUS) (r_THM_TEMP : W THM_TEMP)
    (r_THM_THROTTLE : W THM_THROTTLE) (r_TIM_DPLL_STATUS : W TIM_DPLL_STATUS) (r_TIM_REF_STATUS : W TIM_REF_STATUS)
    (k_fresh : K .fresh) (k_out : K .out) (k_glb : K .glb) (k_tim : K .tim) (k_cfg : K .cfg) (k_hif : K .hif)
    (k_mem : K .mem) (k_int : K .int) (k_cmp : K .cmp) (k_col : K .col) (k_pln : K .pln) (k_seq : K .seq) (k_apt : K .apt)
    (k_scn : K .scn) (k_lmp : K .lmp) (k_lan : K .lan) (k_lxs : K .lxs) (k_thm : K .thm) (k_cal : K .cal)
    (h_s : Fr D W K s0 s) : Fr D W K s0 (doThmConversion dt raw reading check s) := by
  unfold doThmConversion
  repeat' first
    | with_reducible assumption | (simp -zeta (disch := first | assumption | exact rfl) only [↓Fr.setGlb])
    | with_reducible apply Fr.ite | with_reducible apply State.tick_frame | with_reducible apply State.noteConv_frame
    | with_reducible apply State.convert_frame hD | with_reducible apply r_APT_PORT_STATE
    | with_reducible apply r_CAL_SESS_STATUS | with_reducible apply r_CMP_LYR_LIVE | with_reducible apply r_CMP_OUT_STATUS
    | with_reducible apply r_COL_OUT_STATUS | with_reducible apply r_COL_PRIM_LOOP | with_reducible apply r_LAN_LANE_EQ
    | with_reducible apply r_LAN_LANE_STATE | with_reducible apply r_LMP_CHAIN_STATUS
    | with_reducible apply r_LXS_PORT_STATE | with_reducible apply r_PLN_OUT_STATUS
    | with_reducible apply r_SCN_ENG_EST_AMP | with_reducible apply r_SCN_ENG_STATE | with_reducible apply r_THM_DOM_ON
    | (extract_lets +onlyGivenNames x; refine Fr.cut (D := D) (W := W) (K := K) (s0 := s0) (x := x) ?_ ?_; (on_goal 1 => dsimp -zeta only [x]); (on_goal 2 => intro hx; clear_value x))
    | (extract_lets +onlyGivenNames y) | split | (clear_value y; split) | (intro v w hv) | (intro v hv)

theorem doThmRestartRequest_frame (dt : Nat) (s : State) (r_THM_CTRL : W THM_CTRL) (h_s : Fr D W K s0 s)
    : Fr D W K s0 (doThmRestartRequest dt s) := by
  unfold doThmRestartRequest
  repeat' first
    | with_reducible assumption | with_reducible apply State.tick_frame | with_reducible apply State.onLive_frame
    | with_reducible apply State.put_frame | (intro v w hv) | (intro v hv)

theorem doThmForceShutdown_frame (dt : Nat) (s : State) (hE : Ev W K) (r_CAL_CULLET : W CAL_CULLET)
    (r_CAL_SESS_STATUS : ∀ i, W (CAL_SESS_STATUS i)) (r_CAL_STORE_STATUS : W CAL_STORE_STATUS)
    (r_CFG_FAIL_INFO : W CFG_FAIL_INFO) (r_CFG_LOAD_CTRL : W CFG_LOAD_CTRL) (r_CFG_STATUS : W CFG_STATUS)
    (r_CMP_FORMING : W CMP_FORMING) (r_CMP_LYR_LIVE : ∀ i, W (CMP_LYR_LIVE i)) (r_CMP_OUT_STATUS : ∀ i, W (CMP_OUT_STATUS i))
    (r_COL_OUT_STATUS : ∀ i, W (COL_OUT_STATUS i)) (r_COL_PRIM_LOOP : ∀ i, W (COL_PRIM_LOOP i)) (r_COL_STATUS : W COL_STATUS)
    (r_LAN_LANE_EQ : ∀ i, W (LAN_LANE_EQ i)) (r_LAN_LANE_STATE : ∀ i, W (LAN_LANE_STATE i)) (r_LAN_STATUS : W LAN_STATUS)
    (r_LMP_HB : W LMP_HB) (r_LMP_SAFETY : W LMP_SAFETY) (r_LXS_PORT_STATE : ∀ i, W (LXS_PORT_STATE i))
    (r_LXS_STATUS : W LXS_STATUS) (r_MEM_STATUS : W MEM_STATUS) (r_PLN_OUT_STATUS : ∀ i, W (PLN_OUT_STATUS i))
    (r_SCN_ENG_EST_AMP : ∀ i, W (SCN_ENG_EST_AMP i)) (r_SCN_ENG_STATE : ∀ i, W (SCN_ENG_STATE i))
    (r_SCN_STATUS : W SCN_STATUS) (r_THM_CTRL : W THM_CTRL) (r_THM_SD : W THM_SD) (r_THM_SD_LFN : W THM_SD_LFN)
    (r_THM_STATUS : W THM_STATUS) (r_TIM_DPLL_STATUS : W TIM_DPLL_STATUS) (r_TIM_REF_STATUS : W TIM_REF_STATUS)
    (k_fresh : K .fresh) (k_out : K .out) (k_glb : K .glb) (k_tim : K .tim) (k_cfg : K .cfg) (k_hif : K .hif) (k_mem : K .mem)
    (k_int : K .int) (k_cmp : K .cmp) (k_col : K .col) (k_pln : K .pln) (k_seq : K .seq) (k_apt : K .apt) (k_scn : K .scn)
    (k_lmp : K .lmp) (k_lan : K .lan) (k_lxs : K .lxs) (k_thm : K .thm) (k_cal : K .cal) (r_MEM_SR_STATUS : W MEM_SR_STATUS)
    (r_THM_DOM_ON : ∀ i, W (THM_DOM_ON i))
    (h_s : Fr D W K s0 s)
    : Fr D W K s0 (doThmForceShutdown dt s) := by
  unfold doThmForceShutdown
  repeat' first
    | with_reducible assumption
    | with_reducible apply r_THM_DOM_ON | with_reducible apply State.tick_frame | with_reducible apply State.onLive_frame
    | with_reducible apply State.put_frame | with_reducible apply State.enterShutdown_frame
    | with_reducible apply r_CAL_SESS_STATUS | with_reducible apply r_CMP_LYR_LIVE | with_reducible apply r_CMP_OUT_STATUS
    | with_reducible apply r_COL_OUT_STATUS | with_reducible apply r_COL_PRIM_LOOP | with_reducible apply r_LAN_LANE_EQ
    | with_reducible apply r_LAN_LANE_STATE | with_reducible apply r_LXS_PORT_STATE | with_reducible apply r_PLN_OUT_STATUS
    | with_reducible apply r_SCN_ENG_EST_AMP | with_reducible apply r_SCN_ENG_STATE | (intro v w hv) | (intro v hv)

theorem doThmForceThrottle_frame (dt : Nat) (on : Bool) (s : State) (hE : Ev W K) (r_THM_CTRL : W THM_CTRL)
    (r_THM_THROTTLE : W THM_THROTTLE) (k_thm : K .thm) (h_s : Fr D W K s0 s) : Fr D W K s0 (doThmForceThrottle dt on s) := by
  unfold doThmForceThrottle
  repeat' first
    | with_reducible assumption | with_reducible apply State.tick_frame | with_reducible apply State.onLive_frame
    | with_reducible apply State.putB_frame | with_reducible apply State.setSource_frame | (intro v w hv) | (intro v hv)

theorem doThmClearFault_frame (dt : Nat) (s : State) (r_THM_CTRL : W THM_CTRL) (r_THM_SENSOR : W THM_SENSOR)
    (r_THM_STATUS : W THM_STATUS) (h_s : Fr D W K s0 s) : Fr D W K s0 (doThmClearFault dt s) := by
  unfold doThmClearFault
  repeat' first
    | with_reducible assumption | with_reducible apply State.tick_frame | with_reducible apply State.onLive_frame
    | with_reducible apply State.put_frame | with_reducible apply State.clearFault_frame | (intro v w hv) | (intro v hv)

theorem State.stackCauses_frame (s : State) (st before : Nat) (hE : Ev W K) (r_CAL_CULLET : W CAL_CULLET)
    (r_CAL_SESS_STATUS : ∀ i, W (CAL_SESS_STATUS i)) (r_CAL_STORE_STATUS : W CAL_STORE_STATUS)
    (r_CFG_FAIL_INFO : W CFG_FAIL_INFO) (r_CFG_LOAD_CTRL : W CFG_LOAD_CTRL) (r_CFG_STATUS : W CFG_STATUS)
    (r_CMP_FORMING : W CMP_FORMING) (r_CMP_LYR_LIVE : ∀ i, W (CMP_LYR_LIVE i)) (r_CMP_OUT_STATUS : ∀ i, W (CMP_OUT_STATUS i))
    (r_COL_OUT_STATUS : ∀ i, W (COL_OUT_STATUS i)) (r_COL_PRIM_LOOP : ∀ i, W (COL_PRIM_LOOP i)) (r_COL_STATUS : W COL_STATUS)
    (r_LAN_LANE_EQ : ∀ i, W (LAN_LANE_EQ i)) (r_LAN_LANE_STATE : ∀ i, W (LAN_LANE_STATE i)) (r_LAN_STATUS : W LAN_STATUS)
    (r_LMP_HB : W LMP_HB) (r_LMP_SAFETY : W LMP_SAFETY) (r_LXS_PORT_STATE : ∀ i, W (LXS_PORT_STATE i))
    (r_LXS_STATUS : W LXS_STATUS) (r_MEM_STATUS : W MEM_STATUS) (r_PLN_OUT_STATUS : ∀ i, W (PLN_OUT_STATUS i))
    (r_SCN_ENG_EST_AMP : ∀ i, W (SCN_ENG_EST_AMP i)) (r_SCN_ENG_STATE : ∀ i, W (SCN_ENG_STATE i))
    (r_SCN_STATUS : W SCN_STATUS) (r_THM_CTRL : W THM_CTRL) (r_THM_SD : W THM_SD) (r_THM_SD_LFN : W THM_SD_LFN)
    (r_THM_STATUS : W THM_STATUS) (r_THM_THROTTLE : W THM_THROTTLE) (r_TIM_DPLL_STATUS : W TIM_DPLL_STATUS)
    (r_TIM_REF_STATUS : W TIM_REF_STATUS) (k_fresh : K .fresh) (k_out : K .out) (k_glb : K .glb) (k_tim : K .tim)
    (k_cfg : K .cfg) (k_hif : K .hif) (k_mem : K .mem) (k_int : K .int) (k_cmp : K .cmp) (k_col : K .col) (k_pln : K .pln)
    (k_seq : K .seq) (k_apt : K .apt) (k_scn : K .scn) (k_lmp : K .lmp) (k_lan : K .lan) (k_lxs : K .lxs) (k_thm : K .thm)
    (k_cal : K .cal) (r_MEM_SR_STATUS : W MEM_SR_STATUS)
    (r_THM_DOM_ON : ∀ i, W (THM_DOM_ON i))
    (h_s : Fr D W K s0 s) : Fr D W K s0 (State.stackCauses s st before) := by
  unfold State.stackCauses
  repeat' first
    | with_reducible assumption
    | with_reducible apply r_THM_DOM_ON | with_reducible apply Fr.ite | with_reducible apply State.setSource_frame
    | with_reducible apply State.enterShutdown_frame | with_reducible apply r_CAL_SESS_STATUS
    | with_reducible apply r_CMP_LYR_LIVE | with_reducible apply r_CMP_OUT_STATUS | with_reducible apply r_COL_OUT_STATUS
    | with_reducible apply r_COL_PRIM_LOOP | with_reducible apply r_LAN_LANE_EQ | with_reducible apply r_LAN_LANE_STATE
    | with_reducible apply r_LXS_PORT_STATE | with_reducible apply r_PLN_OUT_STATUS | with_reducible apply r_SCN_ENG_EST_AMP
    | with_reducible apply r_SCN_ENG_STATE
    | (extract_lets +onlyGivenNames x; refine Fr.cut (D := D) (W := W) (K := K) (s0 := s0) (x := x) ?_ ?_; (on_goal 1 => dsimp -zeta only [x]); (on_goal 2 => intro hx; clear_value x))
    | (extract_lets +onlyGivenNames y) | split

theorem doStackTempRead_frame (dt st : Nat) (reading : Option Int) (s : State) (hE : Ev W K) (r_CAL_CULLET : W CAL_CULLET)
    (r_CAL_SESS_STATUS : ∀ i, W (CAL_SESS_STATUS i)) (r_CAL_STORE_STATUS : W CAL_STORE_STATUS)
    (r_CFG_FAIL_INFO : W CFG_FAIL_INFO) (r_CFG_LOAD_CTRL : W CFG_LOAD_CTRL) (r_CFG_STATUS : W CFG_STATUS)
    (r_CMP_FORMING : W CMP_FORMING) (r_CMP_LYR_LIVE : ∀ i, W (CMP_LYR_LIVE i))
    (r_CMP_OUT_STATUS : ∀ i, W (CMP_OUT_STATUS i)) (r_COL_OUT_STATUS : ∀ i, W (COL_OUT_STATUS i))
    (r_COL_PRIM_LOOP : ∀ i, W (COL_PRIM_LOOP i)) (r_COL_STATUS : W COL_STATUS) (r_LAN_LANE_EQ : ∀ i, W (LAN_LANE_EQ i))
    (r_LAN_LANE_STATE : ∀ i, W (LAN_LANE_STATE i)) (r_LAN_STATUS : W LAN_STATUS) (r_LMP_HB : W LMP_HB)
    (r_LMP_SAFETY : W LMP_SAFETY) (r_LXS_PORT_STATE : ∀ i, W (LXS_PORT_STATE i)) (r_LXS_STATUS : W LXS_STATUS)
    (r_MEM_SR_STATUS : W MEM_SR_STATUS) (r_MEM_STACK_TEMP : W (MEM_STACK_TEMP st)) (r_MEM_STATUS : W MEM_STATUS)
    (r_PLN_OUT_STATUS : ∀ i, W (PLN_OUT_STATUS i)) (r_SCN_ENG_EST_AMP : ∀ i, W (SCN_ENG_EST_AMP i))
    (r_SCN_ENG_STATE : ∀ i, W (SCN_ENG_STATE i)) (r_SCN_STATUS : W SCN_STATUS) (r_THM_CTRL : W THM_CTRL)
    (r_THM_DOM_ON : ∀ i, W (THM_DOM_ON i)) (r_THM_SD : W THM_SD) (r_THM_SD_LFN : W THM_SD_LFN)
    (r_THM_STATUS : W THM_STATUS) (r_THM_THROTTLE : W THM_THROTTLE) (r_TIM_DPLL_STATUS : W TIM_DPLL_STATUS)
    (r_TIM_REF_STATUS : W TIM_REF_STATUS) (k_fresh : K .fresh) (k_out : K .out) (k_glb : K .glb) (k_tim : K .tim)
    (k_cfg : K .cfg) (k_hif : K .hif) (k_mem : K .mem) (k_int : K .int) (k_cmp : K .cmp) (k_col : K .col) (k_pln : K .pln)
    (k_seq : K .seq) (k_apt : K .apt) (k_scn : K .scn) (k_lmp : K .lmp) (k_lan : K .lan) (k_lxs : K .lxs) (k_thm : K .thm)
    (k_cal : K .cal) (h_s : Fr D W K s0 s) : Fr D W K s0 (doStackTempRead dt st reading s) := by
  unfold doStackTempRead
  repeat' first
    | with_reducible assumption | (simp -zeta (disch := first | assumption | exact rfl) only [↓Fr.setMem])
    | with_reducible apply Fr.ite | with_reducible apply State.tick_frame | with_reducible apply State.onLiveIf_frame
    | with_reducible apply State.put_frame | with_reducible apply State.stackCauses_frame
    | with_reducible apply r_CAL_SESS_STATUS | with_reducible apply r_CMP_LYR_LIVE | with_reducible apply r_CMP_OUT_STATUS
    | with_reducible apply r_COL_OUT_STATUS | with_reducible apply r_COL_PRIM_LOOP | with_reducible apply r_LAN_LANE_EQ
    | with_reducible apply r_LAN_LANE_STATE | with_reducible apply r_LXS_PORT_STATE
    | with_reducible apply r_PLN_OUT_STATUS | with_reducible apply r_SCN_ENG_EST_AMP
    | with_reducible apply r_SCN_ENG_STATE | with_reducible apply r_THM_DOM_ON
    | (extract_lets +onlyGivenNames x; refine Fr.cut (D := D) (W := W) (K := K) (s0 := s0) (x := x) ?_ ?_; (on_goal 1 => dsimp -zeta only [x]); (on_goal 2 => intro hx; clear_value x))
    | (extract_lets +onlyGivenNames y) | split | (clear_value y; split) | (intro v w hv) | (intro v hv)

theorem State.throttleBoundary_frame (s : State) (r_SEQ_THROTTLE : W SEQ_THROTTLE) (r_THM_STATUS : W THM_STATUS)
    (k_seq : K .seq) (k_thm : K .thm) (h_s : Fr D W K s0 s) : Fr D W K s0 (State.throttleBoundary s) := by
  unfold State.throttleBoundary
  repeat' first
    | with_reducible assumption | (simp -zeta (disch := first | assumption | exact rfl) only [↓Fr.setThm])
    | with_reducible apply State.setThrottle_frame | with_reducible apply State.putB_frame
    | (extract_lets +onlyGivenNames x; refine Fr.cut (D := D) (W := W) (K := K) (s0 := s0) (x := x) ?_ ?_; (on_goal 1 => dsimp -zeta only [x]); (on_goal 2 => intro hx; clear_value x))
    | (extract_lets +onlyGivenNames y) | split | (intro v w hv) | (intro v hv) | (clear_value y; split)

theorem State.trimBoundary_frame (s : State) (k_thm : K .thm) (h_s : Fr D W K s0 s) : Fr D W K s0 (State.trimBoundary s) := by
  unfold State.trimBoundary
  repeat' first
    | with_reducible assumption | (simp -zeta (disch := first | assumption | exact rfl) only [↓Fr.setThm])
    | (extract_lets +onlyGivenNames x; refine Fr.cut (D := D) (W := W) (K := K) (s0 := s0) (x := x) ?_ ?_; (on_goal 1 => dsimp -zeta only [x]); (on_goal 2 => intro hx; clear_value x))
    | (extract_lets +onlyGivenNames y)

theorem doCrcArm_frame (dt o r cfn : Nat) (s : State) (r_RECT10 : W (rectReg o r 0x10)) (r_RECT1C : W (rectReg o r 0x1C))
    (k_int : K .int) (h_s : Fr D W K s0 s) : Fr D W K s0 (doCrcArm dt o r cfn s) := by
  unfold doCrcArm
  repeat' first
    | with_reducible assumption | with_reducible apply State.tick_frame | with_reducible apply State.onLiveIf_frame
    | with_reducible apply State.wrN_frame | with_reducible apply State.setRect_frame | with_reducible apply State.put_frame
    | (extract_lets +onlyGivenNames x; refine Fr.cut (D := D) (W := W) (K := K) (s0 := s0) (x := x) ?_ ?_; (on_goal 1 => dsimp -zeta only [x]); (on_goal 2 => intro hx; clear_value x))
    | (extract_lets +onlyGivenNames y) | (intro v w hv) | (intro v hv)

theorem State.rectChanged_frame (s : State) (o r : Nat) (r_RECT1C : W (rectReg o r 0x1C)) (k_int : K .int)
    (h_s : Fr D W K s0 s) : Fr D W K s0 (State.rectChanged s o r) := by
  unfold State.rectChanged
  repeat' first
    | with_reducible assumption | with_reducible apply Fr.ite | with_reducible apply State.setRect_frame
    | with_reducible apply State.put_frame | with_reducible apply State.showRect_frame
    | (extract_lets +onlyGivenNames x; refine Fr.cut (D := D) (W := W) (K := K) (s0 := s0) (x := x) ?_ ?_; (on_goal 1 => dsimp -zeta only [x]); (on_goal 2 => intro hx; clear_value x))
    | (extract_lets +onlyGivenNames y) | split

theorem State.crcCompareOne_frame (s : State) (o r cfn : Nat) (hE : Ev W K) (r_INT_CRC_SUM : W (INT_CRC_SUM o))
    (r_RECT1C : W (rectReg o r 0x1C)) (h_s : Fr D W K s0 s) : Fr D W K s0 (State.crcCompareOne s o r cfn) := by
  unfold State.crcCompareOne
  repeat' first
    | with_reducible assumption | with_reducible apply Fr.ite | with_reducible apply State.put_frame
    | with_reducible apply State.inc_frame | with_reducible apply State.raiseB_frame
    | (extract_lets +onlyGivenNames x; refine Fr.cut (D := D) (W := W) (K := K) (s0 := s0) (x := x) ?_ ?_; (on_goal 1 => dsimp -zeta only [x]); (on_goal 2 => intro hx; clear_value x))
    | (extract_lets +onlyGivenNames y) | split

theorem State.crcCompare_frame (s : State) (o : Nat) (hE : Ev W K) (r_INT_CRC_SUM : W (INT_CRC_SUM o))
    (r_RECT1C : ∀ i j, W (rectReg i j 0x1C)) (h_s : Fr D W K s0 s) : Fr D W K s0 (State.crcCompare s o) := by
  unfold State.crcCompare
  repeat' first
    | with_reducible assumption | with_reducible apply State.crcCompareOne_frame
    | (with_reducible apply foldOver_frame; intro a t ht) | with_reducible apply r_RECT1C
    | (extract_lets +onlyGivenNames x; refine Fr.cut (D := D) (W := W) (K := K) (s0 := s0) (x := x) ?_ ?_; (on_goal 1 => dsimp -zeta only [x]); (on_goal 2 => intro hx; clear_value x))
    | (extract_lets +onlyGivenNames y) | (intro v w hv) | (intro v hv)

theorem doEventRaised_frame (dt code ctx a0 a1 a2 : Nat) (s : State) (hE : Ev W K) (h_s : Fr D W K s0 s)
    : Fr D W K s0 (doEventRaised dt code ctx a0 a1 a2 s) := by
  unfold doEventRaised
  repeat' first
    | with_reducible assumption | with_reducible apply State.tick_frame | with_reducible apply State.onLiveIf_frame
    | with_reducible apply State.deliver_frame
    | (extract_lets +onlyGivenNames x; refine Fr.cut (D := D) (W := W) (K := K) (s0 := s0) (x := x) ?_ ?_; (on_goal 1 => dsimp -zeta only [x]); (on_goal 2 => intro hx; clear_value x))
    | (extract_lets +onlyGivenNames y) | (intro v w hv) | (intro v hv)

theorem State.rateBoundary_frame (s : State) (r_HIF_FN_DROPS : ∀ i, W (HIF_FN_DROPS i))
    (r_HIF_FN_STATUS : ∀ i, W (HIF_FN_STATUS i)) (r_INT_DROPS : W INT_DROPS) (r_INT_LOG_STATUS : W INT_LOG_STATUS)
    (r_INT_STATUS : W INT_STATUS) (r_INT_SUPPRESSED : W INT_SUPPRESSED) (k_int : K .int) (h_s : Fr D W K s0 s)
    : Fr D W K s0 (State.rateBoundary s) := by
  unfold State.rateBoundary
  repeat' first
    | with_reducible assumption | (simp -zeta (disch := first | assumption | exact rfl) only [↓Fr.setInt])
    | with_reducible apply Fr.ite | with_reducible apply State.passEvent_frame
    | (with_reducible apply foldOver_frame; intro a t ht) | with_reducible apply r_HIF_FN_DROPS
    | with_reducible apply r_HIF_FN_STATUS
    | (extract_lets +onlyGivenNames x; refine Fr.cut (D := D) (W := W) (K := K) (s0 := s0) (x := x) ?_ ?_; (on_goal 1 => dsimp -zeta only [x]); (on_goal 2 => intro hx; clear_value x))
    | (extract_lets +onlyGivenNames y) | split | (intro v w hv) | (intro v hv)

theorem State.owedRead_frame (s : State) (k : Nat) (r_MEM_CTL_REFRESH : W (MEM_CTL_REFRESH k)) (h_s : Fr D W K s0 s)
    : Fr D W K s0 (State.owedRead s k) := by
  unfold State.owedRead
  repeat' first
    | with_reducible assumption | with_reducible apply State.put_frame
    | (extract_lets +onlyGivenNames x; refine Fr.cut (D := D) (W := W) (K := K) (s0 := s0) (x := x) ?_ ?_; (on_goal 1 => dsimp -zeta only [x]); (on_goal 2 => intro hx; clear_value x))
    | (extract_lets +onlyGivenNames y) | split | (clear_value y; split) | (intro v w hv) | (intro v hv)

theorem State.readEffect_frame (s : State) (a : Nat) (r_MEM_CTL_REFRESH : ∀ i, W (MEM_CTL_REFRESH i))
    (r_MEM_ENG_STATUS : ∀ i, W (MEM_ENG_STATUS i)) (r_MEM_INFLIGHT : W MEM_INFLIGHT) (r_THM_TEMP : W THM_TEMP)
    (k_glb : K .glb) (h_s : Fr D W K s0 s) : Fr D W K s0 (State.readEffect s a) := by
  unfold State.readEffect
  repeat' first
    | with_reducible assumption | (simp -zeta (disch := first | assumption | exact rfl) only [↓Fr.setGlb])
    | with_reducible apply Fr.ite | with_reducible apply State.latchSystime_frame | with_reducible apply State.put_frame
    | with_reducible apply State.owedRead_frame | with_reducible apply r_MEM_CTL_REFRESH
    | with_reducible apply r_MEM_ENG_STATUS
    | (extract_lets +onlyGivenNames x; refine Fr.cut (D := D) (W := W) (K := K) (s0 := s0) (x := x) ?_ ?_; (on_goal 1 => dsimp -zeta only [x]); (on_goal 2 => intro hx; clear_value x))
    | (extract_lets +onlyGivenNames y) | split | (clear_value y; split) | (intro v w hv) | (intro v hv)

theorem State.snapshotBoundary_frame (s : State) (hE : Ev W K) (r_GLB_SNAP_CTRL : W GLB_SNAP_CTRL)
    (r_GLB_SNAP_LFN : W GLB_SNAP_LFN) (r_GLB_SNAP_STATUS : W GLB_SNAP_STATUS) (k_glb : K .glb) (h_s : Fr D W K s0 s)
    : Fr D W K s0 (State.snapshotBoundary s) := by
  unfold State.snapshotBoundary
  repeat' first
    | with_reducible assumption | (simp -zeta (disch := first | assumption | exact rfl) only [↓Fr.setGlb])
    | with_reducible apply Fr.ite | with_reducible apply State.put_frame | with_reducible apply State.putB_frame
    | with_reducible apply State.wrN_frame | with_reducible apply State.raiseB_frame
    | (extract_lets +onlyGivenNames x; refine Fr.cut (D := D) (W := W) (K := K) (s0 := s0) (x := x) ?_ ?_; (on_goal 1 => dsimp -zeta only [x]); (on_goal 2 => intro hx; clear_value x))
    | (extract_lets +onlyGivenNames y) | split | (intro v w hv) | (intro v hv)

theorem State.dropHostLayers_frame (s : State) (f : Nat) (lines : List Nat) (hE : Ev W K)
    (r_CMP_DROP_STATUS : W CMP_DROP_STATUS) (r_CMP_LYR_OFF_LFN : ∀ i, W (CMP_LYR_OFF_LFN i))
    (r_CMP_LYR_OFF_LINE : ∀ i, W (CMP_LYR_OFF_LINE i)) (r_CMP_LYR_STATUS : ∀ i, W (CMP_LYR_STATUS i))
    (r_CMP_OUT_UNDERRUNS : ∀ i, W (CMP_OUT_UNDERRUNS i)) (k_cmp : K .cmp) (k_lxs : K .lxs) (r_MEM_ENG_STATUS : ∀ i, W (MEM_ENG_STATUS i))
    (k_pln : K .pln)
    (h_s : Fr D W K s0 s)
    : Fr D W K s0 (State.dropHostLayers s f lines) := by
  unfold State.dropHostLayers
  repeat' first
    | with_reducible assumption
    | with_reducible apply r_MEM_ENG_STATUS | with_reducible apply State.layerOff_frame
    | (with_reducible apply foldOver_frame; intro a t ht) | with_reducible apply r_CMP_LYR_OFF_LFN
    | with_reducible apply r_CMP_LYR_OFF_LINE | with_reducible apply r_CMP_LYR_STATUS
    | with_reducible apply r_CMP_OUT_UNDERRUNS
    | (extract_lets +onlyGivenNames x; refine Fr.cut (D := D) (W := W) (K := K) (s0 := s0) (x := x) ?_ ?_; (on_goal 1 => dsimp -zeta only [x]); (on_goal 2 => intro hx; clear_value x))
    | (extract_lets +onlyGivenNames y) | split | (intro v w hv) | (intro v hv) | (clear_value y; split)

theorem doMasterEnableClear_frame (dt f : Nat) (lines : List Nat) (s : State) (hE : Ev W K)
    (r_CFG_FAIL_INFO : W CFG_FAIL_INFO) (r_CFG_LOAD_CTRL : W CFG_LOAD_CTRL) (r_CFG_STATUS : W CFG_STATUS)
    (r_CMP_DROP_STATUS : W CMP_DROP_STATUS) (r_CMP_LYR_OFF_LFN : ∀ i, W (CMP_LYR_OFF_LFN i))
    (r_CMP_LYR_OFF_LINE : ∀ i, W (CMP_LYR_OFF_LINE i)) (r_CMP_LYR_STATUS : ∀ i, W (CMP_LYR_STATUS i))
    (r_CMP_OUT_UNDERRUNS : ∀ i, W (CMP_OUT_UNDERRUNS i)) (r_HIF_FN_STATUS : W (HIF_FN_STATUS f)) (r_HIF_STATUS : W HIF_STATUS)
    (r_LMP_HB : W LMP_HB) (r_LMP_SAFETY : W LMP_SAFETY) (r_TIM_DPLL_STATUS : W TIM_DPLL_STATUS)
    (r_TIM_REF_STATUS : W TIM_REF_STATUS) (k_out : K .out) (k_glb : K .glb) (k_tim : K .tim) (k_cfg : K .cfg) (k_hif : K .hif)
    (k_cmp : K .cmp) (k_seq : K .seq) (k_scn : K .scn) (k_lmp : K .lmp) (k_lxs : K .lxs) (r_HIF_FN_DROPS : W (HIF_FN_DROPS f))
    (r_INT_STATUS : W INT_STATUS)
    (r_MEM_ENG_STATUS : ∀ i, W (MEM_ENG_STATUS i))
    (k_int : K .int)
    (k_pln : K .pln)
    (h_s : Fr D W K s0 s)
    : Fr D W K s0 (doMasterEnableClear dt f lines s) := by
  unfold doMasterEnableClear
  repeat' first
    | with_reducible assumption
    | with_reducible apply r_MEM_ENG_STATUS | with_reducible apply Fr.ite | with_reducible apply State.tick_frame
    | with_reducible apply State.onLiveIf_frame | with_reducible apply State.put_frame
    | with_reducible apply State.toggleGen_frame | with_reducible apply State.raise_frame
    | with_reducible apply State.dropHostLayers_frame | with_reducible apply State.showHeld_frame
    | with_reducible apply State.hostReadFails_frame | with_reducible apply r_CMP_LYR_OFF_LFN
    | with_reducible apply r_CMP_LYR_OFF_LINE | with_reducible apply r_CMP_LYR_STATUS
    | with_reducible apply r_CMP_OUT_UNDERRUNS
    | (extract_lets +onlyGivenNames x; refine Fr.cut (D := D) (W := W) (K := K) (s0 := s0) (x := x) ?_ ?_; (on_goal 1 => dsimp -zeta only [x]); (on_goal 2 => intro hx; clear_value x))
    | (extract_lets +onlyGivenNames y) | split | (intro v w hv) | (intro v hv)

theorem doMasterEnableSet_frame (dt f : Nat) (s : State) (r_HIF_FN_DROPS : W (HIF_FN_DROPS f))
    (r_HIF_FN_STATUS : W (HIF_FN_STATUS f)) (r_INT_STATUS : W INT_STATUS) (k_out : K .out) (k_hif : K .hif)
    (k_mem : K .mem) (k_int : K .int) (h_s : Fr D W K s0 s) : Fr D W K s0 (doMasterEnableSet dt f s) := by
  unfold doMasterEnableSet
  repeat' first
    | with_reducible assumption | with_reducible apply State.tick_frame | with_reducible apply State.onLiveIf_frame
    | with_reducible apply State.put_frame | with_reducible apply State.showHeld_frame
    | with_reducible apply State.pumpHost_frame
    | (extract_lets +onlyGivenNames x; refine Fr.cut (D := D) (W := W) (K := K) (s0 := s0) (x := x) ?_ ?_; (on_goal 1 => dsimp -zeta only [x]); (on_goal 2 => intro hx; clear_value x))
    | (extract_lets +onlyGivenNames y) | split | (clear_value y; split) | (intro v w hv) | (intro v hv)

theorem State.resetContext_frame (s : State) (c : Nat) (hE : Ev W K) (r_CMP_FORMING : W CMP_FORMING)
    (r_CMP_LYR_LIVE : ∀ i, W (CMP_LYR_LIVE i)) (r_CMP_OUT_STATUS : ∀ i, W (CMP_OUT_STATUS i))
    (r_COL_OUT_STATUS : ∀ i, W (COL_OUT_STATUS i)) (r_COL_STATUS : W COL_STATUS)
    (r_MEM_ENG_STATUS : ∀ i, W (MEM_ENG_STATUS i)) (r_PLN_OUT_STATUS : ∀ i, W (PLN_OUT_STATUS i)) (k_hif : K .hif)
    (k_int : K .int) (k_cmp : K .cmp) (k_col : K .col) (h_s : Fr D W K s0 s) : Fr D W K s0 (State.resetContext s c) := by
  unfold State.resetContext
  repeat' first
    | with_reducible assumption | (simp -zeta (disch := first | assumption | exact rfl) only [↓Fr.setHif])
    | with_reducible apply Fr.ite | (with_reducible apply foldOver_frame; intro a t ht)
    | with_reducible apply State.toggleCtx_frame | with_reducible apply State.askPass_frame
    | with_reducible apply r_CMP_LYR_LIVE | with_reducible apply r_CMP_OUT_STATUS | with_reducible apply r_COL_OUT_STATUS
    | with_reducible apply r_MEM_ENG_STATUS | with_reducible apply r_PLN_OUT_STATUS
    | (extract_lets +onlyGivenNames x; refine Fr.cut (D := D) (W := W) (K := K) (s0 := s0) (x := x) ?_ ?_; (on_goal 1 => dsimp -zeta only [x]); (on_goal 2 => intro hx; clear_value x))
    | (extract_lets +onlyGivenNames y) | split | (clear_value y; split) | (intro v w hv) | (intro v hv)

theorem doContextReset_frame (dt c : Nat) (s : State) (hE : Ev W K) (r_CMP_FORMING : W CMP_FORMING)
    (r_CMP_LYR_LIVE : ∀ i, W (CMP_LYR_LIVE i)) (r_CMP_OUT_STATUS : ∀ i, W (CMP_OUT_STATUS i))
    (r_COL_OUT_STATUS : ∀ i, W (COL_OUT_STATUS i)) (r_COL_STATUS : W COL_STATUS) (r_HIF_CTX_CTRL : W (HIF_CTX_CTRL c))
    (r_PLN_OUT_STATUS : ∀ i, W (PLN_OUT_STATUS i)) (k_hif : K .hif) (k_int : K .int) (k_cmp : K .cmp) (k_col : K .col)
    (r_MEM_ENG_STATUS : ∀ i, W (MEM_ENG_STATUS i))
    (h_s : Fr D W K s0 s) : Fr D W K s0 (doContextReset dt c s) := by
  unfold doContextReset
  repeat' first
    | with_reducible assumption
    | with_reducible apply r_MEM_ENG_STATUS | with_reducible apply Fr.ite | with_reducible apply State.tick_frame
    | with_reducible apply State.onReach_frame | with_reducible apply State.accessEvent_frame
    | with_reducible apply State.put_frame | with_reducible apply State.resetContext_frame
    | with_reducible apply r_CMP_LYR_LIVE | with_reducible apply r_CMP_OUT_STATUS | with_reducible apply r_COL_OUT_STATUS
    | with_reducible apply r_PLN_OUT_STATUS | split | (intro v w hv) | (intro v hv)

theorem State.resetOff_frame (s : State) (c n : Nat) (hE : Ev W K) (r_CMP_DROP_STATUS : W CMP_DROP_STATUS)
    (r_CMP_OUT_UNDERRUNS : ∀ i, W (CMP_OUT_UNDERRUNS i)) (k_cmp : K .cmp) (k_lxs : K .lxs) (h_s : Fr D W K s0 s)
    : Fr D W K s0 (State.resetOff s c n) := by
  unfold State.resetOff
  repeat' first
    | with_reducible assumption | with_reducible apply Fr.ite | with_reducible apply State.inc_frame
    | with_reducible apply State.raiseCB_frame | with_reducible apply State.takeDrop_frame
    | with_reducible apply State.sendDrop_frame | (with_reducible apply foldOver_frame; intro a t ht)
    | with_reducible apply r_CMP_OUT_UNDERRUNS
    | (extract_lets +onlyGivenNames x; refine Fr.cut (D := D) (W := W) (K := K) (s0 := s0) (x := x) ?_ ?_; (on_goal 1 => dsimp -zeta only [x]); (on_goal 2 => intro hx; clear_value x))
    | (extract_lets +onlyGivenNames y) | split | (intro v w hv) | (intro v hv) | (clear_value y; split)

theorem State.dropWaiting_frame (s : State) (c : Nat) (r_MEM_ENG_STATUS : ∀ i, W (MEM_ENG_STATUS i))
    (r_MEM_INFLIGHT : W MEM_INFLIGHT) (k_mem : K .mem) (h_s : Fr D W K s0 s) : Fr D W K s0 (State.dropWaiting s c) := by
  unfold State.dropWaiting
  repeat' first
    | with_reducible assumption | (simp -zeta (disch := first | assumption | exact rfl) only [↓Fr.setMem])
    | (with_reducible apply foldOver_frame; intro a t ht) | with_reducible apply State.showTags_frame
    | with_reducible apply r_MEM_ENG_STATUS
    | (extract_lets +onlyGivenNames x; refine Fr.cut (D := D) (W := W) (K := K) (s0 := s0) (x := x) ?_ ?_; (on_goal 1 => dsimp -zeta only [x]); (on_goal 2 => intro hx; clear_value x))
    | (extract_lets +onlyGivenNames y) | split | (clear_value y; split) | (intro v w hv) | (intro v hv)

theorem State.clearCtx_frame (s : State) (c : Nat) (owned : List Nat) (r_ctx : ∀ a, ctxPages a → W a) (k_act : K .act)
    (k_hif : K .hif) (k_mem : K .mem) (h_s : Fr D W K s0 s) : Fr D W K s0 (State.clearCtx s c owned) := by
  unfold State.clearCtx
  refine h_s.via ⟨fun a ha => ?_, fun p hp => by cases p <;> first | rfl | exact absurd ‹_› hp⟩ rfl rfl
  refine tget_filter _ _ _ _ fun w => ?_
  have hn : ¬ ctxPages a := fun h => ha (r_ctx a h)
  unfold ctxPages at hn
  by_contra hc
  simp only [inCtxPage, Bool.not_eq_true', Bool.not_eq_false, Bool.and_eq_true, decide_eq_true_eq] at hc
  omega

theorem State.finishReset_frame (s : State) (c : Nat) (hE : Ev W K) (r_lay : ∀ n a, layerBlock n a → W a)
    (r_ctx : ∀ a, ctxPages a → W a) (r_CMP_DROP_STATUS : W CMP_DROP_STATUS) (r_CMP_FORMING : W CMP_FORMING)
    (r_CMP_LYR_LIVE : ∀ i, W (CMP_LYR_LIVE i)) (r_CMP_OUT_STATUS : ∀ i, W (CMP_OUT_STATUS i))
    (r_CMP_OUT_UNDERRUNS : ∀ i, W (CMP_OUT_UNDERRUNS i)) (r_COL_OUT_STATUS : ∀ i, W (COL_OUT_STATUS i))
    (r_COL_STATUS : W COL_STATUS) (r_HIF_FN_DROPS : W (HIF_FN_DROPS (c / 4)))
    (r_HIF_FN_STATUS : W (HIF_FN_STATUS (c / 4))) (r_HIF_GROUP_CTRL : ∀ i, W (HIF_GROUP_CTRL i))
    (r_HIF_STATUS : W HIF_STATUS) (r_INT_STATUS : W INT_STATUS) (r_LXS_EXPORT_STATUS : W LXS_EXPORT_STATUS)
    (r_MEM_ENG_STATUS : ∀ i, W (MEM_ENG_STATUS i)) (r_MEM_INFLIGHT : W MEM_INFLIGHT)
    (r_PLN_OUT_STATUS : ∀ i, W (PLN_OUT_STATUS i)) (r_PLN_STATUS : W PLN_STATUS) (r_cmReg : W (cmReg c))
    (r_cmReg_12 : W (cmReg c + 12)) (r_cmReg_8 : W (cmReg c + 8)) (k_act : K .act) (k_hif : K .hif) (k_mem : K .mem)
    (k_int : K .int) (k_cmp : K .cmp) (k_col : K .col) (k_pln : K .pln) (k_lxs : K .lxs) (h_s : Fr D W K s0 s)
    : Fr D W K s0 (State.finishReset s c) := by
  unfold State.finishReset
  repeat' first
    | with_reducible assumption | with_reducible apply Fr.ite | (with_reducible apply foldOver_frame; intro a t ht)
    | with_reducible apply State.resetOff_frame | with_reducible apply State.dropLayer_frame
    | with_reducible apply State.failCommit_frame | with_reducible apply State.dropWaiting_frame
    | with_reducible apply State.endGrant_frame | with_reducible apply State.queueScrub_frame
    | with_reducible apply State.clearCtx_frame | with_reducible apply State.showHeld_frame | exact r_lay | exact r_ctx
    | with_reducible apply r_CMP_LYR_LIVE | with_reducible apply r_CMP_OUT_STATUS
    | with_reducible apply r_CMP_OUT_UNDERRUNS | with_reducible apply r_COL_OUT_STATUS
    | with_reducible apply r_HIF_GROUP_CTRL | with_reducible apply r_MEM_ENG_STATUS
    | with_reducible apply r_PLN_OUT_STATUS
    | (extract_lets +onlyGivenNames x; refine Fr.cut (D := D) (W := W) (K := K) (s0 := s0) (x := x) ?_ ?_; (on_goal 1 => dsimp -zeta only [x]); (on_goal 2 => intro hx; clear_value x))
    | (extract_lets +onlyGivenNames y) | split | (clear_value y; split) | (intro v w hv) | (intro v hv)

theorem State.resetBoundary_frame (s : State) (hE : Ev W K) (r_ctx : ∀ a, ctxPages a → W a)
    (r_lay : ∀ n a, layerBlock n a → W a) (r_CM0 : ∀ i, W (cmReg i)) (r_CM12 : ∀ i, W (cmReg i + 12))
    (r_CM8 : ∀ i, W (cmReg i + 8)) (r_CMP_DROP_STATUS : W CMP_DROP_STATUS) (r_CMP_FORMING : W CMP_FORMING)
    (r_CMP_LYR_LIVE : ∀ i, W (CMP_LYR_LIVE i)) (r_CMP_OUT_STATUS : ∀ i, W (CMP_OUT_STATUS i))
    (r_CMP_OUT_UNDERRUNS : ∀ i, W (CMP_OUT_UNDERRUNS i)) (r_COL_OUT_STATUS : ∀ i, W (COL_OUT_STATUS i))
    (r_COL_STATUS : W COL_STATUS) (r_HIF_FN_STATUS : ∀ i, W (HIF_FN_STATUS i)) (r_HIF_GROUP_CTRL : ∀ i, W (HIF_GROUP_CTRL i))
    (r_HIF_STATUS : W HIF_STATUS) (r_LXS_EXPORT_STATUS : W LXS_EXPORT_STATUS) (r_PLN_OUT_STATUS : ∀ i, W (PLN_OUT_STATUS i))
    (r_PLN_STATUS : W PLN_STATUS) (k_act : K .act) (k_hif : K .hif) (k_mem : K .mem) (k_int : K .int) (k_cmp : K .cmp)
    (k_col : K .col) (k_pln : K .pln) (k_lxs : K .lxs) (r_HIF_FN_DROPS : ∀ i, W (HIF_FN_DROPS i))
    (r_INT_STATUS : W INT_STATUS)
    (r_MEM_ENG_STATUS : ∀ i, W (MEM_ENG_STATUS i))
    (r_MEM_INFLIGHT : W MEM_INFLIGHT)
    (h_s : Fr D W K s0 s) : Fr D W K s0 (State.resetBoundary s) := by
  unfold State.resetBoundary
  repeat' first
    | with_reducible assumption
    | with_reducible apply r_HIF_FN_DROPS | with_reducible apply r_MEM_ENG_STATUS | with_reducible apply Fr.ite | with_reducible apply State.finishReset_frame
    | with_reducible apply State.put_frame | (with_reducible apply foldOver_frame; intro a t ht) | with_reducible apply r_CM0
    | with_reducible apply r_CM12 | with_reducible apply r_CM8 | with_reducible apply r_CMP_LYR_LIVE
    | with_reducible apply r_CMP_OUT_STATUS | with_reducible apply r_CMP_OUT_UNDERRUNS | with_reducible apply r_COL_OUT_STATUS
    | with_reducible apply r_HIF_FN_STATUS | with_reducible apply r_HIF_GROUP_CTRL | with_reducible apply r_PLN_OUT_STATUS
    | exact r_ctx | exact r_lay
    | (extract_lets +onlyGivenNames x; refine Fr.cut (D := D) (W := W) (K := K) (s0 := s0) (x := x) ?_ ?_; (on_goal 1 => dsimp -zeta only [x]); (on_goal 2 => intro hx; clear_value x))
    | (extract_lets +onlyGivenNames y) | split | (intro v w hv) | (intro v hv)

theorem State.disableQueues_frame (s : State) (lo : Nat) (dev : Bool) (r_ctx : ∀ a, ctxPages a → W a)
    (r_HIF_DEVQ_BASE_HI : W HIF_DEVQ_BASE_HI) (r_HIF_DEVQ_BASE_LO : W HIF_DEVQ_BASE_LO) (r_HIF_DEVQ_CFG : W HIF_DEVQ_CFG)
    (k_act : K .act) (h_s : Fr D W K s0 s) : Fr D W K s0 (State.disableQueues s lo dev) := by
  unfold State.disableQueues
  extract_lets off ring base cfg s1
  have hr : ∀ a, ring a = true → ctxPages a := fun a h => by
    simp only [ring, Bool.and_eq_true, decide_eq_true_eq] at h
    unfold ctxPages
    omega
  have h1 : Fr D W K s0 s1 := by
    refine h_s.via ⟨fun a ha => ?_, fun p hp => by cases p <;> first | rfl | exact absurd ‹_› hp⟩ rfl rfl
    have hn : ring a = false := by
      by_contra hc
      exact ha (r_ctx a (hr a (by simpa using hc)))
    show tget _ _ a = tget _ _ a
    rw [tget_map _ _ _ _ (fun e => by beta_reduce; split <;> rfl) (fun w => by simp only [cfg, hn, Bool.false_and, Bool.false_eq_true, if_false])]
    exact tget_filter _ _ _ _ fun w => by simp only [base, hn, Bool.false_and, Bool.not_false]
  split
  · exact State.wrN_frame _ _ _ r_HIF_DEVQ_CFG (State.resetReg_frame _ _ r_HIF_DEVQ_BASE_HI k_act
      (State.resetReg_frame _ _ r_HIF_DEVQ_BASE_LO k_act h1))
  · exact h1

theorem State.clearMsix_frame (s : State) (f : Nat) (k_hif : K .hif) (k_int : K .int) (h_s : Fr D W K s0 s)
    : Fr D W K s0 (State.clearMsix s f) := by
  unfold State.clearMsix
  repeat' first
    | with_reducible assumption | (simp -zeta (disch := first | assumption | exact rfl) only [↓Fr.setHifInt])
    | with_reducible apply Fr.ite
    | (extract_lets +onlyGivenNames x; refine Fr.cut (D := D) (W := W) (K := K) (s0 := s0) (x := x) ?_ ?_; (on_goal 1 => dsimp -zeta only [x]); (on_goal 2 => intro hx; clear_value x))
    | (extract_lets +onlyGivenNames y) | split | (clear_value y; split) | (intro v w hv) | (intro v hv)

theorem State.perstFns_frame (s : State) (lo : Nat) (hE : Ev W K) (r_ctx : ∀ a, ctxPages a → W a)
    (r_CMP_FORMING : W CMP_FORMING) (r_CMP_LYR_LIVE : ∀ i, W (CMP_LYR_LIVE i))
    (r_CMP_OUT_STATUS : ∀ i, W (CMP_OUT_STATUS i)) (r_COL_OUT_STATUS : ∀ i, W (COL_OUT_STATUS i))
    (r_COL_STATUS : W COL_STATUS) (r_HIF_DEVQ_BASE_HI : W HIF_DEVQ_BASE_HI) (r_HIF_DEVQ_BASE_LO : W HIF_DEVQ_BASE_LO)
    (r_HIF_DEVQ_CFG : W HIF_DEVQ_CFG) (r_HIF_FN_DROPS : ∀ i, W (HIF_FN_DROPS i))
    (r_HIF_FN_STATUS : ∀ i, W (HIF_FN_STATUS i)) (r_HIF_STATUS : W HIF_STATUS) (r_INT_STATUS : W INT_STATUS)
    (r_MEM_ENG_STATUS : ∀ i, W (MEM_ENG_STATUS i)) (r_PLN_OUT_STATUS : ∀ i, W (PLN_OUT_STATUS i)) (k_act : K .act)
    (k_hif : K .hif) (k_int : K .int) (k_cmp : K .cmp) (k_col : K .col) (h_s : Fr D W K s0 s)
    : Fr D W K s0 (State.perstFns s lo) := by
  unfold State.perstFns
  repeat' first
    | with_reducible assumption | (simp -zeta (disch := first | assumption | exact rfl) only [↓Fr.setHif])
    | with_reducible apply Fr.ite | (with_reducible apply foldOver_frame; intro a t ht)
    | with_reducible apply State.clearMsix_frame | with_reducible apply State.disableQueues_frame
    | with_reducible apply State.put_frame | with_reducible apply State.toggleGen_frame
    | with_reducible apply State.raise_frame | with_reducible apply State.resetContext_frame
    | with_reducible apply State.showHeld_frame | exact r_ctx | with_reducible apply r_CMP_LYR_LIVE
    | with_reducible apply r_CMP_OUT_STATUS | with_reducible apply r_COL_OUT_STATUS | with_reducible apply r_HIF_FN_DROPS
    | with_reducible apply r_HIF_FN_STATUS | with_reducible apply r_MEM_ENG_STATUS | with_reducible apply r_PLN_OUT_STATUS
    | (extract_lets +onlyGivenNames x; refine Fr.cut (D := D) (W := W) (K := K) (s0 := s0) (x := x) ?_ ?_; (on_goal 1 => dsimp -zeta only [x]); (on_goal 2 => intro hx; clear_value x))
    | (extract_lets +onlyGivenNames y) | split | (clear_value y; split) | (intro v w hv) | (intro v hv)

theorem State.hostMapsBoundary_frame (s : State) (k_hif : K .hif) (h_s : Fr D W K s0 s)
    : Fr D W K s0 (State.hostMapsBoundary s) := by
  unfold State.hostMapsBoundary
  repeat' first
    | with_reducible assumption | (simp -zeta (disch := first | assumption | exact rfl) only [↓Fr.setHif])
    | with_reducible apply Fr.ite
    | (extract_lets +onlyGivenNames x; refine Fr.cut (D := D) (W := W) (K := K) (s0 := s0) (x := x) ?_ ?_; (on_goal 1 => dsimp -zeta only [x]); (on_goal 2 => intro hx; clear_value x))
    | (extract_lets +onlyGivenNames y) | split | (intro v w hv) | (intro v hv)

theorem doFunctionLevelReset_frame (dt f : Nat) (s : State) (hE : Ev W K) (r_ctx : ∀ a, ctxPages a → W a)
    (r_CFG_FAIL_INFO : W CFG_FAIL_INFO) (r_CFG_LOAD_CTRL : W CFG_LOAD_CTRL) (r_CFG_STATUS : W CFG_STATUS)
    (r_CMP_FORMING : W CMP_FORMING) (r_CMP_LYR_LIVE : ∀ i, W (CMP_LYR_LIVE i)) (r_CMP_OUT_STATUS : ∀ i, W (CMP_OUT_STATUS i))
    (r_COL_OUT_STATUS : ∀ i, W (COL_OUT_STATUS i)) (r_COL_STATUS : W COL_STATUS) (r_HIF_DEVQ_BASE_HI : W HIF_DEVQ_BASE_HI)
    (r_HIF_DEVQ_BASE_LO : W HIF_DEVQ_BASE_LO) (r_HIF_DEVQ_CFG : W HIF_DEVQ_CFG) (r_HIF_DEVQ_HEAD : W HIF_DEVQ_HEAD)
    (r_HIF_DEVQ_TAIL : W HIF_DEVQ_TAIL) (r_HIF_FN_PASID : ∀ i, W (HIF_FN_PASID i))
    (r_HIF_FN_STATUS : ∀ i, W (HIF_FN_STATUS i)) (r_HIF_STATUS : W HIF_STATUS) (r_LMP_HB : W LMP_HB)
    (r_LMP_SAFETY : W LMP_SAFETY) (r_PLN_OUT_STATUS : ∀ i, W (PLN_OUT_STATUS i)) (r_TIM_DPLL_STATUS : W TIM_DPLL_STATUS)
    (r_TIM_REF_STATUS : W TIM_REF_STATUS) (k_out : K .out) (k_act : K .act) (k_glb : K .glb) (k_tim : K .tim) (k_cfg : K .cfg)
    (k_hif : K .hif) (k_int : K .int) (k_cmp : K .cmp) (k_col : K .col) (k_seq : K .seq) (k_scn : K .scn) (k_lmp : K .lmp)
    (r_HIF_FN_DROPS : ∀ i, W (HIF_FN_DROPS i))
    (r_INT_STATUS : W INT_STATUS)
    (r_MEM_ENG_STATUS : ∀ i, W (MEM_ENG_STATUS i))
    (h_s : Fr D W K s0 s) : Fr D W K s0 (doFunctionLevelReset dt f s) := by
  unfold doFunctionLevelReset
  extract_lets t
  refine State.onLiveIf_frame _ _ _ (fun u hu => ?_) (State.tick_frame _ _ h_s)
  extract_lets own u1 u2 u3 u4
  have h1 : Fr D W K s0 u1 := State.raise_frame _ _ _ _ _ hE
    (State.clearMsix_frame _ _ k_hif k_int (State.toggleGen_frame _ _ (r_HIF_FN_STATUS _) k_hif hu))
  clear_value u1
  have h2 : Fr D W K s0 u2 := by
    refine foldOver_frame _ _ (fun c v hv => ?_) (State.put_frame u1 (HIF_FN_STATUS.FLR f) 1 (r_HIF_FN_STATUS _) h1)
    apply State.resetContext_frame <;> assumption
  clear_value u2
  split
  · have h3 : Fr D W K s0 u3 := by
      refine foldOver_frame_mem _ _ (fun a ha t ht => State.resetReg_frame _ _ ?_ k_act ht) ?_
      · simp only [List.mem_cons, List.not_mem_nil, or_false] at ha
        rcases ha with rfl | rfl | rfl | rfl | rfl | rfl <;> first | assumption | exact r_HIF_FN_PASID 0
      · apply State.perstFns_frame <;> assumption
    clear_value u3
    have h4 : Fr D W K s0 u4 := State.put_frame _ _ _ (r_HIF_FN_STATUS 0) (State.put_frame _ _ _ (r_HIF_FN_STATUS 0) h3)
    clear_value u4
    have h5 : Fr D W K s0 { u4 with hif := { u4.hif with queues := tdel u4.hif.queues devQ } } := h4.upd rfl (fun p hp => by cases p <;> first | rfl | exact absurd ‹_› hp) rfl rfl
    have h6 := State.showHeld_frame _ 0 (r_HIF_FN_DROPS 0) (r_HIF_FN_STATUS 0) r_INT_STATUS k_int h5
    apply State.hostReadFails_frame <;> assumption
  · exact State.showHeld_frame _ _ (r_HIF_FN_DROPS _) (r_HIF_FN_STATUS _) r_INT_STATUS k_int h2

theorem State.endpointDown_frame (s : State) (hE : Ev W K) (r_ctx : ∀ a, ctxPages a → W a) (r_CFG_FAIL_INFO : W CFG_FAIL_INFO)
    (r_CFG_LOAD_CTRL : W CFG_LOAD_CTRL) (r_CFG_STATUS : W CFG_STATUS) (r_CMP_FORMING : W CMP_FORMING)
    (r_CMP_LYR_LIVE : ∀ i, W (CMP_LYR_LIVE i)) (r_CMP_OUT_STATUS : ∀ i, W (CMP_OUT_STATUS i))
    (r_COL_OUT_STATUS : ∀ i, W (COL_OUT_STATUS i)) (r_COL_STATUS : W COL_STATUS) (r_HIF_DEVQ_BASE_HI : W HIF_DEVQ_BASE_HI)
    (r_HIF_DEVQ_BASE_LO : W HIF_DEVQ_BASE_LO) (r_HIF_DEVQ_CFG : W HIF_DEVQ_CFG) (r_HIF_FN_STATUS : ∀ i, W (HIF_FN_STATUS i))
    (r_HIF_STATUS : W HIF_STATUS) (r_LMP_HB : W LMP_HB) (r_LMP_SAFETY : W LMP_SAFETY)
    (r_PLN_OUT_STATUS : ∀ i, W (PLN_OUT_STATUS i)) (r_TIM_DPLL_STATUS : W TIM_DPLL_STATUS)
    (r_TIM_REF_STATUS : W TIM_REF_STATUS) (k_out : K .out) (k_act : K .act) (k_glb : K .glb) (k_tim : K .tim) (k_cfg : K .cfg)
    (k_hif : K .hif) (k_int : K .int) (k_cmp : K .cmp) (k_col : K .col) (k_seq : K .seq) (k_scn : K .scn) (k_lmp : K .lmp)
    (r_HIF_FN_DROPS : ∀ i, W (HIF_FN_DROPS i))
    (r_INT_STATUS : W INT_STATUS)
    (r_MEM_ENG_STATUS : ∀ i, W (MEM_ENG_STATUS i))
    (h_s : Fr D W K s0 s) : Fr D W K s0 (State.endpointDown s) := by
  unfold State.endpointDown
  repeat' first
    | with_reducible assumption
    | with_reducible apply r_HIF_FN_DROPS | with_reducible apply r_MEM_ENG_STATUS | with_reducible apply State.put_frame | with_reducible apply State.incSat_frame
    | with_reducible apply State.perstFns_frame | with_reducible apply State.hostReadFails_frame
    | with_reducible apply r_CMP_LYR_LIVE | with_reducible apply r_CMP_OUT_STATUS | with_reducible apply r_COL_OUT_STATUS
    | with_reducible apply r_HIF_FN_STATUS | with_reducible apply r_PLN_OUT_STATUS | exact r_ctx

theorem doPerstAssert_frame (dt : Nat) (s : State) (hE : Ev W K) (r_ctx : ∀ a, ctxPages a → W a)
    (r_CFG_FAIL_INFO : W CFG_FAIL_INFO) (r_CFG_LOAD_CTRL : W CFG_LOAD_CTRL) (r_CFG_STATUS : W CFG_STATUS)
    (r_CMP_FORMING : W CMP_FORMING) (r_CMP_LYR_LIVE : ∀ i, W (CMP_LYR_LIVE i)) (r_CMP_OUT_STATUS : ∀ i, W (CMP_OUT_STATUS i))
    (r_COL_OUT_STATUS : ∀ i, W (COL_OUT_STATUS i)) (r_COL_STATUS : W COL_STATUS) (r_HIF_DEVQ_BASE_HI : W HIF_DEVQ_BASE_HI)
    (r_HIF_DEVQ_BASE_LO : W HIF_DEVQ_BASE_LO) (r_HIF_DEVQ_CFG : W HIF_DEVQ_CFG) (r_HIF_FN_STATUS : ∀ i, W (HIF_FN_STATUS i))
    (r_HIF_STATUS : W HIF_STATUS) (r_LMP_HB : W LMP_HB) (r_LMP_SAFETY : W LMP_SAFETY)
    (r_PLN_OUT_STATUS : ∀ i, W (PLN_OUT_STATUS i)) (r_TIM_DPLL_STATUS : W TIM_DPLL_STATUS)
    (r_TIM_REF_STATUS : W TIM_REF_STATUS) (k_out : K .out) (k_act : K .act) (k_glb : K .glb) (k_tim : K .tim) (k_cfg : K .cfg)
    (k_hif : K .hif) (k_int : K .int) (k_cmp : K .cmp) (k_col : K .col) (k_seq : K .seq) (k_scn : K .scn) (k_lmp : K .lmp)
    (r_HIF_FN_DROPS : ∀ i, W (HIF_FN_DROPS i))
    (r_INT_STATUS : W INT_STATUS)
    (r_MEM_ENG_STATUS : ∀ i, W (MEM_ENG_STATUS i))
    (h_s : Fr D W K s0 s) : Fr D W K s0 (doPerstAssert dt s) := by
  unfold doPerstAssert
  repeat' first
    | with_reducible assumption
    | with_reducible apply r_HIF_FN_DROPS | with_reducible apply r_MEM_ENG_STATUS | (simp -zeta (disch := first | assumption | exact rfl) only [↓Fr.setHif])
    | with_reducible apply Fr.ite | with_reducible apply State.tick_frame | with_reducible apply State.onLive_frame
    | with_reducible apply State.endpointDown_frame | with_reducible apply r_CMP_LYR_LIVE
    | with_reducible apply r_CMP_OUT_STATUS | with_reducible apply r_COL_OUT_STATUS | with_reducible apply r_HIF_FN_STATUS
    | with_reducible apply r_PLN_OUT_STATUS | exact r_ctx
    | (extract_lets +onlyGivenNames x; refine Fr.cut (D := D) (W := W) (K := K) (s0 := s0) (x := x) ?_ ?_; (on_goal 1 => dsimp -zeta only [x]); (on_goal 2 => intro hx; clear_value x))
    | (extract_lets +onlyGivenNames y) | split | (intro v w hv) | (intro v hv)

theorem doPerstRelease_frame (dt : Nat) (s : State) (k_hif : K .hif) (h_s : Fr D W K s0 s)
    : Fr D W K s0 (doPerstRelease dt s) := by
  unfold doPerstRelease
  repeat' first
    | with_reducible assumption | (simp -zeta (disch := first | assumption | exact rfl) only [↓Fr.setHif])
    | with_reducible apply State.tick_frame
    | (extract_lets +onlyGivenNames x; refine Fr.cut (D := D) (W := W) (K := K) (s0 := s0) (x := x) ?_ ?_; (on_goal 1 => dsimp -zeta only [x]); (on_goal 2 => intro hx; clear_value x))
    | (extract_lets +onlyGivenNames y)

theorem doLinkDown_frame (dt : Nat) (s : State) (hE : Ev W K) (r_ctx : ∀ a, ctxPages a → W a)
    (r_CFG_FAIL_INFO : W CFG_FAIL_INFO) (r_CFG_LOAD_CTRL : W CFG_LOAD_CTRL) (r_CFG_STATUS : W CFG_STATUS)
    (r_CMP_FORMING : W CMP_FORMING) (r_CMP_LYR_LIVE : ∀ i, W (CMP_LYR_LIVE i)) (r_CMP_OUT_STATUS : ∀ i, W (CMP_OUT_STATUS i))
    (r_COL_OUT_STATUS : ∀ i, W (COL_OUT_STATUS i)) (r_COL_STATUS : W COL_STATUS) (r_HIF_DEVQ_BASE_HI : W HIF_DEVQ_BASE_HI)
    (r_HIF_DEVQ_BASE_LO : W HIF_DEVQ_BASE_LO) (r_HIF_DEVQ_CFG : W HIF_DEVQ_CFG) (r_HIF_FN_STATUS : ∀ i, W (HIF_FN_STATUS i))
    (r_HIF_STATUS : W HIF_STATUS) (r_LMP_HB : W LMP_HB) (r_LMP_SAFETY : W LMP_SAFETY)
    (r_PLN_OUT_STATUS : ∀ i, W (PLN_OUT_STATUS i)) (r_TIM_DPLL_STATUS : W TIM_DPLL_STATUS)
    (r_TIM_REF_STATUS : W TIM_REF_STATUS) (k_out : K .out) (k_act : K .act) (k_glb : K .glb) (k_tim : K .tim) (k_cfg : K .cfg)
    (k_hif : K .hif) (k_int : K .int) (k_cmp : K .cmp) (k_col : K .col) (k_seq : K .seq) (k_scn : K .scn) (k_lmp : K .lmp)
    (r_HIF_FN_DROPS : ∀ i, W (HIF_FN_DROPS i))
    (r_INT_STATUS : W INT_STATUS)
    (r_MEM_ENG_STATUS : ∀ i, W (MEM_ENG_STATUS i))
    (h_s : Fr D W K s0 s) : Fr D W K s0 (doLinkDown dt s) := by
  unfold doLinkDown
  repeat' first
    | with_reducible assumption
    | with_reducible apply r_HIF_FN_DROPS | with_reducible apply r_MEM_ENG_STATUS | with_reducible apply State.tick_frame | with_reducible apply State.onLiveIf_frame
    | with_reducible apply State.endpointDown_frame | with_reducible apply r_CMP_LYR_LIVE
    | with_reducible apply r_CMP_OUT_STATUS | with_reducible apply r_COL_OUT_STATUS | with_reducible apply r_HIF_FN_STATUS
    | with_reducible apply r_PLN_OUT_STATUS | exact r_ctx
    | (extract_lets +onlyGivenNames x; refine Fr.cut (D := D) (W := W) (K := K) (s0 := s0) (x := x) ?_ ?_; (on_goal 1 => dsimp -zeta only [x]); (on_goal 2 => intro hx; clear_value x))
    | (extract_lets +onlyGivenNames y) | (intro v w hv) | (intro v hv)

theorem doLinkUp_frame (dt : Nat) (s : State) (r_HIF_STATUS : W HIF_STATUS) (h_s : Fr D W K s0 s)
    : Fr D W K s0 (doLinkUp dt s) := by
  unfold doLinkUp
  repeat' first
    | with_reducible assumption | with_reducible apply State.tick_frame | with_reducible apply State.onLiveIf_frame
    | with_reducible apply State.put_frame
    | (extract_lets +onlyGivenNames x; refine Fr.cut (D := D) (W := W) (K := K) (s0 := s0) (x := x) ?_ ?_; (on_goal 1 => dsimp -zeta only [x]); (on_goal 2 => intro hx; clear_value x))
    | (extract_lets +onlyGivenNames y) | (intro v w hv) | (intro v hv)

theorem doResetAssert_frame (dt : Nat) (power : Bool) (s : State) (hE : Ev W K) (r_GLB_RESET_CAUSE : W GLB_RESET_CAUSE)
    (r_LMP_HB : W LMP_HB) (r_LMP_SAFETY : W LMP_SAFETY) (r_SCN_ENG_EST_AMP : ∀ i, W (SCN_ENG_EST_AMP i))
    (r_SCN_ENG_STATE : ∀ i, W (SCN_ENG_STATE i)) (r_SCN_STATUS : W SCN_STATUS) (k_out : K .out) (k_glb : K .glb)
    (k_apt : K .apt) (k_scn : K .scn) (k_lmp : K .lmp) (k_lan : K .lan) (k_mem : K .mem)
    (h_s : Fr D W K s0 s)
    : Fr D W K s0 (doResetAssert dt power s) := by
  unfold doResetAssert
  repeat' first
    | with_reducible assumption | (simp -zeta (disch := first | assumption | exact rfl) only [↓Fr.setGlb])
    | with_reducible apply Fr.ite | with_reducible apply State.tick_frame | with_reducible apply State.hardwareClass_frame
    | with_reducible apply State.wrN_frame | with_reducible apply r_SCN_ENG_EST_AMP | with_reducible apply r_SCN_ENG_STATE
    | (extract_lets +onlyGivenNames x; refine Fr.cut (D := D) (W := W) (K := K) (s0 := s0) (x := x) ?_ ?_; (on_goal 1 => dsimp -zeta only [x]); (on_goal 2 => intro hx; clear_value x))
    | (extract_lets +onlyGivenNames y) | split

theorem State.freeMemory_frame (hD : DramOk D) (s : State) (k_fresh : K .fresh) (k_mem : K .mem) (h_s : Fr D W K s0 s)
    : Fr D W K s0 (State.freeMemory s) := by
  unfold State.freeMemory
  repeat' first
    | with_reducible assumption | with_reducible apply State.memWrite_frame hD | with_reducible apply State.useFree_frame
    | (with_reducible apply foldOver_frame; intro a t ht) | (intro v w hv) | (intro v hv)

theorem State.heldReset_frame (hD : DramOk D) (s : State) (cause : Nat) (hK : ∀ p, K p) (hW : ∀ a, W a) (h_s : Fr D W K s0 s)
    : Fr D W K s0 (State.heldReset s cause) := by
  unfold State.heldReset
  have hm : Fr D W K s0 s.freeMemory := by apply State.freeMemory_frame <;> first | assumption | exact hK _
  refine State.wrN_frame _ _ _ (hW _) ⟨⟨fun a h => absurd (hW a) h, fun p h => absurd (hK p) h⟩, h_s.queue, hm.dram⟩

theorem doResetHold_frame (hD : DramOk D) (dt : Nat) (short : Bool) (s : State) (hK : ∀ p, K p) (hW : ∀ a, W a)
    (h_s : Fr D W K s0 s) : Fr D W K s0 (doResetHold dt short s) := by
  unfold doResetHold
  repeat' first
    | with_reducible assumption | with_reducible apply Fr.ite | with_reducible apply State.tick_frame
    | with_reducible apply State.heldReset_frame hD | exact hK _ | exact hW _ | (intros; exact hW _)
    | (extract_lets +onlyGivenNames x; refine Fr.cut (D := D) (W := W) (K := K) (s0 := s0) (x := x) ?_ ?_; (on_goal 1 => dsimp -zeta only [x]); (on_goal 2 => intro hx; clear_value x))
    | (extract_lets +onlyGivenNames y) | split

theorem State.bootSource_frame (s : State) (flash : Nat) (dir : List Byte) (hE : Ev W K) (r_CFG_FAIL_INFO : W CFG_FAIL_INFO)
    (r_CFG_LOAD_CTRL : W CFG_LOAD_CTRL) (r_CFG_STATUS : W CFG_STATUS) (r_HIF_STATUS : W HIF_STATUS) (r_LMP_HB : W LMP_HB)
    (r_LMP_SAFETY : W LMP_SAFETY) (r_TIM_DPLL_STATUS : W TIM_DPLL_STATUS) (r_TIM_REF_STATUS : W TIM_REF_STATUS)
    (k_out : K .out) (k_glb : K .glb) (k_tim : K .tim) (k_cfg : K .cfg) (k_seq : K .seq) (k_scn : K .scn) (k_lmp : K .lmp)
    (h_s : Fr D W K s0 s) : Fr D W K s0 (State.bootSource s flash dir) := by
  unfold State.bootSource
  repeat' first
    | with_reducible assumption | (simp -zeta (disch := first | assumption | exact rfl) only [↓Fr.setCfg])
    | with_reducible apply Fr.ite | with_reducible apply State.put_frame | with_reducible apply State.enterSafeIdle_frame
    | with_reducible apply State.loadFailed_frame
    | (extract_lets +onlyGivenNames x; refine Fr.cut (D := D) (W := W) (K := K) (s0 := s0) (x := x) ?_ ?_; (on_goal 1 => dsimp -zeta only [x]); (on_goal 2 => intro hx; clear_value x))
    | (extract_lets +onlyGivenNames y) | split

theorem doBoot_frame (dt : Nat) (bootSel : Bool) (flash : Nat) (dir : List Byte) (s : State) (hE : Ev W K)
    (r_CAL_CULLET : W CAL_CULLET) (r_CAL_FENCED : W CAL_FENCED) (r_CAL_FENCE_DATA_0 : W CAL_FENCE_DATA_0)
    (r_CAL_FENCE_DATA_1 : W CAL_FENCE_DATA_1) (r_CAL_FENCE_DATA_2 : W CAL_FENCE_DATA_2) (r_CFG_FAIL_INFO : W CFG_FAIL_INFO)
    (r_CFG_LOAD_CTRL : W CFG_LOAD_CTRL) (r_CFG_STATUS : W CFG_STATUS) (r_GLB_BOOT_STATUS : W GLB_BOOT_STATUS)
    (r_HIF_STATUS : W HIF_STATUS) (r_LAN_LANE_STATE : ∀ i, W (LAN_LANE_STATE i)) (r_LAN_STATUS : W LAN_STATUS)
    (r_LMP_HB : W LMP_HB) (r_LMP_SAFETY : W LMP_SAFETY) (r_SEQ_TILES : W SEQ_TILES) (r_TIM_DPLL_STATUS : W TIM_DPLL_STATUS)
    (r_TIM_REF_STATUS : W TIM_REF_STATUS) (k_fresh : K .fresh) (k_out : K .out) (k_glb : K .glb) (k_tim : K .tim)
    (k_cfg : K .cfg) (k_seq : K .seq) (k_scn : K .scn) (k_lmp : K .lmp) (k_lan : K .lan) (k_pln : K .pln)
    (h_s : Fr D W K s0 s)
    : Fr D W K s0 (doBoot dt bootSel flash dir s) := by
  unfold doBoot
  repeat' first
    | with_reducible assumption | (simp -zeta (disch := first | assumption | exact rfl) only [↓Fr.setGlbTim])
    | with_reducible apply Fr.ite | with_reducible apply State.tick_frame | with_reducible apply State.useFree_frame
    | with_reducible apply State.putB_frame | with_reducible apply State.leaveService_frame
    | with_reducible apply State.showTiles_frame | with_reducible apply State.showFenced_frame
    | with_reducible apply State.bootSource_frame | (with_reducible apply foldOver_frame; intro a t ht)
    | with_reducible apply r_LAN_LANE_STATE
    | (extract_lets +onlyGivenNames x; refine Fr.cut (D := D) (W := W) (K := K) (s0 := s0) (x := x) ?_ ?_; (on_goal 1 => dsimp -zeta only [x]); (on_goal 2 => intro hx; clear_value x))
    | (extract_lets +onlyGivenNames y) | split | (intro v w hv) | (intro v hv)

theorem State.bootTimingBoundary_frame (s : State) (hE : Ev W K) (r_TIM_DPLL_STATUS : W TIM_DPLL_STATUS)
    (r_TIM_FREERUN_PERIOD : W TIM_FREERUN_PERIOD) (r_TIM_GENLOCK_CFG : W TIM_GENLOCK_CFG) (r_TIM_LF_CFG : W TIM_LF_CFG)
    (r_TIM_PHASE_OFFSET : W TIM_PHASE_OFFSET) (r_TIM_REF_CTRL : W TIM_REF_CTRL) (r_TIM_REF_STATUS : W TIM_REF_STATUS)
    (k_act : K .act) (k_glb : K .glb) (k_tim : K .tim) (h_s : Fr D W K s0 s) : Fr D W K s0 (State.bootTimingBoundary s) := by
  unfold State.bootTimingBoundary
  split
  · next ref gen lf per off _ =>
    extract_lets s1 s2 sg st s3
    have h1 : Fr D W K s0 s1 := State.wrN_frame _ _ _ r_TIM_GENLOCK_CFG (State.wrN_frame _ _ _ r_TIM_REF_CTRL h_s)
    have h2 : Fr D W K s0 s2 := by
      refine foldOver_frame_mem _ _ (fun e he t ht => State.actWr_frame _ _ _ k_act (State.wrN_frame _ _ _ ?_ ht)) h1
      simp only [List.mem_cons, List.not_mem_nil, or_false] at he
      rcases he with rfl | rfl | rfl <;> assumption
    have h3 : Fr D W K s0 s3 := h2.upd rfl (fun p hp => by cases p <;> first | rfl | exact absurd ‹_› hp) rfl rfl
    split
    · exact h3.upd rfl (fun p hp => by cases p <;> first | rfl | exact absurd ‹_› hp) rfl rfl
    · have h4 := State.put_frame s3 TIM_REF_STATUS.ACTIVE s3.refPrimary r_TIM_REF_STATUS h3
      split
      · apply State.enterDpll_frame <;> assumption
      · apply State.beginAcquire_frame <;> assumption
  · exact h_s

theorem doBootFreeFallback_frame (dt : Nat) (s : State) (hE : Ev W K) (r_GLB_BOOT_STATUS : W GLB_BOOT_STATUS)
    (r_TIM_DPLL_STATUS : W TIM_DPLL_STATUS) (r_TIM_REF_STATUS : W TIM_REF_STATUS) (k_glb : K .glb) (k_tim : K .tim)
    (h_s : Fr D W K s0 s) : Fr D W K s0 (doBootFreeFallback dt s) := by
  unfold doBootFreeFallback
  repeat' first
    | with_reducible assumption | (simp -zeta (disch := first | assumption | exact rfl) only [↓Fr.setGlb])
    | with_reducible apply State.tick_frame | with_reducible apply State.onLiveIf_frame
    | with_reducible apply State.selectRef_frame | with_reducible apply State.enterDpll_frame
    | with_reducible apply State.raise_frame | with_reducible apply State.putB_frame
    | (extract_lets +onlyGivenNames x; refine Fr.cut (D := D) (W := W) (K := K) (s0 := s0) (x := x) ?_ ?_; (on_goal 1 => dsimp -zeta only [x]); (on_goal 2 => intro hx; clear_value x))
    | (extract_lets +onlyGivenNames y) | (intro v w hv) | (intro v hv)

theorem State.setRound_frame (s : State) (r : RoundSt) (k_lxs : K .lxs) (h_s : Fr D W K s0 s)
    : Fr D W K s0 (State.setRound s r) := by
  unfold State.setRound
  repeat' first
    | with_reducible assumption | (simp -zeta (disch := first | assumption | exact rfl) only [↓Fr.setLxs])
    | (extract_lets +onlyGivenNames x; refine Fr.cut (D := D) (W := W) (K := K) (s0 := s0) (x := x) ?_ ?_; (on_goal 1 => dsimp -zeta only [x]); (on_goal 2 => intro hx; clear_value x))
    | (extract_lets +onlyGivenNames y)

theorem State.beginRound_frame (s : State) (target : Nat) (k_lxs : K .lxs) (h_s : Fr D W K s0 s)
    : Fr D W K s0 (State.beginRound s target) := by
  unfold State.beginRound
  repeat' first
    | with_reducible assumption | with_reducible apply State.setRound_frame
    | (extract_lets +onlyGivenNames x; refine Fr.cut (D := D) (W := W) (K := K) (s0 := s0) (x := x) ?_ ?_; (on_goal 1 => dsimp -zeta only [x]); (on_goal 2 => intro hx; clear_value x))
    | (extract_lets +onlyGivenNames y) | split | (clear_value y; split) | (intro v w hv) | (intro v hv)

theorem doPrepareSend_frame (dt : Nat) (s : State) (k_lxs : K .lxs) (h_s : Fr D W K s0 s)
    : Fr D W K s0 (doPrepareSend dt s) := by
  unfold doPrepareSend
  repeat' first
    | with_reducible assumption | with_reducible apply State.tick_frame | with_reducible apply State.onLiveIf_frame
    | with_reducible apply State.beginRound_frame | with_reducible apply State.floodMsg_frame
    | (extract_lets +onlyGivenNames x; refine Fr.cut (D := D) (W := W) (K := K) (s0 := s0) (x := x) ?_ ?_; (on_goal 1 => dsimp -zeta only [x]); (on_goal 2 => intro hx; clear_value x))
    | (extract_lets +onlyGivenNames y) | (intro v w hv) | (intro v hv)

theorem doPrepare_frame (dt j target : Nat) (s : State) (r_LXS_PORT_RX : W (LXS_PORT_RX j)) (k_lxs : K .lxs)
    (r_LXS_PORT_RX_all : ∀ i, W (LXS_PORT_RX i))
    (h_s : Fr D W K s0 s) : Fr D W K s0 (doPrepare dt j target s) := by
  unfold doPrepare
  repeat' first
    | with_reducible assumption
    | with_reducible apply r_LXS_PORT_RX_all | with_reducible apply Fr.ite | with_reducible apply onMsg_frame
    | with_reducible apply State.beginRound_frame | with_reducible apply State.floodMsg_frame | split | (intro v w hv)
    | (intro v hv)

theorem State.sendVote_frame (s : State) (hE : Ev W K) (r_CM8 : ∀ i, W (cmReg i + 8)) (r_CMP_FORMING : W CMP_FORMING)
    (r_CMP_LYR_LIVE : ∀ i, W (CMP_LYR_LIVE i)) (r_CMP_OUT_STATUS : ∀ i, W (CMP_OUT_STATUS i))
    (r_COL_OUT_STATUS : ∀ i, W (COL_OUT_STATUS i)) (r_COL_STATUS : W COL_STATUS) (r_LXS_COMMIT : W LXS_COMMIT)
    (r_PLN_OUT_STATUS : ∀ i, W (PLN_OUT_STATUS i)) (k_hif : K .hif) (k_int : K .int) (k_cmp : K .cmp) (k_col : K .col)
    (k_lxs : K .lxs) (h_s : Fr D W K s0 s) : Fr D W K s0 (State.sendVote s) := by
  unfold State.sendVote
  repeat' first
    | with_reducible assumption | with_reducible apply Fr.ite | with_reducible apply State.put_frame
    | with_reducible apply State.setRound_frame | with_reducible apply State.queueMsg_frame
    | with_reducible apply State.admitAll_frame | with_reducible apply r_CM8 | with_reducible apply r_CMP_LYR_LIVE
    | with_reducible apply r_CMP_OUT_STATUS | with_reducible apply r_COL_OUT_STATUS | with_reducible apply r_PLN_OUT_STATUS
    | (extract_lets +onlyGivenNames x; refine Fr.cut (D := D) (W := W) (K := K) (s0 := s0) (x := x) ?_ ?_; (on_goal 1 => dsimp -zeta only [x]); (on_goal 2 => intro hx; clear_value x))
    | (extract_lets +onlyGivenNames y) | split | (clear_value y; split)

theorem State.voteIfFull_frame (s : State) (hE : Ev W K) (r_CM8 : ∀ i, W (cmReg i + 8)) (r_CMP_FORMING : W CMP_FORMING)
    (r_CMP_LYR_LIVE : ∀ i, W (CMP_LYR_LIVE i)) (r_CMP_OUT_STATUS : ∀ i, W (CMP_OUT_STATUS i))
    (r_COL_OUT_STATUS : ∀ i, W (COL_OUT_STATUS i)) (r_COL_STATUS : W COL_STATUS) (r_LXS_COMMIT : W LXS_COMMIT)
    (r_PLN_OUT_STATUS : ∀ i, W (PLN_OUT_STATUS i)) (k_hif : K .hif) (k_int : K .int) (k_cmp : K .cmp) (k_col : K .col)
    (k_lxs : K .lxs) (h_s : Fr D W K s0 s) : Fr D W K s0 (State.voteIfFull s) := by
  unfold State.voteIfFull
  repeat' first
    | with_reducible assumption | with_reducible apply Fr.ite | with_reducible apply State.sendVote_frame
    | with_reducible apply r_CM8 | with_reducible apply r_CMP_LYR_LIVE | with_reducible apply r_CMP_OUT_STATUS
    | with_reducible apply r_COL_OUT_STATUS | with_reducible apply r_PLN_OUT_STATUS | split

theorem doVotePoint_frame (dt : Nat) (s : State) (hE : Ev W K) (r_CMP_FORMING : W CMP_FORMING)
    (r_CMP_LYR_LIVE : ∀ i, W (CMP_LYR_LIVE i)) (r_CMP_OUT_STATUS : ∀ i, W (CMP_OUT_STATUS i))
    (r_COL_OUT_STATUS : ∀ i, W (COL_OUT_STATUS i)) (r_COL_STATUS : W COL_STATUS) (r_LXS_COMMIT : W LXS_COMMIT)
    (r_PLN_OUT_STATUS : ∀ i, W (PLN_OUT_STATUS i)) (r_cmReg_8 : ∀ i, W (cmReg i + 8)) (k_hif : K .hif) (k_int : K .int)
    (k_cmp : K .cmp) (k_col : K .col) (k_lxs : K .lxs) (h_s : Fr D W K s0 s) : Fr D W K s0 (doVotePoint dt s) := by
  unfold doVotePoint
  repeat' first
    | with_reducible assumption | with_reducible apply State.tick_frame | with_reducible apply State.onLiveIf_frame
    | with_reducible apply State.setRound_frame | with_reducible apply State.showCommits_frame
    | with_reducible apply State.voteIfFull_frame | with_reducible apply r_CMP_LYR_LIVE
    | with_reducible apply r_CMP_OUT_STATUS | with_reducible apply r_COL_OUT_STATUS
    | with_reducible apply r_PLN_OUT_STATUS | with_reducible apply r_cmReg_8
    | (extract_lets +onlyGivenNames x; refine Fr.cut (D := D) (W := W) (K := K) (s0 := s0) (x := x) ?_ ?_; (on_goal 1 => dsimp -zeta only [x]); (on_goal 2 => intro hx; clear_value x))
    | (extract_lets +onlyGivenNames y) | split | (clear_value y; split) | (intro v w hv) | (intro v hv)

theorem doVote_frame (dt j target rbPend rbReady : Nat) (part : Bool) (ready pend admits : Nat) (s : State) (hE : Ev W K)
    (r_CM8 : ∀ i, W (cmReg i + 8)) (r_CMP_FORMING : W CMP_FORMING) (r_CMP_LYR_LIVE : ∀ i, W (CMP_LYR_LIVE i))
    (r_CMP_OUT_STATUS : ∀ i, W (CMP_OUT_STATUS i)) (r_COL_OUT_STATUS : ∀ i, W (COL_OUT_STATUS i))
    (r_COL_STATUS : W COL_STATUS) (r_LXS_COMMIT : W LXS_COMMIT) (r_LXS_PORT_RX : W (LXS_PORT_RX j))
    (r_PLN_OUT_STATUS : ∀ i, W (PLN_OUT_STATUS i)) (k_hif : K .hif) (k_int : K .int) (k_cmp : K .cmp) (k_col : K .col)
    (k_lxs : K .lxs) (h_s : Fr D W K s0 s) : Fr D W K s0 (doVote dt j target rbPend rbReady part ready pend admits s) := by
  unfold doVote
  repeat' first
    | with_reducible assumption | with_reducible apply Fr.ite | with_reducible apply onMsg_frame
    | with_reducible apply State.admitAll_frame | with_reducible apply State.setRound_frame
    | with_reducible apply State.voteIfFull_frame | with_reducible apply r_CM8 | with_reducible apply r_CMP_LYR_LIVE
    | with_reducible apply r_CMP_OUT_STATUS | with_reducible apply r_COL_OUT_STATUS | with_reducible apply r_PLN_OUT_STATUS
    | (extract_lets +onlyGivenNames x; refine Fr.cut (D := D) (W := W) (K := K) (s0 := s0) (x := x) ?_ ?_; (on_goal 1 => dsimp -zeta only [x]); (on_goal 2 => intro hx; clear_value x))
    | (extract_lets +onlyGivenNames y) | split | (intro v w hv) | (intro v hv)

theorem doVoteDeadline_frame (dt : Nat) (s : State) (hE : Ev W K) (r_CM8 : ∀ i, W (cmReg i + 8))
    (r_CMP_FORMING : W CMP_FORMING) (r_CMP_LYR_LIVE : ∀ i, W (CMP_LYR_LIVE i)) (r_CMP_OUT_STATUS : ∀ i, W (CMP_OUT_STATUS i))
    (r_COL_OUT_STATUS : ∀ i, W (COL_OUT_STATUS i)) (r_COL_STATUS : W COL_STATUS) (r_LXS_COMMIT : W LXS_COMMIT)
    (r_PLN_OUT_STATUS : ∀ i, W (PLN_OUT_STATUS i)) (k_hif : K .hif) (k_int : K .int) (k_cmp : K .cmp) (k_col : K .col)
    (k_lxs : K .lxs) (h_s : Fr D W K s0 s) : Fr D W K s0 (doVoteDeadline dt s) := by
  unfold doVoteDeadline
  repeat' first
    | with_reducible assumption | with_reducible apply State.tick_frame | with_reducible apply State.onLiveIf_frame
    | with_reducible apply State.sendVote_frame | with_reducible apply r_CM8 | with_reducible apply r_CMP_LYR_LIVE
    | with_reducible apply r_CMP_OUT_STATUS | with_reducible apply r_COL_OUT_STATUS | with_reducible apply r_PLN_OUT_STATUS
    | (extract_lets +onlyGivenNames x; refine Fr.cut (D := D) (W := W) (K := K) (s0 := s0) (x := x) ?_ ?_; (on_goal 1 => dsimp -zeta only [x]); (on_goal 2 => intro hx; clear_value x))
    | (extract_lets +onlyGivenNames y) | (intro v w hv) | (intro v hv)

theorem State.takeDecision_frame (s : State) (d : Decision) (hE : Ev W K) (r_CMP_FORMING : W CMP_FORMING)
    (r_CMP_LYR_LIVE : ∀ i, W (CMP_LYR_LIVE i)) (r_CMP_OUT_STATUS : ∀ i, W (CMP_OUT_STATUS i))
    (r_COL_OUT_STATUS : ∀ i, W (COL_OUT_STATUS i)) (r_COL_STATUS : W COL_STATUS) (r_GLB_BOOT_STATUS : W GLB_BOOT_STATUS)
    (r_PLN_OUT_STATUS : ∀ i, W (PLN_OUT_STATUS i)) (r_cmReg_8 : ∀ i, W (cmReg i + 8)) (k_hif : K .hif) (k_int : K .int)
    (k_cmp : K .cmp) (k_col : K .col) (k_lxs : K .lxs) (h_s : Fr D W K s0 s) : Fr D W K s0 (State.takeDecision s d) := by
  unfold State.takeDecision
  repeat' first
    | with_reducible assumption | with_reducible apply Fr.ite | with_reducible apply State.setRound_frame
    | with_reducible apply State.decideFor_frame | with_reducible apply State.putB_frame
    | with_reducible apply State.admitAll_frame | with_reducible apply State.showCommits_frame
    | with_reducible apply r_CMP_LYR_LIVE | with_reducible apply r_CMP_OUT_STATUS | with_reducible apply r_COL_OUT_STATUS
    | with_reducible apply r_PLN_OUT_STATUS | with_reducible apply r_cmReg_8
    | (extract_lets +onlyGivenNames x; refine Fr.cut (D := D) (W := W) (K := K) (s0 := s0) (x := x) ?_ ?_; (on_goal 1 => dsimp -zeta only [x]); (on_goal 2 => intro hx; clear_value x))
    | (extract_lets +onlyGivenNames y) | split | (clear_value y; split) | (intro v w hv) | (intro v hv)

theorem doRootDecide_frame (dt : Nat) (s : State) (hE : Ev W K) (r_CMP_FORMING : W CMP_FORMING)
    (r_CMP_LYR_LIVE : ∀ i, W (CMP_LYR_LIVE i)) (r_CMP_OUT_STATUS : ∀ i, W (CMP_OUT_STATUS i))
    (r_COL_OUT_STATUS : ∀ i, W (COL_OUT_STATUS i)) (r_COL_STATUS : W COL_STATUS) (r_GLB_BOOT_STATUS : W GLB_BOOT_STATUS)
    (r_PLN_OUT_STATUS : ∀ i, W (PLN_OUT_STATUS i)) (r_cmReg_8 : ∀ i, W (cmReg i + 8)) (k_hif : K .hif) (k_int : K .int)
    (k_cmp : K .cmp) (k_col : K .col) (k_lxs : K .lxs) (h_s : Fr D W K s0 s) : Fr D W K s0 (doRootDecide dt s) := by
  unfold doRootDecide
  repeat' first
    | with_reducible assumption | with_reducible apply State.tick_frame | with_reducible apply State.onLiveIf_frame
    | with_reducible apply State.floodMsg_frame | with_reducible apply State.takeDecision_frame
    | with_reducible apply r_CMP_LYR_LIVE | with_reducible apply r_CMP_OUT_STATUS | with_reducible apply r_COL_OUT_STATUS
    | with_reducible apply r_PLN_OUT_STATUS | with_reducible apply r_cmReg_8
    | (extract_lets +onlyGivenNames x; refine Fr.cut (D := D) (W := W) (K := K) (s0 := s0) (x := x) ?_ ?_; (on_goal 1 => dsimp -zeta only [x]); (on_goal 2 => intro hx; clear_value x))
    | (extract_lets +onlyGivenNames y) | split | (clear_value y; split) | (intro v w hv) | (intro v hv)

theorem doDecision_frame (dt j target rbApply apply admits prev : Nat) (s : State) (hE : Ev W K) (r_CM8 : ∀ i, W (cmReg i + 8))
    (r_CMP_FORMING : W CMP_FORMING) (r_CMP_LYR_LIVE : ∀ i, W (CMP_LYR_LIVE i)) (r_CMP_OUT_STATUS : ∀ i, W (CMP_OUT_STATUS i))
    (r_COL_OUT_STATUS : ∀ i, W (COL_OUT_STATUS i)) (r_COL_STATUS : W COL_STATUS) (r_GLB_BOOT_STATUS : W GLB_BOOT_STATUS)
    (r_LXS_PORT_RX : W (LXS_PORT_RX j)) (r_PLN_OUT_STATUS : ∀ i, W (PLN_OUT_STATUS i)) (k_hif : K .hif) (k_int : K .int)
    (k_cmp : K .cmp) (k_col : K .col) (k_lxs : K .lxs) (r_LXS_PORT_RX_all : ∀ i, W (LXS_PORT_RX i))
    (h_s : Fr D W K s0 s)
    : Fr D W K s0 (doDecision dt j target rbApply apply admits prev s) := by
  unfold doDecision
  repeat' first
    | with_reducible assumption
    | with_reducible apply r_LXS_PORT_RX_all | with_reducible apply Fr.ite | with_reducible apply onMsg_frame
    | with_reducible apply State.admitAll_frame | with_reducible apply State.floodMsg_frame
    | with_reducible apply State.takeDecision_frame | with_reducible apply r_CM8 | with_reducible apply r_CMP_LYR_LIVE
    | with_reducible apply r_CMP_OUT_STATUS | with_reducible apply r_COL_OUT_STATUS | with_reducible apply r_PLN_OUT_STATUS
    | (extract_lets +onlyGivenNames x; refine Fr.cut (D := D) (W := W) (K := K) (s0 := s0) (x := x) ?_ ?_; (on_goal 1 => dsimp -zeta only [x]); (on_goal 2 => intro hx; clear_value x))
    | (extract_lets +onlyGivenNames y) | split | (intro v w hv) | (intro v hv)

theorem doCommitRoundLost_frame (dt : Nat) (s : State) (hE : Ev W K) (r_CMP_FORMING : W CMP_FORMING)
    (r_CMP_LYR_LIVE : ∀ i, W (CMP_LYR_LIVE i)) (r_CMP_OUT_STATUS : ∀ i, W (CMP_OUT_STATUS i))
    (r_COL_OUT_STATUS : ∀ i, W (COL_OUT_STATUS i)) (r_COL_STATUS : W COL_STATUS)
    (r_HIF_GROUP_CTRL : ∀ i, W (HIF_GROUP_CTRL i)) (r_LXS_COMMIT : W LXS_COMMIT)
    (r_PLN_OUT_STATUS : ∀ i, W (PLN_OUT_STATUS i)) (r_PLN_STATUS : W PLN_STATUS) (r_cmReg : ∀ i, W (cmReg i))
    (r_cmReg_12 : ∀ i, W (cmReg i + 12)) (r_cmReg_8 : ∀ i, W (cmReg i + 8)) (k_hif : K .hif) (k_int : K .int)
    (k_cmp : K .cmp) (k_col : K .col) (k_pln : K .pln) (k_lxs : K .lxs) (h_s : Fr D W K s0 s)
    : Fr D W K s0 (doCommitRoundLost dt s) := by
  unfold doCommitRoundLost
  repeat' first
    | with_reducible assumption | with_reducible apply Fr.ite | (with_reducible apply foldOver_frame; intro a t ht)
    | with_reducible apply State.tick_frame | with_reducible apply State.onLiveIf_frame
    | with_reducible apply State.setRound_frame | with_reducible apply State.put_frame
    | with_reducible apply State.decideFor_frame | with_reducible apply State.raise_frame
    | with_reducible apply State.failCommit_frame | with_reducible apply State.incSat_frame
    | with_reducible apply r_CMP_LYR_LIVE | with_reducible apply r_CMP_OUT_STATUS | with_reducible apply r_COL_OUT_STATUS
    | with_reducible apply r_HIF_GROUP_CTRL | with_reducible apply r_PLN_OUT_STATUS | with_reducible apply r_cmReg
    | with_reducible apply r_cmReg_12 | with_reducible apply r_cmReg_8
    | (extract_lets +onlyGivenNames x; refine Fr.cut (D := D) (W := W) (K := K) (s0 := s0) (x := x) ?_ ?_; (on_goal 1 => dsimp -zeta only [x]); (on_goal 2 => intro hx; clear_value x))
    | (extract_lets +onlyGivenNames y) | split | (clear_value y; split) | (intro v w hv) | (intro v hv)

theorem State.systemStarts_frame (s : State) (r_LXS_STATUS : W LXS_STATUS) (h_s : Fr D W K s0 s)
    : Fr D W K s0 (State.systemStarts s) := by
  unfold State.systemStarts
  repeat' first
    | with_reducible assumption | with_reducible apply Fr.ite | with_reducible apply State.put_frame | split | (intro v w hv)
    | (intro v hv)

theorem State.endRound_frame (s : State) (k_lxs : K .lxs) (h_s : Fr D W K s0 s) : Fr D W K s0 (State.endRound s) := by
  unfold State.endRound
  repeat' first
    | with_reducible assumption | with_reducible apply State.setRound_frame
    | (extract_lets +onlyGivenNames x; refine Fr.cut (D := D) (W := W) (K := K) (s0 := s0) (x := x) ?_ ?_; (on_goal 1 => dsimp -zeta only [x]); (on_goal 2 => intro hx; clear_value x))
    | (extract_lets +onlyGivenNames y) | split | (clear_value y; split) | (intro v w hv) | (intro v hv)

theorem State.scanFrame_frame (hD : DramOk D) (s : State) (o : Nat) (hE : Ev W K) (r_CMP_FBC_ERRORS : W CMP_FBC_ERRORS)
    (r_CMP_LYR_FBC_ERR : ∀ i, W (CMP_LYR_FBC_ERR i)) (r_rectReg0x14 : ∀ i j, W (rectReg i j 0x14))
    (r_rectReg0x18 : ∀ i j, W (rectReg i j 0x18)) (k_out : K .out) (k_mem : K .mem) (k_int : K .int) (k_cmp : K .cmp)
    (h_s : Fr D W K s0 s) : Fr D W K s0 (State.scanFrame s o) := by
  unfold State.scanFrame
  repeat' first
    | with_reducible assumption | (simp -zeta (disch := first | assumption | exact rfl) only [↓Fr.setCmp])
    | with_reducible apply Fr.ite | with_reducible apply State.countTiles_frame
    | with_reducible apply State.scanView_frame | with_reducible apply State.writeFrame_frame hD
    | with_reducible apply State.rectResults_frame | with_reducible apply State.rectNoWb_frame
    | with_reducible apply State.rectApply_frame | with_reducible apply r_CMP_LYR_FBC_ERR
    | with_reducible apply r_rectReg0x14 | with_reducible apply r_rectReg0x18
    | (extract_lets +onlyGivenNames x; refine Fr.cut (D := D) (W := W) (K := K) (s0 := s0) (x := x) ?_ ?_; (on_goal 1 => dsimp -zeta only [x]); (on_goal 2 => intro hx; clear_value x))
    | (extract_lets +onlyGivenNames y) | split | (clear_value y; split) | (intro v w hv) | (intro v hv)

theorem State.endOffs_frame (b : State) (started : List Nat) (r_CMP_LYR_STATUS : ∀ i, W (CMP_LYR_STATUS i))
    (k_cmp : K .cmp) (h_s : Fr D W K s0 b) : Fr D W K s0 (State.endOffs b started) := by
  unfold State.endOffs
  repeat' first
    | with_reducible assumption | (simp -zeta (disch := first | assumption | exact rfl) only [↓Fr.setCmp])
    | with_reducible apply Fr.ite | (with_reducible apply foldOver_frame; intro a t ht)
    | with_reducible apply State.showOff_frame | with_reducible apply r_CMP_LYR_STATUS
    | (extract_lets +onlyGivenNames x; refine Fr.cut (D := D) (W := W) (K := K) (s0 := s0) (x := x) ?_ ?_; (on_goal 1 => dsimp -zeta only [x]); (on_goal 2 => intro hx; clear_value x))
    | (extract_lets +onlyGivenNames y) | split | (clear_value y; split) | (intro v w hv) | (intro v hv)

theorem State.applyDrop_frame (s : State) (started : List Nat) (d : DropSt) (hE : Ev W K)
    (r_CMP_DROP_STATUS : W CMP_DROP_STATUS) (r_CMP_LYR_OFF_LFN : ∀ i, W (CMP_LYR_OFF_LFN i))
    (r_CMP_LYR_OFF_LINE : ∀ i, W (CMP_LYR_OFF_LINE i)) (r_CMP_LYR_STATUS : ∀ i, W (CMP_LYR_STATUS i))
    (r_CMP_OUT_UNDERRUNS : ∀ i, W (CMP_OUT_UNDERRUNS i)) (k_cmp : K .cmp) (k_pln : K .pln) (h_s : Fr D W K s0 s)
    : Fr D W K s0 (State.applyDrop s started d).1 := by
  unfold State.applyDrop
  repeat' first
    | with_reducible assumption | with_reducible apply Fr.ite | with_reducible apply Fr.ite1
    | (with_reducible apply foldOver_frame; intro a t ht) | with_reducible apply State.markOff_frame
    | with_reducible apply State.showOffLine_frame | with_reducible apply State.inc_frame
    | with_reducible apply State.raiseCB_frame | with_reducible apply r_CMP_LYR_OFF_LFN
    | with_reducible apply r_CMP_LYR_OFF_LINE | with_reducible apply r_CMP_LYR_STATUS
    | with_reducible apply r_CMP_OUT_UNDERRUNS
    | (extract_lets +onlyGivenNames x; refine Fr.cut (D := D) (W := W) (K := K) (s0 := s0) (x := x) ?_ ?_; (on_goal 1 => dsimp -zeta only [x]); (on_goal 2 => intro hx; clear_value x))
    | (extract_lets +onlyGivenNames y) | split | (clear_value y; split) | (intro v w hv) | (intro v hv)

theorem State.applyDrops_frame (s : State) (started : List Nat) (hE : Ev W K) (r_CMP_DROP_STATUS : W CMP_DROP_STATUS)
    (r_CMP_LYR_OFF_LFN : ∀ i, W (CMP_LYR_OFF_LFN i)) (r_CMP_LYR_OFF_LINE : ∀ i, W (CMP_LYR_OFF_LINE i))
    (r_CMP_LYR_STATUS : ∀ i, W (CMP_LYR_STATUS i)) (r_CMP_OUT_UNDERRUNS : ∀ i, W (CMP_OUT_UNDERRUNS i)) (k_cmp : K .cmp)
    (k_pln : K .pln)
    (h_s : Fr D W K s0 s) : Fr D W K s0 (State.applyDrops s started) := by
  unfold State.applyDrops
  extract_lets outs r
  have key : ∀ (l : List DropSt) (a : State × List DropSt), Fr D W K s0 a.1 →
      Fr D W K s0 (l.foldl (fun (a : State × List DropSt) (d : DropSt) =>
        if d.due ≤ a.1.now then
          (let b := a.1.applyDrop started d
           (b.1, if outs.all b.2.done.contains then a.2 else a.2 ++ [b.2]))
        else (a.1, a.2 ++ [d])) a).1 := by
    intro l
    induction l with
    | nil => intro a h; exact h
    | cons d r ih =>
      intro a h
      refine ih _ (Fr.ite1 ?_ h)
      apply State.applyDrop_frame <;> assumption
  exact (key s.cmp.drops (s, []) h_s).upd rfl (fun p hp => by cases p <;> first | rfl | exact absurd ‹_› hp) rfl rfl

theorem State.repairPasses_frame (s : State) (hE : Ev W K) (r_CMP_FORMING : W CMP_FORMING)
    (r_CMP_LYR_LIVE : ∀ i, W (CMP_LYR_LIVE i)) (r_CMP_OUT_STATUS : ∀ i, W (CMP_OUT_STATUS i))
    (r_COL_OUT_STATUS : ∀ i, W (COL_OUT_STATUS i)) (r_COL_STATUS : W COL_STATUS)
    (r_PLN_OUT_STATUS : ∀ i, W (PLN_OUT_STATUS i)) (k_int : K .int) (k_cmp : K .cmp) (k_col : K .col) (h_s : Fr D W K s0 s)
    : Fr D W K s0 (State.repairPasses s) := by
  unfold State.repairPasses
  repeat' first
    | with_reducible assumption | (simp -zeta (disch := first | assumption | exact rfl) only [↓Fr.setCmp])
    | with_reducible apply Fr.ite | with_reducible apply State.askPass_frame
    | (with_reducible apply foldOver_frame; intro a t ht) | with_reducible apply r_CMP_LYR_LIVE
    | with_reducible apply r_CMP_OUT_STATUS | with_reducible apply r_COL_OUT_STATUS | with_reducible apply r_PLN_OUT_STATUS
    | (extract_lets +onlyGivenNames x; refine Fr.cut (D := D) (W := W) (K := K) (s0 := s0) (x := x) ?_ ?_; (on_goal 1 => dsimp -zeta only [x]); (on_goal 2 => intro hx; clear_value x))
    | (extract_lets +onlyGivenNames y) | split | (intro v w hv) | (intro v hv)

theorem State.solveScans_frame (s : State) (hE : Ev W K) (r_COL_OUT_STATUS : ∀ i, W (COL_OUT_STATUS i)) (k_col : K .col)
    (h_s : Fr D W K s0 s) : Fr D W K s0 (State.solveScans s) := by
  unfold State.solveScans
  repeat' first
    | with_reducible assumption | (with_reducible apply foldOver_frame; intro a t ht)
    | with_reducible apply State.solveOutput_frame | with_reducible apply r_COL_OUT_STATUS
    | (extract_lets +onlyGivenNames x; refine Fr.cut (D := D) (W := W) (K := K) (s0 := s0) (x := x) ?_ ?_; (on_goal 1 => dsimp -zeta only [x]); (on_goal 2 => intro hx; clear_value x))
    | (extract_lets +onlyGivenNames y) | split | (clear_value y; split) | (intro v w hv) | (intro v hv)

theorem State.internalPasses_frame (s : State) (r_CMP_FORMING : W CMP_FORMING) (r_CMP_OUT_STATUS : ∀ i, W (CMP_OUT_STATUS i))
    (r_COL_STATUS : W COL_STATUS) (r_PLN_OUT_STATUS : ∀ i, W (PLN_OUT_STATUS i)) (r_RECT14 : ∀ i j, W (rectReg i j 0x14))
    (r_RECT18 : ∀ i j, W (rectReg i j 0x18)) (r_SEQ_OUT_SCHED : ∀ i, W (SEQ_OUT_SCHED i)) (k_int : K .int) (k_cmp : K .cmp)
    (k_pln : K .pln) (k_seq : K .seq) (h_s : Fr D W K s0 s) : Fr D W K s0 (State.internalPasses s) := by
  unfold State.internalPasses
  repeat' first
    | with_reducible assumption | with_reducible apply State.applyPass_frame
    | (with_reducible apply foldOver_frame; intro a t ht) | with_reducible apply r_CMP_OUT_STATUS
    | with_reducible apply r_PLN_OUT_STATUS | with_reducible apply r_RECT14 | with_reducible apply r_RECT18
    | with_reducible apply r_SEQ_OUT_SCHED
    | (extract_lets +onlyGivenNames x; refine Fr.cut (D := D) (W := W) (K := K) (s0 := s0) (x := x) ?_ ?_; (on_goal 1 => dsimp -zeta only [x]); (on_goal 2 => intro hx; clear_value x))
    | (extract_lets +onlyGivenNames y) | split | (intro v w hv) | (intro v hv)

theorem State.startBoundary_frame (s : State) (hE : Ev W K) (r_CMP_FORMING : W CMP_FORMING)
    (r_CMP_LYR_LIVE : ∀ i, W (CMP_LYR_LIVE i)) (r_CMP_OUT_STATUS : ∀ i, W (CMP_OUT_STATUS i))
    (r_COL_OUT_STATUS : ∀ i, W (COL_OUT_STATUS i)) (r_COL_STATUS : W COL_STATUS) (r_GLB_BOOT_STATUS : W GLB_BOOT_STATUS)
    (r_GLB_BOOT_TIME : W (GLB_BOOT_TIME 7)) (r_HIF_STATUS : W HIF_STATUS) (r_LMP_HB : W LMP_HB) (r_LMP_SAFETY : W LMP_SAFETY)
    (r_LXS_STARTUP : W LXS_STARTUP) (r_LXS_STATUS : W LXS_STATUS) (r_PLN_OUT_STATUS : ∀ i, W (PLN_OUT_STATUS i))
    (r_THM_STATUS : W THM_STATUS) (k_out : K .out) (k_glb : K .glb) (k_int : K .int) (k_cmp : K .cmp) (k_col : K .col)
    (k_scn : K .scn) (k_lmp : K .lmp) (k_mem : K .mem)
    (h_s : Fr D W K s0 s) : Fr D W K s0 (State.startBoundary s) := by
  unfold State.startBoundary
  repeat' first
    | with_reducible assumption | with_reducible apply Fr.ite | with_reducible apply State.systemStarts_frame
    | with_reducible apply State.startupDone_frame | with_reducible apply State.restartDone_frame
    | with_reducible apply r_CMP_LYR_LIVE | with_reducible apply r_CMP_OUT_STATUS | with_reducible apply r_COL_OUT_STATUS
    | with_reducible apply r_PLN_OUT_STATUS
    | (extract_lets +onlyGivenNames x; refine Fr.cut (D := D) (W := W) (K := K) (s0 := s0) (x := x) ?_ ?_; (on_goal 1 => dsimp -zeta only [x]); (on_goal 2 => intro hx; clear_value x))
    | (extract_lets +onlyGivenNames y) | split

theorem State.boundaryOrders_frame (s : State) (hE : Ev W K) (r_APT_PORT_STATE : ∀ i, W (APT_PORT_STATE i))
    (r_CAL_CULLET : W CAL_CULLET) (r_CAL_FENCED : W CAL_FENCED) (r_CAL_FENCE_DATA_0 : W CAL_FENCE_DATA_0)
    (r_CAL_FENCE_DATA_1 : W CAL_FENCE_DATA_1) (r_CAL_FENCE_DATA_2 : W CAL_FENCE_DATA_2)
    (r_CAL_SESS_STATUS : ∀ i, W (CAL_SESS_STATUS i)) (r_CAL_STORE_STATUS : W CAL_STORE_STATUS)
    (r_CFG_IMAGE_INFO : W CFG_IMAGE_INFO) (r_CFG_LOAD_CTRL : W CFG_LOAD_CTRL)
    (r_CFG_RELOAD_APPLIED : W CFG_RELOAD_APPLIED) (r_CFG_STATUS : W CFG_STATUS) (r_CMP_FORMING : W CMP_FORMING)
    (r_CMP_OUT_STATUS : ∀ i, W (CMP_OUT_STATUS i)) (r_COL_DEC_STATUS : ∀ i, W (COL_DEC_STATUS i))
    (r_COL_LUT_STATUS : ∀ i, W (COL_LUT_STATUS i)) (r_COL_STATUS : W COL_STATUS)
    (r_HIF_GROUP_CTRL : ∀ i, W (HIF_GROUP_CTRL i)) (r_LAN_LANE_EQ : ∀ i, W (LAN_LANE_EQ i))
    (r_LAN_LANE_STATE : ∀ i, W (LAN_LANE_STATE i)) (r_LAN_STATUS : W LAN_STATUS)
    (r_LXS_PORT_STATE : ∀ i, W (LXS_PORT_STATE i)) (r_LXS_ROOT_HI : W LXS_ROOT_HI) (r_LXS_ROOT_LO : W LXS_ROOT_LO)
    (r_LXS_STATUS : W LXS_STATUS) (r_LXS_SYSID_HI : W LXS_SYSID_HI) (r_PLN_BOOK_STATUS : ∀ i, W (PLN_BOOK_STATUS i))
    (r_PLN_MASK_STATUS : W PLN_MASK_STATUS) (r_PLN_OUT_STATUS : ∀ i, W (PLN_OUT_STATUS i))
    (r_PLN_OUT_USED : ∀ i, W (PLN_OUT_USED i)) (r_PLN_STATUS : W PLN_STATUS)
    (r_SEQ_OUT_COUNTS : ∀ i, W (SEQ_OUT_COUNTS i)) (r_SEQ_OUT_EFF : ∀ i, W (SEQ_OUT_EFF i))
    (r_SEQ_OUT_LIGHT : ∀ i, W (SEQ_OUT_LIGHT i)) (r_SEQ_OUT_MECH : ∀ i, W (SEQ_OUT_MECH i))
    (r_SEQ_OUT_SCHED : ∀ i, W (SEQ_OUT_SCHED i)) (r_SEQ_OUT_SPAN : ∀ i, W (SEQ_OUT_SPAN i))
    (r_SEQ_SCHED_STATUS : W SEQ_SCHED_STATUS) (r_SEQ_THROTTLE : W SEQ_THROTTLE) (r_SEQ_TILES : W SEQ_TILES)
    (r_THM_DOM_ON : ∀ i, W (THM_DOM_ON i)) (r_THM_STATUS : W THM_STATUS) (r_TIM_DPLL_STATUS : W TIM_DPLL_STATUS)
    (r_TIM_OUT_CFN : ∀ i, W (TIM_OUT_CFN i)) (r_TIM_REF_STATUS : W TIM_REF_STATUS)
    (r_TIM_SHUT_ANGLE : ∀ i, W (TIM_SHUT_ANGLE i)) (r_TIM_SHUT_CTRL : ∀ i, W (TIM_SHUT_CTRL i))
    (r_TIM_SHUT_OPEN : ∀ i, W (TIM_SHUT_OPEN i)) (r_TIM_SHUT_STATUS : ∀ i, W (TIM_SHUT_STATUS i))
    (r_TIM_SHUT_WIN_LEN : ∀ i, W (TIM_SHUT_WIN_LEN i)) (r_TIM_SHUT_WIN_OPEN : ∀ i, W (TIM_SHUT_WIN_OPEN i))
    (r_cmReg : ∀ i, W (cmReg i)) (r_cmReg_12 : ∀ i, W (cmReg i + 12)) (r_cmReg_8 : ∀ i, W (cmReg i + 8))
    (r_rectReg0x14 : ∀ i j, W (rectReg i j 0x14)) (r_rectReg0x18 : ∀ i j, W (rectReg i j 0x18)) (k_fresh : K .fresh)
    (k_act : K .act) (k_tim : K .tim) (k_cfg : K .cfg) (k_hif : K .hif) (k_mem : K .mem) (k_int : K .int) (k_cmp : K .cmp)
    (k_col : K .col) (k_pln : K .pln) (k_seq : K .seq) (k_apt : K .apt) (k_lmp : K .lmp) (k_lan : K .lan) (k_lxs : K .lxs)
    (k_thm : K .thm) (k_cal : K .cal) (r_LMP_POS_CURRENT : W LMP_POS_CURRENT)
    (r_LMP_POS_FACTOR : W LMP_POS_FACTOR)
    (r_LMP_POS_STATE : W LMP_POS_STATE)
    (h_s : Fr D W K s0 s) : Fr D W K s0 (State.boundaryOrders s) := by
  unfold State.boundaryOrders
  repeat' first
    | with_reducible assumption | with_reducible apply Fr.ite | with_reducible apply State.calOrder1_frame
    | with_reducible apply State.rowsBoundary_frame | with_reducible apply State.moveCommits_frame
    | with_reducible apply State.applyReload_frame | with_reducible apply State.throttleBoundary_frame
    | with_reducible apply State.applyCommits_frame | with_reducible apply State.rebuildCommits_frame
    | with_reducible apply State.shutterBoundary_frame | with_reducible apply r_APT_PORT_STATE
    | with_reducible apply r_CAL_SESS_STATUS | with_reducible apply r_CMP_OUT_STATUS
    | with_reducible apply r_COL_DEC_STATUS | with_reducible apply r_COL_LUT_STATUS
    | with_reducible apply r_HIF_GROUP_CTRL | with_reducible apply r_LAN_LANE_EQ | with_reducible apply r_LAN_LANE_STATE
    | with_reducible apply r_LXS_PORT_STATE | with_reducible apply r_PLN_BOOK_STATUS
    | with_reducible apply r_PLN_OUT_STATUS | with_reducible apply r_PLN_OUT_USED | with_reducible apply r_SEQ_OUT_COUNTS
    | with_reducible apply r_SEQ_OUT_EFF | with_reducible apply r_SEQ_OUT_LIGHT | with_reducible apply r_SEQ_OUT_MECH
    | with_reducible apply r_SEQ_OUT_SCHED | with_reducible apply r_SEQ_OUT_SPAN | with_reducible apply r_THM_DOM_ON
    | with_reducible apply r_TIM_OUT_CFN | with_reducible apply r_TIM_SHUT_ANGLE | with_reducible apply r_TIM_SHUT_CTRL
    | with_reducible apply r_TIM_SHUT_OPEN | with_reducible apply r_TIM_SHUT_STATUS
    | with_reducible apply r_TIM_SHUT_WIN_LEN | with_reducible apply r_TIM_SHUT_WIN_OPEN | with_reducible apply r_cmReg
    | with_reducible apply r_cmReg_12 | with_reducible apply r_cmReg_8 | with_reducible apply r_rectReg0x14
    | with_reducible apply r_rectReg0x18
    | (extract_lets +onlyGivenNames x; refine Fr.cut (D := D) (W := W) (K := K) (s0 := s0) (x := x) ?_ ?_; (on_goal 1 => dsimp -zeta only [x]); (on_goal 2 => intro hx; clear_value x))
    | (extract_lets +onlyGivenNames y) | split | (clear_value y; split) | (intro v w hv) | (intro v hv)

theorem State.compareRects_frame (s : State) (hE : Ev W K) (r_APT_PORT_STATE : ∀ i, W (APT_PORT_STATE i))
    (r_CAL_CULLET : W CAL_CULLET) (r_CAL_FENCED : W CAL_FENCED) (r_CAL_FENCE_DATA_0 : W CAL_FENCE_DATA_0)
    (r_CAL_FENCE_DATA_1 : W CAL_FENCE_DATA_1) (r_CAL_FENCE_DATA_2 : W CAL_FENCE_DATA_2)
    (r_CAL_SESS_STATUS : ∀ i, W (CAL_SESS_STATUS i)) (r_CAL_STORE_STATUS : W CAL_STORE_STATUS)
    (r_CFG_IMAGE_INFO : W CFG_IMAGE_INFO) (r_CFG_LOAD_CTRL : W CFG_LOAD_CTRL) (r_CFG_RELOAD_APPLIED : W CFG_RELOAD_APPLIED)
    (r_CFG_STATUS : W CFG_STATUS) (r_CM0 : ∀ i, W (cmReg i)) (r_CM12 : ∀ i, W (cmReg i + 12)) (r_CM8 : ∀ i, W (cmReg i + 8))
    (r_CMP_FORMING : W CMP_FORMING) (r_CMP_OUT_STATUS : ∀ i, W (CMP_OUT_STATUS i))
    (r_COL_DEC_STATUS : ∀ i, W (COL_DEC_STATUS i)) (r_COL_LUT_STATUS : ∀ i, W (COL_LUT_STATUS i))
    (r_COL_STATUS : W COL_STATUS) (r_HIF_GROUP_CTRL : ∀ i, W (HIF_GROUP_CTRL i)) (r_INT_CRC_SUM : ∀ i, W (INT_CRC_SUM i))
    (r_LAN_LANE_EQ : ∀ i, W (LAN_LANE_EQ i)) (r_LAN_LANE_STATE : ∀ i, W (LAN_LANE_STATE i)) (r_LAN_STATUS : W LAN_STATUS)
    (r_LXS_PORT_STATE : ∀ i, W (LXS_PORT_STATE i)) (r_LXS_ROOT_HI : W LXS_ROOT_HI) (r_LXS_ROOT_LO : W LXS_ROOT_LO)
    (r_LXS_STATUS : W LXS_STATUS) (r_LXS_SYSID_HI : W LXS_SYSID_HI) (r_PLN_BOOK_STATUS : ∀ i, W (PLN_BOOK_STATUS i))
    (r_PLN_MASK_STATUS : W PLN_MASK_STATUS) (r_PLN_OUT_STATUS : ∀ i, W (PLN_OUT_STATUS i))
    (r_PLN_OUT_USED : ∀ i, W (PLN_OUT_USED i)) (r_PLN_STATUS : W PLN_STATUS) (r_RECT14 : ∀ i j, W (rectReg i j 0x14))
    (r_RECT18 : ∀ i j, W (rectReg i j 0x18)) (r_RECT1C : ∀ i j, W (rectReg i j 0x1C))
    (r_SEQ_OUT_COUNTS : ∀ i, W (SEQ_OUT_COUNTS i)) (r_SEQ_OUT_EFF : ∀ i, W (SEQ_OUT_EFF i))
    (r_SEQ_OUT_LIGHT : ∀ i, W (SEQ_OUT_LIGHT i)) (r_SEQ_OUT_MECH : ∀ i, W (SEQ_OUT_MECH i))
    (r_SEQ_OUT_SCHED : ∀ i, W (SEQ_OUT_SCHED i)) (r_SEQ_OUT_SPAN : ∀ i, W (SEQ_OUT_SPAN i))
    (r_SEQ_SCHED_STATUS : W SEQ_SCHED_STATUS) (r_SEQ_THROTTLE : W SEQ_THROTTLE) (r_SEQ_TILES : W SEQ_TILES)
    (r_THM_DOM_ON : ∀ i, W (THM_DOM_ON i)) (r_THM_STATUS : W THM_STATUS) (r_TIM_DPLL_STATUS : W TIM_DPLL_STATUS)
    (r_TIM_OUT_CFN : ∀ i, W (TIM_OUT_CFN i)) (r_TIM_OUT_LATE : ∀ i, W (TIM_OUT_LATE i))
    (r_TIM_OUT_REPEATS : ∀ i, W (TIM_OUT_REPEATS i)) (r_TIM_REF_STATUS : W TIM_REF_STATUS)
    (r_TIM_SHUT_ANGLE : ∀ i, W (TIM_SHUT_ANGLE i)) (r_TIM_SHUT_CTRL : ∀ i, W (TIM_SHUT_CTRL i))
    (r_TIM_SHUT_OPEN : ∀ i, W (TIM_SHUT_OPEN i)) (r_TIM_SHUT_STATUS : ∀ i, W (TIM_SHUT_STATUS i))
    (r_TIM_SHUT_WIN_LEN : ∀ i, W (TIM_SHUT_WIN_LEN i)) (r_TIM_SHUT_WIN_OPEN : ∀ i, W (TIM_SHUT_WIN_OPEN i))
    (k_fresh : K .fresh) (k_act : K .act) (k_tim : K .tim) (k_cfg : K .cfg) (k_hif : K .hif) (k_mem : K .mem) (k_int : K .int)
    (k_cmp : K .cmp) (k_col : K .col) (k_pln : K .pln) (k_seq : K .seq) (k_apt : K .apt) (k_lmp : K .lmp) (k_lan : K .lan)
    (k_lxs : K .lxs) (k_thm : K .thm) (k_cal : K .cal) (r_LMP_POS_CURRENT : W LMP_POS_CURRENT)
    (r_LMP_POS_FACTOR : W LMP_POS_FACTOR)
    (r_LMP_POS_STATE : W LMP_POS_STATE)
    (h_s : Fr D W K s0 s) : Fr D W K s0 (State.compareRects s) := by
  unfold State.compareRects
  repeat' first
    | with_reducible assumption | with_reducible apply Fr.ite | with_reducible apply State.boundaryOrders_frame
    | with_reducible apply State.repeatOutputs_frame | with_reducible apply State.crcCompare_frame
    | (with_reducible apply foldOver_frame; intro a t ht) | with_reducible apply r_APT_PORT_STATE
    | with_reducible apply r_CAL_SESS_STATUS | with_reducible apply r_CM0 | with_reducible apply r_CM12
    | with_reducible apply r_CM8 | with_reducible apply r_CMP_OUT_STATUS | with_reducible apply r_COL_DEC_STATUS
    | with_reducible apply r_COL_LUT_STATUS | with_reducible apply r_HIF_GROUP_CTRL | with_reducible apply r_INT_CRC_SUM
    | with_reducible apply r_LAN_LANE_EQ | with_reducible apply r_LAN_LANE_STATE | with_reducible apply r_LXS_PORT_STATE
    | with_reducible apply r_PLN_BOOK_STATUS | with_reducible apply r_PLN_OUT_STATUS | with_reducible apply r_PLN_OUT_USED
    | with_reducible apply r_RECT14 | with_reducible apply r_RECT18 | with_reducible apply r_RECT1C
    | with_reducible apply r_SEQ_OUT_COUNTS | with_reducible apply r_SEQ_OUT_EFF | with_reducible apply r_SEQ_OUT_LIGHT
    | with_reducible apply r_SEQ_OUT_MECH | with_reducible apply r_SEQ_OUT_SCHED | with_reducible apply r_SEQ_OUT_SPAN
    | with_reducible apply r_THM_DOM_ON | with_reducible apply r_TIM_OUT_CFN | with_reducible apply r_TIM_OUT_LATE
    | with_reducible apply r_TIM_OUT_REPEATS | with_reducible apply r_TIM_SHUT_ANGLE | with_reducible apply r_TIM_SHUT_CTRL
    | with_reducible apply r_TIM_SHUT_OPEN | with_reducible apply r_TIM_SHUT_STATUS | with_reducible apply r_TIM_SHUT_WIN_LEN
    | with_reducible apply r_TIM_SHUT_WIN_OPEN
    | (extract_lets +onlyGivenNames x; refine Fr.cut (D := D) (W := W) (K := K) (s0 := s0) (x := x) ?_ ?_; (on_goal 1 => dsimp -zeta only [x]); (on_goal 2 => intro hx; clear_value x))
    | (extract_lets +onlyGivenNames y) | split | (intro v w hv) | (intro v hv)

theorem State.boundaryChanges_frame (s : State) (hE : Ev W K) (r_APT_PORT_STATE : ∀ i, W (APT_PORT_STATE i))
    (r_CAL_CULLET : W CAL_CULLET) (r_CAL_FENCED : W CAL_FENCED) (r_CAL_FENCE_DATA_0 : W CAL_FENCE_DATA_0)
    (r_CAL_FENCE_DATA_1 : W CAL_FENCE_DATA_1) (r_CAL_FENCE_DATA_2 : W CAL_FENCE_DATA_2)
    (r_CAL_SESS_STATUS : ∀ i, W (CAL_SESS_STATUS i)) (r_CAL_STORE_STATUS : W CAL_STORE_STATUS)
    (r_CFG_IMAGE_INFO : W CFG_IMAGE_INFO) (r_CFG_LOAD_CTRL : W CFG_LOAD_CTRL)
    (r_CFG_RELOAD_APPLIED : W CFG_RELOAD_APPLIED) (r_CFG_STATUS : W CFG_STATUS) (r_CMP_FORMING : W CMP_FORMING)
    (r_CMP_LYR_LIVE : ∀ i, W (CMP_LYR_LIVE i)) (r_CMP_OUT_STATUS : ∀ i, W (CMP_OUT_STATUS i))
    (r_COL_DEC_STATUS : ∀ i, W (COL_DEC_STATUS i)) (r_COL_LUT_STATUS : ∀ i, W (COL_LUT_STATUS i))
    (r_COL_OUT_STATUS : ∀ i, W (COL_OUT_STATUS i)) (r_COL_STATUS : W COL_STATUS) (r_GLB_BOOT_STATUS : W GLB_BOOT_STATUS)
    (r_GLB_BOOT_TIME : ∀ i, W (GLB_BOOT_TIME i)) (r_HIF_FN_DROPS : ∀ i, W (HIF_FN_DROPS i))
    (r_HIF_FN_STATUS : ∀ i, W (HIF_FN_STATUS i)) (r_HIF_GROUP_CTRL : ∀ i, W (HIF_GROUP_CTRL i))
    (r_HIF_STATUS : W HIF_STATUS) (r_INT_CRC_SUM : ∀ i, W (INT_CRC_SUM i)) (r_INT_DROPS : W INT_DROPS)
    (r_INT_LOG_STATUS : W INT_LOG_STATUS) (r_INT_STATUS : W INT_STATUS) (r_INT_SUPPRESSED : W INT_SUPPRESSED)
    (r_LAN_LANE_EQ : ∀ i, W (LAN_LANE_EQ i)) (r_LAN_LANE_STATE : ∀ i, W (LAN_LANE_STATE i)) (r_LAN_STATUS : W LAN_STATUS)
    (r_LMP_HB : W LMP_HB) (r_LMP_SAFETY : W LMP_SAFETY) (r_LXS_PORT_STATE : ∀ i, W (LXS_PORT_STATE i))
    (r_LXS_ROOT_HI : W LXS_ROOT_HI) (r_LXS_ROOT_LO : W LXS_ROOT_LO) (r_LXS_STARTUP : W LXS_STARTUP)
    (r_LXS_STATUS : W LXS_STATUS) (r_LXS_SYSID_HI : W LXS_SYSID_HI) (r_PLN_BOOK_STATUS : ∀ i, W (PLN_BOOK_STATUS i))
    (r_PLN_MASK_STATUS : W PLN_MASK_STATUS) (r_PLN_OUT_STATUS : ∀ i, W (PLN_OUT_STATUS i))
    (r_PLN_OUT_USED : ∀ i, W (PLN_OUT_USED i)) (r_PLN_STATUS : W PLN_STATUS)
    (r_SEQ_OUT_COUNTS : ∀ i, W (SEQ_OUT_COUNTS i)) (r_SEQ_OUT_EFF : ∀ i, W (SEQ_OUT_EFF i))
    (r_SEQ_OUT_LIGHT : ∀ i, W (SEQ_OUT_LIGHT i)) (r_SEQ_OUT_MECH : ∀ i, W (SEQ_OUT_MECH i))
    (r_SEQ_OUT_SCHED : ∀ i, W (SEQ_OUT_SCHED i)) (r_SEQ_OUT_SPAN : ∀ i, W (SEQ_OUT_SPAN i))
    (r_SEQ_SCHED_STATUS : W SEQ_SCHED_STATUS) (r_SEQ_SLOT_DATA_0 : W SEQ_SLOT_DATA_0)
    (r_SEQ_SLOT_DATA_1 : W SEQ_SLOT_DATA_1) (r_SEQ_SLOT_DATA_2 : W SEQ_SLOT_DATA_2)
    (r_SEQ_SLOT_DATA_3 : W SEQ_SLOT_DATA_3) (r_SEQ_THROTTLE : W SEQ_THROTTLE) (r_SEQ_TILES : W SEQ_TILES)
    (r_THM_DOM_ON : ∀ i, W (THM_DOM_ON i)) (r_THM_STATUS : W THM_STATUS) (r_TIM_DPLL_STATUS : W TIM_DPLL_STATUS)
    (r_TIM_FREERUN_PERIOD : W TIM_FREERUN_PERIOD) (r_TIM_GENLOCK_CFG : W TIM_GENLOCK_CFG) (r_TIM_LF_CFG : W TIM_LF_CFG)
    (r_TIM_LF_PERIOD : W TIM_LF_PERIOD) (r_TIM_OUT_CFN : ∀ i, W (TIM_OUT_CFN i))
    (r_TIM_OUT_LATE : ∀ i, W (TIM_OUT_LATE i)) (r_TIM_OUT_REPEATS : ∀ i, W (TIM_OUT_REPEATS i))
    (r_TIM_PHASE_OFFSET : W TIM_PHASE_OFFSET) (r_TIM_REF_CTRL : W TIM_REF_CTRL) (r_TIM_REF_STATUS : W TIM_REF_STATUS)
    (r_TIM_SHUT_ANGLE : ∀ i, W (TIM_SHUT_ANGLE i)) (r_TIM_SHUT_CTRL : ∀ i, W (TIM_SHUT_CTRL i))
    (r_TIM_SHUT_OPEN : ∀ i, W (TIM_SHUT_OPEN i)) (r_TIM_SHUT_STATUS : ∀ i, W (TIM_SHUT_STATUS i))
    (r_TIM_SHUT_WIN_LEN : ∀ i, W (TIM_SHUT_WIN_LEN i)) (r_TIM_SHUT_WIN_OPEN : ∀ i, W (TIM_SHUT_WIN_OPEN i))
    (r_TIM_SYSTIME_CTRL : W TIM_SYSTIME_CTRL) (r_cmReg : ∀ i, W (cmReg i)) (r_cmReg_12 : ∀ i, W (cmReg i + 12))
    (r_cmReg_8 : ∀ i, W (cmReg i + 8)) (r_rectReg0x14 : ∀ i j, W (rectReg i j 0x14))
    (r_rectReg0x18 : ∀ i j, W (rectReg i j 0x18)) (r_rectReg0x1C : ∀ i j, W (rectReg i j 0x1C)) (k_fresh : K .fresh)
    (k_out : K .out) (k_act : K .act) (k_glb : K .glb) (k_tim : K .tim) (k_cfg : K .cfg) (k_hif : K .hif) (k_mem : K .mem)
    (k_int : K .int) (k_cmp : K .cmp) (k_col : K .col) (k_pln : K .pln) (k_seq : K .seq) (k_apt : K .apt) (k_scn : K .scn)
    (k_lmp : K .lmp) (k_lan : K .lan) (k_lxs : K .lxs) (k_thm : K .thm) (k_cal : K .cal) (r_LMP_POS_CURRENT : W LMP_POS_CURRENT)
    (r_LMP_POS_FACTOR : W LMP_POS_FACTOR)
    (r_LMP_POS_STATE : W LMP_POS_STATE)
    (h_s : Fr D W K s0 s)
    : Fr D W K s0 (State.boundaryChanges s) := by
  unfold State.boundaryChanges
  repeat' first
    | with_reducible assumption | with_reducible apply State.timAdvance_frame
    | with_reducible apply State.bootTimingBoundary_frame | with_reducible apply State.rateBoundary_frame
    | with_reducible apply State.dropOldEvents_frame | with_reducible apply State.staticBoundary_frame
    | with_reducible apply State.compareRects_frame | with_reducible apply State.boundaryOrders_frame
    | with_reducible apply State.compileAgain_frame | with_reducible apply State.timFix_frame
    | with_reducible apply State.systimeStep_frame | with_reducible apply State.showBoot_frame
    | with_reducible apply State.startBoundary_frame | with_reducible apply State.watchdogBoundary_frame
    | with_reducible apply State.hbUpdate_frame | with_reducible apply State.stopBoundary_frame
    | with_reducible apply State.selectRanks_frame | with_reducible apply State.repeatOutputs_frame
    | with_reducible apply State.trimBoundary_frame | with_reducible apply r_APT_PORT_STATE
    | with_reducible apply r_CAL_SESS_STATUS | with_reducible apply r_CMP_LYR_LIVE | with_reducible apply r_CMP_OUT_STATUS
    | with_reducible apply r_COL_DEC_STATUS | with_reducible apply r_COL_LUT_STATUS
    | with_reducible apply r_COL_OUT_STATUS | with_reducible apply r_GLB_BOOT_TIME | with_reducible apply r_HIF_FN_DROPS
    | with_reducible apply r_HIF_FN_STATUS | with_reducible apply r_HIF_GROUP_CTRL | with_reducible apply r_INT_CRC_SUM
    | with_reducible apply r_LAN_LANE_EQ | with_reducible apply r_LAN_LANE_STATE | with_reducible apply r_LXS_PORT_STATE
    | with_reducible apply r_PLN_BOOK_STATUS | with_reducible apply r_PLN_OUT_STATUS | with_reducible apply r_PLN_OUT_USED
    | with_reducible apply r_SEQ_OUT_COUNTS | with_reducible apply r_SEQ_OUT_EFF | with_reducible apply r_SEQ_OUT_LIGHT
    | with_reducible apply r_SEQ_OUT_MECH | with_reducible apply r_SEQ_OUT_SCHED | with_reducible apply r_SEQ_OUT_SPAN
    | with_reducible apply r_THM_DOM_ON | with_reducible apply r_TIM_OUT_CFN | with_reducible apply r_TIM_OUT_LATE
    | with_reducible apply r_TIM_OUT_REPEATS | with_reducible apply r_TIM_SHUT_ANGLE
    | with_reducible apply r_TIM_SHUT_CTRL | with_reducible apply r_TIM_SHUT_OPEN | with_reducible apply r_TIM_SHUT_STATUS
    | with_reducible apply r_TIM_SHUT_WIN_LEN | with_reducible apply r_TIM_SHUT_WIN_OPEN | with_reducible apply r_cmReg
    | with_reducible apply r_cmReg_12 | with_reducible apply r_cmReg_8 | with_reducible apply r_rectReg0x14
    | with_reducible apply r_rectReg0x18 | with_reducible apply r_rectReg0x1C
    | (extract_lets +onlyGivenNames x; refine Fr.cut (D := D) (W := W) (K := K) (s0 := s0) (x := x) ?_ ?_; (on_goal 1 => dsimp -zeta only [x]); (on_goal 2 => intro hx; clear_value x))
    | (extract_lets +onlyGivenNames y) | split | (clear_value y; split) | (intro v w hv) | (intro v hv)

theorem State.boundaryPictures_frame (s : State) (hE : Ev W K) (r_ctx : ∀ a, ctxPages a → W a)
    (r_lay : ∀ n a, layerBlock n a → W a) (r_CMP_DROP_STATUS : W CMP_DROP_STATUS) (r_CMP_FORMING : W CMP_FORMING)
    (r_CMP_LYR_LIVE : ∀ i, W (CMP_LYR_LIVE i)) (r_CMP_LYR_OFF_LFN : ∀ i, W (CMP_LYR_OFF_LFN i))
    (r_CMP_LYR_OFF_LINE : ∀ i, W (CMP_LYR_OFF_LINE i)) (r_CMP_LYR_STATUS : ∀ i, W (CMP_LYR_STATUS i))
    (r_CMP_OUT_STATUS : ∀ i, W (CMP_OUT_STATUS i)) (r_CMP_OUT_UNDERRUNS : ∀ i, W (CMP_OUT_UNDERRUNS i))
    (r_COL_OUT_STATUS : ∀ i, W (COL_OUT_STATUS i)) (r_COL_PRIM_LIGHT : ∀ i, W (COL_PRIM_LIGHT i))
    (r_COL_PRIM_XY : ∀ i, W (COL_PRIM_XY i)) (r_COL_STATUS : W COL_STATUS) (r_HIF_CTX_PAGES : ∀ i, W (HIF_CTX_PAGES i))
    (r_HIF_FN_STATUS : ∀ i, W (HIF_FN_STATUS i)) (r_HIF_GROUP_CTRL : ∀ i, W (HIF_GROUP_CTRL i))
    (r_HIF_POOL_FREE : W HIF_POOL_FREE) (r_HIF_STATUS : W HIF_STATUS) (r_LXS_EXPORT_STATUS : W LXS_EXPORT_STATUS)
    (r_PLN_OUT_STATUS : ∀ i, W (PLN_OUT_STATUS i)) (r_PLN_STATUS : W PLN_STATUS)
    (r_SEQ_OUT_SCHED : ∀ i, W (SEQ_OUT_SCHED i)) (r_cmReg : ∀ i, W (cmReg i)) (r_cmReg_12 : ∀ i, W (cmReg i + 12))
    (r_cmReg_8 : ∀ i, W (cmReg i + 8)) (r_rectReg0x14 : ∀ i j, W (rectReg i j 0x14))
    (r_rectReg0x18 : ∀ i j, W (rectReg i j 0x18)) (k_out : K .out) (k_act : K .act) (k_hif : K .hif) (k_mem : K .mem)
    (k_int : K .int) (k_cmp : K .cmp) (k_col : K .col) (k_pln : K .pln) (k_seq : K .seq) (k_lxs : K .lxs)
    (r_HIF_FN_DROPS : ∀ i, W (HIF_FN_DROPS i))
    (r_INT_STATUS : W INT_STATUS)
    (r_MEM_ENG_STATUS : ∀ i, W (MEM_ENG_STATUS i))
    (r_MEM_INFLIGHT : W MEM_INFLIGHT)
    (h_s : Fr D W K s0 s) : Fr D W K s0 (State.boundaryPictures s) := by
  unfold State.boundaryPictures
  repeat' first
    | with_reducible assumption
    | with_reducible apply r_HIF_FN_DROPS | with_reducible apply r_MEM_ENG_STATUS | (with_reducible apply foldOver_frame; intro a t ht)
    | with_reducible apply State.internalPasses_frame | with_reducible apply State.resetBoundary_frame
    | with_reducible apply State.hostMapsBoundary_frame | with_reducible apply State.deferredBoundary_frame
    | with_reducible apply State.groupBoundary_frame | with_reducible apply State.endOffs_frame
    | with_reducible apply State.applyDrops_frame | with_reducible apply State.repairPasses_frame
    | with_reducible apply State.estimates_frame | with_reducible apply State.solveScans_frame
    | with_reducible apply State.retryLoads_frame | with_reducible apply State.liveBoundary_frame
    | with_reducible apply State.exitPasses_frame | with_reducible apply State.driftBoundary_frame
    | with_reducible apply State.pump_frame | exact r_ctx | exact r_lay | with_reducible apply r_CMP_LYR_LIVE
    | with_reducible apply r_CMP_LYR_OFF_LFN | with_reducible apply r_CMP_LYR_OFF_LINE
    | with_reducible apply r_CMP_LYR_STATUS | with_reducible apply r_CMP_OUT_STATUS
    | with_reducible apply r_CMP_OUT_UNDERRUNS | with_reducible apply r_COL_OUT_STATUS
    | with_reducible apply r_COL_PRIM_LIGHT | with_reducible apply r_COL_PRIM_XY | with_reducible apply r_HIF_CTX_PAGES
    | with_reducible apply r_HIF_FN_STATUS | with_reducible apply r_HIF_GROUP_CTRL | with_reducible apply r_PLN_OUT_STATUS
    | with_reducible apply r_SEQ_OUT_SCHED | with_reducible apply r_cmReg | with_reducible apply r_cmReg_12
    | with_reducible apply r_cmReg_8 | with_reducible apply r_rectReg0x14 | with_reducible apply r_rectReg0x18
    | (extract_lets +onlyGivenNames x; refine Fr.cut (D := D) (W := W) (K := K) (s0 := s0) (x := x) ?_ ?_; (on_goal 1 => dsimp -zeta only [x]); (on_goal 2 => intro hx; clear_value x))
    | (extract_lets +onlyGivenNames y) | split | (clear_value y; split) | (intro v w hv) | (intro v hv)

theorem State.boundaryBlocks_frame (s : State) (hE : Ev W K) (r_APT_PORT_RETRAINS : ∀ i, W (APT_PORT_RETRAINS i))
    (r_APT_PORT_STATE : ∀ i, W (APT_PORT_STATE i)) (r_APT_PORT_TEMP : ∀ i, W (APT_PORT_TEMP i))
    (r_APT_STATUS : W APT_STATUS) (r_CAL_CULLET : W CAL_CULLET) (r_CAL_SHADOW_COUNT : W CAL_SHADOW_COUNT)
    (r_CAL_SHADOW_STATUS : W CAL_SHADOW_STATUS) (r_CAL_STORE_STATUS : W CAL_STORE_STATUS) (r_CMP_STATUS : W CMP_STATUS)
    (r_COL_PRIM_LOOP : ∀ i, W (COL_PRIM_LOOP i)) (r_COL_PRIM_TARGET : ∀ i, W (COL_PRIM_TARGET i))
    (r_COL_STATUS : W COL_STATUS) (r_GLB_BOOT_STATUS : W GLB_BOOT_STATUS) (r_GLB_BOOT_TIME : W (GLB_BOOT_TIME 7))
    (r_GLB_SNAP_CTRL : W GLB_SNAP_CTRL) (r_GLB_SNAP_LFN : W GLB_SNAP_LFN) (r_GLB_SNAP_STATUS : W GLB_SNAP_STATUS)
    (r_HIF_STATUS : W HIF_STATUS) (r_LAN_LANE_EQ : ∀ i, W (LAN_LANE_EQ i)) (r_LAN_LANE_STATE : ∀ i, W (LAN_LANE_STATE i))
    (r_LAN_STATUS : W LAN_STATUS) (r_LMP_HB : W LMP_HB) (r_LMP_SAFETY : W LMP_SAFETY) (r_LXS_COUNT : W LXS_COUNT)
    (r_LXS_EPOCH : W LXS_EPOCH) (r_LXS_PORT_STATE : ∀ i, W (LXS_PORT_STATE i))
    (r_LXS_PROMOTE_STATUS : W LXS_PROMOTE_STATUS) (r_LXS_ROOT_HI : W LXS_ROOT_HI) (r_LXS_ROOT_LO : W LXS_ROOT_LO)
    (r_LXS_STARTUP : W LXS_STARTUP) (r_LXS_STATION : W LXS_STATION) (r_LXS_STATUS : W LXS_STATUS)
    (r_LXS_SYSID_HI : W LXS_SYSID_HI) (r_PLN_OUT_USED : ∀ i, W (PLN_OUT_USED i))
    (r_SCN_ENG_EST_ERR : ∀ i, W (SCN_ENG_EST_ERR i)) (r_SCN_ENG_STATE : ∀ i, W (SCN_ENG_STATE i))
    (r_SCN_STATUS : W SCN_STATUS) (r_SEQ_OUT_SCHED : ∀ i, W (SEQ_OUT_SCHED i)) (r_SEQ_TILES : W SEQ_TILES)
    (r_THM_DOM_ON : ∀ i, W (THM_DOM_ON i)) (r_TIM_DPLL_STATUS : W TIM_DPLL_STATUS) (r_TIM_REF_STATUS : W TIM_REF_STATUS)
    (r_cmReg_8 : ∀ i, W (cmReg i + 8)) (k_fresh : K .fresh) (k_out : K .out) (k_glb : K .glb) (k_tim : K .tim)
    (k_hif : K .hif) (k_mem : K .mem) (k_int : K .int) (k_col : K .col) (k_seq : K .seq) (k_apt : K .apt) (k_scn : K .scn)
    (k_lmp : K .lmp) (k_lan : K .lan) (k_lxs : K .lxs) (k_thm : K .thm) (k_cal : K .cal) (h_s : Fr D W K s0 s)
    : Fr D W K s0 (State.boundaryBlocks s) := by
  unfold State.boundaryBlocks
  repeat' first
    | with_reducible assumption | with_reducible apply Fr.ite | (with_reducible apply foldOver_frame; intro a t ht)
    | with_reducible apply State.replayBoundary_frame | with_reducible apply State.aptBoundary_frame
    | with_reducible apply State.scnBoundary_frame | with_reducible apply State.lxsBoundary_frame
    | with_reducible apply State.calBoundary_frame | with_reducible apply State.rampDomains_frame
    | with_reducible apply State.latchRects_frame | with_reducible apply State.endRound_frame
    | with_reducible apply State.decideFor_frame | with_reducible apply State.showCommits_frame
    | with_reducible apply State.pumpHost_frame | with_reducible apply State.snapshotBoundary_frame
    | with_reducible apply r_APT_PORT_RETRAINS | with_reducible apply r_APT_PORT_STATE
    | with_reducible apply r_APT_PORT_TEMP | with_reducible apply r_COL_PRIM_LOOP | with_reducible apply r_COL_PRIM_TARGET
    | with_reducible apply r_LAN_LANE_EQ | with_reducible apply r_LAN_LANE_STATE | with_reducible apply r_LXS_PORT_STATE
    | with_reducible apply r_PLN_OUT_USED | with_reducible apply r_SCN_ENG_EST_ERR | with_reducible apply r_SCN_ENG_STATE
    | with_reducible apply r_SEQ_OUT_SCHED | with_reducible apply r_THM_DOM_ON | with_reducible apply r_cmReg_8
    | (extract_lets +onlyGivenNames x; refine Fr.cut (D := D) (W := W) (K := K) (s0 := s0) (x := x) ?_ ?_; (on_goal 1 => dsimp -zeta only [x]); (on_goal 2 => intro hx; clear_value x))
    | (extract_lets +onlyGivenNames y) | split | (clear_value y; split) | (intro v w hv) | (intro v hv)

theorem doLfBoundary_frame (hD : DramOk D) (s : State) (hE : Ev W K) (r_ctx : ∀ a, ctxPages a → W a)
    (r_lay : ∀ n a, layerBlock n a → W a) (r_APT_PORT_RETRAINS : ∀ i, W (APT_PORT_RETRAINS i))
    (r_APT_PORT_STATE : ∀ i, W (APT_PORT_STATE i)) (r_APT_PORT_TEMP : ∀ i, W (APT_PORT_TEMP i)) (r_APT_STATUS : W APT_STATUS)
    (r_CAL_CULLET : W CAL_CULLET) (r_CAL_FENCED : W CAL_FENCED) (r_CAL_FENCE_DATA_0 : W CAL_FENCE_DATA_0)
    (r_CAL_FENCE_DATA_1 : W CAL_FENCE_DATA_1) (r_CAL_FENCE_DATA_2 : W CAL_FENCE_DATA_2)
    (r_CAL_SESS_STATUS : ∀ i, W (CAL_SESS_STATUS i)) (r_CAL_SHADOW_COUNT : W CAL_SHADOW_COUNT)
    (r_CAL_SHADOW_STATUS : W CAL_SHADOW_STATUS) (r_CAL_STORE_STATUS : W CAL_STORE_STATUS)
    (r_CFG_IMAGE_INFO : W CFG_IMAGE_INFO) (r_CFG_LOAD_CTRL : W CFG_LOAD_CTRL) (r_CFG_RELOAD_APPLIED : W CFG_RELOAD_APPLIED)
    (r_CFG_STATUS : W CFG_STATUS) (r_CM0 : ∀ i, W (cmReg i)) (r_CM12 : ∀ i, W (cmReg i + 12)) (r_CM8 : ∀ i, W (cmReg i + 8))
    (r_CMP_DROP_STATUS : W CMP_DROP_STATUS) (r_CMP_FORMING : W CMP_FORMING) (r_CMP_LYR_LIVE : ∀ i, W (CMP_LYR_LIVE i))
    (r_CMP_LYR_OFF_LFN : ∀ i, W (CMP_LYR_OFF_LFN i)) (r_CMP_LYR_OFF_LINE : ∀ i, W (CMP_LYR_OFF_LINE i))
    (r_CMP_LYR_STATUS : ∀ i, W (CMP_LYR_STATUS i)) (r_CMP_OUT_STATUS : ∀ i, W (CMP_OUT_STATUS i))
    (r_CMP_OUT_UNDERRUNS : ∀ i, W (CMP_OUT_UNDERRUNS i)) (r_CMP_STATUS : W CMP_STATUS)
    (r_COL_DEC_STATUS : ∀ i, W (COL_DEC_STATUS i)) (r_COL_LUT_STATUS : ∀ i, W (COL_LUT_STATUS i))
    (r_COL_OUT_STATUS : ∀ i, W (COL_OUT_STATUS i)) (r_COL_PRIM_LIGHT : ∀ i, W (COL_PRIM_LIGHT i))
    (r_COL_PRIM_LOOP : ∀ i, W (COL_PRIM_LOOP i)) (r_COL_PRIM_TARGET : ∀ i, W (COL_PRIM_TARGET i))
    (r_COL_PRIM_XY : ∀ i, W (COL_PRIM_XY i)) (r_COL_STATUS : W COL_STATUS) (r_GLB_BOOT_STATUS : W GLB_BOOT_STATUS)
    (r_GLB_BOOT_TIME : ∀ i, W (GLB_BOOT_TIME i)) (r_GLB_SNAP_CTRL : W GLB_SNAP_CTRL) (r_GLB_SNAP_LFN : W GLB_SNAP_LFN)
    (r_GLB_SNAP_STATUS : W GLB_SNAP_STATUS) (r_HIF_CTX_FETCH_DEMAND : ∀ i, W (HIF_CTX_FETCH_DEMAND i))
    (r_HIF_CTX_PAGES : ∀ i, W (HIF_CTX_PAGES i)) (r_HIF_FN_DROPS : ∀ i, W (HIF_FN_DROPS i))
    (r_HIF_FN_STATUS : ∀ i, W (HIF_FN_STATUS i)) (r_HIF_GROUP_CTRL : ∀ i, W (HIF_GROUP_CTRL i))
    (r_HIF_POOL_FREE : W HIF_POOL_FREE) (r_HIF_STATUS : W HIF_STATUS) (r_INT_CRC_SUM : ∀ i, W (INT_CRC_SUM i))
    (r_INT_DROPS : W INT_DROPS) (r_INT_LOG_STATUS : W INT_LOG_STATUS) (r_INT_STATUS : W INT_STATUS)
    (r_INT_SUPPRESSED : W INT_SUPPRESSED) (r_LAN_LANE_EQ : ∀ i, W (LAN_LANE_EQ i))
    (r_LAN_LANE_STATE : ∀ i, W (LAN_LANE_STATE i)) (r_LAN_STATUS : W LAN_STATUS) (r_LMP_HB : W LMP_HB)
    (r_LMP_SAFETY : W LMP_SAFETY) (r_LXS_COUNT : W LXS_COUNT) (r_LXS_EPOCH : W LXS_EPOCH)
    (r_LXS_EXPORT_STATUS : W LXS_EXPORT_STATUS) (r_LXS_PORT_STATE : ∀ i, W (LXS_PORT_STATE i))
    (r_LXS_PROMOTE_STATUS : W LXS_PROMOTE_STATUS) (r_LXS_ROOT_HI : W LXS_ROOT_HI) (r_LXS_ROOT_LO : W LXS_ROOT_LO)
    (r_LXS_STARTUP : W LXS_STARTUP) (r_LXS_STATION : W LXS_STATION) (r_LXS_STATUS : W LXS_STATUS)
    (r_LXS_SYSID_HI : W LXS_SYSID_HI) (r_PLN_BOOK_STATUS : ∀ i, W (PLN_BOOK_STATUS i)) (r_PLN_MASK_STATUS : W PLN_MASK_STATUS)
    (r_PLN_OUT_STATUS : ∀ i, W (PLN_OUT_STATUS i)) (r_PLN_OUT_USED : ∀ i, W (PLN_OUT_USED i)) (r_PLN_STATUS : W PLN_STATUS)
    (r_RECT14 : ∀ i j, W (rectReg i j 0x14)) (r_RECT18 : ∀ i j, W (rectReg i j 0x18)) (r_RECT1C : ∀ i j, W (rectReg i j 0x1C))
    (r_SCN_ENG_EST_ERR : ∀ i, W (SCN_ENG_EST_ERR i)) (r_SCN_ENG_STATE : ∀ i, W (SCN_ENG_STATE i))
    (r_SCN_STATUS : W SCN_STATUS) (r_SEQ_OUT_COUNTS : ∀ i, W (SEQ_OUT_COUNTS i)) (r_SEQ_OUT_EFF : ∀ i, W (SEQ_OUT_EFF i))
    (r_SEQ_OUT_LIGHT : ∀ i, W (SEQ_OUT_LIGHT i)) (r_SEQ_OUT_MECH : ∀ i, W (SEQ_OUT_MECH i))
    (r_SEQ_OUT_SCHED : ∀ i, W (SEQ_OUT_SCHED i)) (r_SEQ_OUT_SPAN : ∀ i, W (SEQ_OUT_SPAN i))
    (r_SEQ_SCHED_STATUS : W SEQ_SCHED_STATUS) (r_SEQ_SLOT_DATA_0 : W SEQ_SLOT_DATA_0) (r_SEQ_SLOT_DATA_1 : W SEQ_SLOT_DATA_1)
    (r_SEQ_SLOT_DATA_2 : W SEQ_SLOT_DATA_2) (r_SEQ_SLOT_DATA_3 : W SEQ_SLOT_DATA_3) (r_SEQ_THROTTLE : W SEQ_THROTTLE)
    (r_SEQ_TILES : W SEQ_TILES) (r_THM_DOM_ON : ∀ i, W (THM_DOM_ON i)) (r_THM_STATUS : W THM_STATUS)
    (r_TIM_DPLL_STATUS : W TIM_DPLL_STATUS) (r_TIM_FREERUN_PERIOD : W TIM_FREERUN_PERIOD)
    (r_TIM_GENLOCK_CFG : W TIM_GENLOCK_CFG) (r_TIM_LF_CFG : W TIM_LF_CFG) (r_TIM_LF_PERIOD : W TIM_LF_PERIOD)
    (r_TIM_OUT_CFN : ∀ i, W (TIM_OUT_CFN i)) (r_TIM_OUT_LATE : ∀ i, W (TIM_OUT_LATE i))
    (r_TIM_OUT_REPEATS : ∀ i, W (TIM_OUT_REPEATS i)) (r_TIM_PHASE_OFFSET : W TIM_PHASE_OFFSET)
    (r_TIM_REF_CTRL : W TIM_REF_CTRL) (r_TIM_REF_STATUS : W TIM_REF_STATUS) (r_TIM_SHUT_ANGLE : ∀ i, W (TIM_SHUT_ANGLE i))
    (r_TIM_SHUT_CTRL : ∀ i, W (TIM_SHUT_CTRL i)) (r_TIM_SHUT_OPEN : ∀ i, W (TIM_SHUT_OPEN i))
    (r_TIM_SHUT_STATUS : ∀ i, W (TIM_SHUT_STATUS i)) (r_TIM_SHUT_WIN_LEN : ∀ i, W (TIM_SHUT_WIN_LEN i))
    (r_TIM_SHUT_WIN_OPEN : ∀ i, W (TIM_SHUT_WIN_OPEN i)) (r_TIM_SYSTIME_CTRL : W TIM_SYSTIME_CTRL) (k_fresh : K .fresh)
    (k_out : K .out) (k_act : K .act) (k_glb : K .glb) (k_tim : K .tim) (k_cfg : K .cfg) (k_hif : K .hif) (k_mem : K .mem)
    (k_int : K .int) (k_cmp : K .cmp) (k_col : K .col) (k_pln : K .pln) (k_seq : K .seq) (k_apt : K .apt) (k_scn : K .scn)
    (k_lmp : K .lmp) (k_lan : K .lan) (k_lxs : K .lxs) (k_thm : K .thm) (k_cal : K .cal) (r_CMP_FBC_ERRORS : W CMP_FBC_ERRORS)
    (r_CMP_LYR_FBC_ERR : ∀ i, W (CMP_LYR_FBC_ERR i))
    (r_MEM_ENG_STATUS : ∀ i, W (MEM_ENG_STATUS i))
    (r_MEM_INFLIGHT : W MEM_INFLIGHT)
    (r_LMP_POS_CURRENT : W LMP_POS_CURRENT)
    (r_LMP_POS_FACTOR : W LMP_POS_FACTOR)
    (r_LMP_POS_STATE : W LMP_POS_STATE)
    (h_s : Fr D W K s0 s)
    : Fr D W K s0 (doLfBoundary s) := by
  unfold doLfBoundary
  repeat' first
    | with_reducible assumption
    | with_reducible apply r_MEM_ENG_STATUS
    | with_reducible apply r_CMP_LYR_FBC_ERR | (simp -zeta (disch := first | assumption | exact rfl) only [↓Fr.setNow])
    | with_reducible apply State.onLive_frame | with_reducible apply State.scanFrame_frame hD
    | with_reducible apply State.fetchBoundary_frame | with_reducible apply State.boundaryChanges_frame
    | with_reducible apply State.boundaryPictures_frame | with_reducible apply State.boundaryBlocks_frame
    | (with_reducible apply foldOver_frame; intro a t ht) | with_reducible apply r_APT_PORT_RETRAINS
    | with_reducible apply r_APT_PORT_STATE | with_reducible apply r_APT_PORT_TEMP | with_reducible apply r_CAL_SESS_STATUS
    | with_reducible apply r_CM0 | with_reducible apply r_CM12 | with_reducible apply r_CM8
    | with_reducible apply r_CMP_LYR_LIVE | with_reducible apply r_CMP_LYR_OFF_LFN | with_reducible apply r_CMP_LYR_OFF_LINE
    | with_reducible apply r_CMP_LYR_STATUS | with_reducible apply r_CMP_OUT_STATUS | with_reducible apply r_CMP_OUT_UNDERRUNS
    | with_reducible apply r_COL_DEC_STATUS | with_reducible apply r_COL_LUT_STATUS | with_reducible apply r_COL_OUT_STATUS
    | with_reducible apply r_COL_PRIM_LIGHT | with_reducible apply r_COL_PRIM_LOOP | with_reducible apply r_COL_PRIM_TARGET
    | with_reducible apply r_COL_PRIM_XY | with_reducible apply r_GLB_BOOT_TIME | with_reducible apply r_HIF_CTX_FETCH_DEMAND
    | with_reducible apply r_HIF_CTX_PAGES | with_reducible apply r_HIF_FN_DROPS | with_reducible apply r_HIF_FN_STATUS
    | with_reducible apply r_HIF_GROUP_CTRL | with_reducible apply r_INT_CRC_SUM | with_reducible apply r_LAN_LANE_EQ
    | with_reducible apply r_LAN_LANE_STATE | with_reducible apply r_LXS_PORT_STATE | with_reducible apply r_PLN_BOOK_STATUS
    | with_reducible apply r_PLN_OUT_STATUS | with_reducible apply r_PLN_OUT_USED | with_reducible apply r_RECT14
    | with_reducible apply r_RECT18 | with_reducible apply r_RECT1C | with_reducible apply r_SCN_ENG_EST_ERR
    | with_reducible apply r_SCN_ENG_STATE | with_reducible apply r_SEQ_OUT_COUNTS | with_reducible apply r_SEQ_OUT_EFF
    | with_reducible apply r_SEQ_OUT_LIGHT | with_reducible apply r_SEQ_OUT_MECH | with_reducible apply r_SEQ_OUT_SCHED
    | with_reducible apply r_SEQ_OUT_SPAN | with_reducible apply r_THM_DOM_ON | with_reducible apply r_TIM_OUT_CFN
    | with_reducible apply r_TIM_OUT_LATE | with_reducible apply r_TIM_OUT_REPEATS | with_reducible apply r_TIM_SHUT_ANGLE
    | with_reducible apply r_TIM_SHUT_CTRL | with_reducible apply r_TIM_SHUT_OPEN | with_reducible apply r_TIM_SHUT_STATUS
    | with_reducible apply r_TIM_SHUT_WIN_LEN | with_reducible apply r_TIM_SHUT_WIN_OPEN | exact r_ctx | exact r_lay
    | (extract_lets +onlyGivenNames x; refine Fr.cut (D := D) (W := W) (K := K) (s0 := s0) (x := x) ?_ ?_; (on_goal 1 => dsimp -zeta only [x]); (on_goal 2 => intro hx; clear_value x))
    | (extract_lets +onlyGivenNames y) | (intro v w hv) | (intro v hv)

end Sys2Proof.Machine
end

