-- ==== Sys2Proof/Laws/FrameWrite.lean ====
section
/-! SUPPORT. What each function leaves: registers, parts of the state, the queue and the memory. One law per function of
register writes. -/
namespace Sys2Proof.Machine

set_option linter.all false
set_option linter.unusedTactic false
set_option linter.unreachableTactic false

variable {D : List Host.Cell → Prop} {W : Nat → Prop} {K : Part → Prop} {s0 : State}

theorem State.barEvent_frame (s : State) (f addr kind : Nat) (hE : Ev W K) (h_s : Fr D W K s0 s)
    : Fr D W K s0 (State.barEvent s f addr kind) := by
  unfold State.barEvent
  repeat' first
    | with_reducible assumption | with_reducible apply Fr.ite | with_reducible apply State.accessEvent_frame
    | with_reducible apply State.deliver_frame
    | (extract_lets +onlyGivenNames x; refine Fr.cut (D := D) (W := W) (K := K) (s0 := s0) (x := x) ?_ ?_; (on_goal 1 => dsimp -zeta only [x]); (on_goal 2 => intro hx; clear_value x))
    | (extract_lets +onlyGivenNames y) | split | (clear_value y; split) | (intro v w hv) | (intro v hv)

theorem State.underCeiling_frame (s : State) (writer a v hi lo top : Nat) (hE : Ev W K) (h_s : Fr D W K s0 s)
    : Fr D W K s0 (State.underCeiling s writer a v hi lo top).1 := by
  unfold State.underCeiling
  repeat' first
    | with_reducible assumption | with_reducible apply Fr.ite1 | with_reducible apply Fr.ite
    | with_reducible apply State.limitEvent_frame | split

theorem State.boundWrite_frame (s : State) (writer a v : Nat) (hE : Ev W K) (h_s : Fr D W K s0 s)
    : Fr D W K s0 (State.boundWrite s writer a v).1 := by
  unfold State.boundWrite
  repeat' first
    | with_reducible assumption | with_reducible apply Fr.ite1 | with_reducible apply Fr.ite
    | with_reducible apply State.limitEvent_frame | with_reducible apply State.underCeiling_frame
    | (extract_lets +onlyGivenNames x; refine Fr.cut (D := D) (W := W) (K := K) (s0 := s0) (x := x) ?_ ?_; (on_goal 1 => dsimp -zeta only [x]); (on_goal 2 => intro hx; clear_value x))
    | (extract_lets +onlyGivenNames y) | split | (clear_value y; split)

theorem State.busyWrite_frame (s : State) (writer a : Nat) (hE : Ev W K) (r_HIF_CTX_STATUS : W (HIF_CTX_STATUS writer))
    (h_s : Fr D W K s0 s) : Fr D W K s0 (State.busyWrite s writer a) := by
  unfold State.busyWrite
  repeat' first
    | with_reducible assumption | with_reducible apply Fr.ite | with_reducible apply State.accessEvent_frame
    | with_reducible apply State.incSat_frame
    | (extract_lets +onlyGivenNames x; refine Fr.cut (D := D) (W := W) (K := K) (s0 := s0) (x := x) ?_ ?_; (on_goal 1 => dsimp -zeta only [x]); (on_goal 2 => intro hx; clear_value x))
    | (extract_lets +onlyGivenNames y) | split

theorem State.storeReg_frame (s : State) (writer a v : Nat) (e : RegEntry) (hE : Ev W K) (hW : ∀ a, W a) (h_s : Fr D W K s0 s)
    : Fr D W K s0 (State.storeReg s writer a v e) := by
  unfold State.storeReg
  repeat' first
    | with_reducible assumption | with_reducible apply Fr.ite | with_reducible apply State.busyWrite_frame
    | with_reducible apply State.accessEvent_frame | with_reducible apply State.boundWrite_frame
    | with_reducible apply State.wrN_frame | exact hW _ | (intros; exact hW _)
    | (extract_lets +onlyGivenNames x; refine Fr.cut (D := D) (W := W) (K := K) (s0 := s0) (x := x) ?_ ?_; (on_goal 1 => dsimp -zeta only [x]); (on_goal 2 => intro hx; clear_value x))
    | (extract_lets +onlyGivenNames y) | split

theorem startIf_frame (v bit : Nat) (f : State → State) (s : State)
    (h_f : ∀ (v0 : State), Fr D W K s0 v0 → Fr D W K s0 (f v0)) (h_s : Fr D W K s0 s) : Fr D W K s0 (startIf v bit f s) := by
  unfold startIf
  repeat' first
    | with_reducible assumption | with_reducible apply Fr.ite | with_reducible apply h_f | split

theorem State.writeCommit_frame (s : State) (c v : Nat) (hE : Ev W K) (r_CM0 : W (cmReg c)) (r_CM12 : W (cmReg c + 12))
    (r_CM8 : ∀ i, W (cmReg i + 8)) (r_CMP_FORMING : W CMP_FORMING) (r_CMP_LYR_LIVE : ∀ i, W (CMP_LYR_LIVE i))
    (r_CMP_OUT_STATUS : ∀ i, W (CMP_OUT_STATUS i)) (r_COL_OUT_STATUS : ∀ i, W (COL_OUT_STATUS i))
    (r_COL_STATUS : W COL_STATUS) (r_HIF_GROUP_CTRL : ∀ i, W (HIF_GROUP_CTRL i))
    (r_PLN_OUT_STATUS : ∀ i, W (PLN_OUT_STATUS i)) (r_PLN_STATUS : W PLN_STATUS) (r_SEQ_SCHED_STATUS : W SEQ_SCHED_STATUS)
    (k_hif : K .hif) (k_int : K .int) (k_cmp : K .cmp) (k_col : K .col) (k_pln : K .pln) (k_seq : K .seq)
    (h_s : Fr D W K s0 s) : Fr D W K s0 (State.writeCommit s c v) := by
  unfold State.writeCommit
  repeat' first
    | with_reducible assumption | with_reducible apply Fr.ite | with_reducible apply startIf_frame
    | with_reducible apply doCommitCancel_frame | with_reducible apply doCommitRequest_frame
    | with_reducible apply State.putB_frame | with_reducible apply State.put_frame | with_reducible apply r_CM8
    | with_reducible apply r_CMP_LYR_LIVE | with_reducible apply r_CMP_OUT_STATUS | with_reducible apply r_COL_OUT_STATUS
    | with_reducible apply r_HIF_GROUP_CTRL | with_reducible apply r_PLN_OUT_STATUS | split | (intro v w hv) | (intro v hv)

theorem State.writePageCommand_frame (s : State) (c off v : Nat) (hE : Ev W K) (r_lay : ∀ n a, layerBlock n a → W a)
    (r_CM0 : W (cmReg c)) (r_CM12 : W (cmReg c + 12)) (r_CM8 : ∀ i, W (cmReg i + 8)) (r_CMP_FORMING : W CMP_FORMING)
    (r_CMP_LYR_LIVE : ∀ i, W (CMP_LYR_LIVE i)) (r_CMP_LYR_OWNER : ∀ i, W (CMP_LYR_OWNER i))
    (r_CMP_OUT_STATUS : ∀ i, W (CMP_OUT_STATUS i)) (r_COL_OUT_STATUS : ∀ i, W (COL_OUT_STATUS i))
    (r_COL_STATUS : W COL_STATUS) (r_HIF_CTX_CTRL : W (HIF_CTX_CTRL c)) (r_HIF_CTX_LAYER_RESULT : W (HIF_CTX_LAYER_RESULT c))
    (r_HIF_CTX_STATUS : W (HIF_CTX_STATUS c)) (r_HIF_GROUP_CTRL : ∀ i, W (HIF_GROUP_CTRL i))
    (r_PLN_OUT_STATUS : ∀ i, W (PLN_OUT_STATUS i)) (r_PLN_STATUS : W PLN_STATUS) (r_SEQ_SCHED_STATUS : W SEQ_SCHED_STATUS)
    (k_act : K .act) (k_hif : K .hif) (k_int : K .int) (k_cmp : K .cmp) (k_col : K .col) (k_pln : K .pln) (k_seq : K .seq)
    (r_HIF_CTX_CTRL_all : ∀ i, W (HIF_CTX_CTRL i))
    (r_MEM_ENG_STATUS : ∀ i, W (MEM_ENG_STATUS i))
    (h_s : Fr D W K s0 s) : FrO D W K s0 (State.writePageCommand s c off v) := by
  unfold State.writePageCommand
  repeat' first
    | with_reducible assumption
    | with_reducible apply r_HIF_CTX_CTRL_all | with_reducible apply r_MEM_ENG_STATUS | with_reducible apply Fr.none | with_reducible apply Fr.iteO | with_reducible apply Fr.some
    | with_reducible apply Fr.orO | with_reducible apply Fr.ite | with_reducible apply startIf_frame
    | with_reducible apply doContextReset_frame | with_reducible apply State.writeCommit_frame
    | with_reducible apply doLayerAllocate_frame | with_reducible apply doLayerRelease_frame | with_reducible apply r_CM8
    | with_reducible apply r_CMP_LYR_LIVE | with_reducible apply r_CMP_LYR_OWNER | with_reducible apply r_CMP_OUT_STATUS
    | with_reducible apply r_COL_OUT_STATUS | with_reducible apply r_HIF_GROUP_CTRL | with_reducible apply r_PLN_OUT_STATUS
    | exact r_lay
    | (extract_lets +onlyGivenNames x; refine Fr.cut (D := D) (W := W) (K := K) (s0 := s0) (x := x) ?_ ?_; (on_goal 1 => dsimp -zeta only [x]); (on_goal 2 => intro hx; clear_value x))
    | (extract_lets +onlyGivenNames y) | split | (intro v w hv) | (intro v hv)

theorem State.writeCommand_frame (s : State) (a v : Nat) (hE : Ev W K) (r_CFG_FAIL_INFO : W CFG_FAIL_INFO)
    (r_CFG_LOAD_CTRL : W CFG_LOAD_CTRL) (r_CFG_OTP_STATUS : W CFG_OTP_STATUS) (r_CFG_STATUS : W CFG_STATUS)
    (r_CM0 : ∀ i, W (cmReg i)) (r_CM12 : ∀ i, W (cmReg i + 12)) (r_CM8 : ∀ i, W (cmReg i + 8)) (r_CMP_FORMING : W CMP_FORMING)
    (r_CMP_LYR_LIVE : ∀ i, W (CMP_LYR_LIVE i)) (r_CMP_OUT_STATUS : ∀ i, W (CMP_OUT_STATUS i))
    (r_COL_OUT_STATUS : ∀ i, W (COL_OUT_STATUS i)) (r_COL_STATUS : W COL_STATUS)
    (r_HIF_CTX_LIMITS_0 : ∀ i, W (HIF_CTX_LIMITS_0 i)) (r_HIF_CTX_LIMITS_1 : ∀ i, W (HIF_CTX_LIMITS_1 i))
    (r_HIF_CTX_LIMITS_2 : ∀ i, W (HIF_CTX_LIMITS_2 i)) (r_HIF_CTX_LIMITS_3 : ∀ i, W (HIF_CTX_LIMITS_3 i))
    (r_HIF_DEVQ_HEAD : W HIF_DEVQ_HEAD) (r_HIF_GROUP_CTRL : ∀ i, W (HIF_GROUP_CTRL i)) (r_HIF_STATUS : W HIF_STATUS)
    (r_LMP_HB : W LMP_HB) (r_LMP_SAFETY : W LMP_SAFETY) (r_LXS_EXPORT_STATUS : W LXS_EXPORT_STATUS)
    (r_PLN_OUT_STATUS : ∀ i, W (PLN_OUT_STATUS i)) (r_PLN_STATUS : W PLN_STATUS) (r_SEQ_SCHED_STATUS : W SEQ_SCHED_STATUS)
    (r_TIM_DPLL_STATUS : W TIM_DPLL_STATUS) (r_TIM_REF_CTRL : W TIM_REF_CTRL) (r_TIM_REF_STATUS : W TIM_REF_STATUS)
    (r_TIM_SYSTIME_CTRL : W TIM_SYSTIME_CTRL) (k_out : K .out) (k_glb : K .glb) (k_tim : K .tim) (k_cfg : K .cfg)
    (k_hif : K .hif) (k_mem : K .mem) (k_int : K .int) (k_cmp : K .cmp) (k_col : K .col) (k_pln : K .pln) (k_seq : K .seq)
    (k_scn : K .scn) (k_lmp : K .lmp) (k_lxs : K .lxs) (h_s : Fr D W K s0 s) : FrO D W K s0 (State.writeCommand s a v) := by
  unfold State.writeCommand
  repeat' first
    | with_reducible assumption | (simp -zeta (disch := first | assumption | exact rfl) only [↓Fr.setInt])
    | with_reducible apply Fr.none | with_reducible apply Fr.iteO | with_reducible apply Fr.some | with_reducible apply Fr.orO
    | with_reducible apply Fr.ite | with_reducible apply doRefCtrlWrite_frame | with_reducible apply doSystimeStepArm_frame
    | with_reducible apply doFlashFullLoadRefused_frame | with_reducible apply doHostFullLoad_frame
    | with_reducible apply doReloadFromFlash_frame | with_reducible apply doReloadFromHost_frame
    | with_reducible apply State.putB_frame | with_reducible apply doOtpProgramHashByte_frame
    | with_reducible apply doOtpSetValid_frame | with_reducible apply doOtpSetRevoked_frame
    | with_reducible apply doOtpRaiseFloor_frame | with_reducible apply doOtpLock_frame
    | with_reducible apply State.onOpenFuses_frame | with_reducible apply State.writeCommit_frame
    | with_reducible apply doEvqDoorbell_frame | with_reducible apply doLxsExportBind_frame
    | with_reducible apply doLxsExportUnbind_frame | with_reducible apply doCtxLimitsWrite_frame | with_reducible apply r_CM0
    | with_reducible apply r_CM12 | with_reducible apply r_CM8 | with_reducible apply r_CMP_LYR_LIVE
    | with_reducible apply r_CMP_OUT_STATUS | with_reducible apply r_COL_OUT_STATUS | with_reducible apply r_HIF_CTX_LIMITS_0
    | with_reducible apply r_HIF_CTX_LIMITS_1 | with_reducible apply r_HIF_CTX_LIMITS_2
    | with_reducible apply r_HIF_CTX_LIMITS_3 | with_reducible apply r_HIF_GROUP_CTRL | with_reducible apply r_PLN_OUT_STATUS
    | (extract_lets +onlyGivenNames x; refine Fr.cut (D := D) (W := W) (K := K) (s0 := s0) (x := x) ?_ ?_; (on_goal 1 => dsimp -zeta only [x]); (on_goal 2 => intro hx; clear_value x))
    | (extract_lets +onlyGivenNames y) | split | (intro v w hv) | (intro v hv) | (clear_value y; split)

theorem State.startSession_frame (s : State) (kind : Nat) (hE : Ev W K) (r_CAL_CULLET : W CAL_CULLET)
    (r_CAL_SESSION : W CAL_SESSION) (r_CAL_SESS_STATUS : ∀ i, W (CAL_SESS_STATUS i))
    (r_COL_PRIM_LOOP : ∀ i, W (COL_PRIM_LOOP i)) (r_COL_STATUS : W COL_STATUS) (r_LAN_LANE_EQ : ∀ i, W (LAN_LANE_EQ i))
    (r_LAN_LANE_STATE : ∀ i, W (LAN_LANE_STATE i)) (r_LAN_STATUS : W LAN_STATUS) (r_TIM_DPLL_STATUS : W TIM_DPLL_STATUS)
    (k_tim : K .tim) (k_col : K .col) (k_lmp : K .lmp) (k_lan : K .lan) (k_cal : K .cal) (h_s : Fr D W K s0 s)
    : Fr D W K s0 (State.startSession s kind) := by
  unfold State.startSession
  repeat' first
    | with_reducible assumption | with_reducible apply doLaneEyeSession_frame | with_reducible apply doPsenseGainSession_frame
    | with_reducible apply doColourSession_frame | with_reducible apply doTimebaseSession_frame
    | with_reducible apply doHbmMarginSession_frame | with_reducible apply r_CAL_SESS_STATUS
    | with_reducible apply r_COL_PRIM_LOOP | with_reducible apply r_LAN_LANE_EQ | with_reducible apply r_LAN_LANE_STATE
    | (extract_lets +onlyGivenNames x; refine Fr.cut (D := D) (W := W) (K := K) (s0 := s0) (x := x) ?_ ?_; (on_goal 1 => dsimp -zeta only [x]); (on_goal 2 => intro hx; clear_value x))
    | (extract_lets +onlyGivenNames y) | split

theorem State.afterWrite_frame (s : State) (a v : Nat) (hE : Ev W K) (r_APT_PORT_RETRAINS : ∀ i, W (APT_PORT_RETRAINS i))
    (r_CAL_CULLET : W CAL_CULLET) (r_CAL_FENCED : W CAL_FENCED) (r_CAL_FENCE_DATA_0 : W CAL_FENCE_DATA_0)
    (r_CAL_FENCE_DATA_1 : W CAL_FENCE_DATA_1) (r_CAL_FENCE_DATA_2 : W CAL_FENCE_DATA_2)
    (r_CAL_REPAIR_CTRL : W CAL_REPAIR_CTRL) (r_CAL_RES_DATA : W CAL_RES_DATA) (r_CAL_SESSION : W CAL_SESSION)
    (r_CAL_SESS_STATUS : ∀ i, W (CAL_SESS_STATUS i)) (r_CAL_STORE_STATUS : W CAL_STORE_STATUS)
    (r_CFG_FAIL_INFO : W CFG_FAIL_INFO) (r_CFG_LOAD_CTRL : W CFG_LOAD_CTRL) (r_CFG_STATUS : W CFG_STATUS)
    (r_CMP_COEF_DATA : ∀ i, W (CMP_COEF_DATA i)) (r_CMP_FORMING : W CMP_FORMING)
    (r_CMP_LYR_LIVE : ∀ i, W (CMP_LYR_LIVE i)) (r_CMP_OUT_STATUS : ∀ i, W (CMP_OUT_STATUS i))
    (r_COL_OUT_STATUS : ∀ i, W (COL_OUT_STATUS i)) (r_COL_PRIM_LOOP : ∀ i, W (COL_PRIM_LOOP i))
    (r_COL_STATUS : W COL_STATUS) (r_GLB_SNAP_CTRL : W GLB_SNAP_CTRL) (r_GLB_SNAP_STATUS : W GLB_SNAP_STATUS)
    (r_HIF_FN_DROPS : ∀ i, W (HIF_FN_DROPS i)) (r_HIF_FN_STATUS : ∀ i, W (HIF_FN_STATUS i)) (r_INT_STATUS : W INT_STATUS)
    (r_LAN_LANE_EQ : ∀ i, W (LAN_LANE_EQ i)) (r_LAN_LANE_STATE : ∀ i, W (LAN_LANE_STATE i)) (r_LAN_STATUS : W LAN_STATUS)
    (r_LMP_HB : W LMP_HB) (r_LMP_LAMP_DATA : ∀ i, W (LMP_LAMP_DATA i)) (r_LMP_POS_CURRENT : W LMP_POS_CURRENT)
    (r_LMP_POS_FACTOR : W LMP_POS_FACTOR) (r_LMP_POS_STATE : W LMP_POS_STATE) (r_LMP_SAFETY : W LMP_SAFETY)
    (r_LXS_PORT_STATE : ∀ i, W (LXS_PORT_STATE i)) (r_LXS_PROMOTE_STATUS : W LXS_PROMOTE_STATUS)
    (r_LXS_STATUS : W LXS_STATUS) (r_MEM_SR_STATUS : W MEM_SR_STATUS) (r_MEM_STATUS : W MEM_STATUS)
    (r_PLN_OUT_STATUS : ∀ i, W (PLN_OUT_STATUS i)) (r_SCN_ENG_EST_AMP : ∀ i, W (SCN_ENG_EST_AMP i))
    (r_SCN_ENG_STATE : ∀ i, W (SCN_ENG_STATE i)) (r_SCN_STATUS : W SCN_STATUS) (r_SEQ_SLOT_DATA_0 : W SEQ_SLOT_DATA_0)
    (r_SEQ_SLOT_DATA_1 : W SEQ_SLOT_DATA_1) (r_SEQ_SLOT_DATA_2 : W SEQ_SLOT_DATA_2)
    (r_SEQ_SLOT_DATA_3 : W SEQ_SLOT_DATA_3) (r_THM_CTRL : W THM_CTRL) (r_THM_DOM_ON : ∀ i, W (THM_DOM_ON i))
    (r_THM_SD : W THM_SD) (r_THM_SD_LFN : W THM_SD_LFN) (r_THM_SENSOR : W THM_SENSOR) (r_THM_STATUS : W THM_STATUS)
    (r_THM_THROTTLE : W THM_THROTTLE) (r_TIM_DPLL_STATUS : W TIM_DPLL_STATUS) (r_TIM_REF_STATUS : W TIM_REF_STATUS)
    (k_fresh : K .fresh) (k_out : K .out) (k_glb : K .glb) (k_tim : K .tim) (k_cfg : K .cfg) (k_hif : K .hif)
    (k_mem : K .mem) (k_int : K .int) (k_cmp : K .cmp) (k_col : K .col) (k_pln : K .pln) (k_seq : K .seq) (k_apt : K .apt)
    (k_scn : K .scn) (k_lmp : K .lmp) (k_lan : K .lan) (k_lxs : K .lxs) (k_thm : K .thm) (k_cal : K .cal)
    (h_s : Fr D W K s0 s) : Fr D W K s0 (State.afterWrite s a v) := by
  unfold State.afterWrite
  repeat' first
    | with_reducible assumption | with_reducible apply Fr.ite | with_reducible apply startIf_frame
    | with_reducible apply doSnapshotRelease_frame | with_reducible apply doSnapshotArm_frame
    | with_reducible apply State.showSlot_frame | with_reducible apply doForceOffWrite_frame
    | with_reducible apply doInterlockRearm_frame | with_reducible apply State.hbUpdate_frame
    | with_reducible apply State.showPos_frame | with_reducible apply doPositionClearFault_frame
    | with_reducible apply State.showLamp_frame | with_reducible apply State.coefShow_frame
    | with_reducible apply doLxsTakeRoot_frame | with_reducible apply doLxsPromote_frame
    | with_reducible apply doThmClearFault_frame | with_reducible apply doThmForceShutdown_frame
    | with_reducible apply doThmForceThrottle_frame | with_reducible apply doThmRestartRequest_frame
    | with_reducible apply doCalSave_frame | with_reducible apply doSessionAbort_frame
    | with_reducible apply State.startSession_frame | with_reducible apply State.showRes_frame
    | with_reducible apply doColourPut_frame | with_reducible apply doRepairPass_frame
    | with_reducible apply State.showFenced_frame | with_reducible apply State.loopRefresh_frame
    | with_reducible apply State.showHeld_frame | with_reducible apply doScanStop_frame
    | with_reducible apply doScanStart_frame | with_reducible apply doAptStatusRequest_frame
    | with_reducible apply doAptRetrainRequest_frame | with_reducible apply r_APT_PORT_RETRAINS
    | with_reducible apply r_CAL_SESS_STATUS | with_reducible apply r_CMP_COEF_DATA | with_reducible apply r_CMP_LYR_LIVE
    | with_reducible apply r_CMP_OUT_STATUS | with_reducible apply r_COL_OUT_STATUS | with_reducible apply r_COL_PRIM_LOOP
    | with_reducible apply r_HIF_FN_DROPS | with_reducible apply r_HIF_FN_STATUS | with_reducible apply r_LAN_LANE_EQ
    | with_reducible apply r_LAN_LANE_STATE | with_reducible apply r_LMP_LAMP_DATA | with_reducible apply r_LXS_PORT_STATE
    | with_reducible apply r_PLN_OUT_STATUS | with_reducible apply r_SCN_ENG_EST_AMP
    | with_reducible apply r_SCN_ENG_STATE | with_reducible apply r_THM_DOM_ON
    | (extract_lets +onlyGivenNames x; refine Fr.cut (D := D) (W := W) (K := K) (s0 := s0) (x := x) ?_ ?_; (on_goal 1 => dsimp -zeta only [x]); (on_goal 2 => intro hx; clear_value x))
    | (extract_lets +onlyGivenNames y) | split | (clear_value y; split) | (intro v w hv) | (intro v hv)

theorem State.writeWindow_frame (s : State) (writer a v : Nat) (hE : Ev W K) (r_CMP_COEF_DATA : ∀ i, W (CMP_COEF_DATA i))
    (r_HIF_CTX_STATUS : W (HIF_CTX_STATUS writer)) (r_LMP_LAMP_DATA : ∀ i, W (LMP_LAMP_DATA i)) (k_cmp : K .cmp)
    (k_lmp : K .lmp) (h_s : Fr D W K s0 s) : FrO D W K s0 (State.writeWindow s writer a v) := by
  unfold State.writeWindow
  repeat' first
    | with_reducible assumption | with_reducible apply Fr.none | with_reducible apply Fr.iteO | with_reducible apply Fr.some
    | with_reducible apply Fr.orO | with_reducible apply Fr.ite | with_reducible apply State.busyWrite_frame
    | with_reducible apply State.writeLamp_frame | with_reducible apply State.limitEvent_frame
    | with_reducible apply State.coefWrite_frame | with_reducible apply State.coefShow_frame
    | with_reducible apply r_CMP_COEF_DATA | with_reducible apply r_LMP_LAMP_DATA
    | (extract_lets +onlyGivenNames x; refine Fr.cut (D := D) (W := W) (K := K) (s0 := s0) (x := x) ?_ ?_; (on_goal 1 => dsimp -zeta only [x]); (on_goal 2 => intro hx; clear_value x))
    | (extract_lets +onlyGivenNames y) | split | (clear_value y; split)

theorem State.writeMailbox_frame (s : State) (v : Nat) (hE : Ev W K) (r_MTR_MB_ARG : ∀ i, W (MTR_MB_ARG i))
    (r_MTR_MB_CTRL : W MTR_MB_CTRL) (r_MTR_MB_STATUS : W MTR_MB_STATUS) (k_mtr : K .mtr) (h_s : Fr D W K s0 s)
    : Fr D W K s0 (State.writeMailbox s v) := by
  unfold State.writeMailbox
  repeat' first
    | with_reducible assumption | with_reducible apply Fr.ite | with_reducible apply State.mbRequest_frame
    | with_reducible apply State.put_frame | with_reducible apply r_MTR_MB_ARG | split

theorem State.writeReg_frame (s : State) (writer a v : Nat) (hE : Ev W K) (hW : ∀ a, W a) (k_fresh : K .fresh)
    (k_out : K .out) (k_glb : K .glb) (k_tim : K .tim) (k_cfg : K .cfg) (k_hif : K .hif) (k_mem : K .mem) (k_int : K .int)
    (k_cmp : K .cmp) (k_col : K .col) (k_pln : K .pln) (k_seq : K .seq) (k_apt : K .apt) (k_scn : K .scn) (k_lmp : K .lmp)
    (k_lan : K .lan) (k_lxs : K .lxs) (k_mtr : K .mtr) (k_thm : K .thm) (k_cal : K .cal) (h_s : Fr D W K s0 s)
    : Fr D W K s0 (State.writeReg s writer a v) := by
  unfold State.writeReg
  split
  · exact State.accessEvent_frame _ _ _ _ hE h_s
  · next e _ =>
    have hst : ∀ t, Fr D W K s0 t → Fr D W K s0 (t.storeReg writer a v e) := fun t h => (by apply State.storeReg_frame <;> first | assumption | exact hW _ | (intros; exact hW _))
    extract_lets denied
    refine Fr.ite (State.accessEvent_frame _ _ _ _ hE h_s) (Fr.ite (by apply State.writeMailbox_frame <;> first | assumption | exact hW _ | (intros; exact hW _))
      (Fr.ite (hst _ (by apply State.holdGroup_frame <;> first | assumption | exact hW _ | (intros; exact hW _))) ?_))
    split
    · next t e =>
      refine Fr.ofO (Fr.orO ?_ ?_) e
      · apply State.writeCommand_frame <;> first | assumption | exact hW _ | (intros; exact hW _)
      · apply State.writeWindow_frame <;> first | assumption | exact hW _ | (intros; exact hW _)
    · split
      · exact hst _ (Fr.ite h_s (h_s.upd rfl (fun p hp => by cases p <;> first | rfl | exact absurd ‹_› hp) rfl rfl))
      · split
        · exact Fr.ite (by apply doLaneLoopWrite_frame <;> first | assumption | exact hW _ | (intros; exact hW _)) (hst _ h_s)
        · split
          · refine Fr.ite (by apply doCrcArm_frame <;> first | assumption | exact hW _ | (intros; exact hW _)) (Fr.ite ?_ (hst _ h_s))
            refine Fr.ite (hst _ h_s) ?_
            have h1 := hst _ h_s
            exact (by apply State.rectChanged_frame <;> first | assumption | exact hW _ | (intros; exact hW _))
          · split
            · refine Fr.ite (startIf_frame _ _ _ _ (fun t h => (by apply doLayerUpdate_frame <;> first | assumption | exact hW _ | (intros; exact hW _))) ?_) (hst _ h_s)
              apply doLayerLiveWrite_frame <;> first | assumption | exact hW _ | (intros; exact hW _)
            · have h1 := hst _ h_s
              exact (by apply State.afterWrite_frame <;> first | assumption | exact hW _ | (intros; exact hW _))

theorem State.writePage_frame (s : State) (c off v : Nat) (hE : Ev W K) (hW : ∀ a, W a) (k_fresh : K .fresh) (k_out : K .out)
    (k_act : K .act) (k_glb : K .glb) (k_tim : K .tim) (k_cfg : K .cfg) (k_hif : K .hif) (k_mem : K .mem) (k_int : K .int)
    (k_cmp : K .cmp) (k_col : K .col) (k_pln : K .pln) (k_seq : K .seq) (k_apt : K .apt) (k_scn : K .scn) (k_lmp : K .lmp)
    (k_lan : K .lan) (k_lxs : K .lxs) (k_mtr : K .mtr) (k_thm : K .thm) (k_cal : K .cal) (h_s : Fr D W K s0 s)
    : Fr D W K s0 (State.writePage s c off v) := by
  unfold State.writePage
  repeat' first
    | with_reducible assumption | with_reducible apply Fr.ite | with_reducible apply State.accessEvent_frame
    | with_reducible apply State.writeReg_frame | with_reducible apply State.writePageCommand_frame | exact hW _
    | (intros; exact hW _)
    | (extract_lets +onlyGivenNames x; refine Fr.cut (D := D) (W := W) (K := K) (s0 := s0) (x := x) ?_ ?_; (on_goal 1 => dsimp -zeta only [x]); (on_goal 2 => intro hx; clear_value x))
    | (extract_lets +onlyGivenNames y) | split | (clear_value y; split) | with_reducible apply Fr.orO
    | (refine Fr.ofO ?_ (by assumption))

theorem State.write32_frame (s : State) (f addr v : Nat) (hE : Ev W K) (hW : ∀ a, W a) (r_HIF_DEVQ_HEAD : W HIF_DEVQ_HEAD)
    (k_fresh : K .fresh) (k_out : K .out) (k_act : K .act) (k_glb : K .glb) (k_tim : K .tim) (k_cfg : K .cfg)
    (k_hif : K .hif) (k_mem : K .mem) (k_int : K .int) (k_cmp : K .cmp) (k_col : K .col) (k_pln : K .pln) (k_seq : K .seq)
    (k_apt : K .apt) (k_scn : K .scn) (k_lmp : K .lmp) (k_lan : K .lan) (k_lxs : K .lxs) (k_mtr : K .mtr) (k_thm : K .thm)
    (k_cal : K .cal) (h_s : Fr D W K s0 s) : Fr D W K s0 (State.write32 s f addr v) := by
  unfold State.write32
  repeat' first
    | with_reducible assumption | with_reducible apply Fr.ite | with_reducible apply State.writeReg_frame
    | with_reducible apply State.writeMsix_frame | with_reducible apply State.writePage_frame
    | with_reducible apply doCmdqDoorbell_frame | with_reducible apply doEvqDoorbell_frame
    | with_reducible apply State.barEvent_frame | exact hW _ | (intros; exact hW _)
    | (extract_lets +onlyGivenNames x; refine Fr.cut (D := D) (W := W) (K := K) (s0 := s0) (x := x) ?_ ?_; (on_goal 1 => dsimp -zeta only [x]); (on_goal 2 => intro hx; clear_value x))
    | (extract_lets +onlyGivenNames y) | split | (clear_value y; split) | (intro v w hv) | (intro v hv)

theorem State.barWrite_frame (s : State) (f addr width v : Nat) (hE : Ev W K) (hW : ∀ a, W a)
    (r_HIF_DEVQ_HEAD : W HIF_DEVQ_HEAD) (k_fresh : K .fresh) (k_out : K .out) (k_act : K .act) (k_glb : K .glb)
    (k_tim : K .tim) (k_cfg : K .cfg) (k_hif : K .hif) (k_mem : K .mem) (k_int : K .int) (k_cmp : K .cmp) (k_col : K .col)
    (k_pln : K .pln) (k_seq : K .seq) (k_apt : K .apt) (k_scn : K .scn) (k_lmp : K .lmp) (k_lan : K .lan) (k_lxs : K .lxs)
    (k_mtr : K .mtr) (k_thm : K .thm) (k_cal : K .cal) (h_s : Fr D W K s0 s)
    : Fr D W K s0 (State.barWrite s f addr width v) := by
  unfold State.barWrite
  repeat' first
    | with_reducible assumption | with_reducible apply Fr.ite | with_reducible apply State.write32_frame
    | with_reducible apply State.barEvent_frame | exact hW _ | (intros; exact hW _)
    | (extract_lets +onlyGivenNames x; refine Fr.cut (D := D) (W := W) (K := K) (s0 := s0) (x := x) ?_ ?_; (on_goal 1 => dsimp -zeta only [x]); (on_goal 2 => intro hx; clear_value x))
    | (extract_lets +onlyGivenNames y) | split | (clear_value y; split) | (intro v w hv) | (intro v hv)

theorem doRegisterWrite_frame (dt f addr width value : Nat) (s : State) (hE : Ev W K) (hW : ∀ a, W a)
    (r_HIF_DEVQ_HEAD : W HIF_DEVQ_HEAD) (k_fresh : K .fresh) (k_out : K .out) (k_act : K .act) (k_glb : K .glb)
    (k_tim : K .tim) (k_cfg : K .cfg) (k_hif : K .hif) (k_mem : K .mem) (k_int : K .int) (k_cmp : K .cmp) (k_col : K .col)
    (k_pln : K .pln) (k_seq : K .seq) (k_apt : K .apt) (k_scn : K .scn) (k_lmp : K .lmp) (k_lan : K .lan) (k_lxs : K .lxs)
    (k_mtr : K .mtr) (k_thm : K .thm) (k_cal : K .cal) (h_s : Fr D W K s0 s)
    : Fr D W K s0 (doRegisterWrite dt f addr width value s) := by
  unfold doRegisterWrite
  repeat' first
    | with_reducible assumption | with_reducible apply State.tick_frame | with_reducible apply State.onLive_frame
    | with_reducible apply State.barWrite_frame | with_reducible apply State.busyUnless_frame
    | with_reducible apply State.pumpHost_frame | exact hW _ | (intros; exact hW _)
    | (extract_lets +onlyGivenNames x; refine Fr.cut (D := D) (W := W) (K := K) (s0 := s0) (x := x) ?_ ?_; (on_goal 1 => dsimp -zeta only [x]); (on_goal 2 => intro hx; clear_value x))
    | (extract_lets +onlyGivenNames y) | split | (clear_value y; split) | (intro v w hv) | (intro v hv)

theorem State.read32_frame (s : State) (f addr : Nat) (r_MEM_CTL_REFRESH : ∀ i, W (MEM_CTL_REFRESH i))
    (r_MEM_ENG_STATUS : ∀ i, W (MEM_ENG_STATUS i)) (r_MEM_INFLIGHT : W MEM_INFLIGHT) (r_THM_TEMP : W THM_TEMP)
    (k_glb : K .glb) (h_s : Fr D W K s0 s) : Fr D W K s0 (State.read32 s f addr).2 := by
  unfold State.read32
  split
  · exact h_s
  · split
    · apply State.readEffect_frame <;> assumption
    · exact h_s

theorem State.barRead_frame (s : State) (f addr width : Nat) (hE : Ev W K) (r_MEM_CTL_REFRESH : ∀ i, W (MEM_CTL_REFRESH i))
    (r_MEM_ENG_STATUS : ∀ i, W (MEM_ENG_STATUS i)) (r_MEM_INFLIGHT : W MEM_INFLIGHT) (r_THM_TEMP : W THM_TEMP)
    (k_glb : K .glb) (h_s : Fr D W K s0 s) : Fr D W K s0 (State.barRead s f addr width).2 := by
  have h : ∀ a (t : State), Fr D W K s0 t → Fr D W K s0 (State.read32 t f a).2 := fun a t ht => by
    apply State.read32_frame <;> assumption
  unfold State.barRead
  split
  · exact h _ _ h_s
  · split
    · exact h _ _ (h _ _ h_s)
    · split
      · exact h_s
      · split
        · exact State.barEvent_frame _ _ _ _ hE h_s
        · exact h_s

theorem doLatchedPairRead_frame (dt f addr width : Nat) (s : State) (hE : Ev W K) (r_MEM_CTL_REFRESH : ∀ i, W (MEM_CTL_REFRESH i))
    (r_MEM_ENG_STATUS : ∀ i, W (MEM_ENG_STATUS i)) (r_MEM_INFLIGHT : W MEM_INFLIGHT) (r_THM_TEMP : W THM_TEMP)
    (k_out : K .out) (k_glb : K .glb) (h_s : Fr D W K s0 s)
    : Fr D W K s0 (doLatchedPairRead dt f addr width s) := by
  unfold doLatchedPairRead
  refine State.onLive_frame _ _ (fun u hu => State.send_frame _ _ k_out ?_) (State.tick_frame _ _ h_s)
  apply State.barRead_frame <;> assumption

end Sys2Proof.Machine
end

