-- ==== Sys2Proof/Laws/Show.lean ====
section
/-! SUPPORT. The clock before a command's effect, and what the two closing looks at the start-up conditions and at the commits
leave. -/
namespace Sys2Proof.Machine

theorem DramOk.any : DramOk (fun _ => True) := ⟨fun _ _ _ _ => trivial, fun _ _ _ _ => trivial⟩

theorem State.tick_onLive {s : State} (dt : Nat) (f : State → State) (h : s.live = true) :
    (s.tick dt).onLive f = f (s.tick dt) := State.onLive_eq _ _ h

theorem State.tick_onLiveIf {s : State} (dt : Nat) (b : Bool) (f : State → State) (h : s.live = true) (hb : b = true) :
    (s.tick dt).onLiveIf b f = f (s.tick dt) := State.onLiveIf_eq _ _ _ h hb

theorem State.tick_onCoreIf {s : State} (dt : Nat) (b : Bool) (f : State → State) (h : s.live = true)
    (hc : s.lan.coreStopped = false) (hb : b = true) : (s.tick dt).onCoreIf b f = f (s.tick dt) := State.onCoreIf_eq _ _ _ h hc hb

theorem State.tick_onReach {s : State} (dt : Nat) (f : State → State) (h : s.live = true) (hs : s.cfg.safeIdle = false) :
    (s.tick dt).onReach f = f (s.tick dt) := State.onReach_eq _ _ h hs

theorem State.tick_onReachIf {s : State} (dt : Nat) (b : Bool) (f : State → State) (h : s.live = true)
    (hs : s.cfg.safeIdle = false) (hb : b = true) : (s.tick dt).onReachIf b f = f (s.tick dt) :=
  State.onReachIf_eq _ _ _ h hs hb

theorem State.tick_onLiveIf_not (s : State) (dt : Nat) (f : State → State) : (s.tick dt).onLiveIf false f = s.tick dt := by
  simp [State.onLiveIf]

/-- Only the start-up conditions and milestones are shown. -/
theorem State.showBoot_fr (s : State) :
    Fr (fun _ => True) (regsOf [one GLB_BOOT_STATUS, fam GLB_BOOT_TIME]) (fun _ => False) s s.showBoot :=
  State.showBoot_frame s (regsOf_head rfl) (fun _ => regsOf_tail (regsOf_head ⟨_, rfl⟩)) (Fr.start trivial)

theorem State.showBoot_rd (s : State) {a : Nat} (h : 0x100000 ≤ a ∧ a < 0x40000000) : s.showBoot.rd a = s.rd a := by
  refine s.showBoot_fr.rd_eq ?_
  rw [not_regsOf_cons, not_regsOf_cons]
  refine ⟨fun e => ?_, fun ⟨i, e⟩ => ?_, regsOf_nil _⟩
  · simp only [one, GLB_BOOT_STATUS] at e; omega
  · simp only [GLB_BOOT_TIME] at e; split at e <;> omega

theorem State.showBoot_get (s : State) {f : Fld} (h : 0x100000 ≤ f.reg ∧ f.reg < 0x40000000) : s.showBoot.get f = s.get f :=
  State.get_congr (s.showBoot_rd h)

theorem State.showBoot_flag (s : State) {f : Fld} (h : 0x100000 ≤ f.reg ∧ f.reg < 0x40000000) : s.showBoot.flag f = s.flag f :=
  State.flag_congr (s.showBoot_rd h)

/-- Only the states of the commits are shown. -/
theorem State.showCommits_fr (s : State) :
    Fr (fun _ => True) (regsOf [fam (fun c => cmReg c + 8)]) (fun _ => False) s s.showCommits :=
  State.showCommits_frame s (fun _ => regsOf_head ⟨_, rfl⟩) (Fr.start trivial)

theorem State.showCommits_rd (s : State) {a : Nat} (h : a < ctxBase) (h2 : a ≠ HIF_PF_COMMIT + 8) : s.showCommits.rd a = s.rd a := by
  refine s.showCommits_fr.rd_eq ?_
  rw [not_regsOf_cons]
  refine ⟨fun ⟨i, e⟩ => ?_, regsOf_nil _⟩
  simp only [cmReg] at e
  split at e
  · exact h2 e
  · simp only [HIF_CTX_COMMIT] at e
    simp only [ctxBase] at h
    split at e <;> omega

theorem State.showCommits_get (s : State) {f : Fld} (h : f.reg < ctxBase) (h2 : f.reg ≠ HIF_PF_COMMIT + 8) :
    s.showCommits.get f = s.get f := State.get_congr (s.showCommits_rd h h2)

theorem State.showCommits_flag (s : State) {f : Fld} (h : f.reg < ctxBase) (h2 : f.reg ≠ HIF_PF_COMMIT + 8) :
    s.showCommits.flag f = s.flag f := State.flag_congr (s.showCommits_rd h h2)

@[simp] theorem State.showBoot_fresh (s : State) : s.showBoot.fresh = s.fresh := s.showBoot_fr.frame.2 .fresh id
@[simp] theorem State.showBoot_out (s : State) : s.showBoot.out = s.out := s.showBoot_fr.frame.2 .out id
@[simp] theorem State.showBoot_act (s : State) : s.showBoot.act = s.act := s.showBoot_fr.frame.2 .act id
@[simp] theorem State.showBoot_glb (s : State) : s.showBoot.glb = s.glb := s.showBoot_fr.frame.2 .glb id
@[simp] theorem State.showBoot_tim (s : State) : s.showBoot.tim = s.tim := s.showBoot_fr.frame.2 .tim id
@[simp] theorem State.showBoot_cfg (s : State) : s.showBoot.cfg = s.cfg := s.showBoot_fr.frame.2 .cfg id
@[simp] theorem State.showBoot_hif (s : State) : s.showBoot.hif = s.hif := s.showBoot_fr.frame.2 .hif id
@[simp] theorem State.showBoot_mem (s : State) : s.showBoot.mem = s.mem := s.showBoot_fr.frame.2 .mem id
@[simp] theorem State.showBoot_int (s : State) : s.showBoot.int = s.int := s.showBoot_fr.frame.2 .int id
@[simp] theorem State.showBoot_cmp (s : State) : s.showBoot.cmp = s.cmp := s.showBoot_fr.frame.2 .cmp id
@[simp] theorem State.showBoot_col (s : State) : s.showBoot.col = s.col := s.showBoot_fr.frame.2 .col id
@[simp] theorem State.showBoot_pln (s : State) : s.showBoot.pln = s.pln := s.showBoot_fr.frame.2 .pln id
@[simp] theorem State.showBoot_seq (s : State) : s.showBoot.seq = s.seq := s.showBoot_fr.frame.2 .seq id
@[simp] theorem State.showBoot_apt (s : State) : s.showBoot.apt = s.apt := s.showBoot_fr.frame.2 .apt id
@[simp] theorem State.showBoot_scn (s : State) : s.showBoot.scn = s.scn := s.showBoot_fr.frame.2 .scn id
@[simp] theorem State.showBoot_lmp (s : State) : s.showBoot.lmp = s.lmp := s.showBoot_fr.frame.2 .lmp id
@[simp] theorem State.showBoot_lan (s : State) : s.showBoot.lan = s.lan := s.showBoot_fr.frame.2 .lan id
@[simp] theorem State.showBoot_lxs (s : State) : s.showBoot.lxs = s.lxs := s.showBoot_fr.frame.2 .lxs id
@[simp] theorem State.showBoot_mtr (s : State) : s.showBoot.mtr = s.mtr := s.showBoot_fr.frame.2 .mtr id
@[simp] theorem State.showBoot_thm (s : State) : s.showBoot.thm = s.thm := s.showBoot_fr.frame.2 .thm id
@[simp] theorem State.showBoot_cal (s : State) : s.showBoot.cal = s.cal := s.showBoot_fr.frame.2 .cal id
@[simp] theorem State.showBoot_pending (s : State) : s.showBoot.pending = s.pending := s.showBoot_fr.queue
@[simp] theorem State.showBoot_eventCount (s : State) (c : Nat) : s.showBoot.eventCount c = s.eventCount c :=
  State.eventCount_congr (by simp) c

@[simp] theorem State.showCommits_fresh (s : State) : s.showCommits.fresh = s.fresh := s.showCommits_fr.frame.2 .fresh id
@[simp] theorem State.showCommits_out (s : State) : s.showCommits.out = s.out := s.showCommits_fr.frame.2 .out id
@[simp] theorem State.showCommits_act (s : State) : s.showCommits.act = s.act := s.showCommits_fr.frame.2 .act id
@[simp] theorem State.showCommits_glb (s : State) : s.showCommits.glb = s.glb := s.showCommits_fr.frame.2 .glb id
@[simp] theorem State.showCommits_tim (s : State) : s.showCommits.tim = s.tim := s.showCommits_fr.frame.2 .tim id
@[simp] theorem State.showCommits_cfg (s : State) : s.showCommits.cfg = s.cfg := s.showCommits_fr.frame.2 .cfg id
@[simp] theorem State.showCommits_hif (s : State) : s.showCommits.hif = s.hif := s.showCommits_fr.frame.2 .hif id
@[simp] theorem State.showCommits_mem (s : State) : s.showCommits.mem = s.mem := s.showCommits_fr.frame.2 .mem id
@[simp] theorem State.showCommits_int (s : State) : s.showCommits.int = s.int := s.showCommits_fr.frame.2 .int id
@[simp] theorem State.showCommits_cmp (s : State) : s.showCommits.cmp = s.cmp := s.showCommits_fr.frame.2 .cmp id
@[simp] theorem State.showCommits_col (s : State) : s.showCommits.col = s.col := s.showCommits_fr.frame.2 .col id
@[simp] theorem State.showCommits_pln (s : State) : s.showCommits.pln = s.pln := s.showCommits_fr.frame.2 .pln id
@[simp] theorem State.showCommits_seq (s : State) : s.showCommits.seq = s.seq := s.showCommits_fr.frame.2 .seq id
@[simp] theorem State.showCommits_apt (s : State) : s.showCommits.apt = s.apt := s.showCommits_fr.frame.2 .apt id
@[simp] theorem State.showCommits_scn (s : State) : s.showCommits.scn = s.scn := s.showCommits_fr.frame.2 .scn id
@[simp] theorem State.showCommits_lmp (s : State) : s.showCommits.lmp = s.lmp := s.showCommits_fr.frame.2 .lmp id
@[simp] theorem State.showCommits_lan (s : State) : s.showCommits.lan = s.lan := s.showCommits_fr.frame.2 .lan id
@[simp] theorem State.showCommits_lxs (s : State) : s.showCommits.lxs = s.lxs := s.showCommits_fr.frame.2 .lxs id
@[simp] theorem State.showCommits_mtr (s : State) : s.showCommits.mtr = s.mtr := s.showCommits_fr.frame.2 .mtr id
@[simp] theorem State.showCommits_thm (s : State) : s.showCommits.thm = s.thm := s.showCommits_fr.frame.2 .thm id
@[simp] theorem State.showCommits_cal (s : State) : s.showCommits.cal = s.cal := s.showCommits_fr.frame.2 .cal id
@[simp] theorem State.showCommits_pending (s : State) : s.showCommits.pending = s.pending := s.showCommits_fr.queue
@[simp] theorem State.showCommits_eventCount (s : State) (c : Nat) : s.showCommits.eventCount c = s.eventCount c :=
  State.eventCount_congr (by simp) c

end Sys2Proof.Machine
end

