-- ==== Sys2Proof/Laws/Update.lean ====
section
/-! SUPPORT. Reads of a state that an update has made part by part: the registers, the values in force and the event counts
depend on one part each. -/
namespace Sys2Proof.Machine

set_option linter.all false

@[simp] theorem State.rd_mk (x : State) (a : Nat) (v_now : Nat) (v_fresh : Nat) (v_out : List OutMsg) (v_act : Tbl Word) (v_glb : GlbSt) (v_tim : TimSt) (v_cfg : CfgSt) (v_hif : HifSt) (v_mem : MemSt) (v_int : IntSt) (v_cmp : CmpSt) (v_col : ColSt) (v_pln : PlnSt) (v_seq : SeqSt) (v_apt : AptSt) (v_scn : ScnSt) (v_lmp : LmpSt) (v_lan : LanSt) (v_lxs : LxsSt) (v_mtr : MtrSt) (v_thm : ThmSt) (v_cal : CalSt) (v_pending : List Instr) :
    (State.mk v_now v_fresh v_out x.regs v_act v_glb v_tim v_cfg v_hif v_mem v_int v_cmp v_col v_pln v_seq v_apt v_scn v_lmp v_lan v_lxs v_mtr v_thm v_cal v_pending).rd a = x.rd a := rfl

@[simp] theorem State.rdN_mk (x : State) (a : Nat) (v_now : Nat) (v_fresh : Nat) (v_out : List OutMsg) (v_act : Tbl Word) (v_glb : GlbSt) (v_tim : TimSt) (v_cfg : CfgSt) (v_hif : HifSt) (v_mem : MemSt) (v_int : IntSt) (v_cmp : CmpSt) (v_col : ColSt) (v_pln : PlnSt) (v_seq : SeqSt) (v_apt : AptSt) (v_scn : ScnSt) (v_lmp : LmpSt) (v_lan : LanSt) (v_lxs : LxsSt) (v_mtr : MtrSt) (v_thm : ThmSt) (v_cal : CalSt) (v_pending : List Instr) :
    (State.mk v_now v_fresh v_out x.regs v_act v_glb v_tim v_cfg v_hif v_mem v_int v_cmp v_col v_pln v_seq v_apt v_scn v_lmp v_lan v_lxs v_mtr v_thm v_cal v_pending).rdN a = x.rdN a := rfl

@[simp] theorem State.get_mk (x : State) (f : Fld) (v_now : Nat) (v_fresh : Nat) (v_out : List OutMsg) (v_act : Tbl Word) (v_glb : GlbSt) (v_tim : TimSt) (v_cfg : CfgSt) (v_hif : HifSt) (v_mem : MemSt) (v_int : IntSt) (v_cmp : CmpSt) (v_col : ColSt) (v_pln : PlnSt) (v_seq : SeqSt) (v_apt : AptSt) (v_scn : ScnSt) (v_lmp : LmpSt) (v_lan : LanSt) (v_lxs : LxsSt) (v_mtr : MtrSt) (v_thm : ThmSt) (v_cal : CalSt) (v_pending : List Instr) :
    (State.mk v_now v_fresh v_out x.regs v_act v_glb v_tim v_cfg v_hif v_mem v_int v_cmp v_col v_pln v_seq v_apt v_scn v_lmp v_lan v_lxs v_mtr v_thm v_cal v_pending).get f = x.get f := rfl

@[simp] theorem State.flag_mk (x : State) (f : Fld) (v_now : Nat) (v_fresh : Nat) (v_out : List OutMsg) (v_act : Tbl Word) (v_glb : GlbSt) (v_tim : TimSt) (v_cfg : CfgSt) (v_hif : HifSt) (v_mem : MemSt) (v_int : IntSt) (v_cmp : CmpSt) (v_col : ColSt) (v_pln : PlnSt) (v_seq : SeqSt) (v_apt : AptSt) (v_scn : ScnSt) (v_lmp : LmpSt) (v_lan : LanSt) (v_lxs : LxsSt) (v_mtr : MtrSt) (v_thm : ThmSt) (v_cal : CalSt) (v_pending : List Instr) :
    (State.mk v_now v_fresh v_out x.regs v_act v_glb v_tim v_cfg v_hif v_mem v_int v_cmp v_col v_pln v_seq v_apt v_scn v_lmp v_lan v_lxs v_mtr v_thm v_cal v_pending).flag f = x.flag f := rfl

@[simp] theorem State.actRd_mk (x : State) (a : Nat) (v_now : Nat) (v_fresh : Nat) (v_out : List OutMsg) (v_regs : Tbl Word) (v_glb : GlbSt) (v_tim : TimSt) (v_cfg : CfgSt) (v_hif : HifSt) (v_mem : MemSt) (v_int : IntSt) (v_cmp : CmpSt) (v_col : ColSt) (v_pln : PlnSt) (v_seq : SeqSt) (v_apt : AptSt) (v_scn : ScnSt) (v_lmp : LmpSt) (v_lan : LanSt) (v_lxs : LxsSt) (v_mtr : MtrSt) (v_thm : ThmSt) (v_cal : CalSt) (v_pending : List Instr) :
    (State.mk v_now v_fresh v_out v_regs x.act v_glb v_tim v_cfg v_hif v_mem v_int v_cmp v_col v_pln v_seq v_apt v_scn v_lmp v_lan v_lxs v_mtr v_thm v_cal v_pending).actRd a = x.actRd a := rfl

@[simp] theorem State.actGet_mk (x : State) (f : Fld) (v_now : Nat) (v_fresh : Nat) (v_out : List OutMsg) (v_regs : Tbl Word) (v_glb : GlbSt) (v_tim : TimSt) (v_cfg : CfgSt) (v_hif : HifSt) (v_mem : MemSt) (v_int : IntSt) (v_cmp : CmpSt) (v_col : ColSt) (v_pln : PlnSt) (v_seq : SeqSt) (v_apt : AptSt) (v_scn : ScnSt) (v_lmp : LmpSt) (v_lan : LanSt) (v_lxs : LxsSt) (v_mtr : MtrSt) (v_thm : ThmSt) (v_cal : CalSt) (v_pending : List Instr) :
    (State.mk v_now v_fresh v_out v_regs x.act v_glb v_tim v_cfg v_hif v_mem v_int v_cmp v_col v_pln v_seq v_apt v_scn v_lmp v_lan v_lxs v_mtr v_thm v_cal v_pending).actGet f = x.actGet f := rfl

@[simp] theorem State.actFlag_mk (x : State) (f : Fld) (v_now : Nat) (v_fresh : Nat) (v_out : List OutMsg) (v_regs : Tbl Word) (v_glb : GlbSt) (v_tim : TimSt) (v_cfg : CfgSt) (v_hif : HifSt) (v_mem : MemSt) (v_int : IntSt) (v_cmp : CmpSt) (v_col : ColSt) (v_pln : PlnSt) (v_seq : SeqSt) (v_apt : AptSt) (v_scn : ScnSt) (v_lmp : LmpSt) (v_lan : LanSt) (v_lxs : LxsSt) (v_mtr : MtrSt) (v_thm : ThmSt) (v_cal : CalSt) (v_pending : List Instr) :
    (State.mk v_now v_fresh v_out v_regs x.act v_glb v_tim v_cfg v_hif v_mem v_int v_cmp v_col v_pln v_seq v_apt v_scn v_lmp v_lan v_lxs v_mtr v_thm v_cal v_pending).actFlag f = x.actFlag f := rfl

@[simp] theorem State.eventCount_mk (x : State) (c : Nat) (v_now : Nat) (v_fresh : Nat) (v_out : List OutMsg) (v_regs : Tbl Word) (v_act : Tbl Word) (v_glb : GlbSt) (v_tim : TimSt) (v_cfg : CfgSt) (v_hif : HifSt) (v_mem : MemSt) (v_cmp : CmpSt) (v_col : ColSt) (v_pln : PlnSt) (v_seq : SeqSt) (v_apt : AptSt) (v_scn : ScnSt) (v_lmp : LmpSt) (v_lan : LanSt) (v_lxs : LxsSt) (v_mtr : MtrSt) (v_thm : ThmSt) (v_cal : CalSt) (v_pending : List Instr) :
    (State.mk v_now v_fresh v_out v_regs v_act v_glb v_tim v_cfg v_hif v_mem x.int v_cmp v_col v_pln v_seq v_apt v_scn v_lmp v_lan v_lxs v_mtr v_thm v_cal v_pending).eventCount c = x.eventCount c := rfl

theorem State.raise_raised (s : State) (c a0 a1 a2 : Nat) : Raised c s (s.raise c a0 a1 a2) := by
  unfold Raised
  rw [State.raise_eventCount]
  simp

end Sys2Proof.Machine
end

