-- ==== Sys2Proof/Machine/Pins.lean ====
section
/-! DEFINITION. The levels of the balls that the state alone decides: the heartbeats (R23, R296, R299), and THERM_N and FAULT_N (R462). -/
namespace Sys2Proof.Machine

/-- Whether HBEAT[c] carries the 1 MHz clock; held at a static level otherwise, in reset too (R296, Table GLB-12). -/
def State.heartbeatRuns (s : State) (c : Nat) : Bool := s.live && bitAt (s.get LMP_HB.RUNNING) c

/-- Whether THERM_N is pulled low: a warning, or THM out of its normal state (R462). -/
def State.thermLow (s : State) : Bool := s.live && (s.flag THM_STATUS.WARN || s.get THM_STATUS.STATE != 0)

/-- Whether FAULT_N is pulled low: a latched sensor fault, the grace or the halted state of a shutdown, or safe idle
(R462). -/
def State.faultLow (s : State) : Bool :=
  s.live && (s.flag THM_STATUS.SENSOR_FAULT || s.get THM_STATUS.STATE == 1 || s.get THM_STATUS.STATE == 2 || s.cfg.safeIdle)

end Sys2Proof.Machine
end

