-- ==== Sys2Proof/WellFormed.lean ====
section
/-! DEFINITION. The operands that the spec admits for each command: numbers of outputs, ports, lanes, contexts, engines and so
on within their counts, and field values within their widths. -/
namespace Sys2Proof

/-- A queue is a context’s or the PF device queue (R100). -/
def Instr.queueOk (q : Nat) : Bool := decide (q < 1024) || q == Machine.devQ

/-- Whether a command names units that exist and values that fit. -/
def Instr.wellFormed : Instr → Bool
  | .registerWrite _ f _ width value => decide (f < 256) && [1, 2, 4, 8].contains width && decide (value < 2 ^ (8 * width))
  | .latchedPairRead _ r => decide (r.fn < 256) && decide (r.width = 1 ∨ r.width = 2 ∨ r.width = 4 ∨ r.width = 8)
  | .systimeLoRead _ => true
  | .lfBoundary => true
  | .groupTimeout _ g => decide (g < 64)
  | .eventDelivery _ _ => true
  | .planeLoadStart _ o slot _ => decide (o < 20) && decide (slot < 1024)
  | .mirrorReset _ o slot => decide (o < 20) && decide (slot < 1024)
  | .gateEdge _ o slot line _ => decide (o < 20) && decide (slot < 1024) && decide (line < 64)
  | .currentStep _ o slot => decide (o < 20) && decide (slot < 1024)
  | .chainLatch _ c => decide (c < 4)
  | .scanEnableEdge _ n slot _ => decide (n < 4) && decide (slot < 1024)
  | .referenceSample _ p _ => decide (p < 6)
  | .commitDecisionPoint => true
  | .hbmRetrainWindow _ => true
  | .armedEventTrigger _ input n _ => decide (input < 3) && decide (n < 16)
  | .referenceEdge _ r _ => decide (r < 5)
  | .referenceMissing _ r => decide (r < 5)
  | .holdoverExpired _ => true
  | .referenceRevert _ => true
  | .dpllLocked _ => true
  | .pullinDone _ => true
  | .refCtrlWrite _ _ => true
  | .shutterEdge _ n _ => decide (n < 4)
  | .shutterLost _ n => decide (n < 4)
  | .shutterLateCloseCut _ n => decide (n < 4)
  | .systimeStepArm _ _ => true
  | .snapshotArm _ _ => true
  | .snapshotRelease _ => true
  | .boot _ _ _ _ => true
  | .flashNoResponse _ => true
  | .imageLoadDone _ _ => true
  | .hostFullLoad _ => true
  | .flashFullLoadRefused _ => true
  | .reloadFromFlash _ => true
  | .reloadFromHost _ => true
  | .hostReadError _ => true
  | .reloadReady _ => true
  | .otpProgramHashByte _ slot index data => decide (slot < 4) && decide (index < 48) && decide (data < 256)
  | .otpSetValid _ slot => decide (slot < 4)
  | .otpSetRevoked _ slot => decide (slot < 4)
  | .otpRaiseFloor _ data => decide (data < 256)
  | .otpLock _ => true
  | .selfTestDone _ _ _ => true
  | .apertureWrite _ fn _ _ => decide (fn < 256)
  | .apertureRead _ fn _ _ => decide (fn < 256)
  | .cmdqDoorbell _ c tail => decide (c < 1024) && decide (tail < 4096)
  | .cmdAlloc _ c _ => decide (c < 1024)
  | .cmdFree _ c _ => decide (c < 1024)
  | .cmdMapHost _ c _ => decide (c < 1024)
  | .cmdMapRemote _ c _ => decide (c < 1024)
  | .cmdMapGrant _ c _ => decide (c < 1024)
  | .cmdUnmap _ c _ => decide (c < 1024)
  | .cmdGrant _ c _ => decide (c < 1024)
  | .cmdRevoke _ c _ => decide (c < 1024)
  | .cmdFence _ c _ => decide (c < 1024)
  | .cmdBadOpcode _ c _ => decide (c < 1024)
  | .pageScrubDone _ page => decide (page < 2097152)
  | .evqDoorbell _ q head => queueOk q && decide (head < 131072)
  | .layerAllocate _ c slot _ => decide (c < 1024) && decide (slot < 64)
  | .layerRelease _ c slot => decide (c < 1024) && decide (slot < 64)
  | .ctxLimitsWrite _ c i _ => decide (c < 1024) && decide (i < 4)
  | .commitRequest _ c _ tag => decide (c < 1025) && decide (tag < 65536)
  | .commitCancel _ c => decide (c < 1025)
  | .commitAdmit _ c => decide (c < 1025)
  | .formingPassDone _ o => decide (o < 20)
  | .fetchWindowEnd _ => true
  | .eventQueueWrite _ q => queueOk q
  | .msixModTimeout _ q => queueOk q
  | .masterEnableClear _ f _ => decide (f < 256)
  | .masterEnableSet _ f => decide (f < 256)
  | .functionLevelReset _ f => decide (f < 256)
  | .contextReset _ c => decide (c < 1024)
  | .perstAssert _ => true
  | .perstRelease _ => true
  | .linkDown _ => true
  | .vfEnable _ n => decide (n < 256)
  | .staleCompletion _ f => decide (f < 256)
  | .hostCompletionTimeout _ f _ => decide (f < 256)
  | .memRequest _ e c _ _ _ _ _ => decide (e < 48) && decide (c < 1024)
  | .pcCommandIssue _ p => decide (p < 64)
  | .memCompletion _ e _ ecc => decide (e < 48) && decide (ecc < 3)
  | .deadlineMiss _ e _ => decide (e < 48)
  | .refreshDue _ p => decide (p < 64)
  | .stackTempRead _ st _ => decide (st < 2)
  | .retrainOverdue _ p => decide (p < 64)
  | .parityError _ p _ e _ => decide (p < 64) && decide (e < 48)
  | .selfRefreshEntry _ => true
  | .selfRefreshExit _ => true
  | .patrolScrub _ _ found => decide (found < 3)
  | .hbmTrainingDone _ _ _ => true
  | .layerLiveWrite _ n _ => decide (n < 256)
  | .layerUpdate _ n => decide (n < 256)
  | .tableLoadDone _ kind i _ => decide (kind < 6) && decide (i < 20)
  | .layerUnderrun _ n o line fault => decide (n < 256) && decide (o < 20) && decide (line < 8192) && decide (fault < 4)
  | .writebackDone _ o _ => decide (o < 20)
  | .bookBuildDone _ slot => decide (slot < 16)
  | .tailDone _ o => decide (o < 20)
  | .storeZeroDone _ => true
  | .storeScrub _ _ => true
  | .spareRowCopyDone _ bank _ => decide (bank < 8)
  | .compileStart _ o => decide (o < 20)
  | .compileDone _ o => decide (o < 20)
  | .replayEnter _ o => decide (o < 20)
  | .staticEnter _ o => decide (o < 20)
  | .loadDeadline _ o slot lfn _ _ => decide (o < 20) && decide (slot < 1024) && decide (lfn < 4294967296)
  | .teInClose _ line => decide (line < 16)
  | .bcTemp _ p band _ => decide (p < 16) && decide (band < 8)
  | .bcTe _ p _ => decide (p < 16)
  | .bcError _ p code _ => decide (p < 16) && decide (code < 256)
  | .bcHealth _ p _ => decide (p < 16)
  | .bcStatus _ p _ _ _ _ _ => decide (p < 16)
  | .bcRetrainReq _ p _ => decide (p < 16)
  | .bcEcho _ p _ => decide (p < 16)
  | .bcEpoch _ p _ => decide (p < 16)
  | .bcLost _ p => decide (p < 16)
  | .portTrained _ p => decide (p < 16)
  | .portAligned _ p => decide (p < 16)
  | .portTrainTimeout _ p => decide (p < 16)
  | .portFaultRetry _ p => decide (p < 16)
  | .aptRetrainRequest _ p => decide (p < 16)
  | .aptStatusRequest _ p => decide (p < 16)
  | .portRetrainDone _ p => decide (p < 16)
  | .scanStart _ n => decide (n < 4)
  | .scanStop _ n => decide (n < 4)
  | .scanOffsetDone _ n => decide (n < 4)
  | .scanSearchDone _ n _ => decide (n < 4)
  | .scanRampDone _ n _ _ _ => decide (n < 4)
  | .scanLockDone _ n => decide (n < 4)
  | .scanBrakeDone _ n => decide (n < 4)
  | .turningPoint _ n _ _ _ _ _ => decide (n < 4)
  | .pixelEdge _ n _ => decide (n < 4)
  | .lineMiss _ n => decide (n < 4)
  | .scanStall _ n cause => decide (n < 4) && decide (cause < 16)
  | .scanStallRestart _ n _ => decide (n < 4)
  | .ampLimitEvent _ n => decide (n < 4)
  | .chainUpdateStart _ c => decide (c < 4)
  | .chainUpdateEnd _ c _ _ _ => decide (c < 4)
  | .positionClearFault _ => true
  | .watchdogToken _ hi lo => decide (hi < 4294967296) && decide (lo < 4294967296)
  | .watchdogExpiry _ timer => decide (timer < 2)
  | .interlockOpen _ _ => true
  | .interlockClose _ => true
  | .interlockHoldExpiry _ => true
  | .interlockRearm _ => true
  | .forceOffWrite _ _ => true
  | .budgetTick _ _ _ _ _ _ _ => true
  | .dataFrameRx _ l _ => decide (l < 144)
  | .trainingFrameRx _ l _ _ _ => decide (l < 144)
  | .statusFrameRx _ l _ => decide (l < 144)
  | .statusFrameTimeout _ l => decide (l < 144)
  | .laneTrainTimeout _ l => decide (l < 144)
  | .laneWake _ l => decide (l < 144)
  | .laneWakeTimeout _ l => decide (l < 144)
  | .refclkLost _ k => decide (k < 4)
  | .refclkRestored _ k => decide (k < 4)
  | .laneLoopWrite _ l loop => decide (l < 144) && decide (loop < 4)
  | .eyeMeasurementDone _ l width height => decide (l < 144) && decide (width < 1001) && decide (height < 401)
  | .lxsPortTrained _ j neigh => decide (j < 4) && decide (neigh < 281474976710656)
  | .lxsPortFaultRetry _ j => decide (j < 4)
  | .linkAckTimeout _ l => decide (l < 144)
  | .hello _ j id prio portN _ root rootPrio _ _ _ _ => decide (j < 4) && decide (id < 281474976710656) && decide (prio < 256) && decide (portN < 4) && decide (root < 281474976710656) && decide (rootPrio < 256)
  | .helloTimer _ => true
  | .electionComplete _ => true
  | .attach _ j _ => decide (j < 4)
  | .report _ j id _ _ _ _ _ _ _ => decide (j < 4) && decide (id < 281474976710656)
  | .reportQuietTimeout _ => true
  | .assign _ j id station _ _ lfn => decide (j < 4) && decide (id < 281474976710656) && decide (station < 4096) && decide (lfn < 4294967296)
  | .readyAll _ j _ _ => decide (j < 4)
  | .time _ j _ _ _ lfn _ _ => decide (j < 4) && decide (lfn < 4294967296)
  | .delayReq _ j _ => decide (j < 4)
  | .delayResp _ j _ _ _ _ => decide (j < 4)
  | .parentTimeout _ => true
  | .prepareSend _ => true
  | .prepare _ j target => decide (j < 4) && decide (target < 4294967296)
  | .votePoint _ => true
  | .vote _ j target _ _ _ _ _ _ => decide (j < 4) && decide (target < 4294967296)
  | .voteDeadline _ => true
  | .rootDecide _ => true
  | .decision _ j target _ _ _ _ => decide (j < 4) && decide (target < 4294967296)
  | .commitRoundLost _ => true
  | .drop _ j tag group cause origin seq => decide (j < 4) && decide (tag < 65536) && decide (group < 64) && decide (cause < 8) && decide (origin < 4096) && decide (seq < 65536)
  | .readReq _ j dest src ctx tag _ _ _ _ => decide (j < 4) && decide (dest < 4096) && decide (src < 4096) && decide (ctx < 1024) && decide (tag < 65536)
  | .readResp _ j dest tag _ _ _ => decide (j < 4) && decide (dest < 4096) && decide (tag < 65536)
  | .remoteReadTimeout _ tag => decide (tag < 65536)
  | .role _ j _ id prio => decide (j < 4) && decide (id < 281474976710656) && decide (prio < 256)
  | .handover _ j id => decide (j < 4) && decide (id < 281474976710656)
  | .credit _ j _ _ => decide (j < 4)
  | .lxsRetrain _ j f id _ _ => decide (j < 4) && decide (f < 256) && decide (id < 281474976710656)
  | .lxsRetrainDone _ j => decide (j < 4)
  | .lxsTakeRoot _ => true
  | .lxsPromote _ => true
  | .autoPromote _ station => decide (station < 4096)
  | .lxsExportBind _ binding => decide (binding < 1024)
  | .lxsExportUnbind _ binding => decide (binding < 1024)
  | .laxusAloneTimeout _ => true
  | .mtrLatchObserved _ c _ _ _ => decide (c < 4)
  | .mtrGap _ c => decide (c < 4)
  | .clockFault _ => true
  | .sealOpened _ => true
  | .sealClosed _ => true
  | .mtrRecordDue _ => true
  | .mtrStoreWriteDone _ _ => true
  | .mtrSupplyLoss _ _ => true
  | .mtrPowerUp _ _ => true
  | .msvcRead _ _ _ _ => true
  | .msvcStage _ _ _ => true
  | .msvcCommit _ _ => true
  | .msvcDiscard _ _ => true
  | .readId _ => true
  | .readStatus _ => true
  | .readRecord _ _ => true
  | .exportRecord _ _ _ => true
  | .readAudit _ _ => true
  | .readParams _ => true
  | .setHostTime _ lo hi => decide (lo < 4294967296) && decide (hi < 4294967296)
  | .readCurrent _ => true
  | .mtrMbAnswer _ => true
  | .mtrMbTimeout _ => true
  | .thmConversion _ _ _ check => decide (check < 4)
  | .graceEnd _ => true
  | .thmRestartRequest _ => true
  | .thmForceShutdown _ => true
  | .thmForceThrottle _ _ => true
  | .thmClearFault _ => true
  | .domainWake _ d _ => decide (d < 219)
  | .domainOff _ d => decide (d < 219)
  | .laneEyeSession _ => true
  | .psenseGainSession _ => true
  | .colourSession _ => true
  | .timebaseSession _ => true
  | .hbmMarginSession _ => true
  | .sessionAbort _ kind => decide (kind < 8)
  | .sessionEnd _ kind _ => decide (kind < 6)
  | .colourSlot _ => true
  | .colourPut _ => true
  | .colourMeasurementTimeout _ => true
  | .calSave _ => true
  | .calStoreWriteDone _ _ => true
  | .calStoreRead _ _ _ => true
  | .shadowMismatch _ logical => decide (logical < 256)
  | .confirmationDone _ logical agrees => decide (logical < 256) && decide (agrees < 3)
  | .fencedSignOfLife _ kind _ _ => decide (kind < 8)
  | .repairPass _ => true
  | .repairPassDone _ _ => true
  | .crcArm _ o r cfn => decide (o < 20) && decide (r < 20) && decide (cfn < 4294967296)
  | .eventRaised _ code ctx a0 a1 a2 => decide (code < 65536) && decide (ctx < 65536) && decide (a0 < 65536) && decide (a1 < 4294967296) && decide (a2 < 4294967296)
  | .resetAssert _ _ => true
  | .resetHold _ _ => true
  | .bootFreeFallback _ => true
  | .snapshotReady _ => true
  | .gateClockStop _ => true
  | .linkUp _ => true
  | .laneSlotTransmit _ l _ => decide (l < 144)
  | .laneIdleEntry _ l => decide (l < 144)
  | .prbsCheckerLock _ l => decide (l < 144)
  | .prbsCheckerLockLoss _ l => decide (l < 144)
  | .meterLinkUp _ => true

end Sys2Proof
end

