-- ==== Sys2Proof/Tests/Slice0.lean ====
section
/-! SUPPORT. Tests: ill-formed operands that the well-formedness check refuses, and, for each statement with conditions, a state
and operands that meet all of them together, with what the command then leaves there. -/
set_option Elab.async false
namespace Sys2Proof.Machine

/-- A device out of reset and outside safe idle, every register at its reset value. -/
def liveState : State := { State.reset with glb := { State.reset.glb with held := false, inReset := false, pwrOk := true } }

/-- Whether a command answers a next state of which a test holds. -/
def leaves (i : Instr) (s : State) (f : State → Bool) : Bool :=
  match exec i s with
  | .next t => f t
  | _ => false

/-- Whether an event of a code is counted once more. -/
def counted (code : Nat) (s t : State) : Bool := t.eventCount code == s.eventCount code + 1

/-- The state with fields of registers put to values. -/
def State.with (s : State) (l : List (Fld × Nat)) : State := l.foldl (fun t e => t.put e.1 e.2) s


/-- The state with fields of registers put to values that are in force. -/
def State.inForce (s : State) (l : List (Fld × Nat)) : State :=
  l.foldl (fun t e => (t.put e.1 e.2).actWr e.1.reg ((t.put e.1 e.2).rd e.1.reg)) s
/-! ### The whole block -/

theorem wit_stepRuns : ({ liveState with pending := [.snapshotRelease 3, .perstRelease 1] } : State).pending =
    .snapshotRelease 3 :: [.perstRelease 1] := rfl

theorem wit_storing : storesBytes (.perstRelease 1) = false ∧ reachesMeter (.resetAssert 1 true) = false ∧
    changesValuesInForce (.commitRequest 1 0 false 7) = false := by decide

theorem wit_memory : State.reset.memoryOk ∧ ∃ t, step State.reset = .next t := ⟨rfl, _, rfl⟩

/-- A live device with an image running. -/
def runningState : State := { liveState with cfg := { liveState.cfg with imageRunning := true } }

theorem test_writeRw : liveState.live = true ∧ liveState.cfg.safeIdle = false ∧
    leaves (.registerWrite 5 0 COL_DRIFT_CFG 4 0x34D) liveState (fun t => t.rdN COL_DRIFT_CFG == 0x4D) = true := by decide

theorem test_writeRws :
    leaves (.registerWrite 5 0 SEQ_THROTTLE_CFG 4 0x73) liveState (fun t => t.rdN SEQ_THROTTLE_CFG == 0x13 &&
      t.actRd SEQ_THROTTLE_CFG == liveState.actRd SEQ_THROTTLE_CFG) = true := by decide

theorem test_writeRwsBusy :
    leaves (.registerWrite 5 0 COL_CTRL 4 1) { liveState with hif := { liveState.hif with commits := [(pfCommit, ⟨false, false, 0, none, []⟩)] } }
      (fun t => t.rdN COL_CTRL == 0 && counted 0x0F06 liveState t) = true := by decide

theorem test_writeRo : leaves (.registerWrite 5 0 TIM_LF_PERIOD 4 77) liveState (fun t => t.rdN TIM_LF_PERIOD == 27777778) = true := by
  decide

theorem test_writeRwl : runningState.cfg.imageRunning = true ∧
    leaves (.registerWrite 5 0 MEM_MAP_CFG 4 0x101) runningState (fun t => t.rd MEM_MAP_CFG == runningState.rd MEM_MAP_CFG &&
      counted 0x0F06 runningState t) = true := by decide

theorem test_writeReserved : leaves (.registerWrite 5 0 0x2600000 4 77) liveState (counted 0x0F06 liveState) = true ∧
    leaves (.registerWrite 5 0 0x3FFFFFC 4 77) liveState (counted 0x0F06 liveState) = true := by decide

theorem test_writeNarrow : leaves (.registerWrite 5 0 GLB_SNAP_TARGET 1 77) liveState (fun t => counted 0x0F06 liveState t &&
    t.rdN GLB_SNAP_TARGET == 0) = true ∧
    leaves (.registerWrite 5 0 0x2FFFFF 2 77) liveState (counted 0x0F06 liveState) = true := by decide

theorem test_writeWide : leaves (.registerWrite 5 0 TIM_SYSTIME_SET_LO 8 0x700000009) liveState (fun t =>
    t.rdN TIM_SYSTIME_SET_LO == 9 && t.rdN TIM_SYSTIME_SET_HI == 7) = true := by decide

theorem test_writeVf : leaves (.registerWrite 5 255 0x30044 4 77) liveState (counted 0x0F06 liveState) = true ∧
    leaves (.registerWrite 5 1 0x100000 4 77) liveState (fun t => t.rdN TIM_REF_CTRL == 0x10000) = true := by decide

theorem test_writeSafeIdle :
    leaves (.registerWrite 5 0 COL_DRIFT_CFG 4 0x4D) { liveState with cfg := { liveState.cfg with safeIdle := true } }
      (fun t => t.rd COL_DRIFT_CFG == liveState.rd COL_DRIFT_CFG) = true := by decide

/-! ### Ill-formed operands: one command for each check, which it refuses -/

def noEntry : RingEntry := { flags := 0, count := 0, va := 0, target := 0, grantee := 0, cookie := 0, reserved := false }

/-- None of the commands passes the check. -/
def refusedAll (l : List Instr) : Bool := l.all (fun i => !i.wellFormed)

set_option maxRecDepth 100000 in
theorem test_illFormed01 : refusedAll [.registerWrite 0 256 0 1 0, .registerWrite 0 0 0 3 0, .registerWrite 0 0 0 1 256, .groupTimeout 0 64, .planeLoadStart 0 20 0 [],
    .planeLoadStart 0 0 1024 [], .mirrorReset 0 20 0, .mirrorReset 0 0 1024, .gateEdge 0 20 0 0 false, .gateEdge 0 0 1024 0 false,
    .gateEdge 0 0 0 64 false, .currentStep 0 20 0, .currentStep 0 0 1024, .chainLatch 0 4, .scanEnableEdge 0 4 0 false,
    .scanEnableEdge 0 0 1024 false, .referenceSample 0 6 0, .armedEventTrigger 0 3 0 false, .armedEventTrigger 0 0 16 false,
    .referenceEdge 0 5 0, .referenceMissing 0 5, .shutterEdge 0 4 false, .shutterLost 0 4, .shutterLateCloseCut 0 4] = true := by decide +kernel

set_option maxRecDepth 100000 in
theorem test_illFormed02 : refusedAll [.otpProgramHashByte 0 4 0 0, .otpProgramHashByte 0 0 48 0, .otpProgramHashByte 0 0 0 256, .otpSetValid 0 4, .otpSetRevoked 0 4,
    .otpRaiseFloor 0 256, .apertureWrite 0 256 0 [], .apertureRead 0 256 0 0, .cmdqDoorbell 0 1024 0, .cmdqDoorbell 0 0 4096,
    .cmdAlloc 0 1024 noEntry, .cmdFree 0 1024 noEntry, .cmdMapHost 0 1024 noEntry, .cmdMapRemote 0 1024 noEntry,
    .cmdMapGrant 0 1024 noEntry, .cmdUnmap 0 1024 noEntry, .cmdGrant 0 1024 noEntry, .cmdRevoke 0 1024 noEntry,
    .cmdFence 0 1024 noEntry, .cmdBadOpcode 0 1024 noEntry, .pageScrubDone 0 2097152, .evqDoorbell 0 1024 0, .evqDoorbell 0 0 131072,
    .layerAllocate 0 1024 0 false] = true := by decide +kernel

set_option maxRecDepth 100000 in
theorem test_illFormed03 : refusedAll [.layerAllocate 0 0 64 false, .layerRelease 0 1024 0, .layerRelease 0 0 64, .ctxLimitsWrite 0 1024 0 0, .ctxLimitsWrite 0 0 4 0,
    .commitRequest 0 1025 false 0, .commitRequest 0 0 false 65536, .commitCancel 0 1025, .commitAdmit 0 1025, .formingPassDone 0 20,
    .eventQueueWrite 0 1024, .msixModTimeout 0 1024, .masterEnableClear 0 256 [], .masterEnableSet 0 256, .functionLevelReset 0 256,
    .contextReset 0 1024, .vfEnable 0 256, .staleCompletion 0 256, .hostCompletionTimeout 0 256 false,
    .memRequest 0 48 0 0 0 0 false 0, .memRequest 0 0 1024 0 0 0 false 0, .pcCommandIssue 0 64, .memCompletion 0 48 0 0,
    .memCompletion 0 0 0 3] = true := by decide +kernel

set_option maxRecDepth 100000 in
theorem test_illFormed04 : refusedAll [.deadlineMiss 0 48 0, .refreshDue 0 64, .stackTempRead 0 2 none, .retrainOverdue 0 64, .parityError 0 64 0 0 0,
    .parityError 0 0 0 48 0, .patrolScrub 0 0 3, .layerLiveWrite 0 256 false, .layerUpdate 0 256, .tableLoadDone 0 6 0 false,
    .tableLoadDone 0 0 20 false, .layerUnderrun 0 256 0 0 0, .layerUnderrun 0 0 20 0 0, .layerUnderrun 0 0 0 8192 0,
    .layerUnderrun 0 0 0 0 4, .writebackDone 0 20 false, .bookBuildDone 0 16, .tailDone 0 20, .spareRowCopyDone 0 8 0,
    .compileStart 0 20, .compileDone 0 20, .replayEnter 0 20, .staticEnter 0 20, .loadDeadline 0 20 0 0 0 0] = true := by decide +kernel

set_option maxRecDepth 100000 in
theorem test_illFormed05 : refusedAll [.loadDeadline 0 0 1024 0 0 0, .loadDeadline 0 0 0 4294967296 0 0, .teInClose 0 16, .bcTemp 0 16 0 0, .bcTemp 0 0 8 0,
    .bcTe 0 16 false, .bcError 0 16 0 0, .bcError 0 0 256 0, .bcHealth 0 16 0, .bcStatus 0 16 0 0 0 0 0, .bcRetrainReq 0 16 false,
    .bcEcho 0 16 0, .bcEpoch 0 16 0, .bcLost 0 16, .portTrained 0 16, .portAligned 0 16, .portTrainTimeout 0 16, .portFaultRetry 0 16,
    .aptRetrainRequest 0 16, .aptStatusRequest 0 16, .portRetrainDone 0 16, .scanStart 0 4, .scanStop 0 4, .scanOffsetDone 0 4] = true := by decide +kernel

set_option maxRecDepth 100000 in
theorem test_illFormed06 : refusedAll [.scanSearchDone 0 4 none, .scanRampDone 0 4 0 0 false, .scanLockDone 0 4, .scanBrakeDone 0 4, .turningPoint 0 4 false 0 0 0 0,
    .pixelEdge 0 4 0, .lineMiss 0 4, .scanStall 0 4 0, .scanStall 0 0 16, .scanStallRestart 0 4 0, .ampLimitEvent 0 4,
    .chainUpdateStart 0 4, .chainUpdateEnd 0 4 0 0 [], .watchdogToken 0 4294967296 0, .watchdogToken 0 0 4294967296,
    .watchdogExpiry 0 2, .dataFrameRx 0 144 0, .trainingFrameRx 0 144 [] false false, .statusFrameRx 0 144 [],
    .statusFrameTimeout 0 144, .laneTrainTimeout 0 144, .laneWake 0 144, .laneWakeTimeout 0 144, .refclkLost 0 4] = true := by decide +kernel

set_option maxRecDepth 100000 in
theorem test_illFormed07 : refusedAll [.refclkRestored 0 4, .laneLoopWrite 0 144 0, .laneLoopWrite 0 0 4, .eyeMeasurementDone 0 144 0 0, .eyeMeasurementDone 0 0 1001 0,
    .eyeMeasurementDone 0 0 0 401, .lxsPortTrained 0 4 0, .lxsPortTrained 0 0 281474976710656, .lxsPortFaultRetry 0 4,
    .linkAckTimeout 0 144, .hello 0 4 0 0 0 false 0 0 0 0 0 false, .hello 0 0 281474976710656 0 0 false 0 0 0 0 0 false,
    .hello 0 0 0 256 0 false 0 0 0 0 0 false, .hello 0 0 0 0 4 false 0 0 0 0 0 false,
    .hello 0 0 0 0 0 false 281474976710656 0 0 0 0 false, .hello 0 0 0 0 0 false 0 256 0 0 0 false, .attach 0 4 false,
    .report 0 4 0 false false 0 0 0 0 0, .report 0 0 281474976710656 false false 0 0 0 0 0, .assign 0 4 0 0 false 0 0,
    .assign 0 0 281474976710656 0 false 0 0, .assign 0 0 0 4096 false 0 0, .assign 0 0 0 0 false 0 4294967296, .readyAll 0 4 0 0] = true := by decide +kernel

set_option maxRecDepth 100000 in
theorem test_illFormed08 : refusedAll [.time 0 4 0 0 0 0 0 0, .time 0 0 0 0 0 4294967296 0 0, .delayReq 0 4 0, .delayResp 0 4 0 0 0 0, .prepare 0 4 0,
    .prepare 0 0 4294967296, .vote 0 4 0 0 0 false 0 0 0, .vote 0 0 4294967296 0 0 false 0 0 0, .decision 0 4 0 0 0 0 0,
    .decision 0 0 4294967296 0 0 0 0, .drop 0 4 0 0 0 0 0, .drop 0 0 65536 0 0 0 0, .drop 0 0 0 64 0 0 0, .drop 0 0 0 0 8 0 0,
    .drop 0 0 0 0 0 4096 0, .drop 0 0 0 0 0 0 65536, .readReq 0 4 0 0 0 0 0 0 0 0, .readReq 0 0 4096 0 0 0 0 0 0 0,
    .readReq 0 0 0 4096 0 0 0 0 0 0, .readReq 0 0 0 0 1024 0 0 0 0 0, .readReq 0 0 0 0 0 65536 0 0 0 0, .readResp 0 4 0 0 0 0 [],
    .readResp 0 0 4096 0 0 0 [], .readResp 0 0 0 65536 0 0 []] = true := by decide +kernel

set_option maxRecDepth 100000 in
theorem test_illFormed09 : refusedAll [.remoteReadTimeout 0 65536, .role 0 4 0 0 0, .role 0 0 0 281474976710656 0, .role 0 0 0 0 256, .handover 0 4 0,
    .handover 0 0 281474976710656, .credit 0 4 0 0, .lxsRetrain 0 4 0 0 false false, .lxsRetrain 0 0 256 0 false false,
    .lxsRetrain 0 0 0 281474976710656 false false, .lxsRetrainDone 0 4, .autoPromote 0 4096, .lxsExportBind 0 1024,
    .lxsExportUnbind 0 1024, .mtrLatchObserved 0 4 false 0 [], .mtrGap 0 4, .setHostTime 0 4294967296 0, .setHostTime 0 0 4294967296,
    .thmConversion 0 0 none 4, .domainWake 0 219 0, .domainOff 0 219, .sessionAbort 0 8, .sessionEnd 0 6 [], .shadowMismatch 0 256] = true := by decide +kernel

set_option maxRecDepth 100000 in
theorem test_illFormed10 : refusedAll [.confirmationDone 0 256 0, .confirmationDone 0 0 3, .fencedSignOfLife 0 8 0 0, .crcArm 0 20 0 0, .crcArm 0 0 20 0,
    .crcArm 0 0 0 4294967296, .eventRaised 0 65536 0 0 0 0, .eventRaised 0 0 65536 0 0 0, .eventRaised 0 0 0 65536 0 0,
    .eventRaised 0 0 0 0 4294967296 0, .eventRaised 0 0 0 0 0 4294967296, .laneSlotTransmit 0 144 false, .laneIdleEntry 0 144,
    .prbsCheckerLock 0 144, .prbsCheckerLockLoss 0 144] = true := by decide +kernel


/-! ### Time, references and shutters -/

def pullinState : State := liveState.with [(TIM_DPLL_STATUS.STATE, 3)]
def acquireState : State := { liveState.with [(TIM_REF_STATUS.ACTIVE, 2), (TIM_REF_STATUS.FRAME_VALID, 1)] with
  tim := { liveState.tim with lockEdges := 8 } }
def holdoverState : State := liveState.with [(TIM_DPLL_STATUS.STATE, 4), (TIM_DPLL_CFG.HOLDOVER_S, 1)]

theorem wit_dpll : (liveState.live = true ∧ pullinState.live = true ∧ pullinState.get TIM_DPLL_STATUS.STATE = 3 ∧ (pullinState.tick 1).inPhase = true ∧
      acquireState.tim.lockEdges = 8) ∧
    (acquireState.get TIM_DPLL_STATUS.STATE = 1 ∧ acquireState.get TIM_REF_STATUS.ACTIVE ≠ 0 ∧
      acquireState.refValid (acquireState.get TIM_REF_STATUS.ACTIVE) = true) ∧
    (holdoverState.get TIM_DPLL_STATUS.STATE = 4 ∧ min 10 (holdoverState.get TIM_DPLL_CFG.HOLDOVER_S) * secSteps ≤
      holdoverState.now + secSteps - holdoverState.tim.holdStart) := by decide

theorem test_pullinDone : leaves (.pullinDone 1) pullinState
    (fun t => t.get TIM_DPLL_STATUS.STATE == 2 && counted 0x0302 pullinState t) = true := by decide
theorem test_dpllLocked : leaves (.dpllLocked 1) acquireState
    (fun t => t.get TIM_DPLL_STATUS.STATE == 2 && counted 0x0302 acquireState t) = true := by decide
theorem test_holdoverExpired : leaves (.holdoverExpired secSteps) holdoverState
    (fun t => t.get TIM_DPLL_STATUS.STATE == 5 && counted 0x0303 holdoverState t) = true := by decide

/-- FRAME_IN valid at 1 ms, its last edge at 0. -/
def frameState (outliers : Nat) : State :=
  (liveState.setRef 2 { RefSt.init with valid := true, last := some 0, seen := some 0, period := msSteps, meas := msSteps, outliers := outliers }).with
    [(TIM_REF_STATUS.FRAME_VALID, 1), (TIM_REF_STATUS.OUTLIERS, 255)]

theorem wit_references : (liveState.ref 1).last = none ∧ (liveState.ref 2).last = none ∧
    ((frameState 1).ref 2).last = some 0 ∧ ((frameState 0).ref 2).seen = some 0 ∧ ((frameState 2).ref 2).valid = true ∧
    usSteps < Int.natAbs ((((frameState 1).now + (msSteps + 4001) - 0 : Nat) : Int) -
      (periodsBetween ((frameState 1).now + (msSteps + 4001) - 0) ((frameState 1).ref 2).meas * ((frameState 1).ref 2).meas : Nat)) ∧
    (frameState 0).refValid 2 = true ∧ 3 * ((frameState 0).ref 2).meas < 2 * ((frameState 0).now + 6000001 - 0) ∧
    ({ liveState with tim := { liveState.tim with refCtrl := 2 ^ 17 } }.with [(TIM_REF_STATUS.ACTIVE, 2)]).refPrimary = 0 ∧
    bitAt ({ liveState with tim := { liveState.tim with refCtrl := 2 ^ 17 } } : State).tim.refCtrl 17 = true ∧
    liveState.cal.sess = [] := by decide

theorem test_outlier : leaves (.referenceEdge (msSteps + 4001) 2 0) (frameState 1)
    (fun t => (t.ref 2).valid && (t.ref 2).outliers == 2 && t.get TIM_REF_STATUS.OUTLIERS == 255) = true ∧
    leaves (.referenceEdge (msSteps + 4001) 2 0) (frameState 2)
      (fun t => !(t.ref 2).valid && t.get TIM_REF_STATUS.FRAME_VALID == 0) = true := by decide
theorem test_tenMeg : leaves (.referenceEdge 1 4 9999000) liveState (fun t => t.get TIM_REF_STATUS.REF10M_VALID == 1) = true ∧
    leaves (.referenceEdge 1 4 10001001) liveState (fun t => t.get TIM_REF_STATUS.REF10M_VALID == 0) = true := by decide
theorem test_referenceMissing : leaves (.referenceMissing 6000001 2) (frameState 0) (fun t => !t.refValid 2) = true := by decide
theorem test_refCtrlWrite : leaves (.refCtrlWrite 1 0x00070333) liveState (fun t => t.rdN TIM_REF_CTRL == 0x00070333) = true ∧
    leaves (.refCtrlWrite 1 0x00000004) liveState (fun t => t.rdN TIM_REF_CTRL == 0x00010000 && counted 0x0F06 liveState t) = true := by
  decide

def memberState : State := { liveState with cfg := { liveState.cfg with secs := [(secLxsCfg * 65536, [1])] } }

theorem wit_timeReads : (lookupReg GLB_UID_LO).any (·.pairLow) = true ∧ memberState.timeFollows = true ∧
    liveState.timeFollows = false ∧ (0xFFFF0003 : Word).toNat % 2 = 1 := by decide
theorem test_systimeLoRead : leaves (.systimeLoRead secSteps) liveState
    (fun t => t.readReg GLB_LFN_LATCHED == 0xFFFFFFFF && t.readReg GLB_SYSTIME_HI == 1) = true := by decide
theorem test_systimeStepArm : leaves (.systimeStepArm 1 0xFFFF0003) liveState (fun t => t.get TIM_SYSTIME_CTRL.STEP_ARM == 1 &&
    t.get TIM_SYSTIME_CTRL.SLEW == 65535) = true ∧
    leaves (.systimeStepArm 1 0xFFFF0003) memberState (fun t => t.rd TIM_SYSTIME_CTRL == 0) = true := by decide

def snapState (st target : Nat) : State := liveState.with [(GLB_SNAP_STATUS.STATE, st), (GLB_SNAP_TARGET.LFN, target)]

theorem wit_snapshot : (snapState 0 5).get GLB_SNAP_STATUS.STATE = 0 ∧ (snapState 4 5).get GLB_SNAP_STATUS.STATE = 4 ∧
    (snapState 1 5).get GLB_SNAP_STATUS.STATE = 1 ∧ (snapState 2 5).get GLB_SNAP_STATUS.STATE = 2 ∧
    (snapState 3 5).get GLB_SNAP_STATUS.STATE = 3 := by decide
theorem test_snapshotArm : leaves (.snapshotArm 1 true) (snapState 4 5) (fun t => t.get GLB_SNAP_STATUS.STATE == 1) = true ∧
    leaves (.snapshotArm 1 true) (snapState 0 0x80000000) (fun t => t.get GLB_SNAP_STATUS.STATE == 4 &&
      counted 0x1003 liveState t) = true := by decide

/-- Camera 1 captured, its window open over the middle of the LF. -/
def shutterState : State :=
  (({ liveState with act := [(TIM_SHUT_CTRL 1, 0x0000000A)] }).with
    [(TIM_SHUT_STATUS.STATE 1, 2), (TIM_SHUT_WIN_OPEN.OPEN 1, 0x400000), (TIM_SHUT_WIN_LEN.LEN 1, 0x400000)])

theorem wit_shutter : shutterState.captured 1 = true ∧ shutterState.actFlag (TIM_SHUT_CTRL.PROTECT 1) = true ∧
    ({ shutterState with act := [(TIM_SHUT_CTRL 1, 2)] } : State).captured 1 = true ∧
    ({ shutterState with act := [(TIM_SHUT_CTRL 1, 2)] } : State).actFlag (TIM_SHUT_CTRL.PROTECT 1) = false ∧
    (shutterState.cam 1).openEdge = none ∧ shutterState.actFlag (TIM_SHUT_CTRL.POL 1) = false ∧
    shutterState.get (TIM_SHUT_STATUS.STATE 1) ≠ 4 ∧
    (shutterState.cam 1).lastOpen + shutterState.fpuSteps (2 * shutterState.frameFpu 1) +
      400 * shutterState.actGet (TIM_SHUT_CTRL.JITTER_BOUND 1) ≤ shutterState.now + secSteps ∧
    (shutterState.tick 14000000).closeLate 1 = true ∧ shutterState.protects 1 = true ∧
    circ (shutterState.frameFpu 1) ((shutterState.tick 1000).camPos 1) (shutterState.pubAt 1) < 0 := by decide


/-! ### The metering die -/

/-- A powered meter, provisioned with one position on chain 0, that has missed `k` LATCH frames in a row there. -/
def meterState (k : Nat) : State := { liveState with mtr := { liveState.mtr with
  powered := true
  params := [0, 0, 0, 0, 1, 0, 0, 0, 0, 0, 0, 0, 0]
  misses := [(0, k)] } }

theorem wit_meterLatch : (meterState 1).mtr.powered = true ∧ (meterState 1).provisioned = true ∧
    mtrPositions (meterState 1).mtr.params 0 = 1 ∧ mtrPositions (meterState 0).mtr.params 0 ≠ 0 ∧
    tget 0 (meterState 1).mtr.misses 0 = 1 ∧ tget 0 (meterState 0).mtr.misses 0 ≠ 1 ∧
    tget 0 (meterState 1).mtr.lastLatch 3 + secSteps ≤ (meterState 1).now + secSteps ∧ (meterState 1).mtr.clockFault = false := by
  decide
theorem test_mtrLatchObserved : leaves (.mtrLatchObserved 1 0 false 4 []) (meterState 1)
    (fun t => !t.mtrPasses 0 && t.mtr.count == 1 && t.mtr.blocked == [0] && tget 0 t.mtr.misses 0 == 2) = true ∧
    leaves (.mtrLatchObserved 1 0 true 4 [5]) (meterState 1)
      (fun t => t.mtrPasses 0 && t.mtr.count == 0 && tget 0 t.mtr.misses 0 == 0 && t.mtr.estWords == 1) = true := by decide
theorem test_mtrGap : leaves (.mtrGap secSteps 3) (meterState 1) (fun t => t.mtr.bits == 128) = true := by decide
theorem test_clockFault : leaves (.clockFault secSteps) (meterState 0)
    (fun t => t.mtr.clockFault && t.meterTime == 32768 && !t.mtrPasses 0 && t.mtr.count == 1) = true := by decide

def sealState (o : Bool) : State := { meterState 0 with mtr := { (meterState 0).mtr with sealOpen := o, staged := if o then some [1] else none } }
def writesState (f : Nat) : State :=
  { meterState 0 with mtr := { (meterState 0).mtr with writes := [{ kind := 0, key := 7, bytes := [9], fails := f }] } }

theorem wit_meterStore : liveState.mtr.sealOpen = false ∧ (sealState true).mtr.sealOpen = true ∧
    (meterState 0).mtr.timeBase < 1966080 * 1 ∧ ((meterState 0).tick (60 * secSteps)).meterTime = 1966080 * 1 ∧
    (writesState 0).mtr.powered = true ∧ (writesState 0).mtr.writes.length = 1 ∧ (writesState 1).mtr.writes.length = 1 ∧
    liveState.mtr.powered = false ∧ liveState.mtr.batSeals = [] := by decide
theorem test_seal : leaves (.sealOpened 1) (sealState false) (fun t => t.mtr.sealOpen && t.mtr.count == 1 && t.mtr.bits == 1024) = true ∧
    leaves (.sealOpened 1) liveState (fun t => t.mtr.sealOpen && t.mtr.batSeals == [1] && t.mtr.writes.isEmpty) = true ∧
    leaves (.sealClosed 1) (sealState true) (fun t => !t.mtr.sealOpen && t.mtr.staged.isNone && t.mtr.count == 1) = true := by decide
theorem test_mtrRecordDue : leaves (.mtrRecordDue (60 * secSteps)) (meterState 0)
    (fun t => t.mtr.seq == 1 && t.mtr.writes.length == 1 && t.mtr.timeBase == 1966080) = true := by decide
theorem test_mtrStoreWriteDone : leaves (.mtrStoreWriteDone 1 true) (writesState 0)
      (fun t => t.mtr.writes.isEmpty && tfind t.mtr.records 7 == some [9]) = true ∧
    leaves (.mtrStoreWriteDone 1 false) (writesState 0) (fun t => !t.mtr.nvFault && t.mtr.writes.length == 1) = true ∧
    leaves (.mtrStoreWriteDone 1 false) (writesState 1) (fun t => t.mtr.nvFault && t.mtr.count == 1) = true := by decide
theorem test_mtrSupply : leaves (.mtrSupplyLoss 1 true) (meterState 0)
      (fun t => !t.mtr.powered && t.mtr.seq == 1 && t.mtr.writes.isEmpty && t.mtr.count == 0) = true ∧
    leaves (.mtrPowerUp 1 true) liveState (fun t => t.mtr.powered && t.mtr.seq == 1 && t.mtr.writes.length == 1) = true ∧
    leaves (.mtrPowerUp 1 false) liveState (fun t => t.mtr.powered && t.mtr.vbatLost && t.mtr.count == 1) = true := by decide

theorem wit_servicePort : (sealState true).mtr.powered = true ∧ (sealState true).mtr.sealOpen = true ∧
    (sealState true).mtr.staged = some [1] ∧ (sealState false).mtr.sealOpen = false ∧ paramsOk [1] = false := by decide
theorem test_msvcCommit : leaves (.msvcCommit 1 true) (sealState true) (fun t => t.out == [.service 0x11 0 []] && t.mtr.params == [1] &&
    t.mtr.paramSet == 1 && t.mtr.count == 1 && t.mtr.seq == 2) = true := by decide
theorem test_msvcAnswers : leaves (.msvcRead 1 2 [] false) (sealState true) (fun t => t.out == [.service 1 1 []]) = true ∧
    leaves (.msvcRead 1 7 [] true) (sealState true) (fun t => t.out == [.service 1 0 []]) = true ∧
    leaves (.msvcStage 1 [1] true) (sealState true) (fun t => t.out == [.service 0x10 3 []]) = true ∧
    leaves (.msvcDiscard 1 true) (sealState true) (fun t => t.out == [.service 0x12 0 []] && t.mtr.staged.isNone) = true ∧
    leaves (.msvcDiscard 1 true) (sealState false) (fun t => t.out == [.service 0x12 2 []]) = true := by decide

/-- A meter whose mailbox has operation `op` outstanding, over a link that is up or down. -/
def mailState (op link : Nat) : State :=
  ({ meterState 0 with mtr := { (meterState 0).mtr with mbArgs := [7, 1, 0, 0, 0, 0], records := [(7, [9])] } }.with
    [(MTR_MB_STATUS.BUSY, 1), (MTR_MB_STATUS.LINK, link), (MTR_MB_CTRL.REQ, 1), (MTR_MB_CTRL.OP, op)])

theorem wit_mailbox : liveState.get MTR_MB_STATUS.BUSY = 0 ∧ (mailState 7 1).get MTR_MB_STATUS.BUSY = 1 ∧
    (mailState 7 1).get MTR_MB_STATUS.LINK = 1 ∧ (mailState 7 1).mtr.writes = [] ∧ (mailState 7 1).get MTR_MB_CTRL.OP = 7 ∧
    tfind (mailState 3 1).mtr.records (nthD (mailState 3 1).mtr.mbArgs 0 0) = some [9] ∧ (mailState 3 0).get MTR_MB_STATUS.LINK = 0 ∧
    (mailState 4 1).mtr.mbTime + 100 * msSteps ≤ (mailState 4 1).now + 100 * msSteps := by decide
theorem test_mbRequest : leaves (.exportRecord 1 9 [1, 2, 3, 4]) liveState (fun t => t.get MTR_MB_CTRL.OP == 4 &&
    t.get MTR_MB_STATUS.BUSY == 1 && t.rdN (MTR_MB_ARG 0) == 9 && t.rdN (MTR_MB_ARG 4) == 4) = true ∧
    leaves (.readId 1) (mailState 7 1) (fun t => counted 0x0F06 (mailState 7 1) t) = true := by decide
theorem test_mbAnswer : leaves (.mtrMbAnswer 1) (mailState 7 1)
      (fun t => t.get MTR_MB_STATUS.BUSY == 0 && t.get MTR_MB_STATUS.RESULT == 1 && t.mtr.hostTime == 7 + 2 ^ 32) = true ∧
    leaves (.mtrMbAnswer 1) (mailState 3 1) (fun t => t.mtr.mbData == [9] && t.get MTR_MB_STATUS.RESULT == 1) = true ∧
    leaves (.mtrMbTimeout 1) (mailState 3 0) (fun t => t.get MTR_MB_STATUS.RESULT == 4) = true ∧
    leaves (.mtrMbTimeout (50 * msSteps)) (mailState 4 1) (fun t => t.get MTR_MB_STATUS.BUSY == 1) = true ∧
    leaves (.mtrMbTimeout (50 * msSteps)) (mailState 3 1) (fun t => t.get MTR_MB_STATUS.RESULT == 5) = true ∧
    leaves (.meterLinkUp 1) (meterState 0) (fun t => t.get MTR_MB_STATUS.LINK == 1) = true := by decide


/-! ### Images, fuses, reset and the host link -/

def loadState (n : Nat) : State := { liveState with cfg := { liveState.cfg with load := n, otpLocked := false } }

theorem wit_failedLoads : liveState.live = true ∧ (loadState 1).cfg.load = 1 ∧ (loadState 2).cfg.load = 2 ∧
    (loadState 4).cfg.load = 4 ∧ (loadState 3).cfg.load = 3 ∧ (loadState 5).cfg.load = 5 ∧ liveState.cfg.safeIdle = false := by decide
theorem test_flashNoResponse : leaves (.flashNoResponse 1) (loadState 1) (fun t => t.cfg.load == 2 && t.get CFG_STATUS.FAIL == 1 &&
      t.get CFG_STATUS.SRC_ACT == 1) = true ∧
    leaves (.flashNoResponse 1) (loadState 2) (fun t => t.cfg.safeIdle && t.get CFG_STATUS.STATE == 5 && t.cfg.load == 0 &&
      t.get TIM_DPLL_STATUS.STATE == 0) = true ∧
    leaves (.flashNoResponse 1) (loadState 4) (fun t => t.get CFG_STATUS.RELOAD == 6 && counted 0x0D01 (loadState 4) t) = true := by decide
theorem test_hostReadError : leaves (.hostReadError 1) (loadState 3) (fun t => t.cfg.safeIdle && t.get CFG_STATUS.FAIL == 0x0E) = true ∧
    leaves (.hostReadError 1) (loadState 5) (fun t => t.get CFG_STATUS.RELOAD == 6 && t.get CFG_STATUS.FAIL == 0x0E) = true := by decide
theorem test_refusedLoads : leaves (.flashFullLoadRefused 1) liveState (fun t => t.get CFG_STATUS.FAIL == 0x0D) = true ∧
    leaves (.hostFullLoad 1) liveState (fun t => t.get CFG_STATUS.FAIL == 0x0D && t.cfg.load == 0) = true ∧
    leaves (.reloadFromHost 1) (loadState 4) (fun t => t.get CFG_STATUS.FAIL == 0x0F && t.cfg.load == 4) = true := by decide

/-- Safe idle on a locked device that the host reaches; and a device that has started. -/
def safeState : State := ({ liveState with cfg := { liveState.cfg with safeIdle := true, otpLocked := true } }).with
  [(HIF_FN_STATUS.ME 0, 1), (HIF_STATUS.LINK_UP, 1)]
def startedState : State := ({ liveState with cfg := { liveState.cfg with dirValid := true } }).with
  [(HIF_FN_STATUS.ME 0, 1), (HIF_STATUS.LINK_UP, 1), (HIF_STATUS.STARTUP_DONE, 1)]
def reloadState (ready : Bool) : State := { liveState with cfg := { liveState.cfg with reload := [(4 * 65536, [1])], reloadReady := ready } }

theorem wit_loads : safeState.cfg.safeIdle = true ∧ safeState.cfg.load = 0 ∧ safeState.cfg.otpLocked = true ∧ safeState.fnCanHost 0 = true ∧
    startedState.get HIF_STATUS.STARTUP_DONE = 1 ∧ startedState.reloadPending = false ∧ startedState.cfg.dirValid = true ∧
    startedState.fnCanHost 0 = true ∧ leAt [1, 2, 3, 4] 0 4 ≠ magicImage ∧ (reloadState false).cfg.reload ≠ [] ∧
    (reloadState false).cfg.reloadCompiles = [] ∧ (reloadState false).cfg.reloadReady = false := by decide
theorem test_hostFullLoad : leaves (.hostFullLoad 1) safeState (fun t => t.cfg.load == 3 && t.get CFG_LOAD_CTRL.START == 1 &&
    t.get CFG_STATUS.STATE == 1 && t.get CFG_STATUS.SRC_ACT == 2) = true := by decide
theorem test_reloadFromFlash : leaves (.reloadFromFlash 1) startedState (fun t => t.cfg.load == 4 && t.get CFG_STATUS.RELOAD == 1) = true := by
  decide
theorem test_reloadFromHost : leaves (.reloadFromHost 1) startedState (fun t => t.cfg.load == 5 && t.get CFG_LOAD_CTRL.FROM_HOST == 1) = true := by
  decide
theorem test_imageLoadDone_badMagic : leaves (.imageLoadDone 1 [1, 2, 3, 4])
    { loadState 1 with cfg := { (loadState 1).cfg with dirValid := true } }
    (fun t => t.cfg.load == 2 && t.get CFG_STATUS.FAIL == 2) = true := by decide
theorem test_reloadReady : leaves (.reloadReady 1) (reloadState false) (fun t => t.cfg.reloadReady && t.get CFG_STATUS.RELOAD == 4) = true := by
  decide

def fuseState (locked : Bool) : State := { liveState.wrN CFG_OTP_STATUS 0 with
  cfg := { liveState.cfg with keyHash := [(49, 1)], keyValid := 1, keyRevoked := 0, secFloor := 5, otpLocked := locked } }

theorem wit_fuses : (fuseState false).live = true ∧ (fuseState false).cfg.otpLocked = false ∧ (fuseState true).cfg.otpLocked = true := by decide
theorem test_fuses : leaves (.otpProgramHashByte 1 1 1 0x82) (fuseState false) (fun t => t.cfg.keyHash == [(49, 0x83)]) = true ∧
    leaves (.otpSetValid 1 3) (fuseState false) (fun t => t.get CFG_OTP_STATUS.KEY_VALID == 9) = true ∧
    leaves (.otpSetRevoked 1 3) (fuseState false) (fun t => t.get CFG_OTP_STATUS.KEY_REVOKED == 8) = true ∧
    leaves (.otpRaiseFloor 1 4) (fuseState false) (fun t => t.get CFG_OTP_STATUS.SECVER_FLOOR == 5) = true ∧
    leaves (.otpLock 1) (fuseState false) (fun t => t.get CFG_OTP_STATUS.LOCKED == 1 && t.cfg.otpLocked) = true ∧
    leaves (.otpLock 1) (fuseState true) (fun t => counted 0x0F06 (fuseState true) t) = true := by decide

def inResetState (held : Bool) : State := ({ liveState with
  glb := { liveState.glb with inReset := true, held := held, resetKind := 2 }
  cfg := { liveState.cfg with otpLocked := true } }).with [(GLB_RESET_CAUSE.RESETS, 255)]
def timingState : State := { liveState with glb := { liveState.glb with timingAt := some 0 } }

theorem wit_reset : liveState.glb.inReset = false ∧ (inResetState false).glb.inReset = true ∧ (inResetState false).glb.held = false ∧
    (inResetState false).glb.resetTime + 4 * usSteps ≤ (inResetState false).now + 4 * usSteps ∧ (inResetState false).glb.resetKind = 2 ∧
    (inResetState true).glb.held = true ∧ timingState.glb.timingAt = some 0 ∧ timingState.tim.everLocked = false ∧
    (flashDirectory 65536 [1]).isSome = false := by decide
theorem test_resetAssert : leaves (.resetAssert 7 true) liveState (fun t => t.glb.inReset && t.glb.resetKind == 1 && t.glb.resetTime == 7) = true := by
  decide
theorem test_resetHold : leaves (.resetHold (4 * usSteps) false) (inResetState false)
    (fun t => t.glb.held && t.get GLB_RESET_CAUSE.LAST == 2 && t.get GLB_RESET_CAUSE.RESETS == 255) = true := by decide
theorem test_boot : leaves (.boot 1 true 65536 []) (inResetState true) (fun t => t.live && t.cfg.safeIdle && t.get CFG_STATUS.SRC_ACT == 3) = true ∧
    leaves (.boot 1 false 65536 [1]) (inResetState true) (fun t => t.live && t.cfg.safeIdle && t.get CFG_STATUS.FAIL == 3 &&
      t.get CFG_FAIL_INFO.ENTRY == 0x3F) = true := by decide
theorem test_bootFreeFallback : leaves (.bootFreeFallback secSteps) timingState (fun t => t.get GLB_BOOT_STATUS.FREE_FALLBACK == 1 &&
    t.get TIM_DPLL_STATUS.STATE == 0 && counted 0x0301 timingState t) = true := by decide

/-- The PF and one VF, two contexts each, in use. -/
def ctxState : State := ({ liveState with cfg := { liveState.cfg with
    imageRunning := true
    secs := [(secCtxLimits * 65536, List.replicate 16 0 ++ [2] ++ List.replicate 31 0 ++ [2] ++ List.replicate 31 0)] } }).with
  [(HIF_STATUS.NUM_VFS, 1), (HIF_STATUS.LINK_UP, 1), (HIF_FN_STATUS.ME 0, 1), (HIF_FN_STATUS.ME 1, 1), (HIF_CTX_LIMITS_0.ENABLE 0, 1),
   (HIF_CTX_LIMITS_0.ENABLE 1, 1), (HIF_CTX_LIMITS_0.ENABLE 4, 1)]

theorem wit_hostLink : ctxState.live = true ∧ ctxState.hif.perst = false ∧ ctxState.get HIF_STATUS.LINK_UP = 1 ∧ ctxState.fnEnabled 1 = true ∧
    ctxState.get (HIF_FN_STATUS.ME 1) = 1 ∧ ctxState.ctxExists 4 = true ∧ ctxState.ctxExists 1 = true ∧ ctxState.ctxExists 5 = false ∧
    ctxState.hif.resetting.contains 4 = false ∧ liveState.get HIF_STATUS.NUM_VFS = 0 := by decide
theorem test_writeVfPage : leaves (.registerWrite 5 1 0x44 4 77) ctxState (fun t => t.rdN (HIF_CTX_APERTURE 4) == 77) = true ∧
    leaves (.registerWrite 5 1 0x10044 4 77) ctxState (counted 0x0F06 ctxState) = true := by decide +kernel
set_option maxRecDepth 100000 in
theorem test_perstAssert : leaves (.perstAssert 1) ctxState (fun t => t.hif.perst && t.get HIF_STATUS.LINK_UP == 0 &&
    t.get (HIF_FN_STATUS.ME 1) == 0 && t.get HIF_STATUS.PERSTS == 1) = true ∧
    leaves (.perstAssert 1) liveState (fun t => counted 0x0F04 liveState t) = true ∧
    leaves (.perstRelease 1) { ctxState with hif := { ctxState.hif with perst := true } } (fun t => !t.hif.perst) = true := by decide
set_option maxRecDepth 100000 in
theorem test_link : leaves (.linkDown 1) ctxState (fun t => t.get HIF_STATUS.LINK_UP == 0 && t.get (HIF_FN_STATUS.ME 1) == 0) = true ∧
    leaves (.linkUp 1) liveState (fun t => t.get HIF_STATUS.LINK_UP == 1) = true := by decide
set_option maxRecDepth 100000 in
theorem test_masterEnable : leaves (.masterEnableClear 1 1 []) ctxState (fun t => t.get (HIF_FN_STATUS.ME 1) == 0 &&
      t.get (HIF_FN_STATUS.GEN 1) == 1 && counted 0x0F04 ctxState t) = true ∧
    leaves (.masterEnableSet 1 0) ctxState (fun t => t.get (HIF_FN_STATUS.ME 0) == 1 && t.fnCanHost 0) = true := by decide
set_option maxRecDepth 100000 in
theorem test_functionLevelReset : leaves (.functionLevelReset 1 1) ctxState (fun t => t.get (HIF_FN_STATUS.FLR 1) == 1 &&
      t.hif.resetting == [4] && t.get (HIF_FN_STATUS.GEN 1) == 1 && counted 0x0F04 ctxState t) = true ∧
    leaves (.functionLevelReset 1 0) ctxState (fun t => t.get (HIF_FN_STATUS.ME 0) == 0 && t.get HIF_STATUS.NUM_VFS == 0 &&
      t.hif.resetting == [0, 1]) = true := by decide
theorem test_contextReset : leaves (.contextReset 1 4) ctxState (fun t => t.get (HIF_CTX_CTRL.RESET 4) == 1 && t.hif.resetting == [4]) = true ∧
    leaves (.contextReset 1 5) ctxState (fun t => counted 0x0F06 ctxState t) = true := by decide


/-! A signed reload image with one WAVEFORM section, and a signed full image whose sections are all 4 zero bytes, so that it is
authentic and fits no device; the key pair was made for these tests. -/
def imgReload : List Byte :=
  [70, 83, 73, 77, 1, 0, 0, 0, 64, 2, 0, 0, 2, 0, 1, 0, 40, 65, 0, 3, 0, 0, 0, 0, 0, 0, 0, 0, 7] ++ List.replicate 51 0 ++ [49,
    46, 48] ++ List.replicate 173 0 ++ [4, 0, 0, 0, 1, 0, 0, 0, 64, 1, 0, 0, 12, 0, 0, 0, 141, 229, 109, 157, 90, 173, 215, 124,
    223, 25, 8, 141, 76, 101, 244, 249, 15, 117, 56, 111, 158, 96, 171, 36, 6, 130, 102, 29, 85, 98, 104, 134, 69, 31, 232, 161,
    244, 127, 17, 74, 180, 2, 28, 179, 3, 107, 223, 53, 1, 1, 0, 0, 0, 255, 255, 255, 255, 255, 255, 255] ++ List.replicate 52 0
    ++ [195, 69, 246, 239, 207, 64, 4, 87, 82, 133, 167, 58, 203, 75, 196, 206, 103, 182, 162, 234, 69, 51, 49, 248, 25, 138,
    201, 107, 228, 98, 228, 211, 12, 212, 0, 187, 166, 59, 213, 14, 168, 92, 246, 69, 159, 133, 171, 15, 55, 221, 50, 88, 198,
    64, 107, 161, 234, 14, 87, 235, 25, 247, 105, 106, 144, 94, 108, 144, 181, 48, 21, 255, 89, 15, 47, 168, 254, 79, 222, 137,
    150, 17, 190, 128, 235, 74, 61, 83, 213, 187, 14, 95, 188, 112, 43, 123, 216, 161, 126, 85, 184, 226, 244, 123, 195, 105,
    253, 150, 22, 105, 92, 226, 115, 220, 228, 227, 7, 131, 10, 101, 245, 164, 169, 170, 137, 103, 201, 135, 174, 234, 122, 211,
    101, 103, 122, 19, 191, 214, 92, 63, 229, 166, 105, 57, 189, 197, 53, 66, 197, 33, 58, 81, 52, 93, 186, 130, 32, 171, 178,
    60, 113, 101, 154, 77, 133, 11, 59, 186, 255, 141, 3, 91, 208, 138, 89, 235, 50, 9, 156, 150, 169, 4, 158, 77, 125, 67, 92,
    246, 117, 113, 59, 200]
def imgSmall : List Byte :=
  [70, 83, 73, 77, 1, 0, 0, 0, 64, 7, 0, 0, 1, 0, 11, 0, 40, 65, 0, 3, 0, 0, 0, 0, 0, 0, 0, 0, 7, 0, 0, 0, 91, 205, 126, 107,
    101, 56, 223, 157, 187, 121, 79, 199, 131, 34, 102, 168, 121, 167, 234, 11, 73, 132, 189, 186, 208, 130, 243, 24, 67, 225,
    115, 216, 192, 141, 182, 63, 122, 232, 17, 230, 9, 160, 142, 227, 201, 67, 142, 18, 49, 46, 48] ++ List.replicate 173 0 ++
    [1, 0, 0, 0, 0, 0, 0, 0, 192, 3, 0, 0, 4, 0, 0, 0, 57, 67, 65, 183, 24, 44, 210, 39, 197, 198, 176, 126, 248, 0, 12, 223,
    216, 97, 54, 196, 41, 43, 142, 87, 101, 115, 173, 126, 217, 174, 65, 1, 159, 88, 24, 180, 185, 113, 201, 239, 252, 96, 225,
    173, 159, 18, 137, 240, 2, 0, 0, 0, 0, 0, 0, 0, 0, 4, 0, 0, 4, 0, 0, 0, 57, 67, 65, 183, 24, 44, 210, 39, 197, 198, 176,
    126, 248, 0, 12, 223, 216, 97, 54, 196, 41, 43, 142, 87, 101, 115, 173, 126, 217, 174, 65, 1, 159, 88, 24, 180, 185, 113,
    201, 239, 252, 96, 225, 173, 159, 18, 137, 240, 5, 0, 0, 0, 1, 0, 0, 0, 64, 4, 0, 0, 4, 0, 0, 0, 57, 67, 65, 183, 24, 44,
    210, 39, 197, 198, 176, 126, 248, 0, 12, 223, 216, 97, 54, 196, 41, 43, 142, 87, 101, 115, 173, 126, 217, 174, 65, 1, 159,
    88, 24, 180, 185, 113, 201, 239, 252, 96, 225, 173, 159, 18, 137, 240, 6, 0, 0, 0, 0, 0, 0, 0, 128, 4, 0, 0, 4, 0, 0, 0, 57,
    67, 65, 183, 24, 44, 210, 39, 197, 198, 176, 126, 248, 0, 12, 223, 216, 97, 54, 196, 41, 43, 142, 87, 101, 115, 173, 126,
    217, 174, 65, 1, 159, 88, 24, 180, 185, 113, 201, 239, 252, 96, 225, 173, 159, 18, 137, 240, 7, 0, 0, 0, 0, 0, 0, 0, 192, 4,
    0, 0, 4, 0, 0, 0, 57, 67, 65, 183, 24, 44, 210, 39, 197, 198, 176, 126, 248, 0, 12, 223, 216, 97, 54, 196, 41, 43, 142, 87,
    101, 115, 173, 126, 217, 174, 65, 1, 159, 88, 24, 180, 185, 113, 201, 239, 252, 96, 225, 173, 159, 18, 137, 240, 8, 0, 0, 0,
    0, 0, 0, 0, 0, 5, 0, 0, 4, 0, 0, 0, 57, 67, 65, 183, 24, 44, 210, 39, 197, 198, 176, 126, 248, 0, 12, 223, 216, 97, 54, 196,
    41, 43, 142, 87, 101, 115, 173, 126, 217, 174, 65, 1, 159, 88, 24, 180, 185, 113, 201, 239, 252, 96, 225, 173, 159, 18, 137,
    240, 9, 0, 0, 0, 0, 0, 0, 0, 64, 5, 0, 0, 4, 0, 0, 0, 57, 67, 65, 183, 24, 44, 210, 39, 197, 198, 176, 126, 248, 0, 12, 223,
    216, 97, 54, 196, 41, 43, 142, 87, 101, 115, 173, 126, 217, 174, 65, 1, 159, 88, 24, 180, 185, 113, 201, 239, 252, 96, 225,
    173, 159, 18, 137, 240, 10, 0, 0, 0, 0, 0, 0, 0, 128, 5, 0, 0, 4, 0, 0, 0, 57, 67, 65, 183, 24, 44, 210, 39, 197, 198, 176,
    126, 248, 0, 12, 223, 216, 97, 54, 196, 41, 43, 142, 87, 101, 115, 173, 126, 217, 174, 65, 1, 159, 88, 24, 180, 185, 113,
    201, 239, 252, 96, 225, 173, 159, 18, 137, 240, 11, 0, 0, 0, 0, 0, 0, 0, 192, 5, 0, 0, 4, 0, 0, 0, 57, 67, 65, 183, 24, 44,
    210, 39, 197, 198, 176, 126, 248, 0, 12, 223, 216, 97, 54, 196, 41, 43, 142, 87, 101, 115, 173, 126, 217, 174, 65, 1, 159,
    88, 24, 180, 185, 113, 201, 239, 252, 96, 225, 173, 159, 18, 137, 240, 12, 0, 0, 0, 0, 0, 0, 0, 0, 6, 0, 0, 4, 0, 0, 0, 57,
    67, 65, 183, 24, 44, 210, 39, 197, 198, 176, 126, 248, 0, 12, 223, 216, 97, 54, 196, 41, 43, 142, 87, 101, 115, 173, 126,
    217, 174, 65, 1, 159, 88, 24, 180, 185, 113, 201, 239, 252, 96, 225, 173, 159, 18, 137, 240, 16, 0, 0, 0, 0, 0, 0, 0, 64, 6,
    0, 0, 4, 0, 0, 0, 57, 67, 65, 183, 24, 44, 210, 39, 197, 198, 176, 126, 248, 0, 12, 223, 216, 97, 54, 196, 41, 43, 142, 87,
    101, 115, 173, 126, 217, 174, 65, 1, 159, 88, 24, 180, 185, 113, 201, 239, 252, 96, 225, 173, 159, 18, 137, 240] ++
    List.replicate 704 0 ++ [195, 69, 246, 239, 207, 64, 4, 87, 82, 133, 167, 58, 203, 75, 196, 206, 103, 182, 162, 234, 69, 51,
    49, 248, 25, 138, 201, 107, 228, 98, 228, 211, 12, 212, 0, 187, 166, 59, 213, 14, 168, 92, 246, 69, 159, 133, 171, 15, 133,
    244, 190, 181, 139, 10, 2, 98, 14, 26, 140, 22, 184, 89, 62, 99, 255, 142, 246, 221, 179, 239, 105, 210, 86, 161, 86, 117,
    249, 27, 218, 114, 166, 200, 246, 160, 66, 159, 161, 213, 253, 105, 129, 231, 192, 214, 45, 239, 216, 161, 126, 85, 184,
    226, 244, 123, 195, 105, 253, 150, 22, 105, 92, 226, 115, 220, 228, 227, 7, 131, 10, 101, 245, 164, 169, 170, 137, 103, 201,
    135, 174, 234, 122, 211, 101, 103, 122, 19, 191, 214, 92, 63, 229, 166, 105, 57, 189, 197, 53, 66, 197, 33, 58, 81, 52, 93,
    186, 130, 32, 171, 178, 60, 113, 101, 154, 77, 133, 11, 59, 186, 255, 141, 3, 91, 208, 138, 89, 235, 50, 9, 156, 150, 169,
    4, 158, 77, 125, 67, 92, 246, 117, 113, 59, 200]
/-- The SHA-384 of the key. -/
def imgKey : List Nat :=
  [163, 110, 220, 222, 226, 249, 111, 82, 250, 162, 165, 194, 14, 213, 204, 245, 147, 208, 177, 113, 106, 24, 144, 245, 41, 16,
    103, 1, 39, 205, 197, 150, 206, 145, 6, 74, 102, 222, 190, 141, 238, 207, 106, 174, 140, 221, 243, 1]
/-- A device whose slot 0 holds the key, with a load in progress; HBM3E and part as 0x41280000 gives them. -/
def keyState (load done : Nat) : State := (({ liveState with cfg := { liveState.cfg with
    keyHash := (List.range 48).zip imgKey, keyValid := 1, keyRevoked := 0, secFloor := 0, otpLocked := true, load := load,
    topo := List.replicate 48 0, regions := [(3, { off := 4096, len := 4096 })], secs := [(secArrayMech * 65536, List.replicate 11 0 ++ [1])] } }).with
  [(CFG_HOST_LEN.LEN, 1856), (CAL_BIST.DONE, done)]).wrN GLB_DEVICE_ID 0x41280000

set_option maxRecDepth 100000 in
theorem wit_reloadFront : (keyState 4 1).frontFail imgReload true (keyState 4 1).sourceLen.1 (keyState 4 1).sourceLen.2 = none := by
  decide +kernel
set_option maxRecDepth 100000 in
theorem wit_reloadFits : hashFail imgReload = none ∧ (keyState 4 1).resourceFail imgReload true = none ∧ (keyState 4 1).get CAL_BIST.DONE = 1 := by
  decide +kernel
set_option maxRecDepth 100000 in
theorem wit_fullFront : (keyState 3 0).frontFail imgSmall false (keyState 3 0).sourceLen.1 (keyState 3 0).sourceLen.2 = none := by
  decide +kernel
set_option maxRecDepth 100000 in
theorem wit_fullHash : hashFail imgSmall = none := by decide +kernel
set_option maxRecDepth 100000 in
theorem test_imageLoadDone_reload : leaves (.imageLoadDone 1 imgReload) (keyState 4 1) (fun t => t.cfg.load == 0 &&
    t.get CFG_STATUS.RELOAD == 3 && t.cfg.reload == [(secWaveform * 65536, [1, 1, 0, 0, 0, 255, 255, 255, 255, 255, 255, 255])]) = true := by
  decide +kernel


/-! ### Host functions and contexts -/

/-- A context whose ring's entry has been asked for, with scrubbed pages free, one page owned, and grants of another context. -/
def ringState (defer : List Deferred) : State := ({ ctxState with hif := { ctxState.hif with
    cmdTail := [(0, 5)]
    pages := [(2, 0), (3, 0), (4, 1)]
    maps := [(mapKey 0 9, ⟨MapKind.loc, 4, true, true, 0⟩), (mapKey 0 11, ⟨MapKind.host, 7, true, true, 0⟩)]
    grants := [(7, ⟨1, 0, 0, [4]⟩), (8, ⟨0, 1, 9, [4]⟩)]
    nextHandle := 5
    tags := [⟨0, false, 0, .ring 0⟩]
    deferred := defer } }).with [(HIF_CTX_CMDQ_CFG.EN 0, 1), (HIF_CTX_LIMITS_1.PAGES 0, 3), (HIF_STATUS.STARTUP_DONE, 1)]
def ringE (va target grantee : Nat) : RingEntry :=
  { flags := 1, count := 1, va := va * 65536, target := target, grantee := grantee, cookie := 0, reserved := true }

theorem wit_ring : (ringState []).ringReading 0 = true ∧ (ringState []).ringOpen 0 = true ∧ (ringState []).get (HIF_FN_STATUS.ME 0) = 1 ∧
    ({ ringE 0 0 0 with flags := 4 } : RingEntry).bitsOk = false ∧ ((ringState []).with [(HIF_FN_STATUS.ME 0, 0)]).ringOpen 0 = true ∧ (ringE 0 65536 1).rangeOk = true ∧ (ringState []).anyMapped 0 (ringE 0 65536 1) = false ∧
    ((ringState []).ownedPages 0).length + 1 ≤ (ringState []).get (HIF_CTX_LIMITS_1.PAGES 0) ∧ 1 ≤ (ringState []).freePages.length ∧
    (ringE 0 65536 1).target % 65536 = 0 ∧ (ringState []).get HIF_STATUS.STARTUP_DONE = 1 ∧ (ringE 0 7 1).wrt = false ∧
    (ringState []).grantOf 7 = some ⟨1, 0, 0, [4]⟩ ∧ (ringState []).allOwned 0 (ringE 9 0 1) = true ∧
    { ringE 0 0 0 with count := 0 }.rangeOk = false ∧ (2 ^ 48 - 65536) + 1 * 65536 ≤ 2 ^ 48 := by decide
set_option maxRecDepth 100000 in
theorem test_ringNow : leaves (.cmdAlloc 1 0 (ringE 0 0 0)) (ringState []) (fun t => t.get (HIF_CTX_CMDQ_HEAD.HEAD 0) == 1 &&
      tfind t.hif.pages 2 == some 1 && tfind t.hif.maps (mapKey 0 0) == some ⟨MapKind.loc, 2, true, false, 0⟩ &&
      t.out.head? == some (.hostWrite 0 none 0x38 [1, 0, 0, 0, 0, 0, 0, 0])) = true ∧
    leaves (.cmdMapHost 1 0 (ringE 0 65536 0)) (ringState []) (fun t =>
      tfind t.hif.maps (mapKey 0 0) == some ⟨MapKind.host, 1, true, false, 0⟩) = true ∧
    leaves (.cmdMapRemote 1 0 (ringE 0 65536 0)) (ringState []) (fun t =>
      tfind t.hif.maps (mapKey 0 0) == some ⟨MapKind.remote, 1, true, false, 0⟩) = true ∧
    leaves (.cmdGrant 1 0 (ringE 9 0 1)) (ringState []) (fun t => tfind t.hif.grants 5 == some ⟨0, 1, 9, [4]⟩ && t.hif.nextHandle == 6) = true ∧
    leaves (.cmdBadOpcode 1 0 (ringE 0 0 0)) (ringState []) (fun t => t.out.head? == some (.hostWrite 0 none 0x38 [2, 0, 0, 0, 0, 0, 0, 0])) = true ∧
    leaves (.cmdAlloc 1 0 { ringE 0 0 0 with count := 0 }) (ringState []) (fun t => t.hif.maps == (ringState []).hif.maps &&
      t.out.head? == some (.hostWrite 0 none 0x38 [3, 0, 0, 0, 0, 0, 0, 0])) = true := by decide
set_option maxRecDepth 100000 in
theorem test_cmdMapGrant : leaves (.cmdMapGrant 1 0 (ringE 0 7 0)) (ringState []) (fun t =>
    tfind t.hif.maps (mapKey 0 0) == some ⟨MapKind.grant, 4, true, false, 7⟩) = true := by decide
set_option maxRecDepth 100000 in
theorem test_ringEvent : leaves (.cmdBadOpcode 1 0 { ringE 0 0 0 with flags := 0x80 }) (ringState []) (counted 0x0F02 (ringState [])) = true := by
  decide

def waitingFence : List Deferred := [⟨0, 2, 0, ringE 9 0 0, 0⟩]

theorem wit_ringLater : (ringState waitingFence).ringReading 0 = true ∧ (ringState waitingFence).ringOpen 0 = true ∧ (ringE 0 8 0).bitsOk = true ∧
    (ringState []).allOwned 0 (ringE 9 0 0) = true ∧
    (ringState []).allUnmappable 0 (ringE 11 0 0) = true ∧ (ringState []).grantOf 8 = some ⟨0, 1, 9, [4]⟩ ∧
    (∃ d ∈ (ringState waitingFence).hif.deferred, d.ctx = 0) ∧ (∀ d ∈ (ringState []).hif.deferred, d.ctx ≠ 0) := by decide
set_option maxRecDepth 100000 in
theorem test_ringLater : leaves (.cmdFree 1 0 (ringE 9 0 0)) (ringState []) (fun t => t.out == [.hostRead 0 none 64 64] &&
      t.hif.deferred == [⟨0, 2, 0, ringE 9 0 0, 1 + 20 * usSteps⟩]) = true ∧
    leaves (.cmdUnmap 1 0 (ringE 11 0 0)) (ringState []) (fun t => t.hif.deferred == [⟨0, 6, 0, ringE 11 0 0, 1 + 20 * usSteps⟩]) = true ∧
    leaves (.cmdRevoke 1 0 (ringE 0 8 0)) (ringState []) (fun t => t.hif.deferred == [⟨0, 8, 0, ringE 0 8 0, 1 + 20 * usSteps⟩]) = true ∧
    leaves (.cmdFence 1 0 (ringE 0 0 0)) (ringState waitingFence) (fun t => t.hif.deferred.length == 2 && t.out == [.hostRead 0 none 64 64]) = true ∧
    leaves (.cmdFence 1 0 (ringE 0 0 0)) (ringState []) (fun t => t.out.head? == some (.hostWrite 0 none 0x38 [1, 0, 0, 0, 0, 0, 0, 0])) = true := by decide

theorem wit_translate : (ringState []).translate 0 (9 * 65536 + 2) true = .ok ⟨MapKind.loc, 4, true, true, 0⟩ ∧
    (ringState []).translate 0 (9 * 65536 + 2) false = .ok ⟨MapKind.loc, 4, true, true, 0⟩ := ⟨rfl, rfl⟩
theorem wit_aperture : (ringState []).apertureVa 0 (9 * 65536 + 2) = (0, 9 * 65536 + 2) ∧ (ringState []).ctxExists 0 = true ∧
    (ringState []).mapping 0 (12 * 65536) = none ∧ (ringState []).apertureVa 3 0 = (12, 0) ∧ (ringState []).ctxExists 12 = false := by
  decide
set_option maxRecDepth 100000 in
theorem test_aperture : leaves (.apertureWrite 1 0 (9 * 65536 + 2) [5, 6]) (ringState []) (fun t =>
      t.mem.dram == [(4 * 65536 + 2, 5), (4 * 65536 + 3, 6)] && t.mem.writeQ.map (·.block) == [4096]) = true ∧
    leaves (.apertureRead 1 0 (9 * 65536 + 2) 2) (ringState []) (fun t => t.out == [.readReply 0 true [0, 0]]) = true ∧
    leaves (.apertureWrite 1 0 (12 * 65536) [5]) (ringState []) (fun t => t.mem.dram.isEmpty && counted 0x0F03 (ringState []) t &&
      t.get (HIF_CTX_FAULT_LO.KIND 0) == 1) = true ∧
    leaves (.apertureRead 1 3 0 1) (ringState []) (fun t => t.out == [.readReply 3 false []] && counted 0x0F06 (ringState []) t) = true := by
  decide

/-- A memory of one channel group, trained, with bytes written in page 9. -/
def scrubState : State := ({ (liveState.wrN GLB_DEVICE_ID 0).with [(MEM_STATUS.TRAINED, 1)] with
  mem := { liveState.mem with dram := [(9 * 65536 - 1, 1), (9 * 65536, 2), (9 * 65536 + 65535, 3)] }
  cfg := { liveState.cfg with secs := [(secMemMap * 65536, [8, 1, 1, 0, 0, 0, 0, 0, 0, 6, 0, 0, 0, 1, 0, 0, 0, 0, 0, 0, 1, 0, 0, 0])] } })

theorem wit_scrub : scrubState.unscrubbed 9 = true ∧ scrubState.get MEM_STATUS.TRAINED = 1 := by decide
theorem test_pageScrubDone : leaves (.pageScrubDone 1 9) scrubState (fun t => t.mem.dram == [(9 * 65536 - 1, 1)] && t.freePages == [9]) = true := by
  decide

/-- A context with a quota of two layers, and in the second state layer 8 in its slot 1, enabled or not. -/
def quotaState (en : Nat) : State :=
  let s := ctxState.with [(HIF_CTX_LIMITS_0.LAYERS 0, 2), (HIF_CTX_LIMITS_0.LAYER_MAX 0, 2), (CMP_LYR_OWNER.HELD 8, 1)]
  ({ s with hif := { s.hif with slots := [(1, 8)] } }).actWr (CMP_LYR_CTRL 8) (BitVec.ofNat 32 en)

theorem wit_layers : (quotaState 0).ctxExists 0 = true ∧ (quotaState 0).layerAt 0 0 = none ∧ (quotaState 0).layerAt 0 1 = some 8 ∧
    (quotaState 1).actFlag (CMP_LYR_CTRL.EN 8) = true ∧ (quotaState 0).actFlag (CMP_LYR_CTRL.EN 8) = false := by decide
set_option maxRecDepth 1000000 in
theorem wit_layerQuota : ((quotaState 0).layersOf 0).length < (quotaState 0).get (HIF_CTX_LIMITS_0.LAYERS 0) ∧
    ((quotaState 0).layersOf 0).length < (quotaState 0).get (HIF_CTX_LIMITS_0.LAYER_MAX 0) ∧
    (quotaState 0).pickLayer false = some 9 ∧ (quotaState 0).pickLayer true = some 0 := by decide +kernel
set_option maxRecDepth 1000000 in
theorem wit_layerShared : (quotaState 0).heldBack < (quotaState 0).freeLayers.length := by decide +kernel
set_option maxRecDepth 1000000 in
theorem test_layerAllocate : leaves (.layerAllocate 1 0 0 false) (quotaState 0) (fun t => t.layerAt 0 0 == some 9 && t.holder 9 == some 0 &&
      t.rdN (HIF_CTX_LAYER_RESULT 0) == 9 * 256 + 65536) = true ∧
    leaves (.layerAllocate 1 0 0 true) (quotaState 0) (fun t => t.layerAt 0 0 == some 0) = true := by decide +kernel
set_option maxRecDepth 100000 in
theorem test_layerBound : leaves (.layerAllocate 1 0 1 false) (quotaState 0) (fun t => t.rdN (HIF_CTX_LAYER_RESULT 0) == 1 + 5 * 65536) = true ∧
    leaves (.layerRelease 1 0 1) (quotaState 1) (fun t => t.rdN (HIF_CTX_LAYER_RESULT 0) == 1 + 8 * 256 + 6 * 65536) = true := by decide +kernel
set_option maxRecDepth 100000 in
theorem test_layerRelease : leaves (.layerRelease 1 0 1) (quotaState 0) (fun t => t.layerAt 0 1 == none && t.holder 8 == none &&
    t.rdN (HIF_CTX_LAYER_RESULT 0) == 1 + 8 * 256 + 2 * 65536) = true := by decide +kernel

/-- Ceilings of function 0 by CTX_LIMITS: two contexts, 3 layers, 4 at most, 5 pages, a fetch of 6, outputs 3. -/
def limitState : State := { ctxState with cfg := { ctxState.cfg with
  secs := [(secCtxLimits * 65536, [7] ++ List.replicate 15 0 ++ [2, 3, 4, 0, 5, 0, 0, 0, 6, 0, 0, 0, 3, 0, 0, 0, 1] ++ List.replicate 15 0)] } }

theorem wit_limits : limitState.ctxLim 0 0 1 = 2 ∧ limitState.ctxLim 0 1 1 = 3 ∧ limitState.ctxLim 0 4 4 = 5 ∧ limitState.ctxLim 0 8 2 = 6 ∧
    limitState.ctxLim 0 12 4 = 3 ∧ 7 ≤ limitState.secLE secCtxLimits 0 0 1 := by decide
theorem test_ctxLimitsWrite : leaves (.ctxLimitsWrite 1 0 1 9) limitState (fun t => t.get (HIF_CTX_LIMITS_1.PAGES 0) == 5 &&
      counted 0x0F05 limitState t) = true ∧
    leaves (.ctxLimitsWrite 1 0 2 6) limitState (fun t => t.get (HIF_CTX_LIMITS_2.FETCH_RSV 0) == 6) = true ∧
    leaves (.ctxLimitsWrite 1 0 3 6) limitState (fun t => t.rdN (HIF_CTX_LIMITS_3 0) == 2) = true ∧
    leaves (.ctxLimitsWrite 1 2 0 0x80000404) limitState (fun t => t.rdN (HIF_CTX_LIMITS_0 2) == 0x403) = true ∧
    leaves (.vfEnable 1 7) limitState (fun t => t.get HIF_STATUS.NUM_VFS == 7) = true := by decide

/-- An event held for context 0's queue, whose tail is `tail` and whose head is 0. -/
def queueState (tail : Nat) : State :=
  let s := ctxState.with [(HIF_CTX_EVQ_TAIL.TAIL 0, tail)]
  ({ s with
    int := { s.int with held := [⟨0, 0, s.mkEvent 0x0F01 0 0 0 0⟩] }
    hif := { s.hif with queues := [(0, { QueueSt.init with unsignalled := 3 })], tags := [⟨1, true, 0, .ring 4⟩, ⟨2, false, 0, .fetch 3 1⟩], msix := [(3, 0), (19, 0)], winDemand := [(0, 5)] } }).wrN
    (HIF_CTX_EVQ_CFG 0) 0x00000106

theorem wit_queues : (queueState 63).queueWritable 0 = true ∧ (queueState 63).queueFull 0 = false ∧ (queueState 65536).queueFull 0 = true ∧
    (queueState 63).mayIssueHost 0 = true ∧ 0 < ((queueState 63).queue 0).unsignalled ∧ 0 < (queueState 63).tagCount 1 true ∧
    (queueState 63).heldBlocked 0 ≤ 64 ∧ (queueState 63).vecMasked 0 0 = false ∧ (queueState 63).vecMasked 0 4 = false ∧
    (queueState 63).vecMasked 0 5 = true ∧
    rsvPixels ((queueState 63).get (HIF_CTX_LIMITS_2.FETCH_RSV 0)) 40000 < 5 := by decide
theorem wit_timeout : (queueState 63).hif.tags.find? (fun x => x.fn == 2 && x.old == false && decide (x.time + completionSteps ≤ 0 + 50 * msSteps)) =
    some ⟨2, false, 0, .fetch 3 1⟩ := by decide
theorem wit_firstHeld : ((queueState 63).firstHeld 0).isSome = true := by decide
set_option maxRecDepth 100000 in
theorem test_eventQueueWrite : leaves (.eventQueueWrite (20 * usSteps) 0) (queueState 63) (fun t => t.queueTail 0 == 65536 &&
      t.int.held.isEmpty && t.out.length == 2) = true ∧
    leaves (.eventQueueWrite (20 * usSteps) 0) (queueState 65536) (fun t => t.queueTail 0 == 65536 && t.out == [.msix 0 4] &&
      (t.queue 0).overflow) = true := by decide
theorem test_doorbells : leaves (.cmdqDoorbell 1 0 4099) (queueState 63) (fun t => tfind t.hif.cmdTail 0 == some 3) = true ∧
    leaves (.cmdqDoorbell 1 5 1) (queueState 63) (fun t => counted 0x0F06 (queueState 63) t) = true ∧
    leaves (.evqDoorbell 1 devQ 0x10001) (queueState 63) (fun t => t.get HIF_DEVQ_HEAD.HEAD == 0x10001) = true ∧
    leaves (.evqDoorbell 1 0 7) (queueState 63) (fun t => (t.queue 0).head == 7) = true := by decide
theorem test_tags : leaves (.msixModTimeout 1 0) (queueState 63) (fun t => t.out == [.msix 0 0] && (t.queue 0).unsignalled == 0) = true ∧
    leaves (.staleCompletion 1 1) (queueState 63) (fun t => t.tagCount 1 true == 0 && t.get (HIF_FN_STATUS.STALE 1) == 1) = true ∧
    leaves (.hostCompletionTimeout completionSteps 2 false) (queueState 63) (fun t => t.hif.tags == [⟨1, true, 0, .ring 4⟩]) = true ∧
    leaves (.fetchWindowEnd 40000) (queueState 63) (fun t => t.hif.overPrev == [0] && t.hif.winStart == 40000) = true := by decide


/-! ### The memory system -/

/-- Trained stacks in one channel group without ECC; context 0 maps a local page, a HOST page and nothing else. -/
def memState (sr : Nat) (reqs : List MemReq) (pc : PcSt) : State := ({ (liveState.wrN GLB_DEVICE_ID 0) with
    cfg := { scrubState.cfg with imageRunning := true }
    hif := { liveState.hif with maps := (ringState []).hif.maps }
    mem := { liveState.mem with reqs := reqs, pcs := [(0, pc)] } }).with
  [(MEM_STATUS.TRAINED, 1), (MEM_STATUS.SR_STATE, sr), (HIF_STATUS.LINK_UP, 1), (HIF_FN_STATUS.ME 0, 1), (MEM_REFRESH_CFG.POSTPONE_MAX, 3)]
def mreq (issued rt : Bool) (dl : Nat) (host : Option Nat) : MemReq :=
  { engine := 0, index := 0, gen := false, addr := 0, len := 64, write := false, realTime := rt, deadline := some dl, missed := false, waits := [],
    ctx := 0, va := 0, time := 0, pc := 0, issued := issued, reissues := 1, hostFn := host }
def freshPc : PcSt := PcSt.init

set_option maxRecDepth 100000 in
theorem wit_memRequest : (memState 0 [] freshPc).mem.refusing = false ∧ (memState 0 [] freshPc).freeIndex 0 = some 0 ∧
    (memState 0 [] freshPc).localShapeOk ((⟨MapKind.loc, 4, true, true, 0⟩ : Mapping).dpa (9 * 65536 + 64)) 64 = true ∧
    (memState 0 [] freshPc).mayTag 0 = true ∧ (memState 0 [] freshPc).fnCanHost 0 = true ∧ (memState 0 [] freshPc).mapping 0 0 = none := by decide +kernel
theorem wit_memTranslate : (memState 0 [] freshPc).translate 0 (9 * 65536 + 64) true = .ok ⟨MapKind.loc, 4, true, true, 0⟩ ∧
    (memState 0 [] freshPc).translate 0 (11 * 65536) false = .ok ⟨MapKind.host, 7, true, true, 0⟩ := ⟨rfl, rfl⟩
set_option maxRecDepth 100000 in
theorem test_memRequest : leaves (.memRequest 1 0 0 (9 * 65536 + 64) 64 5 true 9) (memState 0 [] freshPc) (fun t =>
      (t.mem.reqs.map (fun r => (r.addr, r.index, r.issued))) == [(4 * 65536 + 64, 0, false)] && t.mem.writeQ.map (·.block) == [4097] &&
      tget 0 t.hif.winDemand 0 == 5) = true ∧
    leaves (.memRequest 1 0 0 (11 * 65536) 64 5 false 9) (memState 0 [] freshPc) (fun t => t.hif.tags == [⟨0, false, 1, .fetch 0 0⟩] &&
      t.out == [.hostRead 0 none (7 * 65536) 64] && t.mem.reqs.all (·.issued)) = true ∧
    leaves (.memRequest 1 0 0 0 64 5 false 9) (memState 0 [] freshPc) (fun t => t.mem.reqs.isEmpty &&
      counted 0x0F03 (memState 0 [] freshPc) t) = true := by decide +kernel

theorem wit_memCompletion : ((memState 0 [mreq true true 0 none] freshPc).mem.reqs.find? (fun q => q.engine == 0 && q.index == 0 && (memState 0 [] freshPc).mayComplete q)) =
      some (mreq true true 0 none) ∧ (memState 0 [] freshPc).dpaEcc 0 = false ∧
    ((memState 0 [mreq true true 0 (some 0)] freshPc).mem.reqs.find? (fun q => q.engine == 0 && q.index == 0 &&
      (memState 0 [] freshPc).mayComplete q)) = some (mreq true true 0 (some 0)) ∧ (memState 0 [] freshPc).mayComplete (mreq true true 0 none) = true ∧
    (memState 0 [] freshPc).eccOf (mreq true true 0 none) 1 < 2 ∧ (memState 0 [] freshPc).hif.tags = [] := by
  decide
/-- The same group with inline ECC. -/
def eccState (l : List MemReq) : State := { memState 0 l freshPc with cfg := { (memState 0 [] freshPc).cfg with
  secs := [(secMemMap * 65536, [8, 1, 1, 0, 0, 0, 0, 0, 0, 6, 1, 0, 0, 1, 0, 0, 0, 0, 0, 0, 1, 0, 0, 0])] } }
theorem wit_ecc : (eccState []).dpaEcc 0 = true ∧ (mreq true true 0 none).write = false ∧ (mreq true true 0 none).pc < 64 ∧
    ((eccState []).with [(MEM_CTRL.PATROL, 1)]).get MEM_CTRL.PATROL = 1 := by decide
theorem test_memCompletion : leaves (.memCompletion 1 0 0 0) (memState 0 [mreq true true 0 none] freshPc) (fun t => t.mem.reqs.isEmpty) = true ∧
    leaves (.memCompletion 1 0 0 0) (memState 0 [mreq true true 0 (some 0)] freshPc) (fun t => t.mem.reqs.isEmpty) = true ∧
    leaves (.memCompletion 1 0 0 2) (eccState [mreq true true 0 none]) (fun t => counted 0x0C01 (eccState []) t &&
      t.get (MEM_CTL_ECC.UE 0) == 1) = true ∧
    leaves (.deadlineMiss 1 0 0) (memState 0 [mreq true true 0 none] freshPc) (fun t => t.get (MEM_ENG_MISSES.COUNT 0) == 1) = true := by decide

theorem wit_pc : (memState 0 [] { freshPc with owed := 3 }).postponeMax ≤ ((memState 0 [] { freshPc with owed := 3 }).pcState 0).owed ∧
    ((memState 0 [] freshPc).pcState 0).owed < (memState 0 [] freshPc).postponeMax ∧ (memState 0 [] freshPc).mem.writeQ = [] ∧
    (memState 0 [] freshPc).waiting 0 = [] ∧ (memState 0 [mreq false true 0 none] freshPc).waiting 0 = [mreq false true 0 none] ∧
    (mreq false true 0 none).waits = [] ∧ (memState 0 [] freshPc).mem.tempNeed.contains 0 = false ∧
    (memState 0 [] { freshPc with overdueRaised := false }).get MEM_STATUS.SR_STATE = 0 ∧
    ((memState 0 [mreq false true 0 none] freshPc).waiting 0).any (·.realTime) = true ∧ (memState 0 [] freshPc).cal.sess = [] ∧
    ((memState 0 [] freshPc).pcState 0).lastWindow + 4 * (memState 0 [] freshPc).retrainMs * msSteps ≤
      (memState 0 [] freshPc).now + 4000 * msSteps ∧ 1 ≤ (mreq true true 0 none).reissues := by decide
theorem test_pcCommandIssue : leaves (.pcCommandIssue 1 0) (memState 0 [] { freshPc with owed := 3 }) (fun t => (t.pcState 0).owed == 2 &&
      t.get (MEM_CTL_REFRESH.FORCED 0) == 1) = true ∧
    leaves (.pcCommandIssue 1 0) (memState 0 [mreq false true 0 none] freshPc) (fun t => t.mem.reqs.all (·.issued)) = true ∧
    leaves (.pcCommandIssue 1 0) (memState 0 [] { freshPc with owed := 2 }) (fun t => (t.pcState 0).owed == 1) = true := by decide
theorem test_refreshDue : leaves (.refreshDue 15600 0) (memState 0 [mreq false true 0 none] freshPc) (fun t => (t.pcState 0).owed == 1) = true ∧
    leaves (.refreshDue 15600 0) (memState 0 [mreq false true 0 none] { freshPc with owed := 2 }) (fun t => (t.pcState 0).owed == 2 &&
      t.get (MEM_CTL_REFRESH.FORCED 0) == 1) = true := by decide
/-- A retraining window placed in the running LF. -/
def windowState (sr : Nat) : State :=
  let s := memState sr [] { freshPc with owed := 2 }
  { s with seq := { s.seq with fab := [s.hbmWindow] } }
theorem wit_hbmWindow : (windowState 0).seq.fab.contains (windowState 0).hbmWindow = true ∧ (windowState 0).cal.sess = [] ∧
    (windowState 0).phaseInstant ((windowState 0).actGet SEQ_HBM_WIN.PHASE) ≤ 0 + 1000 * msSteps ∧ (windowState 2).get MEM_STATUS.SR_STATE = 2 := by
  decide
set_option maxRecDepth 100000 in
theorem test_hbmRetrainWindow : leaves (.hbmRetrainWindow (1000 * msSteps)) (windowState 0) (fun t =>
    (t.pcState 0).lastWindow == 1000 * msSteps && (t.pcState 63).lastRetrain == 1000 * msSteps && (t.pcState 0).owed == 1) = true := by decide +kernel
theorem test_retrainOverdue : leaves (.retrainOverdue (4000 * msSteps) 0) (memState 0 [] freshPc) (fun t => (t.pcState 0).overdueRaised &&
    counted 0x0C03 (memState 0 [] freshPc) t) = true := by decide
theorem test_parityError : leaves (.parityError 1 0 5 0 0) (memState 0 [mreq true true 0 none] freshPc) (fun t => (t.pcState 0).remap == [5] &&
    t.mem.reqs.all (fun r => r.reissues == 2 && !r.issued) && t.get (MEM_CTL_PARITY.ERRORS 0) == 1) = true := by decide

def trainState : State := { liveState with cfg := { liveState.cfg with imageRunning := true } }
/-- Stacks awake or asleep with every tolerance at its largest and the retraining window passed. -/
def sleepState (sr en : Nat) : State := { (memState sr [] freshPc).with ([(MEM_CTRL.SR_EN, en), (HIF_STATUS.STARTUP_DONE, 1),
    (MEM_SR_CFG.MIN_DWELL, 0)] ++ (List.range 48).map (fun e => (MEM_ENG_STATUS.TOL e, 65535))) with now := 300 * usSteps }

theorem wit_training : trainState.cfg.imageRunning = true ∧ trainState.get MEM_STATUS.TRAINED = 0 ∧ trainState.get MEM_STATUS.TRAIN_FAIL = 0 := by
  decide
set_option maxRecDepth 100000 in
theorem wit_sleep : (sleepState 0 1).get MEM_STATUS.SR_STATE = 0 ∧ ((sleepState 0 1).tick 1).sleepOk ((sleepState 0 1).now + 1 - (sleepState 0 1).dwell) = true ∧ (sleepState 0 1).mem.refusing = false ∧
    (sleepState 0 1).mem.idleSince + (sleepState 0 1).dwell ≤ (sleepState 0 1).now + 1 ∧
    ((sleepState 2 0).tick 1).wakeCause = 4 ∧ (sleepState 2 0).mem.refusing = false := by decide +kernel
set_option maxRecDepth 100000 in
theorem test_sleep : leaves (.selfRefreshEntry 1) (sleepState 0 1) (fun t => t.get MEM_STATUS.SR_STATE == 2 && !t.domOn 151) = true ∧
    leaves (.selfRefreshExit 1) (sleepState 2 0) (fun t => t.get MEM_STATUS.SR_STATE == 0 && t.domOn 144 &&
      t.get MEM_SR_STATUS.LAST_WAKE == 4) = true := by decide +kernel
set_option maxRecDepth 100000 in
theorem test_hbmTrainingDone : leaves (.hbmTrainingDone 1 true 0) trainState (fun t => t.get MEM_STATUS.TRAINED == 1 &&
      t.get HIF_STATUS.SCRUB_BUSY == 1 && (t.pcState 63).lastRetrain == 1) = true ∧
    leaves (.hbmTrainingDone 1 false 63) trainState (fun t => t.get MEM_STATUS.FAIL_PC == 63 && counted 0x0C04 trainState t) = true := by
  decide +kernel
theorem test_patrolScrub : leaves (.patrolScrub 1 128 2) ((eccState []).with [(MEM_CTRL.PATROL, 1)]) (fun t => t.mem.patrolAt == 128 &&
    t.get MEM_ECC_ADDR_LO.DPA_LOW == 2 && counted 0x0C01 (eccState []) t) = true := by decide
theorem test_stackTempRead : leaves (.stackTempRead msSteps 0 (some 85)) (memState 0 [] freshPc) (fun t => t.get (MEM_STACK_TEMP.TEMP 0) == 85 &&
      t.get (MEM_STACK_TEMP.BAND 0) == 1) = true ∧
    leaves (.stackTempRead msSteps 1 none) (memState 0 [] freshPc) (fun t => t.get (MEM_STACK_TEMP.READ_FAIL 1) == 1 &&
      tget 0 t.mem.tempFails 1 == 1) = true := by decide


/-! ### Latched reads, commits and the LF boundary -/

theorem wit_latch : (lookupReg GLB_UID_LO).any (·.pairLow) = true ∧ liveState.readAt 0 GLB_UID_LO = some GLB_UID_LO ∧
    liveState.readAt 0 (GLB_UID_LO + 4) = some (GLB_UID_LO + 4) ∧ liveState.readAt 0 GLB_SYSTIME_LO = some GLB_SYSTIME_LO ∧ (lookupReg (LAN_LANE_PRBS_BITS_LO 143)).any (·.pairLow) = true ∧
    tfind ({ liveState with glb := { liveState.glb with latchHi := [(8, 7)] } }).glb.latchHi 8 = some 7 := by decide
theorem test_latch : leaves (.latchedPairRead 1 ⟨0, GLB_UID_LO, 4⟩) (liveState.wrN GLB_UID_HI 9) (fun t => t.readReg GLB_UID_HI == 9) = true ∧
    leaves (.latchedPairRead secSteps ⟨0, GLB_SYSTIME_LO, 4⟩) liveState (fun t => t.readReg GLB_SYSTIME_HI == 1) = true ∧
    leaves (.latchedPairRead 1 ⟨0, (GLB_UID_LO + 4), 4⟩) { liveState with glb := { liveState.glb with latchHi := [(8, 7)] } } (fun t =>
      t.out == [.readReply 0 true [7, 0, 0, 0]] && t.glb.latchHi.isEmpty) = true := by decide

/-- A started device on which context 0 has one commit, in the all-or-nothing group 0 or not. -/
def commitState (aon : Nat) (admitted decided : Bool) : State :=
  let s := ctxState.with [(HIF_STATUS.STARTUP_DONE, 1), (HIF_GROUP_CTRL.AON 0, aon), (HIF_GROUP_CTRL.WAIT_MAX 0, 2), (HIF_CTRL.PF_GROUP, 1),
    (HIF_CTX_LIMITS_0.GROUP 1, 1), (HIF_CTX_LIMITS_0.GROUP 4, 1), (HIF_CTX_COMMIT_STATUS.STATE 0, 1)]
  { s with
    seq := { s.seq with fab := [{ kind := .commit, lfn := 5, unit_ := 0, slot := 0, line := 0 }] }
    tim := { s.tim with lfn := 5, bootLf := false }
    hif := { s.hif with commits := [(0, ⟨admitted, decided, 3, none, []⟩)] } }

theorem wit_commit : ctxState.commits? 0 = true ∧ ctxState.commits? pfCommit = true ∧ ctxState.cm 0 = none ∧ ctxState.commits? 5 = false ∧
    lfnAfter ((ctxState.wrN (HIF_CTX_COMMIT_TARGET 0) 7).rdN (cmReg 0 + 4)) ctxState.tim.lfn = true ∧
    lfnAfter ((ctxState.wrN (HIF_CTX_COMMIT_TARGET 0) 0xFFFFFFFF).rdN (cmReg 0 + 4)) ctxState.tim.lfn = false ∧
    (commitState 0 false false).cm 0 = some ⟨false, false, 3, none, []⟩ ∧ (commitState 0 false false).aonOf ((commitState 0 false false).cmGroup 0) = false ∧
    (commitState 1 false false).aonOf ((commitState 1 false false).cmGroup 0) = true ∧ (commitState 1 false false).joined = false ∧
    (commitState 1 true false).get (HIF_GROUP_CTRL.WAIT_MAX 0) ≤ (commitState 1 true false).groupWait 0 ∧
    (commitState 1 true false).groupPending 0 = [0] ∧ (commitState 0 true false).now ≤ (commitState 0 true false).decisionInstant ∧
    (commitState 0 true false).seq.fab.contains (commitState 0 true false).commitPoint = true := by decide
set_option maxRecDepth 1000000 in
theorem wit_commitAdmits : ((commitState 0 false false).tick 1).localCause 0 = nrNone := by decide +kernel
set_option maxRecDepth 1000000 in
theorem wit_commitGroup : (commitState 1 false false).members 0 = [0] := by decide +kernel
set_option maxRecDepth 1000000 in
theorem wit_commitGroupAdmits : ((commitState 1 false false).tick 1).groupAdmits 0 = true := by decide +kernel
set_option maxRecDepth 1000000 in
theorem test_commitRequest : leaves (.commitRequest 1 0 false 77) ctxState (fun t => t.cm 0 == some ⟨false, false, 0xFFFFFFFF, none, []⟩ &&
      t.get (cmState 0) == 1 && t.get (cmStTag 0) == 77) = true ∧
    leaves (.commitRequest 1 0 true 77) (ctxState.wrN (HIF_CTX_COMMIT_TARGET 0) 0xFFFFFFFF) (fun t => t.cm 0 == none && t.get (cmState 0) == 4 &&
      t.get (cmReason 0) == 3 && counted 0x0F01 ctxState t) = true ∧
    leaves (.commitRequest 1 0 false 7) (commitState 0 true false) (fun t => counted 0x0F06 (commitState 0 true false) t) = true := by decide +kernel
set_option maxRecDepth 1000000 in
theorem test_commitCancel : leaves (.commitCancel 1 0) (commitState 0 false false) (fun t => t.cm 0 == none && t.get (cmState 0) == 5 &&
    counted 0x0F01 (commitState 0 false false) t) = true := by decide +kernel
set_option maxRecDepth 1000000 in
theorem test_commitAdmit : leaves (.commitAdmit 1 0) (commitState 0 false false) (fun t => t.isAdmitted 0 && t.get (cmState 0) == 2) = true ∧
    leaves (.commitAdmit 1 0) (commitState 1 false false) (fun t => t.isAdmitted 0 && t.get (cmState 0) == 2) = true := by decide +kernel
set_option maxRecDepth 1000000 in
theorem test_groupTimeout : leaves (.groupTimeout 1 0) (commitState 1 true false) (fun t => t.cm 0 == none && t.get (cmState 0) == 4 &&
    t.get (cmReason 0) == 1) = true := by decide +kernel
set_option maxRecDepth 1000000 in
theorem test_commitDecisionPoint : leaves .commitDecisionPoint (commitState 0 true false) (fun t =>
    t.now == (commitState 0 true false).decisionInstant && (t.cm 0).any (·.decided)) = true := by decide +kernel
theorem wit_lfBoundary : (commitState 0 true true).live = true ∧ (commitState 0 true true).cm 0 = some ⟨true, true, 3, none, []⟩ ∧
    (commitState 0 true true).cfg.reloadReady = false ∧ (commitState 0 true true).hif.resetting = [] ∧ State.reset.live = false := by decide


/-! ### Forming, planes and the plane store -/

/-- A started device on which layer 3 of context 0 spans output 0, of 2 × 1 pixels with a full plane copy, whose passes are given. -/
def picState (l : List Pass) : State :=
  let s := liveState.inForce [(HIF_STATUS.STARTUP_DONE, 1), (CMP_LYR_OWNER.HELD 3, 1), (CMP_LYR_CTRL.EN 3, 1), (CMP_LYR_OUTPUTS.MASK 3, 1),
    (CMP_OUT_CUT.EXISTS 0, 1), (CMP_OUT_INFO.W_M1 0, 1), (PLN_OUT_CFG.MODE 0, 1), (PLN_OUT_CFG.BANK_MASK 0, 1), (PLN_OUT_SEGS.SEGS_PER_BANK 0, 1),
    (PLN_CTRL.SCRUB_EN, 1), (PLN_CTRL.REPAIR_EN, 1), (PLN_STATUS.SPARE_ROWS, 3)]
  { s with
    cfg := { s.cfg with imageRunning := true }
    cmp := { s.cmp with passes := if l.isEmpty then [] else [(0, l)] } }

def aPass (running complete : Bool) : Pass :=
  { kind := .commit, commits := [], running := running, complete := complete, throttle := false, missing := [], skip := [], gone := [],
    leads := [], voided := false, started := 0 }

set_option maxRecDepth 1000000 in
theorem wit_picture : (picState []).live = true ∧ (picState []).cfg.safeIdle = false ∧ (picState []).spans [] 3 = [0] ∧
    (picState []).tailOn 0 = false ∧ (picState []).get THM_STATUS.STATE = 0 ∧ (picState [aPass true true]).passesOf 0 = [aPass true true] ∧
    (picState []).spans [] 4 = [] ∧ (picState []).slicesOn 0 = true ∧
    (picState []).givesWay { aPass true false with complete := true } [] = false ∧ (picState [aPass true false]).fetches 0 = true := by decide +kernel
set_option maxRecDepth 1000000 in
theorem test_layerLive : leaves (.layerLiveWrite 1 255 true) (picState []) (fun t => t.get (CMP_LYR_LIVE.LIVE 255) == 1) = true := by decide
set_option maxRecDepth 1000000 in
theorem test_layerUpdate :
    leaves (.layerUpdate 1 3) (picState [aPass true true]) (fun t => t.passesOf 0 == [aPass true true, { aPass false false with kind := .update, started := 1 }] &&
      t.get (CMP_LYR_LIVE.UPDATE 3) == 1) = true ∧
    leaves (.layerUpdate 1 4) (picState []) (fun t => t.cmp == (picState []).cmp && t.now == 1) = true := by decide +kernel
set_option maxRecDepth 1000000 in
theorem wit_layerUnderrun : (picState [aPass true false]).takesPart [] 3 0 = true ∧ (picState [aPass true false]).isOff 3 0 = false ∧
    0 < (picState [aPass true false]).outH 0 ∧ (picState [aPass true false]).sflag [] (CMP_LYR_CTRL.COHERENT 3) = false := by decide +kernel
set_option maxRecDepth 1000000 in
theorem test_layerUnderrun : leaves (.layerUnderrun 1 3 0 0 2) (picState [aPass true false]) (fun t => counted 0x0B01 (picState []) t &&
      t.get (CMP_LYR_STATUS.OFFS 3) == 1 && (tfind t.cmp.offs (offKey 3 0)).map (fun x => (x.cause, x.remote)) == some (offHostLost, false) &&
      (t.passesOf 0).map (·.missing) == [[3]]) = true := by decide +kernel

/-- The PF's commit waits for a load of a kind into slot 0, with one page of memory of context 0 mapped at 0. -/
def tableState (k : TableKind) (retried build : Bool) : State :=
  let s := picState []
  { s with
    hif := { s.hif with
      maps := [(mapKey 0 0, ⟨MapKind.loc, 3, true, true, 0⟩)]
      pages := [(3, 0)] }
    cmp := { s.cmp with loads := [⟨k, 0, false, false, false, retried, build⟩] } }

def bookState (build : Bool) : State := (tableState .book false build).with [(PLN_SET_CTRL.EN 5, 1), (PLN_SET_CTRL.PLANES 5, 2), (PLN_SET_CTRL.QB 5, 2),
  (PLN_SET_W.WEIGHT 5 0, 1), (PLN_SET_W.WEIGHT 5 1, 2)]
set_option maxRecDepth 1000000 in
theorem wit_tableLoad : ((bookState false).cmp.loads.find? (fun l => decide (l.kind = .book) && l.index == 0 && !l.build && !l.loaded &&
      !l.waits)).isSome = true ∧
    ((((bookState false).tick 1).vread 0 0 16).filter (tableOk .book)).isSome = true := by decide +kernel
set_option maxRecDepth 1000000 in
theorem test_tableLoad : leaves (.tableLoadDone 1 4 0 false) (bookState false) (fun t => t.get (loadFailFld .book 0) == 0 &&
      t.cmp.loads.all (·.loaded) && tfind t.pln.bookBack 0 == some [0, 0, 0, 0]) = true ∧
    leaves (.tableLoadDone 1 5 0 true) (tableState .mask true false) (fun t => t.get (loadFailFld .mask 0) == 1 &&
      t.cmp.loads == [⟨.mask, 0, false, true, true, true, false⟩] && counted 0x0904 (picState []) t) = true ∧
    leaves (.tableLoadDone 1 5 0 true) (tableState .mask false false) (fun t => t.cmp.loads == [⟨.mask, 0, false, false, false, true, false⟩]) = true ∧
    leaves (.tableLoadDone 1 2 0 true) (tableState .dec true false) (fun t => t.get (loadFailFld .dec 0) == 1 && counted 0x0A04 (picState []) t) = true := by
  decide +kernel

set_option maxRecDepth 1000000 in
theorem wit_bookBuild : (bookState true).slotSet [pfCommit] 0 = some 5 ∧ (bookState true).setLoaded [pfCommit] 5 = false := by decide +kernel
set_option maxRecDepth 1000000 in
theorem test_bookBuild : leaves (.bookBuildDone 1 0) (bookState true) (fun t => t.cmp.loads.all (·.loaded) && !t.flag PLN_STATUS.BUILD_BUSY &&
    tfind t.pln.bookBack 0 == some (mainBook [1, 2] 2).entries && thas t.pln.throttleBack 0) = true := by decide +kernel

set_option maxRecDepth 1000000 in
theorem test_formingPassDone : leaves (.formingPassDone 1 0) (picState [aPass true false]) (fun t => t.passesOf 0 == [aPass true true] &&
    t.get (PLN_OUT_STATUS.BACK_COMPLETE 0) == 1) = true := by decide +kernel
def tailState : State :=
  let s := (picState []).with [(PLN_OUT_CFG.MODE 0, 2), (PLN_OUT_STATUS.TAIL 0, 1)]
  { s with pln := { s.pln with
      tailRunning := [0]
      tailPass := [(0, aPass true true)]
      zeroed := true } }
set_option maxRecDepth 1000000 in
theorem test_tailDone : leaves (.tailDone 1 0) tailState (fun t => t.pln.tailRunning == [] && !thas t.pln.tailPass 0 &&
    t.get (PLN_OUT_STATUS.TAIL 0) == 0) = true := by decide +kernel
set_option maxRecDepth 1000000 in
theorem test_writeback : leaves (.writebackDone 1 19 false) { picState [] with cmp := { (picState []).cmp with wb := [⟨19, false, [], true, 7, 9⟩] } }
      (fun t => t.rdN (CMP_OUT_WB_CFN 19) == 7 && t.flag (CMP_OUT_WB_STATUS.DONE 19) && t.get (CMP_OUT_WB_STATUS.FRAMES 19) == 1 && t.cmp.wb == [] &&
        counted 0x0B04 (picState []) t) = true ∧
    leaves (.writebackDone 1 19 true) { picState [] with cmp := { (picState []).cmp with wb := [⟨19, false, [], true, 7, 9⟩] } }
      (fun t => t.flag (CMP_OUT_WB_STATUS.INCOMPLETE 19) && counted 0x0B05 (picState []) t) = true := by decide +kernel

/-- The store with one row of bank 0 that has shown errors. -/
def storeState (r : RowSt) : State := { picState [aPass true true] with pln := { (picState []).pln with
    zeroed := true
    rows := [(rowKey 0 4, r)] } }
set_option maxRecDepth 1000000 in
theorem wit_store : (storeState RowSt.init).lineOutput 0 511 = some (0, 511) ∧ (storeState RowSt.init).rowsDue < (storeState RowSt.init).get PLN_STATUS.SPARE_ROWS ∧
    (storeState RowSt.init).tailAhead 0 511 = false ∧ (storeState RowSt.init).flag PLN_CTRL.SCRUB_EN = true ∧
    ((storeState { RowSt.init with dead := true }).rowSt 0 4).dead = true := by decide +kernel
set_option maxRecDepth 1000000 in
theorem test_storeZero : leaves (.storeZeroDone 1) (picState []) (fun t => t.pln == { (picState []).pln with zeroed := true }) = true := by decide +kernel
set_option maxRecDepth 1000000 in
theorem test_storeScrub : leaves (.storeScrub 1 [⟨false, 0, 4, 511, 0, 0⟩]) (storeState { RowSt.init with ceTimes := [0, 0, 0, 0, 0, 0, 0] }) (fun t => t.get PLN_ECC.CE == 1 &&
      (t.rowSt 0 4).dead) = true ∧
    leaves (.storeScrub 1 [⟨true, 0, 4, 511, 0, 0⟩]) (storeState { RowSt.init with ue := 1 }) (fun t => t.get PLN_ECC.UE == 1 &&
      counted 0x0901 (picState []) t && (t.rowSt 0 4).dead && (t.rowSt 0 4).ue == 2 && (t.passesOf 0).any (fun q => q.kind == .rewrite)) = true ∧
    leaves (.spareRowCopyDone 1 0 4) (storeState { RowSt.init with dead := true }) (fun t => (t.rowSt 0 4).copied) = true := by decide +kernel


/-! ### Laxus systems -/

/-- A member of a Laxus system in a phase, with the identity 5, whose LXS_CFG uses ports 0 and 1 and allows a system of one and
automatic promotion. -/
def laxState (ph : Nat) (l : List (Fld × Nat)) : State :=
  let s : State := { liveState with cfg := { liveState.cfg with secs := [(secLxsCfg * 65536, [3, 7, 5, 0, 0, 0, 0, 0])] } }
  (((s.wrN GLB_UID_LO 5).wrN GLB_UID_HI 0).wrN LXS_ROOT_LO 5).with ([(LXS_STATUS.PHASE, ph), (LXS_STATUS.PARENT_PORT, 7), (LXS_PORT_CFG.USED 0, 1)] ++ l)

/-- Whether a message of a class and a type waits for a lane of port j that did not before. -/
def sent (j cls ty : Nat) (s t : State) : Bool :=
  ((t.lxLane (s.msgLane j cls)).waiting.drop (s.lxLane (s.msgLane j cls)).waiting.length).any (fun m => m.ty == ty)

/-- One second after. -/
def later : Nat := secSteps

def trainedPort : State := laxState 1 [(LXS_PORT_STATE.STATE 0, lxTrain), (LAN_LANE_STATE.STATE 136, lnData), (LAN_LANE_STATE.STATE 137, lnData)]
set_option maxRecDepth 100000 in
theorem wit_lxsPort : trainedPort.lxState 0 = lxTrain ∧ trainedPort.lxDataLanes 0 = [136, 137] ∧
    ([136, 137].filter (fun l => trainedPort.laneState l != lnFenced)).length = 2 ∧ trainedPort.uid = 5 ∧ trainedPort.lxUsed 0 = true ∧
    laneIsLaxus 136 = true ∧ trainedPort.slotSteps 136 64 ≤ later ∧ trainedPort.isMember = true := by decide +kernel
set_option maxRecDepth 100000 in
theorem test_lxsPortTrained : leaves (.lxsPortTrained 1 0 9) trainedPort (fun t => t.lxState 0 == lxHello && t.flag (LXS_PORT_STATE.WIDTH 0) &&
      t.rdN (LXS_PORT_NEIGH_LO 0) == 9 && t.get LXS_STATUS.PHASE == 2 && sent 0 3 1 trainedPort t) = true ∧
    leaves (.lxsPortTrained 1 0 5) trainedPort (fun t => t.lxState 0 == lxFault && t.get (LXS_PORT_STATE.FAULT 0) == 2 &&
      counted 0x0803 trainedPort t) = true := by decide +kernel
set_option maxRecDepth 100000 in
theorem test_lxsPortFaultRetry : leaves (.lxsPortFaultRetry later 0) (laxState 2 [(LXS_PORT_STATE.STATE 0, lxFault)]) (fun t =>
      t.lxState 0 == lxTrain) = true ∧
    leaves (.lxsPortFaultRetry later 0) (laxState 2 [(LXS_PORT_STATE.STATE 0, lxFault), (LXS_PORT_STATE.FAULT 0, 2)]) (fun t =>
      t.lxState 0 == lxFault) = true := by decide +kernel
def unackedState : State := trainedPort.setLxLane 136 { LxsLane.init with acked := 7, hist := [⟨7, [], []⟩, ⟨8, [], []⟩] }
set_option maxRecDepth 100000 in
theorem test_linkAckTimeout : leaves (.linkAckTimeout later 136) unackedState (fun t => (t.lxLane 136).again.map (·.fseq) == [8] &&
    (t.lxLane 136).since == later && t.get (LXS_PORT_REPLAYS.FRAMES 0) == 1) = true := by decide +kernel

/-- A device in the tree: port 0 to its parent 9, port 1 to a child 11. -/
def treeState (l : List (Fld × Nat)) : State :=
  let h : Hello := { id := 9, prio := 1, port := 2, started := true, root := 9, rootPrio := 1, hops := 0, sysid := 9, gen := 3, near := true }
  let s := (laxState 6 ([(LXS_PORT_STATE.STATE 0, lxUp), (LXS_PORT_STATE.STATE 1, lxUp), (LXS_PORT_STATE.CHILD 1, 1), (LXS_PORT_STATE.WIDTH 1, 1),
    (LXS_PORT_STATE.PARENT 0, 1), (LXS_STATUS.PARENT_PORT, 0), (LAN_LANE_STATE.STATE 136, lnData), (LXS_SYSID_LO.ID_LOW, 9),
    (LXS_STATION.VALID, 1), (LXS_STATION.STATION, 4), (LXS_PORT_CFG.USED 1, 1)] ++ l)).setLxPort 0 { LxsPort.init with hello := some h, asked := true }
  { s with
    tim := { s.tim with lfn := 100, bootLf := false }
    lxs := { s.lxs with
      root := 9
      rootPrio := 1
      hops := 1
      setOnce := true
      calm := 15
      reports := [(11, ⟨1, true, false, [5, 0, 0, 0], 7⟩)]
      reads := [(40, ⟨0, 40, 3, 0, 65536, 0⟩)] } }
/-- The same with another neighbour nearer to the root on port 1. -/
def twoWays : State := (treeState []).setLxPort 1 { (treeState []).lxPort 1 with
  hello := some { id := 11, prio := 1, port := 0, started := true, root := 9, rootPrio := 1, hops := 0, sysid := 9, gen := 3, near := true } }
set_option maxRecDepth 100000 in
theorem wit_tree : (treeState []).lxParent = some 0 ∧ (treeState []).childPorts = [1] ∧ (treeState []).upPorts = [0, 1] ∧
    (treeState []).isRoot = false ∧ (treeState []).lxStarted = true ∧ (treeState []).ownDevice = some 4 ∧ (treeState []).joined = true ∧
    (treeState []).nextHop 11 = some 0 ∧ (treeState []).sysid = 9 ∧
    (treeState []).pickParent (fun k h => k != 0 && h.sysid == 9 && decide (h.hops < 1) && h.root == 9) = none ∧
    (twoWays.pickParent (fun k h => k != 0 && h.sysid == 9 && decide (h.hops < 1) && h.root == 9)).map (·.1) = some 1 := by decide +kernel
set_option maxRecDepth 100000 in
theorem test_lxsRetrain : leaves (.lxsRetrain 1 1 70 3 true false) (treeState []) (fun t => t.lxState 1 == lxRetrain &&
      t.get (LXS_PORT_STATE.RETRAINS 1) == 1 && !t.flag (LXS_PORT_STATE.WIDTH 1) && !t.flag (LXS_PORT_STATE.CHILD 1)) = true ∧
    leaves (.lxsRetrainDone 1 0) (treeState [(LXS_PORT_STATE.STATE 0, lxRetrain)] |>.setLxPort 0 { LxsPort.init with stopped := true }) (fun t => t.lxState 0 == lxUp) = true ∧
    leaves (.lxsRetrainDone later 0) (treeState [(LXS_PORT_STATE.STATE 0, lxRetrain)]) (fun t => t.lxState 0 == lxTrain) = true ∧
    leaves (.credit 1 1 5 6) (treeState []) (fun t => (t.lxPort 1).credReq == 5 && (t.lxPort 1).credResp == 6) = true := by decide +kernel

def electState (root : Nat) : State :=
  let h : Hello := { id := 9, prio := 1, port := 2, started := false, root := 9, rootPrio := 1, hops := 0, sysid := 0, gen := 0, near := true }
  let s := (laxState 2 [(LXS_PORT_STATE.STATE 0, lxUp), (LXS_PORT_STATE.STATE 1, lxHello)]).setLxPort 0 { LxsPort.init with hello := some h }
  { s with lxs := { s.lxs with
      root := root
      electing := true } }
set_option maxRecDepth 100000 in
theorem wit_elect : (electState 5).lxStarted = false ∧ ((electState 5).hellos.map (·.2)).find? (fun h => h.started && h.root == 5) = none ∧
    (electState 5).isMember = true ∧ ((electState 9).pickParent (fun _ h => h.root == 9)).isSome = true ∧ (electState 5).lxState 1 = lxHello ∧
    ((electState 5).lxPort 1).hello = none := by decide +kernel
set_option maxRecDepth 100000 in
theorem test_hello : leaves (.hello 1 1 7 2 0 false 7 2 0 0 0 true) (electState 5) (fun t => t.lxState 1 == lxUp && ((t.lxPort 1).hello).isSome &&
      t.rdN (LXS_PORT_NEIGH_LO 1) == 7 && t.lxs.electing && t.lxs.lastChange == 1 && sent 1 3 0x11 (electState 5) t) = true ∧
    leaves (.hello 1 1 7 2 0 true 7 2 3 1 0 true) (treeState [(LXS_PORT_STATE.STATE 1, lxHello)]) (fun t => t.lxState 1 == lxBlocked &&
      t.get (LXS_PORT_STATE.FAULT 1) == 3 && counted 0x0803 (treeState []) t && t.get (LXS_PORT_NEIGH_HI.HOPS 1) == 3) = true := by decide +kernel
set_option maxRecDepth 100000 in
theorem test_helloTimer : leaves (.helloTimer later) (electState 5) (fun t => t.lxs.lastHello == later && sent 0 3 1 (electState 5) t &&
    sent 1 3 1 (electState 5) t) = true := by decide +kernel
set_option maxRecDepth 100000 in
theorem test_electionComplete : leaves (.electionComplete later) (electState 5) (fun t => t.isRoot && t.get LXS_STATUS.PHASE == 4 &&
      t.rdN LXS_SYSID_LO == 5 && counted 0x0801 (electState 5) t && !t.lxs.electing) = true ∧
    leaves (.electionComplete later) (electState 9) (fun t => t.lxParent == some 0 && t.get LXS_STATUS.PHASE == 4 && t.lxs.hops == 1 &&
      sent 0 3 2 (electState 9) t && !t.isRoot) = true := by decide +kernel
set_option maxRecDepth 100000 in
theorem test_attach : leaves (.attach 1 0 false) (treeState []) (fun t => t.flag (LXS_PORT_STATE.CHILD 0) && counted 0x0802 (treeState []) t) = true ∧
    leaves (.attach 1 1 true) (treeState []) (fun t => !t.flag (LXS_PORT_STATE.CHILD 1) && t.lxs.reports == []) = true := by decide +kernel
set_option maxRecDepth 100000 in
theorem test_parentTimeout : leaves (.parentTimeout later) twoWays (fun t => t.lxParent == some 1 && t.lxs.hops == 1 &&
      !t.flag LXS_STATUS.CONVERGED && sent 1 3 2 twoWays t) = true ∧
    leaves (.parentTimeout later) (treeState []) (fun t => t.lxParent == none && t.lxs.root == 5 && t.gen == 1 &&
      t.lxs.electing) = true := by decide +kernel
set_option maxRecDepth 100000 in
theorem test_laxusAlone : leaves (.laxusAloneTimeout later) (laxState 1 []) (fun t => t.get LXS_STATUS.PHASE == 7 && t.isRoot &&
    t.get LXS_COUNT.DEVICES == 1 && t.lxs.root == 5) = true := by decide +kernel

set_option maxRecDepth 100000 in
theorem test_reportAssignReady : leaves (.report 1 1 12 true false 1 2 3 4 5) (treeState []) (fun t =>
      tfind t.lxs.reports 12 == some ⟨1, true, false, [1, 2, 3, 4], 5⟩ && sent 0 3 3 (treeState []) t) = true ∧
    leaves (.assign 1 0 11 6 true 8 200) (treeState []) (fun t => t.lxs.assigns == [⟨11, 6, true, 8, 200, true⟩] && sent 1 3 4 (treeState []) t) = true ∧
    leaves (.readyAll 1 0 8191 3) (treeState []) (fun t => t.lxs.readyAll && t.get LXS_COUNT.DEVICES == 8191 && t.get LXS_COUNT.SPARES == 3 &&
      sent 1 3 5 (treeState []) t) = true := by decide +kernel

/-- A root whose start-up conditions hold, with a child of identity 11 that has converged and no station. -/
def rootState (ph : Nat) (l : List (Fld × Nat)) : State :=
  let s := laxState ph ([(LXS_STATUS.ROOT, 1), (LXS_STATUS.CONVERGED, 1), (LXS_PORT_STATE.STATE 1, lxUp), (LXS_PORT_STATE.CHILD 1, 1),
    (CFG_STATUS.STATE, cfgRunning), (GLB_BOOT_STATUS.SELFTEST, 1), (MEM_STATUS.TRAINED, 1), (TIM_DPLL_STATUS.STATE, dpllLocked),
    (LXS_PROMOTE_ID_LO.ID_LOW, 11), (LXS_PROMOTE.STATION, 4)] ++ l)
  let h : Hello := { id := 11, prio := 1, port := 0, started := true, root := 5, rootPrio := 1, hops := 1, sysid := 5, gen := 0, near := true }
  let s := s.setLxPort 1 { s.lxPort 1 with hello := some h }
  { s with
    tim := { s.tim with lfn := 100, bootLf := false }
    pln := { s.pln with zeroed := true }
    cal := { s.cal with read := true }
    lxs := { s.lxs with
      reports := [(11, ⟨1, true, false, [5, 0, 0, 0], 7⟩)]
      epochs := [(4, 2)]
      gone := [(4, 0)]
      stations := [(5, 1)] } }
set_option maxRecDepth 100000 in
theorem wit_root : (rootState 4 []).treeReports.all (fun e => e.2.converged) = true ∧ ((rootState 4 []).tick later).localReady = true ∧
    tkeys (rootState 4 []).treeReports = [5, 11] ∧ (rootState 6 []).stationPresent 4 = false ∧ (rootState 6 []).spareIds = [11] ∧ (rootState 6 []).stationKnown 4 = true ∧
    (rootState 6 []).stationHolder 4 = none ∧ bitAt (lxsFlags (rootState 6 []).lxsCfg) 2 = true := by decide +kernel
set_option maxRecDepth 100000 in
theorem test_reportQuiet : leaves (.reportQuietTimeout later) (rootState 4 []) (fun t => t.get LXS_STATUS.PHASE == 5 &&
    t.lxs.assigns.any (fun a => a.id == 11)) = true := by decide +kernel
set_option maxRecDepth 100000 in
theorem test_promote : leaves (.lxsPromote 1) (rootState 6 []) (fun t => t.lxs.promoting &&
      t.lxs.assigns.any (fun a => a.id == 11 && a.station == 4 && a.valid && a.promo && a.epoch == 8)) = true ∧
    leaves (.lxsPromote 1) (treeState []) (fun t => t.get LXS_PROMOTE_STATUS.RESULT == 2) = true ∧
    leaves (.lxsPromote 1) (rootState 6 [(LXS_PROMOTE_ID_LO.ID_LOW, 99)]) (fun t => t.get LXS_PROMOTE_STATUS.RESULT == 3) = true ∧
    leaves (.lxsPromote 1) (rootState 6 [(LXS_PROMOTE.STATION, 4095)]) (fun t => t.get LXS_PROMOTE_STATUS.RESULT == 4) = true ∧
    leaves (.lxsPromote 1) { rootState 6 [] with lxs := { (rootState 6 []).lxs with promoting := true } } (fun t =>
      t.get LXS_PROMOTE_STATUS.RESULT == 5) = true ∧
    leaves (.autoPromote later 4) (rootState 6 []) (fun t => t.lxs.promoting && t.lxs.assigns.any (fun a => a.id == 11 && a.station == 4)) = true := by
  decide +kernel

set_option maxRecDepth 100000 in
theorem test_time : leaves (.time 1 0 (7 * 2 ^ 32) 0 5 101 0 3) (treeState []) (fun t => t.tim.sysBase == 7 * 2 ^ 32 && t.tim.sysT0 == 1 &&
      t.flag LXS_STATUS.CONVERGED && t.get LXS_TIME_ERR.OFFSET == 3 && t.tim.lfn == 100) = true ∧
    leaves (.time 1 0 (7 * 2 ^ 32) 0 5 101 0 3) { treeState [] with lxs := { (treeState []).lxs with setOnce := false } } (fun t =>
      t.lxs.setOnce && t.tim.lfn == 101 && t.get TIM_DPLL_STATUS.STATE == dpllAcquire) = true := by decide +kernel
set_option maxRecDepth 100000 in
theorem test_delays : leaves (.delayReq 1 1 65537) (treeState []) (fun t => sent 1 1 8 (treeState []) t) = true ∧
    leaves (.delayResp 1 0 0 (2 ^ 20) (2 ^ 20) (2 ^ 40)) (treeState []) (fun t => t.get (LXS_PORT_DELAY.LINK_PS 0) == 2 ^ 24 - 1) = true ∧
    leaves (.delayResp 1 0 (2 ^ 40) 0 0 0) (treeState []) (fun t => t.get (LXS_PORT_DELAY.LINK_PS 0) == 0) = true := by decide +kernel
set_option maxRecDepth 100000 in
theorem test_roles : leaves (.role 1 0 1 9 9) (treeState []) (fun t => (t.lxPort 0).answer == 3) = true ∧
    leaves (.role 1 1 1 9 9) (treeState []) (fun t => (t.lxPort 1).answer == 2) = true ∧
    leaves (.role 1 0 2 9 9) (treeState []) (fun t => t.lxs.swap == some 0) = true ∧
    leaves (.role 1 0 3 9 9) (treeState []) (fun t => t.lxs.swap == none && !(t.lxPort 0).asked) = true ∧
    leaves (.handover 1 1 11) (treeState []) (fun t => t.lxs.handover == some (11, 1) && sent 0 3 0x10 (treeState []) t) = true ∧
    leaves (.lxsTakeRoot 1) (treeState []) (fun t => t.lxs.handover == some (5, 7) && sent 0 3 0x10 (treeState []) t) = true := by decide +kernel

set_option maxRecDepth 100000 in
theorem test_drop : leaves (.drop 1 0 7 3 1 2 9) (treeState []) (fun t => t.lxs.drops == [(2 * 65536 + 9, 1)] && t.cmp.drops.length == 1 &&
      sent 1 2 0x0C (treeState []) t && !sent 0 2 0x0C (treeState []) t) = true ∧
    leaves (.drop 1 0 7 3 1 2 9) { treeState [] with lxs := { (treeState []).lxs with drops := [(2 * 65536 + 9, 0)] } } (fun t => t.cmp.drops == []) = true := by
  decide +kernel

/-- A device of the tree whose pages 2 of context 1 are granted to the PF's context 0 and exported at window page 8. -/
def exportState : State :=
  let s := (treeState []).with [(LXS_EXPORT_HANDLE.HANDLE, 6), (LXS_EXPORT_SRC.CTX, 1), (LXS_EXPORT_PAGE.PAGE, 8), (LXS_EXPORT_PAGES.PAGES, 1),
    (LXS_EXPORT_READER.ANY, 1)]
  { s with hif := { s.hif with
      grants := [(6, ⟨1, 0, 0, [2]⟩)]
      pages := [(2, 2)] } }
def boundState : State :=
  { exportState with
    lxs := { exportState.lxs with bindings := [(3, ⟨8, 1, 6, true, 0, 0⟩)] }
    mem := { exportState.mem with exports := [(8, (1, 6, 2))] } }
set_option maxRecDepth 100000 in
theorem wit_export : boundState.exportDpa (8 * 65536) 1 0 = some (2 * 65536) ∧ boundState.exportDpa 0 1 0 = none ∧ boundState.freeIndex 45 = some 0 := by
  decide +kernel
set_option maxRecDepth 100000 in
theorem test_exportBind : leaves (.lxsExportBind 1 1023) exportState (fun t => t.get LXS_EXPORT_STATUS.RESULT == 1 &&
      tfind t.lxs.bindings 1023 == some ⟨8, 1, 6, true, 0, 0⟩ && t.mem.exports == [(8, (1, 6, 2))]) = true ∧
    leaves (.lxsExportBind 1 1) (treeState []) (fun t => t.get LXS_EXPORT_STATUS.RESULT == 2) = true ∧
    leaves (.lxsExportBind 1 1) (exportState.with [(LXS_EXPORT_PAGES.PAGES, 2)]) (fun t => t.get LXS_EXPORT_STATUS.RESULT == 3) = true ∧
    leaves (.lxsExportBind 1 3) boundState (fun t => t.get LXS_EXPORT_STATUS.RESULT == 4) = true ∧
    leaves (.lxsExportUnbind 1 3) boundState (fun t => t.get LXS_EXPORT_STATUS.RESULT == 1 && t.lxs.bindings == []) = true ∧
    leaves (.lxsExportUnbind 1 4) boundState (fun t => t.get LXS_EXPORT_STATUS.RESULT == 5) = true := by decide +kernel
set_option maxRecDepth 100000 in
theorem test_readReq : leaves (.readReq 1 1 77 1 0 9 0 1 0 4) boundState (fun t => sent 0 5 0x0D boundState t && sent 1 3 0x11 boundState t) = true ∧
    leaves (.readReq 1 1 4 1 0 9 2 1 0 4) boundState (fun t => sent 0 4 0x0E boundState t && t.mem.reqs == []) = true ∧
    leaves (.readReq 1 1 4 1 0 9 2 1 (8 * 65536) 4) boundState (fun t => tfind t.lxs.serves (45 * 1024) == some ⟨1, 9, 1, 131072, 256, 45, [0, 1, 2, 3], false⟩ &&
      t.mem.reqs.map (fun r => (r.engine, r.addr, r.len, r.deadline)) ==
        [0, 1, 2, 3].map (fun i => (45, 131072 + 64 * i, 64, some 1601))) = true := by decide +kernel
set_option maxRecDepth 100000 in
theorem test_readResp : leaves (.readResp 1 0 4 40 3 1 []) (treeState []) (fun t => t.lxs.reads == [] && counted 0x0F03 (treeState []) t) = true ∧
    leaves (.readResp 1 0 4 40 2 0 [1]) (treeState []) (fun t => t.lxs.reads == (treeState []).lxs.reads) = true ∧
    leaves (.remoteReadTimeout later 40) (treeState []) (fun t => t.lxs.reads == [] && counted 0x0F03 (treeState []) t) = true := by decide +kernel

/-- A round for LFN 101 whose boundary has come near, on a device of the tree or on the root, with or without its own vote. -/
def roundState (s : State) (own : Bool) (votes : Tbl Vote) (missed : Nat) : State :=
  { s with lxs := { s.lxs with round := { RoundSt.init with
      target := some 101
      own := if own then some Vote.missing else none
      votes := votes
      missed := missed } } }
def noChild : State := (treeState []).with [(LXS_PORT_STATE.CHILD 1, 0)]
set_option maxRecDepth 100000 in
theorem wit_round : (rootState 6 []).roundRuns = false ∧ ((rootState 6 []).tick later).within 500 = true ∧
    (roundState noChild false [] 0).roundRuns = true ∧ (roundState (rootState 6 []) true [] 0).joint.isSome = true ∧
    noChild.childPorts = [] ∧ (treeState []).now + 1 ≤ (treeState []).decisionInstant := by decide +kernel
set_option maxRecDepth 1000000 in
theorem test_prepare : leaves (.prepareSend later) (rootState 6 []) (fun t => t.round.target == some 101 && sent 1 2 9 (rootState 6 []) t) = true ∧
    leaves (.prepare 1 0 101) (treeState []) (fun t => t.round.target == some 101 && sent 1 2 9 (treeState []) t) = true := by decide +kernel
set_option maxRecDepth 1000000 in
theorem test_vote : leaves (.votePoint later) (roundState noChild false [] 0) (fun t => t.round.own.isSome && t.round.sent &&
      sent 0 2 0x0A noChild t) = true ∧
    leaves (.vote 1 1 101 0 0 false 1 2 3) (roundState (treeState []) false [] 0) (fun t => tfind t.round.votes 1 == some ⟨0, 0, 1, 2, 3, false⟩) = true ∧
    leaves (.vote 1 1 102 0 0 false 1 2 3) (roundState (treeState []) false [] 0) (fun t => t.round.votes == []) = true ∧
    leaves (.voteDeadline later) (roundState (treeState []) true [] 0) (fun t => t.round.sent && t.get LXS_COMMIT.PARTIAL == 1 &&
      sent 0 2 0x0A (treeState []) t) = true := by decide +kernel
set_option maxRecDepth 1000000 in
theorem test_rootDecide : leaves (.rootDecide later) (roundState (rootState 6 []) true [] 1) (fun t => t.round.decision.isSome && t.round.missed == 0 &&
    sent 1 2 0x0B (rootState 6 []) t) = true := by decide +kernel
set_option maxRecDepth 1000000 in
theorem test_decision : leaves (.decision 1 0 101 0 1 0 0) (roundState (treeState []) true [] 1) (fun t =>
      t.round.decision == some ⟨101, 0, 1, 0, 0⟩ && t.round.missed == 0 && sent 1 2 0x0B (treeState []) t) = true ∧
    leaves (.decision later 0 101 0 1 0 0) (roundState (treeState []) true [] 1) (fun t => t.round.decision == none &&
      sent 1 2 0x0B (treeState []) t) = true := by decide +kernel
/-- The second round in a row is lost while a commit of an all-or-nothing group is admitted. -/
def lostState : State := roundState ({ (treeState []).with [(HIF_GROUP_CTRL.AON 0, 1), (HIF_CTX_COMMIT_STATUS.STATE 0, 2)] with
    hif := { (treeState []).hif with commits := [(0, ⟨true, false, 3, none, []⟩)] } }) true [] 1
set_option maxRecDepth 1000000 in
theorem test_commitRoundLost : lostState.aonOf (lostState.cmGroup 0) = true ∧ leaves (.commitRoundLost later) lostState (fun t => t.round.lost && t.round.missed == 2 &&
    t.get LXS_COMMIT.LOST == 1 && counted 0x0807 (treeState []) t && t.cm 0 == none) = true := by decide +kernel


/-! ### Schedules and array ports -/

def slotOf (plane load : Nat) : Slot :=
  { set := 0, plane := plane, prim := 0, load := load, period := 0, n := 0, cstep := 0, light := load + 1000, len := 1000, late := false, dark := false,
    view := 0, wclass := 0, tb := 0, w := 0, stepFrame := false }
def oneSched : Sched :=
  { cycle := 1, align := 0, lists := [[slotOf 1 1000000]], load := 500, span := 0, latches := [], refs := [], windows := [], eff := 0, light := 0, gain := 0,
    edgeDark := 0 }
def noSets : CompIn :=
  { sets := [], views := 0, wins := [], cams := [], p16 := 0, knee := 0, throttleLight := 16, samples := 1, cf := 0, static_ := none, ctrl := 0, mech := [], loadSteps := 0,
    chains := [], sensed := [], ir := none, transitNs := 0, scan := none }

/-- An array output 0 with a schedule in force and one port in a state, of two blocks, with a back channel and a local store. -/
def arrayState (st : Nat) (l : List (Fld × Nat)) : State :=
  let mech := List.replicate 10 0 ++ [10, 1, 2, 0, 0, 0, 64, 0, 0, 0, 2, 0, 0, 1] ++ List.replicate 8 0 ++ [0, 0, 1, 0]
  let s : State := { liveState with cfg := { liveState.cfg with secs := [(secArrayMech * 65536, mech)] } }
  let s1 := (s.wrN (TIM_OUT_SKEW 0) 0).inForce ([(APT_PORT_CFG.EXISTS 0, 1), (APT_PORT_STATE.STATE 0, st), (APT_PORT_STATE.ACTIVE_WIDTH 0, 1),
    (LAN_LANE_CFG.ROLE 0, 1), (LAN_LANE_STATE.STATE 0, lnData), (SEQ_OUT_SCHED.RUNNING 0, 5), (APT_PORT_CTRL.AUTO_RETRY 0, 1),
    (APT_PORT_CTRL.REPORTS 0, 5), (CMP_OUT_CUT.EXISTS 0, 1), (LAN_STATUS.REFCLK_OK, 3), (SEQ_OUT_CTRL.REPLAY_EN 0, 1), (SEQ_OUT_CTRL.STATIC_EN 0, 1),
    (CMP_OUT_INFO.H_M1 0, 1), (CMP_OUT_INFO.W_M1 0, 255)] ++ l)
  { s1 with
    tim := { s1.tim with lfn := 100, bootLf := false, darkLf := false }
    seq := { s1.seq with
      force := [(0, (noSets, ⟨oneSched, oneSched, oneSched, oneSched, some oneSched⟩))]
      replayLfs := [(0, 8)]
      stillLfs := [(0, 300)] } }
def slotEvent (k : FabKind) (lfn : Nat) : FabEvent := ⟨k, lfn, 0, 0, 0⟩
def heldEvents (l : List FabEvent) : State := { arrayState ptRun [] with seq := { (arrayState ptRun []).seq with fab := l } }

set_option maxRecDepth 100000 in
theorem wit_events : (arrayState ptRun []).withheld 2 0 = false ∧ ((arrayState ptRun []).eventInstant (slotEvent .planeLoad 100)).isSome = true ∧
    ((arrayState ptRun []).eventInstant (slotEvent .gateFall 100)).isSome = true ∧
    ((heldEvents [slotEvent .planeLoad 100]).tick later).eventDue (slotEvent .planeLoad 100) = true ∧
    ((heldEvents [slotEvent .reset 100]).tick later).eventDue (slotEvent .reset 100) = true := by decide +kernel
def highState : State := { arrayState ptRun [] with lmp := { (arrayState ptRun []).lmp with gates := [(0, ⟨0, 0, 0, 0⟩)] } }
set_option maxRecDepth 100000 in
theorem test_eventDelivery : leaves (.eventDelivery later (slotEvent .planeLoad 100)) (arrayState ptRun []) (fun t =>
      t.get SEQ_LATE.COUNT == 1 && counted 0x0402 (arrayState ptRun []) t && t.seq.fab == [] && t.apt.suppressed == [readyKey 0 0 100]) = true ∧
    leaves (.eventDelivery later (slotEvent .gateFall 100)) highState (fun t => t.seq.fab == [] && t.lmp.gates == [] &&
      t.out == [.gate 0 false] && t.get SEQ_LATE.COUNT == 0) = true ∧
    leaves (.eventDelivery 1 (slotEvent .planeLoad 100)) (arrayState ptRun []) (fun t => t.seq.fab == [slotEvent .planeLoad 100]) = true := by decide +kernel

def jobState (i : CompIn) : State := { arrayState ptRun [] with seq := { (arrayState ptRun []).seq with running := [⟨0, 0, 0, i⟩] } }
def okInput : CompIn := { noSets with
  mech := (arrayState ptRun []).mechOf 0
  transitNs := mechTransit ((arrayState ptRun []).mechOf 0) }
/-- An input whose one set, of one plane, no chain serves. -/
def badInput : CompIn := { okInput with sets := [{ set := 0, prim := 0, views := 0, weights := [1000], drop := 0, tb := 0, step := 0 }] }
set_option maxRecDepth 100000 in
theorem wit_compile : (jobState okInput).windows = [] ∧ (compile okInput).toOption.isSome = true ∧ (compile badInput).toOption = none := by decide +kernel
set_option maxRecDepth 100000 in
theorem test_compile : leaves (.compileStart 1 0) { arrayState ptRun [] with seq := { (arrayState ptRun []).seq with queue := [(3, 0), (0, 1)] } } (fun t =>
      t.seq.queue == [(3, 0)] && t.seq.running.map (fun j => (j.out, j.kind, j.start)) == [(0, 1, 1)] && t.flag SEQ_SCHED_STATUS.BUSY) = true ∧
    leaves (.compileDone 1 0) (jobState okInput) (fun t => (tfind t.seq.done 0).any (fun d => d.time == 1) && t.seq.running == []) = true ∧
    leaves (.compileDone 1 0) (jobState badInput) (fun t => tfind t.seq.rejected 0 == some badInput && counted 0x0401 (jobState badInput) t &&
      t.seq.running == []) = true ∧
    leaves (.compileDone 1 0) (jobState { okInput with wins := [⟨0, 1, 0, 0, 0⟩] }) (fun t => t.seq.running.any (fun x => x.out == 0 && x.kind == 0)) = true := by
  decide +kernel
set_option maxRecDepth 100000 in
theorem wit_cadence : (arrayState ptRun []).staticAllowed 0 = true ∧ (arrayState ptRun []).passQueued 0 = false ∧ (arrayState ptRun []).replayOk 0 = true ∧
    (arrayState ptRun []).actGet (SEQ_OUT_CTRL.STATIC_DELAY 0) ≤ 300 := by decide +kernel
set_option maxRecDepth 100000 in
theorem test_cadence : leaves (.staticEnter 1 0) (arrayState ptRun []) (fun t => t.seq.staticStart == [0]) = true ∧
    leaves (.replayEnter 1 0) (arrayState ptRun []) (fun t => t.seq.replayStart == [0]) = true := by decide +kernel

def bothEvents : List FabEvent := [slotEvent .planeLoad 100, slotEvent .reset 100]
/-- Less than 1 µs before the load, with more than 1 µs left before its reset. -/
def beforeLoad : Nat := 1651700
set_option maxRecDepth 100000 in
theorem wit_never : ((heldEvents bothEvents).tick beforeLoad).readyBlocks 0 0 100 0 1 0 0 = 3 ∧ ((heldEvents []).tick beforeLoad).readyBlocks 0 0 100 0 1 0 0 = 0 ∧
    (heldEvents []).portsOf 0 = [0] ∧ slotPlane (slotOf 1 0) 100 = some 1 ∧ slotPlane { slotOf 1 0 with tb := 1 } 101 = none := by decide +kernel
set_option maxRecDepth 100000 in
theorem test_loadDeadline : leaves (.loadDeadline beforeLoad 0 0 100 0 0) (heldEvents bothEvents) (fun t => tfind t.apt.ready (readyKey 0 0 100) == some 3 &&
      t.apt.suppressed == []) = true ∧
    leaves (.loadDeadline beforeLoad 0 0 100 0 0) (heldEvents []) (fun t => tfind t.apt.ready (readyKey 0 0 100) == some 0 &&
      t.apt.suppressed == [readyKey 0 0 100] && counted 0x0501 (heldEvents []) t) = true := by decide +kernel
def darkState : State := { heldEvents bothEvents with tim := { (heldEvents []).tim with darkLf := true } }
set_option maxRecDepth 100000 in
theorem test_darkDeadline : leaves (.loadDeadline beforeLoad 0 0 100 0 0) darkState (fun t => tfind t.apt.ready (readyKey 0 0 100) == some 0 &&
      t.apt.suppressed == [readyKey 0 0 100]) = true ∧
    leaves (.loadDeadline beforeLoad 0 0 100 0 0) ((heldEvents bothEvents).with [(SEQ_OUT_SCHED.REPLAYING 0, 1)]) (fun t =>
      t.apt == (heldEvents []).apt && t.out == []) = true := by decide +kernel
def readyState : State := { heldEvents bothEvents with apt := { (heldEvents []).apt with
    ready := [(readyKey 0 0 100, 3)]
    loading := [(0, (0, 2 * later))] } }
set_option maxRecDepth 100000 in
theorem test_loads : leaves (.planeLoadStart later 0 0 []) readyState (fun t => (tfind t.apt.loading 0).map (·.1) == some 0 &&
      t.seq.fab == [slotEvent .reset 100]) = true ∧
    leaves (.planeLoadStart later 0 0 []) (heldEvents bothEvents) (fun t => t.apt == (heldEvents []).apt && t.seq.fab == [slotEvent .reset 100]) = true ∧
    leaves (.mirrorReset later 0 0) readyState (fun t => t.apt.loading == [] && t.seq.fab == [slotEvent .planeLoad 100]) = true := by decide +kernel
def teState : State := readyState.with [(APT_PORT_CFG.TE_PIN 0, 1), (APT_PORT_CFG.TE_INDEX 0, 9), (APT_PORT_STATE.TE_OPEN 0, 1)]
set_option maxRecDepth 100000 in
theorem test_teInClose : teState.teOutput 9 = some 0 ∧ leaves (.teInClose 1 9) teState (fun t => !t.flag (APT_PORT_STATE.TE_OPEN 0) &&
    t.apt.cuts == [readyKey 0 0 100]) = true := by decide +kernel

set_option maxRecDepth 100000 in
theorem wit_back : (arrayState ptRun []).bcUp 0 = true ∧ (arrayState ptAlign []).bcUp 0 = true ∧ (arrayState ptRun []).laneOf 0 0 = some 0 ∧
    (arrayState ptTrain []).lanesTrained 0 = true ∧ (arrayState ptRun []).portExists 0 = true ∧ (arrayState ptRun []).ownEpoch = 1 := by decide +kernel
set_option maxRecDepth 100000 in
theorem test_backChannel : leaves (.bcTemp 1 0 7 70000) (arrayState ptRun [(APT_PORT_STATE.BC_LOST 0, 1)]) (fun t =>
      t.get (APT_PORT_TEMP.TEMP 0) == 4464 && (t.port 0).band == 7 && !t.flag (APT_PORT_STATE.BC_LOST 0)) = true ∧
    leaves (.bcTe 1 0 true) (arrayState ptRun []) (fun t => t.flag (APT_PORT_STATE.TE_OPEN 0)) = true ∧
    leaves (.bcError 1 0 9 3) (arrayState ptRun []) (fun t => t.get (APT_PORT_ARRAY_ERR.BLOCK 0) == 3 && t.get (APT_PORT_ARRAY_ERR.CODE 0) == 9 &&
      t.get (APT_PORT_ARRAY_ERR.COUNT 0) == 1 && counted 0x0502 (arrayState ptRun []) t) = true ∧
    leaves (.bcHealth 1 0 5) (arrayState ptRun []) (fun t => t.get (APT_PORT_HEALTH.STUCK 0) == 5 && counted 0x0506 (arrayState ptRun []) t) = true ∧
    leaves (.bcHealth 1 0 5) (arrayState ptRun [(APT_PORT_HEALTH.STUCK 0, 5)]) (fun t => t.int == liveState.int) = true := by decide +kernel
set_option maxRecDepth 100000 in
theorem test_bcStatus : leaves (.bcStatus 1 0 1 2 3 2 256) (arrayState ptAlign []) (fun t => t.portState 0 == ptAlign && (t.port 0).geom == some (2, 256) &&
      t.get (APT_PORT_IDENT_LO.MODEL 0) == 2) = true ∧
    leaves (.bcStatus 1 0 1 2 3 2 512) (arrayState ptAlign []) (fun t => t.portState 0 == ptFault && t.get (APT_PORT_STATE.FAULT 0) == 3 &&
      counted 0x0505 (arrayState ptAlign []) t) = true ∧
    leaves (.bcEcho 1 0 500000) (arrayState ptAlign []) (fun t => t.get (APT_PORT_DELAY.CHANNEL_PS 0) == 65535 && (t.port 0).echoed) = true := by decide +kernel
set_option maxRecDepth 100000 in
theorem test_bcEpoch : leaves (.bcEpoch 1 0 2) (arrayState ptRun []) (fun t => t.flag (APT_PORT_STATE.STALE 0) && t.get (APT_PORT_EPOCH.HIGHEST 0) == 2 &&
      counted 0x0504 (arrayState ptRun []) t) = true ∧
    leaves (.bcLost later 0) (arrayState ptRun []) (fun t => t.flag (APT_PORT_STATE.BC_LOST 0) && counted 0x0503 (arrayState ptRun []) t) = true ∧
    leaves (.aptStatusRequest 1 0) (arrayState ptRun []) (fun t => t.out == [.arrayCmd 0 0 opStatusReq [opStatusReq + 5 * 65536]]) = true := by decide +kernel

def alignedPort (n : Nat) : State := (arrayState ptAlign []).setPort 0 { PortSt.init with echoed := true, geom := some (2, 256), attempts := n }
set_option maxRecDepth 100000 in
theorem test_ports : leaves (.portTrained 1 0) (arrayState ptTrain []) (fun t => t.portState 0 == ptAlign && (t.port 0).since == 1) = true ∧
    leaves (.portAligned 1 0) (alignedPort 0) (fun t => t.portState 0 == ptRun) = true ∧
    leaves (.portAligned 1 0) { alignedPort 0 with seq := SeqSt.reset, cfg := liveState.cfg } (fun t => t.portState 0 == ptRun && (t.port 0).parked &&
      t.get (APT_PORT_DELAY.CHANNEL_PS 0) == 0) = true ∧
    leaves (.portTrainTimeout later 0) (arrayState ptTrain []) (fun t => t.portState 0 == ptFault && t.get (APT_PORT_STATE.FAULT 0) == 1) = true ∧
    leaves (.portTrainTimeout later 0) (alignedPort 2) (fun t => t.portState 0 == ptFault && t.get (APT_PORT_STATE.FAULT 0) == 2) = true ∧
    leaves (.portTrainTimeout later 0) (alignedPort 1) (fun t => t.portState 0 == ptAlign && (t.port 0).attempts == 2) = true ∧
    leaves (.portFaultRetry later 0) (arrayState ptFault []) (fun t => t.portState 0 == ptTrain) = true ∧
    leaves (.portFaultRetry later 0) (arrayState ptFault [(APT_PORT_CTRL.AUTO_RETRY 0, 0)]) (fun t => t.portState 0 == ptFault) = true := by decide +kernel
def wideState : State := arrayState ptRun [(APT_PORT_STATE.ACTIVE_WIDTH 0, 2)]
set_option maxRecDepth 100000 in
theorem test_retrain : leaves (.aptRetrainRequest 1 0) (arrayState ptRun []) (fun t => (t.port 0).retrainDue == some (arrayState ptRun []).nextBoundary &&
      (t.port 0).decidedLfn == 100) = true ∧
    leaves (.bcRetrainReq 1 0 false) (arrayState ptRun []) (fun t => (t.port 0).asked && (t.port 0).retrainDue.isSome) = true ∧
    wideState.activeWidth 0 = 2 ∧ leaves (.bcRetrainReq 1 0 true) wideState (fun t => (t.port 0).narrow && t.seq.running.any (fun x => x.kind == 3)) = true ∧
    leaves (.portRetrainDone 1 0) (arrayState ptRetrain []) (fun t => t.portState 0 == ptRun) = true ∧
    leaves (.portRetrainDone later 0) (arrayState ptRetrain [(LAN_LANE_STATE.STATE 0, lnTrain)]) (fun t => t.portState 0 == ptTrain &&
      t.get (APT_PORT_STATE.FAULT 0) == 4) = true ∧
    leaves (.portRetrainDone 1 0) (arrayState ptRetrain [(LAN_LANE_STATE.STATE 0, lnTrain)]) (fun t => t.portState 0 == ptRetrain) = true := by decide +kernel


/-! ### Scan engines -/

/-- Scan engine 3 in a state, with output 19 of 2 × 2 pixels and an image that allows it. -/
def scanState (st : Nat) (l : List (Fld × Nat)) (f : EngineSt → EngineSt) : State :=
  let cfg := List.replicate 96 0 ++ [1, 0, 0x20, 0x4E, 0x30, 0x75, 0, 0x10, 0, 0xFF, 0xFF, 0xFF, 100, 0, 0, 0, 0, 0, 0, 0, 0, 1, 0, 0, 7, 0, 0, 0, 0, 0, 0, 0]
  let s : State := { liveState with cfg := { liveState.cfg with secs := [(secScanCfg * 65536, cfg)] } }
  let s1 := (s.wrN (TIM_OUT_SKEW 19) 0).inForce ([(SCN_ENG_STATE.STATE 3, st), (CMP_OUT_CUT.EXISTS 19, 1), (CMP_OUT_INFO.W_M1 19, 1), (CMP_OUT_INFO.H_M1 19, 1),
    (SCN_ENG_CTRL.AUTO_RESTART 3, 1), (SCN_ENG_AMP.AMP_REF 3, 1000), (SCN_ENG_EST_AMP.AMP 3, 1000), (SCN_ENG_EST_FREQ.FREQ 3, 25600 * 256),
    (SCN_ENG_GEOM.USE 3, 60000), (SCN_ENG_GEOM.KNEE 3, 100), (SCN_ENG_SLOW_A.SLOW_TOP 3, 9), (HIF_STATUS.STARTUP_DONE, 1), (SEQ_OUT_SCHED.RUNNING 19, 5), (LMP_SAFETY.STOPPED, 0), (THM_DOM_ON.ON 6, 2 ^ 21)] ++ l)
  let sch : Sched := { oneSched with windows := [[(1000, 9000000)]] }
  { s1 with
    tim := { s1.tim with lfn := 100, bootLf := false, darkLf := false }
    seq := { s1.seq with force := [(19, (noSets, ⟨sch, sch, sch, sch, none⟩))] }
    scn := { s1.scn with engines := [(3, f { EngineSt.init with ampRef16 := 1000 * 65536 })] } }

set_option maxRecDepth 100000 in
theorem wit_scan : (scanState enOff [] id).engineExists 3 = true ∧ (scanState enOff [] id).glb.hwClass = false ∧
    (scanState enOff [] id).scanCfg.length = 128 ∧ (scanState enOff [] id).outW 19 = 2 := by decide +kernel
set_option maxRecDepth 100000 in
theorem test_scanSteps : leaves (.scanStart 1 3) (scanState enOff [] id) (fun t => t.engineState 3 == enWake && (t.engine 3).slow == 7 &&
      bitAt (t.rdN (THM_DOM_ON 6)) 21) = true ∧
    leaves (.scanStop 1 3) (scanState enRun [] id) (fun t => t.engineState 3 == enStopping && (t.engine 3).slow == 7) = true ∧
    leaves (.scanOffsetDone 1 3) (scanState enWake [] id) (fun t => t.engineState 3 == enSearch && t.get (SCN_ENG_EST_AMP.DRIVE_MV 3) == 10) = true ∧
    leaves (.scanSearchDone 1 3 (some 5000)) (scanState enSearch [] id) (fun t => t.engineState 3 == enRamp &&
      t.get (SCN_ENG_EST_FREQ.FREQ 3) == 5000) = true ∧
    leaves (.scanSearchDone 1 3 none) (scanState enSearch [] id) (fun t => t.engineState 3 == enFault && t.get (SCN_ENG_STATE.CAUSE 3) == 5 &&
      counted 0x0604 (scanState enSearch [] id) t) = true := by decide +kernel
set_option maxRecDepth 100000 in
theorem test_scanLock : leaves (.scanRampDone 1 3 9999 1 true) (scanState enRamp [] id) (fun t => t.engineState 3 == enLocking &&
      t.get (SCN_ENG_EST_AMP.AMP 3) == 8191) = true ∧
    leaves (.scanRampDone 1 3 9 1 false) (scanState enRamp [] id) (fun t => t.engineState 3 == enFault && t.get (SCN_ENG_STATE.CAUSE 3) == 6) = true ∧
    leaves (.scanLockDone 1 3) (scanState enLocking [] (fun x => { x with lockRun := 1024 })) (fun t => (t.engine 3).ready && (t.engine 3).slow == 9) = true ∧
    leaves (.scanBrakeDone 1 3) (scanState enStopping [(SCN_ENG_EST_AMP.DRIVE_MV 3, 4)] id) (fun t => t.engineState 3 == enOff &&
      t.get (SCN_ENG_EST_AMP.DRIVE_MV 3) == 0) = true := by decide +kernel
set_option maxRecDepth 100000 in
theorem test_turningPoint : leaves (.turningPoint 1 3 true 6553600 1000 5 8) (scanState enRun [] (fun x => { x with row := some 0 })) (fun t =>
      (t.engine 3).row == some 1 && t.get (SCN_ENG_CANES.COUNT 3) == 1 && (t.engine 3).reverse && (t.engine 3).resid == 8) = true ∧
    leaves (.turningPoint 1 3 true 6553600 1000 5 8) (scanState enRun [] (fun x => { x with row := some 1, missed := true })) (fun t =>
      (t.engine 3).row == none && t.get (SCN_ENG_CANES.COUNT 3) == 0) = true := by decide +kernel
def caneState (open_ : Bool) : State := scanState enRun [] (fun x => { x with row := some 0, windowOpen := open_, lines := [(0, [[9, 9, 9, 9], [9, 9, 9, 9]])] })
set_option maxRecDepth 100000 in
theorem wit_pixelEdge : ((caneState true).pixelCos 3 2 0).isSome = true ∧ ((caneState true).pixelCos 3 2 1).isSome = true ∧
    ((caneState true).tick 1).scanLit 3 = true ∧ ((caneState false).tick 1).scanLit 3 = false := by decide +kernel
set_option maxRecDepth 100000 in
theorem test_pixelEdge : leaves (.pixelEdge 1 3 0) (caneState true) (fun t => (t.engine 3).drive.length == 4 && t.out.length == 1) = true ∧
    leaves (.pixelEdge 1 3 0) (scanState enRun [] (fun x => { x with row := some 0, windowOpen := true })) (fun t => (t.engine 3).drive == []) = true ∧
    leaves (.pixelEdge 1 3 2) (caneState true) (fun t => (t.engine 3).drive == []) = true ∧
    leaves (.pixelEdge 1 3 0) (caneState false) (fun t => (t.engine 3).drive == []) = true := by decide +kernel
set_option maxRecDepth 100000 in
theorem test_lineMiss : leaves (.lineMiss 1 3) (caneState true) (fun t => t.get (SCN_ENG_LINE_MISSES.COUNT 3) == 1 && (t.engine 3).missNext &&
      counted 0x0602 (caneState true) t) = true ∧
    leaves (.lineMiss 1 3) (scanState enRun [] (fun x => { x with missRaised := true })) (fun t => t.int == liveState.int) = true := by decide +kernel
def edgeState (k : FabKind) : State := { caneState true with seq := { (caneState true).seq with fab := [⟨k, 100, 3, 0, 0⟩] } }
set_option maxRecDepth 100000 in
theorem test_scanEnableEdge : ((edgeState .scanOpen).tick later).eventDue ⟨.scanOpen, 100, 3, 0, 0⟩ = true ∧
    leaves (.scanEnableEdge later 3 0 true) (edgeState .scanOpen) (fun t => (t.engine 3).windowOpen && t.seq.fab == []) = true ∧
    leaves (.scanEnableEdge later 3 0 true) { (scanState enRun [] id) with
      tim := { (edgeState .scanOpen).tim with darkLf := true }
      seq := (edgeState .scanOpen).seq } (fun t => !(t.engine 3).windowOpen && t.seq.fab == []) = true ∧
    leaves (.scanEnableEdge later 3 0 false) (edgeState .scanClose) (fun t => !(t.engine 3).windowOpen && t.seq.fab == []) = true := by decide +kernel
set_option maxRecDepth 100000 in
theorem test_scanStall : leaves (.scanStall 1 3 4) (caneState true) (fun t => t.engineState 3 == enStalled && t.get (SCN_ENG_STATE.CAUSE 3) == 4 &&
      t.get (SCN_ENG_STALLS.COUNT 3) == 1 && t.rdN (SCN_ENG_STALL_LFN 3) == 100 && counted 0x0601 (caneState true) t) = true ∧
    leaves (.scanStallRestart later 3 100) (scanState enStalled [] id) (fun t => t.engineState 3 == enRamp) = true ∧
    leaves (.scanStallRestart later 3 99) (scanState enStalled [] id) (fun t => t.engineState 3 == enSearch) = true ∧
    leaves (.scanStallRestart msSteps 3 99) (scanState enStalled [] (fun x => { x with stalls := [0, 0, 0] })) (fun t => t.engineState 3 == enFault &&
      t.get (SCN_ENG_STATE.CAUSE 3) == 7) = true ∧
    leaves (.ampLimitEvent later 3) (scanState enRun [] (fun x => { x with limitSince := some 0 })) (fun t => (t.engine 3).limitRaised &&
      counted 0x0603 (scanState enRun [] id) t) = true := by decide +kernel

/-! ### Light sources -/

/-- An LMP_MAP of one chain of two positions, of output 0 and primary 0, with RAILS at 0. -/
def lampBytes : List Byte :=
  [1, 0, 1, 0, 2, 0, 0, 0, 0, 0, 0, 0, 10] ++ List.replicate 147 0 ++ [0, 0] ++ List.replicate 286 0 ++ [0, 0, 0, 0, 5, 0, 0, 0]
def lampState (l : List (Fld × Nat)) (f : LmpSt → LmpSt) (fab : List FabEvent) : State :=
  let s := arrayState ptRun ((LMP_SAFETY.STOPPED, 0) :: l)
  let x : Slot := { slotOf 1 1000000 with n := 100, cstep := 3, stepFrame := true }
  let sch : Sched := { oneSched with lists := [[x]], refs := [[(0, 1000000)]] }
  { s with
    cfg := { s.cfg with secs := tset s.cfg.secs (secLmpMap * 65536) lampBytes }
    tim := { s.tim with darkLf := false }
    mtr := { s.mtr with powered := true }
    seq := { s.seq with
      fab := fab
      force := [(0, (noSets, ⟨sch, sch, sch, sch, none⟩))] }
    lmp := f s.lmp }
def pulseTime : Nat := (lampState [] id []).phaseInstant 1001000 + 1
def lit : State := lampState [] id [slotEvent .gateRise 100]
def lowered : State := lampState [] (fun x => { x with gates := [(0, ⟨pulseTime, 100, 0, 0⟩), (7, ⟨0, 9, 1, 0⟩)] }) []

set_option maxRecDepth 100000 in
theorem wit_gateEdge : (lit.slotNow 0 0).any (fun x => !x.dark && !x.late && x.n == 100 && (lit.linesOf 0 x.prim).contains 0) = true ∧
    (lit.tick pulseTime).eventDue (slotEvent .gateRise 100) = true ∧ lit.mayLight 0 0 = true ∧ lit.pulseSteps 0 100 = 100 ∧
    pulseTime + 100 ≤ lit.phaseInstant 1002000 ∧ lit.phaseInstant 1002000 < later := by decide +kernel
set_option maxRecDepth 100000 in
theorem test_gateEdge : leaves (.gateEdge pulseTime 0 0 0 true) lit (fun t => tfind t.lmp.gates 0 == some ⟨pulseTime, 100, 0, 0⟩ &&
      t.out == [.gate 0 true] && t.seq.fab == []) = true ∧
    leaves (.gateEdge later 0 0 0 true) lit (fun t => t.lmp.gates == [] && t.out == [] && t.get LMP_STATUS.OMITTED == 1) = true ∧
    leaves (.gateEdge pulseTime 0 0 0 true) { lit with tim := { lit.tim with darkLf := true } } (fun t => t.lmp.gates == [] && t.out == [] &&
      t.seq.fab == []) = true ∧
    leaves (.gateEdge (pulseTime + 100) 0 0 0 false) lowered (fun t => tkeys t.lmp.gates == [7] && t.out == [.gate 0 false]) = true := by decide +kernel

def onChain (st : Nat) (u : Option UpdSt) (good : Nat) (l : List (Fld × Nat)) (fab : List FabEvent) : State :=
  lampState ((LMP_CHAIN_STATUS.STATE 0, st) :: l) (fun x => { x with chains := [(0, ⟨good, u⟩)] }) fab
def oneUpd : UpdSt := { start := 0, seq := 7, words := [5, 6], light := [(0, 9)], duty := [(0, 8)], gamma := [(0, 7)], trims := [(0, 0)], ok := true, ended := true }
def latchDue : List FabEvent := [slotEvent .latch 100]
def runUpd : UpdSt := { oneUpd with
  ok := false
  ended := false }

set_option maxRecDepth 100000 in
theorem wit_steps : ((onChain chRunning none 0 [] [slotEvent .step 100]).tick later).eventDue (slotEvent .step 100) = true ∧
    (onChain chRunning none 0 [] []).chainsOf 0 = [0] ∧ ((onChain chRunning none 0 [] latchDue).tick 1).eventDue (slotEvent .latch 100) = true ∧
    (onChain chRunning none 0 [] []).updateSteps 0 ≤ later ∧ (onChain chRunning none 0 [] []).mtrPasses 0 = true := by decide +kernel
set_option maxRecDepth 100000 in
theorem test_currentStep : leaves (.currentStep later 0 0) (onChain chRunning none 0 [] [slotEvent .step 100]) (fun t =>
      t.out == [.chainFrame 0 2 3] && tfind t.lmp.steps 0 == some 3 && t.seq.fab == []) = true ∧
    leaves (.currentStep later 0 0) { onChain chRunning none 0 [] [slotEvent .step 100] with tim := { lit.tim with darkLf := true } } (fun t =>
      t.out == [] && t.lmp.steps == [] && t.seq.fab == []) = true ∧
    leaves (.chainLatch 1 0) (onChain chRunning (some oneUpd) 4 [] latchDue) (fun t => t.out == [.chainFrame 0 1 7] && (t.chain 0).upd == none &&
      t.get (LMP_CHAIN_LAST_LATCH.LFN 0) == 100 && t.lmp.duty == [(0, 8)] && t.lmp.gamma == [(0, 7)] && t.col.light == [(0, 9)]) = true ∧
    leaves (.chainLatch 1 0) (onChain chRunning (some { oneUpd with ok := false }) 4 [] latchDue) (fun t => t.out == [] &&
      t.get (LMP_CHAIN_LAST_LATCH.LFN 0) == 0) = true := by decide +kernel
set_option maxRecDepth 100000 in
theorem test_chainUpdateStart : leaves (.chainUpdateStart 1 0) (onChain chStarting none 0 [(LMP_CHAIN_STATUS.UPDATE_SEQ 0, 255)] []) (fun t =>
      t.out == [.chainWords 0 [0xA500, 0, 0]] && t.get (LMP_CHAIN_STATUS.UPDATE_SEQ 0) == 0 &&
      (t.chain 0).upd.any (fun u => u.start == 1 && u.seq == 0 && !u.ended && u.words == [0, 0])) = true := by decide +kernel
set_option maxRecDepth 100000 in
theorem test_chainUpdateEnd : leaves (.chainUpdateEnd later 0 9 0xA507 []) (onChain chStarting (some runUpd) 3 [] []) (fun t =>
      t.chainState 0 == chBroken && (t.chain 0).good == 0 && t.get (LMP_CHAIN_FAILS.MARKER 0) == 1 && t.get (LMP_CHAIN_STATUS.RET_DELAY 0) == 8 &&
      counted 0x0201 lit t) = true ∧
    leaves (.chainUpdateEnd later 0 3 0xA507 [0, 0]) (onChain chStarting (some runUpd) 3 [] []) (fun t => t.chainState 0 == chRunning &&
      (t.chain 0).good == 4 && t.get (LMP_CHAIN_STATUS.RET_DELAY 0) == 3 && (t.chain 0).upd == some oneUpd) = true ∧
    leaves (.chainUpdateEnd later 0 3 0xA507 [0, 0]) (onChain chBroken (some runUpd) 3 [(LMP_CTRL.AUTO_REJOIN, 1)] []) (fun t =>
      t.chainState 0 == chRunning && counted 0x0201 lit t) = true ∧
    leaves (.chainUpdateEnd later 0 3 0xA507 [0, 0]) (onChain chBroken (some runUpd) 3 [(LMP_CTRL.AUTO_REJOIN, 0)] []) (fun t =>
      t.chainState 0 == chBroken && (t.chain 0).good == 4) = true := by decide +kernel
set_option maxRecDepth 100000 in
theorem test_positionClearFault : leaves (.positionClearFault 1) (lampState [(LMP_POS_SEL.POSITION, 1)] (fun x => { x with
      pos := [(0, { PosSt.init with faultOff := true }), (1, { PosSt.init with faultOff := true })] }) []) (fun t =>
      !(t.pos 1).faultOff && (t.pos 0).faultOff) = true := by decide +kernel
set_option maxRecDepth 100000 in
theorem wit_sample : ((lampState [] id [slotEvent .sample 100]).tick later).eventDue (slotEvent .sample 100) = true ∧
    lit.senseOf 0 = some 0 ∧ lit.senseOf 3 = none ∧ lit.arrayShows [] 3 = false := by decide +kernel
set_option maxRecDepth 100000 in
theorem test_referenceSample : leaves (.referenceSample later 0 300) (lampState [(LMP_PS_CH_GAIN.GAIN 0, 16384), (LMP_PS_CH_OFFSET.OFFSET 0, 100)] id
      [slotEvent .sample 100]) (fun t => t.get (LMP_PS_CH_LAST.Y 0) == 100 && t.get (LMP_PS_CH_LAST.INVALID 0) == 0 && t.seq.fab == []) = true ∧
    leaves (.referenceSample later 3 300) lit (fun t => t.get (LMP_PS_CH_LAST.Y 0) == 0) = true := by decide +kernel

/-- A device with two running chains whose heartbeats toggle. -/
def beating (l : List (Fld × Nat)) (f : LmpSt → LmpSt) : State :=
  let s := liveState.with ([(LMP_SAFETY.STOPPED, 0), (LMP_SAFETY.CAUSE, 0), (LMP_SAFETY.INTERLOCK, 1), (HIF_STATUS.STARTUP_DONE, 1),
    (LMP_CHAIN_STATUS.STATE 0, chRunning), (LMP_CHAIN_STATUS.STATE 1, chRunning), (LMP_HB.RUNNING, 3)] ++ l)
  { s with
    cfg := { s.cfg with imageRunning := true }
    tim := { s.tim with lfn := 100, bootLf := false }
    lmp := f s.lmp }
def running : State := beating [] id
def openLock : State := beating [(LMP_SAFETY.STOPPED, 1), (LMP_HB.RUNNING, 0), (LMP_SAFETY.CAUSE, 2)] (fun x => { x with ilStop := true })
def latchingLock : State := { openLock with cfg := { openLock.cfg with secs := [(secCeilings * 65536, List.replicate 0x22 0 ++ [1, 0, 5, 0])] } }

set_option maxRecDepth 100000 in
theorem wit_stops : running.stopCause = 0 ∧ running.withheld roleSys 0 = false ∧ running.lmp.fed = true ∧ ceLatching openLock.ceil_ = false ∧
    ceLatching latchingLock.ceil_ = true ∧ running.lmp.expiry0 ≤ later ∧ max 1 (ceHold openLock.ceil_) * msSteps ≤ later := by decide +kernel
set_option maxRecDepth 100000 in
theorem test_watchdog : leaves (.watchdogToken 1 (2 ^ 32 - 1 - 101) 101) running (fun t => t.lmp.token == some 101 &&
      t.lmp.expiry0 == 1 + 3 * running.tim.p16 / 131072 && t.lmp.expiry1 == t.lmp.expiry0) = true ∧
    leaves (.watchdogExpiry later 1) running (fun t => !t.lmp.fed && t.get LMP_SAFETY.CAUSE == 1 && t.flag LMP_SAFETY.STOPPED &&
      t.get LMP_SAFETY.STOPS == 1 && t.get LMP_HB.RUNNING == 0 && counted 0x0205 running t) = true := by decide +kernel
set_option maxRecDepth 100000 in
theorem test_interlockOpen : leaves (.interlockOpen 1 20) { running with lmp := { running.lmp with gates := [(3, ⟨0, 9, 0, 0⟩)] } } (fun t =>
      t.lmp.ilStop && !t.flag LMP_SAFETY.INTERLOCK && t.lmp.gates == [] && t.out == [.gate 3 false] && t.get LMP_SAFETY.CAUSE == 2 &&
      t.get LMP_HB.RUNNING == 0 && t.get LMP_SAFETY.STOPS == 1) = true ∧
    leaves (.interlockOpen 1 19) running (fun t => !t.lmp.ilStop && t.get LMP_HB.RUNNING == 3) = true ∧
    leaves (.interlockClose 1) (openLock.with [(LMP_SAFETY.INTERLOCK, 0)]) (fun t => t.flag LMP_SAFETY.INTERLOCK && t.lmp.ilHigh == 1 && t.lmp.ilStop) = true := by
  decide +kernel
set_option maxRecDepth 100000 in
theorem test_interlockEnds : leaves (.interlockHoldExpiry later) openLock (fun t => !t.lmp.ilStop && t.get LMP_HB.RUNNING == 3 &&
      t.flag LMP_SAFETY.STOPPED && t.lmp.restartAt == some later) = true ∧
    leaves (.interlockRearm 1) latchingLock (fun t => !t.lmp.ilStop && t.get LMP_HB.RUNNING == 3) = true := by decide +kernel
set_option maxRecDepth 100000 in
theorem test_forceOff : leaves (.forceOffWrite 1 true) running (fun t => t.get LMP_SAFETY.CAUSE == 6 && t.get LMP_HB.RUNNING == 0 &&
      t.flag LMP_SAFETY.FORCE_OFF && counted 0x0205 running t) = true ∧
    leaves (.forceOffWrite 1 false) (running.with [(LMP_SAFETY.FORCE_OFF, 1), (LMP_SAFETY.STOPPED, 1), (LMP_SAFETY.CAUSE, 6)]) (fun t =>
      t.get LMP_HB.RUNNING == 3 && t.flag LMP_SAFETY.STOPPED && t.lmp.restartAt == some 1) = true ∧
    leaves (.gateClockStop 1) running (fun t => t.get LMP_SAFETY.CAUSE == 4 && t.get LMP_HB.RUNNING == 0) = true := by decide +kernel
def budgeted : State := running.with [(LMP_PKG_LIMIT.AVG, 500), (LMP_PKG_LIMIT.PEAK, 100), (THM_CAP.MAIN_CAP, 900)]
set_option maxRecDepth 100000 in
theorem test_budgetTick : leaves (.budgetTick 1 [80, 30, 20, 30, 5, 0, 0, 0] 9 5000 800 0 0) budgeted (fun t =>
      (List.range 8).map (fun k => t.get (LMP_PKG_CLASS.GRANT k)) == [80, 0, 0, 20, 0, 0, 0, 0] && t.get THM_PWR.PACKAGE == 2047 &&
      t.get THM_PWR.MAIN == 800 && t.get LMP_PKG_STATUS.ALLOW == 100 && bitAt (t.get THM_THROTTLE.SOURCES) thrPower && t.lmp.power == [5000]) = true ∧
    leaves (.budgetTick 1 [0, 0, 0, 0, 0, 0, 0, 0] 0 0 0 0 0) (budgeted.with [(LMP_PKG_LIMIT.AVG, 0)]) (fun t => t.get LMP_PKG_STATUS.ALLOW == 0) = true := by
  decide +kernel

/-! ### Serial lanes -/

/-- Lane l in a state, of a role and port, with its own state. -/
def laneIn (l st role port : Nat) (x : List (Fld × Nat)) (f : LaneSt → LaneSt) : State :=
  let s := liveState.with ([(LAN_LANE_STATE.STATE l, st), (LAN_LANE_CFG.ROLE l, role), (LAN_LANE_CFG.PORT l, port), (LAN_STATUS.REFCLK_OK, 15)] ++ x)
  { s with lan := { s.lan with lanes := [(l, f LaneSt.init)] } }
def arrayLane (st : Nat) (x : List (Fld × Nat)) (f : LaneSt → LaneSt) : State := laneIn 5 st 1 0 x f
def spareLane (st : Nat) (f : LaneSt → LaneSt) : State := laneIn 130 st 2 0 [] f

/-- A lane of a port in RUN of an active width, carrying a logical lane; and a Laxus lane of an UP link of a width. -/
def portLane (w logical : Nat) : State := arrayLane lnData [(APT_PORT_CFG.EXISTS 0, 1), (APT_PORT_STATE.STATE 0, ptRun),
  (APT_PORT_STATE.ACTIVE_WIDTH 0, w), (LAN_LANE_STATE.LOGICAL 5, logical)] id
def laxusLane (w : Nat) : State := laneIn 137 lnData 3 0 [(LXS_PORT_STATE.STATE 0, lxUp), (LXS_PORT_STATE.WIDTH 0, w), (LAN_LANE_STATE.STATE 136, lnData)] id
set_option maxRecDepth 100000 in
theorem test_laneSlotTransmit : leaves (.laneSlotTransmit 1 5 false) (arrayLane lnData [] (fun x => { x with queue := List.replicate 65 7 })) (fun t =>
      (t.lane 5).f == 1 && (t.lane 5).slotTime == 1 && (t.lane 5).queue == [7] && t.out.length == 1) = true ∧
    leaves (.laneSlotTransmit 1 5 true) (arrayLane lnWake [] id) (fun t => t.get (LAN_LANE_STATE.CAUSE 5) == 5 &&
      counted 0x0701 liveState t) = true := by decide +kernel
set_option maxRecDepth 100000 in
theorem test_fencedFrame : leaves (.dataFrameRx 1 5 (natOfBits (syncBits 0 3))) (arrayLane lnFenced [] id) (fun t => t.get (LAN_LANE_LIFE.COUNT 5) == 1) = true ∧
    leaves (.dataFrameRx 1 5 0) (arrayLane lnFenced [] id) (fun t => t.get (LAN_LANE_LIFE.COUNT 5) == 0) = true ∧
    leaves (.dataFrameRx 1 5 0) (arrayLane lnTrain [] (fun x => { x with hunting := false })) (fun t => (t.lane 5).hunting &&
      t.get (LAN_LANE_SYNC.HUNTS 5) == 1 && (t.lane 5).noSync == 1) = true := by decide +kernel
def trainFrame (w0 w2 : Nat) : List Nat := [w0, 9, w2, 0] ++ (wordsOfNat (natOfBits (keystream 9 4096)) 64).drop 4
set_option maxRecDepth 100000 in
theorem test_trainingFrameRx : leaves (.trainingFrameRx 1 5 (trainFrame (0xB5 + 2 * 2 ^ 8 + 2 ^ 12) (2 ^ 36)) true true)
      (arrayLane lnTrain [] (fun x => { x with
        good := 63
        sentReady := 16
        gotReady := 15 })) (fun t => (t.lane 5).good == 64 && (t.lane 5).gotReady == 16 && (t.lane 5).rxF == 10 && t.laneState 5 == lnData) = true ∧
    leaves (.trainingFrameRx 1 5 (trainFrame 0xB5 0) false true) (arrayLane lnTrain [] (fun x => { x with good := 63 })) (fun t =>
      (t.lane 5).good == 0) = true ∧
    leaves (.trainingFrameRx 1 5 (trainFrame (0xB5 + 2 ^ 12) 0) true true) (arrayLane lnWake [] id) (fun t => t.laneState 5 == lnData) = true := by decide +kernel
set_option maxRecDepth 100000 in
theorem test_statusFrame : leaves (.statusFrameRx 1 130 [0xC3 + 2 ^ 8 + 3 * 2 ^ 32, 77 * 2 ^ 32]) (spareLane lnStandby id) (fun t =>
      t.get (LAN_LANE_FAR.CRC_FAILS 130) == 3 && t.get (LAN_LANE_FAR.EYE_MUI 130) == 77 && t.flag (LAN_LANE_STATE.FAR_OK 130) &&
      t.laneState 130 == lnStandby) = true ∧
    leaves (.statusFrameRx 1 130 [0xC3, 0]) (spareLane lnStandby id) (fun t => t.laneState 130 == lnFailed && t.get (LAN_LANE_STATE.CAUSE 130) == 3 &&
      counted 0x0701 liveState t) = true ∧
    leaves (.statusFrameTimeout later 5) (arrayLane lnData [] id) (fun t => t.get (LAN_LANE_STATE.CAUSE 5) == 4) = true ∧
    leaves (.laneWakeTimeout later 130) (spareLane lnWake id) (fun t => t.get (LAN_LANE_STATE.CAUSE 130) == 6 && t.laneState 130 == lnFailed) = true := by
  decide +kernel
set_option maxRecDepth 100000 in
theorem test_laneFails : leaves (.statusFrameTimeout later 5) (portLane 2 1) (fun t => t.laneState 5 == lnFailed && t.portState 0 == ptTrain) = true ∧
    leaves (.statusFrameTimeout later 5) (portLane 4 0) (fun t => t.laneState 5 == lnFailed && t.portState 0 == ptTrain) = true ∧
    leaves (.statusFrameTimeout later 5) (portLane 4 1) (fun t => t.laneState 5 == lnFailed && t.portState 0 == ptRun) = true ∧
    leaves (.statusFrameTimeout later 137) (laxusLane 1) (fun t => t.laneState 137 == lnFailed && t.lxState 0 == lxRetrain &&
      !t.flag (LXS_PORT_STATE.WIDTH 0)) = true ∧
    leaves (.statusFrameTimeout later 137) (laxusLane 0) (fun t => t.laneState 137 == lnFailed && t.lxState 0 == lxUp) = true ∧
    leaves (.statusFrameTimeout later 136) (laxusLane 0 |>.setLane 136 { (laxusLane 0).lane 137 with f := 0 }) (fun t => t.laneState 136 == lnFailed && t.lxState 0 == lxDown) = true ∧
    leaves (.statusFrameRx 1 130 [0xC3 + 2 ^ 8 + 3000 * 2 ^ 32, 0]) (spareLane lnStandby (fun x => { x with farHist := [(0, 2)] })) (fun t =>
      t.laneState 130 == lnFailed) = true := by decide +kernel
set_option maxRecDepth 100000 in
theorem test_trainTimeout : leaves (.laneTrainTimeout later 5) (arrayLane lnTrain [(APT_PORT_STATE.STATE 0, ptTrain)] id) (fun t => t.portState 0 == ptFault &&
      t.get (APT_PORT_STATE.FAULT 0) == 1 && counted 0x0505 liveState t) = true ∧
    leaves (.laneTrainTimeout later 137) (laneIn 137 lnTrain 3 0 [(LXS_PORT_STATE.STATE 0, lxTrain)] id) (fun t => t.lxState 0 == lxFault &&
      t.get (LXS_PORT_STATE.FAULT 0) == 1 && counted 0x0803 liveState t) = true ∧
    leaves (.laneTrainTimeout later 130) (spareLane lnTrain id) (fun t => t.laneState 130 == lnTrain) = true := by decide +kernel
set_option maxRecDepth 100000 in
theorem test_wake : leaves (.laneIdleEntry later 5) (arrayLane lnData [(APT_PORT_STATE.REPLAY 0, 1)] id) (fun t => t.laneState 5 == lnIdle) = true ∧
    leaves (.laneWake liveState.nextBoundary 5) (arrayLane lnIdle [] id) (fun t => t.laneState 5 == lnWake && (t.lane 5).wakeLeft == 8) = true := by decide +kernel
set_option maxRecDepth 100000 in
theorem test_refclk : leaves (.refclkLost 1 0) (arrayLane lnData [(LAN_LANE_STATE.STATE 40, lnData), (LAN_LANE_STATE.STATE 6, lnFenced)] id) (fun t =>
      t.get LAN_STATUS.REFCLK_OK == 14 && t.laneState 5 == lnOff && t.laneState 40 == lnData && t.laneState 6 == lnFenced) = true ∧
    leaves (.refclkRestored 1 0) (arrayLane lnOff [(LAN_STATUS.REFCLK_OK, 14), (APT_PORT_STATE.STATE 0, ptRun)] id) (fun t =>
      t.get LAN_STATUS.REFCLK_OK == 15 && t.laneState 5 == lnTrain && t.laneState 40 == lnOff) = true := by decide +kernel
set_option maxRecDepth 100000 in
theorem test_laneLoopWrite : leaves (.laneLoopWrite 1 5 2) (arrayLane lnData [(APT_PORT_STATE.STATE 0, ptRun)] id) (fun t => t.laneState 5 == lnData &&
      t.get (LAN_LANE_CTRL.LOOP 5) == 0 && counted 0x0F06 liveState t) = true ∧
    leaves (.laneLoopWrite 1 130 2) (spareLane lnStandby id) (fun t => t.laneState 130 == lnLoop && t.get (LAN_LANE_CTRL.LOOP 130) == 2) = true ∧
    leaves (.laneLoopWrite 1 130 0) (spareLane lnLoop id) (fun t => t.laneState 130 == lnTrain) = true ∧
    leaves (.laneLoopWrite 1 7 0) (laneIn 7 lnLoop 0 255 [] id) (fun t => t.laneState 7 == lnOff) = true := by decide +kernel
set_option maxRecDepth 100000 in
theorem test_eyeAndPattern : leaves (.eyeMeasurementDone 1 5 2000 5) (arrayLane lnData [(LAN_EYE_CFG.EYE_MIN_MV, 6)] id) (fun t =>
      t.get (LAN_LANE_EYE.WIDTH_MUI 5) == 1000 && t.get (LAN_LANE_EYE.HEIGHT_MV 5) == 5 && t.flag (LAN_LANE_EYE.MARGINAL 5) && counted 0x0702 liveState t) = true ∧
    leaves (.prbsCheckerLock 1 5) (arrayLane lnLoop [(LAN_LANE_PRBS_CTRL.CHK_EN 5, 1)] (fun x => { x with chkRun := 64 })) (fun t =>
      t.flag (LAN_LANE_PRBS_CTRL.CHK_LOCK 5)) = true ∧
    leaves (.prbsCheckerLockLoss 1 5) (arrayLane lnLoop [(LAN_LANE_PRBS_CTRL.CHK_LOCK 5, 1)] (fun x => { x with
      chkRun := 64
      chkWin := 255 })) (fun t => !t.flag (LAN_LANE_PRBS_CTRL.CHK_LOCK 5) && (t.lane 5).chkRun == 0) = true := by decide +kernel
/-- Words that the scrambler turns into runs of one bit as long as the stuffing lets them be, so that the slot is whitened. -/
def flatWords : List Nat := wordsOfNat (natOfBits (((keystream 9 4096).zip (List.range 4096)).map (fun p =>
  Bool.xor p.1 (decide (24 ≤ p.2) && (p.2 - 24) / 23 % 2 == 0)))) 64
def sender : LaneSt := { LaneSt.init with
  f := 9
  txBit := true
  txRun := 3 }
def receiver : State := arrayLane lnData [] (fun x => { x with
  hunting := false
  rxF := 9
  rxBit := true
  rxRun := 3 })
set_option maxRecDepth 100000 in
theorem wit_slotFits : (slotBits sender 0 true flatWords).1.length = slotUi ∧ (slotBits sender 0 true flatWords).2.1 = true ∧
    flatWords.length = 64 ∧ (slotBits sender 0 true (List.range 64)).1.length = slotUi := by decide +kernel
set_option maxRecDepth 100000 in
theorem test_whitenedFrame : leaves (.dataFrameRx 1 5 (natOfBits (slotBits sender 0 true flatWords).1)) receiver (fun t =>
    (t.lane 5).rx == flatWords && (t.lane 5).rxOk && t.get (LAN_LANE_FRAMES.COUNT 5) == 1 && (t.lane 5).rxF == 10) = true := by decide +kernel
set_option maxRecDepth 100000 in
theorem test_plainFrame : leaves (.dataFrameRx 1 5 (natOfBits (slotBits sender 0 true (List.range 64)).1)) receiver (fun t =>
    (t.lane 5).rx == List.range 64 && (t.lane 5).rxOk && t.flag (LAN_LANE_STATE.SYNC 5)) = true := by decide +kernel

/-! ### Temperature and power -/

def warm (l : List (Fld × Nat)) : State :=
  let s := running.with l
  { s with
    thm := { s.thm with meas := some 700 }
    lmp := { s.lmp with gates := [(3, ⟨0, 9, 0, 0⟩)] } }
set_option maxRecDepth 100000 in
theorem wit_thm : (warm []).get THM_STATUS.STATE = 0 ∧ (warm []).flag THM_STATUS.SENSOR_FAULT = false ∧ (warm []).thm.same.length < 1999 ∧ ((warm []).tick 1).convDue = true ∧
    (warm []).thm.temps = [] ∧ (warm []).live = true := by decide +kernel
set_option maxRecDepth 100000 in
theorem test_thmConversion : leaves (.thmConversion 1 9 (some 810) 0) (warm []) (fun t => t.get THM_TEMP.TEMP == 810 && t.get THM_STATUS.BAND == 4 &&
      t.flag THM_STATUS.WARN && !bitAt (t.get THM_THROTTLE.SOURCES) thrDie && t.get THM_STATUS.STATE == 0 && t.get THM_TEMP.PEAK == 810) = true ∧
    leaves (.thmConversion 1 9 (some 1000) 0) { State.reset with glb := { State.reset.glb with pwrOk := true } } (fun t => t.glb.hwClass) = true := by
  decide +kernel
set_option maxRecDepth 100000 in
theorem test_overTemperature : leaves (.thmConversion 1 9 (some 1000) 0) { warm [] with thm := { (warm []).thm with meas := some 900 } } (fun t =>
      t.get THM_STATUS.STATE == 1 && t.get THM_STATUS.SD_CAUSE == 1 && t.glb.hwClass && t.lmp.gates == [] && t.get LMP_HB.RUNNING == 0 &&
      t.rdN THM_SD_LFN == 100 && t.get THM_SD.COUNT == 1 && counted 0x0105 (warm []) t) = true ∧
    leaves (.thmConversion 1 9 none 3) (warm []) (fun t => t.get THM_STATUS.STATE == 1 && t.get THM_STATUS.SD_CAUSE == 2 &&
      t.flag THM_STATUS.SENSOR_FAULT && t.get THM_SENSOR.FAULT == 3 && t.get THM_TEMP.TEMP == 1008 && t.lmp.gates == [] &&
      counted 0x0104 (warm []) t) = true := by decide +kernel
set_option maxRecDepth 100000 in
theorem test_graceEnd : leaves (.graceEnd (5 * msSteps)) (warm [(THM_STATUS.STATE, 1), (LAN_LANE_STATE.STATE 5, lnData), (THM_DOM_ON.ON 0, 32)]) (fun t =>
      t.get THM_STATUS.STATE == 2 && t.get THM_SD.GRACE_US == 5000 && t.laneState 5 == lnOff && !t.domOn 5 && !t.flag HIF_STATUS.STARTUP_DONE) = true := by
  decide +kernel
set_option maxRecDepth 100000 in
theorem test_thmCommands : leaves (.thmRestartRequest 1) (warm []) (fun t => t.flag THM_CTRL.RESTART) = true ∧
    leaves (.thmForceShutdown 1) (warm [(THM_CTRL.FORCE_SHUTDOWN, 1)]) (fun t => t.get THM_STATUS.STATE == 1 && t.get THM_STATUS.SD_CAUSE == 5 &&
      t.lmp.gates == [] && !t.flag THM_CTRL.FORCE_SHUTDOWN && counted 0x0105 (warm []) t) = true ∧
    leaves (.thmForceShutdown 1) (warm [(THM_STATUS.STATE, 2)]) (fun t => t.get THM_STATUS.STATE == 2 && counted 0x0105 (warm []) t) = true ∧
    leaves (.thmForceThrottle 1 true) (warm []) (fun t => t.get THM_THROTTLE.SOURCES == 16 && t.get THM_THROTTLE.REQUESTS == 1 &&
      t.thm.throttle == [(1, true)] && counted 0x0103 (warm []) t) = true ∧
    leaves (.thmForceThrottle 1 true) (warm [(THM_THROTTLE.SOURCES, 1)]) (fun t => t.get THM_THROTTLE.SOURCES == 17 &&
      t.get THM_THROTTLE.REQUESTS == 0) = true := by decide +kernel
set_option maxRecDepth 100000 in
theorem test_thmClearFault : leaves (.thmClearFault 1) (warm [(THM_STATUS.SENSOR_FAULT, 1)]) (fun t => t.flag THM_STATUS.SENSOR_FAULT &&
      t.flag THM_CTRL.CLEAR_FAULT) = true ∧
    leaves (.thmClearFault secSteps) (warm [(THM_STATUS.SENSOR_FAULT, 1), (THM_SENSOR.FAULT, 2)]) (fun t => !t.flag THM_STATUS.SENSOR_FAULT &&
      !t.flag THM_CTRL.CLEAR_FAULT && t.get THM_SENSOR.FAULT == 0) = true := by decide +kernel
set_option maxRecDepth 100000 in
theorem test_domains : leaves (.domainWake 1 150 9) ((warm []).with [(THM_DOM_ON.ON 4, 0)]) (fun t => tfind t.thm.ramp 150 == some 12801 && t.thm.wait == []) = true ∧
    leaves (.domainWake 1 150 9) { (warm []).with [(THM_DOM_ON.ON 4, 0)] with thm := { (warm []).thm with
      ramp := [(1, 99), (2, 99), (3, 99), (4, 99)] } } (fun t => t.thm.wait == [(150, 9)] && t.thm.ramp.length == 4) = true ∧
    leaves (.domainWake 1 150 9) ((warm []).with [(THM_DOM_HOLD.HOLD 4, 2 ^ 22)]) (fun t => t.thm.ramp == [] && t.thm.wait == []) = true ∧
    leaves (.domainOff 1 5) ((warm []).with [(THM_DOM_ON.ON 0, 96)]) (fun t => !t.domOn 5 && t.domOn 6) = true ∧
    leaves (.domainOff 1 5) ((warm []).with [(THM_DOM_ON.ON 0, 96), (THM_DOM_KEEP.KEEP 0, 32)]) (fun t => t.domOn 5) = true := by decide +kernel

/-! ### Calibration and the store -/

/-- A device in which sessions may start, with registers, sessions and their arguments. -/
def ready (l : List (Fld × Nat)) (sess : Tbl SessSt) : State :=
  let s := running.with l
  { s with
    cfg := { s.cfg with secs := tset [(secLmpMap * 65536, lampBytes)] (secColourBase * 65536) (List.replicate 16 0 ++ [1, 0, 0, 0, 0]) }
    cal := { s.cal with sess := sess } }
def argIs (i v : Nat) : Fld × Nat := (CAL_SESSION_ARG.ARG i, v)

set_option maxRecDepth 100000 in
theorem wit_mayStart : (ready [] []).live = true ∧ (ready [] []).cfg.safeIdle = false ∧ (ready [] []).flag HIF_STATUS.STARTUP_DONE = true ∧
    (ready [] []).get THM_STATUS.STATE = 0 ∧ (ready [] []).lmp.short.contains 7 = false ∧
    (ready [(LAN_LANE_CFG.ROLE 5, 1), (LAN_LANE_CFG.ROLE 128, 2), (LAN_LANE_CFG.PORT 128, 0), (LAN_LANE_CFG.PORT 5, 0)] []).spareFor 5 = some 128 := by decide +kernel
set_option maxRecDepth 100000 in
theorem test_commonReasons : leaves (.hbmMarginSession 1) (ready [] [(5, noSess)]) (fun t => t.get (CAL_SESS_STATUS.REASON 5) == 1 && t.get (CAL_SESS_STATUS.STATE 5) == 0) = true ∧
    leaves (.timebaseSession 1) ((ready [] []).with [(HIF_STATUS.STARTUP_DONE, 0)]) (fun t => t.get (CAL_SESS_STATUS.REASON 4) == 2 &&
      t.get (CAL_SESS_STATUS.STATE 4) == 5) = true ∧
    leaves (.colourSession 1) (ready [(THM_STATUS.STATE, 3)] []) (fun t => t.get (CAL_SESS_STATUS.REASON 3) == 3) = true ∧
    leaves (.laneEyeSession 1) { ready [] [] with lmp := { (ready [] []).lmp with short := [7] } } (fun t => t.get (CAL_SESS_STATUS.REASON 1) == 4) = true := by
  decide +kernel
set_option maxRecDepth 100000 in
theorem test_laneEyeSession : leaves (.laneEyeSession 1) (ready [argIs 0 130, (LAN_LANE_STATE.STATE 130, lnStandby)] []) (fun t => (t.sess 1).any (fun x => x.start == 1) &&
      t.get (CAL_SESS_STATUS.STATE 1) == 1 && t.laneState 130 == lnTrain && t.get (LAN_LANE_EQ.PRE_OFF 130) == 15) = true ∧
    leaves (.laneEyeSession 1) (ready [argIs 0 144] []) (fun t => t.get (CAL_SESS_STATUS.REASON 1) == 6) = true ∧
    leaves (.laneEyeSession 1) (ready [argIs 0 136] []) (fun t => t.get (CAL_SESS_STATUS.REASON 1) == 5) = true ∧
    leaves (.laneEyeSession 1) (ready [argIs 0 5, (LAN_LANE_STATE.STATE 5, lnData), (LAN_LANE_STATE.STATE 128, lnStandby), (LAN_LANE_STATE.STANDS_FOR 128, 255),
      (LAN_LANE_CFG.ROLE 5, 1), (LAN_LANE_CFG.ROLE 128, 2), (LAN_LANE_CFG.PORT 128, 0), (LAN_LANE_CFG.PORT 5, 0)] []) (fun t =>
      (t.lane 128).subst.any (fun a => a.lane == 5 && a.kind == 1) && t.standsFor 128 == 5 && t.get (CAL_SESS_STATUS.STATE 1) == 1) = true := by decide +kernel
set_option maxRecDepth 100000 in
theorem test_psenseGainSession : leaves (.psenseGainSession 1) (ready [argIs 0 5000, argIs 1 1, (LMP_PS_CH_CFG.RANGE 0, 0)] []) (fun t =>
      t.get (CAL_SESS_STATUS.STATE 2) == 1 && t.col.frozenUntil == 1 + 400 * msSteps) = true ∧
    leaves (.psenseGainSession 1) (ready [argIs 0 4999, argIs 1 1, (LMP_PS_CH_CFG.RANGE 0, 0)] []) (fun t => t.get (CAL_SESS_STATUS.REASON 2) == 6) = true ∧
    leaves (.psenseGainSession 1) (ready [argIs 0 18000, argIs 1 1, (LMP_PS_CH_CFG.RANGE 0, 0)] [(3, noSess)]) (fun t => t.get (CAL_SESS_STATUS.REASON 2) == 7) = true := by
  decide +kernel
set_option maxRecDepth 100000 in
theorem test_colourSession : leaves (.colourSession 1) (ready [argIs 0 1, argIs 2 1000] []) (fun t => t.get (CAL_SESS_STATUS.STATE 3) == 1 &&
      t.cal.pattern == some 0) = true ∧
    leaves (.colourSession 1) (ready [argIs 0 1, argIs 2 999] []) (fun t => t.get (CAL_SESS_STATUS.REASON 3) == 6) = true ∧
    leaves (.colourSession 1) (ready [argIs 0 2, argIs 2 1000] []) (fun t => t.get (CAL_SESS_STATUS.REASON 3) == 6) = true ∧
    leaves (.colourSession 1) (ready [argIs 0 1, argIs 2 1000] [(2, noSess)]) (fun t => t.get (CAL_SESS_STATUS.REASON 3) == 7) = true := by decide +kernel
set_option maxRecDepth 100000 in
theorem test_otherSessions : leaves (.timebaseSession 1) (ready [(TIM_REF_STATUS.REF10M_VALID, 1)] []) (fun t => t.get (CAL_SESS_STATUS.STATE 4) == 1) = true ∧
    leaves (.timebaseSession 1) (ready [(TIM_REF_STATUS.REF10M_VALID, 0)] []) (fun t => t.get (CAL_SESS_STATUS.REASON 4) == 8) = true ∧
    leaves (.timebaseSession 1) (ready [(TIM_REF_STATUS.REF10M_VALID, 1), (LXS_STATUS.ROOT, 1), (LXS_COUNT.DEVICES, 2)] []) (fun t =>
      t.get (CAL_SESS_STATUS.REASON 4) == 9) = true ∧
    leaves (.hbmMarginSession 1) (ready [] []) (fun t => t.get (CAL_SESS_STATUS.STATE 5) == 1 && (t.sess 5).any (fun x => x.start == 1)) = true := by decide +kernel

def patches (f : SessSt → SessSt) : State := ready [] [(3, f { noSess with args := [1, 0, 1000, 0] })]
set_option maxRecDepth 100000 in
theorem wit_patches : patchCount ((patches id).sess 3 |>.getD noSess) = 6 ∧ ((patches id).patchOf ((patches id).sess 3 |>.getD noSess) 0).2 = [0] ∧
    ((patches id).patchOf ((patches id).sess 3 |>.getD noSess) 1).2 = [] := by decide +kernel
set_option maxRecDepth 100000 in
theorem test_colourReadings : leaves (.colourPut 1) ((patches (fun x => { x with slot := 1 })).with [(CAL_COLOUR_X.VALUE, 7)]) (fun t =>
      (t.sess 3).any (fun x => x.readings == [(0, (7, 0, 0))])) = true ∧
    leaves (.colourMeasurementTimeout (400 * msSteps)) (patches (fun x => { x with slot := 1 })) (fun t => t.sess 3 == none &&
      t.get (CAL_SESS_STATUS.STATE 3) == 3 && t.get (CAL_SESS_STATUS.REASON 3) == 11 && t.cal.restoring && t.cal.pattern == none) = true := by decide +kernel
set_option maxRecDepth 100000 in
theorem test_colourWork : leaves (.colourSlot 1) (patches id) (fun t => (t.sess 3).any (fun x => x.slot == 1) &&
      t.cal.patchNext.any (fun p => p.group == 0 && p.level == 1000)) = true ∧
    leaves (.colourPut 1) (patches id) (fun t => (t.sess 3).any (fun x => x.readings.isEmpty)) = true ∧
    leaves (.sessionEnd (1200 * msSteps) 3 []) (patches (fun x => { x with
      slot := 6
      readings := (List.range 6).map (fun k => (k, (1, 1, 1))) })) (fun t => t.sess 3 == none && t.get (CAL_SESS_STATUS.STATE 3) == 2 && t.cal.restoring &&
      t.get CAL_SESS_3_RESULT.PATCHES == 6 && counted 0x0E01 (patches id) t) = true := by decide +kernel
set_option maxRecDepth 100000 in
theorem test_sessionAbort : leaves (.sessionAbort 1 3) (patches id) (fun t => t.sess 3 == none && t.get (CAL_SESS_STATUS.STATE 3) == 4 && t.cal.restoring &&
      t.get (CAL_SESS_STATUS.REASON 3) == 13 && counted 0x0E01 (patches id) t) = true ∧
    leaves (.sessionAbort msSteps 2) (ready [] [(2, noSess)]) (fun t => t.sess 2 == none && t.col.frozenUntil == msSteps &&
      t.get (CAL_SESS_STATUS.TIME_MS 2) == 1) = true ∧
    leaves (.sessionAbort 1 1) (ready [] [(1, { noSess with lane := 130, step := 1, old := [1, 2, 3] })]) (fun t => t.laneState 130 == lnStandby &&
      t.get (LAN_LANE_EQ.POST_OFF 130) == 2 && t.get (CAL_SESS_STATUS.STATE 1) == 4) = true := by decide +kernel
set_option maxRecDepth 100000 in
theorem test_sessionEnd : leaves (.sessionEnd 1 1 []) (ready [] [(1, { noSess with step := 4 })]) (fun t => t.sess 1 == none && t.get (CAL_SESS_STATUS.STATE 1) == 2) = true ∧
    leaves (.sessionEnd (8 * msSteps) 1 []) (ready [] [(1, { noSess with step := 1, lane := 130 })]) (fun t => t.get (CAL_SESS_STATUS.REASON 1) == 14 &&
      t.laneState 130 == lnFailed && counted 0x0701 running t) = true ∧
    leaves (.sessionEnd (400 * msSteps) 2 [100, 40000, 16384]) (ready [(LMP_PS_CH_CFG.RANGE 2, 0)] [(2, { noSess with args := [5000, 4, 0, 0] })]) (fun t =>
      t.get (CAL_SESS_STATUS.STATE 2) == 2 && t.get (LMP_PS_CH_GAIN.GAIN 2) == 13455 && tfind t.cal.ppm 2 == some 0) = true ∧
    leaves (.sessionEnd (400 * msSteps) 2 [100, 100, 16384]) (ready [(LMP_PS_CH_CFG.RANGE 2, 0)] [(2, { noSess with args := [5000, 4, 0, 0] })]) (fun t =>
      t.get (CAL_SESS_STATUS.STATE 2) == 3 && t.get (CAL_SESS_STATUS.REASON 2) == 8) = true ∧
    leaves (.sessionEnd (2 * secSteps) 4 [5, -7, 9]) (ready [] [(4, noSess)]) (fun t => t.cal.trimRef == -5 && t.cal.trimOsc == 7 &&
      t.rdN CAL_SESS_4_RESULT == 9 && t.get (CAL_SESS_STATUS.STATE 4) == 2) = true ∧
    leaves (.sessionEnd (2 * secSteps) 4 [100001, -7, 9]) (ready [] [(4, noSess)]) (fun t => t.cal.trimRef == 0 && t.get (CAL_SESS_STATUS.REASON 4) == 6) = true ∧
    leaves (.sessionEnd 1 5 [9, 8, 7]) (ready [] [(5, { noSess with windows := 64 })]) (fun t => tfind t.cal.margins 0 == some [9, 8, 7, 0] &&
      t.get (CAL_SESS_STATUS.STATE 5) == 2) = true := by decide +kernel
set_option maxRecDepth 100000 in
theorem test_calSave : leaves (.calSave 1) (ready [(CAL_STORE_STATUS.IN_FORCE, 1), (CAL_STORE_STATUS.VALID, 3)] []) (fun t => t.cal.write.any (fun w => w.copy == 1) &&
      t.flag CAL_STORE_STATUS.WRITING && t.get CAL_STORE_STATUS.VALID == 1) = true ∧
    leaves (.calSave 1) (ready [(THM_STATUS.STATE, 1)] []) (fun t => t.cal.write.isNone && t.cal.saveDue && t.flag CAL_STORE_STATUS.PENDING) = true := by decide +kernel
def writing (retry : Bool) : State := { ready [] [] with cal := { (ready [] []).cal with write := some ⟨1, leBytes 12 0 ++ leBytes 4 77, retry⟩ } }
set_option maxRecDepth 100000 in
theorem test_calStoreWriteDone : leaves (.calStoreWriteDone 1 true) (writing false) (fun t => t.get CAL_STORE_STATUS.IN_FORCE == 2 && t.rdN CAL_STORE_SEQ == 77 &&
      t.get CAL_STORE_STATUS.VALID == 2 && t.get CAL_STORE_STATUS.LAST == 1 && t.cal.write.isNone) = true ∧
    leaves (.calStoreWriteDone 1 false) (writing false) (fun t => t.cal.write.any (fun w => w.retry) && t.get CAL_STORE_STATUS.LAST == 0) = true ∧
    leaves (.calStoreWriteDone 1 false) (writing true) (fun t => t.cal.write.isNone && t.get CAL_STORE_STATUS.LAST == 2 &&
      t.get CAL_STORE_STATUS.WRITES == 1 && counted 0x0E02 running t) = true := by decide +kernel
/-- A device of identity 5 whose section data has been read, with two store regions. -/
def unread : State :=
  let s := ready [] []
  let t := (s.wrN GLB_UID_LO 5).wrN GLB_UID_HI 0
  { t with cfg := { t.cfg with
      dataRead := true
      dirValid := true
      regions := [(4, { off := 0, len := 4096 }), (5, { off := 4096, len := 4096 })] } }
def copyOf (seq uid : Nat) : List Byte := storeImage seq uid [(0x0007, leBytes 4 9 ++ leBytes 4 3)]
set_option maxRecDepth 100000 in
theorem wit_calStore : storeForm (copyOf 3 5) = true ∧ storeForm [] = false ∧ storeUid (copyOf 3 5) = unread.uid ∧ storeSeq (copyOf 3 5) = 3 ∧
    leAt (copyOf 3 5) 8 4 ≤ 4096 := by decide +kernel
set_option maxRecDepth 100000 in
theorem test_calStoreRead : leaves (.calStoreRead 1 (copyOf 3 5) []) { unread with cal := { unread.cal with read := true } } (fun t =>
      t.get CAL_STORE_STATUS.IN_FORCE == 0 && t.cal.copyA == []) = true ∧
    leaves (.calStoreRead 1 [] []) unread (fun t => t.cal.read && t.get CAL_STORE_STATUS.IN_FORCE == 0 && t.get CAL_STORE_STATUS.VALID == 0) = true ∧
    leaves (.calStoreRead 1 (copyOf 3 5) []) unread (fun t => t.get CAL_STORE_STATUS.IN_FORCE == 1 && t.rdN CAL_STORE_SEQ == 3 && t.cal.trimRef == 9) = true ∧
    leaves (.calStoreRead 1 (copyOf 3 6) []) unread (fun t => t.get CAL_STORE_STATUS.IN_FORCE == 0 && counted 0x0E06 running t) = true ∧
    leaves (.calStoreRead 1 (copyOf 3 5) (copyOf 4 5)) unread (fun t => t.get CAL_STORE_STATUS.IN_FORCE == 2 && t.get CAL_STORE_STATUS.VALID == 3) = true ∧
    leaves (.calStoreRead 1 (copyOf 4 5) (copyOf 3 5)) unread (fun t => t.get CAL_STORE_STATUS.IN_FORCE == 1) = true := by decide +kernel

/-! ### Self-test, shadows, repair and integrity -/

def shadowed (x : ShadowSt) : State := { running with cal := { running.cal with
    shadows := [x]
    field := [⟨1, 5, 0, 3⟩, ⟨3, 9, 0, 65535⟩] } }
def oneShadow : ShadowSt := { logical := 4, shadow := 20, third := 21, left := 2, confirming := false, dead := false }
def confirming : ShadowSt := { oneShadow with confirming := true }
/-- A device whose first image, which no header starts, waits for the self-test. -/
def waitingImage : State := { running with cfg := { running.cfg with
    load := 1
    waiting := [1, 2, 3] } }
/-- A device whose PF device queue can be written. -/
def heard : State := running.with [(HIF_STATUS.LINK_UP, 1), (HIF_FN_STATUS.ME 0, 1), (⟨HIF_DEVQ_CFG, 8, 8⟩, 1)]
set_option maxRecDepth 100000 in
theorem test_selfTestDone : leaves (.selfTestDone 1 300 [⟨1, 7, 0⟩]) (shadowed oneShadow) (fun t => t.flag CAL_BIST.DONE && t.get CAL_BIST.TIME_MS == 255 &&
      t.get CAL_BIST.NEW_FAULTS == 1 && t.isFenced 1 7 0 && t.isFenced 1 5 0 && !t.isFenced 1 6 0 && t.laneState 7 == lnFenced) = true ∧
    leaves (.selfTestDone 1 300 [⟨3, 7, 0⟩]) (shadowed oneShadow) (fun t => (t.tile 7).fenced && (t.tile 7).logical == none) = true ∧
    waitingImage.live = true ∧ waitingImage.flag CAL_BIST.DONE = false ∧ waitingImage.cfg.load ≠ 0 ∧ waitingImage.cfg.waiting ≠ [] := by decide +kernel
set_option maxRecDepth 100000 in
theorem test_eventRaised : heard.queueWritable devQ = true ∧ heard.ratePasses devQ 0x0601 = true ∧
    leaves (.eventRaised 1 0x0601 65535 1 2 3) heard (fun t => t.int.logTotal == 1 && t.int.held.length == 1 &&
      t.int.held.all (fun h => h.queue == devQ && h.time == 1 && h.ev.arg1 == 2 && h.ev.lfn == 100) && (tfind t.int.log 0).isSome) = true := by decide +kernel
set_option maxRecDepth 100000 in
theorem test_shadows : leaves (.shadowMismatch 1 4) (shadowed oneShadow) (fun t => t.cal.shadows == [confirming] && counted 0x0E04 running t &&
      t.get CAL_SHADOW_STATUS.MISMATCHES == 1) = true ∧
    leaves (.confirmationDone 1 4 0) (shadowed confirming) (fun t => t.cal.shadows == [{ oneShadow with dead := true }]) = true ∧
    leaves (.confirmationDone 1 4 1) (shadowed confirming) (fun t => t.cal.shadows == [] && t.isFenced fenceTile 20 0 && (t.tile 20).fenced &&
      counted 0x0E03 running t) = true ∧
    leaves (.confirmationDone 1 4 2) ((shadowed confirming).with [(CAL_SHADOW_CFG.LFS, 0)]) (fun t => t.cal.shadows == [{ oneShadow with left := 1 }] &&
      t.get CAL_SHADOW_COUNT.UNRESOLVED == 1) = true := by decide +kernel
set_option maxRecDepth 100000 in
theorem test_repair : leaves (.fencedSignOfLife 1 1 5 0) (shadowed oneShadow) (fun t => t.cal.field == [⟨1, 5, 0, 4⟩, ⟨3, 9, 0, 65535⟩]) = true ∧
    leaves (.fencedSignOfLife 1 3 9 0) (shadowed oneShadow) (fun t => t.cal.field == [⟨1, 5, 0, 3⟩, ⟨3, 9, 0, 65535⟩]) = true ∧
    leaves (.repairPass 1) (shadowed oneShadow) (fun t => t.flag CAL_REPAIR_CTRL.PASS) = true ∧
    leaves (.repairPassDone 1 [1, 7]) ((shadowed oneShadow).with [(CAL_REPAIR_CTRL.PASS, 1)]) (fun t => !t.flag CAL_REPAIR_CTRL.PASS &&
      t.cal.readmit == [⟨3, 9, 0, 65535⟩] && t.get CAL_REPAIR_STATUS.READMITTED == 1 && t.get CAL_REPAIR_STATUS.STILL_FENCED == 1) = true := by decide +kernel
set_option maxRecDepth 100000 in
theorem test_integrity : leaves (.crcArm 1 19 19 (2 ^ 32 + 6)) running (fun t => (t.rect 19 19).armed && (t.rect 19 19).expCfn == 6 && (t.rect 19 19).armTime == 1 &&
      !(t.rect 19 18).armed && t.rdN (rectReg 19 19 0x10) == 6) = true ∧
    codeKnown 0x0602 = true ∧ codeKnown 0x0600 = false ∧
    leaves (.eventRaised 1 0x0602 65535 1 2 3) running (fun t => counted 0x0602 running t && t.eventCount 0x0601 == 0) = true := by decide +kernel

end Sys2Proof.Machine
end

section
/-! What the latched reads keep (R9, R59), function by function: GLB's latched halves and GLB_SYSTIME_LO's three values stand through
every function but the reads themselves and a held reset. A function that keeps the part GLB whole keeps them by its frame; the rest
are taken apart. -/
namespace Sys2Proof.Machine

/-- No bound on the registers: the frames here are about the parts of the state alone. -/
def anyReg (_ : Nat) : Prop := True
/-- Every part but GLB. -/
def offGlb (p : Part) : Prop := p ≠ .glb
/-- No bound on HBM3E. -/
def anyDram (_ : List Host.Cell) : Prop := True

@[simp] theorem anyReg_intro (a : Nat) : anyReg a := trivial
@[simp] theorem anyDram_intro (m : List Host.Cell) : anyDram m := trivial
@[simp] theorem offGlb_iff (p : Part) : offGlb p ↔ p ≠ .glb := Iff.rfl
@[simp] theorem ev_any (K : Part → Prop) : Ev anyReg K ↔ K .int := by simp [Ev]
@[simp] theorem dramOk_any : DramOk anyDram := ⟨fun _ _ _ _ => trivial, fun _ _ _ _ => trivial⟩
@[simp] theorem fr_any (K : Part → Prop) (s : State) : Fr anyDram anyReg K s s := Fr.start trivial

/-- What the latched reads keep (R9, R59). -/
def GlbSt.latches (g : GlbSt) : Tbl Word × Bool × Nat × Nat × Nat := (g.latchHi, g.sysRead, g.sysHi, g.sysLfn, g.sysPhase)

/-- What the latched reads keep in a state. -/
def State.latches (s : State) : Tbl Word × Bool × Nat × Nat × Nat := s.glb.latches

theorem State.latches_congr {s t : State} (h : t.glb = s.glb) : t.latches = s.latches := by
  simp only [State.latches, h]

theorem Fr.latches {s t : State} (h : Fr anyDram anyReg offGlb s t) : t.latches = s.latches :=
  State.latches_congr (h.frame.2 .glb (by simp))

section
variable (s : State)

@[simp] theorem State.put_latches (f : Fld) (v : Nat) : (s.put f v).latches = s.latches :=
  State.latches_congr rfl
@[simp] theorem State.putB_latches (f : Fld) (b : Bool) : (s.putB f b).latches = s.latches :=
  State.latches_congr rfl
@[simp] theorem State.putSat_latches (f : Fld) (v : Nat) : (s.putSat f v).latches = s.latches :=
  State.latches_congr rfl
@[simp] theorem State.inc_latches (f : Fld) : (s.inc f).latches = s.latches :=
  State.latches_congr rfl
@[simp] theorem State.wrN_latches (a n : Nat) : (s.wrN a n).latches = s.latches :=
  State.latches_congr rfl
@[simp] theorem State.raise_latches (c a0 a1 a2 : Nat) : (s.raise c a0 a1 a2).latches = s.latches :=
  State.latches_congr (s.raise_glb c a0 a1 a2)
@[simp] theorem State.raiseB_latches (c a0 a1 a2 : Nat) : (s.raiseB c a0 a1 a2).latches = s.latches :=
  State.latches_congr (s.raiseB_glb c a0 a1 a2)
@[simp] theorem State.accessEvent_latches (w k n : Nat) : (s.accessEvent w k n).latches = s.latches :=
  State.latches_congr (s.accessEvent_glb w k n)

variable {s}

theorem State.onLiveIf_latches {b : Bool} {f : State → State} (h : ∀ t, (f t).latches = t.latches) :
    (s.onLiveIf b f).latches = s.latches := by
  unfold State.onLiveIf
  split
  · exact h s
  · rfl

theorem State.onLive_latches {f : State → State} (h : ∀ t, (f t).latches = t.latches) :
    (s.onLive f).latches = s.latches := by
  unfold State.onLive
  split
  · exact h s
  · rfl

theorem foldOver_latches {α : Type} {l : List α} {f : α → State → State} (h : ∀ a t, (f a t).latches = t.latches) :
    (foldOver l f s).latches = s.latches :=
  foldOver_rel (R := fun s t => State.latches t = s.latches) (fun _ => rfl) (fun h1 h2 => h2.trans h1) (fun a _ t => h a t) s

theorem onMsg_latches {dt j : Nat} {sts : List Nat} {f : State → State} (h : ∀ t, (f t).latches = t.latches) :
    (onMsg dt j sts s f).latches = s.latches :=
  State.onLiveIf_latches (s := s.tick dt) fun _ => h _

theorem tickLive_latches {dt : Nat} {f : State → State} (h : ∀ t, (f t).latches = t.latches) :
    ((s.tick dt).onLive f).latches = s.latches :=
  (State.onLive_latches h).trans (State.latches_congr rfl)

theorem tickLiveIf_latches {dt : Nat} {b : Bool} {f : State → State} (h : ∀ t, (f t).latches = t.latches) :
    ((s.tick dt).onLiveIf b f).latches = s.latches :=
  (State.onLiveIf_latches h).trans (State.latches_congr rfl)

theorem latches_ite {c : Prop} [Decidable c] {a b : State} (ha : a.latches = s.latches) (hb : b.latches = s.latches) :
    (if c then a else b).latches = s.latches := by rw [apply_ite State.latches, ha, hb, ite_self]

theorem startIf_latches {v bit : Nat} {f : State → State} (h : ∀ t, (f t).latches = t.latches) :
    (startIf v bit f s).latches = s.latches := by
  unfold startIf
  split
  · exact h s
  · rfl
end

section
variable (now fresh : Nat) (out : List OutMsg) (regs act : Tbl Word) (glb : GlbSt) (tim : TimSt) (cfg : CfgSt) (hif : HifSt)
  (mem : MemSt) (int : IntSt) (cmp : CmpSt) (col : ColSt) (pln : PlnSt) (seq : SeqSt) (apt : AptSt) (scn : ScnSt) (lmp : LmpSt)
  (lan : LanSt) (lxs : LxsSt) (mtr : MtrSt) (thm : ThmSt) (cal : CalSt) (pending : List Instr)

@[simp] theorem State.latches_mk :
    (State.mk now fresh out regs act glb tim cfg hif mem int cmp col pln seq apt scn lmp lan lxs mtr thm cal pending).latches =
      glb.latches := (rfl)
end

@[simp] theorem GlbSt.latches_mk (pwrOk inReset held hwClass : Bool) (resetKind resetTime bootTime : Nat)
    (bootSel booting started : Bool) (bootTiming : List Nat) (fellBack : Bool) (timingAt : Option Nat) (latchHi : Tbl Word)
    (sysRead : Bool) (sysHi sysLfn sysPhase snapTarget : Nat) (snapNext : Bool) (snapTime : Nat) (snapWords : List Nat) :
    (GlbSt.mk pwrOk inReset held hwClass resetKind resetTime bootTime bootSel booting started bootTiming fellBack timingAt
      latchHi sysRead sysHi sysLfn sysPhase snapTarget snapNext snapTime snapWords).latches =
      (latchHi, sysRead, sysHi, sysLfn, sysPhase) := (rfl)

@[simp] theorem GlbSt.latches_fold (g : GlbSt) : (g.latchHi, g.sysRead, g.sysHi, g.sysLfn, g.sysPhase) = g.latches := (rfl)

@[simp] theorem State.glb_latches (s : State) : s.glb.latches = s.latches := (rfl)


section
variable (s : State)

@[simp] theorem State.setRef_latches (r : Nat) (x : RefSt) : (s.setRef r x).latches = s.latches :=
  State.latches_congr rfl
@[simp] theorem State.incSat_latches (f : Fld) (n : Nat) : (s.incSat f n).latches = s.latches :=
  State.latches_congr rfl
@[simp] theorem State.tick_latches (dt : Nat) : (s.tick dt).latches = s.latches :=
  Fr.latches (by apply State.tick_frame ; simp)
@[simp] theorem State.resetReg_latches (a : Nat) : (s.resetReg a).latches = s.latches :=
  Fr.latches (by apply State.resetReg_frame <;> simp)
@[simp] theorem State.actWr_latches (a : Nat) (w : Word) : (s.actWr a w).latches = s.latches :=
  Fr.latches (by apply State.actWr_frame <;> simp)
@[simp] theorem State.useFree_latches : s.useFree.latches = s.latches :=
  Fr.latches (by apply State.useFree_frame <;> simp)
@[simp] theorem State.showHeld_latches (f : Nat) : (s.showHeld f).latches = s.latches :=
  Fr.latches (by apply State.showHeld_frame <;> simp)
@[simp] theorem State.showFenced_latches : s.showFenced.latches = s.latches :=
  Fr.latches (by apply State.showFenced_frame <;> simp)
@[simp] theorem State.applyMemMap_latches : s.applyMemMap.latches = s.latches :=
  Fr.latches (by apply State.applyMemMap_frame <;> simp)
@[simp] theorem State.pumpHost_latches : s.pumpHost.latches = s.latches :=
  Fr.latches (by apply State.pumpHost_frame <;> simp)
@[simp] theorem State.memBusy_latches : s.memBusy.latches = s.latches :=
  Fr.latches (by apply State.memBusy_frame <;> simp)
@[simp] theorem State.wakeStacks_latches (cause : Nat) : (s.wakeStacks cause).latches = s.latches :=
  Fr.latches (by apply State.wakeStacks_frame <;> simp)
@[simp] theorem State.holdGroup_latches (c old : Nat) : (s.holdGroup c old).latches = s.latches :=
  Fr.latches (by apply State.holdGroup_frame <;> simp)
@[simp] theorem doCtxLimitsWrite_latches (dt c i : Nat) (w : Word) : (doCtxLimitsWrite dt c i w s).latches = s.latches :=
  Fr.latches (by apply doCtxLimitsWrite_frame <;> simp)
@[simp] theorem doCmdqDoorbell_latches (dt c tail : Nat) : (doCmdqDoorbell dt c tail s).latches = s.latches :=
  Fr.latches (by apply doCmdqDoorbell_frame <;> simp)
@[simp] theorem doEvqDoorbell_latches (dt q head : Nat) : (doEvqDoorbell dt q head s).latches = s.latches :=
  Fr.latches (by apply doEvqDoorbell_frame <;> simp)
@[simp] theorem State.toggleGen_latches (f : Nat) : (s.toggleGen f).latches = s.latches :=
  Fr.latches (by apply State.toggleGen_frame <;> simp)
@[simp] theorem State.writeMsix_latches (f off v : Nat) : (s.writeMsix f off v).latches = s.latches :=
  Fr.latches (by apply State.writeMsix_frame <;> simp)
@[simp] theorem State.fetchBoundary_latches (lfSteps : Nat) : (s.fetchBoundary lfSteps).latches = s.latches :=
  Fr.latches (by apply State.fetchBoundary_frame <;> simp)
@[simp] theorem State.busyUnless_latches (s before : State) : (s.busyUnless before).latches = s.latches :=
  Fr.latches (by apply State.busyUnless_frame <;> simp)
@[simp] theorem State.coefShow_latches : s.coefShow.latches = s.latches :=
  Fr.latches (by apply State.coefShow_frame <;> simp)
@[simp] theorem State.applyCut_latches : s.applyCut.latches = s.latches :=
  Fr.latches (by apply State.applyCut_frame <;> simp)
@[simp] theorem State.setRefValid_latches (r : Nat) (b : Bool) : (s.setRefValid r b).latches = s.latches :=
  Fr.latches (by apply State.setRefValid_frame <;> simp)
@[simp] theorem State.countLock_latches : s.countLock.latches = s.latches :=
  Fr.latches (by apply State.countLock_frame <;> simp)
@[simp] theorem State.enterDpll_latches (st : Nat) : (s.enterDpll st).latches = s.latches :=
  Fr.latches (by apply State.enterDpll_frame <;> simp)
@[simp] theorem State.refInvalid_latches (r : Nat) : (s.refInvalid r).latches = s.latches :=
  Fr.latches (by apply State.refInvalid_frame <;> simp)
@[simp] theorem State.tenMegReading_latches (hz : Nat) : (s.tenMegReading hz).latches = s.latches :=
  Fr.latches (by apply State.tenMegReading_frame <;> simp)
@[simp] theorem doRefCtrlWrite_latches (dt : Nat) (w : Word) : (doRefCtrlWrite dt w s).latches = s.latches :=
  Fr.latches (by apply doRefCtrlWrite_frame <;> simp)
@[simp] theorem State.selectRef_latches (r : Nat) : (s.selectRef r).latches = s.latches :=
  Fr.latches (by apply State.selectRef_frame <;> simp)
@[simp] theorem State.beginAcquire_latches : s.beginAcquire.latches = s.latches :=
  Fr.latches (by apply State.beginAcquire_frame <;> simp)
@[simp] theorem State.timAdvance_latches : s.timAdvance.latches = s.latches :=
  Fr.latches (by apply State.timAdvance_frame <;> simp)
@[simp] theorem State.timFix_latches : s.timFix.latches = s.latches :=
  Fr.latches (by apply State.timFix_frame <;> simp)
@[simp] theorem doSystimeStepArm_latches (dt : Nat) (w : Word) : (doSystimeStepArm dt w s).latches = s.latches :=
  Fr.latches (by apply doSystimeStepArm_frame <;> simp)
@[simp] theorem State.systimeStep_latches : s.systimeStep.latches = s.latches :=
  Fr.latches (by apply State.systimeStep_frame <;> simp)
@[simp] theorem State.applyColBase_latches : s.applyColBase.latches = s.latches :=
  Fr.latches (by apply State.applyColBase_frame <;> simp)
@[simp] theorem State.loopRefresh_latches : s.loopRefresh.latches = s.latches :=
  Fr.latches (by apply State.loopRefresh_frame <;> simp)
@[simp] theorem State.applyPlaneMap_latches : s.applyPlaneMap.latches = s.latches :=
  Fr.latches (by apply State.applyPlaneMap_frame <;> simp)
@[simp] theorem State.showSlot_latches : s.showSlot.latches = s.latches :=
  Fr.latches (by apply State.showSlot_frame <;> simp)
@[simp] theorem State.selectRanks_latches (stop : Bool) : (s.selectRanks stop).latches = s.latches :=
  Fr.latches (by apply State.selectRanks_frame <;> simp)
@[simp] theorem State.staticBoundary_latches : s.staticBoundary.latches = s.latches :=
  Fr.latches (by apply State.staticBoundary_frame <;> simp)
@[simp] theorem State.dropOldEvents_latches : s.dropOldEvents.latches = s.latches :=
  Fr.latches (by apply State.dropOldEvents_frame <;> simp)
@[simp] theorem State.applyMech_latches : s.applyMech.latches = s.latches :=
  Fr.latches (by apply State.applyMech_frame <;> simp)
@[simp] theorem State.showTiles_latches : s.showTiles.latches = s.latches :=
  Fr.latches (by apply State.showTiles_frame <;> simp)
@[simp] theorem State.powerTiles_latches : s.powerTiles.latches = s.latches :=
  Fr.latches (by apply State.powerTiles_frame <;> simp)
@[simp] theorem State.placeTiles_latches : s.placeTiles.latches = s.latches :=
  Fr.latches (by apply State.placeTiles_frame <;> simp)
@[simp] theorem State.applyLaneMap_latches : s.applyLaneMap.latches = s.latches :=
  Fr.latches (by apply State.applyLaneMap_frame <;> simp)
@[simp] theorem State.showLan_latches : s.showLan.latches = s.latches :=
  Fr.latches (by apply State.showLan_frame <;> simp)
@[simp] theorem State.applyPortCfg_latches : s.applyPortCfg.latches = s.latches :=
  Fr.latches (by apply State.applyPortCfg_frame <;> simp)
@[simp] theorem State.parkAll_latches : s.parkAll.latches = s.latches :=
  Fr.latches (by apply State.parkAll_frame <;> simp)
@[simp] theorem doAptRetrainRequest_latches (dt p : Nat) : (doAptRetrainRequest dt p s).latches = s.latches :=
  Fr.latches (by apply doAptRetrainRequest_frame <;> simp)
@[simp] theorem doAptStatusRequest_latches (dt p : Nat) : (doAptStatusRequest dt p s).latches = s.latches :=
  Fr.latches (by apply doAptStatusRequest_frame <;> simp)
@[simp] theorem State.replayBoundary_latches : s.replayBoundary.latches = s.latches :=
  Fr.latches (by apply State.replayBoundary_frame <;> simp)
@[simp] theorem State.aptBoundary_latches : s.aptBoundary.latches = s.latches :=
  Fr.latches (by apply State.aptBoundary_frame <;> simp)
@[simp] theorem State.latchRects_latches (o : Nat) : (s.latchRects o).latches = s.latches :=
  Fr.latches (by apply State.latchRects_frame <;> simp)
@[simp] theorem State.askPass_latches (kind : PassKind) (cs : List Nat) (o : Nat) : (s.askPass kind cs o).latches = s.latches :=
  Fr.latches (by apply State.askPass_frame <;> simp)
@[simp] theorem doLayerLiveWrite_latches (dt n : Nat) (live : Bool) : (doLayerLiveWrite dt n live s).latches = s.latches :=
  Fr.latches (by apply doLayerLiveWrite_frame <;> simp)
@[simp] theorem doLayerUpdate_latches (dt n : Nat) : (doLayerUpdate dt n s).latches = s.latches :=
  Fr.latches (by apply doLayerUpdate_frame <;> simp)
@[simp] theorem State.setSource_latches (src : Nat) (on : Bool) : (s.setSource src on).latches = s.latches :=
  Fr.latches (by apply State.setSource_frame <;> simp)
@[simp] theorem State.applyLmpMap_latches : s.applyLmpMap.latches = s.latches :=
  Fr.latches (by apply State.applyLmpMap_frame <;> simp)
@[simp] theorem State.checkLamps_latches : s.checkLamps.latches = s.latches :=
  Fr.latches (by apply State.checkLamps_frame <;> simp)
@[simp] theorem State.showLamp_latches : s.showLamp.latches = s.latches :=
  Fr.latches (by apply State.showLamp_frame <;> simp)
@[simp] theorem State.showPos_latches : s.showPos.latches = s.latches :=
  Fr.latches (by apply State.showPos_frame <;> simp)
@[simp] theorem State.hbUpdate_latches : s.hbUpdate.latches = s.latches :=
  Fr.latches (by apply State.hbUpdate_frame <;> simp)
@[simp] theorem State.stopBoundary_latches : s.stopBoundary.latches = s.latches :=
  Fr.latches (by apply State.stopBoundary_frame <;> simp)
@[simp] theorem State.watchdogBoundary_latches : s.watchdogBoundary.latches = s.latches :=
  Fr.latches (by apply State.watchdogBoundary_frame <;> simp)
@[simp] theorem State.allGatesLow_latches : s.allGatesLow.latches = s.latches :=
  Fr.latches (by apply State.allGatesLow_frame <;> simp)
@[simp] theorem doPositionClearFault_latches (dt : Nat) : (doPositionClearFault dt s).latches = s.latches :=
  Fr.latches (by apply doPositionClearFault_frame <;> simp)
@[simp] theorem doInterlockRearm_latches (dt : Nat) : (doInterlockRearm dt s).latches = s.latches :=
  Fr.latches (by apply doInterlockRearm_frame <;> simp)
@[simp] theorem doForceOffWrite_latches (dt : Nat) (on : Bool) : (doForceOffWrite dt on s).latches = s.latches :=
  Fr.latches (by apply doForceOffWrite_frame <;> simp)
@[simp] theorem State.applyScanCfg_latches : s.applyScanCfg.latches = s.latches :=
  Fr.latches (by apply State.applyScanCfg_frame <;> simp)
@[simp] theorem doScanStart_latches (dt n : Nat) : (doScanStart dt n s).latches = s.latches :=
  Fr.latches (by apply doScanStart_frame <;> simp)
@[simp] theorem doScanStop_latches (dt n : Nat) : (doScanStop dt n s).latches = s.latches :=
  Fr.latches (by apply doScanStop_frame <;> simp)
@[simp] theorem State.scanShutdown_latches : s.scanShutdown.latches = s.latches :=
  Fr.latches (by apply State.scanShutdown_frame <;> simp)
@[simp] theorem State.scnBoundary_latches : s.scnBoundary.latches = s.latches :=
  Fr.latches (by apply State.scnBoundary_frame <;> simp)
@[simp] theorem State.milestone_latches (k : Nat) : (s.milestone k).latches = s.latches :=
  Fr.latches (by apply State.milestone_frame <;> simp)
@[simp] theorem State.showBoot_latches : s.showBoot.latches = s.latches :=
  Fr.latches (by apply State.showBoot_frame <;> simp)
@[simp] theorem State.startupUndone_latches : s.startupUndone.latches = s.latches :=
  Fr.latches (by apply State.startupUndone_frame <;> simp)
@[simp] theorem State.applyLxsCfg_latches : s.applyLxsCfg.latches = s.latches :=
  Fr.latches (by apply State.applyLxsCfg_frame <;> simp)
@[simp] theorem doLxsTakeRoot_latches (dt : Nat) : (doLxsTakeRoot dt s).latches = s.latches :=
  Fr.latches (by apply doLxsTakeRoot_frame <;> simp)
@[simp] theorem doLxsPromote_latches (dt : Nat) : (doLxsPromote dt s).latches = s.latches :=
  Fr.latches (by apply doLxsPromote_frame <;> simp)
@[simp] theorem State.absentBoundary_latches : s.absentBoundary.latches = s.latches :=
  Fr.latches (by apply State.absentBoundary_frame <;> simp)
@[simp] theorem doLxsExportBind_latches (dt binding : Nat) : (doLxsExportBind dt binding s).latches = s.latches :=
  Fr.latches (by apply doLxsExportBind_frame <;> simp)
@[simp] theorem doLxsExportUnbind_latches (dt binding : Nat) : (doLxsExportUnbind dt binding s).latches = s.latches :=
  Fr.latches (by apply doLxsExportUnbind_frame <;> simp)
@[simp] theorem State.swapBoundary_latches : s.swapBoundary.latches = s.latches :=
  Fr.latches (by apply State.swapBoundary_frame <;> simp)
@[simp] theorem State.answersBoundary_latches : s.answersBoundary.latches = s.latches :=
  Fr.latches (by apply State.answersBoundary_frame <;> simp)
@[simp] theorem State.timesBoundary_latches : s.timesBoundary.latches = s.latches :=
  Fr.latches (by apply State.timesBoundary_frame <;> simp)
@[simp] theorem State.ownReportBoundary_latches : s.ownReportBoundary.latches = s.latches :=
  Fr.latches (by apply State.ownReportBoundary_frame <;> simp)
@[simp] theorem State.readyAllBoundary_latches : s.readyAllBoundary.latches = s.latches :=
  Fr.latches (by apply State.readyAllBoundary_frame <;> simp)
@[simp] theorem State.askRoleBoundary_latches : s.askRoleBoundary.latches = s.latches :=
  Fr.latches (by apply State.askRoleBoundary_frame <;> simp)
@[simp] theorem doLaneLoopWrite_latches (dt l loop : Nat) : (doLaneLoopWrite dt l loop s).latches = s.latches :=
  Fr.latches (by apply doLaneLoopWrite_frame <;> simp)
@[simp] theorem State.showRes_latches : s.showRes.latches = s.latches :=
  Fr.latches (by apply State.showRes_frame <;> simp)
@[simp] theorem doCalSave_latches (dt : Nat) : (doCalSave dt s).latches = s.latches :=
  Fr.latches (by apply doCalSave_frame <;> simp)
@[simp] theorem State.leaveService_latches (e : FenceEntry) : (s.leaveService e).latches = s.latches :=
  Fr.latches (by apply State.leaveService_frame <;> simp)
@[simp] theorem doColourPut_latches (dt : Nat) : (doColourPut dt s).latches = s.latches :=
  Fr.latches (by apply doColourPut_frame <;> simp)
@[simp] theorem doSessionAbort_latches (dt kind : Nat) : (doSessionAbort dt kind s).latches = s.latches :=
  Fr.latches (by apply doSessionAbort_frame <;> simp)
@[simp] theorem State.showCullet_latches : s.showCullet.latches = s.latches :=
  Fr.latches (by apply State.showCullet_frame <;> simp)
@[simp] theorem State.endSelfTest_latches (ms : Nat) (failed : List UnitId) : (s.endSelfTest ms failed).latches = s.latches :=
  Fr.latches (by apply State.endSelfTest_frame <;> simp)
@[simp] theorem State.reportFail_latches (f : LoadFail) : (s.reportFail f).latches = s.latches :=
  Fr.latches (by apply State.reportFail_frame <;> simp)
@[simp] theorem State.dropReload_latches (f : LoadFail) : (s.dropReload f).latches = s.latches :=
  Fr.latches (by apply State.dropReload_frame <;> simp)
@[simp] theorem State.takeReload_latches (b : List Byte) : (s.takeReload b).latches = s.latches :=
  Fr.latches (by apply State.takeReload_frame <;> simp)
@[simp] theorem State.applyPower_latches : s.applyPower.latches = s.latches :=
  Fr.latches (by apply State.applyPower_frame <;> simp)
@[simp] theorem State.dropHeldSpares_latches : s.dropHeldSpares.latches = s.latches :=
  Fr.latches (by apply State.dropHeldSpares_frame <;> simp)
@[simp] theorem State.powerImage_latches : s.powerImage.latches = s.latches :=
  Fr.latches (by apply State.powerImage_frame <;> simp)
@[simp] theorem State.startParts_latches : s.startParts.latches = s.latches :=
  Fr.latches (by apply State.startParts_frame <;> simp)
@[simp] theorem doRepairPass_latches (dt : Nat) : (doRepairPass dt s).latches = s.latches :=
  Fr.latches (by apply doRepairPass_frame <;> simp)
@[simp] theorem State.calBoundary_latches : s.calBoundary.latches = s.latches :=
  Fr.latches (by apply State.calBoundary_frame <;> simp)
@[simp] theorem State.compileAgain_latches : s.compileAgain.latches = s.latches :=
  Fr.latches (by apply State.compileAgain_frame <;> simp)
@[simp] theorem State.refuseLoad_latches (code : Nat) : (s.refuseLoad code).latches = s.latches :=
  Fr.latches (by apply State.refuseLoad_frame <;> simp)
@[simp] theorem State.startLoad_latches (kind host : Bool) (load : Nat) : (s.startLoad kind host load).latches = s.latches :=
  Fr.latches (by apply State.startLoad_frame <;> simp)
@[simp] theorem doFlashFullLoadRefused_latches (dt : Nat) : (doFlashFullLoadRefused dt s).latches = s.latches :=
  Fr.latches (by apply doFlashFullLoadRefused_frame <;> simp)
@[simp] theorem State.onOpenFuses_latches (f : CfgSt → CfgSt) : (s.onOpenFuses f).latches = s.latches :=
  Fr.latches (by apply State.onOpenFuses_frame <;> simp)
@[simp] theorem doOtpProgramHashByte_latches (dt slot index data : Nat) : (doOtpProgramHashByte dt slot index data s).latches = s.latches :=
  Fr.latches (by apply doOtpProgramHashByte_frame <;> simp)
@[simp] theorem doOtpSetValid_latches (dt slot : Nat) : (doOtpSetValid dt slot s).latches = s.latches :=
  Fr.latches (by apply doOtpSetValid_frame <;> simp)
@[simp] theorem doOtpSetRevoked_latches (dt slot : Nat) : (doOtpSetRevoked dt slot s).latches = s.latches :=
  Fr.latches (by apply doOtpSetRevoked_frame <;> simp)
@[simp] theorem doOtpRaiseFloor_latches (dt data : Nat) : (doOtpRaiseFloor dt data s).latches = s.latches :=
  Fr.latches (by apply doOtpRaiseFloor_frame <;> simp)
@[simp] theorem doOtpLock_latches (dt : Nat) : (doOtpLock dt s).latches = s.latches :=
  Fr.latches (by apply doOtpLock_frame <;> simp)
@[simp] theorem State.showCommits_latches : s.showCommits.latches = s.latches :=
  Fr.latches (by apply State.showCommits_frame <;> simp)
@[simp] theorem State.decideFor_latches (cs : List Nat) : (s.decideFor cs).latches = s.latches :=
  Fr.latches (by apply State.decideFor_frame <;> simp)
@[simp] theorem State.repeatOutputs_latches (started : List Nat) : (s.repeatOutputs started).latches = s.latches :=
  Fr.latches (by apply State.repeatOutputs_frame <;> simp)
@[simp] theorem State.rampDomains_latches : s.rampDomains.latches = s.latches :=
  Fr.latches (by apply State.rampDomains_frame <;> simp)
@[simp] theorem State.orderlyClass_latches : s.orderlyClass.latches = s.latches :=
  Fr.latches (by apply State.orderlyClass_frame <;> simp)
@[simp] theorem State.fastRiseCheck_latches : s.fastRiseCheck.latches = s.latches :=
  Fr.latches (by apply State.fastRiseCheck_frame <;> simp)
@[simp] theorem State.trackRaw_latches (raw : Nat) : (s.trackRaw raw).latches = s.latches :=
  Fr.latches (by apply State.trackRaw_frame <;> simp)
@[simp] theorem State.sensorFault_latches (k : Nat) : (s.sensorFault k).latches = s.latches :=
  Fr.latches (by apply State.sensorFault_frame <;> simp)
@[simp] theorem State.clearFault_latches : s.clearFault.latches = s.latches :=
  Fr.latches (by apply State.clearFault_frame <;> simp)
@[simp] theorem State.useReading_latches (r : Int) : (s.useReading r).latches = s.latches :=
  Fr.latches (by apply State.useReading_frame <;> simp)
@[simp] theorem State.noteConv_latches : s.noteConv.latches = s.latches :=
  Fr.latches (by apply State.noteConv_frame <;> simp)
@[simp] theorem doThmRestartRequest_latches (dt : Nat) : (doThmRestartRequest dt s).latches = s.latches :=
  Fr.latches (by apply doThmRestartRequest_frame <;> simp)
@[simp] theorem doThmForceThrottle_latches (dt : Nat) (on : Bool) : (doThmForceThrottle dt on s).latches = s.latches :=
  Fr.latches (by apply doThmForceThrottle_frame <;> simp)
@[simp] theorem doThmClearFault_latches (dt : Nat) : (doThmClearFault dt s).latches = s.latches :=
  Fr.latches (by apply doThmClearFault_frame <;> simp)
@[simp] theorem State.trimBoundary_latches : s.trimBoundary.latches = s.latches :=
  Fr.latches (by apply State.trimBoundary_frame <;> simp)
@[simp] theorem doCrcArm_latches (dt o r cfn : Nat) : (doCrcArm dt o r cfn s).latches = s.latches :=
  Fr.latches (by apply doCrcArm_frame <;> simp)
@[simp] theorem State.rectChanged_latches (o r : Nat) : (s.rectChanged o r).latches = s.latches :=
  Fr.latches (by apply State.rectChanged_frame <;> simp)
@[simp] theorem State.rateBoundary_latches : s.rateBoundary.latches = s.latches :=
  Fr.latches (by apply State.rateBoundary_frame <;> simp)
@[simp] theorem State.dropHostLayers_latches (f : Nat) (lines : List Nat) : (s.dropHostLayers f lines).latches = s.latches :=
  Fr.latches (by apply State.dropHostLayers_frame <;> simp)
@[simp] theorem State.resetContext_latches (c : Nat) : (s.resetContext c).latches = s.latches :=
  Fr.latches (by apply State.resetContext_frame <;> simp)
@[simp] theorem State.clearMsix_latches (f : Nat) : (s.clearMsix f).latches = s.latches :=
  Fr.latches (by apply State.clearMsix_frame <;> simp)
@[simp] theorem State.perstFns_latches (lo : Nat) : (s.perstFns lo).latches = s.latches :=
  Fr.latches (by apply State.perstFns_frame <;> simp)
@[simp] theorem State.systemStarts_latches : s.systemStarts.latches = s.latches :=
  Fr.latches (by apply State.systemStarts_frame <;> simp)
@[simp] theorem State.endRound_latches : s.endRound.latches = s.latches :=
  Fr.latches (by apply State.endRound_frame <;> simp)
@[simp] theorem State.scanFrame_latches (o : Nat) : (s.scanFrame o).latches = s.latches :=
  Fr.latches (by apply State.scanFrame_frame <;> simp)
@[simp] theorem State.boundaryOrders_latches : s.boundaryOrders.latches = s.latches :=
  Fr.latches (by apply State.boundaryOrders_frame <;> simp)
@[simp] theorem State.compareRects_latches : s.compareRects.latches = s.latches :=
  Fr.latches (by apply State.compareRects_frame <;> simp)
@[simp] theorem State.boundaryPictures_latches : s.boundaryPictures.latches = s.latches :=
  Fr.latches (by apply State.boundaryPictures_frame <;> simp)
@[simp] theorem State.barEvent_latches (f addr kind : Nat) : (s.barEvent f addr kind).latches = s.latches :=
  Fr.latches (by apply State.barEvent_frame <;> simp)
@[simp] theorem State.storeReg_latches (writer a v : Nat) (e : RegEntry) : (s.storeReg writer a v e).latches = s.latches :=
  Fr.latches (by apply State.storeReg_frame <;> simp)
@[simp] theorem State.writeCommit_latches (c v : Nat) : (s.writeCommit c v).latches = s.latches :=
  Fr.latches (by apply State.writeCommit_frame <;> simp)
@[simp] theorem State.startSession_latches (kind : Nat) : (s.startSession kind).latches = s.latches :=
  Fr.latches (by apply State.startSession_frame <;> simp)
@[simp] theorem State.writeMailbox_latches (v : Nat) : (s.writeMailbox v).latches = s.latches :=
  Fr.latches (by apply State.writeMailbox_frame <;> simp)
end

theorem State.refBecomesValid_latches (s : State) (r p : Nat) : (s.refBecomesValid r p).latches = s.latches := by
  unfold State.refBecomesValid
  dsimp only
  split_ifs <;> exact State.setRefValid_latches ..

theorem State.refEdge_latches (s : State) (r lines : Nat) : (s.refEdge r lines).latches = s.latches := by
  unfold State.refEdge
  dsimp only
  split
  · simp
  · simp [apply_ite State.latches, State.refBecomesValid_latches]

theorem doReferenceEdge_latches (dt r aux : Nat) (s : State) : (doReferenceEdge dt r aux s).latches = s.latches := by
  unfold doReferenceEdge
  exact tickLive_latches fun t => by
    split_ifs
    · exact t.tenMegReading_latches _
    · exact t.refEdge_latches r aux
    · rfl

theorem doSnapshotArm_latches (dt : Nat) (b : Bool) (s : State) : (doSnapshotArm dt b s).latches = s.latches := by
  unfold doSnapshotArm
  exact tickLive_latches fun t => by
    extract_lets u st target next
    have hu : u.latches = t.latches := rfl
    split_ifs
    · simp [hu]
    · simp [hu]
    · exact hu

theorem doSnapshotRelease_latches (dt : Nat) (s : State) : (doSnapshotRelease dt s).latches = s.latches := by
  unfold doSnapshotRelease
  exact tickLive_latches fun _ => rfl

theorem doBootFreeFallback_latches (dt : Nat) (s : State) : (doBootFreeFallback dt s).latches = s.latches := by
  unfold doBootFreeFallback
  exact tickLiveIf_latches fun t => by simp

theorem State.startupDone_latches (s : State) : s.startupDone.latches = s.latches := by
  unfold State.startupDone
  split
  · rfl
  · simp [apply_ite State.latches]

theorem doTime_latches (dt j time sub ph lfn late : Nat) (off : Int) (s : State) :
    (doTime dt j time sub ph lfn late off s).latches = s.latches := by
  have hacq (t : State) : ((t.selectRef refLaxus).enterDpll dpllAcquire).latches = t.latches := by simp
  refine onMsg_latches fun t => latches_ite rfl ?_
  extract_lets +onlyGivenNames delay t48 lf phNow ph1 lfn1 dPh dT meas lxs t1 ref t2
  have h2 : t2.latches = t.latches := (State.setRef_latches ..).trans (show t1.latches = _ from State.latches_mk ..)
  clear_value t2
  refine latches_ite ?_ ?_
  · extract_lets +onlyGivenNames start lxs tim t3
    exact (hacq t3).trans ((State.latches_mk ..).trans h2)
  · extract_lets +onlyGivenNames calm offs tim lxs t3 t4
    have h4 : t4.latches = t.latches :=
      (State.putSat_latches ..).trans ((State.put_latches ..).trans ((State.latches_mk ..).trans h2))
    clear_value t4
    exact latches_ite ((State.refBecomesValid_latches ..).trans ((State.putB_latches ..).trans h4)) h4

theorem State.applyAssign_latches (s : State) (a : Assign) : (s.applyAssign a).latches = s.latches := by
  unfold State.applyAssign
  simp [apply_ite State.latches, State.startupDone_latches]

theorem State.assignsBoundary_latches (s : State) : s.assignsBoundary.latches = s.latches := by
  unfold State.assignsBoundary
  simp [apply_ite State.latches, foldOver_latches fun a t => State.applyAssign_latches t a]

theorem State.lxsBoundary_latches (s : State) : s.lxsBoundary.latches = s.latches := by
  unfold State.lxsBoundary
  simp [apply_ite State.latches, State.assignsBoundary_latches]

theorem State.enterSafeIdle_latches (s : State) : s.enterSafeIdle.latches = s.latches := by
  unfold State.enterSafeIdle
  simp [apply_ite State.latches]

theorem State.loadFailed_latches (s : State) (f : LoadFail) : (s.loadFailed f).latches = s.latches := by
  unfold State.loadFailed
  split <;> simp [apply_ite State.latches, State.enterSafeIdle_latches]

theorem State.hostReadFails_latches (s : State) : s.hostReadFails.latches = s.latches := by
  unfold State.hostReadFails
  simp [apply_ite State.latches, State.loadFailed_latches]

theorem State.applyImage_latches (s : State) (b : List Byte) : (s.applyImage b).latches = s.latches := by
  have htopo (l : List Nat) (g : Nat → Nat) (t : State) :
      (foldOver l (fun k t => t.wrN (CFG_TOPO_HASH k) (g k)) t).latches = t.latches := foldOver_latches fun _ _ => rfl
  unfold State.applyImage
  simp [apply_ite State.latches, htopo]

theorem State.checkImage_latches (s : State) (b : List Byte) : (s.checkImage b).latches = s.latches := by
  unfold State.checkImage
  dsimp only
  split
  · simp [State.loadFailed_latches]
  · simp [apply_ite State.latches, State.applyImage_latches]

theorem doSelfTestDone_latches (dt ms : Nat) (failed : List UnitId) (s : State) :
    (doSelfTestDone dt ms failed s).latches = s.latches := by
  unfold doSelfTestDone
  exact tickLiveIf_latches fun t => by
    dsimp only
    split_ifs <;> simp [State.checkImage_latches]

theorem doFlashNoResponse_latches (dt : Nat) (s : State) : (doFlashNoResponse dt s).latches = s.latches := by
  unfold doFlashNoResponse
  exact tickLiveIf_latches fun _ => State.loadFailed_latches ..

theorem doHostReadError_latches (dt : Nat) (s : State) : (doHostReadError dt s).latches = s.latches := by
  unfold doHostReadError
  exact tickLive_latches State.hostReadFails_latches

theorem doHostFullLoad_latches (dt : Nat) (s : State) : (doHostFullLoad dt s).latches = s.latches := by
  unfold doHostFullLoad
  exact tickLive_latches fun t => by simp [apply_ite State.latches, State.hostReadFails_latches]

theorem doReloadFromFlash_latches (dt : Nat) (s : State) : (doReloadFromFlash dt s).latches = s.latches := by
  unfold doReloadFromFlash
  refine tickLive_latches fun t => ?_
  dsimp only
  exact latches_ite (by simp) (latches_ite (by simp) (by simp [State.loadFailed_latches]))

theorem doReloadFromHost_latches (dt : Nat) (s : State) : (doReloadFromHost dt s).latches = s.latches := by
  unfold doReloadFromHost
  refine tickLive_latches fun t => ?_
  dsimp only
  exact latches_ite (by simp) (latches_ite (by simp) (by simp [State.hostReadFails_latches]))

theorem doImageLoadDone_latches (dt : Nat) (bytes : List Byte) (s : State) : (doImageLoadDone dt bytes s).latches = s.latches := by
  unfold doImageLoadDone
  exact tickLiveIf_latches fun t => by
    dsimp only
    split
    · exact t.loadFailed_latches _
    split
    · simp [State.loadFailed_latches]
    split_ifs <;> simp [State.checkImage_latches]

theorem State.hardwareClass_latches (s : State) : s.hardwareClass.latches = s.latches := by
  unfold State.hardwareClass
  simp

theorem State.enterShutdown_latches (s : State) (cause : Nat) : (s.enterShutdown cause).latches = s.latches := by
  unfold State.enterShutdown
  simp [apply_ite State.latches, State.hardwareClass_latches]

theorem State.beginRestart_latches (s : State) (automatic : Bool) : (s.beginRestart automatic).latches = s.latches := by
  unfold State.beginRestart
  simp [apply_ite State.latches]

theorem State.restartCheck_latches (s : State) : s.restartCheck.latches = s.latches := by
  unfold State.restartCheck
  simp [apply_ite State.latches, State.beginRestart_latches]

theorem State.restartDone_latches (s : State) : s.restartDone.latches = s.latches := by
  unfold State.restartDone
  simp [foldOver_latches, State.startupDone_latches]

theorem State.dieCauses_latches (s : State) (before : Int) (faultBefore : Bool) :
    (s.dieCauses before faultBefore).latches = s.latches := by
  unfold State.dieCauses
  simp [apply_ite State.latches, State.enterShutdown_latches]

theorem State.convert_latches (s : State) (raw : Nat) (reading : Option Int) (check : Nat) :
    (s.convert raw reading check).latches = s.latches := by
  unfold State.convert
  dsimp only
  split <;> simp [apply_ite State.latches, State.dieCauses_latches, State.restartCheck_latches]

theorem doThmConversion_latches (dt raw : Nat) (reading : Option Int) (check : Nat) (s : State) :
    (doThmConversion dt raw reading check s).latches = s.latches := by
  unfold doThmConversion
  simp [apply_ite State.latches, State.convert_latches]

theorem doThmForceShutdown_latches (dt : Nat) (s : State) : (doThmForceShutdown dt s).latches = s.latches := by
  unfold doThmForceShutdown
  exact tickLive_latches fun _ => State.enterShutdown_latches ..

theorem State.stackCauses_latches (s : State) (st before : Nat) : (s.stackCauses st before).latches = s.latches := by
  unfold State.stackCauses
  simp [apply_ite State.latches, State.enterShutdown_latches]

theorem doStackTempRead_latches (dt st : Nat) (reading : Option Int) (s : State) :
    (doStackTempRead dt st reading s).latches = s.latches := by
  unfold doStackTempRead
  exact tickLiveIf_latches fun t => by
    dsimp only
    split <;> simp [apply_ite State.latches, State.stackCauses_latches]

theorem State.snapshotBoundary_latches (s : State) : s.snapshotBoundary.latches = s.latches := by
  unfold State.snapshotBoundary
  simp [apply_ite State.latches]

theorem doMasterEnableClear_latches (dt f : Nat) (lines : List Nat) (s : State) :
    (doMasterEnableClear dt f lines s).latches = s.latches := by
  unfold doMasterEnableClear
  exact tickLiveIf_latches fun t => by simp [apply_ite State.latches, State.hostReadFails_latches]

theorem doFunctionLevelReset_latches (dt f : Nat) (s : State) : (doFunctionLevelReset dt f s).latches = s.latches := by
  unfold doFunctionLevelReset
  exact tickLiveIf_latches fun t => by simp [apply_ite State.latches, State.hostReadFails_latches, foldOver_latches]

theorem State.endpointDown_latches (s : State) : s.endpointDown.latches = s.latches := by
  unfold State.endpointDown
  simp [State.hostReadFails_latches]

theorem doPerstAssert_latches (dt : Nat) (s : State) : (doPerstAssert dt s).latches = s.latches := by
  unfold doPerstAssert
  exact latches_ite (by simp) ((State.onLive_latches State.endpointDown_latches).trans (by simp))

theorem doLinkDown_latches (dt : Nat) (s : State) : (doLinkDown dt s).latches = s.latches := by
  unfold doLinkDown
  exact tickLiveIf_latches State.endpointDown_latches

theorem doResetAssert_latches (dt : Nat) (power : Bool) (s : State) : (doResetAssert dt power s).latches = s.latches := by
  unfold doResetAssert
  dsimp only
  split_ifs <;> simp [State.hardwareClass_latches]

theorem State.bootSource_latches (s : State) (flash : Nat) (dir : List Byte) : (s.bootSource flash dir).latches = s.latches := by
  unfold State.bootSource
  simp [apply_ite State.latches, State.enterSafeIdle_latches, State.loadFailed_latches]

theorem doBoot_latches (dt : Nat) (bootSel : Bool) (flash : Nat) (dir : List Byte) (s : State) :
    (doBoot dt bootSel flash dir s).latches = s.latches := by
  unfold doBoot
  simp [apply_ite State.latches, State.bootSource_latches, foldOver_latches]

theorem State.bootTimingBoundary_latches (s : State) : s.bootTimingBoundary.latches = s.latches := by
  unfold State.bootTimingBoundary
  split
  · simp [apply_ite State.latches, foldOver_latches]
  · rfl

theorem State.startBoundary_latches (s : State) : s.startBoundary.latches = s.latches := by
  unfold State.startBoundary
  simp [apply_ite State.latches, State.startupDone_latches, State.restartDone_latches]

theorem State.boundaryChanges_latches (s : State) : s.boundaryChanges.latches = s.latches := by
  unfold State.boundaryChanges
  simp [State.bootTimingBoundary_latches, State.startBoundary_latches]

theorem State.boundaryBlocks_latches (s : State) : s.boundaryBlocks.latches = s.latches := by
  unfold State.boundaryBlocks
  simp [apply_ite State.latches, foldOver_latches, State.lxsBoundary_latches, State.snapshotBoundary_latches]

theorem doLfBoundary_latches (s : State) : (doLfBoundary s).latches = s.latches := by
  unfold doLfBoundary
  exact State.onLive_latches fun t => by
    simp [foldOver_latches, State.boundaryChanges_latches, State.boundaryBlocks_latches]

theorem FrO.latches {s t : State} {o : Option State} (h : FrO anyDram anyReg offGlb s o) (e : o = some t) :
    t.latches = s.latches := Fr.latches (h t e)

theorem State.writeCommand_latches {s t : State} {a v : Nat} (h : s.writeCommand a v = some t) : t.latches = s.latches := by
  unfold State.writeCommand at h
  repeat' split at h
  all_goals cases h
  all_goals simp [doHostFullLoad_latches, doReloadFromFlash_latches, doReloadFromHost_latches]

theorem State.afterWrite_latches (s : State) (a v : Nat) : (s.afterWrite a v).latches = s.latches := by
  unfold State.afterWrite
  repeat refine latches_ite (by
    simp [startIf_latches, doSnapshotArm_latches, doSnapshotRelease_latches, doThmForceShutdown_latches]) ?_
  split
  · exact latches_ite (by simp [startIf_latches]) rfl
  split
  · exact latches_ite (by simp [startIf_latches]) rfl
  · rfl

theorem State.writeReg_latches (s : State) (writer a v : Nat) : (s.writeReg writer a v).latches = s.latches := by
  have hcmd {t : State} (h : (s.writeCommand a v).or (s.writeWindow writer a v) = some t) : t.latches = s.latches := by
    rcases Option.or_eq_some_iff.mp h with hc | ⟨-, hw⟩
    · exact State.writeCommand_latches hc
    · exact FrO.latches (by apply State.writeWindow_frame <;> simp) hw
  unfold State.writeReg
  split
  · simp
  dsimp only
  refine latches_ite (by simp) (latches_ite (by simp) (latches_ite (by simp) ?_))
  split
  · exact hcmd ‹_›
  repeat' split
  all_goals simp [startIf_latches, State.afterWrite_latches]

theorem State.writePage_latches (s : State) (c off v : Nat) : (s.writePage c off v).latches = s.latches := by
  unfold State.writePage
  dsimp only
  refine latches_ite (by simp) ?_
  split
  · split
    · exact State.writeReg_latches ..
    · rfl
  split
  · next t ht => exact FrO.latches (o := s.writePageCommand c off v) (by apply State.writePageCommand_frame <;> simp) ht
  · exact State.writeReg_latches ..

theorem State.write32_latches (s : State) (f addr v : Nat) : (s.write32 f addr v).latches = s.latches := by
  unfold State.write32
  dsimp only
  refine latches_ite rfl ?_
  split <;> simp [State.writeReg_latches, State.writePage_latches]

theorem State.barWrite_latches (s : State) (f addr width v : Nat) : (s.barWrite f addr width v).latches = s.latches := by
  unfold State.barWrite
  simp [apply_ite State.latches, State.write32_latches]

theorem doRegisterWrite_latches (dt f addr width value : Nat) (s : State) :
    (doRegisterWrite dt f addr width value s).latches = s.latches := by
  unfold doRegisterWrite
  exact tickLive_latches fun t => by simp [State.barWrite_latches]

end Sys2Proof.Machine
end

section
/-! Every command moves the parts of its footprint alone, and only reads and a reset move what the latched reads keep. -/
namespace Sys2Proof.Machine

/-- Every command answers a state that moves the parts of its footprint alone. -/
theorem exec_frame_parts (i : Instr) (s : State) :
    ∃ t, exec i s = .next t ∧ Fr anyDram anyReg (· ∈ (footprint i).2) s t := by
  cases i <;> refine ⟨_, rfl, ?_⟩ <;> dsimp only [footprint]
  case registerWrite => apply doRegisterWrite_frame <;> simp [allParts_mem]
  case latchedPairRead => apply doLatchedPairRead_frame <;> simp
  case systimeLoRead => apply doSystimeLoRead_frame <;> simp
  case lfBoundary => apply doLfBoundary_frame <;> simp
  case groupTimeout => apply doGroupTimeout_frame <;> simp
  case eventDelivery => apply doEventDelivery_frame <;> simp
  case planeLoadStart => apply doPlaneLoadStart_frame <;> simp
  case mirrorReset => apply doMirrorReset_frame <;> simp
  case gateEdge => apply doGateEdge_frame <;> simp
  case currentStep => apply doCurrentStep_frame <;> simp
  case chainLatch => apply doChainLatch_frame <;> simp
  case scanEnableEdge => apply doScanEnableEdge_frame <;> simp
  case referenceSample => apply doReferenceSample_frame <;> simp
  case commitDecisionPoint => apply doCommitDecisionPoint_frame <;> simp
  case hbmRetrainWindow => apply doHbmRetrainWindow_frame <;> simp
  case armedEventTrigger => apply doArmedEventTrigger_frame <;> simp
  case referenceEdge => apply doReferenceEdge_frame <;> simp
  case referenceMissing => apply doReferenceMissing_frame <;> simp
  case holdoverExpired => apply doHoldoverExpired_frame <;> simp
  case referenceRevert => apply doReferenceRevert_frame <;> simp
  case dpllLocked => apply_rules [State.showBoot_frame, doDpllLocked_frame] <;> simp
  case pullinDone => apply doPullinDone_frame <;> simp
  case refCtrlWrite => apply doRefCtrlWrite_frame <;> simp
  case shutterEdge => apply doShutterEdge_frame <;> simp
  case shutterLost => apply doShutterLost_frame <;> simp
  case shutterLateCloseCut => apply doShutterLateCloseCut_frame <;> simp
  case systimeStepArm => apply doSystimeStepArm_frame <;> simp
  case snapshotArm => apply doSnapshotArm_frame <;> simp
  case snapshotRelease => apply doSnapshotRelease_frame <;> simp
  case boot => apply doBoot_frame <;> simp
  case flashNoResponse => apply doFlashNoResponse_frame <;> simp
  case imageLoadDone => apply_rules [State.showBoot_frame, doImageLoadDone_frame] <;> simp
  case hostFullLoad => apply doHostFullLoad_frame <;> simp
  case flashFullLoadRefused => apply doFlashFullLoadRefused_frame <;> simp
  case reloadFromFlash => apply doReloadFromFlash_frame <;> simp
  case reloadFromHost => apply doReloadFromHost_frame <;> simp
  case hostReadError => apply doHostReadError_frame <;> simp
  case reloadReady => apply doReloadReady_frame <;> simp
  case otpProgramHashByte => apply doOtpProgramHashByte_frame <;> simp
  case otpSetValid => apply doOtpSetValid_frame <;> simp
  case otpSetRevoked => apply doOtpSetRevoked_frame <;> simp
  case otpRaiseFloor => apply doOtpRaiseFloor_frame <;> simp
  case otpLock => apply doOtpLock_frame <;> simp
  case selfTestDone => apply_rules [State.showBoot_frame, doSelfTestDone_frame] <;> simp
  case apertureWrite => apply doApertureWrite_frame <;> simp
  case apertureRead => apply doApertureRead_frame <;> simp
  case cmdqDoorbell => apply doCmdqDoorbell_frame <;> simp
  case cmdAlloc => apply doCmdAlloc_frame <;> simp
  case cmdFree => apply doCmdFree_frame <;> simp
  case cmdMapHost => apply doCmdMapHost_frame <;> simp
  case cmdMapRemote => apply doCmdMapRemote_frame <;> simp
  case cmdMapGrant => apply doCmdMapGrant_frame <;> simp
  case cmdUnmap => apply doCmdUnmap_frame <;> simp
  case cmdGrant => apply doCmdGrant_frame <;> simp
  case cmdRevoke => apply doCmdRevoke_frame <;> simp
  case cmdFence => apply doCmdFence_frame <;> simp
  case cmdBadOpcode => apply doCmdBadOpcode_frame <;> simp
  case pageScrubDone => apply doPageScrubDone_frame <;> simp
  case evqDoorbell => apply doEvqDoorbell_frame <;> simp
  case layerAllocate => apply doLayerAllocate_frame <;> simp
  case layerRelease => apply doLayerRelease_frame <;> simp
  case ctxLimitsWrite => apply doCtxLimitsWrite_frame <;> simp
  case commitRequest => apply doCommitRequest_frame <;> simp
  case commitCancel => apply doCommitCancel_frame <;> simp
  case commitAdmit => apply doCommitAdmit_frame <;> simp
  case formingPassDone => apply_rules [State.showCommits_frame, doFormingPassDone_frame] <;> simp
  case fetchWindowEnd => apply doFetchWindowEnd_frame <;> simp
  case eventQueueWrite => apply doEventQueueWrite_frame <;> simp
  case msixModTimeout => apply doMsixModTimeout_frame <;> simp
  case masterEnableClear => apply doMasterEnableClear_frame <;> simp
  case masterEnableSet => apply doMasterEnableSet_frame <;> simp
  case functionLevelReset => apply doFunctionLevelReset_frame <;> simp
  case contextReset => apply doContextReset_frame <;> simp
  case perstAssert => apply doPerstAssert_frame <;> simp
  case perstRelease => apply doPerstRelease_frame <;> simp
  case linkDown => apply doLinkDown_frame <;> simp
  case vfEnable => apply doVfEnable_frame <;> simp
  case staleCompletion => apply doStaleCompletion_frame <;> simp
  case hostCompletionTimeout => apply doHostCompletionTimeout_frame <;> simp
  case memRequest => apply doMemRequest_frame <;> simp
  case pcCommandIssue => apply doPcCommandIssue_frame <;> simp
  case memCompletion => apply doMemCompletion_frame <;> simp
  case deadlineMiss => apply doDeadlineMiss_frame <;> simp
  case refreshDue => apply doRefreshDue_frame <;> simp
  case stackTempRead => apply doStackTempRead_frame <;> simp
  case retrainOverdue => apply doRetrainOverdue_frame <;> simp
  case parityError => apply doParityError_frame <;> simp
  case selfRefreshEntry => apply doSelfRefreshEntry_frame <;> simp
  case selfRefreshExit => apply doSelfRefreshExit_frame <;> simp
  case patrolScrub => apply doPatrolScrub_frame <;> simp
  case hbmTrainingDone => apply_rules [State.showBoot_frame, doHbmTrainingDone_frame] <;> simp
  case layerLiveWrite => apply doLayerLiveWrite_frame <;> simp
  case layerUpdate => apply doLayerUpdate_frame <;> simp
  case tableLoadDone => apply_rules [State.showCommits_frame, doTableLoadDone_frame] <;> simp
  case layerUnderrun => apply doLayerUnderrun_frame <;> simp
  case writebackDone => apply doWritebackDone_frame <;> simp
  case bookBuildDone => apply_rules [State.showCommits_frame, doBookBuildDone_frame] <;> simp
  case tailDone => apply_rules [State.showCommits_frame, doTailDone_frame] <;> simp
  case storeZeroDone => apply_rules [State.showBoot_frame, doStoreZeroDone_frame] <;> simp
  case storeScrub => apply doStoreScrub_frame <;> simp
  case spareRowCopyDone => apply doSpareRowCopyDone_frame <;> simp
  case compileStart => apply doCompileStart_frame <;> simp
  case compileDone => apply_rules [State.showCommits_frame, doCompileDone_frame] <;> simp
  case replayEnter => apply doReplayEnter_frame <;> simp
  case staticEnter => apply doStaticEnter_frame <;> simp
  case loadDeadline => apply doLoadDeadline_frame <;> simp
  case teInClose => apply doTeInClose_frame <;> simp
  case bcTemp => apply doBcTemp_frame <;> simp
  case bcTe => apply doBcTe_frame <;> simp
  case bcError => apply doBcError_frame <;> simp
  case bcHealth => apply doBcHealth_frame <;> simp
  case bcStatus => apply doBcStatus_frame <;> simp
  case bcRetrainReq => apply doBcRetrainReq_frame <;> simp
  case bcEcho => apply doBcEcho_frame <;> simp
  case bcEpoch => apply doBcEpoch_frame <;> simp
  case bcLost => apply doBcLost_frame <;> simp
  case portTrained => apply_rules [State.showBoot_frame, doPortTrained_frame] <;> simp
  case portAligned => apply_rules [State.showBoot_frame, doPortAligned_frame] <;> simp
  case portTrainTimeout => apply_rules [State.showBoot_frame, doPortTrainTimeout_frame] <;> simp
  case portFaultRetry => apply doPortFaultRetry_frame <;> simp
  case aptRetrainRequest => apply doAptRetrainRequest_frame <;> simp
  case aptStatusRequest => apply doAptStatusRequest_frame <;> simp
  case portRetrainDone => apply doPortRetrainDone_frame <;> simp
  case scanStart => apply doScanStart_frame <;> simp
  case scanStop => apply doScanStop_frame <;> simp
  case scanOffsetDone => apply doScanOffsetDone_frame <;> simp
  case scanSearchDone => apply doScanSearchDone_frame <;> simp
  case scanRampDone => apply doScanRampDone_frame <;> simp
  case scanLockDone => apply doScanLockDone_frame <;> simp
  case scanBrakeDone => apply doScanBrakeDone_frame <;> simp
  case turningPoint => apply doTurningPoint_frame <;> simp
  case pixelEdge => apply doPixelEdge_frame <;> simp
  case lineMiss => apply doLineMiss_frame <;> simp
  case scanStall => apply doScanStall_frame <;> simp
  case scanStallRestart => apply doScanStallRestart_frame <;> simp
  case ampLimitEvent => apply doAmpLimitEvent_frame <;> simp
  case chainUpdateStart => apply doChainUpdateStart_frame <;> simp
  case chainUpdateEnd => apply_rules [State.showBoot_frame, doChainUpdateEnd_frame] <;> simp
  case positionClearFault => apply doPositionClearFault_frame <;> simp
  case watchdogToken => apply doWatchdogToken_frame <;> simp
  case watchdogExpiry => apply doWatchdogExpiry_frame <;> simp
  case interlockOpen => apply doInterlockOpen_frame <;> simp
  case interlockClose => apply doInterlockClose_frame <;> simp
  case interlockHoldExpiry => apply doInterlockHoldExpiry_frame <;> simp
  case interlockRearm => apply doInterlockRearm_frame <;> simp
  case forceOffWrite => apply doForceOffWrite_frame <;> simp
  case budgetTick => apply doBudgetTick_frame <;> simp
  case dataFrameRx => apply doDataFrameRx_frame <;> simp
  case trainingFrameRx => apply doTrainingFrameRx_frame <;> simp
  case statusFrameRx => apply doStatusFrameRx_frame <;> simp
  case statusFrameTimeout => apply doStatusFrameTimeout_frame <;> simp
  case laneTrainTimeout => apply doLaneTrainTimeout_frame <;> simp
  case laneWake => apply doLaneWake_frame <;> simp
  case laneWakeTimeout => apply doLaneWakeTimeout_frame <;> simp
  case refclkLost => apply doRefclkLost_frame <;> simp
  case refclkRestored => apply doRefclkRestored_frame <;> simp
  case laneLoopWrite => apply doLaneLoopWrite_frame <;> simp
  case eyeMeasurementDone => apply doEyeMeasurementDone_frame <;> simp
  case lxsPortTrained => apply doLxsPortTrained_frame <;> simp
  case lxsPortFaultRetry => apply doLxsPortFaultRetry_frame <;> simp
  case linkAckTimeout => apply doLinkAckTimeout_frame <;> simp
  case hello => apply doHello_frame <;> simp
  case helloTimer => apply doHelloTimer_frame <;> simp
  case electionComplete => apply doElectionComplete_frame <;> simp
  case attach => apply doAttach_frame <;> simp
  case report => apply doReport_frame <;> simp
  case reportQuietTimeout => apply doReportQuietTimeout_frame <;> simp
  case assign => apply doAssign_frame <;> simp
  case readyAll => apply doReadyAll_frame <;> simp
  case time => apply doTime_frame <;> simp
  case delayReq => apply doDelayReq_frame <;> simp
  case delayResp => apply doDelayResp_frame <;> simp
  case parentTimeout => apply doParentTimeout_frame <;> simp
  case prepareSend => apply doPrepareSend_frame <;> simp
  case prepare => apply doPrepare_frame <;> simp
  case votePoint => apply doVotePoint_frame <;> simp
  case vote => apply doVote_frame <;> simp
  case voteDeadline => apply doVoteDeadline_frame <;> simp
  case rootDecide => apply doRootDecide_frame <;> simp
  case decision => apply_rules [State.showBoot_frame, doDecision_frame] <;> simp
  case commitRoundLost => apply doCommitRoundLost_frame <;> simp
  case drop => apply doDrop_frame <;> simp
  case readReq => apply doReadReq_frame <;> simp
  case readResp => apply doReadResp_frame <;> simp
  case remoteReadTimeout => apply doRemoteReadTimeout_frame <;> simp
  case role => apply doRole_frame <;> simp
  case handover => apply doHandover_frame <;> simp
  case credit => apply doCredit_frame <;> simp
  case lxsRetrain => apply doLxsRetrain_frame <;> simp
  case lxsRetrainDone => apply doLxsRetrainDone_frame <;> simp
  case lxsTakeRoot => apply doLxsTakeRoot_frame <;> simp
  case lxsPromote => apply doLxsPromote_frame <;> simp
  case autoPromote => apply doAutoPromote_frame <;> simp
  case lxsExportBind => apply doLxsExportBind_frame <;> simp
  case lxsExportUnbind => apply doLxsExportUnbind_frame <;> simp
  case laxusAloneTimeout => apply doLaxusAloneTimeout_frame <;> simp
  case mtrLatchObserved => apply doMtrLatchObserved_frame <;> simp
  case mtrGap => apply doMtrGap_frame <;> simp
  case clockFault => apply doClockFault_frame <;> simp
  case sealOpened => apply doSealOpened_frame <;> simp
  case sealClosed => apply doSealClosed_frame <;> simp
  case mtrRecordDue => apply doMtrRecordDue_frame <;> simp
  case mtrStoreWriteDone => apply doMtrStoreWriteDone_frame <;> simp
  case mtrSupplyLoss => apply doMtrSupplyLoss_frame <;> simp
  case mtrPowerUp => apply doMtrPowerUp_frame <;> simp
  case msvcRead => apply doMsvcRead_frame <;> simp
  case msvcStage => apply doMsvcStage_frame <;> simp
  case msvcCommit => apply doMsvcCommit_frame <;> simp
  case msvcDiscard => apply doMsvcDiscard_frame <;> simp
  case readId => apply doReadId_frame <;> simp
  case readStatus => apply doReadStatus_frame <;> simp
  case readRecord => apply doReadRecord_frame <;> simp
  case exportRecord => apply doExportRecord_frame <;> simp
  case readAudit => apply doReadAudit_frame <;> simp
  case readParams => apply doReadParams_frame <;> simp
  case setHostTime => apply doSetHostTime_frame <;> simp
  case readCurrent => apply doReadCurrent_frame <;> simp
  case mtrMbAnswer => apply doMtrMbAnswer_frame <;> simp
  case mtrMbTimeout => apply doMtrMbTimeout_frame <;> simp
  case thmConversion => apply doThmConversion_frame <;> simp
  case graceEnd => apply doGraceEnd_frame <;> simp
  case thmRestartRequest => apply doThmRestartRequest_frame <;> simp
  case thmForceShutdown => apply doThmForceShutdown_frame <;> simp
  case thmForceThrottle => apply doThmForceThrottle_frame <;> simp
  case thmClearFault => apply doThmClearFault_frame <;> simp
  case domainWake => apply doDomainWake_frame <;> simp
  case domainOff => apply doDomainOff_frame <;> simp
  case laneEyeSession => apply doLaneEyeSession_frame <;> simp
  case psenseGainSession => apply doPsenseGainSession_frame <;> simp
  case colourSession => apply doColourSession_frame <;> simp
  case timebaseSession => apply doTimebaseSession_frame <;> simp
  case hbmMarginSession => apply doHbmMarginSession_frame <;> simp
  case sessionAbort => apply doSessionAbort_frame <;> simp
  case sessionEnd => apply doSessionEnd_frame <;> simp
  case colourSlot => apply doColourSlot_frame <;> simp
  case colourPut => apply doColourPut_frame <;> simp
  case colourMeasurementTimeout => apply doColourMeasurementTimeout_frame <;> simp
  case calSave => apply doCalSave_frame <;> simp
  case calStoreWriteDone => apply doCalStoreWriteDone_frame <;> simp
  case calStoreRead => apply_rules [State.showBoot_frame, doCalStoreRead_frame] <;> simp
  case shadowMismatch => apply doShadowMismatch_frame <;> simp
  case confirmationDone => apply doConfirmationDone_frame <;> simp
  case fencedSignOfLife => apply doFencedSignOfLife_frame <;> simp
  case repairPass => apply doRepairPass_frame <;> simp
  case repairPassDone => apply doRepairPassDone_frame <;> simp
  case crcArm => apply doCrcArm_frame <;> simp
  case eventRaised => apply doEventRaised_frame <;> simp
  case resetAssert => apply doResetAssert_frame <;> simp
  case resetHold => apply doResetHold_frame <;> simp [allParts_mem]
  case bootFreeFallback => apply_rules [State.showBoot_frame, doBootFreeFallback_frame] <;> simp
  case snapshotReady => apply doSnapshotReady_frame <;> simp
  case gateClockStop => apply doGateClockStop_frame <;> simp
  case linkUp => apply doLinkUp_frame <;> simp
  case laneSlotTransmit => apply doLaneSlotTransmit_frame <;> simp
  case laneIdleEntry => apply doLaneIdleEntry_frame <;> simp
  case prbsCheckerLock => apply doPrbsCheckerLock_frame <;> simp
  case prbsCheckerLockLoss => apply doPrbsCheckerLockLoss_frame <;> simp
  case meterLinkUp => apply doMeterLinkUp_frame <;> simp

theorem exec_latches_of_footprint {i : Instr} {s t : State} (h : exec i s = .next t) (hp : .glb ∉ (footprint i).2) :
    t.latches = s.latches := by
  obtain ⟨u, hu, hf⟩ := exec_frame_parts i s
  cases hu.symm.trans h
  exact State.latches_congr (hf.frame.2 .glb hp)

/-- No command moves a latched value but a read of the registers of a pair or of GLB_SYSTIME_LO, and a reset. -/
theorem exec_latches {i : Instr} {s t : State} (h : exec i s = .next t) (hr : ∀ dt r, i ≠ .latchedPairRead dt r)
    (hl : ∀ dt, i ≠ .systimeLoRead dt) (hh : ∀ dt short, i ≠ .resetHold dt short) : t.latches = s.latches := by
  cases i with
  | registerWrite dt f addr width value => cases h; exact doRegisterWrite_latches ..
  | latchedPairRead dt r => exact absurd rfl (hr dt r)
  | systimeLoRead dt => exact absurd rfl (hl dt)
  | resetHold dt short => exact absurd rfl (hh dt short)
  | lfBoundary => cases h; exact doLfBoundary_latches ..
  | referenceEdge dt ref aux => cases h; exact doReferenceEdge_latches ..
  | snapshotArm dt atLfn => cases h; exact doSnapshotArm_latches ..
  | snapshotRelease dt => cases h; exact doSnapshotRelease_latches ..
  | boot dt bootSel flash dir => cases h; exact doBoot_latches ..
  | flashNoResponse dt => cases h; exact doFlashNoResponse_latches ..
  | imageLoadDone dt bytes => cases h; exact (State.showBoot_latches _).trans (doImageLoadDone_latches ..)
  | hostFullLoad dt => cases h; exact doHostFullLoad_latches ..
  | reloadFromFlash dt => cases h; exact doReloadFromFlash_latches ..
  | reloadFromHost dt => cases h; exact doReloadFromHost_latches ..
  | hostReadError dt => cases h; exact doHostReadError_latches ..
  | selfTestDone dt ms failed => cases h; exact (State.showBoot_latches _).trans (doSelfTestDone_latches ..)
  | masterEnableClear dt f lines => cases h; exact doMasterEnableClear_latches ..
  | functionLevelReset dt f => cases h; exact doFunctionLevelReset_latches ..
  | perstAssert dt => cases h; exact doPerstAssert_latches ..
  | linkDown dt => cases h; exact doLinkDown_latches ..
  | stackTempRead dt st reading => cases h; exact doStackTempRead_latches ..
  | time dt j time sub ph lfn late off => cases h; exact doTime_latches ..
  | thmConversion dt raw reading check => cases h; exact doThmConversion_latches ..
  | thmForceShutdown dt => cases h; exact doThmForceShutdown_latches ..
  | resetAssert dt power => cases h; exact doResetAssert_latches ..
  | bootFreeFallback dt => cases h; exact (State.showBoot_latches _).trans (doBootFreeFallback_latches ..)
  | _ => exact exec_latches_of_footprint h (by simp [footprint])

end Sys2Proof.Machine
end

section
/-! The registers of 64-bit pairs (R9): where they stand, what a read of one answers, and what it leaves. -/
namespace Sys2Proof.Machine

theorem lookupReg_mem {a : Nat} {e : RegEntry} (h : lookupReg a = some e) : e ∈ blockRegs a ∧ e.has a = true :=
  ⟨List.mem_of_find?_eq_some h, by simpa using List.find?_some h⟩

/-- Where the lower registers of the 64-bit pairs stand (R9): base and dimensions. -/
def pairSpans : List (Nat × List (Nat × Nat)) :=
  [(0x8, []), (0x10, []), (0x100028, []), (0x200014, []), (0x300020, []), (0x10000050, [(0x10000, 1024)]),
    (0x10000020, [(0x10000, 1024)]), (0x10000030, [(0x10000, 1024)]), (0x400028, []), (0x801010, [(0x80, 20)]),
    (0x801018, [(0x80, 20)]), (0x801024, [(0x80, 20), (0x8, 2)]), (0x810010, [(0x100, 256), (0x8, 4)]), (0xC00804, [(0x10, 16)]),
    (0xC00904, [(0x10, 8)]), (0xC01008, [(0x80, 20)]), (0x1000014, []), (0x1000804, [(0x20, 16)]), (0x1800128, [(0x40, 16)]),
    (0x1E01028, [(0x40, 144)]), (0x1E01030, [(0x40, 144)]), (0x2000010, []), (0x2000018, []), (0x2000034, []),
    (0x2000108, [(0x40, 4)])]

/-- Every pair of a table stands in `pairSpans`. -/
def pairsListed (l : List RegEntry) : Bool := l.all fun e => !e.pairLow || pairSpans.contains (e.base, e.dims)

theorem ite_pairsListed {c : Prop} [Decidable c] {l m : List RegEntry} (hl : pairsListed l = true) (hm : pairsListed m = true) :
    pairsListed (if c then l else m) = true := by
  split
  · exact hl
  · exact hm

theorem blockRegs_pairsListed (a : Nat) : pairsListed (blockRegs a) = true := by
  unfold blockRegs
  repeat refine ite_pairsListed (by decide +kernel) ?_
  decide +kernel

theorem pair_in_span {a : Nat} (h : (lookupReg a).any (·.pairLow) = true) :
    ∃ p ∈ pairSpans, p.1 ≤ a ∧ dimsMatch p.2 (a - p.1) = true := by
  obtain ⟨e, he, hp⟩ := (Option.any_eq_true _ _).mp h
  obtain ⟨hm, ha⟩ := lookupReg_mem he
  have hl : pairSpans.contains (e.base, e.dims) = true := by
    simpa [hp] using List.all_eq_true.mp (blockRegs_pairsListed a) e hm
  exact ⟨_, by simpa using hl, by simpa [RegEntry.has] using ha⟩

/-- An address of the upper register of a pair other than system time: none of the registers that answer a read by a rule of their
own, or that a read changes. -/
def UpperHalf (b : Nat) : Prop :=
  4 ≤ b ∧ (b < 0x10 ∨ 0x20 ≤ b) ∧ (b < 0x1000 ∨ 0x2000 ≤ b) ∧ (b < 0x400004 ∨ 0x40000C ≤ b) ∧ (b < 0x400204 ∨ 0x4004C0 ≤ b) ∧
    (b < 0x1800100 ∨ 0x1800500 ≤ b ∨ (b - 0x1800100) % 0x40 = 0x2C) ∧ (b < 0x2201000 ∨ 0x2201800 ≤ b) ∧ b ≠ 0x2300008 ∧
    (b < 0x2500020 ∨ 0x250004C ≤ b) ∧ (ctxBase ≤ b → (b - ctxBase) % 0x10000 ≠ 4 ∧ (b - ctxBase) % 0x10000 < 0x60)

theorem pair_upper {a : Nat} (h : (lookupReg a).any (·.pairLow) = true) (ha : a ≠ GLB_SYSTIME_LO) : UpperHalf (a + 4) := by
  have h := pair_in_span h
  have ha : a ≠ 0x10 := ha
  simp only [pairSpans, dimsMatch, List.mem_cons, List.not_mem_nil, or_false, exists_eq_or_imp, exists_eq_left,
    Bool.and_eq_true, decide_eq_true_eq, beq_iff_eq] at h
  simp only [UpperHalf, ctxBase]
  omega

theorem pair_upper_not_low {a : Nat} (h : (lookupReg a).any (·.pairLow) = true) :
    (lookupReg (a + 4)).any (·.pairLow) = false := by
  rw [← Bool.not_eq_true]
  intro h'
  have h := pair_in_span h
  have h' := pair_in_span h'
  simp only [pairSpans, dimsMatch, List.mem_cons, List.not_mem_nil, or_false, exists_eq_or_imp, exists_eq_left,
    Bool.and_eq_true, decide_eq_true_eq, beq_iff_eq] at h h'
  rcases h with h | h | h | h | h | h | h | h | h | h | h | h | h | h | h | h | h | h | h | h | h | h | h | h | h <;> omega

section
variable (s : State) {a b : Nat}

theorem State.readReg_upperHalf (h : UpperHalf b) : s.readReg b = (tfind s.glb.latchHi (b - 4)).getD (s.rd b) := by
  simp only [UpperHalf, ctxBase] at h
  have happ : ¬ (idxIn b (APT_PORT_CFG 0) 0x40 16).any (fun p => b == APT_PORT_TEMP p) = true := by
    change ¬ (if 0x1800100 ≤ b ∧ b < 0x1800100 + 0x40 * 16 then some ((b - 0x1800100) / 0x40) else none).any _ = true
    split
    · simp only [Option.any_some, beq_iff_eq, APT_PORT_TEMP]
      split <;> omega
    · simp
  unfold State.readReg
  rw [if_neg, if_neg, if_neg, if_neg, if_neg, if_neg, if_neg, if_neg, if_neg, if_neg, if_neg, if_neg, if_neg happ, if_neg]
  · split <;> simp_all
  all_goals simp [GLB_SYSTIME_LO, GLB_SYSTIME_HI, GLB_LFN_LATCHED, GLB_PHASE_LATCHED, MTR_MB_DATA, ctxBase, INT_LOG_DATA,
    INT_CODE_CTRL, INT_CODE_COUNT, MEM_STATUS, MEM_ENG_STATUS]
  all_goals omega

theorem State.readEffect_upperHalf (h : UpperHalf b) (hl : (lookupReg b).any (·.pairLow) = false) :
    s.readEffect b = if thas s.glb.latchHi (b - 4) then
      { s with glb := { s.glb with latchHi := tdel s.glb.latchHi (b - 4) } } else s := by
  simp only [UpperHalf, ctxBase] at h
  have href : ¬ (idxIn b (MEM_CTL_REFRESH 0) 0x20 8).any (fun k => b == MEM_CTL_REFRESH k) = true := by
    change ¬ (if 0x400204 ≤ b ∧ b < 0x400204 + 0x20 * 8 then some ((b - 0x400204) / 0x20) else none).any _ = true
    rw [if_neg (by omega)]
    simp
  unfold State.readEffect
  rw [if_neg, if_neg (by simp [hl]), if_neg, if_neg, if_neg, if_neg href]
  · simp [h]
  all_goals simp [GLB_SYSTIME_LO, THM_TEMP, MEM_INFLIGHT, MEM_ENG_STATUS]
  all_goals omega

theorem State.readEffect_pairLow (hp : (lookupReg a).any (·.pairLow) = true) (ha : a ≠ GLB_SYSTIME_LO) :
    s.readEffect a = { s with glb := { s.glb with latchHi := tset s.glb.latchHi a (s.rd (a + 4)) } } := by
  unfold State.readEffect
  rw [if_neg ha, if_pos hp]

/-- A read moves a latched half only of the pair it is in. -/
theorem State.readEffect_latchHi (ha : b ≠ a) (hb : b ≠ a + 4) :
    tfind (s.readEffect b).glb.latchHi a = tfind s.glb.latchHi a := by
  have howed (k : Nat) : (s.owedRead k).glb = s.glb :=
    (show Fr anyDram anyReg offGlb s (s.owedRead k) by apply State.owedRead_frame <;> simp).frame.2 .glb (by simp)
  unfold State.readEffect
  split_ifs with _ _ _ _ _ _ hh
  · rfl
  · exact tfind_tset_other _ _ (Ne.symm ha)
  · rfl
  · rfl
  · rfl
  · rw [howed]
  · exact (tfind_tdel ..).trans (if_neg (by omega))
  · rfl

theorem State.readEffect_out : (s.readEffect b).out = s.out :=
  (show Fr anyDram anyReg (· ≠ .out) s (s.readEffect b) by apply State.readEffect_frame <;> simp).frame.2 .out (by simp)
end

/-- Registers that a read may change: none that says which registers a function reaches. -/
def readRegs (a : Nat) : Prop := 0x400000 ≤ a ∧ a ≠ 0x40015000

theorem not_readRegs_ctxLimits (c : Nat) : ¬ readRegs (HIF_CTX_LIMITS_0 c) := by
  simp only [readRegs, HIF_CTX_LIMITS_0]
  split <;> omega

section
variable {s t : State} (h : Fr anyDram readRegs (· = .glb) s t)
include h

theorem Fr.fnEnabled_eq (f : Nat) : t.fnEnabled f = s.fnEnabled f := by
  simp only [State.fnEnabled, h.get_eq (f := HIF_STATUS.NUM_VFS) (by simp [readRegs, HIF_STATUS])]

theorem Fr.ctxExists_eq (c : Nat) : t.ctxExists c = s.ctxExists c := by
  have hcfg : t.cfg = s.cfg := h.frame.2 .cfg (by simp)
  have hlim (f off n : Nat) : t.ctxLim f off n = s.ctxLim f off n := by
    simp only [State.ctxLim, State.secLE, State.sec, hcfg]
  simp only [State.ctxExists, h.fnEnabled_eq, hlim, h.flag_eq (f := HIF_CTX_LIMITS_0.ENABLE c) (not_readRegs_ctxLimits c)]

theorem Fr.reaches_eq (f : Nat) (p : BarPlace) : t.reaches f p = s.reaches f p := by
  have hcfg : t.cfg = s.cfg := h.frame.2 .cfg (by simp)
  cases p <;> simp only [State.reaches, h.fnEnabled_eq, hcfg]

theorem Fr.readAt_eq (f addr : Nat) : t.readAt f addr = s.readAt f addr := by
  have hhif : t.hif = s.hif := h.frame.2 .hif (by simp)
  have hwin (c off : Nat) : t.windowKey c off = s.windowKey c off := by
    simp only [State.windowKey, State.layerAt, hhif]
  unfold State.readAt
  dsimp only
  rw [h.reaches_eq]
  cases barPlace f addr <;> simp only [h.ctxExists_eq, hwin]
end

section
variable (s : State) (f addr : Nat)

theorem State.read32_readAt (f' addr' : Nat) : (s.read32 f addr).2.readAt f' addr' = s.readAt f' addr' := by
  refine Fr.readAt_eq ?_ f' addr'
  apply State.read32_frame
  · intro i
    simp only [readRegs, MEM_CTL_REFRESH]
    split <;> omega
  · intro i
    simp only [readRegs, MEM_ENG_STATUS]
    split <;> omega
  · simp [readRegs, MEM_INFLIGHT]
  · simp [readRegs, THM_TEMP]
  · rfl
  · exact Fr.start trivial

variable {s f addr} {a : Nat}

theorem State.read32_of_readAt (h : s.readAt f addr = some a) : s.read32 f addr = ((s.readReg a).toNat, s.readEffect a) := by
  unfold State.read32
  split
  · next hp => simp [State.readAt, hp] at h
  · simp [h]

theorem State.read32_of_not_readAt (h : s.readAt f addr = none) : (s.read32 f addr).2 = s := by
  unfold State.read32
  split
  · rfl
  · simp [h]

theorem State.read32_latchHi (ha : s.readAt f addr ≠ some a) (hb : s.readAt f addr ≠ some (a + 4)) :
    tfind (s.read32 f addr).2.glb.latchHi a = tfind s.glb.latchHi a := by
  cases hr : s.readAt f addr with
  | none => rw [State.read32_of_not_readAt hr]
  | some b =>
    rw [State.read32_of_readAt hr]
    exact State.readEffect_latchHi s (by rintro rfl; exact ha hr) (by rintro rfl; exact hb hr)

theorem State.barEvent_latchHi (k : Nat) : (s.barEvent f addr k).glb.latchHi = s.glb.latchHi :=
  congrArg Prod.fst (s.barEvent_latches f addr k)

/-- A read keeps the latched half of every pair that none of its bytes is in. -/
theorem State.barRead_latchHi {n : Nat} (h : ∀ y, addr ≤ y → y < addr + n →
      s.readAt f (y / 4 * 4) ≠ some a ∧ s.readAt f (y / 4 * 4) ≠ some (a + 4)) :
    tfind (s.barRead f addr n).2.glb.latchHi a = tfind s.glb.latchHi a := by
  have hword (y : Nat) (h0 : addr ≤ y) (h1 : y < addr + n) (h4 : y % 4 = 0) :
      s.readAt f y ≠ some a ∧ s.readAt f y ≠ some (a + 4) := by
    simpa [Nat.div_mul_cancel (Nat.dvd_of_mod_eq_zero h4)] using h y h0 h1
  unfold State.barRead
  split_ifs with h4 h8 h12 hr
  · obtain ⟨rfl, hal⟩ := h4
    obtain ⟨ha, hb⟩ := hword addr le_rfl (by omega) hal
    exact State.read32_latchHi ha hb
  · obtain ⟨rfl, hal⟩ := h8
    obtain ⟨ha, hb⟩ := hword addr le_rfl (by omega) hal
    obtain ⟨ha', hb'⟩ := hword (addr + 4) (by omega) (by omega) (by omega)
    rw [← s.read32_readAt f addr] at ha' hb'
    exact (State.read32_latchHi ha' hb').trans (State.read32_latchHi ha hb)
  · rfl
  · rw [State.barEvent_latchHi]
  · rfl
end

section
variable (s : State) {a b : Nat} {w : Word}

theorem State.readReg_systimeHi (h : s.glb.sysRead = true) : s.readReg GLB_SYSTIME_HI = BitVec.ofNat 32 s.glb.sysHi := by
  simp [State.readReg, GLB_SYSTIME_HI, GLB_SYSTIME_LO, h]

variable {s}

theorem exec_pairRead_live {dt f addr n : Nat} (hl : s.live = true) :
    exec (.latchedPairRead dt ⟨f, addr, n⟩) s = .next (((s.tick dt).barRead f addr n).2.send
      (.readReply f true (leBytes n ((s.tick dt).barRead f addr n).1))) :=
  congrArg Host.Outcome.next (State.onLive_eq (s.tick dt) _ hl)

theorem exec_pairRead_held {dt f addr n : Nat} (hl : s.live = false) :
    exec (.latchedPairRead dt ⟨f, addr, n⟩) s = .next (s.tick dt) := by
  change Host.Outcome.next (if (s.tick dt).live = true then _ else s.tick dt) = _
  rw [if_neg (by simp [hl])]

/-- A 32-bit read that reaches a register answers what the register reads and has the register's effect. -/
theorem exec_pairRead {dt f addr : Nat} (hl : s.live = true) (h4 : addr % 4 = 0) (hr : s.readAt f addr = some a) :
    exec (.latchedPairRead dt ⟨f, addr, 4⟩) s = .next (((s.tick dt).readEffect a).send
      (.readReply f true (leBytes 4 ((s.tick dt).readReg a).toNat))) := by
  have hb : (s.tick dt).barRead f addr 4 = (((s.tick dt).readReg a).toNat, (s.tick dt).readEffect a) :=
    (if_pos ⟨rfl, h4⟩).trans (State.read32_of_readAt (s := s.tick dt) hr)
  rw [exec_pairRead_live hl, hb]

theorem State.readReg_of_latched (hp : (lookupReg a).any (·.pairLow) = true) (ha : a ≠ GLB_SYSTIME_LO)
    (hw : tfind s.glb.latchHi a = some w) : s.readReg (a + 4) = w := by
  rw [s.readReg_upperHalf (pair_upper hp ha), Nat.add_sub_cancel, hw, Option.getD_some]

/-- No command but a read of one of a pair's registers, or a reset, moves the pair's latched half. -/
theorem exec_latchHi {i : Instr} {t : State} (h : exec i s = .next t)
    (hr : ∀ dt f x n, i = .latchedPairRead dt ⟨f, x, n⟩ → ∀ y, x ≤ y → y < x + n →
      s.readAt f (y / 4 * 4) ≠ some a ∧ s.readAt f (y / 4 * 4) ≠ some (a + 4))
    (hh : ∀ dt short, i ≠ .resetHold dt short) : tfind t.glb.latchHi a = tfind s.glb.latchHi a := by
  by_cases hl : ∃ dt, i = .systimeLoRead dt
  · obtain ⟨dt, rfl⟩ := hl
    cases h
    exact congrArg (tfind · a) (show (doSystimeLoRead dt s).glb.latchHi = s.glb.latchHi by
      unfold doSystimeLoRead State.onLive
      split <;> rfl)
  by_cases hp : ∃ dt r, i = .latchedPairRead dt r
  · obtain ⟨dt, ⟨f, x, n⟩, rfl⟩ := hp
    cases hl : s.live with
    | false =>
      rw [exec_pairRead_held hl] at h
      cases h
      rfl
    | true =>
      rw [exec_pairRead_live hl] at h
      cases h
      exact State.barRead_latchHi (s := s.tick dt) (hr dt f x n rfl)
  · have hk := exec_latches h (fun dt r e => hp ⟨dt, r, e⟩) (fun dt e => hl ⟨dt, e⟩) hh
    rw [show t.glb.latchHi = s.glb.latchHi from congrArg Prod.fst hk]
end

/-- Settles O34: a read's effect on the latched halves, and the frame of every other command over them (`exec_latchHi`). -/
theorem pairReadsLatchTheUpperHalf : Obligations.PairReadsLatchTheUpperHalf := by
  unfold Obligations.PairReadsLatchTheUpperHalf
  refine ⟨?_, ?_, ?_, ?_, ?_⟩
  · intro dt f addr a s hl h4 hr hp ha
    have hset : tfind ((s.tick dt).readEffect a).glb.latchHi a = some (s.rd (a + 4)) := by
      rw [State.readEffect_pairLow _ hp ha]
      exact tfind_tset_same ..
    exact ⟨_, exec_pairRead hl h4 hr, hset, State.readReg_of_latched hp ha hset⟩
  · intro dt s hl hr
    refine ⟨_, exec_pairRead hl rfl hr, ?_⟩
    exact State.readReg_systimeHi _ rfl
  · intro i s t a w h hw hr hh
    rw [exec_latchHi h hr hh, hw]
  · intro s a w hp ha hw
    exact State.readReg_of_latched hp ha hw
  · intro dt f addr a w s hl h4 hr hp ha hw
    have heff := (s.tick dt).readEffect_upperHalf (pair_upper hp ha) (pair_upper_not_low hp)
    refine ⟨_, exec_pairRead hl h4 hr, ?_, ?_⟩
    · rw [State.readReg_of_latched (s := s.tick dt) hp ha hw]
      exact congrArg (· ++ [_]) ((s.tick dt).readEffect_out)
    · have hdel : (s.tick dt).readEffect (a + 4) =
          { s.tick dt with glb := { s.glb with latchHi := tdel s.glb.latchHi a } } := by
        rw [heff]
        exact if_pos (by simp [thas, hw])
      exact (congrArg (fun t => tfind (State.glb t).latchHi a) hdel).trans ((tfind_tdel ..).trans (if_pos rfl))

end Sys2Proof.Machine
end

section
/-! A register that a write of the word alone reaches (R10 to R12): which addresses those are, and what REGISTER_WRITE makes of
an RW, an RWS, an RO and an RWL field there. -/
namespace Sys2Proof.Machine

/-- Addresses of their own meaning to a write: commands, what a write sets off, and limits on the word. -/
def routedKeys : List Nat :=
  [MTR_MB_CTRL, HIF_CTRL, TIM_REF_CTRL, TIM_SYSTIME_CTRL, CFG_LOAD_CTRL, CFG_OTP_PROG, HIF_PF_COMMIT, HIF_DEVQ_HEAD, LXS_EXPORT_OP,
    INT_CODE_CTRL, GLB_SNAP_CTRL, SEQ_SLOT_SEL, LMP_SAFETY, LMP_HB, LMP_POS_SEL, LMP_POS_CTRL, LMP_LAMP_SEL, CMP_COEF_SEL, LXS_CTRL,
    LXS_PROMOTE, THM_CTRL, CAL_CTRL, CAL_SESSION, CAL_RES_SEL, CAL_COLOUR_PUT, CAL_REPAIR_CTRL, CAL_FENCE_SEL, COL_LOOP_CFG,
    HIF_DEVQ_CFG, GLB_VCORE_SET, TIM_DPLL_CFG, MEM_RETRAIN_CFG, CAL_SHADOW_CFG, THM_CAP, LMP_PKG_LIMIT, THM_DOM_KEEP 6]

/-- The same for arrays of registers: base, stride and count. -/
def routedRanges : List (Nat × Nat × Nat) :=
  [(HIF_CTX_LIMITS_0 0, 0x10, 1024), (LMP_LAMP_DATA 0, 4, 8), (CMP_COEF_DATA 0, 4, 3), (HIF_GROUP_CTRL 0, 4, 64),
    (LAN_LANE_CFG 0, 0x40, 144), (SCN_ENG_CTRL 0, 0x80, 4), (APT_PORT_CFG 0, 0x40, 16), (LMP_RAIL_LIMIT 0, 0x10, 8),
    (SCN_ENG_LOCK 0, 0x80, 4)]

/-- An address at which a write stores the word and does no more. -/
def PlainKey (a : Nat) : Prop :=
  (∀ k ∈ routedKeys, a ≠ k) ∧ (∀ r ∈ routedRanges, idxIn a r.1 r.2.1 r.2.2 = none) ∧ layerOfKey a = none ∧ rectOfKey a = none ∧
    ¬ (LAN_PRESET 0 0 ≤ a ∧ a ≤ LAN_PRESET 5 2) ∧ ¬ (ctxBase ≤ a ∧ (a - ctxBase) % 0x10000 = 0x28) ∧
    ¬ (ctxBase ≤ a ∧ (a - ctxBase) % 0x10000 = 0x38)

section
variable (s : State) {writer a : Nat} (v : Nat) {e : RegEntry} (hp : PlainKey a)
include hp

theorem State.writeCommand_plain : s.writeCommand a v = none := by
  obtain ⟨hk, hr, -⟩ := hp
  simp only [routedKeys, routedRanges, List.forall_mem_cons] at hk hr
  simp only [State.writeCommand, hk, hr, if_false]

theorem State.writeWindow_plain : s.writeWindow writer a v = none := by
  obtain ⟨-, hr, -⟩ := hp
  simp only [routedRanges, List.forall_mem_cons] at hr
  simp only [State.writeWindow, hr]

theorem State.afterWrite_plain : s.afterWrite a v = s := by
  obtain ⟨hk, hr, -, -, -, -, hevq⟩ := hp
  simp only [routedKeys, routedRanges, List.forall_mem_cons] at hk hr
  simp only [State.afterWrite, hk, hr, hevq, if_false]

theorem State.boundWrite_plain : s.boundWrite writer a v = (s, v) := by
  obtain ⟨hk, hr, hl, -, hpre, hcmdq, hevq⟩ := hp
  simp only [routedKeys, routedRanges, List.forall_mem_cons] at hk hr
  unfold State.boundWrite
  simp only [hk, hr, hl, hpre, if_false]
  split_ifs with hc h28 h38
  · exact absurd ⟨hc, h28⟩ hcmdq
  · exact absurd ⟨hc, h38⟩ hevq
  · rfl
  · rfl

theorem State.writeReg_plain (h : lookupReg a = some e) : s.writeReg writer a v = s.storeReg writer a v e := by
  have hafter (t : State) : t.afterWrite a v = t := t.afterWrite_plain v hp
  have hcmd := s.writeCommand_plain v hp
  have hwin := s.writeWindow_plain (writer := writer) v hp
  obtain ⟨hk, hr, hl, hrect, -⟩ := hp
  simp only [routedKeys, routedRanges, List.forall_mem_cons] at hk hr
  simp [State.writeReg, h, hk, hr, hl, hrect, hafter, hcmd, hwin]
end

/-- What the register tables say of an address: the masks of its RW, RWS and RWL fields, and no field that a write of 1 clears. -/
def fieldsAre (a rw rws rwl : Nat) : Bool :=
  (lookupReg a).any fun e => e.rw == rw && e.rws == rws && e.rwl == rwl && e.w1c == 0

theorem fieldsAre_iff {a rw rws rwl : Nat} : fieldsAre a rw rws rwl = true ↔
    ∃ e, lookupReg a = some e ∧ e.rw = rw ∧ e.rws = rws ∧ e.rwl = rwl ∧ e.w1c = 0 := by
  simp only [fieldsAre, Option.any_eq_true, Bool.and_eq_true, beq_iff_eq, and_assoc]

theorem RegEntry.merge_eq {e : RegEntry} (h : e.w1c = 0) (old v : Nat) (shadow : Bool) :
    e.merge old v shadow = written (if shadow then e.rw ||| e.rws else e.rw) old v := by
  simp [RegEntry.merge, written, h]

theorem written_lt {mask old v : Nat} (ho : old < 2 ^ 32) (hv : v < 2 ^ 32) : written mask old v < 2 ^ 32 :=
  Nat.or_lt_two_pow (lt_of_le_of_lt Nat.and_le_left ho) (lt_of_le_of_lt Nat.and_le_left hv)

theorem written_none {old : Nat} (v : Nat) (ho : old < 2 ^ 32) : written 0 old v = old := by
  have h := Nat.and_two_pow_sub_one_of_lt_two_pow ho
  simpa [written] using h

theorem State.rdN_lt (s : State) (a : Nat) : s.rdN a < 2 ^ 32 := (s.rd a).isLt

theorem State.wrN_rdN_rd (s : State) (a b : Nat) : (s.wrN a (s.rdN a)).rd b = s.rd b := by
  rw [State.rd_wrN]
  split
  · next h => rw [h, State.rdN, BitVec.ofNat_toNat, BitVec.setWidth_eq]
  · rfl

section
variable (s : State) {writer a v m : Nat} (hp : PlainKey a)
include hp

theorem State.writeReg_rw (hf : fieldsAre a m 0 0 = true) :
    s.writeReg writer a v = s.wrN a (written m (s.rdN a) v) := by
  obtain ⟨e, he, hrw, hrws, hrwl, hc⟩ := fieldsAre_iff.mp hf
  rw [s.writeReg_plain v hp he]
  simp [State.storeReg, RegEntry.merge_eq hc, hrw, hrws, hrwl, s.boundWrite_plain v hp]

theorem State.writeReg_rws (hf : fieldsAre a 0 m 0 = true) (hb : s.writerBusy writer = false) :
    s.writeReg writer a v = s.wrN a (written m (s.rdN a) v) := by
  obtain ⟨e, he, hrw, hrws, hrwl, hc⟩ := fieldsAre_iff.mp hf
  rw [s.writeReg_plain v hp he]
  simp [State.storeReg, RegEntry.merge_eq hc, hrw, hrws, hrwl, hb, s.boundWrite_plain v hp]

theorem State.writeReg_rws_busy (hf : fieldsAre a 0 m 0 = true) (hm : m ≠ 0) (hb : s.writerBusy devQ = true) :
    s.writeReg devQ a v = (s.accessEvent devQ a 4).wrN a ((s.accessEvent devQ a 4).rdN a) := by
  obtain ⟨e, he, hrw, hrws, hrwl, hc⟩ := fieldsAre_iff.mp hf
  rw [s.writeReg_plain v hp he]
  simp [State.storeReg, RegEntry.merge_eq hc, hrw, hrws, hrwl, hb, hm, State.busyWrite, State.boundWrite_plain _ v hp,
    written_none _ (State.rdN_lt _ a)]

theorem State.writeReg_ro (hf : fieldsAre a 0 0 0 = true) : s.writeReg writer a v = s.wrN a (s.rdN a) := by
  rw [s.writeReg_rw hp hf, written_none v (s.rdN_lt a)]

theorem State.writeReg_rwl (hf : fieldsAre a 0 0 m = true) (hi : s.cfg.imageRunning = true) (hv : (v ^^^ s.rdN a) &&& m ≠ 0) :
    s.writeReg writer a v = (s.accessEvent writer a 3).wrN a ((s.accessEvent writer a 3).rdN a) := by
  obtain ⟨e, he, hrw, hrws, hrwl, hc⟩ := fieldsAre_iff.mp hf
  rw [s.writeReg_plain v hp he]
  simp [State.storeReg, RegEntry.merge_eq hc, hrw, hrws, hrwl, hi, hv, State.boundWrite_plain _ v hp,
    written_none _ (State.rdN_lt _ a)]
end

end Sys2Proof.Machine
end

section
/-! REGISTER_WRITE by the function and the address it comes with (R7, R8, R74, R80, R81), and by the access code there. -/
namespace Sys2Proof.Machine

/-- Registers, values in force and event counts are as they were. -/
def SameSeen (s t : State) : Prop :=
  (∀ b, t.rd b = s.rd b) ∧ t.act = s.act ∧ ∀ c, t.eventCount c = s.eventCount c

/-- One access event was raised: no other register moved, and no value in force. -/
def AccessOnly (s t : State) : Prop :=
  Raised 0x0F06 s t ∧ (∀ b, evReg b = false → t.rd b = s.rd b) ∧ t.act = s.act

/-- One register took a value: no other moved, and no value in force. -/
def Stored (a n : Nat) (s t : State) : Prop :=
  t.rdN a = n ∧ (∀ b, b ≠ a → t.rd b = s.rd b) ∧ t.act = s.act

theorem SameSeen.refl (s : State) : SameSeen s s := ⟨fun _ => rfl, rfl, fun _ => rfl⟩

theorem SameSeen.trans {s t u : State} (h1 : SameSeen s t) (h2 : SameSeen t u) : SameSeen s u :=
  ⟨fun b => (h2.1 b).trans (h1.1 b), h2.2.1.trans h1.2.1, fun c => (h2.2.2 c).trans (h1.2.2 c)⟩

theorem AccessOnly.then_same {s t u : State} (h1 : AccessOnly s t) (h2 : SameSeen t u) : AccessOnly s u :=
  ⟨(h2.2.2 _).trans h1.1, fun b hb => (h2.1 b).trans (h1.2.1 b hb), h2.2.1.trans h1.2.2⟩

theorem Stored.then_same {a n : Nat} {s t u : State} (h1 : Stored a n s t) (h2 : SameSeen t u) : Stored a n s u :=
  ⟨(congrArg BitVec.toNat (h2.1 a)).trans h1.1, fun b hb => (h2.1 b).trans (h1.2.1 b hb), h2.2.1.trans h1.2.2⟩

theorem SameSeen.wrN_rdN (s : State) (a : Nat) : SameSeen s (s.wrN a (s.rdN a)) :=
  ⟨s.wrN_rdN_rd a, rfl, fun _ => rfl⟩

theorem Stored.wrN (s : State) (a : Nat) {n : Nat} (hn : n < 2 ^ 32) : Stored a n s (s.wrN a n) :=
  ⟨by rw [State.rdN_wrN_same, Nat.mod_eq_of_lt hn], fun _ hb => State.rd_wrN_other _ _ hb, rfl⟩

theorem AccessOnly.deliver (s : State) (x a1 a2 w : Nat) (y : Nat) : AccessOnly s (s.deliver (s.mkEvent 0x0F06 x y a1 a2) w) := by
  obtain ⟨⟨r, i, he⟩, hrd⟩ := EventOnly.deliver s (s.mkEvent 0x0F06 x y a1 a2) w
  refine ⟨?_, hrd, ?_⟩
  · rw [Raised, State.deliver_eventCount]
    exact if_pos rfl
  · rw [he]

theorem AccessOnly.accessEvent (s : State) (w key kind : Nat) : AccessOnly s (s.accessEvent w key kind) :=
  AccessOnly.deliver ..

/-- What the host interface does after a write is none of what the write says. -/
theorem SameSeen.pumpHost (s : State) : SameSeen s s.pumpHost := by
  have hf : Fr anyDram (fun _ => False) (fun p => p = .out ∨ p = .hif ∨ p = .mem ∨ p = .int) s s.pumpHost := by
    apply State.pumpHost_frame <;> simp [Fr.start]
  have hring : s.issueFetches.issueRing.int = s.int :=
    (show Fr anyDram anyReg (· ≠ .int) s s.issueFetches.issueRing by
      apply_rules [State.issueRing_frame, State.issueFetches_frame] <;> simp).frame.2 .int (by simp)
  have hflush (t : State) (f : Nat) : (t.flushVecs f).int.codeCount = t.int.codeCount := by
    unfold State.flushVecs
    refine foldOver_rel (R := fun s t : State => t.int.codeCount = s.int.codeCount) (fun _ => rfl) (fun h1 h2 => h2.trans h1)
      (fun k _ u => ?_) t
    dsimp only
    split <;> rfl
  have hall (t : State) : t.flushAll.int.codeCount = t.int.codeCount :=
    foldOver_rel (R := fun s t : State => t.int.codeCount = s.int.codeCount) (fun _ => rfl) (fun h1 h2 => h2.trans h1)
      (fun f _ u => hflush u f) t
  refine ⟨fun b => hf.rd_eq not_false, hf.frame.2 .act (by simp), fun c => ?_⟩
  rw [State.eventCount, State.eventCount, State.pumpHost, hall, hring]

theorem SameSeen.busyUnless (s before : State) : SameSeen s (s.busyUnless before) := by
  unfold State.busyUnless
  split
  · exact SameSeen.refl s
  · exact ⟨fun _ => rfl, rfl, fun _ => rfl⟩

theorem exec_registerWrite {P : State → Prop} {dt f a w v : Nat} {s : State} (hl : s.live = true)
    (h : ∀ t, SameSeen ((s.tick dt).barWrite f a w v) t → P t) : Completes (exec (.registerWrite dt f a w v) s) P := by
  refine ⟨_, congrArg Host.Outcome.next (State.onLive_eq (s.tick dt) _ hl), h _ ?_⟩
  exact (SameSeen.busyUnless _ _).trans (SameSeen.pumpHost _)

/-- Addresses of the PF's BAR0 that are block registers, not pages, doorbells or reserved. -/
def PfBlock (a : Nat) : Prop := a < 0x380000 ∨ 0x400000 ≤ a ∧ a < 0x2600000

theorem barPlace_pfBlock {a : Nat} (h : PfBlock a) : barPlace 0 a = .block a := by
  unfold PfBlock at h
  unfold barPlace
  rw [if_neg (by omega), if_pos rfl, if_neg (by omega), if_neg (by omega), if_neg (by omega), if_neg (by omega)]

section
variable {s : State} {f a v w : Nat}

theorem State.write32_pfBlock (h : PfBlock a) (hs : s.cfg.safeIdle = false) : s.write32 0 a v = s.writeReg devQ a v := by
  simp [State.write32, barPlace_pfBlock h, State.reaches, hs]

theorem State.barWrite_pfBlock (h : PfBlock a) (hs : s.cfg.safeIdle = false) (h4 : a % 4 = 0) :
    s.barWrite 0 a 4 v = s.writeReg devQ a (v % 2 ^ 32) :=
  (if_pos ⟨rfl, h4⟩).trans (State.write32_pfBlock h hs)

/-- An 8- or 16-bit write of a block register is one access event (R8). -/
theorem State.barWrite_narrow (h : a < 0x300000) (hs : s.cfg.safeIdle = false) (hw : w = 1 ∨ w = 2) :
    AccessOnly s (s.barWrite 0 a w v) := by
  have hr : s.reaches 0 (barPlace 0 a) = true := by simp [barPlace_pfBlock (Or.inl (show a < 0x380000 by omega)), State.reaches, hs]
  have hb : barPlace 0 (a / 4 * 4) = .block (a / 4 * 4) := barPlace_pfBlock (Or.inl (by omega))
  unfold State.barWrite
  rw [if_neg (by omega), if_neg (by omega), if_pos hr]
  simp only [State.barEvent, hb]
  exact AccessOnly.accessEvent ..

/-- A reserved address is one access event (R7). -/
theorem State.barWrite_reserved (h0 : 0x2600000 ≤ a) (h1 : a < 0x4000000) (h4 : a % 4 = 0) :
    AccessOnly s (s.barWrite 0 a 4 v) := by
  have hb : barPlace 0 a = .reserved := by
    unfold barPlace
    rw [if_neg (by omega), if_pos rfl, if_neg (by omega), if_pos h0]
  rw [State.barWrite, if_pos ⟨rfl, h4⟩]
  simp only [State.write32, hb, State.reaches, State.barEvent, Bool.not_true, Bool.false_eq_true, if_false]
  exact AccessOnly.deliver ..

theorem barPlace_vf_outside (hf : 0 < f) (h0 : 0x100000 ≤ a) (h1 : a < 4 * 2 ^ 40) : barPlace f a = .outside := by
  unfold barPlace
  rw [if_neg (by omega), if_neg (by omega), if_pos (by omega)]

/-- A VF has nothing beyond its BAR0 (R80, R81). -/
theorem State.barWrite_vf_outside (hf : 0 < f) (h0 : 0x100000 ≤ a) (h1 : a < 4 * 2 ^ 40 - 4) : s.barWrite f a w v = s := by
  have h32 (t : State) (x n : Nat) (hx0 : 0x100000 ≤ x) (hx1 : x < 4 * 2 ^ 40) : t.write32 f x n = t := by
    simp [State.write32, barPlace_vf_outside hf hx0 hx1, State.reaches]
  have hr : ¬ s.reaches f (barPlace f a) = true := by simp [barPlace_vf_outside hf h0 (by omega), State.reaches]
  unfold State.barWrite
  rw [h32 s a _ h0 (by omega), h32 s (a + 4) _ (by omega) (by omega), if_neg hr, ite_self, ite_self]

/-- In safe idle a write reaches the safe blocks alone (R74). -/
theorem State.barWrite_safeIdle (h : PfBlock a) (hs : s.cfg.safeIdle = true) (hb : safeBlock a = false) (h4 : a % 4 = 0) :
    s.barWrite 0 a 4 v = s := by
  rw [State.barWrite, if_pos ⟨rfl, h4⟩]
  simp [State.write32, barPlace_pfBlock h, State.reaches, hs, hb]

theorem barPlace_vf_page {k off : Nat} (hf : 0 < f) (hf' : f < 256) (hk : k < 4) (ho : off < 0x10000) :
    barPlace f (0x10000 * k + off) = .page (4 * f + k) off := by
  unfold barPlace
  rw [if_neg (by omega), if_neg (by omega), if_neg (by omega), if_pos (by omega)]
  congr 1 <;> omega

theorem State.barWrite_vf_page {k off : Nat} (hf : 0 < f) (hf' : f < 256) (hk : k < 4) (ho : off < 0x10000) (h4 : off % 4 = 0)
    (hs : s.cfg.safeIdle = false) : s.barWrite f (0x10000 * k + off) 4 v = s.writePage (4 * f + k) off (v % 2 ^ 32) := by
  rw [State.barWrite, if_pos ⟨rfl, by omega⟩]
  simp [State.write32, barPlace_vf_page hf hf' hk ho, State.reaches, hs]
end

section
variable {c : Nat} (hc : c < 1024)
include hc

theorem lookupReg_aperture : lookupReg (ctxBase + 0x10000 * c + 0x44) =
    some ⟨"HIF_CTX_APERTURE", 0x10000044, [(0x10000, 1024)], 0xFFF, 0x0, 0x0, 0x0, 0x0, 0x0, 0x0, false⟩ := by
  have hb : blockRegs (ctxBase + 0x10000 * c + 0x44) = regsCTX := by
    simp only [blockRegs, ctxBase]
    repeat rw [if_neg (by omega)]
  rw [lookupReg, hb, regsCTX]
  repeat rw [List.find?_cons_of_neg (by simp [RegEntry.has, dimsMatch, ctxBase]; omega)]
  rw [List.find?_cons_of_pos (by simp [RegEntry.has, dimsMatch, ctxBase]; omega)]

theorem fieldsAre_aperture : fieldsAre (ctxBase + 0x10000 * c + 0x44) 0xFFF 0 0 = true := by
  simp [fieldsAre, lookupReg_aperture hc]

omit hc in
theorem plainKey_aperture : PlainKey (ctxBase + 0x10000 * c + 0x44) := by
  refine ⟨?_, ?_, ?_, ?_, ?_, ?_, ?_⟩
  · intro k hk
    have : k < ctxBase := (show ∀ k ∈ routedKeys, k < ctxBase by decide +kernel) k hk
    omega
  · intro r hr
    have : r.1 + r.2.1 * r.2.2 ≤ ctxBase := (show ∀ r ∈ routedRanges, r.1 + r.2.1 * r.2.2 ≤ ctxBase by decide +kernel) r hr
    exact if_neg (by omega)
  · simp only [layerOfKey, ctxBase]
    rw [if_neg (by omega), if_neg (by omega)]
  · simp only [rectOfKey, ctxBase]
    rw [if_neg (by omega), if_neg (by omega)]
  · have : LAN_PRESET 5 2 < ctxBase := by decide
    omega
  · simp only [ctxBase]; omega
  · simp only [ctxBase]; omega

/-- A write at the aperture register's offset of a context's page. -/
theorem State.writePage_aperture (s : State) {v : Nat} (hv : v < 2 ^ 32) :
    if s.ctxExists c = true then Stored (HIF_CTX_APERTURE c) (written 0xFFF (s.rdN (HIF_CTX_APERTURE c)) v) s (s.writePage c 0x44 v)
    else AccessOnly s (s.writePage c 0x44 v) := by
  have hkey : HIF_CTX_APERTURE c = ctxBase + 0x10000 * c + 0x44 := by
    simp only [HIF_CTX_APERTURE, if_pos hc, ctxBase]
    omega
  by_cases he : s.ctxExists c = true
  · have hw : s.writePage c 0x44 v = s.writeReg c (ctxBase + 0x10000 * c + 0x44) v := by
      simp [State.writePage, he, State.writePageCommand]
    rw [if_pos he, hw, hkey, State.writeReg_rw _ plainKey_aperture (fieldsAre_aperture hc)]
    exact Stored.wrN _ _ (written_lt (s.rdN_lt _) hv)
  · have hw : s.writePage c 0x44 v = s.accessEvent c (ctxBase + 0x10000 * c + 0x44) 5 := by
      simp [State.writePage, he]
    rw [if_neg he, hw]
    exact AccessOnly.accessEvent ..
end

/-! What the register tables say of the statement's registers. -/

theorem plainRw_spec : ∀ e ∈ plainRw, PlainKey e.1 ∧ fieldsAre e.1 e.2 0 0 = true ∧ PfBlock e.1 ∧ e.1 % 4 = 0 := by
  unfold PlainKey PfBlock
  decide +kernel

theorem plainRws_spec : ∀ e ∈ plainRws, PlainKey e.1 ∧ fieldsAre e.1 0 e.2 0 = true ∧ e.2 ≠ 0 ∧ PfBlock e.1 ∧ e.1 % 4 = 0 := by
  unfold PlainKey PfBlock
  decide +kernel

theorem readOnly_spec : ∀ a ∈ [GLB_DEVICE_ID, TIM_REF_STATUS, TIM_DPLL_STATUS, TIM_LF_PERIOD, SEQ_SCHED_STATUS, LXS_STATUS],
    PlainKey a ∧ fieldsAre a 0 0 0 = true ∧ PfBlock a ∧ a % 4 = 0 := by
  unfold PlainKey PfBlock
  decide +kernel

theorem memMapCfg_spec : PlainKey MEM_MAP_CFG ∧ fieldsAre MEM_MAP_CFG 0 0 0x7F0F = true ∧ PfBlock MEM_MAP_CFG ∧
    MEM_MAP_CFG % 4 = 0 := by
  unfold PlainKey PfBlock
  decide +kernel

theorem unsafe_spec : ∀ a ∈ [TIM_GENLOCK_CFG, MEM_REFRESH_CFG, COL_DRIFT_CFG, LMP_PS_CFG],
    safeBlock a = false ∧ PfBlock a ∧ a % 4 = 0 := by
  unfold PfBlock
  decide +kernel

theorem written_all {v : Nat} (old : Nat) (hv : v < 2 ^ 32) : written 0xFFFFFFFF old v = v := by
  have h := Nat.and_two_pow_sub_one_of_lt_two_pow hv
  simpa [written] using h

theorem State.write32_full {s : State} {a v : Nat} (hm : (a, 0xFFFFFFFF) ∈ plainRw) (hs : s.cfg.safeIdle = false)
    (hv : v < 2 ^ 32) : s.write32 0 a v = s.wrN a v := by
  obtain ⟨hp, hf, hb, -⟩ := plainRw_spec _ hm
  rw [State.write32_pfBlock hb hs, State.writeReg_rw _ hp hf, written_all _ hv]

/-- A 64-bit write of the system time to set is a write of each half. -/
theorem State.barWrite_systimeSet {s : State} {v : Nat} (hs : s.cfg.safeIdle = false) (hv : v < 2 ^ 64) :
    s.barWrite 0 TIM_SYSTIME_SET_LO 8 v = (s.wrN TIM_SYSTIME_SET_LO (v % 2 ^ 32)).wrN TIM_SYSTIME_SET_HI (v / 2 ^ 32) := by
  have hlow : v % 2 ^ 32 < 2 ^ 32 := Nat.mod_lt _ (by decide)
  have hhigh : v / 2 ^ 32 < 2 ^ 32 := by omega
  have hhalves : s.barWrite 0 TIM_SYSTIME_SET_LO 8 v =
      (s.write32 0 TIM_SYSTIME_SET_LO (v % 2 ^ 32)).write32 0 TIM_SYSTIME_SET_HI (v / 2 ^ 32 % 2 ^ 32) :=
    (if_neg (fun h => absurd h.1 (by decide))).trans (if_pos ⟨rfl, rfl⟩)
  rw [hhalves, State.write32_full (by decide) hs hlow, Nat.mod_eq_of_lt hhigh]
  exact State.write32_full (by decide) hs hhigh

section
variable {s : State} {dt v : Nat} (hl : s.live = true)
include hl

section
variable (hs : s.cfg.safeIdle = false)
include hs

/-- A 32-bit PF write of a block register is what REGISTER_WRITE does to that register. -/
theorem exec_pfBlock {P : State → Prop} {a : Nat} (ha : PfBlock a) (h4 : a % 4 = 0) (hv : v < 2 ^ 32)
    (h : ∀ t, SameSeen ((s.tick dt).writeReg devQ a v) t → P t) : Completes (exec (.registerWrite dt 0 a 4 v) s) P := by
  refine exec_registerWrite hl ?_
  rw [State.barWrite_pfBlock (s := s.tick dt) ha hs h4, Nat.mod_eq_of_lt hv]
  exact h

theorem registerWrite_rw {e : Nat × Nat} (hv : v < 2 ^ 32) (he : e ∈ plainRw) :
    Completes (exec (.registerWrite dt 0 e.1 4 v) s) (Stored e.1 (written e.2 (s.rdN e.1) v) s) := by
  obtain ⟨hp, hf, hb, h4⟩ := plainRw_spec e he
  refine exec_pfBlock hl hs hb h4 hv fun t ht => ?_
  rw [State.writeReg_rw _ hp hf] at ht
  exact (Stored.wrN (s.tick dt) _ (written_lt (s.rdN_lt _) hv)).then_same ht

theorem registerWrite_rws {e : Nat × Nat} (hv : v < 2 ^ 32) (he : e ∈ plainRws) :
    Completes (exec (.registerWrite dt 0 e.1 4 v) s) (fun t =>
      if thas s.hif.commits pfCommit = true then AccessOnly s t else Stored e.1 (written e.2 (s.rdN e.1) v) s t) := by
  obtain ⟨hp, hf, hm, hb, h4⟩ := plainRws_spec e he
  refine exec_pfBlock hl hs hb h4 hv fun t ht => ?_
  split
  · next hc =>
    rw [State.writeReg_rws_busy (s.tick dt) hp hf hm hc] at ht
    exact (AccessOnly.accessEvent (s.tick dt) ..).then_same ((SameSeen.wrN_rdN _ _).trans ht)
  · next hc =>
    rw [State.writeReg_rws (s.tick dt) hp hf (eq_false_of_ne_true (show ¬ (s.tick dt).writerBusy devQ = true from hc))] at ht
    exact (Stored.wrN (s.tick dt) _ (written_lt (s.rdN_lt _) hv)).then_same ht

theorem registerWrite_ro {a : Nat} (ha : a ∈ [GLB_DEVICE_ID, TIM_REF_STATUS, TIM_DPLL_STATUS, TIM_LF_PERIOD, SEQ_SCHED_STATUS,
      LXS_STATUS]) : Completes (exec (.registerWrite dt 0 a 4 v) s) (SameSeen s) := by
  obtain ⟨hp, hf, hb, h4⟩ := readOnly_spec a ha
  refine exec_registerWrite hl fun t ht => ?_
  rw [State.barWrite_pfBlock (s := s.tick dt) hb hs h4, State.writeReg_ro _ hp hf] at ht
  exact (SameSeen.wrN_rdN (s.tick dt) a).trans ht

theorem registerWrite_rwl (hi : s.cfg.imageRunning = true) (hv : v < 2 ^ 32) (hd : (v ^^^ s.rdN MEM_MAP_CFG) &&& 0x7F0F ≠ 0) :
    Completes (exec (.registerWrite dt 0 MEM_MAP_CFG 4 v) s) (AccessOnly s) := by
  obtain ⟨hp, hf, hb, h4⟩ := memMapCfg_spec
  refine exec_pfBlock hl hs hb h4 hv fun t ht => ?_
  rw [State.writeReg_rwl (s.tick dt) hp hf hi hd] at ht
  exact (AccessOnly.accessEvent (s.tick dt) ..).then_same ((SameSeen.wrN_rdN _ _).trans ht)
end
end

/-- Settles O10: REGISTER_WRITE by what the address reaches, each reach a lemma about `barWrite` or `writeReg`. -/
theorem registerWriteByAccessCode : Obligations.RegisterWriteByAccessCode := by
  unfold Obligations.RegisterWriteByAccessCode
  refine ⟨?_, ?_, ?_, ?_, ?_, ?_, ?_, ?_, ?_, ?_⟩
  · intro dt v e s hl hs hv he
    obtain ⟨t, ht, hval, hrest, -⟩ := registerWrite_rw hl hs hv he
    exact ⟨t, ht, hval, hrest⟩
  · intro dt v e s hl hs hv he
    obtain ⟨t, ht, hout⟩ := registerWrite_rws hl hs hv he
    refine ⟨t, ht, ?_⟩
    split at hout
    · next hc =>
      obtain ⟨hr, hrest, hact⟩ := hout
      exact ⟨hact, (if_pos hc).mpr ⟨hr, hrest⟩⟩
    · next hc =>
      obtain ⟨hval, hrest, hact⟩ := hout
      exact ⟨hact, (if_neg hc).mpr ⟨hval, hrest⟩⟩
  · intro dt v a s hl hs ha
    obtain ⟨t, ht, hrd, -⟩ := registerWrite_ro hl hs ha
    exact ⟨t, ht, hrd⟩
  · intro dt v s hl hs hi hv hd
    obtain ⟨t, ht, hr, hrest, -⟩ := registerWrite_rwl hl hs hi hv hd
    exact ⟨t, ht, hr, hrest⟩
  · intro dt v a s hl _ h0 h1 h4
    refine exec_registerWrite hl fun t ht => ?_
    obtain ⟨hr, hrest, -⟩ := (State.barWrite_reserved (s := s.tick dt) h0 h1 h4).then_same ht
    exact ⟨hr, hrest⟩
  · intro dt a w v s hl hs hw ha
    refine exec_registerWrite hl fun t ht => ?_
    obtain ⟨hr, hrest, -⟩ := (State.barWrite_narrow (s := s.tick dt) ha hs hw).then_same ht
    exact ⟨hr, hrest⟩
  · intro dt v s hl hs hv
    refine exec_registerWrite hl fun t ht => ?_
    rw [State.barWrite_systimeSet (s := s.tick dt) hs hv] at ht
    obtain ⟨hrd, -⟩ := ht
    refine ⟨?_, ?_, fun b hlo hhi => ?_⟩
    · rw [State.rdN, hrd, State.rd_wrN_other _ _ (by decide), ← State.rdN, State.rdN_wrN_same, Nat.mod_mod]
    · rw [State.rdN, hrd, ← State.rdN, State.rdN_wrN_same, Nat.mod_eq_of_lt (by omega)]
    · rw [hrd, State.rd_wrN_other _ _ hhi, State.rd_wrN_other _ _ hlo, State.tick_rd]
  · intro dt f k v s hl hs hf hf' hk hv
    refine exec_registerWrite hl fun t ht => ?_
    have hw := State.writePage_aperture (c := 4 * f + k) (by omega) (s.tick dt) hv
    rw [State.barWrite_vf_page (s := s.tick dt) hf hf' hk (by decide) (by decide) hs, Nat.mod_eq_of_lt hv] at ht
    split at hw
    · next hc =>
      obtain ⟨hval, hrest, -⟩ := hw.then_same ht
      exact (if_pos hc).mpr ⟨hval, hrest⟩
    · next hc =>
      obtain ⟨hr, hrest, -⟩ := hw.then_same ht
      exact (if_neg hc).mpr ⟨hr, hrest⟩
  · intro dt f a w v s hl hf h0 h1
    refine exec_registerWrite hl fun t ht => ?_
    rw [State.barWrite_vf_outside hf h0 h1] at ht
    exact ht.1
  · intro dt v a s hl hs ha
    obtain ⟨hb, hp, h4⟩ := unsafe_spec a ha
    refine exec_registerWrite hl fun t ht => ?_
    rw [State.barWrite_safeIdle (s := s.tick dt) hp hs hb h4] at ht
    exact ht.1

end Sys2Proof.Machine
end

section
/-! Replay is entered only with the output's ports in RUN (REPLAY_ENTER sends them the planes and the list), a condition that R233,
and with it O49, does not name. -/
namespace Sys2Proof.Machine

/-- REPLAY_ENTER does nothing while a port of the output is out of RUN. -/
theorem doReplayEnter_of_port_not_run {dt o p : Nat} {s : State} (hp : p ∈ s.portsOf o) (hr : s.portState p ≠ ptRun) :
    doReplayEnter dt o s = s.tick dt := by
  have hports : ((s.tick dt).portsOf o).all (fun p => (s.tick dt).portState p == ptRun) = false :=
    List.all_eq_false.mpr ⟨p, hp, by simpa [State.portState] using hr⟩
  simp [doReplayEnter, State.onLiveIf, hports]

/-- An ARRAY_MECH instance of one block that declares a local store. -/
def storeMech : List Byte := List.replicate 10 0 ++ [2] ++ List.replicate 13 0

/-- A schedule without slots, and an input to compile without plane sets. -/
def bareSched : Sched := ⟨1, 0, [[]], 0, 0, [], [], [], 0, 0, 0, 0⟩
def bareInput : CompIn := ⟨[], 0, [], [], 0, 0, 0, 0, 0, none, 0, [], 0, [], [], none, 0, none⟩

/-- Array output 0 has met R233's conditions for 8 LFs, and its one port is in TRAIN. -/
def replayInTrain : State :=
  let s := (((State.reset.put (APT_PORT_CFG.EXISTS 0) 1).put (APT_PORT_STATE.STATE 0) ptTrain).put (SEQ_OUT_SCHED.RUNNING 0) 5).actWr
    (SEQ_OUT_CTRL 0) (BitVec.ofNat 32 (setBits 0 (SEQ_OUT_CTRL.REPLAY_EN 0).hi (SEQ_OUT_CTRL.REPLAY_EN 0).lo 1))
  { s with
    glb := { s.glb with held := false, inReset := false, pwrOk := true }
    cfg := { s.cfg with secs := [(secArrayMech * 65536, storeMech)] }
    seq := { s.seq with
      force := [(0, (bareInput, ⟨bareSched, bareSched, bareSched, bareSched, none⟩))]
      replayLfs := [(0, 8)] } }

set_option maxRecDepth 100000 in
theorem replayInTrain_conditions : replayInTrain.live = true ∧ replayInTrain.replayOk 0 = true ∧
    8 ≤ tget 0 replayInTrain.seq.replayLfs 0 ∧ replayInTrain.flag (SEQ_OUT_SCHED.REPLAYING 0) = false ∧
    replayInTrain.seq.replayStart.contains 0 = false := by decide +kernel

set_option maxRecDepth 100000 in
theorem replayInTrain_port : 0 ∈ replayInTrain.portsOf 0 ∧ replayInTrain.portState 0 ≠ ptRun := by decide +kernel

/-- Refutes O49: its clause on REPLAY_ENTER asks for R233's conditions alone, and in `replayInTrain` they hold with the output's port in
TRAIN, where the command leaves the output out of `replayStart`. -/
theorem not_eventsCompilesAndCadence : ¬ Obligations.EventsCompilesAndCadence := by
  unfold Obligations.EventsCompilesAndCadence
  rintro ⟨-, -, -, -, hreplay⟩
  obtain ⟨hlive, hok, hlfs, hnow, hstart⟩ := replayInTrain_conditions
  obtain ⟨hport, hrun⟩ := replayInTrain_port
  obtain ⟨t, ht, hwaits, -⟩ := hreplay 0 0 replayInTrain hlive (by decide) hok hlfs hnow hstart
  have hsame : exec (.replayEnter 0 0) replayInTrain = .next (replayInTrain.tick 0) :=
    congrArg Host.Outcome.next (doReplayEnter_of_port_not_run hport hrun)
  cases ht.symm.trans hsame
  exact absurd hwaits (by simp)

end Sys2Proof.Machine
end

section
/-! What the operations on a scan engine leave (spec/11): the engine's record, its state and cause, and every field of another register. -/
namespace Sys2Proof.Machine

section
variable (s : State) (n : Nat)

@[simp] theorem State.engine_setEngine (x : EngineSt) : (s.setEngine n x).engine n = x := tget_tset_same _ _ _ _
@[simp] theorem State.setEngine_now (x : EngineSt) : (s.setEngine n x).now = s.now := rfl
@[simp] theorem State.setEngine_out (x : EngineSt) : (s.setEngine n x).out = s.out := rfl
@[simp] theorem State.setEngine_regs (x : EngineSt) : (s.setEngine n x).regs = s.regs := rfl
@[simp] theorem State.setEngine_act (x : EngineSt) : (s.setEngine n x).act = s.act := rfl
@[simp] theorem State.setEngine_tim (x : EngineSt) : (s.setEngine n x).tim = s.tim := rfl
@[simp] theorem State.setEngine_cfg (x : EngineSt) : (s.setEngine n x).cfg = s.cfg := rfl
@[simp] theorem State.setEngine_seq (x : EngineSt) : (s.setEngine n x).seq = s.seq := rfl
@[simp] theorem State.setEngine_int (x : EngineSt) : (s.setEngine n x).int = s.int := rfl
@[simp] theorem State.setEngine_rd (x : EngineSt) (a : Nat) : (s.setEngine n x).rd a = s.rd a := rfl
@[simp] theorem State.setEngine_get (x : EngineSt) (f : Fld) : (s.setEngine n x).get f = s.get f := rfl
@[simp] theorem State.setEngine_flag (x : EngineSt) (f : Fld) : (s.setEngine n x).flag f = s.flag f := rfl
@[simp] theorem State.setEngine_eventCount (x : EngineSt) (c : Nat) : (s.setEngine n x).eventCount c = s.eventCount c := rfl

@[simp] theorem State.put_engine (f : Fld) (v : Nat) : (s.put f v).engine n = s.engine n := rfl
@[simp] theorem State.putSat_engine (f : Fld) (v : Nat) : (s.putSat f v).engine n = s.engine n := rfl
@[simp] theorem State.tick_engine (dt : Nat) : (s.tick dt).engine n = s.engine n := rfl
@[simp] theorem State.inc_engine (f : Fld) : (s.inc f).engine n = s.engine n := rfl
@[simp] theorem State.raise_engine (c a0 a1 a2 : Nat) : (s.raise c a0 a1 a2).engine n = s.engine n := by
  simp only [State.engine, State.raise_scn]

/-- Light off: the engine drives nothing, and all else of it stands. -/
@[simp] theorem State.scanDark_engine : (s.scanDark n).engine n = { s.engine n with drive := [] } := by
  unfold State.scanDark
  dsimp only
  split
  · next h => rw [← List.isEmpty_iff.mp h]
  · exact s.engine_setEngine n _

@[simp] theorem State.scanDark_now : (s.scanDark n).now = s.now := by unfold State.scanDark; dsimp only; split <;> rfl
@[simp] theorem State.scanDark_regs : (s.scanDark n).regs = s.regs := by unfold State.scanDark; dsimp only; split <;> rfl
@[simp] theorem State.scanDark_tim : (s.scanDark n).tim = s.tim := by unfold State.scanDark; dsimp only; split <;> rfl
@[simp] theorem State.scanDark_cfg : (s.scanDark n).cfg = s.cfg := by unfold State.scanDark; dsimp only; split <;> rfl
@[simp] theorem State.scanDark_seq : (s.scanDark n).seq = s.seq := by unfold State.scanDark; dsimp only; split <;> rfl
@[simp] theorem State.scanDark_int : (s.scanDark n).int = s.int := by unfold State.scanDark; dsimp only; split <;> rfl
@[simp] theorem State.scanDark_get (f : Fld) : (s.scanDark n).get f = s.get f := State.get_congr (State.rd_congr (s.scanDark_regs n) _)

@[simp] theorem State.moveSlow_engine (code us : Nat) : (s.moveSlow n code us).engine n =
    { s.engine n with slow := code, slowFrom := s.slowCode n, slowAt := s.now, slowUs := us } := s.engine_setEngine n _
@[simp] theorem State.moveSlow_now (code us : Nat) : (s.moveSlow n code us).now = s.now := rfl
@[simp] theorem State.moveSlow_regs (code us : Nat) : (s.moveSlow n code us).regs = s.regs := rfl
@[simp] theorem State.moveSlow_tim (code us : Nat) : (s.moveSlow n code us).tim = s.tim := rfl
@[simp] theorem State.moveSlow_get (code us : Nat) (f : Fld) : (s.moveSlow n code us).get f = s.get f := rfl
@[simp] theorem State.moveSlow_int (code us : Nat) : (s.moveSlow n code us).int = s.int := rfl

@[simp] theorem State.showScan_engine : s.showScan.engine n = s.engine n := rfl
@[simp] theorem State.showScan_now : s.showScan.now = s.now := rfl
@[simp] theorem State.showScan_out : s.showScan.out = s.out := rfl
@[simp] theorem State.showScan_tim : s.showScan.tim = s.tim := rfl
@[simp] theorem State.showScan_seq : s.showScan.seq = s.seq := rfl
@[simp] theorem State.showScan_int : s.showScan.int = s.int := rfl
theorem State.showScan_rd {a : Nat} (h : a ≠ SCN_STATUS) : s.showScan.rd a = s.rd a :=
  ((State.rd_put_other _ _ h).trans (State.rd_put_other _ _ h)).trans (State.rd_put_other _ _ h)
end

/-- An event raised on a state whose INT stands as it did in `s` is one more since `s`. -/
theorem State.raise_raised_of_int {s u : State} (h : u.int = s.int) (c a0 a1 a2 : Nat) : Raised c s (u.raise c a0 a1 a2) := by
  have hu := u.raise_raised c a0 a1 a2
  unfold Raised at hu ⊢
  rwa [State.eventCount_congr h] at hu

/-- A register whose one field is the whole word. -/
theorem State.rdN_eq_get (s : State) (a : Nat) : s.rdN a = s.get ⟨a, 31, 0⟩ := by
  simp only [State.get, bitsOf, State.rdN, Nat.pow_zero, Nat.div_one]
  exact (Nat.mod_eq_of_lt (s.rd a).isLt).symm

/-! ### The engines' registers stand apart -/

/-- The registers of an engine that its commands write beside SCN_ENG_STATE, and SCN_ENG_CTRL. -/
def engRegs (n : Nat) : List Nat :=
  [SCN_ENG_CTRL n, SCN_ENG_EST_FREQ n, SCN_ENG_EST_AMP n, SCN_ENG_CANES n, SCN_ENG_LINE_MISSES n, SCN_ENG_CLIPPED n,
    SCN_ENG_STALLS n, SCN_ENG_STALL_LFN n, SCN_ENG_SWEEP_STATUS n]

theorem engRegs_nodup : ∀ n < 4, (engRegs n).Nodup := by decide

theorem engRegs_apart : ∀ n < 4, ∀ a ∈ engRegs n, a ≠ SCN_ENG_STATE n ∧ a ≠ SCN_STATUS ∧ evReg a = false := by decide

theorem engState_apart : ∀ n < 4, SCN_ENG_STATE n ≠ SCN_STATUS ∧ evReg (SCN_ENG_STATE n) = false := by decide

variable {s : State} {n : Nat}

theorem State.enterEngine_engine (st c : Nat) : (s.enterEngine n st c).engine n = { s.engine n with since := s.now } := by
  unfold State.enterEngine
  dsimp only
  rw [State.showScan_engine, State.engine_setEngine]
  split <;> rfl

theorem State.enterEngine_rd (st c : Nat) {a : Nat} (h : a ≠ SCN_ENG_STATE n) (h' : a ≠ SCN_STATUS) :
    (s.enterEngine n st c).rd a = s.rd a := by
  unfold State.enterEngine
  dsimp only
  rw [State.showScan_rd _ h', State.setEngine_rd, State.rd_put_other _ _ h, State.rd_put_other _ _ h]
  split <;> rfl

/-- STATE and CAUSE after an engine enters a state. -/
theorem State.enterEngine_state {st c : Nat} (hn : n < 4) (hs : st < 16) (hc : c < 16) :
    (s.enterEngine n st c).engineState n = st ∧ (s.enterEngine n st c).get (SCN_ENG_STATE.CAUSE n) = c := by
  obtain ⟨hne, -⟩ := engState_apart n hn
  have hrd : ∀ f : Fld, f.reg = SCN_ENG_STATE n → (s.enterEngine n st c).get f =
      ((s.put (SCN_ENG_STATE.STATE n) st).put (SCN_ENG_STATE.CAUSE n) c).get f := fun f hf => by
    refine State.get_congr ?_
    unfold State.enterEngine
    dsimp only
    rw [State.showScan_rd _ (hf ▸ hne)]
    split <;> rfl
  have hap : (SCN_ENG_STATE.CAUSE n).apart (SCN_ENG_STATE.STATE n) = true := by simp [Fld.apart]
  constructor
  · rw [State.engineState, hrd _ rfl, State.get_put_apart _ _ rfl hap, State.get_put_same _ _ _ rfl]
    exact Nat.mod_eq_of_lt hs
  · rw [hrd _ rfl, State.get_put_same _ _ _ rfl]
    exact Nat.mod_eq_of_lt hc

@[simp] theorem State.enterEngine_now (st c : Nat) : (s.enterEngine n st c).now = s.now := by
  unfold State.enterEngine; dsimp only; split <;> rfl
@[simp] theorem State.enterEngine_int (st c : Nat) : (s.enterEngine n st c).int = s.int := by
  unfold State.enterEngine; dsimp only; split <;> rfl
@[simp] theorem State.enterEngine_tim (st c : Nat) : (s.enterEngine n st c).tim = s.tim := by
  unfold State.enterEngine; dsimp only; split <;> rfl

/-- An engine that faults stands in FAULT with its cause, and one event 0x0604 is raised (R273, R274). -/
theorem State.engineFault_spec {c : Nat} (hn : n < 4) (hc : c < 16) : (s.engineFault n c).engineState n = enFault ∧
    (s.engineFault n c).get (SCN_ENG_STATE.CAUSE n) = c ∧ Raised 0x0604 s (s.engineFault n c) := by
  obtain ⟨-, hev⟩ := engState_apart n hn
  unfold State.engineFault
  dsimp only
  generalize hv : ((s.scanDark n).put (SCN_ENG_EST_AMP.DRIVE_MV n) 0).moveSlow n (scSlowPark s.scanCfg n) parkUs = v
  have hint : v.int = s.int := by rw [← hv]; simp
  generalize hw : v.setEngine n _ = w
  have hint' : w.int = s.int := by rw [← hw]; exact hint
  obtain ⟨hs, hc'⟩ := State.enterEngine_state (s := w) (st := enFault) hn (by decide) hc
  refine ⟨?_, ?_, ?_⟩
  · rw [State.engineState, State.get_raise _ _ _ _ _ hev]; exact hs
  · rw [State.get_raise _ _ _ _ _ hev]; exact hc'
  · exact State.raise_raised_of_int (by rw [State.enterEngine_int, hint']) _ _ _ _

theorem State.enterEngine_get {f : Fld} (st c : Nat) (hn : n < 4) (hf : f.reg ∈ engRegs n) : (s.enterEngine n st c).get f = s.get f := by
  obtain ⟨h1, h2, -⟩ := engRegs_apart n hn _ hf
  exact State.get_congr (State.enterEngine_rd st c h1 h2)

/-- A fault leaves the engine's registers but STATE and the drive. -/
theorem State.engineFault_get {c : Nat} {f : Fld} (hn : n < 4) (hf : f.reg ∈ engRegs n)
    (hd : (SCN_ENG_EST_AMP.DRIVE_MV n).apart f = true) : (s.engineFault n c).get f = s.get f := by
  obtain ⟨-, -, he⟩ := engRegs_apart n hn _ hf
  unfold State.engineFault
  dsimp only
  rw [State.get_raise _ _ _ _ _ he, State.enterEngine_get _ _ hn hf, State.setEngine_get, State.moveSlow_get,
    State.get_put_apart _ _ rfl hd, State.scanDark_get]

end Sys2Proof.Machine
end

section
/-! The scan engines' commands, one lemma per command of O53 (R259 to R275). -/
namespace Sys2Proof.Machine

theorem bitAt_eq_bitsOf (n k : Nat) : bitAt n k = (bitsOf n k k == 1) := by
  simp [bitAt, bitsOf]

theorem bitAt_setBit (n k : Nat) (b : Bool) : bitAt (setBit n k b) k = b := by
  rw [bitAt_eq_bitsOf, setBit, bitsOf_setBits _ _ (Nat.le_refl k)]
  cases b <;> simp

/-- The power-domain bit that was set or cleared. -/
theorem State.setDomOn_bit (s : State) (k : Nat) (b : Bool) :
    bitAt ((s.setDomOn k b).rdN (THM_DOM_ON (k / 32))) (k % 32) = b := by
  have hk : k % 32 < 32 := Nat.mod_lt _ (by decide)
  rw [State.setDomOn, State.rdN_wrN_same, Nat.mod_eq_of_lt, bitAt_setBit]
  exact setBits_lt _ _ (Nat.le_refl _) hk (s.rd _).isLt

/-- The words of the power domains are no registers of the scan block. -/
theorem domOn_ne_scan (k n : Nat) (hn : n < 4) : THM_DOM_ON k ≠ SCN_ENG_STATE n ∧ THM_DOM_ON k ≠ SCN_STATUS := by
  simp only [THM_DOM_ON, SCN_ENG_STATE, SCN_STATUS, if_pos hn]
  split <;> omega

variable {s : State} {dt n : Nat}

theorem State.tick_engineState (dt n : Nat) : (s.tick dt).engineState n = s.engineState n := rfl

theorem scanStart_wakes (hl : s.live = true) (hs : s.cfg.safeIdle = false) (hx : s.engineExists n = true)
    (hh : s.glb.hwClass = false ∨ s.get THM_STATUS.STATE = 3) (he : s.engineState n = enOff ∨ s.engineState n = enFault) :
    Completes (exec (.scanStart dt n) s) (fun t => t.engineState n = enWake ∧ (t.engine n).slow = scSlowPark s.scanCfg n ∧
      (t.engine n).since = s.now + dt ∧ bitAt (t.rdN (THM_DOM_ON ((domScan + n) / 32))) ((domScan + n) % 32) = true) := by
  have hn : n < 4 := by simp [State.engineExists] at hx; exact hx.1
  have hgo : ∀ t : State, t = s.tick dt → (!t.engineExists n || (t.glb.hwClass && t.get THM_STATUS.STATE != 3) ||
      !(t.engineState n == enOff || t.engineState n == enFault)) = false := by
    rintro _ rfl
    have hx' : (s.tick dt).engineExists n = true := hx
    rw [hx', State.tick_engineState]
    rcases hh with h | h <;> rcases he with h' | h' <;> simp [h, h']
  refine ⟨_, rfl, ?_⟩
  rw [doScanStart, State.tick_onReach _ _ hl hs, State.startEngine]
  dsimp only
  rw [if_neg (by rw [hgo _ rfl]; decide)]
  generalize hv : State.setEngine ((s.tick dt).setDomOn (domScan + n) true) n _ = v
  have hdom : v.rdN (THM_DOM_ON ((domScan + n) / 32)) = ((s.tick dt).setDomOn (domScan + n) true).rdN (THM_DOM_ON ((domScan + n) / 32)) := by
    rw [← hv]; rfl
  have hnow : v.now = s.now + dt := by rw [← hv]; rfl
  have hslow : (v.engine n).slow = scSlowPark s.scanCfg n := by rw [← hv, State.engine_setEngine]; rfl
  obtain ⟨hd1, hd2⟩ := domOn_ne_scan ((domScan + n) / 32) n hn
  refine ⟨(State.enterEngine_state hn (by decide) (by decide)).1, ?_, ?_, ?_⟩
  · rw [State.enterEngine_engine]; exact hslow
  · rw [State.enterEngine_engine]; exact hnow
  · rw [State.rdN, State.enterEngine_rd _ _ hd1 hd2, ← State.rdN, hdom]
    exact State.setDomOn_bit _ _ _

theorem State.engineExists_lt (h : s.engineExists n = true) : n < 4 := by simp [State.engineExists] at h; exact h.1

theorem scanStop_brakes (hl : s.live = true) (hs : s.cfg.safeIdle = false) (hx : s.engineExists n = true)
    (h0 : s.engineState n ≠ enOff) (h7 : s.engineState n ≠ enStopping) :
    Completes (exec (.scanStop dt n) s) (fun t => t.engineState n = enStopping ∧ (t.engine n).drive = [] ∧ (t.engine n).row = none ∧
      (t.engine n).slow = scSlowPark s.scanCfg n) := by
  have hn := State.engineExists_lt hx
  have hgo : ((s.tick dt).engineExists n && (s.tick dt).engineState n != enOff && (s.tick dt).engineState n != enStopping) = true := by
    have hx' : (s.tick dt).engineExists n = true := hx
    simp [hx', State.tick_engineState, h0, h7]
  refine ⟨_, rfl, ?_⟩
  rw [doScanStop, State.tick_onReachIf _ _ _ hl hs hgo]
  dsimp only
  rw [State.enterEngine_engine]
  exact ⟨(State.enterEngine_state hn (by decide) (by decide)).1, by simp, by simp, by simp; rfl⟩

theorem scanOffsetDone_searches (hl : s.live = true) (hn : n < 4) (he : s.engineState n = enWake) :
    Completes (exec (.scanOffsetDone dt n) s) (fun t => t.engineState n = enSearch ∧
      t.get (SCN_ENG_EST_AMP.DRIVE_MV n) = scSust s.scanCfg n / 10 % 2 ^ 16) := by
  refine ⟨_, rfl, ?_⟩
  rw [doScanOffsetDone, State.tick_onLiveIf _ _ _ hl (by simpa [State.tick_engineState] using he)]
  refine ⟨(State.enterEngine_state hn (by decide) (by decide)).1, ?_⟩
  rw [State.enterEngine_get _ _ hn (by simp [engRegs]), State.get_put_same _ _ _ rfl]
  rfl

theorem State.get_putSat_same (s : State) (f : Fld) (v : Nat) (h : f.ok = true) :
    (s.putSat f v).get f = min v (2 ^ (f.hi + 1 - f.lo) - 1) := by
  rw [State.putSat, State.get_put_same _ _ _ h]
  exact Nat.mod_eq_of_lt (by have := Nat.two_pow_pos (f.hi + 1 - f.lo); omega)

theorem scanSearchDone_found (hl : s.live = true) (hn : n < 4) (he : s.engineState n = enSearch) (peak : Option Nat) :
    Completes (exec (.scanSearchDone dt n peak) s) (fun t => match peak with
      | some f => t.engineState n = enRamp ∧ t.get (SCN_ENG_EST_FREQ.FREQ n) = min f (2 ^ 24 - 1)
      | none => t.engineState n = enFault ∧ t.get (SCN_ENG_STATE.CAUSE n) = 5 ∧ Raised 0x0604 s t) := by
  refine ⟨_, rfl, ?_⟩
  rw [doScanSearchDone, State.tick_onLiveIf _ _ _ hl (by simpa [State.tick_engineState] using he)]
  cases peak with
  | none => exact State.engineFault_spec hn (by decide)
  | some f =>
    refine ⟨(State.enterEngine_state hn (by decide) (by decide)).1, ?_⟩
    rw [State.enterEngine_get _ _ hn (by simp [engRegs]), State.get_putSat_same _ _ _ rfl]
    rfl

theorem scanRampDone_locks (hl : s.live = true) (hn : n < 4) (he : s.engineState n = enRamp) (amp mv : Nat) (reached : Bool) :
    Completes (exec (.scanRampDone dt n amp mv reached) s) (fun t => t.get (SCN_ENG_EST_AMP.AMP n) = min amp (2 ^ 13 - 1) ∧
      if reached then t.engineState n = enLocking
      else t.engineState n = enFault ∧ t.get (SCN_ENG_STATE.CAUSE n) = 6 ∧ Raised 0x0604 s t) := by
  have hap : (SCN_ENG_EST_AMP.DRIVE_MV n).apart (SCN_ENG_EST_AMP.AMP n) = true := by simp [Fld.apart]
  have hamp : ∀ (v : State) (m : Nat), ((v.putSat (SCN_ENG_EST_AMP.AMP n) amp).put (SCN_ENG_EST_AMP.DRIVE_MV n) m).get
      (SCN_ENG_EST_AMP.AMP n) = min amp (2 ^ 13 - 1) := fun v m => by
    rw [State.get_put_apart _ _ rfl hap, State.get_putSat_same _ _ _ rfl]
    rfl
  refine ⟨_, rfl, ?_⟩
  rw [doScanRampDone, State.tick_onLiveIf _ _ _ hl (by simpa [State.tick_engineState] using he)]
  cases reached with
  | true =>
    simp only [if_true]
    refine ⟨?_, (State.enterEngine_state hn (by decide) (by decide)).1⟩
    rw [State.enterEngine_get _ _ hn (by simp [engRegs]), State.setEngine_get, hamp]
  | false =>
    simp only [Bool.false_eq_true, if_false]
    refine ⟨?_, State.engineFault_spec hn (by decide)⟩
    rw [State.engineFault_get hn (by simp [engRegs]) hap, hamp]

theorem scanLockDone_moves (hl : s.live = true) (he : s.engineState n = enLocking) (hr : (s.engine n).ready = false)
    (hk : 1024 ≤ (s.engine n).lockRun) :
    Completes (exec (.scanLockDone dt n) s) (fun t => (t.engine n).ready = true ∧ (t.engine n).since = s.now + dt ∧
      (t.engine n).slow = s.actGet (SCN_ENG_SLOW_A.SLOW_TOP n) ∧ t.regs = s.regs) := by
  refine ⟨_, rfl, ?_⟩
  rw [doScanLockDone, State.tick_onLiveIf _ _ _ hl (by simp [State.tick_engineState, he, hr, hk])]
  dsimp only
  rw [State.engine_setEngine, State.moveSlow_engine]
  exact ⟨rfl, rfl, rfl, rfl⟩

theorem scanBrakeDone_off (hl : s.live = true) (hn : n < 4) (he : s.engineState n = enStopping) :
    Completes (exec (.scanBrakeDone dt n) s) (fun t => t.engineState n = enOff ∧ t.get (SCN_ENG_EST_AMP.DRIVE_MV n) = 0 ∧
      bitAt (t.rdN (THM_DOM_ON ((domScan + n) / 32))) ((domScan + n) % 32) = false) := by
  obtain ⟨hd1, hd2⟩ := domOn_ne_scan ((domScan + n) / 32) n hn
  refine ⟨_, rfl, ?_⟩
  rw [doScanBrakeDone, State.tick_onLiveIf _ _ _ hl (by simpa [State.tick_engineState] using he)]
  refine ⟨(State.enterEngine_state hn (by decide) (by decide)).1, ?_, ?_⟩
  · have hne : (SCN_ENG_EST_AMP.DRIVE_MV n).reg ≠ THM_DOM_ON ((domScan + n) / 32) := by
      simp only [THM_DOM_ON, SCN_ENG_EST_AMP, if_pos hn]
      split <;> omega
    rw [State.enterEngine_get _ _ hn (by simp [engRegs]), State.setDomOn, State.get_congr (State.rd_wrN_other _ _ hne),
      State.get_put_same _ _ _ rfl]
    exact Nat.zero_mod _
  · rw [State.rdN, State.enterEngine_rd _ _ hd1 hd2, ← State.rdN]
    exact State.setDomOn_bit _ _ _

end Sys2Proof.Machine
end

section
/-! Canes, windows, stalls and the amplitude limit, one lemma per outcome (R260 to R273). -/
namespace Sys2Proof.Machine
variable {s : State} {dt n : Nat}

/-! ### Canes and pixels (R260 to R264) -/

theorem State.scanDark_drive (s : State) (n : Nat) : ((s.scanDark n).engine n).drive = [] := by rw [State.scanDark_engine]

theorem State.drawPixel_regs (s : State) (n x : Nat) : (s.drawPixel n x).regs = s.regs := by
  unfold State.drawPixel
  dsimp only
  split
  · rfl
  · exact s.scanDark_regs n

/-- Without its cane in the line buffer a pixel is dark. -/
theorem State.drawPixel_no_cane {x y : Nat} (hrow : (s.engine n).row = some y) (hl : tfind (s.engine n).lines y = none) :
    ((s.drawPixel n x).engine n).drive = [] := by
  unfold State.drawPixel
  simp only [hrow, Option.bind_some, hl]
  exact s.scanDark_drive n

/-- A pixel of a cane in the line buffer, within reach on both sides, drives the four lasers. -/
theorem State.drawPixel_cane {x y : Nat} {cane : List (List Nat)} (hrow : (s.engine n).row = some y)
    (hl : tfind (s.engine n).lines y = some cane) (h0 : (s.pixelCos n (s.outW (16 + n)) x).isSome = true)
    (h1 : (s.pixelCos n (s.outW (16 + n)) (x + 1)).isSome = true) :
    ((s.drawPixel n x).engine n).drive.length = 4 ∧
      (s.drawPixel n x).out = s.out ++ [.scanOut n ((s.drawPixel n x).engine n).drive] := by
  obtain ⟨a, ha⟩ := Option.isSome_iff_exists.mp (show (s.pixelAngle n (s.outW (16 + n)) x).isSome = true by simpa [State.pixelAngle] using h0)
  obtain ⟨b, hb⟩ := Option.isSome_iff_exists.mp (show (s.pixelAngle n (s.outW (16 + n)) (x + 1)).isSome = true by
    simpa [State.pixelAngle] using h1)
  unfold State.drawPixel
  simp only [hrow, Option.bind_some, hl, ha, hb, State.send_out, State.setEngine_out]
  rw [show ∀ (t : State) (m : OutMsg), (t.send m).engine n = t.engine n from fun _ _ => rfl, State.engine_setEngine]
  exact ⟨by simp, rfl⟩

theorem pixelEdge_draws {x y : Nat} (hl : s.live = true) (hx : s.engineExists n = true) (hrow : (s.engine n).row = some y)
    (hw : x ≤ s.outW (16 + n)) (hc : (s.pixelCos n (s.outW (16 + n)) x).isSome = true) :
    Completes (exec (.pixelEdge dt n x) s) (fun t => t.regs = s.regs ∧
      ((s.tick dt).scanLit n = false → (t.engine n).drive = []) ∧
      ((s.engine n).reverse = false → x = s.outW (16 + n) → (t.engine n).drive = []) ∧
      ((s.engine n).reverse = true → x = 0 → (t.engine n).drive = []) ∧
      ((s.tick dt).scanLit n = true → tfind (s.engine n).lines y = none → (t.engine n).drive = []) ∧
      (∀ cane, (s.tick dt).scanLit n = true → tfind (s.engine n).lines y = some cane → (s.engine n).reverse = false → x < s.outW (16 + n) →
        (s.pixelCos n (s.outW (16 + n)) (x + 1)).isSome = true → (t.engine n).drive.length = 4 ∧ t.out = s.out ++ [.scanOut n (t.engine n).drive])) := by
  have hgo : ((s.tick dt).engineExists n && ((s.tick dt).engine n).row.isSome && decide (x ≤ (s.tick dt).outW (16 + n)) &&
      ((s.tick dt).pixelCos n ((s.tick dt).outW (16 + n)) x).isSome) = true := by
    simp only [Bool.and_eq_true, decide_eq_true_eq]
    exact ⟨⟨⟨hx, by rw [State.tick_engine, hrow]; rfl⟩, hw⟩, hc⟩
  refine ⟨_, rfl, ?_⟩
  rw [doPixelEdge]
  dsimp only
  rw [State.tick_onLiveIf _ _ _ hl hgo, State.tick_engine]
  have hdark : ((s.tick dt).scanDark n).regs = s.regs := (s.tick dt).scanDark_regs n
  have hoff : (((s.tick dt).scanDark n).engine n).drive = [] := (s.tick dt).scanDark_drive n
  have hdraw : ∀ x, ((s.tick dt).drawPixel n x).regs = s.regs := (s.tick dt).drawPixel_regs n
  have hno : ∀ x, tfind (s.engine n).lines y = none → (((s.tick dt).drawPixel n x).engine n).drive = [] :=
    fun x h => State.drawPixel_no_cane (s := s.tick dt) hrow h
  cases hlit : (s.tick dt).scanLit n with
  | false =>
    simp only [Bool.not_false, if_true]
    exact ⟨hdark, fun _ => hoff, fun _ _ => hoff, fun _ _ => hoff, fun _ _ => hoff, by simp⟩
  | true =>
    simp only [Bool.not_true, Bool.false_eq_true, if_false]
    cases hrev : (s.engine n).reverse with
    | true =>
      simp only [if_true]
      split
      · exact ⟨hdark, fun _ => hoff, fun _ _ => hoff, fun _ _ => hoff, fun _ _ => hoff, by simp⟩
      · next h0 => exact ⟨hdraw _, by simp, by simp, fun _ h => absurd h h0, fun _ => hno _, by simp⟩
    | false =>
      simp only [Bool.false_eq_true, if_false]
      split
      · next hend =>
        exact ⟨hdark, fun _ => hoff, fun _ _ => hoff, fun _ _ => hoff, fun _ _ => hoff, fun _ _ _ _ h => absurd hend (Nat.ne_of_lt h)⟩
      · next hend =>
        exact ⟨hdraw _, by simp, fun _ h => absurd h hend, by simp, fun _ => hno _,
          fun cane _ hcane _ _ h1 => State.drawPixel_cane (s := s.tick dt) hrow hcane hc h1⟩

/-! ### Line misses and enable windows (R267, R268) -/

/-- A dark half period is counted, and the first of an LF raises one event 0x0602 (R267). -/
theorem State.missLine_spec (hn : n < 4) :
    (s.missLine n).engine n = { s.engine n with missRaised := true } ∧
      (s.missLine n).get (SCN_ENG_LINE_MISSES.COUNT n) = (s.get (SCN_ENG_LINE_MISSES.COUNT n) + 1) % 2 ^ 32 ∧
      (if (s.engine n).missRaised then (s.missLine n).int = s.int else Raised 0x0602 s (s.missLine n)) := by
  obtain ⟨-, -, hev⟩ := engRegs_apart n hn (SCN_ENG_LINE_MISSES n) (by simp [engRegs])
  have hcount : (s.inc (SCN_ENG_LINE_MISSES.COUNT n)).get (SCN_ENG_LINE_MISSES.COUNT n) =
      (s.get (SCN_ENG_LINE_MISSES.COUNT n) + 1) % 2 ^ 32 := State.get_put_same _ _ _ rfl
  unfold State.missLine
  dsimp only
  split
  · rw [State.engine_setEngine, State.setEngine_get]
    exact ⟨rfl, hcount, rfl⟩
  · rw [State.raise_engine, State.engine_setEngine, State.get_raise _ _ _ _ _ hev, State.setEngine_get]
    exact ⟨rfl, hcount, State.raise_raised_of_int (by simp) _ _ _ _⟩

theorem lineMiss_misses (hl : s.live = true) (hx : s.engineExists n = true) (he : s.engineState n = enRun)
    (ho : s.outExists (16 + n) = true) :
    Completes (exec (.lineMiss dt n) s) (fun t => (t.engine n).missNext = true ∧
      t.get (SCN_ENG_LINE_MISSES.COUNT n) = (s.get (SCN_ENG_LINE_MISSES.COUNT n) + 1) % 2 ^ 32 ∧
      (if (s.engine n).missRaised then t.int = s.int else Raised 0x0602 s t)) := by
  have hgo : ((s.tick dt).engineExists n && (s.tick dt).engineState n == enRun && (s.tick dt).outExists (16 + n)) = true := by
    simp only [Bool.and_eq_true, beq_iff_eq]
    exact ⟨⟨hx, he⟩, ho⟩
  refine ⟨_, rfl, ?_⟩
  rw [doLineMiss, State.tick_onLiveIf _ _ _ hl hgo]
  obtain ⟨heng, hcount, hev⟩ := State.missLine_spec (s := (s.tick dt).setEngine n { (s.tick dt).engine n with missNext := true })
    (State.engineExists_lt hx)
  rw [State.engine_setEngine] at heng hev
  exact ⟨by rw [heng], hcount, hev⟩

@[simp] theorem State.takeEvent_engine (s : State) (e : FabEvent) (n : Nat) : (s.takeEvent e).engine n = s.engine n := rfl

theorem scanEnableEdge_window {slot : Nat} {open_ : Bool} (hl : s.live = true) (hn : n < 4)
    (hd : (s.tick dt).eventDue ⟨if open_ then .scanOpen else .scanClose, s.tim.lfn, n, slot, 0⟩ = true) :
    Completes (exec (.scanEnableEdge dt n slot open_) s) (fun t =>
      (open_ = true → (t.engine n).windowOpen = (!s.tim.darkLf || (s.engine n).windowOpen)) ∧
      (open_ = false → (t.engine n).windowOpen = false ∧ (t.engine n).drive = []) ∧
      t.seq.fab = s.seq.fab.erase ⟨if open_ then .scanOpen else .scanClose, s.tim.lfn, n, slot, 0⟩) := by
  refine ⟨_, rfl, ?_⟩
  rw [doScanEnableEdge]
  dsimp only
  rw [State.tick_onLiveIf _ _ _ hl (by simpa [hn] using hd)]
  cases open_ with
  | true =>
    simp only [if_true]
    split
    · next h =>
      have h' : s.tim.darkLf = true := h
      exact ⟨fun _ => by rw [h']; rfl, by simp, rfl⟩
    · next h =>
      have h' : s.tim.darkLf = false := Bool.eq_false_iff.mpr h
      rw [State.showScan_engine, State.engine_setEngine]
      exact ⟨fun _ => by rw [h']; rfl, by simp, rfl⟩
  | false =>
    simp only [Bool.false_eq_true, if_false]
    unfold State.closeScanWindow
    dsimp only
    rw [State.showScan_engine, State.engine_setEngine, State.showScan_seq, State.setEngine_seq, State.scanDark_seq]
    exact ⟨by simp, fun _ => ⟨rfl, State.scanDark_drive _ _⟩, rfl⟩

/-! ### Stalls and the amplitude limit (R271 to R273) -/

theorem scanStall_stalls {cause : Nat} (hl : s.live = true) (hx : s.engineExists n = true) (he : s.engineState n = enRun)
    (h1 : 1 ≤ cause) (h4 : cause ≤ 4) :
    Completes (exec (.scanStall dt n cause) s) (fun t => t.engineState n = enStalled ∧ t.get (SCN_ENG_STATE.CAUSE n) = cause ∧
      (t.engine n).drive = [] ∧ (t.engine n).row = none ∧ t.get (SCN_ENG_STALLS.COUNT n) = (s.get (SCN_ENG_STALLS.COUNT n) + 1) % 2 ^ 16 ∧
      t.rdN (SCN_ENG_STALL_LFN n) = s.tim.lfn % 2 ^ 32 ∧ Raised 0x0601 s t) := by
  have hn := State.engineExists_lt hx
  have hgo : ((s.tick dt).engineExists n && (s.tick dt).engineState n == enRun && decide (1 ≤ cause) && decide (cause ≤ 4)) = true := by
    simp only [Bool.and_eq_true, beq_iff_eq, decide_eq_true_eq]
    exact ⟨⟨⟨hx, he⟩, h1⟩, h4⟩
  refine ⟨_, rfl, ?_⟩
  rw [doScanStall, State.tick_onLiveIf _ _ _ hl hgo]
  dsimp only
  generalize hv : ((s.tick dt).scanDark n).moveSlow n ((s.tick dt).slowCode n) 0 = v
  generalize hw : State.setEngine v n _ = w
  have hsame : w.int = s.int ∧ w.tim = s.tim ∧ w.get (SCN_ENG_STALLS.COUNT n) = s.get (SCN_ENG_STALLS.COUNT n) := by
    rw [← hw, ← hv]
    exact ⟨by simp, by simp, by simp⟩
  have heng : (w.engine n).drive = [] ∧ (w.engine n).row = none := by
    rw [← hw, ← hv]
    simp
  obtain ⟨hint, htim, hcount⟩ := hsame
  generalize hw1 : (if cause = 4 then w.put (SCN_ENG_EST_AMP.DRIVE_MV n) 0 else w) = w1
  obtain ⟨hstalls, hlfn, hne⟩ : (SCN_ENG_EST_AMP n ≠ SCN_ENG_STALLS n) ∧ (SCN_ENG_EST_AMP n ≠ SCN_ENG_STALL_LFN n) ∧
    (SCN_ENG_STALLS n ≠ SCN_ENG_STALL_LFN n) := by have := engRegs_nodup n hn; simp [engRegs] at this; tauto
  obtain ⟨hint1, htim1, heng1, hcount1⟩ : w1.int = w.int ∧ w1.tim = w.tim ∧ w1.engine n = w.engine n ∧
      w1.get (SCN_ENG_STALLS.COUNT n) = w.get (SCN_ENG_STALLS.COUNT n) := by
    rw [← hw1]
    split
    · exact ⟨rfl, rfl, rfl, State.get_congr (State.rd_put_other _ _ hstalls.symm)⟩
    · exact ⟨rfl, rfl, rfl, rfl⟩
  obtain ⟨-, hev⟩ := engState_apart n hn
  obtain ⟨-, -, hevS⟩ := engRegs_apart n hn (SCN_ENG_STALLS n) (by simp [engRegs])
  obtain ⟨hL, hL', hevL⟩ := engRegs_apart n hn (SCN_ENG_STALL_LFN n) (by simp [engRegs])
  obtain ⟨hst, hca⟩ := State.enterEngine_state (s := (w1.inc (SCN_ENG_STALLS.COUNT n)).put (SCN_ENG_STALL_LFN.LFN n) w1.tim.lfn)
    (st := enStalled) (c := cause) hn (by decide) (by omega)
  refine ⟨?_, ?_, ?_, ?_, ?_, ?_, ?_⟩
  · rw [State.engineState, State.get_raise _ _ _ _ _ hev]; exact hst
  · rw [State.get_raise _ _ _ _ _ hev]; exact hca
  · rw [State.raise_engine, State.enterEngine_engine, State.put_engine, State.inc_engine, heng1]; exact heng.1
  · rw [State.raise_engine, State.enterEngine_engine, State.put_engine, State.inc_engine, heng1]; exact heng.2
  · rw [State.get_raise _ _ _ _ _ hevS, State.enterEngine_get _ _ hn (by simp [engRegs]), State.get_congr (State.rd_put_other _ _ hne),
      State.inc, State.get_put_same _ _ _ rfl, hcount1, hcount]
    rfl
  · rw [State.rdN, State.rd_raise _ _ _ _ _ hevL, State.enterEngine_rd _ _ hL hL', ← State.rdN, State.rdN_eq_get,
      State.get_put_same _ _ _ rfl, htim1, htim]
    rfl
  · exact State.raise_raised_of_int (by rw [State.enterEngine_int]; exact hint1.trans hint) _ _ _ _

theorem scanStallRestart_restarts {amp : Nat} (hl : s.live = true) (hn : n < 4) (he : s.engineState n = enStalled)
    (hd : (s.engine n).since + msSteps ≤ s.now + dt) :
    Completes (exec (.scanStallRestart dt n amp) s) (fun t =>
      if s.flag (SCN_ENG_CTRL.AUTO_RESTART n) = true ∧ ((s.engine n).stalls.filter (fun a => decide (s.now + dt < a + secSteps))).length < 3 then
        t.engineState n = (if s.ampRef n ≤ 10 * amp then enRamp else enSearch)
      else t.engineState n = enFault ∧ t.get (SCN_ENG_STATE.CAUSE n) = 7 ∧ Raised 0x0604 s t) := by
  have hflag : ((s.tick dt).putSat (SCN_ENG_EST_AMP.AMP n) amp).flag (SCN_ENG_CTRL.AUTO_RESTART n) = s.flag (SCN_ENG_CTRL.AUTO_RESTART n) := by
    refine State.flag_congr (State.rd_put_other _ _ ?_)
    have := engRegs_nodup n hn
    simp [engRegs] at this
    tauto
  have hdue : ((s.tick dt).engineState n == enStalled && decide (((s.tick dt).engine n).since + msSteps ≤ (s.tick dt).now)) = true := by
    rw [Bool.and_eq_true, beq_iff_eq, decide_eq_true_eq]
    exact ⟨he, hd⟩
  refine ⟨_, rfl, ?_⟩
  rw [doScanStallRestart, State.tick_onLiveIf _ _ _ hl hdue]
  dsimp only
  rw [hflag]
  by_cases hgo : s.flag (SCN_ENG_CTRL.AUTO_RESTART n) = true ∧
      ((s.engine n).stalls.filter (fun a => decide (s.now + dt < a + secSteps))).length < 3
  · rw [if_pos hgo, if_pos (by rw [Bool.and_eq_true, decide_eq_true_eq]; exact hgo)]
    refine (State.enterEngine_state hn ?_ (by decide)).1
    split <;> decide
  · rw [if_neg hgo, if_neg (by rw [Bool.and_eq_true, decide_eq_true_eq]; exact hgo)]
    exact State.engineFault_spec hn (by decide)

theorem ampLimitEvent_raises {since : Nat} (hl : s.live = true) (hs : (s.engine n).limitSince = some since)
    (hd : since + 100 * msSteps ≤ s.now + dt) :
    Completes (exec (.ampLimitEvent dt n) s) (fun t => if (s.engine n).limitRaised then t = s.tick dt
      else (t.engine n).limitRaised = true ∧ Raised 0x0603 s t) := by
  refine ⟨_, rfl, ?_⟩
  rw [doAmpLimitEvent]
  dsimp only
  rw [State.tick_engine, hs]
  cases hr : (s.engine n).limitRaised with
  | true =>
    rw [if_pos rfl, Bool.not_true, Bool.and_false]
    exact State.tick_onLiveIf_not s dt _
  | false =>
    rw [State.tick_onLiveIf _ _ _ hl (by
      rw [Option.any_some, Bool.not_false, Bool.and_true, decide_eq_true_eq, State.tick_now]
      exact hd)]
    simp only [Bool.false_eq_true, if_false, State.raise_engine, State.engine_setEngine, true_and]
    exact State.raise_raised_of_int (by rw [State.setEngine_int, State.tick_int]) _ _ _ _

end Sys2Proof.Machine
end

section
/-! A turning point (R259, R265): what it takes from the estimator, and what the sweep makes of the row and the cane's count. -/
namespace Sys2Proof.Machine

/-- What O53 reads of an engine after a turning point. -/
structure TurnView where
  state : Nat
  freq : Nat
  amp : Nat
  canes : Nat
  lastTurn : Nat
  reverse : Bool
  resid : Nat
  row : Option Nat

def State.turnView (s : State) (n : Nat) : TurnView where
  state := s.engineState n
  freq := s.get (SCN_ENG_EST_FREQ.FREQ n)
  amp := s.get (SCN_ENG_EST_AMP.AMP n)
  canes := s.get (SCN_ENG_CANES.COUNT n)
  lastTurn := (s.engine n).lastTurn
  reverse := (s.engine n).reverse
  resid := (s.engine n).resid
  row := (s.engine n).row

/-- The fields of registers in a turning point's view. -/
def turnFields (n : Nat) : List Fld :=
  [SCN_ENG_STATE.STATE n, SCN_ENG_EST_FREQ.FREQ n, SCN_ENG_EST_AMP.AMP n, SCN_ENG_CANES.COUNT n]

variable {s t : State} {n : Nat}

theorem State.turnView_congr (hf : ∀ f ∈ turnFields n, t.get f = s.get f) (he : t.engine n = s.engine n) : t.turnView n = s.turnView n := by
  simp only [turnFields, List.forall_mem_cons] at hf
  obtain ⟨h1, h2, h3, h4, -⟩ := hf
  simp only [State.turnView, State.engineState, h1, h2, h3, h4, he]

@[simp] theorem State.setEngine_turnView (x : EngineSt) : (s.setEngine n x).turnView n =
    { s.turnView n with lastTurn := x.lastTurn, reverse := x.reverse, resid := x.resid, row := x.row } := by
  simp [State.turnView, State.engineState]

@[simp] theorem State.send_turnView (m : OutMsg) : (s.send m).turnView n = s.turnView n := rfl

/-- Fields of the scan block that share no bit with those of the view. -/
theorem turnFields_apart : ∀ n < 4, ∀ f ∈ [SCN_ENG_STATE.AMP_LIMITED n, SCN_ENG_EST_AMP.DRIVE_MV n, SCN_ENG_LINE_MISSES.COUNT n,
    SCN_ENG_CLIPPED.COUNT n, SCN_ENG_SWEEP_STATUS.HALF_PERIODS n, SCN_ENG_SWEEP_STATUS.ROW0_REVERSE n, SCN_ENG_SWEEP_STATUS.END_US n],
    f.ok = true ∧ ∀ g ∈ turnFields n, f.apart g = true := by decide

theorem State.put_turnView (hn : n < 4) {f : Fld} (v : Nat) (hf : f ∈ [SCN_ENG_STATE.AMP_LIMITED n, SCN_ENG_EST_AMP.DRIVE_MV n,
    SCN_ENG_LINE_MISSES.COUNT n, SCN_ENG_CLIPPED.COUNT n, SCN_ENG_SWEEP_STATUS.HALF_PERIODS n, SCN_ENG_SWEEP_STATUS.ROW0_REVERSE n,
    SCN_ENG_SWEEP_STATUS.END_US n]) : (s.put f v).turnView n = s.turnView n := by
  obtain ⟨hok, hap⟩ := turnFields_apart n hn f hf
  exact State.turnView_congr (fun g hg => State.get_put_apart _ _ hok (hap g hg)) rfl

theorem State.raise_turnView (hn : n < 4) (c a0 a1 a2 : Nat) : (s.raise c a0 a1 a2).turnView n = s.turnView n := by
  have hev : ∀ n < 4, ∀ f ∈ turnFields n, evReg f.reg = false := by decide
  exact State.turnView_congr (fun f hf => State.get_raise _ _ _ _ _ (hev n hn f hf)) (State.raise_engine _ _ _ _ _ _)

@[simp] theorem State.scanDark_turnView : (s.scanDark n).turnView n = s.turnView n := by
  simp [State.turnView, State.engineState]

theorem State.nextLine_turnView (r : Nat) : (s.nextLine n r).turnView n = s.turnView n := by
  unfold State.nextLine State.bufferCane
  split <;> simp [State.turnView, State.engineState]

theorem State.missLine_turnView (hn : n < 4) : (s.missLine n).turnView n = s.turnView n := by
  have hinc : (s.inc (SCN_ENG_LINE_MISSES.COUNT n)).turnView n = s.turnView n := State.put_turnView hn _ (by simp)
  unfold State.missLine
  dsimp only
  split
  · rw [State.setEngine_turnView, hinc]; rfl
  · rw [State.raise_turnView hn, State.setEngine_turnView, hinc]; rfl

theorem State.endSweep_turnView (hn : n < 4) : (s.endSweep n).turnView n = { s.turnView n with row := none } := by
  unfold State.endSweep
  dsimp only
  rw [State.putSat, State.put_turnView hn _ (by simp), State.putSat, State.put_turnView hn _ (by simp), State.setEngine_turnView,
    State.moveSlow_engine]
  rfl

theorem State.caneSlow_turnView (hn : n < 4) (starts : Bool) (row : Option Nat) : (s.caneSlow n starts row).turnView n = s.turnView n := by
  have hcount : ∀ (t : State) (v : Nat), (t.put (SCN_ENG_CLIPPED.COUNT n) v).turnView n = t.turnView n := fun t v =>
    State.put_turnView hn _ (by simp)
  unfold State.caneSlow
  dsimp only
  split <;> split <;> simp only [hcount, State.setEngine_turnView] <;> rfl

theorem State.burst_turnView (prev : Nat) : (s.burst n prev).turnView n = s.turnView n := by
  unfold State.burst
  dsimp only
  split
  · rfl
  · rw [State.send_turnView, State.setEngine_turnView]
    rfl

theorem State.get_lt (s : State) (f : Fld) : s.get f < 2 ^ (f.hi + 1 - f.lo) := bitsOf_lt _ _ _

/-- One more cane. -/
theorem State.incCanes_turnView (hn : n < 4) : (s.inc (SCN_ENG_CANES.COUNT n)).turnView n =
    { s.turnView n with canes := (s.get (SCN_ENG_CANES.COUNT n) + 1) % 2 ^ 32 } := by
  have hap : ∀ n < 4, ∀ f ∈ [SCN_ENG_STATE.STATE n, SCN_ENG_EST_FREQ.FREQ n, SCN_ENG_EST_AMP.AMP n],
    (SCN_ENG_CANES.COUNT n).apart f = true := by decide
  have hsame : ∀ f ∈ [SCN_ENG_STATE.STATE n, SCN_ENG_EST_FREQ.FREQ n, SCN_ENG_EST_AMP.AMP n],
      (s.inc (SCN_ENG_CANES.COUNT n)).get f = s.get f := fun f hf => State.get_put_apart _ _ rfl (hap n hn f hf)
  simp only [List.forall_mem_cons] at hsame
  obtain ⟨hst, hfr, ham, -⟩ := hsame
  have hcount : (s.inc (SCN_ENG_CANES.COUNT n)).get (SCN_ENG_CANES.COUNT n) = (s.get (SCN_ENG_CANES.COUNT n) + 1) % 2 ^ 32 :=
    State.get_put_same _ _ _ rfl
  simp only [State.turnView, State.engineState, State.inc_engine, hst, hfr, ham, hcount]

/-- How many canes a turning point ends: one, unless none was running or it was missed. -/
def EngineSt.ended (e : EngineSt) : Nat := if e.row.isSome && !e.missed then 1 else 0

/-- The cane that ends counts unless it was missed. -/
theorem State.endCane_turnView (hn : n < 4) (row : Option Nat) (missed : Bool) :
    (if row.isSome && !missed then (match row with | some r => s.nextLine n r | none => s).inc (SCN_ENG_CANES.COUNT n)
      else match row with | some r => s.nextLine n r | none => s).turnView n =
      { s.turnView n with canes := (s.get (SCN_ENG_CANES.COUNT n) + (if row.isSome && !missed then 1 else 0)) % 2 ^ 32 } := by
  have hlt : s.get (SCN_ENG_CANES.COUNT n) < 2 ^ 32 := State.get_lt _ _
  generalize hm : (match row with | some r => s.nextLine n r | none => s) = m
  have hview : m.turnView n = s.turnView n := by
    rw [← hm]
    cases row with
    | none => rfl
    | some r => exact State.nextLine_turnView r
  have hcanes : m.get (SCN_ENG_CANES.COUNT n) = s.get (SCN_ENG_CANES.COUNT n) := congrArg TurnView.canes hview
  split
  · rw [State.incCanes_turnView hn, hview, hcanes]
  · rw [hview, Nat.add_zero, Nat.mod_eq_of_lt hlt]
    rfl

/-- The cane that begins takes its row. -/
theorem State.takeCane_turnView (hn : n < 4) (starts : Bool) (row : Option Nat) :
    (s.takeCane n starts row).turnView n = { s.turnView n with
      row := row
      canes := (s.get (SCN_ENG_CANES.COUNT n) + (s.engine n).ended) % 2 ^ 32 } := by
  have hend := State.endCane_turnView (s := s) hn (s.engine n).row (s.engine n).missed
  unfold State.takeCane
  dsimp only
  generalize hs2 : (if (s.engine n).row.isSome && !(s.engine n).missed then
      (match (s.engine n).row with | some r => s.nextLine n r | none => s).inc (SCN_ENG_CANES.COUNT n)
      else match (s.engine n).row with | some r => s.nextLine n r | none => s) = s2 at hend ⊢
  generalize hv : (if (row.any (fun r => !thas (s2.engine n).lines r) && !(s.engine n).missNext) = true then s2.missLine n else s2) = v
  have hview : v.turnView n = s2.turnView n := by
    rw [← hv]
    split
    · exact State.missLine_turnView hn
    · rfl
  rw [State.setEngine_turnView, State.scanDark_turnView]
  show { v.turnView n with row := row } = _
  rw [hview, hend]
  rfl

/-- The sweep's part in a turning point of a running engine: the next row, and the count. -/
theorem State.turnSweep_turnView (hn : n < 4) (prev : Nat) (reverse : Bool) :
    ∃ starts, (s.turnSweep n prev reverse).turnView n = { s.turnView n with
      row := s.nextCane n starts
      canes := (s.get (SCN_ENG_CANES.COUNT n) + (s.engine n).ended) % 2 ^ 32 } := by
  have hput : ∀ (b : Bool) (t : State) (v : Bool),
      (if b then t.putB (SCN_ENG_SWEEP_STATUS.ROW0_REVERSE n) v else t).turnView n = t.turnView n := fun b t v => by
    split
    · exact State.put_turnView hn _ (by simp)
    · rfl
  have hburst : ∀ (b : Bool) (t : State), (if b then t.burst n prev else t).turnView n = t.turnView n := fun b t => by
    split
    · exact State.burst_turnView prev
    · rfl
  unfold State.turnSweep
  dsimp only
  generalize (!(s.engine n).swept && s.outExists (16 + n) &&
    decide (s.phaseInstant (s.actGet (SCN_ENG_SWEEP.SLOW_START n)) ≤ s.now)) = starts
  refine ⟨starts, ?_⟩
  rw [hburst, State.caneSlow_turnView hn]
  split
  · next h =>
    have hnone : s.nextCane n starts = none := by simp only [Bool.and_eq_true, Option.isNone_iff_eq_none] at h; exact h.2
    rw [State.endSweep_turnView hn, hput, State.takeCane_turnView hn, hnone]
  · rw [hput, State.takeCane_turnView hn]

/-- Bits and fields that the estimator's outputs leave. -/
theorem State.watchLimit_turnView (hn : n < 4) (amp mv : Nat) : (s.watchLimit n amp mv).turnView n = s.turnView n := by
  have hput : ∀ b : Bool, (s.putB (SCN_ENG_STATE.AMP_LIMITED n) b).turnView n = s.turnView n := fun b =>
    State.put_turnView hn _ (by simp)
  unfold State.watchLimit
  dsimp only
  split <;> rw [State.setEngine_turnView, hput] <;> rfl

theorem State.slewAmp_turnView : (s.slewAmp n).turnView n = s.turnView n := State.setEngine_turnView _

/-- The estimator's frequency and amplitude as their registers take them. -/
theorem State.putEstimates_turnView (hn : n < 4) (freq amp : Nat) :
    ((s.putSat (SCN_ENG_EST_FREQ.FREQ n) freq).putSat (SCN_ENG_EST_AMP.AMP n) amp).turnView n =
      { s.turnView n with freq := min freq (2 ^ 24 - 1), amp := min amp (2 ^ 13 - 1) } := by
  have hap : ∀ n < 4, (SCN_ENG_EST_AMP.AMP n).apart (SCN_ENG_EST_FREQ.FREQ n) = true ∧
    ∀ f ∈ [SCN_ENG_STATE.STATE n, SCN_ENG_CANES.COUNT n], (SCN_ENG_EST_FREQ.FREQ n).apart f = true ∧
      (SCN_ENG_EST_AMP.AMP n).apart f = true := by decide
  obtain ⟨hfreq, hrest⟩ := hap n hn
  generalize hu : (s.putSat (SCN_ENG_EST_FREQ.FREQ n) freq).putSat (SCN_ENG_EST_AMP.AMP n) amp = u
  have h1 : u.get (SCN_ENG_EST_FREQ.FREQ n) = min freq (2 ^ 24 - 1) := by
    rw [← hu, State.putSat, State.get_put_apart _ _ rfl hfreq, State.get_putSat_same _ _ _ rfl]; rfl
  have h2 : u.get (SCN_ENG_EST_AMP.AMP n) = min amp (2 ^ 13 - 1) := by
    rw [← hu, State.get_putSat_same _ _ _ rfl]; rfl
  have h3 : ∀ f ∈ [SCN_ENG_STATE.STATE n, SCN_ENG_CANES.COUNT n], u.get f = s.get f := fun f hf => by
    obtain ⟨ha, hb⟩ := hrest f hf
    rw [← hu, State.putSat, State.get_put_apart _ _ rfl hb, State.putSat, State.get_put_apart _ _ rfl ha]
  simp only [List.forall_mem_cons] at h3
  obtain ⟨hst, hca, -⟩ := h3
  have heng : u.engine n = s.engine n := by rw [← hu]; rfl
  simp only [State.turnView, State.engineState, h1, h2, hst, hca, heng]

/-- What a turning point takes from the estimator (R259). -/
theorem State.turnEstimate_turnView (hn : n < 4) (reverse : Bool) (freq amp mv resid : Nat) :
    (s.turnEstimate n reverse freq amp mv resid).turnView n = { s.turnView n with
      freq := min freq (2 ^ 24 - 1)
      amp := min amp (2 ^ 13 - 1)
      lastTurn := s.now
      reverse := reverse
      resid := max (s.engine n).resid resid } := by
  unfold State.turnEstimate
  dsimp only
  generalize hu : ((((s.putSat (SCN_ENG_EST_FREQ.FREQ n) freq).putSat (SCN_ENG_EST_AMP.AMP n) amp).put
    (SCN_ENG_EST_AMP.DRIVE_MV n) (min mv (scSust s.scanCfg n))).slewAmp n).watchLimit n amp mv = u
  have hview : u.turnView n = { s.turnView n with freq := min freq (2 ^ 24 - 1), amp := min amp (2 ^ 13 - 1) } := by
    rw [← hu, State.watchLimit_turnView hn, State.slewAmp_turnView, State.put_turnView hn _ (by simp), State.putEstimates_turnView hn]
  have hnow : u.now = s.now := by
    rw [← hu]
    unfold State.watchLimit
    dsimp only
    split <;> rfl
  have hresid : (u.engine n).resid = (s.engine n).resid := congrArg TurnView.resid hview
  rw [State.setEngine_turnView, hnow, hresid]
  show { u.turnView n with lastTurn := s.now, reverse := reverse, resid := max (s.engine n).resid resid } = _
  rw [hview]

theorem State.turnEstimate_missed (reverse : Bool) (freq amp mv resid : Nat) :
    ((s.turnEstimate n reverse freq amp mv resid).engine n).missed = (s.engine n).missed := by
  unfold State.turnEstimate State.watchLimit
  dsimp only
  rw [State.engine_setEngine]
  split <;> simp [State.slewAmp]

/-- The size of a scan output is no part of an engine's registers. -/
theorem State.turnEstimate_outH (hn : n < 4) (reverse : Bool) (freq amp mv resid o : Nat) :
    (s.turnEstimate n reverse freq amp mv resid).outH o = s.outH o := by
  have hW : ∀ n < 4, ∀ o, CMP_OUT_INFO o ∉ [SCN_ENG_EST_AMP n, SCN_ENG_EST_FREQ n, SCN_ENG_STATE n] := fun n hn o h => by
    simp only [List.mem_cons, List.not_mem_nil, or_false, CMP_OUT_INFO, SCN_ENG_EST_AMP, SCN_ENG_EST_FREQ, SCN_ENG_STATE, if_pos hn] at h
    split at h <;> omega
  have hfr : Fr (fun _ => True) (· ∈ [SCN_ENG_EST_AMP n, SCN_ENG_EST_FREQ n, SCN_ENG_STATE n]) (· = .scn) s
      (s.turnEstimate n reverse freq amp mv resid) := by
    apply State.turnEstimate_frame <;> simp [Fr.start]
  exact congrArg (· + 1) (hfr.get_eq (hW n hn o))

variable {dt : Nat}

theorem turningPoint_turns (hl : s.live = true) (hx : s.engineExists n = true)
    (he : s.engineState n ∈ [enRamp, enLocking, enRun, enStalled]) (freq amp mv resid : Nat) (reverse : Bool) :
    Completes (exec (.turningPoint dt n reverse freq amp mv resid) s) (fun t => t.engineState n = s.engineState n ∧
      t.get (SCN_ENG_EST_FREQ.FREQ n) = min freq (2 ^ 24 - 1) ∧ t.get (SCN_ENG_EST_AMP.AMP n) = min amp (2 ^ 13 - 1) ∧
      (t.engine n).lastTurn = s.now + dt ∧ (t.engine n).reverse = reverse ∧ (t.engine n).resid = max (s.engine n).resid resid ∧
      (∀ r, s.engineState n = enRun → (s.engine n).row = some r →
        (t.engine n).row = (if r + 1 < s.outH (16 + n) then some (r + 1) else none) ∧
        t.get (SCN_ENG_CANES.COUNT n) = (s.get (SCN_ENG_CANES.COUNT n) + (if (s.engine n).missed then 0 else 1)) % 2 ^ 32)) := by
  have hn := State.engineExists_lt hx
  have hgo : ((s.tick dt).engineExists n && [enRamp, enLocking, enRun, enStalled].contains ((s.tick dt).engineState n)) = true := by
    rw [Bool.and_eq_true, List.contains_iff_mem]
    exact ⟨hx, he⟩
  refine ⟨_, rfl, ?_⟩
  rw [doTurningPoint, State.tick_onLiveIf _ _ _ hl hgo]
  dsimp only
  generalize hu : (s.tick dt).turnEstimate n reverse freq amp mv resid = u
  have hview : u.turnView n = { s.turnView n with
      freq := min freq (2 ^ 24 - 1), amp := min amp (2 ^ 13 - 1), lastTurn := s.now + dt, reverse := reverse,
      resid := max (s.engine n).resid resid } := by
    rw [← hu, State.turnEstimate_turnView hn]
    rfl
  have hstate : u.engineState n = s.engineState n := congrArg TurnView.state hview
  have hrow : (u.engine n).row = (s.engine n).row := congrArg TurnView.row hview
  have hcanes : u.get (SCN_ENG_CANES.COUNT n) = s.get (SCN_ENG_CANES.COUNT n) := congrArg TurnView.canes hview
  have hmissed : (u.engine n).missed = (s.engine n).missed := by rw [← hu, State.turnEstimate_missed]; rfl
  have hout : u.outH (16 + n) = s.outH (16 + n) := by rw [← hu, State.turnEstimate_outH hn]; rfl
  split
  · next h =>
    have hrun : s.engineState n ≠ enRun := fun e => by
      rw [hstate, State.tick_engineState, e] at h
      exact absurd h (by decide)
    exact ⟨hstate, congrArg TurnView.freq hview, congrArg TurnView.amp hview, congrArg TurnView.lastTurn hview,
      congrArg TurnView.reverse hview, congrArg TurnView.resid hview, fun r e => absurd e hrun⟩
  · obtain ⟨starts, hsweep⟩ := State.turnSweep_turnView (s := u) hn ((s.tick dt).engine n).lastTurn reverse
    rw [hview] at hsweep
    refine ⟨congrArg TurnView.state hsweep, congrArg TurnView.freq hsweep, congrArg TurnView.amp hsweep,
      congrArg TurnView.lastTurn hsweep, congrArg TurnView.reverse hsweep, congrArg TurnView.resid hsweep, fun r _ hr => ⟨?_, ?_⟩⟩
    · refine (congrArg TurnView.row hsweep).trans ?_
      simp only [State.nextCane, hrow, hr, hout]
    · refine (congrArg TurnView.canes hsweep).trans ?_
      simp only [EngineSt.ended, hrow, hr, hmissed, hcanes, Option.isSome_some, Bool.true_and]
      cases (s.engine n).missed <;> rfl

/-- Settles O53: one lemma per command of Table SCN-5, of the sweep, and of the stalls. -/
theorem scanEnginesStartSweepAndStall : Obligations.ScanEnginesStartSweepAndStall := by
  unfold Obligations.ScanEnginesStartSweepAndStall
  exact ⟨fun _ _ _ hl hs hx hh he => scanStart_wakes hl hs hx hh he,
    fun _ _ _ hl hs hx h0 h7 => scanStop_brakes hl hs hx h0 h7,
    fun _ _ _ hl hn he => scanOffsetDone_searches hl hn he,
    fun _ _ peak _ hl hn he => scanSearchDone_found hl hn he peak,
    fun _ _ amp mv reached _ hl hn he => scanRampDone_locks hl hn he amp mv reached,
    fun _ _ _ hl _ he hr hk => scanLockDone_moves hl he hr hk,
    fun _ _ _ hl hn he => scanBrakeDone_off hl hn he,
    fun _ _ freq amp mv resid reverse _ hl hx he => turningPoint_turns hl hx he freq amp mv resid reverse,
    fun _ _ _ _ _ hl hx hrow hw hc => pixelEdge_draws hl hx hrow hw hc,
    fun _ _ _ hl hx he ho => lineMiss_misses hl hx he ho,
    fun _ _ _ _ _ hl hn hd => scanEnableEdge_window hl hn hd,
    fun _ _ _ _ hl hx he h1 h4 => scanStall_stalls hl hx he h1 h4,
    fun _ _ _ _ hl hn he hd => scanStallRestart_restarts hl hn he hd,
    fun _ _ _ _ hl hs hd => ampLimitEvent_raises hl hs hd⟩

end Sys2Proof.Machine
end

section
/-! What an LF boundary settles once: the instant, LFN, the LF's start and the fetch window's (R34, R35, R92), the pending commits, the
contexts in reset and the values in force (R11). One lemma per function of the boundary says that it stands. -/
namespace Sys2Proof.Machine

/-- What a boundary settles; its clock is the first component. -/
def State.bound (s : State) : (Nat × Nat × Bool × Nat × Nat) × Tbl CommitSt × List Nat × Tbl Word :=
  ((s.now, s.tim.lfn, s.tim.bootLf, s.tim.lfStart16, s.hif.winStart), s.hif.commits, s.hif.resetting, s.act)

/-- How `simp` reads what the boundary settles: off a state written out, part by part, and branch by branch. -/
theorem State.bound_rules :
    (∀ now fresh out regs act glb tim cfg hif mem int cmp col pln seq apt scn lmp lan lxs mtr thm cal pending,
      (State.mk now fresh out regs act glb tim cfg hif mem int cmp col pln seq apt scn lmp lan lxs mtr thm cal pending).bound =
        ((now, tim.lfn, tim.bootLf, tim.lfStart16, hif.winStart), hif.commits, hif.resetting, act)) ∧
    (∀ s : State, s.now = s.bound.1.1) ∧ (∀ s : State, s.tim.lfn = s.bound.1.2.1) ∧
    (∀ s : State, s.tim.bootLf = s.bound.1.2.2.1) ∧
    (∀ s : State, s.tim.lfStart16 = s.bound.1.2.2.2.1) ∧ (∀ s : State, s.hif.winStart = s.bound.1.2.2.2.2) ∧
    (∀ s : State, s.hif.commits = s.bound.2.1) ∧ (∀ s : State, s.hif.resetting = s.bound.2.2.1) ∧
    (∀ s : State, s.act = s.bound.2.2.2) ∧
    (∀ (c : Prop) [Decidable c] (a b : State), (if c then a else b).bound = if c then a.bound else b.bound) :=
  ⟨fun _ _ _ _ _ _ _ _ _ _ _ _ _ _ _ _ _ _ _ _ _ _ _ _ => rfl, fun _ => rfl, fun _ => rfl, fun _ => rfl, fun _ => rfl,
    fun _ => rfl, fun _ => rfl, fun _ => rfl, fun _ => rfl, fun c _ a b => apply_ite State.bound c a b⟩

/-- What every step of a fold keeps, the fold keeps. -/
theorem foldOver_keeps {α β : Type} (v : State → β) {l : List α} {f : α → State → State} (h : ∀ a t, v (f a t) = v t) (s : State) :
    v (foldOver l f s) = v s :=
  foldOver_rel (R := fun s t => v t = v s) (fun _ => rfl) (fun h1 h2 => h2.trans h1) (fun a _ t => h a t) s

@[simp] theorem foldOver_bound {α : Type} {l : List α} {f : α → State → State} {s : State} (h : ∀ a t, (f a t).bound = t.bound) :
    (foldOver l f s).bound = s.bound :=
  foldOver_keeps State.bound h s

@[simp] theorem State.wrN_bound (s : State) (a n : Nat) : (s.wrN a n).bound = s.bound := (rfl)
@[simp] theorem State.put_bound (s : State) (f : Fld) (v : Nat) : (s.put f v).bound = s.bound := (rfl)

variable (s : State)


/-! ### Ops -/

@[simp] theorem State.send_bound (m : OutMsg) : (s.send m).bound = s.bound := by simp [State.send, ↓State.bound_rules]
@[simp] theorem State.useFree_bound : s.useFree.bound = s.bound := by simp [State.useFree, ↓State.bound_rules]
@[simp] theorem State.wr_bound (a : Nat) (w : Word) : (s.wr a w).bound = s.bound := by simp [State.wr, ↓State.bound_rules]
@[simp] theorem State.putB_bound (f : Fld) (b : Bool) : (s.putB f b).bound = s.bound := by simp [State.putB]
@[simp] theorem State.inc_bound (f : Fld) : (s.inc f).bound = s.bound := by simp [State.inc]
@[simp] theorem State.incSat_bound (f : Fld) (n : Nat) : (s.incSat f n).bound = s.bound := by simp [State.incSat]
@[simp] theorem State.putSat_bound (f : Fld) (v : Nat) : (s.putSat f v).bound = s.bound := by simp [State.putSat]
@[simp] theorem State.countRate_bound (q code : Nat) : (s.countRate q code).bound = s.bound := by
  simp [State.countRate, ↓State.bound_rules]
@[simp] theorem State.alert_bound (f : Nat) : (s.alert f).bound = s.bound := by simp [State.alert, ↓State.bound_rules]
@[simp] theorem State.dropHeld_bound (f : Nat) : (s.dropHeld f).bound = s.bound := by simp [State.dropHeld, ↓State.bound_rules]
@[simp] theorem State.trimHeld_bound (f : Nat) : (s.trimHeld f).bound = s.bound := by simp [State.trimHeld, ↓State.bound_rules]
@[simp] theorem State.showHeld_bound (f : Nat) : (s.showHeld f).bound = s.bound := by simp [State.showHeld]
@[simp] theorem State.hold_bound (q : Nat) (e : Event) : (s.hold q e).bound = s.bound := by simp [State.hold, ↓State.bound_rules]
@[simp] theorem State.logEvent_bound (e : Event) : (s.logEvent e).bound = s.bound := by simp [State.logEvent, ↓State.bound_rules]
@[simp] theorem State.passEvent_bound (q : Nat) (e : Event) : (s.passEvent q e).bound = s.bound := by
  simp [State.passEvent, ↓State.bound_rules]
@[simp] theorem State.deliver_bound (e : Event) (writer : Nat) : (s.deliver e writer).bound = s.bound := by
  unfold State.deliver
  dsimp only
  repeat' split
  all_goals simp [↓State.bound_rules]
@[simp] theorem State.raise_bound (code a0 a1 a2 : Nat) : (s.raise code a0 a1 a2).bound = s.bound := by simp [State.raise]
@[simp] theorem State.raiseB_bound (code a0 a1 a2 : Nat) : (s.raiseB code a0 a1 a2).bound = s.bound := by simp [State.raiseB]
@[simp] theorem State.raiseC_bound (code ctx a0 a1 a2 : Nat) : (s.raiseC code ctx a0 a1 a2).bound = s.bound := by simp [State.raiseC]
@[simp] theorem State.raiseCB_bound (code ctx a0 a1 a2 : Nat) : (s.raiseCB code ctx a0 a1 a2).bound = s.bound := by simp [State.raiseCB]

/-! ### Fence -/

@[simp] theorem State.showFenced_bound : s.showFenced.bound = s.bound := by
  unfold State.showFenced
  dsimp only
  split <;> simp
@[simp] theorem State.fenceUnit_bound (kind unit_ detail : Nat) : (s.fenceUnit kind unit_ detail).bound = s.bound := by
  simp [State.fenceUnit, ↓State.bound_rules]

/-! ### LxsLink -/

@[simp] theorem State.setLxPort_bound (j : Nat) (p : LxsPort) : (s.setLxPort j p).bound = s.bound := by
  simp [State.setLxPort, ↓State.bound_rules]
@[simp] theorem State.setLxLane_bound (l : Nat) (x : LxsLane) : (s.setLxLane l x).bound = s.bound := by
  simp [State.setLxLane, ↓State.bound_rules]
@[simp] theorem State.queueMsg_bound (j cls ty fields : Nat) (extra : List Nat) : (s.queueMsg j cls ty fields extra).bound = s.bound := by
  simp [State.queueMsg]
@[simp] theorem State.floodMsg_bound (js : List Nat) (cls ty fields : Nat) (extra : List Nat) :
    (s.floodMsg js cls ty fields extra).bound = s.bound := by simp [State.floodMsg]
@[simp] theorem State.noteDrop_bound (key : Nat) : (s.noteDrop key).bound = s.bound := by simp [State.noteDrop, ↓State.bound_rules]
@[simp] theorem State.sendDrop_bound (tag group cause : Nat) : (s.sendDrop tag group cause).bound = s.bound := by
  simp [State.sendDrop, ↓State.bound_rules]
@[simp] theorem State.showBindings_bound : s.showBindings.bound = s.bound := by simp [State.showBindings]
@[simp] theorem State.removeBinding_bound (k : Nat) : (s.removeBinding k).bound = s.bound := by
  unfold State.removeBinding
  split <;> simp [↓State.bound_rules]
@[simp] theorem State.dropBindings_bound (handle : Nat) : (s.dropBindings handle).bound = s.bound := by simp [State.dropBindings]

/-! ### MemMap -/

@[simp] theorem State.memWrite_bound (a : Nat) (bs : List Byte) : (s.memWrite a bs).bound = s.bound := by
  simp [State.memWrite, ↓State.bound_rules]

/-! ### Hif -/

@[simp] theorem State.delMap_bound (c vpage : Nat) : (s.delMap c vpage).bound = s.bound := by simp [State.delMap, ↓State.bound_rules]
@[simp] theorem State.queueScrub_bound (p : Nat) : (s.queueScrub p).bound = s.bound := by simp [State.queueScrub, ↓State.bound_rules]
@[simp] theorem State.showPages_bound (c : Nat) : (s.showPages c).bound = s.bound := by simp [State.showPages]
@[simp] theorem State.endGrant_bound (h : Nat) : (s.endGrant h).bound = s.bound := by simp [State.endGrant, ↓State.bound_rules]
@[simp] theorem State.freePage_bound (c vpage : Nat) : (s.freePage c vpage).bound = s.bound := by
  unfold State.freePage
  split <;> simp [↓State.bound_rules]
@[simp] theorem State.addTag_bound (f : Nat) (user : TagUser) : (s.addTag f user).bound = s.bound := by
  simp [State.addTag, ↓State.bound_rules]
@[simp] theorem State.issueFetches_bound : s.issueFetches.bound = s.bound := by simp [State.issueFetches, ↓State.bound_rules]
@[simp] theorem State.flushVecs_bound (f : Nat) : (s.flushVecs f).bound = s.bound := by simp [State.flushVecs, ↓State.bound_rules]
@[simp] theorem State.flushAll_bound : s.flushAll.bound = s.bound := by simp [State.flushAll]
@[simp] theorem State.issueRing_bound : s.issueRing.bound = s.bound := by
  unfold State.issueRing
  dsimp only
  repeat' split
  all_goals simp [↓State.bound_rules]
@[simp] theorem State.pumpHost_bound : s.pumpHost.bound = s.bound := by simp [State.pumpHost]
@[simp] theorem State.ringDone_bound (c idx : Nat) (e : RingEntry) (status result : Nat) :
    (s.ringDone c idx e status result).bound = s.bound := by simp [State.ringDone, ↓State.bound_rules]
@[simp] theorem deferredEffect_bound (c op : Nat) (e : RingEntry) : (deferredEffect s c op e).bound = s.bound := by
  simp [deferredEffect, ↓State.bound_rules]
@[simp] theorem deferredGo_bound (ds kept : List Deferred) : (deferredGo s ds kept).1.bound = s.bound := by
  induction ds generalizing s kept with
  | nil => rfl
  | cons d r ih =>
    unfold deferredGo
    split <;> split <;> simp [ih, ↓State.bound_rules]
@[simp] theorem State.deferredBoundary_bound : s.deferredBoundary.bound = s.bound := by simp [State.deferredBoundary, ↓State.bound_rules]

/-! ### Cmp -/

@[simp] theorem State.without_bound (o : Nat) (lines : Tbl Nat) : (s.without o lines).bound = s.bound := by
  simp [State.without, ↓State.bound_rules]
@[simp] theorem State.showOff_bound (n : Nat) : (s.showOff n).bound = s.bound := by simp [State.showOff]
@[simp] theorem State.showOffLine_bound (n o line : Nat) : (s.showOffLine n o line).bound = s.bound := by simp [State.showOffLine]
@[simp] theorem State.loseInTail_bound (n o depth : Nat) : (s.loseInTail n o depth).bound = s.bound := by
  simp [State.loseInTail, ↓State.bound_rules]
@[simp] theorem State.markOff_bound (n o line cause : Nat) (remote : Bool) : (s.markOff n o line cause remote).bound = s.bound := by
  simp [State.markOff, ↓State.bound_rules]
@[simp] theorem State.takeDrop_bound (tag group cause : Nat) (remote : Bool) : (s.takeDrop tag group cause remote).bound = s.bound := by
  simp [State.takeDrop, ↓State.bound_rules]

/-! ### Mem -/

@[simp] theorem State.showTags_bound (e : Nat) : (s.showTags e).bound = s.bound := by simp [State.showTags]
@[simp] theorem State.memBusy_bound : s.memBusy.bound = s.bound := by simp [State.memBusy, ↓State.bound_rules]
@[simp] theorem State.setDomOn_bound (k : Nat) (b : Bool) : (s.setDomOn k b).bound = s.bound := by simp [State.setDomOn]
@[simp] theorem State.setPc_bound (p : Nat) (x : PcSt) : (s.setPc p x).bound = s.bound := by simp [State.setPc, ↓State.bound_rules]
@[simp] theorem State.showHbmSpares_bound : s.showHbmSpares.bound = s.bound := by simp [State.showHbmSpares]

/-! ### Tim -/

@[simp] theorem State.setRefValid_bound (r : Nat) (b : Bool) : (s.setRefValid r b).bound = s.bound := by
  unfold State.setRefValid
  split <;> simp
@[simp] theorem State.setRef_bound (r : Nat) (x : RefSt) : (s.setRef r x).bound = s.bound := by simp [State.setRef, ↓State.bound_rules]
@[simp] theorem State.countLock_bound : s.countLock.bound = s.bound := by simp [State.countLock, ↓State.bound_rules]
@[simp] theorem State.enterDpll_bound (st : Nat) : (s.enterDpll st).bound = s.bound := by simp [State.enterDpll, ↓State.bound_rules]
@[simp] theorem State.enterHoldover_bound : s.enterHoldover.bound = s.bound := by simp [State.enterHoldover, ↓State.bound_rules]
@[simp] theorem State.refLost_bound : s.refLost.bound = s.bound := by
  unfold State.refLost
  split <;> simp [↓State.bound_rules]
@[simp] theorem State.refInvalid_bound (r : Nat) : (s.refInvalid r).bound = s.bound := by simp [State.refInvalid, ↓State.bound_rules]
@[simp] theorem State.selectRef_bound (r : Nat) : (s.selectRef r).bound = s.bound := by simp [State.selectRef]
@[simp] theorem State.switchRef_bound (r : Nat) : (s.switchRef r).bound = s.bound := by simp [State.switchRef, ↓State.bound_rules]
@[simp] theorem State.applyRefCtrl_bound : s.applyRefCtrl.bound = s.bound := by simp [State.applyRefCtrl, ↓State.bound_rules]
@[simp] theorem State.takeSwitch_bound (r : Nat) : (s.takeSwitch r).bound = s.bound := by
  unfold State.takeSwitch
  dsimp only
  repeat' split
  all_goals simp [↓State.bound_rules]
@[simp] theorem State.rebaseSys_bound : s.rebaseSys.bound = s.bound := by simp [State.rebaseSys, ↓State.bound_rules]
@[simp] theorem State.selectOwn_bound : s.selectOwn.bound = s.bound := by simp [State.selectOwn, ↓State.bound_rules]
@[simp] theorem State.beginAcquire_bound : s.beginAcquire.bound = s.bound := by simp [State.beginAcquire]
@[simp] theorem State.planNext_bound : s.planNext.bound = s.bound := by simp [State.planNext, ↓State.bound_rules]
@[simp] theorem State.timFix_bound : s.timFix.bound = s.bound := by simp [State.timFix, ↓State.bound_rules]
@[simp] theorem State.moveOffset_bound : s.moveOffset.bound = s.bound := by simp [State.moveOffset, ↓State.bound_rules]
@[simp] theorem State.systimeStep_bound : s.systimeStep.bound = s.bound := by simp [State.systimeStep, ↓State.bound_rules]

/-! ### Col -/

@[simp] theorem State.keepEst_bound (o v : Nat) : (s.keepEst o v).bound = s.bound := by simp [State.keepEst, ↓State.bound_rules]
@[simp] theorem State.solveOutput_bound (cs : List Nat) (o : Nat) : (s.solveOutput cs o).bound = s.bound := by
  unfold State.solveOutput
  split
  · rfl
  · refine (foldOver_bound fun v t => ?_).trans (by simp)
    split <;> simp [↓State.bound_rules]
@[simp] theorem State.showPrims_bound : s.showPrims.bound = s.bound := by simp [State.showPrims, ↓State.bound_rules]
@[simp] theorem State.loopStateShow_bound (p st : Nat) : (s.loopStateShow p st).bound = s.bound := by simp [State.loopStateShow]
@[simp] theorem State.loopRefresh_bound : s.loopRefresh.bound = s.bound := by simp [State.loopRefresh, ↓State.bound_rules]

/-! ### Pln -/

@[simp] theorem State.showUsed_bound (o lead : Nat) : (s.showUsed o lead).bound = s.bound := by simp [State.showUsed]
@[simp] theorem State.setRow_bound (bank row : Nat) (r : RowSt) : (s.setRow bank row r).bound = s.bound := by
  simp [State.setRow, ↓State.bound_rules]
@[simp] theorem State.rowsBoundary_bound : s.rowsBoundary.bound = s.bound := by simp [State.rowsBoundary]

/-! ### Seq -/

@[simp] theorem State.showJobs_bound : s.showJobs.bound = s.bound := by
  unfold State.showJobs
  split <;> simp
@[simp] theorem State.startJob_bound (o owner : Nat) : (s.startJob o owner).bound = s.bound := by
  simp [State.startJob, ↓State.bound_rules]
@[simp] theorem State.askJob_bound (o owner : Nat) : (s.askJob o owner).bound = s.bound := by simp [State.askJob, ↓State.bound_rules]
@[simp] theorem State.commitCompiles_bound : s.commitCompiles.bound = s.bound := by simp [State.commitCompiles, ↓State.bound_rules]
@[simp] theorem State.showSlot_bound : s.showSlot.bound = s.bound := by
  unfold State.showSlot
  dsimp only
  split <;> simp
@[simp] theorem State.showSched_bound (o : Nat) : (s.showSched o).bound = s.bound := by
  unfold State.showSched
  split <;> simp [↓State.bound_rules]
@[simp] theorem State.install_bound (o : Nat) (d : CompDone) : (s.install o d).bound = s.bound := by
  simp [State.install, ↓State.bound_rules]
@[simp] theorem State.windowChanged_bound (n : Nat) : (s.windowChanged n).bound = s.bound := by
  simp [State.windowChanged, ↓State.bound_rules]
@[simp] theorem State.commitSchedules_bound (asked : List Nat) : (s.commitSchedules asked).bound = s.bound := by
  unfold State.commitSchedules
  simp only [↓State.bound_rules]
  refine foldOver_bound fun o t => ?_
  split <;> simp [↓State.bound_rules]
@[simp] theorem State.rebuildCommits_bound (allowed : Nat → Bool) : (s.rebuildCommits allowed).bound = s.bound :=
  foldOver_bound fun o t => by
  dsimp only
  split <;> simp [↓State.bound_rules]
@[simp] theorem State.setThrottle_bound (on : Bool) : (s.setThrottle on).bound = s.bound := by
  simp [State.setThrottle, ↓State.bound_rules]
@[simp] theorem State.selectRank_bound (stop : Bool) (o : Nat) : (s.selectRank stop o).bound = s.bound := by simp [State.selectRank]
@[simp] theorem State.selectRanks_bound (stop : Bool) : (s.selectRanks stop).bound = s.bound := by simp [State.selectRanks]
@[simp] theorem State.leaveStatic_bound (o : Nat) : (s.leaveStatic o).bound = s.bound := by simp [State.leaveStatic, ↓State.bound_rules]
@[simp] theorem State.staticBoundary_bound : s.staticBoundary.bound = s.bound := by simp [State.staticBoundary, ↓State.bound_rules]
@[simp] theorem State.selectWaves_bound (o band : Nat) : (s.selectWaves o band).bound = s.bound := by
  unfold State.selectWaves
  extract_lets n missing s1 key
  have h1 : s1.bound = s.bound := foldOver_bound fun c t => by
    dsimp only
    split <;> simp [↓State.bound_rules]
  clear_value s1
  simp [↓State.bound_rules, h1]
@[simp] theorem State.dropOldEvents_bound : s.dropOldEvents.bound = s.bound := by simp [State.dropOldEvents, ↓State.bound_rules]
@[simp] theorem State.applyMech_bound : s.applyMech.bound = s.bound := by simp [State.applyMech]
@[simp] theorem State.setTile_bound (k : Nat) (x : TileSt) : (s.setTile k x).bound = s.bound := by
  simp [State.setTile, ↓State.bound_rules]
@[simp] theorem State.showTiles_bound : s.showTiles.bound = s.bound := by simp [State.showTiles]
@[simp] theorem State.powerTiles_bound : s.powerTiles.bound = s.bound := by simp [State.powerTiles]
@[simp] theorem State.placeTiles_bound : s.placeTiles.bound = s.bound := by simp [State.placeTiles]

/-! ### Lan -/

@[simp] theorem State.setLane_bound (l : Nat) (x : LaneSt) : (s.setLane l x).bound = s.bound := by
  simp [State.setLane, ↓State.bound_rules]
@[simp] theorem State.showLan_bound : s.showLan.bound = s.bound := by simp [State.showLan]
@[simp] theorem State.setLaneState_bound (l st : Nat) : (s.setLaneState l st).bound = s.bound := by simp [State.setLaneState]
@[simp] theorem State.setEq_bound (l : Nat) (e : Nat × Nat × Nat) : (s.setEq l e).bound = s.bound := by simp [State.setEq]
@[simp] theorem State.trainLane_bound (l : Nat) (fromPreset : Bool) : (s.trainLane l fromPreset).bound = s.bound := by
  simp [State.trainLane, ↓State.bound_rules]
@[simp] theorem State.announce_bound (sp l kind : Nat) : (s.announce sp l kind).bound = s.bound := by simp [State.announce]
@[simp] theorem State.takePlace_bound (sp : Nat) : (s.takePlace sp).bound = s.bound := by
  unfold State.takePlace
  dsimp only
  repeat' split
  all_goals simp
@[simp] theorem State.lanBoundary_bound : s.lanBoundary.bound = s.bound := by simp [State.lanBoundary]

/-! ### Apt -/

@[simp] theorem State.setPort_bound (p : Nat) (x : PortSt) : (s.setPort p x).bound = s.bound := by
  simp [State.setPort, ↓State.bound_rules]
@[simp] theorem State.showApt_bound : s.showApt.bound = s.bound := by simp [State.showApt]
@[simp] theorem State.enterPort_bound (p st : Nat) : (s.enterPort p st).bound = s.bound := by simp [State.enterPort]
@[simp] theorem State.trainPort_bound (p : Nat) (fromPreset : Bool) : (s.trainPort p fromPreset).bound = s.bound := by
  simp [State.trainPort]
@[simp] theorem State.queueWords_bound (l : Nat) (words : List Nat) : (s.queueWords l words).bound = s.bound := by simp [State.queueWords]
@[simp] theorem State.command_bound (p op fields : Nat) (extra : List Nat) : (s.command p op fields extra).bound = s.bound := by
  unfold State.command
  split <;> simp
@[simp] theorem State.timedCommand_bound (p op fields steps : Nat) (extra : List Nat) :
    (s.timedCommand p op fields steps extra).bound = s.bound := by
  unfold State.timedCommand
  split <;> simp
@[simp] theorem State.streamHdr_bound (p lfn : Nat) : (s.streamHdr p lfn).bound = s.bound := by
  unfold State.streamHdr
  split <;> simp
@[simp] theorem State.beat_bound (p : Nat) : (s.beat p).bound = s.bound := by simp [State.beat]
@[simp] theorem State.reported_bound (p : Nat) : (s.reported p).bound = s.bound := by simp [State.reported]
@[simp] theorem State.sendReplay_bound (o band : Nat) : (s.sendReplay o band).bound = s.bound := by
  unfold State.sendReplay
  split <;> simp
@[simp] theorem State.sendRetrain_bound (p : Nat) (merged widthChange : Bool) : (s.sendRetrain p merged widthChange).bound = s.bound := by
  simp [State.sendRetrain, ↓State.bound_rules]
@[simp] theorem State.askWiden_bound (o : Nat) : (s.askWiden o).bound = s.bound := by simp [State.askWiden, ↓State.bound_rules]
@[simp] theorem State.remapLanes_bound (p w : Nat) : (s.remapLanes p w).bound = s.bound := by
  unfold State.remapLanes
  refine (foldOver_bound fun l t => by simp).trans (foldOver_bound fun i t => ?_)
  split <;> simp
@[simp] theorem State.wholeLanes_bound (p : Nat) : (s.wholeLanes p).bound = s.bound := by simp [State.wholeLanes]
@[simp] theorem State.startRetrain_bound (p : Nat) : (s.startRetrain p).bound = s.bound := by
  unfold State.startRetrain
  dsimp only
  repeat' split
  all_goals simp [↓State.bound_rules]
@[simp] theorem State.showReplay_bound (o : Nat) (on : Bool) : (s.showReplay o on).bound = s.bound := by simp [State.showReplay]
@[simp] theorem State.replayOutput_bound (o : Nat) : (s.replayOutput o).bound = s.bound := by
  simp [State.replayOutput, ↓State.bound_rules]
@[simp] theorem State.replayBoundary_bound : s.replayBoundary.bound = s.bound := by simp [State.replayBoundary, ↓State.bound_rules]
@[simp] theorem State.portBoundary_bound (p : Nat) : (s.portBoundary p).bound = s.bound := by
  unfold State.portBoundary
  dsimp only
  repeat' split
  all_goals simp [↓State.bound_rules]
@[simp] theorem State.aptBoundary_bound : s.aptBoundary.bound = s.bound := by simp [State.aptBoundary, ↓State.bound_rules]

/-! ### Pixel -/

theorem State.vwrite_bound (c va : Nat) (bs : List Byte) {t : State} (h : s.vwrite c va bs = some t) : t.bound = s.bound := by
  induction bs generalizing s va with
  | nil => cases h; rfl
  | cons b r ih =>
    unfold State.vwrite at h
    split at h
    · cases h
    · split at h
      · exact (ih _ _ h).trans (by simp)
      · split at h
        · exact (ih _ _ h).trans (by simp)
        · cases h
@[simp] theorem State.vwriteAll_bound (c : Nat) (ws : List (Nat × List Byte)) : (s.vwriteAll c ws).1.bound = s.bound := by
  induction ws generalizing s with
  | nil => rfl
  | cons w r ih =>
    unfold State.vwriteAll
    split
    · rfl
    · next t ht => exact (ih _).trans (State.vwrite_bound _ _ _ _ ht)

/-! ### Form -/

@[simp] theorem State.setPasses_bound (o : Nat) (l : List Pass) : (s.setPasses o l).bound = s.bound := by
  simp [State.setPasses, ↓State.bound_rules]
@[simp] theorem State.showForming_bound (o : Nat) : (s.showForming o).bound = s.bound := by simp [State.showForming]
@[simp] theorem State.showDrift_bound (o : Nat) : (s.showDrift o).bound = s.bound := by simp [State.showDrift]
@[simp] theorem State.setRect_bound (o r : Nat) (x : RectSt) : (s.setRect o r x).bound = s.bound := by
  simp [State.setRect, ↓State.bound_rules]
@[simp] theorem State.latchRects_bound (o : Nat) : (s.latchRects o).bound = s.bound := by simp [State.latchRects, ↓State.bound_rules]
@[simp] theorem State.rectResults_bound (cs : List Nat) (o : Nat) (wb : Bool) : (s.rectResults cs o wb).bound = s.bound := by
  simp [State.rectResults, ↓State.bound_rules]
@[simp] theorem State.rectNoWb_bound (o : Nat) : (s.rectNoWb o).bound = s.bound := by simp [State.rectNoWb]
@[simp] theorem State.rectApply_bound (o cfn : Nat) : (s.rectApply o cfn).bound = s.bound := foldOver_bound fun r t => by
  dsimp only
  split <;> simp [↓State.bound_rules]
@[simp] theorem State.startPass_bound (o : Nat) : (s.startPass o).bound = s.bound := by
  unfold State.startPass
  split <;> simp [↓State.bound_rules]
@[simp] theorem State.pump_bound (o : Nat) : (s.pump o).bound = s.bound := by
  unfold State.pump
  split <;> simp [↓State.bound_rules]
@[simp] theorem State.askPass_bound (kind : PassKind) (cs : List Nat) (o : Nat) : (s.askPass kind cs o).bound = s.bound := by
  simp [State.askPass, ↓State.bound_rules]
@[simp] theorem State.withdraw_bound (c : Nat) : (s.withdraw c).bound = s.bound := by simp [State.withdraw, ↓State.bound_rules]
@[simp] theorem State.liveBoundary_bound : s.liveBoundary.bound = s.bound := by simp [State.liveBoundary, ↓State.bound_rules]
@[simp] theorem State.countTiles_bound (cs : List Nat) (o : Nat) : (s.countTiles cs o).bound = s.bound := by simp [State.countTiles]
@[simp] theorem State.writeFrame_bound (cs : List Nat) (o : Nat) (applied : Bool) (cfn lfn : Nat) :
    (s.writeFrame cs o applied cfn lfn).bound = s.bound := by simp [State.writeFrame, ↓State.bound_rules]
@[simp] theorem State.applyPass_bound (o : Nat) : (s.applyPass o).bound = s.bound := by
  unfold State.applyPass
  split <;> simp [↓State.bound_rules]
@[simp] theorem State.retryLoads_bound : s.retryLoads.bound = s.bound := by simp [State.retryLoads, ↓State.bound_rules]
@[simp] theorem State.showBuilds_bound : s.showBuilds.bound = s.bound := by simp [State.showBuilds]
@[simp] theorem State.exitPasses_bound : s.exitPasses.bound = s.bound := by simp [State.exitPasses, ↓State.bound_rules]
@[simp] theorem State.driftBoundary_bound : s.driftBoundary.bound = s.bound := by simp [State.driftBoundary, ↓State.bound_rules]

/-! ### Lmp -/

@[simp] theorem State.checkLamps_bound : s.checkLamps.bound = s.bound := by simp [State.checkLamps, ↓State.bound_rules]
@[simp] theorem State.commitLamps_bound : s.commitLamps.bound = s.bound := by simp [State.commitLamps, ↓State.bound_rules]
@[simp] theorem State.showPos_bound : s.showPos.bound = s.bound := by simp [State.showPos]
@[simp] theorem State.setEngine_bound (n : Nat) (x : EngineSt) : (s.setEngine n x).bound = s.bound := by
  simp [State.setEngine, ↓State.bound_rules]
@[simp] theorem State.scanDark_bound (n : Nat) : (s.scanDark n).bound = s.bound := by simp [State.scanDark, ↓State.bound_rules]
@[simp] theorem State.hbUpdate_bound : s.hbUpdate.bound = s.bound := by simp [State.hbUpdate, ↓State.bound_rules]
@[simp] theorem State.stopBoundary_bound : s.stopBoundary.bound = s.bound := by simp [State.stopBoundary, ↓State.bound_rules]
@[simp] theorem State.watchdogBoundary_bound : s.watchdogBoundary.bound = s.bound := by simp [State.watchdogBoundary, ↓State.bound_rules]
@[simp] theorem State.estimates_bound : s.estimates.bound = s.bound := by
  unfold State.estimates
  simp only [↓State.bound_rules, State.showPrims_bound]
  refine (foldOver_bound fun g t => foldOver_bound fun p u => ?_).trans (by simp only [↓State.bound_rules])
  split <;> simp [↓State.bound_rules]

/-! ### Scn -/

@[simp] theorem State.showScan_bound : s.showScan.bound = s.bound := by simp [State.showScan]
@[simp] theorem State.enterEngine_bound (n st cause : Nat) : (s.enterEngine n st cause).bound = s.bound := by
  simp [State.enterEngine, ↓State.bound_rules]
@[simp] theorem State.scanView_bound (o : Nat) : (s.scanView o).bound = s.bound := by simp [State.scanView]
@[simp] theorem State.bufferCane_bound (n y : Nat) : (s.bufferCane n y).bound = s.bound := by simp [State.bufferCane, ↓State.bound_rules]
@[simp] theorem State.beginLines_bound (n : Nat) : (s.beginLines n).bound = s.bound := by simp [State.beginLines, ↓State.bound_rules]
@[simp] theorem State.scnBoundary_bound : s.scnBoundary.bound = s.bound := by simp [State.scnBoundary, ↓State.bound_rules]

/-! ### Startup -/

@[simp] theorem State.milestone_bound (k : Nat) : (s.milestone k).bound = s.bound := by simp [State.milestone, ↓State.bound_rules]
@[simp] theorem State.showBoot_bound : s.showBoot.bound = s.bound := by simp [State.showBoot, ↓State.bound_rules]
@[simp] theorem State.startupDone_bound : s.startupDone.bound = s.bound := by simp [State.startupDone, ↓State.bound_rules]
@[simp] theorem State.startupUndone_bound : s.startupUndone.bound = s.bound := by simp [State.startupUndone]

/-! ### Lxs -/

@[simp] theorem State.lxEnter_bound (j st : Nat) : (s.lxEnter j st).bound = s.bound := by simp [State.lxEnter]
@[simp] theorem State.showRoot_bound : s.showRoot.bound = s.bound := by simp [State.showRoot]
@[simp] theorem State.sendHellos_bound : s.sendHellos.bound = s.bound := by simp [State.sendHellos, ↓State.bound_rules]
@[simp] theorem State.holdTime_bound : s.holdTime.bound = s.bound := by simp [State.holdTime, ↓State.bound_rules]
@[simp] theorem State.attachTo_bound (j : Nat) (h : Hello) : (s.attachTo j h).bound = s.bound := by
  simp [State.attachTo, ↓State.bound_rules]
@[simp] theorem State.detach_bound (dest : Option Nat) : (s.detach dest).bound = s.bound := by
  unfold State.detach
  split <;> simp [↓State.bound_rules]
@[simp] theorem State.clearParent_bound : s.clearParent.bound = s.bound := by
  unfold State.clearParent
  split <;> simp
@[simp] theorem State.loseTime_bound : s.loseTime.bound = s.bound := by simp [State.loseTime, ↓State.bound_rules]
@[simp] theorem State.parentLost_bound : s.parentLost.bound = s.bound := by
  unfold State.parentLost
  dsimp only
  split <;> simp [↓State.bound_rules]
@[simp] theorem State.dropChild_bound (j : Nat) : (s.dropChild j).bound = s.bound := by simp [State.dropChild, ↓State.bound_rules]
@[simp] theorem State.leaveUp_bound (j st : Nat) : (s.leaveUp j st).bound = s.bound := by simp [State.leaveUp, ↓State.bound_rules]
@[simp] theorem State.applyAssign_bound (a : Assign) : (s.applyAssign a).bound = s.bound := by
  simp [State.applyAssign, ↓State.bound_rules]
@[simp] theorem State.askRole_bound (j : Nat) : (s.askRole j).bound = s.bound := by simp [State.askRole]
@[simp] theorem State.swapRoles_bound (j : Nat) : (s.swapRoles j).bound = s.bound := by simp [State.swapRoles, ↓State.bound_rules]
@[simp] theorem State.absentBoundary_bound : s.absentBoundary.bound = s.bound := by simp [State.absentBoundary, ↓State.bound_rules]
@[simp] theorem State.assignsBoundary_bound : s.assignsBoundary.bound = s.bound := by simp [State.assignsBoundary, ↓State.bound_rules]
@[simp] theorem State.swapBoundary_bound : s.swapBoundary.bound = s.bound := by
  unfold State.swapBoundary
  split <;> simp
@[simp] theorem State.answersBoundary_bound : s.answersBoundary.bound = s.bound := by simp [State.answersBoundary, ↓State.bound_rules]
@[simp] theorem State.timesBoundary_bound : s.timesBoundary.bound = s.bound := by
  unfold State.timesBoundary
  dsimp only
  split <;> simp [↓State.bound_rules]
@[simp] theorem State.ownReportBoundary_bound : s.ownReportBoundary.bound = s.bound := by
  unfold State.ownReportBoundary
  split <;> simp [↓State.bound_rules]
@[simp] theorem State.readyAllBoundary_bound : s.readyAllBoundary.bound = s.bound := by simp [State.readyAllBoundary, ↓State.bound_rules]
@[simp] theorem State.askRoleBoundary_bound : s.askRoleBoundary.bound = s.bound := by
  unfold State.askRoleBoundary
  split <;> simp [↓State.bound_rules]
@[simp] theorem State.lxsBoundary_bound : s.lxsBoundary.bound = s.bound := by simp [State.lxsBoundary, ↓State.bound_rules]

/-! ### Cal -/

@[simp] theorem State.setSess_bound (k : Nat) (x : SessSt) : (s.setSess k x).bound = s.bound := by
  simp [State.setSess, ↓State.bound_rules]
@[simp] theorem State.showStore_bound : s.showStore.bound = s.bound := by simp [State.showStore]
@[simp] theorem State.tryStore_bound : s.tryStore.bound = s.bound := by simp [State.tryStore, ↓State.bound_rules]
@[simp] theorem State.askStore_bound : s.askStore.bound = s.bound := by simp [State.askStore, ↓State.bound_rules]
@[simp] theorem State.endSession_bound (k st reason : Nat) : (s.endSession k st reason).bound = s.bound := by
  unfold State.endSession
  split <;> simp [↓State.bound_rules]
@[simp] theorem State.setLaneOffs_bound (l : Nat) (o : List Int) : (s.setLaneOffs l o).bound = s.bound := by
  simp [State.setLaneOffs, ↓State.bound_rules]
@[simp] theorem State.startEyeWork_bound (x : SessSt) : (s.startEyeWork x).bound = s.bound := by simp [State.startEyeWork]
@[simp] theorem State.eyeLaneFailed_bound : s.eyeLaneFailed.bound = s.bound := by
  unfold State.eyeLaneFailed
  dsimp only
  repeat' split
  all_goals simp
@[simp] theorem State.eyeBoundary_bound : s.eyeBoundary.bound = s.bound := by
  unfold State.eyeBoundary
  split <;> simp [↓State.bound_rules]
@[simp] theorem State.patchBoundary_bound : s.patchBoundary.bound = s.bound := by
  unfold State.patchBoundary
  dsimp only
  repeat' split
  all_goals simp [↓State.bound_rules]
@[simp] theorem State.targetBoundary_bound : s.targetBoundary.bound = s.bound := by
  unfold State.targetBoundary
  dsimp only
  repeat' split
  all_goals simp [↓State.bound_rules]
@[simp] theorem State.showCullet_bound : s.showCullet.bound = s.bound := by simp [State.showCullet]
@[simp] theorem State.fenceTileNow_bound (k : Nat) : (s.fenceTileNow k).bound = s.bound := by simp [State.fenceTileNow]
@[simp] theorem State.startShadow_bound : s.startShadow.bound = s.bound := by
  unfold State.startShadow
  dsimp only
  repeat' split
  all_goals simp [↓State.bound_rules]
@[simp] theorem State.shadowBoundary_bound : s.shadowBoundary.bound = s.bound := by simp [State.shadowBoundary, ↓State.bound_rules]
@[simp] theorem State.replaceTiles_bound : s.replaceTiles.bound = s.bound := by
  unfold State.replaceTiles
  dsimp only
  split
  · rfl
  · rw [State.showCullet_bound]
    refine (foldOver_bound fun x t => ?_).trans (by simp [↓State.bound_rules])
    split <;> simp
@[simp] theorem State.unfence_bound (e : FenceEntry) : (s.unfence e).bound = s.bound := by simp [State.unfence, ↓State.bound_rules]
@[simp] theorem State.readmitLane_bound (l : Nat) : (s.readmitLane l).bound = s.bound := by simp [State.readmitLane, ↓State.bound_rules]
@[simp] theorem State.readmitLaxus_bound (l : Nat) : (s.readmitLaxus l).bound = s.bound := by
  simp [State.readmitLaxus, ↓State.bound_rules]
@[simp] theorem State.readmitUnits_bound : s.readmitUnits.bound = s.bound := by simp [State.readmitUnits, ↓State.bound_rules]
@[simp] theorem State.calOrder1_bound : s.calOrder1.bound = s.bound := by simp [State.calOrder1]
@[simp] theorem State.calBoundary_bound : s.calBoundary.bound = s.bound := by simp [State.calBoundary]

/-! ### Cfg -/

@[simp] theorem State.mirrorDom_bound (d : Nat) (on : Bool) : (s.mirrorDom d on).bound = s.bound := by
  simp [State.mirrorDom, ↓State.bound_rules]
@[simp] theorem State.compileAgain_bound : s.compileAgain.bound = s.bound := by simp [State.compileAgain, ↓State.bound_rules]
@[simp] theorem State.applyReload_bound : s.applyReload.bound = s.bound := by
  unfold State.applyReload
  simp only [↓State.bound_rules, State.raiseB_bound, State.put_bound, State.wrN_bound, State.inc_bound, State.showCullet_bound,
    State.placeTiles_bound, State.applyMech_bound, ite_self]
  refine (foldOver_bound fun o t => ?_).trans (by simp only [↓State.bound_rules])
  split <;> simp [↓State.bound_rules]

/-! ### Shutter -/

@[simp] theorem State.setCam_bound (n : Nat) (x : CamSt) : (s.setCam n x).bound = s.bound := by simp [State.setCam, ↓State.bound_rules]
@[simp] theorem State.published_bound (n align open_ len : Nat) : (s.published n align open_ len).bound = s.bound := by
  simp [State.published]
@[simp] theorem State.publishMean_bound (n : Nat) : (s.publishMean n).bound = s.bound := by
  unfold State.publishMean
  dsimp only
  split <;> simp
@[simp] theorem State.shutterBoundary_bound : s.shutterBoundary.bound = s.bound := by simp [State.shutterBoundary, ↓State.bound_rules]
@[simp] theorem State.startCam_bound (n : Nat) : (s.startCam n).bound = s.bound := by simp [State.startCam]
@[simp] theorem State.shutterCommit_bound (n old : Nat) : (s.shutterCommit n old).bound = s.bound := by
  simp [State.shutterCommit, ↓State.bound_rules]

/-! ### Commit -/

@[simp] theorem State.showGroup_bound (g : Nat) : (s.showGroup g).bound = s.bound := by simp [State.showGroup]
@[simp] theorem State.groupBoundary_bound : s.groupBoundary.bound = s.bound := by simp [State.groupBoundary, ↓State.bound_rules]
@[simp] theorem State.showCommits_bound : s.showCommits.bound = s.bound := by simp [State.showCommits, ↓State.bound_rules]
@[simp] theorem State.dropLoads_bound : s.dropLoads.bound = s.bound := by simp [State.dropLoads, ↓State.bound_rules]
@[simp] theorem State.showBook_bound (k : Nat) : (s.showBook k).bound = s.bound := by
  unfold State.showBook
  split <;> simp [↓State.bound_rules]
@[simp] theorem State.switchTables_bound : s.switchTables.bound = s.bound := by simp [State.switchTables, ↓State.bound_rules]
@[simp] theorem State.startCf_bound (o : Nat) : (s.startCf o).bound = s.bound := by simp [State.startCf, ↓State.bound_rules]
@[simp] theorem State.applyPf_bound (before : State) : (s.applyPf before).bound = s.bound := by simp [State.applyPf, ↓State.bound_rules]
@[simp] theorem State.passGoesOn_bound (cs : List Nat) (o : Nat) : (s.passGoesOn cs o).bound = s.bound := by simp [State.passGoesOn]
@[simp] theorem State.repeatOutputs_bound (started : List Nat) : (s.repeatOutputs started).bound = s.bound := by
  simp [State.repeatOutputs, ↓State.bound_rules]

/-! ### Thm -/

@[simp] theorem State.rampDomains_bound : s.rampDomains.bound = s.bound := by
  unfold State.rampDomains
  refine (foldOver_bound fun d t => ?_).trans (by simp [↓State.bound_rules])
  split
  · rfl
  · split <;> simp [↓State.bound_rules]
@[simp] theorem State.restartDone_bound : s.restartDone.bound = s.bound := by simp [State.restartDone, ↓State.bound_rules]
@[simp] theorem State.throttleBoundary_bound : s.throttleBoundary.bound = s.bound := by
  unfold State.throttleBoundary
  dsimp only
  split <;> simp [↓State.bound_rules]
@[simp] theorem State.trimBoundary_bound : s.trimBoundary.bound = s.bound := by simp [State.trimBoundary, ↓State.bound_rules]

/-! ### Int -/

@[simp] theorem State.crcCompareOne_bound (o r cfn : Nat) : (s.crcCompareOne o r cfn).bound = s.bound := by
  simp [State.crcCompareOne, ↓State.bound_rules]
@[simp] theorem State.crcCompare_bound (o : Nat) : (s.crcCompare o).bound = s.bound := by simp [State.crcCompare]
@[simp] theorem State.rateBoundary_bound : s.rateBoundary.bound = s.bound := by simp [State.rateBoundary, ↓State.bound_rules]
@[simp] theorem State.snapshotBoundary_bound : s.snapshotBoundary.bound = s.bound := by simp [State.snapshotBoundary, ↓State.bound_rules]

/-! ### Reset -/

@[simp] theorem State.resetOff_bound (c n : Nat) : (s.resetOff c n).bound = s.bound := by
  unfold State.resetOff
  split <;> simp [↓State.bound_rules]
@[simp] theorem State.dropWaiting_bound (c : Nat) : (s.dropWaiting c).bound = s.bound := by simp [State.dropWaiting, ↓State.bound_rules]
@[simp] theorem State.hostMapsBoundary_bound : s.hostMapsBoundary.bound = s.bound := by simp [State.hostMapsBoundary, ↓State.bound_rules]

/-! ### Round -/

@[simp] theorem State.setRound_bound (r : RoundSt) : (s.setRound r).bound = s.bound := by simp [State.setRound, ↓State.bound_rules]
@[simp] theorem State.systemStarts_bound : s.systemStarts.bound = s.bound := by simp [State.systemStarts, ↓State.bound_rules]
@[simp] theorem State.endRound_bound : s.endRound.bound = s.bound := by simp [State.endRound]

/-! ### LfBoundary -/

@[simp] theorem State.scanFrame_bound (o : Nat) : (s.scanFrame o).bound = s.bound := by simp [State.scanFrame, ↓State.bound_rules]
@[simp] theorem State.endOffs_bound (started : List Nat) : (s.endOffs started).bound = s.bound := by
  simp [State.endOffs, ↓State.bound_rules]
@[simp] theorem State.applyDrop_bound (started : List Nat) (d : DropSt) : (s.applyDrop started d).1.bound = s.bound := by
  simp [State.applyDrop, ↓State.bound_rules]
theorem foldl_bound {α β : Type} {f : State × β → α → State × β} (h : ∀ a d, (f a d).1.bound = a.1.bound) (l : List α)
    (a : State × β) : (l.foldl f a).1.bound = a.1.bound := by
  induction l generalizing a with
  | nil => rfl
  | cons d r ih => exact (ih _).trans (h a d)
@[simp] theorem State.applyDrops_bound (started : List Nat) : (s.applyDrops started).bound = s.bound := by
  unfold State.applyDrops
  simp only [↓State.bound_rules]
  refine foldl_bound (fun a d => ?_) _ _
  split <;> simp
@[simp] theorem State.repairPasses_bound : s.repairPasses.bound = s.bound := by simp [State.repairPasses, ↓State.bound_rules]
@[simp] theorem State.solveScans_bound : s.solveScans.bound = s.bound := by simp [State.solveScans]
@[simp] theorem State.internalPasses_bound : s.internalPasses.bound = s.bound := by simp [State.internalPasses]
@[simp] theorem State.startBoundary_bound : s.startBoundary.bound = s.bound := by simp [State.startBoundary, ↓State.bound_rules]
@[simp] theorem State.compareRects_bound : s.compareRects.bound = s.bound := by simp [State.compareRects, ↓State.bound_rules]

end Sys2Proof.Machine
end

section
/-! The LF boundary's clock (R34, R35, R92): the functions that move it or the pending commits, and O36's first clause. -/
namespace Sys2Proof.Machine

@[simp] theorem foldOver_clock {α : Type} {l : List α} {f : α → State → State} {s : State}
    (h : ∀ a t, (f a t).bound.1 = t.bound.1) :
    (foldOver l f s).bound.1 = s.bound.1 :=
  foldOver_keeps (fun t => t.bound.1) h s

section
variable (s : State)

@[simp] theorem State.actWr_bound (a : Nat) (w : Word) :
    (s.actWr a w).bound = (s.bound.1, s.hif.commits, s.hif.resetting, tset s.act a w) := (rfl)

@[simp] theorem State.endCommit_bound (c st reason lfn : Nat) (atBoundary : Bool) :
    (s.endCommit c st reason lfn atBoundary).bound = (s.bound.1, tdel s.hif.commits c, s.hif.resetting, s.act) := by
  simp [State.endCommit, ↓State.bound_rules]

@[simp] theorem State.decideFor_bound (cs : List Nat) : (s.decideFor cs).bound =
    (s.bound.1, s.hif.commits.map (fun (e : Nat × CommitSt) => (e.1, { e.2 with decided := cs.contains e.1 })),
      s.hif.resetting, s.act) := by
  simp [State.decideFor, ↓State.bound_rules]

@[simp] theorem State.failCommit_clock (c st reason : Nat) (atBoundary : Bool) :
    (s.failCommit c st reason atBoundary).bound.1 = s.bound.1 := by
  simp [State.failCommit, ↓State.bound_rules]

@[simp] theorem State.moveCommits_clock : s.moveCommits.bound.1 = s.bound.1 := by
  simp [State.moveCommits]

@[simp] theorem State.applyShadow_clock (a : Nat) : (s.applyShadow a).bound.1 = s.bound.1 := by
  simp [State.applyShadow]

@[simp] theorem State.applyCommits_clock : s.applyCommits.bound.1 = s.bound.1 := by
  simp [State.applyCommits, ↓State.bound_rules, apply_ite Prod.fst]

@[simp] theorem State.dropLayer_clock (n : Nat) : (s.dropLayer n).bound.1 = s.bound.1 := by
  simp [State.dropLayer, ↓State.bound_rules]

@[simp] theorem State.clearCtx_clock (c : Nat) (owned : List Nat) : (s.clearCtx c owned).bound.1 = s.bound.1 := by
  simp [State.clearCtx, ↓State.bound_rules]

@[simp] theorem State.finishReset_clock (c : Nat) : (s.finishReset c).bound.1 = s.bound.1 := by
  simp [State.finishReset, ↓State.bound_rules, apply_ite Prod.fst]

@[simp] theorem State.resetBoundary_clock : s.resetBoundary.bound.1 = s.bound.1 := by
  simp [State.resetBoundary, ↓State.bound_rules]

@[simp] theorem State.bootTimingBoundary_clock : s.bootTimingBoundary.bound.1 = s.bound.1 := by
  unfold State.bootTimingBoundary
  split
  · simp [↓State.bound_rules]
  · rfl

@[simp] theorem State.boundaryOrders_clock : s.boundaryOrders.bound.1 = s.bound.1 := by
  simp [State.boundaryOrders, ↓State.bound_rules, apply_ite Prod.fst]

@[simp] theorem State.boundaryPictures_clock : s.boundaryPictures.bound.1 = s.bound.1 := by
  simp [State.boundaryPictures]

@[simp] theorem State.boundaryBlocks_clock : s.boundaryBlocks.bound.1 = s.bound.1 := by
  simp [State.boundaryBlocks, ↓State.bound_rules]

@[simp] theorem State.timAdvance_bound : s.timAdvance.bound =
    ((s.now, if s.tim.bootLf then 0 else (s.tim.lfn + 1) % 2 ^ 32, false,
      if s.tim.bootLf then s.now * 65536 else s.tim.lfStart16 + s.tim.p16, s.hif.winStart), s.bound.2) := by
  unfold State.timAdvance
  extract_lets _ s1 tim s2 s3
  have h1 : s1.bound = ((s.now, if s.tim.bootLf then 0 else (s.tim.lfn + 1) % 2 ^ 32, false,
      if s.tim.bootLf then s.now * 65536 else s.tim.lfStart16 + s.tim.p16, s.hif.winStart), s.bound.2) := rfl
  have h3 : s3.bound = s1.bound := by
    dsimp only [s3]
    split <;> simp [s2]
  clear_value s1 s3
  rw [← h1]
  simp [↓State.bound_rules, tim, h3]

@[simp] theorem State.closeWindow_bound : s.closeWindow.bound =
    ((s.now, s.tim.lfn, s.tim.bootLf, s.tim.lfStart16, s.now), s.bound.2) := by
  simp [State.closeWindow, ↓State.bound_rules]

@[simp] theorem State.fetchBoundary_bound (n : Nat) : (s.fetchBoundary n).bound =
    ((s.now, s.tim.lfn, s.tim.bootLf, s.tim.lfStart16, s.now), s.bound.2) := by
  simp [State.fetchBoundary, ↓State.bound_rules]

@[simp] theorem State.boundaryChanges_clock : s.boundaryChanges.bound.1 = s.timAdvance.bound.1 := by
  simp [State.boundaryChanges]

/-- The state at the boundary's instant. -/
def State.atBoundary : State := { s with now := max s.now s.nextBoundary }

/-- A boundary's first part: the fetch window ends, and the scan outputs' frames are complete. -/
def State.lfEnds : State :=
  foldOver s.atBoundary.scanOutputs (fun o t => t.scanFrame o) (s.atBoundary.fetchBoundary (s.tim.p16 / 65536))

theorem doLfBoundary_of_live (h : s.live = true) : doLfBoundary s = s.lfEnds.boundaryChanges.boundaryPictures.boundaryBlocks := by
  rw [doLfBoundary, State.onLive, if_pos h]
  rfl

theorem State.lfEnds_bound : s.lfEnds.bound =
    ((max s.now s.nextBoundary, s.tim.lfn, s.tim.bootLf, s.tim.lfStart16, max s.now s.nextBoundary), s.bound.2) := by
  rw [State.lfEnds, foldOver_bound fun o t => State.scanFrame_bound t o, State.fetchBoundary_bound]
  rfl

theorem State.lfEnds_frame {W : Nat → Prop} {K : Part → Prop} (hE : Ev W K) (r_CMP_FBC_ERRORS : W CMP_FBC_ERRORS)
    (r_HIF_CTX_FETCH_DEMAND : ∀ i, W (HIF_CTX_FETCH_DEMAND i)) (r_CMP_LYR_FBC_ERR : ∀ i, W (CMP_LYR_FBC_ERR i))
    (r_rect : ∀ i j, W (rectReg i j 0x14) ∧ W (rectReg i j 0x18)) (k_out : K .out) (k_mem : K .mem) (k_int : K .int) (k_cmp : K .cmp)
    (k_hif : K .hif) : Fr anyDram W K s s.lfEnds := by
  have h : Fr anyDram W K s s.atBoundary := (Fr.start trivial).via ⟨fun _ _ => rfl, fun p _ => by cases p <;> rfl⟩ rfl rfl
  unfold State.lfEnds
  refine foldOver_frame _ _ (fun o t ht => ?_) (State.fetchBoundary_frame _ _ r_HIF_CTX_FETCH_DEMAND k_hif h)
  exact State.scanFrame_frame dramOk_any _ _ hE r_CMP_FBC_ERRORS r_CMP_LYR_FBC_ERR (fun i j => (r_rect i j).1)
    (fun i j => (r_rect i j).2) k_out k_mem k_int k_cmp ht

theorem State.lfEnds_tim : s.lfEnds.tim = s.tim := by
  have h : Fr anyDram anyReg (· ≠ .tim) s s.lfEnds := by apply State.lfEnds_frame <;> simp
  exact h.frame.2 .tim (by simp)

/-- A boundary's clock: its instant, LFN, the LF's start and the fetch window's (R34, R35, R92). -/
theorem doLfBoundary_clock (h : s.live = true) : (doLfBoundary s).bound.1 =
    (max s.now s.nextBoundary, if s.tim.bootLf then 0 else (s.tim.lfn + 1) % 2 ^ 32, false,
      if s.tim.bootLf then max s.now s.nextBoundary * 65536 else s.tim.lfStart16 + s.tim.p16, max s.now s.nextBoundary) := by
  rw [doLfBoundary_of_live s h, State.boundaryBlocks_clock, State.boundaryPictures_clock, State.boundaryChanges_clock,
    State.timAdvance_bound]
  simp [↓State.bound_rules, s.lfEnds_bound, s.lfEnds_tim]

end

end Sys2Proof.Machine
end

section
/-! The registers that a boundary leaves alone: before the commits apply those of the layers, after it those of a commit that applied. -/
namespace Sys2Proof.Machine

/-- Keys off a span. -/
def offSpan (l h a : Nat) : Prop := a < l ∨ h ≤ a

/-- The registers off the layers' blocks, and a layer's error count in its block: what a boundary writes before its commits apply. -/
def offLayers (a : Nat) : Prop := offSpan 0x810000 0xC20000 a ∨ ∃ i, a = CMP_LYR_FBC_ERR i

/-- The registers apart from the status and the LFN of context `c`'s commit. -/
def offCommit (c a : Nat) : Prop := c < 1024 → a ≠ cmReg c + 8 ∧ a ≠ cmReg c + 12

/-- Every part but CFG. -/
def offCfg (p : Part) : Prop := p ≠ .cfg

/-- Every part. -/
def anyPart (_ : Part) : Prop := True

@[simp] theorem offCfg_iff (p : Part) : offCfg p ↔ p ≠ .cfg := Iff.rfl
@[simp] theorem anyPart_intro (p : Part) : anyPart p := trivial

section
variable {l h a b i j k n lo st c : Nat}

theorem offSpan_family (ha : lo + st * n ≤ l ∨ h ≤ lo) (hb : h ≤ b) (hs : 0 < st) :
    offSpan l h (if i < n then lo + st * i else b) := by
  split
  · next hi =>
    have := Nat.mul_lt_mul_of_pos_left hi hs
    unfold offSpan
    omega
  · exact .inr hb

theorem rectReg_bounds (hk : k < 0x40) : 0xC20000 ≤ rectReg i j k ∧ (rectReg i j k < 0x10000000 ∨ 0x40000000 ≤ rectReg i j k) := by
  unfold rectReg rectCtrl INT_CRC_CTRL INT_WCRC_CTRL
  split <;> split <;> omega

theorem evReg_bounds (ha : evReg a = true) : a < 0x810000 ∨ 0xC20000 ≤ a ∧ a < 0x10000000 := by
  simp only [evReg, INT_STATUS, INT_DROPS, INT_SUPPRESSED, INT_LOG_STATUS, Bool.or_eq_true, Bool.and_eq_true, beq_iff_eq,
    decide_eq_true_eq] at ha
  omega

@[simp] theorem offLayers_low (ha : a < 0x810000) : offLayers a := .inl (.inl ha)
@[simp] theorem offLayers_high (ha : 0xC20000 ≤ a) : offLayers a := .inl (.inr ha)
@[simp] theorem offLayers_error : offLayers (CMP_LYR_FBC_ERR i) := .inr ⟨i, rfl⟩
@[simp] theorem offLayers_rect (hk : k < 0x40) : offLayers (rectReg i j k) := offLayers_high (rectReg_bounds hk).1
@[simp] theorem offLayers_family (ha : lo + st * n ≤ 0x810000 ∨ 0xC20000 ≤ lo) (hb : 0xC20000 ≤ b) (hs : 0 < st) :
    offLayers (if i < n then lo + st * i else b) := .inl (offSpan_family ha hb hs)
@[simp] theorem ev_offLayers {K : Part → Prop} : Ev offLayers K ↔ K .int :=
  ⟨fun h => h.2, fun h => ⟨fun _ ha => .inl ((evReg_bounds ha).imp_right (·.1)), h⟩⟩

theorem cmReg_of_lt (hc : c < 1024) : cmReg c = 0x10000008 + 0x10000 * c := by
  rw [cmReg, if_neg (show c ≠ 1024 by omega), HIF_CTX_COMMIT, if_pos hc]

theorem offCommit_of_off (ha : offSpan 0x10000000 0x40000000 a) : offCommit c a := fun hc => by
  rw [cmReg_of_lt hc]
  unfold offSpan at ha
  omega

@[simp] theorem offCommit_low (ha : a < 0x10000000) : offCommit c a := offCommit_of_off (.inl ha)
@[simp] theorem offCommit_rect (hk : k < 0x40) : offCommit c (rectReg i j k) := offCommit_of_off (rectReg_bounds hk).2
@[simp] theorem offCommit_family (ha : lo + st * n ≤ 0x10000000 ∨ 0x40000000 ≤ lo) (hb : 0x40000000 ≤ b) (hs : 0 < st) :
    offCommit c (if i < n then lo + st * i else b) := offCommit_of_off (offSpan_family ha hb hs)
@[simp] theorem offCommit_pages : offCommit c (HIF_CTX_PAGES i) := fun hc => by
  rw [cmReg_of_lt hc, HIF_CTX_PAGES]
  split <;> omega
@[simp] theorem ev_offCommit {K : Part → Prop} : Ev (offCommit c) K ↔ K .int :=
  ⟨fun h => h.2, fun h => ⟨fun _ ha => offCommit_low ((evReg_bounds ha).elim (by omega) (·.2)), h⟩⟩

/-- The registers of another commit. -/
theorem offCommit_commit (hne : n ≠ c) (hk : k < 16) : offCommit c (cmReg n + k) := fun hc => by
  rw [cmReg_of_lt hc]
  unfold cmReg HIF_CTX_COMMIT
  split
  · simp only [HIF_PF_COMMIT]
    omega
  · split <;> omega
end

/-- The layers' registers, and CFG, stand. -/
abbrev KeepsLayers (s t : State) : Prop := Fr anyDram offLayers offCfg s t

/-- The status and the LFN of context `c`'s commit stand. -/
abbrev KeepsCommit (c : Nat) (s t : State) : Prop := Fr anyDram (offCommit c) anyPart s t

/-! ### Before the commits apply -/

section
variable {s t : State}

theorem State.lfEnds_layers : KeepsLayers s s.lfEnds := by
  apply State.lfEnds_frame <;> simp (disch := decide)

theorem State.timAdvance_layers (h : KeepsLayers s t) : KeepsLayers s t.timAdvance := by
  apply State.timAdvance_frame <;> simp (disch := decide) [h]

theorem State.bootTimingBoundary_layers (h : KeepsLayers s t) : KeepsLayers s t.bootTimingBoundary := by
  apply State.bootTimingBoundary_frame <;> simp (disch := decide) [h]

theorem State.rateBoundary_layers (h : KeepsLayers s t) : KeepsLayers s t.rateBoundary := by
  apply State.rateBoundary_frame <;> simp (disch := decide) [h]

theorem State.dropOldEvents_layers (h : KeepsLayers s t) : KeepsLayers s t.dropOldEvents := by
  apply State.dropOldEvents_frame <;> simp [h]

theorem State.staticBoundary_layers (h : KeepsLayers s t) : KeepsLayers s t.staticBoundary := by
  apply State.staticBoundary_frame <;> simp (disch := decide) [h]

theorem State.compareRects_layers (h : KeepsLayers s t) : KeepsLayers s t.compareRects := by
  unfold State.compareRects
  split
  · exact h
  · refine foldOver_frame _ _ (fun o u hu => ?_) h
    apply State.crcCompare_frame <;> simp (disch := decide) [hu]

theorem State.calOrder1_layers (h : KeepsLayers s t) : KeepsLayers s t.calOrder1 := by
  apply State.calOrder1_frame <;> simp (disch := decide) [h]

theorem State.rowsBoundary_layers (h : KeepsLayers s t) : KeepsLayers s t.rowsBoundary := by
  apply State.rowsBoundary_frame <;> simp (disch := decide) [h]

theorem State.throttleBoundary_layers (h : KeepsLayers s t) : KeepsLayers s t.throttleBoundary := by
  apply State.throttleBoundary_frame <;> simp (disch := decide) [h]

end
end Sys2Proof.Machine
end

section
/-! What a commit's registers hold from the decision to the order that applies it, and what applying leaves (R11, R92, R98). -/
namespace Sys2Proof.Machine

section
variable {s t : State} {a c : Nat}

theorem mem_tkeys {α : Type} {r : Tbl α} : a ∈ tkeys r ↔ thas r a = true := by
  induction r with
  | nil => simp [tkeys, thas, tfind]
  | cons e r ih =>
    obtain ⟨k, w⟩ := e
    by_cases hk : k = a
    · simp [tkeys, thas, tfind, hk]
    · simpa [tkeys, thas, tfind, hk, Ne.symm hk] using ih

/-- A register whose shadow differs from its value in force is listed in one of the two tables. -/
theorem State.listed_of_ne (h : s.rd a ≠ s.actRd a) : thas s.regs a = true ∨ thas s.act a = true := by
  by_contra hno
  simp only [thas, not_or, Bool.not_eq_true, Option.isSome_eq_false_iff, Option.isNone_iff_eq_none] at hno
  exact h (by rw [State.rd, State.actRd, tget, tget, hno.1, hno.2])

theorem State.mem_changedKeys : a ∈ s.changedKeys c ↔
    s.rd a ≠ s.actRd a ∧ s.keyOwner a = c ∧ (s.rdN a ^^^ (s.actRd a).toNat) &&& rwsMask a ≠ 0 := by
  rw [State.changedKeys, List.mem_filter, List.mem_append, List.mem_filter, mem_tkeys, mem_tkeys]
  simp only [Bool.and_eq_true, bne_iff_ne, beq_iff_eq, and_assoc, Bool.not_eq_true', ne_eq]
  refine ⟨fun h => h.2, fun h => ⟨?_, h⟩⟩
  rcases State.listed_of_ne h.1 with hr | ha
  · exact .inl hr
  · by_cases hr : thas s.regs a = true
    · exact .inl hr
    · exact .inr ⟨ha, Bool.not_eq_true _ ▸ hr⟩

/-- The layers' blocks by their keys. -/
theorem State.keyOwner_eq (s : State) (a : Nat) : s.keyOwner a =
    if 0x810000 ≤ a ∧ a < 0x820000 then (s.holder ((a - 0x810000) / 0x100)).getD 1024
    else if 0xC10000 ≤ a ∧ a < 0xC20000 then (s.holder ((a - 0xC10000) / 0x100)).getD 1024
    else 1024 := by
  have h1 : CMP_LYR_CTRL 0 = 0x810000 := by decide
  have h2 : COL_LYR_CTRL 0 = 0xC10000 := by decide
  rw [State.keyOwner, h1, h2]

theorem rwsMask_error (i : Nat) : rwsMask (CMP_LYR_FBC_ERR i) = 0 := by
  have hin : ∀ i < 256, rwsMask (CMP_LYR_FBC_ERR i) = 0 := by decide +kernel
  by_cases hi : i < 256
  · exact hin i hi
  · rw [CMP_LYR_FBC_ERR, if_neg hi]
    decide +kernel

/-- The register of a context's commit is a layer's, and no count of errors. -/
theorem State.not_offLayers (h : a ∈ s.changedKeys c) (hc : c < 1024) : ¬ offLayers a := by
  obtain ⟨-, hown, hmask⟩ := State.mem_changedKeys.1 h
  rintro (hoff | ⟨i, rfl⟩)
  · unfold offSpan at hoff
    rw [State.keyOwner_eq, if_neg (by omega), if_neg (by omega)] at hown
    omega
  · exact hmask (by rw [rwsMask_error, Nat.and_zero])

theorem KeepsLayers.holder (h : KeepsLayers s t) {n : Nat} (hn : n < 256) : t.holder n = s.holder n := by
  have hr : t.rd (CMP_LYR_OWNER n) = s.rd (CMP_LYR_OWNER n) := h.frame.1 _ (by
    rw [CMP_LYR_OWNER, if_pos hn]
    rintro (hoff | ⟨i, hi⟩)
    · unfold offSpan at hoff
      omega
    · rw [CMP_LYR_FBC_ERR] at hi
      split at hi <;> omega)
  have hget : ∀ f : Fld, f.reg = CMP_LYR_OWNER n → t.get f = s.get f := fun f hf => State.get_congr (hf ▸ hr)
  rw [State.holder, State.holder, State.flag, State.flag, hget _ rfl, hget _ rfl]

theorem KeepsLayers.keyOwner (h : KeepsLayers s t) : t.keyOwner a = s.keyOwner a := by
  rw [State.keyOwner_eq, State.keyOwner_eq]
  split
  · rw [h.holder (by omega)]
  · split
    · rw [h.holder (by omega)]
    · rfl

theorem KeepsLayers.changedKeys (h : KeepsLayers s t) (hact : ∀ a, ¬ offLayers a → t.actRd a = s.actRd a) (hc : c < 1024)
    (ha : a ∈ s.changedKeys c) : a ∈ t.changedKeys c ∧ t.rd a = s.rd a := by
  have hoff := State.not_offLayers ha hc
  have hr : t.rd a = s.rd a := h.frame.1 a hoff
  refine ⟨?_, hr⟩
  rw [State.mem_changedKeys] at ha ⊢
  rwa [State.rdN, hr, hact a hoff, h.keyOwner]

end
end Sys2Proof.Machine
end

section
/-! Order 4 of the boundary: a decided commit applies (R11, R92, R98). -/
namespace Sys2Proof.Machine

section
variable {s t : State} {a c lfn : Nat}

/-! ### Shadows -/

theorem State.actRd_applyShadow (s : State) (a b : Nat) : (s.applyShadow a).actRd b = if b = a then s.rd a else s.actRd b := by
  unfold State.actRd State.applyShadow State.actWr
  dsimp only
  split
  · next h => rw [h, tget_tset_same]
  · next h => rw [tget_tset_other _ _ _ h]

/-- A listed register is in force as its shadow, and stays so while others apply. -/
theorem State.applyShadows_inForce (l : List Nat) (s : State) (h : a ∈ l ∨ s.actRd a = s.rd a) :
    (foldOver l (fun a t => t.applyShadow a) s).actRd a = s.rd a := by
  induction l generalizing s with
  | nil => exact h.elim (fun h => absurd h (by simp)) id
  | cons b r ih =>
    refine ih (s.applyShadow b) ?_
    rw [State.actRd_applyShadow]
    split
    · next hb => exact .inr (congrArg s.rd hb.symm)
    · next hb => exact h.imp_left fun h => (List.mem_cons.1 h).resolve_left hb

/-! ### The end of a commit -/

@[simp] theorem keepsCommit_refl (c : Nat) (s : State) : KeepsCommit c s s := Fr.start trivial

/-- What R98 leaves of a commit that has applied. -/
def State.applied (s : State) (c lfn : Nat) : Prop :=
  s.cm c = none ∧ s.get (cmState c) = 3 ∧ s.get (cmReason c) = 0 ∧ s.rdN (cmReg c + 12) = lfn % 2 ^ 32

theorem KeepsCommit.applied (h : KeepsCommit c s t) (hc : c < 1024) (hcm : t.cm c = none) (ha : s.applied c lfn) : t.applied c lfn := by
  have h8 : t.rd (cmReg c + 8) = s.rd (cmReg c + 8) := h.frame.1 _ fun ho => (ho hc).1 rfl
  have h12 : t.rd (cmReg c + 12) = s.rd (cmReg c + 12) := h.frame.1 _ fun ho => (ho hc).2 rfl
  obtain ⟨-, hst, hre, hl⟩ := ha
  exact ⟨hcm, (State.get_congr h8).trans hst, (State.get_congr h8).trans hre, (congrArg BitVec.toNat h12).trans hl⟩

theorem State.cm_eq (s : State) (c : Nat) : s.cm c = tfind s.bound.2.1 c := rfl

theorem State.endCommit_keeps (s : State) {n st reason l : Nat} {b : Bool} (hne : n ≠ c) :
    KeepsCommit c s (s.endCommit n st reason l b) := by
  have h0 : offCommit c (cmReg n) := offCommit_commit (k := 0) hne (by decide)
  apply State.endCommit_frame <;> simp (disch := decide) [h0, offCommit_commit hne]

theorem State.endCommit_applied (s : State) (hc : c < 1024) : (s.endCommit c cmApplied 0 lfn true).applied c lfn := by
  unfold State.endCommit
  extract_lets tag g hif s1 s2 s3 s4 ctx
  rw [if_pos rfl]
  have h3 : s3 = s2.wrN (cmReg c + 12) lfn := if_pos rfl
  have hcm : s3.cm c = none := by
    rw [h3, State.cm_eq, State.wrN_bound]
    simp [s2, s1, ↓State.bound_rules, tfind_tdel]
  have h4 : KeepsCommit c s3 s4 := by
    apply State.showGroup_frame <;> simp (disch := decide)
  have ht : KeepsCommit c s3 (s4.raiseCB 0x0F01 ctx tag cmApplied lfn) := by
    apply State.raiseCB_frame <;> simp [h4]
  have hget : ∀ f : Fld, f.reg = cmReg c + 8 → s3.get f = s2.get f := fun f hf => State.get_congr (by
    rw [h3, State.rd_wrN_other _ _ (by omega)])
  have hcs : (cmCause c).apart (cmState c) = true := by simp [Fld.apart]
  have hcr : (cmCause c).apart (cmReason c) = true := by simp [Fld.apart]
  have hrs : (cmReason c).apart (cmState c) = true := by simp [Fld.apart]
  refine ht.applied hc ?_ ⟨hcm, ?_, ?_, ?_⟩
  · rw [State.cm_eq, State.raiseCB_bound, State.showGroup_bound]
    exact hcm
  · rw [hget _ rfl]
    dsimp only [s2]
    rw [State.get_put_apart _ _ rfl hcs, State.get_put_apart _ _ rfl hrs, State.get_put_same _ _ _ rfl]
    rfl
  · rw [hget _ rfl]
    dsimp only [s2]
    rw [State.get_put_apart _ _ rfl hcr, State.get_put_same _ _ _ rfl]
    rfl
  · rw [h3, State.rdN_wrN_same]

/-- Once its commit has ended at the boundary, a context's stands so while others end. -/
theorem State.endCommits_applied (l : List Nat) (s : State) (hc : c < 1024) (hl : s.tim.lfn = lfn) (h : c ∈ l ∨ s.applied c lfn) :
    (foldOver l (fun c t => t.endCommit c cmApplied 0 t.tim.lfn true) s).applied c lfn := by
  induction l generalizing s with
  | nil => exact h.elim (fun h => absurd h (by simp)) id
  | cons n r ih =>
    refine ih _ (by simp [↓State.bound_rules, ← hl]) ?_
    by_cases hn : n = c
    · subst hn hl
      exact .inr (s.endCommit_applied hc)
    · refine h.imp (fun h => (List.mem_cons.1 h).resolve_left (Ne.symm hn)) fun h => ?_
      refine (s.endCommit_keeps hn).applied hc ?_ h
      rw [State.cm_eq, State.endCommit_bound, tfind_tdel, if_neg (Ne.symm hn)]
      exact h.1

/-! ### Order 4 -/

/-- The shadows of the decided commits are in force. -/
def State.shadowsInForce (s : State) : State := foldOver (s.decidedNow.flatMap s.changedKeys) (fun a t => t.applyShadow a) s

/-- The decided commits end once their shadows are in force; what comes between leaves what the boundary settles. -/
theorem State.applyCommits_stages (h : s.decidedNow ≠ []) : ∃ u : State, u.bound = s.shadowsInForce.bound ∧
    s.applyCommits = foldOver s.decidedNow (fun c t => t.endCommit c cmApplied 0 t.tim.lfn true) u := by
  unfold State.applyCommits
  extract_lets cs outs s1 s2 s3 s4 s5
  have h1 : s1.bound = s.shadowsInForce.bound := rfl
  exact ⟨s5, by simp [s5, s4, s3, s2, ↓State.bound_rules, h1], if_neg (by simpa using h)⟩

theorem State.shadowsInForce_clock (s : State) : s.shadowsInForce.bound.1 = s.bound.1 := by
  simp [State.shadowsInForce]

theorem State.applyCommits_applied (hx : c ∈ s.decidedNow) (hc : c < 1024) : s.applyCommits.applied c s.tim.lfn := by
  obtain ⟨u, hu, happ⟩ := State.applyCommits_stages (List.ne_nil_of_mem hx)
  rw [happ]
  exact State.endCommits_applied _ _ hc (congrArg (·.1.2.1) hu |>.trans (congrArg (·.2.1) s.shadowsInForce_clock)) (.inl hx)

theorem State.applyCommits_inForce (hx : c ∈ s.decidedNow) (ha : a ∈ s.changedKeys c) : s.applyCommits.actRd a = s.rd a := by
  obtain ⟨u, hu, happ⟩ := State.applyCommits_stages (List.ne_nil_of_mem hx)
  have hact : s.applyCommits.act = s.shadowsInForce.act := by
    rw [happ]
    exact (foldOver_keeps State.act (fun _ _ => congrArg (·.2.2.2) (State.endCommit_bound ..)) u).trans (congrArg (·.2.2.2) hu)
  rw [State.actRd, hact]
  exact State.applyShadows_inForce _ s (.inl (List.mem_flatMap.2 ⟨c, hx, ha⟩))

theorem State.applyCommits_resetting (s : State) : s.applyCommits.hif.resetting = s.hif.resetting := by
  by_cases h : s.decidedNow = []
  · simp [State.applyCommits, h]
  · obtain ⟨u, hu, happ⟩ := State.applyCommits_stages h
    have hsh : s.shadowsInForce.hif.resetting = s.hif.resetting :=
      foldOver_keeps (fun t => t.hif.resetting) (f := fun a t => t.applyShadow a) (fun _ _ => rfl) s
    rw [happ]
    exact (foldOver_keeps (fun t => t.hif.resetting) (fun _ _ => congrArg (·.2.2.1) (State.endCommit_bound ..)) u).trans
      ((congrArg (·.2.2.1) hu).trans hsh)

end
end Sys2Proof.Machine
end

section
/-! After the commits have applied: what the rest of the boundary leaves of them. -/
namespace Sys2Proof.Machine

section
variable {s t : State} {c : Nat}

/-! ### Function by function -/

theorem State.rebuildCommits_commit (allowed : Nat → Bool) (h : KeepsCommit c s t) : KeepsCommit c s (t.rebuildCommits allowed) := by
  apply State.rebuildCommits_frame <;> simp (disch := decide) [h]
theorem State.shutterBoundary_commit (h : KeepsCommit c s t) : KeepsCommit c s t.shutterBoundary := by
  apply State.shutterBoundary_frame <;> simp (disch := decide) [h]
theorem State.compileAgain_commit (h : KeepsCommit c s t) : KeepsCommit c s t.compileAgain := by
  apply State.compileAgain_frame <;> simp (disch := decide) [h]
theorem State.timFix_commit (h : KeepsCommit c s t) : KeepsCommit c s t.timFix := by
  apply State.timFix_frame <;> simp (disch := decide) [h]
theorem State.systimeStep_commit (h : KeepsCommit c s t) : KeepsCommit c s t.systimeStep := by
  apply State.systimeStep_frame <;> simp (disch := decide) [h]
theorem State.showBoot_commit (h : KeepsCommit c s t) : KeepsCommit c s t.showBoot := by
  apply State.showBoot_frame <;> simp (disch := decide) [h]
theorem State.startBoundary_commit (h : KeepsCommit c s t) : KeepsCommit c s t.startBoundary := by
  apply State.startBoundary_frame <;> simp (disch := decide) [h]
theorem State.watchdogBoundary_commit (h : KeepsCommit c s t) : KeepsCommit c s t.watchdogBoundary := by
  apply State.watchdogBoundary_frame <;> simp (disch := decide) [h]
theorem State.hbUpdate_commit (h : KeepsCommit c s t) : KeepsCommit c s t.hbUpdate := by
  apply State.hbUpdate_frame <;> simp (disch := decide) [h]
theorem State.stopBoundary_commit (h : KeepsCommit c s t) : KeepsCommit c s t.stopBoundary := by
  apply State.stopBoundary_frame <;> simp (disch := decide) [h]
theorem State.selectRanks_commit (stop : Bool) (h : KeepsCommit c s t) : KeepsCommit c s (t.selectRanks stop) := by
  apply State.selectRanks_frame <;> simp (disch := decide) [h]
theorem State.repeatOutputs_commit (started : List Nat) (h : KeepsCommit c s t) : KeepsCommit c s (t.repeatOutputs started) := by
  apply State.repeatOutputs_frame <;> simp (disch := decide) [h]
theorem State.trimBoundary_commit (h : KeepsCommit c s t) : KeepsCommit c s t.trimBoundary := by
  apply State.trimBoundary_frame <;> simp (disch := decide) [h]
theorem State.internalPasses_commit (h : KeepsCommit c s t) : KeepsCommit c s t.internalPasses := by
  apply State.internalPasses_frame <;> simp (disch := decide) [h]
theorem State.hostMapsBoundary_commit (h : KeepsCommit c s t) : KeepsCommit c s t.hostMapsBoundary := by
  apply State.hostMapsBoundary_frame <;> simp (disch := decide) [h]
theorem State.deferredBoundary_commit (h : KeepsCommit c s t) : KeepsCommit c s t.deferredBoundary := by
  apply State.deferredBoundary_frame <;> simp (disch := decide) [h]
theorem State.groupBoundary_commit (h : KeepsCommit c s t) : KeepsCommit c s t.groupBoundary := by
  apply State.groupBoundary_frame <;> simp (disch := decide) [h]
theorem State.endOffs_commit (started : List Nat) (h : KeepsCommit c s t) : KeepsCommit c s (t.endOffs started) := by
  apply State.endOffs_frame <;> simp (disch := decide) [h]
theorem State.applyDrops_commit (started : List Nat) (h : KeepsCommit c s t) : KeepsCommit c s (t.applyDrops started) := by
  apply State.applyDrops_frame <;> simp (disch := decide) [h]
theorem State.repairPasses_commit (h : KeepsCommit c s t) : KeepsCommit c s t.repairPasses := by
  apply State.repairPasses_frame <;> simp (disch := decide) [h]
theorem State.estimates_commit (h : KeepsCommit c s t) : KeepsCommit c s t.estimates := by
  apply State.estimates_frame <;> simp (disch := decide) [h]
theorem State.solveScans_commit (h : KeepsCommit c s t) : KeepsCommit c s t.solveScans := by
  apply State.solveScans_frame <;> simp (disch := decide) [h]
theorem State.retryLoads_commit (h : KeepsCommit c s t) : KeepsCommit c s t.retryLoads := by
  apply State.retryLoads_frame <;> simp (disch := decide) [h]
theorem State.liveBoundary_commit (h : KeepsCommit c s t) : KeepsCommit c s t.liveBoundary := by
  apply State.liveBoundary_frame <;> simp (disch := decide) [h]
theorem State.exitPasses_commit (h : KeepsCommit c s t) : KeepsCommit c s t.exitPasses := by
  apply State.exitPasses_frame <;> simp (disch := decide) [h]
theorem State.driftBoundary_commit (h : KeepsCommit c s t) : KeepsCommit c s t.driftBoundary := by
  apply State.driftBoundary_frame <;> simp (disch := decide) [h]
theorem State.pump_commit (o : Nat) (h : KeepsCommit c s t) : KeepsCommit c s (t.pump o) := by
  apply State.pump_frame <;> simp (disch := decide) [h]
theorem State.replayBoundary_commit (h : KeepsCommit c s t) : KeepsCommit c s t.replayBoundary := by
  apply State.replayBoundary_frame <;> simp (disch := decide) [h]
theorem State.aptBoundary_commit (h : KeepsCommit c s t) : KeepsCommit c s t.aptBoundary := by
  apply State.aptBoundary_frame <;> simp (disch := decide) [h]
theorem State.scnBoundary_commit (h : KeepsCommit c s t) : KeepsCommit c s t.scnBoundary := by
  apply State.scnBoundary_frame <;> simp (disch := decide) [h]
theorem State.lxsBoundary_commit (h : KeepsCommit c s t) : KeepsCommit c s t.lxsBoundary := by
  apply State.lxsBoundary_frame <;> simp (disch := decide) [h]
theorem State.calBoundary_commit (h : KeepsCommit c s t) : KeepsCommit c s t.calBoundary := by
  apply State.calBoundary_frame <;> simp (disch := decide) [h]
theorem State.rampDomains_commit (h : KeepsCommit c s t) : KeepsCommit c s t.rampDomains := by
  apply State.rampDomains_frame <;> simp (disch := decide) [h]
theorem State.latchRects_commit (o : Nat) (h : KeepsCommit c s t) : KeepsCommit c s (t.latchRects o) := by
  apply State.latchRects_frame <;> simp (disch := decide) [h]
theorem State.endRound_commit (h : KeepsCommit c s t) : KeepsCommit c s t.endRound := by
  apply State.endRound_frame <;> simp (disch := decide) [h]
theorem State.decideFor_commit (cs : List Nat) (h : KeepsCommit c s t) : KeepsCommit c s (t.decideFor cs) := by
  apply State.decideFor_frame <;> simp (disch := decide) [h]
theorem State.pumpHost_commit (h : KeepsCommit c s t) : KeepsCommit c s t.pumpHost := by
  apply State.pumpHost_frame <;> simp (disch := decide) [h]
theorem State.snapshotBoundary_commit (h : KeepsCommit c s t) : KeepsCommit c s t.snapshotBoundary := by
  apply State.snapshotBoundary_frame <;> simp (disch := decide) [h]

/-! ### Group by group -/

/-- Without a context in reset no reset ends: the boundary clears the function-level resets that have. -/
theorem State.resetBoundary_of_none (h : t.hif.resetting = []) : t.resetBoundary =
    foldOver t.flrFns (fun f t => if t.hif.resetting.any (fun c => c / 4 == f) then t else t.put (HIF_FN_STATUS.FLR f) 0) t := by
  unfold State.resetBoundary
  simp only [h, List.filter_nil]
  rfl

theorem State.resetBoundary_bound (h : t.hif.resetting = []) : t.resetBoundary.bound = t.bound := by
  rw [State.resetBoundary_of_none h]
  exact foldOver_bound fun f t => by split <;> simp

theorem State.resetBoundary_commit (hr : t.hif.resetting = []) (h : KeepsCommit c s t) : KeepsCommit c s t.resetBoundary := by
  rw [State.resetBoundary_of_none hr]
  refine foldOver_frame _ _ (fun f u hu => ?_) h
  split
  · exact hu
  · apply State.put_frame <;> simp (disch := decide) [hu]

theorem State.boundaryPictures_bound (hr : t.hif.resetting = []) : t.boundaryPictures.bound = t.bound := by
  have hi : t.internalPasses.hif.resetting = [] := (congrArg (·.2.2.1) t.internalPasses_bound).trans hr
  simp [State.boundaryPictures, State.resetBoundary_bound hi]

theorem State.boundaryPictures_commit (hr : t.hif.resetting = []) (h : KeepsCommit c s t) : KeepsCommit c s t.boundaryPictures := by
  have hi : t.internalPasses.hif.resetting = [] := (congrArg (·.2.2.1) t.internalPasses_bound).trans hr
  have h1 := State.groupBoundary_commit (State.deferredBoundary_commit (State.hostMapsBoundary_commit
    (State.resetBoundary_commit hi (State.internalPasses_commit h))))
  unfold State.boundaryPictures
  exact foldOver_frame _ _ (fun o u hu => State.pump_commit o hu) (State.driftBoundary_commit (State.exitPasses_commit
    (State.liveBoundary_commit (State.retryLoads_commit (State.solveScans_commit (State.estimates_commit (State.repairPasses_commit
      (State.applyDrops_commit _ (State.endOffs_commit _ h1)))))))))

theorem State.showCommits_commit (hcm : t.cm c = none) (h : KeepsCommit c s t) : KeepsCommit c s t.showCommits := by
  unfold State.showCommits
  split
  · exact h
  · refine foldOver_frame_mem _ _ (fun n hn u hu => ?_) h
    have hne : n ≠ c := by
      rintro rfl
      rw [mem_tkeys, thas, ← State.cm, hcm] at hn
      exact absurd hn (by simp)
    exact State.put_frame _ _ _ (offCommit_commit hne (by decide)) hu

/-- A pending commit is decided or not; none comes. -/
theorem State.decideFor_cm (cs : List Nat) (h : t.cm c = none) : (t.decideFor cs).cm c = none := by
  have hmap : ∀ r : Tbl CommitSt, tfind r c = none → tfind (r.map fun (e : Nat × CommitSt) =>
      (e.1, { e.2 with decided := cs.contains e.1 })) c = none := fun r => by
    induction r with
    | nil => exact id
    | cons e r ih =>
      simp only [List.map_cons, tfind]
      split
      · intro h
        cases h
      · exact ih
  exact hmap _ h

/-- The blocks as the LF begins, up to the decisions that go with the old LF. -/
def State.blocksBegin (s : State) : State :=
  let s1 := s.replayBoundary.aptBoundary.scnBoundary.lxsBoundary.calBoundary.rampDomains
  let s2 := foldOver s1.scanOutputs (fun o t => t.latchRects o) s1
  if s2.round.target.any (fun t => lfnAtOrAfter s2.tim.lfn t) then s2.endRound else s2

theorem State.boundaryBlocks_eq (s : State) :
    s.boundaryBlocks = (s.blocksBegin.decideFor []).showCommits.pumpHost.snapshotBoundary := rfl

theorem State.blocksBegin_bound : t.blocksBegin.bound = t.bound := by
  simp [State.blocksBegin, ↓State.bound_rules]

theorem State.blocksBegin_commit (h : KeepsCommit c s t) : KeepsCommit c s t.blocksBegin := by
  unfold State.blocksBegin
  extract_lets s1 s2
  have h1 : KeepsCommit c s s1 := State.rampDomains_commit (State.calBoundary_commit (State.lxsBoundary_commit
    (State.scnBoundary_commit (State.aptBoundary_commit (State.replayBoundary_commit h)))))
  have h2 : KeepsCommit c s s2 := foldOver_frame _ _ (fun o u hu => State.latchRects_commit o hu) h1
  exact Fr.ite (State.endRound_commit h2) h2

theorem State.boundaryBlocks_applied {lfn : Nat} (hc : c < 1024) (h : t.applied c lfn) : t.boundaryBlocks.applied c lfn := by
  have hb : t.blocksBegin.cm c = none := by
    rw [State.cm_eq, State.blocksBegin_bound]
    exact h.1
  have hd := State.decideFor_cm [] hb
  have hk := State.snapshotBoundary_commit (State.pumpHost_commit (State.showCommits_commit hd
    (State.decideFor_commit [] (State.blocksBegin_commit (keepsCommit_refl c t)))))
  rw [State.boundaryBlocks_eq]
  refine hk.applied hc ?_ h
  rw [State.cm_eq, State.snapshotBoundary_bound, State.pumpHost_bound, State.showCommits_bound]
  exact hd

theorem State.boundaryBlocks_act : t.boundaryBlocks.act = t.act := by
  rw [State.boundaryBlocks_eq]
  simp [↓State.bound_rules, State.blocksBegin_bound]
end
end Sys2Proof.Machine
end

section
/-! O36: the boundary's clock, a decided commit of a context, and a device in reset. -/
namespace Sys2Proof.Machine

section
variable {s t : State} {a c : Nat}

/-- Orders 1 and 2 of the boundary, where no reload takes it. -/
def State.readied (s : State) : State :=
  s.timAdvance.bootTimingBoundary.rateBoundary.dropOldEvents.staticBoundary.compareRects.calOrder1.rowsBoundary

/-- Orders 1 to 4. -/
def State.commitsApply (s : State) : State := s.readied.throttleBoundary.applyCommits

theorem State.readied_layers (h : KeepsLayers s t) : KeepsLayers s t.readied :=
  State.rowsBoundary_layers (State.calOrder1_layers (State.compareRects_layers (State.staticBoundary_layers
    (State.dropOldEvents_layers (State.rateBoundary_layers (State.bootTimingBoundary_layers (State.timAdvance_layers h)))))))

theorem State.bootTimingBoundary_hif (s : State) : s.bootTimingBoundary.hif = s.hif := by
  have h : Fr anyDram anyReg (· ≠ .hif) s s.bootTimingBoundary := by apply State.bootTimingBoundary_frame <;> simp
  exact h.frame.2 .hif (by simp)

theorem State.actRd_congr (h : t.bound.2 = s.bound.2) (a : Nat) : t.actRd a = s.actRd a := by
  change tget (regReset a) t.bound.2.2.2 a = tget (regReset a) s.bound.2.2.2 a
  rw [h]

/-- The boot timing block puts three registers of the timebase in force, and no layer's. -/
theorem State.bootTimingBoundary_actRd (s : State) (h : ¬ offLayers a) : s.bootTimingBoundary.actRd a = s.actRd a := by
  have hstep : ∀ k, k < 0x810000 → ∀ (t : State) n w, ((t.wrN k n).actWr k w).actRd a = t.actRd a := fun k hk t n w =>
    tget_tset_other _ _ _ fun he => h (offLayers_low (he ▸ hk))
  unfold State.bootTimingBoundary
  split
  · next ref gen lf per off _ =>
    extract_lets s1 s2 glb tim s3 _ s4
    have h3 : s3.actRd a = s.actRd a := (hstep TIM_PHASE_OFFSET (by decide) _ _ _).trans
      ((hstep TIM_FREERUN_PERIOD (by decide) _ _ _).trans (hstep TIM_LF_CFG (by decide) s1 _ _))
    have h4 : s4.bound = s3.bound := s3.put_bound _ _
    split
    · exact h3
    · split
      · exact (State.actRd_congr (congrArg Prod.snd ((s4.enterDpll_bound _).trans h4)) a).trans h3
      · exact (State.actRd_congr (congrArg Prod.snd (s4.beginAcquire_bound.trans h4)) a).trans h3
  · rfl

theorem State.readied_bound : s.readied.bound = s.timAdvance.bootTimingBoundary.bound := by
  simp [State.readied]

theorem State.readied_hif : s.readied.hif.commits = s.hif.commits ∧ s.readied.hif.resetting = s.hif.resetting := by
  have hb := s.timAdvance.bootTimingBoundary_hif
  have hr := s.readied_bound
  have ht := s.timAdvance_bound
  simp only [State.bound, Prod.mk.injEq] at hr ht
  obtain ⟨-, hc, hg, -⟩ := hr
  obtain ⟨-, hc', hg', -⟩ := ht
  exact ⟨hc.trans ((congrArg HifSt.commits hb).trans hc'), hg.trans ((congrArg HifSt.resetting hb).trans hg')⟩

theorem State.boundaryOrders_of_no_reload (h : s.calOrder1.rowsBoundary.reloadNow = false) : s.boundaryOrders =
    (s.calOrder1.rowsBoundary.throttleBoundary.applyCommits.rebuildCommits
      s.calOrder1.rowsBoundary.throttleBoundary.applyCommits.rebuildAllowed).shutterBoundary := by
  simp only [State.boundaryOrders, h, Bool.false_eq_true, if_false]

theorem State.boundaryChanges_bound (h : s.readied.reloadNow = false) : s.boundaryChanges.bound = s.commitsApply.bound := by
  have ho := State.boundaryOrders_of_no_reload h
  simp [State.boundaryChanges, ho, State.commitsApply, State.readied]

theorem State.boundaryChanges_commit (h : s.readied.reloadNow = false) : KeepsCommit c s.commitsApply s.boundaryChanges := by
  unfold State.boundaryChanges
  extract_lets s1 before s2 started s3 s4
  have h2 : KeepsCommit c s.commitsApply s2 := by
    rw [show s2 = _ from State.boundaryOrders_of_no_reload h]
    exact State.shutterBoundary_commit (State.rebuildCommits_commit _ (keepsCommit_refl c _))
  have h3 : KeepsCommit c s.commitsApply s3 := State.startBoundary_commit (State.showBoot_commit (State.systimeStep_commit
    (State.timFix_commit (State.compileAgain_commit h2))))
  exact State.trimBoundary_commit (State.repeatOutputs_commit _ (State.selectRanks_commit _ (State.stopBoundary_commit
    (State.hbUpdate_commit (State.watchdogBoundary_commit h3)))))

theorem State.readied_actRd (h : ¬ offLayers a) : s.readied.actRd a = s.actRd a :=
  (State.actRd_congr (congrArg Prod.snd s.readied_bound) a).trans ((s.timAdvance.bootTimingBoundary_actRd h).trans
    (State.actRd_congr (by rw [State.timAdvance_bound]) a))

theorem State.reloadNow_of_not_ready (h : s.cfg.reloadReady = false) : s.reloadNow = false := by
  rw [State.reloadNow, State.reloadDue, h, Bool.false_and, Bool.false_and]

/-- The commits that stand decided, and the keys and shadows of a context's, are the same when they apply. -/
theorem State.decidedNow_congr (h : t.hif.commits = s.hif.commits) : t.decidedNow = s.decidedNow := by
  simp only [State.decidedNow, State.cm, h]

theorem State.mem_decidedNow {x : CommitSt} (hx : s.cm c = some x) (hd : x.decided = true) : c ∈ s.decidedNow := by
  rw [State.decidedNow, List.mem_filter, mem_tkeys, thas, ← State.cm, hx]
  exact ⟨rfl, hd⟩

/-- From the order that applies a context's commit to the boundary's end. -/
theorem State.boundary_applied {lfn : Nat} (hc : c < 1024) (hno : s.readied.reloadNow = false) (hrs : s.hif.resetting = [])
    (h : s.commitsApply.applied c lfn) : s.boundaryChanges.boundaryPictures.boundaryBlocks.applied c lfn ∧
      s.boundaryChanges.boundaryPictures.boundaryBlocks.act = s.commitsApply.act := by
  have hb := State.boundaryChanges_bound hno
  have hr : s.boundaryChanges.hif.resetting = [] := by
    rw [show s.boundaryChanges.hif.resetting = s.commitsApply.hif.resetting from congrArg (·.2.2.1) hb, State.commitsApply,
      State.applyCommits_resetting]
    exact (congrArg (·.2.2.1) (State.throttleBoundary_bound _)).trans (s.readied_hif.2.trans hrs)
  have hp := State.boundaryPictures_bound hr
  have hcm : s.boundaryChanges.boundaryPictures.cm c = none := by
    rw [State.cm_eq, hp, hb]
    exact h.1
  have hk := State.boundaryPictures_commit (s := s.commitsApply) (c := c) hr (State.boundaryChanges_commit hno)
  exact ⟨State.boundaryBlocks_applied hc (hk.applied hc hcm h),
    State.boundaryBlocks_act.trans ((congrArg (·.2.2.2) hp).trans (congrArg (·.2.2.2) hb))⟩

/-- Where no reload takes the boundary and no context is in reset, a decided commit of a context applies. -/
theorem doLfBoundary_applies {x : CommitSt} (hl : s.live = true) (hc : c < 1024) (hx : s.cm c = some x) (hd : x.decided = true)
    (hrl : s.cfg.reloadReady = false) (hrs : s.hif.resetting = []) :
    (doLfBoundary s).applied c (doLfBoundary s).tim.lfn ∧ ∀ a ∈ s.changedKeys c, (doLfBoundary s).actRd a = s.rd a := by
  have hk : KeepsLayers s s.lfEnds.readied := State.readied_layers State.lfEnds_layers
  have hu := State.throttleBoundary_layers hk
  have hno : s.lfEnds.readied.reloadNow = false :=
    State.reloadNow_of_not_ready ((congrArg CfgSt.reloadReady (hk.frame.2 .cfg (by simp))).trans hrl)
  have hend := congrArg Prod.snd s.lfEnds_bound
  have hub := congrArg Prod.snd (State.throttleBoundary_bound s.lfEnds.readied)
  have hcom : s.lfEnds.readied.throttleBoundary.hif.commits = s.hif.commits :=
    (congrArg (·.1) hub).trans (State.readied_hif.1.trans (congrArg (·.1) hend))
  have hdec : c ∈ s.lfEnds.readied.throttleBoundary.decidedNow := State.decidedNow_congr hcom ▸ State.mem_decidedNow hx hd
  have hact : ∀ a, ¬ offLayers a → s.lfEnds.readied.throttleBoundary.actRd a = s.actRd a := fun a ha =>
    (State.actRd_congr hub a).trans ((State.readied_actRd ha).trans (State.actRd_congr hend a))
  obtain ⟨hap, hacts⟩ := State.boundary_applied hc hno ((congrArg (·.2.1) hend).trans hrs) (State.applyCommits_applied hdec hc)
  rw [doLfBoundary_of_live s hl]
  have hclock : s.lfEnds.boundaryChanges.boundaryPictures.boundaryBlocks.bound.1 = s.lfEnds.readied.throttleBoundary.bound.1 := by
    rw [State.boundaryBlocks_clock, State.boundaryPictures_clock, State.boundaryChanges_bound hno, State.commitsApply,
      State.applyCommits_clock]
  have hlfn : s.lfEnds.boundaryChanges.boundaryPictures.boundaryBlocks.tim.lfn = s.lfEnds.readied.throttleBoundary.tim.lfn :=
    congrArg (·.2.1) hclock
  refine ⟨hlfn ▸ hap, fun a ha => ?_⟩
  obtain ⟨hmem, hrd⟩ := hu.changedKeys hact hc ha
  exact (congrArg (fun r => tget (regReset a) r a) hacts).trans ((State.applyCommits_inForce hdec hmem).trans hrd)
end

/-- Settles O36: the boundary's clock is what every function after TIM's leaves standing; a decided commit of a context keeps its keys
and shadows up to order 4, and nothing after it writes its registers or takes a value out of force. -/
theorem lfBoundaryAdvancesAndApplies : Obligations.LfBoundaryAdvancesAndApplies := by
  unfold Obligations.LfBoundaryAdvancesAndApplies
  refine ⟨fun s hl => ⟨_, rfl, ?_⟩, fun c x s hl hc hx hd hrl hrs => ⟨_, rfl, ?_⟩, fun s hl => ⟨_, rfl, ?_⟩⟩
  · have h := doLfBoundary_clock s hl
    simp only [State.bound, Prod.mk.injEq] at h
    obtain ⟨hnow, hlfn, hboot, hstart, hwin⟩ := h
    exact ⟨hnow, hlfn, hboot, hstart, hwin.trans hnow.symm⟩
  · obtain ⟨⟨hcm, hst, hre, hlf⟩, hact⟩ := doLfBoundary_applies hl hc hx hd hrl hrs
    refine ⟨hcm, hst, hre, hlf.trans (Nat.mod_eq_of_lt ?_), hact⟩
    have h : (doLfBoundary s).tim.lfn = if s.tim.bootLf then 0 else (s.tim.lfn + 1) % 2 ^ 32 :=
      congrArg (·.2.1) (doLfBoundary_clock s hl)
    rw [h]
    split <;> omega
  · rw [doLfBoundary, State.onLive, if_neg (by simp [hl])]
end Sys2Proof.Machine
end

section
/-! The three registers that a read of GLB_SYSTIME_LO latches (R59): what they read, and which commands move it. -/
namespace Sys2Proof.Machine

/-- The registers that a read of GLB_SYSTIME_LO latches. -/
def latchedTimeRegs : List Nat := [GLB_SYSTIME_HI, GLB_LFN_LATCHED, GLB_PHASE_LATCHED]

/-- What GLB_SYSTIME_LO's last read left: whether there was one, and the three values. -/
def State.timeLatch (s : State) : Bool × Nat × Nat × Nat := s.latches.2

section
variable (s : State) {t : State} {a f addr : Nat}

theorem State.timeLatch_eq : s.timeLatch = (s.glb.sysRead, s.glb.sysHi, s.glb.sysLfn, s.glb.sysPhase) := rfl

theorem State.latchSystime_timeLatch : s.latchSystime.timeLatch = (true, s.sysNow / 2 ^ 32, s.tim.lfn, s.phase) := rfl

theorem State.readReg_systimeHi_eq : s.readReg GLB_SYSTIME_HI = if s.glb.sysRead then BitVec.ofNat 32 s.glb.sysHi else 0 := rfl

theorem State.readReg_lfnLatched : s.readReg GLB_LFN_LATCHED = if s.glb.sysRead then BitVec.ofNat 32 s.glb.sysLfn else 0 := rfl

theorem State.readReg_phaseLatched :
    s.readReg GLB_PHASE_LATCHED = if s.glb.sysRead then BitVec.ofNat 32 s.glb.sysPhase else 0 := rfl

theorem forall_latchedTimeRegs {P : Nat → Prop} :
    (∀ a ∈ latchedTimeRegs, P a) ↔ P GLB_SYSTIME_HI ∧ P GLB_LFN_LATCHED ∧ P GLB_PHASE_LATCHED := by
  simp [latchedTimeRegs]

variable {s}

/-- The latch alone says what the three registers read. -/
theorem State.readReg_of_timeLatch (h : t.timeLatch = s.timeLatch) : ∀ a ∈ latchedTimeRegs, t.readReg a = s.readReg a := by
  simp only [State.timeLatch_eq, Prod.mk.injEq] at h
  obtain ⟨hread, hhi, hlfn, hphase⟩ := h
  rw [forall_latchedTimeRegs]
  simp only [State.readReg_systimeHi_eq, State.readReg_lfnLatched, State.readReg_phaseLatched, hread, hhi, hlfn, hphase, and_self]

theorem State.readReg_of_unlatched (h : s.glb.sysRead = false) : ∀ a ∈ latchedTimeRegs, s.readReg a = 0 := by
  rw [forall_latchedTimeRegs]
  simp [State.readReg_systimeHi_eq, State.readReg_lfnLatched, State.readReg_phaseLatched, h]

theorem State.readEffect_timeLatch (ha : a ≠ GLB_SYSTIME_LO) : (s.readEffect a).timeLatch = s.timeLatch := by
  have howed (k : Nat) : (s.owedRead k).latches = s.latches := Fr.latches (by apply State.owedRead_frame <;> simp)
  unfold State.readEffect
  rw [if_neg ha]
  split_ifs
  · rfl
  · rfl
  · rfl
  · rfl
  · exact congrArg Prod.snd (howed _)
  · rfl
  · rfl

/-- GLB_SYSTIME_LO is reached by the PF at its own address alone: no window or context page shows it. -/
theorem State.readAt_systimeLo (h : s.readAt f addr = some GLB_SYSTIME_LO) : addr = GLB_SYSTIME_LO := by
  have hblock (x : Nat) (hx : barPlace f addr = .block x) : addr = x := by
    unfold barPlace doorPlace at hx
    split_ifs at hx
    exact BarPlace.block.inj hx
  have hwin (c off : Nat) : s.windowKey c off ≠ some GLB_SYSTIME_LO := by
    simp only [State.windowKey, ne_eq, Option.map_eq_some_iff, not_exists, not_and, GLB_SYSTIME_LO]
    intro n _
    split <;> omega
  obtain ⟨hkey, -⟩ := Option.filter_eq_some_iff.mp h
  split_ifs at hkey
  split at hkey
  · next x hx => exact (hblock x hx).trans (Option.some.inj hkey)
  · next c off _ =>
    split_ifs at hkey
    · exact absurd hkey (hwin c off)
    · simp only [Option.some.injEq, ctxBase, GLB_SYSTIME_LO] at hkey
      omega
  · exact absurd hkey nofun

theorem State.read32_timeLatch (ha : addr ≠ GLB_SYSTIME_LO) : (s.read32 f addr).2.timeLatch = s.timeLatch := by
  cases hr : s.readAt f addr with
  | none => rw [State.read32_of_not_readAt hr]
  | some b =>
    rw [State.read32_of_readAt hr]
    exact State.readEffect_timeLatch (by rintro rfl; exact ha (State.readAt_systimeLo hr))

/-- A read moves the latched time only where it covers the address of GLB_SYSTIME_LO. -/
theorem State.barRead_timeLatch {n : Nat} (h : ¬ (addr ≤ GLB_SYSTIME_LO ∧ GLB_SYSTIME_LO < addr + n)) :
    (s.barRead f addr n).2.timeLatch = s.timeLatch := by
  unfold State.barRead
  split_ifs with h4 h8 h12 hr
  · exact State.read32_timeLatch (by omega)
  · exact (State.read32_timeLatch (by omega)).trans (State.read32_timeLatch (by omega))
  · rfl
  · exact congrArg Prod.snd (s.barEvent_latches f _ 2)
  · rfl

/-- No command but a read of GLB_SYSTIME_LO, or a reset, moves the latched time. -/
theorem exec_timeLatch {i : Instr} (h : exec i s = .next t) (hl : ∀ dt, i ≠ .systimeLoRead dt)
    (hr : ∀ dt f a w, i = .latchedPairRead dt ⟨f, a, w⟩ → ¬ (a ≤ GLB_SYSTIME_LO ∧ GLB_SYSTIME_LO < a + w))
    (hh : ∀ dt short, i ≠ .resetHold dt short) : t.timeLatch = s.timeLatch := by
  by_cases hp : ∃ dt r, i = .latchedPairRead dt r
  · obtain ⟨dt, ⟨f, x, n⟩, rfl⟩ := hp
    cases hv : s.live with
    | false =>
      rw [exec_pairRead_held hv] at h
      cases h
      rfl
    | true =>
      rw [exec_pairRead_live hv] at h
      cases h
      exact State.barRead_timeLatch (s := s.tick dt) (hr dt f x n rfl)
  · exact congrArg Prod.snd (exec_latches h (fun dt r e => hp ⟨dt, r, e⟩) hl hh)

theorem exec_systimeLoRead {dt : Nat} (hl : s.live = true) : exec (.systimeLoRead dt) s = .next (s.tick dt).latchSystime :=
  congrArg Host.Outcome.next (State.onLive_eq (s.tick dt) _ hl)

/-- A reset holds the main die 4 µs after its edge, and at once on a fall of the supplies (R437). -/
theorem exec_resetHold {dt : Nat} {short : Bool} (hr : s.glb.inReset = true) (hh : s.glb.held = false)
    (ht : short = true ∨ s.glb.resetTime + 4 * usSteps ≤ s.now + dt) :
    ∃ cause, exec (.resetHold dt short) s = .next ((s.tick dt).heldReset cause) := by
  have hdue : (s.glb.inReset && !s.glb.held && (short || decide (s.glb.resetTime + 4 * usSteps ≤ s.now + dt))) = true := by
    simpa [hr, hh] using ht
  exact ⟨_, congrArg Host.Outcome.next (if_pos hdue)⟩

theorem State.heldReset_sysRead (cause : Nat) : (s.heldReset cause).glb.sysRead = false := rfl
end

/-- Settles O33: the latch is what the three registers read, and every other command keeps it (`exec_timeLatch`). -/
theorem systemTimeReadLatchesThree : Obligations.SystemTimeReadLatchesThree := by
  unfold Obligations.SystemTimeReadLatchesThree
  refine ⟨?_, ?_, ?_, ?_⟩
  · intro dt s hl
    exact ⟨_, exec_systimeLoRead hl, State.readReg_systimeHi_eq _, State.readReg_lfnLatched _, State.readReg_phaseLatched _⟩
  · intro i s t h hl hr hh
    exact State.readReg_of_timeLatch (exec_timeLatch h hl hr hh)
  · exact State.readReg_of_unlatched rfl
  · intro dt short s hr hh ht
    obtain ⟨cause, hx⟩ := exec_resetHold hr hh ht
    exact ⟨_, hx, State.readReg_of_unlatched (State.heldReset_sysRead cause)⟩

end Sys2Proof.Machine
end

section
/-! CFG's operations on a load, one rule each (R68, R69, R73, R75): what a reported failure, safe idle, a dropped reload and a refused or
accepted request leave of CFG and of the registers that show it. -/
namespace Sys2Proof.Machine

/-- Registers apart from those that show a load: CFG's status, failure and request, HIF's status, and the DPLL's state. -/
abbrev offLoad (a : Nat) : Prop := a ∉ [CFG_STATUS, CFG_FAIL_INFO, CFG_LOAD_CTRL, HIF_STATUS, TIM_DPLL_STATUS]

theorem evReg_offLoad {a : Nat} (h : evReg a = true) : offLoad a := by
  have hev : ∀ b ∈ [CFG_STATUS, CFG_FAIL_INFO, CFG_LOAD_CTRL, HIF_STATUS, TIM_DPLL_STATUS], evReg b = false := by decide
  exact fun ha => Bool.noConfusion (h.symm.trans (hev a ha))

theorem ev_offLoad : Ev offLoad offCfg := ⟨fun _ => evReg_offLoad, by simp⟩

section
variable (s : State) {f : LoadFail} {g : Fld}

/-! ### A reported failure (R72, R73) -/

@[simp] theorem State.reportFail_cfg : (s.reportFail f).cfg = s.cfg := by simp [State.reportFail]

theorem State.reportFail_get (hc : CFG_STATUS.FAIL.apart g = true) (hi : g.reg ≠ CFG_FAIL_INFO) (he : evReg g.reg = false) :
    (s.reportFail f).get g = s.get g := by
  have hput (t : State) (x : Fld) (v : Nat) (hx : x.reg = CFG_FAIL_INFO) : (t.put x v).get g = t.get g :=
    State.get_congr (t.rd_put_other v (hx ▸ hi))
  simp only [State.reportFail, State.putB, State.get_raise, he, hput, s.get_put_apart f.code rfl hc]

theorem State.reportFail_fail : (s.reportFail f).get CFG_STATUS.FAIL = f.code % 256 := by
  simp (disch := decide) [State.reportFail, State.putB, State.get_raise, State.get_put_apart, State.get_put_same]

theorem State.reportFail_entry : (s.reportFail f).get CFG_FAIL_INFO.ENTRY = f.entry.getD 0x3F % 64 := by
  simp (disch := decide) [State.reportFail, State.putB, State.get_raise, State.get_put_apart, State.get_put_same]

theorem State.reportFail_noEntry : (s.reportFail f).get CFG_FAIL_INFO.NO_ENTRY = if f.entry.isNone then 1 else 0 := by
  simp (disch := decide) only [State.reportFail, State.putB, State.get_raise, State.get_put_apart, State.get_put_same]
  split_ifs <;> rfl

theorem State.reportFail_raised : Raised 0x0D01 s (s.reportFail f) := by
  simp [Raised, State.reportFail, State.raise_eventCount]

/-! ### Safe idle (R74) -/

/-- What CFG and HIF show of safe idle: no load, no VFs. -/
def State.idleShown : State :=
  ((({ s with cfg := { s.cfg with safeIdle := true, load := 0, waiting := [] } }.put CFG_STATUS.STATE cfgSafe).put
    CFG_LOAD_CTRL.START 0).put HIF_STATUS.NUM_VFS 0)

/-- TIM goes to FREE, selecting its reference where another is active. -/
def State.goFree : State :=
  if s.dpll = dpllFree then s
  else (if s.get TIM_REF_STATUS.ACTIVE = refFree then s else s.selectRef refFree).enterDpll dpllFree

/-- Whether TIM has fallen back from its primary reference. -/
def State.noteFallback : State := { s with glb := { s.glb with fellBack := s.refPrimary != refFree } }

theorem State.enterSafeIdle_eq : s.enterSafeIdle = s.idleShown.goFree.noteFallback.hbUpdate := rfl

theorem State.enterDpll_free :
    s.enterDpll dpllFree = { s.put TIM_DPLL_STATUS.STATE dpllFree with
      tim := { s.tim with everLocked := true, acquiring := false } } := rfl

theorem State.goFree_dpll : s.goFree.get TIM_DPLL_STATUS.STATE = 0 := by
  unfold State.goFree
  split
  · next h => exact h
  · exact State.get_put_same _ _ _ rfl

@[simp] theorem State.goFree_cfg : s.goFree.cfg = s.cfg := by
  unfold State.goFree
  split_ifs <;> rfl

@[simp] theorem State.goFree_eventCount (c : Nat) : s.goFree.eventCount c = s.eventCount c := by
  unfold State.goFree
  split_ifs <;> rfl

theorem State.goFree_get (hd : g.reg ≠ TIM_DPLL_STATUS) (hr : g.reg ≠ TIM_REF_STATUS) : s.goFree.get g = s.get g := by
  have hsel : (s.selectRef refFree).get g = s.get g :=
    State.get_congr ((State.rd_put_other _ _ hr).trans (State.rd_put_other _ _ hr))
  have hdpll (t : State) : (t.enterDpll dpllFree).get g = t.get g := State.get_congr (t.rd_put_other _ hd)
  unfold State.goFree
  split_ifs
  · rfl
  · exact hdpll s
  · exact (hdpll _).trans hsel

theorem State.hbUpdate_eventCount {c : Nat} (hc : c ≠ 0x0205) : s.hbUpdate.eventCount c = s.eventCount c := by
  have hdark (t : State) : (foldOver (List.range 4) (fun n u => u.scanDark n) t).eventCount c = t.eventCount c :=
    foldOver_keeps (fun u => u.eventCount c) (fun n u => State.eventCount_congr (u.scanDark_int n) c) t
  unfold State.hbUpdate
  dsimp only
  split_ifs <;> simp [State.raise_eventCount, hdark, hc]

theorem State.enterSafeIdle_fr : Fr anyDram offLoad offCfg s.idleShown.goFree s.enterSafeIdle := by
  rw [State.enterSafeIdle_eq]
  exact State.hbUpdate_frame _ ev_offLoad (by decide) (by decide) (by simp) (by simp) (by simp)
    ((Fr.setGlb (by simp)).mpr (Fr.start trivial))

@[simp] theorem State.enterSafeIdle_cfg : s.enterSafeIdle.cfg = { s.cfg with safeIdle := true, load := 0, waiting := [] } :=
  (s.enterSafeIdle_fr.frame.2 .cfg (by simp)).trans s.idleShown.goFree_cfg

theorem State.enterSafeIdle_get_idle (hg : ¬ offLoad g.reg) (hd : g.reg ≠ TIM_DPLL_STATUS) :
    s.enterSafeIdle.get g = s.idleShown.get g := by
  have hr : g.reg ≠ TIM_REF_STATUS := fun h => hg (h ▸ by decide)
  exact (s.enterSafeIdle_fr.get_eq hg).trans (s.idleShown.goFree_get hd hr)

theorem State.enterSafeIdle_state : s.enterSafeIdle.get CFG_STATUS.STATE = 5 := by
  rw [State.enterSafeIdle_get_idle s (by decide) (by decide)]
  simp (disch := decide) [State.idleShown, State.get_put_apart, State.get_put_same, cfgSafe]

theorem State.enterSafeIdle_fail : s.enterSafeIdle.get CFG_STATUS.FAIL = s.get CFG_STATUS.FAIL := by
  rw [State.enterSafeIdle_get_idle s (by decide) (by decide)]
  simp (disch := decide) [State.idleShown, State.get_put_apart]

theorem State.enterSafeIdle_numVfs : s.enterSafeIdle.get HIF_STATUS.NUM_VFS = 0 := by
  rw [State.enterSafeIdle_get_idle s (by decide) (by decide)]
  simp (disch := decide) [State.idleShown, State.get_put_same]

theorem State.enterSafeIdle_dpll : s.enterSafeIdle.get TIM_DPLL_STATUS.STATE = 0 :=
  (s.enterSafeIdle_fr.get_eq (by decide)).trans s.idleShown.goFree_dpll

theorem State.enterSafeIdle_eventCount {c : Nat} (hc : c ≠ 0x0205) : s.enterSafeIdle.eventCount c = s.eventCount c := by
  rw [State.enterSafeIdle_eq, State.hbUpdate_eventCount _ hc]
  exact s.idleShown.goFree_eventCount c

/-! ### A dropped reload (R73) -/

/-- CFG and SEQ without a reload: nothing loads, none is held, and of its compiles none waits and no result is kept. -/
def State.withoutReload : State :=
  { s with
    cfg := { s.cfg with
      load := 0
      waiting := []
      reload := []
      reloadReady := false
      reloadCompiles := [] }
    seq := { s.seq with
      queue := s.seq.queue.filter (fun q => q.2 != 2)
      done := s.seq.done.filter (fun e => e.1 % 4 != 2) } }

theorem State.dropReload_eq : s.dropReload f =
    ((s.withoutReload.reportFail f).put CFG_STATUS.RELOAD 6).put CFG_LOAD_CTRL.START 0 := rfl

@[simp] theorem State.dropReload_cfg : (s.dropReload f).cfg =
    { s.cfg with load := 0, waiting := [], reload := [], reloadReady := false, reloadCompiles := [] } := by
  rw [State.dropReload_eq, State.put_cfg, State.put_cfg, State.reportFail_cfg, State.withoutReload]

theorem State.dropReload_fail : (s.dropReload f).get CFG_STATUS.FAIL = f.code % 256 := by
  rw [State.dropReload_eq, State.get_put_apart _ _ rfl rfl, State.get_put_apart _ _ rfl rfl, State.reportFail_fail]

theorem State.dropReload_reload : (s.dropReload f).get CFG_STATUS.RELOAD = 6 := by
  rw [State.dropReload_eq, State.get_put_apart _ _ rfl rfl]
  exact State.get_put_same _ _ _ rfl

theorem State.dropReload_start : (s.dropReload f).get CFG_LOAD_CTRL.START = 0 := 
  State.get_put_same _ _ _ rfl

theorem State.dropReload_raised : Raised 0x0D01 s (s.dropReload f) := by
  have h := s.withoutReload.reportFail_raised (f := f)
  unfold Raised at h ⊢
  rw [State.dropReload_eq, State.put_eventCount, State.put_eventCount, h]
  rfl

/-! ### The load under way fails (R68, R73, Table CFG-6) -/

/-- Slot B is read after slot A. -/
def State.trySlotB : State := { s with cfg := { s.cfg with load := 2 } }.put CFG_STATUS.SRC_ACT 1

@[simp] theorem State.trySlotB_cfg : s.trySlotB.cfg = { s.cfg with load := 2 } := rfl

theorem State.trySlotB_source : s.trySlotB.get CFG_STATUS.SRC_ACT = 1 := State.get_put_same _ _ _ rfl

theorem State.trySlotB_get (h : CFG_STATUS.SRC_ACT.apart g = true) : s.trySlotB.get g = s.get g := State.get_put_apart _ _ rfl h

variable {s}

theorem State.loadFailed_slotA (h : s.cfg.load = 1) (hd : s.cfg.dirValid = true ∨ f.code = 1) :
    s.loadFailed f = (s.reportFail f).trySlotB := by
  have hgo : (((s.reportFail f).trySlotB).cfg.dirValid || f.code == 0x01) = true := by simpa using hd
  unfold State.loadFailed
  rw [h]
  exact if_pos hgo

theorem State.loadFailed_lastSource (h : s.cfg.load = 2 ∨ s.cfg.load = 3) : s.loadFailed f = (s.reportFail f).enterSafeIdle := by
  obtain h | h := h <;> simp only [State.loadFailed, h]

theorem State.loadFailed_reload (h : s.cfg.load = 4 ∨ s.cfg.load = 5) : s.loadFailed f = s.dropReload f := by
  obtain h | h := h <;> simp only [State.loadFailed, h]

variable (s)

/-! ### Requests (R69, R75) -/

/-- The registers of a request: KIND and FROM_HOST. -/
def State.asked (kind host : Bool) : State := (s.putB CFG_LOAD_CTRL.KIND kind).putB CFG_LOAD_CTRL.FROM_HOST host

section
variable {kind host : Bool}

@[simp] theorem State.asked_cfg : (s.asked kind host).cfg = s.cfg := rfl

@[simp] theorem State.asked_eventCount (c : Nat) : (s.asked kind host).eventCount c = s.eventCount c := rfl

theorem State.asked_get (hk : CFG_LOAD_CTRL.KIND.apart g = true) (hh : CFG_LOAD_CTRL.FROM_HOST.apart g = true) :
    (s.asked kind host).get g = s.get g := by
  rw [State.asked, State.putB, State.putB, State.get_put_apart _ _ rfl hh, State.get_put_apart _ _ rfl hk]

theorem State.asked_raised {c : Nat} {t : State} (h : Raised c (s.asked kind host) t) : Raised c s t := h
end

section
variable {code : Nat}

@[simp] theorem State.refuseLoad_cfg : (s.refuseLoad code).cfg = s.cfg := by
  unfold State.refuseLoad
  dsimp only
  split_ifs <;> simp

theorem State.refuseLoad_get (h : CFG_LOAD_CTRL.START.apart g = true) :
    (s.refuseLoad code).get g = (s.reportFail (plainFail code)).get g := by
  unfold State.refuseLoad
  dsimp only
  split_ifs
  · exact State.get_put_apart _ _ rfl h
  · rfl

theorem State.refuseLoad_start : (s.refuseLoad code).get CFG_LOAD_CTRL.START =
    if s.cfg.load = 0 ∧ s.cfg.reload = [] then 0 else s.get CFG_LOAD_CTRL.START := by
  simp only [State.refuseLoad, State.reportFail_cfg, List.isEmpty_iff]
  split_ifs
  · exact State.get_put_same _ _ _ rfl
  · exact s.reportFail_get rfl (by decide) rfl

theorem State.refuseLoad_raised : Raised 0x0D01 s (s.refuseLoad code) := by
  have h := s.reportFail_raised (f := plainFail code)
  unfold State.refuseLoad
  dsimp only
  split_ifs
  · exact h
  · exact h

/-- What a request for a full image that is refused leaves (R69, Table CFG-6). -/
def LoadRefused (s t : State) : Prop :=
  t.get CFG_STATUS.FAIL = 0x0D ∧
    t.get CFG_LOAD_CTRL.START = (if s.cfg.load = 0 ∧ s.cfg.reload = [] then 0 else s.get CFG_LOAD_CTRL.START) ∧
    t.get CFG_STATUS.STATE = s.get CFG_STATUS.STATE ∧ Raised 0x0D01 s t ∧ t.cfg = s.cfg

theorem State.asked_refused {kind host : Bool} : LoadRefused s ((s.asked kind host).refuseLoad 0x0D) := by
  refine ⟨?_, ?_, ?_, State.asked_raised s (State.refuseLoad_raised _), by simp⟩
  · rw [State.refuseLoad_get _ rfl, State.reportFail_fail]
    rfl
  · rw [State.refuseLoad_start, State.asked_cfg, State.asked_get _ rfl rfl]
  · rw [State.refuseLoad_get _ rfl, State.reportFail_get _ rfl (by decide) rfl, State.asked_get _ rfl rfl]

/-- What a request for a reload that is refused leaves (R75, Table CFG-6). -/
def ReloadRefused (s t : State) : Prop :=
  t.get CFG_STATUS.FAIL = 0x0F ∧ t.get CFG_STATUS.RELOAD = s.get CFG_STATUS.RELOAD ∧ Raised 0x0D01 s t ∧ t.cfg = s.cfg

theorem State.asked_reloadRefused {kind host : Bool} : ReloadRefused s ((s.asked kind host).reportFail (plainFail 0x0F)) := by
  refine ⟨State.reportFail_fail _, ?_, State.asked_raised s (State.reportFail_raised _), by simp⟩
  rw [State.reportFail_get _ rfl (by decide) rfl, State.asked_get _ rfl rfl]
end
end

end Sys2Proof.Machine
end

section
/-! O20: the commands of a load that fails or is refused (R68, R69, R73, R75). -/
namespace Sys2Proof.Machine

section
variable {dt : Nat} {s : State} (hl : s.live = true)
include hl

theorem exec_flashNoResponse (h : s.cfg.load = 1 ∨ s.cfg.load = 2 ∨ s.cfg.load = 4) (hw : s.cfg.waiting = []) :
    exec (.flashNoResponse dt) s = .next ((s.tick dt).loadFailed (plainFail 0x01)) := by
  have hdue : ((s.cfg.load == 1 || s.cfg.load == 2 || s.cfg.load == 4) && s.cfg.waiting.isEmpty) = true := by
    simpa [hw, or_assoc] using h
  exact congrArg Host.Outcome.next (State.tick_onLiveIf dt _ (fun u => u.loadFailed (plainFail 0x01)) hl hdue)

theorem exec_hostReadError (h : s.cfg.load = 3 ∨ s.cfg.load = 5) (hw : s.cfg.waiting = []) :
    exec (.hostReadError dt) s = .next ((s.tick dt).loadFailed (plainFail 0x0E)) :=
  congrArg Host.Outcome.next ((State.tick_onLive dt _ hl).trans (if_pos ⟨h, by simp [hw]⟩))

theorem exec_flashFullLoadRefused :
    exec (.flashFullLoadRefused dt) s = .next (((s.tick dt).asked false false).refuseLoad 0x0D) :=
  congrArg Host.Outcome.next (State.tick_onLive dt _ hl)

theorem exec_hostFullLoad_refused (h : s.cfg.safeIdle = false) :
    exec (.hostFullLoad dt) s = .next (((s.tick dt).asked false true).refuseLoad 0x0D) :=
  congrArg Host.Outcome.next ((State.tick_onLive dt _ hl).trans (if_pos (by simp [h])))

theorem exec_reloadFromFlash_busy (h : s.reloadPending = true) :
    exec (.reloadFromFlash dt) s = .next (((s.tick dt).asked true false).reportFail (plainFail 0x0F)) :=
  congrArg Host.Outcome.next ((State.tick_onLive dt _ hl).trans
    (if_pos (Bool.or_eq_true_iff.mpr (.inr h))))

theorem exec_reloadFromHost_busy (h : s.reloadPending = true) :
    exec (.reloadFromHost dt) s = .next (((s.tick dt).asked true true).reportFail (plainFail 0x0F)) :=
  congrArg Host.Outcome.next ((State.tick_onLive dt _ hl).trans
    (if_pos (Bool.or_eq_true_iff.mpr (.inr h))))
end

theorem State.reloadPending_iff {s : State} : s.reloadPending = true ↔ s.cfg.load = 4 ∨ s.cfg.load = 5 ∨ s.cfg.reload ≠ [] := by
  simp [State.reloadPending, or_assoc]

/-- Settles O20: each command is one failure or refusal of CFG, and each of those has its rule. -/
theorem failedLoadsLeaveTheirStateOfTableCFG6 : Obligations.FailedLoadsLeaveTheirStateOfTableCFG6 := by
  unfold Obligations.FailedLoadsLeaveTheirStateOfTableCFG6
  refine ⟨?_, ?_, ?_, ?_, ?_, ?_, ?_, ?_⟩
  · intro dt s hl hload hw
    rw [exec_flashNoResponse hl (.inl hload) hw, State.loadFailed_slotA (s := s.tick dt) hload (.inr rfl)]
    refine ⟨_, rfl, rfl, ?_, State.trySlotB_source _, ?_, ?_, ?_, by simp⟩
    · rw [State.trySlotB_get _ rfl, State.reportFail_fail]
      rfl
    · rw [State.trySlotB_get _ rfl, State.reportFail_noEntry]
      rfl
    · rw [State.trySlotB_get _ rfl, State.reportFail_entry]
      rfl
    · exact (s.tick dt).reportFail_raised
  · intro dt s hl hload hw
    rw [exec_flashNoResponse hl (.inr (.inl hload)) hw, State.loadFailed_lastSource (s := s.tick dt) (.inl hload)]
    refine ⟨_, rfl, by simp, by simp, ?_, State.enterSafeIdle_state _, State.enterSafeIdle_numVfs _, State.enterSafeIdle_dpll _,
      by simp⟩
    rw [State.enterSafeIdle_fail, State.reportFail_fail]
    rfl
  · intro dt s hl hload hw
    rw [exec_flashNoResponse hl (.inr (.inr hload)) hw, State.loadFailed_reload (s := s.tick dt) (.inl hload)]
    exact ⟨_, rfl, by simp, State.dropReload_fail _, State.dropReload_reload _, State.dropReload_start _,
      (s.tick dt).dropReload_raised, by simp, by simp⟩
  · intro dt s hl hload hw
    rw [exec_hostReadError hl (.inl hload) hw, State.loadFailed_lastSource (s := s.tick dt) (.inr hload)]
    refine ⟨_, rfl, by simp, by simp, ?_, State.enterSafeIdle_state _, by simp⟩
    rw [State.enterSafeIdle_fail, State.reportFail_fail]
    rfl
  · intro dt s hl hload hw
    rw [exec_hostReadError hl (.inr hload) hw, State.loadFailed_reload (s := s.tick dt) (.inr hload)]
    exact ⟨_, rfl, by simp, State.dropReload_fail _, State.dropReload_reload _, (s.tick dt).dropReload_raised, by simp, by simp⟩
  · intro dt s hl
    exact ⟨_, exec_flashFullLoadRefused hl, State.asked_refused (s.tick dt)⟩
  · intro dt s hl hs
    exact ⟨_, exec_hostFullLoad_refused hl hs, State.asked_refused (s.tick dt)⟩
  · intro dt s hl hp
    have hp := State.reloadPending_iff.mpr hp
    simp only [List.forall_mem_cons, List.not_mem_nil, false_imp_iff, implies_true, and_true]
    exact ⟨⟨_, exec_reloadFromFlash_busy hl hp, State.asked_reloadRefused (s.tick dt)⟩,
      ⟨_, exec_reloadFromHost_busy hl hp, State.asked_reloadRefused (s.tick dt)⟩⟩

end Sys2Proof.Machine
end

section
/-! CFG's loads that go on, one rule each (R69 to R71, R75, R76): a request that is accepted, an image whose bytes have been read, a reload
taken for compiling, and a full image applied. -/
namespace Sys2Proof.Machine

section
variable {s : State} {dt : Nat} {b : List Byte} {f : LoadFail}

/-! ### A request is accepted (R69, R75, Table CFG-11) -/

/-- A request is accepted: its registers, and the load that CFG begins. -/
def State.loading (s : State) (kind host : Bool) (load : Nat) : State := (s.asked kind host).startLoad kind host load

section
variable (s) (kind host : Bool) (load : Nat)

@[simp] theorem State.loading_cfg : (s.loading kind host load).cfg = { s.cfg with load := load } := rfl

theorem State.loading_start : (s.loading kind host load).get CFG_LOAD_CTRL.START = 1 := State.get_put_same _ _ _ rfl

theorem State.loading_kind : (s.loading kind host load).get CFG_LOAD_CTRL.KIND = if kind then 1 else 0 := by
  simp (disch := decide) only [State.loading, State.startLoad, State.get_mk, State.putB, State.get_put_apart, State.get_put_same]
  split_ifs <;> rfl

theorem State.loading_fromHost : (s.loading kind host load).get CFG_LOAD_CTRL.FROM_HOST = if host then 1 else 0 := by
  simp (disch := decide) only [State.loading, State.startLoad, State.get_mk, State.putB, State.get_put_apart, State.get_put_same]
  split_ifs <;> rfl

theorem State.loading_rd {a : Nat} (h : a ≠ CFG_LOAD_CTRL) : (s.loading kind host load).rd a = s.rd a := by
  have hput (t : State) (x : Fld) (v : Nat) (hx : x.reg = CFG_LOAD_CTRL) : (t.put x v).rd a = t.rd a := t.rd_put_other v (hx ▸ h)
  simp only [State.loading, State.startLoad, State.asked, State.rd_mk, State.putB, hput]

/-- Whether the PF can make host requests depends on HIF's registers, not on CFG's. -/
theorem State.fnCanHost_congr {s t : State} (h : ∀ a, a ≠ CFG_STATUS → a ≠ CFG_LOAD_CTRL → t.rd a = s.rd a) :
    t.fnCanHost 0 = s.fnCanHost 0 := by
  rw [State.fnCanHost, State.fnCanHost, State.flag_congr (f := HIF_FN_STATUS.ME 0) (h _ (by decide) (by decide)),
    State.flag_congr (f := HIF_STATUS.LINK_UP) (h _ (by decide) (by decide))]

/-- The state in which a full host load begins. -/
def State.hostLoading : State := ((s.loading false true 3).put CFG_STATUS.STATE cfgLoading).put CFG_STATUS.SRC_ACT 2

/-- The state in which a reload begins to be read. -/
def State.reloading (host : Bool) (load : Nat) : State := (s.loading true host load).put CFG_STATUS.RELOAD 1

theorem State.hostLoading_fnCanHost : s.hostLoading.fnCanHost 0 = s.fnCanHost 0 :=
  State.fnCanHost_congr fun a hc hl => by
    rw [State.hostLoading, State.rd_put_other _ _ hc, State.rd_put_other _ _ hc, State.loading_rd _ _ _ _ hl]

theorem State.reloading_fnCanHost : (s.reloading host load).fnCanHost 0 = s.fnCanHost 0 :=
  State.fnCanHost_congr fun a hc hl => by rw [State.reloading, State.rd_put_other _ _ hc, State.loading_rd _ _ _ _ hl]

/-- What the registers of a request read until it ends. -/
theorem State.reloading_shown : (s.reloading host load).get CFG_LOAD_CTRL.START = 1 ∧
    (s.reloading host load).get CFG_LOAD_CTRL.KIND = 1 ∧
    (s.reloading host load).get CFG_LOAD_CTRL.FROM_HOST = (if host then 1 else 0) ∧
    (s.reloading host load).get CFG_STATUS.RELOAD = 1 := by
  have happart {g : Fld} (hg : CFG_STATUS.RELOAD.apart g = true) :
      (s.reloading host load).get g = (s.loading true host load).get g := State.get_put_apart _ _ rfl hg
  exact ⟨(happart rfl).trans (s.loading_start ..), (happart rfl).trans (s.loading_kind ..),
    (happart rfl).trans (s.loading_fromHost ..), State.get_put_same _ _ _ rfl⟩

theorem State.hostLoading_shown : s.hostLoading.get CFG_LOAD_CTRL.START = 1 ∧ s.hostLoading.get CFG_LOAD_CTRL.KIND = 0 ∧
    s.hostLoading.get CFG_LOAD_CTRL.FROM_HOST = 1 ∧ s.hostLoading.get CFG_STATUS.STATE = 1 ∧
    s.hostLoading.get CFG_STATUS.SRC_ACT = 2 := by
  have happart {g : Fld} (hs : CFG_STATUS.STATE.apart g = true) (ha : CFG_STATUS.SRC_ACT.apart g = true) :
      s.hostLoading.get g = (s.loading false true 3).get g :=
    (State.get_put_apart _ _ rfl ha).trans (State.get_put_apart _ _ rfl hs)
  exact ⟨(happart rfl rfl).trans (s.loading_start ..), (happart rfl rfl).trans (s.loading_kind ..),
    (happart rfl rfl).trans (s.loading_fromHost ..),
    (State.get_put_apart _ _ rfl rfl).trans (State.get_put_same _ _ _ rfl), State.get_put_same _ _ _ rfl⟩
end

theorem startupDone_not_busy {kind host : Bool} (hd : s.get HIF_STATUS.STARTUP_DONE = 1) (hp : s.reloadPending = false) :
    ¬ (!((s.tick dt).asked kind host).flag HIF_STATUS.STARTUP_DONE || s.reloadPending) = true := by
  rw [State.flag, State.asked_get _ rfl rfl, State.tick_get, hd, hp]
  decide

section
variable (hl : s.live = true)
include hl

theorem exec_hostFullLoad (hi : s.cfg.safeIdle = true) (h0 : s.cfg.load = 0) (ho : s.cfg.otpLocked = true)
    (hh : s.fnCanHost 0 = true) : exec (.hostFullLoad dt) s = .next (s.tick dt).hostLoading := by
  have hgo : ¬ (!s.cfg.safeIdle || s.cfg.load != 0 || !s.cfg.otpLocked) = true := by simp [hi, h0, ho]
  exact congrArg Host.Outcome.next ((State.tick_onLive dt _ hl).trans ((if_neg hgo).trans
    (if_pos ((s.tick dt).hostLoading_fnCanHost.trans hh))))

theorem exec_reloadFromFlash (hd : s.get HIF_STATUS.STARTUP_DONE = 1) (hp : s.reloadPending = false)
    (hv : s.cfg.dirValid = true) : exec (.reloadFromFlash dt) s = .next ((s.tick dt).reloading false 4) :=
  congrArg Host.Outcome.next ((State.tick_onLive dt _ hl).trans ((if_neg (startupDone_not_busy hd hp)).trans (if_pos hv)))

theorem exec_reloadFromHost (hd : s.get HIF_STATUS.STARTUP_DONE = 1) (hp : s.reloadPending = false)
    (hh : s.fnCanHost 0 = true) : exec (.reloadFromHost dt) s = .next ((s.tick dt).reloading true 5) :=
  congrArg Host.Outcome.next ((State.tick_onLive dt _ hl).trans ((if_neg (startupDone_not_busy hd hp)).trans
    (if_pos (((s.tick dt).reloading_fnCanHost true 5).trans hh))))

theorem exec_reloadReady (hr : s.cfg.reload ≠ []) (hc : s.cfg.reloadCompiles = []) (hn : s.cfg.reloadReady = false) :
    exec (.reloadReady dt) s =
      .next (State.put { s.tick dt with cfg := { s.cfg with reloadReady := true } } CFG_STATUS.RELOAD 4) := by
  have hdue : (!s.cfg.reload.isEmpty && s.cfg.reloadCompiles.isEmpty && !s.cfg.reloadReady) = true := by simp [hr, hc, hn]
  exact congrArg Host.Outcome.next (State.tick_onLiveIf dt _ (fun u =>
    State.put { u with cfg := { u.cfg with reloadReady := true } } CFG_STATUS.RELOAD 4) hl hdue)
end

/-! ### The bytes have been read (R68, R70, R71) -/

/-- CFG has read the whole image. -/
def State.withData (s : State) : State := { s with cfg := { s.cfg with dataRead := true } }

/-- The bytes wait for self-test (R71). -/
def State.holdImage (s : State) (b : List Byte) : State := { s with cfg := { s.cfg with waiting := b } }

/-- The load under way is a reload. -/
def State.readsReload (s : State) : Bool := s.cfg.load == 4 || s.cfg.load == 5

/-- What CFG makes of an image whose bytes have been read. -/
def State.readImage (s : State) (b : List Byte) : State :=
  match s.frontFail b s.readsReload s.sourceLen.1 s.sourceLen.2 with
  | some f => s.loadFailed f
  | none =>
    match hashFail b with
    | some f => s.withData.loadFailed f
    | none => if s.withData.flag CAL_BIST.DONE then s.withData.checkImage b else s.withData.holdImage b

theorem exec_imageLoadDone (hl : s.live = true) (h0 : s.cfg.load ≠ 0) (hw : s.cfg.waiting = []) :
    exec (.imageLoadDone dt b) s = .next ((s.tick dt).readImage b).showBoot := by
  have hdue : (s.cfg.load != 0 && s.cfg.waiting.isEmpty) = true := by simp [h0, hw]
  exact congrArg (fun u : State => Host.Outcome.next u.showBoot) (State.tick_onLiveIf dt _ (fun u => u.readImage b) hl hdue)

theorem State.frontFail_of_not_magic {reload : Bool} {top : Nat} {len : Option Nat} (h : leAt b 0 4 ≠ magicImage) :
    s.frontFail b reload top len = some (plainFail 0x02) := if_pos h

theorem State.readImage_of_frontFail (h : s.frontFail b s.readsReload s.sourceLen.1 s.sourceLen.2 = some f) :
    s.readImage b = s.loadFailed f := by simp only [State.readImage, h]

theorem State.readImage_authentic (h : s.frontFail b s.readsReload s.sourceLen.1 s.sourceLen.2 = none) (hh : hashFail b = none) :
    s.readImage b = if s.get CAL_BIST.DONE = 0 then s.withData.holdImage b else s.withData.checkImage b := by
  simp only [State.readImage, h, hh, State.flag, bne_iff_ne, ite_not]
  rfl

/-- The resource checks look at the running sections, the registers and the tiles, not at the load's progress. -/
theorem State.resourceFail_holdImage (reload : Bool) (l : List Byte) :
    (s.withData.holdImage l).resourceFail b reload = s.resourceFail b reload := rfl

theorem State.checkImage_eq : s.checkImage b =
    match (s.holdImage []).resourceFail b s.readsReload with
    | some f => (s.holdImage []).loadFailed f
    | none => if s.readsReload then (s.holdImage []).takeReload b else (s.holdImage []).applyImage b := rfl

theorem State.checkImage_misfit (h : s.resourceFail b s.readsReload = some f) :
    s.withData.checkImage b = (s.withData.holdImage []).loadFailed f := by
  rw [State.checkImage_eq, show s.withData.readsReload = s.readsReload from rfl, State.resourceFail_holdImage, h]

theorem State.checkImage_reload (hr : s.readsReload = true) (h : s.resourceFail b true = none) :
    s.withData.checkImage b = (s.withData.holdImage []).takeReload b := by
  rw [State.checkImage_eq, show s.withData.readsReload = true from hr, State.resourceFail_holdImage, h]
  rfl

theorem State.checkImage_full (hr : s.readsReload = false) (h : s.resourceFail b false = none) :
    s.withData.checkImage b = (s.withData.holdImage []).applyImage b := by
  rw [State.checkImage_eq, show s.withData.readsReload = false from hr, State.resourceFail_holdImage, h]
  rfl

/-! ### A reload is taken (R76) -/

/-- A reload's sections are held, and RELOAD reads compiling. -/
def State.reloadTaken (s : State) (b : List Byte) : State :=
  State.put { s with cfg := { s.cfg with
    load := 0
    reload := imSections b
    reloadReady := false
    reloadCompiles := s.reloadOutputs (imSections b) } } CFG_STATUS.RELOAD 3

theorem State.takeReload_fr : Fr anyDram offLoad offCfg (s.reloadTaken b) (s.takeReload b) :=
  foldOver_frame _ _ (fun o _ h => State.askJob_frame _ o 2 (by decide) (by simp) h) (Fr.start trivial)

theorem State.takeReload_cfg : (s.takeReload b).cfg = (s.reloadTaken b).cfg := State.takeReload_fr.frame.2 .cfg (by simp)

theorem State.takeReload_reload : (s.takeReload b).get CFG_STATUS.RELOAD = 3 :=
  (State.takeReload_fr.get_eq (by decide)).trans (State.get_put_same _ _ _ rfl)

/-! ### A full image applies (R70) -/

/-- The registers apart from CFG's identity of the image, its status and its request. -/
def offIdentity (a : Nat) : Prop := offSpan 0x200000 0x200014 a

section
variable {a i lo st n : Nat}

@[simp] theorem offIdentity_low (h : a < 0x200000) : offIdentity a := .inl h
@[simp] theorem offIdentity_high (h : 0x200014 ≤ a) : offIdentity a := .inr h
@[simp] theorem offIdentity_family (ha : lo + st * n ≤ 0x200000 ∨ 0x200014 ≤ lo) (hb : 0x200014 ≤ a) (hs : 0 < st) :
    offIdentity (if i < n then lo + st * i else a) := offSpan_family ha hb hs
theorem not_offIdentity (hl : 0x200000 ≤ a) (hh : a < 0x200014) : ¬ offIdentity a := by
  unfold offIdentity offSpan
  omega
@[simp] theorem ev_offIdentity {K : Part → Prop} : Ev offIdentity K ↔ K .int := by
  refine ⟨fun h => h.2, fun h => ⟨fun a ha => .inr ?_, h⟩⟩
  simp only [evReg, INT_STATUS, INT_DROPS, INT_SUPPRESSED, INT_LOG_STATUS, Bool.or_eq_true, Bool.and_eq_true, beq_iff_eq,
    decide_eq_true_eq] at ha
  omega
end

/-- CFG and what shows its image stand. -/
abbrev KeepsIdentity (s t : State) : Prop := Fr anyDram offIdentity offCfg s t

/-- The image is the running one, and CFG shows it. -/
def State.imageShown (s : State) (b : List Byte) : State :=
  let s1 := { s with cfg := { s.cfg with
    secs := imSections b
    topo := imTopo b
    secver := imSecver b
    imageRunning := true
    safeIdle := false
    load := 0 } }
  ((((s1.put CFG_STATUS.STATE cfgRunning).put CFG_LOAD_CTRL.START 0).wrN CFG_IMAGE_BUILD (imBuild b)).put CFG_IMAGE_INFO.SECVER
    (imSecver b)).put CFG_IMAGE_INFO.KEY_SLOT (imSlot b)

/-- The RWL fields of the image's sections. -/
def State.applySections (s : State) (b : List Byte) : State :=
  let s3 := foldOver (List.range 12) (fun k t => t.wrN (CFG_TOPO_HASH k) (leAt (imTopo b) (4 * k) 4)) s
  let s4 := s3.applyPower.applyLaneMap.dropHeldSpares.applyPortCfg.applyCut.applyMech.applyMemMap.applyColBase.applyLmpMap
  s4.applyPlaneMap.applyScanCfg.applyLxsCfg.placeTiles.showCullet

/-- A reference that a fallback left and that is valid again is switched to. -/
def State.endFallback (s : State) : State :=
  if s.glb.fellBack && s.refValid s.refPrimary then { s with
    glb := { s.glb with fellBack := false }
    tim := { s.tim with switchTo := some s.refPrimary } } else s

/-- What starts with the image: its parts where no shutdown holds, and the reference. -/
def State.startImage (s : State) : State :=
  (if s.get THM_STATUS.STATE == 1 || s.get THM_STATUS.STATE == 2 then s else s.powerImage.startParts).endFallback.checkLamps.showLan

theorem State.applyImage_eq : s.applyImage b = ((s.imageShown b).applySections b).startImage := rfl

variable {t : State}

theorem State.applyPower_keeps (h : KeepsIdentity s t) : KeepsIdentity s t.applyPower := by
  apply State.applyPower_frame <;> simp (disch := decide) [h]

theorem State.applyLaneMap_keeps (h : KeepsIdentity s t) : KeepsIdentity s t.applyLaneMap := by
  apply State.applyLaneMap_frame <;> simp (disch := decide) [h]

theorem State.dropHeldSpares_keeps (h : KeepsIdentity s t) : KeepsIdentity s t.dropHeldSpares := by
  apply State.dropHeldSpares_frame <;> simp (disch := decide) [h]

theorem State.applyPortCfg_keeps (h : KeepsIdentity s t) : KeepsIdentity s t.applyPortCfg := by
  apply State.applyPortCfg_frame <;> simp (disch := decide) [h]

theorem State.applyCut_keeps (h : KeepsIdentity s t) : KeepsIdentity s t.applyCut := by
  apply State.applyCut_frame <;> simp (disch := decide) [h]

theorem State.applyMech_keeps (h : KeepsIdentity s t) : KeepsIdentity s t.applyMech := by
  apply State.applyMech_frame <;> simp (disch := decide) [h]

theorem State.applyMemMap_keeps (h : KeepsIdentity s t) : KeepsIdentity s t.applyMemMap := by
  apply State.applyMemMap_frame <;> simp (disch := decide) [h]

theorem State.applyColBase_keeps (h : KeepsIdentity s t) : KeepsIdentity s t.applyColBase := by
  apply State.applyColBase_frame <;> simp (disch := decide) [h]

theorem State.applyLmpMap_keeps (h : KeepsIdentity s t) : KeepsIdentity s t.applyLmpMap := by
  apply State.applyLmpMap_frame <;> simp (disch := decide) [h]

theorem State.applyPlaneMap_keeps (h : KeepsIdentity s t) : KeepsIdentity s t.applyPlaneMap := by
  apply State.applyPlaneMap_frame <;> simp (disch := decide) [h]

theorem State.applyScanCfg_keeps (h : KeepsIdentity s t) : KeepsIdentity s t.applyScanCfg := by
  apply State.applyScanCfg_frame <;> simp (disch := decide) [h]

theorem State.applyLxsCfg_keeps (h : KeepsIdentity s t) : KeepsIdentity s t.applyLxsCfg := by
  apply State.applyLxsCfg_frame <;> simp (disch := decide) [h]

theorem State.placeTiles_keeps (h : KeepsIdentity s t) : KeepsIdentity s t.placeTiles := by
  apply State.placeTiles_frame <;> simp (disch := decide) [h]

theorem State.showCullet_keeps (h : KeepsIdentity s t) : KeepsIdentity s t.showCullet := by
  apply State.showCullet_frame <;> simp (disch := decide) [h]

theorem State.powerImage_keeps (h : KeepsIdentity s t) : KeepsIdentity s t.powerImage := by
  apply State.powerImage_frame <;> simp (disch := decide) [h]

theorem State.startParts_keeps (h : KeepsIdentity s t) : KeepsIdentity s t.startParts := by
  apply State.startParts_frame <;> simp (disch := decide) [h]

theorem State.checkLamps_keeps (h : KeepsIdentity s t) : KeepsIdentity s t.checkLamps := by
  apply State.checkLamps_frame <;> simp (disch := decide) [h]

theorem State.showLan_keeps (h : KeepsIdentity s t) : KeepsIdentity s t.showLan := by
  apply State.showLan_frame <;> simp (disch := decide) [h]

theorem State.topoHash_keeps (v : Nat → Nat) (h : KeepsIdentity s t) :
    KeepsIdentity s (foldOver (List.range 12) (fun k u => u.wrN (CFG_TOPO_HASH k) (v k)) t) :=
  foldOver_frame _ _ (fun _ _ hu => State.wrN_frame _ _ _ (offIdentity_family (by decide) (by decide) (by decide)) hu) h

theorem State.applySections_keeps (h : KeepsIdentity s t) : KeepsIdentity s (t.applySections b) := by
  have h1 := State.applyLaneMap_keeps (State.applyPower_keeps (State.topoHash_keeps (fun k => leAt (imTopo b) (4 * k) 4) h))
  have h2 := State.applyMech_keeps (State.applyCut_keeps (State.applyPortCfg_keeps (State.dropHeldSpares_keeps h1)))
  have h3 := State.applyLmpMap_keeps (State.applyColBase_keeps (State.applyMemMap_keeps h2))
  have h4 := State.applyLxsCfg_keeps (State.applyScanCfg_keeps (State.applyPlaneMap_keeps h3))
  exact State.showCullet_keeps (State.placeTiles_keeps h4)

theorem State.endFallback_keeps (h : KeepsIdentity s t) : KeepsIdentity s t.endFallback :=
  Fr.ite ((Fr.setGlbTim (by simp) (by simp)).mpr h) h

theorem State.startImage_keeps (h : KeepsIdentity s t) : KeepsIdentity s t.startImage :=
  State.showLan_keeps (State.checkLamps_keeps (State.endFallback_keeps
    (Fr.ite h (State.startParts_keeps (State.powerImage_keeps h)))))

theorem State.applyImage_keeps : KeepsIdentity (s.imageShown b) (s.applyImage b) := by
  rw [State.applyImage_eq]
  exact State.startImage_keeps (State.applySections_keeps (Fr.start trivial))

theorem State.applyImage_cfg : (s.applyImage b).cfg = (s.imageShown b).cfg := State.applyImage_keeps.frame.2 .cfg (by simp)

theorem State.imageShown_shown : (s.imageShown b).get CFG_STATUS.STATE = 4 ∧ (s.imageShown b).get CFG_LOAD_CTRL.START = 0 := by
  have hwr (u : State) {g : Fld} (n : Nat) (hg : g.reg ≠ CFG_IMAGE_BUILD) : (u.wrN CFG_IMAGE_BUILD n).get g = u.get g :=
    State.get_congr (u.rd_wrN_other n hg)
  constructor <;> simp (disch := decide) [State.imageShown, State.get_put_apart, State.get_put_same, hwr, cfgRunning]

theorem State.applyImage_shown : (s.applyImage b).get CFG_STATUS.STATE = 4 ∧ (s.applyImage b).get CFG_LOAD_CTRL.START = 0 := by
  have hkeeps {g : Fld} (hg : ¬ offIdentity g.reg) := (State.applyImage_keeps (s := s) (b := b)).get_eq hg
  rw [hkeeps (not_offIdentity (by decide) (by decide)), hkeeps (not_offIdentity (by decide) (by decide))]
  exact State.imageShown_shown

/-- A full image that fails leaves what runs, and its failure is reported (R70, R73). -/
theorem State.loadFailed_full (h : s.cfg.load = 2 ∨ s.cfg.load = 3 ∨ (s.cfg.load = 1 ∧ s.cfg.dirValid = true)) :
    (s.loadFailed f).cfg.secs = s.cfg.secs ∧ (s.loadFailed f).cfg.imageRunning = s.cfg.imageRunning ∧
      (s.loadFailed f).get CFG_STATUS.FAIL = f.code % 256 ∧ Raised 0x0D01 s (s.loadFailed f) := by
  obtain h | ⟨h1, hv⟩ : (s.cfg.load = 2 ∨ s.cfg.load = 3) ∨ (s.cfg.load = 1 ∧ s.cfg.dirValid = true) := or_assoc.mpr h
  · rw [State.loadFailed_lastSource h]
    refine ⟨by simp, by simp, ?_, ?_⟩
    · rw [State.enterSafeIdle_fail, State.reportFail_fail]
    · exact ((s.reportFail f).enterSafeIdle_eventCount (by decide)).trans s.reportFail_raised
  · rw [State.loadFailed_slotA h1 (.inl hv)]
    refine ⟨by simp, by simp, ?_, s.reportFail_raised⟩
    rw [State.trySlotB_get _ rfl, State.reportFail_fail]
end

end Sys2Proof.Machine
end

section
/-! O21: the commands of a load that goes on (R68 to R71, R75, R76). -/
namespace Sys2Proof.Machine

/-- Settles O21: each request begins its load, and what has been read fails, waits, is taken or applies. -/
theorem loadsBeginAndEnd : Obligations.LoadsBeginAndEnd := by
  unfold Obligations.LoadsBeginAndEnd
  refine ⟨?_, ?_, ?_, ?_, ?_, ?_, ?_⟩
  · intro dt s hl hi h0 ho hh
    exact ⟨_, exec_hostFullLoad hl hi h0 ho hh, rfl, State.hostLoading_shown _⟩
  · intro dt s hl hd hp hv
    exact ⟨_, exec_reloadFromFlash hl hd hp hv, rfl, State.reloading_shown _ false 4⟩
  · intro dt s hl hd hp hh
    exact ⟨_, exec_reloadFromHost hl hd hp hh, rfl, State.reloading_shown _ true 5⟩
  · intro dt b s hl h1 hw hv hm
    have hread : (s.tick dt).readImage b = ((s.tick dt).reportFail (plainFail 0x02)).trySlotB :=
      (State.readImage_of_frontFail (State.frontFail_of_not_magic hm)).trans (State.loadFailed_slotA h1 (.inl hv))
    rw [exec_imageLoadDone hl (by omega) hw, hread]
    refine ⟨_, rfl, by simp, by simp, by simp, ?_, ?_⟩
    · rw [State.showBoot_get _ (by decide), State.trySlotB_get _ rfl, State.reportFail_fail]
      rfl
    · rw [State.showBoot_get _ (by decide), State.trySlotB_source]
  · intro dt b s hl hr hw hd hf hh hc
    have hkind : s.readsReload = true := by simpa [State.readsReload] using hr
    have hread : (s.tick dt).readImage b = ((s.tick dt).withData.holdImage []).takeReload b := by
      rw [State.readImage_authentic (s := s.tick dt) (hkind.symm ▸ hf) hh, if_neg (by simp [hd])]
      exact State.checkImage_reload hkind hc
    rw [exec_imageLoadDone hl (by omega) hw, hread]
    refine ⟨_, rfl, ?_⟩
    beta_reduce
    rw [State.showBoot_cfg, State.takeReload_cfg, State.showBoot_get _ (by decide), State.takeReload_reload]
    exact ⟨rfl, rfl, rfl, rfl, rfl, rfl, rfl⟩
  · intro dt b s hl hw hload hf hh
    have hkind : s.readsReload = false := by
      simp only [State.readsReload, Bool.or_eq_false_iff, beq_eq_false_iff_ne]
      omega
    have hread := State.readImage_authentic (s := s.tick dt) (hkind.symm ▸ hf) hh
    rw [exec_imageLoadDone hl (by omega) hw, hread]
    refine ⟨_, rfl, ?_⟩
    beta_reduce
    rw [State.tick_get, State.showBoot_cfg, State.showBoot_get _ (by decide), State.showBoot_get _ (by decide),
      State.showBoot_get _ (by decide)]
    split_ifs with hd
    · rfl
    · cases hc : s.resourceFail b false with
      | none =>
        rw [State.checkImage_full (s := s.tick dt) hkind hc, State.applyImage_cfg]
        exact ⟨rfl, rfl, rfl, rfl, rfl, State.applyImage_shown⟩
      | some f =>
        rw [State.checkImage_misfit (s := s.tick dt) (hkind.symm ▸ hc)]
        obtain ⟨hsecs, hrun, hfail, hraised⟩ := State.loadFailed_full (s := (s.tick dt).withData.holdImage []) (f := f) hload
        exact ⟨hsecs, hrun, hfail, (State.showBoot_eventCount _ _).trans hraised⟩
  · intro dt s hl hr hc hn
    exact ⟨_, exec_reloadReady hl hr hc hn, rfl, State.get_put_same _ _ _ rfl⟩

end Sys2Proof.Machine
end

section
/-! O22: the fuses (R66, Tables CFG-14 and CFG-15): what a programming command leaves while LOCKED is 0, and while it is 1. -/
namespace Sys2Proof.Machine

section
variable {s : State} {f : CfgSt → CfgSt}

theorem State.onOpenFuses_open (hl : s.live = true) (ho : s.cfg.otpLocked = false) :
    s.onOpenFuses f = State.showOtp { s with cfg := f s.cfg } := by
  rw [State.onOpenFuses, State.onLive_eq _ _ hl, ho]
  rfl

theorem State.onOpenFuses_locked (hl : s.live = true) (ho : s.cfg.otpLocked = true) :
    s.onOpenFuses f = s.accessEvent devQ CFG_OTP_PROG 6 := by
  rw [State.onOpenFuses, State.onLive_eq _ _ hl, ho]
  rfl

variable (s)

@[simp] theorem State.showOtp_cfg : s.showOtp.cfg = s.cfg := rfl

theorem State.showOtp_keyValid : s.showOtp.get CFG_OTP_STATUS.KEY_VALID = s.cfg.keyValid % 16 := by
  simp (disch := decide) [State.showOtp, State.putB, State.get_put_apart, State.get_put_same]

theorem State.showOtp_keyRevoked : s.showOtp.get CFG_OTP_STATUS.KEY_REVOKED = s.cfg.keyRevoked % 16 := by
  simp (disch := decide) [State.showOtp, State.putB, State.get_put_apart, State.get_put_same]

theorem State.showOtp_secFloor : s.showOtp.get CFG_OTP_STATUS.SECVER_FLOOR = s.cfg.secFloor % 64 := by
  simp (disch := decide) [State.showOtp, State.putB, State.get_put_apart, State.get_put_same]

theorem State.showOtp_locked : s.showOtp.get CFG_OTP_STATUS.LOCKED = if s.cfg.otpLocked then 1 else 0 := by
  rw [State.showOtp, State.putB, State.get_put_same _ _ _ rfl]
  exact Nat.mod_eq_of_lt (by split_ifs <;> decide)

/-- CFG as the hash-byte command leaves its open fuses: the byte ORed into the slot's hash. -/
def CfgSt.orHashByte (c : CfgSt) (k v : Nat) : CfgSt := { c with keyHash := tset c.keyHash k (tget 0 c.keyHash k ||| v) }

theorem CfgSt.tget_orHashByte (c : CfgSt) (k v j : Nat) : tget 0 (c.orHashByte k v).keyHash j =
    if j = k then tget 0 c.keyHash j ||| v else tget 0 c.keyHash j := by
  split_ifs with h
  · subst h
    exact tget_tset_same _ _ _ _
  · exact tget_tset_other _ _ _ h

/-- The programming command of a change of the fuses. -/
def Programs (i : Instr) (f : CfgSt → CfgSt) : Prop := ∃ dt, ∀ s, exec i s = .next ((s.tick dt).onOpenFuses f)

variable {s} {i : Instr}

theorem Programs.completes_open {P : State → Prop} (h : Programs i f) (hl : s.live = true) (ho : s.cfg.otpLocked = false)
    (hP : ∀ u : State, u.cfg = f s.cfg → P u.showOtp) : Completes (exec i s) P := by
  obtain ⟨dt, hx⟩ := h
  rw [hx, State.onOpenFuses_open (s := s.tick dt) hl ho]
  exact ⟨_, rfl, hP _ rfl⟩

theorem Programs.completes_locked (h : Programs i f) (hl : s.live = true) (ho : s.cfg.otpLocked = true) :
    Completes (exec i s) (fun t => t.cfg = s.cfg ∧ t.rd CFG_OTP_STATUS = s.rd CFG_OTP_STATUS ∧ Raised 0x0F06 s t) := by
  obtain ⟨dt, hx⟩ := h
  rw [hx, State.onOpenFuses_locked (s := s.tick dt) hl ho]
  exact ⟨_, rfl, by simp, State.rd_accessEvent _ _ _ _ rfl, by simp [Raised, State.accessEvent_eventCount]⟩

theorem otpProgramHashByte_programs (dt slot index data : Nat) : Programs (.otpProgramHashByte dt slot index data)
    (fun c => if 4 ≤ slot ∨ 48 ≤ index then c else c.orHashByte (48 * slot + index) (data % 256)) := ⟨dt, fun _ => rfl⟩

theorem otpSetValid_programs (dt slot : Nat) : Programs (.otpSetValid dt slot)
    (fun c => { c with keyValid := setBit c.keyValid (slot % 4) true }) := ⟨dt, fun _ => rfl⟩

theorem otpSetRevoked_programs (dt slot : Nat) : Programs (.otpSetRevoked dt slot)
    (fun c => { c with keyRevoked := setBit c.keyRevoked (slot % 4) true }) := ⟨dt, fun _ => rfl⟩

theorem otpRaiseFloor_programs (dt data : Nat) : Programs (.otpRaiseFloor dt data)
    (fun c => if c.secFloor < data % 64 then { c with secFloor := data % 64 } else c) := ⟨dt, fun _ => rfl⟩

theorem otpLock_programs (dt : Nat) : Programs (.otpLock dt) (fun c => { c with otpLocked := true }) := ⟨dt, fun _ => rfl⟩

/-- A floor is raised to the larger of the two. -/
theorem CfgSt.raiseFloor_eq (c : CfgSt) (d : Nat) :
    (if c.secFloor < d then { c with secFloor := d } else c) = { c with secFloor := max c.secFloor d } := by
  split_ifs with h
  · rw [max_eq_right h.le]
  · rw [max_eq_left (Nat.le_of_not_lt h)]
end

/-- Settles O22: the five commands program through one gate (`State.onOpenFuses`), which LOCKED closes. -/
theorem fusesAreProgrammedOnlyUntilLocked : Obligations.FusesAreProgrammedOnlyUntilLocked := by
  unfold Obligations.FusesAreProgrammedOnlyUntilLocked
  refine ⟨?_, ?_, ?_, ?_, ?_, ?_⟩
  · intro dt slot index data s hl ho hs hi
    refine (otpProgramHashByte_programs dt slot index data).completes_open hl ho fun u hu => ?_
    rw [if_neg (show ¬ (4 ≤ slot ∨ 48 ≤ index) by omega)] at hu
    rw [State.showOtp_cfg, hu]
    exact ⟨CfgSt.tget_orHashByte _ _ _, rfl, ho⟩
  · intro dt slot s hl ho hs
    refine (otpSetValid_programs dt slot).completes_open hl ho fun u hu => ?_
    rw [Nat.mod_eq_of_lt hs] at hu
    rw [State.showOtp_cfg, State.showOtp_keyValid, hu]
    exact ⟨rfl, rfl⟩
  · intro dt slot s hl ho hs
    refine (otpSetRevoked_programs dt slot).completes_open hl ho fun u hu => ?_
    rw [Nat.mod_eq_of_lt hs] at hu
    rw [State.showOtp_cfg, State.showOtp_keyRevoked, hu]
    exact ⟨rfl, rfl⟩
  · intro dt data s hl ho hd
    refine (otpRaiseFloor_programs dt data).completes_open hl ho fun u hu => ?_
    rw [Nat.mod_eq_of_lt hd, CfgSt.raiseFloor_eq] at hu
    rw [State.showOtp_cfg, State.showOtp_secFloor, hu]
    exact ⟨rfl, fun hf => Nat.mod_eq_of_lt (max_lt hf hd)⟩
  · intro dt s hl ho
    refine (otpLock_programs dt).completes_open hl ho fun u hu => ?_
    rw [State.showOtp_cfg, State.showOtp_locked, hu]
    exact ⟨rfl, rfl⟩
  · intro dt a b c s hl ho
    simp only [List.forall_mem_cons, List.not_mem_nil, false_imp_iff, implies_true, and_true]
    exact ⟨(otpProgramHashByte_programs dt a b c).completes_locked hl ho, (otpSetValid_programs dt a).completes_locked hl ho,
      (otpSetRevoked_programs dt a).completes_locked hl ho, (otpRaiseFloor_programs dt c).completes_locked hl ho,
      (otpLock_programs dt).completes_locked hl ho⟩

end Sys2Proof.Machine
end

section
/-! What the host interface does when it goes on (R88, R102, R103): it sends requests and messages, takes tags of the present
generations, and moves nothing else. -/
namespace Sys2Proof.Machine

/-- The host interface went on: messages went out, none of them a write, and tags of present generations were taken. -/
def Pumped (s t : State) : Prop := ∃ (ms : List OutMsg) (gs : List HostTag) (turn : Nat) (reqs : List MemReq) (pv : List Nat),
  t = { s with
    out := s.out ++ ms
    hif := { s.hif with tags := s.hif.tags ++ gs, ringTurn := turn }
    mem := { s.mem with reqs := reqs }
    int := { s.int with pendVec := pv } } ∧
  (∀ (f : Nat) (p : Option Nat) (a : Nat) (bs : List Byte), OutMsg.hostWrite f p a bs ∉ ms) ∧ ∀ g ∈ gs, g.old = false

theorem Pumped.refl (s : State) : Pumped s s :=
  ⟨[], [], s.hif.ringTurn, s.mem.reqs, s.int.pendVec, by simp, by simp, by simp⟩

theorem Pumped.trans {s t u : State} (h1 : Pumped s t) (h2 : Pumped t u) : Pumped s u := by
  obtain ⟨ms, gs, turn, reqs, pv, rfl, hm, hg⟩ := h1
  obtain ⟨ms', gs', turn', reqs', pv', rfl, hm', hg'⟩ := h2
  refine ⟨ms ++ ms', gs ++ gs', turn', reqs', pv', by simp, ?_, ?_⟩
  · intro f p a bs hw
    exact (List.mem_append.mp hw).elim (hm f p a bs) (hm' f p a bs)
  · intro g h
    exact (List.mem_append.mp h).elim (hg g) (hg' g)

variable {s t : State}

theorem Pumped.foldOver {α : Type} {l : List α} {f : α → State → State} (h : ∀ a s, Pumped s (f a s)) (s : State) :
    Pumped s (foldOver l f s) :=
  foldOver_rel Pumped.refl Pumped.trans (fun a _ t => h a t) s

theorem Pumped.ite {c : Prop} [Decidable c] {u : State} (ht : Pumped s t) (hu : Pumped s u) : Pumped s (if c then t else u) := by
  split
  · exact ht
  · exact hu

theorem Pumped.reqs (r : List MemReq) : Pumped s { s with mem := { s.mem with reqs := r } } :=
  ⟨[], [], s.hif.ringTurn, r, s.int.pendVec, by simp, by simp, by simp⟩

theorem Pumped.pendVec (pv : List Nat) : Pumped s { s with int := { s.int with pendVec := pv } } :=
  ⟨[], [], s.hif.ringTurn, s.mem.reqs, pv, by simp, by simp, by simp⟩

theorem Pumped.ringTurn (c : Nat) : Pumped s { s with hif := { s.hif with ringTurn := c } } :=
  ⟨[], [], c, s.mem.reqs, s.int.pendVec, by simp, by simp, by simp⟩

theorem Pumped.addTag (f : Nat) (user : TagUser) : Pumped s (s.addTag f user) :=
  ⟨[], [⟨f, false, s.now, user⟩], s.hif.ringTurn, s.mem.reqs, s.int.pendVec, by simp [State.addTag], by simp, by simp⟩

theorem Pumped.send {m : OutMsg} (hm : ∀ (f : Nat) (p : Option Nat) (a : Nat) (bs : List Byte), m ≠ .hostWrite f p a bs) :
    Pumped s (s.send m) :=
  ⟨[m], [], s.hif.ringTurn, s.mem.reqs, s.int.pendVec, by simp [State.send], by simp [Ne.symm (hm _ _ _ _)], by simp⟩

theorem Pumped.issueFetches (s : State) : Pumped s s.issueFetches := by
  refine Pumped.foldOver (fun r t => Pumped.ite (.refl t) ?_) s
  refine (Pumped.reqs _).trans (Pumped.ite (.refl _) ?_)
  exact (Pumped.addTag _ _).trans (Pumped.send (by simp))

theorem Pumped.issueRing (s : State) : Pumped s s.issueRing := by
  refine Pumped.ite (.refl s) ?_
  cases s.nextRing with
  | none => exact .refl s
  | some c => exact ((Pumped.ringTurn c).trans (Pumped.addTag _ _)).trans (Pumped.send (by simp))

theorem Pumped.flushVecs (s : State) (f : Nat) : Pumped s (s.flushVecs f) :=
  Pumped.foldOver (fun _ t => Pumped.ite (.refl t) ((Pumped.pendVec _).trans (Pumped.send (by simp)))) s

theorem Pumped.flushAll (s : State) : Pumped s s.flushAll := Pumped.foldOver (fun f t => Pumped.flushVecs t f) s

theorem Pumped.pumpHost (s : State) : Pumped s s.pumpHost :=
  ((Pumped.issueFetches s).trans (Pumped.issueRing _)).trans (Pumped.flushAll _)

section
variable (h : Pumped s t)
include h

theorem Pumped.regs_eq : t.regs = s.regs := by obtain ⟨ms, gs, turn, reqs, pv, rfl, -⟩ := h; rfl
theorem Pumped.cfg_eq : t.cfg = s.cfg := by obtain ⟨ms, gs, turn, reqs, pv, rfl, -⟩ := h; rfl
theorem Pumped.cmp_eq : t.cmp = s.cmp := by obtain ⟨ms, gs, turn, reqs, pv, rfl, -⟩ := h; rfl
theorem Pumped.held_eq : t.int.held = s.int.held := by obtain ⟨ms, gs, turn, reqs, pv, rfl, -⟩ := h; rfl
theorem Pumped.get_eq (f : Fld) : t.get f = s.get f := State.get_congr (State.rd_congr h.regs_eq _)
theorem Pumped.rd_eq (a : Nat) : t.rd a = s.rd a := State.rd_congr h.regs_eq _
theorem Pumped.byteAt_eq (a : Nat) : t.byteAt a = s.byteAt a := by obtain ⟨ms, gs, turn, reqs, pv, rfl, -⟩ := h; rfl
theorem Pumped.eventCount_eq (code : Nat) : t.eventCount code = s.eventCount code := by
  obtain ⟨ms, gs, turn, reqs, pv, rfl, -⟩ := h; rfl

/-- Of the host interface only the tags and the turn of the rings move. -/
theorem Pumped.hif_eq : t.hif = { s.hif with tags := t.hif.tags, ringTurn := t.hif.ringTurn } := by
  obtain ⟨ms, gs, turn, reqs, pv, rfl, -⟩ := h; rfl

theorem Pumped.tags_eq : ∃ gs, t.hif.tags = s.hif.tags ++ gs ∧ ∀ g ∈ gs, g.old = false := by
  obtain ⟨ms, gs, turn, reqs, pv, rfl, -, hg⟩ := h
  exact ⟨gs, rfl, hg⟩

theorem Pumped.out_eq : ∃ ms, t.out = s.out ++ ms ∧
    ∀ (f : Nat) (p : Option Nat) (a : Nat) (bs : List Byte), OutMsg.hostWrite f p a bs ∉ ms := by
  obtain ⟨ms, gs, turn, reqs, pv, rfl, hm, -⟩ := h
  exact ⟨ms, rfl, hm⟩

theorem Pumped.maps_eq : t.hif.maps = s.hif.maps := by rw [h.hif_eq]
theorem Pumped.cmdTail_eq : t.hif.cmdTail = s.hif.cmdTail := by rw [h.hif_eq]
theorem Pumped.queues_eq : t.hif.queues = s.hif.queues := by rw [h.hif_eq]
theorem Pumped.commits_eq : t.hif.commits = s.hif.commits := by rw [h.hif_eq]

/-- No tag of an older generation is taken. -/
theorem Pumped.tagCount_old (f : Nat) : t.tagCount f true = s.tagCount f true := by
  obtain ⟨gs, hgs, hold⟩ := h.tags_eq
  have hnone : gs.filter (fun g => g.fn == f && g.old == true) = [] :=
    List.filter_eq_nil_iff.mpr (fun g hg => by simp [hold g hg])
  rw [State.tagCount, State.tagCount, hgs, List.filter_append, hnone, List.append_nil]
end

end Sys2Proof.Machine
end

section
/-! The command ring (R88, Tables HIF-4 to HIF-6): what the read of an entry does before its opcode acts, what the answer does
after, and the pages, mappings and grants between. -/
namespace Sys2Proof.Machine

variable {s t u : State} {c dt : Nat} {e : RingEntry}

/-- A read of an entry of a ring of a present generation. -/
def ringTag (c : Nat) (g : HostTag) : Bool := g.user == TagUser.ring c && !g.old

/-- The state in which the opcode of an entry acts: the read's tag is free and the head stands past the entry. -/
def State.taken (s : State) (dt c : Nat) : State := ((s.tick dt).freeTag (ringTag c)).ringAdvance c

theorem ringTake_eq (act : Nat → State → State) (hl : s.live = true) (hr : s.ringReading c = true) (ho : s.ringOpen c = true) :
    ringTake dt c act s = (act (s.get (HIF_CTX_CMDQ_HEAD.HEAD c)) (s.taken dt c)).pumpHost := by
  have hopen : ((s.tick dt).freeTag (ringTag c)).ringOpen c = true := ho
  have hread : (s.tick dt).ringReading c = true := hr
  rw [ringTake, State.tick_onLiveIf dt _ _ hl hread]
  exact congrArg State.pumpHost (if_pos hopen)

@[simp] theorem State.taken_out : (s.taken dt c).out = s.out := rfl
@[simp] theorem State.taken_now : (s.taken dt c).now = s.now + dt := rfl
@[simp] theorem State.taken_pages : (s.taken dt c).hif.pages = s.hif.pages := rfl
@[simp] theorem State.taken_maps : (s.taken dt c).hif.maps = s.hif.maps := rfl
@[simp] theorem State.taken_grants : (s.taken dt c).hif.grants = s.hif.grants := rfl
@[simp] theorem State.taken_deferred : (s.taken dt c).hif.deferred = s.hif.deferred := rfl
@[simp] theorem State.taken_eventCount (code : Nat) : (s.taken dt c).eventCount code = s.eventCount code := rfl
@[simp] theorem State.taken_anyMapped : (s.taken dt c).anyMapped c e = s.anyMapped c e := rfl
@[simp] theorem State.taken_allOwned : (s.taken dt c).allOwned c e = s.allOwned c e := rfl
@[simp] theorem State.taken_allUnmappable : (s.taken dt c).allUnmappable c e = s.allUnmappable c e := rfl
@[simp] theorem State.taken_ownedPages : (s.taken dt c).ownedPages c = s.ownedPages c := rfl
@[simp] theorem State.taken_freePages : (s.taken dt c).freePages = s.freePages := rfl
@[simp] theorem State.taken_grantOf (h : Nat) : (s.taken dt c).grantOf h = s.grantOf h := rfl

theorem State.taken_get {f : Fld} (h : f.reg ≠ HIF_CTX_CMDQ_HEAD c) : (s.taken dt c).get f = s.get f :=
  State.get_congr (State.rd_put_other _ _ h)

theorem State.ringSize_le (s : State) (c : Nat) : s.ringSize c ≤ 12 := by
  unfold State.ringSize clampN
  omega

theorem State.taken_head :
    (s.taken dt c).get (HIF_CTX_CMDQ_HEAD.HEAD c) = (s.get (HIF_CTX_CMDQ_HEAD.HEAD c) + 1) % 2 ^ s.ringSize c := by
  have hsize : 2 ^ s.ringSize c ≤ 2 ^ 12 := Nat.pow_le_pow_right (by decide) (s.ringSize_le c)
  have hlt := Nat.mod_lt (s.get (HIF_CTX_CMDQ_HEAD.HEAD c) + 1) (Nat.two_pow_pos (s.ringSize c))
  exact (State.get_put_same _ _ _ rfl).trans (Nat.mod_eq_of_lt (hlt.trans_le hsize))

theorem ringBase_ne_head (c : Nat) : HIF_CTX_CMDQ_BASE_LO c ≠ HIF_CTX_CMDQ_HEAD c ∧ HIF_CTX_CMDQ_BASE_HI c ≠ HIF_CTX_CMDQ_HEAD c := by
  unfold HIF_CTX_CMDQ_BASE_LO HIF_CTX_CMDQ_BASE_HI HIF_CTX_CMDQ_HEAD
  constructor <;> split_ifs <;> omega

theorem State.ringAddr_congr (hlo : t.rd (HIF_CTX_CMDQ_BASE_LO c) = s.rd (HIF_CTX_CMDQ_BASE_LO c))
    (hhi : t.rd (HIF_CTX_CMDQ_BASE_HI c) = s.rd (HIF_CTX_CMDQ_BASE_HI c)) (idx : Nat) : t.ringAddr c idx = s.ringAddr c idx := by
  simp only [State.ringAddr, State.rdN, hlo, hhi]

theorem State.taken_ringAddr (idx : Nat) : (s.taken dt c).ringAddr c idx = s.ringAddr c idx :=
  State.ringAddr_congr (State.rd_put_other _ _ (ringBase_ne_head c).1) (State.rd_put_other _ _ (ringBase_ne_head c).2) idx

/-! ### The answer -/

theorem evReg_high {a : Nat} (h : 0x10000000 ≤ a) : evReg a = false := by
  by_contra hne
  have := evReg_bounds (by simpa using hne)
  omega

theorem evReg_head (c : Nat) : evReg (HIF_CTX_CMDQ_HEAD c) = false := evReg_high (by unfold HIF_CTX_CMDQ_HEAD; split_ifs <;> omega)

/-- The write that answers an entry (Table HIF-4). -/
def State.answerMsg (s : State) (c idx st res : Nat) : OutMsg :=
  .hostWrite (c / 4) none (s.ringAddr c idx + 0x38) (leBytes 4 st ++ leBytes 4 res)

theorem State.ringDone_out (idx st res : Nat) : (s.ringDone c idx e st res).out = s.out ++ [s.answerMsg c idx st res] := by
  unfold State.ringDone
  split <;> simp [State.answerMsg]

theorem State.ringDone_hif (idx st res : Nat) : (s.ringDone c idx e st res).hif = s.hif := by
  unfold State.ringDone
  split <;> simp

theorem State.ringDone_head (idx st res : Nat) :
    (s.ringDone c idx e st res).get (HIF_CTX_CMDQ_HEAD.HEAD c) = s.get (HIF_CTX_CMDQ_HEAD.HEAD c) := by
  unfold State.ringDone
  split
  · exact State.get_raiseC _ _ _ _ _ _ (evReg_head c)
  · rfl

theorem State.ringDone_raised (idx st res : Nat) (h : bitAt e.flags 7 = true) : Raised 0x0F02 s (s.ringDone c idx e st res) := by
  simp [State.ringDone, h, Raised, State.raiseC_eventCount]

/-- An entry was answered: the head stands past it, and its status and result went out before anything else. -/
def Answered (s : State) (c st res : Nat) (t : State) : Prop :=
  t.get (HIF_CTX_CMDQ_HEAD.HEAD c) = (s.get (HIF_CTX_CMDQ_HEAD.HEAD c) + 1) % 2 ^ s.ringSize c ∧
    ∃ r, t.out = s.out ++ s.answerMsg c (s.get (HIF_CTX_CMDQ_HEAD.HEAD c)) st res :: r

/-- What an opcode leaves for the answer: nothing has gone out, and the ring's registers stand. -/
def RingStands (c : Nat) (s t : State) : Prop :=
  t.out = s.out ∧ t.rd (HIF_CTX_CMDQ_HEAD c) = s.rd (HIF_CTX_CMDQ_HEAD c) ∧
    t.rd (HIF_CTX_CMDQ_BASE_LO c) = s.rd (HIF_CTX_CMDQ_BASE_LO c) ∧ t.rd (HIF_CTX_CMDQ_BASE_HI c) = s.rd (HIF_CTX_CMDQ_BASE_HI c)

theorem RingStands.refl (c : Nat) (s : State) : RingStands c s s := ⟨rfl, rfl, rfl, rfl⟩

theorem ringDone_answers {st res : Nat} (h : RingStands c (s.taken dt c) u) :
    let t := (u.ringDone c (s.get (HIF_CTX_CMDQ_HEAD.HEAD c)) e st res).pumpHost
    Answered s c st res t ∧ Pumped (u.ringDone c (s.get (HIF_CTX_CMDQ_HEAD.HEAD c)) e st res) t ∧
      t.hif = { u.hif with tags := t.hif.tags, ringTurn := t.hif.ringTurn } := by
  obtain ⟨hout, hhead, hlo, hhi⟩ := h
  have hp := Pumped.pumpHost (u.ringDone c (s.get (HIF_CTX_CMDQ_HEAD.HEAD c)) e st res)
  obtain ⟨ms, hms, -⟩ := hp.out_eq
  have hmsg (i : Nat) : u.answerMsg c i st res = s.answerMsg c i st res := by
    rw [State.answerMsg, State.ringAddr_congr hlo hhi, State.taken_ringAddr, State.answerMsg]
  refine ⟨⟨?_, ms, ?_⟩, hp, ?_⟩
  · rw [hp.get_eq, State.ringDone_head, State.get_congr hhead, State.taken_head]
  · rw [hms, State.ringDone_out, hout, hmsg, State.taken_out, List.append_assoc, List.singleton_append]
  · rw [hp.hif_eq, State.ringDone_hif]

section
variable (hl : s.live = true) (hr : s.ringReading c = true) (ho : s.ringOpen c = true)
include hl hr ho

/-- An opcode that acts at once, from what it answers. -/
theorem ringNow_answers {op : State → Nat → RingEntry → RingResult} {st res : Nat} (hop : op (s.taken dt c) c e = (u, st, res))
    (hu : RingStands c (s.taken dt c) u) :
    Answered s c st res (ringNow dt c e op s) ∧
      (ringNow dt c e op s).hif =
        { u.hif with tags := (ringNow dt c e op s).hif.tags, ringTurn := (ringNow dt c e op s).hif.ringTurn } := by
  have hrun : ringNow dt c e op s = (u.ringDone c (s.get (HIF_CTX_CMDQ_HEAD.HEAD c)) e st res).pumpHost := by
    rw [ringNow, ringTake_eq _ hl hr ho]
    simp only [hop]
  obtain ⟨hans, -, hhif⟩ := ringDone_answers (e := e) (st := st) (res := res) hu
  rw [hrun]
  exact ⟨hans, hhif⟩
end

end Sys2Proof.Machine
end

section
/-! What the opcodes of the command ring do to pages, mappings and grants (R84 to R86, R353). -/
namespace Sys2Proof.Machine

/-- Where every value listed for a key is the same, setting the list one after another leaves it there. -/
theorem tfind_foldl_tset {α : Type} {k : Nat} {v : α} : ∀ (l : List (Nat × α)) (t : Tbl α), (k, v) ∈ l →
    (∀ w, (k, w) ∈ l → w = v) → tfind (l.foldl (fun t e => tset t e.1 e.2) t) k = some v := by
  intro l
  induction l using List.reverseRecOn with
  | nil => simp
  | append_singleton l e ih =>
    intro t hmem hall
    rw [List.foldl_append, List.foldl_cons, List.foldl_nil, tfind_tset]
    split
    · next hk => rw [hall e.2 (by simp [hk])]
    · next hk =>
      have hl : (k, v) ∈ l := (List.mem_append.mp hmem).resolve_right (fun h => hk (by rw [← List.mem_singleton.mp h]))
      exact ih t hl (fun w hw => hall w (List.mem_append_left _ hw))

variable {s t u : State} {c dt : Nat} {e : RingEntry}

theorem State.mapRange_eq (vs : List Nat) (ms : List Mapping) : s.mapRange c vs ms = { s with hif := { s.hif with
    maps := ((vs.zip ms).map (fun vm => (mapKey c vm.1, vm.2))).foldl (fun t e => tset t e.1 e.2) s.hif.maps } } := by
  unfold State.mapRange foldOver
  induction vs.zip ms generalizing s with
  | nil => rfl
  | cons vm r ih => exact ih

theorem State.setPages_eq (ps : List Nat) (v : Nat) : foldOver ps (fun p t => t.setPage p v) s = { s with hif := { s.hif with
    pages := (ps.map (fun p => (p, v))).foldl (fun t e => tset t e.1 e.2) s.hif.pages } } := by
  unfold foldOver
  induction ps generalizing s with
  | nil => rfl
  | cons p r ih => exact ih

/-- Each page of an entry's range is mapped to its target. -/
theorem State.mapRange_maps {k : Nat} {m : Mapping} {ms : List Mapping} (hk : k < e.count) (hm : ms[k]? = some m) :
    tfind (s.mapRange c e.vpages ms).hif.maps (mapKey c (e.va / 65536 + k)) = some m := by
  have hpage (i : Nat) (v : Nat) : e.vpages[i]? = some v ↔ i < e.count ∧ v = e.va / 65536 + i := by
    rw [RingEntry.vpages, List.getElem?_map, Option.map_eq_some_iff]
    constructor
    · rintro ⟨j, hj, rfl⟩
      obtain ⟨hi, hj⟩ := List.getElem?_eq_some_iff.mp hj
      rw [List.getElem_range] at hj
      simp_all
    · rintro ⟨hi, rfl⟩
      exact ⟨i, by simp [hi], rfl⟩
  rw [State.mapRange_eq]
  refine tfind_foldl_tset _ _ ?_ (fun w hw => ?_)
  · refine List.mem_map.mpr ⟨(e.va / 65536 + k, m), List.mem_iff_getElem?.mpr ⟨k, ?_⟩, rfl⟩
    exact List.getElem?_zip_eq_some.mpr ⟨(hpage k _).mpr ⟨hk, rfl⟩, hm⟩
  · obtain ⟨⟨v, w'⟩, hz, heq⟩ := List.mem_map.mp hw
    obtain ⟨i, hi⟩ := List.mem_iff_getElem?.mp hz
    obtain ⟨hv, hw'⟩ := List.getElem?_zip_eq_some.mp hi
    obtain ⟨-, rfl⟩ := (hpage i v).mp hv
    simp only [mapKey, Prod.mk.injEq] at heq
    obtain ⟨hkey, rfl⟩ := heq
    obtain rfl : i = k := by omega
    exact Option.some.inj (hw'.symm.trans hm)

theorem State.mapRange_stands (vs : List Nat) (ms : List Mapping) : RingStands c s (s.mapRange c vs ms) := by
  rw [State.mapRange_eq]
  exact .refl c s

theorem ringCfg_ne_head (c : Nat) : HIF_CTX_LIMITS_1 c ≠ HIF_CTX_CMDQ_HEAD c ∧ HIF_FN_STATUS (c / 4) ≠ HIF_CTX_CMDQ_HEAD c ∧
    HIF_STATUS ≠ HIF_CTX_CMDQ_HEAD c := by
  unfold HIF_CTX_LIMITS_1 HIF_FN_STATUS HIF_STATUS HIF_CTX_CMDQ_HEAD
  refine ⟨?_, ?_, ?_⟩ <;> split_ifs <;> omega

/-- What the counts of pages show leaves the ring's registers. -/
theorem State.showPages_stands : RingStands c s (s.showPages c) := by
  have hne (a : Nat) (ha : a = HIF_CTX_CMDQ_HEAD c ∨ a = HIF_CTX_CMDQ_BASE_LO c ∨ a = HIF_CTX_CMDQ_BASE_HI c) :
      (s.showPages c).rd a = s.rd a := by
    have hpool : a ≠ HIF_POOL_FREE ∧ a ≠ HIF_CTX_PAGES c := by
      unfold HIF_CTX_CMDQ_HEAD HIF_CTX_CMDQ_BASE_LO HIF_CTX_CMDQ_BASE_HI at ha
      unfold HIF_CTX_PAGES HIF_POOL_FREE
      constructor <;> split_ifs at ha ⊢ <;> omega
    exact (State.rd_put_other _ _ hpool.1).trans (State.rd_put_other _ _ hpool.2)
  exact ⟨rfl, hne _ (.inl rfl), hne _ (.inr (.inl rfl)), hne _ (.inr (.inr rfl))⟩

/-! ### What each opcode answers -/

section
variable (he : e.rangeOk = true) (hfree : s.anyMapped c e = false)
include he

section
include hfree

theorem ringAlloc_ok (hq : (s.ownedPages c).length + e.count ≤ s.get (HIF_CTX_LIMITS_1.PAGES c))
    (hp : e.count ≤ s.freePages.length) : ∃ u, ringAlloc s c e = (u, stOk, 0) ∧ RingStands c s u ∧
      u.hif.grants = s.hif.grants ∧ ∀ k, k < e.count → ∃ p, s.freePages[k]? = some p ∧ tfind u.hif.pages p = some (c + 1) ∧
        tfind u.hif.maps (mapKey c (e.va / 65536 + k)) = some ⟨MapKind.loc, p, e.rd, e.wrt, 0⟩ := by
  let owned := foldOver (s.freePages.take e.count) (fun p t => t.setPage p (c + 1)) s
  have howned : RingStands c s owned := by
    simp only [owned, State.setPages_eq]
    exact .refl c s
  let mapped := owned.mapRange c e.vpages ((s.freePages.take e.count).map (fun p => ⟨MapKind.loc, p, e.rd, e.wrt, 0⟩))
  have hmapped : RingStands c owned mapped := State.mapRange_stands _ _
  refine ⟨mapped.showPages c, ?_, ?_, ?_, fun k hk => ?_⟩
  · have hroom : ¬ (s.get (HIF_CTX_LIMITS_1.PAGES c) < (s.ownedPages c).length + e.count ∨ s.freePages.length < e.count) := by
      omega
    simp only [ringAlloc, he, hfree, Bool.not_true, Bool.false_eq_true, if_false, if_neg hroom]
    rfl
  · obtain ⟨ho1, hh1, hlo1, hhi1⟩ := howned
    obtain ⟨ho2, hh2, hlo2, hhi2⟩ := hmapped
    obtain ⟨ho3, hh3, hlo3, hhi3⟩ := State.showPages_stands (s := mapped) (c := c)
    exact ⟨ho3.trans (ho2.trans ho1), hh3.trans (hh2.trans hh1), hlo3.trans (hlo2.trans hlo1), hhi3.trans (hhi2.trans hhi1)⟩
  · change mapped.hif.grants = _
    simp only [mapped, owned, State.mapRange_eq, State.setPages_eq]
  · obtain ⟨p, hpk⟩ : ∃ p, s.freePages[k]? = some p := ⟨_, List.getElem?_eq_getElem (hk.trans_le hp)⟩
    have htake : (s.freePages.take e.count)[k]? = some p := by rw [List.getElem?_take_of_lt hk, hpk]
    refine ⟨p, hpk, ?_, ?_⟩
    · change tfind mapped.hif.pages p = _
      simp only [mapped, owned, State.mapRange_eq, State.setPages_eq]
      refine tfind_foldl_tset _ _ (List.mem_map.mpr ⟨p, List.mem_of_getElem? htake, rfl⟩) (fun w hw => ?_)
      obtain ⟨q, -, heq⟩ := List.mem_map.mp hw
      exact (congrArg Prod.snd heq).symm
    · exact State.mapRange_maps hk (by rw [List.getElem?_map, htake]; rfl)

theorem ringMapHost_ok (ha : e.target % 65536 = 0) (hm : s.flag (HIF_FN_STATUS.ME (c / 4)) = true) :
    ringMapHost s c e = (s.mapRange c e.vpages ((List.range e.count).map
      (fun k => ⟨MapKind.host, e.target / 65536 + k, e.rd, e.wrt, 0⟩)), stOk, 0) := by
  simp [ringMapHost, he, ha, hm, hfree]

theorem ringMapRemote_ok (ha : e.target % 65536 = 0) (ht : e.target + e.count * 65536 ≤ 2 ^ 48)
    (hm : s.flag HIF_STATUS.STARTUP_DONE = true) :
    ringMapRemote s c e = (s.mapRange c e.vpages ((List.range e.count).map
      (fun k => ⟨MapKind.remote, e.target / 65536 + k, e.rd, e.wrt, 0⟩)), stOk, 0) := by
  have hlt : ¬ 2 ^ 48 < e.target + e.count * 65536 := by omega
  simp only [ringMapRemote, he, ha, hm, hfree, decide_eq_false hlt]
  rfl

theorem ringMapGrant_ok {g : Grant} (hw : e.wrt = false) (hg : s.grantOf (e.target % 2 ^ 32) = some g) (hc : g.grantee = c)
    (hn : e.count ≤ g.pages.length) :
    ringMapGrant s c e = (s.mapRange c e.vpages ((g.pages.take e.count).map
      (fun p => ⟨MapKind.grant, p, true, false, e.target % 2 ^ 32⟩)), stOk, 0) := by
  simp only [ringMapGrant, he, hw, hg, hc, hfree, Nat.not_lt.mpr hn, ne_eq, not_true_eq_false, if_false]
  rfl
end

theorem ringMapHost_disabled (ha : e.target % 65536 = 0) (hm : s.flag (HIF_FN_STATUS.ME (c / 4)) = false) :
    ringMapHost s c e = (s, stHostDisabled, 0) := by
  simp [ringMapHost, he, ha, hm]

theorem ringGrant_ok (hg : e.grantee < 1024) (ho : s.allOwned c e = true) :
    ∃ u h g, ringGrant s c e = (u, stOk, h) ∧ RingStands c s u ∧ u.hif.maps = s.hif.maps ∧ tfind u.hif.grants h = some g ∧
      g.owner = c ∧ g.grantee = e.grantee ∧ g.pages.length = e.count := by
  let h := freeHandle s.hif.grants s.hif.grants.length s.hif.nextHandle
  let ps := e.vpages.filterMap (fun v => (tfind s.hif.maps (mapKey c v)).map (·.target))
  have hps : ps.length = e.count := by
    have hall : ∀ v ∈ e.vpages, ((tfind s.hif.maps (mapKey c v)).map (·.target)).isSome = true := by
      intro v hv
      have := List.all_eq_true.mp ho v hv
      revert this
      cases tfind s.hif.maps (mapKey c v) <;> simp
    rw [show ps.length = e.vpages.length from List.filterMap_length_eq_length.mpr hall, RingEntry.vpages, List.length_map,
      List.length_range]
  refine ⟨{ s with hif := { s.hif with
    grants := tset s.hif.grants h ⟨c, e.grantee, e.va / 65536, ps⟩
    nextHandle := h % (2 ^ 32 - 1) + 1 } }, h, ⟨c, e.grantee, e.va / 65536, ps⟩, ?_, .refl c s, rfl, tfind_tset_same _ _ _, rfl,
    rfl, hps⟩
  simp only [ringGrant, he, ho, decide_eq_false (Nat.not_le.mpr hg)]
  rfl
end

section
variable (he : e.rangeOk = false)
include he

theorem ringAlloc_bad : ringAlloc s c e = (s, stBadArgs, 0) := by simp [ringAlloc, he]
theorem ringMapHost_bad : ringMapHost s c e = (s, stBadArgs, 0) := by simp [ringMapHost, he]
theorem ringMapRemote_bad : ringMapRemote s c e = (s, stBadArgs, 0) := by simp [ringMapRemote, he]
theorem ringMapGrant_bad : ringMapGrant s c e = (s, stBadArgs, 0) := by simp [ringMapGrant, he]
theorem ringGrant_bad : ringGrant s c e = (s, stBadArgs, 0) := by simp [ringGrant, he]
end

end Sys2Proof.Machine
end

section
/-! Ring entries: those that act when they are read (R84 to R86, R88), and those that wait for their boundary (R88, R89). -/
namespace Sys2Proof.Machine

variable {s : State} {c dt : Nat} {e : RingEntry}

theorem State.get_of_flag {f : Fld} (h : s.get f = 1) : s.flag f = true := by simp [State.flag, h]

section
variable (hl : s.live = true) (hr : s.ringReading c = true) (ho : s.ringOpen c = true)
include hl hr ho

/-- An opcode that leaves everything but its answer. -/
theorem ringNow_keeps {op : State → Nat → RingEntry → RingResult} {st : Nat} (hop : op (s.taken dt c) c e = (s.taken dt c, st, 0)) :
    Answered s c st 0 (ringNow dt c e op s) ∧ (ringNow dt c e op s).hif =
      { s.hif with tags := (ringNow dt c e op s).hif.tags, ringTurn := (ringNow dt c e op s).hif.ringTurn } :=
  ringNow_answers (u := s.taken dt c) hl hr ho hop (.refl c _)

/-- An opcode that only maps a range. -/
theorem ringNow_maps {op : State → Nat → RingEntry → RingResult} {ms : List Mapping}
    (hop : op (s.taken dt c) c e = ((s.taken dt c).mapRange c e.vpages ms, stOk, 0)) :
    Answered s c 1 0 (ringNow dt c e op s) ∧ (ringNow dt c e op s).hif.pages = s.hif.pages ∧
      ∀ k m, k < e.count → ms[k]? = some m →
        tfind (ringNow dt c e op s).hif.maps (mapKey c (e.va / 65536 + k)) = some m := by
  obtain ⟨hans, hhif⟩ := ringNow_answers hl hr ho hop (State.mapRange_stands _ _)
  refine ⟨hans, ?_, fun k m hk hm => ?_⟩
  · rw [hhif, State.mapRange_eq]
    rfl
  · rw [hhif]
    exact State.mapRange_maps hk hm

theorem cmdAlloc_ok (he : e.rangeOk = true) (hfree : s.anyMapped c e = false)
    (hq : (s.ownedPages c).length + e.count ≤ s.get (HIF_CTX_LIMITS_1.PAGES c)) (hp : e.count ≤ s.freePages.length) :
    Answered s c 1 0 (doCmdAlloc dt c e s) ∧ (doCmdAlloc dt c e s).hif.grants = s.hif.grants ∧ ∀ k, k < e.count →
      ∃ p, s.freePages[k]? = some p ∧ tfind (doCmdAlloc dt c e s).hif.pages p = some (c + 1) ∧
        tfind (doCmdAlloc dt c e s).hif.maps (mapKey c (e.va / 65536 + k)) = some ⟨MapKind.loc, p, e.rd, e.wrt, 0⟩ := by
  have hlim : (s.taken dt c).get (HIF_CTX_LIMITS_1.PAGES c) = s.get (HIF_CTX_LIMITS_1.PAGES c) :=
    State.taken_get (ringCfg_ne_head c).1
  obtain ⟨u, hop, hstands, hgrants, hpages⟩ := ringAlloc_ok (s := s.taken dt c) he hfree (hq.trans_eq hlim.symm) hp
  obtain ⟨hans, hhif⟩ := ringNow_answers hl hr ho hop hstands
  refine ⟨hans, (congrArg HifSt.grants hhif).trans hgrants, fun k hk => ?_⟩
  obtain ⟨p, hp, hown, hmap⟩ := hpages k hk
  exact ⟨p, hp, (congrArg (fun h => tfind h.pages p) hhif).trans hown, (congrArg (fun h => tfind h.maps _) hhif).trans hmap⟩

theorem cmdGrant_ok (he : e.rangeOk = true) (hg : e.grantee < 1024) (hown : s.allOwned c e = true) :
    (doCmdGrant dt c e s).hif.maps = s.hif.maps ∧ ∃ h g, Answered s c 1 h (doCmdGrant dt c e s) ∧
      tfind (doCmdGrant dt c e s).hif.grants h = some g ∧ g.owner = c ∧ g.grantee = e.grantee ∧ g.pages.length = e.count := by
  obtain ⟨u, h, g, hop, hstands, hmaps, hfind, hg⟩ := ringGrant_ok (s := s.taken dt c) he hg hown
  obtain ⟨hans, hhif⟩ := ringNow_answers hl hr ho hop hstands
  exact ⟨(congrArg HifSt.maps hhif).trans hmaps, h, g, hans, (congrArg (fun x => tfind x.grants h) hhif).trans hfind, hg⟩

/-- A deferred opcode whose check fails answers with the check's code. -/
theorem ringLater_fails {op : Nat} (hst : deferredCheck (s.taken dt c) c op e = stBadArgs) :
    Answered s c 3 0 (ringLater dt c op e s) ∧ (ringLater dt c op e s).hif =
      { s.hif with tags := (ringLater dt c op e s).hif.tags, ringTurn := (ringLater dt c op e s).hif.ringTurn } := by
  have hrun : ringLater dt c op e s =
      ((s.taken dt c).ringDone c (s.get (HIF_CTX_CMDQ_HEAD.HEAD c)) e stBadArgs 0).pumpHost := by
    rw [ringLater, ringTake_eq _ hl hr ho]
    simp only [hst]
    rfl
  obtain ⟨hans, -, hhif⟩ := ringDone_answers (s := s) (dt := dt) (e := e) (st := stBadArgs) (res := 0) (.refl c _)
  rw [hrun]
  exact ⟨hans, hhif⟩

theorem ringFence_answers {st : Nat}
    (h : e.bitsOk = false ∧ st = stBadArgs ∨ e.bitsOk = true ∧ (∀ d ∈ s.hif.deferred, d.ctx ≠ c) ∧ st = stOk) :
    Answered s c st 0 (doCmdFence dt c e s) ∧ (doCmdFence dt c e s).hif =
      { s.hif with tags := (doCmdFence dt c e s).hif.tags, ringTurn := (doCmdFence dt c e s).hif.ringTurn } := by
  have hrun : doCmdFence dt c e s = ((s.taken dt c).ringDone c (s.get (HIF_CTX_CMDQ_HEAD.HEAD c)) e st 0).pumpHost := by
    rw [doCmdFence, ringFence, ringTake_eq _ hl hr ho]
    obtain ⟨hb, rfl⟩ | ⟨hb, hnone, rfl⟩ := h
    · simp only [hb, Bool.not_false, if_true]
    · have hany : (s.taken dt c).hif.deferred.any (fun d => d.ctx == c) = false := by
        rw [State.taken_deferred]
        simpa using hnone
      simp only [hb, hany, Bool.not_true, Bool.false_eq_true, if_false]
  obtain ⟨hans, -, hhif⟩ := ringDone_answers (s := s) (dt := dt) (e := e) (st := st) (res := 0) (.refl c _)
  rw [hrun]
  exact ⟨hans, hhif⟩

/-- Of the opcodes that bound a range, each refuses an entry whose range or reserved bits are bad. -/
theorem ring_badRange (he : e.rangeOk = false) :
    ∀ i ∈ [(.cmdAlloc dt c e : Instr), .cmdMapHost dt c e, .cmdMapRemote dt c e, .cmdMapGrant dt c e, .cmdGrant dt c e,
        .cmdFree dt c e, .cmdUnmap dt c e],
      Completes (exec i s) (fun t => Answered s c 3 0 t ∧ t.hif = { s.hif with tags := t.hif.tags, ringTurn := t.hif.ringTurn }) := by
  simp only [List.forall_mem_cons, List.not_mem_nil, false_implies, implies_true, and_true]
  refine ⟨⟨_, rfl, ?_⟩, ⟨_, rfl, ?_⟩, ⟨_, rfl, ?_⟩, ⟨_, rfl, ?_⟩, ⟨_, rfl, ?_⟩, ⟨_, rfl, ?_⟩, ⟨_, rfl, ?_⟩⟩
  · exact ringNow_keeps hl hr ho (ringAlloc_bad he)
  · exact ringNow_keeps hl hr ho (ringMapHost_bad he)
  · exact ringNow_keeps hl hr ho (ringMapRemote_bad he)
  · exact ringNow_keeps hl hr ho (ringMapGrant_bad he)
  · exact ringNow_keeps hl hr ho (ringGrant_bad he)
  · exact ringLater_fails hl hr ho (by simp [deferredCheck, he])
  · exact ringLater_fails hl hr ho (by simp [deferredCheck, he])

theorem cmdRevoke_bad (he : e.bitsOk = false) :
    Answered s c 3 0 (doCmdRevoke dt c e s) ∧ (doCmdRevoke dt c e s).hif =
      { s.hif with tags := (doCmdRevoke dt c e s).hif.tags, ringTurn := (doCmdRevoke dt c e s).hif.ringTurn } := by
  refine ringLater_fails hl hr ho ?_
  unfold deferredCheck
  simp only [he]
  split
  · contradiction
  · split
    · contradiction
    · split <;> rfl

/-- An entry that waits: the head stands past it, it joins the entries that wait, and nothing is written back. -/
theorem ring_waits {act : Nat → State → State} {d : Deferred}
    (hact : act (s.get (HIF_CTX_CMDQ_HEAD.HEAD c)) (s.taken dt c) = { s.taken dt c with hif := { (s.taken dt c).hif with
      deferred := s.hif.deferred ++ [d] } }) :
    let t := ringTake dt c act s
    t.get (HIF_CTX_CMDQ_HEAD.HEAD c) = (s.get (HIF_CTX_CMDQ_HEAD.HEAD c) + 1) % 2 ^ s.ringSize c ∧
      t.hif = { s.hif with deferred := s.hif.deferred ++ [d], tags := t.hif.tags, ringTurn := t.hif.ringTurn } ∧
      ∃ r, t.out = s.out ++ r ∧ ∀ (f : Nat) (p : Option Nat) (a : Nat) (bs : List Byte), OutMsg.hostWrite f p a bs ∉ r := by
  dsimp only
  rw [ringTake_eq _ hl hr ho, hact]
  exact ⟨((Pumped.pumpHost _).get_eq _).trans State.taken_head, (Pumped.pumpHost _).hif_eq, (Pumped.pumpHost _).out_eq⟩

theorem ringLater_waits {op : Nat} (hst : deferredCheck (s.taken dt c) c op e = stOk) :
    let t := ringLater dt c op e s
    t.get (HIF_CTX_CMDQ_HEAD.HEAD c) = (s.get (HIF_CTX_CMDQ_HEAD.HEAD c) + 1) % 2 ^ s.ringSize c ∧
      t.hif = { s.hif with
        deferred := s.hif.deferred ++ [⟨c, op, s.get (HIF_CTX_CMDQ_HEAD.HEAD c), e, s.now + dt + 20 * usSteps⟩]
        tags := t.hif.tags
        ringTurn := t.hif.ringTurn } ∧
      ∃ r, t.out = s.out ++ r ∧ ∀ (f : Nat) (p : Option Nat) (a : Nat) (bs : List Byte), OutMsg.hostWrite f p a bs ∉ r :=
  ring_waits hl hr ho (by simp [hst])

theorem ringFence_waits (he : e.bitsOk = true) (hd : s.hif.deferred.any (fun d => d.ctx == c) = true) :
    let t := ringFence dt c e s
    t.get (HIF_CTX_CMDQ_HEAD.HEAD c) = (s.get (HIF_CTX_CMDQ_HEAD.HEAD c) + 1) % 2 ^ s.ringSize c ∧
      t.hif = { s.hif with
        deferred := s.hif.deferred ++ [⟨c, 9, s.get (HIF_CTX_CMDQ_HEAD.HEAD c), e, 0⟩]
        tags := t.hif.tags
        ringTurn := t.hif.ringTurn } ∧
      ∃ r, t.out = s.out ++ r ∧ ∀ (f : Nat) (p : Option Nat) (a : Nat) (bs : List Byte), OutMsg.hostWrite f p a bs ∉ r :=
  ring_waits hl hr ho (by simp only [he, hd, Bool.not_true, Bool.false_eq_true, if_false, if_true, State.taken_deferred])
end

/-- Settles O25: each opcode is one case of `ringNow_answers`, from what it answers in the state in which it acts. -/
theorem ringEntriesTakeEffectOrFail : Obligations.RingEntriesTakeEffectOrFail := by
  unfold Obligations.RingEntriesTakeEffectOrFail
  constructor
  · intro dt c e s hl hr ho back kept
    have hme : (s.taken dt c).get (HIF_FN_STATUS.ME (c / 4)) = s.get (HIF_FN_STATUS.ME (c / 4)) :=
      State.taken_get (ringCfg_ne_head c).2.1
    refine ⟨fun he hfree hq hp => ⟨_, rfl, cmdAlloc_ok hl hr ho he hfree hq hp⟩,
      fun he ha hm hfree => ⟨_, rfl, ?_⟩, fun he ha hm => ⟨_, rfl, ?_⟩, fun he ha ht hup hfree => ⟨_, rfl, ?_⟩,
      fun g he hw hg hc hn hfree => ⟨_, rfl, ?_⟩, fun he hg hown => ⟨_, rfl, cmdGrant_ok hl hr ho he hg hown⟩, ⟨_, rfl, ?_⟩,
      ring_badRange hl hr ho, ?_⟩
    · obtain ⟨hans, hpages, hmaps⟩ := ringNow_maps hl hr ho
        (ringMapHost_ok (s := s.taken dt c) he hfree ha (State.get_of_flag (hme.trans hm)))
      exact ⟨hans, hpages, fun k hk => hmaps k _ hk (by simp [hk])⟩
    · exact ringNow_keeps hl hr ho (ringMapHost_disabled he ha (by simp [State.flag, hme, hm]))
    · have hup' : (s.taken dt c).get HIF_STATUS.STARTUP_DONE = 1 := (State.taken_get (ringCfg_ne_head c).2.2).trans hup
      obtain ⟨hans, hpages, hmaps⟩ := ringNow_maps hl hr ho
        (ringMapRemote_ok (s := s.taken dt c) he hfree ha ht (State.get_of_flag hup'))
      exact ⟨hans, hpages, fun k hk => hmaps k _ hk (by simp [hk])⟩
    · obtain ⟨hans, hpages, hmaps⟩ := ringNow_maps hl hr ho (ringMapGrant_ok (s := s.taken dt c) he hfree hw hg hc hn)
      refine ⟨hans, hpages, fun k hk => hmaps k _ hk ?_⟩
      rw [List.getElem?_map, List.getElem?_take_of_lt hk, List.getElem?_eq_getElem (hk.trans_le hn), nthD,
        List.getElem?_eq_getElem (hk.trans_le hn)]
      rfl
    · exact ringNow_keeps hl hr ho rfl
    · intro he
      simp only [List.forall_mem_cons, List.not_mem_nil, false_implies, implies_true, and_true]
      exact ⟨⟨_, rfl, cmdRevoke_bad hl hr ho he⟩, ⟨_, rfl, ringFence_answers hl hr ho (.inl ⟨he, rfl⟩)⟩⟩
  · intro dt c e s hl hr ho hf
    refine ⟨_, rfl, ?_⟩
    have hrun : doCmdBadOpcode dt c e s =
        ((s.taken dt c).ringDone c (s.get (HIF_CTX_CMDQ_HEAD.HEAD c)) e stBadOpcode 0).pumpHost := by
      rw [doCmdBadOpcode, ringNow, ringTake_eq _ hl hr ho]
    rw [hrun]
    exact ((Pumped.pumpHost _).eventCount_eq _).trans (State.ringDone_raised _ _ _ (by rw [hf]; decide))

/-- Settles O26: a deferred opcode whose check passes joins the entries that wait, and a FENCE answers when none waits. -/
theorem ringEntriesThatWait : Obligations.RingEntriesThatWait := by
  unfold Obligations.RingEntriesThatWait
  intro dt c e s hl hr ho idx waits
  refine ⟨fun he hown => ⟨_, rfl, ?_⟩, fun he hmap => ⟨_, rfl, ?_⟩, fun g he hg hgo => ⟨_, rfl, ?_⟩, fun he hd => ⟨_, rfl, ?_⟩,
    fun he hd => ⟨_, rfl, ?_⟩⟩
  · exact ringLater_waits hl hr ho (by simp [deferredCheck, he, hown])
  · exact ringLater_waits hl hr ho (by simp [deferredCheck, he, hmap])
  · refine ringLater_waits hl hr ho ?_
    unfold deferredCheck
    simp only [State.taken_grantOf, hg, he, hgo]
    rfl
  · have hany : s.hif.deferred.any (fun d => d.ctx == c) = true := by
      obtain ⟨d, hmem, hctx⟩ := hd
      exact List.any_eq_true.mpr ⟨d, hmem, by simp [hctx]⟩
    exact ringFence_waits hl hr ho he hany
  · obtain ⟨⟨hhead, hout⟩, hhif⟩ := ringFence_answers (dt := dt) hl hr ho (.inr ⟨he, hd, rfl⟩)
    exact ⟨hhif, hhead, hout⟩

end Sys2Proof.Machine
end

section
/-! Layers and limits (R19, R81, R90, R91, R472). -/
namespace Sys2Proof.Machine

variable {s t : State} {c slot n dt : Nat}

/-! ### Layers -/

theorem layerResult_word {layer code : Nat} (hs : slot < 64) (hl : layer < 256) (hc : code < 16) :
    (s.layerResult c slot layer code).rdN (HIF_CTX_LAYER_RESULT c) = slot + layer * 2 ^ 8 + code * 2 ^ 16 := by
  rw [State.layerResult, State.rdN_wrN_same]
  omega

/-- What a request answers moves no owner of a layer. -/
theorem State.layerResult_holder (layer code n : Nat) (hn : n < 256) : (s.layerResult c slot layer code).holder n = s.holder n := by
  have hne : CMP_LYR_OWNER n ≠ HIF_CTX_LAYER_RESULT c := by
    unfold CMP_LYR_OWNER HIF_CTX_LAYER_RESULT
    split_ifs <;> omega
  have hrd : (s.layerResult c slot layer code).rd (CMP_LYR_OWNER n) = s.rd (CMP_LYR_OWNER n) := State.rd_wrN_other _ _ hne
  simp only [State.holder, State.flag_congr (f := CMP_LYR_OWNER.HELD n) hrd, State.get_congr (f := CMP_LYR_OWNER.CTX n) hrd]

theorem State.pickLayer_lt {video : Bool} (h : s.pickLayer video = some n) : n < 256 ∧ (video = true → n < 8) := by
  have hfree {m : Nat} (hm : m ∈ s.freeLayers) : m < 256 := List.mem_range.mp (List.mem_filter.mp hm).1
  have hhead {p : Nat → Bool} {m : Nat} (hm : (s.freeLayers.filter p).head? = some m) : m < 256 ∧ p m = true := by
    obtain ⟨hmem, hp⟩ := List.mem_filter.mp (List.mem_of_mem_head? hm)
    exact ⟨hfree hmem, hp⟩
  cases video with
  | true =>
    obtain ⟨hlt, hp⟩ := hhead (h : (s.freeLayers.filter (fun n => decide (n < 8))).head? = some n)
    exact ⟨hlt, fun _ => of_decide_eq_true hp⟩
  | false =>
    refine ⟨?_, by simp⟩
    simp only [State.pickLayer] at h
    cases hm : (s.freeLayers.filter (fun n => decide (8 ≤ n))).head? with
    | some m =>
      simp only [hm, Bool.false_eq_true, if_false, Option.some.injEq] at h
      exact h ▸ (hhead hm).1
    | none =>
      simp only [hm, Bool.false_eq_true, if_false] at h
      exact hfree (List.mem_of_mem_head? h)

/-- A layer bound to a slot of a context, as LAYER_ALLOCATE leaves it with its answer (R90). -/
def State.bindLayer (s : State) (c slot n have_ : Nat) : State :=
  let v := { s with hif := { s.hif with slots := tset s.hif.slots (slotKey c slot) n } }
  (((v.put (CMP_LYR_OWNER.CTX n) c).put (CMP_LYR_OWNER.HELD n) 1).put (HIF_CTX_STATUS.LAYERS c) (have_ + 1)).layerResult c slot n 1

theorem State.bindLayer_bound (have_ : Nat) (hc : c < 1024) (hs : slot < 64) (hn : n < 256) :
    let t := s.bindLayer c slot n have_
    t.layerAt c slot = some n ∧ t.holder n = some c ∧ t.rdN (HIF_CTX_LAYER_RESULT c) = slot + n * 2 ^ 8 + 1 * 2 ^ 16 := by
  refine ⟨tfind_tset_same _ _ _, ?_, layerResult_word hs hn (by decide)⟩
  have hne : CMP_LYR_OWNER n ≠ HIF_CTX_STATUS c := by
    rw [show CMP_LYR_OWNER n = _ from if_pos hn, show HIF_CTX_STATUS c = _ from if_pos hc]
    omega
  rw [State.bindLayer, State.layerResult_holder _ _ _ hn, State.holder, State.flag_congr (State.rd_put_other _ _ hne),
    State.get_congr (f := CMP_LYR_OWNER.CTX n) (State.rd_put_other _ _ hne), State.flag, State.get_put_same _ _ _ rfl,
    State.get_put_apart _ _ rfl (by simp [Fld.apart]), State.get_put_same _ _ _ rfl]
  simp only [Nat.mod_eq_of_lt (show c < 2 ^ (9 + 1 - 0) from hc)]
  rfl

/-- The 256 owner registers reset to a layer that no context holds (Table CMP-2). -/
theorem ownerReset_free : ∀ n < 256, bitsOf (regReset (CMP_LYR_OWNER n)).toNat 15 15 = 0 := by decide +kernel

/-- The registers of a dropped layer read their reset values. -/
theorem State.dropLayer_rd {a : Nat} (hlo : CMP_LYR_CTRL n ≤ a) (hhi : a < CMP_LYR_CTRL n + 0x100) :
    (s.dropLayer n).rd a = regReset a := by
  have hfind := tfind_filter s.regs (fun b => !((decide (CMP_LYR_CTRL n ≤ b) && decide (b < CMP_LYR_CTRL n + 0x100)) ||
    (decide (COL_LYR_CTRL n ≤ b) && decide (b < COL_LYR_CTRL n + 0x100)))) a
  have hnone : tfind (s.dropLayer n).regs a = none := by
    refine hfind.trans ?_
    simp [hlo, hhi]
  rw [State.rd, tget, hnone]
  rfl

theorem State.dropLayer_freed (have_ : Nat) (hs : slot < 64) (hn : n < 256) :
    let t := ((s.dropLayer n).put (HIF_CTX_STATUS.LAYERS c) have_).layerResult c slot n 2
    t.hif.slots = s.hif.slots.filter (fun e => e.2 != n) ∧ t.holder n = none ∧
      t.rd (CMP_LYR_CTRL n) = regReset (CMP_LYR_CTRL n) ∧ t.rdN (HIF_CTX_LAYER_RESULT c) = slot + n * 2 ^ 8 + 2 * 2 ^ 16 := by
  have hother {a : Nat} (ha : a < 0x10000000) (v : Nat) :
      (((s.dropLayer n).put (HIF_CTX_STATUS.LAYERS c) v).layerResult c slot n 2).rd a = (s.dropLayer n).rd a := by
    refine (State.rd_wrN_other _ _ ?_).trans (State.rd_put_other _ _ ?_)
    · unfold HIF_CTX_LAYER_RESULT
      split_ifs <;> omega
    · change a ≠ HIF_CTX_STATUS c
      unfold HIF_CTX_STATUS
      split_ifs <;> omega
  have hctrl : CMP_LYR_CTRL n = 0x810000 + 0x100 * n := if_pos hn
  have howner : CMP_LYR_OWNER n = 0x810084 + 0x100 * n := if_pos hn
  refine ⟨rfl, ?_, ?_, layerResult_word hs hn (by decide)⟩
  · have hheld := ownerReset_free n hn
    rw [← State.dropLayer_rd (s := s) (n := n) (by omega) (by omega), ← hother (by omega) have_] at hheld
    simp only [State.holder, State.flag, State.get, hheld]
    rfl
  · rw [hother (by omega), State.dropLayer_rd le_rfl (by omega)]

section
variable (hl : s.live = true) (hs : s.cfg.safeIdle = false) (hx : s.ctxExists c = true) (hw : slot < 64)
include hl hs hx hw

theorem layerAllocate_eq (video : Bool) : doLayerAllocate dt c slot video s =
    let u := s.tick dt
    let have_ := (u.layersOf c).length
    if (u.layerAt c slot).isSome then u.layerResult c slot 0 5
    else if u.get (HIF_CTX_LIMITS_0.LAYER_MAX c) ≤ have_ then u.layerResult c slot 0 4
    else
      match (if (decide (have_ < u.get (HIF_CTX_LIMITS_0.LAYERS c)) && !video) || (decide (u.heldBack < u.freeLayers.length) ||
          (video && decide (have_ < u.get (HIF_CTX_LIMITS_0.LAYERS c)) && decide (u.heldBack ≤ u.freeLayers.length)))
        then u.pickLayer video else none) with
      | none => u.layerResult c slot 0 3
      | some n => u.bindLayer c slot n have_ := by
  have hx' : ((s.tick dt).ctxExists c && decide (slot < 64)) = true := by
    rw [decide_eq_true hw, Bool.and_true]
    exact hx
  exact State.tick_onReachIf dt _ _ hl hs hx'

/-- A request that finds its slot open, the context below its ceiling and a layer to take binds it. -/
theorem layerAllocate_granted {video : Bool} (ho : s.layerAt c slot = none)
    (hm : (s.layersOf c).length < s.get (HIF_CTX_LIMITS_0.LAYER_MAX c))
    (hq : video = false ∧ (s.layersOf c).length < s.get (HIF_CTX_LIMITS_0.LAYERS c) ∨ s.heldBack < s.freeLayers.length)
    (hp : s.pickLayer video = some n) :
    let t := doLayerAllocate dt c slot video s
    t.layerAt c slot = some n ∧ t.holder n = some c ∧ t.rdN (HIF_CTX_LAYER_RESULT c) = slot + n * 2 ^ 8 + 1 * 2 ^ 16 := by
  have hc : c < 1024 := by
    simp only [State.ctxExists, Bool.and_eq_true, decide_eq_true_eq] at hx
    exact hx.1.1.1
  have hq' : ((decide ((s.layersOf c).length < s.get (HIF_CTX_LIMITS_0.LAYERS c)) && !video) ||
      (decide (s.heldBack < s.freeLayers.length) || (video && decide ((s.layersOf c).length < s.get (HIF_CTX_LIMITS_0.LAYERS c)) &&
        decide (s.heldBack ≤ s.freeLayers.length)))) = true := by
    obtain ⟨rfl, hlt⟩ | hlt := hq
    · simp [hlt]
    · simp [hlt]
  have hrun : doLayerAllocate dt c slot video s = (s.tick dt).bindLayer c slot n (s.layersOf c).length := by
    have ho' : ((s.tick dt).layerAt c slot).isSome = false := by
      rw [show (s.tick dt).layerAt c slot = none from ho]
      rfl
    have hm' : ¬ (s.tick dt).get (HIF_CTX_LIMITS_0.LAYER_MAX c) ≤ ((s.tick dt).layersOf c).length := Nat.not_le.mpr hm
    rw [layerAllocate_eq hl hs hx hw]
    simp only [ho', Bool.false_eq_true, if_false, if_neg hm']
    rw [if_pos (by exact hq'), show (s.tick dt).pickLayer video = some n from hp]
    rfl
  rw [hrun]
  exact State.bindLayer_bound _ hc hw (State.pickLayer_lt hp).1

theorem layerAllocate_taken (video : Bool) (ho : s.layerAt c slot = some n) :
    (doLayerAllocate dt c slot video s).hif = s.hif ∧
      (doLayerAllocate dt c slot video s).rdN (HIF_CTX_LAYER_RESULT c) = slot + 5 * 2 ^ 16 := by
  have ho' : ((s.tick dt).layerAt c slot).isSome = true := by
    rw [show (s.tick dt).layerAt c slot = some n from ho]
    rfl
  have hrun : doLayerAllocate dt c slot video s = (s.tick dt).layerResult c slot 0 5 := by
    rw [layerAllocate_eq hl hs hx hw]
    exact if_pos ho'
  rw [hrun]
  exact ⟨rfl, (layerResult_word hw (by decide) (by decide)).trans (by omega)⟩

theorem layerRelease_eq (ho : s.layerAt c slot = some n) : doLayerRelease dt c slot s =
    if s.actFlag (CMP_LYR_CTRL.EN n) then (s.tick dt).layerResult c slot n 6
    else (((s.tick dt).dropLayer n).put (HIF_CTX_STATUS.LAYERS c) ((s.layersOf c).length - 1)).layerResult c slot n 2 := by
  have hx' : ((s.tick dt).ctxExists c && decide (slot < 64)) = true := by
    rw [decide_eq_true hw, Bool.and_true]
    exact hx
  refine (State.tick_onReachIf dt _ _ hl hs hx').trans ?_
  rw [show (s.tick dt).layerAt c slot = some n from ho]
  rfl

theorem layerRelease_inUse (ho : s.layerAt c slot = some n) (hn : n < 256) (he : s.actFlag (CMP_LYR_CTRL.EN n) = true) :
    let t := doLayerRelease dt c slot s
    t.hif = s.hif ∧ t.holder n = s.holder n ∧ t.rdN (HIF_CTX_LAYER_RESULT c) = slot + n * 2 ^ 8 + 6 * 2 ^ 16 := by
  rw [layerRelease_eq hl hs hx hw ho, if_pos he]
  exact ⟨rfl, State.layerResult_holder _ _ _ hn, layerResult_word hw hn (by decide)⟩

theorem layerRelease_freed (ho : s.layerAt c slot = some n) (hn : n < 256) (he : ¬ s.actFlag (CMP_LYR_CTRL.EN n) = true) :
    let t := doLayerRelease dt c slot s
    t.hif.slots = s.hif.slots.filter (fun e => e.2 != n) ∧ t.holder n = none ∧
      t.rd (CMP_LYR_CTRL n) = regReset (CMP_LYR_CTRL n) ∧ t.rdN (HIF_CTX_LAYER_RESULT c) = slot + n * 2 ^ 8 + 2 * 2 ^ 16 := by
  rw [layerRelease_eq hl hs hx hw ho, if_neg he]
  exact State.dropLayer_freed _ hw hn
end

end Sys2Proof.Machine
end

section
/-! Limits of contexts and the number of VFs (R19, R81, R471, R472). -/
namespace Sys2Proof.Machine

variable {s : State} {c dt : Nat}

theorem ofLE_lt (bs : List Byte) : ofLE bs < 256 ^ bs.length := by
  induction bs with
  | nil => decide
  | cons b r ih =>
    have hb : b.toNat < 256 := b.isLt
    rw [ofLE, List.length_cons, Nat.pow_succ]
    omega

theorem leAt_lt (bs : List Byte) (off n : Nat) : leAt bs off n < 256 ^ n :=
  (ofLE_lt _).trans_le (Nat.pow_le_pow_right (by decide) (List.length_take_le n _))

theorem State.clampTo_eq (key want top : Nat) :
    s.clampTo key want top = (if top < want then s.limitEvent devQ key else s, min want top) := by
  unfold State.clampTo
  split
  · next h => rw [Nat.min_eq_right h.le]
  · next h => rw [Nat.min_eq_left (Nat.not_lt.mp h)]

theorem bitsOf_one_bit (n k : Nat) : bitsOf n k k = boolNat (bitAt n k) := by
  rw [bitAt_eq_bitsOf, boolNat]
  have hlt : bitsOf n k k < 2 ^ (k + 1 - k) := bitsOf_lt _ _ _
  rw [Nat.add_sub_cancel_left, Nat.pow_one] at hlt
  split
  · next h => exact eq_of_beq h
  · next h =>
    have : bitsOf n k k ≠ 1 := fun h1 => h (beq_iff_eq.mpr h1)
    omega

/-- A clamp raises its limit event where the ceiling changes what was written. -/
theorem State.clampTo_raised {key want top : Nat} (h : top < want) : Raised 0x0F05 s (s.clampTo key want top).1 := by
  rw [State.clampTo_eq, if_pos h]
  simp [Raised, State.limitEvent_eventCount]

/-- A field of 32 bits written whole reads its bits. -/
theorem State.get_wrN {f : Fld} {v : Nat} (hv : v < 2 ^ 32) : (s.wrN f.reg v).get f = bitsOf v f.hi f.lo := by
  rw [State.get, ← State.rdN, State.rdN_wrN_same, Nat.mod_eq_of_lt hv]

/-- A clamped field written to its register reads the smaller of what was asked and the ceiling, and a ceiling that binds is a
limit event. -/
theorem State.clamp_written {f : Fld} {key want top : Nat} (hlo : f.lo = 0) (hhi : f.hi < 32) (hw : want < 2 ^ (f.hi + 1)) :
    let r := s.clampTo key want top
    (r.1.wrN f.reg r.2).get f = min want top ∧ (top < want → Raised 0x0F05 s (r.1.wrN f.reg r.2)) := by
  have hlt : min want top < 2 ^ (f.hi + 1) := (Nat.min_le_left _ _).trans_lt hw
  refine ⟨?_, fun h => State.clampTo_raised h⟩
  rw [congrArg Prod.snd (s.clampTo_eq _ _ _), State.get_wrN (hlt.trans_le (Nat.pow_le_pow_right (by decide) hhi)), bitsOf, hlo,
    Nat.pow_zero, Nat.div_one, Nat.sub_zero]
  exact Nat.mod_eq_of_lt hlt

section
variable (hl : s.live = true) (hs : s.cfg.safeIdle = false) (hc : c < 1024)
include hl hs hc

theorem ctxLimitsWrite_reaches {i : Nat} (hi : i < 4) (f : State → State) :
    (s.tick dt).onReachIf (decide (c < 1024) && decide (i < 4)) f = f (s.tick dt) :=
  State.tick_onReachIf dt _ f hl hs (by simp [hc, hi])

theorem ctxLimitsWrite_pages (w : Word) :
    let t := doCtxLimitsWrite dt c 1 w s
    t.get (HIF_CTX_LIMITS_1.PAGES c) = min (bitsOf w.toNat 20 0) (s.ctxLim (c / 4) 4 4) ∧
      (s.ctxLim (c / 4) 4 4 < bitsOf w.toNat 20 0 → Raised 0x0F05 s t) := by
  have hrun : doCtxLimitsWrite dt c 1 w s =
      let r := (s.tick dt).clampTo (HIF_CTX_LIMITS_1 c) (bitsOf w.toNat 20 0) (s.ctxLim (c / 4) 4 4)
      r.1.wrN (HIF_CTX_LIMITS_1 c) r.2 := ctxLimitsWrite_reaches hl hs hc (by decide) _
  rw [hrun]
  exact State.clamp_written (s := s.tick dt) (f := HIF_CTX_LIMITS_1.PAGES c) rfl (by simp) (bitsOf_lt _ _ _)

theorem ctxLimitsWrite_fetch (w : Word) :
    let t := doCtxLimitsWrite dt c 2 w s
    t.get (HIF_CTX_LIMITS_2.FETCH_RSV c) = min (bitsOf w.toNat 12 0) (s.ctxLim (c / 4) 8 2) ∧
      (s.ctxLim (c / 4) 8 2 < bitsOf w.toNat 12 0 → Raised 0x0F05 s t) := by
  have hrun : doCtxLimitsWrite dt c 2 w s =
      let r := (s.tick dt).clampTo (HIF_CTX_LIMITS_2 c) (bitsOf w.toNat 12 0) (s.ctxLim (c / 4) 8 2)
      r.1.wrN (HIF_CTX_LIMITS_2 c) r.2 := ctxLimitsWrite_reaches hl hs hc (by decide) _
  rw [hrun]
  exact State.clamp_written (s := s.tick dt) (f := HIF_CTX_LIMITS_2.FETCH_RSV c) rfl (by simp) (bitsOf_lt _ _ _)

theorem ctxLimitsWrite_outputs (w : Word) :
    (doCtxLimitsWrite dt c 3 w s).rdN (HIF_CTX_LIMITS_3 c) = bitsOf w.toNat 19 0 &&& s.ctxLim (c / 4) 0x0C 4 := by
  have hlt : bitsOf w.toNat 19 0 &&& s.ctxLim (c / 4) 0x0C 4 < 2 ^ 20 := Nat.and_le_left.trans_lt (bitsOf_lt _ _ _)
  refine (congrArg (State.rdN · _) (ctxLimitsWrite_reaches hl hs hc (by decide) _)).trans ?_
  exact (State.rdN_wrN_same _ _ _).trans (Nat.mod_eq_of_lt (hlt.trans (by decide)))

/-- What a write of LIMITS_0 stores: LAYERS and LAYER_MAX below their ceilings, a group that the image allows, and ENABLE where
the image gives the context. -/
theorem ctxLimitsWrite_layers (w : Word) : ∃ (u : State) (most group : Nat), most < 2 ^ 8 ∧ group < 2 ^ 6 ∧
    doCtxLimitsWrite dt c 0 w s = u.wrN (HIF_CTX_LIMITS_0 c) (min (bitsOf w.toNat 7 0) (s.ctxLim (c / 4) 1 1) + most * 2 ^ 8 +
      group * 2 ^ 16 + boolNat (bitAt w.toNat 31 && decide (c % 4 < s.ctxLim (c / 4) 0 1)) * 2 ^ 31) := by
  have hlayers : min (bitsOf w.toNat 7 0) (s.ctxLim (c / 4) 1 1) < 2 ^ 8 := (Nat.min_le_left _ _).trans_lt (bitsOf_lt _ _ _)
  have hmax : min (bitsOf w.toNat 15 8) (s.ctxLim (c / 4) 2 1) < 2 ^ 8 := (Nat.min_le_left _ _).trans_lt (bitsOf_lt _ _ _)
  have hgroup : bitsOf w.toNat 21 16 < 2 ^ 6 := bitsOf_lt _ _ _
  have hold : s.get (HIF_CTX_LIMITS_0.GROUP c) < 2 ^ 6 := bitsOf_lt _ _ _
  have hen (en ok : Bool) : (if (en && !ok) = true then false else en) = (en && ok) := by cases en <;> cases ok <;> rfl
  have hrun : doCtxLimitsWrite dt c 0 w s = _ := ctxLimitsWrite_reaches hl hs hc (by decide) _
  simp only [State.clampTo_eq, apply_ite Prod.snd, hen] at hrun
  refine ⟨_, _, _, ?_, ?_, hrun⟩
  · split
    · exact hlayers
    · exact hmax
  · split
    · exact hgroup
    · split
      · exact hgroup
      · exact hold

/-- LAYERS and ENABLE as a write of LIMITS_0 leaves them. -/
theorem ctxLimitsWrite_enable (w : Word) :
    let t := doCtxLimitsWrite dt c 0 w s
    t.get (HIF_CTX_LIMITS_0.LAYERS c) = min (bitsOf w.toNat 7 0) (s.ctxLim (c / 4) 1 1) ∧
      (s.ctxLim (c / 4) 0 1 ≤ c % 4 → t.get (HIF_CTX_LIMITS_0.ENABLE c) = 0) ∧
      (c % 4 < s.ctxLim (c / 4) 0 1 → t.get (HIF_CTX_LIMITS_0.ENABLE c) = bitsOf w.toNat 31 31) := by
  obtain ⟨u, most, group, hmost, hgroup, hrun⟩ := ctxLimitsWrite_layers (dt := dt) hl hs hc w
  have hlayers : min (bitsOf w.toNat 7 0) (s.ctxLim (c / 4) 1 1) < 2 ^ 8 := (Nat.min_le_left _ _).trans_lt (bitsOf_lt _ _ _)
  have hb (b : Bool) : boolNat b < 2 := by cases b <;> decide
  generalize min (bitsOf w.toNat 7 0) (s.ctxLim (c / 4) 1 1) = layers at hlayers hrun ⊢
  have hon := hb (bitAt w.toNat 31 && decide (c % 4 < s.ctxLim (c / 4) 0 1))
  have hword : layers + most * 2 ^ 8 + group * 2 ^ 16 +
      boolNat (bitAt w.toNat 31 && decide (c % 4 < s.ctxLim (c / 4) 0 1)) * 2 ^ 31 < 2 ^ 32 := by omega
  have henable : (doCtxLimitsWrite dt c 0 w s).get (HIF_CTX_LIMITS_0.ENABLE c) =
      boolNat (bitAt w.toNat 31 && decide (c % 4 < s.ctxLim (c / 4) 0 1)) := by
    rw [hrun, State.get_wrN (f := HIF_CTX_LIMITS_0.ENABLE c) hword]
    simp only [bitsOf]
    omega
  refine ⟨?_, fun h => ?_, fun h => ?_⟩
  · rw [hrun, State.get_wrN (f := HIF_CTX_LIMITS_0.LAYERS c) hword]
    simp only [bitsOf]
    omega
  · rw [henable, decide_eq_false (Nat.not_lt.mpr h), Bool.and_false]
    rfl
  · rw [henable, decide_eq_true h, Bool.and_true, bitsOf_one_bit]
end

/-- Settles O28: a request binds its layer or answers its code, a release returns the layer, and each limit is one clamp. -/
theorem layersAndLimits : Obligations.LayersAndLimits := by
  unfold Obligations.LayersAndLimits
  refine ⟨fun dt c slot n s hl hs hx hw ho hm hq hp => ⟨_, rfl, ?_⟩, fun dt c slot n s hl hs hx hw ho hm hq hp => ⟨_, rfl, ?_⟩,
    fun dt c slot n video s hl hs hx hw ho => ⟨_, rfl, ?_⟩, fun dt c slot n s hl hs hx hw ho hn => ⟨_, rfl, ?_⟩,
    fun dt c w s hl hs hc => ⟨⟨_, rfl, ?_⟩, ⟨_, rfl, ?_⟩, ⟨_, rfl, ?_⟩, ⟨_, rfl, ?_⟩⟩, fun dt n s hl hs hn => ⟨_, rfl, ?_⟩⟩
  · exact layerAllocate_granted hl hs hx hw ho hm (.inl ⟨rfl, hq⟩) hp
  · obtain ⟨hat, hholder, hres⟩ := layerAllocate_granted (dt := dt) hl hs hx hw ho hm (.inr hq) hp
    exact ⟨hat, hholder, (State.pickLayer_lt hp).2 rfl, hres⟩
  · exact layerAllocate_taken hl hs hx hw video ho
  · by_cases he : s.actFlag (CMP_LYR_CTRL.EN n) = true
    · exact (if_pos he).mpr (layerRelease_inUse hl hs hx hw ho hn he)
    · exact (if_neg he).mpr (layerRelease_freed hl hs hx hw ho hn he)
  · exact ctxLimitsWrite_pages hl hs hc w
  · exact ctxLimitsWrite_fetch hl hs hc w
  · exact ctxLimitsWrite_outputs hl hs hc w
  · exact ctxLimitsWrite_enable hl hs hc w
  · have hb : (decide (n ≤ (s.tick dt).totalVfs) && !(s.tick dt).cfg.safeIdle) = true := by
      rw [Bool.and_eq_true]
      exact ⟨decide_eq_true hn, by rw [State.tick_cfg, hs]; rfl⟩
    have hrun : doVfEnable dt n s = ((s.tick dt).put HIF_STATUS.NUM_VFS n).pumpHost := by
      rw [doVfEnable, State.tick_onLiveIf dt _ _ hl hb]
    have hpump := Pumped.pumpHost ((s.tick dt).put HIF_STATUS.NUM_VFS n)
    have hlt : n < 2 ^ 8 := hn.trans_lt (leAt_lt _ _ _)
    change (doVfEnable dt n s).get _ = n ∧ (doVfEnable dt n s).hif = _
    rw [hrun]
    refine ⟨?_, hpump.hif_eq⟩
    rw [hpump.get_eq, State.get_put_same _ _ _ rfl]
    exact Nat.mod_eq_of_lt hlt

end Sys2Proof.Machine
end

section
/-! Doorbells, event queues, vectors, host tags and fetch windows (R92, R100 to R103). -/
namespace Sys2Proof.Machine

variable {s t : State} {q f dt : Nat}

/-! ### Vectors -/

/-- A vector of a function that may issue requests: its message goes out, or it is pending while it is masked. -/
def VectorGiven (s : State) (f v : Nat) (t : State) : Prop :=
  if s.vecMasked f v then t.out = s.out ∧ f * 8 + v ∈ t.int.pendVec else t.out = s.out ++ [.msix f v]

theorem State.sendVec_given {v : Nat} (h : s.mayIssueHost f = true) : VectorGiven s f v (s.sendVec f v) := by
  unfold VectorGiven State.sendVec
  rw [h, Bool.not_true, Bool.or_false]
  by_cases hm : s.vecMasked f v = true
  · rw [if_pos hm, if_pos hm]
    by_cases hc : s.int.pendVec.contains (f * 8 + v) = true
    · rw [if_pos hc]
      exact ⟨rfl, List.contains_iff_mem.mp hc⟩
    · rw [if_neg hc]
      exact ⟨rfl, List.mem_append_right _ (List.mem_singleton_self _)⟩
  · rw [if_neg hm, if_neg hm]
    rfl

/-- Giving a vector sends at most a message: no register, queue or event moves. -/
theorem State.sendVec_pumped (s : State) (f v : Nat) : Pumped s (s.sendVec f v) := by
  unfold State.sendVec
  exact Pumped.ite (Pumped.ite (.refl s) (Pumped.pendVec _)) (Pumped.send (by simp))

@[simp] theorem State.queue_setQueue (x : QueueSt) : (s.setQueue q x).queue q = x := tget_tset_same _ _ _ _

theorem State.signal_given (h : s.mayIssueHost (queueFn q) = true) :
    ((s.signal q).queue q) = { s.queue q with unsignalled := 0 } ∧ VectorGiven s (queueFn q) (queueVector q) (s.signal q) :=
  ⟨State.queue_setQueue _, State.sendVec_given (v := queueVector q) h⟩

theorem State.signal_rd (a : Nat) : (s.signal q).rd a = s.rd a := (s.sendVec_pumped _ _).rd_eq a

theorem State.signal_held : (s.signal q).int.held = s.int.held := (s.sendVec_pumped _ _).held_eq

theorem State.signal_out : ∃ r, (s.signal q).out = s.out ++ r := by
  obtain ⟨ms, hms, -⟩ := (s.sendVec_pumped (queueFn q) (queueVector q)).out_eq
  exact ⟨ms, hms⟩

/-! ### The oldest held event of a queue leaves INT -/

/-- The registers of a queue: its base, configuration and tail. -/
def queueRegs (q : Nat) : List Nat :=
  if q = devQ then [HIF_DEVQ_BASE_LO, HIF_DEVQ_BASE_HI, HIF_DEVQ_CFG, HIF_DEVQ_TAIL]
  else [HIF_CTX_EVQ_BASE_LO q, HIF_CTX_EVQ_BASE_HI q, HIF_CTX_EVQ_CFG q, HIF_CTX_EVQ_TAIL q]

/-- A queue is the same in two states: its registers and what the device keeps of it. -/
def QueueSame (q : Nat) (s t : State) : Prop := (∀ a ∈ queueRegs q, t.rd a = s.rd a) ∧ t.hif.queues = s.hif.queues

section
variable (h : QueueSame q s t)
include h

theorem QueueSame.queue_eq : t.queue q = s.queue q := by rw [State.queue, h.2, State.queue]

theorem QueueSame.cfg_eq : t.queueCfg q = s.queueCfg q := by
  have hr := h.1
  unfold queueRegs at hr
  unfold State.queueCfg State.rdN
  split
  · next hq => rw [hr _ (by simp [hq])]
  · next hq => rw [hr _ (by simp [hq])]

theorem QueueSame.base_eq : t.queueBase q = s.queueBase q := by
  have hr := h.1
  unfold queueRegs at hr
  unfold State.queueBase State.rdN
  split
  · next hq => rw [hr HIF_DEVQ_BASE_LO (by simp [hq]), hr HIF_DEVQ_BASE_HI (by simp [hq])]
  · next hq => rw [hr (HIF_CTX_EVQ_BASE_LO q) (by simp [hq]), hr (HIF_CTX_EVQ_BASE_HI q) (by simp [hq])]

theorem QueueSame.tail_eq : t.queueTail q = s.queueTail q := by
  have hr := h.1
  unfold queueRegs at hr
  unfold State.queueTail
  split
  · next hq => exact State.get_congr (hr HIF_DEVQ_TAIL (by simp [hq]))
  · next hq => exact State.get_congr (hr (HIF_CTX_EVQ_TAIL q) (by simp [hq]))

theorem QueueSame.size_eq : t.queueSize q = s.queueSize q := by rw [State.queueSize, h.cfg_eq, State.queueSize]

theorem QueueSame.full_eq : t.queueFull q = s.queueFull q := by
  simp only [State.queueFull, h.queue_eq, h.tail_eq]
end

theorem queueRegs_apart {a : Nat} (ha : a ∈ queueRegs q) (hf : f < 256) :
    a ≠ INT_STATUS ∧ a ≠ HIF_FN_STATUS f ∧ a ≠ HIF_DEVQ_DROPS ∧ a ≠ HIF_CTX_EVQ_DROPS q := by
  have hfs : HIF_FN_STATUS f = 0x302004 + 0x10 * f := if_pos hf
  rw [hfs]
  unfold HIF_CTX_EVQ_DROPS INT_STATUS HIF_DEVQ_DROPS
  unfold queueRegs HIF_CTX_EVQ_BASE_LO HIF_CTX_EVQ_BASE_HI HIF_CTX_EVQ_CFG HIF_CTX_EVQ_TAIL HIF_DEVQ_BASE_LO HIF_DEVQ_BASE_HI
    HIF_DEVQ_CFG HIF_DEVQ_TAIL at ha
  by_cases hq : q = devQ
  · simp only [hq, if_true, List.mem_cons, List.not_mem_nil, or_false] at ha
    split_ifs <;> omega
  · simp only [hq, if_false, List.mem_cons, List.not_mem_nil, or_false] at ha
    split_ifs at ha ⊢ <;> omega

/-- What a function may do to the host is the same in two states. -/
def HostSame (f : Nat) (s t : State) : Prop :=
  t.flag (HIF_FN_STATUS.ME f) = s.flag (HIF_FN_STATUS.ME f) ∧ t.flag HIF_STATUS.LINK_UP = s.flag HIF_STATUS.LINK_UP ∧
    t.hif.tags = s.hif.tags ∧ t.hif.msix = s.hif.msix

theorem HostSame.trans {u : State} (h1 : HostSame f s t) (h2 : HostSame f t u) : HostSame f s u :=
  ⟨h2.1.trans h1.1, h2.2.1.trans h1.2.1, h2.2.2.1.trans h1.2.2.1, h2.2.2.2.trans h1.2.2.2⟩

theorem HostSame.mayIssue_eq (h : HostSame f s t) : t.mayIssueHost f = s.mayIssueHost f := by
  obtain ⟨hme, hlink, htags, -⟩ := h
  simp only [State.mayIssueHost, State.fnCanHost, State.tagCount, hme, hlink, htags]

theorem HostSame.masked_eq (h : HostSame f s t) (v : Nat) : t.vecMasked f v = s.vecMasked f v := by
  simp only [State.vecMasked, State.msixWord, h.2.2.2]

theorem HostSame.of_rd {a : Nat} (hrd : ∀ b, b ≠ a → t.rd b = s.rd b) (ha : a ≠ HIF_FN_STATUS f ∧ a ≠ HIF_STATUS)
    (hh : t.hif.tags = s.hif.tags ∧ t.hif.msix = s.hif.msix) : HostSame f s t :=
  ⟨State.flag_congr (hrd _ ha.1.symm), State.flag_congr (hrd _ ha.2.symm), hh.1, hh.2⟩

theorem dropFirst_sublist (q : Nat) (l : List HeldEvent) : (dropFirst q l).Sublist l := by
  induction l with
  | nil => exact .refl _
  | cons h r ih =>
    unfold dropFirst
    split
    · exact List.sublist_cons_self h r
    · exact ih.cons_cons h

/-- The oldest event held for a queue of a function within its 64 leaves INT; nothing else does. -/
theorem State.unhold_spec (hf : queueFn q < 256) (hb : s.heldBlocked (queueFn q) ≤ 64) :
    (s.unhold q).int.held = dropFirst q s.int.held ∧ (s.unhold q).out = s.out ∧ (s.unhold q).hif = s.hif ∧
      (s.unhold q).now = s.now ∧ QueueSame q s (s.unhold q) ∧ HostSame (queueFn q) s (s.unhold q) := by
  let u := ({ s with int := { s.int with held := dropFirst q s.int.held } }).put INT_STATUS.PENDING (dropFirst q s.int.held).length
  have hne : HIF_FN_STATUS (queueFn q) = 0x302004 + 0x10 * queueFn q := if_pos hf
  have hwritable (p : Nat) : u.queueWritable p = s.queueWritable p := by
    have hrd {a : Nat} (ha : a ≠ INT_STATUS) : u.rd a = s.rd a := State.rd_put_other _ _ ha
    have hme : u.flag (HIF_FN_STATUS.ME (queueFn p)) = s.flag (HIF_FN_STATUS.ME (queueFn p)) := by
      refine State.flag_congr (hrd ?_)
      change HIF_FN_STATUS (queueFn p) ≠ _
      unfold HIF_FN_STATUS INT_STATUS
      split_ifs <;> omega
    have hcfg : HIF_CTX_EVQ_CFG p ≠ INT_STATUS := by
      unfold HIF_CTX_EVQ_CFG INT_STATUS
      split_ifs <;> omega
    simp only [State.queueWritable, State.fnCanHost, State.queueCfg, State.rdN, hme, hrd hcfg,
      hrd (show HIF_DEVQ_CFG ≠ INT_STATUS by decide), State.flag_congr (f := HIF_STATUS.LINK_UP) (hrd (by decide))]
    rfl
  have hblocked : u.heldBlocked (queueFn q) ≤ 64 := by
    refine le_trans ?_ hb
    simp only [State.heldBlocked, hwritable]
    exact ((dropFirst_sublist q s.int.held).filter _).length_le
  have hrun : s.unhold q = u.put (HIF_FN_STATUS.HELD (queueFn q)) (min 64 (u.heldBlocked (queueFn q))) := by
    have htrim : u.trimHeld (queueFn q) = u := if_pos hblocked
    rw [State.unhold, State.showHeld, htrim]
  rw [hrun]
  refine ⟨rfl, rfl, rfl, rfl, ⟨fun a ha => ?_, rfl⟩, ⟨?_, ?_, rfl, rfl⟩⟩
  · obtain ⟨hint, hfn, -, -⟩ := queueRegs_apart ha hf
    exact (State.rd_put_other _ _ hfn).trans (State.rd_put_other _ _ hint)
  · rw [State.flag_put_apart _ _ rfl (by simp [Fld.apart])]
    exact State.flag_congr (State.rd_put_other _ _ (show HIF_FN_STATUS (queueFn q) ≠ INT_STATUS by rw [hne]; unfold INT_STATUS; omega))
  · refine State.flag_congr ((State.rd_put_other _ _ ?_).trans (State.rd_put_other _ _ (by decide)))
    change HIF_STATUS ≠ HIF_FN_STATUS (queueFn q)
    rw [hne]
    unfold HIF_STATUS
    omega

end Sys2Proof.Machine
end

section
/-! The commands of queues, vectors, host tags and fetch windows (R92, R100 to R103). -/
namespace Sys2Proof.Machine

variable {s t : State} {q f c dt : Nat}

/-! ### Doorbells -/

theorem State.accessEvent_raised (w k n : Nat) : Raised 0x0F06 s (s.accessEvent w k n) := by
  simp [Raised, State.accessEvent_eventCount]

theorem cmdqDoorbell_rings (tail : Nat) (hl : s.live = true) (hs : s.cfg.safeIdle = false) :
    let t := doCmdqDoorbell dt c tail s
    if s.ctxExists c then tfind t.hif.cmdTail c = some (tail % 2 ^ 12) ∧ t.hif.queues = s.hif.queues
    else t.hif = s.hif ∧ Raised 0x0F06 s t := by
  rw [doCmdqDoorbell, State.tick_onReach dt _ hl hs]
  by_cases hx : s.ctxExists c = true
  · refine (if_pos hx).mpr ?_
    rw [show (s.tick dt).ctxExists c = true from hx, if_pos rfl]
    have hp := Pumped.pumpHost { s.tick dt with hif := { (s.tick dt).hif with
      cmdTail := tset (s.tick dt).hif.cmdTail c (tail % 2 ^ 12) } }
    exact ⟨(congrArg (tfind · c) hp.cmdTail_eq).trans (tfind_tset_same _ _ _), hp.queues_eq⟩
  · refine (if_neg hx).mpr ?_
    rw [show (s.tick dt).ctxExists c = false from eq_false_of_ne_true hx, if_neg (by decide)]
    exact ⟨State.accessEvent_hif _ _ _ _, State.accessEvent_raised (s := s.tick dt) _ _ _⟩

theorem evqDoorbell_rings (head : Nat) (hl : s.live = true) (hs : s.cfg.safeIdle = false) :
    let t := doEvqDoorbell dt q head s
    if q = devQ ∨ s.ctxExists q = true then
      (t.queue q).head = head % 2 ^ 17 ∧ (q = devQ → t.get HIF_DEVQ_HEAD.HEAD = head % 2 ^ 17)
    else t.hif = s.hif ∧ Raised 0x0F06 s t := by
  rw [doEvqDoorbell, State.tick_onReach dt _ hl hs]
  by_cases hq : q = devQ
  · refine (if_pos (.inl hq)).mpr ?_
    rw [if_pos hq]
    exact ⟨congrArg QueueSt.head (State.queue_setQueue (s := s.tick dt) _), fun _ => State.get_put_same _ _ _ rfl⟩
  · rw [if_neg hq]
    by_cases hx : s.ctxExists q = true
    · refine (if_pos (.inr hx)).mpr ?_
      rw [show (s.tick dt).ctxExists q = true from hx, if_pos rfl]
      exact ⟨congrArg QueueSt.head (State.queue_setQueue (s := s.tick dt) _), fun h => absurd h hq⟩
    · refine (if_neg (by simp [hq, hx])).mpr ?_
      rw [show (s.tick dt).ctxExists q = false from eq_false_of_ne_true hx, if_neg (by decide)]
      exact ⟨State.accessEvent_hif _ _ _ _, State.accessEvent_raised (s := s.tick dt) _ _ _⟩

/-! ### Event queues -/

/-- The oldest event of a full queue is dropped: the overflow flag waits, and the alert vector is given. -/
def State.dropOnFull (s : State) (q : Nat) : State :=
  let w := if q = devQ then s.inc HIF_DEVQ_DROPS.COUNT else s.inc (HIF_CTX_EVQ_DROPS.COUNT q)
  (w.setQueue q { w.queue q with overflow := true }).sendVec (queueFn q) 4

theorem State.dropOnFull_spec (hf : queueFn q < 256) (hm : s.mayIssueHost (queueFn q) = true) :
    let t := s.dropOnFull q
    t.int.held = s.int.held ∧ (t.queue q).overflow = true ∧ t.queueTail q = s.queueTail q ∧ VectorGiven s (queueFn q) 4 t := by
  let w := if q = devQ then s.inc HIF_DEVQ_DROPS.COUNT else s.inc (HIF_CTX_EVQ_DROPS.COUNT q)
  let x := w.setQueue q { w.queue q with overflow := true }
  have hw : ∃ f v, w = s.put f v ∧ (f.reg = HIF_DEVQ_DROPS ∨ f.reg = HIF_CTX_EVQ_DROPS q) := by
    by_cases hq : q = devQ
    · exact ⟨HIF_DEVQ_DROPS.COUNT, _, if_pos hq, .inl rfl⟩
    · exact ⟨HIF_CTX_EVQ_DROPS.COUNT q, _, if_neg hq, .inr rfl⟩
  obtain ⟨g, v, hw, hg⟩ := hw
  have hrd {a : Nat} (h1 : a ≠ HIF_DEVQ_DROPS) (h2 : a ≠ HIF_CTX_EVQ_DROPS q) : x.rd a = s.rd a := by
    change w.rd a = s.rd a
    rw [hw]
    exact State.rd_put_other _ _ (by rcases hg with hg | hg <;> rwa [hg])
  have hne : HIF_FN_STATUS (queueFn q) ≠ HIF_DEVQ_DROPS ∧ HIF_FN_STATUS (queueFn q) ≠ HIF_CTX_EVQ_DROPS q ∧
      HIF_STATUS ≠ HIF_CTX_EVQ_DROPS q := by
    rw [show HIF_FN_STATUS (queueFn q) = 0x302004 + 0x10 * queueFn q from if_pos hf]
    unfold HIF_DEVQ_DROPS HIF_CTX_EVQ_DROPS HIF_STATUS
    split_ifs <;> omega
  have hhost : HostSame (queueFn q) s x := by
    refine ⟨State.flag_congr (hrd hne.1 hne.2.1), State.flag_congr (hrd (by decide) hne.2.2), ?_, ?_⟩
    · exact congrArg (·.hif.tags) hw
    · exact congrArg (·.hif.msix) hw
  have hp := x.sendVec_pumped (queueFn q) 4
  have hgiven := State.sendVec_given (s := x) (v := 4) (hhost.mayIssue_eq.trans hm)
  refine ⟨hp.held_eq.trans (congrArg (·.int.held) hw), ?_, ?_, ?_⟩
  · exact congrArg QueueSt.overflow ((congrArg (tget QueueSt.init · q) hp.queues_eq).trans (State.queue_setQueue _))
  · have htail : x.queueTail q = s.queueTail q := QueueSame.tail_eq (s := { s with hif := x.hif })
      ⟨fun a ha => hrd (queueRegs_apart ha hf).2.2.1 (queueRegs_apart ha hf).2.2.2, rfl⟩
    refine Eq.trans ?_ htail
    unfold State.queueTail
    rw [show (s.dropOnFull q).get HIF_DEVQ_TAIL.TAIL = x.get HIF_DEVQ_TAIL.TAIL from hp.get_eq _,
      show (s.dropOnFull q).get (HIF_CTX_EVQ_TAIL.TAIL q) = x.get (HIF_CTX_EVQ_TAIL.TAIL q) from hp.get_eq _]
  · unfold VectorGiven at hgiven ⊢
    rw [hhost.masked_eq] at hgiven
    rwa [show x.out = s.out from congrArg (·.out) hw] at hgiven

/-- The oldest event of a queue with room is written at the tail, and the vector is given once enough entries stand. -/
def State.writeEvent (s : State) (q : Nat) (h : HeldEvent) : State :=
  let x := s.queue q
  let tail := s.queueTail q
  let v1 := s.send (.hostWrite (queueFn q) none (s.queueBase q + 32 * (tail % 2 ^ 16))
    ({ h.ev with overflow := x.overflow } : Event).bytes)
  let v2 := v1.setQueueTail q (nextIndex (v1.queueSize q) tail)
  let x2 := { x with
    overflow := false
    unsignalled := x.unsignalled + 1
    firstTime := if x.unsignalled = 0 then v2.now else x.firstTime }
  let v3 := v2.setQueue q x2
  let modCount := bitsOf (v3.queueCfg q) 23 16
  if modCount = 0 ∨ modCount ≤ x2.unsignalled then v3.signal q else v3

theorem State.setQueueTail_tail (v : Nat) : (s.setQueueTail q v).queueTail q = v % 2 ^ 17 := by
  unfold State.setQueueTail State.queueTail
  split
  · exact State.get_put_same _ _ _ rfl
  · exact State.get_put_same _ _ _ rfl

theorem State.setQueueTail_held (v : Nat) : (s.setQueueTail q v).int.held = s.int.held := by
  unfold State.setQueueTail
  split <;> rfl

theorem State.setQueueTail_out (v : Nat) : (s.setQueueTail q v).out = s.out := by
  unfold State.setQueueTail
  split <;> rfl

theorem State.queueTail_congr (h : ∀ a, t.rd a = s.rd a) : t.queueTail q = s.queueTail q := by
  unfold State.queueTail
  rw [State.get_congr (h _), State.get_congr (h _)]

theorem State.writeEvent_spec (h : HeldEvent) :
    let t := s.writeEvent q h
    t.int.held = s.int.held ∧ (∃ r, t.out = s.out ++ .hostWrite (queueFn q) none (s.queueBase q + 32 * (s.queueTail q % 2 ^ 16))
        ({ h.ev with overflow := (s.queue q).overflow } : Event).bytes :: r) ∧
      t.queueTail q = nextIndex (s.queueSize q) (s.queueTail q) % 2 ^ 17 ∧ (t.queue q).overflow = false := by
  let m : OutMsg := .hostWrite (queueFn q) none (s.queueBase q + 32 * (s.queueTail q % 2 ^ 16))
    ({ h.ev with overflow := (s.queue q).overflow } : Event).bytes
  let v2 := (s.send m).setQueueTail q (nextIndex (s.queueSize q) (s.queueTail q))
  obtain ⟨x2, hx2, hrun⟩ : ∃ x2 : QueueSt, x2.overflow = false ∧
      (s.writeEvent q h = (v2.setQueue q x2).signal q ∨ s.writeEvent q h = v2.setQueue q x2) := by
    refine ⟨_, ?_, ite_eq_or_eq _ _ _⟩
    rfl
  have hheld : (v2.setQueue q x2).int.held = s.int.held := State.setQueueTail_held _
  have hout : (v2.setQueue q x2).out = s.out ++ [m] := State.setQueueTail_out _
  have htail : (v2.setQueue q x2).queueTail q = nextIndex (s.queueSize q) (s.queueTail q) % 2 ^ 17 := State.setQueueTail_tail _
  dsimp only
  rcases hrun with hrun | hrun <;> rw [hrun]
  · obtain ⟨r, hr⟩ := State.signal_out (s := v2.setQueue q x2) (q := q)
    refine ⟨State.signal_held.trans hheld, ⟨r, ?_⟩, (State.queueTail_congr State.signal_rd).trans htail, ?_⟩
    · rw [hr, hout, List.append_assoc, List.singleton_append]
    · rw [State.signal, State.queue_setQueue, State.queue_setQueue]
      exact hx2
  · refine ⟨hheld, ⟨[], hout⟩, htail, ?_⟩
    rw [State.queue_setQueue]
    exact hx2

theorem eventQueueWrite_eq {h : HeldEvent} (hl : s.live = true) (hq : s.firstHeld q = some h) (hw : s.queueWritable q = true)
    (hm : s.mayIssueHost (queueFn q) = true) (ht : h.time + 20 * usSteps ≤ s.now + dt) :
    doEventQueueWrite dt q s = if ((s.tick dt).unhold q).queueFull q then ((s.tick dt).unhold q).dropOnFull q
      else ((s.tick dt).unhold q).writeEvent q h := by
  have hgo : ((s.tick dt).queueWritable q && (s.tick dt).mayIssueHost (queueFn q) &&
      decide (h.time + 20 * usSteps ≤ (s.tick dt).now)) = true := by
    rw [decide_eq_true (show h.time + 20 * usSteps ≤ (s.tick dt).now from ht), Bool.and_true, Bool.and_eq_true]
    exact ⟨hw, hm⟩
  unfold doEventQueueWrite
  dsimp only
  rw [show (s.tick dt).firstHeld q = some h from hq]
  dsimp only
  rw [State.tick_onLiveIf dt _ _ hl hgo]
  rfl

theorem eventQueueWrite_writes {h : HeldEvent} (hl : s.live = true) (hn : q < 1024 ∨ q = devQ) (hq : s.firstHeld q = some h)
    (hw : s.queueWritable q = true) (hm : s.mayIssueHost (queueFn q) = true) (hb : s.heldBlocked (queueFn q) ≤ 64)
    (ht : h.time + 20 * usSteps ≤ s.now + dt) :
    let t := doEventQueueWrite dt q s
    t.int.held = dropFirst q s.int.held ∧
      if s.queueFull q then (t.queue q).overflow = true ∧ t.queueTail q = s.queueTail q ∧
        (if s.vecMasked (queueFn q) 4 then t.out = s.out ∧ queueFn q * 8 + 4 ∈ t.int.pendVec
         else t.out = s.out ++ [.msix (queueFn q) 4])
      else (∃ r, t.out = s.out ++ .hostWrite (queueFn q) none (s.queueBase q + 32 * (s.queueTail q % 2 ^ 16))
          ({ h.ev with overflow := (s.queue q).overflow } : Event).bytes :: r) ∧
        t.queueTail q = nextIndex (s.queueSize q) (s.queueTail q) % 2 ^ 17 ∧ (t.queue q).overflow = false := by
  have hf : queueFn q < 256 := by
    unfold queueFn
    split <;> omega
  obtain ⟨hheld, hout, hhif, hnow, hsame, hhost⟩ := State.unhold_spec (s := s.tick dt) (q := q) hf hb
  have hqs : QueueSame q s ((s.tick dt).unhold q) := hsame
  have hhs : HostSame (queueFn q) s ((s.tick dt).unhold q) := hhost
  rw [eventQueueWrite_eq hl hq hw hm ht, hqs.full_eq]
  by_cases hfull : s.queueFull q = true
  · rw [if_pos hfull]
    obtain ⟨hh, hov, htail, hgiven⟩ := State.dropOnFull_spec hf (hhs.mayIssue_eq.trans hm)
    refine ⟨hh.trans hheld, (if_pos hfull).mpr ⟨hov, htail.trans hqs.tail_eq, ?_⟩⟩
    unfold VectorGiven at hgiven
    rwa [hhs.masked_eq, hout] at hgiven
  · rw [if_neg hfull]
    obtain ⟨hh, hr, htail, hov⟩ := State.writeEvent_spec (s := (s.tick dt).unhold q) (q := q) h
    rw [hqs.base_eq, hqs.tail_eq, hqs.queue_eq, hout] at hr
    rw [hqs.size_eq, hqs.tail_eq] at htail
    exact ⟨hh.trans hheld, (if_neg hfull).mpr ⟨hr, htail, hov⟩⟩

end Sys2Proof.Machine
end

section
/-! Host tags that come back stale or not at all, and the end of a fetch window (R92, R103). -/
namespace Sys2Proof.Machine

variable {s t : State} {q f dt : Nat}

theorem State.tagCount_eq (f : Nat) (old : Bool) : s.tagCount f old = s.hif.tags.countP (fun g => g.fn == f && g.old == old) :=
  List.countP_eq_length_filter.symm

/-- What ends with a tag: the tag, and the transaction of a fetch; no event, no byte and no register of the host interface. -/
theorem State.endTag_spec (g : HostTag) : (s.endTag g).hif.tags = s.hif.tags.erase g ∧ (s.endTag g).mem.dram = s.mem.dram ∧
    (s.endTag g).int = s.int ∧ ∀ a, a < 0x400000 → (s.endTag g).rd a = s.rd a := by
  obtain ⟨fn, old, time, user⟩ := g
  cases user with
  | ring c => exact ⟨rfl, rfl, rfl, fun _ _ => rfl⟩
  | fetch e k =>
    refine ⟨rfl, rfl, rfl, fun a ha => ?_⟩
    have heng : a ≠ MEM_ENG_STATUS e := by
      unfold MEM_ENG_STATUS
      split_ifs <;> omega
    have hmem : a ≠ MEM_INFLIGHT := by
      unfold MEM_INFLIGHT
      omega
    exact (State.rd_put_other _ _ hmem).trans ((State.rd_put_other _ _ hmem).trans (State.rd_put_other _ _ heng))

theorem staleCompletion_counts (hl : s.live = true) (hf : f < 256) (hn : 0 < s.tagCount f true) :
    let t := doStaleCompletion dt f s
    t.tagCount f true = s.tagCount f true - 1 ∧ t.get (HIF_FN_STATUS.STALE f) = (s.get (HIF_FN_STATUS.STALE f) + 1) % 2 ^ 16 ∧
      SameBytes s t := by
  have hpick : ∃ g, s.hif.tags.find? (fun g => g.fn == f && g.old) = some g := by
    rw [State.tagCount_eq, List.countP_pos_iff] at hn
    obtain ⟨g, hg, hp⟩ := hn
    exact Option.isSome_iff_exists.mp (List.find?_isSome.mpr ⟨g, hg, by simpa using hp⟩)
  obtain ⟨g, hg⟩ := hpick
  have hrun : doStaleCompletion dt f s = (((s.tick dt).endTag g).inc (HIF_FN_STATUS.STALE f)).pumpHost := by
    rw [doStaleCompletion, State.tick_onLive dt _ hl, show (s.tick dt).hif.tags.find? (fun g => g.fn == f && g.old) = some g from hg]
  have hp := Pumped.pumpHost (((s.tick dt).endTag g).inc (HIF_FN_STATUS.STALE f))
  obtain ⟨htags, hdram, -, hrd⟩ := State.endTag_spec (s := s.tick dt) g
  dsimp only
  rw [hrun]
  refine ⟨?_, ?_, fun a => ?_⟩
  · have hold : (g.fn == f && g.old == true) = true := by simpa using List.find?_some hg
    rw [hp.tagCount_old, State.tagCount_eq, State.tagCount_eq, show (((s.tick dt).endTag g).inc _).hif.tags = _ from htags,
      State.tick_hif, List.countP_erase, if_pos ⟨List.mem_of_find?_eq_some hg, hold⟩]
  · have hlow : HIF_FN_STATUS f < 0x400000 := by
      rw [show HIF_FN_STATUS f = 0x302004 + 0x10 * f from if_pos hf]
      omega
    rw [hp.get_eq, State.inc, State.get_put_same _ _ _ rfl, State.get_congr (f := HIF_FN_STATUS.STALE f) (hrd _ hlow)]
    rfl
  · rw [hp.byteAt_eq]
    exact congrArg (fun d => dramGet d a) hdram

theorem State.transFault_tags (c kind va : Nat) : (s.transFault c kind va).hif.tags = s.hif.tags :=
  congrArg HifSt.tags (State.raiseC_hif _ _ _ _ _ _)

theorem State.transFault_raised (c kind va : Nat) : Raised 0x0F03 s (s.transFault c kind va) := by
  rw [Raised, State.transFault, State.raiseC_eventCount, if_pos rfl]
  rfl

theorem hostCompletionTimeout_frees {old : Bool} {g : HostTag} (hl : s.live = true)
    (hg : s.hif.tags.find? (fun x => x.fn == f && x.old == old && decide (x.time + completionSteps ≤ s.now + dt)) = some g) :
    let t := doHostCompletionTimeout dt f old s
    (∃ r, t.hif.tags = s.hif.tags.erase g ++ r ∧ ∀ x ∈ r, x.old = false) ∧
      ∀ e k m, g.user = .fetch e k → s.mem.reqs.find? (fun x => x.engine == e && x.index == k) = some m → old = false →
        Raised 0x0F03 s t := by
  let v := (s.tick dt).endTag g
  obtain ⟨htags, -, hint, -⟩ := State.endTag_spec (s := s.tick dt) g
  obtain ⟨w, hrun, hw, hfault⟩ : ∃ w : State, doHostCompletionTimeout dt f old s = w.pumpHost ∧
      w.hif.tags = s.hif.tags.erase g ∧
      ∀ e k m, g.user = .fetch e k → s.mem.reqs.find? (fun x => x.engine == e && x.index == k) = some m → old = false →
        Raised 0x0F03 s w := by
    refine ⟨match g.user with
      | .fetch e k =>
        (match s.mem.reqs.find? (fun (r : MemReq) => r.engine == e && r.index == k) with
          | some r => if old then v else v.transFault r.ctx 3 r.va
          | none => v)
      | .ring _ => v, ?_, ?_, ?_⟩
    · rw [doHostCompletionTimeout, State.tick_onLive dt _ hl, show (s.tick dt).hif.tags.find? (fun g => g.fn == f && g.old == old &&
        decide (g.time + completionSteps ≤ (s.tick dt).now)) = some g from hg]
      rfl
    · split
      · split
        · split
          · exact htags
          · exact (State.transFault_tags _ _ _).trans htags
        · exact htags
      · exact htags
    · intro e k m hu hm hold
      simp only [hu, hm, hold, Bool.false_eq_true, if_false]
      have hraise := v.transFault_raised m.ctx 3 m.va
      rwa [Raised, State.eventCount_congr (show v.int = s.int from hint)] at hraise
  dsimp only
  rw [hrun]
  obtain ⟨r, hr, hold⟩ := (Pumped.pumpHost w).tags_eq
  exact ⟨⟨r, by rw [hr, hw], hold⟩, fun e k m hu hm ho => ((Pumped.pumpHost w).eventCount_eq _).trans (hfault e k m hu hm ho)⟩

theorem State.closeWindow_over {e : Nat × Nat} (he : e ∈ s.hif.winDemand)
    (hlt : rsvPixels (s.get (HIF_CTX_LIMITS_2.FETCH_RSV e.1)) (s.now - s.hif.winStart) < e.2) :
    e.1 ∈ s.closeWindow.hif.overPrev :=
  List.mem_map.mpr ⟨e, List.mem_filter.mpr ⟨he, decide_eq_true hlt⟩, rfl⟩

/-- Settles O29: doorbells store their index; the oldest held event is written or dropped; a tag ends once. -/
theorem queuesVectorsAndTags : Obligations.QueuesVectorsAndTags := by
  unfold Obligations.QueuesVectorsAndTags
  refine ⟨fun dt c tail s hl hs => ⟨_, rfl, cmdqDoorbell_rings tail hl hs⟩,
    fun dt q head s hl hs => ⟨_, rfl, evqDoorbell_rings head hl hs⟩,
    fun dt q h s hl hn hq hw hm hb ht => ⟨_, rfl, eventQueueWrite_writes hl hn hq hw hm hb ht⟩,
    fun dt q s hl hm hu ht => ⟨_, rfl, ?_⟩, fun dt f s hl hf hn => ⟨_, rfl, staleCompletion_counts hl hf hn⟩,
    fun dt f old g s hl hg => ⟨_, rfl, hostCompletionTimeout_frees hl hg⟩, fun dt s hl ht => ⟨_, rfl, ?_⟩⟩
  · have hgo : ((s.tick dt).mayIssueHost (queueFn q) && decide (0 < ((s.tick dt).queue q).unsignalled) &&
        decide (((s.tick dt).queue q).firstTime + bitsOf ((s.tick dt).queueCfg q) 31 24 * usSteps ≤ (s.tick dt).now)) = true := by
      rw [Bool.and_eq_true, Bool.and_eq_true]
      exact ⟨⟨hm, decide_eq_true hu⟩, decide_eq_true ht⟩
    have hrun : doMsixModTimeout dt q s = (s.tick dt).signal q := by
      rw [doMsixModTimeout, State.tick_onLiveIf dt _ _ hl hgo]
    obtain ⟨hqueue, hgiven⟩ := State.signal_given (s := s.tick dt) (q := q) hm
    change ((doMsixModTimeout dt q s).queue q).unsignalled = 0 ∧ VectorGiven s (queueFn q) (queueVector q) (doMsixModTimeout dt q s)
    rw [hrun]
    exact ⟨congrArg QueueSt.unsignalled hqueue, hgiven⟩
  · have hend : decide ((s.tick dt).hif.winStart + 10 * usSteps ≤ (s.tick dt).now) = true := decide_eq_true ht
    have hrun : doFetchWindowEnd dt s = (s.tick dt).closeWindow := by
      rw [doFetchWindowEnd, State.tick_onLiveIf dt _ _ hl hend]
    change (doFetchWindowEnd dt s).hif.winDemand = [] ∧ (doFetchWindowEnd dt s).hif.winStart = _ ∧ ∀ e ∈ s.hif.winDemand, _ →
      e.1 ∈ (doFetchWindowEnd dt s).hif.overPrev
    rw [hrun]
    exact ⟨rfl, rfl, fun e he hlt => State.closeWindow_over (s := s.tick dt) he hlt⟩

end Sys2Proof.Machine
end

section
/-! The aperture and the scrubber (R84, R85, R87, R118, R119): which bytes an access stores and reads. -/
namespace Sys2Proof.Machine

variable {s t : State} {fn off dt : Nat}

/-! ### Parts of an access -/

/-- An access within a page has one part. -/
theorem pageParts_single {len : Nat} (h0 : 0 < len) (h1 : off % 65536 + len ≤ 65536) : pageParts off len = [(off, 0, len)] := by
  have hn : (off % 65536 + len + 65535) / 65536 = 1 := by omega
  have ha : max off ((off / 65536 + 0) * 65536) = off := by omega
  have hb : min (off + len) ((off / 65536 + 0 + 1) * 65536) - off = len := by omega
  rw [pageParts, hn, List.range_one, List.map_singleton]
  simp only [ha, hb, Nat.sub_self]

section
variable (hx : s.ctxExists (s.apertureVa fn off).1 = true)
include hx

theorem State.aperturePart_ok {wr : Bool} {m : Mapping}
    (hm : s.translate (s.apertureVa fn off).1 (s.apertureVa fn off).2 wr = .ok m) (hk : m.kind = MapKind.loc) :
    s.aperturePart fn off wr = .ok (m.dpa (s.apertureVa fn off).2) := by
  simp only [State.aperturePart, hx, hm, hk]
  rfl

theorem State.aperturePart_unmapped {wr : Bool} (hm : s.mapping (s.apertureVa fn off).1 (s.apertureVa fn off).2 = none) :
    s.aperturePart fn off wr = .error (s.transFault (s.apertureVa fn off).1 1 (s.apertureVa fn off).2) := by
  simp only [State.aperturePart, hx, State.translate, hm]
  rfl
end

theorem State.aperturePart_absent {wr : Bool} (hx : s.ctxExists (s.apertureVa fn off).1 = false) :
    s.aperturePart fn off wr = .error (s.accessEvent devQ (ctxBase + 0x10000 * (s.apertureVa fn off).1) 5) := by
  simp only [State.aperturePart, hx]
  rfl

/-- A part that reaches a byte address has a LOCAL mapping that allows the access. -/
theorem State.aperturePart_mapped {wr : Bool} {dpa : Nat} (h : s.aperturePart fn off wr = .ok dpa) :
    s.ctxExists (s.apertureVa fn off).1 = true ∧ ∃ m, s.translate (s.apertureVa fn off).1 (s.apertureVa fn off).2 wr = .ok m ∧
      m.kind = MapKind.loc ∧ dpa = m.dpa (s.apertureVa fn off).2 := by
  simp only [State.aperturePart] at h
  split at h
  · cases h
  · next hx =>
    split at h
    · cases h
    · next m hm =>
      split at h
      · next hk => exact ⟨by simpa using hx, m, hm, hk, (Except.ok.inj h).symm⟩
      · cases h

theorem State.aperturePart_error_dram {wr : Bool} (h : s.aperturePart fn off wr = .error t) : t.mem.dram = s.mem.dram := by
  simp only [State.aperturePart] at h
  split at h
  · rw [← Except.error.inj h, State.accessEvent_mem]
  · split at h
    · rw [← Except.error.inj h, State.transFault, State.raiseC_mem]
      rfl
    · split at h
      · cases h
      · rw [← Except.error.inj h, State.transFault, State.raiseC_mem]
        rfl

/-! ### What an access does to memory besides its bytes -/

/-- The stored bytes, the write queues and the stalled writes. -/
def State.stored (s : State) : List Host.Cell × List WriteBlk × List WriteBlk := (s.mem.dram, s.mem.writeQ, s.mem.stalled)

theorem State.memBusy_stored : s.memBusy.stored = s.stored := rfl

theorem State.setTempNeed_stored (need : List Nat) (reqs : List MemReq) :
    ({ s with mem := { s.mem with
      tempNeed := need
      reqs := reqs } }).stored = s.stored := rfl

theorem State.setPc_stored (p : Nat) (x : PcSt) : (s.setPc p x).stored = s.stored := rfl

theorem State.setDomOn_stored (k : Nat) (b : Bool) : (s.setDomOn k b).stored = s.stored := rfl

theorem State.put_stored (f : Fld) (v : Nat) : (s.put f v).stored = s.stored := rfl

theorem foldOver_stored {α : Type} {l : List α} {f : α → State → State} (h : ∀ a t, (f a t).stored = t.stored) (s : State) :
    (foldOver l f s).stored = s.stored := foldOver_keeps State.stored h s

theorem State.wakeStacks_stored (cause : Nat) : (s.wakeStacks cause).stored = s.stored := by
  unfold State.wakeStacks
  dsimp only
  rw [State.memBusy_stored, State.setTempNeed_stored, foldOver_stored (fun _ _ => State.setPc_stored _ _),
    foldOver_stored (fun _ _ => State.setDomOn_stored _ _), State.put_stored, State.put_stored]

theorem State.wakeForHost_stored : s.wakeForHost.stored = s.stored := by
  unfold State.wakeForHost
  split
  · exact State.wakeStacks_stored 2
  · exact State.memBusy_stored

theorem State.wakeForHost_keeps : s.wakeForHost.hif = s.hif ∧ s.wakeForHost.out = s.out ∧ s.wakeForHost.int = s.int := by
  have hf : Fr anyDram anyReg (· = .mem) s s.wakeForHost := by
    apply State.wakeForHost_frame <;> simp (disch := decide)
  exact ⟨hf.frame.2 .hif (by simp), hf.frame.2 .out (by simp), hf.frame.2 .int (by simp)⟩

/-- A write that is offered is queued or stalled. -/
theorem State.acceptWrites_mem {w : WriteBlk} (h : w ∈ s.mem.writeQ ++ s.mem.stalled) :
    w ∈ s.acceptWrites.mem.writeQ ++ s.acceptWrites.mem.stalled := by
  have key : ∀ (l : List WriteBlk) (a : List WriteBlk × List WriteBlk), w ∈ a.1 ++ a.2 ++ l →
      let r := l.foldl (fun (a : List WriteBlk × List WriteBlk) w =>
        let k := s.blockCtl w.block
        if a.2.any (fun x => s.blockCtl x.block == k) ||
            decide (512 ≤ (a.1.filter (fun x => s.blockCtl x.block == k)).length) then (a.1, a.2 ++ [w])
        else (a.1 ++ [w], a.2)) a
      w ∈ r.1 ++ r.2 := by
    intro l
    induction l with
    | nil => intro a ha; simpa using ha
    | cons x r ih =>
      intro a ha
      refine ih _ ?_
      simp only [List.mem_append, List.mem_cons] at ha
      dsimp only
      split <;> simp only [List.mem_append, List.mem_singleton] <;> tauto
  refine key s.mem.stalled (s.mem.writeQ, []) ?_
  simpa using h

theorem State.offerWrite_blocks {dpa n b : Nat} {w : WriteBlk} (h1 : dpa < 64 * (b + 1)) (h2 : 64 * b < dpa + n) :
    ∃ x ∈ (s.offerWrite dpa n w).mem.writeQ ++ (s.offerWrite dpa n w).mem.stalled, x.block = b ∧ x.engine = w.engine := by
  refine ⟨{ w with block := b }, State.acceptWrites_mem ?_, rfl, rfl⟩
  refine List.mem_append_right _ (List.mem_append_right _ (List.mem_map.mpr ⟨b - dpa / 64, ?_, ?_⟩))
  · rw [List.mem_range]
    omega
  · rw [Nat.add_sub_cancel' (by omega)]

/-! ### Writes -/

theorem State.apertureStore_ok {dpa : Nat} {bs : List Byte} (h : s.aperturePart fn off true = .ok dpa) :
    let t := s.apertureStore fn off bs
    t.hif = s.hif ∧ t.out = s.out ∧
      (∀ a, t.byteAt a = if dpa ≤ a ∧ a < dpa + bs.length then nthD bs (a - dpa) 0 else s.byteAt a) ∧
      ∀ b, dpa < 64 * (b + 1) → 64 * b < dpa + bs.length → ∃ w ∈ t.mem.writeQ ++ t.mem.stalled, w.block = b ∧ w.engine = 42 := by
  let u := (s.memWrite dpa bs).offerWrite dpa bs.length ⟨0, 42, 1024, false, none, s.now⟩
  have hrun : s.apertureStore fn off bs = u.wakeForHost := by
    rw [State.apertureStore, h]
  obtain ⟨hdram, hq, hst⟩ : u.wakeForHost.mem.dram = u.mem.dram ∧ u.wakeForHost.mem.writeQ = u.mem.writeQ ∧
      u.wakeForHost.mem.stalled = u.mem.stalled := by
    have hsame := State.wakeForHost_stored (s := u)
    simp only [State.stored, Prod.mk.injEq] at hsame
    exact hsame
  dsimp only
  rw [hrun]
  refine ⟨State.wakeForHost_keeps.1, State.wakeForHost_keeps.2.1, fun a => ?_, fun b h1 h2 => ?_⟩
  · rw [State.byteAt, hdram, nthD, ← List.getD_eq_getElem?_getD]
    exact dramGet_write s.mem.dram dpa a bs
  · rw [hq, hst]
    exact State.offerWrite_blocks (w := ⟨0, 42, 1024, false, none, s.now⟩) h1 h2

theorem apertureWrite_single {bs : List Byte} (hl : s.live = true) (hr : s.mem.refusing = false) (hb : bs ≠ [])
    (hp : off % 65536 + bs.length ≤ 65536) : doApertureWrite dt fn off bs s = (s.tick dt).apertureStore fn off bs := by
  have hgo : (!(s.tick dt).mem.refusing) = true := by rw [State.tick_mem, hr]; rfl
  rw [doApertureWrite, State.tick_onLiveIf dt _ _ hl hgo, pageParts_single (List.length_pos_iff.mpr hb) hp]
  simp only [foldOver, List.foldl_cons, List.foldl_nil, List.drop_zero, List.take_length]

theorem apertureRead_single {len : Nat} (hl : s.live = true) (hr : s.mem.refusing = false) (h0 : 0 < len)
    (hp : off % 65536 + len ≤ 65536) : doApertureRead dt fn off len s =
      let r := (s.tick dt).apertureLoad fn [(off, 0, len)]
      match r.2 with
      | some bs => r.1.send (.readReply fn true bs)
      | none => r.1.send (.readReply fn false []) := by
  have hgo : (!(s.tick dt).mem.refusing) = true := by rw [State.tick_mem, hr]; rfl
  rw [doApertureRead, State.tick_onLiveIf dt _ _ hl hgo, pageParts_single h0 hp] <;> rfl

end Sys2Proof.Machine
end

section
/-! What an access through the aperture answers, and the statement on the aperture and the scrubber (R84, R85, R87). -/
namespace Sys2Proof.Machine

variable {s t : State} {fn off dt : Nat}

/-! ### Mappings stand through an access -/

/-- The registers that say which context and address a part of an access reaches. -/
def apertureRegs (a : Nat) : Prop := a = HIF_STATUS ∨ ∃ c, a = HIF_CTX_LIMITS_0 c ∨ a = HIF_CTX_APERTURE c

/-- The registers that say where an access goes stand, and all parts but MEM and INT. -/
abbrev KeepsTargets (s t : State) : Prop := Fr anyDram (fun a => ¬ apertureRegs a) (fun p => p = .mem ∨ p = .int) s t

theorem not_apertureRegs {a : Nat} (h0 : a ≠ 0x300004) (hl : a < 0x310000 ∨ 0x314000 ≤ a) (hr : a ≠ 0x40015000)
    (hp : a < 0x10000000 ∨ a % 0x10000 ≠ 0x44) (hs : a ≠ 0x40021000) : ¬ apertureRegs a := by
  rintro (rfl | ⟨c, rfl | rfl⟩)
  · exact h0 rfl
  · unfold HIF_CTX_LIMITS_0 at *
    split_ifs at * <;> omega
  · unfold HIF_CTX_APERTURE at *
    split_ifs at * <;> omega

theorem KeepsTargets.store (h : KeepsTargets s t) (bs : List Byte) : KeepsTargets s (t.apertureStore fn off bs) := by
  have hev : Ev (fun a => ¬ apertureRegs a) (fun p => p = .mem ∨ p = .int) := by
    refine ⟨fun a ha => ?_, .inr rfl⟩
    have hb : a = INT_STATUS ∨ a = INT_DROPS ∨ a = INT_SUPPRESSED ∨ a = INT_LOG_STATUS ∨ 0x302000 ≤ a ∧ a < 0x303000 := by
      simpa [evReg, or_assoc] using ha
    unfold INT_STATUS INT_DROPS INT_SUPPRESSED INT_LOG_STATUS at hb
    exact not_apertureRegs (by omega) (by omega) (by omega) (by omega) (by omega)
  refine State.apertureStore_frame dramOk_any _ _ _ _ hev (fun i => ?_) (fun i => ?_) (fun i => ?_) ?_ ?_ (fun i => ?_) (.inl rfl) h
  · unfold HIF_CTX_FAULT_HI
    split_ifs <;> apply not_apertureRegs <;> omega
  · unfold HIF_CTX_FAULT_LO
    split_ifs <;> apply not_apertureRegs <;> omega
  · unfold HIF_CTX_STATUS
    split_ifs <;> apply not_apertureRegs <;> omega
  · unfold MEM_SR_STATUS
    apply not_apertureRegs <;> omega
  · unfold MEM_STATUS
    apply not_apertureRegs <;> omega
  · unfold THM_DOM_ON
    split_ifs <;> apply not_apertureRegs <;> omega

section
variable (h : KeepsTargets s t)
include h

theorem KeepsTargets.rd_eq {a : Nat} (ha : apertureRegs a) : t.rd a = s.rd a := Fr.rd_eq h (not_not_intro ha)

theorem KeepsTargets.apertureVa_eq (fn off : Nat) : t.apertureVa fn off = s.apertureVa fn off := by
  have hbase (c : Nat) : t.get (HIF_CTX_APERTURE.BASE c) = s.get (HIF_CTX_APERTURE.BASE c) :=
    State.get_congr (h.rd_eq (.inr ⟨c, .inr rfl⟩))
  simp only [State.apertureVa, hbase]

theorem KeepsTargets.ctxExists_eq (c : Nat) : t.ctxExists c = s.ctxExists c := by
  have hcfg : t.cfg = s.cfg := h.frame.2 .cfg (by simp)
  have hlim (f off n : Nat) : t.ctxLim f off n = s.ctxLim f off n := by
    simp only [State.ctxLim, State.secLE, State.sec, hcfg]
  have hfn (f : Nat) : t.fnEnabled f = s.fnEnabled f := by
    rw [State.fnEnabled, State.get_congr (f := HIF_STATUS.NUM_VFS) (h.rd_eq (.inl rfl)), State.fnEnabled]
  have hen : t.flag (HIF_CTX_LIMITS_0.ENABLE c) = s.flag (HIF_CTX_LIMITS_0.ENABLE c) :=
    State.flag_congr (h.rd_eq (.inr ⟨c, .inl rfl⟩))
  simp only [State.ctxExists, hlim, hfn, hen]

theorem KeepsTargets.translate_eq (c va : Nat) (wr : Bool) : t.translate c va wr = s.translate c va wr := by
  have hhif : t.hif = s.hif := h.frame.2 .hif (by simp)
  simp only [State.translate, State.mapping, hhif]
end

/-- A part of a write stores nothing at an address that it does not reach. -/
theorem State.apertureStore_byteAt {bs : List Byte} {a n : Nat} (hn : bs.length ≤ n)
    (ha : ∀ m, s.ctxExists (s.apertureVa fn off).1 = true → s.translate (s.apertureVa fn off).1 (s.apertureVa fn off).2 true = .ok m →
      m.kind = MapKind.loc → ¬ (m.dpa (s.apertureVa fn off).2 ≤ a ∧ a < m.dpa (s.apertureVa fn off).2 + n)) :
    (s.apertureStore fn off bs).byteAt a = s.byteAt a := by
  cases hp : s.aperturePart fn off true with
  | error t =>
    rw [State.apertureStore, hp]
    exact congrArg (dramGet · a) (State.aperturePart_error_dram hp)
  | ok dpa =>
    obtain ⟨hx, m, hm, hk, rfl⟩ := State.aperturePart_mapped hp
    have hout := ha m hx hm hk
    rw [(State.apertureStore_ok (bs := bs) hp).2.2.1 a, if_neg (by omega)]

/-- A write over several pages stores nothing outside the parts that LOCAL mappings with WRITE give. -/
theorem apertureStores_byteAt {bs : List Byte} {a : Nat} (l : List (Nat × Nat × Nat))
    (ha : ∀ p ∈ l, ∀ m, s.ctxExists (s.apertureVa fn p.1).1 = true →
      s.translate (s.apertureVa fn p.1).1 (s.apertureVa fn p.1).2 true = .ok m → m.kind = MapKind.loc →
      ¬ (m.dpa (s.apertureVa fn p.1).2 ≤ a ∧ a < m.dpa (s.apertureVa fn p.1).2 + p.2.2)) :
    ∀ t, KeepsTargets s t →
      (foldOver l (fun p v => v.apertureStore fn p.1 ((bs.drop p.2.1).take p.2.2)) t).byteAt a = t.byteAt a := by
  induction l with
  | nil => exact fun _ _ => rfl
  | cons p r ih =>
    intro t ht
    refine (ih (fun p hp => ha p (List.mem_cons_of_mem _ hp)) _ (ht.store _)).trans ?_
    refine State.apertureStore_byteAt (n := p.2.2) (List.length_take_le _ _) (fun m hx hm hk => ?_)
    rw [ht.apertureVa_eq] at hx hm ⊢
    rw [ht.ctxExists_eq] at hx
    rw [ht.translate_eq] at hm
    exact ha p List.mem_cons_self m hx hm hk

/-! ### Reads -/

theorem dramRead_eq_map (m : List Host.Cell) (a n : Nat) : dramRead m a n = (List.range n).map (fun k => dramGet m (a + k)) := by
  induction n generalizing a with
  | zero => rfl
  | succ n ih =>
    rw [dramRead, ih, List.range_succ_eq_map, List.map_cons, List.map_map]
    simp [Function.comp_def, Nat.add_assoc, Nat.add_comm 1]

/-- A read of one page that is answered: the bytes, and of what an answer may change only the wait and the wake. -/
theorem State.apertureLoad_ok {dpa len : Nat} (h : s.aperturePart fn off false = .ok dpa) :
    ∃ w : State, s.apertureLoad fn [(off, 0, len)] = (w, some (dramRead s.mem.dram dpa len)) ∧ w.out = s.out ∧ w.hif = s.hif ∧
      w.mem.dram = s.mem.dram := by
  let u := if (s.waitsFor dpa len).isEmpty then s else s.inc (MEM_CTL_RAW.WAITS (pcController (s.pcAt dpa)))
  have hu : u = s ∨ u = s.inc (MEM_CTL_RAW.WAITS (pcController (s.pcAt dpa))) := ite_eq_or_eq _ _ _
  have hkeep : u.out = s.out ∧ u.hif = s.hif ∧ u.mem = s.mem := by
    rcases hu with hu | hu <;> rw [hu]
    · exact ⟨rfl, rfl, rfl⟩
    · exact ⟨rfl, rfl, rfl⟩
  obtain ⟨hhif, hout, -⟩ := State.wakeForHost_keeps (s := u)
  have hdram : u.wakeForHost.mem.dram = u.mem.dram := congrArg (·.1) (State.wakeForHost_stored (s := u))
  refine ⟨u.wakeForHost, ?_, hout.trans hkeep.1, hhif.trans hkeep.2.1, hdram.trans (congrArg (·.dram) hkeep.2.2)⟩
  rw [State.apertureLoad, h]
  simp only [State.apertureLoad, Option.map_some, List.append_nil]
  rfl

/-- A read of one page that fails leaves its failure and nothing else. -/
theorem State.apertureLoad_error {len : Nat} (h : s.aperturePart fn off false = .error t) :
    s.apertureLoad fn [(off, 0, len)] = (t, none) := by
  rw [State.apertureLoad, h]
  rfl

/-! ### Faults -/

theorem State.transFault_kind (c va : Nat) {kind : Nat} (hk : kind < 16) :
    (s.transFault c kind va).get (HIF_CTX_FAULT_LO.KIND c) = kind := by
  have hev : evReg (HIF_CTX_FAULT_LO c) = false := evReg_high (by unfold HIF_CTX_FAULT_LO; split_ifs <;> omega)
  have hst : HIF_CTX_FAULT_LO c ≠ HIF_CTX_STATUS c := by
    unfold HIF_CTX_FAULT_LO HIF_CTX_STATUS
    split_ifs <;> omega
  have hhi : HIF_CTX_FAULT_LO c ≠ HIF_CTX_FAULT_HI c := by
    unfold HIF_CTX_FAULT_LO HIF_CTX_FAULT_HI
    split_ifs <;> omega
  rw [State.transFault, State.get_raiseC _ _ _ _ _ _ hev, State.incSat,
    State.get_congr (f := HIF_CTX_FAULT_LO.KIND c) (State.rd_put_other _ _ hst),
    State.get_congr (f := HIF_CTX_FAULT_LO.KIND c) (State.rd_put_other _ _ hhi),
    State.get_put_apart _ _ rfl (by simp [Fld.apart]), State.get_put_same _ _ _ rfl]
  exact Nat.mod_eq_of_lt hk

theorem State.transFault_bytes (c kind va : Nat) : SameBytes s (s.transFault c kind va) := by
  intro a
  rw [State.transFault, State.byteAt, State.raiseC_mem]
  rfl

theorem State.transFault_out (c kind va : Nat) : (s.transFault c kind va).out = s.out := State.raiseC_out _ _ _ _ _ _

theorem State.accessEvent_bytes (w key kind : Nat) : SameBytes s (s.accessEvent w key kind) := by
  intro a
  rw [State.byteAt, State.accessEvent_mem, State.byteAt]

/-- Settles O27: one page is one part, and a part stores where its mapping says; several parts by induction on them. -/
theorem apertureAndScrubReachOnlyTheirPages : Obligations.ApertureAndScrubReachOnlyTheirPages := by
  unfold Obligations.ApertureAndScrubReachOnlyTheirPages
  refine ⟨fun dt fn off bs m s hl hr hb hp hx hm hk => ⟨_, rfl, ?_⟩, fun dt fn off bs s => ⟨_, rfl, fun a ha => ?_⟩,
    fun dt fn off len m s hl hr h0 hp hx hm hk => ⟨_, rfl, ?_⟩,
    fun dt fn off bs s hl hr hb hp hx hm => ⟨⟨_, rfl, ?_⟩, ⟨_, rfl, ?_⟩⟩,
    fun dt fn off bs s hl hr hb hp hx => ⟨⟨_, rfl, ?_⟩, ⟨_, rfl, ?_⟩⟩, fun dt page s hl hu hm => ⟨_, rfl, ?_⟩⟩
  · have hpart : (s.tick dt).aperturePart fn off true = .ok (m.dpa (s.apertureVa fn off).2) :=
      State.aperturePart_ok (s := s.tick dt) hx hm hk
    have hrun := apertureWrite_single (dt := dt) (fn := fn) hl hr hb hp
    have hok := State.apertureStore_ok (bs := bs) hpart
    rw [← hrun] at hok
    exact hok
  · have hstore := apertureStores_byteAt (s := s.tick dt) (bs := bs) (pageParts off bs.length) ha (s.tick dt) (Fr.start trivial)
    change (doApertureWrite dt fn off bs s).byteAt a = s.byteAt a
    rw [doApertureWrite, State.onLiveIf]
    split
    · exact hstore
    · rfl
  · have hpart : (s.tick dt).aperturePart fn off false = .ok (m.dpa (s.apertureVa fn off).2) :=
      State.aperturePart_ok (s := s.tick dt) hx hm hk
    obtain ⟨w, hw, hout, hhif, hdram⟩ := State.apertureLoad_ok (len := len) hpart
    have hrun : doApertureRead dt fn off len s =
        w.send (.readReply fn true (dramRead s.mem.dram (m.dpa (s.apertureVa fn off).2) len)) := by
      rw [apertureRead_single hl hr h0 hp, hw]
      rfl
    change (doApertureRead dt fn off len s).out = _ ∧ SameBytes s (doApertureRead dt fn off len s) ∧
      (doApertureRead dt fn off len s).hif = s.hif
    rw [hrun]
    refine ⟨?_, fun a => congrArg (dramGet · a) hdram, hhif⟩
    rw [State.send_out, hout, dramRead_eq_map]
    rfl
  · have hpart := State.aperturePart_unmapped (s := s.tick dt) (wr := true) hx hm
    have hrun : doApertureWrite dt fn off bs s = (s.tick dt).transFault (s.apertureVa fn off).1 1 (s.apertureVa fn off).2 := by
      rw [apertureWrite_single hl hr hb hp, State.apertureStore, hpart]
      rfl
    change SameBytes s (doApertureWrite dt fn off bs s) ∧ Raised 0x0F03 s (doApertureWrite dt fn off bs s) ∧
      (doApertureWrite dt fn off bs s).get _ = 1
    rw [hrun]
    exact ⟨State.transFault_bytes (s := s.tick dt) _ _ _, State.transFault_raised (s := s.tick dt) _ _ _,
      State.transFault_kind _ _ (by decide)⟩
  · have hpart := State.aperturePart_unmapped (s := s.tick dt) (wr := false) hx hm
    have hrun : doApertureRead dt fn off bs.length s =
        ((s.tick dt).transFault (s.apertureVa fn off).1 1 (s.apertureVa fn off).2).send (.readReply fn false []) := by
      rw [apertureRead_single hl hr (List.length_pos_iff.mpr hb) hp, State.apertureLoad_error hpart]
      rfl
    change Raised 0x0F03 s (doApertureRead dt fn off bs.length s) ∧ (doApertureRead dt fn off bs.length s).out = _
    rw [hrun]
    refine ⟨State.transFault_raised (s := s.tick dt) _ _ _, ?_⟩
    rw [State.send_out, State.transFault_out, State.tick_out]
  · have hpart := State.aperturePart_absent (s := s.tick dt) (wr := true) hx
    have hrun : doApertureWrite dt fn off bs s = (s.tick dt).accessEvent devQ (ctxBase + 0x10000 * (s.apertureVa fn off).1) 5 := by
      rw [apertureWrite_single hl hr hb hp, State.apertureStore, hpart]
      rfl
    change SameBytes s (doApertureWrite dt fn off bs s) ∧ Raised 0x0F06 s (doApertureWrite dt fn off bs s) ∧
      (doApertureWrite dt fn off bs s).hif = s.hif
    rw [hrun]
    exact ⟨State.accessEvent_bytes (s := s.tick dt) _ _ _, State.accessEvent_raised (s := s.tick dt) _ _ _,
      State.accessEvent_hif _ _ _ _⟩
  · have hpart := State.aperturePart_absent (s := s.tick dt) (wr := false) hx
    have hrun : doApertureRead dt fn off bs.length s =
        ((s.tick dt).accessEvent devQ (ctxBase + 0x10000 * (s.apertureVa fn off).1) 5).send (.readReply fn false []) := by
      rw [apertureRead_single hl hr (List.length_pos_iff.mpr hb) hp, State.apertureLoad_error hpart]
      rfl
    change Raised 0x0F06 s (doApertureRead dt fn off bs.length s) ∧ (doApertureRead dt fn off bs.length s).out = _
    rw [hrun]
    refine ⟨State.accessEvent_raised (s := s.tick dt) _ _ _, ?_⟩
    rw [State.send_out, State.accessEvent_out, State.tick_out]
  · have hgo : ((s.tick dt).unscrubbed page && (s.tick dt).flag MEM_STATUS.TRAINED) = true := by
      rw [show (s.tick dt).unscrubbed page = true from hu]
      exact State.get_of_flag hm
    change tfind (doPageScrubDone dt page s).hif.pages page = some 0 ∧ ∀ a, (doPageScrubDone dt page s).byteAt a = _
    rw [doPageScrubDone, State.tick_onLiveIf dt _ _ hl hgo]
    exact ⟨tfind_tset_same _ _ _, fun a => dramGet_zero s.mem.dram (page * 65536) 65536 a⟩

end Sys2Proof.Machine
end

section
/-! What a request, a cancel, an admission and the end of a commit leave of the commits and of their registers (R93 to R98). -/
namespace Sys2Proof.Machine

variable {s t u : State} {a b c k lo n st : Nat}

/-! ### The registers of one commit -/

/-- The registers apart from the four of one commit. -/
def offCm (c a : Nat) : Prop := c ≤ 1024 → a < cmReg c ∨ cmReg c + 16 ≤ a

theorem cmReg_pf : cmReg 1024 = 0x300010 := rfl

theorem offCm_of_off (h1 : offSpan 0x300010 0x300020 a) (h2 : offSpan 0x10000000 0x40000000 a) : offCm c a := fun hc => by
  unfold offSpan at h1 h2
  obtain hlt | rfl := Nat.lt_or_eq_of_le hc
  · rw [cmReg_of_lt hlt]
    omega
  · rw [cmReg_pf]
    omega

@[simp] theorem offCm_between (h1 : 0x300020 ≤ a) (h2 : a < 0x10000000) : offCm c a := offCm_of_off (.inr h1) (.inl h2)
@[simp] theorem offCm_family (h1 : 0x300020 ≤ lo) (h2 : lo + st * n ≤ 0x10000000) (hb : 0x40000000 ≤ b) (hs : 0 < st) :
    offCm c (if k < n then lo + st * k else b) :=
  offCm_of_off (offSpan_family (.inr h1) (by omega) hs) (offSpan_family (.inl h2) hb hs)
@[simp] theorem ev_offCm {K : Part → Prop} : Ev (offCm c) K ↔ K .int := by
  refine ⟨fun h => h.2, fun h => ⟨fun a ha => offCm_of_off ?_ ?_, h⟩⟩
  all_goals
    simp only [evReg, INT_STATUS, INT_DROPS, INT_SUPPRESSED, INT_LOG_STATUS, Bool.or_eq_true, Bool.and_eq_true, beq_iff_eq,
      decide_eq_true_eq] at ha
    unfold offSpan
    omega

/-- The registers of another commit. -/
theorem offCm_commit (hne : n ≠ c) (hk : k < 16) : offCm c (cmReg n + k) := fun hc => by
  have hn : cmReg n = if n = 1024 then 0x300010 else if n < 1024 then 0x10000008 + 0x10000 * n else 0x40019000 := rfl
  obtain hlt | rfl := Nat.lt_or_eq_of_le hc
  · rw [cmReg_of_lt hlt, hn]
    split_ifs <;> omega
  · rw [cmReg_pf, hn]
    split_ifs <;> omega

/-- The registers of commit `c` stand. -/
abbrev KeepsCm (c : Nat) (s t : State) : Prop := Fr anyDram (offCm c) anyPart s t

@[simp] theorem keepsCm_refl (c : Nat) (s : State) : KeepsCm c s s := Fr.start trivial

/-- The fields that a commit shows of itself, but for its cause: REQ, STATE, REASON and the status' TAG. -/
def cmFields (c : Nat) : List Fld := [cmReq c, cmState c, cmReason c, cmStTag c]

/-- A commit shows the same in two states. -/
def CmSame (c : Nat) (s t : State) : Prop := ∀ f ∈ cmFields c, t.get f = s.get f

theorem CmSame.refl (c : Nat) (s : State) : CmSame c s s := fun _ _ => rfl

theorem CmSame.trans (h1 : CmSame c s t) (h2 : CmSame c t u) : CmSame c s u := fun f hf => (h2 f hf).trans (h1 f hf)

theorem CmSame.of_keeps (hc : c ≤ 1024) (h : KeepsCm c s t) : CmSame c s t := by
  intro f hf
  refine h.get_eq (fun ho => ?_)
  have hreg : f.reg = cmReg c ∨ f.reg = cmReg c + 8 := by
    simp only [cmFields, List.mem_cons, List.not_mem_nil, or_false] at hf
    rcases hf with rfl | rfl | rfl | rfl <;> simp
  have := ho hc
  omega

/-- Of a commit's status a cause shown anew moves only the cause. -/
theorem CmSame.put_cause (n v : Nat) : CmSame c s (s.put (cmCause n) v) := by
  intro f hf
  have hf' : f = cmReq c ∨ f = cmState c ∨ f = cmReason c ∨ f = cmStTag c := by simpa [cmFields] using hf
  exact State.get_put_apart _ _ rfl (by rcases hf' with rfl | rfl | rfl | rfl <;> simp [Fld.apart])

theorem CmSame.showCommits (s : State) : CmSame c s s.showCommits := by
  unfold State.showCommits
  split
  · exact .refl c s
  · exact foldOver_rel (CmSame.refl c) CmSame.trans (fun n _ t => CmSame.put_cause n _) s

theorem State.showCommits_cm (s : State) (c : Nat) : s.showCommits.cm c = s.cm c := by
  rw [State.cm, State.cm, State.showCommits_hif]

/-! ### The end of a commit -/

/-- What R98 leaves of a commit that ended otherwise than by applying. -/
def EndedWith (c st reason : Nat) (t : State) : Prop :=
  t.cm c = none ∧ (c ≤ 1024 → t.get (cmReq c) = 0 ∧ t.get (cmState c) = st ∧ t.get (cmReason c) = reason)

theorem EndedWith.mono {st reason : Nat} (h : EndedWith c st reason s) (hcm : t.cm c = none) (hs : c ≤ 1024 → CmSame c s t) :
    EndedWith c st reason t := by
  refine ⟨hcm, fun hc => ?_⟩
  obtain ⟨hq, hst, hr⟩ := h.2 hc
  exact ⟨(hs hc _ (by simp [cmFields])).trans hq, (hs hc _ (by simp [cmFields])).trans hst, (hs hc _ (by simp [cmFields])).trans hr⟩

/-- A commit that ends otherwise than by applying raises its event, once its registers stand. -/
theorem State.endCommit_eq {st reason l : Nat} (hst : st < 8) (hne : st ≠ cmApplied) (hr : reason < 16) :
    ∃ (u : State) (ctx tag : Nat), s.endCommit c st reason l false = u.raiseC 0x0F01 ctx tag st l ∧ u.int = s.int ∧
      EndedWith c st reason u := by
  let s1 := { s with hif := { s.hif with commits := tdel s.hif.commits c } }
  let s2 := (((s1.put (cmReq c) 0).put (cmState c) st).put (cmReason c) reason).put (cmCause c) 0
  have h4 : KeepsCm c s2 (s2.showGroup (s.cmGroup c)) := by
    apply State.showGroup_frame <;> simp (disch := decide)
  refine ⟨s2.showGroup (s.cmGroup c), if c = pfCommit then devQ else c, s.get (cmStTag c), ?_, State.putB_int _ _ _, ?_⟩
  · simp only [State.endCommit, if_neg hne, Bool.false_eq_true, if_false]
    rfl
  have hcm : s2.cm c = none := by
    rw [State.cm_eq]
    simp [s2, s1, ↓State.bound_rules, tfind_tdel]
  have hended : EndedWith c st reason s2 := by
    have hq : cmReg c ≠ cmReg c + 8 := by omega
    refine ⟨hcm, fun _ => ⟨?_, ?_, ?_⟩⟩
    · rw [State.get_congr (f := cmReq c) (State.rd_put_other _ _ hq), State.get_congr (f := cmReq c) (State.rd_put_other _ _ hq),
        State.get_congr (f := cmReq c) (State.rd_put_other _ _ hq), State.get_put_same _ _ _ rfl]
      rfl
    · rw [State.get_put_apart _ _ rfl (by simp [Fld.apart]), State.get_put_apart _ _ rfl (by simp [Fld.apart]),
        State.get_put_same _ _ _ rfl]
      exact Nat.mod_eq_of_lt hst
    · rw [State.get_put_apart _ _ rfl (by simp [Fld.apart]), State.get_put_same _ _ _ rfl]
      exact Nat.mod_eq_of_lt hr
  refine hended.mono ?_ (fun hc => .of_keeps hc h4)
  rw [State.cm_eq, State.showGroup_bound]
  exact hcm

theorem State.endCommit_ended {st reason l : Nat} (hst : st < 8) (hne : st ≠ cmApplied) (hr : reason < 16) :
    EndedWith c st reason (s.endCommit c st reason l false) ∧ Raised 0x0F01 s (s.endCommit c st reason l false) := by
  obtain ⟨u, ctx, tag, hrun, hint, hended⟩ := State.endCommit_eq (s := s) (c := c) (l := l) hst hne hr
  have hkeep : KeepsCm c u (u.raiseC 0x0F01 ctx tag st l) := by
    apply State.raiseC_frame <;> simp
  rw [hrun]
  refine ⟨hended.mono ?_ (fun hc => .of_keeps hc hkeep), ?_⟩
  · rw [State.cm_eq, State.raiseC_bound]
    exact hended.1
  · rw [Raised, State.raiseC_eventCount, if_pos rfl, State.eventCount_congr hint]

/-- A commit that has not been admitted fails or is cancelled. -/
theorem State.failCommit_eq {st reason : Nat} (h : s.isAdmitted n = false) :
    s.failCommit n st reason false = (if n = pfCommit then s.dropLoads else s).endCommit n st reason
      (if n = pfCommit then s.dropLoads else s).tim.lfn false := by
  have hna : ((if n = pfCommit then s.dropLoads else s).cm n).any (·.admitted) = false := by
    rw [State.cm_eq]
    split
    · rw [State.dropLoads_bound]
      exact h
    · exact h
  unfold State.failCommit
  extract_lets s1
  rw [if_neg (by rw [hna]; decide)]

theorem State.failCommit_ended {st reason : Nat} (hst : st < 8) (hne : st ≠ cmApplied) (hr : reason < 16) :
    EndedWith c st reason (s.failCommit c st reason false) := (State.endCommit_ended hst hne hr).1

theorem State.failCommit_bound {st reason : Nat} {b : Bool} :
    (s.failCommit n st reason b).bound = (s.bound.1, tdel s.hif.commits n, s.hif.resetting, s.act) := by
  unfold State.failCommit
  extract_lets s1
  have h1 : s1.bound = s.bound := by
    unfold s1
    split
    · exact s.dropLoads_bound
    · rfl
  have h2 : (if (s1.cm n).any (·.admitted) then s1.withdraw n else s1).bound = s.bound := by
    split
    · rw [State.withdraw_bound, h1]
    · exact h1
  rw [State.endCommit_bound]
  simp only [State.bound, Prod.mk.injEq] at h2 ⊢
  obtain ⟨hclock, hcm, hres, hact⟩ := h2
  exact ⟨hclock, by rw [hcm], hres, hact⟩

theorem State.failCommit_other {st reason : Nat} {b : Bool} (hne : n ≠ c) : KeepsCm c s (s.failCommit n st reason b) := by
  have h0 : offCm c (cmReg n) := offCm_commit (k := 0) hne (by decide)
  apply State.failCommit_frame <;> simp (disch := decide) [h0, offCm_commit hne]

/-! ### Admission -/

theorem State.askPass_cm (kind : PassKind) (cs : List Nat) (o c : Nat) : (s.askPass kind cs o).cm c = s.cm c := by
  rw [State.cm_eq, State.askPass_bound, State.cm_eq]

end Sys2Proof.Machine
end

section
/-! Requests, cancels, admission, group timeouts and the decision of commits (R30, R93 to R97). -/
namespace Sys2Proof.Machine

variable {s t u : State} {c dt g tag : Nat} {atLfn : Bool}

/-! ### Requests -/

/-- The target of a request, where it names an LF. -/
def State.target (s : State) (c : Nat) (atLfn : Bool) : Option Nat := if atLfn then some (s.rdN (cmReg c + 4)) else none

theorem State.target_passed {v : Bool} (ht : lfnAfter (s.rdN (cmReg c + 4)) s.tim.lfn = v) :
    (s.target c true).any (fun a => !lfnAfter a s.tim.lfn) = !v := by
  rw [State.target, if_pos rfl, Option.any_some, ht]

/-- A request stands in its registers and among the commits. -/
def State.requested (s : State) (c : Nat) (atLfn : Bool) (tag : Nat) : State :=
  ((((((s.putB (cmAtLfn c) atLfn).put (cmTag c) tag).put (cmStTag c) tag).put (cmState c) cmPending).put (cmReason c) 0).put
    (cmCause c) 0).setCm c { admitted := false, decided := false, since := s.tim.lfn, target := s.target c atLfn, outputs := [] }

theorem State.requested_cm : (s.requested c atLfn tag).cm c = some ⟨false, false, s.tim.lfn, s.target c atLfn, []⟩ :=
  tfind_tset_same _ _ _

theorem State.requested_shows : (s.requested c atLfn tag).get (cmState c) = 1 ∧
    (s.requested c atLfn tag).get (cmStTag c) = tag % 2 ^ 16 := by
  have hset (v : State) (x : CommitSt) (f : Fld) : (v.setCm c x).get f = v.get f := rfl
  constructor
  · rw [State.requested, hset, State.get_put_apart _ _ rfl (by simp [Fld.apart]), State.get_put_apart _ _ rfl (by simp [Fld.apart]),
      State.get_put_same _ _ _ rfl]
    rfl
  · rw [State.requested, hset, State.get_put_apart _ _ rfl (by simp [Fld.apart]), State.get_put_apart _ _ rfl (by simp [Fld.apart]),
      State.get_put_apart _ _ rfl (by simp [Fld.apart]), State.get_put_same _ _ _ rfl]
    rfl

theorem State.commits?_le (h : s.commits? c = true) : c ≤ 1024 := by
  simp only [State.commits?, State.ctxExists, Bool.or_eq_true, Bool.and_eq_true, beq_iff_eq, decide_eq_true_eq] at h
  rcases h with rfl | h
  · exact le_rfl
  · exact h.1.1.1.le

theorem commitRequest_eq (hl : s.live = true) (hs : s.cfg.safeIdle = false) (hc : s.commits? c = true) (hn : s.cm c = none) :
    doCommitRequest dt c atLfn tag s =
      let v := (s.tick dt).requested c atLfn tag
      if (s.target c atLfn).any (fun a => !lfnAfter a s.tim.lfn) then v.endCommit c cmFailed 3 s.tim.lfn false
      else ((if c = pfCommit then (v.put (cmReq c) 1).startTables else v.put (cmReq c) 1).showGroup (v.cmGroup c)).showCommits := by
  have hhas : thas (s.tick dt).hif.commits c = false := by
    rw [thas, show tfind (s.tick dt).hif.commits c = none from hn]
    rfl
  have hrd : (((((((s.tick dt).putB (cmAtLfn c) atLfn).put (cmTag c) tag).put (cmStTag c) tag).put (cmState c) cmPending).put
      (cmReason c) 0).put (cmCause c) 0).rdN (cmReg c + 4) = s.rdN (cmReg c + 4) := by
    have h8 : cmReg c + 4 ≠ cmReg c + 8 := by omega
    have h0 : cmReg c + 4 ≠ cmReg c := by omega
    simp only [State.rdN, State.putB]
    rw [State.rd_put_other _ _ h8, State.rd_put_other _ _ h8, State.rd_put_other _ _ h8, State.rd_put_other _ _ h8,
      State.rd_put_other _ _ h0, State.rd_put_other _ _ h0]
    rfl
  rw [doCommitRequest, State.tick_onReach dt _ hl hs]
  simp only [show (s.tick dt).commits? c = true from hc, hhas, hrd, Bool.not_true, Bool.false_eq_true, if_false]
  rfl

theorem State.startTables_bound : s.startTables.bound = s.bound := by
  unfold State.startTables
  extract_lets s1
  have hev : ∀ a (t : State), (t.limitEvent devQ a).bound = t.bound := fun _ t => t.deliver_bound _ _
  rw [State.commitCompiles_bound, State.showBuilds_bound, foldOver_bound hev]
  rfl

theorem State.startTables_keeps : KeepsCm c s s.startTables := by
  apply State.startTables_frame <;> simp (disch := decide)

theorem commitRequest_pending (hl : s.live = true) (hs : s.cfg.safeIdle = false) (hc : s.commits? c = true) (hn : s.cm c = none)
    (ht : atLfn = true → lfnAfter (s.rdN (cmReg c + 4)) s.tim.lfn = true) :
    let t := doCommitRequest dt c atLfn tag s
    t.cm c = some ⟨false, false, s.tim.lfn, if atLfn then some (s.rdN (cmReg c + 4)) else none, []⟩ ∧
      t.get (cmReq c) = 1 ∧ t.get (cmState c) = 1 ∧ t.get (cmStTag c) = tag % 2 ^ 16 := by
  let v := (s.tick dt).requested c atLfn tag
  let w := v.put (cmReq c) 1
  let x := if c = pfCommit then w.startTables else w
  have hle : c ≤ 1024 := State.commits?_le hc
  have hrun : doCommitRequest dt c atLfn tag s = (x.showGroup (v.cmGroup c)).showCommits := by
    have hopen : (s.target c atLfn).any (fun a => !lfnAfter a s.tim.lfn) = false := by
      cases atLfn with
      | false => rfl
      | true => exact State.target_passed (ht rfl)
    rw [commitRequest_eq hl hs hc hn]
    dsimp only
    rw [hopen, if_neg Bool.false_ne_true]
  have hx : KeepsCm c w x ∧ x.bound = w.bound := by
    unfold x
    split
    · exact ⟨State.startTables_keeps, State.startTables_bound⟩
    · exact ⟨.start trivial, rfl⟩
  have hgroup : KeepsCm c x (x.showGroup (v.cmGroup c)) := by
    apply State.showGroup_frame <;> simp (disch := decide)
  have hsame : CmSame c w (doCommitRequest dt c atLfn tag s) := by
    rw [hrun]
    exact ((CmSame.of_keeps hle hx.1).trans (.of_keeps hle hgroup)).trans (.showCommits _)
  obtain ⟨hstate, htag⟩ := State.requested_shows (s := s.tick dt) (c := c) (atLfn := atLfn) (tag := tag)
  have h8 : cmReg c + 8 ≠ cmReg c := by omega
  refine ⟨?_, ?_, ?_, ?_⟩
  · rw [hrun, State.showCommits_cm, State.cm_eq, State.showGroup_bound, hx.2]
    exact State.requested_cm
  · rw [hsame _ (by simp [cmFields]), State.get_put_same _ _ _ rfl]
    rfl
  · rw [hsame _ (by simp [cmFields]), State.get_congr (f := cmState c) (State.rd_put_other _ _ h8), hstate]
  · rw [hsame _ (by simp [cmFields]), State.get_congr (f := cmStTag c) (State.rd_put_other _ _ h8), htag]

theorem commitRequest_passed (hl : s.live = true) (hs : s.cfg.safeIdle = false) (hc : s.commits? c = true) (hn : s.cm c = none)
    (ht : lfnAfter (s.rdN (cmReg c + 4)) s.tim.lfn = false) :
    let t := doCommitRequest dt c true tag s
    t.cm c = none ∧ t.get (cmState c) = 4 ∧ t.get (cmReason c) = 3 ∧ Raised 0x0F01 s t := by
  have hle : c ≤ 1024 := State.commits?_le hc
  have hpassed : (s.target c true).any (fun a => !lfnAfter a s.tim.lfn) = true := State.target_passed ht
  have hrun : doCommitRequest dt c true tag s = ((s.tick dt).requested c true tag).endCommit c cmFailed 3 s.tim.lfn false := by
    rw [commitRequest_eq hl hs hc hn]
    dsimp only
    rw [hpassed, if_pos rfl]
  obtain ⟨⟨hcm, hshows⟩, hraised⟩ := State.endCommit_ended (s := (s.tick dt).requested c true tag) (c := c) (st := cmFailed)
    (reason := 3) (l := s.tim.lfn) (by decide) (by decide) (by decide)
  obtain ⟨-, hstate, hreason⟩ := hshows hle
  dsimp only
  rw [hrun]
  exact ⟨hcm, hstate, hreason, hraised⟩

theorem commitRequest_refused (hl : s.live = true) (hs : s.cfg.safeIdle = false) (h : s.commits? c = false ∨ (s.cm c).isSome = true) :
    (doCommitRequest dt c atLfn tag s).hif = s.hif ∧ Raised 0x0F06 s (doCommitRequest dt c atLfn tag s) := by
  have hrun : ∃ w k, doCommitRequest dt c atLfn tag s = (s.tick dt).accessEvent w (cmReg c) k := by
    rw [doCommitRequest, State.tick_onReach dt _ hl hs]
    by_cases hc : s.commits? c = true
    · have hhas : thas (s.tick dt).hif.commits c = true := h.resolve_left (by simp [hc])
      simp only [show (s.tick dt).commits? c = true from hc, hhas, Bool.not_true, Bool.false_eq_true, if_false, if_true]
      exact ⟨_, _, rfl⟩
    · simp only [show (s.tick dt).commits? c = false from eq_false_of_ne_true hc, Bool.not_false, if_true]
      exact ⟨_, _, rfl⟩
  obtain ⟨w, k, hrun⟩ := hrun
  rw [hrun]
  exact ⟨State.accessEvent_hif _ _ _ _, State.accessEvent_raised (s := s.tick dt) _ _ _⟩

/-! ### Cancels -/

theorem State.dropLoads_int : s.dropLoads.int = s.int := rfl

theorem commitCancel_cancels {x : CommitSt} (hl : s.live = true) (hs : s.cfg.safeIdle = false) (hle : c ≤ 1024)
    (hx : s.cm c = some x) (hna : x.admitted = false) :
    let t := doCommitCancel dt c s
    t.cm c = none ∧ t.get (cmReq c) = 0 ∧ t.get (cmState c) = 5 ∧ Raised 0x0F01 s t ∧ t.act = s.act := by
  have hadm : (s.tick dt).isAdmitted c = false := by
    rw [State.isAdmitted, show (s.tick dt).cm c = some x from hx]
    exact hna
  have hgo : (thas (s.tick dt).hif.commits c && !(s.tick dt).isAdmitted c) = true := by
    rw [hadm, thas, show tfind (s.tick dt).hif.commits c = some x from hx]
    rfl
  have hrun : doCommitCancel dt c s = ((s.tick dt).failCommit c cmCancelled 0 false).showCommits := by
    rw [doCommitCancel, State.tick_onReachIf dt _ _ hl hs hgo]
  obtain ⟨hcm, hshows⟩ := State.failCommit_ended (s := s.tick dt) (c := c) (st := cmCancelled) (reason := 0) (by decide) (by decide)
    (by decide)
  obtain ⟨hreq, hstate, -⟩ := hshows hle
  have hraised : Raised 0x0F01 s ((s.tick dt).failCommit c cmCancelled 0 false) := by
    have hint : (if c = pfCommit then (s.tick dt).dropLoads else s.tick dt).int = s.int := by
      split
      · exact State.dropLoads_int
      · rfl
    rw [State.failCommit_eq hadm, Raised, ← State.eventCount_congr hint]
    exact (State.endCommit_ended (by decide) (by decide) (by decide)).2
  have hsame := CmSame.showCommits (c := c) ((s.tick dt).failCommit c cmCancelled 0 false)
  dsimp only
  rw [hrun]
  refine ⟨?_, (hsame _ (by simp [cmFields])).trans hreq, (hsame _ (by simp [cmFields])).trans hstate, ?_, ?_⟩
  · rw [State.showCommits_cm, hcm]
  · rw [Raised, State.showCommits_eventCount]
    exact hraised
  · rw [State.showCommits_act]
    exact congrArg (·.2.2.2) State.failCommit_bound

/-! ### Admission -/

/-- A commit is admitted, and its status says so. -/
def AdmittedAs (c : Nat) (x : CommitSt) (t : State) : Prop := t.cm c = some x ∧ (c ≤ 1024 → t.get (cmState c) = 2)

theorem AdmittedAs.mono {x : CommitSt} (h : AdmittedAs c x s) (hcm : t.cm c = s.cm c) (hs : c ≤ 1024 → CmSame c s t) :
    AdmittedAs c x t :=
  ⟨hcm.trans h.1, fun hc => (hs hc _ (by simp [cmFields])).trans (h.2 hc)⟩

/-- One commit is admitted with its outputs, as `s` gives them. -/
def State.admitOne (s : State) (c : Nat) (t : State) : State :=
  match t.cm c with
  | none => t
  | some x => (t.setCm c { x with
      admitted := true
      outputs := s.commitOutputs c }).put (cmState c) cmAdmitted

theorem State.admitOne_same {x : CommitSt} (h : t.cm c = some x) :
    AdmittedAs c { x with admitted := true, outputs := s.commitOutputs c } (s.admitOne c t) := by
  have hrun : s.admitOne c t = (t.setCm c { x with admitted := true, outputs := s.commitOutputs c }).put (cmState c) cmAdmitted := by
    rw [State.admitOne, h]
  rw [hrun]
  exact ⟨tfind_tset_same _ _ _, fun _ => State.get_put_same _ _ _ rfl⟩

theorem State.admitOne_other {n : Nat} (hne : n ≠ c) : (s.admitOne n t).cm c = t.cm c ∧ KeepsCm c t (s.admitOne n t) := by
  unfold State.admitOne
  split
  · exact ⟨rfl, .start trivial⟩
  · refine ⟨tfind_tset_other _ _ (Ne.symm hne), ?_⟩
    apply State.put_frame _ _ _ (offCm_commit hne (by decide))
    exact ⟨⟨fun _ _ => rfl, fun p hp => absurd trivial hp⟩, rfl, trivial⟩

/-- Each of a list of commits is admitted while it is gone through. -/
theorem State.admitAll_admits {x : CommitSt} (cs : List Nat) (hc : c ∈ cs) (hx : s.cm c = some x) :
    AdmittedAs c { x with admitted := true, outputs := s.commitOutputs c } (s.admitAll cs) := by
  have key : ∀ (l : List Nat) (t : State),
      (c ∈ l ∧ ∃ y : CommitSt, t.cm c = some y ∧ ({ y with admitted := true, outputs := s.commitOutputs c } : CommitSt) =
        { x with admitted := true, outputs := s.commitOutputs c }) ∨
        AdmittedAs c { x with admitted := true, outputs := s.commitOutputs c } t →
      AdmittedAs c { x with admitted := true, outputs := s.commitOutputs c } (foldOver l (fun c t => s.admitOne c t) t) := by
    intro l
    induction l with
    | nil => intro t h; exact h.elim (fun h => absurd h.1 (by simp)) id
    | cons n r ih =>
      intro t h
      refine ih (s.admitOne n t) ?_
      by_cases hn : n = c
      · subst hn
        obtain ⟨y, hy, hyx⟩ : ∃ y : CommitSt, t.cm n = some y ∧ ({ y with admitted := true, outputs := s.commitOutputs n } : CommitSt) =
            { x with admitted := true, outputs := s.commitOutputs n } := h.elim (·.2) (fun h => ⟨_, h.1, rfl⟩)
        exact .inr (hyx ▸ State.admitOne_same hy)
      · obtain ⟨hcm, hk⟩ := State.admitOne_other (s := s) (t := t) hn
        refine h.imp (fun ⟨hmem, y, hy, hyx⟩ => ⟨(List.mem_cons.mp hmem).resolve_left (Ne.symm hn), y, hcm.trans hy, hyx⟩)
          (fun h => h.mono hcm (fun hle => .of_keeps hle hk))
  have hone := key cs s (.inl ⟨hc, x, hx, rfl⟩)
  unfold State.admitAll
  extract_lets s1 mine
  have hrel : (foldOver (s1.passHosts ((List.range outputs).filter (fun o => !(mine o).isEmpty)))
      (fun o t => t.askPass .commit (mine o) o) s1).cm c = s1.cm c ∧ KeepsCm c s1 (foldOver (s1.passHosts ((List.range outputs).filter
      (fun o => !(mine o).isEmpty))) (fun o t => t.askPass .commit (mine o) o) s1) := by
    refine ⟨foldOver_keeps (fun t => t.cm c) (fun o t => State.askPass_cm _ _ _ _) s1, ?_⟩
    refine foldOver_frame _ _ (fun o t ht => ?_) (.start trivial)
    apply State.askPass_frame <;> simp (disch := decide) [ht]
  exact hone.mono hrel.1 (fun hle => .of_keeps hle hrel.2)

theorem AdmittedAs.showCommits {x : CommitSt} (h : AdmittedAs c x s) : AdmittedAs c x s.showCommits :=
  h.mono (s.showCommits_cm c) (fun _ => .showCommits s)

theorem commitAdmit_goes {x : CommitSt} (hx : s.cm c = some x) (hna : x.admitted = false) :
    (thas (s.tick dt).hif.commits c && !(s.tick dt).isAdmitted c) = true := by
  rw [State.isAdmitted, show (s.tick dt).cm c = some x from hx, thas, show tfind (s.tick dt).hif.commits c = some x from hx]
  simp [hna]

theorem commitAdmit_alone {x : CommitSt} (hl : s.live = true) (hle : c ≤ 1024) (hx : s.cm c = some x) (hna : x.admitted = false)
    (hg : s.aonOf (s.cmGroup c) = false) (hr : (s.tick dt).localCause c = nrNone) :
    let t := doCommitAdmit dt c s
    t.cm c = some { x with admitted := true, outputs := s.commitOutputs c } ∧ t.get (cmState c) = 2 := by
  have hrun : doCommitAdmit dt c s = ((s.tick dt).admitAll [c]).showCommits := by
    rw [doCommitAdmit, State.tick_onLiveIf dt _ _ hl (commitAdmit_goes hx hna)]
    simp only [show (s.tick dt).aonOf ((s.tick dt).cmGroup c) = false from hg, hr, Bool.false_eq_true, if_false, if_true]
  obtain ⟨hcm, hstate⟩ := (State.admitAll_admits (s := s.tick dt) [c] (List.mem_singleton_self c) hx).showCommits
  dsimp only
  rw [hrun]
  exact ⟨hcm, hstate hle⟩

theorem State.members_le {m : Nat} (h : m ∈ s.members g) : m ≤ 1024 := by
  rcases List.mem_append.mp h with h | h
  · exact (List.mem_range.mp (List.mem_filter.mp h).1).le
  · split at h
    · exact (List.mem_singleton.mp h).le
    · cases h

theorem commitAdmit_group {x : CommitSt} (hl : s.live = true) (hx : s.cm c = some x) (hna : x.admitted = false)
    (hg : s.aonOf (s.cmGroup c) = true) (hj : s.joined = false) (hr : (s.tick dt).groupAdmits (s.cmGroup c) = true)
    (hm : ∀ m ∈ s.members (s.cmGroup c), s.isAdmitted m = false) :
    let t := doCommitAdmit dt c s
    ∀ m ∈ s.members (s.cmGroup c), t.isAdmitted m = true ∧ t.get (cmState m) = 2 := by
  have hall : ((s.tick dt).members ((s.tick dt).cmGroup c)).all (fun m => !(s.tick dt).isAdmitted m) = true :=
    List.all_eq_true.mpr (fun m hmem => by rw [show (s.tick dt).isAdmitted m = false from hm m hmem]; rfl)
  have hrun : doCommitAdmit dt c s = ((s.tick dt).admitAll (s.members (s.cmGroup c))).showCommits := by
    rw [doCommitAdmit, State.tick_onLiveIf dt _ _ hl (commitAdmit_goes hx hna)]
    simp only [show (s.tick dt).aonOf ((s.tick dt).cmGroup c) = true from hg, show (s.tick dt).joined = false from hj,
      show (s.tick dt).groupAdmits ((s.tick dt).cmGroup c) = true from hr, hall, Bool.not_false, Bool.and_self, if_true]
    rfl
  intro t m hmem
  have hpend : thas s.hif.commits m = true := by
    simp only [State.groupAdmits, Bool.and_eq_true, List.all_eq_true] at hr
    exact (hr.1 m hmem).1
  obtain ⟨y, hy⟩ := Option.isSome_iff_exists.mp hpend
  obtain ⟨hcm, hstate⟩ := (State.admitAll_admits (s := s.tick dt) _ hmem hy).showCommits
  change (doCommitAdmit dt c s).isAdmitted m = true ∧ (doCommitAdmit dt c s).get (cmState m) = 2
  rw [hrun, State.isAdmitted, hcm]
  exact ⟨rfl, hstate (State.members_le hmem)⟩

/-! ### Group timeouts -/

/-- Each of a list of commits fails while it is gone through; no value in force moves. -/
theorem failCommits_ended (l : List Nat) (s : State) (h : c ∈ l ∨ EndedWith c 4 1 s) :
    EndedWith c 4 1 (foldOver l (fun c v => v.failCommit c cmFailed 1 false) s) := by
  induction l generalizing s with
  | nil => exact h.elim (fun h => absurd h (by simp)) id
  | cons n r ih =>
    refine ih (s.failCommit n cmFailed 1 false) ?_
    by_cases hn : n = c
    · subst hn
      exact .inr (State.failCommit_ended (by decide) (by decide) (by decide))
    · refine h.imp (fun h => (List.mem_cons.mp h).resolve_left (Ne.symm hn)) (fun h => ?_)
      refine h.mono ?_ (fun hle => .of_keeps hle (State.failCommit_other hn))
      rw [State.cm_eq, State.failCommit_bound, tfind_tdel, if_neg (Ne.symm hn)]
      exact h.1

theorem groupTimeout_fails (hl : s.live = true) (hg : g < 64) (ha : s.aonOf g = true) (hw0 : s.get (HIF_GROUP_CTRL.WAIT_MAX g) ≠ 0)
    (hw : s.get (HIF_GROUP_CTRL.WAIT_MAX g) ≤ s.groupWait g) (hp : s.groupPending g ≠ [])
    (hd : ∀ c ∈ s.groupPending g, (s.cm c).any (·.decided) = false) :
    let t := doGroupTimeout dt g s
    t.act = s.act ∧ ∀ c ∈ s.groupPending g, t.cm c = none ∧ (c ≤ pfCommit → t.get (cmState c) = 4 ∧ t.get (cmReason c) = 1) := by
  let v := foldOver (s.groupPending g) (fun c v => v.failCommit c cmFailed 1 false) (s.tick dt)
  have hgo : (decide (g < 64) && (s.tick dt).aonOf g && (s.tick dt).get (HIF_GROUP_CTRL.WAIT_MAX g) != 0 &&
      decide ((s.tick dt).get (HIF_GROUP_CTRL.WAIT_MAX g) ≤ (s.tick dt).groupWait g) && !((s.tick dt).groupPending g).isEmpty &&
      ((s.tick dt).groupPending g).all (fun c => !((s.tick dt).cm c).any (·.decided))) = true := by
    have hall : ((s.tick dt).groupPending g).all (fun c => !((s.tick dt).cm c).any (·.decided)) = true :=
      List.all_eq_true.mpr (fun c hc => by rw [show ((s.tick dt).cm c).any (·.decided) = false from hd c hc]; rfl)
    have hwait : (s.tick dt).get (HIF_GROUP_CTRL.WAIT_MAX g) ≤ (s.tick dt).groupWait g := hw
    have hne : (s.tick dt).groupPending g ≠ [] := hp
    simp only [hall, hg, show (s.tick dt).aonOf g = true from ha, decide_eq_true hwait, Bool.and_true, decide_true, Bool.true_and,
      Bool.and_eq_true, bne_iff_ne, Bool.not_eq_true', List.isEmpty_eq_false_iff]
    exact ⟨hw0, hne⟩
  have hrun : doGroupTimeout dt g s = v.incSat (HIF_GROUP_CTRL.TIMEOUTS g) 1 := by
    rw [doGroupTimeout, State.tick_onLiveIf dt _ _ hl hgo]
    rfl
  have hact : v.act = s.act := foldOver_keeps State.act (fun c t => congrArg (·.2.2.2) (State.failCommit_bound (s := t))) (s.tick dt)
  dsimp only
  rw [hrun]
  refine ⟨hact, fun c hc => ?_⟩
  have hkeep : KeepsCm c v (v.incSat (HIF_GROUP_CTRL.TIMEOUTS g) 1) := by
    apply State.incSat_frame <;> simp (disch := decide)
  obtain ⟨hcm, hshows⟩ := (failCommits_ended (s.groupPending g) (s.tick dt) (.inl hc)).mono (t := v.incSat (HIF_GROUP_CTRL.TIMEOUTS g) 1)
    (failCommits_ended (s.groupPending g) (s.tick dt) (.inl hc)).1 (fun hle => .of_keeps hle hkeep)
  exact ⟨hcm, fun hle => (hshows hle).2⟩

/-! ### The decision -/

theorem tfind_map_value {α : Type} (r : Tbl α) (f : Nat → α → α) (k : Nat) :
    tfind (r.map (fun e => (e.1, f e.1 e.2))) k = (tfind r k).map (f k) := by
  induction r with
  | nil => rfl
  | cons e r ih =>
    simp only [List.map_cons, tfind]
    split
    · next h => rw [h]; rfl
    · exact ih

/-- The commits that are ready are decided at an instant, and the fabric's event is taken. -/
def State.decideAt (s : State) (i : Nat) : State :=
  (({ s with now := i }).takeEvent s.commitPoint).decideFor (({ s with now := i }).readyCommits s.nextLfn (fun _ => true))

theorem State.decideAt_shown (i : Nat) : (s.decideAt i).showCommits.now = i ∧
    (s.decideAt i).showCommits.seq.fab = s.seq.fab.erase s.commitPoint ∧
    ∀ c x, s.cm c = some x → (s.decideAt i).showCommits.cm c = some { x with
      decided := (({ s with now := i }).readyCommits s.nextLfn (fun _ => true)).contains c } := by
  refine ⟨congrArg (·.1.1) (s.decideAt i).showCommits_bound, congrArg (·.fab) (s.decideAt i).showCommits_seq, fun c x hx => ?_⟩
  have hfind := tfind_map_value s.hif.commits (fun k (y : CommitSt) => { y with
    decided := (({ s with now := i }).readyCommits s.nextLfn (fun _ => true)).contains k }) c
  rw [show tfind s.hif.commits c = some x from hx] at hfind
  rw [State.showCommits_cm]
  exact hfind

theorem State.decideAt_live (hl : s.live = true) {b : Bool} (hb : b = true) (i : Nat) : ({ s with now := i }).onLiveIf b (fun t =>
    ((t.takeEvent t.commitPoint).decideFor (t.readyCommits t.nextLfn (fun _ => true))).showCommits) = (s.decideAt i).showCommits :=
  State.onLiveIf_eq (s := { s with now := i }) _ _ hl hb

theorem commitDecisionPoint_decides (hl : s.live = true) (hi : s.now ≤ s.decisionInstant) (hj : s.joined = false)
    (hf : s.seq.fab.contains s.commitPoint = true) : doCommitDecisionPoint s = (s.decideAt s.decisionInstant).showCommits := by
  have hgo : (!s.joined && s.seq.fab.contains s.commitPoint) = true := by rw [hj, hf]; rfl
  rw [doCommitDecisionPoint, if_pos hi]
  exact State.decideAt_live hl hgo _

theorem commitDecisionPoint_none (hf : s.seq.fab.contains s.commitPoint = false) :
    (doCommitDecisionPoint s).hif = s.hif ∧ (doCommitDecisionPoint s).seq = s.seq := by
  unfold doCommitDecisionPoint
  split
  · unfold State.onLiveIf
    rw [if_neg (by rw [hf]; simp)]
    exact ⟨rfl, rfl⟩
  · exact ⟨rfl, rfl⟩

/-- Settles O35: what a request, a cancel and a timeout leave by the end of one commit; admission and timeouts by induction on
the list of commits that go together. -/
theorem commitsAreRequestedAdmittedAndDecided : Obligations.CommitsAreRequestedAdmittedAndDecided := by
  unfold Obligations.CommitsAreRequestedAdmittedAndDecided
  exact ⟨fun dt c tag atLfn s hl hs hc hn ht => ⟨_, rfl, commitRequest_pending hl hs hc hn ht⟩,
    fun dt c tag s hl hs hc hn ht => ⟨_, rfl, commitRequest_passed hl hs hc hn ht⟩,
    fun dt c tag atLfn s hl hs h => ⟨_, rfl, commitRequest_refused hl hs h⟩,
    fun dt c x s hl hs hle hx hna => ⟨_, rfl, commitCancel_cancels hl hs hle hx hna⟩,
    fun dt c x s hl hle hx hna hg hr => ⟨_, rfl, commitAdmit_alone hl hle hx hna hg hr⟩,
    fun dt c x s hl hx hna hg hj hr hm => ⟨_, rfl, commitAdmit_group hl hx hna hg hj hr hm⟩,
    fun dt g s hl hg ha hw0 hw hp hd => ⟨_, rfl, groupTimeout_fails hl hg ha hw0 hw hp hd⟩,
    fun s hl hi hj hf => ⟨_, congrArg Host.Outcome.next (commitDecisionPoint_decides hl hi hj hf), s.decideAt_shown _⟩,
    fun s hf => ⟨_, rfl, commitDecisionPoint_none hf⟩⟩

end Sys2Proof.Machine
end

section
/-! Forming passes, tails and writeback frames as they complete (R94, R159, R206, R207). -/
namespace Sys2Proof.Machine

variable {s t u : State} {o f g dt : Nat} {p : Pass} {rest : List Pass}

/-! ### What a pass stores in a writer's copy -/

/-- The mark of a complete copy: a lead part on a phased-refill output, the back copy on another. -/
def State.copyMark (s : State) (f : Nat) : Fld := if s.phased f then PLN_OUT_STATUS.LEAD_VALID f else PLN_OUT_STATUS.BACK_COMPLETE f

theorem State.rd_put_congr {h : Fld} {a v : Nat} (h1 : t.rd h.reg = s.rd h.reg) (h2 : t.rd a = s.rd a) :
    (t.put h v).rd a = (s.put h v).rd a := by
  by_cases ha : a = h.reg
  · subst ha
    simp only [State.put, h1, State.rd_wrN_same]
  · rw [State.rd_put_other _ _ ha, State.rd_put_other _ _ ha, h2]

/-- Off the timing of its output, a stored copy shows in its mark alone. -/
theorem State.storePass_rd {a : Nat} (cs : List Nat) (host : Nat) (ha : a ≠ PLN_OUT_TIMING f) (hf : f < 16) :
    (s.storePass p cs host f).rd a = (s.put (s.copyMark f) 1).rd a := by
  have hne : PLN_OUT_STATUS f ≠ PLN_OUT_TIMING f := by
    rw [show PLN_OUT_STATUS f = _ from if_pos hf, show PLN_OUT_TIMING f = _ from if_pos hf]
    omega
  have hrd {v b : Nat} (hb : b ≠ PLN_OUT_TIMING f) : (s.putSat (PLN_OUT_TIMING.LEAD_US f) v).rd b = s.rd b :=
    State.rd_put_other _ _ hb
  by_cases hp : s.phased f = true
  · simp only [State.storePass, State.copyMark, hp, if_true]
    exact (State.rd_put_other _ _ ha).trans (State.rd_put_congr (h := PLN_OUT_STATUS.LEAD_VALID f) (hrd hne) (hrd ha))
  · simp only [State.storePass, State.copyMark, hp]
    exact State.rd_put_congr (h := PLN_OUT_STATUS.BACK_COMPLETE f) (hrd hne) (hrd ha)

/-- An output's copy is marked as its mode asks. -/
def State.marked (s : State) (f : Nat) : Prop :=
  (s.get (PLN_OUT_CFG.MODE f) = 1 → s.get (PLN_OUT_STATUS.BACK_COMPLETE f) = 1) ∧
    (s.get (PLN_OUT_CFG.MODE f) = 2 → s.get (PLN_OUT_STATUS.LEAD_VALID f) = 1)

theorem State.marked_congr (hm : t.rd (PLN_OUT_CFG f) = s.rd (PLN_OUT_CFG f)) (hs : t.rd (PLN_OUT_STATUS f) = s.rd (PLN_OUT_STATUS f)) :
    t.marked f ↔ s.marked f := by
  rw [State.marked, State.marked, State.get_congr (f := PLN_OUT_CFG.MODE f) hm, State.get_congr (f := PLN_OUT_STATUS.BACK_COMPLETE f) hs,
    State.get_congr (f := PLN_OUT_STATUS.LEAD_VALID f) hs]

theorem plnOut_apart (hf : f < 16) (hg : g < 16) : PLN_OUT_CFG g ≠ PLN_OUT_TIMING f ∧ PLN_OUT_STATUS g ≠ PLN_OUT_TIMING f ∧
    PLN_OUT_CFG g ≠ PLN_OUT_STATUS f ∧ (g ≠ f → PLN_OUT_STATUS g ≠ PLN_OUT_STATUS f) := by
  rw [show PLN_OUT_CFG g = _ from if_pos hg, show PLN_OUT_STATUS g = _ from if_pos hg, show PLN_OUT_TIMING f = _ from if_pos hf,
    show PLN_OUT_STATUS f = _ from if_pos hf]
  omega

theorem State.copyMark_reg : (s.copyMark f).reg = PLN_OUT_STATUS f := by
  unfold State.copyMark
  split <;> rfl

/-- Storing a copy moves no output's mode. -/
theorem State.storePass_cfg (cs : List Nat) (host : Nat) (hf : f < 16) (hg : g < 16) :
    (s.storePass p cs host f).rd (PLN_OUT_CFG g) = s.rd (PLN_OUT_CFG g) := by
  obtain ⟨hcfg, -, hne, -⟩ := plnOut_apart hf hg
  rw [State.storePass_rd cs host hcfg hf]
  exact State.rd_put_other _ _ (State.copyMark_reg ▸ hne)

/-- A stored copy is marked. -/
theorem State.storePass_marked (cs : List Nat) (host : Nat) (hf : f < 16) : (s.storePass p cs host f).marked f := by
  obtain ⟨-, hst, -, -⟩ := plnOut_apart hf hf
  have hget (h : Fld) (hr : h.reg = PLN_OUT_STATUS f) : (s.storePass p cs host f).get h = (s.put (s.copyMark f) 1).get h :=
    State.get_congr (State.storePass_rd cs host (hr ▸ hst) hf)
  have hmode : (s.storePass p cs host f).get (PLN_OUT_CFG.MODE f) = s.get (PLN_OUT_CFG.MODE f) :=
    State.get_congr (State.storePass_cfg cs host hf hf)
  rw [State.marked, hmode, hget _ rfl, hget _ rfl]
  constructor
  · intro h
    have hp : s.copyMark f = PLN_OUT_STATUS.BACK_COMPLETE f := if_neg (by simp [State.phased, h])
    rw [hp, State.get_put_same _ _ _ rfl]
    rfl
  · intro h
    have hp : s.copyMark f = PLN_OUT_STATUS.LEAD_VALID f := if_pos (by simp [State.phased, h])
    rw [hp, State.get_put_same _ _ _ rfl]
    rfl

/-- A marked copy stays so while others are stored. -/
theorem State.storePass_keeps_marked (cs : List Nat) (host : Nat) (hf : f < 16) (hg : g < 16) (h : s.marked g) :
    (s.storePass p cs host f).marked g := by
  by_cases hgf : g = f
  · subst hgf
    exact State.storePass_marked cs host hf
  · obtain ⟨-, hst, -, hne⟩ := plnOut_apart hf hg
    refine (State.marked_congr (State.storePass_cfg cs host hf hg) ?_).mpr h
    rw [State.storePass_rd cs host hst hf]
    exact State.rd_put_other _ _ (by rw [State.copyMark_reg]; exact hne hgf)

theorem storePasses_marked (cs : List Nat) (host : Nat) (l : List Nat) (hl : ∀ f ∈ l, f < 16) (hg : g < 16) (s : State)
    (h : g ∈ l ∨ s.marked g) : (foldOver l (fun f x => x.storePass p cs host f) s).marked g := by
  induction l generalizing s with
  | nil => exact h.elim (fun h => absurd h (by simp)) id
  | cons f r ih =>
    refine ih (fun f hf => hl f (List.mem_cons_of_mem _ hf)) (s.storePass p cs host f) ?_
    have hf := hl f List.mem_cons_self
    rcases h with h | h
    · rcases List.mem_cons.mp h with rfl | h
      · exact .inr (State.storePass_marked cs host hf)
      · exact .inl h
    · exact .inr (State.storePass_keeps_marked cs host hf hg h)

theorem storePasses_cfg (cs : List Nat) (host : Nat) (l : List Nat) (hl : ∀ f ∈ l, f < 16) (hg : g < 16) (s : State) :
    (foldOver l (fun f x => x.storePass p cs host f) s).rd (PLN_OUT_CFG g) = s.rd (PLN_OUT_CFG g) := by
  induction l generalizing s with
  | nil => rfl
  | cons f r ih =>
    exact (ih (fun f hf => hl f (List.mem_cons_of_mem _ hf)) _).trans (State.storePass_cfg cs host (hl f List.mem_cons_self) hg)

/-! ### The end of a pass' forming -/

/-- The pass that stands complete with the lead planes that it wrote. -/
def State.formedPass (s : State) (p : Pass) (o : Nat) : Pass :=
  { p with
    complete := true
    leads := ((s.withFollowers o).filter s.phased).map (fun f => (f, s.leadsOf p.commits f)) }

theorem State.passesOf_setPasses {l : List Pass} : (s.setPasses o l).passesOf o = l := by
  cases l with
  | nil => exact tget_tdel_same _ _ _
  | cons p r => exact tget_tset_same _ _ _ _

theorem State.endForming_passes : (u.endForming p rest o).passesOf o = u.formedPass p o :: rest := State.passesOf_setPasses

/-- Nothing that says which commits wait moves. -/
theorem State.endForming_keeps : (u.endForming p rest o).hif = u.hif ∧ (u.endForming p rest o).tim = u.tim := by
  have hf : Fr anyDram anyReg (fun k => k ≠ .hif ∧ k ≠ .tim) u (u.endForming p rest o) := by
    apply State.endForming_frame <;> simp
  exact ⟨hf.frame.2 .hif (by simp), hf.frame.2 .tim (by simp)⟩

/-- Apart from the registers of a composed output (Table CMP-5) and of its planes. -/
def offOutput (a : Nat) : Prop := offSpan 0x801000 0x802000 a ∧ offSpan 0x1000000 0x1400000 a

/-- An event shows in no register of a composed output or of its planes. -/
theorem evReg_outside {a : Nat} (ha : evReg a = true) : ¬ (0x801000 ≤ a ∧ a < 0x802000) ∧ ¬ (0x1000000 ≤ a ∧ a < 0x1400000) := by
  simp only [evReg, INT_STATUS, INT_DROPS, INT_SUPPRESSED, INT_LOG_STATUS, Bool.or_eq_true, Bool.and_eq_true, beq_iff_eq,
    decide_eq_true_eq] at ha
  omega

theorem State.countTiles_rd (cs : List Nat) (o : Nat) {a : Nat} (ha : ¬ offOutput a) : (s.countTiles cs o).rd a = s.rd a := by
  have hf : Fr anyDram offOutput anyPart s (s.countTiles cs o) := by
    have hev : Ev offOutput anyPart := ⟨fun a ha => by
      have := evReg_outside ha
      unfold offOutput offSpan
      omega, trivial⟩
    apply State.countTiles_frame _ _ _ hev
    · exact ⟨.inl (by decide), .inl (by decide)⟩
    · exact fun i => ⟨offSpan_family (.inr (by decide)) (by decide) (by decide), offSpan_family (.inl (by decide)) (by decide) (by decide)⟩
    · exact .start trivial
  exact hf.rd_eq ha

theorem not_offOutput_plnCfg (hf : f < 16) : ¬ offOutput (PLN_OUT_CFG f) := by
  rw [show PLN_OUT_CFG f = _ from if_pos hf]
  unfold offOutput offSpan
  omega

theorem not_offOutput_cut (hf : f < 20) : ¬ offOutput (CMP_OUT_CUT f) := by
  rw [show CMP_OUT_CUT f = _ from if_pos hf]
  unfold offOutput offSpan
  omega

/-- Who composes for whom is read from the cut alone. -/
theorem State.withFollowers_congr (h : ∀ f, f < 20 → t.rd (CMP_OUT_CUT f) = s.rd (CMP_OUT_CUT f)) (o : Nat) :
    t.withFollowers o = s.withFollowers o := by
  unfold State.withFollowers idxWhere
  refine List.filter_congr fun f hf => ?_
  have hf := h f (List.mem_range.mp hf)
  have hget (g : Fld) (hg : g.reg = CMP_OUT_CUT f) : t.get g = s.get g := State.get_congr (by rw [hg, hf])
  simp only [State.outExists, State.isFollower, State.flag, hget (CMP_OUT_CUT.EXISTS f) rfl, hget (CMP_OUT_CUT.FOLLOWER f) rfl,
    hget (CMP_OUT_CUT.LEADER f) rfl]

/-- Before the copies are stored, a pass that ends moves only what it counts and judges. -/
theorem State.endForming_copies : ∃ u4 : State, (∀ a, ¬ offOutput a → u4.rd a = u.rd a) ∧
    (u.endForming p rest o).regs = (foldOver ((u4.withFollowers o).filter (fun f => decide (f < 16) && u4.get (PLN_OUT_CFG.MODE f) != 0))
      (fun f x => x.storePass { p with leads := ((u.withFollowers o).filter u.phased).map (fun f => (f, u.leadsOf p.commits f)) }
        p.commits o f) u4).regs := by
  unfold State.endForming
  extract_lets p1 v u1 w cmp u2 int u3 u4 u5
  have h2 : u2.regs = u1.regs := by
    unfold u2
    split <;> rfl
  have h4 : u4.regs = u1.regs := by
    have hwb : (u3.rectNoWb o).regs = u3.regs := by
      unfold State.rectNoWb
      apply foldOver_keeps State.regs
      exact fun _ _ => rfl
    unfold u4
    split
    · exact hwb.trans h2
    · exact h2
  refine ⟨u4, fun a ha => (State.rd_congr h4 a).trans ?_, rfl⟩
  unfold u1
  split
  · rfl
  · exact State.countTiles_rd _ _ ha

/-- The writer's copies of the outputs that a pass has formed are marked. -/
theorem State.endForming_marked (hg : g < 16) (hin : g ∈ u.withFollowers o) :
    (u.endForming p rest o).rd (PLN_OUT_CFG g) = u.rd (PLN_OUT_CFG g) ∧ (u.endForming p rest o).marked g := by
  obtain ⟨u4, hoff, hregs⟩ := State.endForming_copies (u := u) (p := p) (rest := rest) (o := o)
  have hcfg := hoff _ (not_offOutput_plnCfg hg)
  have hrd := State.rd_congr hregs
  have hl : ∀ f ∈ (u4.withFollowers o).filter (fun f => decide (f < 16) && u4.get (PLN_OUT_CFG.MODE f) != 0), f < 16 := by
    intro f hf
    simpa using And.left (by simpa using (List.mem_filter.mp hf).2)
  refine ⟨((hrd _).trans (storePasses_cfg _ _ _ hl hg u4)).trans hcfg, ?_⟩
  refine (State.marked_congr (hrd _) (hrd _)).mpr (storePasses_marked _ _ _ hl hg u4 ?_)
  by_cases hm : u4.get (PLN_OUT_CFG.MODE g) = 0
  · exact .inr ⟨fun h => absurd (hm.symm.trans h) (by decide), fun h => absurd (hm.symm.trans h) (by decide)⟩
  · refine .inl (List.mem_filter.mpr ⟨?_, by simp [hg, hm]⟩)
    rwa [State.withFollowers_congr (fun f hf => hoff _ (not_offOutput_cut hf))]

/-! ### What starting the next pass and showing the queues leave -/

theorem State.pump_none (h : s.passesOf o = []) : s.pump o = s := by
  unfold State.pump
  rw [h]

/-- A pass that runs and gives no other way stays the first of its output. -/
theorem State.pump_running (h : s.passesOf o = p :: rest) (hr : p.running = true) (hg : s.givesWay p rest = false) : s.pump o = s := by
  unfold State.pump
  rw [h]
  simp [hr, hg]

theorem State.givesWay_congr (hh : t.hif = s.hif) (ht : t.tim = s.tim) (p : Pass) (rest : List Pass) : t.givesWay p rest = s.givesWay p rest := by
  have htarget : t.passTarget = s.passTarget := by
    funext q
    unfold State.passTarget State.nextLfn State.cm
    rw [hh, ht]
  unfold State.givesWay
  rw [htarget]

theorem State.showForming_rd {a : Nat} (h1 : a ≠ CMP_OUT_STATUS o) (h2 : a ≠ CMP_FORMING) : (s.showForming o).rd a = s.rd a := by
  unfold State.showForming
  exact (State.rd_put_other _ _ h2).trans ((State.rd_put_other _ _ h1).trans (State.rd_put_other _ _ h1))

theorem State.showForming_keeps {W : Nat → Prop} {K : Part → Prop} (hs : W (CMP_OUT_STATUS o)) (hf : W CMP_FORMING) :
    Fr anyDram W K s (s.showForming o) := State.showForming_frame s o hf hs (.start trivial)

/-- The queues of passes show in registers of CMP alone. -/
theorem State.showForming_parts : Fr anyDram anyReg (fun _ => False) s (s.showForming o) := State.showForming_keeps trivial trivial

theorem State.showCommits_passesOf (q : Nat) : s.showCommits.passesOf q = s.passesOf q :=
  congrArg (fun c : CmpSt => tget [] c.passes q) (s.showCommits_fr.frame.2 .cmp id)

theorem plnOut_bounds {a : Nat} (hf : f < 16) (ha : a = PLN_OUT_CFG f ∨ a = PLN_OUT_STATUS f) : 0x1000000 ≤ a ∧ a < 0x1400000 := by
  rw [show PLN_OUT_CFG f = _ from if_pos hf, show PLN_OUT_STATUS f = _ from if_pos hf] at ha
  omega

theorem State.showCommits_mark {a : Nat} (hf : f < 16) (ha : a = PLN_OUT_CFG f ∨ a = PLN_OUT_STATUS f) : s.showCommits.rd a = s.rd a := by
  have hb := plnOut_bounds hf ha
  exact State.showCommits_rd _ (lt_of_lt_of_le hb.2 (by decide)) (by unfold HIF_PF_COMMIT; omega)

theorem State.showForming_mark {a : Nat} (hf : f < 16) (ho : o < 16) (ha : a = PLN_OUT_CFG f ∨ a = PLN_OUT_STATUS f) :
    (s.showForming o).rd a = s.rd a := by
  have hb := plnOut_bounds hf ha
  exact State.showForming_rd (by rw [show CMP_OUT_STATUS o = _ from if_pos (by omega)]; omega) (by unfold CMP_FORMING; omega)

/-! ### O41, forming passes -/

theorem formedPass_completes (dt : Nat) (hl : s.live = true) (hc : s.lan.coreStopped = false) (ho : o < arrayOutputs)
    (hp : s.passesOf o = p :: rest) (hrun : p.running = true) (hcmp : p.complete = false) (hv : p.voided = false)
    (hon : s.slicesOn o = true) (hgw : s.givesWay { p with complete := true } rest = false) :
    Completes (exec (.formingPassDone dt o) s) (fun t => t.passesOf o = s.formedPass p o :: rest ∧
      ∀ f ∈ s.withFollowers o, f < 16 →
        (s.get (PLN_OUT_CFG.MODE f) = 1 → t.get (PLN_OUT_STATUS.BACK_COMPLETE f) = 1) ∧
        (s.get (PLN_OUT_CFG.MODE f) = 2 → t.get (PLN_OUT_STATUS.LEAD_VALID f) = 1)) := by
  refine ⟨_, rfl, ?_⟩
  have hgo : (decide (o < arrayOutputs) && p.running && !p.complete && (s.tick dt).slicesOn o) = true := by
    rw [show (s.tick dt).slicesOn o = true from hon]
    simp [ho, hrun, hcmp]
  let u := (s.tick dt).memBusy
  have hpump : (u.endForming p rest o).pump o = u.endForming p rest o := by
    obtain ⟨hhif, htim⟩ := State.endForming_keeps (u := u) (p := p) (rest := rest) (o := o)
    refine State.pump_running State.endForming_passes hrun ?_
    exact (State.givesWay_congr hhif htim _ _).trans hgw
  have heq : doFormingPassDone dt o s = (u.endForming p rest o).showForming o := by
    unfold doFormingPassDone
    simp only [show (s.tick dt).passesOf o = p :: rest from hp]
    rw [State.tick_onCoreIf dt _ _ hl hc hgo]
    simp only [hv, Bool.false_eq_true, if_false]
    rw [hpump]
  rw [heq]
  refine ⟨?_, fun f hf hf16 => ?_⟩
  · rw [State.showCommits_passesOf]
    exact State.endForming_passes
  · have hin : f ∈ u.withFollowers o := hf
    obtain ⟨hcfg, hmark⟩ := State.endForming_marked (p := p) (rest := rest) hf16 hin
    have hmode : (u.endForming p rest o).get (PLN_OUT_CFG.MODE f) = s.get (PLN_OUT_CFG.MODE f) := State.get_congr hcfg
    have hkept {a : Nat} (ha : a = PLN_OUT_CFG f ∨ a = PLN_OUT_STATUS f) :
        ((u.endForming p rest o).showForming o).showCommits.rd a = (u.endForming p rest o).rd a :=
      (State.showCommits_mark hf16 ha).trans (State.showForming_mark hf16 ho ha)
    have hshown := (State.marked_congr (hkept (.inl rfl)) (hkept (.inr rfl))).mpr hmark
    have hshow : ((u.endForming p rest o).showForming o).showCommits.get (PLN_OUT_CFG.MODE f) = s.get (PLN_OUT_CFG.MODE f) :=
      (State.get_congr (hkept (.inl rfl))).trans hmode
    rwa [State.marked, hshow] at hshown

theorem voidedPass_completes (dt : Nat) (hl : s.live = true) (hc : s.lan.coreStopped = false) (ho : o < arrayOutputs)
    (hp : s.passesOf o = [p]) (hrun : p.running = true) (hcmp : p.complete = false) (hv : p.voided = true) (hon : s.slicesOn o = true) :
    Completes (exec (.formingPassDone dt o) s) (fun t => t.passesOf o = [] ∧ t.pln = s.pln ∧ SameBytes s t ∧ t.cmp.wb = s.cmp.wb) := by
  refine ⟨_, rfl, ?_⟩
  have hgo : (decide (o < arrayOutputs) && p.running && !p.complete && (s.tick dt).slicesOn o) = true := by
    rw [show (s.tick dt).slicesOn o = true from hon]
    simp [ho, hrun, hcmp]
  let u := (s.tick dt).memBusy.setPasses o []
  have heq : doFormingPassDone dt o s = u.showForming o := by
    unfold doFormingPassDone
    simp only [show (s.tick dt).passesOf o = [p] from hp]
    rw [State.tick_onCoreIf dt _ _ hl hc hgo]
    simp only [hv, if_true]
    rw [State.pump_none State.passesOf_setPasses]
  have hfr : Fr anyDram anyReg (fun _ => False) u (u.showForming o).showCommits :=
    State.showCommits_frame _ (fun _ => trivial) State.showForming_parts
  have hcmp : (u.showForming o).showCommits.cmp = u.cmp := hfr.frame.2 .cmp id
  have hmem : (u.showForming o).showCommits.mem = u.mem := hfr.frame.2 .mem id
  rw [heq]
  refine ⟨?_, hfr.frame.2 .pln id, fun a => ?_, ?_⟩
  · rw [State.showCommits_passesOf]
    exact State.passesOf_setPasses
  · rw [State.byteAt, hmem]
    rfl
  · rw [hcmp]
    rfl

end Sys2Proof.Machine
end

section
/-! Tails and writeback frames as they end (R159, R207). -/
namespace Sys2Proof.Machine

variable {s t u : State} {o f g dt : Nat} {p : Pass} {rest : List Pass}

/-! ### What the start of a pass changes -/

/-- The fields that show the passes of an output as one starts. -/
def passField (g : Fld) : Prop :=
  (∃ i, g.reg = CMP_OUT_STATUS i) ∨ g.reg = CMP_FORMING ∨ (∃ i, g.reg = CMP_LYR_LIVE i) ∨ g.reg = COL_STATUS ∨
    (∃ i, g.reg = COL_OUT_STATUS i) ∨ ∃ i, g = PLN_OUT_STATUS.BACK_COMPLETE i ∨ g = PLN_OUT_STATUS.LEAD_VALID i

/-- A relation that everything done at the start of a pass keeps: CMP's state, the rectangles, a solve and the fields above. -/
structure PassRel (R : State → State → Prop) : Prop where
  refl : ∀ s, R s s
  trans : ∀ {a b c}, R a b → R b c → R a c
  cmp : ∀ (s : State) c, R s { s with cmp := c }
  rects : ∀ (s : State) x, R s { s with int := { s.int with rects := x } }
  solve : ∀ (s : State) cs f, R s (s.solveOutput cs f)
  put : ∀ (s : State) g v, passField g → R s (s.put g v)

section
variable {R : State → State → Prop}

theorem PassRel.foldOver (hR : PassRel R) {α : Type} {l : List α} {f : α → State → State} (h : ∀ x t, R t (f x t)) (s : State) :
    R s (foldOver l f s) := foldOver_rel hR.refl hR.trans (fun x _ => h x) s

theorem PassRel.latchRects (hR : PassRel R) (q : Nat) : R s (s.latchRects q) := hR.foldOver (fun r t => by
  dsimp only
  split
  · exact hR.refl t
  · exact hR.rects t _) s

theorem PassRel.showForming (hR : PassRel R) (q : Nat) : R s (s.showForming q) := by
  unfold State.showForming
  exact hR.trans (hR.trans (hR.put _ _ _ (.inl ⟨q, rfl⟩)) (hR.put _ _ _ (.inl ⟨q, rfl⟩))) (hR.put _ _ _ (.inr (.inl rfl)))

theorem PassRel.showDrift (hR : PassRel R) (q : Nat) : R s (s.showDrift q) := hR.put _ _ _ (.inr (.inr (.inr (.inl rfl))))

theorem PassRel.startPass (hR : PassRel R) (q : Nat) : R s (s.startPass q) := by
  unfold State.startPass
  split
  · exact hR.refl s
  · extract_lets alone joins cs rest1 parts skip off p0 p s1 c s2 s3 s4 s5
    have h3 : R s2 s3 := by
      refine hR.foldOver (fun f t => ?_) s2
      have hpln {g : Fld} (hg : g = PLN_OUT_STATUS.BACK_COMPLETE f ∨ g = PLN_OUT_STATUS.LEAD_VALID f) : passField g :=
        .inr (.inr (.inr (.inr (.inr ⟨f, hg⟩))))
      dsimp only
      split
      · exact hR.trans (hR.trans (hR.solve t cs f) (hR.put _ _ _ (hpln (.inl rfl)))) (hR.put _ _ _ (hpln (.inr rfl)))
      · exact hR.solve t cs f
    have h4 : R s3 s4 := by
      refine hR.foldOver (fun n t => ?_) s3
      dsimp only
      split
      · exact hR.refl t
      · exact hR.put _ _ _ (.inr (.inr (.inl ⟨n, rfl⟩)))
    have h5 : R s4 s5 := by
      unfold s5
      split
      · exact hR.foldOver (fun f t => hR.put t _ _ (.inr (.inr (.inr (.inr (.inl ⟨f, rfl⟩)))))) s4
      · exact hR.refl s4
    have h2 : R s s2 := hR.trans (hR.cmp s _) (hR.cmp s1 _)
    exact hR.trans (hR.trans (hR.trans (hR.trans (hR.trans (hR.trans h2 h3) h4) h5) (hR.latchRects q)) (hR.showForming q)) (hR.showDrift q)

theorem PassRel.pump (hR : PassRel R) (q : Nat) : R s (s.pump q) := by
  unfold State.pump
  split
  · exact hR.refl s
  · split_ifs
    · exact hR.refl s
    · exact hR.startPass q
    · exact hR.trans (hR.cmp s _) (hR.startPass q)
    · exact hR.refl s

theorem PassRel.askPass (hR : PassRel R) (kind : PassKind) (cs : List Nat) (q : Nat) : R s (s.askPass kind cs q) := by
  unfold State.askPass
  dsimp only
  split
  · exact hR.refl s
  · exact hR.trans (hR.trans (hR.trans (hR.cmp s _) (hR.pump q)) (hR.showForming q)) (hR.showDrift q)

end

/-! ### The mark of a tail -/

/-- Apart from the registers of the planes. -/
def offPln (a : Nat) : Prop := offSpan 0x1000000 0x1400000 a

theorem ev_offPln : Ev offPln anyPart := ⟨fun a ha => by
  have := evReg_outside ha
  unfold offPln offSpan
  omega, trivial⟩

theorem offPln_family {lo st n b : Nat} (ha : lo + st * n ≤ 0x1000000 ∨ 0x1400000 ≤ lo) (hb : 0x1400000 ≤ b) (hs : 0 < st) {i : Nat} :
    offPln (if i < n then lo + st * i else b) := offSpan_family ha hb hs

/-- The mark of a tail is read outside them. -/
theorem not_offPln_status (ho : o < 16) : ¬ offPln (PLN_OUT_STATUS o) := by
  rw [show PLN_OUT_STATUS o = _ from if_pos ho]
  unfold offPln offSpan
  omega

theorem passField_tail {g : Fld} (ho : o < 16) (hg : passField g) (v : Nat) :
    (s.put g v).get (PLN_OUT_STATUS.TAIL o) = s.get (PLN_OUT_STATUS.TAIL o) := by
  have apart (h : offPln g.reg) : (s.put g v).get (PLN_OUT_STATUS.TAIL o) = s.get (PLN_OUT_STATUS.TAIL o) :=
    State.get_congr (State.rd_put_other _ _ fun e : PLN_OUT_STATUS o = g.reg => not_offPln_status ho (e ▸ h))
  have same {f : Nat} (hr : g.reg = PLN_OUT_STATUS f) (hk : g.ok = true) (ha : g.hi < 3) :
      (s.put g v).get (PLN_OUT_STATUS.TAIL o) = s.get (PLN_OUT_STATUS.TAIL o) := by
    by_cases e : PLN_OUT_STATUS o = g.reg
    · exact State.get_put_apart _ _ hk (by simp [Fld.apart, e]; omega)
    · exact State.get_congr (State.rd_put_other _ _ e)
  rcases hg with ⟨i, e⟩ | e | ⟨i, e⟩ | e | ⟨i, e⟩ | ⟨i, rfl | rfl⟩
  · exact apart (e ▸ offPln_family (.inl (by decide)) (by decide) (by decide))
  · exact apart (e ▸ .inl (by decide))
  · exact apart (e ▸ offPln_family (.inl (by decide)) (by decide) (by decide))
  · exact apart (e ▸ .inl (by decide))
  · exact apart (e ▸ offPln_family (.inl (by decide)) (by decide) (by decide))
  · exact same rfl rfl (by simp)
  · exact same rfl rfl (by simp)

/-- Starting a pass leaves the mark of a tail. -/
theorem passRel_tail (ho : o < 16) : PassRel (fun s t => t.get (PLN_OUT_STATUS.TAIL o) = s.get (PLN_OUT_STATUS.TAIL o)) where
  refl _ := rfl
  trans h1 h2 := h2.trans h1
  cmp _ _ := rfl
  rects _ _ := rfl
  solve s cs f := by
    have hf : Fr anyDram offPln anyPart s (s.solveOutput cs f) := State.solveOutput_frame _ _ _ ev_offPln
      (offPln_family (.inl (by decide)) (by decide) (by decide)) trivial (.start trivial)
    exact hf.get_eq (not_offPln_status ho)
  put _ _ v hg := passField_tail ho hg v

/-! ### O41, tails -/

/-- What the end of a tail leaves to the next pass and to the host. -/
def State.tailShown (v : State) (o host : Nat) : State :=
  (((((v.put (PLN_OUT_STATUS.TAIL o) 0).pump host).showForming host).memBusy).showCommits)

theorem State.tailShown_pln (host : Nat) : (s.tailShown o host).pln = s.pln := by
  have hf : Fr anyDram anyReg (fun k => k ≠ .pln) (s.put (PLN_OUT_STATUS.TAIL o) 0) (s.tailShown o host) := by
    refine State.showCommits_frame _ (fun _ => trivial) ?_
    apply State.memBusy_frame <;> simp
    refine State.showForming_frame _ _ trivial trivial ?_
    apply State.pump_frame <;> simp
  exact hf.frame.2 .pln (by simp)

theorem State.memBusy_get (g : Fld) : s.memBusy.get g = s.get g := rfl

theorem State.tailShown_mark {host : Nat} (ho : o < 16) (hh : host < 16) : (s.tailShown o host).get (PLN_OUT_STATUS.TAIL o) = 0 := by
  let v := (s.put (PLN_OUT_STATUS.TAIL o) 0).pump host
  have hshow : (s.tailShown o host).get (PLN_OUT_STATUS.TAIL o) = ((v.showForming host).memBusy).get (PLN_OUT_STATUS.TAIL o) :=
    State.get_congr (State.showCommits_mark ho (.inr rfl))
  have hform : (v.showForming host).get (PLN_OUT_STATUS.TAIL o) = v.get (PLN_OUT_STATUS.TAIL o) :=
    State.get_congr (State.showForming_mark ho hh (.inr rfl))
  rw [hshow, State.memBusy_get, hform, (passRel_tail ho).pump host, State.get_put_same _ _ _ rfl, Nat.zero_mod]

theorem State.leaderOf_lt (ho : o < 16) : s.leaderOf o < 16 := by
  unfold State.leaderOf
  split
  · exact State.get_lt s (CMP_OUT_CUT.LEADER o)
  · exact ho

theorem tail_completes (dt : Nat) (hl : s.live = true) (hc : s.lan.coreStopped = false) (ho : o < arrayOutputs) (hin : o ∈ s.pln.tailRunning) :
    Completes (exec (.tailDone dt o) s) (fun t => t.pln.tailRunning = s.pln.tailRunning.erase o ∧ thas t.pln.tailPass o = false ∧
      t.get (PLN_OUT_STATUS.TAIL o) = 0 ∧
      let p := tget noPass s.pln.tailPass o
      tget [] t.pln.front o = (leadWords (tget [] p.leads o) false (((s.tick dt).passView p (s.leaderOf o)).formImage []
        p.throttle s.cal.pattern o)).foldl (fun a e => tset a e.1 e.2) (leadWords (tget [] p.leads o) true (tget [] s.pln.front o))) := by
  refine ⟨_, rfl, ?_⟩
  have hgo : (s.tick dt).pln.tailRunning.contains o = true := List.contains_iff_mem.mpr hin
  rw [doTailDone, State.tick_onCoreIf dt _ _ hl hc hgo]
  extract_lets p host p1 leads img kept all pln v
  have hpln : (v.tailShown o host).pln = v.pln := State.tailShown_pln host
  have htail : (v.tailShown o host).get (PLN_OUT_STATUS.TAIL o) = 0 := State.tailShown_mark ho (State.leaderOf_lt ho)
  change (v.tailShown o host).pln.tailRunning = _ ∧ thas (v.tailShown o host).pln.tailPass o = false ∧ (v.tailShown o host).get _ = 0 ∧
    tget [] (v.tailShown o host).pln.front o = _
  rw [hpln]
  exact ⟨rfl, thas_tdel_same _ _, htail, tget_tset_same _ _ _ _⟩

/-! ### O41, writeback frames -/

/-- A writeback frame is counted and shown with its CFN and how it ended (Table CMP-5). -/
def State.frameCounted (s : State) (o cfn : Nat) (bad : Bool) : State :=
  (((s.wrN (CMP_OUT_WB_CFN o) cfn).putB (CMP_OUT_WB_STATUS.DONE o) (!bad)).putB (CMP_OUT_WB_STATUS.INCOMPLETE o) bad).inc
    (CMP_OUT_WB_STATUS.FRAMES o)

theorem cfn_ne_status (ho : o < 20) : CMP_OUT_WB_CFN o ≠ CMP_OUT_WB_STATUS o := by
  rw [show CMP_OUT_WB_CFN o = _ from if_pos ho, show CMP_OUT_WB_STATUS o = _ from if_pos ho]
  omega

theorem State.frameCounted_cfn (ho : o < 20) (cfn : Nat) (bad : Bool) : (s.frameCounted o cfn bad).rdN (CMP_OUT_WB_CFN o) = cfn % 2 ^ 32 := by
  have hne := cfn_ne_status ho
  have hrd : (s.frameCounted o cfn bad).rd (CMP_OUT_WB_CFN o) = (s.wrN (CMP_OUT_WB_CFN o) cfn).rd (CMP_OUT_WB_CFN o) :=
    (State.rd_put_other _ _ hne).trans ((State.rd_put_other _ _ hne).trans (State.rd_put_other _ _ hne))
  rw [State.rdN, hrd]
  exact State.rdN_wrN_same _ _ _

theorem State.frameCounted_done (cfn : Nat) (bad : Bool) : (s.frameCounted o cfn bad).flag (CMP_OUT_WB_STATUS.DONE o) = !bad := by
  unfold State.frameCounted State.inc State.putB
  rw [State.flag, State.get_put_apart _ _ rfl (by simp [Fld.apart]), State.get_put_apart _ _ rfl (by simp [Fld.apart]),
    State.get_put_same _ _ _ rfl]
  cases bad <;> rfl

theorem State.frameCounted_incomplete (cfn : Nat) (bad : Bool) :
    (s.frameCounted o cfn bad).flag (CMP_OUT_WB_STATUS.INCOMPLETE o) = bad := by
  unfold State.frameCounted State.inc State.putB
  rw [State.flag, State.get_put_apart _ _ rfl (by simp [Fld.apart]), State.get_put_same _ _ _ rfl]
  cases bad <;> rfl

theorem State.frameCounted_frames (ho : o < 20) (cfn : Nat) (bad : Bool) :
    (s.frameCounted o cfn bad).get (CMP_OUT_WB_STATUS.FRAMES o) = (s.get (CMP_OUT_WB_STATUS.FRAMES o) + 1) % 2 ^ 16 := by
  unfold State.frameCounted State.inc State.putB
  rw [State.get_put_same _ _ _ rfl, State.get_put_apart _ _ rfl (by simp [Fld.apart]), State.get_put_apart _ _ rfl (by simp [Fld.apart]),
    State.get_congr (State.rd_wrN_other _ _ (cfn_ne_status ho).symm),
    show (CMP_OUT_WB_STATUS.FRAMES o).hi + 1 - (CMP_OUT_WB_STATUS.FRAMES o).lo = 16 from rfl]

/-- Frames without a result move no register. -/
theorem State.rectNoWb_regs : (s.rectNoWb o).regs = s.regs ∧ (s.rectNoWb o).cmp = s.cmp ∧
    ∀ c, (s.rectNoWb o).eventCount c = s.eventCount c := by
  unfold State.rectNoWb
  refine ⟨?_, ?_, fun c => ?_⟩
  · apply foldOver_keeps State.regs
    exact fun _ _ => rfl
  · apply foldOver_keeps State.cmp
    exact fun _ _ => rfl
  · apply foldOver_keeps (fun s => s.eventCount c)
    exact fun _ _ => rfl

/-- What the end of a frame says to the host. -/
def State.frameEnded (s : State) (o cfn lfn : Nat) (bad : Bool) : State :=
  if bad then ((s.frameCounted o cfn bad).rectNoWb o).raise 0x0B05 o cfn 0 else (s.frameCounted o cfn bad).raise 0x0B04 o cfn lfn

theorem State.frameEnded_keeps (ho : o < 20) (cfn lfn : Nat) (bad : Bool) : (s.frameEnded o cfn lfn bad).cmp = s.cmp ∧
    ∀ a, a = CMP_OUT_WB_CFN o ∨ a = CMP_OUT_WB_STATUS o → (s.frameEnded o cfn lfn bad).rd a = (s.frameCounted o cfn bad).rd a := by
  obtain ⟨hregs, hcmp, -⟩ := State.rectNoWb_regs (s := s.frameCounted o cfn bad) (o := o)
  have hev : ∀ a, a = CMP_OUT_WB_CFN o ∨ a = CMP_OUT_WB_STATUS o → evReg a = false := by
    intro a ha
    rw [show CMP_OUT_WB_CFN o = _ from if_pos ho, show CMP_OUT_WB_STATUS o = _ from if_pos ho] at ha
    by_contra hne
    have := evReg_outside (by simpa using hne)
    omega
  cases bad
  · rw [show s.frameEnded o cfn lfn false = (s.frameCounted o cfn false).raise 0x0B04 o cfn lfn from rfl]
    exact ⟨State.raise_cmp _ _ _ _ _, fun a ha => State.rd_raise _ _ _ _ _ (hev a ha)⟩
  · rw [show s.frameEnded o cfn lfn true = ((s.frameCounted o cfn true).rectNoWb o).raise 0x0B05 o cfn 0 from rfl]
    exact ⟨(State.raise_cmp _ _ _ _ _).trans hcmp, fun a ha => (State.rd_raise _ _ _ _ _ (hev a ha)).trans (State.rd_congr hregs a)⟩

theorem State.frameEnded_raised (cfn lfn : Nat) (bad : Bool) :
    if bad then Raised 0x0B05 s (s.frameEnded o cfn lfn bad) else Raised 0x0B04 s (s.frameEnded o cfn lfn bad) := by
  cases bad
  · exact State.raise_raised (s.frameCounted o cfn false) 0x0B04 o cfn lfn
  · obtain ⟨-, -, hcount⟩ := State.rectNoWb_regs (s := s.frameCounted o cfn true) (o := o)
    have h : Raised 0x0B05 ((s.frameCounted o cfn true).rectNoWb o) (s.frameEnded o cfn lfn true) := State.raise_raised _ _ _ _ _
    rwa [Raised, hcount] at h

theorem writeback_completes (dt : Nat) (lost : Bool) (w : WbSt) (hl : s.live = true) (hc : s.lan.coreStopped = false) (ho : o < outputs)
    (hw : s.cmp.wb.find? (fun w => w.output == o && w.applied) = some w) :
    Completes (exec (.writebackDone dt o lost) s) (fun t => t.rdN (CMP_OUT_WB_CFN o) = w.cfn % 2 ^ 32 ∧
      t.flag (CMP_OUT_WB_STATUS.DONE o) = !(w.incomplete || lost) ∧ t.flag (CMP_OUT_WB_STATUS.INCOMPLETE o) = (w.incomplete || lost) ∧
      t.get (CMP_OUT_WB_STATUS.FRAMES o) = (s.get (CMP_OUT_WB_STATUS.FRAMES o) + 1) % 2 ^ 16 ∧
      (∀ x ∈ t.cmp.wb, ¬ (x.output = o ∧ x.applied = true)) ∧
      (if w.incomplete || lost then Raised 0x0B05 s t else Raised 0x0B04 s t)) := by
  let v : State := { s.tick dt with cmp := { s.cmp with wb := s.cmp.wb.filter (fun x => !(x.output == o && x.applied)) } }
  have heq : doWritebackDone dt o lost s = v.frameEnded o w.cfn w.lfn (w.incomplete || lost) := by
    unfold doWritebackDone
    simp only [show (s.tick dt).cmp.wb.find? _ = some w from hw]
    exact State.tick_onCoreIf dt true _ hl hc rfl
  refine ⟨_, rfl, ?_⟩
  rw [heq]
  obtain ⟨hcmp, hrd⟩ := State.frameEnded_keeps (s := v) ho w.cfn w.lfn (w.incomplete || lost)
  have hget (g : Fld) (hg : g.reg = CMP_OUT_WB_STATUS o) : (v.frameEnded o w.cfn w.lfn (w.incomplete || lost)).get g =
      (v.frameCounted o w.cfn (w.incomplete || lost)).get g := State.get_congr (hrd _ (.inr hg))
  refine ⟨?_, ?_, ?_, ?_, fun x hx => ?_, State.frameEnded_raised (s := v) _ _ _⟩
  · rw [State.rdN, hrd _ (.inl rfl)]
    exact State.frameCounted_cfn ho _ _
  · rw [State.flag, hget _ rfl]
    exact State.frameCounted_done _ _
  · rw [State.flag, hget _ rfl]
    exact State.frameCounted_incomplete _ _
  · rw [hget _ rfl]
    exact State.frameCounted_frames (s := v) ho _ _
  · rw [hcmp] at hx
    rintro ⟨ho, happ⟩
    simpa [ho, happ] using (List.mem_filter.mp hx).2

/-- Settles O41: a pass marks each copy that it forms and only runs of the queues follow, a tail's planes stand through the next pass,
and a frame's end is counted before its event. -/
theorem passesTailsAndWritebackComplete : Obligations.PassesTailsAndWritebackComplete :=
  ⟨fun dt _ _ _ _ hl hc ho hp hrun hcmp hv hon hgw => formedPass_completes dt hl hc ho hp hrun hcmp hv hon hgw,
    fun dt _ _ _ hl hc ho hp hrun hcmp hv hon => voidedPass_completes dt hl hc ho hp hrun hcmp hv hon,
    fun dt _ _ hl hc ho hin => tail_completes dt hl hc ho hin,
    fun dt _ lost w _ hl hc ho hw => writeback_completes dt lost w hl hc ho hw⟩

end Sys2Proof.Machine
end

section
/-! What the resets of the host leave of a function's status, of HIF's registers and of HIF's state (R101 to R106). -/
namespace Sys2Proof.Machine

variable {s t u : State} {f q c : Nat} {g : Fld}

/-! ### A function's status beside its held events -/

/-- A field of a function's status other than HELD. -/
structure FnField (g : Fld) : Prop where
  fn : ∃ f, f < 256 ∧ g.reg = HIF_FN_STATUS f
  held : g.hi < 4 ∨ 10 < g.lo

theorem FnField.reg_eq (hg : FnField g) : ∃ f, f < 256 ∧ g.reg = 0x302004 + 0x10 * f := by
  obtain ⟨f, hf, e⟩ := hg.fn
  exact ⟨f, hf, e.trans (if_pos hf)⟩

theorem FnField.flr (hf : f < 256) : FnField (HIF_FN_STATUS.FLR f) := ⟨⟨f, hf, rfl⟩, .inl (by simp)⟩
theorem FnField.me (hf : f < 256) : FnField (HIF_FN_STATUS.ME f) := ⟨⟨f, hf, rfl⟩, .inl (by simp)⟩
theorem FnField.gen (hf : f < 256) : FnField (HIF_FN_STATUS.GEN f) := ⟨⟨f, hf, rfl⟩, .inl (by simp)⟩

/-- Registers that are not a function's status. -/
def offStatus (a : Nat) : Prop := a % 16 ≠ 4 ∨ a < 0x302000 ∨ 0x303000 ≤ a

theorem FnField.get_of_rd (hg : FnField g) (h : ∀ a, ¬ offStatus a → t.rd a = s.rd a) : t.get g = s.get g := by
  obtain ⟨f, hf, e⟩ := hg.reg_eq
  refine State.get_congr (h _ ?_)
  unfold offStatus
  omega

theorem FnField.put (hg : FnField g) {h : Fld} (hh : offStatus h.reg) (v : Nat) : (s.put h v).get g = s.get g :=
  hg.get_of_rd fun _ ha => State.rd_put_other _ _ fun e => ha (e ▸ hh)

theorem FnField.put_held (hg : FnField g) (f v : Nat) : (s.put (HIF_FN_STATUS.HELD f) v).get g = s.get g := by
  by_cases e : g.reg = HIF_FN_STATUS f
  · refine State.get_put_apart _ _ rfl ?_
    have := hg.held
    simp [Fld.apart, e]
    omega
  · exact State.get_congr (State.rd_put_other _ _ e)

theorem State.alert_get (f : Nat) (g : Fld) : (s.alert f).get g = s.get g := by
  unfold State.alert
  split <;> rfl

theorem offStatus_drops (hf : f < 256) : offStatus (HIF_FN_DROPS f) := by
  rw [show HIF_FN_DROPS f = _ from if_pos hf]
  unfold offStatus
  omega

theorem FnField.showHeld (hg : FnField g) (hf : f < 256) : (s.showHeld f).get g = s.get g := by
  have htrim : (s.trimHeld f).get g = s.get g := by
    unfold State.trimHeld
    split
    · rfl
    · unfold State.dropHeld
      refine (State.alert_get f g).trans ((hg.get_of_rd fun a ha => State.rd_wrN_other _ _ fun e => ha (e ▸ offStatus_drops hf)).trans ?_)
      exact hg.put (.inr (.inr (by decide))) _
  exact (hg.put_held f _).trans htrim

theorem FnField.hold (hg : FnField g) (hq : queueFn q < 256) (e : Event) : (s.hold q e).get g = s.get g := by
  unfold State.hold
  dsimp only
  split_ifs
  · exact (State.alert_get _ g).trans (hg.put (offStatus_drops hq) _)
  · exact (hg.showHeld hq).trans (hg.put (.inr (.inr (by decide))) _)
  · exact hg.put (.inr (.inr (by decide))) _

theorem FnField.countRate (hg : FnField g) (q code : Nat) : (s.countRate q code).get g = s.get g := by
  unfold State.countRate
  split
  · rfl
  · exact hg.put (.inr (.inr (by decide))) _

theorem FnField.logEvent (hg : FnField g) (e : Event) : (s.logEvent e).get g = s.get g :=
  (hg.put (.inr (.inr (by decide))) _).trans (hg.put (.inr (.inr (by decide))) _)

theorem FnField.passEvent (hg : FnField g) (hq : queueFn q < 256) (e : Event) : (s.passEvent q e).get g = s.get g := by
  unfold State.passEvent
  extract_lets pass masked infoOff s1 s2 s3 mpass s4
  have h2 : s2.get g = s.get g := by
    unfold s2
    split
    · exact (hg.logEvent e).trans (hg.countRate q e.code)
    · exact hg.countRate q e.code
  have h3 : s3.get g = s.get g := by
    unfold s3
    split
    · exact (hg.hold hq e).trans h2
    · exact h2
  split
  · have h4 : s4.get g = s.get g := (hg.countRate devQ e.code).trans h3
    split
    · exact (hg.hold (by decide) _).trans h4
    · exact h4
  · exact h3

/-- An event moves no field of a function's status beside HELD. -/
theorem FnField.deliver (hg : FnField g) (e : Event) (w : Nat) : (s.deliver e w).get g = s.get g := by
  have hdev : queueFn devQ < 256 := by decide
  unfold State.deliver
  extract_lets i s1 cs
  have hctx {c : Nat} (hc : s1.ctxTakesEvents c = true) (e : Event) : (s1.passEvent c e).get g = s.get g :=
    hg.passEvent (State.queueFn_lt hc) e
  split
  · refine (hg.passEvent hdev e).trans ?_
    refine foldOver_rel (R := fun s t : State => t.get g = s.get g) (fun _ => rfl) (fun h1 h2 => h2.trans h1) (fun c hc t => ?_) s1
    exact hg.passEvent (State.queueFn_lt (by simpa using (List.mem_filter.mp hc).2)) _
  · split
    · split
      · exact hctx (by assumption) e
      · exact hg.passEvent hdev _
    · split_ifs with _ hw
      · exact hg.passEvent hdev _
      · exact hctx hw e
      · exact hg.passEvent hdev _
    · exact hg.passEvent hdev e

/-! ### What the loss of a host leaves -/

/-- HIF as it stands beside its resets, VF Enable and the held events: the functions' status, the count of host-reset events, HIF's
own registers and state. -/
structure HostKept (s t : State) : Prop where
  fn : ∀ g, FnField g → t.get g = s.get g
  count : t.eventCount 0x0F04 = s.eventCount 0x0F04
  rd : ∀ a, 0x300000 ≤ a → a < 0x301000 → a ≠ HIF_STATUS → t.rd a = s.rd a
  status : ∀ g, g.reg = HIF_STATUS → HIF_STATUS.NUM_VFS.apart g = true → t.get g = s.get g
  vfs : s.get HIF_STATUS.NUM_VFS = 0 → t.get HIF_STATUS.NUM_VFS = 0
  hif : t.hif = { s.hif with resetting := t.hif.resetting }
  resets : ∀ c ∈ s.hif.resetting, c ∈ t.hif.resetting

theorem HostKept.refl (s : State) : HostKept s s := ⟨fun _ _ => rfl, rfl, fun _ _ _ _ => rfl, fun _ _ _ => rfl, id, rfl, fun _ => id⟩

theorem HostKept.trans (h1 : HostKept s t) (h2 : HostKept t u) : HostKept s u where
  fn g hg := (h2.fn g hg).trans (h1.fn g hg)
  count := h2.count.trans h1.count
  rd a ha hb hc := (h2.rd a ha hb hc).trans (h1.rd a ha hb hc)
  status g hg ha := (h2.status g hg ha).trans (h1.status g hg ha)
  vfs h := h2.vfs (h1.vfs h)
  hif := by rw [h2.hif, h1.hif]
  resets c hc := h2.resets c (h1.resets c hc)

theorem HostKept.foldOver {α : Type} {l : List α} {f : α → State → State} (h : ∀ x t, HostKept t (f x t)) (s : State) :
    HostKept s (foldOver l f s) := foldOver_rel HostKept.refl HostKept.trans (fun x _ => h x) s

/-- HIF and its registers read as before, with the functions' fields and the count of events. -/
theorem HostKept.of_rd (hfn : ∀ g, FnField g → t.get g = s.get g) (hcount : t.eventCount 0x0F04 = s.eventCount 0x0F04)
    (hrd : ∀ a, 0x300000 ≤ a → a < 0x301000 → t.rd a = s.rd a) (hhif : t.hif = s.hif) : HostKept s t where
  fn := hfn
  count := hcount
  rd a ha hb _ := hrd a ha hb
  status g hg _ := State.get_congr (hrd _ (by rw [hg]; decide) (by rw [hg]; decide))
  vfs h := (State.get_congr (f := HIF_STATUS.NUM_VFS) (hrd _ (by decide) (by decide))).trans h
  hif := by rw [hhif]
  resets c hc := by rwa [hhif]

/-- Apart from HIF's registers that stand for the device and its functions. -/
def offHost (a : Nat) : Prop := offSpan 0x300000 0x303000 a

theorem offHost_family {lo st n b : Nat} (ha : 0x303000 ≤ lo) (hb : 0x303000 ≤ b) {i : Nat} : offHost (if i < n then lo + st * i else b) := by
  unfold offHost offSpan
  split <;> omega

theorem HostKept.of_host (hrd : ∀ a, ¬ offHost a → t.rd a = s.rd a) (hcount : t.eventCount 0x0F04 = s.eventCount 0x0F04)
    (hhif : t.hif = s.hif) : HostKept s t := by
  refine .of_rd (fun g hg => ?_) hcount (fun a ha hb => hrd a (by unfold offHost offSpan; omega)) hhif
  obtain ⟨f, hf, e⟩ := hg.reg_eq
  exact State.get_congr (hrd _ (by unfold offHost offSpan; omega))

theorem HostKept.of_frame (h : Fr anyDram offHost (fun k => k ≠ .hif ∧ k ≠ .int) s t) : HostKept s t :=
  .of_host (fun _ ha => h.rd_eq ha) (State.eventCount_congr (h.frame.2 .int (by simp)) _) (h.frame.2 .hif (by simp))

theorem HostKept.put {g : Fld} (hg : offHost g.reg) (v : Nat) : HostKept s (s.put g v) := .of_frame (State.put_frame _ _ _ hg (.start trivial))

/-! ### Events -/

/-- An event of a code is counted. -/
def State.counted (s : State) (code : Nat) : State :=
  { s with int := { s.int with codeCount := tmod 0 s.int.codeCount code (fun n => (n + 1) % 2 ^ 32) } }

theorem State.counted_raised (code : Nat) : Raised code s (s.counted code) := tget_tset_same _ _ _ _

theorem evReg_hif {a : Nat} (ha : 0x300000 ≤ a) (hb : a < 0x301000) : evReg a = false := by
  by_contra hne
  simp only [evReg, INT_STATUS, INT_DROPS, INT_SUPPRESSED, INT_LOG_STATUS, Bool.not_eq_false, Bool.or_eq_true, Bool.and_eq_true, beq_iff_eq,
    decide_eq_true_eq] at hne
  omega

theorem HostKept.deliver (e : Event) (w : Nat) : HostKept (s.counted e.code) (s.deliver e w) :=
  .of_rd (fun _ hg => hg.deliver e w) (by rw [State.eventCount, State.deliver_codeCount]; rfl)
    (fun a ha hb => (EventOnly.deliver s e w).2 a (evReg_hif ha hb)) (s.deliver_hif e w)

theorem HostKept.counted {code : Nat} (hc : code ≠ 0x0F04) : HostKept s (s.counted code) :=
  .of_host (fun _ _ => rfl) (tget_tset_other _ _ _ hc.symm) rfl

/-- Another event than a host reset leaves them. -/
theorem HostKept.raise {code : Nat} (hc : code ≠ 0x0F04) (a0 a1 a2 : Nat) : HostKept s (s.raise code a0 a1 a2) :=
  (HostKept.counted hc).trans (HostKept.deliver (s.mkEvent code devQ a0 a1 a2) devQ)

theorem HostKept.raiseC {code : Nat} (hc : code ≠ 0x0F04) (c a0 a1 a2 : Nat) : HostKept s (s.raiseC code c a0 a1 a2) :=
  (HostKept.counted hc).trans (HostKept.deliver (s.mkEvent code c a0 a1 a2) c)

theorem HostKept.showHeld (hf : f < 256) : HostKept s (s.showHeld f) := by
  refine .of_rd (fun _ hg => hg.showHeld hf) (by rw [State.eventCount, State.showHeld_codeCount]; rfl) (fun a ha hb => ?_) ?_
  · exact (EventOnly.showHeld s hf).2 a (evReg_hif ha hb)
  · obtain ⟨⟨r, i, h⟩, -⟩ := EventOnly.showHeld s hf
    rw [h]

/-! ### Passes and resets of contexts -/

theorem HostKept.solveOutput (cs : List Nat) (o : Nat) : HostKept s (s.solveOutput cs o) := by
  have hcol : ∀ i, offHost (COL_OUT_STATUS i) := fun i => offHost_family (by decide) (by decide)
  unfold State.solveOutput
  dsimp only
  split
  · exact .refl s
  · refine (HostKept.put (hcol o) 0).trans (HostKept.foldOver (fun v t => ?_) _)
    split
    · exact .of_frame (State.keepEst_frame _ _ _ (by simp) ((Fr.setCol (by simp)).mpr (.start trivial)))
    · exact (HostKept.put (hcol o) 1).trans (HostKept.raise (by decide) _ _ _)

theorem passRel_host : PassRel HostKept where
  refl := .refl
  trans := .trans
  cmp _ _ := .of_host (fun _ _ => rfl) rfl rfl
  rects _ _ := .of_host (fun _ _ => rfl) rfl rfl
  solve _ cs f := .solveOutput cs f
  put s g v hg := by
    refine .put ?_ v
    rcases hg with ⟨i, e⟩ | e | ⟨i, e⟩ | e | ⟨i, e⟩ | ⟨i, rfl | rfl⟩
    · exact e ▸ offHost_family (by decide) (by decide)
    · exact e ▸ .inr (by decide)
    · exact e ▸ offHost_family (by decide) (by decide)
    · exact e ▸ .inr (by decide)
    · exact e ▸ offHost_family (by decide) (by decide)
    · exact offHost_family (by decide) (by decide)
    · exact offHost_family (by decide) (by decide)

theorem HostKept.toggleCtx (c : Nat) (p : Nat → Bool) : HostKept s (s.toggleCtx c p) :=
  .of_frame (State.toggleCtx_frame _ _ _ (fun _ => offHost_family (by decide) (by decide)) (.start trivial))

/-- A reset of a context adds to the resets alone. -/
theorem HostKept.resetContext (c : Nat) : HostKept s (s.resetContext c) ∧ c ∈ (s.resetContext c).hif.resetting := by
  unfold State.resetContext
  split
  · next h => exact ⟨.refl s, List.contains_iff_mem.mp h⟩
  · extract_lets s0 hif s1 os
    have h0 : HostKept s s0 := .toggleCtx c _
    have h1 : HostKept s0 s1 :=
      ⟨fun _ _ => rfl, rfl, fun _ _ _ _ => rfl, fun _ _ _ => rfl, id, rfl, fun _ hk => List.mem_append_left _ hk⟩
    have hin : c ∈ s1.hif.resetting := List.mem_append_right _ (List.mem_singleton.mpr rfl)
    split
    · exact ⟨h0.trans h1, hin⟩
    · have h2 : HostKept s1 (Machine.foldOver os (fun o t => t.askPass .reset [] o) s1) :=
        passRel_host.foldOver (fun _ _ => passRel_host.askPass _ _ _) s1
      exact ⟨(h0.trans h1).trans h2, h2.resets c hin⟩

/-! ### Layers that go off -/

theorem HostKept.layerOff (n o line cause : Nat) (remote : Bool) : HostKept s (s.layerOff n o line cause remote) := by
  have hlyr : ∀ i, offHost (CMP_LYR_STATUS i) := fun i => offHost_family (by decide) (by decide)
  have hout : ∀ i, offHost (CMP_OUT_UNDERRUNS i) := fun i => offHost_family (by decide) (by decide)
  unfold State.layerOff
  extract_lets running cs on c s1 s2
  split
  · exact .refl s
  · have h1 : HostKept s s1 := (HostKept.toggleCtx c _).trans (.foldOver (fun p t => .of_frame
      (State.markOff_frame _ _ _ _ _ _ (hlyr n) hout (by simp) (by simp) (.start trivial))) _)
    have h2 : HostKept s1 s2 := by
      refine (HostKept.trans ?_ (HostKept.put (hlyr n) _)).trans (HostKept.raiseC (by decide) _ _ _ _)
      exact .of_frame (State.showOffLine_frame _ _ _ _ (offHost_family (by decide) (by decide)) (offHost_family (by decide) (by decide))
        (.start trivial))
    split
    · refine (h1.trans h2).trans (.of_frame (State.sendDrop_frame _ _ _ _ (by simp) (State.inc_frame _ _ (.inr (by decide)) ?_)))
      exact State.takeDrop_frame _ _ _ _ _ (by simp) (.start trivial)
    · exact h1.trans h2

theorem HostKept.dropHostLayers (f : Nat) (lines : List Nat) : HostKept s (s.dropHostLayers f lines) := by
  unfold State.dropHostLayers
  refine HostKept.foldOver (fun n t => ?_) s
  split
  · exact .refl t
  · exact .layerOff _ _ _ _ _

/-! ### A host read of CFG that ends -/

theorem HostKept.reportFail (x : LoadFail) : HostKept s (s.reportFail x) := by
  unfold State.reportFail State.putB
  have hcfg (t : State) (g : Fld) (v : Nat) (h : g.reg < 0x300000) : HostKept t (t.put g v) := .put (.inl h) v
  refine HostKept.trans ?_ (HostKept.raise (by decide) _ _ _)
  exact ((((hcfg _ _ _ (by decide)).trans (hcfg _ _ _ (by decide))).trans (hcfg _ _ _ (by decide))).trans (hcfg _ _ _ (by decide))).trans
    (hcfg _ _ _ (by decide))

/-- The VFs are taken away. -/
theorem HostKept.noVfs : HostKept s (s.put HIF_STATUS.NUM_VFS 0) where
  fn _ hg := hg.put (.inr (.inl (by decide))) 0
  count := rfl
  rd _ _ _ hne := State.rd_put_other _ _ hne
  status _ _ ha := State.get_put_apart _ _ rfl ha
  vfs _ := State.get_put_same _ _ _ rfl
  hif := rfl
  resets _ := id

theorem HostKept.goFree : HostKept s s.goFree := by
  have hput (t : State) (g : Fld) (v : Nat) (h : g.reg < 0x300000) : HostKept t (t.put g v) := .put (.inl h) v
  have hfree (t : State) : HostKept t (t.enterDpll dpllFree) := by
    rw [State.enterDpll_free]
    exact (hput t _ _ (by decide)).trans (.of_host (fun _ _ => rfl) rfl rfl)
  unfold State.goFree
  split_ifs
  · exact .refl s
  · exact hfree s
  · exact ((hput s _ _ (by decide)).trans (hput _ _ _ (by decide))).trans (hfree _)

theorem HostKept.hbUpdate : HostKept s s.hbUpdate := by
  have hput (t : State) (g : Fld) (v : Nat) (h : 0x303000 ≤ g.reg) : HostKept t (t.put g v) := .put (.inr h) v
  unfold State.hbUpdate
  extract_lets cause s1 lmp s2
  have h1 : HostKept s s1 := hput s _ _ (by decide)
  have hlmp (t : State) (x : LmpSt) : HostKept t { t with lmp := x } := .of_host (fun _ _ => rfl) rfl rfl
  have h2 : HostKept s1 s2 := ((hlmp s1 _).trans (hput _ _ _ (by decide))).trans
    (.foldOver (fun n t => .of_frame (State.scanDark_frame _ _ (by simp) (by simp) (.start trivial))) _)
  split_ifs
  · exact h1.trans h2
  · refine ((h1.trans h2).trans ?_).trans (.raise (by decide) _ _ _)
    exact (hput s2 _ _ (by decide)).trans (hput _ _ _ (by decide))
  · exact h1.trans (hlmp s1 _)
  · exact h1

theorem HostKept.setCfg (x : CfgSt) : HostKept s { s with cfg := x } := .of_host (fun _ _ => rfl) rfl rfl

theorem HostKept.setGlb (x : GlbSt) : HostKept s { s with glb := x } := .of_host (fun _ _ => rfl) rfl rfl

theorem HostKept.idleShown : HostKept s s.idleShown := by
  have hput (t : State) (g : Fld) (v : Nat) (h : g.reg < 0x300000) : HostKept t (t.put g v) := .put (.inl h) v
  unfold State.idleShown
  exact (((HostKept.setCfg _).trans (hput _ _ _ (by decide))).trans (hput _ _ _ (by decide))).trans .noVfs

theorem HostKept.enterSafeIdle : HostKept s s.enterSafeIdle := by
  have hnote (t : State) : HostKept t t.noteFallback := .setGlb _
  rw [State.enterSafeIdle_eq]
  exact ((HostKept.idleShown.trans .goFree).trans (hnote _)).trans .hbUpdate

theorem HostKept.dropReload (x : LoadFail) : HostKept s (s.dropReload x) := by
  have hput (t : State) (g : Fld) (v : Nat) (h : g.reg < 0x300000) : HostKept t (t.put g v) := .put (.inl h) v
  rw [State.dropReload_eq]
  refine ((HostKept.trans ?_ (.reportFail x)).trans (hput _ _ _ (by decide))).trans (hput _ _ _ (by decide))
  exact .of_host (fun _ _ => rfl) rfl rfl

theorem HostKept.hostReadFails : HostKept s s.hostReadFails := by
  unfold State.hostReadFails
  split
  · next h =>
    obtain h3 | h5 := h.1
    · rw [State.loadFailed_lastSource (.inr h3)]
      exact (HostKept.reportFail _).trans .enterSafeIdle
    · rw [State.loadFailed_reload (.inr h5)]
      exact .dropReload _
  · exact .refl s

/-- No host read ends where CFG does not load. -/
theorem State.hostReadFails_none (h : s.cfg.load = 0) : s.hostReadFails = s := by
  unfold State.hostReadFails
  exact if_neg (by simp [h])

end Sys2Proof.Machine
end

section
/-! The functions that PERST_N, a link-down and a function-level reset take down (R103 to R106). -/
namespace Sys2Proof.Machine

variable {s t u : State} {f q c lo : Nat} {g : Fld}

/-! ### A generation toggles (R103) -/

theorem State.toggleGen_get (h : (HIF_FN_STATUS.GEN f).apart g = true) : (s.toggleGen f).get g = s.get g := State.get_put_apart _ _ rfl h

theorem State.toggleGen_gen : (s.toggleGen f).get (HIF_FN_STATUS.GEN f) = 1 - s.get (HIF_FN_STATUS.GEN f) := by
  unfold State.toggleGen
  rw [State.get_put_same _ _ _ rfl]
  exact Nat.mod_eq_of_lt (by simp)

/-- No tag of the new generation is outstanding. -/
theorem State.toggleGen_tagCount : (s.toggleGen f).tagCount f false = 0 := by
  refine List.length_eq_zero_iff.mpr (List.filter_eq_nil_iff.mpr fun g hg => ?_)
  obtain ⟨x, -, rfl⟩ := List.mem_map.mp hg
  by_cases hx : x.fn = f <;> simp [hx]

theorem State.toggleGen_other (hne : g.reg ≠ HIF_FN_STATUS f) : (s.toggleGen f).get g = s.get g :=
  State.get_congr (State.rd_put_other _ _ hne)

/-! ### A function goes down (R104, R106) -/

theorem fnStatus_apart_of_ne {a b : Nat} (ha : a < 256) (hb : b < 256) (h : a ≠ b) : HIF_FN_STATUS a ≠ HIF_FN_STATUS b := by
  rw [show HIF_FN_STATUS a = _ from if_pos ha, show HIF_FN_STATUS b = _ from if_pos hb]
  omega

/-- A function loses its host: no request, a new generation, and one host-reset event. -/
def State.fnDown (s : State) (f : Nat) : State := ((s.put (HIF_FN_STATUS.ME f) 0).toggleGen f).raise 0x0F04 f 1 0

/-- What taking functions down leaves. -/
structure DownKept (s t : State) : Prop where
  only : ∃ r i tg ms, t = { s with regs := r, int := i, hif := { s.hif with tags := tg, msix := ms } }
  rd : ∀ a, 0x300000 ≤ a → a < 0x301000 → t.rd a = s.rd a

theorem DownKept.refl (s : State) : DownKept s s := ⟨⟨_, _, _, _, rfl⟩, fun _ _ _ => rfl⟩

theorem DownKept.trans (h1 : DownKept s t) (h2 : DownKept t u) : DownKept s u := by
  obtain ⟨⟨r1, i1, a1, b1, e1⟩, g1⟩ := h1
  obtain ⟨⟨r2, i2, a2, b2, e2⟩, g2⟩ := h2
  exact ⟨⟨r2, i2, a2, b2, by rw [e2, e1]⟩, fun a ha hb => (g2 a ha hb).trans (g1 a ha hb)⟩

theorem DownKept.of_events (h : EventOnly s t) : DownKept s t := by
  obtain ⟨⟨r, i, e⟩, g⟩ := h
  exact ⟨⟨r, i, _, _, e⟩, fun a ha hb => g a (evReg_hif ha hb)⟩

theorem DownKept.clearMsix (f : Nat) : DownKept s (s.clearMsix f) := ⟨⟨_, _, _, _, rfl⟩, fun _ _ _ => rfl⟩

theorem DownKept.raise (code a0 a1 a2 : Nat) : DownKept s (s.raise code a0 a1 a2) :=
  .of_events (EventOnly.deliver s (s.mkEvent code devQ a0 a1 a2) devQ)

theorem fnStatus_ne {a : Nat} (hf : f < 256) (hb : a < 0x301000) : a ≠ HIF_FN_STATUS f := by
  rw [show HIF_FN_STATUS f = _ from if_pos hf]
  omega

theorem DownKept.fnDown (hf : f < 256) : DownKept s (s.fnDown f) := by
  have hdown : DownKept s ((s.put (HIF_FN_STATUS.ME f) 0).toggleGen f) :=
    ⟨⟨_, _, _, _, rfl⟩, fun a _ hb =>
      (State.rd_put_other _ _ (fnStatus_ne hf hb)).trans (State.rd_put_other _ _ (fnStatus_ne hf hb))⟩
  exact hdown.trans (.raise _ _ _ _)

theorem State.fnDown_me (hf : f < 256) : (s.fnDown f).get (HIF_FN_STATUS.ME f) = 0 := by
  unfold State.fnDown
  rw [show ∀ t : State, (t.raise 0x0F04 f 1 0).get (HIF_FN_STATUS.ME f) = t.get (HIF_FN_STATUS.ME f) from
    fun _ => (FnField.me hf).deliver _ _, State.toggleGen_get (by simp [Fld.apart]), State.get_put_same _ _ _ rfl, Nat.zero_mod]

theorem FnField.fnDown (hg : FnField g) (hne : g.reg ≠ HIF_FN_STATUS f) : (s.fnDown f).get g = s.get g :=
  (hg.deliver _ _).trans ((State.toggleGen_other hne).trans (State.get_congr (State.rd_put_other _ _ hne)))

theorem DownKept.foldOver {α : Type} {l : List α} {f : α → State → State} (h : ∀ x ∈ l, ∀ t, DownKept t (f x t)) (s : State) :
    DownKept s (foldOver l f s) := foldOver_rel DownKept.refl DownKept.trans h s

/-- Functions that go down together are all without master enable. -/
theorem fnsDown_me {l : List Nat} (hl : ∀ f ∈ l, f < 256) (hq : q < 256) (s : State)
    (h : q ∈ l ∨ s.get (HIF_FN_STATUS.ME q) = 0) : (foldOver l (fun f t => t.fnDown f) s).get (HIF_FN_STATUS.ME q) = 0 := by
  induction l generalizing s with
  | nil => exact h.elim (fun h => absurd h (by simp)) id
  | cons f r ih =>
    refine ih (fun f hf => hl f (List.mem_cons_of_mem _ hf)) (s.fnDown f) ?_
    by_cases e : q = f
    · exact .inr (e ▸ State.fnDown_me (e ▸ hq))
    · rcases h with h | h
      · exact .inl ((List.mem_cons.mp h).resolve_left e)
      · exact .inr (((FnField.me hq).fnDown (fnStatus_apart_of_ne hq (hl f List.mem_cons_self) e)).trans h)

/-- Another function's status stands. -/
theorem fnsDown_other {l : List Nat} (hl : ∀ f ∈ l, f < 256) (hg : FnField g) (hq : q < 256) (hgq : g.reg = HIF_FN_STATUS q)
    (hnot : q ∉ l) (s : State) : (foldOver l (fun f t => t.fnDown f) s).get g = s.get g :=
  foldOver_rel (R := fun s t : State => t.get g = s.get g) (fun _ => rfl) (fun h1 h2 => h2.trans h1) (fun f hf _ =>
    hg.fnDown (hgq ▸ fnStatus_apart_of_ne hq (hl f hf) fun e => hnot (e ▸ hf))) s

/-! ### Queues (R106) -/

/-- Registers of the rings and queues that are disabled. -/
def queueReg (a : Nat) : Prop := ctxBase ≤ a ∨ a ∈ [HIF_DEVQ_BASE_LO, HIF_DEVQ_BASE_HI, HIF_DEVQ_CFG]

theorem State.disableQueues_fr (lo : Nat) (dev : Bool) : Fr anyDram queueReg (fun k => k = .act) s (s.disableQueues lo dev) :=
  State.disableQueues_frame _ _ _ (fun _ => .inl) (.inr (by decide)) (.inr (by decide)) (.inr (by decide)) rfl (.start trivial)

theorem State.disableQueues_rd (lo : Nat) (dev : Bool) {a : Nat} (ha : ¬ queueReg a) : (s.disableQueues lo dev).rd a = s.rd a :=
  (s.disableQueues_fr lo dev).rd_eq ha

theorem State.disableQueues_keeps (lo : Nat) (dev : Bool) : ∃ r a, s.disableQueues lo dev = { s with regs := r, act := a } := by
  unfold State.disableQueues
  extract_lets off ring base cfg s1
  cases dev
  · exact ⟨_, _, rfl⟩
  · exact ⟨_, _, rfl⟩

theorem State.rd_resetReg (a : Nat) : (s.resetReg a).rd a = regReset a := tget_tdel_same _ _ _

theorem State.rd_resetReg_other {a b : Nat} (h : b ≠ a) : (s.resetReg a).rd b = s.rd b := by
  simp only [State.resetReg, State.rd, tget, tfind_tdel, if_neg h]

/-- The device queue goes to reset and is disabled. -/
theorem State.disableQueues_dev (lo : Nat) : (s.disableQueues lo true).rd HIF_DEVQ_BASE_LO = 0 ∧
    bitAt ((s.disableQueues lo true).rdN HIF_DEVQ_CFG) 8 = false := by
  unfold State.disableQueues
  extract_lets off ring base cfg s1
  have hlt : setBits (s1.rdN HIF_DEVQ_CFG) 8 8 0 < 2 ^ 32 := setBits_lt _ _ (by decide) (by decide) (BitVec.isLt _)
  constructor
  · rw [if_pos rfl, State.rd_wrN_other _ _ (by decide)]
    rw [State.rd_resetReg_other (by decide), State.rd_resetReg]
    decide
  · rw [if_pos rfl, State.rdN_wrN_same, Nat.mod_eq_of_lt hlt]
    exact bitAt_setBit _ 8 false

/-! ### PERST_N at the functions from one on (R103, R106) -/

/-- The functions that go down. -/
def State.downFns (s : State) (lo : Nat) : List Nat := (List.range (s.get HIF_STATUS.NUM_VFS + 1)).filter (fun f => decide (lo ≤ f))

/-- Their queues, messages, master enables and generations. -/
def State.fnsDown (s : State) (lo : Nat) : State :=
  foldOver (s.downFns lo) (fun f t => t.fnDown f)
    (foldOver (s.downFns lo) (fun f t => t.clearMsix f) (s.disableQueues (4 * lo) (lo == 0)))

/-- With PERST_CLEARS, the resets of the contexts kept. -/
def State.ctxsReset (s t : State) : State :=
  if s.flag HIF_CTRL.PERST_CLEARS then foldOver s.keptCtxs (fun c t => t.resetContext c) t else t

/-- HOST mappings will go. -/
def State.mapsGo (s : State) (lo : Nat) : State :=
  { s with hif := { s.hif with hostMapsGo := max s.hif.hostMapsGo (if lo = 0 then 2 else 1) } }

theorem State.perstFns_eq : s.perstFns lo = foldOver (s.downFns lo) (fun f t => t.showHeld f)
    (((s.ctxsReset (s.fnsDown lo)).mapsGo lo).put HIF_STATUS.NUM_VFS 0) := rfl

theorem State.mem_downFns : f ∈ s.downFns lo ↔ f ≤ s.get HIF_STATUS.NUM_VFS ∧ lo ≤ f := by
  simp [State.downFns]

theorem State.downFns_lt (h : f ∈ s.downFns lo) : f < 256 :=
  lt_of_le_of_lt (State.mem_downFns.mp h).1 (State.get_lt s HIF_STATUS.NUM_VFS)

theorem HostKept.ctxsReset : HostKept t (s.ctxsReset t) := by
  unfold State.ctxsReset
  split
  · exact .foldOver (fun c t => (HostKept.resetContext c).1) t
  · exact .refl t

theorem HostKept.mapsGo (h : HostKept s t) (lo : Nat) : HostKept (s.mapsGo lo) (t.mapsGo lo) where
  fn := h.fn
  count := h.count
  rd := h.rd
  status := h.status
  vfs := h.vfs
  hif := by
    unfold State.mapsGo
    dsimp only
    rw [h.hif]
  resets := h.resets

/-- After its functions are down, PERST_N resets contexts, and VF Enable is clear. -/
theorem State.perstFns_kept : HostKept ((s.fnsDown lo).mapsGo lo) (s.perstFns lo) ∧ (s.perstFns lo).get HIF_STATUS.NUM_VFS = 0 := by
  have hheld : HostKept (((s.ctxsReset (s.fnsDown lo)).mapsGo lo).put HIF_STATUS.NUM_VFS 0) (s.perstFns lo) := by
    rw [State.perstFns_eq]
    exact foldOver_rel HostKept.refl HostKept.trans (fun f hf _ => .showHeld (State.downFns_lt hf)) _
  exact ⟨((HostKept.ctxsReset.mapsGo lo).trans .noVfs).trans hheld, hheld.vfs (State.get_put_same _ _ _ rfl)⟩

/-! ### The functions that are down -/

theorem State.queuesOff_kept (lo : Nat) : DownKept (s.disableQueues (4 * lo) (lo == 0)) (s.fnsDown lo) :=
  (DownKept.foldOver (fun f _ _ => .clearMsix f) _).trans (DownKept.foldOver (fun _ hf _ => .fnDown (State.downFns_lt hf)) _)

theorem clearMsixs_get (l : List Nat) (g : Fld) (s : State) : (foldOver l (fun f t => t.clearMsix f) s).get g = s.get g := by
  apply foldOver_keeps (fun t : State => t.get g)
  exact fun _ _ => rfl

theorem State.fnsDown_me (hq : q ∈ s.downFns lo) : (s.fnsDown lo).get (HIF_FN_STATUS.ME q) = 0 :=
  Machine.fnsDown_me (fun _ => State.downFns_lt) (State.downFns_lt hq) _ (.inl hq)

theorem fnStatus_not_queue (hq : q < 256) : ¬ queueReg (HIF_FN_STATUS q) := by
  rw [show HIF_FN_STATUS q = _ from if_pos hq]
  simp only [queueReg, ctxBase, HIF_DEVQ_BASE_LO, HIF_DEVQ_BASE_HI, HIF_DEVQ_CFG, List.mem_cons, List.not_mem_nil, or_false]
  omega

theorem hifStatus_not_queue : ¬ queueReg HIF_STATUS := by
  simp [queueReg, ctxBase, HIF_STATUS]

theorem State.fnsDown_other (hg : FnField g) (hq : q < 256) (hgq : g.reg = HIF_FN_STATUS q) (hlo : q < lo) :
    (s.fnsDown lo).get g = s.get g := by
  unfold State.fnsDown
  rw [Machine.fnsDown_other (fun _ => State.downFns_lt) hg hq hgq (fun h => absurd (State.mem_downFns.mp h).2 (by omega)),
    clearMsixs_get]
  exact State.get_congr (State.disableQueues_rd _ _ (hgq ▸ fnStatus_not_queue hq))

theorem State.fnsDown_status (hg : g.reg = HIF_STATUS) : (s.fnsDown lo).get g = s.get g := by
  refine State.get_congr (((State.queuesOff_kept lo).rd _ (by rw [hg]; decide) (by rw [hg]; decide)).trans ?_)
  exact State.disableQueues_rd _ _ (hg ▸ hifStatus_not_queue)

theorem State.fnsDown_hif : ∃ tg ms, (s.fnsDown lo).hif = { s.hif with tags := tg, msix := ms } := by
  obtain ⟨r, i, tg, ms, h⟩ := (State.queuesOff_kept (s := s) lo).only
  obtain ⟨r2, a, h2⟩ := s.disableQueues_keeps (4 * lo) (lo == 0)
  exact ⟨tg, ms, by rw [h, h2]⟩

/-- With no VF there is one host-reset event. -/
theorem State.fnsDown_raised (h : s.get HIF_STATUS.NUM_VFS = 0) : Raised 0x0F04 s (s.fnsDown 0) := by
  have hfns : s.downFns 0 = [0] := by
    unfold State.downFns
    rw [h]
    rfl
  have hcount : (s.disableQueues (4 * 0) (0 == 0)).eventCount 0x0F04 = s.eventCount 0x0F04 := by
    obtain ⟨r, a, h2⟩ := s.disableQueues_keeps (4 * 0) (0 == 0)
    rw [h2]
    rfl
  have hraised : Raised 0x0F04 (s.disableQueues (4 * 0) (0 == 0)) (s.fnsDown 0) := by
    unfold State.fnsDown
    rw [hfns]
    exact State.raise_raised ((((s.disableQueues (4 * 0) (0 == 0)).clearMsix 0).put (HIF_FN_STATUS.ME 0) 0).toggleGen 0) 0x0F04 0 1 0
  exact hraised.trans (by rw [hcount])

end Sys2Proof.Machine
end

section
/-! The commands that take the host away and give it back (R81, R101, R104 to R106). -/
namespace Sys2Proof.Machine

variable {s t u : State} {f q c lo dt : Nat} {g : Fld}

/-! ### The endpoint is reset or its link is lost (R106) -/

/-- What is left of HIF then. -/
structure EndpointLost (s t : State) : Prop where
  link : t.get HIF_STATUS.LINK_UP = 0
  persts : t.get HIF_STATUS.PERSTS = min 255 (s.get HIF_STATUS.PERSTS + 1)
  vfs : t.get HIF_STATUS.NUM_VFS = 0
  me : ∀ f, f ≤ s.get HIF_STATUS.NUM_VFS → t.get (HIF_FN_STATUS.ME f) = 0
  perst : t.hif.perst = s.hif.perst
  maps : t.hif.maps = s.hif.maps
  mapsGo : t.hif.hostMapsGo = max s.hif.hostMapsGo 2
  grants : t.hif.grants = s.hif.grants
  base : t.rd HIF_DEVQ_BASE_LO = 0
  off : bitAt (t.rdN HIF_DEVQ_CFG) 8 = false
  raised : s.get HIF_STATUS.NUM_VFS = 0 → Raised 0x0F04 s t

/-- The link is down and one more reset counted. -/
def State.linkLost (s : State) : State := (s.put HIF_STATUS.LINK_UP 0).incSat HIF_STATUS.PERSTS 1

theorem State.linkLost_link : s.linkLost.get HIF_STATUS.LINK_UP = 0 := by
  unfold State.linkLost State.incSat
  rw [State.get_put_apart _ _ rfl rfl, State.get_put_same _ _ _ rfl, Nat.zero_mod]

theorem State.linkLost_vfs : s.linkLost.get HIF_STATUS.NUM_VFS = s.get HIF_STATUS.NUM_VFS := by
  unfold State.linkLost State.incSat
  rw [State.get_put_apart _ _ rfl rfl, State.get_put_apart _ _ rfl rfl]

theorem State.linkLost_persts : s.linkLost.get HIF_STATUS.PERSTS = min 255 (s.get HIF_STATUS.PERSTS + 1) := by
  unfold State.linkLost State.incSat
  rw [State.get_put_same _ _ _ rfl, State.get_put_apart _ _ rfl rfl]
  change min 255 (s.get HIF_STATUS.PERSTS + 1) % 256 = _
  omega

theorem State.endpointDown_kept : HostKept ((s.linkLost.fnsDown 0).mapsGo 0) s.endpointDown ∧ s.endpointDown.get HIF_STATUS.NUM_VFS = 0 :=
  ⟨State.perstFns_kept.1.trans .hostReadFails, HostKept.hostReadFails.vfs State.perstFns_kept.2⟩

theorem State.endpointDown_lost : EndpointLost s s.endpointDown := by
  obtain ⟨hk, hvfs⟩ := s.endpointDown_kept
  have hstatus (g : Fld) (hg : g.reg = HIF_STATUS) (ha : HIF_STATUS.NUM_VFS.apart g = true) : s.endpointDown.get g = s.linkLost.get g :=
    (hk.status g hg ha).trans (State.fnsDown_status hg)
  obtain ⟨tg, ms, hhif⟩ := s.linkLost.fnsDown_hif (lo := 0)
  have hif : s.endpointDown.hif = { s.hif with
      tags := tg
      msix := ms
      hostMapsGo := max s.hif.hostMapsGo 2
      resetting := s.endpointDown.hif.resetting } := by
    rw [hk.hif]
    unfold State.mapsGo
    rw [hhif]
    rfl
  have hqueue (a : Nat) (ha : 0x300000 ≤ a) (hb : a < 0x301000) (hne : a ≠ HIF_STATUS) :
      s.endpointDown.rd a = (s.linkLost.disableQueues (4 * 0) true).rd a :=
    (hk.rd a ha hb hne).trans ((State.queuesOff_kept 0).rd a ha hb)
  obtain ⟨hbase, hcfg⟩ := s.linkLost.disableQueues_dev (4 * 0)
  exact
    { link := (hstatus _ rfl rfl).trans State.linkLost_link
      persts := (hstatus _ rfl rfl).trans State.linkLost_persts
      vfs := hvfs
      me := fun f hf => by
        have hin : f ∈ s.linkLost.downFns 0 := State.mem_downFns.mpr ⟨hf.trans_eq State.linkLost_vfs.symm, Nat.zero_le f⟩
        exact (hk.fn _ (.me (State.downFns_lt hin))).trans (State.fnsDown_me hin)
      perst := by rw [hif]
      maps := by rw [hif]
      mapsGo := by rw [hif]
      grants := by rw [hif]
      base := (hqueue _ (by decide) (by decide) (by decide)).trans hbase
      off := by
        rw [State.rdN, hqueue _ (by decide) (by decide) (by decide)]
        exact hcfg
      raised := fun h => by
        have hr : Raised 0x0F04 s.linkLost (s.linkLost.fnsDown 0) := State.fnsDown_raised (State.linkLost_vfs.trans h)
        exact hk.count.trans hr }

/-- Without PERST_CLEARS, INT, registers, tags, messages and the HOST mappings' end are all that moves. -/
theorem State.perstFns_only (h : s.flag HIF_CTRL.PERST_CLEARS = false) : ∃ r a i tg ms, s.perstFns lo = { s with
    regs := r
    act := a
    int := i
    hif := { s.hif with
      tags := tg
      msix := ms
      hostMapsGo := max s.hif.hostMapsGo (if lo = 0 then 2 else 1) } } := by
  obtain ⟨r1, a1, h1⟩ := s.disableQueues_keeps (4 * lo) (lo == 0)
  obtain ⟨r2, i2, tg, ms, h2⟩ := (State.queuesOff_kept (s := s) lo).only
  let d := ((s.fnsDown lo).mapsGo lo).put HIF_STATUS.NUM_VFS 0
  have heq : s.perstFns lo = foldOver (s.downFns lo) (fun f t => t.showHeld f) d := by
    rw [State.perstFns_eq, State.ctxsReset, h]
    rfl
  have hheld : EventOnly d (foldOver (s.downFns lo) (fun f t => t.showHeld f) d) :=
    foldOver_rel EventOnly.refl EventOnly.trans (fun _ hf t => .showHeld t (State.downFns_lt hf)) d
  obtain ⟨⟨r3, i3, h3⟩, -⟩ := hheld
  refine ⟨r3, a1, i3, tg, ms, ?_⟩
  rw [heq, h3]
  unfold d State.mapsGo State.put State.wrN State.wr
  rw [h2, h1]

theorem State.endpointDown_only (hc : s.get HIF_CTRL.PERST_CLEARS = 0) (hl : s.cfg.load = 0) :
    s.endpointDown.seq = s.seq ∧ s.endpointDown.pln = s.pln ∧ s.endpointDown.hif.commits = s.hif.commits ∧
      s.endpointDown.hif.resetting = s.hif.resetting := by
  have hflag : s.linkLost.flag HIF_CTRL.PERST_CLEARS = false := by
    have hget : s.linkLost.get HIF_CTRL.PERST_CLEARS = s.get HIF_CTRL.PERST_CLEARS :=
      State.get_congr ((State.rd_put_other _ _ (by decide)).trans (State.rd_put_other _ _ (by decide)))
    rw [State.flag, hget, hc]
    rfl
  obtain ⟨r, a, i, tg, ms, h⟩ := State.perstFns_only (lo := 0) hflag
  have hload : (s.linkLost.perstFns 0).cfg.load = 0 := by
    rw [h]
    exact hl
  have heq : s.endpointDown = s.linkLost.perstFns 0 := State.hostReadFails_none hload
  rw [heq, h]
  exact ⟨rfl, rfl, rfl, rfl⟩

/-! ### O24, PERST_N and the link -/

theorem perstAssert_completes (dt : Nat) (hl : s.live = true) (hp : s.hif.perst = false) :
    Completes (exec (.perstAssert dt) s) (fun t => t.hif.perst = true ∧ t.get HIF_STATUS.LINK_UP = 0 ∧
      t.get HIF_STATUS.PERSTS = min 255 (s.get HIF_STATUS.PERSTS + 1) ∧ t.get HIF_STATUS.NUM_VFS = 0 ∧
      (∀ f, f ≤ s.get HIF_STATUS.NUM_VFS → t.get (HIF_FN_STATUS.ME f) = 0) ∧
      t.hif.maps = s.hif.maps ∧ t.hif.hostMapsGo = max s.hif.hostMapsGo 2 ∧ t.hif.grants = s.hif.grants ∧
      t.rd HIF_DEVQ_BASE_LO = 0 ∧ bitAt (t.rdN HIF_DEVQ_CFG) 8 = false ∧
      (s.get HIF_STATUS.NUM_VFS = 0 → Raised 0x0F04 s t) ∧
      (s.get HIF_CTRL.PERST_CLEARS = 0 ∧ s.cfg.load = 0 → t.seq = s.seq ∧ t.pln = s.pln ∧ t.hif.commits = s.hif.commits ∧
        t.hif.resetting = s.hif.resetting)) := by
  let v : State := { s.tick dt with hif := { s.hif with perst := true } }
  have heq : doPerstAssert dt s = v.endpointDown := by
    unfold doPerstAssert
    rw [if_neg (by rw [State.tick_hif, hp]; decide)]
    exact State.onLive_eq v _ hl
  refine ⟨_, rfl, ?_⟩
  rw [heq]
  have h := v.endpointDown_lost
  exact ⟨h.perst, h.link, h.persts, h.vfs, h.me, h.maps, h.mapsGo, h.grants, h.base, h.off, h.raised,
    fun ⟨hc, hload⟩ => v.endpointDown_only hc hload⟩

theorem linkDown_completes (dt : Nat) (hl : s.live = true) (hup : s.get HIF_STATUS.LINK_UP = 1) :
    Completes (exec (.linkDown dt) s) (fun t => t.get HIF_STATUS.LINK_UP = 0 ∧ t.get HIF_STATUS.NUM_VFS = 0 ∧
      (∀ f, f ≤ s.get HIF_STATUS.NUM_VFS → t.get (HIF_FN_STATUS.ME f) = 0) ∧ t.hif.hostMapsGo = max s.hif.hostMapsGo 2 ∧
      t.hif.maps = s.hif.maps ∧ t.hif.perst = s.hif.perst ∧ (s.get HIF_STATUS.NUM_VFS = 0 → Raised 0x0F04 s t)) := by
  have heq : doLinkDown dt s = (s.tick dt).endpointDown := State.tick_onLiveIf dt _ _ hl (State.get_of_flag hup)
  refine ⟨_, rfl, ?_⟩
  rw [heq]
  have h := (s.tick dt).endpointDown_lost
  exact ⟨h.link, h.vfs, h.me, h.mapsGo, h.maps, h.perst, h.raised⟩

theorem linkUp_completes (dt : Nat) (hl : s.live = true) (hp : s.hif.perst = false) :
    Completes (exec (.linkUp dt) s) (fun t => t.get HIF_STATUS.LINK_UP = 1 ∧ t.hif = s.hif) := by
  have hgo : (!(s.tick dt).hif.perst) = true := by rw [State.tick_hif, hp]; rfl
  have heq : doLinkUp dt s = (s.tick dt).put HIF_STATUS.LINK_UP 1 :=
    State.tick_onLiveIf dt _ (fun u => u.put HIF_STATUS.LINK_UP 1) hl hgo
  refine ⟨_, rfl, ?_⟩
  rw [heq]
  exact ⟨State.get_put_same _ _ _ rfl, rfl⟩

end Sys2Proof.Machine
end

section
/-! Master enable, function-level resets and context resets, and the statement on the host's resets (R81, R101 to R106). -/
namespace Sys2Proof.Machine

variable {s t u : State} {f q c lo dt : Nat} {g : Fld}

/-! ### O24, master enable (R104) -/

theorem HostKept.raised_of_counted (h : HostKept (s.counted 0x0F04) t) : Raised 0x0F04 s t := h.count.trans (State.counted_raised _)

theorem HostKept.tagCount_eq (h : HostKept s t) (f : Nat) (old : Bool) : t.tagCount f old = s.tagCount f old := by
  unfold State.tagCount
  rw [h.hif]

/-- A function without master enable, in a new generation. -/
def State.meCleared (s : State) (f : Nat) : State := (s.put (HIF_FN_STATUS.ME f) 0).toggleGen f

theorem State.meCleared_me : (s.meCleared f).get (HIF_FN_STATUS.ME f) = 0 := by
  unfold State.meCleared
  rw [State.toggleGen_get (by simp [Fld.apart]), State.get_put_same _ _ _ rfl, Nat.zero_mod]

theorem State.meCleared_gen : (s.meCleared f).get (HIF_FN_STATUS.GEN f) = 1 - s.get (HIF_FN_STATUS.GEN f) := by
  unfold State.meCleared
  rw [State.toggleGen_gen, State.get_put_apart _ _ rfl (by simp [Fld.apart])]

theorem masterEnableClear_completes (dt : Nat) (lines : List Nat) (hl : s.live = true) (hf : f < 256) (hen : s.fnEnabled f = true)
    (hme : s.get (HIF_FN_STATUS.ME f) = 1) :
    Completes (exec (.masterEnableClear dt f lines) s) (fun t => t.get (HIF_FN_STATUS.ME f) = 0 ∧
      t.get (HIF_FN_STATUS.GEN f) = 1 - s.get (HIF_FN_STATUS.GEN f) ∧ t.tagCount f false = 0 ∧ Raised 0x0F04 s t) := by
  have hgo : ((s.tick dt).fnEnabled f && (s.tick dt).flag (HIF_FN_STATUS.ME f)) = true := by
    rw [show (s.tick dt).fnEnabled f = true from hen, State.tick_flag, State.get_of_flag hme]
    rfl
  refine ⟨_, rfl, ?_⟩
  rw [doMasterEnableClear, State.tick_onLiveIf dt _ _ hl hgo]
  extract_lets u1 u2
  let v := (s.tick dt).meCleared f
  have h1 : HostKept (v.counted 0x0F04) u1 := HostKept.deliver (v.mkEvent 0x0F04 devQ f 3 0) devQ
  have h2 : HostKept u1 u2 := (HostKept.dropHostLayers f lines).trans (.showHeld hf)
  have h3 : HostKept u2 (if f = 0 then u2.hostReadFails else u2) := by
    split
    · exact .hostReadFails
    · exact .refl u2
  have h := (h1.trans h2).trans h3
  refine ⟨(h.fn _ (.me hf)).trans ?_, (h.fn _ (.gen hf)).trans ?_, (h.tagCount_eq f false).trans ?_, h.raised_of_counted⟩
  · exact State.meCleared_me
  · exact State.meCleared_gen
  · exact State.toggleGen_tagCount

/-- Showing the held events moves one function's two registers and INT's count. -/
theorem State.showHeld_rd {a : Nat} (h1 : a ≠ HIF_FN_STATUS f) (h2 : a ≠ HIF_FN_DROPS f) (h3 : a ≠ INT_STATUS) :
    (s.showHeld f).rd a = s.rd a := by
  have hf : Fr anyDram (fun a => a = HIF_FN_STATUS f ∨ a = HIF_FN_DROPS f ∨ a = INT_STATUS) anyPart s (s.showHeld f) :=
    State.showHeld_frame _ _ (.inr (.inl rfl)) (.inl rfl) (.inr (.inr rfl)) trivial (.start trivial)
  exact hf.rd_eq (by simp [h1, h2, h3])

theorem masterEnableSet_completes (dt : Nat) (hl : s.live = true) (hf : f < 256) (hen : s.fnEnabled f = true)
    (hup : s.get HIF_STATUS.LINK_UP = 1) :
    Completes (exec (.masterEnableSet dt f) s) (fun t => t.get (HIF_FN_STATUS.ME f) = 1 ∧ t.fnCanHost f = true ∧
      t.cfg = s.cfg ∧ t.cmp = s.cmp ∧ t.hif.maps = s.hif.maps ∧ t.hif.commits = s.hif.commits ∧
      ∀ a, a ≠ HIF_FN_STATUS f → a ≠ HIF_FN_DROPS f → a ≠ INT_STATUS → t.rd a = s.rd a) := by
  have hgo : ((s.tick dt).fnEnabled f && (s.tick dt).flag HIF_STATUS.LINK_UP) = true := by
    rw [show (s.tick dt).fnEnabled f = true from hen, State.tick_flag, State.get_of_flag hup]
    rfl
  let v := (s.tick dt).put (HIF_FN_STATUS.ME f) 1
  have heq : doMasterEnableSet dt f s = (v.showHeld f).pumpHost :=
    State.tick_onLiveIf dt _ (fun u => ((u.put (HIF_FN_STATUS.ME f) 1).showHeld f).pumpHost) hl hgo
  refine ⟨_, rfl, ?_⟩
  rw [heq]
  have hp : Pumped (v.showHeld f) (v.showHeld f).pumpHost := .pumpHost _
  obtain ⟨⟨r, i, h⟩, -⟩ := EventOnly.showHeld v hf
  have hrd (a : Nat) (h1 : a ≠ HIF_FN_STATUS f) (h2 : a ≠ HIF_FN_DROPS f) (h3 : a ≠ INT_STATUS) : (v.showHeld f).pumpHost.rd a = s.rd a :=
    (hp.rd_eq a).trans ((State.showHeld_rd h1 h2 h3).trans (State.rd_put_other _ _ h1))
  have hme : (v.showHeld f).pumpHost.get (HIF_FN_STATUS.ME f) = 1 :=
    (hp.get_eq _).trans (((FnField.me hf).showHeld hf).trans (State.get_put_same _ _ _ rfl))
  have hlink : (v.showHeld f).pumpHost.get HIF_STATUS.LINK_UP = 1 := by
    rw [hp.get_eq, (HostKept.showHeld hf).status _ rfl rfl]
    exact (State.get_congr (State.rd_put_other _ _ (fnStatus_ne hf (by decide)))).trans hup
  refine ⟨hme, ?_, hp.cfg_eq.trans ?_, hp.cmp_eq.trans ?_, hp.maps_eq.trans ?_, hp.commits_eq.trans ?_, hrd⟩
  · rw [State.fnCanHost, State.get_of_flag hme, State.get_of_flag hlink]
    rfl
  all_goals rw [h]; rfl

/-! ### O24, function-level resets (R105) -/

theorem HostKept.resetContexts (l : List Nat) (s : State) :
    HostKept s (Machine.foldOver l (fun c t => t.resetContext c) s) ∧
      ∀ c ∈ l, c ∈ (Machine.foldOver l (fun c t => t.resetContext c) s).hif.resetting := by
  induction l generalizing s with
  | nil => exact ⟨.refl s, fun c hc => absurd hc (by simp)⟩
  | cons k r ih =>
    obtain ⟨hkept, hall⟩ := ih (s.resetContext k)
    obtain ⟨h1, hin⟩ := HostKept.resetContext (s := s) k
    refine ⟨h1.trans hkept, fun c hc => ?_⟩
    rcases List.mem_cons.mp hc with rfl | hc
    · exact hkept.resets c hin
    · exact hall c hc

/-- The contexts of a function that exist. -/
def State.ownCtxs (s : State) (f : Nat) : List Nat := ((List.range 4).map (· + 4 * f)).filter s.ctxExists

theorem State.mem_ownCtxs {k : Nat} (hk : k < 4) (h : s.ctxExists (4 * f + k) = true) : 4 * f + k ∈ s.ownCtxs f :=
  List.mem_filter.mpr ⟨List.mem_map.mpr ⟨k, List.mem_range.mpr hk, Nat.add_comm _ _⟩, h⟩

/-- A function-level reset begins: a new generation, one host-reset event, FLR, and the resets of the function's contexts. -/
def State.flrBegun (s : State) (f : Nat) : State :=
  foldOver (s.ownCtxs f) (fun c v => v.resetContext c)
    ((((s.toggleGen f).clearMsix f).raise 0x0F04 f 2 0).put (HIF_FN_STATUS.FLR f) 1)

/-- What it leaves to its end. -/
theorem State.flrBegun_spec (hf : f < 256) : (s.flrBegun f).get (HIF_FN_STATUS.FLR f) = 1 ∧ Raised 0x0F04 s (s.flrBegun f) ∧
    (s.flrBegun f).get (HIF_FN_STATUS.GEN f) = 1 - s.get (HIF_FN_STATUS.GEN f) ∧
    (∀ k, k < 4 → s.ctxExists (4 * f + k) = true → 4 * f + k ∈ (s.flrBegun f).hif.resetting) ∧
    (s.flrBegun f).get HIF_STATUS.LINK_UP = s.get HIF_STATUS.LINK_UP := by
  let v := (s.toggleGen f).clearMsix f
  let w := (v.raise 0x0F04 f 2 0).put (HIF_FN_STATUS.FLR f) 1
  have h1 : HostKept (v.counted 0x0F04) (v.raise 0x0F04 f 2 0) := HostKept.deliver (v.mkEvent 0x0F04 devQ f 2 0) devQ
  obtain ⟨h2, hin⟩ := HostKept.resetContexts (s.ownCtxs f) w
  refine ⟨?_, ?_, ?_, fun k hk hc => hin _ (State.mem_ownCtxs hk hc), ?_⟩
  · exact (h2.fn _ (.flr hf)).trans (State.get_put_same _ _ _ rfl)
  · have hr : Raised 0x0F04 v (v.raise 0x0F04 f 2 0) := h1.raised_of_counted
    exact h2.count.trans hr
  · refine (h2.fn _ (.gen hf)).trans ((State.get_put_apart _ _ rfl (by simp [Fld.apart])).trans ?_)
    exact (h1.fn _ (.gen hf)).trans State.toggleGen_gen
  · refine (h2.status _ rfl rfl).trans ((State.get_congr (State.rd_put_other _ _ (fnStatus_ne hf (by decide)))).trans ?_)
    exact (h1.status _ rfl rfl).trans (State.get_congr (State.rd_put_other _ _ (fnStatus_ne hf (by decide))))

theorem functionReset_completes (dt : Nat) (hl : s.live = true) (h0 : 0 < f) (hf : f < 256) (hen : s.fnEnabled f = true)
    (hup : s.get HIF_STATUS.LINK_UP = 1) :
    Completes (exec (.functionLevelReset dt f) s) (fun t => t.get (HIF_FN_STATUS.FLR f) = 1 ∧ Raised 0x0F04 s t ∧
      t.get (HIF_FN_STATUS.GEN f) = 1 - s.get (HIF_FN_STATUS.GEN f) ∧
      ∀ k, k < 4 → s.ctxExists (4 * f + k) = true → t.hif.resetting.contains (4 * f + k) = true) := by
  have hgo : (decide (f < 256) && (s.tick dt).fnEnabled f && (s.tick dt).flag HIF_STATUS.LINK_UP) = true := by
    rw [show (s.tick dt).fnEnabled f = true from hen, State.tick_flag, State.get_of_flag hup]
    simp [hf]
  have heq : doFunctionLevelReset dt f s = ((s.tick dt).flrBegun f).showHeld f := by
    rw [doFunctionLevelReset, State.tick_onLiveIf dt _ _ hl hgo]
    exact if_neg (by omega)
  refine ⟨_, rfl, ?_⟩
  rw [heq]
  obtain ⟨hflr, hraised, hgen, hin, -⟩ := (s.tick dt).flrBegun_spec hf
  have hk : HostKept ((s.tick dt).flrBegun f) (((s.tick dt).flrBegun f).showHeld f) := .showHeld hf
  exact ⟨(hk.fn _ (.flr hf)).trans hflr, hk.count.trans hraised, (hk.fn _ (.gen hf)).trans hgen,
    fun k hk4 hc => List.contains_iff_mem.mpr (hk.resets _ (hin k hk4 hc))⟩

/-- The PF's own registers that return to reset with it. -/
def pfRegs : List Nat := [HIF_DEVQ_BASE_LO, HIF_DEVQ_BASE_HI, HIF_DEVQ_CFG, HIF_DEVQ_TAIL, HIF_DEVQ_HEAD, HIF_FN_PASID 0]

/-- The registers of the PF return to reset. -/
def State.pfRegsReset (s : State) : State := foldOver pfRegs (fun a v => v.resetReg a) s

/-- Its master enable and its count of stale completions too. -/
def State.pfStatusReset (s : State) : State := (s.put (HIF_FN_STATUS.ME 0) 0).put (HIF_FN_STATUS.STALE 0) 0

/-- The device queue is empty. -/
def State.devqEmpty (s : State) : State := { s with hif := { s.hif with queues := tdel s.hif.queues devQ } }

/-- The device queue, the PASID and the status of the PF return to reset. -/
def State.pfReset (s : State) : State := s.pfRegsReset.pfStatusReset.devqEmpty

theorem resetRegs_rd (l : List Nat) {a : Nat} (ha : a ∉ l) (s : State) : (foldOver l (fun a v => v.resetReg a) s).rd a = s.rd a :=
  foldOver_rel (R := fun s t : State => t.rd a = s.rd a) (fun _ => rfl) (fun h1 h2 => h2.trans h1)
    (fun _ hx _ => State.rd_resetReg_other fun e => ha (e ▸ hx)) s

theorem resetRegs_rd_mem {l : List Nat} {a : Nat} (ha : a ∈ l) (s : State) :
    (foldOver l (fun a v => v.resetReg a) s).rd a = regReset a := by
  induction l generalizing s with
  | nil => exact absurd ha (by simp)
  | cons b r ih =>
    by_cases hr : a ∈ r
    · exact ih hr (s.resetReg b)
    · obtain rfl := (List.mem_cons.mp ha).resolve_right hr
      exact (resetRegs_rd r hr (s.resetReg a)).trans (State.rd_resetReg a)

theorem State.devqEmpty_get (g : Fld) : s.devqEmpty.get g = s.get g := rfl

theorem State.devqEmpty_rd (a : Nat) : s.devqEmpty.rd a = s.rd a := rfl

theorem State.pfStatusReset_rd {a : Nat} (ha : a ≠ HIF_FN_STATUS 0) : s.pfStatusReset.rd a = s.rd a := by
  unfold State.pfStatusReset
  rw [State.rd_put_other _ _ ha, State.rd_put_other _ _ ha]

theorem State.pfReset_rd {a : Nat} (ha : a ≠ HIF_FN_STATUS 0) : s.pfReset.rd a = s.pfRegsReset.rd a := by
  unfold State.pfReset
  rw [State.devqEmpty_rd, State.pfStatusReset_rd ha]

theorem State.pfReset_status (hg : g.reg = HIF_STATUS) : s.pfReset.get g = s.get g := by
  refine State.get_congr ?_
  rw [hg, State.pfReset_rd (by decide), State.pfRegsReset, resetRegs_rd _ (by decide)]

theorem State.pfReset_flr : s.pfReset.get (HIF_FN_STATUS.FLR 0) = s.get (HIF_FN_STATUS.FLR 0) := by
  have h : s.pfRegsReset.get (HIF_FN_STATUS.FLR 0) = s.get (HIF_FN_STATUS.FLR 0) := State.get_congr (resetRegs_rd _ (by decide) _)
  unfold State.pfReset State.pfStatusReset
  rw [State.devqEmpty_get, State.get_put_apart _ _ rfl rfl, State.get_put_apart _ _ rfl rfl, h]

theorem State.pfReset_me : s.pfReset.get (HIF_FN_STATUS.ME 0) = 0 := by
  unfold State.pfReset State.pfStatusReset
  rw [State.devqEmpty_get, State.get_put_apart _ _ rfl rfl, State.get_put_same _ _ _ rfl, Nat.zero_mod]

theorem State.pfReset_resetting : s.pfReset.hif.resetting = s.hif.resetting := by
  have h : s.pfRegsReset.hif.resetting = s.hif.resetting := by
    apply foldOver_keeps (fun t : State => t.hif.resetting)
    exact fun _ _ => rfl
  exact h

theorem pfReset_completes (dt : Nat) (hl : s.live = true) (hup : s.get HIF_STATUS.LINK_UP = 1) :
    Completes (exec (.functionLevelReset dt 0) s) (fun t => t.get (HIF_FN_STATUS.FLR 0) = 1 ∧ t.get (HIF_FN_STATUS.ME 0) = 0 ∧
      t.rd HIF_DEVQ_BASE_LO = 0 ∧ t.rd HIF_DEVQ_CFG = 0 ∧ t.get HIF_STATUS.NUM_VFS = 0 ∧ t.get HIF_STATUS.LINK_UP = 1 ∧
      ∀ k, k < 4 → s.ctxExists k = true → t.hif.resetting.contains k = true) := by
  have hgo : (decide (0 < 256) && (s.tick dt).fnEnabled 0 && (s.tick dt).flag HIF_STATUS.LINK_UP) = true := by
    rw [State.tick_flag, State.get_of_flag hup]
    rfl
  let b := (s.tick dt).flrBegun 0
  let d := b.perstFns 1
  have heq : doFunctionLevelReset dt 0 s = ((d.pfReset).showHeld 0).hostReadFails := by
    rw [doFunctionLevelReset, State.tick_onLiveIf dt _ _ hl hgo]
    rfl
  refine ⟨_, rfl, ?_⟩
  rw [heq]
  obtain ⟨hflr, -, -, hin, hlink⟩ := (s.tick dt).flrBegun_spec (f := 0) (by decide)
  obtain ⟨hd, hvfs⟩ := State.perstFns_kept (s := b) (lo := 1)
  have hk : HostKept d.pfReset ((d.pfReset).showHeld 0).hostReadFails := (HostKept.showHeld (by decide)).trans .hostReadFails
  refine ⟨?_, ?_, ?_, ?_, ?_, ?_, fun k hk4 hc => List.contains_iff_mem.mpr (hk.resets _ ?_)⟩
  · refine (hk.fn _ (.flr (by decide))).trans (State.pfReset_flr.trans ((hd.fn _ (.flr (by decide))).trans ?_))
    exact (State.fnsDown_other (.flr (by decide)) (by decide) rfl (by decide)).trans hflr
  · exact (hk.fn _ (.me (by decide))).trans State.pfReset_me
  · refine (hk.rd _ (by decide) (by decide) (by decide)).trans ((State.pfReset_rd (by decide)).trans ?_)
    exact (resetRegs_rd_mem (by decide) d).trans (by decide)
  · refine (hk.rd _ (by decide) (by decide) (by decide)).trans ((State.pfReset_rd (by decide)).trans ?_)
    exact (resetRegs_rd_mem (by decide) d).trans (by decide)
  · exact hk.vfs ((State.pfReset_status rfl).trans hvfs)
  · refine (hk.status _ rfl rfl).trans ((State.pfReset_status rfl).trans ((hd.status _ rfl rfl).trans ?_))
    exact (State.fnsDown_status rfl).trans (hlink.trans hup)
  · rw [State.pfReset_resetting]
    refine hd.resets k ?_
    obtain ⟨tg, ms, hhif⟩ := b.fnsDown_hif (lo := 1)
    change k ∈ (b.fnsDown 1).hif.resetting
    rw [hhif]
    have := hin k hk4 (by rwa [Nat.mul_zero, Nat.zero_add])
    rwa [Nat.mul_zero, Nat.zero_add] at this

/-! ### O24, context resets (R105) -/

/-- Registers outside the contexts' pages. -/
abbrev offPages (a : Nat) : Prop := offSpan ctxBase (ctxBase + 0x10000 * 1024) a

theorem offPages_family {lo st n b : Nat} (ha : lo + st * n ≤ ctxBase) (hb : ctxBase + 0x10000 * 1024 ≤ b) (hs : 0 < st) {i : Nat} :
    offPages (if i < n then lo + st * i else b) := offSpan_family (.inl ha) hb hs

theorem ev_offPages : Ev offPages anyPart := ⟨fun a ha => by
  by_contra hne
  have hhigh := evReg_high (a := a) (by unfold offPages offSpan ctxBase at hne; omega)
  exact Bool.noConfusion (hhigh.symm.trans ha), trivial⟩

/-- The reset of a context leaves what its page reads. -/
theorem State.resetContext_page {g : Fld} (hc : c < 1024) (hg : g.reg = HIF_CTX_CTRL c) : (s.resetContext c).get g = s.get g := by
  have hf : Fr anyDram offPages anyPart s (s.resetContext c) :=
    State.resetContext_frame _ _ ev_offPages (.inl (by decide)) (fun _ => offPages_family (by decide) (by decide) (by decide))
      (fun _ => offPages_family (by decide) (by decide) (by decide)) (fun _ => offPages_family (by decide) (by decide) (by decide))
      (.inl (by decide)) (fun _ => offPages_family (by decide) (by decide) (by decide))
      (fun _ => offPages_family (by decide) (by decide) (by decide)) trivial trivial trivial trivial (.start trivial)
  refine State.get_congr (hf.rd_eq ?_)
  rw [hg, show HIF_CTX_CTRL c = _ from if_pos hc]
  unfold offPages offSpan ctxBase
  omega

theorem passRel_hif : PassRel (fun s t => t.hif = s.hif) where
  refl _ := rfl
  trans h1 h2 := h2.trans h1
  cmp _ _ := rfl
  rects _ _ := rfl
  solve s cs f := by
    have hf : Fr anyDram anyReg (fun k => k ≠ .hif) s (s.solveOutput cs f) :=
      State.solveOutput_frame _ _ _ ⟨fun _ _ => trivial, by simp⟩ trivial (by simp) (.start trivial)
    exact hf.frame.2 .hif (by simp)
  put _ _ _ _ := rfl

theorem State.resetContext_resetting (h : s.hif.resetting.contains c = false) :
    (s.resetContext c).hif = { s.hif with resetting := s.hif.resetting ++ [c] } := by
  unfold State.resetContext
  rw [if_neg (by rw [h]; decide)]
  extract_lets s0 hif s1 os
  have h0 : s0.hif = s.hif := by
    have hf : Fr anyDram anyReg (fun _ => False) s s0 := State.toggleCtx_frame _ _ _ (fun _ => trivial) (.start trivial)
    exact hf.frame.2 .hif id
  have h1 : s1.hif = { s.hif with resetting := s.hif.resetting ++ [c] } := by
    change { s0.hif with resetting := s0.hif.resetting ++ [c] } = _
    rw [h0]
  split
  · exact h1
  · exact (passRel_hif.foldOver (fun _ _ => passRel_hif.askPass _ _ _) s1).trans h1

theorem State.ctxExists_lt (h : s.ctxExists c = true) : c < 1024 := by
  simp only [State.ctxExists, Bool.and_eq_true, decide_eq_true_eq] at h
  obtain ⟨⟨⟨hc, -⟩, -⟩, -⟩ := h
  exact hc

theorem contextReset_completes (dt : Nat) (hl : s.live = true) (hs : s.cfg.safeIdle = false) (hc : s.ctxExists c = true)
    (hr : s.hif.resetting.contains c = false) :
    Completes (exec (.contextReset dt c) s) (fun t => t.get (HIF_CTX_CTRL.RESET c) = 1 ∧ t.hif.resetting = s.hif.resetting ++ [c]) := by
  let v := (s.tick dt).put (HIF_CTX_CTRL.RESET c) 1
  have heq : doContextReset dt c s = v.resetContext c := by
    rw [doContextReset, State.tick_onReach dt _ hl hs]
    exact if_neg (by rw [show (s.tick dt).ctxExists c = true from hc]; decide)
  refine ⟨_, rfl, ?_⟩
  rw [heq]
  exact ⟨(State.resetContext_page (State.ctxExists_lt hc) rfl).trans (State.get_put_same _ _ _ rfl),
    congrArg HifSt.resetting (State.resetContext_resetting (s := v) hr)⟩

theorem contextReset_refused (dt : Nat) (hl : s.live = true) (hs : s.cfg.safeIdle = false) (hc : s.ctxExists c = false) :
    Completes (exec (.contextReset dt c) s) (fun t => Raised 0x0F06 s t ∧ t.hif = s.hif) := by
  have heq : doContextReset dt c s = (s.tick dt).accessEvent c (HIF_CTX_CTRL c) 5 := by
    rw [doContextReset, State.tick_onReach dt _ hl hs]
    exact if_pos (by rw [show (s.tick dt).ctxExists c = false from hc]; rfl)
  refine ⟨_, rfl, ?_⟩
  rw [heq]
  exact ⟨State.accessEvent_raised (s := s.tick dt) _ _ _, State.accessEvent_hif _ _ _ _⟩

/-- Settles O24: each loss of the host takes its functions down first, and what follows (resets, held events, the end of a host read)
leaves the functions' status and HIF's own registers. -/
theorem hostLinkAndFunctionResets : Obligations.HostLinkAndFunctionResets :=
  ⟨fun dt _ hl hp => perstAssert_completes dt hl hp,
    fun _ _ => ⟨_, rfl, rfl, fun _ => rfl⟩,
    fun dt _ hl hup => linkDown_completes dt hl hup,
    fun dt _ hl hp => linkUp_completes dt hl hp,
    fun dt _ lines _ hl hf hen hme => masterEnableClear_completes dt lines hl hf hen hme,
    fun dt _ _ hl hf hen hup => masterEnableSet_completes dt hl hf hen hup,
    fun dt _ _ hl h0 hf hen hup => functionReset_completes dt hl h0 hf hen hup,
    fun dt _ hl hup => pfReset_completes dt hl hup,
    fun dt _ _ hl hs hc hr => contextReset_completes dt hl hs hc hr,
    fun dt _ _ hl hs hc => contextReset_refused dt hl hs hc⟩

end Sys2Proof.Machine
end

section
/-! The pseudo-channels' states (R113, R120 to R123): what a write of one leaves, what a sweep over all of them makes of each, and which
reads of the state do not see them. -/
namespace Sys2Proof.Machine

variable {s : State} {p q : Nat}

theorem State.pcState_setPc_same (x : PcSt) : (s.setPc p x).pcState p = x := tget_tset_same _ _ _ _

theorem State.pcState_setPc_other (x : PcSt) (h : q ≠ p) : (s.setPc p x).pcState q = s.pcState q := tget_tset_other _ _ _ h

@[simp] theorem State.pcState_memBusy : s.memBusy.pcState p = s.pcState p := rfl

@[simp] theorem State.pcState_showHbmSpares : s.showHbmSpares.pcState p = s.pcState p := rfl

theorem State.pcState_congr {t : State} (h : t.mem.pcs = s.mem.pcs) (p : Nat) : t.pcState p = s.pcState p :=
  congrArg (fun l => tget PcSt.init l p) h

/-- A sweep takes each pseudo-channel once: its state then is what its own step makes of it, in a state that the steps before have
changed by `R` only. -/
theorem foldOver_pcState {R : State → State → Prop} (hrefl : ∀ s, R s s) (htrans : ∀ {a b c}, R a b → R b c → R a c)
    {f : Nat → State → State} (hR : ∀ p t, R t (f p t)) (hother : ∀ p q t, q ≠ p → (f p t).pcState q = t.pcState q)
    {l : List Nat} (hl : l.Nodup) (hp : p ∈ l) (s : State) :
    ∃ u, R s u ∧ u.pcState p = s.pcState p ∧ (foldOver l f s).pcState p = (f p u).pcState p := by
  induction l generalizing s with
  | nil => cases hp
  | cons a r ih =>
    obtain ⟨har, hr⟩ := List.nodup_cons.mp hl
    rcases List.mem_cons.mp hp with rfl | hpr
    · refine ⟨s, hrefl s, rfl, ?_⟩
      have hkeep : ∀ (t : State), (foldOver r f t).pcState p = t.pcState p :=
        foldOver_rel (R := fun s t : State => t.pcState p = s.pcState p) (fun _ => rfl) (fun h1 h2 => h2.trans h1)
          (fun b hb t => hother b p t (fun e => har (e ▸ hb)))
      exact hkeep _
    · obtain ⟨u, hu, hsame, hfold⟩ := ih hr hpr (f a s)
      exact ⟨u, htrans (hR a s) hu, hsame.trans (hother a p s (fun e => har (e ▸ hpr))), hfold⟩

end Sys2Proof.Machine
end

section
/-! Training counts the lane spares that the repair map uses (R129, R413), where O32 lets the count stand. -/
namespace Sys2Proof.Machine

variable {s : State} {p dt : Nat}

/-- What training that succeeds makes of a pseudo-channel. -/
def State.trainPc (s : State) (p : Nat) : State := s.setPc p { PcSt.init with
  sparesUsed := min laneSpares (s.cal.field.filter (fun e => e.kind == fenceHbm && e.unit_ == p)).length
  lastRetrain := s.now
  lastWindow := s.now
  lastDue := s.now }

/-- Training that succeeds takes every pseudo-channel once. -/
theorem hbmTrainingDone_trains (failPc : Nat) (hl : s.live = true) (hi : s.cfg.imageRunning = true)
    (ht : s.get MEM_STATUS.TRAINED = 0) (hf : s.get MEM_STATUS.TRAIN_FAIL = 0) :
    ∃ v : State, v.cal = s.cal ∧
      doHbmTrainingDone dt true failPc s = (foldOver (List.range 64) (fun p w => w.trainPc p) v).showHbmSpares.memBusy := by
  have hgo : ((s.tick dt).cfg.imageRunning && !(s.tick dt).flag MEM_STATUS.TRAINED && !(s.tick dt).flag MEM_STATUS.TRAIN_FAIL) = true := by
    simp [hi, State.flag, ht, hf]
  rw [doHbmTrainingDone, State.tick_onLiveIf dt _ _ hl hgo]
  exact ⟨{ ((((s.tick dt).put MEM_STATUS.TRAINED 1).put HIF_STATUS.SCRUB_BUSY 1).put HIF_POOL_FREE.PAGES 0) with
    hif := { s.hif with pages := [] } }, rfl, rfl⟩

/-- It sets a pseudo-channel's used spares by the fences of the field map alone. -/
theorem hbmTrainingDone_sparesUsed (failPc : Nat) (hl : s.live = true) (hi : s.cfg.imageRunning = true)
    (ht : s.get MEM_STATUS.TRAINED = 0) (hf : s.get MEM_STATUS.TRAIN_FAIL = 0) (hp : p < 64) :
    ((doHbmTrainingDone dt true failPc s).showBoot.pcState p).sparesUsed =
      min laneSpares (s.cal.field.filter (fun e => e.kind == fenceHbm && e.unit_ == p)).length := by
  obtain ⟨v, hv, hrun⟩ := hbmTrainingDone_trains (dt := dt) failPc hl hi ht hf
  obtain ⟨u, hu, -, hfold⟩ := foldOver_pcState (R := fun s t => t.cal = s.cal) (fun _ => rfl) (fun h1 h2 => h2.trans h1)
    (f := fun p w => w.trainPc p) (fun _ _ => rfl) (fun _ _ _ hne => State.pcState_setPc_other _ hne) List.nodup_range
    (List.mem_range.mpr hp) v
  rw [State.pcState_congr (congrArg MemSt.pcs (State.showBoot_mem _)), hrun, State.pcState_memBusy, State.pcState_showHbmSpares, hfold,
    State.trainPc, State.pcState_setPc_same, ← hv, ← hu]

/-- Stacks before training, with an empty field map, and one spare of pseudo-channel 0 in use. -/
def untrainedWithSpare : State := { State.reset with
  glb := { State.reset.glb with
    held := false
    inReset := false
    pwrOk := true }
  cfg := { State.reset.cfg with imageRunning := true }
  mem := { State.reset.mem with pcs := [(0, { PcSt.init with sparesUsed := 1 })] } }

theorem untrainedWithSpare_conditions : untrainedWithSpare.live = true ∧ untrainedWithSpare.cfg.imageRunning = true ∧
    untrainedWithSpare.get MEM_STATUS.TRAINED = 0 ∧ untrainedWithSpare.get MEM_STATUS.TRAIN_FAIL = 0 := by decide

/-- Refutes O32: its first clause lets a pseudo-channel's used spares stand through training, which sets them by the field map's fences
(R129, R413): in `untrainedWithSpare` one is in use, the field map is empty, and the command leaves none in use. -/
theorem not_stacksTrainSleepAndReport : ¬ Obligations.StacksTrainSleepAndReport := by
  unfold Obligations.StacksTrainSleepAndReport
  rintro ⟨htrain, -⟩
  obtain ⟨hl, hi, ht, hf⟩ := untrainedWithSpare_conditions
  obtain ⟨t, hnext, hok⟩ := htrain 0 0 true untrainedWithSpare hl hi ht hf (by decide)
  obtain ⟨-, -, -, -, hpcs⟩ := hok
  obtain ⟨-, -, hkept⟩ := hpcs 0 (by decide)
  have hzero : (t.pcState 0).sparesUsed = 0 := by
    rw [← Host.Outcome.next.inj hnext]
    exact (hbmTrainingDone_sparesUsed 0 hl hi ht hf (by decide)).trans (Nat.min_zero _)
  have hone : (untrainedWithSpare.pcState 0).sparesUsed = 1 := rfl
  omega

end Sys2Proof.Machine
end

section
/-! A controller's next command by the ranks of Table MEM-2 (R113, R118, R120): which work the present state makes it choose. -/
namespace Sys2Proof.Machine

variable {s : State} {p d dt : Nat}

theorem foldl_least {β : Type} (l : List (Nat × β)) (x : Nat × β) :
    let m := l.foldl (fun (a : Nat × β) y => if y.1 < a.1 then y else a) x
    m ∈ x :: l ∧ ∀ y ∈ x :: l, m.1 ≤ y.1 := by
  induction l generalizing x with
  | nil => simp
  | cons z r ih =>
    obtain ⟨hm, hle⟩ := ih (if z.1 < x.1 then z else x)
    rw [List.forall_mem_cons] at hle
    obtain ⟨hhead, htail⟩ := hle
    refine ⟨?_, ?_⟩
    · rcases List.mem_cons.mp hm with h | h
      · rw [List.foldl_cons, h]
        split <;> simp
      · exact List.mem_cons_of_mem _ (List.mem_cons_of_mem _ h)
    · rw [List.forall_mem_cons, List.forall_mem_cons]
      refine ⟨?_, ?_, htail⟩
      · exact hhead.trans (by split <;> omega)
      · exact hhead.trans (by split <;> omega)

/-- Work whose key is less than every other's is picked. -/
theorem pickLeast_eq {l : List (Nat × PcWork)} {x : Nat × PcWork} (hx : x ∈ l) (hleast : ∀ y ∈ l, y = x ∨ x.1 < y.1) :
    pickLeast l = some x.2 := by
  cases l with
  | nil => cases hx
  | cons z r =>
    obtain ⟨hm, hle⟩ := foldl_least r z
    refine congrArg (fun y : Nat × PcWork => some y.2) ((hleast _ hm).resolve_right ?_)
    exact Nat.not_lt.mpr (hle x hx)

theorem State.choosePc_refresh (h0 : 0 < (s.pcState p).owed) (hmax : s.postponeMax ≤ (s.pcState p).owed) : s.choosePc p = .refresh :=
  if_pos ⟨hmax, h0⟩

section
variable (howed : (s.pcState p).owed < s.postponeMax) (hq : s.mem.writeQ = [])
include hq

theorem State.queuedAt_nil : s.queuedAt p = [] := by rw [State.queuedAt, hq, List.filter_nil]

include howed

/-- With nothing owed beyond the limit and nothing queued, the read with the one earliest deadline within 1.2 us goes first. -/
theorem State.choosePc_urgent {r : MemReq} (hr : r ∈ s.waiting p) (hrt : r.realTime = true) (hw : r.waits = [])
    (hd : r.deadline = some d) (hnear : d < s.now + 4800)
    (hfirst : ∀ q ∈ s.waiting p, q.realTime = true → q.waits = [] → ∀ b, q.deadline = some b → q = r ∨ d < b) :
    s.choosePc p = .txn r := by
  have hpick : pickLeast ((((s.waiting p).filter (fun r => r.waits.isEmpty)).filter (fun r => r.realTime &&
      r.deadline.any (fun d => decide (d < s.now + 4800)))).map (fun r => (r.deadline.getD (2 ^ 64), PcWork.txn r))) = some (.txn r) := by
    refine pickLeast_eq (x := (d, .txn r)) (List.mem_map.mpr ⟨r, ?_, by rw [hd, Option.getD_some]⟩) ?_
    · simp [hr, hrt, hw, hd, hnear]
    · intro y hy
      obtain ⟨q, hq, rfl⟩ := List.mem_map.mp hy
      simp only [List.mem_filter, List.isEmpty_iff, Bool.and_eq_true, Option.any_eq_true, decide_eq_true_eq] at hq
      obtain ⟨⟨hqw, hwaits⟩, hqrt, b, hb, -⟩ := hq
      rcases hfirst q hqw hqrt hwaits b hb with rfl | hlt
      · exact .inl (by rw [hd, Option.getD_some])
      · exact .inr (by rwa [hb, Option.getD_some])
  rw [State.choosePc, if_neg (fun h => by omega), State.queuedAt_nil hq]
  simp only [List.filter_nil, List.map_nil, List.append_nil, hpick, Option.some_or, Option.getD_some]

/-- With nothing waiting and nothing queued, refreshes are caught up. -/
theorem State.choosePc_postponable (hr : s.waiting p = []) : s.choosePc p = .postponable := by
  rw [State.choosePc, if_neg (fun h => by omega), State.queuedAt_nil hq, hr]
  simp [pickLeast]
end

end Sys2Proof.Machine
end

section
/-! The commands of a pseudo-channel (R113, R118, R120 to R123). -/
namespace Sys2Proof.Machine

variable {s : State} {p d dt : Nat}

/-! ### PC_COMMAND_ISSUE -/

/-- The transactions with a read's tag are issued. -/
def State.issueTag (s : State) (r : MemReq) : State := { s with mem := { s.mem with
  reqs := s.mem.reqs.map (fun q => if sameTag q r then { q with issued := true } else q) } }

theorem State.touchLine_eq (dpa : Nat) : ∃ ls, s.touchLine dpa = { s with mem := { s.mem with lines := ls } } := by
  unfold State.touchLine
  split
  · exact ⟨_, rfl⟩
  · split
    · exact ⟨_, rfl⟩
    · exact ⟨_, rfl⟩

theorem State.transfer_reqs (rt : Bool) : (s.transfer p rt).mem.reqs = s.mem.reqs := rfl

theorem State.transfer_writeQ (rt : Bool) : (s.transfer p rt).mem.writeQ = s.mem.writeQ := rfl

theorem State.transfer_owed (rt : Bool) : ((s.transfer p rt).pcState p).owed = (s.pcState p).owed := by
  change ((s.setPc p _).pcState p).owed = _
  rw [State.pcState_setPc_same]

section
variable (hl : s.live = true) (hc : s.lan.coreStopped = false) (hp : p < 64) (hsr : s.get MEM_STATUS.SR_STATE = 0)
  (ht : s.get MEM_STATUS.TRAINED = 1)
include hp hsr ht

theorem State.pcAwake (dt : Nat) :
    (decide (p < 64) && (s.tick dt).get MEM_STATUS.SR_STATE == 0 && (s.tick dt).flag MEM_STATUS.TRAINED) = true := by
  simp [hp, hsr, State.flag, ht]

include hl hc

theorem pcCommandIssue_refreshes (h0 : 0 < (s.pcState p).owed) (hmax : s.postponeMax ≤ (s.pcState p).owed) :
    let t := doPcCommandIssue dt p s
    (t.pcState p).owed = (s.pcState p).owed - 1 ∧ t.mem.reqs = s.mem.reqs ∧
      t.get (MEM_CTL_REFRESH.FORCED (pcController p)) = (s.get (MEM_CTL_REFRESH.FORCED (pcController p)) + 1) % 2 ^ 16 := by
  have hchoose : ((s.tick dt).setDrain (pcController p)).choosePc p = .refresh := State.choosePc_refresh h0 hmax
  rw [doPcCommandIssue, State.tick_onCoreIf dt _ _ hl hc (State.pcAwake hp hsr ht dt)]
  simp only [hchoose]
  exact ⟨congrArg PcSt.owed (State.pcState_setPc_same _), rfl, State.get_put_same _ _ _ rfl⟩

variable (howed : (s.pcState p).owed < s.postponeMax) (hq : s.mem.writeQ = [])
include howed hq

theorem pcCommandIssue_reads {r : MemReq} (hr : r ∈ s.waiting p) (hrt : r.realTime = true) (hw : r.waits = [])
    (hd : r.deadline = some d) (hnear : d < s.now + dt + 4800)
    (hfirst : ∀ q ∈ s.waiting p, q.realTime = true → q.waits = [] → ∀ b, q.deadline = some b → q = r ∨ d < b) :
    let t := doPcCommandIssue dt p s
    t.mem.writeQ = [] ∧ (t.pcState p).owed = (s.pcState p).owed ∧
      t.mem.reqs = s.mem.reqs.map (fun q => if sameTag q r then { q with issued := true } else q) := by
  have hchoose : ((s.tick dt).setDrain (pcController p)).choosePc p = .txn r :=
    State.choosePc_urgent (s := (s.tick dt).setDrain (pcController p)) howed hq hr hrt hw hd hnear hfirst
  rw [doPcCommandIssue, State.tick_onCoreIf dt _ _ hl hc (State.pcAwake hp hsr ht dt)]
  simp only [hchoose]
  obtain ⟨ls, hline⟩ := State.touchLine_eq (s := ((s.tick dt).setDrain (pcController p)).issueTag r) r.addr
  rw [← State.issueTag, hline, State.transfer_reqs, State.transfer_writeQ, State.transfer_owed]
  exact ⟨hq, rfl, rfl⟩

theorem pcCommandIssue_catchesUp (hr : s.waiting p = []) :
    let t := doPcCommandIssue dt p s
    (t.pcState p).owed = (s.pcState p).owed - 1 ∧ t.mem.reqs = s.mem.reqs ∧ ((s.pcState p).owed = 0 → (t.pcState p).bankRound =
      if hbmBanks ≤ (s.pcState p).bankRound + 1 then 0 else (s.pcState p).bankRound + 1) := by
  have hchoose : ((s.tick dt).setDrain (pcController p)).choosePc p = .postponable :=
    State.choosePc_postponable (s := (s.tick dt).setDrain (pcController p)) howed hq hr
  rw [doPcCommandIssue, State.tick_onCoreIf dt _ _ hl hc (State.pcAwake hp hsr ht dt)]
  simp only [hchoose, State.pcState_setPc_same]
  change (s.pcState p).catchUp.owed = _ ∧ _ ∧ (_ → (s.pcState p).catchUp.bankRound = _)
  refine ⟨?_, rfl, fun h0 => ?_⟩
  · unfold PcSt.catchUp
    split_ifs <;> simp <;> omega
  · rw [PcSt.catchUp, if_neg (by omega)]
    split_ifs <;> rfl
end

/-! ### REFRESH_DUE -/

/-- A count that stops at its field's largest value. -/
theorem State.get_incSat_same (f : Fld) (n : Nat) (h : f.ok = true) :
    (s.incSat f n).get f = min (2 ^ (f.hi + 1 - f.lo) - 1) (s.get f + n) := by
  rw [State.incSat, State.get_put_same _ _ _ h, satAdd, Nat.mod_eq_of_lt]
  exact (Nat.min_le_left _ _).trans_lt (Nat.sub_lt (Nat.two_pow_pos _) Nat.one_pos)

theorem State.get_setPc (x : PcSt) (f : Fld) : (s.setPc p x).get f = s.get f := (rfl)

theorem State.pcState_inc (f : Fld) : (s.inc f).pcState p = s.pcState p := (rfl)

/-- The count of forced refreshes goes up; the most that was owed stands beside the count. -/
theorem State.forced_inc (k : Nat) :
    (s.inc (MEM_CTL_REFRESH.FORCED k)).get (MEM_CTL_REFRESH.FORCED k) = (s.get (MEM_CTL_REFRESH.FORCED k) + 1) % 2 ^ 16 :=
  State.get_put_same _ _ _ rfl

theorem State.forced_put_maxOwed (k v : Nat) :
    (s.put (MEM_CTL_REFRESH.MAX_OWED k) v).get (MEM_CTL_REFRESH.FORCED k) = s.get (MEM_CTL_REFRESH.FORCED k) :=
  State.get_put_apart _ _ rfl (by simp [Fld.apart])

section
variable (hl : s.live = true) (hp : p < 64) (hsr : s.get MEM_STATUS.SR_STATE = 0) (ht : s.get MEM_STATUS.TRAINED = 1)
include hl hp hsr ht

theorem refreshDue_counts (hneed : s.mem.tempNeed.contains (pcStack p) = false)
    (hdue : (s.pcState p).lastDue + refreshInterval (s.get (MEM_STACK_TEMP.BAND (pcStack p))) ≤ s.now + dt) :
    let t := doRefreshDue dt p s
    (t.pcState p).lastDue = s.now + dt ∧
      let same := t.get (MEM_CTL_REFRESH.FORCED (pcController p)) = s.get (MEM_CTL_REFRESH.FORCED (pcController p))
      if 0 < (s.pcState p).rounds then (t.pcState p).rounds = (s.pcState p).rounds - 1 ∧ (t.pcState p).owed = (s.pcState p).owed ∧ same
      else if ((s.waiting p).any (·.realTime) || (s.queuedAt p).any (·.realTime)) = false then
        (t.pcState p).owed = (s.pcState p).owed ∧ ∀ a, t.rd a = s.rd a
      else if (s.pcState p).owed + 1 < s.postponeMax then (t.pcState p).owed = (s.pcState p).owed + 1 ∧ same
      else (t.pcState p).owed = (s.pcState p).owed ∧
        t.get (MEM_CTL_REFRESH.FORCED (pcController p)) = (s.get (MEM_CTL_REFRESH.FORCED (pcController p)) + 1) % 2 ^ 16 := by
  have hgo : (decide (p < 64) && (s.tick dt).get MEM_STATUS.SR_STATE == 0 && (s.tick dt).flag MEM_STATUS.TRAINED &&
      !(s.tick dt).mem.tempNeed.contains (pcStack p) && decide (((s.tick dt).pcState p).lastDue +
        refreshInterval ((s.tick dt).get (MEM_STACK_TEMP.BAND (pcStack p))) ≤ (s.tick dt).now)) = true := by
    rw [State.pcAwake hp hsr ht dt, Bool.true_and, Bool.and_eq_true]
    exact ⟨by rw [State.tick_mem, hneed]; rfl, decide_eq_true hdue⟩
  obtain ⟨u, hu⟩ : ∃ u, u = (s.tick dt).setPc p { (s.tick dt).pcState p with lastDue := (s.tick dt).now } := ⟨_, rfl⟩
  have hx : u.pcState p = { s.pcState p with lastDue := s.now + dt } := by
    rw [hu]
    exact State.pcState_setPc_same _
  have hbusy : ((u.waiting p).any (·.realTime) || (u.queuedAt p).any (·.realTime)) =
      ((s.waiting p).any (·.realTime) || (s.queuedAt p).any (·.realTime)) := by rw [hu]; rfl
  have hmax : u.postponeMax = s.postponeMax := by rw [hu]; rfl
  have hrd : ∀ a, u.rd a = s.rd a := by rw [hu]; exact fun _ => rfl
  have hget : u.get (MEM_CTL_REFRESH.FORCED (pcController p)) = s.get (MEM_CTL_REFRESH.FORCED (pcController p)) :=
    State.get_congr (hrd _)
  rw [doRefreshDue, State.tick_onLiveIf dt _ _ hl hgo]
  dsimp only
  rw [← hu, hbusy, hmax, hx]
  dsimp only
  by_cases hrounds : 0 < (s.pcState p).rounds
  · simp only [hrounds, ↓reduceIte, State.pcState_setPc_same, State.get_setPc, hget, and_self]
  simp only [hrounds, ↓reduceIte]
  cases ((s.waiting p).any (·.realTime) || (s.queuedAt p).any (·.realTime)) with
  | false =>
    simp only [Bool.not_false, ↓reduceIte, hx, true_and]
    exact hrd
  | true =>
    simp only [Bool.not_true, Bool.false_eq_true, Bool.true_eq_false, ↓reduceIte]
    by_cases hroom : (s.pcState p).owed + 1 < s.postponeMax
    · simp only [hroom, Nat.not_le.mpr hroom, ↓reduceIte, State.pcState_setPc_same, State.get_setPc, State.forced_put_maxOwed, hget,
        and_self]
    · simp only [hroom, Nat.not_lt.mp hroom, ↓reduceIte, State.pcState_inc, State.pcState_setPc_same, Nat.add_sub_cancel, true_and]
      rw [State.forced_inc, State.get_setPc, State.forced_put_maxOwed, hget]
end

/-! ### HBM_RETRAIN_WINDOW and RETRAIN_OVERDUE -/

/-- What the fencing of lanes leaves of what a window reads beside MEM's own state. -/
def WindowSame (s t : State) : Prop := t.now = s.now ∧ t.cal.sess = s.cal.sess ∧ t.rd MEM_RETRAIN_CFG = s.rd MEM_RETRAIN_CFG

/-- And MEM's state stands too. -/
def WindowKept (s t : State) : Prop := t.mem = s.mem ∧ WindowSame s t

theorem WindowSame.refl (s : State) : WindowSame s s := ⟨rfl, rfl, rfl⟩

theorem WindowSame.trans {a b c : State} (h1 : WindowSame a b) (h2 : WindowSame b c) : WindowSame a c := by
  obtain ⟨hn, hs, hr⟩ := h1
  obtain ⟨hn', hs', hr'⟩ := h2
  exact ⟨hn'.trans hn, hs'.trans hs, hr'.trans hr⟩

theorem WindowSame.retrainMs_eq {t : State} (h : WindowSame s t) : t.retrainMs = s.retrainMs := by
  rw [State.retrainMs, State.get_congr (f := MEM_RETRAIN_CFG.PERIOD_MS) h.2.2, State.retrainMs]

theorem WindowKept.refl (s : State) : WindowKept s s := ⟨rfl, .refl s⟩

theorem WindowKept.trans {a b c : State} (h1 : WindowKept a b) (h2 : WindowKept b c) : WindowKept a c :=
  ⟨h2.1.trans h1.1, h1.2.trans h2.2⟩

theorem WindowKept.put {f : Fld} (v : Nat) (h : MEM_RETRAIN_CFG ≠ f.reg) : WindowKept s (s.put f v) :=
  ⟨rfl, rfl, rfl, State.rd_put_other _ _ h⟩

theorem WindowKept.raise (c a0 a1 a2 : Nat) : WindowKept s (s.raise c a0 a1 a2) :=
  ⟨State.raise_mem _ _ _ _ _, congrArg (fun b => b.1.1) (State.raise_bound s c a0 a1 a2), congrArg CalSt.sess (State.raise_cal _ _ _ _ _),
    State.rd_raise _ _ _ _ _ (by decide)⟩

theorem WindowKept.showFenced (s : State) : WindowKept s s.showFenced := by
  have hf : Fr anyDram (· ≠ MEM_RETRAIN_CFG) (fun _ => False) s s.showFenced :=
    State.showFenced_frame s (by decide) (by decide) (by decide) (by decide) (Fr.start trivial)
  exact ⟨hf.frame.2 .mem id, congrArg (fun b => b.1.1) (State.showFenced_bound s), congrArg CalSt.sess (hf.frame.2 .cal id),
    hf.rd_eq (by simp)⟩

theorem WindowKept.fenceUnit (s : State) (kind unit_ detail : Nat) : WindowKept s (s.fenceUnit kind unit_ detail) := by
  unfold State.fenceUnit
  split
  · exact .refl s
  · refine WindowKept.trans ?_ ((WindowKept.showFenced _).trans (WindowKept.raise _ _ _ _))
    exact ⟨rfl, rfl, rfl, rfl⟩

/-- One pseudo-channel in a window: its retrain falls due by its own time, and pays one refresh. -/
theorem State.windowPc_eq (s : State) (p : Nat) : ∃ v used worn, WindowKept s v ∧ s.windowPc p = v.setPc p { s.pcState p with
    remap := []
    sparesUsed := used
    degraded := worn
    lastRetrain := if (s.pcState p).lastRetrain + s.retrainMs * msSteps ≤ s.now then s.now else (s.pcState p).lastRetrain
    owed := if (s.pcState p).lastRetrain + s.retrainMs * msSteps ≤ s.now then (s.pcState p).owed - 1 else (s.pcState p).owed
    lastWindow := s.now
    overdueRaised := false } := by
  unfold State.windowPc
  extract_lets x use s0 s1 s2 due
  have hctl : MEM_RETRAIN_CFG ≠ MEM_CTL_PARITY (pcController p) := by
    unfold MEM_CTL_PARITY MEM_RETRAIN_CFG
    split_ifs <;> omega
  have h1 : WindowKept s s1 :=
    (foldOver_rel WindowKept.refl WindowKept.trans (fun l _ t => WindowKept.fenceUnit t fenceHbm p l) s).trans
      (WindowKept.put (f := MEM_CTL_PARITY.REMAPS (pcController p)) _ hctl)
  have h2 : WindowKept s s2 := by
    unfold s2
    split
    · exact h1.trans (((WindowKept.put (f := MEM_STATUS.DEGRADED) _ (by decide)).trans
        (WindowKept.put (f := MEM_STATUS.FAIL_PC) _ (by decide))).trans (WindowKept.raise _ _ _ _))
    · exact h1
  refine ⟨s2, x.sparesUsed + use, x.degraded || decide (use < x.remap.length), h2, ?_⟩
  simp only [due, x, decide_eq_true_eq]

theorem WindowSame.windowPc (p : Nat) (s : State) : WindowSame s (s.windowPc p) := by
  obtain ⟨v, used, worn, hv, heq⟩ := State.windowPc_eq s p
  rw [heq]
  exact hv.2

theorem State.windowPc_other {p q : Nat} (s : State) (h : q ≠ p) : (s.windowPc p).pcState q = s.pcState q := by
  obtain ⟨v, used, worn, ⟨hm, -⟩, heq⟩ := State.windowPc_eq s p
  rw [heq, State.pcState_setPc_other _ h, State.pcState_congr (congrArg MemSt.pcs hm)]

/-- Without a margin session the window sweeps nothing (R409). -/
theorem State.sweepWindow_eq (h : s.cal.sess = []) : s.sweepWindow = s := by
  rw [State.sweepWindow, h]
  rfl

section
variable (hl : s.live = true) (ht : s.get MEM_STATUS.TRAINED = 1) (hwin : s.seq.fab.contains s.hbmWindow = true)
  (hphase : s.phaseInstant (s.actGet SEQ_HBM_WIN.PHASE) ≤ s.now + dt)
include hl ht hwin hphase

theorem hbmRetrainWindow_opens : ∃ v : State, v.mem = s.mem ∧ v.cal = s.cal ∧ v.now = s.now + dt ∧ v.regs = s.regs ∧
    v.seq.fab = s.seq.fab.erase s.hbmWindow ∧ doHbmRetrainWindow dt s = if v.get MEM_STATUS.SR_STATE ≠ 0 then v
      else ((foldOver (List.range 64) (fun p w => w.windowPc p) v).sweepWindow).showHbmSpares := by
  have hgo : ((s.tick dt).flag MEM_STATUS.TRAINED && (s.tick dt).seq.fab.contains (s.tick dt).hbmWindow &&
      decide ((s.tick dt).phaseInstant ((s.tick dt).actGet SEQ_HBM_WIN.PHASE) ≤ (s.tick dt).now)) = true := by
    rw [Bool.and_eq_true, Bool.and_eq_true]
    exact ⟨⟨State.get_of_flag ht, hwin⟩, decide_eq_true hphase⟩
  refine ⟨{ s.tick dt with seq := { s.seq with fab := s.seq.fab.erase s.hbmWindow } }, rfl, rfl, rfl, rfl, rfl, ?_⟩
  rw [doHbmRetrainWindow, State.tick_onLiveIf dt _ _ hl hgo]
  rfl

theorem hbmRetrainWindow_retrains (hs : s.cal.sess = []) :
    let t := doHbmRetrainWindow dt s
    if s.get MEM_STATUS.SR_STATE ≠ 0 then t.mem = s.mem ∧ t.seq.fab = s.seq.fab.erase s.hbmWindow
    else ∀ p, p < 64 → (t.pcState p).lastWindow = s.now + dt ∧ (t.pcState p).remap = [] ∧ (t.pcState p).overdueRaised = false ∧
      if (s.pcState p).lastRetrain + s.retrainMs * msSteps ≤ s.now + dt then
        (t.pcState p).lastRetrain = s.now + dt ∧ (t.pcState p).owed = (s.pcState p).owed - 1
      else (t.pcState p).lastRetrain = (s.pcState p).lastRetrain ∧ (t.pcState p).owed = (s.pcState p).owed := by
  obtain ⟨v, hmem, hcal, hnow, hregs, hfab, hrun⟩ := hbmRetrainWindow_opens hl ht hwin hphase
  have hsr : v.get MEM_STATUS.SR_STATE = s.get MEM_STATUS.SR_STATE := State.get_congr (State.rd_congr hregs _)
  dsimp only
  rw [hrun, hsr]
  by_cases hsleep : s.get MEM_STATUS.SR_STATE ≠ 0
  · rw [if_pos hsleep, if_pos hsleep]
    exact ⟨hmem, hfab⟩
  · rw [if_neg hsleep, if_neg hsleep]
    intro p hp
    have hsess : (foldOver (List.range 64) (fun p w => w.windowPc p) v).cal.sess = [] := by
      have hkept := foldOver_rel WindowSame.refl WindowSame.trans (fun p _ t => WindowSame.windowPc p t) (l := List.range 64) v
      rw [hkept.2.1, hcal, hs]
    obtain ⟨u, hu, hup, hfold⟩ := foldOver_pcState WindowSame.refl WindowSame.trans (f := fun p w => w.windowPc p) WindowSame.windowPc
      (fun _ _ t hne => State.windowPc_other t hne) List.nodup_range (List.mem_range.mpr hp) v
    obtain ⟨w, used, worn, -, heq⟩ := State.windowPc_eq u p
    have hms : u.retrainMs = s.retrainMs := hu.retrainMs_eq.trans (by rw [State.retrainMs, State.get_congr (State.rd_congr hregs _), State.retrainMs])
    have hun : u.now = s.now + dt := hu.1.trans hnow
    have hus : u.pcState p = s.pcState p := hup.trans (State.pcState_congr (congrArg MemSt.pcs hmem) p)
    rw [State.sweepWindow_eq hsess, State.pcState_showHbmSpares, hfold, heq, State.pcState_setPc_same, hms, hun, hus]
    refine ⟨rfl, rfl, rfl, ?_⟩
    dsimp only
    split_ifs
    · exact ⟨rfl, rfl⟩
    · exact ⟨rfl, rfl⟩
end

theorem State.raise_raised_of {t : State} (h : t.int = s.int) (c a0 a1 a2 : Nat) : Raised c s (t.raise c a0 a1 a2) := by
  rw [Raised, State.raise_eventCount, if_pos rfl, State.eventCount_congr h]

theorem retrainOverdue_raises (hl : s.live = true) (hp : p < 64) (ht : s.get MEM_STATUS.TRAINED = 1)
    (hsr : s.get MEM_STATUS.SR_STATE = 0) (hr : (s.pcState p).overdueRaised = false)
    (hover : (s.pcState p).lastWindow + 4 * s.retrainMs * msSteps ≤ s.now + dt) :
    let t := doRetrainOverdue dt p s
    Raised 0x0C03 s t ∧ (t.pcState p).overdueRaised = true := by
  have hgo : (decide (p < 64) && (s.tick dt).flag MEM_STATUS.TRAINED && (s.tick dt).get MEM_STATUS.SR_STATE == 0 &&
      !((s.tick dt).pcState p).overdueRaised &&
      decide (((s.tick dt).pcState p).lastWindow + 4 * (s.tick dt).retrainMs * msSteps ≤ (s.tick dt).now)) = true := by
    rw [Bool.and_eq_true]
    refine ⟨?_, decide_eq_true hover⟩
    rw [show (s.tick dt).pcState p = s.pcState p from rfl, hr]
    simp [hp, State.flag, ht, hsr]
  have hrun : doRetrainOverdue dt p s =
      ((s.tick dt).setPc p { s.pcState p with overdueRaised := true }).raise 0x0C03 p 0 0 := by
    rw [doRetrainOverdue, State.tick_onLiveIf dt _ _ hl hgo]
    rfl
  have hint : ((s.tick dt).setPc p { s.pcState p with overdueRaised := true }).int = s.int := rfl
  dsimp only
  rw [hrun]
  refine ⟨State.raise_raised_of hint _ _ _ _, ?_⟩
  rw [State.pcState_congr (congrArg MemSt.pcs (State.raise_mem _ _ _ _ _)), State.pcState_setPc_same]

/-! ### PARITY_ERROR -/

theorem parityError_marks (hl : s.live = true) (hp : p < 64) (lane e k : Nat) :
    let t := doParityError dt p lane e k s
    t.get (MEM_CTL_PARITY.ERRORS (pcController p)) = min 65535 (s.get (MEM_CTL_PARITY.ERRORS (pcController p)) + 1) ∧
      t.mem.reqs = s.mem.reqs.map (fun r => if r.engine == e && r.index == k then
        { r with reissues := r.reissues + 1, issued := false } else r) ∧
      ((∃ r ∈ s.mem.reqs, r.engine = e ∧ r.index = k ∧ 1 ≤ r.reissues) ∨
        15 ≤ ((tget [] (s.pcState p).laneErrs lane).filter (fun a => decide (s.now + dt < a + secSteps))).length →
        (t.pcState p).remap.contains lane = true) := by
  rw [doParityError, State.tick_onLiveIf dt _ _ hl (decide_eq_true hp)]
  refine ⟨?_, rfl, fun hmark => ?_⟩
  · exact State.get_incSat_same (s := s.tick dt) (MEM_CTL_PARITY.ERRORS (pcController p)) 1 rfl
  · rw [State.pcState_setPc_same]
    have hbad : (s.mem.reqs.any (fun r => r.engine == e && r.index == k && decide (1 ≤ r.reissues)) || decide (16 ≤
        (((s.now + dt) :: (tget [] (s.pcState p).laneErrs lane).filter (fun a => decide (s.now + dt < a + secSteps))).take 16).length)) =
        true := by
      rw [Bool.or_eq_true, List.any_eq_true, decide_eq_true_eq, List.length_take, List.length_cons]
      rcases hmark with ⟨r, hr, he, hk, hre⟩ | hmany
      · exact .inl ⟨r, hr, by simp [he, hk, hre]⟩
      · exact .inr (by omega)
    have hlane (b : Bool) (l : List Nat) (hb : b = true) : (if b && !l.contains lane then l ++ [lane] else l).contains lane = true := by
      subst hb
      cases hl : l.contains lane <;> simp_all
    exact hlane _ _ hbad

/-- Settles O31: by the work that a controller chooses, and by what one step of the window makes of each pseudo-channel. -/
theorem pseudoChannelCommands : Obligations.PseudoChannelCommands :=
  ⟨fun _ _ _ hl hc hp hsr ht h0 hmax => ⟨_, rfl, pcCommandIssue_refreshes hl hc hp hsr ht h0 hmax⟩,
    fun _ _ _ _ _ hl hc hp hsr ht howed hq hr hrt hw hd hnear hfirst =>
      ⟨_, rfl, pcCommandIssue_reads hl hc hp hsr ht howed hq hr hrt hw hd hnear hfirst⟩,
    fun _ _ _ hl hc hp hsr ht howed hq hr => ⟨_, rfl, pcCommandIssue_catchesUp hl hc hp hsr ht howed hq hr⟩,
    fun _ _ _ hl hp hsr ht hneed hdue => ⟨_, rfl, refreshDue_counts hl hp hsr ht hneed hdue⟩,
    fun _ _ hl ht hs hwin hphase => ⟨_, rfl, hbmRetrainWindow_retrains hl ht hwin hphase hs⟩,
    fun _ _ _ hl hp ht hsr hr hover => ⟨_, rfl, retrainOverdue_raises hl hp ht hsr hr hover⟩,
    fun _ _ lane e k _ hl hp => ⟨_, rfl, parityError_marks hl hp lane e k⟩⟩

end Sys2Proof.Machine
end

section
/-! Host accesses of the engines as they go out (R80, R86, R103, R105): one at a time, and each marks the transaction of its own tag. -/
namespace Sys2Proof.Machine

variable {s t : State} {e k f : Nat}

/-- An access waits while its context resets or its function may not issue it. -/
def State.fetchBlocked (t : State) (r : MemReq) : Bool :=
  t.hif.resetting.contains r.ctx || !(if r.write then t.mayIssueHost (r.ctx / 4) else t.mayTag (r.ctx / 4))

/-- The transaction of an access is issued. -/
def State.markIssued (t : State) (r : MemReq) : State := { t with mem := { t.mem with
  reqs := t.mem.reqs.map (fun q => if q.engine = r.engine ∧ q.index = r.index then { q with issued := true } else q) } }

/-- An access goes out; a read takes a tag. -/
def State.goOut (t : State) (r : MemReq) : State :=
  if r.write then t.markIssued r
  else ((t.markIssued r).addTag (r.ctx / 4) (.fetch r.engine r.index)).send
    (.hostRead (r.ctx / 4) ((t.markIssued r).pasid r.ctx) r.addr r.len)

/-- What one waiting access does. -/
def State.issueFetch (t : State) (r : MemReq) : State := if t.fetchBlocked r then t else t.goOut r

/-- The accesses that wait. -/
def State.waitingFetches (s : State) : List MemReq := s.mem.reqs.filter (fun r => r.hostFn.isSome && !r.issued)

theorem State.issueFetches_eq (s : State) : s.issueFetches = foldOver s.waitingFetches (fun r t => t.issueFetch r) s := rfl

theorem Pumped.issueFetch (s : State) (r : MemReq) : Pumped s (s.issueFetch r) := by
  have hmark : Pumped s (s.markIssued r) := Pumped.reqs _
  exact Pumped.ite (.refl s) (Pumped.ite hmark (hmark.trans ((Pumped.addTag _ _).trans (Pumped.send (by simp)))))

/-- A transaction once it is issued. -/
def MemReq.asIssued (q : MemReq) : MemReq := { q with issued := true }

/-- An access that goes out issues the transaction of its tag and no other. -/
theorem State.goOut_reqs (r : MemReq) : (s.goOut r).mem.reqs =
    s.mem.reqs.map (fun q => if q.engine = r.engine ∧ q.index = r.index then q.asIssued else q) := by
  unfold State.goOut
  split
  · rfl
  · rfl

/-- Whether they are issued aside, the transactions stand. -/
theorem State.issueFetches_reqs (s : State) : s.issueFetches.mem.reqs.map MemReq.asIssued = s.mem.reqs.map MemReq.asIssued := by
  rw [State.issueFetches_eq]
  refine foldOver_rel (R := fun s t : State => t.mem.reqs.map MemReq.asIssued = s.mem.reqs.map MemReq.asIssued) (fun _ => rfl)
    (fun h1 h2 => h2.trans h1) (fun r _ t => ?_) s
  unfold State.issueFetch
  split
  · rfl
  · rw [State.goOut_reqs, List.map_map]
    refine List.map_congr_left (fun q _ => ?_)
    simp only [Function.comp_apply]
    split_ifs
    · rfl
    · rfl

/-- A transaction is there after the waiting accesses have gone out, issued or not. -/
theorem State.issueFetches_mem {b : MemReq} (hb : b ∈ s.mem.reqs) :
    ∃ r ∈ s.issueFetches.mem.reqs, r.asIssued = b.asIssued := by
  have h : b.asIssued ∈ s.issueFetches.mem.reqs.map MemReq.asIssued := by
    rw [State.issueFetches_reqs]
    exact List.mem_map_of_mem hb
  exact List.mem_map.mp h

/-- What the rings and the messages leave. -/
theorem State.pumpHost_mem (s : State) : s.pumpHost.mem = s.issueFetches.mem := by
  have hf : Fr anyDram anyReg (· ≠ .mem) s.issueFetches s.pumpHost := by
    apply_rules [State.flushAll_frame, State.issueRing_frame] <;> simp
  exact hf.frame.2 .mem (by simp)

/-- A host access that may not go out stays as it is: its context is in reset, or tags of its function's older generation are
outstanding, which no access that goes out can change. -/
theorem State.issueFetches_waits {b : MemReq} (hb : b ∈ s.mem.reqs)
    (hblock : 0 < s.tagCount (b.ctx / 4) true ∨ s.hif.resetting.contains b.ctx = true)
    (hown : ∀ q ∈ s.mem.reqs, q.engine = b.engine → q.index = b.index → q = b) : b ∈ s.issueFetches.mem.reqs := by
  have hstep : ∀ r ∈ s.waitingFetches, ∀ t,
      (Pumped s t ∧ b ∈ t.mem.reqs) → Pumped s (t.issueFetch r) ∧ b ∈ (t.issueFetch r).mem.reqs := by
    rintro r hr t ⟨hp, hbt⟩
    refine ⟨hp.trans (.issueFetch t r), ?_⟩
    unfold State.issueFetch
    split
    · exact hbt
    · next hfree =>
      rw [State.goOut_reqs]
      refine List.mem_map.mpr ⟨b, hbt, if_neg (fun hr' => hfree ?_)⟩
      rw [hown r (List.mem_of_mem_filter hr) hr'.1.symm hr'.2.symm]
      rcases hblock with hold | hreset
      · have hnot : t.mayIssueHost (b.ctx / 4) = false := by
          rw [State.mayIssueHost, hp.tagCount_old, Bool.and_eq_false_iff]
          exact .inr (by simpa using Nat.ne_of_gt hold)
        simp [State.fetchBlocked, State.mayTag, hnot]
      · rw [State.fetchBlocked, hp.hif_eq, Bool.or_eq_true]
        exact .inl hreset
  rw [State.issueFetches_eq]
  exact (foldOver_rel (R := fun a c : State => (Pumped s a ∧ b ∈ a.mem.reqs) → Pumped s c ∧ b ∈ c.mem.reqs) (fun _ h => h)
    (fun h1 h2 h => h2 (h1 h)) hstep s ⟨.refl s, hb⟩).2

end Sys2Proof.Machine
end

section
/-! MEM_REQUEST (R83, R86, R92, R110 to R112, R118, R130): the demand that a request counts, the transaction that it makes, and what
a local transaction leaves in the write queues. -/
namespace Sys2Proof.Machine

variable {s t : State} {e c va len pixels arg k dt : Nat} {wr : Bool} {m : Mapping} {r : MemReq}

/-! ### The demand and the buffer's rate -/

/-- The layer-pixels of a request count, and an engine that asks for itself sets its buffer's drain rate (R92, R112). -/
def State.noteDemand (s : State) (e c pixels arg : Nat) : State :=
  let u := { s with hif := { s.hif with winDemand := tmod 0 s.hif.winDemand c (· + pixels) } }
  if requester e arg = e then u.setDrainRate e arg else u

theorem State.noteDemand_eq (s : State) (e c pixels arg : Nat) : ∃ bufs, s.noteDemand e c pixels arg = { s with
    hif := { s.hif with winDemand := tmod 0 s.hif.winDemand c (· + pixels) }
    mem := { s.mem with bufs := bufs } } := by
  unfold State.noteDemand
  dsimp only
  split
  · exact ⟨_, rfl⟩
  · exact ⟨_, rfl⟩

theorem State.noteDemand_keeps (s : State) (e c pixels arg : Nat) : let u := s.noteDemand e c pixels arg
    u.hif = { s.hif with winDemand := tmod 0 s.hif.winDemand c (· + pixels) } ∧ u.mem = { s.mem with bufs := u.mem.bufs } ∧
      u.regs = s.regs ∧ u.out = s.out ∧ u.now = s.now ∧ u.int = s.int ∧ u.cfg = s.cfg := by
  obtain ⟨bufs, h⟩ := s.noteDemand_eq e c pixels arg
  rw [h]
  exact ⟨rfl, rfl, rfl, rfl, rfl, rfl, rfl⟩

theorem State.noteDemand_maps (s : State) (e c pixels arg : Nat) : (s.noteDemand e c pixels arg).hif.maps = s.hif.maps := by
  obtain ⟨hhif, -⟩ := s.noteDemand_keeps e c pixels arg
  rw [hhif]

theorem State.noteDemand_reqs (s : State) (e c pixels arg : Nat) : (s.noteDemand e c pixels arg).mem.reqs = s.mem.reqs := by
  obtain ⟨-, hmem, -⟩ := s.noteDemand_keeps e c pixels arg
  rw [hmem]

theorem State.freeIndex_congr (h : t.mem.reqs = s.mem.reqs) : t.freeIndex e = s.freeIndex e := by
  simp only [State.freeIndex, State.engineReqs, h]

theorem State.localShapeOk_congr (h : t.cfg = s.cfg) (dpa len : Nat) : t.localShapeOk dpa len = s.localShapeOk dpa len := by
  simp only [State.localShapeOk, State.memMap, State.sec, h]

theorem State.translate_congr (h : t.hif.maps = s.hif.maps) : t.translate c va wr = s.translate c va wr := by
  simp only [State.translate, State.mapping, h]

theorem State.buf_setDrainRate (e rate : Nat) : (s.setDrainRate e rate).buf e = { fill := s.bufFill e, rate := rate, since := s.now } :=
  tget_tset_same _ _ _ _

theorem State.bufFill_setDrainRate (e rate : Nat) : (s.setDrainRate e rate).bufFill e = s.bufFill e := by
  rw [State.bufFill, State.buf_setDrainRate]
  simp [State.setDrainRate, State.setBuf]

/-- The instant at which the requester's buffer empties, at the rate that the request names where it asks for itself. -/
theorem State.noteDemand_emptyAt (s : State) (e c pixels arg : Nat) :
    (s.noteDemand e c pixels arg).emptyAt (requester e arg) = if requester e arg = e then
        (if arg = 0 then none else some (s.now + s.bufFill e * usSteps / arg)) else s.emptyAt (requester e arg) := by
  unfold State.noteDemand
  dsimp only
  split
  · next hq =>
    rw [hq, State.emptyAt, State.buf_setDrainRate, State.bufFill_setDrainRate]
    rfl
  · rfl

/-- The transaction that a request makes at a device physical address. -/
def State.askFor (s : State) (e c va len pixels : Nat) (wr : Bool) (arg k addr : Nat) : MemReq :=
  { engine := e, index := k, gen := s.flag (MEM_ENG_STATUS.GEN e), ctx := c, va := va, addr := addr, len := len, write := wr,
    realTime := s.requestClass (requester e arg) c pixels,
    deadline := if s.requestClass (requester e arg) c pixels then (s.noteDemand e c pixels arg).emptyAt (requester e arg) else none,
    missed := false, waits := [], time := s.now, pc := 0, issued := false, reissues := 0, hostFn := none }

theorem State.askFor_deadline (s : State) (e c va len pixels : Nat) (wr : Bool) (arg k addr : Nat) :
    (s.askFor e c va len pixels wr arg k addr).deadline =
      if (s.askFor e c va len pixels wr arg k addr).realTime = false then none
      else if requester e arg = e then (if arg = 0 then none else some (s.now + s.bufFill e * usSteps / arg))
      else s.emptyAt (requester e arg) := by
  rw [← State.noteDemand_emptyAt, State.askFor]
  dsimp only
  cases s.requestClass (requester e arg) c pixels
  · rfl
  · rfl

/-- A transaction holds its tag. -/
def State.addReq (s : State) (r : MemReq) : State := { s with mem := { s.mem with reqs := s.mem.reqs ++ [r] } }

/-! ### Outcomes -/

section
variable (hl : s.live = true) (hc : s.lan.coreStopped = false) (he : e < 48)
include hl hc he

theorem memRequest_refused (hr : s.mem.refusing = true) : doMemRequest dt e c va len pixels wr arg s =
    if (s.tick dt).requestClass (requester e arg) c pixels then (s.tick dt).inc (MEM_ENG_MISSES.COUNT e) else s.tick dt := by
  rw [doMemRequest, State.tick_onCoreIf dt _ _ hl hc (decide_eq_true he)]
  exact if_pos hr

variable (hr : s.mem.refusing = false)
include hr

theorem memRequest_unmapped (hm : s.mapping c va = none) :
    doMemRequest dt e c va len pixels wr arg s = ((s.tick dt).noteDemand e c pixels arg).transFault c 1 va := by
  obtain ⟨u, hu⟩ : ∃ u, u = (s.tick dt).noteDemand e c pixels arg := ⟨_, rfl⟩
  have htr : u.translate c va wr = .error 1 := by
    rw [hu, State.translate_congr (State.noteDemand_maps _ _ _ _ _), State.translate, show (s.tick dt).mapping c va = none from hm]
  rw [doMemRequest, State.tick_onCoreIf dt _ _ hl hc (decide_eq_true he), ← hu]
  unfold State.noteDemand at hu
  dsimp only at hu ⊢
  rw [← hu, htr, State.tick_mem, hr]
  rfl

variable (hm : s.translate c va wr = .ok m) (hk : s.freeIndex e = some k)
include hm hk

omit hl hc he hr in
/-- What the request's demand leaves of what decides its outcome. -/
theorem State.noteDemand_finds (dt pixels arg : Nat) : let u := (s.tick dt).noteDemand e c pixels arg
    u.translate c va wr = .ok m ∧ u.freeIndex e = some k ∧ u.now = (s.tick dt).now ∧ ∀ f, u.flag f = (s.tick dt).flag f := by
  obtain ⟨-, -, hregs, -, hnow, -, -⟩ := (s.tick dt).noteDemand_keeps e c pixels arg
  refine ⟨?_, ?_, hnow, fun f => State.flag_congr (State.rd_congr hregs _)⟩
  · exact (State.translate_congr (State.noteDemand_maps (s.tick dt) _ _ _ _)).trans hm
  · exact (State.freeIndex_congr (State.noteDemand_reqs (s.tick dt) _ _ _ _)).trans hk

theorem memRequest_local (hkind : m.kind = MapKind.loc ∨ m.kind = MapKind.grant) (hshape : s.localShapeOk (m.dpa va) len = true) :
    doMemRequest dt e c va len pixels wr arg s =
      ((s.tick dt).noteDemand e c pixels arg).addLocal ((s.tick dt).askFor e c va len pixels wr arg k (m.dpa va)) := by
  obtain ⟨htr, hfree, hnow, hflag⟩ := State.noteDemand_finds hm hk dt pixels arg
  obtain ⟨-, -, -, -, -, -, hcfg⟩ := (s.tick dt).noteDemand_keeps e c pixels arg
  have hok := (State.localShapeOk_congr hcfg _ _).trans (show (s.tick dt).localShapeOk (m.dpa va) len = true from hshape)
  rw [State.askFor]
  obtain ⟨u, hu⟩ : ∃ u, u = (s.tick dt).noteDemand e c pixels arg := ⟨_, rfl⟩
  rw [← hu] at htr hfree hnow hflag hok ⊢
  rw [doMemRequest, State.tick_onCoreIf dt _ _ hl hc (decide_eq_true he)]
  unfold State.noteDemand at hu
  dsimp only at hu ⊢
  rw [← hu, htr, State.tick_mem, hr]
  rcases hkind with hkind | hkind <;> simp [hfree, hkind, hok, hflag, hnow]

theorem memRequest_host (hkind : m.kind = MapKind.host) (hf : s.fnCanHost (c / 4) = true) :
    doMemRequest dt e c va len pixels wr arg s = (((((s.tick dt).noteDemand e c pixels arg).addReq
      { (s.tick dt).askFor e c va len pixels wr arg k (m.dpa va) with hostFn := some (c / 4) }).showTags e).pumpHost) := by
  obtain ⟨htr, hfree, hnow, hflag⟩ := State.noteDemand_finds hm hk dt pixels arg
  have hcan : ((s.tick dt).noteDemand e c pixels arg).fnCanHost (c / 4) = true := by
    rw [State.fnCanHost, hflag, hflag]
    exact hf
  rw [State.askFor, State.addReq]
  obtain ⟨u, hu⟩ : ∃ u, u = (s.tick dt).noteDemand e c pixels arg := ⟨_, rfl⟩
  rw [← hu] at htr hfree hnow hflag hcan ⊢
  rw [doMemRequest, State.tick_onCoreIf dt _ _ hl hc (decide_eq_true he)]
  unfold State.noteDemand at hu
  dsimp only at hu ⊢
  rw [← hu, htr, State.tick_mem, hr]
  simp [hfree, hkind, hcan, hflag, hnow]
end

/-! ### A local transaction -/

/-- The transaction as the controllers hold it: at its pseudo-channel, and a read after the queued writes that it matches (R118). -/
def State.localReq (s : State) (r : MemReq) : MemReq := { r with
  pc := s.pcAt r.addr
  waits := if r.write then [] else s.waitsFor r.addr r.len }

theorem State.localReq_of_write (h : r.write = true) : (s.localReq r).waits = [] := if_pos h

theorem State.localReq_of_read (h : r.write = false) : (s.localReq r).waits = s.waitsFor r.addr r.len := if_neg (by simp [h])

theorem State.showBusy_keeps (v : State) (rt : Bool) (e : Nat) : let t := (if rt then v else v.memBusy).showTags e
    t.hif = v.hif ∧ t.mem = { v.mem with idleSince := t.mem.idleSince } := by
  cases rt
  · exact ⟨rfl, rfl⟩
  · exact ⟨rfl, rfl⟩

theorem State.addLocal_keeps (s : State) (r : MemReq) : (s.addLocal r).hif = s.hif ∧ (s.addLocal r).mem.dram = s.mem.dram ∧
    (s.addLocal r).mem.reqs = s.mem.reqs ++ [s.localReq r] := by
  unfold State.addLocal
  extract_lets ws old v w
  have hw : w.hif = s.hif ∧ w.mem.dram = s.mem.dram ∧ w.mem.reqs = s.mem.reqs ++ [s.localReq r] := by
    unfold w
    split
    · exact ⟨rfl, rfl, rfl⟩
    · split
      · exact ⟨rfl, rfl, rfl⟩
      · exact ⟨rfl, rfl, rfl⟩
  obtain ⟨hhif, hmem⟩ := State.showBusy_keeps w r.realTime r.engine
  rw [hhif, hmem]
  exact hw

/-- A read leaves the write queues. -/
theorem State.addLocal_read (h : r.write = false) :
    (s.addLocal r).mem.writeQ = s.mem.writeQ ∧ (s.addLocal r).mem.stalled = s.mem.stalled := by
  unfold State.addLocal
  extract_lets ws old v w
  have hw : w.mem.writeQ = s.mem.writeQ ∧ w.mem.stalled = s.mem.stalled := by
    unfold w
    rw [if_neg (by simp [h])]
    split
    · exact ⟨rfl, rfl⟩
    · exact ⟨rfl, rfl⟩
  obtain ⟨-, hmem⟩ := State.showBusy_keeps w r.realTime r.engine
  rw [hmem]
  exact hw

/-- Each block that a write offers is queued or stalled with its transaction's tag. -/
theorem State.offerWrite_mem {dpa n b : Nat} {w : WriteBlk} (h1 : dpa < 64 * (b + 1)) (h2 : 64 * b < dpa + n) :
    { w with block := b } ∈ (s.offerWrite dpa n w).mem.writeQ ++ (s.offerWrite dpa n w).mem.stalled := by
  refine State.acceptWrites_mem (List.mem_append_right _ (List.mem_append_right _ (List.mem_map.mpr ⟨b - dpa / 64, ?_, ?_⟩)))
  · rw [List.mem_range]
    omega
  · rw [Nat.add_sub_cancel' (by omega)]

theorem State.addLocal_write (h : r.write = true) {b : Nat} (h1 : r.addr < 64 * (b + 1)) (h2 : 64 * b < r.addr + r.len) :
    ∃ w ∈ (s.addLocal r).mem.writeQ ++ (s.addLocal r).mem.stalled, w.block = b ∧ w.engine = r.engine ∧ w.index = r.index := by
  refine ⟨⟨b, r.engine, r.index, r.realTime, r.deadline, r.time⟩, ?_, rfl, rfl, rfl⟩
  unfold State.addLocal
  extract_lets ws old v w
  obtain ⟨-, hmem⟩ := State.showBusy_keeps w r.realTime r.engine
  have hin := State.offerWrite_mem (s := v) (w := ⟨0, r.engine, r.index, r.realTime, r.deadline, r.time⟩) h1 h2
  have hw : w = v.offerWrite r.addr r.len ⟨0, r.engine, r.index, r.realTime, r.deadline, r.time⟩ := if_pos h
  rw [← hw] at hin
  rw [hmem]
  exact hin

/-! ### What a request leaves -/

theorem State.transFault_mem (c kind va : Nat) : (s.transFault c kind va).mem = s.mem := State.raiseC_mem _ _ _ _ _ _

section
variable (hl : s.live = true) (hc : s.lan.coreStopped = false) (he : e < 48)
include hl hc he

theorem memRequest_counts_miss (hr : s.mem.refusing = true) : let t := doMemRequest dt e c va len pixels wr arg s
    t.mem = s.mem ∧ t.hif = s.hif ∧ t.get (MEM_ENG_MISSES.COUNT e) = if (s.tick dt).requestClass (requester e arg) c pixels
      then (s.get (MEM_ENG_MISSES.COUNT e) + 1) % 2 ^ 32 else s.get (MEM_ENG_MISSES.COUNT e) := by
  dsimp only
  rw [memRequest_refused hl hc he hr]
  split
  · exact ⟨rfl, rfl, State.get_put_same _ _ _ rfl⟩
  · exact ⟨rfl, rfl, rfl⟩

variable (hr : s.mem.refusing = false)
include hr

theorem memRequest_faults (hm : s.mapping c va = none) : let t := doMemRequest dt e c va len pixels wr arg s
    t.mem.reqs = s.mem.reqs ∧ SameBytes s t ∧ Raised 0x0F03 s t ∧ t.get (HIF_CTX_FAULT_LO.KIND c) = 1 := by
  obtain ⟨-, hmem, -, -, -, hint, -⟩ := (s.tick dt).noteDemand_keeps e c pixels arg
  dsimp only
  rw [memRequest_unmapped hl hc he hr hm]
  refine ⟨?_, fun a => ?_, ?_, State.transFault_kind _ _ (by decide)⟩
  · rw [State.transFault_mem, State.noteDemand_reqs]
    rfl
  · rw [State.transFault_bytes _ _ _ a, State.byteAt, hmem]
    rfl
  · have hraise := ((s.tick dt).noteDemand e c pixels arg).transFault_raised c 1 va
    rwa [Raised, State.eventCount_congr hint, State.tick_eventCount] at hraise

variable (hm : s.translate c va wr = .ok m) (hk : s.freeIndex e = some k)
include hm hk

theorem memRequest_adds_local (hkind : m.kind = MapKind.loc ∨ m.kind = MapKind.grant) (hshape : s.localShapeOk (m.dpa va) len = true)
    (ht : doMemRequest dt e c va len pixels wr arg s = t) : ∃ r : MemReq, t.mem.reqs = s.mem.reqs ++ [r] ∧
      r.engine = e ∧ r.index = k ∧ r.gen = s.flag (MEM_ENG_STATUS.GEN e) ∧ r.addr = m.dpa va ∧ r.len = len ∧ r.write = wr ∧
      r.issued = false ∧ r.hostFn = none ∧ r.realTime = (s.tick dt).requestClass (requester e arg) c pixels ∧
      r.deadline = (if r.realTime = false then none
        else if requester e arg = e then (if arg = 0 then none else some (s.now + dt + (s.tick dt).bufFill e * usSteps / arg))
        else (s.tick dt).emptyAt (requester e arg)) ∧
      tget 0 t.hif.winDemand c = tget 0 s.hif.winDemand c + pixels ∧ t.mem.dram = s.mem.dram ∧
      (wr = false → r.waits = s.waitsFor (m.dpa va) len ∧ t.mem.writeQ = s.mem.writeQ ∧ t.mem.stalled = s.mem.stalled) ∧
      (wr = true → r.waits = [] ∧ ∀ b, m.dpa va < 64 * (b + 1) → 64 * b < m.dpa va + len →
        ∃ w ∈ t.mem.writeQ ++ t.mem.stalled, w.block = b ∧ w.engine = e ∧ w.index = k) := by
  have hrun := memRequest_local (dt := dt) (pixels := pixels) (arg := arg) hl hc he hr hm hk hkind hshape
  obtain ⟨hhif, hmem, -, -, -, -, -⟩ := (s.tick dt).noteDemand_keeps e c pixels arg
  have hdl := (s.tick dt).askFor_deadline e c va len pixels wr arg k (m.dpa va)
  obtain ⟨u, hu⟩ : ∃ u, u = (s.tick dt).noteDemand e c pixels arg := ⟨_, rfl⟩
  rw [← hu] at hrun hhif hmem
  obtain ⟨b, hb⟩ : ∃ b, b = (s.tick dt).askFor e c va len pixels wr arg k (m.dpa va) := ⟨_, rfl⟩
  obtain ⟨hkh, hkd, hkr⟩ := u.addLocal_keeps b
  obtain ⟨heng, hidx, hgen, haddr, hlen, hwr, hiss, hhost, hrt⟩ : b.engine = e ∧ b.index = k ∧ b.gen = s.flag (MEM_ENG_STATUS.GEN e) ∧
      b.addr = m.dpa va ∧ b.len = len ∧ b.write = wr ∧ b.issued = false ∧ b.hostFn = none ∧
      b.realTime = (s.tick dt).requestClass (requester e arg) c pixels := by
    rw [hb]
    exact ⟨rfl, rfl, rfl, rfl, rfl, rfl, rfl, rfl, rfl⟩
  rw [← hb] at hrun hdl
  obtain rfl := hrun.symm.trans ht
  refine ⟨u.localReq b, ?_, heng, hidx, hgen, haddr, hlen, hwr, hiss, hhost, hrt, hdl, ?_, ?_, fun hw => ⟨?_, ?_⟩,
    fun hw => ⟨State.localReq_of_write (hwr.trans hw), fun blk h1 h2 => ?_⟩⟩
  · rw [hkr, hmem]
    rfl
  · rw [hkh, hhif]
    exact tget_tset_same _ _ _ _
  · rw [hkd, hmem]
    rfl
  · rw [State.localReq_of_read (hwr.trans hw), haddr, hlen, State.waitsFor, hmem]
    rfl
  · obtain ⟨hq, hst⟩ := u.addLocal_read (hwr.trans hw)
    rw [hq, hst, hmem]
    exact ⟨rfl, rfl⟩
  · obtain ⟨w, hmemw, hblk, hwe, hwi⟩ := u.addLocal_write (b := blk) (hwr.trans hw) (haddr ▸ h1) (haddr.symm ▸ hlen.symm ▸ h2)
    exact ⟨w, hmemw, hblk, hwe.trans heng, hwi.trans hidx⟩
end

end Sys2Proof.Machine
end

section
/-! A request over a HOST page (R80, R86, R103, R105): its transaction waits or goes out with its PASID and its tag. -/
namespace Sys2Proof.Machine

variable {s t : State} {e c f va len pixels arg k dt : Nat} {wr : Bool} {m : Mapping} {b : MemReq}

/-- An index that an engine does not use is no other transaction's. -/
theorem State.freeIndex_unused (hk : s.freeIndex e = some k) : ∀ q ∈ s.mem.reqs, q.engine = e → q.index ≠ k := by
  intro q hq he hi
  have hmem := List.mem_of_mem_head? hk
  simp only [idxWhere, List.mem_filter, Bool.not_eq_true', List.any_eq_false, State.engineReqs, beq_iff_eq] at hmem
  exact hmem.2 q ⟨hq, he⟩ hi

/-- The registers of other blocks stand where the tags in use are shown. -/
theorem State.showTags_rd {a : Nat} (he : e < 48) (ha : a < 0x400000 ∨ 0x500000 ≤ a) : (s.showTags e).rd a = s.rd a := by
  have heng : a ≠ MEM_ENG_STATUS e := by
    rw [MEM_ENG_STATUS, if_pos he]
    omega
  have hfly : a ≠ MEM_INFLIGHT := by
    unfold MEM_INFLIGHT
    omega
  exact (State.rd_put_other _ _ hfly).trans ((State.rd_put_other _ _ hfly).trans (State.rd_put_other _ _ heng))

theorem State.joinTags_keeps (s : State) (b : MemReq) (e : Nat) : let u := (s.addReq b).showTags e
    u.hif = s.hif ∧ u.mem.reqs = s.mem.reqs ++ [b] ∧ u.out = s.out ∧ u.now = s.now := ⟨rfl, rfl, rfl, rfl⟩

/-- The registers by which a function issues host requests stand. -/
def HostRegsSame (s t : State) : Prop := ∀ a, a < 0x400000 ∨ 0x500000 ≤ a → t.rd a = s.rd a

theorem HostRegsSame.fnCanHost_eq (h : HostRegsSame s t) (f : Nat) : t.fnCanHost f = s.fnCanHost f := by
  have hme : t.flag (HIF_FN_STATUS.ME f) = s.flag (HIF_FN_STATUS.ME f) :=
    State.flag_congr (h (HIF_FN_STATUS f) (by unfold HIF_FN_STATUS; split_ifs <;> omega))
  have hup : t.flag HIF_STATUS.LINK_UP = s.flag HIF_STATUS.LINK_UP := State.flag_congr (h _ (.inl (by decide)))
  rw [State.fnCanHost, hme, hup, State.fnCanHost]

theorem HostRegsSame.pasid_eq (h : HostRegsSame s t) (c : Nat) : t.pasid c = s.pasid c := by
  have hreg : t.rd (HIF_FN_PASID (c / 4)) = s.rd (HIF_FN_PASID (c / 4)) := h _ (by unfold HIF_FN_PASID; split_ifs <;> omega)
  rw [State.pasid, State.flag_congr (f := HIF_FN_PASID.EN (c / 4)) hreg, State.get_congr (f := HIF_FN_PASID.BASE (c / 4)) hreg, State.pasid]

theorem HostRegsSame.mayTag_eq (h : HostRegsSame s t) (htags : t.hif.tags = s.hif.tags) (f : Nat) : t.mayTag f = s.mayTag f := by
  simp only [State.mayTag, State.mayIssueHost, State.tagCount, htags, h.fnCanHost_eq]

/-- The rings and the messages go on after the accesses. -/
theorem Pumped.afterFetches (s : State) : Pumped s.issueFetches s.pumpHost := (Pumped.issueRing _).trans (Pumped.flushAll _)

/-- The one access that waits goes out at once where its function may issue it. -/
theorem State.issueFetches_single (hone : s.waitingFetches = [b]) (hreset : s.hif.resetting.contains b.ctx = false)
    (hmay : s.mayTag (b.ctx / 4) = true) : s.issueFetches = s.goOut b := by
  have hissue : s.mayIssueHost (b.ctx / 4) = true := (Bool.and_eq_true_iff.mp hmay).1
  have hfree : s.fetchBlocked b = false := by
    rw [State.fetchBlocked, hreset, hissue, hmay, ite_self]
    rfl
  rw [State.issueFetches_eq, hone]
  exact if_neg (by rw [hfree]; decide)

theorem State.goOut_mem (hb : b ∈ s.mem.reqs) : b.asIssued ∈ (s.goOut b).mem.reqs := by
  rw [State.goOut_reqs]
  exact List.mem_map.mpr ⟨b, hb, if_pos ⟨rfl, rfl⟩⟩

/-- A read goes out with its context's PASID and takes a tag. -/
theorem State.goOut_read (hr : b.write = false) : (s.goOut b).out = s.out ++ [.hostRead (b.ctx / 4) (s.pasid b.ctx) b.addr b.len] ∧
    (s.goOut b).hif.tags = s.hif.tags ++ [⟨b.ctx / 4, false, s.now, .fetch b.engine b.index⟩] := by
  rw [State.goOut, if_neg (by simp [hr])]
  exact ⟨rfl, rfl⟩

/-- What becomes of a host access that joins a queue: it waits, or goes out where nothing else does. -/
theorem State.pumpHost_joined {rest : List MemReq} (hreqs : s.mem.reqs = rest ++ [b]) (hhost : b.hostFn.isSome = true)
    (hiss : b.issued = false) (hfree : ∀ q ∈ rest, q.engine = b.engine → q.index ≠ b.index) :
    ∃ r ∈ s.pumpHost.mem.reqs, r.asIssued = b.asIssued ∧
      (0 < s.tagCount (b.ctx / 4) true ∨ s.hif.resetting.contains b.ctx = true → r.issued = false) ∧
      (s.mayTag (b.ctx / 4) = true → s.hif.resetting.contains b.ctx = false → (∀ q ∈ rest, q.hostFn = none ∨ q.issued = true) →
        r.issued = true ∧ (b.write = false →
          (∃ l : List OutMsg, s.pumpHost.out = s.out ++ .hostRead (b.ctx / 4) (s.pasid b.ctx) b.addr b.len :: l) ∧
          ∃ l : List HostTag, s.pumpHost.hif.tags = s.hif.tags ++ ⟨b.ctx / 4, false, s.now, .fetch b.engine b.index⟩ :: l)) := by
  have hb : b ∈ s.mem.reqs := by rw [hreqs]; simp
  rw [State.pumpHost_mem]
  by_cases hblock : 0 < s.tagCount (b.ctx / 4) true ∨ s.hif.resetting.contains b.ctx = true
  · have hown : ∀ q ∈ s.mem.reqs, q.engine = b.engine → q.index = b.index → q = b := by
      intro q hq he hi
      rw [hreqs, List.mem_append, List.mem_singleton] at hq
      exact hq.resolve_left (fun hr => hfree q hr he hi)
    refine ⟨b, State.issueFetches_waits hb hblock hown, rfl, fun _ => hiss, fun hmay hreset _ => ?_⟩
    simp only [State.mayTag, State.mayIssueHost, Bool.and_eq_true, beq_iff_eq] at hmay
    rcases hblock with hold | hres
    · omega
    · rw [hres] at hreset
      cases hreset
  · by_cases hgo : s.mayTag (b.ctx / 4) = true ∧ s.hif.resetting.contains b.ctx = false ∧ ∀ q ∈ rest, q.hostFn = none ∨ q.issued = true
    · obtain ⟨hmay, hreset, hrest⟩ := hgo
      have hone : s.waitingFetches = [b] := by
        have hnil : rest.filter (fun r => r.hostFn.isSome && !r.issued) = [] := by
          refine List.filter_eq_nil_iff.mpr (fun q hq => ?_)
          rcases hrest q hq with h | h <;> simp [h]
        rw [State.waitingFetches, hreqs, List.filter_append, hnil]
        simp [hhost, hiss]
      have hfetch := State.issueFetches_single hone hreset hmay
      have hpump := Pumped.afterFetches s
      rw [hfetch] at hpump ⊢
      refine ⟨b.asIssued, State.goOut_mem hb, rfl, fun h => absurd h hblock, fun _ _ _ => ⟨rfl, fun hw => ?_⟩⟩
      obtain ⟨hout, htags⟩ := State.goOut_read (s := s) hw
      obtain ⟨ms, hms, -⟩ := hpump.out_eq
      obtain ⟨gs, hgs, -⟩ := hpump.tags_eq
      exact ⟨⟨ms, by rw [hms, hout, List.append_assoc, List.singleton_append]⟩,
        ⟨gs, by rw [hgs, htags, List.append_assoc, List.singleton_append]⟩⟩
    · obtain ⟨r, hr, hsame⟩ := State.issueFetches_mem hb
      exact ⟨r, hr, hsame, fun h => absurd h hblock, fun h1 h2 h3 => absurd ⟨h1, h2, h3⟩ hgo⟩

theorem memRequest_adds_host (hl : s.live = true) (hc : s.lan.coreStopped = false) (he : e < 48) (hr : s.mem.refusing = false)
    (hm : s.translate c va wr = .ok m) (hkind : m.kind = MapKind.host) (hk : s.freeIndex e = some k) (hf : s.fnCanHost (c / 4) = true)
    (ht : doMemRequest dt e c va len pixels wr arg s = t) : ∃ r ∈ t.mem.reqs, r.engine = e ∧ r.index = k ∧
      r.addr = m.dpa va ∧ r.hostFn = some (c / 4) ∧ r.write = wr ∧
      (0 < s.tagCount (c / 4) true ∨ s.hif.resetting.contains c = true → r.issued = false) ∧
      (s.mayTag (c / 4) = true → s.hif.resetting.contains c = false → (∀ q ∈ s.mem.reqs, q.hostFn = none ∨ q.issued = true) →
        r.issued = true ∧ (wr = false →
          (∃ l : List OutMsg, t.out = s.out ++ .hostRead (c / 4) (s.pasid c) (m.dpa va) len :: l) ∧
          ∃ l : List HostTag, t.hif.tags = s.hif.tags ++ ⟨c / 4, false, s.now + dt, .fetch e k⟩ :: l)) := by
  obtain ⟨b, hb⟩ : ∃ b : MemReq, b = { (s.tick dt).askFor e c va len pixels wr arg k (m.dpa va) with hostFn := some (c / 4) } := ⟨_, rfl⟩
  obtain ⟨heng, hidx, hctx, haddr, hlen, hwr, hiss, hhost⟩ : b.engine = e ∧ b.index = k ∧ b.ctx = c ∧
      b.addr = m.dpa va ∧ b.len = len ∧ b.write = wr ∧ b.issued = false ∧ b.hostFn = some (c / 4) := by
    rw [hb]
    exact ⟨rfl, rfl, rfl, rfl, rfl, rfl, rfl, rfl⟩
  obtain ⟨u, hu⟩ : ∃ u, u = (((s.tick dt).noteDemand e c pixels arg).addReq b).showTags e := ⟨_, rfl⟩
  have hrun := memRequest_host (dt := dt) (len := len) (pixels := pixels) (arg := arg) hl hc he hr hm hk hkind hf
  rw [← hb, ← hu, ht] at hrun
  obtain ⟨hhif, hmem, hregs, hout, hnow, -, -⟩ := (s.tick dt).noteDemand_keeps e c pixels arg
  obtain ⟨huhif, hureqs, huout, hunow⟩ := ((s.tick dt).noteDemand e c pixels arg).joinTags_keeps b e
  rw [← hu] at huhif hureqs huout hunow
  rw [State.noteDemand_reqs] at hureqs
  have huregs : HostRegsSame s u := by
    intro a ha
    rw [hu, State.showTags_rd he ha]
    exact State.rd_congr hregs a
  have hutags : u.hif.tags = s.hif.tags := by
    rw [huhif, hhif]
    rfl
  have hfree : ∀ q ∈ s.mem.reqs, q.engine = b.engine → q.index ≠ b.index := by
    rw [heng, hidx]
    exact State.freeIndex_unused hk
  obtain ⟨r, hrmem, hsame, hwait, hgo⟩ := State.pumpHost_joined hureqs (by rw [hhost]; rfl) hiss hfree
  have hcount : u.tagCount (c / 4) true = s.tagCount (c / 4) true := by rw [State.tagCount, hutags, State.tagCount]
  have hreset : u.hif.resetting = s.hif.resetting := by
    rw [huhif, hhif]
    rfl
  rw [hctx, hcount, hreset] at hwait
  rw [hctx, huregs.mayTag_eq hutags, hreset, huregs.pasid_eq, haddr, hlen, hwr, heng, hidx, huout, hout, hutags, hunow, hnow, ← hrun] at hgo
  rw [← hrun] at hrmem
  exact ⟨r, hrmem, (congrArg MemReq.engine hsame).trans heng, (congrArg MemReq.index hsame).trans hidx,
    (congrArg MemReq.addr hsame).trans haddr, (congrArg MemReq.hostFn hsame).trans hhost, (congrArg MemReq.write hsame).trans hwr,
    hwait, hgo⟩

end Sys2Proof.Machine
end

section
/-! MEM_COMPLETION (R103, R110, R111, R114, R127): what a completion takes from its data and its ECC, and what its end leaves. -/
namespace Sys2Proof.Machine

variable {s t u : State} {e k f ecc dt : Nat} {r : MemReq} {g : Fld}

/-! ### The end of a completion -/

/-- The counts of completions: stale ones of an engine and of a function, and uncorrectable errors of a controller. -/
def completionCount (g : Fld) : Prop :=
  (∃ e, e < 48 ∧ g = MEM_ENG_STATUS.STALE e) ∨ (∃ f, f < 256 ∧ g = HIF_FN_STATUS.STALE f) ∨
  ∃ k, k < 8 ∧ g = MEM_CTL_ECC.UE k

theorem completionCount_reg (h : completionCount g) :
    0x302000 ≤ g.reg ∧ g.reg < 0x303000 ∨ 0x400200 ≤ g.reg ∧ g.reg < 0x400500 := by
  rcases h with ⟨e, he, rfl⟩ | ⟨f, hf, rfl⟩ | ⟨k, hk, rfl⟩
  · dsimp only [MEM_ENG_STATUS.STALE]
    rw [MEM_ENG_STATUS, if_pos he]
    omega
  · dsimp only [HIF_FN_STATUS.STALE]
    rw [HIF_FN_STATUS, if_pos hf]
    omega
  · dsimp only [MEM_CTL_ECC.UE]
    rw [MEM_CTL_ECC, if_pos hk]
    omega

/-- What stands when a completion has been taken: the transactions but for those that go out, the buffers, the tags but for new ones
of present generations, and the counts. -/
structure CompletionKept (s t : State) : Prop where
  reqs : t.mem.reqs.map MemReq.asIssued = s.mem.reqs.map MemReq.asIssued
  bufs : t.mem.bufs = s.mem.bufs
  tags : ∃ l, t.hif.tags = s.hif.tags ++ l ∧ ∀ x ∈ l, x.old = false
  events : ∀ code, t.eventCount code = s.eventCount code
  counts : ∀ g, completionCount g → t.get g = s.get g

theorem CompletionKept.trans (h1 : CompletionKept s t) (h2 : CompletionKept t u) : CompletionKept s u := by
  obtain ⟨l, hl, ho⟩ := h1.tags
  obtain ⟨l', hl', ho'⟩ := h2.tags
  refine ⟨h2.reqs.trans h1.reqs, h2.bufs.trans h1.bufs, ⟨l ++ l', by rw [hl', hl, List.append_assoc], ?_⟩,
    fun c => (h2.events c).trans (h1.events c), fun g hg => (h2.counts g hg).trans (h1.counts g hg)⟩
  intro x hx
  exact (List.mem_append.mp hx).elim (ho x) (ho' x)

theorem CompletionKept.of_same (hm : t.mem.reqs = s.mem.reqs) (hb : t.mem.bufs = s.mem.bufs) (hh : t.hif = s.hif) (hi : t.int = s.int)
    (hc : ∀ g, completionCount g → t.get g = s.get g) : CompletionKept s t :=
  ⟨by rw [hm], hb, ⟨[], by rw [hh, List.append_nil], by simp⟩, State.eventCount_congr hi, hc⟩

theorem CompletionKept.serveDone (s : State) (e k ecc : Nat) : CompletionKept s (s.serveDone e k ecc) := by
  have hf : Fr anyDram (fun a => 0x1000000 ≤ a) (· = .lxs) s (s.serveDone e k ecc) := by
    refine State.serveDone_frame s e k ecc (fun i => ?_) rfl (Fr.start trivial)
    unfold LXS_PORT_READ
    split_ifs <;> omega
  have hmem : (s.serveDone e k ecc).mem = s.mem := hf.frame.2 .mem (by simp)
  refine .of_same (by rw [hmem]) (by rw [hmem]) (hf.frame.2 .hif (by simp)) (hf.frame.2 .int (by simp)) (fun g hg => hf.get_eq ?_)
  have := completionCount_reg hg
  omega

theorem CompletionKept.showTags (s : State) (e : Nat) : CompletionKept s (s.showTags e) := by
  refine .of_same rfl rfl rfl rfl (fun g hg => ?_)
  have hreg := completionCount_reg hg
  have hfly (f : Fld) (hf : f.reg = MEM_INFLIGHT) : ∀ (t : State) (v : Nat), (t.put f v).get g = t.get g := fun t v =>
    State.get_congr (State.rd_put_other _ _ (by rw [hf]; unfold MEM_INFLIGHT; omega))
  have hout : (MEM_ENG_STATUS.OUTSTANDING e).apart g = true := by
    rcases hg with ⟨e', -, rfl⟩ | ⟨f, hf, rfl⟩ | ⟨k, hk, rfl⟩
    · simp [Fld.apart]
    · have hne : MEM_ENG_STATUS e ≠ HIF_FN_STATUS f := by
        unfold MEM_ENG_STATUS HIF_FN_STATUS
        split_ifs <;> omega
      simp [Fld.apart, hne]
    · have hne : MEM_ENG_STATUS e ≠ MEM_CTL_ECC k := by
        unfold MEM_ENG_STATUS MEM_CTL_ECC
        split_ifs <;> omega
      simp [Fld.apart, hne]
  unfold State.showTags State.putSat
  rw [hfly _ rfl, hfly _ rfl, State.get_put_apart _ _ rfl hout]

theorem CompletionKept.busyUnless (s before : State) : CompletionKept s (s.busyUnless before) := by
  unfold State.busyUnless
  split
  · exact .of_same rfl rfl rfl rfl (fun _ _ => rfl)
  · exact .of_same rfl rfl rfl rfl (fun _ _ => rfl)

theorem CompletionKept.pumpHost (s : State) : CompletionKept s s.pumpHost := by
  have hp := Pumped.pumpHost s
  refine ⟨?_, ?_, hp.tags_eq, hp.eventCount_eq, fun g _ => hp.get_eq g⟩
  · rw [State.pumpHost_mem, State.issueFetches_reqs]
  · obtain ⟨ms, gs, turn, reqs, pv, heq, -⟩ := hp
    rw [heq]

theorem State.sleepStacks_mem (s : State) : s.sleepStacks.mem = { s.mem with sleepAt := s.now } := by
  unfold State.sleepStacks
  exact foldOver_keeps (f := fun k w => State.setDomOn w (domHbmCtl + k) false) State.mem (fun _ _ => rfl) _

theorem CompletionKept.restStacks (s : State) : CompletionKept s s.restStacks := by
  have hf : Fr anyDram (fun a => a = MEM_SR_STATUS ∨ a = MEM_STATUS ∨ 0x1000000 ≤ a) (· = .mem) s s.restStacks := by
    refine State.restStacks_frame s (.inl rfl) (.inr (.inl rfl)) (fun i => .inr (.inr ?_)) rfl (Fr.start trivial)
    unfold THM_DOM_ON
    split_ifs <;> omega
  have hmem : ∃ a, s.restStacks.mem = { s.mem with sleepAt := a } := by
    unfold State.restStacks
    split
    · exact ⟨_, s.sleepStacks_mem⟩
    · exact ⟨_, rfl⟩
  obtain ⟨a, hmem⟩ := hmem
  refine .of_same (by rw [hmem]) (by rw [hmem]) (hf.frame.2 .hif (by simp)) (hf.frame.2 .int (by simp)) (fun g hg => hf.get_eq ?_)
  have := completionCount_reg hg
  unfold MEM_SR_STATUS MEM_STATUS
  omega

/-! ### The data, the stale counts and the ECC -/

/-- The transaction is over and its tag free. -/
def State.freeReq (s : State) (r : MemReq) (e k : Nat) : State :=
  ({ s with mem := { s.mem with reqs := s.mem.reqs.filter (fun q => !sameTag q r) } }).freeTag (fun g => g.user == TagUser.fetch e k)

/-- What a completion has made before its end: data, counts and errors are taken. -/
def State.takeCompletion (s : State) (r : MemReq) (e k ecc : Nat) : State :=
  let stale := s.hif.tags.any (fun g => g.user == TagUser.fetch e k && g.old)
  (((s.freeReq r e k).noteEcc r e (s.eccOf r ecc)).countStale r stale).takeData r e (r.write || s.eccOf r ecc = 2 || stale)
    (r.gen == s.flag (MEM_ENG_STATUS.GEN e))

theorem memCompletion_ends (hl : s.live = true) (hc : s.lan.coreStopped = false)
    (hfind : s.mem.reqs.find? (fun q => q.engine == e && q.index == k && s.mayComplete q) = some r) :
    CompletionKept ((s.tick dt).takeCompletion r e k ecc) (doMemCompletion dt e k ecc s) := by
  have hrun : doMemCompletion dt e k ecc s = ((((((s.tick dt).takeCompletion r e k ecc).serveDone e k ((s.tick dt).eccOf r ecc)).showTags
      e).busyUnless (s.tick dt)).pumpHost).restStacks := by
    unfold doMemCompletion
    dsimp only
    rw [show (s.tick dt).mem.reqs.find? (fun q => q.engine == e && q.index == k && (s.tick dt).mayComplete q) = some r from hfind]
    exact State.onCore_eq (s.tick dt) _ hl hc
  rw [hrun]
  exact ((((CompletionKept.serveDone _ _ _ _).trans (.showTags _ _)).trans (.busyUnless _ _)).trans (.pumpHost _)).trans (.restStacks _)

end Sys2Proof.Machine
end

section
/-! What a completion takes (R103, R110, R127): its tag is free, stale data is counted, data of the present generation fills the buffer,
and an uncorrectable error is counted with its event. -/
namespace Sys2Proof.Machine

variable {s t u : State} {e k f ecc found dt : Nat} {r : MemReq} {g : Fld} {none_ current stale : Bool}

/-! ### The ECC of the data -/

/-- The state but for registers and the events' counts. -/
def RegsOnly (s t : State) : Prop := ∃ regs i, t = { s with regs := regs, int := i }

theorem RegsOnly.raise (s : State) (c a0 a1 a2 : Nat) : RegsOnly s (s.raise c a0 a1 a2) := (EventOnly.deliver s _ _).1

theorem RegsOnly.raiseC (s : State) (c x a0 a1 a2 : Nat) : RegsOnly s (s.raiseC c x a0 a1 a2) := (EventOnly.deliver s _ _).1

theorem State.foundEcc_eq (s : State) (r : MemReq) (found : Nat) :
    RegsOnly s (if found = 1 then s.eccCorrected r.pc else if found = 2 then s.eccUncorrectable r.pc r.addr else s) := by
  split_ifs
  · exact ⟨_, _, rfl⟩
  · obtain ⟨regs, i, h⟩ := RegsOnly.raise (((s.incSat (MEM_CTL_ECC.UE (pcController r.pc)) 1).put MEM_ECC_ADDR_LO.DPA_LOW
      (r.addr / 64)).put MEM_ECC_ADDR_HI.DPA_HIGH (r.addr / 2 ^ 32)) 0x0C01 (pcController r.pc) (r.addr / 64) 0
    exact ⟨regs, i, h⟩
  · exact ⟨_, _, rfl⟩

theorem State.transFault_eq (s : State) (c kind va : Nat) : RegsOnly s (s.transFault c kind va) := by
  obtain ⟨regs, i, h⟩ := RegsOnly.raiseC ((((s.put (HIF_CTX_FAULT_LO.KIND c) kind).put (HIF_CTX_FAULT_LO.VA_LOW c) (va / 65536)).put
    (HIF_CTX_FAULT_HI.VA_HIGH c) (va / 2 ^ 32)).incSat (HIF_CTX_STATUS.FAULTS c) 1) 0x0F03 c kind (va / 65536 % 2 ^ 28) 0
  exact ⟨regs, i, h⟩

/-- What ECC found changes registers, the events' counts and the blocks marked. -/
theorem State.noteEcc_eq (s : State) (r : MemReq) (e found : Nat) : ∃ regs i m, s.noteEcc r e found =
    { s with regs := regs, int := i, mem := { s.mem with marked := m } } := by
  obtain ⟨regs, i, hv⟩ := s.foundEcc_eq r found
  unfold State.noteEcc
  rw [hv]
  dsimp only
  obtain ⟨m, hm⟩ : ∃ m, (if found = 2 ∧ r.write then
      ({ s with regs := regs, int := i, mem := { s.mem with marked := tset s.mem.marked (r.addr / 64) 0 } } : State)
      else { s with regs := regs, int := i }) = { s with regs := regs, int := i, mem := { s.mem with marked := m } } := by
    split_ifs
    · exact ⟨_, rfl⟩
    · exact ⟨_, rfl⟩
  rw [hm]
  split_ifs
  · obtain ⟨regs', i', hu⟩ := State.transFault_eq { s with regs := regs, int := i, mem := { s.mem with marked := m } } r.ctx 1 r.va
    exact ⟨regs', i', m, hu⟩
  · exact ⟨_, _, _, rfl⟩

theorem State.eccOf_host (s : State) (hr : r.hostFn = some f) : s.eccOf r ecc = 0 := by
  rw [State.eccOf, hr]
  rfl

theorem State.noteEcc_clean (s : State) (r : MemReq) (e : Nat) : s.noteEcc r e 0 = s := by
  simp [State.noteEcc]

theorem evReg_memBlock {a : Nat} (h1 : 0x400000 ≤ a) (h2 : a < 0x500000) : evReg a = false := by
  simp only [evReg, INT_STATUS, INT_DROPS, INT_SUPPRESSED, INT_LOG_STATUS, Bool.or_eq_false_iff, beq_eq_false_iff_ne, Bool.and_eq_false_iff,
    decide_eq_false_iff_not]
  omega

/-- The registers that the ECC of a completion writes. -/
def eccReg (a : Nat) : Prop :=
  evReg a = true ∨ a = MEM_ECC_ADDR_LO ∨ a = MEM_ECC_ADDR_HI ∨ (∃ i, a = MEM_CTL_ECC i) ∨ 0x10000000 ≤ a

theorem engStatus_not_eccReg (he : e < 48) : ¬ eccReg (MEM_ENG_STATUS e) := by
  rw [MEM_ENG_STATUS, if_pos he]
  rintro (h | h | h | ⟨i, h⟩ | h)
  · rw [evReg_memBlock (by omega) (by omega)] at h
    exact absurd h (by decide)
  · unfold MEM_ECC_ADDR_LO at h
    omega
  · unfold MEM_ECC_ADDR_HI at h
    omega
  · unfold MEM_CTL_ECC at h
    split_ifs at h <;> omega
  · omega

theorem State.noteEcc_engStatus (s : State) (r : MemReq) (found : Nat) (he : e < 48) :
    (s.noteEcc r e found).rd (MEM_ENG_STATUS e) = s.rd (MEM_ENG_STATUS e) := by
  have hf : Fr anyDram eccReg (fun p => p = .mem ∨ p = .int) s (s.noteEcc r e found) := by
    refine State.noteEcc_frame s r e found ⟨fun _ => .inl, .inr rfl⟩ (fun i => ?_) (fun i => ?_) (fun i => ?_)
      (fun i => .inr (.inr (.inr (.inl ⟨i, rfl⟩)))) (.inr (.inr (.inl rfl))) (.inr (.inl rfl)) (.inl rfl) (Fr.start trivial)
    all_goals
      refine .inr (.inr (.inr (.inr ?_)))
      simp only [HIF_CTX_FAULT_LO, HIF_CTX_FAULT_HI, HIF_CTX_STATUS]
      split_ifs <;> omega
  exact hf.rd_eq (engStatus_not_eccReg he)

/-! ### The state before the data -/

/-- A completion has freed its tag, and its errors and the older generation of a function are counted. -/
def State.beforeData (s : State) (r : MemReq) (e k ecc : Nat) : State :=
  ((s.freeReq r e k).noteEcc r e (s.eccOf r ecc)).countStale r (s.hif.tags.any (fun g => g.user == TagUser.fetch e k && g.old))

theorem State.takeCompletion_eq (s : State) (r : MemReq) (e k ecc : Nat) : s.takeCompletion r e k ecc =
    (s.beforeData r e k ecc).takeData r e (r.write || s.eccOf r ecc = 2 || s.hif.tags.any (fun g => g.user == TagUser.fetch e k && g.old))
      (r.gen == s.flag (MEM_ENG_STATUS.GEN e)) := rfl

theorem State.countStale_eq (s : State) (r : MemReq) (stale : Bool) : ∃ regs, s.countStale r stale = { s with regs := regs } := by
  unfold State.countStale
  split
  · split_ifs
    · exact ⟨_, rfl⟩
    · exact ⟨_, rfl⟩
  · exact ⟨_, rfl⟩

theorem State.countStale_rd {a : Nat} (s : State) (r : MemReq) (stale : Bool) (h : ∀ f, a ≠ HIF_FN_STATUS f) :
    (s.countStale r stale).rd a = s.rd a := by
  unfold State.countStale
  split
  · split_ifs
    · exact State.rd_put_other _ _ (h _)
    · rfl
  · rfl

theorem State.beforeData_eq (s : State) (r : MemReq) (e k ecc : Nat) : ∃ regs i m, s.beforeData r e k ecc =
    { s.freeReq r e k with regs := regs, int := i, mem := { (s.freeReq r e k).mem with marked := m } } := by
  obtain ⟨regs, i, m, h⟩ := (s.freeReq r e k).noteEcc_eq r e (s.eccOf r ecc)
  unfold State.beforeData
  rw [h]
  obtain ⟨regs', h'⟩ := State.countStale_eq
    ({ s.freeReq r e k with regs := regs, int := i, mem := { (s.freeReq r e k).mem with marked := m } }) r
    (s.hif.tags.any (fun g => g.user == TagUser.fetch e k && g.old))
  exact ⟨regs', i, m, h'⟩

theorem State.beforeData_engStatus (s : State) (r : MemReq) (k ecc : Nat) (he : e < 48) :
    (s.beforeData r e k ecc).rd (MEM_ENG_STATUS e) = s.rd (MEM_ENG_STATUS e) := by
  refine (State.countStale_rd _ _ _ fun f => ?_).trans ((s.freeReq r e k).noteEcc_engStatus r _ he)
  unfold MEM_ENG_STATUS HIF_FN_STATUS
  split_ifs <;> omega

theorem State.beforeData_bufs (s : State) (r : MemReq) (e k ecc : Nat) : (s.beforeData r e k ecc).mem.bufs = s.mem.bufs := by
  obtain ⟨regs, i, m, h⟩ := s.beforeData_eq r e k ecc
  rw [h]
  rfl

theorem State.beforeData_bufFill (s : State) (r : MemReq) (e k ecc : Nat) : (s.beforeData r e k ecc).bufFill e = s.bufFill e := by
  obtain ⟨regs, i, m, h⟩ := s.beforeData_eq r e k ecc
  rw [h]
  rfl

/-! ### The data -/

theorem State.takeData_reqs (s : State) (r : MemReq) (e : Nat) (none_ current : Bool) :
    (s.takeData r e none_ current).mem.reqs = s.mem.reqs := by
  unfold State.takeData
  split_ifs <;> rfl

theorem State.takeData_hif (s : State) (r : MemReq) (e : Nat) (none_ current : Bool) : (s.takeData r e none_ current).hif = s.hif := by
  unfold State.takeData
  split_ifs <;> rfl

theorem State.takeData_eventCount (s : State) (r : MemReq) (e c : Nat) (none_ current : Bool) :
    (s.takeData r e none_ current).eventCount c = s.eventCount c := by
  unfold State.takeData
  split_ifs <;> rfl

theorem State.takeData_rd {a : Nat} (s : State) (r : MemReq) (none_ current : Bool) (h : a ≠ MEM_ENG_STATUS e) :
    (s.takeData r e none_ current).rd a = s.rd a := by
  unfold State.takeData
  split_ifs
  · exact State.rd_put_other _ _ h
  · rfl
  · rfl

/-- Data of an older generation is counted, of the present one not. -/
theorem State.takeData_stale (s : State) (r : MemReq) (e : Nat) (none_ current : Bool) :
    (s.takeData r e none_ current).get (MEM_ENG_STATUS.STALE e) =
      if current then s.get (MEM_ENG_STATUS.STALE e) else min 15 (s.get (MEM_ENG_STATUS.STALE e) + 1) := by
  unfold State.takeData
  cases current
  · exact State.get_incSat_same _ _ rfl
  · cases none_ <;> rfl

/-- No data comes of an older generation, of a write, or where it was discarded. -/
theorem State.takeData_bufs (h : none_ = true ∨ current = false) : (s.takeData r e none_ current).mem.bufs = s.mem.bufs := by
  unfold State.takeData
  rcases h with rfl | rfl
  · cases current <;> rfl
  · rfl

/-- Data of the present generation fills the buffer, a layer engine's up to its 48 KiB. -/
theorem State.takeData_fills (s : State) (r : MemReq) (e : Nat) : ((s.takeData r e false true).buf e).fill =
    if e < 32 then min 49152 (s.bufFill e + r.len) else s.bufFill e + r.len :=
  congrArg EngBuf.fill (tget_tset_same _ _ _ _)

/-! ### What is taken -/

theorem State.takeCompletion_reqs (s : State) (r : MemReq) (e k ecc : Nat) :
    (s.takeCompletion r e k ecc).mem.reqs = s.mem.reqs.filter (fun q => !sameTag q r) := by
  obtain ⟨regs, i, m, h⟩ := s.beforeData_eq r e k ecc
  rw [State.takeCompletion_eq, State.takeData_reqs, h]
  rfl

theorem State.takeCompletion_tags (s : State) (r : MemReq) (e k ecc : Nat) :
    (s.takeCompletion r e k ecc).hif.tags = s.hif.tags.eraseP (fun g => g.user == TagUser.fetch e k) := by
  obtain ⟨regs, i, m, h⟩ := s.beforeData_eq r e k ecc
  rw [State.takeCompletion_eq, State.takeData_hif, h]
  rfl

theorem State.takeCompletion_stale (s : State) (r : MemReq) (k ecc : Nat) (he : e < 48) :
    (s.takeCompletion r e k ecc).get (MEM_ENG_STATUS.STALE e) = if r.gen == s.flag (MEM_ENG_STATUS.GEN e)
      then s.get (MEM_ENG_STATUS.STALE e) else min 15 (s.get (MEM_ENG_STATUS.STALE e) + 1) := by
  rw [State.takeCompletion_eq, State.takeData_stale, State.get_congr (f := MEM_ENG_STATUS.STALE e) (s.beforeData_engStatus r k ecc he)]

theorem State.takeCompletion_fnStale (s : State) (k ecc : Nat) (he : e < 48) (hf : f < 256) (hr : r.hostFn = some f) :
    (s.takeCompletion r e k ecc).get (HIF_FN_STATUS.STALE f) =
      if s.hif.tags.any (fun g => g.user == TagUser.fetch e k && g.old) then (s.get (HIF_FN_STATUS.STALE f) + 1) % 2 ^ 16
      else s.get (HIF_FN_STATUS.STALE f) := by
  have hne : HIF_FN_STATUS f ≠ MEM_ENG_STATUS e := by
    rw [HIF_FN_STATUS, MEM_ENG_STATUS, if_pos hf, if_pos he]
    omega
  rw [State.takeCompletion_eq, State.get_congr (f := HIF_FN_STATUS.STALE f) (State.takeData_rd _ r _ _ hne), State.beforeData, s.eccOf_host hr,
    State.noteEcc_clean, State.countStale, hr]
  dsimp only
  split_ifs
  · exact State.get_put_same _ _ _ rfl
  · rfl

/-! ### An uncorrectable error -/

theorem State.eccOf_two (hr : r.hostFn = none) (he : s.dpaEcc r.addr = true) : s.eccOf r 2 = 2 := by
  rw [State.eccOf, hr, he]
  exact ite_self 2

theorem State.noteEcc_two (s : State) (e : Nat) (hr : r.write = false) : s.noteEcc r e 2 =
    if e = 40 ∨ e = 41 then (s.eccUncorrectable r.pc r.addr).transFault r.ctx 1 r.va else s.eccUncorrectable r.pc r.addr := by
  simp [State.noteEcc, hr]

theorem State.transFault_rd {a : Nat} (s : State) (c kind va : Nat) (h : evReg a = false) (hlow : a < 0x10000000) :
    (s.transFault c kind va).rd a = s.rd a := by
  have hf : Fr anyDram (fun a => evReg a = true ∨ 0x10000000 ≤ a) (· = .int) s (s.transFault c kind va) := by
    refine State.transFault_frame s c kind va ⟨fun _ => .inl, rfl⟩ (.inr ?_) (.inr ?_) (.inr ?_) (Fr.start trivial)
    all_goals
      simp only [HIF_CTX_FAULT_LO, HIF_CTX_FAULT_HI, HIF_CTX_STATUS]
      split_ifs <;> omega
  refine hf.rd_eq ?_
  rintro (hev | hhigh)
  · rw [h] at hev
    exact absurd hev (by decide)
  · omega

theorem State.transFault_eventCount (s : State) (x kind va c : Nat) :
    (s.transFault x kind va).eventCount c = if c = 0x0F03 then (s.eventCount c + 1) % 2 ^ 32 else s.eventCount c :=
  State.raiseC_eventCount _ _ _ _ _ _ _

theorem State.eccUncorrectable_eventCount (s : State) (pc dpa c : Nat) :
    (s.eccUncorrectable pc dpa).eventCount c = if c = 0x0C01 then (s.eventCount c + 1) % 2 ^ 32 else s.eventCount c :=
  State.raise_eventCount _ _ _ _ _ _

theorem State.eccUncorrectable_count (s : State) (dpa : Nat) {pc : Nat} (hp : pc < 64) :
    (s.eccUncorrectable pc dpa).get (MEM_CTL_ECC.UE (pcController pc)) = min 65535 (s.get (MEM_CTL_ECC.UE (pcController pc)) + 1) := by
  have hreg : MEM_CTL_ECC (pcController pc) = 0x40020C + 0x20 * pcController pc := if_pos (by unfold pcController; omega)
  have hk : pcController pc < 8 := by
    unfold pcController
    omega
  have hlo : MEM_CTL_ECC (pcController pc) ≠ MEM_ECC_ADDR_LO := by
    rw [hreg, MEM_ECC_ADDR_LO]
    omega
  have hhi : MEM_CTL_ECC (pcController pc) ≠ MEM_ECC_ADDR_HI := by
    rw [hreg, MEM_ECC_ADDR_HI]
    omega
  have hev : evReg (MEM_CTL_ECC (pcController pc)) = false := by
    rw [hreg]
    exact evReg_memBlock (by omega) (by omega)
  unfold State.eccUncorrectable
  rw [State.get_raise _ _ _ _ _ hev, State.get_congr (f := MEM_CTL_ECC.UE (pcController pc)) (State.rd_put_other _ _ hhi),
    State.get_congr (f := MEM_CTL_ECC.UE (pcController pc)) (State.rd_put_other _ _ hlo)]
  exact State.get_incSat_same _ _ rfl

theorem State.noteEcc_two_count (s : State) (e : Nat) (hr : r.write = false) (hp : r.pc < 64) :
    (s.noteEcc r e 2).get (MEM_CTL_ECC.UE (pcController r.pc)) = min 65535 (s.get (MEM_CTL_ECC.UE (pcController r.pc)) + 1) := by
  obtain ⟨hlo, hhi⟩ : 0x400000 ≤ MEM_CTL_ECC (pcController r.pc) ∧ MEM_CTL_ECC (pcController r.pc) < 0x500000 := by
    rw [MEM_CTL_ECC, if_pos (by unfold pcController; omega)]
    unfold pcController
    omega
  rw [State.noteEcc_two _ _ hr]
  split_ifs
  · rw [State.get_congr (f := MEM_CTL_ECC.UE (pcController r.pc)) (State.transFault_rd _ _ _ _ (evReg_memBlock hlo hhi)
      (hhi.trans (by decide)))]
    exact s.eccUncorrectable_count _ hp
  · exact s.eccUncorrectable_count _ hp

theorem State.noteEcc_two_raised (s : State) (e : Nat) (hr : r.write = false) : Raised 0x0C01 s (s.noteEcc r e 2) := by
  rw [Raised, State.noteEcc_two _ _ hr]
  split_ifs
  · rw [State.transFault_eventCount, if_neg (by decide), State.eccUncorrectable_eventCount, if_pos rfl]
  · rw [State.eccUncorrectable_eventCount, if_pos rfl]

/-- A failed read of a walk faults its page. -/
theorem State.noteEcc_two_faults (s : State) (hr : r.write = false) (hwalk : e = 40 ∨ e = 41) : Raised 0x0F03 s (s.noteEcc r e 2) := by
  rw [Raised, State.noteEcc_two _ _ hr, if_pos hwalk, State.transFault_eventCount, if_pos rfl, State.eccUncorrectable_eventCount,
    if_neg (by decide)]

/-- What a failed read leaves: its error counted with one event, and in a walk the page's fault. -/
theorem State.takeCompletion_fails (s : State) (k : Nat) (he : e < 48) (hr : r.hostFn = none) (hw : r.write = false)
    (hecc : s.dpaEcc r.addr = true) (hp : r.pc < 64) : let t := s.takeCompletion r e k 2
    Raised 0x0C01 s t ∧ t.get (MEM_CTL_ECC.UE (pcController r.pc)) = min 65535 (s.get (MEM_CTL_ECC.UE (pcController r.pc)) + 1) ∧
      (e = 40 ∨ e = 41 → Raised 0x0F03 s t) := by
  have hbefore : s.beforeData r e k 2 = (s.freeReq r e k).noteEcc r e 2 := by
    rw [State.beforeData, s.eccOf_two hr hecc, State.countStale, hr]
  have hne : MEM_CTL_ECC (pcController r.pc) ≠ MEM_ENG_STATUS e := by
    rw [MEM_ENG_STATUS, if_pos he]
    unfold MEM_CTL_ECC pcController
    split_ifs <;> omega
  dsimp only
  refine ⟨?_, ?_, fun hwalk => ?_⟩
  · rw [Raised, State.takeCompletion_eq, State.takeData_eventCount, hbefore]
    exact (s.freeReq r e k).noteEcc_two_raised e hw
  · rw [State.takeCompletion_eq, State.get_congr (f := MEM_CTL_ECC.UE (pcController r.pc)) (State.takeData_rd _ r _ _ hne), hbefore]
    exact (s.freeReq r e k).noteEcc_two_count e hw hp
  · rw [Raised, State.takeCompletion_eq, State.takeData_eventCount, hbefore]
    exact (s.freeReq r e k).noteEcc_two_faults hw hwalk

end Sys2Proof.Machine
end

section
/-! The requests of the engines settled: what a completion leaves (R103, R110, R111, R114, R127), and a passed deadline (R112, R115). -/
namespace Sys2Proof.Machine

variable {s t : State} {e k f ecc dt d : Nat} {r : MemReq}

section
variable (hl : s.live = true) (hc : s.lan.coreStopped = false) (he : e < 48)
  (hfind : s.mem.reqs.find? (fun q => q.engine == e && q.index == k && s.mayComplete q) = some r) (ht : doMemCompletion dt e k ecc s = t)
include hl hc hfind ht

theorem memCompletion_keeps : CompletionKept ((s.tick dt).takeCompletion r e k ecc) t := ht ▸ memCompletion_ends hl hc hfind

theorem memCompletion_frees : t.mem.reqs.map MemReq.asIssued = (s.mem.reqs.filter (fun q => !sameTag q r)).map MemReq.asIssued := by
  rw [(memCompletion_keeps hl hc hfind ht).reqs, State.takeCompletion_reqs]
  rfl

/-- The data that a completion has taken is what its engine's buffer holds. -/
theorem memCompletion_bufs : t.mem.bufs = ((s.tick dt).takeCompletion r e k ecc).mem.bufs :=
  (memCompletion_keeps hl hc hfind ht).bufs

include he in
theorem memCompletion_counts : t.get (MEM_ENG_STATUS.STALE e) = if r.gen == s.flag (MEM_ENG_STATUS.GEN e)
    then s.get (MEM_ENG_STATUS.STALE e) else min 15 (s.get (MEM_ENG_STATUS.STALE e) + 1) := by
  rw [(memCompletion_keeps hl hc hfind ht).counts _ (.inl ⟨e, he, rfl⟩)]
  exact (s.tick dt).takeCompletion_stale r k ecc he

/-- A completion without data: of a write, of an older generation of its function, or of an older one of the engine. -/
theorem memCompletion_keeps_bufs (h : (r.write || (s.tick dt).eccOf r ecc = 2 ||
      s.hif.tags.any (fun g => g.user == TagUser.fetch e k && g.old)) = true ∨ (r.gen == s.flag (MEM_ENG_STATUS.GEN e)) = false) :
    t.mem.bufs = s.mem.bufs := by
  rw [memCompletion_bufs hl hc hfind ht, State.takeCompletion_eq]
  exact (State.takeData_bufs h).trans ((s.tick dt).beforeData_bufs r e k ecc)

theorem memCompletion_fills (hw : r.write = false) (hecc : (s.tick dt).eccOf r ecc < 2)
    (hstale : s.hif.tags.any (fun g => g.user == TagUser.fetch e k && g.old) = false)
    (hgen : (r.gen == s.flag (MEM_ENG_STATUS.GEN e)) = true) : (t.buf e).fill =
      if e < 32 then min 49152 ((s.tick dt).bufFill e + r.len) else (s.tick dt).bufFill e + r.len := by
  have hnone : (r.write || (s.tick dt).eccOf r ecc = 2 ||
      (s.tick dt).hif.tags.any (fun g => g.user == TagUser.fetch e k && g.old)) = false := by
    rw [hw, decide_eq_false (Nat.ne_of_lt hecc)]
    exact hstale
  have hcur : (r.gen == (s.tick dt).flag (MEM_ENG_STATUS.GEN e)) = true := hgen
  rw [State.buf, memCompletion_bufs hl hc hfind ht, State.takeCompletion_eq, hnone, hcur]
  exact ((s.tick dt).beforeData r e k ecc).takeData_fills r e |>.trans (by rw [State.beforeData_bufFill])

/-- A host completion frees its tag; new tags are of present generations. -/
theorem memCompletion_tags : ∃ l : List HostTag, t.hif.tags = s.hif.tags.eraseP (fun g => g.user == TagUser.fetch e k) ++ l ∧
    ∀ x ∈ l, x.old = false := by
  have htags := (memCompletion_keeps hl hc hfind ht).tags
  rwa [State.takeCompletion_tags] at htags

include he in
theorem memCompletion_fnStale (hf : f < 256) (hr : r.hostFn = some f) : t.get (HIF_FN_STATUS.STALE f) =
    if s.hif.tags.any (fun g => g.user == TagUser.fetch e k && g.old) then (s.get (HIF_FN_STATUS.STALE f) + 1) % 2 ^ 16
      else s.get (HIF_FN_STATUS.STALE f) := by
  rw [(memCompletion_keeps hl hc hfind ht).counts _ (.inr (.inl ⟨f, hf, rfl⟩))]
  exact (s.tick dt).takeCompletion_fnStale k ecc he hf hr

end

theorem memCompletion_fails (hl : s.live = true) (hc : s.lan.coreStopped = false) (he : e < 48)
    (hfind : s.mem.reqs.find? (fun q => q.engine == e && q.index == k && s.mayComplete q) = some r)
    (ht : doMemCompletion dt e k 2 s = t) (hr : r.hostFn = none) (hw : r.write = false) (hecc : s.dpaEcc r.addr = true) (hp : r.pc < 64) :
    Raised 0x0C01 s t ∧ t.get (MEM_CTL_ECC.UE (pcController r.pc)) = min 65535 (s.get (MEM_CTL_ECC.UE (pcController r.pc)) + 1) ∧
      (e = 40 ∨ e = 41 → Raised 0x0F03 s t) := by
  obtain ⟨herr, hue, hwalk⟩ := (s.tick dt).takeCompletion_fails k he hr hw hecc hp
  have hend := memCompletion_keeps hl hc hfind ht
  exact ⟨(hend.events _).trans herr, (hend.counts _ (.inr (.inr ⟨_, by unfold pcController; omega, rfl⟩))).trans hue,
    fun h => (hend.events _).trans (hwalk h)⟩

theorem tags_not_old (h : ∀ g ∈ s.hif.tags, g.user ≠ .fetch e k) :
    s.hif.tags.any (fun g => g.user == TagUser.fetch e k && g.old) = false := by
  rw [List.any_eq_false]
  intro g hg
  simp [h g hg]

/-! ### DEADLINE_MISS -/

/-- A real-time transaction whose deadline has passed and is not yet counted. -/
def MemReq.overdue (e k now : Nat) (q : MemReq) : Bool :=
  q.engine == e && q.index == k && q.realTime && !q.missed && q.deadline.any (fun d => decide (d < now))

theorem deadlineMiss_counts (hl : s.live = true) (hr : r ∈ s.mem.reqs) (he : r.engine = e) (hk : r.index = k) (hrt : r.realTime = true)
    (hm : r.missed = false) (hd : r.deadline = some d) (hpast : d < s.now + dt) (ht : doDeadlineMiss dt e k s = t) :
    t.mem = { s.mem with reqs := s.mem.reqs.map (fun q => if q.overdue e k (s.now + dt) then { q with missed := true } else q) } ∧
      t.get (MEM_ENG_MISSES.COUNT e) = (s.get (MEM_ENG_MISSES.COUNT e) + 1) % 2 ^ 32 := by
  have hany : (s.tick dt).mem.reqs.any (MemReq.overdue e k (s.now + dt)) = true := by
    rw [List.any_eq_true]
    exact ⟨r, hr, by simp [MemReq.overdue, he, hk, hrt, hm, hd, hpast]⟩
  have hrun := State.tick_onLiveIf dt _ (fun u0 => ({ u0 with
      cmp := { u0.cmp with wb := u0.cmp.wb.map (fun (w : WbSt) => if w.engines.contains e then { w with incomplete := true } else w) }
      mem := { u0.mem with reqs := u0.mem.reqs.map (fun q => if q.overdue e k (s.now + dt) then { q with missed := true } else q) } } :
        State).inc (MEM_ENG_MISSES.COUNT e)) hl hany
  obtain rfl := hrun.symm.trans ht
  exact ⟨rfl, State.get_put_same _ _ _ rfl⟩

/-- A deadline is counted and marked; the request stays. -/
theorem deadlineMiss_marks {l : List MemReq} {now : Nat}
    (ht : t.mem = { s.mem with reqs := l.map (fun q => if q.overdue e k now then { q with missed := true } else q) }) :
    t.mem.reqs.map (fun q => { q with missed := true }) = l.map (fun q => { q with missed := true }) ∧
      ∀ q ∈ t.mem.reqs, q.engine = e → q.index = k → q.realTime = true → (∃ b, q.deadline = some b ∧ b < now) →
        q.missed = true := by
  rw [ht]
  refine ⟨?_, fun q hq heng hidx hrt hpast => ?_⟩
  · rw [List.map_map]
    refine List.map_congr_left fun q _ => ?_
    rw [Function.comp_apply]
    split_ifs <;> rfl
  · obtain ⟨p, -, rfl⟩ := List.mem_map.mp hq
    obtain ⟨b, hb, hlt⟩ := hpast
    by_cases hover : p.overdue e k now = true
    · rw [if_pos hover]
    · rw [if_neg hover] at heng hidx hrt hb ⊢
      by_contra hmiss
      exact hover (by simp [MemReq.overdue, heng, hidx, hrt, hb, hlt, hmiss])

/-- Settles O30: a request is refused, faults, or becomes one transaction; a completion ends exactly its own; a deadline is marked. -/
theorem memoryRequestsAndCompletions : Obligations.MemoryRequestsAndCompletions := by
  refine ⟨fun _ _ _ _ _ _ _ _ _ _ _ hl hc he hr hm hkind hk hshape =>
      ⟨_, rfl, memRequest_adds_local hl hc he hr hm hk hkind hshape rfl⟩,
    fun _ _ _ _ _ _ _ _ _ _ _ hl hc he hr hm hkind hk hf => ⟨_, rfl, memRequest_adds_host hl hc he hr hm hkind hk hf rfl⟩,
    fun _ _ _ _ _ _ _ _ _ hl hc he _ hr hm => ⟨_, rfl, memRequest_faults hl hc he hr hm⟩,
    fun _ _ _ _ _ _ _ _ _ hl hc he hr => ⟨_, rfl, memRequest_counts_miss hl hc he hr⟩, ?_, ?_⟩
  · intro dt e k ecc r s hl hc he hfind freed current filled counts
    refine ⟨fun _ hw hecc htags => ⟨_, rfl, memCompletion_frees hl hc hfind rfl, memCompletion_counts hl hc he hfind rfl, ?_⟩,
      fun _ hw _ => ⟨_, rfl, memCompletion_frees hl hc hfind rfl, memCompletion_counts hl hc he hfind rfl,
        memCompletion_keeps_bufs hl hc hfind rfl (.inl (by rw [hw]; rfl))⟩,
      fun f hf hf256 hw => ⟨_, rfl, memCompletion_frees hl hc hfind rfl, memCompletion_counts hl hc he hfind rfl,
        memCompletion_tags hl hc hfind rfl, ?_⟩,
      fun hr hw hecc hp => ?_⟩
    · split
      case isTrue hcur => exact memCompletion_fills hl hc hfind rfl hw hecc (tags_not_old htags) hcur
      case isFalse hcur => exact memCompletion_keeps_bufs hl hc hfind rfl (.inr (Bool.eq_false_of_not_eq_true hcur))
    · have hcount := memCompletion_fnStale (dt := dt) (ecc := ecc) hl hc he hfind rfl hf256 hf
      split
      case isTrue hstale =>
        rw [if_pos hstale] at hcount
        exact ⟨memCompletion_keeps_bufs hl hc hfind rfl (.inl (by rw [hstale, Bool.or_true])), hcount⟩
      case isFalse hstale =>
        rw [if_neg hstale] at hcount
        exact ⟨hcount, memCompletion_fills hl hc hfind rfl hw (by rw [State.eccOf_host _ hf]; decide)
          (Bool.eq_false_of_not_eq_true hstale)⟩
    · obtain ⟨herr, hue, hwalk⟩ := memCompletion_fails (dt := dt) hl hc he hfind rfl hr hw hecc hp
      exact ⟨_, rfl, memCompletion_frees hl hc hfind rfl, herr, hue, fun h _ => hwalk h⟩
  · intro dt e k d r s hl _ hr he hk hrt hm hd hpast
    obtain ⟨hmem, hcount⟩ := deadlineMiss_counts hl hr he hk hrt hm hd hpast rfl
    obtain ⟨hsame, hmarked⟩ := deadlineMiss_marks hmem
    exact ⟨_, rfl, by rw [hmem], hsame, hmarked, hcount⟩

end Sys2Proof.Machine
end

section
/-! What says which layers take part in which outputs (R133): it stands through passes that start and layers that go off. -/
namespace Sys2Proof.Machine

variable {s t : State} {K : Part → Prop} {a n : Nat}

/-- The registers but those that say who holds and commits a layer and what an output composes. -/
def offLayout (a : Nat) : Prop :=
  a ≠ HIF_STATUS ∧ ∀ i, a ≠ CMP_LYR_CTRL i ∧ a ≠ CMP_LYR_OWNER i ∧ a ≠ CMP_OUT_CUT i ∧ a ≠ CMP_OUT_INFO i

/-- Where those registers stand: in the outputs' blocks, in the layers' blocks, and past the end of each. -/
theorem offLayout_of_place (h1 : a ≠ 0x300004) (h2 : 0x801000 ≤ a ∧ a < 0x801A00 → a % 0x80 ≠ 0x08 ∧ a % 0x80 ≠ 0x0C)
    (h3 : 0x810000 ≤ a ∧ a < 0x820000 → a % 0x100 ≠ 0 ∧ a % 0x100 ≠ 0x84)
    (h4 : a ≠ 0x40049000 ∧ a ≠ 0x40055000 ∧ a ≠ 0x4003B000 ∧ a ≠ 0x4003A000) : offLayout a := by
  refine ⟨h1, fun i => ?_⟩
  unfold CMP_LYR_CTRL CMP_LYR_OWNER CMP_OUT_CUT CMP_OUT_INFO
  split_ifs <;> omega

theorem ev_offLayout : Ev offLayout K ↔ K .int := by
  refine ⟨fun h => h.2, fun h => ⟨fun a ha => ?_, h⟩⟩
  simp only [evReg, INT_STATUS, INT_DROPS, INT_SUPPRESSED, INT_LOG_STATUS, Bool.or_eq_true, Bool.and_eq_true, beq_iff_eq,
    decide_eq_true_eq] at ha
  exact offLayout_of_place (by omega) (by omega) (by omega) (by omega)

section
variable (hK : ¬ K .act) (h : Frame offLayout K s t)
include h

theorem Frame.holder_eq (n : Nat) : t.holder n = s.holder n := by
  have howner : t.rd (CMP_LYR_OWNER n) = s.rd (CMP_LYR_OWNER n) := h.1 _ fun ho => (ho.2 n).2.1 rfl
  rw [State.holder, State.holder, State.flag_congr (f := CMP_LYR_OWNER.HELD n) howner, State.get_congr (f := CMP_LYR_OWNER.CTX n) howner]

include hK

theorem Frame.actGet_eq (f : Fld) : t.actGet f = s.actGet f := by
  rw [State.actGet, State.actGet, State.actRd, State.actRd, h.2 .act hK]

/-- A field of a layer's CTRL stands, also as commits would leave it. -/
theorem Frame.sflag_ctrl_eq {f : Fld} (hf : f.reg = CMP_LYR_CTRL n) (cs : List Nat) : t.sflag cs f = s.sflag cs f := by
  have hget : t.get f = s.get f := State.get_congr (h.1 _ fun ho => (ho.2 n).1 hf)
  have howner : t.keyOwner f.reg = s.keyOwner f.reg := by simp only [State.keyOwner, h.holder_eq]
  rw [State.sflag, State.sflag, State.sg, State.sg, hget, h.actGet_eq hK, howner]

theorem Frame.takesPart_eq (n o : Nat) : t.takesPart [] n o = s.takesPart [] n o := by
  have hact (f : Fld) : t.sg [] f = s.sg [] f := h.actGet_eq hK f
  have hstart : t.flag HIF_STATUS.STARTUP_DONE = s.flag HIF_STATUS.STARTUP_DONE := State.flag_congr (h.1 _ fun ho => ho.1 rfl)
  have hcut {f : Fld} (hf : f.reg = CMP_OUT_CUT o) : t.flag f = s.flag f := State.flag_congr (h.1 _ fun ho => (ho.2 o).2.2.1 hf)
  have hinfo {f : Fld} (hf : f.reg = CMP_OUT_INFO o) : t.get f = s.get f := State.get_congr (h.1 _ fun ho => (ho.2 o).2.2.2 hf)
  simp only [State.takesPart, State.lyrMeets, State.lyrX, State.lyrY, State.lyrW, State.lyrH, State.winX, State.winY, State.outW,
    State.outH, State.outExists, State.isFollower, State.sflag, State.ssg, hact, hstart, h.holder_eq, hcut (f := CMP_OUT_CUT.EXISTS o) rfl,
    hcut (f := CMP_OUT_CUT.FOLLOWER o) rfl, hinfo (f := CMP_OUT_INFO.W_M1 o) rfl, hinfo (f := CMP_OUT_INFO.H_M1 o) rfl]
  rfl

/-- The outputs that a layer spans by the values in force. -/
theorem Frame.spans_eq (n : Nat) : t.spans [] n = s.spans [] n := by
  simp only [State.spans, h.takesPart_eq hK]

end

/-- A frame holds with more registers and parts. -/
theorem Fr.mono {D : List Host.Cell → Prop} {W W' : Nat → Prop} {K' : Part → Prop} (h : Fr D W K s t) (hW : ∀ a, W a → W' a)
    (hK : ∀ k, K k → K' k) : Fr D W' K' s t :=
  ⟨⟨fun a ha => h.frame.1 a fun hw => ha (hW a hw), fun k hk => h.frame.2 k fun hp => hk (hK k hp)⟩, h.queue, h.dram⟩

/-- What a step of a fold makes so, and every other step keeps, is so after the fold. -/
theorem foldOver_establishes {α : Type} {R : State → State → Prop} {P : State → Prop} (hrefl : ∀ s, R s s)
    (htrans : ∀ {a b c}, R a b → R b c → R a c) {f : α → State → State} (hR : ∀ y t, R t (f y t)) (hkeep : ∀ y t, P t → P (f y t))
    {l : List α} {x : α} (hx : x ∈ l) {s : State} (hset : ∀ t, R s t → P (f x t)) : P (foldOver l f s) := by
  obtain ⟨l1, l2, rfl⟩ := List.append_of_mem hx
  have hfold : foldOver (l1 ++ x :: l2) f s = foldOver l2 f (f x (foldOver l1 f s)) := by simp [foldOver]
  rw [hfold]
  exact foldOver_rel (R := fun s t => P s → P t) (fun _ => id) (fun h1 h2 => h2 ∘ h1) (fun y _ t => hkeep y t) _
    (hset _ (foldOver_rel hrefl htrans (fun y _ t => hR y t) s))

end Sys2Proof.Machine
end

section
/-! Layers that go off in an output (R162, R163): what the off leaves in CMP, in the layer's status and in INT's counts. -/
namespace Sys2Proof.Machine

variable {s t u : State} {n o p line cause c : Nat} {remote : Bool}

/-! ### One output -/

theorem State.markOff_cmp (n p line cause : Nat) (remote : Bool) :
    (∃ depth, (s.markOff n p line cause remote).cmp.offs = tset s.cmp.offs (offKey n p) ⟨depth, cause, remote⟩) ∧
      ∃ depth, (s.markOff n p line cause remote).cmp.passes =
        tmod [] s.cmp.passes p (fun l => l.map (fun q => if q.running && !q.complete then q.lose n depth else q)) := by
  unfold State.markOff
  extract_lets depth tail add cmp s1 s2
  have hcmp : (foldOver (s.withFollowers p) (fun f t => t.inc (CMP_OUT_UNDERRUNS.COUNT f)) s2).cmp = s1.cmp :=
    (foldOver_keeps State.cmp (fun _ _ => State.inc_cmp ..) s2).trans rfl
  rw [hcmp]
  exact ⟨⟨depth, rfl⟩, depth, rfl⟩

theorem Pass.mem_missing_lose (q : Pass) (n depth : Nat) : n ∈ (q.lose n depth).missing := by
  unfold Pass.lose
  dsimp only
  split
  · next h => exact List.contains_iff_mem.mp h
  · exact List.mem_append_right _ (List.mem_singleton_self n)

/-- Layer `n` is off on output `o` with its cause, and what forms there lacks it. -/
def State.isLost (t : State) (n o cause : Nat) (remote : Bool) : Prop :=
  (tfind t.cmp.offs (offKey n o)).map (fun x => (x.cause, x.remote)) = some (cause, remote) ∧
    ∀ q ∈ t.passesOf o, q.running = true → q.complete = false → n ∈ q.missing

theorem State.isLost_congr (h : t.cmp = s.cmp) : t.isLost n o cause remote ↔ s.isLost n o cause remote := by
  rw [State.isLost, State.isLost, State.passesOf, State.passesOf, h]

theorem State.markOff_isLost (n o line cause : Nat) (remote : Bool) : (s.markOff n o line cause remote).isLost n o cause remote := by
  obtain ⟨⟨_, hoffs⟩, depth, hpasses⟩ := s.markOff_cmp n o line cause remote
  refine ⟨by rw [hoffs, tfind_tset_same]; rfl, fun q hq hrun hcomp => ?_⟩
  rw [State.passesOf, hpasses, tmod, tget_tset_same] at hq
  obtain ⟨r, -, rfl⟩ := List.mem_map.mp hq
  split at hrun
  · next hforms =>
    rw [if_pos hforms]
    exact r.mem_missing_lose n depth
  · next hforms =>
    rw [if_neg hforms] at hcomp
    exact absurd (by simp [hrun, hcomp]) hforms

/-- An off in another output leaves it. -/
theorem State.markOff_keeps_lost (p line : Nat) (h : s.isLost n o cause remote) : (s.markOff n p line cause remote).isLost n o cause remote := by
  by_cases hp : o = p
  · subst hp
    exact State.markOff_isLost ..
  · obtain ⟨⟨_, hoffs⟩, _, hpasses⟩ := s.markOff_cmp n p line cause remote
    have hkey : offKey n o ≠ offKey n p := by unfold offKey; omega
    rw [State.isLost, State.passesOf, hoffs, hpasses, tfind_tset_other _ _ hkey, tmod, tget_tset_other _ _ _ hp]
    exact h

/-! ### The layer's status -/

theorem offLayout_status (n : Nat) : offLayout (CMP_LYR_STATUS n) := by
  unfold CMP_LYR_STATUS
  split <;> refine offLayout_of_place ?_ ?_ ?_ ?_ <;> omega

theorem offLayout_offLine (n : Nat) : offLayout (CMP_LYR_OFF_LINE n) := by
  unfold CMP_LYR_OFF_LINE
  split <;> refine offLayout_of_place ?_ ?_ ?_ ?_ <;> omega

theorem offLayout_offLfn (n : Nat) : offLayout (CMP_LYR_OFF_LFN n) := by
  unfold CMP_LYR_OFF_LFN
  split <;> refine offLayout_of_place ?_ ?_ ?_ ?_ <;> omega

theorem offLayout_underruns (i : Nat) : offLayout (CMP_OUT_UNDERRUNS i) := by
  unfold CMP_OUT_UNDERRUNS
  split <;> refine offLayout_of_place ?_ ?_ ?_ ?_ <;> omega

theorem offLayout_engine (i : Nat) : offLayout (MEM_ENG_STATUS i) := by
  unfold MEM_ENG_STATUS
  split <;> refine offLayout_of_place ?_ ?_ ?_ ?_ <;> omega

theorem lyrStatus_apart (n i : Nat) : CMP_LYR_STATUS n ≠ CMP_OUT_UNDERRUNS i ∧ CMP_LYR_STATUS n ≠ MEM_ENG_STATUS i ∧
    CMP_LYR_OFF_LINE n ≠ CMP_LYR_STATUS n ∧ CMP_LYR_OFF_LFN n ≠ CMP_LYR_STATUS n := by
  unfold CMP_LYR_STATUS CMP_OUT_UNDERRUNS MEM_ENG_STATUS CMP_LYR_OFF_LINE CMP_LYR_OFF_LFN
  split_ifs <;> omega

/-- The offs of a layer are counted apart from the rest of its status. -/
theorem State.markOff_offs (n p line cause : Nat) (remote : Bool) :
    (s.markOff n p line cause remote).get (CMP_LYR_STATUS.OFFS n) = s.get (CMP_LYR_STATUS.OFFS n) := by
  unfold State.markOff
  extract_lets depth tail add cmp s1 s2
  have hcount : (foldOver (s.withFollowers p) (fun f t => t.inc (CMP_OUT_UNDERRUNS.COUNT f)) s2).get (CMP_LYR_STATUS.OFFS n) =
      s2.get (CMP_LYR_STATUS.OFFS n) := by
    exact foldOver_keeps (fun t => t.get (CMP_LYR_STATUS.OFFS n))
      (fun f t => State.get_congr (State.rd_put_other _ _ (lyrStatus_apart n f).1)) s2
  rw [hcount]
  unfold s2 State.showOff State.putB
  rw [State.get_put_apart _ _ rfl (by simp [Fld.apart]), State.get_put_apart _ _ rfl (by simp [Fld.apart]),
    State.get_put_apart _ _ rfl (by simp [Fld.apart])]
  rfl

theorem State.toggleCtx_offs (c n : Nat) (b : Nat → Bool) :
    (s.toggleCtx c b).get (CMP_LYR_STATUS.OFFS n) = s.get (CMP_LYR_STATUS.OFFS n) := by
  refine (State.toggleCtx_frame (D := anyDram) (W := fam MEM_ENG_STATUS) (K := anyPart) s c b (fun i => ⟨i, rfl⟩) (.start trivial)).get_eq ?_
  rintro ⟨i, hi⟩
  exact (lyrStatus_apart n i).2.1 hi

/-! ### LAYER_UNDERRUN -/

/-- The outputs on which a layer goes off: those that it spans, but where it is off already (R163). -/
def State.offOutputs (s : State) (cs : List Nat) (n : Nat) : List Nat := (s.spans cs n).filter (fun p => !s.isOff n p)

/-- The state in which a layer has gone off on its outputs, but for the count and the event. -/
def State.offMarked (s : State) (cs : List Nat) (n o line cause : Nat) (remote : Bool) : State :=
  (foldOver (s.offOutputs cs n) (fun p t => t.markOff n p (if p = o then line else min line (t.outH p - 1)) cause remote)
    (s.toggleCtx ((s.holder n).getD devQ) (s.offOutputs cs n).contains)).showOffLine n o line

theorem State.offMarked_frame (cs : List Nat) (n o line cause : Nat) (remote : Bool) :
    Fr anyDram offLayout (fun k => k ≠ .act ∧ k ≠ .int) s (s.offMarked cs n o line cause remote) := by
  refine State.showOffLine_frame _ _ _ _ (offLayout_offLfn n) (offLayout_offLine n) (foldOver_frame _ _ (fun p t ht => ?_) ?_)
  · exact State.markOff_frame _ _ _ _ _ _ (offLayout_status n) offLayout_underruns (by simp) (by simp) ht
  · exact State.toggleCtx_frame _ _ _ offLayout_engine (.start trivial)

theorem State.offMarked_offs (cs : List Nat) (n o line cause : Nat) (remote : Bool) :
    (s.offMarked cs n o line cause remote).get (CMP_LYR_STATUS.OFFS n) = s.get (CMP_LYR_STATUS.OFFS n) := by
  have hshow (t : State) : (t.showOffLine n o line).get (CMP_LYR_STATUS.OFFS n) = t.get (CMP_LYR_STATUS.OFFS n) := by
    obtain ⟨-, -, hline, hlfn⟩ := lyrStatus_apart n 0
    exact (State.showOffLine_frame (D := anyDram) (W := (· ≠ CMP_LYR_STATUS n)) (K := anyPart) t n o line hlfn hline
      (.start trivial)).get_eq (by simp)
  exact (hshow _).trans ((foldOver_keeps (fun t => t.get (CMP_LYR_STATUS.OFFS n)) (fun _ _ => State.markOff_offs ..) _).trans
    (State.toggleCtx_offs ..))

theorem State.offMarked_lost {cs : List Nat} (line cause : Nat) (remote : Bool) (ho : o ∈ s.offOutputs cs n) :
    (s.offMarked cs n o line cause remote).isLost n o cause remote :=
  (State.isLost_congr rfl).mpr (foldOver_establishes (R := fun _ _ => True) (P := fun t => t.isLost n o cause remote) (fun _ => trivial)
    (fun _ _ => trivial) (fun _ _ => trivial) (fun _ _ => State.markOff_keeps_lost _ _) ho (fun _ _ => State.markOff_isLost ..))

/-- The commits in the pass that runs on an output. -/
def State.runningCommits (s : State) (o : Nat) : List Nat := (((s.passesOf o).filter (·.running)).map (·.commits)).flatten

/-- The end of an off: one count and one event (R163). -/
def State.offTold (s u : State) (n o line cause : Nat) (remote : Bool) : State :=
  (u.inc (CMP_LYR_STATUS.OFFS n)).raiseC 0x0B01 ((s.holder n).getD devQ) n (o * 65536 + line) (cause + 256 * boolNat remote)

theorem State.offTold_frame (h : Fr anyDram offLayout (fun k => k ≠ .act ∧ k ≠ .int) s u) (line cause : Nat) (remote : Bool) :
    Fr anyDram offLayout (· ≠ .act) s (s.offTold u n o line cause remote) :=
  State.raiseC_frame _ _ _ _ _ _ (ev_offLayout.mpr (by simp))
    (State.inc_frame _ _ (offLayout_status n) (h.mono (fun _ => id) (fun _ hk => hk.1)))

theorem State.offTold_cmp (line cause : Nat) (remote : Bool) : (s.offTold u n o line cause remote).cmp = u.cmp :=
  (State.raiseC_cmp ..).trans (State.inc_cmp ..)

theorem State.offTold_counts (line cause : Nat) (remote : Bool) (hint : u.int = s.int) :
    Raised 0x0B01 s (s.offTold u n o line cause remote) ∧
      (s.offTold u n o line cause remote).get (CMP_LYR_STATUS.OFFS n) = (u.get (CMP_LYR_STATUS.OFFS n) + 1) % 2 ^ 16 := by
  have hev : evReg (CMP_LYR_STATUS n) = false := by
    by_contra hne
    have := evReg_bounds (by simpa using hne)
    unfold CMP_LYR_STATUS at this
    split_ifs at this <;> omega
  unfold State.offTold
  constructor
  · rw [Raised, State.raiseC_eventCount, if_pos rfl, State.inc_eventCount, State.eventCount_congr hint]
  · rw [State.get_raiseC _ _ _ _ _ _ hev, State.inc, State.get_put_same _ _ _ rfl,
      show (CMP_LYR_STATUS.OFFS n).hi + 1 - (CMP_LYR_STATUS.OFFS n).lo = 16 from rfl]

/-- A layer that is not coherent sends no drop notice (R165). -/
theorem State.layerOff_eq (line cause : Nat) (remote : Bool) (ho : o ∈ s.offOutputs (s.runningCommits o) n)
    (hcoh : s.sflag (s.runningCommits o) (CMP_LYR_CTRL.COHERENT n) = false) : s.layerOff n o line cause remote =
      s.offTold (s.offMarked (s.runningCommits o) n o line cause remote) n o line cause remote := by
  have hflag := ((State.offTold_frame (n := n) (o := o) (s.offMarked_frame (s.runningCommits o) n o line cause remote) line cause
    remote).frame.sflag_ctrl_eq (by simp) (f := CMP_LYR_CTRL.COHERENT n) rfl (s.runningCommits o)).trans hcoh
  unfold State.layerOff
  extract_lets running cs on c s1 s2
  have hne : on.isEmpty = false := List.isEmpty_eq_false_iff.mpr (List.ne_nil_of_mem ho)
  have hflag2 : s2.sflag cs (CMP_LYR_CTRL.COHERENT n) = false := hflag
  rw [if_neg (by simp [hne]), if_neg (by simp [hflag2])]
  rfl

/-- The outcome of an off. -/
theorem State.layerOff_lost (line cause : Nat) (remote : Bool) (ho : o ∈ s.offOutputs (s.runningCommits o) n)
    (hcoh : s.sflag (s.runningCommits o) (CMP_LYR_CTRL.COHERENT n) = false) :
    Raised 0x0B01 s (s.layerOff n o line cause remote) ∧
      (s.layerOff n o line cause remote).get (CMP_LYR_STATUS.OFFS n) = (s.get (CMP_LYR_STATUS.OFFS n) + 1) % 2 ^ 16 ∧
      (s.layerOff n o line cause remote).isLost n o cause remote := by
  rw [State.layerOff_eq line cause remote ho hcoh]
  have hint : (s.offMarked (s.runningCommits o) n o line cause remote).int = s.int := (State.offMarked_frame ..).frame.2 .int (by simp)
  obtain ⟨hraised, hcount⟩ := State.offTold_counts (n := n) (o := o) line cause remote hint
  rw [State.offMarked_offs] at hcount
  exact ⟨hraised, hcount, (State.isLost_congr (State.offTold_cmp ..)).mpr (State.offMarked_lost line cause remote ho)⟩

/-- The cause that an underrun gives (R162). -/
def State.faultCause (s : State) (n fault : Nat) : Nat :=
  if fault = 1 then offTranslation else if fault = 2 then offHostLost else if fault = 3 then offLate
  else if (s.holder n).any s.overDemand then offBandwidth else offLate

theorem doLayerUnderrun_eq {dt line fault : Nat} (hl : s.live = true) (ho : o < outputs) (hf : s.fetches o = true)
    (htp : s.takesPart (s.runningCommits o) n o = true) (hoff : s.isOff n o = false) (hline : line < s.outH o) :
    doLayerUnderrun dt n o line fault s = (s.tick dt).layerOff n o line (s.faultCause n fault) false := by
  have hcs : ((s.tick dt).passesOf o |>.filter (·.running)).flatMap (·.commits) = s.runningCommits o := List.flatMap_def
  have hgo : (decide (o < outputs) && (s.tick dt).fetches o && (s.tick dt).takesPart (s.runningCommits o) n o &&
      !(s.tick dt).isOff n o && decide (line < (s.tick dt).outH o)) = true := by
    rw [show (s.tick dt).fetches o = true from hf, show (s.tick dt).takesPart (s.runningCommits o) n o = true from htp,
      show (s.tick dt).isOff n o = false from hoff, decide_eq_true (show line < (s.tick dt).outH o from hline), decide_eq_true ho]
    rfl
  unfold doLayerUnderrun
  simp only [hcs]
  rw [State.tick_onLiveIf dt _ _ hl hgo]
  congr 1
  match fault with
  | 0 | 1 | 2 | 3 | _ + 4 => rfl

/-- Settles O38: the layer goes off on the outputs that it spans, the failing one among them, before the count and the event. -/
theorem anUnderrunTakesItsLayerOff : Obligations.AnUnderrunTakesItsLayerOff := by
  unfold Obligations.AnUnderrunTakesItsLayerOff
  intro dt n o line fault p rest s hl _ ho hpasses hrun _ hrest hf htp hoff hline _ hcoh
  have hcs : s.runningCommits o = p.commits := by
    rw [State.runningCommits, hpasses, List.filter_cons_of_pos hrun, List.filter_eq_nil_iff.mpr (by simpa using hrest)]
    simp
  rw [← hcs] at htp hcoh
  have hin : o ∈ (s.tick dt).offOutputs (s.runningCommits o) n := by
    refine List.mem_filter.mpr ⟨List.mem_filter.mpr ⟨List.mem_range.mpr ho, htp⟩, ?_⟩
    rw [show (s.tick dt).isOff n o = false from hoff]
    rfl
  obtain ⟨hraised, hcount, hcause, hmissing⟩ := State.layerOff_lost (s := s.tick dt) line (s.faultCause n fault) false hin hcoh
  rw [← doLayerUnderrun_eq hl ho hf htp hoff hline] at hraised hcount hcause hmissing
  exact ⟨_, rfl, hraised, hcount, hcause, hmissing⟩

end Sys2Proof.Machine
end

section
/-! Live and updated layers (R94, R136), and O37. -/
namespace Sys2Proof.Machine

variable {s t : State} {n o dt : Nat} {p : Pass} {rest : List Pass} {kind : PassKind} {cs : List Nat}

/-! ### A pass that is asked for -/

theorem State.askPass_eq (h : ∀ q ∈ s.passesOf o, q.kind = kind → q.running = true) : s.askPass kind cs o =
    (((s.setPasses o (s.passesOf o ++ [Pass.unstarted kind cs s.now])).pump o).showForming o).showDrift o := by
  have hnone : (s.passesOf o).any (fun p => p.kind == kind && !p.running) = false :=
    List.any_eq_false.mpr fun q hq hboth => by
      obtain ⟨hk, hr⟩ := by simpa using hboth
      simp [h q hq hk] at hr
  unfold State.askPass
  simp only [hnone, Bool.and_false, Bool.false_eq_true, if_false]

theorem State.setPasses_get {l : List Pass} {f : Fld} : (s.setPasses o l).get f = s.get f := State.get_congr (State.rd_congr rfl _)

/-- What shows the passes of an output is no layer's mark. -/
theorem State.shown_update (o n : Nat) :
    ((s.showForming o).showDrift o).get (CMP_LYR_LIVE.UPDATE n) = s.get (CMP_LYR_LIVE.UPDATE n) := by
  obtain ⟨hdrift, hout, hforming⟩ : CMP_LYR_LIVE n ≠ COL_STATUS ∧ CMP_LYR_LIVE n ≠ CMP_OUT_STATUS o ∧ CMP_LYR_LIVE n ≠ CMP_FORMING := by
    unfold CMP_LYR_LIVE CMP_OUT_STATUS COL_STATUS CMP_FORMING
    split_ifs <;> omega
  exact State.get_congr ((State.rd_put_other _ _ hdrift).trans (State.showForming_rd hout hforming))

theorem State.shown_passesOf (o q : Nat) : ((s.showForming o).showDrift o).passesOf q = s.passesOf q := rfl

/-! ### An update pass that starts alone -/

/-- The registers that the start of a pass moves before the marks of updated layers. -/
def offMarks (a : Nat) : Prop := offLayout a ∧ ∀ i, a ≠ CMP_LYR_LIVE i

theorem offLayout_live (n : Nat) : offLayout (CMP_LYR_LIVE n) := by
  unfold CMP_LYR_LIVE
  split <;> refine offLayout_of_place ?_ ?_ ?_ ?_ <;> omega

theorem offMarks_colStatus (i : Nat) : offMarks (COL_OUT_STATUS i) := by
  unfold COL_OUT_STATUS
  refine ⟨?_, fun j => ?_⟩
  · split <;> refine offLayout_of_place ?_ ?_ ?_ ?_ <;> omega
  · unfold CMP_LYR_LIVE
    split_ifs <;> omega

theorem offMarks_plnStatus (i : Nat) : offMarks (PLN_OUT_STATUS i) := by
  unfold PLN_OUT_STATUS
  refine ⟨?_, fun j => ?_⟩
  · split <;> refine offLayout_of_place ?_ ?_ ?_ ?_ <;> omega
  · unfold CMP_LYR_LIVE
    split_ifs <;> omega

theorem ev_offMarks {K : Part → Prop} (hk : K .int) : Ev offMarks K := by
  refine ⟨fun a ha => ⟨(ev_offLayout.mpr hk).1 a ha, fun i => ?_⟩, hk⟩
  have := evReg_bounds ha
  unfold CMP_LYR_LIVE
  split_ifs <;> omega

/-- UPDATE of a layer is cleared as a pass starts, where no other pass for it waits (R136). -/
def State.clearUpdate (n : Nat) (t : State) : State :=
  let waits := (t.spans [] n).any (fun q => (t.passesOf q).any (fun (x : Pass) => x.kind == .update && !x.running))
  if waits then t else t.put (CMP_LYR_LIVE.UPDATE n) 0

theorem State.clearUpdate_frame (n : Nat) (t : State) : Frame offLayout (fun _ => False) t (State.clearUpdate n t) := by
  unfold State.clearUpdate
  dsimp only
  split
  · exact Frame.refl t
  · exact (State.put_frame (D := anyDram) t (CMP_LYR_LIVE.UPDATE n) 0 (offLayout_live n) (.start trivial)).frame

theorem State.clearUpdate_keeps (m : Nat) (h : t.get (CMP_LYR_LIVE.UPDATE n) = 0) :
    (State.clearUpdate m t).get (CMP_LYR_LIVE.UPDATE n) = 0 := by
  unfold State.clearUpdate
  dsimp only
  split
  · exact h
  · by_cases hreg : CMP_LYR_LIVE n = CMP_LYR_LIVE m
    · rw [show CMP_LYR_LIVE.UPDATE n = CMP_LYR_LIVE.UPDATE m from congrArg (fun r => Fld.mk r 1 1) hreg, State.get_put_same _ _ _ rfl]
      rfl
    · rw [State.get_congr (State.rd_put_other _ _ hreg), h]

/-- The mark of a layer that spans one output, whose one pass has started, is cleared. -/
theorem State.clearUpdate_lone (hs : t.spans [] n = [o]) (hp : t.passesOf o = [p]) (hr : p.running = true) :
    (State.clearUpdate n t).get (CMP_LYR_LIVE.UPDATE n) = 0 := by
  have hwaits : (t.spans [] n).any (fun q => (t.passesOf q).any (fun (x : Pass) => x.kind == .update && !x.running)) = false := by
    simp [hs, hp, hr]
  unfold State.clearUpdate
  simp only [hwaits, Bool.false_eq_true, if_false]
  rw [State.get_put_same _ _ _ rfl]
  rfl

theorem State.passOrder_lone (hc : p.commits = []) : s.passOrder [p] = [p] := by
  simp [State.passOrder, State.passTarget, hc]

/-- The marks of the layers of an output are looked at in turn: that of a layer which spans it alone, where one pass runs, is cleared. -/
theorem State.clearUpdates_lone (hn : n < 256) (hs : s.spans [] n = [o]) (hp : s.passesOf o = [p]) (hr : p.running = true)
    (hset : s.flag (CMP_LYR_LIVE.UPDATE n) = true) :
    (foldOver ((s.outLayers [] o).filter (fun n => s.flag (CMP_LYR_LIVE.UPDATE n))) State.clearUpdate s).get
      (CMP_LYR_LIVE.UPDATE n) = 0 := by
  have hpart : s.takesPart [] n o = true := (List.mem_filter.mp (hs ▸ List.mem_singleton_self o : o ∈ s.spans [] n)).2
  have hin : n ∈ (s.outLayers [] o).filter (fun n => s.flag (CMP_LYR_LIVE.UPDATE n)) :=
    List.mem_filter.mpr ⟨List.mem_filter.mpr ⟨List.mem_range.mpr hn, hpart⟩, hset⟩
  refine foldOver_establishes (R := Frame offLayout (fun _ => False)) (P := fun t => t.get (CMP_LYR_LIVE.UPDATE n) = 0) Frame.refl
    Frame.trans State.clearUpdate_frame (fun _ _ => State.clearUpdate_keeps _) hin (fun t ht => ?_)
  have hpasses : t.passesOf o = [p] := by rw [State.passesOf, ht.2 .cmp id, ← State.passesOf, hp]
  exact State.clearUpdate_lone ((ht.spans_eq id n).trans hs) hpasses hr

theorem State.clearUpdates_cmp (l : List Nat) : (foldOver l State.clearUpdate s).cmp = s.cmp :=
  foldOver_keeps State.cmp (fun m t => (State.clearUpdate_frame m t).2 .cmp id) s

/-- What a pass that starts does to each output that it forms: a new solve, and its copies are no longer complete. -/
def State.beginOutput (cs : List Nat) (f : Nat) (t : State) : State :=
  let u := t.solveOutput cs f
  if f < 16 then (u.put (PLN_OUT_STATUS.BACK_COMPLETE f) 0).put (PLN_OUT_STATUS.LEAD_VALID f) 0 else u

theorem State.beginOutputs_frame (cs l : List Nat) :
    Fr anyDram offMarks (fun k => k ≠ .act ∧ k ≠ .cmp) s (foldOver l (State.beginOutput cs) s) := by
  refine foldOver_frame _ _ (fun f t ht => ?_) (.start trivial)
  have hsolve := State.solveOutput_frame t cs f (ev_offMarks (by simp)) (offMarks_colStatus f) (by simp) ht
  unfold State.beginOutput
  dsimp only
  split
  · exact State.put_frame _ _ _ (offMarks_plnStatus f) (State.put_frame _ _ _ (offMarks_plnStatus f) hsolve)
  · exact hsolve

/-- A lone update pass starts: it runs, and the mark of a layer that spans its output alone is cleared. -/
theorem State.startPass_lone (hp : s.passesOf o = [p]) (hc : p.commits = []) (hk : p.kind = .update) (hn : n < 256)
    (hs : s.spans [] n = [o]) (hset : s.flag (CMP_LYR_LIVE.UPDATE n) = true) :
    (s.startPass o).get (CMP_LYR_LIVE.UPDATE n) = 0 ∧
      ∃ q, (s.startPass o).passesOf o = [q] ∧ q.kind = .update ∧ q.running = true ∧ q.started = s.now := by
  unfold State.startPass
  rw [hp, State.passOrder_lone hc]
  dsimp -zeta only
  extract_lets alone joins cs rest1 parts skip off q0 q s1 c s2 s3 s4 s5
  have hcs : cs = [] := hc
  have h2 : Fr anyDram offMarks (· ≠ .act) s s2 :=
    (Fr.setCmp (by simp)).mpr (State.setPasses_frame _ _ _ (by simp) (.start trivial))
  have h3 : Fr anyDram offMarks (fun k => k ≠ .act ∧ k ≠ .cmp) s2 s3 := State.beginOutputs_frame cs _
  have hq2 : s2.passesOf o = [q] := State.passesOf_setPasses (s := s) (o := o) (l := [q])
  have hq3 : s3.passesOf o = [q] := by rw [State.passesOf, h3.frame.2 .cmp (by simp), ← State.passesOf, hq2]
  have hmarks : Frame offMarks (· ≠ .act) s s3 := h2.frame.trans (h3.mono (fun _ => id) (fun _ hk => hk.1)).frame
  have hlayout : Frame offLayout (· ≠ .act) s s3 := ⟨fun a ha => hmarks.1 a fun h => ha h.1, hmarks.2⟩
  have hset3 : s3.flag (CMP_LYR_LIVE.UPDATE n) = true := (State.flag_congr (hmarks.1 (CMP_LYR_LIVE n) fun h => h.2 n rfl)).trans hset
  have hs4 : s4 = foldOver ((s3.outLayers [] o).filter (fun n => s3.flag (CMP_LYR_LIVE.UPDATE n))) State.clearUpdate s3 := by
    unfold s4
    rw [hcs]
    rfl
  have hs5 : s5 = s4 := if_neg (by simp [hk])
  have hrects : Fr anyDram (fun _ => False) (· = .int) s5 (s5.latchRects o) := State.latchRects_frame _ _ rfl (.start trivial)
  refine ⟨?_, q, ?_, hk, rfl, rfl⟩
  · rw [State.shown_update, hrects.get_eq id, hs5, hs4]
    exact State.clearUpdates_lone hn ((hlayout.spans_eq (by simp) n).trans hs) hq3 rfl hset3
  · rw [State.shown_passesOf, State.passesOf, hrects.frame.2 .cmp (by simp), hs5, hs4, State.clearUpdates_cmp]
    exact hq3

/-! ### LAYER_LIVE_WRITE and LAYER_UPDATE -/

theorem liveWrite_completes (live : Bool) (hl : s.live = true) (hi : s.cfg.safeIdle = false) (hn : n < 256) :
    Completes (exec (.layerLiveWrite dt n live) s) (fun t => t.get (CMP_LYR_LIVE.LIVE n) = boolNat live ∧ t.cmp = s.cmp) := by
  have hrun : doLayerLiveWrite dt n live s = (s.tick dt).putB (CMP_LYR_LIVE.LIVE n) live :=
    State.tick_onReachIf dt _ _ hl hi (decide_eq_true hn)
  refine ⟨_, rfl, ?_⟩
  rw [hrun]
  refine ⟨?_, rfl⟩
  rw [State.putB, State.get_put_same _ _ _ rfl]
  cases live <;> rfl

/-- A layer that spans one array output asks for a pass there. -/
theorem doLayerUpdate_one (hl : s.live = true) (hi : s.cfg.safeIdle = false) (hn : n < 256)
    (ho : (s.spans [] n).filter (fun o => decide (o < arrayOutputs)) = [o]) :
    doLayerUpdate dt n s = ((s.tick dt).put (CMP_LYR_LIVE.UPDATE n) 1).askPass .update [] o := by
  unfold doLayerUpdate
  rw [State.tick_onReachIf dt _ _ hl hi (decide_eq_true hn), show ((s.tick dt).spans [] n).filter _ = [o] from ho]
  rfl

theorem doLayerUpdate_none (ho : (s.spans [] n).filter (fun o => decide (o < arrayOutputs)) = []) : doLayerUpdate dt n s = s.tick dt := by
  unfold doLayerUpdate State.onReachIf State.onLiveIf
  have hos : ((s.tick dt).spans [] n).filter (fun o => decide (o < arrayOutputs)) = [] := ho
  simp only [hos, List.isEmpty_nil, if_true, ite_self]

/-- UPDATE stands while its pass waits behind one that forms. -/
theorem update_waits (hl : s.live = true) (hi : s.cfg.safeIdle = false) (hn : n < 256)
    (ho : (s.spans [] n).filter (fun o => decide (o < arrayOutputs)) = [o]) (hp : s.passesOf o = p :: rest) (hr : p.running = true)
    (hc : p.complete = false) (hq : ∀ q ∈ p :: rest, q.kind = .update → q.running = true) :
    Completes (exec (.layerUpdate dt n) s) (fun t => t.passesOf o = (p :: rest) ++ [updatePass (s.tick dt)] ∧
      t.get (CMP_LYR_LIVE.UPDATE n) = 1) := by
  let v := (s.tick dt).put (CMP_LYR_LIVE.UPDATE n) 1
  let w := v.setPasses o ((p :: rest) ++ [updatePass (s.tick dt)])
  have hv : v.passesOf o = p :: rest := hp
  have hpump : w.pump o = w := State.pump_running State.passesOf_setPasses hr (by simp [State.givesWay, hc])
  have hrun : doLayerUpdate dt n s = (w.showForming o).showDrift o := by
    rw [doLayerUpdate_one hl hi hn ho, State.askPass_eq (s := v) (by rwa [hv]), hv]
    exact congrArg (fun x : State => (x.showForming o).showDrift o) hpump
  refine ⟨_, rfl, ?_⟩
  rw [hrun]
  have hmark : v.get (CMP_LYR_LIVE.UPDATE n) = 1 := State.get_put_same _ _ _ rfl
  exact ⟨(State.shown_passesOf o o).trans State.passesOf_setPasses, (State.shown_update o n).trans (State.setPasses_get.trans hmark)⟩

/-- With nothing before it the pass starts, and UPDATE is cleared (R94, R136). -/
theorem update_starts (hl : s.live = true) (hi : s.cfg.safeIdle = false) (hn : n < 256)
    (ho : (s.spans [] n).filter (fun o => decide (o < arrayOutputs)) = [o]) (hs : s.spans [] n = [o]) (hp : s.passesOf o = [])
    (htail : s.tailOn o = false) (hshut : s.get THM_STATUS.STATE = 0) :
    Completes (exec (.layerUpdate dt n) s) (fun t => t.get (CMP_LYR_LIVE.UPDATE n) = 0 ∧
      ∃ p, t.passesOf o = [p] ∧ p.kind = .update ∧ p.running = true ∧ p.started = s.now + dt) := by
  let v := (s.tick dt).put (CMP_LYR_LIVE.UPDATE n) 1
  let w := v.setPasses o [updatePass (s.tick dt)]
  have hv : v.passesOf o = [] := hp
  have hframe : Fr anyDram offLayout (· = .cmp) (s.tick dt) w :=
    State.setPasses_frame _ _ _ rfl (State.put_frame _ _ _ (offLayout_live n) (.start trivial))
  have hw : w.passesOf o = [updatePass (s.tick dt)] := State.passesOf_setPasses
  have hwtail : w.tailOn o = false := by
    rw [State.tailOn, State.withFollowers_congr (s := s) (fun f _ => hframe.rd_eq fun h => (h.2 f).2.2.1 rfl)]
    exact htail
  have hwshut : w.get THM_STATUS.STATE = 0 := by
    have hne : THM_STATUS ≠ CMP_LYR_LIVE n := by
      unfold CMP_LYR_LIVE THM_STATUS
      rw [if_pos hn]
      omega
    exact State.setPasses_get.trans ((State.get_congr (State.rd_put_other _ _ hne)).trans hshut)
  have hpump : w.pump o = w.startPass o := by
    unfold State.pump
    rw [hw]
    simp [hwtail, hwshut, updatePass, Pass.unstarted]
  have hrun : doLayerUpdate dt n s = ((w.startPass o).showForming o).showDrift o := by
    rw [doLayerUpdate_one hl hi hn ho, State.askPass_eq (s := v) (by simp [hv]), hv]
    exact congrArg (fun x : State => (x.showForming o).showDrift o) hpump
  have hspans : w.spans [] n = [o] := (hframe.frame.spans_eq (by simp) n).trans hs
  have hset : w.flag (CMP_LYR_LIVE.UPDATE n) = true := by
    have hmark : v.get (CMP_LYR_LIVE.UPDATE n) = 1 := State.get_put_same _ _ _ rfl
    rw [State.flag, State.setPasses_get, hmark]
    rfl
  obtain ⟨hcleared, q, hq, hkind, hqrun, hstart⟩ := State.startPass_lone hw rfl rfl hn hspans hset
  refine ⟨_, rfl, ?_⟩
  rw [hrun]
  exact ⟨(State.shown_update o n).trans hcleared, q, (State.shown_passesOf o o).trans hq, hkind, hqrun, hstart⟩

/-- Settles O37: UPDATE's pass waits behind one that forms; alone it starts, and clears the mark of the layer whose one output it forms. -/
theorem liveAndUpdatedLayers : Obligations.LiveAndUpdatedLayers :=
  ⟨fun _ _ live _ hl hi hn => liveWrite_completes live hl hi hn,
    fun _ _ _ _ _ _ hl hi hn ho hp hr hc hq => update_waits hl hi hn ho hp hr hc hq,
    fun _ _ _ _ hl hi hn ho hs hp htail hshut => update_starts hl hi hn ho hs hp htail hshut,
    fun _ _ _ _ _ ho => ⟨_, rfl, doLayerUpdate_none ho⟩⟩

end Sys2Proof.Machine
end

section
/-! A lost read of a table load shows the pending commits anew (R98, R115), where O39 lets every register stand. -/
namespace Sys2Proof.Machine

variable {s : State} {c dt kind i : Nat} {k : TableKind} {l : LoadSt} {x : CommitSt}

/-- The first loss of a read marks the load alone (R115). -/
theorem doTableLoadDone_first_loss (hl : s.live = true) (hc : s.lan.coreStopped = false) (hk : tableKindOf kind = some k)
    (hfind : s.cmp.loads.find? (fun l => decide (l.kind = k) && l.index == i && !l.build && !l.loaded && !l.waits) = some l)
    (hr : l.retried = false) :
    doTableLoadDone dt kind i true s = (s.tick dt).mapLoad k i false (fun x => { x with retried := true }) := by
  unfold doTableLoadDone
  simp only [hk, State.tick_cmp, hfind]
  rw [State.onCore_eq (s.tick dt) _ hl hc]
  simp [hr]

/-- The one pending commit shows its cause. -/
theorem State.showCommits_single (hl : s.live = true) (h : s.hif.commits = [(c, x)]) :
    s.showCommits = s.put (cmCause c) (s.cause c s.nextLfn) := by
  simp [State.showCommits, hl, h, tkeys, foldOver]

/-- In a shutdown a commit that is not admitted waits for start-up (R385). -/
theorem State.cause_of_shutdown {lfn : Nat} (hx : s.cm c = some x) (ha : x.admitted = false) (ht : s.get THM_STATUS.STATE ≠ 0) :
    s.cause c lfn = nrStartup := by
  have hlocal : s.localCause c = nrStartup := by simp [State.localCause, ht]
  simp [State.cause, hx, ha, hlocal]

/-- A shutdown has begun while the PF's commit waits for the mesh of output 0: NR_CAUSE still shows TABLES. -/
def loadInShutdown : State :=
  let s := ((State.reset.put HIF_STATUS.STARTUP_DONE 1).put THM_STATUS.STATE 1).put (cmCause pfCommit) nrTables
  { s with
    glb := { s.glb with
      held := false
      inReset := false
      pwrOk := true }
    hif := { s.hif with commits := [(pfCommit, ⟨false, false, 0, none, []⟩)] }
    cmp := { s.cmp with loads := [⟨.mesh, 0, false, false, false, false, false⟩] } }

theorem loadInShutdown_conditions : loadInShutdown.live = true ∧ loadInShutdown.lan.coreStopped = false ∧
    loadInShutdown.cmp.loads.find? (fun l => decide (l.kind = .mesh) && l.index == 0 && !l.build && !l.loaded && !l.waits) =
      some ⟨.mesh, 0, false, false, false, false, false⟩ ∧
    loadInShutdown.get THM_STATUS.STATE ≠ 0 ∧ loadInShutdown.get (cmCause pfCommit) = nrTables := by decide

/-- Refutes O39: its clause on the first loss of a read lets every register stand, and TABLE_LOAD_DONE shows NR_CAUSE of the pending
commits as conditions stand (R98): in `loadInShutdown` it goes from TABLES to STARTUP. -/
theorem not_tableLoadsFillTheBackCopyOrFail : ¬ Obligations.TableLoadsFillTheBackCopyOrFail := by
  unfold Obligations.TableLoadsFillTheBackCopyOrFail
  rintro ⟨-, hlost, -⟩
  obtain ⟨hl, hc, hfind, hshut, htables⟩ := loadInShutdown_conditions
  obtain ⟨t, hnext, hkept, -⟩ := hlost 0 0 0 .mesh _ loadInShutdown hl hc rfl hfind rfl
  let u := (loadInShutdown.tick 0).mapLoad .mesh 0 false (fun x => { x with retried := true })
  have hrun : t = u.showCommits := by
    rw [← Host.Outcome.next.inj hnext, doTableLoadDone_first_loss hl hc rfl hfind rfl]
  have hcause : t.get (cmCause pfCommit) = nrStartup := by
    rw [hrun, State.showCommits_single (s := u) hl rfl, State.get_put_same _ _ _ rfl,
      State.cause_of_shutdown (s := u) rfl rfl hshut]
    rfl
  rw [State.get_congr (hkept _), htables] at hcause
  exact absurd hcause (by decide)

end Sys2Proof.Machine
end
